-- ==== Sys2Proof/Word.lean ====
section
/-! DEFINITION. The word types of the block and the plain arithmetic of bit fields.  Registers are 64 bits (R458); a
stored byte is 8 bits; a control-store microword is 192 bits (R180). -/

namespace Sys2Proof

/-- A BAR0 register. -/
abbrev Word64 := BitVec 64

/-- A byte of a frame, of a cell, of DRAM or of host memory. -/
abbrev Byte := BitVec 8

/-- A microword of the control store (R180). -/
abbrev Microword := BitVec 192

/-- A bit field of a register: its lowest bit and its width. -/
structure Fld where
  lo : Nat
  len : Nat
  deriving DecidableEq, Repr

/-- The field's bits of a 64-bit word, as a number. -/
def Word64.get (w : Word64) (f : Fld) : Nat :=
  (w.toNat >>> f.lo) % 2 ^ f.len

/-- A mask of ones over the field. -/
def Fld.mask (f : Fld) : Word64 :=
  BitVec.ofNat 64 ((2 ^ f.len - 1) <<< f.lo)

/-- The word with the field's bits replaced by the low bits of `x`. -/
def Word64.put (w : Word64) (f : Fld) (x : Nat) : Word64 :=
  (w &&& ~~~ f.mask) ||| BitVec.ofNat 64 ((x % 2 ^ f.len) <<< f.lo)

end Sys2Proof
end

