-- ==== Sys2Proof/Syntax.lean ====
section
/-! DEFINITION. The commands of the block: one constructor for each row of the spec's table of operations and events,
with the row's operands.  An operand is what the sender chooses (an address, a written value, an index) or what the
world outside the block supplies (received bytes, a partner's answer, a sensor's reading, the outcome of an ECC check).
Where an operand is a pair, its second part is what the storage that the command reads for it meets. -/

namespace Sys2Proof

/-- What the ECC of a storage word reports when it is read. -/
inductive Ecc where
  | ok | corrected | uncorrectable
  deriving DecidableEq, Repr

/-- What reading a frame's cells meets (R294): nothing, corrected words, an uncorrectable error in the `i`-th cell of the
frame, or in the link-table entry of its `i`-th cell. -/
inductive CellEcc where
  | ok
  | corrected (n : Nat)
  | cellUe (i : Nat)
  | linkUe (i : Nat)
  deriving DecidableEq, Repr

/-- What the PCS reports of a received stretch (R41, R50): the codeword-alignment delay it measured, in 2^-32 ns, its
corrected and uncorrected codewords and corrected symbols, and a PCS error. -/
structure PhyReport where
  delay : Nat
  corrected : Nat
  uncorrected : Nat
  symbols : Nat
  pcsErr : Bool
  deriving DecidableEq, Repr


/-- What the checks of a search meet (R99 to R102): nothing; array bits that make entry `i` match falsely or not match;
a corrected result; an unverifiable winner. -/
inductive TmbCheck where
  | ok
  | falseHit (i : Nat)
  | hidden (i : Nat)
  | resultCorrected
  | unverifiable
  deriving DecidableEq, Repr

/-- What the Tumbler scrubber finds in a row (R102). -/
inductive TmbScrub where
  | same | differs | parity
  deriving DecidableEq, Repr

/-- What issuing a microword meets (R179, R207): nothing, a corrected or an uncorrectable control-store error, or a parity error
in the thread's storage. -/
inductive McCheck where
  | ok | corrected | uncorrectable | parity
  deriving DecidableEq, Repr

/-- An entry of the image's TUMBLER section, as the loader reads it (the section's bytes have no stated layout, R335). -/
structure TmbLoad where
  quad : Nat
  table : Nat
  index : Nat
  key : BitVec 320
  mask : BitVec 320
  prio : Nat
  result : Word64
  deriving DecidableEq, Repr

/-- A 128-bit or 256-bit entry, or a bitmap, of a table of the image, by quadrant and index. -/
structure TableLoad where
  quad : Nat
  index : Nat
  words : List Word64
  deriving DecidableEq, Repr

/-- The gate control list of a logical port in the image: its entries as GCL_DATA words. -/
structure GateLoad where
  port : Nat
  entries : List Word64
  deriving DecidableEq, Repr

/-- The standard flow programs (R214). -/
inductive StdProg where
  | count | filter | filterMetered | balance | balanceReturn | translateIn | translateOut | age
  deriving DecidableEq, Repr

/-- What Rafin counted for an entry point (R209, R335). -/
structure CountLoad where
  entry : Nat
  n : Nat
  e : Nat
  s : Nat
  x : Nat
  l : Nat
  /-- The standard program at the entry point; `none` for a program of the user's own. -/
  std : Option StdProg
  deriving DecidableEq, Repr

/-- The exporter's settings of the image (R247). -/
structure ExporterCfg where
  wire : Bool
  hostQueue : Nat
  mtu : Nat
  refreshS : Nat
  domain : Nat
  ringEntries : Nat
  collector : Nat
  collectorPort : Nat
  source : Nat
  egress : Nat
  qclass : Nat
  /-- The image's Ethernet header of WIRE mode. -/
  header : List Byte
  deriving DecidableEq, Repr

/-- The contents of the image's table sections whose byte layout the spec does not state (R335): TUMBLER, MAC_STATIC, NEXT_HOP,
MC_GROUPS, GATE_LISTS, COUNTS, EXPORTER, and the version of MICROCODE. -/
structure ImageTables where
  tmb : List TmbLoad
  macs : List TableLoad
  nextHops : List TableLoad
  groups : List TableLoad
  gates : List GateLoad
  counts : List CountLoad
  exporter : Option ExporterCfg
  mcVersion : Nat
  mcPatch : Nat
  deriving DecidableEq, Repr

/-- A credit link (R20), by the indices of its ends. -/
inductive LinkId where
  | ingress (p : Fin 512)
  | dispatch (i : Fin 16) (h : Fin 16)
  | ready (h : Fin 16)
  | record (h : Fin 16)
  | miss (h : Fin 16)
  | fill (h : Fin 16)
  /-- Producer `i`: shards 0 to 15, slices 16 to 31; consumer: the TM of quadrant `q`. -/
  | release (i : Fin 32) (q : Fin 4)
  | egress (p : Fin 512) (c : Fin 8)
  | pool (p : Fin 4)
  deriving DecidableEq, Repr

/-- What R416 compares, as the partner has it: FAE.MC_DIGEST, KEY_CHECK, BUCKET_BITS, the CRC-64 of its TWN tables, SIDE. -/
structure TwinPair where
  digest : Word64
  keyCheck : BitVec 32
  bucketBits : Nat
  tables : Word64
  side : Bool
  deriving DecidableEq, Repr

/-- A write of a control complex, by the path that its Hasp stage filters (R408). -/
inductive CcWrite where
  /-- A register write: BAR0 offset and word. -/
  | register (a : Nat) (v : Word64)
  /-- A write on XSPI_IMG: byte address and bytes. -/
  | image (a : Nat) (bytes : List Byte)
  /-- A write on XSPI_JNL. -/
  | journal
  /-- A DMA, ring or status-mirror command: bytes to a host address. -/
  | host (a : Nat) (bytes : List Byte)
  deriving DecidableEq, Repr

/-- A command (spec/opcode_table.json): the rows with operands in the table's order, then the rows without. -/
inductive Instr where
  /-- REGISTER_WRITE (R458): A valid host BAR0 write to a register that has no row of its own stores its fields according to their access types. `a`: BAR0 byte offset; `ws`: words for consecutive registers. -/
  | registerWrite (a : Fin 268435456) (ws : List Word64)
  /-- BAD_ACCESS (R459): A BAR0 access with bad size, alignment or byte enables is discarded or read as 0xFF and latched in GLB.BAD_LAST. `len`: bytes; `enables`: every byte enable is set. -/
  | badAccess (write : Bool) (a len : Nat) (enables : Bool)
  /-- ACCESS_DOMAIN_NOT_ON (R461): A BAR0 access to a block whose register domain is SWITCHING or OFF reads 0 or is discarded, and is counted in GLB.BAD_ACCESS. `len`: bytes. -/
  | accessDomainNotOn (write : Bool) (a : Fin 268435456) (len : Nat)
  /-- COMPLEX_WRITE (R408): A write issued by a control complex passes the Hasp stage of its path and is accepted only under the higher claim. `x`: the complex. -/
  | complexWrite (x : Fin 2) (w : CcWrite)
  /-- RC_HIGH_WATER_READ (R147): A read of HNK.ENTRY_STATUS returns HIGH_WATER and then clears it. -/
  | rcHighWaterRead (h : Fin 16)
  /-- SCH_HIGH_READ (R173): A read of SCH.HIGH returns REORDER_HIGH and READY_HIGH and then clears them. -/
  | schHighRead (h : Fin 16)
  /-- TMG_DESC_READ (R314): A read of TMG.DESC returns HIGH and then clears it. -/
  | tmgDescRead (q : Fin 4)
  /-- POOL_STATUS_READ (R288): A read of BPM.POOL_STATUS returns LOW_WATER and then clears it. -/
  | poolStatusRead (p : Fin 4)
  /-- GAUGE_MAX_READ (R326): A read of TMG.GAUGE_MAX returns DEPTH_MAX and SOJOURN_MAX and then clears them. -/
  | gaugeMaxRead (q : Fin 4) (u : Fin 656)
  /-- PRT_CNT_CLR (R64): A write of CNT_CLR0 or CNT_CLR1 clears the PRT counters of that half of the port macro. `n`: the macro; `h`: CNT_CLR0 or CNT_CLR1. -/
  | prtCntClr (n : Fin 256) (h : Fin 2)
  /-- SLC_CNT_CLR (R90): A write of SLC.CTL.CNT_CLR clears the slice counters and the policer counters. -/
  | slcCntClr (i : Fin 16)
  /-- MAC_CNT_CLR (R90): A write of SLC.CTL.MAC_CNT_CLR clears SLC.MAC_CNT. -/
  | macCntClr (q : Fin 4)
  /-- TMB_CNT_CLR (R112): A write of TMB.CTL.CNT_CLR clears TMB.CNT. -/
  | tmbCntClr (q : Fin 4)
  /-- HNK_CNT_CLR (R147): A write of HNK.CTL.CNT_CLR clears HNK.CNT. -/
  | hnkCntClr (h : Fin 16)
  /-- SCH_CNT_CLR (R173): A write of SCH.CTL.CNT_CLR clears SCH.CNT. -/
  | schCntClr (h : Fin 16)
  /-- FAE_CNT_CLR (R211): A write of FAE.CTL.CNT_CLR clears FAE.CNT. -/
  | faeCntClr (h : Fin 16)
  /-- PCNT_CLR (R211): A write of FAE.CTL.PCNT_CLR clears the program counters FAE.PCNT. -/
  | pcntClr (h : Fin 16)
  /-- WRD_CNT_CLR (R213): A write of WRD.CTL.CNT_CLR clears WRD.CNT. -/
  | wrdCntClr (h : Fin 16)
  /-- DMC_CNT_CLR (R276): A write of DMC.CTL.CNT_CLR clears DMC.CNT. -/
  | dmcCntClr (c : Fin 12)
  /-- TMG_CNT_CLR (R314): A write of TMG.CTL.CNT_CLR clears TMG.CNT, PORT_CNT and the queue counters. -/
  | tmgCntClr (q : Fin 4)
  /-- SCH_CTL_CNT_CLR (R331): A write of TMG.SCH_CTL.CNT_CLR clears TMG.SCH_CNT and every GAUGE_SUM. -/
  | schCtlCntClr (q : Fin 4)
  /-- MODE_WRITE (R39): A write of PRT.CTL.MODE takes effect only while the port's ENABLE bits are 0 and the shapers fit, and otherwise is discarded with CFG_ERR. `n`: the macro; `m`: the MODE written. -/
  | modeWrite (n : Fin 256) (m : Fin 8)
  /-- PORT_DISABLE (R39): Clearing an ENABLE bit stops reception after the frame in progress, stops TM selection and idles the transmitter after its frame. `p`: logical port 2n + h. -/
  | portDisable (p : Fin 512)
  /-- PORT_ENABLE (R39): Setting an ENABLE bit lets the port receive, and lets the frames held in its egress FIFOs be sent. `p`: logical port 2n + h. -/
  | portEnable (p : Fin 512)
  /-- TXTS_POP (R61): A write of TXTS_CTL.POP removes the head entry of the port's transmit time-stamp FIFO. -/
  | txtsPop (p : Fin 512)
  /-- TXTS_FLUSH (R61): A write of TXTS_CTL.FLUSH empties the port's transmit time-stamp FIFO. -/
  | txtsFlush (p : Fin 512)
  /-- AUTO_NEGOTIATION (R42): Clause 73 auto-negotiation advertises only the configured mode and either completes or fails with AN_FAIL. `accepted`: the partner's answer. -/
  | autoNegotiation (n : Fin 256) (accepted : Bool)
  /-- LINK_TRAINING (R40): Link training per the mode's IEEE clause overrides the transmit presets and completes with LT_DONE. `complete`: all lanes in use have trained. -/
  | linkTraining (n : Fin 256) (complete : Bool)
  /-- LINK_DOWN (R44): On link loss the frame being received is cut off, frames in transmission and in the egress slice are sent in full, and the TM stops selecting the port. `remote`: by a remote fault. -/
  | linkDown (p : Fin 512) (remote : Bool)
  /-- LINK_UP (R44): When the link comes up the TM resumes selecting the port's queues. -/
  | linkUp (p : Fin 512)
  /-- RX_FRAME (R43): The MAC receives a frame into the ingress FIFO, time-stamps it at its start and checks it at its end. The next stretch of bytes of the frame in reception, or the first of a new frame; `last` with its last byte. -/
  | rxFrame (p : Fin 512) (bytes : List Byte) (last : Bool) (phy : PhyReport)
  /-- FLOW_CONTROL_FRAME_SEND (R46): A pending pause or PFC frame is sent at the next frame boundary of the transmitter, ahead of all queued frames. -/
  | flowControlFrameSend (p : Fin 512)
  /-- PAUSE_REFRESH (R46): While occupancy stays at or above XON the port repeats its pause frame every REFRESH quanta. -/
  | pauseRefresh (p : Fin 512)
  /-- PAUSE_STOP_START (R48): A received pause with non-zero quanta starts its stop at the first frame boundary after 1,024 bit-times. `i`: the priority, 8 for the port's PAUSE. -/
  | pauseStopStart (p : Fin 512) (i : Fin 9)
  /-- PAUSE_STOP_END (R48): A pause or PFC stop ends when its quanta × 512 bit-times run out. `i`: the priority, 8 for the port's PAUSE. -/
  | pauseStopEnd (p : Fin 512) (i : Fin 9)
  /-- CELL_CHECK (R292): As a frame's first byte leaves the ingress FIFO the slice starts it in cells only if FREE is at least ING_GUARD, and otherwise refuses it. -/
  | cellCheck (p : Fin 512)
  /-- CELL_CACHE_REFILL (R292): A slice refills its cache of up to 64 free cells from the device free list. `i`: the slice. -/
  | cellCacheRefill (i : Fin 16)
  /-- PARSE_FRAME (R66): A parse lane parses a frame once its first 192 bytes, or the whole frame, have arrived, and builds the header vector and parse summary. -/
  | parseFrame (p : Fin 512)
  /-- FRAME_END (R66): At a frame's end and good FCS the slice meters it, learns its source address, stamps its generation and hands it to the flow path or the per-packet path. -/
  | frameEnd (p : Fin 512)
  /-- WORK_ITEM_SEND (R77): The slice sends a frame's work item to its home shard when it holds Dispatch credit, or applies the class fallback when the shard is fenced. -/
  | workItemSend (p : Fin 512)
  /-- PERPKT_FORWARD (R80): A per-packet frame is routed by Tumbler searches or bridged by the MAC table, and its descriptor is handed to the egress TM. -/
  | perpktForward (p : Fin 512)
  /-- LEARNER_APPLY (R85): A learner applies one learn event to its MAC table: a new entry, a refresh, a move, or a blocked or locked move. `q`: the quadrant. -/
  | learnerApply (q : Fin 4)
  /-- WALKER_VISIT (R86): The walker visits one bucket every 16 cycles, clearing moves and expired locks and aging entries. `q`: the quadrant. -/
  | walkerVisit (q : Fin 4)
  /-- MAC_READ (R87): MAC_CMD READ loads the entry at INDEX into MAC_DATA0 and MAC_DATA1. `index`: bucket × 8 + way. -/
  | macRead (q : Fin 4) (index : Fin 524288)
  /-- MAC_WRITE (R87): MAC_CMD WRITE stores MAC_DATA0 and MAC_DATA1 at INDEX unless it would duplicate a valid entry. `index`: bucket × 8 + way. -/
  | macWrite (q : Fin 4) (index : Fin 524288)
  /-- MAC_SEARCH (R87): MAC_CMD SEARCH looks up the BD and MAC in MAC_DATA0 and returns the entry and its index. The BD and MAC stand in MAC_DATA0. -/
  | macSearch (q : Fin 4)
  /-- MAC_FLUSH (R87): MAC_CMD FLUSH removes the non-static entries that match FILTER over one walker pass. -/
  | macFlush (q : Fin 4) (filter : Fin 4) (port : Fin 512) (bd : Fin 4096)
  /-- TUMBLER_SEARCH (R97): A granted Tumbler search returns MISS, FENCED or a verified hit with its index and result 12 cycles after the grant. `q`: quadrant; `c`: what the checks meet. -/
  | tumblerSearch (q : Fin 4) (c : TmbCheck)
  /-- TUMBLER_SCRUB_ROW (R102): The Tumbler scrubber compares one row with its shadow every 64 cycles and rewrites a differing row. `e`: what the row shows against its shadow. -/
  | tumblerScrubRow (q : Fin 4) (e : TmbScrub)
  /-- ENT_READ (R111): ENT_CMD READ returns an entry's key, mask, priority, result and metadata. `t`: TABLE; `i`: INDEX. -/
  | entRead (q : Fin 4) (t : Fin 16) (i : Fin 262144)
  /-- ENT_INSERT (R108): ENT_CMD INSERT checks the new entry and places it at position P in the pending generation, by a block move when needed. `t`: TABLE; `i`: the position P, INDEX. -/
  | entInsert (q : Fin 4) (t : Fin 16) (i : Fin 262144)
  /-- TMB_MOVE_STEP (R110): One block-move step copies one entry into the free location and then clears VALID at the old location. -/
  | tmbMoveStep (q : Fin 4)
  /-- TMB_INSERT_WRITE (R111): The final write of an INSERT stores the new entry with only the pending generation bit set and ends the command. -/
  | tmbInsertWrite (q : Fin 4)
  /-- ENT_DELETE (R105): ENT_CMD DELETE clears the pending generation bit of an entry visible in the pending generation. `t`: TABLE; `i`: INDEX. -/
  | entDelete (q : Fin 4) (t : Fin 16) (i : Fin 262144)
  /-- ENT_REPAIR (R101): ENT_CMD REPAIR writes key, mask, priority and result in place and clears DISABLED. `t`: TABLE; `i`: INDEX. -/
  | entRepair (q : Fin 4) (t : Fin 16) (i : Fin 262144)
  /-- GENERATION_RETIRE (R107): A draining slot whose drain count reaches zero has its bit cleared in every entry, freeing entries whose mask becomes zero. `i`: the slot. -/
  | generationRetire (i : Fin 4)
  /-- GENERATION_RETIRE_DONE (R107): At the end of the retirement sweep the slot becomes free. `i`: the slot. -/
  | generationRetireDone (i : Fin 4)
  /-- REC_READ_LOOKUP (R130): The shard's record port serves a record read: hot-tier hit, wait behind a hold or fetch, eviction-buffer reclaim, or miss. `es`: what the bank reads meet, in order. -/
  | recReadLookup (h : Fin 16) (es : List Ecc)
  /-- HANK_FETCH (R131): A fetch under the bucket interlock searches the stash directory, the preferred slot and displaced slots for the record. `i`: record entry; `es`: what the slot reads meet, in order, no error past the list's end. -/
  | hankFetch (h : Fin 16) (i : Nat) (es : List Ecc)
  /-- FETCH_DELIVER (R133): A completed fetch delivers FOUND, CREATED, ABSENT or TABLE_FULL to its record entry's queue. `i`: record entry. -/
  | fetchDeliver (h : Fin 16) (i : Nat)
  /-- FILL_INSTALL (R126): A found or created record is placed in a way or aligned pair chosen by the clock, waiting and retrying when no victim exists. `i`: record entry. -/
  | fillInstall (h : Fin 16) (i : Nat × List Ecc)
  /-- EVB_WRITE_ACCEPT (R136): When the DMC accepts an eviction-buffer record's DRAM write-back the entry leaves the buffer and the record is clean. -/
  | evbWriteAccept (h : Fin 16 × Ecc)
  /-- HOLD_END (R135): The end of a record hold hands the record to the first queued item, which then enters the resume queue. `i`: record entry; `e`: what the bank read meets. -/
  | holdEnd (h : Fin 16) (i : Nat) (es : List Ecc)
  /-- SWEEP_PASS_START (R140): A sweeper pass begins over the hot-tier ways, the bucket slots and the stash. -/
  | sweepPassStart (h : Fin 16)
  /-- SWEEP_HOT_VISIT (R140): The sweeper's hot-tier cursor visits one way in an idle bank cycle, aging the record and clearing stale FWD_VALID. `e`: what reading the way meets. -/
  | sweepHotVisit (h : Fin 16) (e : Ecc)
  /-- SWEEP_DRAM_VISIT (R140): The sweeper's DRAM cursor visits one slot under the bucket interlock, aging a non-resident record. `e`, `e2`: what reading the slot and the tail of a long record meets. -/
  | sweepDramVisit (h : Fin 16) (e e2 : Ecc)
  /-- SWEEP_PASS_END (R140): A pass ends when both cursors have covered their ranges and the pass duration is reported. -/
  | sweepPassEnd (h : Fin 16)
  /-- SWEEP_PERIOD_EXPIRY (R140): Each SWEEP_PERIOD_MS makes the next pass an aging pass in sweeper mode. -/
  | sweepPeriodExpiry (h : Fin 16)
  /-- AGING_ITEM_ENTER (R141): For an aged record of an AGE_NOTIFY class the sweeper enters an aging work item through its one-item input when it is free. -/
  | agingItemEnter (h : Fin 16)
  /-- REC_LOOKUP (R145): REC_CMD LOOKUP finds the record of REC_KEY behind holds and returns it with its location. `cls`: CLASS. -/
  | recLookup (h : Fin 16) (cls : Fin 64)
  /-- READ_LOC (R145): REC_CMD READ_LOC returns the DRAM slot at LOC without a hold. `loc`, `stash`: LOC and STASH; `e`: what the DRAM read meets. -/
  | readLoc (h : Fin 16) (loc : Fin 67108864) (stash : Bool) (e : Ecc)
  /-- REC_WRITE (R145): REC_CMD WRITE creates or replaces the record of REC_KEY with REC_DATA. `cls`: CLASS. -/
  | recWrite (h : Fin 16) (cls : Fin 64)
  /-- REC_DELETE (R145): REC_CMD DELETE deletes the record of REC_KEY. `cls`: CLASS. -/
  | recDelete (h : Fin 16) (cls : Fin 64)
  /-- FLUSH_ONE (R145): REC_CMD FLUSH_ONE writes back a resident dirty record of REC_KEY without evicting it. `cls`: CLASS. -/
  | flushOne (h : Fin 16) (cls : Fin 64)
  /-- HNK_FLUSH (R145): HNK.CTL.FLUSH writes back every record dirty at its start, keeping FLUSH_BUSY until the last write is accepted. -/
  | hnkFlush (h : Fin 16)
  /-- SEQUENCER_TAKE (R153): The sequencer takes an input head when ready-list, reorder and window room exist, assigning its sequence number and deadline. -/
  | sequencerTake (h : Fin 16)
  /-- DISPATCH (R161): The scheduler dispatches the earliest-deadline item of the ready list or resume queue to an idle thread. `e`: what loading a park buffer meets. -/
  | dispatch (h : Fin 16) (e : Ecc)
  /-- ITEM_EXPIRY (R157): An incomplete item whose deadline passes is removed or aborted where it stands and given disposition DEADLINE. -/
  | itemExpiry (h : Fin 16)
  /-- PARK_RETRY (R164): A thread stalled on POOL_EMPTY retries its park-buffer allocation every 64 cycles. `t`: thread 16E + T. -/
  | parkRetry (h : Fin 16) (t : Fin 512)
  /-- RESUME_ENTER (R163): A parked item enters the resume queue when its outcome is delivered or the hold ahead of it ends and a place is free. -/
  | resumeEnter (h : Fin 16)
  /-- ITEM_RELEASE (R168): The release unit releases the complete head of an order group in sequence and applies its disposition. -/
  | itemRelease (h : Fin 16)
  /-- FALLBACK_ROUTE (R167): The shard's fallback unit routes a FORWARD_FALLBACK, TABLE_FULL or DEADLINE item by Tumbler searches. -/
  | fallbackRoute (h : Fin 16)
  /-- GRP_READ (R173): SCH.GRP_CMD READ loads SCH.GRP_DATA with the state of one order group. -/
  | grpRead (h : Fin 16) (g : Fin 65536)
  /-- MICROWORD_ISSUE (R181): A READY thread issues one microword whose unit operations all read at issue and write on completion. `t`: thread 16E + T; `c`: what the issue meets. -/
  | microwordIssue (h : Fin 16) (t : Fin 512) (c : McCheck)
  /-- REC_READ_DONE (R188): A record read completes with the record in RB0–RB15 and its outcome in the REC status, making the thread READY. -/
  | recReadDone (h : Fin 16) (t : Fin 512)
  /-- AUX_ACCESS_DONE (R190): The DMC answers an LDX or CASX and the stalled thread becomes READY. -/
  | auxAccessDone (h : Fin 16) (t : Fin 512)
  /-- LOCK_GRANT (R192): A queued thread is granted the lock it waited for and becomes READY. -/
  | lockGrant (h : Fin 16) (l : Fin 4096)
  /-- TIMER_FIRE (R197): A thread's armed timer fires in the first tick with MONO at or beyond its compare, waking a waiting thread with TIMER. -/
  | timerFire (h : Fin 16) (t : Fin 512)
  /-- EVENT_WAKE (R198): A change of the watched event counter wakes a thread in WAIT with status EVENT. -/
  | eventWake (h : Fin 16) (t : Fin 512)
  /-- DEADLOCK_BREAK (R204): After 4,096 cycles with all 16 threads waiting, Ward aborts the earliest-deadline item and wakes the others with DEADLOCK_BROKEN. -/
  | deadlockBreak (h : Fin 16) (e : Fin 32)
  /-- HALT (R205): DBG_CMD HALT halts the named thread at its next boundary. -/
  | halt (h : Fin 16) (t : Fin 512)
  /-- RESUME (R205): DBG_CMD RESUME ends a halt, extending held deadlines when HOLD_DEADLINES is set. -/
  | resume (h : Fin 16) (t : Fin 512)
  /-- STEP (R205): DBG_CMD STEP issues one microword and halts at the next boundary. `c`: what the issue of the microword meets. -/
  | step (h : Fin 16) (t : Fin 512) (c : McCheck)
  /-- DEBUG_ABORT (R205): DBG_CMD ABORT ends the halted thread's item with DEADLINE and reason DEBUG. -/
  | debugAbort (h : Fin 16) (t : Fin 512)
  /-- READ_CTX (R205): DBG_CMD READ_CTX loads FAE.DBG_STATE and DBG_G from the halted thread. -/
  | readCtx (h : Fin 16) (t : Fin 512)
  /-- WRITE_G (R205): DBG_CMD WRITE_G writes DBG_DATA into a register of the halted thread. `g`: GREG. -/
  | writeG (h : Fin 16) (t : Fin 512) (g : Fin 16)
  /-- MC_SCRUB (R207): The control-store scrubber reads one microword every 1,024 cycles, correcting single-bit errors. `e`: what the read meets. -/
  | mcScrub (h : Fin 16) (e : Ecc)
  /-- LOCK_READ (R213): WRD.LOCK_CMD READ loads WRD.LOCK_DATA with the state of one lock. -/
  | lockRead (h : Fin 16) (l : Fin 4096)
  /-- EV_ADD (R194): WRD.EV_ADD.GO adds AMOUNT to an event counter and wakes its waiters. `m`, `n`: INDEX and AMOUNT. -/
  | evAdd (h : Fin 16) (m : Fin 1024) (n : Fin 4294967296)
  /-- EXPORTER_READ_ENTRY (R245): The exporter reads the next ring entry and emits it when E0 and E15 hold the expected sequence number. `e0`, `e1`: outcomes of the slot's lines, `e2` of a backend's. -/
  | exporterReadEntry (h : Fin 16) (e0 e1 e2 : Ecc)
  /-- SKIPPED (R245): After waiting 10 µs for an unwritten slot behind the counter, the exporter skips it. `h`: the shard. -/
  | skipped (h : Fin 16)
  /-- IPFIX_MESSAGE_SEND (R246): The exporter sends an IPFIX message built in a pool-2 buffer to the host or the wire. `w0`, `w1`: the host's words of the receive descriptor at HEAD. -/
  | ipfixMessageSend (w0 w1 : Word64)
  /-- DMC_REQUEST_ACCEPT (R258): A subchannel accepts foreground or background requests into its read or write queue, forwarding and coalescing per line. `c`: channel; `k`: subchannel, 0 for A. -/
  | dmcRequestAccept (c : Fin 12) (k : Fin 2)
  /-- DMC_READ_DONE (R268): A DRAM read completes, correcting a correctable error or answering an uncorrectable one as lost. `i`: place in the read queue, the first of its bank's list; `e`: what the code reports. -/
  | dmcReadDone (c : Fin 12) (k : Fin 2) (i : Nat) (e : Ecc)
  /-- DMC_WRITE_DONE (R261): A queued DRAM write is issued during a write phase or when no read waits. `i`: place in the write queue. -/
  | dmcWriteDone (c : Fin 12) (k : Fin 2) (i : Nat)
  /-- RMW (R260): A partial-line write is merged by read-modify-write with no other access to the line in between. `e`: what the read half meets. -/
  | rmw (c : Fin 12) (k : Fin 2) (e : Ecc)
  /-- IDLE_CLOSE (R263): A bank's open row is closed after IDLE_TCK tCK without access. `b`: bank, rank × 32 + G × 4 + B. -/
  | idleClose (c : Fin 12) (k : Fin 2) (b : Fin 128)
  /-- REFRESH (R264): A due refresh is issued to a rank ahead of requests. `r`: rank. -/
  | refresh (c : Fin 12) (r : Fin 4)
  /-- DIMM_ALERT (R266): A DIMM ALERT for a CA parity or write CRC error makes the DMC retry the command, and a fourth failure is a command error. `l`: device line of the command; `crc`: write CRC rather than CA parity; `failures`: failed tries. -/
  | dimmAlert (l : Nat) (crc : Bool) (failures : Nat)
  /-- SCRUB_LINE (R267): Each subchannel's scrubber reads one mapped line every INTERVAL_NS and rewrites a corrected line. `e`: what the read meets. -/
  | scrubLine (c : Fin 12) (k : Fin 2) (e : Ecc)
  /-- MIGRATION_COPY_STEP (R270): The migration engine copies one line from the failed rank to the spare, writing poison for an uncorrectable line. `e`: what the read of the failing rank meets. -/
  | migrationCopyStep (c : Fin 12) (k : Fin 2) (e : Ecc)
  /-- POISON_FILL_STEP (R271): For an unreadable rank the engine writes one line of poison into the spare. -/
  | poisonFillStep (c : Fin 12) (k : Fin 2)
  /-- FREQ_GO (R273): DMC[0].FREQ.GO checks the target speed and, if accepted, stops every DMC accepting requests. `target`: TARGET. -/
  | freqGo (target : Fin 4)
  /-- POOL_ALLOCATE (R282): A requester's allocation is granted from its quadrant cache in rotation, waits for a refill, or is answered POOL_EMPTY. `r`: requester index of R280; `p`: pool. -/
  | poolAllocate (r : Fin 23) (p : Fin 4 × Ecc)
  /-- POOL_FREE (R285): A free by the owner passes the metadata check and returns the pointer to the issuer's cache, or fails with POOL_CHECK. `r`: the issuer; `p`, `i`: the pointer. -/
  | poolFree (r : Fin 23) (p : Fin 4) (i : Fin 16777216 × Ecc)
  /-- POOL_GIVE (R284): A give by the owner passes the metadata check and changes the buffer's owner. `r`: the issuer; `p`, `i`: the pointer; `w`: the new owner. -/
  | poolGive (r : Fin 23) (p : Fin 4) (i : Fin 16777216 × Ecc) (w : Fin 23)
  /-- CACHE_REFILL (R281): A quadrant cache below its low mark is refilled from the pool's DRAM ring in lines of 16 pointers. -/
  | cacheRefill (q : Fin 4) (p : Fin 4)
  /-- CACHE_SPILL (R281): A quadrant cache above its high mark spills lines of 16 pointers to the ring. -/
  | cacheSpill (q : Fin 4) (p : Fin 4)
  /-- META_READ (R288): BPM.META_CMD READ returns a buffer's metadata byte. -/
  | metaRead (i : Fin 16777216 × Ecc) (p : Fin 4)
  /-- TM_DESCRIPTOR_TAKE (R296): A TM takes descriptors from its Release inputs in rotation, replicating multicast and deciding each copy. `e`: what a read for a truncated copy meets; `ft`: the frame-table entry fails, and the head cells whose entries fail in the copies' push-outs and drops. -/
  | tmDescriptorTake (q : Fin 4) (e : CellEcc) (ft : Bool × List Nat)
  /-- SAMPLER_ENABLE (R310): Writing SAMP_CFG.EN = 1 restarts a sampler's count, randomly preloaded when RAND_START is 1. `k`: the sampler. -/
  | samplerEnable (k : Fin 64)
  /-- WRED_AVG_UPDATE (R304): Every 1,024 cycles the TM updates each queue's moving-average depth. -/
  | wredAvgUpdate (q : Fin 4)
  /-- MCG_READ (R307): BUF.MCG_CMD READ returns one TM's member bitmap of a group. `g`: group; `q`: the TM. -/
  | mcgRead (g : Fin 65536) (q : Fin 4)
  /-- MCG_WRITE (R307): BUF.MCG_CMD WRITE changes one TM's member bitmap, ordering it against the QMASK update. `g`: group; `q`: the TM. -/
  | mcgWrite (g : Fin 65536) (q : Fin 4)
  /-- QUEUE_FLUSH (R311): TMG.QCMD FLUSH removes every frame of a queue that has not begun transmission. `u`: QUEUE, and the head cells whose frame-table entries fail. -/
  | queueFlush (q : Fin 4) (u : Fin 1024 × List Nat)
  /-- HOST_DELIVERY (R299): A TM hands one host-queue frame at the HIF's pace, copying it into a pool buffer given to the HIF. `w0`, `w1`: words of the host's descriptor at HEAD; `e`: what reading the cells meets; `ft`: the frame-table entry fails, and what reading a park-memory buffer meets. -/
  | hostDelivery (q : Fin 4) (w0 w1 : Word64) (e : CellEcc) (ft : Bool × Ecc)
  /-- HOST_POOL_RETRY (R283): A TM whose punt buffer allocation met POOL_EMPTY retries every 64 cycles. Operands as of HOST_DELIVERY. -/
  | hostPoolRetry (q : Fin 4) (w0 w1 : Word64) (e : CellEcc) (ft : Bool × Ecc)
  /-- TM_PICK (R316): The TM scheduler picks the highest-class candidate queue of a logical port and hands its frame to the egress slice. -/
  | tmPick (q : Fin 4)
  /-- SHAPER_REFILL (R319): Every 64 cycles each shaper bucket gains RATE × 40 ns of tokens up to BURST. -/
  | shaperRefill (q : Fin 4)
  /-- EGRESS_FRAME_START (R318): The egress slice starts the head of the highest class allowed by pause and time gates and applies its edits. `e`: what reading the copy's cells meets. -/
  | egressFrameStart (p : Fin 512) (e : CellEcc)
  /-- TX_COPY_DONE (R293): When the egress slice has read a copy's last cell its reference is released and cells freed at zero. `ft`: the frame-table entry fails when it is read. -/
  | txCopyDone (p : Fin 512) (ft : Bool)
  /-- GATE_ENTRY_CHANGE (R322): A gate control list boundary takes effect in the first tick at or beyond it. `p`: the logical port whose list reaches an entry boundary. -/
  | gateEntryChange (p : Fin 512)
  /-- GCL_TAKEOVER (R325): A pending gate list takes over at its time T and the active bank toggles. `p`: the logical port whose pending list is due. -/
  | gclTakeover (p : Fin 512)
  /-- GCL_READ (R324): GCL_CMD READ returns one entry of a list bank. `p`: logical port 128q + lp. -/
  | gclRead (p : Fin 512) (entry : Fin 256) (bank : Fin 2)
  /-- GCL_WRITE (R324): GCL_CMD WRITE stores one entry into the inactive bank. `p`: logical port 128q + lp. -/
  | gclWrite (p : Fin 512) (entry : Fin 256) (bank : Fin 2)
  /-- ARM (R324): GCL_CMD ARM checks the new list and makes it pending with takeover time T. `p`: logical port 128q + lp. -/
  | arm (p : Fin 512)
  /-- CANCEL (R324): GCL_CMD CANCEL drops the pending list. `p`: logical port 128q + lp. -/
  | cancel (p : Fin 512)
  /-- DISABLE (R324): GCL_CMD DISABLE drops both lists and opens all gates. `p`: logical port 128q + lp. -/
  | disable (p : Fin 512)
  /-- GAUGE_SWEEP (R326): Every PERIOD_US the Gauge sweeps all 656 queues into a snapshot bank and increments SEQ. -/
  | gaugeSweep (q : Fin 4)
  /-- NH_READ (R330): TMG.NH_CMD READ returns a next-hop edit entry. -/
  | nhRead (q : Fin 4) (i : Fin 262144)
  /-- NH_WRITE (R330): TMG.NH_CMD WRITE replaces all four words of a next-hop entry in one cycle. -/
  | nhWrite (q : Fin 4) (i : Fin 262144)
  /-- INCR_WRITE (R57): A write of TOD.INCR within range sets the base increment, counts as steering and clears HOLDOVER, and otherwise sets INCR_ERR. `v` is the written word. -/
  | incrWrite (v : Word64)
  /-- HOLD_TIMEOUT_WRITE (R57): A write of HOLD_TIMEOUT changes the comparison limit and sets HOLDOVER at once if already exceeded. `v` is the written word. -/
  | holdTimeoutWrite (v : Word64)
  /-- PPS_IN_EDGE (R63): An accepted PPS_IN rising edge captures TOD and MONO and performs an armed PPS_LOAD. `high`: how many nanoseconds the input stays high. -/
  | ppsInEdge (high : Nat)
  /-- CREDIT_RETURN (R22): A consumer returns a credit for a freed entry and the producer's counter rises. -/
  | creditReturn (k : LinkId)
  /-- CREDIT_TIMEOUT (R24): No credit returned within a link's timeout while the consumer was never holding fences the consumer. `held`: the consumer was holding at some time in the interval (R23). -/
  | creditTimeout (k : LinkId) (held : Bool)
  /-- CREDIT_RESYNC (R25): A consumer's resynchronisation message carrying its capacity loads the producer's counter and is acknowledged. -/
  | creditResync (k : LinkId)
  /-- CREDIT_RESYNC_ACK (R25): The producer's acknowledgement resumes the link and lifts its detector masks. -/
  | creditResyncAck (k : LinkId)
  /-- UNIT_LOGIC (R393): A fault in a numbered unit's own logic fences the unit and opens its escalation window. `code`: the unit's internal code. -/
  | unitLogic (u : Fin 315) (code : Fin 65536)
  /-- PLL_UNLOCK (R429): A loss of PLL lock raises a fatal PLL_UNLOCK. `which`: 0 PLL_MAIN, 1 PLL_DRAM, 2 SerDes, 3 PCIe; `d`: the domain of a SerDes PLL. -/
  | pllUnlock (which : Fin 4) (d : Fin 80)
  /-- SUPPLY_FAULT (R446): A rail out of tolerance for 2 µs or longer raises a fatal SUPPLY_FAULT. `r`: the rail; `d`: the domain it feeds; `us`: how long it lies outside its window; `mv`: its voltage. -/
  | supplyFault (r : Fin 7) (d : Fin 80) (us mv : Nat)
  /-- TEMP_SAMPLE (R438): Every 100 µs the sensors are read, setting TEMP_WARN at WARN_C. `t`: the sixteen readings. -/
  | tempSample (t : List (BitVec 12))
  /-- ESC_RESET (R396): ESC_CMD RESET stops a fenced unit's window, starts its repair timer and reinitialises its pipelines. -/
  | escReset (u : Fin 512)
  /-- UNIT_RESET_DONE (R396): A unit's reset completes and its STATE becomes RESET_DONE. `ok`: the firmware that a complex reloads matches (R407). -/
  | unitResetDone (u : Fin 315) (ok : Bool)
  /-- ESC_RETURN (R396): ESC_CMD RETURN checks readiness, resynchronises every boundary link and returns the unit to service. `acked`: every boundary link acknowledges in time. -/
  | escReturn (u : Fin 512) (acked : Bool)
  /-- KEEP (R396): ESC_CMD KEEP keeps a non-essential unit fenced until the next cast-on. -/
  | keep (u : Fin 512)
  /-- ESCALATE (R396): ESC_CMD ESCALATE ends a unit's window at once as on expiry. -/
  | escalate (u : Fin 512)
  /-- ESC_WINDOW_EXPIRY (R397): A unit's escalation window running out keeps a non-essential unit or raises fatal ESCALATED for an essential one. -/
  | escWindowExpiry (u : Fin 315)
  /-- REPAIR_TIMEOUT (R397): A unit's repair timer running out escalates the unit. -/
  | repairTimeout (u : Fin 315)
  /-- AUTO_REPAIR (R398): With AUTO_REPAIR the active complex resets a shard fenced by MC_UE, reloads its control store and returns it. -/
  | autoRepair (h : Fin 16)
  /-- PHASE_RESET (R343): Cast-on phase RESET locks PLL_MAIN and brings up the host interface from ROM. `rail`: a supply rail that is missing. -/
  | phaseReset (rail : Option (Fin 7))
  /-- PHASE_JOURNAL (R353): Cast-on phase JOURNAL scans the journal and finds HEAD, or sets JNL_FAIL. `fail`: the journal device does not answer, or fails to read. -/
  | phaseJournal (fail : Bool)
  /-- PHASE_VERIFY (R336): Cast-on phase VERIFY checks the header, sections, SVN, hash, key and signature. `readFail`: the slot cannot be read. -/
  | phaseVerify (readFail : Bool)
  /-- PHASE_FIRMWARE (R405): Cast-on phase FIRMWARE loads firmware into both complexes and makes CC-A active with claim 2. `fail`: the firmware fails its load self-check; `version`: what it reports. -/
  | phaseFirmware (fail : Bool) (version : Word64)
  /-- PHASE_DRAM (R343): Cast-on phase DRAM trains, zero-fills and carves DRAM and writes the pool rings. `bad`: channel, rank, subchannel and step (RESULT less 2) of what fails training; `init`: DRAM_INIT's addresses and bytes. -/
  | phaseDram (bad : List (Fin 12 × Fin 4 × Fin 2 × Fin 5)) (init : List (Nat × List Byte))
  /-- PHASE_TABLES (R343): Cast-on phase TABLES loads control stores, Tumbler, MAC, next-hop, multicast and gate tables. `t`: the table sections; `bad`: a shard whose control store does not hold what was loaded. -/
  | phaseTables (t : ImageTables) (bad : Option (Fin 16))
  /-- PROGRAM_KEY (R337): CST.FUSE_CMD PROGRAM_KEY writes the owner key hash into the lowest blank fuse bank and blows LOCK last. `cut`: the run is interrupted or fails verification once the fuses of these bytes have been blown. -/
  | programKey (cut : Option (List Byte))
  /-- HOST_READ_FAIL (R359): A failed host-memory read fails only the inject frame or long operation that issued it. `slot`: the long operation that read, or `none` for an inject frame with descriptor word `w1`. -/
  | hostReadFail (slot : Option (Fin 16)) (w1 : Word64)
  /-- AP_READ (R361): A BAR2 aperture read reaches device DRAM through its window, returning poison for lost lines and 0xFF beyond SPACE. `es`: what each line's read meets. -/
  | apRead (w : Fin 4) (off len : Nat) (es : List Ecc)
  /-- AP_WRITE (R361): A BAR2 aperture write reaches device DRAM through its window, merging partial lines and discarding bytes beyond SPACE. `es`: what each merged line's read meets. -/
  | apWrite (w : Fin 4) (off : Nat) (bytes : List Byte) (es : List Ecc)
  /-- RING_ENABLE (R362): Writing a ring's EN = 1 sets its HEAD and TAIL to 0. -/
  | ringEnable (r : Fin 80)
  /-- RX_DOORBELL (R362): A doorbell write posts RX descriptors by setting the ring's TAIL, or is ignored as DOORBELL_BAD. `wide`: the write has 64 bits. -/
  | rxDoorbell (k : Fin 64) (v : Word64) (wide : Bool)
  /-- TX_DOORBELL (R362): A doorbell write posts TX descriptors by setting the ring's TAIL, or is ignored as DOORBELL_BAD. `wide`: the write has 64 bits. -/
  | txDoorbell (j : Fin 16) (v : Word64) (wide : Bool)
  /-- TX_INJECT (R365): The HIF reads one TX descriptor's frame into a pool buffer and gives it to the egress TM. `w1`, `w3`: words of the host's descriptor at HEAD; `bytes`: the frame. -/
  | txInject (w1 w3 : Word64) (bytes : List Byte)
  /-- MSIX_SEND (R366): A ring signals its MSI-X vector after COAL_CNT completions or COAL_US microseconds. `r`: the ring, 64 + j for TX ring j. -/
  | msixSend (r : Fin 80)
  /-- LOP_START (R367): LOP.CTL.START starts the selected operation in a slot after its phase, argument and exclusion checks. `i`: the slot; `op`: OP. -/
  | lopStart (i op : Fin 16)
  /-- LOP_ABORT (R372): LOP.CTL.ABORT ends a running operation ABORTED at its next safe point. -/
  | lopAbort (i : Fin 16)
  /-- LOP_IN_PROD_WRITE (R369): Writing LOP.IN_PROD makes input lines available and resumes an operation in WAIT_HOST. `last`: END. -/
  | lopInProdWrite (i : Fin 16) (prod : BitVec 32) (last : Bool)
  /-- LOP_OUT_CONS_WRITE (R369): Writing LOP.OUT_CONS frees output lines and resumes an operation in WAIT_HOST. -/
  | lopOutConsWrite (i : Fin 16) (cons : BitVec 32)
  /-- STATUS_MIRROR_WRITE (R368): The device writes a changed status word to MIRROR_ADDR at most once per 10 µs, always writing the final state. -/
  | statusMirrorWrite (i : Fin 16)
  /-- FLOW_EXPORT (R373): FLOW_EXPORT writes the records of selected shards and classes to the output ring in the portable format. `i`: the slot; `e`, `e2`: what the reads of the visited slot meet. -/
  | flowExport (i : Fin 16) (e e2 : Ecc)
  /-- FLOW_IMPORT (R375): FLOW_IMPORT places each record of an input stream as a record WRITE under the importer's key. `line`: the next line of the input ring; `es`: what the DRAM reads meet. -/
  | flowImport (i : Fin 16) (line : List Byte) (es : List Ecc)
  /-- TABLE_DUMP (R378): TABLE_DUMP writes a MAC, Tumbler, next-hop or journal table to the output ring. -/
  | tableDump (i : Fin 16)
  /-- TUMBLER_REBUILD (R379): TUMBLER_REBUILD reloads a fenced array from another array and the image. -/
  | tumblerRebuild (i : Fin 16)
  /-- DRAM_SCRUB (R380): DRAM_SCRUB runs one extra scrub pass of selected channels at the full background rate. `es`: what reading meets, by subchannel 2c + k. -/
  | dramScrub (i : Fin 16) (es : List Ecc)
  /-- RANK_MIGRATE (R272): RANK_MIGRATE moves an in-service rank to the spare. -/
  | rankMigrate (i : Fin 16)
  /-- IMAGE_WRITE (R355): IMAGE_WRITE revokes, erases, programs and verifies the target slot and journals COMMIT or TRIAL. `bytes`: the next lines of the input ring; `readFail`: the slot cannot be read back. -/
  | imageWrite (i : Fin 16) (bytes : List Byte) (readFail : Bool)
  /-- ADMIT_REQUEST (R350): ADMIT_REQUEST checks a runtime envelope and class change and applies it in one cycle if admitted. `bytes`: the next lines of the input ring. -/
  | admitRequest (i : Fin 16) (bytes : List Byte)
  /-- CC_HEARTBEAT (R411): Each complex sends a heartbeat every HB_PERIOD_US on its line and on the fault bus. `x`: the complex; `path`: 0 its line, 1 the fault bus. -/
  | ccHeartbeat (x path : Fin 2)
  /-- CC_HEARTBEAT_TIMEOUT (R411): A partner silent for HB_TIMEOUT_US raises HB_PATH, fences a standby, or makes the standby take over. `x`: the complex whose silence is judged. -/
  | ccHeartbeatTimeout (x : Fin 2)
  /-- TWIN_HEARTBEAT_SEND (R415): Each twin device sends a heartbeat every 10 µs on the link and every 20 µs on the sideband. `path`: 0 the link, 1 the sideband. -/
  | twinHeartbeatSend (path : Fin 2)
  /-- TWIN_HEARTBEAT_RECEIVE (R416): A received twin heartbeat updates the partner's claim, role and sync, pairing at the first exchange. `path`: 0 the link, 1 the sideband; `pair`: what R416 compares. -/
  | twinHeartbeatReceive (path : Fin 2) (claim : BitVec 32) (role sync : Fin 4) (pair : TwinPair)
  /-- TWIN_PATH_TIMEOUT (R424): Partner silence on one path raises TWIN_PATH, and on both paths makes the partner lost and may promote a secondary. `path`: 0 the link, 1 the sideband. -/
  | twinPathTimeout (path : Fin 2)
  /-- TWIN_FRAME_RECEIVE (R420): The receiver's twin Hasp accepts a frame only under a higher claim, discarding lower and raising TWIN_TIE on equal. `entries`: each with its sender's shard; `ok`: the CRC-32C is right. -/
  | twinFrameReceive (claim seq : BitVec 32) (entries : List (Fin 16 × List Byte)) (ok : Bool)
  /-- MIRROR_APPLY (R421): The secondary applies each accepted UPDATE, DELETE, DELTA or AUX entry in its shard in order. `es`: what the DRAM reads meet. -/
  | mirrorApply (h : Fin 16) (es : List Ecc)
  /-- DELTA_BATCH (R418): Every BATCH_US the delta table's entries are sent as DELTA. -/
  | deltaBatch (h : Fin 16)
  /-- SYNC_PASS_STEP (R423): The sync pass walks one record or mirrored line, queuing it as UPDATE or AUX. `e`, `e2`: what the reads meet. -/
  | syncPassStep (e e2 : Ecc)
  /-- QUIESCE (R432): PMU.PD_CMD QUIESCE fences every unit of a switchable domain without a fault message. `d`: DOMAIN. -/
  | quiesce (d : Fin 128)
  /-- OFF (R432): PMU.PD_CMD OFF opens a quiesced domain's power switch. `d`: DOMAIN. -/
  | powerOff (d : Fin 128)
  /-- ON (R434): PMU.PD_CMD ON powers a domain, initialises its blocks and returns its units to service. `d`: DOMAIN. -/
  | powerOn (d : Fin 128)
  /-- SYS_RESET_N_FALL (R430): SYS_RESET_N falling resets every block outside PD_AON and ends cast-on, RECAST or fatal stop in progress. `n`: records of the first waiting journal entry that have been written. -/
  | sysResetNFall (n : Nat)
  /-- SAMPLE_PRELOAD (R452): JTAG SAMPLE/PRELOAD samples and preloads the boundary-scan register. `pins`: what is sampled; `load`: what is shifted in. -/
  | samplePreload (pins load : List Bool)
  /-- REFRESH_RATE_NEED (R264): A rank's report of a refresh-rate need above the 1x rate halves its refresh interval and sets STATUS.HOT, and its falling back restores the 1x rate. `high`: the need is above the 1x rate. -/
  | refreshRateNeed (c : Fin 12) (r : Fin 4) (high : Bool)
  /-- PD_CMD_COMPLETE (R432): A domain in SWITCHING reaches QUIESCED, OFF or ON and PMU.PD_CMD.BUSY falls, or ON ends with its units in STATE 3 and NOT_QUIET. `ok`: at ON, the units are ready and their links acknowledge in time. -/
  | pdCmdComplete (ok : Bool)
  /-- AUTO_RESTART (R407): With CCX.CTL.AUTO_RESTART set, the active complex itself issues RESET and RETURN for a fenced standby complex and counts RESTARTS. `ok`: the reloaded firmware matches CST.IMAGE_INFO.DIGEST. -/
  | autoRestart (ok : Bool)
  /-- DATA_LINK_LAYER_UP (R382): The PCIe link completes training and the Data Link Layer comes up, setting HIF.STATUS.LINK_UP with the negotiated speed and width. `speed`, `width`: what was negotiated (R382). -/
  | dataLinkLayerUp (speed : Fin 7) (width : Fin 9)
  /-- TWIN_ACKNOWLEDGEMENT (R415): An acknowledgement from the twin receiver frees the acknowledged frames from the sender's window of 64 unacknowledged frames. `seq`: the last frame acknowledged. -/
  | twinAcknowledgement (seq : BitVec 32)
  /-- BUF_LOW_READ (R313): A read of BUF.LOW returns FREE_LOW and then clears it. -/
  | bufLowRead
  /-- PMU_THERM_READ (R439): A read of PMU.THERM returns MAX_C and then clears it. -/
  | pmuThermRead
  /-- BPM_CNT_CLR (R288): A write of BPM.CTL.CNT_CLR clears BPM.CNT. -/
  | bpmCntClr
  /-- BUF_CNT_CLR (R313): A write of BUF.CTL.CNT_CLR clears BUF.CNT, BUF.ING_NO_CELL and the sampler counters. -/
  | bufCntClr
  /-- CST_CNT_CLR (R356): A write of CST.CTL.CNT_CLR clears CST.CNT. -/
  | cstCntClr
  /-- HIF_CNT_CLR (R382): A write of HIF.CTL.CNT_CLR clears HIF.CNT and RING_CNT. -/
  | hifCntClr
  /-- FLT_CNT_CLR (R404): A write of FLT.CTL.CNT_CLR clears FLT.CNT. -/
  | fltCntClr
  /-- CCX_CNT_CLR (R426): A write of CCX.CTL.CNT_CLR clears CCX.CNT. -/
  | ccxCntClr
  /-- TWN_CNT_CLR (R427): A write of TWN.CTL.CNT_CLR clears TWN.CNT. -/
  | twnCntClr
  /-- PMU_CNT_CLR (R439): A write of PMU.CTL.CNT_CLR clears PMU.CNT. -/
  | pmuCntClr
  /-- LEARN_BUS_TRANSFER (R84): The learn bus carries one event per cycle from the slice FIFOs, in rotation, to all four learners. -/
  | learnBusTransfer
  /-- OPEN (R105): GEN_CMD OPEN takes a free generation slot, waiting for one if needed, and copies the current slot's bits into it. -/
  | openGen
  /-- OPEN_COPY_DONE (R105): When the generation copy ends in the last array the generation becomes pending and BUSY falls. -/
  | openCopyDone
  /-- COMMIT (R105): GEN_CMD COMMIT waits for block moves to end and then checks the shared-table digests. -/
  | commitGen
  /-- COMMIT_APPLY (R105): With the digests equal, in one cycle the pending slot becomes current in all arrays and slices and the old current slot drains. -/
  | commitApply
  /-- ABORT (R105): GEN_CMD ABORT waits for block moves and then clears the pending bit in every entry of every array. -/
  | abortGen
  /-- ABORT_SWEEP_DONE (R105): When the abort sweep ends in the last array the slot becomes free and BUSY falls. -/
  | abortSweepDone
  /-- TEMPLATE_REFRESH (R246): Every TEMPLATE_REFRESH_S seconds the exporter sends the template set again. -/
  | templateRefresh
  /-- EXPORTER_STATUS_WRITE (R247): Every 100 ms the exporter rewrites its status line in region 8. -/
  | exporterStatusWrite
  /-- FREQ_SELF_REFRESH (R273): After accepted requests complete every rank enters self-refresh and PLL_DRAM relocks at the target. -/
  | freqSelfRefresh
  /-- FREQ_CHANGE_DONE (R273): After relock the set point switches, self-refresh exits, the DMCs accept again and BUSY falls. -/
  | freqChangeDone
  /-- CAPTURE (R54): TOD CAPTURE copies TOD and MONO into the CAP registers on the next tick. -/
  | capture
  /-- STEP_SET (R56): TOD STEP_SET loads SET_SEC and SET_NS into TOD on the next tick. -/
  | stepSet
  /-- STEP_ADD (R56): TOD STEP_ADD adds the signed offset to TOD on the next tick. -/
  | stepAdd
  /-- PPS_LOAD (R54): TOD PPS_LOAD arms a load of SET_SEC and SET_NS at the next accepted PPS_IN edge. -/
  | ppsLoad
  /-- SLEW (R54): TOD SLEW uses SLEW_INC in place of INCR for SLEW_CNT ticks. -/
  | slew
  /-- TOD_CANCEL (R54): TOD CANCEL disarms a pending PPS_LOAD or ends a slew at once. -/
  | todCancel
  /-- TOD_RESERVED_CMD (R54): TOD command 0b110 is always rejected with CMD_REJ. -/
  | todReservedCmd
  /-- SLEW_END (R54): When SLEW_CNT ticks have passed TOD returns to the base increment. -/
  | slewEnd
  /-- ENTER_HOLD (R57): A write of TOD.CTL.ENTER_HOLD sets HOLDOVER, ending any slew and disarming any PPS_LOAD. -/
  | enterHold
  /-- HOLDOVER (R57): HOLD_TIMEOUT milliseconds without a steering event set HOLDOVER. -/
  | holdover
  /-- PPS_IN_LOST (R63): 1.1 s without an accepted PPS_IN edge sets PPS_IN_LOST. -/
  | ppsInLost
  /-- PPS_OUT_PULSE (R62): PPS_OUT rises at each seconds carry of TOD, shifted by ADJ. -/
  | ppsOutPulse
  /-- PPS_OUT_FALL (R62): PPS_OUT falls after WIDTH_US microseconds high. -/
  | ppsOutFall
  /-- FAULT_MESSAGE_RECORD (R388): The collector records up to 8 fault messages per cycle in severity and source order into its ring. -/
  | faultMessageRecord
  /-- FATAL_STOP (R400): A fatal message or fatal line stops the ports, writes the black box and applies the fatal policy. -/
  | fatalStop
  /-- REFCLK_LOSS (R429): Loss of PLL_MAIN or REFCLK switches PD_AON to REFCLK or the on-die oscillator and sets CLK_FALLBACK. -/
  | refclkLoss
  /-- INJECT (R403): FLT.INJECT.GO records a message you describe, driving alerts but fencing nothing. -/
  | inject
  /-- CORR_TOKEN_REFILL (R389): The corrected-message bucket gains RATE tokens per millisecond up to BURST. -/
  | corrTokenRefill
  /-- FATAL_CLEAR (R402): FATAL_CLEAR_S seconds in RUN clear the fatal reset count. -/
  | fatalClear
  /-- PHASE_FUSES (R343): Cast-on phase FUSES senses the key banks and SVN_MIN. -/
  | phaseFuses
  /-- PHASE_SELECT (R338): Cast-on phase SELECT chooses the next candidate slot and writes a trial's CASTON_RESULT, waiting for journal tokens. -/
  | phaseSelect
  /-- PHASE_CONFIG (R462): Cast-on phase CONFIG writes the image's CONFIG records and runs the structural checks. -/
  | phaseConfig
  /-- PHASE_ADMIT (R348): Cast-on phase ADMIT checks the envelope's demands against their limits. -/
  | phaseAdmit
  /-- PHASE_ARM (R343): Cast-on phase ARM arms gate lists, applies ENABLE bits and writes CASTON_RESULT. -/
  | phaseArm
  /-- PHASE_RUN (R343): Cast-on reaches RUN: DEV_READY rises and RWI fields lock. -/
  | phaseRun
  /-- PHASE_FACTORY (R340): With no candidate passing the device runs the factory layer. -/
  | phaseFactory
  /-- PHASE_RETRY (R343): After a refused attempt every block outside PD_AON and the HIF is reset before the next candidate. -/
  | phaseRetry
  /-- RECAST (R342): CST.CTL.RECAST stops ports, resets blocks outside PD_AON and the HIF and starts cast-on, unless an image write runs. -/
  | recast
  /-- CONFIRM (R339): CST.CTL.CONFIRM confirms a running trial image and journals CONFIRM. -/
  | confirm
  /-- TRIAL_TIMEOUT (R339): No CONFIRM within CONFIRM_S of RUN revokes the trial slot and starts cast-on with cause REVERT. -/
  | trialTimeout
  /-- RAISE_SVN (R337): CST.FUSE_CMD RAISE_SVN blows SVN fuses up to the running image's SVN. -/
  | raiseSvn
  /-- JOURNAL_ENTRY_WRITE (R352): The device writes a journal entry's records and then its bind-off, copying forward live entries first. -/
  | journalEntryWrite
  /-- JOURNAL_TOKEN_REFILL (R354): The journal bucket refills at 256 tokens per second up to 4,096. -/
  | journalTokenRefill
  /-- PERST_N_ASSERT (R358): PERST_N low resets the HIF registers and link and makes the host lost. -/
  | perstNAssert
  /-- HOT_RESET (R358): A received hot reset resets the HIF and makes the host lost. -/
  | hotReset
  /-- FLR (R358): A Function Level Reset resets the HIF and makes the host lost. -/
  | flr
  /-- PCIE_LINK_DOWN (R358): The Data Link Layer going down makes the host lost. -/
  | pcieLinkDown
  /-- D3HOT_ENTRY (R358): Entering D3hot makes the host lost. -/
  | d3hotEntry
  /-- BUS_MASTER_CLEAR (R358): Clearing Bus Master Enable makes the host lost. -/
  | busMasterClear
  /-- DMA_EN_WRITE (R358): Writing HIF.CTL.DMA_EN = 1 enables DMA and clears HOST_LOST. -/
  | dmaEnWrite
  /-- TX_POOL_RETRY (R283): The HIF, after POOL_EMPTY on an inject buffer, retries every 64 cycles. -/
  | txPoolRetry
  /-- TAKEOVER (R411): The standby raises its claim above the active one, fences the old active complex and resumes the services. -/
  | takeover
  /-- SWITCH_OVER (R412): CCX.CTL.SWITCH makes the standby take over while the old active becomes standby without a fence. -/
  | switchOver
  /-- TWIN_FRAME_SEND (R419): The primary sends a twin-link frame of up to 32 mirror entries from the shard queues in rotation. -/
  | twinFrameSend
  /-- TWIN_RETRANSMIT (R415): A twin frame not acknowledged within 10 µs is resent. -/
  | twinRetransmit
  /-- PROMOTE (R425): TWN.CTL.PROMOTE raises the device's twin claim above the partner's. -/
  | promote
  /-- RESYNC (R423): TWN.CTL.RESYNC starts a sync pass. -/
  | resync
  /-- PD_AON_POWER_UP (R436): PD_AON power-up resets every block and starts cast-on with cause 0. -/
  | pdAonPowerUp
  /-- SYS_RESET_N_RELEASE (R430): SYS_RESET_N release starts cast-on with cause 1. -/
  | sysResetNRelease
  /-- TRST_N_ASSERT (R430): TRST_N low resets the JTAG TAP. -/
  | trstNAssert
  /-- SHUTDOWN (R437): GLB.CTL.SHUTDOWN stops ports, finishes journal entries, idles xSPI and puts ranks in self-refresh, then sets SAFE_OFF. -/
  | shutdown
  /-- EXTEST (R452): JTAG EXTEST drives the boundary while SYS_RESET_N is low, and acts as BYPASS otherwise. -/
  | extest
  /-- IDCODE (R452): JTAG IDCODE selects the 32-bit IDCODE register. -/
  | idcode
  /-- HIGHZ (R452): JTAG HIGHZ sets outputs to high impedance while SYS_RESET_N is low. -/
  | highz
  /-- CLAMP (R452): JTAG CLAMP holds the outputs while SYS_RESET_N is low. -/
  | clamp
  /-- EXTEST_PULSE (R452): JTAG EXTEST_PULSE tests AC-coupled lanes per IEEE 1149.6 while SYS_RESET_N is low. -/
  | extestPulse
  /-- EXTEST_TRAIN (R452): JTAG EXTEST_TRAIN tests AC-coupled lanes with pulse trains while SYS_RESET_N is low. -/
  | extestTrain
  /-- BYPASS (R452): JTAG BYPASS, and any undefined instruction, selects the one-bit bypass register. -/
  | bypass
  /-- PERST_N_RELEASE (R436): PERST_N going high after at least 100 µs low takes the HIF out of reset so that it becomes ready for link training. -/
  | perstNRelease
  deriving DecidableEq, Repr

end Sys2Proof
end

