-- ==== Sys2Proof/Decode.lean ====
section
/-! DEFINITION. Decoding table words into commands. -/

namespace Sys2Proof

/-- The command that a word of `nbits` bits spells: none, since the table of commands gives no row any bits. -/
def decodeTableWord (_nbits _w : Nat) : Option Instr := none

end Sys2Proof
end

