-- ==== Sys2Proof/Machine/Counts.lean ====
section
/-! DEFINITION. The index of every event counter in its block's counter array, from the counter tables of the spec. -/

namespace Sys2Proof.Machine


/-! ### PRT -/

def Cnt.PRT_RX_FRAMES_OK : Nat := 0
def Cnt.PRT_RX_OCTETS_OK : Nat := 1
def Cnt.PRT_RX_FCS_ERR : Nat := 2
def Cnt.PRT_RX_RUNT : Nat := 3
def Cnt.PRT_RX_OVERSIZE : Nat := 4
def Cnt.PRT_RX_PHY_ERR : Nat := 5
def Cnt.PRT_RX_FIFO_DISCARD : Nat := 6
def Cnt.PRT_RX_PAUSE : Nat := 7
def Cnt.PRT_RX_PFC : Nat := 8
def Cnt.PRT_TX_FRAMES : Nat := 16
def Cnt.PRT_TX_OCTETS : Nat := 17
def Cnt.PRT_TX_PAUSE : Nat := 18
def Cnt.PRT_TX_PFC : Nat := 19
def Cnt.PRT_TX_DURING_LINK_DOWN : Nat := 27
def Cnt.PRT_FEC_CW_CORRECTED : Nat := 28
def Cnt.PRT_FEC_CW_UNCORRECTED : Nat := 29
def Cnt.PRT_FEC_SYMBOLS_CORRECTED : Nat := 30
def Cnt.PRT_PTP_ONESTEP_OK : Nat := 31
def Cnt.PRT_PTP_EDIT_ERR : Nat := 32
def Cnt.PRT_TXTS_OVERFLOW : Nat := 33
def Cnt.PRT_LINK_DOWN_EVENTS : Nat := 34
def Cnt.PRT_RX_MAC_CTRL_OTHER : Nat := 35

/-! ### SLC -/

def Cnt.SLC_FLOW_ITEMS : Nat := 0
def Cnt.SLC_PERPKT_FRAMES : Nat := 1
def Cnt.SLC_NONIP : Nat := 2
def Cnt.SLC_MALFORMED : Nat := 3
def Cnt.SLC_DEEP : Nat := 4
def Cnt.SLC_MALFORMED_PUNT : Nat := 5
def Cnt.SLC_TTL_PUNT : Nat := 6
def Cnt.SLC_ROUTE_MISS_PUNT : Nat := 7
def Cnt.SLC_FENCED_FALLBACK : Nat := 8
def Cnt.SLC_POL_RED_DROP : Nat := 9
def Cnt.SLC_LEARN_OVF : Nat := 10
def Cnt.SLC_ROUTED : Nat := 11
def Cnt.SLC_BRIDGED : Nat := 12

/-! ### MAC -/

def Cnt.MAC_LEARN_NEW : Nat := 0
def Cnt.MAC_STATION_MOVE : Nat := 1
def Cnt.MAC_LEARN_FULL : Nat := 2
def Cnt.MAC_LEARN_DROP : Nat := 3
def Cnt.MAC_MOVE_BLOCKED : Nat := 4
def Cnt.MAC_STATIC_MOVE : Nat := 5
def Cnt.MAC_AGED_OUT : Nat := 6
def Cnt.MAC_ADDR_LOCKED : Nat := 7
def Cnt.MAC_FLOOD_UNKNOWN : Nat := 8
def Cnt.MAC_FLOOD_BCAST_MCAST : Nat := 9

/-! ### HNK -/

def Cnt.HNK_HOT_HIT : Nat := 0
def Cnt.HNK_HOT_MISS : Nat := 1
def Cnt.HNK_FOUND_PREFERRED : Nat := 2
def Cnt.HNK_FOUND_DISPLACED : Nat := 3
def Cnt.HNK_FOUND_STASH : Nat := 4
def Cnt.HNK_ABSENT : Nat := 5
def Cnt.HNK_PROBE_READS : Nat := 6
def Cnt.HNK_SCAN_READS : Nat := 7
def Cnt.HNK_CREATE_PREFERRED : Nat := 8
def Cnt.HNK_CREATE_DISPLACED : Nat := 9
def Cnt.HNK_CREATE_STASH : Nat := 10
def Cnt.HNK_TABLE_FULL : Nat := 11
def Cnt.HNK_DELETE : Nat := 12
def Cnt.HNK_AGED_OUT : Nat := 13
def Cnt.HNK_EVICT_CLEAN : Nat := 14
def Cnt.HNK_EVICT_DIRTY : Nat := 15
def Cnt.HNK_EVB_RECLAIM : Nat := 16
def Cnt.HNK_HOLD_WAITS : Nat := 17
def Cnt.HNK_TAG_ALIAS : Nat := 18
def Cnt.HNK_FWD_STALED : Nat := 19
def Cnt.HNK_PIN_IGNORED : Nat := 20
def Cnt.HNK_HOT_ECC_CORRECTED : Nat := 21
def Cnt.HNK_RECORD_LOST : Nat := 22
def Cnt.HNK_LOST_FETCH : Nat := 23
def Cnt.HNK_AGE_NOTIFY : Nat := 24
def Cnt.HNK_ENTRY_FULL_CYCLES : Nat := 25
def Cnt.HNK_EVB_FULL_CYCLES : Nat := 26
def Cnt.HNK_SET_FULL_WAITS : Nat := 27
def Cnt.HNK_HOST_COMMANDS : Nat := 28

/-! ### SCH -/

def Cnt.SCH_ITEMS_SEQUENCED : Nat := 0
def Cnt.SCH_ITEMS_RELEASED : Nat := 1
def Cnt.SCH_DISPATCHED : Nat := 2
def Cnt.SCH_RESUMED : Nat := 3
def Cnt.SCH_PARKED_FETCH : Nat := 4
def Cnt.SCH_PARKED_HOLD : Nat := 5
def Cnt.SCH_AGING_ITEMS : Nat := 6
def Cnt.SCH_AGING_ABORT : Nat := 7
def Cnt.SCH_LATE_RELEASE : Nat := 8
def Cnt.SCH_FALLBACK_ROUTE_MISS : Nat := 9
def Cnt.SCH_DISP_FORWARD : Nat := 10
def Cnt.SCH_DISP_DROP : Nat := 11
def Cnt.SCH_DISP_PUNT : Nat := 12
def Cnt.SCH_DISP_FALLBACK : Nat := 13
def Cnt.SCH_TABLE_FULL_FALLBACK : Nat := 14
def Cnt.SCH_MULTICAST_RELEASES : Nat := 15
def Cnt.SCH_NAT_EXHAUSTED : Nat := 16
def Cnt.SCH_DL_MISS_QUEUED : Nat := 17
def Cnt.SCH_DL_MISS_RUNNING : Nat := 18
def Cnt.SCH_DL_MISS_PARKED : Nat := 19
def Cnt.SCH_DEADLOCK_ABORT : Nat := 20
def Cnt.SCH_DEBUG_ABORT : Nat := 21
def Cnt.SCH_RECORD_LOST_ABORT : Nat := 22
def Cnt.SCH_NO_RESULT : Nat := 23
def Cnt.SCH_FENCE_DISCARD : Nat := 24
def Cnt.SCH_WINDOW_HOLD_CYCLES : Nat := 25
def Cnt.SCH_REORDER_FULL_CYCLES : Nat := 26
def Cnt.SCH_READY_FULL_CYCLES : Nat := 27
def Cnt.SCH_RESUME_FULL_CYCLES : Nat := 28
def Cnt.SCH_PARK_STALL_CYCLES : Nat := 29

/-! ### FAE -/

def Cnt.FAE_ISSUED : Nat := 0
def Cnt.FAE_SLOTS_LENT : Nat := 1
def Cnt.FAE_SLOTS_LOST : Nat := 2
def Cnt.FAE_ITEMS_STARTED : Nat := 3
def Cnt.FAE_ITEMS_ENDED : Nat := 4
def Cnt.FAE_PROG_EXC : Nat := 5
def Cnt.FAE_HOLD_AT_END : Nat := 6
def Cnt.FAE_LOCK_AT_END : Nat := 7
def Cnt.FAE_DEADLOCK_BREAK : Nat := 8
def Cnt.FAE_DEBUG_HALTS : Nat := 9
def Cnt.FAE_SEARCHES : Nat := 10
def Cnt.FAE_AUX_READS : Nat := 11
def Cnt.FAE_AUX_WRITES : Nat := 12
def Cnt.FAE_AUX_CAS : Nat := 13
def Cnt.FAE_AUX_CAS_FAIL : Nat := 14
def Cnt.FAE_MC_ECC_CORRECTED : Nat := 15

/-! ### WRD -/

def Cnt.WRD_LOCK_ACQ : Nat := 0
def Cnt.WRD_LOCK_CONTENDED : Nat := 1
def Cnt.WRD_LOCK_TRY_FAIL : Nat := 2
def Cnt.WRD_LOCK_TIMEOUT : Nat := 3
def Cnt.WRD_LOCK_ABORT_RELEASE : Nat := 4
def Cnt.WRD_EV_ADDS : Nat := 5
def Cnt.WRD_MSG_COMMITS : Nat := 6
def Cnt.WRD_WAKE_EVENT : Nat := 7
def Cnt.WRD_WAKE_TIMER : Nat := 8
def Cnt.WRD_WAKE_DEADLOCK : Nat := 9
def Cnt.WRD_HOST_EV_ADDS : Nat := 10

/-! ### DMC -/

def Cnt.DMC_READS : Nat := 0
def Cnt.DMC_WRITES : Nat := 1
def Cnt.DMC_RD_FORWARDED : Nat := 2
def Cnt.DMC_WR_COALESCED : Nat := 3
def Cnt.DMC_ROW_HITS : Nat := 4
def Cnt.DMC_ROW_MISSES : Nat := 5
def Cnt.DMC_IDLE_CLOSES : Nat := 6
def Cnt.DMC_REFRESHES : Nat := 7
def Cnt.DMC_CE_CORRECTED : Nat := 8
def Cnt.DMC_UE : Nat := 9
def Cnt.DMC_LOST_READS : Nat := 10
def Cnt.DMC_LOST_WRITES : Nat := 11
def Cnt.DMC_CA_RETRY : Nat := 12
def Cnt.DMC_WCRC_RETRY : Nat := 13
def Cnt.DMC_SCRUB_LINES : Nat := 14
def Cnt.DMC_SCRUB_CORRECTED : Nat := 15
def Cnt.DMC_MIG_LINES : Nat := 16
def Cnt.DMC_MIG_POISONED : Nat := 17
def Cnt.DMC_SHADOWED_UE : Nat := 18
def Cnt.DMC_BG_ACCESSES : Nat := 19
def Cnt.DMC_RMW : Nat := 20
def Cnt.DMC_DRAIN_PHASES : Nat := 21
def Cnt.DMC_FG_WAIT_CYCLES : Nat := 22

/-! ### BPM -/

def Cnt.BPM_ALLOC : Nat := 0
def Cnt.BPM_FREE : Nat := 4
def Cnt.BPM_POOL_EMPTY : Nat := 8
def Cnt.BPM_WITHDRAWN : Nat := 12
def Cnt.BPM_RING_LINE_READS : Nat := 16
def Cnt.BPM_RING_LINE_WRITES : Nat := 17
def Cnt.BPM_GIVES : Nat := 18
def Cnt.BPM_DOUBLE_FREE : Nat := 19
def Cnt.BPM_NON_OWNER_FREE : Nat := 20
def Cnt.BPM_BAD_POINTER : Nat := 21
def Cnt.BPM_PARK_ECC_CORRECTED : Nat := 22
def Cnt.BPM_CACHE_WAIT_CYCLES : Nat := 23

/-! ### BUF -/

def Cnt.BUF_CELLS_ALLOCATED : Nat := 0
def Cnt.BUF_CELLS_FREED : Nat := 1
def Cnt.BUF_ING_NO_CELL : Nat := 2
def Cnt.BUF_CELL_CORRECTED : Nat := 3
def Cnt.BUF_CELL_UE : Nat := 4
def Cnt.BUF_LINK_UE : Nat := 5
def Cnt.BUF_WITHDRAWN_CELLS : Nat := 6
def Cnt.BUF_MIRROR_COPIES : Nat := 7
def Cnt.BUF_SAMPLE_COPIES : Nat := 8
def Cnt.BUF_COPY_NO_CELL : Nat := 9
def Cnt.BUF_COPY_UE : Nat := 10

/-! ### TMG -/

def Cnt.TMG_DESC_IN : Nat := 0
def Cnt.TMG_COPIES_DECIDED : Nat := 1
def Cnt.TMG_MC_NO_MEMBER : Nat := 2
def Cnt.TMG_DESC_FULL : Nat := 3
def Cnt.TMG_FENCE_DISCARD : Nat := 4
def Cnt.TMG_HOST_DELIVERED : Nat := 5
def Cnt.TMG_HOST_POOL_WAIT_CYCLES : Nat := 6
def Cnt.TMG_HOST_COPY_UE : Nat := 7
def Cnt.TMG_POOL_FRAMES_IN : Nat := 8
def Cnt.TMG_BAD_DISP : Nat := 9
def Cnt.TMG_PUSHOUTS : Nat := 10

/-! ### TSCH -/

def Cnt.TSCH_PICKS : Nat := 0
def Cnt.TSCH_GATE_WAITS : Nat := 1
def Cnt.TSCH_GCL_TAKEOVERS : Nat := 2
def Cnt.TSCH_GCL_ARM_REJECTS : Nat := 3
def Cnt.TSCH_NH_INVALID : Nat := 4
def Cnt.TSCH_EDIT_BAD_OP : Nat := 5
def Cnt.TSCH_EDIT_FAMILY : Nat := 6
def Cnt.TSCH_EDIT_SCTP : Nat := 7
def Cnt.TSCH_TTL_ZERO_TX : Nat := 8
def Cnt.TSCH_ECN_CE_WRITTEN : Nat := 9
def Cnt.TSCH_VLAN_PUSH : Nat := 10
def Cnt.TSCH_VLAN_POP : Nat := 11
def Cnt.TSCH_GAUGE_SWEEPS : Nat := 12

/-! ### CST -/

def Cnt.CST_CASTONS : Nat := 0
def Cnt.CST_ATTEMPTS_REFUSED : Nat := 1
def Cnt.CST_REVERTS : Nat := 2
def Cnt.CST_JNL_RECORDS : Nat := 3
def Cnt.CST_JNL_ENTRIES : Nat := 4
def Cnt.CST_JNL_DROPPED : Nat := 5
def Cnt.CST_JNL_COPY_FWD : Nat := 6
def Cnt.CST_JNL_TORN : Nat := 7
def Cnt.CST_HOST_DISCARDS : Nat := 8
def Cnt.CST_ADMIT_REQ_OK : Nat := 9
def Cnt.CST_ADMIT_REQ_REFUSED : Nat := 10
def Cnt.CST_IMAGE_COMMITS : Nat := 11
def Cnt.CST_FUSE_COMMANDS : Nat := 12

/-! ### HIF -/

def Cnt.HIF_RX_FRAMES : Nat := 0
def Cnt.HIF_RX_TRUNC : Nat := 1
def Cnt.HIF_RX_HOST_LOST_DISCARD : Nat := 2
def Cnt.HIF_TX_FRAMES : Nat := 3
def Cnt.HIF_TX_BAD_LEN : Nat := 4
def Cnt.HIF_TX_POOL_WAIT_CYCLES : Nat := 5
def Cnt.HIF_AP_READS : Nat := 6
def Cnt.HIF_AP_WRITES : Nat := 7
def Cnt.HIF_AP_OOR : Nat := 8
def Cnt.HIF_AP_LOST : Nat := 9
def Cnt.HIF_DMA_ERR : Nat := 10
def Cnt.HIF_DOORBELL_BAD : Nat := 11
def Cnt.HIF_MSIX_SENT : Nat := 12
def Cnt.HIF_HOST_LOST_EVENTS : Nat := 13
def Cnt.HIF_FLR : Nat := 14

/-! ### FLT -/

def Cnt.FLT_CORRECTED : Nat := 0
def Cnt.FLT_UNCORRECTED : Nat := 1
def Cnt.FLT_FATAL : Nat := 2
def Cnt.FLT_RECORDED : Nat := 3
def Cnt.FLT_CORR_SUPPRESSED : Nat := 4
def Cnt.FLT_SRC_OVF_LOST : Nat := 5
def Cnt.FLT_RING_LOST : Nat := 6
def Cnt.FLT_SHADOWED : Nat := 7
def Cnt.FLT_FENCES : Nat := 8
def Cnt.FLT_REPAIRS : Nat := 9
def Cnt.FLT_KEEPS : Nat := 10
def Cnt.FLT_EXPIRED_DEGRADED : Nat := 11
def Cnt.FLT_ESCALATED_FATAL : Nat := 12
def Cnt.FLT_INJECTED : Nat := 13
def Cnt.FLT_BB_WRITTEN : Nat := 14

/-! ### CCX -/

def Cnt.CCX_TAKEOVERS_HB : Nat := 0
def Cnt.CCX_TAKEOVERS_FENCE : Nat := 1
def Cnt.CCX_SWITCHES : Nat := 2
def Cnt.CCX_HB_PATH_FAULTS : Nat := 3
def Cnt.CCX_CLAIM_TIES : Nat := 4
def Cnt.CCX_RESTARTS : Nat := 5
def Cnt.CCX_HASP_REJECTS : Nat := 6

/-! ### TWN -/

def Cnt.TWN_ENTRIES_SENT : Nat := 0
def Cnt.TWN_ENTRIES_APPLIED : Nat := 1
def Cnt.TWN_DELTA_BATCHES : Nat := 2
def Cnt.TWN_AUX_LINES_SENT : Nat := 3
def Cnt.TWN_MIRROR_LOST : Nat := 4
def Cnt.TWN_FRAMES_RETRANSMITTED : Nat := 5
def Cnt.TWN_REJECTED_LOW_CLAIM : Nat := 6
def Cnt.TWN_SYNC_PASSES : Nat := 7
def Cnt.TWN_SYNC_ENTRIES : Nat := 8
def Cnt.TWN_PROMOTIONS : Nat := 9
def Cnt.TWN_PARTNER_LOSSES : Nat := 10
def Cnt.TWN_SPLITS : Nat := 11
def Cnt.TWN_PATH_FAULTS : Nat := 12
def Cnt.TWN_APPLY_TABLE_FULL : Nat := 13
def Cnt.TWN_APPLY_ABSENT : Nat := 14

/-! ### PCNT -/

def Cnt.PCNT_LB_NEW_PINNED : Nat := 0
def Cnt.PCNT_LB_RESELECT : Nat := 1
def Cnt.PCNT_LB_DOWN_DROP : Nat := 2
def Cnt.PCNT_LB_SERVICE_MISS : Nat := 3
def Cnt.PCNT_LB_EMPTY_GROUP : Nat := 4
def Cnt.PCNT_NAT_ALLOC : Nat := 5
def Cnt.PCNT_NAT_FREE : Nat := 6
def Cnt.PCNT_NAT_HOLD_SKIP : Nat := 7
def Cnt.PCNT_NAT_AUDIT_RECLAIM : Nat := 8
def Cnt.PCNT_NAT_NO_MAPPING : Nat := 9
def Cnt.PCNT_NAT_LOCK_TIMEOUT : Nat := 10
def Cnt.PCNT_NAT_STALE_FORWARD : Nat := 11
def Cnt.PCNT_NAT_STALE_REVERSE : Nat := 12
def Cnt.PCNT_NAT_UNSUPPORTED : Nat := 13
def Cnt.PCNT_CT_INVALID_DROP : Nat := 14
def Cnt.PCNT_CT_DENY : Nat := 15
def Cnt.PCNT_CT_NEW_DENIED : Nat := 16
def Cnt.PCNT_POL_RED_DROP : Nat := 17
def Cnt.PCNT_POL_RED_MARK : Nat := 18
def Cnt.PCNT_EXPORT_ACTIVE : Nat := 19
def Cnt.PCNT_EXPORT_END : Nat := 20
def Cnt.PCNT_EXPORT_IDLE : Nat := 21
def Cnt.PCNT_SEARCH_FENCED : Nat := 22
def Cnt.PCNT_AUX_LOST_LINE : Nat := 23
def Cnt.PCNT_LAYOUT_MISMATCH : Nat := 24

/-! ### TMB -/

def Cnt.TMB_SEARCHES : Nat := 0
def Cnt.TMB_HITS : Nat := 1
def Cnt.TMB_MISSES : Nat := 2
def Cnt.TMB_FALSE_HIT : Nat := 3
def Cnt.TMB_SCRUB_CORRECTED : Nat := 4
def Cnt.TMB_UNVERIFIED : Nat := 5
def Cnt.TMB_RESULT_CORRECTED : Nat := 6
def Cnt.TMB_MOVE_STEPS : Nat := 7
def Cnt.TMB_RECLAIMED : Nat := 8
def Cnt.TMB_INSERTS : Nat := 9
def Cnt.TMB_DELETES : Nat := 10
def Cnt.TMB_FENCED_SEARCHES : Nat := 11
def Cnt.TMB_FENCED_DISCARD : Nat := 12

/-! ### PMU -/

def Cnt.PMU_QUIESCES : Nat := 0
def Cnt.PMU_OFFS : Nat := 1
def Cnt.PMU_ONS : Nat := 2
def Cnt.PMU_REFUSED : Nat := 3
def Cnt.PMU_TEMP_WARNS : Nat := 4
def Cnt.PMU_CLK_FALLBACKS : Nat := 5

end Sys2Proof.Machine
end

