-- ==== Sys2Proof/Machine/Tables.lean ====
section
/-! DEFINITION. Sparse tables: a list of key and value pairs, keys strictly rising, no entry equal to what an unlisted key
reads as.  Every memory (DRAM, cells, host memory, flash) and every array of like things in the state has this form.
Also the small list and byte helpers that the meanings share. -/

namespace Sys2Proof.Machine

/-- A sparse table over natural-number keys. -/
abbrev Tbl (α : Type) := List (Nat × α)

/-- The value at key `k`, the first listed one, or `d` where none is listed. -/
def Tbl.get {α : Type} (d : α) : Tbl α → Nat → α
  | [], _ => d
  | (k, v) :: r, a => if a = k then v else Tbl.get d r a

/-- Insertion of a listed value at its place. -/
def Tbl.insert {α : Type} : Tbl α → Nat → α → Tbl α
  | [], a, x => [(a, x)]
  | (k, v) :: r, a, x =>
    if a < k then (a, x) :: (k, v) :: r
    else if a = k then (a, x) :: r
    else (k, v) :: Tbl.insert r a x

/-- Removal of every entry of a key. -/
def Tbl.erase {α : Type} : Tbl α → Nat → Tbl α
  | [], _ => []
  | (k, v) :: r, a => if a = k then Tbl.erase r a else (k, v) :: Tbl.erase r a

/-- Writing `x` at key `a`; writing what an unlisted key reads as removes the entry. -/
def Tbl.set {α : Type} [DecidableEq α] (d : α) (t : Tbl α) (a : Nat) (x : α) : Tbl α :=
  if x = d then t.erase a else t.insert a x

/-- Every key of the table lies above `lo`, keys rise strictly. -/
def Tbl.sortedFrom {α : Type} : Option Nat → Tbl α → Bool
  | _, [] => true
  | none, (k, _) :: r => Tbl.sortedFrom (some k) r
  | some p, (k, _) :: r => decide (p < k) && Tbl.sortedFrom (some k) r

/-- The canonical form: keys strictly rising, no entry equal to the default. -/
def Tbl.wf {α : Type} [DecidableEq α] (d : Nat → α) (t : Tbl α) : Bool :=
  t.sortedFrom none && t.all (fun e => decide (e.2 ≠ d e.1))

/-- The table with every key that satisfies `p` unlisted. -/
def Tbl.drop {α : Type} (t : Tbl α) (p : Nat → Bool) : Tbl α :=
  t.filter (fun e => !p e.1)

/-- Replaces the element at place `i` of a list (unchanged where there is none). -/
def listSet {α : Type} : List α → Nat → α → List α
  | [], _, _ => []
  | _ :: r, 0, x => x :: r
  | y :: r, n + 1, x => y :: listSet r n x

/-- The number that a list of bytes spells, most significant byte first. -/
def beNat : List Byte → Nat
  | [] => 0
  | b :: r => b.toNat * 256 ^ r.length + beNat r

/-- The number that a list of bytes spells, least significant byte first. -/
def leNat : List Byte → Nat
  | [] => 0
  | b :: r => b.toNat + 256 * leNat r

/-- `n` bytes of a number, least significant byte first. -/
def leBytes : Nat → Nat → List Byte
  | 0, _ => []
  | n + 1, x => BitVec.ofNat 8 x :: leBytes n (x / 256)

/-- `n` bytes of a number, most significant byte first. -/
def beBytes (n x : Nat) : List Byte :=
  (leBytes n x).reverse

/-- `len` bytes of a list from offset `off`, zero bytes past its end. -/
def bytesAt (l : List Byte) (off len : Nat) : List Byte :=
  ((l.drop off).take len) ++ List.replicate (len - (l.length - off)) 0#8

/-- The list with the bytes `x` written from offset `off`; zero bytes fill a gap. -/
def bytesPut (l : List Byte) (off : Nat) (x : List Byte) : List Byte :=
  (bytesAt l 0 off) ++ x ++ l.drop (off + x.length)

/-- Bytes of a memory from address `a`. -/
def memRead (m : Tbl Byte) (a : Nat) : Nat → List Byte
  | 0 => []
  | n + 1 => Tbl.get 0#8 m a :: memRead m (a + 1) n

/-- A memory with bytes stored from address `a`; the byte every unlisted address reads as is zero. -/
def memWrite (m : Tbl Byte) (a : Nat) : List Byte → Tbl Byte
  | [] => m
  | b :: r => memWrite (Tbl.set 0#8 m a b) (a + 1) r

/-- Repeats a change `n` times, the round's number counting up from zero. -/
def forUpTo {σ : Type} : Nat → (Nat → σ → σ) → σ → σ
  | 0, _, s => s
  | n + 1, f, s => f n (forUpTo n f s)

/-- Applies a change once for each element of a list, first element first. -/
def forEach {α σ : Type} : List α → (α → σ → σ) → σ → σ
  | [], _, s => s
  | x :: r, f, s => forEach r f (f x s)

/-- One for `true`, zero for `false`. -/
def bit (b : Bool) : Nat := if b then 1 else 0

/-- Two's-complement reading of an `n`-bit number. -/
def signed (n x : Nat) : Int :=
  if x % 2 ^ n < 2 ^ (n - 1) then (x % 2 ^ n : Nat) else (x % 2 ^ n : Nat) - (2 ^ n : Nat)

end Sys2Proof.Machine
end

