-- ==== Sys2Proof/Machine/PacketTypes.lean ====
section
/-! DEFINITION. The kinds of data that the block's state is made of, part 2: the packet path (ports, slices, shared
buffer, traffic managers, egress). -/

namespace Sys2Proof.Machine

/-- A time-stamp of R51: the full TOD value and MONO of the same tick. -/
structure Stamp where
  sec : Nat
  ns : Nat
  frac : Nat
  mono : Nat
  /-- The codeword-alignment delay removed from a received frame's TOD, in 2^-32 ns (R50, R59). -/
  delay : Nat
  deriving DecidableEq, Repr

/-- What a parse lane takes from the slice's registers (R66): PCFG and CLASS_MAP of the port, the classes whose FCLASS.SYM is 1, and
the frame's ingress class. -/
structure ParseCfg where
  pcfg : Word64
  classMap : Word64
  sym : Nat
  inClass : Nat
  deriving DecidableEq, Repr

/-- What the slice has made of a frame by parsing it (R70, R88). -/
structure Parsed where
  /-- The registers as the lane read them. -/
  cfg : ParseCfg
  /-- Header vector, bytes 0 to 191. -/
  hv : List Byte
  /-- The 128-bit parse summary of R70, without the colour that metering adds. -/
  summary : BitVec 128
  /-- Generation current when the result left the lane. -/
  gen : Nat
  /-- Canonical flow key of R74; empty for a frame without key layer. -/
  key : List Byte
  deriving DecidableEq, Repr

/-- A frame in a port's ingress FIFO or on its way through the slice. -/
structure IngFrame where
  /-- Bytes received so far, from the destination address on. -/
  bytes : List Byte
  /-- The last byte has arrived and every check of R43 passed. -/
  ended : Bool
  stamp : Stamp
  /-- FIFO entries the frame still holds (R45). -/
  entries : Nat
  /-- Ingress class, assigned as the frame enters the FIFO (R47). -/
  cls : Nat
  /-- The frame has begun to leave the FIFO (R292): the cells it has taken, in order. -/
  cells : Option (List Nat)
  /-- The cell check refused the frame (R292). -/
  refused : Bool
  parsed : Option Parsed
  deriving DecidableEq, Repr

/-- The frame a MAC is receiving: kept until its last byte (R43). -/
structure RxNow where
  /-- Bytes received so far. -/
  bytes : List Byte
  /-- An uncorrected codeword or PCS error has been met (R41). -/
  phyErr : Bool
  /-- The FIFO was full (R26): the frame is discarded whole. -/
  fifoFull : Bool
  /-- The frame stands at the tail of the port's FIFO. -/
  inFifo : Bool
  deriving DecidableEq, Repr

/-- A running or coming stop of a transmitter or of one priority (R48). -/
structure Stop where
  /-- The stop is running. -/
  on : Bool
  /-- MONO at which the running stop's count runs out. -/
  until_ : Nat
  /-- Counts that received frames gave and that are not yet in force, oldest first: quanta, and MONO from which each may start. -/
  next : List (Nat × Nat)
  deriving DecidableEq, Repr

/-- A flow-control frame that waits for the transmitter's next frame boundary (R46): the classes it covers and which of them it pauses. -/
structure FcFrame where
  /-- PFC rather than PAUSE. -/
  pfc : Bool
  /-- Classes covered, one bit each. -/
  cover : Nat
  /-- Classes that carry QUANTA rather than 0, one bit each; for PAUSE bit 0. -/
  pause : Nat
  deriving DecidableEq, Repr

/-- An entry of a transmit time-stamp FIFO (R61). -/
structure TxTs where
  sec : Nat
  ns : Nat
  frac : Nat
  tag : Nat
  deriving DecidableEq, Repr

/-- What a Tumbler search answers (R97). -/
inductive SearchRes where
  | miss
  | fenced
  | hit (index : Nat) (result : Word64)
  deriving DecidableEq, Repr

/-- Which search a slice's frame is at (R77, R80). -/
inductive FwdStage where
  | start | waitRoute | routed | waitAcl | done
  deriving DecidableEq, Repr

/-- A frame after its end in the slice: metered, on its way to a shard or to the TMs. -/
structure OutFrame where
  parsed : Parsed
  stamp : Stamp
  cellHead : Nat
  cellCnt : Nat
  /-- SipHash of the flow key (R74), for a flow-path frame. -/
  h : Word64
  /-- The frame takes the flow path; false for the per-packet path. -/
  flow : Bool
  /-- A flow-path frame that takes its class's fallback route (R77). -/
  fallback : Bool
  stage : FwdStage
  route : SearchRes
  acl : SearchRes
  deriving DecidableEq, Repr

/-- A TM descriptor D0 to D7 (R295). -/
structure Desc where
  summary : BitVec 128
  res0 : Word64
  tsMono : Nat
  /-- The alignment delay of the frame's ingress time-stamp (R59): the model's own. -/
  align : Nat
  res1 : Word64
  ptpTag : Nat
  gen : Nat
  sampled : Bool
  sampler : Nat
  perpkt : Bool
  outerEcn : Nat
  res2 : Word64
  cellHead : Nat
  cellCnt : Nat
  /-- The producer: shard h as h, slice s as 16 + s; the TM knows it from the Release input. -/
  src : Nat
  /-- The TM makes the forwarding copies; false where only a mirror or sample copy falls to it. -/
  own : Bool
  deriving DecidableEq, Repr

/-- Where a copy's bytes lie (R299, R300, R309). -/
inductive Body where
  /-- In the frame's own cells: head cell, cells, bytes to send. -/
  | frame (head cnt len : Nat)
  /-- In one cell of its own, a truncated copy. -/
  | own (cell len : Nat)
  /-- In a pool buffer: pool, index, length. -/
  | pool (pool index len : Nat)
  deriving DecidableEq, Repr

/-- A copy in a queue, in an egress FIFO or being sent. -/
structure Copy where
  desc : Desc
  body : Body
  /-- Cells it counts in its queue's depth. -/
  n : Nat
  /-- Logical port it leaves by (512 for a host queue). -/
  port : Nat
  /-- Queue class it is served at. -/
  cls : Nat
  /-- Admitted with a CE mark (R302). -/
  ce : Bool
  /-- Sent unedited: a mirror or sample copy (R329). -/
  raw : Bool
  /-- MONO at admission (R326). -/
  mono : Nat
  deriving DecidableEq, Repr

/-- The frame a transmitter is sending. -/
structure TxNow where
  copy : Copy
  /-- The bytes that go to the wire, FCS included. -/
  bytes : List Byte
  /-- The link was up when the frame's bytes left (R44). -/
  linkDown : Bool
  deriving DecidableEq, Repr

/-- One logical port P(n).h, number 2n + h. -/
structure PortSt where
  rx : Option RxNow
  /-- Frames in the ingress FIFO, head first. -/
  fifo : List IngFrame
  /-- Frames past their end that the slice has still to send, oldest first. -/
  out : List OutFrame
  /-- Total XOFF has been crossed and XON not yet (R46). -/
  xoff : Bool
  /-- Classes beyond their XOFF, one bit each (R47). -/
  xoffCls : Nat
  /-- Flow-control frames that wait for a frame boundary, oldest first. -/
  fcPend : List FcFrame
  /-- MONO at the last flow-control frame sent. -/
  fcLast : Nat
  /-- Stops: priorities 0 to 7, PAUSE 8. -/
  stops : Tbl Stop
  /-- The port signals a remote fault to its partner (R44). -/
  remoteFault : Bool
  txts : List TxTs
  /-- Descriptor FIFOs of the egress slice by class (R318). -/
  egr : Tbl (List Copy)
  /-- Classes whose head has been counted in GATE_WAITS (R323), one bit each. -/
  gateWaited : Nat
  tx : Option TxNow
  /-- The last frame the transmitter has put on the wire. -/
  wire : List Byte
  deriving DecidableEq, Repr

/-- Where a cell stands (R291); an unlisted cell is on the device's free list. -/
inductive CellUse where
  | free | cached (slice : Nat) | inFlight | queued | withdrawn
  deriving DecidableEq, Repr

/-- The shared buffer (R289 to R294). -/
structure BufSt where
  /-- Cell contents, byte o of cell c at 256c + o. -/
  bytes : List Host.Cell
  use : Tbl CellUse
  /-- The link table: next cell. -/
  link : Tbl Nat
  /-- The frame table: reference count of a head cell. -/
  refs : Tbl Nat
  /-- Head cells whose frame-table entry failed: their cells are withdrawn when the first copy leaves (R294). -/
  badFrame : Tbl Bool
  /-- Head cells whose frame-table entry has an uncorrectable error that nothing has read yet (R294). -/
  frameUe : Tbl Bool
  /-- Cells whose link-table entry failed: the frame ends there (R294). -/
  badLink : Tbl Bool
  /-- Lowest FREE since the last read of BUF.LOW; `none` while nothing has been taken or freed since. -/
  low : Option Nat
  deriving DecidableEq, Repr

/-- A sampler's offers since its last selection (R310). -/
structure Sampler where
  count : Nat
  deriving DecidableEq, Repr

/-- The active or pending gate control list of a port (R321 to R325). -/
structure GateList where
  bank : Nat
  len : Nat
  /-- Takeover time in whole nanoseconds of TOD. -/
  start : Nat
  deriving DecidableEq, Repr

/-- The gates of a logical port. -/
structure GateSt where
  active : Option GateList
  pending : Option GateList
  /-- The bank that an unarmed list would take: the inactive one. -/
  bank : Nat
  deriving DecidableEq, Repr

/-- A shaper's tokens in 2^-16 bytes (R319). -/
structure Bucket where
  tokens : Int
  deriving DecidableEq, Repr

/-- A next-hop edit entry N0 to N3 (R327). -/
structure NhEntry where
  n0 : Word64
  n1 : Word64
  n2 : Word64
  n3 : Word64
  deriving DecidableEq, Repr

/-- The traffic managers; every key carries the quadrant. -/
structure TmSt where
  /-- Release inputs, key 32q + i (R296). -/
  relIn : Tbl (List Desc)
  /-- Input served last, by q. -/
  lastIn : Tbl Nat
  /-- Queues, head first, key 656q + u (R297). -/
  queues : Tbl (List Copy)
  /-- Host queue served last, by q (R299). -/
  lastHost : Tbl Nat
  /-- Logical port picked last, by q (R316). -/
  lastPort : Tbl Nat
  /-- Queue picked last, key (128q + lp) · 8 + class (R316). -/
  lastQueue : Tbl Nat
  /-- Member bitmaps, key 65536q + group (R306). -/
  members : Tbl (BitVec 128)
  /-- QMASK by group (R306). -/
  qmask : Tbl Nat
  /-- Samplers by index (R310). -/
  samplers : Tbl Sampler
  /-- Shaper buckets: queue 656q + u, port 4096 + 128q + lp; unlisted is full (R319). -/
  buckets : Tbl (Option Bucket)
  /-- Gate list entries, key ((128q + lp) · 2 + bank) · 256 + i: GATES + 256 · INTERVAL_NS. -/
  gcl : Tbl Nat
  /-- Gates by 128q + lp. -/
  gates : Tbl GateSt
  /-- Next-hop entries, key 262144q + i (R327). -/
  nh : Tbl NhEntry
  /-- MONO of the last Gauge sweep, by q (R326). -/
  gaugeAt : Tbl Nat
  /-- The host queue at whose head a frame waits for a pool buffer, and MONO of the last attempt (R283), by q. -/
  hostWait : Tbl (Option (Nat × Nat))
  deriving DecidableEq, Repr

/-- A learn event (R84). -/
structure LearnEvent where
  bd : Nat
  mac : Nat
  port : Nat
  ct : Nat
  s : Nat
  deriving DecidableEq, Repr

/-- A MAC table entry (R82). -/
structure MacEntry where
  mac : Nat
  bd : Nat
  valid : Bool
  static_ : Bool
  locked : Bool
  hit : Bool
  port : Nat
  moves : Nat
  moveEpoch : Nat
  lockExp : Nat
  agedOnce : Bool
  lastSeen : Nat
  deriving DecidableEq, Repr

/-- A running MAC_CMD FLUSH (R87): its filter and how many buckets of the pass are left. -/
structure MacFlush where
  filter : Nat
  port : Nat
  bd : Nat
  left : Nat
  deriving DecidableEq, Repr

/-- The policer buckets (R78) in units of 1 ÷ 6,400,000 byte, with the MONO at which they were last brought up to date. -/
structure Meter where
  c : Nat
  p : Nat
  mono : Nat
  deriving DecidableEq, Repr

/-- The slices and the MAC tables. -/
structure SliceSt where
  /-- Policers, key 256s + p; unlisted is full. -/
  meters : Tbl (Option Meter)
  /-- Learn FIFOs by slice, oldest first, at most 64 (R84). -/
  learn : Tbl (List LearnEvent)
  /-- Slice that the learn bus served last. -/
  lastSlice : Nat
  /-- Learner queues by quadrant, at most 1,024 (R84). -/
  learners : Tbl (List LearnEvent)
  /-- MAC tables, key 524288q + 8 · bucket + way. -/
  macs : Tbl MacEntry
  /-- Bucket the walker visits next, by quadrant (R86). -/
  walker : Tbl Nat
  /-- The walker's pass applies sweeper aging, by quadrant (R86). -/
  aging : Tbl Bool
  /-- MONO at which a quadrant's last aging pass started. -/
  lastAging : Tbl Nat
  /-- Running FLUSH, by quadrant (R87). -/
  flush : Tbl (Option MacFlush)
  /-- Static MAC entries of the admitted image, which a power-up reloads (R434): (quadrant, index, entry). -/
  imageMacs : List (Nat × Nat × MacEntry)
  deriving DecidableEq, Repr

end Sys2Proof.Machine
end

