-- ==== Sys2Proof/Machine/FlowTypes.lean ====
section
/-! DEFINITION. The kinds of data that the block's state is made of, part 3: the Tumbler arrays, the Hank shards with
their schedulers, engines and Wards. -/

namespace Sys2Proof.Machine

/-! ### Tumbler (R91 to R111) -/

/-- An entry of an array as its shadow and result RAM hold it (R93). -/
structure TmbEntry where
  key : BitVec 320
  mask : BitVec 320
  prio : Nat
  gens : BitVec 4
  valid : Bool
  disabled : Bool
  result : Word64
  deriving DecidableEq, Repr

/-- A running INSERT with its block move (R109, R110). -/
structure TmbInsert where
  table : Nat
  /-- Final place of the new entry. -/
  target : Nat
  /-- The free location as it stands now. -/
  hole : Nat
  /-- Move steps made. -/
  steps : Nat
  entry : TmbEntry
  deriving DecidableEq, Repr

/-- What the device-wide generation control is doing (R105). -/
inductive GenRun where
  | idle | openWait | copying | commitWait | abortWait | sweeping
  deriving DecidableEq, Repr

/-- Whom a search serves: the head of a port's outgoing frames, a thread of a shard, or a shard's fallback unit. -/
inductive SearchClient where
  | slice (p : Nat)
  | thread (th : Nat)
  | fallback
  deriving DecidableEq, Repr

/-- A search that waits for a grant (R96, R97). -/
structure SearchReq where
  table : Nat
  key : BitVec 320
  gen : Nat
  client : SearchClient
  deriving DecidableEq, Repr

/-- The Tumbler arrays. -/
structure TumblerSt where
  /-- Entries, key 262144q + physical index. -/
  ents : Tbl TmbEntry
  /-- Running INSERT by quadrant. -/
  inserts : Tbl (Option TmbInsert)
  run : GenRun
  /-- Slots that a retirement sweep is clearing, one bit each (R107). -/
  retiring : Nat
  /-- Waiting searches, key 8q + requester: slices 0 to 3, shards 4 to 7 (R96). -/
  searches : Tbl (List SearchReq)
  /-- Requester granted last, by quadrant. -/
  lastReq : Tbl Nat
  /-- Scrubber row cursors by quadrant (R102). -/
  scrubRow : Tbl Nat
  deriving DecidableEq, Repr

/-! ### Work items (R148) -/

/-- A work item: the fields of its descriptor, its header vector, and the shard's arrival rank, unique in the shard. -/
structure Item where
  rank : Nat
  summary : BitVec 128
  h : Word64
  tsMono : Nat
  /-- The alignment delay of the frame's ingress time-stamp (R59): the model's own. -/
  align : Nat
  tsNs : Nat
  tsSec : Nat
  seq : Nat
  gen : Nat
  srcSlice : Nat
  aging : Bool
  late : Bool
  group : Nat
  deadline : Nat
  cellHead : Nat
  cellCnt : Nat
  hv : List Byte
  deriving DecidableEq, Repr

/-- Why an item ends without a committed result (R159). -/
inductive EndReason where
  | expiredQueued | expiredRunning | expiredParked | deadlock | debug | recordLost | noResult
  deriving DecidableEq, Repr

/-- What a complete reorder-store entry does at release: the program's result, TABLE_FULL or DEADLINE (R166). -/
inductive Verdict where
  | result (r0 r1 r2 r3 : Word64)
  | tableFull
  | deadline (why : EndReason)
  deriving DecidableEq, Repr

/-- The fallback unit's work on one item (R167). -/
inductive FbStage where
  | none | waitRoute | routed | waitAcl | forward | punt | fenced
  deriving DecidableEq, Repr

/-- An entry of the reorder store. -/
structure RoEntry where
  item : Item
  verdict : Option Verdict
  /-- The item's record read returned TABLE_FULL (R166). -/
  tableFull : Bool
  stage : FbStage
  route : SearchRes
  acl : SearchRes
  deriving DecidableEq, Repr

/-- An order group (R153, R155); expiry is held since a MONO value (R171). -/
structure Group where
  nextSeq : Nat
  nextRel : Nat
  entries : List RoEntry
  heldSince : Option Nat
  deriving DecidableEq, Repr

/-! ### Threads (R174 to R178) -/

structure AluFlags where
  z : Bool
  c : Bool
  n : Bool
  deriving DecidableEq, Repr

/-- The outcome of a record read (R133). -/
inductive RecOutcome where
  | none | found | created | absent | tableFull
  deriving DecidableEq, Repr

inductive SrchStatus where
  | none | hit | miss | fenced
  deriving DecidableEq, Repr

inductive LockStatus where
  | none | acquired | failed
  deriving DecidableEq, Repr

inductive WakeStatus where
  | none | event | timer | broken
  deriving DecidableEq, Repr

/-- Where a thread's record read stands (R130, R162). -/
inductive ReadStage where
  /-- No read outstanding. -/
  | none
  /-- At the shard's record port. -/
  | port
  /-- Waiting for a record entry (R127). -/
  | entry
  /-- In a record entry's queue, stalled for a park buffer since a MONO value (R164). -/
  | park (since : Nat)
  /-- In a record entry's queue, its request for a park buffer waiting for a refill (R282). -/
  | poolWait
  /-- The record or the outcome has arrived and waits to be taken over by the thread (REC_READ_DONE). -/
  | done (o : RecOutcome)
  deriving DecidableEq, Repr

/-- What a sleeping thread sleeps for (R192, R197). -/
inductive Sleep where
  | awake
  | event (m : Nat) (v : Word64)
  | timer
  | lock (l : Nat)
  deriving DecidableEq, Repr

/-- What has ended the wait of a halted thread, to take effect when it resumes (R201): a lock grant, the failure of a lock acquire
by the timer, or a wake. -/
inductive Due where
  | granted
  | late
  | woken (w : WakeStatus)
  deriving DecidableEq, Repr

/-- An auxiliary access under way, and its answer (R190): `cas` is the word of a CASX, `line` is `none` for a lost line. -/
inductive AuxStage where
  | none
  | waiting (cas : Option Nat)
  | answered (cas : Option Nat) (ok : Bool) (line : Option (List Word64))
  deriving DecidableEq, Repr

/-- What a standard program's item meets as its READ completes (R222): the read's outcome, the freshness of the cached forwarding,
the record's words, the class's PUNT_QUEUE, whether the record's class has a program of this layout, the program of the item's
class (which AGE serves), and RING_ENTRIES. -/
structure StdEnv where
  outcome : RecOutcome
  fresh : Bool
  rb : List Word64
  punt : Nat
  sameLayout : Bool
  served : Option StdProg
  ring : Nat
  deriving DecidableEq, Repr

/-- What an action of a standard program has answered: the record, a line of an auxiliary region and whether it was lost, a
search, a value, a lock, or nothing. -/
inductive StdObs where
  | record (e : StdEnv)
  | line (lost : Bool) (l : List Word64)
  | search (st : SrchStatus) (r : Word64)
  | value (v : Word64)
  | locked (ok : Bool)
  | done
  deriving DecidableEq, Repr

/-- A thread of an engine. -/
structure Thread where
  item : Option Item
  pc : Nat
  g : List Word64
  key : List Byte
  klen : Nat
  hbase : Nat
  aux : List Word64
  rb : List Word64
  res : List Word64
  resMask : Nat
  committed : Bool
  msg : List Word64
  msgMask : Nat
  mbox : Nat
  cmp : Nat
  armed : Bool
  fired : Bool
  stack : List Nat
  fa : AluFlags
  fb : AluFlags
  recSt : RecOutcome
  fresh : Bool
  srch : SrchStatus
  lock : LockStatus
  wake : WakeStatus
  cas : Option Bool
  auxLost : Bool
  /-- The item's READ has been issued. -/
  readUsed : Bool
  /-- The thread holds its record. -/
  hold : Bool
  /-- The item's record read returned TABLE_FULL. -/
  wasFull : Bool
  locks : List Nat
  read : ReadStage
  auxSt : AuxStage
  /-- A search is outstanding. -/
  srchWait : Bool
  /-- G registers that the stalled microword's higher units wrote (R181), one bit each. -/
  keep : Nat
  sleep : Sleep
  /-- The end of the wait that is recorded while the thread is halted (R201). -/
  due : Option Due
  /-- MONO at which the thread last fell asleep or resumed from a halt asleep (R203). -/
  since : Nat
  /-- The program ends when the microword's operations complete (R184). -/
  ending : Bool
  /-- An abort waits for the boundary (R201). -/
  abort : Option EndReason
  /-- A halt waits for the boundary: its cause (R205). -/
  haltReq : Option Nat
  halted : Bool
  haltCause : Nat
  /-- A STEP is under way. -/
  stepping : Bool
  itemEnded : Bool
  /-- MONO since which the expiry of an aging item is held (R171). -/
  heldAt : Option Nat
  /-- The thread has resumed from the breakpoint at its address, which does not halt it again. -/
  bpSkip : Bool
  /-- What the actions of a standard program have answered so far (R222), and whether an action's answer is still to be taken. -/
  std : List StdObs
  stdAsked : Bool
  deriving DecidableEq, Repr

/-! ### Hank store (R113 to R147) -/

/-- Who holds a record (R135): a work item by its rank, the sweeper for an aging item, or a host command. -/
inductive Holder where
  | item (rank : Nat)
  | sweeper
  | host
  deriving DecidableEq, Repr

/-- A record's place in DRAM (R119, R120): a slot number of its home bucket, or a stash index. -/
structure Place where
  stash : Bool
  slot : Nat
  deriving DecidableEq, Repr

/-- Role of a way (R122). -/
inductive WayRole where
  | short | head | tail
  deriving DecidableEq, Repr

/-- A way of the hot tier with its tag (R122). -/
structure Way where
  valid : Bool
  h60 : Nat
  role : WayRole
  ref : Bool
  held : Option Holder
  filling : Bool
  evicting : Bool
  place : Place
  words : List Word64
  deriving DecidableEq, Repr

/-- An entry of the eviction buffer (R128): the record's 8 or 16 words. -/
structure Evicted where
  h60 : Nat
  words : List Word64
  place : Place
  /-- The DMC has accepted its write; it stays only for a reclaim under way (R130). -/
  written : Bool
  /-- A reclaim waits for a way. -/
  reclaim : Bool
  /-- A running FLUSH waits for its write (R145). -/
  flush : Bool
  deriving DecidableEq, Repr

/-- Who waits in a record entry's queue. -/
inductive Waiter where
  | item (rank : Nat)
  | host
  | sweeper
  deriving DecidableEq, Repr

/-- How far a record entry is (R127, R131, R133). -/
inductive EntryStage where
  /-- A WAIT entry: the record is held. -/
  | held
  /-- The fetch has still to run. -/
  | fetch
  /-- The fetch has ended: outcome, the record's words, its place, and whether it is a fill from the eviction buffer. -/
  | fetched (o : RecOutcome) (words : List Word64) (place : Place) (evb : Bool)
  /-- The record stands in the hot tier, or needs no way: the outcome waits to be delivered. -/
  | ready (o : RecOutcome)
  deriving DecidableEq, Repr

structure RecEntry where
  h : Word64
  stage : EntryStage
  /-- Key, class and creation as the head asked when the fetch began. -/
  key : List Byte
  cls : Nat
  create : Bool
  swap : Bool
  queue : List Waiter
  /-- Its fill has been counted in SET_FULL_WAITS (R126). -/
  waited : Bool
  deriving DecidableEq, Repr

/-- A parked item (R162): the item, and the pool-1 buffer that holds it with the saved context (R202). -/
structure Parked where
  item : Item
  index : Nat
  /-- The outcome delivered to it; `none` while it waits. -/
  outcome : Option RecOutcome
  /-- It stands in the resume queue. -/
  queued : Bool
  deriving DecidableEq, Repr

/-- An entry of the stash directory (R120). -/
structure StashEntry where
  h60 : Nat
  /-- Head of a long record at an even index; `tail` its second slot; `withdrawn` a lost slot (R269). -/
  long : Bool
  tail : Bool
  withdrawn : Bool
  deriving DecidableEq, Repr

/-- The operations of REC_CMD that hold the record (R145). -/
inductive HostOp where
  | lookup | write | delete | flush
  deriving DecidableEq, Repr

/-- A running REC_CMD (R145): the hash, the key, the class, and MONO at the command. -/
inductive HostRec where
  | none
  | run (op : HostOp) (h : Word64) (key : List Byte) (cls at_ : Nat)
  deriving DecidableEq, Repr

/-- The sweeper (R140). -/
structure Sweeper where
  running : Bool
  hot : Nat
  dram : Nat
  hotDone : Bool
  dramDone : Bool
  /-- MONO at which the pass began. -/
  began : Nat
  /-- The pass applies sweeper-mode aging. -/
  aging : Bool
  /-- A SWEEP_PERIOD_MS has expired and the next pass ages; MONO of the expiry. -/
  due : Option Nat
  lastPeriod : Nat
  /-- The aging item in the one-item input. -/
  input : Option Item
  /-- An aged record whose hold the sweeper has, waiting for the input: its h and key. -/
  waiting : Option (Word64 × List Byte)
  /-- An aged DRAM record that is being brought in as a fill (R141): its h and key. -/
  fill : Option (Word64 × List Byte)
  /-- Class of that record. -/
  fillCls : Nat
  deriving DecidableEq, Repr

/-- A Ward lock (R192): its owner and its queue. -/
structure WLock where
  owner : Option Nat
  queue : List Nat
  deriving DecidableEq, Repr

/-- One Hank shard. -/
structure ShardSt where
  /-- Crossbar inputs 0 to 15 (R151). -/
  inputs : Tbl (List Item)
  lastInput : Nat
  nextRank : Nat
  ready : List Item
  /-- Parked items; those of the resume queue are marked. -/
  parked : List Parked
  groups : Tbl Group
  lastGroup : Nat
  /-- MONO of the last release, and how many the cycle has released so far (R168). -/
  relAt : Nat
  relCount : Nat
  threads : Tbl Thread
  /-- Record port: threads and host commands in order of arrival. -/
  recPort : List Waiter
  /-- Reads that wait for a record entry, in the order of their reads (R127). -/
  entryWait : List Waiter
  ways : Tbl Way
  hands : Tbl Nat
  evb : List Evicted
  entries : List RecEntry
  stash : Tbl StashEntry
  sweep : Sweeper
  host : HostRec
  /-- Ways whose dirty record a running FLUSH has still to write (R145). -/
  flush : List Nat
  locks : Tbl WLock
  events : Tbl Word64
  mail : Tbl Word64
  store : Tbl Microword
  /-- Microword that the control-store scrubber reads next. -/
  mcRow : Nat
  deriving DecidableEq, Repr

end Sys2Proof.Machine
end

