-- ==== Sys2Proof/Machine/MemTypes.lean ====
section
/-! DEFINITION. The kinds of data that the block's state is made of, part 4: the DRAM tier, the buffer pools and twin mode. -/

namespace Sys2Proof.Machine

/-- What a queued DRAM request does to its line (R258 to R260). -/
inductive DmcOp where
  | read
  | write (line : List Byte)
  /-- Compare and swap of word `w` of the line (R190). -/
  | cas (w : Nat) (expect new : Word64)
  deriving DecidableEq, Repr

/-- A request of a shard's thread (number 512h + 16e + t) that waits for a subchannel or in its read queue. -/
structure DmcReq where
  /-- Device line number, address ÷ 64. -/
  line : Nat
  op : DmcOp
  thread : Nat
  /-- For a queued read: the line's bytes when it was accepted (R259); `none` for a lost line. -/
  data : Option (List Byte)
  /-- A write of a mirrored class to a mirrored region (R418): region and line of the region. -/
  mirror : Option (Nat × Nat)
  deriving DecidableEq, Repr

/-- One subchannel (R258 to R263). -/
structure DmcSub where
  /-- Requests that wait at their requesters, in the order they were made. -/
  waiting : List DmcReq
  readQ : List DmcReq
  /-- Lines of the accepted writes that have not been issued. -/
  writeQ : List Nat
  /-- Those of them that background requests queued (R258). -/
  bg : List Nat
  /-- The requester served last (R258). -/
  last : Nat
  /-- A write phase runs (R261). -/
  draining : Bool
  /-- Open row by bank, and MONO of the bank's last access; unlisted: closed. -/
  rows : Tbl (Option (Nat × Nat))
  /-- Next line of the scrubber and its completed passes (R267), MONO of its last line. -/
  scrub : Nat
  scrubPasses : Nat
  scrubAt : Nat
  /-- Migration cursor (R270, R271). -/
  cursor : Nat
  deriving DecidableEq, Repr

/-- Where a frequency change stands (R273). -/
inductive FreqRun where
  | idle | draining | selfRefresh
  deriving DecidableEq, Repr

/-- The DRAM tier. -/
structure DramSt where
  /-- The last accepted write of every byte of the device space (R254, R259); unlisted bytes are 0 (R256). -/
  bytes : List Host.Cell
  /-- Lines that read as lost: poison, or found uncorrectable (R269, R270). -/
  poison : Tbl Bool
  /-- Subchannels, key 2c + s. -/
  subs : Tbl DmcSub
  /-- MONO of each rank's last refresh, key 4c + r, and ranks that report a need above the 1x rate (R264). -/
  refreshAt : Tbl Nat
  /-- The bank of each group that a rank refreshes next (R264). -/
  refreshBank : Tbl Nat
  hot : Tbl Bool
  freq : FreqRun
  /-- MONO of the accepted GO, and the target it named. -/
  freqAt : Nat
  freqTo : Nat
  deriving DecidableEq, Repr

/-- A quadrant's cache of one pool (R281, R282). -/
structure PoolCache where
  /-- Free pointers, the next to grant first. -/
  free : List Nat
  /-- Requester granted last. -/
  last : Nat
  /-- Requesters whose request waits for a refill or for its turn. -/
  asks : List Nat
  /-- Frees that wait for room: requester and pointer. -/
  frees : List (Nat × Nat)
  deriving DecidableEq, Repr

/-- A pool's ring in DRAM (R279, R281): its lines in use. -/
structure PoolRing where
  /-- Line that is read next. -/
  head : Nat
  /-- Lines that hold pointers. -/
  lines : Nat
  deriving DecidableEq, Repr

/-- The buffer pool manager (R278 to R288). -/
structure PoolSt where
  /-- Caches, key 4q + p. -/
  caches : Tbl PoolCache
  rings : Tbl PoolRing
  /-- Pool-1 metadata bytes, on chip (R278). -/
  meta1 : Tbl Nat
  /-- Bytes of the park memory (R278), byte o of pool-1 buffer i at 512i + o. -/
  park : Tbl Byte
  /-- Lowest FREE since the last read of POOL_STATUS[p]; `none` while nothing has changed. -/
  low : Tbl (Option Nat)
  deriving DecidableEq, Repr

/-! ### Twin mode (R415 to R425) -/

/-- A record of a shard's delta table (R418): what names it in an entry, and the change of each CFIELD field. -/
structure DeltaRec where
  h : Word64
  /-- Bytes 0 to 55 of its entry (R374, R419). -/
  head : List Byte
  fields : List Nat
  deriving DecidableEq, Repr

/-- A mirror frame (R419, R420): the sender's claim and sequence number, and its entries with the sender's shard. -/
structure TwinFrame where
  claim : Nat
  seq : Nat
  entries : List (Nat × List Byte)
  deriving DecidableEq, Repr

/-- A frame that the partner has not acknowledged, and MONO at which it was sent last (R415). -/
structure TwinSent where
  frame : TwinFrame
  at_ : Nat
  deriving DecidableEq, Repr

/-- Where a sync pass stands (R423): buckets and stash of the shards in order, then the lines of the mirrored regions. -/
structure SyncPass where
  shard : Nat
  slot : Nat
  region : Nat
  line : Nat
  deriving DecidableEq, Repr

/-- The 96-bit heartbeat of R415: claim, ROLE, SYNC and PROMOTIONS. -/
structure TwinHeartbeat where
  claim : Nat
  role : Nat
  sync : Nat
  promotions : Nat
  deriving DecidableEq, Repr

/-- Twin mode beside the TWN registers. -/
structure TwinSt where
  /-- Mirror queues by shard, oldest entry first, at most 8,192 (R419). -/
  queues : Tbl (List (List Byte))
  /-- Delta tables by shard, oldest record first, at most 4,096 (R418). -/
  deltas : Tbl (List DeltaRec)
  /-- MONO of the last batch, by shard. -/
  batchAt : Tbl Nat
  /-- Queue the link served last. -/
  lastShard : Nat
  /-- Sequence number of the next frame to send, and of the next to receive. -/
  txSeq : Nat
  rxSeq : Nat
  unacked : List TwinSent
  /-- Accepted entries that wait to be applied, with their shard (R421). -/
  apply : List (Nat × List Byte)
  /-- Entries lost since the last TWIN_DESYNC message's count. -/
  lost : Nat
  /-- MONO of the last heartbeat heard on the link and on the sideband. -/
  linkAt : Option Nat
  sideAt : Option Nat
  /-- MONO of the last heartbeat sent on the link and on the sideband. -/
  linkSent : Option Nat
  sideSent : Option Nat
  /-- Heartbeat sent last. -/
  sent : Option TwinHeartbeat
  /-- Heartbeats have been exchanged and the comparison of R416 has been made. -/
  paired : Bool
  /-- The running sync pass. -/
  pass : Option SyncPass
  deriving DecidableEq, Repr

end Sys2Proof.Machine
end

