-- ==== Sys2Proof/Config.lean ====
section
/-! DEFINITION. What an implementation fixes and what the spec leaves open: constants without a body, so that nothing
proved about the block rests on a value of them. -/

namespace Sys2Proof

/-- The free values: the n-th value that the spec leaves open (assumption log 2). -/
opaque Config.freeValue : Nat → Word64

/-- GLB.ID.STEPPING, "per silicon" (R440): it never exceeds 0x0F. -/
opaque Config.stepping : BitVec 4

/-- GLB.ID.VARIANT, "per part" (R440): false is S9102-C, true is S9102-E. -/
opaque Config.variantE : Bool

/-- The ROM firmware of the complexes, which runs in the factory layer (R405). -/
opaque Config.romFirmware : List (BitVec 8)

/-- The next-hop entry with the service address and port to which BALANCE_RETURN rewrites the source, by backend and group (R231,
assumption log 77): no rule says where the program takes it from. -/
opaque Config.serviceEntry (backend group : Nat) : BitVec 20

end Sys2Proof
end

