-- ==== Sys2Proof/Machine/Regs.lean ====
section
/-! DEFINITION. BAR0 addresses of the registers (R456, R457) and of their bit fields, generated from the register
tables of the spec (the rule of each block stands at its heading).  `Reg.<BLOCK>_<NAME>` takes the block's index where the block has
several, then the register's own indices in the order of the table; `Fld.<BLOCK>_<NAME>_<FIELD>` is lowest bit and width. -/

namespace Sys2Proof.Machine


/-! ### GLB (R440, R464) -/

def Reg.GLB_ID : Nat := 0x0
def Fld.GLB_ID_PART : Fld := ⟨0, 16⟩
def Fld.GLB_ID_STEPPING : Fld := ⟨16, 8⟩
def Fld.GLB_ID_VARIANT : Fld := ⟨24, 1⟩
def Reg.GLB_CTL : Nat := 0x8
def Fld.GLB_CTL_SHUTDOWN : Fld := ⟨0, 1⟩
def Reg.GLB_STATUS : Nat := 0x10
def Fld.GLB_STATUS_SAFE_OFF : Fld := ⟨0, 1⟩
def Fld.GLB_STATUS_DEV_READY : Fld := ⟨1, 1⟩
def Reg.GLB_RESET_CNT : Nat := 0x18
def Fld.GLB_RESET_CNT_SYS_RESET : Fld := ⟨0, 16⟩
def Fld.GLB_RESET_CNT_PERST : Fld := ⟨16, 16⟩
def Fld.GLB_RESET_CNT_HOT_FLR : Fld := ⟨32, 16⟩
def Fld.GLB_RESET_CNT_SOFT : Fld := ⟨48, 16⟩
def Reg.GLB_SCRATCH : Nat := 0x20
def Fld.GLB_SCRATCH_VALUE : Fld := ⟨0, 64⟩
def Reg.GLB_BAD_ACCESS : Nat := 0x28
def Fld.GLB_BAD_ACCESS_COUNT : Fld := ⟨0, 64⟩
def Reg.GLB_BAD_LAST : Nat := 0x30
def Fld.GLB_BAD_LAST_ADDR : Fld := ⟨0, 28⟩
def Fld.GLB_BAD_LAST_WRITE : Fld := ⟨32, 1⟩
def Fld.GLB_BAD_LAST_LEN : Fld := ⟨33, 6⟩
def Fld.GLB_BAD_LAST_CAUSE : Fld := ⟨40, 2⟩
def Fld.GLB_BAD_LAST_VALID : Fld := ⟨63, 1⟩

/-! ### CST (R356) -/

def Reg.CST_CTL : Nat := 0x10000
def Fld.CST_CTL_RECAST : Fld := ⟨0, 1⟩
def Fld.CST_CTL_CONFIRM : Fld := ⟨1, 1⟩
def Fld.CST_CTL_CNT_CLR : Fld := ⟨16, 1⟩
def Reg.CST_STATUS : Nat := 0x10008
def Fld.CST_STATUS_PHASE : Fld := ⟨0, 4⟩
def Fld.CST_STATUS_LAYER : Fld := ⟨4, 2⟩
def Fld.CST_STATUS_TRIAL : Fld := ⟨6, 1⟩
def Fld.CST_STATUS_DONE : Fld := ⟨7, 1⟩
def Fld.CST_STATUS_JNL_FAIL : Fld := ⟨8, 1⟩
def Fld.CST_STATUS_REFUSED_SEEN : Fld := ⟨9, 1⟩
def Fld.CST_STATUS_RECAST_ERR : Fld := ⟨10, 1⟩
def Fld.CST_STATUS_REVERTED : Fld := ⟨11, 1⟩
def Fld.CST_STATUS_CAUSE : Fld := ⟨12, 3⟩
def Reg.CST_IMAGE : Nat := 0x10010
def Fld.CST_IMAGE_VERSION : Fld := ⟨0, 64⟩
def Reg.CST_IMAGE_INFO : Nat := 0x10018
def Fld.CST_IMAGE_INFO_SVN : Fld := ⟨0, 8⟩
def Fld.CST_IMAGE_INFO_CONFIRM_S : Fld := ⟨8, 16⟩
def Fld.CST_IMAGE_INFO_RUNTIME_ADMIT : Fld := ⟨24, 1⟩
def Fld.CST_IMAGE_INFO_DIGEST : Fld := ⟨32, 32⟩
def Reg.CST_ATTEMPT (a : Nat) : Nat := 0x10020 + 0x8 * a
def Fld.CST_ATTEMPT_CODE : Fld := ⟨0, 16⟩
def Fld.CST_ATTEMPT_OBJ_KIND : Fld := ⟨16, 4⟩
def Fld.CST_ATTEMPT_OBJ_INDEX : Fld := ⟨20, 28⟩
def Fld.CST_ATTEMPT_SLOT : Fld := ⟨48, 2⟩
def Fld.CST_ATTEMPT_VALID : Fld := ⟨63, 1⟩
def Reg.CST_ATTEMPT_VAL (a : Nat) : Nat := 0x10030 + 0x8 * a
def Fld.CST_ATTEMPT_VAL_DEMAND : Fld := ⟨0, 32⟩
def Fld.CST_ATTEMPT_VAL_LIMIT : Fld := ⟨32, 32⟩
def Reg.CST_TIME : Nat := 0x10040
def Fld.CST_TIME_LAST_MS : Fld := ⟨0, 32⟩
def Reg.CST_FUSE_STATUS : Nat := 0x10048
def Fld.CST_FUSE_STATUS_KEY_STATE : Fld := ⟨0, 2⟩
def Fld.CST_FUSE_STATUS_BANK : Fld := ⟨2, 1⟩
def Fld.CST_FUSE_STATUS_SVN_MIN : Fld := ⟨8, 7⟩
def Reg.CST_FUSE_CMD : Nat := 0x10050
def Fld.CST_FUSE_CMD_OP : Fld := ⟨0, 2⟩
def Fld.CST_FUSE_CMD_ERR : Fld := ⟨62, 1⟩
def Fld.CST_FUSE_CMD_BUSY : Fld := ⟨63, 1⟩
def Reg.CST_FUSE_DATA (i : Nat) : Nat := 0x10058 + 0x8 * i
def Fld.CST_FUSE_DATA_BYTES : Fld := ⟨0, 64⟩
def Reg.CST_FUSE_HASH (i : Nat) : Nat := 0x10088 + 0x8 * i
def Fld.CST_FUSE_HASH_BYTES : Fld := ⟨0, 64⟩
def Reg.CST_ADM_FAE : Nat := 0x100c0
def Fld.CST_ADM_FAE_DEMAND : Fld := ⟨0, 32⟩
def Fld.CST_ADM_FAE_LIMIT : Fld := ⟨32, 32⟩
def Reg.CST_ADM_MISS : Nat := 0x100c8
def Fld.CST_ADM_MISS_DEMAND : Fld := ⟨0, 32⟩
def Fld.CST_ADM_MISS_LIMIT : Fld := ⟨32, 32⟩
def Reg.CST_ADM_TUMBLER (q : Nat) : Nat := 0x100d0 + 0x8 * q
def Fld.CST_ADM_TUMBLER_DEMAND : Fld := ⟨0, 32⟩
def Fld.CST_ADM_TUMBLER_LIMIT : Fld := ⟨32, 32⟩
def Reg.CST_ADM_PARSE (s : Nat) : Nat := 0x100f0 + 0x8 * s
def Fld.CST_ADM_PARSE_DEMAND : Fld := ⟨0, 32⟩
def Fld.CST_ADM_PARSE_LIMIT : Fld := ⟨32, 32⟩
def Reg.CST_JNL_STATUS : Nat := 0x10170
def Fld.CST_JNL_STATUS_HEAD : Fld := ⟨0, 24⟩
def Fld.CST_JNL_STATUS_SIZE : Fld := ⟨24, 24⟩
def Reg.CST_JNL_SEQ : Nat := 0x10178
def Fld.CST_JNL_SEQ_SEQ : Fld := ⟨0, 48⟩
def Reg.CST_JNL_TOKENS : Nat := 0x10180
def Fld.CST_JNL_TOKENS_TOKENS : Fld := ⟨0, 32⟩
def Reg.CST_CNT (i : Nat) : Nat := 0x10200 + 0x8 * i
def Fld.CST_CNT_VALUE : Fld := ⟨0, 64⟩

/-! ### FLT (R404) -/

def Reg.FLT_CTL : Nat := 0x20000
def Fld.FLT_CTL_CNT_CLR : Fld := ⟨16, 1⟩
def Reg.FLT_STATUS : Nat := 0x20008
def Fld.FLT_STATUS_CFG_ERR : Fld := ⟨0, 1⟩
def Fld.FLT_STATUS_CORR_SEEN : Fld := ⟨1, 1⟩
def Fld.FLT_STATUS_UC_SEEN : Fld := ⟨2, 1⟩
def Fld.FLT_STATUS_FATAL_SEEN : Fld := ⟨3, 1⟩
def Fld.FLT_STATUS_RING_OVF : Fld := ⟨4, 1⟩
def Fld.FLT_STATUS_WINDOW_OPEN : Fld := ⟨5, 1⟩
def Fld.FLT_STATUS_DEGRADED : Fld := ⟨6, 1⟩
def Fld.FLT_STATUS_BB_FAIL : Fld := ⟨7, 1⟩
def Reg.FLT_CFG : Nat := 0x20010
def Fld.FLT_CFG_ESC_WINDOW_US : Fld := ⟨0, 24⟩
def Fld.FLT_CFG_REPAIR_TIMEOUT_MS : Fld := ⟨24, 16⟩
def Fld.FLT_CFG_FATAL_POLICY : Fld := ⟨40, 1⟩
def Fld.FLT_CFG_AUTO_REPAIR : Fld := ⟨41, 1⟩
def Fld.FLT_CFG_FATAL_RESET_LIMIT : Fld := ⟨44, 4⟩
def Fld.FLT_CFG_FATAL_CLEAR_S : Fld := ⟨48, 16⟩
def Reg.FLT_CORR_RATE : Nat := 0x20018
def Fld.FLT_CORR_RATE_RATE : Fld := ⟨0, 16⟩
def Fld.FLT_CORR_RATE_BURST : Fld := ⟨16, 16⟩
def Reg.FLT_ALERT_EN : Nat := 0x20020
def Fld.FLT_ALERT_EN_EN : Fld := ⟨0, 8⟩
def Reg.FLT_IRQ_EN : Nat := 0x20028
def Fld.FLT_IRQ_EN_EN : Fld := ⟨0, 8⟩
def Reg.FLT_RING_PTR : Nat := 0x20030
def Fld.FLT_RING_PTR_HEAD : Fld := ⟨0, 13⟩
def Fld.FLT_RING_PTR_TAIL : Fld := ⟨16, 13⟩
def Reg.FLT_RING_SEL : Nat := 0x20038
def Fld.FLT_RING_SEL_INDEX : Fld := ⟨0, 12⟩
def Reg.FLT_RING_DATA (i : Nat) : Nat := 0x20040 + 0x8 * i
def Fld.FLT_RING_DATA_WORD : Fld := ⟨0, 64⟩
def Reg.FLT_FIRST (f i : Nat) : Nat := 0x20100 + 0x20 * f + 0x8 * i
def Fld.FLT_FIRST_VALID : Fld := ⟨63, 1⟩
def Reg.FLT_ESC_CMD : Nat := 0x20200
def Fld.FLT_ESC_CMD_OP : Fld := ⟨0, 3⟩
def Fld.FLT_ESC_CMD_UNIT : Fld := ⟨16, 9⟩
def Fld.FLT_ESC_CMD_ERR_CODE : Fld := ⟨32, 4⟩
def Fld.FLT_ESC_CMD_ERR : Fld := ⟨62, 1⟩
def Fld.FLT_ESC_CMD_BUSY : Fld := ⟨63, 1⟩
def Reg.FLT_INJECT : Nat := 0x20208
def Fld.FLT_INJECT_SOURCE : Fld := ⟨0, 16⟩
def Fld.FLT_INJECT_KIND : Fld := ⟨16, 12⟩
def Fld.FLT_INJECT_CLASS : Fld := ⟨28, 2⟩
def Fld.FLT_INJECT_GO : Fld := ⟨63, 1⟩
def Reg.FLT_INJECT_ADDR : Nat := 0x20210
def Fld.FLT_INJECT_ADDR_ADDR : Fld := ⟨0, 48⟩
def Reg.FLT_FATAL_STATE : Nat := 0x20218
def Fld.FLT_FATAL_STATE_RESETS : Fld := ⟨0, 4⟩
def Fld.FLT_FATAL_STATE_HOLDING : Fld := ⟨8, 1⟩
def Fld.FLT_FATAL_STATE_LAST_BB_SEQ : Fld := ⟨16, 48⟩
def Reg.FLT_UNIT (u : Nat) : Nat := 0x20400 + 0x8 * u
def Fld.FLT_UNIT_STATE : Fld := ⟨0, 3⟩
def Fld.FLT_UNIT_ESSENTIAL : Fld := ⟨3, 1⟩
def Fld.FLT_UNIT_REPAIRABLE : Fld := ⟨4, 1⟩
def Fld.FLT_UNIT_REMAIN_US : Fld := ⟨5, 27⟩
def Fld.FLT_UNIT_FAULT_SEQ : Fld := ⟨32, 18⟩
def Fld.FLT_UNIT_SHADOWED : Fld := ⟨50, 14⟩
def Reg.FLT_CNT (i : Nat) : Nat := 0x21000 + 0x8 * i
def Fld.FLT_CNT_VALUE : Fld := ⟨0, 64⟩

/-! ### TOD (R65) -/

def Reg.TOD_CTL : Nat := 0x30000
def Fld.TOD_CTL_CMD : Fld := ⟨0, 3⟩
def Fld.TOD_CTL_PPS_OUT_EN : Fld := ⟨8, 1⟩
def Fld.TOD_CTL_PPS_IN_EN : Fld := ⟨9, 1⟩
def Fld.TOD_CTL_ENTER_HOLD : Fld := ⟨10, 1⟩
def Reg.TOD_STATUS : Nat := 0x30008
def Fld.TOD_STATUS_BUSY : Fld := ⟨0, 1⟩
def Fld.TOD_STATUS_CMD_REJ : Fld := ⟨1, 1⟩
def Fld.TOD_STATUS_INCR_ERR : Fld := ⟨2, 1⟩
def Fld.TOD_STATUS_HOLDOVER : Fld := ⟨3, 1⟩
def Fld.TOD_STATUS_SLEW_ACTIVE : Fld := ⟨4, 1⟩
def Fld.TOD_STATUS_PPS_IN_EVT : Fld := ⟨5, 1⟩
def Fld.TOD_STATUS_PPS_IN_LOST : Fld := ⟨6, 1⟩
def Fld.TOD_STATUS_PPS_LOAD_ARMED : Fld := ⟨7, 1⟩
def Fld.TOD_STATUS_STEP_DONE : Fld := ⟨8, 1⟩
def Reg.TOD_INCR : Nat := 0x30010
def Fld.TOD_INCR_INC_FRAC : Fld := ⟨0, 32⟩
def Fld.TOD_INCR_INC_NS : Fld := ⟨32, 4⟩
def Reg.TOD_SET_SEC : Nat := 0x30018
def Fld.TOD_SET_SEC_SEC : Fld := ⟨0, 48⟩
def Reg.TOD_SET_NS : Nat := 0x30020
def Fld.TOD_SET_NS_FRAC : Fld := ⟨0, 32⟩
def Fld.TOD_SET_NS_NS : Fld := ⟨32, 32⟩
def Reg.TOD_OFFSET : Nat := 0x30028
def Fld.TOD_OFFSET_OFFSET_NS : Fld := ⟨0, 48⟩
def Reg.TOD_SLEW_INC : Nat := 0x30030
def Fld.TOD_SLEW_INC_FRAC : Fld := ⟨0, 32⟩
def Fld.TOD_SLEW_INC_NS : Fld := ⟨32, 4⟩
def Reg.TOD_SLEW_CNT : Nat := 0x30038
def Fld.TOD_SLEW_CNT_TICKS : Fld := ⟨0, 32⟩
def Reg.TOD_CAP_SEC : Nat := 0x30040
def Fld.TOD_CAP_SEC_SEC : Fld := ⟨0, 48⟩
def Reg.TOD_CAP_NS : Nat := 0x30048
def Fld.TOD_CAP_NS_FRAC : Fld := ⟨0, 32⟩
def Fld.TOD_CAP_NS_NS : Fld := ⟨32, 32⟩
def Reg.TOD_CAP_MONO : Nat := 0x30050
def Fld.TOD_CAP_MONO_MONO : Fld := ⟨0, 64⟩
def Reg.TOD_MONO : Nat := 0x30058
def Fld.TOD_MONO_MONO : Fld := ⟨0, 64⟩
def Reg.TOD_PPS_CAP_SEC : Nat := 0x30060
def Fld.TOD_PPS_CAP_SEC_SEC : Fld := ⟨0, 48⟩
def Reg.TOD_PPS_CAP_NS : Nat := 0x30068
def Fld.TOD_PPS_CAP_NS_FRAC : Fld := ⟨0, 32⟩
def Fld.TOD_PPS_CAP_NS_NS : Fld := ⟨32, 32⟩
def Reg.TOD_PPS_CAP_MONO : Nat := 0x30070
def Fld.TOD_PPS_CAP_MONO_MONO : Fld := ⟨0, 64⟩
def Reg.TOD_PPS_OUT : Nat := 0x30078
def Fld.TOD_PPS_OUT_WIDTH_US : Fld := ⟨0, 20⟩
def Fld.TOD_PPS_OUT_ADJ : Fld := ⟨32, 24⟩
def Reg.TOD_HOLD_TIMEOUT : Nat := 0x30080
def Fld.TOD_HOLD_TIMEOUT_MS : Fld := ⟨0, 32⟩

/-! ### HIF (R382) -/

def Reg.HIF_CTL : Nat := 0x40000
def Fld.HIF_CTL_DMA_EN : Fld := ⟨0, 1⟩
def Fld.HIF_CTL_CNT_CLR : Fld := ⟨16, 1⟩
def Reg.HIF_STATUS : Nat := 0x40008
def Fld.HIF_STATUS_CFG_ERR : Fld := ⟨0, 1⟩
def Fld.HIF_STATUS_LINK_UP : Fld := ⟨1, 1⟩
def Fld.HIF_STATUS_HOST_LOST : Fld := ⟨2, 1⟩
def Fld.HIF_STATUS_AP_OOR : Fld := ⟨3, 1⟩
def Fld.HIF_STATUS_AP_LOST : Fld := ⟨4, 1⟩
def Fld.HIF_STATUS_DMA_ERR : Fld := ⟨5, 1⟩
def Fld.HIF_STATUS_SPEED : Fld := ⟨8, 3⟩
def Fld.HIF_STATUS_WIDTH : Fld := ⟨12, 4⟩
def Reg.HIF_AP_BASE (w : Nat) : Nat := 0x40010 + 0x8 * w
def Fld.HIF_AP_BASE_BASE : Fld := ⟨16, 25⟩
def Reg.HIF_EVT_CFG : Nat := 0x40040
def Fld.HIF_EVT_CFG_FAULT_VEC : Fld := ⟨0, 8⟩
def Fld.HIF_EVT_CFG_FAULT_EN : Fld := ⟨8, 1⟩
def Fld.HIF_EVT_CFG_CASTON_VEC : Fld := ⟨16, 8⟩
def Fld.HIF_EVT_CFG_CASTON_EN : Fld := ⟨24, 1⟩
def Reg.HIF_RING_BASE (r : Nat) : Nat := 0x41000 + 0x20 * r
def Fld.HIF_RING_BASE_ADDR : Fld := ⟨12, 52⟩
def Reg.HIF_RING_CFG (r : Nat) : Nat := 0x41008 + 0x20 * r
def Fld.HIF_RING_CFG_SIZE_LOG2 : Fld := ⟨0, 5⟩
def Fld.HIF_RING_CFG_EN : Fld := ⟨8, 1⟩
def Fld.HIF_RING_CFG_VEC : Fld := ⟨16, 8⟩
def Fld.HIF_RING_CFG_IRQ_EN : Fld := ⟨24, 1⟩
def Fld.HIF_RING_CFG_COAL_CNT : Fld := ⟨32, 16⟩
def Fld.HIF_RING_CFG_COAL_US : Fld := ⟨48, 16⟩
def Reg.HIF_RING_PTR (r : Nat) : Nat := 0x41010 + 0x20 * r
def Fld.HIF_RING_PTR_HEAD : Fld := ⟨0, 16⟩
def Fld.HIF_RING_PTR_TAIL : Fld := ⟨16, 16⟩
def Reg.HIF_RING_CNT (r : Nat) : Nat := 0x41018 + 0x20 * r
def Fld.HIF_RING_CNT_FRAMES : Fld := ⟨0, 64⟩
def Reg.HIF_CNT (i : Nat) : Nat := 0x42000 + 0x8 * i
def Fld.HIF_CNT_VALUE : Fld := ⟨0, 64⟩

/-! ### LOP (R383) -/

def Reg.LOP_CTL (i : Nat) : Nat := 0x50000 + 0x100 * i
def Fld.LOP_CTL_OP : Fld := ⟨0, 4⟩
def Fld.LOP_CTL_START : Fld := ⟨8, 1⟩
def Fld.LOP_CTL_ABORT : Fld := ⟨9, 1⟩
def Reg.LOP_STATUS (i : Nat) : Nat := 0x50008 + 0x100 * i
def Fld.LOP_STATUS_WORD : Fld := ⟨0, 64⟩
def Reg.LOP_ARG (i j : Nat) : Nat := 0x50010 + 0x100 * i + 0x8 * j
def Fld.LOP_ARG_VALUE : Fld := ⟨0, 64⟩
def Reg.LOP_IN_ADDR (i : Nat) : Nat := 0x50030 + 0x100 * i
def Fld.LOP_IN_ADDR_ADDR : Fld := ⟨6, 58⟩
def Reg.LOP_IN_CFG (i : Nat) : Nat := 0x50038 + 0x100 * i
def Fld.LOP_IN_CFG_LINES : Fld := ⟨0, 32⟩
def Reg.LOP_IN_PROD (i : Nat) : Nat := 0x50040 + 0x100 * i
def Fld.LOP_IN_PROD_PROD : Fld := ⟨0, 32⟩
def Fld.LOP_IN_PROD_END : Fld := ⟨63, 1⟩
def Reg.LOP_OUT_ADDR (i : Nat) : Nat := 0x50048 + 0x100 * i
def Fld.LOP_OUT_ADDR_ADDR : Fld := ⟨6, 58⟩
def Reg.LOP_OUT_CFG (i : Nat) : Nat := 0x50050 + 0x100 * i
def Fld.LOP_OUT_CFG_LINES : Fld := ⟨0, 32⟩
def Reg.LOP_OUT_CONS (i : Nat) : Nat := 0x50058 + 0x100 * i
def Fld.LOP_OUT_CONS_CONS : Fld := ⟨0, 32⟩
def Reg.LOP_MIRROR_ADDR (i : Nat) : Nat := 0x50060 + 0x100 * i
def Fld.LOP_MIRROR_ADDR_ADDR : Fld := ⟨3, 61⟩
def Reg.LOP_PROGRESS (i : Nat) : Nat := 0x50068 + 0x100 * i
def Fld.LOP_PROGRESS_DONE : Fld := ⟨0, 32⟩
def Fld.LOP_PROGRESS_TOTAL : Fld := ⟨32, 32⟩
def Reg.LOP_RESULT (i j : Nat) : Nat := 0x50070 + 0x100 * i + 0x8 * j
def Fld.LOP_RESULT_VALUE : Fld := ⟨0, 64⟩
def Reg.LOP_SUMMARY : Nat := 0x51000
def Fld.LOP_SUMMARY_ACTIVE : Fld := ⟨0, 16⟩
def Fld.LOP_SUMMARY_ERR : Fld := ⟨62, 1⟩

/-! ### PMU (R439) -/

def Reg.PMU_CTL : Nat := 0x60000
def Fld.PMU_CTL_CNT_CLR : Fld := ⟨16, 1⟩
def Reg.PMU_STATUS : Nat := 0x60008
def Fld.PMU_STATUS_CFG_ERR : Fld := ⟨0, 1⟩
def Fld.PMU_STATUS_TEMP_WARN : Fld := ⟨1, 1⟩
def Fld.PMU_STATUS_RAIL_MISSING : Fld := ⟨2, 1⟩
def Fld.PMU_STATUS_CLK_FALLBACK : Fld := ⟨3, 1⟩
def Fld.PMU_STATUS_MAIN_LOCK : Fld := ⟨4, 1⟩
def Fld.PMU_STATUS_DRAM_LOCK : Fld := ⟨5, 1⟩
def Reg.PMU_PD_CMD : Nat := 0x60010
def Fld.PMU_PD_CMD_OP : Fld := ⟨0, 2⟩
def Fld.PMU_PD_CMD_DOMAIN : Fld := ⟨8, 7⟩
def Fld.PMU_PD_CMD_ERR_CODE : Fld := ⟨32, 4⟩
def Fld.PMU_PD_CMD_ERR : Fld := ⟨62, 1⟩
def Fld.PMU_PD_CMD_BUSY : Fld := ⟨63, 1⟩
def Reg.PMU_PD_IMG0 : Nat := 0x60018
def Fld.PMU_PD_IMG0_OFF : Fld := ⟨0, 64⟩
def Reg.PMU_PD_IMG1 : Nat := 0x60020
def Fld.PMU_PD_IMG1_OFF : Fld := ⟨0, 16⟩
def Reg.PMU_PD_STATE (i : Nat) : Nat := 0x60028 + 0x8 * i
def Fld.PMU_PD_STATE_STATE0 : Fld := ⟨0, 2⟩
def Fld.PMU_PD_STATE_STATE1 : Fld := ⟨2, 2⟩
def Fld.PMU_PD_STATE_STATE2 : Fld := ⟨4, 2⟩
def Fld.PMU_PD_STATE_STATE3 : Fld := ⟨6, 2⟩
def Fld.PMU_PD_STATE_STATE4 : Fld := ⟨8, 2⟩
def Fld.PMU_PD_STATE_STATE5 : Fld := ⟨10, 2⟩
def Fld.PMU_PD_STATE_STATE6 : Fld := ⟨12, 2⟩
def Fld.PMU_PD_STATE_STATE7 : Fld := ⟨14, 2⟩
def Fld.PMU_PD_STATE_STATE8 : Fld := ⟨16, 2⟩
def Fld.PMU_PD_STATE_STATE9 : Fld := ⟨18, 2⟩
def Fld.PMU_PD_STATE_STATE10 : Fld := ⟨20, 2⟩
def Fld.PMU_PD_STATE_STATE11 : Fld := ⟨22, 2⟩
def Fld.PMU_PD_STATE_STATE12 : Fld := ⟨24, 2⟩
def Fld.PMU_PD_STATE_STATE13 : Fld := ⟨26, 2⟩
def Fld.PMU_PD_STATE_STATE14 : Fld := ⟨28, 2⟩
def Fld.PMU_PD_STATE_STATE15 : Fld := ⟨30, 2⟩
def Fld.PMU_PD_STATE_STATE16 : Fld := ⟨32, 2⟩
def Fld.PMU_PD_STATE_STATE17 : Fld := ⟨34, 2⟩
def Fld.PMU_PD_STATE_STATE18 : Fld := ⟨36, 2⟩
def Fld.PMU_PD_STATE_STATE19 : Fld := ⟨38, 2⟩
def Fld.PMU_PD_STATE_STATE20 : Fld := ⟨40, 2⟩
def Fld.PMU_PD_STATE_STATE21 : Fld := ⟨42, 2⟩
def Fld.PMU_PD_STATE_STATE22 : Fld := ⟨44, 2⟩
def Fld.PMU_PD_STATE_STATE23 : Fld := ⟨46, 2⟩
def Fld.PMU_PD_STATE_STATE24 : Fld := ⟨48, 2⟩
def Fld.PMU_PD_STATE_STATE25 : Fld := ⟨50, 2⟩
def Fld.PMU_PD_STATE_STATE26 : Fld := ⟨52, 2⟩
def Fld.PMU_PD_STATE_STATE27 : Fld := ⟨54, 2⟩
def Fld.PMU_PD_STATE_STATE28 : Fld := ⟨56, 2⟩
def Fld.PMU_PD_STATE_STATE29 : Fld := ⟨58, 2⟩
def Fld.PMU_PD_STATE_STATE30 : Fld := ⟨60, 2⟩
def Fld.PMU_PD_STATE_STATE31 : Fld := ⟨62, 2⟩
def Reg.PMU_THERM : Nat := 0x60048
def Fld.PMU_THERM_WARN_C : Fld := ⟨0, 8⟩
def Fld.PMU_THERM_TRIP_C : Fld := ⟨8, 8⟩
def Fld.PMU_THERM_MAX_C : Fld := ⟨16, 8⟩
def Reg.PMU_TEMP (i : Nat) : Nat := 0x60080 + 0x8 * i
def Fld.PMU_TEMP_TEMP : Fld := ⟨0, 12⟩
def Reg.PMU_RAIL (r : Nat) : Nat := 0x60100 + 0x8 * r
def Fld.PMU_RAIL_MV : Fld := ⟨0, 16⟩
def Fld.PMU_RAIL_GOOD : Fld := ⟨16, 1⟩
def Reg.PMU_CNT (i : Nat) : Nat := 0x60200 + 0x8 * i
def Fld.PMU_CNT_VALUE : Fld := ⟨0, 64⟩

/-! ### CCX (R426) -/

def Reg.CCX_CTL : Nat := 0x70000
def Fld.CCX_CTL_SWITCH : Fld := ⟨0, 1⟩
def Fld.CCX_CTL_AUTO_RESTART : Fld := ⟨1, 1⟩
def Fld.CCX_CTL_CNT_CLR : Fld := ⟨16, 1⟩
def Reg.CCX_STATUS : Nat := 0x70008
def Fld.CCX_STATUS_ACTIVE : Fld := ⟨0, 1⟩
def Fld.CCX_STATUS_STANDBY_READY : Fld := ⟨1, 1⟩
def Fld.CCX_STATUS_TIE_SEEN : Fld := ⟨2, 1⟩
def Fld.CCX_STATUS_TAKEOVER_SEEN : Fld := ⟨3, 1⟩
def Fld.CCX_STATUS_CFG_ERR : Fld := ⟨4, 1⟩
def Fld.CCX_STATUS_SWITCH_ERR : Fld := ⟨5, 1⟩
def Reg.CCX_CFG : Nat := 0x70010
def Fld.CCX_CFG_HB_PERIOD_US : Fld := ⟨0, 10⟩
def Fld.CCX_CFG_HB_TIMEOUT_US : Fld := ⟨16, 24⟩
def Fld.CCX_CFG_TAKEOVER_LIMIT : Fld := ⟨40, 8⟩
def Reg.CCX_CLAIM_A : Nat := 0x70018
def Fld.CCX_CLAIM_A_CLAIM : Fld := ⟨0, 32⟩
def Reg.CCX_CLAIM_B : Nat := 0x70020
def Fld.CCX_CLAIM_B_CLAIM : Fld := ⟨0, 32⟩
def Reg.CCX_HB : Nat := 0x70028
def Fld.CCX_HB_A_LINE_AGE : Fld := ⟨0, 16⟩
def Fld.CCX_HB_A_BUS_AGE : Fld := ⟨16, 16⟩
def Fld.CCX_HB_B_LINE_AGE : Fld := ⟨32, 16⟩
def Fld.CCX_HB_B_BUS_AGE : Fld := ⟨48, 16⟩
def Reg.CCX_TAKEOVERS : Nat := 0x70030
def Fld.CCX_TAKEOVERS_COUNT : Fld := ⟨0, 8⟩
def Reg.CCX_FW (x : Nat) : Nat := 0x70038 + 0x8 * x
def Fld.CCX_FW_VERSION : Fld := ⟨0, 32⟩
def Reg.CCX_HASP (i : Nat) : Nat := 0x70080 + 0x8 * i
def Fld.CCX_HASP_OWNER : Fld := ⟨0, 1⟩
def Fld.CCX_HASP_TIE : Fld := ⟨1, 1⟩
def Reg.CCX_CNT (i : Nat) : Nat := 0x70100 + 0x8 * i
def Fld.CCX_CNT_VALUE : Fld := ⟨0, 64⟩

/-! ### TWN (R427) -/

def Reg.TWN_CTL : Nat := 0x80000
def Fld.TWN_CTL_EN : Fld := ⟨0, 1⟩
def Fld.TWN_CTL_PROMOTE : Fld := ⟨1, 1⟩
def Fld.TWN_CTL_RESYNC : Fld := ⟨2, 1⟩
def Fld.TWN_CTL_CNT_CLR : Fld := ⟨16, 1⟩
def Reg.TWN_STATUS : Nat := 0x80008
def Fld.TWN_STATUS_ROLE : Fld := ⟨0, 2⟩
def Fld.TWN_STATUS_SYNC : Fld := ⟨2, 2⟩
def Fld.TWN_STATUS_LINK_HB : Fld := ⟨4, 1⟩
def Fld.TWN_STATUS_SIDEBAND_HB : Fld := ⟨5, 1⟩
def Fld.TWN_STATUS_PARTNER_LOST : Fld := ⟨6, 1⟩
def Fld.TWN_STATUS_SPLIT_SEEN : Fld := ⟨7, 1⟩
def Fld.TWN_STATUS_TIE_SEEN : Fld := ⟨8, 1⟩
def Fld.TWN_STATUS_CFG_ERR : Fld := ⟨9, 1⟩
def Fld.TWN_STATUS_PROMOTE_ERR : Fld := ⟨10, 1⟩
def Fld.TWN_STATUS_PAIR_ERR : Fld := ⟨12, 4⟩
def Reg.TWN_CFG : Nat := 0x80010
def Fld.TWN_CFG_SIDE : Fld := ⟨0, 1⟩
def Fld.TWN_CFG_AUTO_RESYNC : Fld := ⟨1, 1⟩
def Fld.TWN_CFG_PROMOTE_LIMIT : Fld := ⟨8, 8⟩
def Fld.TWN_CFG_BATCH_US : Fld := ⟨16, 16⟩
def Fld.TWN_CFG_HB_TIMEOUT_US : Fld := ⟨32, 24⟩
def Reg.TWN_CLAIM : Nat := 0x80018
def Fld.TWN_CLAIM_OWN : Fld := ⟨0, 32⟩
def Fld.TWN_CLAIM_PARTNER : Fld := ⟨32, 32⟩
def Reg.TWN_PARTNER : Nat := 0x80020
def Fld.TWN_PARTNER_PROMOTIONS : Fld := ⟨0, 8⟩
def Fld.TWN_PARTNER_P_ROLE : Fld := ⟨8, 2⟩
def Fld.TWN_PARTNER_P_SYNC : Fld := ⟨10, 2⟩
def Reg.TWN_AUX_MIRROR : Nat := 0x80028
def Fld.TWN_AUX_MIRROR_REGIONS : Fld := ⟨0, 16⟩
def Reg.TWN_SYNC : Nat := 0x80030
def Fld.TWN_SYNC_SLOTS_DONE : Fld := ⟨0, 32⟩
def Fld.TWN_SYNC_SHARD : Fld := ⟨32, 4⟩
def Reg.TWN_CFIELD (k : Nat) : Nat := 0x80100 + 0x8 * k
def Fld.TWN_CFIELD_FIELD0 : Fld := ⟨0, 16⟩
def Fld.TWN_CFIELD_FIELD1 : Fld := ⟨16, 16⟩
def Fld.TWN_CFIELD_FIELD2 : Fld := ⟨32, 16⟩
def Fld.TWN_CFIELD_FIELD3 : Fld := ⟨48, 16⟩
def Reg.TWN_SMASK0 (k : Nat) : Nat := 0x80300 + 0x8 * k
def Fld.TWN_SMASK0_BYTES : Fld := ⟨0, 64⟩
def Reg.TWN_SMASK1 (k : Nat) : Nat := 0x80500 + 0x8 * k
def Fld.TWN_SMASK1_BYTES : Fld := ⟨0, 4⟩
def Fld.TWN_SMASK1_MIRROR_EN : Fld := ⟨63, 1⟩
def Reg.TWN_PTOFF (k : Nat) : Nat := 0x80700 + 0x8 * k
def Fld.TWN_PTOFF_OFFSETS : Fld := ⟨0, 64⟩
def Reg.TWN_CNT (i : Nat) : Nat := 0x80900 + 0x8 * i
def Fld.TWN_CNT_VALUE : Fld := ⟨0, 64⟩

/-! ### BPM (R288) -/

def Reg.BPM_CTL : Nat := 0x90000
def Fld.BPM_CTL_CNT_CLR : Fld := ⟨16, 1⟩
def Reg.BPM_STATUS : Nat := 0x90008
def Fld.BPM_STATUS_CFG_ERR : Fld := ⟨0, 1⟩
def Fld.BPM_STATUS_FREE_ERR : Fld := ⟨1, 1⟩
def Fld.BPM_STATUS_EMPTY_SEEN : Fld := ⟨4, 4⟩
def Fld.BPM_STATUS_LOW_MODE : Fld := ⟨8, 4⟩
def Fld.BPM_STATUS_WITHDRAWN_SEEN : Fld := ⟨12, 4⟩
def Fld.BPM_STATUS_READY : Fld := ⟨16, 1⟩
def Reg.BPM_ERR : Nat := 0x90010
def Fld.BPM_ERR_INDEX : Fld := ⟨0, 24⟩
def Fld.BPM_ERR_POOL : Fld := ⟨24, 2⟩
def Fld.BPM_ERR_REQUESTER : Fld := ⟨26, 6⟩
def Fld.BPM_ERR_CAUSE : Fld := ⟨32, 3⟩
def Fld.BPM_ERR_OWNER : Fld := ⟨40, 6⟩
def Fld.BPM_ERR_VALID : Fld := ⟨63, 1⟩
def Reg.BPM_META_CMD : Nat := 0x90018
def Fld.BPM_META_CMD_INDEX : Fld := ⟨0, 24⟩
def Fld.BPM_META_CMD_POOL : Fld := ⟨24, 2⟩
def Fld.BPM_META_CMD_OP : Fld := ⟨32, 2⟩
def Fld.BPM_META_CMD_ALLOC : Fld := ⟨40, 1⟩
def Fld.BPM_META_CMD_OWNER : Fld := ⟨41, 6⟩
def Fld.BPM_META_CMD_LOST : Fld := ⟨47, 1⟩
def Fld.BPM_META_CMD_ERR : Fld := ⟨62, 1⟩
def Fld.BPM_META_CMD_BUSY : Fld := ⟨63, 1⟩
def Reg.BPM_POOL_CFG (p : Nat) : Nat := 0x90040 + 0x40 * p
def Fld.BPM_POOL_CFG_COUNT : Fld := ⟨0, 25⟩
def Fld.BPM_POOL_CFG_SIZE : Fld := ⟨32, 16⟩
def Reg.BPM_BUF_BASE (p : Nat) : Nat := 0x90048 + 0x40 * p
def Fld.BPM_BUF_BASE_ADDR : Fld := ⟨0, 64⟩
def Reg.BPM_RING_BASE (p : Nat) : Nat := 0x90050 + 0x40 * p
def Fld.BPM_RING_BASE_ADDR : Fld := ⟨0, 64⟩
def Reg.BPM_META_BASE (p : Nat) : Nat := 0x90058 + 0x40 * p
def Fld.BPM_META_BASE_ADDR : Fld := ⟨0, 64⟩
def Reg.BPM_POOL_STATUS (p : Nat) : Nat := 0x90060 + 0x40 * p
def Fld.BPM_POOL_STATUS_FREE : Fld := ⟨0, 25⟩
def Fld.BPM_POOL_STATUS_LOW_WATER : Fld := ⟨32, 25⟩
def Reg.BPM_RING_LINK (p : Nat) : Nat := 0x90068 + 0x40 * p
def Fld.BPM_RING_LINK_CREDIT : Fld := ⟨0, 25⟩
def Fld.BPM_RING_LINK_TIMEOUT : Fld := ⟨32, 24⟩
def Reg.BPM_CACHE (q p : Nat) : Nat := 0x90200 + 0x20 * q + 0x8 * p
def Fld.BPM_CACHE_COUNT : Fld := ⟨0, 10⟩
def Reg.BPM_CNT (i : Nat) : Nat := 0x90300 + 0x8 * i
def Fld.BPM_CNT_VALUE : Fld := ⟨0, 64⟩

/-! ### DMC (R276, R277) -/

def Reg.DMC_CTL (n : Nat) : Nat := 0x100000 + 0x10000 * n
def Fld.DMC_CTL_SCRUB_EN : Fld := ⟨0, 1⟩
def Fld.DMC_CTL_WCRC_EN : Fld := ⟨1, 1⟩
def Fld.DMC_CTL_CNT_CLR : Fld := ⟨16, 1⟩
def Reg.DMC_STATUS (n : Nat) : Nat := 0x100008 + 0x10000 * n
def Fld.DMC_STATUS_CFG_ERR : Fld := ⟨0, 1⟩
def Fld.DMC_STATUS_TRAIN_DONE : Fld := ⟨1, 1⟩
def Fld.DMC_STATUS_TRAIN_FAIL : Fld := ⟨2, 1⟩
def Fld.DMC_STATUS_IN_SR : Fld := ⟨3, 1⟩
def Fld.DMC_STATUS_RANK_OUT : Fld := ⟨4, 4⟩
def Fld.DMC_STATUS_MIGRATING : Fld := ⟨8, 1⟩
def Fld.DMC_STATUS_SPARE_USED : Fld := ⟨9, 1⟩
def Fld.DMC_STATUS_HOT : Fld := ⟨10, 1⟩
def Fld.DMC_STATUS_UE_SEEN : Fld := ⟨11, 1⟩
def Fld.DMC_STATUS_LOST_SEEN : Fld := ⟨12, 1⟩
def Reg.DMC_POP (n : Nat) : Nat := 0x100010 + 0x10000 * n
def Fld.DMC_POP_DIMMS : Fld := ⟨0, 2⟩
def Fld.DMC_POP_RANKS_PER_DIMM : Fld := ⟨2, 2⟩
def Fld.DMC_POP_DENSITY : Fld := ⟨4, 1⟩
def Fld.DMC_POP_WIDTH : Fld := ⟨5, 1⟩
def Fld.DMC_POP_SPARE : Fld := ⟨6, 1⟩
def Reg.DMC_GEOM (n : Nat) : Nat := 0x100018 + 0x10000 * n
def Fld.DMC_GEOM_RL_LOG2 : Fld := ⟨0, 5⟩
def Fld.DMC_GEOM_MAPPED_RANKS : Fld := ⟨8, 3⟩
def Fld.DMC_GEOM_SUB_INDEX : Fld := ⟨16, 5⟩
def Reg.DMC_SCHED (n : Nat) : Nat := 0x100020 + 0x10000 * n
def Fld.DMC_SCHED_WQ_HIGH : Fld := ⟨0, 8⟩
def Fld.DMC_SCHED_WQ_LOW : Fld := ⟨8, 8⟩
def Fld.DMC_SCHED_IDLE_TCK : Fld := ⟨16, 10⟩
def Fld.DMC_SCHED_REF_MODE : Fld := ⟨26, 1⟩
def Reg.DMC_SCRUB (n : Nat) : Nat := 0x100028 + 0x10000 * n
def Fld.DMC_SCRUB_INTERVAL_NS : Fld := ⟨0, 32⟩
def Fld.DMC_SCRUB_PASSES : Fld := ⟨32, 32⟩
def Reg.DMC_TIMING_SEL (n : Nat) : Nat := 0x100030 + 0x10000 * n
def Fld.DMC_TIMING_SEL_ACTIVE : Fld := ⟨0, 1⟩
def Reg.DMC_TIMING0 (n s : Nat) : Nat := 0x100040 + 0x10000 * n + 0x18 * s
def Fld.DMC_TIMING0_CL : Fld := ⟨0, 8⟩
def Fld.DMC_TIMING0_CWL : Fld := ⟨8, 8⟩
def Fld.DMC_TIMING0_RCD : Fld := ⟨16, 8⟩
def Fld.DMC_TIMING0_RP : Fld := ⟨24, 8⟩
def Fld.DMC_TIMING0_RAS : Fld := ⟨32, 8⟩
def Fld.DMC_TIMING0_RC : Fld := ⟨40, 8⟩
def Reg.DMC_TIMING1 (n s : Nat) : Nat := 0x100048 + 0x10000 * n + 0x18 * s
def Fld.DMC_TIMING1_WR : Fld := ⟨0, 8⟩
def Fld.DMC_TIMING1_RTP : Fld := ⟨8, 8⟩
def Fld.DMC_TIMING1_RRD_S : Fld := ⟨16, 8⟩
def Fld.DMC_TIMING1_RRD_L : Fld := ⟨24, 8⟩
def Fld.DMC_TIMING1_FAW : Fld := ⟨32, 8⟩
def Fld.DMC_TIMING1_CCD_L : Fld := ⟨40, 8⟩
def Fld.DMC_TIMING1_WTR_L : Fld := ⟨48, 8⟩
def Fld.DMC_TIMING1_WTR_S : Fld := ⟨56, 8⟩
def Reg.DMC_TIMING2 (n s : Nat) : Nat := 0x100050 + 0x10000 * n + 0x18 * s
def Fld.DMC_TIMING2_RFC1 : Fld := ⟨0, 12⟩
def Fld.DMC_TIMING2_RFCSB : Fld := ⟨16, 12⟩
def Fld.DMC_TIMING2_REFI : Fld := ⟨32, 16⟩
def Reg.DMC_TRAIN (n r : Nat) : Nat := 0x100070 + 0x10000 * n + 0x8 * r
def Fld.DMC_TRAIN_RESULT_A : Fld := ⟨0, 4⟩
def Fld.DMC_TRAIN_RESULT_B : Fld := ⟨4, 4⟩
def Fld.DMC_TRAIN_RD_MARGIN_A : Fld := ⟨8, 8⟩
def Fld.DMC_TRAIN_WR_MARGIN_A : Fld := ⟨16, 8⟩
def Fld.DMC_TRAIN_RD_MARGIN_B : Fld := ⟨24, 8⟩
def Fld.DMC_TRAIN_WR_MARGIN_B : Fld := ⟨32, 8⟩
def Fld.DMC_TRAIN_SPEEDS : Fld := ⟨48, 4⟩
def Reg.DMC_MIG (n : Nat) : Nat := 0x100090 + 0x10000 * n
def Fld.DMC_MIG_STATE : Fld := ⟨0, 2⟩
def Fld.DMC_MIG_SRC_RANK : Fld := ⟨2, 2⟩
def Fld.DMC_MIG_DST_RANK : Fld := ⟨4, 2⟩
def Fld.DMC_MIG_CURSOR : Fld := ⟨32, 30⟩
def Reg.DMC_ERR_CE (n : Nat) : Nat := 0x100098 + 0x10000 * n
def Fld.DMC_ERR_CE_ADDR : Fld := ⟨0, 41⟩
def Fld.DMC_ERR_CE_VALID : Fld := ⟨63, 1⟩
def Reg.DMC_ERR_UE (n : Nat) : Nat := 0x1000a0 + 0x10000 * n
def Fld.DMC_ERR_UE_ADDR : Fld := ⟨0, 41⟩
def Fld.DMC_ERR_UE_VALID : Fld := ⟨63, 1⟩
def Reg.DMC_CNT (n i : Nat) : Nat := 0x100100 + 0x10000 * n + 0x8 * i
def Fld.DMC_CNT_VALUE : Fld := ⟨0, 64⟩
def Reg.DMC_MAP (n : Nat) : Nat := 0x100800 + 0x10000 * n
def Fld.DMC_MAP_ORDER : Fld := ⟨0, 2⟩
def Fld.DMC_MAP_CHANNELS : Fld := ⟨16, 12⟩
def Reg.DMC_SPACE (n : Nat) : Nat := 0x100808 + 0x10000 * n
def Fld.DMC_SPACE_BYTES : Fld := ⟨0, 41⟩
def Reg.DMC_FREQ (n : Nat) : Nat := 0x100810 + 0x10000 * n
def Fld.DMC_FREQ_SPEED : Fld := ⟨0, 2⟩
def Fld.DMC_FREQ_TARGET : Fld := ⟨4, 2⟩
def Fld.DMC_FREQ_SPEED_MASK : Fld := ⟨8, 4⟩
def Fld.DMC_FREQ_GO : Fld := ⟨16, 1⟩
def Fld.DMC_FREQ_BUSY : Fld := ⟨17, 1⟩
def Fld.DMC_FREQ_ERR : Fld := ⟨18, 1⟩
def Fld.DMC_FREQ_ERR_CODE : Fld := ⟨20, 4⟩
def Reg.DMC_FREQ_TIME (n : Nat) : Nat := 0x100818 + 0x10000 * n
def Fld.DMC_FREQ_TIME_LAST_NS : Fld := ⟨0, 32⟩
def Reg.DMC_FILL_LINK (n h : Nat) : Nat := 0x100880 + 0x10000 * n + 0x8 * h
def Fld.DMC_FILL_LINK_CREDIT : Fld := ⟨0, 11⟩
def Fld.DMC_FILL_LINK_TIMEOUT : Fld := ⟨32, 24⟩

/-! ### PRT (R64) -/

def Reg.PRT_CTL (n : Nat) : Nat := 0x1000000 + 0x1000 * n
def Fld.PRT_CTL_ENABLE0 : Fld := ⟨0, 1⟩
def Fld.PRT_CTL_ENABLE1 : Fld := ⟨1, 1⟩
def Fld.PRT_CTL_MODE : Fld := ⟨4, 3⟩
def Fld.PRT_CTL_AN_EN : Fld := ⟨8, 1⟩
def Fld.PRT_CTL_LT_EN : Fld := ⟨9, 1⟩
def Fld.PRT_CTL_LOOPBACK : Fld := ⟨10, 2⟩
def Fld.PRT_CTL_CNT_CLR0 : Fld := ⟨32, 1⟩
def Fld.PRT_CTL_CNT_CLR1 : Fld := ⟨33, 1⟩
def Reg.PRT_STATUS (n : Nat) : Nat := 0x1000008 + 0x1000 * n
def Fld.PRT_STATUS_LINK0 : Fld := ⟨0, 1⟩
def Fld.PRT_STATUS_LINK1 : Fld := ⟨1, 1⟩
def Fld.PRT_STATUS_LINK_CHG0 : Fld := ⟨2, 1⟩
def Fld.PRT_STATUS_LINK_CHG1 : Fld := ⟨3, 1⟩
def Fld.PRT_STATUS_AN_DONE : Fld := ⟨4, 1⟩
def Fld.PRT_STATUS_AN_FAIL : Fld := ⟨5, 1⟩
def Fld.PRT_STATUS_LT_DONE : Fld := ⟨6, 1⟩
def Fld.PRT_STATUS_FEC_LOCK0 : Fld := ⟨7, 1⟩
def Fld.PRT_STATUS_FEC_LOCK1 : Fld := ⟨8, 1⟩
def Fld.PRT_STATUS_MODE_ERR : Fld := ⟨9, 1⟩
def Fld.PRT_STATUS_CFG_ERR : Fld := ⟨10, 1⟩
def Fld.PRT_STATUS_LFAULT0 : Fld := ⟨11, 1⟩
def Fld.PRT_STATUS_LFAULT1 : Fld := ⟨12, 1⟩
def Fld.PRT_STATUS_RFAULT0 : Fld := ⟨13, 1⟩
def Fld.PRT_STATUS_RFAULT1 : Fld := ⟨14, 1⟩
def Reg.PRT_LANE (n : Nat) : Nat := 0x1000010 + 0x1000 * n
def Fld.PRT_LANE_TX_POL_EVEN : Fld := ⟨0, 1⟩
def Fld.PRT_LANE_TX_POL_ODD : Fld := ⟨1, 1⟩
def Fld.PRT_LANE_RX_POL_EVEN : Fld := ⟨2, 1⟩
def Fld.PRT_LANE_RX_POL_ODD : Fld := ⟨3, 1⟩
def Fld.PRT_LANE_TX_PRESET_EVEN : Fld := ⟨8, 4⟩
def Fld.PRT_LANE_TX_PRESET_ODD : Fld := ⟨12, 4⟩
def Reg.PRT_ING_CREDIT (n : Nat) : Nat := 0x1000018 + 0x1000 * n
def Fld.PRT_ING_CREDIT_CREDIT0 : Fld := ⟨0, 14⟩
def Fld.PRT_ING_CREDIT_CREDIT1 : Fld := ⟨16, 14⟩
def Fld.PRT_ING_CREDIT_TIMEOUT : Fld := ⟨32, 24⟩
def Reg.PRT_MTU (n h : Nat) : Nat := 0x1000400 + 0x1000 * n + 0x400 * h
def Fld.PRT_MTU_MAX_FRAME : Fld := ⟨0, 14⟩
def Reg.PRT_FC_CTL (n h : Nat) : Nat := 0x1000408 + 0x1000 * n + 0x400 * h
def Fld.PRT_FC_CTL_POLICY : Fld := ⟨0, 2⟩
def Fld.PRT_FC_CTL_RX_HONOUR : Fld := ⟨2, 1⟩
def Fld.PRT_FC_CTL_DEFAULT_CLASS : Fld := ⟨8, 3⟩
def Fld.PRT_FC_CTL_PCP_MAP : Fld := ⟨16, 24⟩
def Fld.PRT_FC_CTL_PFC_RX_EN : Fld := ⟨40, 8⟩
def Reg.PRT_FC_THR (n h : Nat) : Nat := 0x1000410 + 0x1000 * n + 0x400 * h
def Fld.PRT_FC_THR_XOFF : Fld := ⟨0, 14⟩
def Fld.PRT_FC_THR_XON : Fld := ⟨16, 14⟩
def Reg.PRT_PAUSE_CFG (n h : Nat) : Nat := 0x1000418 + 0x1000 * n + 0x400 * h
def Fld.PRT_PAUSE_CFG_QUANTA : Fld := ⟨0, 16⟩
def Fld.PRT_PAUSE_CFG_REFRESH : Fld := ⟨32, 16⟩
def Reg.PRT_PFC_THR (n h c : Nat) : Nat := 0x1000420 + 0x1000 * n + 0x400 * h + 0x8 * c
def Fld.PRT_PFC_THR_XOFF : Fld := ⟨0, 14⟩
def Fld.PRT_PFC_THR_XON : Fld := ⟨16, 14⟩
def Reg.PRT_PAUSE_SA (n h : Nat) : Nat := 0x1000460 + 0x1000 * n + 0x400 * h
def Fld.PRT_PAUSE_SA_SA : Fld := ⟨0, 48⟩
def Reg.PRT_TS_ADJ (n h : Nat) : Nat := 0x1000468 + 0x1000 * n + 0x400 * h
def Fld.PRT_TS_ADJ_RX_ADJ : Fld := ⟨0, 24⟩
def Fld.PRT_TS_ADJ_TX_ADJ : Fld := ⟨32, 24⟩
def Reg.PRT_TXTS_HEAD0 (n h : Nat) : Nat := 0x1000470 + 0x1000 * n + 0x400 * h
def Fld.PRT_TXTS_HEAD0_FRAC : Fld := ⟨0, 32⟩
def Fld.PRT_TXTS_HEAD0_NS : Fld := ⟨32, 32⟩
def Reg.PRT_TXTS_HEAD1 (n h : Nat) : Nat := 0x1000478 + 0x1000 * n + 0x400 * h
def Fld.PRT_TXTS_HEAD1_SEC : Fld := ⟨0, 48⟩
def Fld.PRT_TXTS_HEAD1_VALID : Fld := ⟨63, 1⟩
def Reg.PRT_TXTS_HEAD2 (n h : Nat) : Nat := 0x1000480 + 0x1000 * n + 0x400 * h
def Fld.PRT_TXTS_HEAD2_TAG : Fld := ⟨0, 16⟩
def Fld.PRT_TXTS_HEAD2_COUNT : Fld := ⟨32, 7⟩
def Reg.PRT_TXTS_CTL (n h : Nat) : Nat := 0x1000488 + 0x1000 * n + 0x400 * h
def Fld.PRT_TXTS_CTL_POP : Fld := ⟨0, 1⟩
def Fld.PRT_TXTS_CTL_FLUSH : Fld := ⟨1, 1⟩
def Fld.PRT_TXTS_CTL_OVF : Fld := ⟨8, 1⟩
def Reg.PRT_CNT (n h i : Nat) : Nat := 0x1000600 + 0x1000 * n + 0x400 * h + 0x8 * i
def Fld.PRT_CNT_VALUE : Fld := ⟨0, 64⟩

/-! ### SLC (R90, R315) -/

def Reg.SLC_CTL (n : Nat) : Nat := 0x2000000 + 0x100000 * n
def Fld.SLC_CTL_MALFORMED_PUNT : Fld := ⟨0, 1⟩
def Fld.SLC_CTL_PUNT_QUEUE : Fld := ⟨8, 6⟩
def Fld.SLC_CTL_CNT_CLR : Fld := ⟨16, 1⟩
def Fld.SLC_CTL_MAC_CNT_CLR : Fld := ⟨17, 1⟩
def Reg.SLC_STATUS (n : Nat) : Nat := 0x2000008 + 0x100000 * n
def Fld.SLC_STATUS_CFG_ERR : Fld := ⟨0, 1⟩
def Fld.SLC_STATUS_LEARN_OVF : Fld := ⟨1, 1⟩
def Reg.SLC_HASH_CTL (n : Nat) : Nat := 0x2000010 + 0x100000 * n
def Fld.SLC_HASH_CTL_RAND : Fld := ⟨0, 1⟩
def Fld.SLC_HASH_CTL_BUCKET_BITS : Fld := ⟨8, 5⟩
def Reg.SLC_HASH_KEY0 (n : Nat) : Nat := 0x2000018 + 0x100000 * n
def Fld.SLC_HASH_KEY0_K0 : Fld := ⟨0, 64⟩
def Reg.SLC_HASH_KEY1 (n : Nat) : Nat := 0x2000020 + 0x100000 * n
def Fld.SLC_HASH_KEY1_K1 : Fld := ⟨0, 64⟩
def Reg.SLC_GEN (n : Nat) : Nat := 0x2000028 + 0x100000 * n
def Fld.SLC_GEN_CUR : Fld := ⟨0, 8⟩
def Reg.SLC_GEN_DRAIN (n i : Nat) : Nat := 0x2000030 + 0x100000 * n + 0x8 * i
def Fld.SLC_GEN_DRAIN_GEN : Fld := ⟨0, 8⟩
def Fld.SLC_GEN_DRAIN_LIVE : Fld := ⟨8, 1⟩
def Fld.SLC_GEN_DRAIN_COUNT : Fld := ⟨32, 32⟩
def Reg.SLC_DISP_TIMEOUT (n : Nat) : Nat := 0x2000050 + 0x100000 * n
def Fld.SLC_DISP_TIMEOUT_TIMEOUT : Fld := ⟨0, 24⟩
def Reg.SLC_DISP_CREDIT (n h : Nat) : Nat := 0x2000080 + 0x100000 * n + 0x8 * h
def Fld.SLC_DISP_CREDIT_CREDIT : Fld := ⟨0, 8⟩
def Fld.SLC_DISP_CREDIT_FENCED : Fld := ⟨8, 1⟩
def Reg.SLC_FCLASS (n k : Nat) : Nat := 0x2000100 + 0x100000 * n + 0x8 * k
def Fld.SLC_FCLASS_SYM : Fld := ⟨0, 1⟩
def Fld.SLC_FCLASS_FALLBACK : Fld := ⟨1, 2⟩
def Fld.SLC_FCLASS_FALLBACK_ACL : Fld := ⟨3, 1⟩
def Fld.SLC_FCLASS_PUNT_QUEUE : Fld := ⟨8, 6⟩
def Reg.SLC_RMAC (n i : Nat) : Nat := 0x2000300 + 0x100000 * n + 0x8 * i
def Fld.SLC_RMAC_MAC : Fld := ⟨0, 48⟩
def Fld.SLC_RMAC_VALID : Fld := ⟨63, 1⟩
def Reg.SLC_CNT (n i : Nat) : Nat := 0x2000340 + 0x100000 * n + 0x8 * i
def Fld.SLC_CNT_VALUE : Fld := ⟨0, 64⟩
def Reg.SLC_PCFG (n lp : Nat) : Nat := 0x2001000 + 0x100000 * n + 0x40 * lp
def Fld.SLC_PCFG_BYPASS : Fld := ⟨0, 1⟩
def Fld.SLC_PCFG_KEY_INNER : Fld := ⟨1, 1⟩
def Fld.SLC_PCFG_ZONE_SRC : Fld := ⟨2, 2⟩
def Fld.SLC_PCFG_LEARN_EN : Fld := ⟨4, 1⟩
def Fld.SLC_PCFG_DEFAULT_VID : Fld := ⟨16, 12⟩
def Fld.SLC_PCFG_ZONE : Fld := ⟨32, 16⟩
def Reg.SLC_CLASS_MAP (n lp : Nat) : Nat := 0x2001008 + 0x100000 * n + 0x40 * lp
def Fld.SLC_CLASS_MAP_CLASS0 : Fld := ⟨0, 6⟩
def Fld.SLC_CLASS_MAP_CLASS1 : Fld := ⟨6, 6⟩
def Fld.SLC_CLASS_MAP_CLASS2 : Fld := ⟨12, 6⟩
def Fld.SLC_CLASS_MAP_CLASS3 : Fld := ⟨18, 6⟩
def Fld.SLC_CLASS_MAP_CLASS4 : Fld := ⟨24, 6⟩
def Fld.SLC_CLASS_MAP_CLASS5 : Fld := ⟨30, 6⟩
def Fld.SLC_CLASS_MAP_CLASS6 : Fld := ⟨36, 6⟩
def Fld.SLC_CLASS_MAP_CLASS7 : Fld := ⟨42, 6⟩
def Reg.SLC_POL_RATE (n p : Nat) : Nat := 0x2002000 + 0x100000 * n + 0x40 * p
def Fld.SLC_POL_RATE_CIR : Fld := ⟨0, 32⟩
def Fld.SLC_POL_RATE_PIR : Fld := ⟨32, 32⟩
def Reg.SLC_POL_BURST (n p : Nat) : Nat := 0x2002008 + 0x100000 * n + 0x40 * p
def Fld.SLC_POL_BURST_CBS : Fld := ⟨0, 24⟩
def Fld.SLC_POL_BURST_PBS : Fld := ⟨32, 24⟩
def Reg.SLC_POL_CTL (n p : Nat) : Nat := 0x2002010 + 0x100000 * n + 0x40 * p
def Fld.SLC_POL_CTL_EN : Fld := ⟨0, 1⟩
def Fld.SLC_POL_CTL_RED_DROP : Fld := ⟨1, 1⟩
def Fld.SLC_POL_CTL_ADJ : Fld := ⟨8, 8⟩
def Reg.SLC_POL_CNT_G (n p : Nat) : Nat := 0x2002018 + 0x100000 * n + 0x40 * p
def Fld.SLC_POL_CNT_G_VALUE : Fld := ⟨0, 64⟩
def Reg.SLC_POL_CNT_Y (n p : Nat) : Nat := 0x2002020 + 0x100000 * n + 0x40 * p
def Fld.SLC_POL_CNT_Y_VALUE : Fld := ⟨0, 64⟩
def Reg.SLC_POL_CNT_R (n p : Nat) : Nat := 0x2002028 + 0x100000 * n + 0x40 * p
def Fld.SLC_POL_CNT_R_VALUE : Fld := ⟨0, 64⟩
def Reg.SLC_VLAN (n v : Nat) : Nat := 0x2008000 + 0x100000 * n + 0x8 * v
def Fld.SLC_VLAN_FLOOD_GROUP : Fld := ⟨0, 16⟩
def Fld.SLC_VLAN_LEARN_EN : Fld := ⟨16, 1⟩
def Reg.SLC_MAC_CTL (n : Nat) : Nat := 0x2010000 + 0x100000 * n
def Fld.SLC_MAC_CTL_AGE_MODE : Fld := ⟨0, 1⟩
def Fld.SLC_MAC_CTL_LEARN_EN : Fld := ⟨1, 1⟩
def Reg.SLC_MAC_AGE (n : Nat) : Nat := 0x2010008 + 0x100000 * n
def Fld.SLC_MAC_AGE_LIMIT : Fld := ⟨0, 31⟩
def Fld.SLC_MAC_AGE_SWEEP_PERIOD_MS : Fld := ⟨32, 32⟩
def Reg.SLC_MAC_MOVE (n : Nat) : Nat := 0x2010010 + 0x100000 * n
def Fld.SLC_MAC_MOVE_LIMIT : Fld := ⟨0, 8⟩
def Fld.SLC_MAC_MOVE_HOLD_S : Fld := ⟨8, 11⟩
def Reg.SLC_MAC_CMD (n : Nat) : Nat := 0x2010018 + 0x100000 * n
def Fld.SLC_MAC_CMD_OP : Fld := ⟨0, 3⟩
def Fld.SLC_MAC_CMD_INDEX : Fld := ⟨3, 19⟩
def Fld.SLC_MAC_CMD_FILTER : Fld := ⟨24, 2⟩
def Fld.SLC_MAC_CMD_FL_PORT : Fld := ⟨32, 9⟩
def Fld.SLC_MAC_CMD_FL_BD : Fld := ⟨48, 12⟩
def Fld.SLC_MAC_CMD_ERR : Fld := ⟨62, 1⟩
def Fld.SLC_MAC_CMD_BUSY : Fld := ⟨63, 1⟩
def Reg.SLC_MAC_DATA0 (n : Nat) : Nat := 0x2010020 + 0x100000 * n
def Fld.SLC_MAC_DATA0_ENTRY_LO : Fld := ⟨0, 64⟩
def Reg.SLC_MAC_DATA1 (n : Nat) : Nat := 0x2010028 + 0x100000 * n
def Fld.SLC_MAC_DATA1_ENTRY_HI : Fld := ⟨0, 64⟩
def Reg.SLC_MAC_PASS (n : Nat) : Nat := 0x2010030 + 0x100000 * n
def Fld.SLC_MAC_PASS_PASSES : Fld := ⟨0, 32⟩
def Reg.SLC_MAC_CNT (n i : Nat) : Nat := 0x2010040 + 0x100000 * n + 0x8 * i
def Fld.SLC_MAC_CNT_VALUE : Fld := ⟨0, 64⟩
def Reg.SLC_PP_LINK (n q : Nat) : Nat := 0x2000060 + 0x100000 * n + 0x8 * q
def Fld.SLC_PP_LINK_CREDIT : Fld := ⟨0, 9⟩
def Fld.SLC_PP_LINK_TIMEOUT : Fld := ⟨32, 24⟩

/-! ### TMB (R112) -/

def Reg.TMB_CTL (n : Nat) : Nat := 0x3000000 + 0x400000 * n
def Fld.TMB_CTL_SCRUB_EN : Fld := ⟨0, 1⟩
def Fld.TMB_CTL_CNT_CLR : Fld := ⟨16, 1⟩
def Reg.TMB_STATUS (n : Nat) : Nat := 0x3000008 + 0x400000 * n
def Fld.TMB_STATUS_CFG_ERR : Fld := ⟨0, 1⟩
def Fld.TMB_STATUS_FENCED : Fld := ⟨1, 1⟩
def Fld.TMB_STATUS_MOVE_BUSY : Fld := ⟨2, 1⟩
def Fld.TMB_STATUS_DISABLED_SEEN : Fld := ⟨3, 1⟩
def Reg.TMB_GEN_CMD (n : Nat) : Nat := 0x3000010 + 0x400000 * n
def Fld.TMB_GEN_CMD_OP : Fld := ⟨0, 2⟩
def Fld.TMB_GEN_CMD_WAIT : Fld := ⟨8, 1⟩
def Fld.TMB_GEN_CMD_COMMIT_WAIT : Fld := ⟨9, 1⟩
def Fld.TMB_GEN_CMD_ERR_CODE : Fld := ⟨32, 4⟩
def Fld.TMB_GEN_CMD_ERR : Fld := ⟨62, 1⟩
def Fld.TMB_GEN_CMD_BUSY : Fld := ⟨63, 1⟩
def Reg.TMB_GEN_STATUS (n : Nat) : Nat := 0x3000018 + 0x400000 * n
def Fld.TMB_GEN_STATUS_CUR : Fld := ⟨0, 8⟩
def Fld.TMB_GEN_STATUS_CUR_SLOT : Fld := ⟨8, 2⟩
def Fld.TMB_GEN_STATUS_PEND : Fld := ⟨16, 8⟩
def Fld.TMB_GEN_STATUS_PEND_SLOT : Fld := ⟨24, 2⟩
def Fld.TMB_GEN_STATUS_PEND_VALID : Fld := ⟨26, 1⟩
def Reg.TMB_GEN_SLOT (n i : Nat) : Nat := 0x3000020 + 0x400000 * n + 0x8 * i
def Fld.TMB_GEN_SLOT_GEN : Fld := ⟨0, 8⟩
def Fld.TMB_GEN_SLOT_STATE : Fld := ⟨8, 2⟩
def Fld.TMB_GEN_SLOT_DRAIN : Fld := ⟨32, 32⟩
def Reg.TMB_MAINT (n : Nat) : Nat := 0x3000040 + 0x400000 * n
def Fld.TMB_MAINT_MOVE_LEFT : Fld := ⟨0, 18⟩
def Fld.TMB_MAINT_LAST_MOVE_STEPS : Fld := ⟨32, 18⟩
def Reg.TMB_TABLE_CFG (n t : Nat) : Nat := 0x3000100 + 0x400000 * n + 0x8 * t
def Fld.TMB_TABLE_CFG_VALID : Fld := ⟨0, 1⟩
def Fld.TMB_TABLE_CFG_WIDTH : Fld := ⟨1, 2⟩
def Fld.TMB_TABLE_CFG_KIND : Fld := ⟨3, 3⟩
def Fld.TMB_TABLE_CFG_SHARED : Fld := ⟨6, 1⟩
def Fld.TMB_TABLE_CFG_FIRST_BANK : Fld := ⟨8, 6⟩
def Fld.TMB_TABLE_CFG_LAST_BANK : Fld := ⟨16, 6⟩
def Fld.TMB_TABLE_CFG_FREE : Fld := ⟨32, 19⟩
def Reg.TMB_TABLE_DIGEST (n t : Nat) : Nat := 0x3000180 + 0x400000 * n + 0x8 * t
def Fld.TMB_TABLE_DIGEST_DIGEST : Fld := ⟨0, 64⟩
def Reg.TMB_PORT_ACL0 (n : Nat) : Nat := 0x3000200 + 0x400000 * n
def Fld.TMB_PORT_ACL0_EN : Fld := ⟨0, 64⟩
def Reg.TMB_PORT_ACL1 (n : Nat) : Nat := 0x3000208 + 0x400000 * n
def Fld.TMB_PORT_ACL1_EN : Fld := ⟨0, 64⟩
def Reg.TMB_ENT_CMD (n : Nat) : Nat := 0x3000300 + 0x400000 * n
def Fld.TMB_ENT_CMD_OP : Fld := ⟨0, 3⟩
def Fld.TMB_ENT_CMD_TABLE : Fld := ⟨4, 4⟩
def Fld.TMB_ENT_CMD_INDEX : Fld := ⟨8, 18⟩
def Fld.TMB_ENT_CMD_ERR_CODE : Fld := ⟨32, 4⟩
def Fld.TMB_ENT_CMD_ERR : Fld := ⟨62, 1⟩
def Fld.TMB_ENT_CMD_BUSY : Fld := ⟨63, 1⟩
def Reg.TMB_ENT_META (n : Nat) : Nat := 0x3000308 + 0x400000 * n
def Fld.TMB_ENT_META_PRIORITY : Fld := ⟨0, 16⟩
def Fld.TMB_ENT_META_GEN_MASK : Fld := ⟨16, 4⟩
def Fld.TMB_ENT_META_VALID : Fld := ⟨20, 1⟩
def Fld.TMB_ENT_META_DISABLED : Fld := ⟨21, 1⟩
def Reg.TMB_ENT_KEY (n i : Nat) : Nat := 0x3000310 + 0x400000 * n + 0x8 * i
def Fld.TMB_ENT_KEY_KEY : Fld := ⟨0, 64⟩
def Reg.TMB_ENT_MASK (n i : Nat) : Nat := 0x3000340 + 0x400000 * n + 0x8 * i
def Fld.TMB_ENT_MASK_MASK : Fld := ⟨0, 64⟩
def Reg.TMB_ENT_RESULT (n : Nat) : Nat := 0x3000370 + 0x400000 * n
def Fld.TMB_ENT_RESULT_RESULT : Fld := ⟨0, 64⟩
def Reg.TMB_CNT (n i : Nat) : Nat := 0x3000380 + 0x400000 * n + 0x8 * i
def Fld.TMB_CNT_VALUE : Fld := ⟨0, 64⟩

/-! ### HNK (R147, R173, R211, R213) -/

def Reg.HNK_CTL (n : Nat) : Nat := 0x4000000 + 0x100000 * n
def Fld.HNK_CTL_SWEEP_EN : Fld := ⟨0, 1⟩
def Fld.HNK_CTL_AGE_MODE : Fld := ⟨1, 1⟩
def Fld.HNK_CTL_FLUSH : Fld := ⟨8, 1⟩
def Fld.HNK_CTL_CNT_CLR : Fld := ⟨16, 1⟩
def Reg.HNK_STATUS (n : Nat) : Nat := 0x4000008 + 0x100000 * n
def Fld.HNK_STATUS_CFG_ERR : Fld := ⟨0, 1⟩
def Fld.HNK_STATUS_FENCED : Fld := ⟨1, 1⟩
def Fld.HNK_STATUS_TABLE_FULL_SEEN : Fld := ⟨2, 1⟩
def Fld.HNK_STATUS_STASH_HIGH : Fld := ⟨3, 1⟩
def Fld.HNK_STATUS_GEN_WRAP_RISK : Fld := ⟨4, 1⟩
def Fld.HNK_STATUS_FLUSH_BUSY : Fld := ⟨5, 1⟩
def Fld.HNK_STATUS_ENTRY_FULL : Fld := ⟨6, 1⟩
def Fld.HNK_STATUS_SWEEP_LATE : Fld := ⟨7, 1⟩
def Reg.HNK_CFG (n : Nat) : Nat := 0x4000010 + 0x100000 * n
def Fld.HNK_CFG_BUCKET_BITS : Fld := ⟨8, 5⟩
def Fld.HNK_CFG_DISP_LIMIT : Fld := ⟨16, 4⟩
def Fld.HNK_CFG_PROBE_ALLOW : Fld := ⟨24, 8⟩
def Fld.HNK_CFG_PIN_LIMIT : Fld := ⟨32, 3⟩
def Reg.HNK_REC_BASE (n : Nat) : Nat := 0x4000018 + 0x100000 * n
def Fld.HNK_REC_BASE_ADDR : Fld := ⟨0, 64⟩
def Reg.HNK_STASH_BASE (n : Nat) : Nat := 0x4000020 + 0x100000 * n
def Fld.HNK_STASH_BASE_ADDR : Fld := ⟨0, 64⟩
def Reg.HNK_OCC0 (n : Nat) : Nat := 0x4000028 + 0x100000 * n
def Fld.HNK_OCC0_HOT_VALID : Fld := ⟨0, 22⟩
def Fld.HNK_OCC0_HOT_DIRTY : Fld := ⟨32, 22⟩
def Reg.HNK_OCC1 (n : Nat) : Nat := 0x4000030 + 0x100000 * n
def Fld.HNK_OCC1_BUCKET_RECORDS : Fld := ⟨0, 27⟩
def Fld.HNK_OCC1_STASH_USED : Fld := ⟨32, 17⟩
def Reg.HNK_ENTRY_STATUS (n : Nat) : Nat := 0x4000038 + 0x100000 * n
def Fld.HNK_ENTRY_STATUS_IN_USE : Fld := ⟨0, 14⟩
def Fld.HNK_ENTRY_STATUS_HIGH_WATER : Fld := ⟨16, 14⟩
def Fld.HNK_ENTRY_STATUS_EVB_IN_USE : Fld := ⟨32, 11⟩
def Reg.HNK_SWEEP_CFG (n : Nat) : Nat := 0x4000040 + 0x100000 * n
def Fld.HNK_SWEEP_CFG_SWEEP_PERIOD_MS : Fld := ⟨0, 32⟩
def Reg.HNK_SWEEP_STATUS (n : Nat) : Nat := 0x4000048 + 0x100000 * n
def Fld.HNK_SWEEP_STATUS_PASSES : Fld := ⟨0, 32⟩
def Fld.HNK_SWEEP_STATUS_GEN_COMMITS : Fld := ⟨32, 16⟩
def Reg.HNK_SWEEP_TIME (n : Nat) : Nat := 0x4000050 + 0x100000 * n
def Fld.HNK_SWEEP_TIME_LAST_PASS_MS : Fld := ⟨0, 32⟩
def Fld.HNK_SWEEP_TIME_CUR_PASS_MS : Fld := ⟨32, 32⟩
def Reg.HNK_GEN_STAMP (n : Nat) : Nat := 0x4000058 + 0x100000 * n
def Fld.HNK_GEN_STAMP_GEN : Fld := ⟨0, 8⟩
def Fld.HNK_GEN_STAMP_LAP : Fld := ⟨8, 8⟩
def Reg.HNK_AGE_LIMIT (n k : Nat) : Nat := 0x4000080 + 0x100000 * n + 0x8 * k
def Fld.HNK_AGE_LIMIT_LIMIT : Fld := ⟨0, 31⟩
def Reg.HNK_CLASS (n k : Nat) : Nat := 0x4000100 + 0x100000 * n + 0x8 * k
def Fld.HNK_CLASS_LONG : Fld := ⟨0, 1⟩
def Fld.HNK_CLASS_CREATE : Fld := ⟨1, 1⟩
def Fld.HNK_CLASS_AGE_NOTIFY : Fld := ⟨2, 1⟩
def Fld.HNK_CLASS_NEW_AGE_CLASS : Fld := ⟨4, 4⟩
def Reg.HNK_REC_CMD (n : Nat) : Nat := 0x4000300 + 0x100000 * n
def Fld.HNK_REC_CMD_OP : Fld := ⟨0, 3⟩
def Fld.HNK_REC_CMD_CLASS : Fld := ⟨4, 6⟩
def Fld.HNK_REC_CMD_LOC : Fld := ⟨16, 26⟩
def Fld.HNK_REC_CMD_STASH : Fld := ⟨42, 1⟩
def Fld.HNK_REC_CMD_ERR_CODE : Fld := ⟨48, 4⟩
def Fld.HNK_REC_CMD_FOUND : Fld := ⟨56, 1⟩
def Fld.HNK_REC_CMD_RESIDENT : Fld := ⟨57, 1⟩
def Fld.HNK_REC_CMD_ERR : Fld := ⟨62, 1⟩
def Fld.HNK_REC_CMD_BUSY : Fld := ⟨63, 1⟩
def Reg.HNK_REC_KEY (n i : Nat) : Nat := 0x4000308 + 0x100000 * n + 0x8 * i
def Fld.HNK_REC_KEY_KEY : Fld := ⟨0, 64⟩
def Reg.HNK_REC_DATA (n i : Nat) : Nat := 0x4000340 + 0x100000 * n + 0x8 * i
def Fld.HNK_REC_DATA_DATA : Fld := ⟨0, 64⟩
def Reg.HNK_CNT (n i : Nat) : Nat := 0x4000400 + 0x100000 * n + 0x8 * i
def Fld.HNK_CNT_VALUE : Fld := ⟨0, 64⟩
def Reg.SCH_CTL (n : Nat) : Nat := 0x4001000 + 0x100000 * n
def Fld.SCH_CTL_CNT_CLR : Fld := ⟨16, 1⟩
def Reg.SCH_STATUS (n : Nat) : Nat := 0x4001008 + 0x100000 * n
def Fld.SCH_STATUS_CFG_ERR : Fld := ⟨0, 1⟩
def Fld.SCH_STATUS_WINDOW_HOLD : Fld := ⟨1, 1⟩
def Fld.SCH_STATUS_REORDER_FULL : Fld := ⟨2, 1⟩
def Fld.SCH_STATUS_READY_FULL : Fld := ⟨3, 1⟩
def Fld.SCH_STATUS_RESUME_FULL : Fld := ⟨4, 1⟩
def Fld.SCH_STATUS_PARK_STALL : Fld := ⟨5, 1⟩
def Fld.SCH_STATUS_DEADLINE_MISS : Fld := ⟨6, 1⟩
def Fld.SCH_STATUS_FENCED : Fld := ⟨7, 1⟩
def Reg.SCH_OCC0 (n : Nat) : Nat := 0x4001010 + 0x100000 * n
def Fld.SCH_OCC0_READY_USED : Fld := ⟨0, 13⟩
def Fld.SCH_OCC0_RESUME_USED : Fld := ⟨32, 11⟩
def Reg.SCH_OCC1 (n : Nat) : Nat := 0x4001018 + 0x100000 * n
def Fld.SCH_OCC1_REORDER_USED : Fld := ⟨0, 15⟩
def Fld.SCH_OCC1_PARKED : Fld := ⟨32, 15⟩
def Reg.SCH_HIGH (n : Nat) : Nat := 0x4001020 + 0x100000 * n
def Fld.SCH_HIGH_REORDER_HIGH : Fld := ⟨0, 15⟩
def Fld.SCH_HIGH_READY_HIGH : Fld := ⟨32, 13⟩
def Reg.SCH_READY_LINK (n : Nat) : Nat := 0x4001028 + 0x100000 * n
def Fld.SCH_READY_LINK_CREDIT : Fld := ⟨0, 13⟩
def Fld.SCH_READY_LINK_TIMEOUT : Fld := ⟨32, 24⟩
def Reg.SCH_REL_LINK (n q : Nat) : Nat := 0x4001030 + 0x100000 * n + 0x8 * q
def Fld.SCH_REL_LINK_CREDIT : Fld := ⟨0, 12⟩
def Fld.SCH_REL_LINK_TIMEOUT : Fld := ⟨32, 24⟩
def Reg.SCH_AGE_CTL (n : Nat) : Nat := 0x4001050 + 0x100000 * n
def Fld.SCH_AGE_CTL_BUDGET : Fld := ⟨0, 16⟩
def Reg.SCH_GRP_CMD (n : Nat) : Nat := 0x4001058 + 0x100000 * n
def Fld.SCH_GRP_CMD_OP : Fld := ⟨0, 2⟩
def Fld.SCH_GRP_CMD_GROUP : Fld := ⟨16, 16⟩
def Fld.SCH_GRP_CMD_ERR : Fld := ⟨62, 1⟩
def Fld.SCH_GRP_CMD_BUSY : Fld := ⟨63, 1⟩
def Reg.SCH_GRP_DATA (n : Nat) : Nat := 0x4001060 + 0x100000 * n
def Fld.SCH_GRP_DATA_NEXT_SEQ : Fld := ⟨0, 16⟩
def Fld.SCH_GRP_DATA_NEXT_REL : Fld := ⟨16, 16⟩
def Fld.SCH_GRP_DATA_OUTSTANDING : Fld := ⟨32, 9⟩
def Fld.SCH_GRP_DATA_HEAD_STATE : Fld := ⟨41, 3⟩
def Fld.SCH_GRP_DATA_DL_HELD : Fld := ⟨44, 1⟩
def Reg.SCH_AGE_DRAIN (n i : Nat) : Nat := 0x4001068 + 0x100000 * n + 0x8 * i
def Fld.SCH_AGE_DRAIN_GEN : Fld := ⟨0, 8⟩
def Fld.SCH_AGE_DRAIN_LIVE : Fld := ⟨8, 1⟩
def Fld.SCH_AGE_DRAIN_COUNT : Fld := ⟨32, 32⟩
def Reg.SCH_CLASS (n k : Nat) : Nat := 0x4001100 + 0x100000 * n + 0x8 * k
def Fld.SCH_CLASS_PROG_ENTRY : Fld := ⟨0, 14⟩
def Fld.SCH_CLASS_AGE_ENTRY : Fld := ⟨16, 14⟩
def Fld.SCH_CLASS_BUDGET : Fld := ⟨32, 16⟩
def Fld.SCH_CLASS_MISS_DISP : Fld := ⟨48, 2⟩
def Fld.SCH_CLASS_FALLBACK : Fld := ⟨50, 2⟩
def Fld.SCH_CLASS_FALLBACK_ACL : Fld := ⟨52, 1⟩
def Fld.SCH_CLASS_PUNT_QUEUE : Fld := ⟨56, 6⟩
def Reg.SCH_CNT (n i : Nat) : Nat := 0x4001400 + 0x100000 * n + 0x8 * i
def Fld.SCH_CNT_VALUE : Fld := ⟨0, 64⟩
def Reg.FAE_CTL (n : Nat) : Nat := 0x4002000 + 0x100000 * n
def Fld.FAE_CTL_CNT_CLR : Fld := ⟨16, 1⟩
def Fld.FAE_CTL_PCNT_CLR : Fld := ⟨17, 1⟩
def Reg.FAE_STATUS (n : Nat) : Nat := 0x4002008 + 0x100000 * n
def Fld.FAE_STATUS_CFG_ERR : Fld := ⟨0, 1⟩
def Fld.FAE_STATUS_PROG_EXC : Fld := ⟨1, 1⟩
def Fld.FAE_STATUS_MC_ECC : Fld := ⟨2, 1⟩
def Fld.FAE_STATUS_ANY_HALTED : Fld := ⟨3, 1⟩
def Reg.FAE_MC_VERSION (n : Nat) : Nat := 0x4002010 + 0x100000 * n
def Fld.FAE_MC_VERSION_VERSION : Fld := ⟨0, 32⟩
def Fld.FAE_MC_VERSION_PATCH_LEVEL : Fld := ⟨32, 16⟩
def Reg.FAE_MC_DIGEST (n : Nat) : Nat := 0x4002018 + 0x100000 * n
def Fld.FAE_MC_DIGEST_DIGEST : Fld := ⟨0, 64⟩
def Reg.FAE_EXC (n : Nat) : Nat := 0x4002020 + 0x100000 * n
def Fld.FAE_EXC_CAUSE : Fld := ⟨0, 5⟩
def Fld.FAE_EXC_PC : Fld := ⟨8, 14⟩
def Fld.FAE_EXC_ENGINE : Fld := ⟨24, 5⟩
def Fld.FAE_EXC_THREAD : Fld := ⟨32, 4⟩
def Fld.FAE_EXC_CLASS : Fld := ⟨40, 6⟩
def Fld.FAE_EXC_VALID : Fld := ⟨63, 1⟩
def Reg.FAE_REC_LINK (n : Nat) : Nat := 0x4002028 + 0x100000 * n
def Fld.FAE_REC_LINK_CREDIT : Fld := ⟨0, 10⟩
def Fld.FAE_REC_LINK_TIMEOUT : Fld := ⟨32, 24⟩
def Reg.FAE_MISS_LINK (n : Nat) : Nat := 0x4002030 + 0x100000 * n
def Fld.FAE_MISS_LINK_CREDIT : Fld := ⟨0, 14⟩
def Fld.FAE_MISS_LINK_TIMEOUT : Fld := ⟨32, 24⟩
def Reg.FAE_DBG (n : Nat) : Nat := 0x4002040 + 0x100000 * n
def Fld.FAE_DBG_HOLD_DEADLINES : Fld := ⟨0, 1⟩
def Fld.FAE_DBG_BRK_EN : Fld := ⟨1, 1⟩
def Fld.FAE_DBG_BP_EN : Fld := ⟨2, 1⟩
def Fld.FAE_DBG_BP_ADDR : Fld := ⟨16, 14⟩
def Fld.FAE_DBG_BP_ENGINE : Fld := ⟨32, 5⟩
def Fld.FAE_DBG_BP_ANY_ENGINE : Fld := ⟨37, 1⟩
def Reg.FAE_DBG_CMD (n : Nat) : Nat := 0x4002048 + 0x100000 * n
def Fld.FAE_DBG_CMD_OP : Fld := ⟨0, 3⟩
def Fld.FAE_DBG_CMD_ENGINE : Fld := ⟨8, 5⟩
def Fld.FAE_DBG_CMD_THREAD : Fld := ⟨16, 4⟩
def Fld.FAE_DBG_CMD_GREG : Fld := ⟨24, 4⟩
def Fld.FAE_DBG_CMD_ERR : Fld := ⟨62, 1⟩
def Fld.FAE_DBG_CMD_BUSY : Fld := ⟨63, 1⟩
def Reg.FAE_DBG_DATA (n : Nat) : Nat := 0x4002050 + 0x100000 * n
def Fld.FAE_DBG_DATA_DATA : Fld := ⟨0, 64⟩
def Reg.FAE_DBG_STATE (n : Nat) : Nat := 0x4002058 + 0x100000 * n
def Fld.FAE_DBG_STATE_PC : Fld := ⟨0, 14⟩
def Fld.FAE_DBG_STATE_STATE : Fld := ⟨16, 3⟩
def Fld.FAE_DBG_STATE_HALTED : Fld := ⟨19, 1⟩
def Fld.FAE_DBG_STATE_HALT_CAUSE : Fld := ⟨20, 3⟩
def Fld.FAE_DBG_STATE_CALL_DEPTH : Fld := ⟨24, 3⟩
def Fld.FAE_DBG_STATE_LOCKS : Fld := ⟨28, 3⟩
def Fld.FAE_DBG_STATE_HOLD : Fld := ⟨31, 1⟩
def Fld.FAE_DBG_STATE_COMMITTED : Fld := ⟨32, 1⟩
def Fld.FAE_DBG_STATE_RES_MASK : Fld := ⟨33, 4⟩
def Fld.FAE_DBG_STATE_MSG_MASK : Fld := ⟨37, 4⟩
def Fld.FAE_DBG_STATE_TIMER_ARMED : Fld := ⟨41, 1⟩
def Fld.FAE_DBG_STATE_ITEM_ENDED : Fld := ⟨42, 1⟩
def Fld.FAE_DBG_STATE_WAKE : Fld := ⟨44, 2⟩
def Fld.FAE_DBG_STATE_KIND : Fld := ⟨46, 2⟩
def Fld.FAE_DBG_STATE_MAILBOX : Fld := ⟨48, 10⟩
def Reg.FAE_DBG_G (n i : Nat) : Nat := 0x4002060 + 0x100000 * n + 0x8 * i
def Fld.FAE_DBG_G_VALUE : Fld := ⟨0, 64⟩
def Reg.FAE_AUX_BASE (n i : Nat) : Nat := 0x4002100 + 0x100000 * n + 0x8 * i
def Fld.FAE_AUX_BASE_ADDR : Fld := ⟨0, 64⟩
def Reg.FAE_AUX_SIZE (n i : Nat) : Nat := 0x4002180 + 0x100000 * n + 0x8 * i
def Fld.FAE_AUX_SIZE_LINES : Fld := ⟨0, 32⟩
def Fld.FAE_AUX_SIZE_WR : Fld := ⟨32, 1⟩
def Reg.FAE_ENG (n e : Nat) : Nat := 0x4002200 + 0x100000 * n + 0x8 * e
def Fld.FAE_ENG_IDLE : Fld := ⟨0, 16⟩
def Fld.FAE_ENG_WAITING : Fld := ⟨16, 16⟩
def Fld.FAE_ENG_HALTED : Fld := ⟨32, 16⟩
def Fld.FAE_ENG_DL_COUNT : Fld := ⟨48, 13⟩
def Reg.FAE_CNT (n i : Nat) : Nat := 0x4002400 + 0x100000 * n + 0x8 * i
def Fld.FAE_CNT_VALUE : Fld := ⟨0, 64⟩
def Reg.FAE_PCNT (n i : Nat) : Nat := 0x4002800 + 0x100000 * n + 0x8 * i
def Fld.FAE_PCNT_VALUE : Fld := ⟨0, 64⟩
def Reg.WRD_CTL (n : Nat) : Nat := 0x4004000 + 0x100000 * n
def Fld.WRD_CTL_CNT_CLR : Fld := ⟨16, 1⟩
def Reg.WRD_STATUS (n : Nat) : Nat := 0x4004008 + 0x100000 * n
def Fld.WRD_STATUS_CFG_ERR : Fld := ⟨0, 1⟩
def Fld.WRD_STATUS_DEADLOCK_SEEN : Fld := ⟨1, 1⟩
def Reg.WRD_LOCK_CMD (n : Nat) : Nat := 0x4004010 + 0x100000 * n
def Fld.WRD_LOCK_CMD_OP : Fld := ⟨0, 2⟩
def Fld.WRD_LOCK_CMD_LOCK : Fld := ⟨16, 12⟩
def Fld.WRD_LOCK_CMD_ERR : Fld := ⟨62, 1⟩
def Fld.WRD_LOCK_CMD_BUSY : Fld := ⟨63, 1⟩
def Reg.WRD_LOCK_DATA (n : Nat) : Nat := 0x4004018 + 0x100000 * n
def Fld.WRD_LOCK_DATA_HELD : Fld := ⟨0, 1⟩
def Fld.WRD_LOCK_DATA_OWNER_E : Fld := ⟨8, 5⟩
def Fld.WRD_LOCK_DATA_OWNER_T : Fld := ⟨16, 4⟩
def Fld.WRD_LOCK_DATA_WAITERS : Fld := ⟨32, 10⟩
def Reg.WRD_LOCKS_HELD (n : Nat) : Nat := 0x4004020 + 0x100000 * n
def Fld.WRD_LOCKS_HELD_COUNT : Fld := ⟨0, 12⟩
def Reg.WRD_EV_ADD (n : Nat) : Nat := 0x4004028 + 0x100000 * n
def Fld.WRD_EV_ADD_INDEX : Fld := ⟨0, 10⟩
def Fld.WRD_EV_ADD_AMOUNT : Fld := ⟨16, 32⟩
def Fld.WRD_EV_ADD_GO : Fld := ⟨63, 1⟩
def Reg.WRD_CNT (n i : Nat) : Nat := 0x4004100 + 0x100000 * n + 0x8 * i
def Fld.WRD_CNT_VALUE : Fld := ⟨0, 64⟩
def Reg.WRD_EVENT (n m : Nat) : Nat := 0x4006000 + 0x100000 * n + 0x8 * m
def Fld.WRD_EVENT_VALUE : Fld := ⟨0, 64⟩
def Reg.WRD_MAILBOX (n i : Nat) : Nat := 0x4008000 + 0x100000 * n + 0x8 * i
def Fld.WRD_MAILBOX_WORD : Fld := ⟨0, 64⟩

/-! ### TMG (R314, R331) -/

def Reg.TMG_CTL (n : Nat) : Nat := 0x5000000 + 0x400000 * n
def Fld.TMG_CTL_CNT_CLR : Fld := ⟨16, 1⟩
def Reg.TMG_STATUS (n : Nat) : Nat := 0x5000008 + 0x400000 * n
def Fld.TMG_STATUS_CFG_ERR : Fld := ⟨0, 1⟩
def Fld.TMG_STATUS_FENCED : Fld := ⟨1, 1⟩
def Fld.TMG_STATUS_DESC_FULL_SEEN : Fld := ⟨2, 1⟩
def Fld.TMG_STATUS_PUSHOUT_SEEN : Fld := ⟨3, 1⟩
def Reg.TMG_DESC (n : Nat) : Nat := 0x5000010 + 0x400000 * n
def Fld.TMG_DESC_IN_USE : Fld := ⟨0, 21⟩
def Fld.TMG_DESC_HIGH : Fld := ⟨32, 21⟩
def Reg.TMG_WRED_CTL (n : Nat) : Nat := 0x5000018 + 0x400000 * n
def Fld.TMG_WRED_CTL_WEIGHT : Fld := ⟨0, 4⟩
def Reg.TMG_QCMD (n : Nat) : Nat := 0x5000020 + 0x400000 * n
def Fld.TMG_QCMD_OP : Fld := ⟨0, 2⟩
def Fld.TMG_QCMD_QUEUE : Fld := ⟨16, 10⟩
def Fld.TMG_QCMD_ERR : Fld := ⟨62, 1⟩
def Fld.TMG_QCMD_BUSY : Fld := ⟨63, 1⟩
def Reg.TMG_CNT (n i : Nat) : Nat := 0x5000080 + 0x400000 * n + 0x8 * i
def Fld.TMG_CNT_VALUE : Fld := ⟨0, 64⟩
def Reg.TMG_REL_IN (n i : Nat) : Nat := 0x5000100 + 0x400000 * n + 0x8 * i
def Fld.TMG_REL_IN_OCC : Fld := ⟨0, 9⟩
def Reg.TMG_WRED_TH (n p : Nat) : Nat := 0x5000200 + 0x400000 * n + 0x10 * p
def Fld.TMG_WRED_TH_MIN_TH : Fld := ⟨0, 23⟩
def Fld.TMG_WRED_TH_MAX_TH : Fld := ⟨32, 23⟩
def Reg.TMG_WRED_P (n p : Nat) : Nat := 0x5000208 + 0x400000 * n + 0x10 * p
def Fld.TMG_WRED_P_MAX_P : Fld := ⟨0, 8⟩
def Fld.TMG_WRED_P_MARK_ECN : Fld := ⟨8, 1⟩
def Reg.TMG_PORT_CNT (n lp j : Nat) : Nat := 0x5001000 + 0x400000 * n + 0x20 * lp + 0x8 * j
def Fld.TMG_PORT_CNT_VALUE : Fld := ⟨0, 64⟩
def Reg.TMG_QCFG0 (n u : Nat) : Nat := 0x5020000 + 0x400000 * n + 0x80 * u
def Fld.TMG_QCFG0_Q_MAX : Fld := ⟨0, 23⟩
def Fld.TMG_QCFG0_Q_MIN : Fld := ⟨32, 23⟩
def Reg.TMG_QCFG1 (n u : Nat) : Nat := 0x5020008 + 0x400000 * n + 0x80 * u
def Fld.TMG_QCFG1_ALPHA : Fld := ⟨0, 4⟩
def Fld.TMG_QCFG1_PROF_G : Fld := ⟨8, 4⟩
def Fld.TMG_QCFG1_PROF_Y : Fld := ⟨12, 4⟩
def Fld.TMG_QCFG1_PROF_R : Fld := ⟨16, 4⟩
def Fld.TMG_QCFG1_PUSHOUT_EN : Fld := ⟨20, 1⟩
def Reg.TMG_QSTAT (n u : Nat) : Nat := 0x5020010 + 0x400000 * n + 0x80 * u
def Fld.TMG_QSTAT_DEPTH_CELLS : Fld := ⟨0, 23⟩
def Fld.TMG_QSTAT_DEPTH_FRAMES : Fld := ⟨32, 21⟩
def Reg.TMG_QAVG (n u : Nat) : Nat := 0x5020018 + 0x400000 * n + 0x80 * u
def Fld.TMG_QAVG_AVG : Fld := ⟨0, 31⟩
def Reg.TMG_QCNT (n u j : Nat) : Nat := 0x5020020 + 0x400000 * n + 0x80 * u + 0x8 * j
def Fld.TMG_QCNT_VALUE : Fld := ⟨0, 64⟩
def Reg.TMG_SCH_CTL (n : Nat) : Nat := 0x5040000 + 0x400000 * n
def Fld.TMG_SCH_CTL_CNT_CLR : Fld := ⟨16, 1⟩
def Reg.TMG_SCH_STATUS (n : Nat) : Nat := 0x5040008 + 0x400000 * n
def Fld.TMG_SCH_STATUS_CFG_ERR : Fld := ⟨0, 1⟩
def Fld.TMG_SCH_STATUS_GCL_ERR : Fld := ⟨1, 1⟩
def Reg.TMG_GCL_CMD (n : Nat) : Nat := 0x5040010 + 0x400000 * n
def Fld.TMG_GCL_CMD_OP : Fld := ⟨0, 3⟩
def Fld.TMG_GCL_CMD_PORT : Fld := ⟨8, 7⟩
def Fld.TMG_GCL_CMD_ENTRY : Fld := ⟨16, 8⟩
def Fld.TMG_GCL_CMD_BANK : Fld := ⟨24, 1⟩
def Fld.TMG_GCL_CMD_ERR_CODE : Fld := ⟨32, 4⟩
def Fld.TMG_GCL_CMD_ERR : Fld := ⟨62, 1⟩
def Fld.TMG_GCL_CMD_BUSY : Fld := ⟨63, 1⟩
def Reg.TMG_GCL_DATA (n : Nat) : Nat := 0x5040018 + 0x400000 * n
def Fld.TMG_GCL_DATA_GATES : Fld := ⟨0, 8⟩
def Fld.TMG_GCL_DATA_INTERVAL_NS : Fld := ⟨32, 32⟩
def Reg.TMG_GCL_ARM (n : Nat) : Nat := 0x5040020 + 0x400000 * n
def Fld.TMG_GCL_ARM_LEN : Fld := ⟨0, 9⟩
def Reg.TMG_GCL_TIME_SEC (n : Nat) : Nat := 0x5040028 + 0x400000 * n
def Fld.TMG_GCL_TIME_SEC_SEC : Fld := ⟨0, 48⟩
def Reg.TMG_GCL_TIME_NS (n : Nat) : Nat := 0x5040030 + 0x400000 * n
def Fld.TMG_GCL_TIME_NS_NS : Fld := ⟨0, 32⟩
def Reg.TMG_GAUGE_CTL (n : Nat) : Nat := 0x5040038 + 0x400000 * n
def Fld.TMG_GAUGE_CTL_PERIOD_US : Fld := ⟨0, 20⟩
def Reg.TMG_GAUGE_STATUS (n : Nat) : Nat := 0x5040040 + 0x400000 * n
def Fld.TMG_GAUGE_STATUS_BANK : Fld := ⟨0, 1⟩
def Fld.TMG_GAUGE_STATUS_SEQ : Fld := ⟨32, 32⟩
def Reg.TMG_GAUGE_MONO (n b : Nat) : Nat := 0x5040048 + 0x400000 * n + 0x8 * b
def Fld.TMG_GAUGE_MONO_MONO : Fld := ⟨0, 64⟩
def Reg.TMG_NH_CMD (n : Nat) : Nat := 0x5040080 + 0x400000 * n
def Fld.TMG_NH_CMD_OP : Fld := ⟨0, 2⟩
def Fld.TMG_NH_CMD_INDEX : Fld := ⟨8, 18⟩
def Fld.TMG_NH_CMD_ERR : Fld := ⟨62, 1⟩
def Fld.TMG_NH_CMD_BUSY : Fld := ⟨63, 1⟩
def Reg.TMG_NH_DATA (n i : Nat) : Nat := 0x5040088 + 0x400000 * n + 0x8 * i
def Fld.TMG_NH_DATA_WORD : Fld := ⟨0, 64⟩
def Reg.TMG_SCH_CNT (n i : Nat) : Nat := 0x5040100 + 0x400000 * n + 0x8 * i
def Fld.TMG_SCH_CNT_VALUE : Fld := ⟨0, 64⟩
def Reg.TMG_PSHAPE_RATE (n lp : Nat) : Nat := 0x5041000 + 0x400000 * n + 0x40 * lp
def Fld.TMG_PSHAPE_RATE_RATE : Fld := ⟨0, 32⟩
def Fld.TMG_PSHAPE_RATE_EN : Fld := ⟨32, 1⟩
def Reg.TMG_PSHAPE_BURST (n lp : Nat) : Nat := 0x5041008 + 0x400000 * n + 0x40 * lp
def Fld.TMG_PSHAPE_BURST_BURST : Fld := ⟨0, 24⟩
def Fld.TMG_PSHAPE_BURST_SHAPE_ADJ : Fld := ⟨32, 8⟩
def Reg.TMG_PSHAPE_TOK (n lp : Nat) : Nat := 0x5041010 + 0x400000 * n + 0x40 * lp
def Fld.TMG_PSHAPE_TOK_TOKENS : Fld := ⟨0, 32⟩
def Reg.TMG_GATE_CFG (n lp : Nat) : Nat := 0x5041018 + 0x400000 * n + 0x40 * lp
def Fld.TMG_GATE_CFG_GUARD_NS : Fld := ⟨0, 16⟩
def Reg.TMG_GATE_STATUS (n lp : Nat) : Nat := 0x5041020 + 0x400000 * n + 0x40 * lp
def Fld.TMG_GATE_STATUS_EN : Fld := ⟨0, 1⟩
def Fld.TMG_GATE_STATUS_PENDING : Fld := ⟨1, 1⟩
def Fld.TMG_GATE_STATUS_ACTIVE_BANK : Fld := ⟨2, 1⟩
def Fld.TMG_GATE_STATUS_ACTIVE_LEN : Fld := ⟨8, 9⟩
def Fld.TMG_GATE_STATUS_CUR_ENTRY : Fld := ⟨24, 8⟩
def Fld.TMG_GATE_STATUS_OPEN : Fld := ⟨32, 8⟩
def Reg.TMG_EGR_LINK (n lp : Nat) : Nat := 0x5041028 + 0x400000 * n + 0x40 * lp
def Fld.TMG_EGR_LINK_CREDIT : Fld := ⟨0, 40⟩
def Fld.TMG_EGR_LINK_TIMEOUT : Fld := ⟨40, 24⟩
def Reg.TMG_QSHAPE_RATE (n u : Nat) : Nat := 0x5060000 + 0x400000 * n + 0x40 * u
def Fld.TMG_QSHAPE_RATE_RATE : Fld := ⟨0, 32⟩
def Fld.TMG_QSHAPE_RATE_EN : Fld := ⟨32, 1⟩
def Reg.TMG_QSHAPE_BURST (n u : Nat) : Nat := 0x5060008 + 0x400000 * n + 0x40 * u
def Fld.TMG_QSHAPE_BURST_BURST : Fld := ⟨0, 24⟩
def Reg.TMG_QSHAPE_TOK (n u : Nat) : Nat := 0x5060010 + 0x400000 * n + 0x40 * u
def Fld.TMG_QSHAPE_TOK_TOKENS : Fld := ⟨0, 32⟩
def Reg.TMG_GAUGE_MAX (n u : Nat) : Nat := 0x5060018 + 0x400000 * n + 0x40 * u
def Fld.TMG_GAUGE_MAX_DEPTH_MAX : Fld := ⟨0, 23⟩
def Fld.TMG_GAUGE_MAX_SOJOURN_MAX : Fld := ⟨32, 32⟩
def Reg.TMG_GAUGE_SUM (n u : Nat) : Nat := 0x5060020 + 0x400000 * n + 0x40 * u
def Fld.TMG_GAUGE_SUM_SOJOURN_SUM : Fld := ⟨0, 64⟩
def Reg.TMG_GAUGE_LAST (n u : Nat) : Nat := 0x5060028 + 0x400000 * n + 0x40 * u
def Fld.TMG_GAUGE_LAST_SOJOURN_LAST : Fld := ⟨0, 32⟩
def Reg.TMG_GAUGE_SNAP (n b u : Nat) : Nat := 0x5080000 + 0x400000 * n + 0x2000 * b + 0x8 * u
def Fld.TMG_GAUGE_SNAP_DEPTH : Fld := ⟨0, 23⟩
def Fld.TMG_GAUGE_SNAP_HEAD_SOJOURN : Fld := ⟨24, 32⟩

/-! ### BUF (R313) -/

def Reg.BUF_CTL : Nat := 0x6000000
def Fld.BUF_CTL_CNT_CLR : Fld := ⟨16, 1⟩
def Reg.BUF_STATUS : Nat := 0x6000008
def Fld.BUF_STATUS_CFG_ERR : Fld := ⟨0, 1⟩
def Fld.BUF_STATUS_ING_NO_CELL_SEEN : Fld := ⟨1, 1⟩
def Fld.BUF_STATUS_CELL_UE_SEEN : Fld := ⟨2, 1⟩
def Fld.BUF_STATUS_WITHDRAWN_SEEN : Fld := ⟨3, 1⟩
def Reg.BUF_CFG : Nat := 0x6000010
def Fld.BUF_CFG_ING_GUARD : Fld := ⟨0, 21⟩
def Fld.BUF_CFG_PUSHOUT_FREE : Fld := ⟨32, 23⟩
def Reg.BUF_OCC0 : Nat := 0x6000018
def Fld.BUF_OCC0_FREE : Fld := ⟨0, 23⟩
def Fld.BUF_OCC0_INFLIGHT : Fld := ⟨32, 23⟩
def Reg.BUF_OCC1 : Nat := 0x6000020
def Fld.BUF_OCC1_QUEUED : Fld := ⟨0, 23⟩
def Fld.BUF_OCC1_WITHDRAWN : Fld := ⟨32, 23⟩
def Reg.BUF_LOW : Nat := 0x6000028
def Fld.BUF_LOW_FREE_LOW : Fld := ⟨0, 23⟩
def Reg.BUF_MIRROR : Nat := 0x6000030
def Fld.BUF_MIRROR_EN : Fld := ⟨0, 1⟩
def Fld.BUF_MIRROR_DEST_KIND : Fld := ⟨1, 1⟩
def Fld.BUF_MIRROR_TRUNC : Fld := ⟨2, 2⟩
def Fld.BUF_MIRROR_HOST_QUEUE : Fld := ⟨8, 6⟩
def Fld.BUF_MIRROR_EGRESS : Fld := ⟨16, 9⟩
def Fld.BUF_MIRROR_QCLASS : Fld := ⟨25, 3⟩
def Reg.BUF_MCG_CMD : Nat := 0x6000038
def Fld.BUF_MCG_CMD_OP : Fld := ⟨0, 2⟩
def Fld.BUF_MCG_CMD_GROUP : Fld := ⟨16, 16⟩
def Fld.BUF_MCG_CMD_QUAD : Fld := ⟨32, 2⟩
def Fld.BUF_MCG_CMD_QMASK : Fld := ⟨40, 4⟩
def Fld.BUF_MCG_CMD_ERR : Fld := ⟨62, 1⟩
def Fld.BUF_MCG_CMD_BUSY : Fld := ⟨63, 1⟩
def Reg.BUF_MCG_DATA0 : Nat := 0x6000040
def Fld.BUF_MCG_DATA0_MEMBERS_LO : Fld := ⟨0, 64⟩
def Reg.BUF_MCG_DATA1 : Nat := 0x6000048
def Fld.BUF_MCG_DATA1_MEMBERS_HI : Fld := ⟨0, 64⟩
def Reg.BUF_CNT (i : Nat) : Nat := 0x6000080 + 0x8 * i
def Fld.BUF_CNT_VALUE : Fld := ⟨0, 64⟩
def Reg.BUF_SAMP_CFG (k : Nat) : Nat := 0x6001000 + 0x20 * k
def Fld.BUF_SAMP_CFG_EN : Fld := ⟨0, 1⟩
def Fld.BUF_SAMP_CFG_RAND_START : Fld := ⟨1, 1⟩
def Fld.BUF_SAMP_CFG_TRUNC : Fld := ⟨2, 1⟩
def Fld.BUF_SAMP_CFG_HOST_QUEUE : Fld := ⟨8, 6⟩
def Fld.BUF_SAMP_CFG_N_MINUS_1 : Fld := ⟨32, 24⟩
def Reg.BUF_SAMP_OFFERED (k : Nat) : Nat := 0x6001008 + 0x20 * k
def Fld.BUF_SAMP_OFFERED_VALUE : Fld := ⟨0, 64⟩
def Reg.BUF_SAMP_SAMPLED (k : Nat) : Nat := 0x6001010 + 0x20 * k
def Fld.BUF_SAMP_SAMPLED_VALUE : Fld := ⟨0, 64⟩
def Reg.BUF_PSAMP (i : Nat) : Nat := 0x6002000 + 0x8 * i
def Fld.BUF_PSAMP_EN : Fld := ⟨0, 1⟩
def Fld.BUF_PSAMP_SAMPLER : Fld := ⟨1, 6⟩
def Reg.BUF_ING_NO_CELL (i : Nat) : Nat := 0x6003000 + 0x8 * i
def Fld.BUF_ING_NO_CELL_VALUE : Fld := ⟨0, 64⟩

/-! ### MCS (R212) -/

def Reg.MCS_WORD (a i : Nat) : Nat := 0x8000000 + 0x20 * a + 0x8 * i
def Fld.MCS_WORD_BITS : Fld := ⟨0, 64⟩
def Reg.MCS_SEL : Nat := 0x8080000
def Fld.MCS_SEL_SHARD : Fld := ⟨0, 4⟩

end Sys2Proof.Machine
end

