-- ==== Sys2Proof/Machine/RegTable.lean ====
section
/-! DEFINITION. The register tables of the spec as data: for every register its offset in its block, its array
strides and its fields with lowest bit, width, access type (R7), factory default and whether the image writes it (R6, R462). -/

namespace Sys2Proof.Machine

/-- The access types of R7. -/
inductive Access where
  | ro | rw | w1c | w1s | rc | rwi
  deriving DecidableEq, Repr

/-- One bit field of a register table: lowest bit, width, access type, factory default, `img` where the table says "image". -/
structure FieldDef where
  lo : Nat
  len : Nat
  acc : Access
  dflt : Nat
  img : Bool
  deriving DecidableEq, Repr

/-- In which of a block's copies a register exists (R457). -/
inductive Copies where
  | all | zero | quad
  deriving DecidableEq, Repr

/-- One row of a register table: offset, array dimensions (stride, count), fields. -/
structure RegDef where
  off : Nat
  dims : List (Nat × Nat)
  at_ : Copies
  fields : List FieldDef
  deriving DecidableEq, Repr

/-- One row of R456. -/
structure BlockDef where
  base : Nat
  stride : Nat
  count : Nat
  extent : Nat
  regs : List RegDef
  deriving DecidableEq, Repr

/-- Registers of GLB, part 0 (R440, R464). -/
def regsGLB0 : List RegDef :=
  [
   ⟨0x0, [], .all,
     [⟨0, 16, .ro, 37122, false⟩, ⟨16, 8, .ro, 0, false⟩, ⟨24, 1, .ro, 0, false⟩]⟩,
   ⟨0x8, [], .all,
     [⟨0, 1, .w1s, 0, false⟩]⟩,
   ⟨0x10, [], .all,
     [⟨0, 1, .ro, 0, false⟩, ⟨1, 1, .ro, 0, false⟩]⟩,
   ⟨0x18, [], .all,
     [⟨0, 16, .ro, 0, false⟩, ⟨16, 16, .ro, 0, false⟩, ⟨32, 16, .ro, 0, false⟩, ⟨48, 16, .ro, 0, false⟩]⟩,
   ⟨0x20, [], .all,
     [⟨0, 64, .rw, 0, false⟩]⟩,
   ⟨0x28, [], .all,
     [⟨0, 64, .ro, 0, false⟩]⟩,
   ⟨0x30, [], .all,
     [⟨0, 28, .ro, 0, false⟩, ⟨32, 1, .ro, 0, false⟩, ⟨33, 6, .ro, 0, false⟩, ⟨40, 2, .ro, 0, false⟩, ⟨63, 1, .w1c, 0, false⟩]⟩]

/-- R456, row GLB. -/
def blockGLB : BlockDef :=
  ⟨0x0, 0x0, 1, 0x10000, regsGLB0⟩

/-- Registers of CST, part 0 (R356). -/
def regsCST0 : List RegDef :=
  [
   ⟨0x0, [], .all,
     [⟨0, 1, .w1s, 0, false⟩, ⟨1, 1, .w1s, 0, false⟩, ⟨16, 1, .w1s, 0, false⟩]⟩,
   ⟨0x8, [], .all,
     [⟨0, 4, .ro, 0, false⟩, ⟨4, 2, .ro, 0, false⟩, ⟨6, 1, .ro, 0, false⟩, ⟨7, 1, .ro, 0, false⟩, ⟨8, 1, .ro, 0, false⟩, ⟨9, 1, .w1c, 0, false⟩, ⟨10, 1, .w1c, 0, false⟩, ⟨11, 1, .w1c, 0, false⟩, ⟨12, 3, .ro, 0, false⟩]⟩,
   ⟨0x10, [], .all,
     [⟨0, 64, .ro, 0, false⟩]⟩,
   ⟨0x18, [], .all,
     [⟨0, 8, .ro, 0, false⟩, ⟨8, 16, .ro, 0, false⟩, ⟨24, 1, .ro, 0, false⟩, ⟨32, 32, .ro, 0, false⟩]⟩,
   ⟨0x20, [(0x8, 2)], .all,
     [⟨0, 16, .ro, 0, false⟩, ⟨16, 4, .ro, 0, false⟩, ⟨20, 28, .ro, 0, false⟩, ⟨48, 2, .ro, 0, false⟩, ⟨63, 1, .ro, 0, false⟩]⟩,
   ⟨0x30, [(0x8, 2)], .all,
     [⟨0, 32, .ro, 0, false⟩, ⟨32, 32, .ro, 0, false⟩]⟩,
   ⟨0x40, [], .all,
     [⟨0, 32, .ro, 0, false⟩]⟩,
   ⟨0x48, [], .all,
     [⟨0, 2, .ro, 0, false⟩, ⟨2, 1, .ro, 0, false⟩, ⟨8, 7, .ro, 0, false⟩]⟩,
   ⟨0x50, [], .all,
     [⟨0, 2, .rw, 0, false⟩, ⟨62, 1, .w1c, 0, false⟩, ⟨63, 1, .ro, 0, false⟩]⟩,
   ⟨0x58, [(0x8, 6)], .all,
     [⟨0, 64, .rw, 0, false⟩]⟩,
   ⟨0x88, [(0x8, 6)], .all,
     [⟨0, 64, .ro, 0, false⟩]⟩,
   ⟨0xc0, [], .all,
     [⟨0, 32, .ro, 0, false⟩, ⟨32, 32, .ro, 0, false⟩]⟩]

/-- Registers of CST, part 1 (R356). -/
def regsCST1 : List RegDef :=
  [
   ⟨0xc8, [], .all,
     [⟨0, 32, .ro, 0, false⟩, ⟨32, 32, .ro, 0, false⟩]⟩,
   ⟨0xd0, [(0x8, 4)], .all,
     [⟨0, 32, .ro, 0, false⟩, ⟨32, 32, .ro, 0, false⟩]⟩,
   ⟨0xf0, [(0x8, 16)], .all,
     [⟨0, 32, .ro, 0, false⟩, ⟨32, 32, .ro, 0, false⟩]⟩,
   ⟨0x170, [], .all,
     [⟨0, 24, .ro, 0, false⟩, ⟨24, 24, .ro, 0, false⟩]⟩,
   ⟨0x178, [], .all,
     [⟨0, 48, .ro, 0, false⟩]⟩,
   ⟨0x180, [], .all,
     [⟨0, 32, .ro, 0, false⟩]⟩,
   ⟨0x200, [(0x8, 16)], .all,
     [⟨0, 64, .ro, 0, false⟩]⟩]

/-- R456, row CST. -/
def blockCST : BlockDef :=
  ⟨0x10000, 0x0, 1, 0x10000, regsCST0 ++ regsCST1⟩

/-- Registers of FLT, part 0 (R404). -/
def regsFLT0 : List RegDef :=
  [
   ⟨0x0, [], .all,
     [⟨16, 1, .w1s, 0, false⟩]⟩,
   ⟨0x8, [], .all,
     [⟨0, 1, .w1c, 0, false⟩, ⟨1, 1, .w1c, 0, false⟩, ⟨2, 1, .w1c, 0, false⟩, ⟨3, 1, .w1c, 0, false⟩, ⟨4, 1, .w1c, 0, false⟩, ⟨5, 1, .ro, 0, false⟩, ⟨6, 1, .ro, 0, false⟩, ⟨7, 1, .w1c, 0, false⟩]⟩,
   ⟨0x10, [], .all,
     [⟨0, 24, .rw, 10000, true⟩, ⟨24, 16, .rw, 1000, true⟩, ⟨40, 1, .rw, 0, true⟩, ⟨41, 1, .rw, 1, true⟩, ⟨44, 4, .rw, 3, true⟩, ⟨48, 16, .rw, 600, true⟩]⟩,
   ⟨0x18, [], .all,
     [⟨0, 16, .rw, 64, true⟩, ⟨16, 16, .rw, 256, true⟩]⟩,
   ⟨0x20, [], .all,
     [⟨0, 8, .rw, 12, true⟩]⟩,
   ⟨0x28, [], .all,
     [⟨0, 8, .rw, 28, true⟩]⟩,
   ⟨0x30, [], .all,
     [⟨0, 13, .ro, 0, false⟩, ⟨16, 13, .rw, 0, false⟩]⟩,
   ⟨0x38, [], .all,
     [⟨0, 12, .rw, 0, false⟩]⟩,
   ⟨0x40, [(0x8, 4)], .all,
     [⟨0, 64, .ro, 0, false⟩]⟩,
   ⟨0x100, [(0x20, 4), (0x8, 4)], .all,
     [⟨0, 63, .ro, 0, false⟩, ⟨63, 1, .w1c, 0, false⟩]⟩,
   ⟨0x200, [], .all,
     [⟨0, 3, .rw, 0, false⟩, ⟨16, 9, .rw, 0, false⟩, ⟨32, 4, .ro, 0, false⟩, ⟨62, 1, .w1c, 0, false⟩, ⟨63, 1, .ro, 0, false⟩]⟩,
   ⟨0x208, [], .all,
     [⟨0, 16, .rw, 0, false⟩, ⟨16, 12, .rw, 0, false⟩, ⟨28, 2, .rw, 0, false⟩, ⟨63, 1, .w1s, 0, false⟩]⟩]

/-- Registers of FLT, part 1 (R404). -/
def regsFLT1 : List RegDef :=
  [
   ⟨0x210, [], .all,
     [⟨0, 48, .rw, 0, false⟩]⟩,
   ⟨0x218, [], .all,
     [⟨0, 4, .ro, 0, false⟩, ⟨8, 1, .ro, 0, false⟩, ⟨16, 48, .ro, 0, false⟩]⟩,
   ⟨0x400, [(0x8, 315)], .all,
     [⟨0, 3, .ro, 0, false⟩, ⟨3, 1, .ro, 0, false⟩, ⟨4, 1, .ro, 0, false⟩, ⟨5, 27, .ro, 0, false⟩, ⟨32, 18, .ro, 0, false⟩, ⟨50, 14, .ro, 0, false⟩]⟩,
   ⟨0x1000, [(0x8, 16)], .all,
     [⟨0, 64, .ro, 0, false⟩]⟩]

/-- R456, row FLT. -/
def blockFLT : BlockDef :=
  ⟨0x20000, 0x0, 1, 0x10000, regsFLT0 ++ regsFLT1⟩

/-- Registers of TOD, part 0 (R65). -/
def regsTOD0 : List RegDef :=
  [
   ⟨0x0, [], .all,
     [⟨0, 3, .rw, 0, false⟩, ⟨8, 1, .rw, 0, true⟩, ⟨9, 1, .rw, 0, true⟩, ⟨10, 1, .w1s, 0, false⟩]⟩,
   ⟨0x8, [], .all,
     [⟨0, 1, .ro, 0, false⟩, ⟨1, 1, .w1c, 0, false⟩, ⟨2, 1, .w1c, 0, false⟩, ⟨3, 1, .ro, 0, false⟩, ⟨4, 1, .ro, 0, false⟩, ⟨5, 1, .w1c, 0, false⟩, ⟨6, 1, .ro, 0, false⟩, ⟨7, 1, .ro, 0, false⟩, ⟨8, 1, .w1c, 0, false⟩]⟩,
   ⟨0x10, [], .all,
     [⟨0, 32, .rw, 1073741824, true⟩, ⟨32, 4, .rw, 1, true⟩]⟩,
   ⟨0x18, [], .all,
     [⟨0, 48, .rw, 0, false⟩]⟩,
   ⟨0x20, [], .all,
     [⟨0, 32, .rw, 0, false⟩, ⟨32, 32, .rw, 0, false⟩]⟩,
   ⟨0x28, [], .all,
     [⟨0, 48, .rw, 0, false⟩]⟩,
   ⟨0x30, [], .all,
     [⟨0, 32, .rw, 0, false⟩, ⟨32, 4, .rw, 0, false⟩]⟩,
   ⟨0x38, [], .all,
     [⟨0, 32, .rw, 0, false⟩]⟩,
   ⟨0x40, [], .all,
     [⟨0, 48, .ro, 0, false⟩]⟩,
   ⟨0x48, [], .all,
     [⟨0, 32, .ro, 0, false⟩, ⟨32, 32, .ro, 0, false⟩]⟩,
   ⟨0x50, [], .all,
     [⟨0, 64, .ro, 0, false⟩]⟩,
   ⟨0x58, [], .all,
     [⟨0, 64, .ro, 0, false⟩]⟩]

/-- Registers of TOD, part 1 (R65). -/
def regsTOD1 : List RegDef :=
  [
   ⟨0x60, [], .all,
     [⟨0, 48, .ro, 0, false⟩]⟩,
   ⟨0x68, [], .all,
     [⟨0, 32, .ro, 0, false⟩, ⟨32, 32, .ro, 0, false⟩]⟩,
   ⟨0x70, [], .all,
     [⟨0, 64, .ro, 0, false⟩]⟩,
   ⟨0x78, [], .all,
     [⟨0, 20, .rw, 100000, true⟩, ⟨32, 24, .rw, 0, true⟩]⟩,
   ⟨0x80, [], .all,
     [⟨0, 32, .rw, 0, true⟩]⟩]

/-- R456, row TOD. -/
def blockTOD : BlockDef :=
  ⟨0x30000, 0x0, 1, 0x10000, regsTOD0 ++ regsTOD1⟩

/-- Registers of HIF, part 0 (R382). -/
def regsHIF0 : List RegDef :=
  [
   ⟨0x0, [], .all,
     [⟨0, 1, .rw, 0, false⟩, ⟨16, 1, .w1s, 0, false⟩]⟩,
   ⟨0x8, [], .all,
     [⟨0, 1, .w1c, 0, false⟩, ⟨1, 1, .ro, 0, false⟩, ⟨2, 1, .ro, 0, false⟩, ⟨3, 1, .w1c, 0, false⟩, ⟨4, 1, .w1c, 0, false⟩, ⟨5, 1, .w1c, 0, false⟩, ⟨8, 3, .ro, 0, false⟩, ⟨12, 4, .ro, 0, false⟩]⟩,
   ⟨0x10, [(0x8, 4)], .all,
     [⟨16, 25, .rw, 0, false⟩]⟩,
   ⟨0x40, [], .all,
     [⟨0, 8, .rw, 0, false⟩, ⟨8, 1, .rw, 0, false⟩, ⟨16, 8, .rw, 0, false⟩, ⟨24, 1, .rw, 0, false⟩]⟩,
   ⟨0x1000, [(0x20, 128)], .all,
     [⟨12, 52, .rw, 0, false⟩]⟩,
   ⟨0x1008, [(0x20, 128)], .all,
     [⟨0, 5, .rw, 6, false⟩, ⟨8, 1, .rw, 0, false⟩, ⟨16, 8, .rw, 0, false⟩, ⟨24, 1, .rw, 0, false⟩, ⟨32, 16, .rw, 1, false⟩, ⟨48, 16, .rw, 0, false⟩]⟩,
   ⟨0x1010, [(0x20, 128)], .all,
     [⟨0, 16, .ro, 0, false⟩, ⟨16, 16, .ro, 0, false⟩]⟩,
   ⟨0x1018, [(0x20, 128)], .all,
     [⟨0, 64, .ro, 0, false⟩]⟩,
   ⟨0x2000, [(0x8, 16)], .all,
     [⟨0, 64, .ro, 0, false⟩]⟩]

/-- R456, row HIF. -/
def blockHIF : BlockDef :=
  ⟨0x40000, 0x0, 1, 0x10000, regsHIF0⟩

/-- Registers of LOP, part 0 (R383). -/
def regsLOP0 : List RegDef :=
  [
   ⟨0x0, [(0x100, 16)], .all,
     [⟨0, 4, .rw, 0, false⟩, ⟨8, 1, .w1s, 0, false⟩, ⟨9, 1, .w1s, 0, false⟩]⟩,
   ⟨0x8, [(0x100, 16)], .all,
     [⟨0, 64, .ro, 0, false⟩]⟩,
   ⟨0x10, [(0x100, 16), (0x8, 4)], .all,
     [⟨0, 64, .rw, 0, false⟩]⟩,
   ⟨0x30, [(0x100, 16)], .all,
     [⟨6, 58, .rw, 0, false⟩]⟩,
   ⟨0x38, [(0x100, 16)], .all,
     [⟨0, 32, .rw, 0, false⟩]⟩,
   ⟨0x40, [(0x100, 16)], .all,
     [⟨0, 32, .rw, 0, false⟩, ⟨63, 1, .rw, 0, false⟩]⟩,
   ⟨0x48, [(0x100, 16)], .all,
     [⟨6, 58, .rw, 0, false⟩]⟩,
   ⟨0x50, [(0x100, 16)], .all,
     [⟨0, 32, .rw, 0, false⟩]⟩,
   ⟨0x58, [(0x100, 16)], .all,
     [⟨0, 32, .rw, 0, false⟩]⟩,
   ⟨0x60, [(0x100, 16)], .all,
     [⟨3, 61, .rw, 0, false⟩]⟩,
   ⟨0x68, [(0x100, 16)], .all,
     [⟨0, 32, .ro, 0, false⟩, ⟨32, 32, .ro, 0, false⟩]⟩,
   ⟨0x70, [(0x100, 16), (0x8, 4)], .all,
     [⟨0, 64, .ro, 0, false⟩]⟩]

/-- Registers of LOP, part 1 (R383). -/
def regsLOP1 : List RegDef :=
  [
   ⟨0x1000, [], .all,
     [⟨0, 16, .ro, 0, false⟩, ⟨62, 1, .w1c, 0, false⟩]⟩]

/-- R456, row LOP. -/
def blockLOP : BlockDef :=
  ⟨0x50000, 0x0, 1, 0x10000, regsLOP0 ++ regsLOP1⟩

/-- Registers of PMU, part 0 (R439). -/
def regsPMU0 : List RegDef :=
  [
   ⟨0x0, [], .all,
     [⟨16, 1, .w1s, 0, false⟩]⟩,
   ⟨0x8, [], .all,
     [⟨0, 1, .w1c, 0, false⟩, ⟨1, 1, .w1c, 0, false⟩, ⟨2, 1, .ro, 0, false⟩, ⟨3, 1, .ro, 0, false⟩, ⟨4, 1, .ro, 0, false⟩, ⟨5, 1, .ro, 0, false⟩]⟩,
   ⟨0x10, [], .all,
     [⟨0, 2, .rw, 0, false⟩, ⟨8, 7, .rw, 0, false⟩, ⟨32, 4, .ro, 0, false⟩, ⟨62, 1, .w1c, 0, false⟩, ⟨63, 1, .ro, 0, false⟩]⟩,
   ⟨0x18, [], .all,
     [⟨0, 64, .rwi, 0, true⟩]⟩,
   ⟨0x20, [], .all,
     [⟨0, 16, .rwi, 0, true⟩]⟩,
   ⟨0x28, [(0x8, 3)], .all,
     [⟨0, 2, .ro, 1, false⟩, ⟨2, 2, .ro, 1, false⟩, ⟨4, 2, .ro, 1, false⟩, ⟨6, 2, .ro, 1, false⟩, ⟨8, 2, .ro, 1, false⟩, ⟨10, 2, .ro, 1, false⟩, ⟨12, 2, .ro, 1, false⟩, ⟨14, 2, .ro, 1, false⟩, ⟨16, 2, .ro, 1, false⟩, ⟨18, 2, .ro, 1, false⟩, ⟨20, 2, .ro, 1, false⟩, ⟨22, 2, .ro, 1, false⟩, ⟨24, 2, .ro, 1, false⟩, ⟨26, 2, .ro, 1, false⟩, ⟨28, 2, .ro, 1, false⟩, ⟨30, 2, .ro, 1, false⟩, ⟨32, 2, .ro, 1, false⟩, ⟨34, 2, .ro, 1, false⟩, ⟨36, 2, .ro, 1, false⟩, ⟨38, 2, .ro, 1, false⟩, ⟨40, 2, .ro, 1, false⟩, ⟨42, 2, .ro, 1, false⟩, ⟨44, 2, .ro, 1, false⟩, ⟨46, 2, .ro, 1, false⟩, ⟨48, 2, .ro, 1, false⟩, ⟨50, 2, .ro, 1, false⟩, ⟨52, 2, .ro, 1, false⟩, ⟨54, 2, .ro, 1, false⟩, ⟨56, 2, .ro, 1, false⟩, ⟨58, 2, .ro, 1, false⟩, ⟨60, 2, .ro, 1, false⟩, ⟨62, 2, .ro, 1, false⟩]⟩,
   ⟨0x48, [], .all,
     [⟨0, 8, .rw, 100, true⟩, ⟨8, 8, .ro, 0, false⟩, ⟨16, 8, .rc, 0, false⟩]⟩,
   ⟨0x80, [(0x8, 16)], .all,
     [⟨0, 12, .ro, 0, false⟩]⟩,
   ⟨0x100, [(0x8, 7)], .all,
     [⟨0, 16, .ro, 0, false⟩, ⟨16, 1, .ro, 0, false⟩]⟩,
   ⟨0x200, [(0x8, 8)], .all,
     [⟨0, 64, .ro, 0, false⟩]⟩]

/-- R456, row PMU. -/
def blockPMU : BlockDef :=
  ⟨0x60000, 0x0, 1, 0x10000, regsPMU0⟩

/-- Registers of CCX, part 0 (R426). -/
def regsCCX0 : List RegDef :=
  [
   ⟨0x0, [], .all,
     [⟨0, 1, .w1s, 0, false⟩, ⟨1, 1, .rw, 1, true⟩, ⟨16, 1, .w1s, 0, false⟩]⟩,
   ⟨0x8, [], .all,
     [⟨0, 1, .ro, 0, false⟩, ⟨1, 1, .ro, 0, false⟩, ⟨2, 1, .w1c, 0, false⟩, ⟨3, 1, .w1c, 0, false⟩, ⟨4, 1, .w1c, 0, false⟩, ⟨5, 1, .w1c, 0, false⟩]⟩,
   ⟨0x10, [], .all,
     [⟨0, 10, .rw, 10, true⟩, ⟨16, 24, .rw, 100, true⟩, ⟨40, 8, .rw, 8, true⟩]⟩,
   ⟨0x18, [], .all,
     [⟨0, 32, .ro, 0, false⟩]⟩,
   ⟨0x20, [], .all,
     [⟨0, 32, .ro, 0, false⟩]⟩,
   ⟨0x28, [], .all,
     [⟨0, 16, .ro, 0, false⟩, ⟨16, 16, .ro, 0, false⟩, ⟨32, 16, .ro, 0, false⟩, ⟨48, 16, .ro, 0, false⟩]⟩,
   ⟨0x30, [], .all,
     [⟨0, 8, .ro, 0, false⟩]⟩,
   ⟨0x38, [(0x8, 2)], .all,
     [⟨0, 32, .ro, 0, false⟩]⟩,
   ⟨0x80, [(0x8, 5)], .all,
     [⟨0, 1, .ro, 0, false⟩, ⟨1, 1, .ro, 0, false⟩]⟩,
   ⟨0x100, [(0x8, 16)], .all,
     [⟨0, 64, .ro, 0, false⟩]⟩]

/-- R456, row CCX. -/
def blockCCX : BlockDef :=
  ⟨0x70000, 0x0, 1, 0x10000, regsCCX0⟩

/-- Registers of TWN, part 0 (R427). -/
def regsTWN0 : List RegDef :=
  [
   ⟨0x0, [], .all,
     [⟨0, 1, .rwi, 0, true⟩, ⟨1, 1, .w1s, 0, false⟩, ⟨2, 1, .w1s, 0, false⟩, ⟨16, 1, .w1s, 0, false⟩]⟩,
   ⟨0x8, [], .all,
     [⟨0, 2, .ro, 0, false⟩, ⟨2, 2, .ro, 0, false⟩, ⟨4, 1, .ro, 0, false⟩, ⟨5, 1, .ro, 0, false⟩, ⟨6, 1, .ro, 0, false⟩, ⟨7, 1, .w1c, 0, false⟩, ⟨8, 1, .w1c, 0, false⟩, ⟨9, 1, .w1c, 0, false⟩, ⟨10, 1, .w1c, 0, false⟩, ⟨12, 4, .ro, 0, false⟩]⟩,
   ⟨0x10, [], .all,
     [⟨0, 1, .rwi, 0, true⟩, ⟨1, 1, .rw, 1, true⟩, ⟨8, 8, .rw, 16, true⟩, ⟨16, 16, .rw, 100, true⟩, ⟨32, 24, .rw, 200, true⟩]⟩,
   ⟨0x18, [], .all,
     [⟨0, 32, .ro, 0, false⟩, ⟨32, 32, .ro, 0, false⟩]⟩,
   ⟨0x20, [], .all,
     [⟨0, 8, .ro, 0, false⟩, ⟨8, 2, .ro, 0, false⟩, ⟨10, 2, .ro, 0, false⟩]⟩,
   ⟨0x28, [], .all,
     [⟨0, 16, .rwi, 0, true⟩]⟩,
   ⟨0x30, [], .all,
     [⟨0, 32, .ro, 0, false⟩, ⟨32, 4, .ro, 0, false⟩]⟩,
   ⟨0x100, [(0x8, 64)], .all,
     [⟨0, 16, .rwi, 0, true⟩, ⟨16, 16, .rwi, 0, true⟩, ⟨32, 16, .rwi, 0, true⟩, ⟨48, 16, .rwi, 0, true⟩]⟩,
   ⟨0x300, [(0x8, 64)], .all,
     [⟨0, 64, .rwi, 0, true⟩]⟩,
   ⟨0x500, [(0x8, 64)], .all,
     [⟨0, 4, .rwi, 0, true⟩, ⟨63, 1, .rwi, 0, true⟩]⟩,
   ⟨0x700, [(0x8, 64)], .all,
     [⟨0, 64, .rwi, 18446744073709551615, true⟩]⟩,
   ⟨0x900, [(0x8, 16)], .all,
     [⟨0, 64, .ro, 0, false⟩]⟩]

/-- R456, row TWN. -/
def blockTWN : BlockDef :=
  ⟨0x80000, 0x0, 1, 0x10000, regsTWN0⟩

/-- Registers of BPM, part 0 (R288). -/
def regsBPM0 : List RegDef :=
  [
   ⟨0x0, [], .all,
     [⟨16, 1, .w1s, 0, false⟩]⟩,
   ⟨0x8, [], .all,
     [⟨0, 1, .w1c, 0, false⟩, ⟨1, 1, .w1c, 0, false⟩, ⟨4, 4, .w1c, 0, false⟩, ⟨8, 4, .ro, 0, false⟩, ⟨12, 4, .w1c, 0, false⟩, ⟨16, 1, .ro, 0, false⟩]⟩,
   ⟨0x10, [], .all,
     [⟨0, 24, .ro, 0, false⟩, ⟨24, 2, .ro, 0, false⟩, ⟨26, 6, .ro, 0, false⟩, ⟨32, 3, .ro, 0, false⟩, ⟨40, 6, .ro, 0, false⟩, ⟨63, 1, .w1c, 0, false⟩]⟩,
   ⟨0x18, [], .all,
     [⟨0, 24, .rw, 0, false⟩, ⟨24, 2, .rw, 0, false⟩, ⟨32, 2, .rw, 0, false⟩, ⟨40, 1, .ro, 0, false⟩, ⟨41, 6, .ro, 0, false⟩, ⟨47, 1, .ro, 0, false⟩, ⟨62, 1, .w1c, 0, false⟩, ⟨63, 1, .ro, 0, false⟩]⟩,
   ⟨0x40, [(0x40, 4)], .all,
     [⟨0, 25, .rwi, 0, true⟩, ⟨32, 16, .ro, 0, false⟩]⟩,
   ⟨0x48, [(0x40, 4)], .all,
     [⟨0, 64, .rwi, 0, true⟩]⟩,
   ⟨0x50, [(0x40, 4)], .all,
     [⟨0, 64, .rwi, 0, true⟩]⟩,
   ⟨0x58, [(0x40, 4)], .all,
     [⟨0, 64, .rwi, 0, true⟩]⟩,
   ⟨0x60, [(0x40, 4)], .all,
     [⟨0, 25, .ro, 0, false⟩, ⟨32, 25, .rc, 0, false⟩]⟩,
   ⟨0x68, [(0x40, 4)], .all,
     [⟨0, 25, .ro, 0, false⟩, ⟨32, 24, .rw, 65536, true⟩]⟩,
   ⟨0x200, [(0x20, 4), (0x8, 4)], .all,
     [⟨0, 10, .ro, 0, false⟩]⟩,
   ⟨0x300, [(0x8, 32)], .all,
     [⟨0, 64, .ro, 0, false⟩]⟩]

/-- R456, row BPM. -/
def blockBPM : BlockDef :=
  ⟨0x90000, 0x0, 1, 0x10000, regsBPM0⟩

/-- Registers of DMC, part 0 (R276, R277). -/
def regsDMC0 : List RegDef :=
  [
   ⟨0x0, [], .all,
     [⟨0, 1, .rw, 1, true⟩, ⟨1, 1, .rw, 1, true⟩, ⟨16, 1, .w1s, 0, false⟩]⟩,
   ⟨0x8, [], .all,
     [⟨0, 1, .w1c, 0, false⟩, ⟨1, 1, .ro, 0, false⟩, ⟨2, 1, .ro, 0, false⟩, ⟨3, 1, .ro, 0, false⟩, ⟨4, 4, .ro, 0, false⟩, ⟨8, 1, .ro, 0, false⟩, ⟨9, 1, .ro, 0, false⟩, ⟨10, 1, .ro, 0, false⟩, ⟨11, 1, .w1c, 0, false⟩, ⟨12, 1, .w1c, 0, false⟩]⟩,
   ⟨0x10, [], .all,
     [⟨0, 2, .rwi, 0, true⟩, ⟨2, 2, .rwi, 0, true⟩, ⟨4, 1, .rwi, 0, true⟩, ⟨5, 1, .rwi, 0, true⟩, ⟨6, 1, .rwi, 0, true⟩]⟩,
   ⟨0x18, [], .all,
     [⟨0, 5, .ro, 0, false⟩, ⟨8, 3, .ro, 0, false⟩, ⟨16, 5, .ro, 0, false⟩]⟩,
   ⟨0x20, [], .all,
     [⟨0, 8, .rw, 96, true⟩, ⟨8, 8, .rw, 32, true⟩, ⟨16, 10, .rw, 100, true⟩, ⟨26, 1, .rw, 0, true⟩]⟩,
   ⟨0x28, [], .all,
     [⟨0, 32, .rw, 1024, true⟩, ⟨32, 32, .ro, 0, false⟩]⟩,
   ⟨0x30, [], .all,
     [⟨0, 1, .ro, 0, false⟩]⟩,
   ⟨0x40, [(0x18, 2)], .all,
     [⟨0, 8, .rw, 0, true⟩, ⟨8, 8, .rw, 0, true⟩, ⟨16, 8, .rw, 0, true⟩, ⟨24, 8, .rw, 0, true⟩, ⟨32, 8, .rw, 0, true⟩, ⟨40, 8, .rw, 0, true⟩]⟩,
   ⟨0x48, [(0x18, 2)], .all,
     [⟨0, 8, .rw, 0, true⟩, ⟨8, 8, .rw, 0, true⟩, ⟨16, 8, .rw, 0, true⟩, ⟨24, 8, .rw, 0, true⟩, ⟨32, 8, .rw, 0, true⟩, ⟨40, 8, .rw, 0, true⟩, ⟨48, 8, .rw, 0, true⟩, ⟨56, 8, .rw, 0, true⟩]⟩,
   ⟨0x50, [(0x18, 2)], .all,
     [⟨0, 12, .rw, 0, true⟩, ⟨16, 12, .rw, 0, true⟩, ⟨32, 16, .rw, 0, true⟩]⟩,
   ⟨0x70, [(0x8, 4)], .all,
     [⟨0, 4, .ro, 0, false⟩, ⟨4, 4, .ro, 0, false⟩, ⟨8, 8, .ro, 0, false⟩, ⟨16, 8, .ro, 0, false⟩, ⟨24, 8, .ro, 0, false⟩, ⟨32, 8, .ro, 0, false⟩, ⟨48, 4, .ro, 0, false⟩]⟩,
   ⟨0x90, [], .all,
     [⟨0, 2, .ro, 0, false⟩, ⟨2, 2, .ro, 0, false⟩, ⟨4, 2, .ro, 0, false⟩, ⟨32, 30, .ro, 0, false⟩]⟩]

/-- Registers of DMC, part 1 (R276, R277). -/
def regsDMC1 : List RegDef :=
  [
   ⟨0x98, [], .all,
     [⟨0, 41, .ro, 0, false⟩, ⟨63, 1, .w1c, 0, false⟩]⟩,
   ⟨0xa0, [], .all,
     [⟨0, 41, .ro, 0, false⟩, ⟨63, 1, .w1c, 0, false⟩]⟩,
   ⟨0x100, [(0x8, 32)], .all,
     [⟨0, 64, .ro, 0, false⟩]⟩,
   ⟨0x800, [], .zero,
     [⟨0, 2, .rwi, 0, true⟩, ⟨16, 12, .ro, 0, false⟩]⟩,
   ⟨0x808, [], .zero,
     [⟨0, 41, .ro, 0, false⟩]⟩,
   ⟨0x810, [], .zero,
     [⟨0, 2, .ro, 0, true⟩, ⟨4, 2, .rw, 0, false⟩, ⟨8, 4, .rwi, 0, true⟩, ⟨16, 1, .w1s, 0, false⟩, ⟨17, 1, .ro, 0, false⟩, ⟨18, 1, .w1c, 0, false⟩, ⟨20, 4, .ro, 0, false⟩]⟩,
   ⟨0x818, [], .zero,
     [⟨0, 32, .ro, 0, false⟩]⟩,
   ⟨0x880, [(0x8, 16)], .zero,
     [⟨0, 11, .ro, 0, false⟩, ⟨32, 24, .rw, 65536, true⟩]⟩]

/-- R456, row DMC. -/
def blockDMC : BlockDef :=
  ⟨0x100000, 0x10000, 12, 0x10000, regsDMC0 ++ regsDMC1⟩

/-- Registers of PRT, part 0 (R64). -/
def regsPRT0 : List RegDef :=
  [
   ⟨0x0, [], .all,
     [⟨0, 1, .rw, 0, true⟩, ⟨1, 1, .rw, 0, true⟩, ⟨4, 3, .rw, 0, true⟩, ⟨8, 1, .rw, 0, true⟩, ⟨9, 1, .rw, 0, true⟩, ⟨10, 2, .rw, 0, false⟩, ⟨32, 1, .w1s, 0, false⟩, ⟨33, 1, .w1s, 0, false⟩]⟩,
   ⟨0x8, [], .all,
     [⟨0, 1, .ro, 0, false⟩, ⟨1, 1, .ro, 0, false⟩, ⟨2, 1, .w1c, 0, false⟩, ⟨3, 1, .w1c, 0, false⟩, ⟨4, 1, .ro, 0, false⟩, ⟨5, 1, .w1c, 0, false⟩, ⟨6, 1, .ro, 0, false⟩, ⟨7, 1, .ro, 0, false⟩, ⟨8, 1, .ro, 0, false⟩, ⟨9, 1, .w1c, 0, false⟩, ⟨10, 1, .w1c, 0, false⟩, ⟨11, 1, .ro, 0, false⟩, ⟨12, 1, .ro, 0, false⟩, ⟨13, 1, .ro, 0, false⟩, ⟨14, 1, .ro, 0, false⟩]⟩,
   ⟨0x10, [], .all,
     [⟨0, 1, .rw, 0, true⟩, ⟨1, 1, .rw, 0, true⟩, ⟨2, 1, .rw, 0, true⟩, ⟨3, 1, .rw, 0, true⟩, ⟨8, 4, .rw, 1, true⟩, ⟨12, 4, .rw, 1, true⟩]⟩,
   ⟨0x18, [], .all,
     [⟨0, 14, .ro, 0, false⟩, ⟨16, 14, .ro, 0, false⟩, ⟨32, 24, .rw, 65536, true⟩]⟩,
   ⟨0x400, [(0x400, 2)], .all,
     [⟨0, 14, .rw, 9216, true⟩]⟩,
   ⟨0x408, [(0x400, 2)], .all,
     [⟨0, 2, .rw, 0, true⟩, ⟨2, 1, .rw, 1, true⟩, ⟨8, 3, .rw, 0, true⟩, ⟨16, 24, .rw, 16434824, true⟩, ⟨40, 8, .rw, 255, true⟩]⟩,
   ⟨0x410, [(0x400, 2)], .all,
     [⟨0, 14, .rw, 2480, true⟩, ⟨16, 14, .rw, 2048, true⟩]⟩,
   ⟨0x418, [(0x400, 2)], .all,
     [⟨0, 16, .rw, 65535, true⟩, ⟨32, 16, .rw, 32768, true⟩]⟩,
   ⟨0x420, [(0x400, 2), (0x8, 8)], .all,
     [⟨0, 14, .rw, 1024, true⟩, ⟨16, 14, .rw, 512, true⟩]⟩,
   ⟨0x460, [(0x400, 2)], .all,
     [⟨0, 48, .rw, 0, true⟩]⟩,
   ⟨0x468, [(0x400, 2)], .all,
     [⟨0, 24, .rw, 0, true⟩, ⟨32, 24, .rw, 0, true⟩]⟩,
   ⟨0x470, [(0x400, 2)], .all,
     [⟨0, 32, .ro, 0, false⟩, ⟨32, 32, .ro, 0, false⟩]⟩]

/-- Registers of PRT, part 1 (R64). -/
def regsPRT1 : List RegDef :=
  [
   ⟨0x478, [(0x400, 2)], .all,
     [⟨0, 48, .ro, 0, false⟩, ⟨63, 1, .ro, 0, false⟩]⟩,
   ⟨0x480, [(0x400, 2)], .all,
     [⟨0, 16, .ro, 0, false⟩, ⟨32, 7, .ro, 0, false⟩]⟩,
   ⟨0x488, [(0x400, 2)], .all,
     [⟨0, 1, .w1s, 0, false⟩, ⟨1, 1, .w1s, 0, false⟩, ⟨8, 1, .w1c, 0, false⟩]⟩,
   ⟨0x600, [(0x400, 2), (0x8, 64)], .all,
     [⟨0, 64, .ro, 0, false⟩]⟩]

/-- R456, row PRT. -/
def blockPRT : BlockDef :=
  ⟨0x1000000, 0x1000, 256, 0x1000, regsPRT0 ++ regsPRT1⟩

/-- Registers of SLC, part 0 (R90, R315). -/
def regsSLC0 : List RegDef :=
  [
   ⟨0x0, [], .all,
     [⟨0, 1, .rw, 1, true⟩, ⟨8, 6, .rw, 0, true⟩, ⟨16, 1, .w1s, 0, false⟩, ⟨17, 1, .w1s, 0, false⟩]⟩,
   ⟨0x8, [], .all,
     [⟨0, 1, .w1c, 0, false⟩, ⟨1, 1, .w1c, 0, false⟩]⟩,
   ⟨0x10, [], .all,
     [⟨0, 1, .rwi, 1, true⟩, ⟨8, 5, .rwi, 22, true⟩]⟩,
   ⟨0x18, [], .all,
     [⟨0, 64, .rwi, 0, true⟩]⟩,
   ⟨0x20, [], .all,
     [⟨0, 64, .rwi, 0, true⟩]⟩,
   ⟨0x28, [], .all,
     [⟨0, 8, .ro, 0, false⟩]⟩,
   ⟨0x30, [(0x8, 4)], .all,
     [⟨0, 8, .ro, 0, false⟩, ⟨8, 1, .ro, 0, false⟩, ⟨32, 32, .ro, 0, false⟩]⟩,
   ⟨0x50, [], .all,
     [⟨0, 24, .rw, 65536, true⟩]⟩,
   ⟨0x80, [(0x8, 16)], .all,
     [⟨0, 8, .ro, 0, false⟩, ⟨8, 1, .ro, 0, false⟩]⟩,
   ⟨0x100, [(0x8, 64)], .all,
     [⟨0, 1, .rw, 0, true⟩, ⟨1, 2, .ro, 1, false⟩, ⟨3, 1, .ro, 0, false⟩, ⟨8, 6, .ro, 0, false⟩]⟩,
   ⟨0x300, [(0x8, 8)], .all,
     [⟨0, 48, .rw, 0, true⟩, ⟨63, 1, .rw, 0, true⟩]⟩,
   ⟨0x340, [(0x8, 16)], .all,
     [⟨0, 64, .ro, 0, false⟩]⟩]

/-- Registers of SLC, part 1 (R90, R315). -/
def regsSLC1 : List RegDef :=
  [
   ⟨0x1000, [(0x40, 32)], .all,
     [⟨0, 1, .rw, 0, true⟩, ⟨1, 1, .rw, 0, true⟩, ⟨2, 2, .rw, 0, true⟩, ⟨4, 1, .rw, 1, true⟩, ⟨16, 12, .rw, 1, true⟩, ⟨32, 16, .rw, 0, true⟩]⟩,
   ⟨0x1008, [(0x40, 32)], .all,
     [⟨0, 6, .rw, 0, true⟩, ⟨6, 6, .rw, 0, true⟩, ⟨12, 6, .rw, 0, true⟩, ⟨18, 6, .rw, 0, true⟩, ⟨24, 6, .rw, 0, true⟩, ⟨30, 6, .rw, 0, true⟩, ⟨36, 6, .rw, 0, true⟩, ⟨42, 6, .rw, 0, true⟩]⟩,
   ⟨0x2000, [(0x40, 256)], .all,
     [⟨0, 32, .rw, 0, true⟩, ⟨32, 32, .rw, 0, true⟩]⟩,
   ⟨0x2008, [(0x40, 256)], .all,
     [⟨0, 24, .rw, 0, true⟩, ⟨32, 24, .rw, 0, true⟩]⟩,
   ⟨0x2010, [(0x40, 256)], .all,
     [⟨0, 1, .rw, 0, true⟩, ⟨1, 1, .rw, 0, true⟩, ⟨8, 8, .rw, 0, true⟩]⟩,
   ⟨0x2018, [(0x40, 256)], .all,
     [⟨0, 64, .ro, 0, false⟩]⟩,
   ⟨0x2020, [(0x40, 256)], .all,
     [⟨0, 64, .ro, 0, false⟩]⟩,
   ⟨0x2028, [(0x40, 256)], .all,
     [⟨0, 64, .ro, 0, false⟩]⟩,
   ⟨0x8000, [(0x8, 4096)], .all,
     [⟨0, 16, .rw, 0, true⟩, ⟨16, 1, .rw, 1, true⟩]⟩,
   ⟨0x10000, [], .quad,
     [⟨0, 1, .rw, 0, true⟩, ⟨1, 1, .rw, 1, true⟩]⟩,
   ⟨0x10008, [], .quad,
     [⟨0, 31, .rw, 292968750, true⟩, ⟨32, 32, .rw, 100000, true⟩]⟩,
   ⟨0x10010, [], .quad,
     [⟨0, 8, .rw, 16, true⟩, ⟨8, 11, .rw, 10, true⟩]⟩]

/-- Registers of SLC, part 2 (R90, R315). -/
def regsSLC2 : List RegDef :=
  [
   ⟨0x10018, [], .quad,
     [⟨0, 3, .rw, 0, false⟩, ⟨3, 19, .rw, 0, false⟩, ⟨24, 2, .rw, 0, false⟩, ⟨32, 9, .rw, 0, false⟩, ⟨48, 12, .rw, 0, false⟩, ⟨62, 1, .w1c, 0, false⟩, ⟨63, 1, .ro, 0, false⟩]⟩,
   ⟨0x10020, [], .quad,
     [⟨0, 64, .rw, 0, false⟩]⟩,
   ⟨0x10028, [], .quad,
     [⟨0, 64, .rw, 0, false⟩]⟩,
   ⟨0x10030, [], .quad,
     [⟨0, 32, .ro, 0, false⟩]⟩,
   ⟨0x10040, [(0x8, 16)], .quad,
     [⟨0, 64, .ro, 0, false⟩]⟩,
   ⟨0x60, [(0x8, 4)], .all,
     [⟨0, 9, .ro, 0, false⟩, ⟨32, 24, .rw, 65536, true⟩]⟩]

/-- R456, row SLC. -/
def blockSLC : BlockDef :=
  ⟨0x2000000, 0x100000, 16, 0x100000, regsSLC0 ++ regsSLC1 ++ regsSLC2⟩

/-- Registers of TMB, part 0 (R112). -/
def regsTMB0 : List RegDef :=
  [
   ⟨0x0, [], .all,
     [⟨0, 1, .rw, 1, true⟩, ⟨16, 1, .w1s, 0, false⟩]⟩,
   ⟨0x8, [], .all,
     [⟨0, 1, .w1c, 0, false⟩, ⟨1, 1, .ro, 0, false⟩, ⟨2, 1, .ro, 0, false⟩, ⟨3, 1, .w1c, 0, false⟩]⟩,
   ⟨0x10, [], .zero,
     [⟨0, 2, .rw, 0, false⟩, ⟨8, 1, .ro, 0, false⟩, ⟨9, 1, .ro, 0, false⟩, ⟨32, 4, .ro, 0, false⟩, ⟨62, 1, .w1c, 0, false⟩, ⟨63, 1, .ro, 0, false⟩]⟩,
   ⟨0x18, [], .all,
     [⟨0, 8, .ro, 0, false⟩, ⟨8, 2, .ro, 0, false⟩, ⟨16, 8, .ro, 0, false⟩, ⟨24, 2, .ro, 0, false⟩, ⟨26, 1, .ro, 0, false⟩]⟩,
   ⟨0x20, [(0x8, 4)], .all,
     [⟨0, 8, .ro, 0, false⟩, ⟨8, 2, .ro, 0, false⟩, ⟨32, 32, .ro, 0, false⟩]⟩,
   ⟨0x40, [], .all,
     [⟨0, 18, .ro, 0, false⟩, ⟨32, 18, .ro, 0, false⟩]⟩,
   ⟨0x100, [(0x8, 16)], .all,
     [⟨0, 1, .rwi, 0, true⟩, ⟨1, 2, .rwi, 0, true⟩, ⟨3, 3, .rwi, 0, true⟩, ⟨6, 1, .rwi, 0, true⟩, ⟨8, 6, .rwi, 0, true⟩, ⟨16, 6, .rwi, 0, true⟩, ⟨32, 19, .ro, 0, false⟩]⟩,
   ⟨0x180, [(0x8, 16)], .all,
     [⟨0, 64, .ro, 0, false⟩]⟩,
   ⟨0x200, [], .all,
     [⟨0, 64, .rw, 0, true⟩]⟩,
   ⟨0x208, [], .all,
     [⟨0, 64, .rw, 0, true⟩]⟩,
   ⟨0x300, [], .all,
     [⟨0, 3, .rw, 0, false⟩, ⟨4, 4, .rw, 0, false⟩, ⟨8, 18, .rw, 0, false⟩, ⟨32, 4, .ro, 0, false⟩, ⟨62, 1, .w1c, 0, false⟩, ⟨63, 1, .ro, 0, false⟩]⟩,
   ⟨0x308, [], .all,
     [⟨0, 16, .rw, 0, false⟩, ⟨16, 4, .ro, 0, false⟩, ⟨20, 1, .ro, 0, false⟩, ⟨21, 1, .ro, 0, false⟩]⟩]

/-- Registers of TMB, part 1 (R112). -/
def regsTMB1 : List RegDef :=
  [
   ⟨0x310, [(0x8, 5)], .all,
     [⟨0, 64, .rw, 0, false⟩]⟩,
   ⟨0x340, [(0x8, 5)], .all,
     [⟨0, 64, .rw, 0, false⟩]⟩,
   ⟨0x370, [], .all,
     [⟨0, 64, .rw, 0, false⟩]⟩,
   ⟨0x380, [(0x8, 16)], .all,
     [⟨0, 64, .ro, 0, false⟩]⟩]

/-- R456, row TMB. -/
def blockTMB : BlockDef :=
  ⟨0x3000000, 0x400000, 4, 0x400000, regsTMB0 ++ regsTMB1⟩

/-- Registers of HNK, part 0 (R147, R173, R211, R213). -/
def regsHNK0 : List RegDef :=
  [
   ⟨0x0, [], .all,
     [⟨0, 1, .rw, 1, true⟩, ⟨1, 1, .rw, 0, true⟩, ⟨8, 1, .w1s, 0, false⟩, ⟨16, 1, .w1s, 0, false⟩]⟩,
   ⟨0x8, [], .all,
     [⟨0, 1, .w1c, 0, false⟩, ⟨1, 1, .ro, 0, false⟩, ⟨2, 1, .w1c, 0, false⟩, ⟨3, 1, .w1c, 0, false⟩, ⟨4, 1, .ro, 0, false⟩, ⟨5, 1, .ro, 0, false⟩, ⟨6, 1, .w1c, 0, false⟩, ⟨7, 1, .w1c, 0, false⟩]⟩,
   ⟨0x10, [], .all,
     [⟨8, 5, .rwi, 22, true⟩, ⟨16, 4, .rwi, 3, true⟩, ⟨24, 8, .rwi, 16, true⟩, ⟨32, 3, .rwi, 4, true⟩]⟩,
   ⟨0x18, [], .all,
     [⟨0, 64, .rwi, 0, true⟩]⟩,
   ⟨0x20, [], .all,
     [⟨0, 64, .rwi, 0, true⟩]⟩,
   ⟨0x28, [], .all,
     [⟨0, 22, .ro, 0, false⟩, ⟨32, 22, .ro, 0, false⟩]⟩,
   ⟨0x30, [], .all,
     [⟨0, 27, .ro, 0, false⟩, ⟨32, 17, .ro, 0, false⟩]⟩,
   ⟨0x38, [], .all,
     [⟨0, 14, .ro, 0, false⟩, ⟨16, 14, .rc, 0, false⟩, ⟨32, 11, .ro, 0, false⟩]⟩,
   ⟨0x40, [], .all,
     [⟨0, 32, .rw, 10000, true⟩]⟩,
   ⟨0x48, [], .all,
     [⟨0, 32, .ro, 0, false⟩, ⟨32, 16, .ro, 0, false⟩]⟩,
   ⟨0x50, [], .all,
     [⟨0, 32, .ro, 0, false⟩, ⟨32, 32, .ro, 0, false⟩]⟩,
   ⟨0x58, [], .all,
     [⟨0, 8, .ro, 0, false⟩, ⟨8, 8, .ro, 0, false⟩]⟩]

/-- Registers of HNK, part 1 (R147, R173, R211, R213). -/
def regsHNK1 : List RegDef :=
  [
   ⟨0x80, [(0x8, 16)], .all,
     [⟨0, 31, .rw, 292968750, true⟩]⟩,
   ⟨0x100, [(0x8, 64)], .all,
     [⟨0, 1, .rwi, 0, true⟩, ⟨1, 1, .rwi, 1, true⟩, ⟨2, 1, .rwi, 0, true⟩, ⟨4, 4, .rwi, 0, true⟩]⟩,
   ⟨0x300, [], .all,
     [⟨0, 3, .rw, 0, false⟩, ⟨4, 6, .rw, 0, false⟩, ⟨16, 26, .rw, 0, false⟩, ⟨42, 1, .rw, 0, false⟩, ⟨48, 4, .ro, 0, false⟩, ⟨56, 1, .ro, 0, false⟩, ⟨57, 1, .ro, 0, false⟩, ⟨62, 1, .w1c, 0, false⟩, ⟨63, 1, .ro, 0, false⟩]⟩,
   ⟨0x308, [(0x8, 5)], .all,
     [⟨0, 64, .rw, 0, false⟩]⟩,
   ⟨0x340, [(0x8, 16)], .all,
     [⟨0, 64, .rw, 0, false⟩]⟩,
   ⟨0x400, [(0x8, 32)], .all,
     [⟨0, 64, .ro, 0, false⟩]⟩,
   ⟨0x1000, [], .all,
     [⟨16, 1, .w1s, 0, false⟩]⟩,
   ⟨0x1008, [], .all,
     [⟨0, 1, .w1c, 0, false⟩, ⟨1, 1, .w1c, 0, false⟩, ⟨2, 1, .w1c, 0, false⟩, ⟨3, 1, .w1c, 0, false⟩, ⟨4, 1, .w1c, 0, false⟩, ⟨5, 1, .w1c, 0, false⟩, ⟨6, 1, .w1c, 0, false⟩, ⟨7, 1, .ro, 0, false⟩]⟩,
   ⟨0x1010, [], .all,
     [⟨0, 13, .ro, 0, false⟩, ⟨32, 11, .ro, 0, false⟩]⟩,
   ⟨0x1018, [], .all,
     [⟨0, 15, .ro, 0, false⟩, ⟨32, 15, .ro, 0, false⟩]⟩,
   ⟨0x1020, [], .all,
     [⟨0, 15, .rc, 0, false⟩, ⟨32, 13, .rc, 0, false⟩]⟩,
   ⟨0x1028, [], .all,
     [⟨0, 13, .ro, 0, false⟩, ⟨32, 24, .rw, 65536, true⟩]⟩]

/-- Registers of HNK, part 2 (R147, R173, R211, R213). -/
def regsHNK2 : List RegDef :=
  [
   ⟨0x1030, [(0x8, 4)], .all,
     [⟨0, 12, .ro, 0, false⟩, ⟨32, 24, .rw, 65536, true⟩]⟩,
   ⟨0x1050, [], .all,
     [⟨0, 16, .rwi, 1600, true⟩]⟩,
   ⟨0x1058, [], .all,
     [⟨0, 2, .rw, 0, false⟩, ⟨16, 16, .rw, 0, false⟩, ⟨62, 1, .w1c, 0, false⟩, ⟨63, 1, .ro, 0, false⟩]⟩,
   ⟨0x1060, [], .all,
     [⟨0, 16, .ro, 0, false⟩, ⟨16, 16, .ro, 0, false⟩, ⟨32, 9, .ro, 0, false⟩, ⟨41, 3, .ro, 0, false⟩, ⟨44, 1, .ro, 0, false⟩]⟩,
   ⟨0x1068, [(0x8, 4)], .all,
     [⟨0, 8, .ro, 0, false⟩, ⟨8, 1, .ro, 0, false⟩, ⟨32, 32, .ro, 0, false⟩]⟩,
   ⟨0x1100, [(0x8, 64)], .all,
     [⟨0, 14, .rwi, 0, true⟩, ⟨16, 14, .rwi, 0, true⟩, ⟨32, 16, .rwi, 1600, true⟩, ⟨48, 2, .rwi, 1, true⟩, ⟨50, 2, .rwi, 1, true⟩, ⟨52, 1, .rwi, 0, true⟩, ⟨56, 6, .rwi, 0, true⟩]⟩,
   ⟨0x1400, [(0x8, 32)], .all,
     [⟨0, 64, .ro, 0, false⟩]⟩,
   ⟨0x2000, [], .all,
     [⟨16, 1, .w1s, 0, false⟩, ⟨17, 1, .w1s, 0, false⟩]⟩,
   ⟨0x2008, [], .all,
     [⟨0, 1, .w1c, 0, false⟩, ⟨1, 1, .w1c, 0, false⟩, ⟨2, 1, .w1c, 0, false⟩, ⟨3, 1, .ro, 0, false⟩]⟩,
   ⟨0x2010, [], .all,
     [⟨0, 32, .ro, 0, true⟩, ⟨32, 16, .ro, 0, true⟩]⟩,
   ⟨0x2018, [], .all,
     [⟨0, 64, .ro, 0, false⟩]⟩,
   ⟨0x2020, [], .all,
     [⟨0, 5, .ro, 0, false⟩, ⟨8, 14, .ro, 0, false⟩, ⟨24, 5, .ro, 0, false⟩, ⟨32, 4, .ro, 0, false⟩, ⟨40, 6, .ro, 0, false⟩, ⟨63, 1, .w1c, 0, false⟩]⟩]

/-- Registers of HNK, part 3 (R147, R173, R211, R213). -/
def regsHNK3 : List RegDef :=
  [
   ⟨0x2028, [], .all,
     [⟨0, 10, .ro, 0, false⟩, ⟨32, 24, .rw, 65536, true⟩]⟩,
   ⟨0x2030, [], .all,
     [⟨0, 14, .ro, 0, false⟩, ⟨32, 24, .rw, 65536, true⟩]⟩,
   ⟨0x2040, [], .all,
     [⟨0, 1, .rw, 0, false⟩, ⟨1, 1, .rw, 0, false⟩, ⟨2, 1, .rw, 0, false⟩, ⟨16, 14, .rw, 0, false⟩, ⟨32, 5, .rw, 0, false⟩, ⟨37, 1, .rw, 0, false⟩]⟩,
   ⟨0x2048, [], .all,
     [⟨0, 3, .rw, 0, false⟩, ⟨8, 5, .rw, 0, false⟩, ⟨16, 4, .rw, 0, false⟩, ⟨24, 4, .rw, 0, false⟩, ⟨62, 1, .w1c, 0, false⟩, ⟨63, 1, .ro, 0, false⟩]⟩,
   ⟨0x2050, [], .all,
     [⟨0, 64, .rw, 0, false⟩]⟩,
   ⟨0x2058, [], .all,
     [⟨0, 14, .ro, 0, false⟩, ⟨16, 3, .ro, 0, false⟩, ⟨19, 1, .ro, 0, false⟩, ⟨20, 3, .ro, 0, false⟩, ⟨24, 3, .ro, 0, false⟩, ⟨28, 3, .ro, 0, false⟩, ⟨31, 1, .ro, 0, false⟩, ⟨32, 1, .ro, 0, false⟩, ⟨33, 4, .ro, 0, false⟩, ⟨37, 4, .ro, 0, false⟩, ⟨41, 1, .ro, 0, false⟩, ⟨42, 1, .ro, 0, false⟩, ⟨44, 2, .ro, 0, false⟩, ⟨46, 2, .ro, 0, false⟩, ⟨48, 10, .ro, 0, false⟩]⟩,
   ⟨0x2060, [(0x8, 16)], .all,
     [⟨0, 64, .ro, 0, false⟩]⟩,
   ⟨0x2100, [(0x8, 16)], .all,
     [⟨0, 64, .rwi, 0, true⟩]⟩,
   ⟨0x2180, [(0x8, 16)], .all,
     [⟨0, 32, .rwi, 0, true⟩, ⟨32, 1, .rwi, 0, true⟩]⟩,
   ⟨0x2200, [(0x8, 32)], .all,
     [⟨0, 16, .ro, 65535, false⟩, ⟨16, 16, .ro, 0, false⟩, ⟨32, 16, .ro, 0, false⟩, ⟨48, 13, .ro, 0, false⟩]⟩,
   ⟨0x2400, [(0x8, 16)], .all,
     [⟨0, 64, .ro, 0, false⟩]⟩,
   ⟨0x2800, [(0x8, 256)], .all,
     [⟨0, 64, .ro, 0, false⟩]⟩]

/-- Registers of HNK, part 4 (R147, R173, R211, R213). -/
def regsHNK4 : List RegDef :=
  [
   ⟨0x4000, [], .all,
     [⟨16, 1, .w1s, 0, false⟩]⟩,
   ⟨0x4008, [], .all,
     [⟨0, 1, .w1c, 0, false⟩, ⟨1, 1, .w1c, 0, false⟩]⟩,
   ⟨0x4010, [], .all,
     [⟨0, 2, .rw, 0, false⟩, ⟨16, 12, .rw, 0, false⟩, ⟨62, 1, .w1c, 0, false⟩, ⟨63, 1, .ro, 0, false⟩]⟩,
   ⟨0x4018, [], .all,
     [⟨0, 1, .ro, 0, false⟩, ⟨8, 5, .ro, 0, false⟩, ⟨16, 4, .ro, 0, false⟩, ⟨32, 10, .ro, 0, false⟩]⟩,
   ⟨0x4020, [], .all,
     [⟨0, 12, .ro, 0, false⟩]⟩,
   ⟨0x4028, [], .all,
     [⟨0, 10, .rw, 0, false⟩, ⟨16, 32, .rw, 0, false⟩, ⟨63, 1, .w1s, 0, false⟩]⟩,
   ⟨0x4100, [(0x8, 16)], .all,
     [⟨0, 64, .ro, 0, false⟩]⟩,
   ⟨0x6000, [(0x8, 1024)], .all,
     [⟨0, 64, .ro, 0, false⟩]⟩,
   ⟨0x8000, [(0x8, 4096)], .all,
     [⟨0, 64, .ro, 0, false⟩]⟩]

/-- R456, row HNK. -/
def blockHNK : BlockDef :=
  ⟨0x4000000, 0x100000, 16, 0x100000, regsHNK0 ++ regsHNK1 ++ regsHNK2 ++ regsHNK3 ++ regsHNK4⟩

/-- Registers of TMG, part 0 (R314, R331). -/
def regsTMG0 : List RegDef :=
  [
   ⟨0x0, [], .all,
     [⟨16, 1, .w1s, 0, false⟩]⟩,
   ⟨0x8, [], .all,
     [⟨0, 1, .w1c, 0, false⟩, ⟨1, 1, .ro, 0, false⟩, ⟨2, 1, .w1c, 0, false⟩, ⟨3, 1, .w1c, 0, false⟩]⟩,
   ⟨0x10, [], .all,
     [⟨0, 21, .ro, 0, false⟩, ⟨32, 21, .rc, 0, false⟩]⟩,
   ⟨0x18, [], .all,
     [⟨0, 4, .rw, 9, true⟩]⟩,
   ⟨0x20, [], .all,
     [⟨0, 2, .rw, 0, false⟩, ⟨16, 10, .rw, 0, false⟩, ⟨62, 1, .w1c, 0, false⟩, ⟨63, 1, .ro, 0, false⟩]⟩,
   ⟨0x80, [(0x8, 16)], .all,
     [⟨0, 64, .ro, 0, false⟩]⟩,
   ⟨0x100, [(0x8, 32)], .all,
     [⟨0, 9, .ro, 0, false⟩]⟩,
   ⟨0x200, [(0x10, 16)], .all,
     [⟨0, 23, .rw, 8388607, true⟩, ⟨32, 23, .rw, 8388607, true⟩]⟩,
   ⟨0x208, [(0x10, 16)], .all,
     [⟨0, 8, .rw, 0, true⟩, ⟨8, 1, .rw, 0, true⟩]⟩,
   ⟨0x1000, [(0x20, 128), (0x8, 4)], .all,
     [⟨0, 64, .ro, 0, false⟩]⟩,
   ⟨0x20000, [(0x80, 656)], .all,
     [⟨0, 23, .rw, 4194303, true⟩, ⟨32, 23, .rw, 0, true⟩]⟩,
   ⟨0x20008, [(0x80, 656)], .all,
     [⟨0, 4, .rw, 6, true⟩, ⟨8, 4, .rw, 0, true⟩, ⟨12, 4, .rw, 0, true⟩, ⟨16, 4, .rw, 0, true⟩, ⟨20, 1, .rw, 0, true⟩]⟩]

/-- Registers of TMG, part 1 (R314, R331). -/
def regsTMG1 : List RegDef :=
  [
   ⟨0x20010, [(0x80, 656)], .all,
     [⟨0, 23, .ro, 0, false⟩, ⟨32, 21, .ro, 0, false⟩]⟩,
   ⟨0x20018, [(0x80, 656)], .all,
     [⟨0, 31, .ro, 0, false⟩]⟩,
   ⟨0x20020, [(0x80, 656), (0x8, 12)], .all,
     [⟨0, 64, .ro, 0, false⟩]⟩,
   ⟨0x40000, [], .all,
     [⟨16, 1, .w1s, 0, false⟩]⟩,
   ⟨0x40008, [], .all,
     [⟨0, 1, .w1c, 0, false⟩, ⟨1, 1, .w1c, 0, false⟩]⟩,
   ⟨0x40010, [], .all,
     [⟨0, 3, .rw, 0, false⟩, ⟨8, 7, .rw, 0, false⟩, ⟨16, 8, .rw, 0, false⟩, ⟨24, 1, .rw, 0, false⟩, ⟨32, 4, .ro, 0, false⟩, ⟨62, 1, .w1c, 0, false⟩, ⟨63, 1, .ro, 0, false⟩]⟩,
   ⟨0x40018, [], .all,
     [⟨0, 8, .rw, 0, false⟩, ⟨32, 32, .rw, 0, false⟩]⟩,
   ⟨0x40020, [], .all,
     [⟨0, 9, .rw, 0, false⟩]⟩,
   ⟨0x40028, [], .all,
     [⟨0, 48, .rw, 0, false⟩]⟩,
   ⟨0x40030, [], .all,
     [⟨0, 32, .rw, 0, false⟩]⟩,
   ⟨0x40038, [], .all,
     [⟨0, 20, .rw, 0, true⟩]⟩,
   ⟨0x40040, [], .all,
     [⟨0, 1, .ro, 0, false⟩, ⟨32, 32, .ro, 0, false⟩]⟩]

/-- Registers of TMG, part 2 (R314, R331). -/
def regsTMG2 : List RegDef :=
  [
   ⟨0x40048, [(0x8, 2)], .all,
     [⟨0, 64, .ro, 0, false⟩]⟩,
   ⟨0x40080, [], .all,
     [⟨0, 2, .rw, 0, false⟩, ⟨8, 18, .rw, 0, false⟩, ⟨62, 1, .w1c, 0, false⟩, ⟨63, 1, .ro, 0, false⟩]⟩,
   ⟨0x40088, [(0x8, 4)], .all,
     [⟨0, 64, .rw, 0, false⟩]⟩,
   ⟨0x40100, [(0x8, 16)], .all,
     [⟨0, 64, .ro, 0, false⟩]⟩,
   ⟨0x41000, [(0x40, 128)], .all,
     [⟨0, 32, .rw, 0, true⟩, ⟨32, 1, .rw, 0, true⟩]⟩,
   ⟨0x41008, [(0x40, 128)], .all,
     [⟨0, 24, .rw, 16384, true⟩, ⟨32, 8, .rw, 20, true⟩]⟩,
   ⟨0x41010, [(0x40, 128)], .all,
     [⟨0, 32, .ro, 0, false⟩]⟩,
   ⟨0x41018, [(0x40, 128)], .all,
     [⟨0, 16, .rw, 0, true⟩]⟩,
   ⟨0x41020, [(0x40, 128)], .all,
     [⟨0, 1, .ro, 0, false⟩, ⟨1, 1, .ro, 0, false⟩, ⟨2, 1, .ro, 0, false⟩, ⟨8, 9, .ro, 0, false⟩, ⟨24, 8, .ro, 0, false⟩, ⟨32, 8, .ro, 255, false⟩]⟩,
   ⟨0x41028, [(0x40, 128)], .all,
     [⟨0, 40, .ro, 0, false⟩, ⟨40, 24, .rw, 65536, true⟩]⟩,
   ⟨0x60000, [(0x40, 656)], .all,
     [⟨0, 32, .rw, 0, true⟩, ⟨32, 1, .rw, 0, true⟩]⟩,
   ⟨0x60008, [(0x40, 656)], .all,
     [⟨0, 24, .rw, 16384, true⟩]⟩]

/-- Registers of TMG, part 3 (R314, R331). -/
def regsTMG3 : List RegDef :=
  [
   ⟨0x60010, [(0x40, 656)], .all,
     [⟨0, 32, .ro, 0, false⟩]⟩,
   ⟨0x60018, [(0x40, 656)], .all,
     [⟨0, 23, .rc, 0, false⟩, ⟨32, 32, .rc, 0, false⟩]⟩,
   ⟨0x60020, [(0x40, 656)], .all,
     [⟨0, 64, .ro, 0, false⟩]⟩,
   ⟨0x60028, [(0x40, 656)], .all,
     [⟨0, 32, .ro, 0, false⟩]⟩,
   ⟨0x80000, [(0x2000, 2), (0x8, 656)], .all,
     [⟨0, 23, .ro, 0, false⟩, ⟨24, 32, .ro, 0, false⟩]⟩]

/-- R456, row TMG. -/
def blockTMG : BlockDef :=
  ⟨0x5000000, 0x400000, 4, 0x400000, regsTMG0 ++ regsTMG1 ++ regsTMG2 ++ regsTMG3⟩

/-- Registers of BUF, part 0 (R313). -/
def regsBUF0 : List RegDef :=
  [
   ⟨0x0, [], .all,
     [⟨16, 1, .w1s, 0, false⟩]⟩,
   ⟨0x8, [], .all,
     [⟨0, 1, .w1c, 0, false⟩, ⟨1, 1, .w1c, 0, false⟩, ⟨2, 1, .w1c, 0, false⟩, ⟨3, 1, .w1c, 0, false⟩]⟩,
   ⟨0x10, [], .all,
     [⟨0, 21, .rwi, 18432, true⟩, ⟨32, 23, .rw, 65536, true⟩]⟩,
   ⟨0x18, [], .all,
     [⟨0, 23, .ro, 0, false⟩, ⟨32, 23, .ro, 0, false⟩]⟩,
   ⟨0x20, [], .all,
     [⟨0, 23, .ro, 0, false⟩, ⟨32, 23, .ro, 0, false⟩]⟩,
   ⟨0x28, [], .all,
     [⟨0, 23, .rc, 0, false⟩]⟩,
   ⟨0x30, [], .all,
     [⟨0, 1, .rw, 0, true⟩, ⟨1, 1, .rw, 0, true⟩, ⟨2, 2, .rw, 2, true⟩, ⟨8, 6, .rw, 0, true⟩, ⟨16, 9, .rw, 0, true⟩, ⟨25, 3, .rw, 0, true⟩]⟩,
   ⟨0x38, [], .all,
     [⟨0, 2, .rw, 0, false⟩, ⟨16, 16, .rw, 0, false⟩, ⟨32, 2, .rw, 0, false⟩, ⟨40, 4, .ro, 0, false⟩, ⟨62, 1, .w1c, 0, false⟩, ⟨63, 1, .ro, 0, false⟩]⟩,
   ⟨0x40, [], .all,
     [⟨0, 64, .rw, 0, false⟩]⟩,
   ⟨0x48, [], .all,
     [⟨0, 64, .rw, 0, false⟩]⟩,
   ⟨0x80, [(0x8, 16)], .all,
     [⟨0, 64, .ro, 0, false⟩]⟩,
   ⟨0x1000, [(0x20, 64)], .all,
     [⟨0, 1, .rw, 0, true⟩, ⟨1, 1, .rw, 0, true⟩, ⟨2, 1, .rw, 0, true⟩, ⟨8, 6, .rw, 0, true⟩, ⟨32, 24, .rw, 0, true⟩]⟩]

/-- Registers of BUF, part 1 (R313). -/
def regsBUF1 : List RegDef :=
  [
   ⟨0x1008, [(0x20, 64)], .all,
     [⟨0, 64, .ro, 0, false⟩]⟩,
   ⟨0x1010, [(0x20, 64)], .all,
     [⟨0, 64, .ro, 0, false⟩]⟩,
   ⟨0x2000, [(0x8, 512)], .all,
     [⟨0, 1, .rw, 0, true⟩, ⟨1, 6, .rw, 0, true⟩]⟩,
   ⟨0x3000, [(0x8, 512)], .all,
     [⟨0, 64, .ro, 0, false⟩]⟩]

/-- R456, row BUF. -/
def blockBUF : BlockDef :=
  ⟨0x6000000, 0x0, 1, 0x1000000, regsBUF0 ++ regsBUF1⟩

/-- Registers of MCS, part 0 (R212). -/
def regsMCS0 : List RegDef :=
  [
   ⟨0x0, [(0x20, 16384), (0x8, 3)], .all,
     [⟨0, 64, .ro, 0, true⟩]⟩,
   ⟨0x80000, [], .all,
     [⟨0, 4, .rw, 0, false⟩]⟩]

/-- R456, row MCS. -/
def blockMCS : BlockDef :=
  ⟨0x8000000, 0x0, 1, 0x80008, regsMCS0⟩

/-- The blocks of R456. -/
def blocks : List BlockDef :=
  [blockGLB, blockCST, blockFLT, blockTOD, blockHIF, blockLOP, blockPMU, blockCCX, blockTWN, blockBPM, blockDMC, blockPRT, blockSLC, blockTMB, blockHNK, blockTMG, blockBUF, blockMCS]

end Sys2Proof.Machine
end

