-- ==== Sys2Proof/Machine/RegFile.lean ====
section
/-! DEFINITION. Finding the register at a BAR0 address (R456, R457), factory defaults (R6), and what a host write
leaves in a register by its fields' access types (R7). -/

namespace Sys2Proof.Machine

/-- `x` is the offset of an element of an array with these strides and counts. -/
def matchDims : List (Nat × Nat) → Nat → Bool
  | [], x => x == 0
  | (st, n) :: r, x => decide (x / st < n) && matchDims r (x % st)

/-- The register exists in copy `i` of its block and lies at offset `off` (R457). -/
def RegDef.isAt (r : RegDef) (i off : Nat) : Bool :=
  (match r.at_ with
   | .all => true
   | .zero => i == 0
   | .quad => i % 4 == 0)
  && decide (r.off ≤ off) && matchDims r.dims (off - r.off)

/-- The block, its copy and the offset that hold a BAR0 address (R456). -/
def findBlock : List BlockDef → Nat → Option (BlockDef × Nat × Nat)
  | [], _ => none
  | b :: r, a =>
    if b.base ≤ a then
      let x := a - b.base
      let i := if b.stride = 0 then 0 else x / b.stride
      let off := if b.stride = 0 then x else x % b.stride
      if i < b.count ∧ off < b.extent then some (b, i, off) else findBlock r a
    else findBlock r a

/-- The register at a BAR0 address; `none` at a reserved address (R8). -/
def findReg (a : Nat) : Option RegDef :=
  match findBlock blocks a with
  | none => none
  | some (b, i, off) => b.regs.find? (fun r => r.isAt i off)

/-- The units that are essential (R385): DMCs, shared buffer, BPM, TOD. -/
def unitEssential (u : Nat) : Bool :=
  (decide (296 ≤ u) && decide (u < 310)) || u == 314

/-- The units that RESET applies to (R385). -/
def unitRepairable (u : Nat) : Bool :=
  decide (u < 296) || (decide (310 ≤ u) && decide (u ≤ 313))

/-- Factory values that depend on the register's index, on the silicon or on the variant. -/
def defaultSpecial (a : Nat) : Option Nat :=
  if a = Reg.TMB_GEN_SLOT 0 0 ∨ a = Reg.TMB_GEN_SLOT 1 0 ∨ a = Reg.TMB_GEN_SLOT 2 0 ∨ a = Reg.TMB_GEN_SLOT 3 0 then
    some (1 <<< 8)
  else if a = Reg.BPM_POOL_CFG 0 then some (128 <<< 32)
  else if a = Reg.BPM_POOL_CFG 1 then some (512 <<< 32 ||| 65536)
  else if a = Reg.BPM_POOL_CFG 2 then some (2048 <<< 32)
  else if a = Reg.BPM_POOL_CFG 3 then some (9216 <<< 32)
  else if Reg.FLT_UNIT 0 ≤ a ∧ a ≤ Reg.FLT_UNIT 314 then
    some ((bit (unitEssential ((a - Reg.FLT_UNIT 0) / 8)) <<< 3) |||
      (bit (unitRepairable ((a - Reg.FLT_UNIT 0) / 8)) <<< 4))
  else if a = Reg.PMU_THERM then some (0x64 ||| ((if Config.variantE then 0x73 else 0x6E) <<< 8))
  else if a = Reg.GLB_ID then
    some (0x9102 ||| (Config.stepping.toNat <<< 16) ||| (bit Config.variantE <<< 24))
  else none

/-- The word that a list of fields holds at their factory values. -/
def fieldsDefault : List FieldDef → Nat
  | [] => 0
  | f :: r => (f.dflt <<< f.lo) ||| fieldsDefault r

/-- The factory value of the register at a BAR0 address; 0 at a reserved address (R6, R8). -/
def regDefault (a : Nat) : Word64 :=
  match defaultSpecial a with
  | some x => BitVec.ofNat 64 x
  | none =>
    match findReg a with
    | none => 0#64
    | some r => BitVec.ofNat 64 (fieldsDefault r.fields)

/-- What a field holds after a host write (R7): RW takes the written bits, W1C loses the bits written 1,
RO and RC keep theirs, RWI takes the written bits only before cast-on completes, W1S reads 0 and acts by its command. -/
def FieldDef.hostWrite (f : FieldDef) (early : Bool) (old new acc : Word64) : Word64 :=
  let fd : Fld := ⟨f.lo, f.len⟩
  match f.acc with
  | .rw => acc.put fd (new.get fd)
  | .w1c => acc.put fd (old.get fd &&& (2 ^ f.len - 1 - new.get fd))
  | .rwi => if early then acc.put fd (new.get fd) else acc
  | .ro | .rc | .w1s => acc

/-- A register after a host write, field by field (R7, R8). -/
def hostWriteFields (early : Bool) (old new : Word64) : List FieldDef → Word64 → Word64
  | [], acc => acc
  | f :: r, acc => hostWriteFields early old new r (f.hostWrite early old new acc)

/-- The word left at an address by a host write of `v` over `old`, before cast-on completes where `early`; reserved
addresses keep theirs (R8). -/
def regHostWrite (early : Bool) (a : Nat) (old v : Word64) : Word64 :=
  match findReg a with
  | none => old
  | some r => hostWriteFields early old v r.fields old

/-- A register after the image's CONFIG records wrote `v`: only fields marked "image" change (R462). -/
def imageWriteFields (new : Word64) : List FieldDef → Word64 → Word64
  | [], acc => acc
  | f :: r, acc => imageWriteFields new r (if f.img then acc.put ⟨f.lo, f.len⟩ (new.get ⟨f.lo, f.len⟩) else acc)

/-- The word left at an address by a CONFIG record. -/
def regImageWrite (a : Nat) (old v : Word64) : Word64 :=
  match findReg a with
  | none => old
  | some r => imageWriteFields v r.fields old

/-- The register after a host read has cleared its RC fields (R7). -/
def clearRc : List FieldDef → Word64 → Word64
  | [], w => w
  | f :: r, w => clearRc r (if f.acc = .rc then w.put ⟨f.lo, f.len⟩ 0 else w)

end Sys2Proof.Machine
end

