-- ==== Sys2Proof/Machine/SysTypes.lean ====
section
/-! DEFINITION. The kinds of data that the block's state is made of, part 5: cast-on and the journal, the host interface and its long
operations, the exporter, the control complexes. -/

namespace Sys2Proof.Machine

/-! ### The journal (R352, R353) -/

/-- Kind of a SLOT entry. -/
inductive SlotKind where
  | commit | trial | confirm | revoke
  deriving DecidableEq, Repr

/-- What an EVENT entry tells of (R352, R397, R411, R424, R425). -/
inductive EventKind where
  | admission | fuse | frequency | migration | kept (unit : Nat) | takeover | promotion | split
  deriving DecidableEq, Repr

/-- What an entry says. -/
inductive JWhat where
  | slot (slot : Nat) (kind : SlotKind) (version svn len : Nat) (sha : List Byte)
  | result (cause slot : Nat) (tried : Bool) (attempts : List (Word64 × Word64))
  | blackBox
  | event (k : EventKind)
  deriving DecidableEq, Repr

/-- A 64-byte record of the ring: TYPE, SEQ and the payload bytes 8 to 63; a bind-off also says which entry it ends. -/
structure JRec where
  ty : Nat
  seq : Nat
  payload : List Byte
  ends : Option JWhat
  deriving DecidableEq, Repr

/-- An entry that waits to be written: its records' payloads. -/
structure JEntry where
  what : JWhat
  payloads : List (List Byte)
  deriving DecidableEq, Repr

/-! ### Cast-on (R332 to R356) -/

/-- An owner-key bank of the fuses (R337). -/
structure KeyBank where
  bits : List Byte
  lock : Bool
  deriving DecidableEq, Repr

/-- An entry of the traffic envelope (R346). -/
structure EnvEntry where
  lport : Nat
  cls : Nat
  skew : Nat
  missShare : Nat
  pktRate : Nat
  newRate : Nat
  research : Nat
  auxShare : Nat
  deriving DecidableEq, Repr

/-- Cast-on, image and journal beside the CST registers. -/
structure CastSt where
  /-- Bytes of the image device by address (R332), and its capacity. -/
  flash : Tbl Byte
  flashLen : Nat
  /-- Records of the journal device (R333), and their number. -/
  jnl : Tbl JRec
  jnlLen : Nat
  /-- The journal can be written (R341). -/
  jnlOk : Bool
  /-- Entries that wait to be written, oldest first. -/
  jq : List JEntry
  /-- MONO of the last token. -/
  tokenAt : Nat
  /-- Fuse banks 0 and 1, and blown SVN fuses (R337). -/
  bank0 : KeyBank
  bank1 : KeyBank
  svn : Nat
  /-- Slots still to try in this cast-on, with whether each is an untried trial (R338). -/
  cands : List (Nat × Bool)
  /-- The slot under test or running, 0 or 1. -/
  slot : Option Nat
  /-- The slot under test or running is on trial. -/
  trial : Bool
  /-- Attempts made in this cast-on. -/
  attempts : Nat
  /-- SELECT has chosen and waits for its journal entry. -/
  chosen : Bool
  /-- MONO at the start of the running cast-on. -/
  began : Nat
  /-- MONO at which RUN was reached. -/
  runAt : Option Nat
  /-- Registers as the admitted image's CONFIG records wrote them. -/
  image : Tbl Word64
  tables : ImageTables
  env : List EnvEntry
  deriving DecidableEq, Repr

/-! ### The host interface (R357 to R366) -/

/-- A ring's completions that no message has signalled yet (R366): their number and MONO of the first. -/
structure RingIrq where
  count : Nat
  first : Nat
  deriving DecidableEq, Repr

/-- A frame of an inject ring that waits for a pool buffer (R365): its ring, its descriptor words W1 and W3, its bytes, and
MONO of the last attempt. -/
structure TxWait where
  ring : Nat
  w1 : Word64
  w3 : Word64
  bytes : List Byte
  mono : Nat
  deriving DecidableEq, Repr

/-- The host interface beside its registers. -/
structure HifSt where
  /-- Bytes that the device has written to host memory, by host address: the model's own. -/
  mem : Tbl Byte
  irq : Tbl RingIrq
  lastTx : Nat
  txWait : Option TxWait
  /-- What the last aperture read returned: its bytes and the poisoned bit (R361). -/
  apRead : List Byte
  apPoison : Bool
  deriving DecidableEq, Repr

/-! ### Long operations (R367 to R381) -/

/-- How far a running operation is. -/
inductive LopRun where
  | none
  /-- Shard and slot visited next; records and CRC-64 so far. -/
  | flowExport (shard slot : Nat) (records : Nat) (crc : Word64)
  /-- Header read; records read and CRC-64 so far. -/
  | flowImport (head : Bool) (records : Nat) (crc : Word64)
  /-- First entry, entries dumped; a block move has run since START. -/
  | dump (first next : Nat) (moved : Bool)
  | rebuild
  /-- Line of each subchannel visited next. -/
  | scrub (line : Nat)
  | migrate (started : Bool)
  /-- The REVOKE entry has been queued; the final entry has been queued; bytes programmed. -/
  | image (revoked entered : Bool) (bytes : Nat)
  | admission
  deriving DecidableEq, Repr

/-- A long-operation slot beside its registers. -/
structure LopSt where
  run : LopRun
  /-- Output that has not found room in the ring, or input that has been read and not yet used. -/
  buf : List Byte
  /-- All output has been made; ABORT waits for the safe point. -/
  fin : Bool
  aborting : Bool
  /-- Order of its START among all slots. -/
  order : Nat
  /-- The status word has changed since its last mirror write, and MONO of that write. -/
  dirty : Bool
  mirrorAt : Option Nat
  deriving DecidableEq, Repr

/-! ### The exporter (R244 to R247) -/

/-- The exporter beside the rings. -/
structure ExporterSt where
  /-- Expected sequence number by shard, 0 before the exporter has started on its ring (R245). -/
  next : Tbl Nat
  /-- MONO at which the expected slot of a shard was first found unwritten. -/
  waitAt : Tbl (Option Nat)
  /-- Data Records that wait for a message, oldest first: template and record bytes. -/
  records : List (Nat × List Byte)
  /-- Sequence number of Data Records sent. -/
  seq : Nat
  /-- The template set goes into the next message; MONO at which it was last sent. -/
  templates : Bool
  templatesAt : Nat
  statusAt : Nat
  exported : Nat
  skipped : Nat
  overrun : Nat
  sent : Nat
  lost : Nat
  deriving DecidableEq, Repr

/-! ### The control complexes (R405 to R414) -/

/-- Heartbeats of the complexes: key 2x + path (0 line, 1 bus) for complex x. -/
structure CcxSt where
  /-- MONO of the last heartbeat heard. -/
  heard : Tbl (Option Nat)
  /-- MONO of the last heartbeat sent. -/
  sent : Tbl (Option Nat)
  /-- HB_PATH has been raised for the silent path. -/
  told : Tbl Bool
  /-- A reset complex failed to reload its firmware (R407). -/
  badFirmware : Tbl Bool
  /-- The 8 MiB SRAM of complex x (R10) from its first byte on: the firmware as last loaded. What firmware writes behind it no rule
  states. -/
  sram : Tbl (List Byte)
  deriving DecidableEq, Repr

end Sys2Proof.Machine
end

