-- ==== Sys2Proof/Machine/Types.lean ====
section
/-! DEFINITION. The kinds of data that the block's state is made of, part 1: time, credits, faults, power, JTAG. -/

namespace Sys2Proof.Machine

/-- The time-of-day unit (R52, R53): the live count and what a command has set in train. -/
structure Clock where
  /-- TOD seconds, 48 bits. -/
  sec : Nat
  /-- TOD nanoseconds, 0 to 999,999,999. -/
  ns : Nat
  /-- TOD fraction in 2^-32 ns. -/
  frac : Nat
  /-- TOD.MONO, ticks since PD_AON was last reset. -/
  mono : Nat
  /-- PLL_MAIN runs: TOD and MONO count (R429). -/
  running : Bool
  /-- A slew is active, and how many of its ticks are left (R54). -/
  slewOn : Bool
  slewLeft : Nat
  /-- A PPS_LOAD waits for an edge (R54). -/
  loadArmed : Bool
  /-- The increment in force: nanoseconds and fraction last accepted in TOD.INCR (R55). -/
  incNs : Nat
  incFrac : Nat
  /-- SLEW_INC as it stood when the slew was accepted. -/
  slewNs : Nat
  slewFrac : Nat
  /-- STATUS.HOLDOVER (R57). -/
  holdover : Bool
  /-- MONO of the last steering event, or of the reset of PD_AON (R57). -/
  lastSteer : Nat
  /-- MONO of the last accepted PPS_IN edge; `none` before the first (R63). -/
  lastPps : Option Nat
  /-- STATUS.PPS_IN_LOST (R63). -/
  ppsLost : Bool
  /-- MONO of the last seconds carry (R52) that PPS_OUT has not yet shown (R62). -/
  carryAt : Option Nat
  /-- PPS_OUT has risen for the coming seconds carry, before it (R62). -/
  ppsEarly : Bool
  /-- The level of PPS_OUT, and MONO at its last rise (R62). -/
  ppsOut : Bool
  ppsRise : Nat
  deriving DecidableEq, Repr

/-- The stages of a credit link's resynchronisation (R25): stopped, message received and counter loaded, in use. -/
inductive LinkStage where
  | stopped | loaded | up
  deriving DecidableEq, Repr

/-- A credit link of R20. -/
structure Link where
  /-- Credits that the producer holds. -/
  credit : Nat
  /-- Entries that the consumer has freed and whose credits it has not yet returned. -/
  owed : Nat
  stage : LinkStage
  /-- MONO of the last credit returned, or of the resynchronisation. -/
  lastReturn : Nat
  /-- MONO of the first unit sent since all credits were home; `none` while all are. -/
  since : Option Nat
  /-- MONO at which the consumer was last holding while credits were outstanding (R23, R24). -/
  heldAt : Nat
  deriving DecidableEq, Repr

/-- A fault message on its way to the collector (R384); SEQ is the collector's. -/
structure FaultMsg where
  src : Nat
  kind : Nat
  cls : Nat
  addr : Nat
  todNs : Nat
  deriving DecidableEq, Repr

/-- An entry of the collector ring or of a first-fault register (R389). -/
structure RingEntry where
  w0 : Word64
  w1 : Word64
  w2 : Word64
  w3 : Word64
  deriving DecidableEq, Repr

/-- The fault collector beside its registers (R388 to R402). -/
structure FaultSt where
  /-- Messages waiting at each source, oldest first, at most 8 (R388); the key is the source identifier. -/
  queues : Tbl (List FaultMsg)
  /-- Sources that lost a message since their last recorded one (R388). -/
  lost : Tbl Bool
  /-- SEQ of the next recorded message (R388). -/
  seq : Nat
  /-- The ring of 4,096 entries (R389). -/
  ring : Tbl RingEntry
  /-- Tokens in the corrected-message bucket (R389), and MONO of its last gain. -/
  tokens : Nat
  tokensAt : Nat
  /-- The dedicated fatal line (R388), with the cause byte of R401. -/
  fatalLine : Option Nat
  /-- The fatal stop of this cast-on has started (R400). -/
  stopped : Bool
  /-- MONO at which a unit's window or repair timer ends (R395, R396); 0 where none runs. -/
  timers : Tbl Nat
  /-- Units whose fencing fault is not yet recorded (FAULT_SEQ, R395). -/
  seqWanted : Tbl Bool
  /-- Units that were KEPT when their domain went off (R397). -/
  keptUnder : Tbl Bool
  /-- Tumbler arrays rebuilt since their reset (R396). -/
  rebuilt : Tbl Bool
  /-- Units fenced by MC_UE, which the active complex repairs (R398). -/
  mcUe : Tbl Bool
  /-- Frames that a fence has discarded in each unit (R25, R27), and frames that the fatal stop has discarded (R27, R400): counts
that no register of the map shows (assumption log 78). -/
  fenceDiscards : Tbl Nat
  stopDiscards : Nat
  /-- MONO at which RUN was last entered, for FATAL_CLEAR (R402). -/
  runSince : Option Nat
  deriving DecidableEq, Repr

/-- Power and reset beside the PMU registers (R428 to R437). -/
structure PowerSt where
  /-- The running PMU.PD_CMD: its OP and its domain (R432); 4 stands for ON from QUIESCED. -/
  pdRun : Option (Nat × Nat)
  /-- MONO at which the running command was accepted. -/
  pdSince : Nat
  /-- SYS_RESET_N is low. -/
  sysResetLow : Bool
  /-- PERST_N is low, since which MONO. -/
  perstLow : Option Nat
  /-- SHUTDOWN has been accepted (R437). -/
  shutdown : Bool
  /-- The PD_AON logic runs on REFCLK or on the oscillator (R429). -/
  fallback : Bool
  /-- PD_AON was powered up: the device lives. -/
  powered : Bool
  deriving DecidableEq, Repr

/-- The JTAG instructions of R452. -/
inductive JtagInstr where
  | extest | idcode | samplePreload | highz | clamp | extestPulse | extestTrain | bypass
  deriving DecidableEq, Repr

/-- What the boundary drives (R452). -/
inductive Boundary where
  | normal | driven | highZ | held | pulsed | trained
  deriving DecidableEq, Repr

/-- The JTAG port (R452). -/
structure JtagSt where
  /-- The instruction register. -/
  ir : JtagInstr
  /-- The test data register between TDI and TDO, as its value at capture: 32 bits for IDCODE, one zero bit for BYPASS. -/
  dr : List Bool
  /-- The boundary-scan register. -/
  bsr : List Bool
  /-- What the boundary cells drive. -/
  drive : Boundary
  deriving DecidableEq, Repr

end Sys2Proof.Machine
end

