-- ==== Sys2Proof/Machine/State.lean ====
section
/-! DEFINITION. The whole state of the block, and the state right after reset. -/

namespace Sys2Proof.Machine

/-- Why a command can stop with a fault: never.  Every fault of this hardware is an event that it records and reacts
to (R384 to R402), which is a next state; no meaning raises a Lean-level fault. -/
inductive Fault where
  deriving DecidableEq, Repr

/-- Why a command can be refused. -/
inductive Refusal where
  /-- A row of the table that the model gives no meaning (raised by an arm of exec alone); safe: the run stops. -/
  | notModelled (mnemonic : String)
  deriving DecidableEq, Repr

/-- The block's state. -/
structure State where
  /-- Commands that wait, first in first out: the model's own. -/
  pending : List Instr
  clk : Clock
  /-- Registers as stored, by BAR0 address, where they differ from the factory value (R6, R456). -/
  regs : Tbl Word64
  /-- Words that the last read command returned, lowest address first: the model's own. -/
  readback : List Word64
  /-- How many open values have been drawn (assumption log 2): the model's own. -/
  free : Nat
  /-- Credit links, key 65536 · code + producer's sub-index (R20, R399). -/
  links : Tbl Link
  fault : FaultSt
  power : PowerSt
  jtag : JtagSt
  /-- Logical ports by 2n + h. -/
  ports : Tbl PortSt
  slice : SliceSt
  buf : BufSt
  tm : TmSt
  tmb : TumblerSt
  /-- Hank shards H0 to H15. -/
  shards : Tbl ShardSt
  dram : DramSt
  pools : PoolSt
  twin : TwinSt
  cast : CastSt
  hif : HifSt
  /-- Long-operation slots 0 to 15. -/
  lop : Tbl LopSt
  exporter : ExporterSt
  ccx : CcxSt
  deriving DecidableEq, Repr

/-- What a meaning answers. -/
abbrev Out := Host.Outcome State Fault Refusal

/-- The time-of-day unit after PD_AON power-up (R52, R53). -/
def Clock.init : Clock :=
  { sec := 0, ns := 0, frac := 0, mono := 0, running := true, slewOn := false, slewLeft := 0, loadArmed := false,
    incNs := 1, incFrac := 0x40000000, slewNs := 0, slewFrac := 0, holdover := false, lastSteer := 0,
    lastPps := none, ppsLost := false, carryAt := none, ppsEarly := false, ppsOut := false, ppsRise := 0 }

/-- A link that has not been resynchronised since its ends were reset (R25). -/
def Link.init : Link :=
  { credit := 0, owed := 0, stage := .stopped, lastReturn := 0, since := none, heldAt := 0 }

def RingEntry.init : RingEntry := { w0 := 0, w1 := 0, w2 := 0, w3 := 0 }

/-- The collector after PD_AON power-up; the corrected bucket is full (assumption log 12). -/
def FaultSt.init : FaultSt :=
  { queues := [], lost := [], seq := 0, ring := [], tokens := 256, tokensAt := 0, fatalLine := none, stopped := false,
    timers := [], seqWanted := [], keptUnder := [], rebuilt := [], mcUe := [], fenceDiscards := [], stopDiscards := 0,
    runSince := none }

def PowerSt.init : PowerSt :=
  { pdRun := none, pdSince := 0, sysResetLow := false, perstLow := none, shutdown := false,
    fallback := false, powered := true }

/-- The TAP after TRST_N: the instruction register selects IDCODE (assumption log 13). -/
def JtagSt.init : JtagSt :=
  { ir := .idcode, dr := [], bsr := [], drive := .normal }

def Stop.init : Stop := { on := false, until_ := 0, next := [] }

def PortSt.init : PortSt :=
  { rx := none, fifo := [], out := [], xoff := false, xoffCls := 0, fcPend := [], fcLast := 0, stops := [],
    remoteFault := false, txts := [], egr := [], gateWaited := 0, tx := none, wire := [] }

def MacEntry.init : MacEntry :=
  { mac := 0, bd := 0, valid := false, static_ := false, locked := false, hit := false, port := 0, moves := 0,
    moveEpoch := 0, lockExp := 0, agedOnce := false, lastSeen := 0 }

def SliceSt.init : SliceSt :=
  { meters := [], learn := [], lastSlice := 0, learners := [], macs := [], walker := [], aging := [],
    lastAging := [], flush := [], imageMacs := [] }

def BufSt.init : BufSt :=
  { bytes := [], use := [], link := [], refs := [], badFrame := [], frameUe := [], badLink := [], low := none }

def GateSt.init : GateSt := { active := none, pending := none, bank := 0 }

def NhEntry.init : NhEntry := { n0 := 0, n1 := 0, n2 := 0, n3 := 0 }

def TmSt.init : TmSt :=
  { relIn := [], lastIn := [], queues := [], lastHost := [], lastPort := [], lastQueue := [], members := [],
    qmask := [], samplers := [], buckets := [], gcl := [], gates := [], nh := [], gaugeAt := [],
    hostWait := [] }

def TmbEntry.init : TmbEntry :=
  { key := 0, mask := 0, prio := 0, gens := 0, valid := false, disabled := false, result := 0 }

def TumblerSt.init : TumblerSt :=
  { ents := [], inserts := [], run := .idle, retiring := 0, searches := [], lastReq := [], scrubRow := [] }

def AluFlags.init : AluFlags := { z := false, c := false, n := false }

/-- An idle thread (R174). -/
def Thread.init : Thread :=
  { item := none, pc := 0, g := List.replicate 16 0, key := List.replicate 40 0, klen := 0, hbase := 0
    aux := List.replicate 8 0, rb := List.replicate 16 0, res := List.replicate 4 0, resMask := 0, committed := false
    msg := List.replicate 4 0, msgMask := 0, mbox := 0, cmp := 0, armed := false, fired := false, stack := []
    fa := AluFlags.init, fb := AluFlags.init, recSt := .none, fresh := false, srch := .none, lock := .none, wake := .none
    cas := none, auxLost := false, readUsed := false, hold := false, wasFull := false, locks := [], read := .none
    auxSt := .none, srchWait := false, keep := 0, sleep := .awake, due := none, since := 0, ending := false, abort := none
    haltReq := none, halted := false, haltCause := 0, stepping := false, itemEnded := false, heldAt := none, bpSkip := false, std := [], stdAsked := false }

def Place.init : Place := { stash := false, slot := 0 }

/-- An empty way. -/
def Way.init : Way :=
  { valid := false, h60 := 0, role := .short, ref := false, held := none, filling := false, evicting := false
    place := Place.init, words := [] }

def Group.init : Group := { nextSeq := 0, nextRel := 0, entries := [], heldSince := none }

def StashEntry.init : StashEntry := { h60 := 0, long := false, tail := false, withdrawn := false }

def Sweeper.init : Sweeper :=
  { running := false, hot := 0, dram := 0, hotDone := false, dramDone := false, began := 0, aging := false
    due := none, lastPeriod := 0, input := none, waiting := none, fill := none, fillCls := 0 }

def WLock.init : WLock := { owner := none, queue := [] }

def ShardSt.init : ShardSt :=
  { inputs := [], lastInput := 16, nextRank := 0, ready := [], parked := [], groups := [], lastGroup := 65535, relAt := 0, relCount := 0
    threads := [], recPort := [], entryWait := [], ways := [], hands := [], evb := [], entries := [], stash := []
    sweep := Sweeper.init, host := .none, flush := [], locks := [], events := [], mail := [], store := [], mcRow := 0 }

def DmcSub.init : DmcSub :=
  { waiting := [], readQ := [], writeQ := [], bg := [], last := 15, draining := false, rows := [], scrub := 0, scrubPasses := 0, scrubAt := 0
    cursor := 0 }

def DramSt.init : DramSt :=
  { bytes := [], poison := [], subs := [], refreshAt := [], refreshBank := [], hot := [], freq := .idle, freqAt := 0, freqTo := 0 }

def PoolCache.init : PoolCache := { free := [], last := 63, asks := [], frees := [] }

def PoolRing.init : PoolRing := { head := 0, lines := 0 }

def PoolSt.init : PoolSt := { caches := [], rings := [], meta1 := [], park := [], low := [] }

def TwinSt.init : TwinSt :=
  { queues := [], deltas := [], batchAt := [], lastShard := 15, txSeq := 0, rxSeq := 0, unacked := [], apply := []
    lost := 0, linkAt := none, sideAt := none, linkSent := none, sideSent := none, sent := none, paired := false
    pass := none }

/-- No tables: before cast-on has admitted an image. -/
def ImageTables.init : ImageTables :=
  { tmb := [], macs := [], nextHops := [], groups := [], gates := [], counts := [], exporter := none, mcVersion := 0, mcPatch := 0 }

def KeyBank.init : KeyBank := { bits := [], lock := false }

/-- Cast-on after PD_AON power-up: a 2 Gbit image device, erased, and an empty 4 Mbit journal; blank fuses (assumption log 30). -/
def CastSt.init : CastSt :=
  { flash := [], flashLen := 268435456, jnl := [], jnlLen := 8192, jnlOk := true, jq := [], tokenAt := 0, bank0 := KeyBank.init
    bank1 := KeyBank.init, svn := 0, cands := [], slot := none, trial := false, attempts := 0, chosen := false, began := 0, runAt := none
    image := [], tables := ImageTables.init, env := [] }

def RingIrq.init : RingIrq := { count := 0, first := 0 }

def HifSt.init : HifSt := { mem := [], irq := [], lastTx := 15, txWait := none, apRead := [], apPoison := false }

def LopSt.init : LopSt := { run := .none, buf := [], fin := false, aborting := false, order := 0, dirty := false, mirrorAt := none }

def ExporterSt.init : ExporterSt :=
  { next := [], waitAt := [], records := [], seq := 0, templates := true, templatesAt := 0, statusAt := 0, exported := 0
    skipped := 0, overrun := 0, sent := 0, lost := 0 }

def CcxSt.init : CcxSt := { heard := [], sent := [], told := [], badFirmware := [], sram := [] }

/-- The machine right after reset: PD_AON has just been powered up, every block at its factory values, cast-on at
phase RESET (R436, R343), the journal bucket full (R354). -/
def State.reset : State :=
  { pending := [], clk := Clock.init, regs := [(Reg.CST_JNL_TOKENS, 4096)], readback := [], free := 0, links := [], fault := FaultSt.init,
    power := PowerSt.init, jtag := JtagSt.init, ports := [], slice := SliceSt.init, buf := BufSt.init,
    tm := TmSt.init, tmb := TumblerSt.init, shards := [], dram := DramSt.init, pools := PoolSt.init,
    twin := TwinSt.init, cast := CastSt.init, hif := HifSt.init, lop := [], exporter := ExporterSt.init, ccx := CcxSt.init }

end Sys2Proof.Machine
end

