-- ==== Sys2Proof/Machine/Ops.lean ====
section
/-! DEFINITION. The named operations that every meaning is built from: registers and counters, free values, fault
messages (R384, R388), unit states (R395), power-domain states (R431), credit links (R20 to R25). -/

namespace Sys2Proof.Machine

/-! ### What a command answers -/

/-- The answer of a command that touches neither the queue nor the time-of-day unit. -/
def done (s t : State) : Out :=
  .next { t with pending := s.pending, clk := s.clk }

/-- The answer of a command that may change the time-of-day unit. -/
def doneClk (s t : State) : Out :=
  .next { t with pending := s.pending }

/-- `t` where the condition holds, the state as it was otherwise (assumption log 1). -/
def State.when (s : State) (b : Bool) (t : State) : State := if b then t else s

/-! ### Registers -/

/-- The stored word of a register. -/
def State.reg (s : State) (a : Nat) : Word64 := Tbl.get (regDefault a) s.regs a

/-- Hardware stores a word into a register. -/
def State.setReg (s : State) (a : Nat) (v : Word64) : State :=
  { s with regs := Tbl.set (regDefault a) s.regs a v }

/-- A field of a register. -/
def State.fld (s : State) (a : Nat) (f : Fld) : Nat := (s.reg a).get f

/-- A one-bit field, as a truth value. -/
def State.flag (s : State) (a : Nat) (f : Fld) : Bool := s.fld a f != 0

/-- Hardware stores a field of a register. -/
def State.setFld (s : State) (a : Nat) (f : Fld) (x : Nat) : State :=
  s.setReg a ((s.reg a).put f x)

/-- Sets a field's bits given by `x`, leaving the field's other bits. -/
def State.orFld (s : State) (a : Nat) (f : Fld) (x : Nat) : State :=
  s.setFld a f (s.fld a f ||| x)

/-- Adds to a 64-bit counter (R64 and the counter tables). -/
def State.bumpBy (s : State) (a n : Nat) : State :=
  s.setReg a (s.reg a + BitVec.ofNat 64 n)

/-- Counts one event. -/
def State.bump (s : State) (a : Nat) : State := s.bumpBy a 1

/-- Counts one event in a narrow field, which saturates. -/
def State.bumpSat (s : State) (a : Nat) (f : Fld) : State :=
  s.setFld a f (min (s.fld a f + 1) (2 ^ f.len - 1))

/-- Sets a counter array's `n` registers `a`, `a + 8`, … to 0 (R64: only CNT_CLR clears them). -/
def State.clearRegs (s : State) (a n : Nat) : State := forUpTo n (fun i t => t.setReg (a + 8 * i) 0) s

/-- The registers of the addresses `lo` to below `hi` at their factory values. -/
def State.resetRange (s : State) (lo hi : Nat) : State :=
  { s with regs := Tbl.drop s.regs (fun k => decide (lo ≤ k) && decide (k < hi)) }

/-- Draws an open value: a word that nothing constrains (assumption log 2). -/
def State.draw (s : State) : Word64 × State :=
  (Config.freeValue s.free, { s with free := s.free + 1 })

/-! ### Time -/

/-- CLK_TICK ticks of a number of microseconds (R52: 800 MHz). -/
def usTicks (n : Nat) : Nat := 800 * n

/-- CLK_TICK ticks of a number of milliseconds. -/
def msTicks (n : Nat) : Nat := 800000 * n

/-- TOD as a whole number of nanoseconds. -/
def Clock.nanos (c : Clock) : Nat := c.sec * 1000000000 + c.ns

/-! ### Fault messages and units -/

/-- A source identifier (R384): SRC_TYPE and SRC_INST. -/
def srcId (ty inst : Nat) : Nat := 1024 * ty + inst

def srcPort (n : Nat) : Nat := srcId 0x01 n
def srcSlice (i : Nat) : Nat := srcId 0x02 i
def srcShard (h : Nat) : Nat := srcId 0x03 h
def srcFae (h e : Nat) : Nat := srcId 0x04 (32 * h + e)
def srcControlStore (h : Nat) : Nat := srcId 0x05 h
def srcTumbler (q : Nat) : Nat := srcId 0x06 q
def srcTm (q : Nat) : Nat := srcId 0x07 q
def srcDmc (c : Nat) : Nat := srcId 0x08 c
def srcBuf : Nat := srcId 0x09 0
def srcDie (k : Nat) : Nat := srcId 0x0A k
def srcBpm : Nat := srcId 0x0B 0
def srcHif : Nat := srcId 0x0C 0
def srcTwin : Nat := srcId 0x0D 0
def srcComplex (x : Nat) : Nat := srcId 0x0E x
def srcHasp (i : Nat) : Nat := srcId 0x0F i
def srcTod : Nat := srcId 0x10 0
def srcPmu : Nat := srcId 0x11 0
def srcCastOn : Nat := srcId 0x12 0
def srcCollector : Nat := srcId 0x13 0

/-- The unit that a source belongs to (R385). -/
def unitOf (src : Nat) : Option Nat :=
  let i := src % 1024
  match src / 1024 with
  | 0x01 => some i
  | 0x02 => some (256 + i)
  | 0x03 => some (272 + i)
  | 0x04 => some (272 + i / 32)
  | 0x05 => some (272 + i)
  | 0x06 => some (288 + i)
  | 0x07 => some (292 + i)
  | 0x08 => some (296 + i)
  | 0x09 => some 308
  | 0x0A => some 308
  | 0x0B => some 309
  | 0x0C => some 310
  | 0x0D => some 311
  | 0x0E => some (312 + i)
  | 0x10 => some 314
  | _ => none

def unitPort (n : Nat) : Nat := n
def unitSlice (i : Nat) : Nat := 256 + i
def unitShard (h : Nat) : Nat := 272 + h
def unitTumbler (q : Nat) : Nat := 288 + q
def unitTm (q : Nat) : Nat := 292 + q
def unitDmc (c : Nat) : Nat := 296 + c
def unitBuf : Nat := 308
def unitBpm : Nat := 309
def unitHif : Nat := 310
def unitTwin : Nat := 311
def unitComplex (x : Nat) : Nat := 312 + x
def unitTod : Nat := 314

/-- FLT.UNIT[U].STATE (R395). -/
def State.unitState (s : State) (u : Nat) : Nat := s.fld (Reg.FLT_UNIT u) Fld.FLT_UNIT_STATE

/-- The unit is fenced, resetting, reset, kept or off: its detectors are masked (R394) and nothing crosses its boundary. -/
def State.down (s : State) (u : Nat) : Bool := s.unitState u != 0

/-- A masked detector fired (R394). -/
def State.shadow (s : State) (u : Nat) : State :=
  (s.bumpSat (Reg.FLT_UNIT u) Fld.FLT_UNIT_SHADOWED).bump (Reg.FLT_CNT Cnt.FLT_SHADOWED)

/-- A source sends a fault message (R388): a corrected or uncorrected-contained one that finds its queue full is lost
and counted; a fatal one also drives the fatal line. -/
def State.sendFault (s : State) (src kind cls addr : Nat) : State :=
  let q := Tbl.get [] s.fault.queues src
  let m : FaultMsg := { src := src, kind := kind, cls := cls, addr := addr % 2 ^ 48, todNs := s.clk.ns }
  if cls ≠ 2 ∧ 8 ≤ q.length then
    State.bump { s with fault := { s.fault with lost := Tbl.set false s.fault.lost src true } }
      (Reg.FLT_CNT Cnt.FLT_SRC_OVF_LOST)
  else
    { s with fault :=
      { s.fault with
        queues := Tbl.set [] s.fault.queues src (q ++ [m])
        fatalLine := if cls = 2 ∧ s.fault.fatalLine = none then some 0 else s.fault.fatalLine } }

/-- A detector inside a unit fires: masked, it is shadowed (R394); otherwise its message is sent. -/
def State.detect (s : State) (src kind cls addr : Nat) : State :=
  match unitOf src with
  | none => s.sendFault src kind cls addr
  | some u => if s.down u then s.shadow u else s.sendFault src kind cls addr

/-- Opens a unit's escalation window (R395): STATE 1, the window's timer, FENCES counted. -/
def State.openWindow (s : State) (u : Nat) : State :=
  let t := s.setFld (Reg.FLT_UNIT u) Fld.FLT_UNIT_STATE 1
  let w := usTicks (s.fld Reg.FLT_CFG Fld.FLT_CFG_ESC_WINDOW_US)
  State.bump { t with fault := { t.fault with
      timers := Tbl.set 0 t.fault.timers u (s.clk.mono + w)
      seqWanted := Tbl.set false t.fault.seqWanted u true
      rebuilt := Tbl.set false t.fault.rebuilt u false } } (Reg.FLT_CNT Cnt.FLT_FENCES)

/-! ### Power domains -/

def domSd (n : Nat) : Nat := n / 8
def domSlice (i : Nat) : Nat := 32 + i
def domShard (h : Nat) : Nat := 48 + h
def domTm (q : Nat) : Nat := 64 + q
def domDp (c : Nat) : Nat := 72 + c / 4
def domPx : Nat := 78
def domTw : Nat := 77

/-- State of a power domain (R432): 0 OFF, 1 ON, 2 QUIESCED, 3 SWITCHING. -/
def State.dom (s : State) (d : Nat) : Nat :=
  s.fld (Reg.PMU_PD_STATE (d / 32)) ⟨2 * (d % 32), 2⟩

def State.setDom (s : State) (d x : Nat) : State :=
  s.setFld (Reg.PMU_PD_STATE (d / 32)) ⟨2 * (d % 32), 2⟩ x

def State.domOn (s : State) (d : Nat) : Bool := s.dom d == 1

/-- The domains that PMU.PD_CMD switches (R431). -/
def domSwitchable (d : Nat) : Bool :=
  decide (d < 64) || (decide (65 ≤ d) && decide (d ≤ 67)) || d == 75 || d == 76 || d == 77

/-- The units of a domain (R431). -/
def domUnits (d : Nat) : List Nat :=
  if d < 32 then (List.range 8).map (fun i => unitPort (8 * d + i))
  else if d < 48 then [unitSlice (d - 32)]
  else if d < 64 then [unitShard (d - 48)]
  else if d < 68 then [unitTumbler (d - 64), unitTm (d - 64)]
  else if 72 ≤ d ∧ d < 75 then (List.range 4).map (fun i => unitDmc (4 * (d - 72) + i))
  else if d = 75 then [unitComplex 0]
  else if d = 76 then [unitComplex 1]
  else if d = 77 then [unitTwin]
  else if d = 78 then [unitHif]
  else []

/-! ### Phase of cast-on -/

/-- CST.STATUS.PHASE (R343). -/
def State.phase (s : State) : Nat := s.fld Reg.CST_STATUS Fld.CST_STATUS_PHASE

/-! ### Credit links -/

/-- The link codes of R399. -/
def lnkIngress (p : Nat) : Nat := 65536 * 1 + p
def lnkDispatch (i h : Nat) : Nat := 65536 * 2 + 16 * i + h
def lnkReady (h : Nat) : Nat := 65536 * 3 + h
def lnkRecord (h : Nat) : Nat := 65536 * 4 + h
def lnkMiss (h : Nat) : Nat := 65536 * 5 + h
def lnkFill (h : Nat) : Nat := 65536 * 6 + h
/-- Release link of producer `i` (shards 0 to 15, slices 16 to 31) toward TM `q`. -/
def lnkRelease (i q : Nat) : Nat := 65536 * 7 + 4 * i + q
/-- Egress link of a logical port for one class. -/
def lnkEgress (p c : Nat) : Nat := 65536 * 8 + 8 * p + c
def lnkPool (p : Nat) : Nat := 65536 * 9 + p

def State.link (s : State) (k : Nat) : Link := Tbl.get Link.init s.links k

def State.setLink (s : State) (k : Nat) (l : Link) : State :=
  { s with links := Tbl.set Link.init s.links k l }

/-- Credits with which the producer may send: none while the link is not up (R25). -/
def State.credit (s : State) (k : Nat) : Nat :=
  let l := s.link k
  if l.stage = .up then l.credit else 0

/-- The producer sends `n` units (R22). -/
def State.useCredit (s : State) (k n : Nat) : State :=
  let l := s.link k
  s.setLink k { l with credit := l.credit - n, since := match l.since with | none => some s.clk.mono | some t => some t }

/-- The consumer frees `n` entries, whose credits it will return (R22). -/
def State.freeEntry (s : State) (k n : Nat) : State :=
  let l := s.link k
  s.setLink k { l with owed := l.owed + n }

/-- The producer stops and discards its credit count (R25, step 1); the credits the consumer owed are not carried over. -/
def State.stopLink (s : State) (k : Nat) : State :=
  s.setLink k { s.link k with credit := 0, owed := 0, stage := .stopped }

end Sys2Proof.Machine
end

