-- ==== Sys2Proof/Machine/PortOps.lean ====
section
/-! DEFINITION. What a port macro's mode makes of its logical ports (R37, R38, R45), and the port's part of the state. -/

namespace Sys2Proof.Machine

/-- A logical port's part of the state. -/
def State.port (s : State) (p : Nat) : PortSt := Tbl.get PortSt.init s.ports p

def State.setPort (s : State) (p : Nat) (x : PortSt) : State :=
  { s with ports := Tbl.set PortSt.init s.ports p x }

/-- PRT.CTL.MODE of macro n (R37). -/
def State.mode (s : State) (n : Nat) : Nat := s.fld (Reg.PRT_CTL n) Fld.PRT_CTL_MODE

/-- The other macro of the pair P(2m), P(2m+1). -/
def pairOf (n : Nat) : Nat := if n % 2 = 0 then n + 1 else n - 1

/-- The mode of macro n works: not reserved, and both halves of an 800GbE pair are set together (R38). -/
def State.modeOk (s : State) (n : Nat) : Bool :=
  let e := s.mode (2 * (n / 2))
  let o := s.mode (2 * (n / 2) + 1)
  (e == 5 && o == 6) || (decide (e < 5) && decide (o < 5))

/-- The line rate in Gbit/s that a mode gives half h of a macro; 0 where the half is no logical port (R37). -/
def modeRate (m h : Nat) : Nat :=
  if m = 0 then (if h = 0 then 400 else 0)
  else if m = 1 then 200
  else if m = 2 then (if h = 0 then 200 else 0)
  else if m = 3 then 100
  else if m = 4 then 50
  else if m = 5 then (if h = 0 then 800 else 0)
  else 0

/-- The line rate of logical port p = 2n + h. -/
def State.rate (s : State) (p : Nat) : Nat := modeRate (s.mode (p / 2)) (p % 2)

/-- The ENABLE field of half h. -/
def fldEnable (h : Nat) : Fld := if h = 0 then Fld.PRT_CTL_ENABLE0 else Fld.PRT_CTL_ENABLE1

/-- The ENABLE bit of a logical port. -/
def State.enableBit (s : State) (p : Nat) : Bool := s.flag (Reg.PRT_CTL (p / 2)) (fldEnable (p % 2))

/-- The logical port exists in its macro's mode, its mode works, its ENABLE bit is 1, its macro is not fenced (R39, R393)
and the device has not stopped (R400, R437). -/
def State.portEnabled (s : State) (p : Nat) : Bool :=
  decide (0 < s.rate p) && s.modeOk (p / 2) && s.enableBit p && !s.down (unitPort (p / 2))
    && !s.fault.stopped && !s.power.shutdown

/-- The link of a logical port is up. -/
def State.linkUp (s : State) (p : Nat) : Bool :=
  s.flag (Reg.PRT_STATUS (p / 2)) (if p % 2 = 0 then Fld.PRT_STATUS_LINK0 else Fld.PRT_STATUS_LINK1)

/-- Ingress FIFO entries of a logical port (R45). -/
def State.ingCapacity (s : State) (p : Nat) : Nat :=
  let m := s.mode (p / 2)
  if s.rate p = 0 then 0 else if m = 5 then 8192 else if m = 1 ∨ m = 3 ∨ m = 4 then 2048 else 4096

/-- The slice of a logical port (R2). -/
def sliceOf (p : Nat) : Nat := p / 32

/-- The quadrant of a logical port. -/
def quadOf (p : Nat) : Nat := p / 128

/-- CLK_TICK ticks of a number of bit-times at a rate in Gbit/s, rounded up. -/
def bitTicks (bits rate : Nat) : Nat := (bits * 4 + 5 * rate - 1) / (5 * rate)

/-- The receive latency of R50 in nanoseconds, by the port's line rate. -/
def rxLatency (rate : Nat) : Nat :=
  if rate = 800 then 80 else if rate = 400 then 88 else if rate = 200 then 96 else if rate = 100 then 150 else 270

/-- The transmit latency of R50 in nanoseconds. -/
def txLatency (rate : Nat) : Nat :=
  if rate = 800 then 58 else if rate = 400 then 64 else if rate = 200 then 70 else if rate = 100 then 112 else 204

/-- TOD in units of 2^-32 ns. -/
def Clock.fine (c : Clock) : Nat := c.nanos * 2 ^ 32 + c.frac

/-- The stamp whose TOD is `x` units of 2^-32 ns; a time before 0 counts as 0. -/
def stampOf (x : Int) (mono delay : Nat) : Stamp :=
  let t := x.toNat
  { sec := (t / (2 ^ 32 * 1000000000)) % 2 ^ 48
    ns := (t / 2 ^ 32) % 1000000000
    frac := t % 2 ^ 32
    mono := mono
    delay := delay }

/-- Counter i of a logical port. -/
def cntPort (p i : Nat) : Nat := Reg.PRT_CNT (p / 2) (p % 2) i

end Sys2Proof.Machine
end

