-- ==== Sys2Proof/Machine/Gates.lean ====
section
/-! DEFINITION. Time gates (R321 to R325): gate control lists, their evaluation at a TOD, the takeover of a pending list,
and the commands of TMG.GCL_CMD. -/

namespace Sys2Proof.Machine

/-- Key of an entry of a gate list. -/
def gclKey (p bank i : Nat) : Nat := (2 * p + bank) * 256 + i

/-- The gates of a logical port; the key 128q + lp is the port's number. -/
def State.gate (s : State) (p : Nat) : GateSt := Tbl.get GateSt.init s.tm.gates p

/-- The entries of a list: GATES and INTERVAL_NS. -/
def State.gateEntries (s : State) (p bank len : Nat) : List (Nat × Nat) :=
  (List.range len).map (fun i =>
    let x := Tbl.get 0 s.tm.gcl (gclKey p bank i)
    (x % 256, x / 256))

/-- The cycle time C of a list (R321). -/
def cycleOf (l : List (Nat × Nat)) : Nat := (l.map (fun e => e.2)).sum

/-- Class c is open in an entry. -/
def gateBit (gates c : Nat) : Bool := gates.testBit c

/-- The entry in force at a phase of the cycle, and how much of it is left; units of 2^-32 ns. -/
def entryAt : List (Nat × Nat) → Nat → Nat → Option (Nat × Nat × Nat)
  | [], _, _ => none
  | (g, iv) :: r, i, ph =>
    if ph < iv * 4294967296 then some (i, g, iv * 4294967296 - ph) else entryAt r (i + 1) (ph - iv * 4294967296)

/-- The phase of a list at TOD t (units of 2^-32 ns) with takeover time `start` in ns (R322). -/
def gatePhase (l : List (Nat × Nat)) (start : Nat) (t : Int) : Nat :=
  ((t - (start : Int) * 4294967296) % ((cycleOf l * 4294967296 : Nat) : Int)).toNat

/-- Class c stays open over a span that begins at the head of these entries, the first one with `left` units left. -/
def openOver (c : Nat) : List (Nat × Nat) → Nat → Nat → Bool
  | [], _, _ => false
  | (g, _) :: r, left, span =>
    gateBit g c && (decide (span ≤ left) ||
      (match r with
       | [] => false
       | (_, iv') :: _ => openOver c r (iv' * 4294967296) (span - left)))

/-- A list keeps class c open from TOD t for a span (R323). -/
def listOpen (l : List (Nat × Nat)) (start c : Nat) (t : Int) (span : Nat) : Bool :=
  if l.all (fun e => gateBit e.1 c) then true
  else
    match entryAt l 0 (gatePhase l start t) with
    | none => true
    | some (i, _, left) => openOver c (l.drop i ++ l ++ l) left span

/-- Gate c of port p is open from wire time t for `span` units of 2^-32 ns, under the active list and, from its takeover
time, the pending one (R323). -/
def State.gateOpen (s : State) (p c : Nat) (t : Int) (span : Nat) : Bool :=
  let g := s.gate p
  let act (t : Int) (sp : Nat) : Bool :=
    match g.active with
    | none => true
    | some l => listOpen (s.gateEntries p l.bank l.len) l.start c t sp
  match g.pending with
  | none => act t span
  | some pl =>
    let tp : Int := (pl.start : Int) * 4294967296
    let pend (t : Int) (sp : Nat) : Bool := listOpen (s.gateEntries p pl.bank pl.len) pl.start c t sp
    if tp ≤ t then pend t span
    else if t + span ≤ tp then act t span
    else act t (tp - t).toNat && pend tp (t + span - tp).toNat

/-- The wire time of port p's transmit point (R50, R322), in units of 2^-32 ns. -/
def State.wireTime (s : State) (p : Nat) : Int :=
  (s.clk.fine : Int) + (txLatency (s.rate p) : Int) * 4294967296
    + signed 24 (s.fld (Reg.PRT_TS_ADJ (p / 2) (p % 2)) Fld.PRT_TS_ADJ_TX_ADJ) * 16777216

/-- The entry in force and the gates open now on port p (R322); entry 0 and all gates with no active list. -/
def State.gateNow (s : State) (p : Nat) : Nat × Nat :=
  match (s.gate p).active with
  | none => (0, 0xFF)
  | some l =>
    let es := s.gateEntries p l.bank l.len
    match entryAt es 0 (gatePhase es l.start (s.wireTime p)) with
    | none => (0, 0xFF)
    | some (i, g, _) => (i, g)

/-- Stores a port's gates and shows them in GATE_STATUS. -/
def State.setGate (s : State) (p : Nat) (g : GateSt) : State :=
  let t := { s with tm := { s.tm with gates := Tbl.set GateSt.init s.tm.gates p g } }
  let a := Reg.TMG_GATE_STATUS (p / 128) (p % 128)
  let t := t.setFld a Fld.TMG_GATE_STATUS_EN (bit g.active.isSome)
  let t := t.setFld a Fld.TMG_GATE_STATUS_PENDING (bit g.pending.isSome)
  let t := t.setFld a Fld.TMG_GATE_STATUS_ACTIVE_BANK g.bank
  t.setFld a Fld.TMG_GATE_STATUS_ACTIVE_LEN (match g.active with | none => 0 | some l => l.len)

/-- Shows the entry in force and the open gates of port p in GATE_STATUS. -/
def State.showGate (s : State) (p : Nat) : State :=
  let a := Reg.TMG_GATE_STATUS (p / 128) (p % 128)
  let x := s.gateNow p
  (s.setFld a Fld.TMG_GATE_STATUS_CUR_ENTRY x.1).setFld a Fld.TMG_GATE_STATUS_OPEN x.2

/-- The pending list of port p takes over when the port's wire time has reached its takeover time (R322, R325). -/
def State.gateTakeover (s : State) (p : Nat) : State :=
  let g := s.gate p
  match g.pending with
  | none => s
  | some l =>
    if (l.start : Int) * 4294967296 ≤ s.wireTime p then
      (((s.setGate p { active := some l, pending := none, bank := l.bank }).showGate p).bump
        (Reg.TMG_SCH_CNT (p / 128) Cnt.TSCH_GCL_TAKEOVERS))
    else s

/-- Every pending list whose time the TOD has reached takes over: what a step forward does (R56). -/
def State.gateTakeovers (s : State) : State :=
  forEach (s.tm.gates.map (fun e => e.1)) (fun p t => t.gateTakeover p) s

/-- Both lists of a port are dropped and all gates open (R324). -/
def State.gateDisable (s : State) (p : Nat) : State :=
  let g := s.gate p
  (s.setGate p { active := none, pending := none, bank := g.bank }).showGate p

/-- The shortest open run that the code 4 check allows, in ns (R324). -/
def State.gateMin (s : State) (p maxFrame guard : Nat) : Nat :=
  ((maxFrame + 24) * 8 + s.rate p - 1) / s.rate p + guard

/-- Whether every run of entries open for class c lasts at least `m`, given the entries from a closed one on. -/
def runsOk (c m : Nat) : List (Nat × Nat) → Nat → Bool
  | [], acc => acc == 0 || decide (m ≤ acc)
  | (g, iv) :: r, acc =>
    if gateBit g c then runsOk c m r (acc + iv)
    else (acc == 0 || decide (m ≤ acc)) && runsOk c m r 0

/-- The code 4 check for one class: a class open in every entry or in none is not checked. -/
def classRunsOk (l : List (Nat × Nat)) (m c : Nat) : Bool :=
  if l.all (fun e => gateBit e.1 c) then true
  else
    runsOk c m (l.dropWhile (fun e => gateBit e.1 c) ++ l.takeWhile (fun e => gateBit e.1 c)) 0

/-- The code 4 check of R324. -/
def listRunsOk (l : List (Nat × Nat)) (m : Nat) : Bool :=
  (List.range 8).all (fun c => classRunsOk l m c)

/-- The code 5 check of R324. -/
def listLengthOk (l : List (Nat × Nat)) : Bool :=
  decide (1 ≤ l.length) && decide (l.length ≤ 256)
    && l.all (fun e => decide (1 ≤ e.2) && decide (e.2 ≤ 1000000000)) && decide (cycleOf l ≤ 1000000000)

/-- A list of port p, active or pending, would fail code 4 with these MAX_FRAME and GUARD_NS (R324). -/
def State.gateWouldFail (s : State) (p maxFrame guard : Nat) : Bool :=
  let m := s.gateMin p maxFrame guard
  let bad (o : Option GateList) : Bool :=
    match o with
    | none => false
    | some l => !listRunsOk (s.gateEntries p l.bank l.len) m
  bad (s.gate p).active || bad (s.gate p).pending

/-- A refused gate command: ERR, its code, GCL_ERR; nothing else changes (R324). -/
def State.gclRefuse (s : State) (q code : Nat) : State :=
  let s := s.setFld (Reg.TMG_GCL_CMD q) Fld.TMG_GCL_CMD_ERR 1
  let s := s.setFld (Reg.TMG_GCL_CMD q) Fld.TMG_GCL_CMD_ERR_CODE code
  s.setFld (Reg.TMG_SCH_STATUS q) Fld.TMG_SCH_STATUS_GCL_ERR 1

/-- The fields of GCL_CMD that a command carries. -/
def State.gclSelect (s : State) (p entry bank : Nat) : State :=
  let a := Reg.TMG_GCL_CMD (p / 128)
  let s := s.setFld a Fld.TMG_GCL_CMD_PORT (p % 128)
  let s := s.setFld a Fld.TMG_GCL_CMD_ENTRY entry
  s.setFld a Fld.TMG_GCL_CMD_BANK bank

/-- GCL_CMD READ (R331): the entry of the named bank into GCL_DATA. -/
def gclRead (p entry bank : Nat) (s : State) : State :=
  let s := s.gclSelect p entry bank
  let x := Tbl.get 0 s.tm.gcl (gclKey p bank entry)
  let s := s.setFld (Reg.TMG_GCL_DATA (p / 128)) Fld.TMG_GCL_DATA_GATES (x % 256)
  s.setFld (Reg.TMG_GCL_DATA (p / 128)) Fld.TMG_GCL_DATA_INTERVAL_NS (x / 256)

/-- GCL_CMD WRITE (R324): GCL_DATA into an entry of the inactive bank; codes 6, 3 and 7 refuse it. -/
def gclWrite (p entry bank : Nat) (s : State) : State :=
  let s := s.gclSelect p entry bank
  let g := s.gate p
  if s.rate p = 0 then s.gclRefuse (p / 128) 6
  else if g.pending.isSome then s.gclRefuse (p / 128) 3
  else if g.active.isSome ∧ bank = g.bank then s.gclRefuse (p / 128) 7
  else
    let a := Reg.TMG_GCL_DATA (p / 128)
    let x := s.fld a Fld.TMG_GCL_DATA_GATES + 256 * s.fld a Fld.TMG_GCL_DATA_INTERVAL_NS
    { s with tm := { s.tm with gcl := Tbl.set 0 s.tm.gcl (gclKey p (1 - g.bank) entry) x } }

/-- GCL_CMD ARM (R324): the checks in the order 6, 3, 2, 5, 4 (assumption log 21), then the list is pending. -/
def gclArm (p : Nat) (s : State) : State :=
  let q := p / 128
  let s := s.gclSelect p (s.fld (Reg.TMG_GCL_CMD q) Fld.TMG_GCL_CMD_ENTRY) (s.fld (Reg.TMG_GCL_CMD q) Fld.TMG_GCL_CMD_BANK)
  let g := s.gate p
  let len := s.fld (Reg.TMG_GCL_ARM q) Fld.TMG_GCL_ARM_LEN
  let start := s.fld (Reg.TMG_GCL_TIME_SEC q) Fld.TMG_GCL_TIME_SEC_SEC * 1000000000
    + s.fld (Reg.TMG_GCL_TIME_NS q) Fld.TMG_GCL_TIME_NS_NS
  let l := s.gateEntries p (1 - g.bank) len
  let m := s.gateMin p (s.fld (Reg.PRT_MTU (p / 2) (p % 2)) Fld.PRT_MTU_MAX_FRAME)
    (s.fld (Reg.TMG_GATE_CFG q (p % 128)) Fld.TMG_GATE_CFG_GUARD_NS)
  let refuse (c : Nat) := (s.gclRefuse q c).bump (Reg.TMG_SCH_CNT q Cnt.TSCH_GCL_ARM_REJECTS)
  if s.rate p = 0 then refuse 6
  else if g.pending.isSome then refuse 3
  else if start * 4294967296 < s.clk.fine + 1000 * 4294967296 then refuse 2
  else if !listLengthOk l then refuse 5
  else if !listRunsOk l m then refuse 4
  else s.setGate p { g with pending := some { bank := 1 - g.bank, len := len, start := start } }

/-- GCL_CMD CANCEL (R324): a pending list is dropped. -/
def gclCancel (p : Nat) (s : State) : State :=
  s.setGate p { s.gate p with pending := none }

/-- A gate of a list opens or closes (R322): the entry in force shows in GATE_STATUS. -/
def gateEntryChange (p : Nat) (s : State) : State := s.showGate p

def execGclRead (p : Fin 512) (entry : Fin 256) (bank : Fin 2) (s : State) : Out :=
  done s (gclRead p.val entry.val bank.val s)

def execGclWrite (p : Fin 512) (entry : Fin 256) (bank : Fin 2) (s : State) : Out :=
  done s (gclWrite p.val entry.val bank.val s)

def execArm (p : Fin 512) (s : State) : Out := done s (gclArm p.val s)

def execCancel (p : Fin 512) (s : State) : Out := done s (gclCancel p.val s)

def execDisable (p : Fin 512) (s : State) : Out := done s (s.gateDisable p.val)

/-- GCL_TAKEOVER (R325). -/
def execGclTakeover (p : Fin 512) (s : State) : Out := done s (s.gateTakeover p.val)

/-- GATE_ENTRY_CHANGE (R322). -/
def execGateEntryChange (p : Fin 512) (s : State) : Out := done s (gateEntryChange p.val s)

end Sys2Proof.Machine
end

