-- ==== Sys2Proof/Machine/Hash.lean ====
section
/-! DEFINITION. SipHash-2-4 (R74, R83, R191), the CRCs of R465, and the Ethernet frame check sequence. -/

namespace Sys2Proof.Machine

/-- The four words of a SipHash state. -/
structure Sip where
  v0 : Word64
  v1 : Word64
  v2 : Word64
  v3 : Word64
  deriving DecidableEq, Repr

/-- One SipRound. -/
def sipRound (s : Sip) : Sip :=
  let v0 := s.v0 + s.v1
  let v1 := s.v1.rotateLeft 13 ^^^ v0
  let v0 := v0.rotateLeft 32
  let v2 := s.v2 + s.v3
  let v3 := s.v3.rotateLeft 16 ^^^ v2
  let v0 := v0 + v3
  let v3 := v3.rotateLeft 21 ^^^ v0
  let v2 := v2 + v1
  let v1 := v1.rotateLeft 17 ^^^ v2
  let v2 := v2.rotateLeft 32
  { v0 := v0, v1 := v1, v2 := v2, v3 := v3 }

/-- Absorbs one message word with two rounds. -/
def sipWord (s : Sip) (m : Word64) : Sip :=
  let t := sipRound (sipRound { s with v3 := s.v3 ^^^ m })
  { t with v0 := t.v0 ^^^ m }

/-- Absorbs a number of whole words of the message, then the last word with the length byte. -/
def sipBlocks (len : Nat) : Nat → List Byte → Sip → Sip
  | 0, l, s => sipWord s (BitVec.ofNat 64 (leNat l + (len % 256) * 2 ^ 56))
  | n + 1, l, s => sipBlocks len n (l.drop 8) (sipWord s (BitVec.ofNat 64 (leNat (l.take 8))))

/-- SipHash-2-4 of a message under the key k0, k1. -/
def sipHash (k0 k1 : Word64) (msg : List Byte) : Word64 :=
  let s : Sip :=
    { v0 := k0 ^^^ 0x736f6d6570736575#64, v1 := k1 ^^^ 0x646f72616e646f6d#64
      v2 := k0 ^^^ 0x6c7967656e657261#64, v3 := k1 ^^^ 0x7465646279746573#64 }
  let s := sipBlocks msg.length (msg.length / 8) msg s
  let s := { s with v2 := s.v2 ^^^ 0xFF#64 }
  let s := sipRound (sipRound (sipRound (sipRound s)))
  s.v0 ^^^ s.v1 ^^^ s.v2 ^^^ s.v3

/-- Eight steps of a reflected 32-bit CRC with polynomial `p` (reflected form). -/
def crcReflSteps (p : BitVec 32) : Nat → BitVec 32 → BitVec 32
  | 0, c => c
  | n + 1, c => crcReflSteps p n (if c.getLsbD 0 then (c >>> 1) ^^^ p else c >>> 1)

/-- A reflected 32-bit CRC register over bytes. -/
def crcRefl (p : BitVec 32) : List Byte → BitVec 32 → BitVec 32
  | [], c => c
  | b :: r, c => crcRefl p r (crcReflSteps p 8 (c ^^^ b.setWidth 32))

/-- CRC-32C (R465). -/
def crc32c (l : List Byte) : BitVec 32 := crcRefl 0x82F63B78#32 l 0xFFFFFFFF#32 ^^^ 0xFFFFFFFF#32

/-- The CRC of the Ethernet frame check sequence (assumption log 23: IEEE 802.3). -/
def crc32 (l : List Byte) : BitVec 32 := crcRefl 0xEDB88320#32 l 0xFFFFFFFF#32 ^^^ 0xFFFFFFFF#32

/-- The four FCS bytes of a frame without FCS, in wire order. -/
def fcsOf (l : List Byte) : List Byte := leBytes 4 (crc32 l).toNat

/-- The frame's last four bytes are its FCS. -/
def fcsOk (l : List Byte) : Bool := fcsOf (l.take (l.length - 4)) == l.drop (l.length - 4)

/-- Steps of a 64-bit CRC that is not reflected. -/
def crc64Steps : Nat → Word64 → Word64
  | 0, c => c
  | n + 1, c => crc64Steps n (if c.getLsbD 63 then (c <<< 1) ^^^ 0x42F0E1EBA9EA3693#64 else c <<< 1)

/-- CRC-64 (ECMA-182) continued from a register value (R465). -/
def crc64From : List Byte → Word64 → Word64
  | [], c => c
  | b :: r, c => crc64From r (crc64Steps 8 (c ^^^ (b.setWidth 64 <<< 56)))

/-- CRC-64 (ECMA-182) of a string of bytes (R465). -/
def crc64 (l : List Byte) : Word64 := crc64From l 0#64

end Sys2Proof.Machine
end

