-- ==== Sys2Proof/Machine/Journal.lean ====
section
/-! DEFINITION. The journal (R333, R352 to R354): records and bind-offs, the scan, live entries and copy-forwards, the token
bucket, the entries that wait. -/

namespace Sys2Proof.Machine

def State.cstBump (s : State) (i : Nat) : State := s.bump (Reg.CST_CNT i)

/-! ### Records (R352) -/

/-- The 64 bytes of a record. -/
def JRec.bytes (r : JRec) : List Byte := leBytes 1 r.ty ++ [0#8] ++ leBytes 6 r.seq ++ bytesAt r.payload 0 56

/-- A record that nothing has written. -/
def JRec.blank : JRec := { ty := 0, seq := 0, payload := [], ends := none }

def State.jnlAt (s : State) (i : Nat) : JRec := Tbl.get JRec.blank s.cast.jnl i

/-- TYPE of an entry's records. -/
def JWhat.ty : JWhat → Nat
  | .slot _ _ _ _ _ _ => 0x01
  | .result _ _ _ _ => 0x02
  | .blackBox => 0x03
  | .event _ => 0x04

/-- The bind-off of records `l`, whose first has SEQ `first`. -/
def bindOff (first : Nat) (l : List JRec) (w : JWhat) : JRec :=
  let p := leBytes 6 first ++ leBytes 2 l.length ++ leBytes 1 w.ty ++ leBytes 7 0
    ++ leBytes 8 (crc64 (l.flatMap JRec.bytes)).toNat ++ leBytes 28 0
  let seq := (first + l.length) % 2 ^ 48
  { ty := 0x0F, seq := seq, ends := some w
    payload := p ++ leBytes 4 (crc32c (leBytes 1 0x0F ++ [0#8] ++ leBytes 6 seq ++ p)).toNat }

/-! ### The scan (R353) -/

/-- An entry found in the ring: place of its first record, records before the bind-off, SEQ of the bind-off, what it says. -/
structure JFound where
  first : Nat
  count : Nat
  seq : Nat
  what : JWhat
  deriving DecidableEq, Repr

/-- The `n` records before place `b`. -/
def State.jnlBefore (s : State) (b n : Nat) : List JRec :=
  (List.range n).map (fun k => s.jnlAt ((b + s.cast.jnlLen - n + k) % s.cast.jnlLen))

/-- The entry that the record at place `b` binds off, where its CRCs hold. -/
def State.jnlEntryAt (s : State) (b : Nat) : Option JFound :=
  let r := s.jnlAt b
  match r.ends with
  | none => none
  | some w =>
    let n := leNat (bytesAt r.payload 6 2)
    let l := s.jnlBefore b n
    if r.ty = 0x0F ∧ 1 ≤ n ∧ n ≤ 256 ∧ leNat (bytesAt r.payload 16 8) = (crc64 (l.flatMap JRec.bytes)).toNat
        ∧ leNat (bytesAt r.payload 52 4) = (crc32c (r.bytes.take 60)).toNat then
      some { first := (b + s.cast.jnlLen - n) % s.cast.jnlLen, count := n, seq := r.seq, what := w }
    else none

/-- Every valid entry of the ring. -/
def State.jnlEntries (s : State) : List JFound := s.cast.jnl.filterMap (fun e => s.jnlEntryAt e.1)

/-- The place belongs to a valid entry. -/
def State.jnlCovered (s : State) (l : List JFound) (i : Nat) : Bool :=
  l.any (fun e => decide ((i + s.cast.jnlLen - e.first) % s.cast.jnlLen ≤ e.count))

/-- Entries without a valid bind-off: runs of records of rising SEQ that no valid entry covers. -/
def State.jnlTorn (s : State) : Nat :=
  let l := s.jnlEntries
  (s.cast.jnl.filter (fun e =>
    let p := (e.1 + s.cast.jnlLen - 1) % s.cast.jnlLen
    !s.jnlCovered l e.1
      && !(!s.jnlCovered l p && (s.jnlAt p).ty != 0x0F && (s.jnlAt p).ty == e.2.ty && (s.jnlAt p).seq + 1 == e.2.seq
        || !s.jnlCovered l p && e.2.ty == 0x0F && (s.jnlAt p).seq + 1 == e.2.seq))).length

/-- The newest of the entries that satisfy `p`. -/
def newestOf (l : List JFound) (p : JWhat → Bool) : Option JFound :=
  l.foldl (fun m e => if p e.what then (match m with | none => some e | some x => if x.seq < e.seq then some e else m) else m) none

/-- The entry is a SLOT entry of slot k. -/
def JWhat.ofSlot (k : Nat) : JWhat → Bool
  | .slot k' _ _ _ _ _ => k' == k
  | _ => false

/-- Live entries: the newest SLOT entry of each slot, the four newest BLACK_BOX entries. -/
def State.jnlLive (s : State) : List JFound :=
  let l := s.jnlEntries
  let bb := l.filter (fun e => e.what == .blackBox)
  let top := bb.filter (fun e => decide ((bb.filter (fun x => decide (e.seq < x.seq))).length < 4))
  (newestOf l (JWhat.ofSlot 0)).toList ++ (newestOf l (JWhat.ofSlot 1)).toList ++ top

/-- What the journal says of a slot (R338). -/
inductive SlotState where
  | none | committed | untried | used
  deriving DecidableEq, Repr

/-- The commit state of slot k, with the SEQ that orders candidates. -/
def State.slotState (s : State) (k : Nat) : SlotState × Nat :=
  let l := s.jnlEntries
  match newestOf l (JWhat.ofSlot k) with
  | none => (.none, 0)
  | some e =>
    let started := newestOf l (fun w => match w with | .slot k' .commit _ _ _ _ => k' == k | .slot k' .trial _ _ _ _ => k' == k | _ => false)
    let seq := match started with | none => e.seq | some x => x.seq
    match e.what with
    | .slot _ .commit _ _ _ _ => (.committed, seq)
    | .slot _ .confirm _ _ _ _ => (.committed, seq)
    | .slot _ .trial _ _ _ _ =>
      if l.any (fun x => decide (e.seq < x.seq) && (match x.what with | .result _ k' true _ => k' == k | _ => false)) then (.used, seq)
      else (.untried, seq)
    | _ => (.none, seq)

/-! ### Writing (R352 to R354) -/

def State.jnlHead (s : State) : Nat := s.fld Reg.CST_JNL_STATUS Fld.CST_JNL_STATUS_HEAD

/-- The bucket's level, signed. -/
def State.jnlTokens (s : State) : Int := signed 32 (s.fld Reg.CST_JNL_TOKENS Fld.CST_JNL_TOKENS_TOKENS)

def State.setTokens32 (s : State) (x : Int) : State :=
  s.setFld Reg.CST_JNL_TOKENS Fld.CST_JNL_TOKENS_TOKENS (x % 4294967296).toNat

/-- One record is written at HEAD; it takes a token. -/
def State.jnlRecord (s : State) (r : JRec) : State :=
  let h := s.jnlHead
  let s := { s with cast := { s.cast with jnl := Tbl.set JRec.blank s.cast.jnl h r } }
  let s := s.setFld Reg.CST_JNL_STATUS Fld.CST_JNL_STATUS_HEAD ((h + 1) % s.cast.jnlLen)
  let s := s.setFld Reg.CST_JNL_SEQ Fld.CST_JNL_SEQ_SEQ (r.seq + 1)
  (s.setTokens32 (s.jnlTokens - 1)).cstBump Cnt.CST_JNL_RECORDS

/-- The records of an entry from the next SEQ on. -/
def State.jnlRecords (s : State) (w : JWhat) (payloads : List (List Byte)) : List JRec :=
  let q := s.fld Reg.CST_JNL_SEQ Fld.CST_JNL_SEQ_SEQ
  payloads.zipIdx.map (fun x => { ty := w.ty, seq := (q + x.2) % 2 ^ 48, payload := x.1, ends := none })

/-- An entry is written: its records, then its bind-off. -/
def State.jnlEntry (s : State) (w : JWhat) (payloads : List (List Byte)) : State :=
  let l := s.jnlRecords w payloads
  let q := s.fld Reg.CST_JNL_SEQ Fld.CST_JNL_SEQ_SEQ
  forEach (l ++ [bindOff q l w]) (fun r t => t.jnlRecord r) s

/-- A live entry is rewritten at HEAD. -/
def State.jnlCopy (s : State) (e : JFound) : State :=
  let l := (List.range e.count).map (fun k => (s.jnlAt ((e.first + k) % s.cast.jnlLen)).payload)
  (s.jnlEntry e.what l).cstBump Cnt.CST_JNL_COPY_FWD

/-- Records that every live entry together may take (R354). -/
def jnlReserve : Nat := 286

def jnlSum (l : List JFound) : Nat := (l.map (fun e => e.count + 1)).sum

/-- The live entries to copy before `n` records are written: those that HEAD would come closer to than the reserve. -/
def State.jnlPlan (s : State) (n : Nat) : List JFound :=
  let live := s.jnlLive
  let far (e : JFound) : Nat := (e.first + s.cast.jnlLen - s.jnlHead) % s.cast.jnlLen
  let near (m : Nat) : List JFound := live.filter (fun e => decide (far e < m))
  let l := forUpTo 7 (fun _ l => near (n + jnlSum l + jnlReserve)) []
  l.mergeSort (fun a b => decide (far a ≤ far b))

/-- The copy-forwards and the entry are written. -/
def State.jnlWrite (s : State) (e : JEntry) : State :=
  let s : State := forEach (s.jnlPlan (e.payloads.length + 1)) (fun x t => t.jnlCopy x) s
  (s.jnlEntry e.what e.payloads).cstBump Cnt.CST_JNL_ENTRIES

/-- Bytes whose layout the spec does not state: `n` open words. -/
def State.drawBytes (s : State) : Nat → List Byte × State
  | 0 => ([], s)
  | n + 1 =>
    let x := s.draw
    let r := x.2.drawBytes n
    (leBytes 8 x.1.toNat ++ r.1, r.2)

/-- Records of an entry besides its bind-off, for the types whose payload has no stated layout. -/
def JWhat.records : JWhat → Nat
  | .slot _ _ _ _ _ _ => 2
  | .blackBox => 69
  | .result _ _ _ _ | .event _ => 1

/-- An entry with an open payload joins those that wait; none does while the journal is unreadable (R341). -/
def State.jnlQueue (s : State) (w : JWhat) : State :=
  if !s.cast.jnlOk then s
  else
    let x := s.drawBytes (7 * w.records)
    let l := (List.range w.records).map (fun i => bytesAt x.1 (56 * i) 56)
    { x.2 with cast := { x.2.cast with jq := x.2.cast.jq ++ [{ what := w, payloads := l }] } }

/-- JOURNAL_ENTRY_WRITE: the first entry that waits is written; an EVENT the bucket cannot pay is dropped, a SLOT or
CASTON_RESULT waits, a BLACK_BOX is written at once. -/
def journalEntryWrite (s : State) : State :=
  match s.cast.jq with
  | [] => s
  | e :: r =>
    let n := e.payloads.length + 1
    let cost : Int := ((n + jnlSum (s.jnlPlan n) : Nat) : Int)
    let t := { s with cast := { s.cast with jq := r } }
    if s.power.sysResetLow then s
    else if cost ≤ s.jnlTokens ∨ e.what = .blackBox then t.jnlWrite e
    else match e.what with
      | .event _ => t.cstBump Cnt.CST_JNL_DROPPED
      | _ => s

/-- A reset cuts off the first waiting entry after `n` of its records; it and the others are lost (R430). -/
def State.jnlCut (s : State) (n : Nat) : State :=
  let s := match s.cast.jq with
    | [] => s
    | e :: _ => forEach ((s.jnlRecords e.what e.payloads).take n) (fun r t => t.jnlRecord r) s
  { s with cast := { s.cast with jq := [] } }

/-- JOURNAL_TOKEN_REFILL: 256 tokens per second, up to 4,096. -/
def journalTokenRefill (s : State) : State :=
  let due := s.cast.tokenAt + 3125000
  if s.clk.mono < due then s
  else
    let s := { s with cast := { s.cast with tokenAt := due } }
    if s.jnlTokens < 4096 then s.setTokens32 (s.jnlTokens + 1) else s

def execJournalEntryWrite (s : State) : Out := done s (journalEntryWrite s)
def execJournalTokenRefill (s : State) : Out := done s (journalTokenRefill s)

end Sys2Proof.Machine
end

