-- ==== Sys2Proof/Machine/LopOps.lean ====
section
/-! DEFINITION. What every long operation shares (R367 to R372): the slots, the status word, the rings' line counts, progress,
results, and how an operation ends. -/

namespace Sys2Proof.Machine

/-! ### The status word (R368) -/

def lopState : Fld := ⟨0, 4⟩
def lopOp : Fld := ⟨4, 4⟩
def lopUpd : Fld := ⟨8, 8⟩
def lopCode : Fld := ⟨16, 16⟩
def lopLines : Fld := ⟨32, 32⟩

/-- Codes of R371. -/
def lopBusy : Nat := 0x0701
def lopArg : Nat := 0x0702
def lopHost : Nat := 0x0703
def lopStream : Nat := 0x0704
def lopPhase : Nat := 0x0705
def lopAbandoned : Nat := 0x0706
def lopTakeover : Nat := 0x0707
def lopSpareFail : Nat := 0x0708
def lopMoved : Nat := 0x0709
def lopAborted : Nat := 0x070A

def State.lopSlot (s : State) (i : Nat) : LopSt := Tbl.get LopSt.init s.lop i

def State.setLop (s : State) (i : Nat) (x : LopSt) : State :=
  { s with lop := Tbl.set LopSt.init s.lop i x }

def State.setLopRun (s : State) (i : Nat) (r : LopRun) : State := s.setLop i { s.lopSlot i with run := r }

/-- The status word of a slot changes: UPD counts it and the mirror is due; an unchanged word counts nothing. -/
def State.lopPut (s : State) (i : Nat) (w : Word64) : State :=
  let old := s.reg (Reg.LOP_STATUS i)
  if w = old then s
  else
    let s := s.setReg (Reg.LOP_STATUS i) (w.put lopUpd (old.get lopUpd + 1))
    s.setLop i { s.lopSlot i with dirty := true }

def State.lopFld (s : State) (i : Nat) (f : Fld) : Nat := (s.reg (Reg.LOP_STATUS i)).get f

/-- STATE is set, CODE kept. -/
def State.lopShow (s : State) (i st : Nat) : State := s.lopPut i ((s.reg (Reg.LOP_STATUS i)).put lopState st)

/-- The slot is RUNNING or WAIT_HOST. -/
def State.lopActive (s : State) (i : Nat) : Bool := s.lopFld i lopState == 1 || s.lopFld i lopState == 2

/-- An operation ends: 3 DONE, 4 FAILED, 5 ABORTED, with its code. -/
def State.lopEnd (s : State) (i st code : Nat) : State :=
  let s := s.lopPut i (((s.reg (Reg.LOP_STATUS i)).put lopState st).put lopCode code)
  s.setLop i { s.lopSlot i with run := .none, buf := [], fin := false, aborting := false }

/-- Lines written or consumed rise by `n`; the operation runs. -/
def State.lopMoved (s : State) (i n : Nat) : State :=
  s.lopPut i (((s.reg (Reg.LOP_STATUS i)).put lopState 1).put lopLines (s.lopFld i lopLines + n))

def State.lopProgress (s : State) (i n : Nat) : State :=
  s.setFld (Reg.LOP_PROGRESS i) Fld.LOP_PROGRESS_DONE (s.fld (Reg.LOP_PROGRESS i) Fld.LOP_PROGRESS_DONE + n)

def State.lopResult (s : State) (i j : Nat) (x : Nat) : State :=
  s.setReg (Reg.LOP_RESULT i j) (BitVec.ofNat 64 x)

def State.lopCount (s : State) (i j : Nat) : State := s.bump (Reg.LOP_RESULT i j)

def State.lopArgN (s : State) (i j : Nat) : Nat := (s.reg (Reg.LOP_ARG i j)).toNat

/-! ### The rings (R369) -/

/-- Output lines that may be written now. -/
def State.outRoom (s : State) (i : Nat) : Nat :=
  let size := s.fld (Reg.LOP_OUT_CFG i) Fld.LOP_OUT_CFG_LINES
  let used := (s.lopFld i lopLines + 4294967296 - s.fld (Reg.LOP_OUT_CONS i) Fld.LOP_OUT_CONS_CONS) % 4294967296
  size - used

/-- Input lines that may be read now. -/
def State.inLeft (s : State) (i : Nat) : Nat :=
  (s.fld (Reg.LOP_IN_PROD i) Fld.LOP_IN_PROD_PROD + 4294967296 - s.lopFld i lopLines) % 4294967296

/-- The input is complete: used up with END set. -/
def State.inDone (s : State) (i : Nat) : Bool :=
  s.inLeft i == 0 && s.flag (Reg.LOP_IN_PROD i) Fld.LOP_IN_PROD_END

/-- Writes lines to the output ring and counts them (R369). -/
def State.lopWrite (s : State) (i : Nat) (bytes : List Byte) : State :=
  let size := max 1 (s.fld (Reg.LOP_OUT_CFG i) Fld.LOP_OUT_CFG_LINES)
  let base := 64 * s.fld (Reg.LOP_OUT_ADDR i) Fld.LOP_OUT_ADDR_ADDR
  let n := bytes.length / 64
  let first := s.lopFld i lopLines
  let m := forEach (List.range n) (fun k m => memWrite m (base + (first + k) % size * 64) (bytesAt bytes (64 * k) 64)) s.hif.mem
  { s with hif := { s.hif with mem := m } }.lopMoved i n

/-! ### Which operations need the host (R358, R372) -/

/-- The operation still reads input from host memory or writes output to it. -/
def State.lopNeedsHost (s : State) (i : Nat) : Bool :=
  match (s.lopSlot i).run with
  | .flowExport _ _ _ _ | .flowImport _ _ _ | .dump _ _ _ => true
  | .image _ _ _ | .admission => !s.inDone i
  | .none | .rebuild | .scrub _ | .migrate _ => false

/-- Every running operation that satisfies `p` ends ABORTED with a code. -/
def State.lopAbortAll (s : State) (p : State → Nat → Bool) (code : Nat) : State :=
  forUpTo 16 (fun i t => if t.lopActive i ∧ p t i = true then t.lopEnd i 5 code else t) s

/-- The operation is run by the DMC engines, which a takeover does not end (R372). -/
def State.lopByDmc (s : State) (i : Nat) : Bool :=
  match (s.lopSlot i).run with
  | .scrub _ | .migrate _ => true
  | _ => false

/-! ### What other blocks note for a long operation -/

/-- A block move runs in array q: a Tumbler dump of it is marked (R378). -/
def State.markDumps (s : State) (q : Nat) : State :=
  forUpTo 16 (fun i t =>
    match (t.lopSlot i).run with
    | .dump a n _ => if t.lopArgN i 0 % 16 = 1 ∧ t.lopArgN i 0 / 16 % 4 = q then t.setLopRun i (.dump a n true) else t
    | _ => t) s

/-- A TUMBLER_REBUILD runs (R379). -/
def State.rebuilding (s : State) : Bool := (List.range 16).any (fun i => s.lopActive i && (s.lopSlot i).run == .rebuild)

/-- The migration engine of channel c has copied a line, or poisoned it, for a RANK_MIGRATE (R380). -/
def State.lopMigrated (s : State) (c : Nat) (bad : Bool) : State :=
  forUpTo 16 (fun i t =>
    match (t.lopSlot i).run with
    | .migrate true => if t.lopActive i ∧ t.lopArgN i 0 % 16 = c then (t.lopCount i (if bad then 1 else 0)).lopProgress i 1 else t
    | _ => t) s

end Sys2Proof.Machine
end

