-- ==== Sys2Proof/Machine/FlowOps.lean ====
section
/-! DEFINITION. The shards' part of the state, and the words and bytes of threads and records. -/

namespace Sys2Proof.Machine

def State.shard (s : State) (h : Nat) : ShardSt := Tbl.get ShardSt.init s.shards h

def State.setShard (s : State) (h : Nat) (x : ShardSt) : State :=
  { s with shards := Tbl.set ShardSt.init s.shards h x }

/-- Thread 16e + t of shard h. -/
def State.thread (s : State) (h t : Nat) : Thread := Tbl.get Thread.init (s.shard h).threads t

def State.setThread (s : State) (h t : Nat) (x : Thread) : State :=
  s.setShard h { s.shard h with threads := Tbl.set Thread.init (s.shard h).threads t x }

def State.hnkBump (s : State) (h i : Nat) : State := s.bump (Reg.HNK_CNT h i)
def State.schBump (s : State) (h i : Nat) : State := s.bump (Reg.SCH_CNT h i)
def State.faeBump (s : State) (h i : Nat) : State := s.bump (Reg.FAE_CNT h i)
def State.wrdBump (s : State) (h i : Nat) : State := s.bump (Reg.WRD_CNT h i)

/-- 64-bit words of a byte string, little-endian (R113). -/
def wordsOf (n : Nat) (l : List Byte) : List Word64 :=
  (List.range n).map (fun i => BitVec.ofNat 64 (leNat (bytesAt l (8 * i) 8)))

/-- The bytes of 64-bit words, little-endian. -/
def bytesOf (l : List Word64) : List Byte := l.flatMap (fun w => leBytes 8 w.toNat)

/-- A shard neither fenced, reset, kept nor off takes part in traffic. -/
def State.shardUp (s : State) (h : Nat) : Bool := !s.down (unitShard h)

end Sys2Proof.Machine
end

