-- ==== Sys2Proof/Machine/Cells.lean ====
section
/-! DEFINITION. The shared buffer (R289 to R294): cells, their free list and the slices' caches, the link and frame
tables, reference counts, and what an uncorrectable error does. -/

namespace Sys2Proof.Machine

/-- Cells of the shared buffer (R289). -/
def cellTotal : Nat := 4194304

/-- Cells whose entry of the use table satisfies `p`. -/
def State.cellCount (s : State) (p : CellUse → Bool) : Nat := (s.buf.use.filter (fun e => p e.2)).length

/-- Free cells: on the free list or in a slice's cache (R291). -/
def State.cellFree (s : State) : Nat :=
  cellTotal - s.cellCount (fun u => u == .inFlight || u == .queued || u == .withdrawn)

/-- The lowest cell from `n` on that a sorted table does not list. -/
def firstUnlisted : Tbl CellUse → Nat → Nat
  | [], n => n
  | (k, _) :: r, n => if n < k then n else firstUnlisted r (k + 1)

/-- Notes FREE for BUF.LOW. -/
def State.noteLow (s : State) : State :=
  let f := s.cellFree
  { s with buf := { s.buf with low := some (match s.buf.low with | none => f | some x => min x f) } }

def State.setUse (s : State) (c : Nat) (u : CellUse) : State :=
  { s with buf := { s.buf with use := Tbl.set CellUse.free s.buf.use c u } }

/-- A free cell: one of the slice's cache, else the lowest of the device's free list (assumption log 24). -/
def State.pickCell (s : State) (slice : Nat) : Nat :=
  match s.buf.use.find? (fun e => e.2 == CellUse.cached slice) with
  | some e => e.1
  | none => firstUnlisted s.buf.use 0

/-- Takes a cell (R292): counted in CELLS_ALLOCATED. -/
def State.takeCell (s : State) (slice : Nat) : Nat × State :=
  let c := s.pickCell slice
  let t := (s.setUse c .inFlight).bump (Reg.BUF_CNT Cnt.BUF_CELLS_ALLOCATED)
  (c, t.noteLow)

/-- Returns one cell to the free list (R293). -/
def State.freeCell (s : State) (c : Nat) : State :=
  let t := (s.setUse c .free).bump (Reg.BUF_CNT Cnt.BUF_CELLS_FREED)
  let t := { t with buf := { t.buf with
    bytes := Tbl.drop t.buf.bytes (fun a => a / 256 == c)
    link := Tbl.set 0 t.buf.link c 0 } }
  t.noteLow

def State.freeCells (s : State) (l : List Nat) : State := forEach l (fun c t => t.freeCell c) s

/-- Withdraws cells until the next cast-on (R294). -/
def State.withdrawCells (s : State) (l : List Nat) : State :=
  let t := forEach l (fun c t => (t.setUse c .withdrawn).bump (Reg.BUF_CNT Cnt.BUF_WITHDRAWN_CELLS)) s
  if l = [] then t else t.setFld Reg.BUF_STATUS Fld.BUF_STATUS_WITHDRAWN_SEEN 1

/-- The cells of a frame that can be reached: `cnt` cells from the head along the link table, ending at a cell whose entry failed. -/
def State.chain (s : State) (head : Nat) : Nat → List Nat
  | 0 => []
  | 1 => [head]
  | n + 2 =>
    if Tbl.get false s.buf.badLink head then [head]
    else head :: s.chain (Tbl.get 0 s.buf.link head) (n + 1)

/-- The first `len` bytes of a frame's reachable cells. -/
def State.frameBytes (s : State) (head cnt len : Nat) : List Byte :=
  ((s.chain head cnt).flatMap (fun c => memRead s.buf.bytes (256 * c) 256)).take len

/-- Writes bytes into a frame's cells from byte `off` of the frame. -/
def State.writeCells (s : State) (cells : List Nat) : Nat → List Byte → State
  | _, [] => s
  | off, b :: r =>
    match cells[off / 256]? with
    | none => s
    | some c =>
      State.writeCells { s with buf := { s.buf with bytes := Tbl.set 0#8 s.buf.bytes (256 * c + off % 256) b } }
        cells (off + 1) r

/-- Links a newly taken cell behind the last one of a frame. -/
def State.linkCells (s : State) (cells : List Nat) (c : Nat) : State :=
  match cells.getLast? with
  | none => { s with buf := { s.buf with refs := Tbl.set 0 s.buf.refs c 1 } }
  | some l => { s with buf := { s.buf with link := Tbl.set 0 s.buf.link l c } }

/-- Takes cells until the frame has `n` of them (R292: at most 36). -/
def State.growCells (s : State) (slice : Nat) (cells : List Nat) : Nat → List Nat × State
  | 0 => (cells, s)
  | n + 1 =>
    let x := s.takeCell slice
    let t := x.2.linkCells cells x.1
    t.growCells slice (cells ++ [x.1]) n

/-- Drops a frame's frame-table and link marks once its cells are gone. -/
def State.forget (s : State) (head : Nat) (cells : List Nat) : State :=
  { s with buf := { s.buf with
    refs := Tbl.set 0 s.buf.refs head 0
    badFrame := Tbl.set false s.buf.badFrame head false
    badLink := Tbl.drop s.buf.badLink (fun k => cells.contains k) } }

/-- An uncorrectable buffer error is reported (R294, R387). -/
def State.bufReport (s : State) (kind addr : Nat) : State :=
  (s.sendFault srcBuf kind 1 addr).setFld Reg.BUF_STATUS Fld.BUF_STATUS_CELL_UE_SEEN 1

/-- The same, with its counter. -/
def State.bufFault (s : State) (kind addr cnt : Nat) : State := (s.bufReport kind addr).bump (Reg.BUF_CNT cnt)

/-- The frame-table entry of a frame fails as it is read (R294): FRAME_TABLE_UE with the head cell as address. -/
def State.frameTableFail (s : State) (head : Nat) : State :=
  let t := s.bufReport 0x028 head
  { t with buf := { t.buf with badFrame := Tbl.set false t.buf.badFrame head true } }

/-- A change of a frame's reference count reads its frame-table entry, and finds its error (R293, R294). -/
def State.readFrameEntry (s : State) (head : Nat) : State :=
  if Tbl.get false s.buf.frameUe head then
    let s := { s with buf := { s.buf with frameUe := Tbl.set false s.buf.frameUe head false } }
    if Tbl.get false s.buf.badFrame head then s else s.frameTableFail head
  else s

/-- The frame-table entries of these frames have uncorrectable errors from now on. -/
def State.upset (s : State) (heads : List Nat) : State :=
  { s with buf := { s.buf with frameUe := forEach heads (fun c m => Tbl.set false m c true) s.buf.frameUe } }

/-- Releases one reference to a frame (R293): at zero its cells are freed, or withdrawn after a frame-table error (R294). -/
def State.release (s : State) (head cnt : Nat) : State :=
  let s := s.readFrameEntry head
  let n := Tbl.get 0 s.buf.refs head
  let bad := Tbl.get false s.buf.badFrame head
  let cells := s.chain head cnt
  if bad then
    let t := if s.buf.use.any (fun e => cells.contains e.1 && e.2 != .withdrawn) then s.withdrawCells cells else s
    if n ≤ 1 then t.forget head cells
    else { t with buf := { t.buf with refs := Tbl.set 0 t.buf.refs head (n - 1) } }
  else if n ≤ 1 then (s.freeCells cells).forget head cells
  else { s with buf := { s.buf with refs := Tbl.set 0 s.buf.refs head (n - 1) } }

/-- Adds references to a frame (R308). -/
def State.addRefs (s : State) (head n : Nat) : State :=
  let s := s.readFrameEntry head
  { s with buf := { s.buf with refs := Tbl.set 0 s.buf.refs head ((Tbl.get 0 s.buf.refs head + n) % 1024) } }

/-- The frame's cells are queued from now on (R291). -/
def State.markQueued (s : State) (head cnt : Nat) : State :=
  forEach (s.chain head cnt) (fun c t =>
    if Tbl.get CellUse.free t.buf.use c = .inFlight then t.setUse c .queued else t) s

/-- The link-table entry of a frame's `i`-th cell fails (R294): the cells beyond it are withdrawn. -/
def State.linkFail (s : State) (head cnt i : Nat) : State :=
  let cells := s.chain head cnt
  match cells[i]? with
  | none => s
  | some c =>
    let t := s.withdrawCells (cells.drop (i + 1))
    let t := { t with buf := { t.buf with badLink := Tbl.set false t.buf.badLink c true } }
    t.bufFault 0x027 c Cnt.BUF_LINK_UE

/-- What reading a frame's cells for a copy yields (R294): the cells read whole, whether the copy is cut, and the state
with its counters and messages; CELL_UE counts for a transmission (`tx`). -/
def State.readEcc (s : State) (head cnt : Nat) (e : CellEcc) (tx : Bool) : Nat × Bool × State :=
  match e with
  | .ok => (cnt, false, s)
  | .corrected n => (cnt, false, s.bumpBy (Reg.BUF_CNT Cnt.BUF_CELL_CORRECTED) n)
  | .cellUe i =>
    match (s.chain head cnt)[i]? with
    | none => (cnt, false, s)
    | some c => (i, true, if tx then s.bufFault 0x026 c Cnt.BUF_CELL_UE else s.bufReport 0x026 c)
  | .linkUe i => if i + 1 < cnt then (i + 1, true, s.linkFail head cnt i) else (cnt, false, s)

/-- CELL_CACHE_REFILL (R292): a slice's cache takes cells from the device's free list until it holds 64. -/
def cellCacheRefill (slice : Nat) (s : State) : State :=
  let have_ := s.cellCount (fun u => u == .cached slice)
  let free := s.cellFree - s.cellCount (fun u => match u with | .cached _ => true | _ => false)
  forUpTo (min (64 - have_) free) (fun _ t => t.setUse (firstUnlisted t.buf.use 0) (.cached slice)) s

def execCellCacheRefill (i : Fin 16) (s : State) : Out := done s (cellCacheRefill i.val s)

end Sys2Proof.Machine
end

