-- ==== Sys2Proof/Machine/Ports.lean ====
section
/-! DEFINITION. The MACs' receive side, flow control and links (R37 to R51, R61), and the cell check (R292). -/

namespace Sys2Proof.Machine

/-! ### Reading a frame -/

/-- The EtherType after the addresses. -/
def etherType (b : List Byte) : Nat := beNat (bytesAt b 12 2)

/-- A MAC control frame (R48), as far as its bytes have arrived. -/
def isMacControl (b : List Byte) : Bool := decide (14 ≤ b.length) && etherType b == 0x8808

/-- FIFO entries that `n` bytes of a frame occupy (R45). -/
def entriesOf (n : Nat) : Nat := (n + 63) / 64

/-- FIFO entries that the bytes received of a frame have needed; MAC control frames are consumed by the MAC (R48). -/
def entriesNeeded (b : List Byte) : Nat := if isMacControl b then 0 else entriesOf b.length

/-- The ingress class of R47: by the outer 802.1Q tag's PCP, else DEFAULT_CLASS. -/
def State.ingressClass (s : State) (p : Nat) (b : List Byte) : Nat :=
  let a := Reg.PRT_FC_CTL (p / 2) (p % 2)
  if decide (16 ≤ b.length) && (etherType b == 0x8100 || etherType b == 0x88A8) then
    (s.fld a Fld.PRT_FC_CTL_PCP_MAP >>> (3 * (beNat (bytesAt b 14 2) / 8192))) % 8
  else s.fld a Fld.PRT_FC_CTL_DEFAULT_CLASS

/-! ### Flow control sent (R46, R47) -/

/-- FIFO occupancy of a logical port, in entries. -/
def State.occupancy (s : State) (p : Nat) : Nat := ((s.port p).fifo.map (fun f => f.entries)).sum

/-- FIFO occupancy of one ingress class, by the class that each frame was assigned (R47). -/
def State.occupancyOf (s : State) (p c : Nat) : Nat :=
  (((s.port p).fifo.filter (fun f => f.cls == c)).map (fun f => f.entries)).sum

/-- The priorities that the port pauses: all eight while the total is beyond XOFF, else those of the class counts (R47). -/
def PortSt.pausedMask (x : PortSt) (pfc : Bool) : Nat :=
  if x.xoff then (if pfc then 0xFF else 1) else if pfc then x.xoffCls else 0

/-- A threshold with hysteresis: set at XOFF, cleared below XON. -/
def hysteresis (was : Bool) (occ xoff xon : Nat) : Bool :=
  if xoff ≤ occ then true else if occ < xon then false else was

/-- Changes of the classes' XOFF marks with the class counts. -/
def State.clsXoff (s : State) (p : Nat) : Nat :=
  let n := p / 2
  let h := p % 2
  ((List.range 8).map (fun c =>
    bit (hysteresis ((s.port p).xoffCls.testBit c) (s.occupancyOf p c)
      (s.fld (Reg.PRT_PFC_THR n h c) Fld.PRT_PFC_THR_XOFF) (s.fld (Reg.PRT_PFC_THR n h c) Fld.PRT_PFC_THR_XON)) <<< c)).sum

/-- The crossings of XOFF and XON after a change of occupancy (XOFF_CROSSED, XON_CROSSED): each asks for a flow-control frame,
behind those that still wait. Under PFC a total that reaches FC_THR.XOFF asks for one that covers all eight classes, whatever
the class counts pause already (R46). -/
def State.fcUpdate (s : State) (p : Nat) : State :=
  let x := s.port p
  let n := p / 2
  let h := p % 2
  let pol := s.fld (Reg.PRT_FC_CTL n h) Fld.PRT_FC_CTL_POLICY
  let pfc := pol == 2
  let xoff := hysteresis x.xoff (s.occupancy p) (s.fld (Reg.PRT_FC_THR n h) Fld.PRT_FC_THR_XOFF)
    (s.fld (Reg.PRT_FC_THR n h) Fld.PRT_FC_THR_XON)
  let y := { x with xoff := xoff, xoffCls := s.clsXoff p }
  let cover := if pfc ∧ xoff = true ∧ x.xoff = false then 0xFF else x.pausedMask pfc ^^^ y.pausedMask pfc
  if (pol = 1 ∨ pol = 2) ∧ cover ≠ 0 then
    s.setPort p { y with fcPend := x.fcPend ++ [{ pfc := pfc, cover := cover, pause := y.pausedMask pfc }] }
  else s.setPort p y

/-- The bytes of a flow-control frame (R46): destination 01-80-C2-00-00-01, EtherType 0x8808. -/
def State.fcBytes (s : State) (p : Nat) (f : FcFrame) : List Byte :=
  let n := p / 2
  let h := p % 2
  let q := s.fld (Reg.PRT_PAUSE_CFG n h) Fld.PRT_PAUSE_CFG_QUANTA
  let head := beBytes 6 0x0180C2000001 ++ beBytes 6 (s.fld (Reg.PRT_PAUSE_SA n h) Fld.PRT_PAUSE_SA_SA) ++ beBytes 2 0x8808
  let body :=
    if f.pfc then
      beBytes 2 0x0101 ++ beBytes 2 f.cover
        ++ (List.range 8).flatMap (fun c => beBytes 2 (if f.pause.testBit c then q else 0))
    else beBytes 2 0x0001 ++ beBytes 2 (if f.pause = 0 then 0 else q)
  let frame := bytesAt (head ++ body) 0 60
  frame ++ fcsOf frame

/-- The oldest waiting flow-control frame goes out at a frame boundary of the transmitter (R46). -/
def sendFlowControl (p : Nat) (s : State) : State :=
  let x := s.port p
  match x.fcPend with
  | [] => s
  | f :: r =>
    if x.tx.isSome ∨ !s.portEnabled p ∨ !s.linkUp p then s
    else
      let t := s.setPort p { x with fcPend := r, fcLast := s.clk.mono, wire := s.fcBytes p f }
      if f.pfc then
        forEach ((List.range 8).filter (fun c => f.cover.testBit c)) (fun c t => t.bump (cntPort p (Cnt.PRT_TX_PFC + c))) t
      else t.bump (cntPort p Cnt.PRT_TX_PAUSE)

/-- PAUSE_REFRESH (R46): REFRESH quanta after the last one, while occupancy stays at or above XON, the frame repeats. -/
def pauseRefresh (p : Nat) (s : State) : State :=
  let x := s.port p
  let pol := s.fld (Reg.PRT_FC_CTL (p / 2) (p % 2)) Fld.PRT_FC_CTL_POLICY
  let m := x.pausedMask (pol == 2)
  let gap := bitTicks (512 * s.fld (Reg.PRT_PAUSE_CFG (p / 2) (p % 2)) Fld.PRT_PAUSE_CFG_REFRESH) (s.rate p)
  if (pol = 1 ∨ pol = 2) ∧ m ≠ 0 ∧ x.fcPend = [] ∧ gap ≤ s.clk.mono - x.fcLast then
    s.setPort p { x with fcPend := [{ pfc := pol == 2, cover := m, pause := m }] }
  else s

/-! ### Flow control received (R48) -/

/-- A received count for one stop: 0 ends it at once, another waits out its own response time behind those received before it. -/
def State.takeQuanta (s : State) (p i q : Nat) : State :=
  let x := s.port p
  let st := Tbl.get Stop.init x.stops i
  let st' : Stop := if q = 0 then Stop.init
    else { st with next := st.next ++ [(q, s.clk.mono + bitTicks 1024 (s.rate p))] }
  s.setPort p { x with stops := Tbl.set Stop.init x.stops i st' }

/-- A good MAC control frame is consumed, counted and, where RX_HONOUR is 1, obeyed (R48). -/
def State.macControl (s : State) (p : Nat) (b : List Byte) : State :=
  let a := Reg.PRT_FC_CTL (p / 2) (p % 2)
  let obey := s.flag a Fld.PRT_FC_CTL_RX_HONOUR
  let op := beNat (bytesAt b 14 2)
  if op = 0x0001 then
    let t := s.bump (cntPort p Cnt.PRT_RX_PAUSE)
    if obey then t.takeQuanta p 8 (beNat (bytesAt b 16 2)) else t
  else if op = 0x0101 then
    let vec := beNat (bytesAt b 16 2)
    let en := s.fld a Fld.PRT_FC_CTL_PFC_RX_EN
    forEach ((List.range 8).filter (fun c => vec.testBit c)) (fun c t =>
      let t := t.bump (cntPort p (Cnt.PRT_RX_PFC + c))
      if obey ∧ en.testBit c then t.takeQuanta p c (beNat (bytesAt b (18 + 2 * c) 2)) else t) s
  else s.bump (cntPort p Cnt.PRT_RX_MAC_CTRL_OTHER)

/-- PAUSE_STOP_START (R48): a count begins, at a frame boundary for a new stop, and replaces the one that runs. -/
def pauseStopStart (p i : Nat) (s : State) : State :=
  let x := s.port p
  let st := Tbl.get Stop.init x.stops i
  match st.next with
  | [] => s
  | (q, m) :: r =>
    if m ≤ s.clk.mono ∧ (st.on = true ∨ x.tx = none) then
      let st' : Stop := { on := true, until_ := s.clk.mono + bitTicks (512 * q) (s.rate p), next := r }
      s.setPort p { x with stops := Tbl.set Stop.init x.stops i st' }
    else s

/-- PAUSE_STOP_END (R48): a stop whose count has run out ends, unless a later count is about to replace it. -/
def pauseStopEnd (p i : Nat) (s : State) : State :=
  let x := s.port p
  let st := Tbl.get Stop.init x.stops i
  if st.on ∧ st.next = [] ∧ st.until_ ≤ s.clk.mono then
    s.setPort p { x with stops := Tbl.set Stop.init x.stops i Stop.init }
  else s

/-- The transmitter, or class c of it, is stopped by received flow control. -/
def State.stoppedCls (s : State) (p c : Nat) : Bool :=
  (Tbl.get Stop.init (s.port p).stops 8).on || (Tbl.get Stop.init (s.port p).stops c).on

/-! ### Receiving (R26, R43, R292) -/

/-- Changes the frame at the tail of a port's FIFO. -/
def State.modTail (s : State) (p : Nat) (f : IngFrame → IngFrame) : State :=
  let x := s.port p
  match x.fifo.getLast? with
  | none => s
  | some y => s.setPort p { x with fifo := x.fifo.dropLast ++ [f y] }

/-- Removes the frame at the tail of a port's FIFO: its entries and its cells are freed (R26, R293). -/
def State.dropTail (s : State) (p : Nat) : State :=
  let x := s.port p
  match x.fifo.getLast? with
  | none => s
  | some y =>
    let t := (s.setPort p { x with fifo := x.fifo.dropLast }).freeEntry (lnkIngress p) y.entries
    match y.cells with
    | none => t
    | some cs => (t.freeCells cs).forget (cs.headD 0) cs

/-- The bytes of a frame that has begun to leave the FIFO go on into cells, at most 36 of them (R292). -/
def State.fillCells (s : State) (p : Nat) (cells : List Nat) (old bytes : List Byte) : List Nat × State :=
  let want := min 36 ((bytes.length + 255) / 256)
  let x := s.growCells (sliceOf p) cells (want - cells.length)
  (x.1, x.2.writeCells x.1 old.length ((bytes.take 9216).drop old.length))

/-- The frame at the tail of a port's FIFO was refused for want of cells (R292). -/
def State.tailRefused (s : State) (p : Nat) : Bool :=
  match (s.port p).fifo.getLast? with | none => true | some f => f.refused

/-- The ingress class that a frame keeps: assigned with its tag's bytes, before the frame enters the FIFO (R47). -/
def State.keepClass (s : State) (p : Nat) (old : Nat) (seen : Nat) (bytes : List Byte) : Nat :=
  if seen < 16 then s.ingressClass p bytes else old

/-- The bytes received since the last chunk reach the FIFO: entry by entry, and on into cells where the frame is started. A frame
already refused and counted in ING_NO_CELL is counted nowhere else (R26). -/
def State.rxBytes (s : State) (p : Nat) (r : RxNow) (bytes : List Byte) : State :=
  let k := lnkIngress p
  let need := entriesNeeded bytes - entriesNeeded r.bytes
  if s.credit k < need then
    let t := s.dropTail p
    let t := if s.tailRefused p then t else t.bump (cntPort p Cnt.PRT_RX_FIFO_DISCARD)
    t.setPort p { t.port p with rx := some { r with bytes := bytes, fifoFull := true, inFifo := false } }
  else
    let t := s.useCredit k need
    let back := entriesNeeded r.bytes - entriesNeeded bytes
    match (t.port p).fifo.getLast? with
    | none => t
    | some f =>
      match f.cells with
      | some cs =>
        let y := t.fillCells p cs r.bytes bytes
        let t := y.2.modTail p (fun f => { f with bytes := bytes, cells := some y.1, cls := t.keepClass p f.cls r.bytes.length bytes })
        (t.freeEntry k need).setPort p { (t.freeEntry k need).port p with rx := some { r with bytes := bytes } }
      | none =>
        let keep := if f.refused then 0 else f.entries + need - back
        let t := t.modTail p (fun f => { f with bytes := bytes, entries := keep, cls := s.keepClass p f.cls r.bytes.length bytes })
        let t := t.freeEntry k (f.entries + need - keep)
        t.setPort p { t.port p with rx := some { r with bytes := bytes } }

/-- A frame begins: it is time-stamped (R50, R51) and enters the FIFO. -/
def State.rxBegin (s : State) (p : Nat) (delay : Nat) : State :=
  let adj := signed 24 (s.fld (Reg.PRT_TS_ADJ (p / 2) (p % 2)) Fld.PRT_TS_ADJ_RX_ADJ)
  let t : Int := (s.clk.fine : Int) - (rxLatency (s.rate p) : Int) * 4294967296 - (delay : Int) + adj * 16777216
  let x := s.port p
  s.setPort p { x with
    rx := some { bytes := [], phyErr := false, fifoFull := false, inFifo := true }
    fifo := x.fifo ++ [{ bytes := [], ended := false, stamp := stampOf t s.clk.mono delay, entries := 0, cls := 0,
                         cells := none, refused := false, parsed := none }] }

/-- The first check of R43 that a frame fails, as its counter; `none` for a good frame. -/
def State.rxError (s : State) (p : Nat) (r : RxNow) : Option Nat :=
  if r.phyErr then some Cnt.PRT_RX_PHY_ERR
  else if r.bytes.length < 64 then some Cnt.PRT_RX_RUNT
  else if s.fld (Reg.PRT_MTU (p / 2) (p % 2)) Fld.PRT_MTU_MAX_FRAME < r.bytes.length then some Cnt.PRT_RX_OVERSIZE
  else if !fcsOk r.bytes then some Cnt.PRT_RX_FCS_ERR
  else none

/-- The frame in reception has ended (R43): discarded and counted once, consumed as MAC control, or kept for the slice. -/
def State.rxEnd (s : State) (p : Nat) : State :=
  match (s.port p).rx with
  | none => s
  | some r =>
    let s := s.setPort p { s.port p with rx := none }
    if r.fifoFull then s
    else
      let refused := s.tailRefused p
      match s.rxError p r with
      | some c => if refused then s.dropTail p else (s.dropTail p).bump (cntPort p c)
      | none =>
        let s := (s.bump (cntPort p Cnt.PRT_RX_FRAMES_OK)).bumpBy (cntPort p Cnt.PRT_RX_OCTETS_OK) r.bytes.length
        if isMacControl r.bytes then (s.dropTail p).macControl p r.bytes
        else if refused then s.dropTail p
        else s.modTail p (fun f => { f with ended := true })

/-- The port accepts a new frame (R39, R393, R400). -/
def State.rxAccepts (s : State) (p : Nat) : Bool :=
  s.portEnabled p && s.linkUp p && !s.down (unitSlice (sliceOf p))

/-- RX_FRAME (R43): a stretch of a frame's bytes reaches the MAC of port p. -/
def rxFrame (p : Nat) (bytes : List Byte) (last : Bool) (phy : PhyReport) (s : State) : State :=
  let s :=
    if phy.corrected = 0 ∧ phy.uncorrected = 0 ∧ phy.symbols = 0 then s
    else
      ((s.bumpBy (cntPort p Cnt.PRT_FEC_CW_CORRECTED) phy.corrected).bumpBy
        (cntPort p Cnt.PRT_FEC_CW_UNCORRECTED) phy.uncorrected).bumpBy
        (cntPort p Cnt.PRT_FEC_SYMBOLS_CORRECTED) phy.symbols
  let go := (s.port p).rx.isSome || s.rxAccepts p
  if !go then s
  else
    let s := if (s.port p).rx.isSome then s else s.rxBegin p phy.delay
    match (s.port p).rx with
    | none => s
    | some r =>
      let r := { r with phyErr := r.phyErr || phy.pcsErr || decide (0 < phy.uncorrected) }
      let s := if r.fifoFull then s.setPort p { s.port p with rx := some { r with bytes := r.bytes ++ bytes } }
               else s.rxBytes p r (r.bytes ++ bytes)
      let s := s.fcUpdate p
      if last then (s.rxEnd p).fcUpdate p else s

/-- The transmitter of the macro feeds its own receiver (PRT.CTL.LOOPBACK). -/
def State.looped (s : State) (p : Nat) : Bool :=
  let m := s.fld (Reg.PRT_CTL (p / 2)) Fld.PRT_CTL_LOOPBACK
  m == 1 || m == 2

/-- A frame that has left the transmitter is received by the same port in loopback. -/
def State.loopBack (s : State) (p : Nat) (bytes : List Byte) : State :=
  if s.looped p then rxFrame p bytes true { delay := 0, corrected := 0, uncorrected := 0, symbols := 0, pcsErr := false } s else s

/-- RX_FRAME from the link partner: in loopback the receiver does not hear it. -/
def rxFromLink (p : Nat) (bytes : List Byte) (last : Bool) (phy : PhyReport) (s : State) : State :=
  if s.looped p then s else rxFrame p bytes last phy s

/-- FLOW_CONTROL_FRAME_SEND (R46), received back in loopback. -/
def flowControlFrameSend (p : Nat) (s : State) : State :=
  let t := sendFlowControl p s
  if (t.port p).fcPend.length < (s.port p).fcPend.length then t.loopBack p (t.port p).wire else t

/-- Frames of a port that the slice holds beyond the FIFO: started in cells, or past their end and not yet sent. -/
def PortSt.beyond (x : PortSt) : Nat := (x.fifo.filter (fun f => f.cells.isSome)).length + x.out.length

/-- The frames of a FIFO before the first one that has not been checked for cells, that frame, and those behind it. -/
def splitUnchecked (l : List IngFrame) : List IngFrame × List IngFrame :=
  (l.takeWhile (fun f => f.cells.isSome || f.refused), l.dropWhile (fun f => f.cells.isSome || f.refused))

/-- CELL_CHECK (R292): as a frame's first byte leaves the FIFO it is started in cells, or refused. The slice holds six frames of
a port beyond the FIFO, one for each parse lane (R66), so that a stall of the slice fills the FIFO (R25; DESIGN CHOICE,
assumption log 3). -/
def cellCheck (p : Nat) (s : State) : State :=
  let x := s.port p
  let l := splitUnchecked x.fifo
  match l.2 with
  | [] => s
  | f :: r =>
    if f.bytes = [] ∨ isMacControl f.bytes ∨ 6 ≤ x.beyond then s
    else if s.fld Reg.BUF_CFG Fld.BUF_CFG_ING_GUARD ≤ s.cellFree then
      let y := s.fillCells p [] [] f.bytes
      let t := y.2.setPort p { y.2.port p with fifo := l.1 ++ { f with cells := some y.1, entries := 0 } :: r }
      (t.freeEntry (lnkIngress p) f.entries).fcUpdate p
    else
      let t := ((s.bump (Reg.BUF_ING_NO_CELL p)).bump (Reg.BUF_CNT Cnt.BUF_ING_NO_CELL)).setFld
        Reg.BUF_STATUS Fld.BUF_STATUS_ING_NO_CELL_SEEN 1
      let t := t.setPort p { x with fifo := l.1 ++ (if f.ended then r else { f with refused := true, entries := 0 } :: r) }
      (t.freeEntry (lnkIngress p) f.entries).fcUpdate p

/-! ### Links (R40, R42, R44) -/

def fldLink (h : Nat) : Fld := if h = 0 then Fld.PRT_STATUS_LINK0 else Fld.PRT_STATUS_LINK1
def fldLinkChg (h : Nat) : Fld := if h = 0 then Fld.PRT_STATUS_LINK_CHG0 else Fld.PRT_STATUS_LINK_CHG1
def fldFecLock (h : Nat) : Fld := if h = 0 then Fld.PRT_STATUS_FEC_LOCK0 else Fld.PRT_STATUS_FEC_LOCK1
def fldLfault (h : Nat) : Fld := if h = 0 then Fld.PRT_STATUS_LFAULT0 else Fld.PRT_STATUS_LFAULT1
def fldRfault (h : Nat) : Fld := if h = 0 then Fld.PRT_STATUS_RFAULT0 else Fld.PRT_STATUS_RFAULT1

/-- Sets a bit of PRT.STATUS. -/
def State.setStatus (s : State) (p : Nat) (f : Fld) (x : Nat) : State := s.setFld (Reg.PRT_STATUS (p / 2)) f x

/-- The fault that the reconciliation sublayer of a port sees (R44): FEC lock, LFAULT and RFAULT, and remote-fault signalling
to the partner while it is a local one (IEEE 802.3, which R44 names; DESIGN CHOICE, assumption log 79). -/
def State.noteFault (s : State) (p : Nat) (remote : Bool) : State :=
  let h := p % 2
  let s := ((s.setStatus p (fldFecLock h) (bit remote)).setStatus p (fldLfault h) (bit !remote)).setStatus p (fldRfault h) (bit remote)
  s.setPort p { s.port p with remoteFault := !remote }

/-- A link that is up goes down (R44): LINK_CHG, LINK_DOWN_EVENTS; the frame being received is cut off, the one being transmitted
goes on to the PCS. -/
def State.dropLink (s : State) (p : Nat) : State :=
  if !s.linkUp p then s
  else
    let h := p % 2
    let s := (s.setStatus p (fldLink h) 0).setStatus p (fldLinkChg h) 1
    let s := s.bump (cntPort p Cnt.PRT_LINK_DOWN_EVENTS)
    let s :=
      match (s.port p).rx with
      | none => s
      | some r =>
        let refused := s.tailRefused p
        let t := s.setPort p { s.port p with rx := none }
        if r.fifoFull then t
        else if refused then t.dropTail p
        else (t.dropTail p).bump (cntPort p Cnt.PRT_RX_PHY_ERR)
    let x := s.port p
    (s.setPort p { x with tx := x.tx.map (fun t => { t with linkDown := true }) }).fcUpdate p

/-- LINK_DOWN (R44): a fault on a logical port's link, `remote` for one that the partner signals, else a local one. A fault on a link that
is down already changes which fault shows. -/
def linkDown (p : Nat) (remote : Bool) (s : State) : State := (s.dropLink p).noteFault p remote

/-- LINK_UP (R44): a link comes up where its mode works and, with AN_EN, auto-negotiation has completed (R42). The ENABLE bit is not
asked, and AN_DONE and LT_DONE stand over a link down and a MODE change (DESIGN CHOICE: the spec states neither; assumption
log 79). -/
def linkUp (p : Nat) (s : State) : State :=
  let n := p / 2
  let h := p % 2
  let anOk := !s.flag (Reg.PRT_CTL n) Fld.PRT_CTL_AN_EN || s.flag (Reg.PRT_STATUS n) Fld.PRT_STATUS_AN_DONE
  if s.linkUp p ∨ s.rate p = 0 ∨ !s.modeOk n ∨ !anOk then s
  else
    let s := s.setStatus p (fldLink h) 1
    let s := s.setStatus p (fldLinkChg h) 1
    let s := s.setStatus p (fldFecLock h) 1
    let s := (s.setStatus p (fldLfault h) 0).setStatus p (fldRfault h) 0
    s.setPort p { s.port p with remoteFault := false }

/-- AUTO_NEGOTIATION (R42): the partner accepts the configured mode, or not. -/
def autoNegotiation (n : Nat) (accepted : Bool) (s : State) : State :=
  if !s.flag (Reg.PRT_CTL n) Fld.PRT_CTL_AN_EN then s
  else if accepted then s.setFld (Reg.PRT_STATUS n) Fld.PRT_STATUS_AN_DONE 1
  else (s.setFld (Reg.PRT_STATUS n) Fld.PRT_STATUS_AN_DONE 0).setFld (Reg.PRT_STATUS n) Fld.PRT_STATUS_AN_FAIL 1

/-- LINK_TRAINING (R40): with LT_EN, training completes on all lanes in use, or not. -/
def linkTraining (n : Nat) (complete : Bool) (s : State) : State :=
  if s.flag (Reg.PRT_CTL n) Fld.PRT_CTL_LT_EN then s.setFld (Reg.PRT_STATUS n) Fld.PRT_STATUS_LT_DONE (bit complete)
  else s

/-! ### Modes and enables (R38, R39) -/

/-- The unicast queues of half h of a macro in a mode, local to the macro (R297). -/
def queuesOfHalf (m h : Nat) : List Nat :=
  if m = 0 ∨ m = 2 ∨ m = 5 then (if h = 0 then List.range 8 else [])
  else if m = 1 ∨ m = 3 ∨ m = 4 then (List.range 4).map (fun i => 4 * h + i)
  else []

/-- The multicast queues of half h in a mode (R297). -/
def mcQueuesOfHalf (m h : Nat) : List Nat :=
  if m = 0 ∨ m = 2 ∨ m = 5 then (if h = 0 then [0, 1] else [])
  else if m = 1 ∨ m = 3 ∨ m = 4 then [h]
  else []

/-- Local queue indices u of half h of macro n in a mode. -/
def localQueues (n m h : Nat) : List Nat :=
  (queuesOfHalf m h).map (fun k => 8 * (n % 64) + k) ++ (mcQueuesOfHalf m h).map (fun k => 512 + 2 * (n % 64) + k)

/-- The RATE of a queue's shaper, 0 where it is disabled. -/
def State.queueRate (s : State) (q u : Nat) : Nat :=
  if s.flag (Reg.TMG_QSHAPE_RATE q u) Fld.TMG_QSHAPE_RATE_EN then s.fld (Reg.TMG_QSHAPE_RATE q u) Fld.TMG_QSHAPE_RATE_RATE
  else 0

/-- Every queue index of a macro, unicast and multicast. -/
def macroQueues (n : Nat) : List Nat :=
  (List.range 8).map (fun k => 8 * (n % 64) + k) ++ [512 + 2 * (n % 64), 512 + 2 * (n % 64) + 1]

/-- The rule of R320 for half h of macro n under mode m: the enabled queue rates fit the line rate and the port shaper. -/
def State.halfFits (s : State) (n m h : Nat) : Bool :=
  let q := n / 64
  let sum := ((localQueues n m h).map (s.queueRate q)).sum
  let lp := (2 * n + h) % 128
  decide (sum ≤ 1000000 * modeRate m h)
    && (!s.flag (Reg.TMG_PSHAPE_RATE q lp) Fld.TMG_PSHAPE_RATE_EN
        || decide (sum ≤ s.fld (Reg.TMG_PSHAPE_RATE q lp) Fld.TMG_PSHAPE_RATE_RATE))

/-- Queues of macro n that belong to no logical port under mode m have no enabled shaper (R320). -/
def State.straysOff (s : State) (n m : Nat) : Bool :=
  ((macroQueues n).filter (fun u => !(localQueues n m 0).contains u && !(localQueues n m 1).contains u)).all
    (fun u => !s.flag (Reg.TMG_QSHAPE_RATE (n / 64) u) Fld.TMG_QSHAPE_RATE_EN)

/-- The rule of R320 for macro n under mode m. -/
def State.shapersFit (s : State) (n m : Nat) : Bool := s.halfFits n m 0 && s.halfFits n m 1 && s.straysOff n m

/-- Both ENABLE bits of macro n are 0. -/
def State.bothDisabled (s : State) (n : Nat) : Bool := !s.enableBit (2 * n) && !s.enableBit (2 * n + 1)

/-- Both macros of a pair stay down (R38): MODE_ERR shows in each, and no link of theirs is up. -/
def State.modeError (s : State) (n : Nat) : State :=
  let m := pairOf n
  let s : State := forEach [2 * n, 2 * n + 1, 2 * m, 2 * m + 1] (fun p t => t.dropLink p) s
  (s.setFld (Reg.PRT_STATUS n) Fld.PRT_STATUS_MODE_ERR 1).setFld (Reg.PRT_STATUS m) Fld.PRT_STATUS_MODE_ERR 1

/-- Egress places of a logical port for each class: 32 in 800GbE mode, else 16 (R318). -/
def egressPlaces (m : Nat) : Nat := if m = 5 then 32 else 16

/-- The Egress links of macro n hold the places of its mode (R318): a link in use gains or loses the difference. -/
def State.resizeEgress (s : State) (n old new : Nat) : State :=
  forEach ((List.range 16).map (fun k => lnkEgress (2 * n + k / 8) (k % 8))) (fun k t =>
    let l := t.link k
    if l.stage = .up then t.setLink k { l with credit := l.credit + egressPlaces new - egressPlaces old } else t) s

/-- `n` places of the egress FIFO of class c of port p are freed (R22); places beyond the depth of the port's mode are gone. -/
def State.freeEgress (s : State) (p c n : Nat) : State :=
  let l := s.link (lnkEgress p c)
  let used := l.credit + (Tbl.get [] (s.port p).egr c).length
  s.setLink (lnkEgress p c) { l with owed := min (l.owed + n) (egressPlaces (s.mode (p / 2)) - used) }

/-- MODE_WRITE (R38, R39, R318, R320, R324). -/
def modeWrite (n m : Nat) (s : State) : State :=
  let partnerOk := if m = 5 ∨ m = 6 then s.bothDisabled (pairOf n) else true
  if !s.bothDisabled n ∨ !partnerOk ∨ !s.shapersFit n m then s.setFld (Reg.PRT_STATUS n) Fld.PRT_STATUS_CFG_ERR 1
  else
    let changed := s.mode n != m
    let t := (s.setFld (Reg.PRT_CTL n) Fld.PRT_CTL_MODE m).resizeEgress n (s.mode n) m
    let t := (t.gateDisable (2 * n)).gateDisable (2 * n + 1)
    let t := if changed then (t.stopLink (lnkIngress (2 * n))).stopLink (lnkIngress (2 * n + 1)) else t
    if t.modeOk n then t else t.modeError n

/-- PORT_DISABLE (R39): the ENABLE bit falls; the frames in progress end by their own steps. -/
def portDisable (p : Nat) (s : State) : State := s.setFld (Reg.PRT_CTL (p / 2)) (fldEnable (p % 2)) 0

/-- PORT_ENABLE (R39). -/
def portEnable (p : Nat) (s : State) : State := s.setFld (Reg.PRT_CTL (p / 2)) (fldEnable (p % 2)) 1

/-! ### Transmit time-stamps (R61) -/

/-- TXTS_POP: a pop of an empty FIFO has no effect. -/
def txtsPop (p : Nat) (s : State) : State := s.setPort p { s.port p with txts := (s.port p).txts.drop 1 }

/-- TXTS_FLUSH. -/
def txtsFlush (p : Nat) (s : State) : State := s.setPort p { s.port p with txts := [] }

/-- A capture enters the FIFO of 64 entries, or is dropped and counted (R61). -/
def State.txtsPush (s : State) (p : Nat) (e : TxTs) : State :=
  let x := s.port p
  if x.txts.length < 64 then s.setPort p { x with txts := x.txts ++ [e] }
  else (s.bump (cntPort p Cnt.PRT_TXTS_OVERFLOW)).setFld (Reg.PRT_TXTS_CTL (p / 2) (p % 2)) Fld.PRT_TXTS_CTL_OVF 1

def execModeWrite (n : Fin 256) (m : Fin 8) (s : State) : Out := done s (modeWrite n.val m.val s)
def execPortDisable (p : Fin 512) (s : State) : Out := done s (portDisable p.val s)
def execPortEnable (p : Fin 512) (s : State) : Out := done s (portEnable p.val s)
def execTxtsPop (p : Fin 512) (s : State) : Out := done s (txtsPop p.val s)
def execTxtsFlush (p : Fin 512) (s : State) : Out := done s (txtsFlush p.val s)
def execAutoNegotiation (n : Fin 256) (accepted : Bool) (s : State) : Out := done s (autoNegotiation n.val accepted s)
def execLinkTraining (n : Fin 256) (complete : Bool) (s : State) : Out := done s (linkTraining n.val complete s)
def execLinkDown (p : Fin 512) (remote : Bool) (s : State) : Out := done s (linkDown p.val remote s)
def execLinkUp (p : Fin 512) (s : State) : Out := done s (linkUp p.val s)
def execRxFrame (p : Fin 512) (bytes : List Byte) (last : Bool) (phy : PhyReport) (s : State) : Out :=
  done s (rxFromLink p.val bytes last phy s)
def execFlowControlFrameSend (p : Fin 512) (s : State) : Out := done s (flowControlFrameSend p.val s)
def execPauseRefresh (p : Fin 512) (s : State) : Out := done s (pauseRefresh p.val s)
def execPauseStopStart (p : Fin 512) (i : Fin 9) (s : State) : Out := done s (pauseStopStart p.val i.val s)
def execPauseStopEnd (p : Fin 512) (i : Fin 9) (s : State) : Out := done s (pauseStopEnd p.val i.val s)
def execCellCheck (p : Fin 512) (s : State) : Out := done s (cellCheck p.val s)

end Sys2Proof.Machine
end

