-- ==== Sys2Proof/Machine/Parse.lean ====
section
/-! DEFINITION. The parser (R66 to R75): headers, key layer, parse summary, flow class and canonical flow key. -/

namespace Sys2Proof.Machine

/-! ### Fields of the parse summary (R70) -/

def sumFrameLen : Fld := ⟨0, 14⟩
def sumInPort : Fld := ⟨14, 9⟩
def sumInClass : Fld := ⟨23, 3⟩
def sumColour : Fld := ⟨26, 2⟩
def sumVlanCnt : Fld := ⟨28, 2⟩
def sumOuterVid : Fld := ⟨30, 12⟩
def sumOuterPcp : Fld := ⟨42, 3⟩
def sumL3Off : Fld := ⟨45, 8⟩
def sumL3Type : Fld := ⟨53, 3⟩
def sumL4Off : Fld := ⟨56, 8⟩
def sumL4Type : Fld := ⟨64, 4⟩
def sumTunType : Fld := ⟨68, 3⟩
def sumInL3Off : Fld := ⟨71, 8⟩
def sumInL4Off : Fld := ⟨79, 8⟩
def sumKeyInner : Fld := ⟨87, 1⟩
def sumFrag : Fld := ⟨88, 1⟩
def sumFragFirst : Fld := ⟨89, 1⟩
def sumIpOpt : Fld := ⟨90, 1⟩
def sumPath : Fld := ⟨91, 1⟩
def sumMalformed : Fld := ⟨92, 1⟩
def sumDeep : Fld := ⟨93, 1⟩
def sumFlowClass : Fld := ⟨94, 6⟩
def sumMplsCnt : Fld := ⟨100, 4⟩
def sumZone : Fld := ⟨104, 16⟩
def sumKeySwap : Fld := ⟨120, 1⟩

/-- A field of a parse summary. -/
def sumGet (w : BitVec 128) (f : Fld) : Nat := (w.toNat >>> f.lo) % 2 ^ f.len

/-- A parse summary with a field replaced. -/
def sumPut (w : BitVec 128) (f : Fld) (x : Nat) : BitVec 128 :=
  (w &&& ~~~ BitVec.ofNat 128 ((2 ^ f.len - 1) <<< f.lo)) ||| BitVec.ofNat 128 ((x % 2 ^ f.len) <<< f.lo)

/-! ### Headers -/

/-- Byte `i` of a header vector; 0 beyond it. -/
def vecByte (v : List Byte) (i : Nat) : Nat := (v.getD i 0#8).toNat

/-- Two bytes in network order. -/
def vec16 (v : List Byte) (i : Nat) : Nat := vecByte v i * 256 + vecByte v (i + 1)

/-- The one's-complement sum of `n` 16-bit words from offset `i`, folded. -/
def onesSum (v : List Byte) (i : Nat) : Nat → Nat
  | 0 => 0
  | n + 1 =>
    let x := vec16 v i + onesSum v (i + 2) n
    x % 65536 + x / 65536

/-- What is known of an IP header (R68). -/
structure IpInfo where
  off : Nat
  v6 : Bool
  l4off : Nat
  proto : Nat
  frag : Bool
  fragFirst : Bool
  opt : Bool
  malformed : Bool
  /-- The header, with the first 4 bytes of TCP, UDP or SCTP, lies within the 192-byte vector. -/
  fits : Bool
  /-- Parsing ended before the L4 header (R67: a third extension header). -/
  cut : Bool
  deriving DecidableEq, Repr

/-- The L4 type code of R70. -/
def l4Type (i : IpInfo) : Nat :=
  if i.cut then 0
  else if i.proto = 6 then 1 else if i.proto = 17 then 2 else if i.proto = 1 then 3
  else if i.proto = 58 then 4 else if i.proto = 132 then 5 else 6

/-- The L4 ports' bytes lie within the vector, where the protocol has ports and the packet carries its L4 header: a fragment that is
not the first carries none, so none is asked of it (DESIGN CHOICE: R68 does not say; assumption log 80). -/
def l4Fits (frag first : Bool) (proto off : Nat) : Bool :=
  if (proto = 6 ∨ proto = 17 ∨ proto = 132) ∧ (frag = false ∨ first = true) then decide (off + 4 ≤ 192) else true

/-- An IPv4 header at an offset; `len` is the frame's length with FCS. -/
def parseIp4 (v : List Byte) (len off : Nat) : IpInfo :=
  let ihl := vecByte v off % 16
  let bad : IpInfo := { off := off, v6 := false, l4off := 0, proto := 0, frag := false, fragFirst := false, opt := false,
                        malformed := true, fits := true, cut := false }
  if 192 < off + 20 then { bad with malformed := false, fits := false }
  else if vecByte v off / 16 ≠ 4 ∨ ihl < 5 then bad
  else if 192 < off + 4 * ihl then { bad with malformed := false, fits := false }
  else
    let total := vec16 v (off + 2)
    let fo := vec16 v (off + 6)
    let frag := decide (fo % 16384 ≠ 0)
    let first := frag && decide (fo % 8192 = 0)
    let proto := vecByte v (off + 9)
    let sumOk := onesSum v off (2 * ihl) == 0xFFFF
    { off := off, v6 := false, l4off := off + 4 * ihl, proto := proto, frag := frag, fragFirst := first,
      opt := decide (5 < ihl)
      malformed := !sumOk || decide (total < 4 * ihl) || decide (len < 4 + off + total)
      fits := l4Fits frag first proto (off + 4 * ihl), cut := false }

/-- An IPv6 extension header that the parser passes (R67). -/
def isExt (nh : Nat) : Bool := nh == 0 || nh == 43 || nh == 44 || nh == 60

/-- The extension chain of an IPv6 header, at most two headers: next header, L4 offset, fragment, first, fits, cut. Behind a
Fragment header the chain goes on by its Next Header whatever the offset, though a later fragment holds payload there (DESIGN
CHOICE: R67 does not say; assumption log 80). -/
def extChain (v : List Byte) : Nat → Nat → Nat → Bool → Bool → Nat × Nat × Bool × Bool × Bool × Bool
  | 0, nh, x, fr, fi => (nh, x, fr, fi, true, isExt nh)
  | k + 1, nh, x, fr, fi =>
    if !isExt nh then (nh, x, fr, fi, true, false)
    else if 192 < x + 8 then (nh, x, fr, fi, false, false)
    else if nh = 44 then
      let fo := vec16 v (x + 2)
      let fr' := decide (fo / 8 ≠ 0) || decide (fo % 2 = 1)
      extChain v k (vecByte v x) (x + 8) fr' (fr' && decide (fo / 8 = 0))
    else extChain v k (vecByte v x) (x + 8 * (vecByte v (x + 1) + 1)) fr fi

/-- An IPv6 header at an offset. -/
def parseIp6 (v : List Byte) (len off : Nat) : IpInfo :=
  let bad : IpInfo := { off := off, v6 := true, l4off := 0, proto := 0, frag := false, fragFirst := false, opt := false,
                        malformed := true, fits := true, cut := false }
  if 192 < off + 40 then { bad with malformed := false, fits := false }
  else if vecByte v off / 16 ≠ 6 then bad
  else
    let nh := vecByte v (off + 6)
    let e := extChain v 2 nh (off + 40) false false
    { off := off, v6 := true, l4off := e.2.1, proto := e.1, frag := e.2.2.1, fragFirst := e.2.2.2.1, opt := isExt nh
      malformed := decide (len < 4 + off + 40 + vec16 v (off + 4))
      fits := e.2.2.2.2.1 && decide (e.2.1 ≤ 192) && l4Fits e.2.2.1 e.2.2.2.1 e.1 e.2.1
      cut := e.2.2.2.2.2 }

/-- The IP header that an EtherType announces. -/
def ipByType (v : List Byte) (len ty off : Nat) : Option IpInfo :=
  if ty = 0x0800 then some (parseIp4 v len off) else if ty = 0x86DD then some (parseIp6 v len off) else none

/-- The IP header below an MPLS stack or in a tunnel, by its first nibble. -/
def ipByNibble (v : List Byte) (len off : Nat) : Option IpInfo :=
  if 192 ≤ off then none
  else if vecByte v off / 16 = 4 then some (parseIp4 v len off)
  else if vecByte v off / 16 = 6 then some (parseIp6 v len off) else none

/-- An MPLS stack: labels seen and the offset below the bottom label; `none` where a fifth label would follow. -/
def mplsStack (v : List Byte) : Nat → Nat → Nat → Nat × Option Nat
  | 0, n, _ => (n, none)
  | k + 1, n, off =>
    if vecByte v (off + 2) % 2 = 1 then (n + 1, some (off + 4)) else mplsStack v k (n + 1) (off + 4)

/-- Layer 2: tags, MPLS labels, and the outer IP header. -/
structure L2Info where
  vlanCnt : Nat
  tci : Nat
  mplsCnt : Nat
  ip : Option IpInfo
  deriving DecidableEq, Repr

/-- The Ethernet, VLAN and MPLS layers (R67). -/
def parseL2 (v : List Byte) (len : Nat) : L2Info :=
  let t1 := vec16 v 12
  let tag1 := t1 == 0x88A8 || t1 == 0x8100
  let t2 := if tag1 then vec16 v 16 else t1
  let tag2 := tag1 && t2 == 0x8100
  let t := if tag2 then vec16 v 20 else t2
  let off := if tag2 then 22 else if tag1 then 18 else 14
  let cnt := if tag2 then 2 else if tag1 then 1 else 0
  let tci := if tag1 then vec16 v 14 else 0
  if t < 0x0600 then { vlanCnt := cnt, tci := tci, mplsCnt := 0, ip := none }
  else if t = 0x8847 ∨ t = 0x8848 then
    let m := mplsStack v 4 0 off
    { vlanCnt := cnt, tci := tci, mplsCnt := m.1
      ip := match m.2 with | none => none | some x => ipByNibble v len x }
  else { vlanCnt := cnt, tci := tci, mplsCnt := 0, ip := ipByType v len t off }

/-- The inner IP header below an inner Ethernet header with at most one tag. -/
def innerEth (v : List Byte) (len off : Nat) : Option IpInfo :=
  let t1 := vec16 v (off + 12)
  if t1 = 0x8100 ∨ t1 = 0x88A8 then ipByType v len (vec16 v (off + 16)) (off + 18)
  else ipByType v len t1 (off + 14)

/-- A tunnel: its TUN_TYPE, the field that ZONE_SRC 0b10 takes where it has one, its inner IP header. -/
structure TunInfo where
  ty : Nat
  vni : Option Nat
  inner : Option IpInfo
  deriving DecidableEq, Repr

def noTunnel : TunInfo := { ty := 0, vni := none, inner := none }

/-- The tunnel above an outer IP layer that is whole, sound and no fragment (R67). GENEVE's payload is taken as Ethernet, whatever
protocol type it names (DESIGN CHOICE: R67 asks for no test; assumption log 80). -/
def parseTunnel (v : List Byte) (len : Nat) (o : IpInfo) : TunInfo :=
  let x := o.l4off
  if o.malformed ∨ !o.fits ∨ o.frag ∨ o.cut then noTunnel
  else if o.proto = 17 ∧ vec16 v (x + 2) = 4789 ∧ x + 16 ≤ 192 then
    { ty := 1, vni := some (vec16 v (x + 12) * 256 + vecByte v (x + 14)), inner := innerEth v len (x + 16) }
  else if o.proto = 17 ∧ vec16 v (x + 2) = 6081 ∧ x + 16 ≤ 192 then
    { ty := 2, vni := some (vec16 v (x + 12) * 256 + vecByte v (x + 14))
      inner := innerEth v len (x + 16 + 4 * (vecByte v (x + 8) % 64)) }
  else if o.proto = 47 ∧ x + 4 ≤ 192 ∧ vecByte v (x + 1) % 8 = 0 ∧ !(vecByte v x).testBit 6
      ∧ (vec16 v (x + 2) = 0x0800 ∨ vec16 v (x + 2) = 0x86DD ∨ vec16 v (x + 2) = 0x6558) then
    let c := (vecByte v x).testBit 7
    let k := (vecByte v x).testBit 5
    let q := (vecByte v x).testBit 4
    let h := 4 + 4 * bit c + 4 * bit k + 4 * bit q
    let ko := x + 4 + 4 * bit c
    { ty := 3
      vni := if k then some (vec16 v ko * 65536 + vec16 v (ko + 2)) else none
      inner := if vec16 v (x + 2) = 0x6558 then innerEth v len (x + h) else ipByType v len (vec16 v (x + 2)) (x + h) }
  else if o.proto = 4 then { ty := 4, vni := none, inner := if x + 20 ≤ 192 then some (parseIp4 v len x) else none }
  else if o.proto = 41 then { ty := 4, vni := none, inner := if x + 40 ≤ 192 then some (parseIp6 v len x) else none }
  else noTunnel

/-! ### Flow key (R72 to R74) -/

/-- Source and destination port of the key (R72). An ICMP identifier that lies beyond byte 191 of the vector counts as 0 (DESIGN
CHOICE: R72 does not say; assumption log 80). -/
def keyPorts (v : List Byte) (i : IpInfo) : Nat × Nat :=
  if i.frag ∨ i.cut then (0, 0)
  else if i.proto = 6 ∨ i.proto = 17 ∨ i.proto = 132 then (vec16 v i.l4off, vec16 v (i.l4off + 2))
  else if i.proto = 1 ∧ !i.v6 ∧ (vecByte v i.l4off = 8 ∨ vecByte v i.l4off = 0) ∧ i.l4off + 6 ≤ 192 then
    (vec16 v (i.l4off + 4), 0)
  else if i.proto = 58 ∧ i.v6 ∧ (vecByte v i.l4off = 128 ∨ vecByte v i.l4off = 129) ∧ i.l4off + 6 ≤ 192 then
    (vec16 v (i.l4off + 4), 0)
  else (0, 0)

/-- The source and destination addresses of an IP header, as bytes. -/
def keyAddrs (v : List Byte) (i : IpInfo) : List Byte × List Byte :=
  if i.v6 then (bytesAt v (i.off + 8) 16, bytesAt v (i.off + 24) 16)
  else (bytesAt v (i.off + 12) 4, bytesAt v (i.off + 16) 4)

/-- The canonical key (R74) of a key layer, its two pairs exchanged where `swap`. -/
def canonKey (v : List Byte) (i : IpInfo) (zone : Nat) (swap : Bool) : List Byte :=
  let a := keyAddrs v i
  let p := keyPorts v i
  let head := [BitVec.ofNat 8 (if i.v6 then 6 else 4), BitVec.ofNat 8 i.proto] ++ beBytes 2 zone
  if swap then head ++ beBytes 2 p.2 ++ beBytes 2 p.1 ++ a.2 ++ a.1
  else head ++ beBytes 2 p.1 ++ beBytes 2 p.2 ++ a.1 ++ a.2

/-- The source pair is greater than the destination pair, addresses first (R73). -/
def srcGreater (v : List Byte) (i : IpInfo) : Bool :=
  let a := keyAddrs v i
  let p := keyPorts v i
  decide (beNat a.2 < beNat a.1) || (beNat a.1 == beNat a.2 && decide (p.2 < p.1))

/-- Index of the CLASS_MAP entry of a key layer (R71). -/
def classIndex (i : IpInfo) : Nat :=
  let t := l4Type i
  (if i.v6 then 4 else 0) + (if t = 1 then 0 else if t = 2 then 1 else if t = 3 ∨ t = 4 then 2 else 3)

/-! ### The parse result -/

/-- The field of CLASS_MAP for index j. -/
def fldClass (j : Nat) : Fld := ⟨6 * j, 6⟩

/-- The registers that a lane reads for a frame of logical port p with this ingress class. -/
def State.parseCfg (s : State) (p inClass : Nat) : ParseCfg :=
  let sl := sliceOf p
  { pcfg := s.reg (Reg.SLC_PCFG sl (p % 32))
    classMap := s.reg (Reg.SLC_CLASS_MAP sl (p % 32))
    sym := ((List.range 64).map (fun k => bit (s.flag (Reg.SLC_FCLASS sl k) Fld.SLC_FCLASS_SYM) <<< k)).sum
    inClass := inClass }

/-- The parse of a frame of logical port p (R66 to R75) with these registers under generation `gen`; colour is added by metering.
The L4_OFF and L4_TYPE of a malformed or DEEP frame, which R70 does not state, are the low 8 bits of the offset reached and 0
(DESIGN CHOICE, assumption log 80). -/
def parseWith (r : ParseCfg) (p : Nat) (b : List Byte) (gen : Nat) : Parsed :=
  let v := bytesAt b 0 192
  let len := b.length
  let l2 := parseL2 v len
  let outer := l2.ip
  let malformed := match outer with | none => false | some o => o.malformed
  let deep := match outer with | none => false | some o => !o.malformed && !o.fits
  let tun := match outer with | none => noTunnel | some o => parseTunnel v len o
  let useInner :=
    match tun.inner with
    | none => false
    | some i => r.pcfg.get Fld.SLC_PCFG_KEY_INNER == 1 && !i.malformed && i.fits
  let key : Option IpInfo := if useInner then tun.inner else if malformed || deep then none else outer
  let vid0 := l2.tci % 4096
  let vid := if l2.vlanCnt = 0 ∨ vid0 = 0 ∨ vid0 = 0xFFF then r.pcfg.get Fld.SLC_PCFG_DEFAULT_VID else vid0
  let zoneSrc := r.pcfg.get Fld.SLC_PCFG_ZONE_SRC
  let zone :=
    if zoneSrc = 1 then vid
    else if zoneSrc = 2 then (match tun.vni with | none => r.pcfg.get Fld.SLC_PCFG_ZONE | some x => x % 65536)
    else r.pcfg.get Fld.SLC_PCFG_ZONE
  let perpkt := key.isNone || r.pcfg.get Fld.SLC_PCFG_BYPASS == 1
  let cls :=
    match key with
    | none => 0
    | some i => if perpkt then 0 else r.classMap.get (fldClass (classIndex i))
  let swap :=
    match key with
    | none => false
    | some i => !perpkt && r.sym.testBit cls && srcGreater v i
  let o : IpInfo := outer.getD { off := 0, v6 := false, l4off := 0, proto := 0, frag := false, fragFirst := false,
                                 opt := false, malformed := false, fits := false, cut := true }
  let kf := match key with | none => false | some i => i.frag
  let kff := match key with | none => false | some i => i.fragFirst
  let kopt := match key with | none => false | some i => i.opt
  let inOff := match tun.inner with | none => 0 | some i => i.off
  let inL4 := match tun.inner with | none => 0 | some i => i.l4off
  let w := sumPut 0 sumFrameLen len
  let w := sumPut w sumInPort p
  let w := sumPut w sumInClass r.inClass
  let w := sumPut w sumVlanCnt l2.vlanCnt
  let w := sumPut w sumOuterVid vid
  let w := sumPut w sumOuterPcp (l2.tci / 8192)
  let w := sumPut w sumL3Off o.off
  let w := sumPut w sumL3Type (if outer.isNone then 0 else if o.v6 then 2 else 1)
  let w := sumPut w sumL4Off o.l4off
  let w := sumPut w sumL4Type (if outer.isNone || malformed || deep then 0 else l4Type o)
  let w := sumPut w sumTunType tun.ty
  let w := sumPut w sumInL3Off inOff
  let w := sumPut w sumInL4Off inL4
  let w := sumPut w sumKeyInner (bit useInner)
  let w := sumPut w sumFrag (bit kf)
  let w := sumPut w sumFragFirst (bit kff)
  let w := sumPut w sumIpOpt (bit kopt)
  let w := sumPut w sumPath (bit perpkt)
  let w := sumPut w sumMalformed (bit malformed)
  let w := sumPut w sumDeep (bit deep)
  let w := sumPut w sumFlowClass cls
  let w := sumPut w sumMplsCnt l2.mplsCnt
  let w := sumPut w sumZone zone
  let w := sumPut w sumKeySwap (bit swap)
  { cfg := r, hv := v, summary := w, gen := gen, key := match key with | none => [] | some i => canonKey v i zone swap }

/-- The parse of a frame of logical port p by the registers as they stand. -/
def State.parse (s : State) (p : Nat) (b : List Byte) (gen inClass : Nat) : Parsed := parseWith (s.parseCfg p inClass) p b gen

/-- The key layer of a parse, found again from the header vector and the summary (as the FAE header unit does, R187). -/
def keyLayer (hv : List Byte) (w : BitVec 128) : Option IpInfo :=
  let len := sumGet w sumFrameLen
  if sumGet w sumKeyInner = 1 then
    match (parseL2 hv len).ip with
    | none => none
    | some o => (parseTunnel hv len o).inner
  else if sumGet w sumMalformed = 1 ∨ sumGet w sumDeep = 1 then none
  else (parseL2 hv len).ip

/-- The lane takes the first frame of a port that it has not parsed: it is parsed once 192 bytes of it, or all, have left the FIFO. -/
def parseFirst (parse : IngFrame → Parsed) : List IngFrame → List IngFrame
  | [] => []
  | f :: r =>
    if f.refused then f :: parseFirst parse r
    else
      match f.parsed with
      | some _ => f :: parseFirst parse r
      | none => if f.cells = none ∨ (f.ended = false ∧ f.bytes.length < 192) then f :: r else { f with parsed := some (parse f) } :: r

/-- PARSE_FRAME (R66, R88): the first unparsed frame of the port is parsed, and stamped with the generation current now. The
registers are those of this moment; what rests on the frame's length is settled at its end. -/
def parseFrame (p : Nat) (s : State) : State :=
  let x := s.port p
  let gen := s.fld (Reg.SLC_GEN (sliceOf p)) Fld.SLC_GEN_CUR
  s.setPort p { x with fifo := parseFirst (fun f => s.parse p f.bytes gen f.cls) x.fifo }

def execParseFrame (p : Fin 512) (s : State) : Out := done s (parseFrame p.val s)

end Sys2Proof.Machine
end

