-- ==== Sys2Proof/Machine/Tumbler.lean ====
section
/-! DEFINITION. The Tumbler arrays (R91 to R112): entries, searches, the commands of TMB.ENT_CMD with the block move,
generations, digests and retirement. -/

namespace Sys2Proof.Machine

/-! ### Tables and entries -/

/-- TMB.TABLE_CFG of table t of quadrant q. -/
def tmbCfg (q t : Nat) : Nat := Reg.TMB_TABLE_CFG q t

def State.tmbTableOk (s : State) (q t : Nat) : Bool := s.flag (tmbCfg q t) Fld.TMB_TABLE_CFG_VALID

/-- Units of an entry of the table (R91). -/
def State.tmbWidth (s : State) (q t : Nat) : Nat := 2 ^ (min 2 (s.fld (tmbCfg q t) Fld.TMB_TABLE_CFG_WIDTH))

def State.tmbKind (s : State) (q t : Nat) : Nat := s.fld (tmbCfg q t) Fld.TMB_TABLE_CFG_KIND

/-- The table's first physical index and the index after its last row (R91, R92). -/
def State.tmbRange (s : State) (q t : Nat) : Nat × Nat :=
  (4096 * s.fld (tmbCfg q t) Fld.TMB_TABLE_CFG_FIRST_BANK, 4096 * (s.fld (tmbCfg q t) Fld.TMB_TABLE_CFG_LAST_BANK + 1))

/-- Key of an entry in the state. -/
def tmbKey (q i : Nat) : Nat := 262144 * q + i

def State.ent (s : State) (q i : Nat) : TmbEntry := Tbl.get TmbEntry.init s.tmb.ents (tmbKey q i)

def State.setEnt (s : State) (q i : Nat) (e : TmbEntry) : State :=
  { s with tmb := { s.tmb with ents := Tbl.set TmbEntry.init s.tmb.ents (tmbKey q i) e } }

/-- The listed entries of a table, physical index and entry, rising; a table that is not defined (VALID 0, R92) has none, whatever
its bank fields hold. -/
def State.tmbEntries (s : State) (q t : Nat) : List (Nat × TmbEntry) :=
  let r := s.tmbRange q t
  if !s.tmbTableOk q t then []
  else (s.tmb.ents.filter (fun x => decide (tmbKey q r.1 ≤ x.1) && decide (x.1 < tmbKey q r.2))).map
    (fun x => (x.1 - tmbKey q 0, x.2))

def State.tmbBump (s : State) (q i : Nat) : State := s.bump (Reg.TMB_CNT q i)

/-- Free entries of a table (R109): GEN_MASK zero; none of a table that is not defined. -/
def State.tmbFree (s : State) (q t : Nat) : Nat :=
  let r := s.tmbRange q t
  if !s.tmbTableOk q t then 0
  else (r.2 - r.1) / s.tmbWidth q t - ((s.tmbEntries q t).filter (fun x => x.2.gens != 0)).length

/-! ### Generation slots (R104) -/

def State.genState (s : State) (i : Nat) : Nat := s.fld (Reg.TMB_GEN_SLOT 0 i) Fld.TMB_GEN_SLOT_STATE
def State.genOf (s : State) (i : Nat) : Nat := s.fld (Reg.TMB_GEN_SLOT 0 i) Fld.TMB_GEN_SLOT_GEN
def State.genCur (s : State) : Nat := s.fld (Reg.TMB_GEN_STATUS 0) Fld.TMB_GEN_STATUS_CUR
def State.genCurSlot (s : State) : Nat := s.fld (Reg.TMB_GEN_STATUS 0) Fld.TMB_GEN_STATUS_CUR_SLOT
def State.genPend (s : State) : Nat := s.fld (Reg.TMB_GEN_STATUS 0) Fld.TMB_GEN_STATUS_PEND
def State.genPendSlot (s : State) : Nat := s.fld (Reg.TMB_GEN_STATUS 0) Fld.TMB_GEN_STATUS_PEND_SLOT
def State.genPending (s : State) : Bool := s.flag (Reg.TMB_GEN_STATUS 0) Fld.TMB_GEN_STATUS_PEND_VALID

/-- A generation is pending and open to changes (R105: not once ABORT has been written). -/
def State.genOpen (s : State) : Bool :=
  s.genPending && s.tmb.run != .abortWait && s.tmb.run != .sweeping

/-- Writes the same slot value into all four arrays (R104). -/
def State.setGenSlot (s : State) (i gen st : Nat) : State :=
  forUpTo 4 (fun q t =>
    (t.setFld (Reg.TMB_GEN_SLOT q i) Fld.TMB_GEN_SLOT_GEN gen).setFld (Reg.TMB_GEN_SLOT q i) Fld.TMB_GEN_SLOT_STATE st) s

/-- Writes a field of GEN_STATUS in all four arrays. -/
def State.setGenStatus (s : State) (f : Fld) (x : Nat) : State :=
  forUpTo 4 (fun q t => t.setFld (Reg.TMB_GEN_STATUS q) f x) s

/-- The slot under which a frame of generation `gen` searches: current or draining (R97). -/
def State.slotOf (s : State) (gen : Nat) : Option Nat :=
  (List.range 4).find? (fun i => s.genOf i == gen && (s.genState i == 1 || s.genState i == 2))

/-- The generation is live in the sense of R18: current or draining. -/
def State.genLive (s : State) (gen : Nat) : Bool := (s.slotOf gen).isSome

/-- The slot of the pending generation, or of the current one while none is pending (R106). -/
def State.genView (s : State) : Nat := if s.genPending then s.genPendSlot else s.genCurSlot

/-- Adds to the drain count that slice i keeps for a generation (R89). -/
def State.drainAdd (s : State) (i gen n : Nat) : State :=
  match (List.range 4).find? (fun k => s.flag (Reg.SLC_GEN_DRAIN i k) Fld.SLC_GEN_DRAIN_LIVE
      && s.fld (Reg.SLC_GEN_DRAIN i k) Fld.SLC_GEN_DRAIN_GEN == gen) with
  | none => s
  | some k => s.setFld (Reg.SLC_GEN_DRAIN i k) Fld.SLC_GEN_DRAIN_COUNT (s.fld (Reg.SLC_GEN_DRAIN i k) Fld.SLC_GEN_DRAIN_COUNT + n)

/-- Takes one from the drain count that slice i keeps for a generation. -/
def State.drainSub (s : State) (i gen : Nat) : State :=
  match (List.range 4).find? (fun k => s.flag (Reg.SLC_GEN_DRAIN i k) Fld.SLC_GEN_DRAIN_LIVE
      && s.fld (Reg.SLC_GEN_DRAIN i k) Fld.SLC_GEN_DRAIN_GEN == gen) with
  | none => s
  | some k => s.setFld (Reg.SLC_GEN_DRAIN i k) Fld.SLC_GEN_DRAIN_COUNT (s.fld (Reg.SLC_GEN_DRAIN i k) Fld.SLC_GEN_DRAIN_COUNT - 1)

/-- The aging drain count of shard h for a generation goes up or down by one (R149). -/
def State.ageDrain (s : State) (h gen : Nat) (up : Bool) : State :=
  match (List.range 4).find? (fun k => s.flag (Reg.SCH_AGE_DRAIN h k) Fld.SCH_AGE_DRAIN_LIVE
      && s.fld (Reg.SCH_AGE_DRAIN h k) Fld.SCH_AGE_DRAIN_GEN == gen) with
  | none => s
  | some k =>
    let n := s.fld (Reg.SCH_AGE_DRAIN h k) Fld.SCH_AGE_DRAIN_COUNT
    s.setFld (Reg.SCH_AGE_DRAIN h k) Fld.SCH_AGE_DRAIN_COUNT (if up then n + 1 else n - 1)

/-- The drain count of a slot (R104): slices and shards together. -/
def State.drainCount (s : State) (slot : Nat) : Nat :=
  ((List.range 16).map (fun i =>
    s.fld (Reg.SLC_GEN_DRAIN i slot) Fld.SLC_GEN_DRAIN_COUNT + s.fld (Reg.SCH_AGE_DRAIN i slot) Fld.SCH_AGE_DRAIN_COUNT)).sum

/-! ### Search (R97 to R101) -/

/-- The entry matches the key in generation slot `slot` (R97). -/
def TmbEntry.matches (e : TmbEntry) (slot : Nat) (key : BitVec 320) : Bool :=
  e.valid && !e.disabled && e.gens.getLsbD slot && ((e.key ^^^ key) &&& e.mask) == 0

/-- The winning entry of a table for a key under a generation: the lowest physical index; entries of `hide` are passed over. -/
def State.tmbWinner (s : State) (q t : Nat) (key : BitVec 320) (gen : Nat) (hide : Nat → Bool) : Option (Nat × TmbEntry) :=
  match s.slotOf gen with
  | none => none
  | some slot => (s.tmbEntries q t).find? (fun x => !hide x.1 && x.2.matches slot key)

/-- An unverifiable entry is disabled and reported (R101). -/
def State.tmbUnverified (s : State) (q i : Nat) : State :=
  let t := s.setEnt q i { s.ent q i with disabled := true }
  ((t.tmbBump q Cnt.TMB_UNVERIFIED).setFld (Reg.TMB_STATUS q) Fld.TMB_STATUS_DISABLED_SEEN 1).detect (srcTumbler q) 0x020 1 i

/-- What the checks of R99 to R101 leave of a search's first match, and then the repeated search. -/
def State.tmbVerified (s : State) (q t : Nat) (key : BitVec 320) (gen : Nat) (c : TmbCheck) : SearchRes × State :=
  let first := s.tmbWinner q t key gen (fun _ => false)
  let finish (w : Option (Nat × TmbEntry)) (s : State) : SearchRes × State :=
    match w with
    | none => (.miss, s.tmbBump q Cnt.TMB_MISSES)
    | some x => (.hit x.1 x.2.result, s.tmbBump q Cnt.TMB_HITS)
  match c with
  | .ok => finish first s
  | .hidden i => finish (s.tmbWinner q t key gen (fun k => k == i)) s
  | .falseHit i =>
    let before := match first with | none => true | some x => decide (i < x.1)
    if before then finish first ((s.tmbBump q Cnt.TMB_FALSE_HIT).detect (srcTumbler q) 0x003 0 i) else finish first s
  | .resultCorrected => finish first (if first.isSome then s.tmbBump q Cnt.TMB_RESULT_CORRECTED else s)
  | .unverifiable =>
    match first with
    | none => finish none s
    | some x =>
      let s := s.tmbUnverified q x.1
      finish (s.tmbWinner q t key gen (fun _ => false)) s

/-- A granted search (R97, R103). -/
def State.tmbSearch (s : State) (q t : Nat) (key : BitVec 320) (gen : Nat) (c : TmbCheck) : SearchRes × State :=
  if s.down (unitTumbler q) then (.fenced, s.tmbBump q Cnt.TMB_FENCED_SEARCHES)
  else (s.tmbBump q Cnt.TMB_SEARCHES).tmbVerified q t key gen c

/-- TUMBLER_SCRUB_ROW (R102): the row at the cursor is compared with its shadow. -/
def tumblerScrubRow (q : Nat) (e : TmbScrub) (s : State) : State :=
  if !s.flag (Reg.TMB_CTL q) Fld.TMB_CTL_SCRUB_EN ∨ s.down (unitTumbler q) then s
  else
    let r := Tbl.get 0 s.tmb.scrubRow q
    let table := (List.range 16).find? (fun t =>
      s.tmbTableOk q t && decide ((s.tmbRange q t).1 ≤ r) && decide (r < (s.tmbRange q t).2))
    let w := match table with | none => 1 | some t => s.tmbWidth q t
    let s := { s with tmb := { s.tmb with scrubRow := Tbl.set 0 s.tmb.scrubRow q ((r + 1) % 262144) } }
    match e with
    | .same => s
    | .differs => s.tmbBump q Cnt.TMB_SCRUB_CORRECTED
    | .parity => s.tmbUnverified q (r / w * w)

/-! ### Digests (R106) -/

/-- The 94-byte string of an entry. -/
def digestBytes (first : Nat) (x : Nat × TmbEntry) : List Byte :=
  leBytes 4 (x.1 - first) ++ leBytes 40 x.2.key.toNat ++ leBytes 40 x.2.mask.toNat ++ leBytes 2 x.2.prio
    ++ leBytes 8 x.2.result.toNat

/-- The digest of a table. -/
def State.tmbDigest (s : State) (q t : Nat) : Word64 :=
  let slot := s.genView
  ((s.tmbEntries q t).filter (fun x => x.2.valid && x.2.gens.getLsbD slot)).foldl
    (fun acc x => acc ^^^ crc64 (digestBytes (s.tmbRange q t).1 x)) 0

/-- Every shared table has the same digest in all four arrays (R106). -/
def State.digestsAgree (s : State) : Bool :=
  (List.range 16).all (fun t =>
    let shared := (List.range 4).any (fun q => s.tmbTableOk q t && s.flag (tmbCfg q t) Fld.TMB_TABLE_CFG_SHARED)
    !shared || (List.range 4).all (fun q => s.tmbDigest q t == s.tmbDigest 0 t))

/-! ### TMB.ENT_CMD (R105, R108 to R111) -/

/-- The BUSY bit of ENT_CMD. -/
def State.tmbBusy (s : State) (q : Nat) : Bool := s.flag (Reg.TMB_ENT_CMD q) Fld.TMB_ENT_CMD_BUSY

def State.tmbErr (s : State) (q code : Nat) : State :=
  (s.setFld (Reg.TMB_ENT_CMD q) Fld.TMB_ENT_CMD_ERR 1).setFld (Reg.TMB_ENT_CMD q) Fld.TMB_ENT_CMD_ERR_CODE code

/-- The 320 bits of five registers. -/
def State.reg5 (s : State) (a : Nat → Nat) : BitVec 320 :=
  BitVec.ofNat 320 (((List.range 5).map (fun i => (s.reg (a i)).toNat * 2 ^ (64 * i))).sum)

def State.setReg5 (s : State) (a : Nat → Nat) (x : BitVec 320) : State :=
  forUpTo 5 (fun i t => t.setReg (a i) (BitVec.ofNat 64 (x.toNat / 2 ^ (64 * i)))) s

/-- A mask of the low `n` bits. -/
def lowBits (n : Nat) : BitVec 320 := BitVec.ofNat 320 (2 ^ n - 1)

/-- The entry that ENT_KEY, ENT_MASK, ENT_META and ENT_RESULT describe, key bits without mask stored as 0 (R105). -/
def State.tmbNew (s : State) (q t : Nat) : TmbEntry :=
  let m := s.reg5 (Reg.TMB_ENT_MASK q) &&& lowBits (80 * s.tmbWidth q t)
  { key := s.reg5 (Reg.TMB_ENT_KEY q) &&& m, mask := m, prio := s.fld (Reg.TMB_ENT_META q) Fld.TMB_ENT_META_PRIORITY
    gens := 0, valid := true, disabled := false, result := s.reg (Reg.TMB_ENT_RESULT q) }

/-- The length of a contiguous prefix mask of `n` bits, `none` where it is not contiguous. -/
def prefixLen (n m : Nat) : Option Nat :=
  (List.range (n + 1)).find? (fun l => m == (2 ^ l - 1) * 2 ^ (n - l))

/-- The mask is allowed for the table's kind, with its PRIORITY (R94, R98, R108). A route whose ZONE is not fully compared, which R98
forbids, is answered with the code of the mask, MASK (DESIGN CHOICE: R108 names no code for it; assumption log 80). -/
def maskOk (kind : Nat) (e : TmbEntry) : Bool :=
  let m := e.mask.toNat
  if kind = 0 then m % 2 ^ 32 == 0 && m / 2 ^ 64 == 2 ^ 16 - 1 && prefixLen 32 (m / 2 ^ 32 % 2 ^ 32) == some e.prio
  else if kind = 1 then m % 2 ^ 16 == 0 && m / 2 ^ 144 == 2 ^ 16 - 1 && prefixLen 128 (m / 2 ^ 16 % 2 ^ 128) == some e.prio
  else if kind = 2 then m % 16 == 0
  else true

/-- The result's ACTION is allowed in table t of that kind (R95). -/
def actionOk (kind t : Nat) (e : TmbEntry) : Bool :=
  let a := e.result.toNat % 4
  if kind = 0 ∨ kind = 1 then decide (a ≤ 1) else if kind = 2 then a != 3 && !(t == 2 && a == 2) else true

/-- The index lies in the table and is a multiple of its width. -/
def State.tmbIndexOk (s : State) (q t i : Nat) : Bool :=
  let r := s.tmbRange q t
  decide (r.1 ≤ i) && decide (i < r.2) && i % s.tmbWidth q t == 0

/-- The new entry's PRIORITY fits between its neighbours visible in the pending generation (R98, R108). -/
def State.orderOk (s : State) (q t p : Nat) (e : TmbEntry) : Bool :=
  let seen := (s.tmbEntries q t).filter (fun x => x.2.valid && x.2.gens.getLsbD s.genPendSlot)
  let before := (seen.filter (fun x => decide (x.1 < p))).getLast?
  let after := seen.find? (fun x => decide (p ≤ x.1))
  (match before with | none => true | some x => decide (e.prio ≤ x.2.prio))
    && (match after with | none => true | some x => decide (x.2.prio ≤ e.prio))

/-- An entry visible in the pending generation has the same mask and the same compared key (R105). -/
def State.duplicate (s : State) (q t : Nat) (e : TmbEntry) : Bool :=
  (s.tmbEntries q t).any (fun x => x.2.valid && x.2.gens.getLsbD s.genPendSlot && x.2.mask == e.mask && x.2.key == e.key)

/-- Where the new entry is to stand and which free location its block move starts from (R109); `none` where the table is full. -/
def State.placeFor (s : State) (q t p : Nat) : Option (Nat × Nat) :=
  let r := s.tmbRange q t
  let w := s.tmbWidth q t
  let free (i : Nat) : Bool := (s.ent q i).gens == 0
  match ((List.range ((r.2 - p) / w)).map (fun k => p + w * k)).find? free with
  | some f => some (p, f)
  | none =>
    match ((List.range ((p - r.1) / w)).map (fun k => p - w * (k + 1))).find? free with
    | some f => some (p - w, f)
    | none => none

/-- The first check of R108's list that an ENT_CMD fails, with its code; `op` 1 READ, 2 INSERT, 3 DELETE, 4 REPAIR. -/
def State.tmbCheck (s : State) (q op t i : Nat) : Option Nat :=
  let r := s.tmbRange q t
  let e := s.tmbNew q t
  let old := s.ent q i
  if s.tmbBusy q then some 1
  else if s.down (unitTumbler q) then some 11
  else if !s.tmbTableOk q t then some 8
  else if (op = 2 ∨ op = 3) ∧ !s.genOpen then some 2
  else if op = 2 ∧ !(s.tmbIndexOk q t i || i == r.2) then some 7
  else if op ≠ 2 ∧ !s.tmbIndexOk q t i then some 7
  else if op = 3 ∧ !(old.valid && old.gens.getLsbD s.genPendSlot) then some 7
  else if op = 4 ∧ !(old.valid && old.gens != 0) then some 7
  else if op = 2 ∧ !maskOk (s.tmbKind q t) e then some 9
  else if op = 2 ∧ !actionOk (s.tmbKind q t) t e then some 6
  else if op = 2 ∧ s.duplicate q t e then some 5
  else if op = 2 ∧ !s.orderOk q t i e then some 4
  else if op = 2 ∧ s.placeFor q t i = none then some 3
  else none

/-- The command's TABLE and INDEX fields are stored, unless a command runs. -/
def State.tmbFields (s : State) (q t i : Nat) : State :=
  if s.tmbBusy q then s
  else (s.setFld (Reg.TMB_ENT_CMD q) Fld.TMB_ENT_CMD_TABLE t).setFld (Reg.TMB_ENT_CMD q) Fld.TMB_ENT_CMD_INDEX i

/-- ENT_READ. -/
def entRead (q t i : Nat) (s : State) : State :=
  match s.tmbCheck q 1 t i with
  | some c => (s.tmbFields q t i).tmbErr q c
  | none =>
    let e := s.ent q i
    let s := ((s.tmbFields q t i).setReg5 (Reg.TMB_ENT_KEY q) e.key).setReg5 (Reg.TMB_ENT_MASK q) e.mask
    let s := s.setReg (Reg.TMB_ENT_RESULT q) e.result
    let a := Reg.TMB_ENT_META q
    (((s.setFld a Fld.TMB_ENT_META_PRIORITY e.prio).setFld a Fld.TMB_ENT_META_GEN_MASK e.gens.toNat).setFld a
      Fld.TMB_ENT_META_VALID (bit e.valid)).setFld a Fld.TMB_ENT_META_DISABLED (bit e.disabled)

/-- Move steps that an INSERT still has to make. -/
def TmbInsert.left (x : TmbInsert) (w : Nat) : Nat := (if x.target ≤ x.hole then x.hole - x.target else x.target - x.hole) / w

/-- Shows a running INSERT in MAINT and STATUS. -/
def State.showMove (s : State) (q left : Nat) : State :=
  (s.setFld (Reg.TMB_MAINT q) Fld.TMB_MAINT_MOVE_LEFT left).setFld (Reg.TMB_STATUS q) Fld.TMB_STATUS_MOVE_BUSY (bit (left != 0))

def State.setInsert (s : State) (q : Nat) (x : Option TmbInsert) : State :=
  { s with tmb := { s.tmb with inserts := Tbl.set none s.tmb.inserts q x } }

def State.insert (s : State) (q : Nat) : Option TmbInsert := Tbl.get none s.tmb.inserts q

/-- ENT_INSERT. -/
def entInsert (q t i : Nat) (s : State) : State :=
  match s.tmbCheck q 2 t i, s.placeFor q t i with
  | none, some (target, hole) =>
    let x : TmbInsert := { table := t, target := target, hole := hole, steps := 0, entry := s.tmbNew q t }
    (((s.tmbFields q t i).setInsert q (some x)).setFld (Reg.TMB_ENT_CMD q) Fld.TMB_ENT_CMD_BUSY 1).showMove q
      (x.left (s.tmbWidth q t))
  | some c, _ => (s.tmbFields q t i).tmbErr q c
  | none, none => (s.tmbFields q t i).tmbErr q 3

/-- A location that became free on the rest of the move's path, the nearest to the target, else the present one (R111). -/
def State.pathHole (s : State) (q w : Nat) (x : TmbInsert) : Nat :=
  let n := x.left w
  let at_ (k : Nat) : Nat := if x.target ≤ x.hole then x.target + w * k else x.target - w * k
  ((((List.range n).map at_).find? (fun i => (s.ent q i).gens == 0))).getD x.hole

/-- TMB_MOVE_STEP (R110): one entry moves into the free location; its old location is then free. -/
def tmbMoveStep (q : Nat) (s : State) : State :=
  match s.insert q with
  | none => s
  | some x =>
    let w := s.tmbWidth q x.table
    let hole := s.pathHole q w x
    if hole = x.target then (s.setInsert q (some { x with hole := hole })).showMove q 0
    else
      let from_ := if x.target ≤ hole then hole - w else hole + w
      let e := s.ent q from_
      let y := { x with hole := from_, steps := x.steps + 1 }
      let s := (s.setEnt q hole e).setEnt q from_ { e with valid := false, gens := 0 }
      (((s.setInsert q (some y)).tmbBump q Cnt.TMB_MOVE_STEPS).showMove q (y.left w)).markDumps q

/-- An INSERT runs in some array. -/
def State.anyMove (s : State) : Bool := (List.range 4).any (fun q => (s.insert q).isSome)

def State.setCommitWait (s : State) (b : Bool) : State := s.setFld (Reg.TMB_GEN_CMD 0) Fld.TMB_GEN_CMD_COMMIT_WAIT (bit b)

def State.setRun (s : State) (r : GenRun) : State := { s with tmb := { s.tmb with run := r } }

/-- The last block move has ended: a COMMIT or ABORT that waited for it waits no longer (R105). -/
def State.moveEnded (s : State) : State :=
  if s.anyMove then s
  else
    match s.tmb.run with
    | .commitWait => s.setCommitWait false
    | .abortWait => (s.setCommitWait false).setRun .sweeping
    | _ => s

/-- TMB_INSERT_WRITE (R111): the final write, after the last move step. -/
def tmbInsertWrite (q : Nat) (s : State) : State :=
  match s.insert q with
  | none => s
  | some x =>
    if x.hole ≠ x.target then s
    else
      let s := s.setEnt q x.target { x.entry with gens := BitVec.ofNat 4 (2 ^ s.genPendSlot) }
      let s := (s.setInsert q none).tmbBump q Cnt.TMB_INSERTS
      let s := if x.steps = 0 then s else s.setFld (Reg.TMB_MAINT q) Fld.TMB_MAINT_LAST_MOVE_STEPS x.steps
      ((s.setFld (Reg.TMB_ENT_CMD q) Fld.TMB_ENT_CMD_INDEX x.target).setFld (Reg.TMB_ENT_CMD q) Fld.TMB_ENT_CMD_BUSY 0).moveEnded

/-- ENT_DELETE. -/
def entDelete (q t i : Nat) (s : State) : State :=
  match s.tmbCheck q 3 t i with
  | some c => (s.tmbFields q t i).tmbErr q c
  | none =>
    let e := s.ent q i
    ((s.tmbFields q t i).setEnt q i { e with gens := e.gens &&& ~~~ BitVec.ofNat 4 (2 ^ s.genPendSlot) }).tmbBump q
      Cnt.TMB_DELETES

/-- ENT_REPAIR (R101). -/
def entRepair (q t i : Nat) (s : State) : State :=
  match s.tmbCheck q 4 t i with
  | some c => (s.tmbFields q t i).tmbErr q c
  | none => (s.tmbFields q t i).setEnt q i { s.tmbNew q t with gens := (s.ent q i).gens }

/-- A fence abandons the running ENT_CMD of an array (R103). -/
def State.tmbAbandon (s : State) (q : Nat) : State :=
  match s.insert q with
  | none => s
  | some _ => ((((s.setInsert q none).setFld (Reg.TMB_ENT_CMD q) Fld.TMB_ENT_CMD_BUSY 0).tmbErr q 11).showMove q 0).moveEnded

/-- The scrubber's cursor returns to row 0 as the array is reset (R102). -/
def State.scrubHome (s : State) (q : Nat) : State :=
  { s with tmb := { s.tmb with scrubRow := Tbl.set 0 s.tmb.scrubRow q 0 } }

/-! ### Generations (R105, R107) -/

def State.genErr (s : State) (code : Nat) : State :=
  (s.setFld (Reg.TMB_GEN_CMD 0) Fld.TMB_GEN_CMD_ERR 1).setFld (Reg.TMB_GEN_CMD 0) Fld.TMB_GEN_CMD_ERR_CODE code

def State.genBusy (s : State) : Bool := s.flag (Reg.TMB_GEN_CMD 0) Fld.TMB_GEN_CMD_BUSY

def State.setGenBusy (s : State) (b : Bool) : State := s.setFld (Reg.TMB_GEN_CMD 0) Fld.TMB_GEN_CMD_BUSY (bit b)

/-- The lowest free slot. -/
def State.freeSlot (s : State) : Option Nat := (List.range 4).find? (fun i => s.genState i == 0)

/-- Every entry of every array, changed by `f`. -/
def State.mapEnts (s : State) (f : TmbEntry → TmbEntry) : State :=
  { s with tmb := { s.tmb with ents := (s.tmb.ents.map (fun x => (x.1, f x.2))).filter (fun x => x.2 != TmbEntry.init) } }

/-- An OPEN that waits proceeds once a slot is free (R105) and no TUMBLER_REBUILD runs (R379). -/
def State.openProceed (s : State) : State :=
  if s.tmb.run = .openWait ∧ s.freeSlot.isSome = true ∧ s.rebuilding = false then
    (s.setRun .copying).setFld (Reg.TMB_GEN_CMD 0) Fld.TMB_GEN_CMD_WAIT 0
  else s

/-- GEN_CMD OPEN. -/
def openGen (s : State) : State :=
  if s.genBusy then s.genErr 1
  else if s.genPending then s.genErr 2
  else
    (((s.setGenBusy true).setRun .openWait).setFld (Reg.TMB_GEN_CMD 0) Fld.TMB_GEN_CMD_WAIT 1).openProceed

/-- OPEN_COPY_DONE: the copy ends in the last array, and the generation becomes pending. -/
def openCopyDone (s : State) : State :=
  match s.tmb.run, s.freeSlot with
  | .copying, some i =>
    let cur := s.genCurSlot
    let gen := (s.genCur + 1) % 256
    let one := BitVec.ofNat 4 (2 ^ i)
    let s := s.mapEnts (fun e => { e with gens := if e.gens.getLsbD cur then e.gens ||| one else e.gens &&& ~~~ one })
    let s := s.setGenSlot i gen 3
    let s := ((s.setGenStatus Fld.TMB_GEN_STATUS_PEND gen).setGenStatus Fld.TMB_GEN_STATUS_PEND_SLOT i).setGenStatus
      Fld.TMB_GEN_STATUS_PEND_VALID 1
    (s.setGenBusy false).setRun .idle
  | _, _ => s

/-- GEN_CMD COMMIT. -/
def commitGen (s : State) : State :=
  if s.genBusy then s.genErr 1
  else if !s.genPending then s.genErr 2
  else if s.anyMove then ((s.setGenBusy true).setCommitWait true).setRun .commitWait
  else if s.digestsAgree then (s.setGenBusy true).setRun .commitWait
  else s.genErr 10

/-- What a COMMIT does in the slices and shards (R88, R89, R142, R143, R149). -/
def State.commitBlocks (s : State) (slot gen : Nat) : State :=
  forUpTo 16 (fun i s =>
    let s := s.setFld (Reg.SLC_GEN i) Fld.SLC_GEN_CUR gen
    let a := Reg.SLC_GEN_DRAIN i slot
    let s := ((s.setFld a Fld.SLC_GEN_DRAIN_GEN gen).setFld a Fld.SLC_GEN_DRAIN_LIVE 1).setFld a Fld.SLC_GEN_DRAIN_COUNT 0
    let b := Reg.SCH_AGE_DRAIN i slot
    let s := ((s.setFld b Fld.SCH_AGE_DRAIN_GEN gen).setFld b Fld.SCH_AGE_DRAIN_LIVE 1).setFld b Fld.SCH_AGE_DRAIN_COUNT 0
    let lap := s.fld (Reg.HNK_GEN_STAMP i) Fld.HNK_GEN_STAMP_LAP
    let s := s.setFld (Reg.HNK_GEN_STAMP i) Fld.HNK_GEN_STAMP_LAP (if gen = 0 then lap + 1 else lap)
    let s := s.setFld (Reg.HNK_GEN_STAMP i) Fld.HNK_GEN_STAMP_GEN gen
    let s := s.bumpSat (Reg.HNK_SWEEP_STATUS i) Fld.HNK_SWEEP_STATUS_GEN_COMMITS
    if 16384 ≤ s.fld (Reg.HNK_SWEEP_STATUS i) Fld.HNK_SWEEP_STATUS_GEN_COMMITS then
      s.setFld (Reg.HNK_STATUS i) Fld.HNK_STATUS_GEN_WRAP_RISK 1
    else s) s

/-- COMMIT_APPLY: once no block move runs and the shared digests agree, the pending slot becomes current everywhere. -/
def commitApply (s : State) : State :=
  if s.tmb.run ≠ .commitWait ∨ s.anyMove = true then s
  else
    let s := ((s.setGenBusy false).setCommitWait false).setRun .idle
    if !s.digestsAgree then s.genErr 10
    else
      let slot := s.genPendSlot
      let gen := s.genPend
      let old := s.genCurSlot
      let s := (s.setGenSlot old (s.genOf old) 2).setGenSlot slot gen 1
      let s := ((s.setGenStatus Fld.TMB_GEN_STATUS_CUR gen).setGenStatus Fld.TMB_GEN_STATUS_CUR_SLOT slot).setGenStatus
        Fld.TMB_GEN_STATUS_PEND_VALID 0
      s.commitBlocks slot gen

/-- GEN_CMD ABORT. -/
def abortGen (s : State) : State :=
  if s.genBusy then s.genErr 1
  else if !s.genPending then s.genErr 2
  else if s.anyMove then ((s.setGenBusy true).setCommitWait true).setRun .abortWait
  else (s.setGenBusy true).setRun .sweeping

/-- ABORT_SWEEP_DONE: the sweep has ended in the last array. -/
def abortSweepDone (s : State) : State :=
  if (s.tmb.run ≠ .abortWait ∧ s.tmb.run ≠ .sweeping) ∨ s.anyMove = true then s
  else
    let slot := s.genPendSlot
    let s := s.mapEnts (fun e => { e with gens := e.gens &&& ~~~ BitVec.ofNat 4 (2 ^ slot) })
    let s := (s.setGenSlot slot (s.genOf slot) 0).setGenStatus Fld.TMB_GEN_STATUS_PEND_VALID 0
    ((s.setGenBusy false).setCommitWait false).setRun .idle

/-- Entries of an array that hold only this slot's bit. -/
def State.lastIn (s : State) (q slot : Nat) : Nat :=
  (s.tmb.ents.filter (fun x => decide (x.1 / 262144 = q) && x.2.gens == BitVec.ofNat 4 (2 ^ slot))).length

/-- GENERATION_RETIRE (R107). -/
def generationRetire (slot : Nat) (s : State) : State :=
  if s.genState slot ≠ 2 ∨ s.drainCount slot ≠ 0 ∨ s.tmb.retiring.testBit slot = true then s
  else
    let s := forUpTo 4 (fun q t => t.bumpBy (Reg.TMB_CNT q Cnt.TMB_RECLAIMED) (s.lastIn q slot)) s
    let s := s.mapEnts (fun e => { e with gens := e.gens &&& ~~~ BitVec.ofNat 4 (2 ^ slot) })
    { s with tmb := { s.tmb with retiring := s.tmb.retiring ||| 2 ^ slot } }

/-- GENERATION_RETIRE_DONE: the slot is free; an OPEN that waits proceeds. -/
def generationRetireDone (slot : Nat) (s : State) : State :=
  if !s.tmb.retiring.testBit slot then s
  else
    let s := { s with tmb := { s.tmb with retiring := s.tmb.retiring ^^^ 2 ^ slot } }
    let s := s.setGenSlot slot (s.genOf slot) 0
    let s : State := forUpTo 16 (fun i t =>
      (t.setFld (Reg.SLC_GEN_DRAIN i slot) Fld.SLC_GEN_DRAIN_LIVE 0).setFld (Reg.SCH_AGE_DRAIN i slot) Fld.SCH_AGE_DRAIN_LIVE 0) s
    s.openProceed

def execTumblerScrubRow (q : Fin 4) (e : TmbScrub) (s : State) : Out := done s (tumblerScrubRow q.val e s)
def execEntRead (q : Fin 4) (t : Fin 16) (i : Fin 262144) (s : State) : Out := done s (entRead q.val t.val i.val s)
def execEntInsert (q : Fin 4) (t : Fin 16) (i : Fin 262144) (s : State) : Out := done s (entInsert q.val t.val i.val s)
def execTmbMoveStep (q : Fin 4) (s : State) : Out := done s (tmbMoveStep q.val s)
def execTmbInsertWrite (q : Fin 4) (s : State) : Out := done s (tmbInsertWrite q.val s)
def execEntDelete (q : Fin 4) (t : Fin 16) (i : Fin 262144) (s : State) : Out := done s (entDelete q.val t.val i.val s)
def execEntRepair (q : Fin 4) (t : Fin 16) (i : Fin 262144) (s : State) : Out := done s (entRepair q.val t.val i.val s)
def execOpenGen (s : State) : Out := done s (openGen s)
def execOpenCopyDone (s : State) : Out := done s (openCopyDone s)
def execCommitGen (s : State) : Out := done s (commitGen s)
def execCommitApply (s : State) : Out := done s (commitApply s)
def execAbortGen (s : State) : Out := done s (abortGen s)
def execAbortSweepDone (s : State) : Out := done s (abortSweepDone s)
def execGenerationRetire (i : Fin 4) (s : State) : Out := done s (generationRetire i.val s)
def execGenerationRetireDone (i : Fin 4) (s : State) : Out := done s (generationRetireDone i.val s)

end Sys2Proof.Machine
end

