-- ==== Sys2Proof/Machine/Record.lean ====
section
/-! DEFINITION. Records as the store keeps them (R113 to R117): header, key, meta word, state; the time bases of R82 and
R216; the portable layout of R374; generation stamps (R142). -/

namespace Sys2Proof.Machine

/-! ### The slot header (R113) -/

def w0Seen : Fld := ⟨0, 32⟩
def w0Gen : Fld := ⟨32, 8⟩
def w0Valid : Fld := ⟨40, 1⟩
def w0Type : Fld := ⟨41, 2⟩
def w0Dirty : Fld := ⟨43, 1⟩
def w0Pending : Fld := ⟨44, 1⟩
def w0Lock : Fld := ⟨45, 1⟩
def w0Hit : Fld := ⟨46, 1⟩
def w0Aged : Fld := ⟨47, 1⟩
def w0Disp : Fld := ⟨48, 16⟩

/-! ### The meta word (R117) -/

def mtClass : Fld := ⟨0, 6⟩
def mtAge : Fld := ⟨6, 4⟩
def mtFwd : Fld := ⟨10, 1⟩
def mtSwap : Fld := ⟨11, 1⟩
def mtImported : Fld := ⟨12, 1⟩
def mtLap : Fld := ⟨16, 8⟩
def mtPref : Fld := ⟨24, 4⟩

/-- A field of word `i` of a record. -/
def recFld (w : List Word64) (i : Nat) (f : Fld) : Nat := (w.getD i 0).get f

/-- The record with a field of word `i` stored. -/
def recPut (w : List Word64) (i : Nat) (f : Fld) (x : Nat) : List Word64 := listSet w i ((w.getD i 0).put f x)

/-- The slot holds a record or the tail of one; TYPE 0b11 reads as VALID = 0. -/
def slotValid (w : List Word64) : Bool := recFld w 0 w0Valid == 1 && recFld w 0 w0Type != 3

/-- The slot starts a record. -/
def slotHead (w : List Word64) : Bool := slotValid w && recFld w 0 w0Type != 2

/-- The record is long (R116). -/
def recLong (w : List Word64) : Bool := recFld w 0 w0Type == 1

/-- Slots of a record. -/
def recSlots (long : Bool) : Nat := if long then 2 else 1

/-- The word that holds the meta word in its low half. -/
def metaAt (w : List Word64) : Nat := if recLong w then 6 else 3

def recMeta (w : List Word64) (f : Fld) : Nat := recFld w (metaAt w) f

def recPutMeta (w : List Word64) (f : Fld) (x : Nat) : List Word64 := recPut w (metaAt w) f x

/-- A key padded to 40 bytes, over which keys are compared (R116). -/
def pad40 (k : List Byte) : List Byte := bytesAt k 0 40

/-- The record's key, padded. -/
def recKey (w : List Word64) : List Byte :=
  pad40 (bytesAt (bytesOf (w.drop 1)) 0 (if recLong w then 40 else 16))

/-- The record's state bytes, 68, zero past a short record's 36. -/
def recState (w : List Word64) : List Byte :=
  let b := bytesOf w
  if recLong w then bytesAt b 52 12 ++ bytesAt b 72 56 else bytesAt b 28 36 ++ List.replicate 32 0#8

/-- The record with its state bytes stored; a short record takes the first 36. -/
def recPutState (w : List Word64) (x : List Byte) : List Word64 :=
  let b := bytesOf w
  if recLong w then
    wordsOf 16 (bytesPut (bytesPut b 52 (bytesAt x 0 12)) 72 (bytesAt x 12 56))
  else wordsOf 8 (bytesPut b 28 (bytesAt x 0 36))

/-! ### Time bases -/

/-- CT (R82): 1.024 µs units, of a MONO value. -/
def ctOf (mono : Nat) : Nat := mono * 5 / 4096 % 2 ^ 32

/-- PT (R216), of a MONO value. -/
def ptOf (mono : Nat) : Nat := mono / 1024 % 2 ^ 32

/-! ### Keys and hashes -/

/-- The key of a work item: the canonical key of R74, or that of an aging item (R149), padded. -/
def Item.key (x : Item) : List Byte :=
  if x.aging then pad40 x.hv
  else
    match keyLayer x.hv x.summary with
    | none => pad40 []
    | some i => pad40 (canonKey x.hv i (sumGet x.summary sumZone) (sumGet x.summary sumKeySwap == 1))

def Item.cls (x : Item) : Nat := sumGet x.summary sumFlowClass

/-- The hash under the device key of a key given with its padding (R74, R76): 16 bytes of an IPv4 key, 40 of an IPv6 one. -/
def State.hashKey (s : State) (key : List Byte) : Word64 :=
  sipHash (s.reg (Reg.SLC_HASH_KEY0 0)) (s.reg (Reg.SLC_HASH_KEY1 0))
    (bytesAt key 0 (if vecByte key 0 = 6 then 40 else 16))

/-- h[59:0]: what set and tag of a way give together (R122). -/
def tag60 (h : Word64) : Nat := h.toNat % 2 ^ 60

/-- The home shard of a hash (R75). -/
def homeShard (h : Word64) : Nat := h.toNat / 2 ^ 60

/-- Class k makes long records (R118). -/
def State.classLong (s : State) (h k : Nat) : Bool := s.flag (Reg.HNK_CLASS h k) Fld.HNK_CLASS_LONG

/-! ### Forwarding stamps (R142) -/

/-- The 16-bit extension of a live generation against the shard's current stamp. -/
def State.stampGen (s : State) (h gen : Nat) : Nat :=
  let cur := s.fld (Reg.HNK_GEN_STAMP h) Fld.HNK_GEN_STAMP_GEN
  let lap := s.fld (Reg.HNK_GEN_STAMP h) Fld.HNK_GEN_STAMP_LAP
  256 * (if gen ≤ cur then lap else (lap + 255) % 256) + gen % 256

/-- The stamp that a record carries. -/
def recStamp (w : List Word64) : Nat := 256 * recMeta w mtLap + recFld w 0 w0Gen

/-- A program's read reports the cached forwarding as fresh. -/
def State.fwdFresh (s : State) (h gen : Nat) (w : List Word64) : Bool :=
  recMeta w mtFwd == 1 && recStamp w == s.stampGen h gen
    && !s.flag (Reg.HNK_STATUS h) Fld.HNK_STATUS_GEN_WRAP_RISK

/-- The record's stamp is one of the live generations (R140). -/
def State.stampLive (s : State) (h : Nat) (w : List Word64) : Bool :=
  (List.range 4).any (fun i =>
    (s.genState i == 1 || s.genState i == 2) && s.stampGen h (s.genOf i) == recStamp w)

/-! ### The portable layout (R374, R419) -/

/-- Bytes 0 to 55 of a record line pair or of a mirror entry. -/
def recHead (op : Nat) (w : List Word64) (mono : Nat) : List Byte :=
  let flags := bit (recLong w) + 2 * recMeta w mtSwap + 4 * recFld w 0 w0Lock + 8 * recMeta w mtFwd
  [BitVec.ofNat 8 op, BitVec.ofNat 8 flags, BitVec.ofNat 8 (recMeta w mtClass), BitVec.ofNat 8 (recMeta w mtAge)]
    ++ leBytes 4 ((ctOf mono + 2 ^ 32 - recFld w 0 w0Seen) % 2 ^ 32) ++ leBytes 4 (ptOf mono) ++ List.replicate 4 0#8
    ++ recKey w

/-- 124 bytes completed with their CRC-32C. -/
def withCrc (b : List Byte) : List Byte := bytesAt b 0 124 ++ leBytes 4 (crc32c (bytesAt b 0 124)).toNat

/-- The two lines of a record. -/
def recLines (op : Nat) (w : List Word64) (mono : Nat) : List Byte := withCrc (recHead op w mono ++ recState w)

end Sys2Proof.Machine
end

