-- ==== Sys2Proof/Machine/Mirror.lean ====
section
/-! DEFINITION. What a shard of the primary queues for the partner device (R418, R419, R421). -/

namespace Sys2Proof.Machine

/-- The device mirrors: twin mode enabled, PRIMARY, paired without error, the partner heard on the link, the twin unit in
service (R416, R417, R424). -/
def State.mirrors (s : State) : Bool :=
  s.flag Reg.TWN_CTL Fld.TWN_CTL_EN && s.fld Reg.TWN_STATUS Fld.TWN_STATUS_ROLE == 1
    && s.fld Reg.TWN_STATUS Fld.TWN_STATUS_PAIR_ERR == 0 && !s.flag Reg.TWN_STATUS Fld.TWN_STATUS_PARTNER_LOST
    && s.flag Reg.TWN_STATUS Fld.TWN_STATUS_LINK_HB && !s.down unitTwin

def State.setSync (s : State) (x : Nat) : State := s.setFld Reg.TWN_STATUS Fld.TWN_STATUS_SYNC x

/-- The pair leaves synchronisation (R421); the message tells how many entries have been lost. -/
def State.desync (s : State) : State :=
  if s.fld Reg.TWN_STATUS Fld.TWN_STATUS_SYNC = 3 then s
  else (s.setSync 3).detect srcTwin 0x093 0 s.twin.lost

/-- An entry joins shard h's mirror queue; one that finds it full is dropped (R421). -/
def State.pushEntry (s : State) (h : Nat) (e : List Byte) : State :=
  let q := Tbl.get [] s.twin.queues h
  if 8192 ≤ q.length then
    let s := { s with twin := { s.twin with lost := s.twin.lost + 1 } }
    (s.bump (Reg.TWN_CNT Cnt.TWN_MIRROR_LOST)).desync
  else { s with twin := { s.twin with queues := Tbl.set [] s.twin.queues h (q ++ [e]) } }

def State.deltas (s : State) (h : Nat) : List DeltaRec := Tbl.get [] s.twin.deltas h

def State.setDeltas (s : State) (h : Nat) (l : List DeltaRec) : State :=
  { s with twin := { s.twin with deltas := Tbl.set [] s.twin.deltas h l } }

/-- The DELTA entry of a marked record (R419). -/
def DeltaRec.entry (d : DeltaRec) : List Byte := withCrc (d.head ++ d.fields.flatMap (fun x => leBytes 8 x))

/-- Sends the DELTA of a record, where the table marks it. -/
def State.sendDelta (s : State) (h : Nat) (x : Word64) : State :=
  match (s.deltas h).find? (fun d => d.h == x) with
  | none => s
  | some d => (s.setDeltas h ((s.deltas h).filter (fun d => d.h != x))).pushEntry h d.entry

/-- CFIELD j of class k: state offset and width in bytes; `none` where it is not enabled. -/
def State.cfield (s : State) (k j : Nat) : Option (Nat × Nat) :=
  let f := (s.reg (Reg.TWN_CFIELD k)).toNat / 2 ^ (16 * j) % 65536
  let w := f / 256 % 4
  if f / 32768 % 2 = 1 then some (f % 128, if w = 0 then 4 else if w = 1 then 5 else if w = 2 then 6 else 8) else none

/-- The change of each CFIELD counter between two versions of a record. -/
def State.fieldChange (s : State) (k : Nat) (old new : List Word64) : List Nat :=
  (List.range 4).map (fun j =>
    match s.cfield k j with
    | none => 0
    | some (o, w) => (leNat (bytesAt (recState new) o w) + 2 ^ (8 * w) - leNat (bytesAt (recState old) o w)) % 2 ^ (8 * w))

/-- A state byte that SMASK0 and SMASK1 select differs between two versions. -/
def State.structural (s : State) (k : Nat) (old new : List Word64) : Bool :=
  (List.range 68).any (fun i =>
    (if i < 64 then (s.reg (Reg.TWN_SMASK0 k)).getLsbD i else (s.reg (Reg.TWN_SMASK1 k)).getLsbD (i - 64))
      && (recState old).getD i 0#8 != (recState new).getD i 0#8)

/-- Class k is mirrored. -/
def State.mirrorClass (s : State) (k : Nat) : Bool :=
  s.mirrors && s.flag (Reg.TWN_SMASK1 k) Fld.TWN_SMASK1_MIRROR_EN

/-- A write-back of `new` over `old` (R418); `created`: the hold created the record. -/
def State.mirrorWrite (s : State) (h : Nat) (x : Word64) (old new : List Word64) (created : Bool) : State :=
  let k := recMeta new mtClass
  if !s.mirrorClass k then s
  else if created ∨ recMeta old mtAge ≠ recMeta new mtAge ∨ s.structural k old new = true then
    (s.sendDelta h x).pushEntry h (recLines 1 new s.clk.mono)
  else
    let l := s.deltas h
    let was := match l.find? (fun d => d.h == x) with | none => [0, 0, 0, 0] | some d => d.fields
    let s := if l.any (fun d => d.h == x) = false ∧ 4096 ≤ l.length then
        match l.head? with | none => s | some d => s.sendDelta h d.h
      else s
    let d : DeltaRec := { h := x, head := recHead 3 new s.clk.mono
                          fields := (List.range 4).map (fun j =>
                            (was.getD j 0 + (s.fieldChange k old new).getD j 0) % 2 ^ 64) }
    s.setDeltas h ((s.deltas h).filter (fun d => d.h != x) ++ [d])

/-- A delete (R418). -/
def State.mirrorDelete (s : State) (h : Nat) (x : Word64) (old : List Word64) : State :=
  if !s.mirrorClass (recMeta old mtClass) then s
  else (s.sendDelta h x).pushEntry h (recLines 2 old s.clk.mono)

/-- The AUX entry of a line (R419). -/
def auxEntry (region line : Nat) (data : List Byte) : List Byte :=
  withCrc ([0x04#8, BitVec.ofNat 8 region, 0#8, 0#8] ++ leBytes 4 line ++ List.replicate 8 0#8 ++ bytesAt data 0 64)

/-- A write accepted to a mirrored region (R418). -/
def State.mirrorAux (s : State) (h : Nat) (m : Option (Nat × Nat)) (data : List Byte) : State :=
  match m with
  | none => s
  | some (r, l) => if s.mirrors then s.pushEntry h (auxEntry r l data) else s

end Sys2Proof.Machine
end

