-- ==== Sys2Proof/Machine/Dram.lean ====
section
/-! DEFINITION. The DRAM tier controllers (R250 to R277): the address map, queues, ECC, ranks out of service, migration,
refresh and frequency changes. -/

namespace Sys2Proof.Machine

/-! ### Population and address map (R250 to R255) -/

/-- Channel c has DIMMs. -/
def State.populated (s : State) (c : Nat) : Bool := s.fld (Reg.DMC_POP c) Fld.DMC_POP_DIMMS != 0

/-- Populated channels, ascending. -/
def State.channels (s : State) : List Nat := (List.range 12).filter s.populated

/-- Ranks of channel c. -/
def State.ranks (s : State) (c : Nat) : Nat :=
  s.fld (Reg.DMC_POP c) Fld.DMC_POP_DIMMS * 2 ^ (s.fld (Reg.DMC_POP c) Fld.DMC_POP_RANKS_PER_DIMM)

def State.hasSpare (s : State) (c : Nat) : Bool := s.flag (Reg.DMC_POP c) Fld.DMC_POP_SPARE

/-- M of R253. -/
def State.mappedRanks (s : State) (c : Nat) : Nat := s.ranks c - bit (s.hasSpare c)

/-- log2 of RL (R251). -/
def State.rlLog (s : State) (c : Nat) : Nat :=
  28 + s.fld (Reg.DMC_POP c) Fld.DMC_POP_DENSITY - s.fld (Reg.DMC_POP c) Fld.DMC_POP_WIDTH

/-- C bits of a row (R251). -/
def State.colBits (s : State) (c : Nat) : Nat := 7 - s.fld (Reg.DMC_POP c) Fld.DMC_POP_WIDTH

/-- DMC[0].SPACE, bytes. -/
def State.space (s : State) : Nat := s.fld (Reg.DMC_SPACE 0) Fld.DMC_SPACE_BYTES

/-- Where a device line lies (R254): channel, subchannel, rank, rank line. -/
structure LineAt where
  ch : Nat
  sub : Nat
  rank : Nat
  line : Nat
  deriving DecidableEq, Repr

/-- R254; `none` at or beyond SPACE. -/
def State.locate (s : State) (l : Nat) : Option LineAt :=
  if s.space ≤ 64 * l then none
  else
    let chs := s.channels
    let n := 2 * chs.length
    match chs[(l % n) / 2]? with
    | none => none
    | some c =>
      let rl := 2 ^ s.rlLog c
      some { ch := c, sub := l % 2, rank := l / n / rl, line := (l / n) % rl }

/-- The bank (rank × 32 + G × 4 + B) and row of a line in rank `rank`, by MAP.ORDER (R255, R259). -/
def State.bankRowIn (s : State) (a : LineAt) (rank : Nat) : Nat × Nat :=
  let x := a.line
  let cb := s.colBits a.ch
  let o := s.fld (Reg.DMC_MAP 0) Fld.DMC_MAP_ORDER
  let w := x / 2 ^ (5 + cb)
  let g0 := if o = 1 then x / 2 ^ cb % 8 else x % 8
  let b0 := if o = 1 then x / 2 ^ (cb + 3) % 4 else if o = 2 then x / 2 ^ (cb + 3) % 4 else x / 8 % 4
  let g := if o = 3 then g0 ^^^ (w % 8) else g0
  let b := if o = 3 then b0 ^^^ (w / 8 % 4) else b0
  (32 * rank + 4 * g + b, w)

/-- tCK in picoseconds by SPEED (R250), in units of 1/42 ps, so that every speed is whole. -/
def tckUnits (speed : Nat) : Nat :=
  if speed = 0 then 13125 else if speed = 1 then 15000 else if speed = 2 then 17500 else 21000

/-- CLK_TICK ticks of a number of tCK, rounded up. -/
def State.tckTicks (s : State) (n : Nat) : Nat :=
  (n * tckUnits (s.fld (Reg.DMC_FREQ 0) Fld.DMC_FREQ_SPEED) + 52499) / 52500

/-! ### State of ranks and lines (R268 to R272) -/

def State.sub (s : State) (c k : Nat) : DmcSub := Tbl.get DmcSub.init s.dram.subs (2 * c + k)

def State.setSub (s : State) (c k : Nat) (x : DmcSub) : State :=
  { s with dram := { s.dram with subs := Tbl.set DmcSub.init s.dram.subs (2 * c + k) x } }

def State.dmcBump (s : State) (c i : Nat) : State := s.bump (Reg.DMC_CNT c i)

def State.rankOut (s : State) (c r : Nat) : Bool := (s.fld (Reg.DMC_STATUS c) Fld.DMC_STATUS_RANK_OUT).testBit r

def State.migState (s : State) (c : Nat) : Nat := s.fld (Reg.DMC_MIG c) Fld.DMC_MIG_STATE
def State.migSrc (s : State) (c : Nat) : Nat := s.fld (Reg.DMC_MIG c) Fld.DMC_MIG_SRC_RANK
def State.migDst (s : State) (c : Nat) : Nat := s.fld (Reg.DMC_MIG c) Fld.DMC_MIG_DST_RANK

/-- The spare serves this line of rank `a.rank` (R270, R271). -/
def State.bySpare (s : State) (a : LineAt) : Bool :=
  let st := s.migState a.ch
  st != 0 && s.migSrc a.ch == a.rank && (st == 3 || decide (a.line < (s.sub a.ch a.sub).cursor))

/-- The rank that serves a line. -/
def State.servingRank (s : State) (a : LineAt) : Nat := if s.bySpare a then s.migDst a.ch else a.rank

/-- Bank and row of a line in the rank that serves it (R262, R263). -/
def State.bankRow (s : State) (a : LineAt) : Nat × Nat := s.bankRowIn a (s.servingRank a)

/-- No access to the line's rank returns data: out of service without a copy that covers the line (R269). -/
def State.rankDead (s : State) (a : LineAt) : Bool :=
  s.down (unitDmc a.ch) ||
    (if s.bySpare a then s.rankOut a.ch (s.migDst a.ch)
     else s.rankOut a.ch a.rank && !(s.migState a.ch == 1 && s.migSrc a.ch == a.rank))

def State.poisoned (s : State) (l : Nat) : Bool := Tbl.get false s.dram.poison l

def State.setPoison (s : State) (l : Nat) (b : Bool) : State :=
  { s with dram := { s.dram with poison := Tbl.set false s.dram.poison l b } }

/-- The DMCs accept requests: no frequency change runs (R273). -/
def State.dmcReady (s : State) : Bool := s.dram.freq == .idle

/-- The bytes of a line. -/
def State.lineBytes (s : State) (l : Nat) : List Byte := memRead s.dram.bytes (64 * l) 64

/-- Starts a migration into the channel's spare where R270 to R272 allow one: `fill` for a rank that cannot be read. -/
def State.startMigration (s : State) (c r : Nat) (fill : Bool) : State :=
  let p := s.ranks c - 1
  if s.hasSpare c ∧ r ≠ p ∧ s.migState c = 0 ∧ !s.rankOut c p ∧ s.dmcReady
      ∧ !s.flag (Reg.DMC_STATUS c) Fld.DMC_STATUS_SPARE_USED then
    let a := Reg.DMC_MIG c
    let s := ((s.setFld a Fld.DMC_MIG_STATE (if fill then 2 else 1)).setFld a Fld.DMC_MIG_SRC_RANK r).setFld a
      Fld.DMC_MIG_DST_RANK p
    let s := (s.setSub c 0 { s.sub c 0 with cursor := 0 })
    let s := (s.setSub c 1 { s.sub c 1 with cursor := 0 }).setFld a Fld.DMC_MIG_CURSOR 0
    s.setFld (Reg.DMC_STATUS c) Fld.DMC_STATUS_MIGRATING 1
  else s

/-- A rank goes out of service (R269); a failing spare ends the migration into it (R272). -/
def State.rankFail (s : State) (c r : Nat) (unreadable : Bool) : State :=
  let moving := decide (s.migState c = 1 ∨ s.migState c = 2)
  let s := s.orFld (Reg.DMC_STATUS c) Fld.DMC_STATUS_RANK_OUT (2 ^ r)
  if moving ∧ r = s.migDst c then
    let s := s.orFld (Reg.DMC_STATUS c) Fld.DMC_STATUS_RANK_OUT (2 ^ s.migSrc c)
    (s.setFld (Reg.DMC_MIG c) Fld.DMC_MIG_STATE 0).setFld (Reg.DMC_STATUS c) Fld.DMC_STATUS_MIGRATING 0
  else if moving ∧ r = s.migSrc c ∧ unreadable then s.setFld (Reg.DMC_MIG c) Fld.DMC_MIG_STATE 2
  else s.startMigration c r unreadable

/-! ### Rows and the write queue (R258 to R263) -/

/-- Notes an access to a row of rank `rank` for ROW_HITS and ROW_MISSES (R263). -/
def State.rowTouchIn (s : State) (a : LineAt) (rank : Nat) : State :=
  let br := s.bankRowIn a rank
  let x := s.sub a.ch a.sub
  let s := match Tbl.get none x.rows br.1 with
    | none => s
    | some (w, _) => if w = br.2 then s.dmcBump a.ch Cnt.DMC_ROW_HITS else s.dmcBump a.ch Cnt.DMC_ROW_MISSES
  let open_ := if s.fld (Reg.DMC_SCHED a.ch) Fld.DMC_SCHED_IDLE_TCK = 0 then none else some (br.2, s.clk.mono)
  s.setSub a.ch a.sub { s.sub a.ch a.sub with rows := Tbl.set none x.rows br.1 open_ }

/-- An access to a line's row in the rank that serves it. -/
def State.rowTouch (s : State) (a : LineAt) : State := s.rowTouchIn a (s.servingRank a)

/-- A background access is counted. -/
def State.bgCount (s : State) (c : Nat) (fg : Bool) : State := if fg then s else s.dmcBump c Cnt.DMC_BG_ACCESSES

/-- A background request may be taken: no foreground request waits for the subchannel, and fewer than 16 of its queued writes
are background (R34, R258). -/
def State.bgMay (s : State) (c k : Nat) : Bool := (s.sub c k).waiting == [] && decide ((s.sub c k).bg.length < 16)

/-- A background request to a line may be taken. -/
def State.bgLine (s : State) (l : Nat) : Bool := match s.locate l with | none => true | some a => s.bgMay a.ch a.sub

/-- Queued write i of a subchannel is issued (R261). -/
def State.issueWrite (s : State) (c k i : Nat) : State :=
  let x := s.sub c k
  match x.writeQ[i]? with
  | none => s
  | some l =>
    let rest := x.writeQ.eraseIdx i
    let low := s.fld (Reg.DMC_SCHED c) Fld.DMC_SCHED_WQ_LOW
    let s := s.setSub c k { x with writeQ := rest, bg := x.bg.erase l, draining := x.draining && decide (low < rest.length) }
    let s := s.dmcBump c Cnt.DMC_WRITES
    match s.locate l with
    | none => s
    | some a => s.rowTouch a

/-- The oldest queued write whose line no queued read names is issued. -/
def State.issueOldest (s : State) (c k : Nat) : State :=
  let x := s.sub c k
  match x.writeQ.findIdx? (fun l => !x.readQ.any (fun r => r.line == l)) with
  | none => s
  | some i => s.issueWrite c k i

/-- A write phase begins at WQ_HIGH and ends at WQ_LOW (R261). -/
def State.drainCheck (s : State) (c k : Nat) : State :=
  let x := s.sub c k
  if x.draining then
    if x.writeQ.length ≤ s.fld (Reg.DMC_SCHED c) Fld.DMC_SCHED_WQ_LOW then s.setSub c k { x with draining := false } else s
  else if s.fld (Reg.DMC_SCHED c) Fld.DMC_SCHED_WQ_HIGH ≤ x.writeQ.length then
    (s.setSub c k { x with draining := true }).dmcBump c Cnt.DMC_DRAIN_PHASES
  else s

/-- A read that is made at once waits for the write phase that runs: its writes are issued first (R261). -/
def State.finishDrain (s : State) (c k : Nat) : State :=
  if (s.sub c k).draining then forUpTo 128 (fun _ t => if (t.sub c k).draining then t.issueOldest c k else t) s else s

/-- A line enters its write queue: coalesced with a queued write, or as a new entry; a full queue, which drains, issues one first
(R259). -/
def State.queueWrite (s : State) (a : LineAt) (l : Nat) (fg : Bool) : State :=
  let x := s.sub a.ch a.sub
  if x.writeQ.contains l then s.dmcBump a.ch Cnt.DMC_WR_COALESCED
  else
    let s := if 128 ≤ x.writeQ.length then s.issueOldest a.ch a.sub else s
    let x := s.sub a.ch a.sub
    (s.setSub a.ch a.sub { x with writeQ := x.writeQ ++ [l], bg := if fg then x.bg else x.bg ++ [l] }).drainCheck a.ch a.sub

/-! ### Errors (R268) -/

/-- The rank that serves a line is out of service or being migrated: its errors are shadowed. -/
def State.rankMasked (s : State) (a : LineAt) : Bool :=
  let r := s.servingRank a
  s.rankOut a.ch r || (s.migState a.ch == 1 && s.migSrc a.ch == r)

/-- An error of a masked rank is counted as shadowed. -/
def State.dramShadow (s : State) (c : Nat) : State := (s.dmcBump c Cnt.DMC_SHADOWED_UE).shadow (unitDmc c)

/-- A correctable error of a line (R268): it is reported, and the line is rewritten as a background write; in a masked rank it is
shadowed. -/
def State.dramCe (s : State) (a : LineAt) (l : Nat) : State :=
  let c := a.ch
  if s.rankMasked a then s.dramShadow c
  else
    let s := (s.dmcBump c Cnt.DMC_CE_CORRECTED).setFld (Reg.DMC_ERR_CE c) Fld.DMC_ERR_CE_ADDR (64 * l)
    let s := (s.setFld (Reg.DMC_ERR_CE c) Fld.DMC_ERR_CE_VALID 1).detect (srcDmc c) 0x001 0 (64 * l)
    (s.bgCount c false).queueWrite a l false

/-- An uncorrectable error in a line that rank `a` serves (R268): the line is lost; in a rank in service it takes the rank out. -/
def State.dramUe (s : State) (a : LineAt) (l : Nat) : State :=
  let c := a.ch
  let r := s.servingRank a
  let masked := s.rankMasked a
  let s := s.setPoison l true
  let s := s.setFld (Reg.DMC_STATUS c) Fld.DMC_STATUS_UE_SEEN 1
  if masked then s.dramShadow c
  else
    let s := s.dmcBump c Cnt.DMC_UE
    let e := Reg.DMC_ERR_UE c
    let s := if s.flag e Fld.DMC_ERR_UE_VALID then s
      else (s.setFld e Fld.DMC_ERR_UE_ADDR (64 * l)).setFld e Fld.DMC_ERR_UE_VALID 1
    (s.detect (srcDmc c) 0x029 1 (64 * l)).rankFail c r false

/-! ### Accesses -/

def State.lostRead (s : State) (c : Nat) : State :=
  (s.dmcBump c Cnt.DMC_LOST_READS).setFld (Reg.DMC_STATUS c) Fld.DMC_STATUS_LOST_SEEN 1

def State.lostWrite (s : State) (c : Nat) : State :=
  (s.dmcBump c Cnt.DMC_LOST_WRITES).setFld (Reg.DMC_STATUS c) Fld.DMC_STATUS_LOST_SEEN 1

/-- A read that meets no queue: forwarded from a queued write, or made in DRAM with outcome `e` (R259, R268, R269).
`none` is the lost answer. -/
def State.dramRead (s : State) (l : Nat) (fg : Bool) (e : Ecc) : Option (List Byte) × State :=
  match s.locate l with
  | none => (none, s)
  | some a =>
    let s := s.bgCount a.ch fg
    if s.rankDead a || s.poisoned l then (none, s.lostRead a.ch)
    else if (s.sub a.ch a.sub).writeQ.contains l then (some (s.lineBytes l), s.dmcBump a.ch Cnt.DMC_RD_FORWARDED)
    else
      let s := ((s.finishDrain a.ch a.sub).dmcBump a.ch Cnt.DMC_READS).rowTouch a
      match e with
      | .ok => (some (s.lineBytes l), s)
      | .corrected => (some (s.lineBytes l), s.dramCe a l)
      | .uncorrectable => (none, s.dramUe a l)

/-- A write of a whole line, accepted (R259, R269): `false` where it is discarded. -/
def State.dramWrite (s : State) (l : Nat) (bytes : List Byte) (fg : Bool) : Bool × State :=
  match s.locate l with
  | none => (false, s)
  | some a =>
    let s := s.bgCount a.ch fg
    if s.rankDead a ∨ (s.poisoned l ∧ s.migState a.ch = 0) then (false, s.lostWrite a.ch)
    else
      let s := { s with dram := { s.dram with bytes := memWrite s.dram.bytes (64 * l) (bytesAt bytes 0 64) } }
      (true, (s.setPoison l false).queueWrite a l fg)

/-- A merge into a line is counted (R260). -/
def State.countRmw (s : State) (l : Nat) : State := match s.locate l with | none => s | some a => s.dmcBump a.ch Cnt.DMC_RMW

/-- A partial write, merged by read-modify-write (R260): where the read is lost nothing is written, and a lost write is counted
(R269). -/
def State.dramMerge (s : State) (l off : Nat) (bytes : List Byte) (fg : Bool) (e : Ecc) : Bool × State :=
  let r := s.dramRead l fg e
  match r.1 with
  | none => (false, match s.locate l with | none => r.2 | some a => r.2.lostWrite a.ch)
  | some old => (r.2.countRmw l).dramWrite l (bytesPut old off bytes) fg

/-- Bytes of device memory across lines, lines lost reading as zeros; whether a line was lost. -/
def State.dramBytes (s : State) (addr : Nat) (fg : Bool) : Nat → Nat → List Byte × Bool × State
  | 0, _ => ([], false, s)
  | _, 0 => ([], false, s)
  | n + 1, len =>
    let o := addr % 64
    let k := min len (64 - o)
    let r := s.dramRead (addr / 64) fg .ok
    let here := match r.1 with | none => List.replicate k 0#8 | some b => (b.drop o).take k
    let rest := r.2.dramBytes (addr + k) fg n (len - k)
    (here ++ rest.1, r.1.isNone || rest.2.1, rest.2.2)

/-- Stores bytes of device memory across lines, merging partial lines. -/
def State.dramStore (s : State) (addr : Nat) (fg : Bool) : Nat → List Byte → State
  | 0, _ => s
  | _, [] => s
  | n + 1, bytes =>
    let o := addr % 64
    let k := min bytes.length (64 - o)
    let s := if k = 64 then (s.dramWrite (addr / 64) (bytes.take 64) fg).2
             else (s.dramMerge (addr / 64) o (bytes.take k) fg .ok).2
    s.dramStore (addr + k) fg n (bytes.drop k)

/-! ### Requests of threads (R190, R258 to R262) -/

/-- An auxiliary request joins those waiting for its subchannel; one beyond SPACE is answered as lost at once (R254). -/
def State.auxRequest (s : State) (r : DmcReq) : State :=
  match s.locate r.line with
  | none =>
    match r.op with
    | .read => s.setThread (r.thread / 512) (r.thread % 512) { s.thread (r.thread / 512) (r.thread % 512) with
        auxSt := .answered none false none }
    | .cas w _ _ => s.setThread (r.thread / 512) (r.thread % 512) { s.thread (r.thread / 512) (r.thread % 512) with
        auxSt := .answered (some w) false none }
    | .write _ => s
  | some a => s.setSub a.ch a.sub { s.sub a.ch a.sub with waiting := (s.sub a.ch a.sub).waiting ++ [r] }

/-- The DMC's answer reaches the thread that waits for it. -/
def State.auxAnswer (s : State) (t : Nat) (ok : Bool) (line : Option (List Byte)) : State :=
  let x := s.thread (t / 512) (t % 512)
  match x.auxSt with
  | .waiting cas => s.setThread (t / 512) (t % 512) { x with auxSt := .answered cas ok (line.map (wordsOf 8)) }
  | _ => s

/-- The first waiting request of each shard, in rotation after the shard served last (R258). -/
def DmcSub.heads (x : DmcSub) : List DmcReq :=
  (List.range 16).filterMap (fun j => x.waiting.find? (fun r => r.thread / 512 == (x.last + 1 + j) % 16))

/-- The request has been taken. -/
def DmcSub.took (x : DmcSub) (r : DmcReq) : DmcSub := { x with waiting := x.waiting.erase r, last := r.thread / 512 }

/-- The request waits because its queue is full (R258, R259). -/
def State.queueFull (s : State) (x : DmcSub) (r : DmcReq) : Bool :=
  match r.op with
  | .write _ => decide (128 ≤ x.writeQ.length) && !x.writeQ.contains r.line
  | .read =>
    decide (256 ≤ x.readQ.length) && !x.writeQ.contains r.line
      && !(s.poisoned r.line || (match s.locate r.line with | none => true | some a => s.rankDead a))
  | .cas _ _ _ => false

/-- An accepted read or write enters its queue, or is answered at once. -/
def State.acceptReq (s : State) (c k : Nat) (r : DmcReq) : State :=
  let x := s.sub c k
  let y := x.took r
  match s.locate r.line with
  | none => s
  | some a =>
    match r.op with
    | .cas _ _ _ => s
    | .write b => ((s.setSub c k y).dramWrite r.line b true).2.mirrorAux (r.thread / 512) r.mirror b
    | .read =>
      if s.rankDead a || s.poisoned r.line then ((s.setSub c k y).lostRead c).auxAnswer r.thread false none
      else if x.writeQ.contains r.line then
        ((s.setSub c k y).dmcBump c Cnt.DMC_RD_FORWARDED).auxAnswer r.thread true (some (s.lineBytes r.line))
      else s.setSub c k { y with readQ := x.readQ ++ [{ r with data := some (s.lineBytes r.line) }] }

/-- The read or write that is accepted next: the first in rotation over the shards that finds room. -/
def State.nextReq (s : State) (c k : Nat) : Option DmcReq :=
  (s.sub c k).heads.find? (fun r => (match r.op with | .cas _ _ _ => false | _ => true) && !s.queueFull (s.sub c k) r)

/-- The compare-and-swap that is performed next. -/
def State.nextCas (s : State) (c k : Nat) : Option DmcReq :=
  (s.sub c k).heads.find? (fun r => match r.op with | .cas _ _ _ => true | _ => false)

/-- DMC_REQUEST_ACCEPT (R258, R259): the next shard in rotation whose first request finds room; a CASX waits for RMW. -/
def dmcRequestAccept (c k : Nat) (s : State) : State :=
  if !s.dmcReady then s
  else
    match s.nextReq c k with
    | none => s
    | some r => s.acceptReq c k r

/-- The entry of a queue that stands first in its bank's list (R262). -/
def State.firstInBank (s : State) (q : List DmcReq) (i : Nat) : Bool :=
  match q[i]? with
  | none => false
  | some r => (q.take i).all (fun x => ((s.locate x.line).map s.bankRow).map Prod.fst != ((s.locate r.line).map s.bankRow).map Prod.fst)

/-! ### Refresh (R264) -/

/-- The refresh interval of a rank in ticks. -/
def State.refreshTicks (s : State) (c r : Nat) : Nat :=
  let act := s.fld (Reg.DMC_TIMING_SEL c) Fld.DMC_TIMING_SEL_ACTIVE
  let n := s.tckTicks (s.fld (Reg.DMC_TIMING2 c act) Fld.DMC_TIMING2_REFI)
  if Tbl.get false s.dram.hot (4 * c + r) then n / 2 else n

/-- REF_MODE: all banks of a rank at once. -/
def State.refreshAll (s : State) (c : Nat) : Bool := s.flag (Reg.DMC_SCHED c) Fld.DMC_SCHED_REF_MODE

/-- Ticks between two refresh commands of a rank: bank by bank, four same-bank commands make one refresh of the rank
(PRESUMED: DDR5, assumption log 84). -/
def State.refreshGap (s : State) (c r : Nat) : Nat := if s.refreshAll c then s.refreshTicks c r else s.refreshTicks c r / 4

/-- A refresh command of the rank is due. -/
def State.refreshDue (s : State) (c r : Nat) : Bool := decide (s.refreshGap c r ≤ s.clk.mono - Tbl.get 0 s.dram.refreshAt (4 * c + r))

/-- A refresh that is due goes before requests to the banks it takes: one bank of each group, or the rank. -/
def State.refreshFirst (s : State) (a : LineAt) : Bool :=
  let r := s.servingRank a
  decide (0 < s.refreshTicks a.ch r) && s.refreshDue a.ch r
    && (s.refreshAll a.ch || (s.bankRow a).1 % 4 == Tbl.get 0 s.dram.refreshBank (4 * a.ch + r))

/-- DMC_READ_DONE (R268): a queued read completes with outcome `e`; which of the banks' heads meets its timing first is the
operand's to say (R262). -/
def dmcReadDone (c k i : Nat) (e : Ecc) (s : State) : State :=
  let x := s.sub c k
  match x.readQ[i]? with
  | none => s
  | some r =>
    match s.locate r.line with
    | none => s
    | some a =>
      if x.draining ∨ !s.firstInBank x.readQ i ∨ s.dram.freq = .selfRefresh ∨ s.refreshFirst a then s
      else
        let s := ((s.setSub c k { x with readQ := x.readQ.eraseIdx i }).dmcBump c Cnt.DMC_READS).rowTouch a
        match e with
        | .ok => s.auxAnswer r.thread true r.data
        | .corrected => (s.dramCe a r.line).auxAnswer r.thread true r.data
        | .uncorrectable => (s.dramUe a r.line).auxAnswer r.thread false none

/-- DMC_WRITE_DONE (R259, R261): a queued write is issued, in a write phase or when no read waits, never past an earlier
read of its line. -/
def dmcWriteDone (c k i : Nat) (s : State) : State :=
  let x := s.sub c k
  match x.writeQ[i]? with
  | none => s
  | some l =>
    let held := match s.locate l with | none => false | some a => s.refreshFirst a
    if (x.draining = false ∧ x.readQ ≠ []) ∨ x.readQ.any (fun r => r.line == l) = true ∨ s.dram.freq = .selfRefresh ∨ held = true then s
    else s.issueWrite c k i

/-- RMW (R190, R260): the compare-and-swap of the next shard in rotation that waits with one is performed, one read and one write
with nothing between. -/
def rmw (c k : Nat) (e : Ecc) (s : State) : State :=
  let x := s.sub c k
  match s.nextCas c k with
  | none => s
  | some r =>
    match r.op with
    | .cas w expect new =>
      if !s.dmcReady ∨ x.readQ.any (fun q => q.line == r.line) = true then s
      else
        let s := s.setSub c k (x.took r)
        let y := s.dramRead r.line true e
        match y.1 with
        | none => y.2.auxAnswer r.thread false none
        | some old =>
          let v := (wordsOf 8 old).getD w 0
          let t := y.2.dmcBump c Cnt.DMC_RMW
          if v = expect then
            let b := bytesPut old (8 * w) (leBytes 8 new.toNat)
            ((t.dramWrite r.line b true).2.mirrorAux (r.thread / 512) r.mirror b).auxAnswer r.thread true (some old)
          else t.auxAnswer r.thread false (some old)
    | _ => s

/-- IDLE_CLOSE (R263). -/
def idleClose (c k b : Nat) (s : State) : State :=
  let x := s.sub c k
  match Tbl.get none x.rows b with
  | none => s
  | some (_, m) =>
    if s.tckTicks (s.fld (Reg.DMC_SCHED c) Fld.DMC_SCHED_IDLE_TCK) ≤ s.clk.mono - m then
      (s.setSub c k { x with rows := Tbl.set none x.rows b none }).dmcBump c Cnt.DMC_IDLE_CLOSES
    else s

/-! ### Refresh commands and alerts (R264, R266) -/

/-- REFRESH: a refresh command that is due is issued; bank by bank, the next command takes the next bank. -/
def refresh (c r : Nat) (s : State) : State :=
  if r < s.ranks c ∧ s.dram.freq ≠ .selfRefresh ∧ s.refreshDue c r = true then
    let i := 4 * c + r
    let b := if s.refreshAll c then 0 else (Tbl.get 0 s.dram.refreshBank i + 1) % 4
    State.dmcBump { s with dram := { s.dram with
      refreshAt := Tbl.set 0 s.dram.refreshAt i s.clk.mono, refreshBank := Tbl.set 0 s.dram.refreshBank i b } } c Cnt.DMC_REFRESHES
  else s

/-- REFRESH_RATE_NEED: a rank reports a refresh-rate need above the 1x rate, or its end. -/
def refreshRateNeed (c r : Nat) (high : Bool) (s : State) : State :=
  if s.ranks c ≤ r then s
  else
    let hot := Tbl.set false s.dram.hot (4 * c + r) high
    let s := { s with dram := { s.dram with hot := hot } }
    s.setFld (Reg.DMC_STATUS c) Fld.DMC_STATUS_HOT (bit ((List.range 4).any (fun i => Tbl.get false hot (4 * c + i))))

/-- The first device address of a mapped rank of a channel. -/
def State.rankFirst (s : State) (c r : Nat) : Nat :=
  let n := 2 * s.channels.length
  64 * ((r * 2 ^ s.rlLog c) * n + 2 * (s.channels.takeWhile (fun x => x != c)).length)

/-- DIMM_ALERT (R266, R268): `failures` tries of the command at a device line fail, for CA parity or write CRC. -/
def dimmAlert (l : Nat) (crc : Bool) (failures : Nat) (s : State) : State :=
  match s.locate l with
  | none => s
  | some a =>
    let c := a.ch
    if failures = 0 ∨ (crc ∧ !s.flag (Reg.DMC_CTL c) Fld.DMC_CTL_WCRC_EN) then s
    else if failures < 4 then
      if s.rankMasked a then s.dramShadow c
      else (s.dmcBump c (if crc then Cnt.DMC_WCRC_RETRY else Cnt.DMC_CA_RETRY)).detect (srcDmc c) 0x002 0 (64 * l)
    else
      let r := s.servingRank a
      if s.rankOut c r then s.dramShadow c
      else (s.detect (srcDmc c) 0x02A 1 (s.rankFirst c r)).rankFail c r true

/-! ### Scrubbing and migration (R267, R270 to R272) -/

/-- The device line of local line λ of subchannel k of channel c (R254). -/
def State.deviceLine (s : State) (c k x : Nat) : Nat :=
  x * (2 * s.channels.length) + 2 * (s.channels.takeWhile (fun y => y != c)).length + k

/-- One line of a scrub pass (R267): read, and where an error was corrected rewritten as R268 says. -/
def State.scrubOne (s : State) (c k x : Nat) (e : Ecc) : State :=
  let l := s.deviceLine c k x
  let r := (s.dmcBump c Cnt.DMC_SCRUB_LINES).dramRead l false e
  match r.1, e with
  | some _, .corrected => r.2.dmcBump c Cnt.DMC_SCRUB_CORRECTED
  | _, _ => r.2

/-- SCRUB_LINE. -/
def scrubLine (c k : Nat) (e : Ecc) (s : State) : State :=
  let x := s.sub c k
  let gap := (s.fld (Reg.DMC_SCRUB c) Fld.DMC_SCRUB_INTERVAL_NS * 4 + 4) / 5
  if !s.populated c ∨ !s.flag (Reg.DMC_CTL c) Fld.DMC_CTL_SCRUB_EN ∨ !s.dmcReady ∨ s.clk.mono - x.scrubAt < gap
      ∨ s.space = 0 ∨ !s.bgMay c k then s
  else
    let s := s.scrubOne c k x.scrub e
    let last := decide (s.mappedRanks c * 2 ^ s.rlLog c ≤ x.scrub + 1)
    let y := s.sub c k
    let s := s.setSub c k { y with scrub := if last then 0 else x.scrub + 1
                                   scrubPasses := y.scrubPasses + bit last, scrubAt := s.clk.mono }
    s.setFld (Reg.DMC_SCRUB c) Fld.DMC_SCRUB_PASSES (min (s.sub c 0).scrubPasses (s.sub c 1).scrubPasses)

/-- Moves a subchannel's migration cursor on; at the end of both the spare takes the rank's place (R270, R272). -/
def State.advanceMigration (s : State) (c k : Nat) : State :=
  let s := s.setSub c k { s.sub c k with cursor := (s.sub c k).cursor + 1 }
  let rl := 2 ^ s.rlLog c
  let low := min (s.sub c 0).cursor (s.sub c 1).cursor
  let s := s.setFld (Reg.DMC_MIG c) Fld.DMC_MIG_CURSOR low
  if rl ≤ low then
    let s := s.setFld (Reg.DMC_MIG c) Fld.DMC_MIG_STATE 3
    let s := (s.setFld (Reg.DMC_STATUS c) Fld.DMC_STATUS_MIGRATING 0).setFld (Reg.DMC_STATUS c) Fld.DMC_STATUS_SPARE_USED 1
    (s.orFld (Reg.DMC_STATUS c) Fld.DMC_STATUS_RANK_OUT (2 ^ s.migSrc c)).jnlQueue (.event .migration)
  else s

/-- The device line at a subchannel's migration cursor. -/
def State.migLine (s : State) (c k : Nat) : Nat :=
  s.deviceLine c k (s.migSrc c * 2 ^ s.rlLog c + (s.sub c k).cursor)

/-- The rows that a migration step opens: that of the line in the source rank where it is read, and that in the spare (R263). -/
def State.migTouch (s : State) (c k : Nat) (read : Bool) : State :=
  let a : LineAt := { ch := c, sub := k, rank := s.migSrc c, line := (s.sub c k).cursor }
  let s := if read then s.rowTouchIn a (s.migSrc c) else s
  s.rowTouchIn a (s.migDst c)

/-- MIGRATION_COPY_STEP (R270): the line at the cursor is copied to the spare, as poison where it cannot be read. -/
def migrationCopyStep (c k : Nat) (e : Ecc) (s : State) : State :=
  if s.migState c ≠ 1 ∨ s.dmcReady = false ∨ 2 ^ s.rlLog c ≤ (s.sub c k).cursor ∨ !s.bgMay c k then s
  else
    let l := s.migLine c k
    if (s.sub c k).writeQ.contains l then s
    else
      let s := (s.dmcBump c Cnt.DMC_MIG_LINES).dmcBump c Cnt.DMC_BG_ACCESSES
      let bad := s.poisoned l || e == .uncorrectable
      let s := if e ≠ .ok ∧ !s.poisoned l then s.dramShadow c else s
      let s := s.migTouch c k true
      let s := if bad then (s.setPoison l true).dmcBump c Cnt.DMC_MIG_POISONED else s
      (s.lopMigrated c bad).advanceMigration c k

/-- POISON_FILL_STEP (R271). -/
def poisonFillStep (c k : Nat) (s : State) : State :=
  if s.migState c ≠ 2 ∨ s.dmcReady = false ∨ 2 ^ s.rlLog c ≤ (s.sub c k).cursor ∨ !s.bgMay c k then s
  else
    let s := (((s.migTouch c k false).dmcBump c Cnt.DMC_MIG_LINES).dmcBump c Cnt.DMC_MIG_POISONED).dmcBump c Cnt.DMC_BG_ACCESSES
    ((s.setPoison (s.migLine c k) true).lopMigrated c true).advanceMigration c k

/-! ### Frequency change (R273) -/

/-- Accesses per second, in millions, that the miss service guarantees at a speed (R31, R250): 0.8 of the bound. -/
def State.missService (s : State) (speed : Nat) : Nat := 2 * s.channels.length * (400 - 50 * speed) * 4 / 5

/-- A migration runs in some channel. -/
def State.anyMigration (s : State) : Bool :=
  (List.range 12).any (fun c => s.migState c == 1 || s.migState c == 2)

/-- The first check of R273 that fails, as its code; `demand` is the admitted miss demand in millions of accesses/s. -/
def State.freqError (s : State) (target demand : Nat) : Option Nat :=
  if !(s.fld (Reg.DMC_FREQ 0) Fld.DMC_FREQ_SPEED_MASK).testBit target then some 1
  else if s.missService target < demand then some 2
  else if target = 0 ∧ (s.channels.any (fun c => s.fld (Reg.DMC_POP c) Fld.DMC_POP_DIMMS == 2)) = true then some 3
  else if s.anyMigration then some 4
  else if s.dram.freq ≠ .idle then some 5
  else none

/-- FREQ_GO: the write stores TARGET, the checks follow, then every DMC stops accepting requests. -/
def freqGo (target : Nat) (s : State) : State :=
  let a := Reg.DMC_FREQ 0
  let s := s.setFld a Fld.DMC_FREQ_TARGET target
  match s.freqError target (s.fld Reg.CST_ADM_MISS Fld.CST_ADM_MISS_DEMAND) with
  | some c => (s.setFld a Fld.DMC_FREQ_ERR 1).setFld a Fld.DMC_FREQ_ERR_CODE c
  | none =>
    let d : DramSt := { s.dram with freq := .draining, freqAt := s.clk.mono, freqTo := target }
    State.setFld { s with dram := d } a Fld.DMC_FREQ_BUSY 1

/-- Every accepted request has completed. -/
def State.dmcQuiet (s : State) : Bool := s.dram.subs.all (fun e => e.2.readQ.isEmpty && e.2.writeQ.isEmpty)

/-- FREQ_SELF_REFRESH: every accepted request complete, the ranks enter self-refresh. -/
def freqSelfRefresh (s : State) : State :=
  if s.dram.freq ≠ .draining ∨ s.dmcQuiet = false then s
  else
    forEach s.channels (fun c t => t.setFld (Reg.DMC_STATUS c) Fld.DMC_STATUS_IN_SR 1)
      { s with dram := { s.dram with freq := .selfRefresh } }

/-- FREQ_CHANGE_DONE: PLL_DRAM has relocked, the other timing set is active and the DMCs accept again. -/
def freqChangeDone (s : State) : State :=
  if s.dram.freq ≠ .selfRefresh ∨ s.power.shutdown = true then s
  else
    let a := Reg.DMC_FREQ 0
    let s := (s.setFld a Fld.DMC_FREQ_SPEED s.dram.freqTo).setFld a Fld.DMC_FREQ_BUSY 0
    let s : State := forEach s.channels (fun c t =>
      (t.setFld (Reg.DMC_STATUS c) Fld.DMC_STATUS_IN_SR 0).setFld (Reg.DMC_TIMING_SEL c) Fld.DMC_TIMING_SEL_ACTIVE
        (1 - t.fld (Reg.DMC_TIMING_SEL c) Fld.DMC_TIMING_SEL_ACTIVE)) s
    let s := s.setFld (Reg.DMC_FREQ_TIME 0) Fld.DMC_FREQ_TIME_LAST_NS ((s.clk.mono - s.dram.freqAt) * 5 / 4)
    State.jnlQueue { s with dram := { s.dram with freq := .idle } } (.event .frequency)

def execDmcRequestAccept (c : Fin 12) (k : Fin 2) (s : State) : Out := done s (dmcRequestAccept c.val k.val s)
def execDmcReadDone (c : Fin 12) (k : Fin 2) (i : Nat) (e : Ecc) (s : State) : Out := done s (dmcReadDone c.val k.val i e s)
def execDmcWriteDone (c : Fin 12) (k : Fin 2) (i : Nat) (s : State) : Out := done s (dmcWriteDone c.val k.val i s)
def execRmw (c : Fin 12) (k : Fin 2) (e : Ecc) (s : State) : Out := done s (rmw c.val k.val e s)
def execIdleClose (c : Fin 12) (k : Fin 2) (b : Fin 128) (s : State) : Out := done s (idleClose c.val k.val b.val s)
def execRefresh (c : Fin 12) (r : Fin 4) (s : State) : Out := done s (refresh c.val r.val s)
def execRefreshRateNeed (c : Fin 12) (r : Fin 4) (high : Bool) (s : State) : Out :=
  done s (refreshRateNeed c.val r.val high s)
def execDimmAlert (l : Nat) (crc : Bool) (failures : Nat) (s : State) : Out := done s (dimmAlert l crc failures s)
def execScrubLine (c : Fin 12) (k : Fin 2) (e : Ecc) (s : State) : Out := done s (scrubLine c.val k.val e s)
def execMigrationCopyStep (c : Fin 12) (k : Fin 2) (e : Ecc) (s : State) : Out :=
  done s (migrationCopyStep c.val k.val e s)
def execPoisonFillStep (c : Fin 12) (k : Fin 2) (s : State) : Out := done s (poisonFillStep c.val k.val s)
def execFreqGo (target : Fin 4) (s : State) : Out := done s (freqGo target.val s)
def execFreqSelfRefresh (s : State) : Out := done s (freqSelfRefresh s)
def execFreqChangeDone (s : State) : Out := done s (freqChangeDone s)

end Sys2Proof.Machine
end

