-- ==== Sys2Proof/Machine/Pools.lean ====
section
/-! DEFINITION. The buffer pool manager (R278 to R288): pools, caches, rings, ownership and its checks. -/

namespace Sys2Proof.Machine

/-- COUNT and SIZE of a pool. -/
def State.poolCount (s : State) (p : Nat) : Nat := s.fld (Reg.BPM_POOL_CFG p) Fld.BPM_POOL_CFG_COUNT
def State.poolSize (s : State) (p : Nat) : Nat := s.fld (Reg.BPM_POOL_CFG p) Fld.BPM_POOL_CFG_SIZE

/-- A buffer pointer (R279). -/
def ptrOf (p i : Nat) : Nat := i % 16777216 + 16777216 * (p % 4)
def ptrPool (x : Nat) : Nat := x / 16777216 % 4
def ptrIndex (x : Nat) : Nat := x % 16777216

/-- The quadrant whose cache a requester draws from (R280). -/
def reqQuad (r : Nat) : Nat := if r < 16 then r / 4 else if r < 20 then r - 16 else 0

/-- The block of a requester as a fault source (R285). -/
def reqSource (r : Nat) : Nat :=
  if r < 16 then srcShard r else if r < 20 then srcTm (r - 16) else if r = 20 then srcHif else srcComplex (r - 21)

def reqTm (q : Nat) : Nat := 16 + q
def reqHif : Nat := 20

def State.cache (s : State) (q p : Nat) : PoolCache := Tbl.get PoolCache.init s.pools.caches (4 * q + p)

def State.setCache (s : State) (q p : Nat) (x : PoolCache) : State :=
  { s with pools := { s.pools with caches := Tbl.set PoolCache.init s.pools.caches (4 * q + p) x } }

def State.ring (s : State) (p : Nat) : PoolRing := Tbl.get PoolRing.init s.pools.rings p

def State.setRing (s : State) (p : Nat) (x : PoolRing) : State :=
  { s with pools := { s.pools with rings := Tbl.set PoolRing.init s.pools.rings p x } }

def State.bpmBump (s : State) (i : Nat) : State := s.bump (Reg.BPM_CNT i)

/-- A pool-1 buffer is not withdrawn: its quadrant's park memory is in a domain that is ON (R278, R433). -/
def State.ptrOn (s : State) (x : Nat) : Bool := if ptrPool x = 1 then s.domOn (64 + ptrIndex x / 16384) else true

/-- Pointers in a cache that can be granted; withdrawn ones take no place in it (assumption log 25). -/
def State.cached (s : State) (q p : Nat) : Nat := ((s.cache q p).free.filter s.ptrOn).length

/-- POOL_STATUS[p].FREE. -/
def State.poolFree (s : State) (p : Nat) : Nat :=
  let cached := ((List.range 4).map (fun q => s.cached q p)).sum
  let r := s.ring p
  let lines := s.poolCount p / 16
  let inRing := (List.range r.lines).flatMap (fun k =>
    (List.range 16).map (fun j =>
      leNat (memRead s.dram.bytes ((s.reg (Reg.BPM_RING_BASE p)).toNat + 64 * ((r.head + k) % lines) + 4 * j) 4)))
  cached + (if p = 1 then (inRing.filter s.ptrOn).length else 16 * r.lines)

/-- Notes FREE for LOW_WATER. -/
def State.poolNote (s : State) (p : Nat) : State :=
  let f := s.poolFree p
  let low := match Tbl.get none s.pools.low p with | none => f | some x => min x f
  { s with pools := { s.pools with low := Tbl.set none s.pools.low p (some low) } }

/-- Withdraws `n` buffers of a pool (R286). -/
def State.poolWithdraw (s : State) (p n : Nat) : State :=
  (s.bumpBy (Reg.BPM_CNT (Cnt.BPM_WITHDRAWN + p)) n).orFld Reg.BPM_STATUS Fld.BPM_STATUS_WITHDRAWN_SEEN (2 ^ p)

/-! ### Metadata (R284) -/

/-- The metadata byte of a buffer; `none` where its line reads as lost, or where `e` is uncorrectable in the pool-1 metadata
(R286). -/
def State.metaRead (s : State) (x : Nat) (e : Ecc := .ok) : Option Nat × State :=
  if ptrPool x = 1 then
    let v := Tbl.get 0 s.pools.meta1 (ptrIndex x)
    match e with
    | .ok => (some v, s)
    | .corrected => (some v, s.bpmBump Cnt.BPM_PARK_ECC_CORRECTED)
    | .uncorrectable => (none, s)
  else
    let a := (s.reg (Reg.BPM_META_BASE (ptrPool x))).toNat + ptrIndex x
    let r := s.dramRead (a / 64) true .ok
    match r.1 with
    | none => (none, r.2)
    | some b => (some (b.getD (a % 64) 0#8).toNat, r.2)

/-- Writes a metadata byte that has just been read. -/
def State.metaWrite (s : State) (x v : Nat) : State :=
  if ptrPool x = 1 then { s with pools := { s.pools with meta1 := Tbl.set 0 s.pools.meta1 (ptrIndex x) v } }
  else
    let a := (s.reg (Reg.BPM_META_BASE (ptrPool x))).toNat + ptrIndex x
    let s := s.countRmw (a / 64)
    (s.dramWrite (a / 64) (bytesPut (s.lineBytes (a / 64)) (a % 64) [BitVec.ofNat 8 v]) true).2

/-! ### Rings and caches (R281) -/

/-- Device line of line k of a pool's ring. -/
def State.ringLine (s : State) (p k : Nat) : Nat :=
  (s.reg (Reg.BPM_RING_BASE p)).toNat / 64 + k % (max 1 (s.poolCount p / 16))

/-- The pool is in low mode. -/
def State.lowMode (s : State) (p : Nat) : Bool := decide (16 * (s.ring p).lines < 1024)

def State.showMode (s : State) (p : Nat) : State :=
  let m := s.fld Reg.BPM_STATUS Fld.BPM_STATUS_LOW_MODE
  s.setFld Reg.BPM_STATUS Fld.BPM_STATUS_LOW_MODE
    (if s.lowMode p then m ||| 2 ^ p else if m.testBit p then m - 2 ^ p else m)

/-- One line of pointers moves from the ring into a cache. -/
def State.refillLine (s : State) (q p : Nat) : State :=
  let r := s.ring p
  let l := s.ringLine p r.head
  let y := (s.bpmBump Cnt.BPM_RING_LINE_READS).dramRead l true .ok
  let s := y.2.setRing p { head := r.head + 1, lines := r.lines - 1 }
  let s := s.freeEntry (lnkPool p) 16
  let s :=
    match y.1 with
    | none => s.poolWithdraw p 16
    | some b =>
      let c := s.cache q p
      s.setCache q p { c with free := c.free ++ (List.range 16).map (fun j => leNat (bytesAt b (4 * j) 4)) }
  s.showMode p

/-- CACHE_REFILL: below its threshold a cache takes lines until it holds its target or the ring is empty. -/
def cacheRefill (q p : Nat) (s : State) : State :=
  let start := if s.lowMode p then 16 else 128
  if start ≤ s.cached q p ∨ !s.dmcReady ∨ s.down unitBpm then s
  else
    (forUpTo 16 (fun _ t =>
      let goal := if t.lowMode p then 64 else 256
      if t.cached q p < goal ∧ 0 < (t.ring p).lines then t.refillLine q p else t) s).poolNote p

/-- One line of pointers moves from a cache into the ring. -/
def State.spillLine (s : State) (q p : Nat) : State :=
  let c := s.cache q p
  let r := s.ring p
  let out := c.free.drop (c.free.length - 16)
  let y := (s.bpmBump Cnt.BPM_RING_LINE_WRITES).dramWrite (s.ringLine p (r.head + r.lines))
    (out.flatMap (fun x => leBytes 4 x)) true
  let s := (y.2.setCache q p { c with free := c.free.take (c.free.length - 16) }).useCredit (lnkPool p) 16
  let s := if y.1 then s.setRing p { r with lines := r.lines + 1 } else s.poolWithdraw p 16
  s.showMode p

/-! ### Allocate, give, free (R282 to R286) -/

/-- What the BPM answers to an allocation. -/
inductive PoolAns where
  | granted (ptr : Nat)
  | empty
  | wait
  deriving DecidableEq, Repr

/-- Takes pointers from a cache until one's metadata can be written; lost ones are withdrawn (R286); `e`: what reading the first
one's metadata meets. -/
def State.takePtr (s : State) (r q p : Nat) : Nat → Ecc → Option Nat × State
  | 0, _ => (none, s)
  | n + 1, e =>
    let c := s.cache q p
    match c.free.find? s.ptrOn with
    | none => (none, s)
    | some x =>
      let s := s.setCache q p { c with free := c.free.erase x, last := r }
      let m := s.metaRead x e
      match m.1 with
      | none => (m.2.poolWithdraw p 1).takePtr r q p n .ok
      | some _ => (some x, m.2.metaWrite x (1 + 2 * r))

/-- The request of r to a cache waits, or waits no longer. -/
def State.setAsk (s : State) (r p : Nat) (on : Bool) : State :=
  let q := reqQuad r
  let c := s.cache q p
  let l := c.asks.filter (fun x => x != r)
  s.setCache q p { c with asks := if on then l ++ [r] else l }

/-- Requester w's request still waits: of a shard, where one of its threads waits for it. -/
def State.askLive (s : State) (w : Nat) : Bool :=
  decide (16 ≤ w) || (s.shard w).threads.any (fun e => e.2.read == .poolWait)

/-- Waiting requests of other requesters that the rotation serves before r's (R282). -/
def State.askedBefore (s : State) (r p : Nat) : Nat :=
  let c := s.cache (reqQuad r) p
  let turn (w : Nat) : Nat := (w + 63 - c.last) % 64
  (c.asks.filter (fun w => w != r && decide (turn w < turn r) && s.askLive w)).length

/-- An allocation is answered POOL_EMPTY (R282). -/
def State.poolNone (s : State) (r p : Nat) : State :=
  ((s.setAsk r p false).bpmBump (Cnt.BPM_POOL_EMPTY + p)).orFld Reg.BPM_STATUS Fld.BPM_STATUS_EMPTY_SEEN (2 ^ p)

/-- An allocation from pool p by requester r; `e`: what reading the metadata of the pointer it takes meets.  It waits for the BPM,
for the DMCs (R273), for a refill or for its turn. -/
def State.poolAlloc (s : State) (r p : Nat) (e : Ecc := .ok) : PoolAns × State :=
  let q := reqQuad r
  if !s.flag Reg.BPM_STATUS Fld.BPM_STATUS_READY ∨ (p ≠ 1 ∧ !s.dmcReady) then (.wait, s.setAsk r p true)
  else if s.poolCount p = 0 ∨ s.down unitBpm then (.empty, s.poolNone r p)
  else
    let t := if s.cached q p ≤ s.askedBefore r p then (none, s) else s.takePtr r q p (s.cache q p).free.length e
    match t.1 with
    | some x => (.granted x, ((t.2.setAsk r p false).bpmBump (Cnt.BPM_ALLOC + p)).poolNote p)
    | none => if (s.ring p).lines = 0 then (.empty, t.2.poolNone r p) else (.wait, t.2.setAsk r p true)

/-- The smallest pool that fits a length (R280). -/
def State.fitPool (s : State) (len : Nat) : Option Nat :=
  (List.range 4).find? (fun p => s.poolCount p != 0 && decide (len ≤ s.poolSize p))

/-- A failed check (R285). -/
def State.poolFail (s : State) (r x cause owner : Nat) : State :=
  let s := (s.setFld Reg.BPM_STATUS Fld.BPM_STATUS_FREE_ERR 1).bpmBump
    (if cause = 1 then Cnt.BPM_DOUBLE_FREE else if cause = 4 then Cnt.BPM_BAD_POINTER else Cnt.BPM_NON_OWNER_FREE)
  let a := Reg.BPM_ERR
  let s :=
    if s.flag a Fld.BPM_ERR_VALID then s
    else
      (((((s.setFld a Fld.BPM_ERR_INDEX (ptrIndex x)).setFld a Fld.BPM_ERR_POOL (ptrPool x)).setFld a
        Fld.BPM_ERR_REQUESTER r).setFld a Fld.BPM_ERR_CAUSE cause).setFld a Fld.BPM_ERR_OWNER owner).setFld a Fld.BPM_ERR_VALID 1
  s.detect (reqSource r) 0x025 1 x

/-- The check of a free or give (R284, R285): the metadata's owner, or the failure's cause and the owner found. -/
def State.poolCheck (s : State) (r x : Nat) (give : Bool) (e : Ecc := .ok) : Option (Option (Nat × Nat)) × State :=
  if s.poolCount (ptrPool x) ≤ ptrIndex x ∨ 4 ≤ x / 16777216 then (some (some (4, 0)), s)
  else
    let m := s.metaRead x e
    match m.1 with
    | none => (none, m.2)
    | some v =>
      if v % 2 = 0 then (some (some (1, v / 2 % 64)), m.2)
      else if v / 2 % 64 ≠ r then (some (some (if give then 3 else 2, v / 2 % 64)), m.2)
      else (some none, m.2)

/-- A free by requester r: it waits at its requester while the cache is full (R282) or the DMCs do not accept (R273); `e`: what
reading its metadata meets. -/
def State.poolRelease (s : State) (r x : Nat) (e : Ecc := .ok) : State :=
  let p := ptrPool x
  let q := reqQuad r
  if s.down unitBpm ∨ !s.flag Reg.BPM_STATUS Fld.BPM_STATUS_READY then s
  else if 512 ≤ s.cached q p ∨ (p ≠ 1 ∧ !s.dmcReady) then
    s.setCache q p { s.cache q p with frees := (s.cache q p).frees ++ [(r, x)] }
  else
    let c := s.poolCheck r x false e
    match c.1 with
    | none => c.2.poolWithdraw p 1
    | some (some e) => c.2.poolFail r x e.1 e.2
    | some none =>
      let s := c.2.metaWrite x 0
      let k := s.cache q p
      ((s.setCache q p { k with free := k.free ++ [x] }).bpmBump (Cnt.BPM_FREE + p)).poolNote p

/-- CACHE_SPILL: above its threshold a cache gives lines back until it holds its target; frees that waited for room are applied
(R282). -/
def cacheSpill (q p : Nat) (s : State) : State :=
  if !s.dmcReady ∨ s.down unitBpm then s
  else
    let start := if s.lowMode p then 64 else 384
    let s := if s.cached q p ≤ start then s
      else
        (forUpTo 32 (fun _ t =>
          let goal := if t.lowMode p then 64 else 256
          if goal < t.cached q p ∧ 16 ≤ t.credit (lnkPool p) then t.spillLine q p else t) s).poolNote p
    let l := (s.cache q p).frees
    forEach l (fun f t => t.poolRelease f.1 f.2) (s.setCache q p { s.cache q p with frees := [] })

/-- A give by requester r to requester w; `e`: what reading its metadata meets. -/
def State.poolHand (s : State) (r x w : Nat) (e : Ecc := .ok) : State :=
  if s.down unitBpm ∨ !s.flag Reg.BPM_STATUS Fld.BPM_STATUS_READY then s
  else
    let c := s.poolCheck r x true e
    match c.1 with
    | none => c.2.poolWithdraw (ptrPool x) 1
    | some (some e) => c.2.poolFail r x e.1 e.2
    | some none => (c.2.metaWrite x (1 + 2 * w)).bpmBump Cnt.BPM_GIVES

/-! ### Buffer contents -/

/-- Stores a frame or message in a buffer. -/
def State.bufWrite (s : State) (x : Nat) (bytes : List Byte) : State :=
  if ptrPool x = 1 then { s with pools := { s.pools with park := memWrite s.pools.park (512 * ptrIndex x) bytes } }
  else
    s.dramStore ((s.reg (Reg.BPM_BUF_BASE (ptrPool x))).toNat + ptrIndex x * s.poolSize (ptrPool x)) true
      (bytes.length / 64 + 2) bytes

/-- Reads a buffer; whether a line of it was lost.  A park-memory buffer meets `e`: an uncorrectable error reads it as lost
(R286). -/
def State.bufRead (s : State) (x len : Nat) (e : Ecc := .ok) : List Byte × Bool × State :=
  if ptrPool x = 1 then
    match e with
    | .ok => (memRead s.pools.park (512 * ptrIndex x) len, false, s)
    | .corrected => (memRead s.pools.park (512 * ptrIndex x) len, false, s.bpmBump Cnt.BPM_PARK_ECC_CORRECTED)
    | .uncorrectable => (List.replicate len 0#8, true, s)
  else
    s.dramBytes ((s.reg (Reg.BPM_BUF_BASE (ptrPool x))).toNat + ptrIndex x * s.poolSize (ptrPool x)) true (len / 64 + 2) len

/-! ### Commands -/

/-- POOL_ALLOCATE: the pointer granted is left in the read-out; `e`: what reading its metadata meets. -/
def poolAllocate (r p : Nat) (e : Ecc) (s : State) : State :=
  let x := s.poolAlloc r p e
  match x.1 with
  | .granted ptr => { x.2 with readback := [BitVec.ofNat 64 ptr] }
  | .empty => x.2
  | .wait => x.2

/-- META_READ: BPM.META_CMD READ; `e`: what reading it meets. -/
def bpmMetaRead (i p : Nat) (e : Ecc) (s : State) : State :=
  let a := Reg.BPM_META_CMD
  let s := (s.setFld a Fld.BPM_META_CMD_INDEX i).setFld a Fld.BPM_META_CMD_POOL p
  if s.poolCount p ≤ i then s.setFld a Fld.BPM_META_CMD_ERR 1
  else
    let m := s.metaRead (ptrOf p i) e
    match m.1 with
    | none => m.2.setFld a Fld.BPM_META_CMD_LOST 1
    | some v =>
      ((m.2.setFld a Fld.BPM_META_CMD_LOST 0).setFld a Fld.BPM_META_CMD_ALLOC (v % 2)).setFld a Fld.BPM_META_CMD_OWNER (v / 2)

def execPoolAllocate (r : Fin 23) (p : Fin 4 × Ecc) (s : State) : Out := done s (poolAllocate r.val p.1.val p.2 s)
def execPoolFree (r : Fin 23) (p : Fin 4) (i : Fin 16777216 × Ecc) (s : State) : Out :=
  done s (s.poolRelease r.val (ptrOf p.val i.1.val) i.2)
def execPoolGive (r : Fin 23) (p : Fin 4) (i : Fin 16777216 × Ecc) (w : Fin 23) (s : State) : Out :=
  done s (s.poolHand r.val (ptrOf p.val i.1.val) w.val i.2)
def execCacheRefill (q : Fin 4) (p : Fin 4) (s : State) : Out := done s (cacheRefill q.val p.val s)
def execCacheSpill (q : Fin 4) (p : Fin 4) (s : State) : Out := done s (cacheSpill q.val p.val s)
def execMetaRead (i : Fin 16777216 × Ecc) (p : Fin 4) (s : State) : Out := done s (bpmMetaRead i.1.val p.val i.2 s)

end Sys2Proof.Machine
end

