-- ==== Sys2Proof/Machine/MacTable.lean ====
section
/-! DEFINITION. The MAC tables (R82 to R87): lookups, learn events and the learn bus, the learners, the walkers, and the
commands of SLC.MAC_CMD. -/

namespace Sys2Proof.Machine

/-- CT, in units of 1.024 µs (R82), kept modulo 2^32. -/
def timeCt (mono : Nat) : Nat := (mono * 5 / 4096) % 2 ^ 32

/-- S, in seconds (R82). -/
def timeS (mono : Nat) : Nat := mono / 800000000

/-- The 128 bits of an entry (R82). -/
def MacEntry.encode (e : MacEntry) : Nat :=
  e.mac % 2 ^ 48 + (e.bd % 4096) * 2 ^ 48 + bit e.valid * 2 ^ 60 + bit e.static_ * 2 ^ 61 + bit e.locked * 2 ^ 62
    + bit e.hit * 2 ^ 63 + (e.port % 512) * 2 ^ 64 + (e.moves % 32) * 2 ^ 73 + (e.moveEpoch % 16) * 2 ^ 78
    + (e.lockExp % 4096) * 2 ^ 82 + bit e.agedOnce * 2 ^ 95 + (e.lastSeen % 2 ^ 32) * 2 ^ 96

/-- The entry that 128 bits spell (R82). -/
def MacEntry.decode (x : Nat) : MacEntry :=
  { mac := x % 2 ^ 48, bd := (x / 2 ^ 48) % 4096, valid := x.testBit 60, static_ := x.testBit 61, locked := x.testBit 62
    hit := x.testBit 63, port := (x / 2 ^ 64) % 512, moves := (x / 2 ^ 73) % 32, moveEpoch := (x / 2 ^ 78) % 16
    lockExp := (x / 2 ^ 82) % 4096, agedOnce := x.testBit 95, lastSeen := (x / 2 ^ 96) % 2 ^ 32 }

/-- The key of entry `index` of a quadrant's table. -/
def macKey (q index : Nat) : Nat := 524288 * q + index

def State.mac (s : State) (q index : Nat) : MacEntry := Tbl.get MacEntry.init s.slice.macs (macKey q index)

def State.setMac (s : State) (q index : Nat) (e : MacEntry) : State :=
  { s with slice := { s.slice with macs := Tbl.set MacEntry.init s.slice.macs (macKey q index) e } }

/-- The bucket of an address (R83). -/
def State.macBucket (s : State) (q bd mac : Nat) : Nat :=
  (sipHash (s.reg (Reg.SLC_HASH_KEY0 (4 * q))) (s.reg (Reg.SLC_HASH_KEY1 (4 * q)))
    (beBytes 2 bd ++ beBytes 6 mac)).toNat % 65536

/-- The lowest way of the address's bucket that holds it (R83), as an index. -/
def State.macFind (s : State) (q bd mac : Nat) : Option Nat :=
  let b := s.macBucket q bd mac
  ((List.range 8).map (fun w => 8 * b + w)).find? (fun i =>
    let e := s.mac q i
    e.valid && e.bd == bd && e.mac == mac)

/-- Counts an event in a quadrant's MAC_CNT. -/
def State.macBump (s : State) (q i : Nat) : State := s.bump (Reg.SLC_MAC_CNT (4 * q) i)

/-- A quadrant's MAC_CTL.LEARN_EN. -/
def State.learnEn (s : State) (q : Nat) : Bool := s.flag (Reg.SLC_MAC_CTL (4 * q)) Fld.SLC_MAC_CTL_LEARN_EN

/-- The SA lookup of a frame (R84): it emits a learn event, dropped and counted where the slice's FIFO is full. -/
def State.learnEvent (s : State) (p : Nat) (hv : List Byte) (bd : Nat) : State :=
  let sl := sliceOf p
  let q := quadOf p
  let mac := beNat (bytesAt hv 6 6)
  let en := s.flag (Reg.SLC_PCFG sl (p % 32)) Fld.SLC_PCFG_LEARN_EN && s.flag (Reg.SLC_VLAN sl bd) Fld.SLC_VLAN_LEARN_EN
    && s.learnEn q
  if mac = 0 ∨ mac.testBit 40 ∨ !en then s
  else
    let ct := timeCt s.clk.mono
    let emit :=
      match s.macFind q bd mac with
      | none => true
      | some i =>
        let e := s.mac q i
        e.port != p ||
          (if s.flag (Reg.SLC_MAC_CTL (4 * q)) Fld.SLC_MAC_CTL_AGE_MODE then !e.hit || e.agedOnce
           else decide (s.fld (Reg.SLC_MAC_AGE (4 * q)) Fld.SLC_MAC_AGE_LIMIT / 4 ≤ (ct + 2 ^ 32 - e.lastSeen) % 2 ^ 32))
    if !emit then s
    else
      let l := Tbl.get [] s.slice.learn sl
      if 64 ≤ l.length then
        (s.bump (Reg.SLC_CNT sl Cnt.SLC_LEARN_OVF)).setFld (Reg.SLC_STATUS sl) Fld.SLC_STATUS_LEARN_OVF 1
      else
        let e : LearnEvent := { bd := bd, mac := mac, port := p, ct := ct, s := timeS s.clk.mono }
        { s with slice := { s.slice with learn := Tbl.set [] s.slice.learn sl (l ++ [e]) } }

/-- The next slice in rotation with a waiting event. -/
def State.nextLearner (s : State) : Option Nat :=
  ((List.range 16).map (fun i => (s.slice.lastSlice + 1 + i) % 16)).find? (fun i => !(Tbl.get [] s.slice.learn i).isEmpty)

/-- An event reaches a quadrant's learner (R84): discarded where LEARN_EN is 0, dropped where the queue is full. -/
def State.toLearner (s : State) (q : Nat) (e : LearnEvent) : State :=
  let l := Tbl.get [] s.slice.learners q
  if !s.learnEn q then s
  else if 1024 ≤ l.length then s.macBump q Cnt.MAC_LEARN_DROP
  else { s with slice := { s.slice with learners := Tbl.set [] s.slice.learners q (l ++ [e]) } }

/-- LEARN_BUS_TRANSFER (R84): one event, slices in rotation, to all four learners. -/
def learnBusTransfer (s : State) : State :=
  match s.nextLearner with
  | none => s
  | some i =>
    match Tbl.get [] s.slice.learn i with
    | [] => s
    | e :: r =>
      let t := { s with slice := { s.slice with learn := Tbl.set [] s.slice.learn i r, lastSlice := i } }
      forUpTo 4 (fun q t => t.toLearner q e) t

/-- Step 2 of R85: an entry refreshed. -/
def MacEntry.refresh (e : MacEntry) (ct : Nat) : MacEntry := { e with lastSeen := ct, hit := true, agedOnce := false }

/-- A learner applies one event (R85). -/
def State.learn (s : State) (q : Nat) (v : LearnEvent) : State :=
  match s.macFind q v.bd v.mac with
  | none =>
    let b := s.macBucket q v.bd v.mac
    match ((List.range 8).map (fun w => 8 * b + w)).find? (fun i => !(s.mac q i).valid) with
    | none => s.macBump q Cnt.MAC_LEARN_FULL
    | some i =>
      (s.setMac q i { MacEntry.init with mac := v.mac, bd := v.bd, valid := true, port := v.port, lastSeen := v.ct, hit := true }).macBump
        q Cnt.MAC_LEARN_NEW
  | some i =>
    let e := s.mac q i
    if e.port = v.port then s.setMac q i (e.refresh v.ct)
    else if e.static_ then s.macBump q Cnt.MAC_STATIC_MOVE
    else if e.locked then s.macBump q Cnt.MAC_MOVE_BLOCKED
    else
      let e := if e.moveEpoch ≠ v.s % 16 then { e with moves := 0, moveEpoch := v.s % 16 } else e
      if e.moves = s.fld (Reg.SLC_MAC_MOVE (4 * q)) Fld.SLC_MAC_MOVE_LIMIT then
        let exp := (v.s + s.fld (Reg.SLC_MAC_MOVE (4 * q)) Fld.SLC_MAC_MOVE_HOLD_S) % 4096
        ((s.setMac q i { e with locked := true, lockExp := exp }).macBump q Cnt.MAC_ADDR_LOCKED).macBump q Cnt.MAC_MOVE_BLOCKED
      else
        (s.setMac q i ({ e with port := v.port, moves := e.moves + 1 }.refresh v.ct)).macBump q Cnt.MAC_STATION_MOVE

/-- LEARNER_APPLY (R85). -/
def learnerApply (q : Nat) (s : State) : State :=
  match Tbl.get [] s.slice.learners q with
  | [] => s
  | v :: r =>
    State.learn { s with slice := { s.slice with learners := Tbl.set [] s.slice.learners q r } } q v

/-- What the walker leaves of an entry (R86): the entry, and whether it aged out. -/
def State.walkEntry (s : State) (q : Nat) (aging : Bool) (e : MacEntry) : MacEntry × Bool :=
  if !e.valid ∨ e.static_ then (e, false)
  else
    let t := timeS s.clk.mono
    let e := if e.moveEpoch ≠ t % 16 then { e with moves := 0 } else e
    let e := if e.locked ∧ (t % 4096 + 4096 - e.lockExp) % 4096 < 2048 then { e with locked := false, moves := 0 } else e
    if s.flag (Reg.SLC_MAC_CTL (4 * q)) Fld.SLC_MAC_CTL_AGE_MODE then
      if !aging then (e, false)
      else if e.hit then ({ e with hit := false }, false)
      else if !e.agedOnce then ({ e with agedOnce := true }, false)
      else (MacEntry.init, true)
    else if s.fld (Reg.SLC_MAC_AGE (4 * q)) Fld.SLC_MAC_AGE_LIMIT ≤ (timeCt s.clk.mono + 2 ^ 32 - e.lastSeen) % 2 ^ 32 then
      (MacEntry.init, true)
    else (e, false)

/-- An entry matches a FLUSH's filter (R87): static entries never do. -/
def MacFlush.hits (f : MacFlush) (e : MacEntry) : Bool :=
  e.valid && !e.static_
    && (f.filter == 0 || (f.filter == 1 && e.port == f.port) || (f.filter == 2 && e.bd == f.bd)
        || (f.filter == 3 && e.port == f.port && e.bd == f.bd))

/-- One entry of the visited bucket. DESIGN CHOICE (assumption log 80): an entry that FLUSH removes is not counted in AGED_OUT. -/
def State.walkOne (s : State) (q i : Nat) (aging : Bool) : State :=
  let e := s.mac q i
  let flushed := match Tbl.get none s.slice.flush q with | none => false | some f => f.hits e
  if flushed then s.setMac q i MacEntry.init
  else
    let x := s.walkEntry q aging e
    let t := s.setMac q i x.1
    if x.2 then t.macBump q Cnt.MAC_AGED_OUT else t

/-- WALKER_VISIT (R86, R87): one bucket; at bucket 0 a pass begins, and in sweeper mode it ages when SWEEP_PERIOD_MS has
passed since the last aging pass began. -/
def walkerVisit (q : Nat) (s : State) : State :=
  let b := Tbl.get 0 s.slice.walker q
  let due := s.flag (Reg.SLC_MAC_CTL (4 * q)) Fld.SLC_MAC_CTL_AGE_MODE &&
    decide (msTicks (s.fld (Reg.SLC_MAC_AGE (4 * q)) Fld.SLC_MAC_AGE_SWEEP_PERIOD_MS) ≤ s.clk.mono - Tbl.get 0 s.slice.lastAging q)
  let aging := if b = 0 then due else Tbl.get false s.slice.aging q
  let s := { s with slice := { s.slice with
    aging := Tbl.set false s.slice.aging q aging
    lastAging := if b = 0 ∧ due then Tbl.set 0 s.slice.lastAging q s.clk.mono else s.slice.lastAging
    walker := Tbl.set 0 s.slice.walker q ((b + 1) % 65536) } }
  let s := forUpTo 8 (fun w t => t.walkOne q (8 * b + w) aging) s
  let s := if b = 65535 then
      s.setFld (Reg.SLC_MAC_PASS (4 * q)) Fld.SLC_MAC_PASS_PASSES (s.fld (Reg.SLC_MAC_PASS (4 * q)) Fld.SLC_MAC_PASS_PASSES + 1)
    else s
  match Tbl.get none s.slice.flush q with
  | none => s
  | some f =>
    if f.left ≤ 1 then
      State.setFld { s with slice := { s.slice with flush := Tbl.set none s.slice.flush q none } }
        (Reg.SLC_MAC_CMD (4 * q)) Fld.SLC_MAC_CMD_BUSY 0
    else { s with slice := { s.slice with flush := Tbl.set none s.slice.flush q (some { f with left := f.left - 1 }) } }

/-! ### MAC_CMD (R87, R463) -/

/-- A command is running. -/
def State.macBusy (s : State) (q : Nat) : Bool := s.flag (Reg.SLC_MAC_CMD (4 * q)) Fld.SLC_MAC_CMD_BUSY

def State.macErr (s : State) (q : Nat) : State := s.setFld (Reg.SLC_MAC_CMD (4 * q)) Fld.SLC_MAC_CMD_ERR 1

/-- MAC_DATA0 and MAC_DATA1 as one number. -/
def State.macData (s : State) (q : Nat) : Nat :=
  (s.reg (Reg.SLC_MAC_DATA0 (4 * q))).toNat + (s.reg (Reg.SLC_MAC_DATA1 (4 * q))).toNat * 2 ^ 64

def State.setMacData (s : State) (q : Nat) (e : MacEntry) : State :=
  (s.setReg (Reg.SLC_MAC_DATA0 (4 * q)) (BitVec.ofNat 64 e.encode)).setReg (Reg.SLC_MAC_DATA1 (4 * q))
    (BitVec.ofNat 64 (e.encode / 2 ^ 64))

def macRead (q index : Nat) (s : State) : State :=
  if s.macBusy q then s.macErr q
  else (s.setFld (Reg.SLC_MAC_CMD (4 * q)) Fld.SLC_MAC_CMD_INDEX index).setMacData q (s.mac q index)

/-- Another valid entry of the quadrant's table holds the same (BD, MAC). -/
def State.macDuplicate (s : State) (q index : Nat) (e : MacEntry) : Bool :=
  e.valid && s.slice.macs.any (fun x =>
    decide (x.1 / 524288 = q) && decide (x.1 ≠ macKey q index) && x.2.valid && x.2.bd == e.bd && x.2.mac == e.mac)

def macWrite (q index : Nat) (s : State) : State :=
  if s.macBusy q then s.macErr q
  else
    let s := s.setFld (Reg.SLC_MAC_CMD (4 * q)) Fld.SLC_MAC_CMD_INDEX index
    let e := MacEntry.decode (s.macData q)
    if s.macDuplicate q index e then s.macErr q else s.setMac q index e

def macSearch (q : Nat) (s : State) : State :=
  if s.macBusy q then s.macErr q
  else
    let e := MacEntry.decode (s.macData q)
    match s.macFind q e.bd e.mac with
    | none => s.macErr q
    | some i => (s.setFld (Reg.SLC_MAC_CMD (4 * q)) Fld.SLC_MAC_CMD_INDEX i).setMacData q (s.mac q i)

def macFlush (q filter port bd : Nat) (s : State) : State :=
  if s.macBusy q then s.macErr q
  else
    let a := Reg.SLC_MAC_CMD (4 * q)
    let s := ((s.setFld a Fld.SLC_MAC_CMD_FILTER filter).setFld a Fld.SLC_MAC_CMD_FL_PORT port).setFld a
      Fld.SLC_MAC_CMD_FL_BD bd
    let f : MacFlush := { filter := filter, port := port, bd := bd, left := 65536 }
    State.setFld { s with slice := { s.slice with flush := Tbl.set none s.slice.flush q (some f) } } a
      Fld.SLC_MAC_CMD_BUSY 1

def execLearnBusTransfer (s : State) : Out := done s (learnBusTransfer s)
def execLearnerApply (q : Fin 4) (s : State) : Out := done s (learnerApply q.val s)
def execWalkerVisit (q : Fin 4) (s : State) : Out := done s (walkerVisit q.val s)
def execMacRead (q : Fin 4) (index : Fin 524288) (s : State) : Out := done s (macRead q.val index.val s)
def execMacWrite (q : Fin 4) (index : Fin 524288) (s : State) : Out := done s (macWrite q.val index.val s)
def execMacSearch (q : Fin 4) (s : State) : Out := done s (macSearch q.val s)
def execMacFlush (q : Fin 4) (filter : Fin 4) (port : Fin 512) (bd : Fin 4096) (s : State) : Out :=
  done s (macFlush q.val filter.val port.val bd.val s)

end Sys2Proof.Machine
end

