-- ==== Sys2Proof/Machine/Routing.lean ====
section
/-! DEFINITION. What slices and fallback units share: route and access-rule keys (R94), the decision of R80, samplers
(R310) and the hand-over of a TM descriptor to the TMs (R295, R296, R306, R308, R309). -/

namespace Sys2Proof.Machine

/-! ### Result words (R165) -/

def r0Disp : Fld := ⟨0, 4⟩
def r0Egress : Fld := ⟨4, 9⟩
def r0Qclass : Fld := ⟨13, 3⟩
def r0Colour : Fld := ⟨16, 2⟩
def r0Mcast : Fld := ⟨18, 1⟩
def r0Mirror : Fld := ⟨19, 1⟩
def r0Sample : Fld := ⟨20, 1⟩
def r0PtpAct : Fld := ⟨21, 2⟩
def r0PtpCap : Fld := ⟨23, 1⟩
def r0PtpOff : Fld := ⟨24, 8⟩
def r0CsumOff : Fld := ⟨32, 8⟩
def r0HostQ : Fld := ⟨40, 6⟩
def r0McGroup : Fld := ⟨48, 16⟩
def r1Nh : Fld := ⟨0, 20⟩
def r1Edit0 : Fld := ⟨32, 32⟩

/-- RES0 of a punt to a host queue. -/
def puntRes0 (queue colour : Nat) : Word64 :=
  (((0 : Word64).put r0Disp 2).put r0HostQ queue).put r0Colour colour

/-! ### Keys (R94) -/

/-- The outer IP header of a frame, by its summary. -/
def outerIp (hv : List Byte) (w : BitVec 128) : Option IpInfo := (parseL2 hv (sumGet w sumFrameLen)).ip

/-- An address in a 128-bit field: IPv4 as IPv4-mapped. -/
def addr128 (v6 : Bool) (a : List Byte) : Nat := if v6 then beNat a else 0xFFFF * 2 ^ 32 + beNat a

/-- The route search of a frame: table T0 or T1 and its key; `none` without an outer IP header. -/
def routeKey (hv : List Byte) (w : BitVec 128) : Option (Nat × BitVec 320) :=
  match outerIp hv w with
  | none => none
  | some i =>
    let zone := sumGet w sumZone
    let dst := beNat (keyAddrs hv i).2
    if i.v6 then some (1, BitVec.ofNat 320 (zone * 2 ^ 144 + dst * 2 ^ 16))
    else some (0, BitVec.ofNat 320 (zone * 2 ^ 64 + dst * 2 ^ 32))

/-- The access-rule key of a key layer. -/
def aclKeyOf (hv : List Byte) (w : BitVec 128) (i : IpInfo) : BitVec 320 :=
  let a := keyAddrs hv i
  let p := keyPorts hv i
  BitVec.ofNat 320 (sumGet w sumZone * 2 ^ 304 + i.proto * 2 ^ 296 + p.1 * 2 ^ 280 + p.2 * 2 ^ 264
    + addr128 i.v6 a.1 * 2 ^ 136 + addr128 i.v6 a.2 * 2 ^ 8 + bit i.frag * 2 ^ 7 + sumGet w sumInClass * 2 ^ 4)

/-- The access-rule key of a frame, from its outer key layer. -/
def aclKey (hv : List Byte) (w : BitVec 128) : BitVec 320 :=
  match outerIp hv w with
  | none => 0
  | some i => aclKeyOf hv w i

/-- TTL or hop limit of the outer IP header. -/
def outerTtl (hv : List Byte) (w : BitVec 128) : Nat :=
  let o := sumGet w sumL3Off
  if sumGet w sumL3Type = 2 then vecByte hv (o + 7) else vecByte hv (o + 8)

/-- ECN field of the outer IP header; 0 without one (R295). -/
def outerEcn (hv : List Byte) (w : BitVec 128) : Nat :=
  let o := sumGet w sumL3Off
  if sumGet w sumL3Type = 1 then vecByte hv (o + 1) % 4
  else if sumGet w sumL3Type = 2 then vecByte hv (o + 1) / 16 % 4 else 0

/-- What the route and access-rule results decide (R80, R95). -/
inductive RouteOut where
  | forward (r0 r1 : Word64)
  | punt
  | miss
  | fenced
  deriving DecidableEq, Repr

/-- The access rule that matched asks for a mirror copy (R95). -/
def aclMirror (acl : SearchRes) : Bool := match acl with | .hit _ x => x.getLsbD 6 | _ => false

/-- The decision of R80 from both results; `acl` is `miss` where no access-rule search is made. -/
def routeDecide (route acl : SearchRes) (colour : Nat) : RouteOut :=
  match route, acl with
  | .fenced, _ => .fenced
  | _, .fenced => .fenced
  | .miss, _ => .miss
  | .hit _ r, a =>
    let act := match a with | .hit _ x => x.toNat % 4 | _ => 0
    if r.toNat % 4 = 1 ∨ act = 1 then .punt
    else
      let qc := match a with | .hit _ x => if x.getLsbD 2 then x.get ⟨3, 3⟩ else r.get ⟨2, 3⟩ | _ => r.get ⟨2, 3⟩
      .forward (((((0 : Word64).put r0Egress (r.get ⟨5, 9⟩)).put r0Qclass qc).put r0Colour colour).put r0Mirror (bit (aclMirror a)))
        ((0 : Word64).put r1Nh (r.get ⟨14, 20⟩))

/-- A search joins those that its requester presents (R96): requesters 0 to 3 are the quadrant's slices, 4 to 7 its shards. -/
def State.askSearch (s : State) (q r : Nat) (x : SearchReq) : State :=
  let k := 8 * q + r
  { s with tmb := { s.tmb with searches := Tbl.set [] s.tmb.searches k (Tbl.get [] s.tmb.searches k ++ [x]) } }

/-! ### Samplers (R310) -/

/-- A frame is offered to sampler k: whether it is selected. -/
def State.offer (s : State) (k : Nat) : Bool × State :=
  if !s.flag (Reg.BUF_SAMP_CFG k) Fld.BUF_SAMP_CFG_EN then (false, s)
  else
    let x := Tbl.get ⟨0⟩ s.tm.samplers k
    let n := s.fld (Reg.BUF_SAMP_CFG k) Fld.BUF_SAMP_CFG_N_MINUS_1 + 1
    let s := s.bump (Reg.BUF_SAMP_OFFERED k)
    let hit := decide (n ≤ x.count + 1)
    let s := { s with tm := { s.tm with samplers := Tbl.set ⟨0⟩ s.tm.samplers k ⟨if hit then 0 else x.count + 1⟩ } }
    (hit, if hit then s.bump (Reg.BUF_SAMP_SAMPLED k) else s)

/-- SAMPLER_ENABLE: writing EN = 1 restarts the count, preloaded with an open value below N when RAND_START is 1. -/
def samplerEnable (k : Nat) (s : State) : State :=
  let a := Reg.BUF_SAMP_CFG k
  let s := s.setFld a Fld.BUF_SAMP_CFG_EN 1
  let set (s : State) (n : Nat) : State := { s with tm := { s.tm with samplers := Tbl.set ⟨0⟩ s.tm.samplers k ⟨n⟩ } }
  if s.flag a Fld.BUF_SAMP_CFG_RAND_START then
    let d := s.draw
    set d.2 (d.1.toNat % (s.fld a Fld.BUF_SAMP_CFG_N_MINUS_1 + 1))
  else set s 0

/-! ### Hand-over to the TMs -/

/-- QMASK of a multicast group (R306). -/
def State.groupMask (s : State) (g : Nat) : Nat := Tbl.get 0 s.tm.qmask g

/-- TMs that make the forwarding copies of a descriptor; `quad` is the producer's own quadrant. -/
def State.ownQuads (s : State) (d : Desc) (quad : Nat) : List Nat :=
  let r := d.res0
  if r.get r0Disp = 0 then
    if r.get r0Mcast = 1 then
      let m := s.groupMask (r.get r0McGroup)
      if m = 0 then [quad] else (List.range 4).filter (fun q => m.testBit q)
    else [r.get r0Egress / 128]
  else if r.get r0Disp = 2 then [r.get r0HostQ / 16]
  else []

/-- The TM of the mirror copy, where the frame is mirrored (R309). -/
def State.mirrorQuad (s : State) (d : Desc) : Option Nat :=
  let a := Reg.BUF_MIRROR
  if s.flag a Fld.BUF_MIRROR_EN ∧ d.res0.get r0Mirror = 1 ∧ (d.res0.get r0Disp = 0 ∨ d.res0.get r0Disp = 2) then
    some (if s.flag a Fld.BUF_MIRROR_DEST_KIND then s.fld a Fld.BUF_MIRROR_EGRESS / 128
          else s.fld a Fld.BUF_MIRROR_HOST_QUEUE / 16)
  else none

/-- The TM of the sample copy of a selected frame. -/
def State.sampleQuad (s : State) (d : Desc) : Option Nat :=
  if d.sampled then some (s.fld (Reg.BUF_SAMP_CFG d.sampler) Fld.BUF_SAMP_CFG_HOST_QUEUE / 16) else none

/-- Every TM that receives the descriptor. -/
def State.allQuads (s : State) (d : Desc) (quad : Nat) : List Nat :=
  (List.range 4).filter (fun q => (s.ownQuads d quad).contains q || s.mirrorQuad d == some q || s.sampleQuad d == some q)

/-- The TMs among them that are in service. -/
def State.liveQuads (s : State) (d : Desc) (quad : Nat) : List Nat :=
  (s.allQuads d quad).filter (fun q => !s.down (unitTm q))

/-- Producer `d.src` holds Release credit for every TM in service that receives the descriptor. -/
def State.mayHandOver (s : State) (d : Desc) (quad : Nat) : Bool :=
  (s.liveQuads d quad).all (fun q => decide (0 < s.credit (lnkRelease d.src q)))

/-- The descriptor goes to its TMs (R308); what is bound for a fenced TM is a fence discard, counted at `cnt` (R170, R312). -/
def State.handOver (s : State) (d : Desc) (quad : Nat) (cnt : Nat → Nat) : State :=
  let live := s.liveQuads d quad
  let own := s.ownQuads d quad
  let dead := (s.allQuads d quad).filter (fun q => s.down (unitTm q))
  let s := forEach dead (fun q t => t.bump (cnt q)) s
  if live = [] then s.release d.cellHead d.cellCnt
  else
    let s := { s with buf := { s.buf with refs := Tbl.set 0 s.buf.refs d.cellHead live.length } }
    forEach live (fun q t =>
      let t := t.useCredit (lnkRelease d.src q) 1
      let k := 32 * q + d.src
      let x := Tbl.get [] t.tm.relIn k ++ [{ d with own := own.contains q }]
      { t with tm := { t.tm with relIn := Tbl.set [] t.tm.relIn k x } }) s

def execSamplerEnable (k : Fin 64) (s : State) : Out := done s (samplerEnable k.val s)

end Sys2Proof.Machine
end

