-- ==== Sys2Proof/Machine/Tm.lean ====
section
/-! DEFINITION. The egress traffic managers (R296 to R312, R316 to R320, R326): admission of copies, push-out, multicast,
mirror and sample copies, picking, shapers, the Gauge, and their commands. -/

namespace Sys2Proof.Machine

def State.tmgBump (s : State) (q i : Nat) : State := s.bump (Reg.TMG_CNT q i)
def State.tschBump (s : State) (q i : Nat) : State := s.bump (Reg.TMG_SCH_CNT q i)

/-- QCNT[u][j] of R314. -/
def State.qcnt (s : State) (q u j : Nat) : State := s.bump (Reg.TMG_QCNT q u j)

/-! ### Queues (R297) -/

/-- Copies of queue u of TM q, head first. -/
def State.queue (s : State) (q u : Nat) : List Copy := Tbl.get [] s.tm.queues (656 * q + u)

def State.setQueue (s : State) (q u : Nat) (l : List Copy) : State :=
  { s with tm := { s.tm with queues := Tbl.set [] s.tm.queues (656 * q + u) l } }

/-- Depth in cells (R301). -/
def depthOf (l : List Copy) : Nat := (l.map (fun c => c.n)).sum

/-- The mode serves one logical port with eight unicast queues. -/
def wideMode (m : Nat) : Bool := m == 0 || m == 2 || m == 5

/-- Unicast queue of logical port p for class c. -/
def State.ucQueue (s : State) (p c : Nat) : Nat :=
  8 * (p / 2 % 64) + (if wideMode (s.mode (p / 2)) then c else 4 * (p % 2) + c / 2)

/-- Multicast queue of logical port p for class c. -/
def State.mcQueue (s : State) (p c : Nat) : Nat :=
  512 + 2 * (p / 2 % 64) + (if wideMode (s.mode (p / 2)) then c / 4 else p % 2)

/-- Rank of a unicast queue among those of its logical port. -/
def State.rankOf (s : State) (p u : Nat) : Nat :=
  if wideMode (s.mode (p / 2)) then u % 8 else u % 8 % 4

/-- Descriptor-store entries in use. -/
def State.descInUse (s : State) (q : Nat) : Nat :=
  ((s.tm.queues.filter (fun x => decide (656 * q ≤ x.1) && decide (x.1 < 656 * q + 656))).map (fun x => x.2.length)).sum

/-- Notes IN_USE for DESC.HIGH. -/
def State.noteDesc (s : State) (q : Nat) : State :=
  s.setFld (Reg.TMG_DESC q) Fld.TMG_DESC_HIGH (max (s.fld (Reg.TMG_DESC q) Fld.TMG_DESC_HIGH) (s.descInUse q))

/-- A copy's body is given back: a reference to the frame, a cell of its own, or a pool buffer. -/
def State.releaseBody (s : State) (q : Nat) (c : Copy) : State :=
  match c.body with
  | .frame head cnt _ => s.release head cnt
  | .own cell _ => s.freeCell cell
  | .pool p i _ => s.poolRelease (16 + q) (ptrOf p i)

/-- Whether a copy's body is a pool buffer. -/
def Body.isPool : Body → Bool
  | .pool _ _ _ => true
  | _ => false

/-! ### Admission (R301 to R305) -/

/-- The free space F of R301. -/
def State.freeSpace (s : State) : Nat := s.cellFree - s.fld Reg.BUF_CFG Fld.BUF_CFG_ING_GUARD

/-- The colour that admission uses (R304): 0 green, 1 yellow, 2 red. -/
def Desc.colour (d : Desc) : Nat := min 2 (if d.perpkt then sumGet d.summary sumColour else d.res0.get r0Colour)

/-- The profile that queue u names for a colour. -/
def State.profileOf (s : State) (q u colour : Nat) : Nat :=
  s.fld (Reg.TMG_QCFG1 q u) (if colour = 0 then Fld.TMG_QCFG1_PROF_G else if colour = 1 then Fld.TMG_QCFG1_PROF_Y
    else Fld.TMG_QCFG1_PROF_R)

/-- What WRED decides (R304). -/
inductive WredOut where
  | accept | mark | refuse
  deriving DecidableEq, Repr

/-- The WRED step of R302: the probability is that of the queue's average, the 16-bit random number an open value. -/
def State.wred (s : State) (q u : Nat) (d : Desc) : WredOut × State :=
  let f := s.profileOf q u d.colour
  let avg := s.fld (Reg.TMG_QAVG q u) Fld.TMG_QAVG_AVG
  let lo := 256 * s.fld (Reg.TMG_WRED_TH q f) Fld.TMG_WRED_TH_MIN_TH
  let hi := 256 * s.fld (Reg.TMG_WRED_TH q f) Fld.TMG_WRED_TH_MAX_TH
  let x := s.draw
  let r := x.1.toNat % 65536
  if hi ≤ avg then (.refuse, x.2)
  else if avg < lo then (.accept, x.2)
  else if r * (hi - lo) < 256 * s.fld (Reg.TMG_WRED_P q f) Fld.TMG_WRED_P_MAX_P * (avg - lo) then
    if s.flag (Reg.TMG_WRED_P q f) Fld.TMG_WRED_P_MARK_ECN ∧ (d.outerEcn = 1 ∨ d.outerEcn = 2) then (.mark, x.2)
    else (.refuse, x.2)
  else (.accept, x.2)

/-- The queue that gives the victim of a push-out (R305): the lowest-ranked non-empty one below the arriving copy's. -/
def State.victimQueue (s : State) (q p u : Nat) : Option Nat :=
  (((localQueues (p / 2) (s.mode (p / 2)) (p % 2)).filter (fun v => decide (v < 512))).filter
    (fun v => decide (s.rankOf p v < s.rankOf p u))).find? (fun v => s.queue q v != [])

/-- The tail frame of queue v is evicted. -/
def State.evictTail (s : State) (q v : Nat) : State :=
  match (s.queue q v).getLast? with
  | none => s
  | some c =>
    (((((s.setQueue q v (s.queue q v).dropLast).releaseBody q c).qcnt q v 9).tmgBump q Cnt.TMG_PUSHOUTS).setFld
      (Reg.TMG_STATUS q) Fld.TMG_STATUS_PUSHOUT_SEEN 1)

/-- A copy joins the tail of its queue; counted, stamped for the Gauge (R326). -/
def State.enqueue (s : State) (q u : Nat) (c : Copy) (ce : Bool) : State :=
  let l := s.queue q u ++ [{ c with ce := ce, mono := s.clk.mono }]
  let s := ((s.setQueue q u l).qcnt q u 0).bumpBy (Reg.TMG_QCNT q u 1) c.n
  let s := if ce then s.qcnt q u 8 else s
  let a := Reg.TMG_GAUGE_MAX q u
  (s.setFld a Fld.TMG_GAUGE_MAX_DEPTH_MAX (max (s.fld a Fld.TMG_GAUGE_MAX_DEPTH_MAX) (depthOf l))).noteDesc q

/-- R302 for copy `c` toward queue u of TM q with free space `f`: whether it was admitted. -/
def State.admitCopy (s : State) (q u f : Nat) (c : Copy) : Bool × State :=
  let s := s.tmgBump q Cnt.TMG_COPIES_DECIDED
  let no (j : Nat) (s : State) : Bool × State := (false, s.qcnt q u j)
  let depth := depthOf (s.queue q u) + c.n
  let alpha := s.fld (Reg.TMG_QCFG1 q u) Fld.TMG_QCFG1_ALPHA
  if c.port < 512 ∧ !c.body.isPool ∧ c.port = sumGet c.desc.summary sumInPort then
    (false, s.bump (Reg.TMG_PORT_CNT q (c.port % 128) 0))
  else if c.port < 512 ∧ (s.rate c.port = 0 ∨ !s.enableBit c.port) then
    (false, s.bump (Reg.TMG_PORT_CNT q (c.port % 128) 1))
  else if 1048576 ≤ s.descInUse q then
    no 3 ((s.tmgBump q Cnt.TMG_DESC_FULL).setFld (Reg.TMG_STATUS q) Fld.TMG_STATUS_DESC_FULL_SEEN 1)
  else if s.fld (Reg.TMG_QCFG0 q u) Fld.TMG_QCFG0_Q_MAX < depth then no 3 s
  else if depth ≤ s.fld (Reg.TMG_QCFG0 q u) Fld.TMG_QCFG0_Q_MIN then (true, s.enqueue q u c false)
  else if alpha ≠ 15 ∧ 2 ^ alpha * f < 256 * depth then
    let may := decide (u < 512) && !c.body.isPool && s.flag (Reg.TMG_QCFG1 q u) Fld.TMG_QCFG1_PUSHOUT_EN
      && decide (f < s.fld Reg.BUF_CFG Fld.BUF_CFG_PUSHOUT_FREE)
    match (if may then s.victimQueue q c.port u else none) with
    | some v => (true, ((s.evictTail q v).qcnt q u 10).enqueue q u c false)
    | none => no 4 s
  else
    let w := s.wred q u c.desc
    match w.1 with
    | .accept => (true, w.2.enqueue q u c false)
    | .mark => (true, w.2.enqueue q u c true)
    | .refuse => no (5 + c.desc.colour) w.2

/-! ### The copies of a descriptor (R296, R306 to R310) -/

/-- A copy that refers to the frame's own cells. -/
def refCopy (d : Desc) (port cls : Nat) (raw : Bool) : Copy :=
  { desc := d, body := .frame d.cellHead d.cellCnt (sumGet d.summary sumFrameLen), n := d.cellCnt, port := port, cls := cls
    ce := false, raw := raw, mono := 0 }

/-- The multicast copies, one per member, with the number admitted. -/
def State.mcCopies (s : State) (q f : Nat) (d : Desc) : Nat × State :=
  let m := Tbl.get 0#128 s.tm.members (65536 * q + d.res0.get r0McGroup)
  if m = 0 then (0, s.tmgBump q Cnt.TMG_MC_NO_MEMBER)
  else
    forEach ((List.range 128).filter (fun i => m.getLsbD i)) (fun i x =>
      let p := 128 * q + i
      let cls := d.res0.get r0Qclass
      let a := x.2.admitCopy q (x.2.mcQueue p cls) f (refCopy d p cls false)
      if a.1 then (x.1 + 1, a.2.bump (Reg.TMG_PORT_CNT q i 2)) else (x.1, a.2.bump (Reg.TMG_PORT_CNT q i 3))) (0, s)

/-- The forwarding copies that TM q makes of a descriptor of its own. -/
def State.ownCopies (s : State) (q f : Nat) (d : Desc) : Nat × State :=
  let r := d.res0
  if r.get r0Disp = 0 ∧ r.get r0Mcast = 1 then s.mcCopies q f d
  else
    let c := if r.get r0Disp = 0 then refCopy d (r.get r0Egress) (r.get r0Qclass) false else refCopy d 512 (r.get r0Qclass) false
    let u := if r.get r0Disp = 0 then s.ucQueue (r.get r0Egress) (r.get r0Qclass) else 640 + r.get r0HostQ % 16
    let a := s.admitCopy q u f c
    (bit a.1, a.2)

/-- A mirror or sample copy toward port `port` (512 for a host queue) and queue u, of `trunc` bytes (0 for the whole frame):
how many references it takes, whether it was admitted. -/
def State.extraCopy (s : State) (q u port cls f trunc : Nat) (d : Desc) (e : CellEcc) : Nat × Bool × State :=
  let len := sumGet d.summary sumFrameLen
  if trunc = 0 ∨ len ≤ trunc then
    let a := s.admitCopy q u f (refCopy d port cls true)
    (bit a.1, a.1, a.2)
  else if f = 0 then (0, false, s.bump (Reg.BUF_CNT Cnt.BUF_COPY_NO_CELL))
  else
    let x := s.readEcc d.cellHead 1 e false
    if x.2.1 then (0, false, x.2.2.bump (Reg.BUF_CNT Cnt.BUF_COPY_UE))
    else
      let y := x.2.2.takeCell 16
      let bytes := y.2.frameBytes d.cellHead 1 trunc
      let c : Copy := { refCopy d port cls true with body := .own y.1 trunc, n := 1 }
      let a := y.2.admitCopy q u f c
      if a.1 then (0, true, (a.2.writeCells [y.1] 0 bytes).setUse y.1 .queued) else (0, false, a.2.freeCell y.1)

/-- The mirror copy, where it falls to TM q. -/
def State.mirrorCopy (s : State) (q f : Nat) (d : Desc) (e : CellEcc) : Nat × State :=
  if s.mirrorQuad d = some q then
    let a := Reg.BUF_MIRROR
    let t := s.fld a Fld.BUF_MIRROR_TRUNC
    let trunc := if t = 1 then 128 else if t = 2 then 256 else 0
    let p := s.fld a Fld.BUF_MIRROR_EGRESS
    let cls := s.fld a Fld.BUF_MIRROR_QCLASS
    let x :=
      if s.flag a Fld.BUF_MIRROR_DEST_KIND then s.extraCopy q (s.ucQueue p cls) p cls f trunc d e
      else s.extraCopy q (640 + s.fld a Fld.BUF_MIRROR_HOST_QUEUE % 16) 512 0 f trunc d e
    (x.1, if x.2.1 then x.2.2.bump (Reg.BUF_CNT Cnt.BUF_MIRROR_COPIES) else x.2.2)
  else (0, s)

/-- The sample copy, where it falls to TM q. -/
def State.sampleCopy (s : State) (q f : Nat) (d : Desc) (e : CellEcc) : Nat × State :=
  if s.sampleQuad d = some q then
    let a := Reg.BUF_SAMP_CFG d.sampler
    let trunc := if s.flag a Fld.BUF_SAMP_CFG_TRUNC then 256 else 128
    let x := s.extraCopy q (640 + s.fld a Fld.BUF_SAMP_CFG_HOST_QUEUE % 16) 512 0 f trunc d e
    (x.1, if x.2.1 then x.2.2.bump (Reg.BUF_CNT Cnt.BUF_SAMPLE_COPIES) else x.2.2)
  else (0, s)

/-- A descriptor is handled: its copies are decided and its reference replaced by theirs (R308). -/
def State.handleDesc (s : State) (q : Nat) (d : Desc) (e : CellEcc) : State :=
  let f := s.freeSpace
  let disp := d.res0.get r0Disp
  let s := s.tmgBump q Cnt.TMG_DESC_IN
  let s := if disp = 0 ∨ disp = 2 ∨ (disp = 1 ∧ d.sampled) then s else s.tmgBump q Cnt.TMG_BAD_DISP
  let a := if d.own ∧ (disp = 0 ∨ disp = 2) then s.ownCopies q f d else (0, s)
  let b := a.2.mirrorCopy q f d e
  let c := b.2.sampleCopy q f d e
  let k := a.1 + b.1 + c.1
  let s := if k = 0 then c.2.release d.cellHead d.cellCnt
    else (c.2.addRefs d.cellHead (k - 1)).markQueued d.cellHead d.cellCnt
  if 16 ≤ d.src then s.drainSub (d.src - 16) d.gen else s

/-- Release inputs of TM q in rotation, after the one served last (R296). -/
def State.nextInput (s : State) (q : Nat) : Option Nat :=
  let l := Tbl.get 31 s.tm.lastIn q
  ((List.range 32).map (fun i => (l + 1 + i) % 32)).find? (fun i => Tbl.get [] s.tm.relIn (32 * q + i) != [])

/-- TM_DESCRIPTOR_TAKE (R296): the next descriptor of TM q; `e`: what a read for a truncated copy meets; `ft`: the
frame-table entry fails when it is read (R294); `ue`: head cells of evicted frames whose entry fails as it is read. -/
def tmDescriptorTake (q : Nat) (e : CellEcc) (ft : Bool) (ue : List Nat) (s : State) : State :=
  if s.down (unitTm q) then s
  else
    match s.nextInput q with
    | none => s
    | some i =>
      match Tbl.get [] s.tm.relIn (32 * q + i) with
      | [] => s
      | d :: r =>
        let s := { s with tm := { s.tm with relIn := Tbl.set [] s.tm.relIn (32 * q + i) r
                                            lastIn := Tbl.set 31 s.tm.lastIn q i } }
        let s := s.freeEntry (lnkRelease i q) 1
        let s := if ft then s.upset [d.cellHead] else s
        (s.upset ue).handleDesc q d e

/-- A frame in pool buffer (p, i) of `len` bytes without FCS is given to TM q for logical port `port` (R300); `d` carries what the
MAC needs of its descriptor. -/
def State.poolFrame (s : State) (q pool i len port cls : Nat) (d : Desc) : State :=
  let s := s.tmgBump q Cnt.TMG_POOL_FRAMES_IN
  let c : Copy := { desc := d, body := .pool pool i len, n := (len + 255) / 256, port := port, cls := cls, ce := false
                    raw := true, mono := 0 }
  let a := s.admitCopy q (s.ucQueue port cls) s.freeSpace c
  if a.1 then a.2 else a.2.poolRelease (16 + q) (ptrOf pool i)

/-- WRED_AVG_UPDATE (R304): every queue's average moves toward its depth. -/
def wredAvgUpdate (q : Nat) (s : State) : State :=
  if s.down (unitTm q) then s
  else
    let w := 2 ^ s.fld (Reg.TMG_WRED_CTL q) Fld.TMG_WRED_CTL_WEIGHT
    forUpTo 656 (fun u t =>
      let a := t.fld (Reg.TMG_QAVG q u) Fld.TMG_QAVG_AVG
      t.setFld (Reg.TMG_QAVG q u) Fld.TMG_QAVG_AVG ((a * (w - 1) + 256 * depthOf (t.queue q u)) / w)) s

/-! ### Multicast groups (R307) -/

/-- MCG_CMD READ. -/
def mcgRead (g q : Nat) (s : State) : State :=
  let a := Reg.BUF_MCG_CMD
  let m := Tbl.get 0#128 s.tm.members (65536 * q + g)
  let s := ((s.setFld a Fld.BUF_MCG_CMD_GROUP g).setFld a Fld.BUF_MCG_CMD_QUAD q).setFld a Fld.BUF_MCG_CMD_QMASK (s.groupMask g)
  (s.setReg Reg.BUF_MCG_DATA0 (m.setWidth 64)).setReg Reg.BUF_MCG_DATA1 ((m >>> 64).setWidth 64)

/-- MCG_CMD WRITE: the bitmap and its QMASK bit. -/
def mcgWrite (g q : Nat) (s : State) : State :=
  let a := Reg.BUF_MCG_CMD
  let m : BitVec 128 := (s.reg Reg.BUF_MCG_DATA1).setWidth 128 <<< 64 ||| (s.reg Reg.BUF_MCG_DATA0).setWidth 128
  let old := s.groupMask g
  let mask := if m = 0 then old &&& (15 - 2 ^ q) else old ||| 2 ^ q
  let s := { s with tm := { s.tm with members := Tbl.set 0#128 s.tm.members (65536 * q + g) m
                                      qmask := Tbl.set 0 s.tm.qmask g mask } }
  ((s.setFld a Fld.BUF_MCG_CMD_GROUP g).setFld a Fld.BUF_MCG_CMD_QUAD q).setFld a Fld.BUF_MCG_CMD_QMASK mask

/-! ### Flush and fence (R311, R312) -/

/-- Every copy of queue u is removed; `f` counts each. -/
def State.emptyQueue (s : State) (q u : Nat) (f : State → State) : State :=
  forEach (s.queue q u) (fun c t => (f (t.releaseBody q c)).qcnt q u 11) (s.setQueue q u [])

/-- QUEUE_FLUSH; `ue`: head cells of frames whose frame-table entry has an uncorrectable error as it is read. -/
def queueFlush (q u : Nat) (ue : List Nat) (s : State) : State :=
  let a := Reg.TMG_QCMD q
  let s := (s.upset ue).setFld a Fld.TMG_QCMD_QUEUE u
  if 655 < u then s.setFld a Fld.TMG_QCMD_ERR 1 else s.emptyQueue q u id

/-- What a fence of TM q discards: every frame in its queues and inputs (R312). -/
def State.tmDiscard (s : State) (q : Nat) : State :=
  let s : State := forUpTo 656 (fun u t => t.emptyQueue q u (fun t => t.tmgBump q Cnt.TMG_FENCE_DISCARD)) s
  forUpTo 32 (fun i t =>
    let l := Tbl.get [] t.tm.relIn (32 * q + i)
    let t := { t with tm := { t.tm with relIn := Tbl.set [] t.tm.relIn (32 * q + i) [] } }
    forEach l (fun d t =>
      let t := (t.tmgBump q Cnt.TMG_FENCE_DISCARD).release d.cellHead d.cellCnt
      if 16 ≤ d.src then t.drainSub (d.src - 16) d.gen else t) t) s

/-! ### Shapers (R319) -/

/-- A bucket's tokens in 2^-16 byte: full where nothing was taken since it was enabled. -/
def State.tokens (s : State) (k burst : Nat) : Int :=
  match Tbl.get none s.tm.buckets k with
  | none => (burst * 65536 : Nat)
  | some b => b.tokens

def State.setTokens (s : State) (k : Nat) (x : Int) : State :=
  { s with tm := { s.tm with buckets := Tbl.set none s.tm.buckets k (some { tokens := x }) } }

def queueBucket (q u : Nat) : Nat := 656 * q + u
def portBucket (p : Nat) : Nat := 4096 + p

def State.queueShaped (s : State) (q u : Nat) : Bool := s.flag (Reg.TMG_QSHAPE_RATE q u) Fld.TMG_QSHAPE_RATE_EN
def State.portShaped (s : State) (p : Nat) : Bool := s.flag (Reg.TMG_PSHAPE_RATE (p / 128) (p % 128)) Fld.TMG_PSHAPE_RATE_EN

def State.queueTokens (s : State) (q u : Nat) : Int :=
  s.tokens (queueBucket q u) (s.fld (Reg.TMG_QSHAPE_BURST q u) Fld.TMG_QSHAPE_BURST_BURST)
def State.portTokens (s : State) (p : Nat) : Int :=
  s.tokens (portBucket p) (s.fld (Reg.TMG_PSHAPE_BURST (p / 128) (p % 128)) Fld.TMG_PSHAPE_BURST_BURST)

/-- Tokens that RATE gives in 40 ns, in 2^-16 byte: RATE kbit/s is RATE / 200,000 byte (R319). -/
def refillGain (rate : Nat) : Nat := rate * 65536 / 200000

/-- SHAPER_REFILL: the buckets of TM q that have given tokens gain what 40 ns give, up to BURST. -/
def shaperRefill (q : Nat) (s : State) : State :=
  forEach (s.tm.buckets.map (fun x => x.1)) (fun k t =>
    if 4096 ≤ k then
      let p := k - 4096
      if p / 128 ≠ q then t
      else
        let burst := t.fld (Reg.TMG_PSHAPE_BURST q (p % 128)) Fld.TMG_PSHAPE_BURST_BURST
        t.setTokens k (min (burst * 65536 : Nat)
          (t.portTokens p + refillGain (t.fld (Reg.TMG_PSHAPE_RATE q (p % 128)) Fld.TMG_PSHAPE_RATE_RATE)))
    else if k / 656 ≠ q then t
    else
      let u := k % 656
      let burst := t.fld (Reg.TMG_QSHAPE_BURST q u) Fld.TMG_QSHAPE_BURST_BURST
      t.setTokens k (min (burst * 65536 : Nat)
        (t.queueTokens q u + refillGain (t.fld (Reg.TMG_QSHAPE_RATE q u) Fld.TMG_QSHAPE_RATE_RATE)))) s

/-! ### Picking (R316 to R318) -/

/-- Queue u is a candidate of logical port p. -/
def State.candidate (s : State) (p u : Nat) : Bool :=
  let q := quadOf p
  match s.queue q u with
  | [] => false
  | c :: _ =>
    (!s.portShaped p || decide (0 ≤ s.portTokens p)) && (!s.queueShaped q u || decide (0 ≤ s.queueTokens q u))
      && decide (0 < s.credit (lnkEgress p c.cls))

/-- Class at which queue u competes. -/
def State.headClass (s : State) (q u : Nat) : Nat := match s.queue q u with | [] => 0 | c :: _ => c.cls

/-- The queue that logical port p would send from: the highest class, then the first after the one picked last there. -/
def State.pickQueue (s : State) (p : Nat) : Option Nat :=
  let q := quadOf p
  if !s.portEnabled p ∨ !s.linkUp p ∨ s.down (unitTm q) then none
  else
    let us := (localQueues (p / 2) (s.mode (p / 2)) (p % 2)).filter (s.candidate p)
    let top := us.foldl (fun m u => max m (s.headClass q u)) 0
    let best := us.filter (fun u => s.headClass q u == top)
    let l := Tbl.get 656 s.tm.lastQueue (8 * p + top)
    match best.find? (fun u => decide (l < u) && decide (l < 656)) with
    | some u => some u
    | none => best.head?

/-- The Gauge records a picked copy's sojourn (R326). -/
def State.gaugePick (s : State) (q u sojourn : Nat) : State :=
  let x := min sojourn 4294967295
  let a := Reg.TMG_GAUGE_MAX q u
  ((s.setFld (Reg.TMG_GAUGE_LAST q u) Fld.TMG_GAUGE_LAST_SOJOURN_LAST x).setFld a Fld.TMG_GAUGE_MAX_SOJOURN_MAX
    (max (s.fld a Fld.TMG_GAUGE_MAX_SOJOURN_MAX) x)).bumpBy (Reg.TMG_GAUGE_SUM q u) sojourn

/-- Logical port p picks from queue u: the copy goes to the egress slice's FIFO of its class. -/
def State.pickFrom (s : State) (p u : Nat) : State :=
  let q := quadOf p
  match s.queue q u with
  | [] => s
  | c :: r =>
    let lp := p % 128
    let len := (sumGet c.desc.summary sumFrameLen : Int)
      + signed 8 (s.fld (Reg.TMG_PSHAPE_BURST q lp) Fld.TMG_PSHAPE_BURST_SHAPE_ADJ)
    let s := ((s.setQueue q u r).qcnt q u 2).tschBump q Cnt.TSCH_PICKS
    let s := s.gaugePick q u (s.clk.mono - c.mono)
    let s := if s.portShaped p then s.setTokens (portBucket p) (s.portTokens p - len * 65536) else s
    let s := if s.queueShaped q u then s.setTokens (queueBucket q u) (s.queueTokens q u - len * 65536) else s
    let s := s.useCredit (lnkEgress p c.cls) 1
    let s := { s with tm := { s.tm with lastPort := Tbl.set 127 s.tm.lastPort q lp
                                        lastQueue := Tbl.set 656 s.tm.lastQueue (8 * p + c.cls) u } }
    let x := s.port p
    s.setPort p { x with egr := Tbl.set [] x.egr c.cls (Tbl.get [] x.egr c.cls ++ [c]) }

/-- TM_PICK: the next logical port of TM q in rotation that has a candidate picks. -/
def tmPick (q : Nat) (s : State) : State :=
  let l := Tbl.get 127 s.tm.lastPort q
  match ((List.range 128).map (fun i => 128 * q + (l + 1 + i) % 128)).find? (fun p => (s.pickQueue p).isSome) with
  | none => s
  | some p =>
    match s.pickQueue p with
    | none => s
    | some u => s.pickFrom p u

/-- GAUGE_SWEEP (R326): once PERIOD_US has passed, a snapshot of every queue into the bank not last completed. -/
def gaugeSweep (q : Nat) (s : State) : State :=
  let per := s.fld (Reg.TMG_GAUGE_CTL q) Fld.TMG_GAUGE_CTL_PERIOD_US
  if per = 0 ∨ s.down (unitTm q) ∨ s.clk.mono < Tbl.get 0 s.tm.gaugeAt q + usTicks per then s
  else
    let a := Reg.TMG_GAUGE_STATUS q
    let b := 1 - s.fld a Fld.TMG_GAUGE_STATUS_BANK
    let s := { s with tm := { s.tm with gaugeAt := Tbl.set 0 s.tm.gaugeAt q s.clk.mono } }
    let s := s.setReg (Reg.TMG_GAUGE_MONO q b) (BitVec.ofNat 64 s.clk.mono)
    let s : State := forUpTo 656 (fun u t =>
      let l := t.queue q u
      let w := match l with | [] => 0 | c :: _ => min (t.clk.mono - c.mono) 4294967295
      (t.setFld (Reg.TMG_GAUGE_SNAP q b u) Fld.TMG_GAUGE_SNAP_DEPTH (depthOf l)).setFld (Reg.TMG_GAUGE_SNAP q b u)
        Fld.TMG_GAUGE_SNAP_HEAD_SOJOURN w) s
    let s := (s.setFld a Fld.TMG_GAUGE_STATUS_BANK b).setFld a Fld.TMG_GAUGE_STATUS_SEQ
      (s.fld a Fld.TMG_GAUGE_STATUS_SEQ + 1)
    s.tschBump q Cnt.TSCH_GAUGE_SWEEPS

/-! ### Next-hop entries (R330) -/

def State.nextHop (s : State) (q i : Nat) : NhEntry := Tbl.get NhEntry.init s.tm.nh (262144 * q + i)

/-- NH_READ. -/
def nhRead (q i : Nat) (s : State) : State :=
  let e := s.nextHop q i
  let s := s.setFld (Reg.TMG_NH_CMD q) Fld.TMG_NH_CMD_INDEX i
  (((s.setReg (Reg.TMG_NH_DATA q 0) e.n0).setReg (Reg.TMG_NH_DATA q 1) e.n1).setReg (Reg.TMG_NH_DATA q 2) e.n2).setReg
    (Reg.TMG_NH_DATA q 3) e.n3

/-- NH_WRITE. -/
def nhWrite (q i : Nat) (s : State) : State :=
  let e : NhEntry := { n0 := s.reg (Reg.TMG_NH_DATA q 0), n1 := s.reg (Reg.TMG_NH_DATA q 1)
                       n2 := s.reg (Reg.TMG_NH_DATA q 2), n3 := s.reg (Reg.TMG_NH_DATA q 3) }
  let s := s.setFld (Reg.TMG_NH_CMD q) Fld.TMG_NH_CMD_INDEX i
  { s with tm := { s.tm with nh := Tbl.set NhEntry.init s.tm.nh (262144 * q + i) e } }

def execTmDescriptorTake (q : Fin 4) (e : CellEcc) (ft : Bool × List Nat) (s : State) : Out :=
  done s (tmDescriptorTake q.val e ft.1 ft.2 s)
def execWredAvgUpdate (q : Fin 4) (s : State) : Out := done s (wredAvgUpdate q.val s)
def execMcgRead (g : Fin 65536) (q : Fin 4) (s : State) : Out := done s (mcgRead g.val q.val s)
def execMcgWrite (g : Fin 65536) (q : Fin 4) (s : State) : Out := done s (mcgWrite g.val q.val s)
def execQueueFlush (q : Fin 4) (u : Fin 1024 × List Nat) (s : State) : Out := done s (queueFlush q.val u.1.val u.2 s)
def execTmPick (q : Fin 4) (s : State) : Out := done s (tmPick q.val s)
def execShaperRefill (q : Fin 4) (s : State) : Out := done s (shaperRefill q.val s)
def execGaugeSweep (q : Fin 4) (s : State) : Out := done s (gaugeSweep q.val s)
def execNhRead (q : Fin 4) (i : Fin 262144) (s : State) : Out := done s (nhRead q.val i.val s)
def execNhWrite (q : Fin 4) (i : Fin 262144) (s : State) : Out := done s (nhWrite q.val i.val s)

end Sys2Proof.Machine
end

