-- ==== Sys2Proof/Machine/Egress.lean ====
section
/-! DEFINITION. The egress slices and the MAC transmitters: header edits (R327 to R330), the PTP actions (R58 to R61), the
start of a frame (R318, R323) and its end (R293, R44). -/

namespace Sys2Proof.Machine

/-! ### Incremental checksums (RFC 1624, R60, R329) -/

/-- Sum of the one's-complement differences of `n` 16-bit words from offset `i`. -/
def onesDiff (old new : List Byte) (i : Nat) : Nat → Nat
  | 0 => 0
  | n + 1 => (65535 - vec16 old i) + vec16 new i + onesDiff old new (i + 2) n

/-- A sum with end-around carry, in 16 bits. -/
def onesFold (x : Nat) : Nat := if x = 0 then 0 else if x % 65535 = 0 then 65535 else x % 65535

/-- A checksum after differences `d` in the words it covers. -/
def onesUpdate (hc d : Nat) : Nat := 65535 - onesFold (65535 - hc + d)

/-- The 16-bit word at an offset is replaced, where the frame has it. -/
def put16 (b : List Byte) (i x : Nat) : List Byte := if i + 2 ≤ b.length then bytesPut b i (beBytes 2 x) else b

/-- The bytes from offset `i` differ in `n` words. -/
def wordsDiffer (old new : List Byte) (i n : Nat) : Bool := bytesAt old i (2 * n) != bytesAt new i (2 * n)

/-- The checksum at `c` of `new` is brought up to date with what changed in the listed ranges (offset, words) since `old`.
`udp`: a computed zero is written as 0xFFFF; `keep0`: a checksum of 0 stays 0. -/
def fixChecksum (udp keep0 : Bool) (c : Nat) (ranges : List (Nat × Nat)) (old new : List Byte) : List Byte :=
  if !ranges.any (fun r => wordsDiffer old new r.1 r.2) ∨ (keep0 = true ∧ vec16 old c = 0) then new
  else
    let x := onesUpdate (vec16 old c) ((ranges.map (fun r => onesDiff old new r.1 r.2)).sum)
    put16 new c (if udp = true ∧ x = 0 then 65535 else x)

/-! ### Edits (R327 to R329) -/

/-- An address and port to write: source or destination, the new address where it changes, the new port (0 keeps it). -/
structure AddrEdit where
  dst : Bool
  v6 : Bool
  addr : Option Nat
  port : Nat
  deriving DecidableEq, Repr

/-- A 128-bit DADDR is an IPv4-mapped address. -/
def isMapped (x : Nat) : Bool := x / 2 ^ 32 == 0xFFFF

/-- The edit that a next-hop entry's DADDR and DPORT describe. -/
def entryEdit (dst : Bool) (e : NhEntry) : AddrEdit :=
  let x := e.n2.toNat * 2 ^ 64 + e.n3.toNat
  { dst := dst, v6 := !isMapped x, addr := if x = 0 then none else some (if isMapped x then x % 2 ^ 32 else x)
    port := e.n1.toNat / 2 ^ 48 }

/-- A next-hop entry by index: `none` for index 0; `some none` where it is beyond the table or not valid. -/
def State.nhEntry (s : State) (q i : Nat) : Option (Option NhEntry) :=
  if i = 0 then none
  else if 262144 ≤ i then some none
  else
    let e := s.nextHop q i
    some (if e.n0.getLsbD 63 then some e else none)

/-- The frame being edited, with the offsets of its layers after a tag was pushed or popped. -/
structure Edit where
  bytes : List Byte
  /-- Outer IP header and key layer. -/
  outer : Option IpInfo
  key : Option IpInfo
  deriving DecidableEq, Repr

/-- An IP layer whose frame grew or shrank in front of it. -/
def IpInfo.shift (i : IpInfo) (up down : Nat) : IpInfo := { i with off := i.off + up - down, l4off := i.l4off + up - down }

/-- VID_OP of a next-hop entry (step 2): the edited frame, and the counter it counts in. -/
def vidOp (n0 : Word64) (qclass vlanCnt : Nat) (x : Edit) : Edit × Option Nat :=
  let op := n0.get ⟨60, 2⟩
  let vid := n0.get ⟨48, 12⟩
  let b := x.bytes
  if op = 1 then
    if vlanCnt = 0 then
      ({ bytes := b.take 12 ++ beBytes 2 0x8100 ++ beBytes 2 (qclass * 8192 + vid) ++ b.drop 12
         outer := x.outer.map (fun i => i.shift 4 0), key := x.key.map (fun i => i.shift 4 0) }, some Cnt.TSCH_VLAN_PUSH)
    else ({ x with bytes := put16 b 14 (vec16 b 14 / 4096 * 4096 + vid) }, none)
  else if op = 2 ∧ vlanCnt ≠ 0 then
    ({ bytes := b.take 12 ++ b.drop 16, outer := x.outer.map (fun i => i.shift 0 4)
       key := x.key.map (fun i => i.shift 0 4) }, some Cnt.TSCH_VLAN_POP)
  else (x, none)

/-- TTL_DEC on the outer IP header (step 4): whether the frame leaves with 0. -/
def ttlDec (x : Edit) : Edit × Bool :=
  match x.outer with
  | none => (x, false)
  | some o =>
    let i := if o.v6 then o.off + 7 else o.off + 8
    let t := vecByte x.bytes i - 1
    ({ x with bytes := bytesPut x.bytes i [BitVec.ofNat 8 t] }, t == 0)

/-- The key layer's L4 header carries ports, an identifier, or neither, and is there (R329). -/
def l4Touched (i : IpInfo) : Bool :=
  !(i.frag && !i.fragFirst) && (i.proto == 6 || i.proto == 17 || i.proto == 132 || (i.proto == 1 && !i.v6) || (i.proto == 58 && i.v6))

/-- The ICMP or ICMPv6 message is an echo. -/
def isEcho (b : List Byte) (i : IpInfo) : Bool :=
  let t := vecByte b i.l4off
  (i.proto == 1 && (t == 8 || t == 0)) || (i.proto == 58 && (t == 128 || t == 129))

/-- Where a port operation writes, if anywhere. -/
def portOff (b : List Byte) (i : IpInfo) (dst : Bool) : Option Nat :=
  if !l4Touched i then none
  else if i.proto = 1 ∨ i.proto = 58 then (if isEcho b i then some (i.l4off + 4) else none)
  else some (if dst then i.l4off + 2 else i.l4off)

/-- Applies an address operation to the key layer; the counters it counts in. -/
def applyAddr (e : AddrEdit) (x : Edit) : Edit × List Nat :=
  match x.key with
  | none => (x, [])
  | some k =>
    if e.addr.isSome ∧ e.v6 ≠ k.v6 then (x, [Cnt.TSCH_EDIT_FAMILY])
    else
      let at_ := if k.v6 then (if e.dst then k.off + 24 else k.off + 8) else (if e.dst then k.off + 16 else k.off + 12)
      let b1 := match e.addr with
        | none => x.bytes
        | some a => bytesPut x.bytes at_ (beBytes (if k.v6 then 16 else 4) a)
      let b2 := match portOff x.bytes k e.dst with
        | none => b1
        | some o => if e.port = 0 then b1 else put16 b1 o e.port
      ({ x with bytes := b2 }, if k.proto = 132 ∧ l4Touched k ∧ (e.addr.isSome ∨ e.port ≠ 0) then [Cnt.TSCH_EDIT_SCTP] else [])

/-- The EDIT0 operation (R328): the edit, and the counters it counts in. -/
def State.edit0 (s : State) (q : Nat) (r1 r2 : Word64) : Option AddrEdit × List Nat :=
  let e := r1.get r1Edit0
  let op := e / 2 ^ 28
  let direct (dst : Bool) : AddrEdit := { dst := dst, v6 := false, addr := some (r2.get ⟨0, 32⟩), port := r2.get ⟨32, 16⟩ }
  let idx (dst : Bool) : Option AddrEdit × List Nat :=
    match s.nhEntry q (e % 2 ^ 20) with
    | none => (none, [])
    | some none => (none, [Cnt.TSCH_NH_INVALID])
    | some (some n) => (some (entryEdit dst n), [])
  if op = 0 then (none, [])
  else if op = 1 then (some (direct false), [])
  else if op = 2 then (some (direct true), [])
  else if op = 3 then idx false
  else if op = 4 then idx true
  else (none, [Cnt.TSCH_EDIT_BAD_OP])

/-- ECN field set to CE in the outer IP header (step 7). -/
def markCe (x : Edit) : Edit :=
  match x.outer with
  | none => x
  | some o =>
    let i := o.off + 1
    let v := vecByte x.bytes i
    { x with bytes := bytesPut x.bytes i [BitVec.ofNat 8 (if o.v6 then v ||| 0x30 else v ||| 3)] }

/-- IPv4 header checksum of a layer. -/
def fixIp4 (i : IpInfo) (old new : List Byte) : List Byte :=
  if i.v6 then new else fixChecksum false false (i.off + 10) [(i.off, 5), (i.off + 12, 4)] old new

/-- L4 checksum of the key layer. -/
def fixL4 (i : IpInfo) (old new : List Byte) : List Byte :=
  if !l4Touched i then new
  else
    let addrs := if i.v6 then (i.off + 8, 16) else (i.off + 12, 4)
    if i.proto = 6 then fixChecksum false false (i.l4off + 16) [addrs, (i.l4off, 2)] old new
    else if i.proto = 17 then fixChecksum true (!i.v6) (i.l4off + 6) [addrs, (i.l4off, 2)] old new
    else if i.proto = 1 then fixChecksum false false (i.l4off + 2) [(i.l4off + 4, 1)] old new
    else if i.proto = 58 then fixChecksum false false (i.l4off + 2) [addrs, (i.l4off + 4, 1)] old new
    else new

/-- Encapsulation checksums that cover the edited inner bytes: outer UDP of VXLAN and GENEVE, GRE. -/
def fixTunnel (tun : Nat) (o i : IpInfo) (old new : List Byte) : List Byte :=
  let range := (i.off, (256 - i.off) / 2)
  if tun = 1 ∨ tun = 2 then fixChecksum true (!o.v6) (o.l4off + 6) [range] old new
  else if tun = 3 ∧ (vecByte new o.l4off).testBit 7 then fixChecksum false false (o.l4off + 4) [range] old new
  else new

/-- Every checksum is brought up to date (step 8): `old` is the frame after its tag edit. -/
def fixAll (inner : Bool) (tun : Nat) (old : List Byte) (x : Edit) : List Byte :=
  match x.outer, x.key with
  | none, _ => x.bytes
  | some o, none => fixIp4 o old x.bytes
  | some o, some k =>
    let b := fixIp4 o old x.bytes
    let b := if inner then fixIp4 k old b else b
    let b := fixL4 k old b
    if inner then fixTunnel tun o k old b else b

/-- Zero bytes up to the minimum without FCS (step 9). -/
def padFrame (b : List Byte) : List Byte := b ++ List.replicate (60 - b.length) 0#8

/-- The next-hop edit (steps 2 to 5): the frame after its tag edit, the edited frame, and what it counts. -/
def nextHopEdit (e : NhEntry) (qclass vlanCnt : Nat) (x0 : Edit) : List Byte × Edit × List Nat :=
  let v := vidOp e.n0 qclass vlanCnt x0
  let x := { v.1 with bytes := bytesPut v.1.bytes 0 (beBytes 6 (e.n0.toNat % 2 ^ 48) ++ beBytes 6 (e.n1.toNat % 2 ^ 48)) }
  let t := if e.n0.getLsbD 62 then ttlDec x else (x, false)
  let d := entryEdit true e
  let a := if d.addr.isSome then applyAddr d t.1 else (t.1, [])
  (x.bytes, a.1, v.2.toList ++ (if t.2 then [Cnt.TSCH_TTL_ZERO_TX] else []) ++ a.2)

/-- The edits of R329, steps 2 to 9, of a frame without FCS, in quadrant q; each counter counts the frame once. -/
def State.editFrame (s : State) (q : Nat) (c : Copy) (b : List Byte) : List Byte × State :=
  let w := c.desc.summary
  let hv := bytesAt b 0 192
  let x0 : Edit := { bytes := b, outer := if sumGet w sumL3Type = 0 then none else outerIp hv w, key := keyLayer hv w }
  let r :=
    match s.nhEntry q (c.desc.res1.get r1Nh) with
    | none => (b, x0, [])
    | some none => (b, x0, [Cnt.TSCH_NH_INVALID])
    | some (some e) => nextHopEdit e c.cls (sumGet w sumVlanCnt) x0
  let e0 := s.edit0 q c.desc.res1 c.desc.res2
  let a := match e0.1 with | none => (r.2.1, []) | some d => applyAddr d r.2.1
  let m := if c.ce then (markCe a.1, [Cnt.TSCH_ECN_CE_WRITTEN]) else (a.1, [])
  (padFrame (fixAll (sumGet w sumKeyInner == 1) (sumGet w sumTunType) r.1 m.1),
    forEach (r.2.2 ++ e0.2 ++ a.2 ++ m.2).eraseDups (fun i t => t.tschBump q i) s)

/-! ### PTP (R58 to R61) -/

/-- The sent frame's IP layer whose UDP checksum lies at `c` is IPv6. -/
def udpIsV6 (b : List Byte) (c : Nat) : Bool :=
  let v := bytesAt b 0 192
  match (parseL2 v b.length).ip with
  | none => false
  | some o =>
    if o.l4off + 6 = c then o.v6
    else match (parseTunnel v b.length o).inner with
      | some i => if i.l4off + 6 = c then i.v6 else o.v6
      | none => o.v6

/-- A 64-bit correctionField after adding `x` units of 2^-16 ns. -/
def addCf (b : List Byte) (off : Nat) (x : Int) : List Byte :=
  bytesPut b (off + 8) (beBytes 8 (((beNat (bytesAt b (off + 8) 8) : Int) + x) % 18446744073709551616).toNat)

/-- Residence time of R59 in 2^-32 ns; p is the egress port. DESIGN CHOICE (assumption log 80): the receive correction is that of the ingress
port's mode and RX_ADJ as they stand at transmission. -/
def State.residence (s : State) (p : Nat) (d : Desc) : Int :=
  let i := sumGet d.summary sumInPort
  ((s.clk.mono - d.tsMono : Nat) : Int) * (s.clk.incNs * 4294967296 + s.clk.incFrac : Nat)
    + (txLatency (s.rate p) : Int) * 4294967296
    + signed 24 (s.fld (Reg.PRT_TS_ADJ (p / 2) (p % 2)) Fld.PRT_TS_ADJ_TX_ADJ) * 16777216
    + (rxLatency (s.rate i) : Int) * 4294967296 + (d.align : Int)
    - signed 24 (s.fld (Reg.PRT_TS_ADJ (i / 2) (i % 2)) Fld.PRT_TS_ADJ_RX_ADJ) * 16777216

/-- The frame after INSERT_TS or UPDATE_CF at transmit time `t`, without its checksum. DESIGN CHOICE (assumption log 80): the residence time is
rounded down to the correctionField's units of 2^-16 ns. -/
def State.ptpEdit (s : State) (p act off : Nat) (t : Stamp) (d : Desc) (b : List Byte) : List Byte :=
  if act = 1 then
    addCf (bytesPut b (off + 34) (beBytes 6 t.sec ++ beBytes 4 t.ns)) off (t.frac / 65536 : Nat)
  else addCf b off (s.residence p d / 65536)

/-- The PTP action of a frame without FCS that departs now (R58, R60), and its capture (R61). -/
def State.ptp (s : State) (p : Nat) (d : Desc) (b : List Byte) : List Byte × State :=
  let act := d.res0.get r0PtpAct
  let off := d.res0.get r0PtpOff
  let c := d.res0.get r0CsumOff
  let t := stampOf (s.wireTime p) s.clk.mono 0
  let s := if d.res0.get r0PtpCap = 1 then s.txtsPush p { sec := t.sec, ns := t.ns, frac := t.frac, tag := d.ptpTag } else s
  if act = 0 ∨ act = 3 then (b, s)
  else if 148 < off ∨ b.length < off + 44 ∨ (c ≠ 0 ∧ udpIsV6 b c ∧ vec16 b c = 0) then
    (b, s.bump (cntPort p Cnt.PRT_PTP_EDIT_ERR))
  else
    let n := s.ptpEdit p act off t d b
    let n :=
      if c = 0 ∨ 192 < c + 2 then n
      else
        let o := if off % 2 = c % 2 then off else off - 1
        fixChecksum true (!udpIsV6 b c) c [(o, 23)] b n
    (n, s.bump (cntPort p Cnt.PRT_PTP_ONESTEP_OK))

/-! ### Starting a frame (R318, R323) -/

/-- What a copy's body gives to send, without FCS: the bytes, whether the frame is cut, and whether nothing can be sent (R294). -/
def State.bodyBytes (s : State) (c : Copy) (e : CellEcc) : List Byte × Bool × Bool × State :=
  match c.body with
  | .frame head cnt len =>
    let x := s.readEcc head cnt e true
    let n := min x.1 (x.2.2.chain head cnt).length
    let cut := x.2.1 || decide (n < cnt)
    ((x.2.2.frameBytes head cnt (min (256 * n) (len - 4))), cut, n == 0, x.2.2)
  | .own cell len =>
    let x := s.readEcc cell 1 e true
    (x.2.2.frameBytes cell 1 len, x.2.1, x.2.1, x.2.2)
  | .pool p i len =>
    let x := s.bufRead (ptrOf p i) len
    (x.1, x.2.1, false, x.2.2)

/-- The bytes of a copy as they leave, without FCS: edited (R329), or as they are. -/
def State.sentBytes (s : State) (p : Nat) (c : Copy) (b : List Byte) : List Byte × State :=
  let e := if c.raw then (padFrame b, s) else s.editFrame (quadOf p) c b
  if c.raw ∧ !c.body.isPool then e else e.2.ptp p c.desc e.1

/-- Length on the wire of the head frame of a class, FCS included, as the gate check takes it. -/
def State.headLength (s : State) (p : Nat) (c : Copy) : Nat := (s.sentBytes p c (s.bodyBytes c .ok).1).1.length + 4

/-- The time gate of class `cls` lets its head frame start now (R323). -/
def State.gateLets (s : State) (p cls : Nat) (c : Copy) : Bool :=
  let guard := s.fld (Reg.TMG_GATE_CFG (quadOf p) (p % 128)) Fld.TMG_GATE_CFG_GUARD_NS
  let w := ((s.headLength p c + 20) * 8 * 4294967296 + s.rate p - 1) / s.rate p
  s.gateOpen p cls (s.wireTime p) (w + guard * 4294967296)

/-- The head of a class FIFO of the egress slice. -/
def State.egrHead (s : State) (p cls : Nat) : Option Copy := (Tbl.get [] (s.port p).egr cls).head?

/-- Heads that their gate holds are counted once (R323). -/
def State.countGateWaits (s : State) (p : Nat) : State :=
  forUpTo 8 (fun cls t =>
    match t.egrHead p cls with
    | none => t
    | some c =>
      let x := t.port p
      if x.gateWaited.testBit cls ∨ t.gateLets p cls c = true then t
      else (t.setPort p { x with gateWaited := x.gateWaited ||| 2 ^ cls }).tschBump (quadOf p) Cnt.TSCH_GATE_WAITS) s

/-- The class whose head starts next. -/
def State.startClass (s : State) (p : Nat) : Option Nat :=
  ((List.range 8).reverse).find? (fun cls =>
    match s.egrHead p cls with
    | none => false
    | some c => !s.stoppedCls p cls && s.gateLets p cls c)

/-- EGRESS_FRAME_START: `e`: what reading the copy's cells meets. -/
def egressFrameStart (p : Nat) (e : CellEcc) (s : State) : State :=
  let x := s.port p
  if !s.portEnabled p ∨ s.down (unitSlice (sliceOf p)) ∨ x.tx.isSome ∨ (x.fcPend ≠ [] ∧ s.linkUp p) then s
  else
    let s := s.countGateWaits p
    match s.startClass p with
    | none => s
    | some cls =>
      match Tbl.get [] (s.port p).egr cls with
      | [] => s
      | c :: r =>
        let x := s.port p
        let wait := if x.gateWaited.testBit cls then x.gateWaited ^^^ 2 ^ cls else x.gateWaited
        let s := s.setPort p { x with egr := Tbl.set [] x.egr cls r, gateWaited := wait }
        let s := s.freeEgress p cls 1
        let b := s.bodyBytes c e
        if b.2.2.1 then b.2.2.2.releaseBody (quadOf p) c
        else
          let y := b.2.2.2.sentBytes p c b.1
          let fcs := fcsOf y.1
          let t : TxNow := { copy := c, bytes := y.1 ++ (if b.2.1 then fcs.map (fun v => ~~~v) else fcs)
                             linkDown := !y.2.linkUp p }
          y.2.setPort p { y.2.port p with tx := some t }

/-- TX_COPY_DONE (R293): the last cell has been read and the frame has left; `ft`: the frame-table entry fails (R294). -/
def txCopyDone (p : Nat) (ft : Bool) (s : State) : State :=
  match (s.port p).tx with
  | none => s
  | some t =>
    let s := s.setPort p { s.port p with tx := none, wire := t.bytes }
    let s := (s.bump (cntPort p Cnt.PRT_TX_FRAMES)).bumpBy (cntPort p Cnt.PRT_TX_OCTETS) t.bytes.length
    let s := if t.linkDown then s.bump (cntPort p Cnt.PRT_TX_DURING_LINK_DOWN) else s
    let s := match t.copy.body with | .frame head _ _ => if ft then s.frameTableFail head else s | _ => s
    (s.releaseBody (quadOf p) t.copy).loopBack p t.bytes

def execEgressFrameStart (p : Fin 512) (e : CellEcc) (s : State) : Out := done s (egressFrameStart p.val e s)
def execTxCopyDone (p : Fin 512) (ft : Bool) (s : State) : Out := done s (txCopyDone p.val ft s)

end Sys2Proof.Machine
end

