-- ==== Sys2Proof/Machine/Host.lean ====
section
/-! DEFINITION. The host interface (R357 to R366): the link and the lost host, the DRAM aperture, the receive and inject rings,
the TMs' host queues (R299), interrupts. -/

namespace Sys2Proof.Machine

def State.hifBump (s : State) (i : Nat) : State := s.bump (Reg.HIF_CNT i)

def State.hostIsLost (s : State) : Bool := s.flag Reg.HIF_STATUS Fld.HIF_STATUS_HOST_LOST
def State.dmaEn (s : State) : Bool := s.flag Reg.HIF_CTL Fld.HIF_CTL_DMA_EN

/-! ### The lost host (R358) -/

/-- The host is lost; `was`: it was lost before. -/
def State.hostLostFrom (s : State) (was : Bool) : State :=
  let s := if was then s else s.hifBump Cnt.HIF_HOST_LOST_EVENTS
  let s := (s.setFld Reg.HIF_STATUS Fld.HIF_STATUS_HOST_LOST 1).setFld Reg.HIF_CTL Fld.HIF_CTL_DMA_EN 0
  let s := { s with hif := { s.hif with txWait := none } }
  s.lopAbortAll State.lopNeedsHost lopHost

def State.hostLost (s : State) : State := s.hostLostFrom s.hostIsLost

/-- The HIF registers and queues return to their reset values. -/
def State.hifReset (s : State) : State :=
  let s := s.resetRange 0x40000 0x50000
  { s with hif := { HifSt.init with mem := s.hif.mem } }

/-- PERST_N_ASSERT: the HIF registers and link, then the host is lost. -/
def perstAssert (s : State) : State :=
  let was := s.hostIsLost
  let s := (s.hifReset.bumpSat Reg.GLB_RESET_CNT Fld.GLB_RESET_CNT_PERST).hostLostFrom was
  { s with power := { s.power with perstLow := some s.clk.mono } }

/-- PERST_N_RELEASE: high again after at least 100 µs low (R436). -/
def perstRelease (s : State) : State :=
  match s.power.perstLow with
  | none => s
  | some t => if s.clk.mono < t + usTicks 100 then s else { s with power := { s.power with perstLow := none } }

/-- HOT_RESET. -/
def hotReset (s : State) : State :=
  let was := s.hostIsLost
  (s.hifReset.bumpSat Reg.GLB_RESET_CNT Fld.GLB_RESET_CNT_HOT_FLR).hostLostFrom was

/-- FLR: the link stays up. -/
def flr (s : State) : State :=
  let was := s.hostIsLost
  let a := Reg.HIF_STATUS
  let up := s.fld a Fld.HIF_STATUS_LINK_UP
  let sp := s.fld a Fld.HIF_STATUS_SPEED
  let w := s.fld a Fld.HIF_STATUS_WIDTH
  let s := (s.hifReset.bumpSat Reg.GLB_RESET_CNT Fld.GLB_RESET_CNT_HOT_FLR).hifBump Cnt.HIF_FLR
  (((s.setFld a Fld.HIF_STATUS_LINK_UP up).setFld a Fld.HIF_STATUS_SPEED sp).setFld a Fld.HIF_STATUS_WIDTH w).hostLostFrom was

/-- PCIE_LINK_DOWN. -/
def pcieLinkDown (s : State) : State := (s.setFld Reg.HIF_STATUS Fld.HIF_STATUS_LINK_UP 0).hostLost

/-- DATA_LINK_LAYER_UP with a negotiated speed and width. -/
def dataLinkUp (speed width : Nat) (s : State) : State :=
  let a := Reg.HIF_STATUS
  if s.power.perstLow.isSome ∨ speed = 0 ∨ ¬ [1, 2, 4, 8].contains width then s
  else ((s.setFld a Fld.HIF_STATUS_LINK_UP 1).setFld a Fld.HIF_STATUS_SPEED speed).setFld a Fld.HIF_STATUS_WIDTH width

/-- DMA_EN_WRITE: DMA_EN = 1 clears HOST_LOST. -/
def dmaEnWrite (s : State) : State :=
  if s.down unitHif then s
  else (s.setFld Reg.HIF_CTL Fld.HIF_CTL_DMA_EN 1).setFld Reg.HIF_STATUS Fld.HIF_STATUS_HOST_LOST 0

/-! ### Interrupts (R366) -/

/-- An MSI-X message leaves, unless the host is lost. -/
def State.msix (s : State) : State := if s.hostIsLost then s else s.hifBump Cnt.HIF_MSIX_SENT

/-- The fault collector raises its vector (HIF.EVT_CFG). -/
def State.faultVector (s : State) : State := if s.flag Reg.HIF_EVT_CFG Fld.HIF_EVT_CFG_FAULT_EN then s.msix else s

/-- Cast-on reaches RUN or FACTORY (HIF.EVT_CFG). -/
def State.castOnVector (s : State) : State := if s.flag Reg.HIF_EVT_CFG Fld.HIF_EVT_CFG_CASTON_EN then s.msix else s

def State.irqOf (s : State) (r : Nat) : RingIrq := Tbl.get RingIrq.init s.hif.irq r

def State.setIrq (s : State) (r : Nat) (x : RingIrq) : State :=
  { s with hif := { s.hif with irq := Tbl.set RingIrq.init s.hif.irq r x } }

/-- A descriptor of ring r has been completed. -/
def State.ringDone (s : State) (r : Nat) : State :=
  let x := s.irqOf r
  s.setIrq r { count := x.count + 1, first := if x.count = 0 then s.clk.mono else x.first }

/-- The ring's message is due: COAL_CNT completions, or COAL_US since the first one not signalled. -/
def State.msixDue (s : State) (r : Nat) : Bool :=
  let x := s.irqOf r
  let c := Reg.HIF_RING_CFG r
  decide (0 < x.count) && (decide (max 1 (s.fld c Fld.HIF_RING_CFG_COAL_CNT) ≤ x.count)
    || decide (x.first + usTicks (s.fld c Fld.HIF_RING_CFG_COAL_US) ≤ s.clk.mono))

/-- MSIX_SEND. -/
def msixSend (r : Nat) (s : State) : State :=
  if !s.flag (Reg.HIF_RING_CFG r) Fld.HIF_RING_CFG_IRQ_EN ∨ s.hostIsLost ∨ !s.msixDue r then s
  else s.msix.setIrq r RingIrq.init

/-! ### Rings (R362) -/

def State.ringEn (s : State) (r : Nat) : Bool := s.flag (Reg.HIF_RING_CFG r) Fld.HIF_RING_CFG_EN
def State.ringSize (s : State) (r : Nat) : Nat := 2 ^ s.fld (Reg.HIF_RING_CFG r) Fld.HIF_RING_CFG_SIZE_LOG2
def State.ringHead (s : State) (r : Nat) : Nat := s.fld (Reg.HIF_RING_PTR r) Fld.HIF_RING_PTR_HEAD
def State.ringTail (s : State) (r : Nat) : Nat := s.fld (Reg.HIF_RING_PTR r) Fld.HIF_RING_PTR_TAIL

/-- The ring is enabled, DMA_EN is 1 and a descriptor is posted (R364). -/
def State.ringReady (s : State) (r : Nat) : Bool := s.ringEn r && s.dmaEn && s.ringHead r != s.ringTail r

/-- Host address of word `j` of the descriptor at HEAD of ring r. -/
def State.descAddr (s : State) (r j : Nat) : Nat :=
  4096 * s.fld (Reg.HIF_RING_BASE r) Fld.HIF_RING_BASE_ADDR + 32 * s.ringHead r + 8 * j

/-- Writes bytes to host memory. -/
def State.hostWrite (s : State) (a : Nat) (b : List Byte) : State :=
  { s with hif := { s.hif with mem := memWrite s.hif.mem a b } }

/-- HEAD moves past the completed descriptor. -/
def State.ringNext (s : State) (r : Nat) : State :=
  (s.setFld (Reg.HIF_RING_PTR r) Fld.HIF_RING_PTR_HEAD ((s.ringHead r + 1) % s.ringSize r)).ringDone r

/-- RING_ENABLE: EN = 1 sets HEAD and TAIL to 0. -/
def ringEnable (r : Nat) (s : State) : State :=
  (s.setFld (Reg.HIF_RING_CFG r) Fld.HIF_RING_CFG_EN 1).setReg (Reg.HIF_RING_PTR r) 0

/-- Indices from a up to b of ring r. -/
def State.ringFrom (s : State) (r a b : Nat) : Nat := (b + s.ringSize r - a) % s.ringSize r

/-- A TAIL of v posts more than size − 1 descriptors: those posted already, and those from the old TAIL on (DEDUCED, log 83). -/
def State.overPosts (s : State) (r v : Nat) : Bool :=
  decide (s.ringSize r ≤ s.ringFrom r (s.ringHead r) (s.ringTail r) + s.ringFrom r (s.ringTail r) v)

/-- A doorbell of ring r: value v, 64 bits wide where `wide`. -/
def doorbell (r : Nat) (v : Word64) (wide : Bool) (s : State) : State :=
  if !wide ∨ !s.ringEn r ∨ s.ringSize r ≤ v.toNat ∨ s.overPosts r v.toNat then s.hifBump Cnt.HIF_DOORBELL_BAD
  else s.setFld (Reg.HIF_RING_PTR r) Fld.HIF_RING_PTR_TAIL v.toNat

/-! ### The aperture (R361) -/

/-- Device byte address of an aperture access. -/
def State.apAddr (s : State) (w off : Nat) : Nat := s.fld (Reg.HIF_AP_BASE w) Fld.HIF_AP_BASE_BASE * 65536 + off

/-- An access reached beyond SPACE. -/
def State.apOor (s : State) : State :=
  (s.hifBump Cnt.HIF_AP_OOR).setFld Reg.HIF_STATUS Fld.HIF_STATUS_AP_OOR 1

/-- Reads `len` bytes from device address `a` line by line, `es` what each line's read meets. -/
def State.apLines (s : State) (a : Nat) : Nat → Nat → List Ecc → List Byte × Bool × State
  | 0, _, _ => ([], false, s)
  | fuel + 1, len, es =>
    if len = 0 then ([], false, s)
    else
      let n := min len (64 - a % 64)
      let x : Option (List Byte) × State :=
        if a < s.space then s.dramRead (a / 64) true (es.headD .ok) else (some (List.replicate 64 0xFF#8), s)
      let rest := (match x.1 with | none => (x.2.hifBump Cnt.HIF_AP_LOST).setFld Reg.HIF_STATUS Fld.HIF_STATUS_AP_LOST 1
                                  | some _ => x.2).apLines (a + n) fuel (len - n) es.tail
      let b := match x.1 with | none => List.replicate n 0#8 | some b => bytesAt b (a % 64) n
      (b ++ rest.1, x.1.isNone || rest.2.1, rest.2.2)

/-- AP_READ: `len` bytes at offset `off` of window w. -/
def apRead (w off len : Nat) (es : List Ecc) (s : State) : State :=
  if len = 0 ∨ 4096 < len ∨ 4294967296 < off + len ∨ !s.dmcReady ∨ s.down unitHif then s
  else
    let a := s.apAddr w off
    let s := s.hifBump Cnt.HIF_AP_READS
    let s := if s.space < a + len then s.apOor else s
    let r := s.apLines a 66 len es
    { r.2.2 with hif := { r.2.2.hif with apRead := r.1, apPoison := r.2.1 } }

/-- Writes bytes to device address `a` line by line; bytes beyond SPACE are dropped. -/
def State.apStore (s : State) (a : Nat) : Nat → List Byte → List Ecc → State
  | 0, _, _ => s
  | fuel + 1, b, es =>
    if b = [] then s
    else
      let n := min b.length (64 - a % 64)
      let part := b.take n
      let s :=
        if s.space ≤ a then s
        else if n = 64 then (s.dramWrite (a / 64) part true).2
        else (s.dramMerge (a / 64) (a % 64) part true (es.headD .ok)).2
      s.apStore (a + n) fuel (b.drop n) es.tail

/-- AP_WRITE: bytes at offset `off` of window w. -/
def apWrite (w off : Nat) (bytes : List Byte) (es : List Ecc) (s : State) : State :=
  if bytes = [] ∨ 4096 < bytes.length ∨ 4294967296 < off + bytes.length ∨ !s.dmcReady ∨ s.down unitHif then s
  else
    let a := s.apAddr w off
    let s := s.hifBump Cnt.HIF_AP_WRITES
    let s := if s.space < a + bytes.length then s.apOor else s
    s.apStore a 66 bytes es

/-! ### Receive (R299, R363, R364) -/

/-- The 64 bytes of a TM descriptor (R295). -/
def Desc.bytes (d : Desc) : List Byte :=
  leBytes 16 d.summary.toNat ++ leBytes 8 d.res0.toNat ++ leBytes 8 d.tsMono ++ leBytes 8 d.res1.toNat
    ++ leBytes 2 d.ptpTag ++ leBytes 2 0 ++ leBytes 1 d.gen
    ++ leBytes 3 (bit d.sampled + 2 * (d.sampler % 64) + 128 * bit d.perpkt + 256 * (d.outerEcn % 4))
    ++ leBytes 8 d.res2.toNat ++ leBytes 8 (d.cellHead % 4194304 + 4194304 * (d.cellCnt % 64))

/-- The HIF fills a receive descriptor with 64 header bytes and a frame or message (R363); `src`: 1 for an IPFIX message. -/
def State.rxFill (s : State) (k : Nat) (w0 w1 : Word64) (src : Nat) (head frame : List Byte) : State :=
  let room := w1.get ⟨0, 16⟩ - 64
  let data := frame.take room
  let cut := decide (room < frame.length)
  let w2 := data.length % 16384 + 16384 * bit cut + 32768 * src + 65536 * k + 2 ^ 63
  let s := s.hostWrite w0.toNat (head ++ data)
  let s := s.hostWrite (s.descAddr k 3) (leBytes 8 s.clk.mono)
  let s := s.hostWrite (s.descAddr k 2) (leBytes 8 w2)
  let s := (s.hifBump Cnt.HIF_RX_FRAMES).bump (Reg.HIF_RING_CNT k)
  let s := if cut then s.hifBump Cnt.HIF_RX_TRUNC else s
  s.ringNext k

/-- A buffer that the HIF owns reaches ring k, or is discarded where the host is lost; `e`: what reading park memory meets. -/
def State.hifTake (s : State) (k x len : Nat) (w0 w1 : Word64) (src : Nat) (head : List Byte) (e : Ecc := .ok) : State :=
  if s.hostIsLost then (s.hifBump Cnt.HIF_RX_HOST_LOST_DISCARD).poolRelease reqHif x
  else
    let b := s.bufRead x len e
    (b.2.2.rxFill k w0 w1 src head b.1).poolRelease reqHif x

/-- Host queue k can be served. -/
def State.hostQueueReady (s : State) (k : Nat) : Bool :=
  s.queue (k / 16) (640 + k % 16) != [] && (s.hostIsLost || s.ringReady k)

/-- The host queue of TM q served next. -/
def State.nextHostQueue (s : State) (q : Nat) : Option Nat :=
  let l := Tbl.get 15 s.tm.lastHost q
  ((List.range 16).map (fun i => 16 * q + (l + 1 + i) % 16)).find? s.hostQueueReady

/-- Bytes of a copy for the host: the frame with its FCS, or the truncated copy; whether they cannot be read whole. -/
def State.hostBytes (s : State) (c : Copy) (e : CellEcc) : List Byte × Bool × State :=
  match c.body with
  | .frame head cnt len =>
    let x := s.readEcc head cnt e false
    (x.2.2.frameBytes head cnt len, x.2.1 || decide ((x.2.2.chain head cnt).length < cnt), x.2.2)
  | .own cell len =>
    let x := s.readEcc cell 1 e false
    (x.2.2.frameBytes cell 1 len, x.2.1, x.2.2)
  | .pool p i len => s.bufRead (ptrOf p i) len

def Body.len : Body → Nat
  | .frame _ _ len => len
  | .own _ len => len
  | .pool _ _ len => len

/-- The head frame of host queue k is handed over: pool buffer, copy, give (R299). -/
def State.deliver (s : State) (q k : Nat) (c : Copy) (r : List Copy) (w0 w1 : Word64) (e : CellEcc) (ft : Bool) (pe : Ecc := .ok) :
    State :=
  let u := 640 + k % 16
  let setWait (x : Option (Nat × Nat)) (s : State) : State :=
    { s with tm := { s.tm with hostWait := Tbl.set none s.tm.hostWait q x } }
  match s.fitPool c.body.len with
  | none => s
  | some p =>
    let a := s.poolAlloc (reqTm q) p
    match a.1 with
    | .wait => a.2
    | .empty => setWait (some (k, a.2.clk.mono)) a.2
    | .granted x =>
      let s := setWait none a.2
      let s := { s with tm := { s.tm with lastHost := Tbl.set 15 s.tm.lastHost q (k % 16) } }
      let s := (s.setQueue q u r).qcnt q u 2
      let b := s.hostBytes c e
      let s := match c.body with | .frame head _ _ => if ft then b.2.2.frameTableFail head else b.2.2 | _ => b.2.2
      if b.2.1 then ((s.tmgBump q Cnt.TMG_HOST_COPY_UE).poolRelease (reqTm q) x).releaseBody q c
      else
        let s := (s.bufWrite x b.1).poolHand (reqTm q) x reqHif
        let s := (s.releaseBody q c).tmgBump q Cnt.TMG_HOST_DELIVERED
        s.hifTake k x b.1.length w0 w1 0 c.desc.bytes pe

/-- HOST_DELIVERY: TM q hands the next host-queue frame; w0, w1: the host's words of the descriptor at HEAD; `pe`: what reading
a park-memory buffer meets. -/
def hostDelivery (q : Nat) (w0 w1 : Word64) (e : CellEcc) (ft : Bool) (pe : Ecc) (s : State) : State :=
  if s.down (unitTm q) ∨ s.down unitHif ∨ (Tbl.get none s.tm.hostWait q).isSome then s
  else
    match s.nextHostQueue q with
    | none => s
    | some k =>
      match s.queue q (640 + k % 16) with
      | [] => s
      | c :: r => s.deliver q k c r w0 w1 e ft pe

/-- HOST_POOL_RETRY: after 64 cycles a frame that met POOL_EMPTY tries again. -/
def hostPoolRetry (q : Nat) (w0 w1 : Word64) (e : CellEcc) (ft : Bool) (pe : Ecc) (s : State) : State :=
  match Tbl.get none s.tm.hostWait q with
  | none => s
  | some (k, m) =>
    if s.down (unitTm q) ∨ s.down unitHif ∨ s.clk.mono < m + 32 then s
    else
      match s.queue q (640 + k % 16) with
      | [] => { s with tm := { s.tm with hostWait := Tbl.set none s.tm.hostWait q none } }
      | c :: r =>
        if !s.hostQueueReady k then s
        else s.deliver q k c r w0 w1 e ft pe

/-! ### Inject (R365) -/

/-- The TX ring served next. -/
def State.nextTx (s : State) : Option Nat :=
  ((List.range 16).map (fun i => (s.hif.lastTx + 1 + i) % 16)).find? (fun j => s.ringReady (64 + j))

/-- W2 of the descriptor at HEAD is written and HEAD moves on. -/
def State.txStatus (s : State) (j st : Nat) : State :=
  (s.hostWrite (s.descAddr (64 + j) 2) (leBytes 8 (st + 2 ^ 63))).ringNext (64 + j)

/-- What the MAC needs of an injected frame (R365); its receive time has no stated value (assumption log 2). -/
def txDesc (w1 w3 : Word64) (len : Nat) (mono : Nat) : Desc :=
  { summary := sumPut 0 sumFrameLen (len + 4)
    res0 := ((((((0 : Word64).put r0Egress (w1.get ⟨14, 9⟩)).put r0Qclass (w1.get ⟨23, 3⟩)).put r0PtpAct (w1.get ⟨26, 2⟩)).put
      r0PtpCap (w1.get ⟨28, 1⟩)).put r0PtpOff (w1.get ⟨36, 8⟩)).put r0CsumOff (w1.get ⟨44, 8⟩)
    tsMono := mono, align := 0, res1 := 0, ptpTag := w3.get ⟨0, 16⟩, gen := 0, sampled := false, sampler := 0
    perpkt := true, outerEcn := 0, res2 := 0, cellHead := 0, cellCnt := 0, src := 0, own := false }

/-- A frame of ring j gets its buffer and goes to the TM, or waits for one. -/
def State.txTry (s : State) (j : Nat) (w1 w3 : Word64) (bytes : List Byte) : State :=
  let len := w1.get ⟨0, 14⟩
  let p := w1.get ⟨14, 9⟩
  let q := quadOf p
  match s.fitPool len with
  | none => s
  | some k =>
    let a := s.poolAlloc reqHif k
    match a.1 with
    | .wait => a.2
    | .empty =>
      { a.2 with hif := { a.2.hif with lastTx := j, txWait := some { ring := j, w1 := w1, w3 := w3, bytes := bytes
                                                                     mono := a.2.clk.mono } } }
    | .granted x =>
      let s := { a.2 with hif := { a.2.hif with lastTx := j, txWait := none } }
      let s := (s.bufWrite x (bytesAt bytes 0 len)).txStatus j 1
      let s := (s.hifBump Cnt.HIF_TX_FRAMES).bump (Reg.HIF_RING_CNT (64 + j))
      let s := s.poolHand reqHif x (reqTm q)
      if s.down (unitTm q) then (s.tmgBump q Cnt.TMG_FENCE_DISCARD).poolRelease (reqTm q) x
      else
        let d := s.draw
        d.2.poolFrame q (ptrPool x) (ptrIndex x) len p (w1.get ⟨23, 3⟩) (txDesc w1 w3 len d.1.toNat)

/-- TX_INJECT: the next TX descriptor, words W1 and W3, and its frame. -/
def txInject (w1 w3 : Word64) (bytes : List Byte) (s : State) : State :=
  if s.hif.txWait.isSome ∨ s.down unitHif then s
  else
    match s.nextTx with
    | none => s
    | some j =>
      let len := w1.get ⟨0, 14⟩
      let p := w1.get ⟨14, 9⟩
      if len < 60 ∨ s.fld (Reg.PRT_MTU (p / 2) (p % 2)) Fld.PRT_MTU_MAX_FRAME < len + 4 then
        { s with hif := { s.hif with lastTx := j } }.hifBump Cnt.HIF_TX_BAD_LEN |>.txStatus j 2
      else s.txTry j w1 w3 bytes

/-- TX_POOL_RETRY: 64 cycles after POOL_EMPTY. -/
def txPoolRetry (s : State) : State :=
  match s.hif.txWait with
  | none => s
  | some w =>
    if s.clk.mono < w.mono + 32 ∨ s.down unitHif then s
    else s.txTry w.ring w.w1 w.w3 w.bytes

/-! ### A failed host read (R359) -/

def State.dmaErr (s : State) : State :=
  (s.hifBump Cnt.HIF_DMA_ERR).setFld Reg.HIF_STATUS Fld.HIF_STATUS_DMA_ERR 1

/-- HOST_READ_FAIL: of the inject frame that TX_INJECT would take, its descriptor word W1 (`none`), or of a slot's input. -/
def hostReadFail (slot : Option (Fin 16)) (w1 : Word64) (s : State) : State :=
  match slot with
  | some i =>
    match (s.lopSlot i.val).run with
    | .flowImport _ _ _ | .image _ _ _ | .admission => if s.lopActive i.val then s.dmaErr.lopEnd i.val 4 lopHost else s
    | _ => s
  | none =>
    match s.nextTx, s.fitPool (w1.get ⟨0, 14⟩) with
    | some j, some k =>
      if s.hif.txWait.isSome then s
      else
        let a := s.poolAlloc reqHif k
        match a.1 with
        | .granted x =>
          let s := a.2.dmaErr.txStatus j 4
          { s with hif := { s.hif with lastTx := j } }.poolRelease reqHif x
        | _ => s
    | _, _ => s

/-! ### Commands -/

def execPerstNAssert (s : State) : Out := done s (perstAssert s)
def execPerstNRelease (s : State) : Out := done s (perstRelease s)
def execHotReset (s : State) : Out := done s (hotReset s)
def execFlr (s : State) : Out := done s (flr s)
def execPcieLinkDown (s : State) : Out := done s (pcieLinkDown s)
def execD3hotEntry (s : State) : Out := done s s.hostLost
def execBusMasterClear (s : State) : Out := done s s.hostLost
def execDataLinkLayerUp (speed : Fin 7) (width : Fin 9) (s : State) : Out := done s (dataLinkUp speed.val width.val s)
def execDmaEnWrite (s : State) : Out := done s (dmaEnWrite s)
def execMsixSend (r : Fin 80) (s : State) : Out := done s (msixSend r.val s)
def execRingEnable (r : Fin 80) (s : State) : Out := done s (ringEnable r.val s)
def execRxDoorbell (k : Fin 64) (v : Word64) (wide : Bool) (s : State) : Out := done s (doorbell k.val v wide s)
def execTxDoorbell (j : Fin 16) (v : Word64) (wide : Bool) (s : State) : Out := done s (doorbell (64 + j.val) v wide s)
def execApRead (w : Fin 4) (off len : Nat) (es : List Ecc) (s : State) : Out := done s (apRead w.val off len es s)
def execApWrite (w : Fin 4) (off : Nat) (bytes : List Byte) (es : List Ecc) (s : State) : Out :=
  done s (apWrite w.val off bytes es s)
def execHostDelivery (q : Fin 4) (w0 w1 : Word64) (e : CellEcc) (ft : Bool × Ecc) (s : State) : Out :=
  done s (hostDelivery q.val w0 w1 e ft.1 ft.2 s)
def execHostPoolRetry (q : Fin 4) (w0 w1 : Word64) (e : CellEcc) (ft : Bool × Ecc) (s : State) : Out :=
  done s (hostPoolRetry q.val w0 w1 e ft.1 ft.2 s)
def execTxInject (w1 w3 : Word64) (bytes : List Byte) (s : State) : Out := done s (txInject w1 w3 bytes s)
def execTxPoolRetry (s : State) : Out := done s (txPoolRetry s)
def execHostReadFail (slot : Option (Fin 16)) (w1 : Word64) (s : State) : Out := done s (hostReadFail slot w1 s)

end Sys2Proof.Machine
end

