-- ==== Sys2Proof/Machine/Items.lean ====
section
/-! DEFINITION. Work items inside a shard: their 256 bytes (R148), where they are, their park buffers (R162), the verdict in
their order group (R157, R159), and the Ward locks of a thread (R192, R193). -/

namespace Sys2Proof.Machine

/-! ### The 256 bytes of an item (R148) -/

/-- Descriptor bytes 0 to 63. -/
def Item.descriptor (x : Item) : List Byte :=
  leBytes 16 x.summary.toNat ++ leBytes 8 x.h.toNat ++ leBytes 8 x.tsMono ++ leBytes 4 x.tsNs
    ++ leBytes 4 (x.tsSec % 2 ^ 32) ++ leBytes 2 (x.tsSec / 2 ^ 32) ++ leBytes 2 x.seq ++ leBytes 1 x.gen
    ++ leBytes 1 (x.srcSlice + 16 * bit x.aging + 64 * bit x.late) ++ leBytes 2 x.group ++ leBytes 8 x.deadline
    ++ leBytes 8 (x.cellHead % 4194304 + 4194304 * (x.cellCnt % 64))

/-- The item buffer of a thread (R177). -/
def Item.bytes (x : Item) : List Byte := x.descriptor ++ bytesAt x.hv 0 192

/-! ### Where an item is -/

/-- The thread that runs the item of rank r. -/
def State.threadOf (s : State) (h r : Nat) : Option Nat :=
  ((s.shard h).threads.find? (fun e => match e.2.item with | some x => x.rank == r | none => false)).map Prod.fst

def State.parkedOf (s : State) (h r : Nat) : Option Parked := (s.shard h).parked.find? (fun p => p.item.rank == r)

/-- The item of rank r, on a thread or parked. -/
def State.itemOfRank (s : State) (h r : Nat) : Option Item :=
  match s.threadOf h r with
  | some t => (s.thread h t).item
  | none => (s.parkedOf h r).map (fun p => p.item)

def State.modParked (s : State) (h r : Nat) (f : Parked → Parked) : State :=
  let x := s.shard h
  s.setShard h { x with parked := x.parked.map (fun p => if p.item.rank = r then f p else p) }

/-- A parked item leaves its buffer; one that stood in the resume queue gives its place back. -/
def State.unpark (s : State) (h r : Nat) : State :=
  match s.parkedOf h r with
  | none => s
  | some p =>
    let x := s.shard h
    let s := s.setShard h { x with parked := x.parked.filter (fun p => p.item.rank != r) }
    let s := if p.outcome.isSome then s.freeEntry (lnkFill h) 1 else s
    s.poolRelease h p.index

/-! ### Order groups (R153, R166) -/

def State.group (s : State) (h g : Nat) : Group := Tbl.get Group.init (s.shard h).groups g

def State.setGroup (s : State) (h g : Nat) (x : Group) : State :=
  s.setShard h { s.shard h with groups := Tbl.set Group.init (s.shard h).groups g x }

/-- Changes the reorder-store entry of an item. -/
def State.modEntry (s : State) (h : Nat) (it : Item) (f : RoEntry → RoEntry) : State :=
  let g := s.group h it.group
  s.setGroup h it.group { g with entries := g.entries.map (fun e => if e.item.rank = it.rank then f e else e) }

/-- The item is complete (R157), or released already: no entry waits for its verdict. An aging item never is. -/
def State.complete (s : State) (h : Nat) (it : Item) : Bool :=
  !it.aging && !(s.group h it.group).entries.any (fun e => e.item.rank == it.rank && e.verdict.isNone)

/-- The item's verdict, decided once. -/
def State.decideItem (s : State) (h : Nat) (it : Item) (v : Verdict) : State :=
  s.modEntry h it (fun e => if e.verdict.isSome then e else { e with verdict := some v })

/-- An item ends without a committed result (R159): a packet item gets DEADLINE, an aging item is aborted. -/
def State.endItem (s : State) (h : Nat) (it : Item) (why : EndReason) : State :=
  if it.aging then (s.ageDrain h it.gen false).schBump h Cnt.SCH_AGING_ABORT
  else if s.complete h it then s
  else (s.decideItem h it (.deadline why)).setFld (Reg.SCH_STATUS h) Fld.SCH_STATUS_DEADLINE_MISS 1

/-! ### Ward locks (R192, R193) -/

def State.lock (s : State) (h l : Nat) : WLock := Tbl.get WLock.init (s.shard h).locks l

def State.setLock (s : State) (h l : Nat) (x : WLock) : State :=
  s.setShard h { s.shard h with locks := Tbl.set WLock.init (s.shard h).locks l x }

/-- Thread t releases the locks it holds; each release is counted by `f`. -/
def State.dropLocks (s : State) (h t : Nat) (f : State → State) : State :=
  let s : State := forEach (s.thread h t).locks (fun l s => f (s.setLock h l { s.lock h l with owner := none })) s
  s.setThread h t { s.thread h t with locks := [] }

/-- Thread t leaves the lock queue it stands in. -/
def State.leaveQueue (s : State) (h t : Nat) : State :=
  match (s.thread h t).sleep with
  | .lock l => s.setLock h l { s.lock h l with queue := (s.lock h l).queue.filter (fun x => x != t) }
  | _ => s

/-! ### Threads -/

/-- The thread has no item any more and is IDLE; a halt stays (R171, R201). -/
def State.idleThread (s : State) (h t : Nat) : State :=
  let x := s.thread h t
  s.setThread h t { Thread.init with
    halted := x.halted || x.haltReq.isSome
    haltCause := if x.halted then x.haltCause else x.haltReq.getD 0
    itemEnded := x.halted || x.haltReq.isSome }

end Sys2Proof.Machine
end

