-- ==== Sys2Proof/Machine/Slice.lean ====
section
/-! DEFINITION. The slices past the parser: metering (R78, R79), the end of a frame (R66, R84), work items toward the shards
(R77, R148, R151) and the per-packet path (R80, R83). -/

namespace Sys2Proof.Machine

/-! ### Policers (R78, R79) -/

/-- Bucket units of a byte: a rate of 1 kbit/s is one unit a tick. -/
def meterUnit : Nat := 6400000

/-- The buckets of policer `i` of slice `sl`, filled up to now; a policer that has never metered is full. -/
def State.meterNow (s : State) (sl i : Nat) : Meter :=
  let cbs := s.fld (Reg.SLC_POL_BURST sl i) Fld.SLC_POL_BURST_CBS * meterUnit
  let pbs := s.fld (Reg.SLC_POL_BURST sl i) Fld.SLC_POL_BURST_PBS * meterUnit
  match Tbl.get none s.slice.meters (256 * sl + i) with
  | none => { c := cbs, p := pbs, mono := s.clk.mono }
  | some m =>
    let t := s.clk.mono - m.mono
    { c := min cbs (m.c + t * s.fld (Reg.SLC_POL_RATE sl i) Fld.SLC_POL_RATE_CIR)
      p := min pbs (m.p + t * s.fld (Reg.SLC_POL_RATE sl i) Fld.SLC_POL_RATE_PIR)
      mono := s.clk.mono }

def State.setMeter (s : State) (sl i : Nat) (m : Meter) : State :=
  { s with slice := { s.slice with meters := Tbl.set none s.slice.meters (256 * sl + i) (some m) } }

/-- Meters a frame of `len` bytes: its colour, 0 green, 1 yellow, 2 red. A length that ADJ takes below 0 counts as 0 (DESIGN CHOICE:
R78 does not say; assumption log 80). -/
def State.meter (s : State) (sl i len : Nat) : Nat × State :=
  if !s.flag (Reg.SLC_POL_CTL sl i) Fld.SLC_POL_CTL_EN then (0, s)
  else
    let l := ((len : Int) + signed 8 (s.fld (Reg.SLC_POL_CTL sl i) Fld.SLC_POL_CTL_ADJ)).toNat * meterUnit
    let m := s.meterNow sl i
    if m.p < l then (2, (s.setMeter sl i m).bump (Reg.SLC_POL_CNT_R sl i))
    else if m.c < l then
      let m' : Meter := { m with p := m.p - l }
      (1, (s.setMeter sl i m').bump (Reg.SLC_POL_CNT_Y sl i))
    else
      let m' : Meter := { m with p := m.p - l, c := m.c - l }
      (0, (s.setMeter sl i m').bump (Reg.SLC_POL_CNT_G sl i))

/-! ### The end of a frame -/

def State.slcBump (s : State) (sl i : Nat) : State := s.bump (Reg.SLC_CNT sl i)

/-- The counter of a frame's kind at its end (R69, R83), of those that are neither: `none`. -/
def frameKind (w : BitVec 128) : Option Nat :=
  if sumGet w sumMalformed = 1 then some Cnt.SLC_MALFORMED
  else if sumGet w sumDeep = 1 then some Cnt.SLC_DEEP
  else if sumGet w sumL3Type = 0 then some Cnt.SLC_NONIP else none

/-- What the held parse of a frame comes to once its length is known (R66): the registers that the lane read stand. -/
def IngFrame.settled (f : IngFrame) (p : Nat) (y : Parsed) : Parsed := parseWith y.cfg p f.bytes y.gen

/-- A metered frame joins the frames its port has to send, or is dropped as red (R79). -/
def State.frameKept (s : State) (p : Nat) (f : IngFrame) (z : Parsed) (cells : List Nat) (colour : Nat) : State :=
  let sl := sliceOf p
  let head := cells.headD 0
  let w := z.summary
  if colour = 2 ∧ s.flag (Reg.SLC_POL_CTL sl (8 * (p % 32) + sumGet w sumInClass)) Fld.SLC_POL_CTL_RED_DROP then
    (s.slcBump sl Cnt.SLC_POL_RED_DROP).release head cells.length
  else
    let s := s.learnEvent p z.hv (sumGet w sumOuterVid)
    let o : OutFrame :=
      { parsed := { z with summary := sumPut w sumColour colour }, stamp := f.stamp, cellHead := head, cellCnt := cells.length
        h := sipHash (s.reg (Reg.SLC_HASH_KEY0 sl)) (s.reg (Reg.SLC_HASH_KEY1 sl)) z.key
        flow := sumGet w sumPath == 0, fallback := false, stage := .start, route := .miss, acl := .miss }
    s.setPort p { s.port p with out := (s.port p).out ++ [o] }

/-- A frame's kind is counted (R69, R83). -/
def State.countKind (s : State) (sl : Nat) (w : BitVec 128) : State :=
  match frameKind w with
  | none => s
  | some c => s.slcBump sl c

/-- FRAME_END (R66, R69, R78, R84): the head frame of a port has ended well; it is counted by its kind, metered, learned, and
joins the frames to send. -/
def frameEnd (p : Nat) (s : State) : State :=
  let x := s.port p
  let sl := sliceOf p
  match x.fifo with
  | [] => s
  | f :: r =>
    match f.parsed, f.cells with
    | some y, some cells =>
      if !f.ended ∨ s.down (unitSlice sl) then s
      else
        let z := f.settled p y
        let m := ((s.setPort p { x with fifo := r }).countKind sl z.summary).meter sl
          (8 * (p % 32) + sumGet z.summary sumInClass) f.bytes.length
        m.2.frameKept p f z cells m.1
    | _, _ => s

/-! ### Work items -/

/-- The home bucket of a hash (R75). -/
def homeBucket (h : Word64) (bits : Nat) : Nat := h.toNat % 2 ^ 22 % 2 ^ bits

/-- The work item of a frame (R148). -/
def State.itemOf (s : State) (sl : Nat) (o : OutFrame) : Item :=
  { rank := 0, summary := o.parsed.summary, h := o.h, tsMono := o.stamp.mono, align := o.stamp.delay, tsNs := o.stamp.ns, tsSec := o.stamp.sec
    seq := 0, gen := o.parsed.gen, srcSlice := sl, aging := false, late := false
    group := homeBucket o.h (s.fld (Reg.SLC_HASH_CTL sl) Fld.SLC_HASH_CTL_BUCKET_BITS) % 65536
    deadline := 0, cellHead := o.cellHead, cellCnt := o.cellCnt, hv := o.parsed.hv }

/-- Removes the head of the frames a port has to send. -/
def State.dropOut (s : State) (p : Nat) : State := s.setPort p { s.port p with out := (s.port p).out.drop 1 }

/-- The descriptor of a per-packet frame (R150, R295). -/
def perpktDesc (sl : Nat) (o : OutFrame) (r0 r1 : Word64) : Desc :=
  { summary := o.parsed.summary, res0 := r0, tsMono := o.stamp.mono, align := o.stamp.delay, res1 := r1, ptpTag := 0, gen := o.parsed.gen
    sampled := false, sampler := 0, perpkt := true, outerEcn := outerEcn o.parsed.hv o.parsed.summary, res2 := 0
    cellHead := o.cellHead, cellCnt := o.cellCnt, src := 16 + sl, own := true }

/-- The descriptor as the TMs get it: the frame is offered to its port's sampler, where it has one (R310). -/
def State.perpktOffer (s : State) (p : Nat) (o : OutFrame) (r0 r1 : Word64) : Desc × State :=
  let a := Reg.BUF_PSAMP p
  let k := s.fld a Fld.BUF_PSAMP_SAMPLER
  let x := if s.flag a Fld.BUF_PSAMP_EN then s.offer k else (false, s)
  ({ perpktDesc (sliceOf p) o r0 r1 with sampled := x.1, sampler := if x.1 then k else 0 }, x.2)

/-- Release credits are at hand for every TM that the head frame goes to with these results. -/
def State.perpktCredit (s : State) (p : Nat) (o : OutFrame) (r0 r1 : Word64) : Bool :=
  let x := s.perpktOffer p o r0 r1
  x.2.mayHandOver x.1 (quadOf p)

/-- Counts one event in each of these registers. -/
def State.bumpAll (s : State) (l : List Nat) : State := forEach l (fun a t => t.bump a) s

/-- The head frame of a port goes to the TMs with these results, once credit allows; `cnts` counts what was decided. -/
def State.sendPerpkt (s : State) (p : Nat) (o : OutFrame) (r0 r1 : Word64) (cnts : List Nat) : State :=
  let sl := sliceOf p
  let q := quadOf p
  if !s.perpktCredit p o r0 r1 then s
  else
    let x := s.perpktOffer p o r0 r1
    let t := ((x.2.dropOut p).slcBump sl Cnt.SLC_PERPKT_FRAMES).bumpAll cnts
    (t.drainAdd sl o.parsed.gen (t.liveQuads x.1 q).length).handOver x.1 q (fun j => Reg.TMG_CNT j Cnt.TMG_FENCE_DISCARD)

/-- RES0 of a punted frame, to a host queue. -/
def OutFrame.puntWord (o : OutFrame) (queue : Nat) : Word64 := puntRes0 queue (sumGet o.parsed.summary sumColour)

/-- The home shard is fenced for the slice: fenced or powered off (R77). -/
def State.shardFenced (s : State) (h : Nat) : Bool := !s.shardUp h || !s.domOn (domShard h)

/-- What happens next to the head frame of a port (R77, R80, R83). -/
inductive SliceStep where
  /-- Nothing: a search is under way. -/
  | wait
  /-- Its work item goes to shard `h`. -/
  | item (h : Nat)
  /-- It takes the fallback route. -/
  | reroute
  /-- A search is asked for. -/
  | search (stage : FwdStage) (table : Nat) (key : BitVec 320) (cnts : List Nat)
  /-- It goes to the TMs. -/
  | send (r0 r1 : Word64) (cnts : List Nat)
  /-- It is discarded. -/
  | discard (cnt : Nat)
  deriving DecidableEq, Repr

/-- The next step of a flow-path frame (R77): its shard, or the class's fallback. -/
def State.flowStep (s : State) (p : Nat) (o : OutFrame) : SliceStep :=
  let sl := sliceOf p
  let h := o.h.toNat / 2 ^ 60
  let a := Reg.SLC_FCLASS sl (sumGet o.parsed.summary sumFlowClass)
  let fell := Reg.SLC_CNT sl Cnt.SLC_FENCED_FALLBACK
  if !s.shardFenced h then .item h
  else
    let fb := s.fld a Fld.SLC_FCLASS_FALLBACK
    if fb = 0 then .reroute
    else if fb = 2 then .send (o.puntWord (s.fld a Fld.SLC_FCLASS_PUNT_QUEUE)) 0 [fell]
    else .discard fell

/-- WORK_ITEM_SEND (R77, R151): the head frame's work item goes to its home shard, or the class's fallback is applied. -/
def workItemSend (p : Nat) (s : State) : State :=
  let sl := sliceOf p
  match (s.port p).out with
  | [] => s
  | o :: _ =>
    if !o.flow ∨ s.down (unitSlice sl) then s
    else
      match s.flowStep p o with
      | .item h =>
        if s.credit (lnkDispatch sl h) = 0 then s
        else
          let s := (((s.dropOut p).useCredit (lnkDispatch sl h) 1).drainAdd sl o.parsed.gen 1).slcBump sl Cnt.SLC_FLOW_ITEMS
          let x := s.shard h
          s.setShard h { x with inputs := Tbl.set [] x.inputs sl (Tbl.get [] x.inputs sl ++ [s.itemOf sl o]) }
      | .reroute =>
        let o' : OutFrame := { o with flow := false, fallback := true }
        (s.setPort p { s.port p with out := o' :: (s.port p).out.drop 1 }).slcBump sl Cnt.SLC_FENCED_FALLBACK
      | .send r0 r1 cnts => s.sendPerpkt p o r0 r1 cnts
      | .discard c => ((s.dropOut p).bump c).release o.cellHead o.cellCnt
      | _ => s

/-! ### The per-packet path -/

/-- The destination address matches a router address of the slice (R80). -/
def State.toRouter (s : State) (sl : Nat) (hv : List Byte) : Bool :=
  let da := beNat (bytesAt hv 0 6)
  (List.range 8).any (fun i =>
    s.flag (Reg.SLC_RMAC sl i) Fld.SLC_RMAC_VALID && s.fld (Reg.SLC_RMAC sl i) Fld.SLC_RMAC_MAC == da)

/-- The bridged frame's RES0 and its flood counter (R83). -/
def State.bridge (s : State) (p : Nat) (o : OutFrame) : Word64 × Option Nat :=
  let sl := sliceOf p
  let q := quadOf p
  let w := o.parsed.summary
  let bd := sumGet w sumOuterVid
  let da := beNat (bytesAt o.parsed.hv 0 6)
  let base := (((0 : Word64).put r0Qclass (sumGet w sumInClass)).put r0Colour (sumGet w sumColour))
  let flood := (base.put r0Mcast 1).put r0McGroup (s.fld (Reg.SLC_VLAN sl bd) Fld.SLC_VLAN_FLOOD_GROUP)
  if da.testBit 40 then (flood, some Cnt.MAC_FLOOD_BCAST_MCAST)
  else
    match s.macFind q bd da with
    | none => (flood, some Cnt.MAC_FLOOD_UNKNOWN)
    | some i => (base.put r0Egress (s.mac q i).port, none)

/-- Changes the head of the frames a port has to send. -/
def State.setOut (s : State) (p : Nat) (o : OutFrame) : State :=
  s.setPort p { s.port p with out := o :: (s.port p).out.drop 1 }

/-- A frame whose searches are decided leaves the slice (R80, R103). A punted frame keeps the MIRROR bit of the access rule (R309). -/
def routedStep (p : Nat) (o : OutFrame) (queue : Nat) : SliceStep :=
  let sl := sliceOf p
  let ttl := decide (outerTtl o.parsed.hv o.parsed.summary ≤ 1)
  let punt (m : Bool) (cnts : List Nat) : SliceStep := .send ((o.puntWord queue).put r0Mirror (bit m)) 0 cnts
  let m := aclMirror o.acl
  match routeDecide o.route o.acl (sumGet o.parsed.summary sumColour) with
  | .fenced => .discard (Reg.TMB_CNT (quadOf p) Cnt.TMB_FENCED_DISCARD)
  | .forward r0 r1 => if ttl then punt m [Reg.SLC_CNT sl Cnt.SLC_TTL_PUNT] else .send r0 r1 []
  | .punt => punt m (if ttl then [Reg.SLC_CNT sl Cnt.SLC_TTL_PUNT] else [])
  | .miss => punt m [Reg.SLC_CNT sl (if ttl then Cnt.SLC_TTL_PUNT else Cnt.SLC_ROUTE_MISS_PUNT)]

/-- The next step of a per-packet frame (R80, R83). ROUTED counts as the route search is asked for, fallback frames and those
punted later included (DESIGN CHOICE: R90 does not say when; assumption log 80). -/
def State.perpktStep (s : State) (p : Nat) (o : OutFrame) : SliceStep :=
  let sl := sliceOf p
  let q := quadOf p
  let w := o.parsed.summary
  let k := sumGet w sumFlowClass
  let own := s.fld (Reg.SLC_CTL sl) Fld.SLC_CTL_PUNT_QUEUE
  let queue := if o.fallback then s.fld (Reg.SLC_FCLASS sl k) Fld.SLC_FCLASS_PUNT_QUEUE else own
  match o.stage with
  | .waitRoute => .wait
  | .waitAcl => .wait
  | .start =>
    if !o.fallback ∧ sumGet w sumMalformed = 1 ∧ s.flag (Reg.SLC_CTL sl) Fld.SLC_CTL_MALFORMED_PUNT then
      .send (o.puntWord own) 0 [Reg.SLC_CNT sl Cnt.SLC_MALFORMED_PUNT]
    else if !o.fallback ∧ !(o.parsed.key != [] && s.toRouter sl o.parsed.hv) then
      let b := s.bridge p o
      .send b.1 0 (Reg.SLC_CNT sl Cnt.SLC_BRIDGED :: match b.2 with | none => [] | some c => [Reg.SLC_MAC_CNT (4 * q) c])
    else
      match routeKey o.parsed.hv w with
      | none => .send (o.puntWord queue) 0 [Reg.SLC_CNT sl Cnt.SLC_ROUTE_MISS_PUNT]
      | some (t, key) => .search .waitRoute t key [Reg.SLC_CNT sl Cnt.SLC_ROUTED]
  | .routed =>
    let lp := p % 128
    let wanted :=
      if o.fallback then s.flag (Reg.SLC_FCLASS sl k) Fld.SLC_FCLASS_FALLBACK_ACL
      else (s.reg (if lp < 64 then Reg.TMB_PORT_ACL0 q else Reg.TMB_PORT_ACL1 q)).getLsbD (lp % 64)
    let fenced := match o.route with | .fenced => true | _ => false
    if !fenced && wanted then .search .waitAcl 2 (aclKey o.parsed.hv w) []
    else routedStep p o queue
  | .done => routedStep p o queue

/-- PERPKT_FORWARD (R80, R83): the head frame of a port takes its next step on the per-packet path. -/
def perpktForward (p : Nat) (s : State) : State :=
  let sl := sliceOf p
  match (s.port p).out with
  | [] => s
  | o :: _ =>
    if o.flow ∨ s.down (unitSlice sl) then s
    else
      match s.perpktStep p o with
      | .search st t key cnts =>
        ((s.setOut p { o with stage := st }).bumpAll cnts).askSearch (quadOf p) (sl % 4)
          { table := t, key := key, gen := o.parsed.gen, client := .slice p }
      | .send r0 r1 cnts => s.sendPerpkt p o r0 r1 cnts
      | .discard c => ((s.dropOut p).bump c).release o.cellHead o.cellCnt
      | _ => s

/-- The head frame of a port waits for credit on the link that it goes out by: the slice is holding (R23). -/
def State.sliceHolds (s : State) (p : Nat) : Bool :=
  match (s.port p).out with
  | [] => false
  | o :: _ =>
    match (if o.flow then s.flowStep p o else s.perpktStep p o) with
    | .item h => s.credit (lnkDispatch (sliceOf p) h) == 0
    | .send r0 r1 _ => !s.perpktCredit p o r0 r1
    | _ => false

def execFrameEnd (p : Fin 512) (s : State) : Out := done s (frameEnd p.val s)
def execWorkItemSend (p : Fin 512) (s : State) : Out := done s (workItemSend p.val s)
def execPerpktForward (p : Fin 512) (s : State) : Out := done s (perpktForward p.val s)

end Sys2Proof.Machine
end

