-- ==== Sys2Proof/Machine/Hot.lean ====
section
/-! DEFINITION. The hot tier of a shard (R122 to R129), a record's place in DRAM (R119, R120), the changes of DISP (R125), the
removal of a record (R137), write-backs (R135, R136). -/

namespace Sys2Proof.Machine

/-! ### Places (R119, R120) -/

def State.bucketBits (s : State) (h : Nat) : Nat := s.fld (Reg.HNK_CFG h) Fld.HNK_CFG_BUCKET_BITS

/-- The preferred slot of a record. -/
def prefSlot (x : Word64) (long : Bool) : Nat :=
  if long then 2 * (x.toNat / 2 ^ 23 % 8) else x.toNat / 2 ^ 22 % 16

/-- The device line of slot `p.slot + j` of the home bucket of a hash, or of the stash. -/
def State.placeLine (s : State) (h : Nat) (x : Word64) (p : Place) (j : Nat) : Nat :=
  if p.stash then (s.reg (Reg.HNK_STASH_BASE h)).toNat / 64 + p.slot + j
  else (s.reg (Reg.HNK_REC_BASE h)).toNat / 64 + 16 * homeBucket x (s.bucketBits h) + p.slot + j

/-- A slot as a background or foreground read finds it; `none` where it reads as lost. -/
def State.readSlot (s : State) (h : Nat) (x : Word64) (p : Place) (j : Nat) (fg : Bool) (e : Ecc) :
    Option (List Word64) × State :=
  let r := s.dramRead (s.placeLine h x p j) fg e
  (r.1.map (wordsOf 8), r.2)

def State.writeSlot (s : State) (h : Nat) (x : Word64) (p : Place) (j : Nat) (w : List Word64) (fg : Bool) : State :=
  (s.dramWrite (s.placeLine h x p j) (bytesOf (w.take 8)) fg).2

/-- A DISP update: slot 0 of a place is merged with the rest of its line, which has been read (R260). -/
def State.mergeSlot (s : State) (h : Nat) (x : Word64) (p : Place) (w : List Word64) (fg : Bool) : State :=
  (s.countRmw (s.placeLine h x p 0)).writeSlot h x p 0 w fg

/-- Writes a record to its place. -/
def State.writeRecord (s : State) (h : Nat) (x : Word64) (p : Place) (w : List Word64) (fg : Bool) : State :=
  let s := s.writeSlot h x p 0 w fg
  if recLong w then s.writeSlot h x p 1 (w.drop 8) fg else s

/-- A record as DRAM holds it once written back: clean, no placeholder (R136). -/
def cleanWords (w : List Word64) : List Word64 := recPut (recPut w 0 w0Dirty 0) 0 w0Pending 0

/-- Adds to HNK.OCC1.BUCKET_RECORDS. -/
def State.bucketRecords (s : State) (h : Nat) (up : Bool) (n : Nat) : State :=
  let a := Reg.HNK_OCC1 h
  let old := s.fld a Fld.HNK_OCC1_BUCKET_RECORDS
  s.setFld a Fld.HNK_OCC1_BUCKET_RECORDS (if up then old + n else old - n)

/-! ### The stash directory (R120) -/

def State.stashEntry (s : State) (h i : Nat) : StashEntry := Tbl.get StashEntry.init (s.shard h).stash i

/-- The directory is free at index i: unlisted. -/
def State.stashFree (s : State) (h i : Nat) : Bool := (s.shard h).stash.all (fun e => e.1 != i)

def State.setStash (s : State) (h i : Nat) (x : Option StashEntry) : State :=
  let y := s.shard h
  s.setShard h { y with stash := match x with | none => y.stash.erase i | some e => y.stash.insert i e }

/-- The lowest free index of the stash, or the lowest free aligned pair. -/
def State.stashPlace (s : State) (h : Nat) (long : Bool) : Option Nat :=
  let used := (s.shard h).stash.map Prod.fst
  if long then
    ((List.range (used.length + 1)).map (fun i => 2 * i)).find? (fun i => !used.contains i && !used.contains (i + 1) && decide (i < 65536))
  else (List.range (used.length + 1)).find? (fun i => !used.contains i && decide (i < 65536))

/-- Enters a record into the directory. -/
def State.stashTake (s : State) (h i : Nat) (x : Word64) (long : Bool) : State :=
  let e : StashEntry := { h60 := tag60 x, long := long, tail := false, withdrawn := false }
  let s := s.setStash h i (some e)
  let s := if long then s.setStash h (i + 1) (some { e with tail := true }) else s
  if 58982 ≤ (s.shard h).stash.length then s.setFld (Reg.HNK_STATUS h) Fld.HNK_STATUS_STASH_HIGH 1 else s

/-! ### Ways (R122, R123) -/

/-- Way `i` = 8 · set + way. -/
def State.way (s : State) (h i : Nat) : Way := Tbl.get Way.init (s.shard h).ways i

def State.setWay (s : State) (h i : Nat) (w : Way) : State :=
  s.setShard h { s.shard h with ways := Tbl.set Way.init (s.shard h).ways i w }

/-- The set of a hash. -/
def setOf (x : Word64) : Nat := x.toNat % 2 ^ 18

/-- The way that holds the record's words: the head of a pair. -/
def State.headOf (s : State) (h i : Nat) : Nat := if (s.way h i).role = .tail then i - 1 else i

/-- Ways of the hash's set whose tag matches, lowest first. -/
def State.tagMatches (s : State) (h : Nat) (x : Word64) : List Nat :=
  ((List.range 8).map (fun w => 8 * setOf x + w)).filter (fun i =>
    (s.way h i).valid && (s.way h i).role != .tail && (s.way h i).h60 == tag60 x)

/-- The way of the record of this hash and key. -/
def State.findWay (s : State) (h : Nat) (x : Word64) (key : List Byte) : Option Nat :=
  (s.tagMatches h x).find? (fun i => recKey (s.way h i).words == pad40 key)

/-- The way that a holder holds. -/
def State.heldWay (s : State) (h : Nat) (o : Holder) : Option Nat :=
  ((s.shard h).ways.find? (fun e => e.2.held == some o)).map Prod.fst

/-- Marks a record's ways as referenced. -/
def State.setRef (s : State) (h i : Nat) (b : Bool) : State :=
  let s := s.setWay h i { s.way h i with ref := b }
  if (s.way h i).role = .head then s.setWay h (i + 1) { s.way h (i + 1) with ref := b } else s

/-- Empties a record's ways; a FLUSH has nothing more to write there. -/
def State.dropWay (s : State) (h i : Nat) : State :=
  let long := decide ((s.way h i).role = .head)
  let s := s.setWay h i Way.init
  let s := if long then s.setWay h (i + 1) Way.init else s
  s.setShard h { s.shard h with flush := (s.shard h).flush.filter (fun j => j != i) }

/-- Places a record in way i, or in the pair i, i + 1. -/
def State.putWay (s : State) (h i : Nat) (x : Word64) (w : List Word64) (p : Place) : State :=
  let long := recLong w
  let d := s.draw
  let y : Way := { valid := true, h60 := tag60 x, role := if long then .head else .short, ref := d.1.getLsbD 0, held := none
                   filling := false, evicting := false, place := p, words := w }
  let s := d.2.setWay h i y
  if long then s.setWay h (i + 1) { y with role := .tail, words := [] } else s

/-- Stores a record's words in its way. -/
def State.setWords (s : State) (h i : Nat) (w : List Word64) : State := s.setWay h i { s.way h i with words := w }

/-! ### Changes of DISP (R125) -/

/-- A record's words after the DISP of slot `slot` of its bucket became `disp`. -/
def dispWords (p : Place) (slot disp : Nat) (w : List Word64) : List Word64 :=
  if p.stash then w
  else if p.slot = slot then recPut w 0 w0Disp disp
  else if recLong w ∧ p.slot + 1 = slot then recPut w 8 w0Disp disp
  else w

/-- Every on-chip copy of the record at a slot of a bucket takes the new DISP: resident, in the eviction buffer, or fetched
and not yet placed. -/
def State.dispUpdate (s : State) (h : Nat) (x : Word64) (slot disp : Nat) : State :=
  let y := s.shard h
  let b := s.bucketBits h
  let same (g : Nat) : Bool := homeBucket (BitVec.ofNat 64 g) b == homeBucket x b
  s.setShard h { y with
    ways := y.ways.map (fun e =>
      if same e.2.h60 = true ∧ e.2.role ≠ .tail then (e.1, { e.2 with words := dispWords e.2.place slot disp e.2.words }) else e)
    evb := y.evb.map (fun e => if same e.h60 then { e with words := dispWords e.place slot disp e.words } else e)
    entries := y.entries.map (fun e =>
      match e.stage with
      | .fetched o w p r => if same (tag60 e.h) then { e with stage := .fetched o (dispWords p slot disp w) p r } else e
      | _ => e) }

/-- A stash slot that reads as lost is withdrawn from the free list (R269). -/
def State.withdrawSlot (s : State) (h i : Nat) : State := s.setStash h i (some { s.stashEntry h i with withdrawn := true })

/-! ### Removal (R137) -/

/-- The tombstone of a slot: its DISP and nothing else. -/
def tombstone (disp : Nat) : List Word64 :=
  (0 : Word64).put w0Disp disp :: List.replicate 7 0

/-- Write-backs of the eviction buffer to the place of a record are made before another write of that place (R121, R136). -/
def State.settleEvb (s : State) (h : Nat) (x : Word64) (p : Place) : State :=
  let y := s.shard h
  let b := s.bucketBits h
  let same (e : Evicted) : Bool :=
    !e.written && e.place == p && (p.stash || homeBucket (BitVec.ofNat 64 e.h60) b == homeBucket x b)
  let keep := y.evb.filterMap (fun e => if same e then (if e.reclaim then some { e with written := true } else none) else some e)
  forEach (y.evb.filter same) (fun e t => t.writeRecord h (BitVec.ofNat 64 (e.h60 + h * 2 ^ 60)) e.place (cleanWords e.words) true)
    (s.setShard h { y with evb := keep })

/-- Clears bit q of the DISP of a displaced record's preferred slot; `e`: what reading the slot meets. -/
def State.clearDisp (s : State) (h : Nat) (x : Word64) (f q : Nat) (fg : Bool) (e : Ecc) : State :=
  let p : Place := { stash := false, slot := f }
  let r := s.readSlot h x p 0 fg e
  match r.1 with
  | none => r.2
  | some v =>
    let d := recFld v 0 w0Disp
    let d := if d.testBit q then d - 2 ^ q else d
    (r.2.mergeSlot h x p (recPut v 0 w0Disp d) fg).dispUpdate h x f d

/-- Writes tombstones to a record's slots and clears its bit in the DISP of its preferred slot. -/
def State.removeFromDram (s : State) (h : Nat) (x : Word64) (w : List Word64) (p : Place) (fg : Bool) (e : Ecc) : State :=
  let long := recLong w
  let s := (s.settleEvb h x p).writeSlot h x p 0 (tombstone (recFld w 0 w0Disp)) fg
  let s := if long then s.writeSlot h x p 1 (tombstone (recFld w 8 w0Disp)) fg else s
  if p.stash then
    let s := s.setStash h p.slot none
    if long then s.setStash h (p.slot + 1) none else s
  else
    let s := s.bucketRecords h false (recSlots long)
    if p.slot = prefSlot x long then s else s.clearDisp h x (prefSlot x long) p.slot fg e

/-- Deletes the resident record of way i (R137). -/
def State.deleteWay (s : State) (h i : Nat) (e : Ecc) : State :=
  let w := s.way h i
  let x : Word64 := BitVec.ofNat 64 (w.h60 + h * 2 ^ 60)
  let s := s.mirrorDelete h x w.words
  (s.dropWay h i).removeFromDram h x w.words w.place true e

/-- A dirty resident record is lost to an uncorrectable error (R129). -/
def State.loseWay (s : State) (h i : Nat) : State :=
  let w := s.way h i
  let x : Word64 := BitVec.ofNat 64 (w.h60 + h * 2 ^ 60)
  (((s.dropWay h i).removeFromDram h x w.words w.place true .ok).hnkBump h Cnt.HNK_RECORD_LOST).detect (srcShard h) 0x021 1 i

/-- A read of a way meets `e` (R129): whether the record survives. -/
def State.readWay (s : State) (h i : Nat) (e : Ecc) : Bool × State :=
  match e with
  | .ok => (true, s)
  | .corrected => (true, s.hnkBump h Cnt.HNK_HOT_ECC_CORRECTED)
  | .uncorrectable =>
    if recFld (s.way h i).words 0 w0Dirty = 1 then (false, s.loseWay h i)
    else (false, (s.dropWay h i).detect (srcShard h) 0x004 0 i)

/-! ### Write-backs that leave the record resident (R136, R145) -/

/-- The dirty record of way i is written to DRAM and becomes clean. -/
def State.flushWay (s : State) (h i : Nat) : State :=
  let w := s.way h i
  let x : Word64 := BitVec.ofNat 64 (w.h60 + h * 2 ^ 60)
  if w.valid = true ∧ w.role ≠ .tail ∧ recFld w.words 0 w0Dirty = 1 then
    let c := cleanWords w.words
    ((s.settleEvb h x w.place).writeRecord h x w.place c true).setWords h i c
  else s

/-- FLUSH_BUSY (R145): a write that a FLUSH waits for has not been accepted. -/
def State.flushBusy (s : State) (h : Nat) : Bool :=
  (s.shard h).flush != [] || (s.shard h).evb.any (fun e => e.flush && !e.written)

/-- The hold of way i ends. -/
def State.unholdWay (s : State) (h i : Nat) : State := s.setWay h i { s.way h i with held := none }

/-! ### Write-back of a thread (R135) -/

/-- The record of way i is written with `w`, by an item whose ingress time-stamp is `mono`; DISP is kept (R125). -/
def State.writeWay (s : State) (h i : Nat) (w : List Word64) (mono : Nat) : State :=
  let old := (s.way h i).words
  let w := recPut (recPut (recPut (recPut w 0 w0Seen (ctOf mono)) 0 w0Hit 1) 0 w0Aged 0) 0 w0Dirty 1
  let w := recPut w 0 w0Disp (recFld old 0 w0Disp)
  let w := if recLong old then recPut w 8 w0Disp (recFld old 8 w0Disp) else w
  s.setWords h i w

/-! ### Placing a record (R126, R128) -/

/-- The way may not be chosen: held, filling or evicting. -/
def State.wayBusy (s : State) (h i : Nat) : Bool :=
  let w := s.way h (s.headOf h i)
  w.held.isSome || w.filling || w.evicting

/-- The way holds a record with LOCK_HINT = 1. -/
def State.wayPinned (s : State) (h i : Nat) : Bool :=
  let w := s.way h (s.headOf h i)
  w.valid && recFld w.words 0 w0Lock == 1

/-- Ways of a set that hold such records. -/
def State.pinCount (s : State) (h set : Nat) : Nat := ((List.range 8).filter (fun w => s.wayPinned h (8 * set + w))).length

/-- The search for a victim treats pinned ways as unpinned. -/
def State.pinsIgnored (s : State) (h set : Nat) (long : Bool) : Bool :=
  decide (s.fld (Reg.HNK_CFG h) Fld.HNK_CFG_PIN_LIMIT < s.pinCount h set)
    || (long && (List.range 4).all (fun k => s.wayPinned h (8 * set + 2 * k) || s.wayPinned h (8 * set + 2 * k + 1)))

/-- One step of the clock at way w of the set: the victim, or the state with REF cleared. -/
def State.clockStep (s : State) (h set w : Nat) (long ign : Bool) : Option Nat × State :=
  let i := 8 * set + w
  let all := if long then [i, i + 1] else [i]
  if all.any (fun j => s.wayBusy h j || (!ign && s.wayPinned h j)) then (none, s)
  else if all.any (fun j => (s.way h j).ref) then
    (none, forEach all (fun j t => t.setWay h j { t.way h j with ref := false }) s)
  else (some i, s)

/-- At most `n` further steps of the clock from way w on. -/
def State.clockRun (s : State) (h set : Nat) (long ign : Bool) : Nat → Nat → Option Nat × State
  | 0, _ => (none, s)
  | n + 1, w =>
    let r := s.clockStep h set (w % 8) long ign
    match r.1 with
    | some i => (some i, r.2)
    | none => r.2.clockRun h set long ign n (w + recSlots long)

/-- The victim way or pair of R126 in a set; the hand moves past it. -/
def State.findVictim (s : State) (h set : Nat) (long : Bool) : Option Nat × State :=
  let ign := s.pinsIgnored h set long
  let s := if ign ∧ 0 < s.pinCount h set then s.hnkBump h Cnt.HNK_PIN_IGNORED else s
  let hand := Tbl.get 0 (s.shard h).hands set
  let r := s.clockRun h set long ign (if long then 8 else 16) (if long then 2 * ((hand + 1) / 2) else hand)
  match r.1 with
  | none => r
  | some i =>
    let y := r.2.shard h
    (some i, r.2.setShard h { y with hands := Tbl.set 0 y.hands set ((i % 8 + recSlots long) % 8) })

/-- Records that occupy a victim way or pair, by their head ways. -/
def State.victims (s : State) (h i : Nat) (long : Bool) : List Nat :=
  (((if long then [i, i + 1] else [i]).map (s.headOf h)).filter (fun j => (s.way h j).valid)).eraseDups

/-- A victim leaves its way: a dirty one is read out to the eviction buffer (R128), where its read meets `e` (R129). -/
def State.evict (s : State) (h i : Nat) (e : Ecc) : State :=
  let w := s.way h i
  if recFld w.words 0 w0Dirty = 1 then
    let r := s.readWay h i e
    if !r.1 then r.2
    else
      let v : Evicted := { h60 := w.h60, words := w.words, place := w.place, written := false, reclaim := false
                           flush := (s.shard h).flush.contains i }
      let s := r.2.dropWay h i
      (s.setShard h { s.shard h with evb := (s.shard h).evb ++ [v] }).hnkBump h Cnt.HNK_EVICT_DIRTY
  else (s.dropWay h i).hnkBump h Cnt.HNK_EVICT_CLEAN

/-- The victims leave one after another; `es`: what reading the dirty ones meets. -/
def State.evictAll (s : State) (h : Nat) : List Nat → List Ecc → State
  | [], _ => s
  | j :: l, es =>
    let dirty := recFld (s.way h j).words 0 w0Dirty == 1
    (s.evict h j (es.headD .ok)).evictAll h l (if dirty then es.drop 1 else es)

/-- A way or aligned pair for a record of this hash, emptied of its victims: `none` where R126 finds none or the eviction
buffer has no room for a dirty victim; `es`: what reading the dirty victims meets. -/
def State.makeRoom (s : State) (h : Nat) (x : Word64) (long : Bool) (es : List Ecc) : Option Nat × State :=
  let r := s.findVictim h (setOf x) long
  match r.1 with
  | none => r
  | some i =>
    let v := r.2.victims h i long
    let dirty := (v.filter (fun j => recFld (r.2.way h j).words 0 w0Dirty == 1)).length
    if 1024 < (s.shard h).evb.length + dirty then (none, s)
    else (some i, r.2.evictAll h v es)

/-- R126 finds no victim for the record: its fill waits for a way. -/
def State.noVictim (s : State) (h : Nat) (x : Word64) (long : Bool) : Bool := (s.findVictim h (setOf x) long).1.isNone

end Sys2Proof.Machine
end

