-- ==== Sys2Proof/Machine/Fetch.lean ====
section
/-! DEFINITION. A fetch under the bucket interlock and the creation of a record (R131, R132, R134). -/

namespace Sys2Proof.Machine

/-- A running fetch: the state, what its further DRAM reads meet, and the bucket slots it has read. -/
structure FetchRun where
  s : State
  es : List Ecc
  seen : Tbl (Option (List Word64))

/-- Reads slot `j` past a place with the next outcome. -/
def FetchRun.read (r : FetchRun) (h : Nat) (x : Word64) (p : Place) (j : Nat) : Option (List Word64) × FetchRun :=
  let y := r.s.readSlot h x p j true (r.es.headD .ok)
  (y.1, { r with s := y.2, es := r.es.drop 1 })

/-- Reads a slot of the home bucket once. -/
def FetchRun.slot (r : FetchRun) (h : Nat) (x : Word64) (j : Nat) : Option (List Word64) × FetchRun :=
  match r.seen.find? (fun e => e.1 == j) with
  | some e => (e.2, r)
  | none =>
    let y := r.read h x { stash := false, slot := 0 } j
    (y.1, { y.2 with seen := r.seen ++ [(j, y.1)] })

def FetchRun.count (r : FetchRun) (h i : Nat) : FetchRun := { r with s := r.s.hnkBump h i }

/-- The record whose first slot is `w`, with its tail read where it is long; `none` where the tail is lost. -/
def FetchRun.whole (r : FetchRun) (h : Nat) (x : Word64) (p : Place) (w : List Word64) : Option (List Word64) × FetchRun :=
  if !recLong w then (some w, r)
  else
    let y := if p.stash then r.read h x p 1 else r.slot h x (p.slot + 1)
    match y.1 with
    | none => (none, y.2.count h Cnt.HNK_LOST_FETCH)
    | some t => (some (w ++ t), y.2)

/-- The slot is the head of the record of this key. -/
def slotMatches (w : List Word64) (key : List Byte) : Bool := slotHead w && recKey w == pad40 key

/-- Looks for the record among stash candidates. -/
def FetchRun.inStash (r : FetchRun) (h : Nat) (x : Word64) (key : List Byte) :
    List Nat → Option (List Word64 × Place) × FetchRun
  | [] => (none, r)
  | i :: l =>
    let p : Place := { stash := true, slot := i }
    let y := r.read h x p 0
    match y.1 with
    | none =>
      FetchRun.inStash { y.2 with s := (y.2.s.withdrawSlot h i).hnkBump h Cnt.HNK_LOST_FETCH } h x key l
    | some w =>
      if slotMatches w key then
        let z := y.2.whole h x p w
        match z.1 with
        | none => z.2.inStash h x key l
        | some v => (some (v, p), z.2)
      else y.2.inStash h x key l

/-- Looks for the record at displaced slots, ascending. -/
def FetchRun.displaced (r : FetchRun) (h : Nat) (x : Word64) (key : List Byte) :
    List Nat → Option (List Word64 × Place) × FetchRun
  | [] => (none, r)
  | q :: l =>
    let y := r.slot h x q
    let r := y.2.count h Cnt.HNK_PROBE_READS
    match y.1 with
    | none => r.displaced h x key l
    | some w =>
      if slotMatches w key then
        let p : Place := { stash := false, slot := q }
        let z := r.whole h x p w
        match z.1 with
        | none => z.2.displaced h x key l
        | some v => (some (v, p), z.2)
      else r.displaced h x key l

/-- A slot is free; a lost one counts as occupied (R269). -/
def slotFree (w : Option (List Word64)) : Bool := match w with | none => false | some v => !slotValid v

/-- Scans the slots for the first free slot or aligned pair, counting the reads. -/
def FetchRun.scan (r : FetchRun) (h : Nat) (x : Word64) (long : Bool) : List Nat → Option Nat × FetchRun
  | [] => (none, r)
  | j :: l =>
    let had := r.seen.any (fun e => e.1 == j)
    let y := r.slot h x j
    let r := if had then y.2 else y.2.count h Cnt.HNK_SCAN_READS
    if !slotFree y.1 ∨ (long = true ∧ j % 2 = 1) then r.scan h x long l
    else if !long then (some j, r)
    else
      let had := r.seen.any (fun e => e.1 == j + 1)
      let z := r.slot h x (j + 1)
      let r := if had then z.2 else z.2.count h Cnt.HNK_SCAN_READS
      if slotFree z.1 then (some j, r) else r.scan h x long l

/-- Draws `n` open values. -/
def State.draws (s : State) : Nat → List Word64 × State
  | 0 => ([], s)
  | n + 1 =>
    let d := s.draw
    let r := d.2.draws n
    (d.1 :: r.1, r.2)

/-- The header of a new record's first slot over an open word: placeholder in DRAM or record in the hot tier. -/
def newHeader (open_ : Word64) (long dirty : Bool) (disp : Nat) : Word64 :=
  let w := ((open_.put w0Valid 1).put w0Type (bit long)).put w0Dirty (bit dirty)
  ((((w.put w0Pending 1).put w0Lock 0).put w0Hit 0).put w0Aged 0).put w0Disp disp

/-- The header of a tail slot (R114). -/
def tailHeader (disp : Nat) : Word64 := (((0 : Word64).put w0Valid 1).put w0Type 2).put w0Disp disp

/-- The key words of a record. -/
def keyWords (long : Bool) (key : List Byte) : List Word64 := wordsOf (if long then 5 else 2) (pad40 key)

/-- The placeholder of a record (R132): header and key; its meta word and state are not stated. -/
def placeholder (long : Bool) (key : List Byte) (d0 d1 : Nat) (s : State) : List Word64 × State :=
  let o := s.draws 15
  if long then
    (newHeader (o.1.headD 0) true false d0 :: keyWords true key ++ (o.1.drop 1).take 2
      ++ tailHeader d1 :: (o.1.drop 3).take 7, o.2)
  else (newHeader (o.1.headD 0) false false d0 :: keyWords false key ++ (o.1.drop 1).take 5, o.2)

/-- The record of R133 that a creation puts into the hot tier; the header's LAST_SEEN and GEN are not stated. -/
def State.createdWords (s : State) (h : Nat) (x : Word64) (long swap : Bool) (key : List Byte) (cls d0 d1 : Nat) :
    List Word64 × State :=
  let o := s.draws 1
  let w := if long then newHeader (o.1.headD 0) true true d0 :: keyWords true key ++ [0, 0, tailHeader d1] ++ List.replicate 7 0
    else newHeader (o.1.headD 0) false true d0 :: keyWords false key ++ List.replicate 5 0
  let w := recPutMeta (recPutMeta w mtClass cls) mtAge (o.2.fld (Reg.HNK_CLASS h cls) Fld.HNK_CLASS_NEW_AGE_CLASS)
  (recPutMeta (recPutMeta w mtSwap (bit swap)) mtPref (prefSlot x long), o.2)

/-- What a fetch finds or makes. -/
structure Fetched where
  out : RecOutcome
  words : List Word64
  place : Place
  /-- What the reads after the fetch meet. -/
  rest : List Ecc

/-- The DISP of a slot that has been read. -/
def FetchRun.dispOf (r : FetchRun) (j : Nat) : Nat :=
  match r.seen.find? (fun e => e.1 == j) with | some (_, some w) => recFld w 0 w0Disp | _ => 0

/-- Creation of R132 once the place is chosen: a bucket slot, or else the stash. -/
def FetchRun.createAt (r : FetchRun) (h : Nat) (x : Word64) (key : List Byte) (cls : Nat) (swap long : Bool) (q : Option Nat) :
    Fetched × FetchRun :=
  let p := prefSlot x long
  match q with
  | some j =>
    let d0 := r.dispOf j
    let d1 := if long then r.dispOf (j + 1) else 0
    let pl : Place := { stash := false, slot := j }
    let ph := placeholder long key d0 d1 r.s
    let s := (ph.2.writeRecord h x pl ph.1 true).bucketRecords h true (recSlots long)
    let s := s.hnkBump h (if j = p then Cnt.HNK_CREATE_PREFERRED else Cnt.HNK_CREATE_DISPLACED)
    let s :=
      if j = p then s
      else
        match r.seen.find? (fun e => e.1 == p) with
        | some (_, some w) =>
          let d := recFld w 0 w0Disp ||| 2 ^ j
          (s.mergeSlot h x { stash := false, slot := p } (recPut w 0 w0Disp d) true).dispUpdate h x p d
        | _ => s
    let c := s.createdWords h x long swap key cls d0 d1
    ({ out := .created, words := c.1, place := pl, rest := r.es }, { r with s := c.2 })
  | none =>
    match r.s.stashPlace h long with
    | none =>
      let s := (r.s.hnkBump h Cnt.HNK_TABLE_FULL).setFld (Reg.HNK_STATUS h) Fld.HNK_STATUS_TABLE_FULL_SEEN 1
      ({ out := .tableFull, words := [], place := Place.init, rest := r.es }, { r with s := s })
    | some i =>
      let pl : Place := { stash := true, slot := i }
      let ph := placeholder long key 0 0 r.s
      let s := ((ph.2.stashTake h i x long).writeRecord h x pl ph.1 true).hnkBump h Cnt.HNK_CREATE_STASH
      let c := s.createdWords h x long swap key cls 0 0
      ({ out := .created, words := c.1, place := pl, rest := r.es }, { r with s := c.2 })

/-- Creation (R132), p having been read. -/
def FetchRun.create (r : FetchRun) (h : Nat) (x : Word64) (key : List Byte) (cls : Nat) (swap : Bool) : Fetched × FetchRun :=
  let long := r.s.classLong h cls
  let p := prefSlot x long
  let a := r.slot h x p
  match a.1 with
  | none => a.2.createAt h x key cls swap long none
  | some w =>
    let b := if long = true ∧ slotFree a.1 = true then a.2.slot h x (p + 1) else (none, a.2)
    if slotFree a.1 && (!long || slotFree b.1) then b.2.createAt h x key cls swap long (some p)
    else if b.2.s.fld (Reg.HNK_CFG h) Fld.HNK_CFG_DISP_LIMIT ≤ ((List.range 16).filter (fun i => (recFld w 0 w0Disp).testBit i)).length then
      b.2.createAt h x key cls swap long none
    else
      let c := b.2.scan h x long (List.range 16)
      c.2.createAt h x key cls swap long c.1

/-- A fetch (R131): `long` says at which slot a record of the asking class is preferred. -/
def State.fetch (s : State) (h : Nat) (x : Word64) (key : List Byte) (cls : Nat) (create swap : Bool) (es : List Ecc) :
    Fetched × State :=
  let r : FetchRun := { s := s, es := es, seen := [] }
  let cands := ((s.shard h).stash.filter (fun e => e.2.h60 == tag60 x && !e.2.tail && !e.2.withdrawn)).map Prod.fst
  let st := r.inStash h x key cands
  match st.1 with
  | some (w, p) => ({ out := .found, words := w, place := p, rest := st.2.es }, st.2.s.hnkBump h Cnt.HNK_FOUND_STASH)
  | none =>
    let p := prefSlot x (s.classLong h cls)
    let a := st.2.slot h x p
    let r := if a.1.isNone then a.2.count h Cnt.HNK_LOST_FETCH else a.2
    let w := a.1.getD (tombstone 0)
    let hit := if slotMatches w key then r.whole h x { stash := false, slot := p } w else (none, r)
    match hit.1 with
    | some v => ({ out := .found, words := v, place := { stash := false, slot := p }, rest := hit.2.es }, hit.2.s.hnkBump h Cnt.HNK_FOUND_PREFERRED)
    | none =>
      let d := hit.2.displaced h x key ((List.range 16).filter (fun i => (recFld w 0 w0Disp).testBit i))
      match d.1 with
      | some (v, q) => ({ out := .found, words := v, place := q, rest := d.2.es }, d.2.s.hnkBump h Cnt.HNK_FOUND_DISPLACED)
      | none =>
        let r := d.2.count h Cnt.HNK_ABSENT
        if !create then ({ out := .absent, words := [], place := Place.init, rest := r.es }, r.s)
        else
          let c := r.create h x key cls swap
          (c.1, c.2.s)

end Sys2Proof.Machine
end

