-- ==== Sys2Proof/Machine/Hank.lean ====
section
/-! DEFINITION. The Hank store at work (R127 to R137, R145): record entries, lookups, parking, fills, deliveries, hand-overs at
the end of a hold, and the host's record commands. -/

namespace Sys2Proof.Machine

/-! ### Who asks -/

/-- What a waiting read asks for. -/
structure Asker where
  x : Word64
  key : List Byte
  cls : Nat
  create : Bool
  swap : Bool
  aging : Bool

/-- The request of a waiter; `none` where its item or command has gone. -/
def State.asker (s : State) (h : Nat) (w : Waiter) : Option Asker :=
  match w with
  | .item r =>
    (s.itemOfRank h r).map (fun it =>
      { x := it.h, key := it.key, cls := it.cls
        create := !it.aging && s.flag (Reg.HNK_CLASS h it.cls) Fld.HNK_CLASS_CREATE
        swap := sumGet it.summary sumKeySwap == 1, aging := it.aging })
  | .host =>
    match (s.shard h).host with
    | .none => none
    | .run op x key cls _ => some { x := x, key := key, cls := cls, create := op == .write, swap := false, aging := false }
  | .sweeper =>
    match (s.shard h).sweep.fill with
    | none => none
    | some (x, key) =>
      some { x := x, key := key, cls := (s.shard h).sweep.fillCls, create := false, swap := false, aging := false }

def Waiter.holder : Waiter → Holder
  | .item r => .item r
  | .host => .host
  | .sweeper => .sweeper

def wayHash (h : Nat) (w : Way) : Word64 := BitVec.ofNat 64 (w.h60 + h * 2 ^ 60)

/-! ### Record entries (R127) -/

def State.setEntries (s : State) (h : Nat) (l : List RecEntry) : State := s.setShard h { s.shard h with entries := l }

/-- The entry that a read of this hash joins: one that has not ended for want of a record. -/
def State.openEntry (s : State) (h : Nat) (x : Word64) : Option Nat :=
  (s.shard h).entries.findIdx? (fun e => e.h == x && (match e.stage with
    | .ready .absent => false
    | .ready .tableFull => false
    | _ => true))

def State.mayAlloc (s : State) (h : Nat) : Bool :=
  decide ((s.shard h).entries.length < 8192) && decide (0 < s.credit (lnkMiss h))

/-- A new entry. -/
def State.allocEntry (s : State) (h : Nat) (a : Asker) (stage : EntryStage) (w : Waiter) : State :=
  let e : RecEntry := { h := a.x, stage := stage, key := a.key, cls := a.cls, create := a.create, swap := a.swap, queue := [w], waited := false }
  let l := (s.shard h).entries ++ [e]
  let s := (s.setEntries h l).useCredit (lnkMiss h) 1
  let r := Reg.HNK_ENTRY_STATUS h
  let s := s.setFld r Fld.HNK_ENTRY_STATUS_HIGH_WATER (max (s.fld r Fld.HNK_ENTRY_STATUS_HIGH_WATER) l.length)
  if l.length = 8192 then s.setFld (Reg.HNK_STATUS h) Fld.HNK_STATUS_ENTRY_FULL 1 else s

/-- Entry i is released. -/
def State.releaseEntry (s : State) (h i : Nat) : State :=
  (s.setEntries h ((s.shard h).entries.eraseIdx i)).freeEntry (lnkMiss h) 1

def State.setEntryAt (s : State) (h i : Nat) (e : RecEntry) : State := s.setEntries h (listSet (s.shard h).entries i e)

/-- An entry whose queue is spent is released, otherwise it stays with the rest of its queue. -/
def State.keepEntry (s : State) (h i : Nat) (e : RecEntry) (rest : List Waiter) (stage : EntryStage) : State :=
  if rest = [] then s.releaseEntry h i else s.setEntryAt h i { e with stage := stage, queue := rest }

/-- Requests have left the record port: those of threads free an entry of the Record link; a host command takes no credit (R20). -/
def State.portFree (s : State) (h : Nat) (l : List Waiter) : State :=
  s.freeEntry (lnkRecord h) (l.filter (fun w => match w with | .item _ => true | _ => false)).length

/-- A waiter leaves every queue of the shard's record port and entries. -/
def State.withdrawRead (s : State) (h : Nat) (w : Waiter) : State :=
  let x := s.shard h
  (s.setShard h { x with
    recPort := x.recPort.filter (fun y => y != w)
    entryWait := x.entryWait.filter (fun y => y != w)
    entries := x.entries.map (fun e => { e with queue := e.queue.filter (fun y => y != w) }) }).portFree h
      (x.recPort.filter (fun y => y == w))


/-! ### Parking (R162, R202) -/

/-- The 256 context bytes of R202. -/
def Thread.context (x : Thread) : List Byte :=
  bytesOf x.g ++ bytesAt x.key 0 40 ++ bytesOf x.res ++ leBytes 2 x.pc
    ++ leBytes 1 (bit x.fa.z + 2 * bit x.fa.c + 4 * bit x.fa.n + 8 * bit x.fb.z + 16 * bit x.fb.c + 32 * bit x.fb.n)
    ++ leBytes 1 x.klen ++ leBytes 1 x.hbase ++ leBytes 1 (x.stack.length + 16 * x.resMask) ++ leBytes 2 x.mbox
    ++ leBytes 8 x.cmp ++ leBytes 1 (bit x.armed + 2 * bit x.fired) ++ List.replicate 7 0#8
    ++ bytesAt (x.stack.flatMap (fun a => leBytes 2 a)) 0 8 ++ List.replicate 24 0#8

/-- A thread that continues from a saved context (R202): the item's READ has been used. -/
def Thread.ofContext (it : Item) (b : List Byte) : Thread :=
  let n (i l : Nat) : Nat := leNat (bytesAt b i l)
  let f := n 202 1
  { Thread.init with
    item := some it, readUsed := true
    g := wordsOf 16 (bytesAt b 0 128), key := bytesAt b 128 40, res := wordsOf 4 (bytesAt b 168 32)
    pc := n 200 2 % 16384
    fa := { z := f.testBit 0, c := f.testBit 1, n := f.testBit 2 }, fb := { z := f.testBit 3, c := f.testBit 4, n := f.testBit 5 }
    klen := n 203 1, hbase := n 204 1, resMask := n 205 1 / 16
    stack := (List.range (n 205 1 % 8)).map (fun i => n (224 + 2 * i) 2 % 16384)
    mbox := n 206 2 % 1024, cmp := n 208 8, armed := (n 216 1).testBit 0, fired := (n 216 1).testBit 1 }

/-- The item of thread t is parked if the pool has a buffer; otherwise the thread keeps it (R164). -/
def State.park (s : State) (h t : Nat) : State :=
  let x := s.thread h t
  match x.item with
  | none => s
  | some it =>
    let a := s.poolAlloc h 1
    match a.1 with
    | .granted ptr =>
      let s := a.2.bufWrite ptr (it.bytes ++ x.context)
      let y := s.shard h
      let s := s.setShard h { y with parked := y.parked ++ [{ item := it, index := ptr, outcome := none, queued := false }] }
      let halt := x.halted || x.haltReq.isSome
      s.setThread h t { Thread.init with halted := halt, haltCause := x.haltReq.getD 0 }
    | .wait => a.2.setThread h t { a.2.thread h t with read := .poolWait }
    | .empty =>
      (a.2.setThread h t { a.2.thread h t with read := .park s.clk.mono }).setFld (Reg.SCH_STATUS h)
        Fld.SCH_STATUS_PARK_STALL 1

/-- A read waits in a record entry's queue: its item parks, counted by what it waits for. -/
def State.parkWaiter (s : State) (h : Nat) (w : Waiter) (hold : Bool) : State :=
  match w with
  | .item r =>
    match s.threadOf h r with
    | none => s
    | some t => (s.park h t).schBump h (if hold then Cnt.SCH_PARKED_HOLD else Cnt.SCH_PARKED_FETCH)
  | _ => s

/-! ### Host record commands (R145) -/

def recCmd (h : Nat) : Nat := Reg.HNK_REC_CMD h

/-- A record command ends; a code other than 0 is an error. -/
def State.hostEnd (s : State) (h code : Nat) : State :=
  let s := s.setShard h { s.shard h with host := .none }
  let s := s.setFld (recCmd h) Fld.HNK_REC_CMD_BUSY 0
  if code = 0 then s else (s.setFld (recCmd h) Fld.HNK_REC_CMD_ERR 1).setFld (recCmd h) Fld.HNK_REC_CMD_ERR_CODE code

def State.setRecData (s : State) (h : Nat) (w : List Word64) : State :=
  forUpTo 16 (fun i t => t.setReg (Reg.HNK_REC_DATA h i) (w.getD i 0)) s

def State.recData (s : State) (h : Nat) : List Word64 := (List.range 16).map (fun i => s.reg (Reg.HNK_REC_DATA h i))

/-- The key of REC_KEY, padded: an IPv4 key lies in the first two registers (R147). -/
def State.recKeyBytes (s : State) (h : Nat) : List Byte :=
  let b := bytesOf ((List.range 5).map (fun i => s.reg (Reg.HNK_REC_KEY h i)))
  if vecByte b 0 = 6 then b else pad40 (bytesAt b 0 16)

/-- The record `old` replaced by written words: placement, key, DISP and the write's own header fields are hardware's. -/
def replaceRecord (old new : List Word64) (mono : Nat) : List Word64 :=
  let n := if recLong old then 16 else 8
  let k := if recLong old then 5 else 2
  let w := (List.range n).map (fun i => if 1 ≤ i ∧ i ≤ k then old.getD i 0 else new.getD i 0)
  let w := listSet w 0 ((((w.getD 0 0).put w0Valid 1).put w0Type (recFld old 0 w0Type)).put w0Pending (recFld old 0 w0Pending))
  let w := recPut w 0 w0Disp (recFld old 0 w0Disp)
  let w := recPut (recPut (recPut (recPut w 0 w0Seen (ctOf mono)) 0 w0Hit 1) 0 w0Aged 0) 0 w0Dirty 1
  let w := recPutMeta w mtPref (recMeta old mtPref)
  if recLong old then listSet w 8 (old.getD 8 0) else w

/-- The record of way i is written with `new`; `created`: the hold created it. -/
def State.putRecord (s : State) (h i : Nat) (new : List Word64) (created : Bool) : State :=
  let w := s.way h i
  let s := s.setWords h i new
  s.mirrorWrite h (wayHash h w) w.words new created

/-- The host's command reaches its record in way i; `resident`: it was in the hot tier before; `e`: what a delete's read meets. -/
def State.hostRun (s : State) (h i : Nat) (resident created : Bool) (e : Ecc) : State :=
  let w := s.way h i
  let a := recCmd h
  match (s.shard h).host with
  | .none => s
  | .run op x _ cls at_ =>
    let s := s.setFld a Fld.HNK_REC_CMD_RESIDENT (bit resident)
    if op ≠ .flush ∧ s.classLong h cls ≠ recLong w.words then s.hostEnd h 5
    else
      match op with
      | .lookup =>
        let loc := if w.place.stash then w.place.slot else 16 * homeBucket x (s.bucketBits h) + w.place.slot
        let s := ((s.setRecData h w.words).setFld a Fld.HNK_REC_CMD_LOC loc).setFld a Fld.HNK_REC_CMD_STASH (bit w.place.stash)
        (s.setFld a Fld.HNK_REC_CMD_FOUND 1).hostEnd h 0
      | .write => (s.putRecord h i (replaceRecord w.words (s.recData h) at_) created).hostEnd h 0
      | .delete => ((s.deleteWay h i e).hnkBump h Cnt.HNK_DELETE).hostEnd h 0
      | .flush => (s.flushWay h i).hostEnd h 0

/-! ### Aging (R140, R141) -/

/-- The record is aged in timestamp mode. -/
def State.agedByTime (s : State) (h : Nat) (w : List Word64) : Bool :=
  decide (s.fld (Reg.HNK_AGE_LIMIT h (recMeta w mtAge)) Fld.HNK_AGE_LIMIT_LIMIT
    ≤ (ctOf s.clk.mono + 2 ^ 32 - recFld w 0 w0Seen) % 2 ^ 32)

/-- The record is aged in sweeper mode. -/
def agedBySweep (w : List Word64) : Bool := recFld w 0 w0Hit == 0 && recFld w 0 w0Aged == 1

/-- The record is aged by the shard's mode. -/
def State.aged (s : State) (h : Nat) (w : List Word64) : Bool :=
  if s.flag (Reg.HNK_CTL h) Fld.HNK_CTL_AGE_MODE then agedBySweep w else s.agedByTime h w

def State.setSweep (s : State) (h : Nat) (x : Sweeper) : State := s.setShard h { s.shard h with sweep := x }

/-- An aging fill ends without an aging item (R141). -/
def State.agingAbort (s : State) (h : Nat) : State :=
  (s.setSweep h { (s.shard h).sweep with fill := none }).schBump h Cnt.SCH_AGING_ABORT

/-- The sweeper's fill has brought its record into way i: it takes the hold while the record is still aged. -/
def State.sweeperGets (s : State) (h i : Nat) : State :=
  let w := s.way h i
  if s.aged h w.words then
    let s := s.setWay h i { w with held := some .sweeper }
    s.setSweep h { (s.shard h).sweep with fill := none, waiting := some (wayHash h w, recKey w.words) }
  else s.agingAbort h

/-! ### Deliveries -/

/-- A parked item needs a place of the resume queue to receive anything. -/
def State.needsPlace (s : State) (h : Nat) (w : Waiter) : Bool :=
  match w with
  | .item r => (s.parkedOf h r).isSome
  | _ => false

/-- There is such a place (R160). -/
def State.resumeRoom (s : State) (h : Nat) : Bool :=
  decide (((s.shard h).parked.filter (fun p => p.outcome.isSome)).length < 1024) && decide (0 < s.credit (lnkFill h))

/-- A waiter receives an outcome; the record, where there is one, lies in way i; `e`: what a host delete's read meets. A host
command other than WRITE that is told TABLE_FULL finds its record absent. -/
def State.giveOutcome (s : State) (h : Nat) (w : Waiter) (o : RecOutcome) (i : Nat) (resident : Bool) (e : Ecc) : State :=
  let got := o == .found || o == .created
  match w with
  | .item r =>
    let s := if got then s.setWay h i { s.way h i with held := some (.item r) } else s
    let s := match o, s.itemOfRank h r with
      | .tableFull, some it => s.modEntry h it (fun e => { e with tableFull := true })
      | _, _ => s
    match s.threadOf h r with
    | some t => s.setThread h t { s.thread h t with read := .done o }
    | none => (s.modParked h r (fun p => { p with outcome := some o })).useCredit (lnkFill h) 1
  | .host =>
    match (s.shard h).host with
    | .none => s
    | .run op _ _ _ _ =>
      if got then s.hostRun h i resident (o == .created) e
      else if o = .tableFull ∧ op = .write then s.hostEnd h 4
      else if op = .lookup ∨ op = .flush then s.hostEnd h 0
      else s.hostEnd h 2
  | .sweeper => if got then s.sweeperGets h i else s.agingAbort h

/-! ### REC_READ_LOOKUP (R130) -/

/-- Reads the ways whose tag matches, lowest first: the way of this key, if any, and what the reads after these meet; a held way is
compared but not read (R129). -/
def State.probe (s : State) (h : Nat) (key : List Byte) : List Nat → List Ecc → Option Nat × List Ecc × State
  | [], es => (none, es, s)
  | i :: l, es =>
    let held := (s.way h i).held.isSome
    let same := recKey (s.way h i).words == pad40 key
    let r := if held then (true, s) else s.readWay h i (es.headD .ok)
    let es := if held then es else es.drop 1
    if !r.1 then r.2.probe h key l es
    else if same then (some i, es, r.2)
    else (r.2.hnkBump h Cnt.HNK_TAG_ALIAS).probe h key l es

/-- The last of the entries that satisfy `p`. -/
def lastIdx {α : Type} (p : α → Bool) (l : List α) : Option Nat :=
  (l.zipIdx.filter (fun x => p x.1)).getLast?.map Prod.snd

/-- The eviction buffer's entry of a record, the newest where it holds several. -/
def State.evicted (s : State) (h : Nat) (x : Word64) (key : List Byte) : Option Nat :=
  lastIdx (fun e => e.h60 == tag60 x && recKey e.words == pad40 key) (s.shard h).evb

/-- A record comes back from entry j of the eviction buffer into way i (R130): dirty unless its write has been accepted; a FLUSH
that waited for that write waits for the way. -/
def State.reclaimTo (s : State) (h i j : Nat) (x : Word64) : State :=
  match (s.shard h).evb[j]? with
  | none => s
  | some e =>
    let y := s.shard h
    let s := s.setShard h { y with evb := y.evb.eraseIdx j
                                   flush := if e.flush && !e.written then y.flush ++ [i] else y.flush }
    s.putWay h i x (if e.written then cleanWords e.words else e.words) e.place

/-- The read waits for a record entry (R127). -/
def State.waitEntry (s : State) (h : Nat) (w : Waiter) : State :=
  let x := s.shard h
  let s := s.setShard h { x with entryWait := x.entryWait ++ [w] }
  let s := s.setFld (Reg.HNK_STATUS h) Fld.HNK_STATUS_ENTRY_FULL 1
  match w with
  | .item r => match s.threadOf h r with | none => s | some t => s.setThread h t { s.thread h t with read := .entry }
  | _ => s

/-- A read takes a new entry and parks, or waits for one. -/
def State.newEntry (s : State) (h : Nat) (a : Asker) (w : Waiter) (stage : EntryStage) (hold : Bool) (f : State → State) : State :=
  if s.mayAlloc h then ((f s).allocEntry h a stage w).parkWaiter h w hold else s.waitEntry h w

/-- A FLUSH_ONE waits there: it never fetches. -/
def State.hostFlushes (s : State) (h : Nat) (w : Waiter) : Bool :=
  match w, (s.shard h).host with
  | .host, .run .flush _ _ _ _ => true
  | _, _ => false

/-- A host command that writes DRAM waits there: its requests are not taken while the DMCs change their frequency (R273). -/
def State.hostMustWait (s : State) (h : Nat) (w : Waiter) : Bool :=
  match w, (s.shard h).host with
  | .host, .run .flush _ _ _ _ => !s.dmcReady
  | .host, .run .delete _ _ _ _ => !s.dmcReady
  | _, _ => false

/-- The item whose turn comes finds its record lost as it is handed over (R129, R159). -/
def State.lostAtHandover (s : State) (h : Nat) (w : Waiter) : State :=
  match w with
  | .item r =>
    match s.itemOfRank h r with
    | none => s
    | some it =>
      match s.threadOf h r with
      | some t => (s.endItem h it .recordLost).idleThread h t
      | none => (s.endItem h it .recordLost).unpark h r
  | _ => s

/-- The way that the sweeper holds for the aging item that reads (R141). -/
def State.takenWay (s : State) (h : Nat) (a : Asker) : Option Nat :=
  match s.findWay h a.x a.key with
  | some i => if a.aging = true ∧ (s.way h i).held = some .sweeper then some i else none
  | none => none

/-- A read that finds no way of its record: the eviction buffer's copy (R130), or a miss; `es`: what reading out victims meets. -/
def State.missRead (s : State) (h : Nat) (w : Waiter) (a : Asker) (es : List Ecc) : State :=
  if s.hostFlushes h w then s.hostEnd h 0
  else
    match s.evicted h a.x a.key with
    | some j =>
      let long := match (s.shard h).evb[j]? with | some v => recLong v.words | none => false
      let m := s.makeRoom h a.x long es
      (match m.1 with
       | some i => ((m.2.reclaimTo h i ((m.2.evicted h a.x a.key).getD j) a.x).hnkBump h Cnt.HNK_EVB_RECLAIM).giveOutcome h w .found i true .ok
       | none =>
         match (m.2.shard h).evb[j]? with
         | none => m.2
         | some v =>
           m.2.newEntry h a w (.fetched .found v.words v.place true) false (fun t =>
             let y := t.shard h
             (t.setShard h { y with evb := listSet y.evb j { v with reclaim := true } }).hnkBump h Cnt.HNK_EVB_RECLAIM))
    | none => s.newEntry h a w .fetch false (fun t => t.hnkBump h Cnt.HNK_HOT_MISS)

/-- A read that no record entry of its hash keeps waiting: it probes the ways. -/
def State.probeRead (s : State) (h : Nat) (w : Waiter) (a : Asker) (es : List Ecc) : State :=
  let r := s.probe h a.key (s.tagMatches h a.x) es
  match r.1 with
  | some i =>
    if (r.2.2.way h i).held.isSome then r.2.2.newEntry h a w .held true id
    else (((r.2.2.setRef h i true).hnkBump h Cnt.HNK_HOT_HIT)).giveOutcome h w .found i true (r.2.1.headD .ok)
  | none => r.2.2.missRead h w a r.2.1

/-- The aging item reads the way that the sweeper holds for it; a dirty record that is lost there ends the item (R129, R159). -/
def State.agingRead (s : State) (h i : Nat) (w : Waiter) (a : Asker) (es : List Ecc) : State :=
  let dirty := recFld (s.way h i).words 0 w0Dirty == 1
  let r := s.readWay h i (es.headD .ok)
  if r.1 then r.2.giveOutcome h w .found i true .ok
  else if dirty then r.2.lostAtHandover h w
  else r.2.missRead h w a (es.drop 1)

/-- Serves one read (R130); `es`: what the bank reads meet, in order. -/
def State.serveRead (s : State) (h : Nat) (w : Waiter) (es : List Ecc) : State :=
  match s.asker h w with
  | none => s
  | some a =>
    match s.takenWay h a with
    | some i => s.agingRead h i w a es
    | none =>
      match s.openEntry h a.x with
      | some j =>
        match (s.shard h).entries[j]? with
        | none => s
        | some y =>
          let s := (s.setEntryAt h j { y with queue := y.queue ++ [w] }).hnkBump h Cnt.HNK_HOLD_WAITS
          s.parkWaiter h w (match y.stage with | .held => true | _ => false)
      | none => s.probeRead h w a es

/-- An earlier read of the same hash waits for a record entry: a later one keeps behind it (R135). -/
def State.earlierWaits (s : State) (h : Nat) (w : Waiter) : Bool :=
  match s.asker h w with
  | none => false
  | some a => (s.shard h).entryWait.any (fun v => match s.asker h v with | none => false | some b => b.x == a.x)

/-- The next read at the port is served. -/
def State.servePort (s : State) (h : Nat) (es : List Ecc) : State :=
  let x := s.shard h
  match x.recPort with
  | [] => s
  | v :: q =>
    let t := (s.setShard h { x with recPort := q }).portFree h [v]
    if s.hostMustWait h v then s
    else if s.earlierWaits h v then t.waitEntry h v
    else t.serveRead h v es

/-- REC_READ_LOOKUP: the read that has waited longest for a record entry, when one is free, or else the next at the port. -/
def recReadLookup (h : Nat) (es : List Ecc) (s : State) : State :=
  if !s.shardUp h then s
  else
    let x := s.shard h
    match x.entryWait with
    | w :: r => if s.mayAlloc h then (s.setShard h { x with entryWait := r }).serveRead h w es else s.servePort h es
    | [] => s.servePort h es

/-! ### HANK_FETCH, FILL_INSTALL, FETCH_DELIVER (R131 to R133) -/

/-- HANK_FETCH: the fetch of entry i; `es`: what its DRAM reads meet, in order. -/
def hankFetch (h i : Nat) (es : List Ecc) (s : State) : State :=
  match (s.shard h).entries[i]? with
  | none => s
  | some e =>
    match e.stage with
    | .fetch =>
      if !s.shardUp h ∨ !s.dmcReady then s
      else
        let e := match e.queue with
          | w :: _ =>
            (match s.asker h w with
             | some a => { e with key := a.key, cls := a.cls, create := a.create, swap := a.swap }
             | none => e)
          | [] => e
        let f := s.fetch h e.h e.key e.cls e.create e.swap es
        let st : EntryStage := if f.1.out = .found ∨ f.1.out = .created then .fetched f.1.out f.1.words f.1.place false
          else .ready f.1.out
        f.2.setEntryAt h i { e with stage := st }
    | _ => s

/-- A record that was created and that nobody receives is removed again (R133). -/
def State.dropCreated (s : State) (h : Nat) (e : RecEntry) (words : List Word64) (p : Place) (ecc : Ecc) : State :=
  s.removeFromDram h e.h words p true ecc

/-- The reclaim of an eviction-buffer entry ends without an installation: it leaves the buffer where its write is done. -/
def State.endReclaim (s : State) (h : Nat) (x : Word64) (key : List Byte) : State :=
  match s.evicted h x key with
  | none => s
  | some j =>
    match (s.shard h).evb[j]? with
    | none => s
    | some v =>
      let y := s.shard h
      s.setShard h { y with evb := if v.written then y.evb.eraseIdx j else listSet y.evb j { v with reclaim := false } }

/-- The words that entry i has fetched, as they stand now: a victim's loss may have changed their DISP (R125). -/
def State.fetchedWords (s : State) (h i : Nat) (words : List Word64) : List Word64 :=
  match (s.shard h).entries[i]? with
  | some { stage := .fetched _ w _ _, .. } => w
  | _ => words

/-- The record of a completed fetch stands in way k, to be delivered: one from the eviction buffer leaves it, a found one is clean. -/
def State.installAt (s : State) (h k : Nat) (x : Word64) (o : RecOutcome) (words : List Word64) (p : Place) (evb : Bool) : State :=
  let s :=
    if evb then
      (match s.evicted h x (recKey words) with
       | some j => s.reclaimTo h k j x
       | none => s.putWay h k x words p)
    else s.putWay h k x (if o = .found then recPut words 0 w0Dirty 0 else words) p
  s.setWay h k { s.way h k with filling := true }

/-- FILL_INSTALL (R126): the record of entry i is placed in a way, and its wait for one is counted once; with nobody left it is placed
clean if a way is found at once, and a created one is removed (R133); `es`: what reading out victims, or the removal, meets. -/
def fillInstall (h i : Nat) (es : List Ecc) (s : State) : State :=
  match (s.shard h).entries[i]? with
  | none => s
  | some e =>
    match e.stage with
    | .fetched o words place evb =>
      if e.queue = [] ∧ o = .created then
        (if s.dmcReady then (s.dropCreated h e words place (es.headD .ok)).releaseEntry h i else s)
      else
        let m := s.makeRoom h e.h (recLong words) es
        match m.1 with
        | none =>
          if e.queue = [] then ((if evb then s.endReclaim h e.h (recKey words) else s)).releaseEntry h i
          else if e.waited || !s.noVictim h e.h (recLong words) then m.2
          else (m.2.hnkBump h Cnt.HNK_SET_FULL_WAITS).setEntryAt h i { e with waited := true }
        | some k =>
          if e.queue = [] then
            let s := if evb then m.2.endReclaim h e.h (recKey words) else m.2
            (s.putWay h k e.h (recPut (m.2.fetchedWords h i words) 0 w0Dirty 0) place).releaseEntry h i
          else (m.2.installAt h k e.h o (m.2.fetchedWords h i words) place evb).setEntryAt h i { e with stage := .ready o }
    | _ => s

/-- The record that a fetch placed in a way stays there with no holder, or is removed where it was created (R133). -/
def State.leaveFill (s : State) (h : Nat) (x : Word64) (o : RecOutcome) (way : Option Nat) (e : Ecc) : State :=
  match way with
  | none => s
  | some k =>
    if o = .created then
      let w := s.way h k
      (s.dropWay h k).removeFromDram h x w.words w.place true e
    else s.setWay h k { s.way h k with filling := false }

/-- FETCH_DELIVER (R133): entry i delivers to its head; for ABSENT and TABLE_FULL it delivers to one queued read after another. A
head that asks for another key of the same hash gets nothing of this fetch: its own begins. -/
def fetchDeliver (h i : Nat) (s : State) : State :=
  match (s.shard h).entries[i]? with
  | none => s
  | some e =>
    match e.stage with
    | .ready o =>
      let got := o == .found || o == .created
      let way := if got then (s.tagMatches h e.h).find? (fun k => (s.way h k).filling) else none
      match e.queue with
      | [] => if o = .created ∧ !s.dmcReady then s else (s.leaveFill h e.h o way .ok).releaseEntry h i
      | w :: rest =>
        match s.asker h w with
        | none => s.keepEntry h i e rest (.ready o)
        | some a =>
          if pad40 a.key ≠ pad40 e.key then
            (if o = .created ∧ !s.dmcReady then s
             else (s.leaveFill h e.h o way .ok).setEntryAt h i
               { e with stage := .fetch, key := a.key, cls := a.cls, create := a.create, swap := a.swap, waited := false })
          else if (s.needsPlace h w && !s.resumeRoom h) || s.hostMustWait h w then
            (if s.hostMustWait h w then s else s.setFld (Reg.SCH_STATUS h) Fld.SCH_STATUS_RESUME_FULL 1)
          else if !got then (s.keepEntry h i e rest (.ready o)).giveOutcome h w o 0 false .ok
          else
            match way with
            | none => s
            | some k =>
              ((s.setWay h k { s.way h k with filling := false }).keepEntry h i e rest .held).giveOutcome h w o k false .ok
    | _ => s

/-- A way that a FLUSH waits for and that nobody holds. -/
def State.flushNext (s : State) (h : Nat) : Option Nat := (s.shard h).flush.find? (fun i => (s.way h i).held.isNone)

/-- The next write of a running FLUSH is made (R145): the way's record is read, where the read meets `e` (R129), and written. -/
def State.flushStep (s : State) (h : Nat) (e : Ecc) : State :=
  match s.flushNext h with
  | none => s
  | some i =>
    let r := s.readWay h i e
    let s := if r.1 then r.2.flushWay h i else r.2
    s.setShard h { s.shard h with flush := (s.shard h).flush.filter (fun j => j != i) }

/-- EVB_WRITE_ACCEPT (R128, R136): the DMC accepts the write of the oldest record in the eviction buffer; with none there, the next
write of a running FLUSH, where the way's read meets `e` (R145). -/
def evbWriteAccept (h : Nat) (e : Ecc) (s : State) : State :=
  let y := s.shard h
  if !s.dmcReady then s
  else
    match y.evb.findIdx? (fun v => !v.written) with
    | none => s.flushStep h e
    | some j =>
      match y.evb[j]? with
      | none => s
      | some v =>
        let s := s.writeRecord h (BitVec.ofNat 64 (v.h60 + h * 2 ^ 60)) v.place (cleanWords v.words) true
        let y := s.shard h
        s.setShard h { y with evb := if v.reclaim then listSet y.evb j { v with written := true } else y.evb.eraseIdx j }

/-! ### HOLD_END (R135) -/

/-- The read whose turn has come finds no way of its record; `es`: what reading out victims meets. -/
def State.holdMiss (s : State) (h i : Nat) (y : RecEntry) (w : Waiter) (rest : List Waiter) (a : Asker) (es : List Ecc) : State :=
  if s.hostFlushes h w then (s.keepEntry h i y rest .held).hostEnd h 0
  else
    match s.evicted h a.x a.key with
    | some j =>
      (match (s.shard h).evb[j]? with
       | none => s
       | some v =>
         let m := s.makeRoom h a.x (recLong v.words) es
         (match m.1 with
          | some k => (((m.2.reclaimTo h k ((m.2.evicted h a.x a.key).getD j) a.x).hnkBump h Cnt.HNK_EVB_RECLAIM).keepEntry h i y rest .held).giveOutcome h w .found k true .ok
          | none =>
            let z := m.2.shard h
            let t := m.2.setShard h { z with evb := listSet z.evb j { v with reclaim := true } }
            (t.hnkBump h Cnt.HNK_EVB_RECLAIM).setEntryAt h i
              { y with stage := .fetched .found v.words v.place true, key := a.key, waited := false }))
    | none =>
      (s.hnkBump h Cnt.HNK_HOT_MISS).setEntryAt h i
        { y with stage := .fetch, key := a.key, cls := a.cls, create := a.create, swap := a.swap, waited := false }

/-- HOLD_END: the hold of entry i's record has ended, and the first queued read is served; `es`: what its bank reads meet. -/
def holdEnd (h i : Nat) (es : List Ecc) (s : State) : State :=
  match (s.shard h).entries[i]? with
  | none => s
  | some y =>
    match y.stage, y.queue with
    | .held, [] => s.releaseEntry h i
    | .held, w :: rest =>
      if !s.shardUp h then s
      else
        match s.asker h w with
        | none => s.keepEntry h i y rest .held
        | some a =>
          if ((s.findWay h a.x a.key).map (fun k => (s.way h k).held.isSome)).getD false = true then s
          else if s.needsPlace h w && !s.resumeRoom h then s.setFld (Reg.SCH_STATUS h) Fld.SCH_STATUS_RESUME_FULL 1
          else if s.hostMustWait h w then s
          else
            let lost := (s.shard h).ways.length
            let was := s.findWay h a.x a.key
            let dirty := (was.map (fun k => recFld (s.way h k).words 0 w0Dirty == 1)).getD false
            let r := s.probe h a.key (s.tagMatches h a.x) es
            match r.1 with
            | some k =>
              (((r.2.2.setRef h k true).hnkBump h Cnt.HNK_HOT_HIT).keepEntry h i y rest .held).giveOutcome h w .found k true (r.2.1.headD .ok)
            | none =>
              if was.isSome ∧ dirty = true ∧ (r.2.2.shard h).ways.length < lost then
                (r.2.2.keepEntry h i y rest .fetch).lostAtHandover h w
              else r.2.2.holdMiss h i y w rest a r.2.1
    | _, _ => s

def execRecReadLookup (h : Fin 16) (es : List Ecc) (s : State) : Out := done s (recReadLookup h.val es s)

def execHankFetch (h : Fin 16) (i : Nat) (es : List Ecc) (s : State) : Out := done s (hankFetch h.val i es s)

def execFillInstall (h : Fin 16) (i : Nat × List Ecc) (s : State) : Out := done s (fillInstall h.val i.1 i.2 s)

def execFetchDeliver (h : Fin 16) (i : Nat) (s : State) : Out := done s (fetchDeliver h.val i s)

def execEvbWriteAccept (h : Fin 16 × Ecc) (s : State) : Out := done s (evbWriteAccept h.1.val h.2 s)

def execHoldEnd (h : Fin 16) (i : Nat) (es : List Ecc) (s : State) : Out := done s (holdEnd h.val i es s)

end Sys2Proof.Machine
end

