-- ==== Sys2Proof/Machine/HankOps.lean ====
section
/-! DEFINITION. The host's record commands (R145), the sweeper (R140, R141, R143) and the entering of aging items (R149). -/

namespace Sys2Proof.Machine

/-! ### REC_CMD and FLUSH (R145) -/

/-- A record command is discarded or refused with a code; the running command, if any, goes on. -/
def State.recRefuse (s : State) (h code : Nat) : State :=
  (s.setFld (recCmd h) Fld.HNK_REC_CMD_ERR 1).setFld (recCmd h) Fld.HNK_REC_CMD_ERR_CODE code

/-- A record command that holds its record starts: it joins the reads at the record port. -/
def recStart (h : Nat) (op : HostOp) (cls : Nat) (s : State) : State :=
  if s.flag (recCmd h) Fld.HNK_REC_CMD_BUSY then s.recRefuse h 1
  else
    let s := (s.setFld (recCmd h) Fld.HNK_REC_CMD_CLASS cls).hnkBump h Cnt.HNK_HOST_COMMANDS
    let key := s.recKeyBytes h
    let x := s.hashKey key
    if !s.shardUp h then s.recRefuse h 7
    else if homeShard x ≠ h then s.recRefuse h 3
    else if vecByte key 0 = 6 ∧ s.classLong h cls = false then s.recRefuse h 5
    else
      let s := ((s.setFld (recCmd h) Fld.HNK_REC_CMD_FOUND 0).setFld (recCmd h) Fld.HNK_REC_CMD_RESIDENT 0).setFld (recCmd h)
        Fld.HNK_REC_CMD_BUSY 1
      let y := s.shard h
      s.setShard h { y with host := .run op x key cls s.clk.mono, recPort := y.recPort ++ [.host] }

/-- READ_LOC: the DRAM slot at LOC; `e`: what the read meets. -/
def readLoc (h loc : Nat) (stash : Bool) (e : Ecc) (s : State) : State :=
  if s.flag (recCmd h) Fld.HNK_REC_CMD_BUSY then s.recRefuse h 1
  else if !s.dmcReady then s
  else
    let s := ((s.setFld (recCmd h) Fld.HNK_REC_CMD_LOC loc).setFld (recCmd h) Fld.HNK_REC_CMD_STASH (bit stash)).hnkBump h
      Cnt.HNK_HOST_COMMANDS
    if !s.shardUp h then s.recRefuse h 7
    else if (if stash then 65536 else 16 * 2 ^ s.bucketBits h) ≤ loc then s.recRefuse h 6
    else
      let base := (s.reg (if stash then Reg.HNK_STASH_BASE h else Reg.HNK_REC_BASE h)).toNat / 64
      let r := s.dramRead (base + loc) true e
      match r.1 with
      | none => ((if stash then r.2.withdrawSlot h loc else r.2).setRecData h []).recRefuse h 8
      | some b => r.2.setRecData h (wordsOf 8 b)

/-- HNK_FLUSH (R145): every record that is dirty now, in a way or in the eviction buffer, is to be written back; the writes are made
one after another as the DMC accepts them (EVB_WRITE_ACCEPT), that of a held record after its hold. -/
def hnkFlush (h : Nat) (s : State) : State :=
  let y := s.shard h
  let dirty := (y.ways.filter (fun e => e.2.role != .tail && recFld e.2.words 0 w0Dirty == 1)).map Prod.fst
  s.setShard h { y with flush := dirty, evb := y.evb.map (fun e => { e with flush := true }) }

/-! ### The sweeper (R140, R143) -/

def sweepPeriod (s : State) (h : Nat) : Nat := msTicks (s.fld (Reg.HNK_SWEEP_CFG h) Fld.HNK_SWEEP_CFG_SWEEP_PERIOD_MS)

/-- SWEEP_PASS_START. -/
def sweepPassStart (h : Nat) (s : State) : State :=
  let x := (s.shard h).sweep
  if x.running = true ∨ s.flag (Reg.HNK_CTL h) Fld.HNK_CTL_SWEEP_EN = false ∨ s.shardUp h = false then s
  else
    let mode := s.flag (Reg.HNK_CTL h) Fld.HNK_CTL_AGE_MODE
    let late := match x.due with | none => false | some d => mode && decide (d + sweepPeriod s h < s.clk.mono)
    let s := s.setSweep h { x with running := true, hot := 0, dram := 0, hotDone := false, dramDone := false
                                   began := s.clk.mono, aging := mode && x.due.isSome, due := none }
    let s := s.setFld (Reg.HNK_SWEEP_STATUS h) Fld.HNK_SWEEP_STATUS_GEN_COMMITS 0
    if late then s.setFld (Reg.HNK_STATUS h) Fld.HNK_STATUS_SWEEP_LATE 1 else s

/-- SWEEP_PERIOD_EXPIRY: a SWEEP_PERIOD_MS has passed; the next pass to start ages. -/
def sweepPeriodExpiry (h : Nat) (s : State) : State :=
  let x := (s.shard h).sweep
  if s.clk.mono - x.lastPeriod < sweepPeriod s h then s
  else s.setSweep h { x with lastPeriod := s.clk.mono, due := match x.due with | none => some s.clk.mono | some d => some d }

/-- The sweeper can take one more aging item: input, waiting hold and fill are all free (R141). -/
def Sweeper.free (x : Sweeper) : Bool := x.input.isNone && x.waiting.isNone && x.fill.isNone

/-- The changes of sweeper-mode aging to a record that is not aged. -/
def sweepMarks (w : List Word64) : List Word64 :=
  if recFld w 0 w0Hit = 1 then recPut w 0 w0Hit 0
  else if recFld w 0 w0Aged = 0 then recPut w 0 w0Aged 1 else w

/-- The sweeper's verdict on a record: aged, or its changed words and whether FWD_VALID was cleared (R140). -/
def State.sweepRecord (s : State) (h : Nat) (w : List Word64) : Bool × List Word64 × Bool :=
  let mode := s.flag (Reg.HNK_CTL h) Fld.HNK_CTL_AGE_MODE
  let pass := (s.shard h).sweep.aging
  let aged := if mode then pass && agedBySweep w else s.agedByTime h w
  let w1 := if mode && pass && !aged then sweepMarks w else w
  let stale := recMeta w1 mtFwd == 1 && !s.stampLive h w1
  (aged, if stale then recPutMeta w1 mtFwd 0 else w1, stale)

/-- The hot-tier cursor moves on. -/
def State.hotNext (s : State) (h : Nat) : State :=
  let x := (s.shard h).sweep
  s.setSweep h { x with hot := x.hot + 1, hotDone := decide (2097152 ≤ x.hot + 1) }

/-- Class k of the shard notifies of aged records. -/
def State.notifies (s : State) (h k : Nat) : Bool := s.flag (Reg.HNK_CLASS h k) Fld.HNK_CLASS_AGE_NOTIFY

/-- SWEEP_HOT_VISIT: the way at the hot-tier cursor; `e`: what reading it meets. -/
def sweepHotVisit (h : Nat) (e : Ecc) (s : State) : State :=
  let x := (s.shard h).sweep
  if x.running = false ∨ x.hotDone = true ∨ s.flag (Reg.HNK_CTL h) Fld.HNK_CTL_SWEEP_EN = false ∨ s.shardUp h = false then s
  else
    let i := x.hot
    let w := s.way h i
    if !w.valid || w.role == .tail || s.wayBusy h i then s.hotNext h
    else
      let r := s.readWay h i e
      if !r.1 then r.2.hotNext h
      else
        let v := r.2.sweepRecord h w.words
        if v.1 && r.2.notifies h (recMeta w.words mtClass) && !x.free then s
        else
          let t := r.2
          let t := if v.2.1 = w.words then t else t.setWords h i (recPut v.2.1 0 w0Dirty 1)
          let t := if v.2.2 then t.hnkBump h Cnt.HNK_FWD_STALED else t
          if !v.1 then t.hotNext h
          else if t.notifies h (recMeta w.words mtClass) then
            let t := t.setWay h i { t.way h i with held := some .sweeper }
            (t.setSweep h { (t.shard h).sweep with waiting := some (wayHash h w, recKey w.words) }).hotNext h
          else if !t.dmcReady then s
          else ((t.deleteWay h i .ok).hnkBump h Cnt.HNK_AGED_OUT).hotNext h

/-- The DRAM cursor moves on: bucket slots, then the stash. -/
def State.dramNext (s : State) (h : Nat) : State :=
  let x := (s.shard h).sweep
  s.setSweep h { x with dram := x.dram + 1, dramDone := decide (16 * 2 ^ s.bucketBits h + 65536 ≤ x.dram + 1) }

/-- The record is resident, in the eviction buffer, or being fetched. -/
def State.onChip (s : State) (h : Nat) (x : Word64) (key : List Byte) : Bool :=
  (s.findWay h x key).isSome || (s.evicted h x key).isSome || (s.openEntry h x).isSome

/-- SWEEP_DRAM_VISIT: the slot at the DRAM cursor, under the bucket interlock and as a background access (R258); `e`, `e2`: what
reading it and its tail meets. -/
def sweepDramVisit (h : Nat) (e e2 : Ecc) (s : State) : State :=
  let x := (s.shard h).sweep
  if x.running = false ∨ x.dramDone = true ∨ s.flag (Reg.HNK_CTL h) Fld.HNK_CTL_SWEEP_EN = false ∨ s.shardUp h = false
      ∨ s.dmcReady = false then s
  else
    let n := 16 * 2 ^ s.bucketBits h
    let p : Place := if x.dram < n then { stash := false, slot := x.dram % 16 } else { stash := true, slot := x.dram - n }
    -- any hash of the bucket names its lines
    let b : Word64 := BitVec.ofNat 64 (if x.dram < n then x.dram / 16 else 0)
    if !s.bgLine (s.placeLine h b p 0) then s
    else
    let r := s.readSlot h b p 0 false e
    match r.1 with
    | none => (if p.stash then r.2.withdrawSlot h p.slot else r.2).dramNext h
    | some w =>
      let key := recKey w
      let g := s.hashKey key
      if !slotHead w || s.onChip h g key then r.2.dramNext h
      else
        let r2 := if recLong w then r.2.readSlot h b p 1 false e2 else (some [], r.2)
        match r2.1 with
        | none => (if p.stash then r2.2.withdrawSlot h (p.slot + 1) else r2.2).dramNext h
        | some tail =>
          let v := r2.2.sweepRecord h w
          let k := recMeta w mtClass
          if v.1 && r2.2.notifies h k && !(x.free && s.mayAlloc h) then s
          else
            let t := r2.2
            let t := if v.2.1 = w then t else t.writeSlot h b p 0 v.2.1 false
            let t := if v.2.2 then t.hnkBump h Cnt.HNK_FWD_STALED else t
            if !v.1 then t.dramNext h
            else if t.notifies h k then
              let t := t.setSweep h { (t.shard h).sweep with fill := some (g, key), fillCls := k }
              (t.allocEntry h { x := g, key := key, cls := k, create := false, swap := false, aging := false } .fetch .sweeper).dramNext h
            else
              let t := (t.mirrorDelete h g (w ++ tail)).removeFromDram h g (w ++ tail) p false .ok
              (t.hnkBump h Cnt.HNK_AGED_OUT).dramNext h

/-- SWEEP_PASS_END (R140, R143). -/
def sweepPassEnd (h : Nat) (s : State) : State :=
  let x := (s.shard h).sweep
  if x.running = false ∨ x.hotDone = false ∨ x.dramDone = false then s
  else
    let a := Reg.HNK_SWEEP_STATUS h
    let s := s.setSweep h { x with running := false }
    let s := s.setFld a Fld.HNK_SWEEP_STATUS_PASSES (s.fld a Fld.HNK_SWEEP_STATUS_PASSES + 1)
    let s := s.setFld (Reg.HNK_SWEEP_TIME h) Fld.HNK_SWEEP_TIME_LAST_PASS_MS ((s.clk.mono - x.began) / 800000)
    if s.fld a Fld.HNK_SWEEP_STATUS_GEN_COMMITS < 16384 then s.setFld (Reg.HNK_STATUS h) Fld.HNK_STATUS_GEN_WRAP_RISK 0 else s

/-- The aging item of a record (R149); rank, deadline and entry follow at the sequencer. -/
def State.agingItem (s : State) (h : Nat) (x : Word64) (key : List Byte) : Item :=
  let w := ((s.findWay h x key).map (fun i => (s.way h i).words)).getD []
  let long := recLong w
  { rank := 0
    summary := sumPut (sumPut (sumPut 0 sumFlowClass (recMeta w mtClass)) sumZone (beNat (bytesAt key 2 2))) sumKeySwap
      (recMeta w mtSwap)
    h := x, tsMono := s.clk.mono, align := 0, tsNs := s.clk.ns, tsSec := s.clk.sec, seq := 0, gen := s.genCur, srcSlice := 0
    aging := true, late := false, group := 0, deadline := 0, cellHead := 0, cellCnt := 0
    hv := bytesAt (bytesAt key 0 (if long then 40 else 16)) 0 192 }

/-- AGING_ITEM_ENTER (R141): the sweeper's hold becomes an aging item in its crossbar input. -/
def agingItemEnter (h : Nat) (s : State) : State :=
  let x := (s.shard h).sweep
  match x.waiting, x.input with
  | some (g, key), none =>
    if !s.shardUp h then s
    else (s.setSweep h { x with waiting := none, input := some (s.agingItem h g key) }).hnkBump h Cnt.HNK_AGE_NOTIFY
  | _, _ => s

def execRecLookup (h : Fin 16) (cls : Fin 64) (s : State) : Out := done s (recStart h.val .lookup cls.val s)

def execReadLoc (h : Fin 16) (loc : Fin 67108864) (stash : Bool) (e : Ecc) (s : State) : Out :=
  done s (readLoc h.val loc.val stash e s)

def execRecWrite (h : Fin 16) (cls : Fin 64) (s : State) : Out := done s (recStart h.val .write cls.val s)

def execRecDelete (h : Fin 16) (cls : Fin 64) (s : State) : Out := done s (recStart h.val .delete cls.val s)

def execFlushOne (h : Fin 16) (cls : Fin 64) (s : State) : Out := done s (recStart h.val .flush cls.val s)

def execHnkFlush (h : Fin 16) (s : State) : Out := done s (hnkFlush h.val s)

def execSweepPassStart (h : Fin 16) (s : State) : Out := done s (sweepPassStart h.val s)

def execSweepHotVisit (h : Fin 16) (e : Ecc) (s : State) : Out := done s (sweepHotVisit h.val e s)

def execSweepDramVisit (h : Fin 16) (e e2 : Ecc) (s : State) : Out := done s (sweepDramVisit h.val e e2 s)

def execSweepPassEnd (h : Fin 16) (s : State) : Out := done s (sweepPassEnd h.val s)

def execSweepPeriodExpiry (h : Fin 16) (s : State) : Out := done s (sweepPeriodExpiry h.val s)

def execAgingItemEnter (h : Fin 16) (s : State) : Out := done s (agingItemEnter h.val s)

end Sys2Proof.Machine
end

