-- ==== Sys2Proof/Machine/Sched.lean ====
section
/-! DEFINITION. The scheduler of a shard (R151 to R173): sequencing, dispatch, expiry, the resume queue, ordered release and the
fallback unit. -/

namespace Sys2Proof.Machine

/-! ### Sequencing (R151 to R155) -/

/-- The head of input i: slices 0 to 15, the sweeper 16. -/
def State.inputHead (s : State) (h i : Nat) : Option Item :=
  if i = 16 then (s.shard h).sweep.input else (Tbl.get [] (s.shard h).inputs i).head?

/-- Reorder-store entries in use. -/
def State.reorderUsed (s : State) (h : Nat) : Nat := ((s.shard h).groups.map (fun e => e.2.entries.length)).sum

/-- Items of a group that are sequenced and not released (R155). -/
def Group.outstanding (g : Group) : Nat := (g.nextSeq + 65536 - g.nextRel) % 65536

/-- What the head of an input lacks (R152), by the status bits that show it; a window place only where it waits for nothing else. -/
def State.inputWants (s : State) (h : Nat) (it : Item) : List Fld :=
  let l := (if 4096 ≤ (s.shard h).ready.length ∨ s.credit (lnkReady h) = 0 then [Fld.SCH_STATUS_READY_FULL] else [])
    ++ (if it.aging = false ∧ 16384 ≤ s.reorderUsed h then [Fld.SCH_STATUS_REORDER_FULL] else [])
  if l = [] ∧ it.aging = false ∧ 256 ≤ (s.group h it.group).outstanding then [Fld.SCH_STATUS_WINDOW_HOLD] else l

/-- The first thing that the head of an input lacks. -/
def State.inputLacks (s : State) (h : Nat) (it : Item) : Option Fld := (s.inputWants h it).head?

/-- Takes the head out of input i. -/
def State.popInput (s : State) (h i : Nat) : State :=
  let x := s.shard h
  if i = 16 then s.setShard h { x with sweep := { x.sweep with input := none }, lastInput := i }
  else
    let l := Tbl.get [] x.inputs i
    (s.setShard h { x with inputs := Tbl.set [] x.inputs i (l.drop 1), lastInput := i }).freeEntry (lnkDispatch i h) 1

/-- The item joins the ready list. -/
def State.enterReady (s : State) (h : Nat) (it : Item) : State :=
  let x := s.shard h
  let l := x.ready ++ [it]
  let a := Reg.SCH_HIGH h
  ((s.setShard h { x with ready := l }).useCredit (lnkReady h) 1).setFld a Fld.SCH_HIGH_READY_HIGH
    (max (s.fld a Fld.SCH_HIGH_READY_HIGH) l.length)

/-- A packet item takes its sequence number, deadline and reorder-store entry (R153). -/
def State.sequencePacket (s : State) (h : Nat) (it : Item) : State :=
  let x := s.shard h
  let g := s.group h it.group
  let dl := it.tsMono + s.fld (Reg.SCH_CLASS h it.cls) Fld.SCH_CLASS_BUDGET
  let late := decide (dl ≤ s.clk.mono)
  let it : Item := { it with rank := x.nextRank, seq := g.nextSeq, deadline := dl, late := late }
  let e : RoEntry := { item := it, verdict := none, tableFull := false, stage := .none, route := .miss, acl := .miss }
  let s := s.setShard h { x with nextRank := x.nextRank + 1 }
  let s := s.setGroup h it.group { g with nextSeq := (g.nextSeq + 1) % 65536, entries := g.entries ++ [e] }
  let s := s.schBump h Cnt.SCH_ITEMS_SEQUENCED
  let a := Reg.SCH_HIGH h
  let s := s.setFld a Fld.SCH_HIGH_REORDER_HIGH (max (s.fld a Fld.SCH_HIGH_REORDER_HIGH) (s.reorderUsed h))
  if late ∧ g.heldSince = none then s.endItem h it .expiredQueued else s.enterReady h it

/-- An aging item takes its deadline and is counted in the aging drain count (R149, R153). -/
def State.sequenceAging (s : State) (h : Nat) (it : Item) : State :=
  let x := s.shard h
  let it : Item := { it with rank := x.nextRank, deadline := it.tsMono + s.fld (Reg.SCH_AGE_CTL h) Fld.SCH_AGE_CTL_BUDGET }
  let s := s.setShard h { x with nextRank := x.nextRank + 1 }
  ((s.ageDrain h it.gen true).schBump h Cnt.SCH_AGING_ITEMS).enterReady h it

/-- SEQUENCER_TAKE: the next input in rotation whose head has all it needs; the others' wants show in STATUS. -/
def sequencerTake (h : Nat) (s : State) : State :=
  if !s.shardUp h then s
  else
    let order := (List.range 17).map (fun i => ((s.shard h).lastInput + 1 + i) % 17)
    let s : State := forEach order (fun i t =>
      match t.inputHead h i with
      | none => t
      | some it => forEach (t.inputWants h it) (fun f u => u.setFld (Reg.SCH_STATUS h) f 1) t) s
    match order.find? (fun i => match s.inputHead h i with | none => false | some it => (s.inputLacks h it).isNone) with
    | none => s
    | some i =>
      match s.inputHead h i with
      | none => s
      | some it => if it.aging then (s.popInput h i).sequenceAging h it else (s.popInput h i).sequencePacket h it

/-! ### Dispatch (R161, R163) -/

/-- The item of a list with the lowest deadline, then the lowest rank. -/
def earliest : List Item → Option Item
  | [] => none
  | x :: r =>
    match earliest r with
    | none => some x
    | some y => if x.deadline < y.deadline ∨ (x.deadline = y.deadline ∧ x.rank < y.rank) then some x else some y

/-- Items of the resume queue. -/
def State.resumeItems (s : State) (h : Nat) : List Item := ((s.shard h).parked.filter (fun p => p.queued)).map (fun p => p.item)

/-- The thread can take an item: idle and not halted. -/
def State.threadIdle (s : State) (h t : Nat) : Bool :=
  let x := s.thread h t
  x.item.isNone && !x.halted && x.haltReq.isNone

/-- Idle threads of engine e. -/
def State.idleThreads (s : State) (h e : Nat) : List Nat :=
  ((List.range 16).map (fun t => 16 * e + t)).filter (s.threadIdle h)

/-- The thread that R161 chooses: the engine with most idle threads, the lowest among equals, its lowest idle thread. -/
def State.chooseThread (s : State) (h : Nat) : Option Nat :=
  let best := forEach (List.range 32) (fun e (b : Option (Nat × Nat)) =>
    match s.idleThreads h e, b with
    | [], _ => b
    | t :: l, none => some (l.length + 1, t)
    | t :: l, some (n, u) => if n < l.length + 1 then some (l.length + 1, t) else some (n, u)) none
  best.map Prod.snd

/-- The hold of an item, where it has one, ends without a write (R135). -/
def State.dropHold (s : State) (h r : Nat) : State :=
  match s.heldWay h (.item r) with
  | none => s
  | some i => s.unholdWay h i

/-- The sweeper's hold of an aging item's record ends (R141). -/
def State.dropSweeperHold (s : State) (h : Nat) (it : Item) : State :=
  match s.findWay h it.h it.key with
  | none => s
  | some i => if (s.way h i).held = some .sweeper then s.unholdWay h i else s

/-- DISPATCH: the earliest item of ready list and resume queue goes to a thread; `e`: what loading a park buffer meets. -/
def dispatch (h : Nat) (e : Ecc) (s : State) : State :=
  if !s.shardUp h then s
  else
    let x := s.shard h
    match earliest (x.ready ++ s.resumeItems h), s.chooseThread h with
    | some it, some t =>
      match s.parkedOf h it.rank with
      | none =>
        let pc := s.fld (Reg.SCH_CLASS h it.cls) (if it.aging then Fld.SCH_CLASS_AGE_ENTRY else Fld.SCH_CLASS_PROG_ENTRY)
        let s := (s.setShard h { x with ready := x.ready.filter (fun y => y.rank != it.rank) }).freeEntry (lnkReady h) 1
        ((s.setThread h t { Thread.init with item := some it, pc := pc }).schBump h Cnt.SCH_DISPATCHED).faeBump h
          Cnt.FAE_ITEMS_STARTED
      | some p =>
        let s := if e = .corrected then s.bpmBump Cnt.BPM_PARK_ECC_CORRECTED else s
        if e = .uncorrectable then
          (((s.dropHold h it.rank).endItem h it .noResult).detect srcBpm 0x024 1 p.index).unpark h it.rank
        else
          let b := s.bufRead p.index 512
          let y := Thread.ofContext it (bytesAt b.1 256 256)
          let s := (b.2.2.setThread h t { y with read := match p.outcome with | none => .none | some o => .done o }).unpark h it.rank
          s.schBump h Cnt.SCH_RESUMED
    | _, _ => s

/-- RESUME_ENTER (R163): an item that has received its outcome enters the resume queue. -/
def resumeEnter (h : Nat) (s : State) : State :=
  match (s.shard h).parked.find? (fun p => p.outcome.isSome && !p.queued) with
  | none => s
  | some p => s.modParked h p.item.rank (fun p => { p with queued := true })

/-- PARK_RETRY (R164): thread t tries its park allocation again, 64 CLK_CORE cycles after the last try; one that waits for a
refill (R282) is looked at again at any time. -/
def parkRetry (h t : Nat) (s : State) : State :=
  match (s.thread h t).read with
  | .park since => if s.clk.mono < since + 32 ∨ s.shardUp h = false then s else s.park h t
  | .poolWait => if s.shardUp h then s.park h t else s
  | _ => s

/-! ### Expiry (R157 to R159, R171) -/

/-- Thread t is at a microword boundary: nothing outstanding that must complete first (R174, R201); a read that waits at the
port, for an entry or for a park buffer can be withdrawn (R127, R164). -/
def Thread.atBoundary (x : Thread) : Bool :=
  (match x.read with | .done _ => false | _ => true) && (match x.auxSt with | .none => true | _ => false) && !x.srchWait

/-- Aborts the item of thread t (R158): its hold ends as aborted, its locks are released, its stagings are discarded. -/
def State.abortThread (s : State) (h t : Nat) (why : EndReason) : State :=
  match (s.thread h t).item with
  | none => s
  | some it =>
    let s := s.withdrawRead h (.item it.rank)
    let s := s.dropHold h it.rank
    let s := if it.aging then s.dropSweeperHold h it else s
    let s := (s.leaveQueue h t).dropLocks h t (fun u => u.wrdBump h Cnt.WRD_LOCK_ABORT_RELEASE)
    ((s.endItem h it why).faeBump h Cnt.FAE_ITEMS_ENDED).idleThread h t

/-- The abort reaches the thread now, or at its boundary. -/
def State.requestAbort (s : State) (h t : Nat) (why : EndReason) : State :=
  if (s.thread h t).atBoundary then s.abortThread h t why
  else s.setThread h t { s.thread h t with abort := some why }

/-- Expiry is held for the item (R171). -/
def State.expiryHeld (s : State) (h : Nat) (it : Item) : Bool :=
  if it.aging then
    match s.threadOf h it.rank with | none => false | some t => (s.thread h t).heldAt.isSome
  else (s.group h it.group).heldSince.isSome

/-- Items of the shard that may expire: in the ready list, parked, or on a thread without a pending abort. -/
def State.liveItems (s : State) (h : Nat) : List Item :=
  (s.shard h).ready ++ (s.shard h).parked.map (fun p => p.item)
    ++ (s.shard h).threads.filterMap (fun e => if e.2.abort.isSome then none else e.2.item)

/-- ITEM_EXPIRY: the earliest item that is past its deadline and not complete expires where it is. -/
def itemExpiry (h : Nat) (s : State) : State :=
  if !s.shardUp h then s
  else
    match earliest ((s.liveItems h).filter (fun it => decide (it.deadline ≤ s.clk.mono) && !s.complete h it && !s.expiryHeld h it)) with
    | none => s
    | some it =>
      match s.parkedOf h it.rank with
      | some p =>
        let s := (s.withdrawRead h (.item it.rank)).dropHold h it.rank
        let s := if it.aging then s.dropSweeperHold h it else s
        (s.endItem h it (if p.queued then .expiredQueued else .expiredParked)).unpark h it.rank
      | none =>
        match s.threadOf h it.rank with
        | some t => s.requestAbort h t .expiredRunning
        | none =>
          let x := s.shard h
          let s := (s.setShard h { x with ready := x.ready.filter (fun y => y.rank != it.rank) }).freeEntry (lnkReady h) 1
          let s := if it.aging then s.dropSweeperHold h it else s
          s.endItem h it .expiredQueued

/-! ### What a release does (R166, R167) -/

/-- How an item leaves the shard. -/
inductive Leave where
  | send (r0 r1 r2 r3 : Word64)
  | drop
  | punt
  | route
  deriving DecidableEq, Repr

/-- A code of MISS_DISP or FALLBACK. -/
def leaveBy (code : Nat) : Leave := if code = 0 then .route else if code = 2 then .punt else .drop

/-- The item's row of R166: how it leaves and which counter counts it. -/
def State.leaveOf (s : State) (h : Nat) (e : RoEntry) : Leave × Nat :=
  let c := Reg.SCH_CLASS h e.item.cls
  let miss := leaveBy (s.fld c Fld.SCH_CLASS_MISS_DISP)
  let full : Leave × Nat := (leaveBy (s.fld c Fld.SCH_CLASS_FALLBACK), Cnt.SCH_TABLE_FULL_FALLBACK)
  match e.verdict with
  | none => (.drop, Cnt.SCH_NO_RESULT)
  | some .tableFull => full
  | some (.deadline w) =>
    (miss, match w with
      | .expiredQueued => Cnt.SCH_DL_MISS_QUEUED
      | .expiredRunning => Cnt.SCH_DL_MISS_RUNNING
      | .expiredParked => Cnt.SCH_DL_MISS_PARKED
      | .deadlock => Cnt.SCH_DEADLOCK_ABORT
      | .debug => Cnt.SCH_DEBUG_ABORT
      | .recordLost => Cnt.SCH_RECORD_LOST_ABORT
      | .noResult => Cnt.SCH_NO_RESULT)
  | some (.result r0 r1 r2 r3) =>
    if e.tableFull then full
    else
      let d := r0.get r0Disp
      if d = 0 then (.send r0 r1 r2 r3, Cnt.SCH_DISP_FORWARD)
      else if d = 1 then (.drop, Cnt.SCH_DISP_DROP)
      else if d = 2 then (.send r0 r1 r2 r3, Cnt.SCH_DISP_PUNT)
      else if d = 3 then (.route, Cnt.SCH_DISP_FALLBACK)
      else if d = 4 then full
      else if d = 5 then (.send (r0.put r0Disp 1) r1 r2 r3, Cnt.SCH_NAT_EXHAUSTED)
      else (miss, Cnt.SCH_NO_RESULT)

/-- The fallback unit's decision once its searches are in (R167). -/
def State.fbDecide (s : State) (h : Nat) (e : RoEntry) : State :=
  let st : FbStage × Bool := match routeDecide e.route e.acl (sumGet e.item.summary sumColour) with
    | .forward _ _ => (if outerTtl e.item.hv e.item.summary ≤ 1 then .punt else .forward, false)
    | .punt => (.punt, false)
    | .miss => (.punt, true)
    | .fenced => (.fenced, false)
  let s := s.modEntry h e.item (fun x => { x with stage := st.1, route := e.route, acl := e.acl })
  if st.2 then s.schBump h Cnt.SCH_FALLBACK_ROUTE_MISS else s

/-- Complete entries that wait for the fallback unit, in order of rank. -/
def State.fbWork (s : State) (h : Nat) : Option RoEntry :=
  let l := ((s.shard h).groups.flatMap (fun g => g.2.entries)).filter (fun e =>
    e.verdict.isSome && (match (s.leaveOf h e).1 with | .route => true | _ => false)
      && (match e.stage with | .none => true | .routed => true | _ => false))
  forEach l (fun e (b : Option RoEntry) =>
    match b with | none => some e | some f => if e.item.rank < f.item.rank then some e else some f) none

/-- The fallback unit has a search outstanding. -/
def State.fbBusy (s : State) (h : Nat) : Bool :=
  (s.shard h).groups.any (fun g => g.2.entries.any (fun e => match e.stage with | .waitRoute => true | .waitAcl => true | _ => false))

/-- FALLBACK_ROUTE: the next step of the fallback unit. -/
def fallbackRoute (h : Nat) (s : State) : State :=
  if !s.shardUp h || s.fbBusy h then s
  else
    match s.fbWork h with
    | none => s
    | some e =>
      let it := e.item
      let set (s : State) (st : FbStage) : State := s.modEntry h it (fun x => { x with stage := st })
      match e.stage with
      | .routed =>
        let fenced := match e.route with | .fenced => true | _ => false
        if !fenced && s.flag (Reg.SCH_CLASS h it.cls) Fld.SCH_CLASS_FALLBACK_ACL then
          (set s .waitAcl).askSearch (h / 4) (4 + h % 4)
            { table := 2, key := aclKey it.hv it.summary, gen := it.gen, client := .fallback }
        else s.fbDecide h e
      | _ =>
          match routeKey it.hv it.summary with
          | none => set s .punt
          | some (t, key) =>
            (set s .waitRoute).askSearch (h / 4) (4 + h % 4) { table := t, key := key, gen := it.gen, client := .fallback }

/-! ### Ordered release (R168 to R170) -/

/-- The TM descriptor of a released item (R295). -/
def itemDesc (h : Nat) (it : Item) (r0 r1 r2 r3 : Word64) : Desc :=
  { summary := it.summary, res0 := r0, tsMono := it.tsMono, align := it.align, res1 := r1, ptpTag := r3.toNat % 65536, gen := it.gen
    sampled := false, sampler := 0, perpkt := false, outerEcn := outerEcn it.hv it.summary, res2 := r2
    cellHead := it.cellHead, cellCnt := it.cellCnt, src := h, own := true }

/-- The release unit is still in the cycle of its last release: the tick is the same, and fewer than 12 have left (R168). -/
def State.sameCycle (s : State) (h : Nat) : Bool :=
  (s.shard h).relAt == s.clk.mono && decide (0 < (s.shard h).relCount) && decide ((s.shard h).relCount < 12)

/-- The item's place is given back: entry, sequence, drain count (R168). -/
def State.releaseSlot (s : State) (h : Nat) (e : RoEntry) (cnt : Nat) : State :=
  let g := s.group h e.item.group
  let s := s.setGroup h e.item.group { g with entries := g.entries.drop 1, nextRel := (g.nextRel + 1) % 65536 }
  let s := s.drainSub e.item.srcSlice e.item.gen
  let s := (s.schBump h Cnt.SCH_ITEMS_RELEASED).schBump h cnt
  let s := if e.item.deadline ≤ s.clk.mono then s.schBump h Cnt.SCH_LATE_RELEASE else s
  let x := s.shard h
  s.setShard h { x with lastGroup := e.item.group, relAt := s.clk.mono, relCount := if s.sameCycle h then x.relCount + 1 else 1 }

/-- What a release hands over: nothing, the cells only, or a descriptor that may first be offered to the class's sampler. -/
inductive Plan where
  | free (fenced : Bool)
  | hand (d : Desc) (sample : Bool)
  deriving DecidableEq, Repr

/-- The plan of a complete entry; `none` while the fallback unit has not finished it. -/
def State.releasePlan (s : State) (h : Nat) (e : RoEntry) : Option Plan :=
  let it := e.item
  let word := puntRes0 (s.fld (Reg.SCH_CLASS h it.cls) Fld.SCH_CLASS_PUNT_QUEUE) (sumGet it.summary sumColour)
  let punt (mirror : Bool) : Plan := .hand (itemDesc h it (word.put r0Mirror (bit mirror)) 0 0 0) false
  match (s.leaveOf h e).1 with
  | .send r0 r1 r2 r3 => some (.hand (itemDesc h it r0 r1 r2 r3) (r0.get r0Sample == 1))
  | .drop => some (.free false)
  | .punt => some (punt false)
  | .route =>
    match e.stage with
    | .forward =>
      (match routeDecide e.route e.acl (sumGet it.summary sumColour) with
       | .forward r0 r1 => some (.hand (itemDesc h it r0 r1 0 0) false)
       | _ => none)
    | .punt => some (punt (aclMirror e.acl))
    | .fenced => some (.free true)
    | _ => none

/-- The descriptor as it leaves, after the sampler's offer. -/
def State.sampled (s : State) (d : Desc) (sample : Bool) : Desc × State :=
  let k := sumGet d.summary sumFlowClass
  let x := if sample then s.offer k else (false, s)
  ({ d with sampled := x.1, sampler := if x.1 then k else 0 }, x.2)

/-- Nothing holds the entry's release back: the fallback unit is done and its TMs have Release credit. -/
def State.mayRelease (s : State) (h : Nat) (e : RoEntry) : Bool :=
  e.verdict.isSome &&
    match s.releasePlan h e with
    | none => false
    | some (.free _) => true
    | some (.hand d sample) => (s.sampled d sample).2.mayHandOver (s.sampled d sample).1 (h / 4)

/-- Releases the complete head of a group. -/
def State.releaseHead (s : State) (h : Nat) (e : RoEntry) : State :=
  let cnt := (s.leaveOf h e).2
  match s.releasePlan h e with
  | none => s
  | some (.free fenced) =>
    let s := s.releaseSlot h e cnt
    (if fenced then s.tmbBump (h / 4) Cnt.TMB_FENCED_DISCARD else s).release e.item.cellHead e.item.cellCnt
  | some (.hand d sample) =>
    let x := s.sampled d sample
    let s := x.2.releaseSlot h e cnt
    let s := if x.1.res0.get r0Disp = 0 ∧ x.1.res0.get r0Mcast = 1 then s.schBump h Cnt.SCH_MULTICAST_RELEASES else s
    s.handOver x.1 (h / 4) (fun _ => Reg.SCH_CNT h Cnt.SCH_FENCE_DISCARD)

/-- The entry released next: within a cycle the group served last goes on while its head can be released, then the next group in
rotation whose head can (R168). -/
def State.releasable (s : State) (h : Nat) : Option RoEntry :=
  let l := (s.shard h).groups.filterMap (fun g => g.2.entries.head?.map (fun e => (g.1, e)))
  let l := l.filter (fun x => s.mayRelease h x.2)
  let last := (s.shard h).lastGroup
  match l.find? (fun x => if s.sameCycle h then decide (last ≤ x.1) else decide (last < x.1)) with
  | some x => some x.2
  | none => l.head?.map Prod.snd

/-- ITEM_RELEASE. -/
def itemRelease (h : Nat) (s : State) : State :=
  if !s.shardUp h then s
  else
    match s.releasable h with
    | none => s
    | some e => s.releaseHead h e

/-! ### GRP_CMD READ (R173) -/

/-- HEAD_STATE of a group. -/
def State.headState (s : State) (h : Nat) (g : Group) : Nat :=
  match g.entries with
  | [] => 0
  | e :: _ =>
    if e.verdict.isSome then 4
    else
      match s.threadOf h e.item.rank with
      | some t => if (s.thread h t).halted then 5 else 2
      | none =>
        match s.parkedOf h e.item.rank with
        | some p => if p.queued then 1 else 3
        | none => 1

/-- GRP_READ. -/
def grpRead (h g : Nat) (s : State) : State :=
  let a := Reg.SCH_GRP_CMD h
  let d := Reg.SCH_GRP_DATA h
  let s := s.setFld a Fld.SCH_GRP_CMD_GROUP g
  if 2 ^ s.bucketBits h ≤ g then s.setFld a Fld.SCH_GRP_CMD_ERR 1
  else
    let x := s.group h g
    let s := (s.setFld d Fld.SCH_GRP_DATA_NEXT_SEQ x.nextSeq).setFld d Fld.SCH_GRP_DATA_NEXT_REL x.nextRel
    let s := (s.setFld d Fld.SCH_GRP_DATA_OUTSTANDING x.outstanding).setFld d Fld.SCH_GRP_DATA_HEAD_STATE (s.headState h x)
    s.setFld d Fld.SCH_GRP_DATA_DL_HELD (bit x.heldSince.isSome)

def execSequencerTake (h : Fin 16) (s : State) : Out := done s (sequencerTake h.val s)

def execDispatch (h : Fin 16) (e : Ecc) (s : State) : Out := done s (dispatch h.val e s)

def execItemExpiry (h : Fin 16) (s : State) : Out := done s (itemExpiry h.val s)

def execParkRetry (h : Fin 16) (t : Fin 512) (s : State) : Out := done s (parkRetry h.val t.val s)

def execResumeEnter (h : Fin 16) (s : State) : Out := done s (resumeEnter h.val s)

def execItemRelease (h : Fin 16) (s : State) : Out := done s (itemRelease h.val s)

def execFallbackRoute (h : Fin 16) (s : State) : Out := done s (fallbackRoute h.val s)

def execGrpRead (h : Fin 16) (g : Fin 65536) (s : State) : Out := done s (grpRead h.val g.val s)

end Sys2Proof.Machine
end

