-- ==== Sys2Proof/Machine/Fence.lean ====
section
/-! DEFINITION. What a fence does at the boundary of a port macro, a slice, a shard, an array and a traffic manager (R172, R312,
R392, R393): its links stop, the work inside is discarded. -/

namespace Sys2Proof.Machine

/-! ### Links (R25, R392) -/

/-- The links of R20 that end in a unit or lie inside it. -/
def unitLinks (u : Nat) : List Nat :=
  if u < 256 then [lnkIngress (2 * u), lnkIngress (2 * u + 1)]
  else if u < 272 then
    let i := u - 256
    (List.range 32).map (fun p => lnkIngress (32 * i + p)) ++ (List.range 16).map (fun h => lnkDispatch i h)
      ++ (List.range 4).map (fun q => lnkRelease (16 + i) q)
      ++ (List.range 32).flatMap (fun p => (List.range 8).map (fun c => lnkEgress (32 * i + p) c))
  else if u < 288 then
    let h := u - 272
    (List.range 16).map (fun i => lnkDispatch i h) ++ [lnkReady h, lnkRecord h, lnkMiss h, lnkFill h]
      ++ (List.range 4).map (fun q => lnkRelease h q)
  else if u < 292 then []
  else if u < 296 then
    let q := u - 292
    (List.range 32).map (fun i => lnkRelease i q)
      ++ (List.range 128).flatMap (fun p => (List.range 8).map (fun c => lnkEgress (128 * q + p) c))
  else if u = 309 then (List.range 4).map lnkPool
  else []

/-- Every link at a unit's boundary stops. -/
def State.stopLinks (s : State) (u : Nat) : State := forEach (unitLinks u) (fun k t => t.stopLink k) s

/-! ### Port macros and slices -/

/-- Frames that the fence of a unit discards are counted (R25, R27). -/
def State.countFence (s : State) (u n : Nat) : State :=
  let d := s.fault.fenceDiscards
  { s with fault := { s.fault with fenceDiscards := Tbl.set 0 d u (Tbl.get 0 d u + n) } }

/-- A frame held by a port is discarded: its cells go back. -/
def State.discardIng (s : State) (f : IngFrame) : State :=
  match f.cells with
  | none => s
  | some cs => (s.freeCells cs).forget (cs.headD 0) cs

/-- Copies waiting in an egress FIFO of a port are discarded as fence discards of unit `u`, and their places are freed (R39). -/
def State.discardClass (s : State) (u p c : Nat) : State :=
  let x := s.port p
  let l := Tbl.get [] x.egr c
  let s := ((s.setPort p { x with egr := Tbl.set [] x.egr c [] }).freeEgress p c l.length).countFence u l.length
  forEach l (fun c t => t.releaseBody (quadOf p) c) s

/-- Every egress FIFO of a port. -/
def State.discardEgress (s : State) (u p : Nat) : State :=
  let s : State := forUpTo 8 (fun c t => t.discardClass u p c) s
  s.setPort p { s.port p with gateWaited := 0 }

/-- The ingress FIFO of a logical port is emptied as fence discards of unit `u`; the frame being received is cut off. -/
def State.discardIngress (s : State) (u p : Nat) : State :=
  let x := s.port p
  let s := s.setPort p { x with fifo := [], rx := x.rx.map (fun r => { r with fifoFull := true, inFifo := false })
                                xoff := false, xoffCls := 0 }
  (forEach x.fifo (fun f t => t.discardIng f) s).countFence u x.fifo.length

/-- Frames of a port past their end are discarded in the slice; a search that one of them has asked for goes with it. -/
def State.discardOut (s : State) (p : Nat) : State :=
  let x := s.port p
  let s := s.setPort p { x with out := [] }
  let k := 8 * quadOf p + sliceOf p % 4
  let l := (Tbl.get [] s.tmb.searches k).filter (fun r => r.client != .slice p)
  let s := { s with tmb := { s.tmb with searches := Tbl.set [] s.tmb.searches k l } }
  (forEach x.out (fun o t => t.release o.cellHead o.cellCnt) s).countFence (unitSlice (sliceOf p)) x.out.length

def State.discardPort (s : State) (n : Nat) : State :=
  forEach [2 * n, 2 * n + 1] (fun p t => (t.discardIngress (unitPort n) p).discardEgress (unitPort n) p) s

def State.discardSlice (s : State) (i : Nat) : State :=
  forEach ((List.range 32).map (fun k => 32 * i + k)) (fun p t =>
    ((t.discardIngress (unitSlice i) p).discardOut p).discardEgress (unitSlice i) p) s

/-! ### Shards (R172, R146) -/

/-- A packet item is discarded at a fence: cells, drain count, counter. -/
def State.fenceItem (s : State) (h : Nat) (it : Item) : State :=
  ((s.release it.cellHead it.cellCnt).drainSub it.srcSlice it.gen).schBump h Cnt.SCH_FENCE_DISCARD

/-- Requests of a shard's threads that the DMCs have not accepted, and reads whose answer nobody awaits any more, go. -/
def State.dropAux (s : State) (h : Nat) : State :=
  { s with dram := { s.dram with subs := s.dram.subs.map (fun e =>
      (e.1, { e.2 with waiting := e.2.waiting.filter (fun r => decide (r.thread / 512 ≠ h))
                       readQ := e.2.readQ.filter (fun r => decide (r.thread / 512 ≠ h)) })) } }

/-- Record entries after a fence (R146): those whose fetch has been issued stay, with nobody left to receive their records. -/
def fencedEntries (l : List RecEntry) : List RecEntry :=
  (l.filter (fun e => match e.stage with | .fetched _ _ _ _ => true | .ready .found => true | .ready .created => true | _ => false)).map
    (fun e => { e with queue := [] })

/-- What the fence of a shard discards. -/
def State.discardShard (s : State) (h : Nat) : State :=
  let x := s.shard h
  let aging := (x.ready ++ x.parked.map (fun p => p.item) ++ x.threads.filterMap (fun e => e.2.item)).filter (fun it => it.aging)
  let packets := x.inputs.flatMap (fun e => e.2) ++ x.groups.flatMap (fun g => g.2.entries.map (fun e => e.item))
  let s : State := forEach packets (fun it t => t.fenceItem h it) s
  let s : State := forEach aging (fun it t => t.ageDrain h it.gen false) s
  let s : State := forEach x.parked (fun p t => t.poolRelease h p.index) s
  let s : State := forEach (x.threads.flatMap (fun e => e.2.locks)) (fun _ t => t.wrdBump h Cnt.WRD_LOCK_ABORT_RELEASE) s
  let held := (x.ways.filter (fun e => e.2.held.isSome)).map Prod.fst
  let s : State := forEach held (fun i t => t.unholdWay h i) s
  let s := if s.flag (recCmd h) Fld.HNK_REC_CMD_BUSY then s.hostEnd h 7 else s
  let k := 8 * (h / 4) + 4 + h % 4
  let s := { s with tmb := { s.tmb with searches := Tbl.set [] s.tmb.searches k [] } }
  let y := s.shard h
  (s.setShard h { y with
    inputs := [], ready := [], parked := [], groups := []
    threads := y.threads.filterMap (fun e => if e.2.halted ∨ e.2.haltReq.isSome then some (e.1, { Thread.init with
      halted := true, haltCause := if e.2.halted then e.2.haltCause else e.2.haltReq.getD 0
      itemEnded := e.2.itemEnded || e.2.item.isSome }) else none)
    recPort := [], entryWait := [], entries := fencedEntries y.entries, locks := [], host := .none
    sweep := { y.sweep with input := none, waiting := none, fill := none } }).dropAux h

/-! ### The fence itself -/

/-- Fences a shard whose own detector has fired: the message, the window, the links, the discards. -/
def State.faultShard (s : State) (h src kind addr : Nat) : State :=
  let u := unitShard h
  if s.down u then s.shadow u
  else
    let s := (((s.sendFault src kind 1 addr).openWindow u).stopLinks u).discardShard h
    { s with fault := { s.fault with mcUe := Tbl.set false s.fault.mcUe u (kind == 0x030) } }

end Sys2Proof.Machine
end

