-- ==== Sys2Proof/Machine/Crypto.lean ====
section
/-! DEFINITION. SHA-384 (FIPS 180-4) and ECDSA P-384 verification (FIPS 186-4), by which an image is proved authentic (R336).  The
spec names both; their constants are those of the public standards (assumption log 31). -/

namespace Sys2Proof.Machine

/-! ### SHA-384 -/

/-- Raises `r` by the powers of two below 2^b that leave its k-th power at most n: the k-th root of n from r = 0. -/
def rootFrom (k n : Nat) : Nat → Nat → Nat
  | 0, r => r
  | b + 1, r => rootFrom k n b (if (r + 2 ^ b) ^ k ≤ n then r + 2 ^ b else r)

/-- The first 64 bits behind the binary point of the k-th root of p, a root below 8. -/
def rootFraction (k p : Nat) : Word64 := BitVec.ofNat 64 (rootFrom k (p * 2 ^ (64 * k)) 67 0)

/-- The first 80 primes, those below 410 (divisors up to 20 tell them). -/
def shaPrimes : List Nat :=
  (List.range 410).filter (fun n => decide (2 ≤ n) && (List.range 21).all (fun d => decide (d < 2) || d == n || n % d != 0))

/-- Round constants: fractions of the cube roots of the first 80 primes. -/
def shaK : List Word64 := shaPrimes.map (rootFraction 3)

/-- Initial hash value of SHA-384: fractions of the square roots of the ninth to the sixteenth prime. -/
def shaInit : List Word64 := ((shaPrimes.drop 8).take 8).map (rootFraction 2)

def rotr (x : Word64) (n : Nat) : Word64 := x.rotateRight n

/-- The message padded to whole 128-byte blocks. -/
def shaPad (m : List Byte) : List Byte :=
  m ++ [0x80#8] ++ List.replicate ((239 - m.length % 128) % 128) 0#8 ++ beBytes 16 (8 * m.length)

/-- The next words of the message schedule; the list holds the last 16, newest first. -/
def shaSchedule : Nat → List Word64 → List Word64
  | 0, _ => []
  | n + 1, w =>
    let a := w.getD 1 0
    let b := w.getD 14 0
    let s1 := rotr a 19 ^^^ rotr a 61 ^^^ a >>> 6
    let s0 := rotr b 1 ^^^ rotr b 8 ^^^ b >>> 7
    let x := s1 + w.getD 6 0 + s0 + w.getD 15 0
    x :: shaSchedule n (x :: w.take 15)

/-- One round: `h` holds a to h, `kw` the round constant plus the schedule word. -/
def shaRound (h : List Word64) (kw : Word64) : List Word64 :=
  match h with
  | [a, b, c, d, e, f, g, i] =>
    let t1 := i + (rotr e 14 ^^^ rotr e 18 ^^^ rotr e 41) + ((e &&& f) ^^^ (~~~e &&& g)) + kw
    let t2 := (rotr a 28 ^^^ rotr a 34 ^^^ rotr a 39) + ((a &&& b) ^^^ (a &&& c) ^^^ (b &&& c))
    [t1 + t2, a, b, c, d + t1, e, f, g]
  | l => l

/-- One block. -/
def shaBlock (h : List Word64) (block : List Byte) : List Word64 :=
  let w := (List.range 16).map (fun i => BitVec.ofNat 64 (beNat (bytesAt block (8 * i) 8)))
  let all := w ++ shaSchedule 64 w.reverse
  let r := (List.zipWith (fun k x => k + x) shaK all).foldl shaRound h
  List.zipWith (fun x y => x + y) h r

def shaBlocks : Nat → List Byte → List Word64 → List Word64
  | 0, _, h => h
  | n + 1, m, h => shaBlocks n (m.drop 128) (shaBlock h (m.take 128))

/-- SHA-384 of a message, 48 bytes. -/
def sha384 (m : List Byte) : List Byte :=
  let p := shaPad m
  ((shaBlocks (p.length / 128) p shaInit).take 6).flatMap (fun x => beBytes 8 x.toNat)

/-! ### ECDSA P-384 -/

def p384P : Nat := 2 ^ 384 - 2 ^ 128 - 2 ^ 96 + 2 ^ 32 - 1
def p384B : Nat := 0xb3312fa7e23ee7e4988e056be3f82d19181d9c6efe8141120314088f5013875ac656398d8a2ed19d2a85c8edd3ec2aef
def p384N : Nat := 0xffffffffffffffffffffffffffffffffffffffffffffffffc7634d81f4372ddf581a0db248b0a77aecec196accc52973
def p384Gx : Nat := 0xaa87ca22be8b05378eb1c71ef320ad746e1d3b628ba79b9859f741e082542a385502f25dbf55296c3a545e3872760ab7
def p384Gy : Nat := 0x3617de4a96262c6f5d9e98bf9292dc29f8f41dbd289a147ce9da3113b5f0b8c00a60b1ce1d7e819d7a431d7c90ea0e5f

/-- x to the power of the low `n` bits of `e`, modulo m. -/
def powMod (m : Nat) : Nat → Nat → Nat → Nat
  | 0, _, _ => 1 % m
  | n + 1, x, e =>
    let r := powMod m n (x * x % m) (e / 2)
    if e % 2 = 1 then x * r % m else r

/-- Inverse modulo a prime. -/
def invMod (m x : Nat) : Nat := powMod m 384 (x % m) (m - 2)

/-- Sum of two points of the curve; `none` is the point at infinity. -/
def ecAdd (a b : Option (Nat × Nat)) : Option (Nat × Nat) :=
  match a, b with
  | none, q => q
  | p, none => p
  | some p, some q =>
    let P := p384P
    let out (l : Nat) : Option (Nat × Nat) :=
      let x := (l * l + 2 * P - p.1 - q.1) % P
      some (x, (l * (p.1 + P - x) + P - p.2) % P)
    if p.1 = q.1 then
      if (p.2 + q.2) % P = 0 then none
      else out ((3 * p.1 * p.1 + (P - 3)) * invMod P (2 * p.2) % P)
    else out ((q.2 + P - p.2) * invMod P (q.1 + P - p.1) % P)

/-- `k` times a point, from the low `n` bits of k. -/
def ecMul : Nat → Nat → Option (Nat × Nat) → Option (Nat × Nat)
  | 0, _, _ => none
  | n + 1, k, p =>
    let r := ecMul n (k / 2) (ecAdd p p)
    if k % 2 = 1 then ecAdd p r else r

/-- The signature (r, s) of a hash verifies under the key (x, y). -/
def ecdsaVerify (x y r s hash : Nat) : Bool :=
  let onCurve := decide (x < p384P) && decide (y < p384P) && decide (y * y % p384P = (x * x * x + (p384P - 3) * x + p384B) % p384P)
  if !onCurve ∨ r = 0 ∨ s = 0 ∨ p384N ≤ r ∨ p384N ≤ s then false
  else
    let w := invMod p384N s
    match ecAdd (ecMul 384 (hash * w % p384N) (some (p384Gx, p384Gy))) (ecMul 384 (r * w % p384N) (some (x, y))) with
    | none => false
    | some q => q.1 % p384N == r

end Sys2Proof.Machine
end

