-- ==== Sys2Proof/Machine/Image.lean ====
section
/-! DEFINITION. The image device and the image format (R332, R334 to R337): header, section table, signature block, fuses, and the
checks 0x0101 to 0x0106 of an image in a slot (R349). -/

namespace Sys2Proof.Machine

/-! ### The image device -/

/-- Address of slot k (0 A, 1 B), and the bytes a slot holds. -/
def State.slotBase (s : State) (k : Nat) : Nat := (if k = 0 then 0 else s.cast.flashLen / 2) + 0x10000
def State.slotLen (s : State) : Nat := s.cast.flashLen / 2 - 0x10000

/-- An erased byte of the image device. -/
def flashErased : Byte := 0xFF#8

def flashRead (m : Tbl Byte) (a n : Nat) : List Byte := (List.range n).map (fun i => Tbl.get flashErased m (a + i))

/-- Bytes `off` to `off + n` of the image in slot k. -/
def State.img (s : State) (k off n : Nat) : List Byte := flashRead s.cast.flash (s.slotBase k + off) n

def State.imgNat (s : State) (k off n : Nat) : Nat := leNat (s.img k off n)

/-! ### Header and sections (R334, R335) -/

def State.imgVersion (s : State) (k : Nat) : Nat := s.imgNat k 16 8
def State.imgSvn (s : State) (k : Nat) : Nat := s.imgNat k 24 1
def State.imgRuntimeAdmit (s : State) (k : Nat) : Nat := s.imgNat k 25 1 % 2
def State.imgConfirmS (s : State) (k : Nat) : Nat := s.imgNat k 26 2
def State.imgSections (s : State) (k : Nat) : Nat := s.imgNat k 28 4
def State.imgLen (s : State) (k : Nat) : Nat := s.imgNat k 32 8
def State.imgSig (s : State) (k : Nat) : Nat := s.imgNat k 40 8

/-- A section entry. -/
structure Section where
  ty : Nat
  mandatory : Bool
  off : Nat
  len : Nat
  deriving DecidableEq, Repr

def State.imgSection (s : State) (k i : Nat) : Section :=
  let e := s.img k (256 + 16 * i) 16
  { ty := leNat (bytesAt e 0 2), mandatory := leNat (bytesAt e 2 2) % 2 == 1, off := leNat (bytesAt e 4 4)
    len := leNat (bytesAt e 8 4) }

def State.sectionTable (s : State) (k : Nat) : List Section := (List.range (min 240 (s.imgSections k))).map (s.imgSection k)

/-- The first section of a type. -/
def State.sectionOf (s : State) (k ty : Nat) : Option Section := (s.sectionTable k).find? (fun x => x.ty == ty)

/-- The bytes of a section; none where the image has no such section. -/
def State.sectionBytes (s : State) (k ty : Nat) : List Byte :=
  match s.sectionOf k ty with
  | none => []
  | some x => s.img k x.off x.len

/-- The sections every image has. -/
def requiredSections : List Nat := [0x0001, 0x0002, 0x0003, 0x0004, 0x000B]

/-- Two stretches of bytes share a byte. -/
def meets (a n b m : Nat) : Bool := decide (a < b + m) && decide (b < a + n) && n != 0 && m != 0

/-- The i-th section entry breaks a rule: outside the image's body, overlapping another, or an unknown MANDATORY type. -/
def sectionBad (l : List Section) (sig i : Nat) (x : Section) : Bool :=
  meets x.off x.len 0 4096 || meets x.off x.len sig 256 || decide (sig < x.off + x.len)
    || (l.zipIdx.any (fun y => y.2 != i && meets x.off x.len y.1.off y.1.len))
    || (x.mandatory && !between1 x.ty)
where
  /-- The known types. -/
  between1 (t : Nat) : Bool := decide (1 ≤ t) && decide (t ≤ 12)

/-! ### A refusal (R345, R349) -/

/-- A refusal: reason code, object kind and index, demand, limit. -/
structure Refuse where
  code : Nat
  kind : Nat
  index : Nat
  demand : Nat := 0
  limit : Nat := 0
  deriving DecidableEq, Repr

/-- An object that the spec does not name has an open index. -/
def State.refuseOpen (s : State) (code kind : Nat) : Refuse × State :=
  let x := s.draw
  ({ code := code, kind := kind, index := x.1.toNat % 2 ^ 28 }, x.2)

/-! ### The checks (R336, R337, R349) -/

/-- The fuse bank that is valid: its LOCK fuse is blown; the lower one where both are. -/
def State.validBank (s : State) : Option KeyBank :=
  if s.cast.bank0.lock then some s.cast.bank0 else if s.cast.bank1.lock then some s.cast.bank1 else none

/-- The magic bytes and the part name. -/
def imgMagic : List Byte := [0x53#8, 0x39#8, 0x49#8, 0x4D#8]
def imgPart : List Byte := [0x53#8, 0x39#8, 0x31#8, 0x30#8, 0x32#8, 0#8, 0#8, 0#8]

def State.formatOk (s : State) (k : Nat) : Bool :=
  s.img k 0 4 == imgMagic && s.imgNat k 4 2 == 1 && s.imgNat k 6 2 == 4096 && s.img k 8 8 == imgPart

/-- The header's numbers on sections and signature hold together, unused entries are 0, required sections stand. -/
def State.tableOk (s : State) (k : Nat) : Bool :=
  let n := s.imgSections k
  decide (1 ≤ n) && decide (n ≤ 240) && s.imgSig k % 4096 == 0 && s.imgLen k == s.imgSig k + 256
    && (s.img k (256 + 16 * n) (3840 - 16 * n)).all (fun b => b == 0)
    && requiredSections.all (fun t => (s.sectionOf k t).isSome)

/-- The first bad section. -/
def State.badSection (s : State) (k : Nat) : Option Nat :=
  let l := s.sectionTable k
  (l.zipIdx.find? (fun x => sectionBad l (s.imgSig k) x.2 x.1)).map (fun x => x.2)

/-- SHA-384 of the image's bytes before the signature block. -/
def State.imgDigest (s : State) (k : Nat) : List Byte := sha384 (s.img k 0 (s.imgSig k))

/-- The key's hash is that of the valid bank. -/
def State.keyOk (s : State) (k : Nat) : Bool :=
  match s.validBank with
  | none => false
  | some b => b.bits == sha384 (s.img k (s.imgSig k) 97)

/-- The signature verifies; X, Y, r and s are read most significant byte first (assumption log 31). -/
def State.sigOk (s : State) (k : Nat) : Bool :=
  let b := s.img k (s.imgSig k) 256
  bytesAt b 0 1 == [0x04#8]
    && ecdsaVerify (beNat (bytesAt b 1 48)) (beNat (bytesAt b 49 48)) (beNat (bytesAt b 128 48)) (beNat (bytesAt b 176 48))
      (beNat (s.imgDigest k))

/-- The first check that the image in slot k fails; `readFail`: the slot cannot be read. -/
def State.verifyImage (s : State) (k : Nat) (readFail : Bool) : Option Refuse × State :=
  let slot (c : Nat) : Option Refuse × State := (some { code := c, kind := 1, index := k + 1 }, s)
  if readFail ∨ s.slotLen < s.imgLen k then slot 0x0101
  else if !s.formatOk k then slot 0x0102
  else if !s.tableOk k then
    let r := s.refuseOpen 0x0103 2
    (some r.1, r.2)
  else
    match s.badSection k with
    | some i => (some { code := 0x0103, kind := 2, index := i }, s)
    | none =>
      if !s.keyOk k then slot 0x0104
      else if !s.sigOk k then slot 0x0105
      else if s.imgSvn k < s.cast.svn then slot 0x0106
      else (none, s)

/-! ### Fuses (R337) -/

def blankBits : List Byte := List.replicate 48 0#8

/-- The bank has a blown fuse. -/
def KeyBank.blown (b : KeyBank) : Bool := b.lock || b.bits.any (fun x => x != 0)

/-- FUSE_STATUS and FUSE_HASH as the fuses stand. -/
def State.senseFuses (s : State) : State :=
  let v := s.validBank
  let st : Nat := match v with
    | some _ => 1
    | none => if s.cast.bank0.blown && s.cast.bank1.blown then 2 else 0
  let a := Reg.CST_FUSE_STATUS
  let s := s.setFld a Fld.CST_FUSE_STATUS_KEY_STATE st
  let s := s.setFld a Fld.CST_FUSE_STATUS_BANK (bit (!s.cast.bank0.lock && s.cast.bank1.lock))
  let s := s.setFld a Fld.CST_FUSE_STATUS_SVN_MIN s.cast.svn
  let bits : List Byte := match v with
    | none => []
    | some b => b.bits
  forUpTo 6 (fun i t => t.setReg (Reg.CST_FUSE_HASH i) (BitVec.ofNat 64 (leNat (bytesAt bits (8 * i) 8)))) s

/-- A refused fuse command. -/
def State.fuseErr (s : State) : State := s.setFld Reg.CST_FUSE_CMD Fld.CST_FUSE_CMD_ERR 1

/-- A fuse command has run: it is counted, its EVENT entry waits. -/
def State.fuseDone (s : State) : State := (s.senseFuses.cstBump Cnt.CST_FUSE_COMMANDS).jnlQueue (.event .fuse)

/-- PROGRAM_KEY; `cut`: the run is interrupted, or fails verification, after the bits of `blown` were blown. -/
def programKey (cut : Option (List Byte)) (s : State) : State :=
  let data := (List.range 6).flatMap (fun i => leBytes 8 (s.reg (Reg.CST_FUSE_DATA i)).toNat)
  if s.validBank.isSome then s.fuseErr
  else
    let b : KeyBank := match cut with
      | none => { bits := data, lock := true }
      | some x => { bits := bytesAt (List.zipWith (fun p q => p &&& q) data (bytesAt x 0 48)) 0 48, lock := false }
    if !s.cast.bank0.blown then State.fuseDone { s with cast := { s.cast with bank0 := b } }
    else if !s.cast.bank1.blown then State.fuseDone { s with cast := { s.cast with bank1 := b } }
    else s.fuseErr

/-- RAISE_SVN (R337, R339). -/
def raiseSvn (s : State) : State :=
  let layer := s.fld Reg.CST_STATUS Fld.CST_STATUS_LAYER
  if s.phase ≠ 11 ∨ layer = 3 ∨ s.flag Reg.CST_STATUS Fld.CST_STATUS_TRIAL = true then s.fuseErr
  else
    let x := s.fld Reg.CST_IMAGE_INFO Fld.CST_IMAGE_INFO_SVN
    State.fuseDone { s with cast := { s.cast with svn := max s.cast.svn x } }

def execProgramKey (cut : Option (List Byte)) (s : State) : Out := done s (programKey cut s)
def execRaiseSvn (s : State) : Out := done s (raiseSvn s)

end Sys2Proof.Machine
end

