-- ==== Sys2Proof/Machine/Status.lean ====
section
/-! DEFINITION. FLT.STATUS (R391, R404): setting its bits with the fault vector, WINDOW_OPEN and DEGRADED, and ALERT_N. -/

namespace Sys2Proof.Machine

/-- A bit of FLT.STATUS is set; a 0-to-1 change selected in IRQ_EN sends the fault vector (R391). -/
def State.fltStatus (s : State) (f : Fld) : State :=
  if s.flag Reg.FLT_STATUS f then s
  else
    let s := s.setFld Reg.FLT_STATUS f 1
    if (s.fld Reg.FLT_IRQ_EN Fld.FLT_IRQ_EN_EN).testBit f.lo then s.faultVector else s

/-- A unit is in one of these states. -/
def State.anyUnit (s : State) (p : Nat → Bool) : Bool := (List.range 315).any (fun u => p (s.unitState u))

/-- FLT.STATUS with WINDOW_OPEN and DEGRADED as the units stand (R404). -/
def State.fltStatusWord (s : State) : Word64 :=
  ((s.reg Reg.FLT_STATUS).put Fld.FLT_STATUS_WINDOW_OPEN (bit (s.anyUnit (fun x => x == 1 || x == 2 || x == 3)))).put
    Fld.FLT_STATUS_DEGRADED (bit (s.anyUnit (fun x => x == 4)))

/-- The stored WINDOW_OPEN and DEGRADED follow the units' states, with the fault vector at a rise (R391). -/
def State.showUnits (s : State) : State :=
  let show_ (f : Fld) (on : Bool) (s : State) : State := if on then s.fltStatus f else s.setFld Reg.FLT_STATUS f 0
  let s := show_ Fld.FLT_STATUS_WINDOW_OPEN (s.anyUnit (fun x => x == 1 || x == 2 || x == 3)) s
  show_ Fld.FLT_STATUS_DEGRADED (s.anyUnit (fun x => x == 4)) s

/-- ALERT_N is driven low (R391). -/
def State.alertLow (s : State) : Bool :=
  !s.power.sysResetLow && s.power.powered
    && (s.fltStatusWord.toNat &&& s.fld Reg.FLT_ALERT_EN Fld.FLT_ALERT_EN_EN) % 256 != 0

end Sys2Proof.Machine
end

