-- ==== Sys2Proof/Machine/Ccx.lean ====
section
/-! DEFINITION. The control complexes (R405 to R414): claims, the Hasp stages, heartbeats, takeover and switch; and the fence of
any unit (R392, R393), which for the active complex is a takeover. -/

namespace Sys2Proof.Machine

def State.ccxBump (s : State) (i : Nat) : State := s.bump (Reg.CCX_CNT i)

/-- The claim register of complex x. -/
def claimReg (x : Nat) : Nat := if x = 0 then Reg.CCX_CLAIM_A else Reg.CCX_CLAIM_B

def State.claim (s : State) (x : Nat) : Nat := (s.reg (claimReg x)).get ⟨0, 32⟩

def State.setClaim (s : State) (x c : Nat) : State := s.setFld (claimReg x) ⟨0, 32⟩ c

/-- The complex is in service: it has a claim and its unit is up. -/
def State.ccUp (s : State) (x : Nat) : Bool := !s.down (unitComplex x) && s.claim x != 0

/-- The claim as the Hasp stages take it: 0 for a complex not in service (R406). -/
def State.haspClaim (s : State) (x : Nat) : Nat := if s.ccUp x then s.claim x else 0

/-- Stages 0 to 3 accept a write of complex x (R408). -/
def State.haspAccepts (s : State) (x : Nat) : Bool := decide (s.haspClaim (1 - x) < s.haspClaim x)

/-- The active complex. -/
def State.activeCc (s : State) : Nat := s.fld Reg.CCX_STATUS Fld.CCX_STATUS_ACTIVE

/-- Some complex performs the services: the active one is in service and its writes are accepted. -/
def State.serving (s : State) : Bool := s.ccUp s.activeCc && s.haspAccepts s.activeCc

/-- A write of complex x is rejected at a stage (R408). -/
def State.haspReject (s : State) (stage x : Nat) : State :=
  (s.ccxBump (6 + stage)).sendFault (srcHasp stage) 0x080 0 (s.claim x + 4294967296 * x)

/-- An IMAGE_WRITE runs (R342, R412). -/
def State.imageWriting (s : State) : Bool :=
  (List.range 16).any (fun i => s.lopActive i && (match (s.lopSlot i).run with | .image _ _ _ => true | _ => false))

/-- The long operations that do not survive a change of the active complex end (R372); the exporter starts over at the
oldest entry of each ring (R245). -/
def State.servicesMove (s : State) : State :=
  let s := s.lopAbortAll (fun t i => !t.lopByDmc i) lopTakeover
  { s with exporter := { s.exporter with next := [], waitAt := [], records := [], templates := true } }

/-- Complex x raises its claim to c (R410, R413): whether the raise was made. -/
def State.raiseClaim (s : State) (x c : Nat) : Bool × State :=
  let n := s.fld Reg.CCX_TAKEOVERS Fld.CCX_TAKEOVERS_COUNT
  if s.fld Reg.CCX_CFG Fld.CCX_CFG_TAKEOVER_LIMIT ≤ n then
    let a := s.draw
    (false, a.2.sendFault (srcComplex x) 0x084 2 a.1.toNat)
  else
    let s := (s.setClaim x c).setFld Reg.CCX_TAKEOVERS Fld.CCX_TAKEOVERS_COUNT (n + 1)
    if s.haspClaim (1 - x) = c then
      let s := (s.ccxBump Cnt.CCX_CLAIM_TIES).setFld Reg.CCX_STATUS Fld.CCX_STATUS_TIE_SEEN 1
      (false, (s.sendFault (srcComplex x) 0x083 1 c).openWindow (unitComplex x))
    else (true, s)

/-- Complex x is fenced with HB_LOST, whose ADDR the spec does not state. -/
def State.hbLost (s : State) (x : Nat) : State :=
  if s.down (unitComplex x) then s
  else
    let a := s.draw
    (a.2.sendFault (srcComplex x) 0x082 1 a.1.toNat).openWindow (unitComplex x)

/-- The standby takes over (R411); `hb`: because of silence. -/
def State.takeover (s : State) (hb : Bool) : State :=
  let old := s.activeCc
  let x := 1 - old
  if !s.ccUp x then s
  else
    let r := s.raiseClaim x (s.claim old + 1)
    if !r.1 then r.2
    else
      let s := (r.2.hbLost old).setFld Reg.CCX_STATUS Fld.CCX_STATUS_ACTIVE x
      let s := s.setFld Reg.CCX_STATUS Fld.CCX_STATUS_TAKEOVER_SEEN 1
      let s := s.ccxBump (if hb then Cnt.CCX_TAKEOVERS_HB else Cnt.CCX_TAKEOVERS_FENCE)
      s.servicesMove.jnlQueue (.event .takeover)

/-! ### The fence of any unit (R392, R393) -/

/-- What a fence of unit u does besides its STATE. -/
def State.isolate (s : State) (u : Nat) : State :=
  let s := s.stopLinks u
  if u < 256 then s.discardPort u
  else if u < 272 then s.discardSlice (u - 256)
  else if u < 288 then s.discardShard (u - 272)
  else if u < 292 then s.tmbAbandon (u - 288)
  else if u < 296 then s.tmDiscard (u - 292)
  else if u < 308 then s.orFld (Reg.DMC_STATUS (u - 296)) Fld.DMC_STATUS_RANK_OUT 15
  else if u = 310 then s.hostLost
  else if u = 312 ∨ u = 313 then (if s.activeCc = u - 312 then s.takeover false else s)
  else s

/-- An uncorrected-contained fault of a numbered unit: message, window, fence; masked while the unit is down (R394). -/
def State.faultUnit (s : State) (u src kind addr : Nat) : State :=
  if s.down u then s.shadow u
  else ((s.sendFault src kind 1 addr).openWindow u).isolate u

/-! ### Heartbeats (R411) -/

/-- Key of a heartbeat path of complex x: 0 line, 1 bus. -/
def hbKey (x path : Nat) : Nat := 2 * x + path

/-- CC_HEARTBEAT: complex x has completed its service loop and sends on a path. -/
def ccHeartbeat (x path : Nat) (s : State) : State :=
  let k := hbKey x path
  let due : Bool := match Tbl.get none s.ccx.sent k with
    | none => true
    | some t => decide (t + usTicks (s.fld Reg.CCX_CFG Fld.CCX_CFG_HB_PERIOD_US) ≤ s.clk.mono)
  if !s.ccUp x ∨ !due then s
  else { s with ccx := { s.ccx with sent := Tbl.set none s.ccx.sent k (some s.clk.mono)
                                    heard := Tbl.set none s.ccx.heard k (some s.clk.mono)
                                    told := Tbl.set false s.ccx.told k false } }

/-- A path of complex x has been silent for HB_TIMEOUT_US. -/
def State.hbSilent (s : State) (x path : Nat) : Bool :=
  match Tbl.get none s.ccx.heard (hbKey x path) with
  | none => true
  | some t => decide (t + usTicks (s.fld Reg.CCX_CFG Fld.CCX_CFG_HB_TIMEOUT_US) ≤ s.clk.mono)

/-- One path of complex x is silent: HB_PATH from its watcher, once. -/
def State.hbPath (s : State) (x path : Nat) : State :=
  let k := hbKey x path
  if Tbl.get false s.ccx.told k then s
  else
    let s := (s.ccxBump Cnt.CCX_HB_PATH_FAULTS).detect (srcComplex (1 - x)) 0x081 0 path
    { s with ccx := { s.ccx with told := Tbl.set false s.ccx.told k true } }

/-- CC_HEARTBEAT_TIMEOUT: what the partner of complex x does about its silence. -/
def ccHeartbeatTimeout (x : Nat) (s : State) : State :=
  if !s.ccUp x ∨ !s.ccUp (1 - x) then s
  else if s.hbSilent x 0 ∧ s.hbSilent x 1 then (if s.activeCc = x then s.takeover true else s.hbLost x)
  else if s.hbSilent x 0 then s.hbPath x 0
  else if s.hbSilent x 1 then s.hbPath x 1
  else s

/-- TAKEOVER: the active complex is fenced or silent on both paths. -/
def takeoverDue (s : State) : State :=
  let a := s.activeCc
  if s.down (unitComplex a) then s.takeover false
  else if s.hbSilent a 0 ∧ s.hbSilent a 1 then s.takeover true
  else s

/-- SWITCH_OVER (R412). -/
def switchOver (s : State) : State :=
  let old := s.activeCc
  let x := 1 - old
  if !s.ccUp x ∨ s.imageWriting = true then s.setFld Reg.CCX_STATUS Fld.CCX_STATUS_SWITCH_ERR 1
  else
    let r := s.raiseClaim x (s.claim old + 1)
    if !r.1 then r.2
    else
      let s := (r.2.setFld Reg.CCX_STATUS Fld.CCX_STATUS_ACTIVE x).setFld Reg.CCX_STATUS Fld.CCX_STATUS_TAKEOVER_SEEN 1
      (s.ccxBump Cnt.CCX_SWITCHES).servicesMove

/-! ### Reset and return of a complex (R407) -/

/-- RETURN of complex x: standby one below the active claim, or active one above both claims; whether it could be made. -/
def State.returnCc (s : State) (x : Nat) : Bool × State :=
  let y := 1 - x
  if s.ccUp y then (true, s.setClaim x (s.claim y - 1))
  else
    let r := s.raiseClaim x (max (s.claim x) (s.claim y) + 1)
    if r.1 then (true, (r.2.setFld Reg.CCX_STATUS Fld.CCX_STATUS_ACTIVE x).servicesMove) else (false, r.2)

/-- The firmware of the running slot, or the ROM's (R405, R407). -/
def State.firmware (s : State) : List Byte :=
  match s.cast.slot with
  | none => Config.romFirmware
  | some k => s.sectionBytes k 0x0001

/-- The firmware is loaded into the SRAM of complex x, 8 MiB (R10). -/
def State.loadFirmware (s : State) (x : Nat) : State :=
  { s with ccx := { s.ccx with badFirmware := Tbl.set false s.ccx.badFirmware x false
                               sram := Tbl.set [] s.ccx.sram x (s.firmware.take 8388608) } }

/-- A unit is back in service: STATE 0, masks lifted, SHADOWED cleared, timer stopped. -/
def State.unitUp (s : State) (u : Nat) : State :=
  let s := (s.setFld (Reg.FLT_UNIT u) Fld.FLT_UNIT_STATE 0).setFld (Reg.FLT_UNIT u) Fld.FLT_UNIT_SHADOWED 0
  { s with fault := { s.fault with timers := Tbl.set 0 s.fault.timers u 0, mcUe := Tbl.set false s.fault.mcUe u false
                                   rebuilt := Tbl.set false s.fault.rebuilt u false } }

/-- Heartbeats of complex x are awaited from now on. -/
def State.hbStart (s : State) (x : Nat) : State :=
  { s with ccx := { s.ccx with
      heard := Tbl.set none (Tbl.set none s.ccx.heard (hbKey x 0) (some s.clk.mono)) (hbKey x 1) (some s.clk.mono)
      sent := Tbl.set none (Tbl.set none s.ccx.sent (hbKey x 0) none) (hbKey x 1) none
      told := Tbl.set false (Tbl.set false s.ccx.told (hbKey x 0) false) (hbKey x 1) false } }

/-- RESET is accepted for unit u: STATE 2, the repair timer in place of the window (R396); an array's scrubber starts over (R102). -/
def State.startRepair (s : State) (u : Nat) : State :=
  let due := s.clk.mono + msTicks (s.fld Reg.FLT_CFG Fld.FLT_CFG_REPAIR_TIMEOUT_MS)
  let s := s.setFld (Reg.FLT_UNIT u) Fld.FLT_UNIT_STATE 2
  let s := if 288 ≤ u ∧ u < 292 then s.scrubHome (u - 288) else s
  { s with fault := { s.fault with timers := Tbl.set 0 s.fault.timers u due } }

/-- AUTO_RESTART: the active complex resets and returns the fenced standby; `ok`: the reloaded firmware matches. -/
def autoRestart (ok : Bool) (s : State) : State :=
  let x := 1 - s.activeCc
  let u := unitComplex x
  if !s.flag Reg.CCX_CTL Fld.CCX_CTL_AUTO_RESTART ∨ !s.serving ∨ s.unitState u ≠ 1 then s
  else if !ok then
    let s := s.startRepair u
    { s with ccx := { s.ccx with badFirmware := Tbl.set false s.ccx.badFirmware x true } }
  else
    let s := ((s.unitUp u).setClaim x (s.claim (1 - x) - 1)).hbStart x
    ((s.ccxBump Cnt.CCX_RESTARTS).bump (Reg.FLT_CNT Cnt.FLT_REPAIRS)).loadFirmware x

def execCcHeartbeat (x path : Fin 2) (s : State) : Out := done s (ccHeartbeat x.val path.val s)
def execCcHeartbeatTimeout (x : Fin 2) (s : State) : Out := done s (ccHeartbeatTimeout x.val s)
def execTakeover (s : State) : Out := done s (takeoverDue s)
def execSwitchOver (s : State) : Out := done s (switchOver s)
def execAutoRestart (ok : Bool) (s : State) : Out := done s (autoRestart ok s)

end Sys2Proof.Machine
end

