-- ==== Sys2Proof/Machine/Links.lean ====
section
/-! DEFINITION. Credit links (R20 to R25, R399): capacities, timeouts, returns, lost credits, resynchronisation; and the return of
a unit's links when it comes back to service (R396). -/

namespace Sys2Proof.Machine

/-- The key of a link in the state. -/
def linkKey : LinkId → Nat
  | .ingress p => lnkIngress p.val
  | .dispatch i h => lnkDispatch i.val h.val
  | .ready h => lnkReady h.val
  | .record h => lnkRecord h.val
  | .miss h => lnkMiss h.val
  | .fill h => lnkFill h.val
  | .release i q => lnkRelease i.val q.val
  | .egress p c => lnkEgress p.val c.val
  | .pool p => lnkPool p.val

/-- Code of R399 and producer's index of a link, from its key. -/
def keyCode (k : Nat) : Nat := k / 65536
def keySub (k : Nat) : Nat := k % 65536

/-- Ingress entries of a logical port in its macro's mode (R45). -/
def fifoEntries (m h : Nat) : Nat :=
  if m = 0 ∨ m = 2 then (if h = 0 then 4096 else 0)
  else if m = 1 ∨ m = 3 ∨ m = 4 then 2048
  else if m = 5 then (if h = 0 then 8192 else 0)
  else 0

/-- The consumer's capacity, which the producer's counter is set to (R22). -/
def State.linkCap (s : State) (k : Nat) : Nat :=
  let i := keySub k
  match keyCode k with
  | 1 => fifoEntries (s.mode (i / 2)) (i % 2)
  | 2 => 32
  | 3 => 4096
  | 4 => 512
  | 5 => 8192
  | 6 => 1024
  | 7 => 256
  | 8 => egressPlaces (s.mode (i / 16))
  | 9 => s.poolCount i - 16 * (s.ring i).lines
  | _ => 0

/-- Consumer and producer as fault sources (R399). -/
def linkConsumer (k : Nat) : Nat :=
  let i := keySub k
  match keyCode k with
  | 1 => srcSlice (i / 32)
  | 2 => srcShard (i % 16)
  | 7 => srcTm (i % 4)
  | 8 => srcSlice (i / 256)
  | 9 => srcBpm
  | _ => srcShard (i % 16)

def linkProducer (k : Nat) : Nat :=
  let i := keySub k
  match keyCode k with
  | 1 => srcPort (i / 2)
  | 2 => srcSlice (i / 16)
  | 6 => srcDmc 0
  | 7 => if i / 4 < 16 then srcShard (i / 4) else srcSlice (i / 4 - 16)
  | 8 => srcTm (i / 1024)
  | 9 => srcBpm
  | _ => srcShard (i % 16)

/-- The producer's sub-index in ADDR (R399): port, shard, pool, or the quadrant of a Release link. -/
def linkSub (k : Nat) : Nat :=
  let i := keySub k
  match keyCode k with
  | 2 => i % 16
  | 7 => i % 4
  | 8 => i / 8
  | _ => i

def linkAddr (k : Nat) : Nat := keyCode k * 2 ^ 44 + linkProducer k * 65536 + linkSub k

/-- The link's timeout in CLK_CORE cycles (R24). -/
def State.linkTimeout (s : State) (k : Nat) : Nat :=
  let i := keySub k
  match keyCode k with
  | 1 => s.fld (Reg.PRT_ING_CREDIT (i / 2)) Fld.PRT_ING_CREDIT_TIMEOUT
  | 2 => s.fld (Reg.SLC_DISP_TIMEOUT (i / 16)) Fld.SLC_DISP_TIMEOUT_TIMEOUT
  | 3 => s.fld (Reg.SCH_READY_LINK i) Fld.SCH_READY_LINK_TIMEOUT
  | 4 => s.fld (Reg.FAE_REC_LINK i) Fld.FAE_REC_LINK_TIMEOUT
  | 5 => s.fld (Reg.FAE_MISS_LINK i) Fld.FAE_MISS_LINK_TIMEOUT
  | 6 => s.fld (Reg.DMC_FILL_LINK 0 i) Fld.DMC_FILL_LINK_TIMEOUT
  | 7 => if i / 4 < 16 then s.fld (Reg.SCH_REL_LINK (i / 4) (i % 4)) Fld.SCH_REL_LINK_TIMEOUT
         else s.fld (Reg.SLC_PP_LINK (i / 4 - 16) (i % 4)) Fld.SLC_PP_LINK_TIMEOUT
  | 8 => s.fld (Reg.TMG_EGR_LINK (i / 1024) (i / 8 % 128)) Fld.TMG_EGR_LINK_TIMEOUT
  | 9 => s.fld (Reg.BPM_RING_LINK i) Fld.BPM_RING_LINK_TIMEOUT
  | _ => 0

/-- Units of a link's two ends; 315 where an end has none. -/
def linkUnits (k : Nat) : Nat × Nat := ((unitOf (linkProducer k)).getD 315, (unitOf (linkConsumer k)).getD 315)

/-- The consumer of a link is fenced by a lost credit (R24, R399); masked while either end is down (R394). -/
def State.linkFault (s : State) (k kind : Nat) : State :=
  let u := linkUnits k
  if s.down u.2 then s.shadow u.2
  else if s.down u.1 then s.shadow u.1
  else s.faultUnit u.2 (linkConsumer k) kind (linkAddr k)

/-- The consumer of a link is holding now (R23): it lacks credit, or room behind it, to free an entry; it is a DMC that changes its
frequency; or it is an egress FIFO whose head may not start. -/
def State.linkHolds (s : State) (k : Nat) : Bool :=
  let i := keySub k
  match keyCode k with
  | 1 => s.sliceHolds i
  | 2 =>
    match s.inputHead (i % 16) (i / 16) with
    | none => false
    | some it => (s.inputLacks (i % 16) it).isSome
  | 4 => (s.shard i).entryWait != [] && s.credit (lnkMiss i) == 0
  | 5 => !s.dmcReady || s.credit (lnkFill i) == 0
  | 9 => !s.dmcReady
  | 8 =>
    let p := i / 8
    match s.egrHead p (i % 8) with
    | none => false
    | some c => !s.portEnabled p || s.stoppedCls p (i % 8) || !s.gateLets p (i % 8) c
  | _ => false

/-- CREDIT_RETURN: one freed entry's credit comes back; one beyond the capacity is an overrun, and is ignored. -/
def creditReturn (k : Nat) (s : State) : State :=
  let l := s.link k
  let cap := s.linkCap k
  if l.stage ≠ .up then s
  else if cap ≤ l.credit then s.linkFault k 0x011
  else if l.owed = 0 then s
  else
    s.setLink k { l with credit := l.credit + 1, owed := l.owed - 1, lastReturn := s.clk.mono
                         since := if l.credit + 1 = cap then none else l.since }

/-- MONO from which a link's producer counts its timeout (R24): its last credit returned, or the first unit sent since, and never
before the consumer was last holding. -/
def Link.quietSince (l : Link) (t : Nat) : Nat := max (max t l.lastReturn) l.heldAt

/-- CREDIT_TIMEOUT: credits are outstanding, none has come back within the timeout, the consumer was at no time holding; `held`: a
hold of which the state holds no trace. The timer of a link that a fence stopped runs on once, masked (R394). -/
def creditTimeout (k : Nat) (held : Bool) (s : State) : State :=
  let l := s.link k
  match l.since with
  | none => s
  | some t =>
    let s' := s.setLink k { l with since := none }
    if held = true ∨ s.linkHolds k = true ∨ 2 * (s.clk.mono - l.quietSince t) < s.linkTimeout k then s
    else if l.stage = .up then
      if s.linkCap k ≤ l.credit then s else s'.linkFault k 0x010
    else if s.down (linkUnits k).2 then s'.shadow (linkUnits k).2
    else if s.down (linkUnits k).1 then s'.shadow (linkUnits k).1
    else s

/-- The items in a shard's crossbar input from slice j are discarded. -/
def State.emptyInput (s : State) (h j : Nat) : State :=
  let x := s.shard h
  forEach (Tbl.get [] x.inputs j) (fun it t => t.fenceItem h it) (s.setShard h { x with inputs := Tbl.set [] x.inputs j [] })

/-- The descriptors in Release input j of TM q are discarded. -/
def State.emptyRelease (s : State) (q j : Nat) : State :=
  let n := 32 * q + j
  forEach (Tbl.get [] s.tm.relIn n) (fun d t =>
    let t := (t.tmgBump q Cnt.TMG_FENCE_DISCARD).release d.cellHead d.cellCnt
    if 16 ≤ d.src then t.drainSub (d.src - 16) d.gen else t)
    { s with tm := { s.tm with relIn := Tbl.set [] s.tm.relIn n [] } }

/-- The consumer empties the link's input queue and counts fence discards (R25, step 2). The queues of the Ready, Record, Miss and
Fill links lie inside one shard, whose work goes with them; a Pool link's ring holds pointers, which are no queued units. -/
def State.emptyLink (s : State) (k : Nat) : State :=
  let i := keySub k
  match keyCode k with
  | 1 => s.discardIngress (unitSlice (sliceOf i)) i
  | 2 => s.emptyInput (i % 16) (i / 16)
  | 3 => s.discardShard i
  | 4 => s.discardShard i
  | 5 => s.discardShard i
  | 6 => s.discardShard i
  | 7 => s.emptyRelease (i % 4) (i / 4)
  | 8 => s.discardClass (unitSlice (sliceOf (i / 8))) (i / 8) (i % 8)
  | _ => s

/-- CREDIT_RESYNC: the consumer's message with its capacity reaches a stopped producer. -/
def creditResync (k : Nat) (s : State) : State :=
  let u := linkUnits k
  if (s.link k).stage ≠ .stopped ∨ s.down u.1 ∨ s.down u.2 then s
  else
    let s := s.emptyLink k
    s.setLink k { credit := s.linkCap k, owed := 0, stage := .loaded, lastReturn := s.clk.mono, since := none
                  heldAt := (s.link k).heldAt }

/-- CREDIT_RESYNC_ACK: the producer's acknowledgement. -/
def creditResyncAck (k : Nat) (s : State) : State :=
  let l := s.link k
  if l.stage ≠ .loaded then s else s.setLink k { l with stage := .up, lastReturn := s.clk.mono }

/-- Every boundary link of a unit whose other end is in service is resynchronised (R396). -/
def State.resyncUnit (s : State) (u : Nat) : State :=
  forEach (unitLinks u) (fun k t => creditResyncAck k (creditResync k (t.stopLink k))) s

def execCreditReturn (k : LinkId) (s : State) : Out := done s (creditReturn (linkKey k) s)
def execCreditTimeout (k : LinkId) (held : Bool) (s : State) : Out := done s (creditTimeout (linkKey k) held s)
def execCreditResync (k : LinkId) (s : State) : Out := done s (creditResync (linkKey k) s)
def execCreditResyncAck (k : LinkId) (s : State) : Out := done s (creditResyncAck (linkKey k) s)

end Sys2Proof.Machine
end

