-- ==== Sys2Proof/Machine/Tod.lean ====
section
/-! DEFINITION. The time-of-day unit: its tick (R52, R53), its commands (R54 to R57) and the PPS pins (R62, R63). -/

namespace Sys2Proof.Machine

/-- The increment of the next tick: the slew's while it has ticks left, else the base increment (R54, R55). -/
def Clock.increment (c : Clock) : Nat × Nat :=
  if c.slewOn && decide (0 < c.slewLeft) then (c.slewNs, c.slewFrac) else (c.incNs, c.incFrac)

/-- One CLK_TICK (R52, R53); nothing counts while PLL_MAIN is stopped (R429). -/
def Clock.tick (c : Clock) : Clock :=
  if c.running then
    let f := c.frac + c.increment.2
    let n := c.ns + c.increment.1 + f / 4294967296
    let wrap := decide (1000000000 ≤ n)
    { c with
      frac := f % 4294967296
      ns := if wrap then n - 1000000000 else n
      sec := if wrap then (c.sec + 1) % 2 ^ 48 else c.sec
      mono := (c.mono + 1) % 2 ^ 64
      slewLeft := c.slewLeft - 1
      carryAt := if wrap && !c.ppsEarly then some ((c.mono + 1) % 2 ^ 64) else c.carryAt
      ppsEarly := c.ppsEarly && !wrap }
  else c

/-- An increment within 1.125 ns to 1.375 ns, bounds included (R52). -/
def incInRange (ns frac : Nat) : Bool :=
  decide (0x120000000 ≤ ns * 4294967296 + frac) && decide (ns * 4294967296 + frac ≤ 0x160000000)

/-- Raises a bit of TOD.STATUS. -/
def State.todFlag (s : State) (f : Fld) : State := s.setFld Reg.TOD_STATUS f 1

/-- A rejected command sets CMD_REJ and changes nothing (R54). -/
def State.todReject (s : State) : State := s.todFlag Fld.TOD_STATUS_CMD_REJ

/-- A PPS_LOAD is armed or a slew is active (R54). -/
def Clock.busy (c : Clock) : Bool := c.loadArmed || c.slewOn

/-- The TOD unit is fenced, so that it rejects every command (R393). -/
def State.todDown (s : State) : Bool := s.down unitTod

/-- TOD takes a new value at the tick boundary: STEP_DONE, and a pending gate list whose time has come takes over (R56).
Nanoseconds of 10^9 or more, which SET_NS may hold by the edge of a PPS_LOAD, are reduced into the seconds as in R52 (assumption log 50). -/
def State.todStep (s : State) (sec ns frac : Nat) : State :=
  let t := { s with clk := { s.clk with sec := (sec + ns / 1000000000) % 2 ^ 48, ns := ns % 1000000000, frac := frac } }
  (t.todFlag Fld.TOD_STATUS_STEP_DONE).gateTakeovers

/-- A steering event (R57). -/
def State.steer (s : State) : State :=
  { s with clk := { s.clk with lastSteer := s.clk.mono } }

/-- SET_SEC, SET_NS.NS and SET_NS.FRAC. -/
def State.setTime (s : State) : Nat × Nat × Nat :=
  (s.fld Reg.TOD_SET_SEC Fld.TOD_SET_SEC_SEC, s.fld Reg.TOD_SET_NS Fld.TOD_SET_NS_NS,
   s.fld Reg.TOD_SET_NS Fld.TOD_SET_NS_FRAC)

/-- CAPTURE (R54). -/
def todCapture (s : State) : State :=
  if s.todDown then s.todReject
  else
    let s := s.setFld Reg.TOD_CAP_SEC Fld.TOD_CAP_SEC_SEC s.clk.sec
    let s := s.setFld Reg.TOD_CAP_NS Fld.TOD_CAP_NS_FRAC s.clk.frac
    let s := s.setFld Reg.TOD_CAP_NS Fld.TOD_CAP_NS_NS s.clk.ns
    s.setFld Reg.TOD_CAP_MONO Fld.TOD_CAP_MONO_MONO s.clk.mono

/-- STEP_SET (R54, R56, R57). -/
def todStepSet (s : State) : State :=
  let v := s.setTime
  if s.todDown ∨ s.clk.busy ∨ 1000000000 ≤ v.2.1 then s.todReject
  else s.steer.todStep v.1 v.2.1 v.2.2

/-- STEP_ADD (R54, R56, R57): the signed offset in nanoseconds. -/
def todStepAdd (s : State) : State :=
  let x : Int := (s.clk.nanos : Int) + signed 48 (s.fld Reg.TOD_OFFSET Fld.TOD_OFFSET_OFFSET_NS)
  if s.todDown ∨ s.clk.busy ∨ x < 0 then s.todReject
  else s.steer.todStep ((x.toNat / 1000000000) % 2 ^ 48) (x.toNat % 1000000000) s.clk.frac

/-- PPS_LOAD (R54, R57). -/
def todPpsLoad (s : State) : State :=
  if s.todDown ∨ s.clk.busy ∨ 1000000000 ≤ s.setTime.2.1 then s.todReject
  else { s.steer with clk := { s.steer.clk with loadArmed := true } }

/-- SLEW (R54, R57). -/
def todSlew (s : State) : State :=
  let n := s.fld Reg.TOD_SLEW_INC Fld.TOD_SLEW_INC_NS
  let f := s.fld Reg.TOD_SLEW_INC Fld.TOD_SLEW_INC_FRAC
  let k := s.fld Reg.TOD_SLEW_CNT Fld.TOD_SLEW_CNT_TICKS
  if s.todDown ∨ s.clk.busy ∨ s.clk.holdover ∨ !incInRange n f ∨ k = 0 then s.todReject
  else
    let s := s.steer
    { s with clk := { s.clk with slewOn := true, slewLeft := k, slewNs := n, slewFrac := f } }

/-- CANCEL (R54): a pending PPS_LOAD is disarmed, a slew ends at once. -/
def todCancel (s : State) : State :=
  if s.todDown then s.todReject
  else { s with clk := { s.clk with loadArmed := false, slewOn := false, slewLeft := 0 } }

/-- The reserved command 0b110 (R54). -/
def todReserved (s : State) : State := s.todReject

/-- SLEW_CNT ticks have passed: the base increment applies again (R54). -/
def todSlewEnd (s : State) : State :=
  if s.clk.slewOn ∧ s.clk.slewLeft = 0 then { s with clk := { s.clk with slewOn := false } } else s

/-- A write of TOD.INCR (R52, R55, R57). -/
def todIncrWrite (v : Word64) (s : State) : State :=
  let n := v.get Fld.TOD_INCR_INC_NS
  let f := v.get Fld.TOD_INCR_INC_FRAC
  if incInRange n f then
    let t := (s.setFld Reg.TOD_INCR Fld.TOD_INCR_INC_NS n).setFld Reg.TOD_INCR Fld.TOD_INCR_INC_FRAC f
    { t.steer with clk := { t.steer.clk with incNs := n, incFrac := f, holdover := false } }
  else s.todFlag Fld.TOD_STATUS_INCR_ERR

/-- HOLDOVER is set: any slew ends, any armed load is disarmed (R57). -/
def State.enterHold (s : State) : State :=
  { s with clk := { s.clk with holdover := true, slewOn := false, slewLeft := 0, loadArmed := false } }

/-- HOLD_TIMEOUT is non-zero and has passed since the last steering event (R57). -/
def State.holdExpired (s : State) : Bool :=
  let ms := s.fld Reg.TOD_HOLD_TIMEOUT Fld.TOD_HOLD_TIMEOUT_MS
  decide (0 < ms) && decide (msTicks ms ≤ s.clk.mono - s.clk.lastSteer)

/-- A write of TOD.HOLD_TIMEOUT (R57). -/
def todHoldTimeoutWrite (v : Word64) (s : State) : State :=
  let t := s.setFld Reg.TOD_HOLD_TIMEOUT Fld.TOD_HOLD_TIMEOUT_MS (v.get Fld.TOD_HOLD_TIMEOUT_MS)
  if t.holdExpired then t.enterHold else t

/-- HOLD_TIMEOUT milliseconds without steering (R57). -/
def todHoldover (s : State) : State := if s.holdExpired then s.enterHold else s

/-- Less than 500 ms have passed since the last accepted edge (R63). -/
def Clock.ppsTooSoon (c : Clock) : Bool :=
  match c.lastPps with
  | none => false
  | some m => decide (c.mono - m < msTicks 500)

/-- An armed PPS_LOAD takes effect (R54, R63). -/
def State.ppsLoadNow (s : State) : State :=
  if s.clk.loadArmed then s.todStep s.setTime.1 s.setTime.2.1 s.setTime.2.2 else s

/-- An edge is accepted: no load is armed any more, PPS_IN_LOST clears. -/
def State.ppsAccept (s : State) : State :=
  { s with clk := { s.clk with loadArmed := false, lastPps := some s.clk.mono, ppsLost := false } }

/-- TOD and MONO at the edge go to PPS_CAP (R63). -/
def State.ppsCapture (s : State) : State :=
  (((s.setFld Reg.TOD_PPS_CAP_SEC Fld.TOD_PPS_CAP_SEC_SEC s.clk.sec).setFld Reg.TOD_PPS_CAP_NS Fld.TOD_PPS_CAP_NS_FRAC
    s.clk.frac).setFld Reg.TOD_PPS_CAP_NS Fld.TOD_PPS_CAP_NS_NS s.clk.ns).setFld Reg.TOD_PPS_CAP_MONO Fld.TOD_PPS_CAP_MONO_MONO
    s.clk.mono

/-- A rising edge on PPS_IN that stays high for `high` nanoseconds (R63). -/
def ppsInEdge (high : Nat) (s : State) : State :=
  if !s.flag Reg.TOD_CTL Fld.TOD_CTL_PPS_IN_EN ∨ high < 100 ∨ s.clk.ppsTooSoon then s
  else s.ppsLoadNow.ppsAccept.ppsCapture.todFlag Fld.TOD_STATUS_PPS_IN_EVT

/-- 1.1 s without an accepted edge (R63); before the first edge the time counts from MONO 0 (assumption log 22). -/
def ppsInLost (s : State) : State :=
  if s.flag Reg.TOD_CTL Fld.TOD_CTL_PPS_IN_EN ∧ msTicks 1100 ≤ s.clk.mono - s.clk.lastPps.getD 0 then
    { s with clk := { s.clk with ppsLost := true } }
  else s

/-- PPS_OUT.ADJ in ticks, rounded to the nearest (R62): ADJ counts 2^-8 ns, a tick is 320 of them. -/
def State.ppsShift (s : State) : Int :=
  (signed 24 (s.fld Reg.TOD_PPS_OUT Fld.TOD_PPS_OUT_ADJ) + 160) / 320

/-- Ticks until the next seconds carry at the increment in force (R52). -/
def Clock.ticksToCarry (c : Clock) : Nat :=
  let step := c.increment.1 * 4294967296 + c.increment.2
  (1000000000 * 4294967296 - (c.ns * 4294967296 + c.frac) + step - 1) / step

/-- MONO of the seconds carry that PPS_OUT shows next: one that has passed and has not been shown, else, where ADJ is negative, the
coming one, unless its edge has gone out already. -/
def State.ppsCarry (s : State) : Option Nat :=
  match s.clk.carryAt with
  | some m => some m
  | none =>
    let m := s.clk.mono + s.clk.ticksToCarry
    if s.ppsShift < 0 ∧ s.clk.ppsEarly = false then some m else none

/-- With PPS_OUT_EN 0 the pin is held low, and a carry that passes meanwhile gives no pulse (R62). -/
def State.ppsHold (s : State) : State :=
  if s.flag Reg.TOD_CTL Fld.TOD_CTL_PPS_OUT_EN then s else { s with clk := { s.clk with ppsOut := false, carryAt := none } }

/-- PPS_OUT rises at a seconds carry, shifted by ADJ (R62): before the carry where ADJ is negative. It stays high for its width from
the tick of its rise. -/
def ppsOutPulse (s : State) : State :=
  match s.ppsCarry with
  | none => s
  | some m =>
    if s.flag Reg.TOD_CTL Fld.TOD_CTL_PPS_OUT_EN ∧ (m : Int) + s.ppsShift ≤ s.clk.mono then
      { s with clk := { s.clk with carryAt := none, ppsOut := true, ppsRise := s.clk.mono, ppsEarly := s.clk.carryAt.isNone } }
    else s

/-- PPS_OUT falls after WIDTH_US microseconds (R62). -/
def ppsOutFall (s : State) : State :=
  if s.clk.ppsOut ∧ s.clk.ppsRise + usTicks (s.fld Reg.TOD_PPS_OUT Fld.TOD_PPS_OUT_WIDTH_US) ≤ s.clk.mono then
    { s with clk := { s.clk with ppsOut := false } }
  else s

def execCapture (s : State) : Out := doneClk s (todCapture s)
def execStepSet (s : State) : Out := doneClk s (todStepSet s)
def execStepAdd (s : State) : Out := doneClk s (todStepAdd s)
def execPpsLoad (s : State) : Out := doneClk s (todPpsLoad s)
def execSlew (s : State) : Out := doneClk s (todSlew s)
def execTodCancel (s : State) : Out := doneClk s (todCancel s)
def execTodReservedCmd (s : State) : Out := doneClk s (todReserved s)
def execSlewEnd (s : State) : Out := doneClk s (todSlewEnd s)
def execIncrWrite (v : Word64) (s : State) : Out := doneClk s (todIncrWrite v s)
def execHoldTimeoutWrite (v : Word64) (s : State) : Out := doneClk s (todHoldTimeoutWrite v s)
def execEnterHold (s : State) : Out := doneClk s s.enterHold
def execHoldover (s : State) : Out := doneClk s (todHoldover s)
def execPpsInEdge (high : Nat) (s : State) : Out := doneClk s (ppsInEdge high s)
def execPpsInLost (s : State) : Out := doneClk s (ppsInLost s)
def execPpsOutPulse (s : State) : Out := doneClk s (ppsOutPulse s)
def execPpsOutFall (s : State) : Out := doneClk s (ppsOutFall s)

end Sys2Proof.Machine
end

