-- ==== Sys2Proof/Machine/Cycles.lean ====
section
/-! DEFINITION. What a tick of CLK_TICK adds to the counters of waiting cycles: two CLK_CORE cycles (R428) to each whose
condition holds. -/

namespace Sys2Proof.Machine

/-- Two cycles in counter `a` where `c` holds. -/
def State.countTick (s : State) (c : Bool) (a : Nat) : State := if c then s.bumpBy a 2 else s

/-- A fill of the shard waits for room in the eviction buffer (R128). -/
def State.evbBlocks (s : State) (h : Nat) : Bool :=
  (s.shard h).entries.any (fun e =>
    match e.stage with
    | .fetched _ words _ _ =>
      e.queue != [] && !s.noVictim h e.h (recLong words) && (s.makeRoom h e.h (recLong words) []).1.isNone
    | _ => false)

/-- The waiting cycles of shard h: its inputs (R152), the resume queue (R163), each thread that stalls for a park buffer (R164),
record entries (R127) and the eviction buffer (R128). -/
def State.tickShard (s : State) (h : Nat) : State :=
  if !s.shardUp h then s
  else
    let x := s.shard h
    let lacks := (List.range 17).flatMap (fun i => match s.inputHead h i with | none => [] | some it => s.inputWants h it)
    let parks := (x.threads.filter (fun t => match t.2.read with | .park _ => true | _ => false)).length
    ((((((s.countTick (lacks.contains Fld.SCH_STATUS_WINDOW_HOLD) (Reg.SCH_CNT h Cnt.SCH_WINDOW_HOLD_CYCLES)).countTick
      (lacks.contains Fld.SCH_STATUS_REORDER_FULL) (Reg.SCH_CNT h Cnt.SCH_REORDER_FULL_CYCLES)).countTick
      (lacks.contains Fld.SCH_STATUS_READY_FULL) (Reg.SCH_CNT h Cnt.SCH_READY_FULL_CYCLES)).countTick
      (decide (1024 ≤ (x.parked.filter (fun p => p.outcome.isSome)).length)) (Reg.SCH_CNT h Cnt.SCH_RESUME_FULL_CYCLES)).bumpBy
      (Reg.SCH_CNT h Cnt.SCH_PARK_STALL_CYCLES) (2 * parks)).countTick
      (x.entryWait != []) (Reg.HNK_CNT h Cnt.HNK_ENTRY_FULL_CYCLES)).countTick
      (s.evbBlocks h) (Reg.HNK_CNT h Cnt.HNK_EVB_FULL_CYCLES)

/-- A foreground request of subchannel k waits because its queue is full (R259). -/
def State.fgWaits (s : State) (k : Nat) : Bool :=
  let x := Tbl.get DmcSub.init s.dram.subs k
  x.heads.any (s.queueFull x)

/-- Requests that wait for a refill of a cache (R282). -/
def State.cacheWaits (s : State) (c : PoolCache) : Nat := if c.free.any s.ptrOn then 0 else (c.asks.filter s.askLive).length

/-- What one tick adds to every counter of waiting cycles. -/
def State.tickCounts (s : State) : State :=
  let s : State := forEach (s.shards.map (fun e => e.1)) (fun h t => t.tickShard h) s
  let s : State := forEach (s.dram.subs.map (fun e => e.1)) (fun k t =>
    t.countTick (t.fgWaits k) (Reg.DMC_CNT (k / 2) Cnt.DMC_FG_WAIT_CYCLES)) s
  let s := s.bumpBy (Reg.BPM_CNT Cnt.BPM_CACHE_WAIT_CYCLES) (2 * (s.pools.caches.map (fun e => s.cacheWaits e.2)).sum)
  let s : State := forUpTo 4 (fun q t =>
    t.countTick (Tbl.get none t.tm.hostWait q).isSome (Reg.TMG_CNT q Cnt.TMG_HOST_POOL_WAIT_CYCLES)) s
  s.countTick s.hif.txWait.isSome (Reg.HIF_CNT Cnt.HIF_TX_POOL_WAIT_CYCLES)

/-- A tick of time passes while the consumers of these links are holding (R24). -/
def State.noteHolds (s : State) : State :=
  let l := s.links.map (fun e =>
    if e.2.since.isSome && s.linkHolds e.1 then (e.1, { e.2 with heldAt := s.clk.tick.mono }) else e)
  { s with links := l }

/-- A tick with no command (R52): the clocks advance, the counters of waiting cycles count, and what held a link is noted (R24). -/
def idleTick (s : State) : State := { s.tickCounts.noteHolds with clk := s.clk.tick }

end Sys2Proof.Machine
end

