-- ==== Sys2Proof/Machine/Ranges.lean ====
section
/-! DEFINITION. The value ranges of register fields: what a register may hold, whether a host or the image writes it (a host
write outside is discarded, R7 and the register tables; an image value outside is refused with REG_VALUE, R349), and the CFG_ERR
bit of each block. -/

namespace Sys2Proof.Machine

/-- The blocks of R456 and R457. -/
inductive Blk where
  | glb | cst | flt | tod | hif | lop | pmu | ccx | twn | bpm | dmc | prt | slc | tmb | hnk | sch | fae | wrd | tmg | tmgSch | buf | mcs
  deriving DecidableEq, Repr

/-- The block and the instance that hold an address. -/
def blkOf (a : Nat) : Option (Blk × Nat) :=
  if a < 0x10000 then some (.glb, 0)
  else if a < 0x20000 then some (.cst, 0)
  else if a < 0x30000 then some (.flt, 0)
  else if a < 0x40000 then some (.tod, 0)
  else if a < 0x50000 then some (.hif, 0)
  else if a < 0x60000 then some (.lop, 0)
  else if a < 0x70000 then some (.pmu, 0)
  else if a < 0x80000 then some (.ccx, 0)
  else if a < 0x90000 then some (.twn, 0)
  else if a < 0xA0000 then some (.bpm, 0)
  else if a < 0x100000 then none
  else if a < 0x1C0000 then some (.dmc, (a - 0x100000) / 0x10000)
  else if a < 0x1000000 then none
  else if a < 0x1100000 then some (.prt, (a - 0x1000000) / 0x1000)
  else if a < 0x2000000 then none
  else if a < 0x3000000 then some (.slc, (a - 0x2000000) / 0x100000)
  else if a < 0x4000000 then some (.tmb, (a - 0x3000000) / 0x400000)
  else if a < 0x5000000 then
    let o := a % 0x100000
    let h := (a - 0x4000000) / 0x100000
    if o < 0x1000 then some (.hnk, h) else if o < 0x2000 then some (.sch, h) else if o < 0x4000 then some (.fae, h)
    else if o < 0x10000 then some (.wrd, h) else none
  else if a < 0x6000000 then
    let q := (a - 0x5000000) / 0x400000
    if a % 0x400000 < 0x40000 then some (.tmg, q) else some (.tmgSch, q)
  else if a < 0x7000000 then some (.buf, 0)
  else if 0x8000000 ≤ a ∧ a < 0x8080008 then some (.mcs, 0)
  else none

/-- The register that reports a discarded write, and its bit. -/
def cfgErrAt : Blk × Nat → Option (Nat × Fld)
  | (.flt, _) => some (Reg.FLT_STATUS, Fld.FLT_STATUS_CFG_ERR)
  | (.hif, _) => some (Reg.HIF_STATUS, Fld.HIF_STATUS_CFG_ERR)
  | (.lop, _) => some (Reg.LOP_SUMMARY, Fld.LOP_SUMMARY_ERR)
  | (.pmu, _) => some (Reg.PMU_STATUS, Fld.PMU_STATUS_CFG_ERR)
  | (.ccx, _) => some (Reg.CCX_STATUS, Fld.CCX_STATUS_CFG_ERR)
  | (.twn, _) => some (Reg.TWN_STATUS, Fld.TWN_STATUS_CFG_ERR)
  | (.bpm, _) => some (Reg.BPM_STATUS, Fld.BPM_STATUS_CFG_ERR)
  | (.dmc, c) => some (Reg.DMC_STATUS c, Fld.DMC_STATUS_CFG_ERR)
  | (.prt, n) => some (Reg.PRT_STATUS n, Fld.PRT_STATUS_CFG_ERR)
  | (.slc, i) => some (Reg.SLC_STATUS i, Fld.SLC_STATUS_CFG_ERR)
  | (.tmb, q) => some (Reg.TMB_STATUS q, Fld.TMB_STATUS_CFG_ERR)
  | (.hnk, h) => some (Reg.HNK_STATUS h, Fld.HNK_STATUS_CFG_ERR)
  | (.sch, h) => some (Reg.SCH_STATUS h, Fld.SCH_STATUS_CFG_ERR)
  | (.fae, h) => some (Reg.FAE_STATUS h, Fld.FAE_STATUS_CFG_ERR)
  | (.wrd, h) => some (Reg.WRD_STATUS h, Fld.WRD_STATUS_CFG_ERR)
  | (.tmg, q) => some (Reg.TMG_STATUS q, Fld.TMG_STATUS_CFG_ERR)
  | (.tmgSch, q) => some (Reg.TMG_SCH_STATUS q, Fld.TMG_SCH_STATUS_CFG_ERR)
  | (.buf, _) => some (Reg.BUF_STATUS, Fld.BUF_STATUS_CFG_ERR)
  | (.glb, _) | (.cst, _) | (.tod, _) | (.mcs, _) => none

/-- CFG_ERR of the block that holds an address. -/
def State.cfgErr (s : State) (a : Nat) : State :=
  match (blkOf a).bind cfgErrAt with
  | none => s
  | some (r, f) => s.setFld r f 1

/-- The element of an array of registers that an address names. -/
def elemOf (base stride n a : Nat) : Option Nat :=
  if base ≤ a ∧ (a - base) % stride = 0 ∧ (a - base) / stride < n then some ((a - base) / stride) else none

def inArr (base stride n a : Nat) : Bool := (elemOf base stride n a).isSome

/-- Low to high, both allowed. -/
def between (lo x hi : Nat) : Bool := decide (lo ≤ x) && decide (x ≤ hi)

/-- A link timeout (R24). -/
def timeoutOk (w : Word64) (f : Fld) : Bool := decide (1024 ≤ w.get f)

/-- A deadline budget (R156). -/
def budgetOk (x : Nat) : Bool := between 400 x 40000

def prtValueOk (n a : Nat) (w : Word64) : Bool :=
  if a = Reg.PRT_ING_CREDIT n then timeoutOk w Fld.PRT_ING_CREDIT_TIMEOUT
  else if a = Reg.PRT_MTU n 0 ∨ a = Reg.PRT_MTU n 1 then between 64 (w.get Fld.PRT_MTU_MAX_FRAME) 9216
  else if a = Reg.PRT_FC_CTL n 0 ∨ a = Reg.PRT_FC_CTL n 1 then decide (w.get Fld.PRT_FC_CTL_POLICY ≠ 3)
  else true

def slcValueOk (i a : Nat) (w : Word64) : Bool :=
  if a = Reg.SLC_DISP_TIMEOUT i then timeoutOk w Fld.SLC_DISP_TIMEOUT_TIMEOUT
  else if inArr (Reg.SLC_PP_LINK i 0) 8 4 a then timeoutOk w Fld.SLC_PP_LINK_TIMEOUT
  else if a = Reg.SLC_HASH_CTL i then between 12 (w.get Fld.SLC_HASH_CTL_BUCKET_BITS) 22
  else if a = Reg.SLC_MAC_AGE i then
    between 1 (w.get Fld.SLC_MAC_AGE_LIMIT) 1073741824 && decide (1 ≤ w.get Fld.SLC_MAC_AGE_SWEEP_PERIOD_MS)
  else if a = Reg.SLC_MAC_MOVE i then
    between 1 (w.get Fld.SLC_MAC_MOVE_LIMIT) 31 && between 1 (w.get Fld.SLC_MAC_MOVE_HOLD_S) 2047
  else if inArr (Reg.SLC_POL_RATE i 0) 0x40 256 a then
    decide (w.get Fld.SLC_POL_RATE_CIR ≤ w.get Fld.SLC_POL_RATE_PIR)
  else if inArr (Reg.SLC_POL_BURST i 0) 0x40 256 a then
    decide (w.get Fld.SLC_POL_BURST_CBS ≤ w.get Fld.SLC_POL_BURST_PBS)
  else true

def hnkValueOk (h a : Nat) (w : Word64) : Bool :=
  if a = Reg.HNK_CFG h then
    between 12 (w.get Fld.HNK_CFG_BUCKET_BITS) 22 && decide (w.get Fld.HNK_CFG_PIN_LIMIT ≤ 6)
  else if a = Reg.HNK_SWEEP_CFG h then decide (1 ≤ w.get Fld.HNK_SWEEP_CFG_SWEEP_PERIOD_MS)
  else if inArr (Reg.HNK_AGE_LIMIT h 0) 8 16 a then between 1 (w.get Fld.HNK_AGE_LIMIT_LIMIT) 1073741824
  else true

def schValueOk (h a : Nat) (w : Word64) : Bool :=
  if a = Reg.SCH_READY_LINK h then timeoutOk w Fld.SCH_READY_LINK_TIMEOUT
  else if inArr (Reg.SCH_REL_LINK h 0) 8 4 a then timeoutOk w Fld.SCH_REL_LINK_TIMEOUT
  else if a = Reg.SCH_AGE_CTL h then budgetOk (w.get Fld.SCH_AGE_CTL_BUDGET)
  else if inArr (Reg.SCH_CLASS h 0) 8 64 a then
    budgetOk (w.get Fld.SCH_CLASS_BUDGET) && decide (w.get Fld.SCH_CLASS_MISS_DISP ≠ 3) && decide (w.get Fld.SCH_CLASS_FALLBACK ≠ 3)
  else true

def faeValueOk (h a : Nat) (w : Word64) : Bool :=
  if a = Reg.FAE_REC_LINK h then timeoutOk w Fld.FAE_REC_LINK_TIMEOUT
  else if a = Reg.FAE_MISS_LINK h then timeoutOk w Fld.FAE_MISS_LINK_TIMEOUT
  else true

/-- TABLE_CFG: the encodings that R112 refuses. -/
def tmbValueOk (q a : Nat) (w : Word64) : Bool :=
  if inArr (Reg.TMB_TABLE_CFG q 0) 8 16 a then
    decide (w.get Fld.TMB_TABLE_CFG_WIDTH ≠ 3) && decide (w.get Fld.TMB_TABLE_CFG_KIND ≤ 3)
      && decide (w.get Fld.TMB_TABLE_CFG_FIRST_BANK ≤ w.get Fld.TMB_TABLE_CFG_LAST_BANK)
  else true

def dmcValueOk (c a : Nat) (w : Word64) : Bool :=
  if a = Reg.DMC_POP c then decide (w.get Fld.DMC_POP_DIMMS ≤ 2) && decide (w.get Fld.DMC_POP_RANKS_PER_DIMM ≠ 3)
  else if a = Reg.DMC_SCHED c then
    between 1 (w.get Fld.DMC_SCHED_WQ_HIGH) 127 && decide (w.get Fld.DMC_SCHED_WQ_LOW < w.get Fld.DMC_SCHED_WQ_HIGH)
  else if a = Reg.DMC_SCRUB c then decide (64 ≤ w.get Fld.DMC_SCRUB_INTERVAL_NS)
  else if c = 0 ∧ inArr (Reg.DMC_FILL_LINK 0 0) 8 16 a = true then timeoutOk w Fld.DMC_FILL_LINK_TIMEOUT
  else true

def tmgValueOk (q a : Nat) (w : Word64) : Bool :=
  if inArr (Reg.TMG_WRED_TH q 0) 16 16 a then decide (w.get Fld.TMG_WRED_TH_MIN_TH ≤ w.get Fld.TMG_WRED_TH_MAX_TH)
  else if inArr (Reg.TMG_QCFG0 q 0) 0x80 656 a then decide (w.get Fld.TMG_QCFG0_Q_MIN ≤ w.get Fld.TMG_QCFG0_Q_MAX)
  else if inArr (Reg.TMG_QCFG1 q 0) 0x80 656 a then !between 12 (w.get Fld.TMG_QCFG1_ALPHA) 14
  else true

/-- A shaper's RATE is at least 1 where it is enabled (R320). -/
def tmgSchValueOk (q a : Nat) (w : Word64) : Bool :=
  if a = Reg.TMG_GAUGE_CTL q then decide (w.get Fld.TMG_GAUGE_CTL_PERIOD_US ≤ 1000000)
  else if inArr (Reg.TMG_PSHAPE_RATE q 0) 0x40 128 a then
    w.get Fld.TMG_PSHAPE_RATE_EN == 0 || decide (1 ≤ w.get Fld.TMG_PSHAPE_RATE_RATE)
  else if inArr (Reg.TMG_PSHAPE_BURST q 0) 0x40 128 a then decide (1 ≤ w.get Fld.TMG_PSHAPE_BURST_BURST)
  else if inArr (Reg.TMG_EGR_LINK q 0) 0x40 128 a then timeoutOk w Fld.TMG_EGR_LINK_TIMEOUT
  else if inArr (Reg.TMG_QSHAPE_RATE q 0) 0x40 656 a then
    w.get Fld.TMG_QSHAPE_RATE_EN == 0 || decide (1 ≤ w.get Fld.TMG_QSHAPE_RATE_RATE)
  else if inArr (Reg.TMG_QSHAPE_BURST q 0) 0x40 656 a then decide (1 ≤ w.get Fld.TMG_QSHAPE_BURST_BURST)
  else true

def bufValueOk (a : Nat) (w : Word64) : Bool :=
  if a = Reg.BUF_CFG then between 18432 (w.get Fld.BUF_CFG_ING_GUARD) 1048576
  else if a = Reg.BUF_MIRROR then decide (w.get Fld.BUF_MIRROR_TRUNC ≠ 3)
  else true

def bpmValueOk (a : Nat) (w : Word64) : Bool :=
  if inArr (Reg.BPM_RING_LINK 0) 0x40 4 a then timeoutOk w Fld.BPM_RING_LINK_TIMEOUT else true

def todValueOk (a : Nat) (w : Word64) : Bool :=
  if a = Reg.TOD_PPS_OUT then between 1 (w.get Fld.TOD_PPS_OUT_WIDTH_US) 500000 else true

def fltValueOk (a : Nat) (w : Word64) : Bool :=
  if a = Reg.FLT_CFG then
    between 100 (w.get Fld.FLT_CFG_ESC_WINDOW_US) 10000000 && between 1 (w.get Fld.FLT_CFG_REPAIR_TIMEOUT_MS) 60000
  else if a = Reg.FLT_INJECT then decide (w.get Fld.FLT_INJECT_CLASS ≠ 3)
  else true

def ccxValueOk (a : Nat) (w : Word64) : Bool :=
  if a = Reg.CCX_CFG then
    let p := w.get Fld.CCX_CFG_HB_PERIOD_US
    between 1 p 1000 && between (4 * p) (w.get Fld.CCX_CFG_HB_TIMEOUT_US) 100000 && decide (1 ≤ w.get Fld.CCX_CFG_TAKEOVER_LIMIT)
  else true

def twnValueOk (a : Nat) (w : Word64) : Bool :=
  if a = Reg.TWN_CFG then
    decide (1 ≤ w.get Fld.TWN_CFG_PROMOTE_LIMIT) && decide (10 ≤ w.get Fld.TWN_CFG_BATCH_US)
      && between 100 (w.get Fld.TWN_CFG_HB_TIMEOUT_US) 1000000
  else true

def hifValueOk (a : Nat) (w : Word64) : Bool :=
  if inArr (Reg.HIF_RING_CFG 0) 0x20 128 a then between 6 (w.get Fld.HIF_RING_CFG_SIZE_LOG2) 16 else true

/-- Every field of the register lies in its range. -/
def valueOk (a : Nat) (w : Word64) : Bool :=
  match blkOf a with
  | none => true
  | some (b, i) =>
    match b with
    | .prt => prtValueOk i a w
    | .slc => slcValueOk i a w
    | .hnk => hnkValueOk i a w
    | .sch => schValueOk i a w
    | .fae => faeValueOk i a w
    | .tmb => tmbValueOk i a w
    | .dmc => dmcValueOk i a w
    | .tmg => tmgValueOk i a w
    | .tmgSch => tmgSchValueOk i a w
    | .buf => bufValueOk a w
    | .bpm => bpmValueOk a w
    | .tod => todValueOk a w
    | .flt => fltValueOk a w
    | .ccx => ccxValueOk a w
    | .twn => twnValueOk a w
    | .hif => hifValueOk a w
    | .glb | .cst | .lop | .pmu | .wrd | .mcs => true

/-! ### Conditions over several registers -/

/-- The three conditions of R46 on half h of macro n. -/
def State.flowControlOk (s : State) (n h : Nat) : Bool :=
  decide (s.fld (Reg.PRT_FC_THR n h) Fld.PRT_FC_THR_XON < s.fld (Reg.PRT_FC_THR n h) Fld.PRT_FC_THR_XOFF)
    && (List.range 8).all (fun c =>
      decide (s.fld (Reg.PRT_PFC_THR n h c) Fld.PRT_PFC_THR_XON < s.fld (Reg.PRT_PFC_THR n h c) Fld.PRT_PFC_THR_XOFF))
    && decide (s.fld (Reg.PRT_PAUSE_CFG n h) Fld.PRT_PAUSE_CFG_REFRESH < s.fld (Reg.PRT_PAUSE_CFG n h) Fld.PRT_PAUSE_CFG_QUANTA)

/-- A write of a port register would break R46 or fail code 4 of R324; `s` is the state with the write made. -/
def State.prtWriteOk (s : State) (n a : Nat) : Bool :=
  let half (h : Nat) : Bool :=
    let x := a - (Reg.PRT_MTU n h)
    if x = 0 then !s.gateWouldFail (2 * n + h) (s.fld (Reg.PRT_MTU n h) Fld.PRT_MTU_MAX_FRAME)
      (s.fld (Reg.TMG_GATE_CFG (n / 64) ((2 * n + h) % 128)) Fld.TMG_GATE_CFG_GUARD_NS)
    else s.flowControlOk n h
  if a < Reg.PRT_MTU n 0 then true else if a < Reg.PRT_MTU n 1 then half 0 else half 1

/-- The macro of a quadrant's queue u below 640 (R297). -/
def queueMacro (q u : Nat) : Nat := 64 * q + (if u < 512 then u / 8 else (u - 512) / 2)

/-- A write of a scheduler register would break R320 or fail code 4 of R324; `s` is the state with the write made. -/
def State.tmgSchWriteOk (s : State) (q a : Nat) : Bool :=
  match elemOf (Reg.TMG_PSHAPE_RATE q 0) 0x40 128 a with
  | some lp => s.shapersFit (64 * q + lp / 2) (s.mode (64 * q + lp / 2))
  | none =>
    match elemOf (Reg.TMG_GATE_CFG q 0) 0x40 128 a with
    | some lp =>
      let p := 128 * q + lp
      !s.gateWouldFail p (s.fld (Reg.PRT_MTU (p / 2) (p % 2)) Fld.PRT_MTU_MAX_FRAME)
        (s.fld (Reg.TMG_GATE_CFG q lp) Fld.TMG_GATE_CFG_GUARD_NS)
    | none =>
      match elemOf (Reg.TMG_QSHAPE_RATE q 0) 0x40 640 a with
      | some u => s.shapersFit (queueMacro q u) (s.mode (queueMacro q u))
      | none => true

/-- The timing set that is active may not be written (R273). -/
def State.timingWriteOk (s : State) (c a : Nat) : Bool :=
  let lo := Reg.DMC_TIMING0 c (s.fld (Reg.DMC_TIMING_SEL c) Fld.DMC_TIMING_SEL_ACTIVE)
  !(decide (lo ≤ a) && decide (a < lo + 0x18))

/-- A ring's TAIL moves on at most to HEAD, both 13-bit counts over 4,096 entries (R389). -/
def State.ringTailOk (s t : State) : Bool :=
  let used (x : State) : Nat :=
    (x.fld Reg.FLT_RING_PTR Fld.FLT_RING_PTR_HEAD + 8192 - x.fld Reg.FLT_RING_PTR Fld.FLT_RING_PTR_TAIL) % 8192
  decide (used t ≤ used s)

/-- BASE and SIZE of a ring may be written while its EN is 0 (R362). -/
def State.ringWriteOk (s t : State) (a : Nat) : Bool :=
  match elemOf (Reg.HIF_RING_BASE 0) 8 512 a with
  | none => true
  | some j =>
    let r := j / 4
    !s.flag (Reg.HIF_RING_CFG r) Fld.HIF_RING_CFG_EN
      || (s.reg (Reg.HIF_RING_BASE r) == t.reg (Reg.HIF_RING_BASE r)
          && s.fld (Reg.HIF_RING_CFG r) Fld.HIF_RING_CFG_SIZE_LOG2 == t.fld (Reg.HIF_RING_CFG r) Fld.HIF_RING_CFG_SIZE_LOG2)

/-- The write at `a` that turned `s` into `t` breaks no rule over several registers. -/
def State.writeAllowed (s t : State) (a : Nat) : Bool :=
  match blkOf a with
  | some (.prt, n) => t.prtWriteOk n a
  | some (.tmgSch, q) => t.tmgSchWriteOk q a
  | some (.dmc, c) => s.timingWriteOk c a
  | some (.flt, _) => decide (a ≠ Reg.FLT_RING_PTR) || s.ringTailOk t
  | some (.hif, _) => s.ringWriteOk t a
  | _ => true

end Sys2Proof.Machine
end

