-- ==== Sys2Proof/Machine/CastConfig.lean ====
section
/-! DEFINITION. Phase CONFIG of cast-on (R343, R462): the CONFIG records, the structural checks 0x0201 to 0x0209, the hash key
(R76), the power mask (R431, R433). -/

namespace Sys2Proof.Machine

/-! ### CONFIG records (R335, R462) -/

/-- The register offsets and values of a CONFIG section. -/
def configRecords (b : List Byte) : List (Nat × Word64) :=
  (List.range (b.length / 16)).map (fun i => (leNat (bytesAt b (16 * i) 8), BitVec.ofNat 64 (leNat (bytesAt b (16 * i + 8) 8))))

/-- The image writes a field of the register: it has one marked "image"; POOL_CFG[1] is RO (R288). -/
def imageWritable (a : Nat) : Bool :=
  match findReg a with
  | none => false
  | some r => r.fields.any (fun f => f.img) && decide (a ≠ Reg.BPM_POOL_CFG 1)

/-- The record names a register with image fields and carries the factory value in every other (0x0201). -/
def recordOk (x : Nat × Word64) : Bool :=
  imageWritable x.1 && regImageWrite x.1 x.2 (regDefault x.1) == regDefault x.1

/-- An image's TOD.INCR lies in its range (R52). -/
def incrOk (w : Word64) : Bool := incInRange (w.get Fld.TOD_INCR_INC_NS) (w.get Fld.TOD_INCR_INC_FRAC)

/-- The value lies in its fields' ranges (0x0202). -/
def imageValueOk (x : Nat × Word64) : Bool := if x.1 = Reg.TOD_INCR then incrOk x.2 else valueOk x.1 x.2

/-- A refusal that names the lowest of some addresses. -/
def refuseReg (code : Nat) (l : List Nat) : Option Refuse :=
  match l.min? with
  | none => none
  | some a => some { code := code, kind := 3, index := a / 8 }

/-- A refusal that names the lowest of some objects. -/
def refuseLow (code kind : Nat) (l : List Nat) : Option Refuse :=
  match l.min? with
  | none => none
  | some i => some { code := code, kind := kind, index := i }

/-- The first refusal of a list of checks. -/
def firstRefuse : List (Option Refuse) → Option Refuse
  | [] => none
  | some r :: _ => some r
  | none :: l => firstRefuse l

/-! ### The power mask (R431, R433) -/

/-- Bit d of PD_IMG as the records leave it. -/
def maskOff (l : List (Nat × Word64)) (d : Nat) : Bool :=
  let a := if d < 64 then Reg.PMU_PD_IMG0 else Reg.PMU_PD_IMG1
  match l.reverse.find? (fun x => x.1 == a) with
  | none => false
  | some x => x.2.getLsbD (d % 64)

/-- The records enable a port of macro n. -/
def enabledIn (l : List (Nat × Word64)) (n : Nat) : Bool :=
  match l.reverse.find? (fun x => x.1 == Reg.PRT_CTL n) with
  | none => false
  | some x => x.2.get Fld.PRT_CTL_ENABLE0 != 0 || x.2.get Fld.PRT_CTL_ENABLE1 != 0

/-- Domain d may be kept off beside the others of the mask. -/
def maskOk1 (l : List (Nat × Word64)) (d : Nat) : Bool :=
  let off := maskOff l
  if d < 32 then (List.range 8).all (fun i => !enabledIn l (8 * d + i))
  else if d < 48 then
    let i := d - 32
    off (2 * i) && off (2 * i + 1) && (i % 4 != 0 || (off (d + 1) && off (d + 2) && off (d + 3)))
  else if d < 64 then true
  else if d = 65 ∨ d = 66 ∨ d = 67 then
    let q := d - 64
    (List.range 4).all (fun k => off (32 + 4 * q + k) && off (48 + 4 * q + k))
  else d == 76 || d == 77

/-- The registers of the mask that break R433. -/
def maskErrors (l : List (Nat × Word64)) : List Nat :=
  ((List.range 80).filter (fun d => maskOff l d && !maskOk1 l d)).map (fun d => if d < 64 then Reg.PMU_PD_IMG0 else Reg.PMU_PD_IMG1)

/-! ### Checks over several registers -/

/-- The bits of a register that the image writes. -/
def imageBits (a : Nat) (w : Word64) : Word64 := regImageWrite a 0 w

/-- Addresses of instances of a block that differ from the first in an image field, `keep` saying which offsets count. -/
def State.mismatches (s : State) (base stride : Nat) (insts : List Nat) (keep : Nat → Bool) : List Nat :=
  match insts with
  | [] => []
  | i0 :: rest =>
    let offs := s.regs.filterMap (fun e =>
      if base ≤ e.1 ∧ (insts.contains ((e.1 - base) / stride)) = true ∧ keep ((e.1 - base) % stride) = true then some ((e.1 - base) % stride)
      else none)
    rest.flatMap (fun i => offs.filterMap (fun o =>
      let a := base + stride * i + o
      let b := base + stride * i0 + o
      if imageBits a (s.reg a) ≠ imageBits a (s.reg b) then some a else none))

/-- Registers that must be identical and differ (0x0203). -/
def State.mismatchList (s : State) : List Nat :=
  let all := List.range 16
  s.mismatches 0x2000000 0x100000 all (fun o => decide (o < 0x1000) || (decide (0x6000 ≤ o) && decide (o < 0x10000)))
    ++ s.mismatches 0x2000000 0x100000 [0, 4, 8, 12] (fun o => decide (0x10000 ≤ o))
    ++ s.mismatches 0x4000000 0x100000 all (fun o => o != 0x18 && o != 0x20)
    ++ s.mismatches 0x100000 0x10000 s.channels (fun o => o == 0 || o == 0x20)
    ++ (if s.fld (Reg.SLC_HASH_CTL 0) Fld.SLC_HASH_CTL_BUCKET_BITS = s.fld (Reg.HNK_CFG 0) Fld.HNK_CFG_BUCKET_BITS then []
        else [Reg.SLC_HASH_CTL 0])

/-- Logical ports that break R46 (0x0204), and R320 (0x0205). -/
def State.fcBad (s : State) : List Nat := (List.range 512).filter (fun p => !s.flowControlOk (p / 2) (p % 2))

def State.shaperBad (s : State) : List Nat :=
  (List.range 512).filter (fun p =>
    !s.halfFits (p / 2) (s.mode (p / 2)) (p % 2) || (p % 2 == 0 && !s.straysOff (p / 2) (s.mode (p / 2))))

/-- A class's records are long. -/
def State.longClass (s : State) (k : Nat) : Bool := s.flag (Reg.HNK_CLASS 0 k) Fld.HNK_CLASS_LONG

/-- Class j of a logical port's CLASS_MAP. -/
def State.mapClass (s : State) (p j : Nat) : Nat := (s.reg (Reg.SLC_CLASS_MAP (p / 32) (p % 32))).get ⟨6 * j, 6⟩

/-- Short classes that an IPv6 key layer names (0x0208, R118). -/
def State.layoutBad (s : State) : List Nat :=
  (List.range 512).flatMap (fun p => ([4, 5, 6, 7].map (s.mapClass p)).filter (fun k => !s.longClass k))

/-- Table t is SHARED in every array. -/
def State.sharedTable (s : State) (t : Nat) : Bool :=
  (List.range 4).all (fun q => s.flag (Reg.TMB_TABLE_CFG q t) Fld.TMB_TABLE_CFG_SHARED)

/-- Classes that may route by the fallback unit without SHARED tables (0x0209, R167). -/
def State.fallbackBad (s : State) : List Nat :=
  (List.range 64).filter (fun k =>
    let a := Reg.SCH_CLASS 0 k
    let routes := s.fld a Fld.SCH_CLASS_FALLBACK == 0 || s.fld a Fld.SCH_CLASS_MISS_DISP == 0
    routes && (!s.sharedTable 0 || !s.sharedTable 1 || (s.flag a Fld.SCH_CLASS_FALLBACK_ACL && !s.sharedTable 2)))

/-! ### Writing the records -/

/-- Image fields of the blocks that keep their contents take their factory values again before the records are written. -/
def State.imageFactory (s : State) : State :=
  forEach s.regs (fun e t => if e.1 < 0x80000 then t.setReg e.1 (regImageWrite e.1 e.2 (regDefault e.1)) else t) s

/-- One record is written; ENABLE bits are held until ARM; TOD.INCR is an accepted write (R57). -/
def State.storeRecord (s : State) (x : Nat × Word64) : State :=
  let s := { s with cast := { s.cast with image := Tbl.insert s.cast.image x.1 x.2 } }
  if x.1 = Reg.TOD_INCR then todIncrWrite x.2 s
  else
    let v : Word64 :=
      if (blkOf x.1).map (fun b => b.1) = some .prt ∧ x.1 % 0x1000 = 0 then
        (x.2.put Fld.PRT_CTL_ENABLE0 0).put Fld.PRT_CTL_ENABLE1 0
      else x.2
    s.setReg x.1 (regImageWrite x.1 (s.reg x.1) v)

/-- What a stored record brings with it: a HOLD_TIMEOUT below the time elapsed sets HOLDOVER (R57), an enabled sampler starts its
count (R310). -/
def State.recordEffect (s : State) (a : Nat) : State :=
  if a = Reg.TOD_HOLD_TIMEOUT then (if s.holdExpired then s.enterHold else s)
  else
    match elemOf (Reg.BUF_SAMP_CFG 0) 0x20 64 a with
    | some k => if s.flag (Reg.BUF_SAMP_CFG k) Fld.BUF_SAMP_CFG_EN then samplerEnable k s else s
    | none => s

/-- One CONFIG record takes effect. -/
def State.configRecord (s : State) (x : Nat × Word64) : State := (s.storeRecord x).recordEffect x.1

/-- The increment in force is TOD.INCR's factory value again (R52), until a record writes it. -/
def State.baseIncr (s : State) : State :=
  { s with clk := { s.clk with incNs := Clock.init.incNs, incFrac := Clock.init.incFrac } }

/-- The hash key: one drawn key in all slices where RAND is 1 (R76). -/
def State.loadHashKey (s : State) : State :=
  if s.flag (Reg.SLC_HASH_CTL 0) Fld.SLC_HASH_CTL_RAND then
    let k0 := s.draw
    let k1 := k0.2.draw
    forUpTo 16 (fun i t => (t.setReg (Reg.SLC_HASH_KEY0 i) k0.1).setReg (Reg.SLC_HASH_KEY1 i) k1.1) k1.2
  else s

/-- SCH.CLASS's fallback fields are copied into SLC.FCLASS of slice i (R77). -/
def State.copyFallback (s : State) (i : Nat) : State :=
  forUpTo 64 (fun k t =>
    let a := Reg.SCH_CLASS 0 k
    let b := Reg.SLC_FCLASS i k
    ((t.setFld b Fld.SLC_FCLASS_FALLBACK (t.fld a Fld.SCH_CLASS_FALLBACK)).setFld b Fld.SLC_FCLASS_FALLBACK_ACL
      (t.fld a Fld.SCH_CLASS_FALLBACK_ACL)).setFld b Fld.SLC_FCLASS_PUNT_QUEUE (t.fld a Fld.SCH_CLASS_PUNT_QUEUE)) s

/-- Generation 0 is current in every slice and shard (R104). -/
def State.startGenerations (s : State) : State :=
  forUpTo 16 (fun i t => (t.setFld (Reg.SLC_GEN_DRAIN i 0) Fld.SLC_GEN_DRAIN_LIVE 1).setFld (Reg.SCH_AGE_DRAIN i 0)
    Fld.SCH_AGE_DRAIN_LIVE 1) s

/-- Domain d is off: its units are in STATE 5. -/
def State.domainOff (s : State) (d : Nat) : State :=
  forEach (domUnits d) (fun u t => t.setFld (Reg.FLT_UNIT u) Fld.FLT_UNIT_STATE 5) (s.setDom d 0)

/-- The domains of the mask stay off (R431). -/
def State.applyMask (s : State) : State :=
  let bitOf (d : Nat) : Bool := (s.reg (if d < 64 then Reg.PMU_PD_IMG0 else Reg.PMU_PD_IMG1)).getLsbD (d % 64)
  forEach ((List.range 80).filter (fun d => domSwitchable d && bitOf d)) (fun d t => t.domainOff d) s

/-- A macro whose MODE does not fit its partner's shows MODE_ERR (R38). -/
def State.showModes (s : State) : State :=
  forUpTo 256 (fun n t => if t.modeOk n then t else t.setFld (Reg.PRT_STATUS n) Fld.PRT_STATUS_MODE_ERR 1) s

/-- The twin claim starts at 2 on side 0 and at 1 on side 1 (R417). -/
def State.startTwin (s : State) : State :=
  if s.flag Reg.TWN_CTL Fld.TWN_CTL_EN then s.setFld Reg.TWN_CLAIM Fld.TWN_CLAIM_OWN (2 - s.fld Reg.TWN_CFG Fld.TWN_CFG_SIDE) else s

/-- Phase CONFIG up to its outcome. -/
def State.configImage (s : State) (k : Nat) : Option Refuse × State :=
  let l := configRecords (s.sectionBytes k 0x0004)
  let early := firstRefuse
    [refuseReg 0x0201 ((l.filter (fun x => !recordOk x)).map (fun x => x.1 % 2 ^ 31)),
     refuseReg 0x0202 ((l.filter (fun x => !imageValueOk x)).map (fun x => x.1) ++ maskErrors l)]
  match early with
  | some r => (some r, s)
  | none =>
    let s : State := forEach l (fun x t => t.configRecord x) s.ppsHold.imageFactory.baseIncr
    let s := s.ppsHold
    let late := firstRefuse
      [refuseReg 0x0203 s.mismatchList, refuseLow 0x0204 4 s.fcBad, refuseLow 0x0205 4 s.shaperBad, refuseLow 0x0208 10 s.layoutBad,
       refuseLow 0x0209 10 s.fallbackBad]
    match late with
    | some r => (some r, s)
    | none =>
      let s : State := forUpTo 16 (fun i t => t.copyFallback i) s.loadHashKey
      (none, s.startGenerations.showModes.startTwin.applyMask)

end Sys2Proof.Machine
end

