-- ==== Sys2Proof/Machine/CastDram.lean ====
section
/-! DEFINITION. Phase DRAM of cast-on (R343): the checks 0x0301 to 0x0308, training (R275), the zero fill (R256), the carving of the
space (R257, R287), the pool rings and DRAM_INIT. -/

namespace Sys2Proof.Machine

/-! ### Population (R252) -/

/-- GiB of a rank (R251). -/
def State.rankGib (s : State) (c : Nat) : Nat := 2 ^ (s.rlLog c - 23)

/-- The fields of POP that every populated channel shares. -/
def State.popBits (s : State) (c : Nat) : Nat := (s.reg (Reg.DMC_POP c)).toNat % 128

def State.popMixed (s : State) : List Nat :=
  match s.channels with
  | [] => []
  | c0 :: r => r.filter (fun c => s.popBits c != s.popBits c0)

def State.popSize (s : State) : List Nat :=
  s.channels.filter (fun c =>
    decide (4 < s.ranks c) || decide (128 < s.ranks c * s.rankGib c)
      || (s.fld (Reg.DMC_POP c) Fld.DMC_POP_RANKS_PER_DIMM == 2 && s.fld (Reg.DMC_POP c) Fld.DMC_POP_DIMMS == 2))

def State.speedMask (s : State) : Nat := s.fld (Reg.DMC_FREQ 0) Fld.DMC_FREQ_SPEED_MASK

def State.popSpeed (s : State) : List Nat :=
  s.channels.filter (fun c =>
    (s.fld (Reg.DMC_POP c) Fld.DMC_POP_DIMMS == 2 && s.speedMask.testBit 0)
      || !s.speedMask.testBit (s.fld (Reg.DMC_FREQ 0) Fld.DMC_FREQ_SPEED))

def State.popSpare (s : State) : List Nat := s.channels.filter (fun c => s.hasSpare c && s.ranks c == 1)

/-! ### Regions (R257, R279) -/

/-- A region: base, size, alignment. -/
abbrev Region := Nat × Nat × Nat

/-- The image has a CONFIG record for the register. -/
def State.imageNames (s : State) (a : Nat) : Bool := s.cast.image.any (fun e => e.1 == a)

def State.addrAt (s : State) (a : Nat) : Nat := (s.reg a).toNat

/-- The shard's regions are declared: a record names a base (log 46). -/
def State.shardDeclared (s : State) (h : Nat) : Bool := s.imageNames (Reg.HNK_REC_BASE h) || s.imageNames (Reg.HNK_STASH_BASE h)

def State.shardRegions (s : State) (h : Nat) : List Region :=
  [(s.addrAt (Reg.HNK_REC_BASE h), 1024 * 2 ^ s.fld (Reg.HNK_CFG h) Fld.HNK_CFG_BUCKET_BITS, 1024),
   (s.addrAt (Reg.HNK_STASH_BASE h), 4194304, 1024)]

/-- Lines of auxiliary region i. -/
def State.auxLines (s : State) (i : Nat) : Nat := s.fld (Reg.FAE_AUX_SIZE 0 i) Fld.FAE_AUX_SIZE_LINES

def State.auxRegions (s : State) : List Region :=
  ((List.range 16).filter (fun i => s.auxLines i != 0)).map (fun i => (s.addrAt (Reg.FAE_AUX_BASE 0 i), 64 * s.auxLines i, 64))

/-- The regions of pool p. -/
def State.poolRegions (s : State) (p : Nat) : List Region :=
  let n := s.poolCount p
  if n = 0 then []
  else
    (s.addrAt (Reg.BPM_RING_BASE p), 64 * (n / 16), 64) ::
      (if p = 1 then []
       else [(s.addrAt (Reg.BPM_BUF_BASE p), n * s.poolSize p, 64), (s.addrAt (Reg.BPM_META_BASE p), (n + 63) / 64 * 64, 64)])

/-- Some region or ring is declared (0x0305). -/
def State.anyDeclared (s : State) : Bool :=
  (List.range 16).any s.shardDeclared || !s.auxRegions.isEmpty || [0, 2, 3].any (fun p => s.poolCount p != 0)
    || s.imageNames (Reg.BPM_RING_BASE 1)

/-- The regions of the carving: those of shards that are on or declared, auxiliary regions, pools. -/
def State.carving (s : State) : List Region :=
  ((List.range 16).filter (fun h => s.domOn (domShard h) || s.shardDeclared h)).flatMap s.shardRegions ++ s.auxRegions
    ++ (List.range 4).flatMap s.poolRegions

/-- A region lies beyond SPACE, is misaligned, or overlaps another. -/
def State.carveBad (s : State) : Bool :=
  let l := s.carving
  l.zipIdx.any (fun x =>
    decide (s.space < x.1.1 + x.1.2.1) || x.1.1 % x.1.2.2 != 0
      || l.zipIdx.any (fun y => x.2 != y.2 && meets x.1.1 x.1.2.1 y.1.1 y.1.2.1))

def State.poolBad (s : State) : List Nat :=
  [0, 2, 3].filter (fun p =>
    let n := s.poolCount p
    n != 0 && (n % 16 != 0 || decide (n < 1024) || decide (16777216 < n)))

/-! ### Training and initialisation -/

/-- A rank and subchannel of a channel that failed a training step (RESULT code 2 to 6, less 2). -/
abbrev TrainFail := Fin 12 × Fin 4 × Fin 2 × Fin 5

/-- RESULT of rank r of channel c on subchannel k (R276). -/
def State.trainResult (s : State) (bad : List TrainFail) (c r k : Nat) : Nat :=
  if s.ranks c ≤ r then 7
  else match bad.find? (fun x => x.1.val == c && x.2.1.val == r && x.2.2.1.val == k) with
    | none => 1
    | some x => x.2.2.2.val + 2

/-- DMC.TRAIN[r] of channel c; the eye widths are open. -/
def State.trainRank (s : State) (bad : List TrainFail) (c r : Nat) : State :=
  let a := Reg.DMC_TRAIN c r
  let ra := s.trainResult bad c r 0
  let rb := s.trainResult bad c r 1
  let s := (s.setFld a Fld.DMC_TRAIN_RESULT_A ra).setFld a Fld.DMC_TRAIN_RESULT_B rb
  if ra = 7 then s
  else
    let x := s.draw
    let s := x.2.setFld a ⟨8, 32⟩ x.1.toNat
    if ra = 1 ∧ rb = 1 then s.setFld a Fld.DMC_TRAIN_SPEEDS s.speedMask else s

/-- Channel c trains (R275). -/
def State.trainChannel (s : State) (bad : List TrainFail) (c : Nat) : State :=
  let s : State := forUpTo 4 (fun r t => t.trainRank bad c r) s
  let fail := (List.range (s.ranks c)).any (fun r => s.trainResult bad c r 0 != 1 || s.trainResult bad c r 1 != 1)
  let a := Reg.DMC_STATUS c
  if fail then s.setFld a Fld.DMC_STATUS_TRAIN_FAIL 1 else s.setFld a Fld.DMC_STATUS_TRAIN_DONE 1

/-- GEOM of every populated channel, SPACE and MAP.CHANNELS (R253, R254). -/
def State.showGeometry (s : State) : State :=
  let l := s.channels
  let s : State := forEach l.zipIdx (fun x t =>
    let a := Reg.DMC_GEOM x.1
    ((t.setFld a Fld.DMC_GEOM_RL_LOG2 (t.rlLog x.1)).setFld a Fld.DMC_GEOM_MAPPED_RANKS (t.mappedRanks x.1)).setFld a
      Fld.DMC_GEOM_SUB_INDEX (2 * x.2)) s
  let bytes : Nat := match l with
    | [] => 0
    | c :: _ => 64 * (2 * l.length) * s.mappedRanks c * 2 ^ s.rlLog c
  (s.setFld (Reg.DMC_SPACE 0) Fld.DMC_SPACE_BYTES bytes).setFld (Reg.DMC_MAP 0) Fld.DMC_MAP_CHANNELS
    ((l.map (fun c => 2 ^ c)).sum)

/-- PD_MEM is on; PD_DP is on exactly where a channel has DIMMs (R431). -/
def State.memoryDomains (s : State) : State :=
  let s : State := forUpTo 4 (fun k t => t.setDom (68 + k) 1) s
  forUpTo 3 (fun j t =>
    if (List.range 4).any (fun i => t.populated (4 * j + i)) then t.setDom (72 + j) 1 else t.domainOff (72 + j)) s

/-- A pool's ring holds every pointer in ascending INDEX (R287). -/
def State.fillRing (s : State) (p : Nat) : State :=
  let n := s.poolCount p
  if s.channels.isEmpty ∨ n = 0 then s
  else
    let bytes := (List.range n).flatMap (fun i => leBytes 4 (ptrOf p i))
    let s := { s with dram := { s.dram with bytes := memWrite s.dram.bytes (s.addrAt (Reg.BPM_RING_BASE p)) bytes } }
    s.setRing p { head := 0, lines := n / 16 }

/-- The zero fill, the rings, DRAM_INIT; the BPM answers from now on. -/
def State.initDram (s : State) (init : List (Nat × List Byte)) : State :=
  let s := { s with dram := { DramSt.init with subs := s.dram.subs }, pools := PoolSt.init }
  let s : State := forEach [0, 1, 2, 3] (fun p t => (t.fillRing p).showMode p) s
  let s : State := forEach init (fun x t =>
    { t with dram := { t.dram with bytes := memWrite t.dram.bytes x.1 (x.2.take (t.space - x.1)) } }) s
  s.setFld Reg.BPM_STATUS Fld.BPM_STATUS_READY 1

/-- Phase DRAM up to its outcome; `bad`: what fails training; `init`: the DRAM_INIT section. -/
def State.dramPhase (s : State) (bad : List TrainFail) (init : List (Nat × List Byte)) : Option Refuse × State :=
  let s := s.memoryDomains
  let none5 : Option Refuse :=
    if s.channels.isEmpty ∧ s.anyDeclared = true then some { code := 0x0305, kind := 0, index := 0 } else none
  let early := firstRefuse
    [refuseLow 0x0301 8 s.popMixed, refuseLow 0x0302 8 s.popSize, refuseLow 0x0303 8 s.popSpeed, refuseLow 0x0304 8 s.popSpare,
     none5]
  match early with
  | some r => (some r, s)
  | none =>
    let s : State := forEach s.channels (fun c t => t.trainChannel bad c) s
    let failed := s.channels.filter (fun c => s.flag (Reg.DMC_STATUS c) Fld.DMC_STATUS_TRAIN_FAIL)
    let s := s.showGeometry
    let s := if s.channels.isEmpty then s else s.setFld Reg.PMU_STATUS Fld.PMU_STATUS_DRAM_LOCK 1
    let carve : Option Refuse :=
      if !s.channels.isEmpty ∧ s.carveBad = true then some { code := 0x0307, kind := 0, index := 0 } else none
    match firstRefuse [refuseLow 0x0306 8 failed, carve, refuseLow 0x0308 11 s.poolBad] with
    | some r => (some r, s)
    | none => (none, s.initDram init)

end Sys2Proof.Machine
end

