-- ==== Sys2Proof/Machine/CastTables.lean ====
section
/-! DEFINITION. Phase TABLES of cast-on (R343): gate lists, Tumbler tables, control stores, counts, MAC, next hops and multicast groups
of the image, with the checks 0x0206, 0x0207 and 0x0401 to 0x0408.  The contents of sections whose bytes have no stated layout
are the command's operand (assumption log 47). -/

namespace Sys2Proof.Machine

/-! ### Gate lists (R324) -/

/-- Gates and interval of the entries of an image list. -/
def gateItems (g : GateLoad) : List (Nat × Nat) :=
  g.entries.map (fun w => (w.get Fld.TMG_GCL_DATA_GATES, w.get Fld.TMG_GCL_DATA_INTERVAL_NS))

/-- The code 4 bound of a port under its MTU and guard. -/
def State.gateBound (s : State) (p : Nat) : Nat :=
  s.gateMin p (s.fld (Reg.PRT_MTU (p / 2) (p % 2)) Fld.PRT_MTU_MAX_FRAME)
    (s.fld (Reg.TMG_GATE_CFG (p / 128) (p % 128)) Fld.TMG_GATE_CFG_GUARD_NS)

def State.gateShort (s : State) (t : ImageTables) : List Nat :=
  (t.gates.filter (fun g => !listRunsOk (gateItems g) (s.gateBound g.port))).map (fun g => g.port)

def gateLong (t : ImageTables) : List Nat := (t.gates.filter (fun g => !listLengthOk (gateItems g))).map (fun g => g.port)

/-- The entries of an image list stand in bank 1 of their port. -/
def State.loadGate (s : State) (g : GateLoad) : State :=
  forEach (gateItems g).zipIdx (fun x t =>
    { t with tm := { t.tm with gcl := Tbl.set 0 t.tm.gcl (gclKey g.port 1 x.2) (x.1.1 + 256 * x.1.2) } }) s

/-! ### Tumbler tables (R92, R94, R95, R98, R106) -/

/-- First and last bank of a table. -/
def State.tmbBanks (s : State) (q t : Nat) : Nat × Nat :=
  (s.fld (tmbCfg q t) Fld.TMB_TABLE_CFG_FIRST_BANK, s.fld (tmbCfg q t) Fld.TMB_TABLE_CFG_LAST_BANK)

/-- The width that a kind requires, as its WIDTH code; generic tables have any. -/
def kindWidthOk (kind width : Nat) : Bool := if kind = 3 then true else width == kind

/-- Table t of array q breaks R92. -/
def State.tmbLayoutBad (s : State) (q t : Nat) : Bool :=
  let b := s.tmbBanks q t
  s.tmbTableOk q t &&
    ((List.range 16).any (fun u => u != t && s.tmbTableOk q u && decide ((s.tmbBanks q u).1 ≤ b.2) && decide (b.1 ≤ (s.tmbBanks q u).2))
      || !kindWidthOk (s.tmbKind q t) (s.fld (tmbCfg q t) Fld.TMB_TABLE_CFG_WIDTH)
      || (decide (t ≤ 2) && s.tmbKind q t != t))

/-- An entry as it is stored at cast-on: bits without mask as 0, GEN_MASK 0b0001 (R104, R105). -/
def loadEntry (x : TmbLoad) (width : Nat) : TmbEntry :=
  let m := x.mask &&& lowBits (80 * width)
  { key := x.key &&& m, mask := m, prio := x.prio % 65536, gens := 1, valid := true, disabled := false, result := x.result }

/-- The entry names no valid table, or no free place of it. -/
def State.tmbPlaceBad (s : State) (l : List TmbLoad) (i : Nat) (x : TmbLoad) : Bool :=
  !s.tmbTableOk x.quad x.table || !s.tmbIndexOk x.quad x.table x.index
    || l.zipIdx.any (fun y => y.2 != i && y.1.quad == x.quad && y.1.index == x.index)

def tblObj (q t : Nat) : Nat := 16 * q + t

/-- The entries of table t of array q by index. -/
def tmbLoads (l : List TmbLoad) (q t : Nat) : List TmbLoad :=
  (l.filter (fun x => x.quad == q && x.table == t)).mergeSort (fun a b => decide (a.index ≤ b.index))

/-- PRIORITY never increases with the index. -/
def prioFalls : List TmbLoad → Bool
  | a :: b :: r => decide (b.prio ≤ a.prio) && prioFalls (b :: r)
  | _ => true

def allTables : List (Nat × Nat) := (List.range 4).flatMap (fun q => (List.range 16).map (fun t => (q, t)))

def State.tmbLoad (s : State) (l : List TmbLoad) : State :=
  forEach l (fun x t => t.setEnt x.quad x.index (loadEntry x (t.tmbWidth x.quad x.table))) s

/-- A table that is SHARED in some array is missing from one, or its digests differ (R11, R106). -/
def State.sharedBad (s : State) : List Nat :=
  ((List.range 4).flatMap (fun q => (List.range 16).map (fun t => (q, t)))).filterMap (fun x =>
    let t := x.2
    let shared := (List.range 4).any (fun q => s.tmbTableOk q t && s.flag (tmbCfg q t) Fld.TMB_TABLE_CFG_SHARED)
    if shared && (!s.tmbTableOk x.1 t || s.tmbDigest x.1 t != s.tmbDigest 0 t) then some (tblObj x.1 t) else none)

/-- The checks of the TUMBLER section, on the state with its entries loaded. -/
def State.tmbChecks (s : State) (l : List TmbLoad) : Option Refuse :=
  let kind (x : TmbLoad) : Nat := s.tmbKind x.quad x.table
  let width (x : TmbLoad) : Nat := s.tmbWidth x.quad x.table
  let objs (p : TmbLoad → Bool) : List Nat := (l.filter p).map (fun x => tblObj x.quad x.table)
  let layout := (allTables.filter (fun x => s.tmbLayoutBad x.1 x.2)).map (fun x => tblObj x.1 x.2)
  let places := (l.zipIdx.filter (fun x => s.tmbPlaceBad l x.2 x.1)).map (fun x => tblObj x.1.quad x.1.table)
  let order := (allTables.filter (fun x => !prioFalls (tmbLoads l x.1 x.2))).map (fun x => tblObj x.1 x.2)
  let full := (allTables.filter (fun x =>
    let r := s.tmbRange x.1 x.2
    decide ((r.2 - r.1) / s.tmbWidth x.1 x.2 < (tmbLoads l x.1 x.2).length))).map (fun x => tblObj x.1 x.2)
  firstRefuse
    [refuseLow 0x0401 9 (layout ++ places), refuseLow 0x0402 9 (objs (fun x => !maskOk (kind x) (loadEntry x (width x)))),
     refuseLow 0x0403 9 (objs (fun x => !actionOk (kind x) x.table (loadEntry x (width x)))), refuseLow 0x0404 9 order,
     refuseLow 0x0405 9 s.sharedBad, refuseLow 0x0406 9 full]

/-! ### Control stores (R206, R208) -/

/-- The microwords of the MICROCODE section. -/
def microwords (b : List Byte) : Tbl Microword :=
  ((List.range 16384).map (fun i => (i, BitVec.ofNat 192 (leNat (bytesAt b (24 * i) 24))))).filter (fun x => x.2 != 0)

/-- Shard h's control store is loaded. -/
def State.loadStore (s : State) (h : Nat) (store : Tbl Microword) (digest : Word64) (version patch : Nat) : State :=
  let s := s.setShard h { s.shard h with store := store }
  let a := Reg.FAE_MC_VERSION h
  let s := (s.setFld a Fld.FAE_MC_VERSION_VERSION version).setFld a Fld.FAE_MC_VERSION_PATCH_LEVEL patch
  s.setReg (Reg.FAE_MC_DIGEST h) digest

/-! ### The envelope (R346) -/

def envEntry (e : List Byte) : EnvEntry :=
  let n (o k : Nat) : Nat := leNat (bytesAt e o k)
  { lport := n 0 2, cls := n 2 1, skew := n 4 2, missShare := n 6 2, pktRate := n 8 4, newRate := n 12 4, research := n 16 4
    auxShare := n 20 2 }

def envelope (b : List Byte) : List EnvEntry := (List.range (b.length / 32)).map (fun i => envEntry (bytesAt b (32 * i) 32))

/-! ### Counts (R209) -/

/-- What Rafin counted for an entry point. -/
def State.countOf (s : State) (e : Nat) : Option CountLoad := s.cast.tables.counts.find? (fun c => c.entry == e)

def State.progEntry (s : State) (k : Nat) : Nat := s.fld (Reg.SCH_CLASS 0 k) Fld.SCH_CLASS_PROG_ENTRY
def State.ageEntry (s : State) (k : Nat) : Nat := s.fld (Reg.SCH_CLASS 0 k) Fld.SCH_CLASS_AGE_ENTRY
def State.ageNotify (s : State) (k : Nat) : Bool := s.flag (Reg.HNK_CLASS 0 k) Fld.HNK_CLASS_AGE_NOTIFY

/-- Logical port p takes the flow path: the image or the host enables it, its mode has it, and it is not BYPASS. -/
def State.flowPort (s : State) (p : Nat) : Bool :=
  let held : Bool := match s.cast.image.find? (fun e => e.1 == Reg.PRT_CTL (p / 2)) with
    | none => false
    | some (_, w) => w.get (if p % 2 = 0 then Fld.PRT_CTL_ENABLE0 else Fld.PRT_CTL_ENABLE1) == 1
  (held || s.portEnabled p) && decide (0 < s.rate p) && !s.flag (Reg.SLC_PCFG (p / 32) (p % 32)) Fld.SLC_PCFG_BYPASS

/-- Classes whose entry points are bound: those that the envelope names or that a flow port's CLASS_MAP names (assumption
log 48). -/
def State.boundClasses (s : State) (l : List EnvEntry) : List Nat :=
  let mapped := ((List.range 512).filter s.flowPort).flatMap (fun p => (List.range 8).map (s.mapClass p))
  (List.range 64).filter (fun k => l.any (fun e => e.cls == k) || mapped.contains k)

/-- Classes with a bound entry point that has no COUNTS record (0x0408). -/
def State.countsBad (s : State) (l : List EnvEntry) : List Nat :=
  (s.boundClasses l).filter (fun k =>
    (s.countOf (s.progEntry k)).isNone || (s.ageNotify k && (s.countOf (s.ageEntry k)).isNone))

/-! ### MAC, next hops, groups -/

/-- A static MAC entry. -/
def loadMac (x : TableLoad) : MacEntry :=
  { MacEntry.decode ((x.words.getD 0 0).toNat + 2 ^ 64 * (x.words.getD 1 0).toNat) with valid := true, static_ := true }

def State.loadMacs (s : State) (l : List TableLoad) : State :=
  let s : State := forEach l (fun x t => t.setMac x.quad x.index (loadMac x)) s
  { s with slice := { s.slice with imageMacs := l.map (fun x => (x.quad, x.index, loadMac x)) } }

def State.loadNextHops (s : State) (l : List TableLoad) : State :=
  forEach l (fun x t =>
    let e : NhEntry := { n0 := x.words.getD 0 0, n1 := x.words.getD 1 0, n2 := x.words.getD 2 0, n3 := x.words.getD 3 0 }
    { t with tm := { t.tm with nh := Tbl.set NhEntry.init t.tm.nh (262144 * x.quad + x.index) e } }) s

def State.loadGroups (s : State) (l : List TableLoad) : State :=
  forEach l (fun x t =>
    let m : BitVec 128 := (x.words.getD 1 0).setWidth 128 <<< 64 ||| (x.words.getD 0 0).setWidth 128
    let old := t.groupMask x.index
    let mask := if m = 0 then old &&& (15 - 2 ^ x.quad) else old ||| 2 ^ x.quad
    { t with tm := { t.tm with members := Tbl.set 0#128 t.tm.members (65536 * x.quad + x.index) m
                               qmask := Tbl.set 0 t.tm.qmask x.index mask } }) s

/-- Phase TABLES up to its outcome; `bad`: a shard whose control store does not hold what was loaded. -/
def State.tablesPhase (s : State) (k : Nat) (t : ImageTables) (bad : Option Nat) : Option Refuse × State :=
  let b := s.sectionBytes k 0x0002
  let s := { s with cast := { s.cast with tables := t } }
  let gates := firstRefuse [refuseLow 0x0206 4 (s.gateShort t), refuseLow 0x0207 4 (gateLong t)]
  match gates with
  | some r => (some r, s)
  | none =>
    let s := s.tmbLoad t.tmb
    let mc : Option Refuse := bad.map (fun h => { code := 0x0407, kind := 6, index := h })
    match firstRefuse [s.tmbChecks t.tmb, mc, refuseLow 0x0408 10 (s.countsBad (envelope (s.sectionBytes k 0x000B)))] with
    | some r => (some r, s)
    | none =>
      let store := microwords b
      let digest := crc64 (bytesAt b 0 393216)
      let s : State := forUpTo 16 (fun h x => x.loadStore h store digest t.mcVersion t.mcPatch) s
      let s := ((s.loadMacs t.macs).loadNextHops t.nextHops).loadGroups t.groups
      (none, forEach t.gates (fun g x => x.loadGate g) s)

end Sys2Proof.Machine
end

