-- ==== Sys2Proof/Machine/CastAdmit.lean ====
section
/-! DEFINITION. The traffic envelope and admission (R346 to R348): demands computed exactly, as numerators over fixed denominators. -/

namespace Sys2Proof.Machine

/-- r of R348, packets per second. -/
def EnvEntry.r (e : EnvEntry) : Nat := 1000 * e.pktRate

def EnvEntry.flow (e : EnvEntry) : Bool := e.cls != 0xFF

/-- The counts of an entry point; 0 where it has no record. -/
def State.nOf (s : State) (e : Nat) : Nat := ((s.countOf e).map (fun c => c.n)).getD 0
def State.eOf (s : State) (e : Nat) : Nat := ((s.countOf e).map (fun c => c.e)).getD 0
def State.sOf (s : State) (e : Nat) : Nat := ((s.countOf e).map (fun c => c.s)).getD 0
def State.xOf (s : State) (e : Nat) : Nat := ((s.countOf e).map (fun c => c.x)).getD 0

/-- The logical port exists in its macro's mode, in domains that are on. -/
def State.envPortOk (s : State) (p : Nat) : Bool :=
  decide (p < 512) && decide (0 < s.rate p) && s.modeOk (p / 2) && s.domOn (domSd (p / 2)) && s.domOn (domSlice (p / 32))

/-- The i-th entry breaks 0x0501. -/
def State.envBad (s : State) (l : List EnvEntry) (i : Nat) (e : EnvEntry) : Bool :=
  decide (e.skew < 320) || !s.envPortOk e.lport || (l.take i).any (fun x => x.lport == e.lport && x.cls == e.cls)
    || (e.flow && (decide (64 ≤ e.cls) || (s.countOf (s.progEntry e.cls)).isNone
        || decide (256 * s.xOf (s.progEntry e.cls) < e.auxShare)))

/-! ### Demands (R348) -/

def State.nAge (s : State) (k : Nat) : Nat := if s.ageNotify k then s.nOf (s.ageEntry k) else 0
def State.xAge (s : State) (k : Nat) : Nat := if s.ageNotify k then s.xOf (s.ageEntry k) else 0
def State.eAge (s : State) (k : Nat) : Nat := if s.ageNotify k then s.eOf (s.ageEntry k) else 0

def sumOver {α : Type} (l : List α) (f : α → Nat) : Nat := (l.map f).sum

def State.portDemand (_s : State) (l : List EnvEntry) (p : Nat) : Nat := sumOver (l.filter (fun e => e.lport == p)) EnvEntry.r

def sliceDemand (l : List EnvEntry) (i : Nat) : Nat := sumOver (l.filter (fun e => e.lport / 32 == i)) EnvEntry.r

/-- FAE demand of a shard, in 1/4,096 microwords per second. -/
def State.faeDemand (s : State) (l : List EnvEntry) : Nat :=
  sumOver (l.filter EnvEntry.flow) (fun e => e.skew * (e.r * s.nOf (s.progEntry e.cls) + e.newRate * s.nAge e.cls))

/-- Miss demand of the device, in 2^-24 accesses per second. -/
def State.missDemand (s : State) (l : List EnvEntry) : Nat :=
  let pi := s.fld (Reg.HNK_CFG 0) Fld.HNK_CFG_PROBE_ALLOW
  sumOver (l.filter EnvEntry.flow) (fun e =>
    let c := if s.longClass e.cls then 4 else 2
    let g := if s.longClass e.cls then 25 else 22
    e.r * e.missShare * (256 * c + pi) + 16777216 * e.newRate * g + 65536 * e.r * e.auxShare + 16777216 * e.newRate * s.xAge e.cls)

/-- PORT_ACL bit of a logical port. -/
def State.portAcl (s : State) (p : Nat) : Bool :=
  (s.reg (if p % 128 < 64 then Reg.TMB_PORT_ACL0 (p / 128) else Reg.TMB_PORT_ACL1 (p / 128))).getLsbD (p % 64)

/-- Search demand of a quadrant, in 1/1,024 searches per second. -/
def State.tmbDemand (s : State) (l : List EnvEntry) (q : Nat) : Nat :=
  sumOver (l.filter EnvEntry.flow) (fun e => e.skew * (e.newRate + e.research) * s.sOf (s.progEntry e.cls))
    + sumOver (l.filter (fun e => !e.flow && e.lport / 128 == q)) (fun e => 1024 * e.r * (1 + bit (s.portAcl e.lport)))

/-- The quotient rounded up. -/
def ceilDiv (a b : Nat) : Nat := (a + b - 1) / b

/-- A demand above its limit, both over a denominator, as a refusal in whole M/s. -/
def overLimit (code kind index demand limit den : Nat) : Option Refuse :=
  if limit < demand then
    some { code := code, kind := kind, index := index, demand := ceilDiv demand (1000000 * den), limit := limit / (1000000 * den) }
  else none

/-- The first of a list of checks over the objects below n. -/
def firstOf (n : Nat) (f : Nat → Option Refuse) : Option Refuse := ((List.range n).filterMap f).head?

/-- BUDGET_FRAME of an entry: in 1/8 ns times the port rate in Gbit/s. -/
def State.budgetFrame (s : State) (i : Nat) (e : EnvEntry) : Option Refuse :=
  let rate := s.rate e.lport
  let mf := s.fld (Reg.PRT_MTU (e.lport / 2) (e.lport % 2)) Fld.PRT_MTU_MAX_FRAME
  let b := s.fld (Reg.SCH_CLASS 0 e.cls) Fld.SCH_CLASS_BUDGET
  let d := 64 * mf + 5 * s.eOf (s.progEntry e.cls) * rate
  if e.flow ∧ 10 * b * rate < d then
    some { code := 0x0507, kind := 12, index := i, demand := ceilDiv d (8 * rate), limit := 5 * b / 4 }
  else none

/-- AGE_BUDGET of a class, in 1/8 ns. -/
def State.ageBudget (s : State) (k : Nat) : Option Refuse :=
  let b := s.fld (Reg.SCH_AGE_CTL 0) Fld.SCH_AGE_CTL_BUDGET
  let d := 5 * s.eAge k
  if s.ageNotify k ∧ 10 * b < d then some { code := 0x0508, kind := 10, index := k, demand := ceilDiv d 8, limit := 5 * b / 4 }
  else none

/-- Service of misses at the current speed, accesses per second. -/
def State.missLimit (s : State) : Nat := 1000000 * s.missService (s.fld (Reg.DMC_FREQ 0) Fld.DMC_FREQ_SPEED)

/-- The first admission check that the envelope fails (R345, R348). -/
def State.admitCheck (s : State) (l : List EnvEntry) : Option Refuse :=
  firstRefuse
    [(l.zipIdx.find? (fun x => s.envBad l x.2 x.1)).map (fun x => { code := 0x0501, kind := 12, index := x.2 }),
     firstOf 512 (fun p => overLimit 0x0502 4 p (672 * s.portDemand l p) (1000000000 * s.rate p) 672),
     firstOf 16 (fun i => overLimit 0x0503 5 i (sliceDemand l i) 9600000000 1),
     overLimit 0x0504 6 0 (s.faeDemand l) (4096 * 46080000000) 4096,
     overLimit 0x0505 0 0 (s.missDemand l) (16777216 * s.missLimit) 16777216,
     firstOf 4 (fun q => overLimit 0x0506 7 q (s.tmbDemand l q) (1024 * 6400000000) 1024),
     (l.zipIdx.filterMap (fun x => s.budgetFrame x.2 x.1)).head?,
     firstOf 64 s.ageBudget]

/-- CST.ADM_*: the admitted demands, rounded up to whole M/s. -/
def State.showAdmitted (s : State) (l : List EnvEntry) : State :=
  let put (a d lim : Nat) (t : State) : State := t.setReg a (BitVec.ofNat 64 (min d 4294967295 + 4294967296 * lim))
  let s := put Reg.CST_ADM_FAE (ceilDiv (s.faeDemand l) (4096 * 1000000)) 46080 s
  let s := put Reg.CST_ADM_MISS (ceilDiv (s.missDemand l) (16777216 * 1000000)) (s.missLimit / 1000000) s
  let s : State := forUpTo 4 (fun q t => put (Reg.CST_ADM_TUMBLER q) (ceilDiv (t.tmbDemand l q) (1024 * 1000000)) 6400 t) s
  forUpTo 16 (fun i t => put (Reg.CST_ADM_PARSE i) (ceilDiv (sliceDemand l i) 1000000) 9600 t) s

/-- Phase ADMIT up to its outcome. -/
def State.admitPhase (s : State) (k : Nat) : Option Refuse × State :=
  let l := envelope (s.sectionBytes k 0x000B)
  match s.admitCheck l with
  | some r => (some r, s)
  | none => (none, State.showAdmitted { s with cast := { s.cast with env := l } } l)

end Sys2Proof.Machine
end

