-- ==== Sys2Proof/Machine/Reset.lean ====
section
/-! DEFINITION. What a reset of the blocks outside PD_AON does (R430, R456), and the start of a cast-on (R342). -/

namespace Sys2Proof.Machine

/-- Registers of the blocks outside PD_AON and of the blocks that cast-on resets; `hif`: the HIF among them. -/
def castOnReg (hif : Bool) (a : Nat) : Bool :=
  decide (0x80000 ≤ a) || (hif && decide (0x40000 ≤ a) && decide (a < 0x50000))

/-- Every unit is in service again: windows, timers and KEPT states end at a cast-on (R395, R397). -/
def State.unitsUp (s : State) : State :=
  let s : State := forUpTo 315 (fun u t => t.setFld (Reg.FLT_UNIT u) Fld.FLT_UNIT_STATE 0) s
  State.showUnits { s with fault := { s.fault with timers := [], seqWanted := [], keptUnder := [], rebuilt := [], mcUe := [] } }

/-- Every block outside PD_AON takes its factory state; `hif`: the HIF too. -/
def State.resetBlocks (s : State) (hif : Bool) : State :=
  let s := s.unitsUp
  { s with
    regs := Tbl.drop s.regs (castOnReg hif), links := [], ports := [], slice := SliceSt.init, buf := BufSt.init, tm := TmSt.init
    tmb := TumblerSt.init, shards := [], dram := DramSt.init, pools := PoolSt.init, twin := TwinSt.init
    exporter := ExporterSt.init, hif := if hif then { HifSt.init with mem := s.hif.mem } else s.hif
    ccx := CcxSt.init }

/-- The complexes have no claim until phase FIRMWARE. -/
def State.dropClaims (s : State) : State := (s.setClaim 0 0).setClaim 1 0

/-- Cast-on starts at phase RESET with a cause (R342). -/
def State.startCastOn (s : State) (cause : Nat) : State :=
  let s := s.dropClaims.lopAbortAll (fun _ _ => true) lopAbandoned
  let a := Reg.CST_STATUS
  let s := ((((s.setFld a Fld.CST_STATUS_PHASE 0).setFld a Fld.CST_STATUS_LAYER 0).setFld a Fld.CST_STATUS_TRIAL 0).setFld a
    Fld.CST_STATUS_DONE 0).setFld a Fld.CST_STATUS_REFUSED_SEEN 0
  let s := (s.setFld a Fld.CST_STATUS_REVERTED (bit (cause == 4))).setFld a Fld.CST_STATUS_CAUSE cause
  let s : State := forUpTo 2 (fun i t => (t.setReg (Reg.CST_ATTEMPT i) 0).setReg (Reg.CST_ATTEMPT_VAL i) 0) s
  let s := (s.setFld Reg.GLB_STATUS Fld.GLB_STATUS_DEV_READY 0).setFld Reg.GLB_STATUS Fld.GLB_STATUS_SAFE_OFF 0
  let s := if 2 ≤ cause then s.bumpSat Reg.GLB_RESET_CNT Fld.GLB_RESET_CNT_SOFT else s
  let s := s.setFld Reg.FLT_FATAL_STATE Fld.FLT_FATAL_STATE_HOLDING 0
  let s := (s.resetRange (Reg.PMU_PD_STATE 0) (Reg.PMU_PD_STATE 3)).setFld Reg.PMU_PD_CMD Fld.PMU_PD_CMD_BUSY 0
  { s with
    fault := { s.fault with stopped := false, fatalLine := none, runSince := none }
    power := { s.power with shutdown := false, pdRun := none }
    cast := { s.cast with cands := [], slot := none, trial := false, attempts := 0, chosen := false, began := s.clk.mono
                          runAt := none, image := [], tables := ImageTables.init, env := [] } }

/-- Ports have stopped; every block outside PD_AON and the HIF is reset; cast-on starts (R342). -/
def State.recast (s : State) (cause : Nat) : State := (s.resetBlocks false).startCastOn cause

end Sys2Proof.Machine
end

