-- ==== Sys2Proof/Machine/Faults.lean ====
section
/-! DEFINITION. Fault collection and reaction (R384 to R403): recording, first faults, interrupts, escalation commands and
expiries, automatic repair, the fatal stop; and the PMU's monitors (R429, R438, R446). -/

namespace Sys2Proof.Machine

def State.fltBump (s : State) (i : Nat) : State := s.bump (Reg.FLT_CNT i)

/-! ### Recording (R388 to R391) -/

/-- The 128 bits of a message with its SEQ (R384). -/
def FaultMsg.bits (m : FaultMsg) (seq : Nat) : Nat :=
  m.src * 2 ^ 112 + m.kind * 2 ^ 100 + m.cls * 2 ^ 98 + m.addr % 2 ^ 48 * 2 ^ 50 + m.todNs % 2 ^ 32 * 2 ^ 18 + seq % 2 ^ 18

/-- The ring entry of a message (R389). -/
def State.ringEntryOf (s : State) (m : FaultMsg) (seq : Nat) (ovf injected : Bool) : RingEntry :=
  let b := m.bits seq
  let sec := if s.clk.ns < m.todNs then s.clk.sec - 1 else s.clk.sec
  { w0 := BitVec.ofNat 64 b, w1 := BitVec.ofNat 64 (b / 2 ^ 64), w2 := BitVec.ofNat 64 s.clk.mono
    w3 := BitVec.ofNat 64 (sec % 2 ^ 48 + 2 ^ 48 * bit ovf + 2 ^ 49 * bit injected + 2 ^ 63) }

/-- First-fault register f loads an entry where it is empty (R390). -/
def State.firstFault (s : State) (f : Nat) (e : RingEntry) : State :=
  if s.flag (Reg.FLT_FIRST f 3) Fld.FLT_FIRST_VALID then s
  else (((s.setReg (Reg.FLT_FIRST f 0) e.w0).setReg (Reg.FLT_FIRST f 1) e.w1).setReg (Reg.FLT_FIRST f 2) e.w2).setReg
    (Reg.FLT_FIRST f 3) e.w3

/-- Entries that the ring holds. -/
def State.ringHeld (s : State) : Nat :=
  (s.fld Reg.FLT_RING_PTR Fld.FLT_RING_PTR_HEAD + 8192 - s.fld Reg.FLT_RING_PTR Fld.FLT_RING_PTR_TAIL) % 8192

/-- An entry is written at HEAD. -/
def State.ringPut (s : State) (e : RingEntry) : State :=
  let h := s.fld Reg.FLT_RING_PTR Fld.FLT_RING_PTR_HEAD
  let s := { s with fault := { s.fault with ring := Tbl.set RingEntry.init s.fault.ring (h % 4096) e
                                            seq := (s.fault.seq + 1) % 2 ^ 18 } }
  (s.setFld Reg.FLT_RING_PTR Fld.FLT_RING_PTR_HEAD (h + 1)).fltBump Cnt.FLT_RECORDED

/-- The kinds whose fault fences a numbered unit (R387). -/
def kindFences (k : Nat) : Bool := [0x010, 0x011, 0x030, 0x031, 0x082, 0x083, 0x092].contains k

/-- FAULT_SEQ of the unit that the message's fault has fenced (R395). -/
def State.noteSeq (s : State) (m : FaultMsg) (seq : Nat) : State :=
  match unitOf m.src with
  | none => s
  | some u =>
    if kindFences m.kind ∧ Tbl.get false s.fault.seqWanted u = true then
      { s with fault := { s.fault with seqWanted := Tbl.set false s.fault.seqWanted u false } }.setFld (Reg.FLT_UNIT u)
        Fld.FLT_UNIT_FAULT_SEQ seq
    else s

/-- Tokens in the corrected bucket, whose depth is BURST (R389). -/
def State.corrTokens (s : State) : Nat := min s.fault.tokens (s.fld Reg.FLT_CORR_RATE Fld.FLT_CORR_RATE_BURST)

/-- The ring takes a message of this class now. -/
def State.ringTakes (s : State) (cls : Nat) : Bool :=
  if cls = 0 then decide (s.ringHeld < 3840) && decide (0 < s.corrTokens) else decide (s.ringHeld < 4096)

/-- A message reaches the collector. -/
def State.record (s : State) (m : FaultMsg) (injected : Bool) : State :=
  let s := s.fltBump m.cls
  let take := s.ringTakes m.cls
  let q : Nat × State := if take then (s.fault.seq, s) else (s.draw.1.toNat % 2 ^ 18, s.draw.2)
  let s := q.2
  let ovf := !injected && Tbl.get false s.fault.lost m.src
  let e := s.ringEntryOf m q.1 ovf injected
  let s := s.fltStatus ⟨1 + m.cls, 1⟩
  let s := (s.firstFault 0 e).firstFault (1 + m.cls) e
  let s := if injected then s else s.noteSeq m q.1
  if take then
    let s := s.ringPut e
    { s with fault := { s.fault with tokens := if m.cls = 0 then s.corrTokens - 1 else s.fault.tokens
                                     lost := if injected then s.fault.lost else Tbl.set false s.fault.lost m.src false } }
  else if m.cls = 0 then s.fltBump Cnt.FLT_CORR_SUPPRESSED
  else (s.fltBump Cnt.FLT_RING_LOST).fltStatus Fld.FLT_STATUS_RING_OVF

/-- The order in which waiting messages are recorded (R388). -/
def msgBefore (a b : FaultMsg) : Bool := decide (b.cls < a.cls) || (a.cls == b.cls && decide (a.src ≤ b.src))

/-- FAULT_MESSAGE_RECORD: one collector cycle, up to 8 messages. -/
def faultMessageRecord (s : State) : State :=
  let l := ((s.fault.queues.flatMap (fun e => e.2)).mergeSort msgBefore).take 8
  let s : State := forEach l (fun m t =>
    { t with fault := { t.fault with queues := Tbl.set [] t.fault.queues m.src ((Tbl.get [] t.fault.queues m.src).erase m) } }.record
      m false) s
  s.showUnits

/-- CORR_TOKEN_REFILL: a millisecond's tokens. -/
def corrTokenRefill (s : State) : State :=
  let due := s.fault.tokensAt + msTicks 1
  if s.clk.mono < due then s
  else
    { s with fault := { s.fault with
        tokens := min (s.fld Reg.FLT_CORR_RATE Fld.FLT_CORR_RATE_BURST) (s.fault.tokens + s.fld Reg.FLT_CORR_RATE Fld.FLT_CORR_RATE_RATE)
        tokensAt := due } }

/-- INJECT (R403): the message that FLT.INJECT and INJECT_ADDR describe. -/
def inject (s : State) : State :=
  let a := Reg.FLT_INJECT
  let m : FaultMsg := { src := s.fld a Fld.FLT_INJECT_SOURCE, kind := s.fld a Fld.FLT_INJECT_KIND, cls := s.fld a Fld.FLT_INJECT_CLASS
                        addr := s.fld Reg.FLT_INJECT_ADDR Fld.FLT_INJECT_ADDR_ADDR, todNs := s.clk.ns }
  if m.cls = 3 then s else (s.record m true).fltBump Cnt.FLT_INJECTED

/-! ### Escalation (R395 to R398) -/

/-- The unit is essential: by R385, a complex by the other's state (R406). -/
def State.essential (s : State) (u : Nat) : Bool :=
  if u = 312 then s.down 313 else if u = 313 then s.down 312 else unitEssential u

/-- A refused ESC_CMD. -/
def State.escErr (s : State) (code : Nat) : State :=
  (s.setFld Reg.FLT_ESC_CMD Fld.FLT_ESC_CMD_ERR 1).setFld Reg.FLT_ESC_CMD Fld.FLT_ESC_CMD_ERR_CODE code

def State.stopTimer (s : State) (u : Nat) : State :=
  { s with fault := { s.fault with timers := Tbl.set 0 s.fault.timers u 0 } }

/-- The checks that every ESC_CMD meets first, then `f` (R396). -/
def State.escCmd (s : State) (u : Nat) (states : List Nat) (f : State → State) : State :=
  if s.flag Reg.FLT_ESC_CMD Fld.FLT_ESC_CMD_BUSY then s.escErr 1
  else
    let s := s.setFld Reg.FLT_ESC_CMD Fld.FLT_ESC_CMD_UNIT u
    if 314 < u then s.escErr 2
    else if !states.contains (s.unitState u) then s.escErr 3
    else f s

/-- ESC_RESET. -/
def escReset (u : Nat) (s : State) : State :=
  s.escCmd u [1] (fun s =>
    if !unitRepairable u then s.escErr 4
    else
      let s := if 288 ≤ u ∧ u < 292 then { s with fault := { s.fault with rebuilt := Tbl.set false s.fault.rebuilt u false } } else s
      ((s.startRepair u).setFld Reg.FLT_ESC_CMD Fld.FLT_ESC_CMD_BUSY 1).showUnits)

/-- UNIT_RESET_DONE: STATE 3; a complex whose firmware does not match stays at 2 (R407). -/
def unitResetDone (u : Nat) (ok : Bool) (s : State) : State :=
  if s.unitState u ≠ 2 then s
  else
    let s := if s.fld Reg.FLT_ESC_CMD Fld.FLT_ESC_CMD_UNIT = u then s.setFld Reg.FLT_ESC_CMD Fld.FLT_ESC_CMD_BUSY 0 else s
    if (u = 312 ∨ u = 313) ∧ !ok then
      { s with ccx := { s.ccx with badFirmware := Tbl.set false s.ccx.badFirmware (u - 312) true } }
    else
      let s := if u = 312 ∨ u = 313 then s.loadFirmware (u - 312) else s
      s.setFld (Reg.FLT_UNIT u) Fld.FLT_UNIT_STATE 3

/-- The unit is ready to return (R396, R407). -/
def State.unitReady (s : State) (u : Nat) : Bool :=
  if 272 ≤ u ∧ u < 288 then
    (List.range 16).all (fun h => s.down (unitShard h) || s.reg (Reg.FAE_MC_DIGEST h) == s.reg (Reg.FAE_MC_DIGEST (u - 272)))
  else if 288 ≤ u ∧ u < 292 then Tbl.get false s.fault.rebuilt u
  else if u = 312 ∨ u = 313 then !Tbl.get false s.ccx.badFirmware (u - 312)
  else true

/-- A sync pass starts (R423): the primary walks from the first bucket of shard H0. -/
def State.startPass (s : State) : State :=
  if s.fld Reg.TWN_STATUS Fld.TWN_STATUS_ROLE ≠ 1 ∨ s.fld Reg.TWN_STATUS Fld.TWN_STATUS_PAIR_ERR ≠ 0 ∨ !s.twin.paired then s
  else
    let s := ((s.setSync 1).bump (Reg.TWN_CNT Cnt.TWN_SYNC_PASSES)).setReg Reg.TWN_SYNC 0
    { s with twin := { s.twin with pass := some { shard := 0, slot := 0, region := 0, line := 0 } } }

/-- The twin link returns (R420): equal claims are parted, then the pair resynchronises. -/
def State.twinReturn (s : State) : State :=
  let own := s.fld Reg.TWN_CLAIM Fld.TWN_CLAIM_OWN
  let s := if own = s.fld Reg.TWN_CLAIM Fld.TWN_CLAIM_PARTNER ∧ s.fld Reg.TWN_CFG Fld.TWN_CFG_SIDE = 0 then
      s.setFld Reg.TWN_CLAIM Fld.TWN_CLAIM_OWN (own + 1) else s
  s.startPass

/-- A unit returns to service: what is particular to it, then its links. -/
def State.returnUnit (s : State) (u : Nat) : State :=
  let s := s.unitUp u
  let s := if u = 310 then s.setFld Reg.HIF_STATUS Fld.HIF_STATUS_LINK_UP 0
    else if u = 311 then s.twinReturn
    else if u = 312 ∨ u = 313 then s.hbStart (u - 312)
    else s
  s.resyncUnit u

/-- ESC_RETURN; `acked`: every boundary link acknowledges within its timeout. -/
def escReturn (u : Nat) (acked : Bool) (s : State) : State :=
  s.escCmd u [2, 3] (fun s =>
    if s.unitState u = 2 ∧ ¬ ((u = 312 ∨ u = 313) ∧ Tbl.get false s.ccx.badFirmware (u - 312) = true) then s.escErr 3
    else if !s.unitReady u then s.escErr 5
    else if !acked then s.escErr 6
    else if u = 312 ∨ u = 313 then
      let r := s.returnCc (u - 312)
      if r.1 then ((r.2.returnUnit u).fltBump Cnt.FLT_REPAIRS).showUnits else r.2
    else ((s.returnUnit u).fltBump Cnt.FLT_REPAIRS).showUnits)

/-- A unit is KEPT: fenced until the next cast-on. -/
def State.keepUnit (s : State) (u : Nat) : State :=
  let s := (s.setFld (Reg.FLT_UNIT u) Fld.FLT_UNIT_STATE 4).stopTimer u
  if s.fld Reg.FLT_ESC_CMD Fld.FLT_ESC_CMD_UNIT = u then s.setFld Reg.FLT_ESC_CMD Fld.FLT_ESC_CMD_BUSY 0 else s

/-- KEEP. -/
def escKeep (u : Nat) (s : State) : State :=
  s.escCmd u [1, 2, 3] (fun s =>
    if s.essential u then s.escErr 4 else ((s.keepUnit u).fltBump Cnt.FLT_KEEPS).showUnits)

/-- The window or repair timer of unit u has run out (R397); `cause`: the black box's cause byte (R401). -/
def State.expire (s : State) (u cause : Nat) : State :=
  if s.essential u then
    let s := (s.stopTimer u).fltBump Cnt.FLT_ESCALATED_FATAL
    let s := if s.fault.fatalLine = none then { s with fault := { s.fault with fatalLine := some cause } } else s
    s.sendFault srcCollector 0x040 2 u
  else ((((s.keepUnit u).fltBump Cnt.FLT_EXPIRED_DEGRADED).fltStatus Fld.FLT_STATUS_DEGRADED).jnlQueue (.event (.kept u))).showUnits

/-- ESCALATE. -/
def escEscalate (u : Nat) (s : State) : State := s.escCmd u [1, 2, 3] (fun s => s.expire u 2)

/-- The timer of unit u has run out. -/
def State.timerDone (s : State) (u : Nat) : Bool :=
  let t := Tbl.get 0 s.fault.timers u
  t != 0 && decide (t ≤ s.clk.mono)

/-- ESC_WINDOW_EXPIRY. -/
def escWindowExpiry (u : Nat) (s : State) : State := if s.unitState u = 1 ∧ s.timerDone u then s.expire u 1 else s

/-- REPAIR_TIMEOUT. -/
def repairTimeout (u : Nat) (s : State) : State :=
  if (s.unitState u = 2 ∨ s.unitState u = 3) ∧ s.timerDone u then s.expire u 1 else s

/-- AUTO_REPAIR: the active complex resets a shard fenced by MC_UE, reloads its control store and returns it. -/
def autoRepair (h : Nat) (s : State) : State :=
  let u := unitShard h
  if !s.flag Reg.FLT_CFG Fld.FLT_CFG_AUTO_REPAIR ∨ !s.serving ∨ s.unitState u ≠ 1 ∨ !Tbl.get false s.fault.mcUe u
      ∨ s.timerDone u then s
  else ((s.returnUnit u).fltBump Cnt.FLT_REPAIRS).showUnits

/-- UNIT_LOGIC: a fault in a numbered unit's own logic; that of the shared buffer is fatal (R294). -/
def unitLogic (u code : Nat) (s : State) : State :=
  if u = 308 then s.sendFault srcBuf 0x041 2 code
  else
    let src := if u < 256 then srcPort u else if u < 272 then srcSlice (u - 256) else if u < 288 then srcShard (u - 272)
      else if u < 292 then srcTumbler (u - 288) else if u < 296 then srcTm (u - 292) else if u < 308 then srcDmc (u - 296)
      else if u = 309 then srcBpm else if u = 310 then srcHif else if u = 311 then srcTwin
      else if u < 314 then srcComplex (u - 312) else srcTod
    (s.faultUnit u src 0x031 code).showUnits

/-! ### The fatal stop (R400 to R402) -/

/-- A first-fault register as a ring entry's bytes. -/
def State.firstBytes (s : State) (f : Nat) : List Byte :=
  (List.range 4).flatMap (fun i => leBytes 8 (s.reg (Reg.FLT_FIRST f i)).toNat)

def RingEntry.bytes (e : RingEntry) : List Byte :=
  leBytes 8 e.w0.toNat ++ leBytes 8 e.w1.toNat ++ leBytes 8 e.w2.toNat ++ leBytes 8 e.w3.toNat

def State.countUnits (s : State) (p : Nat → Bool) : Nat := ((List.range 315).filter (fun u => p (s.unitState u))).length

/-- FATAL_STATE.RESETS. -/
def State.fatalResets (s : State) : Nat := s.fld Reg.FLT_FATAL_STATE Fld.FLT_FATAL_STATE_RESETS

/-- The policy that applies: 0 reset, 1 hold, 2 hold forced by the reset limit (R401, R402). -/
def State.fatalPolicy (s : State) : Nat :=
  let n := s.fld Reg.FLT_CFG Fld.FLT_CFG_FATAL_RESET_LIMIT
  if s.flag Reg.FLT_CFG Fld.FLT_CFG_FATAL_POLICY then 1 else if n ≠ 0 ∧ n ≤ s.fatalResets then 2 else 0

/-- Payloads of the 69 records of a black box (R401). -/
def State.blackBox (s : State) (cause : Nat) : List (List Byte) :=
  let r0 := leBytes 8 s.clk.mono ++ leBytes 6 s.clk.sec ++ leBytes 4 s.clk.ns ++ leBytes 1 cause ++ leBytes 1 s.fatalPolicy
    ++ leBytes 1 s.fatalResets ++ leBytes 1 s.phase ++ leBytes 1 (s.fld Reg.CST_STATUS Fld.CST_STATUS_LAYER) ++ leBytes 1 0
    ++ leBytes 8 (s.reg Reg.CST_IMAGE).toNat ++ leBytes 2 (s.countUnits (fun x => x == 1 || x == 2 || x == 3))
    ++ leBytes 2 (s.countUnits (fun x => x == 4))
  let h := s.fld Reg.FLT_RING_PTR Fld.FLT_RING_PTR_HEAD
  [r0, s.firstBytes 3, s.firstBytes 2, s.firstBytes 1, s.firstBytes 0]
    ++ (List.range 64).map (fun i => (Tbl.get RingEntry.init s.fault.ring ((h + 8191 - i) % 4096)).bytes)

/-- The black box is written at once, or BB_FAIL is set. -/
def State.writeBox (s : State) (cause : Nat) : State :=
  if !s.cast.jnlOk then s.fltStatus Fld.FLT_STATUS_BB_FAIL
  else
    let s := s.jnlWrite { what := .blackBox, payloads := s.blackBox cause }
    (s.fltBump Cnt.FLT_BB_WRITTEN).setFld Reg.FLT_FATAL_STATE Fld.FLT_FATAL_STATE_LAST_BB_SEQ
      (s.fld Reg.CST_JNL_SEQ Fld.CST_JNL_SEQ_SEQ - 1)

/-- Frames, copies and work items inside the device that its stop discards: all but those that a MAC is sending. -/
def State.framesInside (s : State) : Nat :=
  (s.ports.map (fun e => e.2.fifo.length + e.2.out.length + (e.2.egr.map (fun c => c.2.length)).sum)).sum
    + (s.tm.relIn.map (fun e => e.2.length)).sum + (s.tm.queues.map (fun e => e.2.length)).sum
    + (s.shards.map (fun e => (e.2.inputs.map (fun l => l.2.length)).sum + (e.2.groups.map (fun g => g.2.entries.length)).sum)).sum

/-- Cells of the copies that MACs are sending. -/
def State.sendingCells (s : State) : List Nat :=
  s.ports.flatMap (fun e =>
    match e.2.tx with
    | none => []
    | some t => match t.copy.body with | .frame head cnt _ => s.chain head cnt | .own c _ => [c] | .pool _ _ _ => [])

/-- The frames still inside are discarded and counted (R27, R400): ports, slices, shards, TMs and egress slices stand empty, each frame in
progress ends by its own steps, and the other cells are free. -/
def State.discardInside (s : State) : State :=
  let n := s.framesInside
  let keep := s.sendingCells
  let s : State := forEach (s.ports.map (fun e => e.1)) (fun p t =>
    let x := t.port p
    t.setPort p { x with fifo := [], out := [], egr := [], gateWaited := 0
                         rx := x.rx.map (fun r => { r with fifoFull := true, inFifo := false }) }) s
  let s : State := forEach (s.shards.map (fun e => e.1)) (fun h t =>
    t.setShard h { t.shard h with inputs := [], ready := [], parked := [], groups := [], threads := [] }) s
  { s with
    tm := { s.tm with relIn := [], queues := [] }
    buf := { s.buf with use := Tbl.drop s.buf.use (fun c => !keep.contains c && Tbl.get CellUse.free s.buf.use c != .withdrawn)
                        refs := Tbl.drop s.buf.refs (fun c => !keep.contains c) }
    fault := { s.fault with stopDiscards := s.fault.stopDiscards + n } }

/-- The datapath stops: FATAL_SEEN, DEV_READY clear, the frames inside are discarded, and the black box is written. -/
def State.stopDevice (s : State) (cause : Nat) : State :=
  let s := ((faultMessageRecord s).fltStatus Fld.FLT_STATUS_FATAL_SEEN).setFld Reg.GLB_STATUS Fld.GLB_STATUS_DEV_READY 0
  let f : FaultSt := { s.fault with stopped := true }
  (State.discardInside { s with fault := f }).writeBox cause

/-- The policy: the device casts on again, or holds. -/
def State.applyPolicy (s : State) : State :=
  if s.fatalPolicy = 0 then
    State.recast (s.setFld Reg.FLT_FATAL_STATE Fld.FLT_FATAL_STATE_RESETS (min 15 (s.fatalResets + 1))) 3
  else s.setFld Reg.FLT_FATAL_STATE Fld.FLT_FATAL_STATE_HOLDING 1

/-- FATAL_STOP. -/
def fatalStop (s : State) : State :=
  match s.fault.fatalLine with
  | none => s
  | some cause => if s.fault.stopped then s else (s.stopDevice cause).applyPolicy

/-- FATAL_CLEAR: FATAL_CLEAR_S seconds in RUN. -/
def fatalClear (s : State) : State :=
  match s.fault.runSince with
  | none => s
  | some t =>
    if s.clk.mono < t + 1000 * msTicks (s.fld Reg.FLT_CFG Fld.FLT_CFG_FATAL_CLEAR_S) then s
    else s.setFld Reg.FLT_FATAL_STATE Fld.FLT_FATAL_STATE_RESETS 0

/-! ### The PMU's monitors -/

/-- PD_AON logic goes over to REFCLK or the oscillator; TOD and MONO stop (R429). -/
def State.clkFallback (s : State) : State :=
  if s.power.fallback then s
  else
    let s := ((s.setFld Reg.PMU_STATUS Fld.PMU_STATUS_CLK_FALLBACK 1).setFld Reg.PMU_STATUS Fld.PMU_STATUS_MAIN_LOCK 0).bump
      (Reg.PMU_CNT Cnt.PMU_CLK_FALLBACKS)
    { s with power := { s.power with fallback := true }, clk := { s.clk with running := false } }

/-- The monitor of a domain is masked: the domain is SWITCHING or OFF. -/
def State.monitorMasked (s : State) (d : Nat) : Bool := s.dom d == 0 || s.dom d == 3

/-- PLL_UNLOCK. -/
def pllUnlock (which d : Nat) (s : State) : State :=
  if which = 0 then (s.sendFault srcPmu 0x042 2 0).clkFallback
  else if which = 1 then
    if s.dram.freq ≠ .idle then s
    else (s.setFld Reg.PMU_STATUS Fld.PMU_STATUS_DRAM_LOCK 0).sendFault srcPmu 0x042 2 1
  else if which = 2 then (if s.monitorMasked d ∨ (32 ≤ d ∧ d ≠ 77) then s else s.sendFault srcPmu 0x042 2 2)
  else s.sendFault srcPmu 0x042 2 3

/-- REFCLK_LOSS: PLL_MAIN loses lock with it. -/
def refclkLoss (s : State) : State := (s.sendFault srcPmu 0x042 2 0).clkFallback

/-- SUPPLY_FAULT: a rail outside its window for `us` µs. -/
def supplyFault (r d us mv : Nat) (s : State) : State :=
  let s := (s.setFld (Reg.PMU_RAIL r) Fld.PMU_RAIL_GOOD 0).setFld (Reg.PMU_RAIL r) Fld.PMU_RAIL_MV mv
  if us < 2 ∨ s.monitorMasked d = true then s else s.sendFault srcPmu 0x044 2 d

/-- A reading in quarter degrees. -/
def tempOf (x : Nat) : Int := signed 12 x

/-- TEMP_SAMPLE: the sixteen sensors are read. -/
def tempSample (t : List (BitVec 12)) (s : State) : State :=
  let a := Reg.PMU_THERM
  let warn : Int := ((4 * s.fld a Fld.PMU_THERM_WARN_C : Nat) : Int)
  let trip : Int := ((4 * s.fld a Fld.PMU_THERM_TRIP_C : Nat) : Int)
  let l := t.take 16
  let reached := l.zipIdx.any (fun x => decide (warn ≤ tempOf x.1.toNat) && decide (tempOf (s.fld (Reg.PMU_TEMP x.2) Fld.PMU_TEMP_TEMP) < warn))
  let top := l.foldl (fun (m : Int) x => max m (tempOf x.toNat / 4)) 0
  let s : State := forEach l.zipIdx (fun x t => t.setFld (Reg.PMU_TEMP x.2) Fld.PMU_TEMP_TEMP x.1.toNat) s
  let s := s.setFld a Fld.PMU_THERM_MAX_C (max (s.fld a Fld.PMU_THERM_MAX_C) (min 255 top.toNat))
  let s := if reached then (s.setFld Reg.PMU_STATUS Fld.PMU_STATUS_TEMP_WARN 1).bump (Reg.PMU_CNT Cnt.PMU_TEMP_WARNS) else s
  match l.zipIdx.find? (fun x => decide (trip ≤ tempOf x.1.toNat)) with
  | none => s
  | some x => if s.fault.stopped then s else s.sendFault srcPmu 0x043 2 x.2

/-! ### Commands -/

def execFaultMessageRecord (s : State) : Out := done s (faultMessageRecord s)
def execCorrTokenRefill (s : State) : Out := done s (corrTokenRefill s)
def execInject (s : State) : Out := done s (inject s)
def execEscReset (u : Fin 512) (s : State) : Out := done s (escReset u.val s)
def execUnitResetDone (u : Fin 315) (ok : Bool) (s : State) : Out := done s (unitResetDone u.val ok s)
def execEscReturn (u : Fin 512) (acked : Bool) (s : State) : Out := done s (escReturn u.val acked s)
def execKeep (u : Fin 512) (s : State) : Out := done s (escKeep u.val s)
def execEscalate (u : Fin 512) (s : State) : Out := done s (escEscalate u.val s)
def execEscWindowExpiry (u : Fin 315) (s : State) : Out := done s (escWindowExpiry u.val s)
def execRepairTimeout (u : Fin 315) (s : State) : Out := done s (repairTimeout u.val s)
def execAutoRepair (h : Fin 16) (s : State) : Out := done s (autoRepair h.val s)
def execUnitLogic (u : Fin 315) (code : Fin 65536) (s : State) : Out := done s (unitLogic u.val code.val s)
def execFatalStop (s : State) : Out := done s (fatalStop s)
def execFatalClear (s : State) : Out := done s (fatalClear s)
def execPllUnlock (which : Fin 4) (d : Fin 80) (s : State) : Out := doneClk s (pllUnlock which.val d.val s)
def execRefclkLoss (s : State) : Out := doneClk s (refclkLoss s)
def execSupplyFault (r : Fin 7) (d : Fin 80) (us mv : Nat) (s : State) : Out := done s (supplyFault r.val d.val us mv s)
def execTempSample (t : List (BitVec 12)) (s : State) : Out := done s (tempSample t s)

end Sys2Proof.Machine
end

