-- ==== Sys2Proof/Machine/CastOn.lean ====
section
/-! DEFINITION. Cast-on (R342 to R345): its phases one by one, refusals, the factory layer (R340), trials (R339). -/

namespace Sys2Proof.Machine

def State.setPhase (s : State) (n : Nat) : State := s.setFld Reg.CST_STATUS Fld.CST_STATUS_PHASE n

/-- Cast-on works in phase n: SYS_RESET_N is high and no fatal stop or SHUTDOWN holds the device. -/
def State.inPhase (s : State) (n : Nat) : Bool :=
  s.phase == n && !s.power.sysResetLow && !s.fault.stopped && !s.power.shutdown

/-! ### Refusals (R345) -/

/-- ATTEMPT[a] and ATTEMPT_VAL[a] of the present attempt. -/
def State.noteAttempt (s : State) (code kind index demand limit : Nat) : State :=
  let i := s.cast.attempts
  let slot := match s.cast.slot with
    | none => 0
    | some k => k + 1
  if 2 ≤ i then s
  else
    let a := Reg.CST_ATTEMPT i
    let s := ((s.setFld a Fld.CST_ATTEMPT_CODE code).setFld a Fld.CST_ATTEMPT_OBJ_KIND kind).setFld a Fld.CST_ATTEMPT_OBJ_INDEX index
    let s := (s.setFld a Fld.CST_ATTEMPT_SLOT slot).setFld a Fld.CST_ATTEMPT_VALID 1
    let b := Reg.CST_ATTEMPT_VAL i
    (s.setFld b Fld.CST_ATTEMPT_VAL_DEMAND (min demand 4294967295)).setFld b Fld.CST_ATTEMPT_VAL_LIMIT (min limit 4294967295)

/-- A SLOT entry of slot k for the image it holds (R341). A slot whose header spells no image of the slot's size has no version, SVN,
length or digest for its entry: they are open there (assumption log 51). -/
def State.slotEntry (s : State) (k : Nat) (kind : SlotKind) : State :=
  if s.formatOk k && decide (s.imgLen k ≤ s.slotLen) && decide (s.imgSig k ≤ s.slotLen) then
    s.jnlQueue (.slot k kind (s.imgVersion k) (s.imgSvn k) (s.imgLen k) (s.imgDigest k))
  else
    let x := s.drawBytes 9
    x.2.jnlQueue (.slot k kind (leNat (bytesAt x.1 0 8)) (leNat (bytesAt x.1 8 1)) (leNat (bytesAt x.1 16 8)) (bytesAt x.1 24 48))

/-- A trial of slot k has ended without CONFIRM: REVOKE, REVERTED, REVERTS. -/
def State.revokeTrial (s : State) (k : Nat) : State :=
  ((s.slotEntry k .revoke).setFld Reg.CST_STATUS Fld.CST_STATUS_REVERTED 1).cstBump Cnt.CST_REVERTS

/-- The attempt is refused; a refused trial is revoked; phase RETRY follows. -/
def State.refuseImage (s : State) (r : Refuse) : State :=
  let s := s.noteAttempt r.code r.kind r.index r.demand r.limit
  let s := (s.setFld Reg.CST_STATUS Fld.CST_STATUS_REFUSED_SEEN 1).cstBump Cnt.CST_ATTEMPTS_REFUSED
  let s := match s.cast.slot with
    | none => s
    | some k => if s.cast.trial then s.revokeTrial k else s
  let s := { s with cast := { s.cast with attempts := s.cast.attempts + 1, slot := none, trial := false, image := []
                                          tables := ImageTables.init, env := [] } }
  s.setPhase 13

/-- A phase ends: refused, or the next one begins. -/
def endPhase (next : Nat) (x : Option Refuse × State) : State :=
  match x.1 with
  | some r => x.2.refuseImage r
  | none => x.2.setPhase next

/-- Attempts of this cast-on as a CASTON_RESULT carries them (R352). -/
def State.attemptWords (s : State) : List (Word64 × Word64) :=
  ((List.range 2).filter (fun i => s.flag (Reg.CST_ATTEMPT i) Fld.CST_ATTEMPT_VALID)).map
    (fun i => (s.reg (Reg.CST_ATTEMPT i), s.reg (Reg.CST_ATTEMPT_VAL i)))

/-- A CASTON_RESULT entry joins the journal's queue. -/
def State.resultEntry (s : State) (tried : Bool) : State :=
  s.jnlQueue (.result (s.fld Reg.CST_STATUS Fld.CST_STATUS_CAUSE) (s.cast.slot.getD 0) tried s.attemptWords)

/-! ### RESET, FUSES, JOURNAL, SELECT -/

/-- PHASE_RESET: with every rail good PLL_MAIN locks; a rail that is missing holds the phase (R436). -/
def phaseReset (rail : Option (Fin 7)) (s : State) : State :=
  if !s.inPhase 0 then s
  else
    match rail with
    | some r => (s.setFld Reg.PMU_STATUS Fld.PMU_STATUS_RAIL_MISSING 1).setFld (Reg.PMU_RAIL r.val) Fld.PMU_RAIL_GOOD 0
    | none =>
      let a := Reg.PMU_STATUS
      let s := ((s.setFld a Fld.PMU_STATUS_RAIL_MISSING 0).setFld a Fld.PMU_STATUS_MAIN_LOCK 1).setFld a Fld.PMU_STATUS_CLK_FALLBACK 0
      let s : State := forUpTo 7 (fun r t => t.setFld (Reg.PMU_RAIL r) Fld.PMU_RAIL_GOOD 1) s
      let s : State := forUpTo 7 (fun j t => t.setDom (68 + j) 0) s
      let s := { s with clk := { s.clk with running := true }, power := { s.power with fallback := false } }
      (s.cstBump Cnt.CST_CASTONS).setPhase 1

/-- PHASE_FUSES. -/
def phaseFuses (s : State) : State := if !s.inPhase 1 then s else s.senseFuses.setPhase 2

/-- HEAD and SEQ after the newest valid entry (R353). -/
def State.findHead (s : State) : State :=
  let l := s.jnlEntries
  let s := s.bumpBy (Reg.CST_CNT Cnt.CST_JNL_TORN) s.jnlTorn
  let s := s.setFld Reg.CST_JNL_STATUS Fld.CST_JNL_STATUS_SIZE s.cast.jnlLen
  match newestOf l (fun _ => true) with
  | none => (s.setFld Reg.CST_JNL_STATUS Fld.CST_JNL_STATUS_HEAD 0).setFld Reg.CST_JNL_SEQ Fld.CST_JNL_SEQ_SEQ 0
  | some e => (s.setFld Reg.CST_JNL_STATUS Fld.CST_JNL_STATUS_HEAD ((e.first + e.count + 1) % s.cast.jnlLen)).setFld Reg.CST_JNL_SEQ
      Fld.CST_JNL_SEQ_SEQ (e.seq + 1)

/-- The candidates of a readable journal, newest first (R338); trials used are revoked (R339). -/
def State.candidates (s : State) : State :=
  let st (k : Nat) : SlotState × Nat := s.slotState k
  let can (k : Nat) : Bool := (st k).1 == .committed || (st k).1 == .untried
  let l := if (st 1).2 ≤ (st 0).2 then [0, 1] else [1, 0]
  let used := [0, 1].filter (fun k => (st k).1 == .used)
  let c := (l.filter can).map (fun k => (k, (st k).1 == .untried))
  forEach used (fun k t => t.revokeTrial k) { s with cast := { s.cast with cands := c } }

/-- PHASE_JOURNAL; `fail`: the journal device does not answer or cannot be read (R341). -/
def phaseJournal (fail : Bool) (s : State) : State :=
  if !s.inPhase 2 then s
  else if fail then
    let s := s.setFld Reg.CST_STATUS Fld.CST_STATUS_JNL_FAIL 1
    let l := if s.imgVersion 0 < s.imgVersion 1 then [1, 0] else [0, 1]
    let c := l.map (fun k => (k, false))
    State.setPhase { s with cast := { s.cast with jnlOk := false, jq := [], cands := c } } 3
  else if !s.cast.jq.isEmpty then s
  else
    let s := s.setFld Reg.CST_STATUS Fld.CST_STATUS_JNL_FAIL 0
    (State.findHead { s with cast := { s.cast with jnlOk := true } }).candidates.setPhase 3

/-- SELECT's choice of the next candidate; a trial's CASTON_RESULT with TRIED joins the journal's queue (R339). -/
def State.choose (s : State) : State :=
  match s.cast.cands with
  | [] => s
  | (k, t) :: r =>
    let s := { s with cast := { s.cast with cands := r, slot := some k, trial := t, chosen := true } }
    if t then s.resultEntry true else s

/-- PHASE_SELECT: it does not leave while an entry waits or the bucket is below 0 (R354). -/
def phaseSelect (s : State) : State :=
  if !s.inPhase 3 then s
  else
    let s := if s.cast.chosen then s else s.choose
    if !s.cast.jq.isEmpty ∨ s.jnlTokens < 0 then s
    else if s.cast.chosen then State.setPhase { s with cast := { s.cast with chosen := false } } 4
    else s.setPhase 12

/-! ### VERIFY to ADMIT -/

/-- PHASE_VERIFY; `readFail`: the slot cannot be read. -/
def phaseVerify (readFail : Bool) (s : State) : State :=
  match s.cast.slot with
  | none => s
  | some k => if !s.inPhase 4 then s else endPhase 5 (s.verifyImage k readFail)

/-- Both complexes are loaded and run: CC-A with claim 2 is active, CC-B with claim 1 is standby (R405). -/
def State.startComplexes (s : State) : State :=
  let s := ((((s.loadFirmware 0).loadFirmware 1).setClaim 0 2).setClaim 1 1).setFld Reg.CCX_STATUS Fld.CCX_STATUS_ACTIVE 0
  ((s.setFld Reg.CCX_TAKEOVERS Fld.CCX_TAKEOVERS_COUNT 0).hbStart 0).hbStart 1

/-- PHASE_FIRMWARE; `fail`: the firmware fails its load self-check; `version`: what it reports. -/
def phaseFirmware (fail : Bool) (version : Word64) (s : State) : State :=
  match s.cast.slot with
  | none => s
  | some k =>
    if !s.inPhase 5 then s
    else if fail then
      let i := ((s.sectionTable k).zipIdx.find? (fun x => x.1.ty == 0x0001)).map (fun x => x.2)
      s.refuseImage { code := 0x0107, kind := 2, index := i.getD 0 }
    else
      let v := version.toNat % 4294967296
      let s : State := forUpTo 2 (fun x t => t.setFld (Reg.CCX_FW x) Fld.CCX_FW_VERSION v) s.startComplexes
      s.setPhase 6

/-- PHASE_CONFIG. -/
def phaseConfig (s : State) : State :=
  match s.cast.slot with
  | none => s
  | some k => if !s.inPhase 6 then s else endPhase 7 (s.configImage k)

/-- What the operand says of a section of the signed image stands only where the image in slot k has that section (R9, R335; what its
bytes spell is the operand's, assumption log 47). -/
def State.ofSection (s : State) (k ty : Nat) (l : List α) : List α := if (s.sectionOf k ty).isSome then l else []

/-- The tables of the sections that the signed image has (R335). -/
def State.signedTables (s : State) (k : Nat) (t : ImageTables) : ImageTables :=
  { t with
    tmb := s.ofSection k 0x0005 t.tmb, macs := s.ofSection k 0x0006 t.macs, nextHops := s.ofSection k 0x0007 t.nextHops
    groups := s.ofSection k 0x0008 t.groups, gates := s.ofSection k 0x000A t.gates, counts := s.ofSection k 0x0003 t.counts
    exporter := if (s.sectionOf k 0x000C).isSome then t.exporter else none }

/-- PHASE_DRAM. -/
def phaseDram (bad : List TrainFail) (init : List (Nat × List Byte)) (s : State) : State :=
  match s.cast.slot with
  | none => s
  | some k => if !s.inPhase 7 then s else endPhase 8 (s.dramPhase bad (s.ofSection k 0x0009 init))

/-- PHASE_TABLES. -/
def phaseTables (t : ImageTables) (bad : Option (Fin 16)) (s : State) : State :=
  match s.cast.slot with
  | none => s
  | some k => if !s.inPhase 8 then s else endPhase 9 (s.tablesPhase k (s.signedTables k t) (bad.map (fun h => h.val)))

/-- PHASE_ADMIT. -/
def phaseAdmit (s : State) : State :=
  match s.cast.slot with
  | none => s
  | some k => if !s.inPhase 9 then s else endPhase 10 (s.admitPhase k)

/-! ### ARM and RUN -/

/-- An image gate list takes over now (R324). -/
def State.armImageGate (s : State) (g : GateLoad) : State :=
  let l : GateList := { bank := 1, len := g.entries.length, start := s.clk.nanos }
  (s.setGate g.port { s.gate g.port with pending := some l }).gateTakeover g.port

/-- The held ENABLE bits of macro n are applied. -/
def State.applyEnable (s : State) (n : Nat) : State :=
  match s.cast.image.find? (fun e => e.1 == Reg.PRT_CTL n) with
  | none => s
  | some (_, w) =>
    if !s.domOn (domSd n) then s
    else
      let s := if w.get Fld.PRT_CTL_ENABLE0 = 1 then portEnable (2 * n) s else s
      if w.get Fld.PRT_CTL_ENABLE1 = 1 then portEnable (2 * n + 1) s else s

/-- Every boundary link whose ends are in service comes up (R25). -/
def State.resyncAll (s : State) : State := forUpTo 315 (fun u t => if t.down u then t else t.resyncUnit u) s

/-- PHASE_ARM: it ends once its CASTON_RESULT entry is written. -/
def phaseArm (s : State) : State :=
  if !s.inPhase 10 then s
  else
    let s :=
      if s.cast.chosen then s
      else
        let s : State := forEach s.cast.tables.gates (fun g t => t.armImageGate g) s
        let s : State := forUpTo 256 (fun n t => t.applyEnable n) s
        let s := (s.resyncAll.noteAttempt 0 0 0 0 0).resultEntry s.cast.trial
        { s with cast := { s.cast with chosen := true } }
    if !s.cast.jq.isEmpty then s else State.setPhase { s with cast := { s.cast with chosen := false } } 11

/-- CST.IMAGE and CST.IMAGE_INFO of the running image. -/
def State.showImage (s : State) (k : Nat) : State :=
  let a := Reg.CST_IMAGE_INFO
  let s := (s.setReg Reg.CST_IMAGE (BitVec.ofNat 64 (s.imgVersion k))).setFld a Fld.CST_IMAGE_INFO_SVN (s.imgSvn k)
  let s := (s.setFld a Fld.CST_IMAGE_INFO_CONFIRM_S (s.imgConfirmS k)).setFld a Fld.CST_IMAGE_INFO_RUNTIME_ADMIT (s.imgRuntimeAdmit k)
  s.setFld a Fld.CST_IMAGE_INFO_DIGEST (leNat ((s.imgDigest k).take 4))

/-- CST.TIME, and the vector of EVT_CFG: cast-on has reached RUN or FACTORY. -/
def State.castOnEnds (s : State) : State :=
  (s.setFld Reg.CST_TIME Fld.CST_TIME_LAST_MS (min 4294967295 ((s.clk.mono - s.cast.began) / msTicks 1))).castOnVector

/-- PHASE_RUN: DEV_READY rises, RWI fields lock (R7). -/
def phaseRun (s : State) : State :=
  match s.cast.slot with
  | none => s
  | some k =>
    if !s.inPhase 11 ∨ s.flag Reg.CST_STATUS Fld.CST_STATUS_DONE = true then s
    else
      let a := Reg.CST_STATUS
      let s := ((s.showImage k).setFld a Fld.CST_STATUS_LAYER (k + 1)).setFld a Fld.CST_STATUS_TRIAL (bit s.cast.trial)
      let s := (s.setFld a Fld.CST_STATUS_DONE 1).setFld Reg.GLB_STATUS Fld.GLB_STATUS_DEV_READY 1
      let f : FaultSt := { s.fault with runSince := some s.clk.mono }
      let c : CastSt := { s.cast with runAt := some s.clk.mono }
      State.castOnEnds { s with fault := f, cast := c }

/-- PHASE_FACTORY: the factory layer (R340), in which every field has its factory value (R6), those of the blocks that cast-on does not
reset too; both complexes run ROM firmware under the rules of R405. -/
def phaseFactory (s : State) : State :=
  if !s.inPhase 12 ∨ s.fld Reg.CST_STATUS Fld.CST_STATUS_LAYER = 3 then s
  else
    let s := s.ppsHold.imageFactory.baseIncr.ppsHold
    let s := (s.startComplexes.setFld Reg.CST_STATUS Fld.CST_STATUS_LAYER 3).resultEntry false
    let s : State := forEach ((List.range 75) ++ [domTw]) (fun d t => t.domainOff d) s
    s.castOnEnds

/-- PHASE_RETRY: every block outside PD_AON and the HIF is reset before the next candidate. -/
def phaseRetry (s : State) : State :=
  if !s.inPhase 13 then s
  else
    let s := (s.resetBlocks false).dropClaims
    let s := s.resetRange (Reg.PMU_PD_STATE 0) (Reg.PMU_PD_STATE 3)
    let s : State := forUpTo 7 (fun j t => t.setDom (68 + j) 0) s
    s.setPhase 3

/-! ### RECAST and trials (R339, R342) -/

/-- RECAST. -/
def recastCmd (s : State) : State :=
  if s.power.sysResetLow then s
  else if s.imageWriting then s.setFld Reg.CST_STATUS Fld.CST_STATUS_RECAST_ERR 1
  else s.recast 2

/-- TRIAL is 1 and the confirmation time has not run out. -/
def State.confirmOpen (s : State) : Bool :=
  match s.cast.runAt with
  | none => false
  | some t => decide (s.clk.mono < t + 1000 * msTicks (s.fld Reg.CST_IMAGE_INFO Fld.CST_IMAGE_INFO_CONFIRM_S))

def State.onTrial (s : State) : Bool := s.phase == 11 && s.flag Reg.CST_STATUS Fld.CST_STATUS_TRIAL

/-- CONFIRM. -/
def confirm (s : State) : State :=
  match s.cast.slot with
  | none => s
  | some k =>
    if !s.onTrial ∨ !s.confirmOpen then s
    else
      let s := (s.slotEntry k .confirm).setFld Reg.CST_STATUS Fld.CST_STATUS_TRIAL 0
      { s with cast := { s.cast with trial := false } }

/-- TRIAL_TIMEOUT. -/
def trialTimeout (s : State) : State :=
  match s.cast.slot with
  | none => s
  | some k =>
    if !s.onTrial ∨ s.confirmOpen = true ∨ s.power.sysResetLow = true then s
    else (s.revokeTrial k).recast 4

/-! ### Commands -/

def execPhaseReset (rail : Option (Fin 7)) (s : State) : Out := doneClk s (phaseReset rail s)
def execPhaseFuses (s : State) : Out := done s (phaseFuses s)
def execPhaseJournal (fail : Bool) (s : State) : Out := done s (phaseJournal fail s)
def execPhaseSelect (s : State) : Out := done s (phaseSelect s)
def execPhaseVerify (readFail : Bool) (s : State) : Out := done s (phaseVerify readFail s)
def execPhaseFirmware (fail : Bool) (version : Word64) (s : State) : Out := done s (phaseFirmware fail version s)
def execPhaseConfig (s : State) : Out := doneClk s (phaseConfig s)
def execPhaseDram (bad : List (Fin 12 × Fin 4 × Fin 2 × Fin 5)) (init : List (Nat × List Byte)) (s : State) : Out :=
  done s (phaseDram bad init s)
def execPhaseTables (t : ImageTables) (bad : Option (Fin 16)) (s : State) : Out := done s (phaseTables t bad s)
def execPhaseAdmit (s : State) : Out := done s (phaseAdmit s)
def execPhaseArm (s : State) : Out := done s (phaseArm s)
def execPhaseRun (s : State) : Out := done s (phaseRun s)
def execPhaseFactory (s : State) : Out := doneClk s (phaseFactory s)
def execPhaseRetry (s : State) : Out := done s (phaseRetry s)
def execRecast (s : State) : Out := done s (recastCmd s)
def execConfirm (s : State) : Out := done s (confirm s)
def execTrialTimeout (s : State) : Out := done s (trialTimeout s)

end Sys2Proof.Machine
end

