-- ==== Sys2Proof/Machine/Mcode.lean ====
section
/-! DEFINITION. The microword and what its units compute (R180 to R197): conditions, sequencing, ALUs, header unit, the merge of
STW, and the exceptions of R200. -/

namespace Sys2Proof.Machine

/-! ### Fields (R180) -/

/-- Bits `lo + len - 1` to `lo` of a microword. -/
def mw (m : Microword) (lo len : Nat) : Nat := m.toNat / 2 ^ lo % 2 ^ len

def mwNext (m : Microword) : Nat := mw m 178 14
def mwCond (m : Microword) : Nat := mw m 172 6
def mwSeqOp (m : Microword) : Nat := mw m 168 4
def mwSeqG (m : Microword) : Nat := mw m 164 4
def mwSeqN (m : Microword) : Nat := mw m 160 4
def mwAluA (m : Microword) : Nat := mw m 144 16
def mwAluB (m : Microword) : Nat := mw m 128 16
def mwHdrOp (m : Microword) : Nat := mw m 126 2
def mwHdrG (m : Microword) : Nat := mw m 122 4
def mwHdrLen (m : Microword) : Nat := 2 ^ mw m 120 2
def mwHdrOff (m : Microword) : Nat := mw m 112 8
def mwRecOp (m : Microword) : Nat := mw m 108 4
def mwRecG (m : Microword) : Nat := mw m 104 4
def mwRecWord (m : Microword) : Nat := mw m 100 4
def mwRecMod (m : Microword) : Nat := mw m 96 4
def mwLckOp (m : Microword) : Nat := mw m 94 2
def mwLckG (m : Microword) : Nat := mw m 88 4
def mwChnOp (m : Microword) : Nat := mw m 85 3
def mwChnW (m : Microword) : Nat := mw m 83 2
def mwChnG (m : Microword) : Nat := 8 + mw m 80 3
def mwTmrOp (m : Microword) : Nat := mw m 77 3
def mwTmrG (m : Microword) : Nat := mw m 73 4
def mwSrchOp (m : Microword) : Nat := mw m 69 3
def mwSrchSel (m : Microword) : Nat := mw m 65 4
def mwImm (m : Microword) : Nat := mw m 32 32
def mwBrk (m : Microword) : Bool := mw m 31 1 == 1
def mwCntIdx (m : Microword) : Nat := mw m 16 8
def mwCntEn (m : Microword) : Bool := mw m 15 1 == 1
def mwCntG (m : Microword) : Bool := mw m 14 1 == 1
def mwCntSrc (m : Microword) : Nat := mw m 8 4

/-- A general register of a thread. -/
def Thread.reg (x : Thread) (i : Nat) : Word64 := x.g.getD i 0

/-! ### COND (R183) -/

/-- The record read delivered a record. -/
def Thread.hasRec (x : Thread) : Bool := x.recSt == .found || x.recSt == .created

/-- The conditions 0x02 to 0x07 of a unit's flags. -/
def flagCond (f : AluFlags) (c : Nat) : Bool :=
  let b := if c / 2 = 0 then f.z else if c / 2 = 1 then f.c else f.n
  if c % 2 = 0 then b else !b

/-- The condition holds, from the statuses as they stand at issue. -/
def Thread.cond (x : Thread) (it : Item) (c : Nat) : Bool :=
  match c with
  | 0x00 => false
  | 0x01 => true
  | 0x0E => x.recSt == .found
  | 0x0F => x.recSt == .created
  | 0x10 => x.recSt == .absent
  | 0x11 => x.recSt == .tableFull
  | 0x12 => x.hasRec && x.fresh
  | 0x13 => x.hasRec && !x.fresh
  | 0x14 => x.srch == .hit
  | 0x15 => x.srch == .miss
  | 0x16 => x.srch == .fenced
  | 0x17 => x.lock == .acquired
  | 0x18 => x.lock == .failed
  | 0x19 => x.wake == .event
  | 0x1A => x.wake == .timer
  | 0x1B => x.wake == .broken
  | 0x1C => x.cas == some true
  | 0x1D => it.aging
  | 0x1E => sumGet it.summary sumKeySwap == 1
  | 0x1F => x.auxLost
  | c =>
    if c < 0x08 then flagCond x.fa (c - 2)
    else if c < 0x0E then flagCond x.fb (c - 8)
    else if c < 0x30 then x.reg (c % 16) != 0
    else x.reg (c % 16) == 0

/-! ### Sequencing (R184) -/

/-- Where a program goes after a microword: an address with its call stack, its end, or an exception. -/
inductive SeqRes where
  | go (pc : Nat) (stack : List Nat)
  | stop
  | exc (code : Nat)
  deriving DecidableEq, Repr

/-- An address in range, or exception 2. -/
def goTo (pc : Nat) (stack : List Nat) : SeqRes := if 16384 ≤ pc then .exc 2 else .go pc stack

/-- The sequencing operation. -/
def Thread.seq (x : Thread) (m : Microword) (c : Bool) : SeqRes :=
  if !c then goTo (x.pc + 1) x.stack
  else
    match mwSeqOp m with
    | 0 => goTo (mwNext m) x.stack
    | 1 => if 4 ≤ x.stack.length then .exc 2 else goTo (mwNext m) ((x.pc + 1) % 16384 :: x.stack)
    | 2 => (match x.stack with | [] => .exc 2 | a :: r => goTo a r)
    | 3 => goTo (mwNext m + (x.reg (mwSeqG m)).toNat % 2 ^ min 8 (mwSeqN m)) x.stack
    | 4 => .stop
    | _ => .exc 1

/-! ### ALUs (R186) -/

/-- The lowest one bit of `a` at or above bit `i`, among `n` bits; 64 where there is none. -/
def firstOne (a : Word64) : Nat → Nat → Nat
  | 0, _ => 64
  | n + 1, i => if a.getLsbD i then i else firstOne a n (i + 1)

/-- The result of an operation and its C flag. -/
def aluOp (op : Nat) (a b : Word64) : Word64 × Bool :=
  match op with
  | 0x1 => (a + b, decide (2 ^ 64 ≤ a.toNat + b.toNat))
  | 0x2 => (a - b, decide (a < b))
  | 0x3 => (a &&& b, false)
  | 0x4 => (a ||| b, false)
  | 0x5 => (a ^^^ b, false)
  | 0x6 => (a <<< (b.toNat % 64), false)
  | 0x7 => (a >>> (b.toNat % 64), false)
  | 0x8 => (b, false)
  | 0x9 => (a - b, decide (a < b))
  | 0xA => (if a < b then a else b, false)
  | 0xB => (if a < b then b else a, false)
  | 0xC => if 2 ^ 64 ≤ a.toNat + b.toNat then (BitVec.allOnes 64, true) else (a + b, false)
  | 0xD => if a < b then (0, true) else (a - b, false)
  | 0xE => (BitVec.ofNat 64 (firstOne a (64 - b.toNat % 64) (b.toNat % 64)), false)
  | 0xF => (BitVec.ofNat 64 (a.toNat % 2 ^ 32 * (b.toNat % 2 ^ 32)), false)
  | _ => (0, false)

/-- What an ALU does: the register it writes, and its flags. -/
def Thread.alu (x : Thread) (f imm : Nat) (old : AluFlags) : Option (Nat × Word64) × AluFlags :=
  let op := f / 4096
  if op = 0 then (none, old)
  else
    let b : Word64 := if f % 16 = 15 then BitVec.ofNat 64 imm else x.reg (f % 16)
    let r := aluOp op (x.reg (f / 16 % 16)) b
    let z := if op = 0xE then r.1 == 64 else r.1 == 0
    (if op = 9 then none else some (f / 256 % 16, r.1), { z := z, c := r.2, n := r.1.getLsbD 63 })

/-! ### Header unit (R187) -/

/-- EXTRACT. -/
def extract (it : Item) (hbase off len : Nat) : Word64 :=
  BitVec.ofNat 64
    (if off < 64 then leNat (bytesAt it.bytes off len)
     else beNat ((List.range len).map (fun i => (bytesAt it.hv 0 192).getD ((off - 64 + hbase + i) % 192) 0#8)))

/-- What CANON writes: the key buffer and KLEN.  An aging item has no key layer: key and length are open. -/
def State.canon (s : State) (it : Item) : List Byte × Nat × State :=
  match (if it.aging then none else keyLayer it.hv it.summary) with
  | some i => (it.key, if i.v6 then 40 else 16, s)
  | none =>
    let d0 := s.draw
    let d1 := d0.2.draw
    let d2 := d1.2.draw
    let d3 := d2.2.draw
    let d4 := d3.2.draw
    let d5 := d4.2.draw
    (bytesOf [d0.1, d1.1, d2.1, d3.1, d4.1], if d5.1.getLsbD 0 then 40 else 16, d5.2)

/-- What the header unit does to key buffer, KLEN and HBASE; CANON is applied apart. -/
def Thread.hdr (x : Thread) (m : Microword) : Thread :=
  match mwHdrOp m with
  | 2 =>
    let n := mwHdrLen m
    { x with key := bytesPut x.key (mwHdrOff m) (beBytes n ((x.reg (mwHdrG m)).toNat % 256 ^ n))
             klen := max x.klen (mwHdrOff m + n) }
  | 3 =>
    if mwHdrOff m = 1 then { x with key := List.replicate 40 0, klen := 0 }
    else if mwHdrOff m = 2 then { x with hbase := (x.reg (mwHdrG m)).toNat % 256 }
    else x
  | _ => x

/-! ### Record words (R189) -/

/-- The bits of a record's word that hardware manages. -/
def keptBits (long : Bool) (w : Nat) : Word64 :=
  let meta_ : Word64 := 0x00000000FFFFFC3F
  if w = 0 then BitVec.allOnes 64
  else if long then
    if w ≤ 5 ∨ w = 8 then BitVec.allOnes 64 else if w = 6 then meta_ else 0
  else
    if w ≤ 2 ∨ 8 ≤ w then BitVec.allOnes 64 else if w = 3 then meta_ else 0

/-- STW. -/
def storeWord (rb : List Word64) (w : Nat) (v : Word64) : List Word64 :=
  let k := keptBits (recLong rb) w
  listSet rb w ((rb.getD w 0 &&& k) ||| (v &&& ~~~k))

/-! ### Exceptions (R200) -/

/-- The auxiliary region that a microword addresses: line of the region and word of the line. -/
def Thread.auxAt (x : Thread) (m : Microword) : Nat × Nat :=
  let i := (x.reg (mwRecG m)).toNat
  if mwRecOp m = 0xA then (i / 8, i % 8) else (i, 0)

/-- The causes that a microword has, lowest code first; the timer of `x` is evaluated already. -/
def State.excOf (s : State) (h : Nat) (it : Item) (x : Thread) (m : Microword) : Option Nat :=
  let sq := x.seq m (x.cond it (mwCond m))
  let rop := mwRecOp m
  let isHold := decide (2 ≤ rop) && decide (rop ≤ 7)
  let aux := decide (8 ≤ rop) && decide (rop ≤ 0xA)
  let lines := s.fld (Reg.FAE_AUX_SIZE h (mwRecMod m)) Fld.FAE_AUX_SIZE_LINES
  let lop := mwLckOp m
  let l := (x.reg (mwLckG m)).toNat % 4096
  let top := mwTmrOp m
  if sq = .exc 1 ∨ (mwHdrOp m = 3 ∧ 2 < mwHdrOff m) ∨ 0xD ≤ rop ∨ 3 ≤ mwSrchOp m then some 1
  else if sq = .exc 2 then some 2
  else if (rop = 1 ∧ (lop ≠ 0 ∨ mwChnOp m ≠ 0 ∨ top ≠ 0 ∨ mwSrchOp m ≠ 0 ∨ mwSeqOp m ≠ 0))
      ∨ (lop = 1 ∧ (top = 5 ∨ top = 6)) then some 3
  else if (rop = 1 ∧ (x.readUsed = true ∨ x.locks ≠ [] ∨ x.msgMask ≠ 0 ∨ x.committed = true)) ∨ (isHold = true ∧ x.hold = false) then some 4
  else if (mwChnOp m = 1 ∨ mwChnOp m = 2) ∧ x.committed = true then some 5
  else if aux = true ∧ (lines ≤ (x.auxAt m).1 ∨ (rop ≠ 8 ∧ s.flag (Reg.FAE_AUX_SIZE h (mwRecMod m)) Fld.FAE_AUX_SIZE_WR = false)) then some 6
  else if ((lop = 1 ∨ lop = 2) ∧ 4 ≤ x.locks.length ∧ !x.locks.contains l) ∨ (lop = 3 ∧ !x.locks.contains l) then some 7
  else if top = 6 ∧ x.armed = false ∧ x.fired = false then some 8
  else if (mwHdrOp m = 1 ∧ mwHdrOff m < 64 ∧ 64 < mwHdrOff m + mwHdrLen m) ∨ (mwHdrOp m = 2 ∧ 40 < mwHdrOff m + mwHdrLen m) then some 9
  else if mwSrchOp m = 1 ∧ s.tmbTableOk (h / 4) (mwSrchSel m) = false then some 10
  else none

end Sys2Proof.Machine
end

