-- ==== Sys2Proof/Machine/StdRecord.lean ====
section
/-! DEFINITION. What the standard flow programs keep and compute (R214 to R221, R226, R232, R233, R238 to R244): class parameter
lines, record modules, forwarding words, backends, port maps, connection states, policers, export entries. -/

namespace Sys2Proof.Machine

/-! ### The program set (R214) -/

/-- State offsets of a program's modules; F stands at 0 in every one. -/
structure StdLayout where
  t : Option Nat
  b : Option Nat
  n : Option Nat
  c : Nat
  p : Option Nat
  deriving DecidableEq, Repr

/-- The layout of a program's records; AGE has none of its own. -/
def stdLayout : StdProg → Option StdLayout
  | .count => some { t := none, b := none, n := none, c := 8, p := some 24 }
  | .filter => some { t := some 8, b := none, n := none, c := 12, p := none }
  | .filterMetered => some { t := some 8, b := none, n := none, c := 12, p := some 28 }
  | .balance => some { t := none, b := some 8, n := none, c := 16, p := none }
  | .balanceReturn => some { t := none, b := some 8, n := none, c := 16, p := none }
  | .translateIn => some { t := none, b := none, n := some 8, c := 20, p := none }
  | .translateOut => some { t := none, b := none, n := some 8, c := 20, p := none }
  | .age => none

/-- The standard program that stands at a control-store address: the image names it with the entry point's counts (log 76). -/
def State.stdAt (s : State) (e : Nat) : Option StdProg :=
  match s.cast.tables.counts.find? (fun c => c.entry == e) with
  | none => none
  | some c => c.std

/-! ### The class parameter line (R217) -/

def clAcl : Fld := ⟨0, 4⟩
def clRoute4 : Fld := ⟨4, 4⟩
def clRoute6 : Fld := ⟨8, 4⟩
def clAux : Fld := ⟨12, 4⟩
def clStrict : Fld := ⟨16, 1⟩
def clNewDeny : Fld := ⟨17, 1⟩
def clDenyRecord : Fld := ⟨18, 1⟩
def clRedDrop : Fld := ⟨19, 1⟩
def clExport : Fld := ⟨20, 1⟩
def clApdf : Fld := ⟨21, 1⟩
def clNatSample : Fld := ⟨22, 1⟩
def clReselect : Fld := ⟨23, 1⟩
def clEmpty : Fld := ⟨24, 2⟩
def clLockMargin : Fld := ⟨32, 16⟩
def clPool : Fld := ⟨48, 12⟩

/-- The low and the high half of a parameter word. -/
def loHalf : Fld := ⟨0, 32⟩
def hiHalf : Fld := ⟨32, 32⟩

/-! ### The forwarding word (R221) -/

def fwEgress : Fld := ⟨0, 9⟩
def fwQclass : Fld := ⟨9, 3⟩
def fwNh : Fld := ⟨12, 20⟩
def fwAction : Fld := ⟨32, 2⟩
def fwMirror : Fld := ⟨34, 1⟩
def fwSrc : Fld := ⟨35, 1⟩
def fwHostQ : Fld := ⟨36, 6⟩

/-- The forwarding word of a punt to a host queue. -/
def fwdPunt (queue : Nat) : Word64 := ((0 : Word64).put fwAction 1).put fwHostQ queue

/-- The forwarding word of a drop. -/
def fwdDrop : Word64 := (0 : Word64).put fwAction 2

/-- The forwarding word of a route result (R95): a route with ACTION PUNT punts. -/
def fwdRoute (r : Word64) (queue : Nat) : Word64 :=
  if r.toNat % 4 = 1 then fwdPunt queue
  else (((0 : Word64).put fwEgress (r.get ⟨5, 9⟩)).put fwQclass (r.get ⟨2, 3⟩)).put fwNh (r.get ⟨14, 20⟩)

/-- QOVR and MIRROR of an access rule's result copied into the word (R223). -/
def fwdAcl (a : Option Word64) (w : Word64) : Word64 :=
  match a with
  | none => w
  | some x => (if x.getLsbD 2 then w.put fwQclass (x.get ⟨3, 3⟩) else w).put fwMirror (x.get ⟨6, 1⟩)

/-! ### Bytes of a record's state (R220) -/

/-- A little-endian field of the state bytes. -/
def stGet (st : List Byte) (off n : Nat) : Nat := leNat (bytesAt st off n)

/-- The state bytes with a little-endian field stored. -/
def stPut (st : List Byte) (off n v : Nat) : List Byte := bytesPut st off (leBytes n v)

def stFwd (st : List Byte) : Word64 := BitVec.ofNat 64 (stGet st 0 8)
def stPutFwd (st : List Byte) (w : Word64) : List Byte := stPut st 0 8 w.toNat

/-- BACKEND of an unpinned record of BALANCE and BALANCE_RETURN: the value for no backend (R226, log 77). -/
def noBackend : Nat := 0xFFFF

/-! ### Backends and groups (R226) -/

/-- The bits of a line's word. -/
def lineFld (l : List Word64) (i : Nat) (f : Fld) : Nat := (l.getD i 0).get f

/-- Bytes of a line. -/
def lineBytes (l : List Word64) (off n : Nat) : List Byte := bytesAt (bytesOf l) off n

/-- Line of region 2 that holds slot i of copy c of group g. -/
def selLine (g c i : Nat) : Nat := g * 1024 + c * 512 + i / 32

/-- Slot i of its selection line. -/
def selSlot (l : List Word64) (i : Nat) : Nat := leNat (lineBytes l (i % 32 * 2) 2)

/-- A backend entry: STATE, GROUP and FWD. -/
def backendState (l : List Word64) (b : Nat) : Nat := leNat (lineBytes l (b % 2 * 32 + 18) 1)
def backendGroup (l : List Word64) (b : Nat) : Nat := leNat (lineBytes l (b % 2 * 32 + 20) 2)
def backendFwd (l : List Word64) (b : Nat) : Word64 := BitVec.ofNat 64 (leNat (lineBytes l (b % 2 * 32 + 24) 8))

/-! ### Translation (R232, R233) -/

/-- Address index that a pool pairs with a private address, by the hash of its 4 bytes. -/
def pairedAddr (pool : Word64) (hash : Word64) : Nat :=
  pool.get ⟨0, 16⟩ + (hash.toNat % 2 ^ 32 * pool.get ⟨16, 17⟩) / 2 ^ 32

/-- The public address of an address entry; `none` where it is not VALID. -/
def publicAddr (l : List Word64) (a : Nat) : Option Nat :=
  if leNat (lineBytes l (a % 4 * 16 + 4) 1) % 2 = 1 then some (beNat (lineBytes l (a % 4 * 16) 4)) else none

/-- The port of bit j in shard s, and the bit and the shard of a port. -/
def natPort (s j : Nat) : Nat := 1024 + 16 * j + s
def natBit (port : Nat) : Nat := (port - 1024) / 16
def natShard (port : Nat) : Nat := (port - 1024) % 16

/-- Line n of the bitmap of address a in shard s (region 6), and the line of bit j within it. -/
def bitmapLine (a s n : Nat) : Nat := (a * 16 + s) * 8 + n
def bitLine (j : Nat) : Nat := j / 512

/-- Bits of bitmap line n: line 7 ends with the summary word. -/
def bitsOf (n : Nat) : Nat := if n = 7 then 448 else 512

/-- Bit i of a bitmap line. -/
def lineBit (l : List Word64) (i : Nat) : Bool := (l.getD (i / 64) 0).getLsbD (i % 64)

/-- A bitmap line with bit i stored. -/
def setLineBit (l : List Word64) (i : Nat) (v : Bool) : List Word64 :=
  listSet l (i / 64) ((l.getD (i / 64) 0).put ⟨i % 64, 1⟩ (bit v))

/-- The bitmap line has no 0 bit. -/
def lineFull (l : List Word64) (n : Nat) : Bool := (List.range (bitsOf n)).all (lineBit l)

/-- FULL and AUDIT of the summary word, in bitmap line 7. -/
def sumFull : Fld := ⟨0, 8⟩
def sumAudit : Fld := ⟨16, 12⟩
def sumWord (l : List Word64) : Word64 := l.getD 7 0
def setSum (l : List Word64) (f : Fld) (v : Nat) : List Word64 := listSet l 7 ((sumWord l).put f v)

/-- The summary line with FULL[n] stored. -/
def setFull (l : List Word64) (n : Nat) (v : Bool) : List Word64 := setSum l ⟨n, 1⟩ (bit v)

/-- The line of region 7 that holds the map entry of (a, s, j); the entry takes words 4 (j mod 2) to 4 (j mod 2) + 3 of it. -/
def mapLine (a s j : Nat) : Nat := a * 32256 + (s * 4032 + j) / 2

/-- A port map entry. -/
structure MapEntry where
  privAddr : Nat
  privPort : Nat
  zone : Nat
  remAddr : Nat
  remPort : Nat
  stamp : Nat
  allocated : Bool
  proto : Nat
  time : Nat
  deriving DecidableEq, Repr

/-- The entry of bit j in its line. -/
def mapGet (l : List Word64) (j : Nat) : MapEntry :=
  let w (i : Nat) : Word64 := l.getD (j % 2 * 4 + i) 0
  { privAddr := (w 0).get ⟨0, 32⟩, privPort := (w 0).get ⟨32, 16⟩, zone := (w 0).get ⟨48, 16⟩
    remAddr := (w 1).get ⟨0, 32⟩, remPort := (w 1).get ⟨32, 16⟩, stamp := (w 1).get ⟨48, 16⟩
    allocated := (w 2).get ⟨0, 2⟩ == 1, proto := (w 2).get ⟨8, 8⟩, time := (w 3).get ⟨0, 32⟩ }

/-- The line with the entry of bit j stored; its other bits are 0. -/
def mapPut (l : List Word64) (j : Nat) (e : MapEntry) : List Word64 :=
  let w (i : Nat) (x : Nat) (m : List Word64) : List Word64 := listSet m (j % 2 * 4 + i) (BitVec.ofNat 64 x)
  w 3 (e.time % 2 ^ 32) (w 2 (bit e.allocated + e.proto % 256 * 2 ^ 8)
    (w 1 (e.remAddr % 2 ^ 32 + e.remPort % 65536 * 2 ^ 32 + e.stamp % 65536 * 2 ^ 48)
      (w 0 (e.privAddr % 2 ^ 32 + e.privPort % 65536 * 2 ^ 32 + e.zone % 65536 * 2 ^ 48) l)))

/-- The entry freed at PT value `pt` (R236). -/
def MapEntry.free (e : MapEntry) (pt : Nat) : MapEntry :=
  { e with allocated := false, stamp := (e.stamp + 1) % 65536, time := pt }

/-- A PT interval (R216). -/
def ptSince (now past : Nat) : Nat := (now + 2 ^ 32 - past) % 2 ^ 32

/-- A free entry may be taken (R234). -/
def MapEntry.reusable (e : MapEntry) (pt hold : Nat) : Bool :=
  (!e.allocated && decide (hold ≤ ptSince pt e.time)) || (e.stamp == 0 && e.time == 0)

/-! ### Connection tracking (R238, R239) -/

/-- What tracking sees of a packet. -/
structure Seen where
  tcp : Bool
  udp : Bool
  /-- An ICMP or ICMPv6 echo request or reply, and whether it is a reply. -/
  echo : Bool
  echoReply : Bool
  syn : Bool
  ack : Bool
  fin : Bool
  rst : Bool
  /-- From the originator of the record. -/
  orig : Bool
  deriving DecidableEq, Repr

/-- A packet as tracking sees it; a fragment is of no tracked kind (R239). -/
def seenOf (hv : List Byte) (i : IpInfo) (orig : Bool) : Seen :=
  let whole := !i.frag && !i.cut
  let f := vecByte hv (i.l4off + 13)
  let ty := vecByte hv i.l4off
  let icmp := whole && i.proto == 1 && !i.v6
  let icmp6 := whole && i.proto == 58 && i.v6
  { tcp := whole && i.proto == 6, udp := whole && i.proto == 17
    echo := (icmp && (ty == 8 || ty == 0)) || (icmp6 && (ty == 128 || ty == 129))
    echoReply := (icmp && ty == 0) || (icmp6 && ty == 129)
    syn := f.testBit 1, ack := f.testBit 4, fin := f.testBit 0, rst := f.testBit 2, orig := orig }

/-- The state that a first packet enters; `none` for a packet that STRICT_TCP makes invalid. -/
def connFirst (strict : Bool) (p : Seen) : Option Nat :=
  if p.tcp then
    if p.syn && !p.ack then some 1 else if strict then none else some 3
  else if p.udp then some 7
  else if p.echo then some 9
  else some 11

/-- The packet is one of the invalid packets of a record in this state. -/
def connInvalid (st : Nat) (p : Seen) : Bool :=
  p.tcp && ((st == 1 && p.orig && !p.syn) || (st == 1 && !p.orig && !(p.syn && p.ack) && !p.rst)
    || (st == 6 && !(p.orig && p.syn && !p.ack)))

/-- State and CT_FLAGS after a packet that is not invalid. -/
def connNext (st flags : Nat) (p : Seen) : Nat × Nat :=
  let flag := if p.orig then 1 else 2
  if 1 ≤ st ∧ st ≤ 6 ∧ p.tcp = true then
    if p.rst = true ∧ st ≠ 6 then (6, flags)
    else if st ≤ 3 ∧ p.fin = true then
      let f := flags ||| flag
      (if f % 4 = 3 then 5 else 4, f)
    else if st = 1 ∧ p.orig = false ∧ p.syn = true ∧ p.ack = true then (2, flags)
    else if st = 2 ∧ p.orig = true ∧ p.ack = true ∧ p.syn = false then (3, flags)
    else if st = 4 ∧ p.fin = true ∧ flags &&& flag = 0 then (5, flags ||| flag)
    else if st = 5 ∧ p.orig = true ∧ p.syn = true ∧ p.ack = false then (1, 0)
    else if st = 6 ∧ p.orig = true ∧ p.syn = true ∧ p.ack = false then (1, flags)
    else (st, flags)
  else if st = 7 ∧ p.orig = false then (8, flags)
  else if st = 9 ∧ p.orig = false ∧ p.echoReply = true then (10, flags)
  else (st, flags)

/-! ### The program policer (R242) -/

/-- Tokens and time of module P. -/
structure Policer where
  tc : Nat
  tp : Nat
  last : Nat
  deriving DecidableEq, Repr

/-- The buckets refilled at PT value `pt`. -/
def Policer.refill (x : Policer) (pt cir pir cbs pbs : Nat) : Policer :=
  let e := ptSince pt x.last
  { tc := min (x.tc + e * cir / 1024) cbs, tp := min (x.tp + e * pir / 1024) pbs, last := pt }

/-- The decision for a frame of `len` bytes: 0 green, 1 yellow, 2 red. -/
def Policer.take (x : Policer) (len : Nat) : Nat × Policer :=
  let l := 16 * len
  if x.tp < l then (2, x)
  else if x.tc < l then (1, { x with tp := x.tp - l })
  else (0, { x with tp := x.tp - l, tc := x.tc - l })

/-! ### Export entries (R244) -/

/-- What an entry says beyond the item. -/
structure ExportInfo where
  seq : Word64
  pkts : Nat
  octets : Nat
  reason : Nat
  start : Nat
  swap : Bool
  egress : Nat
  backend : Option Nat
  /-- Address, port, and 0 for a source, 1 for a destination that is translated. -/
  nat : Option (Nat × Nat × Nat)
  deriving DecidableEq, Repr

/-- Words E0 to E15 of the entry that an item exports. -/
def exportWords (it : Item) (key : List Byte) (x : ExportInfo) : List Word64 :=
  let v6 := vecByte key 0 == 6
  let tpl := (if v6 then 1 else 0) + (if x.backend.isSome || x.nat.isSome then 2 else 0)
  let n (v : Nat) : Word64 := BitVec.ofNat 64 v
  let inPort := if it.aging then 0 else sumGet it.summary sumInPort
  [x.seq] ++ wordsOf 5 (pad40 key)
    ++ [n (x.pkts % 2 ^ 40 + x.reason * 2 ^ 40 + tpl * 2 ^ 44 + inPort * 2 ^ 48 + bit x.swap * 2 ^ 57),
        n (x.octets % 2 ^ 48 + x.egress * 2 ^ 48),
        n (x.start + ptOf it.tsMono * 2 ^ 32),
        n (match x.backend with | none => 0 | some b => b + 2 ^ 16),
        n (match x.nat with | none => 0 | some (a, p, d) => a + p * 2 ^ 32 + 2 ^ 48 + d * 2 ^ 49),
        n (it.tsSec % 2 ^ 48), n (it.tsNs % 2 ^ 32), 0, 0, x.seq]

end Sys2Proof.Machine
end

