-- ==== Sys2Proof/Machine/Std.lean ====
section
/-! DEFINITION. The standard flow programs (R214 to R244): the actions they take one after another, as a function of what earlier
actions have answered. -/

namespace Sys2Proof.Machine

/-! ### Actions -/

/-- One action of a standard program; each is issued as one microword (log 76). -/
inductive StdAct where
  | read
  | ldx (region line : Nat)
  | stx (region line : Nat) (words : List Word64)
  | search (table : Nat) (key : List Byte)
  | hash (bytes : List Byte)
  | arm (margin : Nat)
  | acquire (l : Nat)
  | release (l : Nat)
  | select (m : Nat)
  | addEvent
  | count (i : Nat)
  | store (words : List Word64)
  | fresh
  | commit (res : List Word64)
  | delete
  deriving DecidableEq, Repr

/-- How a program ends: what its last microword does to the record. -/
inductive StdEnd where
  | none | writeBack | release | delete
  deriving DecidableEq, Repr

/-- A program: an action and what follows upon its answer, or its end. -/
inductive StdRun where
  | act (a : StdAct) (next : StdObs → StdRun)
  | stop (e : StdEnd)

/-- Where a program stands after these answers. -/
def StdRun.follow : List StdObs → StdRun → StdRun
  | [], p => p
  | o :: r, .act _ k => StdRun.follow r (k o)
  | _ :: _, .stop e => .stop e

/-- An action whose answer the program does not use. -/
def stdDo (a : StdAct) (k : StdRun) : StdRun := .act a (fun _ => k)

/-- LDX; a lost line is counted and reads as 0 (R190, R248). -/
def stdLdx (region line : Nat) (k : List Word64 → StdRun) : StdRun :=
  .act (.ldx region line) (fun o =>
    match o with
    | .line true l => stdDo (.count Cnt.PCNT_AUX_LOST_LINE) (k l)
    | .line false l => k l
    | _ => k [])

def stdCount (i : Nat) (k : StdRun) : StdRun := stdDo (.count i) k

/-- A search with a key of `n` bytes. -/
def stdSearch (table n key : Nat) (k : SrchStatus → Word64 → StdRun) : StdRun :=
  .act (.search table (beBytes n key)) (fun o => match o with | .search st r => k st r | _ => k .none 0)

def stdHash (b : List Byte) (k : Word64 → StdRun) : StdRun :=
  .act (.hash b) (fun o => match o with | .value v => k v | _ => k 0)

/-! ### A run in progress -/

/-- What a program works on: the item, the record's state bytes as they shall be written, and what has been decided. -/
structure StdFlow where
  prog : StdProg
  it : Item
  env : StdEnv
  /-- The class parameter line. -/
  par : List Word64
  st : List Byte
  /-- AGE_CLASS to be written (R240). -/
  age : Option Nat
  isNew : Bool
  /-- The record has been deleted already (R237). -/
  gone : Bool
  /-- Forwarding has been searched for, so that it is fresh. -/
  searched : Bool
  /-- STATE DENIED has been entered by an access rule. -/
  denied : Bool
  /-- The program drops the packet. -/
  drop : Bool
  colour : Nat
  deriving DecidableEq, Repr

namespace StdFlow

def par0 (f : StdFlow) (x : Fld) : Nat := lineFld f.par 0 x
def pt (f : StdFlow) : Nat := ptOf f.it.tsMono
def shard (f : StdFlow) : Nat := homeShard f.it.h
def ip (f : StdFlow) : Option IpInfo := keyLayer f.it.hv f.it.summary
def zone (f : StdFlow) : Nat := sumGet f.it.summary sumZone
def len (f : StdFlow) : Nat := sumGet f.it.summary sumFrameLen
def lay (f : StdFlow) : StdLayout := (stdLayout f.prog).getD { t := none, b := none, n := none, c := 8, p := none }
def fwd (f : StdFlow) : Word64 := stFwd f.st
def setFwd (f : StdFlow) (w : Word64) : StdFlow := { f with st := stPutFwd f.st w }

/-- Source and destination of the key layer, as numbers: address and port each. -/
def ends (f : StdFlow) : (Nat × Nat) × (Nat × Nat) :=
  match f.ip with
  | none => ((0, 0), (0, 0))
  | some i =>
    let a := keyAddrs f.it.hv i
    let p := keyPorts f.it.hv i
    ((beNat a.1, p.1), (beNat a.2, p.2))

def proto (f : StdFlow) : Nat := match f.ip with | none => 0 | some i => i.proto
def v6 (f : StdFlow) : Bool := match f.ip with | none => false | some i => i.v6

/-- The access-rule key of the key layer (R94). -/
def ruleKey (f : StdFlow) : Nat :=
  match f.ip with
  | none => 0
  | some i => (aclKeyOf f.it.hv f.it.summary i).toNat

/-- The module fields of B and N. -/
def bGet (f : StdFlow) (off n : Nat) : Nat := match f.lay.b with | none => 0 | some o => stGet f.st (o + off) n
def bPut (f : StdFlow) (off n v : Nat) : StdFlow := match f.lay.b with | none => f | some o => { f with st := stPut f.st (o + off) n v }
def nGet (f : StdFlow) (off n : Nat) : Nat := match f.lay.n with | none => 0 | some o => stGet f.st (o + off) n
def nPut (f : StdFlow) (off n v : Nat) : StdFlow := match f.lay.n with | none => f | some o => { f with st := stPut f.st (o + off) n v }

/-- The record is pinned to a backend. -/
def pinned (f : StdFlow) : Bool := f.lay.b.isSome && f.bGet 0 2 != noBackend

/-- The record has a translation. -/
def translated (f : StdFlow) : Bool := f.nGet 0 4 != 0

/-- Pins a backend of a group from now on. -/
def pin (f : StdFlow) (b g : Nat) : StdFlow := ((f.bPut 0 2 b).bPut 2 2 g).bPut 4 4 f.pt

/-- Writes module N. -/
def putNat (f : StdFlow) (addr port stamp : Nat) : StdFlow :=
  (((f.nPut 0 4 addr).nPut 4 2 port).nPut 6 2 stamp).nPut 8 4 f.pt

/-- Enters a connection state with its age class (R240). -/
def setState (f : StdFlow) (st : Nat) : StdFlow :=
  match f.lay.t with
  | none => f
  | some o => { f with st := stPut f.st o 1 st, age := some (lineFld f.par 5 ⟨4 * st, 4⟩) }

def state (f : StdFlow) : Nat := match f.lay.t with | none => 0 | some o => stGet f.st o 1 % 16

/-- The interval of module B or N has passed (R222). -/
def revalDue (f : StdFlow) : Bool :=
  let last := if f.lay.b.isSome then f.bGet 4 4 else f.nGet 8 4
  (f.pinned || f.translated) && decide (lineFld f.par 1 loHalf ≤ ptSince f.pt last)

/-! ### Ends -/

/-- The program's end, with nothing done to a record that is gone. -/
def endBy (f : StdFlow) (e : StdEnd) : StdRun := .stop (if f.gone then .none else e)

/-- The result that drops the frame. -/
def dropRes : List Word64 := [1, 0, 0, 0]

/-- The frame is dropped, the record removed, and the counter counts. -/
def dropDelete (f : StdFlow) (cnt : Nat) : StdRun := stdCount cnt (stdDo (.commit dropRes) (f.endBy .delete))

/-- The frame is dropped, and the record released without a write. -/
def dropRelease (f : StdFlow) (cnt : Nat) : StdRun := stdCount cnt (stdDo (.commit dropRes) (f.endBy .release))

/-- NAT_EXHAUSTED (R235). -/
def exhausted (f : StdFlow) : StdRun :=
  stdDo (.commit [((0 : Word64).put r0Disp 5).put r0Sample (f.par0 clNatSample), 0, 0, 0]) (f.endBy .delete)

/-! ### Searches of a first packet (R223) -/

/-- The access-rule search: what follows on PERMIT with the rule's result, and what follows where the rule itself decides. -/
def acl (f : StdFlow) (permit : StdFlow → Option Word64 → StdRun) (settled : StdFlow → StdRun) : StdRun :=
  if f.par0 clAcl = 15 then permit f none
  else
    stdSearch (f.par0 clAcl) 40 f.ruleKey (fun st r =>
      match st with
      | .fenced => f.dropDelete Cnt.PCNT_SEARCH_FENCED
      | .hit =>
        if r.toNat % 4 = 1 then settled (f.setFwd (fwdAcl (some r) (fwdPunt f.env.punt)))
        else if r.toNat % 4 = 2 then
          if f.par0 clDenyRecord = 1 then
            stdCount Cnt.PCNT_CT_DENY (settled { (f.setFwd (fwdAcl (some r) fwdDrop)).setState 12 with denied := true })
          else f.dropDelete Cnt.PCNT_CT_DENY
        else permit f (some r)
      | _ => permit f none)

/-- The route search on a destination: a miss punts. -/
def route (f : StdFlow) (dst : Nat) (a : Option Word64) (k : StdFlow → StdRun) : StdRun :=
  let go (st : SrchStatus) (r : Word64) : StdRun :=
    match st with
    | .fenced => f.dropDelete Cnt.PCNT_SEARCH_FENCED
    | .hit => k (f.setFwd (fwdAcl a (fwdRoute r f.env.punt)))
    | _ => k (f.setFwd (fwdAcl a (fwdPunt f.env.punt)))
  if f.v6 then stdSearch (f.par0 clRoute6) 20 (f.zone * 2 ^ 144 + dst * 2 ^ 16) go
  else stdSearch (f.par0 clRoute4) 10 (f.zone * 2 ^ 64 + dst * 2 ^ 32) go

/-! ### Balancing (R226 to R231) -/

/-- The group has no backend for the flow (R228 step 4). -/
def emptyGroup (f : StdFlow) : StdRun :=
  let r0 : Word64 := if f.par0 clEmpty = 1 then puntRes0 f.env.punt (sumGet f.it.summary sumColour) else 1
  stdCount Cnt.PCNT_LB_EMPTY_GROUP (stdDo (.commit [r0, 0, 0, 0]) (f.endBy .delete))

/-- Steps 2 to 5 of R228 for group g. -/
def pick (f : StdFlow) (g : Nat) (a : Option Word64) (k : StdFlow → StdRun) : StdRun :=
  let i := f.it.h.toNat / 2 ^ 32 % 2 ^ 14
  stdLdx 1 g (fun d =>
    if lineFld d 0 ⟨0, 1⟩ = 0 then f.emptyGroup
    else stdLdx 2 (selLine g (lineFld d 0 ⟨1, 1⟩) i) (fun l =>
      let b := selSlot l i
      if b = noBackend then f.emptyGroup
      else stdLdx 3 (b / 2) (fun e =>
        if backendState e b ≠ 1 ∨ backendGroup e b ≠ g then f.emptyGroup
        else stdCount Cnt.PCNT_LB_NEW_PINNED (k ((f.pin b g).setFwd (fwdAcl a (backendFwd e b)))))))

/-- BALANCE after PERMIT: the service search, or the pin that is kept. -/
def balance (f : StdFlow) (a : Option Word64) (k : StdFlow → StdRun) : StdRun :=
  if !f.isNew && f.pinned then k (f.setFwd (fwdAcl a f.fwd))
  else
    stdSearch (f.par0 clAux) 40 f.ruleKey (fun st r =>
      match st with
      | .fenced => f.dropDelete Cnt.PCNT_SEARCH_FENCED
      | .hit => f.pick (r.get ⟨0, 12⟩) a k
      | _ => stdCount Cnt.PCNT_LB_SERVICE_MISS ((f.bPut 0 2 noBackend).route f.ends.2.1 a k))

/-- BALANCE_RETURN: the return-table search, then the route on the client's address (R231). -/
def balanceReturn (f : StdFlow) (k : StdFlow → StdRun) : StdRun :=
  stdSearch (f.par0 clAux) 40 f.ruleKey (fun st r =>
    match st with
    | .fenced => f.dropDelete Cnt.PCNT_SEARCH_FENCED
    | .hit =>
      if !f.isNew && f.pinned then f.route f.ends.2.1 none k
      else
        let b := r.get ⟨0, 16⟩
        stdLdx 3 (b / 2) (fun e => (f.pin b (backendGroup e b)).route f.ends.2.1 none k)
    | _ => stdCount Cnt.PCNT_LB_SERVICE_MISS
        ((if !f.isNew && f.pinned then f else f.bPut 0 2 noBackend).route f.ends.2.1 none k))

/-- Revalidation of a pin (R229, R231). -/
def revalidatePin (f : StdFlow) (k : StdFlow → StdRun) : StdRun :=
  let b := f.bGet 0 2
  let g := f.bGet 2 2
  stdLdx 3 (b / 2) (fun e =>
    if (backendState e b = 1 ∨ backendState e b = 2) ∧ backendGroup e b = g then
      let f := f.bPut 4 4 f.pt
      k (if f.prog = .balance then f.setFwd (backendFwd e b) else f)
    else if f.par0 clReselect = 0 then f.dropDelete Cnt.PCNT_LB_DOWN_DROP
    else if f.prog = .balance then stdCount Cnt.PCNT_LB_RESELECT (f.pick g none k)
    else stdDo .delete (k { f with gone := true }))

/-! ### Translation (R232 to R237) -/

/-- An armed acquire of the lock of address a, and what follows where it fails (R225). -/
def locked (f : StdFlow) (a : Nat) (failed ok : StdRun) : StdRun :=
  stdDo (.arm (f.par0 clLockMargin)) (.act (.acquire (a % 1024)) (fun o =>
    match o with
    | .locked true => ok
    | _ => stdCount Cnt.PCNT_NAT_LOCK_TIMEOUT failed))

/-- The pool line, and the paired address of a private one. -/
def paired (f : StdFlow) (priv : Nat) (noPool : StdRun) (k : Nat → StdRun) : StdRun :=
  stdLdx 4 (f.par0 clPool) (fun l =>
    if lineFld l 0 ⟨63, 1⟩ = 0 then noPool
    else stdHash (beBytes 4 priv) (fun v => k (pairedAddr (l.getD 0 0) v)))

/-- Frees bit j of address a: its map entry, its bit and the FULL bit of its line; what follows takes the summary line. -/
def freePort (f : StdFlow) (a j : Nat) (m sum : List Word64) (k : List Word64 → StdRun) : StdRun :=
  let s := f.shard
  let e := mapGet m j
  let n := bitLine j
  stdDo (.stx 7 (mapLine a s j) (mapPut m j (e.free f.pt)))
    (if n = 7 then k (setFull (setLineBit sum (j % 512) false) 7 false)
     else stdLdx 6 (bitmapLine a s n) (fun l =>
       stdDo (.stx 6 (bitmapLine a s n) (setLineBit l (j % 512) false)) (k (setFull sum n false))))

/-- The audit of one entry (R236); what follows takes the summary line with AUDIT advanced. -/
def audit (f : StdFlow) (a : Nat) (sum : List Word64) (k : List Word64 → StdRun) : StdRun :=
  let j := (sumWord sum).get sumAudit % 4032
  let next (x : List Word64) : List Word64 := setSum x sumAudit ((j + 1) % 4032)
  stdLdx 7 (mapLine a f.shard j) (fun m =>
    let e := mapGet m j
    if e.allocated && decide (lineFld f.par 4 hiHalf ≤ ptSince f.pt e.time) then
      f.freePort a j m sum (fun x => stdCount Cnt.PCNT_NAT_FREE (stdCount Cnt.PCNT_NAT_AUDIT_RECLAIM (k (next x))))
    else k (next sum))

/-- Takes bit j of address a for the flow: bitmap and summary, map entry, lock, module N. -/
def takePort (f : StdFlow) (a pub j : Nat) (l sum m : List Word64) (k : StdFlow → StdRun) : StdRun :=
  let s := f.shard
  let n := bitLine j
  let e := mapGet m j
  let ends := f.ends
  let e' : MapEntry :=
    { e with privAddr := ends.1.1, privPort := ends.1.2, zone := f.zone, remAddr := ends.2.1, remPort := ends.2.2, allocated := true
             proto := f.proto, time := f.pt }
  let l' := setLineBit l (j % 512) true
  let rest : StdRun :=
    stdDo (.stx 7 (mapLine a s j) (mapPut m j e')) (stdDo (.release (a % 1024))
      (stdCount Cnt.PCNT_NAT_ALLOC (k (f.putNat pub (natPort s j) e.stamp))))
  if n = 7 then stdDo (.stx 6 (bitmapLine a s 7) (setFull l' 7 (lineFull l' 7))) rest
  else stdDo (.stx 6 (bitmapLine a s n) l') (stdDo (.stx 6 (bitmapLine a s 7) (setFull sum n (lineFull l' n))) rest)

/-- The candidates of one bitmap line, until one can be taken; the number tried so far goes on. -/
def tryBits (f : StdFlow) (a pub n : Nat) (l sum : List Word64) (k : StdFlow → StdRun) : List Nat → Nat → (Nat → StdRun) → StdRun
  | [], tried, none_ => none_ tried
  | i :: r, tried, none_ =>
    if 4 ≤ tried then none_ tried
    else
      let j := 512 * n + i
      stdLdx 7 (mapLine a f.shard j) (fun m =>
        if (mapGet m j).reusable f.pt (lineFld f.par 4 loHalf) then f.takePort a pub j l sum m k
        else stdCount Cnt.PCNT_NAT_HOLD_SKIP (f.tryBits a pub n l sum k r (tried + 1) none_))

/-- The lines to be read, one after the other. -/
def tryLines (f : StdFlow) (a pub : Nat) (sum : List Word64) (k : StdFlow → StdRun) : List Nat → Nat → StdRun
  | [], _ =>
    stdDo (.stx 6 (bitmapLine a f.shard 7) sum) (stdDo (.release (a % 1024)) f.exhausted)
  | n :: r, tried =>
    let go (l : List Word64) : StdRun :=
      f.tryBits a pub n l sum k (((List.range (bitsOf n)).filter (fun i => !lineBit l i)).take 4) tried
        (fun t => f.tryLines a pub sum k r t)
    if n = 7 then go sum else stdLdx 6 (bitmapLine a f.shard n) go

/-- The first two bitmap lines that are not full, from h[34:32]. -/
def openLines (f : StdFlow) (sum : List Word64) : List Nat :=
  let n0 := f.it.h.toNat / 2 ^ 32 % 8
  (((List.range 8).map (fun i => (n0 + i) % 8)).filter (fun n => (sumWord sum).get ⟨n, 1⟩ == 0)).take 2

/-- What alloc does under the lock of address a. -/
def allocLocked (f : StdFlow) (a pub : Nat) (k : StdFlow → StdRun) : StdRun :=
  stdLdx 6 (bitmapLine a f.shard 7) (fun sum =>
    f.audit a sum (fun sum => f.tryLines a pub sum k (f.openLines sum) 0))

/-- alloc (R234). -/
def alloc (f : StdFlow) (k : StdFlow → StdRun) : StdRun :=
  f.paired f.ends.1.1 f.exhausted (fun a =>
    stdLdx 5 (a / 4) (fun l =>
      match publicAddr l a with
      | none => f.exhausted
      | some pub => f.locked a (stdDo (.commit dropRes) (f.endBy .release)) (f.allocLocked a pub k)))

/-- A flow that TRANSLATE_IN can translate: TCP, UDP or ICMP echo over IPv4, no fragment. -/
def natSupported (f : StdFlow) : Bool :=
  match f.ip with
  | none => false
  | some i => let x := seenOf f.it.hv i true; !i.v6 && (x.tcp || x.udp || x.echo)

/-- TRANSLATE_IN after PERMIT: the route search, and a port where the flow has none. -/
def translateIn (f : StdFlow) (a : Option Word64) (k : StdFlow → StdRun) : StdRun :=
  if !f.natSupported then f.dropDelete Cnt.PCNT_NAT_UNSUPPORTED
  else f.route f.ends.2.1 a (fun f => if f.fwd.get fwAction = 0 ∧ f.translated = false then f.alloc k else k f)

/-- The lease refresh of TRANSLATE_IN (R236): the port is kept, or a new one allocated where it has been reclaimed. -/
def refreshLease (f : StdFlow) (k : StdFlow → StdRun) : StdRun :=
  let j := natBit (f.nGet 4 2)
  let timeout := stdDo (.commit dropRes) (f.endBy .release)
  f.paired f.ends.1.1 f.exhausted (fun a =>
    f.locked a timeout (stdLdx 7 (mapLine a f.shard j) (fun m =>
      let e := mapGet m j
      if e.stamp = f.nGet 6 2 then
        stdDo (.stx 7 (mapLine a f.shard j) (mapPut m j { e with time := f.pt }))
          (stdDo (.release (a % 1024)) (k (f.nPut 8 4 f.pt)))
      else
        stdCount Cnt.PCNT_NAT_STALE_FORWARD (stdLdx 5 (a / 4) (fun l =>
          match publicAddr l a with
          | none => stdDo (.release (a % 1024)) f.exhausted
          | some pub => f.allocLocked a pub k)))))

/-- The mapping that a packet to a public address meets (R237 step 4). -/
def maps (f : StdFlow) (e : MapEntry) : Bool :=
  e.allocated && e.proto == f.proto && e.zone == f.zone
    && (f.par0 clApdf == 0 || (e.remAddr == f.ends.1.1 && e.remPort == f.ends.1.2))

/-- Steps 2 to 5 of R237, for the address index that the pool table gave. -/
def reverse (f : StdFlow) (a : Nat) (k : StdFlow → StdRun) : StdRun :=
  let port := f.ends.2.2
  if port < 1024 then f.dropDelete Cnt.PCNT_NAT_NO_MAPPING
  else
    let j := natBit port
    stdLdx 7 (mapLine a (natShard port) j) (fun m =>
      let e := mapGet m j
      if !f.maps e then f.dropDelete Cnt.PCNT_NAT_NO_MAPPING
      else (f.putNat e.privAddr e.privPort e.stamp).route e.privAddr none k)

/-- The pool-table search of TRANSLATE_OUT. -/
def poolSearch (f : StdFlow) (miss : StdRun) (k : Nat → StdRun) : StdRun :=
  stdSearch (f.par0 clAux) 10 (f.zone * 2 ^ 64 + f.ends.2.1 % 2 ^ 32 * 2 ^ 32) (fun st r =>
    match st with
    | .fenced => f.dropDelete Cnt.PCNT_SEARCH_FENCED
    | .hit => k (r.get ⟨0, 16⟩)
    | _ => miss)

/-- TRANSLATE_OUT (R237); an existing translation is kept. -/
def translateOut (f : StdFlow) (k : StdFlow → StdRun) : StdRun :=
  f.poolSearch (f.route f.ends.2.1 none k) (fun a =>
    if !f.isNew && f.translated then f.route (f.nGet 0 4) none k else f.reverse a k)

/-- The re-read of TRANSLATE_OUT (R237): a reclaimed or reused port ends the record, and the packet is handled as a first packet. -/
def recheck (f : StdFlow) (k : StdFlow → StdRun) : StdRun :=
  let port := f.ends.2.2
  let j := natBit port
  f.poolSearch (k f) (fun a =>
    stdLdx 7 (mapLine a (natShard port) j) (fun m =>
      let e := mapGet m j
      if e.allocated && e.stamp == f.nGet 6 2 then k (f.nPut 8 4 f.pt)
      else
        let f := { f with gone := true, isNew := true }
        stdDo .delete (stdCount Cnt.PCNT_NAT_STALE_REVERSE (f.reverse a k))))

/-! ### The common path (R222) -/

/-- The searches that give the flow's forwarding. -/
def forward (f : StdFlow) (k : StdFlow → StdRun) : StdRun :=
  let k' (f : StdFlow) : StdRun := k { f with searched := true }
  match f.prog with
  | .balance => f.acl (fun f a => f.balance a k') k'
  | .balanceReturn => f.balanceReturn k'
  | .translateIn => f.acl (fun f a => f.translateIn a k') k'
  | .translateOut => f.translateOut k'
  | _ => f.acl (fun f a => f.route f.ends.2.1 a k') k'

/-- Revalidation of module B or N. -/
def revalidate (f : StdFlow) (k : StdFlow → StdRun) : StdRun :=
  match f.prog with
  | .translateIn => f.refreshLease k
  | .translateOut => f.recheck k
  | _ => f.revalidatePin k

/-- The frame is dropped already: by the program, or by its forwarding word. -/
def dropped (f : StdFlow) : Bool := f.drop || decide (2 ≤ f.fwd.get fwAction)

/-- Module T (R239): the flow, the counter it counts, and whether the packet is an invalid first packet. -/
def track (f : StdFlow) : StdFlow × Option Nat × Bool :=
  match f.lay.t, f.ip with
  | some o, some i =>
    let swap := recMeta f.env.rb mtSwap
    let x := seenOf f.it.hv i (decide (sumGet f.it.summary sumKeySwap = swap))
    let strict := f.par0 clStrict == 1
    if f.denied then (f, none, false)
    else if f.isNew ∨ f.state = 0 ∨ (f.state = 12 ∧ f.searched = true) then
      match connFirst strict x with
      | none => (f, none, true)
      | some st => (f.setState st, none, false)
    else if connInvalid f.state x then ({ f with drop := f.drop || strict }, some Cnt.PCNT_CT_INVALID_DROP, false)
    else
      let n := connNext f.state (stGet f.st (o + 1) 1) x
      let g := { f with st := stPut f.st (o + 1) 1 n.2 }
      (if n.1 = f.state then g else g.setState n.1, none, false)
  | _, _ => (f, none, false)

/-- Module P (R242): a created record starts with full buckets; a packet dropped already is not metered. -/
def police (f : StdFlow) : StdFlow × Option Nat :=
  match f.lay.p with
  | none => (f, none)
  | some o =>
    if f.dropped then (f, none)
    else
      let cbs := lineFld f.par 3 loHalf
      let pbs := lineFld f.par 3 hiHalf
      let x : Policer :=
        if f.isNew then { tc := cbs, tp := pbs, last := f.pt }
        else ({ tc := stGet f.st o 4, tp := stGet f.st (o + 4) 4, last := stGet f.st (o + 8) 4 } : Policer).refill f.pt
          (lineFld f.par 2 loHalf) (lineFld f.par 2 hiHalf) cbs pbs
      let r := x.take f.len
      let f := { f with st := stPut (stPut (stPut f.st o 4 r.2.tc) (o + 4) 4 r.2.tp) (o + 8) 4 r.2.last, colour := r.1 }
      if r.1 ≠ 2 then (f, none)
      else if f.par0 clRedDrop = 1 then ({ f with drop := true }, some Cnt.PCNT_POL_RED_DROP)
      else (f, some Cnt.PCNT_POL_RED_MARK)

/-- The counts of module C: packets, octets, start of the interval. -/
def counts (f : StdFlow) : Nat × Nat × Nat :=
  (stGet f.st f.lay.c 5, stGet f.st (f.lay.c + 5) 6, stGet f.st (f.lay.c + 11) 4)

def putCounts (f : StdFlow) (x : Nat × Nat × Nat) : StdFlow :=
  { f with st := stPut (stPut (stPut f.st f.lay.c 5 x.1) (f.lay.c + 5) 6 x.2.1) (f.lay.c + 11) 4 x.2.2 }

/-- Adds the packet to the counts, unless it is dropped (R241); the first packet of an interval opens it. -/
def addPacket (f : StdFlow) (x : Nat × Nat × Nat) : Nat × Nat × Nat :=
  if f.dropped then x
  else (min (x.1 + 1) (2 ^ 40 - 1), min (x.2.1 + f.len) (2 ^ 48 - 1), if x.1 = 0 then f.pt else x.2.2)

/-- What an export of these counts says. -/
def exportOf (f : StdFlow) (x : Nat × Nat × Nat) (reason : Nat) : ExportInfo :=
  { seq := 0, pkts := x.1, octets := x.2.1, reason := reason, start := x.2.2, swap := recMeta f.env.rb mtSwap == 1
    egress := f.fwd.get fwEgress
    backend := if f.pinned then some (f.bGet 0 2) else none
    nat := if f.translated then some (f.nGet 0 4, f.nGet 4 2, if f.prog = .translateOut then 1 else 0) else none }

/-- Module C (R241, R243): the flow, and the export that is due with its counter. -/
def tally (f : StdFlow) (before : Nat) : StdFlow × Option (ExportInfo × Nat) :=
  let x := f.counts
  let flags := f.lay.c + 15
  let on := f.par0 clExport == 1
  let active := lineFld f.par 1 hiHalf
  let closing := f.lay.t.isSome && f.state != before && (f.state == 5 || f.state == 6) && stGet f.st flags 1 % 2 == 0
  let y := f.addPacket x
  let y := if f.isNew then (y.1, y.2.1, f.pt) else y
  if on && closing then
    let g := f.putCounts (0, 0, y.2.2)
    ({ g with st := stPut g.st flags 1 1 }, some (f.exportOf y 3, Cnt.PCNT_EXPORT_END))
  else if on && active != 0 && x.1 != 0 && decide (active ≤ ptSince f.pt x.2.2) then
    let z := f.addPacket (0, 0, f.pt)
    (f.putCounts z, some (f.exportOf x 2, Cnt.PCNT_EXPORT_ACTIVE))
  else (f.putCounts y, none)

/-- EDIT0 and EDIT1 of the flow's translation (R231, R234, R237, R328). -/
def edits (f : StdFlow) : Nat × Nat :=
  if f.translated then
    ((if f.prog = .translateOut then 2 else 1) * 2 ^ 28, f.nGet 0 4 + f.nGet 4 2 * 2 ^ 32)
  else if f.prog = .balanceReturn ∧ f.pinned = true then
    (3 * 2 ^ 28 + (Config.serviceEntry (f.bGet 0 2) (f.bGet 2 2)).toNat, 0)
  else (0, 0)

/-- RES0 to RES3 (R165) from the forwarding word and the modules' outcomes. -/
def result (f : StdFlow) : List Word64 :=
  let w := f.fwd
  let base (d : Nat) : Word64 := (((0 : Word64).put r0Disp d).put r0Colour f.colour).put r0Mirror (w.get fwMirror)
  if f.dropped then dropRes
  else if w.get fwAction = 1 then [(base 2).put r0HostQ (w.get fwHostQ), 0, 0, 0]
  else
    let e := f.edits
    [((base 0).put r0Egress (w.get fwEgress)).put r0Qclass (w.get fwQclass),
     ((0 : Word64).put r1Nh (w.get fwNh)).put r1Edit0 e.1, BitVec.ofNat 64 e.2, 0]

/-- The record's words with the state bytes and the age class of the run. -/
def words (f : StdFlow) : List Word64 :=
  let w := recPutState f.env.rb f.st
  match f.age with | none => w | some a => recPutMeta w mtAge a

/-- One EVADD on event counter 1,023. -/
def takeSeq (k : Word64 → StdRun) : StdRun :=
  stdDo (.select 1023) (.act .addEvent (fun o => match o with | .value v => k v | _ => k 0))

/-- The two lines of an export entry (R244). -/
def writeEntry (f : StdFlow) (x : ExportInfo) (k : StdRun) : StdRun :=
  let w := exportWords f.it f.it.key x
  let line := 1 + f.shard * 2 * f.env.ring + 2 * (x.seq.toNat % f.env.ring)
  stdDo (.stx 8 line (w.take 8)) (stdDo (.stx 8 (line + 1) (w.drop 8)) k)

/-- Counts a counter where there is one. -/
def note (c : Option Nat) (k : StdRun) : StdRun := match c with | none => k | some i => stdCount i k

/-- Updates T, then P, then C, commits, exports and writes back. -/
def finish (f : StdFlow) : StdRun :=
  if f.gone then stdDo (.commit f.result) (.stop .none)
  else
    let before := if f.isNew then 0 else f.state
    let t := f.track
    if t.2.2 then f.dropDelete Cnt.PCNT_CT_INVALID_DROP
    else
      let p := t.1.police
      let c := p.1.tally before
      let g := c.1
      note t.2.1 (note p.2 (stdDo (.store g.words)
        (let fresh (k : StdRun) : StdRun := if g.searched then stdDo .fresh k else k
         fresh (match c.2 with
           | none => stdDo (.commit g.result) (.stop .writeBack)
           | some (x, cnt) => takeSeq (fun v => stdDo (.commit g.result)
               (g.writeEntry { x with seq := v } (stdCount cnt (.stop .writeBack))))))))

/-- What follows the class parameter line, for a packet item. -/
def packet (f : StdFlow) : StdRun :=
  match f.env.outcome with
  | .created =>
    if f.par0 clNewDeny = 1 then f.dropDelete Cnt.PCNT_CT_NEW_DENIED else f.forward finish
  | .found =>
    if !f.env.sameLayout then f.dropRelease Cnt.PCNT_LAYOUT_MISMATCH
    else
      let rest (f : StdFlow) : StdRun := if f.revalDue then f.revalidate finish else f.finish
      if f.env.fresh then rest f else f.forward rest
  | _ => .stop .none

/-! ### AGE (R236, R243) -/

/-- The end of an aged record: a translation of TRANSLATE_IN gives its port back, then the record is deleted. -/
def ageEnd (f : StdFlow) : StdRun :=
  if f.prog = .translateIn ∧ f.translated = true then
    let key := f.it.key
    -- the private endpoint is the source of the record's packets (R73)
    let priv := beNat (if recMeta f.env.rb mtSwap = 1 then bytesAt key 12 4 else bytesAt key 8 4)
    let j := natBit (f.nGet 4 2)
    f.paired priv (.stop .delete) (fun a =>
      f.locked a (stdDo (.store f.words) (.stop .writeBack)) (stdLdx 7 (mapLine a f.shard j) (fun m =>
        let e := mapGet m j
        let done (k : StdRun) : StdRun := stdDo (.release (a % 1024)) k
        if e.allocated && e.stamp == f.nGet 6 2 then
          stdLdx 6 (bitmapLine a f.shard 7) (fun sum => f.freePort a j m sum (fun x =>
            stdDo (.stx 6 (bitmapLine a f.shard 7) x) (stdCount Cnt.PCNT_NAT_FREE (done (.stop .delete)))))
        else done (.stop .delete))))
  else .stop .delete

/-- What follows the class parameter line, for an aging item. -/
def aged (f : StdFlow) : StdRun :=
  let x := f.counts
  if f.par0 clExport = 1 ∧ x.1 ≠ 0 then
    takeSeq (fun v => f.writeEntry { f.exportOf x 1 with seq := v } (stdCount Cnt.PCNT_EXPORT_IDLE
      ((f.putCounts (0, 0, x.2.2)).ageEnd)))
  else f.ageEnd

end StdFlow

/-- The run of a standard program on an item: the READ, the class parameter line, then what the record asks for (R222). -/
def stdRun (p : StdProg) (it : Item) : StdRun :=
  .act .read (fun o =>
    match o with
    | .record e =>
      stdLdx 0 it.cls (fun par =>
        let f (q : StdProg) : StdFlow :=
          { prog := q, it := it, env := e, par := par, st := recState e.rb, age := none, isNew := e.outcome == .created, gone := false
            searched := false, denied := false, drop := false, colour := sumGet it.summary sumColour }
        if it.aging then
          match e.served with
          | none => .stop .delete
          | some q => if q = .age then .stop .delete else (f q).aged
        else (f p).packet)
    | _ => .stop .none)

/-! ### Issue -/

/-- A microword built of unit fields that branches to its own address. -/
def stdWord (pc rec lck chn tmr srch ctl : Nat) : Microword :=
  BitVec.ofNat 192 (pc * 2 ^ 178 + 2 ^ 172 + rec * 2 ^ 96 + lck * 2 ^ 88 + chn * 2 ^ 80 + tmr * 2 ^ 72 + srch * 2 ^ 64 + ctl)

/-- The thread with the operands of an action in place. -/
def StdAct.prepare (a : StdAct) (x : Thread) : Thread :=
  let g (i v : Nat) (x : Thread) : Thread := { x with g := listSet x.g i (BitVec.ofNat 64 v) }
  match a with
  | .ldx _ l => g 0 l x
  | .stx _ l w => g 0 l { x with aux := (List.range 8).map (fun i => w.getD i 0) }
  | .search _ b => { x with key := pad40 b, klen := b.length }
  | .hash b => { x with key := pad40 b, klen := b.length }
  | .arm m => g 1 m x
  | .acquire l => g 2 l x
  | .release l => g 2 l x
  | .select m => g 8 m x
  | .store w => { x with rb := forUpTo 16 (fun i rb => storeWord rb i (w.getD i 0)) x.rb }
  | .commit r => g 8 (r.getD 3 0).toNat { x with res := (List.range 4).map (fun i => r.getD i 0), resMask := 15 }
  | _ => x

/-- The microword of an action. -/
def StdAct.word (a : StdAct) (pc : Nat) : Microword :=
  match a with
  | .read => stdWord pc 0x1000 0 0 0 0 0
  | .ldx r _ => stdWord pc (0x8000 + r) 0 0 0 0 0
  | .stx r _ _ => stdWord pc (0x9000 + r) 0 0 0 0 0
  | .search t _ => stdWord pc 0 0 0 0 (0x20 + 2 * t) 0
  | .hash _ => stdWord pc 0 0 0 0 (0x40 + 2 * 7) 0
  | .arm _ => stdWord pc 0 0 0 (0x60 + 2 * 1) 0 0
  | .acquire _ => stdWord pc 0 (0x40 + 2) 0 0 0 0
  | .release _ => stdWord pc 0 (0xC0 + 2) 0 0 0 0
  | .select _ => stdWord pc 0 0 0x60 0 0 0
  | .addEvent => stdWord pc 0 0 0xE0 0 0 0
  | .count i => stdWord pc 0 0 0 0 0 (i * 2 ^ 16 + 2 ^ 15)
  | .store _ => stdWord pc 0 0 0 0 0 0
  | .fresh => stdWord pc 0x7000 0 0 0 0 0
  | .commit _ => stdWord pc 0 0 (0x40 + 3 * 8) 0 0 0
  | .delete => stdWord pc 0x6000 0 0 0 0 0

/-- The microword that ends a program. -/
def StdEnd.word (e : StdEnd) (pc : Nat) : Microword :=
  stdWord pc (match e with | .none => 0 | .writeBack => 0x4000 | .release => 0x5000 | .delete => 0x6000) 0 0 0 0 0
    ||| BitVec.ofNat 192 (4 * 2 ^ 168)

/-- What the thread has been answered on an action. -/
def StdAct.answer (a : StdAct) (x : Thread) : StdObs :=
  match a with
  | .ldx _ _ => .line x.auxLost x.aux
  | .search _ _ => .search x.srch (x.reg 7)
  | .hash _ => .value (x.reg 7)
  | .addEvent => .value (x.reg 8)
  | .acquire _ => .locked (x.lock == .acquired)
  | _ => .done

/-- What a program meets as its READ completes. -/
def State.stdEnv (s : State) (h : Nat) (p : StdProg) (it : Item) (x : Thread) : StdEnv :=
  let entry (k : Nat) : Option StdProg := s.stdAt (s.fld (Reg.SCH_CLASS h k) Fld.SCH_CLASS_PROG_ENTRY)
  { outcome := x.recSt, fresh := x.fresh, rb := x.rb, punt := s.fld (Reg.SCH_CLASS h it.cls) Fld.SCH_CLASS_PUNT_QUEUE
    sameLayout := match entry (recMeta x.rb mtClass) with | none => false | some q => stdLayout q == stdLayout p
    served := entry it.cls
    ring := match s.cast.tables.exporter with | none => 65536 | some c => c.ringEntries }

/-- The thread with the answer to its last action taken over. -/
def State.stdHeard (s : State) (h : Nat) (p : StdProg) (it : Item) (x : Thread) : List StdObs :=
  if x.std = [] then if x.readUsed then [.record (s.stdEnv h p it x)] else []
  else if x.stdAsked then
    match (stdRun p it).follow x.std with
    | .act a _ => x.std ++ [a.answer x]
    | .stop _ => x.std
  else x.std

/-- The thread and the microword with which a standard program goes on. -/
def State.stdStep (s : State) (h : Nat) (p : StdProg) (it : Item) (x : Thread) : Thread × Microword :=
  let seen := s.stdHeard h p it x
  match (stdRun p it).follow seen with
  | .act a _ => (a.prepare { x with std := seen, stdAsked := true }, a.word x.pc)
  | .stop e => ({ x with std := seen, stdAsked := true }, e.word x.pc)

end Sys2Proof.Machine
end

