-- ==== Sys2Proof/Machine/Fae.lean ====
section
/-! DEFINITION. The flow action engines and the Ward at work (R174 to R207): boundaries, program ends, halts, the issue of a
microword, completions, locks, timers, events, the deadlock breaker, debugging and the control-store scrubber. -/

namespace Sys2Proof.Machine

/-! ### Held deadlines (R171) -/

/-- Adds ticks to the DEADLINE of an item. -/
def Item.extend (x : Item) (n : Nat) : Item := { x with deadline := x.deadline + n }

/-- Adds ticks to the DEADLINE of every outstanding item of a group, wherever a copy of it stands. -/
def State.extendGroup (s : State) (h g n : Nat) : State :=
  let x := s.shard h
  let f (it : Item) : Item := if it.aging = false ∧ it.group = g then it.extend n else it
  let y := s.group h g
  let s := s.setShard h { x with
    ready := x.ready.map f
    parked := x.parked.map (fun p => { p with item := f p.item })
    threads := x.threads.map (fun e => (e.1, { e.2 with item := e.2.item.map f })) }
  s.setGroup h g { y with heldSince := none, entries := y.entries.map (fun e => { e with item := f e.item }) }

/-- Groups with a halted thread. -/
def State.haltedGroups (s : State) (h : Nat) : List Nat :=
  ((s.shard h).threads.filterMap (fun e => match e.2.item with
    | some it => if e.2.halted ∧ it.aging = false then some it.group else none
    | none => none)).eraseDups

/-- Holds of expiry begin and end with halts, resumptions and HOLD_DEADLINES. -/
def State.holdUpdate (s : State) (h : Nat) : State :=
  let on := s.flag (Reg.FAE_DBG h) Fld.FAE_DBG_HOLD_DEADLINES
  let now := s.clk.mono
  let gs := if on then s.haltedGroups h else []
  let s : State := forEach (s.shard h).groups (fun e t => match e.2.heldSince with
    | some since => if gs.contains e.1 then t else t.extendGroup h e.1 (now - since)
    | none => t) s
  let s : State := forEach gs (fun g t => match (t.group h g).heldSince with
    | some _ => t
    | none => t.setGroup h g { t.group h g with heldSince := some now }) s
  forEach (s.shard h).threads (fun e t =>
    match e.2.item with
    | none => t
    | some it =>
      if !it.aging then t
      else
        match e.2.heldAt with
        | some since =>
          if on && e.2.halted then t
          else t.setThread h e.1 { e.2 with heldAt := none, item := some (it.extend (now - since)) }
        | none => if on && e.2.halted then t.setThread h e.1 { e.2 with heldAt := some now } else t) s

/-! ### Boundaries (R185, R201) -/

/-- Every operation of the last microword but a wait has completed. -/
def Thread.quiet (x : Thread) : Bool := x.read == .none && x.auxSt == .none && !x.srchWait

/-- The way that holds an item's record: the thread's own hold, or for an aging item the sweeper's. -/
def State.itemWay (s : State) (h : Nat) (it : Item) : Option Nat :=
  match s.heldWay h (.item it.rank) with
  | some i => some i
  | none =>
    if it.aging then
      match s.findWay h it.h it.key with
      | some i => if (s.way h i).held = some .sweeper then some i else none
      | none => none
    else none

/-- A hold ends without a write: an aging item's record is deleted (R141). -/
def State.endHold (s : State) (h : Nat) (it : Item) (i : Nat) : State :=
  if it.aging then (s.deleteWay h i .ok).hnkBump h Cnt.HNK_AGED_OUT else s.unholdWay h i

/-- The program of thread t ends (R185). -/
def State.endProgram (s : State) (h t : Nat) : State :=
  let x := s.thread h t
  match x.item with
  | none => s
  | some it =>
    let s := if it.aging then s.ageDrain h it.gen false else if x.committed then s else s.endItem h it .noResult
    let s := if x.hold then s.faeBump h Cnt.FAE_HOLD_AT_END else s
    let s := match s.itemWay h it with | some i => s.endHold h it i | none => s
    let s := s.dropLocks h t (fun u => u.faeBump h Cnt.FAE_LOCK_AT_END)
    (s.faeBump h Cnt.FAE_ITEMS_ENDED).idleThread h t

/-- What waits for the thread's boundary: an abort, the end of its program, then a halt. -/
def State.boundary (s : State) (h t : Nat) : State :=
  let x := s.thread h t
  if !x.quiet then s
  else
    match x.abort with
    | some why => (s.abortThread h t why).holdUpdate h
    | none =>
      if x.ending && x.sleep == .awake then s.endProgram h t
      else
        match x.haltReq with
        | some c => (s.setThread h t { x with haltReq := none, halted := true, haltCause := c }).holdUpdate h
        | none => s

/-- A halt of the thread, at its next boundary (R205). -/
def State.haltThread (s : State) (h t cause : Nat) : State :=
  let x := s.thread h t
  if x.halted ∨ x.haltReq.isSome then s
  else ((s.setThread h t { x with haltReq := some cause }).faeBump h Cnt.FAE_DEBUG_HALTS).boundary h t

/-! ### Waits (R192, R197, R198) -/

def State.eventCount (s : State) (h m : Nat) : Word64 := Tbl.get 0 (s.shard h).events m

def State.setEvent (s : State) (h m : Nat) (v : Word64) : State :=
  s.setShard h { s.shard h with events := Tbl.set 0 (s.shard h).events m v }

/-- The timer as evaluated against MONO: it fires in the first tick with MONO at or beyond its compare. -/
def Thread.fire (x : Thread) (mono : Nat) : Thread :=
  if x.armed ∧ x.cmp ≤ mono then { x with armed := false, fired := true } else x

/-- A wait of the thread ends with a status. -/
def State.wakeThread (s : State) (h t : Nat) (w : WakeStatus) : State :=
  let x := s.thread h t
  let s := s.setThread h t { x with sleep := .awake, wake := w, fired := if w = .timer then false else x.fired }
  match w with
  | .event => s.wrdBump h Cnt.WRD_WAKE_EVENT
  | .timer => s.wrdBump h Cnt.WRD_WAKE_TIMER
  | .broken => s.wrdBump h Cnt.WRD_WAKE_DEADLOCK
  | .none => s

/-- The thread's ACQ has failed by its timer: it leaves the queue. -/
def State.acqTimeout (s : State) (h t : Nat) : State :=
  let s := s.leaveQueue h t
  (s.setThread h t { s.thread h t with sleep := .awake, lock := .failed, fired := false }).wrdBump h Cnt.WRD_LOCK_TIMEOUT

/-- The end of a wait takes effect (R192, R198). -/
def State.applyDue (s : State) (h t : Nat) (d : Due) : State :=
  match d with
  | .granted => s.setThread h t { s.thread h t with sleep := .awake, lock := .acquired }
  | .late => s.acqTimeout h t
  | .woken w => s.wakeThread h t w

/-! ### The parts of an issue that reach beyond the thread -/

/-- The lock operation (R192). -/
def State.issueLock (s : State) (h t op l : Nat) (fired : Bool) : State :=
  let x := s.thread h t
  let k := s.lock h l
  let free := k.owner.isNone && k.queue.isEmpty
  let take (s : State) : State :=
    ((s.setLock h l { k with owner := some t }).setThread h t { x with lock := .acquired, locks := x.locks ++ [l] }).wrdBump h
      Cnt.WRD_LOCK_ACQ
  match op with
  | 0 => s
  | 3 => (s.setLock h l { k with owner := none }).setThread h t { x with locks := x.locks.erase l }
  | op =>
    if x.locks.contains l then s.setThread h t { x with lock := .acquired }
    else if free then take s
    else if op = 2 then (s.setThread h t { x with lock := .failed }).wrdBump h Cnt.WRD_LOCK_TRY_FAIL
    else
      let s := s.wrdBump h Cnt.WRD_LOCK_CONTENDED
      if fired then
        (s.setThread h t { x with lock := .failed, fired := false }).wrdBump h Cnt.WRD_LOCK_TIMEOUT
      else
        (s.setLock h l { k with queue := k.queue ++ [t] }).setThread h t
          { x with lock := .none, sleep := .lock l, since := s.clk.mono }

/-- The operations of the record unit on store and DRAM (R135, R188, R190); `x` is the thread as it issued. -/
def State.issueRec (s : State) (h t : Nat) (it : Item) (x : Thread) (m : Microword) : State :=
  let free (s : State) (f : Thread → Thread) : State := s.setThread h t (f (s.thread h t))
  let word := 512 * h + t
  let r := mwRecMod m
  let a := x.auxAt m
  let line := (s.reg (Reg.FAE_AUX_BASE h r)).toNat / 64 + a.1
  let mirror : Option (Nat × Nat) :=
    if s.flag (Reg.TWN_SMASK1 it.cls) Fld.TWN_SMASK1_MIRROR_EN ∧ (s.fld Reg.TWN_AUX_MIRROR Fld.TWN_AUX_MIRROR_REGIONS).testBit r
    then some (r, a.1) else none
  let ask (op : DmcOp) : DmcReq := { line := line, op := op, thread := word, data := none, mirror := mirror }
  match mwRecOp m with
  | 0x1 =>
    let s := (free s (fun y => { y with readUsed := true, read := .port })).useCredit (lnkRecord h) 1
    s.setShard h { s.shard h with recPort := (s.shard h).recPort ++ [.item it.rank] }
  | 0x4 =>
    let s := free s (fun y => { y with hold := false })
    (match s.heldWay h (.item it.rank) with
     | none => s
     | some i =>
       let w := s.way h i
       let n := if recLong w.words then 16 else 8
       let s := s.writeWay h i (x.rb.take n) it.tsMono
       (s.mirrorWrite h (wayHash h w) w.words (s.way h i).words (x.recSt == .created)).unholdWay h i)
  | 0x5 =>
    let s := free s (fun y => { y with hold := false })
    (match s.heldWay h (.item it.rank) with | none => s | some i => s.endHold h it i)
  | 0x6 =>
    let s := free s (fun y => { y with hold := false })
    (match s.heldWay h (.item it.rank) with
     | none => s
     | some i => (s.deleteWay h i .ok).hnkBump h (if it.aging then Cnt.HNK_AGED_OUT else Cnt.HNK_DELETE))
  | 0x8 => ((free s (fun y => { y with auxSt := .waiting none })).faeBump h Cnt.FAE_AUX_READS).auxRequest (ask .read)
  | 0x9 => ((free s (fun y => { y with auxLost := false })).faeBump h Cnt.FAE_AUX_WRITES).auxRequest (ask (.write (bytesOf x.aux)))
  | 0xA =>
    ((free s (fun y => { y with auxSt := .waiting (some a.2) })).faeBump h Cnt.FAE_AUX_CAS).auxRequest
      (ask (.cas a.2 (x.aux.getD 0 0) (x.aux.getD 1 0)))
  | _ => s

/-- What the record unit does to the thread's own storage; a G register it writes. -/
def State.recLocal (s : State) (h : Nat) (it : Item) (x : Thread) (m : Microword) : Thread × Option (Nat × Word64) :=
  match mwRecOp m with
  | 0x2 => (x, some (mwRecG m, x.rb.getD (mwRecWord m) 0))
  | 0x3 => ({ x with rb := storeWord x.rb (mwRecWord m) (x.reg (mwRecG m)) }, none)
  | 0x7 =>
    if mwRecMod m % 2 = 1 then ({ x with rb := recPutMeta x.rb mtFwd 0 }, none)
    else
      let g := s.stampGen h it.gen
      ({ x with rb := recPut (recPutMeta (recPutMeta x.rb mtLap (g / 256)) mtFwd 1) 0 w0Gen g }, none)
  | 0xB => (x, some (mwRecG m, x.aux.getD (mwRecWord m % 8) 0))
  | 0xC => ({ x with aux := listSet x.aux (mwRecWord m % 8) (x.reg (mwRecG m)) }, none)
  | _ => (x, none)

/-- A program's result decides its item; a code that the program may not use ends it with DEADLINE (R159), unless the record read
returned TABLE_FULL (R166). -/
def State.commitResult (s : State) (h : Nat) (it : Item) (full : Bool) (r0 r1 r2 r3 : Word64) : State :=
  let s := s.decideItem h it (.result r0 r1 r2 r3)
  if 6 ≤ r0.get r0Disp ∧ full = false then s.setFld (Reg.SCH_STATUS h) Fld.SCH_STATUS_DEADLINE_MISS 1 else s

/-- The channel operation (R195, R196): thread, state and the G register it writes. -/
def State.issueChn (s : State) (h t : Nat) (it : Item) (x : Thread) (m : Microword) : State × Option (Nat × Word64) :=
  let w := mwChnW m
  let g := x.reg (mwChnG m)
  let y := s.thread h t
  let up (v : Thread) : State := s.setThread h t v
  match mwChnOp m with
  | 1 => (up { y with res := listSet y.res w g, resMask := y.resMask ||| 2 ^ w }, none)
  | 2 =>
    if it.aging then (s, none)
    else
      let r := listSet y.res w g
      let s := up { y with res := r, resMask := y.resMask ||| 2 ^ w, committed := true }
      (s.commitResult h it y.wasFull (r.getD 0 0) (r.getD 1 0) (r.getD 2 0) (r.getD 3 0), none)
  | 3 => (up { y with mbox := g.toNat % 1024 }, none)
  | 4 => (up { y with msg := listSet y.msg w g, msgMask := y.msgMask ||| 2 ^ w }, none)
  | 5 =>
    let msg := listSet y.msg w g
    let mask := y.msgMask ||| 2 ^ w
    let s := up { y with msg := List.replicate 4 0, msgMask := 0 }
    let mail := forUpTo 4 (fun i q => if mask.testBit i then Tbl.set 0 q (4 * x.mbox + i) (msg.getD i 0) else q) (s.shard h).mail
    let s := s.setShard h { s.shard h with mail := mail }
    ((s.setEvent h x.mbox (s.eventCount h x.mbox + 1)).wrdBump h Cnt.WRD_MSG_COMMITS, none)
  | 6 => (s, some (mwChnG m, Tbl.get 0 (s.shard h).mail (4 * x.mbox + w)))
  | 7 =>
    let v := s.eventCount h x.mbox + 1
    ((s.setEvent h x.mbox v).wrdBump h Cnt.WRD_EV_ADDS, some (mwChnG m, v))
  | _ => (s, none)

/-- The timer operation (R197): `seen` is event counter m at issue, `x` the thread as it issued. -/
def State.issueTmr (s : State) (h t : Nat) (it : Item) (x : Thread) (m : Microword) (seen : Word64) : State :=
  let y := s.thread h t
  let g := x.reg (mwTmrG m)
  let arm (c : Nat) : State := s.setThread h t { y with cmp := c % 2 ^ 64, armed := true, fired := false }
  match mwTmrOp m with
  | 1 => arm (s.clk.mono + g.toNat)
  | 2 => arm g.toNat
  | 3 => arm (it.deadline % 2 ^ 64 + 2 ^ 64 - g.toNat)
  | 4 => s.setThread h t { y with armed := false, fired := false }
  | 5 =>
    if seen ≠ g then s.wakeThread h t .event
    else if y.fired then s.wakeThread h t .timer
    else s.setThread h t { y with sleep := .event x.mbox g, since := s.clk.mono, wake := .none }
  | 6 =>
    if y.fired then s.wakeThread h t .timer
    else s.setThread h t { y with sleep := .timer, since := s.clk.mono, wake := .none }
  | _ => s

/-- Stores G registers, the later ones of the list last. -/
def Thread.putG (x : Thread) (l : List (Option (Nat × Word64))) : Thread :=
  forEach l (fun o y => match o with | none => y | some (i, v) => { y with g := listSet y.g i v }) x

/-- One bit for each register that a list of writes names. -/
def writtenMask (l : List (Option (Nat × Word64))) : Nat :=
  forEach l (fun o n => match o with | none => n | some (i, _) => n ||| 2 ^ i) 0

/-! ### MICROWORD_ISSUE (R181) -/

/-- A microword without an exception issues: all its units read the thread `x`, whose timer is evaluated. -/
def State.issue (s : State) (h t : Nat) (it : Item) (x : Thread) (m : Microword) : State :=
  let seen := s.eventCount h x.mbox
  -- the thread's own storage
  let a := x.alu (mwAluA m) (mwImm m) x.fa
  let b := x.alu (mwAluB m) (mwImm m) x.fb
  let ex : Option (Nat × Word64) := if mwHdrOp m = 1 then some (mwHdrG m, extract it x.hbase (mwHdrOff m) (mwHdrLen m)) else none
  let r := s.recLocal h it x m
  let y := r.1.hdr m
  let cn := if mwHdrOp m = 3 ∧ mwHdrOff m = 0 then s.canon it else (y.key, y.klen, s)
  let s := cn.2.2
  let sq : Nat × List Nat × Bool := match x.seq m (x.cond it (mwCond m)) with
    | .go pc st => (pc, st, false)
    | _ => (x.pc, x.stack, true)
  let y := { y with key := cn.1, klen := cn.2.1, fa := a.2, fb := b.2, pc := sq.1, stack := sq.2.1, ending := sq.2.2, bpSkip := false
                    haltReq := if mwBrk m && s.flag (Reg.FAE_DBG h) Fld.FAE_DBG_BRK_EN then some 3
                               else if x.stepping then some 4 else none
                    stepping := false }
  let brk := y.haltReq.isSome
  let s := (s.setThread h t y).faeBump h Cnt.FAE_ISSUED
  let s := if brk then s.faeBump h Cnt.FAE_DEBUG_HALTS else s
  -- the counters
  let s := if mwCntEn m then
      s.bumpBy (Reg.FAE_PCNT h (mwCntIdx m)) (if mwCntG m then (x.reg (mwCntSrc m)).toNat else 1)
    else s
  -- the shard's units
  let s := s.issueRec h t it x m
  let s := s.issueLock h t (mwLckOp m) ((x.reg (mwLckG m)).toNat % 4096) x.fired
  let c := s.issueChn h t it x m
  let s := c.1.issueTmr h t it x m seen
  let trd : Option (Nat × Word64) := if mwTmrOp m = 7 then some (mwTmrG m, seen) else none
  let hash : Option (Nat × Word64) :=
    if mwSrchOp m = 2 then
      some (mwSrchSel m, sipHash (s.reg (Reg.SLC_HASH_KEY0 0)) (s.reg (Reg.SLC_HASH_KEY1 0)) (bytesAt x.key 0 x.klen))
    else none
  let higher := [trd, c.2, r.2, ex, b.1, a.1]
  let s := s.setThread h t ((s.thread h t).putG (hash :: higher))
  let s := if mwSrchOp m = 1 then
      let q := h / 4
      let w := 10 * s.tmbWidth q (mwSrchSel m)
      ((s.setThread h t { s.thread h t with srchWait := true, keep := writtenMask higher }).faeBump h Cnt.FAE_SEARCHES).askSearch q
        (4 + h % 4) { table := mwSrchSel m, key := BitVec.ofNat 320 (beNat (bytesAt x.key 0 w)), gen := it.gen, client := .thread t }
    else s
  s.boundary h t

/-- A stepped microword that ends its item still halts the thread at the boundary (R205). -/
def State.stepHalt (s : State) (h t : Nat) : State :=
  let x := s.thread h t
  if x.stepping then (s.setThread h t { x with haltReq := some 4 }).faeBump h Cnt.FAE_DEBUG_HALTS else s

/-- A program exception (R200). -/
def State.progExc (s : State) (h t : Nat) (it : Item) (x : Thread) (code : Nat) : State :=
  let a := Reg.FAE_EXC h
  let s := (s.faeBump h Cnt.FAE_PROG_EXC).setFld (Reg.FAE_STATUS h) Fld.FAE_STATUS_PROG_EXC 1
  let s := if s.flag a Fld.FAE_EXC_VALID then s
    else
      let s := ((s.setFld a Fld.FAE_EXC_CAUSE code).setFld a Fld.FAE_EXC_PC x.pc).setFld a Fld.FAE_EXC_ENGINE (t / 16)
      ((s.setFld a Fld.FAE_EXC_THREAD (t % 16)).setFld a Fld.FAE_EXC_CLASS it.cls).setFld a Fld.FAE_EXC_VALID 1
  (s.stepHalt h t).abortThread h t .noResult

/-- The thread can issue (R174, R175). -/
def State.mayIssue (s : State) (h t : Nat) : Bool :=
  let x := s.thread h t
  s.shardUp h && x.item.isSome && x.quiet && x.sleep == .awake && !x.ending && !x.halted && x.haltReq.isNone && x.abort.isNone

/-- The address breakpoint halts thread t before it issues. -/
def State.atBreakpoint (s : State) (h t : Nat) : Bool :=
  let x := s.thread h t
  let a := Reg.FAE_DBG h
  s.flag a Fld.FAE_DBG_BP_EN && s.fld a Fld.FAE_DBG_BP_ADDR == x.pc && !x.bpSkip
    && (s.flag a Fld.FAE_DBG_BP_ANY_ENGINE || s.fld a Fld.FAE_DBG_BP_ENGINE == t / 16)

/-- A control-store word had a single-bit error (R207). -/
def State.mcCorrected (s : State) (h : Nat) : State :=
  (s.faeBump h Cnt.FAE_MC_ECC_CORRECTED).setFld (Reg.FAE_STATUS h) Fld.FAE_STATUS_MC_ECC 1

/-- Microword `m` issues on thread `x`, unless it meets an exception or waits for a credit of the record port. -/
def State.issueWord (s : State) (h t : Nat) (it : Item) (x : Thread) (m : Microword) : State :=
  match s.excOf h it x m with
  | some code => s.progExc h t it x code
  | none => if mwRecOp m = 1 ∧ s.credit (lnkRecord h) = 0 then s else s.issue h t it x m

/-- Thread t, which can issue, issues the microword at its address, or the next one of a standard program that stands there. -/
def State.issueNow (s : State) (h t : Nat) (c : McCheck) : State :=
  let x := (s.thread h t).fire s.clk.mono
  match x.item with
  | none => s
  | some it =>
    match c with
    | .uncorrectable => s.faultShard h (srcControlStore h) 0x030 x.pc
    | .parity => ((s.stepHalt h t).abortThread h t .noResult).detect (srcFae h (t / 16)) 0x022 1 (t % 16)
    | c =>
      let s := if c = .corrected then s.mcCorrected h else s
      match s.stdAt x.pc with
      | none => s.issueWord h t it x (Tbl.get 0 (s.shard h).store x.pc)
      | some p => s.issueWord h t it (s.stdStep h p it x).1 (s.stdStep h p it x).2

/-- MICROWORD_ISSUE: thread t of shard h; `c`: what reading the microword and the thread's storage meets. -/
def microwordIssue (h t : Nat) (c : McCheck) (s : State) : State :=
  if !s.mayIssue h t then s
  else if s.atBreakpoint h t then s.haltThread h t 2
  else s.issueNow h t c

/-! ### Completions -/

/-- REC_READ_DONE (R188): the thread takes the outcome, and the record where there is one. -/
def recReadDone (h t : Nat) (s : State) : State :=
  let x := s.thread h t
  match x.read, x.item with
  | .done o, some it =>
    let y := { x with read := .none, recSt := o }
    let s := match o with
      | .tableFull => s.setThread h t { y with wasFull := true }
      | .absent => s.setThread h t y
      | .none => s.setThread h t y
      | _ =>
        match s.heldWay h (.item it.rank) with
        | none => s.setThread h t y
        | some i =>
          let w := (s.way h i).words
          s.setThread h t { y with hold := true, fresh := s.fwdFresh h it.gen w, rb := (List.range 16).map (fun j => w.getD j 0) }
    s.boundary h t
  | _, _ => s

/-- AUX_ACCESS_DONE (R190). -/
def auxAccessDone (h t : Nat) (s : State) : State :=
  let x := s.thread h t
  match x.auxSt with
  | .answered none _ line =>
    let y := { x with auxSt := .none, auxLost := line.isNone, aux := line.getD (List.replicate 8 0) }
    (s.setThread h t y).boundary h t
  | .answered (some w) ok line =>
    let old : Word64 := match line with | none => 0 | some l => l.getD w 0
    let y := { x with auxSt := .none, auxLost := line.isNone, cas := some (ok && line.isSome), aux := listSet x.aux 0 old }
    let s := s.setThread h t y
    (if ok && line.isSome then s else s.faeBump h Cnt.FAE_AUX_CAS_FAIL).boundary h t
  | _ => s

/-- The wait of thread t ends (R198, R201): at once, or recorded where the thread is halted and nothing has ended it yet. -/
def State.endWait (s : State) (h t : Nat) (d : Due) : State :=
  if (s.thread h t).halted then
    match (s.thread h t).due with
    | some _ => s
    | none =>
      let s := if d = .late then s.leaveQueue h t else s
      s.setThread h t { s.thread h t with due := some d }
  else (s.applyDue h t d).boundary h t

/-- LOCK_GRANT (R192): the first queued thread takes a free lock. -/
def lockGrant (h l : Nat) (s : State) : State :=
  let k := s.lock h l
  match k.owner, k.queue with
  | none, t :: r =>
    let x := s.thread h t
    let s := s.setLock h l { owner := some t, queue := r }
    ((s.setThread h t { x with locks := x.locks ++ [l] }).wrdBump h Cnt.WRD_LOCK_ACQ).endWait h t .granted
  | _, _ => s

/-- TIMER_FIRE (R197, R198). -/
def timerFire (h t : Nat) (s : State) : State :=
  let x := s.thread h t
  if x.armed = false ∨ s.clk.mono < x.cmp then s
  else
    let s := s.setThread h t (x.fire s.clk.mono)
    match x.sleep with
    | .awake => s
    | .timer => s.endWait h t (.woken .timer)
    | .event m v => s.endWait h t (.woken (if s.eventCount h m = v then .timer else .event))
    | .lock _ => s.endWait h t .late

/-- EVENT_WAKE (R198). -/
def eventWake (h t : Nat) (s : State) : State :=
  match (s.thread h t).sleep with
  | .event m v => if s.eventCount h m = v then s else s.endWait h t (.woken .event)
  | _ => s

/-! ### The deadlock breaker (R203, R204) -/

/-- Thread t waits with nothing pending that could wake it. -/
def State.stuck (s : State) (h t : Nat) : Bool :=
  let x := s.thread h t
  x.item.isSome && x.quiet && !x.halted && x.abort.isNone && !x.armed && !x.fired
    && (match x.sleep with
        | .awake => false
        | .timer => true
        | .event m v => s.eventCount h m == v
        | .lock l => (s.lock h l).owner.isSome || (s.lock h l).queue.head? != some t)

/-- CLK_CORE cycles for which all threads of an engine have waited: two per tick. -/
def State.stuckCycles (s : State) (h e : Nat) : Nat :=
  let ts := (List.range 16).map (fun i => 16 * e + i)
  if ts.all (s.stuck h) then 2 * (s.clk.mono - (ts.map (fun t => (s.thread h t).since)).foldl max 0) else 0

/-- A woken thread leaves every lock queue; a lock it waited for has failed. -/
def State.breakWait (s : State) (h t : Nat) : State :=
  let s := s.leaveQueue h t
  let x := s.thread h t
  (s.setThread h t { x with lock := match x.sleep with | .lock _ => .failed | _ => x.lock }).wakeThread h t .broken

/-- DEADLOCK_BREAK. -/
def deadlockBreak (h e : Nat) (s : State) : State :=
  if s.stuckCycles h e < 4096 ∨ s.shardUp h = false then s
  else
    let ts := (List.range 16).map (fun i => 16 * e + i)
    let dl (t : Nat) : Nat := match (s.thread h t).item with | some it => it.deadline | none => 0
    let v := ts.foldl (fun b t => if dl t < dl b then t else b) (16 * e)
    let s : State := forEach ts (fun t u => if t = v then u.leaveQueue h t else u.breakWait h t) s
    let s := s.abortThread h v .deadlock
    let s := (s.faeBump h Cnt.FAE_DEADLOCK_BREAK).setFld (Reg.WRD_STATUS h) Fld.WRD_STATUS_DEADLOCK_SEEN 1
    let s := s.detect (srcFae h e) 0x023 1 (v % 16)
    forEach ts (fun t u => u.boundary h t) s

/-! ### Debugging (R205) -/

def dbgCmd (h : Nat) : Nat := Reg.FAE_DBG_CMD h

/-- DBG_CMD with its target as the host wrote them. -/
def State.dbgTarget (s : State) (h t : Nat) : State :=
  (s.setFld (dbgCmd h) Fld.FAE_DBG_CMD_ENGINE (t / 16)).setFld (dbgCmd h) Fld.FAE_DBG_CMD_THREAD (t % 16)

def State.dbgErr (s : State) (h : Nat) : State := s.setFld (dbgCmd h) Fld.FAE_DBG_CMD_ERR 1

/-- A command that needs a halted thread. -/
def State.onHalted (s : State) (h t : Nat) (f : State → State) : State :=
  let s := s.dbgTarget h t
  if (s.thread h t).halted then f s else s.dbgErr h

/-- HALT. -/
def halt (h t : Nat) (s : State) : State := (s.dbgTarget h t).haltThread h t 1

/-- The halt of thread t ends: a waiting thread counts its wait from now (R203), and a recorded end of the wait takes effect
(R201). -/
def State.unhalt (s : State) (h t : Nat) : State :=
  let x := s.thread h t
  let s := (s.setThread h t { x with halted := false, haltCause := 0, itemEnded := false, bpSkip := true, since := s.clk.mono
                                     due := none }).holdUpdate h
  match x.due with
  | none => s
  | some d => s.applyDue h t d

/-- RESUME. -/
def resume (h t : Nat) (s : State) : State := s.onHalted h t (fun s => (s.unhalt h t).boundary h t)

/-- STEP: one microword, at once where the thread can issue; a thread without an item stays halted. -/
def step1 (h t : Nat) (c : McCheck) (s : State) : State :=
  s.onHalted h t (fun s =>
    if (s.thread h t).item.isNone then s
    else
      let s := s.unhalt h t
      let s := s.setThread h t { s.thread h t with stepping := true }
      if s.mayIssue h t then s.issueNow h t c else s.boundary h t)

/-- ABORT. -/
def debugAbort (h t : Nat) (s : State) : State :=
  s.onHalted h t (fun s =>
    if (s.thread h t).item.isNone then s.unhalt h t
    else ((s.setThread h t { s.thread h t with halted := false }).abortThread h t .debug).holdUpdate h)

/-- STATE of DBG_STATE (R174, R211). -/
def Thread.stateCode (x : Thread) : Nat :=
  if x.item.isNone then 0 else if !x.quiet then 3 else if x.sleep != .awake then 4 else 2

/-- READ_CTX. -/
def readCtx (h t : Nat) (s : State) : State :=
  s.onHalted h t (fun s =>
    let x := s.thread h t
    let a := Reg.FAE_DBG_STATE h
    let put (f : Fld) (v : Nat) (s : State) : State := s.setFld a f v
    let s := put Fld.FAE_DBG_STATE_PC x.pc s
    let s := put Fld.FAE_DBG_STATE_STATE x.stateCode s
    let s := put Fld.FAE_DBG_STATE_HALTED 1 s
    let s := put Fld.FAE_DBG_STATE_HALT_CAUSE x.haltCause s
    let s := put Fld.FAE_DBG_STATE_CALL_DEPTH x.stack.length s
    let s := put Fld.FAE_DBG_STATE_LOCKS x.locks.length s
    let s := put Fld.FAE_DBG_STATE_HOLD (bit x.hold) s
    let s := put Fld.FAE_DBG_STATE_COMMITTED (bit x.committed) s
    let s := put Fld.FAE_DBG_STATE_RES_MASK x.resMask s
    let s := put Fld.FAE_DBG_STATE_MSG_MASK x.msgMask s
    let s := put Fld.FAE_DBG_STATE_TIMER_ARMED (bit (x.fire s.clk.mono).armed) s
    let s := put Fld.FAE_DBG_STATE_ITEM_ENDED (bit x.itemEnded) s
    let s := put Fld.FAE_DBG_STATE_WAKE (match x.wake with | .none => 0 | .event => 1 | .timer => 2 | .broken => 3) s
    let s := put Fld.FAE_DBG_STATE_KIND (match x.item with | some it => bit it.aging | none => 0) s
    let s := put Fld.FAE_DBG_STATE_MAILBOX x.mbox s
    forUpTo 16 (fun i s => s.setReg (Reg.FAE_DBG_G h i) (x.reg i)) s)

/-- WRITE_G. -/
def writeG (h t g : Nat) (s : State) : State :=
  (s.setFld (dbgCmd h) Fld.FAE_DBG_CMD_GREG g).onHalted h t (fun s =>
    s.setThread h t { s.thread h t with g := listSet (s.thread h t).g g (s.reg (Reg.FAE_DBG_DATA h)) })

/-! ### Control store and Ward registers (R207, R213) -/

/-- MC_SCRUB. -/
def mcScrub (h : Nat) (e : Ecc) (s : State) : State :=
  let x := s.shard h
  let s := s.setShard h { x with mcRow := (x.mcRow + 1) % 16384 }
  match e with
  | .ok => s
  | .corrected => s.mcCorrected h
  | .uncorrectable => s.faultShard h (srcControlStore h) 0x030 x.mcRow

/-- LOCK_READ. -/
def lockRead (h l : Nat) (s : State) : State :=
  let k := s.lock h l
  let d := Reg.WRD_LOCK_DATA h
  let o := k.owner.getD 0
  let s := s.setFld (Reg.WRD_LOCK_CMD h) Fld.WRD_LOCK_CMD_LOCK l
  let s := (s.setFld d Fld.WRD_LOCK_DATA_HELD (bit k.owner.isSome)).setFld d Fld.WRD_LOCK_DATA_OWNER_E (o / 16)
  (s.setFld d Fld.WRD_LOCK_DATA_OWNER_T (o % 16)).setFld d Fld.WRD_LOCK_DATA_WAITERS k.queue.length

/-- EV_ADD. -/
def evAdd (h m n : Nat) (s : State) : State :=
  let a := Reg.WRD_EV_ADD h
  let s := (s.setFld a Fld.WRD_EV_ADD_INDEX m).setFld a Fld.WRD_EV_ADD_AMOUNT n
  (s.setEvent h m (s.eventCount h m + BitVec.ofNat 64 n)).wrdBump h Cnt.WRD_HOST_EV_ADDS

def execMicrowordIssue (h : Fin 16) (t : Fin 512) (c : McCheck) (s : State) : Out := done s (microwordIssue h.val t.val c s)

def execRecReadDone (h : Fin 16) (t : Fin 512) (s : State) : Out := done s (recReadDone h.val t.val s)

def execAuxAccessDone (h : Fin 16) (t : Fin 512) (s : State) : Out := done s (auxAccessDone h.val t.val s)

def execLockGrant (h : Fin 16) (l : Fin 4096) (s : State) : Out := done s (lockGrant h.val l.val s)

def execTimerFire (h : Fin 16) (t : Fin 512) (s : State) : Out := done s (timerFire h.val t.val s)

def execEventWake (h : Fin 16) (t : Fin 512) (s : State) : Out := done s (eventWake h.val t.val s)

def execDeadlockBreak (h : Fin 16) (e : Fin 32) (s : State) : Out := done s (deadlockBreak h.val e.val s)

def execHalt (h : Fin 16) (t : Fin 512) (s : State) : Out := done s (halt h.val t.val s)

def execResume (h : Fin 16) (t : Fin 512) (s : State) : Out := done s (resume h.val t.val s)

def execStep (h : Fin 16) (t : Fin 512) (c : McCheck) (s : State) : Out := done s (step1 h.val t.val c s)

def execDebugAbort (h : Fin 16) (t : Fin 512) (s : State) : Out := done s (debugAbort h.val t.val s)

def execReadCtx (h : Fin 16) (t : Fin 512) (s : State) : Out := done s (readCtx h.val t.val s)

def execWriteG (h : Fin 16) (t : Fin 512) (g : Fin 16) (s : State) : Out := done s (writeG h.val t.val g.val s)

def execMcScrub (h : Fin 16) (e : Ecc) (s : State) : Out := done s (mcScrub h.val e s)

def execLockRead (h : Fin 16) (l : Fin 4096) (s : State) : Out := done s (lockRead h.val l.val s)

def execEvAdd (h : Fin 16) (m : Fin 1024) (n : Fin 4294967296) (s : State) : Out := done s (evAdd h.val m.val n.val s)

end Sys2Proof.Machine
end

