-- ==== Sys2Proof/Machine/Place.lean ====
section
/-! DEFINITION. The one operation by which a flow import (R375) and the mirror engine of a secondary (R421) reach a record: as
HNK.REC_CMD WRITE does, in one command, where nothing holds the record and a way is free. -/

namespace Sys2Proof.Machine

/-- Where a record was found or made. -/
inductive Placed where
  /-- The record is held, read or fetched by another, or no way is free: the caller tries again. -/
  | wait
  | absent
  | full
  | found (way : Nat)
  | created (way : Nat)
  deriving DecidableEq, Repr

/-- A record not resident is fetched, or made, and placed in a way. -/
def State.fetchPlace (s : State) (h : Nat) (x : Word64) (key : List Byte) (cls : Nat) (create swap : Bool) (es : List Ecc) :
    Placed × State :=
  let f := s.fetch h x key cls create swap es
  match f.1.out with
  | .found | .created =>
    let m := f.2.makeRoom h x (recLong f.1.words) f.1.rest
    (match m.1 with
     | none => (.wait, s)
     | some i =>
       if f.1.out = .found then (.found i, m.2.putWay h i x (recPut f.1.words 0 w0Dirty 0) f.1.place)
       else (.created i, m.2.putWay h i x f.1.words f.1.place))
  | .tableFull => (.full, f.2)
  | _ => (.absent, f.2)

/-- Reaches the record of a key in its home shard, in the hot tier. -/
def State.placeRecord (s : State) (h : Nat) (x : Word64) (key : List Byte) (cls : Nat) (create swap : Bool) (es : List Ecc) :
    Placed × State :=
  if (s.openEntry h x).isSome then (.wait, s)
  else
    match s.findWay h x key with
    | some i => if (s.way h i).held.isSome ∨ (s.way h i).filling = true then (.wait, s) else (.found i, s)
    | none =>
      match s.evicted h x key with
      | some j =>
        let long := match (s.shard h).evb[j]? with | some v => recLong v.words | none => false
        let m := s.makeRoom h x long es
        (match m.1 with
         | none => (.wait, s)
         | some i => (.found i, m.2.reclaimTo h i j x))
      | none => s.fetchPlace h x key cls create swap es

end Sys2Proof.Machine
end

