-- ==== Sys2Proof/Machine/Lop.lean ====
section
/-! DEFINITION. Long operations (R367 to R372): their start with its checks, the rings, ABORT, the status mirror; and the two
that the DMC engines run (R272, R380) and TUMBLER_REBUILD (R379). -/

namespace Sys2Proof.Machine

/-! ### Arguments -/

/-- Bits `lo` to `lo + n - 1` of argument j. -/
def State.lopArgF (s : State) (i j lo n : Nat) : Nat := s.lopArgN i j / 2 ^ lo % 2 ^ n

/-- The operation has output, input. -/
def opOutput (op : Nat) : Bool := op == 1 || op == 3
def opInput (op : Nat) : Bool := op == 2 || op == 7 || op == 8

/-- A ring size that R369 allows. -/
def ringSizeOk (n : Nat) : Bool := decide (64 ≤ n) && decide (n ≤ 67108864) && n == 2 ^ Nat.log2 n

/-- Exactly one of the operation's slots but `i`, or another, satisfies `p`. -/
def State.otherLop (s : State) (i : Nat) (p : Nat → Bool) : Bool := (List.range 16).any (fun k => k != i && s.lopActive k && p k)

def State.isRebuild (s : State) (k : Nat) : Bool := (s.lopSlot k).run == .rebuild
def State.isScrub (s : State) (k : Nat) : Bool := match (s.lopSlot k).run with | .scrub _ => true | _ => false
def State.isImage (s : State) (k : Nat) : Bool := match (s.lopSlot k).run with | .image _ _ _ => true | _ => false

/-- The operation may run in this phase or layer (R340, R370). -/
def State.lopPhaseOk (s : State) (i op : Nat) : Bool :=
  let journal := op == 3 && s.lopArgF i 0 0 4 == 3
  if s.phase = 12 then journal || op == 7 else if s.phase = 11 then true else journal

/-- The arguments are in range (R370); TUMBLER_REBUILD needs QUAD fenced and SRC_QUAD another array in service (R379), an image
goes to a slot that does not run (R355), a migration moves a rank in service (R272). -/
def State.lopArgsOk (s : State) (i op : Nat) : Bool :=
  let ring := (!opOutput op || ringSizeOk (s.fld (Reg.LOP_OUT_CFG i) Fld.LOP_OUT_CFG_LINES))
    && (!opInput op || ringSizeOk (s.fld (Reg.LOP_IN_CFG i) Fld.LOP_IN_CFG_LINES))
  let own : Bool :=
    if op = 3 then
      decide (s.lopArgF i 0 0 4 ≤ 3) && (s.lopArgF i 0 0 4 != 1 || s.tmbTableOk (s.lopArgF i 0 4 2) (s.lopArgF i 0 8 4))
    else if op = 4 then
      let q := s.lopArgF i 0 0 2
      let src := s.lopArgF i 0 2 2
      let st := s.unitState (unitTumbler q)
      decide (1 ≤ st) && decide (st ≤ 3) && src != q && !s.down (unitTumbler src)
    else if op = 6 then
      let c := s.lopArgF i 0 0 4
      let r := s.lopArgF i 0 4 2
      decide (c < 12) && s.populated c && decide (r < s.mappedRanks c) && !s.rankOut c r
    else if op = 7 then s.cast.slot != some (s.lopArgF i 0 0 1)
    else true
  decide (1 ≤ op) && decide (op ≤ 8) && ring && own

/-- A migration may run in channel c (R272). -/
def State.migrationFree (s : State) (c : Nat) : Bool :=
  s.hasSpare c && s.migState c == 0 && !s.rankOut c (s.ranks c - 1) && !s.flag (Reg.DMC_STATUS c) Fld.DMC_STATUS_SPARE_USED
    && !s.anyMigration && s.dmcReady

/-- An exclusion of R370 forbids the operation now. -/
def State.lopExcluded (s : State) (i op : Nat) : Bool :=
  if op = 4 then
    s.otherLop i (fun k => s.isRebuild k && s.lopArgF k 0 0 2 == s.lopArgF i 0 0 2) || s.genPending || s.tmb.run == .copying
  else if op = 5 then
    s.otherLop i (fun k => s.isScrub k && (s.lopArgF k 0 0 12 &&& s.lopArgF i 0 0 12) != 0)
  else if op = 6 then
    !s.migrationFree (s.lopArgF i 0 0 4) || s.otherLop i (fun k => (s.lopSlot k).run == .migrate false)
  else if op = 7 then s.otherLop i s.isImage
  else false

/-! ### Start (R367) -/

/-- Entries of a Tumbler table. -/
def State.tableLen (s : State) (q t : Nat) : Nat := ((s.tmbRange q t).2 - (s.tmbRange q t).1) / s.tmbWidth q t

/-- Bucket and stash slots of a shard. -/
def State.shardSlots (s : State) (h : Nat) : Nat := 16 * 2 ^ s.bucketBits h + 65536

/-- Lines of a channel's mapped ranks in one subchannel. -/
def State.scrubLines (s : State) (c : Nat) : Nat := if s.populated c then s.mappedRanks c * 2 ^ s.rlLog c else 0

/-- Entries that a rebuild of array q from array `src` loads. -/
def State.rebuildLen (s : State) (q src : Nat) : Nat :=
  let shared (t : Nat) : Bool := s.flag (tmbCfg q t) Fld.TMB_TABLE_CFG_SHARED
  ((List.range 16).map (fun t => if s.tmbTableOk q t && shared t then (s.tmbEntries src t).length else 0)).sum
    + (s.cast.tables.tmb.filter (fun x => x.quad == q && !shared x.table)).length

/-- Units in the operation; 0 where they are unknown. -/
def State.lopTotal (s : State) (i op : Nat) : Nat :=
  let masked (n lo : Nat) (f : Nat → Nat) : Nat :=
    ((List.range n).map (fun k => if (s.lopArgN i 0).testBit (lo + k) then f k else 0)).sum
  if op = 1 then masked 16 0 s.shardSlots
  else if op = 3 then
    let k := s.lopArgF i 0 0 4
    if k = 0 then 524288 else if k = 1 then s.tableLen (s.lopArgF i 0 4 2) (s.lopArgF i 0 8 4) else if k = 2 then 262144
    else s.cast.jnlLen
  else if op = 4 then s.rebuildLen (s.lopArgF i 0 0 2) (s.lopArgF i 0 2 2)
  else if op = 5 then masked 12 0 (fun c => 2 * s.scrubLines c)
  else if op = 6 then 2 * 2 ^ s.rlLog (s.lopArgF i 0 0 4)
  else 0

/-- KEY_CHECK: 32 bits of the hash of 16 zero bytes under the device's hash key (R374). -/
def State.keyCheck (s : State) : Nat :=
  (sipHash (s.reg (Reg.SLC_HASH_KEY0 0)) (s.reg (Reg.SLC_HASH_KEY1 0)) (List.replicate 16 0#8)).toNat % 4294967296

/-- The header line of an export (R374), of the state at START. -/
def State.exportHeader (s : State) (i : Nat) : List Byte :=
  let b := [0x53#8, 0x39#8, 0x46#8, 0x58#8, 1#8, 0#8] ++ leBytes 2 128 ++ leBytes 8 (s.reg Reg.CST_IMAGE).toNat ++ leBytes 8 s.clk.sec
    ++ leBytes 4 (ptOf s.clk.mono) ++ leBytes 4 s.keyCheck ++ leBytes 2 (s.lopArgF i 0 0 16) ++ leBytes 6 0
    ++ leBytes 8 (s.lopArgN i 1) ++ leBytes 12 0
  b ++ leBytes 4 (crc32c b).toNat

/-- Where an operation begins. -/
def State.lopFirst (s : State) (i op : Nat) : LopRun :=
  if op = 1 then .flowExport 0 0 0 0
  else if op = 2 then .flowImport false 0 0
  else if op = 3 then .dump (if s.lopArgF i 0 0 4 = 3 then s.jnlHead else 0) 0 false
  else if op = 4 then .rebuild
  else if op = 5 then .scrub 0
  else if op = 6 then .migrate false
  else if op = 7 then .image false false 0
  else .admission

/-- One more than the order of every slot. -/
def State.lopNextOrder (s : State) : Nat := (s.lop.map (fun e => e.2.order)).foldl max 0 + 1

/-- LOP_START. -/
def lopStart (i op : Nat) (s : State) : State :=
  if s.lopActive i then s.setFld Reg.LOP_SUMMARY Fld.LOP_SUMMARY_ERR 1
  else
    let s := s.setFld (Reg.LOP_CTL i) Fld.LOP_CTL_OP op
    let s := s.lopPut i (((((s.reg (Reg.LOP_STATUS i)).put lopState 1).put lopOp op).put lopCode 0).put lopLines 0)
    let s : State := forUpTo 4 (fun j t => t.lopResult i j 0) s
    let s := s.setReg (Reg.LOP_PROGRESS i) 0
    if !s.lopPhaseOk i op then s.lopEnd i 4 lopPhase
    else if !s.lopArgsOk i op then s.lopEnd i 4 lopArg
    else if s.lopExcluded i op then s.lopEnd i 4 lopBusy
    else if (opOutput op ∨ opInput op) ∧ !s.dmaEn then s.lopEnd i 4 lopHost
    else
      let s := s.setFld (Reg.LOP_PROGRESS i) Fld.LOP_PROGRESS_TOTAL (s.lopTotal i op)
      let buf := if op = 1 then s.exportHeader i else []
      let n := s.lopNextOrder
      s.setLop i { s.lopSlot i with run := s.lopFirst i op, order := n, buf := buf, fin := false, aborting := false }

/-! ### The rings at work -/

/-- The code with which an operation ends DONE. -/
def LopRun.doneCode : LopRun → Nat
  | .dump _ _ true => lopMoved
  | _ => 0

/-- An operation at its safe point, with nothing left to write: it ends where it is finished or aborted. -/
def State.lopSettle (s : State) (i : Nat) : State :=
  let x := s.lopSlot i
  if x.buf ≠ [] then s
  else if x.fin then s.lopEnd i 3 x.run.doneCode
  else if x.aborting then s.lopEnd i 5 lopAborted
  else s

/-- The first `n` lines of output go to the ring as the bytes `b`. -/
def State.lopSend (s : State) (i n : Nat) (b : List Byte) : State :=
  let x := s.lopSlot i
  (s.setLop i { x with buf := x.buf.drop (64 * n) }).lopWrite i b

/-- `n` lines of output pass through a result buffer: the active complex allocates it, fills it and gives it to the HIF, which
writes the lines to the ring and frees it (R280, R284).  Whether the pool had one; before the BPM answers none is used. -/
def State.lopBuffer (s : State) (i n : Nat) : Bool × State :=
  let b := (s.lopSlot i).buf.take (64 * n)
  if !s.flag Reg.BPM_STATUS Fld.BPM_STATUS_READY then (true, s.lopSend i n b)
  else
    let r := 21 + s.activeCc
    match s.fitPool (64 * n) with
    | none => (false, s)
    | some p =>
      let a := s.poolAlloc r p
      match a.1 with
      | .granted x =>
        let y := ((a.2.bufWrite x b).poolHand r x reqHif).bufRead x (64 * n)
        (true, (y.2.2.lopSend i n y.1).poolRelease reqHif x)
      | _ => (false, a.2)

/-- Lines for the next result buffer: what the ring has room for, in one buffer where a pool fits it, else a pool-1 buffer's. -/
def State.lopChunk (s : State) (i : Nat) : Nat :=
  let n := if s.dmaEn then min (s.outRoom i) ((s.lopSlot i).buf.length / 64) else 0
  if (s.fitPool (64 * n)).isSome ∨ !s.flag Reg.BPM_STATUS Fld.BPM_STATUS_READY then n else min n 8

/-- Result buffers go out one after another, at most `n` of them, until the ring or the pool has no room. -/
def State.lopPass (s : State) (i : Nat) : Nat → State
  | 0 => s
  | n + 1 =>
    let k := s.lopChunk i
    if k = 0 then s
    else
      let r := s.lopBuffer i k
      if r.1 then r.2.lopPass i n else r.2

/-- As much output as finds room in the ring, and buffers, is written; the rest stays pending, for the host or for a buffer
(R283). -/
def State.lopDrain (s : State) (i : Nat) : State :=
  let s := s.lopPass i ((s.lopSlot i).buf.length / 64)
  if (s.lopSlot i).buf = [] then s else s.lopShow i (if s.outRoom i = 0 then 2 else 1)

/-- Output is made: it goes out as far as there is room. -/
def State.lopEmit (s : State) (i : Nat) (bytes : List Byte) (fin : Bool) : State :=
  let x := s.lopSlot i
  ((s.setLop i { x with buf := x.buf ++ bytes, fin := x.fin || fin }).lopDrain i).lopSettle i

/-- LOP_IN_PROD_WRITE. -/
def lopInProdWrite (i prod : Nat) (last : Bool) (s : State) : State :=
  let a := Reg.LOP_IN_PROD i
  let s := (s.setFld a Fld.LOP_IN_PROD_PROD prod).setFld a Fld.LOP_IN_PROD_END (bit last)
  let reads := match (s.lopSlot i).run with
    | .flowImport _ _ _ | .image _ _ _ | .admission => true
    | _ => false
  if s.lopFld i lopState = 2 ∧ reads = true ∧ (0 < s.inLeft i ∨ last = true) then s.lopShow i 1 else s

/-- LOP_OUT_CONS_WRITE. -/
def lopOutConsWrite (i cons : Nat) (s : State) : State :=
  let s := s.setFld (Reg.LOP_OUT_CONS i) Fld.LOP_OUT_CONS_CONS cons
  if s.lopFld i lopState = 2 ∧ (s.lopSlot i).buf ≠ [] ∧ 0 < s.outRoom i ∧ opOutput (s.lopFld i lopOp) = true then
    (s.lopDrain i).lopSettle i
  else s

/-- The next `n` lines are taken from the input ring; used up without END, the operation waits for the host. -/
def State.lopRead (s : State) (i n : Nat) : State :=
  let s := s.lopMoved i n
  if s.inLeft i = 0 ∧ !s.inDone i then s.lopShow i 2 else s

/-- The operation reads input and has none: it waits for the host. -/
def State.lopStarve (s : State) (i : Nat) : State := if s.inLeft i = 0 ∧ !s.inDone i then s.lopShow i 2 else s

/-- Lines of a record that are still to write, of an operation whose output waits: an export's record and a Tumbler entry take two
lines (R374, R378), and the header of an export goes before its first record. -/
def State.recordLeft (s : State) (i : Nat) : Nat :=
  let n := s.lopFld i lopLines
  match (s.lopSlot i).run with
  | .flowExport _ _ _ _ => if 0 < n ∧ n % 2 = 0 then 1 else 0
  | .dump _ _ _ => if s.lopArgF i 0 0 4 = 1 ∧ n % 2 = 1 then 1 else 0
  | _ => 0

/-- Output is written no further than the record under way. -/
def State.cutOutput (s : State) (i : Nat) : State :=
  let x := s.lopSlot i
  let keep := 64 * s.recordLeft i
  s.setLop i { x with aborting := true, buf := x.buf.take keep, fin := x.fin && decide (x.buf.length ≤ keep) }

/-- LOP_ABORT (R372). -/
def lopAbort (i : Nat) (s : State) : State :=
  let x := s.lopSlot i
  if !s.lopActive i then s
  else
    match x.run with
    | .none | .rebuild | .migrate _ => s
    | .image _ entered _ => if entered then s else s.lopEnd i 5 lopAborted
    | .admission => if s.inDone i then s else s.lopEnd i 5 lopAborted
    | .flowImport _ _ _ => if x.buf = [] then s.lopEnd i 5 lopAborted else s.setLop i { x with aborting := true }
    | .scrub _ => s.lopEnd i 5 lopAborted
    | .flowExport _ _ _ _ | .dump _ _ _ => (s.cutOutput i).lopSettle i

/-- STATUS_MIRROR_WRITE (R368): a changed status word goes to the host, at once when it is final, else at most once in 10 µs. -/
def statusMirrorWrite (i : Nat) (s : State) : State :=
  let x := s.lopSlot i
  let a := s.fld (Reg.LOP_MIRROR_ADDR i) Fld.LOP_MIRROR_ADDR_ADDR
  let due := !s.lopActive i || (match x.mirrorAt with | none => true | some t => decide (t + usTicks 10 ≤ s.clk.mono))
  if x.dirty = false ∨ a = 0 ∨ s.dmaEn = false ∨ due = false ∨ s.serving = false then s
  else
    let m := memWrite s.hif.mem (8 * a) (leBytes 8 (s.reg (Reg.LOP_STATUS i)).toNat)
    { s with hif := { s.hif with mem := m } }.setLop i { x with dirty := false, mirrorAt := some s.clk.mono }

/-! ### TUMBLER_REBUILD (R379) -/

/-- Table t of array q is copied from array `src`: entry by entry, at the same distance from the table's first index. -/
def State.copyTable (s : State) (q src t : Nat) : State :=
  let d := (s.tmbRange q t).1
  let f := (s.tmbRange src t).1
  forEach (s.tmbEntries src t) (fun x y => y.setEnt q (x.1 - f + d) x.2) s

/-- The image's entries of array q outside SHARED tables, visible in the current slot alone. -/
def State.loadUnshared (s : State) (q : Nat) : State :=
  let g := BitVec.ofNat 4 (2 ^ s.genCurSlot)
  forEach (s.cast.tables.tmb.filter (fun x => x.quad == q && !s.flag (tmbCfg q x.table) Fld.TMB_TABLE_CFG_SHARED))
    (fun x y => y.setEnt q x.index { loadEntry x (y.tmbWidth q x.table) with gens := g }) s

/-- The array without its entries. -/
def State.clearArray (s : State) (q : Nat) : State :=
  { s with tmb := { s.tmb with ents := s.tmb.ents.filter (fun e => decide (e.1 / 262144 ≠ q)) } }

/-- The array is reloaded: SHARED tables from array `src`, the others from the image. -/
def State.rebuildArray (s : State) (q src : Nat) : State :=
  let s := s.clearArray q
  let s : State := forEach ((List.range 16).filter (fun t => s.tmbTableOk q t && s.flag (tmbCfg q t) Fld.TMB_TABLE_CFG_SHARED))
    (fun t y => y.copyTable q src t) s
  let s := s.loadUnshared q
  { s with fault := { s.fault with rebuilt := Tbl.set false s.fault.rebuilt (unitTumbler q) true } }

def tumblerRebuild (i : Nat) (s : State) : State :=
  if !s.serving ∨ !s.lopActive i ∨ (s.lopSlot i).run ≠ .rebuild then s
  else
    let q := s.lopArgF i 0 0 2
    let src := s.lopArgF i 0 2 2
    let n := s.rebuildLen q src
    (((s.rebuildArray q src).lopProgress i n).lopEnd i 3 0).openProceed

/-! ### DRAM_SCRUB, RANK_MIGRATE (R272, R380) -/

/-- One line in each subchannel of a channel; `es`: what the two reads meet. -/
def State.scrubPair (s : State) (i c x : Nat) (es : List Ecc) : State :=
  forUpTo 2 (fun k t =>
    let e := es.getD (2 * c + k) .ok
    let r := t.deviceLine c k x
    let ok := (t.dramRead r false e).1.isSome
    let t := (t.scrubOne c k x e).lopProgress i 1
    if e = .corrected ∧ ok = true then t.lopCount i 0 else t) s

/-- DRAM_SCRUB: the next line of every subchannel of the mask; `es`: what reading meets, by subchannel. -/
def dramScrub (i : Nat) (es : List Ecc) (s : State) : State :=
  match (s.lopSlot i).run with
  | .scrub x =>
    let chs := (List.range 12).filter (fun c => (s.lopArgN i 0).testBit c)
    if !s.lopActive i ∨ !s.dmcReady ∨ chs.any (fun c => !s.bgMay c 0 || !s.bgMay c 1) then s
    else
      let s : State := forEach (chs.filter (fun c => decide (x < s.scrubLines c))) (fun c t => t.scrubPair i c x es) s
      if chs.all (fun c => decide (s.scrubLines c ≤ x + 1)) then s.lopEnd i 3 0 else s.setLopRun i (.scrub (x + 1))
  | _ => s

/-- RANK_MIGRATE: the migration starts; later, it is seen to have ended. -/
def rankMigrate (i : Nat) (s : State) : State :=
  let c := s.lopArgF i 0 0 4
  match (s.lopSlot i).run with
  | .migrate false =>
    if !s.lopActive i then s
    else if !s.migrationFree c then s.lopEnd i 4 lopBusy
    else (s.startMigration c (s.lopArgF i 0 4 2) false).setLopRun i (.migrate true)
  | .migrate true =>
    if !s.lopActive i ∨ s.migState c = 1 ∨ s.migState c = 2 then s
    else if s.migState c = 3 then s.lopEnd i 3 0
    else s.lopEnd i 4 lopSpareFail
  | _ => s

def execLopStart (i op : Fin 16) (s : State) : Out := done s (lopStart i.val op.val s)
def execLopAbort (i : Fin 16) (s : State) : Out := done s (lopAbort i.val s)
def execLopInProdWrite (i : Fin 16) (prod : BitVec 32) (last : Bool) (s : State) : Out := done s (lopInProdWrite i.val prod.toNat last s)
def execLopOutConsWrite (i : Fin 16) (cons : BitVec 32) (s : State) : Out := done s (lopOutConsWrite i.val cons.toNat s)
def execStatusMirrorWrite (i : Fin 16) (s : State) : Out := done s (statusMirrorWrite i.val s)
def execTumblerRebuild (i : Fin 16) (s : State) : Out := done s (tumblerRebuild i.val s)
def execDramScrub (i : Fin 16) (es : List Ecc) (s : State) : Out := done s (dramScrub i.val es s)
def execRankMigrate (i : Fin 16) (s : State) : Out := done s (rankMigrate i.val s)

end Sys2Proof.Machine
end

