-- ==== Sys2Proof/Machine/LopImage.lean ====
section
/-! DEFINITION. IMAGE_WRITE (R355, R380) and ADMIT_REQUEST (R350, R351, R381). -/

namespace Sys2Proof.Machine

/-! ### IMAGE_WRITE (R355) -/

/-- A SLOT entry of slot k waits to be written. -/
def State.slotQueued (s : State) (k : Nat) : Bool := s.cast.jq.any (fun e => e.what.ofSlot k)

/-- The slot is erased, its first 64 KiB reserve apart. -/
def State.eraseSlot (s : State) (k : Nat) : State :=
  let a := s.slotBase k
  let n := s.slotLen
  { s with cast := { s.cast with flash := s.cast.flash.filter (fun e => decide (e.1 < a) || decide (a + n ≤ e.1)) } }

/-- Bytes are programmed behind the first `off` of slot k, as far as the slot reaches. -/
def State.programSlot (s : State) (k off : Nat) (bytes : List Byte) : State :=
  let l := bytes.take (s.slotLen - off)
  let a := s.slotBase k + off
  { s with cast := { s.cast with flash := forEach l.zipIdx (fun x m => Tbl.set flashErased m (a + x.2) x.1) s.cast.flash } }

/-- The programmed image is read back and verified: refused, or its COMMIT or TRIAL entry joins the journal's queue. -/
def State.imageVerify (s : State) (i k bytes : Nat) (readFail : Bool) : State :=
  let r := s.verifyImage k readFail
  match r.1 with
  | some x => r.2.lopEnd i 4 x.code
  | none =>
    let s := r.2.lopResult i 1 (leNat ((r.2.imgDigest k).take 8))
    let s := (s.slotEntry k (if s.lopArgF i 0 1 1 = 1 then .trial else .commit)).cstBump Cnt.CST_IMAGE_COMMITS
    s.setLopRun i (.image true true bytes)

/-- IMAGE_WRITE: REVOKE; erasure once its bind-off is written; the next lines of the input ring, `bytes`; verification; the
final entry.  `readFail`: the slot cannot be read back. -/
def imageWrite (i : Nat) (bytes : List Byte) (readFail : Bool) (s : State) : State :=
  match (s.lopSlot i).run with
  | .image revoked entered n =>
    let k := s.lopArgF i 0 0 1
    if !s.lopActive i ∨ !s.serving then s
    else if !revoked then (s.slotEntry k .revoke).setLopRun i (.image true false 0)
    else if s.slotQueued k then s
    else if entered then s.lopEnd i 3 0
    else if s.inDone i then (if n = 0 then s.eraseSlot k else s).imageVerify i k n readFail
    else if s.inLeft i = 0 ∨ !s.dmaEn then s.lopStarve i
    else
      let m := min (s.inLeft i) (max 1 (bytes.length / 64))
      let b := bytesAt bytes 0 (64 * m)
      let s := (if n = 0 then s.eraseSlot k else s).programSlot k n b
      let s := ((s.lopRead i m).lopProgress i (64 * m)).lopResult i 0 (n + 64 * m)
      s.setLopRun i (.image true false (n + 64 * m))
  | _ => s

/-! ### ADMIT_REQUEST (R350, R351, R381) -/

/-- A class change: the class, FIELDS and the SCH.CLASS value. -/
structure ClassChange where
  cls : Nat
  fields : Nat
  value : Word64
  deriving DecidableEq, Repr

/-- A request block. -/
structure AdmitBlock where
  budget : Nat
  classes : List ClassChange
  /-- Envelope entries, each with its byte 3. -/
  envs : List (Nat × EnvEntry)
  deriving DecidableEq, Repr

def admitClasses (b : List Byte) : Nat := leNat (bytesAt b 4 2)
def admitEnvs (b : List Byte) : Nat := leNat (bytesAt b 6 2)

/-- Where the envelope changes begin. -/
def admitEnvAt (b : List Byte) : Nat := 64 + (16 * admitClasses b + 31) / 32 * 32

/-- The stream holds a whole request block. -/
def admitBlockOk (b : List Byte) : Bool :=
  bytesAt b 0 4 == [0x53#8, 0x39#8, 0x41#8, 0x52#8] && decide (admitClasses b ≤ 64) && decide (admitEnvs b ≤ 8192)
    && decide (admitEnvAt b + 32 * admitEnvs b ≤ b.length)

def admitBlock (b : List Byte) : AdmitBlock :=
  { budget := leNat (bytesAt b 8 2)
    classes := (List.range (admitClasses b)).map (fun i =>
      let e := bytesAt b (64 + 16 * i) 16
      { cls := leNat (bytesAt e 0 1), fields := leNat (bytesAt e 2 2), value := BitVec.ofNat 64 (leNat (bytesAt e 8 8)) })
    envs := (List.range (admitEnvs b)).map (fun i =>
      let e := bytesAt b (admitEnvAt b + 32 * i) 32
      (leNat (bytesAt e 3 1), envEntry e)) }

/-- The SCH.CLASS fields that FIELDS names, by bit. -/
def classFields : List Fld :=
  [Fld.SCH_CLASS_PROG_ENTRY, Fld.SCH_CLASS_AGE_ENTRY, Fld.SCH_CLASS_BUDGET, Fld.SCH_CLASS_MISS_DISP, Fld.SCH_CLASS_FALLBACK,
   Fld.SCH_CLASS_FALLBACK_ACL, Fld.SCH_CLASS_PUNT_QUEUE]

/-- An SCH.CLASS value with the fields of a change taken. -/
def ClassChange.apply (c : ClassChange) (w : Word64) : Word64 :=
  forEach classFields.zipIdx (fun x w => if c.fields.testBit x.2 then w.put x.1 (c.value.get x.1) else w) w

/-- The first change that asks for what R350 does not allow (REQ_FIELD). -/
def AdmitBlock.badField (b : AdmitBlock) : Option Refuse :=
  ((b.classes.filter (fun c => decide (64 ≤ c.cls) || decide (128 ≤ c.fields))).head?).map
    (fun c => { code := 0x0602, kind := 10, index := c.cls })

/-- The set-up that the request asks for, in every shard and slice. -/
def State.admitApply (s : State) (b : AdmitBlock) : State :=
  let s : State := forUpTo 16 (fun h t =>
    let t := if b.budget = 0 then t else t.setFld (Reg.SCH_AGE_CTL h) Fld.SCH_AGE_CTL_BUDGET b.budget
    forEach b.classes (fun c t => t.setReg (Reg.SCH_CLASS h c.cls) (c.apply (t.reg (Reg.SCH_CLASS h c.cls)))) t) s
  forUpTo 16 (fun i t => t.copyFallback i) s

/-- The envelope after the request's changes, in order. -/
def admitEnvelope (l : List EnvEntry) (b : AdmitBlock) : List EnvEntry :=
  forEach b.envs (fun x l =>
    let rest := l.filter (fun e => !(e.lport == x.2.lport && e.cls == x.2.cls))
    if x.1 = 1 then rest
    else if l.any (fun e => e.lport == x.2.lport && e.cls == x.2.cls) then
      l.map (fun e => if e.lport = x.2.lport ∧ e.cls = x.2.cls then x.2 else e)
    else l ++ [x.2]) l

/-- The first of the changed registers out of range (0x0202). -/
def State.admitRange (s : State) (b : AdmitBlock) : Option Refuse :=
  let regs := Reg.SCH_AGE_CTL 0 :: b.classes.map (fun c => Reg.SCH_CLASS 0 c.cls)
  refuseReg 0x0202 (regs.filter (fun a => !valueOk a (s.reg a)))

/-- The checks of R350 on the set-up asked for. -/
def State.admitChecks (s : State) (b : AdmitBlock) (l : List EnvEntry) : Option Refuse :=
  firstRefuse [s.admitRange b, refuseLow 0x0209 10 s.fallbackBad, refuseLow 0x0408 10 (s.countsBad l), s.admitCheck l]

/-- A request is refused. -/
def State.admitRefuse (s : State) (i : Nat) (r : Refuse) : State :=
  let s := ((s.lopResult i 0 r.demand).lopResult i 1 r.limit).lopResult i 2 (r.kind % 16 + 256 * r.index)
  (s.cstBump Cnt.CST_ADMIT_REQ_REFUSED).lopEnd i 4 r.code

/-- A complete request is checked, and applied in one cycle. -/
def State.admitRequest (s : State) (i : Nat) (bytes : List Byte) : State :=
  let plain (c : Nat) : Refuse := { code := c, kind := 0, index := 0 }
  if s.dram.freq ≠ .idle ∨ s.anyMigration = true then s.admitRefuse i (plain 0x0601)
  else if !admitBlockOk bytes then s.lopEnd i 4 lopStream
  else
    let b := admitBlock bytes
    match b.badField with
    | some r => s.admitRefuse i r
    | none =>
      if s.fld Reg.CST_IMAGE_INFO Fld.CST_IMAGE_INFO_RUNTIME_ADMIT = 0 then s.admitRefuse i (plain 0x0603)
      else
        let l := admitEnvelope s.cast.env b
        let t := s.admitApply b
        match t.admitChecks b l with
        | some r => s.admitRefuse i r
        | none =>
          let t := State.showAdmitted { t with cast := { t.cast with env := l } } l
          ((t.jnlQueue (.event .admission)).cstBump Cnt.CST_ADMIT_REQ_OK).lopEnd i 3 0

/-- An admission request that was started before that of slot i still runs. -/
def State.admitBefore (s : State) (i : Nat) : Bool :=
  s.otherLop i (fun k => (s.lopSlot k).run == .admission && decide ((s.lopSlot k).order < (s.lopSlot i).order))

/-- ADMIT_REQUEST: the next lines of the input ring, `bytes`; once all are read, and no earlier request runs, the checks. -/
def admitRequestStep (i : Nat) (bytes : List Byte) (s : State) : State :=
  let x := s.lopSlot i
  if x.run ≠ .admission ∨ s.lopActive i = false ∨ s.serving = false then s
  else if s.inDone i then (if s.admitBefore i then s else s.admitRequest i x.buf)
  else if s.inLeft i = 0 ∨ s.dmaEn = false then s.lopStarve i
  else
    let m := min (s.inLeft i) (max 1 (bytes.length / 64))
    let s := s.lopRead i m
    s.setLop i { s.lopSlot i with buf := x.buf ++ bytesAt bytes 0 (64 * m) }

def execImageWrite (i : Fin 16) (bytes : List Byte) (readFail : Bool) (s : State) : Out := done s (imageWrite i.val bytes readFail s)
def execAdmitRequest (i : Fin 16) (bytes : List Byte) (s : State) : Out := done s (admitRequestStep i.val bytes s)

end Sys2Proof.Machine
end

