-- ==== Sys2Proof/Machine/Exporter.lean ====
section
/-! DEFINITION. The IPFIX exporter: ring entries, data records, messages and its status line (R244 to R247). -/

namespace Sys2Proof.Machine

/-- Device line `l` of auxiliary region 8, by shard H0's table. -/
def State.region8 (s : State) (l : Nat) : Nat := (s.reg (Reg.FAE_AUX_BASE 0 8)).toNat / 64 + l

/-- The exporter's settings while it works: RUN, an image with an EXPORTER section, the services accepted. -/
def State.exportCfg (s : State) : Option ExporterCfg :=
  if s.phase = 11 ∧ s.serving ∧ s.dmcReady then s.cast.tables.exporter else none

/-- Sequence number that shard h gave last: Ward event counter 1,023. -/
def State.exportSeq (s : State) (h : Nat) : Nat := (s.eventCount h 1023).toNat

/-- The oldest sequence number that a ring of r entries still holds. -/
def oldestSeq (c r : Nat) : Nat := max 1 (c + 1 - r)

/-- Sequence number expected from shard h; an exporter that has just started begins at the oldest entry (R245). -/
def State.expectedSeq (s : State) (h r : Nat) : Nat :=
  match Tbl.get 0 s.exporter.next h with
  | 0 => oldestSeq (s.exportSeq h) r
  | n => n

def State.setExpectedSeq (s : State) (h n : Nat) : State :=
  { s with exporter := { s.exporter with next := Tbl.set 0 s.exporter.next h n, waitAt := Tbl.set none s.exporter.waitAt h none } }

/-! ### Records (R244 to R246) -/

/-- Word j of a ring entry. -/
def entryWord (b : List Byte) (j : Nat) : Word64 := BitVec.ofNat 64 (leNat (bytesAt b (8 * j) 8))

/-- Addresses and ports of the entry's key in the direction of the flow: source address, destination address, ports. -/
def entryPairs (b : List Byte) (v6 : Bool) : List Byte × List Byte × List Byte × List Byte :=
  let n := if v6 then 16 else 4
  let k := bytesAt b 8 40
  let a0 := bytesAt k 8 n
  let a1 := bytesAt k (8 + n) n
  if (entryWord b 6).get ⟨57, 1⟩ = 1 then (a1, a0, bytesAt k 6 2, bytesAt k 4 2) else (a0, a1, bytesAt k 4 2, bytesAt k 6 2)

/-- flowEndMilliseconds and flowStartMilliseconds. -/
def entryTimes (b : List Byte) : Nat × Nat :=
  let ns := (entryWord b 11).get ⟨0, 48⟩ * 1000000000 + (entryWord b 12).get ⟨0, 32⟩
  let d := ((entryWord b 8).get ⟨32, 32⟩ + 4294967296 - (entryWord b 8).get ⟨0, 32⟩) % 4294967296
  (ns / 1000000, (ns - d * 1280) / 1000000)

/-- Fields of template 256 or 257. -/
def plainRecord (b : List Byte) (v6 : Bool) : List Byte :=
  let x := entryPairs b v6
  let t := entryTimes b
  let w := entryWord b 6
  x.1 ++ x.2.1 ++ x.2.2.1 ++ x.2.2.2 ++ bytesAt b 9 1 ++ ([0#8, 0#8] ++ bytesAt b 10 2) ++ beBytes 4 (w.get ⟨48, 9⟩)
    ++ beBytes 4 ((entryWord b 7).get ⟨48, 9⟩) ++ beBytes 8 (w.get ⟨0, 40⟩) ++ beBytes 8 ((entryWord b 7).get ⟨0, 48⟩)
    ++ beBytes 8 t.2 ++ beBytes 8 t.1 ++ beBytes 1 (w.get ⟨40, 4⟩)

/-- The post-NAT destination of an entry: a backend's, a translated one, or the key's own. -/
def postDest (b backend : List Byte) (v6 : Bool) : List Byte × List Byte :=
  let x := entryPairs b v6
  let n := entryWord b 10
  if (entryWord b 9).get ⟨16, 1⟩ = 1 then ((if v6 then bytesAt backend 0 16 else bytesAt backend 12 4), bytesAt backend 16 2)
  else if n.get ⟨48, 1⟩ = 1 ∧ n.get ⟨49, 1⟩ = 1 ∧ v6 = false then (beBytes 4 (n.get ⟨0, 32⟩), beBytes 2 (n.get ⟨32, 16⟩))
  else (x.2.1, x.2.2.2)

/-- The post-NAT source of an IPv4 entry. -/
def postSource (b : List Byte) : List Byte × List Byte :=
  let x := entryPairs b false
  let n := entryWord b 10
  if n.get ⟨48, 1⟩ = 1 ∧ n.get ⟨49, 1⟩ = 0 then (beBytes 4 (n.get ⟨0, 32⟩), beBytes 2 (n.get ⟨32, 16⟩)) else (x.1, x.2.2.1)

/-- The Data Record of an entry under template 256 + t; `backend`: the 32 bytes of its backend entry. -/
def dataRecord (t : Nat) (b backend : List Byte) : List Byte :=
  let v6 := decide (t % 2 = 1)
  let d := postDest b backend v6
  let o := postSource b
  plainRecord b v6 ++ (if t = 2 then o.1 ++ d.1 ++ o.2 ++ d.2 else if t = 3 then d.1 ++ d.2 else [])

/-- Lengths of the Data Records of templates 256 to 259. -/
def recordLen (t : Nat) : Nat := if t = 0 then 58 else if t = 1 then 82 else if t = 2 then 70 else 100

/-! ### Messages (R246) -/

/-- IANA numbers and lengths of a template's fields (PRESUMED, assumption log 49). -/
def templateFields (t : Nat) : List (Nat × Nat) :=
  (if t % 2 = 0 then [(8, 4), (12, 4)] else [(27, 16), (28, 16)])
    ++ [(7, 2), (11, 2), (4, 1), (234, 4), (10, 4), (14, 4), (2, 8), (1, 8), (152, 8), (153, 8), (136, 1)]
    ++ (if t = 2 then [(225, 4), (226, 4), (227, 2), (228, 2)] else if t = 3 then [(282, 16), (228, 2)] else [])

/-- The template set. -/
def templateSet : List Byte :=
  let body := (List.range 4).flatMap (fun t =>
    beBytes 2 (256 + t) ++ beBytes 2 (templateFields t).length ++ (templateFields t).flatMap (fun f => beBytes 2 f.1 ++ beBytes 2 f.2))
  beBytes 2 2 ++ beBytes 2 (body.length + 4) ++ body

/-- Data sets of records in their order: a run of one template makes a set. -/
def dataSets : List (Nat × List Byte) → List (Nat × List Byte)
  | [] => []
  | (t, b) :: r =>
    match dataSets r with
    | (u, c) :: q => if t = u then (t, b ++ c) :: q else (t, b) :: (u, c) :: q
    | [] => [(t, b)]

def setBytes (x : Nat × List Byte) : List Byte := beBytes 2 (256 + x.1) ++ beBytes 2 (x.2.length + 4) ++ x.2

/-- The sets of the next message. -/
def State.messageBody (s : State) (l : List (Nat × List Byte)) : List Byte :=
  (if s.exporter.templates then templateSet else []) ++ (dataSets l).flatMap setBytes

/-- The next message: version 10, length, export time, sequence number, observation domain, sets. -/
def State.message (s : State) (cfg : ExporterCfg) : List Byte :=
  let b := s.messageBody s.exporter.records
  beBytes 2 10 ++ beBytes 2 (b.length + 16) ++ beBytes 4 s.clk.sec ++ beBytes 4 s.exporter.seq ++ beBytes 4 cfg.domain ++ b

/-- One more record of template 256 + t still fits the message. -/
def State.messageRoom (s : State) (cfg : ExporterCfg) (t : Nat) : Bool :=
  decide ((s.messageBody s.exporter.records).length + 16 + 4 + recordLen t ≤ cfg.mtu)

/-! ### Reading the rings (R245) -/

/-- The first device line of the slot of sequence number n in shard h's ring. -/
def State.slotLine (s : State) (cfg : ExporterCfg) (h n : Nat) : Nat :=
  s.region8 (1 + h * 2 * cfg.ringEntries + 2 * (n % cfg.ringEntries))

/-- The slot is not yet written: neither of its sequence words has reached the expected number. -/
def slotUnwritten (b : List Byte) (n : Nat) : Bool := !(decide (n < (entryWord b 0).toNat) || decide (n < (entryWord b 15).toNat))
  && !((entryWord b 0).toNat == n && (entryWord b 15).toNat == n)

/-- A backend's entry of region 3; a lost line leaves it open. -/
def State.backendEntry (s : State) (b : Nat) (e : Ecc) : List Byte × State :=
  let r := s.dramRead ((s.reg (Reg.FAE_AUX_BASE 0 3)).toNat / 64 + b / 2) true e
  match r.1 with
  | some l => (bytesAt l (b % 2 * 32) 32, r.2)
  | none => r.2.drawBytes 32

/-- The entry's record joins the message. -/
def State.emitEntry (s : State) (h n : Nat) (b : List Byte) (t : Nat) (e : Ecc) : State :=
  let k : List Byte × State :=
    if (entryWord b 9).get ⟨16, 1⟩ = 1 then s.backendEntry ((entryWord b 9).get ⟨0, 16⟩) e else ([], s)
  let s := k.2.setExpectedSeq h (n + 1)
  { s with exporter := { s.exporter with records := s.exporter.records ++ [(t, dataRecord t b k.1)], exported := s.exporter.exported + 1 } }

/-- The template number of an entry; one beyond 259 has no stated meaning and is taken as an open one of the four. -/
def State.entryTemplate (s : State) (b : List Byte) : Nat × State :=
  let t := (entryWord b 6).get ⟨44, 4⟩
  if t < 4 then (t, s) else let d := s.draw; (d.1.toNat % 4, d.2)

/-- The lines of a slot as read; a lost one spells nothing. -/
def State.ringEntry (s : State) (l : Nat) (e0 e1 : Ecc) : List Byte × State :=
  let a := s.dramRead l true e0
  let b := a.2.dramRead (l + 1) true e1
  (match a.1, b.1 with | some x, some y => x ++ y | _, _ => List.replicate 128 0#8, b.2)

/-- EXPORTER_READ_ENTRY: the exporter reads shard h's next slot, with the outcomes of its two lines and of a backend's. -/
def exporterReadEntry (h : Nat) (e0 e1 e2 : Ecc) (s : State) : State :=
  match s.exportCfg with
  | none => s
  | some cfg =>
    let n := s.expectedSeq h cfg.ringEntries
    if s.messageRoom cfg 3 = false then s
    else
      let r := s.ringEntry (s.slotLine cfg h n) e0 e1
      let s := r.2
      let b := r.1
      if (entryWord b 0).toNat = n ∧ (entryWord b 15).toNat = n then
        let t := s.entryTemplate b
        t.2.emitEntry h n b t.1 e2
      else if slotUnwritten b n then
        if n < s.exportSeq h ∧ (Tbl.get none s.exporter.waitAt h).isNone then
          let s := s.setExpectedSeq h n
          { s with exporter := { s.exporter with waitAt := Tbl.set none s.exporter.waitAt h (some s.clk.mono) } }
        else s
      else
        let o := max n (oldestSeq (s.exportSeq h) cfg.ringEntries)
        let s := s.setExpectedSeq h o
        { s with exporter := { s.exporter with overrun := s.exporter.overrun + (o - n) } }

/-- The lines of a slot as they stand; a lost one spells nothing. -/
def State.slotBytes (s : State) (l : Nat) : List Byte :=
  let line (k : Nat) : List Byte := match s.locate k with
    | none => List.replicate 64 0#8
    | some a => if s.rankDead a || s.poisoned k then List.replicate 64 0#8 else s.lineBytes k
  line l ++ line (l + 1)

/-- SKIPPED: shard h's expected slot has stayed unwritten for 10 µs behind the counter. -/
def exporterSkip (h : Nat) (s : State) : State :=
  match s.exportCfg, Tbl.get none s.exporter.waitAt h with
  | some cfg, some t =>
    let n := s.expectedSeq h cfg.ringEntries
    let l := s.slotLine cfg h n
    if s.clk.mono < t + usTicks 10 ∨ slotUnwritten (s.slotBytes l) n = false then s
    else
      let s := s.setExpectedSeq h (n + 1)
      { s with exporter := { s.exporter with skipped := s.exporter.skipped + 1 } }
  | _, _ => s

/-! ### Sending (R246, R247) -/

/-- Sum for a checksum. -/
def checksum (b : List Byte) : Nat := 65535 - onesSum b 0 ((b.length + 1) / 2)

/-- The IPv4 datagram of WIRE mode; the header fields without a stated value are open. -/
def State.wire4 (s : State) (cfg : ExporterCfg) (msg : List Byte) : List Byte × State :=
  let d := s.draw
  let head (c : Nat) : List Byte :=
    [0x45#8] ++ beBytes 1 (d.1.toNat % 256) ++ beBytes 2 (28 + msg.length) ++ beBytes 2 (d.1.toNat / 256 % 65536)
      ++ beBytes 2 (16384 * (d.1.toNat / 16777216 % 2)) ++ beBytes 1 (d.1.toNat / 33554432 % 256) ++ [17#8] ++ beBytes 2 c
      ++ beBytes 4 cfg.source ++ beBytes 4 cfg.collector
  let udp (c : Nat) : List Byte := beBytes 2 4739 ++ beBytes 2 cfg.collectorPort ++ beBytes 2 (8 + msg.length) ++ beBytes 2 c
  let pseudo := beBytes 4 cfg.source ++ beBytes 4 cfg.collector ++ beBytes 2 17 ++ beBytes 2 (8 + msg.length)
  let u := checksum (pseudo ++ udp 0 ++ msg)
  (head (checksum (head 0)) ++ udp (if u = 0 then 65535 else u) ++ msg, d.2)

/-- The IPv6 datagram of WIRE mode. -/
def State.wire6 (s : State) (cfg : ExporterCfg) (msg : List Byte) : List Byte × State :=
  let d := s.draw
  let head : List Byte :=
    beBytes 4 (6 * 268435456 + d.1.toNat % 268435456) ++ beBytes 2 (8 + msg.length) ++ [17#8]
      ++ beBytes 1 (d.1.toNat / 268435456 % 256) ++ beBytes 16 cfg.source ++ beBytes 16 cfg.collector
  let udp (c : Nat) : List Byte := beBytes 2 4739 ++ beBytes 2 cfg.collectorPort ++ beBytes 2 (8 + msg.length) ++ beBytes 2 c
  let pseudo := beBytes 16 cfg.source ++ beBytes 16 cfg.collector ++ beBytes 4 (8 + msg.length) ++ beBytes 4 17
  let u := checksum (pseudo ++ udp 0 ++ msg)
  (head ++ udp (if u = 0 then 65535 else u) ++ msg, d.2)

/-- The frame of WIRE mode behind the image's Ethernet header, whose EtherType says the family. -/
def State.wireFrame (s : State) (cfg : ExporterCfg) (msg : List Byte) : List Byte × State :=
  let d := if cfg.header.drop (cfg.header.length - 2) == [0x86#8, 0xDD#8] then s.wire6 cfg msg else s.wire4 cfg msg
  (cfg.header ++ d.1, d.2)

/-- The message has left: its records are sent, and the template set with them. -/
def State.messageSent (s : State) : State :=
  let x := s.exporter
  let m := if x.templates then s.clk.mono else x.templatesAt
  { s with exporter := { x with records := [], seq := x.seq + x.records.length, templates := false, templatesAt := m, sent := x.sent + 1 } }

/-- The message's buffer reaches the host's ring or, behind its headers, the TM of the egress port. -/
def State.messageOut (s : State) (cfg : ExporterCfg) (r x : Nat) (msg : List Byte) (w0 w1 : Word64) : State :=
  if cfg.wire then
    let q := quadOf cfg.egress
    let f := s.wireFrame cfg msg
    let s := (f.2.bufWrite x f.1).poolHand r x (reqTm q)
    if s.down (unitTm q) then (s.tmgBump q Cnt.TMG_FENCE_DISCARD).poolRelease (reqTm q) x
    else
      let d := s.draw
      let k := ((0 : Word64).put ⟨14, 9⟩ cfg.egress).put ⟨23, 3⟩ cfg.qclass
      d.2.poolFrame q (ptrPool x) (ptrIndex x) f.1.length cfg.egress cfg.qclass (txDesc k 0 f.1.length d.1.toNat)
  else
    ((s.bufWrite x msg).poolHand r x reqHif).hifTake cfg.hostQueue x msg.length w0 w1 1 (List.replicate 64 0#8)

/-- IPFIX_MESSAGE_SEND: the next message; w0, w1: the host's words of the descriptor at HEAD of the host queue's ring. -/
def ipfixMessageSend (w0 w1 : Word64) (s : State) : State :=
  match s.exportCfg with
  | none => s
  | some cfg =>
    let host := s.down unitHif = false ∧ (s.hostIsLost ∨ s.ringReady cfg.hostQueue)
    if (s.exporter.records = [] ∧ s.exporter.templates = false) ∨ ¬(cfg.wire ∨ host) then s
    else
      let r := 21 + s.activeCc
      let a := s.poolAlloc r 2
      match a.1 with
      | .granted x => (a.2.messageOut cfg r x (a.2.message cfg) w0 w1).messageSent
      | _ => a.2

/-- TEMPLATE_REFRESH: the template set goes into the next message once its period has passed; where that message has no room for it
within EXPORT_MTU, it waits for the one after (R247). -/
def templateRefresh (s : State) : State :=
  match s.exportCfg with
  | none => s
  | some cfg =>
    let b := (dataSets s.exporter.records).flatMap setBytes
    if s.clk.mono < s.exporter.templatesAt + usTicks 1000000 * cfg.refreshS ∨ cfg.mtu < 16 + templateSet.length + b.length then s
    else { s with exporter := { s.exporter with templates := true } }

/-- EXPORTER_STATUS_WRITE: region 8 line 0, every 100 ms. -/
def exporterStatusWrite (s : State) : State :=
  match s.exportCfg with
  | none => s
  | some _ =>
    if s.clk.mono < s.exporter.statusAt + msTicks 100 then s
    else
      let x := s.exporter
      let b := [x.exported, x.skipped, x.overrun, x.sent, x.lost, s.clk.sec, 0, 0].flatMap (leBytes 8)
      { (s.dramWrite (s.region8 0) b true).2 with exporter := { x with statusAt := s.clk.mono } }

def execExporterReadEntry (h : Fin 16) (e0 e1 e2 : Ecc) (s : State) : Out := done s (exporterReadEntry h.val e0 e1 e2 s)
def execSkipped (h : Fin 16) (s : State) : Out := done s (exporterSkip h.val s)
def execIpfixMessageSend (w0 w1 : Word64) (s : State) : Out := done s (ipfixMessageSend w0 w1 s)
def execTemplateRefresh (s : State) : Out := done s (templateRefresh s)
def execExporterStatusWrite (s : State) : Out := done s (exporterStatusWrite s)

end Sys2Proof.Machine
end

