-- ==== Sys2Proof/Machine/Jtag.lean ====
section
/-! DEFINITION. The JTAG port (R452): the instructions, what they put between TDI and TDO, and what the boundary drives. -/

namespace Sys2Proof.Machine

/-- The IDCODE register, bit 0 first. -/
def idcodeBits : List Bool :=
  let x : BitVec 32 := 0x09102987#32 ||| (Config.stepping.setWidth 32 <<< 28)
  (List.range 32).map (fun i => x.getLsbD i)

/-- What an instruction makes the boundary drive while SYS_RESET_N is low. -/
def JtagInstr.drives : JtagInstr → Boundary
  | .extest => .driven
  | .highz => .highZ
  | .clamp => .held
  | .extestPulse => .pulsed
  | .extestTrain => .trained
  | .idcode | .samplePreload | .bypass => .normal

/-- The boundary drives what the instruction says while SYS_RESET_N is low; otherwise the device's own signals. -/
def State.driveBoundary (s : State) : State :=
  { s with jtag := { s.jtag with drive := if s.power.sysResetLow then s.jtag.ir.drives else .normal } }

/-- An instruction is selected, with the test data register `dr` between TDI and TDO. -/
def State.jtagSelect (s : State) (i : JtagInstr) (dr : List Bool) : State :=
  State.driveBoundary { s with jtag := { s.jtag with ir := i, dr := dr } }

/-- The one-bit bypass register. -/
def bypassBit : List Bool := [false]

/-- The boundary-scan register where the instruction takes effect, the bypass register otherwise. -/
def State.boundaryOrBypass (s : State) : List Bool := if s.power.sysResetLow then s.jtag.bsr else bypassBit

/-- SAMPLE/PRELOAD: `pins` is sampled, `load` is what is shifted in. -/
def samplePreload (pins load : List Bool) (s : State) : State :=
  { s with jtag := { s.jtag with bsr := load } }.jtagSelect .samplePreload pins

/-- TRST_N: the TAP is reset. -/
def trstAssert (s : State) : State := State.driveBoundary { s with jtag := { JtagSt.init with bsr := s.jtag.bsr } }

def execExtest (s : State) : Out := done s (s.jtagSelect .extest s.boundaryOrBypass)
def execIdcode (s : State) : Out := done s (s.jtagSelect .idcode idcodeBits)
def execSamplePreload (pins load : List Bool) (s : State) : Out := done s (samplePreload pins load s)
def execHighz (s : State) : Out := done s (s.jtagSelect .highz bypassBit)
def execClamp (s : State) : Out := done s (s.jtagSelect .clamp bypassBit)
def execExtestPulse (s : State) : Out := done s (s.jtagSelect .extestPulse s.boundaryOrBypass)
def execExtestTrain (s : State) : Out := done s (s.jtagSelect .extestTrain s.boundaryOrBypass)
def execBypass (s : State) : Out := done s (s.jtagSelect .bypass bypassBit)
def execTrstNAssert (s : State) : Out := done s (trstAssert s)

end Sys2Proof.Machine
end

