-- ==== Sys2Proof/Machine/Power.lean ====
section
/-! DEFINITION. Power domains (R431 to R434): PMU.PD_CMD, its conditions and effects, the initialisation at ON; the reset sources (R430);
SHUTDOWN (R437). -/

namespace Sys2Proof.Machine

def State.pmuBump (s : State) (i : Nat) : State := s.bump (Reg.PMU_CNT i)

/-! ### Refusals (R432, R433) -/

/-- A refused PD_CMD. -/
def State.pdRefuse (s : State) (code : Nat) : State :=
  let a := Reg.PMU_PD_CMD
  ((s.setFld a Fld.PMU_PD_CMD_ERR 1).setFld a Fld.PMU_PD_CMD_ERR_CODE code).pmuBump Cnt.PMU_REFUSED

/-- A command from a state that its row does not name: an OFF of a domain that is not quiesced is NOT_QUIET; for the others the spec
names no code, and any of the seven may be shown. -/
def State.pdWrongState (s : State) (op : Nat) : State :=
  if op = 2 then s.pdRefuse 4
  else
    let a := s.draw
    a.2.pdRefuse (1 + a.1.toNat % 7)

/-- QUIESCE's conditions: the code of the one that fails. -/
def State.quiesceBar (s : State) (d : Nat) : Option Nat :=
  if d < 32 then
    if (List.range 8).any (fun i => s.flag (Reg.PRT_CTL (8 * d + i)) Fld.PRT_CTL_ENABLE0 || s.flag (Reg.PRT_CTL (8 * d + i)) Fld.PRT_CTL_ENABLE1)
    then some 4 else none
  else if d < 48 then
    let i := d - 32
    let sd := s.dom (2 * i) == 0 && s.dom (2 * i + 1) == 0
    let sl := i % 4 != 0 || (List.range 3).all (fun k => s.dom (domSlice (i + 1 + k)) == 0)
    if sd && sl then none else some 3
  else if 65 ≤ d ∧ d < 68 then
    let q := d - 64
    if (List.range 4).all (fun k => s.dom (domSlice (4 * q + k)) == 0 && s.dom (domShard (4 * q + k)) == 0) then none else some 3
  else if d = 75 ∨ d = 76 then (if s.activeCc = d - 75 then some 7 else none)
  else none

/-- A pool-1 buffer of the quadrant's park memory is lent. -/
def State.parkLent (s : State) (q : Nat) : Bool := s.pools.meta1.any (fun e => decide (e.1 / 16384 = q) && e.2 % 2 == 1)

/-- Every queue of macro n is empty (R297, R311). -/
def State.macroEmpty (s : State) (n : Nat) : Bool :=
  let q := n / 64
  (List.range 8).all (fun k => (s.queue q (8 * (n % 64) + k)).isEmpty)
    && (List.range 2).all (fun m => (s.queue q (512 + 2 * (n % 64) + m)).isEmpty)

/-- OFF's conditions: DRAIN for frames in queues and for buffers still lent, NOT_QUIET for a FLUSH that runs. -/
def State.offBar (s : State) (d : Nat) : Option Nat :=
  if d < 32 then (if (List.range 8).all (fun k => s.macroEmpty (8 * d + k)) then none else some 6)
  else if 48 ≤ d ∧ d < 64 then (if s.flushBusy (d - 48) then some 4 else none)
  else if 65 ≤ d ∧ d < 68 then (if s.parkLent (d - 64) then some 6 else none)
  else none

/-- ON's conditions. -/
def State.onBar (s : State) (d : Nat) : Option Nat :=
  let need (b : Bool) : Option Nat := if b then none else some 3
  if d < 32 then need (s.domOn (domSlice (d / 2)))
  else if d < 48 then need (s.domOn (domTm ((d - 32) / 4)) && ((d - 32) % 4 == 0 || s.domOn (domSlice ((d - 32) / 4 * 4))))
  else if d < 64 then need (s.domOn (domTm ((d - 48) / 4)))
  else none

/-- The checks that every PD_CMD meets, then `f`; `from_`: the states it starts from. -/
def State.pdCmd (s : State) (op d : Nat) (from_ : List Nat) (bar : Option Nat) (f : State → State) : State :=
  if s.flag Reg.PMU_PD_CMD Fld.PMU_PD_CMD_BUSY then s.pdRefuse 1
  else if 80 ≤ d ∨ !domSwitchable d then s.pdRefuse 2
  else if s.phase ≠ 11 then s.pdRefuse 5
  else if !from_.contains (s.dom d) then s.pdWrongState op
  else
    match bar with
    | some c => s.pdRefuse c
    | none => f s

/-- The command runs: the domain is SWITCHING. -/
def State.pdStart (s : State) (op d : Nat) : State :=
  let a := Reg.PMU_PD_CMD
  let s := (s.setFld a Fld.PMU_PD_CMD_DOMAIN d).setFld a Fld.PMU_PD_CMD_BUSY 1
  let s := { s with power := { s.power with pdRun := some (op, d), pdSince := s.clk.mono } }
  s.setDom d 3

/-! ### QUIESCE and OFF -/

/-- A unit is fenced without a message: STATE 5; its window or timer ends without escalation; a KEPT unit is remembered (R397). -/
def State.quiesceUnit (s : State) (u : Nat) : State :=
  let st := s.unitState u
  let s := if st = 4 then { s with fault := { s.fault with keptUnder := Tbl.set false s.fault.keptUnder u true } } else s
  let s := (s.setFld (Reg.FLT_UNIT u) Fld.FLT_UNIT_STATE 5).stopTimer u
  let s := if s.fld Reg.FLT_ESC_CMD Fld.FLT_ESC_CMD_UNIT = u then s.setFld Reg.FLT_ESC_CMD Fld.FLT_ESC_CMD_BUSY 0 else s
  if st = 0 then s.isolate u else s

/-- QUIESCE. -/
def quiesce (d : Nat) (s : State) : State :=
  s.pdCmd 1 d [1] (s.quiesceBar d) (fun s =>
    let s : State := forEach (domUnits d) (fun u t => t.quiesceUnit u) (s.pdStart 1 d)
    let s := if 64 ≤ d then s.poolNote 1 else s
    (s.showUnits).pmuBump Cnt.PMU_QUIESCES)

/-- OFF. -/
def pdOff (d : Nat) (s : State) : State := s.pdCmd 2 d [2] (s.offBar d) (fun s => (s.pdStart 2 d).pmuBump Cnt.PMU_OFFS)

/-- ON: from OFF, or from QUIESCED. -/
def pdOn (d : Nat) (s : State) : State :=
  s.pdCmd 3 d [0, 2] (s.onBar d) (fun s => (s.pdStart (if s.dom d = 0 then 3 else 4) d).pmuBump Cnt.PMU_ONS)

/-! ### Initialisation at ON (R434) -/

/-- The registers of the addresses `lo` to below `hi`: fields marked image at their admitted values, the others at their factory
values. -/
def State.initRegs (s : State) (lo hi : Nat) : State :=
  forEach (s.cast.image.filter (fun e => decide (lo ≤ e.1) && decide (e.1 < hi)))
    (fun e t => t.setReg e.1 (regImageWrite e.1 (regDefault e.1) e.2)) (s.resetRange lo hi)

/-- PD_SDk: macros disabled, their logical ports empty. -/
def State.initSerdes (s : State) (k : Nat) : State :=
  let s := s.initRegs (Reg.PRT_CTL (8 * k)) (Reg.PRT_CTL (8 * k + 8))
  let s : State := forUpTo 8 (fun i t =>
    (t.setFld (Reg.PRT_CTL (8 * k + i)) Fld.PRT_CTL_ENABLE0 0).setFld (Reg.PRT_CTL (8 * k + i)) Fld.PRT_CTL_ENABLE1 0) s
  { s with ports := Tbl.drop s.ports (fun p => decide (p / 16 = k)) }

/-- The drain counters of slice i follow the generation slots, empty. -/
def State.initDrain (s : State) (i : Nat) : State :=
  let s := s.setFld (Reg.SLC_GEN i) Fld.SLC_GEN_CUR s.genCur
  forUpTo 4 (fun k t =>
    let a := Reg.SLC_GEN_DRAIN i k
    ((t.setFld a Fld.SLC_GEN_DRAIN_GEN (t.genOf k)).setFld a Fld.SLC_GEN_DRAIN_LIVE
      (bit (t.genState k == 1 || t.genState k == 2))).setFld a Fld.SLC_GEN_DRAIN_COUNT 0) s

/-- The MAC table of quadrant q: empty but for the image's static entries. -/
def State.initMacs (s : State) (q : Nat) : State :=
  let x := s.slice
  let s := { s with slice := { x with
    macs := Tbl.drop x.macs (fun k => decide (k / 524288 = q)), learners := Tbl.set [] x.learners q []
    walker := Tbl.set 0 x.walker q 0, aging := Tbl.set false x.aging q false, flush := Tbl.set none x.flush q none } }
  forEach (s.slice.imageMacs.filter (fun e => e.1 == q)) (fun e t => t.setMac e.1 e.2.1 e.2.2) s

/-- PD_SLi; the hash key, drawn or not, is that of every slice (R76). -/
def State.initSlice (s : State) (i : Nat) : State :=
  let k0 := s.reg (Reg.SLC_HASH_KEY0 i)
  let k1 := s.reg (Reg.SLC_HASH_KEY1 i)
  let s := s.initRegs (Reg.SLC_CTL i) (Reg.SLC_CTL (i + 1))
  let s := (s.setReg (Reg.SLC_HASH_KEY0 i) k0).setReg (Reg.SLC_HASH_KEY1 i) k1
  let s := (s.copyFallback i).initDrain i
  let s := { s with slice := { s.slice with meters := Tbl.drop s.slice.meters (fun k => decide (k / 256 = i))
                                            learn := Tbl.set [] s.slice.learn i [] } }
  if i % 4 = 0 then s.initMacs (i / 4) else s

/-- PD_HKh: the control store is reloaded, the hot tier is empty; the records in DRAM, their stash places and the generation stamp
stay as they are (R142, R146). -/
def State.initShard (s : State) (h : Nat) : State :=
  let stamp := s.reg (Reg.HNK_GEN_STAMP h)
  let records := s.reg (Reg.HNK_OCC1 h)
  let s := s.initRegs (Reg.HNK_CTL h) (Reg.HNK_CTL (h + 1))
  let s := (s.setReg (Reg.HNK_GEN_STAMP h) stamp).setReg (Reg.HNK_OCC1 h) records
  let s : State := forUpTo 4 (fun k t =>
    let a := Reg.SCH_AGE_DRAIN h k
    (t.setFld a Fld.SCH_AGE_DRAIN_GEN (t.genOf k)).setFld a Fld.SCH_AGE_DRAIN_LIVE (bit (t.genState k == 1 || t.genState k == 2))) s
  let s := s.setShard h { ShardSt.init with stash := (s.shard h).stash }
  let b : List Byte := match s.cast.slot with
    | none => []
    | some k => s.sectionBytes k 0x0002
  s.loadStore h (microwords b) (crc64 (bytesAt b 0 393216)) s.cast.tables.mcVersion s.cast.tables.mcPatch

/-- The lowest other quadrant whose Tumbler array is in service; the array itself, which then holds nothing, where there is none. -/
def State.rebuildSource (s : State) (q : Nat) : Nat :=
  ((List.range 4).find? (fun k => k != q && !s.down (unitTumbler k))).getD q

/-- SHARED entries of the image too, for an array that no other can serve. -/
def State.loadShared (s : State) (q : Nat) : State :=
  let g := BitVec.ofNat 4 (2 ^ s.genCurSlot)
  forEach (s.cast.tables.tmb.filter (fun x => x.quad == q)) (fun x y =>
    y.setEnt q x.index { loadEntry x (y.tmbWidth q x.table) with gens := g }) s

/-- The Tumbler array of quadrant q. -/
def State.initArray (s : State) (q : Nat) : State :=
  let s := s.initRegs (Reg.TMB_CTL q) (Reg.TMB_CTL (q + 1))
  let s : State := forUpTo 4 (fun i t => t.setReg (Reg.TMB_GEN_SLOT q i) (t.reg (Reg.TMB_GEN_SLOT 0 i))) s
  let s := s.setReg (Reg.TMB_GEN_STATUS q) (s.reg (Reg.TMB_GEN_STATUS 0))
  let src := s.rebuildSource q
  let s := (s.rebuildArray q src).scrubHome q
  if src = q then s.loadShared q else s

/-- The TM of quadrant q: empty queues, no gate list; next hops and groups of the image. -/
def State.initTm (s : State) (q : Nat) : State :=
  let s := s.initRegs (Reg.TMG_CTL q) (Reg.TMG_CTL (q + 1))
  let x := s.tm
  let part {α : Type} (m : Tbl α) (n : Nat) : Tbl α := Tbl.drop m (fun k => decide (k / n = q))
  let s := { s with tm := { x with
    relIn := part x.relIn 32, queues := part x.queues 656, lastPort := part x.lastPort 1, lastHost := part x.lastHost 1
    lastQueue := part x.lastQueue 1024, buckets := Tbl.drop x.buckets (fun k =>
      decide (k / 656 = q ∧ k < 4096) || decide (4096 ≤ k ∧ (k - 4096) / 128 = q))
    gcl := part x.gcl 65536, gates := part x.gates 128, nh := part x.nh 262144, members := part x.members 65536 } }
  let t := s.cast.tables
  (s.loadNextHops (t.nextHops.filter (fun e => e.quad == q))).loadGroups (t.groups.filter (fun e => e.quad == q))

/-- What ON initialises in a domain that was OFF. -/
def State.initDomain (s : State) (d : Nat) : State :=
  if d < 32 then s.initSerdes d
  else if d < 48 then s.initSlice (d - 32)
  else if d < 64 then s.initShard (d - 48)
  else if d < 68 then (s.initTm (d - 64)).initArray (d - 64)
  else s

/-! ### PD_CMD_COMPLETE -/

/-- A unit of a domain that is ON again: KEPT as before, back in service, or, not ready, in STATE 3. -/
def State.pdReturn (s : State) (u : Nat) (ok : Bool) : State :=
  if Tbl.get false s.fault.keptUnder u then
    State.setFld { s with fault := { s.fault with keptUnder := Tbl.set false s.fault.keptUnder u false } } (Reg.FLT_UNIT u)
      Fld.FLT_UNIT_STATE 4
  else if ok ∧ s.unitReady u = true then
    if u = 312 ∨ u = 313 then
      let r := s.returnCc (u - 312)
      if r.1 then r.2.returnUnit u else r.2
    else s.returnUnit u
  else s.setFld (Reg.FLT_UNIT u) Fld.FLT_UNIT_STATE 3

/-- ON has been carried out. -/
def State.pdOnDone (s : State) (d : Nat) (fresh ok : Bool) : State :=
  let s := (if fresh then s.initDomain d else s).setDom d 1
  let s : State := if 64 ≤ d ∧ d < 68 ∧ !fresh then
      { s with fault := { s.fault with rebuilt := Tbl.set false s.fault.rebuilt (unitTumbler (d - 64)) true } }
    else s
  let s : State :=
    if d = 75 ∨ d = 76 then
      (if ok then s.loadFirmware (d - 75)
       else { s with ccx := { s.ccx with badFirmware := Tbl.set false s.ccx.badFirmware (d - 75) true } })
    else s
  let s : State := forEach (domUnits d) (fun u t => t.pdReturn u ok) s
  let s := s.showUnits
  if (domUnits d).any (fun u => s.unitState u == 3) then
    (s.setFld Reg.PMU_PD_CMD Fld.PMU_PD_CMD_ERR 1).setFld Reg.PMU_PD_CMD Fld.PMU_PD_CMD_ERR_CODE 4
  else s

/-- PD_CMD_COMPLETE; `ok`: at ON, the units are ready and their links acknowledge. -/
def pdCmdComplete (ok : Bool) (s : State) : State :=
  match s.power.pdRun with
  | none => s
  | some (op, d) =>
    let s := { s with power := { s.power with pdRun := none } }
    let s := (s.setFld Reg.PMU_PD_CMD Fld.PMU_PD_CMD_BUSY 0).setFld Reg.PMU_PD_CMD Fld.PMU_PD_CMD_OP 0
    if op = 1 then s.setDom d 2
    else if op = 2 then s.setDom d 0
    else s.pdOnDone d (op == 3) ok

/-! ### Resets (R430) -/

/-- PD_AON_POWER_UP: every block at its factory state; what the image and journal devices and the fuses hold stays. -/
def pdAonPowerUp (s : State) : State :=
  let c : CastSt := { CastSt.init with flash := s.cast.flash, flashLen := s.cast.flashLen, jnl := s.cast.jnl, jnlLen := s.cast.jnlLen
                                       bank0 := s.cast.bank0, bank1 := s.cast.bank1, svn := s.cast.svn }
  let h : HifSt := { HifSt.init with mem := s.hif.mem }
  let p : PowerSt := { PowerSt.init with sysResetLow := s.power.sysResetLow, perstLow := s.power.perstLow }
  State.driveBoundary { State.reset with pending := s.pending, free := s.free, cast := c, hif := h, power := p }

/-- SYS_RESET_N_FALL: `n` records of the first waiting journal entry have been written; frames are cut off, every block outside PD_AON
is reset, and what was under way ends. -/
def sysResetFall (n : Nat) (s : State) : State :=
  if s.power.sysResetLow then s
  else
    let s := ((s.bumpSat Reg.GLB_RESET_CNT Fld.GLB_RESET_CNT_SYS_RESET).jnlCut n).resetBlocks true
    let s := s.dropClaims.lopAbortAll (fun _ _ => true) lopAbandoned
    let s := (s.setFld Reg.CST_STATUS Fld.CST_STATUS_PHASE 0).setFld Reg.GLB_STATUS Fld.GLB_STATUS_DEV_READY 0
    let f : FaultSt := { s.fault with stopped := false, fatalLine := none, runSince := none }
    State.driveBoundary { s with fault := f, power := { s.power with sysResetLow := true, pdRun := none, shutdown := false } }

/-- SYS_RESET_N_RELEASE: cast-on starts with cause 1. -/
def sysResetRelease (s : State) : State :=
  if !s.power.sysResetLow then s
  else
    (State.driveBoundary { s with power := { s.power with sysResetLow := false } }).startCastOn 1

/-! ### SHUTDOWN (R437) -/

/-- Every journal entry that waits is written. -/
def State.jnlFlush (s : State) : State :=
  forEach s.cast.jq (fun e t => t.jnlWrite e) { s with cast := { s.cast with jq := [] } }

/-- SHUTDOWN. -/
def shutdownCmd (s : State) : State :=
  if s.phase ≠ 11 ∨ s.power.shutdown then s
  else
    let s := s.setFld Reg.GLB_STATUS Fld.GLB_STATUS_DEV_READY 0
    let s := State.jnlFlush { s with power := { s.power with shutdown := true } }
    let s : State := forEach s.channels (fun c t => t.setFld (Reg.DMC_STATUS c) Fld.DMC_STATUS_IN_SR 1) s
    let s := { s with dram := { s.dram with freq := .selfRefresh } }
    s.setFld Reg.GLB_STATUS Fld.GLB_STATUS_SAFE_OFF 1

def execQuiesce (d : Fin 128) (s : State) : Out := done s (quiesce d.val s)
def execPowerOff (d : Fin 128) (s : State) : Out := done s (pdOff d.val s)
def execPowerOn (d : Fin 128) (s : State) : Out := done s (pdOn d.val s)
def execPdCmdComplete (ok : Bool) (s : State) : Out := done s (pdCmdComplete ok s)
def execPdAonPowerUp (s : State) : Out := doneClk s (pdAonPowerUp s)
def execSysResetNFall (n : Nat) (s : State) : Out := done s (sysResetFall n s)
def execSysResetNRelease (s : State) : Out := done s (sysResetRelease s)
def execShutdown (s : State) : Out := done s (shutdownCmd s)

end Sys2Proof.Machine
end

