-- ==== Sys2Proof/Machine/View.lean ====
section
/-! DEFINITION. What a BAR0 read finds in a register (R7, R22, R456 to R463): the stored word, with the read-only fields that show
live state in their places. -/

namespace Sys2Proof.Machine

/-- An offset's place in a two-dimensional array: strides s1, s2 and counts n1, n2. -/
def elem2 (base s1 n1 s2 n2 a : Nat) : Option (Nat × Nat) :=
  if base ≤ a ∧ (a - base) / s1 < n1 ∧ (a - base) % s1 % s2 = 0 ∧ (a - base) % s1 / s2 < n2 then
    some ((a - base) / s1, (a - base) % s1 / s2)
  else none

/-- A signed number of whole bytes from tokens in 2^-16 byte. -/
def tokenBytes (x : Int) : Nat := ((x / 65536) % 4294967296).toNat

/-- Microseconds since a MONO value, saturating at 16 bits. -/
def State.age16 (s : State) (t : Option Nat) : Nat := min 65535 ((s.clk.mono - t.getD 0) / 800)

def State.viewFlt (s : State) (a : Nat) (w : Word64) : Word64 :=
  if a = Reg.FLT_STATUS then s.fltStatusWord
  else
  match elemOf (Reg.FLT_RING_DATA 0) 8 4 a with
  | some i =>
    let e := Tbl.get RingEntry.init s.fault.ring (s.fld Reg.FLT_RING_SEL Fld.FLT_RING_SEL_INDEX)
    if i = 0 then e.w0 else if i = 1 then e.w1 else if i = 2 then e.w2 else e.w3
  | none =>
    match elemOf (Reg.FLT_UNIT 0) 8 315 a with
    | some u =>
      (w.put Fld.FLT_UNIT_ESSENTIAL (bit (s.essential u))).put Fld.FLT_UNIT_REMAIN_US
        ((Tbl.get 0 s.fault.timers u - s.clk.mono + 799) / 800)
    | none => w

def State.viewTod (s : State) (a : Nat) (w : Word64) : Word64 :=
  let c := s.clk
  if a = Reg.TOD_STATUS then
    ((((w.put Fld.TOD_STATUS_BUSY (bit c.busy)).put Fld.TOD_STATUS_HOLDOVER (bit c.holdover)).put Fld.TOD_STATUS_SLEW_ACTIVE
      (bit c.slewOn)).put Fld.TOD_STATUS_PPS_IN_LOST (bit c.ppsLost)).put Fld.TOD_STATUS_PPS_LOAD_ARMED (bit c.loadArmed)
  else if a = Reg.TOD_MONO then BitVec.ofNat 64 c.mono
  else w

def State.viewLop (s : State) (a : Nat) (w : Word64) : Word64 :=
  if a = Reg.LOP_SUMMARY then
    w.put Fld.LOP_SUMMARY_ACTIVE (((List.range 16).map (fun i => bit (s.lopActive i) * 2 ^ i)).sum)
  else w

def State.viewCcx (s : State) (a : Nat) (w : Word64) : Word64 :=
  if a = Reg.CCX_STATUS then w.put Fld.CCX_STATUS_STANDBY_READY (bit (!s.down (unitComplex (1 - s.activeCc))))
  else if a = Reg.CCX_HB then
    let t (k : Nat) : Nat := s.age16 (Tbl.get none s.ccx.heard k)
    (((w.put Fld.CCX_HB_A_LINE_AGE (t 0)).put Fld.CCX_HB_A_BUS_AGE (t 1)).put Fld.CCX_HB_B_LINE_AGE (t 2)).put
      Fld.CCX_HB_B_BUS_AGE (t 3)
  else
    match elemOf (Reg.CCX_HASP 0) 8 5 a with
    | some _ => (w.put Fld.CCX_HASP_OWNER (bit (s.haspAccepts 1))).put Fld.CCX_HASP_TIE (bit (s.claim 0 == s.claim 1))
    | none => w

def State.viewBpm (s : State) (a : Nat) (w : Word64) : Word64 :=
  match elemOf (Reg.BPM_POOL_STATUS 0) 0x40 4 a with
  | some p =>
    let f := s.poolFree p
    (w.put Fld.BPM_POOL_STATUS_FREE f).put Fld.BPM_POOL_STATUS_LOW_WATER (match Tbl.get none s.pools.low p with | none => f | some x => x)
  | none =>
    match elemOf (Reg.BPM_RING_LINK 0) 0x40 4 a with
    | some p => w.put Fld.BPM_RING_LINK_CREDIT (s.credit (lnkPool p))
    | none =>
      match elemOf (Reg.BPM_CACHE 0 0) 8 16 a with
      | some k => w.put Fld.BPM_CACHE_COUNT (s.cached (k / 4) (k % 4))
      | none => w

def State.viewPrt (s : State) (n a : Nat) (w : Word64) : Word64 :=
  let h := if a < Reg.PRT_MTU n 1 then 0 else 1
  let l := (s.port (2 * n + h)).txts
  let x : TxTs := l.headD { sec := 0, ns := 0, frac := 0, tag := 0 }
  if a = Reg.PRT_ING_CREDIT n then
    (w.put Fld.PRT_ING_CREDIT_CREDIT0 (s.credit (lnkIngress (2 * n)))).put Fld.PRT_ING_CREDIT_CREDIT1
      (s.credit (lnkIngress (2 * n + 1)))
  else if a = Reg.PRT_TXTS_HEAD0 n h then (w.put Fld.PRT_TXTS_HEAD0_FRAC x.frac).put Fld.PRT_TXTS_HEAD0_NS x.ns
  else if a = Reg.PRT_TXTS_HEAD1 n h then (w.put Fld.PRT_TXTS_HEAD1_SEC x.sec).put Fld.PRT_TXTS_HEAD1_VALID (bit (l != []))
  else if a = Reg.PRT_TXTS_HEAD2 n h then (w.put Fld.PRT_TXTS_HEAD2_TAG x.tag).put Fld.PRT_TXTS_HEAD2_COUNT l.length
  else w

def State.viewSlc (s : State) (i a : Nat) (w : Word64) : Word64 :=
  match elemOf (Reg.SLC_DISP_CREDIT i 0) 8 16 a with
  | some h => (w.put Fld.SLC_DISP_CREDIT_CREDIT (s.credit (lnkDispatch i h))).put Fld.SLC_DISP_CREDIT_FENCED (bit (s.down (unitShard h)))
  | none =>
    match elemOf (Reg.SLC_PP_LINK i 0) 8 4 a with
    | some q => w.put Fld.SLC_PP_LINK_CREDIT (s.credit (lnkRelease (16 + i) q))
    | none => w

def State.viewTmb (s : State) (q a : Nat) (w : Word64) : Word64 :=
  if a = Reg.TMB_STATUS q then w.put Fld.TMB_STATUS_FENCED (bit (s.down (unitTumbler q)))
  else
    match elemOf (Reg.TMB_GEN_SLOT q 0) 8 4 a with
    | some i => w.put Fld.TMB_GEN_SLOT_DRAIN (s.drainCount i)
    | none =>
      match elemOf (Reg.TMB_TABLE_CFG q 0) 8 16 a with
      | some t => w.put Fld.TMB_TABLE_CFG_FREE (s.tmbFree q t)
      | none =>
        match elemOf (Reg.TMB_TABLE_DIGEST q 0) 8 16 a with
        | some t => s.tmbDigest q t
        | none => w

/-- Dirty records of the hot tier: ways that hold one. -/
def State.dirtyWays (s : State) (h : Nat) : Nat :=
  ((s.shard h).ways.filter (fun e => e.2.valid && e.2.role != .tail && recFld e.2.words 0 w0Dirty == 1)).length

def State.viewHnk (s : State) (h a : Nat) (w : Word64) : Word64 :=
  let x := s.shard h
  if a = Reg.HNK_STATUS h then
    (w.put Fld.HNK_STATUS_FENCED (bit (s.down (unitShard h)))).put Fld.HNK_STATUS_FLUSH_BUSY (bit (s.flushBusy h))
  else if a = Reg.HNK_OCC0 h then
    (w.put Fld.HNK_OCC0_HOT_VALID (x.ways.filter (fun e => e.2.valid)).length).put Fld.HNK_OCC0_HOT_DIRTY (s.dirtyWays h)
  else if a = Reg.HNK_OCC1 h then w.put Fld.HNK_OCC1_STASH_USED x.stash.length
  else if a = Reg.HNK_ENTRY_STATUS h then
    (w.put Fld.HNK_ENTRY_STATUS_IN_USE x.entries.length).put Fld.HNK_ENTRY_STATUS_EVB_IN_USE x.evb.length
  else if a = Reg.HNK_SWEEP_TIME h then
    w.put Fld.HNK_SWEEP_TIME_CUR_PASS_MS (if x.sweep.running then (s.clk.mono - x.sweep.began) / 800000 else 0)
  else w

def State.viewSch (s : State) (h a : Nat) (w : Word64) : Word64 :=
  let x := s.shard h
  if a = Reg.SCH_STATUS h then w.put Fld.SCH_STATUS_FENCED (bit (s.down (unitShard h)))
  else if a = Reg.SCH_OCC0 h then
    (w.put Fld.SCH_OCC0_READY_USED x.ready.length).put Fld.SCH_OCC0_RESUME_USED (x.parked.filter (fun p => p.queued)).length
  else if a = Reg.SCH_OCC1 h then
    (w.put Fld.SCH_OCC1_REORDER_USED (s.reorderUsed h)).put Fld.SCH_OCC1_PARKED x.parked.length
  else if a = Reg.SCH_READY_LINK h then w.put Fld.SCH_READY_LINK_CREDIT (s.credit (lnkReady h))
  else
    match elemOf (Reg.SCH_REL_LINK h 0) 8 4 a with
    | some q => w.put Fld.SCH_REL_LINK_CREDIT (s.credit (lnkRelease h q))
    | none => w

/-- One bit for each thread of engine e that satisfies `p`. -/
def State.threadMask (s : State) (h e : Nat) (p : Thread → Bool) : Nat :=
  ((List.range 16).map (fun t => bit (p (s.thread h (16 * e + t))) * 2 ^ t)).sum

def State.viewFae (s : State) (h a : Nat) (w : Word64) : Word64 :=
  if a = Reg.FAE_STATUS h then w.put Fld.FAE_STATUS_ANY_HALTED (bit ((s.shard h).threads.any (fun e => e.2.halted)))
  else if a = Reg.FAE_REC_LINK h then w.put Fld.FAE_REC_LINK_CREDIT (s.credit (lnkRecord h))
  else if a = Reg.FAE_MISS_LINK h then w.put Fld.FAE_MISS_LINK_CREDIT (s.credit (lnkMiss h))
  else
    match elemOf (Reg.FAE_ENG h 0) 8 32 a with
    | some e =>
      (((w.put Fld.FAE_ENG_IDLE (s.threadMask h e (fun x => x.stateCode == 0))).put Fld.FAE_ENG_WAITING
        (s.threadMask h e (fun x => x.stateCode == 4))).put Fld.FAE_ENG_HALTED (s.threadMask h e (fun x => x.halted))).put
        Fld.FAE_ENG_DL_COUNT (s.stuckCycles h e)
    | none => w

def State.viewWrd (s : State) (h a : Nat) (w : Word64) : Word64 :=
  if a = Reg.WRD_LOCKS_HELD h then w.put Fld.WRD_LOCKS_HELD_COUNT ((s.shard h).locks.filter (fun e => e.2.owner.isSome)).length
  else
    match elemOf (Reg.WRD_EVENT h 0) 8 1024 a with
    | some m => s.eventCount h m
    | none =>
      match elemOf (Reg.WRD_MAILBOX h 0) 8 4096 a with
      | some i => Tbl.get 0 (s.shard h).mail i
      | none => w

def State.viewTmg (s : State) (q a : Nat) (w : Word64) : Word64 :=
  if a = Reg.TMG_STATUS q then w.put Fld.TMG_STATUS_FENCED (bit (s.down (unitTm q)))
  else if a = Reg.TMG_DESC q then w.put Fld.TMG_DESC_IN_USE (s.descInUse q)
  else
    match elemOf (Reg.TMG_REL_IN q 0) 8 32 a with
    | some i => w.put Fld.TMG_REL_IN_OCC (Tbl.get [] s.tm.relIn (32 * q + i)).length
    | none =>
      match elemOf (Reg.TMG_QSTAT q 0) 0x80 656 a with
      | some u => (w.put Fld.TMG_QSTAT_DEPTH_CELLS (depthOf (s.queue q u))).put Fld.TMG_QSTAT_DEPTH_FRAMES (s.queue q u).length
      | none => w

def State.viewTmgSch (s : State) (q a : Nat) (w : Word64) : Word64 :=
  match elemOf (Reg.TMG_PSHAPE_TOK q 0) 0x40 128 a with
  | some lp => w.put Fld.TMG_PSHAPE_TOK_TOKENS (tokenBytes (s.portTokens (128 * q + lp)))
  | none =>
    match elemOf (Reg.TMG_QSHAPE_TOK q 0) 0x40 656 a with
    | some u => w.put Fld.TMG_QSHAPE_TOK_TOKENS (tokenBytes (s.queueTokens q u))
    | none =>
      match elemOf (Reg.TMG_EGR_LINK q 0) 0x40 128 a with
      | some lp =>
        let pair := if s.mode ((128 * q + lp) / 2) = 5 then 2 else 1
        w.put Fld.TMG_EGR_LINK_CREDIT (((List.range 8).map (fun c => s.credit (lnkEgress (128 * q + lp) c) / pair % 32 * 32 ^ c)).sum)
      | none =>
        match elemOf (Reg.TMG_GATE_STATUS q 0) 0x40 128 a with
        | some lp =>
          let x := s.gateNow (128 * q + lp)
          (w.put Fld.TMG_GATE_STATUS_CUR_ENTRY x.1).put Fld.TMG_GATE_STATUS_OPEN x.2
        | none => w

def State.viewBuf (s : State) (a : Nat) (w : Word64) : Word64 :=
  if a = Reg.BUF_OCC0 then
    (w.put Fld.BUF_OCC0_FREE s.cellFree).put Fld.BUF_OCC0_INFLIGHT (s.cellCount (fun u => u == .inFlight))
  else if a = Reg.BUF_OCC1 then
    (w.put Fld.BUF_OCC1_QUEUED (s.cellCount (fun u => u == .queued))).put Fld.BUF_OCC1_WITHDRAWN (s.cellCount (fun u => u == .withdrawn))
  else if a = Reg.BUF_LOW then w.put Fld.BUF_LOW_FREE_LOW (s.buf.low.getD s.cellFree)
  else w

/-- The control-store window (R212): 0 while the selected shard's domain is OFF or SWITCHING (R461). -/
def State.viewMcs (s : State) (a : Nat) (w : Word64) : Word64 :=
  let h := s.fld Reg.MCS_SEL Fld.MCS_SEL_SHARD
  match elem2 (Reg.MCS_WORD 0 0) 0x20 16384 8 3 a with
  | some (k, i) =>
    if s.dom (domShard h) = 0 ∨ s.dom (domShard h) = 3 then 0
    else ((Tbl.get 0 (s.shard h).store k) >>> (64 * i)).setWidth 64
  | none => w

/-- What a read of the register at `a` finds. -/
def State.readReg (s : State) (a : Nat) : Word64 :=
  let w := s.reg a
  match blkOf a with
  | some (.flt, _) => s.viewFlt a w
  | some (.tod, _) => s.viewTod a w
  | some (.lop, _) => s.viewLop a w
  | some (.ccx, _) => s.viewCcx a w
  | some (.bpm, _) => s.viewBpm a w
  | some (.dmc, c) =>
    match elemOf (Reg.DMC_FILL_LINK c 0) 8 16 a with
    | some h => if c = 0 then w.put Fld.DMC_FILL_LINK_CREDIT (s.credit (lnkFill h)) else w
    | none => w
  | some (.prt, n) => s.viewPrt n a w
  | some (.slc, i) => s.viewSlc i a w
  | some (.tmb, q) => s.viewTmb q a w
  | some (.hnk, h) => s.viewHnk h a w
  | some (.sch, h) => s.viewSch h a w
  | some (.fae, h) => s.viewFae h a w
  | some (.wrd, h) => s.viewWrd h a w
  | some (.tmg, q) => s.viewTmg q a w
  | some (.tmgSch, q) => s.viewTmgSch q a w
  | some (.buf, _) => s.viewBuf a w
  | some (.mcs, _) => s.viewMcs a w
  | some (.glb, _) | some (.cst, _) | some (.hif, _) | some (.pmu, _) | some (.twn, _) | none => w

end Sys2Proof.Machine
end

