-- ==== Sys2Proof/Machine/Clears.lean ====
section
/-! DEFINITION. The clears of statistics counters (CNT_CLR of every block) and the reads of fields that a read clears (R7). -/

namespace Sys2Proof.Machine

/-- Sets words `w` to `w + k - 1` of each of the `n` elements of `stride` bytes at `base` to 0. -/
def State.clearWords (s : State) (base stride n w k : Nat) : State :=
  forUpTo n (fun i t => t.clearRegs (base + stride * i + 8 * w) k) s

/-! ### Counter clears -/

/-- PRT.CTL.CNT_CLR0, CNT_CLR1 of macro n (R64). -/
def prtCntClr (n h : Nat) (s : State) : State := s.clearRegs (Reg.PRT_CNT n h 0) 64

/-- SLC.CTL.CNT_CLR: SLC.CNT and the policer counters (R90). -/
def slcCntClr (i : Nat) (s : State) : State :=
  (s.clearRegs (Reg.SLC_CNT i 0) 16).clearWords (Reg.SLC_POL_RATE i 0) 0x40 256 3 3

def macCntClr (i : Nat) (s : State) : State := s.clearRegs (Reg.SLC_MAC_CNT i 0) 16
def tmbCntClr (q : Nat) (s : State) : State := s.clearRegs (Reg.TMB_CNT q 0) 16
def hnkCntClr (h : Nat) (s : State) : State := s.clearRegs (Reg.HNK_CNT h 0) 32
def schCntClr (h : Nat) (s : State) : State := s.clearRegs (Reg.SCH_CNT h 0) 32
def faeCntClr (h : Nat) (s : State) : State := s.clearRegs (Reg.FAE_CNT h 0) 16
def pcntClr (h : Nat) (s : State) : State := s.clearRegs (Reg.FAE_PCNT h 0) 256
def wrdCntClr (h : Nat) (s : State) : State := s.clearRegs (Reg.WRD_CNT h 0) 16
def dmcCntClr (c : Nat) (s : State) : State := s.clearRegs (Reg.DMC_CNT c 0) 32
def bpmCntClr (s : State) : State := s.clearRegs (Reg.BPM_CNT 0) 32

/-- BUF.CTL.CNT_CLR: BUF.CNT, ING_NO_CELL and the sampler counters (R313). -/
def bufCntClr (s : State) : State :=
  ((s.clearRegs (Reg.BUF_CNT 0) 16).clearRegs (Reg.BUF_ING_NO_CELL 0) 512).clearWords (Reg.BUF_SAMP_CFG 0) 0x20 64 1 2

/-- TMG.CTL.CNT_CLR: TMG.CNT, PORT_CNT and the queue counters (R314). -/
def tmgCntClr (q : Nat) (s : State) : State :=
  ((s.clearRegs (Reg.TMG_CNT q 0) 16).clearRegs (Reg.TMG_PORT_CNT q 0 0) 512).clearWords
    (Reg.TMG_QCFG0 q 0) 0x80 656 4 12

/-- TMG.SCH_CTL.CNT_CLR: SCH_CNT and every GAUGE_SUM (R331). -/
def schCtlCntClr (q : Nat) (s : State) : State :=
  (s.clearRegs (Reg.TMG_SCH_CNT q 0) 16).clearWords (Reg.TMG_QSHAPE_RATE q 0) 0x40 656 4 1

def cstCntClr (s : State) : State := s.clearRegs (Reg.CST_CNT 0) 16

/-- HIF.CTL.CNT_CLR: HIF.CNT and RING_CNT (R382). -/
def hifCntClr (s : State) : State := (s.clearRegs (Reg.HIF_CNT 0) 16).clearWords (Reg.HIF_RING_BASE 0) 0x20 80 3 1

def fltCntClr (s : State) : State := s.clearRegs (Reg.FLT_CNT 0) 16
def ccxCntClr (s : State) : State := s.clearRegs (Reg.CCX_CNT 0) 16
def twnCntClr (s : State) : State := s.clearRegs (Reg.TWN_CNT 0) 16
def pmuCntClr (s : State) : State := s.clearRegs (Reg.PMU_CNT 0) 8

/-! ### Reads that clear (R7) -/

/-- The register domain of an address (R456); none for PD_AON. -/
def regDomain (a : Nat) : Option Nat :=
  match blkOf a with
  | some (.hif, _) => some domPx
  | some (.bpm, _) => (elemOf (Reg.BPM_CACHE 0 0) 8 16 a).map (fun k => domTm (k / 4))
  | some (.dmc, c) => some (domDp c)
  | some (.prt, n) => some (domSd n)
  | some (.slc, i) => some (domSlice i)
  | some (.tmb, q) | some (.tmg, q) | some (.tmgSch, q) => some (domTm q)
  | some (.hnk, h) | some (.sch, h) | some (.fae, h) | some (.wrd, h) => some (domShard h)
  | some (.buf, _) => some 68
  | _ => none

/-- The registers at an address answer: their domain is ON or QUIESCED (R461). -/
def State.answers (s : State) (a : Nat) : Bool :=
  match regDomain a with
  | none => true
  | some d => s.dom d == 1 || s.dom d == 2

/-- GLB.BAD_ACCESS counts an access, and GLB.BAD_LAST latches it where it is empty (R459, R461, R464). -/
def State.badLatch (s : State) (write : Bool) (a len cause : Nat) : State :=
  let s := s.bump Reg.GLB_BAD_ACCESS
  let r := Reg.GLB_BAD_LAST
  if s.flag r Fld.GLB_BAD_LAST_VALID then s
  else
    ((((s.setFld r Fld.GLB_BAD_LAST_ADDR a).setFld r Fld.GLB_BAD_LAST_WRITE (bit write)).setFld r Fld.GLB_BAD_LAST_LEN
      (min 63 len)).setFld r Fld.GLB_BAD_LAST_CAUSE cause).setFld r Fld.GLB_BAD_LAST_VALID 1

/-- A read of one register with read-clear fields: the word goes to the read-out, then `clear` takes effect. -/
def State.rcRead (s : State) (a : Nat) (clear : State → State) : State :=
  if s.answers a then clear { s with readback := [s.readReg a] }
  else { s.badLatch false a 8 2 with readback := [0] }

/-- HNK.ENTRY_STATUS (R147). -/
def rcHighWaterRead (h : Nat) (s : State) : State :=
  s.rcRead (Reg.HNK_ENTRY_STATUS h) (fun s => s.setFld (Reg.HNK_ENTRY_STATUS h) Fld.HNK_ENTRY_STATUS_HIGH_WATER 0)

/-- SCH.HIGH (R173). -/
def schHighRead (h : Nat) (s : State) : State :=
  s.rcRead (Reg.SCH_HIGH h) (fun s => (s.setFld (Reg.SCH_HIGH h) Fld.SCH_HIGH_REORDER_HIGH 0).setFld (Reg.SCH_HIGH h)
    Fld.SCH_HIGH_READY_HIGH 0)

/-- BUF.LOW (R313): the lowest FREE is sought anew. -/
def bufLowRead (s : State) : State := s.rcRead Reg.BUF_LOW (fun s => { s with buf := { s.buf with low := none } })

/-- TMG.DESC (R314). -/
def tmgDescRead (q : Nat) (s : State) : State := s.rcRead (Reg.TMG_DESC q) (fun s => s.setFld (Reg.TMG_DESC q) Fld.TMG_DESC_HIGH 0)

/-- BPM.POOL_STATUS (R288): the lowest FREE is sought anew, from the FREE of the read on. -/
def poolStatusRead (p : Nat) (s : State) : State :=
  s.rcRead (Reg.BPM_POOL_STATUS p) (fun s => { s with pools := { s.pools with low := Tbl.set none s.pools.low p (some (s.poolFree p)) } })

/-- TMG.GAUGE_MAX (R326). -/
def gaugeMaxRead (q u : Nat) (s : State) : State :=
  s.rcRead (Reg.TMG_GAUGE_MAX q u) (fun s => (s.setFld (Reg.TMG_GAUGE_MAX q u) Fld.TMG_GAUGE_MAX_DEPTH_MAX 0).setFld
    (Reg.TMG_GAUGE_MAX q u) Fld.TMG_GAUGE_MAX_SOJOURN_MAX 0)

/-- PMU.THERM (R439). -/
def pmuThermRead (s : State) : State := s.rcRead Reg.PMU_THERM (fun s => s.setFld Reg.PMU_THERM Fld.PMU_THERM_MAX_C 0)

def execPrtCntClr (n : Fin 256) (h : Fin 2) (s : State) : Out := done s (prtCntClr n.val h.val s)
def execSlcCntClr (i : Fin 16) (s : State) : Out := done s (slcCntClr i.val s)
def execMacCntClr (q : Fin 4) (s : State) : Out := done s (macCntClr (4 * q.val) s)
def execTmbCntClr (q : Fin 4) (s : State) : Out := done s (tmbCntClr q.val s)
def execHnkCntClr (h : Fin 16) (s : State) : Out := done s (hnkCntClr h.val s)
def execSchCntClr (h : Fin 16) (s : State) : Out := done s (schCntClr h.val s)
def execFaeCntClr (h : Fin 16) (s : State) : Out := done s (faeCntClr h.val s)
def execPcntClr (h : Fin 16) (s : State) : Out := done s (pcntClr h.val s)
def execWrdCntClr (h : Fin 16) (s : State) : Out := done s (wrdCntClr h.val s)
def execDmcCntClr (c : Fin 12) (s : State) : Out := done s (dmcCntClr c.val s)
def execBpmCntClr (s : State) : Out := done s (bpmCntClr s)
def execBufCntClr (s : State) : Out := done s (bufCntClr s)
def execTmgCntClr (q : Fin 4) (s : State) : Out := done s (tmgCntClr q.val s)
def execSchCtlCntClr (q : Fin 4) (s : State) : Out := done s (schCtlCntClr q.val s)
def execCstCntClr (s : State) : Out := done s (cstCntClr s)
def execHifCntClr (s : State) : Out := done s (hifCntClr s)
def execFltCntClr (s : State) : Out := done s (fltCntClr s)
def execCcxCntClr (s : State) : Out := done s (ccxCntClr s)
def execTwnCntClr (s : State) : Out := done s (twnCntClr s)
def execPmuCntClr (s : State) : Out := done s (pmuCntClr s)
def execRcHighWaterRead (h : Fin 16) (s : State) : Out := done s (rcHighWaterRead h.val s)
def execSchHighRead (h : Fin 16) (s : State) : Out := done s (schHighRead h.val s)
def execBufLowRead (s : State) : Out := done s (bufLowRead s)
def execTmgDescRead (q : Fin 4) (s : State) : Out := done s (tmgDescRead q.val s)
def execPoolStatusRead (p : Fin 4) (s : State) : Out := done s (poolStatusRead p.val s)
def execGaugeMaxRead (q : Fin 4) (u : Fin 656) (s : State) : Out := done s (gaugeMaxRead q.val u.val s)
def execPmuThermRead (s : State) : Out := done s (pmuThermRead s)

end Sys2Proof.Machine
end

