-- ==== Sys2Proof/Machine/LopFlow.lean ====
section
/-! DEFINITION. FLOW_EXPORT, FLOW_IMPORT (R373 to R377) and TABLE_DUMP (R378). -/

namespace Sys2Proof.Machine

/-! ### FLOW_EXPORT (R373, R374) -/

/-- The trailer line. -/
def exportTrailer (records : Nat) (crc : Word64) : List Byte :=
  let b := [0x53#8, 0x39#8, 0x46#8, 0x45#8] ++ leBytes 8 records ++ leBytes 8 crc.toNat ++ leBytes 40 0
  b ++ leBytes 4 (crc32c b).toNat

/-- The first shard of the mask from `h` on; 16 where there is none. -/
def State.exportShard (s : State) (i h : Nat) : Nat :=
  ((List.range 16).find? (fun k => decide (h ≤ k) && (s.lopArgN i 0).testBit k)).getD 16

/-- A slot has been visited: the next one follows. -/
def State.exportNext (s : State) (i h slot records : Nat) (crc : Word64) : State :=
  let last := decide (s.shardSlots h ≤ slot + 1)
  let r : LopRun := if last then .flowExport (h + 1) 0 records crc else .flowExport h (slot + 1) records crc
  ((s.setLopRun i r).lopProgress i 1).lopCount i 2

/-- A visited record goes to the stream where its class is asked for. -/
def State.exportRecord (s : State) (i h slot records : Nat) (crc : Word64) (w : List Word64) : State :=
  if (s.lopArgN i 1).testBit (recMeta w mtClass) then
    let b := recLines 0xA5 w s.clk.mono
    (((s.exportNext i h slot (records + 1) (crc64From b crc)).lopCount i 0).lopEmit i b false)
  else (s.exportNext i h slot records crc).lopSettle i

/-- A slot that reads as lost. -/
def State.exportLost (s : State) (i h slot records : Nat) (crc : Word64) : State :=
  ((s.exportNext i h slot records crc).lopCount i 1).lopSettle i

/-- The record whose slot has been read: from the hot tier or the eviction buffer where it is there, behind any hold; `e`: what
the tail's, or the bank's, read meets. -/
def State.exportFound (s old : State) (i h slot records : Nat) (crc b : Word64) (p : Place) (w : List Word64) (e : Ecc) : State :=
  let key := recKey w
  let g := s.hashKey key
  if (s.openEntry h g).isSome then old
  else
    match s.findWay h g key with
    | some k =>
      if (s.way h k).held.isSome then old
      else
        let r := s.readWay h k e
        if r.1 then r.2.exportRecord i h slot records crc (s.way h k).words else r.2.exportLost i h slot records crc
    | none =>
      match (s.evicted h g key).bind (fun j => (s.shard h).evb[j]?) with
      | some v => s.exportRecord i h slot records crc v.words
      | none =>
        if !recLong w then s.exportRecord i h slot records crc w
        else
          let r := s.readSlot h b p 1 false e
          match r.1 with
          | none => r.2.exportLost i h slot records crc
          | some t => r.2.exportRecord i h slot records crc (w ++ t)

/-- One slot of a shard. -/
def State.exportVisit (s : State) (i h slot records : Nat) (crc : Word64) (e e2 : Ecc) : State :=
  if !s.shardUp h then s.exportLost i h slot records crc
  else
    let n := 16 * 2 ^ s.bucketBits h
    let p : Place := if slot < n then { stash := false, slot := slot % 16 } else { stash := true, slot := slot - n }
    let b : Word64 := BitVec.ofNat 64 (if slot < n then slot / 16 else 0)
    let r := s.readSlot h b p 0 false e
    match r.1 with
    | none => r.2.exportLost i h slot records crc
    | some w =>
      if !slotHead w then (r.2.exportNext i h slot records crc).lopSettle i
      else r.2.exportFound s i h slot records crc b p w e2

/-- A background read of a slot of shard h may be made now (R258). -/
def State.exportMay (s : State) (h slot : Nat) : Bool :=
  let n := 16 * 2 ^ s.bucketBits h
  let p : Place := if slot < n then { stash := false, slot := slot % 16 } else { stash := true, slot := slot - n }
  s.bgLine (s.placeLine h (BitVec.ofNat 64 (if slot < n then slot / 16 else 0)) p 0)

/-- FLOW_EXPORT: the next slot, or the trailer; `e`, `e2`: what its reads meet. -/
def flowExport (i : Nat) (e e2 : Ecc) (s : State) : State :=
  match (s.lopSlot i).run with
  | .flowExport h0 slot records crc =>
    if !s.lopActive i ∨ !s.serving then s
    else if (s.lopSlot i).buf ≠ [] then (s.lopDrain i).lopSettle i
    else
      let h := s.exportShard i h0
      if h = 16 then s.lopEmit i (exportTrailer records crc) true
      else if !s.dmcReady ∨ !s.exportMay h slot then s
      else s.exportVisit i h slot records crc e e2
  | _ => s

/-! ### FLOW_IMPORT (R375, R376) -/

/-- The header line is one that this device reads. -/
def importHeaderOk (b : List Byte) : Bool :=
  bytesAt b 0 4 == [0x53#8, 0x39#8, 0x46#8, 0x58#8] && leNat (bytesAt b 4 1) == 1 && leNat (bytesAt b 6 2) == 128
    && leNat (bytesAt b 60 4) == (crc32c (bytesAt b 0 60)).toNat

def isTrailer (b : List Byte) : Bool := bytesAt b 0 4 == [0x53#8, 0x39#8, 0x46#8, 0x45#8]

def trailerOk (b : List Byte) (records : Nat) (crc : Word64) : Bool :=
  leNat (bytesAt b 4 8) == records && leNat (bytesAt b 12 8) == crc.toNat
    && leNat (bytesAt b 60 4) == (crc32c (bytesAt b 0 60)).toNat

/-- The state bytes with every PT field that PT_OFF names moved by `d` (R376). -/
def shiftTimes (off d : Nat) (x : List Byte) : List Byte :=
  forUpTo 8 (fun j x =>
    let o := off / 2 ^ (8 * j) % 256
    if o < 65 then bytesPut x o (leBytes 4 ((leNat (bytesAt x o 4) + d) % 4294967296)) else x) x

/-- A record's words after a stream record `b` is written over `old`: `imported`, by an import (R375); else by the mirror engine, as
HNK.REC_CMD WRITE does (R421). -/
def importWords (old : List Word64) (b : List Byte) (off mono : Nat) (imported : Bool) : List Word64 :=
  let n (o k : Nat) : Nat := leNat (bytesAt b o k)
  let d := (ptOf mono + 4294967296 - n 8 4) % 4294967296
  let flags := n 1 1
  let w := recPutState old (shiftTimes off d (bytesAt b 56 68))
  let w := recPutMeta (recPutMeta w mtClass (n 2 1)) mtAge (n 3 1)
  let w := recPutMeta (recPutMeta (recPutMeta w mtSwap (flags / 2 % 2)) mtFwd 0) mtImported
    (if imported then 1 else recMeta old mtImported)
  let idle := if imported then n 4 4 else 0
  let w := recPut (recPut w 0 w0Lock (flags / 4 % 2)) 0 w0Seen ((ctOf mono + 4294967296 - idle) % 4294967296)
  recPut (recPut (recPut w 0 w0Hit 1) 0 w0Aged 0) 0 w0Dirty 1

/-- The stream record in `b` is placed; `none` where the operation must wait for its record. -/
def State.importRecord (s : State) (i : Nat) (b : List Byte) (es : List Ecc) : Option State :=
  let cls := leNat (bytesAt b 2 1)
  let key := bytesAt b 16 40
  let long := leNat (bytesAt b 1 1) % 2 == 1
  let g := s.hashKey key
  let h := homeShard g
  if leNat (bytesAt b 124 4) ≠ (crc32c (bytesAt b 0 124)).toNat then some (s.lopCount i 3)
  else if 64 ≤ cls ∨ (s.lopArgN i 1).testBit cls = false then some s
  else if (long ∨ vecByte key 0 = 6) ∧ s.classLong h cls = false then some (s.lopCount i 3)
  else if !s.shardUp h then some (s.lopCount i 3)
  else if !s.dmcReady then none
  else
    let r := s.placeRecord h g key cls true (leNat (bytesAt b 1 1) / 2 % 2 == 1) es
    let put (k : Nat) (made : Bool) : State :=
      r.2.putRecord h k (importWords (r.2.way h k).words b (r.2.lopArgN i 2) r.2.clk.mono true) made
    match r.1 with
    | .wait => none
    | .absent => some r.2
    | .full => some (r.2.lopCount i 2)
    | .created k => some ((put k true).lopCount i 0)
    | .found k =>
      if (s.lopArgN i 0).testBit 0 = false then some (r.2.lopCount i 1)
      else if recLong (r.2.way h k).words ≠ s.classLong h cls then some (r.2.lopCount i 3)
      else some ((put k false).lopCount i 1)

/-- Both lines of a record have been read: it is placed, or the operation waits for it. -/
def State.importPlace (s : State) (i records : Nat) (crc : Word64) (es : List Ecc) : State :=
  let x := s.lopSlot i
  match s.importRecord i x.buf es with
  | none => s
  | some t =>
    let t := t.setLop i { t.lopSlot i with buf := [], run := .flowImport true (records + 1) (crc64From x.buf crc) }
    (t.lopProgress i 1).lopSettle i

/-- One line of the stream outside a record's second line. -/
def State.importLine (s : State) (i : Nat) (head : Bool) (records : Nat) (crc : Word64) (line : List Byte) : State :=
  if !head then
    if importHeaderOk line then s.setLopRun i (.flowImport true 0 0) else s.lopEnd i 4 lopStream
  else if isTrailer line then
    if trailerOk line records crc then s.lopEnd i 3 0 else s.lopEnd i 4 lopStream
  else s.setLop i { s.lopSlot i with buf := line }

/-- FLOW_IMPORT: the next line of the input ring, `line`, or the record that waits; `es`: what its DRAM reads meet. -/
def flowImport (i : Nat) (line : List Byte) (es : List Ecc) (s : State) : State :=
  match (s.lopSlot i).run with
  | .flowImport head records crc =>
    let line := bytesAt line 0 64
    let x := s.lopSlot i
    if !s.lopActive i ∨ !s.serving ∨ !s.dmaEn then s
    else if x.buf.length = 128 then s.importPlace i records crc es
    else if s.inDone i then s.lopEnd i 4 lopStream
    else if s.inLeft i = 0 then s.lopStarve i
    else
      let s := s.lopRead i 1
      if x.buf.length = 64 then (s.setLop i { s.lopSlot i with buf := x.buf ++ line }).importPlace i records crc es
      else s.importLine i head records crc line
  | _ => s

/-! ### TABLE_DUMP (R378) -/

/-- The two lines of a Tumbler entry. -/
def dumpEntry (i : Nat) (e : TmbEntry) : List Byte :=
  leBytes 40 e.key.toNat ++ leBytes 40 e.mask.toNat ++ leBytes 2 e.prio ++ leBytes 1 e.gens.toNat
    ++ leBytes 1 (bit e.valid + 2 * bit e.disabled) ++ leBytes 8 e.result.toNat ++ leBytes 4 i ++ leBytes 32 0

/-- Bytes and number of the entries that the next step dumps, from entry n of the table on. -/
def State.dumpStep (s : State) (i first n : Nat) : List Byte × Nat :=
  let kind := s.lopArgF i 0 0 4
  let q := s.lopArgF i 0 4 2
  if kind = 0 then ((List.range 8).flatMap (fun w => leBytes 16 (s.mac q (n + w)).encode), 8)
  else if kind = 1 then
    let t := s.lopArgF i 0 8 4
    let k := (s.tmbRange q t).1 + s.tmbWidth q t * n
    (dumpEntry k (s.ent q k), 1)
  else if kind = 2 then
    ((List.range 2).flatMap (fun w =>
      let e := Tbl.get NhEntry.init s.tm.nh (262144 * q + n + w)
      leBytes 8 e.n0.toNat ++ leBytes 8 e.n1.toNat ++ leBytes 8 e.n2.toNat ++ leBytes 8 e.n3.toNat), 2)
  else ((s.jnlAt ((first + n) % s.cast.jnlLen)).bytes, 1)

/-- TABLE_DUMP: the next entries of the table, a MAC bucket at one instant. -/
def tableDump (i : Nat) (s : State) : State :=
  match (s.lopSlot i).run with
  | .dump first n moved =>
    if !s.lopActive i ∨ !s.serving then s
    else if (s.lopSlot i).buf ≠ [] then (s.lopDrain i).lopSettle i
    else
      let d := s.dumpStep i first n
      let s := ((s.setLopRun i (.dump first (n + d.2) moved)).lopProgress i d.2).lopResult i 0 (n + d.2)
      s.lopEmit i d.1 (decide (s.lopTotal i 3 ≤ n + d.2))
  | _ => s

def execFlowExport (i : Fin 16) (e e2 : Ecc) (s : State) : Out := done s (flowExport i.val e e2 s)
def execFlowImport (i : Fin 16) (line : List Byte) (es : List Ecc) (s : State) : Out := done s (flowImport i.val line es s)
def execTableDump (i : Fin 16) (s : State) : Out := done s (tableDump i.val s)

end Sys2Proof.Machine
end

