-- ==== Sys2Proof/Machine/Twin.lean ====
section
/-! DEFINITION. Twin mode (R415 to R425): heartbeats, pairing, the twin link's frames, the mirror engine, sync passes, promotion and
the split pair. -/

namespace Sys2Proof.Machine

def State.twnBump (s : State) (i : Nat) : State := s.bump (Reg.TWN_CNT i)
def State.twnFld (s : State) (f : Fld) : Nat := s.fld Reg.TWN_STATUS f
def State.setTwn (s : State) (f : Fld) (x : Nat) : State := s.setFld Reg.TWN_STATUS f x
def State.twinEn (s : State) : Bool := s.flag Reg.TWN_CTL Fld.TWN_CTL_EN
def State.ownClaim (s : State) : Nat := s.fld Reg.TWN_CLAIM Fld.TWN_CLAIM_OWN
def State.partnerClaim (s : State) : Nat := s.fld Reg.TWN_CLAIM Fld.TWN_CLAIM_PARTNER
def State.twinRole (s : State) : Nat := s.twnFld Fld.TWN_STATUS_ROLE

/-! ### Heartbeats (R415) -/

/-- The device sends heartbeats. -/
def State.beats (s : State) : Bool := s.twinEn && s.phase == 11 && (s.ccUp 0 || s.ccUp 1) && !s.fault.stopped

/-- TWIN_HEARTBEAT_SEND: every 10 µs on the link (`path` 0), every 20 µs on the sideband. -/
def twinHeartbeatSend (path : Nat) (s : State) : State :=
  let last := if path = 0 then s.twin.linkSent else s.twin.sideSent
  let gap := usTicks (if path = 0 then 10 else 20)
  let due := match last with
    | none => true
    | some t => decide (t + gap ≤ s.clk.mono)
  if s.beats = false ∨ due = false ∨ (path = 0 ∧ s.down unitTwin = true) then s
  else
    let b : TwinHeartbeat :=
      { claim := s.ownClaim, role := s.twinRole, sync := s.twnFld Fld.TWN_STATUS_SYNC
        promotions := s.fld Reg.TWN_PARTNER Fld.TWN_PARTNER_PROMOTIONS }
    if path = 0 then { s with twin := { s.twin with sent := some b, linkSent := some s.clk.mono } }
    else { s with twin := { s.twin with sent := some b, sideSent := some s.clk.mono } }

/-! ### Pairing (R416) -/

/-- The CRC-64 of TWN.AUX_MIRROR, CFIELD, SMASK0, SMASK1 and PTOFF. -/
def State.twinTables (s : State) : Word64 :=
  let regs := Reg.TWN_AUX_MIRROR :: (List.range 64).map Reg.TWN_CFIELD ++ (List.range 64).map Reg.TWN_SMASK0
    ++ (List.range 64).map Reg.TWN_SMASK1 ++ (List.range 64).map Reg.TWN_PTOFF
  crc64 (regs.flatMap (fun a => leBytes 8 (s.reg a).toNat))

/-- PAIR_ERR: the first of R416's mismatches. -/
def State.pairError (s : State) (p : TwinPair) : Nat :=
  if p.digest ≠ s.reg (Reg.FAE_MC_DIGEST 0) then 1
  else if p.keyCheck.toNat ≠ s.keyCheck then 2
  else if p.bucketBits ≠ s.bucketBits 0 then 3
  else if p.tables ≠ s.twinTables then 4
  else if bit p.side = s.fld Reg.TWN_CFG Fld.TWN_CFG_SIDE then 5
  else 0

/-- The comparison is due: at the first exchange, after a loss, and when the partner has been cast on again. -/
def State.pairDue (s : State) (role : Nat) : Bool :=
  !s.twin.paired || s.twnFld Fld.TWN_STATUS_PARTNER_LOST == 1
    || (role == 0 && s.fld Reg.TWN_PARTNER Fld.TWN_PARTNER_P_ROLE != 0)

/-- Both number their frames from 0 again. -/
def State.pairWith (s : State) (p : TwinPair) : State :=
  { s with twin := { s.twin with paired := true, txSeq := 0, rxSeq := 0, unacked := [] } }.setTwn Fld.TWN_STATUS_PAIR_ERR (s.pairError p)

/-- ROLE by the claims (R417); equal claims leave it. -/
def State.takeRole (s : State) : State :=
  if s.twnFld Fld.TWN_STATUS_PAIR_ERR ≠ 0 ∨ !s.twin.paired then s
  else if s.partnerClaim < s.ownClaim then s.setTwn Fld.TWN_STATUS_ROLE 1
  else if s.ownClaim < s.partnerClaim then s.setTwn Fld.TWN_STATUS_ROLE 2
  else s

/-- The pair has been split (R425). -/
def State.splitSeen (s : State) : State :=
  (((s.setTwn Fld.TWN_STATUS_SPLIT_SEEN 1).twnBump Cnt.TWN_SPLITS).detect srcTwin 0x091 0 s.partnerClaim).jnlQueue (.event .split)

/-- A heartbeat has been heard on a path. -/
def State.heardOn (s : State) (path : Nat) : State :=
  if path = 0 then State.setTwn { s with twin := { s.twin with linkAt := some s.clk.mono } } Fld.TWN_STATUS_LINK_HB 1
  else State.setTwn { s with twin := { s.twin with sideAt := some s.clk.mono } } Fld.TWN_STATUS_SIDEBAND_HB 1

/-- A partner's heartbeat: its claim, ROLE, SYNC are noted, the pair is compared, roles follow the claims, and the primary
resynchronises on pairing, on return and after a split. -/
def twinHeartbeatReceive (path claim role sync : Nat) (p : TwinPair) (s : State) : State :=
  if s.twinEn = false ∨ s.phase ≠ 11 ∨ (path = 0 ∧ s.down unitTwin = true) then s
  else
    let lost := s.twnFld Fld.TWN_STATUS_PARTNER_LOST == 1
    let split := lost && s.twinRole == 1 && role == 1
    let due := s.pairDue role
    let s := s.heardOn path
    let s := s.setFld Reg.TWN_CLAIM Fld.TWN_CLAIM_PARTNER claim
    let s := (s.setFld Reg.TWN_PARTNER Fld.TWN_PARTNER_P_ROLE role).setFld Reg.TWN_PARTNER Fld.TWN_PARTNER_P_SYNC sync
    let s := if due then s.pairWith p else s
    let s := (s.setTwn Fld.TWN_STATUS_PARTNER_LOST 0).takeRole
    let s := if split then s.splitSeen else s
    let s := if s.twinRole = 2 ∧ role = 1 then s.setSync sync else s
    if due then s.startPass else s

/-! ### Silence (R424) -/

/-- A secondary takes the pair over, unless PROMOTE_LIMIT is reached. -/
def State.promoteAlone (s : State) : State :=
  let a := Reg.TWN_PARTNER
  let n := s.fld a Fld.TWN_PARTNER_PROMOTIONS
  if s.twinRole ≠ 2 then s
  else if s.fld Reg.TWN_CFG Fld.TWN_CFG_PROMOTE_LIMIT ≤ n then s.setTwn Fld.TWN_STATUS_PROMOTE_ERR 1
  else
    let s := s.setFld Reg.TWN_CLAIM Fld.TWN_CLAIM_OWN (max s.ownClaim s.partnerClaim + 1)
    let s := (s.setTwn Fld.TWN_STATUS_ROLE 1).setFld a Fld.TWN_PARTNER_PROMOTIONS (n + 1)
    (s.twnBump Cnt.TWN_PROMOTIONS).jnlQueue (.event .promotion)

/-- The partner is lost: queued entries are discarded. -/
def State.partnerLost (s : State) : State :=
  let t : TwinSt := { s.twin with queues := [], deltas := [], unacked := [], pass := none }
  ((State.setTwn { s with twin := t } Fld.TWN_STATUS_PARTNER_LOST 1).twnBump Cnt.TWN_PARTNER_LOSSES).promoteAlone

/-- TWIN_PATH_TIMEOUT: HB_TIMEOUT_US of silence on one path. -/
def twinPathTimeout (path : Nat) (s : State) : State :=
  let last := if path = 0 then s.twin.linkAt else s.twin.sideAt
  let f := if path = 0 then Fld.TWN_STATUS_LINK_HB else Fld.TWN_STATUS_SIDEBAND_HB
  let other := if path = 0 then Fld.TWN_STATUS_SIDEBAND_HB else Fld.TWN_STATUS_LINK_HB
  match last with
  | none => s
  | some t =>
    if s.twinEn = false ∨ s.twnFld f = 0 ∨ s.clk.mono < t + usTicks (s.fld Reg.TWN_CFG Fld.TWN_CFG_HB_TIMEOUT_US) then s
    else
      let s := ((s.setTwn f 0).twnBump Cnt.TWN_PATH_FAULTS).detect srcTwin 0x090 0 path
      let s := if path = 0 then State.setSync { s with twin := { s.twin with pass := none } } 3 else s
      if s.twnFld other = 0 then s.partnerLost else s

/-! ### The twin link (R415, R419, R420) -/

/-- The next shard in rotation whose queue holds an entry. -/
def State.nextQueue (s : State) : Option Nat :=
  ((List.range 16).map (fun k => (s.twin.lastShard + 1 + k) % 16)).find? (fun h => (Tbl.get [] s.twin.queues h) != [])

/-- Up to `n` entries leave the shard queues in rotation. -/
def State.takeEntries (s : State) : Nat → List (Nat × List Byte) → List (Nat × List Byte) × State
  | 0, l => (l, s)
  | n + 1, l =>
    match s.nextQueue with
    | none => (l, s)
    | some h =>
      match Tbl.get [] s.twin.queues h with
      | [] => (l, s)
      | e :: r =>
        State.takeEntries { s with twin := { s.twin with queues := Tbl.set [] s.twin.queues h r, lastShard := h } } n (l ++ [(h, e)])

def isAux (e : List Byte) : Bool := vecByte e 0 == 4

/-- TWIN_FRAME_SEND. -/
def twinFrameSend (s : State) : State :=
  if s.mirrors = false ∨ 64 ≤ s.twin.unacked.length ∨ s.nextQueue = none then s
  else
    let r := s.takeEntries 32 []
    let f : TwinFrame := { claim := s.ownClaim, seq := s.twin.txSeq, entries := r.1 }
    let x : TwinSent := { frame := f, at_ := s.clk.mono }
    let t : TwinSt := { r.2.twin with unacked := r.2.twin.unacked ++ [x], txSeq := (s.twin.txSeq + 1) % 4294967296 }
    let s := { r.2 with twin := t }
    let s := s.bumpBy (Reg.TWN_CNT Cnt.TWN_ENTRIES_SENT) r.1.length
    s.bumpBy (Reg.TWN_CNT Cnt.TWN_AUX_LINES_SENT) (r.1.filter (fun e => isAux e.2)).length

/-- TWIN_RETRANSMIT: the oldest frame not acknowledged for 10 µs is sent again. -/
def twinRetransmit (s : State) : State :=
  match s.twin.unacked.findIdx? (fun x => decide (x.at_ + usTicks 10 ≤ s.clk.mono)) with
  | none => s
  | some k =>
    match s.twin.unacked[k]? with
    | none => s
    | some x =>
      if s.twinEn = false ∨ s.down unitTwin = true then s
      else
        State.twnBump { s with twin := { s.twin with unacked := listSet s.twin.unacked k { x with at_ := s.clk.mono } } }
          Cnt.TWN_FRAMES_RETRANSMITTED

/-- TWIN_ACKNOWLEDGEMENT: the frames up to `seq` leave the window. -/
def twinAcknowledgement (seq : Nat) (s : State) : State :=
  match s.twin.unacked.findIdx? (fun x => x.frame.seq == seq) with
  | none => s
  | some k =>
    if s.twinEn = false ∨ s.down unitTwin = true then s
    else { s with twin := { s.twin with unacked := s.twin.unacked.drop (k + 1) } }

/-- TWIN_FRAME_RECEIVE: the twin-link Hasp; `ok`: the frame's CRC-32C.  The ADDR of TWIN_TIE is not stated. -/
def twinFrameReceive (claim seq : Nat) (entries : List (Nat × List Byte)) (ok : Bool) (s : State) : State :=
  if s.twinEn = false ∨ ok = false ∨ s.down unitTwin = true ∨ s.twnFld Fld.TWN_STATUS_PAIR_ERR ≠ 0 ∨ s.twin.paired = false then s
  else if claim < s.ownClaim then s.twnBump Cnt.TWN_REJECTED_LOW_CLAIM
  else if claim = s.ownClaim then
    let a := s.draw
    (a.2.setTwn Fld.TWN_STATUS_TIE_SEEN 1).faultUnit unitTwin srcTwin 0x092 a.1.toNat
  else if seq ≠ s.twin.rxSeq then s
  else
    { s with twin := { s.twin with apply := s.twin.apply ++ entries.take 32, rxSeq := (seq + 1) % 4294967296 } }

/-! ### The mirror engine (R421) -/

/-- A DELTA's words: each delta added to its field, LAST_SEEN at CT. -/
def State.deltaWords (s : State) (old : List Word64) (b : List Byte) : List Word64 :=
  let k := recMeta old mtClass
  let x := forUpTo 4 (fun j x =>
    match s.cfield k j with
    | none => x
    | some (o, n) => bytesPut x o (leBytes n ((leNat (bytesAt x o n) + leNat (bytesAt b (56 + 8 * j) 8)) % 2 ^ (8 * n)))) (recState old)
  recPut (recPut (recPutState old x) 0 w0Seen (ctOf s.clk.mono)) 0 w0Dirty 1

/-- An entry that names a record; `none` where its record must be waited for. -/
def State.applyRecord (s : State) (h op : Nat) (b : List Byte) (es : List Ecc) : Option State :=
  let cls := leNat (bytesAt b 2 1) % 64
  let key := bytesAt b 16 40
  let g := s.hashKey key
  let r := s.placeRecord h g key cls (op == 1) (leNat (bytesAt b 1 1) / 2 % 2 == 1) es
  let off := (s.reg (Reg.TWN_PTOFF cls)).toNat
  let upd (k : Nat) (made : Bool) : State :=
    if recLong (r.2.way h k).words ≠ s.classLong h cls then r.2
    else r.2.putRecord h k (importWords (r.2.way h k).words b off r.2.clk.mono false) made
  match r.1 with
  | .wait => none
  | .full => some (r.2.twnBump Cnt.TWN_APPLY_TABLE_FULL)
  | .absent => some (if op = 3 then r.2.twnBump Cnt.TWN_APPLY_ABSENT else r.2)
  | .created k => some (upd k true)
  | .found k =>
    if op = 1 then some (upd k false)
    else if op = 2 then some ((r.2.deleteWay h k .ok).hnkBump h Cnt.HNK_DELETE)
    else some (r.2.setWords h k (r.2.deltaWords (r.2.way h k).words b))

/-- An AUX entry: one write of the line. -/
def State.applyAux (s : State) (h : Nat) (b : List Byte) : State :=
  let line := (s.reg (Reg.FAE_AUX_BASE h (leNat (bytesAt b 1 1) % 16))).toNat / 64 + leNat (bytesAt b 4 4)
  (s.dramWrite line (bytesAt b 16 64) true).2

/-- MIRROR_APPLY: the oldest accepted entry of shard h; `es`: what its DRAM reads meet. -/
def mirrorApply (h : Nat) (es : List Ecc) (s : State) : State :=
  match s.twin.apply.findIdx? (fun e => e.1 == h) with
  | none => s
  | some k =>
    match s.twin.apply[k]? with
    | none => s
    | some (_, b) =>
      let op := vecByte b 0
      if s.twinEn = false ∨ s.shardUp h = false ∨ s.dmcReady = false then s
      else
        let t := if op = 4 then some (s.applyAux h b) else if 1 ≤ op ∧ op ≤ 3 then s.applyRecord h op b es else some s
        match t with
        | none => s
        | some t =>
          State.twnBump { t with twin := { t.twin with apply := t.twin.apply.eraseIdx k } } Cnt.TWN_ENTRIES_APPLIED

/-- DELTA_BATCH (R418): every BATCH_US the delta table's entries are sent. -/
def deltaBatch (h : Nat) (s : State) : State :=
  let due := Tbl.get 0 s.twin.batchAt h + usTicks (s.fld Reg.TWN_CFG Fld.TWN_CFG_BATCH_US)
  if s.mirrors = false ∨ s.clk.mono < due then s
  else
    let s := { s with twin := { s.twin with batchAt := Tbl.set 0 s.twin.batchAt h s.clk.mono } }
    if s.deltas h = [] then s
    else
      let l := s.deltas h
      let s : State := forEach l (fun d t => t.pushEntry h d.entry) (s.setDeltas h [])
      s.twnBump Cnt.TWN_DELTA_BATCHES

/-! ### Promotion and sync passes (R423, R425) -/

/-- PROMOTE. -/
def promote (s : State) : State :=
  if s.twinEn = false then s
  else if s.twnFld Fld.TWN_STATUS_PAIR_ERR ≠ 0 ∨ s.twnFld Fld.TWN_STATUS_PARTNER_LOST = 1 then s.setTwn Fld.TWN_STATUS_PROMOTE_ERR 1
  else (s.setFld Reg.TWN_CLAIM Fld.TWN_CLAIM_OWN (max s.ownClaim (s.partnerClaim + 1))).takeRole

/-- RESYNC. -/
def resync (s : State) : State := if s.twinEn then s.startPass else s

def State.setPass (s : State) (x : Option SyncPass) : State := { s with twin := { s.twin with pass := x } }

/-- The slot walked is done. -/
def State.passNext (s : State) (x : SyncPass) : State :=
  let last := decide (s.shardSlots x.shard ≤ x.slot + 1)
  let y : SyncPass := if last then { x with shard := x.shard + 1, slot := 0 } else { x with slot := x.slot + 1 }
  let a := Reg.TWN_SYNC
  let s := s.setFld a Fld.TWN_SYNC_SLOTS_DONE (s.fld a Fld.TWN_SYNC_SLOTS_DONE + 1)
  (s.setFld a Fld.TWN_SYNC_SHARD (min 15 y.shard)).setPass (some y)

/-- A walked record of a mirrored class is queued as UPDATE, behind its delta. -/
def State.passRecord (s : State) (x : SyncPass) (g : Word64) (w : List Word64) : State :=
  if s.flag (Reg.TWN_SMASK1 (recMeta w mtClass)) Fld.TWN_SMASK1_MIRROR_EN then
    ((((s.sendDelta x.shard g).pushEntry x.shard (recLines 1 w s.clk.mono))).twnBump Cnt.TWN_SYNC_ENTRIES).passNext x
  else s.passNext x

/-- The record whose slot has been walked, as R373 takes it. -/
def State.passFound (s old : State) (x : SyncPass) (b : Word64) (p : Place) (w : List Word64) (e : Ecc) : State :=
  let h := x.shard
  let key := recKey w
  let g := s.hashKey key
  if (s.openEntry h g).isSome then old
  else
    match s.findWay h g key with
    | some k =>
      if (s.way h k).held.isSome then old
      else
        let r := s.readWay h k e
        if r.1 then r.2.passRecord x g (s.way h k).words else r.2.passNext x
    | none =>
      match (s.evicted h g key).bind (fun j => (s.shard h).evb[j]?) with
      | some v => s.passRecord x g v.words
      | none =>
        if !recLong w then s.passRecord x g w
        else
          let r := s.readSlot h b p 1 false e
          match r.1 with
          | none => r.2.passNext x
          | some t => r.2.passRecord x g (w ++ t)

/-- One slot of the walk. -/
def State.passSlot (s : State) (x : SyncPass) (e e2 : Ecc) : State :=
  let h := x.shard
  if !s.shardUp h then s.passNext x
  else
    let n := 16 * 2 ^ s.bucketBits h
    let p : Place := if x.slot < n then { stash := false, slot := x.slot % 16 } else { stash := true, slot := x.slot - n }
    let b : Word64 := BitVec.ofNat 64 (if x.slot < n then x.slot / 16 else 0)
    let r := s.readSlot h b p 0 false e
    match r.1 with
    | none => r.2.passNext x
    | some w => if !slotHead w then r.2.passNext x else r.2.passFound s x b p w e2

/-- Lines of region r that a pass walks. -/
def State.passLines (s : State) (r : Nat) : Nat :=
  if (s.fld Reg.TWN_AUX_MIRROR Fld.TWN_AUX_MIRROR_REGIONS).testBit r then s.fld (Reg.FAE_AUX_SIZE 0 r) Fld.FAE_AUX_SIZE_LINES else 0

/-- The next mirrored region and line of the walk, and the line's DRAM line. -/
def State.passLine (s : State) (x : SyncPass) : Option (Nat × Nat × Nat) :=
  let first (r : Nat) : Nat := if r = x.region then x.line else 0
  ((List.range 16).find? (fun r => decide (x.region ≤ r) && decide (first r < s.passLines r))).map (fun r =>
    (r, first r, (s.reg (Reg.FAE_AUX_BASE 0 r)).toNat / 64 + first r))

/-- The background read of the walk's next line may be made now (R258). -/
def State.passMay (s : State) (x : SyncPass) : Bool := match s.passLine x with | none => true | some y => s.bgLine y.2.2

/-- One line of a mirrored region, or the pass's end. -/
def State.passAux (s : State) (x : SyncPass) (e : Ecc) : State :=
  match s.passLine x with
  | none =>
    let s := s.setPass none
    if s.twnFld Fld.TWN_STATUS_SYNC = 1 then s.setSync 2 else s
  | some (r, l, a) =>
    let d := s.dramRead a false e
    let s := d.2.setPass (some { x with region := r, line := l + 1 })
    match d.1 with
    | none => s
    | some b => (s.pushEntry 0 (auxEntry r l b)).twnBump Cnt.TWN_SYNC_ENTRIES

/-- SYNC_PASS_STEP: one record slot, or one mirrored line, where its queue has room; `e`, `e2`: what the reads meet.  A pair out of
synchronisation starts a pass where AUTO_RESYNC is 1. -/
def syncPassStep (e e2 : Ecc) (s : State) : State :=
  if s.mirrors = false then s
  else
    match s.twin.pass with
    | none =>
      if s.twnFld Fld.TWN_STATUS_SYNC = 3 ∧ s.flag Reg.TWN_CFG Fld.TWN_CFG_AUTO_RESYNC = true then s.startPass else s
    | some x =>
      let q := Tbl.get [] s.twin.queues (if x.shard < 16 then x.shard else 0)
      if s.dmcReady = false ∨ 8190 < q.length then s
      else if x.shard < 16 then if s.exportMay x.shard x.slot then s.passSlot x e e2 else s
      else if s.passMay x then s.passAux x e
      else s

def execTwinHeartbeatSend (path : Fin 2) (s : State) : Out := done s (twinHeartbeatSend path.val s)
def execTwinHeartbeatReceive (path : Fin 2) (claim : BitVec 32) (role sync : Fin 4) (pair : TwinPair) (s : State) : Out :=
  done s (twinHeartbeatReceive path.val claim.toNat role.val sync.val pair s)
def execTwinPathTimeout (path : Fin 2) (s : State) : Out := done s (twinPathTimeout path.val s)
def execTwinFrameSend (s : State) : Out := done s (twinFrameSend s)
def execTwinRetransmit (s : State) : Out := done s (twinRetransmit s)
def execTwinFrameReceive (claim seq : BitVec 32) (entries : List (Fin 16 × List Byte)) (ok : Bool) (s : State) : Out :=
  done s (twinFrameReceive claim.toNat seq.toNat (entries.map (fun e => (e.1.val, e.2))) ok s)
def execTwinAcknowledgement (seq : BitVec 32) (s : State) : Out := done s (twinAcknowledgement seq.toNat s)
def execMirrorApply (h : Fin 16) (es : List Ecc) (s : State) : Out := done s (mirrorApply h.val es s)
def execDeltaBatch (h : Fin 16) (s : State) : Out := done s (deltaBatch h.val s)
def execPromote (s : State) : Out := done s (promote s)
def execResync (s : State) : Out := done s (resync s)
def execSyncPassStep (e e2 : Ecc) (s : State) : Out := done s (syncPassStep e e2 s)

end Sys2Proof.Machine
end

