-- ==== Sys2Proof/Machine/Access.lean ====
section
/-! DEFINITION. Accesses to BAR0 (R344, R458 to R463) and register writes of the control complexes (R408). -/

namespace Sys2Proof.Machine

/-! ### Command registers (R463) -/

/-- A write of a command register: BUSY discards it with ERR; else its other fields are stored (R7), OP reads 0 afterwards, and an
OP that `f` knows runs its command. -/
def State.cmdWrite (s : State) (a : Nat) (v : Word64) (op : Fld) (code : Option Fld) (f : Nat → Option (State → State)) : State :=
  if (s.reg a).get ⟨63, 1⟩ = 1 then
    let s := s.setFld a ⟨62, 1⟩ 1
    match code with
    | some c => s.setFld a c 1
    | none => s
  else
    let s := s.setReg a ((regHostWrite false a (s.reg a) v).put op 0)
    match f (v.get op) with
    | some g => g s
    | none => s

/-- Bit b of a written word runs `f`. -/
def State.onBit (s : State) (v : Word64) (b : Nat) (f : State → State) : State := if v.getLsbD b then f s else s

/-- The word as an ordinary write stores it. -/
def State.store (s : State) (early : Bool) (a : Nat) (v : Word64) : State := s.setReg a (regHostWrite early a (s.reg a) v)

def errAt32 : Option Fld := some ⟨32, 4⟩

def macCmdWrite (q : Nat) (v : Word64) (s : State) : State :=
  s.cmdWrite (Reg.SLC_MAC_CMD (4 * q)) v Fld.SLC_MAC_CMD_OP none (fun op =>
    let i := v.get Fld.SLC_MAC_CMD_INDEX
    match op with
    | 1 => some (macRead q i)
    | 2 => some (macWrite q i)
    | 3 => some (macSearch q)
    | 4 => some (macFlush q (v.get Fld.SLC_MAC_CMD_FILTER) (v.get Fld.SLC_MAC_CMD_FL_PORT) (v.get Fld.SLC_MAC_CMD_FL_BD))
    | _ => none)

def entCmdWrite (q : Nat) (v : Word64) (s : State) : State :=
  s.cmdWrite (Reg.TMB_ENT_CMD q) v Fld.TMB_ENT_CMD_OP errAt32 (fun op =>
    let t := v.get Fld.TMB_ENT_CMD_TABLE
    let i := v.get Fld.TMB_ENT_CMD_INDEX
    match op with
    | 1 => some (entRead q t i)
    | 2 => some (entInsert q t i)
    | 3 => some (entDelete q t i)
    | 4 => some (entRepair q t i)
    | _ => none)

def genCmdWrite (v : Word64) (s : State) : State :=
  s.cmdWrite (Reg.TMB_GEN_CMD 0) v Fld.TMB_GEN_CMD_OP errAt32 (fun op =>
    match op with
    | 1 => some openGen
    | 2 => some commitGen
    | 3 => some abortGen
    | _ => none)

def recCmdWrite (h : Nat) (v : Word64) (s : State) : State :=
  s.cmdWrite (recCmd h) v Fld.HNK_REC_CMD_OP (some Fld.HNK_REC_CMD_ERR_CODE) (fun op =>
    let c := v.get Fld.HNK_REC_CMD_CLASS
    match op with
    | 1 => some (recStart h .lookup c)
    | 2 => some (readLoc h (v.get Fld.HNK_REC_CMD_LOC) (v.get Fld.HNK_REC_CMD_STASH == 1) .ok)
    | 3 => some (recStart h .write c)
    | 4 => some (recStart h .delete c)
    | 5 => some (recStart h .flush c)
    | _ => none)

def dbgCmdWrite (h : Nat) (v : Word64) (s : State) : State :=
  s.cmdWrite (dbgCmd h) v Fld.FAE_DBG_CMD_OP none (fun op =>
    let t := 16 * v.get Fld.FAE_DBG_CMD_ENGINE + v.get Fld.FAE_DBG_CMD_THREAD
    match op with
    | 1 => some (halt h t)
    | 2 => some (resume h t)
    | 3 => some (step1 h t .ok)
    | 4 => some (debugAbort h t)
    | 5 => some (readCtx h t)
    | 6 => some (writeG h t (v.get Fld.FAE_DBG_CMD_GREG))
    | _ => none)

def gclCmdWrite (q : Nat) (v : Word64) (s : State) : State :=
  s.cmdWrite (Reg.TMG_GCL_CMD q) v Fld.TMG_GCL_CMD_OP errAt32 (fun op =>
    let p := 128 * q + v.get Fld.TMG_GCL_CMD_PORT
    let e := v.get Fld.TMG_GCL_CMD_ENTRY
    let b := v.get Fld.TMG_GCL_CMD_BANK
    match op with
    | 1 => some (gclRead p e b)
    | 2 => some (gclWrite p e b)
    | 3 => some (fun s => gclArm p (s.gclSelect p e b))
    | 4 => some (fun s => gclCancel p (s.gclSelect p e b))
    | 5 => some (fun s => (s.gclSelect p e b).gateDisable p)
    | _ => none)

def escCmdWrite (v : Word64) (s : State) : State :=
  s.cmdWrite Reg.FLT_ESC_CMD v Fld.FLT_ESC_CMD_OP errAt32 (fun op =>
    let u := v.get Fld.FLT_ESC_CMD_UNIT
    match op with
    | 1 => some (escReset u)
    | 2 => some (escReturn u true)
    | 3 => some (escKeep u)
    | 4 => some (escEscalate u)
    | _ => none)

def pdCmdWrite (v : Word64) (s : State) : State :=
  s.cmdWrite Reg.PMU_PD_CMD v Fld.PMU_PD_CMD_OP errAt32 (fun op =>
    let d := v.get Fld.PMU_PD_CMD_DOMAIN
    match op with
    | 1 => some (quiesce d)
    | 2 => some (pdOff d)
    | 3 => some (pdOn d)
    | _ => none)

/-- The command windows with a read and a write, or a single operation. -/
def twoOps (f g : Option (State → State)) (op : Nat) : Option (State → State) :=
  match op with
  | 1 => f
  | 2 => g
  | _ => none

/-! ### Control registers -/

/-- PRT.CTL: fields are stored, then a changed MODE, the ENABLE bits and the clears act (R39, R64). -/
def prtCtlWrite (early : Bool) (n : Nat) (v : Word64) (s : State) : State :=
  let a := Reg.PRT_CTL n
  let old := s.reg a
  let keep := (((regHostWrite early a old v).put Fld.PRT_CTL_ENABLE0 (old.get Fld.PRT_CTL_ENABLE0)).put Fld.PRT_CTL_ENABLE1
    (old.get Fld.PRT_CTL_ENABLE1)).put Fld.PRT_CTL_MODE (old.get Fld.PRT_CTL_MODE)
  let s := s.setReg a keep
  let m := v.get Fld.PRT_CTL_MODE
  let s := if m = old.get Fld.PRT_CTL_MODE then s else modeWrite n m s
  let s : State := forUpTo 2 (fun h s =>
    let was := old.getLsbD h
    if v.getLsbD h = was then s else if was then portDisable (2 * n + h) s else portEnable (2 * n + h) s) s
  (s.onBit v 32 (prtCntClr n 0)).onBit v 33 (prtCntClr n 1)

/-- TOD.CTL: the enables are stored, then CMD and ENTER_HOLD act (R54, R57). -/
def todCtlWrite (early : Bool) (v : Word64) (s : State) : State :=
  let s := s.ppsHold
  let s := (s.setReg Reg.TOD_CTL ((regHostWrite early Reg.TOD_CTL (s.reg Reg.TOD_CTL) v).put Fld.TOD_CTL_CMD 0)).ppsHold
  let s := match v.get Fld.TOD_CTL_CMD with
    | 1 => todCapture s
    | 2 => todStepSet s
    | 3 => todStepAdd s
    | 4 => todPpsLoad s
    | 5 => todSlew s
    | 6 => todReserved s
    | 7 => todCancel s
    | _ => s
  s.onBit v 10 State.enterHold

/-- A write inside slot i of LOP (R367, R372, R376, R383). -/
def lopRegWrite (early : Bool) (i off a : Nat) (v : Word64) (s : State) : State :=
  if off = 0 then
    let s := if v.getLsbD 8 then lopStart i (v.get Fld.LOP_CTL_OP) s else s.store early a v
    s.onBit v 9 (lopAbort i)
  else if off = 0x40 then lopInProdWrite i (v.get Fld.LOP_IN_PROD_PROD) (v.getLsbD 63) s
  else if off = 0x58 then lopOutConsWrite i (v.get Fld.LOP_OUT_CONS_CONS) s
  else if (off = 0x30 ∨ off = 0x38 ∨ off = 0x48 ∨ off = 0x50) ∧ s.lopActive i then s.setFld Reg.LOP_SUMMARY Fld.LOP_SUMMARY_ERR 1
  else s.store early a v

/-- HIF.CTL (R358, R382). -/
def hifCtlWrite (v : Word64) (s : State) : State :=
  let s := if v.getLsbD 0 then dmaEnWrite s else s.setFld Reg.HIF_CTL Fld.HIF_CTL_DMA_EN 0
  s.onBit v 16 hifCntClr

/-! ### Ordinary registers -/

/-- What a write of an ordinary register brings with it: a policer's buckets are brought up to date before its settings change
(R78), a shaper keeps its tokens when BURST changes and starts full when it is switched on (R319), an enabled ring starts empty (R362), an enabled sampler starts its count
(R310), a port's occupancy meets its thresholds (R46), HOLD_DEADLINES holds and frees the groups of halted threads (R171), and a write queue meets its thresholds (R261). -/
def State.beforeStore (s : State) (a : Nat) : State :=
  match blkOf a with
  | some (.slc, i) =>
    match elem2 (Reg.SLC_POL_RATE i 0) 0x40 256 8 3 a with
    | some (p, _) => if (Tbl.get none s.slice.meters (256 * i + p)).isSome then s.setMeter i p (s.meterNow i p) else s
    | none => s
  | some (.tmgSch, q) =>
    match elemOf (Reg.TMG_QSHAPE_BURST q 0) 0x40 656 a with
    | some u => if s.queueShaped q u then s.setTokens (queueBucket q u) (s.queueTokens q u) else s
    | none =>
      match elemOf (Reg.TMG_PSHAPE_BURST q 0) 0x40 128 a with
      | some lp =>
        let p := 128 * q + lp
        if s.portShaped p then s.setTokens (portBucket p) (s.portTokens p) else s
      | none => s
  | _ => s

def State.dropBucket (s : State) (k : Nat) : State := { s with tm := { s.tm with buckets := Tbl.set none s.tm.buckets k none } }

def State.afterStore (s old : State) (a : Nat) : State :=
  match blkOf a with
  | some (.prt, n) => (s.fcUpdate (2 * n)).fcUpdate (2 * n + 1)
  | some (.tmgSch, q) =>
    match elemOf (Reg.TMG_QSHAPE_RATE q 0) 0x40 656 a with
    | some u => if s.queueShaped q u = old.queueShaped q u then s else s.dropBucket (queueBucket q u)
    | none =>
      match elemOf (Reg.TMG_PSHAPE_RATE q 0) 0x40 128 a with
      | some lp => if s.portShaped (128 * q + lp) = old.portShaped (128 * q + lp) then s else s.dropBucket (portBucket (128 * q + lp))
      | none => s
  | some (.hif, _) =>
    match elemOf (Reg.HIF_RING_CFG 0) 0x20 80 a with
    | some r => if s.ringEn r then ringEnable r s else s
    | none => s
  | some (.buf, _) =>
    match elemOf (Reg.BUF_SAMP_CFG 0) 0x20 64 a with
    | some k => if s.flag (Reg.BUF_SAMP_CFG k) Fld.BUF_SAMP_CFG_EN then samplerEnable k s else s
    | none => s
  | some (.dmc, c) => (s.drainCheck c 0).drainCheck c 1
  | some (.fae, h) => if a = Reg.FAE_DBG h then s.holdUpdate h else s
  | _ => s

/-- Words 0 to 2 of a first-fault register have no W1C bit (R404), and POOL_CFG[1].COUNT is read-only (R288). -/
def writeMask (a : Nat) (old v : Word64) : Word64 :=
  match elemOf (Reg.FLT_FIRST 0 0) 8 16 a with
  | some k => if k % 4 = 3 then v else 0
  | none => if a = Reg.BPM_POOL_CFG 1 then v.put Fld.BPM_POOL_CFG_COUNT (old.get Fld.BPM_POOL_CFG_COUNT) else v

/-- Every field that a write could store is RWI. -/
def RegDef.imageOnly (r : RegDef) : Bool :=
  r.fields.any (fun f => f.acc == .rwi) && r.fields.all (fun f => f.acc == .rwi || f.acc == .ro || f.acc == .rc)

/-- A write of an ordinary register: without effect at a reserved offset (R8); discarded with CFG_ERR where cast-on has closed the
register (R7), where it would leave a value outside its range or break a rule over several registers. -/
def State.plainWrite (s : State) (early : Bool) (a : Nat) (v : Word64) : State :=
  match findReg a with
  | none => s
  | some r =>
    let new := regHostWrite early a (s.reg a) (writeMask a (s.reg a) v)
    let s1 := s.beforeStore a
    let t := s1.setReg a new
    if (early || !r.imageOnly) && valueOk a new && s.writeAllowed t a then t.afterStore s a else s.cfgErr a

/-! ### One 64-bit access -/

/-- Registers of the low blocks with an effect of their own. -/
def State.lowWrite (s : State) (early : Bool) (a : Nat) (v : Word64) : Option State :=
  if a = Reg.GLB_CTL then some (s.onBit v 0 shutdownCmd)
  else if a = Reg.CST_CTL then some (((s.onBit v 0 recastCmd).onBit v 1 confirm).onBit v 16 cstCntClr)
  else if a = Reg.CST_FUSE_CMD then
    some (s.cmdWrite a v Fld.CST_FUSE_CMD_OP none (twoOps (some (programKey none)) (some raiseSvn)))
  else if a = Reg.FLT_CTL then some (s.onBit v 16 fltCntClr)
  else if a = Reg.FLT_ESC_CMD then some (escCmdWrite v s)
  else if a = Reg.FLT_INJECT then
    some (if v.get Fld.FLT_INJECT_CLASS = 3 then s.cfgErr a else (s.store early a v).onBit v 63 inject)
  else if a = Reg.HIF_CTL then some (hifCtlWrite v s)
  else if a = Reg.PMU_CTL then some (s.onBit v 16 pmuCntClr)
  else if a = Reg.PMU_PD_CMD then some (pdCmdWrite v s)
  else if a = Reg.CCX_CTL then some (((s.store early a v).onBit v 0 switchOver).onBit v 16 ccxCntClr)
  else if a = Reg.TWN_CTL then
    some ((((s.store early a v).onBit v 1 promote).onBit v 2 resync).onBit v 16 twnCntClr)
  else if a = Reg.BPM_CTL then some (s.onBit v 16 bpmCntClr)
  else if a = Reg.BPM_META_CMD then
    some (s.cmdWrite a v Fld.BPM_META_CMD_OP none
      (twoOps (some (bpmMetaRead (v.get Fld.BPM_META_CMD_INDEX) (v.get Fld.BPM_META_CMD_POOL) .ok)) none))
  else if Reg.LOP_CTL 0 ≤ a ∧ a < Reg.LOP_SUMMARY then
    let o := a - Reg.LOP_CTL 0
    some (lopRegWrite early (o / 0x100) (o % 0x100) a v s)
  else none

/-- Registers of a DMC, a port, a slice and an array with an effect of their own. -/
def State.midWrite (s : State) (early : Bool) (a : Nat) (v : Word64) : Option State :=
  match blkOf a with
  | some (.dmc, c) =>
    if a = Reg.DMC_CTL c then some ((s.store early a v).onBit v 16 (dmcCntClr c))
    else if a = Reg.DMC_FREQ 0 then some ((s.store early a v).onBit v 16 (freqGo (v.get Fld.DMC_FREQ_TARGET)))
    else none
  | some (.prt, n) =>
    if a = Reg.PRT_CTL n then some (prtCtlWrite early n v s)
    else if a = Reg.PRT_TXTS_CTL n 0 then some (((s.store early a v).onBit v 0 (txtsPop (2 * n))).onBit v 1 (txtsFlush (2 * n)))
    else if a = Reg.PRT_TXTS_CTL n 1 then
      some (((s.store early a v).onBit v 0 (txtsPop (2 * n + 1))).onBit v 1 (txtsFlush (2 * n + 1)))
    else none
  | some (.slc, i) =>
    if a = Reg.SLC_CTL i then some (((s.store early a v).onBit v 16 (slcCntClr i)).onBit v 17 (macCntClr i))
    else if a = Reg.SLC_MAC_CMD i ∧ i % 4 = 0 then some (macCmdWrite (i / 4) v s)
    else none
  | some (.tmb, q) =>
    if a = Reg.TMB_CTL q then some ((s.store early a v).onBit v 16 (tmbCntClr q))
    else if a = Reg.TMB_ENT_CMD q then some (entCmdWrite q v s)
    else if a = Reg.TMB_GEN_CMD 0 then some (genCmdWrite v s)
    else none
  | some (.hnk, h) =>
    if a = Reg.HNK_CTL h then some (((s.store early a v).onBit v 8 (hnkFlush h)).onBit v 16 (hnkCntClr h))
    else if a = recCmd h then some (recCmdWrite h v s)
    else none
  | _ => none

/-- Registers of a shard's engines, a TM and the shared buffer with an effect of their own. -/
def State.highWrite (s : State) (early : Bool) (a : Nat) (v : Word64) : Option State :=
  match blkOf a with
  | some (.sch, h) =>
    if a = Reg.SCH_CTL h then some ((s.store early a v).onBit v 16 (schCntClr h))
    else if a = Reg.SCH_GRP_CMD h then
      some (s.cmdWrite a v Fld.SCH_GRP_CMD_OP none (twoOps (some (grpRead h (v.get Fld.SCH_GRP_CMD_GROUP))) none))
    else none
  | some (.fae, h) =>
    if a = Reg.FAE_CTL h then some (((s.store early a v).onBit v 16 (faeCntClr h)).onBit v 17 (pcntClr h))
    else if a = dbgCmd h then some (dbgCmdWrite h v s)
    else none
  | some (.wrd, h) =>
    if a = Reg.WRD_CTL h then some ((s.store early a v).onBit v 16 (wrdCntClr h))
    else if a = Reg.WRD_LOCK_CMD h then
      some (s.cmdWrite a v Fld.WRD_LOCK_CMD_OP none (twoOps (some (lockRead h (v.get Fld.WRD_LOCK_CMD_LOCK))) none))
    else if a = Reg.WRD_EV_ADD h then
      some (if v.getLsbD 63 then evAdd h (v.get Fld.WRD_EV_ADD_INDEX) (v.get Fld.WRD_EV_ADD_AMOUNT) s else s.store early a v)
    else none
  | some (.tmg, q) =>
    if a = Reg.TMG_CTL q then some ((s.store early a v).onBit v 16 (tmgCntClr q))
    else if a = Reg.TMG_QCMD q then
      some (s.cmdWrite a v Fld.TMG_QCMD_OP none (twoOps (some (queueFlush q (v.get Fld.TMG_QCMD_QUEUE) [])) none))
    else none
  | some (.tmgSch, q) =>
    if a = Reg.TMG_SCH_CTL q then some ((s.store early a v).onBit v 16 (schCtlCntClr q))
    else if a = Reg.TMG_GCL_CMD q then some (gclCmdWrite q v s)
    else if a = Reg.TMG_NH_CMD q then
      let i := v.get Fld.TMG_NH_CMD_INDEX
      some (s.cmdWrite a v Fld.TMG_NH_CMD_OP none (twoOps (some (nhRead q i)) (some (nhWrite q i))))
    else none
  | some (.buf, _) =>
    if a = Reg.BUF_CTL then some ((s.store early a v).onBit v 16 bufCntClr)
    else if a = Reg.BUF_MCG_CMD then
      let g := v.get Fld.BUF_MCG_CMD_GROUP
      let q := v.get Fld.BUF_MCG_CMD_QUAD
      some (s.cmdWrite a v Fld.BUF_MCG_CMD_OP none (twoOps (some (mcgRead g q)) (some (mcgWrite g q))))
    else none
  | _ => none

/-- RWI fields may still be written: cast-on has not completed (R7). -/
def State.early (s : State) : Bool := s.phase != 11 && s.phase != 12

/-- One 64-bit write reaches a register outside the time-of-day block. -/
def State.blockWrite (s : State) (e : Bool) (a : Nat) (v : Word64) : State :=
  match s.lowWrite e a v, s.midWrite e a v, s.highWrite e a v with
  | some t, _, _ => t
  | none, some t, _ => t
  | none, none, some t => t
  | none, none, none => s.plainWrite e a v

/-- One 64-bit write reaches the register at `a` (R458); only writes of TOD registers act on the clock. -/
def State.regWrite (s : State) (a : Nat) (v : Word64) : State :=
  if a = Reg.TOD_CTL then todCtlWrite s.early v s
  else if a = Reg.TOD_INCR then todIncrWrite v s
  else if a = Reg.TOD_HOLD_TIMEOUT then todHoldTimeoutWrite v s
  else { s.blockWrite s.early a v with clk := s.clk }

/-! ### The accesses -/

/-- A block that the host may write in every phase (R344). -/
def hostAlways (a : Nat) : Bool :=
  match blkOf a with
  | some (.glb, _) | some (.cst, _) | some (.flt, _) | some (.hif, _) | some (.lop, _) => true
  | _ => false

/-- One 64-bit write by the host (`host`) or a complex: turned away by R344 or R461, or applied. -/
def State.access (s : State) (host : Bool) (a : Nat) (v : Word64) : State :=
  if host && s.phase != 11 && !hostAlways a then s.bump (Reg.CST_CNT Cnt.CST_HOST_DISCARDS)
  else if !s.answers a then s.badLatch true a 8 2
  else s.regWrite a v

/-- A valid access (R458). -/
def accessOk (a len : Nat) (enables : Bool) : Bool :=
  enables && len % 8 == 0 && decide (8 ≤ len) && decide (len ≤ 64) && a % 8 == 0 && decide (a % 64 + len ≤ 64) && decide (a < 0x10000000)

/-- REGISTER_WRITE: words for consecutive registers, in ascending address order. -/
def registerWrite (a : Nat) (ws : List Word64) (s : State) : State :=
  if !accessOk a (8 * ws.length) true then s
  else forEach ws.zipIdx (fun x s => s.access true (a + 8 * x.2) x.1) s

/-- BAD_ACCESS: an access that is not valid; a read returns ones. -/
def badAccess (write : Bool) (a len : Nat) (enables : Bool) (s : State) : State :=
  if accessOk a len enables then s
  else
    let s := s.badLatch write a len 1
    if write then s else { s with readback := List.replicate ((len + 7) / 8) (BitVec.allOnes 64) }

/-- ACCESS_DOMAIN_NOT_ON: a valid access to registers whose domain is SWITCHING or OFF; a read returns 0.  A host write that R344
turns away is counted there (R460). -/
def accessDomainNotOn (write : Bool) (a len : Nat) (s : State) : State :=
  if !accessOk a len true ∨ s.answers a then s
  else if write && s.phase != 11 && !hostAlways a then s.bump (Reg.CST_CNT Cnt.CST_HOST_DISCARDS)
  else
    let s := s.badLatch write a len 2
    if write then s else { s with readback := List.replicate (len / 8) 0 }

/-- The Hasp stage of a complex's write. -/
def ccStage : CcWrite → Nat
  | .register _ _ => 0
  | .image _ _ => 1
  | .journal => 2
  | .host _ _ => 3

/-- COMPLEX_WRITE (R408): accepted under the higher claim, else counted and reported.  A journal write's entry is that of
JOURNAL_ENTRY_WRITE. -/
def complexWrite (x : Nat) (w : CcWrite) (s : State) : State :=
  if !s.haspAccepts x then s.haspReject (ccStage w) x
  else
    match w with
    | .register a v => if a % 8 = 0 ∧ a < 0x10000000 then s.access false a v else s
    | .image a bytes =>
      let l := bytes.take (s.cast.flashLen - a)
      { s with cast := { s.cast with flash := forEach l.zipIdx (fun y m => Tbl.set flashErased m (a + y.2) y.1) s.cast.flash } }
    | .journal => s
    | .host a bytes => if s.dmaEn ∧ !s.hostIsLost then s.hostWrite a bytes else s

def execRegisterWrite (a : Fin 268435456) (ws : List Word64) (s : State) : Out := doneClk s (registerWrite a.val ws s)
def execBadAccess (write : Bool) (a len : Nat) (enables : Bool) (s : State) : Out := done s (badAccess write a len enables s)
def execAccessDomainNotOn (write : Bool) (a : Fin 268435456) (len : Nat) (s : State) : Out :=
  done s (accessDomainNotOn write a.val len s)
def execComplexWrite (x : Fin 2) (w : CcWrite) (s : State) : Out := doneClk s (complexWrite x.val w s)

end Sys2Proof.Machine
end

