-- ==== Sys2Proof/Machine/Search.lean ====
section
/-! DEFINITION. The granting of Tumbler searches (R96, R97) and what they return to slices, threads and fallback units. -/

namespace Sys2Proof.Machine

/-- The requester that is granted next: the first after the last granted one with a search waiting (R96). -/
def State.nextSearcher (s : State) (q : Nat) : Option Nat :=
  ((List.range 8).map (fun i => (Tbl.get 7 s.tmb.lastReq q + 1 + i) % 8)).find? (fun r =>
    match Tbl.get [] s.tmb.searches (8 * q + r) with | [] => false | _ => true)

/-- A search's result reaches the head frame of a port. -/
def State.toSlice (s : State) (p : Nat) (r : SearchRes) : State :=
  match (s.port p).out with
  | [] => s
  | o :: _ =>
    match o.stage with
    | .waitRoute => s.setOut p { o with stage := .routed, route := r }
    | .waitAcl => s.setOut p { o with stage := .done, acl := r }
    | _ => s

/-- A search's result reaches thread t (R191); G6 and G7 keep what the microword's higher units wrote (R181). -/
def State.toThread (s : State) (h t : Nat) (r : SearchRes) : State :=
  let x := s.thread h t
  if !x.srchWait then s
  else
    let v : SrchStatus × Word64 × Word64 := match r with
      | .hit i w => (.hit, BitVec.ofNat 64 i, w)
      | .miss => (.miss, 0, 0)
      | .fenced => (.fenced, 0, 0)
    let g := if x.keep.testBit 6 then x.g else listSet x.g 6 v.2.1
    let g := if x.keep.testBit 7 then g else listSet g 7 v.2.2
    (s.setThread h t { x with srchWait := false, keep := 0, srch := v.1, g := g }).boundary h t

/-- A search's result reaches the item on which the fallback unit of a shard works (R167). -/
def State.toFallback (s : State) (h : Nat) (r : SearchRes) : State :=
  match ((s.shard h).groups.flatMap (fun g => g.2.entries)).find? (fun e =>
      match e.stage with | .waitRoute => true | .waitAcl => true | _ => false) with
  | none => s
  | some e =>
    match e.stage with
    | .waitRoute => s.modEntry h e.item (fun x => { x with stage := .routed, route := r })
    | _ => s.fbDecide h { e with acl := r }

/-- TUMBLER_SEARCH: the next granted search of a quadrant; `c`: what its checks meet. -/
def tumblerSearch (q : Nat) (c : TmbCheck) (s : State) : State :=
  match s.nextSearcher q with
  | none => s
  | some r =>
    let k := 8 * q + r
    match Tbl.get [] s.tmb.searches k with
    | [] => s
    | x :: rest =>
      let s := { s with tmb := { s.tmb with lastReq := Tbl.set 7 s.tmb.lastReq q r, searches := Tbl.set [] s.tmb.searches k rest } }
      let y := s.tmbSearch q x.table x.key x.gen c
      let h := 4 * q + (r - 4)
      match x.client with
      | .slice p => y.2.toSlice p y.1
      | .thread t => y.2.toThread h t y.1
      | .fallback => y.2.toFallback h y.1

def execTumblerSearch (q : Fin 4) (c : TmbCheck) (s : State) : Out := done s (tumblerSearch q.val c s)

end Sys2Proof.Machine
end

