-- ==== Sys2Proof/Machine/Dispatch.lean ====
section
/-! DEFINITION. One arm per command: which meaning it has. -/

namespace Sys2Proof.Machine

/-- The effect of a command on everything but the queue of waiting commands. -/
def exec (i : Instr) (s : State) : Host.Outcome State Fault Refusal :=
  match i with
  | .registerWrite a ws => Sys2Proof.Machine.execRegisterWrite a ws s
  | .badAccess write a len enables => Sys2Proof.Machine.execBadAccess write a len enables s
  | .accessDomainNotOn write a len => Sys2Proof.Machine.execAccessDomainNotOn write a len s
  | .complexWrite x w => Sys2Proof.Machine.execComplexWrite x w s
  | .rcHighWaterRead h => Sys2Proof.Machine.execRcHighWaterRead h s
  | .schHighRead h => Sys2Proof.Machine.execSchHighRead h s
  | .bufLowRead => Sys2Proof.Machine.execBufLowRead s
  | .tmgDescRead q => Sys2Proof.Machine.execTmgDescRead q s
  | .poolStatusRead p => Sys2Proof.Machine.execPoolStatusRead p s
  | .gaugeMaxRead q u => Sys2Proof.Machine.execGaugeMaxRead q u s
  | .pmuThermRead => Sys2Proof.Machine.execPmuThermRead s
  | .prtCntClr n h => Sys2Proof.Machine.execPrtCntClr n h s
  | .slcCntClr sl => Sys2Proof.Machine.execSlcCntClr sl s
  | .macCntClr q => Sys2Proof.Machine.execMacCntClr q s
  | .tmbCntClr q => Sys2Proof.Machine.execTmbCntClr q s
  | .hnkCntClr h => Sys2Proof.Machine.execHnkCntClr h s
  | .schCntClr h => Sys2Proof.Machine.execSchCntClr h s
  | .faeCntClr h => Sys2Proof.Machine.execFaeCntClr h s
  | .pcntClr h => Sys2Proof.Machine.execPcntClr h s
  | .wrdCntClr h => Sys2Proof.Machine.execWrdCntClr h s
  | .dmcCntClr c => Sys2Proof.Machine.execDmcCntClr c s
  | .bpmCntClr => Sys2Proof.Machine.execBpmCntClr s
  | .bufCntClr => Sys2Proof.Machine.execBufCntClr s
  | .tmgCntClr q => Sys2Proof.Machine.execTmgCntClr q s
  | .schCtlCntClr q => Sys2Proof.Machine.execSchCtlCntClr q s
  | .cstCntClr => Sys2Proof.Machine.execCstCntClr s
  | .hifCntClr => Sys2Proof.Machine.execHifCntClr s
  | .fltCntClr => Sys2Proof.Machine.execFltCntClr s
  | .ccxCntClr => Sys2Proof.Machine.execCcxCntClr s
  | .twnCntClr => Sys2Proof.Machine.execTwnCntClr s
  | .pmuCntClr => Sys2Proof.Machine.execPmuCntClr s
  | .modeWrite n m => Sys2Proof.Machine.execModeWrite n m s
  | .portDisable p => Sys2Proof.Machine.execPortDisable p s
  | .portEnable p => Sys2Proof.Machine.execPortEnable p s
  | .txtsPop p => Sys2Proof.Machine.execTxtsPop p s
  | .txtsFlush p => Sys2Proof.Machine.execTxtsFlush p s
  | .autoNegotiation n accepted => Sys2Proof.Machine.execAutoNegotiation n accepted s
  | .linkTraining n complete => Sys2Proof.Machine.execLinkTraining n complete s
  | .linkDown p remote => Sys2Proof.Machine.execLinkDown p remote s
  | .linkUp p => Sys2Proof.Machine.execLinkUp p s
  | .rxFrame p bytes last phy => Sys2Proof.Machine.execRxFrame p bytes last phy s
  | .flowControlFrameSend p => Sys2Proof.Machine.execFlowControlFrameSend p s
  | .pauseRefresh p => Sys2Proof.Machine.execPauseRefresh p s
  | .pauseStopStart p k => Sys2Proof.Machine.execPauseStopStart p k s
  | .pauseStopEnd p k => Sys2Proof.Machine.execPauseStopEnd p k s
  | .cellCheck p => Sys2Proof.Machine.execCellCheck p s
  | .cellCacheRefill k => Sys2Proof.Machine.execCellCacheRefill k s
  | .parseFrame p => Sys2Proof.Machine.execParseFrame p s
  | .frameEnd p => Sys2Proof.Machine.execFrameEnd p s
  | .workItemSend p => Sys2Proof.Machine.execWorkItemSend p s
  | .perpktForward p => Sys2Proof.Machine.execPerpktForward p s
  | .learnBusTransfer => Sys2Proof.Machine.execLearnBusTransfer s
  | .learnerApply q => Sys2Proof.Machine.execLearnerApply q s
  | .walkerVisit q => Sys2Proof.Machine.execWalkerVisit q s
  | .macRead q index => Sys2Proof.Machine.execMacRead q index s
  | .macWrite q index => Sys2Proof.Machine.execMacWrite q index s
  | .macSearch q => Sys2Proof.Machine.execMacSearch q s
  | .macFlush q filter port bd => Sys2Proof.Machine.execMacFlush q filter port bd s
  | .tumblerSearch q c => Sys2Proof.Machine.execTumblerSearch q c s
  | .tumblerScrubRow q e => Sys2Proof.Machine.execTumblerScrubRow q e s
  | .entRead q t k => Sys2Proof.Machine.execEntRead q t k s
  | .entInsert q t k => Sys2Proof.Machine.execEntInsert q t k s
  | .tmbMoveStep q => Sys2Proof.Machine.execTmbMoveStep q s
  | .tmbInsertWrite q => Sys2Proof.Machine.execTmbInsertWrite q s
  | .entDelete q t k => Sys2Proof.Machine.execEntDelete q t k s
  | .entRepair q t k => Sys2Proof.Machine.execEntRepair q t k s
  | .openGen => Sys2Proof.Machine.execOpenGen s
  | .openCopyDone => Sys2Proof.Machine.execOpenCopyDone s
  | .commitGen => Sys2Proof.Machine.execCommitGen s
  | .commitApply => Sys2Proof.Machine.execCommitApply s
  | .abortGen => Sys2Proof.Machine.execAbortGen s
  | .abortSweepDone => Sys2Proof.Machine.execAbortSweepDone s
  | .generationRetire k => Sys2Proof.Machine.execGenerationRetire k s
  | .generationRetireDone k => Sys2Proof.Machine.execGenerationRetireDone k s
  | .recReadLookup h es => Sys2Proof.Machine.execRecReadLookup h es s
  | .hankFetch h k es => Sys2Proof.Machine.execHankFetch h k es s
  | .fetchDeliver h k => Sys2Proof.Machine.execFetchDeliver h k s
  | .fillInstall h k => Sys2Proof.Machine.execFillInstall h k s
  | .evbWriteAccept h => Sys2Proof.Machine.execEvbWriteAccept h s
  | .holdEnd h k es => Sys2Proof.Machine.execHoldEnd h k es s
  | .sweepPassStart h => Sys2Proof.Machine.execSweepPassStart h s
  | .sweepHotVisit h e => Sys2Proof.Machine.execSweepHotVisit h e s
  | .sweepDramVisit h e e2 => Sys2Proof.Machine.execSweepDramVisit h e e2 s
  | .sweepPassEnd h => Sys2Proof.Machine.execSweepPassEnd h s
  | .sweepPeriodExpiry h => Sys2Proof.Machine.execSweepPeriodExpiry h s
  | .agingItemEnter h => Sys2Proof.Machine.execAgingItemEnter h s
  | .recLookup h cls => Sys2Proof.Machine.execRecLookup h cls s
  | .readLoc h loc stash e => Sys2Proof.Machine.execReadLoc h loc stash e s
  | .recWrite h cls => Sys2Proof.Machine.execRecWrite h cls s
  | .recDelete h cls => Sys2Proof.Machine.execRecDelete h cls s
  | .flushOne h cls => Sys2Proof.Machine.execFlushOne h cls s
  | .hnkFlush h => Sys2Proof.Machine.execHnkFlush h s
  | .sequencerTake h => Sys2Proof.Machine.execSequencerTake h s
  | .dispatch h e => Sys2Proof.Machine.execDispatch h e s
  | .itemExpiry h => Sys2Proof.Machine.execItemExpiry h s
  | .parkRetry h t => Sys2Proof.Machine.execParkRetry h t s
  | .resumeEnter h => Sys2Proof.Machine.execResumeEnter h s
  | .itemRelease h => Sys2Proof.Machine.execItemRelease h s
  | .fallbackRoute h => Sys2Proof.Machine.execFallbackRoute h s
  | .grpRead h g => Sys2Proof.Machine.execGrpRead h g s
  | .microwordIssue h t c => Sys2Proof.Machine.execMicrowordIssue h t c s
  | .recReadDone h t => Sys2Proof.Machine.execRecReadDone h t s
  | .auxAccessDone h t => Sys2Proof.Machine.execAuxAccessDone h t s
  | .lockGrant h l => Sys2Proof.Machine.execLockGrant h l s
  | .timerFire h t => Sys2Proof.Machine.execTimerFire h t s
  | .eventWake h t => Sys2Proof.Machine.execEventWake h t s
  | .deadlockBreak h e => Sys2Proof.Machine.execDeadlockBreak h e s
  | .halt h t => Sys2Proof.Machine.execHalt h t s
  | .resume h t => Sys2Proof.Machine.execResume h t s
  | .step h t c => Sys2Proof.Machine.execStep h t c s
  | .debugAbort h t => Sys2Proof.Machine.execDebugAbort h t s
  | .readCtx h t => Sys2Proof.Machine.execReadCtx h t s
  | .writeG h t g => Sys2Proof.Machine.execWriteG h t g s
  | .mcScrub h e => Sys2Proof.Machine.execMcScrub h e s
  | .lockRead h l => Sys2Proof.Machine.execLockRead h l s
  | .evAdd h m n => Sys2Proof.Machine.execEvAdd h m n s
  | .exporterReadEntry h e0 e1 e2 => Sys2Proof.Machine.execExporterReadEntry h e0 e1 e2 s
  | .skipped h => Sys2Proof.Machine.execSkipped h s
  | .ipfixMessageSend w0 w1 => Sys2Proof.Machine.execIpfixMessageSend w0 w1 s
  | .templateRefresh => Sys2Proof.Machine.execTemplateRefresh s
  | .exporterStatusWrite => Sys2Proof.Machine.execExporterStatusWrite s
  | .dmcRequestAccept c k => Sys2Proof.Machine.execDmcRequestAccept c k s
  | .dmcReadDone c k ix e => Sys2Proof.Machine.execDmcReadDone c k ix e s
  | .dmcWriteDone c k ix => Sys2Proof.Machine.execDmcWriteDone c k ix s
  | .rmw c k e => Sys2Proof.Machine.execRmw c k e s
  | .idleClose c k b => Sys2Proof.Machine.execIdleClose c k b s
  | .refresh c r => Sys2Proof.Machine.execRefresh c r s
  | .dimmAlert l crc failures => Sys2Proof.Machine.execDimmAlert l crc failures s
  | .scrubLine c k e => Sys2Proof.Machine.execScrubLine c k e s
  | .migrationCopyStep c k e => Sys2Proof.Machine.execMigrationCopyStep c k e s
  | .poisonFillStep c k => Sys2Proof.Machine.execPoisonFillStep c k s
  | .freqGo target => Sys2Proof.Machine.execFreqGo target s
  | .freqSelfRefresh => Sys2Proof.Machine.execFreqSelfRefresh s
  | .freqChangeDone => Sys2Proof.Machine.execFreqChangeDone s
  | .poolAllocate r p => Sys2Proof.Machine.execPoolAllocate r p s
  | .poolFree r p k => Sys2Proof.Machine.execPoolFree r p k s
  | .poolGive r p k w => Sys2Proof.Machine.execPoolGive r p k w s
  | .cacheRefill q p => Sys2Proof.Machine.execCacheRefill q p s
  | .cacheSpill q p => Sys2Proof.Machine.execCacheSpill q p s
  | .metaRead k p => Sys2Proof.Machine.execMetaRead k p s
  | .tmDescriptorTake q e ft => Sys2Proof.Machine.execTmDescriptorTake q e ft s
  | .samplerEnable k => Sys2Proof.Machine.execSamplerEnable k s
  | .wredAvgUpdate q => Sys2Proof.Machine.execWredAvgUpdate q s
  | .mcgRead g q => Sys2Proof.Machine.execMcgRead g q s
  | .mcgWrite g q => Sys2Proof.Machine.execMcgWrite g q s
  | .queueFlush q u => Sys2Proof.Machine.execQueueFlush q u s
  | .hostDelivery q w0 w1 e ft => Sys2Proof.Machine.execHostDelivery q w0 w1 e ft s
  | .hostPoolRetry q w0 w1 e ft => Sys2Proof.Machine.execHostPoolRetry q w0 w1 e ft s
  | .tmPick q => Sys2Proof.Machine.execTmPick q s
  | .shaperRefill q => Sys2Proof.Machine.execShaperRefill q s
  | .egressFrameStart p e => Sys2Proof.Machine.execEgressFrameStart p e s
  | .txCopyDone p ft => Sys2Proof.Machine.execTxCopyDone p ft s
  | .gateEntryChange p => Sys2Proof.Machine.execGateEntryChange p s
  | .gclTakeover p => Sys2Proof.Machine.execGclTakeover p s
  | .gclRead p entry bank => Sys2Proof.Machine.execGclRead p entry bank s
  | .gclWrite p entry bank => Sys2Proof.Machine.execGclWrite p entry bank s
  | .arm p => Sys2Proof.Machine.execArm p s
  | .cancel p => Sys2Proof.Machine.execCancel p s
  | .disable p => Sys2Proof.Machine.execDisable p s
  | .gaugeSweep q => Sys2Proof.Machine.execGaugeSweep q s
  | .nhRead q k => Sys2Proof.Machine.execNhRead q k s
  | .nhWrite q k => Sys2Proof.Machine.execNhWrite q k s
  | .capture => Sys2Proof.Machine.execCapture s
  | .stepSet => Sys2Proof.Machine.execStepSet s
  | .stepAdd => Sys2Proof.Machine.execStepAdd s
  | .ppsLoad => Sys2Proof.Machine.execPpsLoad s
  | .slew => Sys2Proof.Machine.execSlew s
  | .todCancel => Sys2Proof.Machine.execTodCancel s
  | .todReservedCmd => Sys2Proof.Machine.execTodReservedCmd s
  | .slewEnd => Sys2Proof.Machine.execSlewEnd s
  | .incrWrite v => Sys2Proof.Machine.execIncrWrite v s
  | .holdTimeoutWrite v => Sys2Proof.Machine.execHoldTimeoutWrite v s
  | .enterHold => Sys2Proof.Machine.execEnterHold s
  | .holdover => Sys2Proof.Machine.execHoldover s
  | .ppsInEdge high => Sys2Proof.Machine.execPpsInEdge high s
  | .ppsInLost => Sys2Proof.Machine.execPpsInLost s
  | .ppsOutPulse => Sys2Proof.Machine.execPpsOutPulse s
  | .ppsOutFall => Sys2Proof.Machine.execPpsOutFall s
  | .creditReturn k => Sys2Proof.Machine.execCreditReturn k s
  | .creditTimeout k held => Sys2Proof.Machine.execCreditTimeout k held s
  | .creditResync k => Sys2Proof.Machine.execCreditResync k s
  | .creditResyncAck k => Sys2Proof.Machine.execCreditResyncAck k s
  | .unitLogic u code => Sys2Proof.Machine.execUnitLogic u code s
  | .faultMessageRecord => Sys2Proof.Machine.execFaultMessageRecord s
  | .fatalStop => Sys2Proof.Machine.execFatalStop s
  | .pllUnlock which d => Sys2Proof.Machine.execPllUnlock which d s
  | .refclkLoss => Sys2Proof.Machine.execRefclkLoss s
  | .supplyFault r d us mv => Sys2Proof.Machine.execSupplyFault r d us mv s
  | .tempSample t => Sys2Proof.Machine.execTempSample t s
  | .escReset u => Sys2Proof.Machine.execEscReset u s
  | .unitResetDone u ok => Sys2Proof.Machine.execUnitResetDone u ok s
  | .escReturn u acked => Sys2Proof.Machine.execEscReturn u acked s
  | .keep u => Sys2Proof.Machine.execKeep u s
  | .escalate u => Sys2Proof.Machine.execEscalate u s
  | .escWindowExpiry u => Sys2Proof.Machine.execEscWindowExpiry u s
  | .repairTimeout u => Sys2Proof.Machine.execRepairTimeout u s
  | .autoRepair h => Sys2Proof.Machine.execAutoRepair h s
  | .inject => Sys2Proof.Machine.execInject s
  | .corrTokenRefill => Sys2Proof.Machine.execCorrTokenRefill s
  | .fatalClear => Sys2Proof.Machine.execFatalClear s
  | .phaseReset rail => Sys2Proof.Machine.execPhaseReset rail s
  | .phaseFuses => Sys2Proof.Machine.execPhaseFuses s
  | .phaseJournal fail => Sys2Proof.Machine.execPhaseJournal fail s
  | .phaseSelect => Sys2Proof.Machine.execPhaseSelect s
  | .phaseVerify readFail => Sys2Proof.Machine.execPhaseVerify readFail s
  | .phaseFirmware fail version => Sys2Proof.Machine.execPhaseFirmware fail version s
  | .phaseConfig => Sys2Proof.Machine.execPhaseConfig s
  | .phaseDram bad init => Sys2Proof.Machine.execPhaseDram bad init s
  | .phaseTables t bad => Sys2Proof.Machine.execPhaseTables t bad s
  | .phaseAdmit => Sys2Proof.Machine.execPhaseAdmit s
  | .phaseArm => Sys2Proof.Machine.execPhaseArm s
  | .phaseRun => Sys2Proof.Machine.execPhaseRun s
  | .phaseFactory => Sys2Proof.Machine.execPhaseFactory s
  | .phaseRetry => Sys2Proof.Machine.execPhaseRetry s
  | .recast => Sys2Proof.Machine.execRecast s
  | .confirm => Sys2Proof.Machine.execConfirm s
  | .trialTimeout => Sys2Proof.Machine.execTrialTimeout s
  | .programKey cut => Sys2Proof.Machine.execProgramKey cut s
  | .raiseSvn => Sys2Proof.Machine.execRaiseSvn s
  | .journalEntryWrite => Sys2Proof.Machine.execJournalEntryWrite s
  | .journalTokenRefill => Sys2Proof.Machine.execJournalTokenRefill s
  | .perstNAssert => Sys2Proof.Machine.execPerstNAssert s
  | .hotReset => Sys2Proof.Machine.execHotReset s
  | .flr => Sys2Proof.Machine.execFlr s
  | .pcieLinkDown => Sys2Proof.Machine.execPcieLinkDown s
  | .d3hotEntry => Sys2Proof.Machine.execD3hotEntry s
  | .busMasterClear => Sys2Proof.Machine.execBusMasterClear s
  | .dmaEnWrite => Sys2Proof.Machine.execDmaEnWrite s
  | .hostReadFail slot w1 => Sys2Proof.Machine.execHostReadFail slot w1 s
  | .apRead w off len es => Sys2Proof.Machine.execApRead w off len es s
  | .apWrite w off bytes es => Sys2Proof.Machine.execApWrite w off bytes es s
  | .ringEnable r => Sys2Proof.Machine.execRingEnable r s
  | .rxDoorbell k v wide => Sys2Proof.Machine.execRxDoorbell k v wide s
  | .txDoorbell j v wide => Sys2Proof.Machine.execTxDoorbell j v wide s
  | .txInject w1 w3 bytes => Sys2Proof.Machine.execTxInject w1 w3 bytes s
  | .txPoolRetry => Sys2Proof.Machine.execTxPoolRetry s
  | .msixSend r => Sys2Proof.Machine.execMsixSend r s
  | .lopStart k op => Sys2Proof.Machine.execLopStart k op s
  | .lopAbort k => Sys2Proof.Machine.execLopAbort k s
  | .lopInProdWrite k prod last => Sys2Proof.Machine.execLopInProdWrite k prod last s
  | .lopOutConsWrite k cons => Sys2Proof.Machine.execLopOutConsWrite k cons s
  | .statusMirrorWrite k => Sys2Proof.Machine.execStatusMirrorWrite k s
  | .flowExport k e e2 => Sys2Proof.Machine.execFlowExport k e e2 s
  | .flowImport k line es => Sys2Proof.Machine.execFlowImport k line es s
  | .tableDump k => Sys2Proof.Machine.execTableDump k s
  | .tumblerRebuild k => Sys2Proof.Machine.execTumblerRebuild k s
  | .dramScrub k es => Sys2Proof.Machine.execDramScrub k es s
  | .rankMigrate k => Sys2Proof.Machine.execRankMigrate k s
  | .imageWrite k bytes readFail => Sys2Proof.Machine.execImageWrite k bytes readFail s
  | .admitRequest k bytes => Sys2Proof.Machine.execAdmitRequest k bytes s
  | .ccHeartbeat x path => Sys2Proof.Machine.execCcHeartbeat x path s
  | .ccHeartbeatTimeout x => Sys2Proof.Machine.execCcHeartbeatTimeout x s
  | .takeover => Sys2Proof.Machine.execTakeover s
  | .switchOver => Sys2Proof.Machine.execSwitchOver s
  | .twinHeartbeatSend path => Sys2Proof.Machine.execTwinHeartbeatSend path s
  | .twinHeartbeatReceive path claim role sync pair => Sys2Proof.Machine.execTwinHeartbeatReceive path claim role sync pair s
  | .twinPathTimeout path => Sys2Proof.Machine.execTwinPathTimeout path s
  | .twinFrameSend => Sys2Proof.Machine.execTwinFrameSend s
  | .twinRetransmit => Sys2Proof.Machine.execTwinRetransmit s
  | .twinFrameReceive claim seq entries ok => Sys2Proof.Machine.execTwinFrameReceive claim seq entries ok s
  | .mirrorApply h es => Sys2Proof.Machine.execMirrorApply h es s
  | .deltaBatch h => Sys2Proof.Machine.execDeltaBatch h s
  | .promote => Sys2Proof.Machine.execPromote s
  | .resync => Sys2Proof.Machine.execResync s
  | .syncPassStep e e2 => Sys2Proof.Machine.execSyncPassStep e e2 s
  | .quiesce d => Sys2Proof.Machine.execQuiesce d s
  | .powerOff d => Sys2Proof.Machine.execPowerOff d s
  | .powerOn d => Sys2Proof.Machine.execPowerOn d s
  | .pdAonPowerUp => Sys2Proof.Machine.execPdAonPowerUp s
  | .sysResetNFall n => Sys2Proof.Machine.execSysResetNFall n s
  | .sysResetNRelease => Sys2Proof.Machine.execSysResetNRelease s
  | .trstNAssert => Sys2Proof.Machine.execTrstNAssert s
  | .shutdown => Sys2Proof.Machine.execShutdown s
  | .extest => Sys2Proof.Machine.execExtest s
  | .idcode => Sys2Proof.Machine.execIdcode s
  | .samplePreload pins load => Sys2Proof.Machine.execSamplePreload pins load s
  | .highz => Sys2Proof.Machine.execHighz s
  | .clamp => Sys2Proof.Machine.execClamp s
  | .extestPulse => Sys2Proof.Machine.execExtestPulse s
  | .extestTrain => Sys2Proof.Machine.execExtestTrain s
  | .bypass => Sys2Proof.Machine.execBypass s
  | .refreshRateNeed c r high => Sys2Proof.Machine.execRefreshRateNeed c r high s
  | .pdCmdComplete ok => Sys2Proof.Machine.execPdCmdComplete ok s
  | .autoRestart ok => Sys2Proof.Machine.execAutoRestart ok s
  | .dataLinkLayerUp speed width => Sys2Proof.Machine.execDataLinkLayerUp speed width s
  | .perstNRelease => Sys2Proof.Machine.execPerstNRelease s
  | .twinAcknowledgement seq => Sys2Proof.Machine.execTwinAcknowledgement seq s

end Sys2Proof.Machine
end

