-- ==== Sys2Proof/Machine/Step.lean ====
section
/-! DEFINITION. One step of the block: the command at the front of the queue, or a tick of CLK_TICK where none waits. -/

namespace Sys2Proof.Machine

/-- Step: the first waiting command acts on the state with the queue's rest; with none waiting, CLK_TICK ticks once (R52). -/
def step (s : State) : Host.Outcome State Fault Refusal :=
  match s.pending with
  | [] => .next (idleTick s)
  | c :: r => exec c { s with pending := r }

/-- The command that a table word spells put at the front of the queue; the table gives no bits, so no word spells one. -/
def State.withFetchWord (s : State) (nbits w : Nat) : State :=
  match decodeTableWord nbits w with
  | some c => { s with pending := c :: s.pending }
  | none => s

end Sys2Proof.Machine
end

