-- ==== Sys2Proof/Safety.lean ====
section
/-! DEFINITION. The terms that claims are stated in: the canonical form of a memory, the parts of the state and which of them
a command may change, and the invariants of the time-of-day unit. -/

namespace Sys2Proof.Machine

/-! ### Memories -/

/-- The canonical form of a memory of bytes whose unlisted addresses read as `d`. -/
def Memory.wf (d : Byte) (m : List Host.Cell) : Bool := Tbl.wf (fun _ => d) m

/-! ### What changes -/

/-- The parts of the state, one for each field but the queue of waiting commands. -/
inductive Part where
  | clk | regs | readback | free | links | fault | power | jtag | ports | slice | buf | tm | tmb | shards | dram
  | pools | twin | cast | hif | lop | exporter | ccx
  deriving DecidableEq, Repr

/-- A part of the state is the same in two states. -/
def Part.same (s t : State) : Part → Prop
  | .clk => t.clk = s.clk
  | .regs => t.regs = s.regs
  | .readback => t.readback = s.readback
  | .free => t.free = s.free
  | .links => t.links = s.links
  | .fault => t.fault = s.fault
  | .power => t.power = s.power
  | .jtag => t.jtag = s.jtag
  | .ports => t.ports = s.ports
  | .slice => t.slice = s.slice
  | .buf => t.buf = s.buf
  | .tm => t.tm = s.tm
  | .tmb => t.tmb = s.tmb
  | .shards => t.shards = s.shards
  | .dram => t.dram = s.dram
  | .pools => t.pools = s.pools
  | .twin => t.twin = s.twin
  | .cast => t.cast = s.cast
  | .hif => t.hif = s.hif
  | .lop => t.lop = s.lop
  | .exporter => t.exporter = s.exporter
  | .ccx => t.ccx = s.ccx

/-- Every part outside `l`, and the queue, is the same in `t` as in `s`. -/
def State.onlyParts (s t : State) (l : List Part) : Prop :=
  t.pending = s.pending ∧ ∀ p : Part, p ∉ l → p.same s t

/-- Every register outside `l` holds the same word in `t` as in `s`. -/
def State.onlyRegs (s t : State) (l : List Nat) : Prop :=
  ∀ a : Nat, a ∉ l → t.reg a = s.reg a

/-- Every logical port but `p` is the same in `t` as in `s`. -/
def State.onlyPort (s t : State) (p : Nat) : Prop :=
  ∀ q : Nat, q ≠ p → t.port q = s.port q

/-- Every shard but `h` is the same in `t` as in `s`. -/
def State.onlyShard (s t : State) (h : Nat) : Prop :=
  ∀ g : Nat, g ≠ h → t.shard g = s.shard g

/-! ### The time of day -/

/-- The time-of-day unit counts in range: 48-bit seconds, nanoseconds below 10^9, a 32-bit fraction, a 64-bit MONO, increments as
R52 bounds them. -/
def Clock.ok (c : Clock) : Bool :=
  decide (c.sec < 2 ^ 48) && decide (c.ns < 1000000000) && decide (c.frac < 2 ^ 32) && decide (c.mono < 2 ^ 64)
    && incInRange c.incNs c.incFrac && (!c.slewOn || incInRange c.slewNs c.slewFrac)

/-! ### Fault messages -/

/-- Every waiting fault message has a class of R386 and comes from a source of R384. -/
def State.msgsOk (s : State) : Prop :=
  ∀ e ∈ s.fault.queues, ∀ m ∈ e.2, m.cls < 3 ∧ ∀ u, unitOf m.src = some u → u < 315

/-! ### Result buffers -/

/-- For `n` lines of a long operation's output a buffer of pool 1 can be had (R280), or none is used, since the BPM does not answer
yet. -/
def State.bufferFor (s : State) (n : Nat) : Prop :=
  s.flag Reg.BPM_STATUS Fld.BPM_STATUS_READY = false
    ∨ s.fitPool (64 * n) = some 1
      ∧ ∃ x, (s.poolAlloc (21 + s.activeCc) 1).1 = .granted x ∧ x / 16777216 = 1 ∧ ptrIndex x < s.poolCount 1

/-! ### Statistics -/

/-- Words `w` to `w + k - 1` of each of `n` elements of `stride` bytes at `base`. -/
def counterWords (base stride n w k : Nat) : List Nat :=
  (List.range n).flatMap (fun i => (List.range k).map (fun j => base + stride * i + 8 * w + 8 * j))

/-- The registers `a`, `a + 8`, … to `a + 8 (n - 1)`. -/
def counterArray (a n : Nat) : List Nat := (List.range n).map (fun i => a + 8 * i)

/-- The statistics registers that a CNT_CLR command clears, from the register tables; none for other commands. -/
def clearedBy : Instr → List Nat
  | .prtCntClr n h => counterArray (Reg.PRT_CNT n.val h.val 0) 64
  | .slcCntClr i => counterArray (Reg.SLC_CNT i.val 0) 16 ++ counterWords (Reg.SLC_POL_CNT_G i.val 0) 0x40 256 0 3
  | .macCntClr q => counterArray (Reg.SLC_MAC_CNT (4 * q.val) 0) 16
  | .tmbCntClr q => counterArray (Reg.TMB_CNT q.val 0) 16
  | .hnkCntClr h => counterArray (Reg.HNK_CNT h.val 0) 32
  | .schCntClr h => counterArray (Reg.SCH_CNT h.val 0) 32
  | .faeCntClr h => counterArray (Reg.FAE_CNT h.val 0) 16
  | .pcntClr h => counterArray (Reg.FAE_PCNT h.val 0) 256
  | .wrdCntClr h => counterArray (Reg.WRD_CNT h.val 0) 16
  | .dmcCntClr c => counterArray (Reg.DMC_CNT c.val 0) 32
  | .bpmCntClr => counterArray (Reg.BPM_CNT 0) 32
  | .bufCntClr => counterArray (Reg.BUF_CNT 0) 16 ++ counterArray (Reg.BUF_ING_NO_CELL 0) 512 ++ counterWords (Reg.BUF_SAMP_OFFERED 0) 0x20 64 0 2
  | .tmgCntClr q => counterArray (Reg.TMG_CNT q.val 0) 16 ++ counterArray (Reg.TMG_PORT_CNT q.val 0 0) 512
      ++ counterWords (Reg.TMG_QCNT q.val 0 0) 0x80 656 0 12
  | .schCtlCntClr q => counterArray (Reg.TMG_SCH_CNT q.val 0) 16 ++ counterWords (Reg.TMG_GAUGE_SUM q.val 0) 0x40 656 0 1
  | .cstCntClr => counterArray (Reg.CST_CNT 0) 16
  | .hifCntClr => counterArray (Reg.HIF_CNT 0) 16 ++ counterWords (Reg.HIF_RING_CNT 0) 0x20 80 0 1
  | .fltCntClr => counterArray (Reg.FLT_CNT 0) 16
  | .ccxCntClr => counterArray (Reg.CCX_CNT 0) 16
  | .twnCntClr => counterArray (Reg.TWN_CNT 0) 16
  | .pmuCntClr => counterArray (Reg.PMU_CNT 0) 8
  | _ => []

end Sys2Proof.Machine
end

