-- ==== Sys2Proof/Certificates/Slice0/Obligations.lean ====
section
/-! DEFINITION. The statements for the provers.  In each, a command's answer is stated for every state and operands that meet the
hypotheses, with what it changes and what it leaves alone; `onlyRegs`, `onlyParts`, `onlyPort`, `onlyShard` say the frame. -/

open Sys2Proof Sys2Proof.Machine

/-- O1. A step runs the command at the front of the queue.  The queue is the model's own. (assumption log 1, 00_scope.md, About this manual)
-/
def Obligations.StepRunsTheFrontCommand : Prop :=
  ∀ (c : Instr) (r : List Instr) (s : State), s.pending = c :: r → step s = exec c { s with pending := r }

/-- O2. With no command waiting, a step is one clock tick.  That an idle step is a tick is the model's choice (assumption log 4).
(assumption log 4, R52, R53) -/
def Obligations.IdleStepIsATick : Prop :=
  ∀ s : State, s.pending = [] → ∃ t, step s = .next t ∧ t.clk = s.clk.tick ∧ t.pending = []
    ∧ (s.clk.running = true → t.clk.mono = (s.clk.mono + 1) % 2 ^ 64)
    ∧ (∀ k : Nat, ∃ m : Nat, t.link k = { s.link k with heldAt := m })
    ∧ s.onlyParts t [.clk, .regs, .links]

/-- O3. Every command answers a next state and leaves the queue as it was.  No meaning stops: a command whose conditions do not hold changes
nothing (assumption log 1). (assumption log 1, 00_scope.md, About this manual) -/
def Obligations.EveryCommandAnswersAndKeepsTheQueue : Prop :=
  ∀ (c : Instr) (s : State), ∃ t, exec c s = .next t ∧ t.pending = s.pending

/-- O4. MONO counts ticks since PD_AON was last reset and no command writes, steps or slews it. (R53) -/
def Obligations.TimeCountsTicks : Prop :=
  (∀ (c : Instr) (s t : State), c ≠ .pdAonPowerUp → exec c s = .next t → t.clk.mono = s.clk.mono)
  ∧ (∀ s : State, ∃ t, exec .pdAonPowerUp s = .next t ∧ t.clk.mono = 0)
  ∧ State.reset.clk.mono = 0
  ∧ (∀ s : State, s.pending = [] → s.clk.running = true → ∃ t, step s = .next t ∧ t.clk.mono = (s.clk.mono + 1) % 2 ^ 64)
  ∧ 730 * (365 * 86400) * 800000000 < 2 ^ 64

/-- O5. Every step keeps the time-of-day unit in range. (R52, R54, R55, R56) -/
def Obligations.StepKeepsTheClockInRange : Prop :=
  ∀ s t : State, s.clk.ok = true → step s = .next t → t.clk.ok = true

/-- O6. What the machine holds after reset. (R6, R52, R343, R354, R395, R436) -/
def Obligations.StateAfterReset : Prop :=
  (∀ a, a ≠ Reg.CST_JNL_TOKENS → State.reset.reg a = regDefault a) ∧ State.reset.jnlTokens = 4096 ∧ State.reset.phase = 0
  ∧ State.reset.pending = [] ∧ State.reset.clk.ok = true
  ∧ (State.reset.clk.incNs, State.reset.clk.incFrac) = (1, 0x40000000) ∧ State.reset.clk.slewOn = false
  ∧ (∀ u, State.reset.unitState u = 0 ∨ 315 ≤ u) ∧ (∀ p, State.reset.linkUp p = false ∨ 512 ≤ p)
  ∧ (∀ h t, State.reset.thread h t = Thread.init) ∧ (∀ q i, (State.reset.ent q i).valid = false)
  ∧ (∀ q i, (State.reset.mac q i).valid = false) ∧ (∀ h i, (State.reset.way h i).valid = false)
  ∧ Tbl.wf regDefault State.reset.regs = true ∧ Memory.wf 0#8 State.reset.dram.bytes = true
  ∧ Memory.wf 0#8 State.reset.hif.mem = true ∧ Memory.wf flashErased State.reset.cast.flash = true

/-- O7. CNT_CLR commands clear exactly their counters; reads of read-clear registers return and clear. (R7, R64, R458, 02_ports_and_time.md,
05_hank_store.md, 11_shared_buffer.md, 12_egress.md) -/
def Obligations.CounterReadsAndClears : Prop :=
  (∀ (c : Instr) (s : State), clearedBy c ≠ [] →
    ∃ t, exec c s = .next t ∧ (∀ a ∈ clearedBy c, t.reg a = 0) ∧ s.onlyRegs t (clearedBy c) ∧ s.onlyParts t [.regs])
  ∧ (∀ (s : State) (h : Fin 16), s.answers (Reg.HNK_ENTRY_STATUS h.val) = true →
    ∃ t, exec (.rcHighWaterRead h) s = .next t ∧ t.readback = [s.readReg (Reg.HNK_ENTRY_STATUS h.val)]
      ∧ t.fld (Reg.HNK_ENTRY_STATUS h.val) Fld.HNK_ENTRY_STATUS_HIGH_WATER = 0
      ∧ s.onlyRegs t [Reg.HNK_ENTRY_STATUS h.val] ∧ s.onlyParts t [.regs, .readback])
  ∧ (∀ (s : State) (h : Fin 16), s.answers (Reg.SCH_HIGH h.val) = true →
    ∃ t, exec (.schHighRead h) s = .next t ∧ t.readback = [s.readReg (Reg.SCH_HIGH h.val)]
      ∧ t.fld (Reg.SCH_HIGH h.val) Fld.SCH_HIGH_REORDER_HIGH = 0 ∧ t.fld (Reg.SCH_HIGH h.val) Fld.SCH_HIGH_READY_HIGH = 0
      ∧ s.onlyRegs t [Reg.SCH_HIGH h.val] ∧ s.onlyParts t [.regs, .readback])
  ∧ (∀ s : State, s.answers Reg.BUF_LOW = true →
    ∃ t, exec .bufLowRead s = .next t ∧ t.readback = [s.readReg Reg.BUF_LOW] ∧ t.buf.low = none ∧ s.onlyParts t [.buf, .readback])
  ∧ (∀ (s : State) (q : Fin 4), s.answers (Reg.TMG_DESC q.val) = true →
    ∃ t, exec (.tmgDescRead q) s = .next t ∧ t.readback = [s.readReg (Reg.TMG_DESC q.val)]
      ∧ t.fld (Reg.TMG_DESC q.val) Fld.TMG_DESC_HIGH = 0 ∧ s.onlyRegs t [Reg.TMG_DESC q.val] ∧ s.onlyParts t [.regs, .readback])
  ∧ (∀ (s : State) (p : Fin 4), s.answers (Reg.BPM_POOL_STATUS p.val) = true →
    ∃ t, exec (.poolStatusRead p) s = .next t ∧ t.readback = [s.readReg (Reg.BPM_POOL_STATUS p.val)]
      ∧ Tbl.get none t.pools.low p.val = some (s.poolFree p.val) ∧ s.onlyParts t [.pools, .readback])
  ∧ (∀ (s : State) (q : Fin 4) (u : Fin 656), s.answers (Reg.TMG_GAUGE_MAX q.val u.val) = true →
    ∃ t, exec (.gaugeMaxRead q u) s = .next t ∧ t.readback = [s.readReg (Reg.TMG_GAUGE_MAX q.val u.val)]
      ∧ t.fld (Reg.TMG_GAUGE_MAX q.val u.val) Fld.TMG_GAUGE_MAX_DEPTH_MAX = 0
      ∧ t.fld (Reg.TMG_GAUGE_MAX q.val u.val) Fld.TMG_GAUGE_MAX_SOJOURN_MAX = 0
      ∧ s.onlyRegs t [Reg.TMG_GAUGE_MAX q.val u.val] ∧ s.onlyParts t [.regs, .readback])
  ∧ (∀ s : State, s.answers Reg.PMU_THERM = true →
    ∃ t, exec .pmuThermRead s = .next t ∧ t.readback = [s.readReg Reg.PMU_THERM]
      ∧ t.fld Reg.PMU_THERM Fld.PMU_THERM_MAX_C = 0 ∧ s.onlyRegs t [Reg.PMU_THERM] ∧ s.onlyParts t [.regs, .readback])

/-- O8. The time-of-day commands: CAPTURE, STEP_SET, STEP_ADD, PPS_LOAD, SLEW, CANCEL, and what they reject. (R54, R56, R57) -/
def Obligations.TodCommands : Prop :=
  (∀ s : State, s.todDown = false → s.clk.ok = true →
    ∃ t, exec .capture s = .next t ∧ t.fld Reg.TOD_CAP_SEC Fld.TOD_CAP_SEC_SEC = s.clk.sec
      ∧ t.fld Reg.TOD_CAP_NS Fld.TOD_CAP_NS_NS = s.clk.ns ∧ t.fld Reg.TOD_CAP_NS Fld.TOD_CAP_NS_FRAC = s.clk.frac
      ∧ t.fld Reg.TOD_CAP_MONO Fld.TOD_CAP_MONO_MONO = s.clk.mono
      ∧ s.onlyRegs t [Reg.TOD_CAP_SEC, Reg.TOD_CAP_NS, Reg.TOD_CAP_MONO] ∧ s.onlyParts t [.regs])
  ∧ (∀ s : State, s.todDown = false → s.clk.busy = false → s.fld Reg.TOD_SET_NS Fld.TOD_SET_NS_NS < 1000000000 →
    ∃ t, exec .stepSet s = .next t
      ∧ t.clk = { s.clk with sec := s.fld Reg.TOD_SET_SEC Fld.TOD_SET_SEC_SEC, ns := s.fld Reg.TOD_SET_NS Fld.TOD_SET_NS_NS,
                             frac := s.fld Reg.TOD_SET_NS Fld.TOD_SET_NS_FRAC, lastSteer := s.clk.mono }
      ∧ t.flag Reg.TOD_STATUS Fld.TOD_STATUS_STEP_DONE = true ∧ s.onlyParts t [.clk, .regs, .tm])
  ∧ (∀ (s : State) (n : Nat), s.todDown = false → s.clk.busy = false →
    (s.clk.nanos : Int) + signed 48 (s.fld Reg.TOD_OFFSET Fld.TOD_OFFSET_OFFSET_NS) = (n : Int) → n < 2 ^ 48 * 1000000000 →
    ∃ t, exec .stepAdd s = .next t
      ∧ t.clk = { s.clk with sec := n / 1000000000, ns := n % 1000000000, lastSteer := s.clk.mono }
      ∧ t.flag Reg.TOD_STATUS Fld.TOD_STATUS_STEP_DONE = true ∧ s.onlyParts t [.clk, .regs, .tm])
  ∧ (∀ s : State, s.todDown = false → s.clk.busy = false → s.fld Reg.TOD_SET_NS Fld.TOD_SET_NS_NS < 1000000000 →
    exec .ppsLoad s = .next { s with clk := { s.clk with loadArmed := true, lastSteer := s.clk.mono } })
  ∧ (∀ s : State, s.todDown = false → s.clk.busy = false → s.clk.holdover = false →
    incInRange (s.fld Reg.TOD_SLEW_INC Fld.TOD_SLEW_INC_NS) (s.fld Reg.TOD_SLEW_INC Fld.TOD_SLEW_INC_FRAC) = true →
    0 < s.fld Reg.TOD_SLEW_CNT Fld.TOD_SLEW_CNT_TICKS →
    exec .slew s = .next { s with clk := { s.clk with
      slewOn := true, slewLeft := s.fld Reg.TOD_SLEW_CNT Fld.TOD_SLEW_CNT_TICKS, lastSteer := s.clk.mono
      slewNs := s.fld Reg.TOD_SLEW_INC Fld.TOD_SLEW_INC_NS, slewFrac := s.fld Reg.TOD_SLEW_INC Fld.TOD_SLEW_INC_FRAC } })
  ∧ (∀ s : State, s.todDown = false →
    exec .todCancel s = .next { s with clk := { s.clk with loadArmed := false, slewOn := false, slewLeft := 0 } })
  ∧ (∀ s : State, ∃ t, exec .todReservedCmd s = .next t ∧ t.flag Reg.TOD_STATUS Fld.TOD_STATUS_CMD_REJ = true
      ∧ s.onlyRegs t [Reg.TOD_STATUS] ∧ s.onlyParts t [.regs])
  ∧ (∀ (s : State) (c : Instr),
    (c ∈ [Instr.stepSet, .stepAdd, .ppsLoad, .slew] ∧ s.clk.busy = true
      ∨ c ∈ [Instr.stepSet, .ppsLoad] ∧ 1000000000 ≤ s.fld Reg.TOD_SET_NS Fld.TOD_SET_NS_NS
      ∨ c = .stepAdd ∧ (s.clk.nanos : Int) + signed 48 (s.fld Reg.TOD_OFFSET Fld.TOD_OFFSET_OFFSET_NS) < 0
      ∨ c = .slew ∧ (s.clk.holdover = true ∨ s.fld Reg.TOD_SLEW_CNT Fld.TOD_SLEW_CNT_TICKS = 0
          ∨ incInRange (s.fld Reg.TOD_SLEW_INC Fld.TOD_SLEW_INC_NS) (s.fld Reg.TOD_SLEW_INC Fld.TOD_SLEW_INC_FRAC) = false)) →
    ∃ t, exec c s = .next t ∧ t.flag Reg.TOD_STATUS Fld.TOD_STATUS_CMD_REJ = true
      ∧ s.onlyRegs t [Reg.TOD_STATUS] ∧ s.onlyParts t [.regs])

/-- O9. A write of INCR while a slew is active replaces the base increment, which applies when the slew has run out. (R55) -/
def Obligations.IncrWriteDuringSlew : Prop :=
  ∀ (s : State) (v : Word64), s.clk.slewOn = true → s.clk.running = true →
    incInRange (v.get Fld.TOD_INCR_INC_NS) (v.get Fld.TOD_INCR_INC_FRAC) = true →
    ∃ t, exec (.incrWrite v) s = .next t
      ∧ t.clk.incNs = v.get Fld.TOD_INCR_INC_NS ∧ t.clk.incFrac = v.get Fld.TOD_INCR_INC_FRAC
      ∧ (∀ n, n < s.clk.slewLeft → (forUpTo n (fun _ c => c.tick) t.clk).increment = (s.clk.slewNs, s.clk.slewFrac))
      ∧ (∀ n, s.clk.slewLeft ≤ n →
          (forUpTo n (fun _ c => c.tick) t.clk).increment = (v.get Fld.TOD_INCR_INC_NS, v.get Fld.TOD_INCR_INC_FRAC))

/-- O10. INCR writes, the end of a slew, HOLD_TIMEOUT and holdover; PPS_IN edges and their loss, PPS_OUT pulses. (R52, R54, R57, R62, R63)
-/
def Obligations.TodSteeringAndPps : Prop :=
  (∀ s : State, s.clk.slewOn = true → s.clk.slewLeft = 0 →
    exec .slewEnd s = .next { s with clk := { s.clk with slewOn := false } })
  ∧ (∀ (s : State) (v : Word64), incInRange (v.get Fld.TOD_INCR_INC_NS) (v.get Fld.TOD_INCR_INC_FRAC) = true →
    ∃ t, exec (.incrWrite v) s = .next t
      ∧ t.clk = { s.clk with incNs := v.get Fld.TOD_INCR_INC_NS, incFrac := v.get Fld.TOD_INCR_INC_FRAC, holdover := false
                             lastSteer := s.clk.mono }
      ∧ t.fld Reg.TOD_INCR Fld.TOD_INCR_INC_NS = v.get Fld.TOD_INCR_INC_NS
      ∧ t.fld Reg.TOD_INCR Fld.TOD_INCR_INC_FRAC = v.get Fld.TOD_INCR_INC_FRAC
      ∧ s.onlyRegs t [Reg.TOD_INCR] ∧ s.onlyParts t [.clk, .regs])
  ∧ (∀ (s : State) (v : Word64), incInRange (v.get Fld.TOD_INCR_INC_NS) (v.get Fld.TOD_INCR_INC_FRAC) = false →
    ∃ t, exec (.incrWrite v) s = .next t ∧ t.flag Reg.TOD_STATUS Fld.TOD_STATUS_INCR_ERR = true
      ∧ s.onlyRegs t [Reg.TOD_STATUS] ∧ s.onlyParts t [.regs])
  ∧ (∀ (s : State) (v : Word64),
    ∃ t, exec (.holdTimeoutWrite v) s = .next t
      ∧ t.fld Reg.TOD_HOLD_TIMEOUT Fld.TOD_HOLD_TIMEOUT_MS = v.get Fld.TOD_HOLD_TIMEOUT_MS
      ∧ (t.clk.holdover = true ↔ s.clk.holdover = true ∨ 0 < v.get Fld.TOD_HOLD_TIMEOUT_MS
          ∧ msTicks (v.get Fld.TOD_HOLD_TIMEOUT_MS) ≤ s.clk.mono - s.clk.lastSteer)
      ∧ t.clk.lastSteer = s.clk.lastSteer
      ∧ s.onlyRegs t [Reg.TOD_HOLD_TIMEOUT] ∧ s.onlyParts t [.clk, .regs])
  ∧ (∀ s : State, exec .enterHold s =
      .next { s with clk := { s.clk with holdover := true, slewOn := false, slewLeft := 0, loadArmed := false } })
  ∧ (∀ s : State, 0 < s.fld Reg.TOD_HOLD_TIMEOUT Fld.TOD_HOLD_TIMEOUT_MS →
      msTicks (s.fld Reg.TOD_HOLD_TIMEOUT Fld.TOD_HOLD_TIMEOUT_MS) ≤ s.clk.mono - s.clk.lastSteer →
    exec .holdover s = .next { s with clk := { s.clk with holdover := true, slewOn := false, slewLeft := 0, loadArmed := false } })
  ∧ (∀ (s : State) (high : Nat), s.flag Reg.TOD_CTL Fld.TOD_CTL_PPS_IN_EN = true → 100 ≤ high →
    (∀ m, s.clk.lastPps = some m → msTicks 500 ≤ s.clk.mono - m) → s.clk.loadArmed = false → s.clk.ok = true →
    ∃ t, exec (.ppsInEdge high) s = .next t
      ∧ t.clk = { s.clk with lastPps := some s.clk.mono, ppsLost := false }
      ∧ t.flag Reg.TOD_STATUS Fld.TOD_STATUS_PPS_IN_EVT = true
      ∧ t.fld Reg.TOD_PPS_CAP_SEC Fld.TOD_PPS_CAP_SEC_SEC = s.clk.sec ∧ t.fld Reg.TOD_PPS_CAP_NS Fld.TOD_PPS_CAP_NS_NS = s.clk.ns
      ∧ t.fld Reg.TOD_PPS_CAP_NS Fld.TOD_PPS_CAP_NS_FRAC = s.clk.frac
      ∧ t.fld Reg.TOD_PPS_CAP_MONO Fld.TOD_PPS_CAP_MONO_MONO = s.clk.mono
      ∧ s.onlyRegs t [Reg.TOD_STATUS, Reg.TOD_PPS_CAP_SEC, Reg.TOD_PPS_CAP_NS, Reg.TOD_PPS_CAP_MONO]
      ∧ s.onlyParts t [.clk, .regs])
  ∧ (∀ (s : State) (high : Nat), s.flag Reg.TOD_CTL Fld.TOD_CTL_PPS_IN_EN = true → 100 ≤ high →
    (∀ m, s.clk.lastPps = some m → msTicks 500 ≤ s.clk.mono - m) → s.clk.loadArmed = true →
    s.fld Reg.TOD_SET_NS Fld.TOD_SET_NS_NS < 1000000000 →
    ∃ t, exec (.ppsInEdge high) s = .next t
      ∧ t.clk = { s.clk with sec := s.fld Reg.TOD_SET_SEC Fld.TOD_SET_SEC_SEC, ns := s.fld Reg.TOD_SET_NS Fld.TOD_SET_NS_NS
                             frac := s.fld Reg.TOD_SET_NS Fld.TOD_SET_NS_FRAC, loadArmed := false
                             lastPps := some s.clk.mono, ppsLost := false }
      ∧ t.fld Reg.TOD_PPS_CAP_SEC Fld.TOD_PPS_CAP_SEC_SEC = s.fld Reg.TOD_SET_SEC Fld.TOD_SET_SEC_SEC
      ∧ t.flag Reg.TOD_STATUS Fld.TOD_STATUS_PPS_IN_EVT = true ∧ s.onlyParts t [.clk, .regs, .tm])
  ∧ (∀ s : State, s.flag Reg.TOD_CTL Fld.TOD_CTL_PPS_IN_EN = true → msTicks 1100 ≤ s.clk.mono - s.clk.lastPps.getD 0 →
    exec .ppsInLost s = .next { s with clk := { s.clk with ppsLost := true } })
  ∧ (∀ (s : State) (m : Nat), s.flag Reg.TOD_CTL Fld.TOD_CTL_PPS_OUT_EN = true → s.clk.carryAt = some m →
    (m : Int) + s.ppsShift ≤ s.clk.mono →
    exec .ppsOutPulse s = .next { s with clk := { s.clk with
      carryAt := none, ppsOut := true, ppsRise := s.clk.mono, ppsEarly := false } })
  ∧ (∀ s : State, s.flag Reg.TOD_CTL Fld.TOD_CTL_PPS_OUT_EN = true → s.clk.carryAt = none → s.clk.ppsEarly = false → s.ppsShift < 0 →
    (s.clk.ticksToCarry : Int) + s.ppsShift ≤ 0 →
    exec .ppsOutPulse s = .next { s with clk := { s.clk with ppsOut := true, ppsRise := s.clk.mono, ppsEarly := true } })
  ∧ (∀ s : State, s.clk.ppsOut = true →
    s.clk.ppsRise + usTicks (s.fld Reg.TOD_PPS_OUT Fld.TOD_PPS_OUT_WIDTH_US) ≤ s.clk.mono →
    exec .ppsOutFall s = .next { s with clk := { s.clk with ppsOut := false } })

/-- O11. MODE writes, port enable and disable, the time-stamp queue. (R37, R38, R39, R61, R64, R311) -/
def Obligations.PortControl : Prop :=
  (∀ (s : State) (n : Fin 256) (m : Fin 8), s.bothDisabled n.val = true →
    (m.val = 5 ∨ m.val = 6 → s.bothDisabled (pairOf n.val) = true) → s.shapersFit n.val m.val = true →
    ∃ t, exec (.modeWrite n m) s = .next t ∧ t.mode n.val = m.val
      ∧ (∀ h : Fin 2, (t.gate (2 * n.val + h.val)).active = none ∧ (t.gate (2 * n.val + h.val)).pending = none)
      ∧ (s.mode n.val ≠ m.val → ∀ h : Fin 2, t.credit (lnkIngress (2 * n.val + h.val)) = 0)
      ∧ (t.modeOk n.val = true → s.onlyParts t [.regs, .tm, .links])
      ∧ (t.modeOk n.val = false → t.flag (Reg.PRT_STATUS n.val) Fld.PRT_STATUS_MODE_ERR = true
          ∧ t.flag (Reg.PRT_STATUS (pairOf n.val)) Fld.PRT_STATUS_MODE_ERR = true
          ∧ ∀ h : Fin 2, t.linkUp (2 * n.val + h.val) = false ∧ t.linkUp (2 * pairOf n.val + h.val) = false)
      ∧ s.onlyParts t [.regs, .tm, .links, .ports, .buf])
  ∧ (∀ (s : State) (n : Fin 256) (m : Fin 8), s.bothDisabled n.val = false ∨ s.shapersFit n.val m.val = false →
    ∃ t, exec (.modeWrite n m) s = .next t ∧ t.flag (Reg.PRT_STATUS n.val) Fld.PRT_STATUS_CFG_ERR = true
      ∧ s.onlyRegs t [Reg.PRT_STATUS n.val] ∧ s.onlyParts t [.regs])
  ∧ (∀ (s : State) (p : Fin 512), ∃ t, exec (.portDisable p) s = .next t ∧ t.enableBit p.val = false ∧ t.portEnabled p.val = false
      ∧ s.onlyRegs t [Reg.PRT_CTL (p.val / 2)] ∧ s.onlyParts t [.regs])
  ∧ (∀ (s : State) (p : Fin 512), ∃ t, exec (.portEnable p) s = .next t ∧ t.enableBit p.val = true
      ∧ (t.port p.val).egr = (s.port p.val).egr ∧ (t.port p.val).fifo = (s.port p.val).fifo
      ∧ s.onlyRegs t [Reg.PRT_CTL (p.val / 2)] ∧ s.onlyPort t p.val ∧ s.onlyParts t [.regs, .ports])
  ∧ (∀ (s : State) (p : Fin 512),
    exec (.txtsPop p) s = .next (s.setPort p.val { s.port p.val with txts := (s.port p.val).txts.drop 1 }))
  ∧ (∀ (s : State) (p : Fin 512), exec (.txtsFlush p) s = .next (s.setPort p.val { s.port p.val with txts := [] }))

/-- O12. Auto-negotiation, link training, link up and link down. (R40, R42, R44, 02_ports_and_time.md) -/
def Obligations.LinksUpAndDown : Prop :=
  (∀ (s : State) (n : Fin 256) (accepted : Bool), s.flag (Reg.PRT_CTL n.val) Fld.PRT_CTL_AN_EN = true →
    ∃ t, exec (.autoNegotiation n accepted) s = .next t ∧ t.flag (Reg.PRT_STATUS n.val) Fld.PRT_STATUS_AN_DONE = accepted
      ∧ (accepted = false → t.flag (Reg.PRT_STATUS n.val) Fld.PRT_STATUS_AN_FAIL = true)
      ∧ s.onlyRegs t [Reg.PRT_STATUS n.val] ∧ s.onlyParts t [.regs])
  ∧ (∀ (s : State) (n : Fin 256) (complete : Bool), s.flag (Reg.PRT_CTL n.val) Fld.PRT_CTL_LT_EN = true →
    ∃ t, exec (.linkTraining n complete) s = .next t ∧ t.flag (Reg.PRT_STATUS n.val) Fld.PRT_STATUS_LT_DONE = complete
      ∧ s.onlyRegs t [Reg.PRT_STATUS n.val] ∧ s.onlyParts t [.regs])
  ∧ (∀ (s : State) (p : Fin 512) (remote : Bool), s.linkUp p.val = true →
    ∃ t, exec (.linkDown p remote) s = .next t ∧ t.linkUp p.val = false
      ∧ t.flag (Reg.PRT_STATUS (p.val / 2)) (fldLinkChg (p.val % 2)) = true
      ∧ t.reg (cntPort p.val Cnt.PRT_LINK_DOWN_EVENTS) = s.reg (cntPort p.val Cnt.PRT_LINK_DOWN_EVENTS) + 1
      ∧ (t.port p.val).rx = none ∧ (t.port p.val).egr = (s.port p.val).egr ∧ (t.port p.val).out = (s.port p.val).out
      ∧ t.flag (Reg.PRT_STATUS (p.val / 2)) (fldLfault (p.val % 2)) = !remote
      ∧ t.flag (Reg.PRT_STATUS (p.val / 2)) (fldRfault (p.val % 2)) = remote
      ∧ s.onlyPort t p.val ∧ s.onlyParts t [.regs, .ports, .links, .buf])
  ∧ (∀ (s : State) (p : Fin 512) (remote : Bool), s.linkUp p.val = false →
    ∃ t, exec (.linkDown p remote) s = .next t ∧ t.linkUp p.val = false
      ∧ t.flag (Reg.PRT_STATUS (p.val / 2)) (fldLfault (p.val % 2)) = !remote
      ∧ t.flag (Reg.PRT_STATUS (p.val / 2)) (fldRfault (p.val % 2)) = remote
      ∧ s.onlyRegs t [Reg.PRT_STATUS (p.val / 2)] ∧ s.onlyPort t p.val ∧ s.onlyParts t [.regs, .ports])
  ∧ (∀ (s : State) (p : Fin 512), s.linkUp p.val = false → 0 < s.rate p.val → s.modeOk (p.val / 2) = true →
    (s.flag (Reg.PRT_CTL (p.val / 2)) Fld.PRT_CTL_AN_EN = true → s.flag (Reg.PRT_STATUS (p.val / 2)) Fld.PRT_STATUS_AN_DONE = true) →
    ∃ t, exec (.linkUp p) s = .next t ∧ t.linkUp p.val = true
      ∧ t.flag (Reg.PRT_STATUS (p.val / 2)) (fldLinkChg (p.val % 2)) = true
      ∧ t.flag (Reg.PRT_STATUS (p.val / 2)) (fldLfault (p.val % 2)) = false
      ∧ t.flag (Reg.PRT_STATUS (p.val / 2)) (fldRfault (p.val % 2)) = false
      ∧ s.onlyRegs t [Reg.PRT_STATUS (p.val / 2)] ∧ s.onlyPort t p.val ∧ s.onlyParts t [.regs, .ports])

/-- O13. Bytes of a frame enter the port's FIFO; its end is judged. (R12, R43, R45, R51, 02_ports_and_time.md) -/
def Obligations.FrameReception : Prop :=
  (∀ (s : State) (p : Fin 512) (bytes : List Byte) (delay : Nat), s.looped p.val = false → s.rxAccepts p.val = true →
    (s.port p.val).rx = none → entriesNeeded bytes ≤ s.credit (lnkIngress p.val) →
    ∃ t f, exec (.rxFrame p bytes false ⟨delay, 0, 0, 0, false⟩) s = .next t
      ∧ (t.port p.val).fifo = (s.port p.val).fifo ++ [f] ∧ f.bytes = bytes ∧ f.ended = false ∧ f.cls = s.ingressClass p.val bytes ∧ f.stamp.mono = s.clk.mono
      ∧ f.entries = entriesNeeded bytes ∧ (t.port p.val).rx = some ⟨bytes, false, false, true⟩
      ∧ (t.link (lnkIngress p.val)).credit = (s.link (lnkIngress p.val)).credit - entriesNeeded bytes
      ∧ s.onlyPort t p.val ∧ s.onlyParts t [.ports, .links])
  ∧ (∀ (s : State) (p : Fin 512) (r : RxNow) (l : List IngFrame) (f : IngFrame), s.looped p.val = false →
    (s.port p.val).rx = some r → r.fifoFull = false → r.phyErr = false → (s.port p.val).fifo = l ++ [f] → f.cells = none →
    f.refused = false → isMacControl r.bytes = false →
    64 ≤ r.bytes.length → r.bytes.length ≤ s.fld (Reg.PRT_MTU (p.val / 2) (p.val % 2)) Fld.PRT_MTU_MAX_FRAME →
    fcsOk r.bytes = true →
    ∃ t g, exec (.rxFrame p [] true ⟨0, 0, 0, 0, false⟩) s = .next t
      ∧ (t.port p.val).fifo = l ++ [g] ∧ g.bytes = r.bytes ∧ g.ended = true ∧ g.stamp = f.stamp ∧ (t.port p.val).rx = none
      ∧ t.reg (cntPort p.val Cnt.PRT_RX_FRAMES_OK) = s.reg (cntPort p.val Cnt.PRT_RX_FRAMES_OK) + 1
      ∧ t.reg (cntPort p.val Cnt.PRT_RX_OCTETS_OK)
          = s.reg (cntPort p.val Cnt.PRT_RX_OCTETS_OK) + BitVec.ofNat 64 r.bytes.length
      ∧ s.onlyPort t p.val ∧ s.onlyParts t [.regs, .ports, .links])
  ∧ (∀ (s : State) (p : Fin 512) (r : RxNow) (l : List IngFrame) (f : IngFrame) (c : Nat), s.looped p.val = false →
    (s.port p.val).rx = some r → r.fifoFull = false → (s.port p.val).fifo = l ++ [f] → f.cells = none →
    f.refused = false → s.rxError p.val r = some c →
    ∃ t, exec (.rxFrame p [] true ⟨0, 0, 0, 0, false⟩) s = .next t
      ∧ (t.port p.val).fifo = l ∧ (t.port p.val).rx = none
      ∧ t.reg (cntPort p.val c) = s.reg (cntPort p.val c) + 1
      ∧ s.onlyRegs t [cntPort p.val c] ∧ s.onlyPort t p.val ∧ s.onlyParts t [.regs, .ports, .links])

/-- O14. Sending PAUSE frames, refreshing them, and obeying received ones. (R46, R47, R48) -/
def Obligations.FlowControl : Prop :=
  (∀ (s : State) (p : Fin 512) (f : FcFrame) (r : List FcFrame), s.looped p.val = false →
    (s.port p.val).fcPend = f :: r → f.pfc = false →
    (s.port p.val).tx = none → s.portEnabled p.val = true → s.linkUp p.val = true →
    ∃ t, exec (.flowControlFrameSend p) s = .next t ∧ (t.port p.val).fcPend = r
      ∧ (t.port p.val).wire = s.fcBytes p.val f ∧ (t.port p.val).fcLast = s.clk.mono
      ∧ t.reg (cntPort p.val Cnt.PRT_TX_PAUSE) = s.reg (cntPort p.val Cnt.PRT_TX_PAUSE) + 1
      ∧ s.onlyRegs t [cntPort p.val Cnt.PRT_TX_PAUSE] ∧ s.onlyPort t p.val ∧ s.onlyParts t [.regs, .ports])
  ∧ (∀ (s : State) (p : Fin 512),
    s.fld (Reg.PRT_FC_CTL (p.val / 2) (p.val % 2)) Fld.PRT_FC_CTL_POLICY = 1 → (s.port p.val).xoff = true →
    (s.port p.val).fcPend = [] →
    bitTicks (512 * s.fld (Reg.PRT_PAUSE_CFG (p.val / 2) (p.val % 2)) Fld.PRT_PAUSE_CFG_REFRESH) (s.rate p.val)
      ≤ s.clk.mono - (s.port p.val).fcLast →
    exec (.pauseRefresh p) s = .next (s.setPort p.val { s.port p.val with fcPend := [⟨false, 1, 1⟩] }))
  ∧ (∀ (s : State) (p : Fin 512) (i : Fin 9) (q m : Nat) (r : List (Nat × Nat)),
    (Tbl.get Stop.init (s.port p.val).stops i.val).next = (q, m) :: r → m ≤ s.clk.mono →
    (Tbl.get Stop.init (s.port p.val).stops i.val).on = true ∨ (s.port p.val).tx = none →
    exec (.pauseStopStart p i) s = .next (s.setPort p.val { s.port p.val with
      stops := Tbl.set Stop.init (s.port p.val).stops i.val ⟨true, s.clk.mono + bitTicks (512 * q) (s.rate p.val), r⟩ }))
  ∧ (∀ (s : State) (p : Fin 512) (i : Fin 9) (u : Nat),
    Tbl.get Stop.init (s.port p.val).stops i.val = ⟨true, u, []⟩ → u ≤ s.clk.mono →
    exec (.pauseStopEnd p i) s = .next (s.setPort p.val { s.port p.val with
      stops := Tbl.set Stop.init (s.port p.val).stops i.val Stop.init }))

/-- O15. Taking cells for an arriving frame, refusing it below ING_GUARD, refilling a slice's cell cache. (R289, R290, R291, R292) -/
def Obligations.CellsOfArrivingFrames : Prop :=
  (∀ (s : State) (p : Fin 512) (l : List IngFrame) (f : IngFrame) (r : List IngFrame),
    splitUnchecked (s.port p.val).fifo = (l, f :: r) → f.bytes ≠ [] → isMacControl f.bytes = false → (s.port p.val).beyond < 6 →
    s.fld Reg.BUF_CFG Fld.BUF_CFG_ING_GUARD ≤ s.cellFree →
    ∃ t cs, exec (.cellCheck p) s = .next t ∧ (t.port p.val).fifo = l ++ { f with cells := some cs, entries := 0 } :: r
      ∧ cs.length = min 36 ((f.bytes.length + 255) / 256)
      ∧ t.reg (Reg.BUF_CNT Cnt.BUF_CELLS_ALLOCATED) = s.reg (Reg.BUF_CNT Cnt.BUF_CELLS_ALLOCATED) + BitVec.ofNat 64 cs.length
      ∧ (t.link (lnkIngress p.val)).owed = (s.link (lnkIngress p.val)).owed + f.entries
      ∧ s.onlyRegs t [Reg.BUF_CNT Cnt.BUF_CELLS_ALLOCATED] ∧ s.onlyPort t p.val ∧ s.onlyParts t [.regs, .ports, .links, .buf])
  ∧ (∀ (s : State) (p : Fin 512) (l : List IngFrame) (f : IngFrame) (r : List IngFrame),
    splitUnchecked (s.port p.val).fifo = (l, f :: r) → f.bytes ≠ [] → isMacControl f.bytes = false → (s.port p.val).beyond < 6 →
    s.cellFree < s.fld Reg.BUF_CFG Fld.BUF_CFG_ING_GUARD →
    ∃ t, exec (.cellCheck p) s = .next t
      ∧ (t.port p.val).fifo = l ++ (if f.ended = true then r else { f with refused := true, entries := 0 } :: r)
      ∧ t.reg (Reg.BUF_ING_NO_CELL p.val) = s.reg (Reg.BUF_ING_NO_CELL p.val) + 1
      ∧ t.reg (Reg.BUF_CNT Cnt.BUF_ING_NO_CELL) = s.reg (Reg.BUF_CNT Cnt.BUF_ING_NO_CELL) + 1
      ∧ t.flag Reg.BUF_STATUS Fld.BUF_STATUS_ING_NO_CELL_SEEN = true
      ∧ (t.link (lnkIngress p.val)).owed = (s.link (lnkIngress p.val)).owed + f.entries
      ∧ s.onlyRegs t [Reg.BUF_ING_NO_CELL p.val, Reg.BUF_CNT Cnt.BUF_ING_NO_CELL, Reg.BUF_STATUS]
      ∧ s.onlyPort t p.val ∧ s.onlyParts t [.regs, .ports, .links])
  ∧ (∀ (s : State) (p : Fin 512), 6 ≤ (s.port p.val).beyond → exec (.cellCheck p) s = .next s)
  ∧ (∀ (s : State) (i : Fin 16), Tbl.wf (fun _ => CellUse.free) s.buf.use = true →
    ∃ t, exec (.cellCacheRefill i) s = .next t
      ∧ t.cellCount (· == .cached i.val) = s.cellCount (· == .cached i.val) + min (64 - s.cellCount (· == .cached i.val))
          (s.cellFree - s.cellCount (fun u => match u with | .cached _ => true | _ => false))
      ∧ (∀ c : Nat, Tbl.get CellUse.free t.buf.use c = Tbl.get CellUse.free s.buf.use c
          ∨ Tbl.get CellUse.free s.buf.use c = .free ∧ Tbl.get CellUse.free t.buf.use c = .cached i.val)
      ∧ t.cellFree = s.cellFree ∧ s.onlyParts t [.buf])

/-- O16. A slice parses a frame, completes it, sends its work item or its per-packet search. (R14, R66, R70, R75, R78, R80, R81, R89, R148)
-/
def Obligations.SliceFrames : Prop :=
  (∀ (s : State) (p : Fin 512) (l : List IngFrame) (f : IngFrame) (r : List IngFrame), (s.port p.val).fifo = l ++ f :: r →
    (∀ g ∈ l, g.refused = true ∨ g.parsed ≠ none) → f.refused = false → f.parsed = none → f.cells ≠ none →
    f.ended = true ∨ 192 ≤ f.bytes.length →
    exec (.parseFrame p) s = .next (s.setPort p.val { s.port p.val with
      fifo := l ++ { f with parsed := some (s.parse p.val f.bytes (s.fld (Reg.SLC_GEN (sliceOf p.val)) Fld.SLC_GEN_CUR) f.cls) } :: r }))
  ∧ (∀ (s : State) (p : Fin 512) (f : IngFrame) (r : List IngFrame) (y : Parsed) (cells : List Nat), (s.port p.val).fifo = f :: r →
    f.parsed = some y → f.cells = some cells → f.ended = true → s.down (unitSlice (sliceOf p.val)) = false →
    (∀ pol < 256, s.flag (Reg.SLC_POL_CTL (sliceOf p.val) pol) Fld.SLC_POL_CTL_RED_DROP = false) →
    ∃ t o, exec (.frameEnd p) s = .next t ∧ (t.port p.val).fifo = r ∧ (t.port p.val).out = (s.port p.val).out ++ [o]
      ∧ o.stamp = f.stamp ∧ o.cellHead = cells.headD 0 ∧ o.cellCnt = cells.length ∧ o.parsed.gen = y.gen ∧ o.stage = .start
      ∧ s.onlyPort t p.val ∧ s.onlyParts t [.regs, .ports, .slice])
  ∧ (∀ (s : State) (p : Fin 512) (o : OutFrame) (r : List OutFrame), (s.port p.val).out = o :: r → o.flow = true →
    s.down (unitSlice (sliceOf p.val)) = false → s.shardFenced (o.h.toNat / 2 ^ 60) = false →
    0 < s.credit (lnkDispatch (sliceOf p.val) (o.h.toNat / 2 ^ 60)) →
    ∃ t, exec (.workItemSend p) s = .next t ∧ (t.port p.val).out = r
      ∧ Tbl.get [] (t.shard (o.h.toNat / 2 ^ 60)).inputs (sliceOf p.val)
          = Tbl.get [] (s.shard (o.h.toNat / 2 ^ 60)).inputs (sliceOf p.val) ++ [s.itemOf (sliceOf p.val) o]
      ∧ t.credit (lnkDispatch (sliceOf p.val) (o.h.toNat / 2 ^ 60)) + 1 = s.credit (lnkDispatch (sliceOf p.val) (o.h.toNat / 2 ^ 60))
      ∧ t.reg (Reg.SLC_CNT (sliceOf p.val) Cnt.SLC_FLOW_ITEMS) = s.reg (Reg.SLC_CNT (sliceOf p.val) Cnt.SLC_FLOW_ITEMS) + 1
      ∧ s.onlyPort t p.val ∧ s.onlyParts t [.regs, .ports, .links, .shards])
  ∧ (∀ (s : State) (p : Fin 512) (o : OutFrame) (r : List OutFrame) (tt : Nat) (key : BitVec 320), (s.port p.val).out = o :: r →
    o.flow = false → o.fallback = false → o.stage = .start → s.down (unitSlice (sliceOf p.val)) = false →
    sumGet o.parsed.summary sumMalformed = 0 → o.parsed.key ≠ [] → s.toRouter (sliceOf p.val) o.parsed.hv = true →
    routeKey o.parsed.hv o.parsed.summary = some (tt, key) →
    ∃ t, exec (.perpktForward p) s = .next t ∧ (t.port p.val).out = { o with stage := .waitRoute } :: r
      ∧ Tbl.get [] t.tmb.searches (8 * quadOf p.val + sliceOf p.val % 4)
          = Tbl.get [] s.tmb.searches (8 * quadOf p.val + sliceOf p.val % 4) ++ [⟨tt, key, o.parsed.gen, .slice p.val⟩]
      ∧ t.reg (Reg.SLC_CNT (sliceOf p.val) Cnt.SLC_ROUTED) = s.reg (Reg.SLC_CNT (sliceOf p.val) Cnt.SLC_ROUTED) + 1
      ∧ s.onlyRegs t [Reg.SLC_CNT (sliceOf p.val) Cnt.SLC_ROUTED] ∧ s.onlyPort t p.val ∧ s.onlyParts t [.regs, .ports, .tmb])
  ∧ (∀ (s : State) (p : Fin 512) (o : OutFrame) (r : List OutFrame), (s.port p.val).out = o :: r → o.flow = false →
    o.fallback = false → o.stage = .start → s.down (unitSlice (sliceOf p.val)) = false → sumGet o.parsed.summary sumMalformed = 0 →
    s.toRouter (sliceOf p.val) o.parsed.hv = false → s.perpktCredit p.val o (s.bridge p.val o).1 0 = true →
    ∃ t, exec (.perpktForward p) s = .next t ∧ (t.port p.val).out = r
      ∧ t.reg (Reg.SLC_CNT (sliceOf p.val) Cnt.SLC_BRIDGED) = s.reg (Reg.SLC_CNT (sliceOf p.val) Cnt.SLC_BRIDGED) + 1
      ∧ t.reg (Reg.SLC_CNT (sliceOf p.val) Cnt.SLC_PERPKT_FRAMES) = s.reg (Reg.SLC_CNT (sliceOf p.val) Cnt.SLC_PERPKT_FRAMES) + 1)

/-- O17. The learn bus, learners, the walker and the MAC commands. (R82, R83, R84, R85, R86, R87) -/
def Obligations.MacTables : Prop :=
  (∀ (s : State) (i : Nat) (e : LearnEvent) (r : List LearnEvent), s.nextLearner = some i → Tbl.get [] s.slice.learn i = e :: r →
    ∃ t, exec .learnBusTransfer s = .next t ∧ Tbl.get [] t.slice.learn i = r ∧ t.slice.lastSlice = i
      ∧ (∀ q : Fin 4, s.learnEn q.val = true → (Tbl.get [] s.slice.learners q.val).length < 1024 →
          Tbl.get [] t.slice.learners q.val = Tbl.get [] s.slice.learners q.val ++ [e])
      ∧ (∀ q : Fin 4, s.learnEn q.val = false → Tbl.get [] t.slice.learners q.val = Tbl.get [] s.slice.learners q.val)
      ∧ t.slice.macs = s.slice.macs ∧ s.onlyParts t [.regs, .slice])
  ∧ (∀ (s : State) (q : Fin 4) (v : LearnEvent) (r : List LearnEvent) (i : Nat), Tbl.get [] s.slice.learners q.val = v :: r →
    s.macFind q.val v.bd v.mac = some i → (s.mac q.val i).port = v.port →
    ∃ t, exec (.learnerApply q) s = .next t ∧ Tbl.get [] t.slice.learners q.val = r
      ∧ t.mac q.val i = { s.mac q.val i with lastSeen := v.ct, hit := true, agedOnce := false }
      ∧ (∀ j, j ≠ i → t.mac q.val j = s.mac q.val j) ∧ s.onlyParts t [.slice])
  ∧ (∀ (s : State) (q : Fin 4) (v : LearnEvent) (r : List LearnEvent) (w : Nat), Tbl.get [] s.slice.learners q.val = v :: r →
    s.macFind q.val v.bd v.mac = none → w < 8 → (s.mac q.val (8 * s.macBucket q.val v.bd v.mac + w)).valid = false →
    (∀ k, k < w → (s.mac q.val (8 * s.macBucket q.val v.bd v.mac + k)).valid = true) →
    ∃ t, exec (.learnerApply q) s = .next t
      ∧ t.mac q.val (8 * s.macBucket q.val v.bd v.mac + w)
          = { MacEntry.init with mac := v.mac, bd := v.bd, valid := true, port := v.port, lastSeen := v.ct, hit := true }
      ∧ t.reg (Reg.SLC_MAC_CNT (4 * q.val) Cnt.MAC_LEARN_NEW) = s.reg (Reg.SLC_MAC_CNT (4 * q.val) Cnt.MAC_LEARN_NEW) + 1
      ∧ s.onlyParts t [.regs, .slice])
  ∧ (∀ (s : State) (q : Fin 4), ∃ t, exec (.walkerVisit q) s = .next t
      ∧ Tbl.get 0 t.slice.walker q.val = (Tbl.get 0 s.slice.walker q.val + 1) % 65536
      ∧ (∀ j, j / 8 ≠ Tbl.get 0 s.slice.walker q.val → t.mac q.val j = s.mac q.val j)
      ∧ (∀ j, (s.mac q.val j).valid = true → (s.mac q.val j).static_ = true → t.mac q.val j = s.mac q.val j)
      ∧ s.onlyParts t [.regs, .slice])
  ∧ (∀ (s : State) (q : Fin 4) (j : Nat), j / 8 = Tbl.get 0 s.slice.walker q.val → Tbl.get none s.slice.flush q.val = none →
    s.flag (Reg.SLC_MAC_CTL (4 * q.val)) Fld.SLC_MAC_CTL_AGE_MODE = false →
    (s.mac q.val j).valid = true → (s.mac q.val j).static_ = false →
    s.fld (Reg.SLC_MAC_AGE (4 * q.val)) Fld.SLC_MAC_AGE_LIMIT ≤ (timeCt s.clk.mono + 2 ^ 32 - (s.mac q.val j).lastSeen) % 2 ^ 32 →
    ∃ t, exec (.walkerVisit q) s = .next t ∧ t.mac q.val j = MacEntry.init ∧ s.onlyParts t [.regs, .slice])
  ∧ (∀ (s : State) (q : Fin 4) (i : Fin 524288), s.macBusy q.val = false →
    ∃ t, exec (.macRead q i) s = .next t
      ∧ t.reg (Reg.SLC_MAC_DATA0 (4 * q.val)) = BitVec.ofNat 64 (s.mac q.val i.val).encode
      ∧ t.reg (Reg.SLC_MAC_DATA1 (4 * q.val)) = BitVec.ofNat 64 ((s.mac q.val i.val).encode / 2 ^ 64)
      ∧ s.onlyParts t [.regs])
  ∧ (∀ (s : State) (q : Fin 4) (i : Fin 524288), s.macBusy q.val = false →
    s.macDuplicate q.val i.val (MacEntry.decode (s.macData q.val)) = false →
    ∃ t, exec (.macWrite q i) s = .next t ∧ t.mac q.val i.val = MacEntry.decode (s.macData q.val)
      ∧ (∀ j, j ≠ i.val → t.mac q.val j = s.mac q.val j) ∧ s.onlyRegs t [Reg.SLC_MAC_CMD (4 * q.val)] ∧ s.onlyParts t [.regs, .slice])
  ∧ (∀ (s : State) (q : Fin 4) (i : Nat), s.macBusy q.val = false →
    s.macFind q.val (MacEntry.decode (s.macData q.val)).bd (MacEntry.decode (s.macData q.val)).mac = some i →
    ∃ t, exec (.macSearch q) s = .next t
      ∧ t.fld (Reg.SLC_MAC_CMD (4 * q.val)) Fld.SLC_MAC_CMD_INDEX = i % 2 ^ Fld.SLC_MAC_CMD_INDEX.len
      ∧ t.reg (Reg.SLC_MAC_DATA0 (4 * q.val)) = BitVec.ofNat 64 (s.mac q.val i).encode
      ∧ s.onlyParts t [.regs])
  ∧ (∀ (s : State) (q f : Fin 4) (port : Fin 512) (bd : Fin 4096), s.macBusy q.val = false →
    ∃ t, exec (.macFlush q f port bd) s = .next t ∧ Tbl.get none t.slice.flush q.val = some ⟨f.val, port.val, bd.val, 65536⟩
      ∧ t.macBusy q.val = true ∧ t.slice.macs = s.slice.macs ∧ s.onlyRegs t [Reg.SLC_MAC_CMD (4 * q.val)]
      ∧ s.onlyParts t [.regs, .slice])

/-- O18. A search answers the winning entry, or fenced; a scrub step visits a row. (R96, R97, R98, R100, R102, R103) -/
def Obligations.TumblerSearches : Prop :=
  (∀ (s : State) (q : Fin 4) (r : Nat) (x : SearchReq) (rest : List SearchReq) (p : Nat) (o : OutFrame) (l : List OutFrame),
    s.nextSearcher q.val = some r → Tbl.get [] s.tmb.searches (8 * q.val + r) = x :: rest → x.client = .slice p →
    (s.port p).out = o :: l → o.stage = .waitRoute → x.table < 16 → s.down (unitTumbler q.val) = false →
    ∃ t, exec (.tumblerSearch q .ok) s = .next t ∧ Tbl.get [] t.tmb.searches (8 * q.val + r) = rest
      ∧ Tbl.get 7 t.tmb.lastReq q.val = r
      ∧ (t.port p).out = { o with stage := .routed, route := (match s.tmbWinner q.val x.table x.key x.gen (fun _ => false) with
            | some w => .hit w.1 w.2.result | none => .miss) } :: l
      ∧ t.reg (Reg.TMB_CNT q.val Cnt.TMB_SEARCHES) = s.reg (Reg.TMB_CNT q.val Cnt.TMB_SEARCHES) + 1
      ∧ t.tmb.ents = s.tmb.ents ∧ s.onlyPort t p ∧ s.onlyParts t [.regs, .ports, .tmb])
  ∧ (∀ (s : State) (q : Fin 4) (r : Nat) (x : SearchReq) (rest : List SearchReq) (p : Nat) (o : OutFrame) (l : List OutFrame),
    s.nextSearcher q.val = some r → Tbl.get [] s.tmb.searches (8 * q.val + r) = x :: rest → x.client = .slice p →
    (s.port p).out = o :: l → o.stage = .waitRoute → s.down (unitTumbler q.val) = true →
    ∃ t, exec (.tumblerSearch q .ok) s = .next t ∧ (t.port p).out = { o with stage := .routed, route := .fenced } :: l
      ∧ t.reg (Reg.TMB_CNT q.val Cnt.TMB_FENCED_SEARCHES) = s.reg (Reg.TMB_CNT q.val Cnt.TMB_FENCED_SEARCHES) + 1
      ∧ s.onlyRegs t [Reg.TMB_CNT q.val Cnt.TMB_FENCED_SEARCHES] ∧ s.onlyParts t [.regs, .ports, .tmb])
  ∧ (∀ (s : State) (q : Fin 4), s.flag (Reg.TMB_CTL q.val) Fld.TMB_CTL_SCRUB_EN = true → s.down (unitTumbler q.val) = false →
    ∃ t, exec (.tumblerScrubRow q .differs) s = .next t
      ∧ Tbl.get 0 t.tmb.scrubRow q.val = (Tbl.get 0 s.tmb.scrubRow q.val + 1) % 262144
      ∧ t.reg (Reg.TMB_CNT q.val Cnt.TMB_SCRUB_CORRECTED) = s.reg (Reg.TMB_CNT q.val Cnt.TMB_SCRUB_CORRECTED) + 1
      ∧ t.tmb.ents = s.tmb.ents ∧ s.onlyRegs t [Reg.TMB_CNT q.val Cnt.TMB_SCRUB_CORRECTED] ∧ s.onlyParts t [.regs, .tmb])
  ∧ (∀ (s : State) (q : Fin 4), s.flag (Reg.TMB_CTL q.val) Fld.TMB_CTL_SCRUB_EN = true → s.down (unitTumbler q.val) = false →
    exec (.tumblerScrubRow q .same) s = .next { s with tmb := { s.tmb with
      scrubRow := Tbl.set 0 s.tmb.scrubRow q.val ((Tbl.get 0 s.tmb.scrubRow q.val + 1) % 262144) } })

/-- O19. ENT_CMD: READ, INSERT with its block move, DELETE, REPAIR. (R101, R104, R105, R108, R109, R110) -/
def Obligations.TumblerEntryCommands : Prop :=
  (∀ (s : State) (q : Fin 4) (t' : Fin 16) (i : Fin 262144), s.tmbCheck q.val 1 t'.val i.val = none →
    ∃ t, exec (.entRead q t' i) s = .next t ∧ t.reg (Reg.TMB_ENT_RESULT q.val) = (s.ent q.val i.val).result
      ∧ (∀ k : Fin 5, t.reg (Reg.TMB_ENT_KEY q.val k.val) = BitVec.ofNat 64 ((s.ent q.val i.val).key.toNat / 2 ^ (64 * k.val)))
      ∧ (∀ k : Fin 5, t.reg (Reg.TMB_ENT_MASK q.val k.val) = BitVec.ofNat 64 ((s.ent q.val i.val).mask.toNat / 2 ^ (64 * k.val)))
      ∧ s.onlyParts t [.regs])
  ∧ (∀ (s : State) (q : Fin 4) (t' : Fin 16) (i : Fin 262144) (target hole : Nat), s.tmbCheck q.val 2 t'.val i.val = none →
    s.placeFor q.val t'.val i.val = some (target, hole) →
    ∃ t, exec (.entInsert q t' i) s = .next t ∧ t.tmbBusy q.val = true
      ∧ t.insert q.val = some ⟨t'.val, target, hole, 0, s.tmbNew q.val t'.val⟩ ∧ t.tmb.ents = s.tmb.ents
      ∧ s.onlyRegs t [Reg.TMB_ENT_CMD q.val, Reg.TMB_MAINT q.val, Reg.TMB_STATUS q.val] ∧ s.onlyParts t [.regs, .tmb])
  ∧ (∀ (s : State) (q : Fin 4) (x : TmbInsert), s.insert q.val = some x →
    s.pathHole q.val (s.tmbWidth q.val x.table) x = x.hole → x.target < x.hole → s.tmbWidth q.val x.table ≤ x.hole →
    ∃ t, exec (.tmbMoveStep q) s = .next t ∧ t.ent q.val x.hole = s.ent q.val (x.hole - s.tmbWidth q.val x.table)
      ∧ (t.ent q.val (x.hole - s.tmbWidth q.val x.table)).valid = false
      ∧ t.insert q.val = some { x with hole := x.hole - s.tmbWidth q.val x.table, steps := x.steps + 1 }
      ∧ (∀ j, j ≠ x.hole → j ≠ x.hole - s.tmbWidth q.val x.table → t.ent q.val j = s.ent q.val j)
      ∧ t.reg (Reg.TMB_CNT q.val Cnt.TMB_MOVE_STEPS) = s.reg (Reg.TMB_CNT q.val Cnt.TMB_MOVE_STEPS) + 1
      ∧ s.onlyParts t [.regs, .tmb, .lop])
  ∧ (∀ (s : State) (q : Fin 4) (x : TmbInsert), s.insert q.val = some x → x.hole = x.target →
    ∃ t, exec (.tmbInsertWrite q) s = .next t
      ∧ t.ent q.val x.target = { x.entry with gens := BitVec.ofNat 4 (2 ^ s.genPendSlot) } ∧ t.insert q.val = none
      ∧ t.tmbBusy q.val = false ∧ (∀ j, j ≠ x.target → t.ent q.val j = s.ent q.val j)
      ∧ t.reg (Reg.TMB_CNT q.val Cnt.TMB_INSERTS) = s.reg (Reg.TMB_CNT q.val Cnt.TMB_INSERTS) + 1
      ∧ s.onlyParts t [.regs, .tmb])
  ∧ (∀ (s : State) (q : Fin 4) (t' : Fin 16) (i : Fin 262144), s.tmbCheck q.val 3 t'.val i.val = none →
    ∃ t, exec (.entDelete q t' i) s = .next t
      ∧ t.ent q.val i.val = { s.ent q.val i.val with gens := (s.ent q.val i.val).gens &&& ~~~ BitVec.ofNat 4 (2 ^ s.genPendSlot) }
      ∧ (∀ j, j ≠ i.val → t.ent q.val j = s.ent q.val j)
      ∧ t.reg (Reg.TMB_CNT q.val Cnt.TMB_DELETES) = s.reg (Reg.TMB_CNT q.val Cnt.TMB_DELETES) + 1
      ∧ s.onlyRegs t [Reg.TMB_ENT_CMD q.val, Reg.TMB_CNT q.val Cnt.TMB_DELETES] ∧ s.onlyParts t [.regs, .tmb])
  ∧ (∀ (s : State) (q : Fin 4) (t' : Fin 16) (i : Fin 262144), s.tmbCheck q.val 4 t'.val i.val = none →
    ∃ t, exec (.entRepair q t' i) s = .next t
      ∧ t.ent q.val i.val = { s.tmbNew q.val t'.val with gens := (s.ent q.val i.val).gens }
      ∧ (∀ j, j ≠ i.val → t.ent q.val j = s.ent q.val j) ∧ s.onlyRegs t [Reg.TMB_ENT_CMD q.val] ∧ s.onlyParts t [.regs, .tmb])

/-- O20. A refused ENT_CMD sets ERR and its code and changes nothing else. (R105, R108, 04_tumbler.md) -/
def Obligations.TumblerEntryRefusals : Prop :=
  ∀ (s : State) (q : Fin 4) (t' : Fin 16) (i : Fin 262144) (op code : Nat) (c : Instr), s.tmbBusy q.val = false →
    (op, c) ∈ [(1, Instr.entRead q t' i), (2, .entInsert q t' i), (3, .entDelete q t' i), (4, .entRepair q t' i)] →
    s.tmbCheck q.val op t'.val i.val = some code →
    ∃ t, exec c s = .next t ∧ t.flag (Reg.TMB_ENT_CMD q.val) Fld.TMB_ENT_CMD_ERR = true
      ∧ t.fld (Reg.TMB_ENT_CMD q.val) Fld.TMB_ENT_CMD_ERR_CODE = code
      ∧ s.onlyRegs t [Reg.TMB_ENT_CMD q.val] ∧ s.onlyParts t [.regs]

/-- O21. OPEN, COMMIT, ABORT and the retirement of a generation. (R104, R105, R106, R107) -/
def Obligations.TumblerGenerations : Prop :=
  (∀ (s : State) (i : Nat), s.genBusy = false → s.genPending = false → s.freeSlot = some i → s.rebuilding = false →
    ∃ t, exec .openGen s = .next t ∧ t.genBusy = true ∧ t.tmb.run = .copying ∧ t.tmb.ents = s.tmb.ents
      ∧ s.onlyRegs t [Reg.TMB_GEN_CMD 0] ∧ s.onlyParts t [.regs, .tmb])
  ∧ (∀ (s : State) (i : Nat), s.tmb.run = .copying → s.freeSlot = some i → Tbl.wf (fun _ => TmbEntry.init) s.tmb.ents = true →
    ∃ t, exec .openCopyDone s = .next t ∧ t.genPending = true ∧ t.genPendSlot = i ∧ t.genPend = (s.genCur + 1) % 256
      ∧ t.genBusy = false ∧ t.tmb.run = .idle
      ∧ (∀ q j : Nat, (t.ent q j).gens.getLsbD i = (s.ent q j).gens.getLsbD s.genCurSlot)
      ∧ s.onlyParts t [.regs, .tmb])
  ∧ (∀ s : State, s.genBusy = false → s.genPending = true → s.anyMove = false → s.digestsAgree = true →
    ∃ t, exec .commitGen s = .next t ∧ t.genBusy = true ∧ t.tmb.run = .commitWait ∧ t.tmb.ents = s.tmb.ents
      ∧ s.onlyRegs t [Reg.TMB_GEN_CMD 0] ∧ s.onlyParts t [.regs, .tmb])
  ∧ (∀ s : State, s.tmb.run = .commitWait → s.anyMove = false → s.digestsAgree = true → s.genCurSlot ≠ s.genPendSlot →
    ∃ t, exec .commitApply s = .next t ∧ t.genCurSlot = s.genPendSlot ∧ t.genCur = s.genPend ∧ t.genPending = false
      ∧ t.genBusy = false ∧ t.tmb.run = .idle ∧ t.genState s.genCurSlot = 2 ∧ t.genState s.genPendSlot = 1
      ∧ (∀ i : Fin 16, t.fld (Reg.SLC_GEN i.val) Fld.SLC_GEN_CUR = s.genPend) ∧ t.tmb.ents = s.tmb.ents
      ∧ s.onlyParts t [.regs, .tmb])
  ∧ (∀ s : State, s.genBusy = false → s.genPending = true → s.anyMove = false →
    ∃ t, exec .abortGen s = .next t ∧ t.genBusy = true ∧ t.tmb.run = .sweeping ∧ t.tmb.ents = s.tmb.ents
      ∧ s.onlyRegs t [Reg.TMB_GEN_CMD 0] ∧ s.onlyParts t [.regs, .tmb])
  ∧ (∀ s : State, s.tmb.run = .sweeping → s.anyMove = false → Tbl.wf (fun _ => TmbEntry.init) s.tmb.ents = true →
    ∃ t, exec .abortSweepDone s = .next t ∧ t.genPending = false ∧ t.genState s.genPendSlot = 0 ∧ t.genBusy = false
      ∧ t.tmb.run = .idle ∧ (∀ q j : Nat, (t.ent q j).gens = (s.ent q j).gens &&& ~~~ BitVec.ofNat 4 (2 ^ s.genPendSlot))
      ∧ s.onlyParts t [.regs, .tmb])
  ∧ (∀ (s : State) (i : Fin 4), s.genState i.val = 2 → s.drainCount i.val = 0 → s.tmb.retiring.testBit i.val = false →
    Tbl.wf (fun _ => TmbEntry.init) s.tmb.ents = true →
    ∃ t, exec (.generationRetire i) s = .next t ∧ t.tmb.retiring.testBit i.val = true
      ∧ (∀ q j : Nat, (t.ent q j).gens = (s.ent q j).gens &&& ~~~ BitVec.ofNat 4 (2 ^ i.val)) ∧ s.onlyParts t [.regs, .tmb])
  ∧ (∀ (s : State) (i : Fin 4), s.tmb.retiring.testBit i.val = true →
    ∃ t, exec (.generationRetireDone i) s = .next t ∧ t.genState i.val = 0 ∧ t.tmb.retiring.testBit i.val = false
      ∧ t.tmb.ents = s.tmb.ents ∧ s.onlyParts t [.regs, .tmb])

/-- O22. A record request that misses allocates a miss entry; one that hits takes the hold. (R126, R127, R130, R135) -/
def Obligations.RecordReads : Prop :=
  (∀ (s : State) (h : Fin 16) (es : List Ecc) (op : HostOp) (x : Word64) (key : List Byte) (cls at_ : Nat) (q : List Waiter),
    s.shardUp h.val = true → (s.shard h.val).entryWait = [] → (s.shard h.val).recPort = .host :: q →
    (s.shard h.val).host = .run op x key cls at_ → op ≠ .flush → (op = .delete → s.dmcReady = true) → s.openEntry h.val x = none → s.tagMatches h.val x = [] →
    s.evicted h.val x key = none → s.mayAlloc h.val = true →
    ∃ t, exec (.recReadLookup h es) s = .next t ∧ (t.shard h.val).recPort = q
      ∧ (t.shard h.val).entries = (s.shard h.val).entries ++
          [{ h := x, stage := .fetch, key := key, cls := cls, create := op == .write, swap := false, queue := [.host], waited := false }]
      ∧ t.reg (Reg.HNK_CNT h.val Cnt.HNK_HOT_MISS) = s.reg (Reg.HNK_CNT h.val Cnt.HNK_HOT_MISS) + 1
      ∧ s.onlyShard t h.val ∧ s.onlyParts t [.regs, .shards, .links])
  ∧ (∀ (s : State) (h : Fin 16) (es : List Ecc) (r T k : Nat) (it : Item) (q : List Waiter), es.headD .ok = .ok →
    s.shardUp h.val = true → (s.shard h.val).entryWait = [] → (s.shard h.val).recPort = .item r :: q →
    s.threadOf h.val r = some T → (s.thread h.val T).item = some it → it.aging = false → s.openEntry h.val it.h = none →
    s.tagMatches h.val it.h = [k] → (s.way h.val k).held = none → recKey (s.way h.val k).words = pad40 it.key →
    ∃ t, exec (.recReadLookup h es) s = .next t ∧ (t.shard h.val).recPort = q ∧ (t.way h.val k).held = some (.item r)
      ∧ (t.way h.val k).ref = true ∧ (t.way h.val k).words = (s.way h.val k).words ∧ (t.thread h.val T).read = .done .found
      ∧ t.reg (Reg.HNK_CNT h.val Cnt.HNK_HOT_HIT) = s.reg (Reg.HNK_CNT h.val Cnt.HNK_HOT_HIT) + 1
      ∧ s.onlyRegs t [Reg.HNK_CNT h.val Cnt.HNK_HOT_HIT] ∧ s.onlyShard t h.val ∧ s.onlyParts t [.regs, .shards, .links])

/-- O23. A miss entry: fetch, fill, delivery, hand-over and the eviction buffer. (R128, R131, R132, R133, R134, R135, R136, R137) -/
def Obligations.RecordEntries : Prop :=
  (∀ (s : State) (h : Fin 16) (i : Nat) (es : List Ecc) (e : RecEntry),
    (s.shard h.val).entries[i]? = some e → e.stage = .fetch → s.shardUp h.val = true → s.dmcReady = true →
    ∃ t y, exec (.hankFetch h i es) s = .next t ∧ (t.shard h.val).entries[i]? = some y ∧ y.h = e.h ∧ y.queue = e.queue
      ∧ ((∃ w p, y.stage = .fetched .found w p false) ∨ (∃ w p, y.stage = .fetched .created w p false)
          ∨ y.stage = .ready .absent ∨ y.stage = .ready .tableFull)
      ∧ (t.shard h.val).entries.length = (s.shard h.val).entries.length ∧ s.onlyShard t h.val
      ∧ s.onlyParts t [.regs, .shards, .dram, .free, .fault])
  ∧ (∀ (s : State) (h : Fin 16) (es : List Ecc) (i k : Nat) (e : RecEntry) (w : List Word64) (p : Place), (∀ x ∈ es, x ≠ .uncorrectable) →
    (s.shard h.val).entries[i]? = some e → e.stage = .fetched .found w p false → e.queue ≠ [] →
    (s.makeRoom h.val e.h (recLong w) es).1 = some k →
    ∃ t, exec (.fillInstall h (i, es)) s = .next t ∧ (t.way h.val k).valid = true ∧ (t.way h.val k).filling = true
      ∧ (t.way h.val k).h60 = tag60 e.h ∧ (t.way h.val k).place = p ∧ (t.way h.val k).words = recPut w 0 w0Dirty 0
      ∧ (t.shard h.val).entries[i]? = some { e with stage := .ready .found }
      ∧ s.onlyShard t h.val ∧ s.onlyParts t [.regs, .shards, .free])
  ∧ (∀ (s : State) (h : Fin 16) (i : Nat) (e : RecEntry) (x : Word64) (key : List Byte) (cls at_ : Nat),
    (s.shard h.val).entries[i]? = some e → e.stage = .ready .absent → e.queue = [.host] →
    (s.shard h.val).host = .run .lookup x key cls at_ → pad40 key = pad40 e.key →
    ∃ t, exec (.fetchDeliver h i) s = .next t ∧ (t.shard h.val).entries = (s.shard h.val).entries.eraseIdx i
      ∧ (t.link (lnkMiss h.val)).owed = (s.link (lnkMiss h.val)).owed + 1
      ∧ (t.shard h.val).host = .none ∧ t.flag (Reg.HNK_REC_CMD h.val) Fld.HNK_REC_CMD_BUSY = false
      ∧ s.onlyRegs t [Reg.HNK_REC_CMD h.val] ∧ s.onlyShard t h.val ∧ s.onlyParts t [.regs, .shards, .links])
  ∧ (∀ (s : State) (h : Fin 16) (i : Nat) (es : List Ecc) (e : RecEntry),
    (s.shard h.val).entries[i]? = some e → e.stage = .held → e.queue = [] →
    ∃ t, exec (.holdEnd h i es) s = .next t ∧ (t.shard h.val).entries = (s.shard h.val).entries.eraseIdx i
      ∧ (t.link (lnkMiss h.val)).owed = (s.link (lnkMiss h.val)).owed + 1 ∧ s.onlyShard t h.val ∧ s.onlyParts t [.shards, .links])
  ∧ (∀ (s : State) (h : Fin 16) (es : List Ecc) (i r k : Nat) (e : RecEntry) (q : List Waiter) (p : Parked), es.headD .ok = .ok →
    (s.shard h.val).entries[i]? = some e → e.stage = .held → e.queue = .item r :: q → s.shardUp h.val = true →
    s.threadOf h.val r = none → s.parkedOf h.val r = some p → p.item.aging = false → s.resumeRoom h.val = true →
    s.tagMatches h.val p.item.h = [k] → recKey (s.way h.val k).words = pad40 p.item.key → (s.way h.val k).held = none →
    ∃ t, exec (.holdEnd h i es) s = .next t ∧ (t.way h.val k).held = some (.item r)
      ∧ t.parkedOf h.val r = some { p with outcome := some .found }
      ∧ t.reg (Reg.HNK_CNT h.val Cnt.HNK_HOT_HIT) = s.reg (Reg.HNK_CNT h.val Cnt.HNK_HOT_HIT) + 1
      ∧ s.onlyRegs t [Reg.HNK_CNT h.val Cnt.HNK_HOT_HIT] ∧ s.onlyShard t h.val ∧ s.onlyParts t [.regs, .shards, .links])
  ∧ (∀ (s : State) (h : Fin 16) (x : Ecc) (e : Evicted) (q : List Evicted),
    (s.shard h.val).evb = e :: q → e.written = false → e.reclaim = false → s.dmcReady = true →
    ∃ t, exec (.evbWriteAccept (h, x)) s = .next t ∧ (t.shard h.val).evb = q ∧ s.onlyShard t h.val
      ∧ s.onlyParts t [.regs, .shards, .dram])
  ∧ (∀ (s : State) (h : Fin 16) (x : Ecc) (e : Evicted) (q : List Evicted) (a : LineAt) (l : Nat),
    (s.shard h.val).evb = e :: q → e.written = false → s.dmcReady = true → recLong (cleanWords e.words) = false →
    8 ≤ (cleanWords e.words).length → l = s.placeLine h.val (BitVec.ofNat 64 (e.h60 + h.val * 2 ^ 60)) e.place 0 →
    s.locate l = some a → s.rankDead a = false → s.poisoned l = false →
    ∃ t, exec (.evbWriteAccept (h, x)) s = .next t ∧ t.lineBytes l = bytesOf ((cleanWords e.words).take 8)
      ∧ (∀ k, k ≠ l → t.lineBytes k = s.lineBytes k))

/-- O24. The sweeper: start, period, hot and DRAM visits, end of a pass, aging items. (R140, R141, R151) -/
def Obligations.SweeperSteps : Prop :=
  (∀ (s : State) (h : Fin 16), (s.shard h.val).sweep.running = false → s.flag (Reg.HNK_CTL h.val) Fld.HNK_CTL_SWEEP_EN = true →
    s.shardUp h.val = true →
    ∃ t, exec (.sweepPassStart h) s = .next t ∧ (t.shard h.val).sweep.running = true
      ∧ (t.shard h.val).sweep.hot = 0 ∧ (t.shard h.val).sweep.dram = 0 ∧ (t.shard h.val).sweep.began = s.clk.mono
      ∧ t.fld (Reg.HNK_SWEEP_STATUS h.val) Fld.HNK_SWEEP_STATUS_GEN_COMMITS = 0
      ∧ s.onlyRegs t [Reg.HNK_SWEEP_STATUS h.val, Reg.HNK_STATUS h.val] ∧ s.onlyShard t h.val ∧ s.onlyParts t [.regs, .shards])
  ∧ (∀ (s : State) (h : Fin 16), sweepPeriod s h.val ≤ s.clk.mono - (s.shard h.val).sweep.lastPeriod → (s.shard h.val).sweep.due = none →
    exec (.sweepPeriodExpiry h) s = .next (s.setShard h.val { s.shard h.val with
      sweep := { (s.shard h.val).sweep with lastPeriod := s.clk.mono, due := some s.clk.mono } }))
  ∧ (∀ (s : State) (h : Fin 16) (e : Ecc), (s.shard h.val).sweep.running = true → (s.shard h.val).sweep.hotDone = false →
    s.flag (Reg.HNK_CTL h.val) Fld.HNK_CTL_SWEEP_EN = true → s.shardUp h.val = true → (s.shard h.val).sweep.free = true →
    s.dmcReady = true →
    ∃ t, exec (.sweepHotVisit h e) s = .next t ∧ (t.shard h.val).sweep.hot = (s.shard h.val).sweep.hot + 1
      ∧ (t.shard h.val).sweep.hotDone = decide (2097152 ≤ (s.shard h.val).sweep.hot + 1) ∧ s.onlyShard t h.val)
  ∧ (∀ (s : State) (h : Fin 16), (s.shard h.val).sweep.running = true → (s.shard h.val).sweep.hotDone = false →
    s.flag (Reg.HNK_CTL h.val) Fld.HNK_CTL_SWEEP_EN = true → s.shardUp h.val = true →
    (s.way h.val (s.shard h.val).sweep.hot).valid = true → (s.way h.val (s.shard h.val).sweep.hot).role ≠ .tail →
    s.wayBusy h.val (s.shard h.val).sweep.hot = false →
    (s.sweepRecord h.val (s.way h.val (s.shard h.val).sweep.hot).words).1 = true →
    s.notifies h.val (recMeta (s.way h.val (s.shard h.val).sweep.hot).words mtClass) = false → s.dmcReady = true →
    ∃ t, exec (.sweepHotVisit h .ok) s = .next t ∧ t.way h.val (s.shard h.val).sweep.hot = Way.init
      ∧ t.reg (Reg.HNK_CNT h.val Cnt.HNK_AGED_OUT) = s.reg (Reg.HNK_CNT h.val Cnt.HNK_AGED_OUT) + 1)
  ∧ (∀ (s : State) (h : Fin 16) (e e2 : Ecc), (s.shard h.val).sweep.running = true → (s.shard h.val).sweep.dramDone = false →
    s.flag (Reg.HNK_CTL h.val) Fld.HNK_CTL_SWEEP_EN = true → s.shardUp h.val = true → s.dmcReady = true →
    (s.shard h.val).sweep.free = true → s.mayAlloc h.val = true → s.exportMay h.val (s.shard h.val).sweep.dram = true →
    ∃ t, exec (.sweepDramVisit h e e2) s = .next t ∧ (t.shard h.val).sweep.dram = (s.shard h.val).sweep.dram + 1
      ∧ (t.shard h.val).sweep.dramDone = decide (16 * 2 ^ s.bucketBits h.val + 65536 ≤ (s.shard h.val).sweep.dram + 1)
      ∧ s.onlyShard t h.val)
  ∧ (∀ (s : State) (h : Fin 16), (s.shard h.val).sweep.running = true → (s.shard h.val).sweep.hotDone = true →
    (s.shard h.val).sweep.dramDone = true →
    ∃ t, exec (.sweepPassEnd h) s = .next t ∧ (t.shard h.val).sweep = { (s.shard h.val).sweep with running := false }
      ∧ t.fld (Reg.HNK_SWEEP_STATUS h.val) Fld.HNK_SWEEP_STATUS_PASSES
        = (s.fld (Reg.HNK_SWEEP_STATUS h.val) Fld.HNK_SWEEP_STATUS_PASSES + 1) % 2 ^ Fld.HNK_SWEEP_STATUS_PASSES.len
      ∧ t.fld (Reg.HNK_SWEEP_TIME h.val) Fld.HNK_SWEEP_TIME_LAST_PASS_MS
        = ((s.clk.mono - (s.shard h.val).sweep.began) / 800000) % 2 ^ Fld.HNK_SWEEP_TIME_LAST_PASS_MS.len
      ∧ s.onlyRegs t [Reg.HNK_SWEEP_STATUS h.val, Reg.HNK_SWEEP_TIME h.val, Reg.HNK_STATUS h.val]
      ∧ s.onlyShard t h.val ∧ s.onlyParts t [.regs, .shards])
  ∧ (∀ (s : State) (h : Fin 16) (g : Word64) (key : List Byte), s.shardUp h.val = true →
    (s.shard h.val).sweep.waiting = some (g, key) → (s.shard h.val).sweep.input = none →
    ∃ t, exec (.agingItemEnter h) s = .next t ∧ (t.shard h.val).sweep.waiting = none
      ∧ (t.shard h.val).sweep.input = some (s.agingItem h.val g key)
      ∧ t.reg (Reg.HNK_CNT h.val Cnt.HNK_AGE_NOTIFY) = s.reg (Reg.HNK_CNT h.val Cnt.HNK_AGE_NOTIFY) + 1
      ∧ s.onlyRegs t [Reg.HNK_CNT h.val Cnt.HNK_AGE_NOTIFY] ∧ s.onlyShard t h.val ∧ s.onlyParts t [.regs, .shards])

/-- O25. HNK.REC_CMD: LOOKUP, WRITE, DELETE, FLUSH_ONE, READ_LOC and their refusals. (R145, 05_hank_store.md) -/
def Obligations.HostRecordCommands : Prop :=
  (∀ (s : State) (h : Fin 16) (cls : Fin 64) (op : HostOp) (c : Instr),
    (c, op) ∈ [(Instr.recLookup h cls, HostOp.lookup), (.recWrite h cls, .write), (.recDelete h cls, .delete), (.flushOne h cls, .flush)] →
    s.flag (Reg.HNK_REC_CMD h.val) Fld.HNK_REC_CMD_BUSY = false → s.shardUp h.val = true →
    homeShard (s.hashKey (s.recKeyBytes h.val)) = h.val →
    (vecByte (s.recKeyBytes h.val) 0 = 6 → s.classLong h.val cls.val = true) →
    ∃ t, exec c s = .next t
      ∧ (t.shard h.val).host = .run op (s.hashKey (s.recKeyBytes h.val)) (s.recKeyBytes h.val) cls.val s.clk.mono
      ∧ (t.shard h.val).recPort = (s.shard h.val).recPort ++ [.host]
      ∧ t.flag (Reg.HNK_REC_CMD h.val) Fld.HNK_REC_CMD_BUSY = true
      ∧ t.fld (Reg.HNK_REC_CMD h.val) Fld.HNK_REC_CMD_CLASS = cls.val
      ∧ t.reg (Reg.HNK_CNT h.val Cnt.HNK_HOST_COMMANDS) = s.reg (Reg.HNK_CNT h.val Cnt.HNK_HOST_COMMANDS) + 1
      ∧ s.onlyRegs t [Reg.HNK_REC_CMD h.val, Reg.HNK_CNT h.val Cnt.HNK_HOST_COMMANDS]
      ∧ s.onlyShard t h.val ∧ s.onlyParts t [.regs, .shards])
  ∧ (∀ (s : State) (h : Fin 16) (cls : Fin 64) (c : Instr),
    c ∈ [Instr.recLookup h cls, .recWrite h cls, .recDelete h cls, .flushOne h cls] →
    s.flag (Reg.HNK_REC_CMD h.val) Fld.HNK_REC_CMD_BUSY = true →
    ∃ t, exec c s = .next t ∧ t.fld (Reg.HNK_REC_CMD h.val) Fld.HNK_REC_CMD_ERR_CODE = 1
      ∧ t.flag (Reg.HNK_REC_CMD h.val) Fld.HNK_REC_CMD_ERR = true
      ∧ s.onlyRegs t [Reg.HNK_REC_CMD h.val] ∧ s.onlyParts t [.regs])
  ∧ (∀ (s : State) (h : Fin 16) (loc : Fin 67108864) (stash : Bool) (e : Ecc) (b : List Byte),
    s.flag (Reg.HNK_REC_CMD h.val) Fld.HNK_REC_CMD_BUSY = false → s.shardUp h.val = true →
    s.dmcReady = true → loc.val < (if stash then 65536 else 16 * 2 ^ s.bucketBits h.val) →
    (s.dramRead ((s.reg (if stash then Reg.HNK_STASH_BASE h.val else Reg.HNK_REC_BASE h.val)).toNat / 64 + loc.val) true e).1 = some b →
    ∃ t, exec (.readLoc h loc stash e) s = .next t
      ∧ (∀ i, i < 16 → t.reg (Reg.HNK_REC_DATA h.val i) = (wordsOf 8 b).getD i 0) ∧ s.onlyParts t [.regs, .dram, .fault])
  ∧ (∀ (s : State) (h : Fin 16) (loc : Fin 67108864) (stash : Bool) (e : Ecc),
    s.flag (Reg.HNK_REC_CMD h.val) Fld.HNK_REC_CMD_BUSY = false → s.shardUp h.val = true →
    s.dmcReady = true → (if stash then 65536 else 16 * 2 ^ s.bucketBits h.val) ≤ loc.val →
    ∃ t, exec (.readLoc h loc stash e) s = .next t ∧ t.fld (Reg.HNK_REC_CMD h.val) Fld.HNK_REC_CMD_ERR_CODE = 6
      ∧ t.flag (Reg.HNK_REC_CMD h.val) Fld.HNK_REC_CMD_ERR = true ∧ s.onlyParts t [.regs])

/-- O26. FLUSH leaves every resident record clean and none evicted. (R136, R145) -/
def Obligations.FlushCleansTheHotTier : Prop :=
  (∀ (s : State) (h : Fin 16),
    ∃ t, exec (.hnkFlush h) s = .next t
      ∧ (t.shard h.val).flush
          = ((s.shard h.val).ways.filter (fun e => e.2.role != .tail && recFld e.2.words 0 w0Dirty == 1)).map Prod.fst
      ∧ (t.shard h.val).evb = (s.shard h.val).evb.map (fun e => { e with flush := true })
      ∧ (∀ i, t.way h.val i = s.way h.val i)
      ∧ (t.flushBusy h.val = true ↔ (∃ e ∈ (s.shard h.val).ways, e.2.role ≠ .tail ∧ recFld e.2.words 0 w0Dirty = 1)
          ∨ ∃ e ∈ (s.shard h.val).evb, e.written = false)
      ∧ s.onlyShard t h.val ∧ s.onlyParts t [.shards])
  ∧ (∀ (s : State) (h : Fin 16) (i : Nat) (e : Ecc), (∀ v ∈ (s.shard h.val).evb, v.written = true) → s.flushNext h.val = some i →
    s.dmcReady = true → e ≠ .uncorrectable → (s.way h.val i).valid = true → (s.way h.val i).role ≠ .tail →
    ∃ t, exec (.evbWriteAccept (h, e)) s = .next t ∧ recFld (t.way h.val i).words 0 w0Dirty = 0
      ∧ (t.way h.val i).valid = true ∧ (t.way h.val i).h60 = (s.way h.val i).h60 ∧ (t.way h.val i).place = (s.way h.val i).place
      ∧ (∀ j, j ≠ i → t.way h.val j = s.way h.val j)
      ∧ (t.shard h.val).flush = (s.shard h.val).flush.filter (fun j => j != i)
      ∧ s.onlyShard t h.val ∧ s.onlyParts t [.regs, .shards, .dram])

/-- O27. Sequencing, dispatch, expiry, parking, resumption, ordered release, the fallback router, GRP_CMD. (R152, R153, R157, R160, R161,
R163, R164, R166, R167, R168, R173) -/
def Obligations.SchedulerSteps : Prop :=
  (∀ (s : State) (h : Fin 16) (i : Nat) (it : Item), s.shardUp h.val = true → i < 17 → s.inputHead h.val i = some it →
    (∀ j, j < 17 → j ≠ i → s.inputHead h.val j = none) → it.aging = false → s.inputLacks h.val it = none →
    s.clk.mono < it.tsMono + s.fld (Reg.SCH_CLASS h.val it.cls) Fld.SCH_CLASS_BUDGET →
    ∃ t, exec (.sequencerTake h) s = .next t
      ∧ (t.shard h.val).ready = (s.shard h.val).ready ++ [{ it with
          rank := (s.shard h.val).nextRank, seq := (s.group h.val it.group).nextSeq, late := false
          deadline := it.tsMono + s.fld (Reg.SCH_CLASS h.val it.cls) Fld.SCH_CLASS_BUDGET }]
      ∧ (t.group h.val it.group).nextSeq = ((s.group h.val it.group).nextSeq + 1) % 65536
      ∧ (t.group h.val it.group).entries.length = (s.group h.val it.group).entries.length + 1
      ∧ t.reg (Reg.SCH_CNT h.val Cnt.SCH_ITEMS_SEQUENCED) = s.reg (Reg.SCH_CNT h.val Cnt.SCH_ITEMS_SEQUENCED) + 1
      ∧ s.onlyRegs t [Reg.SCH_CNT h.val Cnt.SCH_ITEMS_SEQUENCED, Reg.SCH_HIGH h.val]
      ∧ s.onlyShard t h.val ∧ s.onlyParts t [.regs, .shards, .links])
  ∧ (∀ (s : State) (h : Fin 16) (e : Ecc) (it : Item) (T : Nat), s.shardUp h.val = true →
    earliest ((s.shard h.val).ready ++ s.resumeItems h.val) = some it → s.chooseThread h.val = some T → s.parkedOf h.val it.rank = none →
    ∃ t, exec (.dispatch h e) s = .next t
      ∧ t.thread h.val T = { Thread.init with
          item := some it
          pc := s.fld (Reg.SCH_CLASS h.val it.cls) (if it.aging then Fld.SCH_CLASS_AGE_ENTRY else Fld.SCH_CLASS_PROG_ENTRY) }
      ∧ (t.shard h.val).ready = (s.shard h.val).ready.filter (fun y => y.rank != it.rank)
      ∧ t.reg (Reg.SCH_CNT h.val Cnt.SCH_DISPATCHED) = s.reg (Reg.SCH_CNT h.val Cnt.SCH_DISPATCHED) + 1
      ∧ s.onlyRegs t [Reg.SCH_CNT h.val Cnt.SCH_DISPATCHED, Reg.FAE_CNT h.val Cnt.FAE_ITEMS_STARTED]
      ∧ s.onlyShard t h.val ∧ s.onlyParts t [.regs, .shards, .links])
  ∧ (∀ (s : State) (h : Fin 16) (it : Item), s.shardUp h.val = true →
    earliest ((s.liveItems h.val).filter (fun x => decide (x.deadline ≤ s.clk.mono) && !s.complete h.val x && !s.expiryHeld h.val x)) = some it →
    s.parkedOf h.val it.rank = none → s.threadOf h.val it.rank = none → it.aging = false →
    ∃ t, exec (.itemExpiry h) s = .next t ∧ (t.shard h.val).ready = (s.shard h.val).ready.filter (fun y => y.rank != it.rank)
      ∧ t.complete h.val it = true ∧ t.flag (Reg.SCH_STATUS h.val) Fld.SCH_STATUS_DEADLINE_MISS = true
      ∧ s.onlyRegs t [Reg.SCH_STATUS h.val] ∧ s.onlyShard t h.val ∧ s.onlyParts t [.regs, .shards, .links])
  ∧ (∀ (s : State) (h : Fin 16) (T : Fin 512) (since ptr : Nat) (it : Item), s.shardUp h.val = true →
    ((s.thread h.val T.val).read = .park since ∧ since + 32 ≤ s.clk.mono ∨ (s.thread h.val T.val).read = .poolWait) → (s.thread h.val T.val).item = some it →
    (s.poolAlloc h.val 1).1 = .granted ptr →
    ∃ t, exec (.parkRetry h T) s = .next t ∧ (t.thread h.val T.val).item = none
      ∧ (t.shard h.val).parked = (s.shard h.val).parked ++ [{ item := it, index := ptr, outcome := none, queued := false }]
      ∧ s.onlyShard t h.val)
  ∧ (∀ (s : State) (h : Fin 16) (p : Parked), (s.shard h.val).parked.find? (fun p => p.outcome.isSome && !p.queued) = some p →
    ∃ t, exec (.resumeEnter h) s = .next t
      ∧ (t.shard h.val).parked = (s.shard h.val).parked.map (fun q => if q.item.rank = p.item.rank then { q with queued := true } else q)
      ∧ s.onlyShard t h.val ∧ s.onlyParts t [.shards])
  ∧ (∀ (s : State) (h : Fin 16) (e : RoEntry), s.shardUp h.val = true → s.releasable h.val = some e →
    s.releasePlan h.val e = some (.free false) →
    ∃ t, exec (.itemRelease h) s = .next t
      ∧ (t.group h.val e.item.group).nextRel = ((s.group h.val e.item.group).nextRel + 1) % 65536
      ∧ (t.group h.val e.item.group).entries = (s.group h.val e.item.group).entries.drop 1
      ∧ (t.shard h.val).lastGroup = e.item.group
      ∧ t.reg (Reg.SCH_CNT h.val Cnt.SCH_ITEMS_RELEASED) = s.reg (Reg.SCH_CNT h.val Cnt.SCH_ITEMS_RELEASED) + 1
      ∧ s.onlyShard t h.val)
  ∧ (∀ (s : State) (h : Fin 16) (e : RoEntry), s.shardUp h.val = true → s.fbBusy h.val = false → s.fbWork h.val = some e →
    e.stage = .none → routeKey e.item.hv e.item.summary = none →
    ∃ t, exec (.fallbackRoute h) s = .next t
      ∧ (t.group h.val e.item.group).entries = (s.group h.val e.item.group).entries.map
          (fun x => if x.item.rank = e.item.rank then { x with stage := .punt } else x)
      ∧ s.onlyShard t h.val ∧ s.onlyParts t [.shards])
  ∧ (∀ (s : State) (h : Fin 16) (e : RoEntry) (tb : Nat) (key : BitVec 320), s.shardUp h.val = true → s.fbBusy h.val = false →
    s.fbWork h.val = some e → e.stage = .none → routeKey e.item.hv e.item.summary = some (tb, key) →
    ∃ t, exec (.fallbackRoute h) s = .next t
      ∧ (t.group h.val e.item.group).entries = (s.group h.val e.item.group).entries.map
          (fun x => if x.item.rank = e.item.rank then { x with stage := .waitRoute } else x)
      ∧ Tbl.get [] t.tmb.searches (8 * (h.val / 4) + (4 + h.val % 4)) = Tbl.get [] s.tmb.searches (8 * (h.val / 4) + (4 + h.val % 4))
          ++ [{ table := tb, key := key, gen := e.item.gen, client := .fallback }]
      ∧ s.onlyShard t h.val ∧ s.onlyParts t [.shards, .tmb])
  ∧ (∀ (s : State) (h : Fin 16) (g : Fin 65536), g.val < 2 ^ s.bucketBits h.val →
    ∃ t, exec (.grpRead h g) s = .next t
      ∧ t.fld (Reg.SCH_GRP_DATA h.val) Fld.SCH_GRP_DATA_NEXT_SEQ = (s.group h.val g.val).nextSeq % 2 ^ Fld.SCH_GRP_DATA_NEXT_SEQ.len
      ∧ t.fld (Reg.SCH_GRP_DATA h.val) Fld.SCH_GRP_DATA_NEXT_REL = (s.group h.val g.val).nextRel % 2 ^ Fld.SCH_GRP_DATA_NEXT_REL.len
      ∧ t.fld (Reg.SCH_GRP_DATA h.val) Fld.SCH_GRP_DATA_HEAD_STATE = s.headState h.val (s.group h.val g.val)
      ∧ t.flag (Reg.SCH_GRP_DATA h.val) Fld.SCH_GRP_DATA_DL_HELD = (s.group h.val g.val).heldSince.isSome
      ∧ s.onlyRegs t [Reg.SCH_GRP_CMD h.val, Reg.SCH_GRP_DATA h.val] ∧ s.onlyParts t [.regs])
  ∧ (∀ (s : State) (h : Fin 16) (g : Fin 65536), 2 ^ s.bucketBits h.val ≤ g.val →
    ∃ t, exec (.grpRead h g) s = .next t ∧ t.flag (Reg.SCH_GRP_CMD h.val) Fld.SCH_GRP_CMD_ERR = true
      ∧ s.onlyRegs t [Reg.SCH_GRP_CMD h.val] ∧ s.onlyParts t [.regs])

/-- O28. A microword that names only the first ALU writes its result, flags and the next address. (R175, R180, R181, R186) -/
def Obligations.ArithmeticMicrowords : Prop :=
  ∀ (s : State) (h : Fin 16) (T : Fin 512) (c : McCheck) (f imm : Nat) (x : Thread), x = s.thread h.val T.val →
    f < 65536 → 1 ≤ f / 4096 → imm < 2 ^ 32 → c = .ok ∨ c = .corrected → s.mayIssue h.val T.val = true →
    s.atBreakpoint h.val T.val = false → x.armed = false → x.stepping = false → x.pc + 1 < 16384 → s.stdAt x.pc = none →
    Tbl.get 0 (s.shard h.val).store x.pc = BitVec.ofNat 192 (f * 2 ^ 144 + imm * 2 ^ 32) →
    let r := aluOp (f / 4096) (x.reg (f / 16 % 16)) (if f % 16 = 15 then BitVec.ofNat 64 imm else x.reg (f % 16))
    ∃ t, exec (.microwordIssue h T c) s = .next t
      ∧ t.thread h.val T.val = { x with
          pc := x.pc + 1
          g := if f / 4096 = 9 then x.g else listSet x.g (f / 256 % 16) r.1
          fa := { z := if f / 4096 = 14 then r.1 == 64 else r.1 == 0, c := r.2, n := r.1.getLsbD 63 }
          bpSkip := false, ending := false, haltReq := none }
      ∧ t.reg (Reg.FAE_CNT h.val Cnt.FAE_ISSUED) = s.reg (Reg.FAE_CNT h.val Cnt.FAE_ISSUED) + 1
      ∧ s.onlyRegs t [Reg.FAE_CNT h.val Cnt.FAE_ISSUED, Reg.FAE_CNT h.val Cnt.FAE_MC_ECC_CORRECTED, Reg.FAE_STATUS h.val]
      ∧ s.onlyShard t h.val ∧ s.onlyParts t [.regs, .shards]

/-- O29. What completes for a waiting thread: record reads, auxiliary reads, locks, timers, events; the deadlock breaker; scrub, LOCK_CMD
and EV_ADD. (R130, R190, R192, R194, R195, R197, R198, R203, R204, R207) -/
def Obligations.ThreadCompletions : Prop :=
  (∀ (s : State) (h : Fin 16) (T : Fin 512) (it : Item) (i : Nat) (x : Thread), x = s.thread h.val T.val →
    x.read = .done .found → x.item = some it → s.heldWay h.val (.item it.rank) = some i →
    x.abort = none → x.ending = false → x.haltReq = none →
    ∃ t, exec (.recReadDone h T) s = .next t
      ∧ t.thread h.val T.val = { x with
          read := .none, recSt := .found, hold := true, fresh := s.fwdFresh h.val it.gen (s.way h.val i).words
          rb := (List.range 16).map (fun j => (s.way h.val i).words.getD j 0) }
      ∧ s.onlyShard t h.val ∧ s.onlyParts t [.shards])
  ∧ (∀ (s : State) (h : Fin 16) (T : Fin 512) (ok : Bool) (l : List Word64) (x : Thread), x = s.thread h.val T.val →
    x.auxSt = .answered none ok (some l) → x.abort = none → x.ending = false → x.haltReq = none →
    exec (.auxAccessDone h T) s = .next (s.setThread h.val T.val { x with auxSt := .none, auxLost := false, aux := l }))
  ∧ (∀ (s : State) (h : Fin 16) (l : Fin 4096) (T : Nat) (q : List Nat) (x : Thread), s.lock h.val l.val = { owner := none, queue := T :: q } →
    x = s.thread h.val T → x.halted = false → x.abort = none → x.ending = false → x.haltReq = none →
    ∃ t, exec (.lockGrant h l) s = .next t ∧ t.lock h.val l.val = { owner := some T, queue := q }
      ∧ t.thread h.val T = { x with sleep := .awake, lock := .acquired, locks := x.locks ++ [l.val] }
      ∧ t.reg (Reg.WRD_CNT h.val Cnt.WRD_LOCK_ACQ) = s.reg (Reg.WRD_CNT h.val Cnt.WRD_LOCK_ACQ) + 1
      ∧ s.onlyRegs t [Reg.WRD_CNT h.val Cnt.WRD_LOCK_ACQ] ∧ s.onlyShard t h.val ∧ s.onlyParts t [.regs, .shards])
  ∧ (∀ (s : State) (h : Fin 16) (l : Fin 4096) (T : Nat) (q : List Nat) (x : Thread), s.lock h.val l.val = { owner := none, queue := T :: q } →
    x = s.thread h.val T → x.halted = true → x.due = none →
    ∃ t, exec (.lockGrant h l) s = .next t ∧ t.lock h.val l.val = { owner := some T, queue := q }
      ∧ t.thread h.val T = { x with locks := x.locks ++ [l.val], due := some .granted }
      ∧ s.onlyRegs t [Reg.WRD_CNT h.val Cnt.WRD_LOCK_ACQ] ∧ s.onlyShard t h.val ∧ s.onlyParts t [.regs, .shards])
  ∧ (∀ (s : State) (h : Fin 16) (T : Fin 512) (x : Thread), x = s.thread h.val T.val → x.armed = true → x.cmp ≤ s.clk.mono →
    x.sleep = .timer → x.halted = false → x.abort = none → x.ending = false → x.haltReq = none →
    ∃ t, exec (.timerFire h T) s = .next t
      ∧ t.thread h.val T.val = { x with armed := false, fired := false, sleep := .awake, wake := .timer }
      ∧ t.reg (Reg.WRD_CNT h.val Cnt.WRD_WAKE_TIMER) = s.reg (Reg.WRD_CNT h.val Cnt.WRD_WAKE_TIMER) + 1
      ∧ s.onlyRegs t [Reg.WRD_CNT h.val Cnt.WRD_WAKE_TIMER] ∧ s.onlyShard t h.val ∧ s.onlyParts t [.regs, .shards])
  ∧ (∀ (s : State) (h : Fin 16) (T : Fin 512) (m : Nat) (v : Word64) (x : Thread), x = s.thread h.val T.val → x.sleep = .event m v →
    s.eventCount h.val m ≠ v → x.halted = false → x.abort = none → x.ending = false → x.haltReq = none →
    ∃ t, exec (.eventWake h T) s = .next t ∧ t.thread h.val T.val = { x with sleep := .awake, wake := .event }
      ∧ t.reg (Reg.WRD_CNT h.val Cnt.WRD_WAKE_EVENT) = s.reg (Reg.WRD_CNT h.val Cnt.WRD_WAKE_EVENT) + 1
      ∧ s.onlyRegs t [Reg.WRD_CNT h.val Cnt.WRD_WAKE_EVENT] ∧ s.onlyShard t h.val ∧ s.onlyParts t [.regs, .shards])
  ∧ (∀ (s : State) (h : Fin 16) (e : Fin 32), s.shardUp h.val = true → 4096 ≤ s.stuckCycles h.val e.val →
    (∀ i : Fin 16, (s.thread h.val (16 * e.val + i.val)).ending = false ∧ (s.thread h.val (16 * e.val + i.val)).haltReq = none) →
    ∃ t, exec (.deadlockBreak h e) s = .next t ∧ t.flag (Reg.WRD_STATUS h.val) Fld.WRD_STATUS_DEADLOCK_SEEN = true
      ∧ t.reg (Reg.FAE_CNT h.val Cnt.FAE_DEADLOCK_BREAK) = s.reg (Reg.FAE_CNT h.val Cnt.FAE_DEADLOCK_BREAK) + 1
      ∧ s.onlyShard t h.val)
  ∧ (∀ (s : State) (h : Fin 16), exec (.mcScrub h .ok) s
      = .next (s.setShard h.val { s.shard h.val with mcRow := ((s.shard h.val).mcRow + 1) % 16384 }))
  ∧ (∀ (s : State) (h : Fin 16) (l : Fin 4096) (T : Nat), (s.lock h.val l.val).owner = some T → T < 512 →
    ∃ t, exec (.lockRead h l) s = .next t ∧ t.flag (Reg.WRD_LOCK_DATA h.val) Fld.WRD_LOCK_DATA_HELD = true
      ∧ t.fld (Reg.WRD_LOCK_DATA h.val) Fld.WRD_LOCK_DATA_OWNER_E = T / 16
      ∧ t.fld (Reg.WRD_LOCK_DATA h.val) Fld.WRD_LOCK_DATA_OWNER_T = T % 16
      ∧ t.fld (Reg.WRD_LOCK_CMD h.val) Fld.WRD_LOCK_CMD_LOCK = l.val
      ∧ s.onlyRegs t [Reg.WRD_LOCK_DATA h.val, Reg.WRD_LOCK_CMD h.val] ∧ s.onlyParts t [.regs])
  ∧ (∀ (s : State) (h : Fin 16) (l : Fin 4096), (s.lock h.val l.val).owner = none →
    ∃ t, exec (.lockRead h l) s = .next t ∧ t.flag (Reg.WRD_LOCK_DATA h.val) Fld.WRD_LOCK_DATA_HELD = false
      ∧ t.fld (Reg.WRD_LOCK_CMD h.val) Fld.WRD_LOCK_CMD_LOCK = l.val
      ∧ s.onlyRegs t [Reg.WRD_LOCK_DATA h.val, Reg.WRD_LOCK_CMD h.val] ∧ s.onlyParts t [.regs])
  ∧ (∀ (s : State) (h : Fin 16),
    ∃ t, exec (.mcScrub h .corrected) s = .next t ∧ (t.shard h.val).mcRow = ((s.shard h.val).mcRow + 1) % 16384
      ∧ t.reg (Reg.FAE_CNT h.val Cnt.FAE_MC_ECC_CORRECTED) = s.reg (Reg.FAE_CNT h.val Cnt.FAE_MC_ECC_CORRECTED) + 1
      ∧ s.onlyShard t h.val ∧ s.onlyParts t [.regs, .shards])
  ∧ (∀ (s : State) (h : Fin 16) (m : Fin 1024) (n : Fin 4294967296),
    ∃ t, exec (.evAdd h m n) s = .next t ∧ t.eventCount h.val m.val = s.eventCount h.val m.val + BitVec.ofNat 64 n.val
      ∧ t.reg (Reg.WRD_CNT h.val Cnt.WRD_HOST_EV_ADDS) = s.reg (Reg.WRD_CNT h.val Cnt.WRD_HOST_EV_ADDS) + 1
      ∧ s.onlyRegs t [Reg.WRD_CNT h.val Cnt.WRD_HOST_EV_ADDS, Reg.WRD_EV_ADD h.val] ∧ s.onlyShard t h.val
      ∧ s.onlyParts t [.regs, .shards])

/-- O30. The standard programs: their first action, connection states, port maps, policer and counts.  How a program is carried, one action
a microword, is the model's choice (assumption log 76). (R214, R222, R232, R233, R239, R241, R242) -/
def Obligations.StandardPrograms : Prop :=
  (∀ (s : State) (h : Fin 16) (t : Fin 512) (it : Item) (p : StdProg) (x : Thread), x = (s.thread h.val t.val).fire s.clk.mono →
    s.mayIssue h.val t.val = true → s.atBreakpoint h.val t.val = false → x.item = some it → s.stdAt x.pc = some p → x.pc < 16384 →
    x.std = [] → x.readUsed = false → 0 < s.credit (lnkRecord h.val) → s.excOf h.val it x (StdAct.read.word x.pc) = none →
    ∃ t', exec (.microwordIssue h t .ok) s = .next t'
      ∧ (t'.shard h.val).recPort = (s.shard h.val).recPort ++ [.item it.rank] ∧ (t'.thread h.val t.val).readUsed = true
      ∧ (t'.thread h.val t.val).pc = x.pc ∧ t'.credit (lnkRecord h.val) = s.credit (lnkRecord h.val) - 1)
  ∧ (∀ st flags : Nat, ∀ p : Seen, 1 ≤ st → st ≤ 12 →
    (st ≤ 6 → 1 ≤ (connNext st flags p).1 ∧ (connNext st flags p).1 ≤ 6)
    ∧ (st = 7 ∨ st = 8 → (connNext st flags p).1 = 7 ∨ (connNext st flags p).1 = 8)
    ∧ (st = 9 ∨ st = 10 → (connNext st flags p).1 = 9 ∨ (connNext st flags p).1 = 10)
    ∧ (11 ≤ st → connNext st flags p = (st, flags))
    ∧ (st ≤ 5 → p.tcp = true → p.rst = true → (connNext st flags p).1 = 6))
  ∧ (∀ s j : Nat, s < 16 → j < 4032 → natShard (natPort s j) = s ∧ natBit (natPort s j) = j ∧ 1024 ≤ natPort s j ∧ natPort s j < 65536)
  ∧ (∀ a b s u i j : Nat, s < 16 → u < 16 → i < 4032 → j < 4032 → mapLine a s i = mapLine b u j → i % 2 = j % 2 →
    a = b ∧ s = u ∧ i = j)
  ∧ (∀ a b s u m n : Nat, s < 16 → u < 16 → m < 8 → n < 8 → bitmapLine a s m = bitmapLine b u n → a = b ∧ s = u ∧ m = n)
  ∧ (∀ (l : List Word64) (i k : Nat) (v : Bool), l.length = 8 → i < 512 → k < 512 →
    lineBit (setLineBit l i v) k = if k = i then v else lineBit l k)
  ∧ (∀ (l : List Word64) (i j : Nat) (e : MapEntry), l.length = 8 → i % 2 ≠ j % 2 →
    e.privAddr < 2 ^ 32 → e.privPort < 65536 → e.zone < 65536 → e.remAddr < 2 ^ 32 → e.remPort < 65536 → e.stamp < 65536 →
    e.proto < 256 → e.time < 2 ^ 32 → mapGet (mapPut l j e) j = e ∧ mapGet (mapPut l j e) i = mapGet l i)
  ∧ (∀ (x : Policer) (n : Nat), (x.take n).2.last = x.last
    ∧ ((x.take n).1 = 0 ∧ (x.take n).2.tc + 16 * n = x.tc ∧ (x.take n).2.tp + 16 * n = x.tp
      ∨ (x.take n).1 = 1 ∧ (x.take n).2.tc = x.tc ∧ x.tc < 16 * n ∧ (x.take n).2.tp + 16 * n = x.tp
      ∨ (x.take n).1 = 2 ∧ (x.take n).2 = x ∧ x.tp < 16 * n))
  ∧ (∀ (f : StdFlow) (x : Nat × Nat × Nat), f.dropped = false → x.1 < 2 ^ 40 → x.2.1 < 2 ^ 48 →
    (f.addPacket x).1 = min (x.1 + 1) (2 ^ 40 - 1) ∧ (f.addPacket x).2.1 = min (x.2.1 + f.len) (2 ^ 48 - 1)
    ∧ (f.addPacket x).1 < 2 ^ 40 ∧ (f.addPacket x).2.1 < 2 ^ 48)

/-- O31. FAE.DBG_CMD: HALT, RESUME, STEP, ABORT, READ, WRITE, and their refusal for a running thread. (R205, 07_flow_engines.md, Debugging)
-/
def Obligations.DebugCommands : Prop :=
  (∀ (s : State) (h : Fin 16) (T : Fin 512) (x : Thread), Tbl.wf (fun _ => Thread.init) (s.shard h.val).threads = true → x = s.thread h.val T.val → x.halted = false → x.haltReq = none →
    x.quiet = true → x.abort = none → x.ending = false →
    ∃ t, exec (.halt h T) s = .next t ∧ (t.thread h.val T.val).halted = true ∧ (t.thread h.val T.val).haltCause = 1
      ∧ t.reg (Reg.FAE_CNT h.val Cnt.FAE_DEBUG_HALTS) = s.reg (Reg.FAE_CNT h.val Cnt.FAE_DEBUG_HALTS) + 1
      ∧ s.onlyRegs t [Reg.FAE_CNT h.val Cnt.FAE_DEBUG_HALTS, Reg.FAE_DBG_CMD h.val] ∧ s.onlyShard t h.val ∧ s.onlyParts t [.regs, .shards])
  ∧ (∀ (s : State) (h : Fin 16) (T : Fin 512) (x : Thread), Tbl.wf (fun _ => Thread.init) (s.shard h.val).threads = true →
    x = s.thread h.val T.val → x.halted = true → x.due = none → x.abort = none → x.ending = false → x.haltReq = none →
    ∃ t, exec (.resume h T) s = .next t ∧ (t.thread h.val T.val).halted = false ∧ (t.thread h.val T.val).since = s.clk.mono
      ∧ s.onlyRegs t [Reg.FAE_DBG_CMD h.val] ∧ s.onlyShard t h.val ∧ s.onlyParts t [.regs, .shards])
  ∧ (∀ (s : State) (h : Fin 16) (T : Fin 512) (x : Thread), Tbl.wf (fun _ => Thread.init) (s.shard h.val).threads = true →
    x = s.thread h.val T.val → x.halted = true → x.due = some .granted → x.abort = none → x.ending = false → x.haltReq = none →
    ∃ t, exec (.resume h T) s = .next t ∧ (t.thread h.val T.val).halted = false ∧ (t.thread h.val T.val).sleep = .awake
      ∧ (t.thread h.val T.val).lock = .acquired ∧ s.onlyRegs t [Reg.FAE_DBG_CMD h.val] ∧ s.onlyShard t h.val ∧ s.onlyParts t [.regs, .shards])
  ∧ (∀ (s : State) (h : Fin 16) (T : Fin 512) (x : Thread), Tbl.wf (fun _ => Thread.init) (s.shard h.val).threads = true → x = s.thread h.val T.val → s.shardUp h.val = true → x.halted = true →
    x.item.isSome = true → x.quiet = true → x.sleep = .awake → x.ending = false → x.haltReq = none → x.abort = none →
    x.due = none → x.pc + 1 < 16384 → s.stdAt x.pc = none → Tbl.get 0 (s.shard h.val).store x.pc = 0 →
    ∃ t, exec (.step h T .ok) s = .next t ∧ (t.thread h.val T.val).pc = x.pc + 1
      ∧ (t.thread h.val T.val).halted = true ∧ (t.thread h.val T.val).haltCause = 4 ∧ s.onlyShard t h.val)
  ∧ (∀ (s : State) (h : Fin 16) (T : Fin 512) (x : Thread), Tbl.wf (fun _ => Thread.init) (s.shard h.val).threads = true → x = s.thread h.val T.val → x.halted = true → x.item.isSome = true →
    x.haltReq = none →
    ∃ t, exec (.debugAbort h T) s = .next t ∧ (t.thread h.val T.val).item = none ∧ (t.thread h.val T.val).halted = false
      ∧ t.reg (Reg.FAE_CNT h.val Cnt.FAE_ITEMS_ENDED) = s.reg (Reg.FAE_CNT h.val Cnt.FAE_ITEMS_ENDED) + 1 ∧ s.onlyShard t h.val)
  ∧ (∀ (s : State) (h : Fin 16) (T : Fin 512), (s.thread h.val T.val).halted = true →
    ∃ t, exec (.readCtx h T) s = .next t ∧ (∀ i, i < 16 → t.reg (Reg.FAE_DBG_G h.val i) = (s.thread h.val T.val).reg i)
      ∧ t.fld (Reg.FAE_DBG_STATE h.val) Fld.FAE_DBG_STATE_PC = (s.thread h.val T.val).pc % 2 ^ Fld.FAE_DBG_STATE_PC.len
      ∧ t.flag (Reg.FAE_DBG_STATE h.val) Fld.FAE_DBG_STATE_HOLD = (s.thread h.val T.val).hold
      ∧ s.onlyRegs t ([Reg.FAE_DBG_CMD h.val, Reg.FAE_DBG_STATE h.val] ++ (List.range 16).map (Reg.FAE_DBG_G h.val))
      ∧ s.onlyParts t [.regs])
  ∧ (∀ (s : State) (h : Fin 16) (T : Fin 512) (g : Fin 16) (x : Thread), x = s.thread h.val T.val → x.halted = true →
    ∃ t, exec (.writeG h T g) s = .next t
      ∧ t.thread h.val T.val = { x with g := listSet x.g g.val (s.reg (Reg.FAE_DBG_DATA h.val)) }
      ∧ s.onlyRegs t [Reg.FAE_DBG_CMD h.val] ∧ s.onlyShard t h.val ∧ s.onlyParts t [.regs, .shards])
  ∧ (∀ (s : State) (h : Fin 16) (T : Fin 512) (g : Fin 16) (c : Instr),
    c ∈ [Instr.resume h T, .step h T .ok, .debugAbort h T, .readCtx h T, .writeG h T g] → (s.thread h.val T.val).halted = false →
    ∃ t, exec c s = .next t ∧ t.flag (Reg.FAE_DBG_CMD h.val) Fld.FAE_DBG_CMD_ERR = true
      ∧ s.onlyRegs t [Reg.FAE_DBG_CMD h.val] ∧ s.onlyParts t [.regs])

/-- O32. A DMC accepts requests, completes reads and writes, merges words, closes idle rows. (R190, R258, R259, R260, R261, R262, R263,
R269) -/
def Obligations.DramQueues : Prop :=
  (∀ (s : State) (c : Fin 12) (k : Fin 2) (r : DmcReq) (a : LineAt), s.nextReq c.val k.val = some r →
    s.dmcReady = true → s.locate r.line = some a → r.op = .read → s.rankDead a = false → s.poisoned r.line = false →
    (s.sub c.val k.val).writeQ.contains r.line = false →
    exec (.dmcRequestAccept c k) s = .next (s.setSub c.val k.val { s.sub c.val k.val with
      waiting := (s.sub c.val k.val).waiting.erase r, last := r.thread / 512
      readQ := (s.sub c.val k.val).readQ ++ [{ r with data := some (s.lineBytes r.line) }] }))
  ∧ (∀ (s : State) (c : Fin 12) (k : Fin 2) (r : DmcReq) (a : LineAt) (b : List Byte), s.nextReq c.val k.val = some r →
    s.dmcReady = true → s.locate r.line = some a → r.op = .write b → r.mirror = none → s.rankDead a = false → s.poisoned r.line = false →
    ∃ t, exec (.dmcRequestAccept c k) s = .next t ∧ t.lineBytes r.line = bytesAt b 0 64
      ∧ (∀ l, l ≠ r.line → t.lineBytes l = s.lineBytes l) ∧ (t.sub a.ch a.sub).writeQ.contains r.line = true
      ∧ s.onlyParts t [.regs, .dram])
  ∧ (∀ (s : State) (c : Fin 12) (k : Fin 2) (i : Nat) (r : DmcReq) (a : LineAt) (cas : Option Nat),
    (s.sub c.val k.val).readQ[i]? = some r → s.locate r.line = some a → (s.sub c.val k.val).draining = false →
    s.firstInBank (s.sub c.val k.val).readQ i = true → s.dram.freq ≠ .selfRefresh → s.refreshFirst a = false →
    (s.thread (r.thread / 512) (r.thread % 512)).auxSt = .waiting cas →
    ∃ t, exec (.dmcReadDone c k i .ok) s = .next t
      ∧ (t.thread (r.thread / 512) (r.thread % 512)).auxSt = .answered cas true (r.data.map (wordsOf 8))
      ∧ (t.sub c.val k.val).readQ = (s.sub c.val k.val).readQ.eraseIdx i
      ∧ t.reg (Reg.DMC_CNT c.val Cnt.DMC_READS) = s.reg (Reg.DMC_CNT c.val Cnt.DMC_READS) + 1 ∧ s.onlyParts t [.regs, .dram, .shards])
  ∧ (∀ (s : State) (c : Fin 12) (k : Fin 2) (i : Nat), i < (s.sub c.val k.val).writeQ.length →
    (s.sub c.val k.val).draining = true ∨ (s.sub c.val k.val).readQ = [] →
    (s.sub c.val k.val).readQ.any (fun r => (s.sub c.val k.val).writeQ[i]? == some r.line) = false → s.dram.freq ≠ .selfRefresh →
    (∀ l a, (s.sub c.val k.val).writeQ[i]? = some l → s.locate l = some a → s.refreshFirst a = false) →
    ∃ t, exec (.dmcWriteDone c k i) s = .next t ∧ (t.sub c.val k.val).writeQ = (s.sub c.val k.val).writeQ.eraseIdx i
      ∧ t.reg (Reg.DMC_CNT c.val Cnt.DMC_WRITES) = s.reg (Reg.DMC_CNT c.val Cnt.DMC_WRITES) + 1 ∧ s.onlyParts t [.regs, .dram])
  ∧ (∀ (s : State) (c : Fin 12) (k : Fin 2) (r : DmcReq) (a : LineAt) (w : Nat) (expect new : Word64),
    s.nextCas c.val k.val = some r → r.op = .cas w expect new → w < 8 → r.mirror = none → s.dmcReady = true →
    (s.sub c.val k.val).readQ.any (fun x => x.line == r.line) = false → s.locate r.line = some a → s.rankDead a = false →
    s.poisoned r.line = false → (wordsOf 8 (s.lineBytes r.line)).getD w 0 = expect →
    (s.thread (r.thread / 512) (r.thread % 512)).auxSt = .waiting (some w) →
    ∃ t, exec (.rmw c k .ok) s = .next t
      ∧ t.lineBytes r.line = bytesPut (s.lineBytes r.line) (8 * w) (leBytes 8 new.toNat)
      ∧ (t.thread (r.thread / 512) (r.thread % 512)).auxSt = .answered (some w) true (some (wordsOf 8 (s.lineBytes r.line)))
      ∧ s.onlyParts t [.regs, .dram, .shards])
  ∧ (∀ (s : State) (c : Fin 12) (k : Fin 2) (b : Fin 128) (row m : Nat), Tbl.get none (s.sub c.val k.val).rows b.val = some (row, m) →
    s.tckTicks (s.fld (Reg.DMC_SCHED c.val) Fld.DMC_SCHED_IDLE_TCK) ≤ s.clk.mono - m →
    ∃ t, exec (.idleClose c k b) s = .next t ∧ Tbl.get none (t.sub c.val k.val).rows b.val = none
      ∧ t.reg (Reg.DMC_CNT c.val Cnt.DMC_IDLE_CLOSES) = s.reg (Reg.DMC_CNT c.val Cnt.DMC_IDLE_CLOSES) + 1
      ∧ s.onlyRegs t [Reg.DMC_CNT c.val Cnt.DMC_IDLE_CLOSES] ∧ s.onlyParts t [.regs, .dram])

/-- O33. Refresh, retries, scrubbing, migration, poison fill and the frequency change. (R264, R266, R267, R268, R270, R271, R272, R273) -/
def Obligations.DramUpkeep : Prop :=
  (∀ (s : State) (c : Fin 12) (r : Fin 4), r.val < s.ranks c.val → s.dram.freq ≠ .selfRefresh →
    s.refreshGap c.val r.val ≤ s.clk.mono - Tbl.get 0 s.dram.refreshAt (4 * c.val + r.val) →
    ∃ t, exec (.refresh c r) s = .next t ∧ Tbl.get 0 t.dram.refreshAt (4 * c.val + r.val) = s.clk.mono
      ∧ Tbl.get 0 t.dram.refreshBank (4 * c.val + r.val)
          = (if s.refreshAll c.val = true then 0 else (Tbl.get 0 s.dram.refreshBank (4 * c.val + r.val) + 1) % 4)
      ∧ t.reg (Reg.DMC_CNT c.val Cnt.DMC_REFRESHES) = s.reg (Reg.DMC_CNT c.val Cnt.DMC_REFRESHES) + 1
      ∧ s.onlyRegs t [Reg.DMC_CNT c.val Cnt.DMC_REFRESHES] ∧ s.onlyParts t [.regs, .dram])
  ∧ (∀ (s : State) (c : Fin 12) (r : Fin 4) (high : Bool), r.val < s.ranks c.val →
    ∃ t, exec (.refreshRateNeed c r high) s = .next t ∧ Tbl.get false t.dram.hot (4 * c.val + r.val) = high
      ∧ (high = true → t.flag (Reg.DMC_STATUS c.val) Fld.DMC_STATUS_HOT = true)
      ∧ s.onlyRegs t [Reg.DMC_STATUS c.val] ∧ s.onlyParts t [.regs, .dram])
  ∧ (∀ (s : State) (l failures : Nat) (a : LineAt), s.locate l = some a → 0 < failures → failures < 4 → s.rankMasked a = false →
    ∃ t, exec (.dimmAlert l false failures) s = .next t
      ∧ t.reg (Reg.DMC_CNT a.ch Cnt.DMC_CA_RETRY) = s.reg (Reg.DMC_CNT a.ch Cnt.DMC_CA_RETRY) + 1 ∧ s.onlyParts t [.regs, .fault])
  ∧ (∀ (s : State) (c : Fin 12) (k : Fin 2) (e : Ecc), s.populated c.val = true →
    s.flag (Reg.DMC_CTL c.val) Fld.DMC_CTL_SCRUB_EN = true → s.dmcReady = true → s.space ≠ 0 → s.bgMay c.val k.val = true →
    (s.fld (Reg.DMC_SCRUB c.val) Fld.DMC_SCRUB_INTERVAL_NS * 4 + 4) / 5 ≤ s.clk.mono - (s.sub c.val k.val).scrubAt →
    ∃ t, exec (.scrubLine c k e) s = .next t
      ∧ (t.sub c.val k.val).scrub = (if s.mappedRanks c.val * 2 ^ s.rlLog c.val ≤ (s.sub c.val k.val).scrub + 1 then 0
          else (s.sub c.val k.val).scrub + 1)
      ∧ (t.sub c.val k.val).scrubAt = s.clk.mono
      ∧ t.reg (Reg.DMC_CNT c.val Cnt.DMC_SCRUB_LINES) = s.reg (Reg.DMC_CNT c.val Cnt.DMC_SCRUB_LINES) + 1
      ∧ s.onlyParts t [.regs, .dram, .fault])
  ∧ (∀ (s : State) (c : Fin 12) (k : Fin 2) (e : Ecc), s.migState c.val = 1 → s.dmcReady = true →
    (s.sub c.val k.val).cursor < 2 ^ s.rlLog c.val → (s.sub c.val k.val).writeQ.contains (s.migLine c.val k.val) = false →
    s.bgMay c.val k.val = true →
    ∃ t, exec (.migrationCopyStep c k e) s = .next t ∧ (t.sub c.val k.val).cursor = (s.sub c.val k.val).cursor + 1
      ∧ (e = .uncorrectable → t.poisoned (s.migLine c.val k.val) = true)
      ∧ t.reg (Reg.DMC_CNT c.val Cnt.DMC_MIG_LINES) = s.reg (Reg.DMC_CNT c.val Cnt.DMC_MIG_LINES) + 1)
  ∧ (∀ (s : State) (c : Fin 12) (k : Fin 2), s.migState c.val = 2 → s.dmcReady = true →
    (s.sub c.val k.val).cursor < 2 ^ s.rlLog c.val → s.bgMay c.val k.val = true →
    ∃ t, exec (.poisonFillStep c k) s = .next t ∧ (t.sub c.val k.val).cursor = (s.sub c.val k.val).cursor + 1
      ∧ t.poisoned (s.migLine c.val k.val) = true
      ∧ t.reg (Reg.DMC_CNT c.val Cnt.DMC_MIG_POISONED) = s.reg (Reg.DMC_CNT c.val Cnt.DMC_MIG_POISONED) + 1)
  ∧ (∀ (s : State) (v : Fin 4), s.freqError v.val (s.fld Reg.CST_ADM_MISS Fld.CST_ADM_MISS_DEMAND) = none →
    ∃ t, exec (.freqGo v) s = .next t ∧ t.dram = { s.dram with freq := .draining, freqAt := s.clk.mono, freqTo := v.val }
      ∧ t.flag (Reg.DMC_FREQ 0) Fld.DMC_FREQ_BUSY = true ∧ t.fld (Reg.DMC_FREQ 0) Fld.DMC_FREQ_TARGET = v.val
      ∧ s.onlyRegs t [Reg.DMC_FREQ 0] ∧ s.onlyParts t [.regs, .dram])
  ∧ (∀ s : State, s.dram.freq = .draining → s.dmcQuiet = true →
    ∃ t, exec .freqSelfRefresh s = .next t ∧ t.dram = { s.dram with freq := .selfRefresh }
      ∧ (∀ c ∈ s.channels, t.flag (Reg.DMC_STATUS c) Fld.DMC_STATUS_IN_SR = true)
      ∧ s.onlyRegs t (s.channels.map Reg.DMC_STATUS) ∧ s.onlyParts t [.regs, .dram])
  ∧ (∀ s : State, s.dram.freq = .selfRefresh → s.power.shutdown = false →
    ∃ t, exec .freqChangeDone s = .next t ∧ t.dram = { s.dram with freq := .idle }
      ∧ t.fld (Reg.DMC_FREQ 0) Fld.DMC_FREQ_SPEED = s.dram.freqTo % 2 ^ Fld.DMC_FREQ_SPEED.len
      ∧ t.flag (Reg.DMC_FREQ 0) Fld.DMC_FREQ_BUSY = false
      ∧ (∀ c ∈ s.channels, t.flag (Reg.DMC_STATUS c) Fld.DMC_STATUS_IN_SR = false) ∧ s.onlyParts t [.regs, .dram, .cast, .free])

/-- O34. Allocation, free and hand-over of pool buffers, cache refill and spill, META_CMD. (R278, R279, R280, R281, R282, R283, R284, R285)
-/
def Obligations.BufferPools : Prop :=
  (∀ (s : State) (r : Fin 23) (x : Nat), s.flag Reg.BPM_STATUS Fld.BPM_STATUS_READY = true → s.poolCount 1 ≠ 0 →
    s.down unitBpm = false → (s.cache (reqQuad r.val) 1).free.find? s.ptrOn = some x → ptrPool x = 1 →
    s.askedBefore r.val 1 < s.cached (reqQuad r.val) 1 →
    ∃ t, exec (.poolAllocate r (1, .ok)) s = .next t ∧ t.readback = [BitVec.ofNat 64 x]
      ∧ Tbl.get 0 t.pools.meta1 (ptrIndex x) = 1 + 2 * r.val
      ∧ (t.cache (reqQuad r.val) 1).free = (s.cache (reqQuad r.val) 1).free.erase x
      ∧ t.reg (Reg.BPM_CNT (Cnt.BPM_ALLOC + 1)) = s.reg (Reg.BPM_CNT (Cnt.BPM_ALLOC + 1)) + 1
      ∧ s.onlyRegs t [Reg.BPM_CNT (Cnt.BPM_ALLOC + 1)] ∧ s.onlyParts t [.regs, .readback, .pools])
  ∧ (∀ (s : State) (r : Fin 23) (i : Fin 16777216), s.flag Reg.BPM_STATUS Fld.BPM_STATUS_READY = true → s.down unitBpm = false →
    s.cached (reqQuad r.val) 1 < 512 → i.val < s.poolCount 1 → Tbl.get 0 s.pools.meta1 i.val = 1 + 2 * r.val →
    ∃ t, exec (.poolFree r 1 (i, .ok)) s = .next t ∧ Tbl.get 0 t.pools.meta1 i.val = 0
      ∧ (t.cache (reqQuad r.val) 1).free = (s.cache (reqQuad r.val) 1).free ++ [ptrOf 1 i.val]
      ∧ t.reg (Reg.BPM_CNT (Cnt.BPM_FREE + 1)) = s.reg (Reg.BPM_CNT (Cnt.BPM_FREE + 1)) + 1
      ∧ s.onlyRegs t [Reg.BPM_CNT (Cnt.BPM_FREE + 1)] ∧ s.onlyParts t [.regs, .pools])
  ∧ (∀ (s : State) (r : Fin 23) (i : Fin 16777216), s.flag Reg.BPM_STATUS Fld.BPM_STATUS_READY = true → s.down unitBpm = false →
    s.cached (reqQuad r.val) 1 < 512 → i.val < s.poolCount 1 → Tbl.get 0 s.pools.meta1 i.val % 2 = 0 →
    ∃ t, exec (.poolFree r 1 (i, .ok)) s = .next t ∧ t.flag Reg.BPM_STATUS Fld.BPM_STATUS_FREE_ERR = true
      ∧ t.reg (Reg.BPM_CNT Cnt.BPM_DOUBLE_FREE) = s.reg (Reg.BPM_CNT Cnt.BPM_DOUBLE_FREE) + 1 ∧ s.onlyParts t [.regs, .fault])
  ∧ (∀ (s : State) (r w : Fin 23) (i : Fin 16777216), s.flag Reg.BPM_STATUS Fld.BPM_STATUS_READY = true → s.down unitBpm = false →
    i.val < s.poolCount 1 → Tbl.get 0 s.pools.meta1 i.val = 1 + 2 * r.val →
    ∃ t, exec (.poolGive r 1 (i, .ok) w) s = .next t ∧ Tbl.get 0 t.pools.meta1 i.val = 1 + 2 * w.val
      ∧ t.reg (Reg.BPM_CNT Cnt.BPM_GIVES) = s.reg (Reg.BPM_CNT Cnt.BPM_GIVES) + 1
      ∧ s.onlyRegs t [Reg.BPM_CNT Cnt.BPM_GIVES] ∧ s.onlyParts t [.regs, .pools])
  ∧ (∀ (s : State) (q p : Fin 4) (b : List Byte), s.dmcReady = true → s.down unitBpm = false → s.cached q.val p.val < 16 →
    (s.ring p.val).lines = 1 → (s.dramRead (s.ringLine p.val (s.ring p.val).head) true .ok).1 = some b →
    ∃ t, exec (.cacheRefill q p) s = .next t
      ∧ (t.cache q.val p.val).free = (s.cache q.val p.val).free ++ (List.range 16).map (fun j => leNat (bytesAt b (4 * j) 4))
      ∧ t.ring p.val = { head := (s.ring p.val).head + 1, lines := 0 } ∧ s.onlyParts t [.regs, .dram, .pools, .links])
  ∧ (∀ (s : State) (q p : Fin 4), s.dmcReady = true → s.down unitBpm = false → s.lowMode p.val = true →
    64 < (s.cache q.val p.val).free.length → (s.cache q.val p.val).free.length ≤ 80 → 16 ≤ s.credit (lnkPool p.val) →
    (∀ x ∈ (s.cache q.val p.val).free, s.ptrOn x = true) → (s.cache q.val p.val).frees = [] →
    ∃ t, exec (.cacheSpill q p) s = .next t
      ∧ (t.cache q.val p.val).free = (s.cache q.val p.val).free.take ((s.cache q.val p.val).free.length - 16)
      ∧ t.reg (Reg.BPM_CNT Cnt.BPM_RING_LINE_WRITES) = s.reg (Reg.BPM_CNT Cnt.BPM_RING_LINE_WRITES) + 1
      ∧ s.onlyParts t [.regs, .dram, .pools, .links])
  ∧ (∀ (s : State) (i : Fin 16777216), i.val < s.poolCount 1 →
    ∃ t, exec (.metaRead (i, .ok) 1) s = .next t ∧ t.flag Reg.BPM_META_CMD Fld.BPM_META_CMD_LOST = false
      ∧ t.fld Reg.BPM_META_CMD Fld.BPM_META_CMD_ALLOC = Tbl.get 0 s.pools.meta1 i.val % 2
      ∧ t.fld Reg.BPM_META_CMD Fld.BPM_META_CMD_OWNER = Tbl.get 0 s.pools.meta1 i.val / 2 % 2 ^ Fld.BPM_META_CMD_OWNER.len
      ∧ s.onlyRegs t [Reg.BPM_META_CMD] ∧ s.onlyParts t [.regs])
  ∧ (∀ (s : State) (i : Fin 16777216), i.val < s.poolCount 1 →
    ∃ t, exec (.metaRead (i, .uncorrectable) 1) s = .next t ∧ t.flag Reg.BPM_META_CMD Fld.BPM_META_CMD_LOST = true
      ∧ s.onlyRegs t [Reg.BPM_META_CMD] ∧ s.onlyParts t [.regs])
  ∧ (∀ (s : State) (i : Fin 16777216) (p : Fin 4) (e : Ecc), s.poolCount p.val ≤ i.val →
    ∃ t, exec (.metaRead (i, e) p) s = .next t ∧ t.flag Reg.BPM_META_CMD Fld.BPM_META_CMD_ERR = true
      ∧ s.onlyRegs t [Reg.BPM_META_CMD] ∧ s.onlyParts t [.regs])

/-- O35. A TM takes descriptors, updates averages, refills shapers, picks frames, sweeps gauges; its table commands. (R295, R296, R297,
R301, R302, R304, R307, R310, R311, R316, R319, R327) -/
def Obligations.TrafficManagers : Prop :=
  (∀ (s : State) (q : Fin 4) (e : CellEcc) (ft : Bool) (ue : List Nat) (i : Nat) (d : Desc) (r : List Desc), s.down (unitTm q.val) = false →
    s.nextInput q.val = some i → Tbl.get [] s.tm.relIn (32 * q.val + i) = d :: r → d.own = true →
    d.res0.get r0Disp = 0 → d.res0.get r0Mcast = 0 → s.mirrorQuad d ≠ some q.val → s.sampleQuad d ≠ some q.val →
    d.res0.get r0Egress < 512 → d.res0.get r0Egress ≠ sumGet d.summary sumInPort →
    s.rate (d.res0.get r0Egress) ≠ 0 → s.enableBit (d.res0.get r0Egress) = true → s.descInUse q.val < 1048576 →
    let u := s.ucQueue (d.res0.get r0Egress) (d.res0.get r0Qclass)
    depthOf (s.queue q.val u) + d.cellCnt ≤ s.fld (Reg.TMG_QCFG0 q.val u) Fld.TMG_QCFG0_Q_MAX →
    depthOf (s.queue q.val u) + d.cellCnt ≤ s.fld (Reg.TMG_QCFG0 q.val u) Fld.TMG_QCFG0_Q_MIN →
    ∃ t, exec (.tmDescriptorTake q e (ft, ue)) s = .next t
      ∧ t.queue q.val u = s.queue q.val u ++ [{ refCopy d (d.res0.get r0Egress) (d.res0.get r0Qclass) false with mono := s.clk.mono }]
      ∧ Tbl.get [] t.tm.relIn (32 * q.val + i) = r
      ∧ (t.link (lnkRelease i q.val)).owed = (s.link (lnkRelease i q.val)).owed + 1
      ∧ (∀ v, v ≠ u → t.queue q.val v = s.queue q.val v))
  ∧ (∀ (s : State) (k : Fin 64), s.flag (Reg.BUF_SAMP_CFG k.val) Fld.BUF_SAMP_CFG_RAND_START = false →
    ∃ t, exec (.samplerEnable k) s = .next t ∧ t.flag (Reg.BUF_SAMP_CFG k.val) Fld.BUF_SAMP_CFG_EN = true
      ∧ Tbl.get ⟨0⟩ t.tm.samplers k.val = ⟨0⟩ ∧ s.onlyRegs t [Reg.BUF_SAMP_CFG k.val] ∧ s.onlyParts t [.regs, .tm])
  ∧ (∀ (s : State) (k : Fin 64), s.flag (Reg.BUF_SAMP_CFG k.val) Fld.BUF_SAMP_CFG_RAND_START = true →
    ∃ t, exec (.samplerEnable k) s = .next t ∧ t.flag (Reg.BUF_SAMP_CFG k.val) Fld.BUF_SAMP_CFG_EN = true
      ∧ (Tbl.get ⟨0⟩ t.tm.samplers k.val).count ≤ s.fld (Reg.BUF_SAMP_CFG k.val) Fld.BUF_SAMP_CFG_N_MINUS_1
      ∧ s.onlyRegs t [Reg.BUF_SAMP_CFG k.val] ∧ s.onlyParts t [.regs, .tm, .free])
  ∧ (∀ (s : State) (q : Fin 4), s.down (unitTm q.val) = false →
    ∃ t, exec (.wredAvgUpdate q) s = .next t
      ∧ (∀ u, u < 656 → t.fld (Reg.TMG_QAVG q.val u) Fld.TMG_QAVG_AVG
          = ((s.fld (Reg.TMG_QAVG q.val u) Fld.TMG_QAVG_AVG * (2 ^ s.fld (Reg.TMG_WRED_CTL q.val) Fld.TMG_WRED_CTL_WEIGHT - 1)
              + 256 * depthOf (s.queue q.val u)) / 2 ^ s.fld (Reg.TMG_WRED_CTL q.val) Fld.TMG_WRED_CTL_WEIGHT)
            % 2 ^ Fld.TMG_QAVG_AVG.len)
      ∧ s.onlyRegs t ((List.range 656).map (Reg.TMG_QAVG q.val)) ∧ s.onlyParts t [.regs])
  ∧ (∀ (s : State) (g : Fin 65536) (q : Fin 4), ∃ t, exec (.mcgRead g q) s = .next t
      ∧ t.reg Reg.BUF_MCG_DATA0 = (Tbl.get 0#128 s.tm.members (65536 * q.val + g.val)).setWidth 64
      ∧ t.reg Reg.BUF_MCG_DATA1 = ((Tbl.get 0#128 s.tm.members (65536 * q.val + g.val)) >>> 64).setWidth 64
      ∧ s.onlyRegs t [Reg.BUF_MCG_DATA0, Reg.BUF_MCG_DATA1, Reg.BUF_MCG_CMD] ∧ s.onlyParts t [.regs])
  ∧ (∀ (s : State) (g : Fin 65536) (q : Fin 4), ∃ t, exec (.mcgWrite g q) s = .next t
      ∧ Tbl.get 0#128 t.tm.members (65536 * q.val + g.val)
        = ((s.reg Reg.BUF_MCG_DATA1).setWidth 128 <<< 64 ||| (s.reg Reg.BUF_MCG_DATA0).setWidth 128)
      ∧ ((t.groupMask g.val).testBit q.val = false ↔ Tbl.get 0#128 t.tm.members (65536 * q.val + g.val) = 0)
      ∧ s.onlyRegs t [Reg.BUF_MCG_CMD] ∧ s.onlyParts t [.regs, .tm])
  ∧ (∀ (s : State) (q : Fin 4) (u : Fin 1024) (ue : List Nat), u.val ≤ 655 →
    ∃ t, exec (.queueFlush q (u, ue)) s = .next t ∧ t.queue q.val u.val = [] ∧ (∀ v, v ≠ u.val → t.queue q.val v = s.queue q.val v))
  ∧ (∀ (s : State) (q : Fin 4) (u : Fin 1024) (ue : List Nat), 655 < u.val →
    ∃ t, exec (.queueFlush q (u, ue)) s = .next t ∧ t.flag (Reg.TMG_QCMD q.val) Fld.TMG_QCMD_ERR = true
      ∧ s.onlyRegs t [Reg.TMG_QCMD q.val] ∧ s.onlyParts t [.regs, .buf])
  ∧ (∀ (s : State) (q : Fin 4) (p u : Nat) (c : Copy) (r : List Copy),
    ((List.range 128).map (fun i => 128 * q.val + (Tbl.get 127 s.tm.lastPort q.val + 1 + i) % 128)).find?
      (fun p => (s.pickQueue p).isSome) = some p → s.pickQueue p = some u → s.queue q.val u = c :: r →
    ∃ t, exec (.tmPick q) s = .next t ∧ t.queue q.val u = r
      ∧ Tbl.get [] (t.port p).egr c.cls = Tbl.get [] (s.port p).egr c.cls ++ [c]
      ∧ Tbl.get 127 t.tm.lastPort q.val = p % 128
      ∧ t.reg (Reg.TMG_SCH_CNT q.val Cnt.TSCH_PICKS) = s.reg (Reg.TMG_SCH_CNT q.val Cnt.TSCH_PICKS) + 1
      ∧ s.onlyPort t p ∧ s.onlyParts t [.regs, .tm, .ports, .links])
  ∧ (∀ (s : State) (q : Fin 4) (u : Nat) (x : Int), u < 656 → Tbl.wf (fun _ => none) s.tm.buckets = true →
    Tbl.get none s.tm.buckets (queueBucket q.val u) = some { tokens := x } →
    ∃ t, exec (.shaperRefill q) s = .next t
      ∧ Tbl.get none t.tm.buckets (queueBucket q.val u) = some ⟨
          min ((s.fld (Reg.TMG_QSHAPE_BURST q.val u) Fld.TMG_QSHAPE_BURST_BURST * 65536 : Nat) : Int)
            (x + refillGain (s.fld (Reg.TMG_QSHAPE_RATE q.val u) Fld.TMG_QSHAPE_RATE_RATE))⟩
      ∧ s.onlyParts t [.tm])
  ∧ (∀ (s : State) (q : Fin 4), s.down (unitTm q.val) = false → 0 < s.fld (Reg.TMG_GAUGE_CTL q.val) Fld.TMG_GAUGE_CTL_PERIOD_US →
    Tbl.get 0 s.tm.gaugeAt q.val + usTicks (s.fld (Reg.TMG_GAUGE_CTL q.val) Fld.TMG_GAUGE_CTL_PERIOD_US) ≤ s.clk.mono →
    ∃ t, exec (.gaugeSweep q) s = .next t
      ∧ (∀ u, u < 656 → t.fld (Reg.TMG_GAUGE_SNAP q.val (1 - s.fld (Reg.TMG_GAUGE_STATUS q.val) Fld.TMG_GAUGE_STATUS_BANK) u)
          Fld.TMG_GAUGE_SNAP_DEPTH = depthOf (s.queue q.val u) % 2 ^ Fld.TMG_GAUGE_SNAP_DEPTH.len)
      ∧ t.fld (Reg.TMG_GAUGE_STATUS q.val) Fld.TMG_GAUGE_STATUS_BANK = 1 - s.fld (Reg.TMG_GAUGE_STATUS q.val) Fld.TMG_GAUGE_STATUS_BANK
      ∧ t.fld (Reg.TMG_GAUGE_STATUS q.val) Fld.TMG_GAUGE_STATUS_SEQ
        = (s.fld (Reg.TMG_GAUGE_STATUS q.val) Fld.TMG_GAUGE_STATUS_SEQ + 1) % 2 ^ Fld.TMG_GAUGE_STATUS_SEQ.len
      ∧ s.onlyParts t [.regs, .tm])
  ∧ (∀ (s : State) (q : Fin 4) (i : Fin 262144), ∃ t, exec (.nhRead q i) s = .next t
      ∧ t.reg (Reg.TMG_NH_DATA q.val 0) = (s.nextHop q.val i.val).n0 ∧ t.reg (Reg.TMG_NH_DATA q.val 1) = (s.nextHop q.val i.val).n1
      ∧ t.reg (Reg.TMG_NH_DATA q.val 2) = (s.nextHop q.val i.val).n2 ∧ t.reg (Reg.TMG_NH_DATA q.val 3) = (s.nextHop q.val i.val).n3
      ∧ s.onlyRegs t [Reg.TMG_NH_CMD q.val, Reg.TMG_NH_DATA q.val 0, Reg.TMG_NH_DATA q.val 1, Reg.TMG_NH_DATA q.val 2, Reg.TMG_NH_DATA q.val 3]
      ∧ s.onlyParts t [.regs])
  ∧ (∀ (s : State) (q : Fin 4) (i : Fin 262144), ∃ t, exec (.nhWrite q i) s = .next t
      ∧ t.nextHop q.val i.val = { n0 := s.reg (Reg.TMG_NH_DATA q.val 0), n1 := s.reg (Reg.TMG_NH_DATA q.val 1)
                                  n2 := s.reg (Reg.TMG_NH_DATA q.val 2), n3 := s.reg (Reg.TMG_NH_DATA q.val 3) }
      ∧ (∀ j, j ≠ i.val → t.nextHop q.val j = s.nextHop q.val j)
      ∧ s.onlyRegs t [Reg.TMG_NH_CMD q.val] ∧ s.onlyParts t [.regs, .tm])

/-- O36. GCL_CMD: READ, WRITE, ARM, CANCEL, DISABLE; take-over and entry changes. (R321, R322, R323, R324, R325) -/
def Obligations.TimeGates : Prop :=
  (∀ (s : State) (p : Fin 512) (n : Fin 256) (b : Fin 2), ∃ t, exec (.gclRead p n b) s = .next t
      ∧ t.fld (Reg.TMG_GCL_DATA (p.val / 128)) Fld.TMG_GCL_DATA_GATES = Tbl.get 0 s.tm.gcl (gclKey p.val b.val n.val) % 256
      ∧ t.fld (Reg.TMG_GCL_DATA (p.val / 128)) Fld.TMG_GCL_DATA_INTERVAL_NS
        = (Tbl.get 0 s.tm.gcl (gclKey p.val b.val n.val) / 256) % 2 ^ Fld.TMG_GCL_DATA_INTERVAL_NS.len
      ∧ s.onlyRegs t [Reg.TMG_GCL_CMD (p.val / 128), Reg.TMG_GCL_DATA (p.val / 128)] ∧ s.onlyParts t [.regs])
  ∧ (∀ (s : State) (p : Fin 512) (n : Fin 256) (b : Fin 2), s.rate p.val ≠ 0 → (s.gate p.val).pending = none →
    (s.gate p.val).active = none ∨ b.val ≠ (s.gate p.val).bank →
    ∃ t, exec (.gclWrite p n b) s = .next t
      ∧ Tbl.get 0 t.tm.gcl (gclKey p.val (1 - (s.gate p.val).bank) n.val)
        = s.fld (Reg.TMG_GCL_DATA (p.val / 128)) Fld.TMG_GCL_DATA_GATES
          + 256 * s.fld (Reg.TMG_GCL_DATA (p.val / 128)) Fld.TMG_GCL_DATA_INTERVAL_NS
      ∧ s.onlyRegs t [Reg.TMG_GCL_CMD (p.val / 128)] ∧ s.onlyParts t [.regs, .tm])
  ∧ (∀ (s : State) (p : Fin 512) (len start : Nat), s.rate p.val ≠ 0 → (s.gate p.val).pending = none →
    len = s.fld (Reg.TMG_GCL_ARM (p.val / 128)) Fld.TMG_GCL_ARM_LEN →
    start = s.fld (Reg.TMG_GCL_TIME_SEC (p.val / 128)) Fld.TMG_GCL_TIME_SEC_SEC * 1000000000
      + s.fld (Reg.TMG_GCL_TIME_NS (p.val / 128)) Fld.TMG_GCL_TIME_NS_NS →
    s.clk.fine + 1000 * 4294967296 ≤ start * 4294967296 → listLengthOk (s.gateEntries p.val (1 - (s.gate p.val).bank) len) = true →
    listRunsOk (s.gateEntries p.val (1 - (s.gate p.val).bank) len)
      (s.gateMin p.val (s.fld (Reg.PRT_MTU (p.val / 2) (p.val % 2)) Fld.PRT_MTU_MAX_FRAME)
        (s.fld (Reg.TMG_GATE_CFG (p.val / 128) (p.val % 128)) Fld.TMG_GATE_CFG_GUARD_NS)) = true →
    ∃ t, exec (.arm p) s = .next t
      ∧ t.gate p.val = { s.gate p.val with pending := some { bank := 1 - (s.gate p.val).bank, len := len, start := start } }
      ∧ t.flag (Reg.TMG_GATE_STATUS (p.val / 128) (p.val % 128)) Fld.TMG_GATE_STATUS_PENDING = true
      ∧ s.onlyRegs t [Reg.TMG_GCL_CMD (p.val / 128), Reg.TMG_GATE_STATUS (p.val / 128) (p.val % 128)] ∧ s.onlyParts t [.regs, .tm])
  ∧ (∀ (s : State) (p : Fin 512), s.rate p.val ≠ 0 → (s.gate p.val).pending.isSome = true →
    ∃ t, exec (.arm p) s = .next t ∧ t.fld (Reg.TMG_GCL_CMD (p.val / 128)) Fld.TMG_GCL_CMD_ERR_CODE = 3
      ∧ t.reg (Reg.TMG_SCH_CNT (p.val / 128) Cnt.TSCH_GCL_ARM_REJECTS) = s.reg (Reg.TMG_SCH_CNT (p.val / 128) Cnt.TSCH_GCL_ARM_REJECTS) + 1
      ∧ s.onlyParts t [.regs])
  ∧ (∀ (s : State) (p : Fin 512), ∃ t, exec (.cancel p) s = .next t ∧ t.gate p.val = { s.gate p.val with pending := none }
      ∧ s.onlyRegs t [Reg.TMG_GATE_STATUS (p.val / 128) (p.val % 128)] ∧ s.onlyParts t [.regs, .tm])
  ∧ (∀ (s : State) (p : Fin 512), ∃ t, exec (.disable p) s = .next t ∧ (t.gate p.val).active = none ∧ (t.gate p.val).pending = none
      ∧ t.fld (Reg.TMG_GATE_STATUS (p.val / 128) (p.val % 128)) Fld.TMG_GATE_STATUS_OPEN = 255
      ∧ s.onlyRegs t [Reg.TMG_GATE_STATUS (p.val / 128) (p.val % 128)] ∧ s.onlyParts t [.regs, .tm])
  ∧ (∀ (s : State) (p : Fin 512) (l : GateList), (s.gate p.val).pending = some l → (l.start : Int) * 4294967296 ≤ s.wireTime p.val →
    ∃ t, exec (.gclTakeover p) s = .next t ∧ t.gate p.val = { active := some l, pending := none, bank := l.bank }
      ∧ t.reg (Reg.TMG_SCH_CNT (p.val / 128) Cnt.TSCH_GCL_TAKEOVERS) = s.reg (Reg.TMG_SCH_CNT (p.val / 128) Cnt.TSCH_GCL_TAKEOVERS) + 1
      ∧ s.onlyRegs t [Reg.TMG_SCH_CNT (p.val / 128) Cnt.TSCH_GCL_TAKEOVERS, Reg.TMG_GATE_STATUS (p.val / 128) (p.val % 128)]
      ∧ s.onlyParts t [.regs, .tm])
  ∧ (∀ (s : State) (p : Fin 512), ∃ t, exec (.gateEntryChange p) s = .next t
      ∧ t.fld (Reg.TMG_GATE_STATUS (p.val / 128) (p.val % 128)) Fld.TMG_GATE_STATUS_OPEN = (s.gateNow p.val).2 % 256
      ∧ t.fld (Reg.TMG_GATE_STATUS (p.val / 128) (p.val % 128)) Fld.TMG_GATE_STATUS_CUR_ENTRY
        = (s.gateNow p.val).1 % 2 ^ Fld.TMG_GATE_STATUS_CUR_ENTRY.len
      ∧ s.onlyRegs t [Reg.TMG_GATE_STATUS (p.val / 128) (p.val % 128)] ∧ s.onlyPort t p.val ∧ s.onlyParts t [.regs, .ports])

/-- O37. A port starts the frame of the class that may go and completes it on the wire. (R317, R318, R329, 12_egress.md) -/
def Obligations.EgressFrames : Prop :=
  (∀ (s : State) (p : Fin 512) (e : CellEcc) (cls : Nat) (c : Copy) (r : List Copy), s.portEnabled p.val = true →
    s.down (unitSlice (sliceOf p.val)) = false → (s.port p.val).tx = none → (s.port p.val).fcPend = [] ∨ s.linkUp p.val = false →
    s.startClass p.val = some cls → Tbl.get [] (s.port p.val).egr cls = c :: r → c.body.isPool = true →
    ∃ t x, exec (.egressFrameStart p e) s = .next t ∧ (t.port p.val).tx = some x ∧ x.copy = c ∧ x.linkDown = !s.linkUp p.val
      ∧ Tbl.get [] (t.port p.val).egr cls = r ∧ s.onlyPort t p.val)
  ∧ (∀ (s : State) (p : Fin 512) (x : TxNow), (s.port p.val).tx = some x → s.looped p.val = false →
    ∃ t, exec (.txCopyDone p false) s = .next t ∧ (t.port p.val).tx = none ∧ (t.port p.val).wire = x.bytes
      ∧ t.reg (Reg.PRT_CNT (p.val / 2) (p.val % 2) Cnt.PRT_TX_FRAMES) = s.reg (Reg.PRT_CNT (p.val / 2) (p.val % 2) Cnt.PRT_TX_FRAMES) + 1
      ∧ t.reg (Reg.PRT_CNT (p.val / 2) (p.val % 2) Cnt.PRT_TX_OCTETS)
        = s.reg (Reg.PRT_CNT (p.val / 2) (p.val % 2) Cnt.PRT_TX_OCTETS) + BitVec.ofNat 64 x.bytes.length
      ∧ s.onlyPort t p.val)

/-- O38. Credit return, overrun, time-out and resynchronisation. (R20, R21, R22, R23, R24, R25, R399) -/
def Obligations.CreditLinks : Prop :=
  (∀ (s : State) (k : LinkId), (s.link (linkKey k)).stage = .up → (s.link (linkKey k)).credit < s.linkCap (linkKey k) →
    (s.link (linkKey k)).owed ≠ 0 →
    ∃ t, exec (.creditReturn k) s = .next t ∧ (t.link (linkKey k)).credit = (s.link (linkKey k)).credit + 1
      ∧ (t.link (linkKey k)).owed = (s.link (linkKey k)).owed - 1 ∧ (t.link (linkKey k)).lastReturn = s.clk.mono
      ∧ (∀ j, j ≠ linkKey k → t.link j = s.link j) ∧ s.onlyParts t [.links])
  ∧ (∀ (s : State) (k : LinkId), (s.link (linkKey k)).stage = .up → s.linkCap (linkKey k) ≤ (s.link (linkKey k)).credit →
    s.down (linkUnits (linkKey k)).1 = false → s.down (linkUnits (linkKey k)).2 = false →
    ∃ t, exec (.creditReturn k) s = .next t ∧ t.unitState (linkUnits (linkKey k)).2 = 1)
  ∧ (∀ (s : State) (k : LinkId) (m : Nat), (s.link (linkKey k)).stage = .up → (s.link (linkKey k)).since = some m →
    s.linkHolds (linkKey k) = false → s.linkTimeout (linkKey k) ≤ 2 * (s.clk.mono - (s.link (linkKey k)).quietSince m) →
    (s.link (linkKey k)).credit < s.linkCap (linkKey k) →
    s.down (linkUnits (linkKey k)).1 = false → s.down (linkUnits (linkKey k)).2 = false →
    ∃ t, exec (.creditTimeout k false) s = .next t ∧ t.unitState (linkUnits (linkKey k)).2 = 1)
  ∧ (∀ (s : State) (k : LinkId), exec (.creditTimeout k true) s = .next s)
  ∧ (∀ (s : State) (k : LinkId), (s.link (linkKey k)).stage = .stopped → s.down (linkUnits (linkKey k)).1 = false →
    s.down (linkUnits (linkKey k)).2 = false →
    ∃ t, exec (.creditResync k) s = .next t ∧ (t.link (linkKey k)).stage = .loaded ∧ (t.link (linkKey k)).owed = 0
      ∧ (∀ h, k = .ready h → (t.link (linkKey k)).credit = 4096) ∧ (∀ h, k = .record h → (t.link (linkKey k)).credit = 512)
      ∧ (∀ h, k = .miss h → (t.link (linkKey k)).credit = 8192) ∧ (∀ h, k = .fill h → (t.link (linkKey k)).credit = 1024)
      ∧ (∀ i h, k = .dispatch i h → (t.link (linkKey k)).credit = 32) ∧ (∀ i q, k = .release i q → (t.link (linkKey k)).credit = 256))
  ∧ (∀ (s : State) (k : LinkId), (s.link (linkKey k)).stage = .loaded →
    exec (.creditResyncAck k) s = .next (s.setLink (linkKey k) { s.link (linkKey k) with stage := .up, lastReturn := s.clk.mono }))

/-- O39. Host and complex writes: accepted, turned away by phase, by domain, by claim. (R7, R344, R408, R458, R461) -/
def Obligations.RegisterAccesses : Prop :=
  (∀ (s : State) (a : Fin 268435456) (v : Word64), a.val = Reg.TOD_SET_SEC → s.phase = 11 →
    ∃ t, exec (.registerWrite a [v]) s = .next t
      ∧ t.fld Reg.TOD_SET_SEC Fld.TOD_SET_SEC_SEC = v.get Fld.TOD_SET_SEC_SEC
      ∧ s.onlyRegs t [Reg.TOD_SET_SEC] ∧ s.onlyParts t [.regs])
  ∧ (∀ (s : State) (a : Fin 268435456) (v : Word64) (r : RegDef), accessOk a.val 8 true = true →
    s.phase = 11 ∨ hostAlways a.val = true → s.answers a.val = true → findReg a.val = some r →
    r.imageOnly = false → r.fields.all (fun f => f.acc != .rc) = true →
    a.val ∉ [Reg.TOD_CTL, Reg.TOD_INCR, Reg.TOD_HOLD_TIMEOUT] → s.lowWrite s.early a.val v = none → s.midWrite s.early a.val v = none →
    s.highWrite s.early a.val v = none →
    let w := regHostWrite s.early a.val (s.reg a.val) (writeMask a.val (s.reg a.val) v)
    valueOk a.val w = true → s.writeAllowed ((s.beforeStore a.val).setReg a.val w) a.val = true →
    ∃ t, exec (.registerWrite a [v]) s = .next t ∧ t.reg a.val = w)
  ∧ (∀ (s : State) (a : Fin 268435456) (ws : List Word64), accessOk a.val (8 * ws.length) true = true → hostAlways a.val = false →
    s.phase ≠ 11 →
    ∃ t, exec (.registerWrite a ws) s = .next t
      ∧ t.reg (Reg.CST_CNT Cnt.CST_HOST_DISCARDS) = s.reg (Reg.CST_CNT Cnt.CST_HOST_DISCARDS) + BitVec.ofNat 64 ws.length
      ∧ s.onlyRegs t [Reg.CST_CNT Cnt.CST_HOST_DISCARDS] ∧ s.onlyParts t [.regs])
  ∧ (∀ (s : State) (a : Fin 268435456) (len : Nat), accessOk a.val len true = true → s.answers a.val = false →
    ∃ t, exec (.accessDomainNotOn false a len) s = .next t ∧ t.reg Reg.GLB_BAD_ACCESS = s.reg Reg.GLB_BAD_ACCESS + 1
      ∧ t.readback = List.replicate (len / 8) 0
      ∧ s.onlyRegs t [Reg.GLB_BAD_ACCESS, Reg.GLB_BAD_LAST] ∧ s.onlyParts t [.regs, .readback])
  ∧ (∀ (s : State) (a : Fin 268435456) (len : Nat), accessOk a.val len true = true → s.answers a.val = false →
    s.phase = 11 ∨ hostAlways a.val = true →
    ∃ t, exec (.accessDomainNotOn true a len) s = .next t ∧ t.reg Reg.GLB_BAD_ACCESS = s.reg Reg.GLB_BAD_ACCESS + 1
      ∧ s.onlyRegs t [Reg.GLB_BAD_ACCESS, Reg.GLB_BAD_LAST] ∧ s.onlyParts t [.regs])
  ∧ (∀ (s : State) (a : Fin 268435456) (len : Nat), accessOk a.val len true = true → s.answers a.val = false →
    s.phase ≠ 11 → hostAlways a.val = false →
    ∃ t, exec (.accessDomainNotOn true a len) s = .next t
      ∧ t.reg (Reg.CST_CNT Cnt.CST_HOST_DISCARDS) = s.reg (Reg.CST_CNT Cnt.CST_HOST_DISCARDS) + 1
      ∧ s.onlyRegs t [Reg.CST_CNT Cnt.CST_HOST_DISCARDS] ∧ s.onlyParts t [.regs])
  ∧ (∀ (s : State) (x : Fin 2) (a : Fin 268435456) (v : Word64), s.haspAccepts x.val = true → s.phase = 11 →
    accessOk a.val 8 true = true →
    ∃ t, exec (.complexWrite x (.register a.val v)) s = .next t ∧ exec (.registerWrite a [v]) s = .next t)
  ∧ (∀ (s : State) (x : Fin 2) (a : Nat) (b : List Byte) (n : Nat), s.haspAccepts x.val = true → n < b.length →
    a + n < s.cast.flashLen →
    ∃ t, exec (.complexWrite x (.image a b)) s = .next t ∧ Tbl.get flashErased t.cast.flash (a + n) = b.getD n 0
      ∧ (∀ m, m < a ∨ a + b.length ≤ m → Tbl.get flashErased t.cast.flash m = Tbl.get flashErased s.cast.flash m)
      ∧ s.onlyParts t [.cast])
  ∧ (∀ (s : State) (x : Fin 2), s.haspAccepts x.val = true → exec (.complexWrite x .journal) s = .next s)
  ∧ (∀ (s : State) (x : Fin 2) (a : Nat) (b : List Byte), s.haspAccepts x.val = true → s.dmaEn = true → s.hostIsLost = false →
    ∃ t, exec (.complexWrite x (.host a b)) s = .next t ∧ memRead t.hif.mem a b.length = b ∧ s.onlyParts t [.hif])
  ∧ (∀ (s : State) (x : Fin 2) (w : CcWrite), s.haspAccepts x.val = false →
    ∃ t, exec (.complexWrite x w) s = .next t
      ∧ t.reg (Reg.CCX_CNT (6 + ccStage w)) = s.reg (Reg.CCX_CNT (6 + ccStage w)) + 1 ∧ s.onlyParts t [.regs, .fault])

/-- O40. An access that is not valid is discarded or reads as ones, is counted, and latched if the latch is empty. (R459) -/
def Obligations.AccessesThatAreNotValid : Prop :=
  ∀ (s : State) (w en : Bool) (a len : Nat), a < 0x10000000 → accessOk a len en = false →
    ∃ t, exec (.badAccess w a len en) s = .next t ∧ t.reg Reg.GLB_BAD_ACCESS = s.reg Reg.GLB_BAD_ACCESS + 1
      ∧ (s.flag Reg.GLB_BAD_LAST Fld.GLB_BAD_LAST_VALID = true → t.reg Reg.GLB_BAD_LAST = s.reg Reg.GLB_BAD_LAST)
      ∧ (s.flag Reg.GLB_BAD_LAST Fld.GLB_BAD_LAST_VALID = false →
          t.fld Reg.GLB_BAD_LAST Fld.GLB_BAD_LAST_ADDR = a ∧ t.flag Reg.GLB_BAD_LAST Fld.GLB_BAD_LAST_WRITE = w
          ∧ t.fld Reg.GLB_BAD_LAST Fld.GLB_BAD_LAST_CAUSE = 1 ∧ t.flag Reg.GLB_BAD_LAST Fld.GLB_BAD_LAST_VALID = true)
      ∧ (w = true → t.readback = s.readback)
      ∧ (w = false → t.readback = List.replicate ((len + 7) / 8) (BitVec.allOnes 64))
      ∧ s.onlyRegs t [Reg.GLB_BAD_ACCESS, Reg.GLB_BAD_LAST] ∧ s.onlyParts t [.regs, .readback]

/-- O41. Resets and losses of the PCIe host, DMA_EN and the link. (R357, R358, R359, R430) -/
def Obligations.LosingTheHost : Prop :=
  (∀ (s : State) (c : Instr), c ∈ [Instr.perstNAssert, .hotReset, .flr, .pcieLinkDown, .d3hotEntry, .busMasterClear] →
    ∃ t, exec c s = .next t ∧ t.flag Reg.HIF_STATUS Fld.HIF_STATUS_HOST_LOST = true ∧ t.flag Reg.HIF_CTL Fld.HIF_CTL_DMA_EN = false
      ∧ t.hif.txWait = none)
  ∧ (∀ s : State, ∃ t, exec .perstNAssert s = .next t ∧ t.power.perstLow = some s.clk.mono)
  ∧ (∀ (s : State) (m : Nat), s.power.perstLow = some m → m + usTicks 100 ≤ s.clk.mono →
    exec .perstNRelease s = .next { s with power := { s.power with perstLow := none } })
  ∧ (∀ s : State, s.down unitHif = false →
    ∃ t, exec .dmaEnWrite s = .next t ∧ t.flag Reg.HIF_CTL Fld.HIF_CTL_DMA_EN = true
      ∧ t.flag Reg.HIF_STATUS Fld.HIF_STATUS_HOST_LOST = false
      ∧ s.onlyRegs t [Reg.HIF_CTL, Reg.HIF_STATUS] ∧ s.onlyParts t [.regs])
  ∧ (∀ (s : State) (speed : Fin 7) (width : Fin 9), s.power.perstLow = none → speed.val ≠ 0 → width.val ∈ [1, 2, 4, 8] →
    ∃ t, exec (.dataLinkLayerUp speed width) s = .next t ∧ t.flag Reg.HIF_STATUS Fld.HIF_STATUS_LINK_UP = true
      ∧ t.fld Reg.HIF_STATUS Fld.HIF_STATUS_SPEED = speed.val ∧ t.fld Reg.HIF_STATUS Fld.HIF_STATUS_WIDTH = width.val
      ∧ s.onlyRegs t [Reg.HIF_STATUS] ∧ s.onlyParts t [.regs])

/-- O42. Ring enable, doorbells, MSI-X messages and inject rings. (R362, R363, R365, R366) -/
def Obligations.HostRings : Prop :=
  (∀ (s : State) (r : Fin 80), ∃ t, exec (.ringEnable r) s = .next t ∧ t.ringEn r.val = true ∧ t.ringHead r.val = 0 ∧ t.ringTail r.val = 0
      ∧ s.onlyRegs t [Reg.HIF_RING_CFG r.val, Reg.HIF_RING_PTR r.val] ∧ s.onlyParts t [.regs])
  ∧ (∀ (s : State) (k : Fin 64) (v : Word64), s.ringEn k.val = true → v.toNat < s.ringSize k.val →
    s.overPosts k.val v.toNat = false →
    ∃ t, exec (.rxDoorbell k v true) s = .next t ∧ t.ringTail k.val = v.toNat % 2 ^ Fld.HIF_RING_PTR_TAIL.len
      ∧ t.ringHead k.val = s.ringHead k.val ∧ s.onlyRegs t [Reg.HIF_RING_PTR k.val] ∧ s.onlyParts t [.regs])
  ∧ (∀ (s : State) (j : Fin 16) (v : Word64), s.ringEn (64 + j.val) = true → v.toNat < s.ringSize (64 + j.val) →
    s.overPosts (64 + j.val) v.toNat = false →
    ∃ t, exec (.txDoorbell j v true) s = .next t ∧ t.ringTail (64 + j.val) = v.toNat % 2 ^ Fld.HIF_RING_PTR_TAIL.len
      ∧ t.ringHead (64 + j.val) = s.ringHead (64 + j.val) ∧ s.onlyRegs t [Reg.HIF_RING_PTR (64 + j.val)] ∧ s.onlyParts t [.regs])
  ∧ (∀ (s : State) (k : Fin 64) (v : Word64) (wide : Bool), wide = false ∨ s.ringEn k.val = false ∨ s.ringSize k.val ≤ v.toNat ∨ s.overPosts k.val v.toNat = true →
    ∃ t, exec (.rxDoorbell k v wide) s = .next t
      ∧ t.reg (Reg.HIF_CNT Cnt.HIF_DOORBELL_BAD) = s.reg (Reg.HIF_CNT Cnt.HIF_DOORBELL_BAD) + 1
      ∧ s.onlyRegs t [Reg.HIF_CNT Cnt.HIF_DOORBELL_BAD] ∧ s.onlyParts t [.regs])
  ∧ (∀ (s : State) (r : Fin 80), s.flag (Reg.HIF_RING_CFG r.val) Fld.HIF_RING_CFG_IRQ_EN = true → s.hostIsLost = false →
    s.msixDue r.val = true →
    ∃ t, exec (.msixSend r) s = .next t ∧ t.irqOf r.val = RingIrq.init
      ∧ t.reg (Reg.HIF_CNT Cnt.HIF_MSIX_SENT) = s.reg (Reg.HIF_CNT Cnt.HIF_MSIX_SENT) + 1
      ∧ s.onlyRegs t [Reg.HIF_CNT Cnt.HIF_MSIX_SENT] ∧ s.onlyParts t [.regs, .hif])
  ∧ (∀ (s : State) (w1 w3 : Word64) (b : List Byte) (j k x : Nat), s.hif.txWait = none → s.down unitHif = false → s.nextTx = some j →
    60 ≤ w1.get ⟨0, 14⟩ →
    w1.get ⟨0, 14⟩ + 4 ≤ s.fld (Reg.PRT_MTU (w1.get ⟨14, 9⟩ / 2) (w1.get ⟨14, 9⟩ % 2)) Fld.PRT_MTU_MAX_FRAME →
    s.fitPool (w1.get ⟨0, 14⟩) = some k → (s.poolAlloc reqHif k).1 = .granted x →
    ∃ t, exec (.txInject w1 w3 b) s = .next t ∧ t.hif.txWait = none ∧ t.hif.lastTx = j
      ∧ t.reg (Reg.HIF_CNT Cnt.HIF_TX_FRAMES) = s.reg (Reg.HIF_CNT Cnt.HIF_TX_FRAMES) + 1
      ∧ t.ringHead (64 + j) = ((s.ringHead (64 + j) + 1) % s.ringSize (64 + j)) % 2 ^ Fld.HIF_RING_PTR_HEAD.len)
  ∧ (∀ (s : State) (w1 w3 : Word64) (b : List Byte) (j : Nat), s.hif.txWait = none → s.down unitHif = false → s.nextTx = some j →
    w1.get ⟨0, 14⟩ < 60 →
    ∃ t, exec (.txInject w1 w3 b) s = .next t ∧ t.reg (Reg.HIF_CNT Cnt.HIF_TX_BAD_LEN) = s.reg (Reg.HIF_CNT Cnt.HIF_TX_BAD_LEN) + 1
      ∧ t.ringHead (64 + j) = ((s.ringHead (64 + j) + 1) % s.ringSize (64 + j)) % 2 ^ Fld.HIF_RING_PTR_HEAD.len
      ∧ s.onlyParts t [.regs, .hif])
  ∧ (∀ (s : State) (w : TxWait) (k x : Nat), s.hif.txWait = some w → w.ring < 16 → w.mono + 32 ≤ s.clk.mono → s.down unitHif = false →
    s.fitPool (w.w1.get ⟨0, 14⟩) = some k → (s.poolAlloc reqHif k).1 = .granted x →
    ∃ t, exec .txPoolRetry s = .next t ∧ t.hif.txWait = none ∧ t.hif.lastTx = w.ring
      ∧ t.reg (Reg.HIF_CNT Cnt.HIF_TX_FRAMES) = s.reg (Reg.HIF_CNT Cnt.HIF_TX_FRAMES) + 1)
  ∧ (∀ (s : State) (w1 : Word64) (j k x : Nat), s.hif.txWait = none → s.nextTx = some j → s.fitPool (w1.get ⟨0, 14⟩) = some k →
    (s.poolAlloc reqHif k).1 = .granted x →
    ∃ t, exec (.hostReadFail none w1) s = .next t ∧ t.hif.lastTx = j
      ∧ t.reg (Reg.HIF_CNT Cnt.HIF_DMA_ERR) = s.reg (Reg.HIF_CNT Cnt.HIF_DMA_ERR) + 1
      ∧ t.flag Reg.HIF_STATUS Fld.HIF_STATUS_DMA_ERR = true)
  ∧ (∀ (s : State) (i : Fin 16) (w1 : Word64), (s.lopSlot i.val).run = .admission → s.lopActive i.val = true →
    ∃ t, exec (.hostReadFail (some i) w1) s = .next t ∧ t.lopFld i.val lopState = 4 ∧ t.lopFld i.val lopCode = lopHost
      ∧ t.reg (Reg.HIF_CNT Cnt.HIF_DMA_ERR) = s.reg (Reg.HIF_CNT Cnt.HIF_DMA_ERR) + 1
      ∧ t.flag Reg.HIF_STATUS Fld.HIF_STATUS_DMA_ERR = true ∧ s.onlyParts t [.regs, .lop])

/-- O43. Frames to host rings, and reads and writes of the DRAM aperture. (R219, R361, R364) -/
def Obligations.HostQueuesAndAperture : Prop :=
  (∀ (s : State) (q : Fin 4) (w0 w1 : Word64) (e : CellEcc) (ft : Bool) (pe : Ecc) (k p x : Nat) (c : Copy) (r : List Copy),
    s.down (unitTm q.val) = false → s.down unitHif = false → Tbl.get none s.tm.hostWait q.val = none →
    s.nextHostQueue q.val = some k → s.queue q.val (640 + k % 16) = c :: r → s.fitPool c.body.len = some p →
    (s.poolAlloc (reqTm q.val) p).1 = .granted x →
    ∃ t, exec (.hostDelivery q w0 w1 e (ft, pe)) s = .next t ∧ t.queue q.val (640 + k % 16) = r
      ∧ Tbl.get 15 t.tm.lastHost q.val = k % 16 ∧ Tbl.get none t.tm.hostWait q.val = none)
  ∧ (∀ (s : State) (q : Fin 4) (w0 w1 : Word64) (e : CellEcc) (ft : Bool) (pe : Ecc) (k m p x : Nat) (c : Copy) (r : List Copy),
    s.down (unitTm q.val) = false → s.down unitHif = false → Tbl.get none s.tm.hostWait q.val = some (k, m) → m + 32 ≤ s.clk.mono →
    s.hostQueueReady k = true → s.queue q.val (640 + k % 16) = c :: r → s.fitPool c.body.len = some p →
    (s.poolAlloc (reqTm q.val) p).1 = .granted x →
    ∃ t, exec (.hostPoolRetry q w0 w1 e (ft, pe)) s = .next t ∧ t.queue q.val (640 + k % 16) = r
      ∧ Tbl.get 15 t.tm.lastHost q.val = k % 16 ∧ Tbl.get none t.tm.hostWait q.val = none)
  ∧ (∀ (s : State) (w : Fin 4) (off len : Nat) (es : List Ecc) (b : List Byte), 0 < len → off + len ≤ 4294967296 → s.dmcReady = true →
    s.down unitHif = false → s.apAddr w.val off % 64 + len ≤ 64 → s.apAddr w.val off + len ≤ s.space →
    (s.dramRead (s.apAddr w.val off / 64) true (es.headD .ok)).1 = some b →
    ∃ t, exec (.apRead w off len es) s = .next t ∧ t.hif.apRead = bytesAt b (s.apAddr w.val off % 64) len ∧ t.hif.apPoison = false
      ∧ t.reg (Reg.HIF_CNT Cnt.HIF_AP_READS) = s.reg (Reg.HIF_CNT Cnt.HIF_AP_READS) + 1 ∧ s.onlyParts t [.regs, .hif, .dram, .fault])
  ∧ (∀ (s : State) (w : Fin 4) (off : Nat) (b : List Byte) (es : List Ecc) (a : LineAt), b.length = 64 → off + 64 ≤ 4294967296 →
    s.dmcReady = true → s.down unitHif = false → s.apAddr w.val off % 64 = 0 → s.apAddr w.val off + 64 ≤ s.space →
    s.locate (s.apAddr w.val off / 64) = some a → s.rankDead a = false → s.poisoned (s.apAddr w.val off / 64) = false →
    ∃ t, exec (.apWrite w off b es) s = .next t ∧ t.lineBytes (s.apAddr w.val off / 64) = b
      ∧ (∀ l, l ≠ s.apAddr w.val off / 64 → t.lineBytes l = s.lineBytes l)
      ∧ t.reg (Reg.HIF_CNT Cnt.HIF_AP_WRITES) = s.reg (Reg.HIF_CNT Cnt.HIF_AP_WRITES) + 1 ∧ s.onlyParts t [.regs, .dram])

/-- O44. The collector records messages; tokens, injection, unit logic faults, fatal stop and its clearing. (R388, R389, R390, R392, R400,
R401, R403) -/
def Obligations.FaultMessages : Prop :=
  (∀ (s : State) (m : FaultMsg), s.fault.queues.flatMap (fun e => e.2) = [m] → Tbl.get [] s.fault.queues m.src = [m] → s.msgsOk →
    s.ringTakes m.cls = true →
    ∃ t, exec .faultMessageRecord s = .next t ∧ Tbl.get [] t.fault.queues m.src = []
      ∧ Tbl.get RingEntry.init t.fault.ring (s.fld Reg.FLT_RING_PTR Fld.FLT_RING_PTR_HEAD % 4096)
        = s.ringEntryOf m s.fault.seq (Tbl.get false s.fault.lost m.src) false
      ∧ t.fault.seq = (s.fault.seq + 1) % 2 ^ 18
      ∧ t.reg (Reg.FLT_CNT Cnt.FLT_RECORDED) = s.reg (Reg.FLT_CNT Cnt.FLT_RECORDED) + 1
      ∧ s.onlyParts t [.regs, .fault])
  ∧ (∀ s : State, s.fault.tokensAt + msTicks 1 ≤ s.clk.mono →
    exec .corrTokenRefill s = .next { s with fault := { s.fault with
      tokens := min (s.fld Reg.FLT_CORR_RATE Fld.FLT_CORR_RATE_BURST) (s.fault.tokens + s.fld Reg.FLT_CORR_RATE Fld.FLT_CORR_RATE_RATE)
      tokensAt := s.fault.tokensAt + msTicks 1 } })
  ∧ (∀ (s : State) (m : FaultMsg), m = ⟨s.fld Reg.FLT_INJECT Fld.FLT_INJECT_SOURCE, s.fld Reg.FLT_INJECT Fld.FLT_INJECT_KIND,
      s.fld Reg.FLT_INJECT Fld.FLT_INJECT_CLASS, s.fld Reg.FLT_INJECT_ADDR Fld.FLT_INJECT_ADDR_ADDR, s.clk.ns⟩ →
    m.cls < 3 → s.ringTakes m.cls = true →
    ∃ t, exec .inject s = .next t
      ∧ Tbl.get RingEntry.init t.fault.ring (s.fld Reg.FLT_RING_PTR Fld.FLT_RING_PTR_HEAD % 4096) = s.ringEntryOf m s.fault.seq false true
      ∧ t.reg (Reg.FLT_CNT Cnt.FLT_INJECTED) = s.reg (Reg.FLT_CNT Cnt.FLT_INJECTED) + 1
      ∧ s.onlyParts t [.regs, .fault])
  ∧ (∀ (s : State) (u : Fin 315) (code : Fin 65536), u.val ≠ 308 → s.down u.val = false →
    ∃ t, exec (.unitLogic u code) s = .next t ∧ t.unitState u.val = 1)
  ∧ (∀ (s : State) (u : Fin 315) (code : Fin 65536), u.val = 308 →
    ∃ t, exec (.unitLogic u code) s = .next t ∧ t.fault.fatalLine.isSome = true ∧ s.onlyParts t [.fault])
  ∧ (∀ (s : State) (cause : Nat), s.msgsOk → s.fault.fatalLine = some cause → s.fault.stopped = false →
    s.flag Reg.FLT_CFG Fld.FLT_CFG_FATAL_POLICY = true →
    ∃ t, exec .fatalStop s = .next t ∧ t.fault.stopped = true ∧ t.flag Reg.FLT_FATAL_STATE Fld.FLT_FATAL_STATE_HOLDING = true
      ∧ t.flag Reg.FLT_STATUS Fld.FLT_STATUS_FATAL_SEEN = true ∧ t.flag Reg.GLB_STATUS Fld.GLB_STATUS_DEV_READY = false
      ∧ t.tm.queues = [] ∧ t.tm.relIn = [] ∧ t.fault.stopDiscards = s.fault.stopDiscards + s.framesInside)
  ∧ (∀ (s : State) (m : Nat), s.fault.runSince = some m →
    m + 1000 * msTicks (s.fld Reg.FLT_CFG Fld.FLT_CFG_FATAL_CLEAR_S) ≤ s.clk.mono →
    ∃ t, exec .fatalClear s = .next t ∧ t.fld Reg.FLT_FATAL_STATE Fld.FLT_FATAL_STATE_RESETS = 0
      ∧ s.onlyRegs t [Reg.FLT_FATAL_STATE] ∧ s.onlyParts t [.regs])

/-- O45. RESET, RETURN, KEEP, ESCALATE, window expiry, repair time-out and AUTO_REPAIR. (R395, R396, R397, R398) -/
def Obligations.Escalation : Prop :=
  (∀ (s : State) (u : Fin 512), s.flag Reg.FLT_ESC_CMD Fld.FLT_ESC_CMD_BUSY = false → u.val < 315 → s.unitState u.val = 1 →
    unitRepairable u.val = true →
    ∃ t, exec (.escReset u) s = .next t ∧ t.unitState u.val = 2 ∧ t.flag Reg.FLT_ESC_CMD Fld.FLT_ESC_CMD_BUSY = true
      ∧ Tbl.get 0 t.fault.timers u.val = s.clk.mono + msTicks (s.fld Reg.FLT_CFG Fld.FLT_CFG_REPAIR_TIMEOUT_MS)
      ∧ s.onlyParts t [.regs, .fault, .tmb])
  ∧ (∀ (s : State) (u : Fin 315), s.unitState u.val = 2 →
    ∃ t, exec (.unitResetDone u true) s = .next t ∧ t.unitState u.val = 3 ∧ s.onlyParts t [.regs, .ccx])
  ∧ (∀ (s : State) (u : Fin 512), s.flag Reg.FLT_ESC_CMD Fld.FLT_ESC_CMD_BUSY = false → u.val < 312 ∨ u.val = 314 →
    s.unitState u.val = 3 → s.unitReady u.val = true →
    ∃ t, exec (.escReturn u true) s = .next t ∧ t.unitState u.val = 0
      ∧ t.reg (Reg.FLT_CNT Cnt.FLT_REPAIRS) = s.reg (Reg.FLT_CNT Cnt.FLT_REPAIRS) + 1)
  ∧ (∀ (s : State) (u : Fin 512), s.flag Reg.FLT_ESC_CMD Fld.FLT_ESC_CMD_BUSY = false → u.val < 315 →
    s.unitState u.val ∈ [1, 2, 3] → s.essential u.val = false →
    ∃ t, exec (.keep u) s = .next t ∧ t.unitState u.val = 4 ∧ Tbl.get 0 t.fault.timers u.val = 0
      ∧ t.reg (Reg.FLT_CNT Cnt.FLT_KEEPS) = s.reg (Reg.FLT_CNT Cnt.FLT_KEEPS) + 1 ∧ s.onlyParts t [.regs, .fault])
  ∧ (∀ (s : State) (u : Fin 512), s.flag Reg.FLT_ESC_CMD Fld.FLT_ESC_CMD_BUSY = false → u.val < 315 →
    s.unitState u.val ∈ [1, 2, 3] →
    ∃ t, exec (.escalate u) s = .next t
      ∧ (s.essential u.val = true → t.fault.fatalLine.isSome = true
          ∧ t.reg (Reg.FLT_CNT Cnt.FLT_ESCALATED_FATAL) = s.reg (Reg.FLT_CNT Cnt.FLT_ESCALATED_FATAL) + 1)
      ∧ (s.essential u.val = false → t.unitState u.val = 4
          ∧ t.reg (Reg.FLT_CNT Cnt.FLT_EXPIRED_DEGRADED) = s.reg (Reg.FLT_CNT Cnt.FLT_EXPIRED_DEGRADED) + 1)
      ∧ s.onlyParts t [.regs, .fault, .cast, .free])
  ∧ (∀ (s : State) (u : Fin 315) (c : Instr), c = .escWindowExpiry u ∧ s.unitState u.val = 1
      ∨ c = .repairTimeout u ∧ s.unitState u.val ∈ [2, 3] → s.timerDone u.val = true →
    ∃ t, exec c s = .next t
      ∧ (s.essential u.val = true → t.fault.fatalLine.isSome = true
          ∧ t.reg (Reg.FLT_CNT Cnt.FLT_ESCALATED_FATAL) = s.reg (Reg.FLT_CNT Cnt.FLT_ESCALATED_FATAL) + 1)
      ∧ (s.essential u.val = false → t.unitState u.val = 4
          ∧ t.reg (Reg.FLT_CNT Cnt.FLT_EXPIRED_DEGRADED) = s.reg (Reg.FLT_CNT Cnt.FLT_EXPIRED_DEGRADED) + 1)
      ∧ s.onlyParts t [.regs, .fault, .cast, .free])
  ∧ (∀ (s : State) (h : Fin 16), s.flag Reg.FLT_CFG Fld.FLT_CFG_AUTO_REPAIR = true → s.serving = true →
    s.unitState (unitShard h.val) = 1 → Tbl.get false s.fault.mcUe (unitShard h.val) = true → s.timerDone (unitShard h.val) = false →
    ∃ t, exec (.autoRepair h) s = .next t ∧ t.unitState (unitShard h.val) = 0
      ∧ t.reg (Reg.FLT_CNT Cnt.FLT_REPAIRS) = s.reg (Reg.FLT_CNT Cnt.FLT_REPAIRS) + 1)

/-- O46. PLL and REFCLK loss, supply faults, temperatures. (R429, R435, R436, 17_clocks_power.md) -/
def Obligations.PowerMonitors : Prop :=
  (∀ (s : State) (c : Instr), (∃ d, c = .pllUnlock 0 d) ∨ c = .refclkLoss →
    ∃ t, exec c s = .next t ∧ t.fault.fatalLine.isSome = true
      ∧ (s.power.fallback = false → t.clk = { s.clk with running := false } ∧ t.power.fallback = true
          ∧ t.flag Reg.PMU_STATUS Fld.PMU_STATUS_CLK_FALLBACK = true)
      ∧ s.onlyParts t [.clk, .regs, .fault, .power])
  ∧ (∀ (s : State) (d : Fin 80), s.dram.freq = .idle →
    ∃ t, exec (.pllUnlock 1 d) s = .next t ∧ t.flag Reg.PMU_STATUS Fld.PMU_STATUS_DRAM_LOCK = false
      ∧ t.fault.fatalLine.isSome = true ∧ s.onlyRegs t [Reg.PMU_STATUS] ∧ s.onlyParts t [.regs, .fault])
  ∧ (∀ (s : State) (r : Fin 7) (d : Fin 80) (us mv : Nat), 2 ≤ us → s.monitorMasked d.val = false →
    ∃ t, exec (.supplyFault r d us mv) s = .next t ∧ t.flag (Reg.PMU_RAIL r.val) Fld.PMU_RAIL_GOOD = false
      ∧ t.fault.fatalLine.isSome = true ∧ s.onlyRegs t [Reg.PMU_RAIL r.val] ∧ s.onlyParts t [.regs, .fault])
  ∧ (∀ (s : State) (l : List (BitVec 12)), l.length = 16 →
    ∃ t, exec (.tempSample l) s = .next t
      ∧ (∀ i (x : BitVec 12), l[i]? = some x → t.fld (Reg.PMU_TEMP i) Fld.PMU_TEMP_TEMP = x.toNat)
      ∧ s.fld Reg.PMU_THERM Fld.PMU_THERM_MAX_C ≤ t.fld Reg.PMU_THERM Fld.PMU_THERM_MAX_C
      ∧ (s.fault.stopped = false →
          (∃ x ∈ l, ((4 * s.fld Reg.PMU_THERM Fld.PMU_THERM_TRIP_C : Nat) : Int) ≤ tempOf x.toNat) → t.fault.fatalLine.isSome = true)
      ∧ s.onlyParts t [.regs, .fault])

/-- O47. Cast-on phases RESET, FUSES, JOURNAL and SELECT. (R337, R338, R339, R341, R343, R353) -/
def Obligations.CastOnBegins : Prop :=
  (∀ s : State, s.inPhase 0 = true →
    ∃ t, exec (.phaseReset none) s = .next t ∧ t.phase = 1 ∧ t.clk = { s.clk with running := true }
      ∧ t.flag Reg.PMU_STATUS Fld.PMU_STATUS_MAIN_LOCK = true
      ∧ t.reg (Reg.CST_CNT Cnt.CST_CASTONS) = s.reg (Reg.CST_CNT Cnt.CST_CASTONS) + 1 ∧ s.onlyParts t [.clk, .regs, .power])
  ∧ (∀ (s : State) (r : Fin 7), s.inPhase 0 = true →
    ∃ t, exec (.phaseReset (some r)) s = .next t ∧ t.phase = 0 ∧ t.flag Reg.PMU_STATUS Fld.PMU_STATUS_RAIL_MISSING = true
      ∧ t.flag (Reg.PMU_RAIL r.val) Fld.PMU_RAIL_GOOD = false
      ∧ s.onlyRegs t [Reg.PMU_STATUS, Reg.PMU_RAIL r.val] ∧ s.onlyParts t [.regs])
  ∧ (∀ s : State, s.inPhase 1 = true →
    ∃ t, exec .phaseFuses s = .next t ∧ t.phase = 2
      ∧ t.fld Reg.CST_FUSE_STATUS Fld.CST_FUSE_STATUS_SVN_MIN = s.cast.svn % 2 ^ Fld.CST_FUSE_STATUS_SVN_MIN.len
      ∧ s.onlyRegs t ([Reg.CST_STATUS, Reg.CST_FUSE_STATUS] ++ (List.range 6).map Reg.CST_FUSE_HASH) ∧ s.onlyParts t [.regs])
  ∧ (∀ s : State, s.inPhase 2 = true →
    ∃ t, exec (.phaseJournal true) s = .next t ∧ t.phase = 3 ∧ t.flag Reg.CST_STATUS Fld.CST_STATUS_JNL_FAIL = true
      ∧ t.cast.jnlOk = false ∧ t.cast.jq = [] ∧ s.onlyRegs t [Reg.CST_STATUS] ∧ s.onlyParts t [.regs, .cast])
  ∧ (∀ s : State, s.inPhase 2 = true → s.cast.jq = [] →
    ∃ t, exec (.phaseJournal false) s = .next t ∧ t.phase = 3 ∧ t.flag Reg.CST_STATUS Fld.CST_STATUS_JNL_FAIL = false
      ∧ t.cast.jnlOk = true ∧ t.cast.jnl = s.cast.jnl ∧ s.onlyParts t [.regs, .cast, .free])
  ∧ (∀ s : State, s.inPhase 3 = true → s.cast.chosen = false → s.cast.jq = [] → 0 ≤ s.jnlTokens →
    ∃ t, exec .phaseSelect s = .next t
      ∧ (s.cast.cands = [] → t.phase = 12 ∧ t.cast = s.cast)
      ∧ (∀ k r, s.cast.cands = (k, false) :: r → t.phase = 4 ∧ t.cast.slot = some k ∧ t.cast.trial = false ∧ t.cast.cands = r)
      ∧ s.onlyParts t [.regs, .cast, .free])

/-- O48. Cast-on phases VERIFY to ARM: the next phase, or RETRY where the check refuses. (R343, R345, R349, R405) -/
def Obligations.CastOnTakesTheImage : Prop :=
  (∀ (s : State) (k : Nat) (f : Bool), s.cast.slot = some k → s.inPhase 4 = true →
    ∃ t, exec (.phaseVerify f) s = .next t ∧ t.phase = if (s.verifyImage k f).1.isNone then 5 else 13)
  ∧ (∀ (s : State) (k : Nat) (v : Word64), s.cast.slot = some k → s.inPhase 5 = true →
    ∃ t, exec (.phaseFirmware false v) s = .next t ∧ t.phase = 6 ∧ t.claim 0 = 2 ∧ t.claim 1 = 1
      ∧ (∀ x, x < 2 → t.fld (Reg.CCX_FW x) Fld.CCX_FW_VERSION = v.toNat % 4294967296) ∧ s.onlyParts t [.regs, .ccx])
  ∧ (∀ (s : State) (k : Nat) (v : Word64), s.cast.slot = some k → s.inPhase 5 = true →
    ∃ t, exec (.phaseFirmware true v) s = .next t ∧ t.phase = 13 ∧ t.cast.slot = none ∧ t.cast.attempts = s.cast.attempts + 1
      ∧ t.flag Reg.CST_STATUS Fld.CST_STATUS_REFUSED_SEEN = true ∧ s.onlyParts t [.regs, .cast, .free])
  ∧ (∀ (s : State) (k : Nat), s.cast.slot = some k → s.inPhase 6 = true →
    ∃ t, exec .phaseConfig s = .next t ∧ t.phase = if (s.configImage k).1.isNone then 7 else 13)
  ∧ (∀ (s : State) (k : Nat) (bad : List (Fin 12 × Fin 4 × Fin 2 × Fin 5)) (init : List (Nat × List Byte)), s.cast.slot = some k →
    s.inPhase 7 = true →
    ∃ t, exec (.phaseDram bad init) s = .next t
      ∧ t.phase = if (s.dramPhase bad (s.ofSection k 0x0009 init)).1.isNone then 8 else 13)
  ∧ (∀ (s : State) (k : Nat) (x : ImageTables) (bad : Option (Fin 16)), s.cast.slot = some k → s.inPhase 8 = true →
    ∃ t, exec (.phaseTables x bad) s = .next t
      ∧ t.phase = if (s.tablesPhase k (s.signedTables k x) (bad.map (fun h => h.val))).1.isNone then 9 else 13)
  ∧ (∀ (s : State) (k : Nat), s.cast.slot = some k → s.inPhase 9 = true →
    ∃ t, exec .phaseAdmit s = .next t ∧ t.phase = if (s.admitPhase k).1.isNone then 10 else 13)
  ∧ (∀ s : State, s.inPhase 10 = true → s.cast.chosen = true → s.cast.jq = [] →
    ∃ t, exec .phaseArm s = .next t ∧ t.phase = 11 ∧ t.cast = { s.cast with chosen := false }
      ∧ s.onlyRegs t [Reg.CST_STATUS] ∧ s.onlyParts t [.regs, .cast])

/-- O49. RUN, FACTORY, RETRY, RECAST, CONFIRM and the end of a trial. (R339, R340, R342, R343, R355) -/
def Obligations.CastOnEndsAndRetries : Prop :=
  (∀ (s : State) (k : Nat), s.cast.slot = some k → s.inPhase 11 = true → s.flag Reg.CST_STATUS Fld.CST_STATUS_DONE = false →
    ∃ t, exec .phaseRun s = .next t ∧ t.phase = 11 ∧ t.flag Reg.CST_STATUS Fld.CST_STATUS_DONE = true
      ∧ t.flag Reg.GLB_STATUS Fld.GLB_STATUS_DEV_READY = true ∧ t.cast = { s.cast with runAt := some s.clk.mono }
      ∧ t.fld Reg.CST_STATUS Fld.CST_STATUS_LAYER = (k + 1) % 4 ∧ s.onlyParts t [.regs, .fault, .cast])
  ∧ (∀ s : State, s.inPhase 12 = true → s.fld Reg.CST_STATUS Fld.CST_STATUS_LAYER ≠ 3 →
    ∃ t, exec .phaseFactory s = .next t ∧ t.phase = 12 ∧ t.fld Reg.CST_STATUS Fld.CST_STATUS_LAYER = 3
      ∧ t.claim 0 = 2 ∧ t.claim 1 = 1 ∧ s.onlyParts t [.clk, .regs, .cast, .free, .ccx])
  ∧ (∀ s : State, s.inPhase 13 = true → ∃ t, exec .phaseRetry s = .next t ∧ t.phase = 3 ∧ t.claim 0 = 0 ∧ t.claim 1 = 0
      ∧ t.cast = s.cast ∧ t.hif = s.hif)
  ∧ (∀ s : State, s.power.sysResetLow = false → s.imageWriting = false →
    ∃ t, exec .recast s = .next t ∧ t.phase = 0 ∧ t.fld Reg.CST_STATUS Fld.CST_STATUS_CAUSE = 2 ∧ t.cast.slot = none
      ∧ t.flag Reg.GLB_STATUS Fld.GLB_STATUS_DEV_READY = false ∧ t.claim 0 = 0 ∧ t.claim 1 = 0 ∧ t.cast.flash = s.cast.flash
      ∧ t.cast.jnl = s.cast.jnl)
  ∧ (∀ s : State, s.power.sysResetLow = false → s.imageWriting = true →
    ∃ t, exec .recast s = .next t ∧ t.flag Reg.CST_STATUS Fld.CST_STATUS_RECAST_ERR = true
      ∧ s.onlyRegs t [Reg.CST_STATUS] ∧ s.onlyParts t [.regs])
  ∧ (∀ (s : State) (k : Nat), s.cast.slot = some k → s.onTrial = true → s.confirmOpen = true →
    ∃ t, exec .confirm s = .next t ∧ t.flag Reg.CST_STATUS Fld.CST_STATUS_TRIAL = false ∧ t.cast.trial = false
      ∧ t.cast.slot = some k ∧ s.onlyRegs t [Reg.CST_STATUS] ∧ s.onlyParts t [.regs, .cast, .free])
  ∧ (∀ (s : State) (k : Nat), s.cast.slot = some k → s.onTrial = true → s.confirmOpen = false → s.power.sysResetLow = false →
    ∃ t, exec .trialTimeout s = .next t ∧ t.phase = 0 ∧ t.fld Reg.CST_STATUS Fld.CST_STATUS_CAUSE = 4
      ∧ t.flag Reg.CST_STATUS Fld.CST_STATUS_REVERTED = true ∧ t.cast.slot = none)

/-- O50. PROGRAM_KEY, RAISE_SVN, writing journal entries, tokens. (R337, R352, R354) -/
def Obligations.FusesAndJournal : Prop :=
  (∀ s : State, s.validBank = none → s.cast.bank0.blown = false →
    ∃ t, exec (.programKey none) s = .next t ∧ t.cast.bank1 = s.cast.bank1
      ∧ t.cast.bank0 = ⟨(List.range 6).flatMap (fun i => leBytes 8 (s.reg (Reg.CST_FUSE_DATA i)).toNat), true⟩
      ∧ t.reg (Reg.CST_CNT Cnt.CST_FUSE_COMMANDS) = s.reg (Reg.CST_CNT Cnt.CST_FUSE_COMMANDS) + 1
      ∧ s.onlyRegs t ([Reg.CST_FUSE_STATUS, Reg.CST_CNT Cnt.CST_FUSE_COMMANDS] ++ (List.range 6).map Reg.CST_FUSE_HASH)
      ∧ s.onlyParts t [.regs, .cast, .free])
  ∧ (∀ (s : State) (b : KeyBank) (cut : Option (List Byte)), s.validBank = some b →
    ∃ t, exec (.programKey cut) s = .next t ∧ t.flag Reg.CST_FUSE_CMD Fld.CST_FUSE_CMD_ERR = true
      ∧ s.onlyRegs t [Reg.CST_FUSE_CMD] ∧ s.onlyParts t [.regs])
  ∧ (∀ s : State, s.phase = 11 → s.fld Reg.CST_STATUS Fld.CST_STATUS_LAYER ≠ 3 → s.flag Reg.CST_STATUS Fld.CST_STATUS_TRIAL = false →
    ∃ t, exec .raiseSvn s = .next t ∧ t.cast.svn = max s.cast.svn (s.fld Reg.CST_IMAGE_INFO Fld.CST_IMAGE_INFO_SVN)
      ∧ t.reg (Reg.CST_CNT Cnt.CST_FUSE_COMMANDS) = s.reg (Reg.CST_CNT Cnt.CST_FUSE_COMMANDS) + 1
      ∧ s.onlyRegs t ([Reg.CST_FUSE_STATUS, Reg.CST_CNT Cnt.CST_FUSE_COMMANDS] ++ (List.range 6).map Reg.CST_FUSE_HASH)
      ∧ s.onlyParts t [.regs, .cast, .free])
  ∧ (∀ (s : State) (e : JEntry) (r : List JEntry), s.cast.jq = e :: r → s.power.sysResetLow = false →
    ((e.payloads.length + 1 + jnlSum (s.jnlPlan (e.payloads.length + 1)) : Nat) : Int) ≤ s.jnlTokens →
    ∃ t, exec .journalEntryWrite s = .next t ∧ t.cast.jq = r
      ∧ t.reg (Reg.CST_CNT Cnt.CST_JNL_ENTRIES) = s.reg (Reg.CST_CNT Cnt.CST_JNL_ENTRIES) + 1
      ∧ s.onlyRegs t [Reg.CST_JNL_STATUS, Reg.CST_JNL_SEQ, Reg.CST_JNL_TOKENS, Reg.CST_CNT Cnt.CST_JNL_ENTRIES,
          Reg.CST_CNT Cnt.CST_JNL_RECORDS, Reg.CST_CNT Cnt.CST_JNL_COPY_FWD] ∧ s.onlyParts t [.regs, .cast])
  ∧ (∀ (s : State) (e : JEntry) (r : List JEntry) (k : EventKind), s.cast.jq = e :: r → s.power.sysResetLow = false →
    e.what = .event k → s.jnlTokens < ((e.payloads.length + 1 + jnlSum (s.jnlPlan (e.payloads.length + 1)) : Nat) : Int) →
    ∃ t, exec .journalEntryWrite s = .next t ∧ t.cast = { s.cast with jq := r }
      ∧ t.reg (Reg.CST_CNT Cnt.CST_JNL_DROPPED) = s.reg (Reg.CST_CNT Cnt.CST_JNL_DROPPED) + 1
      ∧ s.onlyRegs t [Reg.CST_CNT Cnt.CST_JNL_DROPPED] ∧ s.onlyParts t [.regs, .cast])
  ∧ (∀ s : State, s.cast.tokenAt + 3125000 ≤ s.clk.mono → s.jnlTokens < 4096 →
    ∃ t, exec .journalTokenRefill s = .next t ∧ t.jnlTokens = s.jnlTokens + 1
      ∧ t.cast = { s.cast with tokenAt := s.cast.tokenAt + 3125000 }
      ∧ s.onlyRegs t [Reg.CST_JNL_TOKENS] ∧ s.onlyParts t [.regs, .cast])

/-- O51. LOP: START, ABORT, the ring pointers, the status mirror. (R367, R368, R369, R370, R372) -/
def Obligations.LongOperationControl : Prop :=
  (∀ (s : State) (i op : Fin 16), s.lopActive i.val = false → s.lopPhaseOk i.val op.val = true → s.lopArgsOk i.val op.val = true →
    s.lopExcluded i.val op.val = false → (opOutput op.val || opInput op.val) = false ∨ s.dmaEn = true →
    ∃ t, exec (.lopStart i op) s = .next t ∧ t.lopFld i.val lopState = 1 ∧ t.lopFld i.val lopOp = op.val ∧ t.lopFld i.val lopCode = 0
      ∧ t.lopFld i.val lopLines = 0 ∧ (t.lopSlot i.val).run = s.lopFirst i.val op.val
      ∧ s.onlyRegs t ([Reg.LOP_CTL i.val, Reg.LOP_STATUS i.val, Reg.LOP_PROGRESS i.val] ++ (List.range 4).map (Reg.LOP_RESULT i.val))
      ∧ s.onlyParts t [.regs, .lop])
  ∧ (∀ (s : State) (i op : Fin 16), s.lopActive i.val = true →
    ∃ t, exec (.lopStart i op) s = .next t ∧ t.flag Reg.LOP_SUMMARY Fld.LOP_SUMMARY_ERR = true
      ∧ s.onlyRegs t [Reg.LOP_SUMMARY] ∧ s.onlyParts t [.regs])
  ∧ (∀ (s : State) (i : Fin 16) (x : Nat), s.lopActive i.val = true → (s.lopSlot i.val).run = .scrub x →
    ∃ t, exec (.lopAbort i) s = .next t ∧ t.lopFld i.val lopState = 5 ∧ t.lopFld i.val lopCode = lopAborted
      ∧ (t.lopSlot i.val).run = .none ∧ s.onlyRegs t [Reg.LOP_STATUS i.val] ∧ s.onlyParts t [.regs, .lop])
  ∧ (∀ (s : State) (i : Fin 16) (prod : BitVec 32) (last : Bool),
    ∃ t, exec (.lopInProdWrite i prod last) s = .next t ∧ t.fld (Reg.LOP_IN_PROD i.val) Fld.LOP_IN_PROD_PROD = prod.toNat
      ∧ t.flag (Reg.LOP_IN_PROD i.val) Fld.LOP_IN_PROD_END = last
      ∧ s.onlyRegs t [Reg.LOP_IN_PROD i.val, Reg.LOP_STATUS i.val] ∧ s.onlyParts t [.regs, .lop])
  ∧ (∀ (s : State) (i : Fin 16) (cons : BitVec 32), (s.lopSlot i.val).buf = [] ∨ s.flag Reg.BPM_STATUS Fld.BPM_STATUS_READY = false →
    ∃ t, exec (.lopOutConsWrite i cons) s = .next t ∧ t.fld (Reg.LOP_OUT_CONS i.val) Fld.LOP_OUT_CONS_CONS = cons.toNat
      ∧ s.onlyRegs t [Reg.LOP_OUT_CONS i.val, Reg.LOP_STATUS i.val] ∧ s.onlyParts t [.regs, .lop, .hif])
  ∧ (∀ (s u : State) (i : Fin 16) (cons : BitVec 32), u = s.setFld (Reg.LOP_OUT_CONS i.val) Fld.LOP_OUT_CONS_CONS cons.toNat →
    (s.lopSlot i.val).buf.length = 64 → s.lopFld i.val lopState = 2 → opOutput (s.lopFld i.val lopOp) = true → 0 < u.outRoom i.val →
    s.dmaEn = true → s.bufferFor 1 →
    ∃ t, exec (.lopOutConsWrite i cons) s = .next t ∧ (t.lopSlot i.val).buf = []
      ∧ t.hif.mem = memWrite s.hif.mem (64 * s.fld (Reg.LOP_OUT_ADDR i.val) Fld.LOP_OUT_ADDR_ADDR
          + s.lopFld i.val lopLines % s.fld (Reg.LOP_OUT_CFG i.val) Fld.LOP_OUT_CFG_LINES * 64) (s.lopSlot i.val).buf
      ∧ s.onlyParts t [.regs, .lop, .hif, .pools])
  ∧ (∀ (s : State) (i : Fin 16) (a : Nat), a = s.fld (Reg.LOP_MIRROR_ADDR i.val) Fld.LOP_MIRROR_ADDR_ADDR → a ≠ 0 →
    (s.lopSlot i.val).dirty = true → s.lopActive i.val = false → s.dmaEn = true → s.serving = true →
    ∃ t, exec (.statusMirrorWrite i) s = .next t ∧ (t.lopSlot i.val).dirty = false
      ∧ t.hif.mem = memWrite s.hif.mem (8 * a) (leBytes 8 (s.reg (Reg.LOP_STATUS i.val)).toNat) ∧ s.onlyParts t [.hif, .lop])

/-- O52. FLOW_EXPORT, FLOW_IMPORT and TABLE_DUMP. (R373, R374, R375, R376, R378) -/
def Obligations.FlowStreamsAndDumps : Prop :=
  (∀ (s : State) (i : Fin 16) (h0 slot n : Nat) (crc : Word64), (s.lopSlot i.val).run = .flowExport h0 slot n crc →
    s.lopActive i.val = true → s.serving = true → (s.lopSlot i.val).buf = [] → s.exportShard i.val h0 = 16 → 1 ≤ s.outRoom i.val →
    s.dmaEn = true → s.bufferFor 1 →
    ∃ t, exec (.flowExport i .ok .ok) s = .next t ∧ t.lopFld i.val lopState = 3 ∧ t.lopFld i.val lopCode = 0
      ∧ t.lopFld i.val lopLines = (s.lopFld i.val lopLines + 1) % 4294967296
      ∧ t.hif.mem = memWrite s.hif.mem (64 * s.fld (Reg.LOP_OUT_ADDR i.val) Fld.LOP_OUT_ADDR_ADDR
          + s.lopFld i.val lopLines % s.fld (Reg.LOP_OUT_CFG i.val) Fld.LOP_OUT_CFG_LINES * 64) (exportTrailer n crc)
      ∧ s.onlyParts t [.regs, .lop, .hif, .pools])
  ∧ (∀ (s : State) (i : Fin 16) (h0 slot n : Nat) (crc : Word64) (e e2 : Ecc), (s.lopSlot i.val).run = .flowExport h0 slot n crc →
    s.lopActive i.val = true → s.serving = true → (s.lopSlot i.val).buf = [] → s.exportShard i.val h0 < 16 → s.dmcReady = true →
    s.shardUp (s.exportShard i.val h0) = false → s.exportMay (s.exportShard i.val h0) slot = true →
    ∃ t, exec (.flowExport i e e2) s = .next t ∧ t.reg (Reg.LOP_RESULT i.val 1) = s.reg (Reg.LOP_RESULT i.val 1) + 1
      ∧ t.reg (Reg.LOP_RESULT i.val 2) = s.reg (Reg.LOP_RESULT i.val 2) + 1 ∧ s.onlyParts t [.regs, .lop])
  ∧ (∀ (s : State) (i : Fin 16) (n : Nat) (crc : Word64) (line : List Byte) (es : List Ecc),
    (s.lopSlot i.val).run = .flowImport false n crc → s.lopActive i.val = true → s.serving = true → s.dmaEn = true →
    (s.lopSlot i.val).buf = [] → 0 < s.inLeft i.val →
    ∃ t, exec (.flowImport i line es) s = .next t ∧ t.lopFld i.val lopLines = (s.lopFld i.val lopLines + 1) % 4294967296
      ∧ (importHeaderOk (bytesAt line 0 64) = true → (t.lopSlot i.val).run = .flowImport true 0 0)
      ∧ (importHeaderOk (bytesAt line 0 64) = false → t.lopFld i.val lopState = 4 ∧ t.lopFld i.val lopCode = lopStream)
      ∧ s.onlyRegs t [Reg.LOP_STATUS i.val] ∧ s.onlyParts t [.regs, .lop])
  ∧ (∀ (s : State) (i : Fin 16) (n : Nat) (crc : Word64) (line : List Byte) (es : List Ecc),
    (s.lopSlot i.val).run = .flowImport true n crc → s.lopActive i.val = true → s.serving = true → s.dmaEn = true →
    (s.lopSlot i.val).buf = [] → 0 < s.inLeft i.val → isTrailer (bytesAt line 0 64) = true →
    ∃ t, exec (.flowImport i line es) s = .next t
      ∧ t.lopFld i.val lopState = (if trailerOk (bytesAt line 0 64) n crc then 3 else 4)
      ∧ t.lopFld i.val lopCode = (if trailerOk (bytesAt line 0 64) n crc then 0 else lopStream)
      ∧ s.onlyRegs t [Reg.LOP_STATUS i.val] ∧ s.onlyParts t [.regs, .lop])
  ∧ (∀ (s : State) (i : Fin 16) (a n k : Nat) (m : Bool), (s.lopSlot i.val).run = .dump a n m → s.lopActive i.val = true →
    s.serving = true → (s.lopSlot i.val).buf = [] → (s.dumpStep i.val a n).1.length = 64 * k → 0 < k → k ≤ s.outRoom i.val →
    s.dmaEn = true → s.bufferFor k →
    ∃ t, exec (.tableDump i) s = .next t ∧ t.reg (Reg.LOP_RESULT i.val 0) = BitVec.ofNat 64 (n + (s.dumpStep i.val a n).2)
      ∧ t.lopFld i.val lopLines = (s.lopFld i.val lopLines + k) % 4294967296
      ∧ (t.lopSlot i.val).buf = [] ∧ s.onlyParts t [.regs, .lop, .hif, .pools])
  ∧ (∀ (s : State) (i : Fin 16) (a n : Nat) (m : Bool), (s.lopSlot i.val).run = .dump a n m → s.lopActive i.val = true →
    s.serving = true → (s.lopSlot i.val).buf = [] → s.flag Reg.BPM_STATUS Fld.BPM_STATUS_READY = false ∨ s.dmaEn = false →
    ∃ t, exec (.tableDump i) s = .next t ∧ t.reg (Reg.LOP_RESULT i.val 0) = BitVec.ofNat 64 (n + (s.dumpStep i.val a n).2)
      ∧ s.onlyRegs t [Reg.LOP_STATUS i.val, Reg.LOP_PROGRESS i.val, Reg.LOP_RESULT i.val 0] ∧ s.onlyParts t [.regs, .lop, .hif])

/-- O53. TUMBLER_REBUILD, DRAM_SCRUB, RANK_MIGRATE, IMAGE_WRITE and ADMIT_REQUEST. (R350, R351, R355, R370, R379, R380, R381) -/
def Obligations.RepairsImagesAndRequests : Prop :=
  (∀ (s : State) (i : Fin 16), (s.lopSlot i.val).run = .rebuild → s.lopActive i.val = true → s.serving = true →
    ∃ t, exec (.tumblerRebuild i) s = .next t ∧ t.lopFld i.val lopState = 3 ∧ (t.lopSlot i.val).run = .none
      ∧ Tbl.get false t.fault.rebuilt (unitTumbler (s.lopArgF i.val 0 0 2)) = true
      ∧ s.onlyRegs t [Reg.LOP_STATUS i.val, Reg.LOP_PROGRESS i.val, Reg.TMB_GEN_CMD 0] ∧ s.onlyParts t [.regs, .fault, .tmb, .lop])
  ∧ (∀ (s : State) (i : Fin 16) (x : Nat) (es : List Ecc), (s.lopSlot i.val).run = .scrub x → s.lopActive i.val = true →
    s.dmcReady = true →
    (∀ c, c < 12 → (s.lopArgN i.val 0).testBit c = true → s.bgMay c 0 = true ∧ s.bgMay c 1 = true) →
    ∃ t, exec (.dramScrub i es) s = .next t
      ∧ ((t.lopSlot i.val).run = .scrub (x + 1) ∨ t.lopFld i.val lopState = 3 ∧ t.lopFld i.val lopCode = 0)
      ∧ t.fld (Reg.LOP_PROGRESS i.val) Fld.LOP_PROGRESS_DONE = (s.fld (Reg.LOP_PROGRESS i.val) Fld.LOP_PROGRESS_DONE
          + 2 * ((List.range 12).filter (fun c => (s.lopArgN i.val 0).testBit c && decide (x < s.scrubLines c))).length) % 4294967296)
  ∧ (∀ (s : State) (i : Fin 16) (c : Nat), c = s.lopArgF i.val 0 0 4 → c < 12 → (s.lopSlot i.val).run = .migrate false →
    s.lopActive i.val = true → s.migrationFree c = true → s.lopArgF i.val 0 4 2 ≠ s.ranks c - 1 →
    ∃ t, exec (.rankMigrate i) s = .next t ∧ (t.lopSlot i.val).run = .migrate true ∧ t.migState c = 1
      ∧ s.onlyRegs t [Reg.DMC_MIG c, Reg.DMC_STATUS c] ∧ s.onlyParts t [.regs, .dram, .lop])
  ∧ (∀ (s : State) (i : Fin 16), (s.lopSlot i.val).run = .migrate true → s.lopActive i.val = true →
    s.migState (s.lopArgF i.val 0 0 4) = 3 →
    ∃ t, exec (.rankMigrate i) s = .next t ∧ t.lopFld i.val lopState = 3 ∧ t.lopFld i.val lopCode = 0
      ∧ s.onlyRegs t [Reg.LOP_STATUS i.val] ∧ s.onlyParts t [.regs, .lop])
  ∧ (∀ (s : State) (i : Fin 16) (e f : Bool) (n : Nat) (b : List Byte), (s.lopSlot i.val).run = .image false e n →
    s.lopActive i.val = true → s.serving = true → s.cast.jnlOk = true →
    ∃ t, exec (.imageWrite i b f) s = .next t ∧ (t.lopSlot i.val).run = .image true false 0
      ∧ t.slotQueued (s.lopArgF i.val 0 0 1) = true ∧ s.onlyParts t [.cast, .free, .lop])
  ∧ (∀ (s : State) (i : Fin 16) (f : Bool) (n : Nat) (b : List Byte), (s.lopSlot i.val).run = .image true false n → 0 < n →
    s.lopActive i.val = true → s.serving = true → s.slotQueued (s.lopArgF i.val 0 0 1) = false → 0 < s.inLeft i.val →
    s.dmaEn = true → b.length = 64 →
    ∃ t, exec (.imageWrite i b f) s = .next t ∧ (t.lopSlot i.val).run = .image true false (n + 64)
      ∧ t.lopFld i.val lopLines = (s.lopFld i.val lopLines + 1) % 4294967296
      ∧ (∀ j, j < 64 → n + j < s.slotLen →
          Tbl.get flashErased t.cast.flash (s.slotBase (s.lopArgF i.val 0 0 1) + n + j) = b.getD j 0#8)
      ∧ s.onlyParts t [.regs, .cast, .lop])
  ∧ (∀ (s : State) (i : Fin 16) (f : Bool) (n : Nat) (b : List Byte), (s.lopSlot i.val).run = .image true true n →
    s.lopActive i.val = true → s.serving = true → s.slotQueued (s.lopArgF i.val 0 0 1) = false →
    ∃ t, exec (.imageWrite i b f) s = .next t ∧ t.lopFld i.val lopState = 3 ∧ t.lopFld i.val lopCode = 0
      ∧ s.onlyRegs t [Reg.LOP_STATUS i.val] ∧ s.onlyParts t [.regs, .lop])
  ∧ (∀ (s : State) (i : Fin 16) (b : List Byte), (s.lopSlot i.val).run = .admission → s.lopActive i.val = true → s.serving = true →
    0 < s.inLeft i.val → s.dmaEn = true → b.length = 64 →
    ∃ t, exec (.admitRequest i b) s = .next t ∧ (t.lopSlot i.val).buf = (s.lopSlot i.val).buf ++ b
      ∧ t.lopFld i.val lopLines = (s.lopFld i.val lopLines + 1) % 4294967296
      ∧ s.onlyRegs t [Reg.LOP_STATUS i.val] ∧ s.onlyParts t [.regs, .lop])
  ∧ (∀ (s : State) (i : Fin 16) (b : List Byte) (x : AdmitBlock), (s.lopSlot i.val).run = .admission → s.lopActive i.val = true →
    s.serving = true → s.inDone i.val = true → s.admitBefore i.val = false → s.dram.freq = .idle → s.anyMigration = false →
    admitBlockOk (s.lopSlot i.val).buf = true → x = admitBlock (s.lopSlot i.val).buf → x.badField = none →
    s.fld Reg.CST_IMAGE_INFO Fld.CST_IMAGE_INFO_RUNTIME_ADMIT ≠ 0 →
    ∃ t, exec (.admitRequest i b) s = .next t
      ∧ ((s.admitApply x).admitChecks x (admitEnvelope s.cast.env x) = none →
          t.lopFld i.val lopState = 3 ∧ t.cast.env = admitEnvelope s.cast.env x
          ∧ t.reg (Reg.CST_CNT Cnt.CST_ADMIT_REQ_OK) = s.reg (Reg.CST_CNT Cnt.CST_ADMIT_REQ_OK) + 1)
      ∧ (∀ r, (s.admitApply x).admitChecks x (admitEnvelope s.cast.env x) = some r →
          t.lopFld i.val lopState = 4 ∧ t.lopFld i.val lopCode = r.code % 65536 ∧ s.onlyParts t [.regs, .lop]))

/-- O54. The IPFIX exporter: reading entries, skipping, sending, templates, status line. (R244, R245, R246, R247) -/
def Obligations.ExporterSteps : Prop :=
  (∀ (s : State) (h : Fin 16) (e0 e1 e2 : Ecc) (cfg : ExporterCfg) (n : Nat) (b : List Byte), s.exportCfg = some cfg →
    n = s.expectedSeq h.val cfg.ringEntries → b = (s.ringEntry (s.slotLine cfg h.val n) e0 e1).1 → s.messageRoom cfg 3 = true →
    ∃ t, exec (.exporterReadEntry h e0 e1 e2) s = .next t
      ∧ ((entryWord b 0).toNat = n ∧ (entryWord b 15).toNat = n →
          Tbl.get 0 t.exporter.next h.val = n + 1 ∧ t.exporter.exported = s.exporter.exported + 1
          ∧ ((entryWord b 6).get ⟨44, 4⟩ < 4 → (entryWord b 9).get ⟨16, 1⟩ = 0 →
              t.exporter.records = s.exporter.records ++ [((entryWord b 6).get ⟨44, 4⟩, dataRecord ((entryWord b 6).get ⟨44, 4⟩) b [])]))
      ∧ (slotUnwritten b n = true → n < s.exportSeq h.val → Tbl.get none s.exporter.waitAt h.val = none →
          Tbl.get none t.exporter.waitAt h.val = some s.clk.mono ∧ t.exporter.exported = s.exporter.exported)
      ∧ s.onlyParts t [.regs, .free, .fault, .dram, .exporter])
  ∧ (∀ (s : State) (h : Fin 16) (cfg : ExporterCfg) (m n l : Nat), s.exportCfg = some cfg →
    Tbl.get none s.exporter.waitAt h.val = some m → m + usTicks 10 ≤ s.clk.mono → n = s.expectedSeq h.val cfg.ringEntries →
    l = s.slotLine cfg h.val n → slotUnwritten (s.slotBytes l) n = true →
    ∃ t, exec (.skipped h) s = .next t ∧ t.exporter.skipped = s.exporter.skipped + 1 ∧ Tbl.get 0 t.exporter.next h.val = n + 1
      ∧ s.onlyParts t [.exporter])
  ∧ (∀ (s : State) (w0 w1 : Word64) (cfg : ExporterCfg) (x : Nat), s.exportCfg = some cfg → s.exporter.records ≠ [] →
    cfg.wire = true ∨ s.down unitHif = false ∧ s.hostIsLost = true → (s.poolAlloc (21 + s.activeCc) 2).1 = .granted x →
    ∃ t, exec (.ipfixMessageSend w0 w1) s = .next t ∧ t.exporter.records = [] ∧ t.exporter.templates = false
      ∧ t.exporter.sent = s.exporter.sent + 1 ∧ t.exporter.seq = s.exporter.seq + s.exporter.records.length)
  ∧ (∀ (s : State) (cfg : ExporterCfg), s.exportCfg = some cfg →
    s.exporter.templatesAt + usTicks 1000000 * cfg.refreshS ≤ s.clk.mono →
    16 + templateSet.length + ((dataSets s.exporter.records).flatMap setBytes).length ≤ cfg.mtu →
    exec .templateRefresh s = .next { s with exporter := { s.exporter with templates := true } })
  ∧ (∀ (s : State) (cfg : ExporterCfg) (a : LineAt), s.exportCfg = some cfg → s.exporter.statusAt + msTicks 100 ≤ s.clk.mono →
    s.locate (s.region8 0) = some a → s.rankDead a = false → s.poisoned (s.region8 0) = false →
    ∃ t, exec .exporterStatusWrite s = .next t ∧ t.exporter = { s.exporter with statusAt := s.clk.mono }
      ∧ t.lineBytes (s.region8 0) = [s.exporter.exported, s.exporter.skipped, s.exporter.overrun, s.exporter.sent, s.exporter.lost,
          s.clk.sec, 0, 0].flatMap (leBytes 8)
      ∧ s.onlyParts t [.regs, .dram, .exporter])

/-- O55. Heartbeats of the complexes, their silence, take-over, automatic restart. (R405, R407, R411, R413) -/
def Obligations.ControlComplexes : Prop :=
  (∀ (s : State) (x p : Fin 2), s.ccUp x.val = true → Tbl.get none s.ccx.sent (hbKey x.val p.val) = none →
    ∃ t, exec (.ccHeartbeat x p) s = .next t ∧ Tbl.get none t.ccx.heard (hbKey x.val p.val) = some s.clk.mono
      ∧ Tbl.get none t.ccx.sent (hbKey x.val p.val) = some s.clk.mono ∧ s.onlyParts t [.ccx])
  ∧ (∀ (s : State) (x : Fin 2), s.ccUp x.val = true → s.ccUp (1 - x.val) = true → s.hbSilent x.val 0 = true → s.hbSilent x.val 1 = true →
    s.activeCc ≠ x.val →
    ∃ t, exec (.ccHeartbeatTimeout x) s = .next t ∧ t.unitState (unitComplex x.val) = 1
      ∧ t.reg (Reg.FLT_CNT Cnt.FLT_FENCES) = s.reg (Reg.FLT_CNT Cnt.FLT_FENCES) + 1 ∧ s.onlyParts t [.regs, .fault, .free])
  ∧ (∀ (s : State) (x : Fin 2), s.ccUp x.val = true → s.ccUp (1 - x.val) = true → s.hbSilent x.val 0 = true →
    s.hbSilent x.val 1 = false → Tbl.get false s.ccx.told (hbKey x.val 0) = false →
    ∃ t, exec (.ccHeartbeatTimeout x) s = .next t ∧ Tbl.get false t.ccx.told (hbKey x.val 0) = true
      ∧ t.reg (Reg.CCX_CNT Cnt.CCX_HB_PATH_FAULTS) = s.reg (Reg.CCX_CNT Cnt.CCX_HB_PATH_FAULTS) + 1
      ∧ s.onlyParts t [.regs, .fault, .ccx])
  ∧ (∀ (s : State) (a : Nat), a = s.activeCc → s.ccUp (1 - a) = true →
    s.fld Reg.CCX_TAKEOVERS Fld.CCX_TAKEOVERS_COUNT < s.fld Reg.CCX_CFG Fld.CCX_CFG_TAKEOVER_LIMIT →
    s.down (unitComplex a) = true ∨ s.hbSilent a 0 = true ∧ s.hbSilent a 1 = true →
    ∃ t, exec .takeover s = .next t ∧ t.activeCc = 1 - a ∧ t.claim (1 - a) = (s.claim a + 1) % 4294967296
      ∧ t.down (unitComplex a) = true ∧ t.flag Reg.CCX_STATUS Fld.CCX_STATUS_TAKEOVER_SEEN = true
      ∧ t.fld Reg.CCX_TAKEOVERS Fld.CCX_TAKEOVERS_COUNT = s.fld Reg.CCX_TAKEOVERS Fld.CCX_TAKEOVERS_COUNT + 1
      ∧ s.onlyParts t [.regs, .fault, .free, .cast, .lop, .exporter])
  ∧ (∀ (s : State) (x : Nat), x = 1 - s.activeCc → s.flag Reg.CCX_CTL Fld.CCX_CTL_AUTO_RESTART = true → s.serving = true →
    s.unitState (unitComplex x) = 1 →
    ∃ t, exec (.autoRestart true) s = .next t ∧ t.unitState (unitComplex x) = 0 ∧ t.claim x = s.claim s.activeCc - 1
      ∧ t.reg (Reg.CCX_CNT Cnt.CCX_RESTARTS) = s.reg (Reg.CCX_CNT Cnt.CCX_RESTARTS) + 1 ∧ s.onlyParts t [.regs, .fault, .ccx])
  ∧ (∀ (s : State) (x : Nat), x = 1 - s.activeCc → s.flag Reg.CCX_CTL Fld.CCX_CTL_AUTO_RESTART = true → s.serving = true →
    s.unitState (unitComplex x) = 1 →
    ∃ t, exec (.autoRestart false) s = .next t ∧ t.unitState (unitComplex x) = 2 ∧ s.onlyParts t [.regs, .fault, .ccx])

/-- O56. SWITCH makes the standby active under the raised claim without a fence, or is refused with SWITCH_ERR. (R412) -/
def Obligations.SwitchOver : Prop :=
  (∀ (s : State) (a : Nat), a = s.activeCc → s.ccUp (1 - a) = true → s.imageWriting = false →
    s.fld Reg.CCX_TAKEOVERS Fld.CCX_TAKEOVERS_COUNT < s.fld Reg.CCX_CFG Fld.CCX_CFG_TAKEOVER_LIMIT →
    ∃ t, exec .switchOver s = .next t ∧ t.activeCc = 1 - a ∧ t.claim (1 - a) = (s.claim a + 1) % 4294967296
      ∧ t.claim a = s.claim a ∧ (∀ u, u < 315 → t.unitState u = s.unitState u) ∧ t.fault = s.fault
      ∧ t.reg (Reg.CCX_CNT Cnt.CCX_SWITCHES) = s.reg (Reg.CCX_CNT Cnt.CCX_SWITCHES) + 1
      ∧ s.onlyParts t [.regs, .lop, .exporter])
  ∧ (∀ s : State, s.ccUp (1 - s.activeCc) = false ∨ s.imageWriting = true →
    ∃ t, exec .switchOver s = .next t ∧ t.flag Reg.CCX_STATUS Fld.CCX_STATUS_SWITCH_ERR = true
      ∧ s.onlyRegs t [Reg.CCX_STATUS] ∧ s.onlyParts t [.regs])

/-- O57. Twin heartbeats, silence, frames sent, resent, received and acknowledged. (R415, R416, R417, R420, R421, R424) -/
def Obligations.TwinLinkSteps : Prop :=
  (∀ (s : State) (p : Fin 2), s.beats = true → s.twin.linkSent = none → s.twin.sideSent = none → s.down unitTwin = false →
    ∃ t, exec (.twinHeartbeatSend p) s = .next t
      ∧ t.twin.sent = some ⟨s.ownClaim, s.twinRole, s.twnFld Fld.TWN_STATUS_SYNC, s.fld Reg.TWN_PARTNER Fld.TWN_PARTNER_PROMOTIONS⟩
      ∧ (if p.val = 0 then t.twin.linkSent else t.twin.sideSent) = some s.clk.mono ∧ s.onlyParts t [.twin])
  ∧ (∀ (s : State) (p : Fin 2) (claim : BitVec 32) (role sync : Fin 4) (x : TwinPair), s.twinEn = true → s.phase = 11 →
    s.down unitTwin = false →
    ∃ t, exec (.twinHeartbeatReceive p claim role sync x) s = .next t ∧ t.partnerClaim = claim.toNat
      ∧ t.fld Reg.TWN_PARTNER Fld.TWN_PARTNER_P_ROLE = role.val ∧ t.fld Reg.TWN_PARTNER Fld.TWN_PARTNER_P_SYNC = sync.val
      ∧ t.flag Reg.TWN_STATUS Fld.TWN_STATUS_PARTNER_LOST = false
      ∧ (if p.val = 0 then t.twin.linkAt else t.twin.sideAt) = some s.clk.mono
      ∧ (s.pairDue role.val = true → t.twnFld Fld.TWN_STATUS_PAIR_ERR = s.pairError x ∧ t.twin.paired = true)
      ∧ s.onlyParts t [.regs, .fault, .free, .cast, .twin])
  ∧ (∀ (s : State) (p : Fin 2) (m : Nat) (f g : Fld),
    (p.val = 0 ∧ s.twin.linkAt = some m ∧ f = Fld.TWN_STATUS_LINK_HB ∧ g = Fld.TWN_STATUS_SIDEBAND_HB)
      ∨ (p.val = 1 ∧ s.twin.sideAt = some m ∧ f = Fld.TWN_STATUS_SIDEBAND_HB ∧ g = Fld.TWN_STATUS_LINK_HB) →
    s.twinEn = true → s.twnFld f = 1 → m + usTicks (s.fld Reg.TWN_CFG Fld.TWN_CFG_HB_TIMEOUT_US) ≤ s.clk.mono →
    ∃ t, exec (.twinPathTimeout p) s = .next t ∧ t.twnFld f = 0
      ∧ t.reg (Reg.TWN_CNT Cnt.TWN_PATH_FAULTS) = s.reg (Reg.TWN_CNT Cnt.TWN_PATH_FAULTS) + 1
      ∧ (s.twnFld g = 0 → t.flag Reg.TWN_STATUS Fld.TWN_STATUS_PARTNER_LOST = true ∧ t.twin.queues = [] ∧ t.twin.unacked = [])
      ∧ s.onlyParts t [.regs, .fault, .free, .cast, .twin])
  ∧ (∀ (s : State) (k : Nat), s.mirrors = true → s.twin.unacked.length < 64 → s.nextQueue = some k →
    ∃ t f, exec .twinFrameSend s = .next t ∧ t.twin.unacked = s.twin.unacked ++ [⟨f, s.clk.mono⟩] ∧ f.claim = s.ownClaim
      ∧ f.seq = s.twin.txSeq ∧ f.entries ≠ [] ∧ f.entries.length ≤ 32 ∧ t.twin.txSeq = (s.twin.txSeq + 1) % 4294967296
      ∧ s.onlyRegs t [Reg.TWN_CNT Cnt.TWN_ENTRIES_SENT, Reg.TWN_CNT Cnt.TWN_AUX_LINES_SENT] ∧ s.onlyParts t [.regs, .twin])
  ∧ (∀ (s : State) (x : TwinSent) (r : List TwinSent), s.twin.unacked = x :: r → x.at_ + usTicks 10 ≤ s.clk.mono → s.twinEn = true →
    s.down unitTwin = false →
    ∃ t, exec .twinRetransmit s = .next t ∧ t.twin = { s.twin with unacked := { x with at_ := s.clk.mono } :: r }
      ∧ t.reg (Reg.TWN_CNT Cnt.TWN_FRAMES_RETRANSMITTED) = s.reg (Reg.TWN_CNT Cnt.TWN_FRAMES_RETRANSMITTED) + 1
      ∧ s.onlyRegs t [Reg.TWN_CNT Cnt.TWN_FRAMES_RETRANSMITTED] ∧ s.onlyParts t [.regs, .twin])
  ∧ (∀ (s : State) (claim seq : BitVec 32) (l : List (Fin 16 × List Byte)), s.twinEn = true → s.down unitTwin = false →
    s.twnFld Fld.TWN_STATUS_PAIR_ERR = 0 → s.twin.paired = true →
    ∃ t, exec (.twinFrameReceive claim seq l true) s = .next t
      ∧ (claim.toNat < s.ownClaim → t.twin = s.twin
          ∧ t.reg (Reg.TWN_CNT Cnt.TWN_REJECTED_LOW_CLAIM) = s.reg (Reg.TWN_CNT Cnt.TWN_REJECTED_LOW_CLAIM) + 1)
      ∧ (claim.toNat = s.ownClaim → t.flag Reg.TWN_STATUS Fld.TWN_STATUS_TIE_SEEN = true ∧ t.unitState unitTwin = 1)
      ∧ (s.ownClaim < claim.toNat → seq.toNat = s.twin.rxSeq → s.onlyParts t [.twin]
          ∧ t.twin.apply = s.twin.apply ++ (l.map (fun e => (e.1.val, e.2))).take 32 ∧ t.twin.rxSeq = (seq.toNat + 1) % 4294967296)
      ∧ (s.ownClaim < claim.toNat → seq.toNat ≠ s.twin.rxSeq → t = s))
  ∧ (∀ (s : State) (seq : BitVec 32) (k : Nat), s.twin.unacked.findIdx? (fun x => x.frame.seq == seq.toNat) = some k →
    s.twinEn = true → s.down unitTwin = false →
    exec (.twinAcknowledgement seq) s = .next { s with twin := { s.twin with unacked := s.twin.unacked.drop (k + 1) } })

/-- O58. The mirror engine, delta batches, PROMOTE, RESYNC and sync passes. (R418, R421, R423, R425) -/
def Obligations.TwinMirroring : Prop :=
  (∀ (s : State) (h : Fin 16) (b : List Byte) (r : List (Nat × List Byte)) (es : List Ecc), s.twin.apply = (h.val, b) :: r →
    vecByte b 0 = 4 → s.twinEn = true → s.shardUp h.val = true → s.dmcReady = true →
    ∃ t, exec (.mirrorApply h es) s = .next t ∧ t.twin = { s.twin with apply := r }
      ∧ t.reg (Reg.TWN_CNT Cnt.TWN_ENTRIES_APPLIED) = s.reg (Reg.TWN_CNT Cnt.TWN_ENTRIES_APPLIED) + 1
      ∧ s.onlyParts t [.regs, .dram, .twin])
  ∧ (∀ (s : State) (h : Fin 16), s.mirrors = true →
    Tbl.get 0 s.twin.batchAt h.val + usTicks (s.fld Reg.TWN_CFG Fld.TWN_CFG_BATCH_US) ≤ s.clk.mono →
    ∃ t, exec (.deltaBatch h) s = .next t ∧ Tbl.get 0 t.twin.batchAt h.val = s.clk.mono ∧ t.deltas h.val = []
      ∧ (s.deltas h.val ≠ [] → t.reg (Reg.TWN_CNT Cnt.TWN_DELTA_BATCHES) = s.reg (Reg.TWN_CNT Cnt.TWN_DELTA_BATCHES) + 1)
      ∧ s.onlyParts t [.regs, .fault, .twin])
  ∧ (∀ s : State, s.twinEn = true → s.twnFld Fld.TWN_STATUS_PAIR_ERR = 0 → s.twnFld Fld.TWN_STATUS_PARTNER_LOST = 0 →
    s.partnerClaim + 1 < 4294967296 →
    ∃ t, exec .promote s = .next t ∧ t.ownClaim = max s.ownClaim (s.partnerClaim + 1) ∧ (s.twin.paired = true → t.twinRole = 1)
      ∧ s.onlyRegs t [Reg.TWN_CLAIM, Reg.TWN_STATUS] ∧ s.onlyParts t [.regs])
  ∧ (∀ s : State, s.twinEn = true → s.twnFld Fld.TWN_STATUS_PAIR_ERR ≠ 0 ∨ s.twnFld Fld.TWN_STATUS_PARTNER_LOST = 1 →
    ∃ t, exec .promote s = .next t ∧ t.flag Reg.TWN_STATUS Fld.TWN_STATUS_PROMOTE_ERR = true ∧ t.ownClaim = s.ownClaim
      ∧ s.onlyRegs t [Reg.TWN_STATUS] ∧ s.onlyParts t [.regs])
  ∧ (∀ s : State, s.twinEn = true → s.twinRole = 1 → s.twnFld Fld.TWN_STATUS_PAIR_ERR = 0 → s.twin.paired = true →
    ∃ t, exec .resync s = .next t ∧ t.twnFld Fld.TWN_STATUS_SYNC = 1 ∧ t.twin = { s.twin with pass := some ⟨0, 0, 0, 0⟩ }
      ∧ t.reg (Reg.TWN_CNT Cnt.TWN_SYNC_PASSES) = s.reg (Reg.TWN_CNT Cnt.TWN_SYNC_PASSES) + 1
      ∧ s.onlyRegs t [Reg.TWN_STATUS, Reg.TWN_SYNC, Reg.TWN_CNT Cnt.TWN_SYNC_PASSES] ∧ s.onlyParts t [.regs, .twin])
  ∧ (∀ (s : State) (x : SyncPass) (e e2 : Ecc), s.mirrors = true → s.twin.pass = some x → s.dmcReady = true → x.shard < 16 →
    (Tbl.get [] s.twin.queues x.shard).length ≤ 8190 → s.shardUp x.shard = false → s.exportMay x.shard x.slot = true →
    x.slot + 1 < s.shardSlots x.shard →
    ∃ t, exec (.syncPassStep e e2) s = .next t ∧ t.twin = { s.twin with pass := some { x with slot := x.slot + 1 } }
      ∧ t.fld Reg.TWN_SYNC Fld.TWN_SYNC_SLOTS_DONE = (s.fld Reg.TWN_SYNC Fld.TWN_SYNC_SLOTS_DONE + 1) % 4294967296
      ∧ s.onlyRegs t [Reg.TWN_SYNC] ∧ s.onlyParts t [.regs, .twin])
  ∧ (∀ (s : State) (x : SyncPass) (e e2 : Ecc), s.mirrors = true → s.twin.pass = some x → s.dmcReady = true → x.shard = 16 →
    (Tbl.get [] s.twin.queues 0).length ≤ 8190 → (∀ r, r < 16 → s.passLines r = 0) →
    ∃ t, exec (.syncPassStep e e2) s = .next t ∧ t.twin = { s.twin with pass := none }
      ∧ (s.twnFld Fld.TWN_STATUS_SYNC = 1 → t.twnFld Fld.TWN_STATUS_SYNC = 2) ∧ s.onlyRegs t [Reg.TWN_STATUS]
      ∧ s.onlyParts t [.regs, .twin])

/-- O59. PMU.PD_CMD: QUIESCE, OFF, ON, their completion and refusal; SHUTDOWN. (R431, R432, R433, R434, R437) -/
def Obligations.PowerDomains : Prop :=
  (∀ (s : State) (d : Fin 128), s.flag Reg.PMU_PD_CMD Fld.PMU_PD_CMD_BUSY = false → d.val < 80 → domSwitchable d.val = true →
    s.phase = 11 → s.dom d.val = 1 → s.quiesceBar d.val = none →
    ∃ t, exec (.quiesce d) s = .next t ∧ t.dom d.val = 3 ∧ t.power.pdRun = some (1, d.val)
      ∧ (∀ u ∈ domUnits d.val, t.unitState u = 5) ∧ t.flag Reg.PMU_PD_CMD Fld.PMU_PD_CMD_BUSY = true
      ∧ t.reg (Reg.PMU_CNT Cnt.PMU_QUIESCES) = s.reg (Reg.PMU_CNT Cnt.PMU_QUIESCES) + 1)
  ∧ (∀ (s : State) (d : Fin 128), s.flag Reg.PMU_PD_CMD Fld.PMU_PD_CMD_BUSY = false → d.val < 80 → domSwitchable d.val = true →
    s.phase = 11 → s.dom d.val = 2 → s.offBar d.val = none →
    ∃ t, exec (.powerOff d) s = .next t ∧ t.dom d.val = 3 ∧ t.power.pdRun = some (2, d.val)
      ∧ t.flag Reg.PMU_PD_CMD Fld.PMU_PD_CMD_BUSY = true
      ∧ t.reg (Reg.PMU_CNT Cnt.PMU_OFFS) = s.reg (Reg.PMU_CNT Cnt.PMU_OFFS) + 1
      ∧ s.onlyRegs t [Reg.PMU_PD_CMD, Reg.PMU_PD_STATE (d.val / 32), Reg.PMU_CNT Cnt.PMU_OFFS] ∧ s.onlyParts t [.regs, .power])
  ∧ (∀ (s : State) (d : Fin 128), s.flag Reg.PMU_PD_CMD Fld.PMU_PD_CMD_BUSY = false → d.val < 80 → domSwitchable d.val = true →
    s.phase = 11 → s.dom d.val = 0 ∨ s.dom d.val = 2 → s.onBar d.val = none →
    ∃ t, exec (.powerOn d) s = .next t ∧ t.dom d.val = 3 ∧ t.power.pdRun = some (if s.dom d.val = 0 then 3 else 4, d.val)
      ∧ t.flag Reg.PMU_PD_CMD Fld.PMU_PD_CMD_BUSY = true
      ∧ t.reg (Reg.PMU_CNT Cnt.PMU_ONS) = s.reg (Reg.PMU_CNT Cnt.PMU_ONS) + 1
      ∧ s.onlyRegs t [Reg.PMU_PD_CMD, Reg.PMU_PD_STATE (d.val / 32), Reg.PMU_CNT Cnt.PMU_ONS] ∧ s.onlyParts t [.regs, .power])
  ∧ (∀ (s : State) (d : Fin 128) (c : Instr), c ∈ [Instr.quiesce d, .powerOff d, .powerOn d] →
    s.flag Reg.PMU_PD_CMD Fld.PMU_PD_CMD_BUSY = true →
    ∃ t, exec c s = .next t ∧ t.flag Reg.PMU_PD_CMD Fld.PMU_PD_CMD_ERR = true
      ∧ t.fld Reg.PMU_PD_CMD Fld.PMU_PD_CMD_ERR_CODE = 1
      ∧ t.reg (Reg.PMU_CNT Cnt.PMU_REFUSED) = s.reg (Reg.PMU_CNT Cnt.PMU_REFUSED) + 1
      ∧ s.onlyRegs t [Reg.PMU_PD_CMD, Reg.PMU_CNT Cnt.PMU_REFUSED] ∧ s.onlyParts t [.regs])
  ∧ (∀ (s : State) (d : Nat) (op : Nat), s.power.pdRun = some (op, d) → d < 80 → op = 1 ∨ op = 2 →
    ∃ t, exec (.pdCmdComplete true) s = .next t ∧ t.dom d = (if op = 1 then 2 else 0) ∧ t.power.pdRun = none
      ∧ t.flag Reg.PMU_PD_CMD Fld.PMU_PD_CMD_BUSY = false
      ∧ s.onlyRegs t [Reg.PMU_PD_CMD, Reg.PMU_PD_STATE (d / 32)] ∧ s.onlyParts t [.regs, .power])
  ∧ (∀ (s : State) (d : Nat) (op : Nat) (ok : Bool), s.power.pdRun = some (op, d) → d < 80 → op = 3 ∨ op = 4 →
    ∃ t, exec (.pdCmdComplete ok) s = .next t ∧ t.dom d = 1 ∧ t.power.pdRun = none
      ∧ t.flag Reg.PMU_PD_CMD Fld.PMU_PD_CMD_BUSY = false)
  ∧ (∀ s : State, s.phase = 11 → s.power.shutdown = false →
    ∃ t, exec .shutdown s = .next t ∧ t.power = { s.power with shutdown := true } ∧ t.dram.freq = .selfRefresh ∧ t.cast.jq = []
      ∧ t.flag Reg.GLB_STATUS Fld.GLB_STATUS_DEV_READY = false ∧ t.flag Reg.GLB_STATUS Fld.GLB_STATUS_SAFE_OFF = true
      ∧ s.onlyParts t [.regs, .power, .dram, .cast])

/-- O60. PD_AON power-up, SYS_RESET_N, TRST_N and the JTAG instructions. (R430, R452) -/
def Obligations.ResetsAndTheTestPort : Prop :=
  (∀ s : State, ∃ t, exec .pdAonPowerUp s = .next t ∧ t.regs = State.reset.regs ∧ t.clk = Clock.init ∧ t.cast.flash = s.cast.flash
      ∧ t.cast.jnl = s.cast.jnl ∧ t.cast.bank0 = s.cast.bank0 ∧ t.cast.bank1 = s.cast.bank1 ∧ t.cast.svn = s.cast.svn)
  ∧ (∀ (s : State) (n : Nat), s.power.sysResetLow = false →
    ∃ t, exec (.sysResetNFall n) s = .next t ∧ t.power.sysResetLow = true ∧ t.phase = 0 ∧ t.claim 0 = 0 ∧ t.claim 1 = 0
      ∧ t.flag Reg.GLB_STATUS Fld.GLB_STATUS_DEV_READY = false ∧ t.cast.jq = [] ∧ t.power.pdRun = none)
  ∧ (∀ s : State, s.power.sysResetLow = true →
    ∃ t, exec .sysResetNRelease s = .next t ∧ t.power.sysResetLow = false ∧ t.phase = 0
      ∧ t.fld Reg.CST_STATUS Fld.CST_STATUS_CAUSE = 1 ∧ t.cast.slot = none)
  ∧ (∀ s : State, exec .trstNAssert s = .next { s with jtag := { JtagSt.init with bsr := s.jtag.bsr } })
  ∧ (∀ (s : State) (c : Instr) (i : JtagInstr) (dr : List Bool), (c, i, dr) ∈ [(Instr.idcode, JtagInstr.idcode, idcodeBits),
      (.highz, .highz, bypassBit), (.clamp, .clamp, bypassBit), (.bypass, .bypass, bypassBit),
      (.extest, .extest, s.boundaryOrBypass), (.extestPulse, .extestPulse, s.boundaryOrBypass),
      (.extestTrain, .extestTrain, s.boundaryOrBypass)] →
    exec c s = .next { s with jtag := ⟨i, dr, s.jtag.bsr, if s.power.sysResetLow then i.drives else .normal⟩ })
  ∧ (∀ (s : State) (pins load : List Bool), exec (.samplePreload pins load) s = .next { s with
      jtag := ⟨.samplePreload, pins, load, .normal⟩ })
end

