-- ==== Sys2Proof/Laws/Tables.lean ====
section
/-! SUPPORT. Laws of sparse tables and of memories: read after write, other keys untouched, the canonical form kept. -/

namespace Sys2Proof.Machine

variable {α : Type}

theorem Tbl.get_insert (d : α) (t : Tbl α) (a b : Nat) (x : α) :
    Tbl.get d (Tbl.insert t a x) b = if b = a then x else Tbl.get d t b := by
  induction t with
  | nil => simp [Tbl.insert, Tbl.get]
  | cons e r ih =>
    obtain ⟨k, v⟩ := e
    unfold Tbl.insert
    split
    · simp [Tbl.get]
    · split
      · next h => subst h; simp only [Tbl.get]; split <;> simp_all
      · simp only [Tbl.get, ih]; split <;> simp_all [eq_comm]

theorem Tbl.get_erase (d : α) (t : Tbl α) (a b : Nat) :
    Tbl.get d (Tbl.erase t a) b = if b = a then d else Tbl.get d t b := by
  induction t with
  | nil => simp [Tbl.erase, Tbl.get]
  | cons e r ih =>
    obtain ⟨k, v⟩ := e
    unfold Tbl.erase
    split
    · next h => subst h; rw [ih]; by_cases hb : b = a <;> simp [Tbl.get, hb]
    · simp only [Tbl.get, ih]; split <;> simp_all [eq_comm]

/-- Reading a table after a write. -/
@[simp] theorem Tbl.get_set [DecidableEq α] (d : α) (t : Tbl α) (a b : Nat) (x : α) :
    Tbl.get d (Tbl.set d t a x) b = if b = a then x else Tbl.get d t b := by
  unfold Tbl.set
  split
  · next h => rw [Tbl.get_erase, h]
  · rw [Tbl.get_insert]

/-- A table whose unlisted keys read as `d` here and `d'` there, after a write of `x`. -/
theorem Tbl.get_set_other [DecidableEq α] (d d' : α) (t : Tbl α) (a b : Nat) (x : α) (h : b ≠ a) :
    Tbl.get d' (Tbl.set d t a x) b = Tbl.get d' t b := by
  unfold Tbl.set
  split
  · rw [Tbl.get_erase, if_neg h]
  · rw [Tbl.get_insert, if_neg h]

/-- Reading a table after unlisting the keys that satisfy `p`. -/
theorem Tbl.get_drop (d : α) (t : Tbl α) (p : Nat → Bool) (b : Nat) :
    Tbl.get d (Tbl.drop t p) b = if p b then d else Tbl.get d t b := by
  induction t with
  | nil => simp [Tbl.drop, Tbl.get]
  | cons e r ih =>
    obtain ⟨k, v⟩ := e
    simp only [Tbl.drop] at ih ⊢
    by_cases hk : p k
    · simp only [List.filter_cons, hk, Bool.not_true, Bool.false_eq_true, if_false, ih, Tbl.get]
      by_cases hb : b = k <;> simp_all
    · simp only [Bool.not_eq_true] at hk
      simp only [List.filter_cons, hk, Bool.not_false, if_true, Tbl.get, ih]
      by_cases hb : b = k <;> simp_all

/-! ### The canonical form -/

/-- A key below every key of the table from `lo` on. -/
theorem Tbl.sortedFrom_weaken (t : Tbl α) (lo lo' : Nat) (h : lo' ≤ lo)
    (ht : Tbl.sortedFrom (some lo) t = true) : Tbl.sortedFrom (some lo') t = true := by
  cases t with
  | nil => rfl
  | cons e r =>
    simp only [Tbl.sortedFrom, Bool.and_eq_true, decide_eq_true_eq] at ht ⊢
    exact ⟨by omega, ht.2⟩

theorem Tbl.sortedFrom_none (t : Tbl α) (lo : Nat) (ht : Tbl.sortedFrom (some lo) t = true) :
    Tbl.sortedFrom none t = true := by
  cases t with
  | nil => rfl
  | cons e r => simp only [Tbl.sortedFrom, Bool.and_eq_true] at ht ⊢; exact ht.2

theorem Tbl.sortedFrom_insert (t : Tbl α) (lo a : Nat) (x : α) (hlo : lo < a)
    (ht : Tbl.sortedFrom (some lo) t = true) : Tbl.sortedFrom (some lo) (Tbl.insert t a x) = true := by
  induction t generalizing lo with
  | nil => simp [Tbl.insert, Tbl.sortedFrom, hlo]
  | cons e r ih =>
    obtain ⟨k, v⟩ := e
    simp only [Tbl.sortedFrom, Bool.and_eq_true, decide_eq_true_eq] at ht
    unfold Tbl.insert
    split
    · simp only [Tbl.sortedFrom, Bool.and_eq_true, decide_eq_true_eq]; exact ⟨hlo, by assumption, ht.2⟩
    · split
      · next h => subst h; simp only [Tbl.sortedFrom, Bool.and_eq_true, decide_eq_true_eq]; exact ht
      · simp only [Tbl.sortedFrom, Bool.and_eq_true, decide_eq_true_eq]
        exact ⟨ht.1, ih k (by omega) ht.2⟩

theorem Tbl.sorted_insert (t : Tbl α) (a : Nat) (x : α) (ht : Tbl.sortedFrom none t = true) :
    Tbl.sortedFrom none (Tbl.insert t a x) = true := by
  cases t with
  | nil => rfl
  | cons e r =>
    obtain ⟨k, v⟩ := e
    simp only [Tbl.sortedFrom] at ht
    unfold Tbl.insert
    split
    · simp only [Tbl.sortedFrom, Bool.and_eq_true, decide_eq_true_eq]; exact ⟨by assumption, ht⟩
    · split
      · next h => subst h; exact ht
      · simp only [Tbl.sortedFrom]; exact Tbl.sortedFrom_insert r k a x (by omega) ht

theorem Tbl.sortedFrom_erase (t : Tbl α) (lo a : Nat) (ht : Tbl.sortedFrom (some lo) t = true) :
    Tbl.sortedFrom (some lo) (Tbl.erase t a) = true := by
  induction t generalizing lo with
  | nil => rfl
  | cons e r ih =>
    obtain ⟨k, v⟩ := e
    simp only [Tbl.sortedFrom, Bool.and_eq_true, decide_eq_true_eq] at ht
    unfold Tbl.erase
    split
    · exact ih lo (Tbl.sortedFrom_weaken r k lo (by omega) ht.2)
    · simp only [Tbl.sortedFrom, Bool.and_eq_true, decide_eq_true_eq]; exact ⟨ht.1, ih k ht.2⟩

theorem Tbl.sorted_erase (t : Tbl α) (a : Nat) (ht : Tbl.sortedFrom none t = true) :
    Tbl.sortedFrom none (Tbl.erase t a) = true := by
  cases t with
  | nil => rfl
  | cons e r =>
    obtain ⟨k, v⟩ := e
    simp only [Tbl.sortedFrom] at ht
    unfold Tbl.erase
    split
    · exact Tbl.sortedFrom_none _ k (Tbl.sortedFrom_erase r k a ht)
    · simp only [Tbl.sortedFrom]; exact Tbl.sortedFrom_erase r k a ht

theorem Tbl.sortedFrom_drop (t : Tbl α) (p : Nat → Bool) (lo : Nat) (ht : Tbl.sortedFrom (some lo) t = true) :
    Tbl.sortedFrom (some lo) (Tbl.drop t p) = true := by
  induction t generalizing lo with
  | nil => rfl
  | cons e r ih =>
    obtain ⟨k, v⟩ := e
    simp only [Tbl.sortedFrom, Bool.and_eq_true, decide_eq_true_eq] at ht
    simp only [Tbl.drop] at ih ⊢
    by_cases hk : p k
    · simp only [List.filter_cons, hk, Bool.not_true, Bool.false_eq_true, if_false]
      exact ih lo (Tbl.sortedFrom_weaken r k lo (by omega) ht.2)
    · simp only [Bool.not_eq_true] at hk
      simp only [List.filter_cons, hk, Bool.not_false, if_true, Tbl.sortedFrom, Bool.and_eq_true, decide_eq_true_eq]
      exact ⟨ht.1, ih k ht.2⟩

theorem Tbl.sorted_drop (t : Tbl α) (p : Nat → Bool) (ht : Tbl.sortedFrom none t = true) :
    Tbl.sortedFrom none (Tbl.drop t p) = true := by
  cases t with
  | nil => rfl
  | cons e r =>
    obtain ⟨k, v⟩ := e
    simp only [Tbl.sortedFrom] at ht
    have h := Tbl.sortedFrom_drop r p k ht
    simp only [Tbl.drop] at h ⊢
    by_cases hk : p k
    · simp only [List.filter_cons, hk, Bool.not_true, Bool.false_eq_true, if_false]
      exact Tbl.sortedFrom_none _ k h
    · simp only [Bool.not_eq_true] at hk
      simp only [List.filter_cons, hk, Bool.not_false, if_true, Tbl.sortedFrom]; exact h

theorem Tbl.mem_insert (t : Tbl α) (a : Nat) (x : α) (e : Nat × α) (h : e ∈ Tbl.insert t a x) : e = (a, x) ∨ e ∈ t := by
  induction t with
  | nil => simpa [Tbl.insert] using h
  | cons y r ih =>
    obtain ⟨k, v⟩ := y
    unfold Tbl.insert at h
    split at h
    · simpa using h
    · split at h
      · simp only [List.mem_cons] at h ⊢; rcases h with h | h <;> simp [h]
      · simp only [List.mem_cons] at h ⊢
        rcases h with h | h
        · exact .inr (.inl h)
        · rcases ih h with h | h <;> simp [h]

theorem Tbl.mem_erase (t : Tbl α) (a : Nat) (e : Nat × α) (h : e ∈ Tbl.erase t a) : e ∈ t := by
  induction t with
  | nil => exact h
  | cons y r ih =>
    obtain ⟨k, v⟩ := y
    unfold Tbl.erase at h
    split at h
    · exact List.mem_cons_of_mem _ (ih h)
    · simp only [List.mem_cons] at h ⊢; rcases h with h | h
      · exact .inl h
      · exact .inr (ih h)

theorem Tbl.wf_iff [DecidableEq α] (d : Nat → α) (t : Tbl α) :
    Tbl.wf d t = true ↔ Tbl.sortedFrom none t = true ∧ ∀ e ∈ t, e.2 ≠ d e.1 := by
  simp [Tbl.wf, Bool.and_eq_true, List.all_eq_true]

/-- A write keeps the canonical form, for a table whose unlisted key `a` reads as the write takes it to. -/
theorem Tbl.wf_set [DecidableEq α] (f : Nat → α) (d : α) (t : Tbl α) (a : Nat) (x : α) (hd : f a = d)
    (ht : Tbl.wf f t = true) : Tbl.wf f (Tbl.set d t a x) = true := by
  rw [Tbl.wf_iff] at ht ⊢
  unfold Tbl.set
  split
  · exact ⟨Tbl.sorted_erase t a ht.1, fun e he => ht.2 e (Tbl.mem_erase t a e he)⟩
  · refine ⟨Tbl.sorted_insert t a x ht.1, fun e he => ?_⟩
    rcases Tbl.mem_insert t a x e he with rfl | he
    · simpa [hd] using by assumption
    · exact ht.2 e he

/-- Unlisting keys keeps the canonical form. -/
theorem Tbl.wf_drop [DecidableEq α] (d : Nat → α) (t : Tbl α) (p : Nat → Bool) (ht : Tbl.wf d t = true) :
    Tbl.wf d (Tbl.drop t p) = true := by
  rw [Tbl.wf_iff] at ht ⊢
  exact ⟨Tbl.sorted_drop t p ht.1, fun e he => ht.2 e (List.mem_filter.1 he).1⟩

/-- An empty table is canonical. -/
@[simp] theorem Tbl.wf_nil [DecidableEq α] (d : Nat → α) : Tbl.wf d ([] : Tbl α) = true := rfl

/-- Storing bytes keeps a memory's canonical form. -/
theorem memWrite_wf (m : Tbl Byte) (a : Nat) (l : List Byte) (hm : Tbl.wf (fun _ => 0#8) m = true) :
    Tbl.wf (fun _ => 0#8) (memWrite m a l) = true := by
  induction l generalizing m a with
  | nil => exact hm
  | cons b r ih => exact ih _ _ (Tbl.wf_set _ _ m a b rfl hm)

/-- A byte of a memory after bytes were stored: the stored byte inside them, the old one outside. -/
theorem memWrite_get (m : Tbl Byte) (a : Nat) (l : List Byte) (b : Nat) :
    Tbl.get 0#8 (memWrite m a l) b = if a ≤ b ∧ b < a + l.length then l.getD (b - a) 0#8 else Tbl.get 0#8 m b := by
  induction l generalizing m a with
  | nil =>
    have : ¬ (a ≤ b ∧ b < a + ([] : List Byte).length) := by simp only [List.length_nil]; omega
    rw [if_neg this]; rfl
  | cons x r ih =>
    simp only [memWrite, ih, Tbl.get_set, List.length_cons]
    rcases Nat.lt_trichotomy b a with h | h | h
    · rw [if_neg (by omega), if_neg (by omega), if_neg (by omega)]
    · subst h; simp
    · obtain ⟨k, hk⟩ : ∃ k, b - a = k + 1 := ⟨b - a - 1, by omega⟩
      have hb : b - (a + 1) = k := by omega
      by_cases hin : b < a + (r.length + 1)
      · rw [if_pos (by omega), if_pos (by omega), hk, hb]; simp
      · rw [if_neg (by omega), if_neg (by omega), if_neg (by omega)]

/-- A change repeated zero times is none. -/
@[simp] theorem forUpTo_zero {σ : Type} (f : Nat → σ → σ) (s : σ) : forUpTo 0 f s = s := rfl

/-- What every round keeps, the whole repetition keeps. -/
theorem forUpTo_induct {σ : Type} (P : σ → Prop) (n : Nat) (f : Nat → σ → σ) (s : σ) (h0 : P s)
    (h : ∀ i t, i < n → P t → P (f i t)) : P (forUpTo n f s) := by
  induction n with
  | zero => exact h0
  | succ k ih => exact h k _ (Nat.lt_succ_self k) (ih (fun i t hi => h i t (by omega)))

/-- What every element's change keeps, the whole run over a list keeps. -/
theorem forEach_induct {α σ : Type} (P : σ → Prop) (l : List α) (f : α → σ → σ) (s : σ) (h0 : P s)
    (h : ∀ x t, x ∈ l → P t → P (f x t)) : P (forEach l f s) := by
  induction l generalizing s with
  | nil => exact h0
  | cons x r ih =>
    exact ih _ (h x s (by simp) h0) (fun y t hy => h y t (by simp [hy]))

end Sys2Proof.Machine
end

