-- ==== Sys2Proof/Laws/State.lean ====
section
/-! SUPPORT. Which fields of the state each named update leaves: one lemma for each field and update. -/

namespace Sys2Proof.Machine

@[simp] theorem State.setReg_pending (s : State) (a : Nat) (v : Word64) : (s.setReg a v).pending = s.pending := rfl
@[simp] theorem State.setReg_clk (s : State) (a : Nat) (v : Word64) : (s.setReg a v).clk = s.clk := rfl
@[simp] theorem State.setReg_readback (s : State) (a : Nat) (v : Word64) : (s.setReg a v).readback = s.readback := rfl
@[simp] theorem State.setReg_free (s : State) (a : Nat) (v : Word64) : (s.setReg a v).free = s.free := rfl
@[simp] theorem State.setReg_links (s : State) (a : Nat) (v : Word64) : (s.setReg a v).links = s.links := rfl
@[simp] theorem State.setReg_fault (s : State) (a : Nat) (v : Word64) : (s.setReg a v).fault = s.fault := rfl
@[simp] theorem State.setReg_power (s : State) (a : Nat) (v : Word64) : (s.setReg a v).power = s.power := rfl
@[simp] theorem State.setReg_jtag (s : State) (a : Nat) (v : Word64) : (s.setReg a v).jtag = s.jtag := rfl
@[simp] theorem State.setReg_ports (s : State) (a : Nat) (v : Word64) : (s.setReg a v).ports = s.ports := rfl
@[simp] theorem State.setReg_slice (s : State) (a : Nat) (v : Word64) : (s.setReg a v).slice = s.slice := rfl
@[simp] theorem State.setReg_buf (s : State) (a : Nat) (v : Word64) : (s.setReg a v).buf = s.buf := rfl
@[simp] theorem State.setReg_tm (s : State) (a : Nat) (v : Word64) : (s.setReg a v).tm = s.tm := rfl
@[simp] theorem State.setReg_tmb (s : State) (a : Nat) (v : Word64) : (s.setReg a v).tmb = s.tmb := rfl
@[simp] theorem State.setReg_shards (s : State) (a : Nat) (v : Word64) : (s.setReg a v).shards = s.shards := rfl
@[simp] theorem State.setReg_dram (s : State) (a : Nat) (v : Word64) : (s.setReg a v).dram = s.dram := rfl
@[simp] theorem State.setReg_pools (s : State) (a : Nat) (v : Word64) : (s.setReg a v).pools = s.pools := rfl
@[simp] theorem State.setReg_twin (s : State) (a : Nat) (v : Word64) : (s.setReg a v).twin = s.twin := rfl
@[simp] theorem State.setReg_cast (s : State) (a : Nat) (v : Word64) : (s.setReg a v).cast = s.cast := rfl
@[simp] theorem State.setReg_hif (s : State) (a : Nat) (v : Word64) : (s.setReg a v).hif = s.hif := rfl
@[simp] theorem State.setReg_lop (s : State) (a : Nat) (v : Word64) : (s.setReg a v).lop = s.lop := rfl
@[simp] theorem State.setReg_exporter (s : State) (a : Nat) (v : Word64) : (s.setReg a v).exporter = s.exporter := rfl
@[simp] theorem State.setReg_ccx (s : State) (a : Nat) (v : Word64) : (s.setReg a v).ccx = s.ccx := rfl

@[simp] theorem State.setFld_pending (s : State) (a : Nat) (f : Fld) (x : Nat) : (s.setFld a f x).pending = s.pending := rfl
@[simp] theorem State.setFld_clk (s : State) (a : Nat) (f : Fld) (x : Nat) : (s.setFld a f x).clk = s.clk := rfl
@[simp] theorem State.setFld_readback (s : State) (a : Nat) (f : Fld) (x : Nat) : (s.setFld a f x).readback = s.readback := rfl
@[simp] theorem State.setFld_free (s : State) (a : Nat) (f : Fld) (x : Nat) : (s.setFld a f x).free = s.free := rfl
@[simp] theorem State.setFld_links (s : State) (a : Nat) (f : Fld) (x : Nat) : (s.setFld a f x).links = s.links := rfl
@[simp] theorem State.setFld_fault (s : State) (a : Nat) (f : Fld) (x : Nat) : (s.setFld a f x).fault = s.fault := rfl
@[simp] theorem State.setFld_power (s : State) (a : Nat) (f : Fld) (x : Nat) : (s.setFld a f x).power = s.power := rfl
@[simp] theorem State.setFld_jtag (s : State) (a : Nat) (f : Fld) (x : Nat) : (s.setFld a f x).jtag = s.jtag := rfl
@[simp] theorem State.setFld_ports (s : State) (a : Nat) (f : Fld) (x : Nat) : (s.setFld a f x).ports = s.ports := rfl
@[simp] theorem State.setFld_slice (s : State) (a : Nat) (f : Fld) (x : Nat) : (s.setFld a f x).slice = s.slice := rfl
@[simp] theorem State.setFld_buf (s : State) (a : Nat) (f : Fld) (x : Nat) : (s.setFld a f x).buf = s.buf := rfl
@[simp] theorem State.setFld_tm (s : State) (a : Nat) (f : Fld) (x : Nat) : (s.setFld a f x).tm = s.tm := rfl
@[simp] theorem State.setFld_tmb (s : State) (a : Nat) (f : Fld) (x : Nat) : (s.setFld a f x).tmb = s.tmb := rfl
@[simp] theorem State.setFld_shards (s : State) (a : Nat) (f : Fld) (x : Nat) : (s.setFld a f x).shards = s.shards := rfl
@[simp] theorem State.setFld_dram (s : State) (a : Nat) (f : Fld) (x : Nat) : (s.setFld a f x).dram = s.dram := rfl
@[simp] theorem State.setFld_pools (s : State) (a : Nat) (f : Fld) (x : Nat) : (s.setFld a f x).pools = s.pools := rfl
@[simp] theorem State.setFld_twin (s : State) (a : Nat) (f : Fld) (x : Nat) : (s.setFld a f x).twin = s.twin := rfl
@[simp] theorem State.setFld_cast (s : State) (a : Nat) (f : Fld) (x : Nat) : (s.setFld a f x).cast = s.cast := rfl
@[simp] theorem State.setFld_hif (s : State) (a : Nat) (f : Fld) (x : Nat) : (s.setFld a f x).hif = s.hif := rfl
@[simp] theorem State.setFld_lop (s : State) (a : Nat) (f : Fld) (x : Nat) : (s.setFld a f x).lop = s.lop := rfl
@[simp] theorem State.setFld_exporter (s : State) (a : Nat) (f : Fld) (x : Nat) : (s.setFld a f x).exporter = s.exporter := rfl
@[simp] theorem State.setFld_ccx (s : State) (a : Nat) (f : Fld) (x : Nat) : (s.setFld a f x).ccx = s.ccx := rfl

@[simp] theorem State.orFld_pending (s : State) (a : Nat) (f : Fld) (x : Nat) : (s.orFld a f x).pending = s.pending := rfl
@[simp] theorem State.orFld_clk (s : State) (a : Nat) (f : Fld) (x : Nat) : (s.orFld a f x).clk = s.clk := rfl
@[simp] theorem State.orFld_readback (s : State) (a : Nat) (f : Fld) (x : Nat) : (s.orFld a f x).readback = s.readback := rfl
@[simp] theorem State.orFld_free (s : State) (a : Nat) (f : Fld) (x : Nat) : (s.orFld a f x).free = s.free := rfl
@[simp] theorem State.orFld_links (s : State) (a : Nat) (f : Fld) (x : Nat) : (s.orFld a f x).links = s.links := rfl
@[simp] theorem State.orFld_fault (s : State) (a : Nat) (f : Fld) (x : Nat) : (s.orFld a f x).fault = s.fault := rfl
@[simp] theorem State.orFld_power (s : State) (a : Nat) (f : Fld) (x : Nat) : (s.orFld a f x).power = s.power := rfl
@[simp] theorem State.orFld_jtag (s : State) (a : Nat) (f : Fld) (x : Nat) : (s.orFld a f x).jtag = s.jtag := rfl
@[simp] theorem State.orFld_ports (s : State) (a : Nat) (f : Fld) (x : Nat) : (s.orFld a f x).ports = s.ports := rfl
@[simp] theorem State.orFld_slice (s : State) (a : Nat) (f : Fld) (x : Nat) : (s.orFld a f x).slice = s.slice := rfl
@[simp] theorem State.orFld_buf (s : State) (a : Nat) (f : Fld) (x : Nat) : (s.orFld a f x).buf = s.buf := rfl
@[simp] theorem State.orFld_tm (s : State) (a : Nat) (f : Fld) (x : Nat) : (s.orFld a f x).tm = s.tm := rfl
@[simp] theorem State.orFld_tmb (s : State) (a : Nat) (f : Fld) (x : Nat) : (s.orFld a f x).tmb = s.tmb := rfl
@[simp] theorem State.orFld_shards (s : State) (a : Nat) (f : Fld) (x : Nat) : (s.orFld a f x).shards = s.shards := rfl
@[simp] theorem State.orFld_dram (s : State) (a : Nat) (f : Fld) (x : Nat) : (s.orFld a f x).dram = s.dram := rfl
@[simp] theorem State.orFld_pools (s : State) (a : Nat) (f : Fld) (x : Nat) : (s.orFld a f x).pools = s.pools := rfl
@[simp] theorem State.orFld_twin (s : State) (a : Nat) (f : Fld) (x : Nat) : (s.orFld a f x).twin = s.twin := rfl
@[simp] theorem State.orFld_cast (s : State) (a : Nat) (f : Fld) (x : Nat) : (s.orFld a f x).cast = s.cast := rfl
@[simp] theorem State.orFld_hif (s : State) (a : Nat) (f : Fld) (x : Nat) : (s.orFld a f x).hif = s.hif := rfl
@[simp] theorem State.orFld_lop (s : State) (a : Nat) (f : Fld) (x : Nat) : (s.orFld a f x).lop = s.lop := rfl
@[simp] theorem State.orFld_exporter (s : State) (a : Nat) (f : Fld) (x : Nat) : (s.orFld a f x).exporter = s.exporter := rfl
@[simp] theorem State.orFld_ccx (s : State) (a : Nat) (f : Fld) (x : Nat) : (s.orFld a f x).ccx = s.ccx := rfl

@[simp] theorem State.bumpBy_pending (s : State) (a n : Nat) : (s.bumpBy a n).pending = s.pending := rfl
@[simp] theorem State.bumpBy_clk (s : State) (a n : Nat) : (s.bumpBy a n).clk = s.clk := rfl
@[simp] theorem State.bumpBy_readback (s : State) (a n : Nat) : (s.bumpBy a n).readback = s.readback := rfl
@[simp] theorem State.bumpBy_free (s : State) (a n : Nat) : (s.bumpBy a n).free = s.free := rfl
@[simp] theorem State.bumpBy_links (s : State) (a n : Nat) : (s.bumpBy a n).links = s.links := rfl
@[simp] theorem State.bumpBy_fault (s : State) (a n : Nat) : (s.bumpBy a n).fault = s.fault := rfl
@[simp] theorem State.bumpBy_power (s : State) (a n : Nat) : (s.bumpBy a n).power = s.power := rfl
@[simp] theorem State.bumpBy_jtag (s : State) (a n : Nat) : (s.bumpBy a n).jtag = s.jtag := rfl
@[simp] theorem State.bumpBy_ports (s : State) (a n : Nat) : (s.bumpBy a n).ports = s.ports := rfl
@[simp] theorem State.bumpBy_slice (s : State) (a n : Nat) : (s.bumpBy a n).slice = s.slice := rfl
@[simp] theorem State.bumpBy_buf (s : State) (a n : Nat) : (s.bumpBy a n).buf = s.buf := rfl
@[simp] theorem State.bumpBy_tm (s : State) (a n : Nat) : (s.bumpBy a n).tm = s.tm := rfl
@[simp] theorem State.bumpBy_tmb (s : State) (a n : Nat) : (s.bumpBy a n).tmb = s.tmb := rfl
@[simp] theorem State.bumpBy_shards (s : State) (a n : Nat) : (s.bumpBy a n).shards = s.shards := rfl
@[simp] theorem State.bumpBy_dram (s : State) (a n : Nat) : (s.bumpBy a n).dram = s.dram := rfl
@[simp] theorem State.bumpBy_pools (s : State) (a n : Nat) : (s.bumpBy a n).pools = s.pools := rfl
@[simp] theorem State.bumpBy_twin (s : State) (a n : Nat) : (s.bumpBy a n).twin = s.twin := rfl
@[simp] theorem State.bumpBy_cast (s : State) (a n : Nat) : (s.bumpBy a n).cast = s.cast := rfl
@[simp] theorem State.bumpBy_hif (s : State) (a n : Nat) : (s.bumpBy a n).hif = s.hif := rfl
@[simp] theorem State.bumpBy_lop (s : State) (a n : Nat) : (s.bumpBy a n).lop = s.lop := rfl
@[simp] theorem State.bumpBy_exporter (s : State) (a n : Nat) : (s.bumpBy a n).exporter = s.exporter := rfl
@[simp] theorem State.bumpBy_ccx (s : State) (a n : Nat) : (s.bumpBy a n).ccx = s.ccx := rfl

@[simp] theorem State.bump_pending (s : State) (a : Nat) : (s.bump a).pending = s.pending := rfl
@[simp] theorem State.bump_clk (s : State) (a : Nat) : (s.bump a).clk = s.clk := rfl
@[simp] theorem State.bump_readback (s : State) (a : Nat) : (s.bump a).readback = s.readback := rfl
@[simp] theorem State.bump_free (s : State) (a : Nat) : (s.bump a).free = s.free := rfl
@[simp] theorem State.bump_links (s : State) (a : Nat) : (s.bump a).links = s.links := rfl
@[simp] theorem State.bump_fault (s : State) (a : Nat) : (s.bump a).fault = s.fault := rfl
@[simp] theorem State.bump_power (s : State) (a : Nat) : (s.bump a).power = s.power := rfl
@[simp] theorem State.bump_jtag (s : State) (a : Nat) : (s.bump a).jtag = s.jtag := rfl
@[simp] theorem State.bump_ports (s : State) (a : Nat) : (s.bump a).ports = s.ports := rfl
@[simp] theorem State.bump_slice (s : State) (a : Nat) : (s.bump a).slice = s.slice := rfl
@[simp] theorem State.bump_buf (s : State) (a : Nat) : (s.bump a).buf = s.buf := rfl
@[simp] theorem State.bump_tm (s : State) (a : Nat) : (s.bump a).tm = s.tm := rfl
@[simp] theorem State.bump_tmb (s : State) (a : Nat) : (s.bump a).tmb = s.tmb := rfl
@[simp] theorem State.bump_shards (s : State) (a : Nat) : (s.bump a).shards = s.shards := rfl
@[simp] theorem State.bump_dram (s : State) (a : Nat) : (s.bump a).dram = s.dram := rfl
@[simp] theorem State.bump_pools (s : State) (a : Nat) : (s.bump a).pools = s.pools := rfl
@[simp] theorem State.bump_twin (s : State) (a : Nat) : (s.bump a).twin = s.twin := rfl
@[simp] theorem State.bump_cast (s : State) (a : Nat) : (s.bump a).cast = s.cast := rfl
@[simp] theorem State.bump_hif (s : State) (a : Nat) : (s.bump a).hif = s.hif := rfl
@[simp] theorem State.bump_lop (s : State) (a : Nat) : (s.bump a).lop = s.lop := rfl
@[simp] theorem State.bump_exporter (s : State) (a : Nat) : (s.bump a).exporter = s.exporter := rfl
@[simp] theorem State.bump_ccx (s : State) (a : Nat) : (s.bump a).ccx = s.ccx := rfl

@[simp] theorem State.bumpSat_pending (s : State) (a : Nat) (f : Fld) : (s.bumpSat a f).pending = s.pending := rfl
@[simp] theorem State.bumpSat_clk (s : State) (a : Nat) (f : Fld) : (s.bumpSat a f).clk = s.clk := rfl
@[simp] theorem State.bumpSat_readback (s : State) (a : Nat) (f : Fld) : (s.bumpSat a f).readback = s.readback := rfl
@[simp] theorem State.bumpSat_free (s : State) (a : Nat) (f : Fld) : (s.bumpSat a f).free = s.free := rfl
@[simp] theorem State.bumpSat_links (s : State) (a : Nat) (f : Fld) : (s.bumpSat a f).links = s.links := rfl
@[simp] theorem State.bumpSat_fault (s : State) (a : Nat) (f : Fld) : (s.bumpSat a f).fault = s.fault := rfl
@[simp] theorem State.bumpSat_power (s : State) (a : Nat) (f : Fld) : (s.bumpSat a f).power = s.power := rfl
@[simp] theorem State.bumpSat_jtag (s : State) (a : Nat) (f : Fld) : (s.bumpSat a f).jtag = s.jtag := rfl
@[simp] theorem State.bumpSat_ports (s : State) (a : Nat) (f : Fld) : (s.bumpSat a f).ports = s.ports := rfl
@[simp] theorem State.bumpSat_slice (s : State) (a : Nat) (f : Fld) : (s.bumpSat a f).slice = s.slice := rfl
@[simp] theorem State.bumpSat_buf (s : State) (a : Nat) (f : Fld) : (s.bumpSat a f).buf = s.buf := rfl
@[simp] theorem State.bumpSat_tm (s : State) (a : Nat) (f : Fld) : (s.bumpSat a f).tm = s.tm := rfl
@[simp] theorem State.bumpSat_tmb (s : State) (a : Nat) (f : Fld) : (s.bumpSat a f).tmb = s.tmb := rfl
@[simp] theorem State.bumpSat_shards (s : State) (a : Nat) (f : Fld) : (s.bumpSat a f).shards = s.shards := rfl
@[simp] theorem State.bumpSat_dram (s : State) (a : Nat) (f : Fld) : (s.bumpSat a f).dram = s.dram := rfl
@[simp] theorem State.bumpSat_pools (s : State) (a : Nat) (f : Fld) : (s.bumpSat a f).pools = s.pools := rfl
@[simp] theorem State.bumpSat_twin (s : State) (a : Nat) (f : Fld) : (s.bumpSat a f).twin = s.twin := rfl
@[simp] theorem State.bumpSat_cast (s : State) (a : Nat) (f : Fld) : (s.bumpSat a f).cast = s.cast := rfl
@[simp] theorem State.bumpSat_hif (s : State) (a : Nat) (f : Fld) : (s.bumpSat a f).hif = s.hif := rfl
@[simp] theorem State.bumpSat_lop (s : State) (a : Nat) (f : Fld) : (s.bumpSat a f).lop = s.lop := rfl
@[simp] theorem State.bumpSat_exporter (s : State) (a : Nat) (f : Fld) : (s.bumpSat a f).exporter = s.exporter := rfl
@[simp] theorem State.bumpSat_ccx (s : State) (a : Nat) (f : Fld) : (s.bumpSat a f).ccx = s.ccx := rfl

@[simp] theorem State.resetRange_pending (s : State) (lo hi : Nat) : (s.resetRange lo hi).pending = s.pending := rfl
@[simp] theorem State.resetRange_clk (s : State) (lo hi : Nat) : (s.resetRange lo hi).clk = s.clk := rfl
@[simp] theorem State.resetRange_readback (s : State) (lo hi : Nat) : (s.resetRange lo hi).readback = s.readback := rfl
@[simp] theorem State.resetRange_free (s : State) (lo hi : Nat) : (s.resetRange lo hi).free = s.free := rfl
@[simp] theorem State.resetRange_links (s : State) (lo hi : Nat) : (s.resetRange lo hi).links = s.links := rfl
@[simp] theorem State.resetRange_fault (s : State) (lo hi : Nat) : (s.resetRange lo hi).fault = s.fault := rfl
@[simp] theorem State.resetRange_power (s : State) (lo hi : Nat) : (s.resetRange lo hi).power = s.power := rfl
@[simp] theorem State.resetRange_jtag (s : State) (lo hi : Nat) : (s.resetRange lo hi).jtag = s.jtag := rfl
@[simp] theorem State.resetRange_ports (s : State) (lo hi : Nat) : (s.resetRange lo hi).ports = s.ports := rfl
@[simp] theorem State.resetRange_slice (s : State) (lo hi : Nat) : (s.resetRange lo hi).slice = s.slice := rfl
@[simp] theorem State.resetRange_buf (s : State) (lo hi : Nat) : (s.resetRange lo hi).buf = s.buf := rfl
@[simp] theorem State.resetRange_tm (s : State) (lo hi : Nat) : (s.resetRange lo hi).tm = s.tm := rfl
@[simp] theorem State.resetRange_tmb (s : State) (lo hi : Nat) : (s.resetRange lo hi).tmb = s.tmb := rfl
@[simp] theorem State.resetRange_shards (s : State) (lo hi : Nat) : (s.resetRange lo hi).shards = s.shards := rfl
@[simp] theorem State.resetRange_dram (s : State) (lo hi : Nat) : (s.resetRange lo hi).dram = s.dram := rfl
@[simp] theorem State.resetRange_pools (s : State) (lo hi : Nat) : (s.resetRange lo hi).pools = s.pools := rfl
@[simp] theorem State.resetRange_twin (s : State) (lo hi : Nat) : (s.resetRange lo hi).twin = s.twin := rfl
@[simp] theorem State.resetRange_cast (s : State) (lo hi : Nat) : (s.resetRange lo hi).cast = s.cast := rfl
@[simp] theorem State.resetRange_hif (s : State) (lo hi : Nat) : (s.resetRange lo hi).hif = s.hif := rfl
@[simp] theorem State.resetRange_lop (s : State) (lo hi : Nat) : (s.resetRange lo hi).lop = s.lop := rfl
@[simp] theorem State.resetRange_exporter (s : State) (lo hi : Nat) : (s.resetRange lo hi).exporter = s.exporter := rfl
@[simp] theorem State.resetRange_ccx (s : State) (lo hi : Nat) : (s.resetRange lo hi).ccx = s.ccx := rfl

@[simp] theorem State.setDom_pending (s : State) (d x : Nat) : (s.setDom d x).pending = s.pending := rfl
@[simp] theorem State.setDom_clk (s : State) (d x : Nat) : (s.setDom d x).clk = s.clk := rfl
@[simp] theorem State.setDom_readback (s : State) (d x : Nat) : (s.setDom d x).readback = s.readback := rfl
@[simp] theorem State.setDom_free (s : State) (d x : Nat) : (s.setDom d x).free = s.free := rfl
@[simp] theorem State.setDom_links (s : State) (d x : Nat) : (s.setDom d x).links = s.links := rfl
@[simp] theorem State.setDom_fault (s : State) (d x : Nat) : (s.setDom d x).fault = s.fault := rfl
@[simp] theorem State.setDom_power (s : State) (d x : Nat) : (s.setDom d x).power = s.power := rfl
@[simp] theorem State.setDom_jtag (s : State) (d x : Nat) : (s.setDom d x).jtag = s.jtag := rfl
@[simp] theorem State.setDom_ports (s : State) (d x : Nat) : (s.setDom d x).ports = s.ports := rfl
@[simp] theorem State.setDom_slice (s : State) (d x : Nat) : (s.setDom d x).slice = s.slice := rfl
@[simp] theorem State.setDom_buf (s : State) (d x : Nat) : (s.setDom d x).buf = s.buf := rfl
@[simp] theorem State.setDom_tm (s : State) (d x : Nat) : (s.setDom d x).tm = s.tm := rfl
@[simp] theorem State.setDom_tmb (s : State) (d x : Nat) : (s.setDom d x).tmb = s.tmb := rfl
@[simp] theorem State.setDom_shards (s : State) (d x : Nat) : (s.setDom d x).shards = s.shards := rfl
@[simp] theorem State.setDom_dram (s : State) (d x : Nat) : (s.setDom d x).dram = s.dram := rfl
@[simp] theorem State.setDom_pools (s : State) (d x : Nat) : (s.setDom d x).pools = s.pools := rfl
@[simp] theorem State.setDom_twin (s : State) (d x : Nat) : (s.setDom d x).twin = s.twin := rfl
@[simp] theorem State.setDom_cast (s : State) (d x : Nat) : (s.setDom d x).cast = s.cast := rfl
@[simp] theorem State.setDom_hif (s : State) (d x : Nat) : (s.setDom d x).hif = s.hif := rfl
@[simp] theorem State.setDom_lop (s : State) (d x : Nat) : (s.setDom d x).lop = s.lop := rfl
@[simp] theorem State.setDom_exporter (s : State) (d x : Nat) : (s.setDom d x).exporter = s.exporter := rfl
@[simp] theorem State.setDom_ccx (s : State) (d x : Nat) : (s.setDom d x).ccx = s.ccx := rfl

@[simp] theorem State.todFlag_pending (s : State) (f : Fld) : (s.todFlag f).pending = s.pending := rfl
@[simp] theorem State.todFlag_clk (s : State) (f : Fld) : (s.todFlag f).clk = s.clk := rfl
@[simp] theorem State.todFlag_readback (s : State) (f : Fld) : (s.todFlag f).readback = s.readback := rfl
@[simp] theorem State.todFlag_free (s : State) (f : Fld) : (s.todFlag f).free = s.free := rfl
@[simp] theorem State.todFlag_links (s : State) (f : Fld) : (s.todFlag f).links = s.links := rfl
@[simp] theorem State.todFlag_fault (s : State) (f : Fld) : (s.todFlag f).fault = s.fault := rfl
@[simp] theorem State.todFlag_power (s : State) (f : Fld) : (s.todFlag f).power = s.power := rfl
@[simp] theorem State.todFlag_jtag (s : State) (f : Fld) : (s.todFlag f).jtag = s.jtag := rfl
@[simp] theorem State.todFlag_ports (s : State) (f : Fld) : (s.todFlag f).ports = s.ports := rfl
@[simp] theorem State.todFlag_slice (s : State) (f : Fld) : (s.todFlag f).slice = s.slice := rfl
@[simp] theorem State.todFlag_buf (s : State) (f : Fld) : (s.todFlag f).buf = s.buf := rfl
@[simp] theorem State.todFlag_tm (s : State) (f : Fld) : (s.todFlag f).tm = s.tm := rfl
@[simp] theorem State.todFlag_tmb (s : State) (f : Fld) : (s.todFlag f).tmb = s.tmb := rfl
@[simp] theorem State.todFlag_shards (s : State) (f : Fld) : (s.todFlag f).shards = s.shards := rfl
@[simp] theorem State.todFlag_dram (s : State) (f : Fld) : (s.todFlag f).dram = s.dram := rfl
@[simp] theorem State.todFlag_pools (s : State) (f : Fld) : (s.todFlag f).pools = s.pools := rfl
@[simp] theorem State.todFlag_twin (s : State) (f : Fld) : (s.todFlag f).twin = s.twin := rfl
@[simp] theorem State.todFlag_cast (s : State) (f : Fld) : (s.todFlag f).cast = s.cast := rfl
@[simp] theorem State.todFlag_hif (s : State) (f : Fld) : (s.todFlag f).hif = s.hif := rfl
@[simp] theorem State.todFlag_lop (s : State) (f : Fld) : (s.todFlag f).lop = s.lop := rfl
@[simp] theorem State.todFlag_exporter (s : State) (f : Fld) : (s.todFlag f).exporter = s.exporter := rfl
@[simp] theorem State.todFlag_ccx (s : State) (f : Fld) : (s.todFlag f).ccx = s.ccx := rfl

@[simp] theorem State.todReject_pending (s : State) : (s.todReject).pending = s.pending := rfl
@[simp] theorem State.todReject_clk (s : State) : (s.todReject).clk = s.clk := rfl
@[simp] theorem State.todReject_readback (s : State) : (s.todReject).readback = s.readback := rfl
@[simp] theorem State.todReject_free (s : State) : (s.todReject).free = s.free := rfl
@[simp] theorem State.todReject_links (s : State) : (s.todReject).links = s.links := rfl
@[simp] theorem State.todReject_fault (s : State) : (s.todReject).fault = s.fault := rfl
@[simp] theorem State.todReject_power (s : State) : (s.todReject).power = s.power := rfl
@[simp] theorem State.todReject_jtag (s : State) : (s.todReject).jtag = s.jtag := rfl
@[simp] theorem State.todReject_ports (s : State) : (s.todReject).ports = s.ports := rfl
@[simp] theorem State.todReject_slice (s : State) : (s.todReject).slice = s.slice := rfl
@[simp] theorem State.todReject_buf (s : State) : (s.todReject).buf = s.buf := rfl
@[simp] theorem State.todReject_tm (s : State) : (s.todReject).tm = s.tm := rfl
@[simp] theorem State.todReject_tmb (s : State) : (s.todReject).tmb = s.tmb := rfl
@[simp] theorem State.todReject_shards (s : State) : (s.todReject).shards = s.shards := rfl
@[simp] theorem State.todReject_dram (s : State) : (s.todReject).dram = s.dram := rfl
@[simp] theorem State.todReject_pools (s : State) : (s.todReject).pools = s.pools := rfl
@[simp] theorem State.todReject_twin (s : State) : (s.todReject).twin = s.twin := rfl
@[simp] theorem State.todReject_cast (s : State) : (s.todReject).cast = s.cast := rfl
@[simp] theorem State.todReject_hif (s : State) : (s.todReject).hif = s.hif := rfl
@[simp] theorem State.todReject_lop (s : State) : (s.todReject).lop = s.lop := rfl
@[simp] theorem State.todReject_exporter (s : State) : (s.todReject).exporter = s.exporter := rfl
@[simp] theorem State.todReject_ccx (s : State) : (s.todReject).ccx = s.ccx := rfl

@[simp] theorem State.setLink_pending (s : State) (k : Nat) (l : Link) : (s.setLink k l).pending = s.pending := rfl
@[simp] theorem State.setLink_clk (s : State) (k : Nat) (l : Link) : (s.setLink k l).clk = s.clk := rfl
@[simp] theorem State.setLink_regs (s : State) (k : Nat) (l : Link) : (s.setLink k l).regs = s.regs := rfl
@[simp] theorem State.setLink_readback (s : State) (k : Nat) (l : Link) : (s.setLink k l).readback = s.readback := rfl
@[simp] theorem State.setLink_free (s : State) (k : Nat) (l : Link) : (s.setLink k l).free = s.free := rfl
@[simp] theorem State.setLink_fault (s : State) (k : Nat) (l : Link) : (s.setLink k l).fault = s.fault := rfl
@[simp] theorem State.setLink_power (s : State) (k : Nat) (l : Link) : (s.setLink k l).power = s.power := rfl
@[simp] theorem State.setLink_jtag (s : State) (k : Nat) (l : Link) : (s.setLink k l).jtag = s.jtag := rfl
@[simp] theorem State.setLink_ports (s : State) (k : Nat) (l : Link) : (s.setLink k l).ports = s.ports := rfl
@[simp] theorem State.setLink_slice (s : State) (k : Nat) (l : Link) : (s.setLink k l).slice = s.slice := rfl
@[simp] theorem State.setLink_buf (s : State) (k : Nat) (l : Link) : (s.setLink k l).buf = s.buf := rfl
@[simp] theorem State.setLink_tm (s : State) (k : Nat) (l : Link) : (s.setLink k l).tm = s.tm := rfl
@[simp] theorem State.setLink_tmb (s : State) (k : Nat) (l : Link) : (s.setLink k l).tmb = s.tmb := rfl
@[simp] theorem State.setLink_shards (s : State) (k : Nat) (l : Link) : (s.setLink k l).shards = s.shards := rfl
@[simp] theorem State.setLink_dram (s : State) (k : Nat) (l : Link) : (s.setLink k l).dram = s.dram := rfl
@[simp] theorem State.setLink_pools (s : State) (k : Nat) (l : Link) : (s.setLink k l).pools = s.pools := rfl
@[simp] theorem State.setLink_twin (s : State) (k : Nat) (l : Link) : (s.setLink k l).twin = s.twin := rfl
@[simp] theorem State.setLink_cast (s : State) (k : Nat) (l : Link) : (s.setLink k l).cast = s.cast := rfl
@[simp] theorem State.setLink_hif (s : State) (k : Nat) (l : Link) : (s.setLink k l).hif = s.hif := rfl
@[simp] theorem State.setLink_lop (s : State) (k : Nat) (l : Link) : (s.setLink k l).lop = s.lop := rfl
@[simp] theorem State.setLink_exporter (s : State) (k : Nat) (l : Link) : (s.setLink k l).exporter = s.exporter := rfl
@[simp] theorem State.setLink_ccx (s : State) (k : Nat) (l : Link) : (s.setLink k l).ccx = s.ccx := rfl

@[simp] theorem State.useCredit_pending (s : State) (k n : Nat) : (s.useCredit k n).pending = s.pending := rfl
@[simp] theorem State.useCredit_clk (s : State) (k n : Nat) : (s.useCredit k n).clk = s.clk := rfl
@[simp] theorem State.useCredit_regs (s : State) (k n : Nat) : (s.useCredit k n).regs = s.regs := rfl
@[simp] theorem State.useCredit_readback (s : State) (k n : Nat) : (s.useCredit k n).readback = s.readback := rfl
@[simp] theorem State.useCredit_free (s : State) (k n : Nat) : (s.useCredit k n).free = s.free := rfl
@[simp] theorem State.useCredit_fault (s : State) (k n : Nat) : (s.useCredit k n).fault = s.fault := rfl
@[simp] theorem State.useCredit_power (s : State) (k n : Nat) : (s.useCredit k n).power = s.power := rfl
@[simp] theorem State.useCredit_jtag (s : State) (k n : Nat) : (s.useCredit k n).jtag = s.jtag := rfl
@[simp] theorem State.useCredit_ports (s : State) (k n : Nat) : (s.useCredit k n).ports = s.ports := rfl
@[simp] theorem State.useCredit_slice (s : State) (k n : Nat) : (s.useCredit k n).slice = s.slice := rfl
@[simp] theorem State.useCredit_buf (s : State) (k n : Nat) : (s.useCredit k n).buf = s.buf := rfl
@[simp] theorem State.useCredit_tm (s : State) (k n : Nat) : (s.useCredit k n).tm = s.tm := rfl
@[simp] theorem State.useCredit_tmb (s : State) (k n : Nat) : (s.useCredit k n).tmb = s.tmb := rfl
@[simp] theorem State.useCredit_shards (s : State) (k n : Nat) : (s.useCredit k n).shards = s.shards := rfl
@[simp] theorem State.useCredit_dram (s : State) (k n : Nat) : (s.useCredit k n).dram = s.dram := rfl
@[simp] theorem State.useCredit_pools (s : State) (k n : Nat) : (s.useCredit k n).pools = s.pools := rfl
@[simp] theorem State.useCredit_twin (s : State) (k n : Nat) : (s.useCredit k n).twin = s.twin := rfl
@[simp] theorem State.useCredit_cast (s : State) (k n : Nat) : (s.useCredit k n).cast = s.cast := rfl
@[simp] theorem State.useCredit_hif (s : State) (k n : Nat) : (s.useCredit k n).hif = s.hif := rfl
@[simp] theorem State.useCredit_lop (s : State) (k n : Nat) : (s.useCredit k n).lop = s.lop := rfl
@[simp] theorem State.useCredit_exporter (s : State) (k n : Nat) : (s.useCredit k n).exporter = s.exporter := rfl
@[simp] theorem State.useCredit_ccx (s : State) (k n : Nat) : (s.useCredit k n).ccx = s.ccx := rfl

@[simp] theorem State.freeEntry_pending (s : State) (k n : Nat) : (s.freeEntry k n).pending = s.pending := rfl
@[simp] theorem State.freeEntry_clk (s : State) (k n : Nat) : (s.freeEntry k n).clk = s.clk := rfl
@[simp] theorem State.freeEntry_regs (s : State) (k n : Nat) : (s.freeEntry k n).regs = s.regs := rfl
@[simp] theorem State.freeEntry_readback (s : State) (k n : Nat) : (s.freeEntry k n).readback = s.readback := rfl
@[simp] theorem State.freeEntry_free (s : State) (k n : Nat) : (s.freeEntry k n).free = s.free := rfl
@[simp] theorem State.freeEntry_fault (s : State) (k n : Nat) : (s.freeEntry k n).fault = s.fault := rfl
@[simp] theorem State.freeEntry_power (s : State) (k n : Nat) : (s.freeEntry k n).power = s.power := rfl
@[simp] theorem State.freeEntry_jtag (s : State) (k n : Nat) : (s.freeEntry k n).jtag = s.jtag := rfl
@[simp] theorem State.freeEntry_ports (s : State) (k n : Nat) : (s.freeEntry k n).ports = s.ports := rfl
@[simp] theorem State.freeEntry_slice (s : State) (k n : Nat) : (s.freeEntry k n).slice = s.slice := rfl
@[simp] theorem State.freeEntry_buf (s : State) (k n : Nat) : (s.freeEntry k n).buf = s.buf := rfl
@[simp] theorem State.freeEntry_tm (s : State) (k n : Nat) : (s.freeEntry k n).tm = s.tm := rfl
@[simp] theorem State.freeEntry_tmb (s : State) (k n : Nat) : (s.freeEntry k n).tmb = s.tmb := rfl
@[simp] theorem State.freeEntry_shards (s : State) (k n : Nat) : (s.freeEntry k n).shards = s.shards := rfl
@[simp] theorem State.freeEntry_dram (s : State) (k n : Nat) : (s.freeEntry k n).dram = s.dram := rfl
@[simp] theorem State.freeEntry_pools (s : State) (k n : Nat) : (s.freeEntry k n).pools = s.pools := rfl
@[simp] theorem State.freeEntry_twin (s : State) (k n : Nat) : (s.freeEntry k n).twin = s.twin := rfl
@[simp] theorem State.freeEntry_cast (s : State) (k n : Nat) : (s.freeEntry k n).cast = s.cast := rfl
@[simp] theorem State.freeEntry_hif (s : State) (k n : Nat) : (s.freeEntry k n).hif = s.hif := rfl
@[simp] theorem State.freeEntry_lop (s : State) (k n : Nat) : (s.freeEntry k n).lop = s.lop := rfl
@[simp] theorem State.freeEntry_exporter (s : State) (k n : Nat) : (s.freeEntry k n).exporter = s.exporter := rfl
@[simp] theorem State.freeEntry_ccx (s : State) (k n : Nat) : (s.freeEntry k n).ccx = s.ccx := rfl

@[simp] theorem State.stopLink_pending (s : State) (k : Nat) : (s.stopLink k).pending = s.pending := rfl
@[simp] theorem State.stopLink_clk (s : State) (k : Nat) : (s.stopLink k).clk = s.clk := rfl
@[simp] theorem State.stopLink_regs (s : State) (k : Nat) : (s.stopLink k).regs = s.regs := rfl
@[simp] theorem State.stopLink_readback (s : State) (k : Nat) : (s.stopLink k).readback = s.readback := rfl
@[simp] theorem State.stopLink_free (s : State) (k : Nat) : (s.stopLink k).free = s.free := rfl
@[simp] theorem State.stopLink_fault (s : State) (k : Nat) : (s.stopLink k).fault = s.fault := rfl
@[simp] theorem State.stopLink_power (s : State) (k : Nat) : (s.stopLink k).power = s.power := rfl
@[simp] theorem State.stopLink_jtag (s : State) (k : Nat) : (s.stopLink k).jtag = s.jtag := rfl
@[simp] theorem State.stopLink_ports (s : State) (k : Nat) : (s.stopLink k).ports = s.ports := rfl
@[simp] theorem State.stopLink_slice (s : State) (k : Nat) : (s.stopLink k).slice = s.slice := rfl
@[simp] theorem State.stopLink_buf (s : State) (k : Nat) : (s.stopLink k).buf = s.buf := rfl
@[simp] theorem State.stopLink_tm (s : State) (k : Nat) : (s.stopLink k).tm = s.tm := rfl
@[simp] theorem State.stopLink_tmb (s : State) (k : Nat) : (s.stopLink k).tmb = s.tmb := rfl
@[simp] theorem State.stopLink_shards (s : State) (k : Nat) : (s.stopLink k).shards = s.shards := rfl
@[simp] theorem State.stopLink_dram (s : State) (k : Nat) : (s.stopLink k).dram = s.dram := rfl
@[simp] theorem State.stopLink_pools (s : State) (k : Nat) : (s.stopLink k).pools = s.pools := rfl
@[simp] theorem State.stopLink_twin (s : State) (k : Nat) : (s.stopLink k).twin = s.twin := rfl
@[simp] theorem State.stopLink_cast (s : State) (k : Nat) : (s.stopLink k).cast = s.cast := rfl
@[simp] theorem State.stopLink_hif (s : State) (k : Nat) : (s.stopLink k).hif = s.hif := rfl
@[simp] theorem State.stopLink_lop (s : State) (k : Nat) : (s.stopLink k).lop = s.lop := rfl
@[simp] theorem State.stopLink_exporter (s : State) (k : Nat) : (s.stopLink k).exporter = s.exporter := rfl
@[simp] theorem State.stopLink_ccx (s : State) (k : Nat) : (s.stopLink k).ccx = s.ccx := rfl

@[simp] theorem State.setPort_pending (s : State) (p : Nat) (x : PortSt) : (s.setPort p x).pending = s.pending := rfl
@[simp] theorem State.setPort_clk (s : State) (p : Nat) (x : PortSt) : (s.setPort p x).clk = s.clk := rfl
@[simp] theorem State.setPort_regs (s : State) (p : Nat) (x : PortSt) : (s.setPort p x).regs = s.regs := rfl
@[simp] theorem State.setPort_readback (s : State) (p : Nat) (x : PortSt) : (s.setPort p x).readback = s.readback := rfl
@[simp] theorem State.setPort_free (s : State) (p : Nat) (x : PortSt) : (s.setPort p x).free = s.free := rfl
@[simp] theorem State.setPort_links (s : State) (p : Nat) (x : PortSt) : (s.setPort p x).links = s.links := rfl
@[simp] theorem State.setPort_fault (s : State) (p : Nat) (x : PortSt) : (s.setPort p x).fault = s.fault := rfl
@[simp] theorem State.setPort_power (s : State) (p : Nat) (x : PortSt) : (s.setPort p x).power = s.power := rfl
@[simp] theorem State.setPort_jtag (s : State) (p : Nat) (x : PortSt) : (s.setPort p x).jtag = s.jtag := rfl
@[simp] theorem State.setPort_slice (s : State) (p : Nat) (x : PortSt) : (s.setPort p x).slice = s.slice := rfl
@[simp] theorem State.setPort_buf (s : State) (p : Nat) (x : PortSt) : (s.setPort p x).buf = s.buf := rfl
@[simp] theorem State.setPort_tm (s : State) (p : Nat) (x : PortSt) : (s.setPort p x).tm = s.tm := rfl
@[simp] theorem State.setPort_tmb (s : State) (p : Nat) (x : PortSt) : (s.setPort p x).tmb = s.tmb := rfl
@[simp] theorem State.setPort_shards (s : State) (p : Nat) (x : PortSt) : (s.setPort p x).shards = s.shards := rfl
@[simp] theorem State.setPort_dram (s : State) (p : Nat) (x : PortSt) : (s.setPort p x).dram = s.dram := rfl
@[simp] theorem State.setPort_pools (s : State) (p : Nat) (x : PortSt) : (s.setPort p x).pools = s.pools := rfl
@[simp] theorem State.setPort_twin (s : State) (p : Nat) (x : PortSt) : (s.setPort p x).twin = s.twin := rfl
@[simp] theorem State.setPort_cast (s : State) (p : Nat) (x : PortSt) : (s.setPort p x).cast = s.cast := rfl
@[simp] theorem State.setPort_hif (s : State) (p : Nat) (x : PortSt) : (s.setPort p x).hif = s.hif := rfl
@[simp] theorem State.setPort_lop (s : State) (p : Nat) (x : PortSt) : (s.setPort p x).lop = s.lop := rfl
@[simp] theorem State.setPort_exporter (s : State) (p : Nat) (x : PortSt) : (s.setPort p x).exporter = s.exporter := rfl
@[simp] theorem State.setPort_ccx (s : State) (p : Nat) (x : PortSt) : (s.setPort p x).ccx = s.ccx := rfl

@[simp] theorem State.setShard_pending (s : State) (h : Nat) (x : ShardSt) : (s.setShard h x).pending = s.pending := rfl
@[simp] theorem State.setShard_clk (s : State) (h : Nat) (x : ShardSt) : (s.setShard h x).clk = s.clk := rfl
@[simp] theorem State.setShard_regs (s : State) (h : Nat) (x : ShardSt) : (s.setShard h x).regs = s.regs := rfl
@[simp] theorem State.setShard_readback (s : State) (h : Nat) (x : ShardSt) : (s.setShard h x).readback = s.readback := rfl
@[simp] theorem State.setShard_free (s : State) (h : Nat) (x : ShardSt) : (s.setShard h x).free = s.free := rfl
@[simp] theorem State.setShard_links (s : State) (h : Nat) (x : ShardSt) : (s.setShard h x).links = s.links := rfl
@[simp] theorem State.setShard_fault (s : State) (h : Nat) (x : ShardSt) : (s.setShard h x).fault = s.fault := rfl
@[simp] theorem State.setShard_power (s : State) (h : Nat) (x : ShardSt) : (s.setShard h x).power = s.power := rfl
@[simp] theorem State.setShard_jtag (s : State) (h : Nat) (x : ShardSt) : (s.setShard h x).jtag = s.jtag := rfl
@[simp] theorem State.setShard_ports (s : State) (h : Nat) (x : ShardSt) : (s.setShard h x).ports = s.ports := rfl
@[simp] theorem State.setShard_slice (s : State) (h : Nat) (x : ShardSt) : (s.setShard h x).slice = s.slice := rfl
@[simp] theorem State.setShard_buf (s : State) (h : Nat) (x : ShardSt) : (s.setShard h x).buf = s.buf := rfl
@[simp] theorem State.setShard_tm (s : State) (h : Nat) (x : ShardSt) : (s.setShard h x).tm = s.tm := rfl
@[simp] theorem State.setShard_tmb (s : State) (h : Nat) (x : ShardSt) : (s.setShard h x).tmb = s.tmb := rfl
@[simp] theorem State.setShard_dram (s : State) (h : Nat) (x : ShardSt) : (s.setShard h x).dram = s.dram := rfl
@[simp] theorem State.setShard_pools (s : State) (h : Nat) (x : ShardSt) : (s.setShard h x).pools = s.pools := rfl
@[simp] theorem State.setShard_twin (s : State) (h : Nat) (x : ShardSt) : (s.setShard h x).twin = s.twin := rfl
@[simp] theorem State.setShard_cast (s : State) (h : Nat) (x : ShardSt) : (s.setShard h x).cast = s.cast := rfl
@[simp] theorem State.setShard_hif (s : State) (h : Nat) (x : ShardSt) : (s.setShard h x).hif = s.hif := rfl
@[simp] theorem State.setShard_lop (s : State) (h : Nat) (x : ShardSt) : (s.setShard h x).lop = s.lop := rfl
@[simp] theorem State.setShard_exporter (s : State) (h : Nat) (x : ShardSt) : (s.setShard h x).exporter = s.exporter := rfl
@[simp] theorem State.setShard_ccx (s : State) (h : Nat) (x : ShardSt) : (s.setShard h x).ccx = s.ccx := rfl

@[simp] theorem State.setThread_pending (s : State) (h t : Nat) (x : Thread) : (s.setThread h t x).pending = s.pending := rfl
@[simp] theorem State.setThread_clk (s : State) (h t : Nat) (x : Thread) : (s.setThread h t x).clk = s.clk := rfl
@[simp] theorem State.setThread_regs (s : State) (h t : Nat) (x : Thread) : (s.setThread h t x).regs = s.regs := rfl
@[simp] theorem State.setThread_readback (s : State) (h t : Nat) (x : Thread) : (s.setThread h t x).readback = s.readback := rfl
@[simp] theorem State.setThread_free (s : State) (h t : Nat) (x : Thread) : (s.setThread h t x).free = s.free := rfl
@[simp] theorem State.setThread_links (s : State) (h t : Nat) (x : Thread) : (s.setThread h t x).links = s.links := rfl
@[simp] theorem State.setThread_fault (s : State) (h t : Nat) (x : Thread) : (s.setThread h t x).fault = s.fault := rfl
@[simp] theorem State.setThread_power (s : State) (h t : Nat) (x : Thread) : (s.setThread h t x).power = s.power := rfl
@[simp] theorem State.setThread_jtag (s : State) (h t : Nat) (x : Thread) : (s.setThread h t x).jtag = s.jtag := rfl
@[simp] theorem State.setThread_ports (s : State) (h t : Nat) (x : Thread) : (s.setThread h t x).ports = s.ports := rfl
@[simp] theorem State.setThread_slice (s : State) (h t : Nat) (x : Thread) : (s.setThread h t x).slice = s.slice := rfl
@[simp] theorem State.setThread_buf (s : State) (h t : Nat) (x : Thread) : (s.setThread h t x).buf = s.buf := rfl
@[simp] theorem State.setThread_tm (s : State) (h t : Nat) (x : Thread) : (s.setThread h t x).tm = s.tm := rfl
@[simp] theorem State.setThread_tmb (s : State) (h t : Nat) (x : Thread) : (s.setThread h t x).tmb = s.tmb := rfl
@[simp] theorem State.setThread_dram (s : State) (h t : Nat) (x : Thread) : (s.setThread h t x).dram = s.dram := rfl
@[simp] theorem State.setThread_pools (s : State) (h t : Nat) (x : Thread) : (s.setThread h t x).pools = s.pools := rfl
@[simp] theorem State.setThread_twin (s : State) (h t : Nat) (x : Thread) : (s.setThread h t x).twin = s.twin := rfl
@[simp] theorem State.setThread_cast (s : State) (h t : Nat) (x : Thread) : (s.setThread h t x).cast = s.cast := rfl
@[simp] theorem State.setThread_hif (s : State) (h t : Nat) (x : Thread) : (s.setThread h t x).hif = s.hif := rfl
@[simp] theorem State.setThread_lop (s : State) (h t : Nat) (x : Thread) : (s.setThread h t x).lop = s.lop := rfl
@[simp] theorem State.setThread_exporter (s : State) (h t : Nat) (x : Thread) : (s.setThread h t x).exporter = s.exporter := rfl
@[simp] theorem State.setThread_ccx (s : State) (h t : Nat) (x : Thread) : (s.setThread h t x).ccx = s.ccx := rfl

@[simp] theorem State.steer_pending (s : State) : (s.steer).pending = s.pending := rfl
@[simp] theorem State.steer_regs (s : State) : (s.steer).regs = s.regs := rfl
@[simp] theorem State.steer_readback (s : State) : (s.steer).readback = s.readback := rfl
@[simp] theorem State.steer_free (s : State) : (s.steer).free = s.free := rfl
@[simp] theorem State.steer_links (s : State) : (s.steer).links = s.links := rfl
@[simp] theorem State.steer_fault (s : State) : (s.steer).fault = s.fault := rfl
@[simp] theorem State.steer_power (s : State) : (s.steer).power = s.power := rfl
@[simp] theorem State.steer_jtag (s : State) : (s.steer).jtag = s.jtag := rfl
@[simp] theorem State.steer_ports (s : State) : (s.steer).ports = s.ports := rfl
@[simp] theorem State.steer_slice (s : State) : (s.steer).slice = s.slice := rfl
@[simp] theorem State.steer_buf (s : State) : (s.steer).buf = s.buf := rfl
@[simp] theorem State.steer_tm (s : State) : (s.steer).tm = s.tm := rfl
@[simp] theorem State.steer_tmb (s : State) : (s.steer).tmb = s.tmb := rfl
@[simp] theorem State.steer_shards (s : State) : (s.steer).shards = s.shards := rfl
@[simp] theorem State.steer_dram (s : State) : (s.steer).dram = s.dram := rfl
@[simp] theorem State.steer_pools (s : State) : (s.steer).pools = s.pools := rfl
@[simp] theorem State.steer_twin (s : State) : (s.steer).twin = s.twin := rfl
@[simp] theorem State.steer_cast (s : State) : (s.steer).cast = s.cast := rfl
@[simp] theorem State.steer_hif (s : State) : (s.steer).hif = s.hif := rfl
@[simp] theorem State.steer_lop (s : State) : (s.steer).lop = s.lop := rfl
@[simp] theorem State.steer_exporter (s : State) : (s.steer).exporter = s.exporter := rfl
@[simp] theorem State.steer_ccx (s : State) : (s.steer).ccx = s.ccx := rfl

@[simp] theorem State.shadow_pending (s : State) (u : Nat) : (s.shadow u).pending = s.pending := rfl
@[simp] theorem State.shadow_clk (s : State) (u : Nat) : (s.shadow u).clk = s.clk := rfl
@[simp] theorem State.shadow_readback (s : State) (u : Nat) : (s.shadow u).readback = s.readback := rfl
@[simp] theorem State.shadow_free (s : State) (u : Nat) : (s.shadow u).free = s.free := rfl
@[simp] theorem State.shadow_links (s : State) (u : Nat) : (s.shadow u).links = s.links := rfl
@[simp] theorem State.shadow_fault (s : State) (u : Nat) : (s.shadow u).fault = s.fault := rfl
@[simp] theorem State.shadow_power (s : State) (u : Nat) : (s.shadow u).power = s.power := rfl
@[simp] theorem State.shadow_jtag (s : State) (u : Nat) : (s.shadow u).jtag = s.jtag := rfl
@[simp] theorem State.shadow_ports (s : State) (u : Nat) : (s.shadow u).ports = s.ports := rfl
@[simp] theorem State.shadow_slice (s : State) (u : Nat) : (s.shadow u).slice = s.slice := rfl
@[simp] theorem State.shadow_buf (s : State) (u : Nat) : (s.shadow u).buf = s.buf := rfl
@[simp] theorem State.shadow_tm (s : State) (u : Nat) : (s.shadow u).tm = s.tm := rfl
@[simp] theorem State.shadow_tmb (s : State) (u : Nat) : (s.shadow u).tmb = s.tmb := rfl
@[simp] theorem State.shadow_shards (s : State) (u : Nat) : (s.shadow u).shards = s.shards := rfl
@[simp] theorem State.shadow_dram (s : State) (u : Nat) : (s.shadow u).dram = s.dram := rfl
@[simp] theorem State.shadow_pools (s : State) (u : Nat) : (s.shadow u).pools = s.pools := rfl
@[simp] theorem State.shadow_twin (s : State) (u : Nat) : (s.shadow u).twin = s.twin := rfl
@[simp] theorem State.shadow_cast (s : State) (u : Nat) : (s.shadow u).cast = s.cast := rfl
@[simp] theorem State.shadow_hif (s : State) (u : Nat) : (s.shadow u).hif = s.hif := rfl
@[simp] theorem State.shadow_lop (s : State) (u : Nat) : (s.shadow u).lop = s.lop := rfl
@[simp] theorem State.shadow_exporter (s : State) (u : Nat) : (s.shadow u).exporter = s.exporter := rfl
@[simp] theorem State.shadow_ccx (s : State) (u : Nat) : (s.shadow u).ccx = s.ccx := rfl

@[simp] theorem State.draw_pending (s : State) : s.draw.2.pending = s.pending := rfl
@[simp] theorem State.draw_clk (s : State) : s.draw.2.clk = s.clk := rfl
@[simp] theorem State.draw_regs (s : State) : s.draw.2.regs = s.regs := rfl
@[simp] theorem State.draw_readback (s : State) : s.draw.2.readback = s.readback := rfl
@[simp] theorem State.draw_links (s : State) : s.draw.2.links = s.links := rfl
@[simp] theorem State.draw_fault (s : State) : s.draw.2.fault = s.fault := rfl
@[simp] theorem State.draw_power (s : State) : s.draw.2.power = s.power := rfl
@[simp] theorem State.draw_jtag (s : State) : s.draw.2.jtag = s.jtag := rfl
@[simp] theorem State.draw_ports (s : State) : s.draw.2.ports = s.ports := rfl
@[simp] theorem State.draw_slice (s : State) : s.draw.2.slice = s.slice := rfl
@[simp] theorem State.draw_buf (s : State) : s.draw.2.buf = s.buf := rfl
@[simp] theorem State.draw_tm (s : State) : s.draw.2.tm = s.tm := rfl
@[simp] theorem State.draw_tmb (s : State) : s.draw.2.tmb = s.tmb := rfl
@[simp] theorem State.draw_shards (s : State) : s.draw.2.shards = s.shards := rfl
@[simp] theorem State.draw_dram (s : State) : s.draw.2.dram = s.dram := rfl
@[simp] theorem State.draw_pools (s : State) : s.draw.2.pools = s.pools := rfl
@[simp] theorem State.draw_twin (s : State) : s.draw.2.twin = s.twin := rfl
@[simp] theorem State.draw_cast (s : State) : s.draw.2.cast = s.cast := rfl
@[simp] theorem State.draw_hif (s : State) : s.draw.2.hif = s.hif := rfl
@[simp] theorem State.draw_lop (s : State) : s.draw.2.lop = s.lop := rfl
@[simp] theorem State.draw_exporter (s : State) : s.draw.2.exporter = s.exporter := rfl
@[simp] theorem State.draw_ccx (s : State) : s.draw.2.ccx = s.ccx := rfl

/-! ### What an update leaves of the parts it does touch -/

@[simp] theorem State.port_setPort (s : State) (p q : Nat) (x : PortSt) :
    (s.setPort p x).port q = if q = p then x else s.port q := by
  simp only [State.port, State.setPort]; exact Tbl.get_set _ _ _ _ _

@[simp] theorem State.link_setLink (s : State) (k j : Nat) (l : Link) :
    (s.setLink k l).link j = if j = k then l else s.link j := by
  simp only [State.link, State.setLink]; exact Tbl.get_set _ _ _ _ _

@[simp] theorem State.shard_setShard (s : State) (h g : Nat) (x : ShardSt) :
    (s.setShard h x).shard g = if g = h then x else s.shard g := by
  simp only [State.shard, State.setShard]; exact Tbl.get_set _ _ _ _ _

@[simp] theorem State.port_setReg (s : State) (a : Nat) (v : Word64) (q : Nat) : (s.setReg a v).port q = s.port q := rfl
@[simp] theorem State.shard_setReg (s : State) (a : Nat) (v : Word64) (q : Nat) : (s.setReg a v).shard q = s.shard q := rfl
@[simp] theorem State.link_setReg (s : State) (a : Nat) (v : Word64) (q : Nat) : (s.setReg a v).link q = s.link q := rfl
@[simp] theorem State.port_setFld (s : State) (a : Nat) (f : Fld) (x : Nat) (q : Nat) : (s.setFld a f x).port q = s.port q := rfl
@[simp] theorem State.shard_setFld (s : State) (a : Nat) (f : Fld) (x : Nat) (q : Nat) : (s.setFld a f x).shard q = s.shard q := rfl
@[simp] theorem State.link_setFld (s : State) (a : Nat) (f : Fld) (x : Nat) (q : Nat) : (s.setFld a f x).link q = s.link q := rfl
@[simp] theorem State.port_orFld (s : State) (a : Nat) (f : Fld) (x : Nat) (q : Nat) : (s.orFld a f x).port q = s.port q := rfl
@[simp] theorem State.shard_orFld (s : State) (a : Nat) (f : Fld) (x : Nat) (q : Nat) : (s.orFld a f x).shard q = s.shard q := rfl
@[simp] theorem State.link_orFld (s : State) (a : Nat) (f : Fld) (x : Nat) (q : Nat) : (s.orFld a f x).link q = s.link q := rfl
@[simp] theorem State.port_bumpBy (s : State) (a n : Nat) (q : Nat) : (s.bumpBy a n).port q = s.port q := rfl
@[simp] theorem State.shard_bumpBy (s : State) (a n : Nat) (q : Nat) : (s.bumpBy a n).shard q = s.shard q := rfl
@[simp] theorem State.link_bumpBy (s : State) (a n : Nat) (q : Nat) : (s.bumpBy a n).link q = s.link q := rfl
@[simp] theorem State.port_bump (s : State) (a : Nat) (q : Nat) : (s.bump a).port q = s.port q := rfl
@[simp] theorem State.shard_bump (s : State) (a : Nat) (q : Nat) : (s.bump a).shard q = s.shard q := rfl
@[simp] theorem State.link_bump (s : State) (a : Nat) (q : Nat) : (s.bump a).link q = s.link q := rfl
@[simp] theorem State.port_bumpSat (s : State) (a : Nat) (f : Fld) (q : Nat) : (s.bumpSat a f).port q = s.port q := rfl
@[simp] theorem State.shard_bumpSat (s : State) (a : Nat) (f : Fld) (q : Nat) : (s.bumpSat a f).shard q = s.shard q := rfl
@[simp] theorem State.link_bumpSat (s : State) (a : Nat) (f : Fld) (q : Nat) : (s.bumpSat a f).link q = s.link q := rfl
@[simp] theorem State.port_resetRange (s : State) (lo hi : Nat) (q : Nat) : (s.resetRange lo hi).port q = s.port q := rfl
@[simp] theorem State.shard_resetRange (s : State) (lo hi : Nat) (q : Nat) : (s.resetRange lo hi).shard q = s.shard q := rfl
@[simp] theorem State.link_resetRange (s : State) (lo hi : Nat) (q : Nat) : (s.resetRange lo hi).link q = s.link q := rfl
@[simp] theorem State.port_setDom (s : State) (d x : Nat) (q : Nat) : (s.setDom d x).port q = s.port q := rfl
@[simp] theorem State.shard_setDom (s : State) (d x : Nat) (q : Nat) : (s.setDom d x).shard q = s.shard q := rfl
@[simp] theorem State.link_setDom (s : State) (d x : Nat) (q : Nat) : (s.setDom d x).link q = s.link q := rfl
@[simp] theorem State.port_todFlag (s : State) (f : Fld) (q : Nat) : (s.todFlag f).port q = s.port q := rfl
@[simp] theorem State.shard_todFlag (s : State) (f : Fld) (q : Nat) : (s.todFlag f).shard q = s.shard q := rfl
@[simp] theorem State.link_todFlag (s : State) (f : Fld) (q : Nat) : (s.todFlag f).link q = s.link q := rfl
@[simp] theorem State.port_todReject (s : State) (q : Nat) : (s.todReject).port q = s.port q := rfl
@[simp] theorem State.shard_todReject (s : State) (q : Nat) : (s.todReject).shard q = s.shard q := rfl
@[simp] theorem State.link_todReject (s : State) (q : Nat) : (s.todReject).link q = s.link q := rfl
@[simp] theorem State.port_setLink (s : State) (k : Nat) (l : Link) (q : Nat) : (s.setLink k l).port q = s.port q := rfl
@[simp] theorem State.shard_setLink (s : State) (k : Nat) (l : Link) (q : Nat) : (s.setLink k l).shard q = s.shard q := rfl
@[simp] theorem State.reg_setLink (s : State) (k : Nat) (l : Link) (q : Nat) : (s.setLink k l).reg q = s.reg q := rfl
@[simp] theorem State.port_useCredit (s : State) (k n : Nat) (q : Nat) : (s.useCredit k n).port q = s.port q := rfl
@[simp] theorem State.shard_useCredit (s : State) (k n : Nat) (q : Nat) : (s.useCredit k n).shard q = s.shard q := rfl
@[simp] theorem State.reg_useCredit (s : State) (k n : Nat) (q : Nat) : (s.useCredit k n).reg q = s.reg q := rfl
@[simp] theorem State.port_freeEntry (s : State) (k n : Nat) (q : Nat) : (s.freeEntry k n).port q = s.port q := rfl
@[simp] theorem State.shard_freeEntry (s : State) (k n : Nat) (q : Nat) : (s.freeEntry k n).shard q = s.shard q := rfl
@[simp] theorem State.reg_freeEntry (s : State) (k n : Nat) (q : Nat) : (s.freeEntry k n).reg q = s.reg q := rfl
@[simp] theorem State.port_stopLink (s : State) (k : Nat) (q : Nat) : (s.stopLink k).port q = s.port q := rfl
@[simp] theorem State.shard_stopLink (s : State) (k : Nat) (q : Nat) : (s.stopLink k).shard q = s.shard q := rfl
@[simp] theorem State.reg_stopLink (s : State) (k : Nat) (q : Nat) : (s.stopLink k).reg q = s.reg q := rfl
@[simp] theorem State.port_setShard (s : State) (h : Nat) (x : ShardSt) (q : Nat) : (s.setShard h x).port q = s.port q := rfl
@[simp] theorem State.link_setShard (s : State) (h : Nat) (x : ShardSt) (q : Nat) : (s.setShard h x).link q = s.link q := rfl
@[simp] theorem State.reg_setShard (s : State) (h : Nat) (x : ShardSt) (q : Nat) : (s.setShard h x).reg q = s.reg q := rfl
@[simp] theorem State.port_setThread (s : State) (h t : Nat) (x : Thread) (q : Nat) : (s.setThread h t x).port q = s.port q := rfl
@[simp] theorem State.link_setThread (s : State) (h t : Nat) (x : Thread) (q : Nat) : (s.setThread h t x).link q = s.link q := rfl
@[simp] theorem State.reg_setThread (s : State) (h t : Nat) (x : Thread) (q : Nat) : (s.setThread h t x).reg q = s.reg q := rfl
@[simp] theorem State.port_steer (s : State) (q : Nat) : (s.steer).port q = s.port q := rfl
@[simp] theorem State.shard_steer (s : State) (q : Nat) : (s.steer).shard q = s.shard q := rfl
@[simp] theorem State.link_steer (s : State) (q : Nat) : (s.steer).link q = s.link q := rfl
@[simp] theorem State.reg_steer (s : State) (q : Nat) : (s.steer).reg q = s.reg q := rfl
@[simp] theorem State.port_shadow (s : State) (u : Nat) (q : Nat) : (s.shadow u).port q = s.port q := rfl
@[simp] theorem State.shard_shadow (s : State) (u : Nat) (q : Nat) : (s.shadow u).shard q = s.shard q := rfl
@[simp] theorem State.link_shadow (s : State) (u : Nat) (q : Nat) : (s.shadow u).link q = s.link q := rfl
@[simp] theorem State.reg_setPort (s : State) (p : Nat) (x : PortSt) (q : Nat) : (s.setPort p x).reg q = s.reg q := rfl

/-- What a command answers through `done`: the queue and the time-of-day unit are as they were. -/
theorem done_eq (s t : State) : done s t = .next { t with pending := s.pending, clk := s.clk } := rfl

theorem doneClk_eq (s t : State) : doneClk s t = .next { t with pending := s.pending } := rfl

end Sys2Proof.Machine
end

