-- ==== Sys2Proof/Laws/Words.lean ====
section
/-! SUPPORT. Laws of bit fields: reading a field after writing it, or after writing a field that does not overlap it. -/

namespace Sys2Proof

/-- The fields `f` and `g` share no bit. -/
def Fld.apart (f g : Fld) : Prop := f.lo + f.len ≤ g.lo ∨ g.lo + g.len ≤ f.lo

theorem Fld.getLsbD_mask (f : Fld) (i : Nat) :
    f.mask.getLsbD i = (decide (i < 64) && (decide (f.lo ≤ i) && decide (i < f.lo + f.len))) := by
  simp only [Fld.mask, BitVec.getLsbD_ofNat, Nat.testBit_shiftLeft, Nat.testBit_two_pow_sub_one]
  by_cases h : i < 64 <;> by_cases h2 : f.lo ≤ i <;> simp [h, h2]
  omega

theorem Word64.getLsbD_put (w : Word64) (f : Fld) (x i : Nat) (hi : i < 64) :
    (w.put f x).getLsbD i =
      if f.lo ≤ i ∧ i < f.lo + f.len then x.testBit (i - f.lo) else w.getLsbD i := by
  simp only [Word64.put, BitVec.getLsbD_or, BitVec.getLsbD_and, BitVec.getLsbD_not, Fld.getLsbD_mask,
    BitVec.getLsbD_ofNat, Nat.testBit_shiftLeft, Nat.testBit_mod_two_pow, hi]
  by_cases h1 : f.lo ≤ i <;> by_cases h2 : i < f.lo + f.len <;> simp [h1, h2]
  · intro h; omega
  · intro h; omega

theorem Word64.testBit_get (w : Word64) (f : Fld) (i : Nat) :
    (w.get f).testBit i = (decide (i < f.len) && w.getLsbD (f.lo + i)) := by
  simp [Word64.get, Nat.testBit_mod_two_pow, Nat.testBit_shiftRight, BitVec.testBit_toNat]

/-- A field of 64 bits' width at most reads as what was written into it. -/
theorem Word64.get_put_self (w : Word64) (f : Fld) (x : Nat) (h : f.lo + f.len ≤ 64) :
    (w.put f x).get f = x % 2 ^ f.len := by
  apply Nat.eq_of_testBit_eq
  intro i
  rw [Word64.testBit_get, Nat.testBit_mod_two_pow]
  by_cases hi : i < f.len
  · rw [Word64.getLsbD_put _ _ _ _ (by omega), if_pos (by omega)]
    simp [hi]
  · simp [hi]

/-- A field keeps its value when another that shares no bit with it is written. -/
theorem Word64.get_put_apart (w : Word64) (f g : Fld) (x : Nat) (h : f.apart g) :
    (w.put f x).get g = w.get g := by
  apply Nat.eq_of_testBit_eq
  intro i
  rw [Word64.testBit_get, Word64.testBit_get]
  by_cases hi : i < g.len
  · by_cases h64 : g.lo + i < 64
    · rw [Word64.getLsbD_put _ _ _ _ h64, if_neg]
      unfold Fld.apart at h; omega
    · simp [BitVec.getLsbD_of_ge _ _ (Nat.le_of_not_lt h64)]
  · simp [hi]

theorem Word64.get_lt (w : Word64) (f : Fld) : w.get f < 2 ^ f.len :=
  Nat.mod_lt _ (Nat.two_pow_pos _)

end Sys2Proof
end

