-- ==== Sys2Proof/Laws/Clock.lean ====
section
/-! SUPPORT. What each operation on the time-of-day unit can do to it: MONO is never touched, and a clock in range stays in range
(R52 to R57).  One lemma per operation; the tick is at the end. -/

namespace Sys2Proof.Laws.Clock

open Sys2Proof Sys2Proof.Machine

/-- `Clock.ok` as a conjunction of its ranges. -/
theorem ok_iff (c : Clock) : c.ok = true ↔ (c.sec < 2 ^ 48 ∧ c.ns < 1000000000 ∧ c.frac < 2 ^ 32 ∧ c.mono < 2 ^ 64)
    ∧ incInRange c.incNs c.incFrac = true ∧ (c.slewOn = true → incInRange c.slewNs c.slewFrac = true) := by
  simp only [Clock.ok, Bool.and_eq_true, decide_eq_true_eq, Bool.or_eq_true, Bool.not_eq_true']
  cases c.slewOn <;> simp [and_assoc]

/-- `t` has the MONO of `s`, and its clock is in range if that of `s` is. -/
def Kept (s t : State) : Prop := t.clk.mono = s.clk.mono ∧ (s.clk.ok = true → t.clk.ok = true)
theorem Kept.refl (s : State) : Kept s s := ⟨rfl, id⟩
theorem Kept.trans {s t u : State} (a : Kept s t) (b : Kept t u) : Kept s u := ⟨b.1.trans a.1, fun h => b.2 (a.2 h)⟩
theorem Kept.ofclk {s t : State} (h : t.clk = s.clk) : Kept s t := by unfold Kept; rw [h]; exact ⟨rfl, id⟩

theorem setGate_clk (s : State) (p g) : (s.setGate p g).clk = s.clk := rfl
theorem showGate_clk (s : State) (p) : (s.showGate p).clk = s.clk := rfl
theorem gateTakeover_clk (s : State) (p) : (s.gateTakeover p).clk = s.clk := by
  unfold State.gateTakeover; dsimp only; split
  · rfl
  · split <;> rfl
theorem gateTakeovers_clk (s : State) : s.gateTakeovers.clk = s.clk := by
  unfold State.gateTakeovers
  exact forEach_induct (fun t => t.clk = s.clk) _ _ s rfl (fun x t _ h => (gateTakeover_clk t x).trans h)
theorem todStep_kept (s : State) (a b c : Nat) (hc : c < 2 ^ 32) : Kept s (s.todStep a b c) := by
  unfold State.todStep Kept
  simp only [gateTakeovers_clk, State.todFlag_clk]
  refine ⟨trivial, fun h => ?_⟩
  rw [ok_iff] at h ⊢
  exact ⟨⟨Nat.mod_lt _ (by norm_num), Nat.mod_lt _ (by norm_num), hc, h.1.2.2.2⟩, h.2⟩
theorem steer_kept (s : State) : Kept s s.steer := ⟨rfl, fun h => h⟩
theorem todReject_kept (s : State) : Kept s s.todReject := Kept.ofclk rfl
theorem frac_lt (s : State) : s.setTime.2.2 < 2 ^ 32 := Sys2Proof.Word64.get_lt _ _
theorem todStepSet_kept (s : State) : Kept s (todStepSet s) := by
  unfold todStepSet; dsimp only; split
  · exact todReject_kept s
  · exact (steer_kept s).trans (todStep_kept _ _ _ _ (frac_lt s))
theorem ok_frac {s : State} (h : s.clk.ok = true) : s.clk.frac < 2 ^ 32 := by
  rw [ok_iff] at h; exact h.1.2.2.1
theorem todStepAdd_kept (s : State) : Kept s (todStepAdd s) := by
  unfold todStepAdd; dsimp only; split
  · exact todReject_kept s
  · refine ⟨?_, fun h => ?_⟩
    · unfold State.todStep; simp only [gateTakeovers_clk, State.todFlag_clk]; rfl
    · exact (todStep_kept s.steer _ _ _ (ok_frac h)).2 h
theorem ppsHold_kept (s : State) : Kept s s.ppsHold := by
  unfold State.ppsHold; split
  · exact Kept.refl s
  · exact ⟨rfl, fun h => h⟩
theorem todPpsLoad_kept (s : State) : Kept s (todPpsLoad s) := by
  unfold todPpsLoad; split
  · exact todReject_kept s
  · exact ⟨rfl, fun h => h⟩
theorem todSlew_kept (s : State) : Kept s (todSlew s) := by
  unfold todSlew; dsimp only; split
  · exact todReject_kept s
  · next hh => 
    refine ⟨rfl, fun h => ?_⟩
    simp only [not_or] at hh
    rw [ok_iff] at h ⊢
    refine ⟨h.1, h.2.1, fun _ => ?_⟩
    have := hh.2.2.2.1
    simpa using this
theorem todCancel_kept (s : State) : Kept s (todCancel s) := by
  unfold todCancel; split
  · exact todReject_kept s
  · refine ⟨rfl, fun h => ?_⟩
    rw [ok_iff] at h ⊢; exact ⟨h.1, h.2.1, fun hc => by cases hc⟩
theorem todSlewEnd_kept (s : State) : Kept s (todSlewEnd s) := by
  unfold todSlewEnd; split
  · refine ⟨rfl, fun h => ?_⟩
    rw [ok_iff] at h ⊢; exact ⟨h.1, h.2.1, fun hc => by cases hc⟩
  · exact Kept.refl s
theorem todIncrWrite_kept (v) (s : State) : Kept s (todIncrWrite v s) := by
  unfold todIncrWrite; dsimp only; split
  · next h2 =>
    refine ⟨rfl, fun h => ?_⟩
    rw [ok_iff] at h ⊢
    exact ⟨h.1, h2, h.2.2⟩
  · exact Kept.ofclk rfl
theorem enterHold_kept (s : State) : Kept s s.enterHold := by
  refine ⟨rfl, fun h => ?_⟩
  rw [ok_iff] at h ⊢; exact ⟨h.1, h.2.1, fun hc => by cases hc⟩
theorem todHoldTimeoutWrite_kept (v) (s : State) : Kept s (todHoldTimeoutWrite v s) := by
  unfold todHoldTimeoutWrite; dsimp only; split
  · exact (Kept.ofclk rfl : Kept s (s.setFld Reg.TOD_HOLD_TIMEOUT Fld.TOD_HOLD_TIMEOUT_MS (v.get Fld.TOD_HOLD_TIMEOUT_MS))).trans (enterHold_kept _)
  · exact Kept.ofclk rfl
theorem todHoldover_kept (s : State) : Kept s (todHoldover s) := by
  unfold todHoldover; split
  · exact enterHold_kept s
  · exact Kept.refl s
theorem todCapture_kept (s : State) : Kept s (todCapture s) := by
  unfold todCapture; split
  · exact todReject_kept s
  · exact Kept.ofclk rfl
theorem ppsInEdge_kept (n) (s : State) : Kept s (ppsInEdge n s) := by
  unfold ppsInEdge; split
  · exact Kept.refl s
  · have h1 : Kept s s.ppsLoadNow := by
      unfold State.ppsLoadNow; split
      · exact todStep_kept s _ _ _ (frac_lt s)
      · exact Kept.refl s
    exact h1.trans ⟨rfl, fun h => h⟩
theorem ppsInLost_kept (s : State) : Kept s (ppsInLost s) := by
  unfold ppsInLost; split
  · exact ⟨rfl, fun h => h⟩
  · exact Kept.refl s
theorem ppsOutPulse_kept (s : State) : Kept s (ppsOutPulse s) := by
  unfold ppsOutPulse; split
  · exact Kept.refl s
  · dsimp only; split
    · exact ⟨rfl, fun h => h⟩
    · exact Kept.refl s
theorem ppsOutFall_kept (s : State) : Kept s (ppsOutFall s) := by
  unfold ppsOutFall; split
  · exact ⟨rfl, fun h => h⟩
  · exact Kept.refl s
theorem onBit_kept (s : State) (v : Word64) (n : Nat) (f : State → State) (h : ∀ s, Kept s (f s)) : Kept s (s.onBit v n f) := by
  unfold State.onBit; split
  · exact h s
  · exact Kept.refl s
theorem todCtlWrite_kept (e v) (s : State) : Kept s (todCtlWrite e v s) := by
  unfold todCtlWrite; dsimp only
  have h1 : Kept s (s.ppsHold.setReg Reg.TOD_CTL (Word64.put (regHostWrite e Reg.TOD_CTL (s.ppsHold.reg Reg.TOD_CTL) v) Fld.TOD_CTL_CMD 0)).ppsHold :=
    (ppsHold_kept s).trans ((Kept.ofclk rfl : Kept s.ppsHold (s.ppsHold.setReg _ _)).trans (ppsHold_kept _))
  refine h1.trans (Kept.trans ?_ (onBit_kept _ _ _ _ enterHold_kept))
  split
  · exact todCapture_kept _
  · exact todStepSet_kept _
  · exact todStepAdd_kept _
  · exact todPpsLoad_kept _
  · exact todSlew_kept _
  · exact todReject_kept _
  · exact todCancel_kept _
  · exact Kept.refl _
theorem badLatch_clk (s : State) (w a l c) : (s.badLatch w a l c).clk = s.clk := by
  unfold State.badLatch; dsimp only; split <;> rfl
theorem regWrite_kept (s : State) (a v) : Kept s (s.regWrite a v) := by
  unfold State.regWrite; split
  · exact todCtlWrite_kept _ _ _
  · split
    · exact todIncrWrite_kept _ _
    · split
      · exact todHoldTimeoutWrite_kept _ _
      · exact Kept.ofclk rfl
theorem access_kept (s : State) (h a v) : Kept s (s.access h a v) := by
  unfold State.access; split
  · exact Kept.ofclk rfl
  · split
    · exact Kept.ofclk (badLatch_clk _ _ _ _ _)
    · exact regWrite_kept _ _ _
theorem registerWrite_kept (a ws) (s : State) : Kept s (registerWrite a ws s) := by
  unfold registerWrite; split
  · exact Kept.refl s
  · exact forEach_induct (fun t => Kept s t) _ _ s (Kept.refl s) (fun x t _ h => h.trans (access_kept _ _ _ _))
theorem sendFault_clk (s : State) (a b c d) : (s.sendFault a b c d).clk = s.clk := by
  unfold State.sendFault; dsimp only; split <;> rfl
theorem hostWrite_clk (s : State) (a b) : (s.hostWrite a b).clk = s.clk := rfl
theorem complexWrite_kept (x w) (s : State) : Kept s (complexWrite x w s) := by
  unfold complexWrite; split
  · exact Kept.ofclk (by unfold State.haspReject; rw [sendFault_clk]; rfl)
  · split
    · split
      · exact access_kept _ _ _ _
      · exact Kept.refl s
    · exact Kept.refl s
    · exact Kept.refl s
    · split
      · exact Kept.ofclk rfl
      · exact Kept.refl s
theorem clkFallback_kept (s : State) : Kept s s.clkFallback := by
  unfold State.clkFallback; split
  · exact Kept.refl s
  · exact ⟨rfl, fun h => h⟩
theorem pllUnlock_kept (w d) (s : State) : Kept s (pllUnlock w d s) := by
  unfold pllUnlock; split
  · exact (Kept.ofclk (sendFault_clk _ _ _ _ _)).trans (clkFallback_kept _)
  · split
    · split
      · exact Kept.refl s
      · exact Kept.ofclk (by rw [sendFault_clk]; rfl)
    · split
      · split
        · exact Kept.refl s
        · exact Kept.ofclk (sendFault_clk _ _ _ _ _)
      · exact Kept.ofclk (sendFault_clk _ _ _ _ _)
theorem setPhase_clk (s : State) (n) : (s.setPhase n).clk = s.clk := rfl
theorem phaseReset_kept (r) (s : State) : Kept s (phaseReset r s) := by
  unfold phaseReset; split
  · exact Kept.refl s
  · split
    · exact Kept.ofclk rfl
    · dsimp only
      have a1 : ∀ (s0 : State), (forUpTo 7 (fun r t => t.setFld (Reg.PMU_RAIL r) Fld.PMU_RAIL_GOOD 1) s0).clk = s0.clk := fun s0 =>
        forUpTo_induct (fun t : State => t.clk = s0.clk) 7 _ s0 rfl (fun i t _ h => h)
      have a2 : ∀ (s0 : State), (forUpTo 7 (fun j t => t.setDom (68 + j) 0) s0).clk = s0.clk := fun s0 =>
        forUpTo_induct (fun t : State => t.clk = s0.clk) 7 _ s0 rfl (fun i t _ h => h)
      simp only [Kept, setPhase_clk, State.cstBump, State.bump_clk, a1, a2, ok_iff, State.setFld_clk]
      exact ⟨trivial, fun h => h⟩
theorem noteAttempt_clk (s : State) (a b c d e) : (s.noteAttempt a b c d e).clk = s.clk := by
  unfold State.noteAttempt; generalize (match s.cast.slot with | none => 0 | some k => k + 1) = y
  by_cases h : 2 ≤ s.cast.attempts
  · simp only [h, if_true]
  · simp only [h, if_false, State.setFld_clk]
theorem drawBytes_clk (s : State) (n) : (s.drawBytes n).2.clk = s.clk := by
  induction n generalizing s with
  | zero => rfl
  | succ n ih => simp only [State.drawBytes, ih, State.draw_clk]
theorem jnlQueue_clk (s : State) (w) : (s.jnlQueue w).clk = s.clk := by
  unfold State.jnlQueue; split
  · rfl
  · exact drawBytes_clk _ _
theorem slotEntry_clk (s : State) (k kind) : (s.slotEntry k kind).clk = s.clk := by
  unfold State.slotEntry; split
  · exact jnlQueue_clk _ _
  · exact (jnlQueue_clk _ _).trans (drawBytes_clk _ _)
theorem refuseImage_clk (s : State) (r) : (s.refuseImage r).clk = s.clk := by
  unfold State.refuseImage; dsimp only
  simp only [setPhase_clk]
  split
  · simp only [State.cstBump, State.bump_clk, State.setFld_clk, noteAttempt_clk]
  · split
    · simp only [State.revokeTrial, slotEntry_clk, State.cstBump, State.bump_clk, State.setFld_clk, noteAttempt_clk]
    · simp only [State.cstBump, State.bump_clk, State.setFld_clk, noteAttempt_clk]
theorem Kept.then {s t u : State} (a : Kept s t) (h : u.clk = t.clk) : Kept s u := a.trans (Kept.ofclk h)
theorem forUpTo_clk (n) (f : Nat → State → State) (hf : ∀ i t, (f i t).clk = t.clk) (s : State) : (forUpTo n f s).clk = s.clk :=
  forUpTo_induct (fun t : State => t.clk = s.clk) n f s rfl (fun i t _ h => (hf i t).trans h)
theorem forEach_clk {α} (l : List α) (f : α → State → State) (hf : ∀ i t, (f i t).clk = t.clk) (s : State) : (forEach l f s).clk = s.clk :=
  forEach_induct (fun t : State => t.clk = s.clk) l f s rfl (fun i t _ h => (hf i t).trans h)
theorem samplerEnable_clk (k : Nat) (s : State) : (samplerEnable k s).clk = s.clk := by
  unfold samplerEnable; dsimp only; split <;> rfl
theorem recordEffect_kept (s : State) (a : Nat) : Kept s (s.recordEffect a) := by
  unfold State.recordEffect; split
  · split
    · exact enterHold_kept _
    · exact Kept.refl s
  · split
    · split
      · exact Kept.ofclk (samplerEnable_clk _ _)
      · exact Kept.refl s
    · exact Kept.refl s
theorem storeRecord_kept (s : State) (x) : Kept s (s.storeRecord x) := by
  unfold State.storeRecord; dsimp only; split
  · exact (Kept.ofclk rfl).trans (todIncrWrite_kept _ _)
  · exact Kept.ofclk rfl
theorem configRecord_kept (s : State) (x) : Kept s (s.configRecord x) :=
  (storeRecord_kept s x).trans (recordEffect_kept _ _)
theorem imageFactory_clk (s : State) : s.imageFactory.clk = s.clk := by
  unfold State.imageFactory; exact forEach_clk _ _ (by intro i t; split <;> simp) _
theorem baseIncr_kept (s : State) : Kept s s.baseIncr := by
  refine ⟨rfl, fun h => ?_⟩
  rw [ok_iff] at h ⊢; exact ⟨h.1, (by decide : incInRange Clock.init.incNs Clock.init.incFrac = true), h.2.2⟩
theorem loadHashKey_clk (s : State) : s.loadHashKey.clk = s.clk := by
  unfold State.loadHashKey; split
  · dsimp only; exact (forUpTo_clk _ _ (by intro i t; simp) _).trans (by simp)
  · rfl
theorem copyFallback_clk (s : State) (i) : (s.copyFallback i).clk = s.clk := by
  unfold State.copyFallback; exact forUpTo_clk _ _ (by intro i t; simp) _
theorem startGenerations_clk (s : State) : s.startGenerations.clk = s.clk := by
  unfold State.startGenerations; exact forUpTo_clk _ _ (by intro i t; simp) _
theorem showModes_clk (s : State) : s.showModes.clk = s.clk := by
  unfold State.showModes; exact forUpTo_clk _ _ (by intro i t; split <;> simp) _
theorem startTwin_clk (s : State) : s.startTwin.clk = s.clk := by unfold State.startTwin; split <;> rfl
theorem domainOff_clk (s : State) (d) : (s.domainOff d).clk = s.clk := by
  unfold State.domainOff; exact (forEach_clk _ _ (by intro i t; simp) _).trans (by simp)
theorem applyMask_clk (s : State) : s.applyMask.clk = s.clk := by
  unfold State.applyMask; dsimp only; exact forEach_clk _ _ (fun i t => domainOff_clk t i) _
theorem configImage_kept (s : State) (k) : Kept s (s.configImage k).2 := by
  unfold State.configImage; dsimp only; split
  · exact Kept.refl s
  · have h1 : ∀ l : List (Nat × Word64), Kept s (forEach l (fun x t => t.configRecord x) s.ppsHold.imageFactory.baseIncr).ppsHold := fun l =>
      (forEach_induct (fun t => Kept s t) _ _ _ (((ppsHold_kept s).then (imageFactory_clk _)).trans (baseIncr_kept _))
        (fun x t _ h => h.trans (configRecord_kept _ _))).trans (ppsHold_kept _)
    split
    · exact h1 _
    · refine (h1 (configRecords (s.sectionBytes k 0x0004))).then ?_
      simp only [applyMask_clk, startTwin_clk, showModes_clk, startGenerations_clk]
      exact (forUpTo_clk _ _ (fun i t => copyFallback_clk t i) _).trans (loadHashKey_clk _)
theorem endPhase_kept (s : State) (n x) (h : Kept s x.2) : Kept s (endPhase n x) := by
  unfold endPhase; split
  · exact h.then (refuseImage_clk _ _)
  · exact h.then rfl
theorem phaseConfig_kept (s : State) : Kept s (phaseConfig s) := by
  unfold phaseConfig; split
  · exact Kept.refl s
  · split
    · exact Kept.refl s
    · exact endPhase_kept _ _ _ (configImage_kept _ _)
theorem pdAon_clk (s : State) : (pdAonPowerUp s).clk = Clock.init := rfl
theorem tick_ok (c : Clock) (h : c.ok = true) : c.tick.ok = true := by
  unfold Clock.tick; split
  · rw [ok_iff] at h ⊢
    have hi : incInRange c.increment.1 c.increment.2 = true := by
      unfold Clock.increment; split
      · next h2 => exact h.2.2 (by simp at h2; exact h2.1)
      · exact h.2.1
    simp only [incInRange, Bool.and_eq_true, decide_eq_true_eq] at hi
    refine ⟨⟨?_, ?_, Nat.mod_lt _ (by norm_num), Nat.mod_lt _ (by norm_num)⟩, h.2.1, h.2.2⟩
    · dsimp only; split
      · exact Nat.mod_lt _ (by norm_num)
      · exact h.1.1
    · dsimp only
      split
      · have : c.increment.1 ≤ 1 := by omega
        have : (c.frac + c.increment.2) / 4294967296 ≤ 2 := by omega
        omega
      · next hh => simpa using hh
  · exact h

end Sys2Proof.Laws.Clock
end

