-- ==== Sys2Proof/Laws/Registers.lean ====
section
/-! SUPPORT. Laws of the register operations: what a register and a field read after each of them. -/

namespace Sys2Proof.Machine

@[simp] theorem State.reg_setReg (s : State) (a b : Nat) (v : Word64) :
    (s.setReg a v).reg b = if b = a then v else s.reg b := by
  by_cases h : b = a
  · subst h; simp [State.reg, State.setReg]
  · simp only [State.reg, State.setReg, h, if_false]
    exact Tbl.get_set_other _ _ _ _ _ _ h

theorem State.reg_setReg_self (s : State) (a : Nat) (v : Word64) : (s.setReg a v).reg a = v := by simp

theorem State.reg_setFld (s : State) (a b : Nat) (f : Fld) (x : Nat) :
    (s.setFld a f x).reg b = if b = a then (s.reg a).put f x else s.reg b := by
  simp [State.setFld]

/-- The field just written. -/
theorem State.fld_setFld_self (s : State) (a : Nat) (f : Fld) (x : Nat) (h : f.lo + f.len ≤ 64) :
    (s.setFld a f x).fld a f = x % 2 ^ f.len := by
  simp only [State.fld, State.reg_setFld, if_true]; exact Word64.get_put_self _ f x h

/-- Another field of the register just written. -/
theorem State.fld_setFld_apart (s : State) (a : Nat) (f g : Fld) (x : Nat) (h : f.apart g) :
    (s.setFld a f x).fld a g = s.fld a g := by
  simp only [State.fld, State.reg_setFld, if_true]; exact Word64.get_put_apart _ f g x h

/-- A field of another register. -/
theorem State.fld_setFld_other (s : State) (a b : Nat) (f g : Fld) (x : Nat) (h : b ≠ a) :
    (s.setFld a f x).fld b g = s.fld b g := by
  simp only [State.fld, State.reg_setFld, h, if_false]

theorem State.reg_bumpBy (s : State) (a b n : Nat) :
    (s.bumpBy a n).reg b = if b = a then s.reg a + BitVec.ofNat 64 n else s.reg b := by
  simp [State.bumpBy]

theorem State.reg_bump (s : State) (a b : Nat) : (s.bump a).reg b = if b = a then s.reg a + 1#64 else s.reg b := by
  simp [State.bump, State.bumpBy]

theorem State.reg_clearRegs (s : State) (a n b : Nat) :
    (s.clearRegs a n).reg b = if ∃ i, i < n ∧ b = a + 8 * i then 0#64 else s.reg b := by
  induction n with
  | zero => simp [State.clearRegs]
  | succ k ih =>
    simp only [State.clearRegs, forUpTo] at ih ⊢
    rw [State.reg_setReg, ih]
    by_cases h : b = a + 8 * k
    · rw [if_pos h, if_pos ⟨k, by omega, h⟩]; rfl
    · rw [if_neg h]
      by_cases h2 : ∃ i, i < k ∧ b = a + 8 * i
      · rw [if_pos h2, if_pos]; obtain ⟨i, hi, hb⟩ := h2; exact ⟨i, by omega, hb⟩
      · rw [if_neg h2, if_neg]; rintro ⟨i, hi, hb⟩
        exact h2 ⟨i, by rcases Nat.lt_succ_iff_lt_or_eq.1 hi with h3 | h3; exact h3; subst h3; exact absurd hb h, hb⟩

/-- Register writes touch the registers alone. -/
theorem State.setReg_eq (s : State) (a : Nat) (v : Word64) : { s.setReg a v with regs := s.regs } = s := rfl

theorem State.clearRegs_rest (s : State) (a n : Nat) : { s.clearRegs a n with regs := s.regs } = s :=
  forUpTo_induct (fun t : State => { t with regs := s.regs } = s) n _ s rfl (fun _ _ _ h => h)

/-- The registers' canonical form is kept by every register operation. -/
theorem State.regs_wf_setReg (s : State) (a : Nat) (v : Word64) (h : Tbl.wf regDefault s.regs = true) :
    Tbl.wf regDefault (s.setReg a v).regs = true :=
  Tbl.wf_set regDefault _ _ _ _ rfl h

end Sys2Proof.Machine
end

