-- ==== Sys2Proof/Laws/Ops.lean ====
section
/-! SUPPORT. One lemma per shared operation of Machine/Ops.lean: what it answers, and what it leaves as it was. -/

namespace Sys2Proof.Machine

/-! ### Parts -/

/-- A change of one field of the state changes that part alone. -/
theorem State.onlyParts_of_regs (s t : State) (h : { t with regs := s.regs } = s) : s.onlyParts t [.regs] := by
  rw [← h]; refine ⟨rfl, fun p hp => ?_⟩
  cases p <;> first | rfl | simp at hp

theorem State.onlyParts_refl (s : State) (l : List Part) : s.onlyParts s l :=
  ⟨rfl, fun p _ => by cases p <;> rfl⟩

theorem State.onlyParts_trans {s t u : State} {l : List Part} (a : s.onlyParts t l) (b : t.onlyParts u l) :
    s.onlyParts u l := by
  refine ⟨b.1.trans a.1, fun p hp => ?_⟩
  have x := a.2 p hp
  have y := b.2 p hp
  cases p <;> exact Eq.trans y x

theorem State.onlyParts_mono {s t : State} {l m : List Part} (a : s.onlyParts t l) (h : ∀ p ∈ l, p ∈ m) : s.onlyParts t m :=
  ⟨a.1, fun p hp => a.2 p (fun x => hp (h p x))⟩

theorem State.onlyRegs_trans {s t u : State} {l : List Nat} (a : s.onlyRegs t l) (b : t.onlyRegs u l) : s.onlyRegs u l :=
  fun x hx => (b x hx).trans (a x hx)

theorem State.onlyRegs_setReg (s : State) (a : Nat) (v : Word64) : s.onlyRegs (s.setReg a v) [a] := by
  intro b hb; rw [State.reg_setReg, if_neg (by simpa using hb)]

theorem State.onlyRegs_setFld (s : State) (a : Nat) (f : Fld) (x : Nat) : s.onlyRegs (s.setFld a f x) [a] :=
  State.onlyRegs_setReg s a _

theorem State.onlyRegs_bump (s : State) (a : Nat) : s.onlyRegs (s.bump a) [a] := State.onlyRegs_setReg s a _

/-! ### Tables of the state -/

theorem State.onlyPort_setPort (s : State) (a : Nat) (x : PortSt) : s.onlyPort (s.setPort a x) a := by
  intro q h; rw [State.port_setPort, if_neg h]

theorem State.setPort_rest (s : State) (a : Nat) (x : PortSt) : s.onlyParts (s.setPort a x) [.ports] :=
  ⟨rfl, fun p hp => by cases p <;> first | rfl | simp at hp⟩

theorem State.setLink_rest (s : State) (a : Nat) (l : Link) : s.onlyParts (s.setLink a l) [.links] :=
  ⟨rfl, fun p hp => by cases p <;> first | rfl | simp at hp⟩

/-! ### Credit links -/

theorem State.credit_up (s : State) (k : Nat) (h : (s.link k).stage = .up) : s.credit k = (s.link k).credit := by
  simp [State.credit, h]

theorem State.credit_down (s : State) (k : Nat) (h : (s.link k).stage ≠ .up) : s.credit k = 0 := by
  simp [State.credit, h]

/-- A unit sent takes its credits from its own link and from no other. -/
theorem State.credit_useCredit (s : State) (k j n : Nat) :
    (s.useCredit k n).credit j = if j = k then s.credit k - n else s.credit j := by
  by_cases h : j = k
  · subst h
    by_cases hu : (s.link j).stage = .up <;> simp [State.credit, State.useCredit, hu]
  · simp [State.credit, State.useCredit, h]

/-- Freed entries are owed on their own link; no credit moves yet. -/
theorem State.credit_freeEntry (s : State) (k j n : Nat) : (s.freeEntry k n).credit j = s.credit j := by
  by_cases h : j = k
  · subst h; simp [State.credit, State.freeEntry]
  · simp [State.credit, State.freeEntry, h]

theorem State.owed_freeEntry (s : State) (k n : Nat) : ((s.freeEntry k n).link k).owed = (s.link k).owed + n := by
  simp [State.freeEntry]

/-- A stopped producer has no credit (R25, step 1). -/
theorem State.credit_stopLink (s : State) (k : Nat) : (s.stopLink k).credit k = 0 := by
  simp [State.credit, State.stopLink]

/-! ### Free values -/

/-- A drawn value moves the counter of free values and nothing else. -/
theorem State.draw_rest (s : State) : s.onlyParts s.draw.2 [.free] :=
  ⟨rfl, fun p hp => by cases p <;> first | rfl | simp at hp⟩

/-! ### Fault messages -/

/-- A message sent changes registers (a lost message is counted) and the fault state, nothing else. -/
theorem State.sendFault_rest (s : State) (src kind cls addr : Nat) :
    s.onlyParts (s.sendFault src kind cls addr) [.regs, .fault] := by
  unfold State.sendFault; dsimp only
  split <;> exact ⟨rfl, fun p hp => by cases p <;> first | rfl | simp at hp⟩

/-- What a source's queue holds after it sends: a corrected or contained message that finds eight waiting is lost. -/
theorem State.sendFault_queue (s : State) (src kind cls addr : Nat) :
    Tbl.get [] (s.sendFault src kind cls addr).fault.queues src =
      if cls ≠ 2 ∧ 8 ≤ (Tbl.get [] s.fault.queues src).length then Tbl.get [] s.fault.queues src
      else Tbl.get [] s.fault.queues src ++ [⟨src, kind, cls, addr % 2 ^ 48, s.clk.ns⟩] := by
  unfold State.sendFault; dsimp only
  split
  · rfl
  · simp

/-- Another source's queue. -/
theorem State.sendFault_other (s : State) (src kind cls addr o : Nat) (h : o ≠ src) :
    Tbl.get [] (s.sendFault src kind cls addr).fault.queues o = Tbl.get [] s.fault.queues o := by
  unfold State.sendFault; dsimp only
  split
  · rfl
  · exact Tbl.get_set_other _ _ _ _ _ _ h

/-- The fatal line: only a fatal message drives it. -/
theorem State.sendFault_line (s : State) (src kind cls addr : Nat) :
    (s.sendFault src kind cls addr).fault.fatalLine =
      if cls = 2 ∧ s.fault.fatalLine = none then some 0 else s.fault.fatalLine := by
  unfold State.sendFault; dsimp only
  split
  · next h => rw [if_neg (fun x => h.1 x.1)]; rfl
  · rfl

/-- Registers that a message sent may change: the lost counter alone. -/
theorem State.sendFault_regs (s : State) (src kind cls addr : Nat) :
    s.onlyRegs (s.sendFault src kind cls addr) [Reg.FLT_CNT Cnt.FLT_SRC_OVF_LOST] := by
  unfold State.sendFault; dsimp only
  split
  · exact State.onlyRegs_bump { s with fault := _ } _
  · exact fun _ _ => rfl

/-- A masked detector changes the shadow counters alone (R394). -/
theorem State.shadow_regs (s : State) (u : Nat) :
    s.onlyRegs (s.shadow u) [Reg.FLT_UNIT u, Reg.FLT_CNT Cnt.FLT_SHADOWED] := by
  intro b hb
  simp only [List.mem_cons, List.not_mem_nil, or_false, not_or] at hb
  unfold State.shadow State.bumpSat
  rw [State.reg_bump, if_neg hb.2, State.reg_setFld, if_neg hb.1]

theorem State.shadow_rest (s : State) (u : Nat) : s.onlyParts (s.shadow u) [.regs] := State.onlyParts_of_regs s _ rfl

theorem State.detect_rest (s : State) (src kind cls addr : Nat) :
    s.onlyParts (s.detect src kind cls addr) [.regs, .fault] := by
  unfold State.detect
  split
  · exact s.sendFault_rest _ _ _ _
  · split
    · exact State.onlyParts_mono (s.shadow_rest _) (by simp)
    · exact s.sendFault_rest _ _ _ _

/-! ### Escalation and power domains -/

/-- Opening a unit's window: STATE 1, FENCES counted, the timers; nothing outside registers and the fault state (R395). -/
theorem State.openWindow_rest (s : State) (u : Nat) : s.onlyParts (s.openWindow u) [.regs, .fault] :=
  ⟨rfl, fun p hp => by cases p <;> first | rfl | simp at hp⟩

theorem State.openWindow_regs (s : State) (u : Nat) :
    s.onlyRegs (s.openWindow u) [Reg.FLT_UNIT u, Reg.FLT_CNT Cnt.FLT_FENCES] := by
  intro b hb
  simp only [List.mem_cons, List.not_mem_nil, or_false, not_or] at hb
  unfold State.openWindow; dsimp only
  rw [State.reg_bump, if_neg hb.2]
  change (s.setFld _ _ _).reg b = _
  rw [State.reg_setFld, if_neg hb.1]

theorem State.setDom_rest (s : State) (d x : Nat) : s.onlyParts (s.setDom d x) [.regs] := State.onlyParts_of_regs s _ rfl

/-- The domain just set. -/
theorem State.dom_setDom_self (s : State) (d x : Nat) : (s.setDom d x).dom d = x % 4 :=
  State.fld_setFld_self s _ _ x (by show 2 * (d % 32) + 2 ≤ 64; omega)

/-- Every other domain keeps its state. -/
theorem State.dom_setDom_other (s : State) (d e x : Nat) (h : e ≠ d) : (s.setDom d x).dom e = s.dom e := by
  unfold State.dom State.setDom
  by_cases hr : Reg.PMU_PD_STATE (e / 32) = Reg.PMU_PD_STATE (d / 32)
  · rw [hr]
    apply State.fld_setFld_apart
    have : e / 32 = d / 32 := by unfold Reg.PMU_PD_STATE at hr; omega
    unfold Fld.apart; dsimp only; omega
  · exact State.fld_setFld_other s _ _ _ _ _ hr

/-! ### Answers -/

/-- A command that answers through `done` leaves the queue and the time-of-day unit, and otherwise changes what `t` changed. -/
theorem done_onlyParts (s t : State) (l : List Part) (h : ∀ p : Part, p ∉ l → p.same s t) :
    ∃ u, done s t = .next u ∧ s.onlyParts u l := by
  refine ⟨_, rfl, rfl, fun p hp => ?_⟩
  have := h p hp
  cases p <;> first | rfl | exact this

/-- `when` answers one of its two states. -/
theorem State.when_cases (s : State) (b : Bool) (t : State) : (b = true ∧ s.when b t = t) ∨ (b = false ∧ s.when b t = s) := by
  cases b <;> simp [State.when]

end Sys2Proof.Machine
end

