-- ==== Sys2Proof/Laws/Std.lean ====
section
/-! SUPPORT. The standard programs and the frames of a port: which updates leave the program at an entry point as it is, and how a
FIFO splits at its first unchecked frame. -/

namespace Sys2Proof.Machine

@[simp] theorem State.setReg_stdAt (s : State) (a : Nat) (v : Word64) (e : Nat) : (s.setReg a v).stdAt e = s.stdAt e := rfl
@[simp] theorem State.setFld_stdAt (s : State) (a : Nat) (f : Fld) (x e : Nat) : (s.setFld a f x).stdAt e = s.stdAt e := rfl
@[simp] theorem State.bump_stdAt (s : State) (a e : Nat) : (s.bump a).stdAt e = s.stdAt e := rfl
@[simp] theorem State.setShard_stdAt (s : State) (h : Nat) (x : ShardSt) (e : Nat) : (s.setShard h x).stdAt e = s.stdAt e := rfl
@[simp] theorem State.setThread_stdAt (s : State) (h t : Nat) (x : Thread) (e : Nat) : (s.setThread h t x).stdAt e = s.stdAt e := rfl
@[simp] theorem State.setLink_stdAt (s : State) (k : Nat) (x : Link) (e : Nat) : (s.setLink k x).stdAt e = s.stdAt e := rfl
@[simp] theorem State.setPort_stdAt (s : State) (p : Nat) (x : PortSt) (e : Nat) : (s.setPort p x).stdAt e = s.stdAt e := rfl

/-- The two parts of a FIFO are the FIFO. -/
theorem splitUnchecked_append (l : List IngFrame) : (splitUnchecked l).1 ++ (splitUnchecked l).2 = l :=
  List.takeWhile_append_dropWhile

/-- Every frame before the first unchecked one has its cells or was refused. -/
theorem splitUnchecked_checked (l : List IngFrame) (f : IngFrame) (h : f ∈ (splitUnchecked l).1) :
    (f.cells.isSome || f.refused) = true :=
  List.mem_takeWhile_imp (p := fun f : IngFrame => f.cells.isSome || f.refused) h

end Sys2Proof.Machine
end

