-- ==== Sys2Proof/Machine/Pins.lean ====
section
/-! DEFINITION. The levels of the outside pins while no traffic runs (R435) and of the DDR pins (R444). ALERT_N of a powered device
outside reset is State.alertLow. -/

namespace Sys2Proof.Machine

/-- What a pin is doing. -/
inductive PinLevel where
  | highZ | low | high
  /-- A serial transmitter in electrical idle. -/
  | idle
  /-- Its protocol drives it. -/
  | operating
  deriving DecidableEq, Repr

/-- The columns of R435, and the device in use. -/
inductive PinCase where
  | unpowered | reset | factory | inUse
  deriving DecidableEq, Repr

/-- The column of R435: reset while SYS_RESET_N is low or until phase RESET ends, factory in the factory layer. -/
def State.pinCase (s : State) : PinCase :=
  if !s.power.powered then .unpowered
  else if s.power.sysResetLow ∨ s.fld Reg.CST_STATUS Fld.CST_STATUS_PHASE = 0 then .reset
  else if s.fld Reg.CST_STATUS Fld.CST_STATUS_LAYER = 3 then .factory
  else .inUse

/-- The pins and groups of R435. -/
inductive PinGroup where
  | serdesTx | pcieTx | devReady | alertN | dramReset | dramCke | xspi | ppsOut | twinHb | tdo
  deriving DecidableEq, Repr

/-- The table of R435; in use DEV_READY shows GLB.STATUS, PPS_OUT its pulse, the DRAM resets are high. -/
def State.pinLevel (s : State) (g : PinGroup) : PinLevel :=
  match s.pinCase, g with
  | .unpowered, _ => .highZ
  | .reset, .serdesTx => .idle
  | .reset, .pcieTx => .idle
  | .reset, .devReady => .low
  | .reset, .alertN => .highZ
  | .reset, .dramReset => .low
  | .reset, .dramCke => .low
  | .reset, .xspi => .highZ
  | .reset, .ppsOut => .low
  | .reset, .twinHb => .highZ
  | .reset, .tdo => .highZ
  | .factory, .serdesTx => .idle
  | .factory, .pcieTx => .operating
  | .factory, .devReady => .low
  | .factory, .alertN => if s.alertLow then .low else .highZ
  | .factory, .dramReset => .low
  | .factory, .dramCke => .low
  | .factory, .xspi => .operating
  | .factory, .ppsOut => .low
  | .factory, .twinHb => .highZ
  | .factory, .tdo => .highZ
  | .inUse, .devReady => if s.flag Reg.GLB_STATUS Fld.GLB_STATUS_DEV_READY then .high else .low
  | .inUse, .alertN => if s.alertLow then .low else .highZ
  | .inUse, .ppsOut => if s.clk.ppsOut then .high else .low
  | .inUse, .dramReset => .high
  | .inUse, _ => .operating

/-- The signals of a DDR channel (R444): on subchannel x those with an x, CS by rank, CK by DIMM, DQS by pair. -/
inductive DdrPin where
  | dq (x i : Nat)
  | cb (x i : Nat)
  | dqs (x i : Nat)
  | ca (x i : Nat)
  | par (x : Nat)
  | csN (x r : Nat)
  | ck (x d : Nat)
  | resetN
  deriving DecidableEq, Repr

/-- The domain PD_DP of channel c is on (R274). -/
def State.ddrOn (s : State) (c : Nat) : Bool := s.domOn (72 + c / 4)

/-- The DMC holds the pins of channel c as in reset: there, in the factory layer, and while its PD_DP is off (R274, R444). -/
def State.ddrHeld (s : State) (c : Nat) : Bool := s.pinCase != .inUse || !s.ddrOn c

/-- The levels of R444 on channel c. Where a rule gives a pin no level, its protocol drives it. -/
def State.ddrPin (s : State) (c : Nat) (p : DdrPin) : PinLevel :=
  if s.pinCase = .unpowered then .highZ
  else
    match p with
    | .csN _ r => if s.ddrHeld c ∨ s.ranks c ≤ r then .high else .operating
    | .ck _ d => if s.fld (Reg.DMC_POP c) Fld.DMC_POP_DIMMS ≤ d then .low else .operating
    | .ca _ _ => if s.ddrHeld c then .low else .operating
    | .par _ => if s.ddrHeld c then .low else .operating
    | .resetN => if s.ddrHeld c then .low else .high
    | .dqs _ i => if s.flag (Reg.DMC_POP c) Fld.DMC_POP_WIDTH ∧ 5 ≤ i then .low else .operating
    | .dq _ _ => .operating
    | .cb _ _ => .operating

end Sys2Proof.Machine
end

