-- ==== Sys2Proof/WellFormed.lean ====
section
/-! DEFINITION. Well-formed commands: the operands that a sender can present.  A command outside it is no event of the block
(its meaning is total all the same). -/

namespace Sys2Proof

/-- A valid access to BAR0 (R458): whole 64-bit registers of one 64-byte line, aligned, with every byte enable. -/
def validAccess (a len : Nat) (enables : Bool) : Bool :=
  enables && decide (0 < len) && len % 8 == 0 && decide (len ≤ 64) && a % 8 == 0 && a / 64 == (a + len - 1) / 64

/-- A control complex writes whole registers, and bytes where it writes a flash or the host (R408). -/
def CcWrite.wf : CcWrite → Bool
  | .register a _ => a % 8 == 0 && decide (a < 268435456)
  | .image _ bytes => bytes != []
  | .journal => true
  | .host _ bytes => bytes != []

/-- An image's table loads name entries that exist: arrays Q0 to Q3, 262,144 Tumbler entries, 524,288 MAC entries, 262,144 next
hops, 65,536 groups, 512 logical ports, 16,384 entry points. -/
def ImageTables.wf (t : ImageTables) : Bool :=
  t.tmb.all (fun e => decide (e.quad < 4) && decide (e.index < 262144)) &&
  t.macs.all (fun e => decide (e.quad < 4) && decide (e.index < 524288)) &&
  t.nextHops.all (fun e => decide (e.quad < 4) && decide (e.index < 262144)) &&
  t.groups.all (fun e => decide (e.quad < 4) && decide (e.index < 65536)) &&
  t.gates.all (fun e => decide (e.port < 512)) && t.counts.all (fun e => decide (e.entry < 16384))

/-- The operands of the command are such as a sender can present. -/
def Instr.wf : Instr → Bool
  | .registerWrite a ws => validAccess a.val (8 * ws.length) true
  | .badAccess _ a len e => !validAccess a len e
  | .accessDomainNotOn _ a len => validAccess a.val len true
  | .complexWrite _ w => w.wf
  | .rxFrame _ bytes _ _ => bytes != []
  | .dimmAlert _ _ n => decide (0 < n)
  | .tempSample t => t.length == 16
  | .phaseDram _ init => init.all (fun x => x.2 != [])
  | .phaseTables t _ => t.wf
  | .apRead _ off len _ => decide (0 < len) && decide (off + len ≤ 4294967296)
  | .apWrite _ off bytes _ => bytes != [] && decide (off + bytes.length ≤ 4294967296)
  | .txInject w1 _ bytes => bytes.length == w1.toNat % 16384
  | .flowImport _ line _ => line.length == 64
  | .imageWrite _ bytes _ => bytes.length % 64 == 0
  | .admitRequest _ bytes => bytes.length % 64 == 0
  | .samplePreload pins load => pins.length == load.length
  | .rcHighWaterRead _ | .schHighRead _ | .tmgDescRead _ | .poolStatusRead _ | .gaugeMaxRead _ _ | .prtCntClr _ _
  | .slcCntClr _ | .macCntClr _ | .tmbCntClr _ | .hnkCntClr _ | .schCntClr _ | .faeCntClr _ | .pcntClr _
  | .wrdCntClr _ | .dmcCntClr _ | .tmgCntClr _ | .schCtlCntClr _ | .modeWrite _ _ | .portDisable _ | .portEnable _
  | .txtsPop _ | .txtsFlush _ | .autoNegotiation _ _ | .linkTraining _ _ | .linkDown _ _ | .linkUp _
  | .flowControlFrameSend _ | .pauseRefresh _ | .pauseStopStart _ _ | .pauseStopEnd _ _ | .cellCheck _
  | .cellCacheRefill _ | .parseFrame _ | .frameEnd _ | .workItemSend _ | .perpktForward _ | .learnerApply _
  | .walkerVisit _ | .macRead _ _ | .macWrite _ _ | .macSearch _ | .macFlush _ _ _ _ | .tumblerSearch _ _
  | .tumblerScrubRow _ _ | .entRead _ _ _ | .entInsert _ _ _ | .tmbMoveStep _ | .tmbInsertWrite _ | .entDelete _ _ _
  | .entRepair _ _ _ | .generationRetire _ | .generationRetireDone _ | .recReadLookup _ _ | .hankFetch _ _ _
  | .fetchDeliver _ _ | .fillInstall _ _ | .evbWriteAccept _ | .holdEnd _ _ _ | .sweepPassStart _
  | .sweepHotVisit _ _ | .sweepDramVisit _ _ _ | .sweepPassEnd _ | .sweepPeriodExpiry _ | .agingItemEnter _
  | .recLookup _ _ | .readLoc _ _ _ _ | .recWrite _ _ | .recDelete _ _ | .flushOne _ _ | .hnkFlush _
  | .sequencerTake _ | .dispatch _ _ | .itemExpiry _ | .parkRetry _ _ | .resumeEnter _ | .itemRelease _
  | .fallbackRoute _ | .grpRead _ _ | .microwordIssue _ _ _ | .recReadDone _ _ | .auxAccessDone _ _ | .lockGrant _ _
  | .timerFire _ _ | .eventWake _ _ | .deadlockBreak _ _ | .halt _ _ | .resume _ _ | .step _ _ _ | .debugAbort _ _
  | .readCtx _ _ | .writeG _ _ _ | .mcScrub _ _ | .lockRead _ _ | .evAdd _ _ _ | .exporterReadEntry _ _ _ _
  | .skipped _ | .ipfixMessageSend _ _ | .dmcRequestAccept _ _ | .dmcReadDone _ _ _ _ | .dmcWriteDone _ _ _
  | .rmw _ _ _ | .idleClose _ _ _ | .refresh _ _ | .scrubLine _ _ _ | .migrationCopyStep _ _ _ | .poisonFillStep _ _
  | .freqGo _ | .poolAllocate _ _ | .poolFree _ _ _ | .poolGive _ _ _ _ | .cacheRefill _ _ | .cacheSpill _ _
  | .metaRead _ _ | .tmDescriptorTake _ _ _ | .samplerEnable _ | .wredAvgUpdate _ | .mcgRead _ _ | .mcgWrite _ _
  | .queueFlush _ _ | .hostDelivery _ _ _ _ _ | .hostPoolRetry _ _ _ _ _ | .tmPick _ | .shaperRefill _
  | .egressFrameStart _ _ | .txCopyDone _ _ | .gateEntryChange _ | .gclTakeover _ | .gclRead _ _ _ | .gclWrite _ _ _
  | .arm _ | .cancel _ | .disable _ | .gaugeSweep _ | .nhRead _ _ | .nhWrite _ _ | .incrWrite _ | .holdTimeoutWrite _
  | .ppsInEdge _ | .creditReturn _ | .creditTimeout _ _ | .creditResync _ | .creditResyncAck _ | .unitLogic _ _
  | .pllUnlock _ _ | .supplyFault _ _ _ _ | .escReset _ | .unitResetDone _ _ | .escReturn _ _ | .keep _ | .escalate _
  | .escWindowExpiry _ | .repairTimeout _ | .autoRepair _ | .phaseReset _ | .phaseJournal _ | .phaseVerify _
  | .phaseFirmware _ _ | .programKey _ | .hostReadFail _ _ | .ringEnable _ | .rxDoorbell _ _ _ | .txDoorbell _ _ _
  | .msixSend _ | .lopStart _ _ | .lopAbort _ | .lopInProdWrite _ _ _ | .lopOutConsWrite _ _ | .statusMirrorWrite _
  | .flowExport _ _ _ | .tableDump _ | .tumblerRebuild _ | .dramScrub _ _ | .rankMigrate _ | .ccHeartbeat _ _
  | .ccHeartbeatTimeout _ | .twinHeartbeatSend _ | .twinHeartbeatReceive _ _ _ _ _ | .twinPathTimeout _
  | .twinFrameReceive _ _ _ _ | .mirrorApply _ _ | .deltaBatch _ | .syncPassStep _ _ | .quiesce _ | .powerOff _
  | .powerOn _ | .sysResetNFall _ | .refreshRateNeed _ _ _ | .pdCmdComplete _ | .autoRestart _ | .dataLinkLayerUp _ _
  | .twinAcknowledgement _ | .bufLowRead | .pmuThermRead | .bpmCntClr | .bufCntClr | .cstCntClr | .hifCntClr
  | .fltCntClr | .ccxCntClr | .twnCntClr | .pmuCntClr | .learnBusTransfer | .openGen | .openCopyDone | .commitGen
  | .commitApply | .abortGen | .abortSweepDone | .templateRefresh | .exporterStatusWrite | .freqSelfRefresh
  | .freqChangeDone | .capture | .stepSet | .stepAdd | .ppsLoad | .slew | .todCancel | .todReservedCmd | .slewEnd
  | .enterHold | .holdover | .ppsInLost | .ppsOutPulse | .ppsOutFall | .faultMessageRecord | .fatalStop | .refclkLoss
  | .inject | .corrTokenRefill | .fatalClear | .phaseFuses | .phaseSelect | .phaseConfig | .phaseAdmit | .phaseArm
  | .phaseRun | .phaseFactory | .phaseRetry | .recast | .confirm | .trialTimeout | .raiseSvn | .journalEntryWrite
  | .journalTokenRefill | .perstNAssert | .hotReset | .flr | .pcieLinkDown | .d3hotEntry | .busMasterClear
  | .dmaEnWrite | .txPoolRetry | .takeover | .switchOver | .twinFrameSend | .twinRetransmit | .promote | .resync
  | .pdAonPowerUp | .sysResetNRelease | .trstNAssert | .shutdown | .extest | .idcode | .highz | .clamp | .extestPulse
  | .extestTrain | .bypass | .perstNRelease => true

end Sys2Proof
end

