-- ==== Sys2Proof/Tests/Slice0.lean ====
section
/-! SUPPORT. Tests of the model: for each statement states and operands that meet the hypotheses of each of its clauses, for each check
of WellFormed a command that it refuses, and single steps with values worked out by hand from the spec. -/

open Sys2Proof Sys2Proof.Machine

namespace Sys2Proof.Tests

set_option linter.unusedVariables false
set_option Elab.async false

/-! ### Helpers -/

/-- `s` with these fields of its registers. -/
def up (l : List (Nat × Fld × Nat)) (s : State) : State := forEach l (fun x (t : State) => t.setFld x.1 x.2.1 x.2.2) s

def s0 : State := State.reset

/-- Phase RUN. -/
def sRun : State := up [(Reg.CST_STATUS, Fld.CST_STATUS_PHASE, 11)] s0

/-- Phase RUN, complex 0 active with claim 1. -/
def sServ : State := sRun.setReg (claimReg 0) 1

/-- The same, with one DIMM of one rank on channel 0 and 1 MiB of space. -/
def sMem : State := up [(Reg.DMC_POP 0, Fld.DMC_POP_DIMMS, 1), (Reg.DMC_SPACE 0, Fld.DMC_SPACE_BYTES, 1048576)] sServ

/-- Ports 0 to 3 at 100 Gb/s, port 0 enabled with its link up. -/
def sPort : State :=
  up [(Reg.PRT_CTL 0, Fld.PRT_CTL_MODE, 3), (Reg.PRT_CTL 1, Fld.PRT_CTL_MODE, 3), (Reg.PRT_CTL 0, Fld.PRT_CTL_ENABLE0, 1),
      (Reg.PRT_STATUS 0, Fld.PRT_STATUS_LINK0, 1)] s0

def clk (f : Clock → Clock) (s : State) : State := { s with clk := f s.clk }
def atMono (m : Nat) (s : State) : State := clk (fun c => { c with mono := m }) s
def onPort (p : Nat) (f : PortSt → PortSt) (s : State) : State := s.setPort p (f (s.port p))
def onShard (h : Nat) (f : ShardSt → ShardSt) (s : State) : State := s.setShard h (f (s.shard h))
def onTwin (f : TwinSt → TwinSt) (s : State) : State := { s with twin := f s.twin }
def onTm (f : TmSt → TmSt) (s : State) : State := { s with tm := f s.tm }
def onCast (f : CastSt → CastSt) (s : State) : State := { s with cast := f s.cast }
def onFault (f : FaultSt → FaultSt) (s : State) : State := { s with fault := f s.fault }
def upLink (k n : Nat) (s : State) : State := s.setLink k { Link.init with credit := n, stage := .up }

/-- A frame in a port's FIFO. -/
def inFrame (b : List Byte) : IngFrame :=
  { bytes := b, ended := false, stamp := ⟨0, 0, 0, 0, 0⟩, entries := 1, cls := 0, cells := none, refused := false, parsed := none }

def noParse : Parsed := { cfg := ⟨0, 0, 0, 0⟩, hv := [], summary := 0, gen := 0, key := [] }

/-- 60 bytes of zeros and their FCS. -/
def goodFrame : List Byte := List.replicate 60 0 ++ fcsOf (List.replicate 60 0)

def outFrame : OutFrame :=
  { parsed := noParse, stamp := ⟨0, 0, 0, 0, 0⟩, cellHead := 0, cellCnt := 1, h := 0, flow := false, fallback := false, stage := .start
    route := .miss, acl := .miss }

/-- A frame to the router's MAC 0: Ethernet, IPv4, UDP. -/
def routedFrame : OutFrame :=
  { outFrame with parsed := { noParse with
      hv := List.replicate 12 0 ++ [8, 0, 0x45, 0, 0, 46, 0, 0, 0, 0, 64, 17, 0, 0, 1, 2, 3, 4, 5, 6, 7, 8] ++ List.replicate 158 0
      summary := sumPut 0 sumFrameLen 64, key := [4] } }

def onSlice (f : SliceSt → SliceSt) (s : State) : State := { s with slice := f s.slice }
def onTmb (f : TumblerSt → TumblerSt) (s : State) : State := { s with tmb := f s.tmb }

def learned : LearnEvent := { bd := 1, mac := 2, port := 3, ct := 4, s := 5 }

/-- Table 15 of array `q` in bank 0, exact match. -/
def tables (q : Nat) (s : State) : State :=
  up [(Reg.TMB_TABLE_CFG q 15, Fld.TMB_TABLE_CFG_VALID, 1), (Reg.TMB_TABLE_CFG q 15, Fld.TMB_TABLE_CFG_KIND, 3)] s

/-- Generation slot 0 current, slot 1 pending. -/
def pendGen (s : State) : State :=
  up [(Reg.TMB_GEN_SLOT 0 0, Fld.TMB_GEN_SLOT_STATE, 1), (Reg.TMB_GEN_SLOT 0 1, Fld.TMB_GEN_SLOT_STATE, 1),
      (Reg.TMB_GEN_STATUS 0, Fld.TMB_GEN_STATUS_PEND_VALID, 1), (Reg.TMB_GEN_STATUS 0, Fld.TMB_GEN_STATUS_PEND_SLOT, 1)] s

/-- An entry of the pending generation. -/
def liveEntry : TmbEntry := { TmbEntry.init with gens := 2#4, valid := true }

/-- A work item of rank 7 and hash 5. -/
def item7 : Item :=
  { rank := 7, summary := 0, h := 5, tsMono := 0, align := 0, tsNs := 0, tsSec := 0, seq := 0, gen := 0, srcSlice := 0, aging := false
    late := false, group := 0, deadline := 100, cellHead := 0, cellCnt := 1, hv := [] }

/-- A short record with an all-zero key. -/
def shortRec : List Word64 := List.replicate 8 0

def recEntry (st : EntryStage) (q : List Waiter) : RecEntry :=
  { h := 5, stage := st, key := [], cls := 0, create := false, swap := false, queue := q, waited := false }

/-- The home shard of the all-zero key under the reset key. -/
def homeFin : Fin 16 := Fin.ofNat 16 (homeShard (s0.hashKey (s0.recKeyBytes 0)))

/-- `n` pointers in pool 1, all in the cache of quadrant 0. -/
def pool1 (n : Nat) (s : State) : State :=
  let t : State := up [(Reg.BPM_STATUS, Fld.BPM_STATUS_READY, 1), (Reg.BPM_POOL_CFG 1, Fld.BPM_POOL_CFG_COUNT, n)] s
  { t with pools := { t.pools with caches := [(1, ⟨[16777216], 0, [], []⟩), (13, ⟨[16777216], 0, [], []⟩)] } }

def waitEntry : RoEntry := { item := item7, verdict := none, tableFull := false, stage := .none, route := .miss, acl := .miss }
def dropEntry : RoEntry := { waitEntry with verdict := some (.result (Word64.put 0 r0Disp 1) 0 0 0) }
/-- An entry that leaves by the fallback unit. -/
def routeEntry : RoEntry := { waitEntry with verdict := some (.result (Word64.put 0 r0Disp 3) 0 0 0) }
def routeEntry4 : RoEntry :=
  { routeEntry with item := { item7 with hv := routedFrame.parsed.hv, summary := routedFrame.parsed.summary } }

def onSub (c k : Nat) (f : DmcSub → DmcSub) (s : State) : State := s.setSub c k (f (s.sub c k))

/-- A read of line 1 by thread 511 of shard 15. -/
def readReq : DmcReq := { line := 1, op := .read, thread := 8191, data := none, mirror := none }
def casReq : DmcReq := { readReq with op := .cas 7 0 9 }

/-- A descriptor from slice 15 for port 1. -/
def desc1 : Desc :=
  { summary := 0, res0 := Word64.put 0 r0Egress 1, tsMono := 0, align := 0, res1 := 0, ptpTag := 0, gen := 0, sampled := false
    sampler := 0, perpkt := true, outerEcn := 0, res2 := 0, cellHead := 0, cellCnt := 1, src := 31, own := true }
def copy1 : Copy := { desc := desc1, body := .frame 0 1 64, n := 1, port := 0, cls := 0, ce := false, raw := false, mono := 0 }
def poolCopy : Copy := { copy1 with body := .pool 1 0 60, cls := 7 }

/-- Slot `i` running `r`. -/
def lop (i : Nat) (r : LopRun) (s : State) : State :=
  up [(Reg.LOP_STATUS i, lopState, 1)] { s with lop := [(i, { LopSt.init with run := r })] }

/-- The host has enabled DMA. -/
def dma (s : State) : State := up [(Reg.HIF_CTL, Fld.HIF_CTL_DMA_EN, 1)] s

/-- The image of slot 0 was chosen; phase `n`. -/
def inCast (n : Nat) (s : State) : State :=
  up [(Reg.CST_STATUS, Fld.CST_STATUS_PHASE, n)] (onCast (fun x => { x with slot := some 0 }) s)

def unit (u x : Nat) (s : State) : State := up [(Reg.FLT_UNIT u, Fld.FLT_UNIT_STATE, x)] s

/-- A fault message of class 1 from slice 15. -/
def msg1 : FaultMsg := ⟨srcSlice 15, 2, 1, 99, 7⟩

def twinOn (s : State) : State := up [(Reg.TWN_CTL, Fld.TWN_CTL_EN, 1)] s

/-- The primary of a pair. -/
def primary (s : State) : State :=
  up [(Reg.TWN_STATUS, Fld.TWN_STATUS_ROLE, 1), (Reg.TWN_STATUS, Fld.TWN_STATUS_LINK_HB, 1)] (twinOn s)

/-- An exporter to host queue 0. -/
def exporterCfg : ExporterCfg :=
  { wire := false, hostQueue := 0, mtu := 1400, refreshS := 1, domain := 1, ringEntries := 64, collector := 1, collectorPort := 4739
    source := 2, egress := 0, qclass := 0, header := [] }

def exporting (s : State) : State := onCast (fun x => { x with tables := { x.tables with exporter := some exporterCfg } }) s

/-- A ring of 16 with one descriptor between HEAD and TAIL. -/
def ringOf (r : Nat) (s : State) : State :=
  up [(Reg.HIF_RING_CFG r, Fld.HIF_RING_CFG_EN, 1), (Reg.HIF_RING_CFG r, Fld.HIF_RING_CFG_SIZE_LOG2, 4), (Reg.HIF_RING_PTR r, Fld.HIF_RING_PTR_TAIL, 1)] s

/-- A journal event entry. -/
def entry1 : JEntry := { what := .event .admission, payloads := [List.replicate 32 1] }

/-- An admission request with no changes. -/
def admitBytes : List Byte := [0x53, 0x39, 0x41, 0x52] ++ List.replicate 60 0

/-- One pointer of pool 2 in the cache of quadrant 0. -/
def pool2 (s : State) : State :=
  let t : State := up [(Reg.BPM_STATUS, Fld.BPM_STATUS_READY, 1), (Reg.BPM_POOL_CFG 2, Fld.BPM_POOL_CFG_COUNT, 3)] s
  { t with pools := { t.pools with caches := [(2, ⟨[33554432], 0, [], []⟩)] } }

/-- Complex 1 is up too, with claim 2. -/
def both (s : State) : State := s.setReg (claimReg 1) 2

/-- Slot 0's header gives lengths of 0. -/
def smallImage (s : State) : State := onCast (fun x => { x with flash := (List.range 16).map (fun i => (0x10000 + 32 + i, 0)) }) s

/-- A frame waits in port 0's FIFO and the packet buffer has this use table. -/
def sUse (l : Tbl CellUse) : State :=
  let s := up [(Reg.BUF_CFG, Fld.BUF_CFG_ING_GUARD, 1)] (onPort 0 (fun x => { x with fifo := [{ inFrame [1] with ended := true }] }) sPort)
  { s with buf := { s.buf with use := l } }

/-- Cells 0 to `n - 1` withdrawn. -/
def usedTo (n : Nat) : Tbl CellUse := (List.range n).map (fun i => (i, .withdrawn))

/-- Thread 511 of shard 15 stands at the entry point 5, where COUNT is loaded. -/
def stdRun : State :=
  upLink (lnkRecord 15) 1 (onShard 15 (fun x => { x with threads := [(511, { Thread.init with item := some item7, pc := 5 })] })
    (onCast (fun x => { x with tables := { x.tables with counts := [⟨5, 0, 0, 0, 0, 0, some .count⟩] } }) sMem))

/-- A packet under COUNT with an empty record. -/
def stdFlow0 : StdFlow :=
  { prog := .count, it := item7, env := { outcome := .found, fresh := true, rb := [], punt := 0, sameLayout := true, served := none, ring := 0 }
    par := List.replicate 8 0, st := List.replicate 48 0, age := none, isNew := false, gone := false, searched := false, denied := false
    drop := false, colour := 0 }

theorem sUse_guard (l : Tbl CellUse) : (sUse l).fld Reg.BUF_CFG Fld.BUF_CFG_ING_GUARD = 1 := by
  have h : (sUse []).fld Reg.BUF_CFG Fld.BUF_CFG_ING_GUARD = 1 := by decide +kernel
  exact h

theorem sUse_use (l : Tbl CellUse) : (sUse l).buf.use = l := rfl

theorem cellCount_used (n : Nat) : (sUse (usedTo n)).cellCount (fun u => u == .inFlight || u == .queued || u == .withdrawn) = n := by
  have h : ∀ l : List Nat, ((l.map (fun i => (i, CellUse.withdrawn))).filter
      (fun e => e.2 == .inFlight || e.2 == .queued || e.2 == .withdrawn)).length = l.length := by
    intro l
    induction l with
    | nil => rfl
    | cons a r ih => exact congrArg Nat.succ ih
  exact (h (List.range n)).trans List.length_range

theorem cellFree_used (n : Nat) (h : cellTotal ≤ n) : (sUse (usedTo n)).cellFree < (sUse (usedTo n)).fld Reg.BUF_CFG Fld.BUF_CFG_ING_GUARD := by
  rw [sUse_guard]
  unfold State.cellFree
  rw [cellCount_used, Nat.sub_eq_zero_of_le h]
  exact Nat.one_pos

theorem sUse_split (l : Tbl CellUse) : splitUnchecked ((sUse l).port 0).fifo = ([], [{ inFrame [1] with ended := true }]) := by
  have h : splitUnchecked ((sUse []).port 0).fifo = ([], [{ inFrame [1] with ended := true }]) := by decide +kernel
  exact h

theorem sUse_beyond (l : Tbl CellUse) : ((sUse l).port 0).beyond < 6 := by
  have h : ((sUse []).port 0).beyond < 6 := by decide +kernel
  exact h

/-- Line 1 waits in a write queue. -/
def sWrite : State := onSub 0 1 (fun x => { x with writeQ := [1] }) sMem

theorem sWrite_refresh (l : Nat) (a : LineAt) (hl : (sWrite.sub 0 1).writeQ[0]? = some l) (ha : sWrite.locate l = some a) :
    sWrite.refreshFirst a = false := by
  have hl' : (sWrite.sub 0 1).writeQ[0]? = some 1 := by decide +kernel
  have ha' : sWrite.locate 1 = some ⟨0, 1, 0, 0⟩ := by decide +kernel
  obtain rfl := Option.some.inj (hl'.symm.trans hl)
  obtain rfl := Option.some.inj (ha'.symm.trans ha)
  decide +kernel

theorem msgsOk_one (s : State) (h : s.fault.queues = [(srcSlice 15, [msg1])]) : s.msgsOk := by
  intro e he m hm
  rw [h] at he
  obtain rfl := List.mem_singleton.1 he
  obtain rfl := List.mem_singleton.1 hm
  exact ⟨by decide, fun u hu => by
    have : unitOf msg1.src = some 271 := by decide
    rw [this] at hu
    cases hu
    decide⟩

/-! ### Witnesses -/

theorem witness_StepRunsTheFrontCommand :
    (∃ (c : Instr) (r : List Instr) (s : State), (s.pending = c :: r)) :=
  ⟨.capture, [], { s0 with pending := [.capture] }, by decide +kernel⟩

theorem witness_IdleStepIsATick :
    (∃ (s : State), (s.pending = [])) :=
  ⟨s0, by decide +kernel⟩

theorem witness_TimeCountsTicks :
    (∃ (c : Instr) (s t : State), (c ≠ .pdAonPowerUp) ∧ (exec c s = .next t)) ∧
    (∃ (s : State), (s.pending = []) ∧ (s.clk.running = true)) :=
  ⟨⟨.todCancel, s0, s0, by decide +kernel, rfl⟩,
   ⟨s0, by decide +kernel⟩⟩

theorem witness_StepKeepsTheClockInRange :
    (∃ (s t : State), (s.clk.ok = true) ∧ (step s = .next t)) :=
  ⟨{ s0 with pending := [.todCancel] }, s0, by decide +kernel, rfl⟩

theorem witness_StateAfterReset :
    (∃ (a : Nat), (a ≠ Reg.CST_JNL_TOKENS)) :=
  ⟨0, by decide +kernel⟩

theorem witness_CounterReadsAndClears :
    (∃ (c : Instr) (s : State), (clearedBy c ≠ [])) ∧
    (∃ (s : State) (h : Fin 16), (s.answers (Reg.HNK_ENTRY_STATUS h.val) = true)) ∧
    (∃ (s : State) (h : Fin 16), (s.answers (Reg.SCH_HIGH h.val) = true)) ∧
    (∃ (s : State), (s.answers Reg.BUF_LOW = true)) ∧
    (∃ (s : State) (q : Fin 4), (s.answers (Reg.TMG_DESC q.val) = true)) ∧
    (∃ (s : State) (p : Fin 4), (s.answers (Reg.BPM_POOL_STATUS p.val) = true)) ∧
    (∃ (s : State) (q : Fin 4) (u : Fin 656), (s.answers (Reg.TMG_GAUGE_MAX q.val u.val) = true)) ∧
    (∃ (s : State), (s.answers Reg.PMU_THERM = true)) :=
  ⟨⟨.bufCntClr, s0, by decide +kernel⟩,
   ⟨s0, 15, by decide +kernel⟩,
   ⟨s0, 15, by decide +kernel⟩,
   ⟨s0, by decide +kernel⟩,
   ⟨s0, 3, by decide +kernel⟩,
   ⟨s0, 3, by decide +kernel⟩,
   ⟨s0, 3, 655, by decide +kernel⟩,
   ⟨s0, by decide +kernel⟩⟩

theorem witness_TodCommands :
    (∃ (s : State), (s.todDown = false) ∧ (s.clk.ok = true)) ∧
    (∃ (s : State), (s.todDown = false) ∧ (s.clk.busy = false) ∧ (s.fld Reg.TOD_SET_NS Fld.TOD_SET_NS_NS < 1000000000)) ∧
    (∃ (s : State) (n : Nat), (s.todDown = false) ∧ (s.clk.busy = false) ∧ ((s.clk.nanos : Int) + signed 48 (s.fld Reg.TOD_OFFSET
      Fld.TOD_OFFSET_OFFSET_NS) = (n : Int)) ∧ (n < 2 ^ 48 * 1000000000)) ∧
    (∃ (s : State), (s.todDown = false) ∧ (s.clk.busy = false) ∧ (s.fld Reg.TOD_SET_NS Fld.TOD_SET_NS_NS < 1000000000)) ∧
    (∃ (s : State), (s.todDown = false) ∧ (s.clk.busy = false) ∧ (s.clk.holdover = false) ∧ (incInRange (s.fld Reg.TOD_SLEW_INC Fld.TOD_SLEW_INC_NS)
      (s.fld Reg.TOD_SLEW_INC Fld.TOD_SLEW_INC_FRAC) = true) ∧ (0 < s.fld Reg.TOD_SLEW_CNT Fld.TOD_SLEW_CNT_TICKS)) ∧
    (∃ (s : State), (s.todDown = false)) ∧
    (∃ (s : State) (c : Instr), ((c ∈ [Instr.stepSet, .stepAdd, .ppsLoad, .slew] ∧ s.clk.busy = true ∨ c ∈ [Instr.stepSet, .ppsLoad] ∧ 1000000000 ≤
      s.fld Reg.TOD_SET_NS Fld.TOD_SET_NS_NS ∨ c = .stepAdd ∧ (s.clk.nanos : Int) + signed 48 (s.fld Reg.TOD_OFFSET Fld.TOD_OFFSET_OFFSET_NS) < 0 ∨ c
      = .slew ∧ (s.clk.holdover = true ∨ s.fld Reg.TOD_SLEW_CNT Fld.TOD_SLEW_CNT_TICKS = 0 ∨ incInRange (s.fld Reg.TOD_SLEW_INC Fld.TOD_SLEW_INC_NS)
      (s.fld Reg.TOD_SLEW_INC Fld.TOD_SLEW_INC_FRAC) = false)))) :=
  ⟨⟨s0, by decide +kernel⟩,
   ⟨up [(Reg.TOD_SET_NS, Fld.TOD_SET_NS_NS, 999999999)] s0, by decide +kernel⟩,
   ⟨up [(Reg.TOD_OFFSET, Fld.TOD_OFFSET_OFFSET_NS, 2 ^ 48 - 7)] (clk (fun c => { c with ns := 7 }) s0), 0, by decide +kernel⟩,
   ⟨up [(Reg.TOD_SET_NS, Fld.TOD_SET_NS_NS, 999999999)] s0, by decide +kernel⟩,
   ⟨up [(Reg.TOD_SLEW_INC, Fld.TOD_SLEW_INC_NS, 1), (Reg.TOD_SLEW_INC, Fld.TOD_SLEW_INC_FRAC, 0x20000000), (Reg.TOD_SLEW_CNT, Fld.TOD_SLEW_CNT_TICKS,
     1)] s0, by decide +kernel⟩,
   ⟨s0, by decide +kernel⟩,
   ⟨up [(Reg.TOD_SET_NS, Fld.TOD_SET_NS_NS, 1000000000)] s0, .stepSet, by decide +kernel⟩⟩

theorem witness_IncrWriteDuringSlew :
    (∃ (s : State) (v : Word64), (s.clk.slewOn = true) ∧ (s.clk.running = true) ∧ (incInRange (v.get Fld.TOD_INCR_INC_NS) (v.get Fld.TOD_INCR_INC_FRAC) =
      true)) :=
  ⟨clk (fun c => { c with slewOn := true, slewLeft := 3, slewNs := 1, slewFrac := 0x20000000 }) s0, BitVec.ofNat 64 0x160000000, by decide +kernel⟩

theorem witness_TodSteeringAndPps :
    (∃ (s : State), (s.clk.slewOn = true) ∧ (s.clk.slewLeft = 0)) ∧
    (∃ (s : State) (v : Word64), (incInRange (v.get Fld.TOD_INCR_INC_NS) (v.get Fld.TOD_INCR_INC_FRAC) = true)) ∧
    (∃ (s : State) (v : Word64), (incInRange (v.get Fld.TOD_INCR_INC_NS) (v.get Fld.TOD_INCR_INC_FRAC) = false)) ∧
    (∃ (s : State), (0 < s.fld Reg.TOD_HOLD_TIMEOUT Fld.TOD_HOLD_TIMEOUT_MS) ∧ (msTicks (s.fld Reg.TOD_HOLD_TIMEOUT Fld.TOD_HOLD_TIMEOUT_MS) ≤
      s.clk.mono - s.clk.lastSteer)) ∧
    (∃ (s : State) (high : Nat), (s.flag Reg.TOD_CTL Fld.TOD_CTL_PPS_IN_EN = true) ∧ (100 ≤ high) ∧ ((∀ m, s.clk.lastPps = some m → msTicks 500 ≤
      s.clk.mono - m)) ∧ (s.clk.loadArmed = false) ∧ (s.clk.ok = true)) ∧
    (∃ (s : State) (high : Nat), (s.flag Reg.TOD_CTL Fld.TOD_CTL_PPS_IN_EN = true) ∧ (100 ≤ high) ∧ ((∀ m, s.clk.lastPps = some m → msTicks 500 ≤
      s.clk.mono - m)) ∧ (s.clk.loadArmed = true) ∧ (s.fld Reg.TOD_SET_NS Fld.TOD_SET_NS_NS < 1000000000)) ∧
    (∃ (s : State), (s.flag Reg.TOD_CTL Fld.TOD_CTL_PPS_IN_EN = true) ∧ (msTicks 1100 ≤ s.clk.mono - s.clk.lastPps.getD 0)) ∧
    (∃ (s : State) (m : Nat), (s.flag Reg.TOD_CTL Fld.TOD_CTL_PPS_OUT_EN = true) ∧ (s.clk.carryAt = some m) ∧ ((m : Int) + s.ppsShift ≤ s.clk.mono)) ∧
    (∃ (s : State), (s.flag Reg.TOD_CTL Fld.TOD_CTL_PPS_OUT_EN = true) ∧ (s.clk.carryAt = none) ∧ (s.clk.ppsEarly = false) ∧ (s.ppsShift < 0) ∧
      ((s.clk.ticksToCarry : Int) + s.ppsShift ≤ 0)) ∧
    (∃ (s : State), (s.clk.ppsOut = true) ∧ (s.clk.ppsRise + usTicks (s.fld Reg.TOD_PPS_OUT Fld.TOD_PPS_OUT_WIDTH_US) ≤ s.clk.mono)) :=
  ⟨⟨clk (fun c => { c with slewOn := true }) s0, by decide +kernel⟩,
   ⟨s0, BitVec.ofNat 64 0x120000000, by decide +kernel⟩,
   ⟨s0, BitVec.ofNat 64 0x11FFFFFFF, by decide +kernel⟩,
   ⟨atMono 800000 (up [(Reg.TOD_HOLD_TIMEOUT, Fld.TOD_HOLD_TIMEOUT_MS, 1)] s0), by decide +kernel⟩,
   ⟨up [(Reg.TOD_CTL, Fld.TOD_CTL_PPS_IN_EN, 1)] s0, 100, by decide +kernel⟩,
   ⟨up [(Reg.TOD_CTL, Fld.TOD_CTL_PPS_IN_EN, 1)] (clk (fun c => { c with loadArmed := true }) s0), 100, by decide +kernel⟩,
   ⟨atMono 880000000 (up [(Reg.TOD_CTL, Fld.TOD_CTL_PPS_IN_EN, 1)] s0), by decide +kernel⟩,
   ⟨up [(Reg.TOD_CTL, Fld.TOD_CTL_PPS_OUT_EN, 1)] (clk (fun c => { c with carryAt := some 5, mono := 5 }) s0), 5, by decide +kernel⟩,
   ⟨up [(Reg.TOD_CTL, Fld.TOD_CTL_PPS_OUT_EN, 1), (Reg.TOD_PPS_OUT, Fld.TOD_PPS_OUT_ADJ, 2 ^ 24 - 1000000)] (clk (fun c => { c with ns := 999999900 })
     s0), by decide +kernel⟩,
   ⟨atMono 80000000 (clk (fun c => { c with ppsOut := true }) s0), by decide +kernel⟩⟩

theorem witness_PortControl :
    (∃ (s : State) (n : Fin 256) (m : Fin 8), (s.bothDisabled n.val = true) ∧ ((m.val = 5 ∨ m.val = 6 → s.bothDisabled (pairOf n.val) = true)) ∧
      (s.shapersFit n.val m.val = true)) ∧
    (∃ (s : State) (n : Fin 256) (m : Fin 8), (s.bothDisabled n.val = false ∨ s.shapersFit n.val m.val = false)) :=
  ⟨⟨s0, 255, 6, by decide +kernel⟩,
   ⟨sPort, 0, 0, by decide +kernel⟩⟩

theorem witness_LinksUpAndDown :
    (∃ (s : State) (n : Fin 256) (accepted : Bool), (s.flag (Reg.PRT_CTL n.val) Fld.PRT_CTL_AN_EN = true)) ∧
    (∃ (s : State) (n : Fin 256) (complete : Bool), (s.flag (Reg.PRT_CTL n.val) Fld.PRT_CTL_LT_EN = true)) ∧
    (∃ (s : State) (p : Fin 512) (remote : Bool), (s.linkUp p.val = true)) ∧
    (∃ (s : State) (p : Fin 512) (remote : Bool), (s.linkUp p.val = false)) ∧
    (∃ (s : State) (p : Fin 512), (s.linkUp p.val = false) ∧ (0 < s.rate p.val) ∧ (s.modeOk (p.val / 2) = true) ∧ ((s.flag (Reg.PRT_CTL (p.val / 2))
      Fld.PRT_CTL_AN_EN = true → s.flag (Reg.PRT_STATUS (p.val / 2)) Fld.PRT_STATUS_AN_DONE = true))) :=
  ⟨⟨up [(Reg.PRT_CTL 255, Fld.PRT_CTL_AN_EN, 1)] s0, 255, true, by decide +kernel⟩,
   ⟨up [(Reg.PRT_CTL 255, Fld.PRT_CTL_LT_EN, 1)] s0, 255, true, by decide +kernel⟩,
   ⟨sPort, 0, true, by decide +kernel⟩,
   ⟨sPort, 1, true, by decide +kernel⟩,
   ⟨sPort, 1, by decide +kernel⟩⟩

theorem witness_FrameReception :
    (∃ (s : State) (p : Fin 512) (bytes : List Byte) (delay : Nat), (s.looped p.val = false) ∧ (s.rxAccepts p.val = true) ∧ ((s.port p.val).rx = none) ∧
      (entriesNeeded bytes ≤ s.credit (lnkIngress p.val))) ∧
    (∃ (s : State) (p : Fin 512) (r : RxNow) (l : List IngFrame) (f : IngFrame), (s.looped p.val = false) ∧ ((s.port p.val).rx = some r) ∧ (r.fifoFull
      = false) ∧ (r.phyErr = false) ∧ ((s.port p.val).fifo = l ++ [f]) ∧ (f.cells = none) ∧ (f.refused = false) ∧ (isMacControl r.bytes = false) ∧ (64
      ≤ r.bytes.length) ∧ (r.bytes.length ≤ s.fld (Reg.PRT_MTU (p.val / 2) (p.val % 2)) Fld.PRT_MTU_MAX_FRAME) ∧ (fcsOk r.bytes = true)) ∧
    (∃ (s : State) (p : Fin 512) (r : RxNow) (l : List IngFrame) (f : IngFrame) (c : Nat), (s.looped p.val = false) ∧ ((s.port p.val).rx = some r) ∧
      (r.fifoFull = false) ∧ ((s.port p.val).fifo = l ++ [f]) ∧ (f.cells = none) ∧ (f.refused = false) ∧ (s.rxError p.val r = some c)) :=
  ⟨⟨upLink (lnkIngress 0) 1 sPort, 0, List.replicate 64 0, 7, by decide +kernel⟩,
   ⟨onPort 0 (fun x => { x with rx := some { bytes := goodFrame, phyErr := false, fifoFull := false, inFifo := true }, fifo := [inFrame goodFrame] })
     sPort, 0, { bytes := goodFrame, phyErr := false, fifoFull := false, inFifo := true }, [], inFrame goodFrame, by decide +kernel⟩,
   ⟨onPort 0 (fun x => { x with rx := some { bytes := [1], phyErr := false, fifoFull := false, inFifo := true }, fifo := [inFrame [1]] }) sPort, 0,
     { bytes := [1], phyErr := false, fifoFull := false, inFifo := true }, [], inFrame [1], Cnt.PRT_RX_RUNT, by decide +kernel⟩⟩

theorem witness_FlowControl :
    (∃ (s : State) (p : Fin 512) (f : FcFrame) (r : List FcFrame), (s.looped p.val = false) ∧ ((s.port p.val).fcPend = f :: r) ∧ (f.pfc = false) ∧
      ((s.port p.val).tx = none) ∧ (s.portEnabled p.val = true) ∧ (s.linkUp p.val = true)) ∧
    (∃ (s : State) (p : Fin 512), (s.fld (Reg.PRT_FC_CTL (p.val / 2) (p.val % 2)) Fld.PRT_FC_CTL_POLICY = 1) ∧ ((s.port p.val).xoff = true) ∧ ((s.port
      p.val).fcPend = []) ∧ (bitTicks (512 * s.fld (Reg.PRT_PAUSE_CFG (p.val / 2) (p.val % 2)) Fld.PRT_PAUSE_CFG_REFRESH) (s.rate p.val) ≤ s.clk.mono
      - (s.port p.val).fcLast)) ∧
    (∃ (s : State) (p : Fin 512) (i : Fin 9) (q m : Nat) (r : List (Nat × Nat)), ((Tbl.get Stop.init (s.port p.val).stops i.val).next = (q, m) :: r) ∧
      (m ≤ s.clk.mono) ∧ ((Tbl.get Stop.init (s.port p.val).stops i.val).on = true ∨ (s.port p.val).tx = none)) ∧
    (∃ (s : State) (p : Fin 512) (i : Fin 9) (u : Nat), (Tbl.get Stop.init (s.port p.val).stops i.val = ⟨true, u, []⟩) ∧ (u ≤ s.clk.mono)) :=
  ⟨⟨onPort 0 (fun x => { x with fcPend := [{ pfc := false, cover := 1, pause := 1 }] }) sPort, 0, { pfc := false, cover := 1, pause := 1 }, [],
     by decide +kernel⟩,
   ⟨atMono 1000000 (up [(Reg.PRT_FC_CTL 0 0, Fld.PRT_FC_CTL_POLICY, 1)] (onPort 0 (fun x => { x with xoff := true }) sPort)), 0, by decide +kernel⟩,
   ⟨onPort 0 (fun x => { x with stops := [(8, { Stop.init with next := [(3, 0)] })] }) sPort, 0, 8, 3, 0, [], by decide +kernel⟩,
   ⟨onPort 0 (fun x => { x with stops := [(8, { Stop.init with on := true })] }) sPort, 0, 8, 0, by decide +kernel⟩⟩

theorem witness_CellsOfArrivingFrames :
    (∃ (s : State) (p : Fin 512) (l : List IngFrame) (f : IngFrame) (r : List IngFrame), (splitUnchecked (s.port p.val).fifo = (l, f :: r)) ∧ (f.bytes ≠
      []) ∧ (isMacControl f.bytes = false) ∧ ((s.port p.val).beyond < 6) ∧ (s.fld Reg.BUF_CFG Fld.BUF_CFG_ING_GUARD ≤ s.cellFree)) ∧
    (∃ (s : State) (p : Fin 512) (l : List IngFrame) (f : IngFrame) (r : List IngFrame), (splitUnchecked (s.port p.val).fifo = (l, f :: r)) ∧ (f.bytes
      ≠ []) ∧ (isMacControl f.bytes = false) ∧ ((s.port p.val).beyond < 6) ∧ (s.cellFree < s.fld Reg.BUF_CFG Fld.BUF_CFG_ING_GUARD)) ∧
    (∃ (s : State) (p : Fin 512), (6 ≤ (s.port p.val).beyond)) ∧
    (∃ (s : State) (i : Fin 16), (Tbl.wf (fun _ => CellUse.free) s.buf.use = true)) :=
  ⟨⟨onPort 0 (fun x => { x with fifo := [inFrame [1]] }) sPort, 0, [], inFrame [1], [], by decide +kernel⟩,
   ⟨sUse (usedTo cellTotal), 0, [], { inFrame [1] with ended := true }, [], sUse_split (usedTo cellTotal), by decide, by decide, sUse_beyond (usedTo
     cellTotal), cellFree_used cellTotal (Nat.le_refl _)⟩,
   ⟨onPort 0 (fun x => { x with out := List.replicate 6 outFrame }) sPort, 0, by decide +kernel⟩,
   ⟨s0, 15, by decide +kernel⟩⟩

theorem witness_SliceFrames :
    (∃ (s : State) (p : Fin 512) (l : List IngFrame) (f : IngFrame) (r : List IngFrame), ((s.port p.val).fifo = l ++ f :: r) ∧ ((∀ g ∈ l, g.refused = true
      ∨ g.parsed ≠ none)) ∧ (f.refused = false) ∧ (f.parsed = none) ∧ (f.cells ≠ none) ∧ (f.ended = true ∨ 192 ≤ f.bytes.length)) ∧
    (∃ (s : State) (p : Fin 512) (f : IngFrame) (r : List IngFrame) (y : Parsed) (cells : List Nat), ((s.port p.val).fifo = f :: r) ∧ (f.parsed = some
      y) ∧ (f.cells = some cells) ∧ (f.ended = true) ∧ (s.down (unitSlice (sliceOf p.val)) = false) ∧ ((∀ pol < 256, s.flag (Reg.SLC_POL_CTL (sliceOf
      p.val) pol) Fld.SLC_POL_CTL_RED_DROP = false))) ∧
    (∃ (s : State) (p : Fin 512) (o : OutFrame) (r : List OutFrame), ((s.port p.val).out = o :: r) ∧ (o.flow = true) ∧ (s.down (unitSlice (sliceOf
      p.val)) = false) ∧ (s.shardFenced (o.h.toNat / 2 ^ 60) = false) ∧ (0 < s.credit (lnkDispatch (sliceOf p.val) (o.h.toNat / 2 ^ 60)))) ∧
    (∃ (s : State) (p : Fin 512) (o : OutFrame) (r : List OutFrame) (tt : Nat) (key : BitVec 320), ((s.port p.val).out = o :: r) ∧ (o.flow = false) ∧
      (o.fallback = false) ∧ (o.stage = .start) ∧ (s.down (unitSlice (sliceOf p.val)) = false) ∧ (sumGet o.parsed.summary sumMalformed = 0) ∧
      (o.parsed.key ≠ []) ∧ (s.toRouter (sliceOf p.val) o.parsed.hv = true) ∧ (routeKey o.parsed.hv o.parsed.summary = some (tt, key))) ∧
    (∃ (s : State) (p : Fin 512) (o : OutFrame) (r : List OutFrame), ((s.port p.val).out = o :: r) ∧ (o.flow = false) ∧ (o.fallback = false) ∧
      (o.stage = .start) ∧ (s.down (unitSlice (sliceOf p.val)) = false) ∧ (sumGet o.parsed.summary sumMalformed = 0) ∧ (s.toRouter (sliceOf p.val)
      o.parsed.hv = false) ∧ (s.perpktCredit p.val o (s.bridge p.val o).1 0 = true)) :=
  ⟨⟨onPort 0 (fun x => { x with fifo := [{ inFrame [1] with ended := true, cells := some [7] }] }) sPort, 0, [],
     { inFrame [1] with ended := true, cells := some [7] }, [], by decide +kernel⟩,
   ⟨onPort 0 (fun x => { x with fifo := [{ inFrame [1] with ended := true, cells := some [7], parsed := some noParse }] }) sPort, 0,
     { inFrame [1] with ended := true, cells := some [7], parsed := some noParse }, [], noParse, [7], by decide +kernel⟩,
   ⟨upLink (lnkDispatch 0 15) 1 (onPort 0 (fun x => { x with out := [{ outFrame with flow := true, h := BitVec.ofNat 64 (15 * 2 ^ 60) }] }) sPort), 0,
     { outFrame with flow := true, h := BitVec.ofNat 64 (15 * 2 ^ 60) }, [], by decide +kernel⟩,
   ⟨onPort 0 (fun x => { x with out := [routedFrame] }) (up [(Reg.SLC_RMAC 0 0, Fld.SLC_RMAC_VALID, 1)] sPort), 0, routedFrame, [], 0, BitVec.ofNat
     320 (0x05060708 * 2 ^ 32), by decide +kernel⟩,
   ⟨forEach [0, 1, 2, 3] (fun q t => upLink (lnkRelease 16 q) 1 t) (onPort 0 (fun x =>
     { x with out := [{ outFrame with parsed := { noParse with hv := [1] } }] }) sPort), 0, { outFrame with parsed := { noParse with hv := [1] } },
     [], by decide +kernel⟩⟩

theorem witness_MacTables :
    (∃ (s : State) (i : Nat) (e : LearnEvent) (r : List LearnEvent), (s.nextLearner = some i) ∧ (Tbl.get [] s.slice.learn i = e :: r)) ∧
    (∃ (s : State) (q : Fin 4) (v : LearnEvent) (r : List LearnEvent) (i : Nat), (Tbl.get [] s.slice.learners q.val = v :: r) ∧ (s.macFind q.val v.bd
      v.mac = some i) ∧ ((s.mac q.val i).port = v.port)) ∧
    (∃ (s : State) (q : Fin 4) (v : LearnEvent) (r : List LearnEvent) (w : Nat), (Tbl.get [] s.slice.learners q.val = v :: r) ∧ (s.macFind q.val v.bd
      v.mac = none) ∧ (w < 8) ∧ ((s.mac q.val (8 * s.macBucket q.val v.bd v.mac + w)).valid = false) ∧ ((∀ k, k < w → (s.mac q.val (8 * s.macBucket
      q.val v.bd v.mac + k)).valid = true))) ∧
    (∃ (s : State) (q : Fin 4) (j : Nat), (j / 8 = Tbl.get 0 s.slice.walker q.val) ∧ (Tbl.get none s.slice.flush q.val = none) ∧ (s.flag
      (Reg.SLC_MAC_CTL (4 * q.val)) Fld.SLC_MAC_CTL_AGE_MODE = false) ∧ ((s.mac q.val j).valid = true) ∧ ((s.mac q.val j).static_ = false) ∧ (s.fld
      (Reg.SLC_MAC_AGE (4 * q.val)) Fld.SLC_MAC_AGE_LIMIT ≤ (timeCt s.clk.mono + 2 ^ 32 - (s.mac q.val j).lastSeen) % 2 ^ 32)) ∧
    (∃ (s : State) (q : Fin 4) (i : Fin 524288), (s.macBusy q.val = false)) ∧
    (∃ (s : State) (q : Fin 4) (i : Fin 524288), (s.macBusy q.val = false) ∧ (s.macDuplicate q.val i.val (MacEntry.decode (s.macData q.val)) = false))
      ∧
    (∃ (s : State) (q : Fin 4) (i : Nat), (s.macBusy q.val = false) ∧ (s.macFind q.val (MacEntry.decode (s.macData q.val)).bd (MacEntry.decode
      (s.macData q.val)).mac = some i)) ∧
    (∃ (s : State) (q f : Fin 4) (port : Fin 512) (bd : Fin 4096), (s.macBusy q.val = false)) :=
  ⟨⟨onSlice (fun x => { x with learn := [(15, [learned])] }) s0, 15, learned, [], by decide +kernel⟩,
   ⟨onSlice (fun x =>
     { x with learners := [(0, [learned])], macs := [(8 * s0.macBucket 0 1 2, { MacEntry.init with mac := 2, bd := 1, valid := true, port := 3 })] })
     s0, 0, learned, [], 8 * s0.macBucket 0 1 2, by decide +kernel⟩,
   ⟨onSlice (fun x => { x with learners := [(3, [learned])] }) s0, 3, learned, [], 0, by decide +kernel⟩,
   ⟨up [(Reg.SLC_MAC_AGE 0, Fld.SLC_MAC_AGE_LIMIT, 1)] (atMono (2 ^ 40) (s0.setMac 0 5 { MacEntry.init with valid := true })), 0, 5,
     by decide +kernel⟩,
   ⟨onSlice (fun x => { x with macs := [(524287, { MacEntry.init with mac := 2, bd := 1, valid := true, static_ := true })] }) s0, 0, 524287,
     by decide +kernel⟩,
   ⟨up [(Reg.SLC_MAC_DATA0 4, ⟨0, 64⟩, 2 ^ 60 + 77), (Reg.SLC_MAC_DATA1 4, ⟨0, 64⟩, 12345)] s0, 1, 524287, by decide +kernel⟩,
   ⟨onSlice (fun x => { x with macs := [(8 * s0.macBucket 0 0 0, { MacEntry.init with valid := true, port := 3 })] }) s0, 0, 8 * s0.macBucket 0 0 0,
     by decide +kernel⟩,
   ⟨s0, 3, 3, 511, 4095, by decide +kernel⟩⟩

theorem witness_TumblerSearches :
    (∃ (s : State) (q : Fin 4) (r : Nat) (x : SearchReq) (rest : List SearchReq) (p : Nat) (o : OutFrame) (l : List OutFrame), (s.nextSearcher q.val =
      some r) ∧ (Tbl.get [] s.tmb.searches (8 * q.val + r) = x :: rest) ∧ (x.client = .slice p) ∧ ((s.port p).out = o :: l) ∧ (o.stage = .waitRoute) ∧
      (x.table < 16) ∧ (s.down (unitTumbler q.val) = false)) ∧
    (∃ (s : State) (q : Fin 4) (r : Nat) (x : SearchReq) (rest : List SearchReq) (p : Nat) (o : OutFrame) (l : List OutFrame), (s.nextSearcher q.val =
      some r) ∧ (Tbl.get [] s.tmb.searches (8 * q.val + r) = x :: rest) ∧ (x.client = .slice p) ∧ ((s.port p).out = o :: l) ∧ (o.stage = .waitRoute) ∧
      (s.down (unitTumbler q.val) = true)) ∧
    (∃ (s : State) (q : Fin 4), (s.flag (Reg.TMB_CTL q.val) Fld.TMB_CTL_SCRUB_EN = true) ∧ (s.down (unitTumbler q.val) = false)) ∧
    (∃ (s : State) (q : Fin 4), (s.flag (Reg.TMB_CTL q.val) Fld.TMB_CTL_SCRUB_EN = true) ∧ (s.down (unitTumbler q.val) = false)) :=
  ⟨⟨onPort 0 (fun x => { x with out := [{ outFrame with stage := .waitRoute }] }) (onTmb (fun x => { x with searches := [(8, [⟨15, 0, 0, .slice 0⟩])] })
     s0), 1, 0, ⟨15, 0, 0, .slice 0⟩, [], 0, { outFrame with stage := .waitRoute }, [], by decide +kernel⟩,
   ⟨up [(Reg.FLT_UNIT (unitTumbler 1), Fld.FLT_UNIT_STATE, 1)] (onPort 0 (fun x => { x with out := [{ outFrame with stage := .waitRoute }] }) (onTmb
     (fun x => { x with searches := [(8, [⟨15, 0, 0, .slice 0⟩])] }) s0)), 1, 0, ⟨15, 0, 0, .slice 0⟩, [], 0, { outFrame with stage := .waitRoute },
     [], by decide +kernel⟩,
   ⟨up [(Reg.TMB_CTL 3, Fld.TMB_CTL_SCRUB_EN, 1)] s0, 3, by decide +kernel⟩,
   ⟨up [(Reg.TMB_CTL 3, Fld.TMB_CTL_SCRUB_EN, 1)] s0, 3, by decide +kernel⟩⟩

theorem witness_TumblerEntryCommands :
    (∃ (s : State) (q : Fin 4) (t' : Fin 16) (i : Fin 262144), (s.tmbCheck q.val 1 t'.val i.val = none)) ∧
    (∃ (s : State) (q : Fin 4) (t' : Fin 16) (i : Fin 262144) (target hole : Nat), (s.tmbCheck q.val 2 t'.val i.val = none) ∧ (s.placeFor q.val t'.val
      i.val = some (target, hole))) ∧
    (∃ (s : State) (q : Fin 4) (x : TmbInsert), (s.insert q.val = some x) ∧ (s.pathHole q.val (s.tmbWidth q.val x.table) x = x.hole) ∧ (x.target <
      x.hole) ∧ (s.tmbWidth q.val x.table ≤ x.hole)) ∧
    (∃ (s : State) (q : Fin 4) (x : TmbInsert), (s.insert q.val = some x) ∧ (x.hole = x.target)) ∧
    (∃ (s : State) (q : Fin 4) (t' : Fin 16) (i : Fin 262144), (s.tmbCheck q.val 3 t'.val i.val = none)) ∧
    (∃ (s : State) (q : Fin 4) (t' : Fin 16) (i : Fin 262144), (s.tmbCheck q.val 4 t'.val i.val = none)) :=
  ⟨⟨tables 3 s0, 3, 15, 4095, by decide +kernel⟩,
   ⟨pendGen (tables 3 s0), 3, 15, 4095, 4095, 4095, by decide +kernel⟩,
   ⟨onTmb (fun x => { x with inserts := [(3, some ⟨15, 0, 1, 0, liveEntry⟩)], ents := [(tmbKey 3 0, liveEntry)] }) (tables 3 s0), 3, ⟨15, 0, 1, 0,
     liveEntry⟩, by decide +kernel⟩,
   ⟨pendGen (onTmb (fun x => { x with inserts := [(3, some ⟨15, 1, 1, 0, liveEntry⟩)], ents := [(tmbKey 3 0, liveEntry)] }) (tables 3 s0)), 3, ⟨15, 1,
     1, 0, liveEntry⟩, by decide +kernel⟩,
   ⟨pendGen (onTmb (fun x => { x with ents := [(tmbKey 3 4095, liveEntry)] }) (tables 3 s0)), 3, 15, 4095, by decide +kernel⟩,
   ⟨pendGen (onTmb (fun x => { x with ents := [(tmbKey 3 4095, liveEntry)] }) (tables 3 s0)), 3, 15, 4095, by decide +kernel⟩⟩

theorem witness_TumblerEntryRefusals :
    (∃ (s : State) (q : Fin 4) (t' : Fin 16) (i : Fin 262144) (op code : Nat) (c : Instr), (s.tmbBusy q.val = false) ∧ ((op, c) ∈ [(1, Instr.entRead q t'
      i), (2, .entInsert q t' i), (3, .entDelete q t' i), (4, .entRepair q t' i)]) ∧ (s.tmbCheck q.val op t'.val i.val = some code)) :=
  ⟨tables 3 s0, 3, 15, 4096, 1, 7, .entRead 3 15 4096, by decide +kernel⟩

theorem witness_TumblerGenerations :
    (∃ (s : State) (i : Nat), (s.genBusy = false) ∧ (s.genPending = false) ∧ (s.freeSlot = some i) ∧ (s.rebuilding = false)) ∧
    (∃ (s : State) (i : Nat), (s.tmb.run = .copying) ∧ (s.freeSlot = some i) ∧ (Tbl.wf (fun _ => TmbEntry.init) s.tmb.ents = true)) ∧
    (∃ (s : State), (s.genBusy = false) ∧ (s.genPending = true) ∧ (s.anyMove = false) ∧ (s.digestsAgree = true)) ∧
    (∃ (s : State), (s.tmb.run = .commitWait) ∧ (s.anyMove = false) ∧ (s.digestsAgree = true) ∧ (s.genCurSlot ≠ s.genPendSlot)) ∧
    (∃ (s : State), (s.genBusy = false) ∧ (s.genPending = true) ∧ (s.anyMove = false)) ∧
    (∃ (s : State), (s.tmb.run = .sweeping) ∧ (s.anyMove = false) ∧ (Tbl.wf (fun _ => TmbEntry.init) s.tmb.ents = true)) ∧
    (∃ (s : State) (i : Fin 4), (s.genState i.val = 2) ∧ (s.drainCount i.val = 0) ∧ (s.tmb.retiring.testBit i.val = false) ∧ (Tbl.wf (fun _ =>
      TmbEntry.init) s.tmb.ents = true)) ∧
    (∃ (s : State) (i : Fin 4), (s.tmb.retiring.testBit i.val = true)) :=
  ⟨⟨s0, 1, by decide +kernel⟩,
   ⟨up [(Reg.TMB_GEN_STATUS 0, Fld.TMB_GEN_STATUS_CUR_SLOT, 1)] (onTmb (fun x =>
     { x with run := .copying, ents := [(tmbKey 3 4095, { liveEntry with gens := 3#4 })] }) s0), 1, by decide +kernel⟩,
   ⟨pendGen s0, by decide +kernel⟩,
   ⟨onTmb (fun x => { x with run := .commitWait }) (pendGen s0), by decide +kernel⟩,
   ⟨pendGen s0, by decide +kernel⟩,
   ⟨onTmb (fun x => { x with run := .sweeping, ents := [(tmbKey 3 4095, liveEntry)] }) (pendGen s0), by decide +kernel⟩,
   ⟨up [(Reg.TMB_GEN_SLOT 0 3, Fld.TMB_GEN_SLOT_STATE, 2)] (onTmb (fun x => { x with ents := [(tmbKey 3 4095, { liveEntry with gens := 8#4 })] }) s0),
     3, by decide +kernel⟩,
   ⟨onTmb (fun x => { x with retiring := 8 }) s0, 3, by decide +kernel⟩⟩

theorem witness_RecordReads :
    (∃ (s : State) (h : Fin 16) (es : List Ecc) (op : HostOp) (x : Word64) (key : List Byte) (cls at_ : Nat) (q : List Waiter), (s.shardUp h.val = true) ∧
      ((s.shard h.val).entryWait = []) ∧ ((s.shard h.val).recPort = .host :: q) ∧ ((s.shard h.val).host = .run op x key cls at_) ∧ (op ≠ .flush) ∧
      ((op = .delete → s.dmcReady = true)) ∧ (s.openEntry h.val x = none) ∧ (s.tagMatches h.val x = []) ∧ (s.evicted h.val x key = none) ∧ (s.mayAlloc
      h.val = true)) ∧
    (∃ (s : State) (h : Fin 16) (es : List Ecc) (r T k : Nat) (it : Item) (q : List Waiter), (es.headD .ok = .ok) ∧ (s.shardUp h.val = true) ∧
      ((s.shard h.val).entryWait = []) ∧ ((s.shard h.val).recPort = .item r :: q) ∧ (s.threadOf h.val r = some T) ∧ ((s.thread h.val T).item = some
      it) ∧ (it.aging = false) ∧ (s.openEntry h.val it.h = none) ∧ (s.tagMatches h.val it.h = [k]) ∧ ((s.way h.val k).held = none) ∧ (recKey (s.way
      h.val k).words = pad40 it.key)) :=
  ⟨⟨upLink (lnkMiss 15) 1 (onShard 15 (fun x => { x with recPort := [.host], host := .run .lookup 5 [4] 63 0 }) s0), 15, [], .lookup, 5, [4], 63, 0, [],
     by decide +kernel⟩,
   ⟨onShard 15 (fun x =>
     { x with recPort := [.item 7], threads := [(511, { Thread.init with item := some item7 })], ways := [(8 * setOf 5, { Way.init with valid := true, h60 := 5, words := shortRec })] })
     s0, 15, [], 7, 511, 8 * setOf 5, item7, [], by decide +kernel⟩⟩

theorem witness_RecordEntries :
    (∃ (s : State) (h : Fin 16) (i : Nat) (es : List Ecc) (e : RecEntry), ((s.shard h.val).entries[i]? = some e) ∧ (e.stage = .fetch) ∧ (s.shardUp h.val =
      true) ∧ (s.dmcReady = true)) ∧
    (∃ (s : State) (h : Fin 16) (es : List Ecc) (i k : Nat) (e : RecEntry) (w : List Word64) (p : Place), ((∀ x ∈ es, x ≠ .uncorrectable)) ∧ ((s.shard
      h.val).entries[i]? = some e) ∧ (e.stage = .fetched .found w p false) ∧ (e.queue ≠ []) ∧ ((s.makeRoom h.val e.h (recLong w) es).1 = some k)) ∧
    (∃ (s : State) (h : Fin 16) (i : Nat) (e : RecEntry) (x : Word64) (key : List Byte) (cls at_ : Nat), ((s.shard h.val).entries[i]? = some e) ∧
      (e.stage = .ready .absent) ∧ (e.queue = [.host]) ∧ ((s.shard h.val).host = .run .lookup x key cls at_) ∧ (pad40 key = pad40 e.key)) ∧
    (∃ (s : State) (h : Fin 16) (i : Nat) (es : List Ecc) (e : RecEntry), ((s.shard h.val).entries[i]? = some e) ∧ (e.stage = .held) ∧ (e.queue = []))
      ∧
    (∃ (s : State) (h : Fin 16) (es : List Ecc) (i r k : Nat) (e : RecEntry) (q : List Waiter) (p : Parked), (es.headD .ok = .ok) ∧ ((s.shard
      h.val).entries[i]? = some e) ∧ (e.stage = .held) ∧ (e.queue = .item r :: q) ∧ (s.shardUp h.val = true) ∧ (s.threadOf h.val r = none) ∧
      (s.parkedOf h.val r = some p) ∧ (p.item.aging = false) ∧ (s.resumeRoom h.val = true) ∧ (s.tagMatches h.val p.item.h = [k]) ∧ (recKey (s.way
      h.val k).words = pad40 p.item.key) ∧ ((s.way h.val k).held = none)) ∧
    (∃ (s : State) (h : Fin 16) (x : Ecc) (e : Evicted) (q : List Evicted), ((s.shard h.val).evb = e :: q) ∧ (e.written = false) ∧ (e.reclaim = false)
      ∧ (s.dmcReady = true)) ∧
    (∃ (s : State) (h : Fin 16) (x : Ecc) (e : Evicted) (q : List Evicted) (a : LineAt) (l : Nat), ((s.shard h.val).evb = e :: q) ∧ (e.written =
      false) ∧ (s.dmcReady = true) ∧ (recLong (cleanWords e.words) = false) ∧ (8 ≤ (cleanWords e.words).length) ∧ (l = s.placeLine h.val (BitVec.ofNat
      64 (e.h60 + h.val * 2 ^ 60)) e.place 0) ∧ (s.locate l = some a) ∧ (s.rankDead a = false) ∧ (s.poisoned l = false)) :=
  ⟨⟨onShard 15 (fun x => { x with entries := [recEntry .fetch []] }) sMem, 15, 0, [], recEntry .fetch [], by decide +kernel⟩,
   ⟨onShard 15 (fun x => { x with entries := [recEntry (.fetched .found shortRec ⟨false, 9⟩ false) [.host]] }) sMem, 15, [], 0, 8 * setOf 5, recEntry
     (.fetched .found shortRec ⟨false, 9⟩ false) [.host], shortRec, ⟨false, 9⟩, by decide +kernel⟩,
   ⟨onShard 15 (fun x => { x with host := .run .lookup 5 [] 63 0, entries := [recEntry (.ready .absent) [.host]] }) sMem, 15, 0, recEntry (.ready
     .absent) [.host], 5, [], 63, 0, by decide +kernel⟩,
   ⟨onShard 15 (fun x => { x with entries := [recEntry .held []] }) sMem, 15, 0, [], recEntry .held [], by decide +kernel⟩,
   ⟨upLink (lnkFill 15) 1 (onShard 15 (fun x =>
     { x with entries := [recEntry .held [.item 7]], parked := [⟨item7, 3, none, false⟩], ways := [(8 * setOf 5, { Way.init with valid := true, h60 := 5, words := shortRec })] })
     sMem), 15, [], 0, 7, 8 * setOf 5, recEntry .held [.item 7], [], ⟨item7, 3, none, false⟩, by decide +kernel⟩,
   ⟨onShard 15 (fun x => { x with evb := [⟨5, shortRec, ⟨false, 9⟩, false, false, false⟩] }) sMem, 15, .ok, ⟨5, shortRec, ⟨false, 9⟩, false, false,
     false⟩, [], by decide +kernel⟩,
   ⟨onShard 15 (fun x => { x with evb := [⟨5, shortRec, ⟨false, 9⟩, false, false, false⟩] }) sMem, 15, .ok, ⟨5, shortRec, ⟨false, 9⟩, false, false,
     false⟩, [], (sMem.locate (sMem.placeLine 15 (BitVec.ofNat 64 (5 + 15 * 2 ^ 60)) ⟨false, 9⟩ 0)).getD ⟨0, 0, 0, 0⟩, sMem.placeLine 15 (BitVec.ofNat
     64 (5 + 15 * 2 ^ 60)) ⟨false, 9⟩ 0, by decide +kernel⟩⟩

theorem witness_SweeperSteps :
    (∃ (s : State) (h : Fin 16), ((s.shard h.val).sweep.running = false) ∧ (s.flag (Reg.HNK_CTL h.val) Fld.HNK_CTL_SWEEP_EN = true) ∧ (s.shardUp h.val =
      true)) ∧
    (∃ (s : State) (h : Fin 16), (sweepPeriod s h.val ≤ s.clk.mono - (s.shard h.val).sweep.lastPeriod) ∧ ((s.shard h.val).sweep.due = none)) ∧
    (∃ (s : State) (h : Fin 16) (e : Ecc), ((s.shard h.val).sweep.running = true) ∧ ((s.shard h.val).sweep.hotDone = false) ∧ (s.flag (Reg.HNK_CTL
      h.val) Fld.HNK_CTL_SWEEP_EN = true) ∧ (s.shardUp h.val = true) ∧ ((s.shard h.val).sweep.free = true) ∧ (s.dmcReady = true)) ∧
    (∃ (s : State) (h : Fin 16), ((s.shard h.val).sweep.running = true) ∧ ((s.shard h.val).sweep.hotDone = false) ∧ (s.flag (Reg.HNK_CTL h.val)
      Fld.HNK_CTL_SWEEP_EN = true) ∧ (s.shardUp h.val = true) ∧ ((s.way h.val (s.shard h.val).sweep.hot).valid = true) ∧ ((s.way h.val (s.shard
      h.val).sweep.hot).role ≠ .tail) ∧ (s.wayBusy h.val (s.shard h.val).sweep.hot = false) ∧ ((s.sweepRecord h.val (s.way h.val (s.shard
      h.val).sweep.hot).words).1 = true) ∧ (s.notifies h.val (recMeta (s.way h.val (s.shard h.val).sweep.hot).words mtClass) = false) ∧ (s.dmcReady =
      true)) ∧
    (∃ (s : State) (h : Fin 16) (e e2 : Ecc), ((s.shard h.val).sweep.running = true) ∧ ((s.shard h.val).sweep.dramDone = false) ∧ (s.flag (Reg.HNK_CTL
      h.val) Fld.HNK_CTL_SWEEP_EN = true) ∧ (s.shardUp h.val = true) ∧ (s.dmcReady = true) ∧ ((s.shard h.val).sweep.free = true) ∧ (s.mayAlloc h.val =
      true) ∧ (s.exportMay h.val (s.shard h.val).sweep.dram = true)) ∧
    (∃ (s : State) (h : Fin 16), ((s.shard h.val).sweep.running = true) ∧ ((s.shard h.val).sweep.hotDone = true) ∧ ((s.shard h.val).sweep.dramDone =
      true)) ∧
    (∃ (s : State) (h : Fin 16) (g : Word64) (key : List Byte), (s.shardUp h.val = true) ∧ ((s.shard h.val).sweep.waiting = some (g, key)) ∧ ((s.shard
      h.val).sweep.input = none)) :=
  ⟨⟨up [(Reg.HNK_CTL 15, Fld.HNK_CTL_SWEEP_EN, 1)] s0, 15, by decide +kernel⟩,
   ⟨atMono 80000000000 s0, 15, by decide +kernel⟩,
   ⟨up [(Reg.HNK_CTL 15, Fld.HNK_CTL_SWEEP_EN, 1)] (onShard 15 (fun x => { x with sweep := { x.sweep with running := true } }) s0), 15, .ok,
     by decide +kernel⟩,
   ⟨atMono (2 ^ 40) (up [(Reg.HNK_CTL 15, Fld.HNK_CTL_SWEEP_EN, 1)] (onShard 15 (fun x =>
     { x with sweep := { x.sweep with running := true, hot := 3 }, ways := [(3, { Way.init with valid := true, h60 := 5, words := shortRec })] })
     s0)), 15, by decide +kernel⟩,
   ⟨upLink (lnkMiss 15) 1 (up [(Reg.HNK_CTL 15, Fld.HNK_CTL_SWEEP_EN, 1)] (onShard 15 (fun x =>
     { x with sweep := { x.sweep with running := true, dram := 3 } }) sMem)), 15, .ok, .ok, by decide +kernel⟩,
   ⟨onShard 15 (fun x => { x with sweep := { x.sweep with running := true, hotDone := true, dramDone := true } }) s0, 15, by decide +kernel⟩,
   ⟨onShard 15 (fun x => { x with sweep := { x.sweep with waiting := some (5, [4]) } }) s0, 15, 5, [4], by decide +kernel⟩⟩

theorem witness_HostRecordCommands :
    (∃ (s : State) (h : Fin 16) (cls : Fin 64) (op : HostOp) (c : Instr), ((c, op) ∈ [(Instr.recLookup h cls, HostOp.lookup), (.recWrite h cls, .write),
      (.recDelete h cls, .delete), (.flushOne h cls, .flush)]) ∧ (s.flag (Reg.HNK_REC_CMD h.val) Fld.HNK_REC_CMD_BUSY = false) ∧ (s.shardUp h.val =
      true) ∧ (homeShard (s.hashKey (s.recKeyBytes h.val)) = h.val) ∧ ((vecByte (s.recKeyBytes h.val) 0 = 6 → s.classLong h.val cls.val = true))) ∧
    (∃ (s : State) (h : Fin 16) (cls : Fin 64) (c : Instr), (c ∈ [Instr.recLookup h cls, .recWrite h cls, .recDelete h cls, .flushOne h cls]) ∧
      (s.flag (Reg.HNK_REC_CMD h.val) Fld.HNK_REC_CMD_BUSY = true)) ∧
    (∃ (s : State) (h : Fin 16) (loc : Fin 67108864) (stash : Bool) (e : Ecc) (b : List Byte), (s.flag (Reg.HNK_REC_CMD h.val) Fld.HNK_REC_CMD_BUSY =
      false) ∧ (s.shardUp h.val = true) ∧ (s.dmcReady = true) ∧ (loc.val < (if stash then 65536 else 16 * 2 ^ s.bucketBits h.val)) ∧ ((s.dramRead
      ((s.reg (if stash then Reg.HNK_STASH_BASE h.val else Reg.HNK_REC_BASE h.val)).toNat / 64 + loc.val) true e).1 = some b)) ∧
    (∃ (s : State) (h : Fin 16) (loc : Fin 67108864) (stash : Bool) (e : Ecc), (s.flag (Reg.HNK_REC_CMD h.val) Fld.HNK_REC_CMD_BUSY = false) ∧
      (s.shardUp h.val = true) ∧ (s.dmcReady = true) ∧ ((if stash then 65536 else 16 * 2 ^ s.bucketBits h.val) ≤ loc.val)) :=
  ⟨⟨s0, homeFin, 63, .flush, .flushOne homeFin 63, by decide +kernel⟩,
   ⟨up [(Reg.HNK_REC_CMD 15, Fld.HNK_REC_CMD_BUSY, 1)] s0, 15, 63, .recLookup 15 63, by decide +kernel⟩,
   ⟨up [(Reg.HNK_CFG 15, Fld.HNK_CFG_BUCKET_BITS, 4)] sMem, 15, 255, false, .ok, List.replicate 64 0, by decide +kernel⟩,
   ⟨up [(Reg.HNK_CFG 15, Fld.HNK_CFG_BUCKET_BITS, 4)] sMem, 15, 256, false, .ok, by decide +kernel⟩⟩

theorem witness_FlushCleansTheHotTier :
    (∃ (s : State) (h : Fin 16) (i : Nat) (e : Ecc), ((∀ v ∈ (s.shard h.val).evb, v.written = true)) ∧ (s.flushNext h.val = some i) ∧ (s.dmcReady = true)
      ∧ (e ≠ .uncorrectable) ∧ ((s.way h.val i).valid = true) ∧ ((s.way h.val i).role ≠ .tail)) :=
  ⟨onShard 15 (fun x => { x with flush := [3], ways := [(3, { Way.init with valid := true, h60 := 5, words := shortRec.map (fun w => w ||| 1) })] })
     sMem, 15, 3, .ok, by decide +kernel⟩

theorem witness_SchedulerSteps :
    (∃ (s : State) (h : Fin 16) (i : Nat) (it : Item), (s.shardUp h.val = true) ∧ (i < 17) ∧ (s.inputHead h.val i = some it) ∧ ((∀ j, j < 17 → j ≠ i →
      s.inputHead h.val j = none)) ∧ (it.aging = false) ∧ (s.inputLacks h.val it = none) ∧ (s.clk.mono < it.tsMono + s.fld (Reg.SCH_CLASS h.val
      it.cls) Fld.SCH_CLASS_BUDGET)) ∧
    (∃ (s : State) (h : Fin 16) (e : Ecc) (it : Item) (T : Nat), (s.shardUp h.val = true) ∧ (earliest ((s.shard h.val).ready ++ s.resumeItems h.val) =
      some it) ∧ (s.chooseThread h.val = some T) ∧ (s.parkedOf h.val it.rank = none)) ∧
    (∃ (s : State) (h : Fin 16) (it : Item), (s.shardUp h.val = true) ∧ (earliest ((s.liveItems h.val).filter (fun x => decide (x.deadline ≤
      s.clk.mono) && !s.complete h.val x && !s.expiryHeld h.val x)) = some it) ∧ (s.parkedOf h.val it.rank = none) ∧ (s.threadOf h.val it.rank = none)
      ∧ (it.aging = false)) ∧
    (∃ (s : State) (h : Fin 16) (T : Fin 512) (since ptr : Nat) (it : Item), (s.shardUp h.val = true) ∧ (((s.thread h.val T.val).read = .park since ∧
      since + 32 ≤ s.clk.mono ∨ (s.thread h.val T.val).read = .poolWait)) ∧ ((s.thread h.val T.val).item = some it) ∧ ((s.poolAlloc h.val 1).1 =
      .granted ptr)) ∧
    (∃ (s : State) (h : Fin 16) (p : Parked), ((s.shard h.val).parked.find? (fun p => p.outcome.isSome && !p.queued) = some p)) ∧
    (∃ (s : State) (h : Fin 16) (e : RoEntry), (s.shardUp h.val = true) ∧ (s.releasable h.val = some e) ∧ (s.releasePlan h.val e = some (.free
      false))) ∧
    (∃ (s : State) (h : Fin 16) (e : RoEntry), (s.shardUp h.val = true) ∧ (s.fbBusy h.val = false) ∧ (s.fbWork h.val = some e) ∧ (e.stage = .none) ∧
      (routeKey e.item.hv e.item.summary = none)) ∧
    (∃ (s : State) (h : Fin 16) (e : RoEntry) (tb : Nat) (key : BitVec 320), (s.shardUp h.val = true) ∧ (s.fbBusy h.val = false) ∧ (s.fbWork h.val =
      some e) ∧ (e.stage = .none) ∧ (routeKey e.item.hv e.item.summary = some (tb, key))) ∧
    (∃ (s : State) (h : Fin 16) (g : Fin 65536), (g.val < 2 ^ s.bucketBits h.val)) ∧
    (∃ (s : State) (h : Fin 16) (g : Fin 65536), (2 ^ s.bucketBits h.val ≤ g.val)) :=
  ⟨⟨upLink (lnkReady 15) 1 (up [(Reg.SCH_CLASS 15 0, Fld.SCH_CLASS_BUDGET, 1)] (onShard 15 (fun x => { x with inputs := [(3, [item7])] }) s0)), 15, 3,
     item7, by decide +kernel⟩,
   ⟨onShard 15 (fun x => { x with ready := [item7] }) s0, 15, .ok, item7, 0, by decide +kernel⟩,
   ⟨atMono 100 (onShard 15 (fun x => { x with ready := [item7], groups := [(0, { Group.init with nextSeq := 1, entries := [waitEntry] })] }) s0), 15,
     item7, by decide +kernel⟩,
   ⟨(onShard 15 (fun x => { x with threads := [(511, { Thread.init with item := some item7, read := .park 0 })] }) (atMono 32 (pool1 3 s0))), 15, 511,
     0, 16777216, item7, by decide +kernel⟩,
   ⟨onShard 15 (fun x => { x with parked := [⟨item7, 3, some .found, false⟩] }) s0, 15, ⟨item7, 3, some .found, false⟩, by decide +kernel⟩,
   ⟨onShard 15 (fun x => { x with groups := [(0, { Group.init with nextSeq := 1, entries := [dropEntry] })] }) s0, 15, dropEntry, by decide +kernel⟩,
   ⟨onShard 15 (fun x => { x with groups := [(0, { Group.init with nextSeq := 1, entries := [routeEntry] })] }) s0, 15, routeEntry,
     by decide +kernel⟩,
   ⟨onShard 15 (fun x => { x with groups := [(0, { Group.init with nextSeq := 1, entries := [routeEntry4] })] }) s0, 15, routeEntry4, 0, BitVec.ofNat
     320 (0x05060708 * 2 ^ 32), by decide +kernel⟩,
   ⟨up [(Reg.HNK_CFG 15, Fld.HNK_CFG_BUCKET_BITS, 4)] (onShard 15 (fun x =>
     { x with groups := [(0, { Group.init with nextSeq := 1, entries := [dropEntry] })] }) s0), 15, 0, by decide +kernel⟩,
   ⟨up [(Reg.HNK_CFG 15, Fld.HNK_CFG_BUCKET_BITS, 4)] s0, 15, 16, by decide +kernel⟩⟩

theorem witness_ArithmeticMicrowords :
    (∃ (s : State) (h : Fin 16) (T : Fin 512) (c : McCheck) (f imm : Nat) (x : Thread), (x = s.thread h.val T.val) ∧ (f < 65536) ∧ (1 ≤ f / 4096) ∧ (imm <
      2 ^ 32) ∧ (c = .ok ∨ c = .corrected) ∧ (s.mayIssue h.val T.val = true) ∧ (s.atBreakpoint h.val T.val = false) ∧ (x.armed = false) ∧ (x.stepping
      = false) ∧ (x.pc + 1 < 16384) ∧ (s.stdAt x.pc = none) ∧ (Tbl.get 0 (s.shard h.val).store x.pc = BitVec.ofNat 192 (f * 2 ^ 144 + imm * 2 ^ 32))) :=
  ⟨onShard 15 (fun x => { x with store := [(0, BitVec.ofNat 192 (0x112F * 2 ^ 144 + 7 * 2 ^ 32))] }) (onShard 15 (fun x =>
     { x with threads := [(511, { Thread.init with item := some item7 })] }) s0), 15, 511, .corrected, 0x112F, 7,
     { Thread.init with item := some item7 }, by decide +kernel⟩

theorem witness_ThreadCompletions :
    (∃ (s : State) (h : Fin 16) (T : Fin 512) (it : Item) (i : Nat) (x : Thread), (x = s.thread h.val T.val) ∧ (x.read = .done .found) ∧ (x.item = some
      it) ∧ (s.heldWay h.val (.item it.rank) = some i) ∧ (x.abort = none) ∧ (x.ending = false) ∧ (x.haltReq = none)) ∧
    (∃ (s : State) (h : Fin 16) (T : Fin 512) (ok : Bool) (l : List Word64) (x : Thread), (x = s.thread h.val T.val) ∧ (x.auxSt = .answered none ok
      (some l)) ∧ (x.abort = none) ∧ (x.ending = false) ∧ (x.haltReq = none)) ∧
    (∃ (s : State) (h : Fin 16) (l : Fin 4096) (T : Nat) (q : List Nat) (x : Thread), (s.lock h.val l.val = { owner := none, queue := T :: q }) ∧ (x =
      s.thread h.val T) ∧ (x.halted = false) ∧ (x.abort = none) ∧ (x.ending = false) ∧ (x.haltReq = none)) ∧
    (∃ (s : State) (h : Fin 16) (l : Fin 4096) (T : Nat) (q : List Nat) (x : Thread), (s.lock h.val l.val = { owner := none, queue := T :: q }) ∧ (x =
      s.thread h.val T) ∧ (x.halted = true) ∧ (x.due = none)) ∧
    (∃ (s : State) (h : Fin 16) (T : Fin 512) (x : Thread), (x = s.thread h.val T.val) ∧ (x.armed = true) ∧ (x.cmp ≤ s.clk.mono) ∧ (x.sleep = .timer)
      ∧ (x.halted = false) ∧ (x.abort = none) ∧ (x.ending = false) ∧ (x.haltReq = none)) ∧
    (∃ (s : State) (h : Fin 16) (T : Fin 512) (m : Nat) (v : Word64) (x : Thread), (x = s.thread h.val T.val) ∧ (x.sleep = .event m v) ∧ (s.eventCount
      h.val m ≠ v) ∧ (x.halted = false) ∧ (x.abort = none) ∧ (x.ending = false) ∧ (x.haltReq = none)) ∧
    (∃ (s : State) (h : Fin 16) (e : Fin 32), (s.shardUp h.val = true) ∧ (4096 ≤ s.stuckCycles h.val e.val) ∧ ((∀ i : Fin 16, (s.thread h.val (16 *
      e.val + i.val)).ending = false ∧ (s.thread h.val (16 * e.val + i.val)).haltReq = none))) ∧
    (∃ (s : State) (h : Fin 16) (l : Fin 4096) (T : Nat), ((s.lock h.val l.val).owner = some T) ∧ (T < 512)) ∧
    (∃ (s : State) (h : Fin 16) (l : Fin 4096), ((s.lock h.val l.val).owner = none)) :=
  ⟨⟨onShard 15 (fun x => { x with ways := [(3, { Way.init with valid := true, h60 := 5, words := shortRec, held := some (.item 7) })] }) (onShard 15
     (fun x => { x with threads := [(511, { Thread.init with item := some item7, read := .done .found })] }) s0), 15, 511, item7, 3,
     { Thread.init with item := some item7, read := .done .found }, by decide +kernel⟩,
   ⟨(onShard 15 (fun x => { x with threads := [(511, { Thread.init with auxSt := .answered none false (some [1, 2, 3, 4, 5, 6, 7, 8]) })] }) s0), 15,
     511, false, [1, 2, 3, 4, 5, 6, 7, 8], { Thread.init with auxSt := .answered none false (some [1, 2, 3, 4, 5, 6, 7, 8]) }, by decide +kernel⟩,
   ⟨onShard 15 (fun x => { x with locks := [(4095, { owner := none, queue := [511] })] }) (onShard 15 (fun x =>
     { x with threads := [(511, { Thread.init with sleep := .lock 4095 })] }) s0), 15, 4095, 511, [], { Thread.init with sleep := .lock 4095 },
     by decide +kernel⟩,
   ⟨onShard 15 (fun x =>
     { x with locks := [(7, { owner := none, queue := [511] })], threads := [(511, { Thread.init with halted := true, item := some item7 })] }) s0,
     15, 7, 511, [], { Thread.init with halted := true, item := some item7 }, by decide +kernel⟩,
   ⟨(onShard 15 (fun x => { x with threads := [(511, { Thread.init with armed := true, sleep := .timer })] }) s0), 15, 511,
     { Thread.init with armed := true, sleep := .timer }, by decide +kernel⟩,
   ⟨(onShard 15 (fun x => { x with threads := [(511, { Thread.init with sleep := .event 1023 5 })] }) s0), 15, 511, 1023, 5,
     { Thread.init with sleep := .event 1023 5 }, by decide +kernel⟩,
   ⟨atMono 2048 (onShard 15 (fun x =>
     { x with threads := (List.range 16).map (fun i => (496 + i, { Thread.init with item := some item7, sleep := .event 3 0 })) }) s0), 15, 31,
     by decide +kernel⟩,
   ⟨onShard 15 (fun x => { x with locks := [(4095, { owner := some 511, queue := [3] })] }) s0, 15, 4095, 511, by decide +kernel⟩,
   ⟨s0, 15, 7, by decide +kernel⟩⟩

theorem witness_StandardPrograms :
    (∃ (s : State) (h : Fin 16) (t : Fin 512) (it : Item) (p : StdProg) (x : Thread), (x = (s.thread h.val t.val).fire s.clk.mono) ∧ (s.mayIssue h.val
      t.val = true) ∧ (s.atBreakpoint h.val t.val = false) ∧ (x.item = some it) ∧ (s.stdAt x.pc = some p) ∧ (x.pc < 16384) ∧ (x.std = []) ∧
      (x.readUsed = false) ∧ (0 < s.credit (lnkRecord h.val)) ∧ (s.excOf h.val it x (StdAct.read.word x.pc) = none)) ∧
    (∃ (st flags : Nat) (p : Seen), (1 ≤ st) ∧ (st ≤ 12)) ∧
    (∃ (s j : Nat), (s < 16) ∧ (j < 4032)) ∧
    (∃ (a b s u i j : Nat), (s < 16) ∧ (u < 16) ∧ (i < 4032) ∧ (j < 4032) ∧ (mapLine a s i = mapLine b u j) ∧ (i % 2 = j % 2)) ∧
    (∃ (a b s u m n : Nat), (s < 16) ∧ (u < 16) ∧ (m < 8) ∧ (n < 8) ∧ (bitmapLine a s m = bitmapLine b u n)) ∧
    (∃ (l : List Word64) (i k : Nat) (v : Bool), (l.length = 8) ∧ (i < 512) ∧ (k < 512)) ∧
    (∃ (l : List Word64) (i j : Nat) (e : MapEntry), (l.length = 8) ∧ (i % 2 ≠ j % 2) ∧ (e.privAddr < 2 ^ 32) ∧ (e.privPort < 65536) ∧ (e.zone <
      65536) ∧ (e.remAddr < 2 ^ 32) ∧ (e.remPort < 65536) ∧ (e.stamp < 65536) ∧ (e.proto < 256) ∧ (e.time < 2 ^ 32)) ∧
    (∃ (f : StdFlow) (x : Nat × Nat × Nat), (f.dropped = false) ∧ (x.1 < 2 ^ 40) ∧ (x.2.1 < 2 ^ 48)) :=
  ⟨⟨stdRun, 15, 511, item7, .count, (stdRun.thread 15 511).fire stdRun.clk.mono, by decide +kernel⟩,
   ⟨5, 0, { tcp := true, udp := false, echo := false, echoReply := false, syn := false, ack := false, fin := false, rst := true, orig := true },
     by decide +kernel⟩,
   ⟨15, 4031, by decide +kernel⟩,
   ⟨0, 0, 15, 15, 4031, 4031, by decide +kernel⟩,
   ⟨0, 0, 15, 15, 7, 7, by decide +kernel⟩,
   ⟨List.replicate 8 0, 511, 0, true, by decide +kernel⟩,
   ⟨List.replicate 8 0, 0, 1,
     { privAddr := 1, privPort := 65535, zone := 3, remAddr := 4, remPort := 5, stamp := 6, allocated := true, proto := 17, time := 8 },
     by decide +kernel⟩,
   ⟨stdFlow0, (2 ^ 40 - 1, 2 ^ 48 - 1, 0), by decide +kernel⟩⟩

theorem witness_DebugCommands :
    (∃ (s : State) (h : Fin 16) (T : Fin 512) (x : Thread), (Tbl.wf (fun _ => Thread.init) (s.shard h.val).threads = true) ∧ (x = s.thread h.val T.val) ∧
      (x.halted = false) ∧ (x.haltReq = none) ∧ (x.quiet = true) ∧ (x.abort = none) ∧ (x.ending = false)) ∧
    (∃ (s : State) (h : Fin 16) (T : Fin 512) (x : Thread), (Tbl.wf (fun _ => Thread.init) (s.shard h.val).threads = true) ∧ (x = s.thread h.val
      T.val) ∧ (x.halted = true) ∧ (x.due = none) ∧ (x.abort = none) ∧ (x.ending = false) ∧ (x.haltReq = none)) ∧
    (∃ (s : State) (h : Fin 16) (T : Fin 512) (x : Thread), (Tbl.wf (fun _ => Thread.init) (s.shard h.val).threads = true) ∧ (x = s.thread h.val
      T.val) ∧ (x.halted = true) ∧ (x.due = some .granted) ∧ (x.abort = none) ∧ (x.ending = false) ∧ (x.haltReq = none)) ∧
    (∃ (s : State) (h : Fin 16) (T : Fin 512) (x : Thread), (Tbl.wf (fun _ => Thread.init) (s.shard h.val).threads = true) ∧ (x = s.thread h.val
      T.val) ∧ (s.shardUp h.val = true) ∧ (x.halted = true) ∧ (x.item.isSome = true) ∧ (x.quiet = true) ∧ (x.sleep = .awake) ∧ (x.ending = false) ∧
      (x.haltReq = none) ∧ (x.abort = none) ∧ (x.due = none) ∧ (x.pc + 1 < 16384) ∧ (s.stdAt x.pc = none) ∧ (Tbl.get 0 (s.shard h.val).store x.pc =
      0)) ∧
    (∃ (s : State) (h : Fin 16) (T : Fin 512) (x : Thread), (Tbl.wf (fun _ => Thread.init) (s.shard h.val).threads = true) ∧ (x = s.thread h.val
      T.val) ∧ (x.halted = true) ∧ (x.item.isSome = true) ∧ (x.haltReq = none)) ∧
    (∃ (s : State) (h : Fin 16) (T : Fin 512), ((s.thread h.val T.val).halted = true)) ∧
    (∃ (s : State) (h : Fin 16) (T : Fin 512) (g : Fin 16) (x : Thread), (x = s.thread h.val T.val) ∧ (x.halted = true)) ∧
    (∃ (s : State) (h : Fin 16) (T : Fin 512) (g : Fin 16) (c : Instr), (c ∈ [Instr.resume h T, .step h T .ok, .debugAbort h T, .readCtx h T, .writeG
      h T g]) ∧ ((s.thread h.val T.val).halted = false)) :=
  ⟨⟨s0, 15, 511, Thread.init, by decide +kernel⟩,
   ⟨(onShard 15 (fun x => { x with threads := [(511, { Thread.init with halted := true, item := some item7 })] }) s0), 15, 511,
     { Thread.init with halted := true, item := some item7 }, by decide +kernel⟩,
   ⟨(onShard 15 (fun x =>
     { x with threads := [(511, { Thread.init with halted := true, item := some item7, sleep := .lock 7, due := some .granted })] }) s0), 15, 511,
     { Thread.init with halted := true, item := some item7, sleep := .lock 7, due := some .granted }, by decide +kernel⟩,
   ⟨(onShard 15 (fun x => { x with threads := [(511, { Thread.init with halted := true, item := some item7 })] }) s0), 15, 511,
     { Thread.init with halted := true, item := some item7 }, by decide +kernel⟩,
   ⟨(onShard 15 (fun x => { x with threads := [(511, { Thread.init with halted := true, item := some item7 })] }) s0), 15, 511,
     { Thread.init with halted := true, item := some item7 }, by decide +kernel⟩,
   ⟨(onShard 15 (fun x => { x with threads := [(511, { Thread.init with halted := true, item := some item7 })] }) s0), 15, 511, by decide +kernel⟩,
   ⟨up [(Reg.FAE_DBG_DATA 15, ⟨0, 64⟩, 99)] (onShard 15 (fun x => { x with threads := [(511, { Thread.init with halted := true })] }) s0), 15, 511,
     15, { Thread.init with halted := true }, by decide +kernel⟩,
   ⟨s0, 15, 511, 15, .readCtx 15 511, by decide +kernel⟩⟩

theorem witness_DramQueues :
    (∃ (s : State) (c : Fin 12) (k : Fin 2) (r : DmcReq) (a : LineAt), (s.nextReq c.val k.val = some r) ∧ (s.dmcReady = true) ∧ (s.locate r.line = some a)
      ∧ (r.op = .read) ∧ (s.rankDead a = false) ∧ (s.poisoned r.line = false) ∧ ((s.sub c.val k.val).writeQ.contains r.line = false)) ∧
    (∃ (s : State) (c : Fin 12) (k : Fin 2) (r : DmcReq) (a : LineAt) (b : List Byte), (s.nextReq c.val k.val = some r) ∧ (s.dmcReady = true) ∧
      (s.locate r.line = some a) ∧ (r.op = .write b) ∧ (r.mirror = none) ∧ (s.rankDead a = false) ∧ (s.poisoned r.line = false)) ∧
    (∃ (s : State) (c : Fin 12) (k : Fin 2) (i : Nat) (r : DmcReq) (a : LineAt) (cas : Option Nat), ((s.sub c.val k.val).readQ[i]? = some r) ∧
      (s.locate r.line = some a) ∧ ((s.sub c.val k.val).draining = false) ∧ (s.firstInBank (s.sub c.val k.val).readQ i = true) ∧ (s.dram.freq ≠
      .selfRefresh) ∧ (s.refreshFirst a = false) ∧ ((s.thread (r.thread / 512) (r.thread % 512)).auxSt = .waiting cas)) ∧
    (∃ (s : State) (c : Fin 12) (k : Fin 2) (i : Nat), (i < (s.sub c.val k.val).writeQ.length) ∧ ((s.sub c.val k.val).draining = true ∨ (s.sub c.val
      k.val).readQ = []) ∧ ((s.sub c.val k.val).readQ.any (fun r => (s.sub c.val k.val).writeQ[i]? == some r.line) = false) ∧ (s.dram.freq ≠
      .selfRefresh) ∧ ((∀ l a, (s.sub c.val k.val).writeQ[i]? = some l → s.locate l = some a → s.refreshFirst a = false))) ∧
    (∃ (s : State) (c : Fin 12) (k : Fin 2) (r : DmcReq) (a : LineAt) (w : Nat) (expect new : Word64), (s.nextCas c.val k.val = some r) ∧ (r.op = .cas
      w expect new) ∧ (w < 8) ∧ (r.mirror = none) ∧ (s.dmcReady = true) ∧ ((s.sub c.val k.val).readQ.any (fun x => x.line == r.line) = false) ∧
      (s.locate r.line = some a) ∧ (s.rankDead a = false) ∧ (s.poisoned r.line = false) ∧ ((wordsOf 8 (s.lineBytes r.line)).getD w 0 = expect) ∧
      ((s.thread (r.thread / 512) (r.thread % 512)).auxSt = .waiting (some w))) ∧
    (∃ (s : State) (c : Fin 12) (k : Fin 2) (b : Fin 128) (row m : Nat), (Tbl.get none (s.sub c.val k.val).rows b.val = some (row, m)) ∧ (s.tckTicks
      (s.fld (Reg.DMC_SCHED c.val) Fld.DMC_SCHED_IDLE_TCK) ≤ s.clk.mono - m)) :=
  ⟨⟨onSub 0 1 (fun x => { x with waiting := [readReq] }) sMem, 0, 1, readReq, ⟨0, 1, 0, 0⟩, by decide +kernel⟩,
   ⟨onSub 0 1 (fun x => { x with waiting := [{ readReq with op := .write (List.replicate 64 1) }] }) sMem, 0, 1,
     { readReq with op := .write (List.replicate 64 1) }, ⟨0, 1, 0, 0⟩, List.replicate 64 1, by decide +kernel⟩,
   ⟨onSub 0 1 (fun x => { x with readQ := [readReq] }) (onShard 15 (fun x =>
     { x with threads := [(511, { Thread.init with item := some item7, auxSt := .waiting none })] }) sMem), 0, 1, 0, readReq, ⟨0, 1, 0, 0⟩, none,
     by decide +kernel⟩,
   ⟨sWrite, 0, 1, 0, by decide +kernel, by decide +kernel, by decide +kernel, by decide +kernel, sWrite_refresh⟩,
   ⟨onSub 0 1 (fun x => { x with waiting := [casReq] }) (onShard 15 (fun x =>
     { x with threads := [(511, { Thread.init with item := some item7, auxSt := .waiting (some 7) })] }) sMem), 0, 1, casReq, ⟨0, 1, 0, 0⟩, 7, 0, 9,
     by decide +kernel⟩,
   ⟨atMono 100000 (onSub 11 1 (fun x => { x with rows := [(127, some (3, 0))] }) s0), 11, 1, 127, 3, 0, by decide +kernel⟩⟩

theorem witness_DramUpkeep :
    (∃ (s : State) (c : Fin 12) (r : Fin 4), (r.val < s.ranks c.val) ∧ (s.dram.freq ≠ .selfRefresh) ∧ (s.refreshGap c.val r.val ≤ s.clk.mono - Tbl.get 0
      s.dram.refreshAt (4 * c.val + r.val))) ∧
    (∃ (s : State) (c : Fin 12) (r : Fin 4) (high : Bool), (r.val < s.ranks c.val)) ∧
    (∃ (s : State) (l failures : Nat) (a : LineAt), (s.locate l = some a) ∧ (0 < failures) ∧ (failures < 4) ∧ (s.rankMasked a = false)) ∧
    (∃ (s : State) (c : Fin 12) (k : Fin 2) (e : Ecc), (s.populated c.val = true) ∧ (s.flag (Reg.DMC_CTL c.val) Fld.DMC_CTL_SCRUB_EN = true) ∧
      (s.dmcReady = true) ∧ (s.space ≠ 0) ∧ (s.bgMay c.val k.val = true) ∧ ((s.fld (Reg.DMC_SCRUB c.val) Fld.DMC_SCRUB_INTERVAL_NS * 4 + 4) / 5 ≤
      s.clk.mono - (s.sub c.val k.val).scrubAt)) ∧
    (∃ (s : State) (c : Fin 12) (k : Fin 2) (e : Ecc), (s.migState c.val = 1) ∧ (s.dmcReady = true) ∧ ((s.sub c.val k.val).cursor < 2 ^ s.rlLog c.val)
      ∧ ((s.sub c.val k.val).writeQ.contains (s.migLine c.val k.val) = false) ∧ (s.bgMay c.val k.val = true)) ∧
    (∃ (s : State) (c : Fin 12) (k : Fin 2), (s.migState c.val = 2) ∧ (s.dmcReady = true) ∧ ((s.sub c.val k.val).cursor < 2 ^ s.rlLog c.val) ∧
      (s.bgMay c.val k.val = true)) ∧
    (∃ (s : State) (v : Fin 4), (s.freqError v.val (s.fld Reg.CST_ADM_MISS Fld.CST_ADM_MISS_DEMAND) = none)) ∧
    (∃ (s : State), (s.dram.freq = .draining) ∧ (s.dmcQuiet = true)) ∧
    (∃ (s : State), (s.dram.freq = .selfRefresh) ∧ (s.power.shutdown = false)) :=
  ⟨⟨atMono 100000000 sMem, 0, 0, by decide +kernel⟩,
   ⟨sMem, 0, 0, true, by decide +kernel⟩,
   ⟨sMem, 1, 3, ⟨0, 1, 0, 0⟩, by decide +kernel⟩,
   ⟨atMono 100000000 (up [(Reg.DMC_CTL 0, Fld.DMC_CTL_SCRUB_EN, 1)] sMem), 0, 1, .ok, by decide +kernel⟩,
   ⟨up [(Reg.DMC_MIG 0, Fld.DMC_MIG_STATE, 1)] sMem, 0, 1, .corrected, by decide +kernel⟩,
   ⟨up [(Reg.DMC_MIG 0, Fld.DMC_MIG_STATE, 2)] sMem, 0, 1, by decide +kernel⟩,
   ⟨up [(Reg.DMC_FREQ 0, Fld.DMC_FREQ_SPEED_MASK, 8)] sMem, 3, by decide +kernel⟩,
   ⟨{ sMem with dram := { sMem.dram with freq := .draining } }, by decide +kernel⟩,
   ⟨{ sMem with dram := { sMem.dram with freq := .selfRefresh, freqTo := 2 } }, by decide +kernel⟩⟩

theorem witness_BufferPools :
    (∃ (s : State) (r : Fin 23) (x : Nat), (s.flag Reg.BPM_STATUS Fld.BPM_STATUS_READY = true) ∧ (s.poolCount 1 ≠ 0) ∧ (s.down unitBpm = false) ∧
      ((s.cache (reqQuad r.val) 1).free.find? s.ptrOn = some x) ∧ (ptrPool x = 1) ∧ (s.askedBefore r.val 1 < s.cached (reqQuad r.val) 1)) ∧
    (∃ (s : State) (r : Fin 23) (i : Fin 16777216), (s.flag Reg.BPM_STATUS Fld.BPM_STATUS_READY = true) ∧ (s.down unitBpm = false) ∧ (s.cached
      (reqQuad r.val) 1 < 512) ∧ (i.val < s.poolCount 1) ∧ (Tbl.get 0 s.pools.meta1 i.val = 1 + 2 * r.val)) ∧
    (∃ (s : State) (r : Fin 23) (i : Fin 16777216), (s.flag Reg.BPM_STATUS Fld.BPM_STATUS_READY = true) ∧ (s.down unitBpm = false) ∧ (s.cached
      (reqQuad r.val) 1 < 512) ∧ (i.val < s.poolCount 1) ∧ (Tbl.get 0 s.pools.meta1 i.val % 2 = 0)) ∧
    (∃ (s : State) (r w : Fin 23) (i : Fin 16777216), (s.flag Reg.BPM_STATUS Fld.BPM_STATUS_READY = true) ∧ (s.down unitBpm = false) ∧ (i.val <
      s.poolCount 1) ∧ (Tbl.get 0 s.pools.meta1 i.val = 1 + 2 * r.val)) ∧
    (∃ (s : State) (q p : Fin 4) (b : List Byte), (s.dmcReady = true) ∧ (s.down unitBpm = false) ∧ (s.cached q.val p.val < 16) ∧ ((s.ring p.val).lines
      = 1) ∧ ((s.dramRead (s.ringLine p.val (s.ring p.val).head) true .ok).1 = some b)) ∧
    (∃ (s : State) (q p : Fin 4), (s.dmcReady = true) ∧ (s.down unitBpm = false) ∧ (s.lowMode p.val = true) ∧ (64 < (s.cache q.val p.val).free.length)
      ∧ ((s.cache q.val p.val).free.length ≤ 80) ∧ (16 ≤ s.credit (lnkPool p.val)) ∧ ((∀ x ∈ (s.cache q.val p.val).free, s.ptrOn x = true)) ∧
      ((s.cache q.val p.val).frees = [])) ∧
    (∃ (s : State) (i : Fin 16777216), (i.val < s.poolCount 1)) ∧
    (∃ (s : State) (i : Fin 16777216), (i.val < s.poolCount 1)) ∧
    (∃ (s : State) (i : Fin 16777216) (p : Fin 4) (e : Ecc), (s.poolCount p.val ≤ i.val)) :=
  ⟨⟨pool1 3 s0, 0, 16777216, by decide +kernel⟩,
   ⟨{ pool1 3 s0 with pools := { s0.pools with meta1 := [(2, 45)] } }, 22, 2, by decide +kernel⟩,
   ⟨pool1 3 s0, 22, 2, by decide +kernel⟩,
   ⟨{ pool1 3 s0 with pools := { s0.pools with meta1 := [(2, 45)] } }, 22, 0, 2, by decide +kernel⟩,
   ⟨{ up [(Reg.BPM_POOL_CFG 3, Fld.BPM_POOL_CFG_COUNT, 64)] sMem with pools := { sMem.pools with rings := [(3, ⟨0, 1⟩)] } }, 3, 3, List.replicate 64
     0, by decide +kernel⟩,
   ⟨upLink (lnkPool 3) 16
     { up [(Reg.BPM_POOL_CFG 3, Fld.BPM_POOL_CFG_COUNT, 16384)] sMem with pools := { sMem.pools with caches := [(15, ⟨List.range 65, 0, [], []⟩)] } },
     3, 3, by decide +kernel⟩,
   ⟨pool1 3 s0, 2, by decide +kernel⟩,
   ⟨pool1 3 s0, 1, by decide +kernel⟩,
   ⟨pool1 3 s0, 3, 1, .ok, by decide +kernel⟩⟩

theorem witness_TrafficManagers :
    (∃ (s : State) (q : Fin 4) (e : CellEcc) (ft : Bool) (ue : List Nat) (i : Nat) (d : Desc) (r : List Desc), (s.down (unitTm q.val) = false) ∧
      (s.nextInput q.val = some i) ∧ (Tbl.get [] s.tm.relIn (32 * q.val + i) = d :: r) ∧ (d.own = true) ∧ (d.res0.get r0Disp = 0) ∧ (d.res0.get
      r0Mcast = 0) ∧ (s.mirrorQuad d ≠ some q.val) ∧ (s.sampleQuad d ≠ some q.val) ∧ (d.res0.get r0Egress < 512) ∧ (d.res0.get r0Egress ≠ sumGet
      d.summary sumInPort) ∧ (s.rate (d.res0.get r0Egress) ≠ 0) ∧ (s.enableBit (d.res0.get r0Egress) = true) ∧ (s.descInUse q.val < 1048576) ∧
      (let u := s.ucQueue (d.res0.get r0Egress) (d.res0.get r0Qclass); depthOf (s.queue q.val u) + d.cellCnt ≤ s.fld (Reg.TMG_QCFG0 q.val u)
      Fld.TMG_QCFG0_Q_MAX) ∧ (let u := s.ucQueue (d.res0.get r0Egress) (d.res0.get r0Qclass); depthOf (s.queue q.val u) + d.cellCnt ≤ s.fld
      (Reg.TMG_QCFG0 q.val u) Fld.TMG_QCFG0_Q_MIN)) ∧
    (∃ (s : State) (k : Fin 64), (s.flag (Reg.BUF_SAMP_CFG k.val) Fld.BUF_SAMP_CFG_RAND_START = false)) ∧
    (∃ (s : State) (k : Fin 64), (s.flag (Reg.BUF_SAMP_CFG k.val) Fld.BUF_SAMP_CFG_RAND_START = true)) ∧
    (∃ (s : State) (q : Fin 4), (s.down (unitTm q.val) = false)) ∧
    (∃ (s : State) (q : Fin 4) (u : Fin 1024) (ue : List Nat), (u.val ≤ 655)) ∧
    (∃ (s : State) (q : Fin 4) (u : Fin 1024) (ue : List Nat), (655 < u.val)) ∧
    (∃ (s : State) (q : Fin 4) (p u : Nat) (c : Copy) (r : List Copy), (((List.range 128).map (fun i => 128 * q.val + (Tbl.get 127 s.tm.lastPort q.val
      + 1 + i) % 128)).find? (fun p => (s.pickQueue p).isSome) = some p) ∧ (s.pickQueue p = some u) ∧ (s.queue q.val u = c :: r)) ∧
    (∃ (s : State) (q : Fin 4) (u : Nat) (x : Int), (u < 656) ∧ (Tbl.wf (fun _ => none) s.tm.buckets = true) ∧ (Tbl.get none s.tm.buckets (queueBucket
      q.val u) = some { tokens := x })) ∧
    (∃ (s : State) (q : Fin 4), (s.down (unitTm q.val) = false) ∧ (0 < s.fld (Reg.TMG_GAUGE_CTL q.val) Fld.TMG_GAUGE_CTL_PERIOD_US) ∧ (Tbl.get 0
      s.tm.gaugeAt q.val + usTicks (s.fld (Reg.TMG_GAUGE_CTL q.val) Fld.TMG_GAUGE_CTL_PERIOD_US) ≤ s.clk.mono)) :=
  ⟨⟨up [(Reg.PRT_CTL 0, Fld.PRT_CTL_ENABLE1, 1), (Reg.TMG_QCFG0 0 4, Fld.TMG_QCFG0_Q_MAX, 1), (Reg.TMG_QCFG0 0 4, Fld.TMG_QCFG0_Q_MIN, 1)] (onTm (fun x
     => { x with relIn := [(31, [desc1])] }) sPort), 0, .ok, false, [], 31, desc1, [], by decide +kernel⟩,
   ⟨s0, 63, by decide +kernel⟩,
   ⟨up [(Reg.BUF_SAMP_CFG 63, Fld.BUF_SAMP_CFG_RAND_START, 1), (Reg.BUF_SAMP_CFG 63, Fld.BUF_SAMP_CFG_N_MINUS_1, 0)] s0, 63, by decide +kernel⟩,
   ⟨up [(Reg.TMG_WRED_CTL 3, Fld.TMG_WRED_CTL_WEIGHT, 3), (Reg.TMG_QAVG 3 655, Fld.TMG_QAVG_AVG, 77)] (onTm (fun x =>
     { x with queues := [(656 * 3 + 5, [copy1])] }) s0), 3, by decide +kernel⟩,
   ⟨onTm (fun x => { x with queues := [(656 * 3 + 655, [copy1]), (656 * 3 + 654, [copy1])] }) s0, 3, 655, [], by decide +kernel⟩,
   ⟨s0, 3, 656, [], by decide +kernel⟩,
   ⟨upLink (lnkEgress 0 0) 1 (onTm (fun x => { x with queues := [(0, [copy1])] }) sPort), 0, 0, 0, copy1, [], by decide +kernel⟩,
   ⟨up [(Reg.TMG_QSHAPE_RATE 3 655, Fld.TMG_QSHAPE_RATE_EN, 1), (Reg.TMG_QSHAPE_RATE 3 655, Fld.TMG_QSHAPE_RATE_RATE, 1000000), (Reg.TMG_QSHAPE_BURST
     3 655, Fld.TMG_QSHAPE_BURST_BURST, 100)] (onTm (fun x => { x with buckets := [(queueBucket 3 655, some ⟨-5⟩)] }) s0), 3, 655, -5,
     by decide +kernel⟩,
   ⟨atMono 800 (up [(Reg.TMG_GAUGE_CTL 3, Fld.TMG_GAUGE_CTL_PERIOD_US, 1)] (onTm (fun x => { x with queues := [(656 * 3 + 5, [copy1])] }) s0)), 3,
     by decide +kernel⟩⟩

theorem witness_TimeGates :
    (∃ (s : State) (p : Fin 512) (n : Fin 256) (b : Fin 2), (s.rate p.val ≠ 0) ∧ ((s.gate p.val).pending = none) ∧ ((s.gate p.val).active = none ∨ b.val ≠
      (s.gate p.val).bank)) ∧
    (∃ (s : State) (p : Fin 512) (len start : Nat), (s.rate p.val ≠ 0) ∧ ((s.gate p.val).pending = none) ∧ (len = s.fld (Reg.TMG_GCL_ARM (p.val /
      128)) Fld.TMG_GCL_ARM_LEN) ∧ (start = s.fld (Reg.TMG_GCL_TIME_SEC (p.val / 128)) Fld.TMG_GCL_TIME_SEC_SEC * 1000000000 + s.fld
      (Reg.TMG_GCL_TIME_NS (p.val / 128)) Fld.TMG_GCL_TIME_NS_NS) ∧ (s.clk.fine + 1000 * 4294967296 ≤ start * 4294967296) ∧ (listLengthOk
      (s.gateEntries p.val (1 - (s.gate p.val).bank) len) = true) ∧ (listRunsOk (s.gateEntries p.val (1 - (s.gate p.val).bank) len) (s.gateMin p.val
      (s.fld (Reg.PRT_MTU (p.val / 2) (p.val % 2)) Fld.PRT_MTU_MAX_FRAME) (s.fld (Reg.TMG_GATE_CFG (p.val / 128) (p.val % 128))
      Fld.TMG_GATE_CFG_GUARD_NS)) = true)) ∧
    (∃ (s : State) (p : Fin 512), (s.rate p.val ≠ 0) ∧ ((s.gate p.val).pending.isSome = true)) ∧
    (∃ (s : State) (p : Fin 512) (l : GateList), ((s.gate p.val).pending = some l) ∧ ((l.start : Int) * 4294967296 ≤ s.wireTime p.val)) :=
  ⟨⟨up [(Reg.TMG_GCL_DATA 0, Fld.TMG_GCL_DATA_GATES, 77), (Reg.TMG_GCL_DATA 0, Fld.TMG_GCL_DATA_INTERVAL_NS, 3)] sPort, 0, 255, 1, by decide +kernel⟩,
   ⟨up [(Reg.TMG_GCL_ARM 0, Fld.TMG_GCL_ARM_LEN, 1), (Reg.TMG_GCL_TIME_NS 0, Fld.TMG_GCL_TIME_NS_NS, 1000)] (onTm (fun x =>
     { x with gcl := [(gclKey 0 1 0, 255 + 256 * 1000000)] }) sPort), 0, 1, 1000, by decide +kernel⟩,
   ⟨onTm (fun x => { x with gates := [(0, { GateSt.init with pending := some ⟨1, 1, 5⟩ })] }) sPort, 0, by decide +kernel⟩,
   ⟨onTm (fun x => { x with gates := [(511, { GateSt.init with pending := some ⟨1, 1, 0⟩ })] }) sPort, 511, ⟨1, 1, 0⟩, by decide +kernel⟩⟩

theorem witness_EgressFrames :
    (∃ (s : State) (p : Fin 512) (e : CellEcc) (cls : Nat) (c : Copy) (r : List Copy), (s.portEnabled p.val = true) ∧ (s.down (unitSlice (sliceOf p.val))
      = false) ∧ ((s.port p.val).tx = none) ∧ ((s.port p.val).fcPend = [] ∨ s.linkUp p.val = false) ∧ (s.startClass p.val = some cls) ∧ (Tbl.get []
      (s.port p.val).egr cls = c :: r) ∧ (c.body.isPool = true)) ∧
    (∃ (s : State) (p : Fin 512) (x : TxNow), ((s.port p.val).tx = some x) ∧ (s.looped p.val = false)) :=
  ⟨⟨onPort 0 (fun x => { x with egr := [(7, [poolCopy])] }) sPort, 0, .ok, 7, poolCopy, [], by decide +kernel⟩,
   ⟨onPort 0 (fun x => { x with tx := some { copy := poolCopy, bytes := [1, 2, 3], linkDown := false } }) sPort, 0,
     { copy := poolCopy, bytes := [1, 2, 3], linkDown := false }, by decide +kernel⟩⟩

theorem witness_CreditLinks :
    (∃ (s : State) (k : LinkId), ((s.link (linkKey k)).stage = .up) ∧ ((s.link (linkKey k)).credit < s.linkCap (linkKey k)) ∧ ((s.link (linkKey k)).owed ≠
      0)) ∧
    (∃ (s : State) (k : LinkId), ((s.link (linkKey k)).stage = .up) ∧ (s.linkCap (linkKey k) ≤ (s.link (linkKey k)).credit) ∧ (s.down (linkUnits
      (linkKey k)).1 = false) ∧ (s.down (linkUnits (linkKey k)).2 = false)) ∧
    (∃ (s : State) (k : LinkId) (m : Nat), ((s.link (linkKey k)).stage = .up) ∧ ((s.link (linkKey k)).since = some m) ∧ (s.linkHolds (linkKey k) =
      false) ∧ (s.linkTimeout (linkKey k) ≤ 2 * (s.clk.mono - (s.link (linkKey k)).quietSince m)) ∧ ((s.link (linkKey k)).credit < s.linkCap (linkKey
      k)) ∧ (s.down (linkUnits (linkKey k)).1 = false) ∧ (s.down (linkUnits (linkKey k)).2 = false)) ∧
    (∃ (s : State) (k : LinkId), ((s.link (linkKey k)).stage = .stopped) ∧ (s.down (linkUnits (linkKey k)).1 = false) ∧ (s.down (linkUnits (linkKey
      k)).2 = false)) ∧
    (∃ (s : State) (k : LinkId), ((s.link (linkKey k)).stage = .loaded)) :=
  ⟨⟨s0.setLink (lnkReady 15) ⟨4095, 1, .up, 0, none, 0⟩, .ready 15, by decide +kernel⟩,
   ⟨s0.setLink (lnkReady 15) ⟨4096, 1, .up, 0, none, 0⟩, .ready 15, by decide +kernel⟩,
   ⟨atMono (2 ^ 32) (s0.setLink (lnkReady 15) ⟨4095, 0, .up, 0, some 0, 0⟩), .ready 15, 0, by decide +kernel⟩,
   ⟨s0, .release 31 3, by decide +kernel⟩,
   ⟨s0.setLink (lnkReady 15) ⟨4096, 0, .loaded, 0, none, 0⟩, .ready 15, by decide +kernel⟩⟩

theorem witness_RegisterAccesses :
    (∃ (s : State) (a : Fin 268435456) (v : Word64), (a.val = Reg.TOD_SET_SEC) ∧ (s.phase = 11)) ∧
    (∃ (s : State) (a : Fin 268435456) (v : Word64) (r : RegDef), (accessOk a.val 8 true = true) ∧ (s.phase = 11 ∨ hostAlways a.val = true) ∧
      (s.answers a.val = true) ∧ (findReg a.val = some r) ∧ (r.imageOnly = false) ∧ (r.fields.all (fun f => f.acc != .rc) = true) ∧ (a.val ∉
      [Reg.TOD_CTL, Reg.TOD_INCR, Reg.TOD_HOLD_TIMEOUT]) ∧ (s.lowWrite s.early a.val v = none) ∧ (s.midWrite s.early a.val v = none) ∧ (s.highWrite
      s.early a.val v = none) ∧ (let w := regHostWrite s.early a.val (s.reg a.val) (writeMask a.val (s.reg a.val) v); valueOk a.val w = true) ∧
      (let w := regHostWrite s.early a.val (s.reg a.val) (writeMask a.val (s.reg a.val) v); s.writeAllowed ((s.beforeStore a.val).setReg a.val w)
      a.val = true)) ∧
    (∃ (s : State) (a : Fin 268435456) (ws : List Word64), (accessOk a.val (8 * ws.length) true = true) ∧ (hostAlways a.val = false) ∧ (s.phase ≠ 11))
      ∧
    (∃ (s : State) (a : Fin 268435456) (len : Nat), (accessOk a.val len true = true) ∧ (s.answers a.val = false)) ∧
    (∃ (s : State) (a : Fin 268435456) (len : Nat), (accessOk a.val len true = true) ∧ (s.answers a.val = false) ∧ (s.phase = 11 ∨ hostAlways a.val =
      true)) ∧
    (∃ (s : State) (a : Fin 268435456) (len : Nat), (accessOk a.val len true = true) ∧ (s.answers a.val = false) ∧ (s.phase ≠ 11) ∧ (hostAlways a.val
      = false)) ∧
    (∃ (s : State) (x : Fin 2) (a : Fin 268435456) (v : Word64), (s.haspAccepts x.val = true) ∧ (s.phase = 11) ∧ (accessOk a.val 8 true = true)) ∧
    (∃ (s : State) (x : Fin 2) (a : Nat) (b : List Byte) (n : Nat), (s.haspAccepts x.val = true) ∧ (n < b.length) ∧ (a + n < s.cast.flashLen)) ∧
    (∃ (s : State) (x : Fin 2), (s.haspAccepts x.val = true)) ∧
    (∃ (s : State) (x : Fin 2) (a : Nat) (b : List Byte), (s.haspAccepts x.val = true) ∧ (s.dmaEn = true) ∧ (s.hostIsLost = false)) ∧
    (∃ (s : State) (x : Fin 2) (w : CcWrite), (s.haspAccepts x.val = false)) :=
  ⟨⟨sRun, Fin.ofNat _ Reg.TOD_SET_SEC, BitVec.ofNat 64 (2 ^ 47), by decide +kernel⟩,
   ⟨sRun, Fin.ofNat _ Reg.TOD_SET_SEC, 5, (findReg Reg.TOD_SET_SEC).get (by decide +kernel), by decide +kernel⟩,
   ⟨s0, Fin.ofNat _ Reg.TOD_SET_SEC, [5], by decide +kernel⟩,
   ⟨up [(Reg.PMU_PD_STATE 1, ⟨62, 2⟩, 0)] s0, Fin.ofNat _ (Reg.HNK_CFG 15), 8, by decide +kernel⟩,
   ⟨up [(Reg.PMU_PD_STATE 1, ⟨62, 2⟩, 0)] sRun, Fin.ofNat _ (Reg.HNK_CFG 15), 8, by decide +kernel⟩,
   ⟨up [(Reg.PMU_PD_STATE 1, ⟨62, 2⟩, 0)] s0, Fin.ofNat _ (Reg.HNK_CFG 15), 8, by decide +kernel⟩,
   ⟨sServ, 0, Fin.ofNat _ Reg.TOD_SET_SEC, 5, by decide +kernel⟩,
   ⟨onCast (fun x => { x with flashLen := 100 }) sServ, 0, 7, [1, 2], 1, by decide +kernel⟩,
   ⟨sServ, 0, by decide +kernel⟩,
   ⟨dma sServ, 0, 4096, [1, 2, 3], by decide +kernel⟩,
   ⟨sServ, 1, .journal, by decide +kernel⟩⟩

theorem witness_AccessesThatAreNotValid :
    (∃ (s : State) (w en : Bool) (a len : Nat), (a < 0x10000000) ∧ (accessOk a len en = false)) :=
  ⟨s0, true, true, 0xFFFFFFC, 8, by decide +kernel⟩

theorem witness_LosingTheHost :
    (∃ (s : State) (c : Instr), (c ∈ [Instr.perstNAssert, .hotReset, .flr, .pcieLinkDown, .d3hotEntry, .busMasterClear])) ∧
    (∃ (s : State) (m : Nat), (s.power.perstLow = some m) ∧ (m + usTicks 100 ≤ s.clk.mono)) ∧
    (∃ (s : State), (s.down unitHif = false)) ∧
    (∃ (s : State) (speed : Fin 7) (width : Fin 9), (s.power.perstLow = none) ∧ (speed.val ≠ 0) ∧ (width.val ∈ [1, 2, 4, 8])) :=
  ⟨⟨s0, .flr, by decide +kernel⟩,
   ⟨atMono 80000 { s0 with power := { s0.power with perstLow := some 0 } }, 0, by decide +kernel⟩,
   ⟨s0, by decide +kernel⟩,
   ⟨s0, 6, 8, by decide +kernel⟩⟩

theorem witness_HostRings :
    (∃ (s : State) (k : Fin 64) (v : Word64), (s.ringEn k.val = true) ∧ (v.toNat < s.ringSize k.val) ∧ (s.overPosts k.val v.toNat = false)) ∧
    (∃ (s : State) (j : Fin 16) (v : Word64), (s.ringEn (64 + j.val) = true) ∧ (v.toNat < s.ringSize (64 + j.val)) ∧ (s.overPosts (64 + j.val) v.toNat
      = false)) ∧
    (∃ (s : State) (k : Fin 64) (v : Word64) (wide : Bool), (wide = false ∨ s.ringEn k.val = false ∨ s.ringSize k.val ≤ v.toNat ∨ s.overPosts k.val
      v.toNat = true)) ∧
    (∃ (s : State) (r : Fin 80), (s.flag (Reg.HIF_RING_CFG r.val) Fld.HIF_RING_CFG_IRQ_EN = true) ∧ (s.hostIsLost = false) ∧ (s.msixDue r.val = true))
      ∧
    (∃ (s : State) (w1 w3 : Word64) (b : List Byte) (j k x : Nat), (s.hif.txWait = none) ∧ (s.down unitHif = false) ∧ (s.nextTx = some j) ∧ (60 ≤
      w1.get ⟨0, 14⟩) ∧ (w1.get ⟨0, 14⟩ + 4 ≤ s.fld (Reg.PRT_MTU (w1.get ⟨14, 9⟩ / 2) (w1.get ⟨14, 9⟩ % 2)) Fld.PRT_MTU_MAX_FRAME) ∧ (s.fitPool
      (w1.get ⟨0, 14⟩) = some k) ∧ ((s.poolAlloc reqHif k).1 = .granted x)) ∧
    (∃ (s : State) (w1 w3 : Word64) (b : List Byte) (j : Nat), (s.hif.txWait = none) ∧ (s.down unitHif = false) ∧ (s.nextTx = some j) ∧ (w1.get ⟨0,
      14⟩ < 60)) ∧
    (∃ (s : State) (w : TxWait) (k x : Nat), (s.hif.txWait = some w) ∧ (w.ring < 16) ∧ (w.mono + 32 ≤ s.clk.mono) ∧ (s.down unitHif = false) ∧
      (s.fitPool (w.w1.get ⟨0, 14⟩) = some k) ∧ ((s.poolAlloc reqHif k).1 = .granted x)) ∧
    (∃ (s : State) (w1 : Word64) (j k x : Nat), (s.hif.txWait = none) ∧ (s.nextTx = some j) ∧ (s.fitPool (w1.get ⟨0, 14⟩) = some k) ∧ ((s.poolAlloc
      reqHif k).1 = .granted x)) ∧
    (∃ (s : State) (i : Fin 16) (w1 : Word64), ((s.lopSlot i.val).run = .admission) ∧ (s.lopActive i.val = true)) :=
  ⟨⟨ringOf 63 s0, 63, 15, by decide +kernel⟩,
   ⟨ringOf 79 s0, 15, 15, by decide +kernel⟩,
   ⟨ringOf 63 s0, 63, 16, true, by decide +kernel⟩,
   ⟨up [(Reg.HIF_RING_CFG 79, Fld.HIF_RING_CFG_IRQ_EN, 1)] { s0 with hif := { s0.hif with irq := [(79, ⟨1, 0⟩)] } }, 79, by decide +kernel⟩,
   ⟨pool1 3 (up [(Reg.BPM_POOL_CFG 1, Fld.BPM_POOL_CFG_SIZE, 2048)] (dma (ringOf 64 s0))), 60, 0, List.replicate 60 1, 0, 1, 16777216,
     by decide +kernel⟩,
   ⟨pool1 3 (up [(Reg.BPM_POOL_CFG 1, Fld.BPM_POOL_CFG_SIZE, 2048)] (dma (ringOf 64 s0))), 59, 0, List.replicate 59 1, 0, by decide +kernel⟩,
   ⟨atMono 32
     { pool1 3 (up [(Reg.BPM_POOL_CFG 1, Fld.BPM_POOL_CFG_SIZE, 2048)] (dma (ringOf 79 s0))) with hif := { HifSt.init with txWait := some ⟨15, 60, 0, List.replicate 60 1, 0⟩ } },
     ⟨15, 60, 0, List.replicate 60 1, 0⟩, 1, 16777216, by decide +kernel⟩,
   ⟨pool1 3 (up [(Reg.BPM_POOL_CFG 1, Fld.BPM_POOL_CFG_SIZE, 2048)] (dma (ringOf 64 s0))), 60, 0, 1, 16777216, by decide +kernel⟩,
   ⟨lop 15 .admission sServ, 15, 0, by decide +kernel⟩⟩

theorem witness_HostQueuesAndAperture :
    (∃ (s : State) (q : Fin 4) (w0 w1 : Word64) (e : CellEcc) (ft : Bool) (pe : Ecc) (k p x : Nat) (c : Copy) (r : List Copy), (s.down (unitTm q.val) =
      false) ∧ (s.down unitHif = false) ∧ (Tbl.get none s.tm.hostWait q.val = none) ∧ (s.nextHostQueue q.val = some k) ∧ (s.queue q.val (640 + k % 16)
      = c :: r) ∧ (s.fitPool c.body.len = some p) ∧ ((s.poolAlloc (reqTm q.val) p).1 = .granted x)) ∧
    (∃ (s : State) (q : Fin 4) (w0 w1 : Word64) (e : CellEcc) (ft : Bool) (pe : Ecc) (k m p x : Nat) (c : Copy) (r : List Copy), (s.down (unitTm
      q.val) = false) ∧ (s.down unitHif = false) ∧ (Tbl.get none s.tm.hostWait q.val = some (k, m)) ∧ (m + 32 ≤ s.clk.mono) ∧ (s.hostQueueReady k =
      true) ∧ (s.queue q.val (640 + k % 16) = c :: r) ∧ (s.fitPool c.body.len = some p) ∧ ((s.poolAlloc (reqTm q.val) p).1 = .granted x)) ∧
    (∃ (s : State) (w : Fin 4) (off len : Nat) (es : List Ecc) (b : List Byte), (0 < len) ∧ (off + len ≤ 4294967296) ∧ (s.dmcReady = true) ∧ (s.down
      unitHif = false) ∧ (s.apAddr w.val off % 64 + len ≤ 64) ∧ (s.apAddr w.val off + len ≤ s.space) ∧ ((s.dramRead (s.apAddr w.val off / 64) true
      (es.headD .ok)).1 = some b)) ∧
    (∃ (s : State) (w : Fin 4) (off : Nat) (b : List Byte) (es : List Ecc) (a : LineAt), (b.length = 64) ∧ (off + 64 ≤ 4294967296) ∧ (s.dmcReady =
      true) ∧ (s.down unitHif = false) ∧ (s.apAddr w.val off % 64 = 0) ∧ (s.apAddr w.val off + 64 ≤ s.space) ∧ (s.locate (s.apAddr w.val off / 64) =
      some a) ∧ (s.rankDead a = false) ∧ (s.poisoned (s.apAddr w.val off / 64) = false)) :=
  ⟨⟨pool1 3 (up [(Reg.BPM_POOL_CFG 1, Fld.BPM_POOL_CFG_SIZE, 2048)] (dma (ringOf 48 (onTm (fun x =>
     { x with queues := [(656 * 3 + 640, [copy1])], hostWait := [] }) s0)))), 3, 0, 0, .ok, false, .ok, 48, 1, 16777216, copy1, [],
     by decide +kernel⟩,
   ⟨atMono 32 (pool1 3 (up [(Reg.BPM_POOL_CFG 1, Fld.BPM_POOL_CFG_SIZE, 2048)] (dma (ringOf 48 (onTm (fun x =>
     { x with queues := [(656 * 3 + 640, [copy1])], hostWait := [(3, some (48, 0))] }) s0))))), 3, 0, 0, .ok, false, .ok, 48, 0, 1, 16777216, copy1,
     [], by decide +kernel⟩,
   ⟨sMem, 3, 65, 63, [], List.replicate 64 0, by decide +kernel⟩,
   ⟨sMem, 3, 64, List.replicate 64 7, [], ⟨0, 1, 0, 0⟩, by decide +kernel⟩⟩

theorem witness_FaultMessages :
    (∃ (s : State) (m : FaultMsg), (s.fault.queues.flatMap (fun e => e.2) = [m]) ∧ (Tbl.get [] s.fault.queues m.src = [m]) ∧ (s.msgsOk) ∧ (s.ringTakes
      m.cls = true)) ∧
    (∃ (s : State), (s.fault.tokensAt + msTicks 1 ≤ s.clk.mono)) ∧
    (∃ (s : State) (m : FaultMsg), (m = ⟨s.fld Reg.FLT_INJECT Fld.FLT_INJECT_SOURCE, s.fld Reg.FLT_INJECT Fld.FLT_INJECT_KIND, s.fld Reg.FLT_INJECT
      Fld.FLT_INJECT_CLASS, s.fld Reg.FLT_INJECT_ADDR Fld.FLT_INJECT_ADDR_ADDR, s.clk.ns⟩) ∧ (m.cls < 3) ∧ (s.ringTakes m.cls = true)) ∧
    (∃ (s : State) (u : Fin 315) (code : Fin 65536), (u.val ≠ 308) ∧ (s.down u.val = false)) ∧
    (∃ (s : State) (u : Fin 315) (code : Fin 65536), (u.val = 308)) ∧
    (∃ (s : State) (cause : Nat), (s.msgsOk) ∧ (s.fault.fatalLine = some cause) ∧ (s.fault.stopped = false) ∧ (s.flag Reg.FLT_CFG
      Fld.FLT_CFG_FATAL_POLICY = true)) ∧
    (∃ (s : State) (m : Nat), (s.fault.runSince = some m) ∧ (m + 1000 * msTicks (s.fld Reg.FLT_CFG Fld.FLT_CFG_FATAL_CLEAR_S) ≤ s.clk.mono)) :=
  ⟨⟨onFault (fun x => { x with queues := [(srcSlice 15, [msg1])] }) s0, msg1, by decide +kernel, by decide +kernel, msgsOk_one _ rfl,
     by decide +kernel⟩,
   ⟨atMono 800000 (onFault (fun x => { x with tokens := 3 }) s0), by decide +kernel⟩,
   ⟨up [(Reg.FLT_INJECT, Fld.FLT_INJECT_SOURCE, 0x080F), (Reg.FLT_INJECT, Fld.FLT_INJECT_CLASS, 1), (Reg.FLT_INJECT, Fld.FLT_INJECT_KIND, 0x20)] s0,
     ⟨0x080F, 0x20, 1, 0, 0⟩, by decide +kernel⟩,
   ⟨s0, 314, 65535, by decide +kernel⟩,
   ⟨s0, 308, 65535, by decide +kernel⟩,
   ⟨onFault (fun x => { x with fatalLine := some 0x080F0005, queues := [(srcSlice 15, [msg1])] }) (up [(Reg.FLT_CFG, Fld.FLT_CFG_FATAL_POLICY, 1)]
     sServ), 0x080F0005, msgsOk_one _ rfl, by decide +kernel⟩,
   ⟨atMono (2 ^ 60) (onFault (fun x => { x with runSince := some 0 }) s0), 0, by decide +kernel⟩⟩

theorem witness_Escalation :
    (∃ (s : State) (u : Fin 512), (s.flag Reg.FLT_ESC_CMD Fld.FLT_ESC_CMD_BUSY = false) ∧ (u.val < 315) ∧ (s.unitState u.val = 1) ∧ (unitRepairable u.val
      = true)) ∧
    (∃ (s : State) (u : Fin 315), (s.unitState u.val = 2)) ∧
    (∃ (s : State) (u : Fin 512), (s.flag Reg.FLT_ESC_CMD Fld.FLT_ESC_CMD_BUSY = false) ∧ (u.val < 312 ∨ u.val = 314) ∧ (s.unitState u.val = 3) ∧
      (s.unitReady u.val = true)) ∧
    (∃ (s : State) (u : Fin 512), (s.flag Reg.FLT_ESC_CMD Fld.FLT_ESC_CMD_BUSY = false) ∧ (u.val < 315) ∧ (s.unitState u.val ∈ [1, 2, 3]) ∧
      (s.essential u.val = false)) ∧
    (∃ (s : State) (u : Fin 512), (s.flag Reg.FLT_ESC_CMD Fld.FLT_ESC_CMD_BUSY = false) ∧ (u.val < 315) ∧ (s.unitState u.val ∈ [1, 2, 3])) ∧
    (∃ (s : State) (u : Fin 315) (c : Instr), (c = .escWindowExpiry u ∧ s.unitState u.val = 1 ∨ c = .repairTimeout u ∧ s.unitState u.val ∈ [2, 3]) ∧
      (s.timerDone u.val = true)) ∧
    (∃ (s : State) (h : Fin 16), (s.flag Reg.FLT_CFG Fld.FLT_CFG_AUTO_REPAIR = true) ∧ (s.serving = true) ∧ (s.unitState (unitShard h.val) = 1) ∧
      (Tbl.get false s.fault.mcUe (unitShard h.val) = true) ∧ (s.timerDone (unitShard h.val) = false)) :=
  ⟨⟨unit 295 1 s0, 295, by decide +kernel⟩,
   ⟨unit 314 2 s0, 314, by decide +kernel⟩,
   ⟨unit 314 3 s0, 314, by decide +kernel⟩,
   ⟨unit 272 3 s0, 272, by decide +kernel⟩,
   ⟨unit 314 3 s0, 314, by decide +kernel⟩,
   ⟨atMono 7 (onFault (fun x => { x with timers := [(314, 7)] }) (unit 314 1 s0)), 314, .escWindowExpiry 314, by decide +kernel⟩,
   ⟨up [(Reg.FLT_CFG, Fld.FLT_CFG_AUTO_REPAIR, 1)] (onFault (fun x => { x with mcUe := [(287, true)] }) (unit 287 1 sServ)), 15, by decide +kernel⟩⟩

theorem witness_PowerMonitors :
    (∃ (s : State) (c : Instr), ((∃ d, c = .pllUnlock 0 d) ∨ c = .refclkLoss)) ∧
    (∃ (s : State) (d : Fin 80), (s.dram.freq = .idle)) ∧
    (∃ (s : State) (r : Fin 7) (d : Fin 80) (us mv : Nat), (2 ≤ us) ∧ (s.monitorMasked d.val = false)) ∧
    (∃ (s : State) (l : List (BitVec 12)), (l.length = 16)) :=
  ⟨⟨s0, .pllUnlock 0 79, by decide +kernel⟩,
   ⟨s0, 79, by decide +kernel⟩,
   ⟨s0, 6, 76, 2, 99, by decide +kernel⟩,
   ⟨s0, (List.range 16).map (fun i => BitVec.ofNat 12 (130 * i)), by decide +kernel⟩⟩

theorem witness_CastOnBegins :
    (∃ (s : State), (s.inPhase 0 = true)) ∧
    (∃ (s : State) (r : Fin 7), (s.inPhase 0 = true)) ∧
    (∃ (s : State), (s.inPhase 1 = true)) ∧
    (∃ (s : State), (s.inPhase 2 = true)) ∧
    (∃ (s : State), (s.inPhase 2 = true) ∧ (s.cast.jq = [])) ∧
    (∃ (s : State), (s.inPhase 3 = true) ∧ (s.cast.chosen = false) ∧ (s.cast.jq = []) ∧ (0 ≤ s.jnlTokens)) :=
  ⟨⟨s0, by decide +kernel⟩,
   ⟨s0, 6, by decide +kernel⟩,
   ⟨inCast 1 s0, by decide +kernel⟩,
   ⟨inCast 2 s0, by decide +kernel⟩,
   ⟨inCast 2 s0, by decide +kernel⟩,
   ⟨inCast 3 s0, by decide +kernel⟩⟩

theorem witness_CastOnTakesTheImage :
    (∃ (s : State) (k : Nat) (f : Bool), (s.cast.slot = some k) ∧ (s.inPhase 4 = true)) ∧
    (∃ (s : State) (k : Nat) (v : Word64), (s.cast.slot = some k) ∧ (s.inPhase 5 = true)) ∧
    (∃ (s : State) (k : Nat) (v : Word64), (s.cast.slot = some k) ∧ (s.inPhase 5 = true)) ∧
    (∃ (s : State) (k : Nat), (s.cast.slot = some k) ∧ (s.inPhase 6 = true)) ∧
    (∃ (s : State) (k : Nat) (bad : List (Fin 12 × Fin 4 × Fin 2 × Fin 5)) (init : List (Nat × List Byte)), (s.cast.slot = some k) ∧ (s.inPhase 7 =
      true)) ∧
    (∃ (s : State) (k : Nat) (x : ImageTables) (bad : Option (Fin 16)), (s.cast.slot = some k) ∧ (s.inPhase 8 = true)) ∧
    (∃ (s : State) (k : Nat), (s.cast.slot = some k) ∧ (s.inPhase 9 = true)) ∧
    (∃ (s : State), (s.inPhase 10 = true) ∧ (s.cast.chosen = true) ∧ (s.cast.jq = [])) :=
  ⟨⟨inCast 4 s0, 0, false, by decide +kernel⟩,
   ⟨inCast 5 s0, 0, 77, by decide +kernel⟩,
   ⟨inCast 5 s0, 0, 77, by decide +kernel⟩,
   ⟨inCast 6 s0, 0, by decide +kernel⟩,
   ⟨inCast 7 sMem, 0, [], [], by decide +kernel⟩,
   ⟨inCast 8 s0, 0, ImageTables.init, some 15, by decide +kernel⟩,
   ⟨inCast 9 s0, 0, by decide +kernel⟩,
   ⟨onCast (fun x => { x with chosen := true }) (inCast 10 s0), by decide +kernel⟩⟩

theorem witness_CastOnEndsAndRetries :
    (∃ (s : State) (k : Nat), (s.cast.slot = some k) ∧ (s.inPhase 11 = true) ∧ (s.flag Reg.CST_STATUS Fld.CST_STATUS_DONE = false)) ∧
    (∃ (s : State), (s.inPhase 12 = true) ∧ (s.fld Reg.CST_STATUS Fld.CST_STATUS_LAYER ≠ 3)) ∧
    (∃ (s : State), (s.inPhase 13 = true)) ∧
    (∃ (s : State), (s.power.sysResetLow = false) ∧ (s.imageWriting = false)) ∧
    (∃ (s : State), (s.power.sysResetLow = false) ∧ (s.imageWriting = true)) ∧
    (∃ (s : State) (k : Nat), (s.cast.slot = some k) ∧ (s.onTrial = true) ∧ (s.confirmOpen = true)) ∧
    (∃ (s : State) (k : Nat), (s.cast.slot = some k) ∧ (s.onTrial = true) ∧ (s.confirmOpen = false) ∧ (s.power.sysResetLow = false)) :=
  ⟨⟨smallImage (inCast 11 s0), 0, by decide +kernel⟩,
   ⟨inCast 12 s0, by decide +kernel⟩,
   ⟨inCast 13 s0, by decide +kernel⟩,
   ⟨inCast 11 sServ, by decide +kernel⟩,
   ⟨lop 15 (.image true false 0) (inCast 11 sServ), by decide +kernel⟩,
   ⟨up [(Reg.CST_STATUS, Fld.CST_STATUS_TRIAL, 1), (Reg.CST_IMAGE_INFO, Fld.CST_IMAGE_INFO_CONFIRM_S, 1)] (onCast (fun x =>
     { x with runAt := some 0 }) (inCast 11 sServ)), 0, by decide +kernel⟩,
   ⟨atMono 800000000 (up [(Reg.CST_STATUS, Fld.CST_STATUS_TRIAL, 1), (Reg.CST_IMAGE_INFO, Fld.CST_IMAGE_INFO_CONFIRM_S, 1)] (onCast (fun x =>
     { x with runAt := some 0 }) (inCast 11 sServ))), 0, by decide +kernel⟩⟩

theorem witness_FusesAndJournal :
    (∃ (s : State), (s.validBank = none) ∧ (s.cast.bank0.blown = false)) ∧
    (∃ (s : State) (b : KeyBank) (cut : Option (List Byte)), (s.validBank = some b)) ∧
    (∃ (s : State), (s.phase = 11) ∧ (s.fld Reg.CST_STATUS Fld.CST_STATUS_LAYER ≠ 3) ∧ (s.flag Reg.CST_STATUS Fld.CST_STATUS_TRIAL = false)) ∧
    (∃ (s : State) (e : JEntry) (r : List JEntry), (s.cast.jq = e :: r) ∧ (s.power.sysResetLow = false) ∧ (((e.payloads.length + 1 + jnlSum (s.jnlPlan
      (e.payloads.length + 1)) : Nat) : Int) ≤ s.jnlTokens)) ∧
    (∃ (s : State) (e : JEntry) (r : List JEntry) (k : EventKind), (s.cast.jq = e :: r) ∧ (s.power.sysResetLow = false) ∧ (e.what = .event k) ∧
      (s.jnlTokens < ((e.payloads.length + 1 + jnlSum (s.jnlPlan (e.payloads.length + 1)) : Nat) : Int))) ∧
    (∃ (s : State), (s.cast.tokenAt + 3125000 ≤ s.clk.mono) ∧ (s.jnlTokens < 4096)) :=
  ⟨⟨s0, by decide +kernel⟩,
   ⟨onCast (fun x => { x with bank0 := { bits := [1], lock := true } }) s0, { bits := [1], lock := true }, none, by decide +kernel⟩,
   ⟨inCast 11 s0, by decide +kernel⟩,
   ⟨onCast (fun x => { x with jq := [entry1] }) s0, entry1, [], by decide +kernel⟩,
   ⟨onCast (fun x => { x with jq := [entry1] }) (up [(Reg.CST_JNL_TOKENS, ⟨0, 32⟩, 1)] s0), entry1, [], .admission, by decide +kernel⟩,
   ⟨atMono 3125000 (up [(Reg.CST_JNL_TOKENS, ⟨0, 32⟩, 2 ^ 32 - 1)] s0), by decide +kernel⟩⟩

theorem witness_LongOperationControl :
    (∃ (s : State) (i op : Fin 16), (s.lopActive i.val = false) ∧ (s.lopPhaseOk i.val op.val = true) ∧ (s.lopArgsOk i.val op.val = true) ∧ (s.lopExcluded
      i.val op.val = false) ∧ ((opOutput op.val || opInput op.val) = false ∨ s.dmaEn = true)) ∧
    (∃ (s : State) (i op : Fin 16), (s.lopActive i.val = true)) ∧
    (∃ (s : State) (i : Fin 16) (x : Nat), (s.lopActive i.val = true) ∧ ((s.lopSlot i.val).run = .scrub x)) ∧
    (∃ (s : State) (i : Fin 16) (cons : BitVec 32), ((s.lopSlot i.val).buf = [] ∨ s.flag Reg.BPM_STATUS Fld.BPM_STATUS_READY = false)) ∧
    (∃ (s u : State) (i : Fin 16) (cons : BitVec 32), (u = s.setFld (Reg.LOP_OUT_CONS i.val) Fld.LOP_OUT_CONS_CONS cons.toNat) ∧ ((s.lopSlot
      i.val).buf.length = 64) ∧ (s.lopFld i.val lopState = 2) ∧ (opOutput (s.lopFld i.val lopOp) = true) ∧ (0 < u.outRoom i.val) ∧ (s.dmaEn = true) ∧
      (s.bufferFor 1)) ∧
    (∃ (s : State) (i : Fin 16) (a : Nat), (a = s.fld (Reg.LOP_MIRROR_ADDR i.val) Fld.LOP_MIRROR_ADDR_ADDR) ∧ (a ≠ 0) ∧ ((s.lopSlot i.val).dirty =
      true) ∧ (s.lopActive i.val = false) ∧ (s.dmaEn = true) ∧ (s.serving = true)) :=
  ⟨⟨up [(Reg.LOP_OUT_CFG 15, Fld.LOP_OUT_CFG_LINES, 67108864)] (dma sServ), 15, 1, by decide +kernel⟩,
   ⟨lop 15 (.scrub 0) sServ, 15, 15, by decide +kernel⟩,
   ⟨lop 15 (.scrub 9) sServ, 15, 9, by decide +kernel⟩,
   ⟨s0, 15, 4294967295, by decide +kernel⟩,
   ⟨dma (up [(Reg.LOP_OUT_CFG 15, Fld.LOP_OUT_CFG_LINES, 64), (Reg.LOP_STATUS 15, lopState, 2), (Reg.LOP_STATUS 15, lopOp, 1)]
     { sServ with lop := [(15, { LopSt.init with buf := List.replicate 64 1 })] }), (dma (up [(Reg.LOP_OUT_CFG 15, Fld.LOP_OUT_CFG_LINES, 64),
     (Reg.LOP_STATUS 15, lopState, 2), (Reg.LOP_STATUS 15, lopOp, 1)]
     { sServ with lop := [(15, { LopSt.init with buf := List.replicate 64 1 })] })).setFld (Reg.LOP_OUT_CONS 15) Fld.LOP_OUT_CONS_CONS 0, 15, 0,
     by decide +kernel, by decide +kernel, by decide +kernel, by decide +kernel, by decide +kernel, by decide +kernel, .inl (by decide +kernel)⟩,
   ⟨dma (up [(Reg.LOP_MIRROR_ADDR 15, Fld.LOP_MIRROR_ADDR_ADDR, 512)] { sServ with lop := [(15, { LopSt.init with dirty := true })] }), 15, 512,
     by decide +kernel⟩⟩

theorem witness_FlowStreamsAndDumps :
    (∃ (s : State) (i : Fin 16) (h0 slot n : Nat) (crc : Word64), ((s.lopSlot i.val).run = .flowExport h0 slot n crc) ∧ (s.lopActive i.val = true) ∧
      (s.serving = true) ∧ ((s.lopSlot i.val).buf = []) ∧ (s.exportShard i.val h0 = 16) ∧ (1 ≤ s.outRoom i.val) ∧ (s.dmaEn = true) ∧ (s.bufferFor 1))
      ∧
    (∃ (s : State) (i : Fin 16) (h0 slot n : Nat) (crc : Word64) (e e2 : Ecc), ((s.lopSlot i.val).run = .flowExport h0 slot n crc) ∧ (s.lopActive
      i.val = true) ∧ (s.serving = true) ∧ ((s.lopSlot i.val).buf = []) ∧ (s.exportShard i.val h0 < 16) ∧ (s.dmcReady = true) ∧ (s.shardUp
      (s.exportShard i.val h0) = false) ∧ (s.exportMay (s.exportShard i.val h0) slot = true)) ∧
    (∃ (s : State) (i : Fin 16) (n : Nat) (crc : Word64) (line : List Byte) (es : List Ecc), ((s.lopSlot i.val).run = .flowImport false n crc) ∧
      (s.lopActive i.val = true) ∧ (s.serving = true) ∧ (s.dmaEn = true) ∧ ((s.lopSlot i.val).buf = []) ∧ (0 < s.inLeft i.val)) ∧
    (∃ (s : State) (i : Fin 16) (n : Nat) (crc : Word64) (line : List Byte) (es : List Ecc), ((s.lopSlot i.val).run = .flowImport true n crc) ∧
      (s.lopActive i.val = true) ∧ (s.serving = true) ∧ (s.dmaEn = true) ∧ ((s.lopSlot i.val).buf = []) ∧ (0 < s.inLeft i.val) ∧ (isTrailer (bytesAt
      line 0 64) = true)) ∧
    (∃ (s : State) (i : Fin 16) (a n k : Nat) (m : Bool), ((s.lopSlot i.val).run = .dump a n m) ∧ (s.lopActive i.val = true) ∧ (s.serving = true) ∧
      ((s.lopSlot i.val).buf = []) ∧ ((s.dumpStep i.val a n).1.length = 64 * k) ∧ (0 < k) ∧ (k ≤ s.outRoom i.val) ∧ (s.dmaEn = true) ∧ (s.bufferFor
      k)) ∧
    (∃ (s : State) (i : Fin 16) (a n : Nat) (m : Bool), ((s.lopSlot i.val).run = .dump a n m) ∧ (s.lopActive i.val = true) ∧ (s.serving = true) ∧
      ((s.lopSlot i.val).buf = []) ∧ (s.flag Reg.BPM_STATUS Fld.BPM_STATUS_READY = false ∨ s.dmaEn = false)) :=
  ⟨⟨dma (up [(Reg.LOP_OUT_CFG 15, Fld.LOP_OUT_CFG_LINES, 64)] (lop 15 (.flowExport 16 0 3 5) sServ)), 15, 16, 0, 3, 5, by decide +kernel,
     by decide +kernel, by decide +kernel, by decide +kernel, by decide +kernel, by decide +kernel, by decide +kernel, .inl (by decide +kernel)⟩,
   ⟨up [(Reg.LOP_ARG 15 0, ⟨0, 16⟩, 2 ^ 15)] (unit 287 1 (lop 15 (.flowExport 0 0 3 5) sMem)), 15, 0, 0, 3, 5, .ok, .ok, by decide +kernel⟩,
   ⟨dma (up [(Reg.LOP_IN_PROD 15, Fld.LOP_IN_PROD_PROD, 1)] (lop 15 (.flowImport false 0 5) sServ)), 15, 0, 5, List.replicate 64 0, [],
     by decide +kernel⟩,
   ⟨dma (up [(Reg.LOP_IN_PROD 15, Fld.LOP_IN_PROD_PROD, 1)] (lop 15 (.flowImport true 0 5) sServ)), 15, 0, 5, [0x53, 0x39, 0x46, 0x45] ++
     List.replicate 60 0, [], by decide +kernel⟩,
   ⟨dma (up [(Reg.LOP_OUT_CFG 15, Fld.LOP_OUT_CFG_LINES, 64)] (lop 15 (.dump 0 0 false) sServ)), 15, 0, 0, 2, false, by decide +kernel,
     by decide +kernel, by decide +kernel, by decide +kernel, by decide +kernel, by decide +kernel, by decide +kernel, by decide +kernel, .inl
     (by decide +kernel)⟩,
   ⟨up [(Reg.LOP_OUT_CFG 15, Fld.LOP_OUT_CFG_LINES, 64)] (lop 15 (.dump 0 0 false) sServ), 15, 0, 0, false, by decide +kernel⟩⟩

theorem witness_RepairsImagesAndRequests :
    (∃ (s : State) (i : Fin 16), ((s.lopSlot i.val).run = .rebuild) ∧ (s.lopActive i.val = true) ∧ (s.serving = true)) ∧
    (∃ (s : State) (i : Fin 16) (x : Nat) (es : List Ecc), ((s.lopSlot i.val).run = .scrub x) ∧ (s.lopActive i.val = true) ∧ (s.dmcReady = true) ∧ ((∀
      c, c < 12 → (s.lopArgN i.val 0).testBit c = true → s.bgMay c 0 = true ∧ s.bgMay c 1 = true))) ∧
    (∃ (s : State) (i : Fin 16) (c : Nat), (c = s.lopArgF i.val 0 0 4) ∧ (c < 12) ∧ ((s.lopSlot i.val).run = .migrate false) ∧ (s.lopActive i.val =
      true) ∧ (s.migrationFree c = true) ∧ (s.lopArgF i.val 0 4 2 ≠ s.ranks c - 1)) ∧
    (∃ (s : State) (i : Fin 16), ((s.lopSlot i.val).run = .migrate true) ∧ (s.lopActive i.val = true) ∧ (s.migState (s.lopArgF i.val 0 0 4) = 3)) ∧
    (∃ (s : State) (i : Fin 16) (e f : Bool) (n : Nat) (b : List Byte), ((s.lopSlot i.val).run = .image false e n) ∧ (s.lopActive i.val = true) ∧
      (s.serving = true) ∧ (s.cast.jnlOk = true)) ∧
    (∃ (s : State) (i : Fin 16) (f : Bool) (n : Nat) (b : List Byte), ((s.lopSlot i.val).run = .image true false n) ∧ (0 < n) ∧ (s.lopActive i.val =
      true) ∧ (s.serving = true) ∧ (s.slotQueued (s.lopArgF i.val 0 0 1) = false) ∧ (0 < s.inLeft i.val) ∧ (s.dmaEn = true) ∧ (b.length = 64)) ∧
    (∃ (s : State) (i : Fin 16) (f : Bool) (n : Nat) (b : List Byte), ((s.lopSlot i.val).run = .image true true n) ∧ (s.lopActive i.val = true) ∧
      (s.serving = true) ∧ (s.slotQueued (s.lopArgF i.val 0 0 1) = false)) ∧
    (∃ (s : State) (i : Fin 16) (b : List Byte), ((s.lopSlot i.val).run = .admission) ∧ (s.lopActive i.val = true) ∧ (s.serving = true) ∧ (0 <
      s.inLeft i.val) ∧ (s.dmaEn = true) ∧ (b.length = 64)) ∧
    (∃ (s : State) (i : Fin 16) (b : List Byte) (x : AdmitBlock), ((s.lopSlot i.val).run = .admission) ∧ (s.lopActive i.val = true) ∧ (s.serving =
      true) ∧ (s.inDone i.val = true) ∧ (s.admitBefore i.val = false) ∧ (s.dram.freq = .idle) ∧ (s.anyMigration = false) ∧ (admitBlockOk (s.lopSlot
      i.val).buf = true) ∧ (x = admitBlock (s.lopSlot i.val).buf) ∧ (x.badField = none) ∧ (s.fld Reg.CST_IMAGE_INFO Fld.CST_IMAGE_INFO_RUNTIME_ADMIT ≠
      0)) :=
  ⟨⟨lop 15 .rebuild sServ, 15, by decide +kernel⟩,
   ⟨up [(Reg.LOP_ARG 15 0, ⟨0, 16⟩, 1)] (lop 15 (.scrub 3) sMem), 15, 3, [], by decide +kernel⟩,
   ⟨up [(Reg.LOP_ARG 15 0, ⟨0, 16⟩, 0), (Reg.DMC_POP 0, Fld.DMC_POP_DIMMS, 2), (Reg.DMC_POP 0, Fld.DMC_POP_SPARE, 1)] (lop 15 (.migrate false) sMem),
     15, 0, by decide +kernel⟩,
   ⟨up [(Reg.DMC_MIG 0, Fld.DMC_MIG_STATE, 3)] (lop 15 (.migrate true) sMem), 15, by decide +kernel⟩,
   ⟨lop 15 (.image false false 0) sServ, 15, false, false, 0, [], by decide +kernel⟩,
   ⟨dma (up [(Reg.LOP_IN_PROD 15, Fld.LOP_IN_PROD_PROD, 1)] (lop 15 (.image true false 64) sServ)), 15, false, 64, List.replicate 64 7,
     by decide +kernel⟩,
   ⟨lop 15 (.image true true 64) sServ, 15, false, 64, [], by decide +kernel⟩,
   ⟨dma (up [(Reg.LOP_IN_PROD 15, Fld.LOP_IN_PROD_PROD, 1)] (lop 15 .admission sServ)), 15, List.replicate 64 7, by decide +kernel⟩,
   ⟨up [(Reg.CST_IMAGE_INFO, Fld.CST_IMAGE_INFO_RUNTIME_ADMIT, 1), (Reg.LOP_IN_PROD 15, Fld.LOP_IN_PROD_END, 1), (Reg.LOP_STATUS 15, lopState, 1)]
     { sMem with lop := [(15, { LopSt.init with run := .admission, buf := admitBytes })] }, 15, [], admitBlock admitBytes, by decide +kernel⟩⟩

theorem witness_ExporterSteps :
    (∃ (s : State) (h : Fin 16) (e0 e1 e2 : Ecc) (cfg : ExporterCfg) (n : Nat) (b : List Byte), (s.exportCfg = some cfg) ∧ (n = s.expectedSeq h.val
      cfg.ringEntries) ∧ (b = (s.ringEntry (s.slotLine cfg h.val n) e0 e1).1) ∧ (s.messageRoom cfg 3 = true)) ∧
    (∃ (s : State) (h : Fin 16) (cfg : ExporterCfg) (m n l : Nat), (s.exportCfg = some cfg) ∧ (Tbl.get none s.exporter.waitAt h.val = some m) ∧ (m +
      usTicks 10 ≤ s.clk.mono) ∧ (n = s.expectedSeq h.val cfg.ringEntries) ∧ (l = s.slotLine cfg h.val n) ∧ (slotUnwritten (s.slotBytes l) n = true))
      ∧
    (∃ (s : State) (w0 w1 : Word64) (cfg : ExporterCfg) (x : Nat), (s.exportCfg = some cfg) ∧ (s.exporter.records ≠ []) ∧ (cfg.wire = true ∨ s.down
      unitHif = false ∧ s.hostIsLost = true) ∧ ((s.poolAlloc (21 + s.activeCc) 2).1 = .granted x)) ∧
    (∃ (s : State) (cfg : ExporterCfg), (s.exportCfg = some cfg) ∧ (s.exporter.templatesAt + usTicks 1000000 * cfg.refreshS ≤ s.clk.mono) ∧ (16 +
      templateSet.length + ((dataSets s.exporter.records).flatMap setBytes).length ≤ cfg.mtu)) ∧
    (∃ (s : State) (cfg : ExporterCfg) (a : LineAt), (s.exportCfg = some cfg) ∧ (s.exporter.statusAt + msTicks 100 ≤ s.clk.mono) ∧ (s.locate
      (s.region8 0) = some a) ∧ (s.rankDead a = false) ∧ (s.poisoned (s.region8 0) = false)) :=
  ⟨⟨exporting (up [(Reg.FAE_AUX_BASE 0 8, ⟨0, 64⟩, 0)] sMem), 15, .ok, .ok, .ok, exporterCfg, 1, List.replicate 128 0, by decide +kernel⟩,
   ⟨atMono 8000 { exporting sMem with exporter := { ExporterSt.init with waitAt := [(15, some 0)] } }, 15, exporterCfg, 0, 1, 1922 + 1,
     by decide +kernel⟩,
   ⟨pool2 (up [(Reg.HIF_STATUS, Fld.HIF_STATUS_HOST_LOST, 1)]
     { exporting sMem with exporter := { ExporterSt.init with records := [(0, List.replicate 58 1)] } }), 0, 0, exporterCfg, 33554432,
     by decide +kernel⟩,
   ⟨atMono 800000000 (exporting sMem), exporterCfg, by decide +kernel⟩,
   ⟨atMono 80000000 (exporting sMem), exporterCfg, ⟨0, 0, 0, 0⟩, by decide +kernel⟩⟩

theorem witness_ControlComplexes :
    (∃ (s : State) (x p : Fin 2), (s.ccUp x.val = true) ∧ (Tbl.get none s.ccx.sent (hbKey x.val p.val) = none)) ∧
    (∃ (s : State) (x : Fin 2), (s.ccUp x.val = true) ∧ (s.ccUp (1 - x.val) = true) ∧ (s.hbSilent x.val 0 = true) ∧ (s.hbSilent x.val 1 = true) ∧
      (s.activeCc ≠ x.val)) ∧
    (∃ (s : State) (x : Fin 2), (s.ccUp x.val = true) ∧ (s.ccUp (1 - x.val) = true) ∧ (s.hbSilent x.val 0 = true) ∧ (s.hbSilent x.val 1 = false) ∧
      (Tbl.get false s.ccx.told (hbKey x.val 0) = false)) ∧
    (∃ (s : State) (a : Nat), (a = s.activeCc) ∧ (s.ccUp (1 - a) = true) ∧ (s.fld Reg.CCX_TAKEOVERS Fld.CCX_TAKEOVERS_COUNT < s.fld Reg.CCX_CFG
      Fld.CCX_CFG_TAKEOVER_LIMIT) ∧ (s.down (unitComplex a) = true ∨ s.hbSilent a 0 = true ∧ s.hbSilent a 1 = true)) ∧
    (∃ (s : State) (x : Nat), (x = 1 - s.activeCc) ∧ (s.flag Reg.CCX_CTL Fld.CCX_CTL_AUTO_RESTART = true) ∧ (s.serving = true) ∧ (s.unitState
      (unitComplex x) = 1)) ∧
    (∃ (s : State) (x : Nat), (x = 1 - s.activeCc) ∧ (s.flag Reg.CCX_CTL Fld.CCX_CTL_AUTO_RESTART = true) ∧ (s.serving = true) ∧ (s.unitState
      (unitComplex x) = 1)) :=
  ⟨⟨sServ, 0, 1, by decide +kernel⟩,
   ⟨both sServ, 1, by decide +kernel⟩,
   ⟨{ both sServ with ccx := { CcxSt.init with heard := [(hbKey 1 1, some 0)] } }, 1, by decide +kernel⟩,
   ⟨up [(Reg.CCX_CFG, Fld.CCX_CFG_TAKEOVER_LIMIT, 1)] (both sServ), 0, by decide +kernel⟩,
   ⟨up [(Reg.CCX_CTL, Fld.CCX_CTL_AUTO_RESTART, 1)] (unit 313 1 (both sServ)), 1, by decide +kernel⟩,
   ⟨up [(Reg.CCX_CTL, Fld.CCX_CTL_AUTO_RESTART, 1)] (unit 313 1 (both sServ)), 1, by decide +kernel⟩⟩

theorem witness_SwitchOver :
    (∃ (s : State) (a : Nat), (a = s.activeCc) ∧ (s.ccUp (1 - a) = true) ∧ (s.imageWriting = false) ∧ (s.fld Reg.CCX_TAKEOVERS Fld.CCX_TAKEOVERS_COUNT <
      s.fld Reg.CCX_CFG Fld.CCX_CFG_TAKEOVER_LIMIT)) ∧
    (∃ (s : State), (s.ccUp (1 - s.activeCc) = false ∨ s.imageWriting = true)) :=
  ⟨⟨up [(Reg.CCX_CFG, Fld.CCX_CFG_TAKEOVER_LIMIT, 1)] (both sServ), 0, by decide +kernel⟩,
   ⟨sServ, by decide +kernel⟩⟩

theorem witness_TwinLinkSteps :
    (∃ (s : State) (p : Fin 2), (s.beats = true) ∧ (s.twin.linkSent = none) ∧ (s.twin.sideSent = none) ∧ (s.down unitTwin = false)) ∧
    (∃ (s : State) (p : Fin 2) (claim : BitVec 32) (role sync : Fin 4) (x : TwinPair), (s.twinEn = true) ∧ (s.phase = 11) ∧ (s.down unitTwin = false))
      ∧
    (∃ (s : State) (p : Fin 2) (m : Nat) (f g : Fld), ((p.val = 0 ∧ s.twin.linkAt = some m ∧ f = Fld.TWN_STATUS_LINK_HB ∧ g =
      Fld.TWN_STATUS_SIDEBAND_HB) ∨ (p.val = 1 ∧ s.twin.sideAt = some m ∧ f = Fld.TWN_STATUS_SIDEBAND_HB ∧ g = Fld.TWN_STATUS_LINK_HB)) ∧ (s.twinEn =
      true) ∧ (s.twnFld f = 1) ∧ (m + usTicks (s.fld Reg.TWN_CFG Fld.TWN_CFG_HB_TIMEOUT_US) ≤ s.clk.mono)) ∧
    (∃ (s : State) (k : Nat), (s.mirrors = true) ∧ (s.twin.unacked.length < 64) ∧ (s.nextQueue = some k)) ∧
    (∃ (s : State) (x : TwinSent) (r : List TwinSent), (s.twin.unacked = x :: r) ∧ (x.at_ + usTicks 10 ≤ s.clk.mono) ∧ (s.twinEn = true) ∧ (s.down
      unitTwin = false)) ∧
    (∃ (s : State) (claim seq : BitVec 32) (l : List (Fin 16 × List Byte)), (s.twinEn = true) ∧ (s.down unitTwin = false) ∧ (s.twnFld
      Fld.TWN_STATUS_PAIR_ERR = 0) ∧ (s.twin.paired = true)) ∧
    (∃ (s : State) (seq : BitVec 32) (k : Nat), (s.twin.unacked.findIdx? (fun x => x.frame.seq == seq.toNat) = some k) ∧ (s.twinEn = true) ∧ (s.down
      unitTwin = false)) :=
  ⟨⟨twinOn sServ, 1, by decide +kernel⟩,
   ⟨twinOn sServ, 1, 5, 2, 1, ⟨0, 0, 0, 0, true⟩, by decide +kernel⟩,
   ⟨atMono (2 ^ 40) (onTwin (fun x => { x with sideAt := some 0 }) (up [(Reg.TWN_STATUS, Fld.TWN_STATUS_SIDEBAND_HB, 1)] (twinOn sServ))), 1, 0,
     Fld.TWN_STATUS_SIDEBAND_HB, Fld.TWN_STATUS_LINK_HB, by decide +kernel⟩,
   ⟨onTwin (fun x => { x with queues := [(15, [[4, 15]])] }) (primary sServ), 15, by decide +kernel⟩,
   ⟨atMono 8000 (onTwin (fun x => { x with unacked := [⟨⟨1, 2, []⟩, 0⟩] }) (primary sServ)), ⟨⟨1, 2, []⟩, 0⟩, [], by decide +kernel⟩,
   ⟨onTwin (fun x => { x with paired := true }) (twinOn sServ), 5, 0, [(15, [4, 15])], by decide +kernel⟩,
   ⟨onTwin (fun x => { x with unacked := [⟨⟨1, 2, []⟩, 0⟩] }) (primary sServ), 2, 0, by decide +kernel⟩⟩

theorem witness_TwinMirroring :
    (∃ (s : State) (h : Fin 16) (b : List Byte) (r : List (Nat × List Byte)) (es : List Ecc), (s.twin.apply = (h.val, b) :: r) ∧ (vecByte b 0 = 4) ∧
      (s.twinEn = true) ∧ (s.shardUp h.val = true) ∧ (s.dmcReady = true)) ∧
    (∃ (s : State) (h : Fin 16), (s.mirrors = true) ∧ (Tbl.get 0 s.twin.batchAt h.val + usTicks (s.fld Reg.TWN_CFG Fld.TWN_CFG_BATCH_US) ≤
      s.clk.mono)) ∧
    (∃ (s : State), (s.twinEn = true) ∧ (s.twnFld Fld.TWN_STATUS_PAIR_ERR = 0) ∧ (s.twnFld Fld.TWN_STATUS_PARTNER_LOST = 0) ∧ (s.partnerClaim + 1 <
      4294967296)) ∧
    (∃ (s : State), (s.twinEn = true) ∧ (s.twnFld Fld.TWN_STATUS_PAIR_ERR ≠ 0 ∨ s.twnFld Fld.TWN_STATUS_PARTNER_LOST = 1)) ∧
    (∃ (s : State), (s.twinEn = true) ∧ (s.twinRole = 1) ∧ (s.twnFld Fld.TWN_STATUS_PAIR_ERR = 0) ∧ (s.twin.paired = true)) ∧
    (∃ (s : State) (x : SyncPass) (e e2 : Ecc), (s.mirrors = true) ∧ (s.twin.pass = some x) ∧ (s.dmcReady = true) ∧ (x.shard < 16) ∧ ((Tbl.get []
      s.twin.queues x.shard).length ≤ 8190) ∧ (s.shardUp x.shard = false) ∧ (s.exportMay x.shard x.slot = true) ∧ (x.slot + 1 < s.shardSlots x.shard))
      ∧
    (∃ (s : State) (x : SyncPass) (e e2 : Ecc), (s.mirrors = true) ∧ (s.twin.pass = some x) ∧ (s.dmcReady = true) ∧ (x.shard = 16) ∧ ((Tbl.get []
      s.twin.queues 0).length ≤ 8190) ∧ ((∀ r, r < 16 → s.passLines r = 0))) :=
  ⟨⟨onTwin (fun x => { x with apply := [(15, [4, 0, 0, 0])] }) (twinOn sMem), 15, [4, 0, 0, 0], [], [], by decide +kernel⟩,
   ⟨atMono (2 ^ 40) (primary sMem), 15, by decide +kernel⟩,
   ⟨twinOn sMem, by decide +kernel⟩,
   ⟨up [(Reg.TWN_STATUS, Fld.TWN_STATUS_PARTNER_LOST, 1)] (twinOn sMem), by decide +kernel⟩,
   ⟨onTwin (fun x => { x with paired := true }) (primary sServ), by decide +kernel⟩,
   ⟨onTwin (fun x => { x with pass := some ⟨15, 3, 0, 0⟩ }) (unit 287 1 (primary sMem)), ⟨15, 3, 0, 0⟩, .ok, .ok, by decide +kernel⟩,
   ⟨onTwin (fun x => { x with pass := some ⟨16, 0, 0, 0⟩ }) (primary sMem), ⟨16, 0, 0, 0⟩, .ok, .ok, by decide +kernel⟩⟩

theorem witness_PowerDomains :
    (∃ (s : State) (d : Fin 128), (s.flag Reg.PMU_PD_CMD Fld.PMU_PD_CMD_BUSY = false) ∧ (d.val < 80) ∧ (domSwitchable d.val = true) ∧ (s.phase = 11) ∧
      (s.dom d.val = 1) ∧ (s.quiesceBar d.val = none)) ∧
    (∃ (s : State) (d : Fin 128), (s.flag Reg.PMU_PD_CMD Fld.PMU_PD_CMD_BUSY = false) ∧ (d.val < 80) ∧ (domSwitchable d.val = true) ∧ (s.phase = 11) ∧
      (s.dom d.val = 2) ∧ (s.offBar d.val = none)) ∧
    (∃ (s : State) (d : Fin 128), (s.flag Reg.PMU_PD_CMD Fld.PMU_PD_CMD_BUSY = false) ∧ (d.val < 80) ∧ (domSwitchable d.val = true) ∧ (s.phase = 11) ∧
      (s.dom d.val = 0 ∨ s.dom d.val = 2) ∧ (s.onBar d.val = none)) ∧
    (∃ (s : State) (d : Fin 128) (c : Instr), (c ∈ [Instr.quiesce d, .powerOff d, .powerOn d]) ∧ (s.flag Reg.PMU_PD_CMD Fld.PMU_PD_CMD_BUSY = true)) ∧
    (∃ (s : State) (d : Nat) (op : Nat), (s.power.pdRun = some (op, d)) ∧ (d < 80) ∧ (op = 1 ∨ op = 2)) ∧
    (∃ (s : State) (d : Nat) (op : Nat) (ok : Bool), (s.power.pdRun = some (op, d)) ∧ (d < 80) ∧ (op = 3 ∨ op = 4)) ∧
    (∃ (s : State), (s.phase = 11) ∧ (s.power.shutdown = false)) :=
  ⟨⟨sRun, 77, by decide +kernel⟩,
   ⟨sRun.setDom 77 2, 77, by decide +kernel⟩,
   ⟨sRun.setDom 77 0, 77, by decide +kernel⟩,
   ⟨up [(Reg.PMU_PD_CMD, Fld.PMU_PD_CMD_BUSY, 1)] sRun, 77, .quiesce 77, by decide +kernel⟩,
   ⟨{ sRun with power := { sRun.power with pdRun := some (2, 77) } }, 77, 2, by decide +kernel⟩,
   ⟨{ sRun with power := { sRun.power with pdRun := some (4, 77) } }, 77, 4, true, by decide +kernel⟩,
   ⟨onCast (fun x => { x with jq := [entry1] }) (ringOf 3 sServ), by decide +kernel⟩⟩

theorem witness_ResetsAndTheTestPort :
    (∃ (s : State) (n : Nat), (s.power.sysResetLow = false)) ∧
    (∃ (s : State), (s.power.sysResetLow = true)) ∧
    (∃ (s : State) (c : Instr) (i : JtagInstr) (dr : List Bool), ((c, i, dr) ∈ [(Instr.idcode, JtagInstr.idcode, idcodeBits), (.highz, .highz,
      bypassBit), (.clamp, .clamp, bypassBit), (.bypass, .bypass, bypassBit), (.extest, .extest, s.boundaryOrBypass), (.extestPulse, .extestPulse,
      s.boundaryOrBypass), (.extestTrain, .extestTrain, s.boundaryOrBypass)])) :=
  ⟨⟨sPort, 3, by decide +kernel⟩,
   ⟨{ sPort with power := { sPort.power with sysResetLow := true } }, by decide +kernel⟩,
   ⟨{ s0 with jtag := { s0.jtag with bsr := [true] } }, .extest, .extest, s0.boundaryOrBypass, by decide +kernel⟩⟩
/-! ### WellFormed: a command that each check refuses -/

theorem test_wf_registerWrite_misaligned : (Instr.registerWrite 0x24 [0]).wf = false := by decide
theorem test_wf_registerWrite_crosses_line : (Instr.registerWrite 0x38 [0, 0]).wf = false := by decide
theorem test_wf_badAccess_valid : (Instr.badAccess true 0x20 8 true).wf = false := by decide
theorem test_wf_accessDomainNotOn_short : (Instr.accessDomainNotOn false 0x20 4).wf = false := by decide
theorem test_wf_complexWrite_misaligned : (Instr.complexWrite 0 (.register 0x21 0)).wf = false := by decide
theorem test_wf_complexWrite_empty : (Instr.complexWrite 1 (.image 0 [])).wf = false := by decide
theorem test_wf_rxFrame_empty : (Instr.rxFrame 0 [] true ⟨0, 0, 0, 0, false⟩).wf = false := by decide
theorem test_wf_dimmAlert_none : (Instr.dimmAlert 0 true 0).wf = false := by decide
theorem test_wf_tempSample_short : (Instr.tempSample []).wf = false := by decide
theorem test_wf_phaseDram_empty : (Instr.phaseDram [] [(0, [])]).wf = false := by decide
theorem test_wf_phaseTables_port : (Instr.phaseTables { ImageTables.init with gates := [⟨512, []⟩] } none).wf = false := by decide
theorem test_wf_apRead_empty : (Instr.apRead 0 0 0 []).wf = false := by decide
theorem test_wf_apWrite_beyond : (Instr.apWrite 0 4294967295 [0, 0] []).wf = false := by decide
theorem test_wf_txInject_length : (Instr.txInject 60 0 [1]).wf = false := by decide
theorem test_wf_flowImport_short : (Instr.flowImport 0 [1] []).wf = false := by decide
theorem test_wf_imageWrite_line : (Instr.imageWrite 0 [1] false).wf = false := by decide
theorem test_wf_admitRequest_line : (Instr.admitRequest 0 [1]).wf = false := by decide
theorem test_wf_samplePreload_lengths : (Instr.samplePreload [true] []).wf = false := by decide

/-! ### Values worked out by hand, and the spec's worked examples -/

/-- The state that an outcome leaves; the reset state where it leaves none. -/
def after : Host.Outcome State Fault Refusal → State
  | .next t => t
  | .fault _ => State.reset
  | .refused _ => State.reset

/-- R52, R53: at 0.999999999 s and 0.75 ns a tick of 1.25 ns carries into the seconds and leaves 1 ns. -/
theorem test_tick_carries :
    (fun t : State => (t.clk.mono, t.clk.sec, t.clk.ns, t.clk.frac))
      (after (step (clk (fun c => { c with ns := 999999999, frac := 0xC0000000, incNs := 1, incFrac := 0x40000000 }) State.reset)))
      = (1, 1, 1, 0) := by
  decide +kernel

/-- The addresses of the worked examples of 19_register_map.md. -/
theorem test_addresses :
    Reg.SCH_GRP_DATA 9 = 0x04901060 ∧ Reg.PRT_CNT 200 1 6 = 0x010C8A30 ∧ Reg.TMG_QCNT 2 82 4 = 0x05822940
      ∧ Reg.DMC_FREQ 0 = 0x00100810 := by
  decide

/-- R458, R459: the misaligned read of 16 bytes at 0x010C_8A34 is counted, latched with CAUSE 1, and reads all ones. -/
theorem test_misaligned_read :
    (fun t : State => (t.fld Reg.GLB_BAD_LAST Fld.GLB_BAD_LAST_LEN, t.fld Reg.GLB_BAD_LAST Fld.GLB_BAD_LAST_CAUSE,
      (t.reg Reg.GLB_BAD_ACCESS).toNat, t.readback))
      (after (exec (.badAccess false 0x010C8A34 16 true) State.reset)) = (16, 1, 1, [BitVec.allOnes 64, BitVec.allOnes 64]) := by
  decide +kernel

/-- R75: the worked example of the home of a flow, bucket 505,557. -/
theorem test_home_bucket : homeBucket 0x9C3A51F00E27B6D5 20 = 505557 := by decide +kernel

/-- R43: the FCS is the CRC-32 of IEEE 802.3, whose value over the digits 1 to 9 is 0xCBF43926. -/
theorem test_crc32 : crc32 [0x31, 0x32, 0x33, 0x34, 0x35, 0x36, 0x37, 0x38, 0x39] = 0xCBF43926 := by decide +kernel

/-- The queue is first in, first out: step runs the front command and leaves the second. -/
theorem test_queue_order :
    (after (step { State.reset with pending := [.todCancel, .bypass] })).pending = [.bypass] := by
  decide +kernel

/-- The population of the worked example of 09_dram_tier.md. -/
def sExample : State :=
  up ((List.range 12).flatMap (fun c => [(Reg.DMC_POP c, Fld.DMC_POP_DIMMS, 2), (Reg.DMC_POP c, Fld.DMC_POP_RANKS_PER_DIMM, 1),
    (Reg.DMC_POP c, Fld.DMC_POP_SPARE, 1)]) ++ [(Reg.DMC_SPACE 0, Fld.DMC_SPACE_BYTES, 1236950581248)]) s0

/-- R254: the worked example, line 7,330,077,517. -/
theorem test_dram_locate : sExample.locate 7330077517 = some { ch := 6, sub := 1, rank := 1, line := 0x2345678 } := by decide +kernel

/-- R255: the worked example, ORDER 0 gives G 0, B 3, W 0x2345 and ORDER 3 gives G 5, B 3. -/
theorem test_dram_bank :
    sExample.bankRow { ch := 6, sub := 1, rank := 1, line := 0x2345678 } = (32 + 4 * 0 + 3, 0x2345)
      ∧ (up [(Reg.DMC_MAP 0, Fld.DMC_MAP_ORDER, 3)] sExample).bankRow { ch := 6, sub := 1, rank := 1, line := 0x2345678 }
        = (32 + 4 * 5 + 3, 0x2345) := by
  decide +kernel

/-- R232, R233: bit 5 of shard 3 is port 1024 + 80 + 3, and its map entry for address 2 lies in line 64512 + 12101 / 2. -/
theorem test_port_and_map_line : natPort 3 5 = 1107 ∧ mapLine 2 3 5 = 70562 ∧ bitmapLine 2 3 7 = 287 := by decide

/-- R239: a SYN opens state 1, the SYN with ACK of the replier makes it 2, the originator's ACK 3. -/
def tcpSeen (syn ack orig : Bool) : Seen :=
  { tcp := true, udp := false, echo := false, echoReply := false, syn := syn, ack := ack, fin := false, rst := false, orig := orig }
theorem test_handshake :
    connFirst true (tcpSeen true false true) = some 1 ∧ connNext 1 0 (tcpSeen true true false) = (2, 0)
      ∧ connNext 2 0 (tcpSeen false true true) = (3, 0) := by
  decide

/-- R242: 10 PT at one byte per PT give 10 bytes, which do not cover a frame of 11 bytes; a full peak bucket does: yellow. -/
theorem test_policer :
    ((Policer.refill { tc := 0, tp := 1600, last := 90 } 100 16384 16384 1600 1600).take 11) =
      (1, { tc := 160, tp := 1600 - 176, last := 100 }) := by
  decide

end Sys2Proof.Tests
end

section
/-! PROOF. Statistics clears (R64) and reads that clear (R7): which registers a clear zeroes, what it leaves, and what a
read-clear read returns and leaves. -/

namespace Sys2Proof.Machine

/-! ### Clears of counter arrays -/

/-- `t` is `s` with the registers of `l` at 0 and nothing else changed. -/
def State.Cleared (s t : State) (l : List Nat) : Prop :=
  (∀ b, t.reg b = if b ∈ l then 0 else s.reg b) ∧ s.onlyParts t [.regs]

theorem State.Cleared.refl (s : State) : s.Cleared s [] := ⟨fun _ => by simp, s.onlyParts_refl _⟩

/-- Two clears in a row clear both lists. -/
theorem State.Cleared.trans {s t u : State} {l m : List Nat} (a : s.Cleared t l) (b : t.Cleared u m) :
    s.Cleared u (l ++ m) := by
  refine ⟨fun x => ?_, State.onlyParts_trans a.2 b.2⟩
  rw [b.1, a.1]
  by_cases hl : x ∈ l <;> by_cases hm : x ∈ m <;> simp [hl, hm]

theorem mem_counterArray (a n b : Nat) : b ∈ counterArray a n ↔ ∃ i, i < n ∧ b = a + 8 * i := by
  simp [counterArray, eq_comm]

theorem counterWords_succ (base stride n w k : Nat) :
    counterWords base stride (n + 1) w k = counterWords base stride n w k ++ counterArray (base + stride * n + 8 * w) k := by
  simp [counterWords, counterArray, List.range_succ]

theorem State.clearRegs_cleared (s : State) (a n : Nat) : s.Cleared (s.clearRegs a n) (counterArray a n) :=
  ⟨fun b => by simp only [State.reg_clearRegs, mem_counterArray]; rfl, State.onlyParts_of_regs _ _ (s.clearRegs_rest a n)⟩

/-- Words of a strided array: one counter array for each element. -/
theorem State.clearWords_cleared (s : State) (base stride n w k : Nat) :
    s.Cleared (s.clearWords base stride n w k) (counterWords base stride n w k) := by
  induction n with
  | zero => exact State.Cleared.refl s
  | succ n ih => rw [counterWords_succ]; exact ih.trans (State.clearRegs_cleared _ _ _)

/-- The words of an array do not depend on where in the element its address points. -/
theorem counterWords_shift {base base' w w' : Nat} (h : base + 8 * w = base' + 8 * w') (stride n k : Nat) :
    counterWords base stride n w k = counterWords base' stride n w' k := by
  have hrow (i j : Nat) : base + stride * i + 8 * w + 8 * j = base' + stride * i + 8 * w' + 8 * j := by omega
  simp only [counterWords, hrow]

/-- The same, of the array whose own name is the first of the words cleared. -/
theorem State.clearWords_cleared_from (s : State) {base base' w : Nat} (h : base' = base + 8 * w) (stride n k : Nat) :
    s.Cleared (s.clearWords base stride n w k) (counterWords base' stride n 0 k) := by
  have hwords : counterWords base' stride n 0 k = counterWords base stride n w k := counterWords_shift (by omega) stride n k
  rw [hwords]
  exact s.clearWords_cleared base stride n w k

/-- A command that answers by a clear. -/
theorem State.Cleared.done {s t : State} {l : List Nat} (h : s.Cleared t l) :
    ∃ u, done s t = .next u ∧ s.Cleared u l := by
  obtain ⟨hreg, hpending, hparts⟩ := h
  refine ⟨_, done_eq s t, hreg, rfl, fun p hp => ?_⟩
  have hpart := hparts p hp
  cases p with
  | clk => rfl
  | _ => exact hpart

/-! ### The clears of several arrays -/

theorem slcCntClr_cleared (i : Fin 16) (s : State) : s.Cleared (slcCntClr i s) (clearedBy (.slcCntClr i)) :=
  (s.clearRegs_cleared _ _).trans (State.clearWords_cleared_from _ (by simp only [Reg.SLC_POL_CNT_G, Reg.SLC_POL_RATE]; omega) _ _ _)

theorem bufCntClr_cleared (s : State) : s.Cleared (bufCntClr s) (clearedBy .bufCntClr) :=
  ((s.clearRegs_cleared _ _).trans (State.clearRegs_cleared _ _ _)).trans (State.clearWords_cleared_from _ rfl _ _ _)

theorem tmgCntClr_cleared (q : Fin 4) (s : State) : s.Cleared (tmgCntClr q s) (clearedBy (.tmgCntClr q)) :=
  ((s.clearRegs_cleared _ _).trans (State.clearRegs_cleared _ _ _)).trans
    (State.clearWords_cleared_from _ (by simp only [Reg.TMG_QCNT, Reg.TMG_QCFG0]; omega) _ _ _)

theorem schCtlCntClr_cleared (q : Fin 4) (s : State) : s.Cleared (schCtlCntClr q s) (clearedBy (.schCtlCntClr q)) :=
  (s.clearRegs_cleared _ _).trans
    (State.clearWords_cleared_from _ (by simp only [Reg.TMG_GAUGE_SUM, Reg.TMG_QSHAPE_RATE]; omega) _ _ _)

theorem hifCntClr_cleared (s : State) : s.Cleared (hifCntClr s) (clearedBy .hifCntClr) :=
  (s.clearRegs_cleared _ _).trans (State.clearWords_cleared_from _ rfl _ _ _)

/-- Every CNT_CLR command clears the registers of its block and nothing else. -/
theorem exec_cntClr_cleared (c : Instr) (s : State) (h : clearedBy c ≠ []) :
    ∃ t, exec c s = .next t ∧ s.Cleared t (clearedBy c) := by
  cases c with
  | slcCntClr i => exact (slcCntClr_cleared i s).done
  | bufCntClr => exact (bufCntClr_cleared s).done
  | tmgCntClr q => exact (tmgCntClr_cleared q s).done
  | schCtlCntClr q => exact (schCtlCntClr_cleared q s).done
  | hifCntClr => exact (hifCntClr_cleared s).done
  | prtCntClr | macCntClr | tmbCntClr | hnkCntClr | schCntClr | faeCntClr | pcntClr | wrdCntClr | dmcCntClr | bpmCntClr
  | cstCntClr | fltCntClr | ccxCntClr | twnCntClr | pmuCntClr => exact (s.clearRegs_cleared _ _).done
  | _ => exact absurd rfl h

/-! ### Reads that clear -/

/-- A read whose block answers returns the view and clears. -/
theorem State.done_rcRead {s : State} {a : Nat} (h : s.answers a = true) (clear : State → State) :
    done s (s.rcRead a clear) =
      .next { clear { s with readback := [s.readReg a] } with pending := s.pending, clk := s.clk } := by
  rw [State.rcRead, if_pos h, done_eq]

/-- A change of the registers and of the read-out. -/
theorem State.onlyParts_of_regs_readback (s t : State) (h : { t with regs := s.regs, readback := s.readback } = s) :
    s.onlyParts t [.regs, .readback] := by
  rw [← h]
  refine ⟨rfl, fun p hp => ?_⟩
  cases p with
  | regs | readback => simp at hp
  | _ => rfl

/-- A read that clears one field of the register read. -/
theorem State.done_rcRead_setFld {s : State} {a : Nat} (h : s.answers a = true) (f : Fld) (hf : f.lo + f.len ≤ 64) :
    ∃ t, done s (s.rcRead a (fun u => u.setFld a f 0)) = .next t ∧ t.readback = [s.readReg a] ∧ t.fld a f = 0
      ∧ s.onlyRegs t [a] ∧ s.onlyParts t [.regs, .readback] :=
  ⟨_, State.done_rcRead h _, rfl, (State.fld_setFld_self _ a f 0 hf).trans (Nat.zero_mod _), s.onlyRegs_setFld a f 0,
    State.onlyParts_of_regs_readback _ _ rfl⟩

/-- A read that clears two fields of the register read. -/
theorem State.done_rcRead_setFld_setFld {s : State} {a : Nat} (h : s.answers a = true) (f g : Fld)
    (hf : f.lo + f.len ≤ 64) (hg : g.lo + g.len ≤ 64) (hfg : g.apart f) :
    ∃ t, done s (s.rcRead a (fun u => (u.setFld a f 0).setFld a g 0)) = .next t ∧ t.readback = [s.readReg a]
      ∧ t.fld a f = 0 ∧ t.fld a g = 0 ∧ s.onlyRegs t [a] ∧ s.onlyParts t [.regs, .readback] :=
  ⟨_, State.done_rcRead h _, rfl,
    ((State.fld_setFld_apart _ a g f 0 hfg).trans (State.fld_setFld_self _ a f 0 hf)).trans (Nat.zero_mod _),
    (State.fld_setFld_self _ a g 0 hg).trans (Nat.zero_mod _),
    State.onlyRegs_trans (s.onlyRegs_setFld a f 0) (State.onlyRegs_setFld _ a g 0),
    State.onlyParts_of_regs_readback _ _ rfl⟩

/-- BUF.LOW: the read forgets the lowest FREE. -/
theorem exec_bufLowRead {s : State} (h : s.answers Reg.BUF_LOW = true) :
    ∃ t, exec .bufLowRead s = .next t ∧ t.readback = [s.readReg Reg.BUF_LOW] ∧ t.buf.low = none
      ∧ s.onlyParts t [.buf, .readback] := by
  refine ⟨_, State.done_rcRead h _, rfl, rfl, rfl, fun p hp => ?_⟩
  cases p with
  | buf | readback => simp at hp
  | _ => rfl

/-- BPM.POOL_STATUS: the lowest FREE starts from the FREE of the read. -/
theorem exec_poolStatusRead {s : State} {p : Fin 4} (h : s.answers (Reg.BPM_POOL_STATUS p) = true) :
    ∃ t, exec (.poolStatusRead p) s = .next t ∧ t.readback = [s.readReg (Reg.BPM_POOL_STATUS p)]
      ∧ Tbl.get none t.pools.low p = some (s.poolFree p) ∧ s.onlyParts t [.pools, .readback] := by
  have hlow := (Tbl.get_set none s.pools.low p p (some (s.poolFree p))).trans (if_pos rfl)
  refine ⟨_, State.done_rcRead h _, rfl, hlow, rfl, fun p hp => ?_⟩
  cases p with
  | pools | readback => simp at hp
  | _ => rfl

/-- Settles O7: every CNT_CLR clears whole counter arrays, and every read-clear read clears fields of the register read, or
the one value of the state that the register shows. -/
theorem counterReadsAndClears : Obligations.CounterReadsAndClears := by
  refine ⟨fun c s h => ?_, fun s h ha => ?_, fun s h ha => ?_, fun s ha => exec_bufLowRead ha, fun s q ha => ?_,
    fun s p ha => exec_poolStatusRead ha, fun s q u ha => ?_, fun s ha => ?_⟩
  · obtain ⟨t, ht, hreg, hparts⟩ := exec_cntClr_cleared c s h
    exact ⟨t, ht, fun a ha => (hreg a).trans (if_pos ha), fun a ha => (hreg a).trans (if_neg ha), hparts⟩
  · exact State.done_rcRead_setFld ha Fld.HNK_ENTRY_STATUS_HIGH_WATER (by decide)
  · exact State.done_rcRead_setFld_setFld ha Fld.SCH_HIGH_REORDER_HIGH Fld.SCH_HIGH_READY_HIGH (by decide) (by decide)
      (.inr (by decide))
  · exact State.done_rcRead_setFld ha Fld.TMG_DESC_HIGH (by decide)
  · exact State.done_rcRead_setFld_setFld ha Fld.TMG_GAUGE_MAX_DEPTH_MAX Fld.TMG_GAUGE_MAX_SOJOURN_MAX (by decide) (by decide)
      (.inr (by decide))
  · exact State.done_rcRead_setFld ha Fld.PMU_THERM_MAX_C (by decide)

end Sys2Proof.Machine
end

section
/-! PROOF. What the machine holds after reset (R6, R343, R354, R436). -/

namespace Sys2Proof.Machine

/-- Only the journal tokens differ from their factory value after reset. -/
theorem reset_reg {a : Nat} (h : a ≠ Reg.CST_JNL_TOKENS) : State.reset.reg a = regDefault a :=
  if_neg h

/-- The factory value of a unit's register: ESSENTIAL and REPAIRABLE, above STATE. -/
theorem regDefault_fltUnit {u : Nat} (h : u < 315) :
    regDefault (Reg.FLT_UNIT u) = BitVec.ofNat 64 ((bit (unitEssential u) <<< 3) ||| (bit (unitRepairable u) <<< 4)) := by
  have hindex : (Reg.FLT_UNIT u - Reg.FLT_UNIT 0) / 8 = u := by simp only [Reg.FLT_UNIT]; omega
  have hlo : 0x20400 ≤ Reg.FLT_UNIT u := Nat.le_add_right _ _
  have hhi : Reg.FLT_UNIT u ≤ Reg.FLT_UNIT 314 := by simp only [Reg.FLT_UNIT]; omega
  have hhi' : Reg.FLT_UNIT u ≤ 0x20DD0 := hhi
  have hspecial : defaultSpecial (Reg.FLT_UNIT u) = some ((bit (unitEssential u) <<< 3) ||| (bit (unitRepairable u) <<< 4)) := by
    rw [defaultSpecial, if_neg (by simp only [Reg.TMB_GEN_SLOT]; omega), if_neg (by simp only [Reg.BPM_POOL_CFG]; omega),
      if_neg (by simp only [Reg.BPM_POOL_CFG]; omega), if_neg (by simp only [Reg.BPM_POOL_CFG]; omega),
      if_neg (by simp only [Reg.BPM_POOL_CFG]; omega), if_pos ⟨hlo, hhi⟩, hindex]
  rw [regDefault, hspecial]

/-- Every unit is in service (R395). -/
theorem reset_unitState {u : Nat} (h : u < 315) : State.reset.unitState u = 0 := by
  have haddr : Reg.FLT_UNIT u ≠ Reg.CST_JNL_TOKENS := by simp only [Reg.FLT_UNIT, Reg.CST_JNL_TOKENS]; omega
  rw [State.unitState, State.fld, reset_reg haddr, regDefault_fltUnit h]
  cases unitEssential u <;> cases unitRepairable u <;> decide

/-- An address above all the blocks of a list is sought behind them. -/
theorem findBlock_append (l r : List BlockDef) (a : Nat)
    (h : ∀ b ∈ l, b.base + max b.extent (b.stride * b.count) ≤ a) : findBlock (l ++ r) a = findBlock r a := by
  induction l with
  | nil => rfl
  | cons b l ih =>
    have hb : b.base + max b.extent (b.stride * b.count) ≤ a := h b (by simp)
    have hout : ¬ ((if b.stride = 0 then 0 else (a - b.base) / b.stride) < b.count ∧
        (if b.stride = 0 then a - b.base else (a - b.base) % b.stride) < b.extent) := by
      rintro ⟨hcopy, hoff⟩
      split at hcopy
      · next hs => rw [if_pos hs] at hoff; omega
      · next hs =>
        have := (Nat.div_lt_iff_lt_mul (Nat.pos_of_ne_zero hs)).1 hcopy
        rw [Nat.mul_comm] at this
        omega
    rw [List.cons_append, findBlock, if_pos (by omega)]
    exact (if_neg hout).trans (ih fun x hx => h x (List.mem_cons_of_mem b hx))

/-- An offset in copy i of the first block of a list. -/
theorem findBlock_cons (b : BlockDef) (r : List BlockDef) {i off : Nat} (hi : i < b.count) (hoff : off < b.extent)
    (hfit : b.extent ≤ b.stride) : findBlock (b :: r) (b.base + b.stride * i + off) = some (b, i, off) := by
  have hpos : 0 < b.stride := by omega
  have hat : b.base + b.stride * i + off - b.base = off + b.stride * i := by omega
  have hcopy : (off + b.stride * i) / b.stride = i := by
    rw [Nat.add_mul_div_left _ _ hpos, Nat.div_eq_of_lt (by omega), Nat.zero_add]
  have hrest : (off + b.stride * i) % b.stride = off := by
    rw [Nat.add_mul_mod_self_left, Nat.mod_eq_of_lt (by omega)]
  rw [findBlock, if_pos (by omega)]
  simp only [hat, hcopy, hrest, if_neg (Nat.ne_of_gt hpos), hi, hoff, and_self, if_true]

/-- The blocks of R456 below PRT. -/
def blocksBelowPrt : List BlockDef :=
  [blockGLB, blockCST, blockFLT, blockTOD, blockHIF, blockLOP, blockPMU, blockCCX, blockTWN, blockBPM, blockDMC]

/-- An offset in macro n lies in block PRT. -/
theorem findBlock_prt {n off : Nat} (hn : n < 256) (hoff : off < 0x1000) :
    findBlock blocks (blockPRT.base + blockPRT.stride * n + off) = some (blockPRT, n, off) := by
  have hbelow : ∀ b ∈ blocksBelowPrt, b.base + max b.extent (b.stride * b.count) ≤ blockPRT.base := by decide
  have hskip := findBlock_append blocksBelowPrt [blockPRT, blockSLC, blockTMB, blockHNK, blockTMG, blockBUF, blockMCS]
    (blockPRT.base + blockPRT.stride * n + off) fun b hb => by have := hbelow b hb; omega
  exact hskip.trans (findBlock_cons blockPRT _ hn hoff (Nat.le_refl _))

/-- PRT.STATUS is 0 in every macro. -/
theorem regDefault_prtStatus {n : Nat} (h : n < 256) : regDefault (Reg.PRT_STATUS n) = 0 := by
  have haddr : Reg.PRT_STATUS n = blockPRT.base + blockPRT.stride * n + 8 := by simp only [Reg.PRT_STATUS, blockPRT]; omega
  have hlo : 0x1000008 ≤ Reg.PRT_STATUS n := Nat.le_add_right _ _
  have hhi : Reg.PRT_STATUS n ≤ 0x10FF008 := by simp only [Reg.PRT_STATUS]; omega
  have hspecial : defaultSpecial (Reg.PRT_STATUS n) = none := by
    rw [defaultSpecial, if_neg (by simp only [Reg.TMB_GEN_SLOT]; omega), if_neg (by simp only [Reg.BPM_POOL_CFG]; omega),
      if_neg (by simp only [Reg.BPM_POOL_CFG]; omega), if_neg (by simp only [Reg.BPM_POOL_CFG]; omega),
      if_neg (by simp only [Reg.BPM_POOL_CFG]; omega), if_neg (by simp only [Reg.FLT_UNIT]; omega),
      if_neg (by simp only [Reg.PMU_THERM]; omega), if_neg (by simp only [Reg.GLB_ID]; omega)]
  rw [regDefault, hspecial, findReg, haddr, findBlock_prt h (by decide)]
  rfl

/-- Every link is down. -/
theorem reset_linkUp {p : Nat} (h : p < 512) : State.reset.linkUp p = false := by
  have haddr : Reg.PRT_STATUS (p / 2) ≠ Reg.CST_JNL_TOKENS := by simp only [Reg.PRT_STATUS, Reg.CST_JNL_TOKENS]; omega
  rw [State.linkUp, State.flag, State.fld, reset_reg haddr, regDefault_prtStatus (by omega)]
  split <;> decide

/-- Settles O6: the reset state's tables are empty, and the factory values of the units and port states are computed from the
register tables. -/
theorem stateAfterReset : Obligations.StateAfterReset := by
  refine ⟨fun a h => reset_reg h, by decide, by decide +kernel, rfl, by decide, rfl, rfl, fun u => ?_, fun p => ?_,
    fun _ _ => rfl, fun _ _ => rfl, fun _ _ => rfl, fun _ _ => rfl, by decide +kernel, rfl, rfl, rfl⟩
  · rcases Nat.lt_or_ge u 315 with h | h
    · exact .inl (reset_unitState h)
    · exact .inr h
  · rcases Nat.lt_or_ge p 512 with h | h
    · exact .inl (reset_linkUp h)
    · exact .inr h

end Sys2Proof.Machine
end

section
/-! PROOF. A write to a read-only counter that the write itself moves: DMC.CNT[21], DRAIN_PHASES (R261), is counted by the check
of the write queues that follows every write in a DMC, so the register does not hold the word that R7 gives. -/

namespace Sys2Proof.Machine

/-- The registers that a host write answers with. -/
theorem exec_registerWrite_reg {a : Fin 268435456} {ws : List Word64} {s t : State}
    (h : exec (.registerWrite a ws) s = .next t) (b : Nat) : t.reg b = (registerWrite a ws s).reg b := by
  have hexec : exec (.registerWrite a ws) s = .next { registerWrite a ws s with pending := s.pending } := doneClk_eq s _
  rw [← Host.Outcome.next.inj (hexec.symm.trans h)]
  rfl

/-- In RUN, 128 lines wait in the write queue of subchannel 0 of channel 0, above WQ_HIGH, and no write phase has begun. -/
def drainDue : State :=
  { State.reset.setReg Reg.CST_STATUS 11#64 with
    dram := { DramSt.init with subs := [(0, { DmcSub.init with writeQ := List.range 128 })] } }

/-- DMC.CNT[21] of channel 0. -/
def drainPhases : Fin 268435456 := ⟨Reg.DMC_CNT 0 Cnt.DMC_DRAIN_PHASES, by decide⟩

/-- The row of the register tables that holds DMC.CNT: read-only. -/
def dmcCntRow : RegDef := ⟨0x100, [(0x8, 32)], .all, [⟨0, 64, .ro, 0, false⟩]⟩

/-- Writing 0 to the counter leaves 1 there. -/
theorem registerWrite_drainPhases : (registerWrite drainPhases [0] drainDue).reg drainPhases = 1 := by decide +kernel

/-- The word that R7 gives for that write is the old one, 0. -/
theorem regHostWrite_drainPhases :
    regHostWrite drainDue.early drainPhases (drainDue.reg drainPhases) (writeMask drainPhases (drainDue.reg drainPhases) 0) = 0 := by
  decide +kernel

/-- Refutes O39, by its second clause: in `drainDue` a host write of 0 to the read-only counter DRAIN_PHASES meets every
hypothesis, and the write phase that begins with it counts, so the register reads 1 where R7 gives 0. -/
theorem not_registerAccesses : ¬ Obligations.RegisterAccesses := by
  intro h
  obtain ⟨-, hordinary, -⟩ := h
  obtain ⟨t, hexec, hword⟩ := hordinary drainDue drainPhases 0 dmcCntRow (by decide) (.inl (by decide +kernel))
    (by decide +kernel) (by decide +kernel) rfl rfl (by decide) (by decide +kernel) (by decide +kernel) (by decide +kernel)
    (by decide +kernel) (by decide +kernel)
  rw [exec_registerWrite_reg hexec, registerWrite_drainPhases, regHostWrite_drainPhases] at hword
  exact absurd hword (by decide)

end Sys2Proof.Machine
end

section
/-! PROOF. Rules of the frame: what two states share that agree in a part, and what a repeated change leaves. -/

namespace Sys2Proof.Machine

/-! ### Parts and the accessors into them -/

theorem State.onlyParts.clk_eq {s t : State} {l : List Part} (h : s.onlyParts t l) (hl : Part.clk ∉ l) : t.clk = s.clk :=
  h.2 .clk hl

theorem State.onlyParts.port_eq {s t : State} {l : List Part} (h : s.onlyParts t l) (hl : Part.ports ∉ l) (p : Nat) :
    t.port p = s.port p :=
  congrArg (fun m => Tbl.get PortSt.init m p) (h.2 .ports hl)

theorem State.onlyParts.link_eq {s t : State} {l : List Part} (h : s.onlyParts t l) (hl : Part.links ∉ l) (k : Nat) :
    t.link k = s.link k :=
  congrArg (fun m => Tbl.get Link.init m k) (h.2 .links hl)

theorem State.onlyParts.shard_eq {s t : State} {l : List Part} (h : s.onlyParts t l) (hl : Part.shards ∉ l) (g : Nat) :
    t.shard g = s.shard g :=
  congrArg (fun m => Tbl.get ShardSt.init m g) (h.2 .shards hl)

theorem State.onlyParts.reg_eq {s t : State} {l : List Part} (h : s.onlyParts t l) (hl : Part.regs ∉ l) (a : Nat) :
    t.reg a = s.reg a :=
  congrArg (fun m => Tbl.get (regDefault a) m a) (h.2 .regs hl)

theorem State.onlyParts.credit_eq {s t : State} {l : List Part} (h : s.onlyParts t l) (hl : Part.links ∉ l) (k : Nat) :
    t.credit k = s.credit k := by
  simp only [State.credit, h.link_eq hl]

/-- A command whose effect spares the time-of-day unit and the queue answers the effect itself. -/
theorem done_eq_next {s t : State} {l : List Part} (h : s.onlyParts t l) (hl : Part.clk ∉ l) : done s t = .next t := by
  rw [done_eq, ← h.1, ← h.clk_eq hl]

/-- A register operation touches the registers alone. -/
theorem State.setReg_rest (s : State) (a : Nat) (v : Word64) : s.onlyParts (s.setReg a v) [.regs] :=
  State.onlyParts_of_regs _ _ (s.setReg_eq a v)

theorem State.bump_rest (s : State) (a : Nat) : s.onlyParts (s.bump a) [.regs] := s.setReg_rest a _

theorem State.bumpBy_rest (s : State) (a n : Nat) : s.onlyParts (s.bumpBy a n) [.regs] := s.setReg_rest a _

theorem State.setFld_rest (s : State) (a : Nat) (f : Fld) (x : Nat) : s.onlyParts (s.setFld a f x) [.regs] := s.setReg_rest a _

theorem State.useCredit_rest (s : State) (k n : Nat) : s.onlyParts (s.useCredit k n) [.links] := s.setLink_rest k _

theorem State.freeEntry_rest (s : State) (k n : Nat) : s.onlyParts (s.freeEntry k n) [.links] := s.setLink_rest k _

theorem State.setShard_rest (s : State) (h : Nat) (x : ShardSt) : s.onlyParts (s.setShard h x) [.shards] :=
  ⟨rfl, fun p hp => by cases p <;> first | rfl | simp at hp⟩

theorem State.port_setPort_self (s : State) (p : Nat) (x : PortSt) : (s.setPort p x).port p = x := by simp

theorem State.link_setLink_self (s : State) (k : Nat) (l : Link) : (s.setLink k l).link k = l := by simp

/-! ### Registers -/

theorem State.onlyRegs_refl (s : State) (l : List Nat) : s.onlyRegs s l := fun _ _ => rfl

theorem State.onlyRegs_mono {s t : State} {l m : List Nat} (a : s.onlyRegs t l) (h : ∀ x ∈ l, x ∈ m) : s.onlyRegs t m :=
  fun x hx => a x fun hl => hx (h x hl)

theorem State.onlyParts.onlyRegs {s t : State} {l : List Part} (h : s.onlyParts t l) (hl : Part.regs ∉ l) (m : List Nat) :
    s.onlyRegs t m :=
  fun a _ => h.reg_eq hl a

theorem State.onlyPort_refl (s : State) (p : Nat) : s.onlyPort s p := fun _ _ => rfl

theorem State.onlyPort_trans {s t u : State} {p : Nat} (a : s.onlyPort t p) (b : t.onlyPort u p) : s.onlyPort u p :=
  fun q hq => (b q hq).trans (a q hq)

theorem State.onlyParts.onlyPort {s t : State} {l : List Part} (h : s.onlyParts t l) (hl : Part.ports ∉ l) (p : Nat) :
    s.onlyPort t p :=
  fun q _ => h.port_eq hl q

/-! ### Repetition -/

theorem forEach_onlyParts {α : Type} {f : α → State → State} {l : List Part} (h : ∀ (x : α) (t : State), t.onlyParts (f x t) l)
    (xs : List α) (s : State) : s.onlyParts (forEach xs f s) l :=
  forEach_induct (fun t => s.onlyParts t l) xs f s (s.onlyParts_refl l) fun x t _ ht => State.onlyParts_trans ht (h x t)

theorem forEach_onlyRegs {α : Type} {f : α → State → State} {l : List Nat} (h : ∀ (x : α) (t : State), t.onlyRegs (f x t) l)
    (xs : List α) (s : State) : s.onlyRegs (forEach xs f s) l :=
  forEach_induct (fun t => s.onlyRegs t l) xs f s (s.onlyRegs_refl l) fun x t _ ht => State.onlyRegs_trans ht (h x t)

end Sys2Proof.Machine
end

section
/-! PROOF. Giving a frame's cells back (R293, R294): the registers and the parts that change. -/

namespace Sys2Proof.Machine

/-- The registers that giving back a frame may change: a lost message's count and the buffer's counters and marks. -/
def releaseRegs : List Nat :=
  [Reg.FLT_CNT Cnt.FLT_SRC_OVF_LOST, Reg.BUF_STATUS, Reg.BUF_CNT Cnt.BUF_CELLS_FREED, Reg.BUF_CNT Cnt.BUF_WITHDRAWN_CELLS]

/-- The parts that giving back a frame may change. -/
def releaseParts : List Part := [.regs, .fault, .buf]

/-- A new content of the shared buffer changes that part alone. -/
theorem State.setBuf_rest (s : State) (b : BufSt) : s.onlyParts { s with buf := b } releaseParts :=
  ⟨rfl, fun p hp => by cases p <;> first | rfl | simp [releaseParts] at hp⟩

/-- `t` is `s` after cells or references were given back. -/
def State.gaveBack (s t : State) : Prop := s.onlyParts t releaseParts ∧ s.onlyRegs t releaseRegs

theorem State.gaveBack.refl (s : State) : s.gaveBack s := ⟨s.onlyParts_refl _, s.onlyRegs_refl _⟩

theorem State.gaveBack.trans {s t u : State} (a : s.gaveBack t) (b : t.gaveBack u) : s.gaveBack u :=
  ⟨State.onlyParts_trans a.1 b.1, State.onlyRegs_trans a.2 b.2⟩

theorem State.setBuf_gaveBack (s : State) (b : BufSt) : s.gaveBack { s with buf := b } :=
  ⟨s.setBuf_rest b, fun _ _ => rfl⟩

theorem State.setReg_gaveBack (s : State) {a : Nat} (v : Word64) (h : a ∈ releaseRegs) : s.gaveBack (s.setReg a v) :=
  ⟨State.onlyParts_mono (s.setReg_rest a v) (by simp [releaseParts]),
    State.onlyRegs_mono (s.onlyRegs_setReg a v) (by simpa using h)⟩

theorem State.bump_gaveBack (s : State) {a : Nat} (h : a ∈ releaseRegs) : s.gaveBack (s.bump a) := s.setReg_gaveBack _ h

theorem State.sendFault_gaveBack (s : State) (src kind cls addr : Nat) : s.gaveBack (s.sendFault src kind cls addr) :=
  ⟨State.onlyParts_mono (s.sendFault_rest _ _ _ _) (by simp [releaseParts]),
    State.onlyRegs_mono (s.sendFault_regs _ _ _ _) (by simp [releaseRegs])⟩

theorem forEach_gaveBack {α : Type} {f : α → State → State} (h : ∀ (x : α) (t : State), t.gaveBack (f x t)) (xs : List α)
    (s : State) : s.gaveBack (forEach xs f s) :=
  ⟨forEach_onlyParts (fun x t => (h x t).1) xs s, forEach_onlyRegs (fun x t => (h x t).2) xs s⟩

theorem State.freeCell_gaveBack (s : State) (c : Nat) : s.gaveBack (s.freeCell c) :=
  ((s.setBuf_gaveBack _).trans (State.setReg_gaveBack _ _ (by simp [releaseRegs]))).trans (State.setBuf_gaveBack _ _)

theorem State.freeCells_gaveBack (s : State) (l : List Nat) : s.gaveBack (s.freeCells l) :=
  forEach_gaveBack (fun c t => t.freeCell_gaveBack c) l s

theorem State.withdrawCells_gaveBack (s : State) (l : List Nat) : s.gaveBack (s.withdrawCells l) := by
  have hcells : s.gaveBack (forEach l (fun c t => (t.setUse c .withdrawn).bump (Reg.BUF_CNT Cnt.BUF_WITHDRAWN_CELLS)) s) :=
    forEach_gaveBack (fun c t => (t.setBuf_gaveBack _).trans (State.bump_gaveBack _ (by simp [releaseRegs]))) l s
  unfold State.withdrawCells
  split
  · exact hcells
  · exact hcells.trans (State.setReg_gaveBack _ _ (by simp [releaseRegs]))

theorem State.forget_gaveBack (s : State) (head : Nat) (cells : List Nat) : s.gaveBack (s.forget head cells) :=
  s.setBuf_gaveBack _

theorem State.readFrameEntry_gaveBack (s : State) (head : Nat) : s.gaveBack (s.readFrameEntry head) := by
  unfold State.readFrameEntry
  dsimp only
  split
  · split
    · exact s.setBuf_gaveBack _
    · exact (((s.setBuf_gaveBack _).trans (State.sendFault_gaveBack _ _ _ _ _)).trans
        (State.setReg_gaveBack _ _ (by simp [releaseRegs]))).trans (State.setBuf_gaveBack _ _)
  · exact .refl s

/-- A released reference changes the buffer, its registers and a fault message of the frame table. -/
theorem State.release_gaveBack (s : State) (head cnt : Nat) : s.gaveBack (s.release head cnt) := by
  refine (s.readFrameEntry_gaveBack head).trans ?_
  unfold State.release
  generalize s.readFrameEntry head = t
  dsimp only
  have hbad : t.gaveBack (if t.buf.use.any (fun e => (t.chain head cnt).contains e.1 && e.2 != .withdrawn)
      then t.withdrawCells (t.chain head cnt) else t) := by
    split
    · exact t.withdrawCells_gaveBack _
    · exact .refl t
  split
  · split
    · exact hbad.trans (State.forget_gaveBack _ _ _)
    · exact hbad.trans (State.setBuf_gaveBack _ _)
  · split
    · exact (t.freeCells_gaveBack _).trans (State.forget_gaveBack _ _ _)
    · exact t.setBuf_gaveBack _

end Sys2Proof.Machine
end

section
/-! PROOF. The fence of a link's consumer (R24, R392, R399): the STATE of a unit, once its window is open, stands through all that
the fence discards. -/

namespace Sys2Proof.Machine

/-! ### Units that keep their STATE -/

/-- Every unit of R385 has the STATE in `t` that it has in `s`. -/
def State.keepsUnits (s t : State) : Prop := ∀ u < 315, t.unitState u = s.unitState u

theorem State.keepsUnits.refl (s : State) : s.keepsUnits s := fun _ _ => rfl

theorem State.keepsUnits.trans {s t u : State} (a : s.keepsUnits t) (b : t.keepsUnits u) : s.keepsUnits u :=
  fun v hv => (b v hv).trans (a v hv)

theorem State.keepsUnits_of_regs {s t : State} (h : t.regs = s.regs) : s.keepsUnits t := by
  intro u _
  simp only [State.unitState, State.fld, State.reg, h]

/-- The unit registers lie below 0x20DD8 (R456). -/
theorem State.keepsUnits_of_onlyRegs {s t : State} {l : List Nat} (h : s.onlyRegs t l) (hl : ∀ a ∈ l, 0x20DD8 ≤ a) :
    s.keepsUnits t := by
  intro u hu
  have hreg : t.reg (Reg.FLT_UNIT u) = s.reg (Reg.FLT_UNIT u) :=
    h _ fun hin => absurd (hl _ hin) (by simp only [Reg.FLT_UNIT]; omega)
  simp only [State.unitState, State.fld, hreg]

theorem State.setReg_keepsUnits (s : State) {a : Nat} (h : 0x20DD8 ≤ a) (v : Word64) : s.keepsUnits (s.setReg a v) :=
  State.keepsUnits_of_onlyRegs (s.onlyRegs_setReg a v) (by simpa using h)

theorem State.bump_keepsUnits (s : State) {a : Nat} (h : 0x20DD8 ≤ a) : s.keepsUnits (s.bump a) := s.setReg_keepsUnits h _

theorem State.setFld_keepsUnits (s : State) {a : Nat} (h : 0x20DD8 ≤ a) (f : Fld) (x : Nat) : s.keepsUnits (s.setFld a f x) :=
  s.setReg_keepsUnits h _

theorem State.gaveBack.keepsUnits {s t : State} (h : s.gaveBack t) : s.keepsUnits t :=
  State.keepsUnits_of_onlyRegs h.2 (by decide)

theorem forEach_keepsUnits {α : Type} {f : α → State → State} (h : ∀ (x : α) (t : State), t.keepsUnits (f x t)) (xs : List α)
    (s : State) : s.keepsUnits (forEach xs f s) :=
  forEach_induct (fun t => s.keepsUnits t) xs f s (.refl s) fun x t _ ht => ht.trans (h x t)

theorem forUpTo_keepsUnits {f : Nat → State → State} (h : ∀ (i : Nat) (t : State), t.keepsUnits (f i t)) (n : Nat)
    (s : State) : s.keepsUnits (forUpTo n f s) :=
  forUpTo_induct (fun t => s.keepsUnits t) n f s (.refl s) fun i t _ ht => ht.trans (h i t)

theorem State.release_keepsUnits (s : State) (head cnt : Nat) : s.keepsUnits (s.release head cnt) :=
  (s.release_gaveBack head cnt).keepsUnits

/-! ### Messages and windows -/

theorem State.sendFault_keepsUnits (s : State) (src kind cls addr : Nat) : s.keepsUnits (s.sendFault src kind cls addr) :=
  State.keepsUnits_of_onlyRegs (s.sendFault_regs _ _ _ _) (by decide)

/-- A masked detector moves SHADOWED, which shares no bit with STATE (R395). -/
theorem State.shadow_keepsUnits (s : State) (v : Nat) : s.keepsUnits (s.shadow v) := by
  refine State.keepsUnits.trans ?_ (State.bump_keepsUnits _ (by decide))
  intro u _
  by_cases h : Reg.FLT_UNIT u = Reg.FLT_UNIT v
  · simp only [State.unitState, h]
    exact State.fld_setFld_apart _ _ _ _ _ (by unfold Fld.apart; decide)
  · exact State.fld_setFld_other _ _ _ _ _ _ h

theorem State.detect_keepsUnits (s : State) (src kind cls addr : Nat) : s.keepsUnits (s.detect src kind cls addr) := by
  unfold State.detect
  split
  · exact s.sendFault_keepsUnits _ _ _ _
  · split
    · exact s.shadow_keepsUnits _
    · exact s.sendFault_keepsUnits _ _ _ _

/-- An open window is STATE 1 (R395). -/
theorem State.openWindow_unitState (s : State) {u : Nat} (hu : u < 315) : (s.openWindow u).unitState u = 1 := by
  have hcount : Reg.FLT_UNIT u ≠ Reg.FLT_CNT Cnt.FLT_FENCES := by simp only [Reg.FLT_UNIT, Reg.FLT_CNT, Cnt.FLT_FENCES]; omega
  have hreg : (s.openWindow u).reg (Reg.FLT_UNIT u) = (s.setFld (Reg.FLT_UNIT u) Fld.FLT_UNIT_STATE 1).reg (Reg.FLT_UNIT u) :=
    (State.reg_bump _ _ _).trans (if_neg hcount)
  calc (s.openWindow u).unitState u
      = (s.setFld (Reg.FLT_UNIT u) Fld.FLT_UNIT_STATE 1).fld (Reg.FLT_UNIT u) Fld.FLT_UNIT_STATE := by
        simp only [State.unitState, State.fld, hreg]
    _ = 1 := State.fld_setFld_self _ _ _ _ (by decide)

/-! ### Drain counts and links -/

theorem State.drainSub_keepsUnits (s : State) (i gen : Nat) : s.keepsUnits (s.drainSub i gen) := by
  unfold State.drainSub
  split
  · exact .refl s
  · exact s.setFld_keepsUnits (by simp only [Reg.SLC_GEN_DRAIN]; omega) _ _

theorem State.ageDrain_keepsUnits (s : State) (h gen : Nat) (up : Bool) : s.keepsUnits (s.ageDrain h gen up) := by
  unfold State.ageDrain
  split
  · exact .refl s
  · exact s.setFld_keepsUnits (by simp only [Reg.SCH_AGE_DRAIN]; omega) _ _

theorem State.stopLinks_keepsUnits (s : State) (u : Nat) : s.keepsUnits (s.stopLinks u) :=
  forEach_keepsUnits (fun k t => State.keepsUnits_of_regs (s := t) (t := t.stopLink k) rfl) _ s

/-! ### Device memory -/

theorem State.dmcBump_keepsUnits (s : State) (c i : Nat) : s.keepsUnits (s.dmcBump c i) :=
  s.bump_keepsUnits (by simp only [Reg.DMC_CNT]; omega)

theorem State.setSub_keepsUnits (s : State) (c k : Nat) (x : DmcSub) : s.keepsUnits (s.setSub c k x) :=
  State.keepsUnits_of_regs rfl

theorem State.bgCount_keepsUnits (s : State) (c : Nat) (fg : Bool) : s.keepsUnits (s.bgCount c fg) := by
  unfold State.bgCount
  split
  · exact .refl s
  · exact s.dmcBump_keepsUnits _ _

theorem State.countRmw_keepsUnits (s : State) (l : Nat) : s.keepsUnits (s.countRmw l) := by
  unfold State.countRmw
  split
  · exact .refl s
  · exact s.dmcBump_keepsUnits _ _

theorem State.lostRead_keepsUnits (s : State) (c : Nat) : s.keepsUnits (s.lostRead c) :=
  (s.dmcBump_keepsUnits _ _).trans (State.setFld_keepsUnits _ (by simp only [Reg.DMC_STATUS]; omega) _ _)

theorem State.lostWrite_keepsUnits (s : State) (c : Nat) : s.keepsUnits (s.lostWrite c) :=
  (s.dmcBump_keepsUnits _ _).trans (State.setFld_keepsUnits _ (by simp only [Reg.DMC_STATUS]; omega) _ _)

theorem State.rowTouchIn_keepsUnits (s : State) (a : LineAt) (rank : Nat) : s.keepsUnits (s.rowTouchIn a rank) := by
  unfold State.rowTouchIn
  refine State.keepsUnits.trans ?_ (State.setSub_keepsUnits _ _ _ _)
  split
  · exact .refl s
  · split
    · exact s.dmcBump_keepsUnits _ _
    · exact s.dmcBump_keepsUnits _ _

theorem State.issueWrite_keepsUnits (s : State) (c k i : Nat) : s.keepsUnits (s.issueWrite c k i) := by
  unfold State.issueWrite
  dsimp only
  split
  · exact .refl s
  · have hcount (x : DmcSub) : s.keepsUnits ((s.setSub c k x).dmcBump c Cnt.DMC_WRITES) :=
      (s.setSub_keepsUnits c k x).trans (State.dmcBump_keepsUnits _ _ _)
    split
    · exact hcount _
    · exact (hcount _).trans (State.rowTouchIn_keepsUnits _ _ _)

theorem State.issueOldest_keepsUnits (s : State) (c k : Nat) : s.keepsUnits (s.issueOldest c k) := by
  unfold State.issueOldest
  dsimp only
  split
  · exact .refl s
  · exact s.issueWrite_keepsUnits _ _ _

theorem State.drainCheck_keepsUnits (s : State) (c k : Nat) : s.keepsUnits (s.drainCheck c k) := by
  unfold State.drainCheck
  dsimp only
  split
  · split
    · exact s.setSub_keepsUnits _ _ _
    · exact .refl s
  · split
    · exact (s.setSub_keepsUnits _ _ _).trans (State.dmcBump_keepsUnits _ _ _)
    · exact .refl s

theorem State.finishDrain_keepsUnits (s : State) (c k : Nat) : s.keepsUnits (s.finishDrain c k) := by
  unfold State.finishDrain
  split
  · refine forUpTo_keepsUnits (fun i t => ?_) _ s
    split
    · exact t.issueOldest_keepsUnits c k
    · exact .refl t
  · exact .refl s

theorem State.queueWrite_keepsUnits (s : State) (a : LineAt) (l : Nat) (fg : Bool) : s.keepsUnits (s.queueWrite a l fg) := by
  unfold State.queueWrite
  dsimp only
  split
  · exact s.dmcBump_keepsUnits _ _
  · refine State.keepsUnits.trans ?_ ((State.setSub_keepsUnits _ _ _ _).trans (State.drainCheck_keepsUnits _ _ _))
    split
    · exact s.issueOldest_keepsUnits _ _
    · exact .refl s

theorem State.dramRead_keepsUnits (s : State) (l : Nat) (fg : Bool) : s.keepsUnits (s.dramRead l fg .ok).2 := by
  unfold State.dramRead
  split
  · exact .refl s
  · next a _ =>
    refine (s.bgCount_keepsUnits a.ch fg).trans ?_
    generalize s.bgCount a.ch fg = t
    dsimp only
    split
    · exact t.lostRead_keepsUnits _
    · split
      · exact t.dmcBump_keepsUnits _ _
      · exact ((t.finishDrain_keepsUnits _ _).trans (State.dmcBump_keepsUnits _ _ _)).trans (State.rowTouchIn_keepsUnits _ _ _)

theorem State.dramWrite_keepsUnits (s : State) (l : Nat) (bytes : List Byte) (fg : Bool) :
    s.keepsUnits (s.dramWrite l bytes fg).2 := by
  unfold State.dramWrite
  split
  · exact .refl s
  · next a _ =>
    refine (s.bgCount_keepsUnits a.ch fg).trans ?_
    generalize s.bgCount a.ch fg = t
    dsimp only
    split
    · exact t.lostWrite_keepsUnits _
    · exact State.keepsUnits.trans (State.keepsUnits_of_regs rfl) (State.queueWrite_keepsUnits _ _ _ _)

/-! ### Pools -/

theorem State.poolWithdraw_keepsUnits (s : State) (p n : Nat) : s.keepsUnits (s.poolWithdraw p n) :=
  (s.setReg_keepsUnits (by simp only [Reg.BPM_CNT]; omega) _).trans (State.setReg_keepsUnits _ (by decide) _)

theorem State.metaRead_keepsUnits (s : State) (x : Nat) : s.keepsUnits (s.metaRead x).2 := by
  unfold State.metaRead
  split
  · exact .refl s
  · dsimp only
    split <;> exact s.dramRead_keepsUnits _ _

theorem State.metaWrite_keepsUnits (s : State) (x v : Nat) : s.keepsUnits (s.metaWrite x v) := by
  unfold State.metaWrite
  split
  · exact State.keepsUnits_of_regs rfl
  · exact (s.countRmw_keepsUnits _).trans (State.dramWrite_keepsUnits _ _ _ _)

theorem State.poolCheck_keepsUnits (s : State) (r x : Nat) (give : Bool) : s.keepsUnits (s.poolCheck r x give).2 := by
  unfold State.poolCheck
  split
  · exact .refl s
  · dsimp only
    split
    · exact s.metaRead_keepsUnits x
    · split
      · exact s.metaRead_keepsUnits x
      · split
        · exact s.metaRead_keepsUnits x
        · exact s.metaRead_keepsUnits x

theorem State.poolFail_keepsUnits (s : State) (r x cause owner : Nat) : s.keepsUnits (s.poolFail r x cause owner) := by
  have herr (t : State) (f : Fld) (n : Nat) : t.keepsUnits (t.setFld Reg.BPM_ERR f n) := t.setFld_keepsUnits (by decide) f n
  unfold State.poolFail
  extract_lets counted a noted
  have hcounted : s.keepsUnits counted :=
    (s.setFld_keepsUnits (by decide) _ _).trans (State.bump_keepsUnits _ (by simp only [Reg.BPM_CNT]; omega))
  clear_value counted
  have hnoted : counted.keepsUnits noted := by
    unfold noted
    split
    · exact .refl counted
    · exact (((((herr _ _ _).trans (herr _ _ _)).trans (herr _ _ _)).trans (herr _ _ _)).trans (herr _ _ _)).trans (herr _ _ _)
  exact (hcounted.trans hnoted).trans (noted.detect_keepsUnits _ _ _ _)

theorem State.poolRelease_keepsUnits (s : State) (r x : Nat) : s.keepsUnits (s.poolRelease r x) := by
  have hcheck := s.poolCheck_keepsUnits r x false
  unfold State.poolRelease
  dsimp only
  split
  · exact .refl s
  · split
    · exact State.keepsUnits_of_regs rfl
    · split
      · exact hcheck.trans (State.poolWithdraw_keepsUnits _ _ _)
      · exact hcheck.trans (State.poolFail_keepsUnits _ _ _ _ _)
      · refine (hcheck.trans (State.metaWrite_keepsUnits _ x 0)).trans ?_
        generalize (s.poolCheck r x false).2.metaWrite x 0 = t
        exact t.bump_keepsUnits (by simp only [Reg.BPM_CNT]; omega)

theorem State.releaseBody_keepsUnits (s : State) (q : Nat) (c : Copy) : s.keepsUnits (s.releaseBody q c) := by
  unfold State.releaseBody
  split
  · exact (s.release_keepsUnits _ _)
  · exact (s.freeCell_gaveBack _).keepsUnits
  · exact s.poolRelease_keepsUnits _ _

/-! ### What the fences discard -/

theorem State.discardIng_keepsUnits (s : State) (f : IngFrame) : s.keepsUnits (s.discardIng f) := by
  unfold State.discardIng
  split
  · exact .refl s
  · exact ((s.freeCells_gaveBack _).trans (State.forget_gaveBack _ _ _)).keepsUnits

theorem State.countFence_keepsUnits (s : State) (u n : Nat) : s.keepsUnits (s.countFence u n) := State.keepsUnits_of_regs rfl

theorem State.discardClass_keepsUnits (s : State) (u p c : Nat) : s.keepsUnits (s.discardClass u p c) := by
  unfold State.discardClass
  extract_lets x l t
  have hcounted : s.keepsUnits t := State.keepsUnits_of_regs rfl
  exact hcounted.trans (forEach_keepsUnits (fun c t => t.releaseBody_keepsUnits _ c) _ _)

theorem State.discardEgress_keepsUnits (s : State) (u p : Nat) : s.keepsUnits (s.discardEgress u p) := by
  unfold State.discardEgress
  extract_lets t
  have hclasses : s.keepsUnits t := forUpTo_keepsUnits (fun c t => t.discardClass_keepsUnits u p c) 8 s
  clear_value t
  exact hclasses.trans (State.keepsUnits_of_regs rfl)

theorem State.discardIngress_keepsUnits (s : State) (u p : Nat) : s.keepsUnits (s.discardIngress u p) := by
  unfold State.discardIngress
  extract_lets x t
  have hemptied : s.keepsUnits t := State.keepsUnits_of_regs rfl
  exact (hemptied.trans (forEach_keepsUnits (fun f t => t.discardIng_keepsUnits f) x.fifo t)).trans (State.countFence_keepsUnits _ _ _)

theorem State.discardOut_keepsUnits (s : State) (p : Nat) : s.keepsUnits (s.discardOut p) := by
  unfold State.discardOut
  extract_lets x t k l tmb u
  have hemptied : s.keepsUnits u := State.keepsUnits_of_regs rfl
  clear_value u
  exact (hemptied.trans (forEach_keepsUnits (fun (o : OutFrame) t => t.release_keepsUnits o.cellHead o.cellCnt) x.out u)).trans
    (State.countFence_keepsUnits _ _ _)

theorem State.discardSlice_keepsUnits (s : State) (i : Nat) : s.keepsUnits (s.discardSlice i) :=
  forEach_keepsUnits (fun p t => ((t.discardIngress_keepsUnits _ p).trans (State.discardOut_keepsUnits _ p)).trans
    (State.discardEgress_keepsUnits _ _ p)) _ s

theorem State.fenceItem_keepsUnits (s : State) (h : Nat) (it : Item) : s.keepsUnits (s.fenceItem h it) :=
  ((s.release_keepsUnits _ _).trans (State.drainSub_keepsUnits _ _ _)).trans
    (State.bump_keepsUnits _ (by simp only [Reg.SCH_CNT]; omega))

theorem State.hostEnd_keepsUnits (s : State) (h code : Nat) : s.keepsUnits (s.hostEnd h code) := by
  have haddr : 0x20DD8 ≤ recCmd h := by simp only [recCmd, Reg.HNK_REC_CMD]; omega
  have hbusy : s.keepsUnits ((s.setShard h { s.shard h with host := .none }).setFld (recCmd h) Fld.HNK_REC_CMD_BUSY 0) :=
    State.keepsUnits.trans (State.keepsUnits_of_regs rfl) (State.setFld_keepsUnits _ haddr _ _)
  unfold State.hostEnd
  dsimp only
  split
  · exact hbusy
  · exact (hbusy.trans (State.setFld_keepsUnits _ haddr _ _)).trans (State.setFld_keepsUnits _ haddr _ _)

theorem State.discardShard_keepsUnits (s : State) (h : Nat) : s.keepsUnits (s.discardShard h) := by
  unfold State.discardShard
  extract_lets x aging packets fenced aged freed unlocked held unheld ended k tmb unasked y
  have hfenced : s.keepsUnits fenced := forEach_keepsUnits (fun it t => t.fenceItem_keepsUnits h it) _ s
  have haged : fenced.keepsUnits aged := forEach_keepsUnits (fun (it : Item) t => t.ageDrain_keepsUnits h it.gen false) _ _
  have hfreed : aged.keepsUnits freed := forEach_keepsUnits (fun (p : Parked) t => t.poolRelease_keepsUnits h p.index) _ _
  have hunlocked : freed.keepsUnits unlocked :=
    forEach_keepsUnits (fun _ t => t.bump_keepsUnits (by simp only [Reg.WRD_CNT]; omega)) _ _
  have hunheld : unlocked.keepsUnits unheld :=
    forEach_keepsUnits (fun i t => State.keepsUnits_of_regs (s := t) (t := t.unholdWay h i) rfl) _ _
  have hended : unheld.keepsUnits ended := by
    unfold ended
    split
    · exact unheld.hostEnd_keepsUnits h 7
    · exact .refl unheld
  clear_value ended
  exact (((((hfenced.trans haged).trans hfreed).trans hunlocked).trans hunheld).trans hended).trans (State.keepsUnits_of_regs rfl)

theorem State.emptyQueue_keepsUnits (s : State) (q u : Nat) {f : State → State} (hf : ∀ t : State, t.keepsUnits (f t)) :
    s.keepsUnits (s.emptyQueue q u f) := by
  have hqueue : s.keepsUnits (s.setQueue q u []) := State.keepsUnits_of_regs rfl
  exact hqueue.trans (forEach_keepsUnits (fun c t =>
    ((t.releaseBody_keepsUnits q c).trans (hf _)).trans (State.bump_keepsUnits _ (by simp only [Reg.TMG_QCNT]; omega))) _ _)

/-- A descriptor discarded at the fence of TM q. -/
theorem tmDiscard_desc_keepsUnits (q : Nat) (d : Desc) (s : State) :
    s.keepsUnits (let t := (s.tmgBump q Cnt.TMG_FENCE_DISCARD).release d.cellHead d.cellCnt
      if 16 ≤ d.src then t.drainSub (d.src - 16) d.gen else t) := by
  extract_lets t
  have hreleased : s.keepsUnits t :=
    (s.bump_keepsUnits (by simp only [Reg.TMG_CNT]; omega)).trans (State.release_keepsUnits _ _ _)
  split
  · exact hreleased.trans (t.drainSub_keepsUnits _ _)
  · exact hreleased

theorem State.tmDiscard_keepsUnits (s : State) (q : Nat) : s.keepsUnits (s.tmDiscard q) := by
  unfold State.tmDiscard
  extract_lets t
  have hqueues : s.keepsUnits t := forUpTo_keepsUnits (fun u t => t.emptyQueue_keepsUnits q u fun t =>
    t.bump_keepsUnits (by simp only [Reg.TMG_CNT]; omega)) 656 s
  refine hqueues.trans (forUpTo_keepsUnits (fun i t => ?_) 32 t)
  extract_lets l tm u
  have hinput : t.keepsUnits u := State.keepsUnits_of_regs rfl
  exact hinput.trans (forEach_keepsUnits (fun d t => tmDiscard_desc_keepsUnits q d t) l u)

/-! ### The fence of a link's consumer -/

/-- A unit in which links end: a slice, a shard, a TM or the BPM (R20). -/
def consumerUnit (u : Nat) : Prop := 256 ≤ u ∧ u < 288 ∨ 292 ≤ u ∧ u < 296 ∨ u = 309

theorem consumerUnit.lt {u : Nat} (h : consumerUnit u) : u < 315 := by
  unfold consumerUnit at h; omega

/-- What the fence of such a unit discards moves no unit's STATE. -/
theorem State.isolate_keepsUnits (s : State) {u : Nat} (hu : consumerUnit u) : s.keepsUnits (s.isolate u) := by
  refine (s.stopLinks_keepsUnits u).trans ?_
  unfold State.isolate
  dsimp only
  rcases hu with ⟨hlo, hhi⟩ | ⟨hlo, hhi⟩ | rfl
  · rw [if_neg (by omega)]
    split
    · exact State.discardSlice_keepsUnits _ _
    · exact State.discardShard_keepsUnits _ _
  · rw [if_neg (by omega), if_neg (by omega), if_neg (by omega), if_neg (by omega), if_pos (by omega)]
    exact State.tmDiscard_keepsUnits _ _
  · exact .refl _

/-- A contained fault of such a unit in service fences it. -/
theorem State.faultUnit_fences (s : State) {u : Nat} (hu : consumerUnit u) (hup : s.down u = false) (src kind addr : Nat) :
    (s.faultUnit u src kind addr).unitState u = 1 := by
  rw [State.faultUnit, hup, if_neg Bool.false_ne_true]
  exact (State.isolate_keepsUnits _ hu u hu.lt).trans (State.openWindow_unitState _ hu.lt)

/-! ### The ends of a link -/

/-- Code of R399 of a link. -/
def linkCode : LinkId → Nat
  | .ingress _ => 1
  | .dispatch _ _ => 2
  | .ready _ => 3
  | .record _ => 4
  | .miss _ => 5
  | .fill _ => 6
  | .release _ _ => 7
  | .egress _ _ => 8
  | .pool _ => 9

/-- The producer's index of a link. -/
def linkIndex : LinkId → Nat
  | .ingress p => p.val
  | .dispatch i h => 16 * i.val + h.val
  | .ready h => h.val
  | .record h => h.val
  | .miss h => h.val
  | .fill h => h.val
  | .release i q => 4 * i.val + q.val
  | .egress p c => 8 * p.val + c.val
  | .pool p => p.val

theorem linkIndex_lt (k : LinkId) : linkIndex k < 65536 := by
  cases k <;> simp only [linkIndex] <;> omega

/-- A link's key holds its code above its index. -/
theorem linkKey_eq (k : LinkId) : linkKey k = 65536 * linkCode k + linkIndex k := by
  cases k <;> simp only [linkKey, linkCode, linkIndex, lnkIngress, lnkDispatch, lnkReady, lnkRecord, lnkMiss, lnkFill, lnkRelease,
    lnkEgress, lnkPool] <;> omega

@[simp] theorem keyCode_linkKey (k : LinkId) : keyCode (linkKey k) = linkCode k := by
  rw [keyCode, linkKey_eq, Nat.mul_add_div (by decide), Nat.div_eq_of_lt (linkIndex_lt k), Nat.add_zero]

@[simp] theorem keySub_linkKey (k : LinkId) : keySub (linkKey k) = linkIndex k := by
  rw [keySub, linkKey_eq, Nat.mul_add_mod, Nat.mod_eq_of_lt (linkIndex_lt k)]

theorem srcId_div {ty i : Nat} (h : i < 1024) : srcId ty i / 1024 = ty := by
  rw [srcId, Nat.mul_add_div (by decide), Nat.div_eq_of_lt h, Nat.add_zero]

theorem srcId_mod {ty i : Nat} (h : i < 1024) : srcId ty i % 1024 = i := by
  rw [srcId, Nat.mul_add_mod, Nat.mod_eq_of_lt h]

theorem unitOf_srcSlice {i : Nat} (h : i < 1024) : unitOf (srcSlice i) = some (unitSlice i) := by
  simp only [unitOf, srcSlice, srcId_div h, srcId_mod h, unitSlice]

theorem unitOf_srcShard {h : Nat} (hh : h < 1024) : unitOf (srcShard h) = some (unitShard h) := by
  simp only [unitOf, srcShard, srcId_div hh, srcId_mod hh, unitShard]

theorem unitOf_srcTm {q : Nat} (h : q < 1024) : unitOf (srcTm q) = some (unitTm q) := by
  simp only [unitOf, srcTm, srcId_div h, srcId_mod h, unitTm]

/-- The shard of the links that end in one. -/
theorem consumerUnit_shard (i : Nat) : consumerUnit ((unitOf (srcShard (i % 16))).getD 315) := by
  rw [unitOf_srcShard (by omega)]
  simp only [Option.getD_some, consumerUnit, unitShard]
  omega

/-- Every link ends in a slice, a shard, a TM or the BPM. -/
theorem consumerUnit_linkUnits (k : LinkId) : consumerUnit (linkUnits (linkKey k)).2 := by
  simp only [linkUnits, linkConsumer, keyCode_linkKey, keySub_linkKey]
  cases k with
  | ingress p =>
    simp only [linkCode, linkIndex, unitOf_srcSlice (show p.val / 32 < 1024 by omega), Option.getD_some, consumerUnit, unitSlice]
    omega
  | release i q =>
    simp only [linkCode, linkIndex, unitOf_srcTm (show (4 * i.val + q.val) % 4 < 1024 by omega), Option.getD_some, consumerUnit, unitTm]
    omega
  | egress p c =>
    simp only [linkCode, linkIndex, unitOf_srcSlice (show (8 * p.val + c.val) / 256 < 1024 by omega), Option.getD_some, consumerUnit,
      unitSlice]
    omega
  | pool p =>
    simp only [linkCode]
    exact .inr (.inr rfl)
  | dispatch i h => exact consumerUnit_shard _
  | ready h => exact consumerUnit_shard _
  | record h => exact consumerUnit_shard _
  | miss h => exact consumerUnit_shard _
  | fill h => exact consumerUnit_shard _

/-! ### What the commands of a link do -/

/-- A lost or surplus credit between two units in service fences the consumer (R24). -/
theorem State.linkFault_fences (s : State) (k : LinkId) (kind : Nat) (hproducer : s.down (linkUnits (linkKey k)).1 = false)
    (hconsumer : s.down (linkUnits (linkKey k)).2 = false) :
    (s.linkFault (linkKey k) kind).unitState (linkUnits (linkKey k)).2 = 1 := by
  simp only [State.linkFault, hproducer, hconsumer, Bool.false_eq_true, if_false]
  exact s.faultUnit_fences (consumerUnit_linkUnits k) hconsumer _ _ _

/-- A link once one owed credit has come back to its producer, whose counter's full value is `cap`. -/
def Link.returned (l : Link) (cap mono : Nat) : Link :=
  { l with credit := l.credit + 1, owed := l.owed - 1, lastReturn := mono, since := if l.credit + 1 = cap then none else l.since }

theorem creditReturn_owed {k : Nat} {s : State} (hup : (s.link k).stage = .up) (hroom : (s.link k).credit < s.linkCap k)
    (howed : (s.link k).owed ≠ 0) :
    creditReturn k s = s.setLink k ((s.link k).returned (s.linkCap k) s.clk.mono) := by
  simp only [creditReturn, hup, ne_eq, not_true_eq_false, if_false, if_neg (Nat.not_le.2 hroom), howed, Link.returned]

theorem creditReturn_overrun {k : Nat} {s : State} (hup : (s.link k).stage = .up) (hfull : s.linkCap k ≤ (s.link k).credit) :
    creditReturn k s = s.linkFault k 0x011 := by
  simp only [creditReturn, hup, ne_eq, not_true_eq_false, if_false, if_pos hfull]

theorem creditTimeout_lost {k m : Nat} {s : State} (hup : (s.link k).stage = .up) (hsince : (s.link k).since = some m)
    (hfree : s.linkHolds k = false) (hquiet : s.linkTimeout k ≤ 2 * (s.clk.mono - (s.link k).quietSince m))
    (hout : (s.link k).credit < s.linkCap k) :
    creditTimeout k false s = (s.setLink k { s.link k with since := none }).linkFault k 0x010 := by
  have hlate : ¬ (false = true ∨ s.linkHolds k = true ∨ 2 * (s.clk.mono - (s.link k).quietSince m) < s.linkTimeout k) := by
    rw [hfree]; simpa using hquiet
  simp only [creditTimeout, hsince, if_neg hlate, hup, if_true, if_neg (Nat.not_le.2 hout)]

theorem creditTimeout_held (k : Nat) (s : State) : creditTimeout k true s = s := by
  unfold creditTimeout
  dsimp only
  split
  · rfl
  · rw [if_pos (.inl rfl)]

/-- A stopped link whose ends are in service is loaded with the consumer's capacity, once its queue has been emptied (R25). -/
theorem creditResync_stopped {k : Nat} {s : State} (hstage : (s.link k).stage = .stopped) (hproducer : s.down (linkUnits k).1 = false)
    (hconsumer : s.down (linkUnits k).2 = false) :
    creditResync k s = (s.emptyLink k).setLink k
      { credit := (s.emptyLink k).linkCap k, owed := 0, stage := .loaded, lastReturn := (s.emptyLink k).clk.mono, since := none
        heldAt := ((s.emptyLink k).link k).heldAt } := by
  simp only [creditResync, hstage, hproducer, hconsumer, ne_eq, not_true_eq_false, Bool.false_eq_true, or_self, if_false]

theorem creditResyncAck_loaded {k : Nat} {s : State} (hstage : (s.link k).stage = .loaded) :
    creditResyncAck k s = s.setLink k { s.link k with stage := .up, lastReturn := s.clk.mono } := by
  simp only [creditResyncAck, hstage, ne_eq, not_true_eq_false, if_false]

/-- The capacity of a link whose code fixes it (R22). -/
theorem State.linkCap_linkKey (s : State) (k : LinkId) :
    (∀ h, k = .ready h → s.linkCap (linkKey k) = 4096) ∧ (∀ h, k = .record h → s.linkCap (linkKey k) = 512)
      ∧ (∀ h, k = .miss h → s.linkCap (linkKey k) = 8192) ∧ (∀ h, k = .fill h → s.linkCap (linkKey k) = 1024)
      ∧ (∀ i h, k = .dispatch i h → s.linkCap (linkKey k) = 32) ∧ (∀ i q, k = .release i q → s.linkCap (linkKey k) = 256) := by
  simp only [State.linkCap, keyCode_linkKey]
  refine ⟨?_, ?_, ?_, ?_, ?_, ?_⟩ <;> intros <;> subst_vars <;> rfl

/-- Settles O38: one owed credit moves back; a surplus or a lost credit fences the consumer, whose STATE the discards of the fence
leave; a resynchronisation loads the capacity. -/
theorem creditLinks : Obligations.CreditLinks := by
  refine ⟨fun s k hup hroom howed => ?_, fun s k hup hfull hproducer hconsumer => ?_,
    fun s k m hup hsince hfree hquiet hout hproducer hconsumer => ?_, fun s k => ?_,
    fun s k hstage hproducer hconsumer => ?_, fun s k hstage => ?_⟩
  · have hrest := s.setLink_rest (linkKey k) ((s.link (linkKey k)).returned (s.linkCap (linkKey k)) s.clk.mono)
    exact ⟨_, (congrArg (done s) (creditReturn_owed hup hroom howed)).trans (done_eq_next hrest (by decide)),
      congrArg Link.credit (s.link_setLink_self _ _), congrArg Link.owed (s.link_setLink_self _ _),
      congrArg Link.lastReturn (s.link_setLink_self _ _), fun j hj => (s.link_setLink _ _ _).trans (if_neg hj), hrest⟩
  · exact ⟨_, congrArg (done s) (creditReturn_overrun hup hfull), s.linkFault_fences k _ hproducer hconsumer⟩
  · exact ⟨_, congrArg (done s) (creditTimeout_lost hup hsince hfree hquiet hout),
      State.linkFault_fences _ k _ hproducer hconsumer⟩
  · exact congrArg (done s) (creditTimeout_held _ s)
  · have hlink : (creditResync (linkKey k) s).link (linkKey k) = _ :=
      (congrArg (fun t => State.link t (linkKey k)) (creditResync_stopped hstage hproducer hconsumer)).trans
        (State.link_setLink_self _ _ _)
    have hcredit := congrArg Link.credit hlink
    obtain ⟨hready, hrecord, hmiss, hfill, hdispatch, hrelease⟩ := (s.emptyLink (linkKey k)).linkCap_linkKey k
    exact ⟨_, rfl, congrArg Link.stage hlink, congrArg Link.owed hlink, fun h hk => hcredit.trans (hready h hk),
      fun h hk => hcredit.trans (hrecord h hk), fun h hk => hcredit.trans (hmiss h hk), fun h hk => hcredit.trans (hfill h hk),
      fun i h hk => hcredit.trans (hdispatch i h hk), fun i q hk => hcredit.trans (hrelease i q hk)⟩
  · exact congrArg (done s) (creditResyncAck_loaded hstage)

end Sys2Proof.Machine
end

section
/-! PROOF. The slices' frames (R66, R75, R78 to R83, R89): parsing, the end of a frame, work items, the per-packet path. -/

namespace Sys2Proof.Machine

/-! ### Parsing -/

/-- The lane passes frames that were refused or parsed already, and parses the first other one (R66). -/
theorem parseFirst_append (parse : IngFrame → Parsed) (l : List IngFrame) {f : IngFrame} (r : List IngFrame)
    (hl : ∀ g ∈ l, g.refused = true ∨ g.parsed ≠ none) (hrefused : f.refused = false) (hparsed : f.parsed = none)
    (hcells : f.cells ≠ none) (hlong : f.ended = true ∨ 192 ≤ f.bytes.length) :
    parseFirst parse (l ++ f :: r) = l ++ { f with parsed := some (parse f) } :: r := by
  induction l with
  | nil =>
    have hready : ¬ (f.cells = none ∨ f.ended = false ∧ f.bytes.length < 192) := by
      rintro (h | ⟨hended, hshort⟩)
      · exact hcells h
      · rcases hlong with h | h
        · exact absurd h (by simp [hended])
        · omega
    simp only [List.nil_append, parseFirst, hrefused, hparsed, if_neg hready, Bool.false_eq_true, if_false]
  | cons g l ih =>
    have hrest := ih fun x hx => hl x (List.mem_cons_of_mem g hx)
    rw [List.cons_append, parseFirst, hrest]
    rcases hl g (by simp) with hg | hg
    · rw [if_pos hg]; rfl
    · split
      · rfl
      · obtain ⟨y, hy⟩ := Option.ne_none_iff_exists'.1 hg
        simp only [hy, List.cons_append]

/-! ### Counters of a slice -/

theorem State.bumpAll_rest (s : State) (l : List Nat) : s.onlyParts (s.bumpAll l) [.regs] :=
  forEach_onlyParts (fun a t => t.bump_rest a) l s

/-- Each register counts as often as it stands in the list. -/
theorem State.reg_bumpAll (s : State) (l : List Nat) (a : Nat) :
    (s.bumpAll l).reg a = s.reg a + BitVec.ofNat 64 (l.count a) := by
  induction l generalizing s with
  | nil => simp [State.bumpAll, forEach]
  | cons b l ih =>
    have hstep : (s.bumpAll (b :: l)).reg a = ((s.bump b).bumpAll l).reg a := rfl
    rw [hstep, ih, State.reg_bump, List.count_cons]
    by_cases h : a = b
    · subst h
      rw [if_pos rfl, if_pos BEq.rfl, Nat.add_comm, BitVec.ofNat_add, BitVec.add_assoc]
    · rw [if_neg h, if_neg (by simpa using Ne.symm h), Nat.add_zero]

theorem State.drainAdd_rest (s : State) (i gen n : Nat) : s.onlyParts (s.drainAdd i gen n) [.regs] := by
  unfold State.drainAdd
  split
  · exact s.onlyParts_refl _
  · exact s.setFld_rest _ _ _

/-- The drain counts of slice i are GEN_DRAIN[0] to GEN_DRAIN[3] (R89). -/
theorem State.reg_drainAdd (s : State) {i a : Nat} (gen n : Nat) (h : ∀ k < 4, a ≠ Reg.SLC_GEN_DRAIN i k) :
    (s.drainAdd i gen n).reg a = s.reg a := by
  unfold State.drainAdd
  split
  · rfl
  · next k hk =>
    have hlt : k < 4 := List.mem_range.1 (List.mem_of_find?_eq_some hk)
    exact (State.reg_setFld _ _ _ _ _).trans (if_neg (h k hlt))

/-- The counters of a slice lie above its drain counts. -/
theorem slcCnt_ne_genDrain (i c : Nat) {k : Nat} (hk : k < 4) : Reg.SLC_CNT i c ≠ Reg.SLC_GEN_DRAIN i k := by
  simp only [Reg.SLC_CNT, Reg.SLC_GEN_DRAIN]; omega

/-! ### The end of a frame -/

theorem frameKind_lt {w : BitVec 128} {c : Nat} (h : frameKind w = some c) : c < 16 := by
  have hbound : ∀ d ∈ [Cnt.SLC_MALFORMED, Cnt.SLC_DEEP, Cnt.SLC_NONIP], d < 16 := by decide
  refine hbound c ?_
  unfold frameKind at h
  split at h
  · simp [← Option.some.inj h]
  · split at h
    · simp [← Option.some.inj h]
    · split at h
      · simp [← Option.some.inj h]
      · exact absurd h (by simp)

theorem State.countKind_rest (s : State) (sl : Nat) (w : BitVec 128) : s.onlyParts (s.countKind sl w) [.regs] := by
  unfold State.countKind
  split
  · exact s.onlyParts_refl _
  · exact s.bump_rest _

theorem State.reg_countKind (s : State) {sl a : Nat} (w : BitVec 128) (h : ∀ c < 16, a ≠ Reg.SLC_CNT sl c) :
    (s.countKind sl w).reg a = s.reg a := by
  unfold State.countKind
  split
  · rfl
  · next c hc => exact (State.reg_bump _ _ _).trans (if_neg (h c (frameKind_lt hc)))

theorem State.setMeter_rest (s : State) (sl i : Nat) (m : Meter) : s.onlyParts (s.setMeter sl i m) [.slice] :=
  ⟨rfl, fun p hp => by cases p <;> first | rfl | simp at hp⟩

/-- The counters of a policer (R78). -/
def policerCnts (sl i : Nat) : List Nat := [Reg.SLC_POL_CNT_R sl i, Reg.SLC_POL_CNT_Y sl i, Reg.SLC_POL_CNT_G sl i]

/-- An enabled policer stores its buckets and moves one of its counters (R78). -/
theorem State.meter_cases (s : State) (sl i len : Nat) : s.meter sl i len = (0, s)
    ∨ ∃ colour m a, a ∈ policerCnts sl i ∧ s.meter sl i len = (colour, (s.setMeter sl i m).bump a) := by
  unfold State.meter
  split
  · exact .inl rfl
  · extract_lets l m yellow green
    clear_value l m
    split
    · exact .inr ⟨_, _, _, by simp [policerCnts], rfl⟩
    · split
      · exact .inr ⟨_, _, _, by simp [policerCnts], rfl⟩
      · exact .inr ⟨_, _, _, by simp [policerCnts], rfl⟩

theorem State.meter_counts (s : State) (sl i len : Nat) :
    s.onlyParts (s.meter sl i len).2 [.regs, .slice] ∧ s.onlyRegs (s.meter sl i len).2 (policerCnts sl i) := by
  obtain h | ⟨colour, m, a, ha, h⟩ := s.meter_cases sl i len <;> rw [h]
  · exact ⟨s.onlyParts_refl _, s.onlyRegs_refl _⟩
  · exact ⟨State.onlyParts_trans (State.onlyParts_mono (s.setMeter_rest sl i m) (by simp))
        (State.onlyParts_mono (State.bump_rest _ a) (by simp)),
      State.onlyRegs_trans ((s.setMeter_rest sl i m).onlyRegs (by simp) _)
        (State.onlyRegs_mono (State.onlyRegs_bump _ a) (by simpa using ha))⟩

theorem State.setSlice_rest (s : State) (x : SliceSt) : s.onlyParts { s with slice := x } [.regs, .slice] :=
  ⟨rfl, fun p hp => by cases p <;> first | rfl | simp at hp⟩

theorem State.learnEvent_rest (s : State) (p : Nat) (hv : List Byte) (bd : Nat) :
    s.onlyParts (s.learnEvent p hv bd) [.regs, .slice] := by
  unfold State.learnEvent
  extract_lets sl q mac en ct emit l e x
  split
  · exact s.onlyParts_refl _
  · split
    · exact s.onlyParts_refl _
    · split
      · exact State.onlyParts_mono (State.onlyParts_trans (s.bump_rest _) (State.setFld_rest _ _ _ _)) (by simp)
      · exact s.setSlice_rest _

/-- A metered frame that no policer drops is learned and joins the frames to send with its stamp and cells (R79). -/
theorem State.frameKept_joins (s : State) {p : Nat} (f : IngFrame) (z : Parsed) (cells : List Nat) (colour : Nat)
    (hred : s.flag (Reg.SLC_POL_CTL (sliceOf p) (8 * (p % 32) + sumGet z.summary sumInClass)) Fld.SLC_POL_CTL_RED_DROP = false) :
    ∃ o t, s.frameKept p f z cells colour = t.setPort p { t.port p with out := (t.port p).out ++ [o] }
      ∧ s.onlyParts t [.regs, .slice] ∧ o.stamp = f.stamp ∧ o.cellHead = cells.headD 0 ∧ o.cellCnt = cells.length
      ∧ o.parsed.gen = z.gen ∧ o.stage = .start := by
  have hkept : ¬ (colour = 2 ∧ s.flag (Reg.SLC_POL_CTL (sliceOf p) (8 * (p % 32) + sumGet z.summary sumInClass))
      Fld.SLC_POL_CTL_RED_DROP = true) := by simp [hred]
  unfold State.frameKept
  dsimp only
  rw [if_neg hkept]
  exact ⟨_, _, rfl, s.learnEvent_rest _ _ _, rfl, rfl, rfl, rfl, rfl⟩

theorem frameEnd_complete {p : Nat} {s : State} {f : IngFrame} {r : List IngFrame} {y : Parsed} {cells : List Nat}
    (hfifo : (s.port p).fifo = f :: r) (hparsed : f.parsed = some y) (hcells : f.cells = some cells) (hended : f.ended = true)
    (hup : s.down (unitSlice (sliceOf p)) = false) :
    let z := f.settled p y
    let m := ((s.setPort p { s.port p with fifo := r }).countKind (sliceOf p) z.summary).meter (sliceOf p)
      (8 * (p % 32) + sumGet z.summary sumInClass) f.bytes.length
    frameEnd p s = m.2.frameKept p f z cells m.1 := by
  simp only [frameEnd, hfifo, hparsed, hcells, hended, hup, Bool.not_true, Bool.false_eq_true, or_self, if_false]

/-- The policer controls of a slice are no counters of its frames or policers. -/
theorem polCtl_ne_slcCnt (sl pol : Nat) {c : Nat} (hc : c < 16) : Reg.SLC_POL_CTL sl pol ≠ Reg.SLC_CNT sl c := by
  simp only [Reg.SLC_POL_CTL, Reg.SLC_CNT]; omega

theorem polCtl_not_policerCnt (sl pol i : Nat) : Reg.SLC_POL_CTL sl pol ∉ policerCnts sl i := by
  simp only [policerCnts, Reg.SLC_POL_CTL, Reg.SLC_POL_CNT_R, Reg.SLC_POL_CNT_Y, Reg.SLC_POL_CNT_G, List.mem_cons, List.not_mem_nil,
    or_false]
  omega

/-- A complete, parsed frame moves from the FIFO to the frames to send (R66). -/
theorem frameEnd_moves {p : Nat} {s : State} {f : IngFrame} {r : List IngFrame} {y : Parsed} {cells : List Nat}
    (hfifo : (s.port p).fifo = f :: r) (hparsed : f.parsed = some y) (hcells : f.cells = some cells) (hended : f.ended = true)
    (hup : s.down (unitSlice (sliceOf p)) = false)
    (hred : ∀ pol < 256, s.flag (Reg.SLC_POL_CTL (sliceOf p) pol) Fld.SLC_POL_CTL_RED_DROP = false) :
    ∃ o, (frameEnd p s).port p = { s.port p with fifo := r, out := (s.port p).out ++ [o] }
      ∧ o.stamp = f.stamp ∧ o.cellHead = cells.headD 0 ∧ o.cellCnt = cells.length ∧ o.parsed.gen = y.gen ∧ o.stage = .start
      ∧ s.onlyPort (frameEnd p s) p ∧ s.onlyParts (frameEnd p s) [.regs, .ports, .slice] := by
  have hend := frameEnd_complete hfifo hparsed hcells hended hup
  extract_lets z x m at hend
  have hpop := s.setPort_rest p { s.port p with fifo := r }
  have hkind := (s.setPort p { s.port p with fifo := r }).countKind_rest (sliceOf p) z.summary
  have hmeter := ((s.setPort p { s.port p with fifo := r }).countKind (sliceOf p) z.summary).meter_counts (sliceOf p)
    (8 * (p % 32) + sumGet z.summary sumInClass) f.bytes.length
  have hpol : 8 * (p % 32) + sumGet z.summary sumInClass < 256 := by
    have hclass : sumGet z.summary sumInClass < 8 := Nat.mod_lt _ (by decide)
    omega
  have hreg : m.2.reg (Reg.SLC_POL_CTL (sliceOf p) (8 * (p % 32) + sumGet z.summary sumInClass))
      = s.reg (Reg.SLC_POL_CTL (sliceOf p) (8 * (p % 32) + sumGet z.summary sumInClass)) :=
    (hmeter.2 _ (polCtl_not_policerCnt _ _ _)).trans
      ((State.reg_countKind _ _ fun c hc => polCtl_ne_slcCnt _ _ hc).trans (State.reg_setPort _ _ _ _))
  have hkeep : m.2.flag (Reg.SLC_POL_CTL (sliceOf p) (8 * (p % 32) + sumGet z.summary sumInClass)) Fld.SLC_POL_CTL_RED_DROP = false := by
    have hflag := hred _ hpol
    simp only [State.flag, State.fld, hreg] at hflag ⊢
    exact hflag
  obtain ⟨o, t, hjoin, hlearn, hstamp, hhead, hcnt, hgen, hstage⟩ := m.2.frameKept_joins f z cells m.1 hkeep
  rw [hjoin] at hend
  have hport (q : Nat) : t.port q = (s.setPort p { s.port p with fifo := r }).port q :=
    (hlearn.port_eq (by simp) q).trans ((hmeter.1.port_eq (by simp) q).trans (hkind.port_eq (by simp) q))
  have hportp : t.port p = { s.port p with fifo := r } := (hport p).trans (s.port_setPort_self _ _)
  refine ⟨o, ?_, hstamp, hhead, hcnt, hgen, hstage, fun q hq => ?_, ?_⟩
  · rw [hend, State.port_setPort_self, hportp]
  · rw [hend, State.port_setPort, if_neg hq, hport, State.port_setPort, if_neg hq]
  · rw [hend]
    exact State.onlyParts_trans (State.onlyParts_trans (State.onlyParts_trans (State.onlyParts_trans
      (State.onlyParts_mono hpop (by simp)) (State.onlyParts_mono hkind (by simp))) (State.onlyParts_mono hmeter.1 (by simp)))
      (State.onlyParts_mono hlearn (by simp))) (State.onlyParts_mono (t.setPort_rest _ _) (by simp))

end Sys2Proof.Machine
end

section
/-! PROOF. What slices send (R77, R80, R83, R151): work items, searches, and frames handed to the TMs. -/

namespace Sys2Proof.Machine

/-! ### Hand-over -/

theorem State.setTm_rest (s : State) (x : TmSt) : s.onlyParts { s with tm := x } [.tm] :=
  ⟨rfl, fun p hp => by cases p <;> first | rfl | simp at hp⟩

/-- The registers of a sampler that an offered frame may move (R310). -/
def samplerCnts (k : Nat) : List Nat := [Reg.BUF_SAMP_OFFERED k, Reg.BUF_SAMP_SAMPLED k]

theorem State.offer_counts (s : State) (k : Nat) :
    s.onlyParts (s.offer k).2 [.regs, .tm] ∧ s.onlyRegs (s.offer k).2 (samplerCnts k) := by
  unfold State.offer
  split
  · exact ⟨s.onlyParts_refl _, s.onlyRegs_refl _⟩
  · extract_lets x n offered hit tm counted
    have hoffered : s.onlyParts offered [.regs, .tm] ∧ s.onlyRegs offered (samplerCnts k) :=
      ⟨State.onlyParts_mono (s.bump_rest _) (by simp), State.onlyRegs_mono (s.onlyRegs_bump _) (by simp [samplerCnts])⟩
    have hcounted : offered.onlyParts counted [.tm] := offered.setTm_rest _
    have hboth : s.onlyParts counted [.regs, .tm] ∧ s.onlyRegs counted (samplerCnts k) :=
      ⟨State.onlyParts_trans hoffered.1 (State.onlyParts_mono hcounted (by simp)),
        State.onlyRegs_trans hoffered.2 (hcounted.onlyRegs (by simp) _)⟩
    clear_value hit counted
    cases hit with
    | false => exact hboth
    | true => exact ⟨State.onlyParts_trans hboth.1 (State.onlyParts_mono (counted.bump_rest _) (by simp)),
        State.onlyRegs_trans hboth.2 (State.onlyRegs_mono (counted.onlyRegs_bump _) (by simp [samplerCnts]))⟩

/-- A frame offered to its port's sampler moves that sampler alone. -/
theorem State.perpktOffer_counts (s : State) (p : Nat) (o : OutFrame) (r0 r1 : Word64) :
    s.onlyParts (s.perpktOffer p o r0 r1).2 [.regs, .tm]
      ∧ s.onlyRegs (s.perpktOffer p o r0 r1).2 (samplerCnts (s.fld (Reg.BUF_PSAMP p) Fld.BUF_PSAMP_SAMPLER)) := by
  unfold State.perpktOffer
  dsimp only
  split
  · exact s.offer_counts _
  · exact ⟨s.onlyParts_refl _, s.onlyRegs_refl _⟩

/-- The parts that a hand-over may change. -/
def handOverParts : List Part := [.regs, .fault, .buf, .links, .tm]

/-- A descriptor takes a Release credit and joins an input of TM q. -/
theorem handOver_input_rest (s : State) (k n : Nat) (l : Tbl (List Desc) → Tbl (List Desc)) :
    s.onlyParts { s.useCredit k n with tm := { (s.useCredit k n).tm with relIn := l (s.useCredit k n).tm.relIn } } [.links, .tm] :=
  State.onlyParts_trans (State.onlyParts_mono (s.useCredit_rest k n) (by simp))
    (State.onlyParts_mono (State.setTm_rest _ _) (by simp))

theorem State.handOver_rest (s : State) (d : Desc) (quad : Nat) (cnt : Nat → Nat) :
    s.onlyParts (s.handOver d quad cnt) handOverParts := by
  unfold State.handOver
  extract_lets live own dead counted buf held
  have hcounted : s.onlyParts counted handOverParts :=
    State.onlyParts_mono (forEach_onlyParts (fun q t => t.bump_rest _) dead s) (by simp [handOverParts])
  split
  · exact State.onlyParts_trans hcounted
      (State.onlyParts_mono (State.release_gaveBack _ _ _).1 (by simp [handOverParts, releaseParts]))
  · have hheld : counted.onlyParts held handOverParts :=
      State.onlyParts_mono (counted.setBuf_rest _) (by simp [handOverParts, releaseParts])
    clear_value held
    have hinputs := forEach_onlyParts (fun q t => handOver_input_rest t (lnkRelease d.src q) 1 fun l =>
      Tbl.set [] l (32 * q + d.src) (Tbl.get [] l (32 * q + d.src) ++ [{ d with own := own.contains q }])) live held
    exact State.onlyParts_trans (State.onlyParts_trans hcounted hheld) (State.onlyParts_mono hinputs (by simp [handOverParts]))

/-- A hand-over counts its fence discards and, where no TM is in service, gives the frame back. -/
theorem State.reg_handOver (s : State) (d : Desc) (quad : Nat) {cnt : Nat → Nat} {a : Nat} (hcnt : ∀ q, a ≠ cnt q)
    (hrelease : a ∉ releaseRegs) : (s.handOver d quad cnt).reg a = s.reg a := by
  unfold State.handOver
  extract_lets live own dead counted buf held
  have hcounted : counted.reg a = s.reg a :=
    forEach_induct (fun t : State => t.reg a = s.reg a) dead _ s rfl fun q t _ ht =>
      (State.reg_bump _ _ _).trans ((if_neg (hcnt q)).trans ht)
  split
  · exact ((State.release_gaveBack _ _ _).2 a hrelease).trans hcounted
  · have hheld : held.reg a = counted.reg a := rfl
    clear_value held
    exact forEach_induct (fun t : State => t.reg a = s.reg a) live _ held (hheld.trans hcounted) fun q t _ ht => ht

/-! ### The per-packet path -/

/-- A slice's counters are registers of no buffer or TM and no lost-message counter. -/
theorem slcCnt_not_releaseRegs (sl : Nat) {c : Nat} (hc : c < 16) : Reg.SLC_CNT sl c ∉ releaseRegs := by
  simp only [releaseRegs, Reg.SLC_CNT, Reg.FLT_CNT, Cnt.FLT_SRC_OVF_LOST, Reg.BUF_STATUS, Reg.BUF_CNT, Cnt.BUF_CELLS_FREED,
    Cnt.BUF_WITHDRAWN_CELLS, List.mem_cons, List.not_mem_nil, or_false]
  omega

theorem slcCnt_not_samplerCnts {sl c : Nat} (hsl : sl < 16) (hc : c < 16) (k : Nat) : Reg.SLC_CNT sl c ∉ samplerCnts k := by
  simp only [samplerCnts, Reg.SLC_CNT, Reg.BUF_SAMP_OFFERED, Reg.BUF_SAMP_SAMPLED, List.mem_cons, List.not_mem_nil, or_false]
  omega

theorem slcCnt_ne_tmgCnt {sl c : Nat} (hsl : sl < 16) (hc : c < 16) (q i : Nat) : Reg.SLC_CNT sl c ≠ Reg.TMG_CNT q i := by
  simp only [Reg.SLC_CNT, Reg.TMG_CNT]; omega

/-- A frame that its credits let go leaves its port; PERPKT_FRAMES and the counters of what was decided count (R80). -/
theorem State.sendPerpkt_leaves (s : State) (p : Nat) (o : OutFrame) (r0 r1 : Word64) (cnts : List Nat)
    (hcredit : s.perpktCredit p o r0 r1 = true) :
    (s.sendPerpkt p o r0 r1 cnts).port p = { s.port p with out := (s.port p).out.drop 1 }
      ∧ s.onlyParts (s.sendPerpkt p o r0 r1 cnts) (.ports :: handOverParts)
      ∧ ∀ c < 16, sliceOf p < 16 → (s.sendPerpkt p o r0 r1 cnts).reg (Reg.SLC_CNT (sliceOf p) c)
        = s.reg (Reg.SLC_CNT (sliceOf p) c)
          + BitVec.ofNat 64 ((Reg.SLC_CNT (sliceOf p) Cnt.SLC_PERPKT_FRAMES :: cnts).count (Reg.SLC_CNT (sliceOf p) c)) := by
  have hoffer := s.perpktOffer_counts p o r0 r1
  unfold State.sendPerpkt
  rw [hcredit]
  extract_lets sl q x sent
  rw [if_neg (by simp)]
  have hdrop : x.2.onlyParts (x.2.dropOut p) [.ports] := x.2.setPort_rest p _
  have hsent : (x.2.dropOut p).onlyParts sent [.regs] := (x.2.dropOut p).bumpAll_rest (Reg.SLC_CNT sl Cnt.SLC_PERPKT_FRAMES :: cnts)
  have hdrain := sent.drainAdd_rest sl o.parsed.gen (sent.liveQuads x.1 q).length
  have hhand := (sent.drainAdd sl o.parsed.gen (sent.liveQuads x.1 q).length).handOver_rest x.1 q
    (fun j => Reg.TMG_CNT j Cnt.TMG_FENCE_DISCARD)
  refine ⟨?_, ?_, fun c hc hsl => ?_⟩
  · rw [hhand.port_eq (by decide), hdrain.port_eq (by decide), hsent.port_eq (by decide), State.dropOut, State.port_setPort_self,
      hoffer.1.port_eq (by decide)]
  · exact State.onlyParts_trans (State.onlyParts_trans (State.onlyParts_trans (State.onlyParts_trans
      (State.onlyParts_mono hoffer.1 (by decide)) (State.onlyParts_mono hdrop (by decide))) (State.onlyParts_mono hsent (by decide)))
      (State.onlyParts_mono hdrain (by decide))) (State.onlyParts_mono hhand (by decide))
  · rw [State.reg_handOver _ _ _ (fun q => slcCnt_ne_tmgCnt hsl hc q _) (slcCnt_not_releaseRegs _ hc),
      State.reg_drainAdd _ _ _ (fun k hk => slcCnt_ne_genDrain _ _ hk)]
    refine ((x.2.dropOut p).reg_bumpAll (Reg.SLC_CNT sl Cnt.SLC_PERPKT_FRAMES :: cnts) _).trans ?_
    rw [hdrop.reg_eq (by decide), hoffer.2 _ (slcCnt_not_samplerCnts hsl hc _)]

/-- The flood counter of a bridged frame, where it is flooded (R83). -/
def floodCnts (p : Nat) : Option Nat → List Nat
  | none => []
  | some c => [Reg.SLC_MAC_CNT (4 * quadOf p) c]

/-- The counters of a bridged frame. -/
def bridgeCnts (p : Nat) (flood : Option Nat) : List Nat := Reg.SLC_CNT (sliceOf p) Cnt.SLC_BRIDGED :: floodCnts p flood

theorem State.perpktStep_bridged {s : State} {p : Nat} {o : OutFrame} (hfallback : o.fallback = false) (hstage : o.stage = .start)
    (hsound : sumGet o.parsed.summary sumMalformed = 0) (hrouter : s.toRouter (sliceOf p) o.parsed.hv = false) :
    s.perpktStep p o = .send (s.bridge p o).1 0 (bridgeCnts p (s.bridge p o).2) := by
  simp only [State.perpktStep, hstage, hfallback, hsound, hrouter, Bool.not_false, Bool.and_false, Nat.zero_ne_one, false_and, and_false,
    and_self, if_false, if_true]
  rfl

theorem State.perpktStep_routed {s : State} {p tt : Nat} {o : OutFrame} {key : BitVec 320} (hfallback : o.fallback = false)
    (hstage : o.stage = .start) (hsound : sumGet o.parsed.summary sumMalformed = 0) (hkey : o.parsed.key ≠ [])
    (hrouter : s.toRouter (sliceOf p) o.parsed.hv = true) (hroute : routeKey o.parsed.hv o.parsed.summary = some (tt, key)) :
    s.perpktStep p o = .search .waitRoute tt key [Reg.SLC_CNT (sliceOf p) Cnt.SLC_ROUTED] := by
  have hown : (o.parsed.key != [] && s.toRouter (sliceOf p) o.parsed.hv) = true := by simp [hkey, hrouter]
  simp only [State.perpktStep, hstage, hfallback, hsound, hown, hroute, Bool.not_true, Bool.false_eq_true, Nat.zero_ne_one, false_and,
    and_false, if_false]

section
variable {p : Nat} {s : State} {o : OutFrame} {r : List OutFrame}

theorem perpktForward_search {st : FwdStage} {tt : Nat} {key : BitVec 320} {cnts : List Nat} (hout : (s.port p).out = o :: r)
    (hpath : o.flow = false) (hup : s.down (unitSlice (sliceOf p)) = false) (hstep : s.perpktStep p o = .search st tt key cnts) :
    perpktForward p s = ((s.setOut p { o with stage := st }).bumpAll cnts).askSearch (quadOf p) (sliceOf p % 4)
      { table := tt, key := key, gen := o.parsed.gen, client := .slice p } := by
  simp only [perpktForward, hout, hpath, hup, hstep, Bool.false_eq_true, or_self, if_false]

theorem perpktForward_send {r0 r1 : Word64} {cnts : List Nat} (hout : (s.port p).out = o :: r) (hpath : o.flow = false)
    (hup : s.down (unitSlice (sliceOf p)) = false) (hstep : s.perpktStep p o = .send r0 r1 cnts) :
    perpktForward p s = s.sendPerpkt p o r0 r1 cnts := by
  simp only [perpktForward, hout, hpath, hup, hstep, Bool.false_eq_true, or_self, if_false]

/-- A search asked for: its frame waits at the head of its port, the request joins those of its slice, and the counters count. -/
theorem perpktForward_asks {st : FwdStage} {tt : Nat} {key : BitVec 320} {cnts : List Nat} (hout : (s.port p).out = o :: r)
    (hpath : o.flow = false) (hup : s.down (unitSlice (sliceOf p)) = false) (hstep : s.perpktStep p o = .search st tt key cnts) :
    (perpktForward p s).port p = { s.port p with out := { o with stage := st } :: r }
      ∧ Tbl.get [] (perpktForward p s).tmb.searches (8 * quadOf p + sliceOf p % 4)
          = Tbl.get [] s.tmb.searches (8 * quadOf p + sliceOf p % 4) ++ [⟨tt, key, o.parsed.gen, .slice p⟩]
      ∧ (∀ a, (perpktForward p s).reg a = s.reg a + BitVec.ofNat 64 (cnts.count a))
      ∧ s.onlyPort (perpktForward p s) p ∧ s.onlyParts (perpktForward p s) [.regs, .ports, .tmb] := by
  rw [perpktForward_search hout hpath hup hstep]
  have hset : s.onlyParts (s.setOut p { o with stage := st }) [.ports] := s.setPort_rest p _
  have hcount := (s.setOut p { o with stage := st }).bumpAll_rest cnts
  have hport (q : Nat) : ((s.setOut p { o with stage := st }).bumpAll cnts).port q
      = if q = p then { s.port p with out := { o with stage := st } :: r } else s.port q := by
    rw [hcount.port_eq (by decide), State.setOut, State.port_setPort, hout, List.drop_succ_cons, List.drop_zero]
  have hask : ((s.setOut p { o with stage := st }).bumpAll cnts).onlyParts
      (((s.setOut p { o with stage := st }).bumpAll cnts).askSearch (quadOf p) (sliceOf p % 4)
        { table := tt, key := key, gen := o.parsed.gen, client := .slice p }) [.tmb] :=
    ⟨rfl, fun x hx => by cases x <;> first | rfl | simp at hx⟩
  refine ⟨?_, ?_, fun a => ?_, fun q hq => ?_, ?_⟩
  · rw [hask.port_eq (by decide), hport, if_pos rfl]
  · have htmb : ((s.setOut p { o with stage := st }).bumpAll cnts).tmb = s.tmb :=
      (hcount.2 .tmb (by decide)).trans (hset.2 .tmb (by decide))
    simp only [State.askSearch, Tbl.get_set, if_true, htmb]
  · rw [hask.reg_eq (by decide), State.reg_bumpAll, hset.reg_eq (by decide)]
  · rw [hask.port_eq (by decide), hport, if_neg hq]
  · exact State.onlyParts_trans (State.onlyParts_trans (State.onlyParts_mono hset (by decide)) (State.onlyParts_mono hcount (by decide)))
      (State.onlyParts_mono hask (by decide))

/-! ### Work items -/

/-- A flow frame whose home shard is in service and has credit: its item joins the shard's input from the slice (R151). -/
theorem workItemSend_item {h : Nat} (hout : (s.port p).out = o :: r) (hpath : o.flow = true)
    (hup : s.down (unitSlice (sliceOf p)) = false) (hhome : o.h.toNat / 2 ^ 60 = h) (hshard : s.shardFenced h = false)
    (hcredit : 0 < s.credit (lnkDispatch (sliceOf p) h)) :
    let t := (((s.dropOut p).useCredit (lnkDispatch (sliceOf p) h) 1).drainAdd (sliceOf p) o.parsed.gen 1).slcBump (sliceOf p)
      Cnt.SLC_FLOW_ITEMS
    workItemSend p s = t.setShard h { t.shard h with
      inputs := Tbl.set [] (t.shard h).inputs (sliceOf p) (Tbl.get [] (t.shard h).inputs (sliceOf p) ++ [t.itemOf (sliceOf p) o]) } := by
  subst hhome
  simp only [workItemSend, State.flowStep, hout, hpath, hup, hshard, Bool.not_true, Bool.not_false, Bool.false_eq_true, or_self, if_false,
    if_true, if_neg (Nat.ne_of_gt hcredit)]

theorem hashCtl_ne_slcCnt (sl c : Nat) : Reg.SLC_HASH_CTL sl ≠ Reg.SLC_CNT sl c := by
  simp only [Reg.SLC_HASH_CTL, Reg.SLC_CNT]; omega

theorem hashCtl_ne_genDrain (sl k : Nat) : Reg.SLC_HASH_CTL sl ≠ Reg.SLC_GEN_DRAIN sl k := by
  simp only [Reg.SLC_HASH_CTL, Reg.SLC_GEN_DRAIN]; omega

/-- An item says what its frame and the slice's BUCKET_BITS say (R148). -/
theorem State.itemOf_congr {s t : State} {sl : Nat} (h : t.reg (Reg.SLC_HASH_CTL sl) = s.reg (Reg.SLC_HASH_CTL sl)) (o : OutFrame) :
    t.itemOf sl o = s.itemOf sl o := by
  simp only [State.itemOf, State.fld, h]

theorem workItemSend_sends {h : Nat} (hout : (s.port p).out = o :: r) (hpath : o.flow = true)
    (hup : s.down (unitSlice (sliceOf p)) = false) (hhome : o.h.toNat / 2 ^ 60 = h) (hshard : s.shardFenced h = false)
    (hcredit : 0 < s.credit (lnkDispatch (sliceOf p) h)) :
    (workItemSend p s).port p = { s.port p with out := r }
      ∧ Tbl.get [] ((workItemSend p s).shard h).inputs (sliceOf p)
          = Tbl.get [] (s.shard h).inputs (sliceOf p) ++ [s.itemOf (sliceOf p) o]
      ∧ (workItemSend p s).credit (lnkDispatch (sliceOf p) h) + 1 = s.credit (lnkDispatch (sliceOf p) h)
      ∧ (workItemSend p s).reg (Reg.SLC_CNT (sliceOf p) Cnt.SLC_FLOW_ITEMS) = s.reg (Reg.SLC_CNT (sliceOf p) Cnt.SLC_FLOW_ITEMS) + 1
      ∧ s.onlyPort (workItemSend p s) p ∧ s.onlyParts (workItemSend p s) [.regs, .ports, .links, .shards] := by
  have hsend := workItemSend_item hout hpath hup hhome hshard hcredit
  extract_lets t at hsend
  have hdrop : s.onlyParts (s.dropOut p) [.ports] := s.setPort_rest p _
  have hpaid := (s.dropOut p).useCredit_rest (lnkDispatch (sliceOf p) h) 1
  have hdrain := ((s.dropOut p).useCredit (lnkDispatch (sliceOf p) h) 1).drainAdd_rest (sliceOf p) o.parsed.gen 1
  have hcount : (((s.dropOut p).useCredit (lnkDispatch (sliceOf p) h) 1).drainAdd (sliceOf p) o.parsed.gen 1).onlyParts t [.regs] :=
    State.bump_rest _ _
  have hreg {a : Nat} (ha : ∀ k < 4, a ≠ Reg.SLC_GEN_DRAIN (sliceOf p) k) :
      (((s.dropOut p).useCredit (lnkDispatch (sliceOf p) h) 1).drainAdd (sliceOf p) o.parsed.gen 1).reg a = s.reg a := by
    rw [State.reg_drainAdd _ _ _ ha, hpaid.reg_eq (by decide), hdrop.reg_eq (by decide)]
  have hport (q : Nat) : t.port q = if q = p then { s.port p with out := r } else s.port q := by
    rw [hcount.port_eq (by decide), hdrain.port_eq (by decide), hpaid.port_eq (by decide), State.dropOut, State.port_setPort, hout,
      List.drop_succ_cons, List.drop_zero]
  have hshardEq : t.shard h = s.shard h := by
    rw [hcount.shard_eq (by decide), hdrain.shard_eq (by decide), hpaid.shard_eq (by decide), hdrop.shard_eq (by decide)]
  have hcreditEq : t.credit (lnkDispatch (sliceOf p) h) = s.credit (lnkDispatch (sliceOf p) h) - 1 := by
    rw [hcount.credit_eq (by decide), hdrain.credit_eq (by decide), State.credit_useCredit, if_pos rfl, hdrop.credit_eq (by decide)]
  have hitem : t.itemOf (sliceOf p) o = s.itemOf (sliceOf p) o := by
    refine State.itemOf_congr ?_ o
    exact (State.reg_bump _ _ _).trans ((if_neg (hashCtl_ne_slcCnt _ _)).trans (hreg fun k _ => hashCtl_ne_genDrain _ k))
  have hitems : t.reg (Reg.SLC_CNT (sliceOf p) Cnt.SLC_FLOW_ITEMS) = s.reg (Reg.SLC_CNT (sliceOf p) Cnt.SLC_FLOW_ITEMS) + 1 := by
    refine (State.reg_bump _ _ _).trans ((if_pos rfl).trans ?_)
    rw [hreg fun k hk => slcCnt_ne_genDrain _ _ hk]
    rfl
  have hjoin := t.setShard_rest h { t.shard h with
    inputs := Tbl.set [] (t.shard h).inputs (sliceOf p) (Tbl.get [] (t.shard h).inputs (sliceOf p) ++ [t.itemOf (sliceOf p) o]) }
  rw [hsend]
  refine ⟨?_, ?_, ?_, ?_, fun q hq => ?_, ?_⟩
  · rw [hjoin.port_eq (by decide), hport, if_pos rfl]
  · rw [State.shard_setShard, if_pos rfl, Tbl.get_set, if_pos rfl, hshardEq, hitem]
  · rw [hjoin.credit_eq (by decide), hcreditEq]
    omega
  · rw [hjoin.reg_eq (by decide), hitems]
  · rw [hjoin.port_eq (by decide), hport, if_neg hq]
  · exact State.onlyParts_trans (State.onlyParts_trans (State.onlyParts_trans (State.onlyParts_trans
      (State.onlyParts_mono hdrop (by decide)) (State.onlyParts_mono hpaid (by decide))) (State.onlyParts_mono hdrain (by decide)))
      (State.onlyParts_mono hcount (by decide))) (State.onlyParts_mono hjoin (by decide))
end

theorem State.bridge_flood_lt {s : State} {p c : Nat} {o : OutFrame} (h : (s.bridge p o).2 = some c) : c < 16 := by
  have hbound : Cnt.MAC_FLOOD_BCAST_MCAST < 16 ∧ Cnt.MAC_FLOOD_UNKNOWN < 16 := by decide
  unfold State.bridge at h
  extract_lets sl q w bd da base flood at h
  split at h
  · exact Option.some.inj h ▸ hbound.1
  · split at h
    · exact Option.some.inj h ▸ hbound.2
    · exact absurd h (by simp)

/-- A bridged frame, whatever its flooding, counts once in BRIDGED and once in PERPKT_FRAMES (R83). -/
theorem bridgeCnts_count (p : Nat) {flood : Option Nat} (hflood : ∀ d, flood = some d → d < 16) {c : Nat}
    (hc : c = Cnt.SLC_BRIDGED ∨ c = Cnt.SLC_PERPKT_FRAMES) :
    (Reg.SLC_CNT (sliceOf p) Cnt.SLC_PERPKT_FRAMES :: bridgeCnts p flood).count (Reg.SLC_CNT (sliceOf p) c) = 1 := by
  have hapart : Reg.SLC_CNT (sliceOf p) Cnt.SLC_PERPKT_FRAMES ≠ Reg.SLC_CNT (sliceOf p) Cnt.SLC_BRIDGED := by
    simp only [Reg.SLC_CNT, Cnt.SLC_PERPKT_FRAMES, Cnt.SLC_BRIDGED]; omega
  have hsmall : c < 16 := by rcases hc with rfl | rfl <;> decide
  have hmac {d : Nat} (hd : d < 16) : Reg.SLC_CNT (sliceOf p) c ∉ [Reg.SLC_MAC_CNT (4 * quadOf p) d] := by
    simp only [Reg.SLC_CNT, Reg.SLC_MAC_CNT, List.mem_singleton]; omega
  have hrest : (floodCnts p flood).count (Reg.SLC_CNT (sliceOf p) c) = 0 := by
    cases flood with
    | none => rfl
    | some d => exact List.count_eq_zero_of_not_mem (hmac (hflood d rfl))
  rw [bridgeCnts, List.count_cons, List.count_cons, hrest]
  rcases hc with rfl | rfl
  · simp [hapart]
  · simp [hapart.symm]

/-- Settles O16: each command's frame goes where its rule sends it; the rest of the state is framed step by step. -/
theorem sliceFrames : Obligations.SliceFrames := by
  refine ⟨fun s p l f r hfifo hpassed hrefused hparsed hcells hlong => ?_,
    fun s p f r y cells hfifo hparsed hcells hended hup hred => ?_, fun s p o r hout hpath hup hshard hcredit => ?_,
    fun s p o r tt key hout hpath hfallback hstage hup hsound hkey hrouter hroute => ?_,
    fun s p o r hout hpath hfallback hstage hup hsound hrouter hcredit => ?_⟩
  · have hparse : parseFrame p.val s = s.setPort p.val { s.port p.val with
        fifo := l ++ { f with
          parsed := some (s.parse p.val f.bytes (s.fld (Reg.SLC_GEN (sliceOf p.val)) Fld.SLC_GEN_CUR) f.cls) } :: r } := by
      rw [parseFrame, hfifo, parseFirst_append _ l r hpassed hrefused hparsed hcells hlong]
    exact congrArg (done s) hparse
  · obtain ⟨o, hport, hstamp, hhead, hcnt, hgen, hstage, honly, hparts⟩ := frameEnd_moves hfifo hparsed hcells hended hup hred
    exact ⟨_, o, done_eq_next hparts (by decide), congrArg PortSt.fifo hport, congrArg PortSt.out hport, hstamp, hhead, hcnt, hgen,
      hstage, honly, hparts⟩
  · obtain ⟨hport, hinput, hpaid, hcount, honly, hparts⟩ := workItemSend_sends hout hpath hup rfl hshard hcredit
    exact ⟨_, done_eq_next hparts (by decide), congrArg PortSt.out hport, hinput, hpaid, hcount, honly, hparts⟩
  · obtain ⟨hport, hsearch, hcount, honly, hparts⟩ :=
      perpktForward_asks hout hpath hup (State.perpktStep_routed hfallback hstage hsound hkey hrouter hroute)
    refine ⟨_, done_eq_next hparts (by decide), congrArg PortSt.out hport, hsearch, ?_, fun a ha => ?_, honly, hparts⟩
    · rw [hcount, List.count_singleton_self]; rfl
    · rw [hcount, List.count_eq_zero_of_not_mem ha]; simp
  · have hsl : sliceOf p.val < 16 := by simp only [sliceOf]; omega
    have hflood := fun d => State.bridge_flood_lt (s := s) (p := p.val) (c := d) (o := o)
    have hsend := perpktForward_send hout hpath hup (State.perpktStep_bridged hfallback hstage hsound hrouter)
    obtain ⟨hport, hparts, hcount⟩ := s.sendPerpkt_leaves p.val o (s.bridge p.val o).1 0 (bridgeCnts p.val (s.bridge p.val o).2) hcredit
    refine ⟨_, (congrArg (done s) hsend).trans (done_eq_next hparts (by decide)), ?_, ?_, ?_⟩
    · rw [hport, hout]; rfl
    · rw [hcount _ (by decide) hsl, bridgeCnts_count _ hflood (.inl rfl)]; rfl
    · rw [hcount _ (by decide) hsl, bridgeCnts_count _ hflood (.inr rfl)]; rfl

end Sys2Proof.Machine
end

section
/-! PROOF. Frames received (R26, R43, R45, R47, R51): the first bytes of a frame enter the FIFO, its end is judged. -/

namespace Sys2Proof.Machine

theorem State.link_freeEntry_credit (s : State) (k n : Nat) : ((s.freeEntry k n).link k).credit = (s.link k).credit := by
  simp [State.freeEntry]

theorem State.link_useCredit_credit (s : State) (k n : Nat) : ((s.useCredit k n).link k).credit = (s.link k).credit - n := by
  simp [State.useCredit]

/-! ### Flow control -/

/-- A change of occupancy moves the port's flow-control marks alone (R46). -/
theorem State.fcUpdate_cases (s : State) (p : Nat) : ∃ x : PortSt, s.fcUpdate p = s.setPort p x
    ∧ x.fifo = (s.port p).fifo ∧ x.rx = (s.port p).rx := by
  unfold State.fcUpdate
  extract_lets x n h pol pfc xoff y cover
  split
  · exact ⟨_, rfl, rfl, rfl⟩
  · exact ⟨_, rfl, rfl, rfl⟩

theorem State.fcUpdate_rest (s : State) (p : Nat) : s.onlyParts (s.fcUpdate p) [.ports] := by
  obtain ⟨x, h, -, -⟩ := s.fcUpdate_cases p
  exact h ▸ s.setPort_rest p x

/-- `t` is `s` but for port p and the parts of `l`, and port p holds this FIFO and this frame in reception. -/
structure State.PortHolds (s t : State) (p : Nat) (l : List Part) (fifo : List IngFrame) (rx : Option RxNow) : Prop where
  fifo : (t.port p).fifo = fifo
  rx : (t.port p).rx = rx
  only : s.onlyPort t p
  rest : s.onlyParts t l

section
variable {s t u : State} {p : Nat} {l m : List Part} {fifo fifo' : List IngFrame} {rx rx' : Option RxNow}

theorem State.PortHolds.trans (a : s.PortHolds t p l fifo rx) (b : t.PortHolds u p l fifo' rx') : s.PortHolds u p l fifo' rx' :=
  ⟨b.fifo, b.rx, State.onlyPort_trans a.only b.only, State.onlyParts_trans a.rest b.rest⟩

theorem State.PortHolds.mono (a : s.PortHolds t p l fifo rx) (h : ∀ x ∈ l, x ∈ m) : s.PortHolds t p m fifo rx :=
  ⟨a.fifo, a.rx, a.only, State.onlyParts_mono a.rest h⟩

/-- A further change beside the ports. -/
theorem State.PortHolds.beside (a : s.PortHolds t p l fifo rx) (b : t.onlyParts u m) (hports : Part.ports ∉ m)
    (h : ∀ x ∈ m, x ∈ l) : s.PortHolds u p l fifo rx :=
  ⟨(congrArg PortSt.fifo (b.port_eq hports p)).trans a.fifo, (congrArg PortSt.rx (b.port_eq hports p)).trans a.rx,
    State.onlyPort_trans a.only (b.onlyPort hports p), State.onlyParts_trans a.rest (State.onlyParts_mono b h)⟩

/-- A further write to port p. -/
theorem State.PortHolds.setPort (a : s.PortHolds t p l fifo rx) (x : PortSt) (h : Part.ports ∈ l) :
    s.PortHolds (t.setPort p x) p l x.fifo x.rx :=
  ⟨by rw [State.port_setPort_self], by rw [State.port_setPort_self], State.onlyPort_trans a.only (t.onlyPort_setPort p x),
    State.onlyParts_trans a.rest (State.onlyParts_mono (t.setPort_rest p x) (by simpa using h))⟩

theorem State.PortHolds.refl (s : State) (p : Nat) (l : List Part) : s.PortHolds s p l (s.port p).fifo (s.port p).rx :=
  ⟨rfl, rfl, s.onlyPort_refl p, s.onlyParts_refl l⟩

/-- A change of occupancy keeps the FIFO and the frame in reception. -/
theorem State.PortHolds.fcUpdate (a : s.PortHolds t p l fifo rx) (h : Part.ports ∈ l) : s.PortHolds (t.fcUpdate p) p l fifo rx := by
  obtain ⟨x, hx, hfifo, hrx⟩ := t.fcUpdate_cases p
  have hset := a.setPort x h
  rw [hfifo, hrx, a.fifo, a.rx] at hset
  rw [hx]
  exact hset

end

/-! ### The tail of a FIFO -/

section
variable {s : State} {p : Nat} {l : List IngFrame} {f : IngFrame}

theorem State.modTail_append (h : (s.port p).fifo = l ++ [f]) (g : IngFrame → IngFrame) :
    s.modTail p g = s.setPort p { s.port p with fifo := l ++ [g f] } := by
  simp only [State.modTail, h, List.getLast?_concat, List.dropLast_concat]

theorem State.tailRefused_append (h : (s.port p).fifo = l ++ [f]) : s.tailRefused p = f.refused := by
  simp only [State.tailRefused, h, List.getLast?_concat]

/-- A frame that no cell holds leaves the FIFO with its entries (R26). -/
theorem State.dropTail_append (h : (s.port p).fifo = l ++ [f]) (hcells : f.cells = none) :
    s.dropTail p = (s.setPort p { s.port p with fifo := l }).freeEntry (lnkIngress p) f.entries := by
  simp only [State.dropTail, h, List.getLast?_concat, List.dropLast_concat, hcells]

/-- The frame at the tail, with the bytes received of it by now and the entries and class that they give it. -/
def State.storedFrame (s : State) (p : Nat) (r : RxNow) (f : IngFrame) (bytes : List Byte) : IngFrame :=
  { f with bytes := bytes
           entries := f.entries + (entriesNeeded bytes - entriesNeeded r.bytes) - (entriesNeeded r.bytes - entriesNeeded bytes)
           cls := s.keepClass p f.cls r.bytes.length bytes }

/-- Bytes for which the FIFO has room: credit is paid, and the frame at the tail stored (R45). -/
theorem State.rxBytes_room (r : RxNow) (bytes : List Byte) (hfifo : (s.port p).fifo = l ++ [f]) (hcells : f.cells = none)
    (hrefused : f.refused = false) (hroom : entriesNeeded bytes - entriesNeeded r.bytes ≤ s.credit (lnkIngress p)) :
    let paid := s.useCredit (lnkIngress p) (entriesNeeded bytes - entriesNeeded r.bytes)
    let stored := paid.setPort p { paid.port p with fifo := l ++ [s.storedFrame p r f bytes] }
    let freed := stored.freeEntry (lnkIngress p)
      (f.entries + (entriesNeeded bytes - entriesNeeded r.bytes) - (s.storedFrame p r f bytes).entries)
    s.rxBytes p r bytes = freed.setPort p { freed.port p with rx := some { r with bytes := bytes } } := by
  have hpaid : ((s.useCredit (lnkIngress p) (entriesNeeded bytes - entriesNeeded r.bytes)).port p).fifo = l ++ [f] := hfifo
  simp only [State.rxBytes, if_neg (Nat.not_lt.2 hroom), hpaid, List.getLast?_concat, hcells, hrefused, Bool.false_eq_true, if_false,
    State.modTail_append hpaid, State.storedFrame]

theorem State.rxBytes_stores (r : RxNow) (bytes : List Byte) (hfifo : (s.port p).fifo = l ++ [f]) (hcells : f.cells = none)
    (hrefused : f.refused = false) (hroom : entriesNeeded bytes - entriesNeeded r.bytes ≤ s.credit (lnkIngress p)) :
    s.PortHolds (s.rxBytes p r bytes) p [.ports, .links] (l ++ [s.storedFrame p r f bytes]) (some { r with bytes := bytes })
      ∧ ((s.rxBytes p r bytes).link (lnkIngress p)).credit
          = (s.link (lnkIngress p)).credit - (entriesNeeded bytes - entriesNeeded r.bytes) := by
  have hroomy := s.rxBytes_room r bytes hfifo hcells hrefused hroom
  extract_lets paid x stored freed y at hroomy
  have hpaid : s.PortHolds paid p [.ports, .links] (s.port p).fifo (s.port p).rx :=
    (State.PortHolds.refl s p _).beside (s.useCredit_rest _ _) (by decide) (by decide)
  have hstored : s.PortHolds stored p [.ports, .links] (l ++ [s.storedFrame p r f bytes]) (paid.port p).rx :=
    hpaid.setPort _ (by decide)
  have hfreed : s.PortHolds freed p [.ports, .links] (l ++ [s.storedFrame p r f bytes]) (paid.port p).rx :=
    hstored.beside (stored.freeEntry_rest _ _) (by decide) (by decide)
  have hall := hfreed.setPort { freed.port p with rx := some { r with bytes := bytes } } (by decide)
  rw [hfreed.fifo] at hall
  rw [hroomy]
  exact ⟨hall, (stored.link_freeEntry_credit _ _).trans (s.link_useCredit_credit _ _)⟩

end

/-! ### The first bytes of a frame -/

/-- The report of a clean stretch of bytes whose alignment delay is `delay`. -/
def cleanReport (delay : Nat) : PhyReport := ⟨delay, 0, 0, 0, false⟩

/-- A frame in reception of which nothing has been found wrong. -/
def cleanRx (bytes : List Byte) : RxNow := ⟨bytes, false, false, true⟩

/-- A frame that begins stands at the tail of the FIFO, empty, stamped with MONO (R51). -/
theorem State.rxBegin_enters (s : State) (p delay : Nat) :
    ∃ f : IngFrame, s.PortHolds (s.rxBegin p delay) p [.ports] ((s.port p).fifo ++ [f]) (some (cleanRx []))
      ∧ f.ended = false ∧ f.stamp.mono = s.clk.mono ∧ f.entries = 0 ∧ f.cells = none ∧ f.refused = false := by
  unfold State.rxBegin
  extract_lets adj stamp x
  exact ⟨_, (State.PortHolds.refl s p [.ports]).setPort _ (by decide), rfl, rfl, rfl, rfl, rfl⟩

theorem rxFrame_begin {s : State} {p : Nat} (bytes : List Byte) (delay : Nat) (hrx : (s.port p).rx = none)
    (haccepts : s.rxAccepts p = true) (hbegun : ((s.rxBegin p delay).port p).rx = some (cleanRx [])) :
    rxFrame p bytes false (cleanReport delay) s = ((s.rxBegin p delay).rxBytes p (cleanRx []) bytes).fcUpdate p := by
  simp [rxFrame, cleanReport, hrx, haccepts, hbegun, cleanRx]

/-- The class of a frame's first bytes is that of R47, whatever it had before. -/
theorem State.keepClass_first (s : State) (p old : Nat) (bytes : List Byte) :
    s.keepClass p old 0 bytes = s.ingressClass p bytes := rfl

theorem State.ingressClass_congr {s t : State} (h : ∀ a, t.reg a = s.reg a) (p : Nat) (bytes : List Byte) :
    t.ingressClass p bytes = s.ingressClass p bytes := by
  simp only [State.ingressClass, State.fld, h]

theorem rxFrame_enters {s : State} {p : Nat} (bytes : List Byte) (delay : Nat) (hrx : (s.port p).rx = none)
    (haccepts : s.rxAccepts p = true) (hroom : entriesNeeded bytes ≤ s.credit (lnkIngress p)) :
    ∃ f : IngFrame, s.PortHolds (rxFrame p bytes false (cleanReport delay) s) p [.ports, .links] ((s.port p).fifo ++ [f])
        (some (cleanRx bytes))
      ∧ f.bytes = bytes ∧ f.ended = false ∧ f.cls = s.ingressClass p bytes ∧ f.stamp.mono = s.clk.mono
      ∧ f.entries = entriesNeeded bytes
      ∧ ((rxFrame p bytes false (cleanReport delay) s).link (lnkIngress p)).credit
          = (s.link (lnkIngress p)).credit - entriesNeeded bytes := by
  obtain ⟨f, hbegin, hended, hmono, hentries, hcells, hrefused⟩ := s.rxBegin_enters p delay
  have hcredit : entriesNeeded bytes - entriesNeeded (cleanRx []).bytes ≤ (s.rxBegin p delay).credit (lnkIngress p) := by
    rw [hbegin.rest.credit_eq (by decide)]
    exact hroom
  obtain ⟨hstores, hpaid⟩ := (s.rxBegin p delay).rxBytes_stores (cleanRx []) bytes hbegin.fifo hcells hrefused hcredit
  have hall := ((hbegin.mono (by decide)).trans hstores).fcUpdate (by decide)
  have hfc := ((s.rxBegin p delay).rxBytes p (cleanRx []) bytes).fcUpdate_rest p
  rw [rxFrame_begin bytes delay hrx haccepts hbegin.rx]
  refine ⟨_, hall, rfl, hended, ?_, hmono, ?_, ?_⟩
  · exact (State.keepClass_first _ _ f.cls _).trans (State.ingressClass_congr (hbegin.rest.reg_eq (by decide)) p bytes)
  · show f.entries + (entriesNeeded bytes - 0) - (0 - entriesNeeded bytes) = _
    omega
  · rw [hfc.link_eq (by decide), hpaid, hbegin.rest.link_eq (by decide)]
    rfl

/-! ### The end of a frame -/

section
variable {s : State} {p : Nat} {l : List IngFrame} {f : IngFrame} {r : RxNow}

theorem rxFrame_last (hrx : (s.port p).rx = some r) (hfull : r.fifoFull = false) :
    rxFrame p [] true (cleanReport 0) s = (((s.rxBytes p r r.bytes).fcUpdate p).rxEnd p).fcUpdate p := by
  obtain ⟨bytes, phyErr, fifoFull, inFifo⟩ := r
  obtain rfl : fifoFull = false := hfull
  simp [rxFrame, cleanReport, hrx]

theorem State.rxError_congr {t : State} (h : ∀ a, t.reg a = s.reg a) : t.rxError p r = s.rxError p r := by
  have hmax : t.fld (Reg.PRT_MTU (p / 2) (p % 2)) Fld.PRT_MTU_MAX_FRAME = s.fld (Reg.PRT_MTU (p / 2) (p % 2)) Fld.PRT_MTU_MAX_FRAME := by
    simp only [State.fld, h]
  rw [State.rxError, State.rxError, hmax]

theorem State.rxEnd_error {c : Nat} (hrx : (s.port p).rx = some r) (hfull : r.fifoFull = false)
    (hfifo : (s.port p).fifo = l ++ [f]) (hrefused : f.refused = false) (herror : s.rxError p r = some c) :
    s.rxEnd p = ((s.setPort p { s.port p with rx := none }).dropTail p).bump (cntPort p c) := by
  have htail : ((s.setPort p { s.port p with rx := none }).port p).fifo = l ++ [f] := by rw [State.port_setPort_self]; exact hfifo
  have hjudged : (s.setPort p { s.port p with rx := none }).rxError p r = some c := herror
  simp only [State.rxEnd, hrx, hfull, State.tailRefused_append htail, hrefused, hjudged, Bool.false_eq_true, if_false]

theorem State.rxEnd_good (hrx : (s.port p).rx = some r) (hfull : r.fifoFull = false) (hfifo : (s.port p).fifo = l ++ [f])
    (hrefused : f.refused = false) (hgood : s.rxError p r = none) (hdata : isMacControl r.bytes = false) :
    s.rxEnd p = (((s.setPort p { s.port p with rx := none }).bump (cntPort p Cnt.PRT_RX_FRAMES_OK)).bumpBy
      (cntPort p Cnt.PRT_RX_OCTETS_OK) r.bytes.length).modTail p (fun f => { f with ended := true }) := by
  have htail : ((s.setPort p { s.port p with rx := none }).port p).fifo = l ++ [f] := by rw [State.port_setPort_self]; exact hfifo
  have hjudged : (s.setPort p { s.port p with rx := none }).rxError p r = none := hgood
  simp only [State.rxEnd, hrx, hfull, State.tailRefused_append htail, hrefused, hjudged, hdata, Bool.false_eq_true, if_false]

theorem cntPort_ne {p c d : Nat} (h : c ≠ d) : cntPort p c ≠ cntPort p d := by
  simp only [cntPort, Reg.PRT_CNT]; omega

/-- The frame in reception is over: none is received, and the FIFO stands. -/
theorem State.endRx_holds (s : State) (p : Nat) :
    s.PortHolds (s.setPort p { s.port p with rx := none }) p [.regs, .ports, .links] (s.port p).fifo none :=
  (State.PortHolds.refl s p [.regs, .ports, .links]).setPort { s.port p with rx := none } (by decide)

/-- A good frame stays, complete, and counts with its octets (R43). -/
theorem State.rxEnd_keeps (hrx : (s.port p).rx = some r) (hfull : r.fifoFull = false) (hfifo : (s.port p).fifo = l ++ [f])
    (hrefused : f.refused = false) (hgood : s.rxError p r = none) (hdata : isMacControl r.bytes = false) :
    s.PortHolds (s.rxEnd p) p [.regs, .ports, .links] (l ++ [{ f with ended := true }]) none
      ∧ (s.rxEnd p).reg (cntPort p Cnt.PRT_RX_FRAMES_OK) = s.reg (cntPort p Cnt.PRT_RX_FRAMES_OK) + 1
      ∧ (s.rxEnd p).reg (cntPort p Cnt.PRT_RX_OCTETS_OK)
          = s.reg (cntPort p Cnt.PRT_RX_OCTETS_OK) + BitVec.ofNat 64 r.bytes.length := by
  have hapart : cntPort p Cnt.PRT_RX_FRAMES_OK ≠ cntPort p Cnt.PRT_RX_OCTETS_OK := cntPort_ne (by decide)
  have hover := s.endRx_holds p
  have hcounted := (hover.beside (State.bump_rest _ (cntPort p Cnt.PRT_RX_FRAMES_OK)) (by decide) (by decide)).beside
    (State.bumpBy_rest _ (cntPort p Cnt.PRT_RX_OCTETS_OK) r.bytes.length) (by decide) (by decide)
  rw [State.rxEnd_good hrx hfull hfifo hrefused hgood hdata, State.modTail_append (hcounted.fifo.trans hfifo)]
  have hall := hcounted.setPort
    { (((s.setPort p { s.port p with rx := none }).bump (cntPort p Cnt.PRT_RX_FRAMES_OK)).bumpBy
      (cntPort p Cnt.PRT_RX_OCTETS_OK) r.bytes.length).port p with fifo := l ++ [{ f with ended := true }] } (by decide)
  refine ⟨⟨hall.fifo, hall.rx.trans hcounted.rx, hall.only, hall.rest⟩, ?_, ?_⟩
  · rw [State.reg_setPort, State.reg_bumpBy, if_neg hapart, State.reg_bump, if_pos rfl]
    rfl
  · rw [State.reg_setPort, State.reg_bumpBy, if_pos rfl, State.reg_bump, if_neg hapart.symm]
    rfl

/-- A frame with an error leaves the FIFO and counts once, as that error (R43). -/
theorem State.rxEnd_discards {c : Nat} (hrx : (s.port p).rx = some r) (hfull : r.fifoFull = false)
    (hfifo : (s.port p).fifo = l ++ [f]) (hcells : f.cells = none) (hrefused : f.refused = false) (herror : s.rxError p r = some c) :
    s.PortHolds (s.rxEnd p) p [.regs, .ports, .links] l none
      ∧ (s.rxEnd p).reg (cntPort p c) = s.reg (cntPort p c) + 1 ∧ s.onlyRegs (s.rxEnd p) [cntPort p c] := by
  have hover := s.endRx_holds p
  have hdrop := State.dropTail_append (hover.fifo.trans hfifo) hcells
  have hdropped := (hover.setPort { (s.setPort p { s.port p with rx := none }).port p with fifo := l } (by decide)).beside
    (State.freeEntry_rest _ (lnkIngress p) f.entries) (by decide) (by decide)
  rw [← hdrop] at hdropped
  have hreg (a : Nat) : ((s.setPort p { s.port p with rx := none }).dropTail p).reg a = s.reg a := by rw [hdrop]; rfl
  have hall := hdropped.beside (State.bump_rest _ (cntPort p c)) (by decide) (by decide)
  rw [State.rxEnd_error hrx hfull hfifo hrefused herror]
  refine ⟨⟨hall.fifo, hall.rx.trans hover.rx, hall.only, hall.rest⟩, ?_, fun a ha => ?_⟩
  · rw [State.reg_bump, if_pos rfl, hreg]
    rfl
  · exact (State.onlyRegs_bump _ _ a ha).trans (hreg a)

/-- With the last byte already received, the frame at the tail is stored once more as it is, before it is judged. -/
theorem rxFrame_stored (r : RxNow) (hfifo : (s.port p).fifo = l ++ [f]) (hcells : f.cells = none)
    (hrefused : f.refused = false) :
    s.PortHolds ((s.rxBytes p r r.bytes).fcUpdate p) p [.ports, .links] (l ++ [s.storedFrame p r f r.bytes]) (some r) :=
  (s.rxBytes_stores r r.bytes hfifo hcells hrefused (by simp)).1.fcUpdate (by decide)

/-- What the judgement on `u`, the state that the last bytes left, makes of the port stands after RX_FRAME. -/
theorem rxFrame_judged {u : State} {fifo fifo' : List IngFrame} {rx : Option RxNow}
    (hbefore : s.PortHolds u p [.ports, .links] fifo rx) (hafter : u.PortHolds (u.rxEnd p) p [.regs, .ports, .links] fifo' none) :
    s.PortHolds ((u.rxEnd p).fcUpdate p) p [.regs, .ports, .links] fifo' none :=
  ((hbefore.mono (by decide)).trans hafter).fcUpdate (by decide)

end

theorem rxFromLink_heard {s : State} {p : Nat} (h : s.looped p = false) (bytes : List Byte) (last : Bool) (phy : PhyReport) :
    rxFromLink p bytes last phy s = rxFrame p bytes last phy s := by
  rw [rxFromLink, h, if_neg Bool.false_ne_true]

/-- The checks of R43 that a good frame passes. -/
theorem State.rxError_none {s : State} {p : Nat} {r : RxNow} (hphy : r.phyErr = false) (hmin : 64 ≤ r.bytes.length)
    (hmax : r.bytes.length ≤ s.fld (Reg.PRT_MTU (p / 2) (p % 2)) Fld.PRT_MTU_MAX_FRAME) (hfcs : fcsOk r.bytes = true) :
    s.rxError p r = none := by
  simp only [State.rxError, hphy, hfcs, if_neg (Nat.not_lt.2 hmin), if_neg (Nat.not_lt.2 hmax), Bool.not_true, Bool.false_eq_true,
    if_false]

/-- Settles O13: the frame at the FIFO's tail is followed through what RX_FRAME does to it, step by step. -/
theorem frameReception : Obligations.FrameReception := by
  refine ⟨fun s p bytes delay hheard haccepts hrx hroom => ?_,
    fun s p r l f hheard hrx hfull hphy hfifo hcells hrefused hdata hmin hmax hfcs => ?_,
    fun s p r l f c hheard hrx hfull hfifo hcells hrefused herror => ?_⟩
  · obtain ⟨f, hport, hbytes, hended, hcls, hmono, hentries, hcredit⟩ := rxFrame_enters bytes delay hrx haccepts hroom
    exact ⟨_, f, (congrArg (done s) (rxFromLink_heard hheard _ _ _)).trans (done_eq_next hport.rest (by decide)), hport.fifo, hbytes,
      hended, hcls, hmono, hentries, hport.rx, hcredit, hport.only, hport.rest⟩
  · have hstored := rxFrame_stored r hfifo hcells hrefused
    have hgood := (State.rxError_congr (hstored.rest.reg_eq (by decide))).trans (State.rxError_none hphy hmin hmax hfcs)
    obtain ⟨hkept, hframes, hoctets⟩ := State.rxEnd_keeps hstored.rx hfull hstored.fifo hrefused hgood hdata
    have hport := rxFrame_judged hstored hkept
    have hfc := (((s.rxBytes p r r.bytes).fcUpdate p).rxEnd p).fcUpdate_rest p
    refine ⟨_, _, (congrArg (done s) ((rxFromLink_heard hheard _ _ _).trans (rxFrame_last hrx hfull))).trans
      (done_eq_next hport.rest (by decide)), hport.fifo, rfl, rfl, rfl, hport.rx, ?_, ?_, hport.only, hport.rest⟩
    · rw [hfc.reg_eq (by decide), hframes, hstored.rest.reg_eq (by decide)]
    · rw [hfc.reg_eq (by decide), hoctets, hstored.rest.reg_eq (by decide)]
  · have hstored := rxFrame_stored r hfifo hcells hrefused
    have hbad := (State.rxError_congr (hstored.rest.reg_eq (by decide))).trans herror
    obtain ⟨hdropped, hcount, hregs⟩ := State.rxEnd_discards hstored.rx hfull hstored.fifo hcells hrefused hbad
    have hport := rxFrame_judged hstored hdropped
    have hfc := (((s.rxBytes p r r.bytes).fcUpdate p).rxEnd p).fcUpdate_rest p
    refine ⟨_, (congrArg (done s) ((rxFromLink_heard hheard _ _ _).trans (rxFrame_last hrx hfull))).trans
      (done_eq_next hport.rest (by decide)), hport.fifo, hport.rx, ?_, fun a ha => ?_, hport.only, hport.rest⟩
    · rw [hfc.reg_eq (by decide), hcount, hstored.rest.reg_eq (by decide)]
    · rw [hfc.reg_eq (by decide), hregs a ha, hstored.rest.reg_eq (by decide)]

end Sys2Proof.Machine
end

section
/-! PROOF. Time through a step (R52 to R57): what each command can do to the time-of-day unit, and what a tick does. -/

namespace Sys2Proof.Machine

open Sys2Proof.Laws.Clock

/-! ### The commands of other blocks that reach the unit -/

theorem refclkLoss_kept (s : State) : Kept s (refclkLoss s) :=
  (Kept.ofclk (sendFault_clk _ _ _ _ _)).trans (clkFallback_kept _)

theorem State.msix_clk (s : State) : s.msix.clk = s.clk := by
  unfold State.msix; split <;> rfl

theorem State.castOnEnds_clk (s : State) : s.castOnEnds.clk = s.clk := by
  unfold State.castOnEnds State.castOnVector
  split
  · exact State.msix_clk _
  · rfl

theorem State.resultEntry_clk (s : State) (tried : Bool) : (s.resultEntry tried).clk = s.clk := jnlQueue_clk _ _

theorem State.startComplexes_clk (s : State) : s.startComplexes.clk = s.clk := by
  have hheard (t : State) (x : Nat) : (t.hbStart x).clk = t.clk := rfl
  unfold State.startComplexes
  extract_lets t
  rw [hheard, hheard]
  rfl

/-- In phase FACTORY the increment takes its factory value, and PPS_OUT may be held low (R52, R62). -/
theorem phaseFactory_kept (s : State) : Kept s (phaseFactory s) := by
  unfold phaseFactory
  split
  · exact Kept.refl s
  · extract_lets factory started off
    have hfactory : Kept s factory :=
      (((ppsHold_kept s).then (imageFactory_clk _)).trans (baseIncr_kept _)).trans (ppsHold_kept _)
    clear_value factory
    have hstarted : started.clk = factory.clk := (State.resultEntry_clk _ false).trans factory.startComplexes_clk
    have hoff : off.clk = started.clk := forEach_clk _ _ (fun d u => domainOff_clk u d) _
    exact hfactory.then ((State.castOnEnds_clk off).trans (hoff.trans hstarted))

/-! ### What a command answers -/

/-- A command that answers through `done` leaves the unit as it was. -/
theorem kept_of_done {s u t : State} (h : done s u = .next t) : Kept s t := by
  rw [done_eq] at h
  rw [← Host.Outcome.next.inj h]
  exact Kept.ofclk rfl

/-- A command that answers through `doneClk` does to the unit what its effect does. -/
theorem kept_of_doneClk {s u t : State} (hkept : Kept s u) (h : doneClk s u = .next t) : Kept s t := by
  rw [doneClk_eq] at h
  rw [← Host.Outcome.next.inj h]
  exact hkept.then rfl

/-- No command but a power-up of PD_AON changes MONO, and none takes a clock in range out of it. -/
theorem exec_kept {c : Instr} {s t : State} (hc : c ≠ .pdAonPowerUp) (h : exec c s = .next t) : Kept s t := by
  cases c with
  | registerWrite a ws => exact kept_of_doneClk (registerWrite_kept a.val ws s) h
  | complexWrite x w => exact kept_of_doneClk (complexWrite_kept x.val w s) h
  | capture => exact kept_of_doneClk (todCapture_kept s) h
  | stepSet => exact kept_of_doneClk (todStepSet_kept s) h
  | stepAdd => exact kept_of_doneClk (todStepAdd_kept s) h
  | ppsLoad => exact kept_of_doneClk (todPpsLoad_kept s) h
  | slew => exact kept_of_doneClk (todSlew_kept s) h
  | todCancel => exact kept_of_doneClk (todCancel_kept s) h
  | todReservedCmd => exact kept_of_doneClk (todReject_kept s) h
  | slewEnd => exact kept_of_doneClk (todSlewEnd_kept s) h
  | incrWrite v => exact kept_of_doneClk (todIncrWrite_kept v s) h
  | holdTimeoutWrite v => exact kept_of_doneClk (todHoldTimeoutWrite_kept v s) h
  | enterHold => exact kept_of_doneClk (enterHold_kept s) h
  | holdover => exact kept_of_doneClk (todHoldover_kept s) h
  | ppsInEdge high => exact kept_of_doneClk (ppsInEdge_kept high s) h
  | ppsInLost => exact kept_of_doneClk (ppsInLost_kept s) h
  | ppsOutPulse => exact kept_of_doneClk (ppsOutPulse_kept s) h
  | ppsOutFall => exact kept_of_doneClk (ppsOutFall_kept s) h
  | pllUnlock which d => exact kept_of_doneClk (pllUnlock_kept which.val d.val s) h
  | refclkLoss => exact kept_of_doneClk (refclkLoss_kept s) h
  | phaseReset rail => exact kept_of_doneClk (phaseReset_kept rail s) h
  | phaseConfig => exact kept_of_doneClk (phaseConfig_kept s) h
  | phaseFactory => exact kept_of_doneClk (phaseFactory_kept s) h
  | pdAonPowerUp => exact absurd rfl hc
  | _ => exact kept_of_done h

/-- A power-up of PD_AON starts the unit anew. -/
theorem exec_pdAonPowerUp_clk (s : State) : ∃ t, exec .pdAonPowerUp s = .next t ∧ t.clk = Clock.init :=
  ⟨_, doneClk_eq s _, pdAon_clk s⟩

theorem Clock.init_ok : Clock.init.ok = true := by decide

/-- A command takes no clock out of range. -/
theorem exec_clk_ok {c : Instr} {s t : State} (hok : s.clk.ok = true) (h : exec c s = .next t) : t.clk.ok = true := by
  by_cases hc : c = .pdAonPowerUp
  · subst hc
    obtain ⟨u, hexec, hclk⟩ := exec_pdAonPowerUp_clk s
    obtain rfl : u = t := Host.Outcome.next.inj (hexec.symm.trans h)
    rw [hclk]
    exact Clock.init_ok
  · exact (exec_kept hc h).2 hok

/-! ### Steps -/

theorem step_idle {s : State} (h : s.pending = []) : step s = .next (idleTick s) := by
  unfold step; rw [h]

theorem step_command {s : State} {c : Instr} {r : List Instr} (h : s.pending = c :: r) :
    step s = exec c { s with pending := r } := by
  unfold step; rw [h]

theorem Clock.tick_mono {c : Clock} (h : c.running = true) : c.tick.mono = (c.mono + 1) % 2 ^ 64 := by
  unfold Clock.tick; rw [if_pos h]

/-- Settles O5, by cases on the command in front: a tick, a power-up or a command that keeps the unit. -/
theorem stepKeepsTheClockInRange : Obligations.StepKeepsTheClockInRange := by
  intro s t hok hstep
  cases hpending : s.pending with
  | nil =>
    obtain rfl : idleTick s = t := Host.Outcome.next.inj ((step_idle hpending).symm.trans hstep)
    exact tick_ok s.clk hok
  | cons c r => exact exec_clk_ok (s := { s with pending := r }) hok ((step_command hpending).symm.trans hstep)

/-- Settles O4: `exec_kept` for the commands, `Clock.tick` for the idle step. -/
theorem timeCountsTicks : Obligations.TimeCountsTicks := by
  refine ⟨fun c s t hc h => (exec_kept hc h).1, fun s => ?_, rfl, fun s hpending hrunning => ?_, by decide⟩
  · obtain ⟨t, hexec, hclk⟩ := exec_pdAonPowerUp_clk s
    exact ⟨t, hexec, by rw [hclk]; rfl⟩
  · exact ⟨_, step_idle hpending, Clock.tick_mono hrunning⟩

end Sys2Proof.Machine
end

section
/-! PROOF. What fields read after a change of the registers: flags raised and cleared, and registers that a change leaves. -/

namespace Sys2Proof

/-- A one-bit field of a register. -/
def Fld.oneBit (f : Fld) : Prop := f.len = 1 ∧ f.lo < 64

end Sys2Proof

namespace Sys2Proof.Machine

/-- Two states agree on a field of a register that holds the same word in both. -/
theorem State.fld_of_reg {s t : State} {a : Nat} (h : t.reg a = s.reg a) (f : Fld) : t.fld a f = s.fld a f := by
  rw [State.fld, State.fld, h]

theorem State.flag_of_reg {s t : State} {a : Nat} (h : t.reg a = s.reg a) (f : Fld) : t.flag a f = s.flag a f := by
  rw [State.flag, State.flag, State.fld_of_reg h]

/-- A field that fits holds the value written. -/
theorem State.fld_setFld_fits (s : State) (a : Nat) {f : Fld} {x : Nat} (h : f.lo + f.len ≤ 64) (hx : x < 2 ^ f.len) :
    (s.setFld a f x).fld a f = x :=
  (s.fld_setFld_self a f x h).trans (Nat.mod_eq_of_lt hx)

theorem State.flag_setFld_bit (s : State) (a : Nat) {f : Fld} (h : f.oneBit) (b : Bool) : (s.setFld a f (bit b)).flag a f = b := by
  obtain ⟨hlen, hlo⟩ := h
  have hx : bit b < 2 ^ f.len := by rw [hlen]; cases b <;> decide
  rw [State.flag, State.fld_setFld_fits s a (by omega) hx]
  cases b <;> rfl

theorem State.flag_setFld_one (s : State) (a : Nat) {f : Fld} (h : f.oneBit) : (s.setFld a f 1).flag a f = true :=
  s.flag_setFld_bit a h true

theorem State.flag_setFld_zero (s : State) (a : Nat) {f : Fld} (h : f.oneBit) : (s.setFld a f 0).flag a f = false :=
  s.flag_setFld_bit a h false

theorem State.flag_setFld_apart (s : State) (a : Nat) (f g : Fld) (x : Nat) (h : f.apart g) :
    (s.setFld a f x).flag a g = s.flag a g := by
  rw [State.flag, State.flag, State.fld_setFld_apart s a f g x h]

/-- A command that answers through `doneClk` and spares the queue answers its effect. -/
theorem doneClk_eq_next {s t : State} (h : t.pending = s.pending) : doneClk s t = .next t := by
  rw [doneClk_eq, ← h]

end Sys2Proof.Machine
end

section
/-! PROOF. Slews (R54, R55): which increment is in force while a slew's ticks run out, and after. -/

namespace Sys2Proof.Machine

/-- After `n` ticks of a running unit: `n` ticks fewer are left of the slew, and the increments and the slew stand. -/
structure Clock.TicksLater (c d : Clock) (n : Nat) : Prop where
  running : d.running = true
  slewLeft : d.slewLeft = c.slewLeft - n
  slewOn : d.slewOn = c.slewOn
  slew : (d.slewNs, d.slewFrac) = (c.slewNs, c.slewFrac)
  base : (d.incNs, d.incFrac) = (c.incNs, c.incFrac)

theorem Clock.TicksLater.tick {c d : Clock} {n : Nat} (h : c.TicksLater d n) : c.TicksLater d.tick (n + 1) := by
  have hleft : d.slewLeft - 1 = c.slewLeft - (n + 1) := by rw [h.slewLeft]; rfl
  unfold Clock.tick
  rw [if_pos h.running]
  exact ⟨h.running, hleft, h.slewOn, h.slew, h.base⟩

theorem Clock.ticksLater {c : Clock} (h : c.running = true) (n : Nat) : c.TicksLater (forUpTo n (fun _ d => d.tick) c) n := by
  induction n with
  | zero => exact ⟨h, rfl, rfl, rfl, rfl⟩
  | succ n ih => exact ih.tick

/-- With ticks left, the slew's increment is in force. -/
theorem Clock.TicksLater.increment_slew {c d : Clock} {n : Nat} (h : c.TicksLater d n) (hslew : c.slewOn = true)
    (hn : n < c.slewLeft) : d.increment = (c.slewNs, c.slewFrac) := by
  have hleft : 0 < d.slewLeft := by rw [h.slewLeft]; omega
  simp only [Clock.increment, h.slewOn, hslew, hleft, decide_true, Bool.and_self, if_true, h.slew]

/-- With none left, the base increment is in force. -/
theorem Clock.TicksLater.increment_base {c d : Clock} {n : Nat} (h : c.TicksLater d n) (hn : c.slewLeft ≤ n) :
    d.increment = (c.incNs, c.incFrac) := by
  have hleft : d.slewLeft = 0 := by rw [h.slewLeft]; omega
  simp only [Clock.increment, hleft, Nat.lt_irrefl, decide_false, Bool.and_false, Bool.false_eq_true, if_false, h.base]

section
variable {s : State} {v : Word64}

/-- An INCR write in range (R55, R57): the field, the base increment, steering, no holdover. -/
theorem todIncrWrite_accepts (h : incInRange (v.get Fld.TOD_INCR_INC_NS) (v.get Fld.TOD_INCR_INC_FRAC) = true) :
    todIncrWrite v s = { (s.setFld Reg.TOD_INCR Fld.TOD_INCR_INC_NS (v.get Fld.TOD_INCR_INC_NS)).setFld Reg.TOD_INCR
        Fld.TOD_INCR_INC_FRAC (v.get Fld.TOD_INCR_INC_FRAC) with
      clk := { s.clk with
        incNs := v.get Fld.TOD_INCR_INC_NS, incFrac := v.get Fld.TOD_INCR_INC_FRAC, holdover := false, lastSteer := s.clk.mono } } := by
  unfold todIncrWrite
  extract_lets n f t
  exact if_pos h

theorem exec_incrWrite_accepts (h : incInRange (v.get Fld.TOD_INCR_INC_NS) (v.get Fld.TOD_INCR_INC_FRAC) = true) :
    exec (.incrWrite v) s = .next (todIncrWrite v s) := by
  have hpending : (todIncrWrite v s).pending = s.pending := by rw [todIncrWrite_accepts h]; rfl
  exact doneClk_eq_next hpending

theorem todIncrWrite_clk (h : incInRange (v.get Fld.TOD_INCR_INC_NS) (v.get Fld.TOD_INCR_INC_FRAC) = true) :
    (todIncrWrite v s).clk = { s.clk with
      incNs := v.get Fld.TOD_INCR_INC_NS, incFrac := v.get Fld.TOD_INCR_INC_FRAC, holdover := false, lastSteer := s.clk.mono } :=
  congrArg State.clk (todIncrWrite_accepts h)

end

/-- Settles O9: the write leaves the slew, whose ticks are followed by induction. -/
theorem incrWriteDuringSlew : Obligations.IncrWriteDuringSlew := by
  intro s v hslew hrunning hrange
  have hclk := todIncrWrite_clk (s := s) hrange
  have hlater (n : Nat) := Clock.ticksLater (c := (todIncrWrite v s).clk) (by rw [hclk]; exact hrunning) n
  refine ⟨_, exec_incrWrite_accepts hrange, by rw [hclk], by rw [hclk], fun n hn => ?_, fun n hn => ?_⟩
  · rw [(hlater n).increment_slew (by rw [hclk]; exact hslew) (by rw [hclk]; exact hn), hclk]
  · rw [(hlater n).increment_base (by rw [hclk]; exact hn), hclk]

end Sys2Proof.Machine
end

section
/-! PROOF. Gate lists (R322, R324, R325) touch the TMs alone: their part of the state and the registers of their schedulers. -/

namespace Sys2Proof.Machine

/-- `t` is `s` but for the TMs' part and registers at or above the TM schedulers' (R456). -/
def State.movesGates (s t : State) : Prop :=
  s.onlyParts t [.regs, .tm] ∧ ∀ a < Reg.TMG_SCH_CNT 0 0, t.reg a = s.reg a

theorem State.movesGates.refl (s : State) : s.movesGates s := ⟨s.onlyParts_refl _, fun _ _ => rfl⟩

theorem State.movesGates.trans {s t u : State} (a : s.movesGates t) (b : t.movesGates u) : s.movesGates u :=
  ⟨State.onlyParts_trans a.1 b.1, fun x hx => (b.2 x hx).trans (a.2 x hx)⟩

theorem State.setReg_movesGates (s : State) {a : Nat} (h : Reg.TMG_SCH_CNT 0 0 ≤ a) (v : Word64) : s.movesGates (s.setReg a v) :=
  ⟨State.onlyParts_mono (s.setReg_rest a v) (by simp), fun b hb => (s.reg_setReg a b v).trans (if_neg (by omega))⟩

theorem gateStatus_high (q lp : Nat) : Reg.TMG_SCH_CNT 0 0 ≤ Reg.TMG_GATE_STATUS q lp := by
  simp only [Reg.TMG_SCH_CNT, Reg.TMG_GATE_STATUS]; omega

theorem schCnt_high (q i : Nat) : Reg.TMG_SCH_CNT 0 0 ≤ Reg.TMG_SCH_CNT q i := by
  simp only [Reg.TMG_SCH_CNT]; omega

theorem State.setGate_movesGates (s : State) (p : Nat) (g : GateSt) : s.movesGates (s.setGate p g) := by
  have htm (x : TmSt) : s.movesGates { s with tm := x } := ⟨State.onlyParts_mono (s.setTm_rest x) (by simp), fun _ _ => rfl⟩
  have hfld (t : State) (f : Fld) (x : Nat) : t.movesGates (t.setFld (Reg.TMG_GATE_STATUS (p / 128) (p % 128)) f x) :=
    t.setReg_movesGates (gateStatus_high _ _) _
  exact (((((htm _).trans (hfld _ _ _)).trans (hfld _ _ _)).trans (hfld _ _ _)).trans (hfld _ _ _))

theorem State.showGate_movesGates (s : State) (p : Nat) : s.movesGates (s.showGate p) :=
  (s.setReg_movesGates (gateStatus_high _ _) _).trans (State.setReg_movesGates _ (gateStatus_high _ _) _)

theorem State.gateTakeover_movesGates (s : State) (p : Nat) : s.movesGates (s.gateTakeover p) := by
  unfold State.gateTakeover
  dsimp only
  split
  · exact .refl s
  · split
    · exact ((s.setGate_movesGates _ _).trans (State.showGate_movesGates _ _)).trans (State.setReg_movesGates _ (schCnt_high _ _) _)
    · exact .refl s

theorem State.gateTakeovers_movesGates (s : State) : s.movesGates s.gateTakeovers :=
  forEach_induct (fun t => s.movesGates t) _ _ s (.refl s) fun p t _ ht => ht.trans (t.gateTakeover_movesGates p)

theorem State.gateDisable_movesGates (s : State) (p : Nat) : s.movesGates (s.gateDisable p) :=
  (s.setGate_movesGates p _).trans (State.showGate_movesGates _ p)

end Sys2Proof.Machine
end

section
/-! PROOF. The time-of-day unit's commands and pins (R52 to R57, R62, R63): what each does, and what it rejects. -/

namespace Sys2Proof.Machine

theorem State.setClk_rest (s : State) (c : Clock) : s.onlyParts { s with clk := c } [.clk] :=
  ⟨rfl, fun p hp => by cases p <;> first | rfl | simp at hp⟩

/-! ### Flags of TOD.STATUS -/

/-- A flag raised stands, and nothing else moves. -/
theorem State.todFlag_raises (s : State) {f : Fld} (h : f.oneBit) :
    (s.todFlag f).flag Reg.TOD_STATUS f = true ∧ s.onlyRegs (s.todFlag f) [Reg.TOD_STATUS] ∧ s.onlyParts (s.todFlag f) [.regs] :=
  ⟨s.flag_setFld_one _ h, s.onlyRegs_setFld _ _ _, s.setFld_rest _ _ _⟩

/-- What a rejected command answers (R54). -/
theorem doneClk_todReject (s : State) :
    ∃ t, doneClk s s.todReject = .next t ∧ t.flag Reg.TOD_STATUS Fld.TOD_STATUS_CMD_REJ = true
      ∧ s.onlyRegs t [Reg.TOD_STATUS] ∧ s.onlyParts t [.regs] :=
  ⟨s.todReject, doneClk_eq_next rfl, s.todFlag_raises (by unfold Fld.oneBit; decide)⟩

/-! ### TOD and MONO into capture registers -/

/-- The state with the clock's TOD and MONO in the capture registers `a` (seconds), `b` (nanoseconds, fraction) and `m` (MONO). -/
def State.latchTime (s : State) (a b m : Nat) : State :=
  (((s.setFld a ⟨0, 48⟩ s.clk.sec).setFld b ⟨0, 32⟩ s.clk.frac).setFld b ⟨32, 32⟩ s.clk.ns).setFld m ⟨0, 64⟩ s.clk.mono

theorem todCapture_up {s : State} (h : s.todDown = false) :
    todCapture s = s.latchTime Reg.TOD_CAP_SEC Reg.TOD_CAP_NS Reg.TOD_CAP_MONO := by
  unfold todCapture
  rw [if_neg (by simp [h])]
  rfl

theorem State.latchTime_rest (s : State) (a b m : Nat) : s.onlyParts (s.latchTime a b m) [.regs] :=
  State.onlyParts_trans (State.onlyParts_trans (State.onlyParts_trans (s.setFld_rest _ _ _) (State.setFld_rest _ _ _ _))
    (State.setFld_rest _ _ _ _)) (State.setFld_rest _ _ _ _)

theorem State.latchTime_regs (s : State) (a b m : Nat) : s.onlyRegs (s.latchTime a b m) [a, b, m] := by
  intro x hx
  simp only [List.mem_cons, List.not_mem_nil, or_false, not_or] at hx
  simp only [State.latchTime, State.reg_setFld, hx, if_false]

section
variable (s : State) {a b m : Nat}

theorem State.latchTime_sec (hb : a ≠ b) (hm : a ≠ m) : (s.latchTime a b m).fld a ⟨0, 48⟩ = s.clk.sec % 2 ^ 48 := by
  rw [State.latchTime, State.fld_setFld_other _ _ _ _ _ _ hm, State.fld_setFld_other _ _ _ _ _ _ hb,
    State.fld_setFld_other _ _ _ _ _ _ hb, State.fld_setFld_self _ _ _ _ (by decide)]

theorem State.latchTime_ns (hm : b ≠ m) : (s.latchTime a b m).fld b ⟨32, 32⟩ = s.clk.ns % 2 ^ 32 := by
  rw [State.latchTime, State.fld_setFld_other _ _ _ _ _ _ hm, State.fld_setFld_self _ _ _ _ (by decide)]

theorem State.latchTime_frac (hm : b ≠ m) : (s.latchTime a b m).fld b ⟨0, 32⟩ = s.clk.frac % 2 ^ 32 := by
  rw [State.latchTime, State.fld_setFld_other _ _ _ _ _ _ hm, State.fld_setFld_apart _ _ _ _ _ (.inr (by decide)),
    State.fld_setFld_self _ _ _ _ (by decide)]

theorem State.latchTime_mono : (s.latchTime a b m).fld m ⟨0, 64⟩ = s.clk.mono % 2 ^ 64 := by
  rw [State.latchTime, State.fld_setFld_self _ _ _ _ (by decide)]

/-- A clock in range shows unreduced. -/
theorem State.latchTime_ok (h : s.clk.ok = true) (hab : a ≠ b) (ham : a ≠ m) (hbm : b ≠ m) :
    (s.latchTime a b m).fld a ⟨0, 48⟩ = s.clk.sec ∧ (s.latchTime a b m).fld b ⟨32, 32⟩ = s.clk.ns
      ∧ (s.latchTime a b m).fld b ⟨0, 32⟩ = s.clk.frac ∧ (s.latchTime a b m).fld m ⟨0, 64⟩ = s.clk.mono := by
  obtain ⟨⟨hsec, hns, hfrac, hmono⟩, -⟩ := (Laws.Clock.ok_iff s.clk).1 h
  have hns32 : s.clk.ns < 2 ^ 32 := by omega
  exact ⟨(s.latchTime_sec hab ham).trans (Nat.mod_eq_of_lt hsec), (s.latchTime_ns hbm).trans (Nat.mod_eq_of_lt hns32),
    (s.latchTime_frac hbm).trans (Nat.mod_eq_of_lt hfrac), s.latchTime_mono.trans (Nat.mod_eq_of_lt hmono)⟩

end

/-! ### Steps of TOD (R56) -/

section
variable (s : State) (sec ns frac : Nat)

theorem State.todStep_clk (hsec : sec < 2 ^ 48) (hns : ns < 1000000000) :
    (s.todStep sec ns frac).clk = { s.clk with sec := sec, ns := ns, frac := frac } := by
  have hcarry : (sec + ns / 1000000000) % 2 ^ 48 = sec := by rw [Nat.div_eq_of_lt hns, Nat.add_zero, Nat.mod_eq_of_lt hsec]
  unfold State.todStep
  rw [Laws.Clock.gateTakeovers_clk, hcarry, Nat.mod_eq_of_lt hns]
  rfl

theorem State.todStep_rest : s.onlyParts (s.todStep sec ns frac) [.clk, .regs, .tm] := by
  unfold State.todStep
  exact State.onlyParts_trans (State.onlyParts_trans (State.onlyParts_mono (s.setClk_rest _) (by simp))
    (State.onlyParts_mono (State.setFld_rest _ _ _ _) (by simp)))
    (State.onlyParts_mono (State.gateTakeovers_movesGates _).1 (by simp))

theorem State.todStep_done : (s.todStep sec ns frac).flag Reg.TOD_STATUS Fld.TOD_STATUS_STEP_DONE = true := by
  unfold State.todStep
  rw [State.flag_of_reg ((State.gateTakeovers_movesGates _).2 _ (by decide))]
  exact State.flag_setFld_one _ _ (by unfold Fld.oneBit; decide)

end

/-- A step forward that counts as steering (R57). -/
theorem State.steer_todStep (s : State) {sec ns : Nat} (hsec : sec < 2 ^ 48) (hns : ns < 1000000000) (frac : Nat) :
    (s.steer.todStep sec ns frac).clk = { s.clk with sec := sec, ns := ns, frac := frac, lastSteer := s.clk.mono }
      ∧ (s.steer.todStep sec ns frac).flag Reg.TOD_STATUS Fld.TOD_STATUS_STEP_DONE = true
      ∧ s.onlyParts (s.steer.todStep sec ns frac) [.clk, .regs, .tm] :=
  ⟨State.todStep_clk _ _ _ _ hsec hns, State.todStep_done _ _ _ _,
    State.onlyParts_trans (State.onlyParts_mono (s.setClk_rest _) (by simp)) (State.todStep_rest _ _ _ _)⟩

/-! ### Commands that are accepted -/

section
variable {s : State}

/-- SET_SEC holds 48 bits. -/
theorem State.setSec_lt (s : State) : s.fld Reg.TOD_SET_SEC Fld.TOD_SET_SEC_SEC < 2 ^ 48 := Word64.get_lt _ _

theorem todStepSet_accepts (hup : s.todDown = false) (hidle : s.clk.busy = false)
    (hns : s.fld Reg.TOD_SET_NS Fld.TOD_SET_NS_NS < 1000000000) :
    todStepSet s = s.steer.todStep (s.fld Reg.TOD_SET_SEC Fld.TOD_SET_SEC_SEC) (s.fld Reg.TOD_SET_NS Fld.TOD_SET_NS_NS)
      (s.fld Reg.TOD_SET_NS Fld.TOD_SET_NS_FRAC) := by
  have hgood : ¬ (s.todDown = true ∨ s.clk.busy = true ∨ 1000000000 ≤ s.setTime.2.1) := by
    simpa [hup, hidle, State.setTime] using hns
  exact if_neg hgood

theorem todStepAdd_accepts {n : Nat} (hup : s.todDown = false) (hidle : s.clk.busy = false)
    (hn : (s.clk.nanos : Int) + signed 48 (s.fld Reg.TOD_OFFSET Fld.TOD_OFFSET_OFFSET_NS) = (n : Int))
    (hlt : n < 2 ^ 48 * 1000000000) :
    todStepAdd s = s.steer.todStep (n / 1000000000) (n % 1000000000) s.clk.frac := by
  have hsec : n / 1000000000 % 2 ^ 48 = n / 1000000000 := Nat.mod_eq_of_lt (by omega)
  unfold todStepAdd
  rw [hn]
  refine (if_neg (by simp [hup, hidle])).trans ?_
  rw [Int.toNat_natCast, hsec]

theorem todPpsLoad_accepts (hup : s.todDown = false) (hidle : s.clk.busy = false)
    (hns : s.fld Reg.TOD_SET_NS Fld.TOD_SET_NS_NS < 1000000000) :
    todPpsLoad s = { s with clk := { s.clk with loadArmed := true, lastSteer := s.clk.mono } } := by
  have hgood : ¬ (s.todDown = true ∨ s.clk.busy = true ∨ 1000000000 ≤ s.setTime.2.1) := by
    simpa [hup, hidle, State.setTime] using hns
  exact if_neg hgood

theorem todSlew_accepts (hup : s.todDown = false) (hidle : s.clk.busy = false) (hhold : s.clk.holdover = false)
    (hrange : incInRange (s.fld Reg.TOD_SLEW_INC Fld.TOD_SLEW_INC_NS) (s.fld Reg.TOD_SLEW_INC Fld.TOD_SLEW_INC_FRAC) = true)
    (hcnt : 0 < s.fld Reg.TOD_SLEW_CNT Fld.TOD_SLEW_CNT_TICKS) :
    todSlew s = { s with clk := { s.clk with
      slewOn := true, slewLeft := s.fld Reg.TOD_SLEW_CNT Fld.TOD_SLEW_CNT_TICKS, lastSteer := s.clk.mono
      slewNs := s.fld Reg.TOD_SLEW_INC Fld.TOD_SLEW_INC_NS, slewFrac := s.fld Reg.TOD_SLEW_INC Fld.TOD_SLEW_INC_FRAC } } := by
  unfold todSlew
  extract_lets n f k t
  exact if_neg (by simp [hup, hidle, hhold, n, f, k, hrange, Nat.ne_of_gt hcnt])

theorem todCancel_accepts (hup : s.todDown = false) :
    todCancel s = { s with clk := { s.clk with loadArmed := false, slewOn := false, slewLeft := 0 } } :=
  if_neg (by simp [hup])

/-! ### Commands that are rejected -/

theorem todStepSet_rejects (h : s.clk.busy = true ∨ 1000000000 ≤ s.fld Reg.TOD_SET_NS Fld.TOD_SET_NS_NS) :
    todStepSet s = s.todReject :=
  if_pos (.inr h)

theorem todPpsLoad_rejects (h : s.clk.busy = true ∨ 1000000000 ≤ s.fld Reg.TOD_SET_NS Fld.TOD_SET_NS_NS) :
    todPpsLoad s = s.todReject :=
  if_pos (.inr h)

theorem todStepAdd_rejects (h : s.clk.busy = true
    ∨ (s.clk.nanos : Int) + signed 48 (s.fld Reg.TOD_OFFSET Fld.TOD_OFFSET_OFFSET_NS) < 0) : todStepAdd s = s.todReject :=
  if_pos (.inr h)

theorem todSlew_rejects (h : s.clk.busy = true ∨ s.clk.holdover = true ∨ s.fld Reg.TOD_SLEW_CNT Fld.TOD_SLEW_CNT_TICKS = 0
    ∨ incInRange (s.fld Reg.TOD_SLEW_INC Fld.TOD_SLEW_INC_NS) (s.fld Reg.TOD_SLEW_INC Fld.TOD_SLEW_INC_FRAC) = false) :
    todSlew s = s.todReject := by
  unfold todSlew
  extract_lets n f k t
  refine if_pos ?_
  rcases h with h | h | h | h
  · exact .inr (.inl h)
  · exact .inr (.inr (.inl h))
  · exact .inr (.inr (.inr (.inr h)))
  · exact .inr (.inr (.inr (.inl (by simp [n, f, h]))))

end

/-- Settles O8: an accepted command does what its lemma says, a rejected one is `State.todReject`. -/
theorem todCommands : Obligations.TodCommands := by
  refine ⟨fun s hup hok => ?_, fun s hup hidle hns => ?_, fun s n hup hidle hn hlt => ?_, fun s hup hidle hns => ?_,
    fun s hup hidle hhold hrange hcnt => ?_, fun s hup => ?_, fun s => doneClk_todReject s, fun s c h => ?_⟩
  · obtain ⟨hsec, hns, hfrac, hmono⟩ := s.latchTime_ok hok (a := Reg.TOD_CAP_SEC) (b := Reg.TOD_CAP_NS) (m := Reg.TOD_CAP_MONO)
      (by decide) (by decide) (by decide)
    exact ⟨_, (congrArg (doneClk s) (todCapture_up hup)).trans (doneClk_eq_next rfl), hsec, hns, hfrac, hmono,
      s.latchTime_regs _ _ _, s.latchTime_rest _ _ _⟩
  · obtain ⟨hclk, hdone, hrest⟩ := s.steer_todStep s.setSec_lt hns (s.fld Reg.TOD_SET_NS Fld.TOD_SET_NS_FRAC)
    exact ⟨_, (congrArg (doneClk s) (todStepSet_accepts hup hidle hns)).trans (doneClk_eq_next hrest.1), hclk, hdone, hrest⟩
  · obtain ⟨hclk, hdone, hrest⟩ := s.steer_todStep (sec := n / 1000000000) (ns := n % 1000000000) (by omega) (by omega) s.clk.frac
    exact ⟨_, (congrArg (doneClk s) (todStepAdd_accepts hup hidle hn hlt)).trans (doneClk_eq_next hrest.1), hclk, hdone, hrest⟩
  · exact (congrArg (doneClk s) (todPpsLoad_accepts hup hidle hns)).trans (doneClk_eq_next rfl)
  · exact (congrArg (doneClk s) (todSlew_accepts hup hidle hhold hrange hcnt)).trans (doneClk_eq_next rfl)
  · exact (congrArg (doneClk s) (todCancel_accepts hup)).trans (doneClk_eq_next rfl)
  · suffices hexec : exec c s = doneClk s s.todReject from hexec ▸ doneClk_todReject s
    rcases h with ⟨hc, hbusy⟩ | ⟨hc, hns⟩ | ⟨rfl, hneg⟩ | ⟨rfl, hslew⟩
    · fin_cases hc
      · exact congrArg (doneClk s) (todStepSet_rejects (.inl hbusy))
      · exact congrArg (doneClk s) (todStepAdd_rejects (.inl hbusy))
      · exact congrArg (doneClk s) (todPpsLoad_rejects (.inl hbusy))
      · exact congrArg (doneClk s) (todSlew_rejects (.inl hbusy))
    · fin_cases hc
      · exact congrArg (doneClk s) (todStepSet_rejects (.inr hns))
      · exact congrArg (doneClk s) (todPpsLoad_rejects (.inr hns))
    · exact congrArg (doneClk s) (todStepAdd_rejects (.inr hneg))
    · exact congrArg (doneClk s) (todSlew_rejects (.inr hslew))

end Sys2Proof.Machine
end

section
/-! PROOF. Steering and pulses (R52, R54, R57, R62, R63): INCR, HOLD_TIMEOUT and holdover, PPS_IN, PPS_OUT. -/

namespace Sys2Proof.Machine

section
variable {s : State}

/-! ### INCR, HOLD_TIMEOUT and holdover -/

theorem todIncrWrite_rejects {v : Word64} (h : incInRange (v.get Fld.TOD_INCR_INC_NS) (v.get Fld.TOD_INCR_INC_FRAC) = false) :
    todIncrWrite v s = s.todFlag Fld.TOD_STATUS_INCR_ERR :=
  if_neg (by simp [h])

/-- The two fields of TOD.INCR, written one after the other. -/
theorem State.setIncr_fields (s : State) (v : Word64) :
    let t := (s.setFld Reg.TOD_INCR Fld.TOD_INCR_INC_NS (v.get Fld.TOD_INCR_INC_NS)).setFld Reg.TOD_INCR Fld.TOD_INCR_INC_FRAC
      (v.get Fld.TOD_INCR_INC_FRAC)
    t.fld Reg.TOD_INCR Fld.TOD_INCR_INC_NS = v.get Fld.TOD_INCR_INC_NS
      ∧ t.fld Reg.TOD_INCR Fld.TOD_INCR_INC_FRAC = v.get Fld.TOD_INCR_INC_FRAC
      ∧ s.onlyRegs t [Reg.TOD_INCR] ∧ s.onlyParts t [.regs] := by
  refine ⟨?_, ?_, State.onlyRegs_trans (s.onlyRegs_setFld _ _ _) (State.onlyRegs_setFld _ _ _ _),
    State.onlyParts_trans (s.setFld_rest _ _ _) (State.setFld_rest _ _ _ _)⟩
  · rw [State.fld_setFld_apart _ _ _ _ _ (.inl (by decide)), State.fld_setFld_fits _ _ (by decide) (Word64.get_lt _ _)]
  · exact State.fld_setFld_fits _ _ (by decide) (Word64.get_lt _ _)

theorem State.holdExpired_iff (s : State) : s.holdExpired = true ↔ 0 < s.fld Reg.TOD_HOLD_TIMEOUT Fld.TOD_HOLD_TIMEOUT_MS
    ∧ msTicks (s.fld Reg.TOD_HOLD_TIMEOUT Fld.TOD_HOLD_TIMEOUT_MS) ≤ s.clk.mono - s.clk.lastSteer := by
  simp only [State.holdExpired, Bool.and_eq_true, decide_eq_true_eq]

/-- A HOLD_TIMEOUT write stores the timeout, and enters holdover where the new timeout has passed already (R57). -/
theorem todHoldTimeoutWrite_cases (v : Word64) (s : State) :
    let t := s.setFld Reg.TOD_HOLD_TIMEOUT Fld.TOD_HOLD_TIMEOUT_MS (v.get Fld.TOD_HOLD_TIMEOUT_MS)
    let late := 0 < v.get Fld.TOD_HOLD_TIMEOUT_MS ∧ msTicks (v.get Fld.TOD_HOLD_TIMEOUT_MS) ≤ s.clk.mono - s.clk.lastSteer
    late ∧ todHoldTimeoutWrite v s = t.enterHold ∨ ¬ late ∧ todHoldTimeoutWrite v s = t := by
  intro t late
  have hfld : t.fld Reg.TOD_HOLD_TIMEOUT Fld.TOD_HOLD_TIMEOUT_MS = v.get Fld.TOD_HOLD_TIMEOUT_MS :=
    State.fld_setFld_fits _ _ (by decide) (Word64.get_lt _ _)
  have hlate : t.holdExpired = true ↔ late := by rw [State.holdExpired_iff, hfld]; rfl
  by_cases h : late
  · exact .inl ⟨h, if_pos (hlate.2 h)⟩
  · exact .inr ⟨h, if_neg (mt hlate.1 h)⟩

theorem todHoldover_expired (h : 0 < s.fld Reg.TOD_HOLD_TIMEOUT Fld.TOD_HOLD_TIMEOUT_MS)
    (hlate : msTicks (s.fld Reg.TOD_HOLD_TIMEOUT Fld.TOD_HOLD_TIMEOUT_MS) ≤ s.clk.mono - s.clk.lastSteer) :
    todHoldover s = s.enterHold :=
  if_pos (s.holdExpired_iff.2 ⟨h, hlate⟩)

/-! ### PPS_IN -/

theorem Clock.ppsTooSoon_false {c : Clock} (h : ∀ m, c.lastPps = some m → msTicks 500 ≤ c.mono - m) : c.ppsTooSoon = false := by
  unfold Clock.ppsTooSoon
  split
  · rfl
  · next m hm => exact decide_eq_false (Nat.not_lt.2 (h m hm))

/-- An edge that R63 accepts. -/
theorem ppsInEdge_accepts {high : Nat} (hen : s.flag Reg.TOD_CTL Fld.TOD_CTL_PPS_IN_EN = true) (hhigh : 100 ≤ high)
    (hlast : ∀ m, s.clk.lastPps = some m → msTicks 500 ≤ s.clk.mono - m) :
    ppsInEdge high s = s.ppsLoadNow.ppsAccept.ppsCapture.todFlag Fld.TOD_STATUS_PPS_IN_EVT := by
  refine if_neg ?_
  simp [hen, Clock.ppsTooSoon_false hlast, hhigh]

/-- What an accepted edge shows: the flag, and the clock as it stands. -/
theorem State.ppsCapture_todFlag (s : State) {f : Fld} (hf : f.oneBit) :
    let t := s.ppsCapture.todFlag f
    t.flag Reg.TOD_STATUS f = true ∧ (∀ a g, a ≠ Reg.TOD_STATUS → t.fld a g = s.ppsCapture.fld a g)
      ∧ s.onlyRegs t [Reg.TOD_STATUS, Reg.TOD_PPS_CAP_SEC, Reg.TOD_PPS_CAP_NS, Reg.TOD_PPS_CAP_MONO] ∧ s.onlyParts t [.regs] := by
  have hlatch := s.latchTime_regs Reg.TOD_PPS_CAP_SEC Reg.TOD_PPS_CAP_NS Reg.TOD_PPS_CAP_MONO
  exact ⟨State.flag_setFld_one _ _ hf, fun a g ha => State.fld_setFld_other _ _ _ _ _ _ ha,
    State.onlyRegs_trans (State.onlyRegs_mono hlatch (by simp)) (State.onlyRegs_mono (State.onlyRegs_setFld _ _ _ _) (by simp)),
    State.onlyParts_trans (s.latchTime_rest _ _ _) (State.setFld_rest _ _ _ _)⟩

theorem State.ppsLoadNow_armed (h : s.clk.loadArmed = true) :
    s.ppsLoadNow = s.todStep (s.fld Reg.TOD_SET_SEC Fld.TOD_SET_SEC_SEC) (s.fld Reg.TOD_SET_NS Fld.TOD_SET_NS_NS)
      (s.fld Reg.TOD_SET_NS Fld.TOD_SET_NS_FRAC) :=
  if_pos h

theorem State.ppsLoadNow_unarmed (h : s.clk.loadArmed = false) : s.ppsLoadNow = s :=
  if_neg (by simp [h])

/-- Accepting an edge where no load is armed. -/
theorem State.ppsAccept_unarmed (h : s.clk.loadArmed = false) :
    s.ppsAccept = { s with clk := { s.clk with lastPps := some s.clk.mono, ppsLost := false } } := by
  rw [State.ppsAccept, ← h]

theorem State.ppsAccept_ok (h : s.clk.ok = true) : s.ppsAccept.clk.ok = true := h

/-! ### PPS_OUT -/

theorem State.ppsCarry_passed {m : Nat} (h : s.clk.carryAt = some m) : s.ppsCarry = some m := by
  unfold State.ppsCarry; rw [h]

/-- A negative ADJ shows the coming carry, once (R62). -/
theorem State.ppsCarry_coming (hnone : s.clk.carryAt = none) (hshift : s.ppsShift < 0) (hearly : s.clk.ppsEarly = false) :
    s.ppsCarry = some (s.clk.mono + s.clk.ticksToCarry) := by
  unfold State.ppsCarry; rw [hnone]; exact if_pos ⟨hshift, hearly⟩

theorem ppsOutPulse_rises {m : Nat} (hen : s.flag Reg.TOD_CTL Fld.TOD_CTL_PPS_OUT_EN = true) (hcarry : s.ppsCarry = some m)
    (hdue : (m : Int) + s.ppsShift ≤ s.clk.mono) :
    ppsOutPulse s = { s with clk := { s.clk with
      carryAt := none, ppsOut := true, ppsRise := s.clk.mono, ppsEarly := s.clk.carryAt.isNone } } := by
  unfold ppsOutPulse; rw [hcarry]; exact if_pos ⟨hen, hdue⟩

end

/-- Settles O10: each clause is one of the lemmas above; an accepted edge with a load armed goes through `State.todStep`. -/
theorem todSteeringAndPps : Obligations.TodSteeringAndPps := by
  refine ⟨fun s hon hleft => ?_, fun s v hrange => ?_, fun s v hrange => ?_, fun s v => ?_, fun s => doneClk_eq_next rfl,
    fun s hms hlate => ?_, fun s high hen hhigh hlast harmed hok => ?_, fun s high hen hhigh hlast harmed hns => ?_,
    fun s hen hlost => ?_, fun s m hen hcarry hdue => ?_, fun s hen hnone hearly hshift hdue => ?_, fun s hout hdue => ?_⟩
  · exact (congrArg (doneClk s) (if_pos ⟨hon, hleft⟩)).trans (doneClk_eq_next rfl)
  · obtain ⟨hns, hfrac, hregs, hparts⟩ := s.setIncr_fields v
    refine ⟨_, exec_incrWrite_accepts hrange, todIncrWrite_clk hrange, ?_⟩
    rw [todIncrWrite_accepts hrange]
    exact ⟨hns, hfrac, hregs, State.onlyParts_trans (State.onlyParts_mono hparts (by simp))
      (State.onlyParts_mono (State.setClk_rest _ _) (by simp))⟩
  · exact ⟨_, (congrArg (doneClk s) (todIncrWrite_rejects hrange)).trans (doneClk_eq_next rfl),
      s.todFlag_raises (by unfold Fld.oneBit; decide)⟩
  · have hregs := s.onlyRegs_setFld Reg.TOD_HOLD_TIMEOUT Fld.TOD_HOLD_TIMEOUT_MS (v.get Fld.TOD_HOLD_TIMEOUT_MS)
    have hms := s.fld_setFld_fits Reg.TOD_HOLD_TIMEOUT (f := Fld.TOD_HOLD_TIMEOUT_MS) (by decide)
      (v.get_lt Fld.TOD_HOLD_TIMEOUT_MS)
    have hparts := State.onlyParts_mono (s.setFld_rest Reg.TOD_HOLD_TIMEOUT Fld.TOD_HOLD_TIMEOUT_MS
      (v.get Fld.TOD_HOLD_TIMEOUT_MS)) (m := [.clk, .regs]) (by simp)
    obtain ⟨hlate, hwrite⟩ | ⟨hlate, hwrite⟩ := todHoldTimeoutWrite_cases v s
    · exact ⟨_, (congrArg (doneClk s) hwrite).trans (doneClk_eq_next rfl), hms, ⟨fun _ => .inr hlate, fun _ => rfl⟩, rfl, hregs,
        State.onlyParts_trans hparts (State.onlyParts_mono (State.setClk_rest _ _) (by simp))⟩
    · exact ⟨_, (congrArg (doneClk s) hwrite).trans (doneClk_eq_next rfl), hms, ⟨.inl, fun h => h.resolve_right hlate⟩, rfl, hregs,
        hparts⟩
  · exact (congrArg (doneClk s) (todHoldover_expired hms hlate)).trans (doneClk_eq_next rfl)
  · have hedge := ppsInEdge_accepts hen hhigh hlast
    rw [State.ppsLoadNow_unarmed harmed] at hedge
    obtain ⟨hevt, hcap, hregs, hparts⟩ := s.ppsAccept.ppsCapture_todFlag (f := Fld.TOD_STATUS_PPS_IN_EVT) (by unfold Fld.oneBit; decide)
    obtain ⟨hsec, hns, hfrac, hmono⟩ := s.ppsAccept.latchTime_ok (State.ppsAccept_ok hok) (a := Reg.TOD_PPS_CAP_SEC)
      (b := Reg.TOD_PPS_CAP_NS) (m := Reg.TOD_PPS_CAP_MONO) (by decide) (by decide) (by decide)
    refine ⟨_, (congrArg (doneClk s) hedge).trans (doneClk_eq_next rfl), congrArg State.clk (State.ppsAccept_unarmed harmed), hevt,
      (hcap _ _ (by decide)).trans hsec, (hcap _ _ (by decide)).trans hns, (hcap _ _ (by decide)).trans hfrac,
      (hcap _ _ (by decide)).trans hmono, hregs, ?_⟩
    exact State.onlyParts_trans (State.onlyParts_mono (s.setClk_rest _) (by simp)) (State.onlyParts_mono hparts (by simp))
  · have hedge := ppsInEdge_accepts hen hhigh hlast
    rw [State.ppsLoadNow_armed harmed] at hedge
    have hclk := s.todStep_clk _ _ (s.fld Reg.TOD_SET_NS Fld.TOD_SET_NS_FRAC) s.setSec_lt hns
    have hstep := s.todStep_rest (s.fld Reg.TOD_SET_SEC Fld.TOD_SET_SEC_SEC) (s.fld Reg.TOD_SET_NS Fld.TOD_SET_NS_NS)
      (s.fld Reg.TOD_SET_NS Fld.TOD_SET_NS_FRAC)
    generalize s.todStep _ _ _ = u at hedge hclk hstep
    have haccept := u.setClk_rest u.ppsAccept.clk
    obtain ⟨hevt, hcap, -, hparts⟩ := u.ppsAccept.ppsCapture_todFlag (f := Fld.TOD_STATUS_PPS_IN_EVT) (by unfold Fld.oneBit; decide)
    have hsec := u.ppsAccept.latchTime_sec (a := Reg.TOD_PPS_CAP_SEC) (b := Reg.TOD_PPS_CAP_NS) (m := Reg.TOD_PPS_CAP_MONO)
      (by decide) (by decide)
    have hall := State.onlyParts_trans (State.onlyParts_trans hstep (State.onlyParts_mono haccept (by simp)))
      (State.onlyParts_mono hparts (by simp))
    refine ⟨_, (congrArg (doneClk s) hedge).trans (doneClk_eq_next hall.1), ?_, (hcap _ _ (by decide)).trans (hsec.trans ?_), hevt,
      hall⟩
    · show ({ u.clk with loadArmed := false, lastPps := some u.clk.mono, ppsLost := false } : Clock) = _
      rw [hclk]
    · show u.clk.sec % 2 ^ 48 = _
      rw [hclk, Nat.mod_eq_of_lt s.setSec_lt]
  · exact (congrArg (doneClk s) (if_pos ⟨hen, hlost⟩)).trans (doneClk_eq_next rfl)
  · have hpulse := ppsOutPulse_rises hen (State.ppsCarry_passed hcarry) hdue
    rw [hcarry] at hpulse
    exact (congrArg (doneClk s) hpulse).trans (doneClk_eq_next rfl)
  · have hpulse := ppsOutPulse_rises hen (State.ppsCarry_coming hnone hshift hearly) (by push_cast; omega)
    refine (congrArg (doneClk s) hpulse).trans ?_
    simp only [doneClk_eq, hnone, Option.isNone_none]
  · exact (congrArg (doneClk s) (if_pos ⟨hout, hdue⟩)).trans (doneClk_eq_next rfl)

end Sys2Proof.Machine
end

section
/-! PROOF. Flow control (R46, R47, R48): PAUSE frames sent and renewed, and received stops. -/

namespace Sys2Proof.Machine

/-! ### The registers of a port block -/

/-- A counter of a port lies in its PRT block behind the block's CTL and STATUS (R456). -/
theorem prtCtl_ne_cntPort (n p : Nat) {i : Nat} (hi : i < 64) : Reg.PRT_CTL n ≠ cntPort p i := by
  simp only [Reg.PRT_CTL, cntPort, Reg.PRT_CNT]; omega

theorem State.looped_of_reg {s t : State} {p : Nat} (h : t.reg (Reg.PRT_CTL (p / 2)) = s.reg (Reg.PRT_CTL (p / 2))) :
    t.looped p = s.looped p := by
  rw [State.looped, State.looped, State.fld_of_reg h]

/-! ### PAUSE frames sent -/

section
variable {s : State} {p : Nat}

/-- A PAUSE frame goes out on the wire and counts (R46). -/
theorem sendFlowControl_pause {f : FcFrame} {r : List FcFrame} (hpend : (s.port p).fcPend = f :: r) (hpause : f.pfc = false)
    (hidle : (s.port p).tx = none) (hen : s.portEnabled p = true) (hlink : s.linkUp p = true) :
    sendFlowControl p s = (s.setPort p { s.port p with fcPend := r, fcLast := s.clk.mono, wire := s.fcBytes p f }).bump
      (cntPort p Cnt.PRT_TX_PAUSE) := by
  simp only [sendFlowControl, hpend, hpause, hidle, hen, hlink, Option.isSome_none, Bool.not_true, Bool.false_eq_true, or_self, if_false]

/-- Out of loopback nothing hears the frame. -/
theorem flowControlFrameSend_unlooped (h : (sendFlowControl p s).looped p = false) :
    flowControlFrameSend p s = sendFlowControl p s := by
  unfold flowControlFrameSend State.loopBack
  extract_lets t
  rw [h, if_neg Bool.false_ne_true, ite_self]

/-- A paused port whose last frame lies REFRESH quanta back asks for another one (R46). -/
theorem pauseRefresh_due (hpolicy : s.fld (Reg.PRT_FC_CTL (p / 2) (p % 2)) Fld.PRT_FC_CTL_POLICY = 1)
    (hxoff : (s.port p).xoff = true) (hpend : (s.port p).fcPend = [])
    (hgap : bitTicks (512 * s.fld (Reg.PRT_PAUSE_CFG (p / 2) (p % 2)) Fld.PRT_PAUSE_CFG_REFRESH) (s.rate p)
      ≤ s.clk.mono - (s.port p).fcLast) :
    pauseRefresh p s = s.setPort p { s.port p with fcPend := [⟨false, 1, 1⟩] } := by
  have hmask : (s.port p).pausedMask false = 1 := by simp [PortSt.pausedMask, hxoff]
  have hpfc : (1 == 2) = false := rfl
  unfold pauseRefresh
  rw [hpolicy]
  simp only [hpfc, hmask]
  exact if_pos ⟨.inl trivial, by decide, hpend, hgap⟩

/-! ### Stops received -/

/-- The oldest count whose response time has passed begins (R48). -/
theorem pauseStopStart_due {i q m : Nat} {r : List (Nat × Nat)} (hnext : (Tbl.get Stop.init (s.port p).stops i).next = (q, m) :: r)
    (hm : m ≤ s.clk.mono) (hfree : (Tbl.get Stop.init (s.port p).stops i).on = true ∨ (s.port p).tx = none) :
    pauseStopStart p i s = s.setPort p { s.port p with
      stops := Tbl.set Stop.init (s.port p).stops i ⟨true, s.clk.mono + bitTicks (512 * q) (s.rate p), r⟩ } := by
  unfold pauseStopStart
  extract_lets x st
  simp only [st, x, hnext]
  exact if_pos ⟨hm, hfree⟩

/-- A count that has run out with none behind it ends the stop (R48). -/
theorem pauseStopEnd_due {i u : Nat} (hstop : Tbl.get Stop.init (s.port p).stops i = ⟨true, u, []⟩) (hu : u ≤ s.clk.mono) :
    pauseStopEnd p i s = s.setPort p { s.port p with stops := Tbl.set Stop.init (s.port p).stops i Stop.init } := by
  unfold pauseStopEnd
  extract_lets x st
  simp only [st, x, hstop]
  exact if_pos ⟨trivial, trivial, hu⟩

/-- A command whose effect is a change of one port. -/
theorem done_setPort (s : State) (p : Nat) (x : PortSt) : done s (s.setPort p x) = .next (s.setPort p x) :=
  done_eq_next (s.setPort_rest p x) (by decide)

end

/-- Settles O14: the frame sent is followed through the port's registers; refresh and stops are changes of the port alone. -/
theorem flowControl : Obligations.FlowControl := by
  refine ⟨fun s p f r hout hpend hpause hidle hen hlink => ?_,
    fun s p hpolicy hxoff hpend hgap => (congrArg (done s) (pauseRefresh_due hpolicy hxoff hpend hgap)).trans (done_setPort _ _ _),
    fun s p i q m r hnext hm hfree => (congrArg (done s) (pauseStopStart_due hnext hm hfree)).trans (done_setPort _ _ _),
    fun s p i u hstop hu => (congrArg (done s) (pauseStopEnd_due hstop hu)).trans (done_setPort _ _ _)⟩
  have hsend := sendFlowControl_pause hpend hpause hidle hen hlink
  generalize hx : ({ s.port p with fcPend := r, fcLast := s.clk.mono, wire := s.fcBytes p f } : PortSt) = x at hsend
  have hregs : s.onlyRegs ((s.setPort p x).bump (cntPort p Cnt.PRT_TX_PAUSE)) [cntPort p Cnt.PRT_TX_PAUSE] :=
    State.onlyRegs_bump (s.setPort p x) _
  have hctl := hregs (Reg.PRT_CTL (p / 2)) (by simpa using prtCtl_ne_cntPort _ _ (by decide))
  have hquiet : (sendFlowControl p s).looped p = false := by rw [hsend, State.looped_of_reg hctl, hout]
  have hport : ((s.setPort p x).bump (cntPort p Cnt.PRT_TX_PAUSE)).port p = x := s.port_setPort_self p x
  have hparts : s.onlyParts ((s.setPort p x).bump (cntPort p Cnt.PRT_TX_PAUSE)) [.regs, .ports] :=
    State.onlyParts_trans (State.onlyParts_mono (s.setPort_rest p x) (by simp)) (State.onlyParts_mono (State.bump_rest _ _) (by simp))
  refine ⟨_, (congrArg (done s) ((flowControlFrameSend_unlooped hquiet).trans hsend)).trans (done_eq_next hparts (by decide)),
    ?_, ?_, ?_, ?_, hregs, s.onlyPort_setPort p x, hparts⟩
  · rw [hport, ← hx]
  · rw [hport, ← hx]
  · rw [hport, ← hx]
  · rw [State.reg_bump, if_pos rfl]; rfl

end Sys2Proof.Machine
end

section
/-! PROOF. A link that falls (R44): the flags of PRT.STATUS, and what is cut off with it. -/

namespace Sys2Proof

theorem Fld.oneBit.apart {f g : Fld} (hf : f.oneBit) (hg : g.oneBit) (h : f.lo ≠ g.lo) : f.apart g := by
  unfold Fld.oneBit at hf hg
  unfold Fld.apart
  omega

end Sys2Proof

namespace Sys2Proof.Machine

/-! ### The flags of PRT.STATUS -/

/-- A flag written stands; any other keeps its value. -/
theorem State.flag_setFld_oneBit (s : State) (a : Nat) {f g : Fld} (hf : f.oneBit) (hg : g.oneBit) (b : Bool) :
    (s.setFld a f (bit b)).flag a g = if g.lo = f.lo then b else s.flag a g := by
  by_cases h : g.lo = f.lo
  · have hsame : g = f := by
      cases f; cases g
      exact congrArg₂ Fld.mk h (hg.1.trans hf.1.symm)
    rw [if_pos h, hsame, State.flag_setFld_bit _ _ hf]
  · rw [if_neg h, State.flag_setFld_apart _ _ _ _ _ (hf.apart hg (Ne.symm h))]

/-- A flag that each half has: those of the two halves lie side by side from bit `k`. -/
theorem halfFlag_eq (k h : Nat) : (if h = 0 then (⟨k, 1⟩ : Fld) else ⟨k + 1, 1⟩) = ⟨k + min h 1, 1⟩ := by
  by_cases h0 : h = 0
  · rw [if_pos h0, h0]; rfl
  · rw [if_neg h0, Nat.min_eq_right (Nat.pos_of_ne_zero h0)]

theorem fldLink_eq (h : Nat) : fldLink h = ⟨0 + min h 1, 1⟩ := halfFlag_eq 0 h
theorem fldLinkChg_eq (h : Nat) : fldLinkChg h = ⟨2 + min h 1, 1⟩ := halfFlag_eq 2 h
theorem fldFecLock_eq (h : Nat) : fldFecLock h = ⟨7 + min h 1, 1⟩ := halfFlag_eq 7 h
theorem fldLfault_eq (h : Nat) : fldLfault h = ⟨11 + min h 1, 1⟩ := halfFlag_eq 11 h
theorem fldRfault_eq (h : Nat) : fldRfault h = ⟨13 + min h 1, 1⟩ := halfFlag_eq 13 h

theorem halfFlag_oneBit {f : Fld} {k h : Nat} (hf : f = ⟨k + min h 1, 1⟩) (hk : k < 63) : f.oneBit := by
  subst hf
  exact ⟨rfl, by show k + min h 1 < 64; omega⟩

theorem fldLink_oneBit (h : Nat) : (fldLink h).oneBit := halfFlag_oneBit (fldLink_eq h) (by decide)
theorem fldLinkChg_oneBit (h : Nat) : (fldLinkChg h).oneBit := halfFlag_oneBit (fldLinkChg_eq h) (by decide)
theorem fldFecLock_oneBit (h : Nat) : (fldFecLock h).oneBit := halfFlag_oneBit (fldFecLock_eq h) (by decide)
theorem fldLfault_oneBit (h : Nat) : (fldLfault h).oneBit := halfFlag_oneBit (fldLfault_eq h) (by decide)
theorem fldRfault_oneBit (h : Nat) : (fldRfault h).oneBit := halfFlag_oneBit (fldRfault_eq h) (by decide)

theorem State.linkUp_eq (s : State) (p : Nat) : s.linkUp p = s.flag (Reg.PRT_STATUS (p / 2)) (fldLink (p % 2)) := rfl

theorem prtStatus_ne_cntPort (n p : Nat) {i : Nat} (hi : i < 64) : Reg.PRT_STATUS n ≠ cntPort p i := by
  simp only [Reg.PRT_STATUS, cntPort, Reg.PRT_CNT]; omega

theorem prtStatus_low {n : Nat} (h : n < 256) : Reg.PRT_STATUS n < Reg.BUF_STATUS := by
  simp only [Reg.PRT_STATUS, Reg.BUF_STATUS]; omega

theorem cntPort_low {p i : Nat} (hp : p < 512) (hi : i < 64) : cntPort p i < Reg.BUF_STATUS := by
  simp only [cntPort, Reg.PRT_CNT, Reg.BUF_STATUS]; omega

/-! ### Cells given back -/

theorem State.setBuf_only (s : State) (b : BufSt) : s.onlyParts { s with buf := b } [.buf] :=
  ⟨rfl, fun p hp => by cases p <;> first | rfl | simp at hp⟩

theorem State.freeCell_rest (s : State) (c : Nat) : s.onlyParts (s.freeCell c) [.regs, .buf] :=
  State.onlyParts_trans (State.onlyParts_trans (State.onlyParts_mono (s.setBuf_only _) (by simp))
    (State.onlyParts_mono (State.setReg_rest _ _ _) (by simp))) (State.onlyParts_mono (State.setBuf_only _ _) (by simp))

theorem State.freeCell_regs (s : State) (c : Nat) : s.onlyRegs (s.freeCell c) [Reg.BUF_CNT Cnt.BUF_CELLS_FREED] :=
  State.onlyRegs_bump (s.setUse c .free) _

/-! ### A frame cut off -/

/-- `t` is `s` after what was being received on port p was cut off, at most: of the registers below the buffer's only those of `l`
moved, no credit moved, and what port p sends stands. -/
structure State.CutsOff (s t : State) (p : Nat) (l : List Nat) : Prop where
  rx : (s.port p).rx = none → (t.port p).rx = none
  egr : (t.port p).egr = (s.port p).egr
  out : (t.port p).out = (s.port p).out
  only : s.onlyPort t p
  regs : ∀ a < Reg.BUF_STATUS, a ∉ l → t.reg a = s.reg a
  credit : ∀ k, t.credit k = s.credit k
  rest : s.onlyParts t [.regs, .ports, .links, .buf]

section
variable {s t u : State} {p : Nat} {l m : List Nat}

theorem State.CutsOff.refl (s : State) (p : Nat) (l : List Nat) : s.CutsOff s p l :=
  ⟨id, rfl, rfl, s.onlyPort_refl p, fun _ _ _ => rfl, fun _ => rfl, s.onlyParts_refl _⟩

theorem State.CutsOff.trans (a : s.CutsOff t p l) (b : t.CutsOff u p l) : s.CutsOff u p l :=
  ⟨b.rx ∘ a.rx, b.egr.trans a.egr, b.out.trans a.out, State.onlyPort_trans a.only b.only,
    fun x hx hl => (b.regs x hx hl).trans (a.regs x hx hl), fun k => (b.credit k).trans (a.credit k),
    State.onlyParts_trans a.rest b.rest⟩

theorem State.CutsOff.mono (a : s.CutsOff t p l) (h : ∀ x ∈ l, x ∈ m) : s.CutsOff t p m :=
  ⟨a.rx, a.egr, a.out, a.only, fun x hx hm => a.regs x hx fun hl => hm (h x hl), a.credit, a.rest⟩

/-- A change of port p that spares what it sends. -/
theorem State.CutsOff.ofPort (s : State) (l : List Nat) {x : PortSt} (hrx : (s.port p).rx = none → x.rx = none)
    (hegr : x.egr = (s.port p).egr) (hout : x.out = (s.port p).out) : s.CutsOff (s.setPort p x) p l :=
  ⟨by rw [State.port_setPort_self]; exact hrx, by rw [State.port_setPort_self]; exact hegr,
    by rw [State.port_setPort_self]; exact hout, s.onlyPort_setPort p x, fun _ _ _ => rfl, fun _ => rfl,
    State.onlyParts_mono (s.setPort_rest p x) (by simp)⟩

/-- A change beside the ports and the links. -/
theorem State.CutsOff.ofRegs (h : s.onlyParts t [.regs, .buf]) (hregs : ∀ a < Reg.BUF_STATUS, a ∉ l → t.reg a = s.reg a) :
    s.CutsOff t p l := by
  have hport := h.port_eq (by simp) p
  exact ⟨by rw [hport]; exact id, by rw [hport], by rw [hport], h.onlyPort (by simp) p, hregs, h.credit_eq (by simp),
    State.onlyParts_mono h (by simp)⟩

theorem State.CutsOff.ofReg (s : State) {a : Nat} (v : Word64) (h : a ∈ l) : s.CutsOff (s.setReg a v) p l :=
  .ofRegs (State.onlyParts_mono (s.setReg_rest a v) (by simp)) fun b _ hb =>
    s.onlyRegs_setReg a v b fun hab => hb (List.mem_singleton.1 hab ▸ h)

theorem State.CutsOff.ofFreeEntry (s : State) (p : Nat) (l : List Nat) (k n : Nat) : s.CutsOff (s.freeEntry k n) p l :=
  ⟨id, rfl, rfl, s.onlyPort_refl p, fun _ _ _ => rfl, fun j => s.credit_freeEntry k j n,
    State.onlyParts_mono (s.freeEntry_rest k n) (by simp)⟩

theorem State.CutsOff.ofFreeCells (s : State) (p : Nat) (l cells : List Nat) : s.CutsOff (s.freeCells cells) p l :=
  .ofRegs (forEach_onlyParts (fun c t => t.freeCell_rest c) cells s) fun a ha _ =>
    forEach_onlyRegs (fun c t => t.freeCell_regs c) cells s a (by
      simp only [Reg.BUF_STATUS] at ha
      simp only [Reg.BUF_CNT, List.mem_singleton]
      omega)

theorem State.CutsOff.ofForget (s : State) (p : Nat) (l : List Nat) (head : Nat) (cells : List Nat) :
    s.CutsOff (s.forget head cells) p l :=
  .ofRegs (State.onlyParts_mono (s.setBuf_only _) (by simp)) fun _ _ _ => rfl

end

theorem State.dropTail_cutsOff (s : State) (p : Nat) (l : List Nat) : s.CutsOff (s.dropTail p) p l := by
  unfold State.dropTail
  extract_lets x
  split
  · exact .refl s p l
  · extract_lets t
    have ht : s.CutsOff t p l :=
      (State.CutsOff.ofPort s l (x := { x with fifo := x.fifo.dropLast }) id rfl rfl).trans (.ofFreeEntry _ p l _ _)
    split
    · exact ht
    · exact (ht.trans (.ofFreeCells t p l _)).trans (.ofForget _ p l _ _)

/-- The crossings of a change of occupancy are marks of the port. -/
theorem State.fcUpdate_marks (s : State) (p : Nat) : ∃ xoff xoffCls fcPend,
    s.fcUpdate p = s.setPort p { s.port p with xoff := xoff, xoffCls := xoffCls, fcPend := fcPend } := by
  unfold State.fcUpdate
  extract_lets
  split
  · exact ⟨_, _, _, rfl⟩
  · exact ⟨_, _, _, rfl⟩

theorem State.fcUpdate_cutsOff (s : State) (p : Nat) (l : List Nat) : s.CutsOff (s.fcUpdate p) p l := by
  obtain ⟨_, _, _, h⟩ := s.fcUpdate_marks p
  rw [h]
  exact .ofPort s l id rfl rfl

/-! ### A link goes down -/

/-- The frame being received is cut off (R44). -/
def State.cutRx (s : State) (p : Nat) : State :=
  match (s.port p).rx with
  | none => s
  | some r =>
    let refused := s.tailRefused p
    let t := s.setPort p { s.port p with rx := none }
    if r.fifoFull then t
    else if refused then t.dropTail p
    else (t.dropTail p).bump (cntPort p Cnt.PRT_RX_PHY_ERR)

/-- The link's flags and its count as it falls (R44). -/
def State.noteDown (s : State) (p : Nat) : State :=
  ((s.setStatus p (fldLink (p % 2)) 0).setStatus p (fldLinkChg (p % 2)) 1).bump (cntPort p Cnt.PRT_LINK_DOWN_EVENTS)

theorem State.dropLink_up {s : State} {p : Nat} (h : s.linkUp p = true) :
    s.dropLink p = (((s.noteDown p).cutRx p).setPort p { ((s.noteDown p).cutRx p).port p with
      tx := (((s.noteDown p).cutRx p).port p).tx.map (fun t => { t with linkDown := true }) }).fcUpdate p := by
  unfold State.dropLink
  rw [h]
  rfl

theorem State.dropLink_down {s : State} {p : Nat} (h : s.linkUp p = false) : s.dropLink p = s := by
  unfold State.dropLink
  rw [h]
  rfl

theorem State.cutRx_cutsOff (s : State) (p : Nat) :
    s.CutsOff (s.cutRx p) p [cntPort p Cnt.PRT_RX_PHY_ERR] ∧ ((s.cutRx p).port p).rx = none := by
  unfold State.cutRx
  split
  · next hrx => exact ⟨.refl s p _, hrx⟩
  · extract_lets refused x t
    have ht : s.CutsOff t p [cntPort p Cnt.PRT_RX_PHY_ERR] := .ofPort s _ (fun _ => rfl) rfl rfl
    have hrx : (t.port p).rx = none := congrArg PortSt.rx (s.port_setPort_self p _)
    have hdrop := t.dropTail_cutsOff p [cntPort p Cnt.PRT_RX_PHY_ERR]
    split
    · exact ⟨ht, hrx⟩
    · split
      · exact ⟨ht.trans hdrop, hdrop.rx hrx⟩
      · have hcount : (t.dropTail p).CutsOff ((t.dropTail p).bump (cntPort p Cnt.PRT_RX_PHY_ERR)) p [cntPort p Cnt.PRT_RX_PHY_ERR] :=
          .ofReg _ _ (by simp)
        exact ⟨(ht.trans hdrop).trans hcount, hcount.rx (hdrop.rx hrx)⟩

/-- A link that falls: its flags and count, then what was being received. -/
theorem State.dropLink_cutsOff_up {s : State} {p : Nat} (h : s.linkUp p = true) :
    (s.noteDown p).CutsOff (s.dropLink p) p [cntPort p Cnt.PRT_RX_PHY_ERR] ∧ ((s.dropLink p).port p).rx = none := by
  obtain ⟨hcut, hrx⟩ := (s.noteDown p).cutRx_cutsOff p
  rw [State.dropLink_up h]
  generalize (s.noteDown p).cutRx p = t at hcut hrx
  have hmark := (State.CutsOff.ofPort t [cntPort p Cnt.PRT_RX_PHY_ERR]
    (x := { t.port p with tx := (t.port p).tx.map (fun t => { t with linkDown := true }) }) id rfl rfl).trans
    (State.fcUpdate_cutsOff _ p _)
  exact ⟨hcut.trans hmark, hmark.rx hrx⟩

/-- The registers below the buffer's that a falling link may move. -/
def linkDownRegs (p : Nat) : List Nat := [Reg.PRT_STATUS (p / 2), cntPort p Cnt.PRT_LINK_DOWN_EVENTS, cntPort p Cnt.PRT_RX_PHY_ERR]

theorem State.dropLink_cutsOff (s : State) (p : Nat) : s.CutsOff (s.dropLink p) p (linkDownRegs p) := by
  cases h : s.linkUp p with
  | false => rw [State.dropLink_down h]; exact .refl s p _
  | true =>
    have hnote : s.CutsOff (s.noteDown p) p (linkDownRegs p) :=
      ((State.CutsOff.ofReg s _ (by simp [linkDownRegs])).trans (.ofReg _ _ (by simp [linkDownRegs]))).trans
        (.ofReg _ _ (by simp [linkDownRegs]))
    exact hnote.trans ((State.dropLink_cutsOff_up h).1.mono (by simp [linkDownRegs]))

section
variable {s : State} {p : Nat}

theorem State.dropLink_flag (h : s.linkUp p = true) (hp : p < 512) {g : Fld} (hg : g.oneBit) :
    (s.dropLink p).flag (Reg.PRT_STATUS (p / 2)) g = if g.lo = (fldLinkChg (p % 2)).lo then true
      else if g.lo = (fldLink (p % 2)).lo then false else s.flag (Reg.PRT_STATUS (p / 2)) g := by
  have hcut := (State.dropLink_cutsOff_up h).1.regs (Reg.PRT_STATUS (p / 2)) (prtStatus_low (by omega)) (by
    simpa using prtStatus_ne_cntPort (p / 2) p (i := Cnt.PRT_RX_PHY_ERR) (by decide))
  have hcount : (s.noteDown p).reg (Reg.PRT_STATUS (p / 2))
      = ((s.setStatus p (fldLink (p % 2)) 0).setStatus p (fldLinkChg (p % 2)) 1).reg (Reg.PRT_STATUS (p / 2)) :=
    (State.reg_bump _ _ _).trans (if_neg (prtStatus_ne_cntPort _ _ (by decide)))
  rw [State.flag_of_reg (hcut.trans hcount)]
  refine (State.flag_setFld_oneBit _ _ (fldLinkChg_oneBit _) hg true).trans ?_
  rw [← State.flag_setFld_oneBit s _ (fldLink_oneBit _) hg false]
  rfl

theorem State.dropLink_count (h : s.linkUp p = true) (hp : p < 512) :
    (s.dropLink p).reg (cntPort p Cnt.PRT_LINK_DOWN_EVENTS) = s.reg (cntPort p Cnt.PRT_LINK_DOWN_EVENTS) + 1 := by
  have hapart : cntPort p Cnt.PRT_LINK_DOWN_EVENTS ≠ cntPort p Cnt.PRT_RX_PHY_ERR := cntPort_ne (by decide)
  have hstatus : cntPort p Cnt.PRT_LINK_DOWN_EVENTS ≠ Reg.PRT_STATUS (p / 2) := (prtStatus_ne_cntPort _ _ (by decide)).symm
  rw [(State.dropLink_cutsOff_up h).1.regs _ (cntPort_low hp (by decide)) (by simpa using hapart), State.noteDown, State.reg_bump,
    if_pos rfl, State.setStatus, State.setStatus, State.reg_setFld, if_neg hstatus, State.reg_setFld, if_neg hstatus]
  rfl

/-- The link is down afterwards. -/
theorem State.linkUp_dropLink (s : State) (hp : p < 512) : (s.dropLink p).linkUp p = false := by
  cases h : s.linkUp p with
  | false => rw [State.dropLink_down h, h]
  | true =>
    rw [State.linkUp_eq, State.dropLink_flag h hp (fldLink_oneBit _), if_pos rfl, if_neg]
    rw [fldLink_eq, fldLinkChg_eq]
    dsimp only
    omega

theorem State.dropLink_notes (h : s.linkUp p = true) (hp : p < 512) :
    (s.dropLink p).flag (Reg.PRT_STATUS (p / 2)) (fldLinkChg (p % 2)) = true := by
  rw [State.dropLink_flag h hp (fldLinkChg_oneBit _), if_pos rfl]

/-! ### The fault that shows -/

/-- The fault's flags (R44). -/
theorem State.noteFault_flag (s : State) (p : Nat) (remote : Bool) {g : Fld} (hg : g.oneBit) :
    (s.noteFault p remote).flag (Reg.PRT_STATUS (p / 2)) g = if g.lo = (fldRfault (p % 2)).lo then remote
      else if g.lo = (fldLfault (p % 2)).lo then !remote
      else if g.lo = (fldFecLock (p % 2)).lo then remote else s.flag (Reg.PRT_STATUS (p / 2)) g := by
  rw [← State.flag_setFld_oneBit s _ (fldFecLock_oneBit _) hg, ← State.flag_setFld_oneBit _ _ (fldLfault_oneBit _) hg,
    ← State.flag_setFld_oneBit _ _ (fldRfault_oneBit _) hg]
  rfl

/-- The flags of PRT.STATUS that show a fault. -/
def State.faultFlags (s : State) (p : Nat) (remote : Bool) : State :=
  ((s.setStatus p (fldFecLock (p % 2)) (bit remote)).setStatus p (fldLfault (p % 2)) (bit !remote)).setStatus p (fldRfault (p % 2))
    (bit remote)

theorem State.noteFault_eq (s : State) (p : Nat) (remote : Bool) : s.noteFault p remote =
    (s.faultFlags p remote).setPort p { (s.faultFlags p remote).port p with remoteFault := !remote } := rfl

theorem State.noteFault_cutsOff (s : State) (p : Nat) (remote : Bool) :
    s.CutsOff (s.noteFault p remote) p [Reg.PRT_STATUS (p / 2)] := by
  have hflags : s.CutsOff (s.faultFlags p remote) p [Reg.PRT_STATUS (p / 2)] :=
    ((State.CutsOff.ofReg s _ (by simp)).trans (.ofReg _ _ (by simp))).trans (.ofReg _ _ (by simp))
  rw [State.noteFault_eq]
  exact hflags.trans (.ofPort _ _ id rfl rfl)

theorem State.noteFault_regs (s : State) (p : Nat) (remote : Bool) : s.onlyRegs (s.noteFault p remote) [Reg.PRT_STATUS (p / 2)] := by
  have hflags : s.onlyRegs (s.faultFlags p remote) [Reg.PRT_STATUS (p / 2)] :=
    State.onlyRegs_trans (State.onlyRegs_trans (s.onlyRegs_setFld _ _ _) (State.onlyRegs_setFld _ _ _ _)) (State.onlyRegs_setFld _ _ _ _)
  rw [State.noteFault_eq]
  exact hflags

theorem State.noteFault_rest (s : State) (p : Nat) (remote : Bool) : s.onlyParts (s.noteFault p remote) [.regs, .ports] := by
  have hflags : s.onlyParts (s.faultFlags p remote) [.regs] :=
    State.onlyParts_trans (State.onlyParts_trans (s.setFld_rest _ _ _) (State.setFld_rest _ _ _ _)) (State.setFld_rest _ _ _ _)
  rw [State.noteFault_eq]
  exact State.onlyParts_trans (State.onlyParts_mono hflags (by simp)) (State.onlyParts_mono (State.setPort_rest _ _ _) (by simp))

end

end Sys2Proof.Machine
end

section
/-! PROOF. Links (R40, R42, R44): auto-negotiation, training, up and down. -/

namespace Sys2Proof.Machine

/-- Where the flags of half h lie. -/
theorem statusFlags_lo (h : Nat) : (fldLink h).lo = 0 + min h 1 ∧ (fldLinkChg h).lo = 2 + min h 1 ∧ (fldFecLock h).lo = 7 + min h 1
    ∧ (fldLfault h).lo = 11 + min h 1 ∧ (fldRfault h).lo = 13 + min h 1 := by
  rw [fldLink_eq, fldLinkChg_eq, fldFecLock_eq, fldLfault_eq, fldRfault_eq]
  exact ⟨rfl, rfl, rfl, rfl, rfl⟩

/-- A fault shows as a local or a remote one; LINK and LINK_CHG stand. -/
theorem State.noteFault_shows (s : State) (p : Nat) (remote : Bool) :
    (s.noteFault p remote).linkUp p = s.linkUp p
      ∧ (s.noteFault p remote).flag (Reg.PRT_STATUS (p / 2)) (fldLinkChg (p % 2))
          = s.flag (Reg.PRT_STATUS (p / 2)) (fldLinkChg (p % 2))
      ∧ (s.noteFault p remote).flag (Reg.PRT_STATUS (p / 2)) (fldLfault (p % 2)) = !remote
      ∧ (s.noteFault p remote).flag (Reg.PRT_STATUS (p / 2)) (fldRfault (p % 2)) = remote := by
  obtain ⟨hlink, hchg, hlock, hlf, hrf⟩ := statusFlags_lo (p % 2)
  refine ⟨?_, ?_, ?_, ?_⟩
  · rw [State.linkUp_eq, s.noteFault_flag p remote (fldLink_oneBit _), if_neg (by omega), if_neg (by omega), if_neg (by omega)]
    rfl
  · rw [s.noteFault_flag p remote (fldLinkChg_oneBit _), if_neg (by omega), if_neg (by omega), if_neg (by omega)]
  · rw [s.noteFault_flag p remote (fldLfault_oneBit _), if_neg (by omega), if_pos rfl]
  · rw [s.noteFault_flag p remote (fldRfault_oneBit _), if_pos rfl]

/-! ### A link comes up -/

theorem State.flag_setPort (s : State) (p : Nat) (x : PortSt) (a : Nat) (f : Fld) : (s.setPort p x).flag a f = s.flag a f :=
  State.flag_of_reg (s.reg_setPort p x a) f

section
variable {s : State} {p : Nat}

/-- The flags of PRT.STATUS as a link comes up (R44). -/
def State.upFlags (s : State) (p : Nat) : State :=
  ((((s.setStatus p (fldLink (p % 2)) 1).setStatus p (fldLinkChg (p % 2)) 1).setStatus p (fldFecLock (p % 2)) 1).setStatus p
    (fldLfault (p % 2)) 0).setStatus p (fldRfault (p % 2)) 0

theorem linkUp_comes (hdown : s.linkUp p = false) (hrate : 0 < s.rate p) (hmode : s.modeOk (p / 2) = true)
    (han : s.flag (Reg.PRT_CTL (p / 2)) Fld.PRT_CTL_AN_EN = true → s.flag (Reg.PRT_STATUS (p / 2)) Fld.PRT_STATUS_AN_DONE = true) :
    linkUp p s = (s.upFlags p).setPort p { (s.upFlags p).port p with remoteFault := false } := by
  have hready : (!s.flag (Reg.PRT_CTL (p / 2)) Fld.PRT_CTL_AN_EN || s.flag (Reg.PRT_STATUS (p / 2)) Fld.PRT_STATUS_AN_DONE) = true := by
    cases hen : s.flag (Reg.PRT_CTL (p / 2)) Fld.PRT_CTL_AN_EN with
    | false => rfl
    | true => exact han hen
  unfold linkUp
  extract_lets n h anOk up chg lock t
  have hanOk : anOk = true := hready
  exact if_neg (by simp [hdown, hmode, Nat.ne_of_gt hrate, hanOk, n])

theorem State.upFlags_flag (s : State) (p : Nat) {g : Fld} (hg : g.oneBit) :
    (s.upFlags p).flag (Reg.PRT_STATUS (p / 2)) g = if g.lo = (fldRfault (p % 2)).lo then false
      else if g.lo = (fldLfault (p % 2)).lo then false else if g.lo = (fldFecLock (p % 2)).lo then true
      else if g.lo = (fldLinkChg (p % 2)).lo then true else if g.lo = (fldLink (p % 2)).lo then true
      else s.flag (Reg.PRT_STATUS (p / 2)) g := by
  rw [← State.flag_setFld_oneBit s _ (fldLink_oneBit _) hg, ← State.flag_setFld_oneBit _ _ (fldLinkChg_oneBit _) hg,
    ← State.flag_setFld_oneBit _ _ (fldFecLock_oneBit _) hg, ← State.flag_setFld_oneBit _ _ (fldLfault_oneBit _) hg,
    ← State.flag_setFld_oneBit _ _ (fldRfault_oneBit _) hg]
  rfl

/-- The link is up, its change is noted, and no fault shows. -/
theorem State.upFlags_shows (s : State) (p : Nat) : (s.upFlags p).linkUp p = true
    ∧ (s.upFlags p).flag (Reg.PRT_STATUS (p / 2)) (fldLinkChg (p % 2)) = true
    ∧ (s.upFlags p).flag (Reg.PRT_STATUS (p / 2)) (fldLfault (p % 2)) = false
    ∧ (s.upFlags p).flag (Reg.PRT_STATUS (p / 2)) (fldRfault (p % 2)) = false := by
  obtain ⟨hlink, hchg, hlock, hlf, hrf⟩ := statusFlags_lo (p % 2)
  refine ⟨?_, ?_, ?_, ?_⟩
  · rw [State.linkUp_eq, s.upFlags_flag p (fldLink_oneBit _), if_neg (by omega), if_neg (by omega), if_neg (by omega),
      if_neg (by omega), if_pos rfl]
  · rw [s.upFlags_flag p (fldLinkChg_oneBit _), if_neg (by omega), if_neg (by omega), if_neg (by omega), if_pos rfl]
  · rw [s.upFlags_flag p (fldLfault_oneBit _), if_neg (by omega), if_pos rfl]
  · rw [s.upFlags_flag p (fldRfault_oneBit _), if_pos rfl]

theorem State.upFlags_regs (s : State) (p : Nat) : s.onlyRegs (s.upFlags p) [Reg.PRT_STATUS (p / 2)] :=
  State.onlyRegs_trans (State.onlyRegs_trans (State.onlyRegs_trans (State.onlyRegs_trans (s.onlyRegs_setFld _ _ _)
    (State.onlyRegs_setFld _ _ _ _)) (State.onlyRegs_setFld _ _ _ _)) (State.onlyRegs_setFld _ _ _ _)) (State.onlyRegs_setFld _ _ _ _)

theorem State.upFlags_rest (s : State) (p : Nat) : s.onlyParts (s.upFlags p) [.regs] :=
  State.onlyParts_trans (State.onlyParts_trans (State.onlyParts_trans (State.onlyParts_trans (s.setFld_rest _ _ _)
    (State.setFld_rest _ _ _ _)) (State.setFld_rest _ _ _ _)) (State.setFld_rest _ _ _ _)) (State.setFld_rest _ _ _ _)

end

/-! ### Auto-negotiation and training -/

theorem autoNegotiation_enabled {n : Nat} {accepted : Bool} {s : State} (h : s.flag (Reg.PRT_CTL n) Fld.PRT_CTL_AN_EN = true) :
    autoNegotiation n accepted s = if accepted then s.setFld (Reg.PRT_STATUS n) Fld.PRT_STATUS_AN_DONE 1
      else (s.setFld (Reg.PRT_STATUS n) Fld.PRT_STATUS_AN_DONE 0).setFld (Reg.PRT_STATUS n) Fld.PRT_STATUS_AN_FAIL 1 := by
  unfold autoNegotiation
  rw [h]
  rfl

theorem linkTraining_enabled {n : Nat} {complete : Bool} {s : State} (h : s.flag (Reg.PRT_CTL n) Fld.PRT_CTL_LT_EN = true) :
    linkTraining n complete s = s.setFld (Reg.PRT_STATUS n) Fld.PRT_STATUS_LT_DONE (bit complete) :=
  if_pos h

/-- Settles O12: a link that falls or rises is followed through the flags of PRT.STATUS. -/
theorem linksUpAndDown : Obligations.LinksUpAndDown := by
  have hdone : Fld.PRT_STATUS_AN_DONE.oneBit := by unfold Fld.oneBit; decide
  have hfail : Fld.PRT_STATUS_AN_FAIL.oneBit := by unfold Fld.oneBit; decide
  refine ⟨fun s n accepted han => ?_, fun s n complete hlt => ?_, fun s p remote hup => ?_, fun s p remote hdown => ?_,
    fun s p hdown hrate hmode han => ?_⟩
  · cases accepted with
    | true =>
      have hrest := s.setFld_rest (Reg.PRT_STATUS n) Fld.PRT_STATUS_AN_DONE 1
      exact ⟨_, (congrArg (done s) (autoNegotiation_enabled han)).trans (done_eq_next hrest (by decide)),
        s.flag_setFld_one _ hdone, fun h => absurd h (by decide), s.onlyRegs_setFld _ _ _, hrest⟩
    | false =>
      have hrest := State.onlyParts_trans (s.setFld_rest (Reg.PRT_STATUS n) Fld.PRT_STATUS_AN_DONE 0)
        (State.setFld_rest _ (Reg.PRT_STATUS n) Fld.PRT_STATUS_AN_FAIL 1)
      exact ⟨_, (congrArg (done s) (autoNegotiation_enabled han)).trans (done_eq_next hrest (by decide)),
        (State.flag_setFld_apart _ _ _ _ _ (hfail.apart hdone (by decide))).trans (s.flag_setFld_zero _ hdone),
        fun _ => State.flag_setFld_one _ _ hfail,
        State.onlyRegs_trans (s.onlyRegs_setFld _ _ _) (State.onlyRegs_setFld _ _ _ _), hrest⟩
  · have hrest := s.setFld_rest (Reg.PRT_STATUS n) Fld.PRT_STATUS_LT_DONE (bit complete)
    exact ⟨_, (congrArg (done s) (linkTraining_enabled hlt)).trans (done_eq_next hrest (by decide)),
      s.flag_setFld_bit _ (by unfold Fld.oneBit; decide) _, s.onlyRegs_setFld _ _ _, hrest⟩
  · obtain ⟨hlink, hchg, hlf, hrf⟩ := (s.dropLink p).noteFault_shows p remote
    have hfault := (s.dropLink p).noteFault_cutsOff p remote
    have hall := (s.dropLink_cutsOff p).trans (hfault.mono (by simp [linkDownRegs]))
    have hcount := (s.dropLink p).noteFault_regs p remote (cntPort p Cnt.PRT_LINK_DOWN_EVENTS)
      (by simpa using (prtStatus_ne_cntPort (p.val / 2) p (i := Cnt.PRT_LINK_DOWN_EVENTS) (by decide)).symm)
    exact ⟨_, done_eq_next hall.rest (by decide), hlink.trans (s.linkUp_dropLink p.isLt),
      hchg.trans (State.dropLink_notes hup p.isLt), hcount.trans (State.dropLink_count hup p.isLt),
      hfault.rx (State.dropLink_cutsOff_up hup).2, hall.egr, hall.out, hlf, hrf, hall.only, hall.rest⟩
  · obtain ⟨hlink, -, hlf, hrf⟩ := s.noteFault_shows p remote
    have hexec : linkDown p remote s = s.noteFault p remote := by rw [linkDown, State.dropLink_down hdown]
    have hrest := s.noteFault_rest p remote
    exact ⟨_, (congrArg (done s) hexec).trans (done_eq_next hrest (by decide)), hlink.trans hdown, hlf, hrf,
      s.noteFault_regs p remote, (s.noteFault_cutsOff p remote).only, hrest⟩
  · obtain ⟨hlink, hchg, hlf, hrf⟩ := s.upFlags_shows p
    have hexec := congrArg (done s) (linkUp_comes hdown hrate hmode han)
    have hregs := s.upFlags_regs p
    have hflags := s.upFlags_rest p
    generalize s.upFlags p = u at hlink hchg hlf hrf hexec hregs hflags
    generalize { u.port p with remoteFault := false } = x at hexec
    have hport := u.setPort_rest p x
    have hrest := State.onlyParts_trans (State.onlyParts_mono hflags (m := [.regs, .ports]) (by simp))
      (State.onlyParts_mono hport (by simp))
    have hflag := u.flag_setPort p x (Reg.PRT_STATUS (p / 2))
    exact ⟨_, hexec.trans (done_eq_next hrest (by decide)), (hflag _).trans hlink, (hflag _).trans hchg, (hflag _).trans hlf,
      (hflag _).trans hrf, State.onlyRegs_trans hregs (hport.onlyRegs (by simp) _),
      State.onlyPort_trans (hflags.onlyPort (by simp) p) (u.onlyPort_setPort p x), hrest⟩

end Sys2Proof.Machine
end

section
/-! PROOF. Port control (R38, R39, R61, R318, R320, R324): MODE writes, ENABLE bits, time-stamp queues. -/

namespace Sys2Proof.Machine

/-! ### Gates of a port -/

theorem State.gate_of_tm {s t : State} (h : t.tm = s.tm) (q : Nat) : t.gate q = s.gate q := by
  rw [State.gate, State.gate, h]

theorem State.gate_setGate (s : State) (p q : Nat) (g : GateSt) : (s.setGate p g).gate q = if q = p then g else s.gate q := by
  have htm : (s.setGate p g).tm = { s.tm with gates := Tbl.set GateSt.init s.tm.gates p g } := by
    unfold State.setGate
    simp only [State.setFld_tm]
  rw [State.gate, htm]
  exact Tbl.get_set _ _ _ _ _

theorem State.showGate_tm (s : State) (p : Nat) : (s.showGate p).tm = s.tm := by
  unfold State.showGate
  simp only [State.setFld_tm]

/-- A disabled port has neither list; another port's gates stand (R324). -/
theorem State.gate_gateDisable (s : State) (p q : Nat) :
    (s.gateDisable p).gate q = if q = p then { active := none, pending := none, bank := (s.gate p).bank } else s.gate q :=
  (State.gate_of_tm (State.showGate_tm _ p) q).trans (s.gate_setGate p q _)

/-- Neither an active nor a pending list. -/
def GateSt.dropped (g : GateSt) : Prop := g.active = none ∧ g.pending = none

theorem State.gateDisable_drops (s : State) (p : Nat) : ((s.gateDisable p).gate p).dropped := by
  rw [State.gate_gateDisable, if_pos rfl]
  exact ⟨rfl, rfl⟩

theorem State.gateDisable_keeps_dropped {s : State} {q : Nat} (h : (s.gate q).dropped) (p : Nat) :
    ((s.gateDisable p).gate q).dropped := by
  rw [State.gate_gateDisable]
  split
  · exact ⟨rfl, rfl⟩
  · exact h

/-! ### Links that stop -/

theorem State.credit_stopLink_zero {s : State} {j : Nat} (h : s.credit j = 0) (k : Nat) : (s.stopLink k).credit j = 0 := by
  by_cases hjk : j = k
  · rw [hjk]; exact s.credit_stopLink k
  · have hlink : (s.stopLink k).link j = s.link j := (s.link_setLink k j _).trans (if_neg hjk)
    rw [State.credit, hlink]; exact h

theorem State.stopLink_rest (s : State) (k : Nat) : s.onlyParts (s.stopLink k) [.links] := s.setLink_rest k _

theorem State.resizeEgress_rest (s : State) (n old new : Nat) : s.onlyParts (s.resizeEgress n old new) [.links] := by
  refine forEach_onlyParts (fun k t => ?_) _ s
  dsimp only
  split
  · exact t.setLink_rest _ _
  · exact t.onlyParts_refl _

/-! ### A MODE write that is taken -/

/-- Both halves' gate lists are dropped, and with `changed` both Ingress links stop. -/
def State.remodel (s : State) (n : Nat) (changed : Bool) : State :=
  let t := (s.gateDisable (2 * n)).gateDisable (2 * n + 1)
  if changed then (t.stopLink (lnkIngress (2 * n))).stopLink (lnkIngress (2 * n + 1)) else t

/-- The state of a MODE write before the pair is looked at. -/
def State.setMode (s : State) (n m : Nat) : State :=
  ((s.setFld (Reg.PRT_CTL n) Fld.PRT_CTL_MODE m).resizeEgress n (s.mode n) m).remodel n (s.mode n != m)

theorem modeWrite_taken {n m : Nat} {s : State} (hoff : s.bothDisabled n = true)
    (hpair : m = 5 ∨ m = 6 → s.bothDisabled (pairOf n) = true) (hfit : s.shapersFit n m = true) :
    modeWrite n m s = if (s.setMode n m).modeOk n then s.setMode n m else (s.setMode n m).modeError n := by
  have hpartner : (if m = 5 ∨ m = 6 then s.bothDisabled (pairOf n) else true) = true := by
    split
    · next h => exact hpair h
    · rfl
  unfold modeWrite
  extract_lets partnerOk changed t u v
  have hok : partnerOk = true := hpartner
  exact if_neg (by simp [hoff, hfit, hok])

theorem modeWrite_refused {n m : Nat} {s : State} (h : s.bothDisabled n = false ∨ s.shapersFit n m = false) :
    modeWrite n m s = s.setFld (Reg.PRT_STATUS n) Fld.PRT_STATUS_CFG_ERR 1 := by
  refine if_pos ?_
  rcases h with h | h
  · exact .inl (by rw [h]; rfl)
  · exact .inr (.inr (by rw [h]; rfl))

theorem State.remodel_rest (s : State) (n : Nat) (changed : Bool) : s.onlyParts (s.remodel n changed) [.regs, .tm, .links] := by
  have hgates := ((s.gateDisable_movesGates (2 * n)).trans (State.gateDisable_movesGates _ (2 * n + 1))).1
  have hall := State.onlyParts_mono hgates (m := [.regs, .tm, .links]) (by simp)
  cases changed with
  | false => exact hall
  | true =>
    exact State.onlyParts_trans (State.onlyParts_trans hall (State.onlyParts_mono (State.stopLink_rest _ _) (by simp)))
      (State.onlyParts_mono (State.stopLink_rest _ _) (by simp))

theorem State.remodel_reg (s : State) (n : Nat) (changed : Bool) {a : Nat} (h : a < Reg.TMG_SCH_CNT 0 0) :
    (s.remodel n changed).reg a = s.reg a := by
  have hgates := ((s.gateDisable_movesGates (2 * n)).trans (State.gateDisable_movesGates _ (2 * n + 1))).2 a h
  unfold State.remodel
  generalize (s.gateDisable (2 * n)).gateDisable (2 * n + 1) = t at hgates
  cases changed with
  | false => exact hgates
  | true => exact ((t.stopLink _).reg_stopLink _ a).trans ((t.reg_stopLink _ a).trans hgates)

theorem State.remodel_gate (s : State) (n : Nat) (changed : Bool) (h : Fin 2) :
    ((s.remodel n changed).gate (2 * n + h.val)).dropped := by
  have hgates : (((s.gateDisable (2 * n)).gateDisable (2 * n + 1)).gate (2 * n + h.val)).dropped := by
    obtain hh | hh : h.val = 0 ∨ h.val = 1 := by omega
    · rw [hh]; exact State.gateDisable_keeps_dropped (s.gateDisable_drops _) _
    · rw [hh]; exact State.gateDisable_drops _ _
  unfold State.remodel
  generalize (s.gateDisable (2 * n)).gateDisable (2 * n + 1) = t at hgates
  cases changed with
  | false => exact hgates
  | true =>
    simp only [if_true]
    rwa [State.gate_of_tm (State.stopLink_tm _ _), State.gate_of_tm (State.stopLink_tm _ _)]

theorem State.remodel_credit (s : State) (n : Nat) (h : Fin 2) :
    (s.remodel n true).credit (lnkIngress (2 * n + h.val)) = 0 := by
  obtain hh | hh : h.val = 0 ∨ h.val = 1 := by omega
  · rw [hh]; exact State.credit_stopLink_zero (State.credit_stopLink _ _) _
  · rw [hh]; exact State.credit_stopLink _ _

theorem State.setMode_rest (s : State) (n m : Nat) : s.onlyParts (s.setMode n m) [.regs, .tm, .links] :=
  State.onlyParts_trans (State.onlyParts_trans (State.onlyParts_mono (s.setFld_rest _ _ _) (by simp))
    (State.onlyParts_mono (State.resizeEgress_rest _ _ _ _) (by simp))) (State.remodel_rest _ _ _)

theorem prtCtl_low {n : Nat} (h : n < 256) : Reg.PRT_CTL n < Reg.TMG_SCH_CNT 0 0 := by
  simp only [Reg.PRT_CTL, Reg.TMG_SCH_CNT]; omega

theorem State.setMode_mode (s : State) {n m : Nat} (hn : n < 256) (hm : m < 8) : (s.setMode n m).mode n = m := by
  have hreg : (s.setMode n m).reg (Reg.PRT_CTL n) = (s.setFld (Reg.PRT_CTL n) Fld.PRT_CTL_MODE m).reg (Reg.PRT_CTL n) :=
    (State.remodel_reg _ _ _ (prtCtl_low hn)).trans ((State.resizeEgress_rest _ _ _ _).reg_eq (by simp) _)
  rw [State.mode, State.fld_of_reg hreg, State.fld_setFld_fits _ _ (by decide) (by exact hm)]

theorem State.setMode_credit {s : State} {n m : Nat} (hchange : s.mode n ≠ m) (h : Fin 2) :
    (s.setMode n m).credit (lnkIngress (2 * n + h.val)) = 0 := by
  have hchanged : (s.mode n != m) = true := by simpa using hchange
  rw [State.setMode, hchanged]
  exact State.remodel_credit _ _ _

/-! ### A pair whose modes do not fit -/

theorem State.mode_of_ctl {s t : State} {n : Nat} (h : t.reg (Reg.PRT_CTL n) = s.reg (Reg.PRT_CTL n)) : t.mode n = s.mode n :=
  State.fld_of_reg h _

theorem State.modeOk_of_ctl {s t : State} {n : Nat} (hn : n < 256)
    (h : ∀ k < 256, t.reg (Reg.PRT_CTL k) = s.reg (Reg.PRT_CTL k)) : t.modeOk n = s.modeOk n := by
  rw [State.modeOk, State.modeOk, State.mode_of_ctl (h _ (by omega)), State.mode_of_ctl (h _ (by omega))]

/-- `t` is `s` after links fell: no PRT.CTL register and no credit moved. -/
structure State.LinksFell (s t : State) : Prop where
  ctl : ∀ k < 256, t.reg (Reg.PRT_CTL k) = s.reg (Reg.PRT_CTL k)
  credit : ∀ k, t.credit k = s.credit k
  rest : s.onlyParts t [.regs, .ports, .links, .buf]

theorem State.LinksFell.refl (s : State) : s.LinksFell s := ⟨fun _ _ => rfl, fun _ => rfl, s.onlyParts_refl _⟩

theorem State.LinksFell.trans {s t u : State} (a : s.LinksFell t) (b : t.LinksFell u) : s.LinksFell u :=
  ⟨fun k hk => (b.ctl k hk).trans (a.ctl k hk), fun k => (b.credit k).trans (a.credit k), State.onlyParts_trans a.rest b.rest⟩

theorem State.dropLink_linksFell (s : State) (p : Nat) : s.LinksFell (s.dropLink p) := by
  have hcut := s.dropLink_cutsOff p
  refine ⟨fun k hk => hcut.regs _ (by simp only [Reg.PRT_CTL, Reg.BUF_STATUS]; omega) ?_, hcut.credit, hcut.rest⟩
  have hstatus : Reg.PRT_CTL k ≠ Reg.PRT_STATUS (p / 2) := by simp only [Reg.PRT_CTL, Reg.PRT_STATUS]; omega
  simp only [linkDownRegs, List.mem_cons, List.not_mem_nil, or_false, not_or]
  exact ⟨hstatus, prtCtl_ne_cntPort k p (by decide), prtCtl_ne_cntPort k p (by decide)⟩

theorem State.setStatus_linksFell (s : State) (n : Nat) (f : Fld) (x : Nat) : s.LinksFell (s.setFld (Reg.PRT_STATUS n) f x) := by
  have hrest := s.setFld_rest (Reg.PRT_STATUS n) f x
  refine ⟨fun k _ => (s.reg_setFld _ _ _ _).trans (if_neg ?_), hrest.credit_eq (by simp), State.onlyParts_mono hrest (by simp)⟩
  simp only [Reg.PRT_CTL, Reg.PRT_STATUS]; omega

theorem forEach_dropLink_linksFell (l : List Nat) (s : State) : s.LinksFell (forEach l (fun p t => t.dropLink p) s) :=
  forEach_induct (fun t => s.LinksFell t) l _ s (.refl s)
    fun p t _ ht => ht.trans (t.dropLink_linksFell p)

theorem State.modeError_linksFell (s : State) (n : Nat) : s.LinksFell (s.modeError n) :=
  ((forEach_dropLink_linksFell _ s).trans (State.setStatus_linksFell _ _ _ _)).trans (State.setStatus_linksFell _ _ _ _)

/-- A link that is down stays down while others fall. -/
theorem State.linkUp_dropLink_of_down {s : State} {p : Nat} (hp : p < 512) (h : s.linkUp p = false) (q : Nat) :
    (s.dropLink q).linkUp p = false := by
  cases hq : s.linkUp q with
  | false => rw [State.dropLink_down hq, h]
  | true =>
    by_cases hsame : p / 2 = q / 2
    · rw [State.linkUp_eq, hsame, State.dropLink_flag hq (by omega) (fldLink_oneBit _), ← hsame, ← State.linkUp_eq, h,
        if_neg (by rw [fldLink_eq, fldLinkChg_eq]; dsimp only; omega), ite_self]
    · have hreg : Reg.PRT_STATUS (p / 2) ∉ linkDownRegs q := by
        have hstatus : Reg.PRT_STATUS (p / 2) ≠ Reg.PRT_STATUS (q / 2) := by simp only [Reg.PRT_STATUS]; omega
        simp only [linkDownRegs, List.mem_cons, List.not_mem_nil, or_false, not_or]
        exact ⟨hstatus, prtStatus_ne_cntPort _ q (by decide), prtStatus_ne_cntPort _ q (by decide)⟩
      rw [State.linkUp_eq, State.flag_of_reg ((s.dropLink_cutsOff q).regs _ (prtStatus_low (by omega)) hreg), ← State.linkUp_eq, h]

theorem linkUp_forEach_dropLink {l : List Nat} {p : Nat} (hp : p < 512) (h : p ∈ l) (s : State) :
    (forEach l (fun q t => t.dropLink q) s).linkUp p = false := by
  induction l generalizing s with
  | nil => exact absurd h (by simp)
  | cons q r ih =>
    rcases List.mem_cons.1 h with rfl | h
    · exact forEach_induct (fun t : State => t.linkUp p = false) r _ _ (s.linkUp_dropLink hp) fun q t _ ht =>
        State.linkUp_dropLink_of_down hp ht q
    · exact ih h _

/-- A flag written in one PRT.STATUS leaves every other flag, there and in every other PRT.STATUS. -/
theorem State.flag_setStatus_apart (s : State) (n m : Nat) {f g : Fld} (x : Nat) (h : f.apart g) :
    (s.setFld (Reg.PRT_STATUS n) f x).flag (Reg.PRT_STATUS m) g = s.flag (Reg.PRT_STATUS m) g := by
  by_cases hsame : Reg.PRT_STATUS m = Reg.PRT_STATUS n
  · rw [hsame, State.flag_setFld_apart _ _ _ _ _ h]
  · exact State.flag_of_reg ((s.reg_setFld _ _ _ _).trans (if_neg hsame)) g

theorem modeErr_oneBit : Fld.PRT_STATUS_MODE_ERR.oneBit := by unfold Fld.oneBit; decide

theorem State.linkUp_setModeErr (s : State) (n p : Nat) :
    (s.setFld (Reg.PRT_STATUS n) Fld.PRT_STATUS_MODE_ERR 1).linkUp p = s.linkUp p := by
  rw [State.linkUp_eq, State.linkUp_eq]
  refine s.flag_setStatus_apart n (p / 2) 1 (modeErr_oneBit.apart (fldLink_oneBit (p % 2)) ?_)
  have hlo : Fld.PRT_STATUS_MODE_ERR.lo = 9 := rfl
  rw [hlo, (statusFlags_lo (p % 2)).1]
  omega

theorem State.modeError_linkUp (s : State) {n p : Nat} (hp : p < 512) (h : p ∈ [2 * n, 2 * n + 1, 2 * pairOf n, 2 * pairOf n + 1]) :
    (s.modeError n).linkUp p = false := by
  unfold State.modeError
  rw [State.linkUp_setModeErr, State.linkUp_setModeErr]
  exact linkUp_forEach_dropLink hp h s

/-- MODE_ERR shows in both members of the pair. -/
theorem State.modeError_flag (s : State) (n : Nat) {m : Nat} (h : m = n ∨ m = pairOf n) :
    (s.modeError n).flag (Reg.PRT_STATUS m) Fld.PRT_STATUS_MODE_ERR = true := by
  unfold State.modeError
  extract_lets q t
  rcases h with rfl | rfl
  · have hpair : Reg.PRT_STATUS m ≠ Reg.PRT_STATUS q := by
      have hq : q ≠ m := by simp only [q, pairOf]; split <;> omega
      simp only [Reg.PRT_STATUS]; omega
    rw [State.flag_of_reg ((State.reg_setFld _ _ _ _ _).trans (if_neg hpair))]
    exact t.flag_setFld_one _ modeErr_oneBit
  · exact State.flag_setFld_one _ _ modeErr_oneBit

/-! ### ENABLE bits -/

theorem fldEnable_oneBit (h : Nat) : (fldEnable h).oneBit := by
  unfold fldEnable
  split <;> (unfold Fld.oneBit; decide)

/-- A port whose ENABLE bit is 0 is not enabled (R39). -/
theorem State.portEnabled_of_bit {s : State} {p : Nat} (h : s.enableBit p = false) : s.portEnabled p = false := by
  simp [State.portEnabled, h]

/-- A MODE write that is taken sets MODE, the gates and Ingress links, and at most lets links fall after that. -/
theorem modeWrite_linksFell {s : State} {n m : Nat} (hn : n < 256) (hoff : s.bothDisabled n = true)
    (hpair : m = 5 ∨ m = 6 → s.bothDisabled (pairOf n) = true) (hfit : s.shapersFit n m = true) :
    (modeWrite n m s).modeOk n = (s.setMode n m).modeOk n ∧ (s.setMode n m).LinksFell (modeWrite n m s) := by
  rw [modeWrite_taken hoff hpair hfit]
  split
  · exact ⟨rfl, .refl _⟩
  · have hfell := (s.setMode n m).modeError_linksFell n
    exact ⟨State.modeOk_of_ctl hn hfell.ctl, hfell⟩

/-- Settles O11: a MODE write is followed through the two halves' gates and links, and through the links that fall. -/
theorem portControl : Obligations.PortControl := by
  refine ⟨fun s n m hoff hpair hfit => ?_, fun s n m hbad => ?_, fun s p => ?_, fun s p => ?_,
    fun s p => done_setPort _ _ _, fun s p => done_setPort _ _ _⟩
  · have hset := s.setMode_rest n m
    obtain ⟨hok, hfell⟩ := modeWrite_linksFell n.isLt hoff hpair hfit
    have htaken := modeWrite_taken hoff hpair hfit
    have hrest := State.onlyParts_trans (State.onlyParts_mono hset (m := [.regs, .tm, .links, .ports, .buf]) (by simp))
      (State.onlyParts_mono hfell.rest (by simp))
    have hgate (h : Fin 2) : ((modeWrite n m s).gate (2 * n + h)).dropped := by
      rw [State.gate_of_tm (hfell.rest.2 .tm (by simp))]
      exact State.remodel_gate _ _ _ h
    refine ⟨_, done_eq_next hrest (by decide), (State.mode_of_ctl (hfell.ctl n n.isLt)).trans (s.setMode_mode n.isLt m.isLt),
      hgate, fun hchange h => (hfell.credit _).trans (State.setMode_credit hchange h), fun h => ?_, fun h => ?_, hrest⟩
    · rw [htaken, if_pos (hok ▸ h)]
      exact hset
    · have herr : modeWrite n m s = (s.setMode n m).modeError n := by rw [htaken, if_neg (by simp [← hok, h])]
      have hq : pairOf n < 256 := by unfold pairOf; split <;> omega
      rw [herr]
      refine ⟨State.modeError_flag _ _ (.inl rfl), State.modeError_flag _ _ (.inr rfl), fun h =>
        ⟨State.modeError_linkUp _ (by omega) ?_, State.modeError_linkUp _ (by omega) ?_⟩⟩
      all_goals
        simp only [List.mem_cons, List.not_mem_nil, or_false]
        omega
  · have hrest := s.setFld_rest (Reg.PRT_STATUS n) Fld.PRT_STATUS_CFG_ERR 1
    exact ⟨_, (congrArg (done s) (modeWrite_refused hbad)).trans (done_eq_next hrest (by decide)),
      s.flag_setFld_one _ (by unfold Fld.oneBit; decide), s.onlyRegs_setFld _ _ _, hrest⟩
  · have hrest := s.setFld_rest (Reg.PRT_CTL (p / 2)) (fldEnable (p % 2)) 0
    have hbit := s.flag_setFld_zero (Reg.PRT_CTL (p / 2)) (fldEnable_oneBit (p % 2))
    exact ⟨_, done_eq_next hrest (by decide), hbit, State.portEnabled_of_bit hbit, s.onlyRegs_setFld _ _ _, hrest⟩
  · have hrest := s.setFld_rest (Reg.PRT_CTL (p / 2)) (fldEnable (p % 2)) 1
    have hport := hrest.port_eq (by simp) p
    exact ⟨_, done_eq_next hrest (by decide), s.flag_setFld_one _ (fldEnable_oneBit _), congrArg PortSt.egr hport,
      congrArg PortSt.fifo hport, s.onlyRegs_setFld _ _ _, hrest.onlyPort (by simp) p, State.onlyParts_mono hrest (by simp)⟩

end Sys2Proof.Machine
end

section
/-! PROOF. The MAC tables' state (R82, R83): what reads and writes of entries and of the slices' tables leave. -/

namespace Sys2Proof.Machine

/-! ### Registers -/

theorem macCtl_ne_macCnt (p q : Nat) {c : Nat} (hc : c < 16) : Reg.SLC_MAC_CTL (4 * p) ≠ Reg.SLC_MAC_CNT (4 * q) c := by
  simp only [Reg.SLC_MAC_CTL, Reg.SLC_MAC_CNT]; omega

theorem macAge_ne_macCnt (p q : Nat) {c : Nat} (hc : c < 16) : Reg.SLC_MAC_AGE (4 * p) ≠ Reg.SLC_MAC_CNT (4 * q) c := by
  simp only [Reg.SLC_MAC_AGE, Reg.SLC_MAC_CNT]; omega

theorem State.macBump_rest (s : State) (q c : Nat) : s.onlyParts (s.macBump q c) [.regs] := s.bump_rest _

theorem State.macBump_regs (s : State) (q c : Nat) : s.onlyRegs (s.macBump q c) [Reg.SLC_MAC_CNT (4 * q) c] := s.onlyRegs_bump _

theorem State.reg_macBump_self (s : State) (q c : Nat) :
    (s.macBump q c).reg (Reg.SLC_MAC_CNT (4 * q) c) = s.reg (Reg.SLC_MAC_CNT (4 * q) c) + 1 :=
  (s.reg_bump _ _).trans (if_pos rfl)

/-! ### Answers -/

/-- A command whose effect, told as `t`, spares the time-of-day unit and the queue answers `t`. -/
theorem done_eq_next_of_eq {s t u : State} {l : List Part} (hu : u = t) (h : s.onlyParts t l) (hl : Part.clk ∉ l) :
    done s u = .next t :=
  (congrArg (done s) hu).trans (done_eq_next h hl)

/-! ### Tables of the slices -/

theorem State.setSlice_only (s : State) (x : SliceSt) : s.onlyParts { s with slice := x } [.slice] :=
  ⟨rfl, fun p hp => by cases p <;> first | rfl | simp at hp⟩

theorem State.setMac_rest (s : State) (q i : Nat) (e : MacEntry) : s.onlyParts (s.setMac q i e) [.slice] := s.setSlice_only _

@[simp] theorem State.mac_setMac (s : State) (q i j : Nat) (e : MacEntry) :
    (s.setMac q i e).mac q j = if j = i then e else s.mac q j := by
  have hkey : macKey q j = macKey q i ↔ j = i := Nat.add_left_cancel_iff
  simp only [State.mac, State.setMac, Tbl.get_set, hkey]

@[simp] theorem State.mac_macBump (s : State) (q c p j : Nat) : (s.macBump q c).mac p j = s.mac p j := rfl

theorem State.mac_of_macs {s t : State} (h : t.slice.macs = s.slice.macs) (q j : Nat) : t.mac q j = s.mac q j :=
  congrArg (fun m => Tbl.get MacEntry.init m (macKey q j)) h

/-- Quadrant `q`'s learner queue becomes `l`. -/
def State.setLearners (s : State) (q : Nat) (l : List LearnEvent) : State :=
  { s with slice := { s.slice with learners := Tbl.set [] s.slice.learners q l } }

theorem State.setLearners_rest (s : State) (q : Nat) (l : List LearnEvent) : s.onlyParts (s.setLearners q l) [.slice] :=
  s.setSlice_only _

@[simp] theorem State.learners_setLearners (s : State) (q p : Nat) (l : List LearnEvent) :
    Tbl.get [] (s.setLearners q l).slice.learners p = if p = q then l else Tbl.get [] s.slice.learners p :=
  Tbl.get_set _ _ _ _ _

end Sys2Proof.Machine
end

section
/-! PROOF. The learn bus and the learners (R84, R85). -/

namespace Sys2Proof.Machine

/-! ### An event on the bus -/

/-- `t` is `s` but for the learner queues and for registers other than the quadrants' LEARN_EN. -/
def State.fillsLearners (s t : State) : Prop :=
  t.slice = { s.slice with learners := t.slice.learners } ∧ (∀ q, t.learnEn q = s.learnEn q) ∧ s.onlyParts t [.regs, .slice]

theorem State.fillsLearners.refl (s : State) : s.fillsLearners s := ⟨rfl, fun _ => rfl, s.onlyParts_refl _⟩

theorem State.fillsLearners.trans {s t u : State} (a : s.fillsLearners t) (b : t.fillsLearners u) : s.fillsLearners u := by
  obtain ⟨aslice, aen, aparts⟩ := a
  obtain ⟨bslice, ben, bparts⟩ := b
  exact ⟨bslice.trans (by rw [aslice]), fun q => (ben q).trans (aen q), State.onlyParts_trans aparts bparts⟩

/-- What an event does at a quadrant (R84): it joins the queue, is dropped and counted, or is discarded. -/
theorem State.toLearner_cases (s : State) (q : Nat) (e : LearnEvent) :
    (s.learnEn q = true ∧ (Tbl.get [] s.slice.learners q).length < 1024
      ∧ s.toLearner q e = s.setLearners q (Tbl.get [] s.slice.learners q ++ [e]))
    ∨ (1024 ≤ (Tbl.get [] s.slice.learners q).length ∧ s.toLearner q e = s.macBump q Cnt.MAC_LEARN_DROP)
    ∨ (s.learnEn q = false ∧ s.toLearner q e = s) := by
  unfold State.toLearner
  dsimp only
  split
  · next h => exact .inr (.inr ⟨by simpa using h, rfl⟩)
  · next h =>
    split
    · next hfull => exact .inr (.inl ⟨hfull, rfl⟩)
    · next hroom => exact .inl ⟨by simpa using h, by omega, rfl⟩

theorem State.toLearner_fillsLearners (s : State) (q : Nat) (e : LearnEvent) : s.fillsLearners (s.toLearner q e) := by
  obtain ⟨-, -, h⟩ | ⟨-, h⟩ | ⟨-, h⟩ := s.toLearner_cases q e <;> rw [h]
  · exact ⟨rfl, fun _ => rfl, s.setSlice_rest _⟩
  · exact ⟨rfl, fun p => State.flag_of_reg (s.macBump_regs _ _ _ (by simpa using macCtl_ne_macCnt p q (by decide))) _,
      State.onlyParts_mono (s.macBump_rest _ _) (by simp)⟩
  · exact .refl s

/-- A quadrant's learner queue after an event reached it (R84). -/
def State.learnerQueue (s : State) (q : Nat) (e : LearnEvent) : List LearnEvent :=
  if s.learnEn q = true ∧ (Tbl.get [] s.slice.learners q).length < 1024 then Tbl.get [] s.slice.learners q ++ [e]
  else Tbl.get [] s.slice.learners q

theorem State.toLearner_queue (s : State) (q p : Nat) (e : LearnEvent) :
    Tbl.get [] (s.toLearner q e).slice.learners p = if p = q then s.learnerQueue q e else Tbl.get [] s.slice.learners p := by
  unfold State.learnerQueue
  obtain ⟨hen, hroom, h⟩ | ⟨hfull, h⟩ | ⟨hoff, h⟩ := s.toLearner_cases q e <;> rw [h]
  · rw [if_pos (c := _ ∧ _) ⟨hen, hroom⟩, State.learners_setLearners]
  · rw [if_neg (c := _ ∧ _) (by omega)]
    split
    · next hp => rw [hp]; rfl
    · rfl
  · rw [if_neg (c := _ ∧ _) (by simp [hoff])]
    split
    · next hp => rw [hp]
    · rfl

/-- The event at the quadrants 0 to `n - 1`, one after another. -/
def State.toLearners (s : State) (n : Nat) (e : LearnEvent) : State := forUpTo n (fun q t => t.toLearner q e) s

theorem State.toLearners_succ (s : State) (n : Nat) (e : LearnEvent) : s.toLearners (n + 1) e = (s.toLearners n e).toLearner n e := rfl

theorem State.toLearners_fillsLearners (s : State) (n : Nat) (e : LearnEvent) : s.fillsLearners (s.toLearners n e) :=
  forUpTo_induct (fun t => s.fillsLearners t) n _ s (.refl s) fun q t _ h => h.trans (t.toLearner_fillsLearners q e)

/-- Each of those quadrants queued the event as if it alone had received it. -/
theorem State.toLearners_queue (s : State) (n : Nat) (e : LearnEvent) (q : Nat) :
    Tbl.get [] (s.toLearners n e).slice.learners q =
      if q < n then s.learnerQueue q e else Tbl.get [] s.slice.learners q := by
  induction n with
  | zero => rfl
  | succ n ih =>
    rw [State.toLearners_succ, State.toLearner_queue]
    by_cases hq : q = n
    · subst hq
      rw [if_neg (Nat.lt_irrefl q)] at ih
      rw [if_pos rfl, if_pos (Nat.lt_succ_self q), State.learnerQueue, State.learnerQueue, ih,
        (s.toLearners_fillsLearners q e).2.1 q]
    · rw [if_neg hq, ih]
      simp only [Nat.lt_succ_iff_lt_or_eq, hq, or_false]

/-- Slice `i` was served: its learn FIFO holds `r`. -/
def State.serveLearn (s : State) (i : Nat) (r : List LearnEvent) : State :=
  { s with slice := { s.slice with learn := Tbl.set [] s.slice.learn i r, lastSlice := i } }

theorem learnBusTransfer_serves {s : State} {i : Nat} {e : LearnEvent} {r : List LearnEvent} (hnext : s.nextLearner = some i)
    (hfifo : Tbl.get [] s.slice.learn i = e :: r) : learnBusTransfer s = (s.serveLearn i r).toLearners 4 e := by
  simp only [learnBusTransfer, hnext, hfifo]
  rfl

theorem exec_learnBusTransfer {s : State} {i : Nat} {e : LearnEvent} {r : List LearnEvent} (hnext : s.nextLearner = some i)
    (hfifo : Tbl.get [] s.slice.learn i = e :: r) :
    ∃ t, exec .learnBusTransfer s = .next t ∧ Tbl.get [] t.slice.learn i = r ∧ t.slice.lastSlice = i
      ∧ (∀ q < 4, Tbl.get [] t.slice.learners q = s.learnerQueue q e)
      ∧ t.slice.macs = s.slice.macs ∧ s.onlyParts t [.regs, .slice] := by
  obtain ⟨hslice, -, hparts⟩ := (s.serveLearn i r).toLearners_fillsLearners 4 e
  have hrest := State.onlyParts_trans (s.setSlice_rest _) hparts
  refine ⟨_, done_eq_next_of_eq (learnBusTransfer_serves hnext hfifo) hrest (by decide), ?_, ?_,
    fun q hq => (State.toLearners_queue _ _ _ _).trans (if_pos hq), ?_, hrest⟩
  · rw [hslice]
    exact (Tbl.get_set _ _ _ _ _).trans (if_pos rfl)
  · rw [hslice]
    rfl
  · rw [hslice]
    rfl

/-! ### A learner -/

theorem learnerApply_takes {s : State} {q : Nat} {v : LearnEvent} {r : List LearnEvent}
    (hqueue : Tbl.get [] s.slice.learners q = v :: r) : learnerApply q s = (s.setLearners q r).learn q v := by
  simp only [learnerApply, hqueue]
  rfl

/-- Step 2 of R85, the address known at its port. -/
theorem State.learn_refreshes {s : State} {q i : Nat} {v : LearnEvent} (hfind : s.macFind q v.bd v.mac = some i)
    (hport : (s.mac q i).port = v.port) : s.learn q v = s.setMac q i ((s.mac q i).refresh v.ct) := by
  simp only [State.learn, hfind, if_pos hport]

/-- The lowest way of bucket `b` that satisfies `p`. -/
theorem find?_ways {p : Nat → Bool} {b w : Nat} (hw : w < 8) (hp : p (8 * b + w) = true)
    (hlow : ∀ k < w, p (8 * b + k) = false) : ((List.range 8).map (fun w => 8 * b + w)).find? p = some (8 * b + w) := by
  have hrange : (List.range 8).find? (p ∘ fun w => 8 * b + w) = some w :=
    List.find?_range_eq_some.2 ⟨hp, List.mem_range.2 hw, fun k hk => by simp [hlow k hk]⟩
  rw [List.find?_map, hrange]
  rfl

/-- The entry that a learner writes for a new address (R85). -/
def LearnEvent.entry (v : LearnEvent) : MacEntry :=
  { MacEntry.init with mac := v.mac, bd := v.bd, valid := true, port := v.port, lastSeen := v.ct, hit := true }

theorem State.learn_enters {s : State} {q w : Nat} {v : LearnEvent} (hfind : s.macFind q v.bd v.mac = none) (hw : w < 8)
    (hfree : (s.mac q (8 * s.macBucket q v.bd v.mac + w)).valid = false)
    (hlow : ∀ k < w, (s.mac q (8 * s.macBucket q v.bd v.mac + k)).valid = true) :
    s.learn q v = (s.setMac q (8 * s.macBucket q v.bd v.mac + w) v.entry).macBump q Cnt.MAC_LEARN_NEW := by
  have hway := find?_ways (p := fun i => !(s.mac q i).valid) (b := s.macBucket q v.bd v.mac) hw (by simp [hfree])
    (fun k hk => by simp [hlow k hk])
  simp only [State.learn, hfind, hway]
  rfl

section
variable {s : State} {q : Fin 4} {v : LearnEvent} {r : List LearnEvent}

theorem exec_learnerApply_refreshes {i : Nat} (hqueue : Tbl.get [] s.slice.learners q.val = v :: r)
    (hfind : s.macFind q.val v.bd v.mac = some i) (hport : (s.mac q.val i).port = v.port) :
    ∃ t, exec (.learnerApply q) s = .next t ∧ Tbl.get [] t.slice.learners q.val = r
      ∧ t.mac q.val i = (s.mac q.val i).refresh v.ct ∧ (∀ j, j ≠ i → t.mac q.val j = s.mac q.val j) ∧ s.onlyParts t [.slice] := by
  have hlearn : learnerApply q.val s = (s.setLearners q.val r).setMac q.val i ((s.mac q.val i).refresh v.ct) :=
    (learnerApply_takes hqueue).trans (State.learn_refreshes hfind hport)
  have hrest := State.onlyParts_trans (s.setLearners_rest q.val r)
    (State.setMac_rest _ q.val i ((s.mac q.val i).refresh v.ct))
  exact ⟨_, done_eq_next_of_eq hlearn hrest (by decide),
    (s.learners_setLearners q.val q.val r).trans (if_pos rfl), (State.mac_setMac _ _ _ _ _).trans (if_pos rfl),
    fun j hj => (State.mac_setMac _ _ _ _ _).trans (if_neg hj), hrest⟩

theorem exec_learnerApply_enters {w : Nat} (hqueue : Tbl.get [] s.slice.learners q.val = v :: r)
    (hfind : s.macFind q.val v.bd v.mac = none) (hw : w < 8)
    (hfree : (s.mac q.val (8 * s.macBucket q.val v.bd v.mac + w)).valid = false)
    (hlow : ∀ k < w, (s.mac q.val (8 * s.macBucket q.val v.bd v.mac + k)).valid = true) :
    ∃ t, exec (.learnerApply q) s = .next t ∧ t.mac q.val (8 * s.macBucket q.val v.bd v.mac + w) = v.entry
      ∧ t.reg (Reg.SLC_MAC_CNT (4 * q.val) Cnt.MAC_LEARN_NEW) = s.reg (Reg.SLC_MAC_CNT (4 * q.val) Cnt.MAC_LEARN_NEW) + 1
      ∧ s.onlyParts t [.regs, .slice] := by
  have hlearn : learnerApply q.val s = ((s.setLearners q.val r).setMac q.val (8 * s.macBucket q.val v.bd v.mac + w)
      v.entry).macBump q.val Cnt.MAC_LEARN_NEW :=
    (learnerApply_takes hqueue).trans (State.learn_enters hfind hw hfree hlow)
  have hwrite := State.onlyParts_trans (s.setLearners_rest q.val r)
    (State.setMac_rest _ q.val (8 * s.macBucket q.val v.bd v.mac + w) v.entry)
  have hrest := State.onlyParts_trans (State.onlyParts_mono hwrite (m := [.regs, .slice]) (by simp))
    (State.onlyParts_mono (State.macBump_rest _ q.val Cnt.MAC_LEARN_NEW) (by simp))
  exact ⟨_, done_eq_next_of_eq hlearn hrest (by decide),
    (State.mac_setMac _ _ _ _ _).trans (if_pos rfl), State.reg_macBump_self _ _ _, hrest⟩

end

end Sys2Proof.Machine
end

section
/-! PROOF. The walker (R86, R87): what one visit leaves of each entry of its bucket. -/

namespace Sys2Proof.Machine

/-! ### One entry -/

/-- A running FLUSH takes entry `e` out (R87). -/
def State.flushed (s : State) (q : Nat) (e : MacEntry) : Bool :=
  match Tbl.get none s.slice.flush q with
  | none => false
  | some f => f.hits e

theorem State.flushed_none {s : State} {q : Nat} (h : Tbl.get none s.slice.flush q = none) (e : MacEntry) : s.flushed q e = false := by
  simp only [State.flushed, h]

theorem State.flushed_static (s : State) (q : Nat) {e : MacEntry} (h : e.static_ = true) : s.flushed q e = false := by
  unfold State.flushed
  split
  · rfl
  · simp [MacFlush.hits, h]

/-- What a visit makes of entry `e`, and whether it aged out: FLUSH first, then the rules of R86. -/
def State.walked (s : State) (q : Nat) (aging : Bool) (e : MacEntry) : MacEntry × Bool :=
  if s.flushed q e = true then (MacEntry.init, false) else s.walkEntry q aging e

theorem State.walkOne_eq (s : State) (q i : Nat) (aging : Bool) : s.walkOne q i aging =
    if (s.walked q aging (s.mac q i)).2 = true then
      (s.setMac q i (s.walked q aging (s.mac q i)).1).macBump q Cnt.MAC_AGED_OUT
    else s.setMac q i (s.walked q aging (s.mac q i)).1 := by
  change (if s.flushed q (s.mac q i) = true then _ else _) = _
  unfold State.walked
  split <;> rfl

theorem State.walkEntry_static (s : State) (q : Nat) (aging : Bool) {e : MacEntry} (h : e.static_ = true) :
    s.walkEntry q aging e = (e, false) :=
  if_pos (.inr h)

/-- Neither FLUSH nor aging touches a static entry (R86, R87). -/
theorem State.walked_static (s : State) (q : Nat) (aging : Bool) {e : MacEntry} (h : e.static_ = true) :
    s.walked q aging e = (e, false) := by
  rw [State.walked, s.flushed_static q h, if_neg Bool.false_ne_true, s.walkEntry_static q aging h]

/-- With AGE_MODE 0 an entry not seen for AGE.LIMIT is taken out (R86). -/
theorem State.walkEntry_aged {s : State} {q : Nat} (aging : Bool) {e : MacEntry}
    (hmode : s.flag (Reg.SLC_MAC_CTL (4 * q)) Fld.SLC_MAC_CTL_AGE_MODE = false) (hvalid : e.valid = true)
    (hdynamic : e.static_ = false) (hage : s.fld (Reg.SLC_MAC_AGE (4 * q)) Fld.SLC_MAC_AGE_LIMIT
      ≤ (timeCt s.clk.mono + 2 ^ 32 - e.lastSeen) % 2 ^ 32) : s.walkEntry q aging e = (MacEntry.init, true) := by
  unfold State.walkEntry
  rw [if_neg (by simp [hvalid, hdynamic])]
  extract_lets t e1 e2
  have hseen : e2.lastSeen = e.lastSeen := by
    have h1 : e1.lastSeen = e.lastSeen := by unfold e1; split <;> rfl
    unfold e2
    split
    · exact h1
    · exact h1
  rw [if_neg (by simp [hmode]), if_pos (by rw [hseen]; exact hage)]

theorem State.walked_aged {s : State} {q : Nat} (aging : Bool) {e : MacEntry} (hflush : Tbl.get none s.slice.flush q = none)
    (hmode : s.flag (Reg.SLC_MAC_CTL (4 * q)) Fld.SLC_MAC_CTL_AGE_MODE = false) (hvalid : e.valid = true)
    (hdynamic : e.static_ = false) (hage : s.fld (Reg.SLC_MAC_AGE (4 * q)) Fld.SLC_MAC_AGE_LIMIT
      ≤ (timeCt s.clk.mono + 2 ^ 32 - e.lastSeen) % 2 ^ 32) : s.walked q aging e = (MacEntry.init, true) := by
  rw [State.walked, State.flushed_none hflush, if_neg Bool.false_ne_true]
  exact State.walkEntry_aged aging hmode hvalid hdynamic hage

/-! ### One bucket -/

/-- `t` is `s` but for the MAC entries and quadrant `q`'s count of entries aged out. -/
def State.walks (s t : State) (q : Nat) : Prop :=
  t.slice = { s.slice with macs := t.slice.macs } ∧ s.onlyRegs t [Reg.SLC_MAC_CNT (4 * q) Cnt.MAC_AGED_OUT]
    ∧ s.onlyParts t [.regs, .slice]

theorem State.walks.refl (s : State) (q : Nat) : s.walks s q := ⟨rfl, s.onlyRegs_refl _, s.onlyParts_refl _⟩

theorem State.walks.trans {s t u : State} {q : Nat} (a : s.walks t q) (b : t.walks u q) : s.walks u q := by
  obtain ⟨aslice, aregs, aparts⟩ := a
  obtain ⟨bslice, bregs, bparts⟩ := b
  exact ⟨bslice.trans (by rw [aslice]), State.onlyRegs_trans aregs bregs, State.onlyParts_trans aparts bparts⟩

theorem State.walkOne_walks (s : State) (q i : Nat) (aging : Bool) : s.walks (s.walkOne q i aging) q := by
  have hset (e : MacEntry) : s.walks (s.setMac q i e) q := ⟨rfl, fun _ _ => rfl, s.setSlice_rest _⟩
  rw [State.walkOne_eq]
  split
  · exact (hset _).trans ⟨rfl, State.macBump_regs _ _ _, State.onlyParts_mono (State.macBump_rest _ _ _) (by simp)⟩
  · exact hset _

theorem State.mac_walkOne (s : State) (q i j : Nat) (aging : Bool) :
    (s.walkOne q i aging).mac q j = if j = i then (s.walked q aging (s.mac q i)).1 else s.mac q j := by
  rw [State.walkOne_eq]
  split
  · rw [State.mac_macBump, State.mac_setMac]
  · exact State.mac_setMac _ _ _ _ _

/-- The rules that a visit applies are not changed by the visit. -/
theorem State.walks.walked_eq {s t : State} {q : Nat} (h : s.walks t q) (aging : Bool) (e : MacEntry) :
    t.walked q aging e = s.walked q aging e := by
  obtain ⟨hslice, hregs, hparts⟩ := h
  have hctl (f : Fld) : t.flag (Reg.SLC_MAC_CTL (4 * q)) f = s.flag (Reg.SLC_MAC_CTL (4 * q)) f :=
    State.flag_of_reg (hregs _ (by simpa using macCtl_ne_macCnt q q (by decide))) f
  have hage (f : Fld) : t.fld (Reg.SLC_MAC_AGE (4 * q)) f = s.fld (Reg.SLC_MAC_AGE (4 * q)) f :=
    State.fld_of_reg (hregs _ (by simpa using macAge_ne_macCnt q q (by decide))) f
  have hflush : t.slice.flush = s.slice.flush := by rw [hslice]
  simp only [State.walked, State.flushed, State.walkEntry, hctl, hage, hflush, hparts.clk_eq (by decide)]

/-- The first `n` ways of bucket `b` visited. -/
def State.walkWays (s : State) (q b n : Nat) (aging : Bool) : State := forUpTo n (fun w t => t.walkOne q (8 * b + w) aging) s

theorem State.walkWays_succ (s : State) (q b n : Nat) (aging : Bool) :
    s.walkWays q b (n + 1) aging = (s.walkWays q b n aging).walkOne q (8 * b + n) aging := rfl

theorem State.walkWays_walks (s : State) (q b n : Nat) (aging : Bool) : s.walks (s.walkWays q b n aging) q :=
  forUpTo_induct (fun t => s.walks t q) n _ s (.refl s q) fun w t _ h => h.trans (t.walkOne_walks q (8 * b + w) aging)

/-- Each way visited holds what the rules made of its entry, every other index what it held. -/
theorem State.mac_walkWays (s : State) (q b n j : Nat) (aging : Bool) : (s.walkWays q b n aging).mac q j =
    if 8 * b ≤ j ∧ j < 8 * b + n then (s.walked q aging (s.mac q j)).1 else s.mac q j := by
  induction n with
  | zero => rw [if_neg (by omega)]; rfl
  | succ n ih =>
    rw [State.walkWays_succ, State.mac_walkOne]
    by_cases hj : j = 8 * b + n
    · rw [← hj, if_pos rfl, if_pos (by omega), ih, if_neg (by omega), (s.walkWays_walks q b n aging).walked_eq]
    · rw [if_neg hj, ih]
      simp only [show (8 * b ≤ j ∧ j < 8 * b + n) ↔ (8 * b ≤ j ∧ j < 8 * b + (n + 1)) by omega]

/-! ### A visit -/

/-- In sweeper mode SWEEP_PERIOD_MS has passed since the last aging pass began (R86). -/
def State.agingDue (s : State) (q : Nat) : Bool :=
  s.flag (Reg.SLC_MAC_CTL (4 * q)) Fld.SLC_MAC_CTL_AGE_MODE &&
    decide (msTicks (s.fld (Reg.SLC_MAC_AGE (4 * q)) Fld.SLC_MAC_AGE_SWEEP_PERIOD_MS) ≤ s.clk.mono - Tbl.get 0 s.slice.lastAging q)

/-- The pass under way ages entries: decided at bucket 0 (R86). -/
def State.agingPass (s : State) (q : Nat) : Bool :=
  if Tbl.get 0 s.slice.walker q = 0 then s.agingDue q else Tbl.get false s.slice.aging q

/-- The walker moves to the next bucket. -/
def State.walkNext (s : State) (q : Nat) : State :=
  { s with slice := { s.slice with
    aging := Tbl.set false s.slice.aging q (s.agingPass q)
    lastAging := if Tbl.get 0 s.slice.walker q = 0 ∧ s.agingDue q then Tbl.set 0 s.slice.lastAging q s.clk.mono
      else s.slice.lastAging
    walker := Tbl.set 0 s.slice.walker q ((Tbl.get 0 s.slice.walker q + 1) % 65536) } }

/-- Bucket 65,535 ends a pass. -/
def State.walkPass (s : State) (q b : Nat) : State :=
  if b = 65535 then
    s.setFld (Reg.SLC_MAC_PASS (4 * q)) Fld.SLC_MAC_PASS_PASSES (s.fld (Reg.SLC_MAC_PASS (4 * q)) Fld.SLC_MAC_PASS_PASSES + 1)
  else s

/-- A running FLUSH has one bucket less to visit (R87). -/
def State.walkFlush (s : State) (q : Nat) : State :=
  match Tbl.get none s.slice.flush q with
  | none => s
  | some f =>
    if f.left ≤ 1 then
      State.setFld { s with slice := { s.slice with flush := Tbl.set none s.slice.flush q none } }
        (Reg.SLC_MAC_CMD (4 * q)) Fld.SLC_MAC_CMD_BUSY 0
    else { s with slice := { s.slice with flush := Tbl.set none s.slice.flush q (some { f with left := f.left - 1 }) } }

theorem State.walkPass_slice (s : State) (q b : Nat) : (s.walkPass q b).slice = s.slice := by
  unfold State.walkPass
  split <;> rfl

theorem State.walkPass_rest (s : State) (q b : Nat) : s.onlyParts (s.walkPass q b) [.regs, .slice] := by
  unfold State.walkPass
  split
  · exact State.onlyParts_mono (s.setFld_rest _ _ _) (by simp)
  · exact s.onlyParts_refl _

theorem State.walkFlush_slice (s : State) (q : Nat) :
    (s.walkFlush q).slice = { s.slice with flush := (s.walkFlush q).slice.flush } := by
  unfold State.walkFlush
  split
  · rfl
  · split <;> rfl

theorem State.walkFlush_rest (s : State) (q : Nat) : s.onlyParts (s.walkFlush q) [.regs, .slice] := by
  unfold State.walkFlush
  split
  · exact s.onlyParts_refl _
  · split
    · exact State.onlyParts_trans (s.setSlice_rest _) (State.onlyParts_mono (State.setFld_rest _ _ _ _) (by simp))
    · exact s.setSlice_rest _

/-- A visit: the rules applied to the walker's bucket and to no other entry of the quadrant, then the ends of the pass and of FLUSH. -/
theorem walkerVisit_walks (s : State) (q : Nat) : ∃ u, (s.walkNext q).walks u q
    ∧ (∀ j, u.mac q j = if j / 8 = Tbl.get 0 s.slice.walker q then (s.walked q (s.agingPass q) (s.mac q j)).1 else s.mac q j)
    ∧ walkerVisit q s = (u.walkPass q (Tbl.get 0 s.slice.walker q)).walkFlush q := by
  refine ⟨_, (s.walkNext q).walkWays_walks q (Tbl.get 0 s.slice.walker q) 8 (s.agingPass q), fun j => ?_, rfl⟩
  rw [State.mac_walkWays]
  simp only [show ∀ b, (8 * b ≤ j ∧ j < 8 * b + 8) ↔ j / 8 = b by omega]
  rfl

theorem exec_walkerVisit (s : State) (q : Fin 4) : ∃ t, exec (.walkerVisit q) s = .next t
    ∧ Tbl.get 0 t.slice.walker q.val = (Tbl.get 0 s.slice.walker q.val + 1) % 65536
    ∧ (∀ j, t.mac q.val j = if j / 8 = Tbl.get 0 s.slice.walker q.val
        then (s.walked q.val (s.agingPass q.val) (s.mac q.val j)).1 else s.mac q.val j)
    ∧ s.onlyParts t [.regs, .slice] := by
  obtain ⟨u, ⟨hwalked, -, hwalkRest⟩, hmac, hvisit⟩ := walkerVisit_walks s q.val
  have hslice := (u.walkPass q.val (Tbl.get 0 s.slice.walker q.val)).walkFlush_slice q.val
  rw [u.walkPass_slice] at hslice
  have hrest := State.onlyParts_trans (State.onlyParts_trans (State.onlyParts_trans (s.setSlice_rest _) hwalkRest)
    (u.walkPass_rest q.val (Tbl.get 0 s.slice.walker q.val))) (State.walkFlush_rest _ q.val)
  refine ⟨_, done_eq_next_of_eq hvisit hrest (by decide), ?_, fun j => ?_, hrest⟩
  · rw [hslice, hwalked]
    exact (Tbl.get_set _ _ _ _ _).trans (if_pos rfl)
  · rw [State.mac_of_macs (s := u) (by rw [hslice]), hmac]

end Sys2Proof.Machine
end

section
/-! PROOF. The commands of MAC_CMD (R87), and O17. -/

namespace Sys2Proof.Machine

theorem macData0_ne_macCmd (q : Nat) : Reg.SLC_MAC_DATA0 (4 * q) ≠ Reg.SLC_MAC_CMD (4 * q) := by
  simp only [Reg.SLC_MAC_DATA0, Reg.SLC_MAC_CMD]; omega

theorem macData1_ne_macCmd (q : Nat) : Reg.SLC_MAC_DATA1 (4 * q) ≠ Reg.SLC_MAC_CMD (4 * q) := by
  simp only [Reg.SLC_MAC_DATA1, Reg.SLC_MAC_CMD]; omega

theorem macData0_ne_macData1 (q : Nat) : Reg.SLC_MAC_DATA0 (4 * q) ≠ Reg.SLC_MAC_DATA1 (4 * q) := by
  simp only [Reg.SLC_MAC_DATA0, Reg.SLC_MAC_DATA1]; omega

/-! ### The entry in MAC_DATA0 and MAC_DATA1 -/

theorem State.reg_setMacData (s : State) (q a : Nat) (e : MacEntry) : (s.setMacData q e).reg a =
    if a = Reg.SLC_MAC_DATA1 (4 * q) then BitVec.ofNat 64 (e.encode / 2 ^ 64)
    else if a = Reg.SLC_MAC_DATA0 (4 * q) then BitVec.ofNat 64 e.encode else s.reg a := by
  simp only [State.setMacData, State.reg_setReg]

theorem State.setMacData_rest (s : State) (q : Nat) (e : MacEntry) : s.onlyParts (s.setMacData q e) [.regs] :=
  State.onlyParts_trans (s.setReg_rest _ _) (State.setReg_rest _ _ _)

/-- READ and SEARCH show an entry: its index in MAC_CMD, its bits in MAC_DATA0 and MAC_DATA1 (R87). -/
def State.showMac (s : State) (q i : Nat) : State :=
  (s.setFld (Reg.SLC_MAC_CMD (4 * q)) Fld.SLC_MAC_CMD_INDEX i).setMacData q (s.mac q i)

theorem State.showMac_rest (s : State) (q i : Nat) : s.onlyParts (s.showMac q i) [.regs] :=
  State.onlyParts_trans (s.setFld_rest _ _ _) (State.setMacData_rest _ _ _)

theorem State.showMac_data0 (s : State) (q i : Nat) :
    (s.showMac q i).reg (Reg.SLC_MAC_DATA0 (4 * q)) = BitVec.ofNat 64 (s.mac q i).encode := by
  rw [State.showMac, State.reg_setMacData, if_neg (macData0_ne_macData1 q), if_pos rfl]

theorem State.showMac_data1 (s : State) (q i : Nat) :
    (s.showMac q i).reg (Reg.SLC_MAC_DATA1 (4 * q)) = BitVec.ofNat 64 ((s.mac q i).encode / 2 ^ 64) := by
  rw [State.showMac, State.reg_setMacData, if_pos rfl]

theorem State.showMac_index (s : State) (q i : Nat) :
    (s.showMac q i).fld (Reg.SLC_MAC_CMD (4 * q)) Fld.SLC_MAC_CMD_INDEX = i % 2 ^ Fld.SLC_MAC_CMD_INDEX.len := by
  have hreg := (s.setFld (Reg.SLC_MAC_CMD (4 * q)) Fld.SLC_MAC_CMD_INDEX i).reg_setMacData q (Reg.SLC_MAC_CMD (4 * q)) (s.mac q i)
  rw [if_neg (macData1_ne_macCmd q).symm, if_neg (macData0_ne_macCmd q).symm] at hreg
  exact (State.fld_of_reg hreg _).trans (s.fld_setFld_self _ _ _ (by decide))

/-- A command's INDEX leaves the entry that the host wrote into MAC_DATA0 and MAC_DATA1. -/
theorem State.macData_setCmd (s : State) (q : Nat) (f : Fld) (x : Nat) :
    (s.setFld (Reg.SLC_MAC_CMD (4 * q)) f x).macData q = s.macData q := by
  simp only [State.macData, State.reg_setFld, if_neg (macData0_ne_macCmd q), if_neg (macData1_ne_macCmd q)]

/-! ### The commands, none running -/

section
variable {s : State} {q : Nat} (hidle : s.macBusy q = false)
include hidle

theorem macRead_shows (i : Nat) : macRead q i s = s.showMac q i := if_neg (by simp [hidle])

theorem macWrite_writes {i : Nat} (hdup : s.macDuplicate q i (MacEntry.decode (s.macData q)) = false) :
    macWrite q i s = (s.setFld (Reg.SLC_MAC_CMD (4 * q)) Fld.SLC_MAC_CMD_INDEX i).setMac q i (MacEntry.decode (s.macData q)) := by
  have hdup' : ¬ (s.setFld (Reg.SLC_MAC_CMD (4 * q)) Fld.SLC_MAC_CMD_INDEX i).macDuplicate q i (MacEntry.decode (s.macData q)) = true :=
    Bool.eq_false_iff.1 hdup
  unfold macWrite
  dsimp only
  rw [if_neg (by simp [hidle]), State.macData_setCmd, if_neg hdup']

theorem macSearch_shows {i : Nat} (hfind : s.macFind q (MacEntry.decode (s.macData q)).bd (MacEntry.decode (s.macData q)).mac = some i) :
    macSearch q s = s.showMac q i := by
  unfold macSearch
  rw [if_neg (by simp [hidle])]
  simp only [hfind]
  rfl

end

/-- MAC_CMD as FLUSH leaves it before BUSY: the filter and its operands. -/
def State.flushFields (s : State) (q filter port bd : Nat) : State :=
  ((s.setFld (Reg.SLC_MAC_CMD (4 * q)) Fld.SLC_MAC_CMD_FILTER filter).setFld (Reg.SLC_MAC_CMD (4 * q)) Fld.SLC_MAC_CMD_FL_PORT
    port).setFld (Reg.SLC_MAC_CMD (4 * q)) Fld.SLC_MAC_CMD_FL_BD bd

/-- A FLUSH runs. -/
def State.startFlush (s : State) (q : Nat) (f : MacFlush) : State :=
  State.setFld { s with slice := { s.slice with flush := Tbl.set none s.slice.flush q (some f) } } (Reg.SLC_MAC_CMD (4 * q))
    Fld.SLC_MAC_CMD_BUSY 1

theorem macFlush_starts {s : State} {q : Nat} (hidle : s.macBusy q = false) (filter port bd : Nat) : macFlush q filter port bd s =
    (s.flushFields q filter port bd).startFlush q ⟨filter, port, bd, 65536⟩ :=
  if_neg (by simp [hidle])

theorem State.flushFields_leaves (s : State) (q filter port bd : Nat) :
    s.onlyRegs (s.flushFields q filter port bd) [Reg.SLC_MAC_CMD (4 * q)] ∧ s.onlyParts (s.flushFields q filter port bd) [.regs] :=
  ⟨State.onlyRegs_trans (State.onlyRegs_trans (s.onlyRegs_setFld _ _ _) (State.onlyRegs_setFld _ _ _ _)) (State.onlyRegs_setFld _ _ _ _),
    State.onlyParts_trans (State.onlyParts_trans (s.setFld_rest _ _ _) (State.setFld_rest _ _ _ _)) (State.setFld_rest _ _ _ _)⟩

theorem State.startFlush_leaves (s : State) (q : Nat) (f : MacFlush) :
    s.onlyRegs (s.startFlush q f) [Reg.SLC_MAC_CMD (4 * q)] ∧ s.onlyParts (s.startFlush q f) [.regs, .slice] :=
  ⟨State.onlyRegs_setFld { s with slice := _ } _ _ _,
    State.onlyParts_trans (s.setSlice_rest _) (State.onlyParts_mono (State.setFld_rest _ _ _ _) (by simp))⟩

theorem State.startFlush_busy (s : State) (q : Nat) (f : MacFlush) : (s.startFlush q f).macBusy q = true :=
  State.flag_setFld_one _ _ (by unfold Fld.oneBit; decide)

theorem State.startFlush_flush (s : State) (q : Nat) (f : MacFlush) : Tbl.get none (s.startFlush q f).slice.flush q = some f :=
  (Tbl.get_set none s.slice.flush q q (some f)).trans (if_pos rfl)

section
variable {s : State} {q : Fin 4}

theorem exec_macRead (i : Fin 524288) (hidle : s.macBusy q.val = false) :
    ∃ t, exec (.macRead q i) s = .next t
      ∧ t.reg (Reg.SLC_MAC_DATA0 (4 * q.val)) = BitVec.ofNat 64 (s.mac q.val i.val).encode
      ∧ t.reg (Reg.SLC_MAC_DATA1 (4 * q.val)) = BitVec.ofNat 64 ((s.mac q.val i.val).encode / 2 ^ 64)
      ∧ s.onlyParts t [.regs] :=
  have hrest := s.showMac_rest q i
  ⟨_, done_eq_next_of_eq (macRead_shows hidle i) hrest (by decide), s.showMac_data0 q i, s.showMac_data1 q i, hrest⟩

theorem exec_macWrite {i : Fin 524288} (hidle : s.macBusy q.val = false)
    (hdup : s.macDuplicate q.val i.val (MacEntry.decode (s.macData q.val)) = false) :
    ∃ t, exec (.macWrite q i) s = .next t ∧ t.mac q.val i.val = MacEntry.decode (s.macData q.val)
      ∧ (∀ j, j ≠ i.val → t.mac q.val j = s.mac q.val j) ∧ s.onlyRegs t [Reg.SLC_MAC_CMD (4 * q.val)]
      ∧ s.onlyParts t [.regs, .slice] := by
  have hcmd := s.setFld_rest (Reg.SLC_MAC_CMD (4 * q)) Fld.SLC_MAC_CMD_INDEX i
  have hentry := State.setMac_rest (s.setFld (Reg.SLC_MAC_CMD (4 * q)) Fld.SLC_MAC_CMD_INDEX i) q i (MacEntry.decode (s.macData q))
  have hrest := State.onlyParts_trans (State.onlyParts_mono hcmd (m := [.regs, .slice]) (by simp)) (State.onlyParts_mono hentry (by simp))
  exact ⟨_, done_eq_next_of_eq (macWrite_writes hidle hdup) hrest (by decide), (State.mac_setMac _ _ _ _ _).trans (if_pos rfl),
    fun j hj => (State.mac_setMac _ _ _ _ _).trans (if_neg hj),
    State.onlyRegs_trans (s.onlyRegs_setFld _ _ _) (hentry.onlyRegs (by simp) _), hrest⟩

theorem exec_macSearch {i : Nat} (hidle : s.macBusy q.val = false)
    (hfind : s.macFind q.val (MacEntry.decode (s.macData q.val)).bd (MacEntry.decode (s.macData q.val)).mac = some i) :
    ∃ t, exec (.macSearch q) s = .next t
      ∧ t.fld (Reg.SLC_MAC_CMD (4 * q.val)) Fld.SLC_MAC_CMD_INDEX = i % 2 ^ Fld.SLC_MAC_CMD_INDEX.len
      ∧ t.reg (Reg.SLC_MAC_DATA0 (4 * q.val)) = BitVec.ofNat 64 (s.mac q.val i).encode ∧ s.onlyParts t [.regs] :=
  have hrest := s.showMac_rest q i
  ⟨_, done_eq_next_of_eq (macSearch_shows hidle hfind) hrest (by decide), s.showMac_index q i, s.showMac_data0 q i, hrest⟩

theorem exec_macFlush (f : Fin 4) (port : Fin 512) (bd : Fin 4096) (hidle : s.macBusy q.val = false) :
    ∃ t, exec (.macFlush q f port bd) s = .next t ∧ Tbl.get none t.slice.flush q.val = some ⟨f.val, port.val, bd.val, 65536⟩
      ∧ t.macBusy q.val = true ∧ t.slice.macs = s.slice.macs ∧ s.onlyRegs t [Reg.SLC_MAC_CMD (4 * q.val)]
      ∧ s.onlyParts t [.regs, .slice] := by
  obtain ⟨hfregs, hfparts⟩ := s.flushFields_leaves q f port bd
  obtain ⟨hsregs, hsparts⟩ := (s.flushFields q f port bd).startFlush_leaves q ⟨f, port, bd, 65536⟩
  have hrest := State.onlyParts_trans (State.onlyParts_mono hfparts (by simp)) hsparts
  exact ⟨_, done_eq_next_of_eq (macFlush_starts hidle f port bd) hrest (by decide), State.startFlush_flush _ _ _,
    State.startFlush_busy _ _ _, rfl, State.onlyRegs_trans hfregs hsregs, hrest⟩

end

/-- Settles O17: the bus and the walker by induction over quadrants and ways, the learners and MAC_CMD by their branch. -/
theorem macTables : Obligations.MacTables := by
  refine ⟨fun s i e r hnext hfifo => ?_, fun s q v r i hqueue hfind hport => exec_learnerApply_refreshes hqueue hfind hport,
    fun s q v r w hqueue hfind hw hfree hlow => exec_learnerApply_enters hqueue hfind hw hfree hlow, fun s q => ?_,
    fun s q j hj hflush hmode hvalid hdynamic hage => ?_, fun s q i hidle => exec_macRead i hidle,
    fun s q i hidle hdup => exec_macWrite hidle hdup, fun s q i hidle hfind => exec_macSearch hidle hfind,
    fun s q f port bd hidle => exec_macFlush f port bd hidle⟩
  · obtain ⟨t, ht, hfifo', hlast, hqueue, hmacs, hrest⟩ := exec_learnBusTransfer hnext hfifo
    exact ⟨t, ht, hfifo', hlast, fun q hen hroom => (hqueue q q.isLt).trans (if_pos ⟨hen, hroom⟩),
      fun q hoff => (hqueue q q.isLt).trans (if_neg (by simp [hoff])), hmacs, hrest⟩
  · obtain ⟨t, ht, hwalker, hmac, hrest⟩ := exec_walkerVisit s q
    refine ⟨t, ht, hwalker, fun j hj => (hmac j).trans (if_neg hj), fun j _ hstatic => ?_, hrest⟩
    rw [hmac j, State.walked_static _ _ _ hstatic, ite_self]
  · obtain ⟨t, ht, -, hmac, hrest⟩ := exec_walkerVisit s q
    exact ⟨t, ht, by rw [hmac j, if_pos hj, State.walked_aged _ hflush hmode hvalid hdynamic hage], hrest⟩

end Sys2Proof.Machine
end

section
/-! PROOF. The Tumbler arrays' state (R91, R93, R104 to R112): what reads and writes of entries, of the running INSERT and of the
arrays' registers leave. -/

namespace Sys2Proof.Machine

/-! ### Changes confined to some registers and parts -/

/-- `t` is `s` but for the registers of `regs` and the parts of `parts`. -/
def State.confined (s t : State) (regs : List Nat) (parts : List Part) : Prop := s.onlyRegs t regs ∧ s.onlyParts t parts

section
variable {s t u : State} {regs : List Nat} {parts : List Part}

theorem State.confined.refl (s : State) (regs : List Nat) (parts : List Part) : s.confined s regs parts :=
  ⟨s.onlyRegs_refl _, s.onlyParts_refl _⟩

theorem State.confined.trans (a : s.confined t regs parts) (b : t.confined u regs parts) : s.confined u regs parts :=
  ⟨State.onlyRegs_trans a.1 b.1, State.onlyParts_trans a.2 b.2⟩

theorem State.confined.mono {regs' : List Nat} {parts' : List Part} (a : s.confined t regs parts)
    (hregs : ∀ x ∈ regs, x ∈ regs') (hparts : ∀ x ∈ parts, x ∈ parts') : s.confined t regs' parts' :=
  ⟨State.onlyRegs_mono a.1 hregs, State.onlyParts_mono a.2 hparts⟩

theorem State.setReg_confined (s : State) (a : Nat) (v : Word64) : s.confined (s.setReg a v) [a] [.regs] :=
  ⟨s.onlyRegs_setReg a v, s.setReg_rest a v⟩

theorem State.setFld_confined (s : State) (a : Nat) (f : Fld) (x : Nat) : s.confined (s.setFld a f x) [a] [.regs] :=
  s.setReg_confined a _

theorem State.tmbBump_confined (s : State) (q c : Nat) : s.confined (s.tmbBump q c) [Reg.TMB_CNT q c] [.regs] :=
  s.setReg_confined _ _

theorem State.setTmb_confined (s : State) (x : TumblerSt) (regs : List Nat) : s.confined { s with tmb := x } regs [.tmb] :=
  ⟨fun _ _ => rfl, rfl, fun p hp => by cases p <;> first | rfl | simp at hp⟩

end

/-! ### Entries and the running INSERT -/

section
variable (s : State) (q i j n : Nat) (e : TmbEntry) (x : Option TmbInsert)

theorem State.ent_of_ents {s t : State} (h : t.tmb.ents = s.tmb.ents) (q j : Nat) : t.ent q j = s.ent q j :=
  congrArg (fun m => Tbl.get TmbEntry.init m (tmbKey q j)) h

theorem State.insert_of_inserts {s t : State} (h : t.tmb.inserts = s.tmb.inserts) (q : Nat) : t.insert q = s.insert q :=
  congrArg (fun m => Tbl.get none m q) h

@[simp] theorem State.ent_setEnt : (s.setEnt q i e).ent q j = if j = i then e else s.ent q j := by
  have hkey : tmbKey q j = tmbKey q i ↔ j = i := Nat.add_left_cancel_iff
  simp only [State.ent, State.setEnt, Tbl.get_set, hkey]

@[simp] theorem State.insert_setInsert : (s.setInsert q x).insert q = x := (Tbl.get_set _ _ _ _ _).trans (if_pos rfl)

theorem State.setEnt_confined (regs : List Nat) : s.confined (s.setEnt q i e) regs [.tmb] := s.setTmb_confined _ regs

theorem State.setInsert_confined (regs : List Nat) : s.confined (s.setInsert q x) regs [.tmb] := s.setTmb_confined _ regs

/-- The registers that show a running INSERT (R110). -/
def moveRegs (q : Nat) : List Nat := [Reg.TMB_MAINT q, Reg.TMB_STATUS q]

theorem State.showMove_confined : s.confined (s.showMove q n) (moveRegs q) [.regs] :=
  ((s.setFld_confined _ _ _).mono (by simp [moveRegs]) (by simp)).trans
    ((State.setFld_confined _ _ _ _).mono (by simp [moveRegs]) (by simp))

end

/-! ### Counters of an array -/

theorem State.reg_tmbBump (s : State) (q c a : Nat) :
    (s.tmbBump q c).reg a = if a = Reg.TMB_CNT q c then s.reg (Reg.TMB_CNT q c) + 1 else s.reg a :=
  s.reg_bump _ a

theorem tmbCnt_ne {q c d : Nat} (h : c ≠ d) : Reg.TMB_CNT q c ≠ Reg.TMB_CNT q d := by
  simp only [Reg.TMB_CNT]; omega

/-- The counters lie above the array's other registers (R112). -/
theorem tmbCnt_not_mem {q : Nat} {l : List Nat} (h : ∀ a ∈ l, a < Reg.TMB_CNT q 0) (c : Nat) : Reg.TMB_CNT q c ∉ l := by
  intro hin
  have hlow := h _ hin
  simp only [Reg.TMB_CNT] at hlow
  omega

/-! ### ENT_CMD -/

theorem State.tmbFields_confined (s : State) (q t i : Nat) : s.confined (s.tmbFields q t i) [Reg.TMB_ENT_CMD q] [.regs] := by
  unfold State.tmbFields
  split
  · exact .refl s _ _
  · exact (s.setFld_confined _ _ _).trans (State.setFld_confined _ _ _ _)

theorem State.tmbFields_tmb (s : State) (q t i : Nat) : (s.tmbFields q t i).tmb = s.tmb :=
  (s.tmbFields_confined q t i).2.2 .tmb (by decide)

theorem State.ent_tmbFields (s : State) (q t i j : Nat) : (s.tmbFields q t i).ent q j = s.ent q j :=
  State.ent_of_ents (congrArg TumblerSt.ents (s.tmbFields_tmb q t i)) q j

theorem entCmdErr_oneBit : Fld.TMB_ENT_CMD_ERR.oneBit := by unfold Fld.oneBit; decide

theorem entCmdBusy_oneBit : Fld.TMB_ENT_CMD_BUSY.oneBit := by unfold Fld.oneBit; decide

theorem State.tmbErr_confined (s : State) (q code : Nat) : s.confined (s.tmbErr q code) [Reg.TMB_ENT_CMD q] [.regs] :=
  (s.setFld_confined _ _ _).trans (State.setFld_confined _ _ _ _)

theorem State.tmbErr_err (s : State) (q code : Nat) :
    (s.tmbErr q code).flag (Reg.TMB_ENT_CMD q) Fld.TMB_ENT_CMD_ERR = true :=
  (State.flag_setFld_apart _ _ _ _ _ (.inl (by decide))).trans (s.flag_setFld_one _ entCmdErr_oneBit)

theorem State.tmbErr_code (s : State) (q : Nat) {code : Nat} (h : code < 16) :
    (s.tmbErr q code).fld (Reg.TMB_ENT_CMD q) Fld.TMB_ENT_CMD_ERR_CODE = code :=
  State.fld_setFld_fits _ _ (by decide) h

end Sys2Proof.Machine
end

section
/-! PROOF. ENT_CMD refused (R105, R108). -/

namespace Sys2Proof.Machine

/-- Codes below `m` in a list of checks: that of the first check, and those of the rest. -/
theorem mem_ite_some_lt {p : Prop} [Decidable p] {n m : Nat} {o : Option Nat} (hn : n < m) (ho : ∀ c ∈ o, c < m) :
    ∀ c ∈ if p then some n else o, c < m := by
  split
  · simpa using hn
  · exact ho

/-- A code fits into ERR_CODE. -/
theorem State.tmbCheck_lt (s : State) (q op t i : Nat) : ∀ c ∈ s.tmbCheck q op t i, c < 16 := by
  unfold State.tmbCheck
  extract_lets r e old
  iterate 13 refine mem_ite_some_lt (by decide) ?_
  simp

section
variable {s : State} {q t i code : Nat}

theorem entRead_refused (h : s.tmbCheck q 1 t i = some code) : entRead q t i s = (s.tmbFields q t i).tmbErr q code := by
  simp only [entRead, h]

theorem entInsert_refused (h : s.tmbCheck q 2 t i = some code) : entInsert q t i s = (s.tmbFields q t i).tmbErr q code := by
  simp only [entInsert, h]

theorem entDelete_refused (h : s.tmbCheck q 3 t i = some code) : entDelete q t i s = (s.tmbFields q t i).tmbErr q code := by
  simp only [entDelete, h]

theorem entRepair_refused (h : s.tmbCheck q 4 t i = some code) : entRepair q t i s = (s.tmbFields q t i).tmbErr q code := by
  simp only [entRepair, h]

end

/-- Settles O20: each of the four commands answers the check's code through `State.tmbErr`. -/
theorem tumblerEntryRefusals : Obligations.TumblerEntryRefusals := by
  intro s q t' i op code c _ hcmd hcheck
  have hexec : exec c s = done s ((s.tmbFields q t' i).tmbErr q code) := by
    simp only [List.mem_cons, List.not_mem_nil, or_false, Prod.mk.injEq] at hcmd
    rcases hcmd with ⟨rfl, rfl⟩ | ⟨rfl, rfl⟩ | ⟨rfl, rfl⟩ | ⟨rfl, rfl⟩
    · exact congrArg (done s) (entRead_refused hcheck)
    · exact congrArg (done s) (entInsert_refused hcheck)
    · exact congrArg (done s) (entDelete_refused hcheck)
    · exact congrArg (done s) (entRepair_refused hcheck)
  obtain ⟨hregs, hparts⟩ := (s.tmbFields_confined q t' i).trans (State.tmbErr_confined _ q code)
  exact ⟨_, hexec.trans (done_eq_next hparts (by decide)), State.tmbErr_err _ _ _,
    State.tmbErr_code _ _ (s.tmbCheck_lt _ _ _ _ _ hcheck), hregs, hparts⟩

end Sys2Proof.Machine
end

section
/-! PROOF. ENT_CMD READ, DELETE and REPAIR (R101, R105). -/

namespace Sys2Proof.Machine

/-! ### An entry shown in ENT_KEY, ENT_MASK, ENT_RESULT and ENT_META -/

section
variable (s : State) {a : Nat → Nat} {b : Nat} (x : BitVec 320)

/-- The first `n` of five registers hold their words of `x`. -/
theorem reg_forUpTo_setReg (n : Nat) (hinj : ∀ i j, a i = a j → i = j) (k : Nat) :
    (forUpTo n (fun i t => State.setReg t (a i) (BitVec.ofNat 64 (x.toNat / 2 ^ (64 * i)))) s).reg (a k)
      = if k < n then BitVec.ofNat 64 (x.toNat / 2 ^ (64 * k)) else s.reg (a k) := by
  induction n with
  | zero => rw [if_neg (Nat.not_lt_zero k)]; rfl
  | succ n ih =>
    rw [forUpTo, State.reg_setReg, ih]
    by_cases hk : k = n
    · rw [hk, if_pos rfl, if_pos (Nat.lt_succ_self n)]
    · have hlt : k < n + 1 ↔ k < n := by omega
      rw [if_neg (fun h => hk (hinj _ _ h))]
      simp only [hlt]

theorem State.reg_setReg5 (hinj : ∀ i j, a i = a j → i = j) (k : Fin 5) :
    (s.setReg5 a x).reg (a k) = BitVec.ofNat 64 (x.toNat / 2 ^ (64 * k.val)) :=
  (reg_forUpTo_setReg s x 5 hinj k).trans (if_pos k.isLt)

theorem State.reg_setReg5_other (h : ∀ k < 5, b ≠ a k) : (s.setReg5 a x).reg b = s.reg b :=
  forUpTo_induct (fun t : State => t.reg b = s.reg b) 5 _ s rfl fun k t hk ht =>
    (t.reg_setReg _ _ _).trans ((if_neg (h k hk)).trans ht)

theorem State.setReg5_rest (a : Nat → Nat) : s.onlyParts (s.setReg5 a x) [.regs] :=
  forUpTo_induct (fun t : State => s.onlyParts t [.regs]) 5 _ s (s.onlyParts_refl _) fun _ t _ ht =>
    State.onlyParts_trans ht (t.setReg_rest _ _)

end

/-- ENT_META of an entry. -/
def State.showMeta (s : State) (q : Nat) (e : TmbEntry) : State :=
  (((s.setFld (Reg.TMB_ENT_META q) Fld.TMB_ENT_META_PRIORITY e.prio).setFld (Reg.TMB_ENT_META q) Fld.TMB_ENT_META_GEN_MASK
    e.gens.toNat).setFld (Reg.TMB_ENT_META q) Fld.TMB_ENT_META_VALID (bit e.valid)).setFld (Reg.TMB_ENT_META q)
    Fld.TMB_ENT_META_DISABLED (bit e.disabled)

/-- ENT_KEY, ENT_MASK, ENT_RESULT and ENT_META of an entry, as READ leaves them. -/
def State.showEnt (s : State) (q : Nat) (e : TmbEntry) : State :=
  (((s.setReg5 (Reg.TMB_ENT_KEY q) e.key).setReg5 (Reg.TMB_ENT_MASK q) e.mask).setReg (Reg.TMB_ENT_RESULT q) e.result).showMeta q e

section
variable (s : State) (q : Nat) (e : TmbEntry)

theorem State.showMeta_confined : s.confined (s.showMeta q e) [Reg.TMB_ENT_META q] [.regs] :=
  (((s.setFld_confined _ _ _).trans (State.setFld_confined _ _ _ _)).trans (State.setFld_confined _ _ _ _)).trans
    (State.setFld_confined _ _ _ _)

theorem State.showEnt_rest : s.onlyParts (s.showEnt q e) [.regs] :=
  State.onlyParts_trans (State.onlyParts_trans (State.onlyParts_trans (s.setReg5_rest _ _) (State.setReg5_rest _ _ _))
    (State.setReg_rest _ _ _)) (State.showMeta_confined _ _ _).2

theorem State.showEnt_result : (s.showEnt q e).reg (Reg.TMB_ENT_RESULT q) = e.result := by
  have hmeta : Reg.TMB_ENT_RESULT q ∉ [Reg.TMB_ENT_META q] := by
    simp only [Reg.TMB_ENT_RESULT, Reg.TMB_ENT_META, List.mem_singleton]; omega
  exact ((State.showMeta_confined _ _ _).1 _ hmeta).trans (State.reg_setReg_self _ _ _)

theorem State.showEnt_mask (k : Fin 5) :
    (s.showEnt q e).reg (Reg.TMB_ENT_MASK q k.val) = BitVec.ofNat 64 (e.mask.toNat / 2 ^ (64 * k.val)) := by
  have hmeta : Reg.TMB_ENT_MASK q k.val ∉ [Reg.TMB_ENT_META q] := by
    simp only [Reg.TMB_ENT_MASK, Reg.TMB_ENT_META, List.mem_singleton]; omega
  have hresult : Reg.TMB_ENT_MASK q k.val ≠ Reg.TMB_ENT_RESULT q := by simp only [Reg.TMB_ENT_MASK, Reg.TMB_ENT_RESULT]; omega
  have hinj (i j : Nat) (h : Reg.TMB_ENT_MASK q i = Reg.TMB_ENT_MASK q j) : i = j := by simp only [Reg.TMB_ENT_MASK] at h; omega
  exact ((State.showMeta_confined _ _ _).1 _ hmeta).trans
    (((State.reg_setReg _ _ _ _).trans (if_neg hresult)).trans (State.reg_setReg5 _ _ hinj k))

theorem State.showEnt_key (k : Fin 5) :
    (s.showEnt q e).reg (Reg.TMB_ENT_KEY q k.val) = BitVec.ofNat 64 (e.key.toNat / 2 ^ (64 * k.val)) := by
  have hmeta : Reg.TMB_ENT_KEY q k.val ∉ [Reg.TMB_ENT_META q] := by
    simp only [Reg.TMB_ENT_KEY, Reg.TMB_ENT_META, List.mem_singleton]; omega
  have hresult : Reg.TMB_ENT_KEY q k.val ≠ Reg.TMB_ENT_RESULT q := by simp only [Reg.TMB_ENT_KEY, Reg.TMB_ENT_RESULT]; omega
  have hmask (j : Nat) (_ : j < 5) : Reg.TMB_ENT_KEY q k.val ≠ Reg.TMB_ENT_MASK q j := by
    simp only [Reg.TMB_ENT_KEY, Reg.TMB_ENT_MASK]; omega
  have hinj (i j : Nat) (h : Reg.TMB_ENT_KEY q i = Reg.TMB_ENT_KEY q j) : i = j := by simp only [Reg.TMB_ENT_KEY] at h; omega
  exact ((State.showMeta_confined _ _ _).1 _ hmeta).trans (((State.reg_setReg _ _ _ _).trans (if_neg hresult)).trans
    ((State.reg_setReg5_other _ _ hmask).trans (State.reg_setReg5 _ _ hinj k)))

end

/-! ### The commands, accepted -/

section
variable {s : State} {q t i : Nat}

theorem entRead_accepted (h : s.tmbCheck q 1 t i = none) : entRead q t i s = (s.tmbFields q t i).showEnt q (s.ent q i) := by
  simp only [entRead, h]
  rfl

/-- The entry as it stands once it is out of the pending generation (R105). -/
def State.entDeleted (s : State) (q i : Nat) : TmbEntry :=
  { s.ent q i with gens := (s.ent q i).gens &&& ~~~ BitVec.ofNat 4 (2 ^ s.genPendSlot) }

theorem entDelete_accepted (h : s.tmbCheck q 3 t i = none) :
    entDelete q t i s = ((s.tmbFields q t i).setEnt q i (s.entDeleted q i)).tmbBump q Cnt.TMB_DELETES := by
  simp only [entDelete, h]
  rfl

theorem entRepair_accepted (h : s.tmbCheck q 4 t i = none) :
    entRepair q t i s = (s.tmbFields q t i).setEnt q i { s.tmbNew q t with gens := (s.ent q i).gens } := by
  simp only [entRepair, h]

/-- A command that stores its fields and one entry. -/
theorem State.setEnt_tmbFields_leaves (s : State) (q t i : Nat) (e : TmbEntry) :
    ((s.tmbFields q t i).setEnt q i e).ent q i = e
      ∧ (∀ j, j ≠ i → ((s.tmbFields q t i).setEnt q i e).ent q j = s.ent q j)
      ∧ s.confined ((s.tmbFields q t i).setEnt q i e) [Reg.TMB_ENT_CMD q] [.regs, .tmb] :=
  ⟨(State.ent_setEnt _ _ _ _ _).trans (if_pos rfl),
    fun j hj => (State.ent_setEnt _ _ _ _ _).trans ((if_neg hj).trans (s.ent_tmbFields q t i j)),
    ((s.tmbFields_confined q t i).mono (by simp) (by simp)).trans
      ((State.setEnt_confined _ _ _ _ _).mono (fun _ h => h) (by simp))⟩

end

section
variable {s : State} {q : Fin 4} {t' : Fin 16} {i : Fin 262144}

theorem exec_entRead (h : s.tmbCheck q.val 1 t'.val i.val = none) :
    ∃ t, exec (.entRead q t' i) s = .next t ∧ t.reg (Reg.TMB_ENT_RESULT q.val) = (s.ent q.val i.val).result
      ∧ (∀ k : Fin 5, t.reg (Reg.TMB_ENT_KEY q.val k.val) = BitVec.ofNat 64 ((s.ent q.val i.val).key.toNat / 2 ^ (64 * k.val)))
      ∧ (∀ k : Fin 5, t.reg (Reg.TMB_ENT_MASK q.val k.val) = BitVec.ofNat 64 ((s.ent q.val i.val).mask.toNat / 2 ^ (64 * k.val)))
      ∧ s.onlyParts t [.regs] :=
  have hrest := State.onlyParts_trans (s.tmbFields_confined q t' i).2 (State.showEnt_rest _ q (s.ent q i))
  ⟨_, done_eq_next_of_eq (entRead_accepted h) hrest (by decide), State.showEnt_result _ _ _, State.showEnt_key _ _ _,
    State.showEnt_mask _ _ _, hrest⟩

theorem exec_entDelete (h : s.tmbCheck q.val 3 t'.val i.val = none) :
    ∃ t, exec (.entDelete q t' i) s = .next t ∧ t.ent q.val i.val = s.entDeleted q.val i.val
      ∧ (∀ j, j ≠ i.val → t.ent q.val j = s.ent q.val j)
      ∧ t.reg (Reg.TMB_CNT q.val Cnt.TMB_DELETES) = s.reg (Reg.TMB_CNT q.val Cnt.TMB_DELETES) + 1
      ∧ s.onlyRegs t [Reg.TMB_ENT_CMD q.val, Reg.TMB_CNT q.val Cnt.TMB_DELETES] ∧ s.onlyParts t [.regs, .tmb] := by
  obtain ⟨hent, hothers, hset⟩ := s.setEnt_tmbFields_leaves q t' i (s.entDeleted q i)
  have hcnt := hset.1 _ (tmbCnt_not_mem (q := q) (by simp [Reg.TMB_ENT_CMD, Reg.TMB_CNT]) Cnt.TMB_DELETES)
  obtain ⟨hregs, hparts⟩ := (hset.mono (regs' := [Reg.TMB_ENT_CMD q, Reg.TMB_CNT q Cnt.TMB_DELETES]) (by simp) fun _ h => h).trans
    ((State.tmbBump_confined _ q Cnt.TMB_DELETES).mono (by simp) (by simp))
  exact ⟨_, done_eq_next_of_eq (entDelete_accepted h) hparts (by decide), hent, hothers,
    (State.reg_tmbBump _ _ _ _).trans ((if_pos rfl).trans (congrArg (· + 1) hcnt)), hregs, hparts⟩

theorem exec_entRepair (h : s.tmbCheck q.val 4 t'.val i.val = none) :
    ∃ t, exec (.entRepair q t' i) s = .next t
      ∧ t.ent q.val i.val = { s.tmbNew q.val t'.val with gens := (s.ent q.val i.val).gens }
      ∧ (∀ j, j ≠ i.val → t.ent q.val j = s.ent q.val j) ∧ s.onlyRegs t [Reg.TMB_ENT_CMD q.val] ∧ s.onlyParts t [.regs, .tmb] :=
  have ⟨hent, hothers, hregs, hparts⟩ := s.setEnt_tmbFields_leaves q t' i { s.tmbNew q t' with gens := (s.ent q i).gens }
  ⟨_, done_eq_next_of_eq (entRepair_accepted h) hparts (by decide), hent, hothers, hregs, hparts⟩

end

end Sys2Proof.Machine
end

section
/-! PROOF. INSERT and its block move (R105, R109 to R111), and O19. -/

namespace Sys2Proof.Machine

/-! ### INSERT starts -/

/-- The array holds a running INSERT and shows it. -/
def State.startInsert (s : State) (q : Nat) (x : TmbInsert) (left : Nat) : State :=
  ((s.setInsert q (some x)).setFld (Reg.TMB_ENT_CMD q) Fld.TMB_ENT_CMD_BUSY 1).showMove q left

theorem entInsert_accepted {s : State} {q t i target hole : Nat} (h : s.tmbCheck q 2 t i = none)
    (hplace : s.placeFor q t i = some (target, hole)) : entInsert q t i s = (s.tmbFields q t i).startInsert q
      ⟨t, target, hole, 0, s.tmbNew q t⟩ (TmbInsert.left ⟨t, target, hole, 0, s.tmbNew q t⟩ (s.tmbWidth q t)) := by
  simp only [entInsert, h, hplace]
  rfl

theorem entCmd_not_moveReg (q : Nat) : Reg.TMB_ENT_CMD q ∉ moveRegs q := by
  simp only [moveRegs, Reg.TMB_ENT_CMD, Reg.TMB_MAINT, Reg.TMB_STATUS, List.mem_cons, List.not_mem_nil, or_false]
  omega

theorem moveRegs_lt_tmbCnt (q : Nat) : ∀ a ∈ moveRegs q, a < Reg.TMB_CNT q 0 := by
  simp [moveRegs, Reg.TMB_MAINT, Reg.TMB_STATUS, Reg.TMB_CNT]

section
variable (s : State) (q : Nat) (x : TmbInsert) (left : Nat)

theorem State.startInsert_busy : (s.startInsert q x left).tmbBusy q = true :=
  (State.flag_of_reg ((State.showMove_confined _ q left).1 _ (entCmd_not_moveReg q)) _).trans
    (State.flag_setFld_one _ _ entCmdBusy_oneBit)

theorem State.startInsert_insert : (s.startInsert q x left).insert q = some x := s.insert_setInsert q (some x)

theorem State.startInsert_ents : (s.startInsert q x left).tmb.ents = s.tmb.ents := rfl

theorem State.startInsert_confined :
    s.confined (s.startInsert q x left) (Reg.TMB_ENT_CMD q :: moveRegs q) [.regs, .tmb] :=
  (((s.setInsert_confined q (some x) _).mono (fun _ h => h) (by simp)).trans
    ((State.setFld_confined _ _ _ _).mono (by simp) (by simp))).trans
    ((State.showMove_confined _ q left).mono (fun _ h => List.mem_cons_of_mem _ h) (by simp))

end

/-! ### A move step -/

theorem State.markDumps_rest (s : State) (q : Nat) : s.onlyParts (s.markDumps q) [.lop] := by
  refine forUpTo_induct (fun t => s.onlyParts t [.lop]) 16 _ s (s.onlyParts_refl _) fun i t _ ht => State.onlyParts_trans ht ?_
  have hrun (r : LopRun) : t.onlyParts (t.setLopRun i r) [.lop] :=
    ⟨rfl, fun p hp => by cases p <;> first | rfl | simp at hp⟩
  split
  · split
    · exact hrun _
    · exact t.onlyParts_refl _
  · exact t.onlyParts_refl _

/-- The entry at `src` moves into the free location `hole`, which it leaves behind at `src` (R110). -/
def State.moveEnt (s : State) (q src hole : Nat) : State :=
  (s.setEnt q hole (s.ent q src)).setEnt q src { s.ent q src with valid := false, gens := 0 }

/-- The running INSERT has made one more step, its hole now at `src`. -/
def TmbInsert.stepped (x : TmbInsert) (src : Nat) : TmbInsert := { x with hole := src, steps := x.steps + 1 }

/-- What a move step notes: the INSERT as it goes on, its count, the steps left, and the dumps that it disturbs. -/
def State.noteStep (s : State) (q : Nat) (y : TmbInsert) (left : Nat) : State :=
  (((s.setInsert q (some y)).tmbBump q Cnt.TMB_MOVE_STEPS).showMove q left).markDumps q

theorem tmbMoveStep_up {s : State} {q : Nat} {x : TmbInsert} (hrun : s.insert q = some x)
    (hhole : s.pathHole q (s.tmbWidth q x.table) x = x.hole) (hup : x.target < x.hole) :
    tmbMoveStep q s = (s.moveEnt q (x.hole - s.tmbWidth q x.table) x.hole).noteStep q
      (x.stepped (x.hole - s.tmbWidth q x.table)) ((x.stepped (x.hole - s.tmbWidth q x.table)).left (s.tmbWidth q x.table)) := by
  simp only [tmbMoveStep, hrun, hhole, if_neg (Nat.ne_of_gt hup), if_pos (Nat.le_of_lt hup)]
  rfl

section
variable (s : State) (q : Nat)

theorem State.ent_moveEnt (src hole j : Nat) : (s.moveEnt q src hole).ent q j =
    if j = src then { s.ent q src with valid := false, gens := 0 } else if j = hole then s.ent q src else s.ent q j := by
  simp only [State.moveEnt, State.ent_setEnt]

theorem State.moveEnt_rest (src hole : Nat) : s.onlyParts (s.moveEnt q src hole) [.tmb] :=
  State.onlyParts_trans (s.setEnt_confined _ _ _ []).2 (State.setEnt_confined _ _ _ _ []).2

variable (y : TmbInsert) (left : Nat)

theorem State.noteStep_tmb : (s.noteStep q y left).tmb = (s.setInsert q (some y)).tmb :=
  (State.markDumps_rest _ q).2 .tmb (by decide)

theorem State.noteStep_insert : (s.noteStep q y left).insert q = some y :=
  (State.insert_of_inserts (congrArg TumblerSt.inserts (s.noteStep_tmb q y left)) q).trans (s.insert_setInsert q (some y))

theorem State.noteStep_ent (j : Nat) : (s.noteStep q y left).ent q j = s.ent q j :=
  State.ent_of_ents (congrArg TumblerSt.ents (s.noteStep_tmb q y left)) q j

theorem State.noteStep_count :
    (s.noteStep q y left).reg (Reg.TMB_CNT q Cnt.TMB_MOVE_STEPS) = s.reg (Reg.TMB_CNT q Cnt.TMB_MOVE_STEPS) + 1 :=
  ((State.markDumps_rest _ q).reg_eq (by decide) _).trans
    (((State.showMove_confined _ q left).1 _ (tmbCnt_not_mem (moveRegs_lt_tmbCnt q) _)).trans
      ((State.reg_tmbBump _ _ _ _).trans (if_pos rfl)))

theorem State.noteStep_rest : s.onlyParts (s.noteStep q y left) [.regs, .tmb, .lop] :=
  State.onlyParts_trans (State.onlyParts_trans (State.onlyParts_trans
    (State.onlyParts_mono (s.setInsert_confined q (some y) []).2 (by simp))
    (State.onlyParts_mono (State.tmbBump_confined _ q Cnt.TMB_MOVE_STEPS).2 (by simp)))
    (State.onlyParts_mono (State.showMove_confined _ q left).2 (by simp)))
    (State.onlyParts_mono (State.markDumps_rest _ q) (by simp))

end

theorem State.tmbWidth_pos (s : State) (q t : Nat) : 0 < s.tmbWidth q t := Nat.two_pow_pos _

/-! ### The final write -/

/-- The end of the last block move touches GEN_CMD and the generation control (R105). -/
theorem State.moveEnded_confined (s : State) : s.confined s.moveEnded [Reg.TMB_GEN_CMD 0] [.regs, .tmb] := by
  have hwait : s.confined (s.setCommitWait false) [Reg.TMB_GEN_CMD 0] [.regs, .tmb] :=
    (s.setFld_confined _ _ _).mono (fun _ h => h) (by simp)
  unfold State.moveEnded
  split
  · exact .refl s _ _
  · split
    · exact hwait
    · exact hwait.trans ((State.setTmb_confined _ _ _).mono (fun _ h => h) (by simp))
    · exact .refl s _ _

theorem State.moveEnded_tmb (s : State) :
    s.moveEnded.tmb.ents = s.tmb.ents ∧ s.moveEnded.tmb.inserts = s.tmb.inserts := by
  unfold State.moveEnded
  split
  · exact ⟨rfl, rfl⟩
  · split <;> exact ⟨rfl, rfl⟩

/-- LAST_MOVE_STEPS after an INSERT that moved entries. -/
def State.noteSteps (s : State) (q steps : Nat) : State :=
  if steps = 0 then s else s.setFld (Reg.TMB_MAINT q) Fld.TMB_MAINT_LAST_MOVE_STEPS steps

/-- ENT_CMD of an INSERT that has ended: its INDEX, BUSY 0. -/
def State.endCmd (s : State) (q target : Nat) : State :=
  (s.setFld (Reg.TMB_ENT_CMD q) Fld.TMB_ENT_CMD_INDEX target).setFld (Reg.TMB_ENT_CMD q) Fld.TMB_ENT_CMD_BUSY 0

/-- The new entry stands, in the pending generation alone, and no INSERT runs in the array (R111). -/
def State.placeNew (s : State) (q : Nat) (x : TmbInsert) : State :=
  (s.setEnt q x.target { x.entry with gens := BitVec.ofNat 4 (2 ^ s.genPendSlot) }).setInsert q none

theorem tmbInsertWrite_writes {s : State} {q : Nat} {x : TmbInsert} (hrun : s.insert q = some x) (hhole : x.hole = x.target) :
    tmbInsertWrite q s = ((((s.placeNew q x).tmbBump q Cnt.TMB_INSERTS).noteSteps q x.steps).endCmd q x.target).moveEnded := by
  simp only [tmbInsertWrite, hrun, hhole, ne_eq, not_true_eq_false, if_false]
  rfl

section
variable (s : State) (q n : Nat)

theorem State.noteSteps_confined : s.confined (s.noteSteps q n) [Reg.TMB_MAINT q] [.regs] := by
  unfold State.noteSteps
  split
  · exact .refl s _ _
  · exact s.setFld_confined _ _ _

theorem State.endCmd_confined : s.confined (s.endCmd q n) [Reg.TMB_ENT_CMD q] [.regs] :=
  (s.setFld_confined _ _ _).trans (State.setFld_confined _ _ _ _)

theorem State.endCmd_idle : (s.endCmd q n).tmbBusy q = false := State.flag_setFld_zero _ _ entCmdBusy_oneBit

theorem State.tmbBusy_moveEnded : s.moveEnded.tmbBusy q = s.tmbBusy q := by
  have hcmd : Reg.TMB_ENT_CMD q ∉ [Reg.TMB_GEN_CMD 0] := by
    simp only [Reg.TMB_ENT_CMD, Reg.TMB_GEN_CMD, List.mem_singleton]; omega
  exact State.flag_of_reg (s.moveEnded_confined.1 _ hcmd) _

/-- What follows the final write: the registers of ENT_CMD, MAINT and GEN_CMD. -/
theorem State.insertEnds_confined (steps target : Nat) : s.confined ((s.noteSteps q steps).endCmd q target).moveEnded
    [Reg.TMB_MAINT q, Reg.TMB_ENT_CMD q, Reg.TMB_GEN_CMD 0] [.regs, .tmb] :=
  (((s.noteSteps_confined q steps).mono (by simp) (by simp)).trans
    ((State.endCmd_confined _ q target).mono (by simp) (by simp))).trans ((State.moveEnded_confined _).mono (by simp) (by simp))

theorem State.insertEnds_tmb (steps target : Nat) :
    ((s.noteSteps q steps).endCmd q target).moveEnded.tmb.ents = s.tmb.ents
      ∧ ((s.noteSteps q steps).endCmd q target).moveEnded.tmb.inserts = s.tmb.inserts := by
  have htmb : ((s.noteSteps q steps).endCmd q target).tmb = s.tmb := (s.noteSteps_confined q steps).2.2 .tmb (by decide)
  obtain ⟨hents, hinserts⟩ := State.moveEnded_tmb ((s.noteSteps q steps).endCmd q target)
  exact ⟨hents.trans (congrArg TumblerSt.ents htmb), hinserts.trans (congrArg TumblerSt.inserts htmb)⟩

theorem insertEnds_lt_tmbCnt : ∀ a ∈ [Reg.TMB_MAINT q, Reg.TMB_ENT_CMD q, Reg.TMB_GEN_CMD 0], a < Reg.TMB_CNT q 0 := by
  simp only [List.mem_cons, List.not_mem_nil, or_false, Reg.TMB_MAINT, Reg.TMB_ENT_CMD, Reg.TMB_GEN_CMD, Reg.TMB_CNT]
  omega

end

section
variable {s : State} {q : Fin 4} {x : TmbInsert}

theorem exec_entInsert {t' : Fin 16} {i : Fin 262144} {target hole : Nat} (h : s.tmbCheck q.val 2 t'.val i.val = none)
    (hplace : s.placeFor q.val t'.val i.val = some (target, hole)) :
    ∃ t, exec (.entInsert q t' i) s = .next t ∧ t.tmbBusy q.val = true
      ∧ t.insert q.val = some ⟨t'.val, target, hole, 0, s.tmbNew q.val t'.val⟩ ∧ t.tmb.ents = s.tmb.ents
      ∧ s.onlyRegs t (Reg.TMB_ENT_CMD q.val :: moveRegs q.val) ∧ s.onlyParts t [.regs, .tmb] := by
  obtain ⟨hregs, hparts⟩ := ((s.tmbFields_confined q t' i).mono (by simp) (by simp)).trans (State.startInsert_confined _ q
    ⟨t', target, hole, 0, s.tmbNew q t'⟩ (TmbInsert.left ⟨t', target, hole, 0, s.tmbNew q t'⟩ (s.tmbWidth q t')))
  exact ⟨_, done_eq_next_of_eq (entInsert_accepted h hplace) hparts (by decide), State.startInsert_busy _ _ _ _,
    State.startInsert_insert _ _ _ _,
    (State.startInsert_ents _ _ _ _).trans (congrArg TumblerSt.ents (s.tmbFields_tmb q t' i)), hregs, hparts⟩

theorem exec_tmbMoveStep (hrun : s.insert q.val = some x) (hhole : s.pathHole q.val (s.tmbWidth q.val x.table) x = x.hole)
    (hup : x.target < x.hole) (hroom : s.tmbWidth q.val x.table ≤ x.hole) :
    ∃ t, exec (.tmbMoveStep q) s = .next t ∧ t.ent q.val x.hole = s.ent q.val (x.hole - s.tmbWidth q.val x.table)
      ∧ (t.ent q.val (x.hole - s.tmbWidth q.val x.table)).valid = false
      ∧ t.insert q.val = some { x with hole := x.hole - s.tmbWidth q.val x.table, steps := x.steps + 1 }
      ∧ (∀ j, j ≠ x.hole → j ≠ x.hole - s.tmbWidth q.val x.table → t.ent q.val j = s.ent q.val j)
      ∧ t.reg (Reg.TMB_CNT q.val Cnt.TMB_MOVE_STEPS) = s.reg (Reg.TMB_CNT q.val Cnt.TMB_MOVE_STEPS) + 1
      ∧ s.onlyParts t [.regs, .tmb, .lop] := by
  have hstep := tmbMoveStep_up hrun hhole hup
  have hne : x.hole - s.tmbWidth q x.table ≠ x.hole := by have := s.tmbWidth_pos q x.table; omega
  generalize x.hole - s.tmbWidth q x.table = src at hstep hne ⊢
  generalize (x.stepped src).left (s.tmbWidth q x.table) = left at hstep
  have hrest := State.onlyParts_trans (State.onlyParts_mono (s.moveEnt_rest q src x.hole) (by simp))
    ((s.moveEnt q src x.hole).noteStep_rest q (x.stepped src) left)
  have hent (j : Nat) := (State.noteStep_ent _ q (x.stepped src) left j).trans (s.ent_moveEnt q src x.hole j)
  exact ⟨_, done_eq_next_of_eq hstep hrest (by decide),
    (hent _).trans ((if_neg hne.symm).trans (if_pos rfl)), congrArg TmbEntry.valid ((hent _).trans (if_pos rfl)),
    State.noteStep_insert _ _ _ _, fun j hhole hsrc => (hent j).trans ((if_neg hsrc).trans (if_neg hhole)),
    State.noteStep_count _ _ _ _, hrest⟩

theorem exec_tmbInsertWrite (hrun : s.insert q.val = some x) (hhole : x.hole = x.target) :
    ∃ t, exec (.tmbInsertWrite q) s = .next t
      ∧ t.ent q.val x.target = { x.entry with gens := BitVec.ofNat 4 (2 ^ s.genPendSlot) } ∧ t.insert q.val = none
      ∧ t.tmbBusy q.val = false ∧ (∀ j, j ≠ x.target → t.ent q.val j = s.ent q.val j)
      ∧ t.reg (Reg.TMB_CNT q.val Cnt.TMB_INSERTS) = s.reg (Reg.TMB_CNT q.val Cnt.TMB_INSERTS) + 1
      ∧ s.onlyParts t [.regs, .tmb] := by
  have hplace : s.onlyParts (s.placeNew q x) [.tmb] :=
    State.onlyParts_trans (s.setEnt_confined q x.target _ []).2 (State.setInsert_confined _ q none []).2
  have hcounted := State.tmbBump_confined (s.placeNew q x) q Cnt.TMB_INSERTS
  have hends := State.insertEnds_confined ((s.placeNew q x).tmbBump q Cnt.TMB_INSERTS) q x.steps x.target
  obtain ⟨hents, hinserts⟩ := State.insertEnds_tmb ((s.placeNew q x).tmbBump q Cnt.TMB_INSERTS) q x.steps x.target
  have hrest := State.onlyParts_trans (State.onlyParts_trans (State.onlyParts_mono hplace (by simp))
    (State.onlyParts_mono hcounted.2 (by simp))) hends.2
  have hent (j : Nat) := (State.ent_of_ents hents q j).trans (s.ent_setEnt q x.target j _)
  have hcnt := (State.reg_tmbBump (s.placeNew q x) q Cnt.TMB_INSERTS _).trans (if_pos rfl)
  exact ⟨_, done_eq_next_of_eq (tmbInsertWrite_writes hrun hhole) hrest (by decide), (hent _).trans (if_pos rfl),
    (State.insert_of_inserts hinserts q).trans (State.insert_setInsert _ _ _),
    (State.tmbBusy_moveEnded _ q).trans (State.endCmd_idle _ _ _), fun j hj => (hent j).trans (if_neg hj),
    (hends.1 _ (tmbCnt_not_mem (insertEnds_lt_tmbCnt q) _)).trans hcnt, hrest⟩

end

/-- Settles O19: each command is followed through the entries, the running INSERT and the registers that it writes. -/
theorem tumblerEntryCommands : Obligations.TumblerEntryCommands :=
  ⟨fun _ _ _ _ h => exec_entRead h, fun _ _ _ _ _ _ h hplace => exec_entInsert h hplace,
    fun _ _ _ hrun hhole hup hroom => exec_tmbMoveStep hrun hhole hup hroom, fun _ _ _ hrun hhole => exec_tmbInsertWrite hrun hhole,
    fun _ _ _ _ h => exec_entDelete h, fun _ _ _ _ h => exec_entRepair h⟩

end Sys2Proof.Machine
end

section
/-! PROOF. Searches and the scrubber (R96 to R98, R102, R103), and O18. -/

namespace Sys2Proof.Machine

/-! ### The winner under a generation -/

/-- The registers by which a table is searched: its configuration, and the generation slots (R92, R104). -/
def searchRegs (q t : Nat) : List Nat := Reg.TMB_TABLE_CFG q t :: (List.range 4).map (Reg.TMB_GEN_SLOT 0)

section
variable {s t : State}

theorem State.slotOf_of_regs (h : ∀ i < 4, t.reg (Reg.TMB_GEN_SLOT 0 i) = s.reg (Reg.TMB_GEN_SLOT 0 i)) (gen : Nat) :
    t.slotOf gen = s.slotOf gen :=
  List.find?_congr fun i hi => by
    simp only [State.genOf, State.genState, State.fld_of_reg (h i (List.mem_range.1 hi))]

theorem State.tmbEntries_of_cfg {q n : Nat} (hents : t.tmb.ents = s.tmb.ents) (hcfg : t.reg (tmbCfg q n) = s.reg (tmbCfg q n)) :
    t.tmbEntries q n = s.tmbEntries q n := by
  have htable : t.tmbTableOk q n = s.tmbTableOk q n := State.flag_of_reg hcfg _
  have hrange : t.tmbRange q n = s.tmbRange q n := by simp only [State.tmbRange, State.fld_of_reg hcfg]
  rw [State.tmbEntries, State.tmbEntries, htable, hrange, hents]

/-- A search rests on the entries, the table's configuration and the generation slots alone. -/
theorem State.tmbWinner_of_regs {q n : Nat} (hents : t.tmb.ents = s.tmb.ents) (hregs : ∀ a ∈ searchRegs q n, t.reg a = s.reg a)
    (key : BitVec 320) (gen : Nat) (hide : Nat → Bool) : t.tmbWinner q n key gen hide = s.tmbWinner q n key gen hide := by
  have hslot : t.slotOf gen = s.slotOf gen := State.slotOf_of_regs
    (fun i hi => hregs _ (List.mem_cons_of_mem _ (List.mem_map_of_mem (List.mem_range.2 hi)))) gen
  rw [State.tmbWinner, State.tmbWinner, hslot, State.tmbEntries_of_cfg hents (hregs _ List.mem_cons_self)]

end

/-- The counters of an array are none of the registers by which a table is searched. -/
theorem searchRegs_ne_tmbCnt {q n : Nat} (c : Nat) (hn : n < 16) : ∀ a ∈ searchRegs q n, a ≠ Reg.TMB_CNT q c := by
  intro a ha
  simp only [searchRegs, List.mem_cons, List.mem_map, List.mem_range] at ha
  rcases ha with rfl | ⟨i, hi, rfl⟩
  · simp only [Reg.TMB_TABLE_CFG, Reg.TMB_CNT]; omega
  · simp only [Reg.TMB_GEN_SLOT, Reg.TMB_CNT]; omega

theorem State.tmbWinner_tmbBump (s : State) {q n : Nat} (c : Nat) (hn : n < 16) (key : BitVec 320) (gen : Nat)
    (hide : Nat → Bool) : (s.tmbBump q c).tmbWinner q n key gen hide = s.tmbWinner q n key gen hide :=
  State.tmbWinner_of_regs (s := s) (t := s.tmbBump q c) rfl
    (fun a ha => (s.reg_tmbBump q c a).trans (if_neg (searchRegs_ne_tmbCnt c hn a ha))) key gen hide

/-! ### A granted search -/

/-- What a search answers of its winner. -/
def SearchRes.ofWinner : Option (Nat × TmbEntry) → SearchRes
  | some w => .hit w.1 w.2.result
  | none => .miss

/-- The counter of a search's outcome. -/
def outcomeCnt (w : Option (Nat × TmbEntry)) : Nat := if w.isSome then Cnt.TMB_HITS else Cnt.TMB_MISSES

section
variable {s : State} {q n : Nat}

theorem State.tmbVerified_ok (s : State) (q n : Nat) (key : BitVec 320) (gen : Nat) : s.tmbVerified q n key gen .ok =
    (.ofWinner (s.tmbWinner q n key gen fun _ => false), s.tmbBump q (outcomeCnt (s.tmbWinner q n key gen fun _ => false))) := by
  unfold State.tmbVerified
  dsimp only
  cases s.tmbWinner q n key gen fun _ => false <;> rfl

/-- An array in service answers the winner of the table, counted as a search and as its outcome. -/
theorem State.tmbSearch_ok (hup : s.down (unitTumbler q) = false) (hn : n < 16) (key : BitVec 320) (gen : Nat) :
    s.tmbSearch q n key gen .ok = (.ofWinner (s.tmbWinner q n key gen fun _ => false),
      (s.tmbBump q Cnt.TMB_SEARCHES).tmbBump q (outcomeCnt (s.tmbWinner q n key gen fun _ => false))) := by
  rw [State.tmbSearch, hup, if_neg Bool.false_ne_true, State.tmbVerified_ok, State.tmbWinner_tmbBump _ _ hn]

theorem State.tmbSearch_fenced (hdown : s.down (unitTumbler q) = true) (key : BitVec 320) (gen : Nat) (c : TmbCheck) :
    s.tmbSearch q n key gen c = (.fenced, s.tmbBump q Cnt.TMB_FENCED_SEARCHES) := by
  rw [State.tmbSearch, hdown, if_pos rfl]

end

theorem outcomeCnt_ne_searches (w : Option (Nat × TmbEntry)) : Cnt.TMB_SEARCHES ≠ outcomeCnt w := by
  unfold outcomeCnt
  split <;> decide

/-! ### Grant and answer -/

/-- Requester `r` of the array was granted: `rest` of its searches wait. -/
def State.grantSearch (s : State) (q r : Nat) (rest : List SearchReq) : State :=
  { s with tmb := { s.tmb with
      lastReq := Tbl.set 7 s.tmb.lastReq q r, searches := Tbl.set [] s.tmb.searches (8 * q + r) rest } }

theorem State.grantSearch_rest (s : State) (q r : Nat) (rest : List SearchReq) : s.onlyParts (s.grantSearch q r rest) [.tmb] :=
  (s.setTmb_confined _ []).2

theorem State.grantSearch_ents (s : State) (q r : Nat) (rest : List SearchReq) :
    (s.grantSearch q r rest).tmb.ents = s.tmb.ents := rfl

theorem State.grantSearch_searches (s : State) (q r : Nat) (rest : List SearchReq) :
    Tbl.get [] (s.grantSearch q r rest).tmb.searches (8 * q + r) = rest :=
  (Tbl.get_set [] s.tmb.searches _ _ _).trans (if_pos rfl)

theorem State.grantSearch_lastReq (s : State) (q r : Nat) (rest : List SearchReq) :
    Tbl.get 7 (s.grantSearch q r rest).tmb.lastReq q = r :=
  (Tbl.get_set 7 s.tmb.lastReq _ _ _).trans (if_pos rfl)

/-- An answer becomes the route of a port's head frame `o`, which others follow. -/
def State.routeHead (s : State) (p : Nat) (o : OutFrame) (l : List OutFrame) (a : SearchRes) : State :=
  s.setPort p { s.port p with out := { o with stage := .routed, route := a } :: l }

theorem State.toSlice_waitRoute {s : State} {p : Nat} {o : OutFrame} {l : List OutFrame} (hout : (s.port p).out = o :: l)
    (hstage : o.stage = .waitRoute) (a : SearchRes) : s.toSlice p a = s.routeHead p o l a := by
  simp only [State.toSlice, hout, hstage, State.setOut, List.drop_succ_cons, List.drop_zero]
  rfl

theorem State.out_routeHead (s : State) (p : Nat) (o : OutFrame) (l : List OutFrame) (a : SearchRes) :
    ((s.routeHead p o l a).port p).out = { o with stage := .routed, route := a } :: l :=
  congrArg PortSt.out (s.port_setPort_self p _)

/-- The oldest search of the granted requester is made, and its answer returned to the slice that waits for it (R96). -/
theorem tumblerSearch_routes {s u : State} {q r p : Nat} {x : SearchReq} {rest : List SearchReq} {o : OutFrame} {l : List OutFrame}
    {c : TmbCheck} {a : SearchRes} (hnext : s.nextSearcher q = some r) (hqueue : Tbl.get [] s.tmb.searches (8 * q + r) = x :: rest)
    (hclient : x.client = .slice p) (hstage : o.stage = .waitRoute)
    (hsearch : (s.grantSearch q r rest).tmbSearch q x.table x.key x.gen c = (a, u)) (hout : (u.port p).out = o :: l) :
    tumblerSearch q c s = u.routeHead p o l a := by
  have hgrant : tumblerSearch q c s = ((s.grantSearch q r rest).tmbSearch q x.table x.key x.gen c).2.toSlice p
      ((s.grantSearch q r rest).tmbSearch q x.table x.key x.gen c).1 := by
    simp only [tumblerSearch, hnext, hqueue, hclient]
    rfl
  rw [hgrant, hsearch]
  exact State.toSlice_waitRoute hout hstage a

@[simp] theorem State.reg_routeHead (s : State) (p : Nat) (o : OutFrame) (l : List OutFrame) (a : SearchRes) (b : Nat) :
    (s.routeHead p o l a).reg b = s.reg b := s.reg_setPort p _ b

theorem State.routeHead_tmb (s : State) (p : Nat) (o : OutFrame) (l : List OutFrame) (a : SearchRes) :
    (s.routeHead p o l a).tmb = s.tmb := rfl

/-- A search that moves only registers once it is granted: what it changes in all. -/
theorem exec_tumblerSearch_routes {s u : State} {q : Fin 4} {r p : Nat} {x : SearchReq} {rest : List SearchReq} {o : OutFrame}
    {l : List OutFrame} {c : TmbCheck} {a : SearchRes} (hnext : s.nextSearcher q.val = some r)
    (hqueue : Tbl.get [] s.tmb.searches (8 * q.val + r) = x :: rest) (hclient : x.client = .slice p)
    (hout : (s.port p).out = o :: l) (hstage : o.stage = .waitRoute)
    (hsearch : (s.grantSearch q r rest).tmbSearch q x.table x.key x.gen c = (a, u))
    (hcount : (s.grantSearch q r rest).onlyParts u [.regs]) :
    exec (.tumblerSearch q c) s = .next (u.routeHead p o l a)
      ∧ (u.routeHead p o l a).tmb = (s.grantSearch q r rest).tmb ∧ s.onlyPort (u.routeHead p o l a) p
      ∧ s.onlyParts (u.routeHead p o l a) [.regs, .ports, .tmb] := by
  have hport : u.port p = s.port p := hcount.port_eq (by decide) p
  have hanswer := tumblerSearch_routes hnext hqueue hclient hstage hsearch (by rw [hport, hout])
  have hrest : s.onlyParts (u.routeHead p o l a) [.regs, .ports, .tmb] :=
    State.onlyParts_trans (State.onlyParts_trans (State.onlyParts_mono (s.grantSearch_rest q r rest) (by simp))
      (State.onlyParts_mono hcount (by simp))) (State.onlyParts_mono (u.setPort_rest p _) (by simp))
  exact ⟨done_eq_next_of_eq hanswer hrest (by decide), (u.routeHead_tmb p o l a).trans (hcount.2 .tmb (by decide)),
    State.onlyPort_trans (hcount.onlyPort (by decide) p) (u.onlyPort_setPort p _), hrest⟩

/-! ### The scrubber -/

/-- The scrubber's cursor stands at the next row (R102). -/
def State.scrubNext (s : State) (q : Nat) : State :=
  { s with tmb := { s.tmb with scrubRow := Tbl.set 0 s.tmb.scrubRow q ((Tbl.get 0 s.tmb.scrubRow q + 1) % 262144) } }

section
variable {s : State} {q : Nat} (hen : s.flag (Reg.TMB_CTL q) Fld.TMB_CTL_SCRUB_EN = true) (hup : s.down (unitTumbler q) = false)
include hen hup

theorem tumblerScrubRow_same : tumblerScrubRow q .same s = s.scrubNext q := if_neg (by simp [hen, hup])

theorem tumblerScrubRow_differs : tumblerScrubRow q .differs s = (s.scrubNext q).tmbBump q Cnt.TMB_SCRUB_CORRECTED :=
  if_neg (by simp [hen, hup])

end

section
variable {s : State} {q : Fin 4} {r p : Nat} {x : SearchReq} {rest : List SearchReq} {o : OutFrame} {l : List OutFrame}

theorem exec_tumblerSearch_wins (hnext : s.nextSearcher q.val = some r)
    (hqueue : Tbl.get [] s.tmb.searches (8 * q.val + r) = x :: rest) (hclient : x.client = .slice p)
    (hout : (s.port p).out = o :: l) (hstage : o.stage = .waitRoute) (htable : x.table < 16)
    (hup : s.down (unitTumbler q.val) = false) :
    ∃ t, exec (.tumblerSearch q .ok) s = .next t ∧ Tbl.get [] t.tmb.searches (8 * q.val + r) = rest
      ∧ Tbl.get 7 t.tmb.lastReq q.val = r
      ∧ (t.port p).out = { o with stage := .routed, route := .ofWinner (s.tmbWinner q.val x.table x.key x.gen fun _ => false) } :: l
      ∧ t.reg (Reg.TMB_CNT q.val Cnt.TMB_SEARCHES) = s.reg (Reg.TMB_CNT q.val Cnt.TMB_SEARCHES) + 1
      ∧ t.tmb.ents = s.tmb.ents ∧ s.onlyPort t p ∧ s.onlyParts t [.regs, .ports, .tmb] := by
  have hwinner : (s.grantSearch q r rest).tmbWinner q x.table x.key x.gen (fun _ => false)
      = s.tmbWinner q x.table x.key x.gen fun _ => false := State.tmbWinner_of_regs rfl (fun _ _ => rfl) _ _ _
  have hsearch := State.tmbSearch_ok (s := s.grantSearch q r rest) hup htable x.key x.gen
  rw [hwinner] at hsearch
  generalize s.tmbWinner q x.table x.key x.gen (fun _ => false) = w at hsearch ⊢
  have hcount := State.onlyParts_trans (State.tmbBump_confined (s.grantSearch q r rest) q Cnt.TMB_SEARCHES).2
    (State.tmbBump_confined _ q (outcomeCnt w)).2
  obtain ⟨hexec, htmb, hport, hrest⟩ := exec_tumblerSearch_routes hnext hqueue hclient hout hstage hsearch hcount
  refine ⟨_, hexec, ?_, ?_, State.out_routeHead _ p o l _, ?_, ?_, hport, hrest⟩
  · rw [htmb, State.grantSearch_searches]
  · rw [htmb, State.grantSearch_lastReq]
  · rw [State.reg_routeHead, State.reg_tmbBump, if_neg (tmbCnt_ne (outcomeCnt_ne_searches w)), State.reg_tmbBump, if_pos rfl]
    rfl
  · rw [htmb, State.grantSearch_ents]

theorem exec_tumblerSearch_fenced (hnext : s.nextSearcher q.val = some r)
    (hqueue : Tbl.get [] s.tmb.searches (8 * q.val + r) = x :: rest) (hclient : x.client = .slice p)
    (hout : (s.port p).out = o :: l) (hstage : o.stage = .waitRoute) (hdown : s.down (unitTumbler q.val) = true) :
    ∃ t, exec (.tumblerSearch q .ok) s = .next t ∧ (t.port p).out = { o with stage := .routed, route := .fenced } :: l
      ∧ t.reg (Reg.TMB_CNT q.val Cnt.TMB_FENCED_SEARCHES) = s.reg (Reg.TMB_CNT q.val Cnt.TMB_FENCED_SEARCHES) + 1
      ∧ s.onlyRegs t [Reg.TMB_CNT q.val Cnt.TMB_FENCED_SEARCHES] ∧ s.onlyParts t [.regs, .ports, .tmb] := by
  have hsearch := State.tmbSearch_fenced (s := s.grantSearch q r rest) (n := x.table) hdown x.key x.gen .ok
  obtain ⟨hregs, hcount⟩ := (s.grantSearch q r rest).tmbBump_confined q Cnt.TMB_FENCED_SEARCHES
  obtain ⟨hexec, -, -, hrest⟩ := exec_tumblerSearch_routes hnext hqueue hclient hout hstage hsearch hcount
  refine ⟨_, hexec, State.out_routeHead _ p o l _, ?_, fun b hb => (State.reg_routeHead _ p o l _ b).trans (hregs b hb), hrest⟩
  rw [State.reg_routeHead, State.reg_tmbBump, if_pos rfl]
  rfl

end

theorem exec_tumblerScrubRow_differs {s : State} {q : Fin 4} (hen : s.flag (Reg.TMB_CTL q.val) Fld.TMB_CTL_SCRUB_EN = true)
    (hup : s.down (unitTumbler q.val) = false) : ∃ t, exec (.tumblerScrubRow q .differs) s = .next t
      ∧ Tbl.get 0 t.tmb.scrubRow q.val = (Tbl.get 0 s.tmb.scrubRow q.val + 1) % 262144
      ∧ t.reg (Reg.TMB_CNT q.val Cnt.TMB_SCRUB_CORRECTED) = s.reg (Reg.TMB_CNT q.val Cnt.TMB_SCRUB_CORRECTED) + 1
      ∧ t.tmb.ents = s.tmb.ents ∧ s.onlyRegs t [Reg.TMB_CNT q.val Cnt.TMB_SCRUB_CORRECTED] ∧ s.onlyParts t [.regs, .tmb] := by
  have hscrub := s.setTmb_confined (s.scrubNext q).tmb [Reg.TMB_CNT q Cnt.TMB_SCRUB_CORRECTED]
  obtain ⟨hregs, hparts⟩ := (hscrub.mono (fun _ h => h) (parts' := [.regs, .tmb]) (by simp)).trans
    ((State.tmbBump_confined (s.scrubNext q) q Cnt.TMB_SCRUB_CORRECTED).mono (fun _ h => h) (by simp))
  exact ⟨_, done_eq_next_of_eq (tumblerScrubRow_differs hen hup) hparts (by decide),
    (Tbl.get_set 0 s.tmb.scrubRow _ _ _).trans (if_pos rfl), (State.reg_tmbBump _ _ _ _).trans (if_pos rfl), rfl, hregs, hparts⟩

/-- Settles O18: the granted search is followed to the port's head frame; a scrub step through its cursor and its counter. -/
theorem tumblerSearches : Obligations.TumblerSearches :=
  ⟨fun _ _ _ _ _ _ _ _ hnext hqueue hclient hout hstage htable hup =>
      exec_tumblerSearch_wins hnext hqueue hclient hout hstage htable hup,
    fun _ _ _ _ _ _ _ _ hnext hqueue hclient hout hstage hdown =>
      exec_tumblerSearch_fenced hnext hqueue hclient hout hstage hdown,
    fun _ _ hen hup => exec_tumblerScrubRow_differs hen hup, fun s _ hen hup => congrArg (done s) (tumblerScrubRow_same hen hup)⟩

end Sys2Proof.Machine
end

section
/-! PROOF. Frames with sets of registers, and what the DMCs leave: an access to a device line moves registers of chip-wide units and
of the DMCs, and the DRAM tier's own state (R254 to R272). -/

namespace Sys2Proof.Machine

/-! ### Changes within a set of registers -/

/-- `t` is `s` but for registers in `R` and the parts of `l`. -/
def State.within (s t : State) (R : Set Nat) (l : List Part) : Prop := (∀ a, a ∉ R → t.reg a = s.reg a) ∧ s.onlyParts t l

/-- The registers of chip-wide units and of the DMCs, below those of slices, Tumbler arrays and shards (R456). -/
def lowRegs : Set Nat := {a | a < 0x2000000}

@[simp] theorem mem_lowRegs {a : Nat} : a ∈ lowRegs ↔ a < 0x2000000 := Iff.rfl

section
variable {s t u : State} {R R' : Set Nat} {l l' : List Part}

theorem State.within.refl (s : State) (R : Set Nat) (l : List Part) : s.within s R l := ⟨fun _ _ => rfl, s.onlyParts_refl l⟩

theorem State.within.trans (a : s.within t R l) (b : t.within u R l) : s.within u R l :=
  ⟨fun x hx => (b.1 x hx).trans (a.1 x hx), State.onlyParts_trans a.2 b.2⟩

theorem State.within.mono (a : s.within t R l) (hR : R ⊆ R') (hl : ∀ p ∈ l, p ∈ l') : s.within t R' l' :=
  ⟨fun x hx => a.1 x fun h => hx (hR h), State.onlyParts_mono a.2 hl⟩

theorem State.within.parts (a : s.within t R l) (hl : ∀ p ∈ l, p ∈ l') : s.within t R l' := a.mono (fun _ h => h) hl

theorem State.onlyParts.within (h : s.onlyParts t l) (hl : Part.regs ∉ l) (R : Set Nat) : s.within t R l :=
  ⟨fun a _ => h.reg_eq hl a, h⟩

theorem State.within.onlyRegs {m : List Nat} (a : s.within t R l) (h : ∀ x ∈ R, x ∈ m) : s.onlyRegs t m :=
  fun x hx => a.1 x fun hR => hx (h x hR)

theorem State.setReg_within (s : State) {a : Nat} (h : a ∈ R) (v : Word64) : s.within (s.setReg a v) R [.regs] :=
  ⟨fun b hb => (s.reg_setReg a b v).trans (if_neg (ne_of_mem_of_not_mem h hb).symm), s.setReg_rest a v⟩

theorem State.setFld_within (s : State) {a : Nat} (h : a ∈ R) (f : Fld) (x : Nat) : s.within (s.setFld a f x) R [.regs] :=
  s.setReg_within h _

theorem State.orFld_within (s : State) {a : Nat} (h : a ∈ R) (f : Fld) (x : Nat) : s.within (s.orFld a f x) R [.regs] :=
  s.setReg_within h _

theorem State.bump_within (s : State) {a : Nat} (h : a ∈ R) : s.within (s.bump a) R [.regs] := s.setReg_within h _

theorem forUpTo_within {f : Nat → State → State} (h : ∀ (i : Nat) (t : State), t.within (f i t) R l) (n : Nat) (s : State) :
    s.within (forUpTo n f s) R l :=
  forUpTo_induct (fun t => s.within t R l) n f s (.refl s R l) fun i t _ ht => ht.trans (h i t)

theorem forEach_within {α : Type} {f : α → State → State} (h : ∀ (x : α) (t : State), t.within (f x t) R l) (xs : List α)
    (s : State) : s.within (forEach xs f s) R l :=
  forEach_induct (fun t => s.within t R l) xs f s (.refl s R l) fun x t _ ht => ht.trans (h x t)
end

/-! ### Messages -/

/-- A source's unit has a number of R385, or one that stands for no unit. -/
theorem unitOf_lt {src u : Nat} (h : unitOf src = some u) : u < 2000 := by
  have hi : src % 1024 < 1024 := Nat.mod_lt _ (by decide)
  unfold unitOf at h
  dsimp only at h
  split at h <;> simp only [Option.some.injEq, reduceCtorEq] at h <;> omega

theorem State.detect_within (s : State) (src kind cls addr : Nat) :
    s.within (s.detect src kind cls addr) lowRegs [.regs, .fault] := by
  refine ⟨fun a ha => ?_, s.detect_rest src kind cls addr⟩
  rw [mem_lowRegs, not_lt] at ha
  have hsent : (s.sendFault src kind cls addr).reg a = s.reg a :=
    s.sendFault_regs _ _ _ _ a (by simp only [List.mem_singleton, Reg.FLT_CNT, Cnt.FLT_SRC_OVF_LOST]; omega)
  unfold State.detect
  split
  · exact hsent
  · next u hu =>
    have hlt := unitOf_lt hu
    split
    · exact s.shadow_regs u a (by
        simp only [List.mem_cons, List.not_mem_nil, or_false, Reg.FLT_UNIT, Reg.FLT_CNT, Cnt.FLT_SHADOWED]; omega)
    · exact hsent

/-! ### The place of a line -/

/-- A device line lies in one of the twelve channels (R250). -/
theorem State.locate_ch {s : State} {l : Nat} {a : LineAt} (h : s.locate l = some a) : a.ch < 12 := by
  unfold State.locate at h
  split at h
  · exact absurd h (by simp)
  · dsimp only at h
    split at h
    · exact absurd h (by simp)
    · next c hc =>
      obtain rfl := Option.some.inj h
      exact List.mem_range.1 (List.mem_filter.1 (List.mem_of_getElem? hc)).1

theorem dmcCnt_low {c i : Nat} (hc : c < 12) (hi : i < 32) : Reg.DMC_CNT c i ∈ lowRegs := by
  simp only [mem_lowRegs, Reg.DMC_CNT]; omega

theorem dmcStatus_low {c : Nat} (hc : c < 12) : Reg.DMC_STATUS c ∈ lowRegs := by
  simp only [mem_lowRegs, Reg.DMC_STATUS]; omega

theorem dmcMig_low {c : Nat} (hc : c < 12) : Reg.DMC_MIG c ∈ lowRegs := by
  simp only [mem_lowRegs, Reg.DMC_MIG]; omega

/-! ### Queues and rows: what a line holds stands -/

/-- Registers below the shards' and the DRAM tier's bookkeeping may differ; the bytes of device memory are the same. -/
def State.sameLines (s t : State) : Prop := s.within t lowRegs [.regs, .dram] ∧ t.dram.bytes = s.dram.bytes

theorem State.sameLines.refl (s : State) : s.sameLines s := ⟨.refl s _ _, rfl⟩

theorem State.sameLines.trans {s t u : State} (a : s.sameLines t) (b : t.sameLines u) : s.sameLines u :=
  ⟨a.1.trans b.1, b.2.trans a.2⟩

theorem State.sameLines.lineBytes {s t : State} (h : s.sameLines t) (l : Nat) : t.lineBytes l = s.lineBytes l := by
  rw [State.lineBytes, State.lineBytes, h.2]

theorem State.setDram_within (s : State) (x : DramSt) (R : Set Nat) : s.within { s with dram := x } R [.dram] :=
  ⟨fun _ _ => rfl, rfl, fun p hp => by
    cases p with
    | dram => exact absurd hp (by simp)
    | _ => rfl⟩

theorem State.setSub_sameLines (s : State) (c k : Nat) (x : DmcSub) : s.sameLines (s.setSub c k x) :=
  ⟨(s.setDram_within _ _).parts (by simp), rfl⟩

theorem State.setPoison_sameLines (s : State) (l : Nat) (b : Bool) : s.sameLines (s.setPoison l b) :=
  ⟨(s.setDram_within _ _).parts (by simp), rfl⟩

theorem State.setFld_sameLines (s : State) {a : Nat} (h : a ∈ lowRegs) (f : Fld) (x : Nat) : s.sameLines (s.setFld a f x) :=
  ⟨(s.setFld_within h f x).parts (by simp), rfl⟩

theorem State.orFld_sameLines (s : State) {a : Nat} (h : a ∈ lowRegs) (f : Fld) (x : Nat) : s.sameLines (s.orFld a f x) :=
  ⟨(s.orFld_within h f x).parts (by simp), rfl⟩

section
variable {c : Nat}

theorem State.dmcBump_sameLines (s : State) (hc : c < 12) {i : Nat} (hi : i < 32) : s.sameLines (s.dmcBump c i) :=
  ⟨(s.bump_within (dmcCnt_low hc hi)).parts (by simp), rfl⟩

theorem State.bgCount_sameLines (s : State) (hc : c < 12) (fg : Bool) : s.sameLines (s.bgCount c fg) := by
  unfold State.bgCount
  split
  · exact .refl s
  · exact s.dmcBump_sameLines hc (by decide)

theorem State.lostRead_sameLines (s : State) (hc : c < 12) : s.sameLines (s.lostRead c) :=
  (s.dmcBump_sameLines hc (by decide)).trans (State.setFld_sameLines _ (dmcStatus_low hc) _ _)

theorem State.lostWrite_sameLines (s : State) (hc : c < 12) : s.sameLines (s.lostWrite c) :=
  (s.dmcBump_sameLines hc (by decide)).trans (State.setFld_sameLines _ (dmcStatus_low hc) _ _)

theorem State.rowTouchIn_sameLines (s : State) {a : LineAt} (ha : a.ch < 12) (rank : Nat) : s.sameLines (s.rowTouchIn a rank) := by
  unfold State.rowTouchIn
  refine State.sameLines.trans ?_ (State.setSub_sameLines _ _ _ _)
  split
  · exact .refl s
  · split
    · exact s.dmcBump_sameLines ha (by decide)
    · exact s.dmcBump_sameLines ha (by decide)

theorem State.issueWrite_sameLines (s : State) (hc : c < 12) (k i : Nat) : s.sameLines (s.issueWrite c k i) := by
  unfold State.issueWrite
  dsimp only
  split
  · exact .refl s
  · have hcount (x : DmcSub) : s.sameLines ((s.setSub c k x).dmcBump c Cnt.DMC_WRITES) :=
      (s.setSub_sameLines c k x).trans (State.dmcBump_sameLines _ hc (by decide))
    split
    · exact hcount _
    · next a ha => exact (hcount _).trans (State.rowTouchIn_sameLines _ (State.locate_ch ha) _)

theorem State.issueOldest_sameLines (s : State) (hc : c < 12) (k : Nat) : s.sameLines (s.issueOldest c k) := by
  unfold State.issueOldest
  dsimp only
  split
  · exact .refl s
  · exact s.issueWrite_sameLines hc _ _

theorem State.drainCheck_sameLines (s : State) (hc : c < 12) (k : Nat) : s.sameLines (s.drainCheck c k) := by
  unfold State.drainCheck
  dsimp only
  split
  · split
    · exact s.setSub_sameLines _ _ _
    · exact .refl s
  · split
    · exact (s.setSub_sameLines _ _ _).trans (State.dmcBump_sameLines _ hc (by decide))
    · exact .refl s

theorem State.finishDrain_sameLines (s : State) (hc : c < 12) (k : Nat) : s.sameLines (s.finishDrain c k) := by
  unfold State.finishDrain
  split
  · refine forUpTo_induct (fun t => s.sameLines t) 128 _ s (.refl s) fun _ t _ ht => ht.trans ?_
    split
    · exact t.issueOldest_sameLines hc k
    · exact .refl t
  · exact .refl s

theorem State.queueWrite_sameLines (s : State) {a : LineAt} (ha : a.ch < 12) (l : Nat) (fg : Bool) :
    s.sameLines (s.queueWrite a l fg) := by
  unfold State.queueWrite
  dsimp only
  split
  · exact s.dmcBump_sameLines ha (by decide)
  · refine State.sameLines.trans ?_ ((State.setSub_sameLines _ _ _ _).trans (State.drainCheck_sameLines _ ha _))
    split
    · exact s.issueOldest_sameLines ha _
    · exact .refl s

theorem State.startMigration_sameLines (s : State) (hc : c < 12) (r : Nat) (fill : Bool) : s.sameLines (s.startMigration c r fill) := by
  have hmig (t : State) (f : Fld) (x : Nat) : t.sameLines (t.setFld (Reg.DMC_MIG c) f x) := t.setFld_sameLines (dmcMig_low hc) f x
  unfold State.startMigration
  extract_lets p a noted sub0 c0 sub1 c1
  split
  · have hnoted : s.sameLines noted := ((hmig s _ _).trans (hmig _ _ _)).trans (hmig _ _ _)
    clear_value noted
    have hcursor : noted.sameLines c1 := ((noted.setSub_sameLines c 0 _).trans (c0.setSub_sameLines c 1 _)).trans (hmig _ _ _)
    exact (hnoted.trans hcursor).trans (c1.setFld_sameLines (dmcStatus_low hc) _ _)
  · exact .refl s

theorem State.rankFail_sameLines (s : State) (hc : c < 12) (r : Nat) (unreadable : Bool) : s.sameLines (s.rankFail c r unreadable) := by
  have hout (t : State) (n : Nat) : t.sameLines (t.orFld (Reg.DMC_STATUS c) Fld.DMC_STATUS_RANK_OUT n) :=
    t.orFld_sameLines (dmcStatus_low hc) _ n
  unfold State.rankFail
  extract_lets moving out ended
  have hfailed : s.sameLines out := hout s _
  clear_value out
  split
  · exact ((hfailed.trans (hout out _)).trans (State.setFld_sameLines _ (dmcMig_low hc) _ _)).trans
      (State.setFld_sameLines _ (dmcStatus_low hc) _ _)
  · split
    · exact hfailed.trans (out.setFld_sameLines (dmcMig_low hc) _ _)
    · exact hfailed.trans (out.startMigration_sameLines hc _ _)
end

/-! ### Accesses -/

/-- Parts that an access to device memory may change. -/
def dramParts : List Part := [.regs, .dram, .fault]

/-- An access to device memory: no register of slices, arrays or shards, no part but the DRAM tier and the collector. -/
def State.dramStep (s t : State) : Prop := s.within t lowRegs dramParts

theorem State.sameLines.dramStep {s t : State} (h : s.sameLines t) : s.dramStep t := h.1.parts (by simp [dramParts])

theorem State.dramShadow_dramStep (s : State) {c : Nat} (hc : c < 12) : s.dramStep (s.dramShadow c) :=
  (s.dmcBump_sameLines hc (by decide)).dramStep.trans
    ((State.setFld_within _ (by simp only [mem_lowRegs, Reg.FLT_UNIT, unitDmc]; omega) _ _).trans
      (State.bump_within _ (mem_lowRegs.2 (by decide))) |>.parts (by simp [dramParts]))

theorem State.dramCe_dramStep (s : State) {a : LineAt} (ha : a.ch < 12) (l : Nat) : s.dramStep (s.dramCe a l) := by
  have hlow : Reg.DMC_ERR_CE a.ch ∈ lowRegs := by simp only [mem_lowRegs, Reg.DMC_ERR_CE]; omega
  unfold State.dramCe
  dsimp only
  split
  · exact s.dramShadow_dramStep ha
  · have hnoted := ((s.dmcBump_sameLines ha (i := Cnt.DMC_CE_CORRECTED) (by decide)).trans
      (State.setFld_sameLines _ hlow Fld.DMC_ERR_CE_ADDR (64 * l))).trans (State.setFld_sameLines _ hlow Fld.DMC_ERR_CE_VALID 1)
    have hqueued (t : State) : t.sameLines ((t.bgCount a.ch false).queueWrite a l false) :=
      (t.bgCount_sameLines ha false).trans (State.queueWrite_sameLines _ ha l false)
    exact (hnoted.dramStep.trans ((State.detect_within _ _ _ _ _).parts (by simp [dramParts]))).trans (hqueued _).dramStep

theorem State.dramUe_dramStep (s : State) {a : LineAt} (ha : a.ch < 12) (l : Nat) : s.dramStep (s.dramUe a l) := by
  have hlow : Reg.DMC_ERR_UE a.ch ∈ lowRegs := by simp only [mem_lowRegs, Reg.DMC_ERR_UE]; omega
  unfold State.dramUe
  extract_lets c r masked lost seen counted e noted
  have hseen : s.sameLines seen := (s.setPoison_sameLines l true).trans (State.setFld_sameLines _ (dmcStatus_low ha) _ _)
  have hnoted : seen.sameLines noted := by
    refine (seen.dmcBump_sameLines ha (i := Cnt.DMC_UE) (by decide)).trans ?_
    show counted.sameLines noted
    unfold noted
    split
    · exact .refl counted
    · exact (counted.setFld_sameLines hlow _ _).trans (State.setFld_sameLines _ hlow _ _)
  clear_value noted
  split
  · exact hseen.dramStep.trans (seen.dramShadow_dramStep ha)
  · exact ((hseen.trans hnoted).dramStep.trans ((noted.detect_within _ _ _ _).parts (by simp [dramParts]))).trans
      (State.rankFail_sameLines _ ha _ _).dramStep

/-- A read of a device line. -/
theorem State.dramRead_dramStep (s : State) (l : Nat) (fg : Bool) (e : Ecc) : s.dramStep (s.dramRead l fg e).2 := by
  unfold State.dramRead
  split
  · exact .refl s _ _
  · next a hat =>
    have ha := State.locate_ch hat
    refine (s.bgCount_sameLines ha fg).dramStep.trans ?_
    generalize s.bgCount a.ch fg = t
    dsimp only
    split
    · exact (t.lostRead_sameLines ha).dramStep
    · split
      · exact (t.dmcBump_sameLines ha (by decide)).dramStep
      · have hread : t.sameLines (((t.finishDrain a.ch a.sub).dmcBump a.ch Cnt.DMC_READS).rowTouch a) :=
          ((t.finishDrain_sameLines ha a.sub).trans (State.dmcBump_sameLines _ ha (by decide))).trans
            (State.rowTouchIn_sameLines _ ha _)
        cases e with
        | ok => exact hread.dramStep
        | corrected => exact hread.dramStep.trans (State.dramCe_dramStep _ ha l)
        | uncorrectable => exact hread.dramStep.trans (State.dramUe_dramStep _ ha l)

/-- A write of a device line. -/
theorem State.dramWrite_within (s : State) (l : Nat) (bytes : List Byte) (fg : Bool) :
    s.within (s.dramWrite l bytes fg).2 lowRegs [.regs, .dram] := by
  unfold State.dramWrite
  split
  · exact .refl s _ _
  · next a hat =>
    have ha := State.locate_ch hat
    refine (s.bgCount_sameLines ha fg).1.trans ?_
    generalize s.bgCount a.ch fg = t
    dsimp only
    split
    · exact (t.lostWrite_sameLines ha).1
    · exact ((t.setDram_within _ _).parts (by simp)).trans
        ((State.setPoison_sameLines _ l false).trans (State.queueWrite_sameLines _ ha l fg)).1

theorem State.countRmw_sameLines (s : State) (l : Nat) : s.sameLines (s.countRmw l) := by
  unfold State.countRmw
  split
  · exact .refl s
  · next a hat => exact s.dmcBump_sameLines (State.locate_ch hat) (by decide)

end Sys2Proof.Machine
end

section
/-! PROOF. Device lines read and written (R254, R259, R269), and what the mirror queues and the registers of a shard leave. -/

namespace Sys2Proof.Machine

/-! ### Where a line lies depends on low registers alone -/

section
variable {s t : State}

theorem State.locate_congr (h : ∀ a ∈ lowRegs, t.reg a = s.reg a) (l : Nat) : t.locate l = s.locate l := by
  have hpop {c : Nat} (hc : c < 12) (f : Fld) : t.fld (Reg.DMC_POP c) f = s.fld (Reg.DMC_POP c) f :=
    State.fld_of_reg (h _ (by simp only [mem_lowRegs, Reg.DMC_POP]; omega)) f
  have hspace : t.space = s.space := State.fld_of_reg (h _ (by simp [Reg.DMC_SPACE])) _
  have hchannels : t.channels = s.channels :=
    List.filter_congr fun c hc => by simp only [State.populated, hpop (List.mem_range.1 hc)]
  have hrl {c : Nat} (hc : c < 12) : t.rlLog c = s.rlLog c := by simp only [State.rlLog, hpop hc]
  simp only [State.locate, hspace, hchannels]
  split
  · rfl
  · split
    · rfl
    · next c hfound => rw [hrl (List.mem_range.1 (List.mem_filter.1 (List.mem_of_getElem? hfound)).1)]

theorem State.rankDead_congr (h : ∀ a ∈ lowRegs, t.reg a = s.reg a) (hdram : t.dram = s.dram) {a : LineAt} (ha : a.ch < 12) :
    t.rankDead a = s.rankDead a := by
  have hunit : t.down (unitDmc a.ch) = s.down (unitDmc a.ch) := by
    simp only [State.down, State.unitState, State.fld_of_reg (h _ (show Reg.FLT_UNIT (unitDmc a.ch) ∈ lowRegs by
      simp only [mem_lowRegs, Reg.FLT_UNIT, unitDmc]; omega))]
  have hspare : t.bySpare a = s.bySpare a := by
    unfold State.bySpare State.migState State.migSrc State.sub
    rw [hdram, State.fld_of_reg (h _ (dmcMig_low ha)), State.fld_of_reg (h _ (dmcMig_low ha))]
  unfold State.rankDead State.rankOut State.migState State.migSrc State.migDst
  rw [hunit, hspare, State.fld_of_reg (h _ (dmcStatus_low ha)), State.fld_of_reg (h _ (dmcMig_low ha)),
    State.fld_of_reg (h _ (dmcMig_low ha)), State.fld_of_reg (h _ (dmcMig_low ha))]

/-! ### Reads -/

/-- What a foreground read of a line answers (R259, R269): a forwarded write, or the line unless its rank or it is lost. -/
def State.lineRead (s : State) (l : Nat) (e : Ecc) : Option (List Byte) :=
  match s.locate l with
  | none => none
  | some a =>
    if s.rankDead a || s.poisoned l then none
    else if (s.sub a.ch a.sub).writeQ.contains l then some (s.lineBytes l)
    else if e = .uncorrectable then none else some (s.lineBytes l)

theorem State.dramRead_answer (s : State) (l : Nat) (e : Ecc) : (s.dramRead l true e).1 = s.lineRead l e := by
  unfold State.dramRead State.lineRead
  cases hat : s.locate l with
  | none => rfl
  | some a =>
    have ha := State.locate_ch hat
    have hbytes : State.lineBytes (((s.finishDrain a.ch a.sub).dmcBump a.ch Cnt.DMC_READS).rowTouch a) l = s.lineBytes l :=
      (((s.finishDrain_sameLines ha a.sub).trans (State.dmcBump_sameLines _ ha (by decide))).trans
        (State.rowTouchIn_sameLines _ ha _)).lineBytes l
    simp only [State.bgCount, if_true]
    split
    · rfl
    · split
      · rfl
      · cases e <;> simp [hbytes]

/-- A foreground read answers the same in states that share the DRAM tier and the low registers. -/
theorem State.dramRead_congr (h : ∀ a ∈ lowRegs, t.reg a = s.reg a) (hdram : t.dram = s.dram) (l : Nat) (e : Ecc) :
    (t.dramRead l true e).1 = (s.dramRead l true e).1 := by
  rw [State.dramRead_answer, State.dramRead_answer]
  unfold State.lineRead
  rw [State.locate_congr h]
  cases hat : s.locate l with
  | none => rfl
  | some a =>
    dsimp only
    unfold State.poisoned State.sub State.lineBytes
    rw [State.rankDead_congr h hdram (State.locate_ch hat), hdram]

end

/-! ### Writes -/

theorem memRead_eq_map (m : Tbl Byte) (a n : Nat) : memRead m a n = (List.range n).map fun i => Tbl.get 0#8 m (a + i) := by
  induction n generalizing a with
  | zero => rfl
  | succ n ih =>
    simp only [memRead, ih, List.range_succ_eq_map, List.map_cons, List.map_map, Function.comp_def, Nat.add_assoc, Nat.add_comm 1,
      Nat.succ_eq_add_one, Nat.add_zero]

/-- A line after 64 bytes were stored in line `l`: those bytes there, the old ones in every other line. -/
theorem memRead_memWrite_line (m : Tbl Byte) {b : List Byte} (hb : b.length = 64) (l k : Nat) :
    memRead (memWrite m (64 * l) b) (64 * k) 64 = if k = l then b else memRead m (64 * k) 64 := by
  simp only [memRead_eq_map, memWrite_get, hb]
  split
  · next hk =>
    subst hk
    refine List.ext_getElem (by simp [hb]) fun i hi hi' => ?_
    rw [List.length_map, List.length_range] at hi
    rw [List.getElem_map, List.getElem_range, if_pos (by omega), Nat.add_sub_cancel_left, List.getD_eq_getElem _ _ hi']
  · next hk =>
    refine List.map_congr_left fun i hi => if_neg ?_
    have := List.mem_range.1 hi
    omega

theorem bytesAt_length (b : List Byte) (o n : Nat) : (bytesAt b o n).length = n := by
  simp only [bytesAt, List.length_append, List.length_take, List.length_drop, List.length_replicate]
  omega

theorem bytesAt_whole {b : List Byte} {n : Nat} (h : b.length = n) : bytesAt b 0 n = b := by
  simp [bytesAt, ← h]

/-- A foreground write that is not discarded: its line holds the bytes, every other line what it held. -/
theorem State.dramWrite_lineBytes {s : State} {l : Nat} {a : LineAt} (hat : s.locate l = some a) (halive : s.rankDead a = false)
    (hsound : s.poisoned l = false) (b : List Byte) (k : Nat) :
    (s.dramWrite l b true).2.lineBytes k = if k = l then bytesAt b 0 64 else s.lineBytes k := by
  have ha := State.locate_ch hat
  simp only [State.dramWrite, hat, State.bgCount, if_true, halive, hsound, Bool.false_eq_true, false_and, or_self, if_false]
  rw [(State.queueWrite_sameLines _ ha l true).lineBytes, (State.setPoison_sameLines _ l false).lineBytes]
  exact memRead_memWrite_line _ (bytesAt_length b 0 64) l k

theorem leBytes_length (n x : Nat) : (leBytes n x).length = n := by
  induction n generalizing x with
  | zero => rfl
  | succ n ih => rw [leBytes, List.length_cons, ih]

theorem bytesOf_length (l : List Word64) : (bytesOf l).length = 8 * l.length := by
  simp only [bytesOf, List.length_flatMap, leBytes_length, List.map_const', List.sum_replicate, smul_eq_mul]
  omega

/-! ### The mirror queues (R418, R421) -/

theorem State.setTwin_within (s : State) (x : TwinSt) (R : Set Nat) : s.within { s with twin := x } R [.twin] :=
  ⟨fun _ _ => rfl, rfl, fun p hp => by
    cases p with
    | twin => exact absurd hp (by simp)
    | _ => rfl⟩

/-- Parts that an entry for the partner may change. -/
def mirrorParts : List Part := [.regs, .twin, .fault]

theorem State.desync_within (s : State) : s.within s.desync lowRegs mirrorParts := by
  unfold State.desync
  split
  · exact .refl s _ _
  · exact ((s.setFld_within (mem_lowRegs.2 (by decide)) _ _).parts (by simp [mirrorParts])).trans
      ((State.detect_within _ _ _ _ _).parts (by simp [mirrorParts]))

theorem State.pushEntry_within (s : State) (h : Nat) (e : List Byte) : s.within (s.pushEntry h e) lowRegs mirrorParts := by
  unfold State.pushEntry
  extract_lets q twin lost
  split
  · have hlost : s.within lost lowRegs mirrorParts := (s.setTwin_within _ _).parts (by simp [mirrorParts])
    clear_value lost
    exact (hlost.trans ((lost.bump_within (mem_lowRegs.2 (by decide))).parts (by simp [mirrorParts]))).trans (State.desync_within _)
  · exact (s.setTwin_within _ _).parts (by simp [mirrorParts])

theorem State.sendDelta_within (s : State) (h : Nat) (x : Word64) : s.within (s.sendDelta h x) lowRegs mirrorParts := by
  unfold State.sendDelta
  split
  · exact .refl s _ _
  · exact ((s.setTwin_within _ _).parts (by simp [mirrorParts])).trans (State.pushEntry_within _ _ _)

theorem State.mirrorDelete_within (s : State) (h : Nat) (x : Word64) (old : List Word64) :
    s.within (s.mirrorDelete h x old) lowRegs mirrorParts := by
  unfold State.mirrorDelete
  split
  · exact .refl s _ _
  · exact (s.sendDelta_within h x).trans (State.pushEntry_within _ _ _)

end Sys2Proof.Machine
end

section
/-! PROOF. Rules of a shard's state: what a change of one shard leaves, and what its ways, threads and locks read after a write. -/

namespace Sys2Proof.Machine

/-! ### Changes of one shard -/

/-- `t` is `s` but for shard `h`, registers in `R` and the parts of `l`. -/
def State.inShard (s t : State) (h : Nat) (R : Set Nat) (l : List Part) : Prop := s.onlyShard t h ∧ s.within t R l

section
variable {s t u : State} {h : Nat} {R R' : Set Nat} {l l' : List Part}

theorem State.inShard.refl (s : State) (h : Nat) (R : Set Nat) (l : List Part) : s.inShard s h R l := ⟨fun _ _ => rfl, .refl s R l⟩

theorem State.inShard.trans (a : s.inShard t h R l) (b : t.inShard u h R l) : s.inShard u h R l :=
  ⟨fun g hg => (b.1 g hg).trans (a.1 g hg), a.2.trans b.2⟩

theorem State.inShard.mono (a : s.inShard t h R l) (hR : R ⊆ R') (hl : ∀ p ∈ l, p ∈ l') : s.inShard t h R' l' :=
  ⟨a.1, a.2.mono hR hl⟩

theorem State.inShard.parts (a : s.inShard t h R l) (hl : ∀ p ∈ l, p ∈ l') : s.inShard t h R l' := a.mono (fun _ h => h) hl

/-- Outside registers of `R` the two states read the same register. -/
theorem State.inShard.reg_eq (a : s.inShard t h R l) {b : Nat} (hb : b ∉ R) : t.reg b = s.reg b := a.2.1 b hb

theorem State.within.inShard (a : s.within t R l) (hl : Part.shards ∉ l) (h : Nat) : s.inShard t h R l :=
  ⟨fun g _ => a.2.shard_eq hl g, a⟩

theorem State.within.shard_eq (a : s.within t R l) (hl : Part.shards ∉ l) (g : Nat) : t.shard g = s.shard g := a.2.shard_eq hl g

theorem State.setShard_inShard (s : State) (h : Nat) (x : ShardSt) (R : Set Nat) : s.inShard (s.setShard h x) h R [.shards] :=
  ⟨fun _ hg => (State.shard_setShard _ _ _ _).trans (if_neg hg), (s.setShard_rest h x).within (by simp) R⟩

/-- A change of registers and of one shard, as the commands of a shard make it. -/
def shardParts : List Part := [.regs, .shards, .links]

theorem State.setFld_inShard (s : State) (h : Nat) {a : Nat} (ha : a ∈ R) (f : Fld) (x : Nat) :
    s.inShard (s.setFld a f x) h R [.regs] :=
  (s.setFld_within ha f x).inShard (by simp) h

theorem State.bump_inShard (s : State) (h : Nat) {a : Nat} (ha : a ∈ R) : s.inShard (s.bump a) h R [.regs] :=
  (s.bump_within ha).inShard (by simp) h

theorem State.freeEntry_inShard (s : State) (h k n : Nat) (R : Set Nat) : s.inShard (s.freeEntry k n) h R [.links] :=
  ((s.freeEntry_rest k n).within (by simp) R).inShard (by simp) h

theorem State.useCredit_inShard (s : State) (h k n : Nat) (R : Set Nat) : s.inShard (s.useCredit k n) h R [.links] :=
  ((s.useCredit_rest k n).within (by simp) R).inShard (by simp) h

end

theorem State.shard_setShard_self (s : State) (h : Nat) (x : ShardSt) : (s.setShard h x).shard h = x := by simp

/-! ### Ways -/

theorem State.shard_setWay (s : State) (h i : Nat) (w : Way) :
    (s.setWay h i w).shard h = { s.shard h with ways := Tbl.set Way.init (s.shard h).ways i w } := s.shard_setShard_self h _

@[simp] theorem State.way_setWay (s : State) (h i j : Nat) (w : Way) :
    (s.setWay h i w).way h j = if j = i then w else s.way h j := by
  rw [State.way, State.shard_setWay]
  exact Tbl.get_set _ _ _ _ _

theorem State.setWay_inShard (s : State) (h i : Nat) (w : Way) (R : Set Nat) : s.inShard (s.setWay h i w) h R [.shards] :=
  s.setShard_inShard h _ R

/-- Ways are read from the shard's table of ways alone. -/
theorem State.way_congr {s t : State} {h : Nat} (heq : (t.shard h).ways = (s.shard h).ways) (i : Nat) : t.way h i = s.way h i := by
  rw [State.way, State.way, heq]

/-- A change of the shard that keeps its table of ways. -/
theorem State.way_setShard {s : State} {h : Nat} (x : ShardSt) (heq : x.ways = (s.shard h).ways) (i : Nat) :
    (s.setShard h x).way h i = s.way h i :=
  State.way_congr ((congrArg ShardSt.ways (s.shard_setShard_self h x)).trans heq) i

theorem State.within.way_eq {s t : State} {R : Set Nat} {l : List Part} (a : s.within t R l) (hl : Part.shards ∉ l) (h i : Nat) :
    t.way h i = s.way h i := State.way_congr (congrArg ShardSt.ways (a.shard_eq hl h)) i

/-! ### Words of a record -/

theorem listSet_eq_set {α : Type} (l : List α) (i : Nat) (x : α) : listSet l i x = l.set i x := by
  induction l generalizing i with
  | nil => cases i <;> rfl
  | cons y r ih => cases i with
    | zero => rfl
    | succ n => rw [listSet, ih, List.set_cons_succ]

/-- A field of word `i` that shares no bit with the one stored there. -/
theorem recFld_recPut_apart (w : List Word64) (i : Nat) {f g : Fld} (x : Nat) (h : f.apart g) :
    recFld (recPut w i f x) i g = recFld w i g := by
  rw [recFld, recFld, recPut, listSet_eq_set, List.getD_eq_getElem?_getD, List.getElem?_set_self']
  cases hw : w[i]? with
  | none => simp [List.getD_eq_getElem?_getD, hw]
  | some v => simpa [List.getD_eq_getElem?_getD, hw] using Word64.get_put_apart v f g x h

/-- A field that was stored as 0 reads 0, also past the record's end. -/
theorem recFld_recPut_zero (w : List Word64) (i : Nat) {f : Fld} (h : f.lo + f.len ≤ 64) : recFld (recPut w i f 0) i f = 0 := by
  rw [recFld, recPut, listSet_eq_set, List.getD_eq_getElem?_getD, List.getElem?_set_self']
  cases w[i]? with
  | none => simp [Word64.get]
  | some v => simpa using Word64.get_put_self _ f 0 h

/-- A record written back is clean (R136). -/
theorem recFld_cleanWords_dirty (w : List Word64) : recFld (cleanWords w) 0 w0Dirty = 0 := by
  rw [cleanWords, recFld_recPut_apart _ _ _ (by unfold Fld.apart; decide), recFld_recPut_zero _ _ (by decide)]

/-- DIRTY is one bit. -/
theorem recFld_dirty_zero {w : List Word64} (h : recFld w 0 w0Dirty ≠ 1) : recFld w 0 w0Dirty = 0 := by
  have hlt : recFld w 0 w0Dirty < 2 := Word64.get_lt _ _
  omega

/-! ### Lines of a record -/

theorem State.writeSlot_within (s : State) (h : Nat) (x : Word64) (p : Place) (j : Nat) (w : List Word64) (fg : Bool) :
    s.within (s.writeSlot h x p j w fg) lowRegs [.regs, .dram] := s.dramWrite_within _ _ fg

theorem State.writeRecord_within (s : State) (h : Nat) (x : Word64) (p : Place) (w : List Word64) (fg : Bool) :
    s.within (s.writeRecord h x p w fg) lowRegs [.regs, .dram] := by
  unfold State.writeRecord
  dsimp only
  split
  · exact (s.writeSlot_within _ _ _ _ _ _).trans (State.writeSlot_within _ _ _ _ _ _ _)
  · exact s.writeSlot_within _ _ _ _ _ _

/-- Parts that a write-back may change. -/
def writeParts : List Part := [.regs, .shards, .dram]

theorem State.settleEvb_inShard (s : State) (h : Nat) (x : Word64) (p : Place) :
    s.inShard (s.settleEvb h x p) h lowRegs writeParts := by
  unfold State.settleEvb
  extract_lets y b same keep
  exact ((s.setShard_inShard h _ _).parts (by simp [writeParts])).trans
    (((forEach_within (fun e t => t.writeRecord_within h _ _ _ true) _ _).inShard (by simp) h).parts (by simp [writeParts]))

/-- Settling writes of the eviction buffer changes no other field of the shard. -/
theorem State.shard_settleEvb (s : State) (h : Nat) (x : Word64) (p : Place) :
    ∃ l, (s.settleEvb h x p).shard h = { s.shard h with evb := l } := by
  unfold State.settleEvb
  extract_lets y b same keep
  exact ⟨keep, ((forEach_within (fun e t => t.writeRecord_within h _ _ _ true) _ _).shard_eq (by simp) h).trans
    (s.shard_setShard_self h _)⟩

/-! ### Reading a way (R129) -/

/-- A way's read without an uncorrectable error: the record survives, a corrected error is counted. -/
theorem State.readWay_survives (s : State) (h i : Nat) {e : Ecc} (he : e ≠ .uncorrectable) :
    (s.readWay h i e).1 = true ∧ s.within (s.readWay h i e).2 {Reg.HNK_CNT h Cnt.HNK_HOT_ECC_CORRECTED} [.regs] := by
  cases e with
  | ok => exact ⟨rfl, .refl s _ _⟩
  | corrected => exact ⟨rfl, s.bump_within rfl⟩
  | uncorrectable => exact absurd rfl he

end Sys2Proof.Machine
end

section
/-! PROOF. FLUSH (R136, R145): what the command marks, and the write of one way that EVB_WRITE_ACCEPT makes for it. -/

namespace Sys2Proof.Machine

/-! ### The mark -/

/-- A record of a way that a FLUSH has to write. -/
def Way.toFlush (w : Way) : Bool := w.role != .tail && recFld w.words 0 w0Dirty == 1

/-- The shard that FLUSH leaves: its dirty ways and its eviction buffer are marked. -/
def ShardSt.flushed (y : ShardSt) : ShardSt :=
  { y with flush := (y.ways.filter (fun e => e.2.toFlush)).map Prod.fst, evb := y.evb.map (fun e => { e with flush := true }) }

theorem hnkFlush_marks (h : Nat) (s : State) : hnkFlush h s = s.setShard h (s.shard h).flushed := rfl

theorem State.flushBusy_iff {s : State} {h : Nat} {y : ShardSt} (hs : s.shard h = y.flushed) : s.flushBusy h = true ↔
    (∃ e ∈ y.ways, e.2.role ≠ .tail ∧ recFld e.2.words 0 w0Dirty = 1) ∨ ∃ e ∈ y.evb, e.written = false := by
  rw [State.flushBusy, hs, Bool.or_eq_true]
  refine or_congr ?_ ?_
  · simp [ShardSt.flushed, List.filter_eq_nil_iff, Way.toFlush]
  · simp [ShardSt.flushed]

/-! ### The write of one way -/

/-- A way whose dirty record has been written back (R136); a clean one stays as it is. -/
def Way.flushed (w : Way) : Way :=
  if w.valid = true ∧ w.role ≠ .tail ∧ recFld w.words 0 w0Dirty = 1 then { w with words := cleanWords w.words } else w

theorem Way.flushed_keeps (w : Way) : w.flushed.valid = w.valid ∧ w.flushed.h60 = w.h60 ∧ w.flushed.place = w.place := by
  unfold Way.flushed
  split <;> exact ⟨rfl, rfl, rfl⟩

theorem Way.flushed_clean {w : Way} (hvalid : w.valid = true) (hrole : w.role ≠ .tail) : recFld w.flushed.words 0 w0Dirty = 0 := by
  unfold Way.flushed
  split
  · exact recFld_cleanWords_dirty _
  · next h => exact recFld_dirty_zero fun hdirty => h ⟨hvalid, hrole, hdirty⟩

theorem State.flushWay_inShard (s : State) (h i : Nat) : s.inShard (s.flushWay h i) h lowRegs writeParts := by
  unfold State.flushWay
  dsimp only
  split
  · exact ((s.settleEvb_inShard h _ _).trans (((State.writeRecord_within _ _ _ _ _ _).inShard (by simp) h).parts
      (by simp [writeParts]))).trans ((State.setWay_inShard _ _ _ _ _).parts (by simp [writeParts]))
  · exact .refl s _ _ _

/-- The written way is clean; every other way and the ways still to be written are as before. -/
theorem State.flushWay_ways (s : State) (h i : Nat) :
    (∀ j, (s.flushWay h i).way h j = if j = i then (s.way h i).flushed else s.way h j)
      ∧ ((s.flushWay h i).shard h).flush = (s.shard h).flush := by
  unfold State.flushWay Way.flushed
  dsimp only
  split
  · next hdirty =>
    obtain ⟨l, hsettled⟩ := s.shard_settleEvb h (BitVec.ofNat 64 ((s.way h i).h60 + h * 2 ^ 60)) (s.way h i).place
    generalize s.settleEvb h _ _ = t at hsettled ⊢
    have hwritten := (t.writeRecord_within h (BitVec.ofNat 64 ((s.way h i).h60 + h * 2 ^ 60)) (s.way h i).place
      (cleanWords (s.way h i).words) true).shard_eq (by simp) h
    have hway (j : Nat) : State.way (t.writeRecord h (BitVec.ofNat 64 ((s.way h i).h60 + h * 2 ^ 60)) (s.way h i).place
        (cleanWords (s.way h i).words) true) h j = s.way h j :=
      State.way_congr (by rw [hwritten, hsettled]) j
    refine ⟨fun j => ?_, ?_⟩
    · rw [State.setWords, State.way_setWay, hway, hway]
    · rw [State.setWords, State.shard_setWay, hwritten, hsettled]
  · exact ⟨fun j => by split <;> simp_all, rfl⟩

/-- A write of a running FLUSH, where the eviction buffer has none to make. -/
theorem evbWriteAccept_flushes {s : State} {h : Nat} (hevb : ∀ v ∈ (s.shard h).evb, v.written = true) (hready : s.dmcReady = true)
    (e : Ecc) : evbWriteAccept h e s = s.flushStep h e := by
  have hnone : (s.shard h).evb.findIdx? (fun v => !v.written) = none := by
    rw [List.findIdx?_eq_none_iff]
    intro v hv
    simp [hevb v hv]
  simp only [evbWriteAccept, hready, hnone, Bool.not_true, Bool.false_eq_true, if_false]

theorem State.flushStep_writes {s : State} {h i : Nat} {e : Ecc} (hnext : s.flushNext h = some i) (he : e ≠ .uncorrectable) :
    (∀ j, (s.flushStep h e).way h j = if j = i then (s.way h i).flushed else s.way h j)
      ∧ ((s.flushStep h e).shard h).flush = (s.shard h).flush.filter (fun j => j != i)
      ∧ s.onlyShard (s.flushStep h e) h ∧ s.onlyParts (s.flushStep h e) writeParts := by
  obtain ⟨hlives, hread⟩ := s.readWay_survives h i he
  unfold State.flushStep
  rw [hnext]
  dsimp only
  rw [if_pos hlives]
  generalize (s.readWay h i e).2 = t at hread ⊢
  obtain ⟨hways, hflush⟩ := t.flushWay_ways h i
  have hframe : s.inShard ((t.flushWay h i).setShard h { (t.flushWay h i).shard h with
      flush := ((t.flushWay h i).shard h).flush.filter (fun j => j != i) }) h Set.univ writeParts :=
    ((hread.inShard (by simp) h).mono (Set.subset_univ _) (by simp [writeParts])).trans
      (((t.flushWay_inShard h i).mono (Set.subset_univ _) fun _ h => h).trans
        ((State.setShard_inShard _ _ _ _).parts (by simp [writeParts])))
  refine ⟨fun j => ?_, ?_, hframe.1, hframe.2.2⟩
  · rw [State.way_setShard _ (by rfl), hways, hread.way_eq (by simp) h i, hread.way_eq (by simp) h j]
  · rw [State.shard_setShard_self, hflush, hread.shard_eq (by simp) h]

/-- Settles O26: FLUSH marks what is dirty; each write that is accepted cleans one way and leaves it resident. -/
theorem flushCleansTheHotTier : Obligations.FlushCleansTheHotTier := by
  refine ⟨fun s h => ?_, fun s h i e hevb hnext hready he hvalid hrole => ?_⟩
  · have hframe := s.setShard_inShard h.val (s.shard h.val).flushed ∅
    have hshard := s.shard_setShard_self h.val (s.shard h.val).flushed
    exact ⟨_, (congrArg (done s) (hnkFlush_marks h.val s)).trans (done_eq_next hframe.2.2 (by simp)), congrArg ShardSt.flush hshard,
      congrArg ShardSt.evb hshard, State.way_setShard _ rfl, State.flushBusy_iff hshard, hframe.1, hframe.2.2⟩
  · obtain ⟨hways, hflush, honly, hparts⟩ := State.flushStep_writes hnext he
    obtain ⟨hkvalid, hktag, hkplace⟩ := (s.way h.val i).flushed_keeps
    have hway : (s.flushStep h.val e).way h.val i = (s.way h.val i).flushed := (hways i).trans (if_pos rfl)
    refine ⟨_, (congrArg (done s) (evbWriteAccept_flushes hevb hready e)).trans (done_eq_next hparts (by decide)), ?_, ?_, ?_, ?_,
      fun j hj => (hways j).trans (if_neg hj), hflush, honly, hparts⟩
    · rw [hway, Way.flushed_clean hvalid hrole]
    · rw [hway, hkvalid, hvalid]
    · rw [hway, hktag]
    · rw [hway, hkplace]

end Sys2Proof.Machine
end

section
/-! PROOF. Rules of a shard's threads, entries and queues: what a read of them finds, and what changes of other parts leave. -/

namespace Sys2Proof.Machine

/-! ### Threads, parked items and their askers -/

section
variable {s t : State} {h : Nat}

theorem State.thread_congr (heq : (t.shard h).threads = (s.shard h).threads) (i : Nat) : t.thread h i = s.thread h i := by
  rw [State.thread, State.thread, heq]

theorem State.threadOf_congr (heq : (t.shard h).threads = (s.shard h).threads) (r : Nat) : t.threadOf h r = s.threadOf h r := by
  rw [State.threadOf, State.threadOf, heq]

theorem State.parkedOf_congr (heq : (t.shard h).parked = (s.shard h).parked) (r : Nat) : t.parkedOf h r = s.parkedOf h r := by
  rw [State.parkedOf, State.parkedOf, heq]

theorem State.tagMatches_congr (heq : (t.shard h).ways = (s.shard h).ways) (x : Word64) : t.tagMatches h x = s.tagMatches h x := by
  simp only [State.tagMatches, State.way_congr heq]

theorem State.shard_setThread (s : State) (h i : Nat) (x : Thread) :
    (s.setThread h i x).shard h = { s.shard h with threads := Tbl.set Thread.init (s.shard h).threads i x } := s.shard_setShard_self h _

@[simp] theorem State.thread_setThread (s : State) (h i j : Nat) (x : Thread) :
    (s.setThread h i x).thread h j = if j = i then x else s.thread h j := by
  rw [State.thread, State.shard_setThread]
  exact Tbl.get_set _ _ _ _ _

theorem State.setThread_inShard (s : State) (h i : Nat) (x : Thread) (R : Set Nat) : s.inShard (s.setThread h i x) h R [.shards] :=
  s.setShard_inShard h _ R

@[simp] theorem State.way_setThread (s : State) (h i j : Nat) (x : Thread) : (s.setThread h i x).way h j = s.way h j :=
  State.way_congr (by rw [State.shard_setThread]) j

@[simp] theorem State.thread_setWay (s : State) (h i j : Nat) (w : Way) : (s.setWay h i w).thread h j = s.thread h j :=
  State.thread_congr (by rw [State.shard_setWay]) j

@[simp] theorem State.threadOf_setWay (s : State) (h i r : Nat) (w : Way) : (s.setWay h i w).threadOf h r = s.threadOf h r :=
  State.threadOf_congr (by rw [State.shard_setWay]) r

@[simp] theorem State.way_hnkBump (s : State) (h c g i : Nat) : (s.hnkBump h c).way g i = s.way g i := rfl
@[simp] theorem State.threadOf_hnkBump (s : State) (h c g r : Nat) : (s.hnkBump h c).threadOf g r = s.threadOf g r := rfl
@[simp] theorem State.shard_hnkBump (s : State) (h c g : Nat) : (s.hnkBump h c).shard g = s.shard g := rfl
@[simp] theorem State.way_useCredit (s : State) (k n h i : Nat) : (s.useCredit k n).way h i = s.way h i := rfl

/-- A counter of a shard after it has counted. -/
theorem State.reg_hnkBump_self (s : State) (h c : Nat) : (s.hnkBump h c).reg (Reg.HNK_CNT h c) = s.reg (Reg.HNK_CNT h c) + 1 :=
  (s.reg_bump _ _).trans (if_pos rfl)

/-- What a work item's read asks for (R130, R134). -/
def State.itemAsker (s : State) (h : Nat) (it : Item) : Asker :=
  { x := it.h, key := it.key, cls := it.cls, create := !it.aging && s.flag (Reg.HNK_CLASS h it.cls) Fld.HNK_CLASS_CREATE
    swap := sumGet it.summary sumKeySwap == 1, aging := it.aging }

theorem State.asker_item {r : Nat} {it : Item} (hitem : s.itemOfRank h r = some it) : s.asker h (.item r) = some (s.itemAsker h it) := by
  rw [State.asker, hitem]; rfl

theorem State.itemOfRank_thread {r i : Nat} {it : Item} (hthread : s.threadOf h r = some i) (hitem : (s.thread h i).item = some it) :
    s.itemOfRank h r = some it := by
  rw [State.itemOfRank, hthread]; exact hitem

theorem State.itemOfRank_parked {r : Nat} {p : Parked} (hthread : s.threadOf h r = none) (hparked : s.parkedOf h r = some p) :
    s.itemOfRank h r = some p.item := by
  rw [State.itemOfRank, hthread, hparked]; rfl

/-- What the host's running command asks for (R145). -/
def hostAsker (op : HostOp) (x : Word64) (key : List Byte) (cls : Nat) : Asker :=
  { x := x, key := key, cls := cls, create := op == .write, swap := false, aging := false }

theorem State.asker_host {op : HostOp} {x : Word64} {key : List Byte} {cls at_ : Nat} (hrun : (s.shard h).host = .run op x key cls at_) :
    s.asker h .host = some (hostAsker op x key cls) := by
  rw [State.asker, hrun]; rfl

/-! ### Entries -/

theorem State.setEntries_inShard (s : State) (h : Nat) (l : List RecEntry) (R : Set Nat) : s.inShard (s.setEntries h l) h R [.shards] :=
  s.setShard_inShard h _ R

theorem State.shard_setEntries (s : State) (h : Nat) (l : List RecEntry) :
    (s.setEntries h l).shard h = { s.shard h with entries := l } := s.shard_setShard_self h _

/-- Registers that a new entry moves (R127). -/
def entryRegs (h : Nat) : Set Nat := {Reg.HNK_ENTRY_STATUS h, Reg.HNK_STATUS h}

theorem State.allocEntry_inShard (s : State) (h : Nat) (a : Asker) (st : EntryStage) (w : Waiter) :
    s.inShard (s.allocEntry h a st w) h (entryRegs h) shardParts
      ∧ (s.allocEntry h a st w).shard h = { s.shard h with entries := (s.shard h).entries ++
          [{ h := a.x, stage := st, key := a.key, cls := a.cls, create := a.create, swap := a.swap, queue := [w], waited := false }] } := by
  unfold State.allocEntry
  extract_lets e l taken r noted
  have hnoted : s.inShard noted h (entryRegs h) shardParts :=
    (((s.setEntries_inShard h l _).parts (by simp [shardParts])).trans
      ((State.useCredit_inShard _ h _ _ _).parts (by simp [shardParts]))).trans
      ((State.setFld_inShard _ h (by simp [entryRegs, r]) _ _).parts (by simp [shardParts]))
  have hshard : noted.shard h = { s.shard h with entries := l } := by
    rw [State.shard_setFld, State.shard_useCredit, State.shard_setEntries]
  clear_value noted
  by_cases hfull : l.length = 8192
  · rw [if_pos hfull]
    exact ⟨hnoted.trans ((noted.setFld_inShard h (by simp [entryRegs]) _ _).parts (by simp [shardParts])),
      (State.shard_setFld _ _ _ _ _).trans hshard⟩
  · rw [if_neg hfull]
    exact ⟨hnoted, hshard⟩

/-- An entry that is released leaves the list, and its credit is owed (R127). -/
theorem State.releaseEntry_leaves (s : State) (h i : Nat) :
    (s.releaseEntry h i).shard h = { s.shard h with entries := (s.shard h).entries.eraseIdx i }
      ∧ ((s.releaseEntry h i).link (lnkMiss h)).owed = (s.link (lnkMiss h)).owed + 1
      ∧ s.inShard (s.releaseEntry h i) h ∅ [.shards, .links] :=
  ⟨s.shard_setEntries h _, State.owed_freeEntry _ _ _, ((s.setEntries_inShard h _ _).parts (by simp)).trans
    ((State.freeEntry_inShard _ h _ _ _).parts (by simp))⟩

theorem State.setEntryAt_inShard (s : State) (h i : Nat) (e : RecEntry) (R : Set Nat) : s.inShard (s.setEntryAt h i e) h R [.shards] :=
  s.setEntries_inShard h _ R

/-- An entry of the list after it was replaced. -/
theorem State.entries_setEntryAt {i : Nat} (hi : i < (s.shard h).entries.length) (e : RecEntry) :
    ((s.setEntryAt h i e).shard h).entries[i]? = some e := by
  rw [State.setEntryAt, State.shard_setEntries, listSet_eq_set]
  exact List.getElem?_set_self hi

theorem State.entries_setEntryAt_length (s : State) (h i : Nat) (e : RecEntry) :
    ((s.setEntryAt h i e).shard h).entries.length = (s.shard h).entries.length := by
  rw [State.setEntryAt, State.shard_setEntries, listSet_eq_set]
  exact List.length_set

/-- A served entry keeps or releases its place: nothing of the shard but the list of entries changes. -/
theorem State.keepEntry_leaves (s : State) (h i : Nat) (e : RecEntry) (rest : List Waiter) (st : EntryStage) :
    (∃ l, (s.keepEntry h i e rest st).shard h = { s.shard h with entries := l })
      ∧ s.inShard (s.keepEntry h i e rest st) h ∅ [.shards, .links] := by
  unfold State.keepEntry
  split
  · obtain ⟨hshard, -, hframe⟩ := s.releaseEntry_leaves h i
    exact ⟨⟨_, hshard⟩, hframe⟩
  · exact ⟨⟨_, s.shard_setEntries h _⟩, (s.setEntryAt_inShard h i _ _).parts (by simp)⟩

end

/-! ### Reads that find their record -/

section
variable {s : State} {h k : Nat}

/-- A read of the one way whose tag matches: its key is compared, and a record that nobody holds is read. -/
theorem State.probe_found {key : List Byte} {es : List Ecc} (hok : es.headD .ok = .ok) (hkey : recKey (s.way h k).words = pad40 key)
    (hfree : (s.way h k).held = none) : s.probe h key [k] es = (some k, es.drop 1, s) := by
  simp only [State.probe, hfree, hok, hkey, State.readWay, Option.isSome_none, beq_self_eq_true, Bool.not_true, Bool.false_eq_true,
    if_false, if_true]

theorem State.findWay_found {x : Word64} {key : List Byte} (htag : s.tagMatches h x = [k])
    (hkey : recKey (s.way h k).words = pad40 key) : s.findWay h x key = some k := by
  simp [State.findWay, htag, hkey]

theorem State.findWay_none {x : Word64} (htag : s.tagMatches h x = []) (key : List Byte) : s.findWay h x key = none := by
  simp [State.findWay, htag]

/-- REF of a record changes in its ways alone; its words stay (R126). -/
theorem State.setRef_leaves (s : State) (h k : Nat) (b : Bool) :
    (s.setRef h k b).way h k = { s.way h k with ref := b } ∧ s.inShard (s.setRef h k b) h ∅ [.shards]
      ∧ ∃ l, (s.setRef h k b).shard h = { s.shard h with ways := l } := by
  have hset := s.setWay_inShard h k { s.way h k with ref := b } ∅
  have hway : (s.setWay h k { s.way h k with ref := b }).way h k = { s.way h k with ref := b } := (s.way_setWay h k k _).trans (if_pos rfl)
  have hshard := s.shard_setWay h k { s.way h k with ref := b }
  unfold State.setRef
  dsimp only
  split
  · refine ⟨?_, hset.trans (State.setWay_inShard _ _ _ _ _), _, (State.shard_setWay _ _ _ _).trans (by rw [hshard])⟩
    rw [State.way_setWay, if_neg (by omega), hway]
  · exact ⟨hway, hset, _, hshard⟩

/-- The waiter of a thread that receives a found record: it takes the hold. -/
theorem State.giveOutcome_thread {r i : Nat} (hthread : s.threadOf h r = some i) (resident : Bool) (e : Ecc) :
    s.giveOutcome h (.item r) .found k resident e = (s.setWay h k { s.way h k with held := some (.item r) }).setThread h i
      { s.thread h i with read := .done .found } := by
  have hthread' : (s.setWay h k { s.way h k with held := some (.item r) }).threadOf h r = some i :=
    (s.threadOf_setWay _ _ _ _).trans hthread
  unfold State.giveOutcome
  simp only [beq_self_eq_true, Bool.true_or, if_true]
  rw [hthread']
  simp only [State.thread_setWay]

/-- A parked item that receives a found record: it takes the hold, and a place of the resume queue. -/
theorem State.giveOutcome_parked {r : Nat} (hthread : s.threadOf h r = none) (resident : Bool) (e : Ecc) :
    s.giveOutcome h (.item r) .found k resident e = ((s.setWay h k { s.way h k with held := some (.item r) }).modParked h r
      (fun p => { p with outcome := some .found })).useCredit (lnkFill h) 1 := by
  have hthread' : (s.setWay h k { s.way h k with held := some (.item r) }).threadOf h r = none :=
    (s.threadOf_setWay _ _ _ _).trans hthread
  unfold State.giveOutcome
  simp only [beq_self_eq_true, Bool.true_or, if_true]
  rw [hthread']

end

end Sys2Proof.Machine
end

section
/-! PROOF. Reads at the record port (R126, R127, R130, R135): a request that misses opens an entry, one that hits takes the hold. -/

namespace Sys2Proof.Machine

section
variable {s : State} {h : Nat} {w : Waiter} {q : List Waiter}

/-! ### The port -/

/-- The state in which the first read of the port has left it. -/
def State.takeRead (s : State) (h : Nat) (w : Waiter) (q : List Waiter) : State :=
  (s.setShard h { s.shard h with recPort := q }).portFree h [w]

theorem State.shard_takeRead (s : State) (h : Nat) (w : Waiter) (q : List Waiter) :
    (s.takeRead h w q).shard h = { s.shard h with recPort := q } := s.shard_setShard_self h _

theorem State.takeRead_inShard (s : State) (h : Nat) (w : Waiter) (q : List Waiter) (R : Set Nat) :
    s.inShard (s.takeRead h w q) h R shardParts :=
  ((s.setShard_inShard h _ R).parts (by simp [shardParts])).trans
    ((State.freeEntry_inShard _ h _ _ R).parts (by simp [shardParts]))

theorem State.earlierWaits_nil (hwait : (s.shard h).entryWait = []) (w : Waiter) : s.earlierWaits h w = false := by
  unfold State.earlierWaits
  split
  · rfl
  · rw [hwait]; rfl

/-- The first read of the port is served where no earlier read waits for an entry. -/
theorem recReadLookup_serves (hup : s.shardUp h = true) (hwait : (s.shard h).entryWait = []) (hport : (s.shard h).recPort = w :: q)
    (hnow : s.hostMustWait h w = false) (es : List Ecc) : recReadLookup h es s = (s.takeRead h w q).serveRead h w es := by
  have hserve : s.servePort h es = (s.takeRead h w q).serveRead h w es := by
    unfold State.servePort
    dsimp only
    split
    · next hnone => exact absurd (hport.symm.trans hnone) (by simp)
    · next v q' hfirst =>
      obtain ⟨rfl, rfl⟩ := List.cons.inj (hport.symm.trans hfirst)
      rw [hnow, State.earlierWaits_nil hwait]
      rfl
  unfold recReadLookup
  rw [hup]
  simp only [Bool.not_true, Bool.false_eq_true, if_false]
  split
  · next hsome => exact absurd (hwait.symm.trans hsome) (by simp)
  · exact hserve

/-! ### A read that misses -/

theorem State.takenWay_of_findWay_none {a : Asker} (hfind : s.findWay h a.x a.key = none) : s.takenWay h a = none := by
  rw [State.takenWay, hfind]

/-- Only an aging item finds its way taken by the sweeper (R141). -/
theorem State.takenWay_of_not_aging {a : Asker} (haging : a.aging = false) : s.takenWay h a = none := by
  unfold State.takenWay
  split
  · simp [haging]
  · rfl

theorem State.serveRead_probes {a : Asker} (hask : s.asker h w = some a) (htaken : s.takenWay h a = none)
    (hopen : s.openEntry h a.x = none) (es : List Ecc) : s.serveRead h w es = s.probeRead h w a es := by
  simp only [State.serveRead, hask, htaken, hopen]

/-- A read with no matching way and no copy in the eviction buffer opens an entry and counts a miss. -/
theorem State.probeRead_misses {a : Asker} (htags : s.tagMatches h a.x = []) (hflush : s.hostFlushes h w = false)
    (hevicted : s.evicted h a.x a.key = none) (hroom : s.mayAlloc h = true) (es : List Ecc) :
    s.probeRead h w a es = ((s.hnkBump h Cnt.HNK_HOT_MISS).allocEntry h a .fetch w).parkWaiter h w false := by
  simp only [State.probeRead, htags, State.probe, State.missRead, hflush, hevicted, State.newEntry, hroom, Bool.false_eq_true, if_false,
    if_true]

theorem State.hostMustWait_run {op : HostOp} {x : Word64} {key : List Byte} {cls at_ : Nat}
    (hrun : (s.shard h).host = .run op x key cls at_) (hflush : op ≠ .flush) (hdelete : op = .delete → s.dmcReady = true) :
    s.hostMustWait h .host = false := by
  unfold State.hostMustWait
  rw [hrun]
  cases op with
  | lookup => rfl
  | write => rfl
  | delete => simp [hdelete rfl]
  | flush => exact absurd rfl hflush

theorem State.hostFlushes_run {op : HostOp} {x : Word64} {key : List Byte} {cls at_ : Nat}
    (hrun : (s.shard h).host = .run op x key cls at_) (hflush : op ≠ .flush) : s.hostFlushes h .host = false := by
  unfold State.hostFlushes
  rw [hrun]
  cases op with
  | flush => exact absurd rfl hflush
  | lookup => rfl
  | write => rfl
  | delete => rfl

theorem recReadLookup_host_misses {op : HostOp} {x : Word64} {key : List Byte} {cls at_ : Nat} (hup : s.shardUp h = true)
    (hwait : (s.shard h).entryWait = []) (hport : (s.shard h).recPort = .host :: q) (hrun : (s.shard h).host = .run op x key cls at_)
    (hflush : op ≠ .flush) (hdelete : op = .delete → s.dmcReady = true) (hopen : s.openEntry h x = none)
    (htags : s.tagMatches h x = []) (hevicted : s.evicted h x key = none) (hroom : s.mayAlloc h = true) (es : List Ecc) :
    recReadLookup h es s
      = ((s.takeRead h .host q).hnkBump h Cnt.HNK_HOT_MISS).allocEntry h (hostAsker op x key cls) .fetch .host := by
  have hshard := s.shard_takeRead h .host q
  have hrun' : ((s.takeRead h .host q).shard h).host = .run op x key cls at_ := by rw [hshard]; exact hrun
  have htags' : (s.takeRead h .host q).tagMatches h x = [] := (State.tagMatches_congr (by rw [hshard]) x).trans htags
  have hopen' : (s.takeRead h .host q).openEntry h x = none := by rw [State.openEntry, hshard]; exact hopen
  have hevicted' : (s.takeRead h .host q).evicted h x key = none := by rw [State.evicted, hshard]; exact hevicted
  have hroom' : (s.takeRead h .host q).mayAlloc h = true := by
    rw [State.mayAlloc, hshard, State.takeRead, State.portFree, State.credit_freeEntry]; exact hroom
  rw [recReadLookup_serves hup hwait hport (State.hostMustWait_run hrun hflush hdelete),
    State.serveRead_probes (State.asker_host hrun') (State.takenWay_of_findWay_none (State.findWay_none htags' _)) hopen',
    State.probeRead_misses htags' (State.hostFlushes_run hrun' hflush) hevicted' hroom']
  rfl

/-! ### A read that hits -/

/-- A read of a record that nobody holds: REF is set, a hit is counted, and the reader receives the record. -/
theorem State.probeRead_hits {a : Asker} {k : Nat} {es : List Ecc} (hok : es.headD .ok = .ok) (htags : s.tagMatches h a.x = [k])
    (hkey : recKey (s.way h k).words = pad40 a.key) (hfree : (s.way h k).held = none) :
    s.probeRead h w a es
      = ((s.setRef h k true).hnkBump h Cnt.HNK_HOT_HIT).giveOutcome h w .found k true ((es.drop 1).headD .ok) := by
  simp only [State.probeRead, htags, State.probe_found hok hkey hfree, hfree, Option.isSome_none, Bool.false_eq_true, if_false]

/-- The state in which thread `i`, that runs item `r`, has received the record of way `k`. -/
def State.giveThread (s : State) (h k r i : Nat) : State :=
  (s.setWay h k { s.way h k with held := some (.item r) }).setThread h i { s.thread h i with read := .done .found }

/-- The state in which a hit was counted and the reader has received the record. -/
def State.threadHit (s : State) (h k r i : Nat) : State := ((s.setRef h k true).hnkBump h Cnt.HNK_HOT_HIT).giveThread h k r i

theorem recReadLookup_item_hits {r i k : Nat} {it : Item} {es : List Ecc} (hok : es.headD .ok = .ok) (hup : s.shardUp h = true)
    (hwait : (s.shard h).entryWait = []) (hport : (s.shard h).recPort = .item r :: q) (hthread : s.threadOf h r = some i)
    (hitem : (s.thread h i).item = some it) (haging : it.aging = false) (hopen : s.openEntry h it.h = none)
    (htags : s.tagMatches h it.h = [k]) (hfree : (s.way h k).held = none) (hkey : recKey (s.way h k).words = pad40 it.key) :
    recReadLookup h es s = (s.takeRead h (.item r) q).threadHit h k r i := by
  have hshard := s.shard_takeRead h (.item r) q
  have hthread' : (s.takeRead h (.item r) q).threadOf h r = some i := (State.threadOf_congr (by rw [hshard]) r).trans hthread
  have hitem' : ((s.takeRead h (.item r) q).thread h i).item = some it :=
    (congrArg Thread.item (State.thread_congr (by rw [hshard]) i)).trans hitem
  have htags' : (s.takeRead h (.item r) q).tagMatches h it.h = [k] := (State.tagMatches_congr (by rw [hshard]) _).trans htags
  have hopen' : (s.takeRead h (.item r) q).openEntry h it.h = none := by rw [State.openEntry, hshard]; exact hopen
  have hway : (s.takeRead h (.item r) q).way h k = s.way h k := State.way_congr (by rw [hshard]) k
  rw [recReadLookup_serves hup hwait hport rfl,
    State.serveRead_probes (State.asker_item (State.itemOfRank_thread hthread' hitem')) (State.takenWay_of_not_aging haging) hopen',
    State.probeRead_hits hok htags' (by rw [hway]; exact hkey) (by rw [hway]; exact hfree)]
  generalize s.takeRead h (.item r) q = t at hthread'
  obtain ⟨-, -, l, hset⟩ := t.setRef_leaves h k true
  have hgets : (t.setRef h k true).threadOf h r = some i := (State.threadOf_congr (by rw [hset]) r).trans hthread'
  unfold State.threadHit
  generalize t.setRef h k true = u at hgets
  rw [State.giveOutcome_thread ((u.threadOf_hnkBump h _ h r).trans hgets), State.giveThread]

theorem State.giveThread_leaves (s : State) (h k r i : Nat) :
    ((s.giveThread h k r i).shard h).recPort = (s.shard h).recPort
      ∧ (s.giveThread h k r i).way h k = { s.way h k with held := some (.item r) }
      ∧ ((s.giveThread h k r i).thread h i).read = .done .found ∧ s.inShard (s.giveThread h k r i) h ∅ [.shards] := by
  unfold State.giveThread
  refine ⟨?_, ?_, ?_, (s.setWay_inShard h k _ _).trans (State.setThread_inShard _ h i _ _)⟩
  · rw [State.shard_setThread, State.shard_setWay]
  · rw [State.way_setThread, State.way_setWay, if_pos rfl]
  · rw [State.thread_setThread, if_pos rfl]

/-- A hit is counted: REF of the way, and one more hit. -/
theorem State.countHit_leaves (s : State) (h k : Nat) :
    (((s.setRef h k true).hnkBump h Cnt.HNK_HOT_HIT).shard h).recPort = (s.shard h).recPort
      ∧ ((s.setRef h k true).hnkBump h Cnt.HNK_HOT_HIT).way h k = { s.way h k with ref := true }
      ∧ ((s.setRef h k true).hnkBump h Cnt.HNK_HOT_HIT).reg (Reg.HNK_CNT h Cnt.HNK_HOT_HIT) = s.reg (Reg.HNK_CNT h Cnt.HNK_HOT_HIT) + 1
      ∧ s.inShard ((s.setRef h k true).hnkBump h Cnt.HNK_HOT_HIT) h {Reg.HNK_CNT h Cnt.HNK_HOT_HIT} [.regs, .shards] := by
  obtain ⟨hway, hframe, l, hset⟩ := s.setRef_leaves h k true
  generalize s.setRef h k true = t at *
  refine ⟨?_, (t.way_hnkBump h _ h k).trans hway, ?_, (hframe.mono (Set.empty_subset _) (by simp)).trans
    ((t.bump_inShard h (Set.mem_singleton _)).parts (by simp))⟩
  · rw [State.shard_hnkBump, hset]
  · rw [State.reg_hnkBump_self, hframe.reg_eq (Set.notMem_empty _)]

/-- What a hit leaves: the hold and REF in the way, the answer in the thread, one more hit counted. -/
theorem State.threadHit_leaves (s : State) (h k r i : Nat) :
    ((s.threadHit h k r i).shard h).recPort = (s.shard h).recPort
      ∧ (s.threadHit h k r i).way h k = { s.way h k with ref := true, held := some (.item r) }
      ∧ ((s.threadHit h k r i).thread h i).read = .done .found
      ∧ (s.threadHit h k r i).reg (Reg.HNK_CNT h Cnt.HNK_HOT_HIT) = s.reg (Reg.HNK_CNT h Cnt.HNK_HOT_HIT) + 1
      ∧ s.inShard (s.threadHit h k r i) h {Reg.HNK_CNT h Cnt.HNK_HOT_HIT} shardParts := by
  obtain ⟨hport, hway, hcount, hframe⟩ := s.countHit_leaves h k
  unfold State.threadHit
  generalize (s.setRef h k true).hnkBump h Cnt.HNK_HOT_HIT = t at *
  obtain ⟨hport', hway', hread, hgive⟩ := t.giveThread_leaves h k r i
  exact ⟨hport'.trans hport, hway'.trans (by rw [hway]), hread, (hgive.reg_eq (Set.notMem_empty _)).trans hcount,
    (hframe.parts (by simp [shardParts])).trans (hgive.mono (Set.empty_subset _) (by simp [shardParts]))⟩

end

/-- Settles O22: a read that misses is followed to its entry, one that hits to the hold and the thread's answer. -/
theorem recordReads : Obligations.RecordReads := by
  refine ⟨fun s h es op x key cls at_ q hup hwait hport hrun hflush hdelete hopen htags hevicted hroom => ?_,
    fun s h es r i k it q hok hup hwait hport hthread hitem haging hopen htags hfree hkey => ?_⟩
  · have hread := recReadLookup_host_misses hup hwait hport hrun hflush hdelete hopen htags hevicted hroom es
    have htake := s.takeRead_inShard h.val .host q Set.univ
    have hshard := s.shard_takeRead h.val .host q
    have hreg : (s.takeRead h.val .host q).reg (Reg.HNK_CNT h.val Cnt.HNK_HOT_MISS) = s.reg (Reg.HNK_CNT h.val Cnt.HNK_HOT_MISS) := rfl
    generalize s.takeRead h.val .host q = t at hread htake hshard hreg
    obtain ⟨hframe, hentries⟩ := (t.hnkBump h.val Cnt.HNK_HOT_MISS).allocEntry_inShard h.val (hostAsker op x key cls) .fetch .host
    rw [State.shard_hnkBump, hshard] at hentries
    have hne : Reg.HNK_CNT h.val Cnt.HNK_HOT_MISS ∉ entryRegs h.val := by
      simp only [entryRegs, Set.mem_insert_iff, Set.mem_singleton_iff, Reg.HNK_CNT, Reg.HNK_ENTRY_STATUS, Reg.HNK_STATUS]
      omega
    have hall := (htake.trans ((State.bump_inShard t h.val (Set.mem_univ _)).parts
      (by simp [shardParts]))).trans (hframe.mono (Set.subset_univ _) fun _ hp => hp)
    refine ⟨_, (congrArg (done s) hread).trans (done_eq_next hall.2.2 (by decide)), ?_, ?_, ?_, hall.1,
      State.onlyParts_mono hall.2.2 (by simp [shardParts])⟩
    · rw [hentries]
    · rw [hentries]; rfl
    · rw [hframe.reg_eq hne, State.reg_hnkBump_self, hreg]
  · have hread := recReadLookup_item_hits hok hup hwait hport hthread hitem haging hopen htags hfree hkey
    have htake := s.takeRead_inShard h.val (.item r) q {Reg.HNK_CNT h.val Cnt.HNK_HOT_HIT}
    have hshard := s.shard_takeRead h.val (.item r) q
    have hreg : (s.takeRead h.val (.item r) q).reg (Reg.HNK_CNT h.val Cnt.HNK_HOT_HIT) = s.reg (Reg.HNK_CNT h.val Cnt.HNK_HOT_HIT) := rfl
    have hway : (s.takeRead h.val (.item r) q).way h.val k = s.way h.val k := State.way_congr (by rw [hshard]) k
    generalize s.takeRead h.val (.item r) q = t at hread htake hshard hreg hway
    obtain ⟨hport', hway', hthread', hcount, hframe⟩ := t.threadHit_leaves h.val k r i
    have hall := htake.trans hframe
    rw [hway] at hway'
    exact ⟨_, (congrArg (done s) hread).trans (done_eq_next hall.2.2 (by decide)), by rw [hport', hshard], by rw [hway'], by rw [hway'],
      by rw [hway'], hthread', by rw [hcount, hreg], hall.2.onlyRegs (by simp), hall.1, State.onlyParts_mono hall.2.2 (by simp [shardParts])⟩

end Sys2Proof.Machine
end

section
/-! PROOF. Accesses to a record's place (R119, R125, R137): what reads, writes and removals there leave of the shard. -/

namespace Sys2Proof.Machine

/-! ### Store steps -/

/-- Registers in `R`, the parts of `l` and shard `h` may change; the shard's sweeper stands, its entries are as many as before and a
way that is empty stays so. -/
structure State.storeStep (s t : State) (h : Nat) (R : Set Nat) (l : List Part) : Prop where
  frame : s.inShard t h R l
  sweep : (t.shard h).sweep = (s.shard h).sweep
  entries : (t.shard h).entries.length = (s.shard h).entries.length
  empty : ∀ i, s.way h i = Way.init → t.way h i = Way.init

/-- Parts that an access to a record's place may change. -/
def storeParts : List Part := [.regs, .shards, .dram, .free, .fault]

section
variable {s t u : State} {h : Nat} {R R' : Set Nat} {l l' : List Part}

theorem State.storeStep.refl (s : State) (h : Nat) (R : Set Nat) (l : List Part) : s.storeStep s h R l :=
  ⟨.refl s h R l, rfl, rfl, fun _ hi => hi⟩

theorem State.storeStep.trans (a : s.storeStep t h R l) (b : t.storeStep u h R l) : s.storeStep u h R l :=
  ⟨a.frame.trans b.frame, b.sweep.trans a.sweep, b.entries.trans a.entries, fun i hi => b.empty i (a.empty i hi)⟩

theorem State.storeStep.mono (a : s.storeStep t h R l) (hR : R ⊆ R') (hl : ∀ p ∈ l, p ∈ l') : s.storeStep t h R' l' :=
  ⟨a.frame.mono hR hl, a.sweep, a.entries, a.empty⟩

/-- A change outside the shards. -/
theorem State.within.storeStep (a : s.within t R l) (hl : Part.shards ∉ l) (h : Nat) : s.storeStep t h R l :=
  ⟨a.inShard hl h, by rw [a.shard_eq hl h], by rw [a.shard_eq hl h], fun i hi => (a.way_eq hl h i).trans hi⟩

theorem State.setShard_storeStep {x : ShardSt} (R : Set Nat) (hsweep : x.sweep = (s.shard h).sweep)
    (hentries : x.entries.length = (s.shard h).entries.length)
    (hways : ∀ i, s.way h i = Way.init → Tbl.get Way.init x.ways i = Way.init) : s.storeStep (s.setShard h x) h R [.shards] := by
  have hshard := s.shard_setShard_self h x
  exact ⟨s.setShard_inShard h x R, by rw [hshard, hsweep], by rw [hshard, hentries], fun i hi => by
    rw [State.way, hshard]; exact hways i hi⟩

end

section
variable (s : State) (h : Nat) (R : Set Nat)

theorem State.setStash_storeStep (i : Nat) (x : Option StashEntry) : s.storeStep (s.setStash h i x) h R [.shards] :=
  State.setShard_storeStep R rfl rfl fun _ hi => hi

theorem State.withdrawSlot_storeStep (i : Nat) : s.storeStep (s.withdrawSlot h i) h R [.shards] := s.setStash_storeStep h R i _

/-- A way that becomes empty. -/
theorem State.emptyWay_storeStep (i : Nat) : s.storeStep (s.setWay h i Way.init) h R [.shards] := by
  have hshard := s.shard_setWay h i Way.init
  refine ⟨s.setWay_inShard h i _ R, by rw [hshard], by rw [hshard], fun j hj => ?_⟩
  rw [State.way_setWay, hj, ite_self]

/-- The ways of a record are empty once it was dropped. -/
theorem State.dropWay_storeStep (i : Nat) : s.storeStep (s.dropWay h i) h R [.shards] ∧ (s.dropWay h i).way h i = Way.init := by
  unfold State.dropWay
  extract_lets long t u
  have hfirst : t.way h i = Way.init := (s.way_setWay h i i _).trans (if_pos rfl)
  have hrest : t.storeStep u h R [.shards] := by
    unfold u
    split
    · exact t.emptyWay_storeStep h R (i + 1)
    · exact .refl t h R _
  have hlast : u.storeStep (u.setShard h { u.shard h with flush := (u.shard h).flush.filter (fun j => j != i) }) h R [.shards] :=
    State.setShard_storeStep R rfl rfl fun _ hj => hj
  exact ⟨((s.emptyWay_storeStep h R i).trans hrest).trans hlast, hlast.empty i (hrest.empty i hfirst)⟩

/-! ### Reads and writes of a slot -/

theorem State.readSlot_storeStep (x : Word64) (p : Place) (j : Nat) (fg : Bool) (e : Ecc) :
    s.storeStep (s.readSlot h x p j fg e).2 h lowRegs storeParts :=
  ((s.dramRead_dramStep _ fg e).storeStep (by simp [dramParts]) h).mono subset_rfl (by simp [dramParts, storeParts])

theorem State.writeSlot_storeStep (x : Word64) (p : Place) (j : Nat) (w : List Word64) (fg : Bool) :
    s.storeStep (s.writeSlot h x p j w fg) h lowRegs storeParts :=
  ((s.writeSlot_within h x p j w fg).storeStep (by simp) h).mono subset_rfl (by simp [storeParts])

theorem State.writeRecord_storeStep (x : Word64) (p : Place) (w : List Word64) (fg : Bool) :
    s.storeStep (s.writeRecord h x p w fg) h lowRegs storeParts :=
  ((s.writeRecord_within h x p w fg).storeStep (by simp) h).mono subset_rfl (by simp [storeParts])

theorem State.mergeSlot_storeStep (x : Word64) (p : Place) (w : List Word64) (fg : Bool) :
    s.storeStep (s.mergeSlot h x p w fg) h lowRegs storeParts :=
  (((s.countRmw_sameLines _).1.storeStep (by simp) h).mono subset_rfl (by simp [storeParts])).trans
    (State.writeSlot_storeStep _ h x p 0 w fg)

theorem State.settleEvb_storeStep (x : Word64) (p : Place) : s.storeStep (s.settleEvb h x p) h lowRegs storeParts := by
  obtain ⟨l, hshard⟩ := s.shard_settleEvb h x p
  exact ⟨(s.settleEvb_inShard h x p).parts (by simp [writeParts, storeParts]), by rw [hshard], by rw [hshard],
    fun i hi => (State.way_congr (by rw [hshard]) i).trans hi⟩

theorem State.hnkBump_storeStep (i : Nat) : s.storeStep (s.hnkBump h i) h {Reg.HNK_CNT h i} storeParts :=
  ((s.bump_within (Set.mem_singleton _)).storeStep (by simp) h).mono subset_rfl (by simp [storeParts])

theorem State.setFld_storeStep {a : Nat} (f : Fld) (x : Nat) : s.storeStep (s.setFld a f x) h {a} storeParts :=
  ((s.setFld_within (Set.mem_singleton _) f x).storeStep (by simp) h).mono subset_rfl (by simp [storeParts])

end

/-! ### Changes of DISP (R125) -/

/-- A change of a table's values that keeps the default keeps an unlisted key unlisted. -/
theorem Tbl.get_map_default {α : Type} {d : α} {f : Nat × α → Nat × α} (hkey : ∀ e, (f e).1 = e.1) (hdefault : ∀ k, (f (k, d)).2 = d)
    (l : Tbl α) {i : Nat} (h : Tbl.get d l i = d) : Tbl.get d (l.map f) i = d := by
  induction l with
  | nil => rfl
  | cons e r ih =>
    obtain ⟨k, v⟩ := e
    rw [List.map_cons, ← Prod.mk.eta (p := f (k, v)), Tbl.get, hkey]
    rw [Tbl.get] at h
    split
    · next hik =>
      rw [if_pos hik] at h
      rw [h, hdefault]
    · next hik =>
      rw [if_neg hik] at h
      exact ih h

/-- An empty way has no words to change. -/
theorem dispWords_empty (p : Place) (slot disp : Nat) : dispWords p slot disp [] = [] := by
  unfold dispWords
  split
  · rfl
  · split
    · rfl
    · exact if_neg fun hlong => absurd hlong.1 (by decide)

theorem State.dispUpdate_storeStep (s : State) (h : Nat) (x : Word64) (slot disp : Nat) (R : Set Nat) :
    s.storeStep (s.dispUpdate h x slot disp) h R [.shards] := by
  refine State.setShard_storeStep R rfl (List.length_map _) fun i hi => Tbl.get_map_default (fun e => ?_) (fun k => ?_) _ hi
  · split <;> rfl
  · split
    · simp only [Way.init, dispWords_empty]
    · rfl

/-! ### Removal of a record from its place (R137) -/

/-- Registers that a removal moves: those of the DMCs, the collector's, and the count of bucket records. -/
def removeRegs (h : Nat) : Set Nat := lowRegs ∪ {Reg.HNK_OCC1 h}

theorem lowRegs_subset_removeRegs (h : Nat) : lowRegs ⊆ removeRegs h := Set.subset_union_left

theorem State.bucketRecords_storeStep (s : State) (h : Nat) (up : Bool) (n : Nat) :
    s.storeStep (s.bucketRecords h up n) h {Reg.HNK_OCC1 h} storeParts := s.setFld_storeStep h _ _

theorem State.clearDisp_storeStep (s : State) (h : Nat) (x : Word64) (f q : Nat) (fg : Bool) (e : Ecc) :
    s.storeStep (s.clearDisp h x f q fg e) h lowRegs storeParts := by
  have hread := s.readSlot_storeStep h x { stash := false, slot := f } 0 fg e
  unfold State.clearDisp
  dsimp only
  split
  · exact hread
  · exact (hread.trans (State.mergeSlot_storeStep _ h x _ _ fg)).trans
      ((State.dispUpdate_storeStep _ h x f _ _).mono subset_rfl (by simp [storeParts]))

theorem State.removeFromDram_storeStep (s : State) (h : Nat) (x : Word64) (w : List Word64) (p : Place) (fg : Bool) (e : Ecc) :
    s.storeStep (s.removeFromDram h x w p fg e) h (removeRegs h) storeParts := by
  have hlow {t u : State} (a : t.storeStep u h lowRegs storeParts) : t.storeStep u h (removeRegs h) storeParts :=
    a.mono (lowRegs_subset_removeRegs h) fun _ hp => hp
  have hstash (t : State) (i : Nat) : t.storeStep (t.setStash h i none) h (removeRegs h) storeParts :=
    (t.setStash_storeStep h _ i none).mono subset_rfl (by simp [storeParts])
  unfold State.removeFromDram
  extract_lets long first second gone counted
  have hfirst : s.storeStep first h lowRegs storeParts :=
    (s.settleEvb_storeStep h x p).trans (State.writeSlot_storeStep _ h x p 0 _ fg)
  have hsecond : s.storeStep second h (removeRegs h) storeParts := by
    refine hlow (hfirst.trans ?_)
    unfold second
    split
    · exact State.writeSlot_storeStep _ h x p 1 _ fg
    · exact .refl _ _ _ _
  clear_value second
  have hcounted : second.storeStep counted h (removeRegs h) storeParts :=
    (second.bucketRecords_storeStep h false _).mono Set.subset_union_right fun _ hp => hp
  refine hsecond.trans ?_
  split
  · refine (hstash second p.slot).trans ?_
    split
    · exact hstash gone _
    · exact .refl _ _ _ _
  · refine hcounted.trans ?_
    split
    · exact .refl _ _ _ _
    · exact hlow (counted.clearDisp_storeStep h x _ _ fg e)

/-! ### Loss and deletion of a resident record (R129, R137) -/

/-- Parts that the deletion of a record may change: those of its place, and the queue of the mirror. -/
def deleteParts : List Part := .twin :: storeParts

theorem State.mirrorDelete_storeStep (s : State) (h : Nat) (x : Word64) (old : List Word64) :
    s.storeStep (s.mirrorDelete h x old) h lowRegs deleteParts :=
  ((s.mirrorDelete_within h x old).storeStep (by simp [mirrorParts]) h).mono subset_rfl (by simp [mirrorParts, deleteParts, storeParts])

/-- A deleted record's way is empty. -/
theorem State.deleteWay_storeStep (s : State) (h i : Nat) (e : Ecc) :
    s.storeStep (s.deleteWay h i e) h (removeRegs h) deleteParts ∧ (s.deleteWay h i e).way h i = Way.init := by
  unfold State.deleteWay
  extract_lets w x mirrored
  have hmirrored : s.storeStep mirrored h (removeRegs h) deleteParts :=
    (s.mirrorDelete_storeStep h x w.words).mono (lowRegs_subset_removeRegs h) fun _ hp => hp
  clear_value mirrored
  obtain ⟨hdrop, hempty⟩ := mirrored.dropWay_storeStep h (removeRegs h) i
  have hremove := State.removeFromDram_storeStep (mirrored.dropWay h i) h x w.words w.place true e
  exact ⟨(hmirrored.trans (hdrop.mono subset_rfl (by simp [deleteParts, storeParts]))).trans
    (hremove.mono subset_rfl (by simp [deleteParts, storeParts])), hremove.empty i hempty⟩

/-- Whatever a way's read meets, the shard's sweeper stands. -/
theorem State.readWay_storeStep (s : State) (h i : Nat) (e : Ecc) : s.storeStep (s.readWay h i e).2 h Set.univ storeParts := by
  have hdetect (t : State) (kind cls : Nat) : t.storeStep (t.detect (srcShard h) kind cls i) h Set.univ storeParts :=
    ((t.detect_within _ _ _ _).storeStep (by simp) h).mono (Set.subset_univ _) (by simp [storeParts])
  have hdrop : s.storeStep (s.dropWay h i) h Set.univ storeParts :=
    (s.dropWay_storeStep h Set.univ i).1.mono subset_rfl (by simp [storeParts])
  cases e with
  | ok => exact .refl s _ _ _
  | corrected => exact (s.hnkBump_storeStep h _).mono (Set.subset_univ _) fun _ hp => hp
  | uncorrectable =>
    unfold State.readWay
    dsimp only
    split
    · unfold State.loseWay
      extract_lets w x
      exact ((hdrop.trans ((State.removeFromDram_storeStep _ h x w.words w.place true .ok).mono (Set.subset_univ _) fun _ hp => hp)).trans
        ((State.hnkBump_storeStep _ h _).mono (Set.subset_univ _) fun _ hp => hp)).trans (hdetect _ _ _)
    · exact hdrop.trans (hdetect _ _ _)

end Sys2Proof.Machine
end

section
/-! PROOF. A fetch (R131, R132): its run leaves the shard's entries in number, and how it may end. -/

namespace Sys2Proof.Machine

/-- What a fetch may change of a shard `h`: any register, the slots and the directory of the store, not the number of its entries. -/
def State.fetchStep (s t : State) (h : Nat) : Prop := s.storeStep t h Set.univ storeParts

section
variable {s t u : State} {h : Nat} {R : Set Nat}

theorem State.fetchStep.refl (s : State) (h : Nat) : s.fetchStep s h := State.storeStep.refl s h _ _

theorem State.fetchStep.trans (a : s.fetchStep t h) (b : t.fetchStep u h) : s.fetchStep u h := State.storeStep.trans a b

theorem State.storeStep.fetchStep (a : s.storeStep t h R storeParts) : s.fetchStep t h := a.mono (Set.subset_univ _) fun _ hp => hp

theorem State.storeStep.fetchStep_of_shards (a : s.storeStep t h R [.shards]) : s.fetchStep t h :=
  a.mono (Set.subset_univ _) (by simp [storeParts])

theorem State.hnkBump_fetchStep (s : State) (h i : Nat) : s.fetchStep (s.hnkBump h i) h := (s.hnkBump_storeStep h i).fetchStep

theorem State.setFld_fetchStep (s : State) (h a : Nat) (f : Fld) (x : Nat) : s.fetchStep (s.setFld a f x) h :=
  (s.setFld_storeStep h f x).fetchStep

end

/-! ### The reads of a fetch -/

section
variable (r : FetchRun) (h : Nat) (x : Word64)

theorem FetchRun.read_step (p : Place) (j : Nat) : r.s.fetchStep (r.read h x p j).2.s h :=
  (r.s.readSlot_storeStep h x p j true _).fetchStep

theorem FetchRun.slot_step (j : Nat) : r.s.fetchStep (r.slot h x j).2.s h := by
  unfold FetchRun.slot
  split
  · exact .refl _ h
  · exact r.read_step h x _ j

theorem FetchRun.count_step (i : Nat) : r.s.fetchStep (r.count h i).s h := r.s.hnkBump_fetchStep h i

theorem FetchRun.whole_step (p : Place) (w : List Word64) : r.s.fetchStep (r.whole h x p w).2.s h := by
  have htail : r.s.fetchStep (if p.stash then r.read h x p 1 else r.slot h x (p.slot + 1)).2.s h := by
    split
    · exact r.read_step h x p 1
    · exact r.slot_step h x _
  unfold FetchRun.whole
  dsimp only
  split
  · exact .refl _ h
  · split
    · exact htail.trans (FetchRun.count_step _ h _)
    · exact htail

theorem FetchRun.inStash_step (key : List Byte) (l : List Nat) : r.s.fetchStep (r.inStash h x key l).2.s h := by
  induction l generalizing r with
  | nil => exact .refl _ h
  | cons i l ih =>
    have hread := r.read_step h x { stash := true, slot := i } 0
    rw [FetchRun.inStash]
    split
    · exact (hread.trans ((State.withdrawSlot_storeStep _ h Set.univ i).fetchStep_of_shards.trans (State.hnkBump_fetchStep _ h _))).trans
        (ih { (r.read h x { stash := true, slot := i } 0).2 with s := _ })
    · next w _ =>
      split
      · have hwhole := hread.trans (FetchRun.whole_step _ h x { stash := true, slot := i } w)
        dsimp only
        split
        · exact hwhole.trans (ih _)
        · exact hwhole
      · exact hread.trans (ih _)

theorem FetchRun.displaced_step (key : List Byte) (l : List Nat) : r.s.fetchStep (r.displaced h x key l).2.s h := by
  induction l generalizing r with
  | nil => exact .refl _ h
  | cons q l ih =>
    have hread := (r.slot_step h x q).trans (FetchRun.count_step (r.slot h x q).2 h Cnt.HNK_PROBE_READS)
    rw [FetchRun.displaced]
    split
    · exact hread.trans (ih _)
    · next w _ =>
      split
      · have hwhole := hread.trans (FetchRun.whole_step _ h x { stash := false, slot := q } w)
        dsimp only
        split
        · exact hwhole.trans (ih _)
        · exact hwhole
      · exact hread.trans (ih _)

/-- A slot read in a scan is counted unless it had been read before. -/
theorem FetchRun.scanned_step (j : Nat) (had : Bool) :
    r.s.fetchStep (if had then (r.slot h x j).2 else (r.slot h x j).2.count h Cnt.HNK_SCAN_READS).s h := by
  split
  · exact r.slot_step h x j
  · exact (r.slot_step h x j).trans (FetchRun.count_step _ h _)

theorem FetchRun.scan_step (long : Bool) (l : List Nat) : r.s.fetchStep (r.scan h x long l).2.s h := by
  induction l generalizing r with
  | nil => exact .refl _ h
  | cons j l ih =>
    have hfirst := r.scanned_step h x j (r.seen.any fun e => e.1 == j)
    rw [FetchRun.scan]
    dsimp only
    generalize (if (r.seen.any fun e => e.1 == j) then (r.slot h x j).2 else (r.slot h x j).2.count h Cnt.HNK_SCAN_READS) = first
      at hfirst ⊢
    have hsecond := hfirst.trans (first.scanned_step h x (j + 1) (first.seen.any fun e => e.1 == j + 1))
    split
    · exact hfirst.trans (ih first)
    · split
      · exact hfirst
      · split
        · exact hsecond
        · exact hsecond.trans (ih _)

end

/-! ### Creation (R132, R133) -/

section
variable (s : State) (h : Nat)

theorem State.draw_fetchStep : s.fetchStep s.draw.2 h :=
  ((s.draw_rest.within (by simp) Set.univ).storeStep (by simp) h).mono subset_rfl (by simp [storeParts])

theorem State.draws_fetchStep (n : Nat) : s.fetchStep (s.draws n).2 h := by
  induction n generalizing s with
  | zero => exact .refl s h
  | succ n ih => exact (s.draw_fetchStep h).trans (ih _)

theorem placeholder_fetchStep (long : Bool) (key : List Byte) (d0 d1 : Nat) : s.fetchStep (placeholder long key d0 d1 s).2 h := by
  unfold placeholder
  dsimp only
  split
  · exact s.draws_fetchStep h 15
  · exact s.draws_fetchStep h 15

theorem State.createdWords_fetchStep (x : Word64) (long swap : Bool) (key : List Byte) (cls d0 d1 : Nat) :
    s.fetchStep (s.createdWords h x long swap key cls d0 d1).2 h := s.draws_fetchStep h 1

theorem State.stashTake_fetchStep (i : Nat) (x : Word64) (long : Bool) : s.fetchStep (s.stashTake h i x long) h := by
  have hstash (t : State) (j : Nat) (y : Option StashEntry) : t.fetchStep (t.setStash h j y) h :=
    (t.setStash_storeStep h Set.univ j y).fetchStep_of_shards
  unfold State.stashTake
  extract_lets e first second
  have hsecond : s.fetchStep second h := by
    refine (hstash s i (some e)).trans ?_
    show first.fetchStep second h
    unfold second
    split
    · exact hstash first _ _
    · exact .refl _ h
  clear_value second
  split
  · exact hsecond.trans (second.setFld_fetchStep h _ _ _)
  · exact hsecond

end

/-- How a creation may end. -/
def RecOutcome.ofCreation (o : RecOutcome) : Prop := o = .created ∨ o = .tableFull

theorem FetchRun.createAt_step (r : FetchRun) (h : Nat) (x : Word64) (key : List Byte) (cls : Nat) (swap long : Bool) (q : Option Nat) :
    r.s.fetchStep (r.createAt h x key cls swap long q).2.s h ∧ (r.createAt h x key cls swap long q).1.out.ofCreation := by
  cases q with
  | some j =>
    refine ⟨?_, .inl rfl⟩
    have hcounted (d0 d1 c : Nat) : r.s.fetchStep
        ((((placeholder long key d0 d1 r.s).2.writeRecord h x { stash := false, slot := j } (placeholder long key d0 d1 r.s).1
          true).bucketRecords h true (recSlots long)).hnkBump h c) h :=
      (((placeholder_fetchStep r.s h long key d0 d1).trans (State.writeRecord_storeStep _ h x _ _ true).fetchStep).trans
        (State.bucketRecords_storeStep _ h true _).fetchStep).trans (State.hnkBump_fetchStep _ h c)
    unfold FetchRun.createAt
    dsimp only
    refine State.fetchStep.trans ?_ (State.createdWords_fetchStep _ h x long swap key cls _ _)
    split
    · exact hcounted _ _ _
    · split
      · exact ((hcounted _ _ _).trans (State.mergeSlot_storeStep _ h x _ _ true).fetchStep).trans
          (State.dispUpdate_storeStep _ h x _ _ Set.univ).fetchStep_of_shards
      · exact hcounted _ _ _
  | none =>
    unfold FetchRun.createAt
    dsimp only
    split
    · exact ⟨(r.s.hnkBump_fetchStep h _).trans (State.setFld_fetchStep _ h _ _ _), .inr rfl⟩
    · next i _ =>
      exact ⟨((((placeholder_fetchStep r.s h long key 0 0).trans (State.stashTake_fetchStep _ h i x long)).trans
        (State.writeRecord_storeStep _ h x _ _ true).fetchStep).trans (State.hnkBump_fetchStep _ h _)).trans
        (State.createdWords_fetchStep _ h x long swap key cls 0 0), .inl rfl⟩

theorem FetchRun.create_step (r : FetchRun) (h : Nat) (x : Word64) (key : List Byte) (cls : Nat) (swap : Bool) :
    r.s.fetchStep (r.create h x key cls swap).2.s h ∧ (r.create h x key cls swap).1.out.ofCreation := by
  have hends {r' : FetchRun} (hr : r.s.fetchStep r'.s h) (long : Bool) (q : Option Nat) :
      r.s.fetchStep (r'.createAt h x key cls swap long q).2.s h ∧ (r'.createAt h x key cls swap long q).1.out.ofCreation :=
    (r'.createAt_step h x key cls swap long q).imp_left hr.trans
  unfold FetchRun.create
  extract_lets long p a b c
  have ha : r.s.fetchStep a.2.s h := r.slot_step h x p
  clear_value a
  split
  · exact hends ha long none
  · have hb : r.s.fetchStep b.2.s h := by
      unfold b
      split
      · exact ha.trans (a.2.slot_step h x _)
      · exact ha
    clear_value b
    split
    · exact hends hb long _
    · split
      · exact hends hb long none
      · exact hends (hb.trans (b.2.scan_step h x long _)) long _

/-! ### The whole fetch -/

/-- How a fetch may end. -/
def RecOutcome.ofFetch (o : RecOutcome) : Prop := o = .found ∨ o = .absent ∨ o.ofCreation

theorem State.fetch_step (s : State) (h : Nat) (x : Word64) (key : List Byte) (cls : Nat) (create swap : Bool) (es : List Ecc) :
    s.fetchStep (s.fetch h x key cls create swap es).2 h ∧ (s.fetch h x key cls create swap es).1.out.ofFetch := by
  unfold State.fetch
  extract_lets r cands st p a counted w hit d absent c
  have hst : s.fetchStep st.2.s h := r.inStash_step h x key cands
  clear_value st
  split
  · exact ⟨hst.trans (State.hnkBump_fetchStep _ h _), .inl rfl⟩
  · have ha : s.fetchStep a.2.s h := hst.trans (st.2.slot_step h x p)
    clear_value a
    have hcounted : s.fetchStep counted.s h := by
      unfold counted
      split
      · exact ha.trans (a.2.count_step h _)
      · exact ha
    clear_value counted
    have hhit : s.fetchStep hit.2.s h := by
      unfold hit
      split
      · exact hcounted.trans (counted.whole_step h x _ w)
      · exact hcounted
    clear_value hit
    split
    · exact ⟨hhit.trans (State.hnkBump_fetchStep _ h _), .inl rfl⟩
    · have hd : s.fetchStep d.2.s h := hhit.trans (hit.2.displaced_step h x key _)
      clear_value d
      have habsent : s.fetchStep absent.s h := hd.trans (d.2.count_step h _)
      clear_value absent
      split
      · exact ⟨hd.trans (State.hnkBump_fetchStep _ h _), .inl rfl⟩
      · split
        · exact ⟨habsent, .inr (.inl rfl)⟩
        · exact (absent.create_step h x key cls swap).imp habsent.trans fun hc => .inr (.inr hc)

end Sys2Proof.Machine
end

section
/-! PROOF. A miss entry (R128, R131 to R137): its fetch, its fill, its delivery, the hand-over of a hold, and the eviction buffer's
oldest write. -/

namespace Sys2Proof.Machine

/-! ### The end of a fetch (R131) -/

/-- A miss entry that asks for what the head of its queue asks for now. -/
def State.askedEntry (s : State) (h : Nat) (e : RecEntry) : RecEntry :=
  match e.queue with
  | w :: _ =>
    (match s.asker h w with
     | some a => { e with key := a.key, cls := a.cls, create := a.create, swap := a.swap }
     | none => e)
  | [] => e

theorem State.askedEntry_keeps (s : State) (h : Nat) (e : RecEntry) :
    (s.askedEntry h e).h = e.h ∧ (s.askedEntry h e).queue = e.queue := by
  unfold State.askedEntry
  split
  · split <;> exact ⟨rfl, rfl⟩
  · exact ⟨rfl, rfl⟩

/-- The stage of a miss entry whose fetch has ended. -/
def Fetched.stage (f : Fetched) : EntryStage :=
  if f.out = .found ∨ f.out = .created then .fetched f.out f.words f.place false else .ready f.out

theorem Fetched.stage_cases {f : Fetched} (h : f.out.ofFetch) :
    (∃ w p, f.stage = .fetched .found w p false) ∨ (∃ w p, f.stage = .fetched .created w p false)
      ∨ f.stage = .ready .absent ∨ f.stage = .ready .tableFull := by
  unfold Fetched.stage
  obtain hf | hf | hf | hf := h
  · exact .inl ⟨f.words, f.place, by simp [hf]⟩
  · exact .inr (.inr (.inl (by simp [hf])))
  · exact .inr (.inl ⟨f.words, f.place, by simp [hf]⟩)
  · exact .inr (.inr (.inr (by simp [hf])))

/-- The fetch of an entry. -/
def State.entryFetch (s : State) (h : Nat) (e : RecEntry) (es : List Ecc) : Fetched × State :=
  s.fetch h (s.askedEntry h e).h (s.askedEntry h e).key (s.askedEntry h e).cls (s.askedEntry h e).create (s.askedEntry h e).swap es

section
variable {s : State} {h i : Nat} {e : RecEntry}

theorem hankFetch_fetches (hentry : (s.shard h).entries[i]? = some e) (hstage : e.stage = .fetch) (hup : s.shardUp h = true)
    (hready : s.dmcReady = true) (es : List Ecc) :
    hankFetch h i es s
      = (s.entryFetch h e es).2.setEntryAt h i { s.askedEntry h e with stage := (s.entryFetch h e es).1.stage } := by
  obtain ⟨x, stage, key, cls, create, swap, queue, waited⟩ := e
  obtain rfl : stage = .fetch := hstage
  unfold hankFetch
  rw [hentry]
  exact if_neg (by simp [hup, hready])

theorem hankFetch_ends (hentry : (s.shard h).entries[i]? = some e) (hstage : e.stage = .fetch) (hup : s.shardUp h = true)
    (hready : s.dmcReady = true) (es : List Ecc) :
    ((hankFetch h i es s).shard h).entries[i]? = some { s.askedEntry h e with stage := (s.entryFetch h e es).1.stage }
      ∧ (s.entryFetch h e es).1.out.ofFetch ∧ ((hankFetch h i es s).shard h).entries.length = (s.shard h).entries.length
      ∧ s.inShard (hankFetch h i es s) h Set.univ storeParts := by
  obtain ⟨hfetch, hout⟩ : s.fetchStep (s.entryFetch h e es).2 h ∧ _ := s.fetch_step h _ _ _ _ _ es
  obtain ⟨hi, -⟩ := List.getElem?_eq_some_iff.1 hentry
  rw [hankFetch_fetches hentry hstage hup hready es]
  refine ⟨State.entries_setEntryAt (by rw [hfetch.entries]; exact hi) _, hout, ?_, hfetch.frame.trans
    ((State.setEntryAt_inShard _ h i _ _).parts (by simp [storeParts]))⟩
  rw [State.entries_setEntryAt_length, hfetch.entries]

end

/-! ### Making room (R126, R128) -/

/-- Ways, clock hands, the eviction buffer and counters of shard `h` may change; its entries stand. -/
def State.roomStep (s t : State) (h : Nat) : Prop :=
  s.inShard t h Set.univ [.regs, .shards] ∧ (t.shard h).entries = (s.shard h).entries

section
variable {s t u : State} {h : Nat}

theorem State.roomStep.refl (s : State) (h : Nat) : s.roomStep s h := ⟨.refl s h _ _, rfl⟩

theorem State.roomStep.trans (a : s.roomStep t h) (b : t.roomStep u h) : s.roomStep u h := ⟨a.1.trans b.1, b.2.trans a.2⟩

theorem State.setShard_roomStep (x : ShardSt) (hx : x.entries = (s.shard h).entries) : s.roomStep (s.setShard h x) h :=
  ⟨(s.setShard_inShard h x _).parts (by simp), by rw [State.shard_setShard_self, hx]⟩

theorem State.hnkBump_roomStep (s : State) (h c : Nat) : s.roomStep (s.hnkBump h c) h :=
  ⟨(s.bump_inShard h (Set.mem_univ _)).parts (by simp), rfl⟩

theorem State.setWay_roomStep (s : State) (h i : Nat) (w : Way) : s.roomStep (s.setWay h i w) h := State.setShard_roomStep _ rfl

theorem State.dropWay_roomStep (s : State) (h i : Nat) : s.roomStep (s.dropWay h i) h := by
  unfold State.dropWay
  extract_lets long t u
  have hu : t.roomStep u h := by
    unfold u
    split
    · exact t.setWay_roomStep h _ _
    · exact .refl t h
  exact ((s.setWay_roomStep h i _).trans hu).trans (State.setShard_roomStep _ rfl)

theorem State.clockStep_roomStep (s : State) (h set w : Nat) (long ign : Bool) : s.roomStep (s.clockStep h set w long ign).2 h := by
  unfold State.clockStep
  extract_lets i all
  split
  · exact .refl s h
  · split
    · exact forEach_induct (fun t => s.roomStep t h) all _ s (.refl s h) fun j t _ ht => ht.trans (t.setWay_roomStep h j _)
    · exact .refl s h

theorem State.clockRun_roomStep (h set : Nat) (long ign : Bool) (n : Nat) (s : State) (w : Nat) :
    s.roomStep (s.clockRun h set long ign n w).2 h := by
  induction n generalizing s w with
  | zero => exact .refl s h
  | succ n ih =>
    have hstep := s.clockStep_roomStep h set (w % 8) long ign
    rw [State.clockRun]
    split
    · exact hstep
    · exact hstep.trans (ih _ _)

theorem State.findVictim_roomStep (s : State) (h set : Nat) (long : Bool) : s.roomStep (s.findVictim h set long).2 h := by
  unfold State.findVictim
  extract_lets ign t hand r
  have ht : s.roomStep t h := by
    unfold t
    split
    · exact s.hnkBump_roomStep h _
    · exact .refl s h
  clear_value t
  have hr : s.roomStep r.2 h := ht.trans (State.clockRun_roomStep h set long ign _ t _)
  clear_value r
  split
  · exact hr
  · exact hr.trans (State.setShard_roomStep _ rfl)

theorem State.evict_roomStep (s : State) (h i : Nat) {e : Ecc} (he : e ≠ .uncorrectable) : s.roomStep (s.evict h i e) h := by
  obtain ⟨hlives, hread⟩ := s.readWay_survives h i he
  unfold State.evict
  dsimp only
  split
  · have hr : s.roomStep (s.readWay h i e).2 h :=
      ⟨(hread.inShard (by simp) h).mono (Set.subset_univ _) (by simp), congrArg ShardSt.entries (hread.shard_eq (by simp) h)⟩
    rw [hlives, if_neg (by simp)]
    exact ((hr.trans (State.dropWay_roomStep _ h i)).trans (State.setShard_roomStep _ (by rfl))).trans (State.hnkBump_roomStep _ h _)
  · exact (s.dropWay_roomStep h i).trans (State.hnkBump_roomStep _ h _)

theorem State.evictAll_roomStep (h : Nat) (l : List Nat) (es : List Ecc) (hes : ∀ x ∈ es, x ≠ .uncorrectable) (s : State) :
    s.roomStep (s.evictAll h l es) h := by
  induction l generalizing s es with
  | nil => exact .refl s h
  | cons j l ih =>
    have hhead : es.headD .ok ≠ .uncorrectable := by
      cases es with
      | nil => simp
      | cons x r => exact hes x (by simp)
    rw [State.evictAll]
    refine (s.evict_roomStep h j hhead).trans (ih _ ?_ _)
    split
    · exact fun x hx => hes x (List.mem_of_mem_drop hx)
    · exact hes

/-- Making room changes ways and the eviction buffer, where no read of a victim is uncorrectable. -/
theorem State.makeRoom_roomStep (s : State) (h : Nat) (x : Word64) (long : Bool) {es : List Ecc}
    (hes : ∀ e ∈ es, e ≠ .uncorrectable) : s.roomStep (s.makeRoom h x long es).2 h := by
  unfold State.makeRoom
  extract_lets r
  have hr : s.roomStep r.2 h := s.findVictim_roomStep h (setOf x) long
  clear_value r
  split
  · exact hr
  · extract_lets v dirty
    split
    · exact .refl s h
    · exact hr.trans (State.evictAll_roomStep h v es hes r.2)

end

/-! ### The fill (R126) -/

section
variable {s : State} {h i k : Nat} {e : RecEntry} {w : List Word64} {p : Place}

/-- What placing a record leaves in the way. -/
theorem State.putWay_leaves (s : State) (h k : Nat) (x : Word64) (w : List Word64) (p : Place) :
    ((s.putWay h k x w p).way h k).valid = true ∧ ((s.putWay h k x w p).way h k).h60 = tag60 x
      ∧ ((s.putWay h k x w p).way h k).place = p ∧ ((s.putWay h k x w p).way h k).words = w
      ∧ ((s.putWay h k x w p).shard h).entries = (s.shard h).entries
      ∧ s.inShard (s.putWay h k x w p) h Set.univ [.regs, .shards, .free] := by
  have hdraw : s.inShard s.draw.2 h Set.univ [.regs, .shards, .free] :=
    ((s.draw_rest.within (by simp) Set.univ).inShard (by simp) h).parts (by simp)
  unfold State.putWay
  extract_lets long d y t
  have ht : s.inShard t h Set.univ [.regs, .shards, .free] := hdraw.trans ((State.setWay_inShard _ h k y _).parts (by simp))
  have hway : t.way h k = y := (State.way_setWay _ h k k y).trans (if_pos rfl)
  have hentries : (t.shard h).entries = (s.shard h).entries := by
    rw [show t.shard h = _ from State.shard_setWay _ h k y]
    rfl
  clear_value t
  split
  · have hk : (t.setWay h (k + 1) { y with role := .tail, words := [] }).way h k = y := by
      rw [State.way_setWay, if_neg (by omega), hway]
    rw [hk]
    refine ⟨rfl, rfl, rfl, rfl, ?_, ht.trans ((State.setWay_inShard _ h _ _ _).parts (by simp))⟩
    rw [State.shard_setWay]
    exact hentries
  · rw [hway]
    exact ⟨rfl, rfl, rfl, rfl, hentries, ht⟩

/-- An installed record waits in its way for its delivery, clean. -/
theorem State.installAt_leaves (s : State) (h k : Nat) (x : Word64) (w : List Word64) (p : Place) :
    ((s.installAt h k x .found w p false).way h k).valid = true ∧ ((s.installAt h k x .found w p false).way h k).filling = true
      ∧ ((s.installAt h k x .found w p false).way h k).h60 = tag60 x ∧ ((s.installAt h k x .found w p false).way h k).place = p
      ∧ ((s.installAt h k x .found w p false).way h k).words = recPut w 0 w0Dirty 0
      ∧ ((s.installAt h k x .found w p false).shard h).entries = (s.shard h).entries
      ∧ s.inShard (s.installAt h k x .found w p false) h Set.univ [.regs, .shards, .free] := by
  obtain ⟨hvalid, htag, hplace, hwords, hentries, hframe⟩ := s.putWay_leaves h k x (recPut w 0 w0Dirty 0) p
  have hinstall : s.installAt h k x .found w p false
      = (s.putWay h k x (recPut w 0 w0Dirty 0) p).setWay h k { (s.putWay h k x (recPut w 0 w0Dirty 0) p).way h k with filling := true } :=
    rfl
  rw [hinstall]
  generalize s.putWay h k x (recPut w 0 w0Dirty 0) p = t at *
  rw [State.way_setWay, if_pos rfl, State.shard_setWay]
  exact ⟨hvalid, rfl, htag, hplace, hwords, hentries, hframe.trans ((t.setWay_inShard h k _ _).parts (by simp))⟩

theorem State.fetchedWords_of_entry {o : RecOutcome} {evb : Bool} (hentry : (s.shard h).entries[i]? = some e)
    (hstage : e.stage = .fetched o w p evb) (v : List Word64) : s.fetchedWords h i v = w := by
  obtain ⟨x, stage, key, cls, create, swap, queue, waited⟩ := e
  obtain rfl : stage = _ := hstage
  rw [State.fetchedWords, hentry]

theorem fillInstall_installs (hentry : (s.shard h).entries[i]? = some e) (hstage : e.stage = .fetched .found w p false)
    (hqueue : e.queue ≠ []) {es : List Ecc} (hroom : (s.makeRoom h e.h (recLong w) es).1 = some k)
    (hentries : ((s.makeRoom h e.h (recLong w) es).2.shard h).entries = (s.shard h).entries) :
    fillInstall h i es s
      = ((s.makeRoom h e.h (recLong w) es).2.installAt h k e.h .found w p false).setEntryAt h i { e with stage := .ready .found } := by
  have hwords : (s.makeRoom h e.h (recLong w) es).2.fetchedWords h i w = w :=
    State.fetchedWords_of_entry (by rw [hentries]; exact hentry) hstage w
  unfold fillInstall
  rw [hentry]
  dsimp only
  rw [hstage]
  dsimp only
  rw [hroom, if_neg (by simp)]
  dsimp only
  rw [if_neg hqueue, hwords]

end

/-! ### The delivery of an absent record (R133) -/

section
variable {s : State} {h i : Nat} {e : RecEntry}

/-- A LOOKUP ends. -/
theorem State.hostEnd_zero (s : State) (h : Nat) :
    s.hostEnd h 0 = (s.setShard h { s.shard h with host := .none }).setFld (recCmd h) Fld.HNK_REC_CMD_BUSY 0 := rfl

theorem State.giveOutcome_lookup_absent {x : Word64} {key : List Byte} {cls at_ : Nat}
    (hrun : (s.shard h).host = .run .lookup x key cls at_) (i : Nat) (resident : Bool) (ecc : Ecc) :
    s.giveOutcome h .host .absent i resident ecc = s.hostEnd h 0 := by
  unfold State.giveOutcome
  dsimp only
  rw [hrun]
  rfl

theorem fetchDeliver_absent {x : Word64} {key : List Byte} {cls at_ : Nat} (hentry : (s.shard h).entries[i]? = some e)
    (hstage : e.stage = .ready .absent) (hqueue : e.queue = [.host]) (hrun : (s.shard h).host = .run .lookup x key cls at_)
    (hkey : pad40 key = pad40 e.key) : fetchDeliver h i s = (s.releaseEntry h i).hostEnd h 0 := by
  obtain ⟨hreleased, -, -⟩ := s.releaseEntry_leaves h i
  have hwait : s.hostMustWait h .host = false := State.hostMustWait_run hrun (by simp) (by simp)
  have hgives := State.giveOutcome_lookup_absent (s := s.releaseEntry h i) (by rw [hreleased]; exact hrun) 0 false .ok
  unfold fetchDeliver
  rw [hentry]
  dsimp only
  rw [hstage]
  dsimp only
  rw [hqueue]
  dsimp only
  rw [State.asker_host hrun]
  dsimp only
  rw [if_neg (by simpa [hostAsker] using hkey), if_neg (by simp [State.needsPlace, hwait])]
  exact hgives

end

/-! ### The hand-over of a hold (R135) -/

section
variable {s : State} {h k r : Nat} {p : Parked}

/-- A parked item's entry of the list of parked items after a change. -/
theorem State.parkedOf_modParked (hparked : s.parkedOf h r = some p) {f : Parked → Parked} (hf : (f p).item = p.item) :
    (s.modParked h r f).parkedOf h r = some (f p) := by
  have hrank : p.item.rank = r := by simpa using List.find?_some hparked
  rw [State.parkedOf] at hparked ⊢
  rw [State.modParked, State.shard_setShard_self]
  generalize (s.shard h).parked = l at hparked
  induction l with
  | nil => simp at hparked
  | cons q l ih =>
    by_cases hq : q.item.rank = r
    · obtain rfl : q = p := by simpa [hq] using hparked
      simp [hq, hf]
    · simpa [hq] using ih (by simpa [hq] using hparked)

theorem holdEnd_hands {i : Nat} {e : RecEntry} {q : List Waiter} {es : List Ecc} (hok : es.headD .ok = .ok)
    (hentry : (s.shard h).entries[i]? = some e) (hstage : e.stage = .held) (hqueue : e.queue = .item r :: q)
    (hup : s.shardUp h = true) (hthread : s.threadOf h r = none) (hparked : s.parkedOf h r = some p)
    (hroom : s.resumeRoom h = true) (htags : s.tagMatches h p.item.h = [k])
    (hkey : recKey (s.way h k).words = pad40 p.item.key) (hfree : (s.way h k).held = none) :
    holdEnd h i es s = (((s.setRef h k true).hnkBump h Cnt.HNK_HOT_HIT).keepEntry h i e q .held).giveOutcome h (.item r) .found k true
      ((es.drop 1).headD .ok) := by
  have hasker := State.asker_item (State.itemOfRank_parked hthread hparked)
  have hfind : s.findWay h (s.itemAsker h p.item).x (s.itemAsker h p.item).key = some k := State.findWay_found htags hkey
  have hprobe : s.probe h (s.itemAsker h p.item).key (s.tagMatches h (s.itemAsker h p.item).x) es = (some k, es.drop 1, s) :=
    (congrArg (fun l => s.probe h p.item.key l es) htags).trans (State.probe_found hok hkey hfree)
  unfold holdEnd
  rw [hentry]
  dsimp only
  rw [hstage, hqueue]
  dsimp only
  rw [hup, hasker]
  dsimp only
  rw [hfind, hprobe]
  simp [hfree, State.needsPlace, hparked, hroom, State.hostMustWait]

/-- The hand-over before the outcome is told: the hit is counted, the entry served; threads and parked items stand. -/
theorem State.handOver_leaves (s : State) (h k i : Nat) (e : RecEntry) (q : List Waiter) (hthread : s.threadOf h r = none)
    (hparked : s.parkedOf h r = some p) :
    let u := ((s.setRef h k true).hnkBump h Cnt.HNK_HOT_HIT).keepEntry h i e q .held
    u.reg (Reg.HNK_CNT h Cnt.HNK_HOT_HIT) = s.reg (Reg.HNK_CNT h Cnt.HNK_HOT_HIT) + 1 ∧ u.threadOf h r = none
      ∧ u.parkedOf h r = some p ∧ s.inShard u h {Reg.HNK_CNT h Cnt.HNK_HOT_HIT} shardParts := by
  obtain ⟨-, -, hcount, hhit⟩ := s.countHit_leaves h k
  obtain ⟨-, -, l, hset⟩ := s.setRef_leaves h k true
  have hshard : ((s.setRef h k true).hnkBump h Cnt.HNK_HOT_HIT).shard h = { s.shard h with ways := l } :=
    (State.shard_hnkBump _ h _ h).trans hset
  generalize (s.setRef h k true).hnkBump h Cnt.HNK_HOT_HIT = t at *
  obtain ⟨⟨m, hkept⟩, hkeep⟩ := t.keepEntry_leaves h i e q .held
  rw [hshard] at hkept
  exact ⟨(hkeep.reg_eq (Set.notMem_empty _)).trans hcount, (State.threadOf_congr (by rw [hkept]) r).trans hthread,
    (State.parkedOf_congr (by rw [hkept]) r).trans hparked,
    (hhit.parts (by simp [shardParts])).trans (hkeep.mono (Set.empty_subset _) (by simp [shardParts]))⟩

/-- A parked item has received the record of way `k`. -/
theorem State.giveParked_leaves (hthread : s.threadOf h r = none) (hparked : s.parkedOf h r = some p) (e : Ecc) :
    (((s.giveOutcome h (.item r) .found k true e).way h k).held = some (.item r))
      ∧ (s.giveOutcome h (.item r) .found k true e).parkedOf h r = some { p with outcome := some .found }
      ∧ s.inShard (s.giveOutcome h (.item r) .found k true e) h ∅ [.shards, .links] := by
  rw [State.giveOutcome_parked hthread]
  have hway : (s.setWay h k { s.way h k with held := some (.item r) }).way h k = { s.way h k with held := some (.item r) } :=
    (s.way_setWay h k k _).trans (if_pos rfl)
  have hframe := s.setWay_inShard h k { s.way h k with held := some (.item r) } ∅
  have hparked' : (s.setWay h k { s.way h k with held := some (.item r) }).parkedOf h r = some p :=
    (State.parkedOf_congr (by rw [State.shard_setWay]) r).trans hparked
  generalize s.setWay h k { s.way h k with held := some (.item r) } = t at *
  refine ⟨?_, (State.parkedOf_congr (by rw [State.shard_useCredit]) r).trans (State.parkedOf_modParked hparked' rfl),
    ((hframe.parts (by simp)).trans ((t.setShard_inShard h _ _).parts (by simp))).trans
      ((State.useCredit_inShard _ h _ _ _).parts (by simp))⟩
  rw [State.way_useCredit, State.modParked, State.way_setShard _ (by rfl), hway]

end

/-! ### The eviction buffer's oldest write (R128, R136) -/

section
variable {s : State} {h : Nat} {e : Evicted} {q : List Evicted}

/-- The write of the oldest record in the eviction buffer, when the DMC accepts it. -/
def State.evbWrite (s : State) (h : Nat) (e : Evicted) : State :=
  s.writeRecord h (BitVec.ofNat 64 (e.h60 + h * 2 ^ 60)) e.place (cleanWords e.words) true

theorem State.shard_evbWrite (s : State) (h : Nat) (e : Evicted) : (s.evbWrite h e).shard h = s.shard h :=
  (s.writeRecord_within h _ _ _ true).shard_eq (by simp) h

theorem State.evbWrite_inShard (s : State) (h : Nat) (e : Evicted) : s.inShard (s.evbWrite h e) h lowRegs writeParts :=
  ((s.writeRecord_within h _ _ _ true).inShard (by simp) h).parts (by simp [writeParts])

/-- The line of a short record that was written back holds its words, clean; every other line is as before. -/
theorem State.lineBytes_evbWrite (s : State) {h : Nat} {e : Evicted} {a : LineAt} (hshort : recLong (cleanWords e.words) = false)
    (hlength : 8 ≤ (cleanWords e.words).length)
    (hat : s.locate (s.placeLine h (BitVec.ofNat 64 (e.h60 + h * 2 ^ 60)) e.place 0) = some a) (halive : s.rankDead a = false)
    (hsound : s.poisoned (s.placeLine h (BitVec.ofNat 64 (e.h60 + h * 2 ^ 60)) e.place 0) = false) (k : Nat) :
    (s.evbWrite h e).lineBytes k = if k = s.placeLine h (BitVec.ofNat 64 (e.h60 + h * 2 ^ 60)) e.place 0
      then bytesOf ((cleanWords e.words).take 8) else s.lineBytes k := by
  have hslot : s.evbWrite h e = (s.dramWrite (s.placeLine h (BitVec.ofNat 64 (e.h60 + h * 2 ^ 60)) e.place 0)
      (bytesOf ((cleanWords e.words).take 8)) true).2 := by
    unfold State.evbWrite State.writeRecord
    rw [hshort]
    rfl
  have hbytes : (bytesOf ((cleanWords e.words).take 8)).length = 64 := by
    rw [bytesOf_length, List.length_take]
    omega
  rw [hslot, State.dramWrite_lineBytes hat halive hsound, bytesAt_whole hbytes]

theorem evbWriteAccept_first (hevb : (s.shard h).evb = e :: q) (hunwritten : e.written = false) (hready : s.dmcReady = true) (x : Ecc) :
    evbWriteAccept h x s = (s.evbWrite h e).setShard h { s.shard h with
      evb := if e.reclaim then { e with written := true } :: q else q } := by
  have hfirst : (s.shard h).evb.findIdx? (fun v => !v.written) = some 0 := by
    rw [hevb, List.findIdx?_cons, hunwritten]; rfl
  have hentry : (s.shard h).evb[0]? = some e := by rw [hevb]; rfl
  have hshard := s.shard_evbWrite h e
  unfold State.evbWrite at hshard ⊢
  unfold evbWriteAccept
  dsimp only
  rw [hready, hfirst]
  dsimp only
  rw [hentry]
  dsimp only
  rw [if_neg (by simp)]
  rw [hshard, hevb]
  rfl

end

/-- Settles O23: each clause follows its command to the entry, the way or the line that it changes. -/
theorem recordEntries : Obligations.RecordEntries := by
  refine ⟨fun s h i es e hentry hstage hup hready => ?_, fun s h es i k e w p hes hentry hstage hqueue hroom => ?_,
    fun s h i e x key cls at_ hentry hstage hqueue hrun hkey => ?_, fun s h i es e hentry hstage hqueue => ?_,
    fun s h es i r k e q p hok hentry hstage hqueue hup hthread hparked haging hplace htags hkey hfree => ?_,
    fun s h x e q hevb hunwritten hreclaim hready => ?_,
    fun s h x e q a l hevb hunwritten hready hshort hlength hl hat halive hsound => ?_⟩
  · obtain ⟨hy, hout, hlength, hframe⟩ := hankFetch_ends hentry hstage hup hready es
    obtain ⟨hkh, hkqueue⟩ := s.askedEntry_keeps h.val e
    exact ⟨_, _, done_eq_next hframe.2.2 (by decide), hy, hkh, hkqueue, Fetched.stage_cases hout, hlength, hframe.1, hframe.2.2⟩
  · obtain ⟨hmade, hentries⟩ := s.makeRoom_roomStep h.val e.h (recLong w) hes
    have hinstalls := fillInstall_installs hentry hstage hqueue hroom hentries
    generalize (s.makeRoom h.val e.h (recLong w) es).2 = t at hmade hentries hinstalls
    obtain ⟨hvalid, hfilling, htag, hplace, hwords, hkept, hinstall⟩ := t.installAt_leaves h.val k e.h w p
    generalize t.installAt h.val k e.h .found w p false = u at *
    have hframe := ((hmade.parts (by simp)).trans hinstall).trans
      ((u.setEntryAt_inShard h.val i { e with stage := .ready .found } Set.univ).parts (by simp))
    have hway : (u.setEntryAt h.val i { e with stage := .ready .found }).way h.val k = u.way h.val k :=
      State.way_congr (by rw [State.setEntryAt, State.shard_setEntries]) k
    obtain ⟨hi, -⟩ := List.getElem?_eq_some_iff.1 hentry
    refine ⟨_, (congrArg (done s) hinstalls).trans (done_eq_next hframe.2.2 (by decide)), ?_, ?_, ?_, ?_, ?_,
      State.entries_setEntryAt (by rw [hkept, hentries]; exact hi) _, hframe.1, hframe.2.2⟩
    · rw [hway, hvalid]
    · rw [hway, hfilling]
    · rw [hway, htag]
    · rw [hway, hplace]
    · rw [hway, hwords]
  · have hdelivers := fetchDeliver_absent hentry hstage hqueue hrun hkey
    obtain ⟨hreleased, howed, hrelease⟩ := s.releaseEntry_leaves h.val i
    rw [State.hostEnd_zero] at hdelivers
    generalize s.releaseEntry h.val i = t at *
    have hset := t.setShard_inShard h.val { t.shard h.val with host := .none } {Reg.HNK_REC_CMD h.val}
    have hshard := t.shard_setShard_self h.val { t.shard h.val with host := .none }
    have hlink : (t.setShard h.val { t.shard h.val with host := .none }).link (lnkMiss h.val) = t.link (lnkMiss h.val) := rfl
    generalize t.setShard h.val { t.shard h.val with host := .none } = u at *
    have hframe := ((hrelease.mono (Set.empty_subset _) (by simp [shardParts])).trans (hset.parts (by simp [shardParts]))).trans
      ((u.setFld_inShard h.val (Set.mem_singleton (Reg.HNK_REC_CMD h.val)) Fld.HNK_REC_CMD_BUSY 0).parts (l' := shardParts)
        (by simp [shardParts]))
    refine ⟨_, (congrArg (done s) hdelivers).trans (done_eq_next hframe.2.2 (by decide)), ?_, ?_, ?_, ?_,
      hframe.2.onlyRegs (by simp), hframe.1, hframe.2.2⟩
    · rw [State.shard_setFld, hshard, hreleased]
    · rw [State.link_setFld, hlink, howed]
    · rw [State.shard_setFld, hshard]
    · exact State.flag_setFld_zero _ _ (by unfold Fld.oneBit; decide)
  · obtain ⟨hshard, howed, hframe⟩ := s.releaseEntry_leaves h.val i
    have hends : holdEnd h.val i es s = s.releaseEntry h.val i := by
      unfold holdEnd
      rw [hentry]
      dsimp only
      rw [hstage, hqueue]
    exact ⟨_, (congrArg (done s) hends).trans (done_eq_next hframe.2.2 (by decide)), congrArg ShardSt.entries hshard, howed, hframe.1,
      hframe.2.2⟩
  · have hhands := holdEnd_hands hok hentry hstage hqueue hup hthread hparked hplace htags hkey hfree
    obtain ⟨hcount, hthread', hparked', hframe⟩ := s.handOver_leaves h.val k i e q hthread hparked
    generalize ((s.setRef h.val k true).hnkBump h.val Cnt.HNK_HOT_HIT).keepEntry h.val i e q .held = u at *
    obtain ⟨hway, hfound, hgive⟩ := State.giveParked_leaves (k := k) hthread' hparked' ((es.drop 1).headD .ok)
    have hall := hframe.trans (hgive.mono (Set.empty_subset _) (by simp [shardParts]))
    exact ⟨_, (congrArg (done s) hhands).trans (done_eq_next hall.2.2 (by decide)), hway, hfound,
      (hgive.reg_eq (Set.notMem_empty _)).trans hcount, hall.2.onlyRegs (by simp), hall.1, hall.2.2⟩
  · have hframe := (s.evbWrite_inShard h.val e).trans ((State.setShard_inShard _ h.val { s.shard h.val with
      evb := if e.reclaim then { e with written := true } :: q else q } _).parts (by simp [writeParts]))
    refine ⟨_, (congrArg (done s) (evbWriteAccept_first hevb hunwritten hready x)).trans (done_eq_next hframe.2.2 (by decide)), ?_,
      hframe.1, hframe.2.2⟩
    rw [State.shard_setShard_self, hreclaim]
    rfl
  · have hframe := (s.evbWrite_inShard h.val e).trans ((State.setShard_inShard _ h.val { s.shard h.val with
      evb := if e.reclaim then { e with written := true } :: q else q } _).parts (by simp [writeParts]))
    have hlines := s.lineBytes_evbWrite hshort hlength (hl ▸ hat) halive (hl ▸ hsound)
    rw [← hl] at hlines
    exact ⟨_, (congrArg (done s) (evbWriteAccept_first hevb hunwritten hready x)).trans (done_eq_next hframe.2.2 (by decide)),
      (hlines l).trans (if_pos rfl), fun k hk => (hlines k).trans (if_neg hk)⟩

end Sys2Proof.Machine
end

section
/-! PROOF. The sweeper of a shard (R140, R141, R143): the start and the end of a pass, its period, its visits, its aging items. -/

namespace Sys2Proof.Machine

section
variable (s : State) (h : Nat) (x : Sweeper)

theorem State.shard_setSweep : (s.setSweep h x).shard h = { s.shard h with sweep := x } := s.shard_setShard_self h _

theorem State.setSweep_inShard (R : Set Nat) : s.inShard (s.setSweep h x) h R [.shards] := s.setShard_inShard h _ R

theorem State.way_setSweep (i : Nat) : (s.setSweep h x).way h i = s.way h i := State.way_congr (by rw [State.shard_setSweep]) i

end

/-! ### The start and the end of a pass -/

section
variable {s : State} {h : Nat}

/-- The sweeper at the start of a pass. -/
def State.startedSweep (s : State) (h : Nat) : Sweeper :=
  { (s.shard h).sweep with
    running := true, hot := 0, dram := 0, hotDone := false, dramDone := false, began := s.clk.mono
    aging := s.flag (Reg.HNK_CTL h) Fld.HNK_CTL_AGE_MODE && (s.shard h).sweep.due.isSome, due := none }

/-- A pass that starts. -/
def State.passBegun (s : State) (h : Nat) : State :=
  (s.setSweep h (s.startedSweep h)).setFld (Reg.HNK_SWEEP_STATUS h) Fld.HNK_SWEEP_STATUS_GEN_COMMITS 0

theorem sweepPassStart_starts (hidle : (s.shard h).sweep.running = false)
    (hen : s.flag (Reg.HNK_CTL h) Fld.HNK_CTL_SWEEP_EN = true) (hup : s.shardUp h = true) :
    sweepPassStart h s = s.passBegun h
      ∨ sweepPassStart h s = (s.passBegun h).setFld (Reg.HNK_STATUS h) Fld.HNK_STATUS_SWEEP_LATE 1 := by
  unfold sweepPassStart
  dsimp only
  rw [if_neg (by simp [hidle, hen, hup])]
  split
  · split
    · exact .inr rfl
    · exact .inl rfl
  · split
    · exact .inr rfl
    · exact .inl rfl

theorem State.passBegun_leaves (s : State) (h : Nat) :
    ((s.passBegun h).shard h).sweep = s.startedSweep h
      ∧ (s.passBegun h).fld (Reg.HNK_SWEEP_STATUS h) Fld.HNK_SWEEP_STATUS_GEN_COMMITS = 0
      ∧ s.inShard (s.passBegun h) h {Reg.HNK_SWEEP_STATUS h, Reg.HNK_STATUS h} [.regs, .shards] := by
  have hshard := s.shard_setSweep h (s.startedSweep h)
  have hframe := s.setSweep_inShard h (s.startedSweep h) {Reg.HNK_SWEEP_STATUS h, Reg.HNK_STATUS h}
  unfold State.passBegun
  generalize s.setSweep h (s.startedSweep h) = t at *
  refine ⟨?_, State.fld_setFld_fits _ _ (by decide) (by decide), (hframe.parts (by simp)).trans
    ((t.setFld_inShard h (by simp) _ _).parts (by simp))⟩
  rw [State.shard_setFld, hshard]

theorem sweepPassStart_leaves (hidle : (s.shard h).sweep.running = false)
    (hen : s.flag (Reg.HNK_CTL h) Fld.HNK_CTL_SWEEP_EN = true) (hup : s.shardUp h = true) :
    ((sweepPassStart h s).shard h).sweep = s.startedSweep h
      ∧ (sweepPassStart h s).fld (Reg.HNK_SWEEP_STATUS h) Fld.HNK_SWEEP_STATUS_GEN_COMMITS = 0
      ∧ s.inShard (sweepPassStart h s) h {Reg.HNK_SWEEP_STATUS h, Reg.HNK_STATUS h} [.regs, .shards] := by
  obtain ⟨hsweep, hcommits, hframe⟩ := s.passBegun_leaves h
  obtain hstart | hstart := sweepPassStart_starts hidle hen hup
  · rw [hstart]
    exact ⟨hsweep, hcommits, hframe⟩
  · rw [hstart]
    generalize s.passBegun h = t at *
    refine ⟨?_, ?_, hframe.trans ((t.setFld_inShard h (by simp) _ _).parts (by simp))⟩
    · rw [State.shard_setFld, hsweep]
    · rw [State.fld_setFld_other _ _ _ _ _ _ (by simp only [Reg.HNK_SWEEP_STATUS, Reg.HNK_STATUS]; omega), hcommits]

/-- A pass that no longer runs. -/
def State.passStopped (s : State) (h : Nat) : State := s.setSweep h { (s.shard h).sweep with running := false }

/-- A pass that has ended: it is counted and timed. -/
def State.passEnded (s : State) (h : Nat) : State :=
  ((s.passStopped h).setFld (Reg.HNK_SWEEP_STATUS h) Fld.HNK_SWEEP_STATUS_PASSES
      ((s.passStopped h).fld (Reg.HNK_SWEEP_STATUS h) Fld.HNK_SWEEP_STATUS_PASSES + 1)).setFld (Reg.HNK_SWEEP_TIME h)
    Fld.HNK_SWEEP_TIME_LAST_PASS_MS ((s.clk.mono - (s.shard h).sweep.began) / 800000)

/-- Registers that the end of a pass moves. -/
def passRegs (h : Nat) : Set Nat := {Reg.HNK_SWEEP_STATUS h, Reg.HNK_SWEEP_TIME h, Reg.HNK_STATUS h}

theorem State.passEnded_leaves (s : State) (h : Nat) :
    ((s.passEnded h).shard h).sweep = { (s.shard h).sweep with running := false }
      ∧ (s.passEnded h).fld (Reg.HNK_SWEEP_STATUS h) Fld.HNK_SWEEP_STATUS_PASSES
        = (s.fld (Reg.HNK_SWEEP_STATUS h) Fld.HNK_SWEEP_STATUS_PASSES + 1) % 2 ^ Fld.HNK_SWEEP_STATUS_PASSES.len
      ∧ (s.passEnded h).fld (Reg.HNK_SWEEP_TIME h) Fld.HNK_SWEEP_TIME_LAST_PASS_MS
        = ((s.clk.mono - (s.shard h).sweep.began) / 800000) % 2 ^ Fld.HNK_SWEEP_TIME_LAST_PASS_MS.len
      ∧ s.inShard (s.passEnded h) h (passRegs h) [.regs, .shards] := by
  have hsweep : ((s.passStopped h).shard h).sweep = { (s.shard h).sweep with running := false } :=
    congrArg ShardSt.sweep (s.shard_setSweep h _)
  have hframe : s.inShard (s.passStopped h) h (passRegs h) [.shards] := s.setSweep_inShard h _ _
  have hpasses : (s.passStopped h).fld (Reg.HNK_SWEEP_STATUS h) Fld.HNK_SWEEP_STATUS_PASSES
      = s.fld (Reg.HNK_SWEEP_STATUS h) Fld.HNK_SWEEP_STATUS_PASSES := rfl
  unfold State.passEnded
  generalize s.passStopped h = t at *
  refine ⟨?_, ?_, State.fld_setFld_self _ _ _ _ (by decide), ((hframe.parts (by simp)).trans
    ((t.setFld_inShard h (by simp [passRegs]) _ _).parts (by simp))).trans
      ((State.setFld_inShard _ h (by simp [passRegs]) _ _).parts (by simp))⟩
  · rw [State.shard_setFld, State.shard_setFld, hsweep]
  · rw [State.fld_setFld_other _ _ _ _ _ _ (by simp only [Reg.HNK_SWEEP_STATUS, Reg.HNK_SWEEP_TIME]; omega),
      State.fld_setFld_self _ _ _ _ (by decide), hpasses]

theorem sweepPassEnd_ends (hrunning : (s.shard h).sweep.running = true) (hhot : (s.shard h).sweep.hotDone = true)
    (hdram : (s.shard h).sweep.dramDone = true) :
    sweepPassEnd h s = s.passEnded h
      ∨ sweepPassEnd h s = (s.passEnded h).setFld (Reg.HNK_STATUS h) Fld.HNK_STATUS_GEN_WRAP_RISK 0 := by
  unfold sweepPassEnd
  dsimp only
  rw [if_neg (by simp [hrunning, hhot, hdram])]
  split
  · exact .inr rfl
  · exact .inl rfl

theorem sweepPassEnd_leaves (hrunning : (s.shard h).sweep.running = true) (hhot : (s.shard h).sweep.hotDone = true)
    (hdram : (s.shard h).sweep.dramDone = true) :
    ((sweepPassEnd h s).shard h).sweep = { (s.shard h).sweep with running := false }
      ∧ (sweepPassEnd h s).fld (Reg.HNK_SWEEP_STATUS h) Fld.HNK_SWEEP_STATUS_PASSES
        = (s.fld (Reg.HNK_SWEEP_STATUS h) Fld.HNK_SWEEP_STATUS_PASSES + 1) % 2 ^ Fld.HNK_SWEEP_STATUS_PASSES.len
      ∧ (sweepPassEnd h s).fld (Reg.HNK_SWEEP_TIME h) Fld.HNK_SWEEP_TIME_LAST_PASS_MS
        = ((s.clk.mono - (s.shard h).sweep.began) / 800000) % 2 ^ Fld.HNK_SWEEP_TIME_LAST_PASS_MS.len
      ∧ s.inShard (sweepPassEnd h s) h (passRegs h) [.regs, .shards] := by
  obtain ⟨hsweep, hpasses, htime, hframe⟩ := s.passEnded_leaves h
  obtain hend | hend := sweepPassEnd_ends hrunning hhot hdram
  · rw [hend]
    exact ⟨hsweep, hpasses, htime, hframe⟩
  · rw [hend]
    generalize s.passEnded h = t at *
    refine ⟨?_, ?_, ?_, hframe.trans ((t.setFld_inShard h (by simp [passRegs]) _ _).parts (by simp))⟩
    · rw [State.shard_setFld, hsweep]
    · rw [State.fld_setFld_other _ _ _ _ _ _ (by simp only [Reg.HNK_SWEEP_STATUS, Reg.HNK_STATUS]; omega), hpasses]
    · rw [State.fld_setFld_other _ _ _ _ _ _ (by simp only [Reg.HNK_SWEEP_TIME, Reg.HNK_STATUS]; omega), htime]

/-! ### The period (R140) -/

theorem sweepPeriodExpiry_expires (hperiod : sweepPeriod s h ≤ s.clk.mono - (s.shard h).sweep.lastPeriod)
    (hdue : (s.shard h).sweep.due = none) :
    sweepPeriodExpiry h s = s.setShard h { s.shard h with
      sweep := { (s.shard h).sweep with lastPeriod := s.clk.mono, due := some s.clk.mono } } := by
  unfold sweepPeriodExpiry
  dsimp only
  rw [if_neg (by omega), hdue]
  rfl

/-! ### Aging items (R141, R149) -/

theorem agingItemEnter_enters {g : Word64} {key : List Byte} (hup : s.shardUp h = true)
    (hwaiting : (s.shard h).sweep.waiting = some (g, key)) (hinput : (s.shard h).sweep.input = none) :
    agingItemEnter h s = (s.setSweep h { (s.shard h).sweep with waiting := none, input := some (s.agingItem h g key) }).hnkBump h
      Cnt.HNK_AGE_NOTIFY := by
  unfold agingItemEnter
  dsimp only
  rw [hwaiting, hinput]
  dsimp only
  rw [hup]
  rfl

end

/-! ### Visits of the hot tier (R140) -/

section
variable {s t : State} {h : Nat} {R : Set Nat} {l : List Part}

/-- The hot-tier cursor of shard `h` has moved on by one place; no other shard changed. -/
def State.hotVisited (s t : State) (h : Nat) : Prop :=
  (t.shard h).sweep.hot = (s.shard h).sweep.hot + 1 ∧ (t.shard h).sweep.hotDone = decide (2097152 ≤ (s.shard h).sweep.hot + 1)
    ∧ s.onlyShard t h

theorem State.hotNext_visited (honly : s.onlyShard t h) (hhot : (t.shard h).sweep.hot = (s.shard h).sweep.hot) :
    s.hotVisited (t.hotNext h) h := by
  have hshard := t.shard_setSweep h { (t.shard h).sweep with
    hot := (t.shard h).sweep.hot + 1, hotDone := decide (2097152 ≤ (t.shard h).sweep.hot + 1) }
  refine ⟨?_, ?_, fun g hg => ((t.setSweep_inShard h _ ∅).1 g hg).trans (honly g hg)⟩
  · rw [State.hotNext, hshard, hhot]
  · rw [State.hotNext, hshard, hhot]

theorem State.storeStep.hotNext_visited (a : s.storeStep t h R l) : s.hotVisited (t.hotNext h) h :=
  State.hotNext_visited a.frame.1 (congrArg Sweeper.hot a.sweep)

/-- The words and counters that the sweeper's verdict `v` on the record of way `i` changes. -/
def State.sweepMarked (s : State) (h i : Nat) (words : List Word64) (v : Bool × List Word64 × Bool) : State :=
  let t := if v.2.1 = words then s else s.setWords h i (recPut v.2.1 0 w0Dirty 1)
  if v.2.2 then t.hnkBump h Cnt.HNK_FWD_STALED else t

/-- What the sweeper does with the record of way `i`, `w`, once it is read and marked in state `t`. -/
def State.hotVerdict (s t : State) (h i : Nat) (w : Way) (aged : Bool) : State :=
  if !aged then t.hotNext h
  else if t.notifies h (recMeta w.words mtClass) then
    let u := t.setWay h i { t.way h i with held := some .sweeper }
    (u.setSweep h { (u.shard h).sweep with waiting := some (wayHash h w, recKey w.words) }).hotNext h
  else if !t.dmcReady then s
  else ((t.deleteWay h i .ok).hnkBump h Cnt.HNK_AGED_OUT).hotNext h

/-- The sweeper's way has a record that may be visited, and it is read. -/
theorem sweepHotVisit_reads {i : Nat} {w : Way} {r : Bool × State} {v : Bool × List Word64 × Bool} {e : Ecc}
    (hrunning : (s.shard h).sweep.running = true) (hhot : (s.shard h).sweep.hotDone = false)
    (hen : s.flag (Reg.HNK_CTL h) Fld.HNK_CTL_SWEEP_EN = true) (hup : s.shardUp h = true)
    (hi : i = (s.shard h).sweep.hot) (hw : w = s.way h i) (hmay : (!w.valid || w.role == .tail || s.wayBusy h i) = false)
    (hr : r = s.readWay h i e) (hlives : r.1 = true) (hv : v = r.2.sweepRecord h w.words)
    (hgate : (v.1 && r.2.notifies h (recMeta w.words mtClass) && !(s.shard h).sweep.free) = false) :
    sweepHotVisit h e s = s.hotVerdict (r.2.sweepMarked h i w.words v) h i w v.1 := by
  subst hv hr hw hi
  unfold sweepHotVisit
  dsimp only
  rw [if_neg (by simp [hrunning, hhot, hen, hup]), if_neg (by simp [hmay]), if_neg (by simp [hlives]), if_neg (by simp [hgate])]
  rfl

/-- Outside the words of the way and a counter a mark changes nothing. -/
theorem State.sweepMarked_leaves (s : State) (h i : Nat) (words : List Word64) (v : Bool × List Word64 × Bool) :
    s.inShard (s.sweepMarked h i words v) h {Reg.HNK_CNT h Cnt.HNK_FWD_STALED} [.regs, .shards]
      ∧ ((s.sweepMarked h i words v).shard h).sweep = (s.shard h).sweep := by
  unfold State.sweepMarked
  extract_lets t
  have ht : s.inShard t h {Reg.HNK_CNT h Cnt.HNK_FWD_STALED} [.regs, .shards] ∧ (t.shard h).sweep = (s.shard h).sweep := by
    unfold t
    split
    · exact ⟨.refl s _ _ _, rfl⟩
    · exact ⟨(s.setWay_inShard h i _ _).parts (by simp), by rw [State.setWords, State.shard_setWay]⟩
  clear_value t
  split
  · exact ⟨ht.1.trans ((t.bump_inShard h (Set.mem_singleton _)).parts (by simp)), ht.2⟩
  · exact ht

theorem State.hotVerdict_visited (honly : s.onlyShard t h) (hsweep : (t.shard h).sweep = (s.shard h).sweep)
    (hready : t.dmcReady = true) (i : Nat) (w : Way) (aged : Bool) : s.hotVisited (s.hotVerdict t h i w aged) h := by
  unfold State.hotVerdict
  split
  · exact State.hotNext_visited honly (congrArg Sweeper.hot hsweep)
  · split
    · have hheld := t.setWay_inShard h i { t.way h i with held := some .sweeper } ∅
      have hkept := congrArg ShardSt.sweep (t.shard_setWay h i { t.way h i with held := some .sweeper })
      generalize t.setWay h i { t.way h i with held := some .sweeper } = u at *
      dsimp only
      refine State.hotNext_visited (fun g hg => ?_) ?_
      · exact ((u.setSweep_inShard h _ ∅).1 g hg).trans ((hheld.1 g hg).trans (honly g hg))
      · rw [State.shard_setSweep, hkept, hsweep]
    · rw [hready]
      have hdelete := (t.deleteWay_storeStep h i .ok).1
      generalize t.deleteWay h i .ok = u at *
      exact State.hotNext_visited (t := u.hnkBump h _) (fun g hg => (hdelete.frame.1 g hg).trans (honly g hg))
        (congrArg Sweeper.hot (hdelete.sweep.trans hsweep))

/-- A way's read that the record survives leaves the state but for a counter. -/
theorem State.readWay_of_lives {i : Nat} {e : Ecc} (h' : (s.readWay h i e).1 = true) :
    s.within (s.readWay h i e).2 {Reg.HNK_CNT h Cnt.HNK_HOT_ECC_CORRECTED} [.regs] := by
  cases e with
  | uncorrectable =>
    unfold State.readWay at h'
    dsimp only at h'
    split at h' <;> exact absurd h' (by simp)
  | ok => exact (s.readWay_survives h i (by simp)).2
  | corrected => exact (s.readWay_survives h i (by simp)).2

theorem sweepHotVisit_visited (hrunning : (s.shard h).sweep.running = true) (hhot : (s.shard h).sweep.hotDone = false)
    (hen : s.flag (Reg.HNK_CTL h) Fld.HNK_CTL_SWEEP_EN = true) (hup : s.shardUp h = true) (hfree : (s.shard h).sweep.free = true)
    (hready : s.dmcReady = true) (e : Ecc) : s.hotVisited (sweepHotVisit h e s) h := by
  cases hmay : (!(s.way h (s.shard h).sweep.hot).valid || (s.way h (s.shard h).sweep.hot).role == .tail
      || s.wayBusy h (s.shard h).sweep.hot) with
  | true =>
    have hskips : sweepHotVisit h e s = s.hotNext h := by
      unfold sweepHotVisit
      dsimp only
      rw [if_neg (by simp [hrunning, hhot, hen, hup]), if_pos hmay]
    rw [hskips]
    exact (State.storeStep.refl s h ∅ []).hotNext_visited
  | false =>
    have hread := s.readWay_storeStep h (s.shard h).sweep.hot e
    cases hlives : (s.readWay h (s.shard h).sweep.hot e).1 with
    | false =>
      have hlost : sweepHotVisit h e s = (s.readWay h (s.shard h).sweep.hot e).2.hotNext h := by
        unfold sweepHotVisit
        dsimp only
        rw [if_neg (by simp [hrunning, hhot, hen, hup]), if_neg (by simp [hmay]), if_pos (by simp [hlives])]
      rw [hlost]
      exact hread.hotNext_visited
    | true =>
      have hkept := State.readWay_of_lives hlives
      rw [sweepHotVisit_reads hrunning hhot hen hup rfl rfl hmay rfl hlives rfl (by simp [hfree])]
      generalize (s.readWay h (s.shard h).sweep.hot e).2 = u at *
      obtain ⟨hmarked, hsweep⟩ := u.sweepMarked_leaves h (s.shard h).sweep.hot (s.way h (s.shard h).sweep.hot).words
        (u.sweepRecord h (s.way h (s.shard h).sweep.hot).words)
      refine State.hotVerdict_visited (fun g hg => (hmarked.1 g hg).trans (hread.frame.1 g hg)) (hsweep.trans hread.sweep) ?_ _ _ _
      rw [State.dmcReady, hmarked.2.2.2 .dram (by decide), hkept.2.2 .dram (by decide)]
      exact hready

/-- A class number has six bits, and its register lies below the counters. -/
theorem State.notifies_sweepMarked (s : State) (h i : Nat) (words w : List Word64) (v : Bool × List Word64 × Bool) :
    (s.sweepMarked h i words v).notifies h (recMeta w mtClass) = s.notifies h (recMeta w mtClass) := by
  have hclass : recMeta w mtClass < 64 := Word64.get_lt _ _
  refine State.flag_of_reg ((s.sweepMarked_leaves h i words v).1.reg_eq ?_) _
  simp only [Set.mem_singleton_iff, Reg.HNK_CLASS, Reg.HNK_CNT, Cnt.HNK_FWD_STALED]
  omega

/-- An aged record of whose end nobody is told leaves the hot tier. -/
theorem State.hotVerdict_ages {w : Way} (hsilent : t.notifies h (recMeta w.words mtClass) = false) (hready : t.dmcReady = true) (i : Nat) :
    (s.hotVerdict t h i w true).way h i = Way.init
      ∧ (s.hotVerdict t h i w true).reg (Reg.HNK_CNT h Cnt.HNK_AGED_OUT) = t.reg (Reg.HNK_CNT h Cnt.HNK_AGED_OUT) + 1 := by
  obtain ⟨hdelete, hempty⟩ := t.deleteWay_storeStep h i .ok
  have hcount : Reg.HNK_CNT h Cnt.HNK_AGED_OUT ∉ removeRegs h := by
    simp only [removeRegs, Set.mem_union, mem_lowRegs, Set.mem_singleton_iff, Reg.HNK_CNT, Reg.HNK_OCC1, Cnt.HNK_AGED_OUT]
    omega
  have hverdict : s.hotVerdict t h i w true = ((t.deleteWay h i .ok).hnkBump h Cnt.HNK_AGED_OUT).hotNext h := by
    unfold State.hotVerdict
    rw [hsilent, hready]
    rfl
  rw [hverdict]
  generalize t.deleteWay h i .ok = u at *
  refine ⟨?_, ?_⟩
  · rw [State.hotNext, State.way_setSweep, State.way_hnkBump, hempty]
  · rw [State.hotNext, ((u.hnkBump h Cnt.HNK_AGED_OUT).setSweep_inShard h _ ∅).reg_eq (Set.notMem_empty _), State.reg_hnkBump_self,
      hdelete.frame.reg_eq hcount]

theorem sweepHotVisit_ages {i : Nat} {w : Way} (hrunning : (s.shard h).sweep.running = true) (hhot : (s.shard h).sweep.hotDone = false)
    (hen : s.flag (Reg.HNK_CTL h) Fld.HNK_CTL_SWEEP_EN = true) (hup : s.shardUp h = true) (hi : i = (s.shard h).sweep.hot)
    (hw : w = s.way h i) (hvalid : w.valid = true) (hrole : w.role ≠ .tail) (hbusy : s.wayBusy h i = false)
    (haged : (s.sweepRecord h w.words).1 = true) (hsilent : s.notifies h (recMeta w.words mtClass) = false)
    (hready : s.dmcReady = true) :
    (sweepHotVisit h .ok s).way h i = Way.init
      ∧ (sweepHotVisit h .ok s).reg (Reg.HNK_CNT h Cnt.HNK_AGED_OUT) = s.reg (Reg.HNK_CNT h Cnt.HNK_AGED_OUT) + 1 := by
  have hmarked := (s.sweepMarked_leaves h i w.words (s.sweepRecord h w.words)).1
  have htold := (s.notifies_sweepMarked h i w.words w.words (s.sweepRecord h w.words)).trans hsilent
  rw [sweepHotVisit_reads (r := (true, s)) (e := .ok) hrunning hhot hen hup hi hw (by simpa [hvalid, hbusy] using hrole) rfl rfl rfl
    (by simp [hsilent]), haged]
  generalize s.sweepMarked h i w.words (s.sweepRecord h w.words) = t at *
  have ht : t.dmcReady = true := (congrArg (fun d : DramSt => d.freq == .idle) (hmarked.2.2.2 .dram (by decide))).trans hready
  have hcount : Reg.HNK_CNT h Cnt.HNK_AGED_OUT ∉ ({Reg.HNK_CNT h Cnt.HNK_FWD_STALED} : Set Nat) := by
    simp only [Set.mem_singleton_iff, Reg.HNK_CNT, Cnt.HNK_AGED_OUT, Cnt.HNK_FWD_STALED]
    omega
  obtain ⟨hgone, haway⟩ := State.hotVerdict_ages (s := s) htold ht i
  exact ⟨hgone, haway.trans (congrArg (· + 1) (hmarked.reg_eq hcount))⟩

/-! ### Visits of the DRAM tier (R140) -/

/-- `t` is `s` but for shard `h`; the sweeper's place in DRAM and the number of that shard's slots are the same. -/
def State.atSameSlot (s t : State) (h : Nat) : Prop :=
  s.onlyShard t h ∧ (t.shard h).sweep.dram = (s.shard h).sweep.dram ∧ t.bucketBits h = s.bucketBits h

/-- The DRAM cursor of shard `h` has moved on by one place; no other shard changed. -/
def State.dramVisited (s t : State) (h : Nat) : Prop :=
  (t.shard h).sweep.dram = (s.shard h).sweep.dram + 1
    ∧ (t.shard h).sweep.dramDone = decide (16 * 2 ^ s.bucketBits h + 65536 ≤ (s.shard h).sweep.dram + 1) ∧ s.onlyShard t h

theorem State.atSameSlot.refl (s : State) (h : Nat) : s.atSameSlot s h := ⟨fun _ _ => rfl, rfl, rfl⟩

theorem State.atSameSlot.trans {u : State} (a : s.atSameSlot t h) (b : t.atSameSlot u h) : s.atSameSlot u h :=
  ⟨fun g hg => (b.1 g hg).trans (a.1 g hg), b.2.1.trans a.2.1, b.2.2.trans a.2.2⟩

theorem State.storeStep.atSameSlot (a : s.storeStep t h R l) (hR : Reg.HNK_CFG h ∉ R) : s.atSameSlot t h :=
  ⟨a.frame.1, congrArg Sweeper.dram a.sweep, State.fld_of_reg (a.frame.reg_eq hR) _⟩

theorem State.atSameSlot.dramNext_visited (a : s.atSameSlot t h) : s.dramVisited (t.dramNext h) h := by
  obtain ⟨honly, hdram, hbits⟩ := a
  have hshard := t.shard_setSweep h { (t.shard h).sweep with
    dram := (t.shard h).sweep.dram + 1, dramDone := decide (16 * 2 ^ t.bucketBits h + 65536 ≤ (t.shard h).sweep.dram + 1) }
  refine ⟨?_, ?_, fun g hg => ((t.setSweep_inShard h _ ∅).1 g hg).trans (honly g hg)⟩
  · rw [State.dramNext, hshard, hdram]
  · rw [State.dramNext, hshard, hdram, hbits]

theorem hnkCfg_notMem_lowRegs (h : Nat) : Reg.HNK_CFG h ∉ lowRegs := by
  simp only [mem_lowRegs, Reg.HNK_CFG]; omega

theorem hnkCfg_notMem_removeRegs (h : Nat) : Reg.HNK_CFG h ∉ removeRegs h := by
  simp only [removeRegs, Set.mem_union, mem_lowRegs, Set.mem_singleton_iff, Reg.HNK_CFG, Reg.HNK_OCC1]; omega

theorem State.hnkBump_atSameSlot (s : State) (h i : Nat) : s.atSameSlot (s.hnkBump h i) h :=
  (s.hnkBump_storeStep h i).atSameSlot (by simp only [Set.mem_singleton_iff, Reg.HNK_CFG, Reg.HNK_CNT]; omega)

/-- A lost slot of the stash is withdrawn. -/
theorem State.withdrawn_atSameSlot (s : State) (h i : Nat) (stash : Bool) :
    s.atSameSlot (if stash then s.withdrawSlot h i else s) h := by
  split
  · exact (s.withdrawSlot_storeStep h ∅ i).atSameSlot (Set.notMem_empty _)
  · exact .refl s h

/-- The fill of an aged record that brings it into the hot tier. -/
theorem State.sweepFill_atSameSlot (s : State) (h : Nat) (f : Option (Word64 × List Byte)) (k : Nat) (a : Asker) :
    s.atSameSlot ((s.setSweep h { (s.shard h).sweep with fill := f, fillCls := k }).allocEntry h a .fetch .sweeper) h := by
  have hset := s.setSweep_inShard h { (s.shard h).sweep with fill := f, fillCls := k } ∅
  have hshard := s.shard_setSweep h { (s.shard h).sweep with fill := f, fillCls := k }
  generalize s.setSweep h { (s.shard h).sweep with fill := f, fillCls := k } = t at *
  obtain ⟨hframe, hentries⟩ := t.allocEntry_inShard h a .fetch .sweeper
  have hcfg : Reg.HNK_CFG h ∉ entryRegs h := by
    simp only [entryRegs, Set.mem_insert_iff, Set.mem_singleton_iff, Reg.HNK_CFG, Reg.HNK_ENTRY_STATUS, Reg.HNK_STATUS]; omega
  refine ⟨fun g hg => (hframe.1 g hg).trans (hset.1 g hg), ?_,
    State.fld_of_reg ((hframe.reg_eq hcfg).trans (hset.reg_eq (Set.notMem_empty _))) _⟩
  rw [hentries, hshard]

theorem sweepDramVisit_visited (hrunning : (s.shard h).sweep.running = true) (hdram : (s.shard h).sweep.dramDone = false)
    (hen : s.flag (Reg.HNK_CTL h) Fld.HNK_CTL_SWEEP_EN = true) (hup : s.shardUp h = true) (hready : s.dmcReady = true)
    (hfree : (s.shard h).sweep.free = true) (hroom : s.mayAlloc h = true) (hmay : s.exportMay h (s.shard h).sweep.dram = true)
    (e e2 : Ecc) : s.dramVisited (sweepDramVisit h e e2 s) h := by
  unfold sweepDramVisit
  extract_lets x n p b r
  have hline : s.bgLine (s.placeLine h b p 0) = true := hmay
  rw [if_neg (by simp [x, hrunning, hdram, hen, hup, hready]), if_neg (by simp [hline])]
  have hr : s.atSameSlot r.2 h := (s.readSlot_storeStep h b p 0 false e).atSameSlot (hnkCfg_notMem_lowRegs h)
  clear_value r
  split
  · exact (hr.trans (r.2.withdrawn_atSameSlot h p.slot p.stash)).dramNext_visited
  · next w _ =>
    extract_lets key g r2 v k read t t2 sweeper filled
    have hr2 : s.atSameSlot r2.2 h := by
      unfold r2
      split
      · exact hr.trans ((State.readSlot_storeStep _ h b p 1 false e2).atSameSlot (hnkCfg_notMem_lowRegs h))
      · exact hr
    clear_value r2
    split
    · exact hr.dramNext_visited
    · split
      · exact (hr2.trans (r2.2.withdrawn_atSameSlot h (p.slot + 1) p.stash)).dramNext_visited
      · next tail _ =>
        extract_lets gone
        have ht : s.atSameSlot t h := by
          unfold t
          split
          · exact hr2
          · exact hr2.trans ((r2.2.writeSlot_storeStep h b p 0 _ false).atSameSlot (hnkCfg_notMem_lowRegs h))
        clear_value t
        have ht2 : s.atSameSlot t2 h := by
          unfold t2
          split
          · exact ht.trans (t.hnkBump_atSameSlot h _)
          · exact ht
        clear_value t2
        rw [if_neg (by simp [x, hfree, hroom])]
        split
        · exact ht2.dramNext_visited
        · split
          · exact (ht2.trans (t2.sweepFill_atSameSlot h _ k _)).dramNext_visited
          · exact (((ht2.trans ((t2.mirrorDelete_storeStep h g (w ++ tail)).atSameSlot (hnkCfg_notMem_lowRegs h))).trans
              ((State.removeFromDram_storeStep _ h g (w ++ tail) p false .ok).atSameSlot (hnkCfg_notMem_removeRegs h))).trans
              (State.hnkBump_atSameSlot _ h _)).dramNext_visited

end

/-- The answer of a command: the effect's shards and registers. -/
theorem done_keeps (s t : State) : ∃ u, done s t = .next u ∧ (∀ h, u.shard h = t.shard h) ∧ ∀ a, u.reg a = t.reg a :=
  ⟨_, rfl, fun _ => rfl, fun _ => rfl⟩

/-- Settles O24: the start, the period, the visits, the end of a pass and the aging item, each by what its command leaves. -/
theorem sweeperSteps : Obligations.SweeperSteps := by
  refine ⟨fun s h hidle hen hup => ?_,
    fun s h hperiod hdue => (congrArg (done s) (sweepPeriodExpiry_expires hperiod hdue)).trans
      (done_eq_next (s.setShard_rest h.val _) (by decide)),
    fun s h e hrunning hhot hen hup hfree hready => ?_,
    fun s h hrunning hhot hen hup hvalid hrole hbusy haged hsilent hready => ?_,
    fun s h e e2 hrunning hdram hen hup hready hfree hroom hmay => ?_, fun s h hrunning hhot hdram => ?_,
    fun s h g key hup hwaiting hinput => ?_⟩
  · obtain ⟨hsweep, hcommits, hframe⟩ := sweepPassStart_leaves hidle hen hup
    exact ⟨_, done_eq_next hframe.2.2 (by decide), congrArg Sweeper.running hsweep, congrArg Sweeper.hot hsweep,
      congrArg Sweeper.dram hsweep, congrArg Sweeper.began hsweep, hcommits, hframe.2.onlyRegs (by simp), hframe.1, hframe.2.2⟩
  · obtain ⟨hnext, hdone, honly⟩ := sweepHotVisit_visited hrunning hhot hen hup hfree hready e
    obtain ⟨u, hu, hshard, -⟩ := done_keeps s (sweepHotVisit h.val e s)
    exact ⟨u, hu, by rw [hshard, hnext], by rw [hshard, hdone], fun g hg => (hshard g).trans (honly g hg)⟩
  · obtain ⟨hway, hcount⟩ := sweepHotVisit_ages hrunning hhot hen hup rfl rfl hvalid hrole hbusy haged hsilent hready
    obtain ⟨u, hu, hshard, hreg⟩ := done_keeps s (sweepHotVisit h.val .ok s)
    exact ⟨u, hu, (State.way_congr (congrArg ShardSt.ways (hshard h.val)) _).trans hway, (hreg _).trans hcount⟩
  · obtain ⟨hnext, hdone, honly⟩ := sweepDramVisit_visited hrunning hdram hen hup hready hfree hroom hmay e e2
    obtain ⟨u, hu, hshard, -⟩ := done_keeps s (sweepDramVisit h.val e e2 s)
    exact ⟨u, hu, by rw [hshard, hnext], by rw [hshard, hdone], fun g hg => (hshard g).trans (honly g hg)⟩
  · obtain ⟨hsweep, hpasses, htime, hframe⟩ := sweepPassEnd_leaves hrunning hhot hdram
    exact ⟨_, done_eq_next hframe.2.2 (by decide), hsweep, hpasses, htime, hframe.2.onlyRegs (by simp [passRegs]), hframe.1, hframe.2.2⟩
  · have hset := s.setSweep_inShard h.val { (s.shard h.val).sweep with waiting := none, input := some (s.agingItem h.val g key) }
      {Reg.HNK_CNT h.val Cnt.HNK_AGE_NOTIFY}
    have hshard := s.shard_setSweep h.val { (s.shard h.val).sweep with waiting := none, input := some (s.agingItem h.val g key) }
    have hreg (a : Nat) : State.reg (s.setSweep h.val { (s.shard h.val).sweep with
      waiting := none, input := some (s.agingItem h.val g key) }) a = s.reg a := rfl
    have henters := agingItemEnter_enters hup hwaiting hinput
    generalize s.setSweep h.val { (s.shard h.val).sweep with waiting := none, input := some (s.agingItem h.val g key) } = t at *
    have hframe := (hset.parts (by simp)).trans
      ((t.bump_inShard h.val (Set.mem_singleton (Reg.HNK_CNT h.val Cnt.HNK_AGE_NOTIFY))).parts (l' := [.regs, .shards]) (by simp))
    refine ⟨_, (congrArg (done s) henters).trans (done_eq_next hframe.2.2 (by decide)), ?_, ?_, ?_, hframe.2.onlyRegs (by simp),
      hframe.1, hframe.2.2⟩
    · rw [State.shard_hnkBump, hshard]
    · rw [State.shard_hnkBump, hshard]
    · rw [State.reg_hnkBump_self, hreg]

end Sys2Proof.Machine
end

section
/-! PROOF. The host's record commands (R145): the window REC_CMD, REC_KEY and REC_DATA, the start of a command and its refusals, and
READ_LOC. -/

namespace Sys2Proof.Machine

section
variable {s t : State} {h : Nat} {l : List Part}

/-! ### The window's registers -/

/-- Registers that a command of the window moves when it is accepted. -/
def hostRegs (h : Nat) : Set Nat := {Reg.HNK_REC_CMD h, Reg.HNK_CNT h Cnt.HNK_HOST_COMMANDS}

theorem State.within.shardUp_eq (a : s.within t (hostRegs h) l) : t.shardUp h = s.shardUp h := by
  have hunit : Reg.FLT_UNIT (unitShard h) ∉ hostRegs h := by
    simp only [hostRegs, Set.mem_insert_iff, Set.mem_singleton_iff, Reg.FLT_UNIT, unitShard, Reg.HNK_REC_CMD, Reg.HNK_CNT]
    omega
  unfold State.shardUp State.down State.unitState
  rw [State.fld_of_reg (a.1 _ hunit)]

theorem State.within.recKeyBytes_eq (a : s.within t (hostRegs h) l) : t.recKeyBytes h = s.recKeyBytes h := by
  have hkeys : (List.range 5).map (fun i => t.reg (Reg.HNK_REC_KEY h i)) = (List.range 5).map (fun i => s.reg (Reg.HNK_REC_KEY h i)) := by
    refine List.map_congr_left fun i hi => a.1 _ ?_
    have := List.mem_range.1 hi
    simp only [hostRegs, Set.mem_insert_iff, Set.mem_singleton_iff, Reg.HNK_REC_KEY, Reg.HNK_REC_CMD, Reg.HNK_CNT]
    omega
  rw [State.recKeyBytes, State.recKeyBytes, hkeys]

theorem State.within.hashKey_eq (a : s.within t (hostRegs h) l) (key : List Byte) : t.hashKey key = s.hashKey key := by
  have hlow {b : Nat} (hb : b < 0x4000000) : b ∉ hostRegs h := by
    simp only [hostRegs, Set.mem_insert_iff, Set.mem_singleton_iff, Reg.HNK_REC_CMD, Reg.HNK_CNT]
    omega
  rw [State.hashKey, State.hashKey, a.1 _ (hlow (by decide)), a.1 _ (hlow (by decide))]

theorem State.within.classLong_eq (a : s.within t (hostRegs h) l) {k : Nat} (hk : k < 64) : t.classLong h k = s.classLong h k := by
  refine State.flag_of_reg (a.1 _ ?_) _
  simp only [hostRegs, Set.mem_insert_iff, Set.mem_singleton_iff, Reg.HNK_CLASS, Reg.HNK_REC_CMD, Reg.HNK_CNT]
  omega

/-- A register of the shard's configuration. -/
theorem State.within.config_eq (a : s.within t (hostRegs h) l) {o : Nat} (ho : o < 0x300) :
    t.reg (0x4000000 + o + 0x100000 * h) = s.reg (0x4000000 + o + 0x100000 * h) := by
  refine a.1 _ ?_
  simp only [hostRegs, Set.mem_insert_iff, Set.mem_singleton_iff, Reg.HNK_REC_CMD, Reg.HNK_CNT]
  omega

theorem recCmd_mem_hostRegs (h : Nat) : recCmd h ∈ hostRegs h := Set.mem_insert _ _

theorem hostCommands_mem_hostRegs (h : Nat) : Reg.HNK_CNT h Cnt.HNK_HOST_COMMANDS ∈ hostRegs h := Set.mem_insert_of_mem _ rfl

/-! ### Refusals -/

theorem State.recRefuse_within (s : State) (h code : Nat) : s.within (s.recRefuse h code) {Reg.HNK_REC_CMD h} [.regs] :=
  (s.setFld_within (Set.mem_singleton _) _ _).trans (State.setFld_within _ (Set.mem_singleton _) _ _)

/-- A refused command shows its code. -/
theorem State.recRefuse_shows (s : State) (h : Nat) {code : Nat} (hcode : code < 16) :
    (s.recRefuse h code).fld (Reg.HNK_REC_CMD h) Fld.HNK_REC_CMD_ERR_CODE = code
      ∧ (s.recRefuse h code).flag (Reg.HNK_REC_CMD h) Fld.HNK_REC_CMD_ERR = true :=
  ⟨State.fld_setFld_fits _ _ (by decide) hcode,
    (State.flag_setFld_apart _ _ _ _ _ (by unfold Fld.apart; decide)).trans (s.flag_setFld_one _ (by unfold Fld.oneBit; decide))⟩

theorem recStart_refuses (hbusy : s.flag (Reg.HNK_REC_CMD h) Fld.HNK_REC_CMD_BUSY = true) (op : HostOp) (cls : Nat) :
    recStart h op cls s = s.recRefuse h 1 := if_pos hbusy

/-! ### The start of a command -/

/-- A command whose class is shown and that is counted. -/
def State.hostTaken (s : State) (h cls : Nat) : State := (s.setFld (recCmd h) Fld.HNK_REC_CMD_CLASS cls).hnkBump h Cnt.HNK_HOST_COMMANDS

/-- The window of a command that runs. -/
def State.hostShown (s : State) (h : Nat) : State :=
  ((s.setFld (recCmd h) Fld.HNK_REC_CMD_FOUND 0).setFld (recCmd h) Fld.HNK_REC_CMD_RESIDENT 0).setFld (recCmd h) Fld.HNK_REC_CMD_BUSY 1

theorem State.hostTaken_leaves (s : State) (h : Nat) {cls : Nat} (hcls : cls < 64) :
    s.within (s.hostTaken h cls) (hostRegs h) [.regs] ∧ (s.hostTaken h cls).fld (Reg.HNK_REC_CMD h) Fld.HNK_REC_CMD_CLASS = cls
      ∧ (s.hostTaken h cls).reg (Reg.HNK_CNT h Cnt.HNK_HOST_COMMANDS) = s.reg (Reg.HNK_CNT h Cnt.HNK_HOST_COMMANDS) + 1 := by
  have hset := s.setFld_within (recCmd_mem_hostRegs h) Fld.HNK_REC_CMD_CLASS cls
  have hclass := s.fld_setFld_fits (recCmd h) (f := Fld.HNK_REC_CMD_CLASS) (x := cls) (by decide) hcls
  have hcount := s.reg_setFld (recCmd h) (Reg.HNK_CNT h Cnt.HNK_HOST_COMMANDS) Fld.HNK_REC_CMD_CLASS cls
  rw [if_neg (by simp only [recCmd, Reg.HNK_CNT, Reg.HNK_REC_CMD]; omega)] at hcount
  unfold State.hostTaken
  generalize s.setFld (recCmd h) Fld.HNK_REC_CMD_CLASS cls = t at *
  refine ⟨hset.trans (t.bump_within (hostCommands_mem_hostRegs h)), (State.fld_of_reg ?_ _).trans hclass,
    (t.reg_hnkBump_self h _).trans (by rw [hcount])⟩
  refine (t.reg_bump _ _).trans (if_neg ?_)
  simp only [Reg.HNK_CNT, Reg.HNK_REC_CMD]
  omega

theorem State.hostShown_leaves (s : State) (h : Nat) :
    s.within (s.hostShown h) {Reg.HNK_REC_CMD h} [.regs]
      ∧ (s.hostShown h).flag (Reg.HNK_REC_CMD h) Fld.HNK_REC_CMD_BUSY = true
      ∧ (s.hostShown h).fld (Reg.HNK_REC_CMD h) Fld.HNK_REC_CMD_CLASS = s.fld (Reg.HNK_REC_CMD h) Fld.HNK_REC_CMD_CLASS := by
  refine ⟨((s.setFld_within (Set.mem_singleton _) _ _).trans (State.setFld_within _ (Set.mem_singleton _) _ _)).trans
    (State.setFld_within _ (Set.mem_singleton _) _ _), State.flag_setFld_one _ _ (by unfold Fld.oneBit; decide), ?_⟩
  exact ((State.fld_setFld_apart _ _ _ _ _ (by unfold Fld.apart; decide)).trans
    (State.fld_setFld_apart _ _ _ _ _ (by unfold Fld.apart; decide))).trans
    (State.fld_setFld_apart _ _ _ _ _ (by unfold Fld.apart; decide))

/-- The shard whose record port has one more request, that of the host's command. -/
def ShardSt.hostAsks (y : ShardSt) (op : HostOp) (x : Word64) (key : List Byte) (cls at_ : Nat) : ShardSt :=
  { y with host := .run op x key cls at_, recPort := y.recPort ++ [.host] }

/-- A command that was taken is refused, or asks for its record at the port. -/
def State.hostOpens (s : State) (h : Nat) (op : HostOp) (cls : Nat) : State :=
  if !s.shardUp h then s.recRefuse h 7
  else if homeShard (s.hashKey (s.recKeyBytes h)) ≠ h then s.recRefuse h 3
  else if vecByte (s.recKeyBytes h) 0 = 6 ∧ s.classLong h cls = false then s.recRefuse h 5
  else (s.hostShown h).setShard h (((s.hostShown h).shard h).hostAsks op (s.hashKey (s.recKeyBytes h)) (s.recKeyBytes h) cls
    (s.hostShown h).clk.mono)

theorem recStart_opens (hidle : s.flag (Reg.HNK_REC_CMD h) Fld.HNK_REC_CMD_BUSY = false) (op : HostOp) (cls : Nat) :
    recStart h op cls s = (s.hostTaken h cls).hostOpens h op cls := by
  unfold recStart
  rw [if_neg (by simpa [recCmd] using hidle)]
  rfl

theorem recStart_starts {cls : Nat} (op : HostOp) (hcls : cls < 64) (hidle : s.flag (Reg.HNK_REC_CMD h) Fld.HNK_REC_CMD_BUSY = false)
    (hup : s.shardUp h = true) (hhome : homeShard (s.hashKey (s.recKeyBytes h)) = h)
    (hlong : vecByte (s.recKeyBytes h) 0 = 6 → s.classLong h cls = true) :
    recStart h op cls s = ((s.hostTaken h cls).hostShown h).setShard h
      ((s.shard h).hostAsks op (s.hashKey (s.recKeyBytes h)) (s.recKeyBytes h) cls s.clk.mono) := by
  have htaken := (s.hostTaken_leaves h hcls).1
  rw [recStart_opens hidle]
  generalize s.hostTaken h cls = t at *
  have hshown := (t.hostShown_leaves h).1
  rw [State.hostOpens, htaken.shardUp_eq, htaken.recKeyBytes_eq, htaken.hashKey_eq, htaken.classLong_eq hcls,
    if_neg (by simp [hup]), if_neg (by simp [hhome]), if_neg (by rintro ⟨hsix, hshort⟩; simp [hlong hsix] at hshort),
    hshown.shard_eq (by simp), htaken.shard_eq (by simp), hshown.2.clk_eq (by simp), htaken.2.clk_eq (by simp)]

/-- What the start of a command leaves in the window, in the shard and in the count. -/
theorem recStart_leaves {cls : Nat} (op : HostOp) (hcls : cls < 64)
    (hidle : s.flag (Reg.HNK_REC_CMD h) Fld.HNK_REC_CMD_BUSY = false) (hup : s.shardUp h = true)
    (hhome : homeShard (s.hashKey (s.recKeyBytes h)) = h)
    (hlong : vecByte (s.recKeyBytes h) 0 = 6 → s.classLong h cls = true) :
    (recStart h op cls s).shard h = (s.shard h).hostAsks op (s.hashKey (s.recKeyBytes h)) (s.recKeyBytes h) cls s.clk.mono
      ∧ (recStart h op cls s).flag (Reg.HNK_REC_CMD h) Fld.HNK_REC_CMD_BUSY = true
      ∧ (recStart h op cls s).fld (Reg.HNK_REC_CMD h) Fld.HNK_REC_CMD_CLASS = cls
      ∧ (recStart h op cls s).reg (Reg.HNK_CNT h Cnt.HNK_HOST_COMMANDS) = s.reg (Reg.HNK_CNT h Cnt.HNK_HOST_COMMANDS) + 1
      ∧ s.inShard (recStart h op cls s) h (hostRegs h) [.regs, .shards] := by
  obtain ⟨htaken, hclass, hcount⟩ := s.hostTaken_leaves h hcls
  rw [recStart_starts op hcls hidle hup hhome hlong]
  generalize s.hostTaken h cls = t at *
  obtain ⟨hshown, hbusy, hshowsClass⟩ := t.hostShown_leaves h
  have hcnt : Reg.HNK_CNT h Cnt.HNK_HOST_COMMANDS ∉ ({Reg.HNK_REC_CMD h} : Set Nat) := by
    simp only [Set.mem_singleton_iff, Reg.HNK_CNT, Reg.HNK_REC_CMD]
    omega
  generalize t.hostShown h = u at *
  generalize (s.shard h).hostAsks op (s.hashKey (s.recKeyBytes h)) (s.recKeyBytes h) cls s.clk.mono = y
  have hset := u.setShard_inShard h y (hostRegs h)
  have hreg (a : Nat) : (u.setShard h y).reg a = u.reg a := rfl
  refine ⟨u.shard_setShard_self h y, ?_, ?_, ?_, ((htaken.inShard (by simp) h).parts (by simp)).trans
    (((hshown.inShard (by simp) h).mono (by simp [hostRegs]) (by simp)).trans (hset.parts (by simp)))⟩
  · exact (State.flag_of_reg (hreg _) _).trans hbusy
  · exact (State.fld_of_reg (hreg _) _).trans (hshowsClass.trans hclass)
  · rw [hreg, hshown.1 _ hcnt, hcount]

/-! ### READ_LOC -/

/-- A READ_LOC that is taken: its location is shown, and it is counted. -/
def State.locTaken (s : State) (h loc : Nat) (stash : Bool) : State :=
  ((s.setFld (recCmd h) Fld.HNK_REC_CMD_LOC loc).setFld (recCmd h) Fld.HNK_REC_CMD_STASH (bit stash)).hnkBump h Cnt.HNK_HOST_COMMANDS

/-- Slots of the region that READ_LOC names. -/
def State.locSlots (s : State) (h : Nat) (stash : Bool) : Nat := if stash then 65536 else 16 * 2 ^ s.bucketBits h

/-- The line of a location. -/
def State.locLine (s : State) (h loc : Nat) (stash : Bool) : Nat :=
  (s.reg (if stash then Reg.HNK_STASH_BASE h else Reg.HNK_REC_BASE h)).toNat / 64 + loc

theorem State.locTaken_within (s : State) (h loc : Nat) (stash : Bool) : s.within (s.locTaken h loc stash) (hostRegs h) [.regs] :=
  ((s.setFld_within (recCmd_mem_hostRegs h) _ _).trans (State.setFld_within _ (recCmd_mem_hostRegs h) _ _)).trans
    (State.bump_within _ (hostCommands_mem_hostRegs h))

theorem State.within.locSlots_eq (a : s.within t (hostRegs h) l) (stash : Bool) : t.locSlots h stash = s.locSlots h stash := by
  have hbits : t.bucketBits h = s.bucketBits h := State.fld_of_reg (a.config_eq (o := 0x10) (by decide)) _
  rw [State.locSlots, State.locSlots, hbits]

theorem State.within.locLine_eq (a : s.within t (hostRegs h) l) (loc : Nat) (stash : Bool) : t.locLine h loc stash = s.locLine h loc stash := by
  unfold State.locLine
  cases stash with
  | true => rw [if_pos rfl, show t.reg (Reg.HNK_STASH_BASE h) = s.reg (Reg.HNK_STASH_BASE h) from a.config_eq (o := 0x20) (by decide)]
  | false => rw [if_neg (by simp), show t.reg (Reg.HNK_REC_BASE h) = s.reg (Reg.HNK_REC_BASE h) from a.config_eq (o := 0x18) (by decide)]

/-- READ_LOC of a taken command: the refusals, or the slot's words. -/
def State.locReads (s : State) (h loc : Nat) (stash : Bool) (e : Ecc) : State :=
  if !s.shardUp h then s.recRefuse h 7
  else if s.locSlots h stash ≤ loc then s.recRefuse h 6
  else
    match (s.dramRead (s.locLine h loc stash) true e).1 with
    | none => ((if stash then (s.dramRead (s.locLine h loc stash) true e).2.withdrawSlot h loc
        else (s.dramRead (s.locLine h loc stash) true e).2).setRecData h []).recRefuse h 8
    | some b => (s.dramRead (s.locLine h loc stash) true e).2.setRecData h (wordsOf 8 b)

theorem readLoc_reads (hidle : s.flag (Reg.HNK_REC_CMD h) Fld.HNK_REC_CMD_BUSY = false) (hready : s.dmcReady = true) (loc : Nat)
    (stash : Bool) (e : Ecc) : readLoc h loc stash e s = (s.locTaken h loc stash).locReads h loc stash e := by
  unfold readLoc
  rw [if_neg (by simpa [recCmd] using hidle), if_neg (by simp [hready])]
  rfl

theorem readLoc_refuses (hidle : s.flag (Reg.HNK_REC_CMD h) Fld.HNK_REC_CMD_BUSY = false) (hup : s.shardUp h = true)
    (hready : s.dmcReady = true) {loc : Nat} {stash : Bool} (hloc : s.locSlots h stash ≤ loc) (e : Ecc) :
    readLoc h loc stash e s = (s.locTaken h loc stash).recRefuse h 6 := by
  have htaken := s.locTaken_within h loc stash
  rw [readLoc_reads hidle hready, State.locReads, htaken.shardUp_eq, htaken.locSlots_eq, if_neg (by simp [hup]), if_pos hloc]

theorem readLoc_answers (hidle : s.flag (Reg.HNK_REC_CMD h) Fld.HNK_REC_CMD_BUSY = false) (hup : s.shardUp h = true)
    (hready : s.dmcReady = true) {loc : Nat} {stash : Bool} (hloc : loc < s.locSlots h stash) {e : Ecc} {b : List Byte}
    (hb : (s.dramRead (s.locLine h loc stash) true e).1 = some b) :
    readLoc h loc stash e s = ((s.locTaken h loc stash).dramRead (s.locLine h loc stash) true e).2.setRecData h (wordsOf 8 b) := by
  have htaken := s.locTaken_within h loc stash
  have hlow : ∀ a ∈ lowRegs, (s.locTaken h loc stash).reg a = s.reg a := fun a ha => htaken.1 a (by
    simp only [mem_lowRegs] at ha
    simp only [hostRegs, Set.mem_insert_iff, Set.mem_singleton_iff, Reg.HNK_REC_CMD, Reg.HNK_CNT]
    omega)
  have hsame := State.dramRead_congr hlow (htaken.2.2 .dram (by decide)) (s.locLine h loc stash) e
  rw [readLoc_reads hidle hready, State.locReads, htaken.shardUp_eq, htaken.locSlots_eq, htaken.locLine_eq, hsame, hb,
    if_neg (by simp [hup]), if_neg (by omega)]

/-- The record data registers after `n` of them were written. -/
theorem reg_setRecData_upTo (s : State) (h : Nat) (w : List Word64) (n i : Nat) :
    (forUpTo n (fun i t => State.setReg t (Reg.HNK_REC_DATA h i) (w.getD i 0)) s).reg (Reg.HNK_REC_DATA h i)
      = if i < n then w.getD i 0 else s.reg (Reg.HNK_REC_DATA h i) := by
  induction n with
  | zero => rw [if_neg (Nat.not_lt_zero i)]; rfl
  | succ n ih =>
    rw [forUpTo, State.reg_setReg, ih]
    by_cases hi : i = n
    · rw [hi, if_pos rfl, if_pos (Nat.lt_succ_self n)]
    · have hlt : i < n + 1 ↔ i < n := by omega
      rw [if_neg (by simp only [Reg.HNK_REC_DATA]; omega)]
      simp only [hlt]

theorem State.setRecData_within (s : State) (h : Nat) (w : List Word64) : s.within (s.setRecData h w) Set.univ [.regs] :=
  forUpTo_within (fun _ t => t.setReg_within (Set.mem_univ _) _) 16 s

end

/-- Settles O25: the start of a command, the refusal of a second one, and READ_LOC inside and outside its region. -/
theorem hostRecordCommands : Obligations.HostRecordCommands := by
  refine ⟨fun s h cls op c hc hidle hup hhome hlong => ?_, fun s h cls c hc hbusy => ?_,
    fun s h loc stash e b hidle hup hready hloc hb => ?_, fun s h loc stash e hidle hup hready hloc => ?_⟩
  · obtain ⟨hshard, hbusy, hclass, hcount, hframe⟩ := recStart_leaves op cls.isLt hidle hup hhome hlong
    have hexec : exec c s = done s (recStart h.val op cls.val s) := by
      simp only [List.mem_cons, Prod.mk.injEq, List.not_mem_nil, or_false] at hc
      obtain ⟨rfl, rfl⟩ | ⟨rfl, rfl⟩ | ⟨rfl, rfl⟩ | ⟨rfl, rfl⟩ := hc <;> rfl
    exact ⟨_, hexec.trans (done_eq_next hframe.2.2 (by decide)), congrArg ShardSt.host hshard, congrArg ShardSt.recPort hshard, hbusy,
      hclass, hcount, hframe.2.onlyRegs (by simp [hostRegs]), hframe.1, hframe.2.2⟩
  · have hframe := s.recRefuse_within h.val 1
    obtain ⟨hcode, herr⟩ := s.recRefuse_shows h.val (code := 1) (by decide)
    have hexec : exec c s = done s (s.recRefuse h.val 1) := by
      simp only [List.mem_cons, List.not_mem_nil, or_false] at hc
      obtain rfl | rfl | rfl | rfl := hc <;> exact congrArg (done s) (recStart_refuses hbusy _ _)
    exact ⟨_, hexec.trans (done_eq_next hframe.2 (by decide)), hcode, herr, hframe.onlyRegs (by simp), hframe.2⟩
  · have htaken := s.locTaken_within h.val loc.val stash
    have hanswer := readLoc_answers hidle hup hready hloc hb
    have hread := State.dramRead_dramStep (s.locTaken h.val loc.val stash) (s.locLine h.val loc.val stash) true e
    generalize ((s.locTaken h.val loc.val stash).dramRead (s.locLine h.val loc.val stash) true e).2 = t at *
    have hframe := State.onlyParts_trans (State.onlyParts_mono htaken.2 (by simp [dramParts])) (State.onlyParts_trans
      (State.onlyParts_mono hread.2 fun _ hp => hp) (State.onlyParts_mono (t.setRecData_within h.val (wordsOf 8 b)).2
        (by simp [dramParts])))
    exact ⟨_, (congrArg (done s) hanswer).trans (done_eq_next hframe (by decide)),
      fun i hi => (reg_setRecData_upTo t h.val _ 16 i).trans (if_pos hi), hframe⟩
  · have htaken := s.locTaken_within h.val loc.val stash
    have hrefuses := readLoc_refuses hidle hup hready hloc e
    generalize s.locTaken h.val loc.val stash = t at *
    obtain ⟨hcode, herr⟩ := t.recRefuse_shows h.val (code := 6) (by decide)
    have hframe := State.onlyParts_trans htaken.2 (t.recRefuse_within h.val 6).2
    exact ⟨_, (congrArg (done s) hrefuses).trans (done_eq_next hframe (by decide)), hcode, herr, hframe⟩

end Sys2Proof.Machine
end

section
/-! PROOF. What completes for a waiting thread (R188, R190, R192, R197, R198, R201), and the control store's scrub, LOCK_CMD and
EV_ADD (R207, R213). -/

namespace Sys2Proof.Machine

/-! ### Boundaries and changes of one thread -/

/-- Nothing waits for the thread's boundary (R201). -/
def Thread.calm (x : Thread) : Prop := x.abort = none ∧ x.ending = false ∧ x.haltReq = none

section
variable {s t : State} {h i : Nat} {x : Thread}

theorem State.boundary_of_calm (hcalm : (s.thread h i).calm) : s.boundary h i = s := by
  obtain ⟨habort, hending, hhalt⟩ := hcalm
  unfold State.boundary
  dsimp only
  rw [habort, hending, hhalt]
  exact ite_self s

theorem State.setThread_boundary (hcalm : x.calm) : (s.setThread h i x).boundary h i = s.setThread h i x :=
  State.boundary_of_calm (by rw [State.thread_setThread, if_pos rfl]; exact hcalm)

/-- A counter after it has counted. -/
theorem State.reg_bump_self (s : State) (a : Nat) : (s.bump a).reg a = s.reg a + 1 := (s.reg_bump a a).trans (if_pos rfl)

/-- A thread is changed and a counter of the Ward counts. -/
theorem State.setThread_wrdBump_leaves (s : State) (h i c : Nat) (x : Thread) :
    ((s.setThread h i x).wrdBump h c).thread h i = x
      ∧ ((s.setThread h i x).wrdBump h c).reg (Reg.WRD_CNT h c) = s.reg (Reg.WRD_CNT h c) + 1
      ∧ ((s.setThread h i x).wrdBump h c).shard h = { s.shard h with threads := Tbl.set Thread.init (s.shard h).threads i x }
      ∧ s.inShard ((s.setThread h i x).wrdBump h c) h {Reg.WRD_CNT h c} [.regs, .shards] := by
  have hthread := s.thread_setThread h i i x
  have hshard := s.shard_setThread h i x
  have hframe := s.setThread_inShard h i x {Reg.WRD_CNT h c}
  have hreg : (s.setThread h i x).reg (Reg.WRD_CNT h c) = s.reg (Reg.WRD_CNT h c) := rfl
  generalize s.setThread h i x = t at *
  refine ⟨hthread.trans (if_pos rfl), (t.reg_bump_self _).trans (by rw [hreg]), hshard,
    (hframe.parts (by simp)).trans ((t.bump_inShard h (Set.mem_singleton _)).parts (by simp))⟩

/-- A wait that ends now. -/
theorem State.endWait_running (hrunning : (s.thread h i).halted = false) (d : Due) :
    s.endWait h i d = (s.applyDue h i d).boundary h i := by
  rw [State.endWait, hrunning]
  rfl

/-- The grant of a lock that a halted thread waits for is recorded (R201). -/
theorem State.endWait_halted (hhalted : (s.thread h i).halted = true) (hdue : (s.thread h i).due = none) :
    s.endWait h i .granted = s.setThread h i { s.thread h i with due := some .granted } := by
  rw [State.endWait, hhalted, hdue]
  rfl

/-- The grant of a lock ends the wait of a thread that runs. -/
theorem State.endWait_granted (hx : s.thread h i = x) (hrunning : x.halted = false) (hcalm : x.calm) :
    s.endWait h i .granted = s.setThread h i { x with sleep := .awake, lock := .acquired } := by
  have hstays : Thread.calm { x with sleep := .awake, lock := .acquired } := hcalm
  rw [State.endWait_running (by rw [hx]; exact hrunning), State.applyDue, hx]
  exact State.setThread_boundary hstays

/-! ### Reads (R188, R190) -/

/-- A thread that has received its record. -/
def Thread.takesRecord (x : Thread) (fresh : Bool) (w : List Word64) : Thread :=
  { x with read := .none, recSt := .found, hold := true, fresh := fresh, rb := (List.range 16).map (fun j => w.getD j 0) }

theorem recReadDone_takes {it : Item} {k : Nat} (hx : x = s.thread h i) (hread : x.read = .done .found) (hitem : x.item = some it)
    (hheld : s.heldWay h (.item it.rank) = some k) (hcalm : x.calm) :
    recReadDone h i s = s.setThread h i (x.takesRecord (s.fwdFresh h it.gen (s.way h k).words) (s.way h k).words) := by
  have hstays : (x.takesRecord (s.fwdFresh h it.gen (s.way h k).words) (s.way h k).words).calm := hcalm
  unfold recReadDone
  dsimp only
  rw [← hx, hread, hitem]
  dsimp only
  rw [hheld, ← hitem]
  exact State.setThread_boundary hstays

theorem auxAccessDone_takes {ok : Bool} {l : List Word64} (hx : x = s.thread h i) (haux : x.auxSt = .answered none ok (some l))
    (hcalm : x.calm) : auxAccessDone h i s = s.setThread h i { x with auxSt := .none, auxLost := false, aux := l } := by
  have hstays : Thread.calm { x with auxSt := .none, auxLost := false, aux := l } := hcalm
  unfold auxAccessDone
  dsimp only
  rw [← hx, haux]
  exact State.setThread_boundary hstays

/-! ### Locks (R192) -/

/-- The lock has gone to thread `i`, and the grant is counted. -/
def State.lockGiven (s : State) (h l i : Nat) (q : List Nat) : State :=
  ((s.setLock h l { owner := some i, queue := q }).setThread h i { s.thread h i with locks := (s.thread h i).locks ++ [l] }).wrdBump h
    Cnt.WRD_LOCK_ACQ

theorem lockGrant_gives {l : Nat} {q : List Nat} (hlock : s.lock h l = { owner := none, queue := i :: q }) :
    lockGrant h l s = (s.lockGiven h l i q).endWait h i .granted := by
  unfold lockGrant
  dsimp only
  rw [hlock]
  rfl

theorem State.shard_setLock (s : State) (h l : Nat) (x : WLock) :
    (s.setLock h l x).shard h = { s.shard h with locks := Tbl.set WLock.init (s.shard h).locks l x } := s.shard_setShard_self h _

theorem State.lock_congr (heq : (t.shard h).locks = (s.shard h).locks) (l : Nat) : t.lock h l = s.lock h l := by
  rw [State.lock, State.lock, heq]

theorem State.lock_setLock_self (s : State) (h l : Nat) (x : WLock) : (s.setLock h l x).lock h l = x := by
  rw [State.lock, State.shard_setLock]
  exact (Tbl.get_set _ _ _ _ _).trans (if_pos rfl)

theorem State.lockGiven_leaves (s : State) (h l i : Nat) (q : List Nat) :
    (s.lockGiven h l i q).lock h l = { owner := some i, queue := q }
      ∧ (s.lockGiven h l i q).thread h i = { s.thread h i with locks := (s.thread h i).locks ++ [l] }
      ∧ (s.lockGiven h l i q).reg (Reg.WRD_CNT h Cnt.WRD_LOCK_ACQ) = s.reg (Reg.WRD_CNT h Cnt.WRD_LOCK_ACQ) + 1
      ∧ s.inShard (s.lockGiven h l i q) h {Reg.WRD_CNT h Cnt.WRD_LOCK_ACQ} [.regs, .shards] := by
  have hlock := s.lock_setLock_self h l { owner := some i, queue := q }
  have hset : s.inShard (s.setLock h l { owner := some i, queue := q }) h {Reg.WRD_CNT h Cnt.WRD_LOCK_ACQ} [.shards] :=
    s.setShard_inShard h _ _
  have hreg : (s.setLock h l { owner := some i, queue := q }).reg (Reg.WRD_CNT h Cnt.WRD_LOCK_ACQ)
      = s.reg (Reg.WRD_CNT h Cnt.WRD_LOCK_ACQ) := rfl
  unfold State.lockGiven
  generalize s.setLock h l { owner := some i, queue := q } = t at *
  obtain ⟨hthread, hcount, hshard, hframe⟩ := t.setThread_wrdBump_leaves h i Cnt.WRD_LOCK_ACQ
    { s.thread h i with locks := (s.thread h i).locks ++ [l] }
  exact ⟨(State.lock_congr (by rw [hshard]) l).trans hlock, hthread, hcount.trans (by rw [hreg]), (hset.parts (by simp)).trans hframe⟩

/-- A thread of a lock that has been given changes: the lock and the count stand. -/
theorem State.setThread_lock (s : State) (h i l : Nat) (x : Thread) : (s.setThread h i x).lock h l = s.lock h l :=
  State.lock_congr (by rw [State.shard_setThread]) l

/-! ### Timers and events (R197, R198) -/

theorem State.wakeThread_timer (s : State) (h i : Nat) :
    s.wakeThread h i .timer
      = (s.setThread h i { s.thread h i with sleep := .awake, wake := .timer, fired := false }).wrdBump h Cnt.WRD_WAKE_TIMER := rfl

theorem State.wakeThread_event (s : State) (h i : Nat) :
    s.wakeThread h i .event = (s.setThread h i { s.thread h i with sleep := .awake, wake := .event }).wrdBump h Cnt.WRD_WAKE_EVENT := rfl

/-- The thread after its timer has fired. -/
theorem Thread.fire_due {mono : Nat} (harmed : x.armed = true) (hdue : x.cmp ≤ mono) :
    x.fire mono = { x with armed := false, fired := true } := if_pos ⟨harmed, hdue⟩

theorem timerFire_wakes (hx : x = s.thread h i) (harmed : x.armed = true) (hdue : x.cmp ≤ s.clk.mono) (hsleep : x.sleep = .timer)
    (hrunning : x.halted = false) (hcalm : x.calm) :
    timerFire h i s = ((s.setThread h i (x.fire s.clk.mono)).setThread h i
      { x with armed := false, fired := false, sleep := .awake, wake := .timer }).wrdBump h Cnt.WRD_WAKE_TIMER := by
  have hfired := Thread.fire_due harmed hdue
  have hthread : (s.setThread h i (x.fire s.clk.mono)).thread h i = { x with armed := false, fired := true } :=
    (State.thread_setThread _ _ _ _ _).trans ((if_pos rfl).trans hfired)
  have htimer : timerFire h i s = (s.setThread h i (x.fire s.clk.mono)).endWait h i (.woken .timer) := by
    unfold timerFire
    dsimp only
    rw [← hx, hsleep]
    exact if_neg (by simp [harmed, hdue])
  rw [htimer]
  generalize s.setThread h i (x.fire s.clk.mono) = t at *
  have hwakes := t.wakeThread_timer h i
  rw [hthread] at hwakes
  rw [State.endWait_running (by rw [hthread]; exact hrunning), State.applyDue, hwakes]
  refine State.boundary_of_calm ?_
  rw [(t.setThread_wrdBump_leaves h i Cnt.WRD_WAKE_TIMER _).1]
  exact hcalm

theorem eventWake_wakes {m : Nat} {v : Word64} (hx : x = s.thread h i) (hsleep : x.sleep = .event m v) (hcount : s.eventCount h m ≠ v)
    (hrunning : x.halted = false) (hcalm : x.calm) :
    eventWake h i s = (s.setThread h i { x with sleep := .awake, wake := .event }).wrdBump h Cnt.WRD_WAKE_EVENT := by
  have hevent : eventWake h i s = s.endWait h i (.woken .event) := by
    unfold eventWake
    rw [← hx, hsleep]
    exact if_neg hcount
  have hwakes := s.wakeThread_event h i
  rw [← hx] at hwakes
  rw [hevent, State.endWait_running (by rw [← hx]; exact hrunning), State.applyDue, hwakes]
  refine State.boundary_of_calm ?_
  rw [(s.setThread_wrdBump_leaves h i Cnt.WRD_WAKE_EVENT _).1]
  exact hcalm

/-! ### Scrub, LOCK_CMD, EV_ADD (R207, R213) -/

/-- LOCK_DATA tells whether the lock is held, and the engine and the thread of its owner. -/
theorem lockRead_shows (s : State) (h : Nat) {l : Nat} (hl : l < 4096) :
    (lockRead h l s).flag (Reg.WRD_LOCK_DATA h) Fld.WRD_LOCK_DATA_HELD = (s.lock h l).owner.isSome
      ∧ (lockRead h l s).fld (Reg.WRD_LOCK_DATA h) Fld.WRD_LOCK_DATA_OWNER_E = (s.lock h l).owner.getD 0 / 16 % 32
      ∧ (lockRead h l s).fld (Reg.WRD_LOCK_DATA h) Fld.WRD_LOCK_DATA_OWNER_T = (s.lock h l).owner.getD 0 % 16
      ∧ (lockRead h l s).fld (Reg.WRD_LOCK_CMD h) Fld.WRD_LOCK_CMD_LOCK = l
      ∧ s.within (lockRead h l s) {Reg.WRD_LOCK_DATA h, Reg.WRD_LOCK_CMD h} [.regs] := by
  have hcmd := s.fld_setFld_fits (Reg.WRD_LOCK_CMD h) (f := Fld.WRD_LOCK_CMD_LOCK) (x := l) (by decide) hl
  have hset := s.setFld_within (R := {Reg.WRD_LOCK_DATA h, Reg.WRD_LOCK_CMD h}) (a := Reg.WRD_LOCK_CMD h) (by simp)
    Fld.WRD_LOCK_CMD_LOCK l
  have hne : Reg.WRD_LOCK_CMD h ≠ Reg.WRD_LOCK_DATA h := by simp only [Reg.WRD_LOCK_CMD, Reg.WRD_LOCK_DATA]; omega
  unfold lockRead
  dsimp only
  generalize s.setFld (Reg.WRD_LOCK_CMD h) Fld.WRD_LOCK_CMD_LOCK l = t at *
  have hdata (u : State) (f : Fld) (v : Nat) : u.within (u.setFld (Reg.WRD_LOCK_DATA h) f v)
      {Reg.WRD_LOCK_DATA h, Reg.WRD_LOCK_CMD h} [.regs] := u.setFld_within (by simp) f v
  refine ⟨?_, ?_, ?_, ?_, (((hset.trans (hdata _ _ _)).trans (hdata _ _ _)).trans (hdata _ _ _)).trans (hdata _ _ _)⟩
  · rw [State.flag_setFld_apart _ _ _ _ _ (by unfold Fld.apart; decide), State.flag_setFld_apart _ _ _ _ _ (by unfold Fld.apart; decide),
      State.flag_setFld_apart _ _ _ _ _ (by unfold Fld.apart; decide), State.flag_setFld_bit _ _ (by unfold Fld.oneBit; decide)]
  · rw [State.fld_setFld_apart _ _ _ _ _ (by unfold Fld.apart; decide), State.fld_setFld_apart _ _ _ _ _ (by unfold Fld.apart; decide)]
    exact State.fld_setFld_self _ _ _ _ (by decide)
  · rw [State.fld_setFld_apart _ _ _ _ _ (by unfold Fld.apart; decide)]
    exact State.fld_setFld_fits _ _ (by decide) (Nat.mod_lt _ (by decide))
  · rw [State.fld_setFld_other _ _ _ _ _ _ hne, State.fld_setFld_other _ _ _ _ _ _ hne, State.fld_setFld_other _ _ _ _ _ _ hne,
      State.fld_setFld_other _ _ _ _ _ _ hne, hcmd]

/-- The scrub moves on to the next row. -/
def State.scrubbed (s : State) (h : Nat) : State := s.setShard h { s.shard h with mcRow := ((s.shard h).mcRow + 1) % 16384 }

theorem mcScrub_corrected_leaves (s : State) (h : Nat) :
    ((mcScrub h .corrected s).shard h).mcRow = ((s.shard h).mcRow + 1) % 16384
      ∧ (mcScrub h .corrected s).reg (Reg.FAE_CNT h Cnt.FAE_MC_ECC_CORRECTED) = s.reg (Reg.FAE_CNT h Cnt.FAE_MC_ECC_CORRECTED) + 1
      ∧ s.inShard (mcScrub h .corrected s) h Set.univ [.regs, .shards] := by
  have hscrub : mcScrub h .corrected s = (s.scrubbed h).mcCorrected h := rfl
  have hrow : ((s.scrubbed h).shard h).mcRow = ((s.shard h).mcRow + 1) % 16384 := congrArg ShardSt.mcRow (s.shard_setShard_self h _)
  have hframe : s.inShard (s.scrubbed h) h Set.univ [.shards] := s.setShard_inShard h _ _
  have hreg : (s.scrubbed h).reg (Reg.FAE_CNT h Cnt.FAE_MC_ECC_CORRECTED) = s.reg (Reg.FAE_CNT h Cnt.FAE_MC_ECC_CORRECTED) := rfl
  rw [hscrub]
  generalize s.scrubbed h = t at *
  refine ⟨hrow, ?_, ((hframe.parts (by simp)).trans ((t.bump_inShard h (Set.mem_univ _)).parts (by simp))).trans
    ((State.setFld_inShard _ h (Set.mem_univ _) _ _).parts (by simp))⟩
  rw [State.mcCorrected, State.reg_setFld, if_neg (by simp only [Reg.FAE_CNT, Reg.FAE_STATUS]; omega), State.faeBump, State.reg_bump_self,
    hreg]

theorem State.eventCount_setEvent (s : State) (h m : Nat) (v : Word64) : (s.setEvent h m v).eventCount h m = v := by
  rw [State.eventCount, State.setEvent, State.shard_setShard_self]
  exact (Tbl.get_set _ _ _ _ _).trans (if_pos rfl)

/-- EV_ADD as the host wrote it. -/
def State.evShown (s : State) (h m n : Nat) : State :=
  (s.setFld (Reg.WRD_EV_ADD h) Fld.WRD_EV_ADD_INDEX m).setFld (Reg.WRD_EV_ADD h) Fld.WRD_EV_ADD_AMOUNT n

/-- Registers that EV_ADD moves. -/
def evRegs (h : Nat) : Set Nat := {Reg.WRD_CNT h Cnt.WRD_HOST_EV_ADDS, Reg.WRD_EV_ADD h}

theorem evAdd_leaves (s : State) (h m n : Nat) :
    (evAdd h m n s).eventCount h m = s.eventCount h m + BitVec.ofNat 64 n
      ∧ (evAdd h m n s).reg (Reg.WRD_CNT h Cnt.WRD_HOST_EV_ADDS) = s.reg (Reg.WRD_CNT h Cnt.WRD_HOST_EV_ADDS) + 1
      ∧ s.inShard (evAdd h m n s) h (evRegs h) [.regs, .shards] := by
  have hadd : evAdd h m n s = ((s.evShown h m n).setEvent h m ((s.evShown h m n).eventCount h m + BitVec.ofNat 64 n)).wrdBump h
    Cnt.WRD_HOST_EV_ADDS := rfl
  have hshown : s.within (s.evShown h m n) (evRegs h) [.regs] :=
    (s.setFld_within (by simp [evRegs]) _ _).trans (State.setFld_within _ (by simp [evRegs]) _ _)
  have hreg : (s.evShown h m n).reg (Reg.WRD_CNT h Cnt.WRD_HOST_EV_ADDS) = s.reg (Reg.WRD_CNT h Cnt.WRD_HOST_EV_ADDS) := by
    have hne : Reg.WRD_CNT h Cnt.WRD_HOST_EV_ADDS ≠ Reg.WRD_EV_ADD h := by simp only [Reg.WRD_CNT, Reg.WRD_EV_ADD]; omega
    rw [State.evShown, State.reg_setFld, if_neg hne, State.reg_setFld, if_neg hne]
  rw [hadd]
  generalize s.evShown h m n = t at *
  have hcount := t.eventCount_setEvent h m (t.eventCount h m + BitVec.ofNat 64 n)
  have hset : t.inShard (t.setEvent h m (t.eventCount h m + BitVec.ofNat 64 n)) h (evRegs h) [.shards] := t.setShard_inShard h _ _
  have hkept : (t.setEvent h m (t.eventCount h m + BitVec.ofNat 64 n)).reg (Reg.WRD_CNT h Cnt.WRD_HOST_EV_ADDS)
      = t.reg (Reg.WRD_CNT h Cnt.WRD_HOST_EV_ADDS) := rfl
  have hbefore : t.eventCount h m = s.eventCount h m := by rw [State.eventCount, State.eventCount, hshown.shard_eq (by simp)]
  generalize t.setEvent h m (t.eventCount h m + BitVec.ofNat 64 n) = u at *
  refine ⟨hcount.trans (by rw [hbefore]), ?_, (((hshown.inShard (by simp) h).parts (by simp)).trans (hset.parts (by simp))).trans
    ((u.bump_inShard h (by simp [evRegs])).parts (by simp))⟩
  rw [State.wrdBump, State.reg_bump_self, hkept, hreg]

end

end Sys2Proof.Machine
end

section
/-! PROOF. The deadlock breaker (R203, R204): its wakes and its abort leave every thread of the engine with nothing that waits for its
boundary. -/

namespace Sys2Proof.Machine

/-! ### Steps that keep calm threads calm -/

/-- Shard `h` alone and registers other than the count of broken deadlocks may change; a thread for whose boundary nothing waits stays
so. -/
structure State.calmStep (s t : State) (h : Nat) : Prop where
  only : s.onlyShard t h
  calm : ∀ i, (s.thread h i).calm → (t.thread h i).calm
  count : t.reg (Reg.FAE_CNT h Cnt.FAE_DEADLOCK_BREAK) = s.reg (Reg.FAE_CNT h Cnt.FAE_DEADLOCK_BREAK)

section
variable {s t u : State} {h : Nat}

theorem State.calmStep.refl (s : State) (h : Nat) : s.calmStep s h := ⟨fun _ _ => rfl, fun _ hi => hi, rfl⟩

theorem State.calmStep.trans (a : s.calmStep t h) (b : t.calmStep u h) : s.calmStep u h :=
  ⟨fun g hg => (b.only g hg).trans (a.only g hg), fun i hi => b.calm i (a.calm i hi), b.count.trans a.count⟩

/-- A change outside the shards. -/
theorem State.within.calmStep {R : Set Nat} {l : List Part} (a : s.within t R l) (hl : Part.shards ∉ l)
    (hR : Reg.FAE_CNT h Cnt.FAE_DEADLOCK_BREAK ∉ R) : s.calmStep t h :=
  ⟨fun g _ => a.shard_eq hl g, fun i hi => by
    rwa [State.thread_congr (congrArg ShardSt.threads (a.shard_eq hl h)) i], a.1 _ hR⟩

/-- A change of the shard that keeps its threads. -/
theorem State.setShard_calmStep (x : ShardSt) (hx : x.threads = (s.shard h).threads) : s.calmStep (s.setShard h x) h :=
  ⟨(s.setShard_inShard h x ∅).1, fun i hi => by
    rwa [State.thread_congr ((congrArg ShardSt.threads (s.shard_setShard_self h x)).trans hx) i], rfl⟩

theorem State.setThread_calmStep {i : Nat} {x : Thread} (hx : (s.thread h i).calm → x.calm) : s.calmStep (s.setThread h i x) h := by
  refine ⟨(s.setThread_inShard h i x ∅).1, fun j hj => ?_, rfl⟩
  rw [State.thread_setThread]
  split
  · next heq => exact hx (heq ▸ hj)
  · exact hj

theorem State.bump_calmStep (s : State) {a : Nat} (ha : a ≠ Reg.FAE_CNT h Cnt.FAE_DEADLOCK_BREAK) : s.calmStep (s.bump a) h :=
  (s.bump_within (Set.mem_singleton a)).calmStep (by simp) fun hm => ha (Set.mem_singleton_iff.1 hm).symm

theorem State.setFld_calmStep (s : State) {a : Nat} (ha : a ≠ Reg.FAE_CNT h Cnt.FAE_DEADLOCK_BREAK) (f : Fld) (x : Nat) :
    s.calmStep (s.setFld a f x) h :=
  (s.setFld_within (Set.mem_singleton a) f x).calmStep (by simp) fun hm => ha (Set.mem_singleton_iff.1 hm).symm

theorem forEach_calmStep {α : Type} {f : α → State → State} (hf : ∀ (x : α) (t : State), t.calmStep (f x t) h) (xs : List α)
    (s : State) : s.calmStep (forEach xs f s) h :=
  forEach_induct (fun t => s.calmStep t h) xs f s (.refl s h) fun x t _ ht => ht.trans (hf x t)

end

/-! ### Wakes and aborts -/

section
variable (s : State) (h i : Nat)

theorem State.wrdBump_calmStep (c : Nat) (hc : c < 32) : s.calmStep (s.wrdBump h c) h :=
  s.bump_calmStep (by simp only [Reg.WRD_CNT, Reg.FAE_CNT, Cnt.FAE_DEADLOCK_BREAK]; omega)

theorem State.leaveQueue_calmStep : s.calmStep (s.leaveQueue h i) h := by
  unfold State.leaveQueue
  split
  · exact State.setShard_calmStep _ rfl
  · exact .refl s h

theorem State.breakWait_calmStep : s.calmStep (s.breakWait h i) h := by
  unfold State.breakWait State.wakeThread
  dsimp only
  refine (((s.leaveQueue_calmStep h i).trans (State.setThread_calmStep ?_)).trans (State.setThread_calmStep ?_)).trans
    (State.wrdBump_calmStep _ h _ (by decide))
  · exact fun hx => hx
  · exact fun hx => hx

theorem State.unholdWay_calmStep (k : Nat) : s.calmStep (s.unholdWay h k) h := State.setShard_calmStep _ rfl

theorem State.withdrawRead_calmStep (w : Waiter) : s.calmStep (s.withdrawRead h w) h := by
  have hfree (t : State) (k n : Nat) : t.calmStep (t.freeEntry k n) h :=
    ((t.freeEntry_rest k n).within (by simp) ∅).calmStep (by simp) (Set.notMem_empty _)
  exact State.calmStep.trans (State.setShard_calmStep _ (by rfl)) (hfree _ _ _)

theorem State.dropHold_calmStep (r : Nat) : s.calmStep (s.dropHold h r) h := by
  unfold State.dropHold
  split
  · exact .refl s h
  · exact s.unholdWay_calmStep h _

theorem State.dropSweeperHold_calmStep (it : Item) : s.calmStep (s.dropSweeperHold h it) h := by
  unfold State.dropSweeperHold
  split
  · exact .refl s h
  · split
    · exact s.unholdWay_calmStep h _
    · exact .refl s h

theorem State.dropLocks_calmStep {f : State → State} (hf : ∀ t : State, t.calmStep (f t) h) : s.calmStep (s.dropLocks h i f) h := by
  unfold State.dropLocks
  refine State.calmStep.trans (forEach_calmStep (fun l t => ?_) _ s) (State.setThread_calmStep fun hx => hx)
  exact State.calmStep.trans (State.setShard_calmStep _ (by rfl)) (hf _)

theorem State.ageDrain_calmStep (gen : Nat) (up : Bool) : s.calmStep (s.ageDrain h gen up) h := by
  unfold State.ageDrain
  split
  · exact .refl s h
  · next k hk =>
    have hlt := List.mem_range.1 (List.mem_of_find?_eq_some hk)
    exact s.setFld_calmStep (by simp only [Reg.SCH_AGE_DRAIN, Reg.FAE_CNT]; omega) _ _

theorem State.endItem_calmStep (it : Item) (why : EndReason) : s.calmStep (s.endItem h it why) h := by
  unfold State.endItem
  split
  · exact (s.ageDrain_calmStep h _ _).trans
      (State.bump_calmStep _ (by simp only [Reg.SCH_CNT, Reg.FAE_CNT, Cnt.SCH_AGING_ABORT]; omega))
  · split
    · exact .refl s h
    · exact State.calmStep.trans (State.setShard_calmStep _ (by rfl))
        (State.setFld_calmStep _ (by simp only [Reg.SCH_STATUS, Reg.FAE_CNT]; omega) _ _)

theorem State.idleThread_calmStep : s.calmStep (s.idleThread h i) h := State.setThread_calmStep fun _ => ⟨rfl, rfl, rfl⟩

theorem State.abortThread_calmStep (why : EndReason) : s.calmStep (s.abortThread h i why) h := by
  unfold State.abortThread
  split
  · exact .refl s h
  · next it _ =>
    extract_lets withdrawn unheld swept freed
    have hunheld : s.calmStep unheld h := (s.withdrawRead_calmStep h _).trans (withdrawn.dropHold_calmStep h _)
    clear_value unheld
    have hswept : s.calmStep swept h := by
      unfold swept
      split
      · exact hunheld.trans (unheld.dropSweeperHold_calmStep h it)
      · exact hunheld
    clear_value swept
    have hfreed : s.calmStep freed h := (hswept.trans (swept.leaveQueue_calmStep h i)).trans
      (State.dropLocks_calmStep _ h i fun t => t.wrdBump_calmStep h _ (by decide))
    clear_value freed
    exact ((hfreed.trans (freed.endItem_calmStep h it why)).trans
      (State.bump_calmStep _ (by simp only [Reg.FAE_CNT, Cnt.FAE_ITEMS_ENDED, Cnt.FAE_DEADLOCK_BREAK]; omega))).trans
      (State.idleThread_calmStep _ h i)

end

/-! ### The break (R203, R204) -/

section
variable {s : State} {h e : Nat}

/-- Threads of engine `e`. -/
def engineThreads (e : Nat) : List Nat := (List.range 16).map (fun i => 16 * e + i)

/-- The thread of the engine whose item has the earliest deadline. -/
def State.deadlockVictim (s : State) (h e : Nat) : Nat :=
  let dl (t : Nat) : Nat := match (s.thread h t).item with | some it => it.deadline | none => 0
  (engineThreads e).foldl (fun b t => if dl t < dl b then t else b) (16 * e)

/-- The waits are broken and the victim is aborted. -/
def State.waitsBroken (s : State) (h e : Nat) : State :=
  State.abortThread (forEach (engineThreads e) (fun t u => if t = s.deadlockVictim h e then State.leaveQueue u h t else u.breakWait h t) s)
    h (s.deadlockVictim h e) .deadlock

/-- A broken deadlock is counted, shown and told. -/
def State.deadlockSeen (s : State) (h e v : Nat) : State :=
  ((s.faeBump h Cnt.FAE_DEADLOCK_BREAK).setFld (Reg.WRD_STATUS h) Fld.WRD_STATUS_DEADLOCK_SEEN 1).detect (srcFae h e) 0x023 1 (v % 16)

theorem State.waitsBroken_calmStep (s : State) (h e : Nat) : s.calmStep (s.waitsBroken h e) h := by
  refine State.calmStep.trans (forEach_calmStep (fun t u => ?_) _ s) (State.abortThread_calmStep _ h _ _)
  split
  · exact u.leaveQueue_calmStep h t
  · exact u.breakWait_calmStep h t

theorem State.deadlockSeen_leaves (s : State) (h e v : Nat) :
    (s.deadlockSeen h e v).flag (Reg.WRD_STATUS h) Fld.WRD_STATUS_DEADLOCK_SEEN = true
      ∧ (s.deadlockSeen h e v).reg (Reg.FAE_CNT h Cnt.FAE_DEADLOCK_BREAK) = s.reg (Reg.FAE_CNT h Cnt.FAE_DEADLOCK_BREAK) + 1
      ∧ ∀ g, (s.deadlockSeen h e v).shard g = s.shard g := by
  have hcount := s.reg_bump_self (Reg.FAE_CNT h Cnt.FAE_DEADLOCK_BREAK)
  have hshard (g : Nat) : (s.faeBump h Cnt.FAE_DEADLOCK_BREAK).shard g = s.shard g := rfl
  unfold State.deadlockSeen
  change (s.faeBump h Cnt.FAE_DEADLOCK_BREAK).reg _ = _ at hcount
  generalize s.faeBump h Cnt.FAE_DEADLOCK_BREAK = t at *
  have hflag := t.flag_setFld_one (Reg.WRD_STATUS h) (f := Fld.WRD_STATUS_DEADLOCK_SEEN) (by unfold Fld.oneBit; decide)
  have hkept := t.reg_setFld (Reg.WRD_STATUS h) (Reg.FAE_CNT h Cnt.FAE_DEADLOCK_BREAK) Fld.WRD_STATUS_DEADLOCK_SEEN 1
  rw [if_neg (by simp only [Reg.WRD_STATUS, Reg.FAE_CNT, Cnt.FAE_DEADLOCK_BREAK]; omega)] at hkept
  have hset (g : Nat) := t.shard_setFld (Reg.WRD_STATUS h) Fld.WRD_STATUS_DEADLOCK_SEEN 1 g
  generalize t.setFld (Reg.WRD_STATUS h) Fld.WRD_STATUS_DEADLOCK_SEEN 1 = u at *
  have htold := u.detect_within (srcFae h e) 0x023 1 (v % 16)
  refine ⟨(State.flag_of_reg (htold.1 _ ?_) _).trans hflag, (htold.1 _ ?_).trans (hkept.trans hcount),
    fun g => (htold.shard_eq (by simp) g).trans ((hset g).trans (hshard g))⟩
  · simp only [mem_lowRegs, Reg.WRD_STATUS]; omega
  · simp only [mem_lowRegs, Reg.FAE_CNT]; omega

/-- A stuck thread has no abort that waits. -/
theorem State.abort_of_stuck {i : Nat} (hstuck : s.stuck h i = true) : (s.thread h i).abort = none := by
  unfold State.stuck at hstuck
  simp only [Bool.and_eq_true, Option.isNone_iff_eq_none] at hstuck
  obtain ⟨⟨⟨⟨-, habort⟩, -⟩, -⟩, -⟩ := hstuck
  exact habort

/-- All threads of an engine are stuck when its cycles have been counted. -/
theorem State.stuck_of_cycles (hcycles : 4096 ≤ s.stuckCycles h e) {i : Nat} (hi : i ∈ engineThreads e) : s.stuck h i = true := by
  unfold State.stuckCycles at hcycles
  dsimp only at hcycles
  split at hcycles
  · next hall => exact List.all_eq_true.1 hall i hi
  · omega

/-- Boundaries of calm threads change nothing. -/
theorem forEach_boundary_of_calm {l : List Nat} (hcalm : ∀ i ∈ l, (s.thread h i).calm) : forEach l (fun t u => State.boundary u h t) s = s :=
  forEach_induct (fun t => t = s) l _ s rfl fun i t hi ht => by rw [ht, State.boundary_of_calm (hcalm i hi)]

theorem deadlockBreak_breaks (hup : s.shardUp h = true) (hcycles : 4096 ≤ s.stuckCycles h e)
    (hcalm : ∀ i ∈ engineThreads e, (s.thread h i).calm) :
    deadlockBreak h e s = (s.waitsBroken h e).deadlockSeen h e (s.deadlockVictim h e) := by
  have hbreak : deadlockBreak h e s
      = forEach (engineThreads e) (fun t u => State.boundary u h t) ((s.waitsBroken h e).deadlockSeen h e (s.deadlockVictim h e)) := by
    unfold deadlockBreak
    exact if_neg (by rw [hup]; simpa using hcycles)
  rw [hbreak]
  obtain ⟨-, -, hshard⟩ := (s.waitsBroken h e).deadlockSeen_leaves h e (s.deadlockVictim h e)
  refine forEach_boundary_of_calm fun i hi => ?_
  rw [State.thread_congr (congrArg ShardSt.threads (hshard h)) i]
  exact (s.waitsBroken_calmStep h e).calm i (hcalm i hi)

end

/-- Settles O29: each completion is followed to the thread, the lock or the counters that it changes. -/
theorem threadCompletions : Obligations.ThreadCompletions := by
  refine ⟨fun s h T it i x hx hread hitem hheld habort hending hhalt => ?_,
    fun s h T ok l x hx haux habort hending hhalt => ?_,
    fun s h l T q x hlock hx hrunning habort hending hhalt => ?_, fun s h l T q x hlock hx hhalted hdue => ?_,
    fun s h T x hx harmed hdue hsleep hrunning habort hending hhalt => ?_,
    fun s h T m v x hx hsleep hcount hrunning habort hending hhalt => ?_, fun s h e hup hcycles hends => ?_,
    fun s h => done_eq_next (s.setShard_rest h.val _) (by decide), fun s h l T hlock hT => ?_, fun s h l hlock => ?_,
    fun s h => ?_, fun s h m n => ?_⟩
  · have htakes := recReadDone_takes hx hread hitem hheld ⟨habort, hending, hhalt⟩
    have hframe := s.setThread_inShard h.val T.val (x.takesRecord (s.fwdFresh h.val it.gen (s.way h.val i).words) (s.way h.val i).words) ∅
    exact ⟨_, (congrArg (done s) htakes).trans (done_eq_next hframe.2.2 (by decide)), (s.thread_setThread _ _ _ _).trans (if_pos rfl),
      hframe.1, hframe.2.2⟩
  · exact (congrArg (done s) (auxAccessDone_takes hx haux ⟨habort, hending, hhalt⟩)).trans
      (done_eq_next (s.setThread_inShard h.val T.val _ ∅).2.2 (by decide))
  · have hgives := lockGrant_gives hlock
    obtain ⟨hgiven, hthread, hcount, hframe⟩ := s.lockGiven_leaves h.val l.val T q
    rw [← hx] at hthread
    generalize s.lockGiven h.val l.val T q = t at *
    rw [State.endWait_granted hthread hrunning ⟨habort, hending, hhalt⟩] at hgives
    have hall := hframe.trans ((t.setThread_inShard h.val T { x with
      sleep := .awake, lock := .acquired, locks := x.locks ++ [l.val] } _).parts (by simp))
    exact ⟨_, (congrArg (done s) hgives).trans (done_eq_next hall.2.2 (by decide)), (t.setThread_lock _ _ _ _).trans hgiven,
      (t.thread_setThread _ _ _ _).trans (if_pos rfl), hcount, hall.2.onlyRegs (by simp), hall.1, hall.2.2⟩
  · have hgives := lockGrant_gives hlock
    obtain ⟨hgiven, hthread, hcount, hframe⟩ := s.lockGiven_leaves h.val l.val T q
    rw [← hx] at hthread
    generalize s.lockGiven h.val l.val T q = t at *
    rw [State.endWait_halted (by rw [hthread]; exact hhalted) (by rw [hthread]; exact hdue), hthread] at hgives
    have hall := hframe.trans ((t.setThread_inShard h.val T { x with
      locks := x.locks ++ [l.val], due := some .granted } _).parts (by simp))
    exact ⟨_, (congrArg (done s) hgives).trans (done_eq_next hall.2.2 (by decide)), (t.setThread_lock _ _ _ _).trans hgiven,
      (t.thread_setThread _ _ _ _).trans (if_pos rfl), hall.2.onlyRegs (by simp), hall.1, hall.2.2⟩
  · have hwakes := timerFire_wakes hx harmed hdue hsleep hrunning ⟨habort, hending, hhalt⟩
    have hfired := s.setThread_inShard h.val T.val (x.fire s.clk.mono) {Reg.WRD_CNT h.val Cnt.WRD_WAKE_TIMER}
    have hreg : (s.setThread h.val T.val (x.fire s.clk.mono)).reg (Reg.WRD_CNT h.val Cnt.WRD_WAKE_TIMER)
        = s.reg (Reg.WRD_CNT h.val Cnt.WRD_WAKE_TIMER) := rfl
    generalize s.setThread h.val T.val (x.fire s.clk.mono) = t at *
    obtain ⟨hthread, hcount, -, hframe⟩ := t.setThread_wrdBump_leaves h.val T.val Cnt.WRD_WAKE_TIMER
      { x with armed := false, fired := false, sleep := .awake, wake := .timer }
    have hall := (hfired.parts (by simp)).trans hframe
    exact ⟨_, (congrArg (done s) hwakes).trans (done_eq_next hall.2.2 (by decide)), hthread, hcount.trans (by rw [hreg]),
      hall.2.onlyRegs (by simp), hall.1, hall.2.2⟩
  · have hwakes := eventWake_wakes hx hsleep hcount hrunning ⟨habort, hending, hhalt⟩
    obtain ⟨hthread, hwoken, -, hframe⟩ := s.setThread_wrdBump_leaves h.val T.val Cnt.WRD_WAKE_EVENT
      { x with sleep := .awake, wake := .event }
    exact ⟨_, (congrArg (done s) hwakes).trans (done_eq_next hframe.2.2 (by decide)), hthread, hwoken, hframe.2.onlyRegs (by simp),
      hframe.1, hframe.2.2⟩
  · have hcalm : ∀ i ∈ engineThreads e.val, (s.thread h.val i).calm := fun i hi => by
      have hstuck := State.stuck_of_cycles hcycles hi
      obtain ⟨j, hj, rfl⟩ := List.mem_map.1 hi
      obtain ⟨hending, hhalt⟩ := hends ⟨j, List.mem_range.1 hj⟩
      exact ⟨State.abort_of_stuck hstuck, hending, hhalt⟩
    have hbroken := s.waitsBroken_calmStep h.val e.val
    have hbreaks := deadlockBreak_breaks hup hcycles hcalm
    generalize s.waitsBroken h.val e.val = t at *
    obtain ⟨hseen, hcount, hshard⟩ := t.deadlockSeen_leaves h.val e.val (s.deadlockVictim h.val e.val)
    obtain ⟨u, hu, hushard, hureg⟩ := done_keeps s (deadlockBreak h.val e.val s)
    rw [hbreaks] at hushard hureg
    exact ⟨u, hu, (State.flag_of_reg (hureg _) _).trans hseen, (hureg _).trans (hcount.trans (by rw [hbroken.count])),
      fun g hg => (hushard g).trans ((hshard g).trans (hbroken.only g hg))⟩
  · obtain ⟨hheld, hengine, hthread, hcmd, hframe⟩ := lockRead_shows s h.val l.isLt
    rw [hlock] at hheld hengine hthread
    exact ⟨_, done_eq_next hframe.2 (by decide), hheld, hengine.trans (Nat.mod_eq_of_lt (by rw [Option.getD_some]; omega)), hthread, hcmd,
      hframe.onlyRegs (by simp), hframe.2⟩
  · obtain ⟨hheld, -, -, hcmd, hframe⟩ := lockRead_shows s h.val l.isLt
    rw [hlock] at hheld
    exact ⟨_, done_eq_next hframe.2 (by decide), hheld, hcmd, hframe.onlyRegs (by simp), hframe.2⟩
  · obtain ⟨hrow, hcount, hframe⟩ := mcScrub_corrected_leaves s h.val
    exact ⟨_, done_eq_next hframe.2.2 (by decide), hrow, hcount, hframe.1, hframe.2.2⟩
  · obtain ⟨hevents, hcount, hframe⟩ := evAdd_leaves s h.val m.val n.val
    exact ⟨_, done_eq_next hframe.2.2 (by decide), hevents, hcount, hframe.2.onlyRegs (by simp [evRegs]), hframe.1, hframe.2.2⟩

end Sys2Proof.Machine
end

section
/-! PROOF. Sequencing of work items (R152, R153): rules of a shard's order groups, and the item that the sequencer takes. -/

namespace Sys2Proof.Machine

/-! ### Order groups -/

section
variable {s t : State} {h : Nat}

theorem State.group_congr (heq : (t.shard h).groups = (s.shard h).groups) (g : Nat) : t.group h g = s.group h g := by
  rw [State.group, State.group, heq]

theorem State.complete_congr (heq : (t.shard h).groups = (s.shard h).groups) (it : Item) : t.complete h it = s.complete h it := by
  rw [State.complete, State.complete, State.group_congr heq]

theorem State.shard_setGroup (s : State) (h g : Nat) (x : Group) :
    (s.setGroup h g x).shard h = { s.shard h with groups := Tbl.set Group.init (s.shard h).groups g x } := s.shard_setShard_self h _

@[simp] theorem State.group_setGroup (s : State) (h g k : Nat) (x : Group) :
    (s.setGroup h g x).group h k = if k = g then x else s.group h k := by
  rw [State.group, State.shard_setGroup]
  exact Tbl.get_set _ _ _ _ _

theorem State.setGroup_inShard (s : State) (h g : Nat) (x : Group) (R : Set Nat) : s.inShard (s.setGroup h g x) h R [.shards] :=
  s.setShard_inShard h _ R

/-- The reorder-store entries of the item's group after a change of the item's own. -/
theorem State.modEntry_entries (s : State) (h : Nat) (it : Item) (f : RoEntry → RoEntry) :
    ((s.modEntry h it f).group h it.group).entries
      = (s.group h it.group).entries.map (fun e => if e.item.rank = it.rank then f e else e) := by
  rw [State.modEntry, State.group_setGroup, if_pos rfl]

theorem State.modEntry_inShard (s : State) (h : Nat) (it : Item) (f : RoEntry → RoEntry) (R : Set Nat) :
    s.inShard (s.modEntry h it f) h R [.shards] := s.setGroup_inShard h _ _ R

theorem State.ready_modEntry (s : State) (h : Nat) (it : Item) (f : RoEntry → RoEntry) :
    ((s.modEntry h it f).shard h).ready = (s.shard h).ready := by
  rw [State.modEntry, State.shard_setGroup]

end

/-! ### The input that the sequencer takes (R152) -/

/-- The inputs of a shard in the order of the rotation after the one served last. -/
def inputOrder (last : Nat) : List Nat := (List.range 17).map (fun i => (last + 1 + i) % 17)

theorem mem_inputOrder {last i : Nat} : i ∈ inputOrder last ↔ i < 17 := by
  simp only [inputOrder, List.mem_map, List.mem_range]
  constructor
  · rintro ⟨k, -, rfl⟩
    exact Nat.mod_lt _ (by decide)
  · exact fun hi => ⟨(i + 17 - (last + 1) % 17) % 17, Nat.mod_lt _ (by decide), by omega⟩

section
variable {s : State} {h i : Nat} {it : Item}

theorem State.inputWants_nil (hlacks : s.inputLacks h it = none) : s.inputWants h it = [] := List.head?_eq_none_iff.1 hlacks

/-- With one item at the inputs, and nothing that it lacks, the sequencer takes it and shows no want. -/
theorem sequencerTake_takes (hup : s.shardUp h = true) (hi : i < 17) (hhead : s.inputHead h i = some it)
    (halone : ∀ j, j < 17 → j ≠ i → s.inputHead h j = none) (haging : it.aging = false) (hlacks : s.inputLacks h it = none) :
    sequencerTake h s = (s.popInput h i).sequencePacket h it := by
  unfold sequencerTake
  rw [if_neg (by simp [hup])]
  extract_lets order shown
  have hshown : shown = s := by
    refine forEach_induct (fun t => t = s) order _ s rfl fun j t hj ht => ?_
    subst ht
    by_cases hji : j = i
    · rw [hji, hhead]
      dsimp only
      rw [State.inputWants_nil hlacks]
      rfl
    · rw [halone j (mem_inputOrder.1 hj) hji]
  rw [hshown]
  split
  · next hnone =>
    have hmissed := List.find?_eq_none.1 hnone i (mem_inputOrder.2 hi)
    simp [hhead, hlacks] at hmissed
  · next j hj =>
    have hready := List.find?_some hj
    by_cases hji : j = i
    · rw [hji, hhead]
      exact if_neg (by simp [haging])
    · rw [halone j (mem_inputOrder.1 (List.mem_of_find?_eq_some hj)) hji] at hready
      exact absurd hready (by simp)

/-- A pop of an input changes the inputs of the shard alone. -/
theorem State.shard_popInput (s : State) (h i : Nat) :
    ∃ l x, (s.popInput h i).shard h = { s.shard h with inputs := l, sweep := x, lastInput := i } := by
  unfold State.popInput
  dsimp only
  split
  · exact ⟨_, _, s.shard_setShard_self h _⟩
  · exact ⟨_, _, (State.shard_freeEntry _ _ _ _).trans (s.shard_setShard_self h _)⟩

theorem State.popInput_inShard (s : State) (h i : Nat) (R : Set Nat) : s.inShard (s.popInput h i) h R [.shards, .links] := by
  have hset (x : ShardSt) := (s.setShard_inShard h x R).parts (l' := [.shards, .links]) (by simp)
  unfold State.popInput
  dsimp only
  split
  · exact hset _
  · exact (hset _).trans ((State.freeEntry_inShard _ h _ _ R).parts (by simp))

end

/-! ### What a packet item gets (R153) -/

section
variable (s : State) (h : Nat) (it : Item)

/-- The deadline of a packet item of its class. -/
def State.deadlineOf : Nat := it.tsMono + s.fld (Reg.SCH_CLASS h it.cls) Fld.SCH_CLASS_BUDGET

/-- The item with its rank, its group's sequence number and its deadline. -/
def State.sequencedItem : Item :=
  { it with rank := (s.shard h).nextRank, seq := (s.group h it.group).nextSeq, late := false, deadline := s.deadlineOf h it }

/-- The group's next sequence number is used up by a new entry of the reorder store. -/
def State.groupTakes (x : Item) : State :=
  (s.setShard h { s.shard h with nextRank := (s.shard h).nextRank + 1 }).setGroup h it.group
    { s.group h it.group with
      nextSeq := ((s.group h it.group).nextSeq + 1) % 65536
      entries := (s.group h it.group).entries
        ++ [{ item := x, verdict := none, tableFull := false, stage := .none, route := .miss, acl := .miss }] }

/-- The item is counted and the reorder store's high mark is noted. -/
def State.countSequenced : State :=
  (s.schBump h Cnt.SCH_ITEMS_SEQUENCED).setFld (Reg.SCH_HIGH h) Fld.SCH_HIGH_REORDER_HIGH
    (max ((s.schBump h Cnt.SCH_ITEMS_SEQUENCED).fld (Reg.SCH_HIGH h) Fld.SCH_HIGH_REORDER_HIGH)
      ((s.schBump h Cnt.SCH_ITEMS_SEQUENCED).reorderUsed h))

/-- An item within its deadline joins the ready list. -/
theorem State.sequencePacket_enters (htime : s.clk.mono < s.deadlineOf h it) :
    s.sequencePacket h it = ((s.groupTakes h it (s.sequencedItem h it)).countSequenced h).enterReady h (s.sequencedItem h it) := by
  have hlate : decide (s.deadlineOf h it ≤ s.clk.mono) = false := decide_eq_false (by omega)
  unfold State.deadlineOf at hlate
  unfold State.sequencePacket
  dsimp only
  rw [hlate, if_neg (by simp)]
  rfl

theorem State.groupTakes_leaves (x : Item) (R : Set Nat) :
    ((s.groupTakes h it x).group h it.group).nextSeq = ((s.group h it.group).nextSeq + 1) % 65536
      ∧ ((s.groupTakes h it x).group h it.group).entries.length = (s.group h it.group).entries.length + 1
      ∧ ((s.groupTakes h it x).shard h).ready = (s.shard h).ready ∧ s.inShard (s.groupTakes h it x) h R [.shards] := by
  unfold State.groupTakes
  refine ⟨?_, ?_, ?_, (s.setShard_inShard h _ R).trans (State.setGroup_inShard _ h _ _ R)⟩
  · rw [State.group_setGroup, if_pos rfl]
  · rw [State.group_setGroup, if_pos rfl, List.length_append, List.length_singleton]
  · rw [State.shard_setGroup, State.shard_setShard_self]

/-- Registers that sequencing moves. -/
def sequencerRegs : Set Nat := {Reg.SCH_CNT h Cnt.SCH_ITEMS_SEQUENCED, Reg.SCH_HIGH h}

theorem schCnt_ne_schHigh (c : Nat) : Reg.SCH_CNT h c ≠ Reg.SCH_HIGH h := by
  simp only [Reg.SCH_CNT, Reg.SCH_HIGH]; omega

theorem State.countSequenced_leaves :
    (s.countSequenced h).reg (Reg.SCH_CNT h Cnt.SCH_ITEMS_SEQUENCED) = s.reg (Reg.SCH_CNT h Cnt.SCH_ITEMS_SEQUENCED) + 1
      ∧ (s.countSequenced h).shard h = s.shard h ∧ s.inShard (s.countSequenced h) h (sequencerRegs h) [.regs] := by
  have hcount := s.reg_bump_self (Reg.SCH_CNT h Cnt.SCH_ITEMS_SEQUENCED)
  have hframe : s.inShard (s.bump (Reg.SCH_CNT h Cnt.SCH_ITEMS_SEQUENCED)) h (sequencerRegs h) [.regs] :=
    s.bump_inShard h (by simp [sequencerRegs])
  refine ⟨?_, rfl, hframe.trans (State.setFld_inShard _ h (by simp [sequencerRegs]) _ _)⟩
  rw [State.countSequenced, State.reg_setFld, if_neg (schCnt_ne_schHigh h _)]
  exact hcount

theorem State.enterReady_leaves :
    (s.enterReady h it).shard h = { s.shard h with ready := (s.shard h).ready ++ [it] }
      ∧ s.inShard (s.enterReady h it) h {Reg.SCH_HIGH h} shardParts := by
  unfold State.enterReady
  exact ⟨s.shard_setShard_self h _, (((s.setShard_inShard h _ _).parts (by simp [shardParts])).trans
    ((State.useCredit_inShard _ h _ _ _).parts (by simp [shardParts]))).trans
      ((State.setFld_inShard _ h (Set.mem_singleton _) _ _).parts (by simp [shardParts]))⟩

/-- A packet item within its deadline: its rank, sequence number and deadline, its entry and its count (R153). -/
theorem State.sequencePacket_leaves (htime : s.clk.mono < s.deadlineOf h it) :
    ((s.sequencePacket h it).shard h).ready = (s.shard h).ready ++ [s.sequencedItem h it]
      ∧ ((s.sequencePacket h it).group h it.group).nextSeq = ((s.group h it.group).nextSeq + 1) % 65536
      ∧ ((s.sequencePacket h it).group h it.group).entries.length = (s.group h it.group).entries.length + 1
      ∧ (s.sequencePacket h it).reg (Reg.SCH_CNT h Cnt.SCH_ITEMS_SEQUENCED) = s.reg (Reg.SCH_CNT h Cnt.SCH_ITEMS_SEQUENCED) + 1
      ∧ s.inShard (s.sequencePacket h it) h (sequencerRegs h) shardParts := by
  rw [s.sequencePacket_enters h it htime]
  generalize s.sequencedItem h it = x
  obtain ⟨hseq, hlength, hready, htaken⟩ := s.groupTakes_leaves h it x (sequencerRegs h)
  have hreg : (s.groupTakes h it x).reg (Reg.SCH_CNT h Cnt.SCH_ITEMS_SEQUENCED) = s.reg (Reg.SCH_CNT h Cnt.SCH_ITEMS_SEQUENCED) := rfl
  generalize s.groupTakes h it x = t at *
  obtain ⟨hcount, hshard, hcounted⟩ := t.countSequenced_leaves h
  generalize t.countSequenced h = u at *
  obtain ⟨henter, hentered⟩ := u.enterReady_leaves h x
  have hgroup : (u.enterReady h x).group h it.group = t.group h it.group := State.group_congr (by rw [henter, hshard]) _
  refine ⟨?_, ?_, ?_, ?_, ((htaken.parts (by simp [shardParts])).trans (hcounted.parts (by simp [shardParts]))).trans
    (hentered.mono (by simp [sequencerRegs]) fun _ hp => hp)⟩
  · rw [henter, hshard, hready]
  · rw [hgroup, hseq]
  · rw [hgroup, hlength]
  · rw [hentered.reg_eq (schCnt_ne_schHigh h _), hcount, hreg]

end

/-- SEQUENCER_TAKE of the one waiting item, from what its input leaves behind. -/
theorem sequencerTake_leaves {s : State} {h i : Nat} {it : Item} (hup : s.shardUp h = true) (hi : i < 17)
    (hhead : s.inputHead h i = some it) (halone : ∀ j, j < 17 → j ≠ i → s.inputHead h j = none) (haging : it.aging = false)
    (hlacks : s.inputLacks h it = none) (htime : s.clk.mono < s.deadlineOf h it) :
    ((sequencerTake h s).shard h).ready = (s.shard h).ready ++ [s.sequencedItem h it]
      ∧ ((sequencerTake h s).group h it.group).nextSeq = ((s.group h it.group).nextSeq + 1) % 65536
      ∧ ((sequencerTake h s).group h it.group).entries.length = (s.group h it.group).entries.length + 1
      ∧ (sequencerTake h s).reg (Reg.SCH_CNT h Cnt.SCH_ITEMS_SEQUENCED) = s.reg (Reg.SCH_CNT h Cnt.SCH_ITEMS_SEQUENCED) + 1
      ∧ s.inShard (sequencerTake h s) h (sequencerRegs h) shardParts := by
  rw [sequencerTake_takes hup hi hhead halone haging hlacks]
  obtain ⟨inputs, sweep, hshard⟩ := s.shard_popInput h i
  have hpopped := s.popInput_inShard h i (sequencerRegs h)
  have hreg (a : Nat) : (s.popInput h i).reg a = s.reg a := (s.popInput_inShard h i ∅).reg_eq (Set.notMem_empty a)
  have hmono : (s.popInput h i).clk = s.clk := hpopped.2.2.clk_eq (by simp)
  generalize s.popInput h i = t at *
  have hgroup : t.group h it.group = s.group h it.group := State.group_congr (by rw [hshard]) _
  have hdeadline : t.deadlineOf h it = s.deadlineOf h it := by
    rw [State.deadlineOf, State.deadlineOf, State.fld_of_reg (hreg _)]
  have hitem : t.sequencedItem h it = s.sequencedItem h it := by
    rw [State.sequencedItem, State.sequencedItem, hshard, hgroup, hdeadline]
  have hleaves := t.sequencePacket_leaves h it (by rw [hmono, hdeadline]; exact htime)
  rw [hshard, hitem, hgroup, hreg] at hleaves
  obtain ⟨henters, hseq, hlength, hcount, hframe⟩ := hleaves
  exact ⟨henters, hseq, hlength, hcount, (hpopped.parts (by simp [shardParts])).trans hframe⟩

end Sys2Proof.Machine
end

section
/-! PROOF. Dispatch, expiry and resumption (R157 to R163): a work item that leaves the ready list or enters the resume queue. -/

namespace Sys2Proof.Machine

section
variable (s : State) (h i : Nat) (it : Item)

/-! ### An item that leaves the ready list -/

/-- The item is out of the ready list and its place there is given back. -/
def State.leavesReady : State :=
  (s.setShard h { s.shard h with ready := (s.shard h).ready.filter (fun y => y.rank != it.rank) }).freeEntry (lnkReady h) 1

theorem State.shard_leavesReady : (s.leavesReady h it).shard h
    = { s.shard h with ready := (s.shard h).ready.filter (fun y => y.rank != it.rank) } :=
  (State.shard_freeEntry _ _ _ _).trans (s.shard_setShard_self h _)

theorem State.leavesReady_inShard (R : Set Nat) : s.inShard (s.leavesReady h it) h R [.shards, .links] :=
  ((s.setShard_inShard h _ R).parts (by simp)).trans ((State.freeEntry_inShard _ h _ _ R).parts (by simp))

/-! ### Dispatch (R161) -/

/-- A fresh thread for an item, at the entry of its class. -/
def State.freshThread : Thread :=
  { Thread.init with
    item := some it
    pc := s.fld (Reg.SCH_CLASS h it.cls) (if it.aging then Fld.SCH_CLASS_AGE_ENTRY else Fld.SCH_CLASS_PROG_ENTRY) }

/-- Thread `i` has started the item. -/
def State.started : State :=
  (((s.leavesReady h it).setThread h i (s.freshThread h it)).schBump h Cnt.SCH_DISPATCHED).faeBump h Cnt.FAE_ITEMS_STARTED

/-- Registers that a dispatch moves. -/
def dispatchRegs : Set Nat := {Reg.SCH_CNT h Cnt.SCH_DISPATCHED, Reg.FAE_CNT h Cnt.FAE_ITEMS_STARTED}

theorem State.started_leaves :
    (s.started h i it).thread h i = s.freshThread h it
      ∧ ((s.started h i it).shard h).ready = (s.shard h).ready.filter (fun y => y.rank != it.rank)
      ∧ (s.started h i it).reg (Reg.SCH_CNT h Cnt.SCH_DISPATCHED) = s.reg (Reg.SCH_CNT h Cnt.SCH_DISPATCHED) + 1
      ∧ s.inShard (s.started h i it) h (dispatchRegs h) shardParts := by
  have hshard := s.shard_leavesReady h it
  have hleft := s.leavesReady_inShard h it (dispatchRegs h)
  have hreg : (s.leavesReady h it).reg (Reg.SCH_CNT h Cnt.SCH_DISPATCHED) = s.reg (Reg.SCH_CNT h Cnt.SCH_DISPATCHED) := rfl
  have hne : Reg.SCH_CNT h Cnt.SCH_DISPATCHED ≠ Reg.FAE_CNT h Cnt.FAE_ITEMS_STARTED := by
    simp only [Reg.SCH_CNT, Reg.FAE_CNT, Cnt.SCH_DISPATCHED, Cnt.FAE_ITEMS_STARTED]; omega
  unfold State.started
  generalize s.freshThread h it = x
  generalize s.leavesReady h it = t at *
  have hthread := (t.thread_setThread h i i x).trans (if_pos rfl)
  have hready : ((t.setThread h i x).shard h).ready = (t.shard h).ready := by rw [State.shard_setThread]
  have hset := t.setThread_inShard h i x (dispatchRegs h)
  have hkept : (t.setThread h i x).reg (Reg.SCH_CNT h Cnt.SCH_DISPATCHED) = t.reg (Reg.SCH_CNT h Cnt.SCH_DISPATCHED) := rfl
  generalize t.setThread h i x = u at *
  have hall := (hleft.parts (l' := shardParts) (by simp [shardParts])).trans (hset.parts (by simp [shardParts]))
  refine ⟨hthread, hready.trans (by rw [hshard]), ?_,
    (hall.trans ((u.bump_inShard h (by simp [dispatchRegs])).parts (by simp [shardParts]))).trans
      ((State.bump_inShard _ h (by simp [dispatchRegs])).parts (by simp [shardParts]))⟩
  rw [State.faeBump, State.reg_bump, if_neg hne, State.schBump, State.reg_bump_self, hkept, hreg]

variable {s h i it}

theorem dispatch_starts (hup : s.shardUp h = true) (hfirst : earliest ((s.shard h).ready ++ s.resumeItems h) = some it)
    (hthread : s.chooseThread h = some i) (hparked : s.parkedOf h it.rank = none) (e : Ecc) : dispatch h e s = s.started h i it := by
  unfold dispatch
  rw [if_neg (by simp [hup])]
  dsimp only
  rw [hfirst, hthread]
  dsimp only
  rw [hparked]
  rfl

/-! ### Expiry in the ready list (R157, R159) -/

theorem earliest_mem {l : List Item} {x : Item} (hx : earliest l = some x) : x ∈ l := by
  induction l with
  | nil => exact absurd hx (by simp [earliest])
  | cons y r ih =>
    unfold earliest at hx
    split at hx
    · exact List.mem_cons.2 (.inl (Option.some.inj hx).symm)
    · next z hz =>
      split at hx
      · exact List.mem_cons.2 (.inl (Option.some.inj hx).symm)
      · exact List.mem_cons_of_mem y (ih (hz.trans hx))

/-- The entry of an item that ends late has a verdict. -/
def RoEntry.ended (e : RoEntry) (v : Verdict) : RoEntry := if e.verdict.isSome then e else { e with verdict := some v }

theorem RoEntry.ended_verdict (e : RoEntry) (v : Verdict) : (e.ended v).verdict.isNone = false := by
  unfold RoEntry.ended
  cases hv : e.verdict with
  | none => rfl
  | some w => simp [hv]

/-- An item whose verdict has been decided is complete. -/
theorem State.decideItem_complete (haging : it.aging = false) (v : Verdict) : (s.decideItem h it v).complete h it = true := by
  have hentries := s.modEntry_entries h it (fun e => e.ended v)
  change ((s.decideItem h it v).group h it.group).entries = _ at hentries
  rw [State.complete, haging, hentries]
  simp only [Bool.not_false, Bool.true_and, Bool.not_eq_true', List.any_eq_false, List.mem_map, Bool.and_eq_true, beq_iff_eq, not_and,
    Bool.not_eq_true]
  rintro e ⟨d, -, rfl⟩ hrank
  split
  · exact d.ended_verdict v
  · next hne =>
    rw [if_neg hne] at hrank
    exact absurd hrank hne

/-- A packet item that is not complete ends: DEADLINE decides it and DEADLINE_MISS shows it. -/
theorem State.endItem_leaves (haging : it.aging = false) (hopen : s.complete h it = false) (why : EndReason) :
    (s.endItem h it why).complete h it = true ∧ (s.endItem h it why).flag (Reg.SCH_STATUS h) Fld.SCH_STATUS_DEADLINE_MISS = true
      ∧ ((s.endItem h it why).shard h).ready = (s.shard h).ready
      ∧ s.inShard (s.endItem h it why) h {Reg.SCH_STATUS h} [.regs, .shards] := by
  have hcomplete := State.decideItem_complete (s := s) (h := h) haging (.deadline why)
  have hready : ((s.decideItem h it (.deadline why)).shard h).ready = (s.shard h).ready := s.ready_modEntry h it _
  have hframe : s.inShard (s.decideItem h it (.deadline why)) h {Reg.SCH_STATUS h} [.shards] := s.modEntry_inShard h it _ _
  rw [State.endItem, if_neg (by simp [haging]), if_neg (by simp [hopen])]
  generalize s.decideItem h it (.deadline why) = t at *
  exact ⟨(State.complete_congr rfl it).trans hcomplete, t.flag_setFld_one _ (by unfold Fld.oneBit; decide), hready,
    (hframe.parts (by simp)).trans ((t.setFld_inShard h (Set.mem_singleton _) _ _).parts (by simp))⟩

/-- Items that may expire now. -/
def State.expiring (s : State) (h : Nat) : List Item :=
  (s.liveItems h).filter (fun x => decide (x.deadline ≤ s.clk.mono) && !s.complete h x && !s.expiryHeld h x)

theorem State.complete_of_expiring (hmem : it ∈ s.expiring h) : s.complete h it = false := by
  obtain ⟨-, hlate⟩ := List.mem_filter.1 hmem
  simp only [Bool.and_eq_true, Bool.not_eq_true'] at hlate
  obtain ⟨⟨-, hopen⟩, -⟩ := hlate
  exact hopen

theorem itemExpiry_expires (hup : s.shardUp h = true) (hfirst : earliest (s.expiring h) = some it)
    (hparked : s.parkedOf h it.rank = none) (hthread : s.threadOf h it.rank = none) (haging : it.aging = false) :
    itemExpiry h s = (s.leavesReady h it).endItem h it .expiredQueued := by
  unfold State.expiring at hfirst
  unfold itemExpiry
  rw [if_neg (by simp [hup]), hfirst]
  dsimp only
  rw [hparked]
  dsimp only
  rw [hthread]
  dsimp only
  rw [if_neg (by simp [haging])]
  rfl

theorem itemExpiry_leaves (hup : s.shardUp h = true) (hfirst : earliest (s.expiring h) = some it)
    (hparked : s.parkedOf h it.rank = none) (hthread : s.threadOf h it.rank = none) (haging : it.aging = false) :
    ((itemExpiry h s).shard h).ready = (s.shard h).ready.filter (fun y => y.rank != it.rank)
      ∧ (itemExpiry h s).complete h it = true ∧ (itemExpiry h s).flag (Reg.SCH_STATUS h) Fld.SCH_STATUS_DEADLINE_MISS = true
      ∧ s.inShard (itemExpiry h s) h {Reg.SCH_STATUS h} shardParts := by
  have hshard := s.shard_leavesReady h it
  have hleft := s.leavesReady_inShard h it {Reg.SCH_STATUS h}
  rw [itemExpiry_expires hup hfirst hparked hthread haging]
  generalize s.leavesReady h it = t at *
  have hopen : t.complete h it = false :=
    (State.complete_congr (by rw [hshard]) it).trans (State.complete_of_expiring (earliest_mem hfirst))
  obtain ⟨hcomplete, hmiss, hready, hframe⟩ := State.endItem_leaves haging hopen .expiredQueued
  exact ⟨hready.trans (by rw [hshard]), hcomplete, hmiss, (hleft.parts (by simp [shardParts])).trans (hframe.parts (by simp [shardParts]))⟩

/-! ### The resume queue (R163) -/

theorem resumeEnter_enters {p : Parked} (hfirst : (s.shard h).parked.find? (fun p => p.outcome.isSome && !p.queued) = some p) :
    resumeEnter h s = s.modParked h p.item.rank (fun q => { q with queued := true }) := by
  unfold resumeEnter
  rw [hfirst]

theorem State.modParked_leaves (s : State) (h r : Nat) (f : Parked → Parked) :
    ((s.modParked h r f).shard h).parked = (s.shard h).parked.map (fun q => if q.item.rank = r then f q else q)
      ∧ s.inShard (s.modParked h r f) h ∅ [.shards] :=
  ⟨congrArg ShardSt.parked (s.shard_setShard_self h _), s.setShard_inShard h _ ∅⟩

end

end Sys2Proof.Machine
end

section
/-! PROOF. Parking (R164, R282 to R286): an allocation of the buffer pools moves registers of chip-wide units and the pools' own
state, and a thread that is granted a park buffer is free. -/

namespace Sys2Proof.Machine

/-! ### Steps of the buffer pools -/

/-- Parts that an allocation and the store into a buffer may change. -/
def poolParts : List Part := [.regs, .dram, .fault, .pools]

/-- A step of the buffer pools: no register of slices, arrays or shards, no part but the pools, the DRAM tier and the collector. -/
def State.poolStep (s t : State) : Prop := s.within t lowRegs poolParts

theorem State.poolStep.refl (s : State) : s.poolStep s := State.within.refl s _ _

theorem State.poolStep.trans {s t u : State} (a : s.poolStep t) (b : t.poolStep u) : s.poolStep u := State.within.trans a b

theorem State.dramStep.poolStep {s t : State} (a : s.dramStep t) : s.poolStep t := a.parts (by simp [dramParts, poolParts])

/-- A pool step leaves every shard. -/
theorem State.poolStep.shard_eq {s t : State} (a : s.poolStep t) (g : Nat) : t.shard g = s.shard g :=
  State.within.shard_eq a (by simp [poolParts]) g

section
variable (s : State)

theorem State.setPools_poolStep (x : PoolSt) : s.poolStep { s with pools := x } :=
  ⟨fun _ _ => rfl, rfl, fun p hp => by
    cases p with
    | pools => exact absurd hp (by simp [poolParts])
    | _ => rfl⟩

theorem State.dramRead_poolStep (l : Nat) (fg : Bool) (e : Ecc) : s.poolStep (s.dramRead l fg e).2 := (s.dramRead_dramStep l fg e).poolStep

theorem State.dramWrite_poolStep (l : Nat) (b : List Byte) (fg : Bool) : s.poolStep (s.dramWrite l b fg).2 :=
  (s.dramWrite_within l b fg).parts (by simp [poolParts])

theorem State.countRmw_poolStep (l : Nat) : s.poolStep (s.countRmw l) := (s.countRmw_sameLines l).dramStep.poolStep

theorem State.bpmBump_poolStep {i : Nat} (hi : i < 24) : s.poolStep (s.bpmBump i) :=
  (s.bump_within (by simp only [mem_lowRegs, Reg.BPM_CNT]; omega)).parts (by simp [poolParts])

/-! ### Bytes of a buffer -/

theorem State.dramMerge_poolStep (l o : Nat) (b : List Byte) (fg : Bool) (e : Ecc) : s.poolStep (s.dramMerge l o b fg e).2 := by
  have hread := s.dramRead_poolStep l fg e
  unfold State.dramMerge
  dsimp only
  split
  · split
    · exact hread
    · next a hat => exact hread.trans (State.lostWrite_sameLines _ (State.locate_ch hat)).dramStep.poolStep
  · exact (hread.trans (State.countRmw_poolStep _ l)).trans (State.dramWrite_poolStep _ l _ fg)

theorem State.dramStore_poolStep (addr : Nat) (fg : Bool) (n : Nat) (b : List Byte) : s.poolStep (s.dramStore addr fg n b) := by
  induction n generalizing s addr b with
  | zero => exact .refl s
  | succ n ih =>
    cases b with
    | nil => exact .refl s
    | cons x r =>
      unfold State.dramStore
      extract_lets o k stored
      refine State.poolStep.trans (t := stored) ?_ (ih stored _ _)
      unfold stored
      split
      · exact s.dramWrite_poolStep _ _ _
      · exact s.dramMerge_poolStep _ _ _ _ _

theorem State.bufWrite_poolStep (ptr : Nat) (b : List Byte) : s.poolStep (s.bufWrite ptr b) := by
  unfold State.bufWrite
  split
  · exact s.setPools_poolStep _
  · exact s.dramStore_poolStep _ _ _ _

/-! ### Allocation (R282) -/

theorem State.metaRead_poolStep (ptr : Nat) (e : Ecc) : s.poolStep (s.metaRead ptr e).2 := by
  unfold State.metaRead
  split
  · cases e with
    | ok | uncorrectable => exact .refl s
    | corrected => exact s.bpmBump_poolStep (by decide)
  · dsimp only
    split <;> exact s.dramRead_poolStep _ _ _

theorem State.metaWrite_poolStep (ptr v : Nat) : s.poolStep (s.metaWrite ptr v) := by
  unfold State.metaWrite
  split
  · exact s.setPools_poolStep _
  · exact (s.countRmw_poolStep _).trans (State.dramWrite_poolStep _ _ _ _)

variable {p : Nat} (hp : p < 4)
include hp

theorem State.poolWithdraw_poolStep (n : Nat) : s.poolStep (s.poolWithdraw p n) := by
  have hcount : Reg.BPM_CNT (Cnt.BPM_WITHDRAWN + p) ∈ lowRegs := by
    simp only [mem_lowRegs, Reg.BPM_CNT, Cnt.BPM_WITHDRAWN]; omega
  exact ((s.setReg_within hcount _).trans (State.orFld_within _ (mem_lowRegs.2 (by decide)) _ _)).parts (by simp [poolParts])

theorem State.takePtr_poolStep (r q n : Nat) (e : Ecc) : s.poolStep (s.takePtr r q p n e).2 := by
  induction n generalizing s e with
  | zero => exact .refl s
  | succ n ih =>
    unfold State.takePtr
    extract_lets c
    split
    · exact .refl s
    · next ptr _ =>
      extract_lets taken read
      have hread : s.poolStep read.2 := (s.setPools_poolStep _).trans (taken.metaRead_poolStep ptr e)
      clear_value read
      split
      · exact (hread.trans (read.2.poolWithdraw_poolStep hp 1)).trans (ih _ _)
      · exact hread.trans (read.2.metaWrite_poolStep ptr _)

theorem State.poolAlloc_poolStep (r : Nat) (e : Ecc) : s.poolStep (s.poolAlloc r p e).2 := by
  have hask (t : State) (on : Bool) : t.poolStep (t.setAsk r p on) := t.setPools_poolStep _
  have hnone (t : State) : t.poolStep (t.poolNone r p) :=
    ((hask t false).trans (State.bpmBump_poolStep _ (by simp only [Cnt.BPM_POOL_EMPTY]; omega))).trans
      ((State.orFld_within _ (mem_lowRegs.2 (by decide)) _ _).parts (by simp [poolParts]))
  unfold State.poolAlloc
  extract_lets q t
  have htaken : s.poolStep t.2 := by
    unfold t
    split
    · exact .refl s
    · exact s.takePtr_poolStep hp _ _ _ _
  clear_value t
  split
  · exact hask s true
  · split
    · exact hnone s
    · split
      · exact ((htaken.trans (hask _ false)).trans (State.bpmBump_poolStep _ (by simp only [Cnt.BPM_ALLOC]; omega))).trans
          (State.setPools_poolStep _ _)
      · split
        · exact htaken.trans (hnone _)
        · exact htaken.trans (hask _ true)

end

/-! ### Parking (R164) -/

section
variable {s : State} {h i : Nat} {it : Item}

/-- A parked item without an outcome. -/
def Item.parkedAt (it : Item) (ptr : Nat) : Parked := { item := it, index := ptr, outcome := none, queued := false }

/-- A thread without an item, halted where it was halted or a halt waits for it. -/
def Thread.freed (x : Thread) : Thread := { Thread.init with halted := x.halted || x.haltReq.isSome, haltCause := x.haltReq.getD 0 }

/-- The shard takes the item to the park list and frees the thread. -/
def State.parks (s : State) (h i : Nat) (p : Parked) (x : Thread) : State :=
  (s.setShard h { s.shard h with parked := (s.shard h).parked ++ [p] }).setThread h i x.freed

theorem State.parks_leaves (s : State) (h i : Nat) (p : Parked) (x : Thread) :
    ((s.parks h i p x).thread h i).item = none ∧ ((s.parks h i p x).shard h).parked = (s.shard h).parked ++ [p]
      ∧ s.onlyShard (s.parks h i p x) h := by
  unfold State.parks
  refine ⟨?_, ?_, ((s.setShard_inShard h _ ∅).trans (State.setThread_inShard _ h i _ ∅)).1⟩
  · rw [State.thread_setThread, if_pos rfl]
    rfl
  · rw [State.shard_setThread, State.shard_setShard_self]

theorem State.park_parks {ptr : Nat} (hitem : (s.thread h i).item = some it) (hgrant : (s.poolAlloc h 1).1 = .granted ptr) :
    s.park h i = ((s.poolAlloc h 1).2.bufWrite ptr (it.bytes ++ (s.thread h i).context)).parks h i (it.parkedAt ptr) (s.thread h i) := by
  unfold State.park
  dsimp only
  rw [hitem]
  dsimp only
  rw [hgrant]
  rfl

/-- A retry in its turn, or one that waits for a refill, is an allocation. -/
theorem parkRetry_tries {since : Nat} (hup : s.shardUp h = true)
    (hwaits : (s.thread h i).read = .park since ∧ since + 32 ≤ s.clk.mono ∨ (s.thread h i).read = .poolWait) :
    parkRetry h i s = s.park h i := by
  unfold parkRetry
  obtain ⟨hread, hdue⟩ | hread := hwaits
  · rw [hread]
    exact if_neg (by simp [hup]; omega)
  · rw [hread]
    exact if_pos hup

theorem parkRetry_leaves {since ptr : Nat} (hup : s.shardUp h = true)
    (hwaits : (s.thread h i).read = .park since ∧ since + 32 ≤ s.clk.mono ∨ (s.thread h i).read = .poolWait)
    (hitem : (s.thread h i).item = some it) (hgrant : (s.poolAlloc h 1).1 = .granted ptr) :
    ((parkRetry h i s).thread h i).item = none ∧ ((parkRetry h i s).shard h).parked = (s.shard h).parked ++ [it.parkedAt ptr]
      ∧ s.onlyShard (parkRetry h i s) h := by
  rw [parkRetry_tries hup hwaits, State.park_parks hitem hgrant]
  have hstored := (s.poolAlloc_poolStep (p := 1) (by decide) h .ok).trans
    (State.bufWrite_poolStep _ ptr (it.bytes ++ (s.thread h i).context))
  generalize (s.poolAlloc h 1).2.bufWrite ptr _ = t at *
  obtain ⟨hfree, hparked, honly⟩ := t.parks_leaves h i (it.parkedAt ptr) (s.thread h i)
  exact ⟨hfree, hparked.trans (by rw [hstored.shard_eq]), fun g hg => (honly g hg).trans (hstored.shard_eq g)⟩

end

end Sys2Proof.Machine
end

section
/-! PROOF. Ordered release, the fallback router and GRP_CMD (R166 to R168, R173), and what the scheduler of a shard does. -/

namespace Sys2Proof.Machine

/-! ### A release that hands nothing over (R166, R168) -/

section
variable (s : State) (h : Nat) (e : RoEntry)

/-- An item's way out of the shard is counted apart from its release. -/
theorem State.leaveOf_cnt_ne : (s.leaveOf h e).2 ≠ Cnt.SCH_ITEMS_RELEASED := by
  unfold State.leaveOf
  dsimp only
  split
  · dsimp only
    decide
  · dsimp only
    decide
  · next why _ => cases why <;> (dsimp only; decide)
  · split_ifs <;> (dsimp only; decide)

theorem State.drainSub_rest (i gen : Nat) : s.onlyParts (s.drainSub i gen) [.regs] := by
  unfold State.drainSub
  split
  · exact s.onlyParts_refl _
  · exact s.setFld_rest _ _ _

theorem State.reg_drainSub {i a : Nat} (gen : Nat) (ha : ∀ k < 4, a ≠ Reg.SLC_GEN_DRAIN i k) : (s.drainSub i gen).reg a = s.reg a := by
  unfold State.drainSub
  split
  · rfl
  · next k hk =>
    have hlt : k < 4 := List.mem_range.1 (List.mem_of_find?_eq_some hk)
    exact (State.reg_setFld _ _ _ _ _).trans (if_neg (ha k hlt))

theorem schCnt_ne {c d : Nat} (hcd : c ≠ d) : Reg.SCH_CNT h c ≠ Reg.SCH_CNT h d := by
  simp only [Reg.SCH_CNT]; omega

/-- The head of the group is out, and its slice's drain count is one less. -/
def State.headOut : State :=
  (s.setGroup h e.item.group { s.group h e.item.group with
    entries := (s.group h e.item.group).entries.drop 1
    nextRel := ((s.group h e.item.group).nextRel + 1) % 65536 }).drainSub e.item.srcSlice e.item.gen

/-- The release is counted, with the way the item leaves, and when it is late. -/
def State.countRelease (cnt : Nat) : State :=
  if e.item.deadline ≤ ((s.schBump h Cnt.SCH_ITEMS_RELEASED).schBump h cnt).clk.mono
  then ((s.schBump h Cnt.SCH_ITEMS_RELEASED).schBump h cnt).schBump h Cnt.SCH_LATE_RELEASE
  else (s.schBump h Cnt.SCH_ITEMS_RELEASED).schBump h cnt

/-- The release unit notes the group and the cycle. -/
def State.noteRelease : State :=
  s.setShard h { s.shard h with
    lastGroup := e.item.group, relAt := s.clk.mono, relCount := if s.sameCycle h then (s.shard h).relCount + 1 else 1 }

theorem State.releaseSlot_eq (cnt : Nat) : s.releaseSlot h e cnt = ((s.headOut h e).countRelease h e cnt).noteRelease h e := rfl

theorem State.headOut_leaves :
    ((s.headOut h e).group h e.item.group).nextRel = ((s.group h e.item.group).nextRel + 1) % 65536
      ∧ ((s.headOut h e).group h e.item.group).entries = (s.group h e.item.group).entries.drop 1
      ∧ (s.headOut h e).reg (Reg.SCH_CNT h Cnt.SCH_ITEMS_RELEASED) = s.reg (Reg.SCH_CNT h Cnt.SCH_ITEMS_RELEASED)
      ∧ s.onlyShard (s.headOut h e) h := by
  unfold State.headOut
  generalize hx : ({ s.group h e.item.group with
    entries := (s.group h e.item.group).entries.drop 1
    nextRel := ((s.group h e.item.group).nextRel + 1) % 65536 } : Group) = x
  have hgroup := (s.group_setGroup h e.item.group e.item.group x).trans (if_pos rfl)
  have honly := (s.setGroup_inShard h e.item.group x ∅).1
  have hreg (a : Nat) : (s.setGroup h e.item.group x).reg a = s.reg a := rfl
  generalize s.setGroup h e.item.group x = t at *
  have hdrain := t.drainSub_rest e.item.srcSlice e.item.gen
  rw [State.group_congr (congrArg ShardSt.groups (hdrain.shard_eq (by simp) h)), hgroup, ← hx]
  refine ⟨rfl, rfl, ?_, fun g hg => (hdrain.shard_eq (by simp) g).trans (honly g hg)⟩
  rw [t.reg_drainSub _ fun k hk => by simp only [Reg.SCH_CNT, Reg.SLC_GEN_DRAIN, Cnt.SCH_ITEMS_RELEASED]; omega, hreg]

theorem State.countRelease_leaves {cnt : Nat} (hcnt : cnt ≠ Cnt.SCH_ITEMS_RELEASED) :
    (s.countRelease h e cnt).reg (Reg.SCH_CNT h Cnt.SCH_ITEMS_RELEASED) = s.reg (Reg.SCH_CNT h Cnt.SCH_ITEMS_RELEASED) + 1
      ∧ ∀ g, (s.countRelease h e cnt).shard g = s.shard g := by
  have hcount := s.reg_bump_self (Reg.SCH_CNT h Cnt.SCH_ITEMS_RELEASED)
  have hshard (t : State) (c g : Nat) : (t.schBump h c).shard g = t.shard g := t.shard_bump _ g
  have hother (t : State) {c : Nat} (hc : c ≠ Cnt.SCH_ITEMS_RELEASED) :
      (t.schBump h c).reg (Reg.SCH_CNT h Cnt.SCH_ITEMS_RELEASED) = t.reg (Reg.SCH_CNT h Cnt.SCH_ITEMS_RELEASED) :=
    (t.reg_bump _ _).trans (if_neg (schCnt_ne h hc.symm))
  have hleft : ((s.schBump h Cnt.SCH_ITEMS_RELEASED).schBump h cnt).reg (Reg.SCH_CNT h Cnt.SCH_ITEMS_RELEASED)
      = s.reg (Reg.SCH_CNT h Cnt.SCH_ITEMS_RELEASED) + 1 := (hother _ hcnt).trans hcount
  have hkept (g : Nat) : ((s.schBump h Cnt.SCH_ITEMS_RELEASED).schBump h cnt).shard g = s.shard g := by rw [hshard, hshard]
  unfold State.countRelease
  generalize (s.schBump h Cnt.SCH_ITEMS_RELEASED).schBump h cnt = t at *
  split
  · exact ⟨(hother t (by decide)).trans hleft, fun g => (hshard t _ g).trans (hkept g)⟩
  · exact ⟨hleft, hkept⟩

/-- What the release of the head of a group leaves in the shard. -/
structure State.headReleased (s t : State) (h g : Nat) : Prop where
  nextRel : (t.group h g).nextRel = ((s.group h g).nextRel + 1) % 65536
  entries : (t.group h g).entries = (s.group h g).entries.drop 1
  last : (t.shard h).lastGroup = g
  count : t.reg (Reg.SCH_CNT h Cnt.SCH_ITEMS_RELEASED) = s.reg (Reg.SCH_CNT h Cnt.SCH_ITEMS_RELEASED) + 1
  only : s.onlyShard t h

theorem State.releaseSlot_headReleased {cnt : Nat} (hcnt : cnt ≠ Cnt.SCH_ITEMS_RELEASED) :
    s.headReleased (s.releaseSlot h e cnt) h e.item.group := by
  rw [State.releaseSlot_eq]
  obtain ⟨hrel, hentries, hreg, honly⟩ := s.headOut_leaves h e
  generalize s.headOut h e = t at *
  obtain ⟨hcount, hshard⟩ := t.countRelease_leaves h e hcnt
  generalize t.countRelease h e cnt = u at *
  have hnoted : (u.noteRelease h e).shard h = _ := u.shard_setShard_self h _
  have hgroup : (u.noteRelease h e).group h e.item.group = t.group h e.item.group := State.group_congr (by rw [hnoted, hshard]) _
  exact ⟨by rw [hgroup, hrel], by rw [hgroup, hentries], by rw [hnoted], hcount.trans (by rw [hreg]),
    fun g hg => ((u.setShard_inShard h _ ∅).1 g hg).trans ((hshard g).trans (honly g hg))⟩

/-- Cells given back leave the shards and their counters. -/
theorem State.headReleased.release {s t : State} {h g : Nat} (a : s.headReleased t h g) (head cnt : Nat) :
    s.headReleased (t.release head cnt) h g := by
  obtain ⟨hparts, hregs⟩ := t.release_gaveBack head cnt
  have hshard (k : Nat) : (t.release head cnt).shard k = t.shard k := hparts.shard_eq (by simp [releaseParts]) k
  have hcount := hregs (Reg.SCH_CNT h Cnt.SCH_ITEMS_RELEASED) (by
    simp only [releaseRegs, Reg.SCH_CNT, Reg.FLT_CNT, Reg.BUF_STATUS, Reg.BUF_CNT, Cnt.SCH_ITEMS_RELEASED, Cnt.FLT_SRC_OVF_LOST,
      Cnt.BUF_CELLS_FREED, Cnt.BUF_WITHDRAWN_CELLS, List.mem_cons, List.not_mem_nil, or_false]
    omega)
  have hgroup : (t.release head cnt).group h g = t.group h g := State.group_congr (by rw [hshard]) g
  exact ⟨by rw [hgroup, a.nextRel], by rw [hgroup, a.entries], by rw [hshard, a.last], hcount.trans a.count,
    fun k hk => (hshard k).trans (a.only k hk)⟩

variable {s h e}

/-- A head that nothing is handed over for gives its cells back. -/
theorem itemRelease_frees (hup : s.shardUp h = true) (hnext : s.releasable h = some e)
    (hplan : s.releasePlan h e = some (.free false)) :
    itemRelease h s = (s.releaseSlot h e (s.leaveOf h e).2).release e.item.cellHead e.item.cellCnt := by
  unfold itemRelease
  rw [if_neg (by simp [hup]), hnext]
  dsimp only
  unfold State.releaseHead
  dsimp only
  rw [hplan]
  rfl

theorem itemRelease_headReleased (hup : s.shardUp h = true) (hnext : s.releasable h = some e)
    (hplan : s.releasePlan h e = some (.free false)) : s.headReleased (itemRelease h s) h e.item.group := by
  rw [itemRelease_frees hup hnext hplan]
  exact (s.releaseSlot_headReleased h e (s.leaveOf_cnt_ne h e)).release _ _

/-! ### The fallback router (R167) -/

/-- The entry with the stage of the fallback unit that it has reached. -/
def RoEntry.atStage (x : RoEntry) (st : FbStage) : RoEntry := { x with stage := st }

theorem fallbackRoute_punts (hup : s.shardUp h = true) (hidle : s.fbBusy h = false) (hwork : s.fbWork h = some e)
    (hstage : e.stage = .none) (hkey : routeKey e.item.hv e.item.summary = none) :
    fallbackRoute h s = s.modEntry h e.item (fun x => x.atStage .punt) := by
  unfold fallbackRoute
  rw [if_neg (by simp [hup, hidle]), hwork]
  dsimp only
  rw [hstage, hkey]
  rfl

/-- A routable item: its entry waits, and requester 4 to 7 of the quadrant's Tumbler presents the search. -/
theorem fallbackRoute_asks {n : Nat} {key : BitVec 320} (hup : s.shardUp h = true) (hidle : s.fbBusy h = false)
    (hwork : s.fbWork h = some e) (hstage : e.stage = .none) (hkey : routeKey e.item.hv e.item.summary = some (n, key)) :
    fallbackRoute h s = (s.modEntry h e.item (fun x => x.atStage .waitRoute)).askSearch (h / 4) (4 + h % 4)
      { table := n, key := key, gen := e.item.gen, client := .fallback } := by
  unfold fallbackRoute
  rw [if_neg (by simp [hup, hidle]), hwork]
  dsimp only
  rw [hstage, hkey]
  rfl

theorem State.askSearch_leaves (s : State) (q r : Nat) (x : SearchReq) :
    Tbl.get [] (s.askSearch q r x).tmb.searches (8 * q + r) = Tbl.get [] s.tmb.searches (8 * q + r) ++ [x]
      ∧ s.within (s.askSearch q r x) ∅ [.tmb] :=
  ⟨(Tbl.get_set _ _ _ _ _).trans (if_pos rfl), fun _ _ => rfl, (s.setTmb_confined _ []).2⟩

/-! ### GRP_CMD (R173) -/

/-- HEAD_STATE is one of six values. -/
theorem State.headState_lt (s : State) (h : Nat) (x : Group) : s.headState h x < 2 ^ Fld.SCH_GRP_DATA_HEAD_STATE.len := by
  unfold State.headState
  split
  · decide
  · split
    · decide
    · split
      · split <;> decide
      · split
        · split <;> decide
        · decide

/-- GRP_CMD names the group. -/
def State.groupNamed (s : State) (h g : Nat) : State := s.setFld (Reg.SCH_GRP_CMD h) Fld.SCH_GRP_CMD_GROUP g

theorem State.groupNamed_within (s : State) (h g : Nat) : s.within (s.groupNamed h g) {Reg.SCH_GRP_CMD h} [.regs] :=
  s.setFld_within (Set.mem_singleton _) _ _

/-- The size of the shard's table does not stand in GRP_CMD. -/
theorem State.bucketBits_groupNamed (s : State) (h g : Nat) : (s.groupNamed h g).bucketBits h = s.bucketBits h :=
  State.fld_setFld_other _ _ _ _ _ _ (by simp only [Reg.HNK_CFG, Reg.SCH_GRP_CMD]; omega)

theorem grpRead_refuses {g : Nat} (hbeyond : 2 ^ s.bucketBits h ≤ g) :
    grpRead h g s = (s.groupNamed h g).setFld (Reg.SCH_GRP_CMD h) Fld.SCH_GRP_CMD_ERR 1 := by
  rw [← s.bucketBits_groupNamed h g] at hbeyond
  exact if_pos hbeyond

/-- GRP_DATA shows a group. -/
def State.showGroup (s : State) (h : Nat) (x : Group) (head : Nat) : State :=
  ((((s.setFld (Reg.SCH_GRP_DATA h) Fld.SCH_GRP_DATA_NEXT_SEQ x.nextSeq).setFld (Reg.SCH_GRP_DATA h) Fld.SCH_GRP_DATA_NEXT_REL
    x.nextRel).setFld (Reg.SCH_GRP_DATA h) Fld.SCH_GRP_DATA_OUTSTANDING x.outstanding).setFld (Reg.SCH_GRP_DATA h)
    Fld.SCH_GRP_DATA_HEAD_STATE head).setFld (Reg.SCH_GRP_DATA h) Fld.SCH_GRP_DATA_DL_HELD (bit x.heldSince.isSome)

theorem grpRead_shows {g : Nat} (hwithin : g < 2 ^ s.bucketBits h) :
    grpRead h g s = (s.groupNamed h g).showGroup h (s.group h g) (s.headState h (s.group h g)) := by
  rw [← s.bucketBits_groupNamed h g] at hwithin
  exact if_neg (Nat.not_le.2 hwithin)

theorem State.showGroup_leaves (s : State) (h : Nat) (x : Group) {head : Nat} (hhead : head < 2 ^ Fld.SCH_GRP_DATA_HEAD_STATE.len) :
    (s.showGroup h x head).fld (Reg.SCH_GRP_DATA h) Fld.SCH_GRP_DATA_NEXT_SEQ = x.nextSeq % 2 ^ Fld.SCH_GRP_DATA_NEXT_SEQ.len
      ∧ (s.showGroup h x head).fld (Reg.SCH_GRP_DATA h) Fld.SCH_GRP_DATA_NEXT_REL = x.nextRel % 2 ^ Fld.SCH_GRP_DATA_NEXT_REL.len
      ∧ (s.showGroup h x head).fld (Reg.SCH_GRP_DATA h) Fld.SCH_GRP_DATA_HEAD_STATE = head
      ∧ (s.showGroup h x head).flag (Reg.SCH_GRP_DATA h) Fld.SCH_GRP_DATA_DL_HELD = x.heldSince.isSome
      ∧ s.within (s.showGroup h x head) {Reg.SCH_GRP_DATA h} [.regs] := by
  have hset (t : State) (f : Fld) (v : Nat) : t.within (t.setFld (Reg.SCH_GRP_DATA h) f v) {Reg.SCH_GRP_DATA h} [.regs] :=
    t.setFld_within (Set.mem_singleton _) f v
  unfold State.showGroup
  refine ⟨?_, ?_, ?_, State.flag_setFld_bit _ _ (by unfold Fld.oneBit; decide) _,
    ((((hset _ _ _).trans (hset _ _ _)).trans (hset _ _ _)).trans (hset _ _ _)).trans (hset _ _ _)⟩
  · rw [State.fld_setFld_apart _ _ _ _ _ (by unfold Fld.apart; decide), State.fld_setFld_apart _ _ _ _ _ (by unfold Fld.apart; decide),
      State.fld_setFld_apart _ _ _ _ _ (by unfold Fld.apart; decide), State.fld_setFld_apart _ _ _ _ _ (by unfold Fld.apart; decide)]
    exact State.fld_setFld_self _ _ _ _ (by decide)
  · rw [State.fld_setFld_apart _ _ _ _ _ (by unfold Fld.apart; decide), State.fld_setFld_apart _ _ _ _ _ (by unfold Fld.apart; decide),
      State.fld_setFld_apart _ _ _ _ _ (by unfold Fld.apart; decide)]
    exact State.fld_setFld_self _ _ _ _ (by decide)
  · rw [State.fld_setFld_apart _ _ _ _ _ (by unfold Fld.apart; decide)]
    exact State.fld_setFld_fits _ _ (by decide) hhead

end

/-! ### The obligation -/

/-- Settles O27: each command is followed to the item, the group or the registers that it moves. -/
theorem schedulerSteps : Obligations.SchedulerSteps := by
  refine ⟨fun s h i it hup hi hhead halone haging hlacks htime => ?_, fun s h e it T hup hfirst hthread hparked => ?_,
    fun s h it hup hfirst hparked hthread haging => ?_, fun s h T since ptr it hup hwaits hitem hgrant => ?_, fun s h p hfirst => ?_,
    fun s h e hup hnext hplan => ?_, fun s h e hup hidle hwork hstage hkey => ?_, fun s h e n key hup hidle hwork hstage hkey => ?_,
    fun s h g hwithin => ?_, fun s h g hbeyond => ?_⟩
  · obtain ⟨hready, hseq, hlength, hcount, hframe⟩ := sequencerTake_leaves hup hi hhead halone haging hlacks htime
    exact ⟨_, done_eq_next hframe.2.2 (by decide), hready, hseq, hlength, hcount, hframe.2.onlyRegs (by simp [sequencerRegs]), hframe.1,
      hframe.2.2⟩
  · obtain ⟨hfresh, hready, hcount, hframe⟩ := s.started_leaves h.val T it
    exact ⟨_, (congrArg (done s) (dispatch_starts hup hfirst hthread hparked e)).trans (done_eq_next hframe.2.2 (by decide)), hfresh,
      hready, hcount, hframe.2.onlyRegs (by simp [dispatchRegs]), hframe.1, hframe.2.2⟩
  · obtain ⟨hready, hcomplete, hmiss, hframe⟩ := itemExpiry_leaves hup hfirst hparked hthread haging
    exact ⟨_, done_eq_next hframe.2.2 (by decide), hready, hcomplete, hmiss, hframe.2.onlyRegs (by simp), hframe.1, hframe.2.2⟩
  · obtain ⟨hfree, hlist, honly⟩ := parkRetry_leaves hup hwaits hitem hgrant
    obtain ⟨u, hu, hshard, -⟩ := done_keeps s (parkRetry h.val T.val s)
    exact ⟨u, hu, (congrArg Thread.item (State.thread_congr (by rw [hshard]) _)).trans hfree, by rw [hshard, hlist]; rfl,
      fun g hg => (hshard g).trans (honly g hg)⟩
  · obtain ⟨hlist, hframe⟩ := s.modParked_leaves h.val p.item.rank (fun q => { q with queued := true })
    exact ⟨_, (congrArg (done s) (resumeEnter_enters hfirst)).trans (done_eq_next hframe.2.2 (by decide)), hlist, hframe.1, hframe.2.2⟩
  · have hreleased := itemRelease_headReleased hup hnext hplan
    obtain ⟨u, hu, hshard, hreg⟩ := done_keeps s (itemRelease h.val s)
    have hgroup := State.group_congr (congrArg ShardSt.groups (hshard h.val)) e.item.group
    exact ⟨u, hu, by rw [hgroup, hreleased.nextRel], by rw [hgroup, hreleased.entries], by rw [hshard, hreleased.last],
      (hreg _).trans hreleased.count, fun g hg => (hshard g).trans (hreleased.only g hg)⟩
  · have hframe := s.modEntry_inShard h.val e.item (fun x => x.atStage .punt) ∅
    exact ⟨_, (congrArg (done s) (fallbackRoute_punts hup hidle hwork hstage hkey)).trans (done_eq_next hframe.2.2 (by decide)),
      s.modEntry_entries h.val e.item _, hframe.1, hframe.2.2⟩
  · have hasks := fallbackRoute_asks hup hidle hwork hstage hkey
    have hentries := s.modEntry_entries h.val e.item (fun x => x.atStage .waitRoute)
    have hset := s.modEntry_inShard h.val e.item (fun x => x.atStage .waitRoute) ∅
    have htmb : (s.modEntry h.val e.item (fun x => x.atStage .waitRoute)).tmb = s.tmb := rfl
    generalize s.modEntry h.val e.item (fun x => x.atStage .waitRoute) = t at *
    obtain ⟨hsearch, hframe⟩ := t.askSearch_leaves (h.val / 4) (4 + h.val % 4)
      { table := n, key := key, gen := e.item.gen, client := .fallback }
    have hall := (hset.parts (l' := [.shards, .tmb]) (by simp)).trans ((hframe.inShard (by simp) h.val).parts (by simp))
    exact ⟨_, (congrArg (done s) hasks).trans (done_eq_next hall.2.2 (by decide)),
      by rw [State.group_congr (congrArg ShardSt.groups (hframe.shard_eq (by simp) h.val)), hentries]; rfl, hsearch.trans (by rw [htmb]),
      hall.1, hall.2.2⟩
  · obtain ⟨hseq, hrel, hhead, hheld, hshown⟩ := (s.groupNamed h.val g.val).showGroup_leaves h.val (s.group h.val g.val)
      (s.headState_lt h.val (s.group h.val g.val))
    have hframe := ((s.groupNamed_within h.val g.val).mono (R' := {Reg.SCH_GRP_CMD h.val, Reg.SCH_GRP_DATA h.val}) (by simp)
      fun _ hp => hp).trans (hshown.mono (by simp) fun _ hp => hp)
    exact ⟨_, (congrArg (done s) (grpRead_shows hwithin)).trans (done_eq_next hframe.2 (by decide)), hseq, hrel, hhead, hheld,
      hframe.onlyRegs (by simp), hframe.2⟩
  · have hframe := (s.groupNamed_within h.val g.val).trans
      (State.setFld_within _ (Set.mem_singleton _) Fld.SCH_GRP_CMD_ERR 1)
    exact ⟨_, (congrArg (done s) (grpRead_refuses hbeyond)).trans (done_eq_next hframe.2 (by decide)),
      State.flag_setFld_one _ _ (by unfold Fld.oneBit; decide), hframe.onlyRegs (by simp), hframe.2⟩

end Sys2Proof.Machine
end

section
/-! PROOF. Microwords that name the first ALU alone (R180, R181, R186): their fields, their issue, and what it leaves. -/

namespace Sys2Proof.Machine

/-! ### Fields -/

/-- The microword that names at most the first ALU and the immediate (R180). -/
def aluWord (f imm : Nat) : Microword := BitVec.ofNat 192 (f * 2 ^ 144 + imm * 2 ^ 32)

section
variable {f imm : Nat} (hf : f < 65536) (himm : imm < 2 ^ 32)
include hf himm

theorem aluWord_toNat : (aluWord f imm).toNat = f * 2 ^ 144 + imm * 2 ^ 32 := by
  rw [aluWord, BitVec.toNat_ofNat, Nat.mod_eq_of_lt (by omega)]

/-- Bits outside ALUA and IMM are zero. -/
theorem mw_aluWord_zero (lo len : Nat) (h : lo + len ≤ 32 ∨ 64 ≤ lo ∧ lo + len ≤ 144 ∨ 160 ≤ lo) : mw (aluWord f imm) lo len = 0 := by
  rw [mw, aluWord_toNat hf himm, ← Nat.mod_mul_right_div_self, ← Nat.pow_add]
  obtain hlow | ⟨hlo, hhi⟩ | hhigh := h
  · have hdvd : 2 ^ (lo + len) ∣ f * 2 ^ 144 + imm * 2 ^ 32 :=
      dvd_add (Dvd.dvd.mul_left (pow_dvd_pow 2 (by omega)) f) (Dvd.dvd.mul_left (pow_dvd_pow 2 hlow) imm)
    rw [Nat.mod_eq_zero_of_dvd hdvd, Nat.zero_div]
  · have hdvd : 2 ^ (lo + len) ∣ f * 2 ^ 144 := Dvd.dvd.mul_left (pow_dvd_pow 2 hhi) f
    have hpow : 2 ^ 64 ≤ 2 ^ lo := Nat.pow_le_pow_right (by decide) hlo
    rw [Nat.add_mod, Nat.mod_eq_zero_of_dvd hdvd, Nat.zero_add, Nat.mod_mod]
    exact Nat.div_eq_of_lt ((Nat.mod_le _ _).trans_lt (by omega))
  · have hpow : 2 ^ 160 ≤ 2 ^ lo := Nat.pow_le_pow_right (by decide) hhigh
    exact Nat.div_eq_of_lt ((Nat.mod_le _ _).trans_lt (by omega))

theorem mwAluA_aluWord : mwAluA (aluWord f imm) = f := by
  rw [mwAluA, mw, aluWord_toNat hf himm]
  omega

theorem mwImm_aluWord : mwImm (aluWord f imm) = imm := by
  rw [mwImm, mw, aluWord_toNat hf himm]
  omega

end

/-! ### Issue -/

/-- A thread whose microword has named only the first ALU, but for the register that it writes (R181, R186): a step asks for the halt
that follows it (R205). -/
def Thread.pastAlu (x : Thread) (f imm : Nat) : Thread :=
  { x with pc := x.pc + 1, fa := (x.alu f imm x.fa).2, bpSkip := false, ending := false, stepping := false
           haltReq := if x.stepping then some 4 else none }

/-- The thread with that register. -/
def Thread.afterAlu (x : Thread) (f imm : Nat) : Thread := (x.pastAlu f imm).putG [(x.alu f imm x.fa).1]

/-- An issue is counted, and the halt that it asks for. -/
def State.countIssue (s : State) (h : Nat) (halts : Bool) : State :=
  if halts then (s.faeBump h Cnt.FAE_ISSUED).faeBump h Cnt.FAE_DEBUG_HALTS else s.faeBump h Cnt.FAE_ISSUED

/-- What an issue that names only the first ALU makes of its shard, up to the thread's boundary. -/
def State.issuedAlu (s : State) (h i : Nat) (x : Thread) (f imm : Nat) : State :=
  ((s.setThread h i (x.pastAlu f imm)).countIssue h x.stepping).setThread h i (x.afterAlu f imm)

/-- A control-store word has been read, with or without a single-bit error (R207). -/
def State.mcRead (s : State) (h : Nat) (c : McCheck) : State := if c = .corrected then s.mcCorrected h else s

/-- Registers that an issue moves. -/
def issueRegs (h : Nat) : Set Nat :=
  {Reg.FAE_CNT h Cnt.FAE_ISSUED, Reg.FAE_CNT h Cnt.FAE_MC_ECC_CORRECTED, Reg.FAE_STATUS h}

theorem Thread.alu_none (x : Thread) (imm : Nat) (old : AluFlags) : x.alu 0 imm old = (none, old) := rfl

/-! ### Units that a microword does not name -/

section
variable (s : State) (h i : Nat) (it : Item) (x : Thread) {m : Microword}

theorem State.issueRec_idle (hop : mwRecOp m = 0) : s.issueRec h i it x m = s := by
  unfold State.issueRec
  rw [hop]
  rfl

theorem State.recLocal_idle (hop : mwRecOp m = 0) : s.recLocal h it x m = (x, none) := by
  unfold State.recLocal
  rw [hop]
  rfl

theorem State.issueLock_idle (l : Nat) (fired : Bool) : s.issueLock h i 0 l fired = s := rfl

theorem State.issueChn_idle (hop : mwChnOp m = 0) : s.issueChn h i it x m = (s, none) := by
  unfold State.issueChn
  rw [hop]
  rfl

theorem State.issueTmr_idle (seen : Word64) (hop : mwTmrOp m = 0) : s.issueTmr h i it x m seen = s := by
  unfold State.issueTmr
  rw [hop]
  rfl

theorem Thread.hdr_idle (hop : mwHdrOp m = 0) : x.hdr m = x := by
  unfold Thread.hdr
  rw [hop]
  rfl

end

theorem faeCnt_ne {h c d : Nat} (hne : c ≠ d) : Reg.FAE_CNT h c ≠ Reg.FAE_CNT h d := by
  simp only [Reg.FAE_CNT]
  omega

theorem State.thread_countIssue (s : State) (h i : Nat) (halts : Bool) : (s.countIssue h halts).thread h i = s.thread h i := by
  cases halts <;> rfl

/-- The register is written last, to the thread as the counters left it. -/
theorem State.issuedAlu_eq (s : State) (h i : Nat) (x : Thread) (f imm : Nat) :
    s.issuedAlu h i x f imm = ((s.setThread h i (x.pastAlu f imm)).countIssue h x.stepping).setThread h i
      ((((s.setThread h i (x.pastAlu f imm)).countIssue h x.stepping).thread h i).putG [(x.alu f imm x.fa).1]) := by
  rw [State.thread_countIssue, State.thread_setThread, if_pos rfl]
  rfl

section
variable {s : State} {h i f imm : Nat} {it : Item} {x : Thread} (hf : f < 65536) (himm : imm < 2 ^ 32) (hpc : x.pc + 1 < 16384)
include hf himm hpc

theorem Thread.seq_aluWord : x.seq (aluWord f imm) (x.cond it (mwCond (aluWord f imm))) = .go (x.pc + 1) x.stack := by
  have hcond : mwCond (aluWord f imm) = 0 := mw_aluWord_zero hf himm _ _ (by decide)
  have hnever : x.cond it 0 = false := rfl
  have hnext : goTo (x.pc + 1) x.stack = .go (x.pc + 1) x.stack := if_neg (by omega)
  rw [hcond, hnever, Thread.seq, Bool.not_false, if_pos rfl, hnext]

/-- None of R200's causes. -/
theorem State.excOf_aluWord : s.excOf h it x (aluWord f imm) = none := by
  have hseq := Thread.seq_aluWord (it := it) hf himm hpc
  have hzero := mw_aluWord_zero hf himm
  unfold State.excOf
  dsimp only
  generalize x.seq (aluWord f imm) (x.cond it (mwCond (aluWord f imm))) = sq at hseq ⊢
  subst hseq
  simp [mwHdrOp, mwRecOp, mwSrchOp, mwLckOp, mwChnOp, mwTmrOp, hzero]

theorem State.issue_aluWord : s.issue h i it x (aluWord f imm) = (s.issuedAlu h i x f imm).boundary h i := by
  have hseq := Thread.seq_aluWord (it := it) hf himm hpc
  have hzero := mw_aluWord_zero hf himm
  unfold State.issue
  have hrec : mwRecOp (aluWord f imm) = 0 := hzero _ _ (by decide)
  have hchn : mwChnOp (aluWord f imm) = 0 := hzero _ _ (by decide)
  have htmr : mwTmrOp (aluWord f imm) = 0 := hzero _ _ (by decide)
  have hhdr : mwHdrOp (aluWord f imm) = 0 := hzero _ _ (by decide)
  have hlck : mwLckOp (aluWord f imm) = 0 := hzero _ _ (by decide)
  have hsrch : mwSrchOp (aluWord f imm) = 0 := hzero _ _ (by decide)
  have halub : mwAluB (aluWord f imm) = 0 := hzero _ _ (by decide)
  have hbrk : mwBrk (aluWord f imm) = false := congrArg (fun n => n == 1) (hzero 31 1 (by decide))
  have hcnt : mwCntEn (aluWord f imm) = false := congrArg (fun n => n == 1) (hzero 15 1 (by decide))
  simp only [hseq, State.recLocal_idle _ _ _ _ hrec, State.issueRec_idle _ _ _ _ _ hrec, State.issueChn_idle _ _ _ _ _ hchn,
    State.issueTmr_idle _ _ _ _ _ _ htmr, Thread.hdr_idle _ hhdr, hlck, State.issueLock_idle, hsrch, halub, hbrk, hcnt, hhdr, htmr,
    mwAluA_aluWord hf himm, mwImm_aluWord hf himm, Thread.alu_none, if_false, false_and, Bool.false_and, zero_ne_one,
    Bool.false_eq_true, OfNat.zero_ne_ofNat]
  rw [State.issuedAlu_eq]
  simp only [Option.isSome_ite]
  rfl

/-- The microword at the thread's address names at most the first ALU: it issues. -/
theorem State.issueNow_aluWord {c : McCheck} (hc : c = .ok ∨ c = .corrected) (hx : (s.thread h i).fire s.clk.mono = x)
    (hitem : x.item = some it) (hstd : s.stdAt x.pc = none) (hword : Tbl.get 0 (s.shard h).store x.pc = aluWord f imm) :
    s.issueNow h i c = ((s.mcRead h c).issuedAlu h i x f imm).boundary h i := by
  have hexc := State.excOf_aluWord (s := s.mcRead h c) (h := h) (it := it) hf himm hpc
  have hrec : mwRecOp (aluWord f imm) ≠ 1 := by rw [mwRecOp, mw_aluWord_zero hf himm _ _ (by decide)]; decide
  have hkeeps : (s.mcRead h c).stdAt x.pc = none ∧ Tbl.get 0 ((s.mcRead h c).shard h).store x.pc = aluWord f imm := by
    unfold State.mcRead
    split
    · exact ⟨hstd, hword⟩
    · exact ⟨hstd, hword⟩
  have hissues : s.issueNow h i c = (s.mcRead h c).issueWord h i it x (aluWord f imm) := by
    unfold State.issueNow
    rw [hx]
    dsimp only
    rw [hitem]
    rw [State.mcRead] at hkeeps ⊢
    obtain ⟨hstd, hword⟩ := hkeeps
    obtain rfl | rfl := hc <;> dsimp only <;> rw [hstd] <;> dsimp only <;> rw [hword]
  rw [hissues, State.issueWord, hexc]
  dsimp only
  rw [if_neg fun hread => hrec hread.1, State.issue_aluWord hf himm hpc]

end

/-! ### What an issue leaves -/

/-- The thread can issue (R174, R175). -/
theorem State.mayIssue_iff (s : State) (h i : Nat) : s.mayIssue h i = true ↔
    s.shardUp h = true ∧ (s.thread h i).item.isSome = true ∧ (s.thread h i).quiet = true ∧ (s.thread h i).sleep = .awake
      ∧ (s.thread h i).ending = false ∧ (s.thread h i).halted = false ∧ (s.thread h i).haltReq = none ∧ (s.thread h i).abort = none := by
  simp only [State.mayIssue, Bool.and_eq_true, beq_iff_eq, Bool.not_eq_true', Option.isNone_iff_eq_none, and_assoc]

theorem Thread.fire_unarmed {x : Thread} (h : x.armed = false) (mono : Nat) : x.fire mono = x := if_neg (by simp [h])

section
variable {s : State} {h i : Nat} {x : Thread} {f imm : Nat} {R : Set Nat}

theorem State.mcRead_inShard (s : State) (h : Nat) (c : McCheck) : s.inShard (s.mcRead h c) h (issueRegs h) [.regs] := by
  unfold State.mcRead
  split
  · exact (s.bump_inShard h (by simp [issueRegs])).trans (State.setFld_inShard _ h (by simp [issueRegs]) _ _)
  · exact .refl s h _ _

theorem State.mcRead_issued (s : State) (h : Nat) (c : McCheck) :
    (s.mcRead h c).reg (Reg.FAE_CNT h Cnt.FAE_ISSUED) = s.reg (Reg.FAE_CNT h Cnt.FAE_ISSUED) := by
  unfold State.mcRead
  split
  · rw [State.mcCorrected, State.reg_setFld, if_neg (by simp only [Reg.FAE_CNT, Reg.FAE_STATUS]; omega), State.faeBump, State.reg_bump,
      if_neg (faeCnt_ne (by decide))]
  · rfl

theorem State.countIssue_within (hissued : Reg.FAE_CNT h Cnt.FAE_ISSUED ∈ R) {halts : Bool}
    (hhalts : halts = true → Reg.FAE_CNT h Cnt.FAE_DEBUG_HALTS ∈ R) : s.within (s.countIssue h halts) R [.regs] := by
  cases halts with
  | false => exact s.bump_within hissued
  | true => exact (s.bump_within hissued).trans (State.bump_within _ (hhalts rfl))

theorem State.countIssue_issued (s : State) (h : Nat) (halts : Bool) :
    (s.countIssue h halts).reg (Reg.FAE_CNT h Cnt.FAE_ISSUED) = s.reg (Reg.FAE_CNT h Cnt.FAE_ISSUED) + 1 := by
  cases halts with
  | false => exact s.reg_bump_self _
  | true => exact ((State.reg_bump _ _ _).trans (if_neg (faeCnt_ne (by decide)))).trans (s.reg_bump_self _)

theorem State.issuedAlu_thread (s : State) (h i : Nat) (x : Thread) (f imm : Nat) :
    (s.issuedAlu h i x f imm).thread h i = x.afterAlu f imm := (State.thread_setThread _ _ _ _ _).trans (if_pos rfl)

theorem State.issuedAlu_issued (s : State) (h i : Nat) (x : Thread) (f imm : Nat) :
    (s.issuedAlu h i x f imm).reg (Reg.FAE_CNT h Cnt.FAE_ISSUED) = s.reg (Reg.FAE_CNT h Cnt.FAE_ISSUED) + 1 :=
  (s.setThread h i (x.pastAlu f imm)).countIssue_issued h x.stepping

theorem State.issuedAlu_inShard (hissued : Reg.FAE_CNT h Cnt.FAE_ISSUED ∈ R)
    (hhalts : x.stepping = true → Reg.FAE_CNT h Cnt.FAE_DEBUG_HALTS ∈ R) :
    s.inShard (s.issuedAlu h i x f imm) h R [.regs, .shards] :=
  (((s.setThread_inShard h i _ R).parts (by simp)).trans
    (((State.countIssue_within hissued hhalts).inShard (by simp) h).parts (by simp))).trans
    ((State.setThread_inShard _ h i _ R).parts (by simp))

/-- The registers after a list of one write. -/
theorem Thread.putG_single (x : Thread) (o : Option (Nat × Word64)) :
    x.putG [o] = { x with g := match o with | none => x.g | some (k, v) => listSet x.g k v } := by
  cases o <;> rfl

/-- An operation of an ALU (R186). -/
theorem Thread.alu_names (x : Thread) (hop : 1 ≤ f / 4096) (imm : Nat) (old : AluFlags) {r : Word64 × Bool}
    (hr : r = aluOp (f / 4096) (x.reg (f / 16 % 16)) (if f % 16 = 15 then BitVec.ofNat 64 imm else x.reg (f % 16))) :
    x.alu f imm old = (if f / 4096 = 9 then none else some (f / 256 % 16, r.1),
      { z := if f / 4096 = 14 then r.1 == 64 else r.1 == 0, c := r.2, n := r.1.getLsbD 63 }) := by
  subst hr
  exact if_neg (by omega)

/-- A running thread after an operation of its first ALU. -/
theorem Thread.afterAlu_names (hop : 1 ≤ f / 4096) (hrun : x.stepping = false) {r : Word64 × Bool}
    (hr : r = aluOp (f / 4096) (x.reg (f / 16 % 16)) (if f % 16 = 15 then BitVec.ofNat 64 imm else x.reg (f % 16))) :
    x.afterAlu f imm = { x with
      pc := x.pc + 1
      g := if f / 4096 = 9 then x.g else listSet x.g (f / 256 % 16) r.1
      fa := { z := if f / 4096 = 14 then r.1 == 64 else r.1 == 0, c := r.2, n := r.1.getLsbD 63 }
      bpSkip := false, ending := false, haltReq := none } := by
  rw [Thread.afterAlu, Thread.putG_single, Thread.pastAlu, Thread.alu_names x hop imm x.fa hr, hrun]
  by_cases hcmp : f / 4096 = 9 <;> simp [hcmp]

end

/-- Settles O28: a microword that names only the first ALU has no cause of an exception, and every other unit leaves the state. -/
theorem arithmeticMicrowords : Obligations.ArithmeticMicrowords := by
  intro s h T c f imm x hx hf hop himm hc hmay hbreak hunarmed hrun hpc hstd hword r
  obtain ⟨-, hitem, -, -, -, -, -, habort⟩ := (s.mayIssue_iff h.val T.val).1 hmay
  obtain ⟨it, hitem⟩ := Option.isSome_iff_exists.1 hitem
  rw [← hx] at hitem habort
  have hnow := State.issueNow_aluWord hf himm hpc hc (by rw [← hx, Thread.fire_unarmed hunarmed]) hitem hstd hword
  have hthread := (s.mcRead h.val c).issuedAlu_thread h.val T.val x f imm
  have hframe := (((s.mcRead_inShard h.val c).parts (l' := [.regs, .shards]) (by simp)).trans
    (State.issuedAlu_inShard (i := T.val) (f := f) (imm := imm) (x := x) (by simp [issueRegs]) (by simp [hrun])))
  have hcount := ((s.mcRead h.val c).issuedAlu_issued h.val T.val x f imm).trans (congrArg (· + 1) (s.mcRead_issued h.val c))
  have hafter := Thread.afterAlu_names (x := x) hop hrun (imm := imm) (r := r) rfl
  have hissue : microwordIssue h.val T.val c s = (s.mcRead h.val c).issuedAlu h.val T.val x f imm := by
    rw [microwordIssue, hmay, hbreak, hnow]
    exact State.boundary_of_calm (by rw [hthread, hafter]; exact ⟨habort, rfl, rfl⟩)
  exact ⟨_, (congrArg (done s) hissue).trans (done_eq_next hframe.2.2 (by decide)), hthread.trans hafter, hcount,
    hframe.2.onlyRegs (by simp [issueRegs]), hframe.1, hframe.2.2⟩

end Sys2Proof.Machine
end

section
/-! PROOF. Held deadlines (R171): what a hold that begins or ends leaves of every thread. -/

namespace Sys2Proof.Machine

/-! ### Sorted tables -/

section
variable {α : Type} {d : α}

theorem Tbl.lt_of_mem {l : Tbl α} {lo : Nat} (hsorted : Tbl.sortedFrom (some lo) l = true) {e : Nat × α} (he : e ∈ l) : lo < e.1 := by
  induction l generalizing lo with
  | nil => exact absurd he List.not_mem_nil
  | cons x r ih =>
    rw [Tbl.sortedFrom, Bool.and_eq_true, decide_eq_true_eq] at hsorted
    obtain rfl | hr := List.mem_cons.1 he
    · exact hsorted.1
    · exact hsorted.1.trans (ih hsorted.2 hr)

/-- In a sorted table every listed value is what its key reads as. -/
theorem Tbl.get_of_mem {l : Tbl α} (hsorted : Tbl.sortedFrom none l = true) {e : Nat × α} (he : e ∈ l) : Tbl.get d l e.1 = e.2 := by
  induction l with
  | nil => exact absurd he List.not_mem_nil
  | cons x r ih =>
    rw [Tbl.sortedFrom] at hsorted
    obtain rfl | hr := List.mem_cons.1 he
    · exact if_pos rfl
    · have hlt := Tbl.lt_of_mem hsorted hr
      exact (if_neg (by omega)).trans (ih (Tbl.sortedFrom_none r _ hsorted) hr)

variable {f : α → α}

/-- A change of every value that keeps the default. -/
theorem Tbl.get_mapValues (hdefault : f d = d) (l : Tbl α) (i : Nat) : Tbl.get d (l.map (fun e => (e.1, f e.2))) i = f (Tbl.get d l i) := by
  induction l with
  | nil => exact hdefault.symm
  | cons e r ih =>
    rw [List.map_cons, Tbl.get, Tbl.get, ih]
    exact (apply_ite f _ _ _).symm

theorem Tbl.sortedFrom_mapValues (f : α → α) (l : Tbl α) (lo : Option Nat) :
    Tbl.sortedFrom lo (l.map (fun e => (e.1, f e.2))) = Tbl.sortedFrom lo l := by
  induction l generalizing lo with
  | nil => cases lo <;> rfl
  | cons e r ih => cases lo <;> simp only [List.map_cons, Tbl.sortedFrom, ih]

theorem Tbl.wf_mapValues [DecidableEq α] (hdefault : ∀ x, f x = d → x = d) {l : Tbl α} (hwf : Tbl.wf (fun _ => d) l = true) :
    Tbl.wf (fun _ => d) (l.map (fun e => (e.1, f e.2))) = true := by
  rw [Tbl.wf_iff] at hwf ⊢
  obtain ⟨hsorted, hlisted⟩ := hwf
  refine ⟨(Tbl.sortedFrom_mapValues f l _).trans hsorted, fun e he heq => ?_⟩
  obtain ⟨y, hy, rfl⟩ := List.mem_map.1 he
  exact hlisted y hy (hdefault _ heq)

end

/-! ### Changes of a hold -/

/-- The table of the shard's threads is canonical. -/
def State.threadsWf (s : State) (h : Nat) : Prop := Tbl.wf (fun _ => Thread.init) (s.shard h).threads = true

/-- `x` is `y` but for the deadline of its item and the hold of its expiry. -/
def Thread.heldFrom (x y : Thread) : Prop := x = { y with item := x.item, heldAt := x.heldAt } ∧ x.item.isSome = y.item.isSome

theorem Thread.heldFrom.refl (x : Thread) : x.heldFrom x := ⟨rfl, rfl⟩

theorem Thread.heldFrom.trans {x y z : Thread} (a : x.heldFrom y) (b : y.heldFrom z) : x.heldFrom z :=
  ⟨a.1.trans (by rw [b.1]), a.2.trans b.2⟩

/-- Every thread of shard `h` is what it was but for its hold; nothing outside the shard changes, and not its control store. -/
structure State.holdStep (s t : State) (h : Nat) : Prop where
  frame : s.inShard t h ∅ [.shards]
  store : (t.shard h).store = (s.shard h).store
  wf : t.threadsWf h
  threads : ∀ i, (t.thread h i).heldFrom (s.thread h i)

section
variable {s t u : State} {h : Nat}

theorem State.holdStep.refl (hwf : s.threadsWf h) : s.holdStep s h := ⟨.refl s h _ _, rfl, hwf, fun _ => .refl _⟩

theorem State.holdStep.trans (a : s.holdStep t h) (b : t.holdStep u h) : s.holdStep u h :=
  ⟨a.frame.trans b.frame, b.store.trans a.store, b.wf, fun i => (b.threads i).trans (a.threads i)⟩

theorem State.setShard_holdStep {x : ShardSt} (hstore : x.store = (s.shard h).store)
    (hwf : Tbl.wf (fun _ => Thread.init) x.threads = true) (hthreads : ∀ i, (Tbl.get Thread.init x.threads i).heldFrom (s.thread h i)) :
    s.holdStep (s.setShard h x) h := by
  have hx := s.shard_setShard_self h x
  refine ⟨s.setShard_inShard h x _, (congrArg ShardSt.store hx).trans hstore, (by rw [State.threadsWf, hx]; exact hwf), fun i => ?_⟩
  rw [State.thread, hx]
  exact hthreads i

theorem State.setThread_threadsWf (hwf : s.threadsWf h) (i : Nat) (x : Thread) : (s.setThread h i x).threadsWf h := by
  rw [State.threadsWf, State.shard_setThread]
  exact Tbl.wf_set _ _ _ _ _ rfl hwf

theorem State.holdStep.setThread (a : s.holdStep t h) {i : Nat} {x : Thread} (hx : x.heldFrom (s.thread h i)) :
    s.holdStep (t.setThread h i x) h := by
  refine ⟨a.frame.trans (t.setThread_inShard h i x _), (congrArg ShardSt.store (t.shard_setThread h i x)).trans a.store,
    State.setThread_threadsWf a.wf i x, fun j => ?_⟩
  rw [State.thread_setThread]
  split
  · next hj => exact hj ▸ hx
  · exact a.threads j

/-- A thread whose item is changed. -/
def Thread.mapItem (f : Item → Item) (x : Thread) : Thread := { x with item := x.item.map f }

theorem Thread.mapItem_heldFrom (f : Item → Item) (x : Thread) : (x.mapItem f).heldFrom x := ⟨rfl, Option.isSome_map⟩

theorem Thread.eq_init_of_mapItem {f : Item → Item} {x : Thread} (hx : x.mapItem f = Thread.init) : x = Thread.init := by
  have hitem : x.item = none := Option.map_eq_none_iff.1 (congrArg Thread.item hx)
  rw [← hx, Thread.mapItem, hitem]
  exact (congrArg (fun o => { x with item := o }) hitem)

theorem State.setGroup_holdStep (hwf : s.threadsWf h) (g : Nat) (x : Group) : s.holdStep (s.setGroup h g x) h :=
  State.setShard_holdStep rfl hwf fun _ => .refl _

theorem State.extendGroup_holdStep (hwf : s.threadsWf h) (g n : Nat) : s.holdStep (s.extendGroup h g n) h := by
  unfold State.extendGroup
  extract_lets x f y t
  have ht : s.holdStep t h := by
    refine State.setShard_holdStep rfl (Tbl.wf_mapValues (f := Thread.mapItem f) (fun _ => Thread.eq_init_of_mapItem) hwf) fun i => ?_
    have hget := Tbl.get_mapValues (f := Thread.mapItem f) (d := Thread.init) rfl (s.shard h).threads i
    exact (congrArg (Thread.heldFrom · _) hget).mpr ((s.thread h i).mapItem_heldFrom f)
  exact ht.trans (State.setGroup_holdStep ht.wf _ _)

/-- Holds of expiry begin and end. -/
theorem State.holdUpdate_holdStep (hwf : s.threadsWf h) : s.holdStep (s.holdUpdate h) h := by
  unfold State.holdUpdate
  extract_lets on now gs ended begun
  have hended : s.holdStep ended h := forEach_induct (fun t => s.holdStep t h) _ _ _ (.refl hwf) fun e t _ ht => by
    split
    · split
      · exact ht
      · exact ht.trans (State.extendGroup_holdStep ht.wf _ _)
    · exact ht
  have hbegun : s.holdStep begun h := forEach_induct (fun t => s.holdStep t h) _ _ _ hended fun g t _ ht => by
    split
    · exact ht
    · exact ht.trans (State.setGroup_holdStep ht.wf _ _)
  clear_value begun
  refine hbegun.trans (forEach_induct (fun t => begun.holdStep t h) _ _ _ (.refl hbegun.wf) fun e t he ht => ?_)
  have hread : begun.thread h e.1 = e.2 := Tbl.get_of_mem ((Tbl.wf_iff _ _).1 hbegun.wf).1 he
  dsimp only
  split
  · exact ht
  · next it hitem =>
    have hsome : e.2.item.isSome = true := by rw [hitem]; rfl
    split
    · exact ht
    · split
      · split
        · exact ht
        · exact ht.setThread (by rw [hread]; exact ⟨rfl, hsome.symm⟩)
      · split
        · exact ht.setThread (by rw [hread]; exact ⟨rfl, rfl⟩)
        · exact ht

end

end Sys2Proof.Machine
end

section
/-! PROOF. An abort leaves its thread idle (R158, R201): what it does to the other threads of the shard and to ITEMS_ENDED. -/

namespace Sys2Proof.Machine

/-- Shard `h` alone changes, its threads stand, and no ended item is counted. -/
structure State.sparesThreads (s t : State) (h : Nat) : Prop where
  only : s.onlyShard t h
  threads : (t.shard h).threads = (s.shard h).threads
  count : t.reg (Reg.FAE_CNT h Cnt.FAE_ITEMS_ENDED) = s.reg (Reg.FAE_CNT h Cnt.FAE_ITEMS_ENDED)

section
variable {s t u : State} {h : Nat}

theorem State.sparesThreads.refl (s : State) (h : Nat) : s.sparesThreads s h := ⟨fun _ _ => rfl, rfl, rfl⟩

theorem State.sparesThreads.trans (a : s.sparesThreads t h) (b : t.sparesThreads u h) : s.sparesThreads u h :=
  ⟨fun g hg => (b.only g hg).trans (a.only g hg), b.threads.trans a.threads, b.count.trans a.count⟩

theorem State.sparesThreads.thread (a : s.sparesThreads t h) (i : Nat) : t.thread h i = s.thread h i := State.thread_congr a.threads i

theorem State.sparesThreads.threadsWf (a : s.sparesThreads t h) (hwf : s.threadsWf h) : t.threadsWf h := by
  rw [State.threadsWf, a.threads]
  exact hwf

/-- A change outside the shards. -/
theorem State.within.sparesThreads {R : Set Nat} {l : List Part} (a : s.within t R l) (hl : Part.shards ∉ l)
    (hR : Reg.FAE_CNT h Cnt.FAE_ITEMS_ENDED ∉ R) : s.sparesThreads t h :=
  ⟨fun g _ => a.shard_eq hl g, congrArg ShardSt.threads (a.shard_eq hl h), a.1 _ hR⟩

theorem State.setShard_sparesThreads (x : ShardSt) (hx : x.threads = (s.shard h).threads) : s.sparesThreads (s.setShard h x) h :=
  ⟨(s.setShard_inShard h x ∅).1, (congrArg ShardSt.threads (s.shard_setShard_self h x)).trans hx, rfl⟩

theorem State.bump_sparesThreads (s : State) {a : Nat} (ha : a ≠ Reg.FAE_CNT h Cnt.FAE_ITEMS_ENDED) : s.sparesThreads (s.bump a) h :=
  (s.bump_within (Set.mem_singleton a)).sparesThreads (by simp) fun hm => ha (Set.mem_singleton_iff.1 hm).symm

theorem State.setFld_sparesThreads (s : State) {a : Nat} (ha : a ≠ Reg.FAE_CNT h Cnt.FAE_ITEMS_ENDED) (f : Fld) (x : Nat) :
    s.sparesThreads (s.setFld a f x) h :=
  (s.setFld_within (Set.mem_singleton a) f x).sparesThreads (by simp) fun hm => ha (Set.mem_singleton_iff.1 hm).symm

end

section
variable (s : State) (h i : Nat)

theorem State.withdrawRead_sparesThreads (w : Waiter) : s.sparesThreads (s.withdrawRead h w) h := by
  have hfree (t : State) (k n : Nat) : t.sparesThreads (t.freeEntry k n) h :=
    ((t.freeEntry_rest k n).within (by simp) ∅).sparesThreads (by simp) (Set.notMem_empty _)
  exact State.sparesThreads.trans (State.setShard_sparesThreads _ (by rfl)) (hfree _ _ _)

theorem State.unholdWay_sparesThreads (k : Nat) : s.sparesThreads (s.unholdWay h k) h := State.setShard_sparesThreads _ rfl

theorem State.dropHold_sparesThreads (r : Nat) : s.sparesThreads (s.dropHold h r) h := by
  unfold State.dropHold
  split
  · exact .refl s h
  · exact s.unholdWay_sparesThreads h _

theorem State.dropSweeperHold_sparesThreads (it : Item) : s.sparesThreads (s.dropSweeperHold h it) h := by
  unfold State.dropSweeperHold
  split
  · exact .refl s h
  · split
    · exact s.unholdWay_sparesThreads h _
    · exact .refl s h

theorem State.leaveQueue_sparesThreads : s.sparesThreads (s.leaveQueue h i) h := by
  unfold State.leaveQueue
  split
  · exact State.setShard_sparesThreads _ rfl
  · exact .refl s h

theorem State.ageDrain_sparesThreads (gen : Nat) (up : Bool) : s.sparesThreads (s.ageDrain h gen up) h := by
  unfold State.ageDrain
  split
  · exact .refl s h
  · next k hk =>
    have hlt := List.mem_range.1 (List.mem_of_find?_eq_some hk)
    exact s.setFld_sparesThreads (by simp only [Reg.SCH_AGE_DRAIN, Reg.FAE_CNT]; omega) _ _

theorem State.endItem_sparesThreads (it : Item) (why : EndReason) : s.sparesThreads (s.endItem h it why) h := by
  unfold State.endItem
  split
  · exact (s.ageDrain_sparesThreads h _ _).trans
      (State.bump_sparesThreads _ (by simp only [Reg.SCH_CNT, Reg.FAE_CNT, Cnt.SCH_AGING_ABORT]; omega))
  · split
    · exact .refl s h
    · exact State.sparesThreads.trans (State.setShard_sparesThreads _ (by rfl))
        (State.setFld_sparesThreads _ (by simp only [Reg.SCH_STATUS, Reg.FAE_CNT]; omega) _ _)

/-- Locks released by an abort: its thread alone changes, and holds none. -/
theorem State.dropLocks_leaves : ∃ t, s.sparesThreads t h
    ∧ s.dropLocks h i (fun u => u.wrdBump h Cnt.WRD_LOCK_ABORT_RELEASE) = t.setThread h i { s.thread h i with locks := [] } := by
  have hspares : s.sparesThreads (forEach (s.thread h i).locks (fun l t => (t.setLock h l { t.lock h l with owner := none }).wrdBump h
      Cnt.WRD_LOCK_ABORT_RELEASE) s) h :=
    forEach_induct (fun t => s.sparesThreads t h) _ _ s (.refl s h) fun l t _ ht =>
      (ht.trans (State.setShard_sparesThreads _ (by rfl))).trans
        (State.bump_sparesThreads _ (by simp only [Reg.WRD_CNT, Reg.FAE_CNT, Cnt.WRD_LOCK_ABORT_RELEASE, Cnt.FAE_ITEMS_ENDED]; omega))
  exact ⟨_, hspares, congrArg (fun x : Thread => State.setThread _ h i { x with locks := [] }) (hspares.thread i)⟩

/-- A thread without a halt is idle once it has no item (R171, R201). -/
theorem State.idleThread_running (hrunning : (s.thread h i).halted = false) (hreq : (s.thread h i).haltReq = none) :
    s.idleThread h i = s.setThread h i Thread.init := by
  unfold State.idleThread
  dsimp only
  rw [hrunning, hreq]
  rfl

end

/-- An abort ends its thread's item, whose thread holds no lock any more and is idle. -/
theorem State.abortThread_ends {s : State} {h i : Nat} {it : Item} (hitem : (s.thread h i).item = some it) (why : EndReason) :
    ∃ t u, s.sparesThreads t h ∧ (t.setThread h i { s.thread h i with locks := [] }).sparesThreads u h
      ∧ s.abortThread h i why = (u.faeBump h Cnt.FAE_ITEMS_ENDED).idleThread h i := by
  unfold State.abortThread
  rw [hitem]
  dsimp only
  have hunheld := (s.withdrawRead_sparesThreads h (.item it.rank)).trans (State.dropHold_sparesThreads _ h it.rank)
  generalize (s.withdrawRead h (.item it.rank)).dropHold h it.rank = unheld at *
  have hswept : s.sparesThreads (if it.aging then unheld.dropSweeperHold h it else unheld) h := by
    split
    · exact hunheld.trans (unheld.dropSweeperHold_sparesThreads h it)
    · exact hunheld
  generalize (if it.aging then unheld.dropSweeperHold h it else unheld) = swept at *
  have hleft := hswept.trans (swept.leaveQueue_sparesThreads h i)
  obtain ⟨t, ht, hdropped⟩ := (swept.leaveQueue h i).dropLocks_leaves h i
  rw [hleft.thread] at hdropped
  rw [hdropped]
  exact ⟨t, _, hleft.trans ht, State.endItem_sparesThreads _ h it why, rfl⟩

/-- The abort of a running thread's item. -/
theorem State.abortThread_idles {s : State} {h i : Nat} {it : Item} (hitem : (s.thread h i).item = some it)
    (hrunning : (s.thread h i).halted = false) (hreq : (s.thread h i).haltReq = none) (hwf : s.threadsWf h) (why : EndReason) :
    (s.abortThread h i why).thread h i = Thread.init
      ∧ (s.abortThread h i why).reg (Reg.FAE_CNT h Cnt.FAE_ITEMS_ENDED) = s.reg (Reg.FAE_CNT h Cnt.FAE_ITEMS_ENDED) + 1
      ∧ (s.abortThread h i why).threadsWf h ∧ s.onlyShard (s.abortThread h i why) h := by
  obtain ⟨t, u, ht, hu, habort⟩ := State.abortThread_ends hitem why
  have hthread : (u.faeBump h Cnt.FAE_ITEMS_ENDED).thread h i = { s.thread h i with locks := [] } :=
    (hu.thread i).trans ((t.thread_setThread h i i _).trans (if_pos rfl))
  rw [habort, State.idleThread_running _ h i (by rw [hthread]; exact hrunning) (by rw [hthread]; exact hreq)]
  have hcount : u.reg (Reg.FAE_CNT h Cnt.FAE_ITEMS_ENDED) = s.reg (Reg.FAE_CNT h Cnt.FAE_ITEMS_ENDED) := hu.count.trans ht.count
  have hwf' : u.threadsWf h := hu.threadsWf (State.setThread_threadsWf (ht.threadsWf hwf) i _)
  refine ⟨(State.thread_setThread _ _ _ _ _).trans (if_pos rfl), (u.reg_bump_self _).trans (congrArg (· + 1) hcount),
    State.setThread_threadsWf hwf' i _, fun g hg => ?_⟩
  calc _ = u.shard g := (State.setThread_inShard _ h i _ ∅).1 g hg
    _ = _ := hu.only g hg
    _ = t.shard g := (t.setThread_inShard h i _ ∅).1 g hg
    _ = s.shard g := ht.only g hg

end Sys2Proof.Machine
end

section
/-! PROOF. Debugging (R205): the commands of FAE.DBG_CMD, and their refusal for a thread that runs. -/

namespace Sys2Proof.Machine

/-! ### Threads after a hold -/

section
variable {x y : Thread}

/-- A hold changes no other field. -/
theorem Thread.heldFrom.field {α : Type} (a : x.heldFrom y) (f : Thread → α)
    (hf : ∀ it since, f { y with item := it, heldAt := since } = f y := by intros; rfl) : f x = f y :=
  (congrArg f a.1).trans (hf _ _)

theorem Thread.heldFrom.calm (a : x.heldFrom y) (hcalm : y.calm) : x.calm :=
  ⟨(a.field Thread.abort).trans hcalm.1, (a.field Thread.ending).trans hcalm.2.1, (a.field Thread.haltReq).trans hcalm.2.2⟩

end

/-! ### Halts -/

/-- A thread whose halt has taken effect. -/
def Thread.haltedBy (x : Thread) (c : Nat) : Thread := { x with haltReq := none, halted := true, haltCause := c }

section
variable {s : State} {h i c : Nat} {x : Thread}

/-- A halt takes effect at the thread's boundary (R201, R205). -/
theorem State.boundary_halts (hx : s.thread h i = x) (hquiet : x.quiet = true) (habort : x.abort = none) (hending : x.ending = false)
    (hreq : x.haltReq = some c) : s.boundary h i = (s.setThread h i (x.haltedBy c)).holdUpdate h := by
  unfold State.boundary Thread.haltedBy
  dsimp only
  rw [hx, hquiet, habort, hending, hreq]
  rfl

theorem State.haltThread_quiet (hx : s.thread h i = x) (hrunning : x.halted = false) (hcalm : x.calm) (hquiet : x.quiet = true) :
    s.haltThread h i c = ((((s.setThread h i { x with haltReq := some c }).faeBump h Cnt.FAE_DEBUG_HALTS).setThread h i
      (Thread.haltedBy { x with haltReq := some c } c)).holdUpdate h) := by
  obtain ⟨habort, hending, hreq⟩ := hcalm
  unfold State.haltThread
  dsimp only
  rw [hx, if_neg (by simp [hrunning, hreq])]
  exact State.boundary_halts ((State.thread_setThread _ _ _ _ _).trans (if_pos rfl)) hquiet habort hending rfl

end

/-! ### The target of a command -/

section
variable {s : State} {h i : Nat} {f : State → State} {R : Set Nat}

theorem State.dbgTarget_within (s : State) (i : Nat) (hR : Reg.FAE_DBG_CMD h ∈ R) : s.within (s.dbgTarget h i) R [.regs] :=
  (s.setFld_within hR _ _).trans (State.setFld_within _ hR _ _)

theorem State.onHalted_halted (hhalted : (s.thread h i).halted = true) : s.onHalted h i f = f (s.dbgTarget h i) := if_pos hhalted

theorem State.onHalted_running (hrunning : (s.thread h i).halted = false) : s.onHalted h i f = (s.dbgTarget h i).dbgErr h :=
  if_neg (by rw [Bool.not_eq_true]; exact hrunning)

/-- A refused command raises ERR, and changes DBG_CMD alone. -/
theorem State.onHalted_refuses (hrunning : (s.thread h i).halted = false) :
    (s.onHalted h i f).flag (Reg.FAE_DBG_CMD h) Fld.FAE_DBG_CMD_ERR = true
      ∧ s.within (s.onHalted h i f) {Reg.FAE_DBG_CMD h} [.regs] := by
  rw [State.onHalted_running hrunning]
  exact ⟨State.flag_setFld_one _ _ (by unfold Fld.oneBit; decide),
    (s.dbgTarget_within i (Set.mem_singleton _)).trans (State.setFld_within _ (Set.mem_singleton _) _ _)⟩

/-- Debug commands that need a halted thread (R205). -/
theorem dbgCommand_refuses {c : Instr} {h : Fin 16} {T : Fin 512} {g : Fin 16}
    (hc : c ∈ [Instr.resume h T, .step h T .ok, .debugAbort h T, .readCtx h T, .writeG h T g])
    (hrunning : (s.thread h.val T.val).halted = false) :
    ∃ t, exec c s = done s t ∧ t.flag (Reg.FAE_DBG_CMD h.val) Fld.FAE_DBG_CMD_ERR = true
      ∧ s.within t {Reg.FAE_DBG_CMD h.val} [.regs] := by
  simp only [List.mem_cons, List.not_mem_nil, or_false] at hc
  obtain rfl | rfl | rfl | rfl | rfl := hc
  · exact ⟨_, rfl, State.onHalted_refuses hrunning⟩
  · exact ⟨_, rfl, State.onHalted_refuses hrunning⟩
  · exact ⟨_, rfl, State.onHalted_refuses hrunning⟩
  · exact ⟨_, rfl, State.onHalted_refuses hrunning⟩
  · have hnamed := s.setFld_within (Set.mem_singleton (Reg.FAE_DBG_CMD h.val)) Fld.FAE_DBG_CMD_GREG g.val
    obtain ⟨herr, hframe⟩ := State.onHalted_refuses (s := s.setFld (dbgCmd h.val) Fld.FAE_DBG_CMD_GREG g.val) (h := h.val) (i := T.val)
      (f := fun s => s.setThread h.val T.val
        { s.thread h.val T.val with g := listSet (s.thread h.val T.val).g g.val (s.reg (Reg.FAE_DBG_DATA h.val)) }) hrunning
    exact ⟨_, rfl, herr, hnamed.trans hframe⟩

end

/-! ### HALT -/

section
variable {s : State} {h i : Nat} {x : Thread}

/-- Registers that HALT moves. -/
def haltRegs (h : Nat) : Set Nat := {Reg.FAE_CNT h Cnt.FAE_DEBUG_HALTS, Reg.FAE_DBG_CMD h}

theorem dbgCmd_ne_faeCnt (h c : Nat) : Reg.FAE_CNT h c ≠ Reg.FAE_DBG_CMD h := by
  simp only [Reg.FAE_CNT, Reg.FAE_DBG_CMD]
  omega

theorem halt_leaves (hwf : s.threadsWf h) (hx : s.thread h i = x) (hrunning : x.halted = false) (hcalm : x.calm) (hquiet : x.quiet = true) :
    ((halt h i s).thread h i).halted = true ∧ ((halt h i s).thread h i).haltCause = 1
      ∧ (halt h i s).reg (Reg.FAE_CNT h Cnt.FAE_DEBUG_HALTS) = s.reg (Reg.FAE_CNT h Cnt.FAE_DEBUG_HALTS) + 1
      ∧ s.inShard (halt h i s) h (haltRegs h) [.regs, .shards] := by
  have htarget := s.dbgTarget_within i (show Reg.FAE_DBG_CMD h ∈ haltRegs h by simp [haltRegs])
  have hread : (s.dbgTarget h i).thread h i = x := hx
  have hcount : (s.dbgTarget h i).reg (Reg.FAE_CNT h Cnt.FAE_DEBUG_HALTS) = s.reg (Reg.FAE_CNT h Cnt.FAE_DEBUG_HALTS) :=
    (s.dbgTarget_within i (Set.mem_singleton (Reg.FAE_DBG_CMD h))).1 _ (dbgCmd_ne_faeCnt h _)
  have hwf' : (s.dbgTarget h i).threadsWf h := hwf
  rw [halt]
  generalize s.dbgTarget h i = t at *
  rw [State.haltThread_quiet hread hrunning hcalm hquiet]
  have hbefore := (t.setThread_inShard h i { x with haltReq := some 1 } (haltRegs h)).parts (l' := [.regs, .shards]) (by simp)
  have hbumped := State.reg_bump_self (t.setThread h i { x with haltReq := some 1 }) (Reg.FAE_CNT h Cnt.FAE_DEBUG_HALTS)
  have hwf'' := State.setThread_threadsWf hwf' i { x with haltReq := some 1 }
  have hreg : (t.setThread h i { x with haltReq := some 1 }).reg (Reg.FAE_CNT h Cnt.FAE_DEBUG_HALTS)
    = t.reg (Reg.FAE_CNT h Cnt.FAE_DEBUG_HALTS) := rfl
  generalize t.setThread h i { x with haltReq := some 1 } = u at *
  have hheld := State.holdUpdate_holdStep (State.setThread_threadsWf (s := u.faeBump h Cnt.FAE_DEBUG_HALTS) hwf'' i
    (Thread.haltedBy { x with haltReq := some 1 } 1))
  have hthread := hheld.threads i
  rw [State.thread_setThread, if_pos rfl] at hthread
  refine ⟨hthread.field Thread.halted, hthread.field Thread.haltCause, ?_, ?_⟩
  · exact (hheld.frame.reg_eq (Set.notMem_empty _)).trans (hbumped.trans (by rw [hreg, hcount]))
  · exact (((((htarget.inShard (by simp) h).parts (by simp)).trans hbefore).trans
      ((u.bump_inShard h (by simp [haltRegs])).parts (by simp))).trans ((State.setThread_inShard _ h i _ _).parts (by simp))).trans
      (hheld.frame.mono (by simp) (by simp))

end

/-! ### RESUME -/

/-- A thread whose halt has ended (R201, R203). -/
def Thread.resumed (x : Thread) (mono : Nat) : Thread :=
  { x with halted := false, haltCause := 0, itemEnded := false, bpSkip := true, since := mono, due := none }

section
variable {s : State} {h i : Nat} {x : Thread}

theorem State.unhalt_eq (hx : s.thread h i = x) (hdue : x.due = none) :
    s.unhalt h i = (s.setThread h i (x.resumed s.clk.mono)).holdUpdate h := by
  unfold State.unhalt
  dsimp only
  rw [hx, hdue]
  rfl

theorem State.unhalt_granted (hx : s.thread h i = x) (hdue : x.due = some .granted) :
    s.unhalt h i = ((s.setThread h i (x.resumed s.clk.mono)).holdUpdate h).setThread h i
      { ((s.setThread h i (x.resumed s.clk.mono)).holdUpdate h).thread h i with sleep := .awake, lock := .acquired } := by
  unfold State.unhalt
  dsimp only
  rw [hx, hdue]
  rfl

/-- The threads of the shard as the halt ends. -/
theorem State.resumed_holdStep (hwf : s.threadsWf h) (i : Nat) (x : Thread) :
    ((s.setThread h i x).holdUpdate h).threadsWf h
      ∧ (((s.setThread h i x).holdUpdate h).thread h i).heldFrom x
      ∧ s.inShard ((s.setThread h i x).holdUpdate h) h ∅ [.shards]
      ∧ (((s.setThread h i x).holdUpdate h).shard h).store = (s.shard h).store := by
  have hheld := State.holdUpdate_holdStep (State.setThread_threadsWf hwf i x)
  have hthread := hheld.threads i
  rw [State.thread_setThread, if_pos rfl] at hthread
  exact ⟨hheld.wf, hthread, (s.setThread_inShard h i x _).trans hheld.frame,
    hheld.store.trans (by rw [State.shard_setThread])⟩

theorem resume_awake (hwf : s.threadsWf h) (hx : s.thread h i = x) (hhalted : x.halted = true) (hdue : x.due = none) (hcalm : x.calm) :
    ((resume h i s).thread h i).heldFrom (x.resumed s.clk.mono)
      ∧ s.inShard (resume h i s) h {Reg.FAE_DBG_CMD h} [.regs, .shards] := by
  have htarget := s.dbgTarget_within i (Set.mem_singleton (Reg.FAE_DBG_CMD h))
  have hread : (s.dbgTarget h i).thread h i = x := hx
  obtain ⟨-, hthread, hframe, -⟩ := State.resumed_holdStep (s := s.dbgTarget h i) hwf i (x.resumed s.clk.mono)
  have heq : resume h i s = ((s.dbgTarget h i).setThread h i (x.resumed s.clk.mono)).holdUpdate h := by
    rw [resume, State.onHalted_halted (by rw [hx]; exact hhalted), State.unhalt_eq hread hdue]
    exact State.boundary_of_calm (hthread.calm hcalm)
  rw [heq]
  exact ⟨hthread, ((htarget.inShard (by simp) h).parts (by simp)).trans (hframe.mono (by simp) (by simp))⟩

theorem resume_granted (hwf : s.threadsWf h) (hx : s.thread h i = x) (hhalted : x.halted = true) (hdue : x.due = some .granted)
    (hcalm : x.calm) :
    ((resume h i s).thread h i).heldFrom { x.resumed s.clk.mono with sleep := .awake, lock := .acquired }
      ∧ s.inShard (resume h i s) h {Reg.FAE_DBG_CMD h} [.regs, .shards] := by
  have htarget := s.dbgTarget_within i (Set.mem_singleton (Reg.FAE_DBG_CMD h))
  have hread : (s.dbgTarget h i).thread h i = x := hx
  obtain ⟨-, hthread, hframe, -⟩ := State.resumed_holdStep (s := s.dbgTarget h i) hwf i (x.resumed s.clk.mono)
  have hunhalt := State.unhalt_granted hread hdue
  have hclk : (s.dbgTarget h i).clk = s.clk := rfl
  rw [hclk] at hunhalt
  generalize ((s.dbgTarget h i).setThread h i (x.resumed s.clk.mono)).holdUpdate h = t at *
  have hwoken : Thread.heldFrom { t.thread h i with sleep := .awake, lock := .acquired }
      { x.resumed s.clk.mono with sleep := .awake, lock := .acquired } :=
    ⟨congrArg (fun y : Thread => { y with sleep := .awake, lock := .acquired }) hthread.1, hthread.2⟩
  have heq : resume h i s = t.setThread h i { t.thread h i with sleep := .awake, lock := .acquired } := by
    rw [resume, State.onHalted_halted (by rw [hx]; exact hhalted), hunhalt]
    exact State.setThread_boundary (hwoken.calm hcalm)
  rw [heq, State.thread_setThread, if_pos rfl]
  exact ⟨hwoken, (((htarget.inShard (by simp) h).parts (by simp)).trans (hframe.mono (by simp) (by simp))).trans
    ((t.setThread_inShard h i _ _).parts (by simp))⟩

end

end Sys2Proof.Machine
end

section
/-! PROOF. STEP, ABORT, READ and WRITE of FAE.DBG_CMD (R205), and O31. -/

namespace Sys2Proof.Machine

/-! ### STEP -/

theorem State.shardUp_congr {s t : State} {h : Nat} (hreg : t.reg (Reg.FLT_UNIT (unitShard h)) = s.reg (Reg.FLT_UNIT (unitShard h))) :
    t.shardUp h = s.shardUp h := by
  simp only [State.shardUp, State.down, State.unitState, State.fld_of_reg hreg]

/-- The standard programs stand in the image's tables (R214). -/
theorem State.within.stdAt_eq {s t : State} {R : Set Nat} {l : List Part} (a : s.within t R l) (hl : Part.cast ∉ l) (e : Nat) :
    t.stdAt e = s.stdAt e := by
  have hcast : t.cast = s.cast := a.2.2 .cast hl
  rw [State.stdAt, State.stdAt, hcast]

/-- The evaluation of the timer changes nothing but the timer. -/
theorem Thread.fire_keeps {α : Type} (x : Thread) (mono : Nat) (f : Thread → α)
    (hf : ∀ armed fired, f { x with armed := armed, fired := fired } = f x := by intros; rfl) : f (x.fire mono) = f x := by
  unfold Thread.fire
  split
  · exact hf _ _
  · rfl

section
variable {s : State} {h i : Nat} {x : Thread}

theorem State.issuedAlu_threadsWf (hwf : s.threadsWf h) (i : Nat) (x : Thread) (f imm : Nat) : (s.issuedAlu h i x f imm).threadsWf h := by
  have hfirst := State.setThread_threadsWf hwf i (x.pastAlu f imm)
  refine State.setThread_threadsWf ?_ i _
  cases x.stepping <;> exact hfirst

/-- A stepped microword that names nothing: the thread halts with cause 4 at the next address. -/
theorem State.issueNow_stepped (hwf : s.threadsWf h) (hmay : s.mayIssue h i = true) (hx : s.thread h i = x) (hstep : x.stepping = true)
    (hpc : x.pc + 1 < 16384) (hstd : s.stdAt x.pc = none) (hword : Tbl.get 0 (s.shard h).store x.pc = 0) :
    ((s.issueNow h i .ok).thread h i).pc = x.pc + 1 ∧ ((s.issueNow h i .ok).thread h i).halted = true
      ∧ ((s.issueNow h i .ok).thread h i).haltCause = 4 ∧ s.onlyShard (s.issueNow h i .ok) h := by
  obtain ⟨-, hitem, hquiet, -, -, -, -, habort⟩ := (s.mayIssue_iff h i).1 hmay
  rw [hx] at hitem hquiet habort
  obtain ⟨it, hitem⟩ := Option.isSome_iff_exists.1 hitem
  have hat := x.fire_keeps s.clk.mono Thread.pc
  have hitem' := (x.fire_keeps s.clk.mono Thread.item).trans hitem
  have hquiet' := (x.fire_keeps s.clk.mono Thread.quiet).trans hquiet
  have habort' := (x.fire_keeps s.clk.mono Thread.abort).trans habort
  have hstep' := (x.fire_keeps s.clk.mono Thread.stepping).trans hstep
  have hfire : (s.thread h i).fire s.clk.mono = x.fire s.clk.mono := by rw [hx]
  generalize x.fire s.clk.mono = y at *
  rw [← hat] at hpc hstd hword ⊢
  have hissue := State.issueNow_aluWord (f := 0) (imm := 0) (by decide) (by decide) hpc (.inl rfl) hfire hitem' hstd hword
  have hframe : s.inShard (s.issuedAlu h i y 0 0) h Set.univ [.regs, .shards] :=
    State.issuedAlu_inShard (Set.mem_univ _) fun _ => Set.mem_univ _
  have hreq : (y.afterAlu 0 0).haltReq = some 4 := if_pos hstep'
  have hread : s.mcRead h .ok = s := if_neg (by decide)
  rw [hread, State.boundary_halts (s.issuedAlu_thread h i y 0 0) hquiet' habort' rfl hreq] at hissue
  obtain ⟨-, hheld, hlast, -⟩ := State.resumed_holdStep (State.issuedAlu_threadsWf hwf i y 0 0) i ((y.afterAlu 0 0).haltedBy 4)
  rw [hissue]
  exact ⟨hheld.field Thread.pc, hheld.field Thread.halted, hheld.field Thread.haltCause,
    fun g hg => (hlast.1 g hg).trans (hframe.1 g hg)⟩

/-- The halt of a thread ends for one microword. -/
def State.startStep (s : State) (h i : Nat) : State :=
  (s.unhalt h i).setThread h i { (s.unhalt h i).thread h i with stepping := true }

theorem State.startStep_leaves (hwf : s.threadsWf h) (hx : s.thread h i = x) (hdue : x.due = none) :
    ∃ y : Thread, (s.startStep h i).thread h i = { y with stepping := true } ∧ y.heldFrom (x.resumed s.clk.mono)
      ∧ (s.startStep h i).threadsWf h ∧ s.inShard (s.startStep h i) h ∅ [.shards] ∧ ((s.startStep h i).shard h).store = (s.shard h).store := by
  obtain ⟨hwf', hthread, hframe, hstore⟩ := State.resumed_holdStep hwf i (x.resumed s.clk.mono)
  rw [← State.unhalt_eq hx hdue] at hwf' hthread hframe hstore
  exact ⟨_, (State.thread_setThread _ _ _ _ _).trans (if_pos rfl), hthread, State.setThread_threadsWf hwf' i _,
    hframe.trans (State.setThread_inShard _ h i _ _), by rw [State.startStep, State.shard_setThread, ← hstore]⟩

theorem step1_halts (hwf : s.threadsWf h) (hx : s.thread h i = x) (hup : s.shardUp h = true) (hhalted : x.halted = true)
    (hitem : x.item.isSome = true) (hquiet : x.quiet = true) (hawake : x.sleep = .awake) (hcalm : x.calm) (hdue : x.due = none)
    (hpc : x.pc + 1 < 16384) (hstd : s.stdAt x.pc = none) (hword : Tbl.get 0 (s.shard h).store x.pc = 0) :
    ((step1 h i .ok s).thread h i).pc = x.pc + 1 ∧ ((step1 h i .ok s).thread h i).halted = true
      ∧ ((step1 h i .ok s).thread h i).haltCause = 4 ∧ s.onlyShard (step1 h i .ok s) h := by
  have htarget := s.dbgTarget_within i (Set.mem_singleton (Reg.FAE_DBG_CMD h))
  have hread : (s.dbgTarget h i).thread h i = x := hx
  have hstep : step1 h i .ok s = if ((s.dbgTarget h i).startStep h i).mayIssue h i
      then ((s.dbgTarget h i).startStep h i).issueNow h i .ok else ((s.dbgTarget h i).startStep h i).boundary h i := by
    rw [step1, State.onHalted_halted (by rw [hx]; exact hhalted)]
    dsimp only
    rw [hread, if_neg (by rw [Option.isNone_iff_eq_none, ← Option.not_isSome_iff_eq_none, hitem]; decide)]
    rfl
  have hstored : ((s.dbgTarget h i).shard h).store = (s.shard h).store := rfl
  obtain ⟨y, hthread, hheld, hwf', hstart, hstore⟩ := State.startStep_leaves (s := s.dbgTarget h i) hwf hread hdue
  have hframe : s.inShard ((s.dbgTarget h i).startStep h i) h {Reg.FAE_DBG_CMD h} [.regs, .shards] :=
    ((htarget.inShard (by simp) h).parts (by simp)).trans (hstart.mono (by simp) (by simp))
  rw [hstep]
  generalize (s.dbgTarget h i).startStep h i = t at *
  have hup' : t.shardUp h = true := (State.shardUp_congr (hframe.reg_eq (by
    simp only [Set.mem_singleton_iff, Reg.FLT_UNIT, Reg.FAE_DBG_CMD, unitShard]
    omega))).trans hup
  obtain ⟨habort, hending, hreq⟩ := hheld.calm hcalm
  have hmay : t.mayIssue h i = true := by
    rw [State.mayIssue_iff, hthread]
    exact ⟨hup', hheld.2.trans hitem, (hheld.field Thread.quiet).trans hquiet, (hheld.field Thread.sleep).trans hawake, hending,
      hheld.field Thread.halted, hreq, habort⟩
  have hat : y.pc = x.pc := hheld.field Thread.pc
  obtain ⟨hnext, hstops, hcause, honly⟩ := State.issueNow_stepped hwf' hmay hthread rfl (by rw [hat]; exact hpc)
    (by rw [hframe.2.stdAt_eq (by simp), hat]; exact hstd) (by rw [hstore, hstored, hat]; exact hword)
  rw [if_pos hmay]
  exact ⟨hnext.trans (by rw [hat]), hstops, hcause, fun g hg => (honly g hg).trans (hframe.1 g hg)⟩

/-! ### ABORT -/

theorem debugAbort_idles (hwf : s.threadsWf h) (hx : s.thread h i = x) (hhalted : x.halted = true) (hitem : x.item.isSome = true)
    (hreq : x.haltReq = none) :
    ((debugAbort h i s).thread h i).item = none ∧ ((debugAbort h i s).thread h i).halted = false
      ∧ (debugAbort h i s).reg (Reg.FAE_CNT h Cnt.FAE_ITEMS_ENDED) = s.reg (Reg.FAE_CNT h Cnt.FAE_ITEMS_ENDED) + 1
      ∧ s.onlyShard (debugAbort h i s) h := by
  obtain ⟨it, hitem⟩ := Option.isSome_iff_exists.1 hitem
  have htarget := s.dbgTarget_within i (Set.mem_singleton (Reg.FAE_DBG_CMD h))
  have hread : (s.dbgTarget h i).thread h i = x := hx
  have hcount : (s.dbgTarget h i).reg (Reg.FAE_CNT h Cnt.FAE_ITEMS_ENDED) = s.reg (Reg.FAE_CNT h Cnt.FAE_ITEMS_ENDED) :=
    htarget.1 _ (dbgCmd_ne_faeCnt h _)
  have hwf' := State.setThread_threadsWf (s := s.dbgTarget h i) hwf i { x with halted := false }
  have hstart : debugAbort h i s
      = (((s.dbgTarget h i).setThread h i { x with halted := false }).abortThread h i .debug).holdUpdate h := by
    rw [debugAbort, State.onHalted_halted (by rw [hx]; exact hhalted)]
    dsimp only
    rw [hread, hitem]
    rfl
  have hset := (s.dbgTarget h i).setThread_inShard h i { x with halted := false } ∅
  have hthread := (s.dbgTarget h i).thread_setThread h i i { x with halted := false }
  rw [if_pos rfl] at hthread
  have hkept := hset.reg_eq (Set.notMem_empty (Reg.FAE_CNT h Cnt.FAE_ITEMS_ENDED))
  rw [hstart]
  generalize (s.dbgTarget h i).setThread h i { x with halted := false } = t at *
  obtain ⟨hidle, hended, hwf'', honly⟩ := State.abortThread_idles (by rw [hthread]; exact hitem) (by rw [hthread])
    (by rw [hthread]; exact hreq) hwf' .debug
  have hheld := State.holdUpdate_holdStep hwf''
  have hlast := hheld.threads i
  rw [hidle] at hlast
  exact ⟨Option.not_isSome_iff_eq_none.1 (by rw [hlast.2]; decide), hlast.field Thread.halted,
    (hheld.frame.reg_eq (Set.notMem_empty _)).trans (hended.trans (by rw [hkept, hcount])),
    fun g hg => (hheld.frame.1 g hg).trans ((honly g hg).trans ((hset.1 g hg).trans (htarget.shard_eq (by simp) g)))⟩

/-! ### READ -/

end

/-- Fields of a register are stored, the list's first one first. -/
def State.putFlds (s : State) (a : Nat) (l : List (Fld × Nat)) : State := forEach l (fun p t => t.setFld a p.1 p.2) s

section
variable {a : Nat} {l : List (Fld × Nat)} {f : Fld}

theorem State.putFlds_within {R : Set Nat} (s : State) (ha : a ∈ R) (l : List (Fld × Nat)) : s.within (s.putFlds a l) R [.regs] :=
  forEach_within (fun _ t => t.setFld_within ha _ _) l s

theorem State.fld_putFlds_apart (s : State) (hapart : ∀ p ∈ l, p.1.apart f) : (s.putFlds a l).fld a f = s.fld a f :=
  forEach_induct (fun t => t.fld a f = s.fld a f) l _ s rfl fun p t hp ht => (t.fld_setFld_apart a p.1 f p.2 (hapart p hp)).trans ht

/-- Of fields that share no bit each reads as it was stored. -/
theorem State.fld_putFlds (s : State) (hapart : (l.map Prod.fst).Pairwise Fld.apart) {v : Nat} (hmem : (f, v) ∈ l)
    (hfits : f.lo + f.len ≤ 64) : (s.putFlds a l).fld a f = v % 2 ^ f.len := by
  induction l generalizing s with
  | nil => exact absurd hmem List.not_mem_nil
  | cons p r ih =>
    rw [List.map_cons, List.pairwise_cons] at hapart
    obtain ⟨hfirst, hrest⟩ := hapart
    obtain rfl | hr := List.mem_cons.1 hmem
    · have hlater (t : State) : (t.putFlds a r).fld a f = t.fld a f :=
        t.fld_putFlds_apart fun q hq => Or.symm (hfirst q.1 (List.mem_map_of_mem hq))
      exact (hlater _).trans (s.fld_setFld_self a f v hfits)
    · exact ih _ hrest hr

end

/-- What DBG_STATE shows of a halted thread (R205, R211). -/
def Thread.stateFields (x : Thread) (mono : Nat) : List (Fld × Nat) :=
  [(Fld.FAE_DBG_STATE_PC, x.pc), (Fld.FAE_DBG_STATE_STATE, x.stateCode), (Fld.FAE_DBG_STATE_HALTED, 1),
    (Fld.FAE_DBG_STATE_HALT_CAUSE, x.haltCause), (Fld.FAE_DBG_STATE_CALL_DEPTH, x.stack.length),
    (Fld.FAE_DBG_STATE_LOCKS, x.locks.length), (Fld.FAE_DBG_STATE_HOLD, bit x.hold), (Fld.FAE_DBG_STATE_COMMITTED, bit x.committed),
    (Fld.FAE_DBG_STATE_RES_MASK, x.resMask), (Fld.FAE_DBG_STATE_MSG_MASK, x.msgMask),
    (Fld.FAE_DBG_STATE_TIMER_ARMED, bit (x.fire mono).armed), (Fld.FAE_DBG_STATE_ITEM_ENDED, bit x.itemEnded),
    (Fld.FAE_DBG_STATE_WAKE, match x.wake with | .none => 0 | .event => 1 | .timer => 2 | .broken => 3),
    (Fld.FAE_DBG_STATE_KIND, match x.item with | some it => bit it.aging | none => 0), (Fld.FAE_DBG_STATE_MAILBOX, x.mbox)]

theorem Thread.stateFields_apart (x : Thread) (mono : Nat) : ((x.stateFields mono).map Prod.fst).Pairwise Fld.apart := by
  show ((Thread.init.stateFields 0).map Prod.fst).Pairwise fun f g => f.lo + f.len ≤ g.lo ∨ g.lo + g.len ≤ f.lo
  decide

/-- The general registers of a thread, shown in DBG_G. -/
def State.showG (s : State) (h : Nat) (x : Thread) : State := forUpTo 16 (fun i t => t.setReg (Reg.FAE_DBG_G h i) (x.reg i)) s

section
variable {s : State} {h i : Nat} {x : Thread}

theorem dbgG_inj {h i j : Nat} (hij : Reg.FAE_DBG_G h i = Reg.FAE_DBG_G h j) : i = j := by
  simp only [Reg.FAE_DBG_G] at hij
  omega

theorem State.showG_reg (s : State) (h : Nat) (x : Thread) {i n : Nat} (hi : i < n) :
    (forUpTo n (fun i t => t.setReg (Reg.FAE_DBG_G h i) (x.reg i)) s).reg (Reg.FAE_DBG_G h i) = x.reg i := by
  induction n with
  | zero => exact absurd hi (Nat.not_lt_zero i)
  | succ n ih =>
    rw [forUpTo, State.reg_setReg]
    split
    · next heq => rw [dbgG_inj heq]
    · next hne => exact ih (by have hin : i ≠ n := fun heq => hne (by rw [heq]); omega)

/-- The registers that show a thread's general registers. -/
def dbgGRegs (h : Nat) : Set Nat := {a | ∃ i < 16, a = Reg.FAE_DBG_G h i}

/-- Registers that READ writes. -/
def shownRegs (h : Nat) : Set Nat := {Reg.FAE_DBG_CMD h, Reg.FAE_DBG_STATE h} ∪ dbgGRegs h

theorem State.showG_within (s : State) (h : Nat) (x : Thread) : s.within (s.showG h x) (dbgGRegs h) [.regs] :=
  forUpTo_induct (fun t => s.within t (dbgGRegs h) [.regs]) 16 _ s (.refl s _ _) fun i t hi ht =>
    ht.trans (t.setReg_within (R := dbgGRegs h) ⟨i, hi, rfl⟩ _)

theorem readCtx_shows (hx : s.thread h i = x) (hhalted : x.halted = true) :
    (∀ k, k < 16 → (readCtx h i s).reg (Reg.FAE_DBG_G h k) = x.reg k)
      ∧ (readCtx h i s).fld (Reg.FAE_DBG_STATE h) Fld.FAE_DBG_STATE_PC = x.pc % 2 ^ Fld.FAE_DBG_STATE_PC.len
      ∧ (readCtx h i s).flag (Reg.FAE_DBG_STATE h) Fld.FAE_DBG_STATE_HOLD = x.hold
      ∧ s.within (readCtx h i s) (shownRegs h) [.regs] := by
  have heq : readCtx h i s = ((s.dbgTarget h i).putFlds (Reg.FAE_DBG_STATE h) (x.stateFields s.clk.mono)).showG h x := by
    have hread : (s.dbgTarget h i).thread h i = x := hx
    have hclk : (s.dbgTarget h i).clk = s.clk := rfl
    rw [readCtx, State.onHalted_halted (by rw [hx]; exact hhalted)]
    dsimp only [State.setFld_clk]
    rw [hread, hclk]
    rfl
  have htarget := s.dbgTarget_within i (show Reg.FAE_DBG_CMD h ∈ shownRegs h by simp [shownRegs])
  rw [heq]
  generalize s.dbgTarget h i = t at *
  have hfields := t.putFlds_within (show Reg.FAE_DBG_STATE h ∈ shownRegs h by simp [shownRegs]) (x.stateFields s.clk.mono)
  have hpc := t.fld_putFlds (a := Reg.FAE_DBG_STATE h) (x.stateFields_apart s.clk.mono) (f := Fld.FAE_DBG_STATE_PC) (v := x.pc)
    (by simp [Thread.stateFields]) (by decide)
  have hhold := t.fld_putFlds (a := Reg.FAE_DBG_STATE h) (x.stateFields_apart s.clk.mono) (f := Fld.FAE_DBG_STATE_HOLD) (v := bit x.hold)
    (by simp [Thread.stateFields]) (by decide)
  generalize t.putFlds (Reg.FAE_DBG_STATE h) (x.stateFields s.clk.mono) = u at *
  have hregs := u.showG_within h x
  have hstate : (u.showG h x).reg (Reg.FAE_DBG_STATE h) = u.reg (Reg.FAE_DBG_STATE h) :=
    hregs.1 _ fun ⟨k, _, hk⟩ => by simp only [Reg.FAE_DBG_STATE, Reg.FAE_DBG_G] at hk; omega
  refine ⟨fun k hk => u.showG_reg h x hk, (State.fld_of_reg hstate _).trans hpc, ?_, (htarget.trans hfields).trans
    (hregs.mono Set.subset_union_right fun _ hp => hp)⟩
  rw [State.flag, State.fld_of_reg hstate, hhold]
  cases x.hold <;> rfl

/-! ### WRITE -/

theorem writeG_stores (g : Nat) (hx : s.thread h i = x) (hhalted : x.halted = true) :
    (writeG h i g s).thread h i = { x with g := listSet x.g g (s.reg (Reg.FAE_DBG_DATA h)) }
      ∧ s.inShard (writeG h i g s) h {Reg.FAE_DBG_CMD h} [.regs, .shards] := by
  have hnamed := s.setFld_within (Set.mem_singleton (Reg.FAE_DBG_CMD h)) Fld.FAE_DBG_CMD_GREG g
  have htarget := (s.setFld (Reg.FAE_DBG_CMD h) Fld.FAE_DBG_CMD_GREG g).dbgTarget_within i (Set.mem_singleton (Reg.FAE_DBG_CMD h))
  have hdata := (hnamed.trans htarget).1 (Reg.FAE_DBG_DATA h) (by
    simp only [Set.mem_singleton_iff, Reg.FAE_DBG_DATA, Reg.FAE_DBG_CMD]; omega)
  have hread : ((s.setFld (Reg.FAE_DBG_CMD h) Fld.FAE_DBG_CMD_GREG g).dbgTarget h i).thread h i = x := hx
  have heq : writeG h i g s = ((s.setFld (Reg.FAE_DBG_CMD h) Fld.FAE_DBG_CMD_GREG g).dbgTarget h i).setThread h i
      { x with g := listSet x.g g (s.reg (Reg.FAE_DBG_DATA h)) } := by
    rw [writeG, State.onHalted_halted (show ((s.setFld (dbgCmd h) Fld.FAE_DBG_CMD_GREG g).thread h i).halted = true by
      rw [← hhalted, ← hx]; rfl)]
    dsimp only [dbgCmd]
    rw [hread, hdata]
  rw [heq]
  exact ⟨(State.thread_setThread _ _ _ _ _).trans (if_pos rfl), (((hnamed.trans htarget).inShard (by simp) h).parts (by simp)).trans
    ((State.setThread_inShard _ h i _ _).parts (by simp))⟩

end

/-! ### The obligation -/

/-- Settles O31: each command is followed through its target's boundary and the holds of expiry that begin or end with it. -/
theorem debugCommands : Obligations.DebugCommands := by
  refine ⟨fun s h T x hwf hx hrunning hreq hquiet habort hending => ?_, fun s h T x hwf hx hhalted hdue habort hending hreq => ?_,
    fun s h T x hwf hx hhalted hdue habort hending hreq => ?_,
    fun s h T x hwf hx hup hhalted hitem hquiet hawake hending hreq habort hdue hpc hstd hword => ?_,
    fun s h T x hwf hx hhalted hitem hreq => ?_, fun s h T hhalted => ?_, fun s h T g x hx hhalted => ?_,
    fun s h T g c hc hrunning => ?_⟩
  · obtain ⟨hstops, hcause, hcount, hframe⟩ := halt_leaves hwf hx.symm hrunning ⟨habort, hending, hreq⟩ hquiet
    exact ⟨_, done_eq_next hframe.2.2 (by decide), hstops, hcause, hcount, hframe.2.onlyRegs (by simp [haltRegs]), hframe.1, hframe.2.2⟩
  · obtain ⟨hthread, hframe⟩ := resume_awake hwf hx.symm hhalted hdue ⟨habort, hending, hreq⟩
    exact ⟨_, done_eq_next hframe.2.2 (by decide), hthread.field Thread.halted, hthread.field Thread.since,
      hframe.2.onlyRegs (by simp), hframe.1, hframe.2.2⟩
  · obtain ⟨hthread, hframe⟩ := resume_granted hwf hx.symm hhalted hdue ⟨habort, hending, hreq⟩
    exact ⟨_, done_eq_next hframe.2.2 (by decide), hthread.field Thread.halted, hthread.field Thread.sleep, hthread.field Thread.lock,
      hframe.2.onlyRegs (by simp), hframe.1, hframe.2.2⟩
  · obtain ⟨hnext, hstops, hcause, honly⟩ :=
      step1_halts hwf hx.symm hup hhalted hitem hquiet hawake ⟨habort, hending, hreq⟩ hdue hpc hstd hword
    obtain ⟨u, hu, hshard, -⟩ := done_keeps s (step1 h.val T.val .ok s)
    have hthread : u.thread h.val T.val = (step1 h.val T.val .ok s).thread h.val T.val := State.thread_congr (by rw [hshard]) _
    exact ⟨u, hu, by rw [hthread, hnext], by rw [hthread, hstops], by rw [hthread, hcause], fun g hg => (hshard g).trans (honly g hg)⟩
  · obtain ⟨hfree, hruns, hcount, honly⟩ := debugAbort_idles hwf hx.symm hhalted hitem hreq
    obtain ⟨u, hu, hshard, hreg⟩ := done_keeps s (debugAbort h.val T.val s)
    have hthread : u.thread h.val T.val = (debugAbort h.val T.val s).thread h.val T.val := State.thread_congr (by rw [hshard]) _
    exact ⟨u, hu, by rw [hthread, hfree], by rw [hthread, hruns], (hreg _).trans hcount, fun g hg => (hshard g).trans (honly g hg)⟩
  · obtain ⟨hregs, hpc, hhold, hframe⟩ := readCtx_shows rfl hhalted
    refine ⟨_, done_eq_next hframe.2 (by decide), hregs, hpc, hhold, hframe.onlyRegs ?_, hframe.2⟩
    rintro a ((rfl | rfl) | ⟨k, hk, rfl⟩)
    · simp
    · simp
    · simpa using .inr (.inr ⟨k, hk, rfl⟩)
  · obtain ⟨hthread, hframe⟩ := writeG_stores g.val hx.symm hhalted
    exact ⟨_, done_eq_next hframe.2.2 (by decide), hthread, hframe.2.onlyRegs (by simp), hframe.1, hframe.2.2⟩
  · obtain ⟨t, hexec, herr, hframe⟩ := dbgCommand_refuses hc hrunning
    exact ⟨t, hexec.trans (done_eq_next hframe.2 (by decide)), herr, hframe.onlyRegs (by simp), hframe.2⟩

end Sys2Proof.Machine
end

section
/-! PROOF. The queues of a DMC (R258 to R263): requests taken, writes issued and rows noted leave the lines and the ranks that serve
them. -/

namespace Sys2Proof.Machine

/-! ### Steps of the queues -/

/-- The event counters of the DMCs. -/
def dmcCounters : Set Nat := {a | ∃ c < 12, ∃ i < 32, a = Reg.DMC_CNT c i}

theorem dmcCnt_mem {c i : Nat} (hc : c < 12) (hi : i < 32) : Reg.DMC_CNT c i ∈ dmcCounters := ⟨c, hc, i, hi, rfl⟩

/-- Counters, queues and open rows may change: what lines hold, which are lost, and how far migrations have come stand. -/
structure State.queueStep (s t : State) : Prop where
  frame : s.within t dmcCounters [.regs, .dram]
  bytes : t.dram.bytes = s.dram.bytes
  poison : t.dram.poison = s.dram.poison
  cursor : ∀ c k, (t.sub c k).cursor = (s.sub c k).cursor

section
variable {s t u : State}

theorem State.queueStep.refl (s : State) : s.queueStep s := ⟨.refl s _ _, rfl, rfl, fun _ _ => rfl⟩

theorem State.queueStep.trans (a : s.queueStep t) (b : t.queueStep u) : s.queueStep u :=
  ⟨a.frame.trans b.frame, b.bytes.trans a.bytes, b.poison.trans a.poison, fun c k => (b.cursor c k).trans (a.cursor c k)⟩

theorem State.queueStep.lineBytes (a : s.queueStep t) (l : Nat) : t.lineBytes l = s.lineBytes l := by
  rw [State.lineBytes, State.lineBytes, a.bytes]

theorem State.queueStep.poisoned (a : s.queueStep t) (l : Nat) : t.poisoned l = s.poisoned l := by
  rw [State.poisoned, State.poisoned, a.poison]

/-- The subchannel of a channel that was replaced, and the others. -/
theorem State.sub_setSub (s : State) (c k c' k' : Nat) (x : DmcSub) :
    (s.setSub c k x).sub c' k' = if 2 * c' + k' = 2 * c + k then x else s.sub c' k' := Tbl.get_set _ _ _ _ _

theorem State.sub_setSub_self (s : State) (c k : Nat) (x : DmcSub) : (s.setSub c k x).sub c k = x :=
  (s.sub_setSub c k c k x).trans (if_pos rfl)

/-- A part of a subchannel that its replacement keeps. -/
theorem State.sub_setSub_keeps {α : Type} {c k : Nat} {x : DmcSub} (f : DmcSub → α) (hx : f x = f (s.sub c k)) (c' k' : Nat) :
    f ((s.setSub c k x).sub c' k') = f (s.sub c' k') := by
  rw [State.sub_setSub]
  split
  · next hkey => rw [hx, State.sub, State.sub, hkey]
  · rfl

theorem State.setSub_within (s : State) (c k : Nat) (x : DmcSub) (R : Set Nat) : s.within (s.setSub c k x) R [.dram] :=
  s.setDram_within _ R

theorem State.setSub_queueStep {c k : Nat} {x : DmcSub} (hx : x.cursor = (s.sub c k).cursor) : s.queueStep (s.setSub c k x) :=
  ⟨(s.setSub_within c k x _).parts (by simp), rfl, rfl, State.sub_setSub_keeps DmcSub.cursor hx⟩

theorem State.dmcBump_queueStep (s : State) {c i : Nat} (hc : c < 12) (hi : i < 32) : s.queueStep (s.dmcBump c i) :=
  ⟨(s.bump_within (dmcCnt_mem hc hi)).parts (by simp), rfl, rfl, fun _ _ => rfl⟩

/-- Registers other than the counters. -/
theorem State.queueStep.fld (a : s.queueStep t) {b : Nat} (hb : b ∉ dmcCounters) (f : Fld) : t.fld b f = s.fld b f :=
  State.fld_of_reg (a.frame.1 b hb) f

/-- Where a line lies (R254) does not depend on the queues. -/
theorem State.queueStep.locate (a : s.queueStep t) (l : Nat) : t.locate l = s.locate l := by
  have hpop {c : Nat} (hc : c < 12) (f : Fld) : t.fld (Reg.DMC_POP c) f = s.fld (Reg.DMC_POP c) f :=
    a.fld (by rintro ⟨d, hd, i, hi, heq⟩; simp only [Reg.DMC_POP, Reg.DMC_CNT] at heq; omega) f
  have hspace : t.space = s.space :=
    a.fld (by rintro ⟨d, hd, i, hi, heq⟩; simp only [Reg.DMC_SPACE, Reg.DMC_CNT] at heq; omega) _
  have hchannels : t.channels = s.channels :=
    List.filter_congr fun c hc => by simp only [State.populated, hpop (List.mem_range.1 hc)]
  have hrl {c : Nat} (hc : c < 12) : t.rlLog c = s.rlLog c := by simp only [State.rlLog, hpop hc]
  unfold State.locate
  rw [hspace, hchannels]
  split
  · rfl
  · dsimp only
    split
    · rfl
    · next c hfound => rw [hrl (List.mem_range.1 (List.mem_filter.1 (List.mem_of_getElem? hfound)).1)]

/-- Nor does whether a line's rank is out of service (R269). -/
theorem State.queueStep.rankDead (a : s.queueStep t) {p : LineAt} (hp : p.ch < 12) : t.rankDead p = s.rankDead p := by
  have hmig (f : Fld) : t.fld (Reg.DMC_MIG p.ch) f = s.fld (Reg.DMC_MIG p.ch) f :=
    a.fld (by rintro ⟨d, hd, i, hi, heq⟩; simp only [Reg.DMC_MIG, Reg.DMC_CNT] at heq; omega) f
  have hout : t.rankOut p.ch = s.rankOut p.ch := funext fun r => congrArg (fun n => Nat.testBit n r)
    (a.fld (by rintro ⟨d, hd, i, hi, heq⟩; simp only [Reg.DMC_STATUS, Reg.DMC_CNT] at heq; omega) _)
  have hunit : t.down (unitDmc p.ch) = s.down (unitDmc p.ch) := by
    simp only [State.down, State.unitState, a.fld (b := Reg.FLT_UNIT (unitDmc p.ch))
      (by rintro ⟨d, hd, i, hi, heq⟩; simp only [Reg.FLT_UNIT, unitDmc, Reg.DMC_CNT] at heq; omega)]
  have hspare : t.bySpare p = s.bySpare p := by simp only [State.bySpare, State.migState, State.migSrc, hmig, a.cursor]
  simp only [State.rankDead, hunit, hspare, hout, State.migDst, State.migState, State.migSrc, hmig]

end

/-! ### Rows and writes -/

section
variable (s : State)

/-- A noted access changes the open rows of its subchannel and counts a hit or a miss. -/
theorem State.rowTouchIn_queueStep {a : LineAt} (ha : a.ch < 12) (rank : Nat) : s.queueStep (s.rowTouchIn a rank) := by
  unfold State.rowTouchIn
  refine State.queueStep.trans ?_ (State.setSub_queueStep (by rfl))
  split
  · exact .refl s
  · split
    · exact s.dmcBump_queueStep ha (by decide)
    · exact s.dmcBump_queueStep ha (by decide)

theorem State.rowTouchIn_within (a : LineAt) (rank : Nat) :
    s.within (s.rowTouchIn a rank) {Reg.DMC_CNT a.ch Cnt.DMC_ROW_HITS, Reg.DMC_CNT a.ch Cnt.DMC_ROW_MISSES} [.regs, .dram] := by
  unfold State.rowTouchIn
  refine State.within.trans ?_ ((State.setSub_within _ _ _ _ _).parts (by simp))
  split
  · exact .refl s _ _
  · split
    · exact (s.bump_within (by simp)).parts (by simp)
    · exact (s.bump_within (by simp)).parts (by simp)

/-- Counters of accesses are none of its counters. -/
theorem State.rowTouchIn_reg (a : LineAt) (rank c : Nat) {i : Nat} (hi : i < 4) :
    (s.rowTouchIn a rank).reg (Reg.DMC_CNT c i) = s.reg (Reg.DMC_CNT c i) :=
  (s.rowTouchIn_within a rank).1 _ (by
    simp only [Set.mem_insert_iff, Set.mem_singleton_iff, Reg.DMC_CNT, Cnt.DMC_ROW_HITS, Cnt.DMC_ROW_MISSES]
    omega)

/-- It changes no other part of a subchannel. -/
theorem State.rowTouchIn_keeps {α : Type} (f : DmcSub → α) (a : LineAt) (rank c k : Nat)
    (hf : ∀ (x : DmcSub) rows, f { x with rows := rows } = f x := by intros; rfl) : f ((s.rowTouchIn a rank).sub c k) = f (s.sub c k) := by
  unfold State.rowTouchIn
  dsimp only
  rw [State.sub_setSub_keeps f (hf _ _)]
  split
  · rfl
  · split <;> rfl

/-- A write that has left its queue, and is counted. -/
def State.dequeueWrite (s : State) (c k i l : Nat) : State :=
  (s.setSub c k { s.sub c k with
    writeQ := (s.sub c k).writeQ.eraseIdx i, bg := (s.sub c k).bg.erase l
    draining := (s.sub c k).draining
      && decide (s.fld (Reg.DMC_SCHED c) Fld.DMC_SCHED_WQ_LOW < ((s.sub c k).writeQ.eraseIdx i).length) }).dmcBump c Cnt.DMC_WRITES

/-- The issue of a queued write, whose row is noted where its line has a place. -/
theorem State.issueWrite_cases {c k i l : Nat} (hl : (s.sub c k).writeQ[i]? = some l) :
    s.issueWrite c k i = s.dequeueWrite c k i l
      ∨ ∃ a, (s.dequeueWrite c k i l).locate l = some a ∧ s.issueWrite c k i = (s.dequeueWrite c k i l).rowTouch a := by
  have hissue : s.issueWrite c k i
      = (match (s.dequeueWrite c k i l).locate l with
        | none => s.dequeueWrite c k i l
        | some a => (s.dequeueWrite c k i l).rowTouch a) := by
    unfold State.issueWrite
    dsimp only
    rw [hl]
    rfl
  rw [hissue]
  split
  · exact .inl rfl
  · next a hat => exact .inr ⟨a, hat, rfl⟩

/-- A queued write that is issued leaves its queue and is counted (R261). -/
theorem State.issueWrite_leaves {c k i l : Nat} (hc : c < 12) (hl : (s.sub c k).writeQ[i]? = some l) :
    ((s.issueWrite c k i).sub c k).writeQ = (s.sub c k).writeQ.eraseIdx i
      ∧ (s.issueWrite c k i).reg (Reg.DMC_CNT c Cnt.DMC_WRITES) = s.reg (Reg.DMC_CNT c Cnt.DMC_WRITES) + 1
      ∧ s.queueStep (s.issueWrite c k i) := by
  have hstep : s.queueStep (s.dequeueWrite c k i l) :=
    State.queueStep.trans (State.setSub_queueStep (by rfl)) (State.dmcBump_queueStep _ hc (by decide))
  have hcount : (s.dequeueWrite c k i l).reg (Reg.DMC_CNT c Cnt.DMC_WRITES) = s.reg (Reg.DMC_CNT c Cnt.DMC_WRITES) + 1 :=
    State.reg_bump_self _ _
  have hqueue : ((s.dequeueWrite c k i l).sub c k).writeQ = (s.sub c k).writeQ.eraseIdx i :=
    (congrArg DmcSub.writeQ (s.sub_setSub_self c k _) :)
  obtain heq | ⟨a, hat, heq⟩ := s.issueWrite_cases hl
  · rw [heq]
    exact ⟨hqueue, hcount, hstep⟩
  · rw [heq, State.rowTouch]
    generalize s.dequeueWrite c k i l = t at *
    exact ⟨(t.rowTouchIn_keeps DmcSub.writeQ a _ c k).trans hqueue, (t.rowTouchIn_reg a _ c (by decide)).trans hcount,
      hstep.trans (t.rowTouchIn_queueStep (State.locate_ch hat) _)⟩

theorem State.issueWrite_queueStep {c : Nat} (hc : c < 12) (k i : Nat) : s.queueStep (s.issueWrite c k i) := by
  cases hl : (s.sub c k).writeQ[i]? with
  | none =>
    have hnone : s.issueWrite c k i = s := by
      unfold State.issueWrite
      dsimp only
      rw [hl]
    rw [hnone]
    exact .refl s
  | some l => exact (s.issueWrite_leaves hc hl).2.2

theorem State.finishDrain_queueStep {c : Nat} (hc : c < 12) (k : Nat) : s.queueStep (s.finishDrain c k) := by
  unfold State.finishDrain
  split
  · refine forUpTo_induct (fun t => s.queueStep t) 128 _ s (.refl s) fun _ t _ ht => ht.trans ?_
    split
    · unfold State.issueOldest
      dsimp only
      split
      · exact .refl t
      · exact t.issueWrite_queueStep hc _ _
    · exact .refl t
  · exact .refl s

/-- A read of a line that its rank serves (R259, R269). -/
theorem State.dramRead_live {l : Nat} {a : LineAt} (hat : s.locate l = some a) (halive : s.rankDead a = false)
    (hsound : s.poisoned l = false) : (s.dramRead l true .ok).1 = some (s.lineBytes l) ∧ s.queueStep (s.dramRead l true .ok).2 := by
  have ha := State.locate_ch hat
  refine ⟨?_, ?_⟩
  · rw [State.dramRead_answer, State.lineRead, hat]
    simp [halive, hsound]
  · unfold State.dramRead
    rw [hat]
    simp only [State.bgCount, if_true, halive, hsound, Bool.or_self, Bool.false_eq_true, if_false]
    split
    · exact s.dmcBump_queueStep ha (by decide)
    · exact ((s.finishDrain_queueStep ha a.sub).trans (State.dmcBump_queueStep _ ha (by decide))).trans
        (State.rowTouchIn_queueStep _ ha _)

theorem State.drainCheck_writeQ (c k : Nat) : ((s.drainCheck c k).sub c k).writeQ = (s.sub c k).writeQ := by
  unfold State.drainCheck
  dsimp only
  split
  · split
    · exact State.sub_setSub_keeps DmcSub.writeQ (by rfl) c k
    · rfl
  · split
    · exact State.sub_setSub_keeps DmcSub.writeQ (by rfl) c k
    · rfl

/-- A line that enters its write queue stands in it (R259). -/
theorem State.queueWrite_queued (a : LineAt) (l : Nat) (fg : Bool) :
    ((s.queueWrite a l fg).sub a.ch a.sub).writeQ.contains l = true := by
  unfold State.queueWrite
  dsimp only
  split
  · next hqueued => exact hqueued
  · rw [State.drainCheck_writeQ, State.sub_setSub_self]
    simp

/-- A foreground write that is not discarded is queued (R259). -/
theorem State.dramWrite_queued {l : Nat} {a : LineAt} (hat : s.locate l = some a) (halive : s.rankDead a = false)
    (hsound : s.poisoned l = false) (b : List Byte) : ((s.dramWrite l b true).2.sub a.ch a.sub).writeQ.contains l = true := by
  simp only [State.dramWrite, hat, State.bgCount, if_true, halive, hsound, Bool.false_eq_true, false_and, or_self, if_false]
  exact State.queueWrite_queued _ a l true

/-- The answer that a waiting thread receives (R190). -/
theorem State.auxAnswer_waiting {n : Nat} {cas : Option Nat} (hwait : (s.thread (n / 512) (n % 512)).auxSt = .waiting cas) (ok : Bool)
    (line : Option (List Byte)) : s.auxAnswer n ok line = s.setThread (n / 512) (n % 512)
      { s.thread (n / 512) (n % 512) with auxSt := .answered cas ok (line.map (wordsOf 8)) } := by
  unfold State.auxAnswer
  dsimp only
  rw [hwait]

end

/-! ### Commands -/

section
variable {s : State} {c k i : Nat} {r : DmcReq} {a : LineAt}

/-- A read of a live line joins the read queue, with the line's bytes (R258, R259). -/
theorem dmcRequestAccept_queues (hnext : s.nextReq c k = some r) (hready : s.dmcReady = true) (hat : s.locate r.line = some a)
    (hop : r.op = .read) (halive : s.rankDead a = false) (hsound : s.poisoned r.line = false)
    (hqueue : (s.sub c k).writeQ.contains r.line = false) :
    dmcRequestAccept c k s = s.setSub c k { s.sub c k with
      waiting := (s.sub c k).waiting.erase r, last := r.thread / 512
      readQ := (s.sub c k).readQ ++ [{ r with data := some (s.lineBytes r.line) }] } := by
  rw [dmcRequestAccept, hready, hnext]
  rw [if_neg (by decide)]
  dsimp only
  rw [State.acceptReq, hat]
  dsimp only
  rw [hop]
  dsimp only
  rw [halive, hsound, hqueue]
  rfl

/-- A write of a line is taken: the line holds its bytes, and waits in the write queue (R259). -/
theorem dmcRequestAccept_writes {b : List Byte} (hnext : s.nextReq c k = some r) (hready : s.dmcReady = true)
    (hat : s.locate r.line = some a) (hop : r.op = .write b) (hmirror : r.mirror = none) (halive : s.rankDead a = false) (hsound : s.poisoned r.line = false) :
    (∀ l, (dmcRequestAccept c k s).lineBytes l = if l = r.line then bytesAt b 0 64 else s.lineBytes l)
      ∧ ((dmcRequestAccept c k s).sub a.ch a.sub).writeQ.contains r.line = true
      ∧ s.within (dmcRequestAccept c k s) lowRegs [.regs, .dram] := by
  have heq : dmcRequestAccept c k s = ((s.setSub c k ((s.sub c k).took r)).dramWrite r.line b true).2 := by
    rw [dmcRequestAccept, hready, hnext]
    rw [if_neg (by decide)]
    dsimp only
    rw [State.acceptReq, hat]
    dsimp only
    rw [hop]
    dsimp only
    rw [hmirror]
    rfl
  have htaken : s.queueStep (s.setSub c k ((s.sub c k).took r)) := State.setSub_queueStep rfl
  have hframe := (s.setSub_within c k ((s.sub c k).took r) lowRegs).parts (l' := [.regs, .dram]) (by simp)
  rw [heq]
  generalize s.setSub c k ((s.sub c k).took r) = t at *
  have hat' : t.locate r.line = some a := (htaken.locate _).trans hat
  have halive' : t.rankDead a = false := (htaken.rankDead (State.locate_ch hat)).trans halive
  have hsound' : t.poisoned r.line = false := (htaken.poisoned _).trans hsound
  refine ⟨fun l => ?_, State.dramWrite_queued t hat' halive' hsound' b, hframe.trans (t.dramWrite_within _ _ _)⟩
  rw [State.dramWrite_lineBytes hat' halive' hsound', htaken.lineBytes]

/-- An answer reaches the thread that waits for it, whose shard alone changes with it. -/
theorem State.auxAnswer_leaves (s : State) {n : Nat} {cas : Option Nat} (hwait : (s.thread (n / 512) (n % 512)).auxSt = .waiting cas)
    (ok : Bool) (line : Option (List Byte)) :
    ((s.auxAnswer n ok line).thread (n / 512) (n % 512)).auxSt = .answered cas ok (line.map (wordsOf 8))
      ∧ (s.auxAnswer n ok line).dram = s.dram ∧ s.within (s.auxAnswer n ok line) ∅ [.shards] := by
  rw [State.auxAnswer_waiting s hwait]
  exact ⟨by rw [State.thread_setThread, if_pos rfl], rfl, (s.setThread_inShard _ _ _ _).2⟩

/-- A read that has left its queue, and is counted. -/
def State.dequeueRead (s : State) (c k i : Nat) : State :=
  (s.setSub c k { s.sub c k with readQ := (s.sub c k).readQ.eraseIdx i }).dmcBump c Cnt.DMC_READS

theorem State.dequeueRead_leaves (s : State) (c k i : Nat) :
    ((s.dequeueRead c k i).sub c k).readQ = (s.sub c k).readQ.eraseIdx i
      ∧ (s.dequeueRead c k i).reg (Reg.DMC_CNT c Cnt.DMC_READS) = s.reg (Reg.DMC_CNT c Cnt.DMC_READS) + 1
      ∧ s.onlyParts (s.dequeueRead c k i) [.regs, .dram] :=
  ⟨(congrArg DmcSub.readQ (s.sub_setSub_self c k _) :), State.reg_bump_self _ _,
    (((s.setSub_within c k _ Set.univ).parts (by simp)).trans ((State.bump_within _ (Set.mem_univ _)).parts (by simp))).2⟩

/-- A queued read that completes leaves its queue, is counted and answers its thread (R190, R262). -/
theorem dmcReadDone_answers {cas : Option Nat} (hr : (s.sub c k).readQ[i]? = some r) (hat : s.locate r.line = some a)
    (hdrain : (s.sub c k).draining = false) (hfirst : s.firstInBank (s.sub c k).readQ i = true) (hfreq : s.dram.freq ≠ .selfRefresh)
    (hrefresh : s.refreshFirst a = false) (hwait : (s.thread (r.thread / 512) (r.thread % 512)).auxSt = .waiting cas) :
    ((dmcReadDone c k i .ok s).thread (r.thread / 512) (r.thread % 512)).auxSt = .answered cas true (r.data.map (wordsOf 8))
      ∧ ((dmcReadDone c k i .ok s).sub c k).readQ = (s.sub c k).readQ.eraseIdx i
      ∧ (dmcReadDone c k i .ok s).reg (Reg.DMC_CNT c Cnt.DMC_READS) = s.reg (Reg.DMC_CNT c Cnt.DMC_READS) + 1
      ∧ s.onlyParts (dmcReadDone c k i .ok s) [.regs, .dram, .shards] := by
  have heq : dmcReadDone c k i .ok s = ((s.dequeueRead c k i).rowTouch a).auxAnswer r.thread true r.data := by
    unfold dmcReadDone
    dsimp only
    rw [hr]
    dsimp only
    rw [hat]
    exact if_neg (by simp [hdrain, hfirst, hfreq, hrefresh])
  obtain ⟨hqueue, hcount, htaken⟩ := s.dequeueRead_leaves c k i
  rw [heq, State.rowTouch]
  generalize s.dequeueRead c k i = t at *
  have hrow := (t.rowTouchIn_reg a (t.servingRank a) c (show Cnt.DMC_READS < 4 by decide)).trans hcount
  have hrest := (t.rowTouchIn_keeps DmcSub.readQ a (t.servingRank a) c k).trans hqueue
  have hall := State.onlyParts_trans htaken (t.rowTouchIn_within a (t.servingRank a)).2
  generalize t.rowTouchIn a (t.servingRank a) = u at *
  obtain ⟨hanswer, hdram, hlast⟩ := u.auxAnswer_leaves (ok := true) (line := r.data) (n := r.thread) (cas := cas)
    (by rw [State.thread_congr (congrArg ShardSt.threads (hall.shard_eq (by simp) _)), hwait])
  exact ⟨hanswer, by rw [State.sub, hdram]; exact hrest, (hlast.1 _ (Set.notMem_empty _)).trans hrow,
    State.onlyParts_trans (State.onlyParts_mono hall (by simp)) (State.onlyParts_mono hlast.2 (by simp))⟩

/-- A queued write is issued in a write phase, or where no read waits (R261). -/
theorem dmcWriteDone_issues {l : Nat} (hl : (s.sub c k).writeQ[i]? = some l) (hmay : (s.sub c k).draining = true ∨ (s.sub c k).readQ = [])
    (hread : (s.sub c k).readQ.any (fun r => r.line == l) = false) (hfreq : s.dram.freq ≠ .selfRefresh)
    (hrefresh : ∀ a, s.locate l = some a → s.refreshFirst a = false) : dmcWriteDone c k i s = s.issueWrite c k i := by
  have hphase : ¬ ((s.sub c k).draining = false ∧ (s.sub c k).readQ ≠ []) := by
    obtain hdrain | hnone := hmay
    · exact fun h => absurd (hdrain.symm.trans h.1) (by decide)
    · exact fun h => h.2 hnone
  unfold dmcWriteDone
  dsimp only
  rw [hl]
  dsimp only
  rw [hread]
  cases hat : s.locate l with
  | none => exact if_neg (by simpa [hfreq] using hphase)
  | some a => exact if_neg (by simpa [hfreq, hrefresh a hat] using hphase)

theorem bytesPut_length {b x : List Byte} {o : Nat} (ho : o + x.length ≤ b.length) : (bytesPut b o x).length = b.length := by
  rw [bytesPut, List.length_append, List.length_append, bytesAt_length, List.length_drop]
  omega

theorem State.lineBytes_length (s : State) (l : Nat) : (s.lineBytes l).length = 64 := by
  rw [State.lineBytes, memRead_eq_map, List.length_map, List.length_range]

/-- A compare that finds its word swaps it in the line, with nothing between read and write (R190, R260). -/
theorem rmw_swaps {w : Nat} {expect new : Word64} (hnext : s.nextCas c k = some r) (hop : r.op = .cas w expect new) (hw : w < 8)
    (hmirror : r.mirror = none) (hready : s.dmcReady = true) (hfree : (s.sub c k).readQ.any (fun x => x.line == r.line) = false)
    (hat : s.locate r.line = some a) (halive : s.rankDead a = false) (hsound : s.poisoned r.line = false)
    (hfound : (wordsOf 8 (s.lineBytes r.line)).getD w 0 = expect)
    (hwait : (s.thread (r.thread / 512) (r.thread % 512)).auxSt = .waiting (some w)) (hc : c < 12) :
    (rmw c k .ok s).lineBytes r.line = bytesPut (s.lineBytes r.line) (8 * w) (leBytes 8 new.toNat)
      ∧ ((rmw c k .ok s).thread (r.thread / 512) (r.thread % 512)).auxSt
        = .answered (some w) true (some (wordsOf 8 (s.lineBytes r.line)))
      ∧ s.onlyParts (rmw c k .ok s) [.regs, .dram, .shards] := by
  have ha := State.locate_ch hat
  have htaken : s.queueStep (s.setSub c k ((s.sub c k).took r)) := State.setSub_queueStep rfl
  obtain ⟨hanswer, hread⟩ := State.dramRead_live _ ((htaken.locate _).trans hat) ((htaken.rankDead ha).trans halive)
    ((htaken.poisoned _).trans hsound)
  rw [htaken.lineBytes] at hanswer
  have heq : rmw c k .ok s = ((((s.setSub c k ((s.sub c k).took r)).dramRead r.line true .ok).2.dmcBump c Cnt.DMC_RMW).dramWrite r.line
      (bytesPut (s.lineBytes r.line) (8 * w) (leBytes 8 new.toNat)) true).2.auxAnswer r.thread true (some (s.lineBytes r.line)) := by
    unfold rmw
    dsimp only
    rw [hnext]
    dsimp only
    rw [hop]
    dsimp only
    rw [if_neg (by simp [hready, hfree]), hanswer]
    dsimp only
    rw [if_pos hfound, hmirror]
    rfl
  have hstep := (htaken.trans hread).trans (State.dmcBump_queueStep _ hc (show Cnt.DMC_RMW < 32 by decide))
  rw [heq]
  generalize ((s.setSub c k ((s.sub c k).took r)).dramRead r.line true .ok).2.dmcBump c Cnt.DMC_RMW = t at *
  have hwrite := State.dramWrite_lineBytes ((hstep.locate _).trans hat) ((hstep.rankDead ha).trans halive)
    ((hstep.poisoned _).trans hsound) (bytesPut (s.lineBytes r.line) (8 * w) (leBytes 8 new.toNat)) r.line
  have hlength : (bytesPut (s.lineBytes r.line) (8 * w) (leBytes 8 new.toNat)).length = 64 := by
    rw [bytesPut_length (by rw [leBytes_length, State.lineBytes_length]; omega), State.lineBytes_length]
  rw [if_pos rfl, bytesAt_whole hlength] at hwrite
  have hall := State.onlyParts_trans hstep.frame.2
    (t.dramWrite_within r.line (bytesPut (s.lineBytes r.line) (8 * w) (leBytes 8 new.toNat)) true).2
  generalize (t.dramWrite r.line (bytesPut (s.lineBytes r.line) (8 * w) (leBytes 8 new.toNat)) true).2 = u at *
  obtain ⟨hgives, hdram, hlast⟩ := u.auxAnswer_leaves (ok := true) (line := some (s.lineBytes r.line)) (n := r.thread) (cas := some w)
    (by rw [State.thread_congr (congrArg ShardSt.threads (hall.shard_eq (by simp) _)), hwait])
  exact ⟨by rw [State.lineBytes, hdram]; exact hwrite, hgives,
    State.onlyParts_trans (State.onlyParts_mono hall (by simp)) (State.onlyParts_mono hlast.2 (by simp))⟩

/-- A row without an access for IDLE_TCK closes and is counted (R263). -/
theorem idleClose_closes {b row m : Nat} (hopen : Tbl.get none (s.sub c k).rows b = some (row, m))
    (hidle : s.tckTicks (s.fld (Reg.DMC_SCHED c) Fld.DMC_SCHED_IDLE_TCK) ≤ s.clk.mono - m) :
    Tbl.get none ((idleClose c k b s).sub c k).rows b = none
      ∧ (idleClose c k b s).reg (Reg.DMC_CNT c Cnt.DMC_IDLE_CLOSES) = s.reg (Reg.DMC_CNT c Cnt.DMC_IDLE_CLOSES) + 1
      ∧ s.within (idleClose c k b s) {Reg.DMC_CNT c Cnt.DMC_IDLE_CLOSES} [.regs, .dram] := by
  have heq : idleClose c k b s
      = (s.setSub c k { s.sub c k with rows := Tbl.set none (s.sub c k).rows b none }).dmcBump c Cnt.DMC_IDLE_CLOSES := by
    unfold idleClose
    dsimp only
    rw [hopen]
    exact if_pos hidle
  have hrows : ((s.setSub c k { s.sub c k with rows := Tbl.set none (s.sub c k).rows b none }).sub c k).rows
      = Tbl.set none (s.sub c k).rows b none := (congrArg DmcSub.rows (s.sub_setSub_self c k _) :)
  have hset := s.setSub_within c k { s.sub c k with rows := Tbl.set none (s.sub c k).rows b none } {Reg.DMC_CNT c Cnt.DMC_IDLE_CLOSES}
  rw [heq]
  refine ⟨?_, State.reg_bump_self _ _, (hset.parts (by simp)).trans ((State.bump_within _ (Set.mem_singleton _)).parts (by simp))⟩
  exact (congrArg (Tbl.get none · b) hrows).trans ((Tbl.get_set _ _ _ _ _).trans (if_pos rfl))

end

/-! ### The obligation -/

/-- Settles O32: each request is followed to its queue, its line and its thread; queues, counters and rows leave the lines. -/
theorem dramQueues : Obligations.DramQueues := by
  refine ⟨fun s c k r a hnext hready hat hop halive hsound hqueue => ?_,
    fun s c k r a b hnext hready hat hop hmirror halive hsound => ?_,
    fun s c k i r a cas hr hat hdrain hfirst hfreq hrefresh hwait => ?_,
    fun s c k i hi hmay hread hfreq hrefresh => ?_,
    fun s c k r a w expect new hnext hop hw hmirror hready hfree hat halive hsound hfound hwait => ?_,
    fun s c k b row m hopen hidle => ?_⟩
  · exact (congrArg (done s) (dmcRequestAccept_queues hnext hready hat hop halive hsound hqueue)).trans
      (done_eq_next (s.setSub_within _ _ _ ∅).2 (by decide))
  · obtain ⟨hlines, hqueued, hframe⟩ := dmcRequestAccept_writes hnext hready hat hop hmirror halive hsound
    exact ⟨_, done_eq_next hframe.2 (by decide), (hlines _).trans (if_pos rfl), fun l hl => (hlines l).trans (if_neg hl), hqueued, hframe.2⟩
  · obtain ⟨hanswer, hqueue, hcount, hframe⟩ := dmcReadDone_answers hr hat hdrain hfirst hfreq hrefresh hwait
    exact ⟨_, done_eq_next hframe (by decide), hanswer, hqueue, hcount, hframe⟩
  · have hl := List.getElem?_eq_getElem hi
    have hissues := dmcWriteDone_issues hl hmay (by rw [← hread, hl]; exact congrArg _ (funext fun r => by simp [eq_comm]))
      hfreq fun a => hrefresh _ a hl
    obtain ⟨hqueue, hcount, hstep⟩ := s.issueWrite_leaves c.isLt hl
    exact ⟨_, (congrArg (done s) hissues).trans (done_eq_next hstep.frame.2 (by decide)), hqueue, hcount, hstep.frame.2⟩
  · obtain ⟨hline, hanswer, hframe⟩ := rmw_swaps hnext hop hw hmirror hready hfree hat halive hsound hfound hwait c.isLt
    exact ⟨_, done_eq_next hframe (by decide), hline, hanswer, hframe⟩
  · obtain ⟨hclosed, hcount, hframe⟩ := idleClose_closes hopen hidle
    exact ⟨_, done_eq_next hframe.2 (by decide), hclosed, hcount, hframe.onlyRegs (by simp), hframe.2⟩

end Sys2Proof.Machine
end

section
/-! PROOF. The READ with which a standard program begins (R188, R214, R222): its microword, its issue, and what it leaves. -/

namespace Sys2Proof.Machine

/-! ### The microword of the READ (R180, R188) -/

theorem readWord_toNat {pc : Nat} (hpc : pc < 16384) : (StdAct.read.word pc).toNat = pc * 2 ^ 178 + 2 ^ 172 + 2 ^ 108 := by
  rw [StdAct.word, stdWord, BitVec.toNat_ofNat, Nat.mod_eq_of_lt (by omega)]
  omega

section
variable {pc : Nat} (hpc : pc < 16384)
include hpc

theorem mwNext_readWord : mwNext (StdAct.read.word pc) = pc := by
  rw [mwNext, mw, readWord_toNat hpc]
  omega

theorem mwCond_readWord : mwCond (StdAct.read.word pc) = 1 := by
  rw [mwCond, mw, readWord_toNat hpc]
  omega

theorem mwRecOp_readWord : mwRecOp (StdAct.read.word pc) = 1 := by
  rw [mwRecOp, mw, readWord_toNat hpc]
  omega

/-- Bits outside NEXT, COND and the record operation are zero. -/
theorem mw_readWord_zero (lo len : Nat) (h : lo + len ≤ 108 ∨ 112 ≤ lo ∧ lo + len ≤ 172) :
    mw (StdAct.read.word pc) lo len = 0 := by
  rw [mw, readWord_toNat hpc, ← Nat.mod_mul_right_div_self, ← Nat.pow_add]
  obtain hlow | ⟨hlo, hhi⟩ := h
  · have hdvd : 2 ^ (lo + len) ∣ pc * 2 ^ 178 + 2 ^ 172 + 2 ^ 108 :=
      dvd_add (dvd_add (Dvd.dvd.mul_left (pow_dvd_pow 2 (by omega)) pc) (pow_dvd_pow 2 (by omega))) (pow_dvd_pow 2 hlow)
    rw [Nat.mod_eq_zero_of_dvd hdvd, Nat.zero_div]
  · have hdvd : 2 ^ (lo + len) ∣ pc * 2 ^ 178 + 2 ^ 172 :=
      dvd_add (Dvd.dvd.mul_left (pow_dvd_pow 2 (by omega)) pc) (pow_dvd_pow 2 hhi)
    have hpow : 2 ^ 112 ≤ 2 ^ lo := Nat.pow_le_pow_right (by decide) hlo
    rw [Nat.add_mod, Nat.mod_eq_zero_of_dvd hdvd, Nat.zero_add, Nat.mod_mod]
    exact Nat.div_eq_of_lt ((Nat.mod_le _ _).trans_lt (by omega))

end

/-! ### Its issue (R181, R190) -/

/-- A thread whose microword has been a READ at its own address, before the record port is asked: a step asks for the halt that
follows it (R205). -/
def Thread.pastRead (x : Thread) : Thread :=
  { x with bpSkip := false, ending := false, stepping := false, haltReq := if x.stepping then some 4 else none }

/-- A thread that waits at the record port (R188). -/
def Thread.atPort (x : Thread) : Thread := { x with readUsed := true, read := .port }

/-- A read request joins the record port's queue, for one credit (R188). -/
def State.requestRead (s : State) (h i : Nat) (it : Item) : State :=
  let t := (s.setThread h i (s.thread h i).atPort).useCredit (lnkRecord h) 1
  t.setShard h { t.shard h with recPort := (t.shard h).recPort ++ [.item it.rank] }

/-- What the issue of a READ makes of its shard. -/
def State.issuedRead (s : State) (h i : Nat) (it : Item) (x : Thread) : State :=
  let t := ((s.setThread h i x.pastRead).countIssue h x.stepping).requestRead h i it
  t.setThread h i (t.thread h i)

/-- What a program has been answered is no cause of an exception. -/
theorem State.excOf_std (s : State) (h : Nat) (it : Item) (x : Thread) (l : List StdObs) (asked : Bool) (m : Microword) :
    s.excOf h it { x with std := l, stdAsked := asked } m = s.excOf h it x m := rfl

theorem State.issueWord_issues {s : State} {h i : Nat} {it : Item} {x : Thread} {m : Microword} (hexc : s.excOf h it x m = none)
    (hcredit : s.credit (lnkRecord h) ≠ 0) : s.issueWord h i it x m = s.issue h i it x m := by
  rw [State.issueWord, hexc]
  exact if_neg fun hwait => hcredit hwait.2

/-- A standard program issues the microword of its next action (log 76). -/
theorem State.issueNow_std {s : State} {h i : Nat} {it : Item} {x y : Thread} {p : StdProg} {m : Microword}
    (hx : (s.thread h i).fire s.clk.mono = x) (hitem : x.item = some it) (hstd : s.stdAt x.pc = some p)
    (hstep : s.stdStep h p it x = (y, m)) : s.issueNow h i .ok = s.issueWord h i it y m := by
  unfold State.issueNow
  rw [hx]
  dsimp only
  rw [hitem]
  dsimp only
  rw [if_neg (by decide), hstd]
  dsimp only
  rw [hstep]

/-- A program that has asked for nothing yet begins with its READ (R222). -/
theorem State.stdStep_first {x : Thread} (s : State) (h : Nat) (p : StdProg) (it : Item) (hfirst : x.std = [])
    (hunread : x.readUsed = false) : s.stdStep h p it x = ({ x with std := [], stdAsked := true }, StdAct.read.word x.pc) := by
  have hheard : s.stdHeard h p it x = [] := by
    rw [State.stdHeard, if_pos hfirst, hunread]
    rfl
  rw [State.stdStep, hheard]
  rfl

section
variable {s : State} {h i : Nat} {it : Item} {x : Thread} (hpc : x.pc < 16384)
include hpc

theorem Thread.seq_readWord :
    x.seq (StdAct.read.word x.pc) (x.cond it (mwCond (StdAct.read.word x.pc))) = .go x.pc x.stack := by
  have halways : x.cond it 1 = true := rfl
  have hop : mwSeqOp (StdAct.read.word x.pc) = 0 := mw_readWord_zero hpc _ _ (by decide)
  rw [mwCond_readWord hpc, halways, Thread.seq, hop, Bool.not_true, if_neg Bool.false_ne_true]
  rw [mwNext_readWord hpc, goTo, if_neg (by omega)]
  rfl

theorem State.issueRec_readWord (s : State) : s.issueRec h i it x (StdAct.read.word x.pc) = s.requestRead h i it := by
  unfold State.issueRec
  rw [mwRecOp_readWord hpc]
  rfl

theorem State.issue_readWord :
    s.issue h i it x (StdAct.read.word x.pc) = (s.issuedRead h i it x).boundary h i := by
  have hseq := Thread.seq_readWord (it := it) hpc
  have hzero := mw_readWord_zero hpc
  have hrec := mwRecOp_readWord hpc
  have hlocal : s.recLocal h it x (StdAct.read.word x.pc) = (x, none) := by
    unfold State.recLocal
    rw [hrec]
    rfl
  have hasks := State.issueRec_readWord (h := h) (i := i) (it := it) hpc
  have hchn : mwChnOp (StdAct.read.word x.pc) = 0 := hzero _ _ (by decide)
  have htmr : mwTmrOp (StdAct.read.word x.pc) = 0 := hzero _ _ (by decide)
  have hhdr : mwHdrOp (StdAct.read.word x.pc) = 0 := hzero _ _ (by decide)
  have hlck : mwLckOp (StdAct.read.word x.pc) = 0 := hzero _ _ (by decide)
  have hsrch : mwSrchOp (StdAct.read.word x.pc) = 0 := hzero _ _ (by decide)
  have halua : mwAluA (StdAct.read.word x.pc) = 0 := hzero _ _ (by decide)
  have halub : mwAluB (StdAct.read.word x.pc) = 0 := hzero _ _ (by decide)
  have hbrk : mwBrk (StdAct.read.word x.pc) = false := congrArg (fun n => n == 1) (hzero 31 1 (by decide))
  have hcnt : mwCntEn (StdAct.read.word x.pc) = false := congrArg (fun n => n == 1) (hzero 15 1 (by decide))
  unfold State.issue
  simp only [hseq, hlocal, hasks, State.issueChn_idle _ _ _ _ _ hchn,
    State.issueTmr_idle _ _ _ _ _ _ htmr, Thread.hdr_idle _ hhdr, hlck, State.issueLock_idle, hsrch, halua, halub, hbrk, hcnt, hhdr, htmr,
    Thread.alu_none, if_false, false_and, Bool.false_and, zero_ne_one, Bool.false_eq_true, OfNat.zero_ne_ofNat, Option.isSome_ite]
  rfl

/-- A program that has asked for nothing yet issues its READ, where the record port has a credit (R222, log 76). -/
theorem State.issueNow_firstRead {p : StdProg} (hx : (s.thread h i).fire s.clk.mono = x) (hitem : x.item = some it)
    (hstd : s.stdAt x.pc = some p) (hfirst : x.std = []) (hunread : x.readUsed = false) (hcredit : 0 < s.credit (lnkRecord h))
    (hexc : s.excOf h it x (StdAct.read.word x.pc) = none) :
    s.issueNow h i .ok = (s.issuedRead h i it { x with std := [], stdAsked := true }).boundary h i := by
  rw [State.issueNow_std hx hitem hstd (s.stdStep_first h p it hfirst hunread),
    State.issueWord_issues ((s.excOf_std h it x [] true _).trans hexc) (by omega)]
  exact State.issue_readWord (x := { x with std := [], stdAsked := true }) hpc

end

/-! ### What it leaves -/

/-- The request stands last in the record port's queue, its thread waits, and its credit is spent. -/
theorem State.requestRead_leaves (s : State) (h i : Nat) (it : Item) :
    ((s.requestRead h i it).shard h).recPort = (s.shard h).recPort ++ [.item it.rank]
      ∧ (s.requestRead h i it).thread h i = (s.thread h i).atPort
      ∧ (s.requestRead h i it).credit (lnkRecord h) = s.credit (lnkRecord h) - 1
      ∧ s.onlyParts (s.requestRead h i it) [.shards, .links] := by
  have hshard := s.shard_setThread h i (s.thread h i).atPort
  have hthread := s.thread_setThread h i i (s.thread h i).atPort
  have hframe := (s.setThread_inShard h i (s.thread h i).atPort ∅).2.2
  unfold State.requestRead
  dsimp only
  generalize s.setThread h i (s.thread h i).atPort = t at *
  refine ⟨?_, ?_, ?_, ?_⟩
  · rw [State.shard_setShard_self]
    exact congrArg (fun y : ShardSt => y.recPort ++ [.item it.rank]) hshard
  · refine (State.thread_congr ?_ i).trans (hthread.trans (if_pos rfl))
    rw [State.shard_setShard_self]
    rfl
  · exact ((t.credit_useCredit (lnkRecord h) (lnkRecord h) 1).trans (if_pos rfl)).trans
      (congrArg (· - 1) (hframe.credit_eq (by simp) _))
  · exact State.onlyParts_trans (State.onlyParts_mono hframe (by simp))
      (State.onlyParts_trans (State.onlyParts_mono (t.useCredit_rest _ 1) (by simp))
        (State.onlyParts_mono (State.setShard_rest _ h _) (by simp)))

theorem State.issuedRead_leaves (s : State) (h i : Nat) (it : Item) (x : Thread) :
    ((s.issuedRead h i it x).shard h).recPort = (s.shard h).recPort ++ [.item it.rank]
      ∧ (s.issuedRead h i it x).thread h i = x.pastRead.atPort
      ∧ (s.issuedRead h i it x).credit (lnkRecord h) = s.credit (lnkRecord h) - 1
      ∧ s.onlyParts (s.issuedRead h i it x) [.regs, .shards, .links] := by
  have hshard := s.shard_setThread h i x.pastRead
  have hcounted : s.onlyParts ((s.setThread h i x.pastRead).countIssue h x.stepping) [.regs, .shards] :=
    State.onlyParts_trans (State.onlyParts_mono (s.setThread_inShard h i x.pastRead ∅).2.2 (by simp))
      (State.onlyParts_mono (State.countIssue_within (R := Set.univ) trivial fun _ => trivial).2 (by simp))
  have hthread : ((s.setThread h i x.pastRead).countIssue h x.stepping).thread h i = x.pastRead := by
    rw [State.thread_countIssue, State.thread_setThread, if_pos rfl]
  have hport : (((s.setThread h i x.pastRead).countIssue h x.stepping).shard h).recPort = (s.shard h).recPort := by
    rw [(State.countIssue_within (R := Set.univ) trivial fun _ => trivial).shard_eq (by simp), hshard]
  unfold State.issuedRead
  generalize (s.setThread h i x.pastRead).countIssue h x.stepping = t at *
  obtain ⟨hasked, hwaits, hspent, hframe⟩ := t.requestRead_leaves h i it
  have hset := (State.setThread_inShard (t.requestRead h i it) h i ((t.requestRead h i it).thread h i) ∅).2.2
  dsimp only
  refine ⟨?_, ?_, ?_, ?_⟩
  · rw [State.shard_setThread, ← hport]
    exact hasked
  · rw [State.thread_setThread, if_pos rfl, hwaits, hthread]
  · rw [hset.credit_eq (by simp), hspent, hcounted.credit_eq (by simp)]
  · exact State.onlyParts_trans (State.onlyParts_mono hcounted (by simp))
      (State.onlyParts_trans (State.onlyParts_mono hframe (by simp)) (State.onlyParts_mono hset (by simp)))

/-- A thread that waits at the record port is not at a boundary (R185). -/
theorem State.boundary_atPort {s : State} {h i : Nat} {x : Thread} (hx : s.thread h i = x.atPort) : s.boundary h i = s := by
  rw [State.boundary, hx]
  rfl

end Sys2Proof.Machine
end

section
/-! PROOF. What the standard programs keep: connection states (R239), ports and port maps (R232, R233), policer (R242) and counts (R241);
and O30. -/

namespace Sys2Proof.Machine

/-! ### Connection states (R239) -/

/-- A packet of a TCP record (states 1 to 6) leaves it in one of those states. -/
theorem connNext_tcp {st : Nat} (hlo : 1 ≤ st) (hhi : st ≤ 6) (flags : Nat) (p : Seen) :
    1 ≤ (connNext st flags p).1 ∧ (connNext st flags p).1 ≤ 6 := by
  unfold connNext
  dsimp only
  split
  · -- every branch of the protocol names one of its six states, or keeps the record's
    repeat' split
    all_goals dsimp only; omega
  · rw [if_neg (by omega), if_neg (by omega)]
    exact ⟨hlo, hhi⟩

/-- A packet moves a UDP record from state 7 to 8 at most. -/
theorem connNext_udp {st : Nat} (hst : st = 7 ∨ st = 8) (flags : Nat) (p : Seen) :
    (connNext st flags p).1 = 7 ∨ (connNext st flags p).1 = 8 := by
  unfold connNext
  dsimp only
  rw [if_neg (by omega)]
  split
  · exact .inr rfl
  · rw [if_neg (by omega)]
    exact hst

/-- A packet moves an echo record from state 9 to 10 at most. -/
theorem connNext_echo {st : Nat} (hst : st = 9 ∨ st = 10) (flags : Nat) (p : Seen) :
    (connNext st flags p).1 = 9 ∨ (connNext st flags p).1 = 10 := by
  unfold connNext
  dsimp only
  rw [if_neg (by omega), if_neg (by omega)]
  split
  · exact .inr rfl
  · exact hst

theorem connNext_other {st : Nat} (hst : 11 ≤ st) (flags : Nat) (p : Seen) : connNext st flags p = (st, flags) := by
  unfold connNext
  dsimp only
  rw [if_neg (by omega), if_neg (by omega), if_neg (by omega)]

theorem connNext_rst {st : Nat} (hlo : 1 ≤ st) (hhi : st ≤ 5) (flags : Nat) {p : Seen} (htcp : p.tcp = true) (hrst : p.rst = true) :
    (connNext st flags p).1 = 6 := by
  unfold connNext
  dsimp only
  rw [if_pos ⟨hlo, by omega, htcp⟩, if_pos ⟨hrst, by omega⟩]

/-! ### Ports, bitmaps and port maps (R232, R233) -/

/-- A bit of a shard names one port beyond the well-known ones. -/
theorem natPort_names {s j : Nat} (hs : s < 16) (hj : j < 4032) :
    natShard (natPort s j) = s ∧ natBit (natPort s j) = j ∧ 1024 ≤ natPort s j ∧ natPort s j < 65536 := by
  unfold natShard natBit natPort
  omega

/-- Two ports with one place in one line are one port: a shard has an even number of entries. -/
theorem mapLine_injective {a b s u i j : Nat} (hs : s < 16) (hu : u < 16) (hi : i < 4032) (hj : j < 4032)
    (hline : mapLine a s i = mapLine b u j) (hplace : i % 2 = j % 2) : a = b ∧ s = u ∧ i = j := by
  unfold mapLine at hline
  omega

theorem bitmapLine_injective {a b s u m n : Nat} (hs : s < 16) (hu : u < 16) (hm : m < 8) (hn : n < 8)
    (hline : bitmapLine a s m = bitmapLine b u n) : a = b ∧ s = u ∧ m = n := by
  unfold bitmapLine at hline
  omega

theorem getD_listSet {α : Type} {l : List α} {i : Nat} (hi : i < l.length) (x d : α) (k : Nat) :
    (listSet l i x).getD k d = if k = i then x else l.getD k d := by
  rw [listSet_eq_set, List.getD_eq_getElem?_getD, List.getD_eq_getElem?_getD, List.getElem?_set]
  by_cases hk : i = k
  · rw [if_pos hk, if_pos hi, if_pos hk.symm, Option.getD_some]
  · rw [if_neg hk, if_neg (Ne.symm hk)]

theorem testBit_bit (v : Bool) : (bit v).testBit 0 = v := by cases v <;> rfl

theorem lineBit_setLineBit {l : List Word64} {i k : Nat} (v : Bool) (hl : l.length = 8) (hi : i < 512) :
    lineBit (setLineBit l i v) k = if k = i then v else lineBit l k := by
  rw [lineBit, lineBit, setLineBit, getD_listSet (by omega)]
  by_cases hword : k / 64 = i / 64
  · rw [if_pos hword, Word64.getLsbD_put _ _ _ _ (by omega), hword]
    by_cases hbit : k = i
    · subst hbit
      rw [if_pos ⟨le_refl _, Nat.lt_succ_self _⟩, if_pos rfl, Nat.sub_self, testBit_bit]
    · rw [if_neg (by dsimp only; omega), if_neg hbit]
  · rw [if_neg hword, if_neg fun hbit => hword (by rw [hbit])]

/-- Word i of a port map entry (R233). -/
def MapEntry.word (e : MapEntry) : Nat → Nat
  | 0 => e.privAddr % 2 ^ 32 + e.privPort % 65536 * 2 ^ 32 + e.zone % 65536 * 2 ^ 48
  | 1 => e.remAddr % 2 ^ 32 + e.remPort % 65536 * 2 ^ 32 + e.stamp % 65536 * 2 ^ 48
  | 2 => bit e.allocated + e.proto % 256 * 2 ^ 8
  | _ => e.time % 2 ^ 32

theorem listSet_length {α : Type} (l : List α) (i : Nat) (x : α) : (listSet l i x).length = l.length := by
  rw [listSet_eq_set, List.length_set]

/-- A line after an entry was stored: the entry's words in its half, the old words in the other. -/
theorem getD_mapPut {l : List Word64} (hl : l.length = 8) (j : Nat) (e : MapEntry) {i : Nat} (hi : i < 4) (k : Nat) :
    (mapPut l j e).getD (k % 2 * 4 + i) 0 = if k % 2 = j % 2 then BitVec.ofNat 64 (e.word i) else l.getD (k % 2 * 4 + i) 0 := by
  unfold mapPut
  dsimp only
  simp only [getD_listSet, listSet_length, hl, show j % 2 * 4 + 3 < 8 by omega, show j % 2 * 4 + 2 < 8 by omega,
    show j % 2 * 4 + 1 < 8 by omega, show j % 2 * 4 + 0 < 8 by omega]
  by_cases hhalf : k % 2 = j % 2
  · rw [hhalf, if_pos rfl]
    obtain rfl | rfl | rfl | rfl : i = 0 ∨ i = 1 ∨ i = 2 ∨ i = 3 := by omega
    all_goals simp [MapEntry.word]
  · rw [if_neg hhalf, if_neg (by omega), if_neg (by omega), if_neg (by omega), if_neg (by omega)]

/-- A line that has the same words in the half of bit k holds the same entry there. -/
theorem mapGet_congr {l m : List Word64} {k : Nat} (h : ∀ i < 4, m.getD (k % 2 * 4 + i) 0 = l.getD (k % 2 * 4 + i) 0) :
    mapGet m k = mapGet l k := by
  unfold mapGet
  simp only [h 0 (by decide), h 1 (by decide), h 2 (by decide), h 3 (by decide)]

theorem mapGet_mapPut_other {l : List Word64} {i j : Nat} (e : MapEntry) (hl : l.length = 8) (hij : i % 2 ≠ j % 2) :
    mapGet (mapPut l j e) i = mapGet l i :=
  mapGet_congr fun w hw => by rw [getD_mapPut hl j e hw, if_neg hij]

theorem mapGet_mapPut_self {l : List Word64} {j : Nat} {e : MapEntry} (hl : l.length = 8) (hprivAddr : e.privAddr < 2 ^ 32)
    (hprivPort : e.privPort < 65536) (hzone : e.zone < 65536) (hremAddr : e.remAddr < 2 ^ 32) (hremPort : e.remPort < 65536)
    (hstamp : e.stamp < 65536) (hproto : e.proto < 256) (htime : e.time < 2 ^ 32) : mapGet (mapPut l j e) j = e := by
  have hword {i : Nat} (hi : i < 4) : (mapPut l j e).getD (j % 2 * 4 + i) 0 = BitVec.ofNat 64 (e.word i) := by
    rw [getD_mapPut hl j e hi, if_pos rfl]
  obtain ⟨privAddr, privPort, zone, remAddr, remPort, stamp, allocated, proto, time⟩ := e
  dsimp only at *
  unfold mapGet
  simp only [hword (i := 0) (by decide), hword (i := 1) (by decide), hword (i := 2) (by decide), hword (i := 3) (by decide), MapEntry.word,
    Word64.get, BitVec.toNat_ofNat, Nat.shiftRight_eq_div_pow, MapEntry.mk.injEq]
  refine ⟨by omega, by omega, by omega, by omega, by omega, by omega, ?_, ?_, by omega⟩
  · cases allocated <;> simp [bit] <;> omega
  · have hbit : bit allocated < 2 := by cases allocated <;> decide
    omega

/-! ### The policer (R242) and the counts (R241) -/

theorem Policer.take_cases (x : Policer) (n : Nat) : (x.take n).2.last = x.last
    ∧ ((x.take n).1 = 0 ∧ (x.take n).2.tc + 16 * n = x.tc ∧ (x.take n).2.tp + 16 * n = x.tp
      ∨ (x.take n).1 = 1 ∧ (x.take n).2.tc = x.tc ∧ x.tc < 16 * n ∧ (x.take n).2.tp + 16 * n = x.tp
      ∨ (x.take n).1 = 2 ∧ (x.take n).2 = x ∧ x.tp < 16 * n) := by
  unfold Policer.take
  dsimp only
  split
  · next hred => exact ⟨rfl, .inr (.inr ⟨rfl, rfl, hred⟩)⟩
  · split
    · next hred hyellow => exact ⟨rfl, .inr (.inl ⟨rfl, rfl, hyellow, Nat.sub_add_cancel (not_lt.1 hred)⟩)⟩
    · next hred hyellow =>
      exact ⟨rfl, .inl ⟨rfl, Nat.sub_add_cancel (not_lt.1 hyellow), Nat.sub_add_cancel (not_lt.1 hred)⟩⟩

theorem StdFlow.addPacket_saturates {f : StdFlow} (x : Nat × Nat × Nat) (h : f.dropped = false) :
    (f.addPacket x).1 = min (x.1 + 1) (2 ^ 40 - 1) ∧ (f.addPacket x).2.1 = min (x.2.1 + f.len) (2 ^ 48 - 1)
      ∧ (f.addPacket x).1 < 2 ^ 40 ∧ (f.addPacket x).2.1 < 2 ^ 48 := by
  rw [StdFlow.addPacket, h]
  simp only [Bool.false_eq_true, if_false, true_and]
  omega

/-! ### The obligation -/

/-- Settles O30: a first action is followed through its issue; the tables and counts are read field by field. -/
theorem standardPrograms : Obligations.StandardPrograms := by
  refine ⟨fun s h t it p x hx hmay hbreak hitem hstd hpc hfirst hunread hcredit hexc => ?_,
    fun st flags p hlo hhi => ⟨fun htcp => connNext_tcp hlo htcp flags p, fun hudp => connNext_udp hudp flags p,
      fun hecho => connNext_echo hecho flags p, fun hother => connNext_other hother flags p,
      fun htcp hkind hrst => connNext_rst hlo htcp flags hkind hrst⟩,
    fun s j hs hj => natPort_names hs hj,
    fun a b s u i j hs hu hi hj hline hplace => mapLine_injective hs hu hi hj hline hplace,
    fun a b s u m n hs hu hm hn hline => bitmapLine_injective hs hu hm hn hline,
    fun l i k v hl hi _ => lineBit_setLineBit v hl hi,
    fun l i j e hl hij hprivAddr hprivPort hzone hremAddr hremPort hstamp hproto htime =>
      ⟨mapGet_mapPut_self hl hprivAddr hprivPort hzone hremAddr hremPort hstamp hproto htime, mapGet_mapPut_other e hl hij⟩,
    fun x n => x.take_cases n,
    fun f x hkept _ _ => StdFlow.addPacket_saturates x hkept⟩
  obtain ⟨hport, hwaits, hspent, hframe⟩ := s.issuedRead_leaves h.val t.val it { x with std := [], stdAsked := true }
  have hissue : microwordIssue h.val t.val .ok s = s.issuedRead h.val t.val it { x with std := [], stdAsked := true } := by
    rw [microwordIssue, hmay, hbreak, State.issueNow_firstRead hpc hx.symm hitem hstd hfirst hunread hcredit hexc,
      State.boundary_atPort hwaits]
    rfl
  exact ⟨_, (congrArg (done s) hissue).trans (done_eq_next hframe (by decide)), hport, by rw [hwaits]; rfl, by rw [hwaits]; rfl, hspent⟩

end Sys2Proof.Machine
end

section
/-! PROOF. Buffers handed over and released (R283 to R286), and bytes read from them: the parts that change. -/

namespace Sys2Proof.Machine

section
variable (s : State)

/-! ### Bytes of a buffer -/

theorem State.dramBytes_poolStep (addr : Nat) (fg : Bool) (n len : Nat) : s.poolStep (s.dramBytes addr fg n len).2.2 := by
  induction n generalizing s addr len with
  | zero => exact .refl s
  | succ n ih =>
    cases len with
    | zero => exact .refl s
    | succ len => exact (s.dramRead_poolStep _ _ _).trans (ih _ _ _)

theorem State.bufRead_poolStep (x len : Nat) (e : Ecc) : s.poolStep (s.bufRead x len e).2.2 := by
  unfold State.bufRead
  split
  · cases e with
    | ok | uncorrectable => exact .refl s
    | corrected => exact s.bpmBump_poolStep (by decide)
  · exact s.dramBytes_poolStep _ _ _ _

/-! ### Checks (R284, R285) -/

theorem State.poolCheck_poolStep (r x : Nat) (give : Bool) (e : Ecc) : s.poolStep (s.poolCheck r x give e).2 := by
  have hread := s.metaRead_poolStep x e
  unfold State.poolCheck
  split
  · exact .refl s
  · extract_lets m
    split
    · exact hread
    · split
      · exact hread
      · split <;> exact hread

theorem State.setFld_poolStep {a : Nat} (h : a ∈ lowRegs) (f : Fld) (x : Nat) : s.poolStep (s.setFld a f x) :=
  (s.setFld_within h f x).parts (by simp [poolParts])

theorem State.poolFail_poolStep (r x cause owner : Nat) : s.poolStep (s.poolFail r x cause owner) := by
  have herr (t : State) (f : Fld) (v : Nat) : t.poolStep (t.setFld Reg.BPM_ERR f v) := t.setFld_poolStep (mem_lowRegs.2 (by decide)) f v
  unfold State.poolFail
  extract_lets counted a noted
  have hcounted : s.poolStep counted := by
    refine (s.setFld_poolStep (mem_lowRegs.2 (by decide)) _ 1).trans (State.bpmBump_poolStep _ ?_)
    split
    · decide
    · split <;> decide
  clear_value counted
  have hnoted : counted.poolStep noted := by
    unfold noted
    split
    · exact .refl counted
    · exact (((((herr _ _ _).trans (herr _ _ _)).trans (herr _ _ _)).trans (herr _ _ _)).trans (herr _ _ _)).trans (herr _ _ _)
  exact (hcounted.trans hnoted).trans ((noted.detect_within _ _ _ _).parts (by simp [poolParts]))

/-! ### Give and free (R283, R284) -/

theorem ptrPool_lt (x : Nat) : ptrPool x < 4 := Nat.mod_lt _ (by decide)

theorem State.poolHand_poolStep (r x w : Nat) (e : Ecc) : s.poolStep (s.poolHand r x w e) := by
  have hcheck := s.poolCheck_poolStep r x true e
  unfold State.poolHand
  split
  · exact .refl s
  · extract_lets c
    split
    · exact hcheck.trans (State.poolWithdraw_poolStep _ (ptrPool_lt x) 1)
    · exact hcheck.trans (State.poolFail_poolStep _ _ _ _ _)
    · exact (hcheck.trans (State.metaWrite_poolStep _ _ _)).trans (State.bpmBump_poolStep _ (by decide))

theorem State.poolRelease_poolStep (r x : Nat) (e : Ecc) : s.poolStep (s.poolRelease r x e) := by
  have hcheck := s.poolCheck_poolStep r x false e
  have hpool := ptrPool_lt x
  unfold State.poolRelease
  extract_lets p q c
  split
  · exact .refl s
  · split
    · exact s.setPools_poolStep _
    · split
      · exact hcheck.trans (State.poolWithdraw_poolStep _ hpool 1)
      · exact hcheck.trans (State.poolFail_poolStep _ _ _ _ _)
      · exact (((hcheck.trans (State.metaWrite_poolStep _ _ _)).trans (State.setPools_poolStep _ _)).trans
          (State.bpmBump_poolStep _ (by simp only [Cnt.BPM_FREE]; omega))).trans (State.setPools_poolStep _ _)

end

end Sys2Proof.Machine
end

section
/-! PROOF. Delivery of host-queue frames (R299, R363, R364): what the copy, its buffer and the host's ring leave of the TM. -/

namespace Sys2Proof.Machine

/-! ### Steps that leave the TM -/

/-- Parts that a copy, its buffer and a host ring may change. -/
def deliverParts : List Part := [.regs, .fault, .buf, .dram, .pools, .hif]

/-- A step outside the TM's queues. -/
def State.deliverStep (s t : State) : Prop := s.onlyParts t deliverParts

theorem State.deliverStep.refl (s : State) : s.deliverStep s := s.onlyParts_refl _

theorem State.deliverStep.trans {s t u : State} (a : s.deliverStep t) (b : t.deliverStep u) : s.deliverStep u :=
  State.onlyParts_trans a b

theorem State.poolStep.deliver {s t : State} (a : s.poolStep t) : s.deliverStep t :=
  State.onlyParts_mono a.2 (by simp [poolParts, deliverParts])

theorem State.gaveBack.deliver {s t : State} (a : s.gaveBack t) : s.deliverStep t :=
  State.onlyParts_mono a.1 (by simp [releaseParts, deliverParts])

section
variable (s : State)

theorem State.setReg_deliverStep (a : Nat) (v : Word64) : s.deliverStep (s.setReg a v) :=
  State.onlyParts_mono (s.setReg_rest a v) (by simp [deliverParts])

theorem State.bump_deliverStep (a : Nat) : s.deliverStep (s.bump a) := s.setReg_deliverStep a _

theorem State.setHif_only (x : HifSt) : s.onlyParts { s with hif := x } [.hif] :=
  ⟨rfl, fun p hp => by
    cases p with
    | hif => exact absurd hp (by simp)
    | _ => rfl⟩

theorem State.setHif_deliverStep (x : HifSt) : s.deliverStep { s with hif := x } :=
  State.onlyParts_mono (s.setHif_only x) (by simp [deliverParts])

/-! ### The copy's bytes (R294) -/

theorem State.bufReport_gaveBack (kind addr : Nat) : s.gaveBack (s.bufReport kind addr) :=
  (s.sendFault_gaveBack _ _ _ _).trans (State.setReg_gaveBack _ _ (by simp [releaseRegs]))

theorem State.bufFault_deliverStep (kind addr cnt : Nat) : s.deliverStep (s.bufFault kind addr cnt) :=
  (s.bufReport_gaveBack kind addr).deliver.trans (State.bump_deliverStep _ _)

theorem State.frameTableFail_deliverStep (head : Nat) : s.deliverStep (s.frameTableFail head) :=
  ((s.bufReport_gaveBack _ _).trans (State.setBuf_gaveBack _ _)).deliver

theorem State.linkFail_deliverStep (head cnt i : Nat) : s.deliverStep (s.linkFail head cnt i) := by
  unfold State.linkFail
  extract_lets cells
  split
  · exact .refl s
  · exact ((s.withdrawCells_gaveBack _).trans (State.setBuf_gaveBack _ _)).deliver.trans (State.bufFault_deliverStep _ _ _ _)

theorem State.readEcc_deliverStep (head cnt : Nat) (e : CellEcc) (tx : Bool) : s.deliverStep (s.readEcc head cnt e tx).2.2 := by
  cases e with
  | ok => exact .refl s
  | corrected n => exact s.setReg_deliverStep _ _
  | cellUe i =>
    unfold State.readEcc
    dsimp only
    split
    · exact .refl s
    · split
      · exact s.bufFault_deliverStep _ _ _
      · exact (s.bufReport_gaveBack _ _).deliver
  | linkUe i =>
    unfold State.readEcc
    dsimp only
    split
    · exact s.linkFail_deliverStep _ _ _
    · exact .refl s

theorem State.hostBytes_deliverStep (c : Copy) (e : CellEcc) : s.deliverStep (s.hostBytes c e).2.2 := by
  unfold State.hostBytes
  split
  · exact s.readEcc_deliverStep _ _ _ _
  · exact s.readEcc_deliverStep _ _ _ _
  · exact (s.bufRead_poolStep _ _ _).deliver

theorem State.releaseBody_deliverStep (q : Nat) (c : Copy) : s.deliverStep (s.releaseBody q c) := by
  unfold State.releaseBody
  split
  · exact (s.release_gaveBack _ _).deliver
  · exact (s.freeCell_gaveBack _).deliver
  · exact (s.poolRelease_poolStep _ _ _).deliver

/-! ### The host's ring (R363, R364) -/

theorem State.ringNext_deliverStep (r : Nat) : s.deliverStep (s.ringNext r) :=
  (s.setReg_deliverStep _ _).trans (State.setHif_deliverStep _ _)

theorem State.rxFill_deliverStep (k : Nat) (w0 w1 : Word64) (src : Nat) (head frame : List Byte) :
    s.deliverStep (s.rxFill k w0 w1 src head frame) := by
  unfold State.rxFill
  extract_lets room data cut w2 written stamped status counted noted
  have hcounted : s.deliverStep counted :=
    ((((s.setHif_deliverStep _).trans (written.setHif_deliverStep _)).trans (stamped.setHif_deliverStep _)).trans
      (status.bump_deliverStep _)).trans (State.bump_deliverStep _ _)
  clear_value counted
  refine State.deliverStep.trans (t := noted) (hcounted.trans ?_) (noted.ringNext_deliverStep k)
  unfold noted
  split
  · exact counted.bump_deliverStep _
  · exact .refl counted

theorem State.hifTake_deliverStep (k x len : Nat) (w0 w1 : Word64) (src : Nat) (head : List Byte) (e : Ecc) :
    s.deliverStep (s.hifTake k x len w0 w1 src head e) := by
  unfold State.hifTake
  split
  · exact (s.bump_deliverStep _).trans (State.poolRelease_poolStep _ _ _ _).deliver
  · extract_lets b
    exact ((s.bufRead_poolStep x len e).deliver.trans (State.rxFill_deliverStep _ _ _ _ _ _ _)).trans
      (State.poolRelease_poolStep _ _ _ _).deliver

end

/-! ### The hand-over of a queue's head (R299) -/

/-- The TM after the head of host queue k was granted its buffer: the frame has left its queue, nothing waits for a buffer. -/
def TmSt.handsOver (x : TmSt) (q k : Nat) (r : List Copy) : TmSt :=
  { x with queues := Tbl.set [] x.queues (656 * q + (640 + k % 16)) r, lastHost := Tbl.set 15 x.lastHost q (k % 16)
           hostWait := Tbl.set none x.hostWait q none }

/-- The queue, the rotation and the wait for a buffer, once the head of host queue k has been handed over. -/
theorem State.handsOver_leaves {s t : State} {q k : Nat} {r : List Copy} (h : t.tm = s.tm.handsOver q k r) :
    t.queue q (640 + k % 16) = r ∧ Tbl.get 15 t.tm.lastHost q = k % 16 ∧ Tbl.get none t.tm.hostWait q = none := by
  rw [State.queue, h]
  exact ⟨(Tbl.get_set _ _ _ _ _).trans (if_pos rfl), (Tbl.get_set _ _ _ _ _).trans (if_pos rfl),
    (Tbl.get_set none s.tm.hostWait q q none).trans (if_pos rfl)⟩

theorem State.fitPool_lt {s : State} {len p : Nat} (h : s.fitPool len = some p) : p < 4 :=
  List.mem_range.1 (List.mem_of_find?_eq_some h)

theorem State.setTm_only (s : State) (x : TmSt) (l : List Part) : s.onlyParts { s with tm := x } (.tm :: l) :=
  ⟨rfl, fun p hp => by
    cases p with
    | tm => exact absurd hp (by simp)
    | _ => rfl⟩

/-- A frame whose buffer is granted leaves its queue, whatever reading and storing it then meets. -/
theorem State.deliver_handsOver {s : State} {q k p x : Nat} {c : Copy} {r : List Copy} (hfits : s.fitPool c.body.len = some p)
    (hgrant : (s.poolAlloc (reqTm q) p).1 = .granted x) (w0 w1 : Word64) (e : CellEcc) (ft : Bool) (pe : Ecc) :
    (s.deliver q k c r w0 w1 e ft pe).tm = s.tm.handsOver q k r
      ∧ s.onlyParts (s.deliver q k c r w0 w1 e ft pe) (.tm :: deliverParts) := by
  have hallocated := s.poolAlloc_poolStep (State.fitPool_lt hfits) (reqTm q) .ok
  have htm : (s.poolAlloc (reqTm q) p).2.tm = s.tm := hallocated.deliver.2 .tm (by decide)
  unfold State.deliver
  rw [hfits]
  extract_lets u setWait
  dsimp -zeta only
  extract_lets a waited tm chosen left b read
  rw [show a.1 = .granted x from hgrant]
  dsimp -zeta only
  extract_lets given released
  have hleft : left.tm = s.tm.handsOver q k r ∧ s.onlyParts left (.tm :: deliverParts) :=
    ⟨congrArg (TmSt.handsOver · q k r) htm,
      State.onlyParts_trans (State.onlyParts_mono hallocated.deliver fun _ => List.mem_cons_of_mem _)
        (State.onlyParts_trans (t := chosen.setQueue q u r) (State.setTm_only _ _ _)
          (State.onlyParts_mono (State.bump_deliverStep _ _) fun _ => List.mem_cons_of_mem _))⟩
  have hread : left.deliverStep read := by
    have hbytes := left.hostBytes_deliverStep c e
    unfold read
    split
    · split
      · exact hbytes.trans (State.frameTableFail_deliverStep _ _)
      · exact hbytes
    · exact hbytes
  have hcounted (i : Nat) (t : State) : t.deliverStep (t.tmgBump q i) := t.bump_deliverStep _
  have hends : left.deliverStep (if b.2.1 then ((read.tmgBump q Cnt.TMG_HOST_COPY_UE).poolRelease (reqTm q) x).releaseBody q c
      else released.hifTake k x b.1.length w0 w1 0 c.desc.bytes pe) := by
    refine hread.trans ?_
    clear_value read
    split
    · exact ((hcounted _ read).trans (State.poolRelease_poolStep _ _ _ _).deliver).trans (State.releaseBody_deliverStep _ _ _)
    · exact ((((read.bufWrite_poolStep x b.1).trans (State.poolHand_poolStep _ _ _ _ _)).deliver.trans
        (given.releaseBody_deliverStep q c)).trans (hcounted _ _)).trans (released.hifTake_deliverStep _ _ _ _ _ _ _ _)
  exact ⟨(hends.2 .tm (by decide)).trans hleft.1,
    State.onlyParts_trans hleft.2 (State.onlyParts_mono hends fun _ => List.mem_cons_of_mem _)⟩

end Sys2Proof.Machine
end

section
/-! PROOF. The DRAM aperture (R361): what an access to device memory leaves of the host interface's registers, and accesses of one
line. -/

namespace Sys2Proof.Machine

/-! ### Registers of device memory -/

/-- The registers outside the addresses from the host interface to the buffer pools (R456): those of the fault collector and of the
DMCs are among them. -/
def memoryRegs : Set Nat := {a | a < 0x40000 ∨ 0x100000 ≤ a}

@[simp] theorem mem_memoryRegs {a : Nat} : a ∈ memoryRegs ↔ a < 0x40000 ∨ 0x100000 ≤ a := Iff.rfl

theorem hifCnt_not_memory {i : Nat} (hi : i < 64) : Reg.HIF_CNT i ∉ memoryRegs := by
  simp only [mem_memoryRegs, Reg.HIF_CNT]
  omega

section
variable {s t : State}

theorem State.queueStep.memory (a : s.queueStep t) : s.within t memoryRegs [.regs, .dram] :=
  a.frame.mono (by
    rintro _ ⟨c, -, i, -, rfl⟩
    exact .inr (by simp only [Reg.DMC_CNT]; omega)) fun _ h => h

/-- Where a line lies (R254), and whether its rank is out of service (R269), depend on registers of device memory. -/
theorem State.locate_of_memory (h : ∀ a ∈ memoryRegs, t.reg a = s.reg a) (l : Nat) : t.locate l = s.locate l := by
  have hpop (c : Nat) (f : Fld) : t.fld (Reg.DMC_POP c) f = s.fld (Reg.DMC_POP c) f :=
    State.fld_of_reg (h _ (.inr (by simp only [Reg.DMC_POP]; omega))) f
  have hspace : t.space = s.space := State.fld_of_reg (h _ (.inr (by decide))) _
  have hpopulated : t.populated = s.populated := funext fun c => by simp only [State.populated, hpop]
  have hrl : t.rlLog = s.rlLog := funext fun c => by simp only [State.rlLog, hpop]
  simp only [State.locate, State.channels, hspace, hpopulated, hrl]

theorem State.rankDead_of_memory (h : ∀ a ∈ memoryRegs, t.reg a = s.reg a) (hdram : t.dram = s.dram) {a : LineAt} (ha : a.ch < 12) :
    t.rankDead a = s.rankDead a := by
  have hunit : t.down (unitDmc a.ch) = s.down (unitDmc a.ch) := by
    rw [State.down, State.down, State.unitState, State.unitState,
      State.fld_of_reg (h _ (.inl (by simp only [Reg.FLT_UNIT, unitDmc]; omega)))]
  have hmig (f : Fld) : t.fld (Reg.DMC_MIG a.ch) f = s.fld (Reg.DMC_MIG a.ch) f :=
    State.fld_of_reg (h _ (.inr (by simp only [Reg.DMC_MIG]; omega))) f
  have hout : t.rankOut a.ch = s.rankOut a.ch := funext fun r => congrArg (fun n => Nat.testBit n r)
    (State.fld_of_reg (h _ (.inr (by simp only [Reg.DMC_STATUS]; omega))) _)
  have hspare : t.bySpare a = s.bySpare a := by
    unfold State.bySpare State.migState State.migSrc State.sub
    rw [hdram, hmig, hmig]
  simp only [State.rankDead, State.migState, State.migSrc, State.migDst, hunit, hspare, hout, hmig]

/-- A foreground read answers the same where only other registers differ. -/
theorem State.dramRead_of_memory (h : ∀ a ∈ memoryRegs, t.reg a = s.reg a) (hdram : t.dram = s.dram) (l : Nat) (e : Ecc) :
    (t.dramRead l true e).1 = (s.dramRead l true e).1 := by
  rw [State.dramRead_answer, State.dramRead_answer]
  unfold State.lineRead
  rw [State.locate_of_memory h]
  cases hat : s.locate l with
  | none => rfl
  | some a =>
    dsimp only
    rw [State.rankDead_of_memory h hdram (State.locate_ch hat), State.poisoned, State.poisoned, State.sub, State.sub, State.lineBytes,
      State.lineBytes, hdram]

end

/-! ### Accesses -/

section
variable (s : State)

theorem State.detect_memory (src kind cls addr : Nat) : s.within (s.detect src kind cls addr) memoryRegs dramParts := by
  refine ⟨fun a ha => ?_, State.onlyParts_mono (s.detect_rest src kind cls addr) (by simp [dramParts])⟩
  simp only [mem_memoryRegs, not_or, not_lt, not_le] at ha
  have hsent : (s.sendFault src kind cls addr).reg a = s.reg a :=
    s.sendFault_regs _ _ _ _ a (by simp only [List.mem_singleton, Reg.FLT_CNT, Cnt.FLT_SRC_OVF_LOST]; omega)
  unfold State.detect
  split
  · exact hsent
  · next u hu =>
    have hlt := unitOf_lt hu
    split
    · exact s.shadow_regs u a (by
        simp only [List.mem_cons, List.not_mem_nil, or_false, Reg.FLT_UNIT, Reg.FLT_CNT, Cnt.FLT_SHADOWED]; omega)
    · exact hsent

section
variable {c : Nat} (hc : c < 12)
include hc

theorem State.issueOldest_queueStep (k : Nat) : s.queueStep (s.issueOldest c k) := by
  unfold State.issueOldest
  extract_lets x
  split
  · exact .refl s
  · exact s.issueWrite_queueStep hc _ _

theorem State.drainCheck_queueStep (k : Nat) : s.queueStep (s.drainCheck c k) := by
  unfold State.drainCheck
  extract_lets x
  split
  · split
    · exact State.setSub_queueStep rfl
    · exact .refl s
  · split
    · exact (State.setSub_queueStep (by rfl)).trans (State.dmcBump_queueStep _ hc (i := Cnt.DMC_DRAIN_PHASES) (by decide))
    · exact .refl s

theorem State.bgCount_queueStep (fg : Bool) : s.queueStep (s.bgCount c fg) := by
  unfold State.bgCount
  split
  · exact .refl s
  · exact s.dmcBump_queueStep hc (by decide)

end

section
variable {a : LineAt} (ha : a.ch < 12)
include ha

theorem State.queueWrite_queueStep (l : Nat) (fg : Bool) : s.queueStep (s.queueWrite a l fg) := by
  unfold State.queueWrite
  extract_lets x issued y
  split
  · exact s.dmcBump_queueStep ha (by decide)
  · have hissued : s.queueStep issued := by
      unfold issued
      split
      · exact s.issueOldest_queueStep ha _
      · exact .refl s
    clear_value issued
    exact (hissued.trans (State.setSub_queueStep (by rfl))).trans (State.drainCheck_queueStep _ ha _)

/-- A correctable error (R268). -/
theorem State.dramCe_memory (l : Nat) : s.within (s.dramCe a l) memoryRegs dramParts := by
  have herr : Reg.DMC_ERR_CE a.ch ∈ memoryRegs := .inr (by simp only [Reg.DMC_ERR_CE]; omega)
  have hunit : Reg.FLT_UNIT (unitDmc a.ch) ∈ memoryRegs := .inl (by simp only [Reg.FLT_UNIT, unitDmc]; omega)
  unfold State.dramCe
  dsimp only
  split
  · exact ((s.dmcBump_queueStep ha (i := Cnt.DMC_SHADOWED_UE) (by decide)).memory.trans ((State.setFld_within _ hunit _ _).trans
      (State.bump_within _ (.inl (by decide))) |>.parts (by simp))).parts (by simp [dramParts])
  · have hnoted := ((s.dmcBump_queueStep ha (i := Cnt.DMC_CE_CORRECTED) (by decide)).memory.trans
      (((State.setFld_within _ herr Fld.DMC_ERR_CE_ADDR (64 * l)).trans
        (State.setFld_within _ herr Fld.DMC_ERR_CE_VALID 1)).parts (by simp))).parts (l' := dramParts) (by simp [dramParts])
    exact (hnoted.trans (State.detect_memory _ _ _ _ _)).trans
      (((State.bgCount_queueStep _ ha false).trans (State.queueWrite_queueStep _ ha l false)).memory.parts (by simp [dramParts]))

end

/-- A foreground read that finds its line. -/
theorem State.dramRead_memory {l : Nat} {e : Ecc} {b : List Byte} (hfound : (s.dramRead l true e).1 = some b) :
    s.within (s.dramRead l true e).2 memoryRegs dramParts := by
  have hparts {t : State} (h : s.queueStep t) : s.within t memoryRegs dramParts := h.memory.parts (by simp [dramParts])
  unfold State.dramRead at hfound ⊢
  cases hat : s.locate l with
  | none => exact .refl s _ _
  | some a =>
    have ha := State.locate_ch hat
    rw [hat] at hfound
    simp only [State.bgCount, if_true] at hfound ⊢
    split at hfound
    · exact absurd hfound (by simp)
    · next halive =>
      rw [if_neg halive]
      have hread : s.queueStep (((s.finishDrain a.ch a.sub).dmcBump a.ch Cnt.DMC_READS).rowTouch a) :=
        ((s.finishDrain_queueStep ha a.sub).trans (State.dmcBump_queueStep _ ha (by decide))).trans (State.rowTouchIn_queueStep _ ha _)
      split
      · exact hparts (s.dmcBump_queueStep ha (by decide))
      · next hqueued =>
        rw [if_neg hqueued] at hfound
        cases e with
        | ok => exact hparts hread
        | corrected => exact (hparts hread).trans (State.dramCe_memory _ ha l)
        | uncorrectable => exact absurd hfound (by simp)

theorem State.dramWrite_memory (l : Nat) (b : List Byte) : s.within (s.dramWrite l b true).2 memoryRegs [.regs, .dram] := by
  unfold State.dramWrite
  split
  · exact .refl s _ _
  · next a hat =>
    have ha := State.locate_ch hat
    have hstatus : Reg.DMC_STATUS a.ch ∈ memoryRegs := .inr (by simp only [Reg.DMC_STATUS]; omega)
    simp only [State.bgCount, if_true]
    split
    · exact (s.dmcBump_queueStep ha (by decide)).memory.trans ((State.setFld_within _ hstatus _ _).parts (by simp))
    · exact (((s.setDram_within _ _).trans (State.setDram_within _ _ _)).parts (by simp)).trans
        (State.queueWrite_queueStep _ ha l true).memory

end

/-! ### One line (R361) -/

/-- A read within one line of SPACE that is found. -/
theorem State.apLines_line {s : State} {a len : Nat} {es : List Ecc} {b : List Byte} (hlen : 0 < len) (hline : a % 64 + len ≤ 64)
    (hspace : a + len ≤ s.space) (hfound : (s.dramRead (a / 64) true (es.headD .ok)).1 = some b) (n : Nat) :
    s.apLines a (n + 2) len es = (bytesAt b (a % 64) len, false, (s.dramRead (a / 64) true (es.headD .ok)).2) := by
  rw [State.apLines, if_neg (by omega), Nat.min_eq_left (by omega), if_pos (by omega)]
  dsimp only
  rw [hfound]
  dsimp only
  rw [Nat.sub_self, State.apLines, if_pos rfl, List.append_nil]
  rfl

/-- A write of one whole line of SPACE. -/
theorem State.apStore_line {s : State} {a : Nat} {b : List Byte} (hlen : b.length = 64) (hline : a % 64 = 0) (hspace : a + 64 ≤ s.space)
    (es : List Ecc) (n : Nat) : s.apStore a (n + 2) b es = (s.dramWrite (a / 64) b true).2 := by
  have hsome : b ≠ [] := List.ne_nil_of_length_pos (by omega)
  rw [State.apStore, if_neg hsome, hline, hlen]
  dsimp only
  rw [if_neg (by omega), if_pos (by decide), Nat.sub_zero, Nat.min_self, List.take_of_length_le (by omega),
    List.drop_eq_nil_of_le (by omega), State.apStore, if_pos rfl]

section
variable {s : State} {w off : Nat} (hready : s.dmcReady = true) (hup : s.down unitHif = false)
include hready hup

theorem apRead_line {len : Nat} {es : List Ecc} {b : List Byte} (hlen : 0 < len) (hwindow : off + len ≤ 4294967296)
    (hline : s.apAddr w off % 64 + len ≤ 64) (hspace : s.apAddr w off + len ≤ s.space)
    (hfound : (s.dramRead (s.apAddr w off / 64) true (es.headD .ok)).1 = some b) :
    (apRead w off len es s).hif.apRead = bytesAt b (s.apAddr w off % 64) len ∧ (apRead w off len es s).hif.apPoison = false
      ∧ (apRead w off len es s).reg (Reg.HIF_CNT Cnt.HIF_AP_READS) = s.reg (Reg.HIF_CNT Cnt.HIF_AP_READS) + 1
      ∧ s.onlyParts (apRead w off len es s) [.regs, .hif, .dram, .fault] := by
  have hcounted : ∀ a ∈ memoryRegs, (s.hifBump Cnt.HIF_AP_READS).reg a = s.reg a := fun a ha =>
    (s.reg_bump _ a).trans (if_neg (ne_of_mem_of_not_mem ha (hifCnt_not_memory (by decide))))
  have hfound' := (State.dramRead_of_memory hcounted rfl (s.apAddr w off / 64) (es.headD .ok)).trans hfound
  have hspace' : (s.hifBump Cnt.HIF_AP_READS).space = s.space := State.fld_of_reg (hcounted _ (.inr (by decide))) _
  have hread := State.dramRead_memory _ hfound'
  have hcount := s.reg_bump_self (Reg.HIF_CNT Cnt.HIF_AP_READS)
  have hlines := State.apLines_line hlen hline (by rw [hspace']; exact hspace) hfound' 64
  have hparts := s.bump_rest (Reg.HIF_CNT Cnt.HIF_AP_READS)
  rw [apRead, if_neg (by simp [hready, hup]; omega)]
  dsimp only
  rw [if_neg (by rw [hspace']; omega), hlines]
  refine ⟨rfl, rfl, (hread.1 _ (hifCnt_not_memory (by decide))).trans hcount, ?_⟩
  exact State.onlyParts_trans (State.onlyParts_mono hparts (by simp)) (State.onlyParts_trans
    (State.onlyParts_mono hread.2 (by simp [dramParts])) (State.onlyParts_mono (State.setHif_only _ _) (by simp)))

theorem apWrite_line {b : List Byte} {a : LineAt} (hlen : b.length = 64) (hwindow : off + 64 ≤ 4294967296)
    (hline : s.apAddr w off % 64 = 0) (hspace : s.apAddr w off + 64 ≤ s.space) (hat : s.locate (s.apAddr w off / 64) = some a)
    (halive : s.rankDead a = false) (hsound : s.poisoned (s.apAddr w off / 64) = false) (es : List Ecc) :
    (∀ l, (apWrite w off b es s).lineBytes l = if l = s.apAddr w off / 64 then b else s.lineBytes l)
      ∧ (apWrite w off b es s).reg (Reg.HIF_CNT Cnt.HIF_AP_WRITES) = s.reg (Reg.HIF_CNT Cnt.HIF_AP_WRITES) + 1
      ∧ s.onlyParts (apWrite w off b es s) [.regs, .dram] := by
  have hcounted : ∀ a ∈ memoryRegs, (s.hifBump Cnt.HIF_AP_WRITES).reg a = s.reg a := fun a ha =>
    (s.reg_bump _ a).trans (if_neg (ne_of_mem_of_not_mem ha (hifCnt_not_memory (by decide))))
  have hspace' : (s.hifBump Cnt.HIF_AP_WRITES).space = s.space := State.fld_of_reg (hcounted _ (.inr (by decide))) _
  have hat' := (State.locate_of_memory hcounted (s.apAddr w off / 64)).trans hat
  have halive' := (State.rankDead_of_memory hcounted rfl (State.locate_ch hat)).trans halive
  have hwrite := (s.hifBump Cnt.HIF_AP_WRITES).dramWrite_memory (s.apAddr w off / 64) b
  have hbytes := State.dramWrite_lineBytes hat' halive' (show (s.hifBump Cnt.HIF_AP_WRITES).poisoned _ = false from hsound) b
  rw [bytesAt_whole hlen] at hbytes
  have hsome : b ≠ [] := List.ne_nil_of_length_pos (by omega)
  rw [apWrite, if_neg (by simp [hready, hup, hlen, hsome]; omega)]
  dsimp only
  rw [if_neg (by rw [hspace', hlen]; omega), State.apStore_line hlen hline (by rw [hspace']; exact hspace) es 64]
  exact ⟨hbytes, (hwrite.1 _ (hifCnt_not_memory (by decide))).trans (s.reg_bump_self _),
    State.onlyParts_trans (State.onlyParts_mono (s.bump_rest _) (by simp)) hwrite.2⟩

end

/-! ### The obligation -/

/-- Settles O43: a granted buffer takes the head frame off its queue; an access of one line is one access to device memory. -/
theorem hostQueuesAndAperture : Obligations.HostQueuesAndAperture := by
  refine ⟨fun s q w0 w1 e ft pe k p x c r hup hhost hidle hnext hqueue hfits hgrant => ?_,
    fun s q w0 w1 e ft pe k m p x c r hup hhost hwait hdue hready hqueue hfits hgrant => ?_,
    fun s w off len es b hlen hwindow hready hup hline hspace hfound => ?_,
    fun s w off b es a hlen hwindow hready hup hline hspace hat halive hsound => ?_⟩
  · obtain ⟨htm, hframe⟩ := State.deliver_handsOver hfits hgrant w0 w1 e ft pe (r := r) (k := k)
    have heq : hostDelivery q.val w0 w1 e ft pe s = s.deliver q.val k c r w0 w1 e ft pe := by
      rw [hostDelivery, if_neg (by simp [hup, hhost, hidle]), hnext]
      dsimp only
      rw [hqueue]
    exact ⟨_, (congrArg (done s) heq).trans (done_eq_next hframe (by decide)), State.handsOver_leaves htm⟩
  · obtain ⟨htm, hframe⟩ := State.deliver_handsOver hfits hgrant w0 w1 e ft pe (r := r) (k := k)
    have heq : hostPoolRetry q.val w0 w1 e ft pe s = s.deliver q.val k c r w0 w1 e ft pe := by
      rw [hostPoolRetry, hwait]
      dsimp only
      rw [if_neg (by simp [hup, hhost]; omega), hqueue]
      dsimp only
      rw [hready]
      exact if_neg (by decide)
    exact ⟨_, (congrArg (done s) heq).trans (done_eq_next hframe (by decide)), State.handsOver_leaves htm⟩
  · obtain ⟨hbytes, hpoison, hcount, hframe⟩ := apRead_line hready hup hlen hwindow hline hspace hfound
    exact ⟨_, done_eq_next hframe (by decide), hbytes, hpoison, hcount, hframe⟩
  · obtain ⟨hbytes, hcount, hframe⟩ := apWrite_line hready hup hlen hwindow hline hspace hat halive hsound es
    exact ⟨_, done_eq_next hframe (by decide), (hbytes _).trans (if_pos rfl), fun l hl => (hbytes l).trans (if_neg hl), hcount, hframe⟩

end Sys2Proof.Machine
end

section
/-! PROOF. The IPFIX exporter at its rings and its status line (R244, R245, R247): what reading an entry, skipping one and writing the
status leave. -/

namespace Sys2Proof.Machine

/-! ### Lines read -/

/-- Parts that reading lines, and drawing what is open of them, may change. -/
def readParts : List Part := [.regs, .free, .fault, .dram]

theorem State.dramStep.reads {s t : State} (a : s.dramStep t) : s.onlyParts t readParts :=
  State.onlyParts_mono a.2 (by simp [dramParts, readParts])

theorem State.draw_reads (s : State) : s.onlyParts s.draw.2 readParts := State.onlyParts_mono s.draw_rest (by simp [readParts])

section
variable (s : State)

theorem State.ringEntry_dramStep (l : Nat) (e0 e1 : Ecc) : s.dramStep (s.ringEntry l e0 e1).2 :=
  (s.dramRead_dramStep l true e0).trans (State.dramRead_dramStep _ (l + 1) true e1)

theorem State.drawBytes_reads (n : Nat) : s.onlyParts (s.drawBytes n).2 readParts := by
  induction n generalizing s with
  | zero => exact s.onlyParts_refl _
  | succ n ih => exact State.onlyParts_trans s.draw_reads (ih _)

theorem State.backendEntry_reads (b : Nat) (e : Ecc) : s.onlyParts (s.backendEntry b e).2 readParts := by
  have hread (l : Nat) := (s.dramRead_dramStep l true e).reads
  unfold State.backendEntry
  extract_lets r
  split
  · exact hread _
  · exact State.onlyParts_trans (hread _) (State.drawBytes_reads _ _)

theorem State.entryTemplate_reads (b : List Byte) : s.onlyParts (s.entryTemplate b).2 readParts := by
  unfold State.entryTemplate
  extract_lets t
  split
  · exact s.onlyParts_refl _
  · exact s.draw_reads

/-- An entry of one of the four templates says its number itself. -/
theorem State.entryTemplate_stated {b : List Byte} (h : (entryWord b 6).get ⟨44, 4⟩ < 4) :
    (s.entryTemplate b).1 = (entryWord b 6).get ⟨44, 4⟩ := by
  unfold State.entryTemplate
  extract_lets t
  rw [if_pos h]

theorem State.setExporter_only (x : ExporterSt) : s.onlyParts { s with exporter := x } [.exporter] :=
  ⟨rfl, fun p hp => by
    cases p with
    | exporter => exact absurd hp (by simp)
    | _ => rfl⟩

theorem State.setExpectedSeq_next (h n : Nat) : Tbl.get 0 (s.setExpectedSeq h n).exporter.next h = n :=
  (Tbl.get_set 0 s.exporter.next h h n).trans (if_pos rfl)

/-- An entry that joins the message: the next number is expected, and the entry counted. -/
theorem State.emitEntry_leaves (h n : Nat) (b : List Byte) (t : Nat) (e : Ecc) :
    Tbl.get 0 (s.emitEntry h n b t e).exporter.next h = n + 1 ∧ (s.emitEntry h n b t e).exporter.exported = s.exporter.exported + 1
      ∧ ((entryWord b 9).get ⟨16, 1⟩ = 0 →
          (s.emitEntry h n b t e).exporter.records = s.exporter.records ++ [(t, dataRecord t b [])])
      ∧ s.onlyParts (s.emitEntry h n b t e) (.exporter :: readParts) := by
  unfold State.emitEntry
  extract_lets k u
  have hread : s.onlyParts k.2 readParts := by
    unfold k
    split
    · exact s.backendEntry_reads _ e
    · exact s.onlyParts_refl _
  have hplain : (entryWord b 9).get ⟨16, 1⟩ = 0 → k.1 = [] := fun h => by
    unfold k
    rw [if_neg (by rw [h]; decide)]
  have hsame : k.2.exporter = s.exporter := hread.2 .exporter (by decide)
  have hframe := State.onlyParts_mono hread fun _ => List.mem_cons_of_mem Part.exporter
  clear_value k
  refine ⟨k.2.setExpectedSeq_next h (n + 1), congrArg (·.exported + 1) hsame, fun h => ?_,
    State.onlyParts_trans hframe (State.onlyParts_mono (k.2.setExporter_only _) (by simp))⟩
  show k.2.exporter.records ++ [(t, dataRecord t b k.1)] = _
  rw [hplain h, hsame]

end

/-! ### The next slot (R245) -/

section
variable {s : State} {h n : Nat} {cfg : ExporterCfg} (hcfg : s.exportCfg = some cfg) (hn : n = s.expectedSeq h cfg.ringEntries)
include hcfg hn

/-- What a read of the next slot does: an entry of the expected number joins the message; a slot not yet written begins the wait. -/
theorem exporterReadEntry_reads {t : State} {b : List Byte} {e0 e1 e2 : Ecc} (ht : exporterReadEntry h e0 e1 e2 s = t)
    (hb : b = (s.ringEntry (s.slotLine cfg h n) e0 e1).1) (hroom : s.messageRoom cfg 3 = true) :
    ((entryWord b 0).toNat = n ∧ (entryWord b 15).toNat = n →
        Tbl.get 0 t.exporter.next h = n + 1 ∧ t.exporter.exported = s.exporter.exported + 1
        ∧ ((entryWord b 6).get ⟨44, 4⟩ < 4 → (entryWord b 9).get ⟨16, 1⟩ = 0 →
            t.exporter.records
              = s.exporter.records ++ [((entryWord b 6).get ⟨44, 4⟩, dataRecord ((entryWord b 6).get ⟨44, 4⟩) b [])]))
      ∧ (slotUnwritten b n = true → n < s.exportSeq h → Tbl.get none s.exporter.waitAt h = none →
          Tbl.get none t.exporter.waitAt h = some s.clk.mono ∧ t.exporter.exported = s.exporter.exported)
      ∧ s.onlyParts t (.exporter :: readParts) := by
  subst ht
  have hread := s.ringEntry_dramStep (s.slotLine cfg h n) e0 e1
  unfold exporterReadEntry
  rw [hcfg]
  dsimp only
  rw [← hn, ← hb, if_neg (by simp [hroom])]
  generalize (s.ringEntry (s.slotLine cfg h n) e0 e1).2 = t at *
  have hexporter : t.exporter = s.exporter := hread.2.2 .exporter (by decide)
  have hclk : t.clk = s.clk := hread.2.2 .clk (by decide)
  have hseq : t.exportSeq h = s.exportSeq h := by
    rw [State.exportSeq, State.exportSeq, State.eventCount, State.eventCount, hread.poolStep.shard_eq]
  have hframe := State.onlyParts_mono hread.reads fun _ => List.mem_cons_of_mem Part.exporter
  have hset (u : State) (x : ExporterSt) : u.onlyParts { u with exporter := x } (.exporter :: readParts) :=
    State.onlyParts_mono (u.setExporter_only x) (by simp)
  split
  · next hmatch =>
    have hopen : ¬ slotUnwritten b n = true := by simp [slotUnwritten, hmatch.1, hmatch.2]
    have htemplate := t.entryTemplate_reads b
    obtain ⟨hnext, hexported, hrecords, hemits⟩ := (t.entryTemplate b).2.emitEntry_leaves h n b (t.entryTemplate b).1 e2
    have hsame : (t.entryTemplate b).2.exporter = s.exporter := (htemplate.2 .exporter (by decide)).trans hexporter
    refine ⟨fun _ => ⟨hnext, by rw [hexported, hsame], fun hstated hplain => ?_⟩, fun hunwritten => absurd hunwritten hopen, ?_⟩
    · rw [hrecords hplain, hsame, t.entryTemplate_stated hstated]
    · exact State.onlyParts_trans hframe
        (State.onlyParts_trans (State.onlyParts_mono htemplate fun _ => List.mem_cons_of_mem _) hemits)
  · next hother =>
    refine ⟨fun hmatch => absurd hmatch hother, ?_⟩
    split
    · split
      · have hwaits := (Tbl.get_set none (t.setExpectedSeq h n).exporter.waitAt h h (some t.clk.mono)).trans (if_pos rfl)
        have hexported : (t.setExpectedSeq h n).exporter.exported = s.exporter.exported := (congrArg ExporterSt.exported hexporter :)
        rw [← hclk]
        exact ⟨fun _ _ _ => ⟨hwaits, hexported⟩, State.onlyParts_trans hframe (hset t _)⟩
      · next hwaits =>
        exact ⟨fun _ hbehind hidle => absurd ⟨by rw [hseq]; exact hbehind, by rw [hexporter, hidle]; rfl⟩ hwaits, hframe⟩
    · next hwritten => exact ⟨fun hunwritten => absurd hunwritten hwritten, State.onlyParts_trans hframe (hset t _)⟩

/-- A slot that has stayed unwritten for 10 µs is skipped and counted. -/
theorem exporterSkip_skips {m l : Nat} (hwait : Tbl.get none s.exporter.waitAt h = some m) (hdue : m + usTicks 10 ≤ s.clk.mono)
    (hl : l = s.slotLine cfg h n) (hunwritten : slotUnwritten (s.slotBytes l) n = true) :
    (exporterSkip h s).exporter.skipped = s.exporter.skipped + 1 ∧ Tbl.get 0 (exporterSkip h s).exporter.next h = n + 1
      ∧ s.onlyParts (exporterSkip h s) [.exporter] := by
  unfold exporterSkip
  rw [hcfg, hwait]
  dsimp only
  rw [← hn, ← hl, if_neg (by simp [hunwritten]; omega)]
  exact ⟨rfl, s.setExpectedSeq_next h (n + 1), s.setExporter_only _⟩

end

/-! ### The status line (R247) -/

theorem flatMap_leBytes_length (l : List Nat) (n : Nat) : (l.flatMap (leBytes n)).length = l.length * n := by
  simp only [List.length_flatMap, leBytes_length, List.map_const', List.sum_replicate, smul_eq_mul]

theorem exporterStatusWrite_writes {s : State} {cfg : ExporterCfg} {a : LineAt} (hcfg : s.exportCfg = some cfg)
    (hdue : s.exporter.statusAt + msTicks 100 ≤ s.clk.mono) (hat : s.locate (s.region8 0) = some a) (halive : s.rankDead a = false)
    (hsound : s.poisoned (s.region8 0) = false) :
    (exporterStatusWrite s).exporter = { s.exporter with statusAt := s.clk.mono }
      ∧ (exporterStatusWrite s).lineBytes (s.region8 0) = [s.exporter.exported, s.exporter.skipped, s.exporter.overrun, s.exporter.sent,
          s.exporter.lost, s.clk.sec, 0, 0].flatMap (leBytes 8)
      ∧ s.onlyParts (exporterStatusWrite s) [.regs, .dram, .exporter] := by
  have hlength := flatMap_leBytes_length [s.exporter.exported, s.exporter.skipped, s.exporter.overrun, s.exporter.sent,
    s.exporter.lost, s.clk.sec, 0, 0] 8
  have hwrite (b : List Byte) := s.dramWrite_within (s.region8 0) b true
  have hclk (b : List Byte) : (s.dramWrite (s.region8 0) b true).2.clk = s.clk := (hwrite b).2.2 .clk (by decide)
  unfold exporterStatusWrite
  rw [hcfg]
  dsimp only
  rw [if_neg (by omega)]
  refine ⟨?_, (State.dramWrite_lineBytes hat halive hsound _ _).trans ?_, ?_⟩
  · rw [hclk]
  · rw [if_pos rfl]
    exact bytesAt_whole hlength
  · exact State.onlyParts_trans (State.onlyParts_mono (hwrite _).2 (by simp)) (State.onlyParts_mono (State.setExporter_only _ _) (by simp))

end Sys2Proof.Machine
end

section
/-! PROOF. Messages of the IPFIX exporter (R246, R300): what a message on its way leaves of the exporter, its templates, and O54. -/

namespace Sys2Proof.Machine

/-! ### Steps that leave the exporter -/

/-- Parts that a message on its way may change. -/
def sendParts : List Part := .free :: .tm :: deliverParts

/-- A step outside the exporter. -/
def State.sendStep (s t : State) : Prop := s.onlyParts t sendParts

theorem State.sendStep.refl (s : State) : s.sendStep s := s.onlyParts_refl _

theorem State.sendStep.trans {s t u : State} (a : s.sendStep t) (b : t.sendStep u) : s.sendStep u := State.onlyParts_trans a b

theorem State.deliverStep.sends {s t : State} (a : s.deliverStep t) : s.sendStep t :=
  State.onlyParts_mono a fun _ h => List.mem_cons_of_mem _ (List.mem_cons_of_mem _ h)

theorem State.poolStep.sends {s t : State} (a : s.poolStep t) : s.sendStep t := a.deliver.sends

section
variable (s : State)

theorem State.bump_sendStep (a : Nat) : s.sendStep (s.bump a) := (s.bump_deliverStep a).sends

theorem State.setReg_sendStep (a : Nat) (v : Word64) : s.sendStep (s.setReg a v) := (s.setReg_deliverStep a v).sends

theorem State.draw_sendStep : s.sendStep s.draw.2 := State.onlyParts_mono s.draw_rest (by simp [sendParts])

theorem State.setQueue_sendStep (q u : Nat) (l : List Copy) : s.sendStep (s.setQueue q u l) :=
  State.onlyParts_mono (s.setTm_only _ []) (by simp [sendParts])

/-! ### A pool frame given to a TM (R300 to R305) -/

theorem State.enqueue_sendStep (q u : Nat) (c : Copy) (ce : Bool) : s.sendStep (s.enqueue q u c ce) := by
  unfold State.enqueue
  extract_lets l counted marked a
  have hcounted : s.sendStep counted :=
    ((s.setQueue_sendStep q u l).trans (State.bump_sendStep _ _)).trans (State.setReg_sendStep _ _ _)
  clear_value counted
  have hmarked : counted.sendStep marked := by
    unfold marked
    split
    · exact counted.bump_sendStep _
    · exact .refl counted
  exact (hcounted.trans hmarked).trans ((marked.setReg_sendStep _ _).trans (State.setReg_sendStep _ _ _))

theorem State.evictTail_sendStep (q v : Nat) : s.sendStep (s.evictTail q v) := by
  unfold State.evictTail
  split
  · exact .refl s
  · exact ((((s.setQueue_sendStep q v _).trans (State.releaseBody_deliverStep _ q _).sends).trans (State.bump_sendStep _ _)).trans
      (State.bump_sendStep _ _)).trans (State.setReg_sendStep _ _ _)

theorem State.wred_sendStep (q u : Nat) (d : Desc) : s.sendStep (s.wred q u d).2 := by
  unfold State.wred
  extract_lets f avg lo hi x r
  have hdraw : s.sendStep x.2 := s.draw_sendStep
  split
  · exact hdraw
  · split
    · exact hdraw
    · split
      · split <;> exact hdraw
      · exact hdraw

theorem State.admitCopy_sendStep (q u f : Nat) (c : Copy) : s.sendStep (s.admitCopy q u f c).2 := by
  unfold State.admitCopy
  extract_lets t no depth alpha may w
  have hdecided : s.sendStep t := s.bump_sendStep _
  have hno (j : Nat) (u : State) : u.sendStep (no j u).2 := u.bump_sendStep _
  have hwred : t.sendStep w.2 := t.wred_sendStep q u c.desc
  refine hdecided.trans ?_
  clear_value t w
  split
  · exact t.bump_sendStep _
  · split
    · exact t.bump_sendStep _
    · split
      · exact ((t.bump_sendStep _).trans (State.setReg_sendStep _ _ _)).trans (hno 3 _)
      · split
        · exact hno 3 t
        · split
          · exact t.enqueue_sendStep q u c false
          · split
            · split
              · exact ((t.evictTail_sendStep q _).trans (State.bump_sendStep _ _)).trans (State.enqueue_sendStep _ q u c false)
              · exact hno 4 t
            · split
              · exact hwred.trans (State.enqueue_sendStep _ q u c false)
              · exact hwred.trans (State.enqueue_sendStep _ q u c true)
              · exact hwred.trans (hno _ _)

theorem State.poolFrame_sendStep (q pool i len port cls : Nat) (d : Desc) : s.sendStep (s.poolFrame q pool i len port cls d) := by
  unfold State.poolFrame
  extract_lets t c a
  have hadmit : s.sendStep a.2 := (s.bump_sendStep _).trans (t.admitCopy_sendStep _ _ _ _)
  clear_value a
  split
  · exact hadmit
  · exact hadmit.trans (State.poolRelease_poolStep _ _ _ _).sends

/-! ### A message on its way (R246) -/

theorem State.wireFrame_sendStep (cfg : ExporterCfg) (msg : List Byte) : s.sendStep (s.wireFrame cfg msg).2 := by
  unfold State.wireFrame
  extract_lets d
  show s.sendStep d.2
  unfold d
  split
  · exact s.draw_sendStep
  · exact s.draw_sendStep

theorem State.messageOut_sendStep (cfg : ExporterCfg) (r x : Nat) (msg : List Byte) (w0 w1 : Word64) :
    s.sendStep (s.messageOut cfg r x msg w0 w1) := by
  have hstored (t : State) (b : List Byte) (w : Nat) : t.sendStep ((t.bufWrite x b).poolHand r x w) :=
    ((t.bufWrite_poolStep x b).trans (State.poolHand_poolStep _ _ _ _ _)).sends
  unfold State.messageOut
  split
  · extract_lets q f t d k
    have hframed : s.sendStep t := (s.wireFrame_sendStep cfg msg).trans (hstored _ _ _)
    refine hframed.trans ?_
    clear_value t
    split
    · exact (t.bump_sendStep _).trans (State.poolRelease_poolStep _ _ _ _).sends
    · exact t.draw_sendStep.trans (State.poolFrame_sendStep _ _ _ _ _ _ _ _)
  · exact (hstored s _ _).trans (State.hifTake_deliverStep _ _ _ _ _ _ _ _ _).sends

end

/-! ### Commands -/

section
variable {s : State} {cfg : ExporterCfg} (hcfg : s.exportCfg = some cfg)
include hcfg

/-- A message that can go out and has a buffer goes out with all records that wait. -/
theorem ipfixMessageSend_sends {x : Nat} (hrecords : s.exporter.records ≠ [])
    (hway : cfg.wire = true ∨ s.down unitHif = false ∧ s.hostIsLost = true) (hgrant : (s.poolAlloc (21 + s.activeCc) 2).1 = .granted x)
    (w0 w1 : Word64) :
    ∃ u, ipfixMessageSend w0 w1 s = u.messageSent ∧ u.exporter = s.exporter ∧ s.sendStep u := by
  have hallocated := (s.poolAlloc_poolStep (p := 2) (by decide) (21 + s.activeCc) .ok).sends
  have hout := hallocated.trans
    (State.messageOut_sendStep _ cfg (21 + s.activeCc) x ((s.poolAlloc (21 + s.activeCc) 2).2.message cfg) w0 w1)
  refine ⟨_, ?_, hout.2 .exporter (by decide), hout⟩
  unfold ipfixMessageSend
  rw [hcfg]
  dsimp only
  rw [if_neg (by tauto), hgrant]

theorem templateRefresh_due (hdue : s.exporter.templatesAt + usTicks 1000000 * cfg.refreshS ≤ s.clk.mono)
    (hroom : 16 + templateSet.length + ((dataSets s.exporter.records).flatMap setBytes).length ≤ cfg.mtu) :
    templateRefresh s = { s with exporter := { s.exporter with templates := true } } := by
  unfold templateRefresh
  rw [hcfg]
  exact if_neg (by omega)

end

/-! ### The obligation -/

/-- Settles O54: reads, allocations and the message's way leave the exporter's own state to what each command says of it. -/
theorem exporterSteps : Obligations.ExporterSteps := by
  refine ⟨fun s h e0 e1 e2 cfg n b hcfg hn hb hroom => ?_,
    fun s h cfg m n l hcfg hwait hdue hn hl hunwritten => ?_,
    fun s w0 w1 cfg x hcfg hrecords hway hgrant => ?_,
    fun s cfg hcfg hdue hroom => congrArg (done s) (templateRefresh_due hcfg hdue hroom),
    fun s cfg a hcfg hdue hat halive hsound => ?_⟩
  · obtain ⟨hmatch, hopen, hframe⟩ := exporterReadEntry_reads hcfg hn (e2 := e2) rfl hb hroom
    have hparts := State.onlyParts_mono hframe (m := [.regs, .free, .fault, .dram, .exporter]) (by simp [readParts])
    exact ⟨_, done_eq_next hparts (by decide), hmatch, hopen, hparts⟩
  · obtain ⟨hskipped, hnext, hframe⟩ := exporterSkip_skips hcfg hn hwait hdue hl hunwritten
    exact ⟨_, done_eq_next hframe (by decide), hskipped, hnext, hframe⟩
  · obtain ⟨u, hsends, hsame, hframe⟩ := ipfixMessageSend_sends hcfg hrecords hway hgrant w0 w1
    have hparts : s.onlyParts u.messageSent (.exporter :: sendParts) :=
      State.onlyParts_trans (State.onlyParts_mono hframe fun _ => List.mem_cons_of_mem _)
        (State.onlyParts_mono (u.setExporter_only _) (by simp))
    exact ⟨_, (congrArg (done s) hsends).trans (done_eq_next hparts (by decide)), rfl, rfl, congrArg (·.sent + 1) hsame,
      congrArg (fun y => y.seq + y.records.length) hsame⟩
  · obtain ⟨hstatus, hline, hframe⟩ := exporterStatusWrite_writes hcfg hdue hat halive hsound
    exact ⟨_, done_eq_next hframe (by decide), hstatus, hline, hframe⟩

end Sys2Proof.Machine
end

section
/-! PROOF. The upkeep of the DMCs (R264 to R273): refresh commands and alerts, a scrubbed line, steps of a migration, and the change of
the DRAM frequency. -/

namespace Sys2Proof.Machine

/-! ### Registers -/

/-- Which channels are populated is their registers' to say. -/
theorem State.channels_of_pop {s t : State} (h : ∀ c, t.reg (Reg.DMC_POP c) = s.reg (Reg.DMC_POP c)) : t.channels = s.channels :=
  List.filter_congr fun c _ => by rw [State.populated, State.populated, State.fld_of_reg (h c)]

/-- The registers below those of the host interface (R456): the fault collector's are among them. -/
def collectorRegs : Set Nat := {a | a < 0x40000}

@[simp] theorem mem_collectorRegs {a : Nat} : a ∈ collectorRegs ↔ a < 0x40000 := Iff.rfl

theorem dmcReg_notMem_collectorRegs {a : Nat} (h : 0x100000 ≤ a) : a ∉ collectorRegs := by
  simp only [mem_collectorRegs]
  omega

theorem State.shadow_collector (s : State) {u : Nat} (hu : u < 2000) : s.within (s.shadow u) collectorRegs [.regs] :=
  ⟨fun a ha => s.shadow_regs u a (by
    simp only [mem_collectorRegs, not_lt] at ha
    simp only [List.mem_cons, List.not_mem_nil, or_false, Reg.FLT_UNIT, Reg.FLT_CNT, Cnt.FLT_SHADOWED]
    omega), s.shadow_rest u⟩

theorem State.sendFault_collector (s : State) (src kind cls addr : Nat) :
    s.within (s.sendFault src kind cls addr) collectorRegs [.regs, .fault] :=
  ⟨fun a ha => s.sendFault_regs _ _ _ _ a (by
    simp only [mem_collectorRegs, not_lt] at ha
    simp only [List.mem_singleton, Reg.FLT_CNT, Cnt.FLT_SRC_OVF_LOST]
    omega), s.sendFault_rest _ _ _ _⟩

/-- A detector that fires moves registers of the collector alone (R388, R394). -/
theorem State.detect_collector (s : State) (src kind cls addr : Nat) :
    s.within (s.detect src kind cls addr) collectorRegs [.regs, .fault] := by
  unfold State.detect
  split
  · exact s.sendFault_collector _ _ _ _
  · next u hu =>
    split
    · exact (s.shadow_collector (unitOf_lt hu)).parts (by simp)
    · exact s.sendFault_collector _ _ _ _

theorem State.dramShadow_within (s : State) {c : Nat} (hc : c < 12) :
    s.within (s.dramShadow c) ({Reg.DMC_CNT c Cnt.DMC_SHADOWED_UE} ∪ collectorRegs) [.regs] :=
  (s.bump_within (.inl rfl)).trans ((State.shadow_collector _ (by unfold unitDmc; omega)).mono Set.subset_union_right fun _ h => h)

/-! ### Refresh and alerts (R264, R266) -/

section
variable {s : State} {c r : Nat}

/-- A refresh command that is due is noted, takes the next bank, and is counted (R264). -/
theorem refresh_issues (hr : r < s.ranks c) (hfreq : s.dram.freq ≠ .selfRefresh) (hdue : s.refreshDue c r = true) :
    Tbl.get 0 (refresh c r s).dram.refreshAt (4 * c + r) = s.clk.mono
      ∧ Tbl.get 0 (refresh c r s).dram.refreshBank (4 * c + r)
        = (if s.refreshAll c = true then 0 else (Tbl.get 0 s.dram.refreshBank (4 * c + r) + 1) % 4)
      ∧ (refresh c r s).reg (Reg.DMC_CNT c Cnt.DMC_REFRESHES) = s.reg (Reg.DMC_CNT c Cnt.DMC_REFRESHES) + 1
      ∧ s.within (refresh c r s) {Reg.DMC_CNT c Cnt.DMC_REFRESHES} [.regs, .dram] := by
  rw [refresh, if_pos ⟨hr, hfreq, hdue⟩]
  exact ⟨(Tbl.get_set _ _ _ _ _).trans (if_pos rfl), (Tbl.get_set _ _ _ _ _).trans (if_pos rfl), State.reg_bump_self _ _,
    ((s.setDram_within _ _).parts (by simp)).trans ((State.bump_within _ (Set.mem_singleton _)).parts (by simp))⟩

/-- A rank's report is noted, and one above the 1x rate shows in HOT (R264). -/
theorem refreshRateNeed_notes (hr : r < s.ranks c) (hfour : r < 4) (high : Bool) :
    Tbl.get false (refreshRateNeed c r high s).dram.hot (4 * c + r) = high
      ∧ (high = true → (refreshRateNeed c r high s).flag (Reg.DMC_STATUS c) Fld.DMC_STATUS_HOT = true)
      ∧ s.within (refreshRateNeed c r high s) {Reg.DMC_STATUS c} [.regs, .dram] := by
  have hnoted : Tbl.get false (Tbl.set false s.dram.hot (4 * c + r) high) (4 * c + r) = high :=
    (Tbl.get_set _ _ _ _ _).trans (if_pos rfl)
  rw [refreshRateNeed, if_neg (Nat.not_le.2 hr)]
  refine ⟨hnoted, fun hhigh => ?_,
    ((s.setDram_within _ _).parts (by simp)).trans ((State.setFld_within _ (Set.mem_singleton _) _ _).parts (by simp))⟩
  exact (State.flag_setFld_bit _ _ ⟨rfl, by decide⟩ _).trans
    (List.any_eq_true.2 ⟨r, List.mem_range.2 hfour, hnoted.trans hhigh⟩)

/-- A command that fails fewer than four times for its parity is counted as retried (R266). -/
theorem dimmAlert_retries {l failures : Nat} {a : LineAt} (hat : s.locate l = some a) (hsome : 0 < failures) (hfew : failures < 4)
    (hshown : s.rankMasked a = false) :
    (dimmAlert l false failures s).reg (Reg.DMC_CNT a.ch Cnt.DMC_CA_RETRY) = s.reg (Reg.DMC_CNT a.ch Cnt.DMC_CA_RETRY) + 1
      ∧ s.onlyParts (dimmAlert l false failures s) [.regs, .fault] := by
  have heq : dimmAlert l false failures s = (s.dmcBump a.ch Cnt.DMC_CA_RETRY).detect (srcDmc a.ch) 0x002 0 (64 * l) := by
    unfold dimmAlert
    rw [hat]
    dsimp only
    rw [if_neg (by simp; omega), if_pos hfew, hshown]
    rfl
  have hdetect := (s.dmcBump a.ch Cnt.DMC_CA_RETRY).detect_collector (srcDmc a.ch) 0x002 0 (64 * l)
  rw [heq]
  exact ⟨(hdetect.1 _ (dmcReg_notMem_collectorRegs (by unfold Reg.DMC_CNT; omega))).trans (State.reg_bump_self _ _),
    State.onlyParts_trans (State.onlyParts_mono (s.bump_rest _) (by simp)) hdetect.2⟩

end

/-! ### Scrubbing (R267) -/

/-- Registers that an access to device memory may change: none says how a channel is populated or counts scrubbed lines. -/
def accessRegs : Set Nat := {a | ∀ c, a ≠ Reg.DMC_POP c ∧ a ≠ Reg.DMC_CNT c Cnt.DMC_SCRUB_LINES}

theorem dmcCnt_access (c : Nat) {i : Nat} (hi : i < 32) (hother : i ≠ Cnt.DMC_SCRUB_LINES) : Reg.DMC_CNT c i ∈ accessRegs := by
  intro d
  simp only [Reg.DMC_CNT, Reg.DMC_POP, Cnt.DMC_SCRUB_LINES] at *
  omega

theorem dmcStatus_access (c : Nat) : Reg.DMC_STATUS c ∈ accessRegs := by
  intro d
  simp only [Reg.DMC_CNT, Reg.DMC_POP, Reg.DMC_STATUS, Cnt.DMC_SCRUB_LINES]
  omega

theorem dmcMig_access (c : Nat) : Reg.DMC_MIG c ∈ accessRegs := by
  intro d
  simp only [Reg.DMC_CNT, Reg.DMC_POP, Reg.DMC_MIG, Cnt.DMC_SCRUB_LINES]
  omega

theorem dmcErrCe_access (c : Nat) : Reg.DMC_ERR_CE c ∈ accessRegs := by
  intro d
  simp only [Reg.DMC_CNT, Reg.DMC_POP, Reg.DMC_ERR_CE, Cnt.DMC_SCRUB_LINES]
  omega

theorem dmcErrUe_access (c : Nat) : Reg.DMC_ERR_UE c ∈ accessRegs := by
  intro d
  simp only [Reg.DMC_CNT, Reg.DMC_POP, Reg.DMC_ERR_UE, Cnt.DMC_SCRUB_LINES]
  omega

theorem collectorRegs_access : collectorRegs ⊆ accessRegs := by
  intro a ha d
  simp only [mem_collectorRegs, Reg.DMC_CNT, Reg.DMC_POP] at *
  omega

/-- An access to device memory, whatever its outcome: the channels' population and the counts of scrubbed lines stand. -/
def State.accessStep (s t : State) : Prop := s.within t accessRegs dramParts

section
variable {s t u : State}

theorem State.accessStep.refl (s : State) : s.accessStep s := State.within.refl s _ _

theorem State.accessStep.trans (a : s.accessStep t) (b : t.accessStep u) : s.accessStep u := State.within.trans a b

/-- A frame with some of those registers and parts. -/
theorem State.within.accessStep {R : Set Nat} {l : List Part} (a : s.within t R l) (hR : R ⊆ accessRegs)
    (hl : ∀ p ∈ l, p ∈ dramParts := by decide) : s.accessStep t :=
  a.mono hR hl

end

section
variable (s : State) (c k : Nat)

theorem State.setFld_accessStep {a : Nat} (h : a ∈ accessRegs) (f : Fld) (x : Nat) : s.accessStep (s.setFld a f x) :=
  (s.setFld_within h f x).accessStep subset_rfl

theorem State.orFld_accessStep {a : Nat} (h : a ∈ accessRegs) (f : Fld) (x : Nat) : s.accessStep (s.orFld a f x) :=
  (s.orFld_within h f x).accessStep subset_rfl

theorem State.dmcBump_accessStep {i : Nat} (hi : i < 32 := by decide) (hother : i ≠ Cnt.DMC_SCRUB_LINES := by decide) :
    s.accessStep (s.dmcBump c i) :=
  (s.bump_within (dmcCnt_access c hi hother)).accessStep subset_rfl

theorem State.setSub_accessStep (x : DmcSub) : s.accessStep (s.setSub c k x) :=
  (s.setSub_within c k x accessRegs).accessStep subset_rfl

theorem State.setPoison_accessStep (l : Nat) (b : Bool) : s.accessStep (s.setPoison l b) :=
  (s.setDram_within _ accessRegs).accessStep subset_rfl

theorem State.detect_accessStep (src kind cls addr : Nat) : s.accessStep (s.detect src kind cls addr) :=
  (s.detect_collector src kind cls addr).accessStep collectorRegs_access

theorem State.bgCount_accessStep (fg : Bool) : s.accessStep (s.bgCount c fg) := by
  unfold State.bgCount
  split
  · exact .refl s
  · exact s.dmcBump_accessStep c

theorem State.lostRead_accessStep : s.accessStep (s.lostRead c) :=
  (s.dmcBump_accessStep c).trans (State.setFld_accessStep _ (dmcStatus_access c) _ _)

theorem State.rowTouchIn_accessStep (a : LineAt) (rank : Nat) : s.accessStep (s.rowTouchIn a rank) :=
  (s.rowTouchIn_within a rank).accessStep
    (Set.insert_subset (dmcCnt_access _ (by decide) (by decide)) (Set.singleton_subset_iff.2 (dmcCnt_access _ (by decide) (by decide))))

theorem State.dequeueWrite_accessStep (i l : Nat) : s.accessStep (s.dequeueWrite c k i l) :=
  (s.setSub_accessStep c k _).trans (State.dmcBump_accessStep _ c)

theorem State.issueOldest_accessStep : s.accessStep (s.issueOldest c k) := by
  have hissue (i : Nat) : s.accessStep (s.issueWrite c k i) := by
    cases hl : (s.sub c k).writeQ[i]? with
    | none =>
      have hnone : s.issueWrite c k i = s := by
        unfold State.issueWrite
        dsimp only
        rw [hl]
      rw [hnone]
      exact .refl s
    | some l =>
      obtain heq | ⟨a, -, heq⟩ := s.issueWrite_cases hl
      · exact heq ▸ s.dequeueWrite_accessStep c k i l
      · exact heq ▸ (s.dequeueWrite_accessStep c k i l).trans (State.rowTouchIn_accessStep _ a _)
  unfold State.issueOldest
  extract_lets x
  split
  · exact .refl s
  · exact hissue _

theorem State.finishDrain_accessStep : s.accessStep (s.finishDrain c k) := by
  unfold State.finishDrain
  split
  · refine forUpTo_induct (fun t => s.accessStep t) 128 _ s (.refl s) fun _ t _ ht => ht.trans ?_
    split
    · exact t.issueOldest_accessStep c k
    · exact .refl t
  · exact .refl s

theorem State.drainCheck_accessStep : s.accessStep (s.drainCheck c k) := by
  unfold State.drainCheck
  extract_lets x
  split
  · split
    · exact s.setSub_accessStep c k _
    · exact .refl s
  · split
    · exact (s.setSub_accessStep c k _).trans (State.dmcBump_accessStep _ c)
    · exact .refl s

theorem State.queueWrite_accessStep (a : LineAt) (l : Nat) (fg : Bool) : s.accessStep (s.queueWrite a l fg) := by
  unfold State.queueWrite
  extract_lets x issued y
  split
  · exact s.dmcBump_accessStep a.ch
  · have hissued : s.accessStep issued := by
      unfold issued
      split
      · exact s.issueOldest_accessStep a.ch a.sub
      · exact .refl s
    clear_value issued
    exact (hissued.trans (issued.setSub_accessStep _ _ _)).trans (State.drainCheck_accessStep _ _ _)

theorem State.startMigration_accessStep (r : Nat) (fill : Bool) : s.accessStep (s.startMigration c r fill) := by
  have hmig (t : State) (f : Fld) (x : Nat) : t.accessStep (t.setFld (Reg.DMC_MIG c) f x) := t.setFld_accessStep (dmcMig_access c) f x
  unfold State.startMigration
  extract_lets p a noted sub0 c0 sub1 c1
  split
  · have hnoted : s.accessStep noted := ((hmig s _ _).trans (hmig _ _ _)).trans (hmig _ _ _)
    clear_value noted
    have hcursor : noted.accessStep c1 := ((noted.setSub_accessStep c 0 _).trans (c0.setSub_accessStep c 1 _)).trans (hmig _ _ _)
    exact (hnoted.trans hcursor).trans (c1.setFld_accessStep (dmcStatus_access c) _ _)
  · exact .refl s

theorem State.rankFail_accessStep (r : Nat) (unreadable : Bool) : s.accessStep (s.rankFail c r unreadable) := by
  have hout (t : State) (n : Nat) : t.accessStep (t.orFld (Reg.DMC_STATUS c) Fld.DMC_STATUS_RANK_OUT n) :=
    t.orFld_accessStep (dmcStatus_access c) _ n
  unfold State.rankFail
  extract_lets moving out ended
  have hfailed : s.accessStep out := hout s _
  clear_value out
  split
  · exact ((hfailed.trans (hout out _)).trans (State.setFld_accessStep _ (dmcMig_access c) _ _)).trans
      (State.setFld_accessStep _ (dmcStatus_access c) _ _)
  · split
    · exact hfailed.trans (out.setFld_accessStep (dmcMig_access c) _ _)
    · exact hfailed.trans (out.startMigration_accessStep c _ _)

section
variable {a : LineAt} (ha : a.ch < 12)
include ha

theorem State.dramShadow_accessStep : s.accessStep (s.dramShadow a.ch) :=
  (s.dramShadow_within ha).accessStep
    (Set.union_subset (Set.singleton_subset_iff.2 (dmcCnt_access _ (by decide) (by decide))) collectorRegs_access)

theorem State.dramCe_accessStep (l : Nat) : s.accessStep (s.dramCe a l) := by
  unfold State.dramCe
  dsimp only
  split
  · exact s.dramShadow_accessStep ha
  · have hnoted := ((s.dmcBump_accessStep a.ch (i := Cnt.DMC_CE_CORRECTED)).trans
      (State.setFld_accessStep _ (dmcErrCe_access a.ch) Fld.DMC_ERR_CE_ADDR (64 * l))).trans
      (State.setFld_accessStep _ (dmcErrCe_access a.ch) Fld.DMC_ERR_CE_VALID 1)
    exact (hnoted.trans (State.detect_accessStep _ _ _ _ _)).trans
      ((State.bgCount_accessStep _ _ _).trans (State.queueWrite_accessStep _ a l false))

theorem State.dramUe_accessStep (l : Nat) : s.accessStep (s.dramUe a l) := by
  unfold State.dramUe
  extract_lets c r masked lost seen counted e noted
  have hseen : s.accessStep seen := (s.setPoison_accessStep l true).trans (State.setFld_accessStep _ (dmcStatus_access _) _ _)
  have hnoted : seen.accessStep noted := by
    refine (seen.dmcBump_accessStep a.ch (i := Cnt.DMC_UE)).trans ?_
    show counted.accessStep noted
    unfold noted
    split
    · exact .refl counted
    · exact (counted.setFld_accessStep (dmcErrUe_access _) _ _).trans (State.setFld_accessStep _ (dmcErrUe_access _) _ _)
  clear_value noted
  split
  · exact hseen.trans (seen.dramShadow_accessStep ha)
  · exact ((hseen.trans hnoted).trans (noted.detect_accessStep _ _ _ _)).trans (State.rankFail_accessStep _ _ _ _)

end

/-- A read of a device line with any outcome (R259, R268, R269). -/
theorem State.dramRead_accessStep (l : Nat) (fg : Bool) (e : Ecc) : s.accessStep (s.dramRead l fg e).2 := by
  unfold State.dramRead
  split
  · exact .refl s
  · next a hat =>
    have ha := State.locate_ch hat
    refine (s.bgCount_accessStep a.ch fg).trans ?_
    generalize s.bgCount a.ch fg = t
    dsimp only
    split
    · exact t.lostRead_accessStep a.ch
    · split
      · exact t.dmcBump_accessStep a.ch
      · have hread : t.accessStep (((t.finishDrain a.ch a.sub).dmcBump a.ch Cnt.DMC_READS).rowTouch a) :=
          ((t.finishDrain_accessStep a.ch a.sub).trans (State.dmcBump_accessStep _ _)).trans (State.rowTouchIn_accessStep _ a _)
        cases e with
        | ok => exact hread
        | corrected => exact hread.trans (State.dramCe_accessStep _ ha l)
        | uncorrectable => exact hread.trans (State.dramUe_accessStep _ ha l)

/-- A scrubbed line is counted; the rest is an access (R267). -/
theorem State.scrubOne_accessStep (x : Nat) (e : Ecc) :
    (s.dmcBump c Cnt.DMC_SCRUB_LINES).accessStep (s.scrubOne c k x e) := by
  unfold State.scrubOne
  extract_lets l r
  have hread : (s.dmcBump c Cnt.DMC_SCRUB_LINES).accessStep r.2 := State.dramRead_accessStep _ _ _ _
  split
  · exact hread.trans (State.dmcBump_accessStep _ c)
  · exact hread

end

/-- How many lines a subchannel scrubs in a pass (R267) is the channel's population's to say. -/
theorem State.scrubSpan_of_pop {s t : State} {c : Nat} (h : t.reg (Reg.DMC_POP c) = s.reg (Reg.DMC_POP c)) :
    t.mappedRanks c * 2 ^ t.rlLog c = s.mappedRanks c * 2 ^ s.rlLog c := by
  simp only [State.mappedRanks, State.ranks, State.hasSpare, State.rlLog, State.flag, State.fld, h]

/-- A due scrub visits the line at the subchannel's scrub cursor, which moves on or starts the next pass (R267). -/
theorem scrubLine_visits {s : State} {c k : Nat} (e : Ecc) (hpop : s.populated c = true)
    (hon : s.flag (Reg.DMC_CTL c) Fld.DMC_CTL_SCRUB_EN = true) (hready : s.dmcReady = true) (hspace : s.space ≠ 0)
    (hmay : s.bgMay c k = true)
    (hdue : (s.fld (Reg.DMC_SCRUB c) Fld.DMC_SCRUB_INTERVAL_NS * 4 + 4) / 5 ≤ s.clk.mono - (s.sub c k).scrubAt) :
    ((scrubLine c k e s).sub c k).scrub
        = (if s.mappedRanks c * 2 ^ s.rlLog c ≤ (s.sub c k).scrub + 1 then 0 else (s.sub c k).scrub + 1)
      ∧ ((scrubLine c k e s).sub c k).scrubAt = s.clk.mono
      ∧ (scrubLine c k e s).reg (Reg.DMC_CNT c Cnt.DMC_SCRUB_LINES) = s.reg (Reg.DMC_CNT c Cnt.DMC_SCRUB_LINES) + 1
      ∧ s.onlyParts (scrubLine c k e s) dramParts := by
  have hvisit := s.scrubOne_accessStep c k (s.sub c k).scrub e
  have hcounted : s.onlyParts (s.dmcBump c Cnt.DMC_SCRUB_LINES) dramParts := State.onlyParts_mono (s.bump_rest _) (by decide)
  unfold scrubLine
  extract_lets x gap visited last y moved
  rw [if_neg (by simp only [hpop, hon, hready, hmay, x, gap]; simp [hspace, hdue])]
  have hlines : visited.reg (Reg.DMC_CNT c Cnt.DMC_SCRUB_LINES) = s.reg (Reg.DMC_CNT c Cnt.DMC_SCRUB_LINES) + 1 :=
    (hvisit.1 _ fun h => (h c).2 rfl).trans (State.reg_bump_self _ _)
  have hspan : visited.mappedRanks c * 2 ^ visited.rlLog c = s.mappedRanks c * 2 ^ s.rlLog c :=
    State.scrubSpan_of_pop ((hvisit.1 _ fun h => (h c).1 rfl).trans ((s.reg_bump _ _).trans (if_neg (by
      simp only [Reg.DMC_POP, Reg.DMC_CNT]
      omega))))
  have hparts : s.onlyParts visited dramParts := State.onlyParts_trans hcounted hvisit.2
  have hclk : visited.clk = s.clk := hparts.clk_eq (by decide)
  clear_value visited
  have hmoved : visited.within moved ∅ [.dram] := visited.setSub_within c k _ ∅
  have hsub : moved.sub c k = { y with
      scrub := if last = true then 0 else x.scrub + 1, scrubPasses := y.scrubPasses + bit last, scrubAt := visited.clk.mono } :=
    visited.sub_setSub_self c k _
  clear_value moved
  have hshown := moved.setFld_within (Set.mem_singleton (Reg.DMC_SCRUB c)) Fld.DMC_SCRUB_PASSES
    (min (moved.sub c 0).scrubPasses (moved.sub c 1).scrubPasses)
  refine ⟨(congrArg DmcSub.scrub hsub).trans ?_, (congrArg DmcSub.scrubAt hsub).trans (congrArg Clock.mono hclk),
    (hshown.1 _ ?_).trans ((hmoved.1 _ (Set.notMem_empty _)).trans hlines),
    State.onlyParts_trans hparts (State.onlyParts_trans (State.onlyParts_mono hmoved.2 (by decide))
      (State.onlyParts_mono hshown.2 (by decide)))⟩
  · simp only [last, hspan, decide_eq_true_eq, x]
  · simp only [Set.mem_singleton_iff, Reg.DMC_CNT, Reg.DMC_SCRUB]
    omega

/-! ### Migration (R270 to R272) -/

/-- What a step notes of a line before the cursor moves: no cursor moves with it, lost lines stay lost, and the channels' counter `i`
stands. -/
structure State.migNotes (s t : State) (i : Nat) : Prop where
  cursor : ∀ c k, (t.sub c k).cursor = (s.sub c k).cursor
  poison : ∀ l, s.poisoned l = true → t.poisoned l = true
  count : ∀ c, t.reg (Reg.DMC_CNT c i) = s.reg (Reg.DMC_CNT c i)

section
variable {s t u : State} {i : Nat}

theorem State.migNotes.refl (s : State) (i : Nat) : s.migNotes s i := ⟨fun _ _ => rfl, fun _ h => h, fun _ => rfl⟩

theorem State.migNotes.trans (a : s.migNotes t i) (b : t.migNotes u i) : s.migNotes u i :=
  ⟨fun c k => (b.cursor c k).trans (a.cursor c k), fun l h => b.poison l (a.poison l h), fun c => (b.count c).trans (a.count c)⟩

/-- A change outside the DRAM tier's state. -/
theorem State.within.migNotes {R : Set Nat} {l : List Part} (a : s.within t R l) (hR : ∀ c, Reg.DMC_CNT c i ∉ R)
    (hl : Part.dram ∉ l := by decide) : s.migNotes t i := by
  have hdram : t.dram = s.dram := a.2.2 .dram hl
  exact ⟨fun c k => by rw [State.sub, State.sub, hdram], fun l h => by rwa [State.poisoned, hdram], fun c => a.1 _ (hR c)⟩

/-- The line at a migration's cursor does not depend on the queues. -/
theorem State.queueStep.migLine (a : s.queueStep t) (c k : Nat) : t.migLine c k = s.migLine c k := by
  have hpop (c : Nat) : t.reg (Reg.DMC_POP c) = s.reg (Reg.DMC_POP c) :=
    a.frame.1 _ (by rintro ⟨d, -, i, hi, heq⟩; simp only [Reg.DMC_POP, Reg.DMC_CNT] at heq; omega)
  have hsrc : t.migSrc c = s.migSrc c :=
    a.fld (by rintro ⟨d, -, i, hi, heq⟩; simp only [Reg.DMC_MIG, Reg.DMC_CNT] at heq; omega) _
  simp only [State.migLine, State.deviceLine, State.rlLog, State.channels_of_pop hpop, hsrc, State.fld_of_reg (hpop c), a.cursor]

end

theorem State.poisoned_setPoison (s : State) (l m : Nat) (b : Bool) :
    (s.setPoison l b).poisoned m = if m = l then b else s.poisoned m :=
  Tbl.get_set _ _ _ _ _

theorem State.setPoison_migNotes (s : State) (l i : Nat) : s.migNotes (s.setPoison l true) i :=
  ⟨fun _ _ => rfl, fun m h => by rw [s.poisoned_setPoison, h, ite_self], fun _ => rfl⟩

theorem State.dmcBump_migNotes (s : State) (c : Nat) {i j : Nat} (hother : i ≠ j := by decide) (hi : i < 32 := by decide)
    (hj : j < 32 := by decide) : s.migNotes (s.dmcBump c j) i :=
  (s.bump_within (Set.mem_singleton (Reg.DMC_CNT c j))).migNotes fun d => by
    simp only [Set.mem_singleton_iff, Reg.DMC_CNT]
    omega

/-- A RANK_MIGRATE's results and progress are registers of its slot (R380). -/
theorem State.lopMigrated_within (s : State) (c : Nat) (bad : Bool) : s.within (s.lopMigrated c bad) {a | a < 0x100000} [.regs] := by
  refine forUpTo_induct (fun t => s.within t {a | a < 0x100000} [.regs]) 16 _ s (.refl s _ _) fun i t hi ht => ht.trans ?_
  have hresult : Reg.LOP_RESULT i (if bad then 1 else 0) ∈ ({a | a < 0x100000} : Set Nat) := by
    simp only [Set.mem_ofPred_eq, Reg.LOP_RESULT]
    split <;> omega
  have hprogress : Reg.LOP_PROGRESS i ∈ ({a | a < 0x100000} : Set Nat) := by
    simp only [Set.mem_ofPred_eq, Reg.LOP_PROGRESS]
    omega
  split
  · split
    · exact (t.bump_within hresult).trans (State.setFld_within _ hprogress _ _)
    · exact .refl t _ _
  · exact .refl t _ _

theorem State.lopMigrated_migNotes (s : State) (c : Nat) (bad : Bool) (i : Nat) : s.migNotes (s.lopMigrated c bad) i :=
  (s.lopMigrated_within c bad).migNotes fun d => by
    simp only [Set.mem_ofPred_eq, Reg.DMC_CNT]
    omega

theorem State.drawBytes_only (s : State) (n : Nat) : s.onlyParts (s.drawBytes n).2 [.free] := by
  induction n generalizing s with
  | zero => exact s.onlyParts_refl _
  | succ n ih => exact State.onlyParts_trans s.draw_rest (ih _)

theorem State.setCast_only (s : State) (x : CastSt) : s.onlyParts { s with cast := x } [.cast] :=
  ⟨rfl, fun p hp => by
    cases p with
    | cast => exact absurd hp (by decide)
    | _ => rfl⟩

/-- A journal entry that joins those that wait draws its open bytes (R341, R352). -/
theorem State.jnlQueue_only (s : State) (w : JWhat) : s.onlyParts (s.jnlQueue w) [.cast, .free] := by
  unfold State.jnlQueue
  split
  · exact s.onlyParts_refl _
  · extract_lets x l
    exact State.onlyParts_trans (State.onlyParts_mono (s.drawBytes_only _) (by decide))
      (State.onlyParts_mono (State.setCast_only _ _) (by decide))

/-- A migration that moves on: its cursor's subchannel, then the registers that show it and the journal's entry at its end. -/
theorem State.advanceMigration_shows (s : State) (c k : Nat) :
    (s.setSub c k { s.sub c k with cursor := (s.sub c k).cursor + 1 }).within (s.advanceMigration c k)
      {Reg.DMC_MIG c, Reg.DMC_STATUS c} [.regs, .cast, .free] := by
  unfold State.advanceMigration
  extract_lets sub moved rl low shown ended out
  have hshown : moved.within shown {Reg.DMC_MIG c, Reg.DMC_STATUS c} [.regs] := moved.setFld_within (by simp) _ _
  clear_value shown
  split
  · have hout : shown.within out {Reg.DMC_MIG c, Reg.DMC_STATUS c} [.regs] :=
      ((shown.setFld_within (by simp) _ _).trans (State.setFld_within _ (by simp) _ _)).trans (State.setFld_within _ (by simp) _ _)
    exact ((hshown.trans (hout.trans (out.orFld_within (by simp) _ _))).parts (by decide)).trans
      (((State.jnlQueue_only _ _).within (by decide) _).parts (by decide))
  · exact hshown.parts (by decide)

section
variable {s t u : State} {c k i : Nat}

/-- A step that counts its line, notes what becomes of it and moves its cursor on. -/
theorem State.migNotes.advance (hbefore : s.migNotes t i) (hafter : (t.dmcBump c i).migNotes u i) (hi : i < 32) :
    ((u.advanceMigration c k).sub c k).cursor = (s.sub c k).cursor + 1
      ∧ (∀ l, u.poisoned l = true → (u.advanceMigration c k).poisoned l = true)
      ∧ (u.advanceMigration c k).reg (Reg.DMC_CNT c i) = s.reg (Reg.DMC_CNT c i) + 1 := by
  have hshows := (u.advanceMigration_shows c k).migNotes (i := i) fun d => by
    simp only [Set.mem_insert_iff, Set.mem_singleton_iff, Reg.DMC_CNT, Reg.DMC_MIG, Reg.DMC_STATUS]
    omega
  have hcursor : (u.sub c k).cursor = (s.sub c k).cursor := (hafter.cursor c k).trans (hbefore.cursor c k)
  have hcount : u.reg (Reg.DMC_CNT c i) = s.reg (Reg.DMC_CNT c i) + 1 := by
    rw [hafter.count, State.dmcBump, State.reg_bump_self, hbefore.count]
  refine ⟨?_, hshows.poison, (hshows.count c).trans hcount⟩
  rw [hshows.cursor, State.sub_setSub_self, hcursor]

/-- Rows are noted: of the counters, those of row hits and misses alone may move. -/
structure State.rowStep (s t : State) : Prop where
  queue : s.queueStep t
  count : ∀ c i, Cnt.DMC_ROW_MISSES < i → i < 32 → t.reg (Reg.DMC_CNT c i) = s.reg (Reg.DMC_CNT c i)

theorem State.rowStep.migNotes (a : s.rowStep t) (hother : Cnt.DMC_ROW_MISSES < i := by decide) (hi : i < 32 := by decide) :
    s.migNotes t i :=
  ⟨a.queue.cursor, fun l h => (a.queue.poisoned l).trans h, fun c => a.count c i hother hi⟩

theorem State.rowTouchIn_rowStep (s : State) {a : LineAt} (ha : a.ch < 12) (rank : Nat) : s.rowStep (s.rowTouchIn a rank) :=
  ⟨s.rowTouchIn_queueStep ha rank, fun c i hother hi => (s.rowTouchIn_within a rank).1 _ (by
    simp only [Set.mem_insert_iff, Set.mem_singleton_iff, Reg.DMC_CNT, Cnt.DMC_ROW_HITS, Cnt.DMC_ROW_MISSES] at *
    omega)⟩

theorem State.migTouch_rowStep (s : State) (hc : c < 12) (k : Nat) (read : Bool) : s.rowStep (s.migTouch c k read) := by
  unfold State.migTouch
  extract_lets a opened
  have hopened : s.rowStep opened := by
    unfold opened
    split
    · exact s.rowTouchIn_rowStep hc _
    · exact ⟨.refl s, fun _ _ _ _ => rfl⟩
  have hspare : opened.rowStep (opened.rowTouchIn a (opened.migDst c)) := opened.rowTouchIn_rowStep hc _
  exact ⟨hopened.queue.trans hspare.queue, fun d i hother hi => (hspare.count d i hother hi).trans (hopened.count d i hother hi)⟩

/-- A copied line (R270), before the cursor moves: counted, shadowed where its read fails, and lost in the spare where it was. -/
def State.migCopied (s : State) (c k : Nat) (e : Ecc) : State :=
  let l := s.migLine c k
  let bad := s.poisoned l || e == .uncorrectable
  let t := (s.dmcBump c Cnt.DMC_MIG_LINES).dmcBump c Cnt.DMC_BG_ACCESSES
  let t := (if e ≠ .ok ∧ !s.poisoned l then t.dramShadow c else t).migTouch c k true
  let t := if bad then (t.setPoison l true).dmcBump c Cnt.DMC_MIG_POISONED else t
  t.lopMigrated c bad

theorem migrationCopyStep_copies {e : Ecc} (hcopies : s.migState c = 1) (hready : s.dmcReady = true)
    (hleft : (s.sub c k).cursor < 2 ^ s.rlLog c) (hfree : (s.sub c k).writeQ.contains (s.migLine c k) = false)
    (hmay : s.bgMay c k = true) : migrationCopyStep c k e s = (s.migCopied c k e).advanceMigration c k := by
  unfold migrationCopyStep
  rw [if_neg (by simp only [hcopies, hready, hmay]; simp [hleft])]
  dsimp only
  rw [if_neg (by rw [hfree]; decide)]
  rfl

theorem State.migCopied_notes (hc : c < 12) (e : Ecc) :
    (s.dmcBump c Cnt.DMC_MIG_LINES).migNotes (s.migCopied c k e) Cnt.DMC_MIG_LINES
      ∧ (e = .uncorrectable → (s.migCopied c k e).poisoned (s.migLine c k) = true) := by
  unfold State.migCopied
  extract_lets l bad counted touched lost
  have htouched : (s.dmcBump c Cnt.DMC_MIG_LINES).migNotes touched Cnt.DMC_MIG_LINES := by
    refine (State.dmcBump_migNotes _ c (j := Cnt.DMC_BG_ACCESSES)).trans (State.migNotes.trans ?_
      (State.migTouch_rowStep _ hc k true).migNotes)
    split
    · exact (counted.dramShadow_within hc).migNotes fun d => by
        simp only [Set.mem_union, Set.mem_singleton_iff, mem_collectorRegs, Reg.DMC_CNT, Cnt.DMC_MIG_LINES, Cnt.DMC_SHADOWED_UE]
        omega
    · exact .refl _ _
  clear_value touched
  have hlop := lost.lopMigrated_migNotes c bad Cnt.DMC_MIG_LINES
  by_cases hbad : bad = true
  · have hmarked : lost = (touched.setPoison l true).dmcBump c Cnt.DMC_MIG_POISONED := if_pos hbad
    have hnotes : touched.migNotes lost Cnt.DMC_MIG_LINES :=
      hmarked ▸ (touched.setPoison_migNotes l _).trans (State.dmcBump_migNotes _ c)
    have hpoison : lost.poisoned l = true := hmarked ▸ (touched.poisoned_setPoison l l true).trans (if_pos rfl)
    exact ⟨(htouched.trans hnotes).trans hlop, fun _ => hlop.poison l hpoison⟩
  · have hsound : lost = touched := if_neg hbad
    exact ⟨htouched.trans (hsound ▸ hlop), fun he => absurd (by simp [bad, he]) hbad⟩

/-- A line filled with poison (R271), before the cursor moves. -/
def State.migFilled (s : State) (c k : Nat) : State :=
  let t := (((s.migTouch c k false).dmcBump c Cnt.DMC_MIG_LINES).dmcBump c Cnt.DMC_MIG_POISONED).dmcBump c Cnt.DMC_BG_ACCESSES
  (t.setPoison (t.migLine c k) true).lopMigrated c true

theorem poisonFillStep_fills (hfills : s.migState c = 2) (hready : s.dmcReady = true)
    (hleft : (s.sub c k).cursor < 2 ^ s.rlLog c) (hmay : s.bgMay c k = true) :
    poisonFillStep c k s = (s.migFilled c k).advanceMigration c k :=
  if_neg (by simp only [hfills, hready, hmay]; simp [hleft])

theorem State.migFilled_notes (hc : c < 12) :
    s.migNotes ((s.migTouch c k false).dmcBump c Cnt.DMC_MIG_LINES) Cnt.DMC_MIG_POISONED
      ∧ (((s.migTouch c k false).dmcBump c Cnt.DMC_MIG_LINES).dmcBump c Cnt.DMC_MIG_POISONED).migNotes (s.migFilled c k)
        Cnt.DMC_MIG_POISONED
      ∧ (s.migFilled c k).poisoned (s.migLine c k) = true := by
  have hrows := s.migTouch_rowStep hc k false
  unfold State.migFilled
  extract_lets counted
  have hcounted : s.queueStep counted := ((hrows.queue.trans (State.dmcBump_queueStep _ hc (by decide))).trans
    (State.dmcBump_queueStep _ hc (by decide))).trans (State.dmcBump_queueStep _ hc (by decide))
  have hlop := (counted.setPoison (counted.migLine c k) true).lopMigrated_migNotes c true Cnt.DMC_MIG_POISONED
  refine ⟨hrows.migNotes.trans (State.dmcBump_migNotes _ c),
    ((State.dmcBump_migNotes _ c).trans (counted.setPoison_migNotes _ _)).trans hlop, hlop.poison _ ?_⟩
  rw [counted.poisoned_setPoison, if_pos (hcounted.migLine c k).symm]

end

/-! ### The frequency change (R273) -/

/-- What each element's change brings about, and no other element's undoes, holds of every element after a run over a list. -/
theorem forEach_establishes {α : Type} {f : α → State → State} {Q : α → State → Prop} (hset : ∀ x t, Q x (f x t))
    (hkeep : ∀ x y t, Q x t → Q x (f y t)) (l : List α) (s : State) : ∀ x ∈ l, Q x (forEach l f s) := by
  induction l generalizing s with
  | nil => simp
  | cons y r ih =>
    rintro x (_ | ⟨_, hx⟩)
    · exact forEach_induct (Q y) r f _ (hset y s) fun z t _ ht => hkeep y z t ht
    · exact ih _ x hx

/-- Changes of channels that each bring IN_SR of the own channel to one value. -/
theorem forEach_inSr {f : Nat → State → State} {R : Nat → Set Nat} {b : Bool}
    (hframe : ∀ c (t : State), t.within (f c t) (R c) [.regs])
    (hset : ∀ c t, (f c t).flag (Reg.DMC_STATUS c) Fld.DMC_STATUS_IN_SR = b) (hapart : ∀ c d, c ≠ d → Reg.DMC_STATUS c ∉ R d)
    (l : List Nat) (s : State) :
    (∀ c ∈ l, (forEach l f s).flag (Reg.DMC_STATUS c) Fld.DMC_STATUS_IN_SR = b)
      ∧ s.within (forEach l f s) {a | ∃ c ∈ l, a ∈ R c} [.regs] := by
  refine ⟨forEach_establishes (Q := fun c t => t.flag (Reg.DMC_STATUS c) Fld.DMC_STATUS_IN_SR = b) hset (fun c d t ht => ?_) l s, ?_⟩
  · by_cases hcd : c = d
    · exact hcd ▸ hset c t
    · exact (State.flag_of_reg ((hframe d t).1 _ (hapart c d hcd)) _).trans ht
  · exact forEach_induct (fun t => s.within t {a | ∃ c ∈ l, a ∈ R c} [.regs]) l f s (.refl s _ _)
      fun c t hc ht => ht.trans ((hframe c t).mono (fun a ha => ⟨c, hc, ha⟩) fun _ h => h)

section
variable {s : State}

/-- The checks of R273 do not read TARGET. -/
theorem State.freqError_setTarget (s : State) (v target demand : Nat) :
    (s.setFld (Reg.DMC_FREQ 0) Fld.DMC_FREQ_TARGET v).freqError target demand = s.freqError target demand := by
  have hnamed := s.setFld_within (Set.mem_singleton (Reg.DMC_FREQ 0)) Fld.DMC_FREQ_TARGET v
  have hmask := s.fld_setFld_apart (Reg.DMC_FREQ 0) Fld.DMC_FREQ_TARGET Fld.DMC_FREQ_SPEED_MASK v (.inl (by decide))
  have hdram := s.setFld_dram (Reg.DMC_FREQ 0) Fld.DMC_FREQ_TARGET v
  generalize s.setFld (Reg.DMC_FREQ 0) Fld.DMC_FREQ_TARGET v = t at *
  have hpop (c : Nat) : t.reg (Reg.DMC_POP c) = s.reg (Reg.DMC_POP c) :=
    hnamed.1 _ (by simp only [Set.mem_singleton_iff, Reg.DMC_POP, Reg.DMC_FREQ]; omega)
  have hmoving : t.anyMigration = s.anyMigration := List.any_congr rfl fun c => by
    rw [State.migState, State.migState, State.fld_of_reg (hnamed.1 (Reg.DMC_MIG c) (by
      simp only [Set.mem_singleton_iff, Reg.DMC_MIG, Reg.DMC_FREQ]; omega))]
  unfold State.freqError State.missService
  rw [hmask, hmoving, hdram, State.channels_of_pop hpop, funext fun c => congrArg (· == 2) (State.fld_of_reg (hpop c) _)]

/-- A GO that passes the checks: TARGET and BUSY show it, and the DMCs stop accepting requests. -/
theorem freqGo_starts {v : Nat} (hv : v < 4) (hpasses : s.freqError v (s.fld Reg.CST_ADM_MISS Fld.CST_ADM_MISS_DEMAND) = none) :
    (freqGo v s).dram = { s.dram with freq := .draining, freqAt := s.clk.mono, freqTo := v }
      ∧ (freqGo v s).flag (Reg.DMC_FREQ 0) Fld.DMC_FREQ_BUSY = true ∧ (freqGo v s).fld (Reg.DMC_FREQ 0) Fld.DMC_FREQ_TARGET = v
      ∧ s.within (freqGo v s) {Reg.DMC_FREQ 0} [.regs, .dram] := by
  have hnamed := s.setFld_within (Set.mem_singleton (Reg.DMC_FREQ 0)) Fld.DMC_FREQ_TARGET v
  have hdemand := s.fld_setFld_other (Reg.DMC_FREQ 0) Reg.CST_ADM_MISS Fld.DMC_FREQ_TARGET Fld.CST_ADM_MISS_DEMAND v (by decide)
  unfold freqGo
  dsimp only
  rw [hdemand, s.freqError_setTarget, hpasses]
  refine ⟨rfl, State.flag_setFld_one _ _ ⟨rfl, by decide⟩, ?_,
    (hnamed.parts (by decide)).trans (((State.setDram_within _ _ _).parts (by decide)).trans
      ((State.setFld_within _ (Set.mem_singleton _) _ _).parts (by decide)))⟩
  exact (State.fld_setFld_apart _ _ _ _ _ (.inr (by decide))).trans (s.fld_setFld_fits _ (by decide) hv)

/-- Quiet DMCs enter self-refresh, and every populated channel shows it. -/
theorem freqSelfRefresh_enters (hdrains : s.dram.freq = .draining) (hquiet : s.dmcQuiet = true) :
    (freqSelfRefresh s).dram = { s.dram with freq := .selfRefresh }
      ∧ (∀ c ∈ s.channels, (freqSelfRefresh s).flag (Reg.DMC_STATUS c) Fld.DMC_STATUS_IN_SR = true)
      ∧ s.within (freqSelfRefresh s) {a | a ∈ s.channels.map Reg.DMC_STATUS} [.regs, .dram] := by
  rw [freqSelfRefresh, if_neg (by simp [hdrains, hquiet])]
  have hentered := s.setDram_within { s.dram with freq := .selfRefresh } {a | a ∈ s.channels.map Reg.DMC_STATUS}
  have hdram : State.dram { s with dram := { s.dram with freq := .selfRefresh } } = { s.dram with freq := .selfRefresh } := rfl
  generalize ({ s with dram := { s.dram with freq := .selfRefresh } } : State) = t at *
  obtain ⟨hshown, hframe⟩ := forEach_inSr (f := fun c t => t.setFld (Reg.DMC_STATUS c) Fld.DMC_STATUS_IN_SR 1)
    (R := fun c => {Reg.DMC_STATUS c}) (b := true) (fun c t => t.setFld_within (Set.mem_singleton _) _ _)
    (fun c t => t.flag_setFld_one _ ⟨rfl, by decide⟩)
    (fun c d hcd => by simp only [Set.mem_singleton_iff, Reg.DMC_STATUS]; omega) s.channels t
  refine ⟨(hframe.2.2 .dram (by decide)).trans hdram, hshown, (hentered.parts (by decide)).trans (hframe.mono ?_ (by decide))⟩
  rintro a ⟨c, hc, rfl⟩
  exact List.mem_map_of_mem hc

/-- The ranks of the populated channels leave self-refresh, each channel with its other timing set. -/
def State.wakeRanks (s : State) : State :=
  forEach s.channels (fun c t => (t.setFld (Reg.DMC_STATUS c) Fld.DMC_STATUS_IN_SR 0).setFld (Reg.DMC_TIMING_SEL c)
    Fld.DMC_TIMING_SEL_ACTIVE (1 - t.fld (Reg.DMC_TIMING_SEL c) Fld.DMC_TIMING_SEL_ACTIVE)) s

theorem State.wakeRanks_leaves (s : State) :
    (∀ c ∈ s.channels, s.wakeRanks.flag (Reg.DMC_STATUS c) Fld.DMC_STATUS_IN_SR = false)
      ∧ s.wakeRanks.reg (Reg.DMC_FREQ 0) = s.reg (Reg.DMC_FREQ 0) ∧ s.onlyParts s.wakeRanks [.regs] := by
  obtain ⟨hshown, hframe⟩ : (∀ c ∈ s.channels, s.wakeRanks.flag (Reg.DMC_STATUS c) Fld.DMC_STATUS_IN_SR = false)
      ∧ s.within s.wakeRanks {a | ∃ c ∈ s.channels, a ∈ ({Reg.DMC_STATUS c, Reg.DMC_TIMING_SEL c} : Set Nat)} [.regs] :=
    forEach_inSr (fun c t => (t.setFld_within (by simp) _ _).trans (State.setFld_within _ (by simp) _ _))
      (fun c t => (State.flag_of_reg ((State.reg_setFld _ _ _ _ _).trans (if_neg (by
        simp only [Reg.DMC_STATUS, Reg.DMC_TIMING_SEL]; omega))) _).trans (t.flag_setFld_zero _ ⟨rfl, by decide⟩))
      (fun c d hcd => by
        simp only [Set.mem_insert_iff, Set.mem_singleton_iff, Reg.DMC_STATUS, Reg.DMC_TIMING_SEL]
        omega) _ _
  refine ⟨hshown, hframe.1 _ ?_, hframe.2⟩
  rintro ⟨c, -, hc⟩
  simp only [Set.mem_insert_iff, Set.mem_singleton_iff, Reg.DMC_FREQ, Reg.DMC_STATUS, Reg.DMC_TIMING_SEL] at hc
  omega

/-- A change that ends: its time is shown, the DMCs accept requests, and the journal takes an entry. -/
def State.endChange (s : State) : State :=
  let t := s.setFld (Reg.DMC_FREQ_TIME 0) Fld.DMC_FREQ_TIME_LAST_NS ((s.clk.mono - s.dram.freqAt) * 5 / 4)
  State.jnlQueue { t with dram := { t.dram with freq := .idle } } (.event .frequency)

theorem State.endChange_leaves (s : State) :
    s.endChange.dram = { s.dram with freq := .idle }
      ∧ s.within s.endChange {Reg.DMC_FREQ_TIME 0} [.regs, .dram, .cast, .free] := by
  unfold State.endChange
  extract_lets t
  have htimed : s.within t {Reg.DMC_FREQ_TIME 0} [.regs] := s.setFld_within (Set.mem_singleton _) _ _
  have hready := t.setDram_within { t.dram with freq := .idle } {Reg.DMC_FREQ_TIME 0}
  have hqueued := State.jnlQueue_only { t with dram := { t.dram with freq := .idle } } (.event .frequency)
  exact ⟨hqueued.2 .dram (by decide),
    (htimed.parts (by decide)).trans ((hready.parts (by decide)).trans ((hqueued.within (by decide) _).parts (by decide)))⟩

/-- The speed is the target's, the ranks have left self-refresh and the DMCs accept requests again. -/
theorem freqChangeDone_ends (hasleep : s.dram.freq = .selfRefresh) (hon : s.power.shutdown = false) :
    (freqChangeDone s).dram = { s.dram with freq := .idle }
      ∧ (freqChangeDone s).fld (Reg.DMC_FREQ 0) Fld.DMC_FREQ_SPEED = s.dram.freqTo % 2 ^ Fld.DMC_FREQ_SPEED.len
      ∧ (freqChangeDone s).flag (Reg.DMC_FREQ 0) Fld.DMC_FREQ_BUSY = false
      ∧ (∀ c ∈ s.channels, (freqChangeDone s).flag (Reg.DMC_STATUS c) Fld.DMC_STATUS_IN_SR = false)
      ∧ s.onlyParts (freqChangeDone s) [.regs, .dram, .cast, .free] := by
  have heq : freqChangeDone s = ((s.setFld (Reg.DMC_FREQ 0) Fld.DMC_FREQ_SPEED s.dram.freqTo).setFld (Reg.DMC_FREQ 0)
      Fld.DMC_FREQ_BUSY 0).wakeRanks.endChange := if_neg (by simp [hasleep, hon])
  have hswitched := (s.setFld_within (Set.mem_singleton (Reg.DMC_FREQ 0)) Fld.DMC_FREQ_SPEED s.dram.freqTo).trans
    (State.setFld_within _ (Set.mem_singleton _) Fld.DMC_FREQ_BUSY 0)
  have hspeed := (State.fld_setFld_apart (s.setFld (Reg.DMC_FREQ 0) Fld.DMC_FREQ_SPEED s.dram.freqTo) (Reg.DMC_FREQ 0)
    Fld.DMC_FREQ_BUSY Fld.DMC_FREQ_SPEED 0 (.inr (by decide))).trans (s.fld_setFld_self _ _ _ (by decide))
  have hbusy := (s.setFld (Reg.DMC_FREQ 0) Fld.DMC_FREQ_SPEED s.dram.freqTo).flag_setFld_zero (Reg.DMC_FREQ 0) (f := Fld.DMC_FREQ_BUSY)
    ⟨rfl, by decide⟩
  rw [heq]
  generalize (s.setFld (Reg.DMC_FREQ 0) Fld.DMC_FREQ_SPEED s.dram.freqTo).setFld (Reg.DMC_FREQ 0) Fld.DMC_FREQ_BUSY 0 = t at *
  have hchannels : t.channels = s.channels :=
    State.channels_of_pop fun c => hswitched.1 _ (by simp only [Set.mem_singleton_iff, Reg.DMC_POP, Reg.DMC_FREQ]; omega)
  obtain ⟨hshown, hkept, hwoken⟩ := t.wakeRanks_leaves
  obtain ⟨hready, hended⟩ := t.wakeRanks.endChange_leaves
  have hfreq := (hended.1 (Reg.DMC_FREQ 0) (by decide)).trans hkept
  refine ⟨hready.trans ?_, (State.fld_of_reg hfreq _).trans hspeed, (State.flag_of_reg hfreq _).trans hbusy, fun c hc => ?_,
    State.onlyParts_trans (State.onlyParts_mono hswitched.2 (by decide))
      (State.onlyParts_trans (State.onlyParts_mono hwoken (by decide)) hended.2)⟩
  · have hdram : t.wakeRanks.dram = s.dram := (hwoken.2 .dram (by decide)).trans (hswitched.2.2 .dram (by decide))
    rw [hdram]
  · refine (State.flag_of_reg (hended.1 _ ?_) _).trans (hshown c (hchannels ▸ hc))
    simp only [Set.mem_singleton_iff, Reg.DMC_STATUS, Reg.DMC_FREQ_TIME]
    omega

end

/-! ### The obligation -/

/-- Settles O33: each command is reduced to its effect; an access to a line, whatever its outcome, leaves what the command
counts. The spacing of same-bank refresh commands (log 84) and the counts of a poison fill (log 20) are choices of the assumption log. -/
theorem dramUpkeep : Obligations.DramUpkeep := by
  refine ⟨fun s c r hr hfreq hdue => ?_, fun s c r high hr => ?_, fun s l failures a hat hsome hfew hshown => ?_,
    fun s c k e hpop hon hready hspace hmay hdue => ?_, fun s c k e hcopies hready hleft hfree hmay => ?_,
    fun s c k hfills hready hleft hmay => ?_, fun s v hpasses => ?_, fun s hdrains hquiet => ?_, fun s hasleep hon => ?_⟩
  · obtain ⟨hnoted, hbank, hcount, hframe⟩ := refresh_issues hr hfreq (decide_eq_true hdue)
    exact ⟨_, done_eq_next hframe.2 (by decide), hnoted, hbank, hcount, hframe.onlyRegs (by simp), hframe.2⟩
  · obtain ⟨hnoted, hhot, hframe⟩ := refreshRateNeed_notes hr r.isLt high
    exact ⟨_, done_eq_next hframe.2 (by decide), hnoted, hhot, hframe.onlyRegs (by simp), hframe.2⟩
  · obtain ⟨hcount, hframe⟩ := dimmAlert_retries hat hsome hfew hshown
    exact ⟨_, done_eq_next hframe (by decide), hcount, hframe⟩
  · obtain ⟨hcursor, hwhen, hcount, hframe⟩ := scrubLine_visits e hpop hon hready hspace hmay hdue
    exact ⟨_, done_eq_next hframe (by decide), hcursor, hwhen, hcount, hframe⟩
  · obtain ⟨hnotes, hlost⟩ := s.migCopied_notes (k := k) c.isLt e
    obtain ⟨hcursor, hpoison, hcount⟩ := (State.migNotes.refl s _).advance (k := k) hnotes (by decide)
    exact ⟨_, congrArg (done s) (migrationCopyStep_copies hcopies hready hleft hfree hmay), hcursor,
      fun he => hpoison _ (hlost he), hcount⟩
  · obtain ⟨hbefore, hafter, hlost⟩ := s.migFilled_notes (k := k) c.isLt
    obtain ⟨hcursor, hpoison, hcount⟩ := hbefore.advance (k := k) hafter (by decide)
    exact ⟨_, congrArg (done s) (poisonFillStep_fills hfills hready hleft hmay), hcursor, hpoison _ hlost, hcount⟩
  · obtain ⟨hdram, hbusy, htarget, hframe⟩ := freqGo_starts v.isLt hpasses
    exact ⟨_, done_eq_next hframe.2 (by decide), hdram, hbusy, htarget, hframe.onlyRegs (by simp), hframe.2⟩
  · obtain ⟨hdram, hshown, hframe⟩ := freqSelfRefresh_enters hdrains hquiet
    exact ⟨_, done_eq_next hframe.2 (by decide), hdram, hshown, hframe.onlyRegs fun _ h => h, hframe.2⟩
  · obtain ⟨hdram, hspeed, hbusy, hshown, hframe⟩ := freqChangeDone_ends hasleep hon
    exact ⟨_, done_eq_next hframe (by decide), hdram, hspeed, hbusy, hshown, hframe⟩

end Sys2Proof.Machine
end

section
/-! PROOF. The buffer pool manager's state (R279, R281, R284): pointers, caches, pool-1 metadata, and what a step of the BPM leaves. -/

namespace Sys2Proof.Machine

/-! ### Pointers (R279) -/

theorem ptrPool_ptrOf {p : Nat} (hp : p < 4) (i : Nat) : ptrPool (ptrOf p i) = p := by
  unfold ptrPool ptrOf
  omega

theorem ptrIndex_ptrOf (p : Nat) {i : Nat} (hi : i < 16777216) : ptrIndex (ptrOf p i) = i := by
  unfold ptrIndex ptrOf
  omega

/-- `x` points to a buffer of pool 1. -/
structure State.inPark (s : State) (x : Nat) : Prop where
  pool : ptrPool x = 1
  bits : x / 16777216 < 4
  within : ptrIndex x < s.poolCount 1

theorem State.ptrOf_inPark {s : State} {i : Nat} (hi : i < 16777216) (hwithin : i < s.poolCount 1) : s.inPark (ptrOf 1 i) := by
  refine ⟨ptrPool_ptrOf (by decide) i, ?_, (ptrIndex_ptrOf 1 hi).symm ▸ hwithin⟩
  unfold ptrOf
  omega

section
variable {s t : State}

/-! ### Tables of the pools -/

theorem State.setPools_only (s : State) (x : PoolSt) : s.onlyParts { s with pools := x } [.pools] :=
  ⟨rfl, fun p hp => by
    cases p with
    | pools => exact absurd hp (by simp)
    | _ => rfl⟩

theorem State.setReadback_only (s : State) (l : List Word64) : s.onlyParts { s with readback := l } [.readback] :=
  ⟨rfl, fun p hp => by
    cases p with
    | readback => exact absurd hp (by simp)
    | _ => rfl⟩

theorem State.setCache_only (s : State) (q p : Nat) (x : PoolCache) : s.onlyParts (s.setCache q p x) [.pools] := s.setPools_only _

theorem State.setRing_only (s : State) (p : Nat) (x : PoolRing) : s.onlyParts (s.setRing p x) [.pools] := s.setPools_only _

theorem State.setAsk_only (s : State) (r p : Nat) (on : Bool) : s.onlyParts (s.setAsk r p on) [.pools] := s.setPools_only _

theorem State.poolNote_only (s : State) (p : Nat) : s.onlyParts (s.poolNote p) [.pools] := s.setPools_only _

theorem State.cache_setCache_self (s : State) (q p : Nat) (x : PoolCache) : (s.setCache q p x).cache q p = x :=
  (Tbl.get_set _ _ _ _ _).trans (if_pos rfl)

theorem State.ring_setRing_self (s : State) (p : Nat) (x : PoolRing) : (s.setRing p x).ring p = x :=
  (Tbl.get_set _ _ _ _ _).trans (if_pos rfl)

theorem State.cache_of_pools (h : t.pools = s.pools) (q p : Nat) : t.cache q p = s.cache q p := by rw [State.cache, State.cache, h]

theorem State.ring_of_pools (h : t.pools = s.pools) (p : Nat) : t.ring p = s.ring p := by rw [State.ring, State.ring, h]

/-- A request that waits, or waits no longer, takes no pointer. -/
theorem State.free_setAsk (s : State) (r p q : Nat) (on : Bool) : ((s.setAsk r p on).cache q p).free = (s.cache q p).free := by
  unfold State.setAsk State.setCache State.cache
  dsimp only
  rw [Tbl.get_set]
  split
  · next hkey => rw [hkey]
  · rfl

/-- A cache has at most as many pointers to grant as it holds. -/
theorem State.cached_le (s : State) (q p : Nat) : s.cached q p ≤ (s.cache q p).free.length := List.length_filter_le _ _

theorem State.cached_eq_length {q p : Nat} (hon : ∀ x ∈ (s.cache q p).free, s.ptrOn x = true) :
    s.cached q p = (s.cache q p).free.length :=
  congrArg List.length (List.filter_eq_self.2 hon)

/-! ### Registers -/

/-- An event counted after the pools alone have changed. -/
theorem State.onlyParts.count (h : s.onlyParts t [.pools]) (i : Nat) :
    (t.bpmBump i).reg (Reg.BPM_CNT i) = s.reg (Reg.BPM_CNT i) + 1 ∧ s.within (t.bpmBump i) {Reg.BPM_CNT i} [.regs, .pools] :=
  ⟨(t.reg_bump_self _).trans (by rw [h.reg_eq (by decide)]),
    ((h.within (by decide) _).parts (by simp)).trans ((t.bump_within (Set.mem_singleton _)).parts (by simp))⟩

theorem bpmCnt_not_memory {i : Nat} (hi : i < 32) : Reg.BPM_CNT i ∉ memoryRegs := by
  simp only [mem_memoryRegs, Reg.BPM_CNT]
  omega

/-- An event of the BPM leaves the registers of device memory. -/
theorem State.bpmBump_memory (s : State) {i : Nat} (hi : i < 32) : ∀ a ∈ memoryRegs, (s.bpmBump i).reg a = s.reg a := fun a ha =>
  (s.reg_bump _ a).trans (if_neg (ne_of_mem_of_not_mem ha (bpmCnt_not_memory hi)))

/-! ### Metadata of pool 1 (R284) -/

theorem State.metaRead_park {x : Nat} (hx : ptrPool x = 1) : s.metaRead x .ok = (some (Tbl.get 0 s.pools.meta1 (ptrIndex x)), s) :=
  if_pos hx

theorem State.metaRead_park_lost {x : Nat} (hx : ptrPool x = 1) : s.metaRead x .uncorrectable = (none, s) := if_pos hx

/-- A metadata byte of pool 1 that is written reads as written, and the caches stand. -/
theorem State.metaWrite_park (s : State) {x : Nat} (hx : ptrPool x = 1) (v : Nat) :
    Tbl.get 0 (s.metaWrite x v).pools.meta1 (ptrIndex x) = v ∧ (∀ q p, (s.metaWrite x v).cache q p = s.cache q p)
      ∧ s.onlyParts (s.metaWrite x v) [.pools] := by
  have heq : s.metaWrite x v = { s with pools := { s.pools with meta1 := Tbl.set 0 s.pools.meta1 (ptrIndex x) v } } := if_pos hx
  rw [heq]
  exact ⟨(Tbl.get_set _ _ _ _ _).trans (if_pos rfl), fun _ _ => rfl, s.setPools_only _⟩

end

end Sys2Proof.Machine
end

section
/-! PROOF. Allocate, give and free in pool 1 (R280, R282 to R285). -/

namespace Sys2Proof.Machine

/-! ### Allocation (R282) -/

/-- Pointer `x` of pool 1 leaves the cache of quadrant `q` and is noted as lent to `r`. -/
def State.lendPark (s : State) (r q x : Nat) : State :=
  (s.setCache q 1 { s.cache q 1 with free := (s.cache q 1).free.erase x, last := r }).metaWrite x (1 + 2 * r)

theorem State.lendPark_leaves (s : State) (r q : Nat) {x : Nat} (hx : ptrPool x = 1) :
    Tbl.get 0 (s.lendPark r q x).pools.meta1 (ptrIndex x) = 1 + 2 * r
      ∧ ((s.lendPark r q x).cache q 1).free = (s.cache q 1).free.erase x ∧ s.onlyParts (s.lendPark r q x) [.pools] := by
  obtain ⟨howner, hcache, hwritten⟩ :=
    (s.setCache q 1 { s.cache q 1 with free := (s.cache q 1).free.erase x, last := r }).metaWrite_park hx (1 + 2 * r)
  exact ⟨howner, by rw [State.lendPark, hcache, State.cache_setCache_self], State.onlyParts_trans (s.setCache_only _ _ _) hwritten⟩

section
variable {s : State} {r x : Nat}

/-- The oldest usable pointer is taken, since metadata of pool 1 that reads without an error is not lost. -/
theorem State.takePtr_lends {q : Nat} (hfirst : (s.cache q 1).free.find? s.ptrOn = some x) (hx : ptrPool x = 1) :
    s.takePtr r q 1 (s.cache q 1).free.length .ok = (some x, s.lendPark r q x) := by
  obtain ⟨n, hn⟩ := Nat.exists_eq_add_one.2 (List.length_pos_of_mem (List.mem_of_find?_eq_some hfirst))
  rw [hn, State.takePtr]
  dsimp only
  rw [hfirst]
  dsimp only
  rw [State.metaRead_park hx]
  rfl

theorem poolAllocate_grants (hready : s.flag Reg.BPM_STATUS Fld.BPM_STATUS_READY = true) (hup : s.down unitBpm = false)
    (hpool : s.poolCount 1 ≠ 0) (hfirst : (s.cache (reqQuad r) 1).free.find? s.ptrOn = some x) (hx : ptrPool x = 1)
    (hturn : s.askedBefore r 1 < s.cached (reqQuad r) 1) :
    (poolAllocate r 1 .ok s).readback = [BitVec.ofNat 64 x]
      ∧ Tbl.get 0 (poolAllocate r 1 .ok s).pools.meta1 (ptrIndex x) = 1 + 2 * r
      ∧ ((poolAllocate r 1 .ok s).cache (reqQuad r) 1).free = (s.cache (reqQuad r) 1).free.erase x
      ∧ (poolAllocate r 1 .ok s).reg (Reg.BPM_CNT (Cnt.BPM_ALLOC + 1)) = s.reg (Reg.BPM_CNT (Cnt.BPM_ALLOC + 1)) + 1
      ∧ s.within (poolAllocate r 1 .ok s) {Reg.BPM_CNT (Cnt.BPM_ALLOC + 1)} [.regs, .readback, .pools] := by
  have hgrant : s.poolAlloc r 1 .ok
      = (.granted x, (((s.lendPark r (reqQuad r) x).setAsk r 1 false).bpmBump (Cnt.BPM_ALLOC + 1)).poolNote 1) := by
    unfold State.poolAlloc
    dsimp only
    rw [if_neg (by simp [hready]), if_neg (by simp [hpool, hup]), if_neg (Nat.not_le.2 hturn), State.takePtr_lends hfirst hx]
  obtain ⟨howner, hfree, hlent⟩ := s.lendPark_leaves r (reqQuad r) hx
  rw [poolAllocate, hgrant]
  generalize s.lendPark r (reqQuad r) x = t at *
  obtain ⟨hcount, hcounted⟩ := (State.onlyParts_trans hlent (t.setAsk_only r 1 false)).count (Cnt.BPM_ALLOC + 1)
  have hnoted := hcounted.trans (((State.poolNote_only _ 1).within (by decide) _).parts (by simp))
  exact ⟨rfl, howner, (t.free_setAsk r 1 _ false).trans hfree, hcount,
    (hnoted.parts (by simp)).trans ((State.setReadback_only _ _).within (by decide) _ |>.parts (by simp))⟩

/-! ### Checks (R284, R285) -/

section
variable (hx : s.inPark x)
include hx

/-- The check of a pool-1 buffer turns on its metadata byte. -/
theorem State.poolCheck_park (give : Bool) {v : Nat} (hv : Tbl.get 0 s.pools.meta1 (ptrIndex x) = v) :
    s.poolCheck r x give .ok
      = (some (if v % 2 = 0 then some (1, v / 2 % 64)
          else if v / 2 % 64 ≠ r then some (if give then 3 else 2, v / 2 % 64) else none), s) := by
  obtain ⟨hpool, hbits, hwithin⟩ := hx
  unfold State.poolCheck
  rw [State.metaRead_park hpool, hpool, hv, if_neg (by omega)]
  dsimp only
  split
  · rfl
  · split <;> rfl

theorem State.poolCheck_owner (hr : r < 64) (howner : Tbl.get 0 s.pools.meta1 (ptrIndex x) = 1 + 2 * r) (give : Bool) :
    s.poolCheck r x give .ok = (some none, s) := by
  rw [State.poolCheck_park hx give howner, if_neg (by omega), if_neg (by omega)]

theorem State.poolCheck_unlent (hfree : Tbl.get 0 s.pools.meta1 (ptrIndex x) % 2 = 0) (give : Bool) :
    s.poolCheck r x give .ok = (some (some (1, Tbl.get 0 s.pools.meta1 (ptrIndex x) / 2 % 64)), s) := by
  rw [State.poolCheck_park hx give rfl, if_pos hfree]

end

/-- A double free is flagged and counted; its message and the latch of the first failure change nothing else (R285). -/
theorem State.poolFail_doubleFree (s : State) (r x owner : Nat) :
    (s.poolFail r x 1 owner).flag Reg.BPM_STATUS Fld.BPM_STATUS_FREE_ERR = true
      ∧ (s.poolFail r x 1 owner).reg (Reg.BPM_CNT Cnt.BPM_DOUBLE_FREE) = s.reg (Reg.BPM_CNT Cnt.BPM_DOUBLE_FREE) + 1
      ∧ s.onlyParts (s.poolFail r x 1 owner) [.regs, .fault] := by
  have herr (t : State) (f : Fld) (v : Nat) : t.within (t.setFld Reg.BPM_ERR f v) {Reg.BPM_ERR} [.regs] :=
    t.setFld_within (Set.mem_singleton _) f v
  unfold State.poolFail
  rw [if_pos rfl]
  extract_lets counted a noted
  have hflag : counted.flag Reg.BPM_STATUS Fld.BPM_STATUS_FREE_ERR = true :=
    (State.flag_of_reg ((State.onlyRegs_bump _ _) Reg.BPM_STATUS (by decide)) _).trans (s.flag_setFld_one _ ⟨rfl, by decide⟩)
  have hcount : counted.reg (Reg.BPM_CNT Cnt.BPM_DOUBLE_FREE) = s.reg (Reg.BPM_CNT Cnt.BPM_DOUBLE_FREE) + 1 :=
    (State.reg_bump_self _ _).trans (by rw [s.onlyRegs_setFld Reg.BPM_STATUS _ _ _ (by decide)])
  have hparts : s.onlyParts counted [.regs] := State.onlyParts_trans (s.setFld_rest _ _ _) (State.bump_rest _ _)
  clear_value counted
  have hnoted : counted.within noted {Reg.BPM_ERR} [.regs] := by
    unfold noted
    split
    · exact .refl counted _ _
    · exact (((((herr _ _ _).trans (herr _ _ _)).trans (herr _ _ _)).trans (herr _ _ _)).trans (herr _ _ _)).trans (herr _ _ _)
  clear_value noted
  have hsent := noted.detect_collector (reqSource r) 0x025 1 x
  have hkeeps {b : Nat} (hother : b ≠ Reg.BPM_ERR) (hlow : b ∉ collectorRegs) :
      (noted.detect (reqSource r) 0x025 1 x).reg b = counted.reg b := (hsent.1 b hlow).trans (hnoted.1 b hother)
  exact ⟨(State.flag_of_reg (hkeeps (by decide) (by simp [Reg.BPM_STATUS])) _).trans hflag,
    (hkeeps (by decide) (by simp [Reg.BPM_CNT]; omega)).trans hcount,
    State.onlyParts_trans (State.onlyParts_mono (State.onlyParts_trans hparts hnoted.2) (by simp)) hsent.2⟩

/-! ### Give and free (R284) -/

section
variable (hx : s.inPark x) (hready : s.flag Reg.BPM_STATUS Fld.BPM_STATUS_READY = true) (hup : s.down unitBpm = false)
include hx hready hup

theorem State.poolHand_gives (hr : r < 64) (howner : Tbl.get 0 s.pools.meta1 (ptrIndex x) = 1 + 2 * r) (w : Nat) :
    Tbl.get 0 (s.poolHand r x w .ok).pools.meta1 (ptrIndex x) = 1 + 2 * w
      ∧ (s.poolHand r x w .ok).reg (Reg.BPM_CNT Cnt.BPM_GIVES) = s.reg (Reg.BPM_CNT Cnt.BPM_GIVES) + 1
      ∧ s.within (s.poolHand r x w .ok) {Reg.BPM_CNT Cnt.BPM_GIVES} [.regs, .pools] := by
  obtain ⟨hgiven, -, hwritten⟩ := s.metaWrite_park hx.pool (1 + 2 * w)
  have heq : s.poolHand r x w .ok = (s.metaWrite x (1 + 2 * w)).bpmBump Cnt.BPM_GIVES := by
    unfold State.poolHand
    rw [if_neg (by simp [hready, hup]), State.poolCheck_owner hx hr howner]
  rw [heq]
  exact ⟨hgiven, hwritten.count _⟩

section
variable (hroom : s.cached (reqQuad r) 1 < 512)
include hroom

theorem State.poolRelease_frees (hr : r < 64) (howner : Tbl.get 0 s.pools.meta1 (ptrIndex x) = 1 + 2 * r) :
    Tbl.get 0 (s.poolRelease r x .ok).pools.meta1 (ptrIndex x) = 0
      ∧ ((s.poolRelease r x .ok).cache (reqQuad r) 1).free = (s.cache (reqQuad r) 1).free ++ [x]
      ∧ (s.poolRelease r x .ok).reg (Reg.BPM_CNT (Cnt.BPM_FREE + 1)) = s.reg (Reg.BPM_CNT (Cnt.BPM_FREE + 1)) + 1
      ∧ s.within (s.poolRelease r x .ok) {Reg.BPM_CNT (Cnt.BPM_FREE + 1)} [.regs, .pools] := by
  obtain ⟨hfreed, hcache, hwritten⟩ := s.metaWrite_park hx.pool 0
  unfold State.poolRelease
  dsimp only
  rw [hx.pool, if_neg (by simp [hready, hup]), if_neg (by omega), State.poolCheck_owner hx hr howner]
  dsimp only
  generalize s.metaWrite x 0 = t at *
  obtain ⟨hcount, hcounted⟩ := (State.onlyParts_trans hwritten (t.setCache_only (reqQuad r) 1
    { t.cache (reqQuad r) 1 with free := (t.cache (reqQuad r) 1).free ++ [x] })).count (Cnt.BPM_FREE + 1)
  refine ⟨hfreed, ?_, hcount, hcounted.trans (((State.poolNote_only _ 1).within (by decide) _).parts (by simp))⟩
  exact (congrArg PoolCache.free (t.cache_setCache_self _ 1 _)).trans (by rw [hcache])

/-- A free of a free buffer is rejected. -/
theorem State.poolRelease_rejects (hfree : Tbl.get 0 s.pools.meta1 (ptrIndex x) % 2 = 0) :
    s.poolRelease r x .ok = s.poolFail r x 1 (Tbl.get 0 s.pools.meta1 (ptrIndex x) / 2 % 64) := by
  unfold State.poolRelease
  dsimp only
  rw [hx.pool, if_neg (by simp [hready, hup]), if_neg (by omega), State.poolCheck_unlent hx hfree]

end

end

end

end Sys2Proof.Machine
end

section
/-! PROOF. Lines of pointers between cache and ring (R281), META_CMD (R288), and O34. -/

namespace Sys2Proof.Machine

/-! ### Repetition -/

/-- A repetition whose first round reaches what no round changes is its first round. -/
theorem forUpTo_once {σ : Type} {f : Nat → σ → σ} {P : σ → Prop} {s : σ} (hfirst : P (f 0 s)) (hstays : ∀ i t, P t → f i t = t)
    (n : Nat) : forUpTo (n + 1) f s = f 0 s := by
  induction n with
  | zero => rfl
  | succ n ih => rw [forUpTo, ih, hstays _ _ hfirst]

/-! ### Parts -/

/-- Parts that the moves of lines between cache and ring may change. -/
def lineParts : List Part := [.regs, .dram, .pools, .links]

theorem State.onlyParts.line {s t : State} {l : List Part} (h : s.onlyParts t l) (hl : ∀ p ∈ l, p ∈ lineParts := by decide) :
    s.onlyParts t lineParts :=
  State.onlyParts_mono h hl

/-! ### Refill (R281) -/

/-- The 16 pointers of a ring line. -/
def linePtrs (b : List Byte) : List Nat := (List.range 16).map (fun j => leNat (bytesAt b (4 * j) 4))

/-- A ring without its first line. -/
def PoolRing.pop (r : PoolRing) : PoolRing := { head := r.head + 1, lines := r.lines - 1 }

/-- The line at the head of the ring, which reads as `b`, enters a cache. -/
def State.takesLine (s : State) (q p : Nat) (b : List Byte) : State :=
  (((s.setRing p (s.ring p).pop).freeEntry (lnkPool p) 16).setCache q p
    { s.cache q p with free := (s.cache q p).free ++ linePtrs b }).showMode p

theorem State.takesLine_leaves (s : State) (q p : Nat) (b : List Byte) :
    ((s.takesLine q p b).cache q p).free = (s.cache q p).free ++ linePtrs b ∧ (s.takesLine q p b).ring p = (s.ring p).pop
      ∧ s.onlyParts (s.takesLine q p b) lineParts := by
  have hring := s.ring_setRing_self p (s.ring p).pop
  have hpopped := (s.setRing_only p (s.ring p).pop).line
  unfold State.takesLine
  generalize s.setRing p (s.ring p).pop = t at *
  exact ⟨congrArg PoolCache.free (State.cache_setCache_self _ q p _), hring,
    State.onlyParts_trans (State.onlyParts_trans hpopped (t.freeEntry_rest _ _).line)
      (State.onlyParts_trans (State.setCache_only _ _ _ _).line (State.setFld_rest _ _ _ _).line)⟩

section
variable {s : State} {q p : Nat} {b : List Byte}

/-- A sound foreground read that finds its line moves queues and counters of the DMCs alone. -/
theorem State.dramRead_found {l : Nat} (hfound : (s.dramRead l true .ok).1 = some b) : s.queueStep (s.dramRead l true .ok).2 := by
  have hline := s.dramRead_answer l .ok ▸ hfound
  unfold State.lineRead at hline
  cases hat : s.locate l with
  | none => simp [hat] at hline
  | some a =>
    have hserved : (s.rankDead a || s.poisoned l) = false := by
      by_contra hlost
      simp [hat, Bool.eq_true_of_not_eq_false hlost] at hline
    obtain ⟨halive, hsound⟩ := Bool.or_eq_false_iff.1 hserved
    exact (s.dramRead_live hat halive hsound).2

/-- A ring line that is found enters the cache. -/
theorem State.refillLine_eq {y : Option (List Byte) × State}
    (hy : (s.bpmBump Cnt.BPM_RING_LINE_READS).dramRead (s.ringLine p (s.ring p).head) true .ok = y) (hfound : y.1 = some b)
    (hpools : y.2.pools = s.pools) : s.refillLine q p = y.2.takesLine q p b := by
  unfold State.refillLine State.takesLine
  dsimp only
  rw [hy, hfound, State.ring_of_pools hpools]
  rfl

theorem State.refillLine_moves (hfound : (s.dramRead (s.ringLine p (s.ring p).head) true .ok).1 = some b) :
    ((s.refillLine q p).cache q p).free = (s.cache q p).free ++ linePtrs b ∧ (s.refillLine q p).ring p = (s.ring p).pop
      ∧ s.onlyParts (s.refillLine q p) lineParts := by
  have hread := (State.dramRead_of_memory (s.bpmBump_memory (i := Cnt.BPM_RING_LINE_READS) (by decide)) rfl _ .ok).trans hfound
  have hstep := (State.dramRead_found hread).frame.2
  have hbefore := State.onlyParts_trans (s.bump_rest (Reg.BPM_CNT Cnt.BPM_RING_LINE_READS)).line hstep.line
  have hpools := hstep.2 .pools (by decide)
  generalize hy : (s.bpmBump Cnt.BPM_RING_LINE_READS).dramRead (s.ringLine p (s.ring p).head) true .ok = y at *
  obtain ⟨hfree, hring, hparts⟩ := y.2.takesLine_leaves q p b
  rw [State.cache_of_pools (s := s) hpools] at hfree
  rw [State.ring_of_pools (s := s) hpools] at hring
  rw [State.refillLine_eq hy hread hpools]
  exact ⟨hfree, hring, State.onlyParts_trans hbefore hparts⟩

/-- A ring of one line is empty after the first round. -/
theorem cacheRefill_moves (hready : s.dmcReady = true) (hup : s.down unitBpm = false) (hlow : s.cached q p < 16)
    (hlines : (s.ring p).lines = 1) (hfound : (s.dramRead (s.ringLine p (s.ring p).head) true .ok).1 = some b) :
    ((cacheRefill q p s).cache q p).free = (s.cache q p).free ++ linePtrs b ∧ (cacheRefill q p s).ring p = (s.ring p).pop
      ∧ s.onlyParts (cacheRefill q p s) lineParts := by
  have hmode : s.lowMode p = true := by simp [State.lowMode, hlines]
  obtain ⟨hfree, hring, hparts⟩ := State.refillLine_moves (q := q) hfound
  have hempty : ((s.refillLine q p).ring p).lines = 0 := by rw [hring, PoolRing.pop, hlines]
  have hround : (if s.cached q p < (if s.lowMode p then 64 else 256) ∧ 0 < (s.ring p).lines then s.refillLine q p else s)
      = s.refillLine q p := if_pos (by rw [hmode, hlines, if_pos rfl]; omega)
  have heq : cacheRefill q p s = (s.refillLine q p).poolNote p := by
    unfold cacheRefill
    rw [hmode]
    dsimp only
    rw [if_pos rfl, if_neg (by simp [hready, hup, hlow]), forUpTo_once (P := fun t => (t.ring p).lines = 0)
      (hround.symm ▸ hempty) (fun _ t ht => if_neg (by rw [ht]; omega)) 15, hround]
  rw [heq]
  generalize s.refillLine q p = t at *
  exact ⟨hfree, hring, State.onlyParts_trans hparts (t.poolNote_only p).line⟩

end

/-! ### Spill (R281) -/

/-- A cache without its last 16 pointers. -/
def PoolCache.cut (c : PoolCache) : PoolCache := { c with free := c.free.take (c.free.length - 16) }

/-- The registers but the count of ring lines written. -/
def spillRegs : Set Nat := {a | a ≠ Reg.BPM_CNT Cnt.BPM_RING_LINE_WRITES}

@[simp] theorem mem_spillRegs {a : Nat} : a ∈ spillRegs ↔ a ≠ Reg.BPM_CNT Cnt.BPM_RING_LINE_WRITES := Iff.rfl

/-- After the write of its last 16 pointers, which the DMC took or discarded, a cache is without them. -/
def State.losesLine (s : State) (q p : Nat) (taken : Bool) : State :=
  let t := (s.setCache q p (s.cache q p).cut).useCredit (lnkPool p) 16
  (if taken then t.setRing p { s.ring p with lines := (s.ring p).lines + 1 } else t.poolWithdraw p 16).showMode p

section
variable {s : State} {q p : Nat}

/-- Whether the DMC takes the write or discards it, the cache loses the line. -/
theorem State.spillLine_eq {y : Bool × State}
    (hy : (s.bpmBump Cnt.BPM_RING_LINE_WRITES).dramWrite (s.ringLine p ((s.ring p).head + (s.ring p).lines))
      (((s.cache q p).free.drop ((s.cache q p).free.length - 16)).flatMap (fun x => leBytes 4 x)) true = y)
    (hpools : y.2.pools = s.pools) : s.spillLine q p = y.2.losesLine q p y.1 := by
  unfold State.spillLine State.losesLine
  dsimp only
  rw [hy, State.cache_of_pools hpools, State.ring_of_pools hpools]
  rfl

variable (hp : p < 4)
include hp

theorem State.losesLine_leaves (s : State) (taken : Bool) :
    (s.losesLine q p taken).cache q p = (s.cache q p).cut ∧ s.within (s.losesLine q p taken) spillRegs lineParts := by
  have hstatus : Reg.BPM_STATUS ∈ spillRegs := mem_spillRegs.2 (by decide)
  have hwithdrawn : Reg.BPM_CNT (Cnt.BPM_WITHDRAWN + p) ∈ spillRegs := by
    simp only [mem_spillRegs, Reg.BPM_CNT, Cnt.BPM_WITHDRAWN, Cnt.BPM_RING_LINE_WRITES]
    omega
  have hcut := (s.setCache_only q p (s.cache q p).cut).within (by decide) spillRegs
  have hcache := s.cache_setCache_self q p (s.cache q p).cut
  unfold State.losesLine
  generalize s.setCache q p (s.cache q p).cut = t at *
  have hused : s.within (t.useCredit (lnkPool p) 16) spillRegs lineParts :=
    (hcut.parts (by decide)).trans (((t.useCredit_rest (lnkPool p) 16).within (by decide) _).parts (by decide))
  have hshown (u : State) : u.within (u.showMode p) spillRegs lineParts := (u.setFld_within hstatus _ _).parts (by decide)
  cases taken with
  | true => exact ⟨hcache, (hused.trans (((State.setRing_only _ _ _).within (by decide) _).parts (by decide))).trans (hshown _)⟩
  | false =>
    exact ⟨hcache, (hused.trans (((State.setReg_within _ hwithdrawn _).trans (State.orFld_within _ hstatus _ _)).parts
      (by decide))).trans (hshown _)⟩

theorem State.spillLine_moves :
    (s.spillLine q p).cache q p = (s.cache q p).cut
      ∧ (s.spillLine q p).reg (Reg.BPM_CNT Cnt.BPM_RING_LINE_WRITES) = s.reg (Reg.BPM_CNT Cnt.BPM_RING_LINE_WRITES) + 1
      ∧ s.onlyParts (s.spillLine q p) lineParts := by
  have hcounted := s.reg_bump_self (Reg.BPM_CNT Cnt.BPM_RING_LINE_WRITES)
  have hwrite := (s.bpmBump Cnt.BPM_RING_LINE_WRITES).dramWrite_memory (s.ringLine p ((s.ring p).head + (s.ring p).lines))
    (((s.cache q p).free.drop ((s.cache q p).free.length - 16)).flatMap (fun x => leBytes 4 x))
  have hcount := (hwrite.1 _ (bpmCnt_not_memory (by decide))).trans hcounted
  have hbefore := State.onlyParts_trans (s.bump_rest (Reg.BPM_CNT Cnt.BPM_RING_LINE_WRITES)).line hwrite.2.line
  have hpools := hwrite.2.2 .pools (by decide)
  generalize hy : State.dramWrite _ _ _ _ = y at *
  obtain ⟨hcache, hframe⟩ := y.2.losesLine_leaves (q := q) hp y.1
  rw [State.cache_of_pools (s := s) hpools] at hcache
  rw [State.spillLine_eq hy hpools]
  exact ⟨hcache, (hframe.1 _ (by simp)).trans hcount, State.onlyParts_trans hbefore hframe.2⟩

section
variable (hready : s.dmcReady = true) (hup : s.down unitBpm = false) (hmode : s.lowMode p = true)
  (hhigh : 64 < (s.cache q p).free.length) (hbound : (s.cache q p).free.length ≤ 80) (hcredit : 16 ≤ s.credit (lnkPool p))
  (hon : ∀ x ∈ (s.cache q p).free, s.ptrOn x = true) (hfrees : (s.cache q p).frees = [])
include hready hup hmode hhigh hbound hcredit hon hfrees

/-- A cache of at most 80 pointers holds its target after the first round; no free waits for room. -/
theorem cacheSpill_eq :
    cacheSpill q p s = ((s.spillLine q p).poolNote p).setCache q p
      { ((s.spillLine q p).poolNote p).cache q p with frees := [] } := by
  have hcached : 64 < s.cached q p := (s.cached_eq_length hon).symm ▸ hhigh
  obtain ⟨hcache, -, -⟩ := State.spillLine_moves (s := s) (q := q) hp
  have hround : (if (if s.lowMode p then 64 else 256) < s.cached q p ∧ 16 ≤ s.credit (lnkPool p) then s.spillLine q p else s)
      = s.spillLine q p := if_pos (by rw [hmode, if_pos rfl]; exact ⟨hcached, hcredit⟩)
  have hdone : ((s.spillLine q p).cache q p).free.length ≤ 64 := by
    rw [hcache, PoolCache.cut, List.length_take]
    omega
  have hstays (t : State) (ht : (t.cache q p).free.length ≤ 64) :
      ¬((if t.lowMode p then 64 else 256) < t.cached q p ∧ 16 ≤ t.credit (lnkPool p)) := by
    have := t.cached_le q p
    split <;> omega
  have hwaits : (((s.spillLine q p).poolNote p).cache q p).frees = [] := (congrArg PoolCache.frees hcache).trans hfrees
  unfold cacheSpill
  rw [if_neg (by simp [hready, hup]), hmode]
  dsimp only
  rw [if_pos rfl, if_neg (Nat.not_le.2 hcached), forUpTo_once (P := fun t => (t.cache q p).free.length ≤ 64)
    (hround.symm ▸ hdone) (fun _ t ht => if_neg (hstays t ht)) 31, hround, hwaits]
  rfl

theorem cacheSpill_moves :
    ((cacheSpill q p s).cache q p).free = (s.cache q p).free.take ((s.cache q p).free.length - 16)
      ∧ (cacheSpill q p s).reg (Reg.BPM_CNT Cnt.BPM_RING_LINE_WRITES) = s.reg (Reg.BPM_CNT Cnt.BPM_RING_LINE_WRITES) + 1
      ∧ s.onlyParts (cacheSpill q p s) lineParts := by
  rw [cacheSpill_eq hp hready hup hmode hhigh hbound hcredit hon hfrees]
  obtain ⟨hcache, hcount, hparts⟩ := State.spillLine_moves (s := s) (q := q) hp
  generalize s.spillLine q p = t at *
  exact ⟨(congrArg PoolCache.free (State.cache_setCache_self _ q p _)).trans (congrArg PoolCache.free hcache), hcount,
    State.onlyParts_trans hparts (State.onlyParts_trans (t.poolNote_only p).line (State.setCache_only _ q p _).line)⟩

end

end

/-! ### META_CMD (R288) -/

section
variable {s : State} {i : Nat}

/-- META_CMD after a command named buffer `i` of pool `p`. -/
def State.metaNamed (s : State) (i p : Nat) : State :=
  (s.setFld Reg.BPM_META_CMD Fld.BPM_META_CMD_INDEX i).setFld Reg.BPM_META_CMD Fld.BPM_META_CMD_POOL p

theorem State.setFld_meta (s : State) (f : Fld) (x : Nat) : s.within (s.setFld Reg.BPM_META_CMD f x) {Reg.BPM_META_CMD} [.regs] :=
  s.setFld_within (Set.mem_singleton _) f x

theorem State.metaNamed_within (s : State) (i p : Nat) : s.within (s.metaNamed i p) {Reg.BPM_META_CMD} [.regs] :=
  (s.setFld_meta _ _).trans (State.setFld_meta _ _ _)

theorem State.poolCount_metaNamed (s : State) (i p k : Nat) : (s.metaNamed i p).poolCount k = s.poolCount k :=
  State.fld_of_reg ((s.metaNamed_within i p).1 _ (by simp only [Set.mem_singleton_iff, Reg.BPM_POOL_CFG, Reg.BPM_META_CMD]; omega)) _

/-- Beyond the pool. -/
theorem bpmMetaRead_refuses {p : Nat} (hbeyond : s.poolCount p ≤ i) (e : Ecc) :
    (bpmMetaRead i p e s).flag Reg.BPM_META_CMD Fld.BPM_META_CMD_ERR = true
      ∧ s.within (bpmMetaRead i p e s) {Reg.BPM_META_CMD} [.regs] := by
  have heq : bpmMetaRead i p e s = (s.metaNamed i p).setFld Reg.BPM_META_CMD Fld.BPM_META_CMD_ERR 1 :=
    if_pos ((s.poolCount_metaNamed i p p).symm ▸ hbeyond)
  rw [heq]
  exact ⟨State.flag_setFld_one _ _ ⟨rfl, by decide⟩, (s.metaNamed_within i p).trans (State.setFld_meta _ _ _)⟩

/-- A metadata byte is shown. -/
def State.metaShown (s : State) (v : Nat) : State :=
  ((s.setFld Reg.BPM_META_CMD Fld.BPM_META_CMD_LOST 0).setFld Reg.BPM_META_CMD Fld.BPM_META_CMD_ALLOC (v % 2)).setFld
    Reg.BPM_META_CMD Fld.BPM_META_CMD_OWNER (v / 2)

theorem State.metaShown_shows (s : State) (v : Nat) :
    (s.metaShown v).flag Reg.BPM_META_CMD Fld.BPM_META_CMD_LOST = false
      ∧ (s.metaShown v).fld Reg.BPM_META_CMD Fld.BPM_META_CMD_ALLOC = v % 2
      ∧ (s.metaShown v).fld Reg.BPM_META_CMD Fld.BPM_META_CMD_OWNER = v / 2 % 2 ^ Fld.BPM_META_CMD_OWNER.len
      ∧ s.within (s.metaShown v) {Reg.BPM_META_CMD} [.regs] := by
  refine ⟨?_, ?_, State.fld_setFld_self _ _ _ _ (by decide),
    ((s.setFld_meta _ _).trans (State.setFld_meta _ _ _)).trans (State.setFld_meta _ _ _)⟩
  · exact ((State.flag_setFld_apart _ _ _ _ _ (.inl (by decide))).trans (State.flag_setFld_apart _ _ _ _ _ (.inl (by decide)))).trans
      (s.flag_setFld_zero _ ⟨rfl, by decide⟩)
  · exact (State.fld_setFld_apart _ _ _ _ _ (.inr (by decide))).trans
      (State.fld_setFld_fits _ _ (by decide) (Nat.mod_lt v (by decide)))

/-- The two answers of a READ within the pool: a metadata byte, or none that could be read. -/
theorem bpmMetaRead_cases {p : Nat} {e : Ecc} (hwithin : i < s.poolCount p) {m : Option Nat × State}
    (hread : (s.metaNamed i p).metaRead (ptrOf p i) e = m) :
    (∀ v, m.1 = some v → bpmMetaRead i p e s = m.2.metaShown v)
      ∧ (m.1 = none → bpmMetaRead i p e s = m.2.setFld Reg.BPM_META_CMD Fld.BPM_META_CMD_LOST 1) := by
  have hcount := s.poolCount_metaNamed i p p
  unfold State.metaNamed at hread hcount
  unfold bpmMetaRead
  dsimp only
  rw [if_neg (Nat.not_le.2 (hcount.symm ▸ hwithin)), hread]
  exact ⟨fun v hv => by rw [hv]; rfl, fun hnone => by rw [hnone]⟩

section
variable (hi : i < 16777216) (hwithin : i < s.poolCount 1)
include hwithin

theorem bpmMetaRead_lost :
    (bpmMetaRead i 1 .uncorrectable s).flag Reg.BPM_META_CMD Fld.BPM_META_CMD_LOST = true
      ∧ s.within (bpmMetaRead i 1 .uncorrectable s) {Reg.BPM_META_CMD} [.regs] := by
  have hread : (s.metaNamed i 1).metaRead (ptrOf 1 i) .uncorrectable = (none, s.metaNamed i 1) :=
    State.metaRead_park_lost (ptrPool_ptrOf (by decide) i)
  obtain ⟨-, hmissing⟩ := bpmMetaRead_cases hwithin hread
  rw [hmissing rfl]
  exact ⟨State.flag_setFld_one _ _ ⟨rfl, by decide⟩, (s.metaNamed_within i 1).trans (State.setFld_meta _ _ _)⟩

include hi

theorem bpmMetaRead_shows :
    (bpmMetaRead i 1 .ok s).flag Reg.BPM_META_CMD Fld.BPM_META_CMD_LOST = false
      ∧ (bpmMetaRead i 1 .ok s).fld Reg.BPM_META_CMD Fld.BPM_META_CMD_ALLOC = Tbl.get 0 s.pools.meta1 i % 2
      ∧ (bpmMetaRead i 1 .ok s).fld Reg.BPM_META_CMD Fld.BPM_META_CMD_OWNER
        = Tbl.get 0 s.pools.meta1 i / 2 % 2 ^ Fld.BPM_META_CMD_OWNER.len
      ∧ s.within (bpmMetaRead i 1 .ok s) {Reg.BPM_META_CMD} [.regs] := by
  have hread : (s.metaNamed i 1).metaRead (ptrOf 1 i) .ok = (some (Tbl.get 0 s.pools.meta1 i), s.metaNamed i 1) :=
    (State.metaRead_park (ptrPool_ptrOf (by decide) i)).trans (by rw [ptrIndex_ptrOf 1 hi]; rfl)
  obtain ⟨hlost, halloc, howner, hframe⟩ := (s.metaNamed i 1).metaShown_shows (Tbl.get 0 s.pools.meta1 i)
  obtain ⟨hshown, -⟩ := bpmMetaRead_cases hwithin hread
  rw [hshown _ rfl]
  exact ⟨hlost, halloc, howner, (s.metaNamed_within i 1).trans hframe⟩

end

end

/-! ### The obligation -/

/-- Settles O34: each command is reduced to its effect on caches, metadata and counters. That a refill or spill is one command, that
withdrawn pointers take no place in a cache's count, and that the pointer granted is left in the read-out are choices of the
assumption log (log 25). -/
theorem bufferPools : Obligations.BufferPools := by
  refine ⟨fun s r x hready hpool hup hfirst hx hturn => ?_, fun s r i hready hup hroom hwithin howner => ?_,
    fun s r i hready hup hroom hwithin hfree => ?_, fun s r w i hready hup hwithin howner => ?_,
    fun s q p b hready hup hlow hlines hfound => ?_, fun s q p hready hup hmode hhigh hbound hcredit hon hfrees => ?_,
    fun s i hwithin => ?_, fun s i hwithin => ?_, fun s i p e hbeyond => ?_⟩
  · obtain ⟨hanswer, howner, hfree, hcount, hframe⟩ := poolAllocate_grants hready hup hpool hfirst hx hturn
    exact ⟨_, done_eq_next hframe.2 (by decide), hanswer, howner, hfree, hcount, hframe.onlyRegs (by simp), hframe.2⟩
  · have hin := State.ptrOf_inPark i.isLt hwithin
    obtain ⟨hfreed, hcache, hcount, hframe⟩ := State.poolRelease_frees hin hready hup hroom (by omega)
      ((ptrIndex_ptrOf 1 i.isLt).symm ▸ howner)
    rw [ptrIndex_ptrOf 1 i.isLt] at hfreed
    exact ⟨_, done_eq_next hframe.2 (by decide), hfreed, hcache, hcount, hframe.onlyRegs (by simp), hframe.2⟩
  · have hrejects := State.poolRelease_rejects (State.ptrOf_inPark i.isLt hwithin) hready hup hroom
      ((ptrIndex_ptrOf 1 i.isLt).symm ▸ hfree)
    obtain ⟨hflag, hcount, hframe⟩ := s.poolFail_doubleFree r (ptrOf 1 i) (Tbl.get 0 s.pools.meta1 (ptrIndex (ptrOf 1 i)) / 2 % 64)
    exact ⟨_, (congrArg (done s) hrejects).trans (done_eq_next hframe (by decide)), hflag, hcount, hframe⟩
  · have hin := State.ptrOf_inPark i.isLt hwithin
    obtain ⟨hgiven, hcount, hframe⟩ := State.poolHand_gives hin hready hup (by omega) ((ptrIndex_ptrOf 1 i.isLt).symm ▸ howner) w
    rw [ptrIndex_ptrOf 1 i.isLt] at hgiven
    exact ⟨_, done_eq_next hframe.2 (by decide), hgiven, hcount, hframe.onlyRegs (by simp), hframe.2⟩
  · obtain ⟨hfree, hring, hframe⟩ := cacheRefill_moves hready hup hlow hlines hfound
    exact ⟨_, done_eq_next hframe (by decide), hfree, hring.trans (by rw [PoolRing.pop, hlines]), hframe⟩
  · obtain ⟨hfree, hcount, hframe⟩ := cacheSpill_moves p.isLt hready hup hmode hhigh hbound hcredit hon hfrees
    exact ⟨_, done_eq_next hframe (by decide), hfree, hcount, hframe⟩
  · obtain ⟨hlost, halloc, howner, hframe⟩ := bpmMetaRead_shows i.isLt hwithin
    exact ⟨_, done_eq_next hframe.2 (by decide), hlost, halloc, howner, hframe.onlyRegs (by simp), hframe.2⟩
  · obtain ⟨hlost, hframe⟩ := bpmMetaRead_lost hwithin
    exact ⟨_, done_eq_next hframe.2 (by decide), hlost, hframe.onlyRegs (by simp), hframe.2⟩
  · obtain ⟨herr, hframe⟩ := bpmMetaRead_refuses hbeyond e
    exact ⟨_, done_eq_next hframe.2 (by decide), herr, hframe.onlyRegs (by simp), hframe.2⟩

end Sys2Proof.Machine
end

section
/-! PROOF. Rules of fields and parts: what a field reads after a write elsewhere, and a frame read off the updated state itself. -/

namespace Sys2Proof.Machine

set_option Elab.async false

/-! ### Fields -/

/-- A write of a field leaves every other register. -/
theorem State.reg_setFld_other (s : State) {a b : Nat} (f : Fld) (x : Nat) (h : b ≠ a) : (s.setFld a f x).reg b = s.reg b := by
  rw [State.reg_setFld, if_neg h]

theorem State.reg_setReg_other (s : State) {a b : Nat} (v : Word64) (h : b ≠ a) : (s.setReg a v).reg b = s.reg b := by
  rw [State.reg_setReg, if_neg h]

theorem State.reg_bump_other (s : State) {a b : Nat} (h : b ≠ a) : (s.bump a).reg b = s.reg b := by
  rw [State.reg_bump, if_neg h]

theorem State.fld_setReg_other (s : State) {a b : Nat} (g : Fld) (v : Word64) (h : b ≠ a) : (s.setReg a v).fld b g = s.fld b g :=
  State.fld_of_reg (s.reg_setReg_other v h) g

theorem State.flag_setReg_other (s : State) {a b : Nat} (g : Fld) (v : Word64) (h : b ≠ a) : (s.setReg a v).flag b g = s.flag b g :=
  State.flag_of_reg (s.reg_setReg_other v h) g

theorem State.fld_bump_other (s : State) {a b : Nat} (g : Fld) (h : b ≠ a) : (s.bump a).fld b g = s.fld b g :=
  State.fld_of_reg (s.reg_bump_other h) g

theorem State.flag_bump_other (s : State) {a b : Nat} (g : Fld) (h : b ≠ a) : (s.bump a).flag b g = s.flag b g :=
  State.flag_of_reg (s.reg_bump_other h) g

theorem State.flag_setFld_other (s : State) {a b : Nat} (f g : Fld) (x : Nat) (h : b ≠ a) :
    (s.setFld a f x).flag b g = s.flag b g :=
  State.flag_of_reg (s.reg_setFld_other f x h) g

/-- A field that shares no bit with the one written. -/
theorem State.fld_setFld_disjoint (s : State) (a : Nat) {f g : Fld} (x : Nat)
    (h : f.lo + f.len ≤ g.lo ∨ g.lo + g.len ≤ f.lo) : (s.setFld a f x).fld a g = s.fld a g :=
  s.fld_setFld_apart a f g x h

theorem State.flag_setFld_disjoint (s : State) (a : Nat) {f g : Fld} (x : Nat)
    (h : f.lo + f.len ≤ g.lo ∨ g.lo + g.len ≤ f.lo) : (s.setFld a f x).flag a g = s.flag a g :=
  s.flag_setFld_apart a f g x h

/-- A one-bit field holds the bit written. -/
theorem State.flag_setFld_self (s : State) (a : Nat) {f : Fld} (x : Nat) (h : f.len = 1 ∧ f.lo < 64) :
    (s.setFld a f x).flag a f = (x % 2 != 0) := by
  rw [State.flag, s.fld_setFld_self a f x (by omega), h.1, pow_one]

/-! ### Parts -/

/-- `t` with the parts of `l` as `s` has them. -/
def State.restored (s t : State) (l : List Part) : State where
  pending := t.pending
  clk := if .clk ∈ l then s.clk else t.clk
  regs := if .regs ∈ l then s.regs else t.regs
  readback := if .readback ∈ l then s.readback else t.readback
  free := if .free ∈ l then s.free else t.free
  links := if .links ∈ l then s.links else t.links
  fault := if .fault ∈ l then s.fault else t.fault
  power := if .power ∈ l then s.power else t.power
  jtag := if .jtag ∈ l then s.jtag else t.jtag
  ports := if .ports ∈ l then s.ports else t.ports
  slice := if .slice ∈ l then s.slice else t.slice
  buf := if .buf ∈ l then s.buf else t.buf
  tm := if .tm ∈ l then s.tm else t.tm
  tmb := if .tmb ∈ l then s.tmb else t.tmb
  shards := if .shards ∈ l then s.shards else t.shards
  dram := if .dram ∈ l then s.dram else t.dram
  pools := if .pools ∈ l then s.pools else t.pools
  twin := if .twin ∈ l then s.twin else t.twin
  cast := if .cast ∈ l then s.cast else t.cast
  hif := if .hif ∈ l then s.hif else t.hif
  lop := if .lop ∈ l then s.lop else t.lop
  exporter := if .exporter ∈ l then s.exporter else t.exporter
  ccx := if .ccx ∈ l then s.ccx else t.ccx

/-- A state that is `s` again once the parts of `l` are restored changed those parts alone. -/
theorem State.onlyParts_of_restored {s t : State} {l : List Part} (h : s.restored t l = s) : s.onlyParts t l := by
  have hpending : (s.restored t l).pending = s.pending := congrArg State.pending h
  refine ⟨hpending, fun p hp => ?_⟩
  cases p <;> simp only [Part.same] <;> conv_rhs => rw [← h, State.restored]
  all_goals exact (if_neg hp).symm

section
variable {s t : State} {l : List Part} (h : s.onlyParts t l)
include h

/-- One more change of the registers. -/
theorem State.onlyParts.setReg (a : Nat) (v : Word64) (hl : Part.regs ∈ l := by decide) : s.onlyParts (t.setReg a v) l :=
  State.onlyParts_trans h (State.onlyParts_mono (t.setReg_rest a v) (by simpa using hl))

theorem State.onlyParts.setFld (a : Nat) (f : Fld) (x : Nat) (hl : Part.regs ∈ l := by decide) : s.onlyParts (t.setFld a f x) l :=
  h.setReg a _ hl

theorem State.onlyParts.bump (a : Nat) (hl : Part.regs ∈ l := by decide) : s.onlyParts (t.bump a) l := h.setReg a _ hl

/-- A further step. -/
theorem State.onlyParts.step {u : State} {m : List Part} (hu : t.onlyParts u m) (hl : ∀ p ∈ m, p ∈ l := by decide) :
    s.onlyParts u l :=
  State.onlyParts_trans h (State.onlyParts_mono hu hl)

end

theorem State.setFault_only (s : State) (x : FaultSt) : s.onlyParts { s with fault := x } [.fault] :=
  State.onlyParts_of_restored rfl

theorem State.setPower_only (s : State) (x : PowerSt) : s.onlyParts { s with power := x } [.power] :=
  State.onlyParts_of_restored rfl

theorem State.setCcx_only (s : State) (x : CcxSt) : s.onlyParts { s with ccx := x } [.ccx] :=
  State.onlyParts_of_restored rfl

end Sys2Proof.Machine
end

section
/-! PROOF. What every command answers, and accesses to BAR0 that are not valid (R458, R459). -/

namespace Sys2Proof.Machine

set_option Elab.async false

/-- Settles O1: `step_command`. -/
theorem stepRunsTheFrontCommand : Obligations.StepRunsTheFrontCommand :=
  fun _ _ _ => step_command

/-- The two ways in which a command answers: its effect with the queue, or the queue and the time-of-day unit, as they were. -/
theorem done_answers (s u : State) : ∃ t, done s u = .next t ∧ t.pending = s.pending := ⟨_, done_eq s u, rfl⟩

theorem doneClk_answers (s u : State) : ∃ t, doneClk s u = .next t ∧ t.pending = s.pending := ⟨_, doneClk_eq s u, rfl⟩

/-- Settles O3: the commands that may reach the time-of-day unit answer through `doneClk`, the others through `done`.  That no
command stops is the model's choice (log 1). -/
theorem everyCommandAnswersAndKeepsTheQueue : Obligations.EveryCommandAnswersAndKeepsTheQueue := by
  intro c s
  cases c with
  | registerWrite | complexWrite | capture | stepSet | stepAdd | ppsLoad | slew | todCancel | todReservedCmd | slewEnd | incrWrite
  | holdTimeoutWrite | enterHold | holdover | ppsInEdge | ppsInLost | ppsOutPulse | ppsOutFall | pllUnlock | refclkLoss | phaseReset
  | phaseConfig | phaseFactory | pdAonPowerUp => exact doneClk_answers _ _
  | _ => exact done_answers _ _

/-- A later access that is turned away leaves the latch. -/
theorem State.badLatch_held {s : State} (h : s.flag Reg.GLB_BAD_LAST Fld.GLB_BAD_LAST_VALID = true) (w : Bool) (a len cause : Nat) :
    s.badLatch w a len cause = s.bump Reg.GLB_BAD_ACCESS :=
  if_pos ((s.flag_bump_other _ (by decide)).trans h)

/-- What an empty latch takes. -/
theorem State.badLatch_empty {s : State} (h : s.flag Reg.GLB_BAD_LAST Fld.GLB_BAD_LAST_VALID = false) (w : Bool) {a : Nat}
    (ha : a < 0x10000000) (len : Nat) {cause : Nat} (hcause : cause < 4) {t : State} (ht : s.badLatch w a len cause = t) :
    t.fld Reg.GLB_BAD_LAST Fld.GLB_BAD_LAST_ADDR = a ∧ t.flag Reg.GLB_BAD_LAST Fld.GLB_BAD_LAST_WRITE = w
      ∧ t.fld Reg.GLB_BAD_LAST Fld.GLB_BAD_LAST_CAUSE = cause ∧ t.flag Reg.GLB_BAD_LAST Fld.GLB_BAD_LAST_VALID = true := by
  have hempty : ¬(s.bump Reg.GLB_BAD_ACCESS).flag Reg.GLB_BAD_LAST Fld.GLB_BAD_LAST_VALID = true := by
    rw [State.flag_bump_other _ _ (by decide), h]; exact Bool.false_ne_true
  rw [State.badLatch, if_neg hempty] at ht
  subst ht
  refine ⟨?_, ?_, ?_, State.flag_setFld_one _ _ ⟨rfl, by decide⟩⟩
  · simp (disch := decide) only [State.fld_setFld_disjoint]
    exact State.fld_setFld_fits _ _ (by decide) ha
  · simp (disch := decide) only [State.flag_setFld_disjoint]
    exact State.flag_setFld_bit _ _ ⟨rfl, by decide⟩ w
  · simp (disch := decide) only [State.fld_setFld_disjoint]
    exact State.fld_setFld_fits _ _ (by decide) hcause

/-- The access is counted; no register but the counter and the latch changes. -/
theorem State.badLatch_counts (s : State) (w : Bool) (a len cause : Nat) :
    (s.badLatch w a len cause).reg Reg.GLB_BAD_ACCESS = s.reg Reg.GLB_BAD_ACCESS + 1
      ∧ s.onlyRegs (s.badLatch w a len cause) [Reg.GLB_BAD_ACCESS, Reg.GLB_BAD_LAST]
      ∧ s.onlyParts (s.badLatch w a len cause) [.regs] := by
  have hcount := s.reg_bump_self Reg.GLB_BAD_ACCESS
  have hregs := State.onlyRegs_mono (m := [Reg.GLB_BAD_ACCESS, Reg.GLB_BAD_LAST]) (s.onlyRegs_bump Reg.GLB_BAD_ACCESS) (by simp)
  have hparts := s.bump_rest Reg.GLB_BAD_ACCESS
  unfold State.badLatch
  generalize s.bump Reg.GLB_BAD_ACCESS = t at *
  dsimp only
  split
  · exact ⟨hcount, hregs, hparts⟩
  · refine ⟨?_, State.onlyRegs_trans hregs fun b hb => ?_,
      ((((hparts.setFld _ _ _).setFld _ _ _).setFld _ _ _).setFld _ _ _).setFld _ _ _⟩
    · simp (disch := decide) only [State.reg_setFld_other]
      exact hcount
    · have hother : b ≠ Reg.GLB_BAD_LAST := fun h => hb (h ▸ by simp)
      simp only [State.reg_setFld, if_neg hother]

/-- What a read of nothing returns goes to the read-out. -/
theorem State.setReadback_rest (s : State) (l : List Word64) : s.onlyParts { s with readback := l } [.regs, .readback] :=
  State.onlyParts_of_restored rfl

/-- Settles O40: the latch, then the ones of a read. -/
theorem accessesThatAreNotValid : Obligations.AccessesThatAreNotValid := by
  intro s w en a len ha hbad
  obtain ⟨hcount, hregs, hparts⟩ := s.badLatch_counts w a len 1
  have hheld : s.flag Reg.GLB_BAD_LAST Fld.GLB_BAD_LAST_VALID = true →
      (s.badLatch w a len 1).reg Reg.GLB_BAD_LAST = s.reg Reg.GLB_BAD_LAST := fun h => by
    rw [State.badLatch_held h, State.reg_bump_other _ (by decide)]
  have hempty := fun (h : s.flag Reg.GLB_BAD_LAST Fld.GLB_BAD_LAST_VALID = false) => State.badLatch_empty h w ha len (cause := 1) (by decide) rfl
  have hexec : badAccess w a len en s = if w then s.badLatch w a len 1
      else { s.badLatch w a len 1 with readback := List.replicate ((len + 7) / 8) (BitVec.allOnes 64) } :=
    if_neg (by simp [hbad])
  have hwide := State.onlyParts_mono (m := [.regs, .readback]) hparts (by simp)
  have hreadback : (s.badLatch w a len 1).readback = s.readback := hparts.2 .readback (by decide)
  cases w with
  | true =>
    exact ⟨_, (congrArg (done s) hexec).trans (done_eq_next hwide (by decide)), hcount, hheld, hempty, fun _ => hreadback,
      fun h => absurd h (by decide), hregs, hwide⟩
  | false =>
    have hones := State.onlyParts_trans hwide (State.setReadback_rest _ (List.replicate ((len + 7) / 8) (BitVec.allOnes 64)))
    exact ⟨_, (congrArg (done s) hexec).trans (done_eq_next hones (by decide)), hcount, hheld, hempty,
      fun h => absurd h (by decide), fun _ => rfl, hregs, hones⟩

end Sys2Proof.Machine
end

section
/-! PROOF. The status of long operations (R368, R372) and of the units (R391, R404): the registers and parts that a change moves. -/

namespace Sys2Proof.Machine

set_option Elab.async false

/-! ### One change of the registers among others -/

theorem State.bumpSat_within (s : State) {R : Set Nat} {a : Nat} (h : a ∈ R) (f : Fld) : s.within (s.bumpSat a f) R [.regs] :=
  s.setReg_within h _

theorem State.bumpBy_within (s : State) {R : Set Nat} {a : Nat} (h : a ∈ R) (n : Nat) : s.within (s.bumpBy a n) R [.regs] :=
  s.setReg_within h _

theorem State.within.fld_eq {s t : State} {R : Set Nat} {l : List Part} (h : s.within t R l) {a : Nat} (ha : a ∉ R) (f : Fld) :
    t.fld a f = s.fld a f :=
  State.fld_of_reg (h.1 a ha) f

theorem State.within.flag_eq {s t : State} {R : Set Nat} {l : List Part} (h : s.within t R l) {a : Nat} (ha : a ∉ R) (f : Fld) :
    t.flag a f = s.flag a f :=
  State.flag_of_reg (h.1 a ha) f

/-! ### Status words of long operations -/

/-- The status words of the sixteen slots. -/
def lopStatusRegs : Set Nat := {a | ∃ i < 16, a = Reg.LOP_STATUS i}

/-- Each lies in block LOP (R456). -/
theorem lopStatusRegs_range {a : Nat} (h : a ∈ lopStatusRegs) : 0x50000 ≤ a ∧ a < 0x51000 := by
  obtain ⟨i, hi, rfl⟩ := h
  simp only [Reg.LOP_STATUS]
  omega

theorem not_mem_lopStatusRegs {a : Nat} (h : a < 0x50000 ∨ 0x51000 ≤ a) : a ∉ lopStatusRegs := fun ha => by
  have := lopStatusRegs_range ha
  omega

theorem lopStatus_mem {i : Nat} (hi : i < 16) : Reg.LOP_STATUS i ∈ lopStatusRegs := ⟨i, hi, rfl⟩

theorem State.setLop_rest (s : State) (i : Nat) (x : LopSt) : s.onlyParts (s.setLop i x) [.lop] :=
  State.onlyParts_of_restored rfl

theorem State.setLop_within (s : State) (i : Nat) (x : LopSt) (R : Set Nat) : s.within (s.setLop i x) R [.lop] :=
  (s.setLop_rest i x).within (by decide) R

theorem State.lopPut_within (s : State) (i : Nat) (w : Word64) : s.within (s.lopPut i w) {Reg.LOP_STATUS i} [.regs, .lop] := by
  unfold State.lopPut
  dsimp only
  split
  · exact .refl s _ _
  · exact ((s.setReg_within (Set.mem_singleton _) _).parts (by simp)).trans ((State.setLop_within _ _ _ _).parts (by simp))

theorem State.lopEnd_within (s : State) (i st code : Nat) : s.within (s.lopEnd i st code) {Reg.LOP_STATUS i} [.regs, .lop] :=
  (s.lopPut_within i _).trans ((State.setLop_within _ _ _ _).parts (by simp))

theorem State.lopAbortAll_within (s : State) (p : State → Nat → Bool) (code : Nat) :
    s.within (s.lopAbortAll p code) lopStatusRegs [.regs, .lop] := by
  refine forUpTo_induct (fun t => s.within t lopStatusRegs [.regs, .lop]) 16 _ s (.refl s _ _) fun i t hi ht => ht.trans ?_
  split
  · exact (t.lopEnd_within i 5 code).mono (by simpa using lopStatus_mem hi) (fun _ h => h)
  · exact .refl t _ _

/-! ### FLT.STATUS -/

/-- The registers that a bit of FLT.STATUS that rises may move: the bit's own, and the count of messages sent for it. -/
def showRegs : Set Nat := {Reg.FLT_STATUS, Reg.HIF_CNT Cnt.HIF_MSIX_SENT}

theorem State.msix_within (s : State) : s.within s.msix showRegs [.regs] := by
  unfold State.msix
  split
  · exact .refl s _ _
  · exact s.bump_within (by simp [showRegs])

theorem State.faultVector_within (s : State) : s.within s.faultVector showRegs [.regs] := by
  unfold State.faultVector
  split
  · exact s.msix_within
  · exact .refl s _ _

theorem State.setFltStatus_within (s : State) (f : Fld) (x : Nat) : s.within (s.setFld Reg.FLT_STATUS f x) showRegs [.regs] :=
  s.setFld_within (by simp [showRegs]) f x

theorem State.fltStatus_within (s : State) (f : Fld) : s.within (s.fltStatus f) showRegs [.regs] := by
  unfold State.fltStatus
  split
  · exact .refl s _ _
  · have hset := s.setFltStatus_within f 1
    dsimp only
    split
    · exact hset.trans (State.faultVector_within _)
    · exact hset

theorem State.showUnits_within (s : State) : s.within s.showUnits showRegs [.regs] := by
  have hshow (t : State) (f : Fld) (on : Bool) :
      t.within (if on then t.fltStatus f else t.setFld Reg.FLT_STATUS f 0) showRegs [.regs] := by
    cases on
    · exact t.setFltStatus_within f 0
    · exact t.fltStatus_within f
  exact (hshow s _ _).trans (hshow _ _ _)

/-- The registers of the units' states. -/
theorem fltUnit_not_show {u : Nat} (h : u < 315) : Reg.FLT_UNIT u ∉ showRegs := by
  simp only [showRegs, Set.mem_insert_iff, Set.mem_singleton_iff, Reg.FLT_UNIT, Reg.FLT_STATUS, Reg.HIF_CNT, Cnt.HIF_MSIX_SENT]
  omega

end Sys2Proof.Machine
end

section
/-! PROOF. Resets (R342, R430): what the end of every long operation, the drop of the claims and the start of a cast-on leave. -/

namespace Sys2Proof.Machine

set_option Elab.async false

/-! ### Claims -/

theorem State.claim_of_reg {s t : State} {x : Nat} (h : t.reg (claimReg x) = s.reg (claimReg x)) : t.claim x = s.claim x := by
  rw [State.claim, State.claim, h]

/-- A claim register is one of the two. -/
theorem claimReg_cases (x : Nat) : claimReg x = Reg.CCX_CLAIM_A ∨ claimReg x = Reg.CCX_CLAIM_B := by
  unfold claimReg
  split
  · exact .inl rfl
  · exact .inr rfl

theorem State.claim_setClaim_self (s : State) (x c : Nat) : (s.setClaim x c).claim x = c % 4294967296 :=
  s.fld_setFld_self (claimReg x) ⟨0, 32⟩ c (by decide)

theorem claimReg_ne {x y : Nat} (hx : x < 2) (hy : y < 2) (h : x ≠ y) : claimReg x ≠ claimReg y := by
  have hxy : x = 0 ∧ y = 1 ∨ x = 1 ∧ y = 0 := by omega
  obtain ⟨rfl, rfl⟩ | ⟨rfl, rfl⟩ := hxy <;> decide

theorem State.claim_setClaim_other (s : State) {x y : Nat} (hx : x < 2) (hy : y < 2) (h : y ≠ x) (c : Nat) :
    (s.setClaim x c).claim y = s.claim y :=
  State.claim_of_reg (s.reg_setFld_other _ _ (claimReg_ne hy hx h))

theorem State.setClaim_rest (s : State) (x c : Nat) : s.onlyParts (s.setClaim x c) [.regs] := s.setFld_rest _ _ _

theorem State.dropClaims_claim (s : State) : s.dropClaims.claim 0 = 0 ∧ s.dropClaims.claim 1 = 0 := by
  refine ⟨?_, (s.setClaim 0 0).claim_setClaim_self 1 0⟩
  rw [State.dropClaims, State.claim_setClaim_other _ (by decide) (by decide) (by decide), State.claim_setClaim_self]

theorem State.dropClaims_rest (s : State) : s.onlyParts s.dropClaims [.regs] :=
  State.onlyParts_trans (s.setClaim_rest 0 0) (State.setClaim_rest _ 1 0)

theorem claimReg_not_lopStatus (x : Nat) : claimReg x ∉ lopStatusRegs := by
  obtain h | h := claimReg_cases x <;> rw [h] <;> exact not_mem_lopStatusRegs (by decide)

/-- Both claims are gone, and every long operation has ended. -/
theorem State.dropAbort_claim (s : State) (p : State → Nat → Bool) (code x : Nat) (hx : x < 2) :
    (s.dropClaims.lopAbortAll p code).claim x = 0 := by
  rw [State.claim_of_reg ((State.lopAbortAll_within _ p code).1 _ (claimReg_not_lopStatus x))]
  obtain ⟨hA, hB⟩ := s.dropClaims_claim
  obtain rfl | rfl : x = 0 ∨ x = 1 := by omega
  · exact hA
  · exact hB

theorem State.dropAbort_rest (s : State) (p : State → Nat → Bool) (code : Nat) :
    s.onlyParts (s.dropClaims.lopAbortAll p code) [.regs, .lop] :=
  State.onlyParts_trans (State.onlyParts_mono s.dropClaims_rest (by simp)) (State.lopAbortAll_within _ p code).2

theorem State.dropAbort_cast (s : State) (p : State → Nat → Bool) (code : Nat) : (s.dropClaims.lopAbortAll p code).cast = s.cast :=
  (s.dropAbort_rest p code).2 .cast (by decide)

/-! ### Blocks reset -/

theorem State.unitsUp_rest (s : State) : s.onlyParts s.unitsUp [.regs, .fault] := by
  unfold State.unitsUp
  extract_lets t
  have hup : s.onlyParts t [.regs, .fault] :=
    forUpTo_induct (fun t => s.onlyParts t [.regs, .fault]) 315 _ s (s.onlyParts_refl _) fun _ t _ ht =>
      State.onlyParts_trans ht (State.onlyParts_mono (t.setFld_rest _ _ _) (by simp))
  clear_value t
  have hcleared := t.setFault_only { t.fault with timers := [], seqWanted := [], keptUnder := [], rebuilt := [], mcUe := [] }
  exact State.onlyParts_trans (State.onlyParts_trans hup (State.onlyParts_mono hcleared (by simp)))
    (State.onlyParts_mono (l := [.regs]) (State.showUnits_within _).2 (by simp))

/-- The blocks' states at reset, once their units are up. -/
theorem State.onlyParts_blocks (s : State) (r : Tbl Word64) (h : HifSt) :
    s.onlyParts { s with
      regs := r, links := [], ports := [], slice := SliceSt.init, buf := BufSt.init, tm := TmSt.init, tmb := TumblerSt.init,
      shards := [], dram := DramSt.init, pools := PoolSt.init, twin := TwinSt.init, exporter := ExporterSt.init, hif := h,
      ccx := CcxSt.init }
      [.regs, .links, .ports, .slice, .buf, .tm, .tmb, .shards, .dram, .pools, .twin, .hif, .exporter, .ccx] :=
  ⟨rfl, fun p hp => by cases p <;> simp_all [Part.same]⟩

/-- A reset of the blocks outside PD_AON leaves cast-on's own state, power and the test port. -/
theorem State.resetBlocks_rest (s : State) (hif : Bool) :
    s.onlyParts (s.resetBlocks hif) [.regs, .links, .fault, .ports, .slice, .buf, .tm, .tmb, .shards, .dram, .pools, .twin, .hif,
      .exporter, .ccx] :=
  State.onlyParts_trans (State.onlyParts_mono s.unitsUp_rest (by simp))
    (State.onlyParts_mono (s.unitsUp.onlyParts_blocks _ _) (by simp))

theorem State.resetBlocks_cast (s : State) (hif : Bool) : (s.resetBlocks hif).cast = s.cast :=
  (s.resetBlocks_rest hif).2 .cast (by decide)

/-! ### The start of a cast-on (R342) -/

/-- A range of PMU registers back at their factory values leaves the others. -/
theorem State.reg_resetRange (s : State) (lo hi b : Nat) :
    (s.resetRange lo hi).reg b = if lo ≤ b ∧ b < hi then regDefault b else s.reg b := by
  simp only [State.reg, State.resetRange, Tbl.get_drop, Bool.and_eq_true, decide_eq_true_eq]

theorem State.reg_resetRange_other (s : State) {lo hi b : Nat} (h : ¬(lo ≤ b ∧ b < hi)) : (s.resetRange lo hi).reg b = s.reg b := by
  rw [State.reg_resetRange, if_neg h]

/-- CST.STATUS at the start of a cast-on. -/
def State.castStatus (s : State) (cause : Nat) : State :=
  let a := Reg.CST_STATUS
  let s := ((((s.setFld a Fld.CST_STATUS_PHASE 0).setFld a Fld.CST_STATUS_LAYER 0).setFld a Fld.CST_STATUS_TRIAL 0).setFld a
    Fld.CST_STATUS_DONE 0).setFld a Fld.CST_STATUS_REFUSED_SEEN 0
  (s.setFld a Fld.CST_STATUS_REVERTED (bit (cause == 4))).setFld a Fld.CST_STATUS_CAUSE cause

theorem State.castStatus_shows (s : State) {cause : Nat} (h : cause < 8) :
    (s.castStatus cause).phase = 0 ∧ (s.castStatus cause).fld Reg.CST_STATUS Fld.CST_STATUS_CAUSE = cause
      ∧ (s.castStatus cause).flag Reg.CST_STATUS Fld.CST_STATUS_REVERTED = (cause == 4) := by
  unfold State.castStatus State.phase
  refine ⟨?_, State.fld_setFld_fits _ _ (by decide) h, ?_⟩
  · simp (disch := decide) only [State.fld_setFld_disjoint]
    exact State.fld_setFld_self _ _ _ _ (by decide)
  · simp (disch := decide) only [State.flag_setFld_disjoint]
    exact State.flag_setFld_bit _ _ ⟨rfl, by decide⟩ _

theorem State.castStatus_rest (s : State) (cause : Nat) : s.onlyParts (s.castStatus cause) [.regs] :=
  (((((((s.onlyParts_refl [.regs]).setFld _ _ _).setFld _ _ _).setFld _ _ _).setFld _ _ _).setFld _ _ _).setFld _ _ _).setFld _ _ _

/-- The other registers at the start of a cast-on. -/
def State.castBegun (s : State) (cause : Nat) : State :=
  let s : State := forUpTo 2 (fun i t => (t.setReg (Reg.CST_ATTEMPT i) 0).setReg (Reg.CST_ATTEMPT_VAL i) 0) s
  let s := (s.setFld Reg.GLB_STATUS Fld.GLB_STATUS_DEV_READY 0).setFld Reg.GLB_STATUS Fld.GLB_STATUS_SAFE_OFF 0
  let s := if 2 ≤ cause then s.bumpSat Reg.GLB_RESET_CNT Fld.GLB_RESET_CNT_SOFT else s
  let s := s.setFld Reg.FLT_FATAL_STATE Fld.FLT_FATAL_STATE_HOLDING 0
  (s.resetRange (Reg.PMU_PD_STATE 0) (Reg.PMU_PD_STATE 3)).setFld Reg.PMU_PD_CMD Fld.PMU_PD_CMD_BUSY 0

theorem State.resetRange_rest (s : State) (lo hi : Nat) : s.onlyParts (s.resetRange lo hi) [.regs] := State.onlyParts_of_regs _ _ rfl

/-- The registers whose value after the start of a cast-on is set before those. -/
def castKept : List Nat := [Reg.CST_STATUS, Reg.CCX_CLAIM_A, Reg.CCX_CLAIM_B]

theorem State.castBegun_leaves (s : State) (cause : Nat) :
    (∀ a ∈ castKept, (s.castBegun cause).reg a = s.reg a)
      ∧ (s.castBegun cause).flag Reg.GLB_STATUS Fld.GLB_STATUS_DEV_READY = false ∧ s.onlyParts (s.castBegun cause) [.regs] := by
  unfold State.castBegun
  extract_lets v w counted held
  have hother (a : Nat) (ha : a ∈ castKept) : v.reg a = s.reg a := by
    simp only [castKept, List.mem_cons, List.not_mem_nil, or_false] at ha
    obtain rfl | rfl | rfl := ha <;> simp (disch := decide) only [v, forUpTo, State.reg_setReg_other]
  have hw (a : Nat) (ha : a ∈ castKept) : w.reg a = v.reg a := by
    simp only [castKept, List.mem_cons, List.not_mem_nil, or_false] at ha
    obtain rfl | rfl | rfl := ha <;> simp (disch := decide) only [w, State.reg_setFld_other]
  have hready : w.flag Reg.GLB_STATUS Fld.GLB_STATUS_DEV_READY = false :=
    (State.flag_setFld_disjoint _ _ _ (by decide)).trans (State.flag_setFld_zero _ _ ⟨rfl, by decide⟩)
  have hzeroed : s.onlyParts v [.regs] :=
    forUpTo_induct (fun t => s.onlyParts t [.regs]) 2 _ s (s.onlyParts_refl _) fun _ _ _ ht => (ht.setReg _ _).setReg _ _
  have hparts : s.onlyParts w [.regs] := (hzeroed.setFld _ _ _).setFld _ _ _
  clear_value w
  have hcounted : w.within counted {Reg.GLB_RESET_CNT} [.regs] := by
    unfold counted
    split
    · exact w.bumpSat_within (Set.mem_singleton _) _
    · exact .refl w _ _
  clear_value counted
  have hend (a : Nat) (ha : a ∈ Reg.GLB_STATUS :: castKept) :
      ((held.resetRange (Reg.PMU_PD_STATE 0) (Reg.PMU_PD_STATE 3)).setFld Reg.PMU_PD_CMD Fld.PMU_PD_CMD_BUSY 0).reg a = w.reg a := by
    simp only [castKept, List.mem_cons, List.not_mem_nil, or_false] at ha
    obtain rfl | rfl | rfl | rfl := ha <;>
      simp (disch := decide) only [held, State.reg_setFld_other, State.reg_resetRange_other] <;> exact hcounted.1 _ (by decide)
  refine ⟨fun a ha => ((hend a (by simp [ha])).trans (hw a ha)).trans (hother a ha),
    (State.flag_of_reg (hend _ (by simp)) _).trans hready,
    (((hparts.step hcounted.2).setFld _ _ _).step (State.resetRange_rest _ _ _)).setFld _ _ _⟩

/-- The end of the start: what is under way ends, and no candidate has been chosen. -/
def State.castAnew (s : State) : State :=
  { s with
    fault := { s.fault with stopped := false, fatalLine := none, runSince := none }
    power := { s.power with shutdown := false, pdRun := none }
    cast := { s.cast with cands := [], slot := none, trial := false, attempts := 0, chosen := false, began := s.clk.mono
                          runAt := none, image := [], tables := ImageTables.init, env := [] } }

theorem State.startCastOn_eq (s : State) (cause : Nat) :
    s.startCastOn cause = (((s.dropClaims.lopAbortAll (fun _ _ => true) lopAbandoned).castStatus cause).castBegun cause).castAnew := rfl

/-- What a cast-on shows when it starts. -/
theorem State.startCastOn_shows (s : State) {cause : Nat} (h : cause < 8) :
    (s.startCastOn cause).phase = 0 ∧ (s.startCastOn cause).fld Reg.CST_STATUS Fld.CST_STATUS_CAUSE = cause
      ∧ (s.startCastOn cause).flag Reg.CST_STATUS Fld.CST_STATUS_REVERTED = (cause == 4)
      ∧ (s.startCastOn cause).flag Reg.GLB_STATUS Fld.GLB_STATUS_DEV_READY = false
      ∧ (∀ x < 2, (s.startCastOn cause).claim x = 0) := by
  rw [State.startCastOn_eq]
  have hclaim := s.dropAbort_claim (fun _ _ => true) lopAbandoned
  generalize s.dropClaims.lopAbortAll (fun _ _ => true) lopAbandoned = t at *
  obtain ⟨hphase, hcause, hreverted⟩ := t.castStatus_shows h
  have hclaimStatus (x : Nat) (hx : x < 2) : (t.castStatus cause).claim x = 0 := by
    rw [← hclaim x hx]
    refine State.claim_of_reg ?_
    unfold State.castStatus
    obtain hA | hB := claimReg_cases x
    · rw [hA]; simp (disch := decide) only [State.reg_setFld_other]
    · rw [hB]; simp (disch := decide) only [State.reg_setFld_other]
  generalize t.castStatus cause = u at *
  obtain ⟨hkept, hready, -⟩ := u.castBegun_leaves cause
  have hstatus := hkept Reg.CST_STATUS (by decide)
  refine ⟨(State.fld_of_reg hstatus _).trans hphase, (State.fld_of_reg hstatus _).trans hcause,
    (State.flag_of_reg hstatus _).trans hreverted, hready, fun x hx => Eq.trans ?_ (hclaimStatus x hx)⟩
  obtain hA | hB := claimReg_cases x
  · exact State.claim_of_reg (t := (u.castBegun cause).castAnew) (hA ▸ hkept _ (by decide))
  · exact State.claim_of_reg (t := (u.castBegun cause).castAnew) (hB ▸ hkept _ (by decide))

/-- What stands of the parts that do change. -/
theorem State.startCastOn_cast (s : State) (cause : Nat) :
    (s.startCastOn cause).cast.slot = none ∧ (s.startCastOn cause).cast.flash = s.cast.flash
      ∧ (s.startCastOn cause).cast.jnl = s.cast.jnl ∧ (s.startCastOn cause).power.sysResetLow = s.power.sysResetLow := by
  rw [State.startCastOn_eq]
  have hrest := s.dropAbort_rest (fun _ _ => true) lopAbandoned
  generalize s.dropClaims.lopAbortAll (fun _ _ => true) lopAbandoned = t at *
  have hstatus := t.castStatus_rest cause
  generalize t.castStatus cause = u at *
  obtain ⟨-, -, hbegun⟩ := u.castBegun_leaves cause
  have hcast : (u.castBegun cause).cast = s.cast :=
    (hbegun.2 .cast (by decide)).trans ((hstatus.2 .cast (by decide)).trans (hrest.2 .cast (by decide)))
  have hpower : (u.castBegun cause).power = s.power :=
    (hbegun.2 .power (by decide)).trans ((hstatus.2 .power (by decide)).trans (hrest.2 .power (by decide)))
  generalize u.castBegun cause = v at *
  have hflash : v.castAnew.cast.flash = v.cast.flash := rfl
  have hjnl : v.castAnew.cast.jnl = v.cast.jnl := rfl
  have hlow : v.castAnew.power.sysResetLow = v.power.sysResetLow := rfl
  exact ⟨rfl, hflash.trans (congrArg CastSt.flash hcast), hjnl.trans (congrArg CastSt.jnl hcast),
    hlow.trans (congrArg PowerSt.sysResetLow hpower)⟩

end Sys2Proof.Machine
end

section
/-! PROOF. PD_AON power-up, SYS_RESET_N, TRST_N and the JTAG instructions (R430, R452). -/

namespace Sys2Proof.Machine

set_option Elab.async false

/-- The boundary's drive is the test port's. -/
theorem State.driveBoundary_rest (s : State) : s.onlyParts s.driveBoundary [.jtag] := State.onlyParts_of_restored rfl

/-- The registers back at their factory values, and the journal's first waiting entry cut off: no other entry waits. -/
theorem State.jnlCut_jq (s : State) (n : Nat) : (s.jnlCut n).cast.jq = [] := rfl

/-- SYS_RESET_N low, after the blocks are reset: no claim, no phase, not ready. -/
theorem sysResetFall_shows {s : State} (h : s.power.sysResetLow = false) (n : Nat) :
    (sysResetFall n s).power.sysResetLow = true ∧ (sysResetFall n s).phase = 0 ∧ (∀ x < 2, (sysResetFall n s).claim x = 0)
      ∧ (sysResetFall n s).flag Reg.GLB_STATUS Fld.GLB_STATUS_DEV_READY = false ∧ (sysResetFall n s).cast.jq = []
      ∧ (sysResetFall n s).power.pdRun = none := by
  unfold sysResetFall
  rw [if_neg (by rw [h]; exact Bool.false_ne_true)]
  extract_lets cut ended zeroed f
  have hjq : cut.cast.jq = [] := (congrArg CastSt.jq (State.resetBlocks_cast _ true)).trans (State.jnlCut_jq _ n)
  clear_value cut
  have hended : ended.cast = cut.cast := cut.dropAbort_cast (fun _ _ => true) lopAbandoned
  have hclaim : ∀ x < 2, ended.claim x = 0 := cut.dropAbort_claim (fun _ _ => true) lopAbandoned
  clear_value ended
  have hphase : zeroed.phase = 0 :=
    (State.fld_setFld_other _ _ _ _ _ _ (by decide)).trans (State.fld_setFld_self _ _ _ _ (by decide))
  have hready : zeroed.flag Reg.GLB_STATUS Fld.GLB_STATUS_DEV_READY = false := State.flag_setFld_zero _ _ ⟨rfl, by decide⟩
  have hzeroed : zeroed.cast = ended.cast := rfl
  have hkept (x : Nat) : zeroed.claim x = ended.claim x := by
    obtain hA | hB := claimReg_cases x
    · exact State.claim_of_reg (by rw [hA]; simp (disch := decide) only [zeroed, State.reg_setFld_other])
    · exact State.claim_of_reg (by rw [hB]; simp (disch := decide) only [zeroed, State.reg_setFld_other])
  clear_value zeroed
  have hwaits : zeroed.cast.jq = [] := by rw [hzeroed, hended, hjq]
  exact ⟨rfl, hphase, fun x hx => (hkept x).trans (hclaim x hx), hready, hwaits, rfl⟩

/-- A power-up gives the reset state; the devices and the fuses hold what they held. -/
theorem pdAonPowerUp_gives (s : State) :
    (pdAonPowerUp s).regs = State.reset.regs ∧ (pdAonPowerUp s).clk = Clock.init ∧ (pdAonPowerUp s).cast.flash = s.cast.flash
      ∧ (pdAonPowerUp s).cast.jnl = s.cast.jnl ∧ (pdAonPowerUp s).cast.bank0 = s.cast.bank0
      ∧ (pdAonPowerUp s).cast.bank1 = s.cast.bank1 ∧ (pdAonPowerUp s).cast.svn = s.cast.svn :=
  ⟨rfl, rfl, rfl, rfl, rfl, rfl, rfl⟩

/-- SYS_RESET_N high again: a cast-on starts with cause 1. -/
theorem sysResetRelease_shows {s : State} (h : s.power.sysResetLow = true) :
    (sysResetRelease s).power.sysResetLow = false ∧ (sysResetRelease s).phase = 0
      ∧ (sysResetRelease s).fld Reg.CST_STATUS Fld.CST_STATUS_CAUSE = 1 ∧ (sysResetRelease s).cast.slot = none := by
  unfold sysResetRelease
  rw [if_neg (by rw [h]; exact Bool.false_ne_true)]
  extract_lets
  have hhigh : (State.driveBoundary { s with power := { s.power with sysResetLow := false } }).power.sysResetLow = false := rfl
  generalize State.driveBoundary _ = t at *
  obtain ⟨hphase, hcause, -, -, -⟩ := t.startCastOn_shows (cause := 1) (by decide)
  obtain ⟨hslot, -, -, hlow⟩ := t.startCastOn_cast 1
  exact ⟨hlow.trans hhigh, hphase, hcause, hslot⟩

/-- An instruction selected: its data register, and what it drives while SYS_RESET_N is low. -/
theorem State.done_jtagSelect (s : State) (i : JtagInstr) (dr : List Bool) :
    done s (s.jtagSelect i dr) = .next { s with jtag := ⟨i, dr, s.jtag.bsr, if s.power.sysResetLow then i.drives else .normal⟩ } :=
  rfl

/-- Settles O60: a power-up is the reset state but for what the devices and fuses hold; a fall of SYS_RESET_N is followed through
the blocks' reset; an instruction selects its register. -/
theorem resetsAndTheTestPort : Obligations.ResetsAndTheTestPort := by
  refine ⟨fun s => ⟨_, doneClk_eq s _, pdAonPowerUp_gives s⟩, fun s n hhigh => ?_, fun s hlow => ?_, fun s => ?_,
    fun s c i dr hc => ?_, fun s pins load => ?_⟩
  · obtain ⟨hlow, hphase, hclaim, hready, hjq, hrun⟩ := sysResetFall_shows hhigh n
    exact ⟨_, done_eq s _, hlow, hphase, hclaim 0 (by decide), hclaim 1 (by decide), hready, hjq, hrun⟩
  · obtain ⟨hhigh, hphase, hcause, hslot⟩ := sysResetRelease_shows hlow
    exact ⟨_, done_eq s _, hhigh, hphase, hcause, hslot⟩
  · have hdrive : (if s.power.sysResetLow then JtagInstr.idcode.drives else .normal) = Boundary.normal := by
      cases s.power.sysResetLow <;> rfl
    exact (congrArg (fun d => Host.Outcome.next { s with jtag := { JtagSt.init with bsr := s.jtag.bsr, drive := d } }) hdrive :)
  · simp only [List.mem_cons, Prod.mk.injEq, List.not_mem_nil, or_false] at hc
    obtain ⟨rfl, rfl, rfl⟩ | ⟨rfl, rfl, rfl⟩ | ⟨rfl, rfl, rfl⟩ | ⟨rfl, rfl, rfl⟩ | ⟨rfl, rfl, rfl⟩ | ⟨rfl, rfl, rfl⟩
      | ⟨rfl, rfl, rfl⟩ := hc <;> exact s.done_jtagSelect _ _
  · have hdrive : (if s.power.sysResetLow then JtagInstr.samplePreload.drives else .normal) = Boundary.normal := by
      cases s.power.sysResetLow <;> rfl
    exact (congrArg (fun d => Host.Outcome.next { s with jtag := ⟨.samplePreload, pins, load, d⟩ }) hdrive :)

end Sys2Proof.Machine
end

section
/-! PROOF. Chains of changes, each within the registers and parts of the chain. -/

namespace Sys2Proof.Machine

set_option Elab.async false

section
variable {s t u : State} {R R' : Set Nat} {l l' : List Part} (h : s.within t R l)
include h

theorem State.within.setReg (a : Nat) (v : Word64) (ha : a ∈ R := by simp) (hl : Part.regs ∈ l := by decide) :
    s.within (t.setReg a v) R l :=
  h.trans ((t.setReg_within ha v).parts (by simpa using hl))

theorem State.within.setFld (a : Nat) (f : Fld) (x : Nat) (ha : a ∈ R := by simp) (hl : Part.regs ∈ l := by decide) :
    s.within (t.setFld a f x) R l :=
  h.setReg a _ ha hl

theorem State.within.bump (a : Nat) (ha : a ∈ R := by simp) (hl : Part.regs ∈ l := by decide) : s.within (t.bump a) R l :=
  h.setReg a _ ha hl

/-- A further step. -/
theorem State.within.step (hu : t.within u R' l') (hR : R' ⊆ R := by simp) (hl : ∀ p ∈ l', p ∈ l := by decide) :
    s.within u R l :=
  h.trans (hu.mono hR hl)

/-- A further step that changes no register. -/
theorem State.within.rest (hu : t.onlyParts u l') (hregs : Part.regs ∉ l' := by decide) (hl : ∀ p ∈ l', p ∈ l := by decide) :
    s.within u R l :=
  h.trans ((hu.within hregs R).parts hl)

/-- The registers of a list. -/
theorem State.within.listed {m : List Nat} (hR : R = {a | a ∈ m}) : s.onlyRegs t m := fun x hx => h.1 x (hR ▸ hx)

end

section
variable {s t : State} {m : List Nat} {l : List Part} (h : s.within t {a | a ∈ m} l)
include h

/-- A register outside the list. -/
theorem State.within.reg_kept (a : Nat) (ha : a ∉ m := by decide) : t.reg a = s.reg a := h.1 a ha

theorem State.within.fld_kept (a : Nat) (f : Fld) (ha : a ∉ m := by decide) : t.fld a f = s.fld a f := State.fld_of_reg (h.1 a ha) f

theorem State.within.flag_kept (a : Nat) (f : Fld) (ha : a ∉ m := by decide) : t.flag a f = s.flag a f :=
  State.flag_of_reg (h.1 a ha) f

end

theorem State.setHif_rest (s : State) (x : HifSt) : s.onlyParts { s with hif := x } [.hif] := State.onlyParts_of_restored rfl

end Sys2Proof.Machine
end

section
/-! PROOF. Resets and losses of the PCIe host, DMA_EN and the link (R357 to R359, R430). -/

namespace Sys2Proof.Machine

set_option Elab.async false

/-- The host is gone: it shows in HIF.STATUS, DMA_EN is clear, and no inject waits. -/
def State.hostGone (s : State) : Prop :=
  s.flag Reg.HIF_STATUS Fld.HIF_STATUS_HOST_LOST = true ∧ s.flag Reg.HIF_CTL Fld.HIF_CTL_DMA_EN = false ∧ s.hif.txWait = none

theorem State.hostLostFrom_loses (s : State) (was : Bool) :
    (s.hostLostFrom was).hostGone ∧ s.onlyParts (s.hostLostFrom was) [.regs, .hif, .lop] := by
  unfold State.hostLostFrom
  extract_lets counted lost _ dropped
  have hcounted : s.onlyParts counted [.regs] := by
    unfold counted
    split
    · exact s.onlyParts_refl _
    · exact s.bump_rest _
  have hlost : lost.flag Reg.HIF_STATUS Fld.HIF_STATUS_HOST_LOST = true :=
    (State.flag_setFld_other _ _ _ _ (by decide)).trans (State.flag_setFld_one _ _ ⟨rfl, by decide⟩)
  have hdma : lost.flag Reg.HIF_CTL Fld.HIF_CTL_DMA_EN = false := State.flag_setFld_zero _ _ ⟨rfl, by decide⟩
  have hrest : s.onlyParts lost [.regs] := (hcounted.setFld _ _ _).setFld _ _ _
  clear_value lost
  have hends := dropped.lopAbortAll_within State.lopNeedsHost lopHost
  have hwait : (dropped.lopAbortAll State.lopNeedsHost lopHost).hif = dropped.hif := hends.2.2 .hif (by decide)
  exact ⟨⟨(hends.flag_eq (not_mem_lopStatusRegs (by decide)) _).trans hlost,
      (hends.flag_eq (not_mem_lopStatusRegs (by decide)) _).trans hdma, congrArg HifSt.txWait hwait⟩,
    ((State.onlyParts_mono hrest (by simp)).step (lost.setHif_rest _)).step hends.2⟩

/-- The HIF's registers and queues at their reset values. -/
theorem State.hifReset_rest (s : State) : s.onlyParts s.hifReset [.regs, .hif] := State.onlyParts_of_restored rfl

/-- PERST_N falls: the time is noted. -/
theorem perstAssert_notes (s : State) : (perstAssert s).hostGone ∧ (perstAssert s).power.perstLow = some s.clk.mono := by
  unfold perstAssert
  extract_lets was lost
  have hreset : s.onlyParts (s.hifReset.bumpSat Reg.GLB_RESET_CNT Fld.GLB_RESET_CNT_PERST) [.regs, .hif] :=
    s.hifReset_rest.setFld _ _ _
  have hloses := State.hostLostFrom_loses (s.hifReset.bumpSat Reg.GLB_RESET_CNT Fld.GLB_RESET_CNT_PERST) was
  have hgone : lost.hostGone := hloses.1
  have hclk : lost.clk = s.clk := (hloses.2.clk_eq (by decide)).trans (hreset.clk_eq (by decide))
  clear_value lost
  exact ⟨hgone, congrArg (fun c => some (Clock.mono c)) hclk⟩

theorem State.hostLost_gone (s : State) : s.hostLost.hostGone := (s.hostLostFrom_loses s.hostIsLost).1

/-- The events that lose the host. -/
theorem hostEvent_loses (s : State) {c : Instr}
    (hc : c ∈ [Instr.perstNAssert, .hotReset, .flr, .pcieLinkDown, .d3hotEntry, .busMasterClear]) :
    ∃ u, exec c s = done s u ∧ u.hostGone := by
  have hloses (t : State) (was : Bool) : (t.hostLostFrom was).hostGone := (t.hostLostFrom_loses was).1
  simp only [List.mem_cons, List.not_mem_nil, or_false] at hc
  obtain rfl | rfl | rfl | rfl | rfl | rfl := hc
  · exact ⟨perstAssert s, rfl, (perstAssert_notes s).1⟩
  · exact ⟨hotReset s, rfl, hloses _ _⟩
  · exact ⟨flr s, rfl, hloses _ _⟩
  · exact ⟨pcieLinkDown s, rfl, State.hostLost_gone _⟩
  · exact ⟨s.hostLost, rfl, s.hostLost_gone⟩
  · exact ⟨s.hostLost, rfl, s.hostLost_gone⟩

/-- DMA_EN brings the host back. -/
theorem dmaEnWrite_restores {s : State} (h : s.down unitHif = false) :
    (dmaEnWrite s).flag Reg.HIF_CTL Fld.HIF_CTL_DMA_EN = true
      ∧ (dmaEnWrite s).flag Reg.HIF_STATUS Fld.HIF_STATUS_HOST_LOST = false
      ∧ s.within (dmaEnWrite s) {a | a ∈ [Reg.HIF_CTL, Reg.HIF_STATUS]} [.regs] := by
  rw [dmaEnWrite, if_neg (by rw [h]; exact Bool.false_ne_true)]
  refine ⟨(State.flag_setFld_other _ _ _ _ (by decide)).trans (State.flag_setFld_one _ _ ⟨rfl, by decide⟩),
    State.flag_setFld_zero _ _ ⟨rfl, by decide⟩, ((State.within.refl s _ _).setFld _ _ _).setFld _ _ _⟩

/-- A speed and a width negotiated while PERST_N is high. -/
theorem dataLinkUp_shows {s : State} {speed width : Nat} (hperst : s.power.perstLow = none) (hspeed : speed ≠ 0 ∧ speed < 8)
    (hwidth : width ∈ [1, 2, 4, 8]) :
    (dataLinkUp speed width s).flag Reg.HIF_STATUS Fld.HIF_STATUS_LINK_UP = true
      ∧ (dataLinkUp speed width s).fld Reg.HIF_STATUS Fld.HIF_STATUS_SPEED = speed
      ∧ (dataLinkUp speed width s).fld Reg.HIF_STATUS Fld.HIF_STATUS_WIDTH = width
      ∧ s.within (dataLinkUp speed width s) {a | a ∈ [Reg.HIF_STATUS]} [.regs] := by
  have hfits : width < 16 := by
    simp only [List.mem_cons, List.not_mem_nil, or_false] at hwidth
    omega
  rw [dataLinkUp, if_neg (by simp [hperst, hspeed.1, hwidth])]
  refine ⟨?_, ?_, State.fld_setFld_fits _ _ (by decide) hfits, (((State.within.refl s _ _).setFld _ _ _).setFld _ _ _).setFld _ _ _⟩
  · simp (disch := decide) only [State.flag_setFld_disjoint]
    exact State.flag_setFld_one _ _ ⟨rfl, by decide⟩
  · simp (disch := decide) only [State.fld_setFld_disjoint]
    exact State.fld_setFld_fits _ _ (by decide) hspeed.2

/-- Settles O41: every loss goes through `hostLostFrom`. -/
theorem losingTheHost : Obligations.LosingTheHost := by
  refine ⟨fun s c hc => ?_, fun s => ?_, fun s m hm htime => ?_, fun s hup => ?_, fun s speed width hperst hspeed hwidth => ?_⟩
  · obtain ⟨u, hexec, hlost, hdma, hwait⟩ := hostEvent_loses s hc
    exact ⟨_, hexec.trans (done_eq s u), hlost, hdma, hwait⟩
  · exact ⟨_, done_eq s _, (perstAssert_notes s).2⟩
  · have hrelease : perstRelease s = { s with power := { s.power with perstLow := none } } := by
      rw [perstRelease, hm]
      exact if_neg (by omega)
    exact (congrArg (done s) hrelease).trans (done_eq_next (s.setPower_only _) (by decide))
  · obtain ⟨hdma, hlost, hrest⟩ := dmaEnWrite_restores hup
    exact ⟨_, done_eq_next hrest.2 (by decide), hdma, hlost, hrest.listed rfl, hrest.2⟩
  · obtain ⟨hup, hs, hw, hrest⟩ := dataLinkUp_shows hperst ⟨hspeed, by omega⟩ hwidth
    exact ⟨_, done_eq_next hrest.2 (by decide), hup, hs, hw, hrest.listed rfl, hrest.2⟩

end Sys2Proof.Machine
end

section
/-! PROOF. The PMU's monitors: PLLs, REFCLK, supplies, temperatures (R429, R435, R436). -/

namespace Sys2Proof.Machine

set_option Elab.async false

/-- A fatal message drives the line and moves no register (R388). -/
theorem State.sendFault_fatal (s : State) (src kind addr : Nat) :
    (s.sendFault src kind 2 addr).fault.fatalLine.isSome = true ∧ s.onlyParts (s.sendFault src kind 2 addr) [.fault] := by
  have hsent : s.sendFault src kind 2 addr = { s with fault := (s.sendFault src kind 2 addr).fault } := by
    unfold State.sendFault
    dsimp only
    rw [if_neg (by simp)]
  refine ⟨?_, hsent ▸ s.setFault_only _⟩
  rw [State.sendFault_line]
  cases s.fault.fatalLine <;> rfl

/-- The fallback clock takes over at the first loss; the time of day stops. -/
theorem State.clkFallback_stops (s : State) :
    (s.power.fallback = false → s.clkFallback.clk = { s.clk with running := false } ∧ s.clkFallback.power.fallback = true
        ∧ s.clkFallback.flag Reg.PMU_STATUS Fld.PMU_STATUS_CLK_FALLBACK = true)
      ∧ s.onlyParts s.clkFallback [.clk, .regs, .power] := by
  unfold State.clkFallback
  split
  · next h => exact ⟨fun hf => absurd (h.symm.trans hf) (by decide), s.onlyParts_refl _⟩
  · extract_lets shown
    have hflag : shown.flag Reg.PMU_STATUS Fld.PMU_STATUS_CLK_FALLBACK = true := by
      unfold shown
      simp (disch := decide) only [State.flag_bump_other, State.flag_setFld_disjoint]
      exact State.flag_setFld_one _ _ ⟨rfl, by decide⟩
    have hrest : s.onlyParts shown [.regs] := (((s.onlyParts_refl [.regs]).setFld _ _ _).setFld _ _ _).bump _
    have hclk : shown.clk = s.clk := hrest.clk_eq (by decide)
    clear_value shown
    refine ⟨fun _ => ⟨congrArg (fun c : Clock => { c with running := false }) hclk, rfl, hflag⟩, ?_⟩
    exact ((State.onlyParts_mono hrest (by simp)).step (shown.setPower_only _)).step
      (State.setClk_rest { shown with power := { shown.power with fallback := true } } _)

/-- PLL_MAIN or REFCLK lost: a fatal message, then the fallback. -/
theorem clockLoss_stops (s : State) :
    let t := (s.sendFault srcPmu 0x042 2 0).clkFallback
    t.fault.fatalLine.isSome = true
      ∧ (s.power.fallback = false → t.clk = { s.clk with running := false } ∧ t.power.fallback = true
          ∧ t.flag Reg.PMU_STATUS Fld.PMU_STATUS_CLK_FALLBACK = true)
      ∧ s.onlyParts t [.clk, .regs, .fault, .power] := by
  obtain ⟨hline, hsent⟩ := s.sendFault_fatal srcPmu 0x042 0
  have hpower : (s.sendFault srcPmu 0x042 2 0).power = s.power := hsent.2 .power (by decide)
  have hclk : (s.sendFault srcPmu 0x042 2 0).clk = s.clk := hsent.clk_eq (by decide)
  generalize s.sendFault srcPmu 0x042 2 0 = u at *
  obtain ⟨hstops, hrest⟩ := u.clkFallback_stops
  have hfault : u.clkFallback.fault = u.fault := hrest.2 .fault (by decide)
  refine ⟨by rw [hfault]; exact hline, fun hf => ?_, (State.onlyParts_mono hsent (by simp)).step hrest⟩
  have h := hstops (by rw [hpower]; exact hf)
  rwa [hclk] at h

/-- The sensors' registers take the readings in turn. -/
theorem State.readSensors_shows (l : List (BitVec 12)) (k : Nat) (s : State) :
    let t := forEach (l.zipIdx k) (fun x t => t.setFld (Reg.PMU_TEMP x.2) Fld.PMU_TEMP_TEMP x.1.toNat) s
    (∀ i (x : BitVec 12), l[i]? = some x → t.fld (Reg.PMU_TEMP (k + i)) Fld.PMU_TEMP_TEMP = x.toNat)
      ∧ (∀ b, (∀ i < l.length, b ≠ Reg.PMU_TEMP (k + i)) → t.reg b = s.reg b) := by
  induction l generalizing k s with
  | nil => exact ⟨fun i x hx => by simp at hx, fun _ _ => rfl⟩
  | cons y r ih =>
    obtain ⟨hset, hother⟩ := ih (k + 1) (s.setFld (Reg.PMU_TEMP k) Fld.PMU_TEMP_TEMP y.toNat)
    refine ⟨fun i x hx => ?_, fun b hb => ?_⟩
    · cases i with
      | zero =>
        obtain rfl : y = x := by simpa using hx
        have hfirst := hother (Reg.PMU_TEMP k) fun i _ => by simp only [Reg.PMU_TEMP]; omega
        exact (State.fld_of_reg hfirst _).trans (State.fld_setFld_fits _ _ (by decide) y.isLt)
      | succ i =>
        have h := hset i x (by simpa using hx)
        rwa [Nat.add_assoc, Nat.add_comm 1 i] at h
    · have hrest := hother b fun i hi => by
        have := hb (i + 1) (by simpa using hi)
        rwa [Nat.add_comm i 1, ← Nat.add_assoc] at this
      exact hrest.trans (State.reg_setFld_other _ _ _ (hb 0 (by simp)))

theorem State.readSensors_rest (l : List (BitVec 12 × Nat)) (s : State) :
    s.onlyParts (forEach l (fun x t => t.setFld (Reg.PMU_TEMP x.2) Fld.PMU_TEMP_TEMP x.1.toNat) s) [.regs] :=
  forEach_onlyParts (fun _ t => t.setFld_rest _ _ _) _ _

/-- What PMU.THERM holds once a reading is taken into its maximum. -/
theorem State.maxTemp_ge (s : State) (top : Nat) :
    s.fld Reg.PMU_THERM Fld.PMU_THERM_MAX_C
      ≤ (s.setFld Reg.PMU_THERM Fld.PMU_THERM_MAX_C (max (s.fld Reg.PMU_THERM Fld.PMU_THERM_MAX_C) (min 255 top))).fld Reg.PMU_THERM
        Fld.PMU_THERM_MAX_C := by
  have hold : s.fld Reg.PMU_THERM Fld.PMU_THERM_MAX_C < 2 ^ 8 := Nat.mod_lt _ (by decide)
  rw [State.fld_setFld_fits _ _ (by decide) (show _ < 2 ^ 8 by omega)]
  exact Nat.le_max_left _ _

/-- All sixteen sensors are read. -/
theorem tempSample_reads (s : State) {l : List (BitVec 12)} (h : l.length = 16) :
    (∀ i (x : BitVec 12), l[i]? = some x → (tempSample l s).fld (Reg.PMU_TEMP i) Fld.PMU_TEMP_TEMP = x.toNat)
      ∧ s.fld Reg.PMU_THERM Fld.PMU_THERM_MAX_C ≤ (tempSample l s).fld Reg.PMU_THERM Fld.PMU_THERM_MAX_C
      ∧ (s.fault.stopped = false →
          (∃ x ∈ l, ((4 * s.fld Reg.PMU_THERM Fld.PMU_THERM_TRIP_C : Nat) : Int) ≤ tempOf x.toNat) →
          (tempSample l s).fault.fatalLine.isSome = true)
      ∧ s.onlyParts (tempSample l s) [.regs, .fault] := by
  unfold tempSample
  rw [List.take_of_length_le (le_of_eq h)]
  extract_lets a warn trip _ reached top read raised warned
  obtain ⟨hread, hother⟩ := State.readSensors_shows l 0 s
  have hparts : s.onlyParts read [.regs] := State.readSensors_rest _ s
  have hfar (b : Nat) (hb : ∀ i < 16, b ≠ Reg.PMU_TEMP i) : read.reg b = s.reg b :=
    hother b fun i hi => by rw [Nat.zero_add]; exact hb i (h ▸ hi)
  have htherm : read.reg Reg.PMU_THERM = s.reg Reg.PMU_THERM := hfar _ (by decide)
  replace hread (i : Nat) (x : BitVec 12) (hx : l[i]? = some x) : read.fld (Reg.PMU_TEMP i) Fld.PMU_TEMP_TEMP = x.toNat := by
    have := hread i x hx
    rwa [Nat.zero_add] at this
  clear_value read
  have hraised : read.within raised {Reg.PMU_THERM} [.regs] := read.setFld_within (Set.mem_singleton _) _ _
  have hmax : s.fld Reg.PMU_THERM Fld.PMU_THERM_MAX_C ≤ raised.fld Reg.PMU_THERM Fld.PMU_THERM_MAX_C :=
    (State.fld_of_reg htherm _).symm.le.trans (read.maxTemp_ge top.toNat)
  have hwarned : raised.within warned {b | b ∈ [Reg.PMU_STATUS, Reg.PMU_CNT Cnt.PMU_TEMP_WARNS]} [.regs] := by
    unfold warned
    split
    · exact ((State.within.refl raised _ _).setFld _ _ _).bump _
    · exact .refl raised _ _
  have hmaxWarned : s.fld Reg.PMU_THERM Fld.PMU_THERM_MAX_C ≤ warned.fld Reg.PMU_THERM Fld.PMU_THERM_MAX_C := by
    rw [hwarned.fld_kept Reg.PMU_THERM]
    exact hmax
  have hreadWarned (i : Nat) (x : BitVec 12) (hx : l[i]? = some x) : warned.fld (Reg.PMU_TEMP i) Fld.PMU_TEMP_TEMP = x.toNat := by
    have hi : i < 16 := h ▸ (List.getElem?_eq_some_iff.1 hx).1
    rw [hwarned.fld_kept _ _ (by simp only [Reg.PMU_TEMP, Reg.PMU_STATUS, Reg.PMU_CNT, Cnt.PMU_TEMP_WARNS,
        List.mem_cons, List.not_mem_nil, or_false]; omega),
      hraised.fld_eq (by simp only [Reg.PMU_TEMP, Reg.PMU_THERM, Set.mem_singleton_iff]; omega)]
    exact hread i x hx
  have hrest : s.onlyParts warned [.regs, .fault] :=
    ((State.onlyParts_mono hparts (by simp)).step hraised.2).step hwarned.2
  have hstopped : warned.fault = s.fault := ((hparts.step hraised.2).step hwarned.2).2 .fault (by decide)
  clear_value warned
  split
  · next hnone =>
    refine ⟨hreadWarned, hmaxWarned, fun _ ⟨x, hx, htrip⟩ => ?_, hrest⟩
    obtain ⟨i, hi⟩ := List.mem_iff_getElem?.1 hx
    have := List.find?_eq_none.1 hnone (x, i) (List.mk_mem_zipIdx_iff_getElem?.2 hi)
    exact absurd (decide_eq_true htrip) this
  · split
    · next hstop => exact ⟨hreadWarned, hmaxWarned, fun hrun => absurd (hstopped ▸ hstop) (by rw [hrun]; decide), hrest⟩
    · obtain ⟨hline, hsent⟩ := warned.sendFault_fatal srcPmu 0x043 _
      refine ⟨fun i x hx => ?_, ?_, fun _ _ => hline, hrest.step hsent⟩
      · rw [State.fld_of_reg (hsent.reg_eq (by decide) _)]
        exact hreadWarned i x hx
      · rw [State.fld_of_reg (hsent.reg_eq (by decide) _)]
        exact hmaxWarned

/-- PLL_DRAM lost outside a frequency change. -/
theorem pllDramUnlock_shows {s : State} (d : Nat) (h : s.dram.freq = .idle) :
    (pllUnlock 1 d s).flag Reg.PMU_STATUS Fld.PMU_STATUS_DRAM_LOCK = false ∧ (pllUnlock 1 d s).fault.fatalLine.isSome = true
      ∧ s.within (pllUnlock 1 d s) {a | a ∈ [Reg.PMU_STATUS]} [.regs, .fault] := by
  have hexec : pllUnlock 1 d s = (s.setFld Reg.PMU_STATUS Fld.PMU_STATUS_DRAM_LOCK 0).sendFault srcPmu 0x042 2 1 := by
    simp [pllUnlock, h]
  obtain ⟨hline, hsent⟩ := (s.setFld Reg.PMU_STATUS Fld.PMU_STATUS_DRAM_LOCK 0).sendFault_fatal srcPmu 0x042 1
  rw [hexec]
  exact ⟨(State.flag_of_reg (hsent.reg_eq (by decide) _) _).trans (State.flag_setFld_zero _ _ ⟨rfl, by decide⟩), hline,
    ((State.within.refl s _ _).setFld _ _ _).rest hsent⟩

/-- A supply outside its window for 2 µs. -/
theorem supplyFault_shows {s : State} (r d us mv : Nat) (hus : 2 ≤ us) (hmask : s.monitorMasked d = false) (hd : d < 80) :
    (supplyFault r d us mv s).flag (Reg.PMU_RAIL r) Fld.PMU_RAIL_GOOD = false
      ∧ (supplyFault r d us mv s).fault.fatalLine.isSome = true
      ∧ s.within (supplyFault r d us mv s) {a | a ∈ [Reg.PMU_RAIL r]} [.regs, .fault] := by
  unfold supplyFault
  extract_lets rail
  have hbad : rail.flag (Reg.PMU_RAIL r) Fld.PMU_RAIL_GOOD = false :=
    (State.flag_setFld_disjoint _ _ _ (by decide)).trans (State.flag_setFld_zero _ _ ⟨rfl, by decide⟩)
  have hrest : s.within rail {a | a ∈ [Reg.PMU_RAIL r]} [.regs, .fault] := ((State.within.refl s _ _).setFld _ _ _).setFld _ _ _
  have hstill : rail.monitorMasked d = false := by
    rw [← hmask]
    have hdom : rail.dom d = s.dom d := hrest.fld_kept _ _ (by
      simp only [Reg.PMU_PD_STATE, Reg.PMU_RAIL, List.mem_singleton]; omega)
    rw [State.monitorMasked, State.monitorMasked, hdom]
  clear_value rail
  rw [if_neg (by simp only [hstill]; simp; omega)]
  obtain ⟨hline, hsent⟩ := rail.sendFault_fatal srcPmu 0x044 d
  exact ⟨(State.flag_of_reg (hsent.reg_eq (by decide) _) _).trans hbad, hline, hrest.rest hsent⟩

/-- Settles O46. -/
theorem powerMonitors : Obligations.PowerMonitors := by
  refine ⟨fun s c hc => ?_, fun s d hidle => ?_, fun s r d us mv hus hmask => ?_, fun s l hl => ?_⟩
  · obtain ⟨hline, hstops, hrest⟩ := clockLoss_stops s
    have hexec : exec c s = doneClk s (s.sendFault srcPmu 0x042 2 0).clkFallback := by
      obtain ⟨d, rfl⟩ | rfl := hc <;> rfl
    exact ⟨_, hexec.trans (doneClk_eq_next hrest.1), hline, hstops, hrest⟩
  · obtain ⟨hlock, hline, hrest⟩ := pllDramUnlock_shows d.val hidle
    exact ⟨_, doneClk_eq_next hrest.2.1, hlock, hline, hrest.listed rfl, hrest.2⟩
  · obtain ⟨hgood, hline, hrest⟩ := supplyFault_shows r.val d.val us mv hus hmask d.isLt
    exact ⟨_, done_eq_next hrest.2 (by decide), hgood, hline, hrest.listed rfl, hrest.2⟩
  · obtain ⟨hread, hmax, hline, hrest⟩ := tempSample_reads s hl
    exact ⟨_, done_eq_next hrest (by decide), hread, hmax, hline, hrest⟩

end Sys2Proof.Machine
end

section
/-! PROOF. The control complexes: heartbeats, silence, take-over, switch-over, automatic restart (R405 to R413). -/

namespace Sys2Proof.Machine

set_option Elab.async false

/-! ### The active complex and its claim -/

theorem State.activeCc_lt (s : State) : s.activeCc < 2 := Nat.mod_lt _ (by decide)

theorem State.claim_lt (s : State) (x : Nat) : s.claim x < 4294967296 := Nat.mod_lt _ (by decide)

theorem State.unitState_of_reg {s t : State} {u : Nat} (h : t.reg (Reg.FLT_UNIT u) = s.reg (Reg.FLT_UNIT u)) :
    t.unitState u = s.unitState u := State.fld_of_reg h _

theorem State.activeCc_of_reg {s t : State} (h : t.reg Reg.CCX_STATUS = s.reg Reg.CCX_STATUS) : t.activeCc = s.activeCc :=
  State.fld_of_reg h _

/-- A unit's register lies in the fault collector's range. -/
theorem fltUnit_range {u : Nat} (h : u < 315) : 0x20400 ≤ Reg.FLT_UNIT u ∧ Reg.FLT_UNIT u < 0x21000 := by
  simp only [Reg.FLT_UNIT]
  omega

/-- The claim registers lie in block CCX. -/
theorem claimReg_range (x : Nat) : 0x70000 ≤ claimReg x ∧ claimReg x < 0x70028 := by
  obtain h | h := claimReg_cases x <;> rw [h] <;> decide

/-- The registers that a raise of complex x's claim moves. -/
def raiseRegs (x : Nat) : List Nat := [claimReg x, Reg.CCX_TAKEOVERS]

/-- The state after a raise (R410). -/
def State.claimRaised (s : State) (x c : Nat) : State :=
  (s.setClaim x c).setFld Reg.CCX_TAKEOVERS Fld.CCX_TAKEOVERS_COUNT (s.fld Reg.CCX_TAKEOVERS Fld.CCX_TAKEOVERS_COUNT + 1)

theorem State.claimRaised_within (s : State) (x c : Nat) : s.within (s.claimRaised x c) {b | b ∈ raiseRegs x} [.regs] :=
  ((State.within.refl s _ _).setFld _ _ _ (by simp [raiseRegs])).setFld _ _ _ (by simp [raiseRegs])

/-- A raise within the limit is counted, and moves one claim. -/
theorem State.claimRaised_shows {s : State} {x : Nat} (c : Nat) (hx : x < 2)
    (hlimit : s.fld Reg.CCX_TAKEOVERS Fld.CCX_TAKEOVERS_COUNT < s.fld Reg.CCX_CFG Fld.CCX_CFG_TAKEOVER_LIMIT) :
    (s.claimRaised x c).claim x = c % 4294967296 ∧ (s.claimRaised x c).claim (1 - x) = s.claim (1 - x)
      ∧ (s.claimRaised x c).fld Reg.CCX_TAKEOVERS Fld.CCX_TAKEOVERS_COUNT = s.fld Reg.CCX_TAKEOVERS Fld.CCX_TAKEOVERS_COUNT + 1 := by
  have hfits : s.fld Reg.CCX_CFG Fld.CCX_CFG_TAKEOVER_LIMIT < 2 ^ 8 := Nat.mod_lt _ (by decide)
  have hcount : ∀ y, claimReg y ≠ Reg.CCX_TAKEOVERS := fun y h => by
    have := claimReg_range y
    rw [h] at this
    exact absurd this (by decide)
  refine ⟨?_, ?_, State.fld_setFld_fits _ _ (by decide) (show _ < 2 ^ 8 by omega)⟩
  · exact (State.claim_of_reg (State.reg_setFld_other _ _ _ (hcount x))).trans (s.claim_setClaim_self x c)
  · exact (State.claim_of_reg (State.reg_setFld_other _ _ _ (hcount _))).trans
      (s.claim_setClaim_other hx (by omega) (by omega) c)

/-- The standby's raise above the active claim is made: its partner's claim, as the Hasp stages take it, stays below. -/
theorem State.raiseClaim_raises {s : State} {a : Nat} (ha : a < 2)
    (hlimit : s.fld Reg.CCX_TAKEOVERS Fld.CCX_TAKEOVERS_COUNT < s.fld Reg.CCX_CFG Fld.CCX_CFG_TAKEOVER_LIMIT) :
    s.raiseClaim (1 - a) (s.claim a + 1) = (true, s.claimRaised (1 - a) (s.claim a + 1)) := by
  have hpartner : 1 - (1 - a) = a := by omega
  obtain ⟨-, hold, -⟩ := State.claimRaised_shows (s.claim a + 1) (x := 1 - a) (by omega) hlimit
  rw [hpartner] at hold
  have hbelow : ¬(s.claimRaised (1 - a) (s.claim a + 1)).haspClaim (1 - (1 - a)) = s.claim a + 1 := by
    rw [hpartner, State.haspClaim, hold]
    split <;> omega
  unfold State.raiseClaim
  dsimp only
  rw [if_neg (by omega)]
  exact if_neg hbelow

/-! ### The services move (R372, R245) -/

theorem State.servicesMove_within (s : State) : s.within s.servicesMove lopStatusRegs [.regs, .lop, .exporter] := by
  unfold State.servicesMove
  extract_lets ended
  have hended := s.lopAbortAll_within (fun t i => !t.lopByDmc i) lopTakeover
  exact (hended.parts (by simp)).trans (((ended.setExporter_only _).within (by decide) _).parts (by simp))

/-! ### A complex found silent (R411) -/

theorem State.sendFault_within (s : State) (src kind cls addr : Nat) :
    s.within (s.sendFault src kind cls addr) {b | b ∈ [Reg.FLT_CNT Cnt.FLT_SRC_OVF_LOST]} [.regs, .fault] :=
  ⟨s.sendFault_regs src kind cls addr, s.sendFault_rest src kind cls addr⟩

theorem State.openWindow_within (s : State) (u : Nat) :
    s.within (s.openWindow u) {b | b ∈ [Reg.FLT_UNIT u, Reg.FLT_CNT Cnt.FLT_FENCES]} [.regs, .fault] :=
  ⟨s.openWindow_regs u, s.openWindow_rest u⟩

/-- A window opened is counted. -/
theorem State.openWindow_counts (s : State) {u : Nat} (hu : u < 315) :
    (s.openWindow u).reg (Reg.FLT_CNT Cnt.FLT_FENCES) = s.reg (Reg.FLT_CNT Cnt.FLT_FENCES) + 1 := by
  have hother : Reg.FLT_CNT Cnt.FLT_FENCES ≠ Reg.FLT_UNIT u := by simp only [Reg.FLT_CNT, Cnt.FLT_FENCES, Reg.FLT_UNIT]; omega
  unfold State.openWindow
  extract_lets opened _ timed
  refine (State.reg_bump_self _ _).trans (congrArg (· + 1) ?_)
  exact s.reg_setFld_other _ _ hother

/-- The registers that HB_LOST of complex x moves. -/
def hbLostRegs (x : Nat) : List Nat :=
  [Reg.FLT_UNIT (unitComplex x), Reg.FLT_CNT Cnt.FLT_FENCES, Reg.FLT_CNT Cnt.FLT_SRC_OVF_LOST]

/-- A silent complex that is in service is fenced, which is counted. -/
theorem State.hbLost_fences {s : State} {x : Nat} (hx : x < 2) (hup : s.down (unitComplex x) = false) :
    (s.hbLost x).unitState (unitComplex x) = 1
      ∧ (s.hbLost x).reg (Reg.FLT_CNT Cnt.FLT_FENCES) = s.reg (Reg.FLT_CNT Cnt.FLT_FENCES) + 1
      ∧ s.within (s.hbLost x) {b | b ∈ hbLostRegs x} [.regs, .fault, .free] := by
  have hu : unitComplex x < 315 := by unfold unitComplex; omega
  unfold State.hbLost
  rw [if_neg (by rw [hup]; exact Bool.false_ne_true)]
  extract_lets d
  have hdraw := (State.within.refl s {b | b ∈ hbLostRegs x} [.regs, .fault, .free]).rest s.draw_rest
  have hdrawn : d.2.reg (Reg.FLT_CNT Cnt.FLT_FENCES) = s.reg (Reg.FLT_CNT Cnt.FLT_FENCES) := s.draw_rest.reg_eq (by decide) _
  have hsent := d.2.sendFault_within (srcComplex x) 0x082 1 d.1.toNat
  refine ⟨State.openWindow_unitState _ hu, ?_, (hdraw.step hsent (by simp [hbLostRegs])).step (State.openWindow_within _ _) ?_⟩
  · rw [State.openWindow_counts _ hu, hsent.reg_kept (Reg.FLT_CNT Cnt.FLT_FENCES), hdrawn]
  · intro b hb
    simp only [Set.mem_ofPred_eq, hbLostRegs, List.mem_cons, List.not_mem_nil, or_false] at hb ⊢
    omega

/-- Silent or already fenced, it is down. -/
theorem State.hbLost_down (s : State) {x : Nat} (hx : x < 2) :
    (s.hbLost x).down (unitComplex x) = true ∧ s.within (s.hbLost x) {b | b ∈ hbLostRegs x} [.regs, .fault, .free] := by
  cases hup : s.down (unitComplex x) with
  | true =>
    rw [State.hbLost, if_pos hup]
    exact ⟨hup, .refl s _ _⟩
  | false =>
    obtain ⟨hstate, -, hrest⟩ := State.hbLost_fences hx hup
    exact ⟨by rw [State.down, hstate]; rfl, hrest⟩

/-! ### Take-over (R411) -/

/-- The state with complex x shown as the active one. -/
def State.shownActive (s : State) (x : Nat) : State :=
  (s.setFld Reg.CCX_STATUS Fld.CCX_STATUS_ACTIVE x).setFld Reg.CCX_STATUS Fld.CCX_STATUS_TAKEOVER_SEEN 1

theorem State.shownActive_shows (s : State) {x : Nat} (hx : x < 2) :
    (s.shownActive x).activeCc = x ∧ (s.shownActive x).flag Reg.CCX_STATUS Fld.CCX_STATUS_TAKEOVER_SEEN = true
      ∧ s.within (s.shownActive x) {b | b ∈ [Reg.CCX_STATUS]} [.regs] := by
  refine ⟨?_, State.flag_setFld_one _ _ ⟨rfl, by decide⟩, ((State.within.refl s _ _).setFld _ _ _).setFld _ _ _⟩
  exact (State.fld_setFld_disjoint _ _ _ (by decide)).trans (State.fld_setFld_fits _ _ (by decide) hx)

/-- The registers that the end of a change of the active complex moves: status words of long operations, and counters of block CCX. -/
def handoverRegs : Set Nat := {a | 0x50000 ≤ a ∧ a < 0x51000 ∨ 0x70100 ≤ a ∧ a < 0x70200}

/-- The count of the change, then the services move. -/
theorem State.handover_within (s : State) {k : Nat} (hk : k < 32) :
    s.within (s.ccxBump k).servicesMove handoverRegs [.regs, .lop, .exporter] := by
  have hcount : s.within (s.ccxBump k) handoverRegs [.regs] :=
    s.bump_within (Or.inr (by simp only [Reg.CCX_CNT]; omega))
  exact (hcount.parts (by simp)).step (State.servicesMove_within _) (fun a ha => Or.inl (lopStatusRegs_range ha))

theorem State.handover_counts (s : State) (k : Nat) :
    (s.ccxBump k).servicesMove.reg (Reg.CCX_CNT k) = s.reg (Reg.CCX_CNT k) + 1 :=
  ((State.servicesMove_within _).1 _ (not_mem_lopStatusRegs (by simp only [Reg.CCX_CNT]; omega))).trans (s.reg_bump_self _)

/-- The counter of a take-over. -/
def takeoverCnt (hb : Bool) : Nat := if hb then Cnt.CCX_TAKEOVERS_HB else Cnt.CCX_TAKEOVERS_FENCE

/-- The standby takes over from complex a: its raise, the fence of a, the change shown and counted, the journal's entry. -/
theorem State.takeover_eq {s : State} {a : Nat} (ha : a = s.activeCc) (hup : s.ccUp (1 - a) = true)
    (hlimit : s.fld Reg.CCX_TAKEOVERS Fld.CCX_TAKEOVERS_COUNT < s.fld Reg.CCX_CFG Fld.CCX_CFG_TAKEOVER_LIMIT) (hb : Bool) :
    s.takeover hb = (((((s.claimRaised (1 - a) (s.claim a + 1)).hbLost a).shownActive (1 - a)).ccxBump
      (takeoverCnt hb)).servicesMove).jnlQueue (.event .takeover) := by
  unfold State.takeover
  rw [← ha]
  dsimp only
  rw [if_neg (by simp [hup]), State.raiseClaim_raises (ha ▸ s.activeCc_lt) hlimit, if_neg (by simp)]
  rfl

/-- What a take-over from complex a leaves. -/
theorem State.takeover_moves {s : State} {a : Nat} (ha : a = s.activeCc) (hup : s.ccUp (1 - a) = true)
    (hlimit : s.fld Reg.CCX_TAKEOVERS Fld.CCX_TAKEOVERS_COUNT < s.fld Reg.CCX_CFG Fld.CCX_CFG_TAKEOVER_LIMIT) (hb : Bool) :
    (s.takeover hb).activeCc = 1 - a ∧ (s.takeover hb).claim (1 - a) = (s.claim a + 1) % 4294967296
      ∧ (s.takeover hb).down (unitComplex a) = true
      ∧ (s.takeover hb).flag Reg.CCX_STATUS Fld.CCX_STATUS_TAKEOVER_SEEN = true
      ∧ (s.takeover hb).fld Reg.CCX_TAKEOVERS Fld.CCX_TAKEOVERS_COUNT = s.fld Reg.CCX_TAKEOVERS Fld.CCX_TAKEOVERS_COUNT + 1
      ∧ s.onlyParts (s.takeover hb) [.regs, .fault, .free, .cast, .lop, .exporter] := by
  have hlt : a < 2 := ha ▸ s.activeCc_lt
  have hunit := fltUnit_range (u := unitComplex a) (by unfold unitComplex; omega)
  have hclaimReg := claimReg_range (1 - a)
  obtain ⟨hclaim, -, hcount⟩ := State.claimRaised_shows (s.claim a + 1) (x := 1 - a) (by omega) hlimit
  have hraised := s.claimRaised_within (1 - a) (s.claim a + 1)
  rw [State.takeover_eq ha hup hlimit]
  generalize s.claimRaised (1 - a) (s.claim a + 1) = raised at *
  obtain ⟨hdown, hlost⟩ := raised.hbLost_down hlt
  have hlostFar (b : Nat) (hb : 0x70000 ≤ b) : (raised.hbLost a).reg b = raised.reg b := hlost.1 b (by
    simp only [hbLostRegs, Reg.FLT_CNT, Cnt.FLT_FENCES, Cnt.FLT_SRC_OVF_LOST, Set.mem_ofPred_eq, List.mem_cons, List.not_mem_nil,
      or_false]
    omega)
  generalize raised.hbLost a = lost at *
  obtain ⟨hactive, hseen, hshown⟩ := lost.shownActive_shows (x := 1 - a) (by omega)
  have hshownFar (b : Nat) (hb : b ≠ Reg.CCX_STATUS) : (lost.shownActive (1 - a)).reg b = lost.reg b :=
    hshown.reg_kept b (by simpa using hb)
  generalize lost.shownActive (1 - a) = shown at *
  have hmoved := shown.handover_within (k := takeoverCnt hb) (by cases hb <;> decide)
  generalize (shown.ccxBump (takeoverCnt hb)).servicesMove = moved at *
  have hqueued := moved.jnlQueue_only (.event .takeover)
  have hend (b : Nat) (hb : b < 0x50000 ∨ 0x51000 ≤ b ∧ b < 0x70100) : (moved.jnlQueue (.event .takeover)).reg b = shown.reg b :=
    (hqueued.reg_eq (by decide) b).trans (hmoved.1 b (by simp only [handoverRegs, Set.mem_ofPred_eq]; omega))
  generalize moved.jnlQueue (.event .takeover) = t at *
  have hstatus := hend Reg.CCX_STATUS (by decide)
  refine ⟨(State.activeCc_of_reg hstatus).trans hactive, ?_, ?_, (State.flag_of_reg hstatus _).trans hseen, ?_, ?_⟩
  · rw [← hclaim]
    refine State.claim_of_reg ((hend _ (by omega)).trans ((hshownFar _ ?_).trans (hlostFar _ hclaimReg.1)))
    obtain h | h := claimReg_cases (1 - a) <;> rw [h] <;> decide
  · rw [State.down, State.unitState_of_reg ((hend _ (by omega)).trans (hshownFar _ fun h => by rw [h] at hunit; simp [Reg.CCX_STATUS] at hunit))]
    exact hdown
  · rw [← hcount]
    exact State.fld_of_reg ((hend _ (by decide)).trans ((hshownFar _ (by decide)).trans (hlostFar _ (by decide)))) _
  · have hmono {u v : State} {l : List Part} (h : u.onlyParts v l) (hl : ∀ p ∈ l, p ∈ [Part.regs, .fault, .free, .cast, .lop, .exporter]) :=
      State.onlyParts_mono h hl
    exact ((((hmono hraised.2 (by decide)).step hlost.2).step hshown.2).step hmoved.2).step hqueued

/-! ### Switch-over (R412) -/

/-- SWITCH with the standby in service: the raise, the change shown and counted. -/
theorem switchOver_eq {s : State} {a : Nat} (ha : a = s.activeCc) (hup : s.ccUp (1 - a) = true) (hwriting : s.imageWriting = false)
    (hlimit : s.fld Reg.CCX_TAKEOVERS Fld.CCX_TAKEOVERS_COUNT < s.fld Reg.CCX_CFG Fld.CCX_CFG_TAKEOVER_LIMIT) :
    switchOver s = (((s.claimRaised (1 - a) (s.claim a + 1)).shownActive (1 - a)).ccxBump Cnt.CCX_SWITCHES).servicesMove := by
  unfold switchOver
  rw [← ha]
  dsimp only
  rw [if_neg (by simp [hup, hwriting]), State.raiseClaim_raises (ha ▸ s.activeCc_lt) hlimit, if_neg (by simp)]
  rfl

theorem switchOver_moves {s : State} {a : Nat} (ha : a = s.activeCc) (hup : s.ccUp (1 - a) = true) (hwriting : s.imageWriting = false)
    (hlimit : s.fld Reg.CCX_TAKEOVERS Fld.CCX_TAKEOVERS_COUNT < s.fld Reg.CCX_CFG Fld.CCX_CFG_TAKEOVER_LIMIT) :
    (switchOver s).activeCc = 1 - a ∧ (switchOver s).claim (1 - a) = (s.claim a + 1) % 4294967296
      ∧ (switchOver s).claim a = s.claim a ∧ (∀ u, u < 315 → (switchOver s).unitState u = s.unitState u)
      ∧ (switchOver s).reg (Reg.CCX_CNT Cnt.CCX_SWITCHES) = s.reg (Reg.CCX_CNT Cnt.CCX_SWITCHES) + 1
      ∧ s.onlyParts (switchOver s) [.regs, .lop, .exporter] := by
  have hlt : a < 2 := ha ▸ s.activeCc_lt
  have hpartner : 1 - (1 - a) = a := by omega
  obtain ⟨hclaim, hold, -⟩ := State.claimRaised_shows (s.claim a + 1) (x := 1 - a) (by omega) hlimit
  rw [hpartner] at hold
  have hraised := s.claimRaised_within (1 - a) (s.claim a + 1)
  have hraisedFar (b : Nat) (hb : b < 0x70000 ∨ 0x70038 ≤ b) : (s.claimRaised (1 - a) (s.claim a + 1)).reg b = s.reg b :=
    hraised.1 b (by
      have := claimReg_range (1 - a)
      simp only [raiseRegs, Reg.CCX_TAKEOVERS, Set.mem_ofPred_eq, List.mem_cons, List.not_mem_nil, or_false]
      omega)
  rw [switchOver_eq ha hup hwriting hlimit]
  generalize s.claimRaised (1 - a) (s.claim a + 1) = raised at *
  obtain ⟨hactive, -, hshown⟩ := raised.shownActive_shows (x := 1 - a) (by omega)
  have hshownFar (b : Nat) (hb : b ≠ Reg.CCX_STATUS) : (raised.shownActive (1 - a)).reg b = raised.reg b :=
    hshown.reg_kept b (by simpa using hb)
  generalize raised.shownActive (1 - a) = shown at *
  have hcount := shown.handover_counts Cnt.CCX_SWITCHES
  have hmoved := shown.handover_within (k := Cnt.CCX_SWITCHES) (by decide)
  have hend (b : Nat) (hb : b < 0x50000 ∨ 0x51000 ≤ b ∧ b < 0x70100) :
      (shown.ccxBump Cnt.CCX_SWITCHES).servicesMove.reg b = shown.reg b :=
    hmoved.1 b (by simp only [handoverRegs, Set.mem_ofPred_eq]; omega)
  generalize (shown.ccxBump Cnt.CCX_SWITCHES).servicesMove = t at *
  have hkept (x : Nat) : t.claim x = raised.claim x := by
    have := claimReg_range x
    refine State.claim_of_reg ((hend _ (by omega)).trans (hshownFar _ ?_))
    obtain h | h := claimReg_cases x <;> rw [h] <;> decide
  refine ⟨(State.activeCc_of_reg (hend _ (by decide))).trans hactive, (hkept _).trans hclaim, (hkept _).trans hold, fun u hu => ?_, ?_, ?_⟩
  · have := fltUnit_range hu
    exact State.unitState_of_reg ((hend _ (by omega)).trans ((hshownFar _ fun h => by
      rw [h] at this; simp [Reg.CCX_STATUS] at this).trans (hraisedFar _ (by omega))))
  · rw [hcount, hshownFar _ (by decide), hraisedFar _ (by decide)]
  · exact ((State.onlyParts_mono hraised.2 (by decide)).step hshown.2).step hmoved.2

/-- Settles O56. -/
theorem switchOverRaisesWithoutFence : Obligations.SwitchOver := by
  refine ⟨fun s a ha hup hwriting hlimit => ?_, fun s hbar => ?_⟩
  · obtain ⟨hactive, hclaim, hold, hunits, hcount, hrest⟩ := switchOver_moves ha hup hwriting hlimit
    exact ⟨_, done_eq_next hrest (by decide), hactive, hclaim, hold, hunits, hrest.2 .fault (by decide), hcount, hrest⟩
  · have hexec : switchOver s = s.setFld Reg.CCX_STATUS Fld.CCX_STATUS_SWITCH_ERR 1 := if_pos (by simpa using hbar)
    exact ⟨_, (congrArg (done s) hexec).trans (done_eq_next (s.setFld_rest _ _ _) (by decide)),
      State.flag_setFld_one _ _ ⟨rfl, by decide⟩, s.onlyRegs_setFld _ _ _, s.setFld_rest _ _ _⟩

end Sys2Proof.Machine
end

section
/-! PROOF. Heartbeats of the complexes, what their silence does, and automatic restart (R407, R411, R413). -/

namespace Sys2Proof.Machine

set_option Elab.async false

/-- A heartbeat due is noted as sent and heard. -/
theorem ccHeartbeat_notes {s : State} {x p : Nat} (hup : s.ccUp x = true) (hdue : Tbl.get none s.ccx.sent (hbKey x p) = none) :
    Tbl.get none (ccHeartbeat x p s).ccx.heard (hbKey x p) = some s.clk.mono
      ∧ Tbl.get none (ccHeartbeat x p s).ccx.sent (hbKey x p) = some s.clk.mono ∧ s.onlyParts (ccHeartbeat x p s) [.ccx] := by
  unfold ccHeartbeat
  dsimp only
  rw [hdue, if_neg (by simp [hup])]
  exact ⟨by simp, by simp, s.setCcx_only _⟩

/-- One silent path is told and counted. -/
theorem State.hbPath_tells {s : State} {x p : Nat} (h : Tbl.get false s.ccx.told (hbKey x p) = false) :
    Tbl.get false (s.hbPath x p).ccx.told (hbKey x p) = true
      ∧ (s.hbPath x p).reg (Reg.CCX_CNT Cnt.CCX_HB_PATH_FAULTS) = s.reg (Reg.CCX_CNT Cnt.CCX_HB_PATH_FAULTS) + 1
      ∧ s.onlyParts (s.hbPath x p) [.regs, .fault, .ccx] := by
  unfold State.hbPath
  dsimp only
  rw [if_neg (by rw [h]; exact Bool.false_ne_true)]
  have hdetect := (s.ccxBump Cnt.CCX_HB_PATH_FAULTS).detect_collector (srcComplex (1 - x)) 0x081 0 p
  have hcount := (hdetect.1 (Reg.CCX_CNT Cnt.CCX_HB_PATH_FAULTS) (by simp only [mem_collectorRegs, Reg.CCX_CNT]; omega)).trans (s.reg_bump_self _)
  have hrest : s.onlyParts _ [.regs, .fault, .ccx] := ((s.onlyParts_refl _).bump _).step hdetect.2
  generalize (s.ccxBump Cnt.CCX_HB_PATH_FAULTS).detect (srcComplex (1 - x)) 0x081 0 p = t at *
  exact ⟨by simp, hcount, hrest.step (t.setCcx_only _)⟩

/-- A complex in service is up. -/
theorem State.ccUp_up {s : State} {x : Nat} (h : s.ccUp x = true) : s.down (unitComplex x) = false := by
  rw [State.ccUp, Bool.and_eq_true] at h
  simpa using h.1

/-! ### The standby's return (R407, R413) -/

/-- A unit in service again. -/
theorem State.unitUp_shows (s : State) {u : Nat} :
    (s.unitUp u).unitState u = 0 ∧ s.within (s.unitUp u) {b | b ∈ [Reg.FLT_UNIT u]} [.regs, .fault] := by
  unfold State.unitUp
  extract_lets up
  have hstate : up.unitState u = 0 := (State.fld_setFld_disjoint _ _ _ (by decide)).trans (State.fld_setFld_self _ _ _ _ (by decide))
  have hup : s.within up {b | b ∈ [Reg.FLT_UNIT u]} [.regs, .fault] := ((State.within.refl s _ _).setFld _ _ _).setFld _ _ _
  clear_value up
  exact ⟨hstate, hup.rest (up.setFault_only _)⟩

/-- The complex's own part at its return. -/
theorem State.hbStart_only (s : State) (x : Nat) : s.onlyParts (s.hbStart x) [.ccx] := s.setCcx_only _

theorem State.loadFirmware_only (s : State) (x : Nat) : s.onlyParts (s.loadFirmware x) [.ccx] := s.setCcx_only _

/-- The fenced standby returned by the active complex. -/
def State.standbyReturned (s : State) (x : Nat) : State :=
  (((((s.unitUp (unitComplex x)).setClaim x (s.claim (1 - x) - 1)).hbStart x).ccxBump Cnt.CCX_RESTARTS).bump
    (Reg.FLT_CNT Cnt.FLT_REPAIRS)).loadFirmware x

/-- The standby that AUTO_RESTART may return. -/
def State.restartable (s : State) (x : Nat) : Prop :=
  x = 1 - s.activeCc ∧ s.flag Reg.CCX_CTL Fld.CCX_CTL_AUTO_RESTART = true ∧ s.serving = true ∧ s.unitState (unitComplex x) = 1

theorem autoRestart_eq {s : State} {x : Nat} (h : s.restartable x) :
    autoRestart true s = s.standbyReturned x := by
  obtain ⟨rfl, hauto, hserving, hfenced⟩ := h
  unfold autoRestart
  dsimp only
  rw [if_neg (by simp [hauto, hserving, hfenced])]
  rfl

/-- A return leaves the standby in service, one below the active claim. -/
theorem State.standbyReturned_shows (s : State) {x : Nat} (hx : x < 2) :
    (s.standbyReturned x).unitState (unitComplex x) = 0 ∧ (s.standbyReturned x).claim x = s.claim (1 - x) - 1
      ∧ (s.standbyReturned x).reg (Reg.CCX_CNT Cnt.CCX_RESTARTS) = s.reg (Reg.CCX_CNT Cnt.CCX_RESTARTS) + 1
      ∧ s.onlyParts (s.standbyReturned x) [.regs, .fault, .ccx] := by
  have hunit := fltUnit_range (u := unitComplex x) (by unfold unitComplex; omega)
  obtain ⟨hstate, hup⟩ := s.unitUp_shows (u := unitComplex x)
  have hupFar (b : Nat) (hb : 0x70000 ≤ b) : (s.unitUp (unitComplex x)).reg b = s.reg b :=
    hup.reg_kept b (by simp only [List.mem_singleton]; omega)
  unfold State.standbyReturned
  generalize s.unitUp (unitComplex x) = up at *
  have hclaim := up.claim_setClaim_self x (s.claim (1 - x) - 1)
  have hclaimed (b : Nat) (hb : b < 0x70000 ∨ 0x70028 ≤ b) : (up.setClaim x (s.claim (1 - x) - 1)).reg b = up.reg b :=
    State.reg_setFld_other _ _ _ (by have := claimReg_range x; omega)
  have hclaimedRest := up.setClaim_rest x (s.claim (1 - x) - 1)
  generalize up.setClaim x (s.claim (1 - x) - 1) = claimed at *
  have hstart := claimed.hbStart_only x
  generalize claimed.hbStart x = started at *
  have hcount : ((started.ccxBump Cnt.CCX_RESTARTS).bump (Reg.FLT_CNT Cnt.FLT_REPAIRS)).reg (Reg.CCX_CNT Cnt.CCX_RESTARTS)
      = started.reg (Reg.CCX_CNT Cnt.CCX_RESTARTS) + 1 := (State.reg_bump_other _ (by decide)).trans (started.reg_bump_self _)
  have hcounts : started.within ((started.ccxBump Cnt.CCX_RESTARTS).bump (Reg.FLT_CNT Cnt.FLT_REPAIRS))
      {b | b ∈ [Reg.CCX_CNT Cnt.CCX_RESTARTS, Reg.FLT_CNT Cnt.FLT_REPAIRS]} [.regs] := ((State.within.refl _ _ _).bump _).bump _
  generalize (started.ccxBump Cnt.CCX_RESTARTS).bump (Reg.FLT_CNT Cnt.FLT_REPAIRS) = counted at *
  have hload := counted.loadFirmware_only x
  have hfar (b : Nat) (hb : b ∉ [Reg.CCX_CNT Cnt.CCX_RESTARTS, Reg.FLT_CNT Cnt.FLT_REPAIRS]) :
      (counted.loadFirmware x).reg b = claimed.reg b :=
    (hload.reg_eq (by decide) b).trans ((hcounts.reg_kept b hb).trans (hstart.reg_eq (by decide) b))
  refine ⟨?_, ?_, ?_, ?_⟩
  · rw [← hstate]
    refine State.unitState_of_reg ((hfar _ ?_).trans (hclaimed _ (by omega)))
    simp only [Reg.CCX_CNT, Cnt.CCX_RESTARTS, Reg.FLT_CNT, Cnt.FLT_REPAIRS, List.mem_cons, List.not_mem_nil, or_false]
    omega
  · have hlt := s.claim_lt (1 - x)
    rw [Nat.mod_eq_of_lt (by omega)] at hclaim
    rw [← hclaim]
    refine State.claim_of_reg (hfar _ ?_)
    obtain h | h := claimReg_cases x <;> rw [h] <;> decide
  · rw [hload.reg_eq (by decide), hcount, hstart.reg_eq (by decide), hclaimed _ (by decide), hupFar _ (by decide)]
  · exact ((((State.onlyParts_mono hup.2 (by decide)).step hclaimedRest).step hstart).step hcounts.2).step hload

/-- A unit whose repair starts. -/
theorem State.startRepair_shows (s : State) {u : Nat} (hu : ¬(288 ≤ u ∧ u < 292)) :
    (s.startRepair u).unitState u = 2
      ∧ Tbl.get 0 (s.startRepair u).fault.timers u = s.clk.mono + msTicks (s.fld Reg.FLT_CFG Fld.FLT_CFG_REPAIR_TIMEOUT_MS)
      ∧ s.within (s.startRepair u) {b | b ∈ [Reg.FLT_UNIT u]} [.regs, .fault] := by
  unfold State.startRepair
  extract_lets due reset home
  have hhome : home = reset := if_neg hu
  have hstate : reset.unitState u = 2 := State.fld_setFld_self _ _ _ _ (by decide)
  have hreset : s.within reset {b | b ∈ [Reg.FLT_UNIT u]} [.regs, .fault] := (State.within.refl s _ _).setFld _ _ _
  clear_value home reset
  subst hhome
  exact ⟨hstate, by simp [due], hreset.rest (home.setFault_only _)⟩

/-- The standby whose reloaded firmware does not match stays in reset. -/
theorem autoRestart_resets {s : State} {x : Nat} (h : s.restartable x) :
    (autoRestart false s).unitState (unitComplex x) = 2 ∧ s.onlyParts (autoRestart false s) [.regs, .fault, .ccx] := by
  obtain ⟨rfl, hauto, hserving, hfenced⟩ := h
  unfold autoRestart
  dsimp only
  rw [if_neg (by simp [hauto, hserving, hfenced]), if_pos (by decide)]
  obtain ⟨hstate, -, hrest⟩ := s.startRepair_shows (u := unitComplex (1 - s.activeCc)) (by unfold unitComplex; omega)
  generalize s.startRepair (unitComplex (1 - s.activeCc)) = t at *
  exact ⟨hstate, (State.onlyParts_mono hrest.2 (by decide)).step (t.setCcx_only _)⟩

/-- Settles O55. -/
theorem controlComplexes : Obligations.ControlComplexes := by
  refine ⟨fun s x p hup hdue => ?_, fun s x hup hpartner hline hbus hstandby => ?_, fun s x hup hpartner hline hbus htold => ?_,
    fun s a ha hup hlimit hcause => ?_, fun s x hx hauto hserving hfenced => ?_, fun s x hx hauto hserving hfenced => ?_⟩
  · obtain ⟨hheard, hsent, hrest⟩ := ccHeartbeat_notes hup hdue
    exact ⟨_, done_eq_next hrest (by decide), hheard, hsent, hrest⟩
  · have hexec : ccHeartbeatTimeout x.val s = s.hbLost x.val := by
      rw [ccHeartbeatTimeout, if_neg (by simp [hup, hpartner]), if_pos ⟨hline, hbus⟩, if_neg hstandby]
    obtain ⟨hstate, hcount, hrest⟩ := State.hbLost_fences x.isLt (State.ccUp_up hup)
    exact ⟨_, (congrArg (done s) hexec).trans (done_eq_next hrest.2 (by decide)), hstate, hcount, hrest.2⟩
  · have hexec : ccHeartbeatTimeout x.val s = s.hbPath x.val 0 := by
      rw [ccHeartbeatTimeout, if_neg (by simp [hup, hpartner]), if_neg (by simp [hbus]), if_pos hline]
    obtain ⟨htells, hcount, hrest⟩ := State.hbPath_tells htold
    exact ⟨_, (congrArg (done s) hexec).trans (done_eq_next hrest (by decide)), htells, hcount, hrest⟩
  · obtain ⟨hb, hexec⟩ : ∃ hb, takeoverDue s = s.takeover hb := by
      unfold takeoverDue
      rw [← ha]
      dsimp only
      cases hdown : s.down (unitComplex a) with
      | true => exact ⟨false, if_pos rfl⟩
      | false => exact ⟨true, by rw [if_neg Bool.false_ne_true, if_pos (hcause.resolve_left (by simp [hdown]))]⟩
    obtain ⟨hactive, hclaim, hdown, hseen, hcount, hrest⟩ := State.takeover_moves ha hup hlimit hb
    exact ⟨_, (congrArg (done s) hexec).trans (done_eq_next hrest (by decide)), hactive, hclaim, hdown, hseen, hcount, hrest⟩
  · have hactive := s.activeCc_lt
    obtain ⟨hstate, hclaim, hcount, hrest⟩ := s.standbyReturned_shows (x := x) (by omega)
    rw [show 1 - x = s.activeCc by omega] at hclaim
    exact ⟨_, (congrArg (done s) (autoRestart_eq ⟨hx, hauto, hserving, hfenced⟩)).trans (done_eq_next hrest (by decide)), hstate, hclaim,
      hcount, hrest⟩
  · obtain ⟨hstate, hrest⟩ := autoRestart_resets ⟨hx, hauto, hserving, hfenced⟩
    exact ⟨_, done_eq_next hrest (by decide), hstate, hrest⟩

end Sys2Proof.Machine
end

section
/-! PROOF. Device memory, the buffer pools and the TM's queues (R254 to R308): what their steps leave of the host interface, of long
operations, of power, of the complexes and of the twin. -/

namespace Sys2Proof.Machine

set_option Elab.async false

/-! ### Registers and parts -/

/-- The registers outside the addresses from the host interface to the twin (R456). -/
def tierRegs : Set Nat := {a | a < 0x40000 ∨ 0x90000 ≤ a}

@[simp] theorem mem_tierRegs {a : Nat} : a ∈ tierRegs ↔ a < 0x40000 ∨ 0x90000 ≤ a := Iff.rfl

theorem memoryRegs_tier : memoryRegs ⊆ tierRegs := fun a ha => by
  simp only [mem_memoryRegs, mem_tierRegs] at ha ⊢
  omega

/-- The parts of the tiers where frames, buffers and lines are kept. -/
def tierParts : List Part := [.regs, .free, .fault, .buf, .tm, .dram, .pools]

/-- A step of those tiers. -/
def State.tierStep (s t : State) : Prop := s.within t tierRegs tierParts

theorem State.tierStep.refl (s : State) : s.tierStep s := State.within.refl s _ _

theorem State.tierStep.trans {s t u : State} (a : s.tierStep t) (b : t.tierStep u) : s.tierStep u := State.within.trans a b

theorem State.within.tier {s t : State} {R : Set Nat} {l : List Part} (a : s.within t R l) (hR : R ⊆ tierRegs)
    (hl : ∀ p ∈ l, p ∈ tierParts := by decide) : s.tierStep t := a.mono hR hl

theorem State.queueStep.tier {s t : State} (a : s.queueStep t) : s.tierStep t := State.within.tier a.memory memoryRegs_tier

theorem State.gaveBack.tier {s t : State} (a : s.gaveBack t) : s.tierStep t :=
  ⟨fun b hb => a.2 b fun h => hb (by
    simp only [releaseRegs, List.mem_cons, List.not_mem_nil, or_false] at h
    obtain rfl | rfl | rfl | rfl := h <;> exact mem_tierRegs.2 (by decide)), State.onlyParts_mono a.1 (by decide)⟩

section
variable (s : State)

theorem State.setReg_tier {a : Nat} (h : a ∈ tierRegs) (v : Word64) : s.tierStep (s.setReg a v) :=
  (s.setReg_within h v).parts (by decide)

theorem State.setFld_tier {a : Nat} (h : a ∈ tierRegs) (f : Fld) (x : Nat) : s.tierStep (s.setFld a f x) := s.setReg_tier h _

theorem State.orFld_tier {a : Nat} (h : a ∈ tierRegs) (f : Fld) (x : Nat) : s.tierStep (s.orFld a f x) := s.setReg_tier h _

theorem State.bump_tier {a : Nat} (h : a ∈ tierRegs) : s.tierStep (s.bump a) := s.setReg_tier h _

theorem State.detect_tier (src kind cls addr : Nat) : s.tierStep (s.detect src kind cls addr) :=
  State.within.tier (s.detect_memory src kind cls addr) memoryRegs_tier

/-! ### Device memory -/

theorem dmcStatus_tier (c : Nat) : Reg.DMC_STATUS c ∈ tierRegs := .inr (by simp only [Reg.DMC_STATUS]; omega)

theorem dmcMig_tier (c : Nat) : Reg.DMC_MIG c ∈ tierRegs := .inr (by simp only [Reg.DMC_MIG]; omega)

theorem State.dmcBump_tier (c i : Nat) : s.tierStep (s.dmcBump c i) := s.bump_tier (.inr (by simp only [Reg.DMC_CNT]; omega))

theorem State.setDram_tier (x : DramSt) : s.tierStep { s with dram := x } := State.within.tier (s.setDram_within x tierRegs) subset_rfl

theorem State.startMigration_tier (c r : Nat) (fill : Bool) : s.tierStep (s.startMigration c r fill) := by
  have hmig (t : State) (f : Fld) (x : Nat) : t.tierStep (t.setFld (Reg.DMC_MIG c) f x) := t.setFld_tier (dmcMig_tier c) f x
  unfold State.startMigration
  extract_lets p a noted sub0 c0 sub1 c1
  split
  · have hnoted : s.tierStep noted := ((hmig s _ _).trans (hmig _ _ _)).trans (hmig _ _ _)
    clear_value noted
    have hcursor : noted.tierStep c1 := ((noted.setDram_tier _).trans (c0.setDram_tier _)).trans (hmig _ _ _)
    exact (hnoted.trans hcursor).trans (c1.setFld_tier (dmcStatus_tier c) _ _)
  · exact .refl s

theorem State.rankFail_tier (c r : Nat) (unreadable : Bool) : s.tierStep (s.rankFail c r unreadable) := by
  have hout (t : State) (n : Nat) : t.tierStep (t.orFld (Reg.DMC_STATUS c) Fld.DMC_STATUS_RANK_OUT n) :=
    t.orFld_tier (dmcStatus_tier c) _ n
  unfold State.rankFail
  extract_lets moving out ended
  have hfailed : s.tierStep out := hout s _
  clear_value out
  split
  · exact ((hfailed.trans (hout out _)).trans (State.setFld_tier _ (dmcMig_tier c) _ _)).trans
      (State.setFld_tier _ (dmcStatus_tier c) _ _)
  · split
    · exact hfailed.trans (out.setFld_tier (dmcMig_tier c) _ _)
    · exact hfailed.trans (out.startMigration_tier c _ _)

theorem State.dramUe_tier {a : LineAt} (ha : a.ch < 12) (l : Nat) : s.tierStep (s.dramUe a l) := by
  have herr : Reg.DMC_ERR_UE a.ch ∈ tierRegs := .inr (by simp only [Reg.DMC_ERR_UE]; omega)
  unfold State.dramUe
  extract_lets c r masked lost seen counted e noted
  have hseen : s.tierStep seen := (s.setDram_tier _).trans (State.setFld_tier _ (dmcStatus_tier _) _ _)
  have hnoted : seen.tierStep noted := by
    refine (seen.dmcBump_tier a.ch Cnt.DMC_UE).trans ?_
    show counted.tierStep noted
    unfold noted
    split
    · exact .refl counted
    · exact (counted.setFld_tier herr _ _).trans (State.setFld_tier _ herr _ _)
  clear_value noted
  split
  · exact (hseen.trans (seen.dmcBump_tier _ _)).trans
      ((State.setFld_tier _ (.inl (by simp only [Reg.FLT_UNIT, unitDmc]; omega)) _ _).trans (State.bump_tier _ (.inl (by decide))))
  · exact ((hseen.trans hnoted).trans (noted.detect_tier _ _ _ _)).trans (State.rankFail_tier _ _ _ _)

/-- A read of a device line with any outcome. -/
theorem State.dramRead_tier (l : Nat) (fg : Bool) (e : Ecc) : s.tierStep (s.dramRead l fg e).2 := by
  unfold State.dramRead
  split
  · exact .refl s
  · next a hat =>
    have ha := State.locate_ch hat
    refine (s.bgCount_queueStep ha fg).tier.trans ?_
    generalize s.bgCount a.ch fg = t
    dsimp only
    split
    · exact (t.dmcBump_tier _ _).trans (State.setFld_tier _ (dmcStatus_tier _) _ _)
    · split
      · exact t.dmcBump_tier _ _
      · have hread : t.tierStep (((t.finishDrain a.ch a.sub).dmcBump a.ch Cnt.DMC_READS).rowTouch a) :=
          (((t.finishDrain_queueStep ha a.sub).trans (State.dmcBump_queueStep _ ha (by decide))).trans
            (State.rowTouchIn_queueStep _ ha _)).tier
        cases e with
        | ok => exact hread
        | corrected => exact hread.trans (State.within.tier (State.dramCe_memory _ ha l) memoryRegs_tier)
        | uncorrectable => exact hread.trans (State.dramUe_tier _ ha l)

theorem State.dramWrite_tier (l : Nat) (b : List Byte) : s.tierStep (s.dramWrite l b true).2 :=
  State.within.tier (s.dramWrite_memory l b) memoryRegs_tier

theorem State.countRmw_tier (l : Nat) : s.tierStep (s.countRmw l) := by
  unfold State.countRmw
  split
  · exact .refl s
  · exact s.dmcBump_tier _ _

theorem State.dramMerge_tier (l o : Nat) (b : List Byte) (e : Ecc) : s.tierStep (s.dramMerge l o b true e).2 := by
  have hread := s.dramRead_tier l true e
  unfold State.dramMerge
  dsimp only
  split
  · split
    · exact hread
    · exact hread.trans ((State.dmcBump_tier _ _ _).trans (State.setFld_tier _ (dmcStatus_tier _) _ _))
  · exact (hread.trans (State.countRmw_tier _ l)).trans (State.dramWrite_tier _ l _)

theorem State.dramStore_tier (addr n : Nat) (b : List Byte) : s.tierStep (s.dramStore addr true n b) := by
  induction n generalizing s addr b with
  | zero => exact .refl s
  | succ n ih =>
    cases b with
    | nil => exact .refl s
    | cons x r =>
      unfold State.dramStore
      extract_lets o k stored
      refine State.tierStep.trans (t := stored) ?_ (ih stored _ _)
      unfold stored
      split
      · exact s.dramWrite_tier _ _
      · exact s.dramMerge_tier _ _ _ _

/-! ### The buffer pools -/

theorem State.setPools_tier (x : PoolSt) : s.tierStep { s with pools := x } :=
  ((s.setPools_only x).within (by decide) _).parts (by decide)

theorem State.bpmBump_tier (i : Nat) : s.tierStep (s.bpmBump i) := s.bump_tier (.inr (by simp only [Reg.BPM_CNT]; omega))

theorem State.bufWrite_tier (x : Nat) (b : List Byte) : s.tierStep (s.bufWrite x b) := by
  unfold State.bufWrite
  split
  · exact s.setPools_tier _
  · exact s.dramStore_tier _ _ _

theorem State.metaRead_tier (x : Nat) (e : Ecc) : s.tierStep (s.metaRead x e).2 := by
  unfold State.metaRead
  split
  · cases e with
    | ok | uncorrectable => exact .refl s
    | corrected => exact s.bpmBump_tier _
  · dsimp only
    split <;> exact s.dramRead_tier _ _ _

theorem State.metaWrite_tier (x v : Nat) : s.tierStep (s.metaWrite x v) := by
  unfold State.metaWrite
  split
  · exact s.setPools_tier _
  · exact (s.countRmw_tier _).trans (State.dramWrite_tier _ _ _)

theorem bpmStatus_tier : Reg.BPM_STATUS ∈ tierRegs := .inr (by decide)

theorem State.poolWithdraw_tier (p n : Nat) : s.tierStep (s.poolWithdraw p n) :=
  (s.setReg_tier (.inr (by simp only [Reg.BPM_CNT]; omega)) _).trans (State.orFld_tier _ bpmStatus_tier _ _)

theorem State.takePtr_tier (r q p n : Nat) (e : Ecc) : s.tierStep (s.takePtr r q p n e).2 := by
  induction n generalizing s e with
  | zero => exact .refl s
  | succ n ih =>
    unfold State.takePtr
    extract_lets c
    split
    · exact .refl s
    · next ptr _ =>
      extract_lets taken read
      have hread : s.tierStep read.2 := (s.setPools_tier _).trans (taken.metaRead_tier ptr e)
      clear_value read
      split
      · exact (hread.trans (read.2.poolWithdraw_tier p 1)).trans (ih _ _)
      · exact hread.trans (read.2.metaWrite_tier ptr _)

theorem State.poolAlloc_tier (r p : Nat) (e : Ecc) : s.tierStep (s.poolAlloc r p e).2 := by
  have hask (t : State) (on : Bool) : t.tierStep (t.setAsk r p on) := t.setPools_tier _
  have hnone (t : State) : t.tierStep (t.poolNone r p) :=
    ((hask t false).trans (State.bpmBump_tier _ _)).trans (State.orFld_tier _ bpmStatus_tier _ _)
  unfold State.poolAlloc
  extract_lets q t
  have htaken : s.tierStep t.2 := by
    unfold t
    split
    · exact .refl s
    · exact s.takePtr_tier _ _ _ _ _
  clear_value t
  split
  · exact hask s true
  · split
    · exact hnone s
    · split
      · exact ((htaken.trans (hask _ _)).trans (State.bpmBump_tier _ _)).trans (State.setPools_tier _ _)
      · split
        · exact htaken.trans (hnone _)
        · exact htaken.trans (hask _ _)

theorem State.poolCheck_tier (r x : Nat) (give : Bool) (e : Ecc) : s.tierStep (s.poolCheck r x give e).2 := by
  have hread := s.metaRead_tier x e
  unfold State.poolCheck
  split
  · exact .refl s
  · extract_lets m
    split
    · exact hread
    · split
      · exact hread
      · split <;> exact hread

theorem State.poolFail_tier (r x cause owner : Nat) : s.tierStep (s.poolFail r x cause owner) := by
  have herr (t : State) (f : Fld) (v : Nat) : t.tierStep (t.setFld Reg.BPM_ERR f v) := t.setFld_tier (.inr (by decide)) f v
  unfold State.poolFail
  extract_lets counted a noted
  have hcounted : s.tierStep counted := (s.setFld_tier bpmStatus_tier _ 1).trans (State.bpmBump_tier _ _)
  clear_value counted
  have hnoted : counted.tierStep noted := by
    unfold noted
    split
    · exact .refl counted
    · exact (((((herr _ _ _).trans (herr _ _ _)).trans (herr _ _ _)).trans (herr _ _ _)).trans (herr _ _ _)).trans (herr _ _ _)
  exact (hcounted.trans hnoted).trans (noted.detect_tier _ _ _ _)

theorem State.poolHand_tier (r x w : Nat) (e : Ecc) : s.tierStep (s.poolHand r x w e) := by
  have hcheck := s.poolCheck_tier r x true e
  unfold State.poolHand
  split
  · exact .refl s
  · extract_lets c
    split
    · exact hcheck.trans (State.poolWithdraw_tier _ _ 1)
    · exact hcheck.trans (State.poolFail_tier _ _ _ _ _)
    · exact (hcheck.trans (State.metaWrite_tier _ _ _)).trans (State.bpmBump_tier _ _)

theorem State.poolRelease_tier (r x : Nat) (e : Ecc) : s.tierStep (s.poolRelease r x e) := by
  have hcheck := s.poolCheck_tier r x false e
  unfold State.poolRelease
  extract_lets p q c
  split
  · exact .refl s
  · split
    · exact s.setPools_tier _
    · split
      · exact hcheck.trans (State.poolWithdraw_tier _ _ 1)
      · exact hcheck.trans (State.poolFail_tier _ _ _ _ _)
      · exact (((hcheck.trans (State.metaWrite_tier _ _ _)).trans (State.setPools_tier _ _)).trans
          (State.bpmBump_tier _ _)).trans (State.setPools_tier _ _)

/-! ### The TM's queues (R300 to R305) -/

/-- The registers of the TMs lie above. -/
theorem tmg_tier {a : Nat} (h : 0x5000000 ≤ a) : a ∈ tierRegs := .inr (by omega)

theorem State.setTm_tier (x : TmSt) : s.tierStep { s with tm := x } := ((s.setTm_only x []).within (by decide) _).parts (by decide)

theorem State.draw_tier : s.tierStep s.draw.2 := (s.draw_rest.within (by decide) _).parts (by decide)

theorem State.tmgBump_tier (q i : Nat) : s.tierStep (s.tmgBump q i) := s.bump_tier (tmg_tier (by simp only [Reg.TMG_CNT]; omega))

theorem State.qcnt_tier (q u i : Nat) : s.tierStep (s.qcnt q u i) := s.bump_tier (tmg_tier (by simp only [Reg.TMG_QCNT]; omega))

theorem State.releaseBody_tier (q : Nat) (c : Copy) : s.tierStep (s.releaseBody q c) := by
  unfold State.releaseBody
  split
  · exact (s.release_gaveBack _ _).tier
  · exact (s.freeCell_gaveBack _).tier
  · exact s.poolRelease_tier _ _ _

theorem State.setTmgStatus_tier (q : Nat) (f : Fld) (x : Nat) : s.tierStep (s.setFld (Reg.TMG_STATUS q) f x) :=
  s.setFld_tier (tmg_tier (by simp only [Reg.TMG_STATUS]; omega)) f x

theorem State.enqueue_tier (q u : Nat) (c : Copy) (ce : Bool) : s.tierStep (s.enqueue q u c ce) := by
  unfold State.enqueue
  extract_lets l counted marked a
  have hcounted : s.tierStep counted :=
    ((s.setTm_tier _).trans (State.qcnt_tier _ _ _ _)).trans (State.setReg_tier _ (tmg_tier (by simp only [Reg.TMG_QCNT]; omega)) _)
  clear_value counted
  have hmarked : counted.tierStep marked := by
    unfold marked
    split
    · exact counted.qcnt_tier _ _ _
    · exact .refl counted
  exact (hcounted.trans hmarked).trans ((marked.setFld_tier (tmg_tier (by simp only [a, Reg.TMG_GAUGE_MAX]; omega)) _ _).trans
    (State.setFld_tier _ (tmg_tier (by simp only [Reg.TMG_DESC]; omega)) _ _))

theorem State.evictTail_tier (q v : Nat) : s.tierStep (s.evictTail q v) := by
  unfold State.evictTail
  split
  · exact .refl s
  · exact ((((s.setTm_tier _).trans (State.releaseBody_tier _ q _)).trans (State.qcnt_tier _ _ _ _)).trans
      (State.tmgBump_tier _ _ _)).trans (State.setTmgStatus_tier _ _ _ _)

theorem State.wred_tier (q u : Nat) (d : Desc) : s.tierStep (s.wred q u d).2 := by
  unfold State.wred
  extract_lets f avg lo hi x r
  have hdraw : s.tierStep x.2 := s.draw_tier
  split
  · exact hdraw
  · split
    · exact hdraw
    · split
      · split <;> exact hdraw
      · exact hdraw

theorem State.portCnt_tier (q p j : Nat) : s.tierStep (s.bump (Reg.TMG_PORT_CNT q p j)) :=
  s.bump_tier (tmg_tier (by simp only [Reg.TMG_PORT_CNT]; omega))

theorem State.admitCopy_tier (q u f : Nat) (c : Copy) : s.tierStep (s.admitCopy q u f c).2 := by
  unfold State.admitCopy
  extract_lets t no depth alpha may w
  have hdecided : s.tierStep t := s.tmgBump_tier _ _
  have hno (j : Nat) (u : State) : u.tierStep (no j u).2 := u.qcnt_tier _ _ _
  have hwred : t.tierStep w.2 := t.wred_tier q u c.desc
  refine hdecided.trans ?_
  clear_value t w
  split
  · exact t.portCnt_tier _ _ _
  · split
    · exact t.portCnt_tier _ _ _
    · split
      · exact ((t.tmgBump_tier _ _).trans (State.setTmgStatus_tier _ _ _ _)).trans (hno 3 _)
      · split
        · exact hno 3 t
        · split
          · exact t.enqueue_tier q u c false
          · split
            · split
              · exact ((t.evictTail_tier q _).trans (State.qcnt_tier _ _ _ _)).trans (State.enqueue_tier _ q u c false)
              · exact hno 4 t
            · split
              · exact hwred.trans (State.enqueue_tier _ q u c false)
              · exact hwred.trans (State.enqueue_tier _ q u c true)
              · exact hwred.trans (hno _ _)

theorem State.poolFrame_tier (q pool i len port cls : Nat) (d : Desc) : s.tierStep (s.poolFrame q pool i len port cls d) := by
  unfold State.poolFrame
  extract_lets t c a
  have hadmit : s.tierStep a.2 := (s.tmgBump_tier _ _).trans (t.admitCopy_tier _ _ _ _)
  clear_value a
  split
  · exact hadmit
  · exact hadmit.trans (State.poolRelease_tier _ _ _ _)

end

end Sys2Proof.Machine
end

section
/-! PROOF. The status word and the slot of a long operation (R367, R368, R372): what a change of either shows and keeps. -/

namespace Sys2Proof.Machine

set_option Elab.async false

/-! ### Slots -/

@[simp] theorem State.lopSlot_setLop_self (s : State) (i : Nat) (x : LopSt) : (s.setLop i x).lopSlot i = x :=
  (Tbl.get_set _ _ _ _ _).trans (if_pos rfl)

theorem State.lopSlot_setLop_other (s : State) {i k : Nat} (h : k ≠ i) (x : LopSt) : (s.setLop i x).lopSlot k = s.lopSlot k :=
  (Tbl.get_set _ _ _ _ _).trans (if_neg h)

theorem State.lopFld_setLop (s : State) (i k : Nat) (x : LopSt) (f : Fld) : (s.setLop i x).lopFld k f = s.lopFld k f := rfl

theorem State.lopFld_of_reg {s t : State} {i : Nat} (h : t.reg (Reg.LOP_STATUS i) = s.reg (Reg.LOP_STATUS i)) (f : Fld) :
    t.lopFld i f = s.lopFld i f := State.fld_of_reg h f

theorem State.lopActive_of_reg {s t : State} {i : Nat} (h : t.reg (Reg.LOP_STATUS i) = s.reg (Reg.LOP_STATUS i)) :
    t.lopActive i = s.lopActive i := by
  rw [State.lopActive, State.lopActive, State.lopFld_of_reg h]

theorem State.lopSlot_of_lop {s t : State} (h : t.lop = s.lop) (i : Nat) : t.lopSlot i = s.lopSlot i := by
  rw [State.lopSlot, State.lopSlot, h]

/-! ### The status word (R368) -/

/-- A field of a word that shares no bit with the one put. -/
theorem Word64.get_put_disjoint (w : Word64) {f g : Fld} (x : Nat) (h : f.lo + f.len ≤ g.lo ∨ g.lo + g.len ≤ f.lo) :
    (w.put f x).get g = w.get g := Word64.get_put_apart w f g x h

/-- A value that fits. -/
theorem Word64.get_put_fits (w : Word64) {f : Fld} {x : Nat} (h : f.lo + f.len ≤ 64) (hx : x < 2 ^ f.len) : (w.put f x).get f = x :=
  (Word64.get_put_self w f x h).trans (Nat.mod_eq_of_lt hx)

/-- A word put reads as put, but for the count of its changes. -/
theorem State.lopFld_lopPut (s : State) (i : Nat) (w : Word64) {f : Fld} (h : f.lo + f.len ≤ 8 ∨ 16 ≤ f.lo := by decide) :
    (s.lopPut i w).lopFld i f = w.get f := by
  unfold State.lopPut
  dsimp only
  split
  · next hsame => rw [hsame]; rfl
  · rw [State.lopFld_setLop, State.lopFld, State.reg_setReg, if_pos rfl,
      Word64.get_put_disjoint _ _ (Or.symm (by simpa [lopUpd] using h))]

/-- A change of the status word touches no slot but for its mirror. -/
theorem State.lopSlot_lopPut {α : Type} (g : LopSt → α) (s : State) (i k : Nat) (w : Word64)
    (hg : ∀ (x : LopSt) d, g { x with dirty := d } = g x := by intros; rfl) : g ((s.lopPut i w).lopSlot k) = g (s.lopSlot k) := by
  unfold State.lopPut
  dsimp only
  split
  · rfl
  · by_cases h : k = i
    · rw [h, State.lopSlot_setLop_self, hg]; rfl
    · rw [State.lopSlot_setLop_other _ h]; rfl

/-- An operation that ends shows how, keeps what it was and its lines, and leaves its slot idle. -/
theorem State.lopEnd_shows (s : State) (i : Nat) {st code : Nat} (hst : st < 16) (hcode : code < 65536) :
    (s.lopEnd i st code).lopFld i lopState = st ∧ (s.lopEnd i st code).lopFld i lopCode = code
      ∧ (s.lopEnd i st code).lopFld i lopLines = s.lopFld i lopLines ∧ (s.lopEnd i st code).lopFld i lopOp = s.lopFld i lopOp
      ∧ ((s.lopEnd i st code).lopSlot i).run = .none ∧ ((s.lopEnd i st code).lopSlot i).buf = [] := by
  have hput (f : Fld) (h : f.lo + f.len ≤ 8 ∨ 16 ≤ f.lo) : (s.lopEnd i st code).lopFld i f
      = (((s.reg (Reg.LOP_STATUS i)).put lopState st).put lopCode code).get f := s.lopFld_lopPut i _ h
  refine ⟨?_, ?_, ?_, ?_, ?_, ?_⟩
  · rw [hput _ (by decide), Word64.get_put_disjoint _ _ (by decide), Word64.get_put_fits _ (by decide) hst]
  · rw [hput _ (by decide), Word64.get_put_fits _ (by decide) hcode]
  · rw [hput _ (by decide), Word64.get_put_disjoint _ _ (by decide), Word64.get_put_disjoint _ _ (by decide)]; rfl
  · rw [hput _ (by decide), Word64.get_put_disjoint _ _ (by decide), Word64.get_put_disjoint _ _ (by decide)]; rfl
  · exact congrArg LopSt.run (State.lopSlot_setLop_self _ _ _)
  · exact congrArg LopSt.buf (State.lopSlot_setLop_self _ _ _)

/-- Lines that move are counted, and the operation runs. -/
theorem State.lopMoved_shows (s : State) (i n : Nat) :
    (s.lopMoved i n).lopFld i lopState = 1 ∧ (s.lopMoved i n).lopFld i lopLines = (s.lopFld i lopLines + n) % 4294967296
      ∧ (s.lopMoved i n).lopFld i lopCode = s.lopFld i lopCode ∧ (s.lopMoved i n).lopFld i lopOp = s.lopFld i lopOp := by
  have hput (f : Fld) (h : f.lo + f.len ≤ 8 ∨ 16 ≤ f.lo) : (s.lopMoved i n).lopFld i f
      = (((s.reg (Reg.LOP_STATUS i)).put lopState 1).put lopLines (s.lopFld i lopLines + n)).get f := s.lopFld_lopPut i _ h
  refine ⟨?_, ?_, ?_, ?_⟩
  · rw [hput _ (by decide), Word64.get_put_disjoint _ _ (by decide), Word64.get_put_self _ _ _ (by decide)]; rfl
  · rw [hput _ (by decide), Word64.get_put_self _ _ _ (by decide)]; rfl
  · rw [hput _ (by decide), Word64.get_put_disjoint _ _ (by decide), Word64.get_put_disjoint _ _ (by decide)]; rfl
  · rw [hput _ (by decide), Word64.get_put_disjoint _ _ (by decide), Word64.get_put_disjoint _ _ (by decide)]; rfl

theorem State.lopMoved_within (s : State) (i n : Nat) : s.within (s.lopMoved i n) {Reg.LOP_STATUS i} [.regs, .lop] := s.lopPut_within i _

/-- A state shown keeps the other fields. -/
theorem State.lopShow_shows (s : State) (i : Nat) {st : Nat} (hst : st < 16) :
    (s.lopShow i st).lopFld i lopState = st ∧ (s.lopShow i st).lopFld i lopCode = s.lopFld i lopCode
      ∧ (s.lopShow i st).lopFld i lopLines = s.lopFld i lopLines ∧ (s.lopShow i st).lopFld i lopOp = s.lopFld i lopOp := by
  have hput (f : Fld) (h : f.lo + f.len ≤ 8 ∨ 16 ≤ f.lo) : (s.lopShow i st).lopFld i f
      = ((s.reg (Reg.LOP_STATUS i)).put lopState st).get f := s.lopFld_lopPut i _ h
  refine ⟨?_, ?_, ?_, ?_⟩
  · rw [hput _ (by decide), Word64.get_put_fits _ (by decide) hst]
  all_goals rw [hput _ (by decide), Word64.get_put_disjoint _ _ (by decide)]; rfl

theorem State.lopShow_within (s : State) (i st : Nat) : s.within (s.lopShow i st) {Reg.LOP_STATUS i} [.regs, .lop] := s.lopPut_within i _

end Sys2Proof.Machine
end

section
/-! PROOF. Rings of the host: enable, doorbells, messages, inject frames, failed reads (R359, R362 to R366). -/

namespace Sys2Proof.Machine

set_option Elab.async false

/-! ### Registers of the rings -/

theorem hifReg_not_tier {a : Nat} (h : 0x40000 ≤ a ∧ a < 0x90000) : a ∉ tierRegs := by
  rw [mem_tierRegs]
  omega

section
variable {r : Nat} (hr : r < 80)
include hr

theorem ringPtr_range : 0x41000 ≤ Reg.HIF_RING_PTR r ∧ Reg.HIF_RING_PTR r < 0x42000 := by
  simp only [Reg.HIF_RING_PTR]
  omega

theorem ringPtr_not_tier : Reg.HIF_RING_PTR r ∉ tierRegs := hifReg_not_tier ⟨by have := ringPtr_range hr; omega, by have := ringPtr_range hr; omega⟩

end

theorem ringCfg_ne_ptr (r k : Nat) : Reg.HIF_RING_CFG r ≠ Reg.HIF_RING_PTR k := by
  simp only [Reg.HIF_RING_CFG, Reg.HIF_RING_PTR]
  omega

theorem hifCnt_not_tier {i : Nat} (h : i < 64) : Reg.HIF_CNT i ∉ tierRegs := hifReg_not_tier (by simp only [Reg.HIF_CNT]; omega)

/-- A step of the memory tiers leaves the host interface. -/
theorem State.tierStep.hif_eq {s t : State} (a : s.tierStep t) : t.hif = s.hif := a.2.2 .hif (by decide)

theorem State.ringHead_of_reg {s t : State} {r : Nat} (h : t.reg (Reg.HIF_RING_PTR r) = s.reg (Reg.HIF_RING_PTR r)) :
    t.ringHead r = s.ringHead r := State.fld_of_reg h _

theorem State.ringTail_of_reg {s t : State} {r : Nat} (h : t.reg (Reg.HIF_RING_PTR r) = s.reg (Reg.HIF_RING_PTR r)) :
    t.ringTail r = s.ringTail r := State.fld_of_reg h _

theorem State.ringSize_of_reg {s t : State} {r : Nat} (h : t.reg (Reg.HIF_RING_CFG r) = s.reg (Reg.HIF_RING_CFG r)) :
    t.ringSize r = s.ringSize r := congrArg (2 ^ ·) (State.fld_of_reg h _)

/-! ### Enable, doorbells, messages -/

/-- An enabled ring starts empty. -/
theorem ringEnable_empties (r : Nat) (s : State) :
    (ringEnable r s).ringEn r = true ∧ (ringEnable r s).ringHead r = 0 ∧ (ringEnable r s).ringTail r = 0
      ∧ s.within (ringEnable r s) {a | a ∈ [Reg.HIF_RING_CFG r, Reg.HIF_RING_PTR r]} [.regs] := by
  have hzero : (ringEnable r s).reg (Reg.HIF_RING_PTR r) = 0 := by rw [ringEnable, State.reg_setReg, if_pos rfl]
  refine ⟨?_, ?_, ?_, ((State.within.refl s _ _).setFld _ _ _).setReg _ _⟩
  · exact (State.flag_setReg_other _ _ _ (ringCfg_ne_ptr r r)).trans (State.flag_setFld_one _ _ ⟨rfl, by decide⟩)
  · rw [State.ringHead, State.fld, hzero]; decide
  · rw [State.ringTail, State.fld, hzero]; decide

/-- A doorbell that posts what the ring can hold moves its tail alone. -/
theorem doorbell_posts {s : State} {r : Nat} {v : Word64} (hen : s.ringEn r = true) (hv : v.toNat < s.ringSize r)
    (hposts : s.overPosts r v.toNat = false) :
    (doorbell r v true s).ringTail r = v.toNat % 2 ^ Fld.HIF_RING_PTR_TAIL.len ∧ (doorbell r v true s).ringHead r = s.ringHead r
      ∧ s.within (doorbell r v true s) {a | a ∈ [Reg.HIF_RING_PTR r]} [.regs] := by
  rw [doorbell, if_neg (by simp [hen, hposts, hv])]
  exact ⟨State.fld_setFld_self _ _ _ _ (by decide), State.fld_setFld_disjoint _ _ _ (by decide), (State.within.refl s _ _).setFld _ _ _⟩

/-- Any other is counted alone. -/
theorem doorbell_refused {s : State} {r : Nat} {v : Word64} {wide : Bool}
    (h : wide = false ∨ s.ringEn r = false ∨ s.ringSize r ≤ v.toNat ∨ s.overPosts r v.toNat = true) :
    doorbell r v wide s = s.hifBump Cnt.HIF_DOORBELL_BAD :=
  if_pos (by simpa using h)

theorem State.irqOf_setIrq_self (s : State) (r : Nat) (x : RingIrq) : (s.setIrq r x).irqOf r = x :=
  (Tbl.get_set RingIrq.init s.hif.irq r r x).trans (if_pos rfl)

/-- A due message leaves, and the ring's completions are told. -/
theorem msixSend_sends {r : Nat} {s : State} (hirq : s.flag (Reg.HIF_RING_CFG r) Fld.HIF_RING_CFG_IRQ_EN = true)
    (hhost : s.hostIsLost = false) (hdue : s.msixDue r = true) :
    (msixSend r s).irqOf r = RingIrq.init
      ∧ (msixSend r s).reg (Reg.HIF_CNT Cnt.HIF_MSIX_SENT) = s.reg (Reg.HIF_CNT Cnt.HIF_MSIX_SENT) + 1
      ∧ s.within (msixSend r s) {a | a ∈ [Reg.HIF_CNT Cnt.HIF_MSIX_SENT]} [.regs, .hif] := by
  rw [msixSend, if_neg (by simp [hirq, hhost, hdue]), State.msix, if_neg (by simp [hhost])]
  exact ⟨State.irqOf_setIrq_self _ _ _, s.reg_bump_self _, ((State.within.refl s _ _).bump _).rest (State.setHif_rest _ _)⟩

/-! ### Inject frames (R365) -/

theorem State.nextTx_lt {s : State} {j : Nat} (h : s.nextTx = some j) : j < 16 := by
  obtain ⟨i, -, rfl⟩ := List.mem_map.1 (List.mem_of_find?_eq_some h)
  omega

/-- HEAD moves on: nothing else of the rings' registers, and no frame that waits. -/
theorem State.ringNext_moves (s : State) (r : Nat) :
    (s.ringNext r).ringHead r = ((s.ringHead r + 1) % s.ringSize r) % 2 ^ Fld.HIF_RING_PTR_HEAD.len
      ∧ (s.ringNext r).hif.txWait = s.hif.txWait ∧ (s.ringNext r).hif.lastTx = s.hif.lastTx
      ∧ s.within (s.ringNext r) {a | a ∈ [Reg.HIF_RING_PTR r]} [.regs, .hif] :=
  ⟨s.fld_setFld_self (Reg.HIF_RING_PTR r) Fld.HIF_RING_PTR_HEAD _ (by decide), rfl, rfl,
    ((State.within.refl s _ _).setFld _ _ _).rest (State.setHif_rest _ _)⟩

/-- So it does once the descriptor's status is written. -/
theorem State.txStatus_moves (s : State) (j st : Nat) :
    (s.txStatus j st).ringHead (64 + j) = ((s.ringHead (64 + j) + 1) % s.ringSize (64 + j)) % 2 ^ Fld.HIF_RING_PTR_HEAD.len
      ∧ (s.txStatus j st).hif.txWait = s.hif.txWait ∧ (s.txStatus j st).hif.lastTx = s.hif.lastTx
      ∧ s.within (s.txStatus j st) {a | a ∈ [Reg.HIF_RING_PTR (64 + j)]} [.regs, .hif] := by
  obtain ⟨a, b, heq⟩ : ∃ a b, s.txStatus j st = (s.hostWrite a b).ringNext (64 + j) := ⟨_, _, rfl⟩
  rw [heq]
  have hwritten : s.onlyParts (s.hostWrite a b) [.hif] := s.setHif_rest _
  have hwait : (s.hostWrite a b).hif.txWait = s.hif.txWait := rfl
  have hlast : (s.hostWrite a b).hif.lastTx = s.hif.lastTx := rfl
  have hreg (c : Nat) : (s.hostWrite a b).reg c = s.reg c := rfl
  generalize s.hostWrite a b = t at *
  obtain ⟨hhead, hwaits, hlasts, hmoved⟩ := t.ringNext_moves (64 + j)
  rw [State.ringHead_of_reg (hreg _), State.ringSize_of_reg (hreg _)] at hhead
  exact ⟨hhead, hwaits.trans hwait, hlasts.trans hlast, ((State.within.refl s _ _).rest hwritten).step hmoved⟩

/-- What an injected frame shows: no inject waits, its ring was served last, it is counted, and the ring's HEAD moved on. -/
structure State.injected (s : State) (j : Nat) (t : State) : Prop where
  wait : t.hif.txWait = none
  last : t.hif.lastTx = j
  count : t.reg (Reg.HIF_CNT Cnt.HIF_TX_FRAMES) = s.reg (Reg.HIF_CNT Cnt.HIF_TX_FRAMES) + 1
  head : t.ringHead (64 + j) = ((s.ringHead (64 + j) + 1) % s.ringSize (64 + j)) % 2 ^ Fld.HIF_RING_PTR_HEAD.len

/-- A later step of the memory tiers changes none of it. -/
theorem State.injected.tier {s t u : State} {j : Nat} (a : s.injected j t) (hj : j < 16) (hu : t.tierStep u) : s.injected j u where
  wait := by rw [hu.hif_eq]; exact a.wait
  last := by rw [hu.hif_eq]; exact a.last
  count := (hu.1 _ (hifCnt_not_tier (by decide))).trans a.count
  head := (State.ringHead_of_reg (hu.1 _ (ringPtr_not_tier (by omega)))).trans a.head

/-- The frame stored, its descriptor's status written, and the frame counted. -/
theorem State.stored_injected {s v w : State} {j : Nat} (hj : j < 16) (hv : s.tierStep v)
    (hw : ({ v with hif := { v.hif with lastTx := j, txWait := none } } : State).tierStep w) :
    s.injected j (((w.txStatus j 1).hifBump Cnt.HIF_TX_FRAMES).bump (Reg.HIF_RING_CNT (64 + j))) := by
  have hreg (a : Nat) (ha : a ∉ tierRegs) : w.reg a = s.reg a := (hw.1 a ha).trans (hv.1 a ha)
  obtain ⟨hhead, hwait, hlast, hmoved⟩ := w.txStatus_moves j 1
  rw [State.ringHead_of_reg (hreg _ (ringPtr_not_tier (by omega))),
    State.ringSize_of_reg (hreg _ (hifReg_not_tier (by simp only [Reg.HIF_RING_CFG]; omega)))] at hhead
  have hcount : (w.txStatus j 1).reg (Reg.HIF_CNT Cnt.HIF_TX_FRAMES) = s.reg (Reg.HIF_CNT Cnt.HIF_TX_FRAMES) :=
    (hmoved.reg_kept _ (by simp only [Reg.HIF_CNT, Cnt.HIF_TX_FRAMES, Reg.HIF_RING_PTR, List.mem_singleton]; omega)).trans
      (hreg _ (hifCnt_not_tier (by decide)))
  have hwhif : w.hif = { v.hif with lastTx := j, txWait := none } := hw.hif_eq
  rw [hwhif] at hwait hlast
  generalize w.txStatus j 1 = x at *
  refine ⟨hwait, hlast, ?_, ?_⟩
  · rw [State.reg_bump_other _ (by simp only [Reg.HIF_CNT, Cnt.HIF_TX_FRAMES, Reg.HIF_RING_CNT]; omega), State.hifBump,
      State.reg_bump_self, hcount]
  · rw [← hhead]
    refine State.ringHead_of_reg ?_
    rw [State.reg_bump_other _ (by simp only [Reg.HIF_RING_PTR, Reg.HIF_RING_CNT]; omega), State.hifBump,
      State.reg_bump_other _ (by simp only [Reg.HIF_RING_PTR, Reg.HIF_CNT, Cnt.HIF_TX_FRAMES]; omega)]

/-- A frame that gets its buffer is injected. -/
theorem State.txTry_injects {s : State} {j k x : Nat} {w1 w3 : Word64} (b : List Byte) (hj : j < 16)
    (hfits : s.fitPool (w1.get ⟨0, 14⟩) = some k) (hgrant : (s.poolAlloc reqHif k).1 = .granted x) :
    s.injected j (s.txTry j w1 w3 b) := by
  unfold State.txTry
  dsimp only
  rw [hfits]
  dsimp only
  rw [hgrant]
  dsimp only
  have hstored := State.stored_injected hj (s.poolAlloc_tier reqHif k .ok) (State.bufWrite_tier _ x (bytesAt b 0 (w1.get ⟨0, 14⟩)))
  generalize State.bump (State.hifBump _ Cnt.HIF_TX_FRAMES) _ = v at *
  have hgiven := v.poolHand_tier reqHif x (reqTm (quadOf (w1.get ⟨14, 9⟩))) .ok
  split
  · exact hstored.tier hj ((hgiven.trans (State.tmgBump_tier _ _ _)).trans (State.poolRelease_tier _ _ _ _))
  · exact hstored.tier hj ((hgiven.trans (State.draw_tier _)).trans (State.poolFrame_tier _ _ _ _ _ _ _ _))

/-- A frame too short is counted, and its descriptor passed over. -/
theorem txInject_refuses {s : State} {w1 w3 : Word64} (b : List Byte) {j : Nat} (hwait : s.hif.txWait = none)
    (hup : s.down unitHif = false) (hnext : s.nextTx = some j) (hshort : w1.get ⟨0, 14⟩ < 60) :
    (txInject w1 w3 b s).reg (Reg.HIF_CNT Cnt.HIF_TX_BAD_LEN) = s.reg (Reg.HIF_CNT Cnt.HIF_TX_BAD_LEN) + 1
      ∧ (txInject w1 w3 b s).ringHead (64 + j)
        = ((s.ringHead (64 + j) + 1) % s.ringSize (64 + j)) % 2 ^ Fld.HIF_RING_PTR_HEAD.len
      ∧ s.onlyParts (txInject w1 w3 b s) [.regs, .hif] := by
  have hj := State.nextTx_lt hnext
  have hexec : txInject w1 w3 b s
      = (State.hifBump { s with hif := { s.hif with lastTx := j } } Cnt.HIF_TX_BAD_LEN).txStatus j 2 := by
    rw [txInject, if_neg (by simp [hwait, hup]), hnext]
    exact if_pos (.inl hshort)
  rw [hexec]
  have hserved := s.setHif_rest { s.hif with lastTx := j }
  have hreg (a : Nat) : State.reg { s with hif := { s.hif with lastTx := j } } a = s.reg a := rfl
  generalize ({ s with hif := { s.hif with lastTx := j } } : State) = u at *
  obtain ⟨hhead, -, -, hmoved⟩ := (u.hifBump Cnt.HIF_TX_BAD_LEN).txStatus_moves j 2
  have hcounted (a : Nat) (ha : a < 0x42000) : (u.hifBump Cnt.HIF_TX_BAD_LEN).reg a = s.reg a :=
    (State.reg_bump_other _ (by simp only [Reg.HIF_CNT]; omega)).trans (hreg a)
  rw [State.ringHead_of_reg (hcounted _ (ringPtr_range (by omega)).2),
    State.ringSize_of_reg (hcounted _ (by simp only [Reg.HIF_RING_CFG]; omega))] at hhead
  refine ⟨?_, hhead, ?_⟩
  · rw [hmoved.reg_kept _ (by simp only [Reg.HIF_CNT, Cnt.HIF_TX_BAD_LEN, Reg.HIF_RING_PTR, List.mem_singleton]; omega),
      State.hifBump, State.reg_bump_self, hreg]
  · exact ((State.onlyParts_mono hserved (by decide)).bump _).step hmoved.2

/-! ### Failed host reads (R359) -/

/-- A failed read is counted and shown. -/
theorem State.dmaErr_shows (s : State) :
    s.dmaErr.reg (Reg.HIF_CNT Cnt.HIF_DMA_ERR) = s.reg (Reg.HIF_CNT Cnt.HIF_DMA_ERR) + 1
      ∧ s.dmaErr.flag Reg.HIF_STATUS Fld.HIF_STATUS_DMA_ERR = true
      ∧ s.within s.dmaErr {a | a ∈ [Reg.HIF_CNT Cnt.HIF_DMA_ERR, Reg.HIF_STATUS]} [.regs] :=
  ⟨(State.reg_setFld_other _ _ _ (by decide)).trans (s.reg_bump_self _), State.flag_setFld_one _ _ ⟨rfl, by decide⟩,
    ((State.within.refl s _ _).bump _).setFld _ _ _⟩

/-- The inject frame that could not be read: its ring counts as served. -/
theorem hostReadFail_frame {s : State} {w1 : Word64} {j k x : Nat} (hwait : s.hif.txWait = none) (hnext : s.nextTx = some j)
    (hfits : s.fitPool (w1.get ⟨0, 14⟩) = some k) (hgrant : (s.poolAlloc reqHif k).1 = .granted x) :
    (hostReadFail none w1 s).hif.lastTx = j
      ∧ (hostReadFail none w1 s).reg (Reg.HIF_CNT Cnt.HIF_DMA_ERR) = s.reg (Reg.HIF_CNT Cnt.HIF_DMA_ERR) + 1
      ∧ (hostReadFail none w1 s).flag Reg.HIF_STATUS Fld.HIF_STATUS_DMA_ERR = true := by
  have hj := State.nextTx_lt hnext
  unfold hostReadFail
  dsimp only
  rw [hnext, hfits]
  dsimp only
  rw [if_neg (by simp [hwait]), hgrant]
  dsimp only
  have hgranted := s.poolAlloc_tier reqHif k .ok
  generalize (s.poolAlloc reqHif k .ok).2 = u at *
  obtain ⟨hcount, hflag, -⟩ := u.dmaErr_shows
  rw [hgranted.1 _ (hifCnt_not_tier (by decide))] at hcount
  generalize u.dmaErr = v at *
  obtain ⟨-, -, -, hmoved⟩ := v.txStatus_moves j 4
  have hcountW : (v.txStatus j 4).reg (Reg.HIF_CNT Cnt.HIF_DMA_ERR) = s.reg (Reg.HIF_CNT Cnt.HIF_DMA_ERR) + 1 :=
    (hmoved.reg_kept _ (by simp only [Reg.HIF_CNT, Cnt.HIF_DMA_ERR, Reg.HIF_RING_PTR, List.mem_singleton]; omega)).trans hcount
  have hflagW : (v.txStatus j 4).flag Reg.HIF_STATUS Fld.HIF_STATUS_DMA_ERR = true :=
    (hmoved.flag_kept _ _ (by simp only [Reg.HIF_STATUS, Reg.HIF_RING_PTR, List.mem_singleton]; omega)).trans hflag
  generalize v.txStatus j 4 = w at *
  have hserved : (State.poolRelease { w with hif := { w.hif with lastTx := j } } reqHif x .ok).hif = { w.hif with lastTx := j } :=
    (State.poolRelease_tier _ reqHif x .ok).hif_eq
  have hfreed := (State.poolRelease_tier { w with hif := { w.hif with lastTx := j } } reqHif x .ok).1
  exact ⟨congrArg HifSt.lastTx hserved, (hfreed _ (hifCnt_not_tier (by decide))).trans hcountW,
    (State.flag_of_reg (hfreed _ (hifReg_not_tier (by decide))) _).trans hflagW⟩

/-- A long operation whose input could not be read fails. -/
theorem hostReadFail_lop {s : State} {i : Fin 16} (w1 : Word64) (hrun : (s.lopSlot i.val).run = .admission)
    (hactive : s.lopActive i.val = true) :
    (hostReadFail (some i) w1 s).lopFld i.val lopState = 4 ∧ (hostReadFail (some i) w1 s).lopFld i.val lopCode = lopHost
      ∧ (hostReadFail (some i) w1 s).reg (Reg.HIF_CNT Cnt.HIF_DMA_ERR) = s.reg (Reg.HIF_CNT Cnt.HIF_DMA_ERR) + 1
      ∧ (hostReadFail (some i) w1 s).flag Reg.HIF_STATUS Fld.HIF_STATUS_DMA_ERR = true
      ∧ s.onlyParts (hostReadFail (some i) w1 s) [.regs, .lop] := by
  have hexec : hostReadFail (some i) w1 s = s.dmaErr.lopEnd i.val 4 lopHost := by
    unfold hostReadFail
    dsimp only
    rw [hrun]
    exact if_pos hactive
  obtain ⟨hcount, hflag, hshown⟩ := s.dmaErr_shows
  obtain ⟨hstate, hcode, -⟩ := s.dmaErr.lopEnd_shows i.val (st := 4) (code := lopHost) (by decide) (by decide)
  have hended := s.dmaErr.lopEnd_within i.val 4 lopHost
  rw [hexec]
  have hslot : Reg.LOP_STATUS i.val ≠ Reg.HIF_STATUS ∧ Reg.LOP_STATUS i.val ≠ Reg.HIF_CNT Cnt.HIF_DMA_ERR := by
    simp only [Reg.LOP_STATUS, Reg.HIF_STATUS, Reg.HIF_CNT, Cnt.HIF_DMA_ERR]
    omega
  exact ⟨hstate, hcode, (hended.1 _ (by simpa using hslot.2.symm)).trans hcount,
    (hended.flag_eq (by simpa using hslot.1.symm) _).trans hflag, (State.onlyParts_mono hshown.2 (by decide)).step hended.2⟩

/-- Settles O42. -/
theorem hostRings : Obligations.HostRings := by
  refine ⟨fun s r => ?_, fun s k v hen hv hposts => ?_, fun s j v hen hv hposts => ?_, fun s k v wide hbad => ?_,
    fun s r hirq hhost hdue => ?_, fun s w1 w3 b j k x hwait hup hnext hlong hmtu hfits hgrant => ?_,
    fun s w1 w3 b j hwait hup hnext hshort => ?_, fun s w k x hwait hring hdue hup hfits hgrant => ?_,
    fun s w1 j k x hwait hnext hfits hgrant => ?_, fun s i w1 hrun hactive => ?_⟩
  · obtain ⟨hen, hhead, htail, hrest⟩ := ringEnable_empties r.val s
    exact ⟨_, done_eq_next hrest.2 (by decide), hen, hhead, htail, hrest.listed rfl, hrest.2⟩
  · obtain ⟨htail, hhead, hrest⟩ := doorbell_posts hen hv hposts
    exact ⟨_, done_eq_next hrest.2 (by decide), htail, hhead, hrest.listed rfl, hrest.2⟩
  · obtain ⟨htail, hhead, hrest⟩ := doorbell_posts hen hv hposts
    exact ⟨_, done_eq_next hrest.2 (by decide), htail, hhead, hrest.listed rfl, hrest.2⟩
  · exact ⟨_, (congrArg (done s) (doorbell_refused hbad)).trans (done_eq_next (s.bump_rest _) (by decide)), s.reg_bump_self _,
      s.onlyRegs_bump _, s.bump_rest _⟩
  · obtain ⟨htold, hcount, hrest⟩ := msixSend_sends hirq hhost hdue
    exact ⟨_, done_eq_next hrest.2 (by decide), htold, hcount, hrest.listed rfl, hrest.2⟩
  · have hexec : txInject w1 w3 b s = s.txTry j w1 w3 b := by
      rw [txInject, if_neg (by simp [hwait, hup]), hnext]
      exact if_neg (by omega)
    obtain ⟨hnone, hlast, hcount, hhead⟩ := hexec ▸ State.txTry_injects (w3 := w3) b (State.nextTx_lt hnext) hfits hgrant
    exact ⟨_, done_eq s _, hnone, hlast, hcount, hhead⟩
  · obtain ⟨hcount, hhead, hrest⟩ := txInject_refuses (w3 := w3) b hwait hup hnext hshort
    exact ⟨_, done_eq_next hrest (by decide), hcount, hhead, hrest⟩
  · have hexec : txPoolRetry s = s.txTry w.ring w.w1 w.w3 w.bytes := by
      rw [txPoolRetry, hwait]
      exact if_neg (by simp [hup]; omega)
    obtain ⟨hnone, hlast, hcount, -⟩ := hexec ▸ State.txTry_injects (w3 := w.w3) w.bytes hring hfits hgrant
    exact ⟨_, done_eq s _, hnone, hlast, hcount⟩
  · obtain ⟨hlast, hcount, hflag⟩ := hostReadFail_frame hwait hnext hfits hgrant
    exact ⟨_, done_eq s _, hlast, hcount, hflag⟩
  · obtain ⟨hstate, hcode, hcount, hflag, hrest⟩ := hostReadFail_lop w1 hrun hactive
    exact ⟨_, done_eq_next hrest (by decide), hstate, hcode, hcount, hflag, hrest⟩

end Sys2Proof.Machine
end

section
/-! PROOF. START of a long operation (R367, R370): its checks do not depend on what START itself has written. -/

namespace Sys2Proof.Machine

set_option Elab.async false

/-- The registers of a slot that START writes. -/
def startRegs (i : Nat) : List Nat :=
  [Reg.LOP_CTL i, Reg.LOP_STATUS i, Reg.LOP_PROGRESS i] ++ (List.range 4).map (Reg.LOP_RESULT i)

theorem mem_startRegs {i a : Nat} (h : a ∈ startRegs i) :
    a = 0x50000 + 0x100 * i ∨ a = 0x50008 + 0x100 * i ∨ a = 0x50068 + 0x100 * i
      ∨ 0x50070 + 0x100 * i ≤ a ∧ a < 0x50090 + 0x100 * i := by
  simp only [startRegs, Reg.LOP_CTL, Reg.LOP_STATUS, Reg.LOP_PROGRESS, Reg.LOP_RESULT, List.mem_append, List.mem_cons, List.mem_map,
    List.mem_range, List.not_mem_nil, or_false] at h
  obtain (rfl | rfl | rfl) | ⟨j, hj, rfl⟩ := h <;> omega

/-- Registers elsewhere. -/
theorem not_mem_startRegs {i a : Nat} (hi : i < 16) (h : a < 0x50000 ∨ 0x51000 ≤ a) : a ∉ startRegs i := fun ha => by
  have := mem_startRegs ha
  omega

/-- `t` is `s` after START of slot i has written what every START writes. -/
structure State.lopStarts (s : State) (i : Nat) (t : State) : Prop where
  regs : s.within t {a | a ∈ startRegs i} [.regs, .lop]
  slots : ∀ k, k ≠ i → t.lopSlot k = s.lopSlot k

section
variable {s t : State} {i : Nat} (hi : i < 16) (h : s.lopStarts i t)
include hi h

theorem State.lopStarts.fld_eq {a : Nat} (f : Fld) (ha : a < 0x50000 ∨ 0x51000 ≤ a) : t.fld a f = s.fld a f :=
  h.regs.fld_kept a f (not_mem_startRegs hi ha)

omit hi in
theorem State.lopStarts.argF_eq (k lo n : Nat) : t.lopArgF k 0 lo n = s.lopArgF k 0 lo n := by
  rw [State.lopArgF, State.lopArgF, State.lopArgN, State.lopArgN, h.regs.reg_kept _ fun ha => ?_]
  have := mem_startRegs ha
  simp only [Reg.LOP_ARG] at this
  omega

theorem State.lopStarts.unit_eq {q : Nat} (hq : q < 4) : t.unitState (unitTumbler q) = s.unitState (unitTumbler q) :=
  h.fld_eq hi _ (.inl (by simp only [Reg.FLT_UNIT, unitTumbler]; omega))

theorem State.lopStarts.dmcFld_eq {a : Nat} (f : Fld) (ha : 0x100000 ≤ a) : t.fld a f = s.fld a f := h.fld_eq hi f (.inr (by omega))

omit hi in
theorem State.lopStarts.active_eq {k : Nat} (hk : k ≠ i) : t.lopActive k = s.lopActive k :=
  State.lopActive_of_reg (h.regs.reg_kept _ fun ha => by
    have := mem_startRegs ha
    simp only [Reg.LOP_STATUS] at this
    omega)

/-! ### The checks -/

theorem State.lopStarts.phaseOk_eq (op : Nat) : t.lopPhaseOk i op = s.lopPhaseOk i op := by
  have hphase : t.phase = s.phase := h.fld_eq hi _ (.inl (by decide))
  rw [State.lopPhaseOk, State.lopPhaseOk, h.argF_eq, hphase]

/-- Whether a rank can be migrated is its channel's registers' to say. -/
theorem State.lopStarts.migration_eq (c r : Nat) :
    t.populated c = s.populated c ∧ t.mappedRanks c = s.mappedRanks c ∧ t.rankOut c r = s.rankOut c r
      ∧ t.migrationFree c = s.migrationFree c := by
  have hpop (f : Fld) : t.fld (Reg.DMC_POP c) f = s.fld (Reg.DMC_POP c) f :=
    h.dmcFld_eq hi f (by simp only [Reg.DMC_POP]; omega)
  have hstatus (f : Fld) : t.fld (Reg.DMC_STATUS c) f = s.fld (Reg.DMC_STATUS c) f :=
    h.dmcFld_eq hi f (by simp only [Reg.DMC_STATUS]; omega)
  have hmig : t.migState = s.migState := funext fun d => h.dmcFld_eq hi _ (by simp only [Reg.DMC_MIG]; omega)
  have hdram : t.dram = s.dram := h.regs.2.2 .dram (by decide)
  have hranks : t.ranks c = s.ranks c := by rw [State.ranks, State.ranks, hpop, hpop]
  have hspare : t.hasSpare c = s.hasSpare c := by rw [State.hasSpare, State.hasSpare, State.flag, State.flag, hpop]
  have hout : t.rankOut c = s.rankOut c := funext fun r => by rw [State.rankOut, State.rankOut, hstatus]
  refine ⟨by rw [State.populated, State.populated, hpop], by rw [State.mappedRanks, State.mappedRanks, hranks, hspare],
    by rw [hout], ?_⟩
  simp only [State.migrationFree, State.anyMigration, State.dmcReady, State.flag, hspare, hmig, hout, hranks, hstatus, hdram]

theorem State.lopStarts.argsOk_eq (op : Nat) : t.lopArgsOk i op = s.lopArgsOk i op := by
  have hcfg (a : Nat) (f : Fld) (ha : a = Reg.LOP_OUT_CFG i ∨ a = Reg.LOP_IN_CFG i) : t.fld a f = s.fld a f :=
    h.regs.fld_kept a f fun hmem => by
      have := mem_startRegs hmem
      simp only [Reg.LOP_OUT_CFG, Reg.LOP_IN_CFG] at ha
      omega
  have htable (q x : Nat) : t.tmbTableOk q x = s.tmbTableOk q x := by
    rw [State.tmbTableOk, State.tmbTableOk, State.flag, State.flag, h.dmcFld_eq hi _ (by simp only [tmbCfg, Reg.TMB_TABLE_CFG]; omega)]
  have hcast : t.cast = s.cast := h.regs.2.2 .cast (by decide)
  have hunit (lo : Nat) : t.unitState (unitTumbler (s.lopArgF i 0 lo 2)) = s.unitState (unitTumbler (s.lopArgF i 0 lo 2)) :=
    h.unit_eq hi (Nat.mod_lt _ (by decide))
  have hmigrate (c r : Nat) := h.migration_eq hi c r
  simp only [State.lopArgsOk, State.down, h.argF_eq, hcfg _ _ (.inl rfl), hcfg _ _ (.inr rfl), htable, hcast, hunit,
    (hmigrate _ 0).1, (hmigrate _ 0).2.1, (hmigrate _ _).2.2.1]

omit hi in
/-- What the other slots run. -/
theorem State.lopStarts.otherLop_eq {p q : Nat → Bool} (hpq : ∀ k, k ≠ i → p k = q k) : t.otherLop i p = s.otherLop i q := by
  unfold State.otherLop
  congr 1
  funext k
  by_cases hk : k = i
  · simp [hk]
  · rw [h.active_eq hk, hpq k hk]

theorem State.lopStarts.excluded_eq (op : Nat) : t.lopExcluded i op = s.lopExcluded i op := by
  have hgen : t.genPending = s.genPending := by
    rw [State.genPending, State.genPending, State.flag, State.flag, h.dmcFld_eq hi _ (by decide)]
  have htmb : t.tmb = s.tmb := h.regs.2.2 .tmb (by decide)
  obtain ⟨-, -, -, hfree⟩ := h.migration_eq hi (s.lopArgF i 0 0 4) 0
  have hrebuild : t.otherLop i (fun k => t.isRebuild k && t.lopArgF k 0 0 2 == t.lopArgF i 0 0 2)
      = s.otherLop i (fun k => s.isRebuild k && s.lopArgF k 0 0 2 == s.lopArgF i 0 0 2) :=
    h.otherLop_eq fun k hk => by simp only [State.isRebuild, h.slots k hk, h.argF_eq]
  have hscrub : t.otherLop i (fun k => t.isScrub k && (t.lopArgF k 0 0 12 &&& t.lopArgF i 0 0 12) != 0)
      = s.otherLop i (fun k => s.isScrub k && (s.lopArgF k 0 0 12 &&& s.lopArgF i 0 0 12) != 0) :=
    h.otherLop_eq fun k hk => by simp only [State.isScrub, h.slots k hk, h.argF_eq]
  have hmigrate : t.otherLop i (fun k => (t.lopSlot k).run == .migrate false) = s.otherLop i (fun k => (s.lopSlot k).run == .migrate false) :=
    h.otherLop_eq fun k hk => by simp only [h.slots k hk]
  have himage : t.otherLop i t.isImage = s.otherLop i s.isImage :=
    h.otherLop_eq fun k hk => by simp only [State.isImage, h.slots k hk]
  unfold State.lopExcluded
  rw [hrebuild, hscrub, hmigrate, himage, h.argF_eq, hfree, hgen, htmb]

theorem State.lopStarts.dmaEn_eq : t.dmaEn = s.dmaEn := by
  rw [State.dmaEn, State.dmaEn, State.flag, State.flag, h.fld_eq hi _ (.inl (by decide))]

omit hi in
theorem State.lopStarts.first_eq (hi : i < 16) (op : Nat) : t.lopFirst i op = s.lopFirst i op := by
  have hhead : t.jnlHead = s.jnlHead := h.fld_eq hi _ (.inl (by decide))
  rw [State.lopFirst, State.lopFirst, h.argF_eq, hhead]

end

/-! ### START itself -/

/-- The results and the progress of a slot at zero. -/
def State.lopCleared (s : State) (i : Nat) : State :=
  State.setReg (forUpTo 4 (fun j t => t.lopResult i j 0) s) (Reg.LOP_PROGRESS i) 0

theorem State.lopCleared_within (s : State) (i : Nat) :
    s.within (s.lopCleared i) {a | a ∈ Reg.LOP_PROGRESS i :: (List.range 4).map (Reg.LOP_RESULT i)} [.regs] := by
  have hresults : s.within (forUpTo 4 (fun j t => t.lopResult i j 0) s)
      {a | a ∈ Reg.LOP_PROGRESS i :: (List.range 4).map (Reg.LOP_RESULT i)} [.regs] :=
    forUpTo_induct (fun t => s.within t _ [.regs]) 4 _ s (.refl s _ _) fun j t hj ht =>
      ht.setReg _ _ (List.mem_cons_of_mem _ (List.mem_map.2 ⟨j, List.mem_range.2 hj, rfl⟩))
  exact hresults.setReg _ _ (by simp)

/-- What every START of a slot that is not busy writes. -/
def State.lopBegun (s : State) (i op : Nat) : State :=
  let s := s.setFld (Reg.LOP_CTL i) Fld.LOP_CTL_OP op
  let s := s.lopPut i (((((s.reg (Reg.LOP_STATUS i)).put lopState 1).put lopOp op).put lopCode 0).put lopLines 0)
  s.lopCleared i

/-- What a START that passes its checks goes on to write. -/
def State.lopRuns (s : State) (i op : Nat) : State :=
  let s := s.setFld (Reg.LOP_PROGRESS i) Fld.LOP_PROGRESS_TOTAL (s.lopTotal i op)
  let buf := if op = 1 then s.exportHeader i else []
  let n := s.lopNextOrder
  s.setLop i { s.lopSlot i with run := s.lopFirst i op, order := n, buf := buf, fin := false, aborting := false }

/-- START of a slot that is not busy, up to its checks. -/
theorem lopStart_eq {s : State} {i op : Nat} (hfree : s.lopActive i = false) :
    lopStart i op s =
      (let t := s.lopBegun i op
      if !t.lopPhaseOk i op then t.lopEnd i 4 lopPhase
      else if !t.lopArgsOk i op then t.lopEnd i 4 lopArg
      else if t.lopExcluded i op then t.lopEnd i 4 lopBusy
      else if (opOutput op ∨ opInput op) ∧ !t.dmaEn then t.lopEnd i 4 lopHost
      else t.lopRuns i op) :=
  if_neg (by simp [hfree])

section
variable {s t : State} {i : Nat} (h : s.lopStarts i t)
include h

theorem State.lopStarts.taken (f : Fld) (x : Nat) : s.lopStarts i (t.setFld (Reg.LOP_CTL i) f x) :=
  ⟨h.regs.setFld _ _ _ (by simp [startRegs]), h.slots⟩

theorem State.lopStarts.progress (f : Fld) (x : Nat) : s.lopStarts i (t.setFld (Reg.LOP_PROGRESS i) f x) :=
  ⟨h.regs.setFld _ _ _ (by simp [startRegs]), h.slots⟩

theorem State.lopStarts.put (w : Word64) : s.lopStarts i (t.lopPut i w) := by
  refine ⟨h.regs.step (t.lopPut_within i w) (by simp [startRegs]), fun k hk => (Eq.trans ?_ (h.slots k hk))⟩
  unfold State.lopPut
  dsimp only
  split
  · rfl
  · exact State.lopSlot_setLop_other _ hk _

theorem State.lopStarts.cleared : s.lopStarts i (t.lopCleared i) := by
  have hcleared := t.lopCleared_within i
  refine ⟨h.regs.step hcleared fun a ha => ?_, fun k hk => ?_⟩
  · simp only [startRegs, Set.mem_ofPred_eq, List.mem_cons, List.mem_append] at ha ⊢
    tauto
  · rw [State.lopSlot_of_lop (hcleared.2.2 .lop (by decide)), h.slots k hk]

end

theorem State.lopBegun_shows (s : State) {i op : Nat} (hop : op < 16) :
    (s.lopBegun i op).lopFld i lopState = 1 ∧ (s.lopBegun i op).lopFld i lopOp = op ∧ (s.lopBegun i op).lopFld i lopCode = 0
      ∧ (s.lopBegun i op).lopFld i lopLines = 0 ∧ s.lopStarts i (s.lopBegun i op) := by
  have hself : s.lopStarts i s := ⟨.refl s _ _, fun _ _ => rfl⟩
  have htaken := hself.taken Fld.LOP_CTL_OP op
  unfold State.lopBegun
  dsimp only
  generalize s.setFld (Reg.LOP_CTL i) Fld.LOP_CTL_OP op = t at *
  have hput (f : Fld) (h : f.lo + f.len ≤ 8 ∨ 16 ≤ f.lo) := t.lopFld_lopPut i
    (((((t.reg (Reg.LOP_STATUS i)).put lopState 1).put lopOp op).put lopCode 0).put lopLines 0) h
  have hshown := htaken.put (((((t.reg (Reg.LOP_STATUS i)).put lopState 1).put lopOp op).put lopCode 0).put lopLines 0)
  generalize t.lopPut i _ = u at *
  have hcleared (f : Fld) : (u.lopCleared i).lopFld i f = u.lopFld i f := State.lopFld_of_reg ((u.lopCleared_within i).reg_kept _ (by
    simp only [Reg.LOP_STATUS, Reg.LOP_PROGRESS, Reg.LOP_RESULT, List.mem_cons, List.mem_map, List.mem_range, not_or]
    exact ⟨by omega, by rintro ⟨j, hj, h⟩; omega⟩)) f
  refine ⟨?_, ?_, ?_, ?_, hshown.cleared⟩ <;> rw [hcleared, hput _ (by decide)]
  · simp (disch := decide) only [Word64.get_put_disjoint]
    exact Word64.get_put_fits _ (by decide) (by decide)
  · simp (disch := decide) only [Word64.get_put_disjoint]
    exact Word64.get_put_fits _ (by decide) hop
  · simp (disch := decide) only [Word64.get_put_disjoint]
    exact Word64.get_put_fits _ (by decide) (Nat.two_pow_pos _)
  · exact Word64.get_put_fits _ (by decide) (Nat.two_pow_pos _)

theorem State.lopRuns_shows (s : State) {i : Nat} (hi : i < 16) (op : Nat) :
    (∀ f, (s.lopRuns i op).lopFld i f = s.lopFld i f) ∧ ((s.lopRuns i op).lopSlot i).run = s.lopFirst i op
      ∧ s.within (s.lopRuns i op) {a | a ∈ startRegs i} [.regs, .lop] := by
  have hself : s.lopStarts i s := ⟨.refl s _ _, fun _ _ => rfl⟩
  have htotal := hself.progress Fld.LOP_PROGRESS_TOTAL (s.lopTotal i op)
  have hstatus := State.reg_setFld_other s Fld.LOP_PROGRESS_TOTAL (s.lopTotal i op) (a := Reg.LOP_PROGRESS i) (b := Reg.LOP_STATUS i)
    (by simp only [Reg.LOP_STATUS, Reg.LOP_PROGRESS]; omega)
  unfold State.lopRuns
  dsimp only
  generalize s.setFld (Reg.LOP_PROGRESS i) Fld.LOP_PROGRESS_TOTAL (s.lopTotal i op) = t at *
  refine ⟨fun f => State.lopFld_of_reg hstatus f, ?_, htotal.regs.rest (State.setLop_rest _ _ _)⟩
  rw [State.lopSlot_setLop_self]
  exact htotal.first_eq hi op

/-- A START that passes its checks: the operation begins. -/
theorem lopStart_begins {s : State} {i op : Nat} (hi : i < 16) (hop : op < 16) (hfree : s.lopActive i = false)
    (hphase : s.lopPhaseOk i op = true) (hargs : s.lopArgsOk i op = true) (hexcluded : s.lopExcluded i op = false)
    (hdma : (opOutput op || opInput op) = false ∨ s.dmaEn = true) :
    (lopStart i op s).lopFld i lopState = 1 ∧ (lopStart i op s).lopFld i lopOp = op ∧ (lopStart i op s).lopFld i lopCode = 0
      ∧ (lopStart i op s).lopFld i lopLines = 0 ∧ ((lopStart i op s).lopSlot i).run = s.lopFirst i op
      ∧ s.within (lopStart i op s) {a | a ∈ startRegs i} [.regs, .lop] := by
  obtain ⟨hstate, hopShown, hcode, hlines, hstarts⟩ := s.lopBegun_shows (i := i) hop
  rw [lopStart_eq hfree]
  generalize s.lopBegun i op = t at *
  dsimp only
  rw [if_neg (by simp [hstarts.phaseOk_eq hi, hphase]), if_neg (by simp [hstarts.argsOk_eq hi, hargs]),
    if_neg (by simp [hstarts.excluded_eq hi, hexcluded]), if_neg (by rw [hstarts.dmaEn_eq hi]; cases hdma <;> simp_all)]
  obtain ⟨hword, hrun, hwithin⟩ := t.lopRuns_shows hi op
  exact ⟨(hword _).trans hstate, (hword _).trans hopShown, (hword _).trans hcode, (hword _).trans hlines,
    hrun.trans (hstarts.first_eq hi op), hstarts.regs.step hwithin (fun _ ha => ha)⟩

end Sys2Proof.Machine
end

section
/-! PROOF. A result buffer of pool 1 that carries the output of a long operation (R280, R282, R284): its allocation, the bytes that
pass through it, and its release. -/

namespace Sys2Proof.Machine

set_option Elab.async false

/-! ### What an allocation in pool 1 leaves -/

/-- The registers that an allocation may change: those of a pointer withdrawn, and the BPM's counters. -/
def lendRegs : Set Nat := {a | a = Reg.BPM_STATUS ∨ 0x90300 ≤ a}

@[simp] theorem mem_lendRegs {a : Nat} : a ∈ lendRegs ↔ a = Reg.BPM_STATUS ∨ 0x90300 ≤ a := Iff.rfl

theorem bpmCnt_lend (i : Nat) : Reg.BPM_CNT i ∈ lendRegs := .inr (by simp only [Reg.BPM_CNT]; omega)

/-- A step of allocations, gives and frees in pool 1 that fail no check. -/
structure State.lendStep (s t : State) : Prop where
  frame : s.within t lendRegs [.regs, .pools]
  ready : t.flag Reg.BPM_STATUS Fld.BPM_STATUS_READY = s.flag Reg.BPM_STATUS Fld.BPM_STATUS_READY

section
variable {s t u : State}

theorem State.lendStep.refl (s : State) : s.lendStep s := ⟨.refl s _ _, rfl⟩

theorem State.lendStep.trans (a : s.lendStep t) (b : t.lendStep u) : s.lendStep u :=
  ⟨a.frame.trans b.frame, b.ready.trans a.ready⟩

theorem State.within.lend {R : Set Nat} (a : s.within t R [.regs, .pools]) (hR : ∀ b ∈ R, 0x90300 ≤ b) : s.lendStep t :=
  ⟨a.mono (fun b hb => .inr (hR b hb)) (fun _ h => h),
    State.flag_of_reg (a.1 _ fun h => absurd (hR _ h) (by decide)) _⟩

theorem State.onlyParts.lend (a : s.onlyParts t [.pools]) : s.lendStep t :=
  State.within.lend (R := ∅) ((a.within (by decide) _).parts (by simp)) (by simp)

theorem State.setReg_lend (s : State) {a : Nat} (h : 0x90300 ≤ a) (v : Word64) : s.lendStep (s.setReg a v) :=
  State.within.lend ((s.setReg_within (Set.mem_singleton a) v).parts (by simp)) (by rintro _ rfl; exact h)

theorem State.poolWithdraw_lend (s : State) (p n : Nat) : s.lendStep (s.poolWithdraw p n) := by
  have hcounted := s.setReg_lend (a := Reg.BPM_CNT (Cnt.BPM_WITHDRAWN + p)) (by simp only [Reg.BPM_CNT]; omega)
    (s.reg (Reg.BPM_CNT (Cnt.BPM_WITHDRAWN + p)) + BitVec.ofNat 64 n)
  refine hcounted.trans ⟨((State.setReg_within _ (.inl rfl) _).parts (by simp)), ?_⟩
  exact State.flag_setFld_disjoint _ _ _ (by decide)

theorem State.lostRead_lend (s : State) (c : Nat) : s.lendStep (s.lostRead c) :=
  (s.setReg_lend (by simp only [Reg.DMC_CNT]; omega) _).trans (State.setReg_lend _ (by simp only [Reg.DMC_STATUS]; omega) _)

/-- A foreground read that is lost touches what it counts alone. -/
theorem State.dramRead_lost {l : Nat} (h : (s.dramRead l true .ok).1 = none) :
    (s.dramRead l true .ok).2 = (s.locate l).elim s (fun a => s.lostRead a.ch) := by
  unfold State.dramRead at h ⊢
  cases hat : s.locate l with
  | none => rfl
  | some a =>
    simp only [hat, State.bgCount, if_true] at h ⊢
    split at h
    · next hlost => rw [if_pos hlost, Option.elim_some]
    · split at h <;> simp at h

theorem State.dramRead_lost_lend {l : Nat} (h : (s.dramRead l true .ok).1 = none) : s.lendStep (s.dramRead l true .ok).2 := by
  rw [State.dramRead_lost h]
  cases s.locate l with
  | none => exact .refl s
  | some a => exact s.lostRead_lend _

/-- The metadata of a pointer elsewhere than pool 1 lies in device memory. -/
theorem State.metaRead_dram {x : Nat} (hx : ptrPool x ≠ 1) :
    (s.metaRead x .ok).1 = none ↔ (s.dramRead (((s.reg (Reg.BPM_META_BASE (ptrPool x))).toNat + ptrIndex x) / 64) true .ok).1 = none := by
  unfold State.metaRead
  rw [if_neg hx]
  dsimp only
  split
  · next h => simp [h]
  · next h => simp [h]

theorem State.metaRead_dram_state {x : Nat} (hx : ptrPool x ≠ 1) :
    (s.metaRead x .ok).2 = (s.dramRead (((s.reg (Reg.BPM_META_BASE (ptrPool x))).toNat + ptrIndex x) / 64) true .ok).2 := by
  unfold State.metaRead
  rw [if_neg hx]
  dsimp only
  split <;> rfl

/-- A pointer of pool 1 that is granted is noted as lent; pointers whose metadata is lost are withdrawn before it (R286). -/
theorem State.takePtr_park {r q x : Nat} (hx : ptrPool x = 1) (n : Nat) (hgrant : (s.takePtr r q 1 n .ok).1 = some x) :
    s.lendStep (s.takePtr r q 1 n .ok).2 ∧ Tbl.get 0 (s.takePtr r q 1 n .ok).2.pools.meta1 (ptrIndex x) = 1 + 2 * r := by
  induction n generalizing s with
  | zero => cases hgrant
  | succ n ih =>
    rw [State.takePtr] at hgrant ⊢
    dsimp only at hgrant ⊢
    cases hfirst : (s.cache q 1).free.find? s.ptrOn with
    | none => simp [hfirst] at hgrant
    | some y =>
      simp only [hfirst] at hgrant ⊢
      have htaken := (s.setCache_only q 1 { s.cache q 1 with free := (s.cache q 1).free.erase y, last := r }).lend
      generalize s.setCache q 1 { s.cache q 1 with free := (s.cache q 1).free.erase y, last := r } = t at *
      by_cases hy : ptrPool y = 1
      · rw [State.metaRead_park hy] at hgrant ⊢
        cases hgrant
        obtain ⟨howner, -, hwritten⟩ := t.metaWrite_park hy (1 + 2 * r)
        exact ⟨htaken.trans hwritten.lend, howner⟩
      · cases hread : (t.metaRead y .ok).1 with
        | some v =>
          simp only [hread, Option.some.injEq] at hgrant
          exact absurd (hgrant ▸ hx) hy
        | none =>
          simp only [hread] at hgrant ⊢
          have hlost : t.lendStep (t.metaRead y .ok).2 := by
            rw [State.metaRead_dram_state hy]
            exact State.dramRead_lost_lend ((State.metaRead_dram hy).1 hread)
          obtain ⟨hlend, howner⟩ := ih hgrant
          exact ⟨((htaken.trans hlost).trans (State.poolWithdraw_lend _ 1 1)).trans hlend, howner⟩

end

/-! ### An allocation does not depend on the host interface or the long operations -/

/-- The registers outside the host interface and the long operations (R456). -/
def poolRegs : Set Nat := {a | a < 0x40000 ∨ 0x60000 ≤ a}

@[simp] theorem mem_poolRegs {a : Nat} : a ∈ poolRegs ↔ a < 0x40000 ∨ 0x60000 ≤ a := Iff.rfl

theorem memoryRegs_pool : memoryRegs ⊆ poolRegs := fun a ha => by
  simp only [mem_memoryRegs, mem_poolRegs] at ha ⊢
  omega

/-- `t` is `s` but for the host interface, the long operations and registers of theirs. -/
structure State.sameTiers (s t : State) : Prop where
  regs : ∀ a ∈ poolRegs, t.reg a = s.reg a
  rest : s.onlyParts t [.regs, .lop, .hif]

section
variable {s t : State}

theorem State.within.sameTiers {R : Set Nat} {l : List Part} (h : s.within t R l) (hR : ∀ a ∈ R, 0x40000 ≤ a ∧ a < 0x60000)
    (hl : ∀ p ∈ l, p ∈ [Part.regs, .lop, .hif] := by decide) : s.sameTiers t :=
  ⟨fun a ha => h.1 a fun hmem => by
    have := hR a hmem
    simp only [mem_poolRegs] at ha
    omega, State.onlyParts_mono h.2 hl⟩

theorem State.sameTiers.fld_eq (h : s.sameTiers t) {a : Nat} (ha : a ∈ poolRegs) (f : Fld) : t.fld a f = s.fld a f :=
  State.fld_of_reg (h.regs a ha) f

theorem State.sameTiers.pools_eq (h : s.sameTiers t) : t.pools = s.pools := h.rest.2 .pools (by decide)

theorem State.sameTiers.down_eq (h : s.sameTiers t) {u : Nat} (hu : u < 315) : t.down u = s.down u := by
  rw [State.down, State.down, State.unitState, State.unitState, h.fld_eq (.inl (by simp only [Reg.FLT_UNIT]; omega))]

/-- The same change of a register on both sides. -/
theorem State.sameTiers.setReg (h : s.sameTiers t) (a : Nat) (v : Word64) : (s.setReg a v).sameTiers (t.setReg a v) := by
  refine ⟨fun b hb => by rw [State.reg_setReg, State.reg_setReg, h.regs b hb], h.rest.1, fun p hp => ?_⟩
  have hsame := h.rest.2 p hp
  cases p with
  | regs => exact absurd hp (by simp)
  | _ => exact hsame

/-- The same change of the pools on both sides. -/
theorem State.sameTiers.setPools (h : s.sameTiers t) (x : PoolSt) : State.sameTiers { s with pools := x } { t with pools := x } := by
  refine ⟨h.regs, h.rest.1, fun p hp => ?_⟩
  have hsame := h.rest.2 p hp
  cases p with
  | pools => exact rfl
  | _ => exact hsame

theorem State.sameTiers.setCache (h : s.sameTiers t) (q p : Nat) (x : PoolCache) : (s.setCache q p x).sameTiers (t.setCache q p x) := by
  have hpools : t.setCache q p x = { t with pools := (s.setCache q p x).pools } := by
    unfold State.setCache
    rw [h.pools_eq]
  rw [hpools]
  exact h.setPools _

theorem State.sameTiers.setFld (h : s.sameTiers t) {a : Nat} (ha : a ∈ poolRegs) (f : Fld) (x : Nat) :
    (s.setFld a f x).sameTiers (t.setFld a f x) := by
  have hword : t.setFld a f x = t.setReg a ((s.reg a).put f x) := by rw [State.setFld, h.regs a ha]
  rw [hword]
  exact h.setReg a _

theorem State.sameTiers.bump (h : s.sameTiers t) {a : Nat} (ha : a ∈ poolRegs) : (s.bump a).sameTiers (t.bump a) := by
  have hword : t.bump a = t.setReg a (s.reg a + 1) := by rw [← h.regs a ha]; rfl
  rw [hword]
  exact h.setReg a _

theorem State.sameTiers.poolWithdraw (h : s.sameTiers t) (p n : Nat) : (s.poolWithdraw p n).sameTiers (t.poolWithdraw p n) := by
  have hcnt : Reg.BPM_CNT (Cnt.BPM_WITHDRAWN + p) ∈ poolRegs := .inr (by simp only [Reg.BPM_CNT]; omega)
  have hcounted : (s.bumpBy (Reg.BPM_CNT (Cnt.BPM_WITHDRAWN + p)) n).sameTiers (t.bumpBy (Reg.BPM_CNT (Cnt.BPM_WITHDRAWN + p)) n) := by
    rw [State.bumpBy, State.bumpBy, h.regs _ hcnt]
    exact h.setReg _ _
  unfold State.poolWithdraw State.orFld
  generalize s.bumpBy _ _ = v at *
  generalize t.bumpBy _ _ = w at *
  have hstatus : Reg.BPM_STATUS ∈ poolRegs := .inr (by decide)
  rw [hcounted.fld_eq hstatus]
  exact hcounted.setFld hstatus _ _

theorem State.sameTiers.dramRead (h : s.sameTiers t) (l : Nat) : (t.dramRead l true .ok).1 = (s.dramRead l true .ok).1 :=
  State.dramRead_of_memory (fun a ha => h.regs a (memoryRegs_pool ha)) (h.rest.2 .dram (by decide)) l .ok

theorem State.sameTiers.dramRead_lost (h : s.sameTiers t) {l : Nat} (hlost : (s.dramRead l true .ok).1 = none) :
    (s.dramRead l true .ok).2.sameTiers (t.dramRead l true .ok).2 := by
  rw [State.dramRead_lost hlost, State.dramRead_lost ((h.dramRead l).trans hlost),
    State.locate_of_memory fun a ha => h.regs a (memoryRegs_pool ha)]
  cases s.locate l with
  | none => exact h
  | some a => exact (h.bump (.inr (by simp only [Reg.DMC_CNT]; omega))).setFld (memoryRegs_pool (.inr (by simp only [Reg.DMC_STATUS]; omega))) _ _

theorem State.sameTiers.ptrOn_eq (h : s.sameTiers t) : t.ptrOn = s.ptrOn := funext fun y => by
  unfold State.ptrOn State.domOn State.dom
  rw [h.fld_eq (.inr (by simp only [Reg.PMU_PD_STATE]; omega))]

theorem State.sameTiers.takePtr (h : s.sameTiers t) {r q x : Nat} (hx : ptrPool x = 1) (n : Nat)
    (hgrant : (s.takePtr r q 1 n .ok).1 = some x) : (t.takePtr r q 1 n .ok).1 = some x := by
  induction n generalizing s t with
  | zero => cases hgrant
  | succ n ih =>
    have hcache : t.cache q 1 = s.cache q 1 := State.cache_of_pools h.pools_eq q 1
    rw [State.takePtr] at hgrant ⊢
    dsimp only at hgrant ⊢
    rw [hcache, h.ptrOn_eq]
    cases hfirst : (s.cache q 1).free.find? s.ptrOn with
    | none => simp [hfirst] at hgrant
    | some y =>
      simp only [hfirst] at hgrant ⊢
      have htaken := h.setCache q 1 { s.cache q 1 with free := (s.cache q 1).free.erase y, last := r }
      generalize s.setCache q 1 _ = v at *
      generalize t.setCache q 1 _ = w at *
      by_cases hy : ptrPool y = 1
      · rw [State.metaRead_park hy] at hgrant ⊢
        exact hgrant
      · have hbase : w.reg (Reg.BPM_META_BASE (ptrPool y)) = v.reg (Reg.BPM_META_BASE (ptrPool y)) :=
          htaken.regs _ (.inr (by simp only [Reg.BPM_META_BASE]; omega))
        cases hread : (v.metaRead y .ok).1 with
        | some b =>
          simp only [hread, Option.some.injEq] at hgrant
          exact absurd (hgrant ▸ hx) hy
        | none =>
          have hlost := (State.metaRead_dram hy).1 hread
          have hlost' : (w.metaRead y .ok).1 = none :=
            (State.metaRead_dram hy).2 (by rw [hbase, htaken.dramRead]; exact hlost)
          simp only [hread] at hgrant
          simp only [hlost']
          refine ih (State.sameTiers.poolWithdraw ?_ 1 1) hgrant
          rw [State.metaRead_dram_state hy, State.metaRead_dram_state hy, hbase]
          exact htaken.dramRead_lost hlost

end

/-! ### The pool's answer -/

section
variable {s t : State} {r x : Nat}

/-- A buffer of pool 1 that is granted. -/
theorem State.poolAlloc_granted :
    (s.poolAlloc r 1).1 = .granted x ↔ s.flag Reg.BPM_STATUS Fld.BPM_STATUS_READY = true ∧ s.poolCount 1 ≠ 0 ∧ s.down unitBpm = false
      ∧ s.askedBefore r 1 < s.cached (reqQuad r) 1 ∧ (s.takePtr r (reqQuad r) 1 (s.cache (reqQuad r) 1).free.length .ok).1 = some x := by
  unfold State.poolAlloc
  dsimp only
  cases hready : s.flag Reg.BPM_STATUS Fld.BPM_STATUS_READY with
  | false => simp
  | true =>
    by_cases hnone : s.poolCount 1 = 0 ∨ s.down unitBpm = true
    · rw [if_neg (by simp), if_pos hnone]
      simp only [reduceCtorEq, false_iff, not_and]
      intro _ hcount hdown
      simp [hcount, hdown] at hnone
    · rw [if_neg (by simp), if_neg hnone]
      simp only [not_or, Bool.not_eq_true] at hnone
      by_cases hturn : s.cached (reqQuad r) 1 ≤ s.askedBefore r 1
      · rw [if_pos hturn]
        have := Nat.not_lt.2 hturn
        simp only [this, false_and, and_false, iff_false]
        split <;> exact PoolAns.noConfusion
      · rw [if_neg hturn]
        have := Nat.not_le.1 hturn
        split
        · next y hy => simp [hnone, this, hy]
        · next hy => simp only [hy]; split <;> simp

theorem State.poolAlloc_lends (hx : ptrPool x = 1) (hgrant : (s.poolAlloc r 1).1 = .granted x) :
    s.lendStep (s.poolAlloc r 1).2 ∧ Tbl.get 0 (s.poolAlloc r 1).2.pools.meta1 (ptrIndex x) = 1 + 2 * r := by
  obtain ⟨hready, hcount, hup, hturn, htake⟩ := State.poolAlloc_granted.1 hgrant
  obtain ⟨hlend, howner⟩ := State.takePtr_park hx _ htake
  have heq : (s.poolAlloc r 1).2
      = (((s.takePtr r (reqQuad r) 1 (s.cache (reqQuad r) 1).free.length .ok).2.setAsk r 1 false).bpmBump (Cnt.BPM_ALLOC + 1)).poolNote 1 := by
    unfold State.poolAlloc
    dsimp only
    rw [if_neg (by simp [hready]), if_neg (by simp [hcount, hup]), if_neg (Nat.not_le.2 hturn), htake]
  rw [heq]
  generalize (s.takePtr r (reqQuad r) 1 (s.cache (reqQuad r) 1).free.length .ok).2 = t at *
  exact ⟨(((hlend.trans (t.setAsk_only r 1 false).lend).trans (State.setReg_lend _ (by decide) _)).trans
    (State.poolNote_only _ 1).lend), howner⟩

theorem State.sameTiers.bufferFor (h : s.sameTiers t) {n : Nat} (hbuffer : s.bufferFor n) : t.bufferFor n := by
  have hready : t.flag Reg.BPM_STATUS Fld.BPM_STATUS_READY = s.flag Reg.BPM_STATUS Fld.BPM_STATUS_READY :=
    State.flag_of_reg (h.regs _ (.inr (by decide))) _
  have hpool (p : Nat) (f : Fld) : t.fld (Reg.BPM_POOL_CFG p) f = s.fld (Reg.BPM_POOL_CFG p) f :=
    h.fld_eq (.inr (by simp only [Reg.BPM_POOL_CFG]; omega)) f
  have hactive : t.activeCc = s.activeCc := h.fld_eq (.inr (by decide)) _
  obtain hoff | ⟨hfit, x, hgrant, hbits, hwithin⟩ := hbuffer
  · exact .inl (hready.trans hoff)
  · obtain ⟨hon, hcount, hup, hturn, htake⟩ := State.poolAlloc_granted.1 hgrant
    have hcache (q : Nat) : t.cache q 1 = s.cache q 1 := State.cache_of_pools h.pools_eq q 1
    have hlive : t.askLive = s.askLive := funext fun w => by
      rw [State.askLive, State.askLive, h.rest.shard_eq (by decide)]
    refine .inr ⟨?_, x, State.poolAlloc_granted.2 ⟨hready.trans hon, ?_, (h.down_eq (by decide)).trans hup, ?_, ?_⟩, hbits, ?_⟩
    · rw [← hfit]
      unfold State.fitPool State.poolCount State.poolSize
      simp only [hpool]
    · rwa [State.poolCount, hpool]
    · simpa only [State.askedBefore, State.cached, hcache, h.ptrOn_eq, hlive, hactive] using hturn
    · rw [hactive, hcache]
      exact h.takePtr (by unfold ptrPool; omega) _ htake
    · rwa [State.poolCount, hpool]

end

end Sys2Proof.Machine
end

section
/-! PROOF. Output of a long operation on its way to the ring (R280, R283, R369): one result buffer, and all that find room. -/

namespace Sys2Proof.Machine

set_option Elab.async false

/-- Bytes stored read back. -/
theorem memRead_memWrite_same (m : Tbl Byte) (a : Nat) {n : Nat} {b : List Byte} (hb : b.length = n) :
    memRead (memWrite m a b) a n = b := by
  subst hb
  simp only [memRead_eq_map, memWrite_get]
  refine List.ext_getElem (by simp) fun i hi hi' => ?_
  rw [List.length_map, List.length_range] at hi
  rw [List.getElem_map, List.getElem_range, if_pos (by omega), Nat.add_sub_cancel_left, List.getD_eq_getElem _ _ hi']

/-! ### Lines sent -/

/-- The ring's bytes after lines are sent to it (R369). -/
def State.lopRing (s : State) (i : Nat) (bytes : List Byte) : Tbl Byte :=
  let size := max 1 (s.fld (Reg.LOP_OUT_CFG i) Fld.LOP_OUT_CFG_LINES)
  let base := 64 * s.fld (Reg.LOP_OUT_ADDR i) Fld.LOP_OUT_ADDR_ADDR
  forEach (List.range (bytes.length / 64))
    (fun k m => memWrite m (base + (s.lopFld i lopLines + k) % size * 64) (bytesAt bytes (64 * k) 64)) s.hif.mem

/-- One line. -/
theorem State.lopRing_line {s : State} {i : Nat} {b : List Byte} (hb : b.length = 64)
    (hsize : 0 < s.fld (Reg.LOP_OUT_CFG i) Fld.LOP_OUT_CFG_LINES) :
    s.lopRing i b = memWrite s.hif.mem (64 * s.fld (Reg.LOP_OUT_ADDR i) Fld.LOP_OUT_ADDR_ADDR
      + s.lopFld i lopLines % s.fld (Reg.LOP_OUT_CFG i) Fld.LOP_OUT_CFG_LINES * 64) b := by
  unfold State.lopRing
  rw [hb, Nat.max_eq_right hsize]
  exact congrArg _ (bytesAt_whole hb)

section
variable (s : State) (i n : Nat) (b : List Byte)

theorem State.lopSend_shows :
    ((s.lopSend i n b).lopSlot i).buf = (s.lopSlot i).buf.drop (64 * n)
      ∧ (s.lopSend i n b).lopFld i lopLines = (s.lopFld i lopLines + b.length / 64) % 4294967296
      ∧ (s.lopSend i n b).lopFld i lopState = 1 ∧ (s.lopSend i n b).lopFld i lopCode = s.lopFld i lopCode
      ∧ (s.lopSend i n b).hif.mem = s.lopRing i b
      ∧ s.within (s.lopSend i n b) {Reg.LOP_STATUS i} [.regs, .lop, .hif] := by
  obtain ⟨t, heq, hbuf, hfld, hmem, hparts⟩ : ∃ t : State, s.lopSend i n b = t.lopMoved i (b.length / 64)
      ∧ (t.lopSlot i).buf = (s.lopSlot i).buf.drop (64 * n) ∧ (∀ f, t.lopFld i f = s.lopFld i f) ∧ t.hif.mem = s.lopRing i b
      ∧ s.onlyParts t [.lop, .hif] := by
    refine ⟨_, rfl, congrArg LopSt.buf (s.lopSlot_setLop_self i _), fun _ => rfl, rfl, ?_⟩
    exact State.onlyParts_trans (State.onlyParts_mono (s.setLop_rest i _) (by simp))
      (State.onlyParts_mono (State.setHif_rest _ _) (by simp))
  rw [heq]
  obtain ⟨hstate, hlines, hcode, -⟩ := t.lopMoved_shows i (b.length / 64)
  have hmoved := t.lopMoved_within i (b.length / 64)
  refine ⟨?_, by rw [hlines, hfld], hstate, by rw [hcode, hfld], ?_,
    ((hparts.within (by decide) _).parts (by simp)).trans (hmoved.parts (by simp))⟩
  · rw [← hbuf]
    exact t.lopSlot_lopPut LopSt.buf i i _
  · rw [hmoved.2.2 .hif (by decide)]
    exact hmem

end

/-- What is kept of a slot apart from the output that waits and the mirror's turn. -/
theorem State.lopSend_kept {α : Type} (g : LopSt → α) (hg : ∀ (x : LopSt) b d, g { x with buf := b, dirty := d } = g x) (s : State)
    (i n : Nat) (b : List Byte) : g ((s.lopSend i n b).lopSlot i) = g (s.lopSlot i) := by
  have hcut : g ((s.setLop i { s.lopSlot i with buf := (s.lopSlot i).buf.drop (64 * n) }).lopSlot i) = g (s.lopSlot i) :=
    (congrArg g (s.lopSlot_setLop_self i _)).trans (hg _ _ _)
  exact (State.lopSlot_lopPut g _ i i _ fun x d => hg x x.buf d).trans hcut

/-! ### One result buffer -/

/-- The active complex's number among the requesters. -/
theorem State.requester_lt (s : State) : 21 + s.activeCc < 64 := by
  have := s.activeCc_lt
  omega

/-- Buffer `x` of pool 1 is lent to `r`, and the pool answers. -/
structure State.lent (s : State) (x r : Nat) : Prop where
  ready : s.flag Reg.BPM_STATUS Fld.BPM_STATUS_READY = true
  up : s.down unitBpm = false
  park : s.inPark x
  small : r < 64
  owner : Tbl.get 0 s.pools.meta1 (ptrIndex x) = 1 + 2 * r

section
variable {s t : State} {x r : Nat}

theorem State.lendStep.fld_eq (h : s.lendStep t) {a : Nat} (ha : a ≠ Reg.BPM_STATUS ∧ a < 0x90300) (f : Fld) : t.fld a f = s.fld a f :=
  State.fld_of_reg (h.frame.1 a (by simp only [mem_lendRegs]; omega)) f

theorem State.lendStep.lent (h : s.lendStep t) (hready : s.flag Reg.BPM_STATUS Fld.BPM_STATUS_READY = true)
    (hup : s.down unitBpm = false) (hx : s.inPark x) (hr : r < 64) (howner : Tbl.get 0 t.pools.meta1 (ptrIndex x) = 1 + 2 * r) :
    t.lent x r where
  ready := h.ready.trans hready
  up := by
    rw [State.down, State.unitState, h.fld_eq (by decide)]
    exact hup
  park := ⟨hx.pool, hx.bits, by
    rw [State.poolCount, h.fld_eq (by decide)]
    exact hx.within⟩
  small := hr
  owner := howner

theorem State.sameTiers.lent (h : s.sameTiers t) (hlent : s.lent x r) : t.lent x r where
  ready := (State.flag_of_reg (h.regs _ (.inr (by decide))) _).trans hlent.ready
  up := (h.down_eq (by decide)).trans hlent.up
  park := ⟨hlent.park.pool, hlent.park.bits, by
    rw [State.poolCount, h.fld_eq (.inr (by decide))]
    exact hlent.park.within⟩
  small := hlent.small
  owner := by rw [h.pools_eq, hlent.owner]

/-- A free in pool 1 by its owner. -/
theorem State.lent.release (h : s.lent x r) : s.lendStep (s.poolRelease r x) := by
  by_cases hroom : s.cached (reqQuad r) 1 < 512
  · obtain ⟨-, -, -, hfreed⟩ := State.poolRelease_frees h.park h.ready h.up hroom h.small h.owner
    exact hfreed.lend (by rintro _ rfl; decide)
  · unfold State.poolRelease
    dsimp only
    rw [h.park.pool, if_neg (by simp [h.ready, h.up]), if_pos (.inl (Nat.not_lt.1 hroom))]
    exact (s.setCache_only _ _ _).lend

/-- A buffer given to another requester. -/
theorem State.lent.hand (h : s.lent x r) {w : Nat} (hw : w < 64) :
    s.lendStep (s.poolHand r x w) ∧ (s.poolHand r x w).lent x w ∧ (s.poolHand r x w).pools.park = s.pools.park := by
  obtain ⟨hgiven, -, hframe⟩ := State.poolHand_gives h.park h.ready h.up h.small h.owner w
  have hstep : s.lendStep (s.poolHand r x w) := hframe.lend (by rintro _ rfl; decide)
  refine ⟨hstep, hstep.lent h.ready h.up h.park hw hgiven, ?_⟩
  unfold State.poolHand
  rw [if_neg (by simp [h.ready, h.up]), State.poolCheck_owner h.park h.small h.owner]
  dsimp only
  unfold State.metaWrite
  rw [if_pos h.park.pool]
  rfl

end

/-- A result buffer carries `n` lines: nothing but the ring, its count and the pool changes (R280, R284). -/
theorem State.lopBuffer_sends {s : State} {i n : Nat} (hi : i < 16) (hbuffer : s.bufferFor n)
    (hlen : 64 * n ≤ (s.lopSlot i).buf.length) :
    ∃ t u, s.lopBuffer i n = (true, u) ∧ s.lendStep t ∧ (t.lopSend i n ((s.lopSlot i).buf.take (64 * n))).lendStep u := by
  unfold State.lopBuffer
  dsimp only
  obtain hoff | ⟨hfit, x, hgrant, hbits, hwithin⟩ := hbuffer
  · rw [if_pos (by simp [hoff])]
    exact ⟨s, _, rfl, .refl s, .refl _⟩
  · have hx : s.inPark x := ⟨by unfold ptrPool; omega, by omega, hwithin⟩
    obtain ⟨hready, -, hup, -⟩ := State.poolAlloc_granted.1 hgrant
    obtain ⟨hlend, howner⟩ := State.poolAlloc_lends hx.pool hgrant
    rw [if_neg (by simp [hready]), hfit]
    dsimp only
    rw [hgrant]
    dsimp only
    generalize (s.poolAlloc (21 + s.activeCc) 1).2 = v at *
    have hlength : ((s.lopSlot i).buf.take (64 * n)).length = 64 * n := by rw [List.length_take]; omega
    generalize (s.lopSlot i).buf.take (64 * n) = b at *
    obtain ⟨w, hw, hstored, hkept, hpark⟩ : ∃ w, v.bufWrite x b = w ∧ v.lendStep w
        ∧ w.pools.meta1 = v.pools.meta1 ∧ w.pools.park = memWrite v.pools.park (512 * ptrIndex x) b :=
      ⟨_, if_pos hx.pool, (v.setPools_only _).lend, rfl, rfl⟩
    have hlent : w.lent x (21 + s.activeCc) := (hlend.trans hstored).lent hready hup hx s.requester_lt (by rw [hkept, howner])
    obtain ⟨hhanded, hgiven, hsame⟩ := hlent.hand (w := reqHif) (by decide)
    rw [hw]
    generalize w.poolHand (21 + s.activeCc) x reqHif = y at *
    have hread : y.bufRead x (64 * n) = (b, false, y) := by
      unfold State.bufRead
      rw [if_pos hx.pool, hsame, hpark, memRead_memWrite_same _ _ hlength]
    rw [hread]
    obtain ⟨-, -, -, -, -, hsent⟩ := y.lopSend_shows i n b
    have hstatus : ∀ a ∈ ({Reg.LOP_STATUS i} : Set Nat), 0x40000 ≤ a ∧ a < 0x60000 := by
      rintro _ rfl
      simp only [Reg.LOP_STATUS]
      omega
    exact ⟨y, _, rfl, (hlend.trans hstored).trans hhanded, ((hsent.sameTiers hstatus).lent hgiven).release⟩

/-! ### As much as finds room (R283) -/

section
variable {s : State} {i : Nat}

theorem State.lopChunk_empty (h : (s.lopSlot i).buf = []) : s.lopChunk i = 0 := by
  unfold State.lopChunk
  rw [h]
  simp

theorem State.lopPass_empty (h : (s.lopSlot i).buf = []) (n : Nat) : s.lopPass i n = s := by
  cases n with
  | zero => rfl
  | succ n => exact if_pos (State.lopChunk_empty h)

/-- All the output that waits goes out in one buffer. -/
theorem State.lopChunk_all {k : Nat} (hlen : (s.lopSlot i).buf.length = 64 * k) (hroom : k ≤ s.outRoom i) (hdma : s.dmaEn = true)
    (hbuffer : s.bufferFor k) : s.lopChunk i = k := by
  have hmin : min (s.outRoom i) ((s.lopSlot i).buf.length / 64) = k := by omega
  unfold State.lopChunk
  rw [if_pos hdma, hmin]
  refine if_pos ?_
  obtain hoff | ⟨hfit, -⟩ := hbuffer
  · exact .inr (by simp [hoff])
  · exact .inl (by simp [hfit])

theorem State.lopDrain_sends {k : Nat} (hi : i < 16) (hk : 0 < k) (hlen : (s.lopSlot i).buf.length = 64 * k)
    (hroom : k ≤ s.outRoom i) (hdma : s.dmaEn = true) (hbuffer : s.bufferFor k) :
    ((s.lopDrain i).lopSlot i).buf = [] ∧ (s.lopDrain i).lopFld i lopLines = (s.lopFld i lopLines + k) % 4294967296
      ∧ (s.lopDrain i).lopFld i lopCode = s.lopFld i lopCode ∧ (s.lopDrain i).hif.mem = s.lopRing i (s.lopSlot i).buf
      ∧ ((s.lopDrain i).lopSlot i).run = (s.lopSlot i).run ∧ ((s.lopDrain i).lopSlot i).fin = (s.lopSlot i).fin
      ∧ s.within (s.lopDrain i) (lendRegs ∪ {Reg.LOP_STATUS i}) [.regs, .lop, .hif, .pools] := by
  obtain ⟨t, u, hsends, hlend, hfreed⟩ := State.lopBuffer_sends hi hbuffer hlen.ge
  obtain ⟨m, rfl⟩ := Nat.exists_eq_add_one.2 hk
  rw [List.take_of_length_le hlen.le] at hfreed
  have hsame {a : Nat} (ha : a < 0x90000) : t.reg a = s.reg a ∧ u.reg a = (t.lopSend i (m + 1) (s.lopSlot i).buf).reg a := by
    have hout : a ∉ lendRegs := by
      simp only [mem_lendRegs, Reg.BPM_STATUS]
      omega
    exact ⟨hlend.frame.1 a hout, hfreed.frame.1 a hout⟩
  have hstatus := hsame (a := Reg.LOP_STATUS i) (by simp only [Reg.LOP_STATUS]; omega)
  have hring : t.lopRing i (s.lopSlot i).buf = s.lopRing i (s.lopSlot i).buf := by
    unfold State.lopRing
    rw [State.fld_of_reg (hsame (a := Reg.LOP_OUT_CFG i) (by simp only [Reg.LOP_OUT_CFG]; omega)).1,
      State.fld_of_reg (hsame (a := Reg.LOP_OUT_ADDR i) (by simp only [Reg.LOP_OUT_ADDR]; omega)).1, State.lopFld_of_reg hstatus.1,
      hlend.frame.2.2 .hif (by decide)]
  obtain ⟨hbuf, hlines, -, hcode, hmem, hsent⟩ := t.lopSend_shows i (m + 1) (s.lopSlot i).buf
  have hslot : t.lopSlot i = s.lopSlot i := State.lopSlot_of_lop (hlend.frame.2.2 .lop (by decide)) i
  have hkept : u.lopSlot i = (t.lopSend i (m + 1) (s.lopSlot i).buf).lopSlot i := State.lopSlot_of_lop (hfreed.frame.2.2 .lop (by decide)) i
  rw [hslot, List.drop_of_length_le hlen.le, ← hkept] at hbuf
  have heq : s.lopDrain i = u := by
    have hpass : s.lopPass i ((s.lopSlot i).buf.length / 64) = u := by
      rw [hlen, Nat.mul_div_cancel_left _ (by decide), State.lopPass]
      dsimp only
      rw [State.lopChunk_all hlen hroom hdma hbuffer, if_neg (by omega), hsends]
      exact (if_pos rfl).trans (State.lopPass_empty hbuf m)
    unfold State.lopDrain
    rw [hpass]
    exact if_pos hbuf
  rw [heq]
  refine ⟨hbuf, ?_, ?_, ?_, ?_, ?_, ?_⟩
  · rw [State.lopFld_of_reg hstatus.2, hlines, State.lopFld_of_reg hstatus.1, hlen, Nat.mul_div_cancel_left _ (by decide)]
  · rw [State.lopFld_of_reg hstatus.2, hcode, State.lopFld_of_reg hstatus.1]
  · rw [hfreed.frame.2.2 .hif (by decide), hmem, hring]
  · rw [hkept, State.lopSend_kept LopSt.run (fun _ _ _ => rfl), hslot]
  · rw [hkept, State.lopSend_kept LopSt.fin (fun _ _ _ => rfl), hslot]
  · exact ((hlend.frame.mono Set.subset_union_left (by simp)).trans (hsent.mono Set.subset_union_right (by simp))).trans
      (hfreed.frame.mono Set.subset_union_left (by simp))

/-- Where no result buffer is used, output changes its slot and the host's memory alone. -/
theorem State.lopPass_unpooled (hoff : s.flag Reg.BPM_STATUS Fld.BPM_STATUS_READY = false ∨ s.dmaEn = false) (hi : i < 16) (n : Nat) :
    s.within (s.lopPass i n) {Reg.LOP_STATUS i} [.regs, .lop, .hif] := by
  induction n generalizing s with
  | zero => exact .refl s _ _
  | succ n ih =>
    rw [State.lopPass]
    dsimp only
    split
    · exact .refl s _ _
    · next hchunk =>
      obtain hoff | hdma := hoff
      · have hbuffer : s.lopBuffer i (s.lopChunk i) = (true, s.lopSend i (s.lopChunk i) ((s.lopSlot i).buf.take (64 * s.lopChunk i))) :=
          if_pos (by simp [hoff])
        obtain ⟨-, -, -, -, -, hsent⟩ := s.lopSend_shows i (s.lopChunk i) ((s.lopSlot i).buf.take (64 * s.lopChunk i))
        rw [hbuffer, if_pos rfl]
        refine hsent.trans (ih (.inl ((State.flag_of_reg (hsent.1 _ ?_) _).trans hoff)))
        simp only [Set.mem_singleton_iff, Reg.BPM_STATUS, Reg.LOP_STATUS]
        omega
      · exact absurd (by simp [State.lopChunk, hdma]) hchunk

theorem State.lopDrain_unpooled (hoff : s.flag Reg.BPM_STATUS Fld.BPM_STATUS_READY = false ∨ s.dmaEn = false) (hi : i < 16) :
    s.within (s.lopDrain i) {Reg.LOP_STATUS i} [.regs, .lop, .hif] := by
  have hpass := State.lopPass_unpooled hoff hi ((s.lopSlot i).buf.length / 64)
  unfold State.lopDrain
  dsimp only
  split
  · exact hpass
  · exact hpass.trans ((State.lopShow_within _ _ _).parts (by simp))

/-- An operation whose output is written ends where it is done or aborted. -/
theorem State.lopSettle_shows (s : State) (i : Nat) :
    ((s.lopSlot i).buf = [] → ((s.lopSettle i).lopSlot i).buf = []) ∧ (s.lopSettle i).lopFld i lopLines = s.lopFld i lopLines
      ∧ s.within (s.lopSettle i) {Reg.LOP_STATUS i} [.regs, .lop] := by
  have hcode (r : LopRun) : r.doneCode < 65536 := by
    unfold LopRun.doneCode
    split <;> decide
  unfold State.lopSettle
  dsimp only
  split
  · exact ⟨id, rfl, .refl s _ _⟩
  · split
    · obtain ⟨-, -, hlines, -, -, hbuf⟩ := s.lopEnd_shows i (st := 3) (by decide) (hcode (s.lopSlot i).run)
      exact ⟨fun _ => hbuf, hlines, s.lopEnd_within i 3 _⟩
    · split
      · obtain ⟨-, -, hlines, -, -, hbuf⟩ := s.lopEnd_shows i (st := 5) (code := lopAborted) (by decide) (by decide)
        exact ⟨fun _ => hbuf, hlines, s.lopEnd_within i 5 _⟩
      · exact ⟨id, rfl, .refl s _ _⟩

end

end Sys2Proof.Machine
end

section
/-! PROOF. ABORT, the ring pointers and the status mirror of a long operation (R368, R369, R372), and O51. -/

namespace Sys2Proof.Machine

set_option Elab.async false

section
variable {s : State} {i : Nat}

theorem lopAbort_scrub {x : Nat} (hactive : s.lopActive i = true) (hrun : (s.lopSlot i).run = .scrub x) :
    lopAbort i s = s.lopEnd i 5 lopAborted := by
  unfold lopAbort
  dsimp only
  rw [if_neg (by simp [hactive]), hrun]

/-- More input is announced; a slot that waited for it runs on. -/
theorem lopInProdWrite_shows (s : State) (i : Nat) {prod : Nat} (hprod : prod < 4294967296) (last : Bool) :
    (lopInProdWrite i prod last s).fld (Reg.LOP_IN_PROD i) Fld.LOP_IN_PROD_PROD = prod
      ∧ (lopInProdWrite i prod last s).flag (Reg.LOP_IN_PROD i) Fld.LOP_IN_PROD_END = last
      ∧ s.within (lopInProdWrite i prod last s) {a | a ∈ [Reg.LOP_IN_PROD i, Reg.LOP_STATUS i]} [.regs, .lop] := by
  let a := Reg.LOP_IN_PROD i
  have hshown : ((s.setFld a Fld.LOP_IN_PROD_PROD prod).setFld a Fld.LOP_IN_PROD_END (bit last)).fld a Fld.LOP_IN_PROD_PROD = prod :=
    (State.fld_setFld_disjoint _ _ _ (by decide)).trans (State.fld_setFld_fits _ _ (by decide) hprod)
  have hlast : ((s.setFld a Fld.LOP_IN_PROD_PROD prod).setFld a Fld.LOP_IN_PROD_END (bit last)).flag a Fld.LOP_IN_PROD_END = last :=
    State.flag_setFld_bit _ _ ⟨rfl, by decide⟩ last
  have hwritten : s.within ((s.setFld a Fld.LOP_IN_PROD_PROD prod).setFld a Fld.LOP_IN_PROD_END (bit last))
      {a | a ∈ [Reg.LOP_IN_PROD i, Reg.LOP_STATUS i]} [.regs, .lop] :=
    ((State.within.refl s _ _).setFld _ _ _ (by simp [a])).setFld _ _ _ (by simp [a])
  have hcases : lopInProdWrite i prod last s = State.lopShow _ i 1 ∨ lopInProdWrite i prod last s = _ := ite_eq_or_eq _ _ _
  generalize (s.setFld a Fld.LOP_IN_PROD_PROD prod).setFld a Fld.LOP_IN_PROD_END (bit last) = t at *
  obtain heq | heq := hcases <;> rw [heq]
  · have hrun := t.lopShow_within i 1
    have hkept : a ∉ ({Reg.LOP_STATUS i} : Set Nat) := by
      simp only [a, Set.mem_singleton_iff, Reg.LOP_IN_PROD, Reg.LOP_STATUS]
      omega
    exact ⟨(hrun.fld_eq hkept _).trans hshown, (hrun.flag_eq hkept _).trans hlast, hwritten.step hrun (by simp)⟩
  · exact ⟨hshown, hlast, hwritten⟩

/-- The host has taken output: with nothing to write, or no result buffers in use. -/
theorem lopOutConsWrite_quiet (hi : i < 16) {cons : Nat} (hcons : cons < 4294967296)
    (hquiet : (s.lopSlot i).buf = [] ∨ s.flag Reg.BPM_STATUS Fld.BPM_STATUS_READY = false) :
    (lopOutConsWrite i cons s).fld (Reg.LOP_OUT_CONS i) Fld.LOP_OUT_CONS_CONS = cons
      ∧ s.within (lopOutConsWrite i cons s) {a | a ∈ [Reg.LOP_OUT_CONS i, Reg.LOP_STATUS i]} [.regs, .lop, .hif] := by
  have hshown := State.fld_setFld_fits s (Reg.LOP_OUT_CONS i) (f := Fld.LOP_OUT_CONS_CONS) (by decide) hcons
  have hwritten : s.within (s.setFld (Reg.LOP_OUT_CONS i) Fld.LOP_OUT_CONS_CONS cons)
      {a | a ∈ [Reg.LOP_OUT_CONS i, Reg.LOP_STATUS i]} [.regs, .lop, .hif] := (State.within.refl s _ _).setFld _ _ _ (by simp)
  have hready : (s.setFld (Reg.LOP_OUT_CONS i) Fld.LOP_OUT_CONS_CONS cons).flag Reg.BPM_STATUS Fld.BPM_STATUS_READY
      = s.flag Reg.BPM_STATUS Fld.BPM_STATUS_READY :=
    State.flag_setFld_other s _ _ _ (by simp only [Reg.BPM_STATUS, Reg.LOP_OUT_CONS]; omega)
  have hslot : (s.setFld (Reg.LOP_OUT_CONS i) Fld.LOP_OUT_CONS_CONS cons).lopSlot i = s.lopSlot i := rfl
  unfold lopOutConsWrite
  dsimp only
  generalize s.setFld (Reg.LOP_OUT_CONS i) Fld.LOP_OUT_CONS_CONS cons = t at *
  split
  · next hdue =>
    obtain hempty | hoff := hquiet
    · exact absurd (hslot ▸ hempty) hdue.2.1
    · have hdrained := State.lopDrain_unpooled (.inl (hready.trans hoff)) hi
      obtain ⟨-, -, hsettled⟩ := (t.lopDrain i).lopSettle_shows i
      have hout := hdrained.step hsettled (fun _ ha => ha)
      refine ⟨(hout.fld_eq ?_ _).trans hshown, hwritten.step hout (by simp)⟩
      simp only [Set.mem_singleton_iff, Reg.LOP_OUT_CONS, Reg.LOP_STATUS]
      omega
  · exact ⟨hshown, hwritten⟩

/-- The host makes room for the line that waits. -/
theorem lopOutConsWrite_sends {u : State} {cons : Nat} (hu : u = s.setFld (Reg.LOP_OUT_CONS i) Fld.LOP_OUT_CONS_CONS cons) (hi : i < 16)
    (hlen : (s.lopSlot i).buf.length = 64) (hwaits : s.lopFld i lopState = 2) (hop : opOutput (s.lopFld i lopOp) = true)
    (hroom : 0 < u.outRoom i) (hdma : s.dmaEn = true) (hbuffer : s.bufferFor 1) :
    ((lopOutConsWrite i cons s).lopSlot i).buf = []
      ∧ (lopOutConsWrite i cons s).hif.mem = memWrite s.hif.mem (64 * s.fld (Reg.LOP_OUT_ADDR i) Fld.LOP_OUT_ADDR_ADDR
          + s.lopFld i lopLines % s.fld (Reg.LOP_OUT_CFG i) Fld.LOP_OUT_CFG_LINES * 64) (s.lopSlot i).buf
      ∧ s.onlyParts (lopOutConsWrite i cons s) [.regs, .lop, .hif, .pools] := by
  have hother {a : Nat} (ha : a ≠ Reg.LOP_OUT_CONS i) : u.reg a = s.reg a := hu ▸ State.reg_setFld_other s _ _ ha
  have hwritten : s.within u {Reg.LOP_OUT_CONS i} [.regs] := hu ▸ s.setFld_within (Set.mem_singleton _) _ _
  have hstatus : u.reg (Reg.LOP_STATUS i) = s.reg (Reg.LOP_STATUS i) := hother (by simp only [Reg.LOP_STATUS, Reg.LOP_OUT_CONS]; omega)
  have hcfg : u.fld (Reg.LOP_OUT_CFG i) Fld.LOP_OUT_CFG_LINES = s.fld (Reg.LOP_OUT_CFG i) Fld.LOP_OUT_CFG_LINES :=
    State.fld_of_reg (hother (by simp only [Reg.LOP_OUT_CFG, Reg.LOP_OUT_CONS]; omega)) _
  have haddr : u.fld (Reg.LOP_OUT_ADDR i) Fld.LOP_OUT_ADDR_ADDR = s.fld (Reg.LOP_OUT_ADDR i) Fld.LOP_OUT_ADDR_ADDR :=
    State.fld_of_reg (hother (by simp only [Reg.LOP_OUT_ADDR, Reg.LOP_OUT_CONS]; omega)) _
  have hdma' : u.dmaEn = true := (State.flag_of_reg (hother (by simp only [Reg.HIF_CTL, Reg.LOP_OUT_CONS]; omega)) _).trans hdma
  have hslot : u.lopSlot i = s.lopSlot i := State.lopSlot_of_lop (hwritten.2.2 .lop (by decide)) i
  have hsame : s.sameTiers u := hwritten.sameTiers (by
    rintro _ rfl
    simp only [Reg.LOP_OUT_CONS]
    omega)
  have hdue : lopOutConsWrite i cons s = (u.lopDrain i).lopSettle i := by
    unfold lopOutConsWrite
    dsimp only
    rw [← hu]
    exact if_pos ⟨(State.lopFld_of_reg hstatus _).trans hwaits, hslot ▸ List.ne_nil_of_length_pos (by omega), hroom,
      by rw [State.lopFld_of_reg hstatus]; exact hop⟩
  obtain ⟨hbuf, -, -, hmem, -, -, hsent⟩ := State.lopDrain_sends (k := 1) hi (by decide) (by rw [hslot]; exact hlen) hroom hdma'
    (hsame.bufferFor hbuffer)
  obtain ⟨hempty, -, hsettled⟩ := (u.lopDrain i).lopSettle_shows i
  have hsize : 0 < u.fld (Reg.LOP_OUT_CFG i) Fld.LOP_OUT_CFG_LINES := by
    unfold State.outRoom at hroom
    dsimp only at hroom
    omega
  rw [hdue]
  refine ⟨hempty hbuf, ?_, ?_⟩
  · rw [hsettled.2.2 .hif (by decide), hmem, State.lopRing_line (by rw [hslot]; exact hlen) hsize, hslot, haddr, hcfg,
      State.lopFld_of_reg hstatus, hwritten.2.2 .hif (by decide)]
  · exact State.onlyParts_trans (State.onlyParts_mono hwritten.2 (by simp))
      (State.onlyParts_trans hsent.2 (State.onlyParts_mono hsettled.2 (by simp)))

/-- A final status word goes to the mirror at once. -/
theorem statusMirrorWrite_writes (haddr : s.fld (Reg.LOP_MIRROR_ADDR i) Fld.LOP_MIRROR_ADDR_ADDR ≠ 0)
    (hdirty : (s.lopSlot i).dirty = true) (hfinal : s.lopActive i = false) (hdma : s.dmaEn = true) (hserving : s.serving = true) :
    ((statusMirrorWrite i s).lopSlot i).dirty = false
      ∧ (statusMirrorWrite i s).hif.mem = memWrite s.hif.mem (8 * s.fld (Reg.LOP_MIRROR_ADDR i) Fld.LOP_MIRROR_ADDR_ADDR)
          (leBytes 8 (s.reg (Reg.LOP_STATUS i)).toNat)
      ∧ s.onlyParts (statusMirrorWrite i s) [.hif, .lop] := by
  unfold statusMirrorWrite
  dsimp only
  rw [if_neg (by simp [haddr, hdirty, hfinal, hdma, hserving])]
  refine ⟨congrArg LopSt.dirty (State.lopSlot_setLop_self _ _ _), rfl, ?_⟩
  exact State.onlyParts_trans (State.onlyParts_mono (State.setHif_rest _ _) (by simp))
    (State.onlyParts_mono (State.setLop_rest _ _ _) (by simp))

end

/-- Settles O51: START by what its checks read before and after it has begun; the pointers by the output that they let out. -/
theorem longOperationControl : Obligations.LongOperationControl := by
  refine ⟨fun s i op hfree hphase hargs hexcluded hdma => ?_, fun s i op hbusy => ?_, fun s i x hactive hrun => ?_,
    fun s i prod last => ?_, fun s i cons hquiet => ?_, fun s u i cons hu hlen hwaits hop hroom hdma hbuffer => ?_,
    fun s i a ha hzero hdirty hfinal hdma hserving => ?_⟩
  · obtain ⟨hstate, hop, hcode, hlines, hrun, hframe⟩ := lopStart_begins i.isLt op.isLt hfree hphase hargs hexcluded hdma
    exact ⟨_, done_eq_next hframe.2 (by decide), hstate, hop, hcode, hlines, hrun, hframe.listed rfl, hframe.2⟩
  · have heq : lopStart i.val op.val s = s.setFld Reg.LOP_SUMMARY Fld.LOP_SUMMARY_ERR 1 := if_pos hbusy
    refine ⟨_, done_eq_next (heq ▸ s.setFld_rest _ _ _) (by decide), ?_, ?_, heq ▸ s.setFld_rest _ _ _⟩
    · exact heq ▸ s.flag_setFld_one _ ⟨rfl, by decide⟩
    · exact heq ▸ s.onlyRegs_setFld _ _ _
  · obtain ⟨hstate, hcode, -, -, hidle, -⟩ := s.lopEnd_shows i.val (st := 5) (code := lopAborted) (by decide) (by decide)
    have hframe := s.lopEnd_within i.val 5 lopAborted
    rw [← lopAbort_scrub hactive hrun] at hstate hcode hidle hframe
    exact ⟨_, done_eq_next hframe.2 (by decide), hstate, hcode, hidle, hframe.onlyRegs (by simp), hframe.2⟩
  · obtain ⟨hprod, hlast, hframe⟩ := lopInProdWrite_shows s i.val prod.isLt last
    exact ⟨_, done_eq_next hframe.2 (by decide), hprod, hlast, hframe.listed rfl, hframe.2⟩
  · obtain ⟨hcons, hframe⟩ := lopOutConsWrite_quiet i.isLt cons.isLt hquiet
    exact ⟨_, done_eq_next hframe.2 (by decide), hcons, hframe.listed rfl, hframe.2⟩
  · obtain ⟨hbuf, hmem, hframe⟩ := lopOutConsWrite_sends hu i.isLt hlen hwaits hop hroom hdma hbuffer
    exact ⟨_, done_eq_next hframe (by decide), hbuf, hmem, hframe⟩
  · subst ha
    obtain ⟨hclean, hmem, hframe⟩ := statusMirrorWrite_writes hzero hdirty hfinal hdma hserving
    exact ⟨_, done_eq_next hframe (by decide), hclean, hmem, hframe⟩

end Sys2Proof.Machine
end

section
/-! PROOF. FLOW_EXPORT, FLOW_IMPORT and TABLE_DUMP (R373 to R378), and O52. -/

namespace Sys2Proof.Machine

set_option Elab.async false

section
variable {s t : State} {i : Nat}

/-! ### Output made -/

/-- The registers of a slot's status word and of the ring, and where the output stands, where only other registers differ. -/
theorem State.outRoom_of_regs (hstatus : t.reg (Reg.LOP_STATUS i) = s.reg (Reg.LOP_STATUS i))
    (hcfg : t.reg (Reg.LOP_OUT_CFG i) = s.reg (Reg.LOP_OUT_CFG i)) (hcons : t.reg (Reg.LOP_OUT_CONS i) = s.reg (Reg.LOP_OUT_CONS i)) :
    t.outRoom i = s.outRoom i := by
  rw [State.outRoom, State.outRoom, State.fld_of_reg hcfg, State.fld_of_reg hcons, State.lopFld_of_reg hstatus]

theorem State.lopSettle_done (hbuf : (s.lopSlot i).buf = []) (hfin : (s.lopSlot i).fin = true) :
    s.lopSettle i = s.lopEnd i 3 (s.lopSlot i).run.doneCode := by
  unfold State.lopSettle
  dsimp only
  rw [if_neg (by simp [hbuf]), if_pos hfin]

theorem LopRun.doneCode_lt (r : LopRun) : r.doneCode < 65536 := by
  unfold LopRun.doneCode
  split <;> decide

/-- Output for which there is room and a buffer goes out whole. -/
theorem State.lopEmit_sends {k : Nat} {bytes : List Byte} (hi : i < 16) (hk : 0 < k) (hbuf : (s.lopSlot i).buf = [])
    (hlen : bytes.length = 64 * k) (hroom : k ≤ s.outRoom i) (hdma : s.dmaEn = true) (hbuffer : s.bufferFor k) (fin : Bool) :
    ((s.lopEmit i bytes fin).lopSlot i).buf = [] ∧ (s.lopEmit i bytes fin).lopFld i lopLines = (s.lopFld i lopLines + k) % 4294967296
      ∧ (s.lopEmit i bytes fin).hif.mem = s.lopRing i bytes
      ∧ (fin = true → (s.lopEmit i bytes fin).lopFld i lopState = 3
          ∧ (s.lopEmit i bytes fin).lopFld i lopCode = (s.lopSlot i).run.doneCode)
      ∧ s.within (s.lopEmit i bytes fin) (lendRegs ∪ {Reg.LOP_STATUS i}) [.regs, .lop, .hif, .pools] := by
  obtain ⟨t, heq, hslot, hregs, hring, hparts⟩ : ∃ t : State, s.lopEmit i bytes fin = (t.lopDrain i).lopSettle i
      ∧ t.lopSlot i = { s.lopSlot i with buf := (s.lopSlot i).buf ++ bytes, fin := (s.lopSlot i).fin || fin }
      ∧ (∀ a, t.reg a = s.reg a) ∧ t.lopRing i bytes = s.lopRing i bytes ∧ s.onlyParts t [.lop] :=
    ⟨_, rfl, s.lopSlot_setLop_self i _, fun _ => rfl, rfl, s.setLop_rest i _⟩
  rw [hbuf, List.nil_append] at hslot
  have hwait : (t.lopSlot i).buf = bytes := by rw [hslot]
  obtain ⟨hempty, hlines, -, hmem, hrun, hend, hframe⟩ := State.lopDrain_sends (s := t) hi hk (by rw [hwait]; exact hlen)
    (by rw [State.outRoom_of_regs (hregs _) (hregs _) (hregs _)]; exact hroom) ((State.flag_of_reg (hregs _) _).trans hdma)
    (State.sameTiers.bufferFor (s := s) ((hparts.within (by decide) ∅).sameTiers (by simp)) hbuffer)
  have htaken := ((hparts.within (by decide) _).parts (by simp)).trans hframe
  rw [heq]
  generalize t.lopDrain i = u at *
  obtain ⟨hstay, hsame, hsettled⟩ := u.lopSettle_shows i
  refine ⟨hstay hempty, ?_, ?_, fun hfin => ?_, htaken.trans (hsettled.mono Set.subset_union_right (by simp))⟩
  · rw [hsame, hlines, State.lopFld_of_reg (hregs _)]
  · rw [hsettled.2.2 .hif (by decide), hmem, hwait, hring]
  · have hdone : (u.lopSlot i).fin = true := by rw [hend, hslot, hfin, Bool.or_true]
    obtain ⟨hstate, hcode, -⟩ := u.lopEnd_shows i (st := 3) (by decide) (LopRun.doneCode_lt (u.lopSlot i).run)
    rw [State.lopSettle_done hempty hdone]
    exact ⟨hstate, by rw [hcode, hrun, hslot]⟩

theorem State.lopEmit_unpooled (hi : i < 16) (hoff : s.flag Reg.BPM_STATUS Fld.BPM_STATUS_READY = false ∨ s.dmaEn = false)
    (bytes : List Byte) (fin : Bool) : s.within (s.lopEmit i bytes fin) {Reg.LOP_STATUS i} [.regs, .lop, .hif] := by
  obtain ⟨t, heq, hregs, hparts⟩ : ∃ t : State, s.lopEmit i bytes fin = (t.lopDrain i).lopSettle i ∧ (∀ a, t.reg a = s.reg a)
      ∧ s.onlyParts t [.lop] := ⟨_, rfl, fun _ => rfl, s.setLop_rest i _⟩
  have hdrained := State.lopDrain_unpooled (s := t) (hoff.imp ((State.flag_of_reg (hregs _) _).trans ·)
    ((State.flag_of_reg (hregs _) _).trans ·)) hi
  obtain ⟨-, -, hsettled⟩ := (t.lopDrain i).lopSettle_shows i
  rw [heq]
  exact (((hparts.within (by decide) _).parts (by simp)).trans hdrained).trans (hsettled.parts (by simp))

/-! ### FLOW_EXPORT (R373, R374) -/

theorem exportTrailer_length (n : Nat) (crc : Word64) : (exportTrailer n crc).length = 64 := by
  simp only [exportTrailer, List.length_append, leBytes_length, List.length_cons, List.length_nil]

section
variable {h0 slot n : Nat} {crc : Word64} (hrun : (s.lopSlot i).run = .flowExport h0 slot n crc) (hactive : s.lopActive i = true)
  (hserving : s.serving = true) (hbuf : (s.lopSlot i).buf = [])
include hrun hactive hserving hbuf

/-- Past the last shard the trailer is written and FLOW_EXPORT is DONE. -/
theorem flowExport_ends (hlast : s.exportShard i h0 = 16) (e e2 : Ecc) :
    flowExport i e e2 s = s.lopEmit i (exportTrailer n crc) true := by
  unfold flowExport
  rw [hrun]
  dsimp only
  rw [if_neg (by simp [hactive, hserving]), if_neg (by simp [hbuf]), if_pos hlast]

theorem flowExport_fenced (hshard : s.exportShard i h0 < 16) (hready : s.dmcReady = true)
    (hdown : s.shardUp (s.exportShard i h0) = false) (hmay : s.exportMay (s.exportShard i h0) slot = true) (e e2 : Ecc) :
    flowExport i e e2 s = s.exportLost i (s.exportShard i h0) slot n crc := by
  unfold flowExport
  rw [hrun]
  dsimp only
  rw [if_neg (by simp [hactive, hserving]), if_neg (by simp [hbuf]), if_neg (by omega), if_neg (by simp [hready, hmay])]
  exact if_pos (by simp [hdown])

end

/-- The trailer of FLOW_EXPORT in the ring. -/
theorem flowExport_writesTrailer {h0 slot n : Nat} {crc : Word64} (hi : i < 16) (hrun : (s.lopSlot i).run = .flowExport h0 slot n crc)
    (hactive : s.lopActive i = true) (hserving : s.serving = true) (hbuf : (s.lopSlot i).buf = []) (hlast : s.exportShard i h0 = 16)
    (hroom : 1 ≤ s.outRoom i) (hdma : s.dmaEn = true) (hbuffer : s.bufferFor 1) :
    (flowExport i .ok .ok s).lopFld i lopState = 3 ∧ (flowExport i .ok .ok s).lopFld i lopCode = 0
      ∧ (flowExport i .ok .ok s).lopFld i lopLines = (s.lopFld i lopLines + 1) % 4294967296
      ∧ (flowExport i .ok .ok s).hif.mem = memWrite s.hif.mem (64 * s.fld (Reg.LOP_OUT_ADDR i) Fld.LOP_OUT_ADDR_ADDR
          + s.lopFld i lopLines % s.fld (Reg.LOP_OUT_CFG i) Fld.LOP_OUT_CFG_LINES * 64) (exportTrailer n crc)
      ∧ s.onlyParts (flowExport i .ok .ok s) [.regs, .lop, .hif, .pools] := by
  have hlen := exportTrailer_length n crc
  rw [flowExport_ends hrun hactive hserving hbuf hlast]
  generalize exportTrailer n crc = bytes at *
  have hsize : 0 < s.fld (Reg.LOP_OUT_CFG i) Fld.LOP_OUT_CFG_LINES := by
    unfold State.outRoom at hroom
    dsimp only at hroom
    omega
  obtain ⟨-, hlines, hmem, hdone, hframe⟩ := State.lopEmit_sends hi (by decide) hbuf hlen hroom hdma hbuffer true
  obtain ⟨hstate, hcode⟩ := hdone rfl
  exact ⟨hstate, hcode.trans (by rw [hrun]; rfl), hlines, hmem.trans (State.lopRing_line hlen hsize), hframe.2⟩

/-- A slot that reads as lost is visited and counted. -/
theorem State.exportLost_counts (s : State) (i h slot n : Nat) (crc : Word64) :
    (s.exportLost i h slot n crc).reg (Reg.LOP_RESULT i 1) = s.reg (Reg.LOP_RESULT i 1) + 1
      ∧ (s.exportLost i h slot n crc).reg (Reg.LOP_RESULT i 2) = s.reg (Reg.LOP_RESULT i 2) + 1
      ∧ s.onlyParts (s.exportLost i h slot n crc) [.regs, .lop] := by
  obtain ⟨r, heq⟩ : ∃ r, s.exportLost i h slot n crc
      = ((((s.setLopRun i r).lopProgress i 1).lopCount i 2).lopCount i 1).lopSettle i := ⟨_, rfl⟩
  obtain ⟨t, ht, hresult, hparts⟩ : ∃ t : State, (s.setLopRun i r).lopProgress i 1 = t
      ∧ (∀ j, t.reg (Reg.LOP_RESULT i j) = s.reg (Reg.LOP_RESULT i j)) ∧ s.onlyParts t [.regs, .lop] :=
    ⟨_, rfl, fun j => State.reg_setFld_other _ _ _ (by simp only [Reg.LOP_RESULT, Reg.LOP_PROGRESS]; omega),
      (State.onlyParts_mono (s.setLop_rest i _) (by simp)).setFld _ _ _⟩
  have hapart : Reg.LOP_RESULT i 1 ≠ Reg.LOP_RESULT i 2 := by simp only [Reg.LOP_RESULT]; omega
  obtain ⟨-, -, hsettled⟩ := ((t.lopCount i 2).lopCount i 1).lopSettle_shows i
  have hkept (j : Nat) : Reg.LOP_RESULT i j ∉ ({Reg.LOP_STATUS i} : Set Nat) := by
    simp only [Set.mem_singleton_iff, Reg.LOP_RESULT, Reg.LOP_STATUS]
    omega
  rw [heq, ht]
  refine ⟨(hsettled.1 _ (hkept 1)).trans ?_, (hsettled.1 _ (hkept 2)).trans ?_,
    State.onlyParts_trans ((hparts.bump _).bump _) hsettled.2⟩
  · exact (State.reg_bump_self _ _).trans (by rw [State.lopCount, State.reg_bump_other _ hapart, hresult])
  · exact (State.reg_bump_other _ hapart.symm).trans ((State.reg_bump_self _ _).trans (by rw [hresult]))

/-! ### FLOW_IMPORT (R375) -/

theorem State.lopRead_shows (s : State) (i n : Nat) :
    (s.lopRead i n).lopFld i lopLines = (s.lopFld i lopLines + n) % 4294967296 ∧ s.within (s.lopRead i n) {Reg.LOP_STATUS i} [.regs, .lop] := by
  obtain ⟨-, hlines, -, -⟩ := s.lopMoved_shows i n
  have hmoved := s.lopMoved_within i n
  unfold State.lopRead
  dsimp only
  generalize s.lopMoved i n = t at *
  split
  · obtain ⟨-, -, hkept, -⟩ := t.lopShow_shows i (st := 2) (by decide)
    exact ⟨hkept.trans hlines, hmoved.trans (t.lopShow_within i 2)⟩
  · exact ⟨hlines, hmoved⟩

/-- The next line of the input is read. -/
theorem flowImport_reads {head : Bool} {n : Nat} {crc : Word64} (hrun : (s.lopSlot i).run = .flowImport head n crc)
    (hactive : s.lopActive i = true) (hserving : s.serving = true) (hdma : s.dmaEn = true) (hbuf : (s.lopSlot i).buf = [])
    (hinput : 0 < s.inLeft i) (line : List Byte) (es : List Ecc) :
    flowImport i line es s = (s.lopRead i 1).importLine i head n crc (bytesAt line 0 64) := by
  have hmore : s.inDone i = false := by
    rw [State.inDone, Bool.and_eq_false_iff]
    exact .inl (by simpa using Nat.pos_iff_ne_zero.1 hinput)
  unfold flowImport
  rw [hrun]
  dsimp only
  rw [if_neg (by simp [hactive, hserving, hdma]), if_neg (by simp [hbuf]), if_neg (by simp [hmore]), if_neg (by omega),
    if_neg (by simp [hbuf])]

section
variable {n : Nat} {crc : Word64} {line : List Byte}

/-- The header line is taken, or ends the import. -/
theorem State.importLine_header (s : State) (i : Nat) (line : List Byte) :
    (s.importLine i false n crc line).lopFld i lopLines = s.lopFld i lopLines
      ∧ (importHeaderOk line = true → ((s.importLine i false n crc line).lopSlot i).run = .flowImport true 0 0)
      ∧ (importHeaderOk line = false → (s.importLine i false n crc line).lopFld i lopState = 4
          ∧ (s.importLine i false n crc line).lopFld i lopCode = lopStream)
      ∧ s.within (s.importLine i false n crc line) {Reg.LOP_STATUS i} [.regs, .lop] := by
  unfold State.importLine
  rw [if_pos (by simp)]
  split
  · next hok =>
    exact ⟨rfl, fun _ => congrArg LopSt.run (s.lopSlot_setLop_self i _), fun h => absurd (hok.symm.trans h) (by decide),
      ((s.setLop_rest i _).within (by decide) _).parts (by simp)⟩
  · next hbad =>
    obtain ⟨hstate, hcode, hlines, -⟩ := s.lopEnd_shows i (st := 4) (code := lopStream) (by decide) (by decide)
    exact ⟨hlines, fun h => absurd h hbad, fun _ => ⟨hstate, hcode⟩, s.lopEnd_within i 4 lopStream⟩

/-- The trailer ends the import. -/
theorem State.importLine_trailer (s : State) (i : Nat) (htrailer : isTrailer line = true) :
    (s.importLine i true n crc line).lopFld i lopState = (if trailerOk line n crc then 3 else 4)
      ∧ (s.importLine i true n crc line).lopFld i lopCode = (if trailerOk line n crc then 0 else lopStream)
      ∧ s.within (s.importLine i true n crc line) {Reg.LOP_STATUS i} [.regs, .lop] := by
  unfold State.importLine
  rw [if_neg (by simp), if_pos htrailer]
  split
  · obtain ⟨hstate, hcode, -⟩ := s.lopEnd_shows i (st := 3) (code := 0) (by decide) (by decide)
    exact ⟨hstate, hcode, s.lopEnd_within i 3 0⟩
  · obtain ⟨hstate, hcode, -⟩ := s.lopEnd_shows i (st := 4) (code := lopStream) (by decide) (by decide)
    exact ⟨hstate, hcode, s.lopEnd_within i 4 lopStream⟩

end

/-! ### TABLE_DUMP (R378) -/

/-- A dump before it makes output. -/
def State.dumped (s : State) (i : Nat) (r : LopRun) (d n : Nat) : State := ((s.setLopRun i r).lopProgress i d).lopResult i 0 n

theorem State.dumped_shows (s : State) (i : Nat) (r : LopRun) (d n : Nat) :
    ((s.dumped i r d n).lopSlot i).buf = (s.lopSlot i).buf ∧ (s.dumped i r d n).reg (Reg.LOP_RESULT i 0) = BitVec.ofNat 64 n
      ∧ s.within (s.dumped i r d n) {a | a ∈ [Reg.LOP_PROGRESS i, Reg.LOP_RESULT i 0]} [.regs, .lop] :=
  ⟨(congrArg LopSt.buf (s.lopSlot_setLop_self i { s.lopSlot i with run := r })).trans rfl, (State.reg_setReg _ _ _ _).trans (if_pos rfl),
    ((((s.setLop_rest i _).within (by decide) _).parts (by simp)).setFld _ _ _ (by simp)).setReg _ _ (by simp)⟩

theorem tableDump_emits {a n : Nat} {m : Bool} (hrun : (s.lopSlot i).run = .dump a n m) (hactive : s.lopActive i = true)
    (hserving : s.serving = true) (hbuf : (s.lopSlot i).buf = []) :
    ∃ r fin, tableDump i s = (s.dumped i r (s.dumpStep i a n).2 (n + (s.dumpStep i a n).2)).lopEmit i (s.dumpStep i a n).1 fin := by
  unfold tableDump
  rw [hrun]
  dsimp only
  rw [if_neg (by simp [hactive, hserving]), if_neg (by simp [hbuf])]
  exact ⟨_, _, rfl⟩

/-- The result of a dump is apart from what its output changes. -/
theorem lopResult_not_status (i j : Nat) : Reg.LOP_RESULT i j ≠ Reg.LOP_STATUS i := by
  simp only [Reg.LOP_RESULT, Reg.LOP_STATUS]
  omega

theorem tableDump_writes {a n k : Nat} {m : Bool} (hi : i < 16) (hrun : (s.lopSlot i).run = .dump a n m) (hactive : s.lopActive i = true)
    (hserving : s.serving = true) (hbuf : (s.lopSlot i).buf = []) (hlen : (s.dumpStep i a n).1.length = 64 * k) (hk : 0 < k)
    (hroom : k ≤ s.outRoom i) (hdma : s.dmaEn = true) (hbuffer : s.bufferFor k) :
    (tableDump i s).reg (Reg.LOP_RESULT i 0) = BitVec.ofNat 64 (n + (s.dumpStep i a n).2)
      ∧ (tableDump i s).lopFld i lopLines = (s.lopFld i lopLines + k) % 4294967296 ∧ ((tableDump i s).lopSlot i).buf = []
      ∧ s.onlyParts (tableDump i s) [.regs, .lop, .hif, .pools] := by
  obtain ⟨r, fin, heq⟩ := tableDump_emits hrun hactive hserving hbuf
  obtain ⟨hkept, hresult, hstep⟩ := s.dumped_shows i r (s.dumpStep i a n).2 (n + (s.dumpStep i a n).2)
  rw [heq]
  generalize s.dumped i r _ _ = u at *
  have hsame {b : Nat} (hb : b < 0x50068 + 0x100 * i ∨ 0x50078 + 0x100 * i ≤ b) : u.reg b = s.reg b := hstep.1 b (by
    simp only [Set.mem_ofPred_eq, List.mem_cons, List.not_mem_nil, or_false, Reg.LOP_PROGRESS, Reg.LOP_RESULT]
    omega)
  have hstatus := hsame (b := Reg.LOP_STATUS i) (by simp only [Reg.LOP_STATUS]; omega)
  have htiers : s.sameTiers u := hstep.sameTiers fun b hb => by
    simp only [Set.mem_ofPred_eq, List.mem_cons, List.not_mem_nil, or_false, Reg.LOP_PROGRESS, Reg.LOP_RESULT] at hb
    omega
  obtain ⟨hempty, hlines, -, -, hframe⟩ := State.lopEmit_sends (s := u) hi hk (hkept.trans hbuf) hlen
    (by rwa [State.outRoom_of_regs hstatus (hsame (by simp only [Reg.LOP_OUT_CFG]; omega)) (hsame (by simp only [Reg.LOP_OUT_CONS]; omega))])
    ((State.flag_of_reg (hsame (.inl (by simp only [Reg.HIF_CTL]; omega))) _).trans hdma) (htiers.bufferFor hbuffer) fin
  refine ⟨(hframe.1 _ ?_).trans hresult, by rw [hlines, State.lopFld_of_reg hstatus], hempty,
    State.onlyParts_trans (State.onlyParts_mono hstep.2 (by simp)) hframe.2⟩
  rintro (hlow | hshown)
  · simp only [mem_lendRegs, Reg.LOP_RESULT, Reg.BPM_STATUS] at hlow
    omega
  · exact lopResult_not_status i 0 hshown

theorem tableDump_unpooled {a n : Nat} {m : Bool} (hi : i < 16) (hrun : (s.lopSlot i).run = .dump a n m) (hactive : s.lopActive i = true)
    (hserving : s.serving = true) (hbuf : (s.lopSlot i).buf = [])
    (hoff : s.flag Reg.BPM_STATUS Fld.BPM_STATUS_READY = false ∨ s.dmaEn = false) :
    (tableDump i s).reg (Reg.LOP_RESULT i 0) = BitVec.ofNat 64 (n + (s.dumpStep i a n).2)
      ∧ s.within (tableDump i s) {x | x ∈ [Reg.LOP_STATUS i, Reg.LOP_PROGRESS i, Reg.LOP_RESULT i 0]} [.regs, .lop, .hif] := by
  obtain ⟨r, fin, heq⟩ := tableDump_emits hrun hactive hserving hbuf
  obtain ⟨-, hresult, hstep⟩ := s.dumped_shows i r (s.dumpStep i a n).2 (n + (s.dumpStep i a n).2)
  rw [heq]
  generalize s.dumped i r _ _ = u at *
  have hsame {b : Nat} (hb : b < 0x50000 ∨ 0x51000 ≤ b) : u.reg b = s.reg b := hstep.1 b (by
    simp only [Set.mem_ofPred_eq, List.mem_cons, List.not_mem_nil, or_false, Reg.LOP_PROGRESS, Reg.LOP_RESULT]
    omega)
  have hframe := State.lopEmit_unpooled (s := u) hi (hoff.imp ((State.flag_of_reg (hsame (.inr (by decide))) _).trans ·)
    ((State.flag_of_reg (hsame (.inl (by decide))) _).trans ·)) (s.dumpStep i a n).1 fin
  refine ⟨(hframe.1 _ (lopResult_not_status i 0)).trans hresult, (hstep.mono (fun b hb => ?_) (by simp)).step hframe (by simp)⟩
  exact List.mem_cons_of_mem _ hb

end

/-- Settles O52: every stream goes out, or comes in, by the step that all long operations share. -/
theorem flowStreamsAndDumps : Obligations.FlowStreamsAndDumps := by
  refine ⟨fun s i h0 slot n crc hrun hactive hserving hbuf hlast hroom hdma hbuffer => ?_,
    fun s i h0 slot n crc e e2 hrun hactive hserving hbuf hshard hready hdown hmay => ?_,
    fun s i n crc line es hrun hactive hserving hdma hbuf hinput => ?_,
    fun s i n crc line es hrun hactive hserving hdma hbuf hinput htrailer => ?_,
    fun s i a n k m hrun hactive hserving hbuf hlen hk hroom hdma hbuffer => ?_,
    fun s i a n m hrun hactive hserving hbuf hoff => ?_⟩
  · obtain ⟨hstate, hcode, hlines, hmem, hframe⟩ := flowExport_writesTrailer i.isLt hrun hactive hserving hbuf hlast hroom hdma hbuffer
    exact ⟨_, done_eq_next hframe (by decide), hstate, hcode, hlines, hmem, hframe⟩
  · obtain ⟨hlost, hvisited, hframe⟩ := s.exportLost_counts i.val (s.exportShard i.val h0) slot n crc
    rw [← flowExport_fenced hrun hactive hserving hbuf hshard hready hdown hmay e e2] at hlost hvisited hframe
    exact ⟨_, done_eq_next hframe (by decide), hlost, hvisited, hframe⟩
  · obtain ⟨hlines, hread⟩ := s.lopRead_shows i.val 1
    obtain ⟨hkept, hok, hbad, hended⟩ := (s.lopRead i.val 1).importLine_header (n := n) (crc := crc) i.val (bytesAt line 0 64)
    rw [← flowImport_reads hrun hactive hserving hdma hbuf hinput line es] at hkept hok hbad hended
    have hframe := hread.trans hended
    exact ⟨_, done_eq_next hframe.2 (by decide), hkept.trans hlines, hok, hbad, hframe.onlyRegs (by simp), hframe.2⟩
  · obtain ⟨-, hread⟩ := s.lopRead_shows i.val 1
    obtain ⟨hstate, hcode, hended⟩ := (s.lopRead i.val 1).importLine_trailer (n := n) (crc := crc) i.val htrailer
    rw [← flowImport_reads hrun hactive hserving hdma hbuf hinput line es] at hstate hcode hended
    have hframe := hread.trans hended
    exact ⟨_, done_eq_next hframe.2 (by decide), hstate, hcode, hframe.onlyRegs (by simp), hframe.2⟩
  · obtain ⟨hresult, hlines, hempty, hframe⟩ := tableDump_writes i.isLt hrun hactive hserving hbuf hlen hk hroom hdma hbuffer
    exact ⟨_, done_eq_next hframe (by decide), hresult, hlines, hempty, hframe⟩
  · obtain ⟨hresult, hframe⟩ := tableDump_unpooled i.isLt hrun hactive hserving hbuf hoff
    exact ⟨_, done_eq_next hframe.2 (by decide), hresult, hframe.listed rfl, hframe.2⟩

end Sys2Proof.Machine
end

section
/-! PROOF. TUMBLER_REBUILD, DRAM_SCRUB and RANK_MIGRATE (R272, R379, R380). -/

namespace Sys2Proof.Machine

set_option Elab.async false

section
variable {s : State} {i : Nat}

/-! ### TUMBLER_REBUILD (R379) -/

theorem State.setTmb_only (s : State) (x : TumblerSt) : s.onlyParts { s with tmb := x } [.tmb] := (s.setTmb_confined x []).2

theorem State.rebuildArray_rebuilds (s : State) (q src : Nat) :
    Tbl.get false (s.rebuildArray q src).fault.rebuilt (unitTumbler q) = true ∧ s.onlyParts (s.rebuildArray q src) [.fault, .tmb] := by
  have hcleared : s.onlyParts (s.clearArray q) [.tmb] := s.setTmb_only _
  have hset (t : State) (j : Nat) (e : TmbEntry) : t.onlyParts (t.setEnt q j e) [.tmb] := t.setTmb_only _
  have hcopied (t : State) : t.onlyParts (forEach ((List.range 16).filter (fun x => t.tmbTableOk q x
      && t.flag (tmbCfg q x) Fld.TMB_TABLE_CFG_SHARED)) (fun x y => y.copyTable q src x) t) [.tmb] :=
    forEach_onlyParts (fun x y => forEach_onlyParts (fun _ z => hset z _ _) _ y) _ t
  have hloaded (t : State) : t.onlyParts (t.loadUnshared q) [.tmb] := forEach_onlyParts (fun _ z => hset z _ _) _ t
  obtain ⟨t, heq, hparts⟩ : ∃ t : State, s.rebuildArray q src
      = { t with fault := { t.fault with rebuilt := Tbl.set false t.fault.rebuilt (unitTumbler q) true } } ∧ s.onlyParts t [.tmb] :=
    ⟨_, rfl, State.onlyParts_trans (State.onlyParts_trans hcleared (hcopied _)) (hloaded _)⟩
  rw [heq]
  refine ⟨?_, State.onlyParts_trans (State.onlyParts_mono hparts (by simp)) (State.onlyParts_mono (State.setFault_only _ _) (by simp))⟩
  exact (Tbl.get_set false t.fault.rebuilt (unitTumbler q) (unitTumbler q) true).trans (if_pos rfl)

theorem State.lopProgress_within (s : State) (i n : Nat) : s.within (s.lopProgress i n) {Reg.LOP_PROGRESS i} [.regs] :=
  s.setFld_within (Set.mem_singleton _) _ _

theorem State.openProceed_within (s : State) : s.within s.openProceed {Reg.TMB_GEN_CMD 0} [.regs, .tmb] := by
  unfold State.openProceed
  split
  · exact (((s.setTmb_only _).within (by decide) _).parts (by simp)).trans ((State.setFld_within _ (Set.mem_singleton _) _ _).parts (by simp))
  · exact .refl s _ _

/-- The rebuild of an array is one step. -/
theorem tumblerRebuild_ends (hrun : (s.lopSlot i).run = .rebuild) (hactive : s.lopActive i = true) (hserving : s.serving = true) :
    (tumblerRebuild i s).lopFld i lopState = 3 ∧ ((tumblerRebuild i s).lopSlot i).run = .none
      ∧ Tbl.get false (tumblerRebuild i s).fault.rebuilt (unitTumbler (s.lopArgF i 0 0 2)) = true
      ∧ s.within (tumblerRebuild i s) {a | a ∈ [Reg.LOP_STATUS i, Reg.LOP_PROGRESS i, Reg.TMB_GEN_CMD 0]} [.regs, .fault, .tmb, .lop] := by
  obtain ⟨hmarked, hrebuilt⟩ := s.rebuildArray_rebuilds (s.lopArgF i 0 0 2) (s.lopArgF i 0 2 2)
  have hframe : s.within (s.rebuildArray (s.lopArgF i 0 0 2) (s.lopArgF i 0 2 2))
      {a | a ∈ [Reg.LOP_STATUS i, Reg.LOP_PROGRESS i, Reg.TMB_GEN_CMD 0]} [.regs, .fault, .tmb, .lop] :=
    (hrebuilt.within (by decide) _).parts (by simp)
  unfold tumblerRebuild
  rw [if_neg (by simp [hrun, hactive, hserving])]
  dsimp only
  generalize s.rebuildArray (s.lopArgF i 0 0 2) (s.lopArgF i 0 2 2) = t at *
  have hcounted := t.lopProgress_within i (s.rebuildLen (s.lopArgF i 0 0 2) (s.lopArgF i 0 2 2))
  generalize t.lopProgress i _ = u at *
  obtain ⟨hstate, -, -, -, hidle, -⟩ := u.lopEnd_shows i (st := 3) (code := 0) (by decide) (by decide)
  have hended := u.lopEnd_within i 3 0
  generalize u.lopEnd i 3 0 = v at *
  have hproceeds := v.openProceed_within
  refine ⟨?_, ?_, ?_, (((hframe.step hcounted).step hended).step hproceeds)⟩
  · refine (State.lopFld_of_reg (hproceeds.1 _ ?_) _).trans hstate
    simp only [Set.mem_singleton_iff, Reg.LOP_STATUS, Reg.TMB_GEN_CMD]
    omega
  · rw [State.lopSlot_of_lop (hproceeds.2.2 .lop (by decide))]
    exact hidle
  · rw [hproceeds.2.2 .fault (by decide), hended.2.2 .fault (by decide), hcounted.2.2 .fault (by decide)]
    exact hmarked

/-! ### DRAM_SCRUB (R380) -/

theorem State.scrubOne_tier (t : State) (c k x : Nat) (e : Ecc) : t.tierStep (t.scrubOne c k x e) := by
  unfold State.scrubOne
  extract_lets l r
  have hread : t.tierStep r.2 := (t.dmcBump_tier c _).trans (State.dramRead_tier _ _ _ _)
  split
  · exact hread.trans (State.dmcBump_tier _ c _)
  · exact hread

/-- `t` is `s` after `n` lines more of slot i's operation: its slots stand. -/
structure State.scrubTakes (s : State) (i n : Nat) (t : State) : Prop where
  slots : t.lop = s.lop
  done : t.fld (Reg.LOP_PROGRESS i) Fld.LOP_PROGRESS_DONE = (s.fld (Reg.LOP_PROGRESS i) Fld.LOP_PROGRESS_DONE + n) % 4294967296

theorem State.scrubTakes.refl (s : State) (i : Nat) : s.scrubTakes i 0 s :=
  ⟨rfl, (Nat.mod_eq_of_lt (Word64.get_lt _ _)).symm⟩

section
variable {t u : State} {n : Nat} (h : s.scrubTakes i n t)
include h

theorem State.scrubTakes.one : s.scrubTakes i (n + 1) (t.lopProgress i 1) :=
  ⟨h.slots, by
    rw [State.lopProgress, State.fld_setFld_self _ _ _ _ (by decide), h.done]
    exact (Nat.mod_add_mod _ _ _).trans (by rw [Nat.add_assoc])⟩

theorem State.scrubTakes.keep (hreg : u.reg (Reg.LOP_PROGRESS i) = t.reg (Reg.LOP_PROGRESS i)) (hlop : u.lop = t.lop) :
    s.scrubTakes i n u := ⟨hlop.trans h.slots, (State.fld_of_reg hreg _).trans h.done⟩

theorem State.scrubTakes.tier (hi : i < 16) (hu : t.tierStep u) : s.scrubTakes i n u :=
  h.keep (hu.1 _ (by simp only [mem_tierRegs, Reg.LOP_PROGRESS]; omega)) (hu.2.2 .lop (by decide))

/-- A pair of lines of a channel. -/
theorem State.scrubTakes.pair (hi : i < 16) (c x : Nat) (es : List Ecc) : s.scrubTakes i (n + 2) (t.scrubPair i c x es) := by
  have hone (k m : Nat) (v : State) (hv : s.scrubTakes i m v) :
      s.scrubTakes i (m + 1) (let e := es.getD (2 * c + k) .ok
        let r := v.deviceLine c k x
        let ok := (v.dramRead r false e).1.isSome
        let v := (v.scrubOne c k x e).lopProgress i 1
        if e = .corrected ∧ ok = true then v.lopCount i 0 else v) := by
    have hmoved := (hv.tier hi (v.scrubOne_tier c k x (es.getD (2 * c + k) .ok))).one
    dsimp only
    split
    · exact hmoved.keep (State.reg_bump_other _ (by simp only [Reg.LOP_PROGRESS, Reg.LOP_RESULT]; omega)) rfl
    · exact hmoved
  exact hone 1 _ _ (hone 0 _ _ h)

theorem State.scrubTakes.pairs (hi : i < 16) (x : Nat) (es : List Ecc) (l : List Nat) :
    s.scrubTakes i (n + 2 * l.length) (forEach l (fun c u => u.scrubPair i c x es) t) := by
  induction l generalizing t n with
  | nil => exact h
  | cons c l ih =>
    have hrest := ih (h.pair hi c x es)
    rwa [show n + 2 + 2 * l.length = n + 2 * (c :: l).length by rw [List.length_cons]; omega] at hrest

end

/-- A step of a scrub takes a pair of lines of every channel that has one left. -/
theorem dramScrub_counts {x : Nat} (es : List Ecc) (hi : i < 16) (hrun : (s.lopSlot i).run = .scrub x) (hactive : s.lopActive i = true)
    (hready : s.dmcReady = true)
    (hmay : ∀ c, c < 12 → (s.lopArgN i 0).testBit c = true → s.bgMay c 0 = true ∧ s.bgMay c 1 = true) :
    (((dramScrub i es s).lopSlot i).run = .scrub (x + 1)
        ∨ (dramScrub i es s).lopFld i lopState = 3 ∧ (dramScrub i es s).lopFld i lopCode = 0)
      ∧ (dramScrub i es s).fld (Reg.LOP_PROGRESS i) Fld.LOP_PROGRESS_DONE = (s.fld (Reg.LOP_PROGRESS i) Fld.LOP_PROGRESS_DONE
          + 2 * ((List.range 12).filter (fun c => (s.lopArgN i 0).testBit c && decide (x < s.scrubLines c))).length) % 4294967296 := by
  have hfree : ((List.range 12).filter (fun c => (s.lopArgN i 0).testBit c)).any (fun c => !s.bgMay c 0 || !s.bgMay c 1) = false := by
    rw [List.any_eq_false]
    intro c hc
    obtain ⟨hrange, hmask⟩ := List.mem_filter.1 hc
    obtain ⟨h0, h1⟩ := hmay c (List.mem_range.1 hrange) hmask
    simp [h0, h1]
  have hlines := (State.scrubTakes.refl s i).pairs hi x es
    (((List.range 12).filter (fun c => (s.lopArgN i 0).testBit c)).filter (fun c => decide (x < s.scrubLines c)))
  have hlist : ((List.range 12).filter (fun c => (s.lopArgN i 0).testBit c)).filter (fun c => decide (x < s.scrubLines c))
      = (List.range 12).filter (fun c => (s.lopArgN i 0).testBit c && decide (x < s.scrubLines c)) := by
    rw [List.filter_filter]
    exact List.filter_congr fun c _ => Bool.and_comm _ _
  unfold dramScrub
  rw [hrun]
  dsimp only
  rw [if_neg (by simp only [hactive, hready, hfree]; simp)]
  generalize forEach _ _ s = t at *
  rw [hlist, Nat.zero_add] at hlines
  split
  · obtain ⟨hstate, hcode, -⟩ := t.lopEnd_shows i (st := 3) (code := 0) (by decide) (by decide)
    refine ⟨.inr ⟨hstate, hcode⟩, ((t.lopEnd_within i 3 0).fld_eq ?_ _).trans hlines.done⟩
    simp only [Set.mem_singleton_iff, Reg.LOP_PROGRESS, Reg.LOP_STATUS]
    omega
  · exact ⟨.inl (congrArg LopSt.run (t.lopSlot_setLop_self i _)), hlines.done⟩

/-! ### RANK_MIGRATE (R272) -/

theorem State.startMigration_starts {c r : Nat} (hfree : s.migrationFree c = true) (hr : r ≠ s.ranks c - 1) :
    (s.startMigration c r false).migState c = 1
      ∧ s.within (s.startMigration c r false) {a | a ∈ [Reg.DMC_MIG c, Reg.DMC_STATUS c]} [.regs, .dram] := by
  simp only [State.migrationFree, Bool.and_eq_true, beq_iff_eq, Bool.not_eq_true'] at hfree
  obtain ⟨⟨⟨⟨⟨hspare, hidle⟩, hout⟩, hunused⟩, -⟩, hready⟩ := hfree
  have hdram (t : State) (k : Nat) (x : DmcSub) : t.within (t.setSub c k x) {a | a ∈ [Reg.DMC_MIG c, Reg.DMC_STATUS c]} [.regs, .dram] :=
    (t.setSub_within c k x _).parts (by simp)
  unfold State.startMigration
  extract_lets p a noted sub0 c0 sub1 c1
  rw [if_pos ⟨hspare, hr, hidle, by simp [p, hout], hready, by simp [hunused]⟩]
  have hnoted : s.within noted {a | a ∈ [Reg.DMC_MIG c, Reg.DMC_STATUS c]} [.regs, .dram] :=
    (((State.within.refl s _ _).setFld _ _ _ (by simp [a])).setFld _ _ _ (by simp [a])).setFld _ _ _ (by simp [a])
  have hstate : noted.fld a Fld.DMC_MIG_STATE = 1 := by
    unfold noted
    simp (disch := decide) only [State.fld_setFld_disjoint]
    exact State.fld_setFld_self _ _ _ _ (by decide)
  clear_value noted
  have hcursor : noted.within c1 {a | a ∈ [Reg.DMC_MIG c, Reg.DMC_STATUS c]} [.regs, .dram] :=
    ((hdram noted 0 _).trans (hdram c0 1 _)).setFld _ _ _ (by simp [a])
  have hshown : c1.fld a Fld.DMC_MIG_STATE = 1 := (State.fld_setFld_disjoint _ _ _ (by decide)).trans hstate
  clear_value c1
  refine ⟨?_, (hnoted.trans hcursor).setFld _ _ _ (by simp)⟩
  exact (State.fld_of_reg (State.reg_setFld_other _ _ _ (by simp only [Reg.DMC_MIG, Reg.DMC_STATUS]; omega)) _).trans hshown

theorem rankMigrate_starts {c : Nat} (hc : c = s.lopArgF i 0 0 4) (hrun : (s.lopSlot i).run = .migrate false)
    (hactive : s.lopActive i = true) (hfree : s.migrationFree c = true) (hrank : s.lopArgF i 0 4 2 ≠ s.ranks c - 1) :
    ((rankMigrate i s).lopSlot i).run = .migrate true ∧ (rankMigrate i s).migState c = 1
      ∧ s.within (rankMigrate i s) {a | a ∈ [Reg.DMC_MIG c, Reg.DMC_STATUS c]} [.regs, .dram, .lop] := by
  obtain ⟨hstate, hframe⟩ := State.startMigration_starts hfree hrank
  unfold rankMigrate
  rw [← hc, hrun]
  dsimp only
  rw [if_neg (by simp [hactive]), if_neg (by simp [hfree])]
  generalize s.startMigration c (s.lopArgF i 0 4 2) false = t at *
  exact ⟨congrArg LopSt.run (t.lopSlot_setLop_self i _), hstate, (hframe.parts (by simp)).rest (t.setLop_rest i _)⟩

theorem rankMigrate_ends (hrun : (s.lopSlot i).run = .migrate true) (hactive : s.lopActive i = true)
    (hmig : s.migState (s.lopArgF i 0 0 4) = 3) : rankMigrate i s = s.lopEnd i 3 0 := by
  unfold rankMigrate
  rw [hrun]
  dsimp only
  rw [if_neg (by simp [hactive, hmig]), if_pos hmig]

end

end Sys2Proof.Machine
end

section
/-! PROOF. IMAGE_WRITE (R355) and ADMIT_REQUEST (R350, R351, R381), and O53. -/

namespace Sys2Proof.Machine

set_option Elab.async false

section
variable {s : State} {i : Nat}

/-! ### The journal's queue (R352) -/

/-- An entry joins those that wait, and nothing else of the journal changes. -/
theorem State.jnlQueue_cast (s : State) (w : JWhat) :
    ∃ q, (s.jnlQueue w).cast = { s.cast with jq := q } ∧ (s.cast.jnlOk = true → ∃ l, q = s.cast.jq ++ [{ what := w, payloads := l }]) := by
  cases hok : s.cast.jnlOk with
  | false =>
    have hdropped : s.jnlQueue w = s := if_pos (by simp [hok])
    exact ⟨s.cast.jq, by rw [hdropped], fun h => absurd h (by decide)⟩
  | true =>
    obtain ⟨t, l, heq, hcast⟩ : ∃ (t : State) (l : List (List Byte)), s.jnlQueue w
        = { t with cast := { t.cast with jq := t.cast.jq ++ [{ what := w, payloads := l }] } } ∧ t.cast = s.cast :=
      ⟨_, _, if_neg (by simp [hok]), (s.drawBytes_only _).2 .cast (by decide)⟩
    exact ⟨s.cast.jq ++ [{ what := w, payloads := l }], by rw [heq, ← hcast], fun _ => ⟨l, rfl⟩⟩

/-- A SLOT entry joins those that wait. -/
theorem State.slotEntry_queues (hok : s.cast.jnlOk = true) (k : Nat) (kind : SlotKind) :
    (s.slotEntry k kind).slotQueued k = true ∧ s.onlyParts (s.slotEntry k kind) [.cast, .free] := by
  have hqueued (t : State) (v n l : Nat) (d : List Byte) (ht : t.cast.jnlOk = true) :
      (t.jnlQueue (.slot k kind v n l d)).slotQueued k = true := by
    obtain ⟨q, hcast, hadded⟩ := t.jnlQueue_cast (.slot k kind v n l d)
    obtain ⟨p, rfl⟩ := hadded ht
    rw [State.slotQueued, hcast]
    simp [JWhat.ofSlot]
  unfold State.slotEntry
  split
  · exact ⟨hqueued s _ _ _ _ hok, s.jnlQueue_only _⟩
  · have hdrawn := s.drawBytes_only 9
    have hcast : (s.drawBytes 9).2.cast = s.cast := hdrawn.2 .cast (by decide)
    generalize s.drawBytes 9 = x at *
    exact ⟨hqueued x.2 _ _ _ _ (by rw [hcast]; exact hok),
      State.onlyParts_trans (State.onlyParts_mono hdrawn (by simp)) (State.jnlQueue_only _ _)⟩

/-! ### IMAGE_WRITE (R355) -/

section
variable {e : Bool} {n : Nat} {b : List Byte} (hactive : s.lopActive i = true) (hserving : s.serving = true)
include hactive hserving

theorem imageWrite_revokes (hrun : (s.lopSlot i).run = .image false e n) (f : Bool) :
    imageWrite i b f s = (s.slotEntry (s.lopArgF i 0 0 1) .revoke).setLopRun i (.image true false 0) := by
  unfold imageWrite
  rw [hrun]
  dsimp only
  rw [if_neg (by simp [hactive, hserving]), if_pos (by simp)]

theorem imageWrite_ends (hrun : (s.lopSlot i).run = .image true true n) (hwritten : s.slotQueued (s.lopArgF i 0 0 1) = false) (f : Bool) :
    imageWrite i b f s = s.lopEnd i 3 0 := by
  unfold imageWrite
  rw [hrun]
  dsimp only
  rw [if_neg (by simp [hactive, hserving]), if_neg (by simp), if_neg (by simp [hwritten]), if_pos rfl]

/-- The image's next line. -/
theorem imageWrite_programs (hrun : (s.lopSlot i).run = .image true false n) (hn : 0 < n)
    (hwritten : s.slotQueued (s.lopArgF i 0 0 1) = false) (hinput : 0 < s.inLeft i) (hdma : s.dmaEn = true) (hb : b.length = 64) (f : Bool) :
    imageWrite i b f s = (((((s.programSlot (s.lopArgF i 0 0 1) n b).lopRead i 1).lopProgress i 64).lopResult i 0 (n + 64)).setLopRun i
      (.image true false (n + 64))) := by
  have hmore : s.inDone i = false := by
    rw [State.inDone, Bool.and_eq_false_iff]
    exact .inl (by simpa using Nat.pos_iff_ne_zero.1 hinput)
  have hone : min (s.inLeft i) (max 1 (b.length / 64)) = 1 := by
    rw [hb]
    omega
  unfold imageWrite
  rw [hrun]
  dsimp only
  rw [if_neg (by simp [hactive, hserving]), if_neg (by simp), if_neg (by simp [hwritten]), if_neg (by simp), if_neg (by simp [hmore]),
    if_neg (by simp [hdma]; omega), if_neg (Nat.pos_iff_ne_zero.1 hn), hone, bytesAt_whole hb]

end

/-- Bytes stored one after another from address `a + n` on. -/
theorem get_forEach_zipIdx {α : Type} [DecidableEq α] (d : α) (l : List α) (a n b : Nat) (m : Tbl α) :
    Tbl.get d (forEach (l.zipIdx n) (fun x m => Tbl.set d m (a + x.2) x.1) m) b
      = if a + n ≤ b ∧ b < a + n + l.length then l.getD (b - (a + n)) d else Tbl.get d m b := by
  induction l generalizing n m with
  | nil => rw [if_neg (by simp)]; rfl
  | cons x l ih =>
    have hrest := ih (n + 1) (Tbl.set d m (a + n) x)
    rw [List.zipIdx_cons]
    refine hrest.trans ?_
    rw [Tbl.get_set, List.length_cons]
    by_cases hb : b = a + n
    · subst hb
      rw [if_neg (by omega), if_pos rfl, if_pos (by omega), Nat.sub_self]
      rfl
    · rw [if_neg hb]
      by_cases hin : a + n ≤ b ∧ b < a + n + (l.length + 1)
      · obtain ⟨j, hj⟩ : ∃ j, b - (a + n) = j + 1 := Nat.exists_eq_add_one.2 (by omega)
        rw [if_pos (by omega), if_pos hin, hj, List.getD_cons_succ]
        congr 1
        omega
      · rw [if_neg (by omega), if_neg hin]

theorem State.programSlot_shows (s : State) (k n : Nat) (b : List Byte) :
    (∀ j, j < b.length → n + j < s.slotLen → Tbl.get flashErased (s.programSlot k n b).cast.flash (s.slotBase k + n + j) = b.getD j 0#8)
      ∧ s.onlyParts (s.programSlot k n b) [.cast] := by
  refine ⟨fun j hj hlen => ?_, s.setCast_only _⟩
  have hfits : j < (b.take (s.slotLen - n)).length := by
    rw [List.length_take]
    omega
  refine (get_forEach_zipIdx flashErased (b.take (s.slotLen - n)) (s.slotBase k + n) 0 (s.slotBase k + n + j) s.cast.flash).trans ?_
  rw [if_pos (by omega), Nat.add_zero, Nat.add_sub_cancel_left, List.getD_eq_getElem _ _ hfits, List.getElem_take,
    List.getD_eq_getElem _ _ hj]

/-- A line programmed and counted. -/
theorem State.programmed_shows {t : State} (ht : s.onlyParts t [.cast]) (i n : Nat) :
    let u := (((t.lopRead i 1).lopProgress i 64).lopResult i 0 (n + 64)).setLopRun i (.image true false (n + 64))
    (u.lopSlot i).run = .image true false (n + 64) ∧ u.lopFld i lopLines = (s.lopFld i lopLines + 1) % 4294967296
      ∧ u.cast = t.cast ∧ s.onlyParts u [.regs, .cast, .lop] := by
  obtain ⟨hlines, hread⟩ := t.lopRead_shows i 1
  generalize t.lopRead i 1 = v at *
  obtain ⟨w, hw, hstatus, hparts⟩ : ∃ w : State, (v.lopProgress i 64).lopResult i 0 (n + 64) = w
      ∧ w.reg (Reg.LOP_STATUS i) = v.reg (Reg.LOP_STATUS i) ∧ v.onlyParts w [.regs] := by
    refine ⟨_, rfl, ?_, State.onlyParts_trans (v.setFld_rest _ _ _) (State.setReg_rest _ _ _)⟩
    exact (State.reg_setReg_other _ _ (lopResult_not_status i 0).symm).trans
      (State.reg_setFld_other _ _ _ (by simp only [Reg.LOP_STATUS, Reg.LOP_PROGRESS]; omega))
  rw [hw]
  refine ⟨congrArg LopSt.run (w.lopSlot_setLop_self i _), ?_, (hparts.2 .cast (by decide)).trans (hread.2.2 .cast (by decide)), ?_⟩
  · rw [State.setLopRun, State.lopFld_setLop, State.lopFld_of_reg hstatus, hlines,
      State.lopFld_of_reg (State.onlyParts.reg_eq ht (by decide) _)]
  · exact State.onlyParts_trans (State.onlyParts_mono ht (by simp)) (State.onlyParts_trans (State.onlyParts_mono hread.2 (by simp))
      (State.onlyParts_trans (State.onlyParts_mono hparts (by simp)) (State.onlyParts_mono (w.setLop_rest i _) (by simp))))

section
variable {n : Nat} {b : List Byte} (hactive : s.lopActive i = true) (hserving : s.serving = true)
include hactive hserving

theorem imageWrite_revokes_leaves {e : Bool} (hrun : (s.lopSlot i).run = .image false e n) (hok : s.cast.jnlOk = true) (f : Bool) :
    ((imageWrite i b f s).lopSlot i).run = .image true false 0 ∧ (imageWrite i b f s).slotQueued (s.lopArgF i 0 0 1) = true
      ∧ s.onlyParts (imageWrite i b f s) [.cast, .free, .lop] := by
  obtain ⟨hqueued, hframe⟩ := State.slotEntry_queues hok (s.lopArgF i 0 0 1) .revoke
  rw [imageWrite_revokes hactive hserving hrun f]
  generalize s.slotEntry (s.lopArgF i 0 0 1) .revoke = t at *
  exact ⟨congrArg LopSt.run (t.lopSlot_setLop_self i _), hqueued,
    State.onlyParts_trans (State.onlyParts_mono hframe (by simp)) (State.onlyParts_mono (t.setLop_rest i _) (by simp))⟩

theorem imageWrite_programs_leaves (hrun : (s.lopSlot i).run = .image true false n) (hn : 0 < n)
    (hwritten : s.slotQueued (s.lopArgF i 0 0 1) = false) (hinput : 0 < s.inLeft i) (hdma : s.dmaEn = true) (hb : b.length = 64) (f : Bool) :
    ((imageWrite i b f s).lopSlot i).run = .image true false (n + 64)
      ∧ (imageWrite i b f s).lopFld i lopLines = (s.lopFld i lopLines + 1) % 4294967296
      ∧ (∀ j, j < 64 → n + j < s.slotLen →
          Tbl.get flashErased (imageWrite i b f s).cast.flash (s.slotBase (s.lopArgF i 0 0 1) + n + j) = b.getD j 0#8)
      ∧ s.onlyParts (imageWrite i b f s) [.regs, .cast, .lop] := by
  obtain ⟨hflash, hframe⟩ := s.programSlot_shows (s.lopArgF i 0 0 1) n b
  obtain ⟨hnext, hlines, hcast, hparts⟩ := State.programmed_shows hframe i n
  rw [imageWrite_programs hactive hserving hrun hn hwritten hinput hdma hb f]
  refine ⟨hnext, hlines, fun j hj hfits => ?_, hparts⟩
  rw [hcast]
  exact hflash j (by omega) hfits

end

/-! ### ADMIT_REQUEST (R350, R351, R381) -/

section
variable {b : List Byte} (hrun : (s.lopSlot i).run = .admission) (hactive : s.lopActive i = true) (hserving : s.serving = true)
include hrun hactive hserving

/-- A further line of the request. -/
theorem admitRequestStep_reads (hinput : 0 < s.inLeft i) (hdma : s.dmaEn = true) (hb : b.length = 64) :
    admitRequestStep i b s
      = (s.lopRead i 1).setLop i { (s.lopRead i 1).lopSlot i with buf := (s.lopSlot i).buf ++ b } := by
  have hmore : s.inDone i = false := by
    rw [State.inDone, Bool.and_eq_false_iff]
    exact .inl (by simpa using Nat.pos_iff_ne_zero.1 hinput)
  have hone : min (s.inLeft i) (max 1 (b.length / 64)) = 1 := by
    rw [hb]
    omega
  unfold admitRequestStep
  dsimp only
  rw [if_neg (by simp [hrun, hactive, hserving]), if_neg (by simp [hmore]), if_neg (by simp [hdma]; omega), hone, bytesAt_whole hb]

theorem admitRequestStep_reads_leaves (hinput : 0 < s.inLeft i) (hdma : s.dmaEn = true) (hb : b.length = 64) :
    ((admitRequestStep i b s).lopSlot i).buf = (s.lopSlot i).buf ++ b
      ∧ (admitRequestStep i b s).lopFld i lopLines = (s.lopFld i lopLines + 1) % 4294967296
      ∧ s.within (admitRequestStep i b s) {Reg.LOP_STATUS i} [.regs, .lop] := by
  obtain ⟨hlines, hread⟩ := s.lopRead_shows i 1
  rw [admitRequestStep_reads hrun hactive hserving hinput hdma hb]
  generalize s.lopRead i 1 = t at *
  exact ⟨congrArg LopSt.buf (t.lopSlot_setLop_self i _), (State.lopFld_setLop _ _ _ _ _).trans hlines, hread.rest (t.setLop_rest i _)⟩

theorem admitRequestStep_checks (hdone : s.inDone i = true) (hfirst : s.admitBefore i = false) :
    admitRequestStep i b s = s.admitRequest i (s.lopSlot i).buf := by
  unfold admitRequestStep
  dsimp only
  rw [if_neg (by simp [hrun, hactive, hserving]), if_pos hdone, if_neg (by simp [hfirst])]

end

/-- A request that is refused shows why. -/
theorem State.admitRefuse_shows (s : State) (i : Nat) (r : Refuse) :
    (s.admitRefuse i r).lopFld i lopState = 4 ∧ (s.admitRefuse i r).lopFld i lopCode = r.code % 65536
      ∧ s.onlyParts (s.admitRefuse i r) [.regs, .lop] := by
  obtain ⟨t, heq, hparts⟩ : ∃ t : State, s.admitRefuse i r = t.lopEnd i 4 r.code ∧ s.onlyParts t [.regs] :=
    ⟨_, rfl, ((((s.setReg_rest _ _).setReg _ _).setReg _ _).bump _)⟩
  have hput (f : Fld) (h : f.lo + f.len ≤ 8 ∨ 16 ≤ f.lo) : (t.lopEnd i 4 r.code).lopFld i f
      = (((t.reg (Reg.LOP_STATUS i)).put lopState 4).put lopCode r.code).get f := t.lopFld_lopPut i _ h
  rw [heq]
  refine ⟨?_, ?_, State.onlyParts_trans (State.onlyParts_mono hparts (by simp)) (t.lopEnd_within i 4 r.code).2⟩
  · rw [hput _ (by decide), Word64.get_put_disjoint _ _ (by decide), Word64.get_put_fits _ (by decide) (by decide)]
  · rw [hput _ (by decide)]
    exact Word64.get_put_self _ _ _ (by decide)

/-- The set-up that a request asks for is in the schedulers and the slices. -/
theorem State.admitApply_within (s : State) (x : AdmitBlock) : s.within (s.admitApply x) {a | 0x2000000 ≤ a} [.regs] := by
  unfold State.admitApply
  have hclasses : s.within (forUpTo 16 (fun h t =>
      forEach x.classes (fun c t => t.setReg (Reg.SCH_CLASS h c.cls) (c.apply (t.reg (Reg.SCH_CLASS h c.cls))))
        (if x.budget = 0 then t else t.setFld (Reg.SCH_AGE_CTL h) Fld.SCH_AGE_CTL_BUDGET x.budget)) s) {a | 0x2000000 ≤ a} [.regs] := by
    refine forUpTo_induct (fun t => s.within t _ [.regs]) 16 _ s (.refl s _ _) fun h t _ ht => ?_
    refine forEach_induct (fun u => s.within u _ [.regs]) x.classes _ _ ?_ fun c u _ hu =>
      hu.setReg _ _ (by simp only [Set.mem_ofPred_eq, Reg.SCH_CLASS]; omega)
    split
    · exact ht
    · exact ht.setFld _ _ _ (by simp only [Set.mem_ofPred_eq, Reg.SCH_AGE_CTL]; omega)
  refine forUpTo_induct (fun t => s.within t _ [.regs]) 16 _ _ hclasses fun k t _ ht => ?_
  refine forUpTo_induct (fun u => s.within u _ [.regs]) 64 _ t ht fun j u _ hu => ?_
  have hlow : Reg.SLC_FCLASS k j ∈ {a | 0x2000000 ≤ a} := by
    simp only [Set.mem_ofPred_eq, Reg.SLC_FCLASS]
    omega
  exact ((hu.setFld _ _ _ hlow).setFld _ _ _ hlow).setFld _ _ _ hlow

theorem State.showAdmitted_within (s : State) (l : List EnvEntry) :
    s.within (s.showAdmitted l) {a | 0x100c0 ≤ a ∧ a < 0x10170} [.regs] := by
  unfold State.showAdmitted
  dsimp only
  have hput : ∀ a d m (t : State), 0x100c0 ≤ a ∧ a < 0x10170 → s.within t {a | 0x100c0 ≤ a ∧ a < 0x10170} [.regs] →
      s.within (t.setReg a (BitVec.ofNat 64 (min d 4294967295 + 4294967296 * m))) {a | 0x100c0 ≤ a ∧ a < 0x10170} [.regs] :=
    fun a d m t ha ht => ht.setReg _ _ ha
  refine forUpTo_induct (fun t => s.within t _ [.regs]) 16 _ _ ?_ fun k t hk ht =>
    hput _ _ _ t (by simp only [Reg.CST_ADM_PARSE]; omega) ht
  refine forUpTo_induct (fun t => s.within t _ [.regs]) 4 _ _ ?_ fun q t hq ht =>
    hput _ _ _ t (by simp only [Reg.CST_ADM_TUMBLER]; omega) ht
  exact hput _ _ _ _ (by decide) (hput _ _ _ _ (by decide) (.refl s _ _))

/-- A request that is admitted. -/
def State.admitted (s : State) (i : Nat) (l : List EnvEntry) : State :=
  ((((State.showAdmitted { s with cast := { s.cast with env := l } } l).jnlQueue (.event .admission)).cstBump
    Cnt.CST_ADMIT_REQ_OK).lopEnd i 3 0)

theorem State.admitted_shows (s : State) (i : Nat) (l : List EnvEntry) :
    (s.admitted i l).lopFld i lopState = 3 ∧ (s.admitted i l).cast.env = l
      ∧ (s.admitted i l).reg (Reg.CST_CNT Cnt.CST_ADMIT_REQ_OK) = s.reg (Reg.CST_CNT Cnt.CST_ADMIT_REQ_OK) + 1 := by
  obtain ⟨t, heq, ht, hregs⟩ : ∃ t : State, s.admitted i l
      = (((t.showAdmitted l).jnlQueue (.event .admission)).cstBump Cnt.CST_ADMIT_REQ_OK).lopEnd i 3 0
      ∧ t.cast.env = l ∧ ∀ a, t.reg a = s.reg a := ⟨_, rfl, rfl, fun _ => rfl⟩
  have hshown := t.showAdmitted_within l
  have henv : (t.showAdmitted l).cast.env = l := (congrArg CastSt.env (hshown.2.2 .cast (by decide))).trans ht
  have hcnt := (hshown.1 (Reg.CST_CNT Cnt.CST_ADMIT_REQ_OK) (by decide)).trans (hregs _)
  obtain ⟨q, hcast, -⟩ := (t.showAdmitted l).jnlQueue_cast (.event .admission)
  have hqueued := ((t.showAdmitted l).jnlQueue_only (.event .admission)).reg_eq (by decide) (Reg.CST_CNT Cnt.CST_ADMIT_REQ_OK)
  rw [heq]
  generalize (t.showAdmitted l).jnlQueue (.event .admission) = v at *
  obtain ⟨hstate, -⟩ := (v.cstBump Cnt.CST_ADMIT_REQ_OK).lopEnd_shows i (st := 3) (code := 0) (by decide) (by decide)
  have hended := (v.cstBump Cnt.CST_ADMIT_REQ_OK).lopEnd_within i 3 0
  refine ⟨hstate, ?_, ?_⟩
  · rw [hended.2.2 .cast (by decide)]
    exact (congrArg CastSt.env hcast).trans henv
  · refine (hended.1 _ (by simp only [Set.mem_singleton_iff, Reg.CST_CNT, Cnt.CST_ADMIT_REQ_OK, Reg.LOP_STATUS]; omega)).trans ?_
    exact (State.reg_bump_self _ _).trans (by rw [hqueued, hcnt])

section
variable {x : AdmitBlock} (hidle : s.dram.freq = .idle) (hstill : s.anyMigration = false) (hok : admitBlockOk (s.lopSlot i).buf = true)
  (hx : x = admitBlock (s.lopSlot i).buf) (hfields : x.badField = none)
  (hmay : s.fld Reg.CST_IMAGE_INFO Fld.CST_IMAGE_INFO_RUNTIME_ADMIT ≠ 0)
include hidle hstill hok hx hfields hmay

/-- Only the request's checks are left. -/
theorem State.admitRequest_eq : s.admitRequest i (s.lopSlot i).buf
    = ((s.admitApply x).admitChecks x (admitEnvelope s.cast.env x)).elim ((s.admitApply x).admitted i (admitEnvelope s.cast.env x))
        (fun r => s.admitRefuse i r) := by
  -- The kernel must not evaluate the checks: they stand here as functions of which nothing is known.
  obtain ⟨fields, hbad⟩ : ∃ f, f = AdmitBlock.badField := ⟨_, rfl⟩
  obtain ⟨checks, hchecks⟩ : ∃ f, f = State.admitChecks := ⟨_, rfl⟩
  rw [State.admitRequest, ← hchecks, ← hbad]
  rw [← hbad] at hfields
  clear hbad hchecks
  dsimp only
  rw [if_neg (by simp [hidle, hstill]), if_neg (by simp [hok]), ← hx, hfields]
  dsimp only
  rw [if_neg hmay]
  cases checks (s.admitApply x) x (admitEnvelope s.cast.env x) with
  | none => rfl
  | some r => rfl

theorem State.admitRequest_refuses {r : Refuse} (hr : (s.admitApply x).admitChecks x (admitEnvelope s.cast.env x) = some r) :
    s.admitRequest i (s.lopSlot i).buf = s.admitRefuse i r := by
  rw [State.admitRequest_eq hidle hstill hok hx hfields hmay, hr, Option.elim_some]

theorem State.admitRequest_admits (hpass : (s.admitApply x).admitChecks x (admitEnvelope s.cast.env x) = none) :
    (s.admitRequest i (s.lopSlot i).buf).lopFld i lopState = 3
      ∧ (s.admitRequest i (s.lopSlot i).buf).cast.env = admitEnvelope s.cast.env x
      ∧ (s.admitRequest i (s.lopSlot i).buf).reg (Reg.CST_CNT Cnt.CST_ADMIT_REQ_OK) = s.reg (Reg.CST_CNT Cnt.CST_ADMIT_REQ_OK) + 1 := by
  obtain ⟨hstate, henv, hcount⟩ := (s.admitApply x).admitted_shows i (admitEnvelope s.cast.env x)
  rw [State.admitRequest_eq hidle hstill hok hx hfields hmay, hpass, Option.elim_none]
  exact ⟨hstate, henv, hcount.trans (by rw [(s.admitApply_within x).1 _ (by decide)])⟩

end

end

/-- Settles O53. -/
theorem repairsImagesAndRequests : Obligations.RepairsImagesAndRequests := by
  refine ⟨fun s i hrun hactive hserving => ?_, fun s i x es hrun hactive hready hmay => ?_,
    fun s i c hc _ hrun hactive hfree hrank => ?_, fun s i hrun hactive hmig => ?_, fun s i e f n b hrun hactive hserving hok => ?_,
    fun s i f n b hrun hn hactive hserving hwritten hinput hdma hb => ?_, fun s i f n b hrun hactive hserving hwritten => ?_,
    fun s i b hrun hactive hserving hinput hdma hb => ?_,
    fun s i b x hrun hactive hserving hdone hfirst hidle hstill hok hx hfields hmay => ?_⟩
  · obtain ⟨hstate, hidle, hmarked, hframe⟩ := tumblerRebuild_ends hrun hactive hserving
    exact ⟨_, done_eq_next hframe.2 (by decide), hstate, hidle, hmarked, hframe.listed rfl, hframe.2⟩
  · obtain ⟨hnext, hcount⟩ := dramScrub_counts es i.isLt hrun hactive hready hmay
    exact ⟨_, done_eq _ _, hnext, hcount⟩
  · obtain ⟨hnext, hstate, hframe⟩ := rankMigrate_starts hc hrun hactive hfree hrank
    exact ⟨_, done_eq_next hframe.2 (by decide), hnext, hstate, hframe.listed rfl, hframe.2⟩
  · obtain ⟨hstate, hcode, -⟩ := s.lopEnd_shows i.val (st := 3) (code := 0) (by decide) (by decide)
    have hframe := s.lopEnd_within i.val 3 0
    rw [← rankMigrate_ends hrun hactive hmig] at hstate hcode hframe
    exact ⟨_, done_eq_next hframe.2 (by decide), hstate, hcode, hframe.onlyRegs (by simp), hframe.2⟩
  · obtain ⟨hnext, hqueued, hframe⟩ := imageWrite_revokes_leaves (b := b) hactive hserving hrun hok f
    exact ⟨_, done_eq_next hframe (by decide), hnext, hqueued, hframe⟩
  · obtain ⟨hnext, hlines, hflash, hframe⟩ := imageWrite_programs_leaves hactive hserving hrun hn hwritten hinput hdma hb f
    exact ⟨_, done_eq_next hframe (by decide), hnext, hlines, hflash, hframe⟩
  · obtain ⟨hstate, hcode, -⟩ := s.lopEnd_shows i.val (st := 3) (code := 0) (by decide) (by decide)
    have hframe := s.lopEnd_within i.val 3 0
    rw [← imageWrite_ends (b := b) hactive hserving hrun hwritten f] at hstate hcode hframe
    exact ⟨_, done_eq_next hframe.2 (by decide), hstate, hcode, hframe.onlyRegs (by simp), hframe.2⟩
  · obtain ⟨hbuf, hlines, hframe⟩ := admitRequestStep_reads_leaves hrun hactive hserving hinput hdma hb
    exact ⟨_, done_eq_next hframe.2 (by decide), hbuf, hlines, hframe.onlyRegs (by simp), hframe.2⟩
  · cases hchecks : (s.admitApply x).admitChecks x (admitEnvelope s.cast.env x) with
    | none =>
      obtain ⟨hstate, henv, hcount⟩ := State.admitRequest_admits hidle hstill hok hx hfields hmay hchecks (i := i.val)
      rw [← admitRequestStep_checks (b := b) hrun hactive hserving hdone hfirst] at hstate henv hcount
      exact ⟨_, done_eq _ _, fun _ => ⟨hstate, henv, hcount⟩, fun r hr => absurd hr (by simp)⟩
    | some r =>
      obtain ⟨hstate, hcode, hframe⟩ := s.admitRefuse_shows i.val r
      rw [← State.admitRequest_refuses hidle hstill hok hx hfields hmay hchecks,
        ← admitRequestStep_checks (b := b) hrun hactive hserving hdone hfirst] at hstate hcode hframe
      refine ⟨_, done_eq_next hframe (by decide), fun h => absurd h (by simp), fun q hq => ?_⟩
      cases hq
      exact ⟨hstate, hcode, hframe⟩

end Sys2Proof.Machine
end

section
/-! PROOF. Cast-on phases RESET, FUSES, JOURNAL and SELECT (R337 to R343, R353), and O47. -/

namespace Sys2Proof.Machine

set_option Elab.async false

/-! ### The phase -/

theorem State.phase_setPhase (s : State) {n : Nat} (h : n < 16) : (s.setPhase n).phase = n :=
  State.fld_setFld_fits s Reg.CST_STATUS (by decide) h

theorem State.phase_of_reg {s t : State} (h : t.reg Reg.CST_STATUS = s.reg Reg.CST_STATUS) : t.phase = s.phase := State.fld_of_reg h _

theorem State.inPhase_phase {s : State} {n : Nat} (h : s.inPhase n = true) : s.phase = n := by
  simp only [State.inPhase, Bool.and_eq_true, beq_iff_eq] at h
  exact h.1.1.1

theorem State.setPhase_within (s : State) (n : Nat) : s.within (s.setPhase n) {Reg.CST_STATUS} [.regs] :=
  s.setFld_within (Set.mem_singleton _) _ _

/-- The phase shares no bit with a field at bit 4 or above. -/
theorem State.flag_setPhase (s : State) (n : Nat) {f : Fld} (h : 4 ≤ f.lo) :
    (s.setPhase n).flag Reg.CST_STATUS f = s.flag Reg.CST_STATUS f :=
  State.flag_setFld_disjoint _ _ _ (.inl h)

theorem State.fld_setPhase (s : State) (n : Nat) {f : Fld} (h : 4 ≤ f.lo) : (s.setPhase n).fld Reg.CST_STATUS f = s.fld Reg.CST_STATUS f :=
  State.fld_setFld_disjoint _ _ _ (.inl h)

/-! ### RESET -/

/-- With every rail good the PLL locks. -/
def State.powered (s : State) : State :=
  let a := Reg.PMU_STATUS
  let s := ((s.setFld a Fld.PMU_STATUS_RAIL_MISSING 0).setFld a Fld.PMU_STATUS_MAIN_LOCK 1).setFld a Fld.PMU_STATUS_CLK_FALLBACK 0
  let s : State := forUpTo 7 (fun r t => t.setFld (Reg.PMU_RAIL r) Fld.PMU_RAIL_GOOD 1) s
  forUpTo 7 (fun j t => t.setDom (68 + j) 0) s

theorem State.powered_shows (s : State) : s.powered.flag Reg.PMU_STATUS Fld.PMU_STATUS_MAIN_LOCK = true
    ∧ s.within s.powered {a | 0x60000 ≤ a} [.regs] := by
  have hlocked : (((s.setFld Reg.PMU_STATUS Fld.PMU_STATUS_RAIL_MISSING 0).setFld Reg.PMU_STATUS Fld.PMU_STATUS_MAIN_LOCK 1).setFld
      Reg.PMU_STATUS Fld.PMU_STATUS_CLK_FALLBACK 0).flag Reg.PMU_STATUS Fld.PMU_STATUS_MAIN_LOCK = true :=
    (State.flag_setFld_disjoint _ _ _ (by decide)).trans (State.flag_setFld_one _ _ ⟨rfl, by decide⟩)
  have hshown := (((State.within.refl s {a | 0x60000 ≤ a} [.regs]).setFld Reg.PMU_STATUS Fld.PMU_STATUS_RAIL_MISSING 0
    (by simp [Reg.PMU_STATUS])).setFld Reg.PMU_STATUS Fld.PMU_STATUS_MAIN_LOCK 1 (by simp [Reg.PMU_STATUS])).setFld Reg.PMU_STATUS
    Fld.PMU_STATUS_CLK_FALLBACK 0 (by simp [Reg.PMU_STATUS])
  unfold State.powered
  dsimp only
  generalize ((s.setFld Reg.PMU_STATUS Fld.PMU_STATUS_RAIL_MISSING 0).setFld Reg.PMU_STATUS Fld.PMU_STATUS_MAIN_LOCK 1).setFld
    Reg.PMU_STATUS Fld.PMU_STATUS_CLK_FALLBACK 0 = t at *
  have hrest : t.within (forUpTo 7 (fun j u => u.setDom (68 + j) 0) (forUpTo 7 (fun r u => u.setFld (Reg.PMU_RAIL r) Fld.PMU_RAIL_GOOD 1) t))
      {a | 0x60028 ≤ a} [.regs] := by
    refine forUpTo_induct (fun u => t.within u _ [.regs]) 7 _ _ ?_ fun j u _ hu =>
      hu.setFld _ _ _ (by simp only [Set.mem_ofPred_eq, Reg.PMU_PD_STATE]; omega)
    exact forUpTo_induct (fun u => t.within u _ [.regs]) 7 _ t (.refl t _ _) fun r u _ hu =>
      hu.setFld _ _ _ (by simp only [Set.mem_ofPred_eq, Reg.PMU_RAIL]; omega)
  refine ⟨(hrest.flag_eq (by simp [Reg.PMU_STATUS]) _).trans hlocked, hshown.trans (hrest.mono (fun a ha => ?_) (by simp))⟩
  simp only [Set.mem_ofPred_eq] at ha ⊢
  omega

/-- The clock of PLL_MAIN runs. -/
def State.clocked (s : State) : State := { s with clk := { s.clk with running := true }, power := { s.power with fallback := false } }

theorem State.clocked_shows (s : State) :
    s.clocked.clk = { s.clk with running := true } ∧ (∀ a, s.clocked.reg a = s.reg a) ∧ s.onlyParts s.clocked [.clk, .power] :=
  ⟨rfl, fun _ => rfl, rfl, fun p hp => by
    cases p with
    | clk => exact absurd hp (by simp)
    | power => exact absurd hp (by simp)
    | _ => rfl⟩

theorem phaseReset_starts {s : State} (h : s.inPhase 0 = true) :
    (phaseReset none s).phase = 1 ∧ (phaseReset none s).clk = { s.clk with running := true }
      ∧ (phaseReset none s).flag Reg.PMU_STATUS Fld.PMU_STATUS_MAIN_LOCK = true
      ∧ (phaseReset none s).reg (Reg.CST_CNT Cnt.CST_CASTONS) = s.reg (Reg.CST_CNT Cnt.CST_CASTONS) + 1
      ∧ s.onlyParts (phaseReset none s) [.clk, .regs, .power] := by
  obtain ⟨hlock, hpowered⟩ := s.powered_shows
  have heq : phaseReset none s = (s.powered.clocked.cstBump Cnt.CST_CASTONS).setPhase 1 := if_neg (by simp [h])
  obtain ⟨hclk, hregs, hrest⟩ := s.powered.clocked_shows
  rw [heq]
  generalize s.powered.clocked = t at *
  have hcounted := (t.cstBump Cnt.CST_CASTONS).setPhase_within 1
  refine ⟨State.phase_setPhase _ (by decide), ?_, ?_, ?_, ?_⟩
  · rw [hcounted.2.2 .clk (by decide)]
    exact hclk.trans (by rw [hpowered.2.2 .clk (by decide)])
  · refine (hcounted.flag_eq (by simp [Reg.PMU_STATUS, Reg.CST_STATUS]) _).trans ((State.flag_bump_other _ _ (by decide)).trans ?_)
    exact (State.flag_of_reg (hregs _) _).trans hlock
  · refine (hcounted.1 _ (by simp [Reg.CST_CNT, Reg.CST_STATUS]; omega)).trans ((State.reg_bump_self _ _).trans ?_)
    rw [hregs, hpowered.1 _ (by simp [Reg.CST_CNT, Cnt.CST_CASTONS])]
  · exact State.onlyParts_trans (State.onlyParts_mono hpowered.2 (by simp)) (((State.onlyParts_mono hrest (by simp)).bump _).setFld _ _ _)

theorem phaseReset_holds {s : State} (h : s.inPhase 0 = true) (r : Fin 7) :
    (phaseReset (some r) s).phase = 0 ∧ (phaseReset (some r) s).flag Reg.PMU_STATUS Fld.PMU_STATUS_RAIL_MISSING = true
      ∧ (phaseReset (some r) s).flag (Reg.PMU_RAIL r.val) Fld.PMU_RAIL_GOOD = false
      ∧ s.within (phaseReset (some r) s) {a | a ∈ [Reg.PMU_STATUS, Reg.PMU_RAIL r.val]} [.regs] := by
  have heq : phaseReset (some r) s
      = (s.setFld Reg.PMU_STATUS Fld.PMU_STATUS_RAIL_MISSING 1).setFld (Reg.PMU_RAIL r.val) Fld.PMU_RAIL_GOOD 0 := if_neg (by simp [h])
  have hrail (a : Nat) (ha : a < 0x60100) : a ≠ Reg.PMU_RAIL r.val := by
    simp only [Reg.PMU_RAIL]
    omega
  rw [heq]
  refine ⟨?_, ?_, State.flag_setFld_zero _ _ ⟨rfl, by decide⟩, ((State.within.refl s _ _).setFld _ _ _ (by simp)).setFld _ _ _ (by simp)⟩
  · refine Eq.trans (State.phase_of_reg ?_) (State.inPhase_phase h)
    rw [State.reg_setFld_other _ _ _ (hrail _ (by decide)), State.reg_setFld_other _ _ _ (by decide)]
  · rw [State.flag_setFld_other _ _ _ _ (hrail _ (by decide))]
    exact State.flag_setFld_one _ _ ⟨rfl, by decide⟩

/-! ### FUSES -/

/-- The registers that show the fuses. -/
def fuseRegs : List Nat := Reg.CST_FUSE_STATUS :: (List.range 6).map Reg.CST_FUSE_HASH

theorem State.senseFuses_shows (s : State) :
    s.senseFuses.fld Reg.CST_FUSE_STATUS Fld.CST_FUSE_STATUS_SVN_MIN = s.cast.svn % 2 ^ Fld.CST_FUSE_STATUS_SVN_MIN.len
      ∧ s.within s.senseFuses {a | a ∈ fuseRegs} [.regs] := by
  obtain ⟨x, y, bits, heq⟩ : ∃ x y, ∃ bits : List Byte, s.senseFuses = forUpTo 6
      (fun i t => t.setReg (Reg.CST_FUSE_HASH i) (BitVec.ofNat 64 (leNat (bytesAt bits (8 * i) 8))))
      (((s.setFld Reg.CST_FUSE_STATUS Fld.CST_FUSE_STATUS_KEY_STATE x).setFld Reg.CST_FUSE_STATUS Fld.CST_FUSE_STATUS_BANK y).setFld
        Reg.CST_FUSE_STATUS Fld.CST_FUSE_STATUS_SVN_MIN s.cast.svn) := ⟨_, _, _, rfl⟩
  have hstatus : Reg.CST_FUSE_STATUS ∈ {a | a ∈ fuseRegs} := List.mem_cons_self
  have hshown := ((((State.within.refl s {a | a ∈ fuseRegs} [.regs]).setFld _ Fld.CST_FUSE_STATUS_KEY_STATE x hstatus).setFld _
    Fld.CST_FUSE_STATUS_BANK y hstatus).setFld _ Fld.CST_FUSE_STATUS_SVN_MIN s.cast.svn hstatus)
  have hsvn := State.fld_setFld_self ((s.setFld Reg.CST_FUSE_STATUS Fld.CST_FUSE_STATUS_KEY_STATE x).setFld Reg.CST_FUSE_STATUS
    Fld.CST_FUSE_STATUS_BANK y) Reg.CST_FUSE_STATUS Fld.CST_FUSE_STATUS_SVN_MIN s.cast.svn (by decide)
  rw [heq]
  generalize ((s.setFld Reg.CST_FUSE_STATUS Fld.CST_FUSE_STATUS_KEY_STATE x).setFld Reg.CST_FUSE_STATUS Fld.CST_FUSE_STATUS_BANK y).setFld
    Reg.CST_FUSE_STATUS Fld.CST_FUSE_STATUS_SVN_MIN s.cast.svn = t at *
  refine ⟨Eq.trans ?_ hsvn, ?_⟩
  · refine State.fld_of_reg (forUpTo_induct (fun u => u.reg Reg.CST_FUSE_STATUS = t.reg Reg.CST_FUSE_STATUS) 6 _ t rfl
      fun i u _ hu => (State.reg_setReg_other _ _ ?_).trans hu) _
    simp only [Reg.CST_FUSE_STATUS, Reg.CST_FUSE_HASH]
    omega
  · exact hshown.trans (forUpTo_induct (fun u => t.within u _ [.regs]) 6 _ t (.refl t _ _) fun i u hi hu =>
      hu.setReg _ _ (List.mem_cons_of_mem _ (List.mem_map.2 ⟨i, List.mem_range.2 hi, rfl⟩)))

theorem phaseFuses_shows {s : State} (h : s.inPhase 1 = true) :
    (phaseFuses s).phase = 2
      ∧ (phaseFuses s).fld Reg.CST_FUSE_STATUS Fld.CST_FUSE_STATUS_SVN_MIN = s.cast.svn % 2 ^ Fld.CST_FUSE_STATUS_SVN_MIN.len
      ∧ s.within (phaseFuses s) {a | a ∈ Reg.CST_STATUS :: fuseRegs} [.regs] := by
  obtain ⟨hsvn, hframe⟩ := s.senseFuses_shows
  have heq : phaseFuses s = s.senseFuses.setPhase 2 := if_neg (by simp [h])
  rw [heq]
  exact ⟨State.phase_setPhase _ (by decide), (State.fld_of_reg (State.reg_setFld_other _ _ _ (by decide)) _).trans hsvn,
    (hframe.mono (fun a ha => List.mem_cons_of_mem _ ha) (by simp)).step (State.setPhase_within _ 2)
      (Set.singleton_subset_iff.2 List.mem_cons_self)⟩

/-! ### JOURNAL -/

theorem phaseJournal_unreadable {s : State} (h : s.inPhase 2 = true) :
    (phaseJournal true s).phase = 3 ∧ (phaseJournal true s).flag Reg.CST_STATUS Fld.CST_STATUS_JNL_FAIL = true
      ∧ (phaseJournal true s).cast.jnlOk = false ∧ (phaseJournal true s).cast.jq = []
      ∧ s.within (phaseJournal true s) {Reg.CST_STATUS} [.regs, .cast] := by
  obtain ⟨t, heq, hflag, hok, hjq, hframe⟩ : ∃ t : State, phaseJournal true s = t.setPhase 3
      ∧ t.flag Reg.CST_STATUS Fld.CST_STATUS_JNL_FAIL = true ∧ t.cast.jnlOk = false ∧ t.cast.jq = []
      ∧ s.within t {Reg.CST_STATUS} [.regs, .cast] := by
    refine ⟨_, (if_neg (by simp [h])).trans (if_pos rfl), s.flag_setFld_one Reg.CST_STATUS (f := Fld.CST_STATUS_JNL_FAIL) ⟨rfl, by decide⟩, rfl, rfl, ?_⟩
    exact ((State.within.refl s _ _).setFld _ _ _ (by simp)).rest (State.setCast_only _ _)
  have hphase := t.setPhase_within 3
  rw [heq]
  exact ⟨State.phase_setPhase _ (by decide), (State.flag_setPhase _ _ (by decide)).trans hflag, (congrArg CastSt.jnlOk (hphase.2.2 .cast (by decide))).trans hok,
    (congrArg CastSt.jq (hphase.2.2 .cast (by decide))).trans hjq, hframe.step hphase⟩

/-- What a readable journal shows leaves the journal itself. -/
theorem State.findHead_within (s : State) :
    s.within s.findHead {a | a ∈ [Reg.CST_CNT Cnt.CST_JNL_TORN, Reg.CST_JNL_STATUS, Reg.CST_JNL_SEQ]} [.regs] := by
  obtain ⟨t, ht, hshown⟩ : ∃ t : State, (s.bumpBy (Reg.CST_CNT Cnt.CST_JNL_TORN) s.jnlTorn).setFld Reg.CST_JNL_STATUS
      Fld.CST_JNL_STATUS_SIZE (s.bumpBy (Reg.CST_CNT Cnt.CST_JNL_TORN) s.jnlTorn).cast.jnlLen = t
      ∧ s.within t {a | a ∈ [Reg.CST_CNT Cnt.CST_JNL_TORN, Reg.CST_JNL_STATUS, Reg.CST_JNL_SEQ]} [.regs] :=
    ⟨_, rfl, ((State.within.refl s _ _).setReg _ _ (by simp)).setFld _ _ _ (by simp)⟩
  unfold State.findHead
  dsimp only
  rw [ht]
  split
  · exact (hshown.setFld _ _ _ (by simp)).setFld _ _ _ (by simp)
  · exact (hshown.setFld _ _ _ (by simp)).setFld _ _ _ (by simp)

/-- A SLOT entry changes no register, and of cast-on's state the journal's queue alone. -/
theorem State.slotEntry_cast (s : State) (k : Nat) (kind : SlotKind) :
    (∃ q, (s.slotEntry k kind).cast = { s.cast with jq := q }) ∧ s.onlyParts (s.slotEntry k kind) [.cast, .free] := by
  unfold State.slotEntry
  split
  · obtain ⟨q, hcast, -⟩ := s.jnlQueue_cast (.slot k kind (s.imgVersion k) (s.imgSvn k) (s.imgLen k) (s.imgDigest k))
    exact ⟨⟨q, hcast⟩, s.jnlQueue_only _⟩
  · have hdrawn := s.drawBytes_only 9
    have hcast : (s.drawBytes 9).2.cast = s.cast := hdrawn.2 .cast (by decide)
    generalize s.drawBytes 9 = x at *
    obtain ⟨q, hqueued, -⟩ := x.2.jnlQueue_cast
      (.slot k kind (leNat (bytesAt x.1 0 8)) (leNat (bytesAt x.1 8 1)) (leNat (bytesAt x.1 16 8)) (bytesAt x.1 24 48))
    exact ⟨⟨q, by rw [hqueued, hcast]⟩, State.onlyParts_trans (State.onlyParts_mono hdrawn (by simp)) (State.jnlQueue_only _ _)⟩

/-- What the end of a trial keeps: the journal, and CST.STATUS but for REVERTED. -/
structure State.revokes (s t : State) : Prop where
  status : ∀ f : Fld, f.lo + f.len ≤ 11 ∨ 12 ≤ f.lo → t.fld Reg.CST_STATUS f = s.fld Reg.CST_STATUS f
  cast : ∃ q, t.cast = { s.cast with jq := q }
  rest : s.onlyParts t [.regs, .cast, .free]

theorem State.revokes.refl (s : State) : s.revokes s := ⟨fun _ _ => rfl, ⟨s.cast.jq, rfl⟩, s.onlyParts_refl _⟩

theorem State.revokes.trans {s t u : State} (a : s.revokes t) (b : t.revokes u) : s.revokes u := by
  obtain ⟨p, hp⟩ := a.cast
  obtain ⟨q, hq⟩ := b.cast
  exact ⟨fun f hf => (b.status f hf).trans (a.status f hf), ⟨q, by rw [hq, hp]⟩, State.onlyParts_trans a.rest b.rest⟩

theorem State.revokeTrial_revokes (s : State) (k : Nat) : s.revokes (s.revokeTrial k) := by
  obtain ⟨hcast, hframe⟩ := s.slotEntry_cast k .revoke
  refine ⟨fun f hf => ?_, hcast, (((State.onlyParts_mono hframe (by simp)).setFld _ _ _).bump _)⟩
  refine (State.fld_bump_other _ _ (by decide)).trans ((State.fld_setFld_disjoint _ _ _ (by simpa [Fld.CST_STATUS_REVERTED] using hf.symm)).trans ?_)
  exact State.fld_of_reg (hframe.reg_eq (by decide) _) _

theorem phaseJournal_reads {s : State} (h : s.inPhase 2 = true) (hjq : s.cast.jq = []) :
    (phaseJournal false s).phase = 3 ∧ (phaseJournal false s).flag Reg.CST_STATUS Fld.CST_STATUS_JNL_FAIL = false
      ∧ (phaseJournal false s).cast.jnlOk = true ∧ (phaseJournal false s).cast.jnl = s.cast.jnl
      ∧ s.onlyParts (phaseJournal false s) [.regs, .cast, .free] := by
  obtain ⟨t, heq, hflag, hok, hjnl, hframe⟩ : ∃ t : State, phaseJournal false s = t.findHead.candidates.setPhase 3
      ∧ t.flag Reg.CST_STATUS Fld.CST_STATUS_JNL_FAIL = false ∧ t.cast.jnlOk = true ∧ t.cast.jnl = s.cast.jnl
      ∧ s.onlyParts t [.regs, .cast] :=
    ⟨_, (if_neg (by simp [h])).trans ((if_neg (by simp)).trans (if_neg (by simp [hjq]))),
      s.flag_setFld_zero Reg.CST_STATUS (f := Fld.CST_STATUS_JNL_FAIL) ⟨rfl, by decide⟩, rfl, rfl,
      State.onlyParts_trans (State.onlyParts_mono (s.setFld_rest _ _ _) (by simp)) (State.onlyParts_mono (State.setCast_only _ _) (by simp))⟩
  have hhead := t.findHead_within
  have hheadFlag : t.findHead.flag Reg.CST_STATUS Fld.CST_STATUS_JNL_FAIL = false := (hhead.flag_kept Reg.CST_STATUS _).trans hflag
  have hheadCast : t.findHead.cast = t.cast := hhead.2.2 .cast (by decide)
  rw [heq]
  generalize t.findHead = u at *
  obtain ⟨used, v, hv, hregs, hcast, hparts⟩ : ∃ (used : List Nat) (v : State),
      u.candidates = forEach used (fun k t => t.revokeTrial k) v ∧ (∀ a, v.reg a = u.reg a)
      ∧ (v.cast.jnlOk = u.cast.jnlOk ∧ v.cast.jnl = u.cast.jnl) ∧ u.onlyParts v [.cast] :=
    ⟨_, _, rfl, fun _ => rfl, ⟨rfl, rfl⟩, u.setCast_only _⟩
  have hrevoked : v.revokes u.candidates := by
    rw [hv]
    exact forEach_induct (fun w => v.revokes w) used _ v (.refl v) fun k w _ hw => hw.trans (w.revokeTrial_revokes k)
  obtain ⟨q, hq⟩ := hrevoked.cast
  have hphase := u.candidates.setPhase_within 3
  refine ⟨State.phase_setPhase _ (by decide), ?_, ?_, ?_, ?_⟩
  · refine (State.flag_setPhase _ _ (by decide)).trans ?_
    rw [State.flag, hrevoked.status _ (by decide), State.fld_of_reg (hregs _)]
    exact hheadFlag
  · rw [hphase.2.2 .cast (by decide), hq]
    exact hcast.1.trans ((congrArg CastSt.jnlOk hheadCast).trans hok)
  · rw [hphase.2.2 .cast (by decide), hq]
    exact hcast.2.trans ((congrArg CastSt.jnl hheadCast).trans hjnl)
  · exact State.onlyParts_trans (State.onlyParts_mono hframe (by simp)) (State.onlyParts_trans (State.onlyParts_mono hhead.2 (by simp))
      (State.onlyParts_trans (State.onlyParts_mono hparts (by simp)) (State.onlyParts_trans hrevoked.rest
        (State.onlyParts_mono hphase.2 (by simp)))))

/-! ### SELECT -/

theorem State.choose_none {s : State} (h : s.cast.cands = []) : s.choose = s := by
  unfold State.choose
  rw [h]

theorem State.choose_committed {s : State} {k : Nat} {r : List (Nat × Bool)} (h : s.cast.cands = (k, false) :: r) :
    s.choose = { s with cast := { s.cast with cands := r, slot := some k, trial := false, chosen := true } } := by
  unfold State.choose
  rw [h]
  exact if_neg (by simp)

theorem State.choose_only (s : State) : s.onlyParts s.choose [.cast, .free] := by
  unfold State.choose
  split
  · exact s.onlyParts_refl _
  · dsimp only
    split
    · exact State.onlyParts_trans (State.onlyParts_mono (s.setCast_only _) (by simp)) (State.jnlQueue_only _ _)
    · exact State.onlyParts_mono (s.setCast_only _) (by simp)

theorem phaseSelect_only (s : State) : s.onlyParts (phaseSelect s) [.regs, .cast, .free] := by
  unfold phaseSelect
  split
  · exact s.onlyParts_refl _
  · have hchosen : s.onlyParts (if s.cast.chosen then s else s.choose) [.regs, .cast, .free] := by
      split
      · exact s.onlyParts_refl _
      · exact State.onlyParts_mono s.choose_only (by simp)
    dsimp only
    generalize (if s.cast.chosen then s else s.choose) = t at *
    split
    · exact hchosen
    · split
      · exact (State.onlyParts_trans hchosen (State.onlyParts_mono (t.setCast_only _) (by simp))).setFld _ _ _
      · exact hchosen.setFld _ _ _

section
variable {s : State} (h : s.inPhase 3 = true) (hchosen : s.cast.chosen = false) (hjq : s.cast.jq = []) (htokens : 0 ≤ s.jnlTokens)
include h hchosen hjq htokens

theorem phaseSelect_none (hcands : s.cast.cands = []) : phaseSelect s = s.setPhase 12 := by
  have hpick : (if s.cast.chosen then s else s.choose) = s.choose := if_neg (by simp [hchosen])
  unfold phaseSelect
  rw [if_neg (by simp [h])]
  dsimp only
  rw [hpick, State.choose_none hcands, if_neg (by simp [hjq]; omega), if_neg (by simp [hchosen])]

theorem phaseSelect_committed {k : Nat} {r : List (Nat × Bool)} (hcands : s.cast.cands = (k, false) :: r) :
    phaseSelect s
      = State.setPhase { s with cast := { s.cast with cands := r, slot := some k, trial := false, chosen := false } } 4 := by
  have hpick : (if s.cast.chosen then s else s.choose) = s.choose := if_neg (by simp [hchosen])
  unfold phaseSelect
  rw [if_neg (by simp [h])]
  dsimp only
  rw [hpick, State.choose_committed hcands]
  exact (if_neg (by simp [hjq]; exact htokens)).trans (if_pos rfl)

end

/-- Settles O47. -/
theorem castOnBegins : Obligations.CastOnBegins := by
  refine ⟨fun s h => ?_, fun s r h => ?_, fun s h => ?_, fun s h => ?_, fun s h hjq => ?_, fun s h hchosen hjq htokens => ?_⟩
  · obtain ⟨hphase, hclk, hlock, hcount, hframe⟩ := phaseReset_starts h
    exact ⟨_, doneClk_eq_next hframe.1, hphase, hclk, hlock, hcount, hframe⟩
  · obtain ⟨hphase, hmissing, hgood, hframe⟩ := phaseReset_holds h r
    exact ⟨_, doneClk_eq_next hframe.2.1, hphase, hmissing, hgood, hframe.listed rfl, hframe.2⟩
  · obtain ⟨hphase, hsvn, hframe⟩ := phaseFuses_shows h
    exact ⟨_, done_eq_next hframe.2 (by decide), hphase, hsvn, hframe.listed rfl, hframe.2⟩
  · obtain ⟨hphase, hfail, hok, hjq, hframe⟩ := phaseJournal_unreadable h
    exact ⟨_, done_eq_next hframe.2 (by decide), hphase, hfail, hok, hjq, hframe.onlyRegs (by simp), hframe.2⟩
  · obtain ⟨hphase, hfail, hok, hjnl, hframe⟩ := phaseJournal_reads h hjq
    exact ⟨_, done_eq_next hframe (by decide), hphase, hfail, hok, hjnl, hframe⟩
  · refine ⟨_, done_eq_next (phaseSelect_only s) (by decide), fun hcands => ?_, fun k r hcands => ?_, phaseSelect_only s⟩
    · rw [phaseSelect_none h hchosen hjq htokens hcands]
      exact ⟨State.phase_setPhase _ (by decide), (s.setPhase_within 12).2.2 .cast (by decide)⟩
    · rw [phaseSelect_committed h hchosen hjq htokens hcands]
      exact ⟨State.phase_setPhase _ (by decide), rfl, rfl, rfl⟩

end Sys2Proof.Machine
end

section
/-! PROOF. Cast-on phases VERIFY to ARM (R343, R345, R349, R405): where each leads, and the start of both complexes. -/

namespace Sys2Proof.Machine

set_option Elab.async false

/-! ### The phases that a check ends -/

theorem State.refuseImage_phase (s : State) (r : Refuse) : (s.refuseImage r).phase = 13 := State.phase_setPhase _ (by decide)

theorem endPhase_phase {n : Nat} (hn : n < 16) (x : Option Refuse × State) :
    (endPhase n x).phase = if x.1.isNone then n else 13 := by
  obtain ⟨r, t⟩ := x
  cases r with
  | none => exact State.phase_setPhase t hn
  | some r => exact t.refuseImage_phase r

theorem phase_done (s t : State) : ∃ u, done s t = .next u ∧ u.phase = t.phase := ⟨_, rfl, rfl⟩

theorem phase_doneClk (s t : State) : ∃ u, doneClk s t = .next u ∧ u.phase = t.phase := ⟨_, rfl, rfl⟩

/-! ### FIRMWARE -/

/-- The registers that the start of both complexes writes. -/
def complexRegs : List Nat := [claimReg 0, claimReg 1, Reg.CCX_STATUS, Reg.CCX_TAKEOVERS]

/-- Both complexes are started: CC-A under claim 2, CC-B under claim 1 (R405). -/
theorem State.startComplexes_starts (s : State) :
    s.startComplexes.claim 0 = 2 ∧ s.startComplexes.claim 1 = 1 ∧ s.within s.startComplexes {a | a ∈ complexRegs} [.regs, .ccx] := by
  obtain ⟨l, hl, hloaded⟩ : ∃ l : State, (s.loadFirmware 0).loadFirmware 1 = l ∧ s.onlyParts l [.ccx] :=
    ⟨_, rfl, State.onlyParts_trans (s.loadFirmware_only 0) (State.loadFirmware_only _ 1)⟩
  have hA : (l.setClaim 0 2).claim 0 = 2 := l.claim_setClaim_self 0 2
  have hB : ((l.setClaim 0 2).setClaim 1 1).claim 1 = 1 := State.claim_setClaim_self _ 1 1
  have hA' : ((l.setClaim 0 2).setClaim 1 1).claim 0 = 2 :=
    (State.claim_setClaim_other _ (by decide) (by decide) (by decide) 1).trans hA
  have hclaimed : s.within ((l.setClaim 0 2).setClaim 1 1) {a | a ∈ complexRegs} [.regs, .ccx] :=
    ((hloaded.within (by decide) {a | a ∈ complexRegs}).parts (by simp)).setFld (claimReg 0) ⟨0, 32⟩ 2 (by simp [complexRegs])
      |>.setFld (claimReg 1) ⟨0, 32⟩ 1 (by simp [complexRegs])
  obtain ⟨c, hc⟩ : ∃ c, c = (l.setClaim 0 2).setClaim 1 1 := ⟨_, rfl⟩
  rw [← hc] at hB hA' hclaimed
  obtain ⟨a, ha, hkept, hshown⟩ : ∃ a : State, (c.setFld Reg.CCX_STATUS Fld.CCX_STATUS_ACTIVE 0).setFld Reg.CCX_TAKEOVERS
      Fld.CCX_TAKEOVERS_COUNT 0 = a ∧ (∀ x, a.claim x = c.claim x) ∧ s.within a {a | a ∈ complexRegs} [.regs, .ccx] := by
    refine ⟨_, rfl, fun x => State.claim_of_reg ?_, (hclaimed.setFld _ _ _ (by simp [complexRegs])).setFld _ _ _ (by simp [complexRegs])⟩
    obtain h | h := claimReg_cases x <;>
      rw [h, State.reg_setFld_other _ _ _ (by decide), State.reg_setFld_other _ _ _ (by decide)]
  have hstart : s.startComplexes = (a.hbStart 0).hbStart 1 := by
    unfold State.startComplexes
    rw [hl, ← hc]
    exact congrArg (fun t : State => (t.hbStart 0).hbStart 1) ha
  have hbeat : a.onlyParts ((a.hbStart 0).hbStart 1) [.ccx] := State.onlyParts_trans (a.hbStart_only 0) (State.hbStart_only _ 1)
  rw [hstart]
  generalize (a.hbStart 0).hbStart 1 = t at *
  have hregs := hbeat.reg_eq (by decide)
  refine ⟨?_, ?_, hshown.rest hbeat (by decide) (by simp)⟩
  · rw [State.claim_of_reg (hregs _), hkept, hA']
  · rw [State.claim_of_reg (hregs _), hkept, hB]

/-- The slot of an attempt that loads firmware, its versions shown. -/
theorem phaseFirmware_starts {s : State} {k : Nat} (hslot : s.cast.slot = some k) (h : s.inPhase 5 = true) (v : Word64) :
    (phaseFirmware false v s).phase = 6 ∧ (phaseFirmware false v s).claim 0 = 2 ∧ (phaseFirmware false v s).claim 1 = 1
      ∧ (∀ x, x < 2 → (phaseFirmware false v s).fld (Reg.CCX_FW x) Fld.CCX_FW_VERSION = v.toNat % 4294967296)
      ∧ s.onlyParts (phaseFirmware false v s) [.regs, .ccx] := by
  obtain ⟨hA, hB, hframe⟩ := s.startComplexes_starts
  have heq : phaseFirmware false v s = State.setPhase (forUpTo 2 (fun x t => State.setFld t (Reg.CCX_FW x) Fld.CCX_FW_VERSION
      (v.toNat % 4294967296)) s.startComplexes) 6 := by
    unfold phaseFirmware
    rw [hslot]
    exact (if_neg (by simp [h])).trans (if_neg (by simp))
  rw [heq]
  generalize s.startComplexes = t at *
  have hlow : v.toNat % 4294967296 < 4294967296 := Nat.mod_lt _ (by decide)
  generalize v.toNat % 4294967296 = n at *
  have hshown : t.within (forUpTo 2 (fun x t => State.setFld t (Reg.CCX_FW x) Fld.CCX_FW_VERSION n) t)
      {a | a ∈ [Reg.CCX_FW 0, Reg.CCX_FW 1]} [.regs] :=
    ((State.within.refl t _ _).setFld _ _ _ (by simp)).setFld _ _ _ (by simp)
  have hversion : ∀ x, x < 2 → (forUpTo 2 (fun x t => State.setFld t (Reg.CCX_FW x) Fld.CCX_FW_VERSION n) t).fld (Reg.CCX_FW x)
      Fld.CCX_FW_VERSION = n := by
    intro x hx
    have hfirst : (t.setFld (Reg.CCX_FW 0) Fld.CCX_FW_VERSION n).fld (Reg.CCX_FW 0) Fld.CCX_FW_VERSION = n :=
      State.fld_setFld_fits t _ (by decide) hlow
    obtain rfl | rfl : x = 0 ∨ x = 1 := by omega
    · exact (State.fld_of_reg (State.reg_setFld_other _ _ _ (by decide)) _).trans hfirst
    · exact State.fld_setFld_fits _ _ (by decide) hlow
  generalize forUpTo 2 (fun x t => State.setFld t (Reg.CCX_FW x) Fld.CCX_FW_VERSION n) t = u at *
  have hphase := u.setPhase_within 6
  refine ⟨State.phase_setPhase _ (by decide), ?_, ?_, fun x hx => (hphase.fld_eq ?_ _).trans (hversion x hx), ?_⟩
  · exact (State.claim_of_reg (hphase.1 _ (by decide))).trans ((State.claim_of_reg (hshown.reg_kept _)).trans hA)
  · exact (State.claim_of_reg (hphase.1 _ (by decide))).trans ((State.claim_of_reg (hshown.reg_kept _)).trans hB)
  · obtain rfl | rfl : x = 0 ∨ x = 1 := by omega
    · decide
    · decide
  · exact State.onlyParts_trans (State.onlyParts_trans hframe.2 (State.onlyParts_mono hshown.2 (by simp)))
      (State.onlyParts_mono hphase.2 (by simp))

/-! ### An attempt is refused -/

theorem State.noteAttempt_rest (s : State) (code kind index demand limit : Nat) :
    s.onlyParts (s.noteAttempt code kind index demand limit) [.regs] := by
  unfold State.noteAttempt
  dsimp only
  generalize (match s.cast.slot with | none => 0 | some k => k + 1) = slot
  split
  · exact s.onlyParts_refl _
  · exact ((((((s.onlyParts_refl [.regs]).setFld _ _ _).setFld _ _ _).setFld _ _ _).setFld _ _ _).setFld _ _ _).setFld _ _ _ |>.setFld _ _ _

/-- A trial that is refused is revoked, any other candidate left alone. -/
theorem State.revokes_refused (s : State) :
    s.revokes (match s.cast.slot with | none => s | some k => if s.cast.trial then s.revokeTrial k else s) := by
  cases s.cast.slot with
  | none => exact .refl s
  | some k =>
    dsimp only
    split
    · exact s.revokeTrial_revokes k
    · exact .refl s

theorem State.refuseImage_shows (s : State) (r : Refuse) :
    (s.refuseImage r).cast.slot = none ∧ (s.refuseImage r).cast.attempts = s.cast.attempts + 1
      ∧ (s.refuseImage r).flag Reg.CST_STATUS Fld.CST_STATUS_REFUSED_SEEN = true
      ∧ s.onlyParts (s.refuseImage r) [.regs, .cast, .free] := by
  obtain ⟨t, ht, hflag, hnoted⟩ : ∃ t : State, ((s.noteAttempt r.code r.kind r.index r.demand r.limit).setFld Reg.CST_STATUS
      Fld.CST_STATUS_REFUSED_SEEN 1).cstBump Cnt.CST_ATTEMPTS_REFUSED = t
      ∧ t.flag Reg.CST_STATUS Fld.CST_STATUS_REFUSED_SEEN = true ∧ s.onlyParts t [.regs] :=
    ⟨_, rfl, (State.flag_bump_other _ _ (by decide)).trans (State.flag_setFld_one _ _ ⟨rfl, by decide⟩),
      ((s.noteAttempt_rest _ _ _ _ _).setFld _ _ _).bump _⟩
  obtain ⟨u, heq, hrevoked⟩ : ∃ u : State, s.refuseImage r = State.setPhase { u with cast := { u.cast with
      attempts := u.cast.attempts + 1, slot := none, trial := false, image := [], tables := ImageTables.init, env := [] } } 13
      ∧ t.revokes u := by
    refine ⟨_, ?_, t.revokes_refused⟩
    rw [← ht]
    rfl
  obtain ⟨q, hq⟩ := hrevoked.cast
  have hattempts : u.cast.attempts = s.cast.attempts := by rw [hq, hnoted.2 .cast (by decide)]
  have hkept : u.flag Reg.CST_STATUS Fld.CST_STATUS_REFUSED_SEEN = true := by
    rw [State.flag, hrevoked.status _ (by decide)]
    exact hflag
  rw [heq]
  refine ⟨rfl, congrArg (· + 1) hattempts, (State.flag_setPhase _ _ (by decide)).trans hkept, ?_⟩
  exact (State.onlyParts_trans (State.onlyParts_trans (State.onlyParts_mono hnoted (by simp)) hrevoked.rest)
    (State.onlyParts_mono (State.setCast_only _ _) (by simp))).setFld _ _ _

theorem phaseFirmware_refuses {s : State} {k : Nat} (hslot : s.cast.slot = some k) (h : s.inPhase 5 = true) (v : Word64) :
    ∃ r, phaseFirmware true v s = s.refuseImage r := by
  unfold phaseFirmware
  rw [hslot]
  exact ⟨_, (if_neg (by simp [h])).trans (if_pos rfl)⟩

/-! ### ARM -/

theorem phaseArm_ends {s : State} (h : s.inPhase 10 = true) (hchosen : s.cast.chosen = true) (hjq : s.cast.jq = []) :
    phaseArm s = State.setPhase { s with cast := { s.cast with chosen := false } } 11 := by
  unfold phaseArm
  rw [if_neg (by simp [h])]
  dsimp only
  simp only [if_pos hchosen]
  exact if_neg (by simp [hjq])

/-- A phase whose check runs leads where the check says. -/
theorem phase_of_eq {t u : State} {n : Nat} {x : Option Refuse × State} (heq : u = endPhase n x) (hn : n < 16) (h : t.phase = u.phase) :
    t.phase = if x.1.isNone then n else 13 := by rw [h, heq, endPhase_phase hn]

section
variable {s : State} {k : Nat} (hslot : s.cast.slot = some k)
include hslot

theorem phaseVerify_ends (h : s.inPhase 4 = true) (f : Bool) : phaseVerify f s = endPhase 5 (s.verifyImage k f) := by
  unfold phaseVerify
  rw [hslot]
  exact if_neg (by simp [h])

theorem phaseConfig_ends (h : s.inPhase 6 = true) : phaseConfig s = endPhase 7 (s.configImage k) := by
  unfold phaseConfig
  rw [hslot]
  exact if_neg (by simp [h])

theorem phaseDram_ends (h : s.inPhase 7 = true) (bad : List TrainFail) (init : List (Nat × List Byte)) :
    phaseDram bad init s = endPhase 8 (s.dramPhase bad (s.ofSection k 0x0009 init)) := by
  unfold phaseDram
  rw [hslot]
  exact if_neg (by simp [h])

theorem phaseTables_ends (h : s.inPhase 8 = true) (x : ImageTables) (bad : Option (Fin 16)) :
    phaseTables x bad s = endPhase 9 (s.tablesPhase k (s.signedTables k x) (bad.map (fun h => h.val))) := by
  unfold phaseTables
  rw [hslot]
  exact if_neg (by simp [h])

theorem phaseAdmit_ends (h : s.inPhase 9 = true) : phaseAdmit s = endPhase 10 (s.admitPhase k) := by
  unfold phaseAdmit
  rw [hslot]
  exact if_neg (by simp [h])

end

/-- Settles O48: each phase ends by `endPhase` of its check. -/
theorem castOnTakesTheImage : Obligations.CastOnTakesTheImage := by
  refine ⟨fun s k f hslot h => ?_, fun s k v hslot h => ?_, fun s k v hslot h => ?_, fun s k hslot h => ?_,
    fun s k bad init hslot h => ?_, fun s k x bad hslot h => ?_, fun s k hslot h => ?_, fun s h hchosen hjq => ?_⟩
  · obtain ⟨t, hexec, ht⟩ := phase_done s (phaseVerify f s)
    exact ⟨t, hexec, phase_of_eq (phaseVerify_ends hslot h f) (by decide) ht⟩
  · have hstarts := phaseFirmware_starts hslot h v
    exact ⟨_, done_eq_next hstarts.2.2.2.2 (by decide), hstarts⟩
  · obtain ⟨r, heq⟩ := phaseFirmware_refuses hslot h v
    have hrefused := s.refuseImage_shows r
    exact ⟨_, done_eq_next_of_eq heq hrefused.2.2.2 (by decide), s.refuseImage_phase r, hrefused⟩
  · obtain ⟨t, hexec, ht⟩ := phase_doneClk s (phaseConfig s)
    exact ⟨t, hexec, phase_of_eq (phaseConfig_ends hslot h) (by decide) ht⟩
  · obtain ⟨t, hexec, ht⟩ := phase_done s (phaseDram bad init s)
    exact ⟨t, hexec, phase_of_eq (phaseDram_ends hslot h bad init) (by decide) ht⟩
  · obtain ⟨t, hexec, ht⟩ := phase_done s (phaseTables x bad s)
    exact ⟨t, hexec, phase_of_eq (phaseTables_ends hslot h x bad) (by decide) ht⟩
  · obtain ⟨t, hexec, ht⟩ := phase_done s (phaseAdmit s)
    exact ⟨t, hexec, phase_of_eq (phaseAdmit_ends hslot h) (by decide) ht⟩
  · obtain ⟨c, hc, hcast⟩ : ∃ c : State, { s with cast := { s.cast with chosen := false } } = c ∧ s.onlyParts c [.cast] :=
      ⟨_, rfl, s.setCast_only _⟩
    have hphase := c.setPhase_within 11
    have hframe : s.within (c.setPhase 11) {a | a ∈ [Reg.CST_STATUS]} [.regs, .cast] :=
      ((hcast.within (by decide) _).parts (by simp)).step hphase (by simp)
    refine ⟨c.setPhase 11, done_eq_next_of_eq ((phaseArm_ends h hchosen hjq).trans (by rw [hc])) hframe.2 (by decide),
      State.phase_setPhase _ (by decide), ?_, hframe.listed rfl, hframe.2⟩
    rw [hphase.2.2 .cast (by decide), ← hc]

end Sys2Proof.Machine
end

section
/-! PROOF. The factory layer over a register table that lists CST.STATUS twice (R340): the second entry is written last, and its
phase stands. -/

namespace Sys2Proof.Machine

set_option Elab.async false

/-- A register table that lists CST.STATUS twice: in phase 12, and behind it a second time in phase 5. -/
def twiceListed : Tbl Word64 :=
  [(Reg.CST_STATUS, Word64.put 0#64 Fld.CST_STATUS_PHASE 12), (Reg.CST_STATUS, Word64.put 0#64 Fld.CST_STATUS_PHASE 5)]

/-- Cast-on in phase FACTORY over such a table. -/
def twiceState : State := { State.reset with regs := twiceListed }

theorem twiceState_inPhase : twiceState.inPhase 12 = true ∧ twiceState.fld Reg.CST_STATUS Fld.CST_STATUS_LAYER ≠ 3
    ∧ ¬(¬twiceState.inPhase 12 = true ∨ twiceState.fld Reg.CST_STATUS Fld.CST_STATUS_LAYER = 3) := by decide +kernel

theorem State.ppsHold_regs (s : State) : s.ppsHold.regs = s.regs := by
  unfold State.ppsHold
  split
  · rfl
  · rfl

theorem State.reg_congr {s t : State} (h : t.regs = s.regs) (a : Nat) : t.reg a = s.reg a := by
  rw [State.reg, State.reg, h]

theorem imageFactory_twice {s : State} (h : s.regs = twiceListed) : s.imageFactory.phase = 5 := by
  have hfield : (regImageWrite Reg.CST_STATUS (Word64.put 0#64 Fld.CST_STATUS_PHASE 5) (regDefault Reg.CST_STATUS)).get
      Fld.CST_STATUS_PHASE = 5 := by decide +kernel
  have hlow : Reg.CST_STATUS < 0x80000 := by decide
  unfold State.imageFactory
  rw [h, twiceListed]
  simp only [forEach, if_pos hlow]
  rw [State.phase, State.fld, State.reg_setReg_self]
  exact hfield

theorem State.domainOff_phase (s : State) (d : Nat) : (s.domainOff d).phase = s.phase := by
  refine (forEach_induct (fun t => t.phase = (s.setDom d 0).phase) (domUnits d) _ (s.setDom d 0) rfl fun u t _ ht =>
    (State.phase_of_reg (State.reg_setFld_other _ _ _ ?_)).trans ht).trans (State.phase_of_reg (State.reg_setFld_other _ _ _ ?_))
  · simp only [Reg.FLT_UNIT, Reg.CST_STATUS]; omega
  · simp only [Reg.PMU_PD_STATE, Reg.CST_STATUS]; omega

theorem State.castOnEnds_phase (s : State) : s.castOnEnds.phase = s.phase := by
  have hvector : ∀ t : State, t.castOnVector.phase = t.phase := by
    intro t
    unfold State.castOnVector
    split
    · exact State.phase_of_reg (t.msix_within.1 _ (by simp [showRegs, Reg.FLT_STATUS, Reg.HIF_CNT, Reg.CST_STATUS]; omega))
    · rfl
  exact (hvector _).trans (State.phase_of_reg (State.reg_setFld_other _ _ _ (by decide)))

/-- What phase FACTORY does after its registers have their factory values leaves the phase. -/
theorem phaseFactory_phase {s : State} (h : ¬(!s.inPhase 12 ∨ s.fld Reg.CST_STATUS Fld.CST_STATUS_LAYER = 3)) :
    (phaseFactory s).phase = s.ppsHold.imageFactory.phase := by
  obtain ⟨a, ha, hphase⟩ : ∃ a : State, s.ppsHold.imageFactory.baseIncr.ppsHold = a ∧ a.phase = s.ppsHold.imageFactory.phase :=
    ⟨_, rfl, State.phase_of_reg (State.reg_congr (State.ppsHold_regs s.ppsHold.imageFactory.baseIncr) _)⟩
  obtain ⟨-, -, hstarted⟩ := a.startComplexes_starts
  have hlayer : ((a.startComplexes.setFld Reg.CST_STATUS Fld.CST_STATUS_LAYER 3).resultEntry false).phase = a.phase :=
    (State.phase_of_reg ((State.jnlQueue_only _ _).reg_eq (by decide) _)).trans
      ((State.fld_setFld_disjoint _ _ _ (by decide)).trans (State.phase_of_reg (hstarted.reg_kept _)))
  have heq : phaseFactory s = (forEach ((List.range 75) ++ [domTw]) (fun d t => State.domainOff t d)
      ((a.startComplexes.setFld Reg.CST_STATUS Fld.CST_STATUS_LAYER 3).resultEntry false)).castOnEnds := by
    unfold phaseFactory
    rw [if_neg h, ← ha]
  rw [heq, State.castOnEnds_phase, ← hphase, ← hlayer]
  generalize (a.startComplexes.setFld Reg.CST_STATUS Fld.CST_STATUS_LAYER 3).resultEntry false = b
  exact forEach_induct (fun t : State => t.phase = b.phase) _ _ b rfl fun d t _ ht => (t.domainOff_phase d).trans ht

/-- Refutes O49: no statement says that a register table lists a register once. Over `twiceListed` phase FACTORY runs, and the factory
values of the second entry show phase 5. -/
theorem not_castOnEndsAndRetries : ¬ Obligations.CastOnEndsAndRetries := by
  intro h
  obtain ⟨hphase, hlayer, hruns⟩ := twiceState_inPhase
  obtain ⟨t, hexec, hshown, -⟩ := h.2.1 twiceState hphase hlayer
  have hnext : doneClk twiceState (phaseFactory twiceState) = .next t := hexec
  obtain ⟨u, hdone, hu⟩ := phase_doneClk twiceState (phaseFactory twiceState)
  obtain rfl : u = t := Host.Outcome.next.inj (hdone.symm.trans hnext)
  have hfive : (phaseFactory twiceState).phase = 5 :=
    (phaseFactory_phase (by simpa using hruns)).trans (imageFactory_twice (State.ppsHold_regs _))
  omega

end Sys2Proof.Machine
end

section
/-! PROOF. Fuse commands (R337), and the writing of the journal's entries and its tokens (R352, R354). -/

namespace Sys2Proof.Machine

set_option Elab.async false

/-! ### Fuse commands -/

/-- The registers that a fuse command shows its end in. -/
def fuseShown : List Nat := [Reg.CST_FUSE_STATUS, Reg.CST_CNT Cnt.CST_FUSE_COMMANDS] ++ (List.range 6).map Reg.CST_FUSE_HASH

/-- A fuse command that has run is counted; of cast-on's state it moves the journal's queue alone. -/
theorem State.fuseDone_shows (s : State) :
    (∃ q, s.fuseDone.cast = { s.cast with jq := q })
      ∧ s.fuseDone.reg (Reg.CST_CNT Cnt.CST_FUSE_COMMANDS) = s.reg (Reg.CST_CNT Cnt.CST_FUSE_COMMANDS) + 1
      ∧ s.within s.fuseDone {a | a ∈ fuseShown} [.regs, .cast, .free] := by
  obtain ⟨-, hsensed⟩ := s.senseFuses_shows
  obtain ⟨t, ht, hcount, hcast, hframe⟩ : ∃ t : State, s.senseFuses.cstBump Cnt.CST_FUSE_COMMANDS = t
      ∧ t.reg (Reg.CST_CNT Cnt.CST_FUSE_COMMANDS) = s.reg (Reg.CST_CNT Cnt.CST_FUSE_COMMANDS) + 1 ∧ t.cast = s.cast
      ∧ s.within t {a | a ∈ fuseShown} [.regs, .cast, .free] := by
    refine ⟨_, rfl, (State.reg_bump_self _ _).trans (congrArg (· + 1) (hsensed.reg_kept _)), hsensed.2.2 .cast (by decide), ?_⟩
    refine (hsensed.mono (fun a ha => ?_) (by simp)).bump (Reg.CST_CNT Cnt.CST_FUSE_COMMANDS) (by simp [fuseShown]) (by decide)
    simp only [fuseRegs, fuseShown, Set.mem_ofPred_eq, List.mem_cons, List.mem_append] at ha ⊢
    tauto
  have hqueued : s.fuseDone = t.jnlQueue (.event .fuse) := congrArg (fun u : State => u.jnlQueue (.event .fuse)) ht
  obtain ⟨q, hq, -⟩ := t.jnlQueue_cast (.event .fuse)
  have hrest := t.jnlQueue_only (.event .fuse)
  rw [hqueued]
  exact ⟨⟨q, by rw [hq, hcast]⟩, (hrest.reg_eq (by decide) _).trans hcount, hframe.rest hrest⟩

/-- The 48 bytes of the fuse data registers. -/
def State.fuseData (s : State) : List Byte := (List.range 6).flatMap (fun i => leBytes 8 (s.reg (Reg.CST_FUSE_DATA i)).toNat)

theorem programKey_blows {s : State} (hnone : s.validBank = none) (hblank : s.cast.bank0.blown = false) :
    programKey none s = State.fuseDone { s with cast := { s.cast with bank0 := ⟨s.fuseData, true⟩ } } :=
  (if_neg (by simp [hnone])).trans (if_pos (by simp [hblank]))

theorem programKey_refuses {s : State} {b : KeyBank} (hvalid : s.validBank = some b) (cut : Option (List Byte)) :
    programKey cut s = s.fuseErr := if_pos (by simp [hvalid])

theorem raiseSvn_raises {s : State} (hphase : s.phase = 11) (hlayer : s.fld Reg.CST_STATUS Fld.CST_STATUS_LAYER ≠ 3)
    (htrial : s.flag Reg.CST_STATUS Fld.CST_STATUS_TRIAL = false) :
    raiseSvn s = State.fuseDone
      { s with cast := { s.cast with svn := max s.cast.svn (s.fld Reg.CST_IMAGE_INFO Fld.CST_IMAGE_INFO_SVN) } } :=
  if_neg (by simp [hphase, hlayer, htrial])

/-- A fuse command that runs over changed fuses. -/
theorem State.fuseDone_fuses (s : State) (c : CastSt) :
    (∃ q, (State.fuseDone { s with cast := c }).cast = { c with jq := q })
      ∧ (State.fuseDone { s with cast := c }).reg (Reg.CST_CNT Cnt.CST_FUSE_COMMANDS) = s.reg (Reg.CST_CNT Cnt.CST_FUSE_COMMANDS) + 1
      ∧ s.within (State.fuseDone { s with cast := c }) {a | a ∈ fuseShown} [.regs, .cast, .free] := by
  obtain ⟨t, ht, hcast, hblown⟩ : ∃ t : State, { s with cast := c } = t ∧ t.cast = c ∧ s.onlyParts t [.cast] :=
    ⟨_, rfl, rfl, s.setCast_only c⟩
  rw [ht]
  obtain ⟨⟨q, hq⟩, hcount, hframe⟩ := t.fuseDone_shows
  exact ⟨⟨q, by rw [hq, hcast]⟩, hcount.trans (congrArg (· + 1) (hblown.reg_eq (by decide) _)),
    ((hblown.within (by decide) _).parts (by simp)).trans hframe⟩

/-! ### Writing an entry -/

/-- The registers that the writing of records moves. -/
def recordRegs : List Nat := [Reg.CST_JNL_STATUS, Reg.CST_JNL_SEQ, Reg.CST_JNL_TOKENS, Reg.CST_CNT Cnt.CST_JNL_RECORDS,
  Reg.CST_CNT Cnt.CST_JNL_COPY_FWD]

/-- Records are written: the waiting entries stand. -/
structure State.writes (s t : State) : Prop where
  jq : t.cast.jq = s.cast.jq
  rest : s.within t {a | a ∈ recordRegs} [.regs, .cast]

theorem State.writes.refl (s : State) : s.writes s := ⟨rfl, .refl s _ _⟩

theorem State.writes.trans {s t u : State} (a : s.writes t) (b : t.writes u) : s.writes u := ⟨b.jq.trans a.jq, a.rest.trans b.rest⟩

theorem State.jnlRecord_writes (s : State) (r : JRec) : s.writes (s.jnlRecord r) := by
  obtain ⟨t, ht, hjq, hput⟩ : ∃ t : State, { s with cast := { s.cast with jnl := Tbl.set JRec.blank s.cast.jnl s.jnlHead r } } = t
      ∧ t.cast.jq = s.cast.jq ∧ s.onlyParts t [.cast] := ⟨_, rfl, rfl, s.setCast_only _⟩
  obtain ⟨x, y, heq⟩ : ∃ x y, s.jnlRecord r = State.cstBump (State.setTokens32 ((t.setFld Reg.CST_JNL_STATUS Fld.CST_JNL_STATUS_HEAD x).setFld
      Reg.CST_JNL_SEQ Fld.CST_JNL_SEQ_SEQ (r.seq + 1)) y) Cnt.CST_JNL_RECORDS := ⟨_, _, by rw [← ht]; rfl⟩
  have hframe : s.within (State.cstBump (State.setTokens32 ((t.setFld Reg.CST_JNL_STATUS Fld.CST_JNL_STATUS_HEAD x).setFld
      Reg.CST_JNL_SEQ Fld.CST_JNL_SEQ_SEQ (r.seq + 1)) y) Cnt.CST_JNL_RECORDS) {a | a ∈ recordRegs} [.regs, .cast] :=
    (((((hput.within (by decide) _).parts (by simp)).setFld _ _ _ (by simp [recordRegs])).setFld _ _ _ (by simp [recordRegs])).setFld
      _ _ _ (by simp [recordRegs])).bump _ (by simp [recordRegs])
  rw [heq]
  exact ⟨hjq, hframe⟩

theorem State.jnlEntry_writes (s : State) (w : JWhat) (p : List (List Byte)) : s.writes (s.jnlEntry w p) :=
  forEach_induct (fun t => s.writes t) _ _ s (.refl s) fun r t _ ht => ht.trans (t.jnlRecord_writes r)

theorem State.jnlCopy_writes (s : State) (e : JFound) : s.writes (s.jnlCopy e) := by
  unfold State.jnlCopy
  dsimp only
  generalize (List.range e.count).map (fun k => (s.jnlAt ((e.first + k) % s.cast.jnlLen)).payload) = l
  have hentry := s.jnlEntry_writes e.what l
  exact ⟨hentry.jq, hentry.rest.bump _ (by simp [recordRegs])⟩

/-- The copy-forwards and the entry are written, the entry is counted. -/
theorem State.jnlWrite_writes (s : State) (e : JEntry) : ∃ t, s.jnlWrite e = t.cstBump Cnt.CST_JNL_ENTRIES ∧ s.writes t := by
  refine ⟨_, rfl, State.writes.trans ?_ (State.jnlEntry_writes _ e.what e.payloads)⟩
  exact forEach_induct (fun t => s.writes t) (s.jnlPlan (e.payloads.length + 1)) _ s (.refl s) fun x t _ ht => ht.trans (t.jnlCopy_writes x)

section
variable {s : State} {e : JEntry} {r : List JEntry} (hjq : s.cast.jq = e :: r) (hhigh : s.power.sysResetLow = false)
include hjq hhigh

theorem journalEntryWrite_writes
    (hpaid : ((e.payloads.length + 1 + jnlSum (s.jnlPlan (e.payloads.length + 1)) : Nat) : Int) ≤ s.jnlTokens) :
    journalEntryWrite s = State.jnlWrite { s with cast := { s.cast with jq := r } } e := by
  unfold journalEntryWrite
  rw [hjq]
  exact (if_neg (by simp [hhigh])).trans (if_pos (Or.inl hpaid))

theorem journalEntryWrite_drops {k : EventKind} (hevent : e.what = .event k)
    (hpoor : s.jnlTokens < ((e.payloads.length + 1 + jnlSum (s.jnlPlan (e.payloads.length + 1)) : Nat) : Int)) :
    journalEntryWrite s = State.cstBump { s with cast := { s.cast with jq := r } } Cnt.CST_JNL_DROPPED := by
  unfold journalEntryWrite
  rw [hjq]
  dsimp only
  rw [if_neg (by simp [hhigh]), if_neg (by rw [hevent]; simp; omega), hevent]

end

/-! ### Tokens -/

theorem signed_emod {x : Int} (h : -2147483648 ≤ x) (h' : x < 2147483648) : signed 32 (x % 4294967296).toNat = x := by
  unfold signed
  norm_num
  split
  · omega
  · omega

theorem State.jnlTokens_setTokens32 (s : State) {x : Int} (h : -2147483648 ≤ x) (h' : x < 2147483648) :
    (s.setTokens32 x).jnlTokens = x := by
  have hfits : (x % 4294967296).toNat < 2 ^ Fld.CST_JNL_TOKENS_TOKENS.len := by
    simp only [Fld.CST_JNL_TOKENS_TOKENS]
    omega
  rw [State.jnlTokens, State.setTokens32, State.fld_setFld_fits _ _ (by decide) hfits, signed_emod h h']

theorem State.jnlTokens_low (s : State) : -2147483648 ≤ s.jnlTokens := by
  unfold State.jnlTokens signed
  norm_num
  split
  · omega
  · omega

theorem journalTokenRefill_adds {s : State} (hdue : s.cast.tokenAt + 3125000 ≤ s.clk.mono) (hroom : s.jnlTokens < 4096) :
    journalTokenRefill s
      = State.setTokens32 { s with cast := { s.cast with tokenAt := s.cast.tokenAt + 3125000 } } (s.jnlTokens + 1) :=
  (if_neg (by omega)).trans (if_pos hroom)

/-- Settles O50. -/
theorem fusesAndJournal : Obligations.FusesAndJournal := by
  refine ⟨fun s hnone hblank => ?_, fun s b cut hvalid => ?_, fun s hphase hlayer htrial => ?_, fun s e r hjq hhigh hpaid => ?_,
    fun s e r k hjq hhigh hevent hpoor => ?_, fun s hdue hroom => ?_⟩
  · obtain ⟨⟨q, hq⟩, hcount, hframe⟩ := s.fuseDone_fuses { s.cast with bank0 := ⟨s.fuseData, true⟩ }
    exact ⟨_, done_eq_next_of_eq (programKey_blows hnone hblank) hframe.2 (by decide), by rw [hq], by rw [hq]; rfl, hcount,
      hframe.listed rfl, hframe.2⟩
  · have hframe : s.within s.fuseErr {a | a ∈ [Reg.CST_FUSE_CMD]} [.regs] := (State.within.refl s _ _).setFld _ _ _ (by simp)
    exact ⟨_, done_eq_next_of_eq (programKey_refuses hvalid cut) hframe.2 (by decide), State.flag_setFld_one _ _ ⟨rfl, by decide⟩,
      hframe.listed rfl, hframe.2⟩
  · obtain ⟨⟨q, hq⟩, hcount, hframe⟩ :=
      s.fuseDone_fuses { s.cast with svn := max s.cast.svn (s.fld Reg.CST_IMAGE_INFO Fld.CST_IMAGE_INFO_SVN) }
    exact ⟨_, done_eq_next_of_eq (raiseSvn_raises hphase hlayer htrial) hframe.2 (by decide), by rw [hq], hcount, hframe.listed rfl,
      hframe.2⟩
  · obtain ⟨c, hc, hrest, htaken⟩ : ∃ c : State, { s with cast := { s.cast with jq := r } } = c ∧ c.cast.jq = r ∧ s.onlyParts c [.cast] :=
      ⟨_, rfl, rfl, s.setCast_only _⟩
    obtain ⟨t, heq, hwrites⟩ := c.jnlWrite_writes e
    have hcount : t.reg (Reg.CST_CNT Cnt.CST_JNL_ENTRIES) = s.reg (Reg.CST_CNT Cnt.CST_JNL_ENTRIES) :=
      (hwrites.rest.reg_kept _).trans (htaken.reg_eq (by decide) _)
    have hframe : s.within (t.cstBump Cnt.CST_JNL_ENTRIES) {a | a ∈ [Reg.CST_JNL_STATUS, Reg.CST_JNL_SEQ, Reg.CST_JNL_TOKENS,
        Reg.CST_CNT Cnt.CST_JNL_ENTRIES, Reg.CST_CNT Cnt.CST_JNL_RECORDS, Reg.CST_CNT Cnt.CST_JNL_COPY_FWD]} [.regs, .cast] :=
      (((htaken.within (by decide) _).parts (by simp)).step hwrites.rest (fun a ha => by
        simp only [recordRegs, Set.mem_ofPred_eq, List.mem_cons] at ha ⊢; tauto)).bump _ (by simp)
    exact ⟨_, done_eq_next_of_eq ((journalEntryWrite_writes hjq hhigh hpaid).trans (by rw [hc, heq])) hframe.2 (by decide),
      hwrites.jq.trans hrest, (State.reg_bump_self _ _).trans (congrArg (· + 1) hcount), hframe.listed rfl, hframe.2⟩
  · obtain ⟨c, hc, hcast, htaken⟩ : ∃ c : State, { s with cast := { s.cast with jq := r } } = c ∧ c.cast = { s.cast with jq := r }
        ∧ s.onlyParts c [.cast] := ⟨_, rfl, rfl, s.setCast_only _⟩
    have hframe : s.within (c.cstBump Cnt.CST_JNL_DROPPED) {a | a ∈ [Reg.CST_CNT Cnt.CST_JNL_DROPPED]} [.regs, .cast] :=
      ((htaken.within (by decide) _).parts (by simp)).bump _ (by simp)
    exact ⟨_, done_eq_next_of_eq ((journalEntryWrite_drops hjq hhigh hevent hpoor).trans (by rw [hc])) hframe.2 (by decide), hcast,
      (State.reg_bump_self _ _).trans (congrArg (· + 1) (htaken.reg_eq (by decide) _)), hframe.listed rfl, hframe.2⟩
  · obtain ⟨c, hc, hcast, htaken⟩ : ∃ c : State, { s with cast := { s.cast with tokenAt := s.cast.tokenAt + 3125000 } } = c
        ∧ c.cast = { s.cast with tokenAt := s.cast.tokenAt + 3125000 } ∧ s.onlyParts c [.cast] := ⟨_, rfl, rfl, s.setCast_only _⟩
    have hlow := s.jnlTokens_low
    have hframe : s.within (c.setTokens32 (s.jnlTokens + 1)) {a | a ∈ [Reg.CST_JNL_TOKENS]} [.regs, .cast] :=
      ((htaken.within (by decide) _).parts (by simp)).setFld _ _ _ (by simp)
    exact ⟨_, done_eq_next_of_eq ((journalTokenRefill_adds hdue hroom).trans (by rw [hc])) hframe.2 (by decide),
      c.jnlTokens_setTokens32 (by omega) (by omega), hcast, hframe.listed rfl, hframe.2⟩

end Sys2Proof.Machine
end

section
/-! PROOF. What the return of a unit empties (R25, R396): its boundary links move no unit's STATE and count no repair. -/

namespace Sys2Proof.Machine

set_option Elab.async false

/-- The registers that move where work is discarded: SHADOWED and the collector's counters below REPAIRS, the pools and device memory,
and those of slices, arrays, shards, TMs and the buffer. -/
def emptyRegs : Set Nat := {a | 0x20400 ≤ a ∧ a < 0x21048 ∨ 0x90000 ≤ a ∧ a < 0x1000000 ∨ 0x2000000 ≤ a}

theorem mem_emptyRegs {a : Nat} : a ∈ emptyRegs ↔ 0x20400 ≤ a ∧ a < 0x21048 ∨ 0x90000 ≤ a ∧ a < 0x1000000 ∨ 0x2000000 ≤ a := Iff.rfl

/-- From `s` to `t` work has been discarded: no other register and no power domain has moved. -/
structure State.empties (s t : State) : Prop where
  regs : ∀ a, a ∉ emptyRegs → t.reg a = s.reg a
  power : t.power = s.power

theorem State.empties.refl (s : State) : s.empties s := ⟨fun _ _ => rfl, rfl⟩

theorem State.empties.trans {s t u : State} (a : s.empties t) (b : t.empties u) : s.empties u :=
  ⟨fun x hx => (b.regs x hx).trans (a.regs x hx), b.power.trans a.power⟩

theorem State.empties_of_regs {s t : State} (h : t.regs = s.regs) (hpower : t.power = s.power) : s.empties t :=
  ⟨fun a _ => State.reg_congr h a, hpower⟩

theorem State.within.empties {s t : State} {R : Set Nat} {l : List Part} (a : s.within t R l) (h : R ⊆ emptyRegs)
    (hl : Part.power ∉ l := by decide) : s.empties t :=
  ⟨fun x hx => a.1 x fun hin => hx (h hin), a.2.2 .power hl⟩

theorem State.setReg_empties (s : State) {a : Nat} (h : a ∈ emptyRegs) (v : Word64) : s.empties (s.setReg a v) :=
  (s.setReg_within h v).empties subset_rfl

theorem State.setFld_empties (s : State) {a : Nat} (h : a ∈ emptyRegs) (f : Fld) (x : Nat) : s.empties (s.setFld a f x) :=
  s.setReg_empties h _

theorem State.bump_empties (s : State) {a : Nat} (h : a ∈ emptyRegs) : s.empties (s.bump a) := s.setReg_empties h _

theorem State.gaveBack.empties {s t : State} (h : s.gaveBack t) : s.empties t :=
  State.within.empties (R := {a | a ∈ releaseRegs}) ⟨h.2, h.1⟩ fun a ha => by
    rw [mem_emptyRegs]
    exact (show ∀ a ∈ releaseRegs, 0x20400 ≤ a ∧ a < 0x21048 ∨ 0x90000 ≤ a ∧ a < 0x1000000 ∨ 0x2000000 ≤ a by decide) a ha

theorem State.queueStep.empties {s t : State} (h : s.queueStep t) : s.empties t :=
  h.frame.empties fun _ ⟨c, hc, i, hi, ha⟩ => by
    rw [mem_emptyRegs, ha]
    simp only [Reg.DMC_CNT]
    omega

theorem forEach_empties {α : Type} {f : α → State → State} (h : ∀ (x : α) (t : State), t.empties (f x t)) (xs : List α)
    (s : State) : s.empties (forEach xs f s) :=
  forEach_induct (fun t => s.empties t) xs f s (.refl s) fun x t _ ht => ht.trans (h x t)

theorem forUpTo_empties {f : Nat → State → State} (h : ∀ (i : Nat) (t : State), t.empties (f i t)) (n : Nat)
    (s : State) : s.empties (forUpTo n f s) :=
  forUpTo_induct (fun t => s.empties t) n f s (.refl s) fun i t _ ht => ht.trans (h i t)

/-- The count of repairs (R397). -/
def repairsReg : Nat := Reg.FLT_CNT Cnt.FLT_REPAIRS

/-- No repair is counted on the way from `s` to `t`. -/
def State.keepsRepairs (s t : State) : Prop := t.reg repairsReg = s.reg repairsReg

theorem State.keepsRepairs.refl (s : State) : s.keepsRepairs s := rfl

theorem State.keepsRepairs.trans {s t u : State} (a : s.keepsRepairs t) (b : t.keepsRepairs u) : s.keepsRepairs u := Eq.trans b a

theorem State.within.keepsRepairs {s t : State} {R : Set Nat} {l : List Part} (a : s.within t R l) (h : repairsReg ∉ R) :
    s.keepsRepairs t := a.1 _ h

theorem State.setReg_keepsRepairs (s : State) {a : Nat} (h : repairsReg ≠ a) (v : Word64) : s.keepsRepairs (s.setReg a v) :=
  s.reg_setReg_other _ h

theorem State.setFld_keepsRepairs (s : State) {a : Nat} (h : repairsReg ≠ a) (f : Fld) (x : Nat) : s.keepsRepairs (s.setFld a f x) :=
  s.setReg_keepsRepairs h _

theorem State.bump_keepsRepairs (s : State) {a : Nat} (h : repairsReg ≠ a) : s.keepsRepairs (s.bump a) := s.setReg_keepsRepairs h _

theorem repairsReg_eq : repairsReg = 0x21048 := rfl

theorem State.empties.keepsRepairs {s t : State} (h : s.empties t) : s.keepsRepairs t :=
  h.regs _ (by rw [mem_emptyRegs, repairsReg_eq]; decide)

section
variable (s : State)

/-! ### Device memory and pools -/

theorem State.bgCount_empties {c : Nat} (hc : c < 12) (fg : Bool) : s.empties (s.bgCount c fg) := by
  unfold State.bgCount
  split
  · exact .refl s
  · exact s.bump_empties (by simp only [mem_emptyRegs, Reg.DMC_CNT, Cnt.DMC_BG_ACCESSES]; omega)

theorem State.dmcBump_empties {c i : Nat} (hc : c < 12) (hi : i < 32) : s.empties (s.dmcBump c i) :=
  s.bump_empties (by simp only [mem_emptyRegs, Reg.DMC_CNT]; omega)

theorem State.lostAccess_empties {c i : Nat} (hc : c < 12) (hi : i < 32) (f : Fld) (x : Nat) :
    s.empties ((s.dmcBump c i).setFld (Reg.DMC_STATUS c) f x) :=
  (s.dmcBump_empties hc hi).trans (State.setFld_empties _ (by simp only [mem_emptyRegs, Reg.DMC_STATUS]; omega) _ _)

theorem State.dramRead_empties (l : Nat) (fg : Bool) : s.empties (s.dramRead l fg .ok).2 := by
  unfold State.dramRead
  split
  · exact .refl s
  · next a hat =>
    have ha := State.locate_ch hat
    refine (s.bgCount_empties ha fg).trans ?_
    generalize s.bgCount a.ch fg = t
    dsimp only
    split
    · exact t.lostAccess_empties ha (by decide) _ _
    · split
      · exact t.dmcBump_empties ha (by decide)
      · exact (((t.finishDrain_queueStep ha a.sub).trans (State.dmcBump_queueStep _ ha (by decide))).trans
          (State.rowTouchIn_queueStep _ ha _)).empties

theorem State.dramWrite_empties (l : Nat) (b : List Byte) (fg : Bool) : s.empties (s.dramWrite l b fg).2 := by
  unfold State.dramWrite
  split
  · exact .refl s
  · next a hat =>
    have ha := State.locate_ch hat
    refine (s.bgCount_empties ha fg).trans ?_
    generalize s.bgCount a.ch fg = t
    dsimp only
    split
    · exact t.lostAccess_empties ha (by decide) _ _
    · exact State.empties.trans (t := State.setPoison { t with dram := { t.dram with
          bytes := memWrite t.dram.bytes (64 * l) (bytesAt b 0 64) } } l false) (State.empties_of_regs rfl rfl) (State.queueWrite_queueStep _ ha _ _).empties

theorem State.metaRead_empties (x : Nat) : s.empties (s.metaRead x).2 := by
  unfold State.metaRead
  split
  · exact .refl s
  · dsimp only
    split <;> exact s.dramRead_empties _ _

theorem State.metaWrite_empties (x v : Nat) : s.empties (s.metaWrite x v) := by
  unfold State.metaWrite
  split
  · exact State.empties_of_regs rfl rfl
  · refine State.empties.trans ?_ (State.dramWrite_empties _ _ _ _)
    unfold State.countRmw
    split
    · exact .refl s
    · next a hat => exact s.dmcBump_empties (State.locate_ch hat) (by decide)

theorem State.poolCheck_empties (r x : Nat) (give : Bool) : s.empties (s.poolCheck r x give).2 := by
  have hread := s.metaRead_empties x
  unfold State.poolCheck
  split
  · exact .refl s
  · extract_lets m
    split
    · exact hread
    · split
      · exact hread
      · split <;> exact hread

/-- The unit of a requester's block lies below the counters' addresses. -/
theorem unitOf_reqSource {r u : Nat} (hr : r < 100) (h : unitOf (reqSource r) = some u) : u < 392 := by
  have hsrc : reqSource r < 1024 * 0x0E + 80 ∧ 1024 * 0x03 ≤ reqSource r ∧ (reqSource r < 1024 * 0x0E → reqSource r % 1024 < 16) := by
    unfold reqSource srcShard srcTm srcHif srcComplex srcId
    split
    · omega
    · split
      · omega
      · split
        · omega
        · omega
  generalize reqSource r = src at *
  unfold unitOf at h
  dsimp only at h
  split at h <;> simp only [Option.some.injEq, reduceCtorEq] at h <;> omega

theorem State.detect_empties {r : Nat} (hr : r < 100) (kind cls addr : Nat) :
    s.empties (s.detect (reqSource r) kind cls addr) := by
  have hsent := (s.sendFault_within (reqSource r) kind cls addr).empties fun a ha => by
    rw [mem_emptyRegs, List.mem_singleton.1 ha]
    decide
  unfold State.detect
  split
  · exact hsent
  · next u hu =>
    have hlow := unitOf_reqSource hr hu
    split
    · exact (s.setFld_empties (by simp only [mem_emptyRegs, Reg.FLT_UNIT]; omega) _ _).trans
        (State.bump_empties _ (by simp only [mem_emptyRegs, Reg.FLT_CNT, Cnt.FLT_SHADOWED]; omega))
    · exact hsent

theorem State.poolFail_empties {r : Nat} (hr : r < 100) (x cause owner : Nat) : s.empties (s.poolFail r x cause owner) := by
  have herr (t : State) (f : Fld) (n : Nat) : t.empties (t.setFld Reg.BPM_ERR f n) := t.setFld_empties (by rw [mem_emptyRegs]; decide) f n
  unfold State.poolFail
  extract_lets counted a noted
  have hcounted : s.empties counted := by
    refine (s.setFld_empties (by rw [mem_emptyRegs]; decide) _ _).trans (State.bump_empties _ ?_)
    rw [mem_emptyRegs]
    split
    · decide
    · split <;> decide
  clear_value counted
  have hnoted : counted.empties noted := by
    unfold noted
    split
    · exact .refl counted
    · exact (((((herr _ _ _).trans (herr _ _ _)).trans (herr _ _ _)).trans (herr _ _ _)).trans (herr _ _ _)).trans (herr _ _ _)
  exact (hcounted.trans hnoted).trans (noted.detect_empties hr _ _ _)

theorem State.poolRelease_empties {r : Nat} (hr : r < 100) (x : Nat) : s.empties (s.poolRelease r x) := by
  have hcheck := s.poolCheck_empties r x false
  have hpool := ptrPool_lt x
  unfold State.poolRelease
  dsimp only
  split
  · exact .refl s
  · split
    · exact State.empties_of_regs rfl rfl
    · split
      · exact hcheck.trans ((State.setReg_empties _ (by simp only [mem_emptyRegs, Reg.BPM_CNT, Cnt.BPM_WITHDRAWN]; omega) _).trans
          (State.setReg_empties _ (by rw [mem_emptyRegs]; decide) _))
      · exact hcheck.trans (State.poolFail_empties _ hr _ _ _)
      · refine (hcheck.trans (State.metaWrite_empties _ x 0)).trans ?_
        generalize (s.poolCheck r x false).2.metaWrite x 0 = t
        have hcount : Reg.BPM_CNT (Cnt.BPM_FREE + ptrPool x) ∈ emptyRegs := by
          simp only [mem_emptyRegs, Reg.BPM_CNT, Cnt.BPM_FREE]
          omega
        exact ((State.empties_of_regs (s := t) (t := t.setCache _ _ _) rfl rfl).trans (State.bump_empties _ hcount)).trans
          (State.empties_of_regs rfl rfl)

/-! ### What a link's consumer discards -/

theorem State.discardIngress_empties (u p : Nat) : s.empties (s.discardIngress u p) := by
  have hframe (f : IngFrame) (t : State) : t.empties (t.discardIng f) := by
    unfold State.discardIng
    split
    · exact .refl t
    · exact ((t.freeCells_gaveBack _).trans (State.forget_gaveBack _ _ _)).empties
  unfold State.discardIngress
  extract_lets x t
  have hemptied : s.empties t := State.empties_of_regs rfl rfl
  exact (hemptied.trans (forEach_empties hframe x.fifo t)).trans (State.empties_of_regs rfl rfl)

theorem State.releaseBody_empties {q : Nat} (hq : q < 84) (c : Copy) : s.empties (s.releaseBody q c) := by
  unfold State.releaseBody
  split
  · exact (s.release_gaveBack _ _).empties
  · exact (s.freeCell_gaveBack _).empties
  · exact s.poolRelease_empties (by omega) _

theorem State.discardClass_empties (u c : Nat) {p : Nat} (hp : p < 8192) : s.empties (s.discardClass u p c) := by
  unfold State.discardClass
  extract_lets x l t
  have hcounted : s.empties t := State.empties_of_regs rfl rfl
  exact hcounted.trans (forEach_empties (fun d t => t.releaseBody_empties (by unfold quadOf; omega) d) _ _)

theorem State.drainSub_empties (i gen : Nat) : s.empties (s.drainSub i gen) := by
  unfold State.drainSub
  split
  · exact .refl s
  · exact s.setFld_empties (by simp only [mem_emptyRegs, Reg.SLC_GEN_DRAIN]; omega) _ _

theorem State.ageDrain_empties (h gen : Nat) (up : Bool) : s.empties (s.ageDrain h gen up) := by
  unfold State.ageDrain
  split
  · exact .refl s
  · exact s.setFld_empties (by simp only [mem_emptyRegs, Reg.SCH_AGE_DRAIN]; omega) _ _

theorem State.fenceItem_empties (h : Nat) (it : Item) : s.empties (s.fenceItem h it) :=
  ((s.release_gaveBack _ _).empties.trans (State.drainSub_empties _ _ _)).trans
    (State.bump_empties _ (by simp only [mem_emptyRegs, Reg.SCH_CNT]; omega))

theorem State.hostEnd_empties (h code : Nat) : s.empties (s.hostEnd h code) := by
  have haddr : recCmd h ∈ emptyRegs := by simp only [mem_emptyRegs, recCmd, Reg.HNK_REC_CMD]; omega
  have hbusy : s.empties ((s.setShard h { s.shard h with host := .none }).setFld (recCmd h) Fld.HNK_REC_CMD_BUSY 0) :=
    (State.empties_of_regs (s := s) (t := s.setShard h { s.shard h with host := .none }) rfl rfl).trans (State.setFld_empties _ haddr _ _)
  unfold State.hostEnd
  dsimp only
  split
  · exact hbusy
  · exact (hbusy.trans (State.setFld_empties _ haddr _ _)).trans (State.setFld_empties _ haddr _ _)

theorem State.discardShard_empties {h : Nat} (hh : h < 16) : s.empties (s.discardShard h) := by
  unfold State.discardShard
  extract_lets x aging packets fenced aged freed unlocked held unheld ended k tmb unasked y
  have hfenced : s.empties fenced := forEach_empties (fun it t => t.fenceItem_empties h it) _ s
  have haged : fenced.empties aged := forEach_empties (fun (it : Item) t => t.ageDrain_empties h it.gen false) _ _
  have hfreed : aged.empties freed := forEach_empties (fun (p : Parked) t => t.poolRelease_empties (by omega) p.index) _ _
  have hunlocked : freed.empties unlocked :=
    forEach_empties (fun _ t => t.bump_empties (by simp only [mem_emptyRegs, Reg.WRD_CNT]; omega)) _ _
  have hunheld : unlocked.empties unheld := forEach_empties (fun i t => State.empties_of_regs (s := t) (t := t.unholdWay h i) rfl rfl) _ _
  have hended : unheld.empties ended := by
    unfold ended
    split
    · exact unheld.hostEnd_empties h 7
    · exact .refl unheld
  clear_value ended
  exact (((((hfenced.trans haged).trans hfreed).trans hunlocked).trans hunheld).trans hended).trans (State.empties_of_regs rfl rfl)

theorem State.emptyInput_empties (h j : Nat) : s.empties (s.emptyInput h j) := by
  unfold State.emptyInput
  exact State.empties.trans (t := s.setShard h { s.shard h with inputs := Tbl.set [] (s.shard h).inputs j [] }) (State.empties_of_regs rfl rfl)
    (forEach_empties (fun it t => t.fenceItem_empties h it) _ _)

theorem State.emptyRelease_empties (q j : Nat) : s.empties (s.emptyRelease q j) := by
  unfold State.emptyRelease
  extract_lets n
  refine State.empties.trans (t := { s with tm := { s.tm with relIn := Tbl.set [] s.tm.relIn n [] } })
    (State.empties_of_regs rfl rfl) (forEach_empties (fun (d : Desc) t => ?_) _ _)
  extract_lets u
  have hreleased : t.empties u := (t.bump_empties (by simp only [mem_emptyRegs, Reg.TMG_CNT]; omega)).trans
    (State.release_gaveBack _ _ _).empties
  split
  · exact hreleased.trans (u.drainSub_empties _ _)
  · exact hreleased

theorem State.emptyInput_keepsUnits (h j : Nat) : s.keepsUnits (s.emptyInput h j) := by
  unfold State.emptyInput
  exact State.keepsUnits.trans (t := s.setShard h { s.shard h with inputs := Tbl.set [] (s.shard h).inputs j [] })
    (State.keepsUnits_of_regs rfl) (forEach_keepsUnits (fun it t => t.fenceItem_keepsUnits h it) _ _)

theorem State.emptyRelease_keepsUnits (q j : Nat) : s.keepsUnits (s.emptyRelease q j) := by
  unfold State.emptyRelease
  extract_lets n
  exact State.keepsUnits.trans (t := { s with tm := { s.tm with relIn := Tbl.set [] s.tm.relIn n [] } }) (State.keepsUnits_of_regs rfl)
    (forEach_keepsUnits (fun (d : Desc) t => tmDiscard_desc_keepsUnits q d t) _ _)

/-- A link of the codes 3 to 6 lies inside one of the sixteen shards (R20). -/
def shardLinkBound (k : Nat) : Prop := 3 * 65536 ≤ k → k < 7 * 65536 → k % 65536 < 16

/-- A link that is emptied. -/
theorem State.emptyLink_keeps {k : Nat} (hk : shardLinkBound k) : s.keepsUnits (s.emptyLink k) ∧ s.empties (s.emptyLink k) := by
  have hshard : 3 ≤ keyCode k → keyCode k ≤ 6 → keySub k < 16 := fun hlo hhi => hk (by unfold keyCode at hlo; omega)
    (by unfold keyCode at hhi; omega)
  unfold State.emptyLink
  dsimp only
  split
  · exact ⟨s.discardIngress_keepsUnits _ _, s.discardIngress_empties _ _⟩
  · exact ⟨s.emptyInput_keepsUnits _ _, s.emptyInput_empties _ _⟩
  · next hcode => exact ⟨s.discardShard_keepsUnits _, s.discardShard_empties (hshard (by omega) (by omega))⟩
  · next hcode => exact ⟨s.discardShard_keepsUnits _, s.discardShard_empties (hshard (by omega) (by omega))⟩
  · next hcode => exact ⟨s.discardShard_keepsUnits _, s.discardShard_empties (hshard (by omega) (by omega))⟩
  · next hcode => exact ⟨s.discardShard_keepsUnits _, s.discardShard_empties (hshard (by omega) (by omega))⟩
  · exact ⟨s.emptyRelease_keepsUnits _ _, s.emptyRelease_empties _ _⟩
  · exact ⟨s.discardClass_keepsUnits _ _ _, s.discardClass_empties _ _ (by unfold keySub; omega)⟩
  · exact ⟨.refl s, .refl s⟩

/-! ### The links of a unit that returns -/

/-- A link stopped, its consumer emptied and its producer credited anew. -/
theorem State.resyncLink_keeps {k : Nat} (hk : shardLinkBound k) : s.keepsUnits (creditResyncAck k (creditResync k (s.stopLink k)))
    ∧ s.empties (creditResyncAck k (creditResync k (s.stopLink k))) := by
  have hack (t : State) : (creditResyncAck k t).regs = t.regs ∧ (creditResyncAck k t).power = t.power := by
    unfold creditResyncAck
    dsimp only
    split
    · exact ⟨rfl, rfl⟩
    · exact ⟨rfl, rfl⟩
  have hempty (t : State) : t.keepsUnits (creditResync k t) ∧ t.empties (creditResync k t) := by
    obtain ⟨hunits, hempties⟩ := t.emptyLink_keeps hk
    unfold creditResync
    dsimp only
    split
    · exact ⟨.refl t, .refl t⟩
    · generalize t.emptyLink k = e at *
      exact ⟨hunits.trans (State.keepsUnits_of_regs rfl), hempties.trans (State.empties_of_regs (s := e) rfl rfl)⟩
  obtain ⟨hunits, hempties⟩ := hempty (s.stopLink k)
  have hacked := hack (creditResync k (s.stopLink k))
  exact ⟨(State.keepsUnits.trans (State.keepsUnits_of_regs rfl) hunits).trans (State.keepsUnits_of_regs hacked.1),
    ((State.empties_of_regs (s := s) (t := s.stopLink k) rfl rfl).trans hempties).trans (State.empties_of_regs hacked.1 hacked.2)⟩

/-- The links at a unit's boundary are within the chip's sixteen shards. -/
theorem unitLinks_shardBound {u : Nat} (hu : u < 315) {k : Nat} (h : k ∈ unitLinks u) : shardLinkBound k := by
  intro hlo hhi
  unfold unitLinks lnkIngress lnkDispatch lnkRelease lnkEgress lnkReady lnkRecord lnkMiss lnkFill lnkPool at h
  split at h
  · simp only [List.mem_cons, List.not_mem_nil, or_false] at h
    omega
  · split at h
    · simp only [List.mem_append, List.mem_map, List.mem_range, List.mem_flatMap] at h
      obtain ((⟨p, hp, rfl⟩ | ⟨g, hg, rfl⟩) | ⟨q, hq, rfl⟩) | ⟨p, hp, c, hc, rfl⟩ := h <;> omega
    · split at h
      · simp only [List.mem_append, List.mem_map, List.mem_range, List.mem_cons, List.not_mem_nil, or_false] at h
        obtain (⟨i, hi, rfl⟩ | hinside) | ⟨q, hq, rfl⟩ := h <;> omega
      · split at h
        · simp at h
        · split at h
          · simp only [List.mem_append, List.mem_map, List.mem_range, List.mem_flatMap] at h
            obtain ⟨i, hi, rfl⟩ | ⟨p, hp, c, hc, rfl⟩ := h <;> omega
          · split at h
            · simp only [List.mem_map, List.mem_range] at h
              obtain ⟨p, hp, rfl⟩ := h
              omega
            · simp at h

theorem State.resyncUnit_keeps {u : Nat} (hu : u < 315) : s.keepsUnits (s.resyncUnit u) ∧ s.empties (s.resyncUnit u) :=
  forEach_induct (fun t => s.keepsUnits t ∧ s.empties t) (unitLinks u) _ s ⟨.refl s, .refl s⟩ fun _ t hk ht =>
    have hstep := t.resyncLink_keeps (unitLinks_shardBound hu hk)
    ⟨ht.1.trans hstep.1, ht.2.trans hstep.2⟩

end

end Sys2Proof.Machine
end

section
/-! PROOF. Escalation (R395 to R398): the commands on a fenced unit, its return, and the end of its timers. -/

namespace Sys2Proof.Machine

set_option Elab.async false

/-! ### What every command meets first -/

/-- The unit that a command names is shown. -/
def State.escAsked (s : State) (u : Nat) : State := s.setFld Reg.FLT_ESC_CMD Fld.FLT_ESC_CMD_UNIT u

theorem State.escAsked_within (s : State) (u : Nat) : s.within (s.escAsked u) {Reg.FLT_ESC_CMD} [.regs] :=
  s.setFld_within (Set.mem_singleton _) _ _

theorem fltUnit_ne_escCmd (u : Nat) : Reg.FLT_UNIT u ≠ Reg.FLT_ESC_CMD := by simp only [Reg.FLT_UNIT, Reg.FLT_ESC_CMD]; omega

theorem State.escAsked_unitState (s : State) (u v : Nat) : (s.escAsked u).unitState v = s.unitState v :=
  State.unitState_of_reg (State.reg_setFld_other _ _ _ (fltUnit_ne_escCmd v))

theorem State.escCmd_accepts {s : State} {u : Nat} {states : List Nat} (f : State → State)
    (hidle : s.flag Reg.FLT_ESC_CMD Fld.FLT_ESC_CMD_BUSY = false) (hu : u < 315) (hstate : s.unitState u ∈ states) :
    s.escCmd u states f = f (s.escAsked u) := by
  have hin : states.contains ((s.escAsked u).unitState u) = true := by
    rw [State.escAsked_unitState]
    simpa using hstate
  unfold State.escCmd
  rw [if_neg (by simp [hidle])]
  dsimp only
  rw [if_neg (by omega)]
  exact if_neg (by rw [Bool.not_eq_true', Bool.not_eq_false]; exact hin)

/-- Essential is a matter of the units alone. -/
theorem State.escAsked_essential (s : State) (u v : Nat) : (s.escAsked u).essential v = s.essential v := by
  simp only [State.essential, State.down, State.escAsked_unitState]

/-! ### RESET -/

/-- A unit whose repair starts, an array among them. -/
theorem State.startRepair_starts (s : State) (u : Nat) :
    (s.startRepair u).unitState u = 2
      ∧ Tbl.get 0 (s.startRepair u).fault.timers u = s.clk.mono + msTicks (s.fld Reg.FLT_CFG Fld.FLT_CFG_REPAIR_TIMEOUT_MS)
      ∧ s.within (s.startRepair u) {b | b ∈ [Reg.FLT_UNIT u]} [.regs, .fault, .tmb] := by
  unfold State.startRepair
  extract_lets due reset home
  have hstate : reset.unitState u = 2 := State.fld_setFld_self _ _ _ _ (by decide)
  have hreset : s.within reset {b | b ∈ [Reg.FLT_UNIT u]} [.regs, .fault, .tmb] := (State.within.refl s _ _).setFld _ _ _
  clear_value reset
  have hhome : reset.onlyParts home [.tmb] := by
    unfold home
    split
    · exact reset.setTmb_only _
    · exact reset.onlyParts_refl _
  clear_value home
  refine ⟨?_, by simp [due], (hreset.rest hhome).rest (home.setFault_only _)⟩
  exact (State.unitState_of_reg (hhome.reg_eq (by decide) _)).trans hstate

/-- RESET accepted: the repair starts and the command stays BUSY. -/
def State.resetting (s : State) (u : Nat) : State :=
  ((s.startRepair u).setFld Reg.FLT_ESC_CMD Fld.FLT_ESC_CMD_BUSY 1).showUnits

theorem State.resetting_shows (s : State) {u : Nat} (hu : u < 315) :
    (s.resetting u).unitState u = 2 ∧ (s.resetting u).flag Reg.FLT_ESC_CMD Fld.FLT_ESC_CMD_BUSY = true
      ∧ Tbl.get 0 (s.resetting u).fault.timers u = s.clk.mono + msTicks (s.fld Reg.FLT_CFG Fld.FLT_CFG_REPAIR_TIMEOUT_MS)
      ∧ s.onlyParts (s.resetting u) [.regs, .fault, .tmb] := by
  obtain ⟨hstate, htimer, hframe⟩ := s.startRepair_starts u
  have hflag := (s.startRepair u).flag_setFld_one Reg.FLT_ESC_CMD (f := Fld.FLT_ESC_CMD_BUSY) ⟨rfl, by decide⟩
  have hbusy := State.setFld_within (R := {Reg.FLT_ESC_CMD}) (s.startRepair u) (Set.mem_singleton _) Fld.FLT_ESC_CMD_BUSY 1
  have heq : s.resetting u = ((s.startRepair u).setFld Reg.FLT_ESC_CMD Fld.FLT_ESC_CMD_BUSY 1).showUnits := rfl
  rw [heq]
  generalize (s.startRepair u).setFld Reg.FLT_ESC_CMD Fld.FLT_ESC_CMD_BUSY 1 = b at *
  have hshown := b.showUnits_within
  refine ⟨?_, (hshown.flag_eq (by simp [showRegs, Reg.FLT_ESC_CMD, Reg.FLT_STATUS, Reg.HIF_CNT]; omega) _).trans hflag, ?_, ?_⟩
  · exact (State.unitState_of_reg ((hshown.1 _ (fltUnit_not_show hu)).trans (hbusy.1 _ (fltUnit_ne_escCmd u)))).trans hstate
  · rw [hshown.2.2 .fault (by decide), hbusy.2.2 .fault (by decide)]
    exact htimer
  · exact (hframe.2.step hbusy.2).step hshown.2

theorem escReset_resets {s : State} {u : Nat} (hidle : s.flag Reg.FLT_ESC_CMD Fld.FLT_ESC_CMD_BUSY = false) (hu : u < 315)
    (hstate : s.unitState u = 1) (hrepairable : unitRepairable u = true) :
    ∃ b : State, escReset u s = b.resetting u ∧ s.within b {Reg.FLT_ESC_CMD} [.regs, .fault] := by
  have hasked := (s.escAsked_within u).parts (l' := [.regs, .fault]) (by simp)
  have heq : escReset u s = State.resetting (if 288 ≤ u ∧ u < 292 then { s.escAsked u with fault := { (s.escAsked u).fault with
      rebuilt := Tbl.set false (s.escAsked u).fault.rebuilt u false } } else s.escAsked u) u := by
    unfold escReset
    rw [State.escCmd_accepts _ hidle hu (by simp [hstate])]
    exact if_neg (by simp [hrepairable])
  refine ⟨_, heq, ?_⟩
  split
  · exact hasked.rest (State.setFault_only _ _)
  · exact hasked

theorem unitResetDone_shows {s : State} {u : Nat} (hstate : s.unitState u = 2) :
    (unitResetDone u true s).unitState u = 3 ∧ s.onlyParts (unitResetDone u true s) [.regs, .ccx] := by
  unfold unitResetDone
  rw [if_neg (by simp [hstate])]
  extract_lets cleared _ loaded
  have hcleared : s.onlyParts cleared [.regs, .ccx] := by
    unfold cleared
    split
    · exact State.onlyParts_mono (s.setFld_rest _ _ _) (by simp)
    · exact s.onlyParts_refl _
  clear_value cleared
  have hloaded : cleared.onlyParts loaded [.ccx] := by
    unfold loaded
    split
    · exact cleared.loadFirmware_only _
    · exact cleared.onlyParts_refl _
  clear_value loaded
  rw [if_neg (by simp)]
  exact ⟨State.fld_setFld_fits _ _ (by decide) (by decide), (hcleared.step hloaded).setFld _ _ _⟩

/-! ### RETURN -/

theorem State.setFld_keeps (s : State) {a : Nat} (h : 0x21050 ≤ a) (f : Fld) (x : Nat) :
    s.keepsUnits (s.setFld a f x) ∧ s.keepsRepairs (s.setFld a f x) :=
  ⟨s.setFld_keepsUnits (by omega) f x, s.setFld_keepsRepairs (by simp only [repairsReg_eq]; omega) f x⟩

theorem State.startPass_keeps (s : State) : s.keepsUnits s.startPass ∧ s.keepsRepairs s.startPass := by
  have hshown : s.keepsUnits (((s.setSync 1).bump (Reg.TWN_CNT Cnt.TWN_SYNC_PASSES)).setReg Reg.TWN_SYNC 0)
      ∧ s.keepsRepairs (((s.setSync 1).bump (Reg.TWN_CNT Cnt.TWN_SYNC_PASSES)).setReg Reg.TWN_SYNC 0) :=
    ⟨((s.setFld_keepsUnits (by decide) _ _).trans (State.bump_keepsUnits _ (by decide))).trans (State.setReg_keepsUnits _ (by decide) _),
      ((s.setFld_keepsRepairs (by decide) _ _).trans (State.bump_keepsRepairs _ (by decide))).trans
        (State.setReg_keepsRepairs _ (by decide) _)⟩
  unfold State.startPass
  split
  · exact ⟨.refl s, .refl s⟩
  · dsimp only
    generalize ((s.setSync 1).bump (Reg.TWN_CNT Cnt.TWN_SYNC_PASSES)).setReg Reg.TWN_SYNC 0 = t at *
    exact ⟨hshown.1.trans (State.keepsUnits_of_regs rfl), hshown.2.trans rfl⟩

theorem State.twinReturn_keeps (s : State) : s.keepsUnits s.twinReturn ∧ s.keepsRepairs s.twinReturn := by
  unfold State.twinReturn
  extract_lets own raised
  have hraised : s.keepsUnits raised ∧ s.keepsRepairs raised := by
    unfold raised
    split
    · exact s.setFld_keeps (by decide) _ _
    · exact ⟨.refl s, .refl s⟩
  clear_value raised
  exact ⟨hraised.1.trans raised.startPass_keeps.1, hraised.2.trans raised.startPass_keeps.2⟩

/-- A unit that returns is in service; no repair is counted yet. -/
theorem State.returnUnit_returns (s : State) {u : Nat} (hu : u < 315) :
    (s.returnUnit u).unitState u = 0 ∧ s.keepsRepairs (s.returnUnit u) := by
  obtain ⟨hup, hframe⟩ := s.unitUp_shows (u := u)
  have hrepairs : s.keepsRepairs (s.unitUp u) := hframe.keepsRepairs (by
    simp only [repairsReg_eq, Reg.FLT_UNIT, List.mem_singleton, Set.mem_ofPred_eq]
    omega)
  unfold State.returnUnit
  extract_lets up own
  have hown : up.keepsUnits own ∧ up.keepsRepairs own := by
    unfold own
    split
    · exact up.setFld_keeps (by decide) _ _
    · split
      · exact up.twinReturn_keeps
      · split
        · exact ⟨State.keepsUnits_of_regs rfl, rfl⟩
        · exact ⟨.refl up, .refl up⟩
  have hlinks := own.resyncUnit_keeps hu
  exact ⟨(hlinks.1 u hu).trans ((hown.1 u hu).trans hup), (hrepairs.trans hown.2).trans hlinks.2.keepsRepairs⟩

/-- The unit's return, counted and shown. -/
def State.returned (s : State) (u : Nat) : State := ((s.returnUnit u).fltBump Cnt.FLT_REPAIRS).showUnits

theorem State.returned_shows (s : State) {u : Nat} (hu : u < 315) :
    (s.returned u).unitState u = 0 ∧ (s.returned u).reg (Reg.FLT_CNT Cnt.FLT_REPAIRS) = s.reg (Reg.FLT_CNT Cnt.FLT_REPAIRS) + 1 := by
  obtain ⟨hup, hrepairs⟩ := s.returnUnit_returns hu
  have heq : s.returned u = ((s.returnUnit u).fltBump Cnt.FLT_REPAIRS).showUnits := rfl
  rw [heq]
  generalize s.returnUnit u = t at *
  have hcount : (t.fltBump Cnt.FLT_REPAIRS).reg (Reg.FLT_CNT Cnt.FLT_REPAIRS) = s.reg (Reg.FLT_CNT Cnt.FLT_REPAIRS) + 1 :=
    (State.reg_bump_self _ _).trans (congrArg (· + 1) hrepairs)
  have hstate : (t.fltBump Cnt.FLT_REPAIRS).unitState u = 0 := (State.unitState_of_reg (State.reg_bump_other _ (by
    have := fltUnit_range hu
    simp only [Reg.FLT_CNT, Cnt.FLT_REPAIRS]
    omega))).trans hup
  generalize t.fltBump Cnt.FLT_REPAIRS = c at *
  have hshown := c.showUnits_within
  exact ⟨(State.unitState_of_reg (hshown.1 _ (fltUnit_not_show hu))).trans hstate,
    (hshown.1 _ (by simp [showRegs, Reg.FLT_CNT, Reg.FLT_STATUS, Reg.HIF_CNT, Cnt.FLT_REPAIRS]; omega)).trans hcount⟩

theorem escReturn_returns {s : State} {u : Nat} (hidle : s.flag Reg.FLT_ESC_CMD Fld.FLT_ESC_CMD_BUSY = false)
    (hu : u < 312 ∨ u = 314) (hstate : s.unitState u = 3) (hready : s.unitReady u = true) :
    escReturn u true s = (s.escAsked u).returned u := by
  have hlow : u < 315 := by omega
  have hcomplex : ¬(u = 312 ∨ u = 313) := by omega
  have hasked : (s.escAsked u).unitReady u = true := by
    have hregs (x : Nat) : (s.escAsked u).reg (Reg.FAE_MC_DIGEST x) = s.reg (Reg.FAE_MC_DIGEST x) :=
      State.reg_setFld_other _ _ _ (by simp only [Reg.FAE_MC_DIGEST, Reg.FLT_ESC_CMD]; omega)
    have hdown (x : Nat) : (s.escAsked u).down x = s.down x := by simp only [State.down, State.escAsked_unitState]
    rw [← hready]
    unfold State.unitReady
    simp only [hregs, hdown]
    rfl
  unfold escReturn
  rw [State.escCmd_accepts _ hidle hlow (by simp [hstate])]
  dsimp only
  rw [if_neg (by rw [State.escAsked_unitState]; omega), if_neg (by simp [hasked]), if_neg (by simp), if_neg hcomplex]
  rfl

theorem autoRepair_returns {s : State} {h : Nat} (hauto : s.flag Reg.FLT_CFG Fld.FLT_CFG_AUTO_REPAIR = true)
    (hserving : s.serving = true) (hfenced : s.unitState (unitShard h) = 1)
    (hcause : Tbl.get false s.fault.mcUe (unitShard h) = true) (htimer : s.timerDone (unitShard h) = false) :
    autoRepair h s = s.returned (unitShard h) :=
  if_neg (by simp [hauto, hserving, hfenced, hcause, htimer])

/-! ### KEEP, ESCALATE and the timers' ends -/

/-- A unit kept: fenced until the next cast-on, its timer stopped. -/
theorem State.keepUnit_keeps (s : State) (u : Nat) :
    (s.keepUnit u).unitState u = 4 ∧ Tbl.get 0 (s.keepUnit u).fault.timers u = 0
      ∧ s.within (s.keepUnit u) {b | b ∈ [Reg.FLT_UNIT u, Reg.FLT_ESC_CMD]} [.regs, .fault] := by
  unfold State.keepUnit
  extract_lets kept
  obtain ⟨k, hk, hstate, hframe⟩ : ∃ k : State, s.setFld (Reg.FLT_UNIT u) Fld.FLT_UNIT_STATE 4 = k ∧ k.unitState u = 4
      ∧ s.within k {b | b ∈ [Reg.FLT_UNIT u, Reg.FLT_ESC_CMD]} [.regs, .fault] :=
    ⟨_, rfl, State.fld_setFld_fits _ _ (by decide) (by decide), (State.within.refl s _ _).setFld _ _ _⟩
  have hkept : kept = k.stopTimer u := congrArg (fun t : State => t.stopTimer u) hk
  have hstopped : k.onlyParts kept [.fault] := hkept ▸ k.setFault_only _
  have htimer : Tbl.get 0 kept.fault.timers u = 0 := by
    rw [hkept]
    simp [State.stopTimer]
  have hshown : kept.unitState u = 4 := (State.unitState_of_reg (hstopped.reg_eq (by decide) _)).trans hstate
  clear_value kept
  split
  · exact ⟨(State.unitState_of_reg (State.reg_setFld_other _ _ _ (fltUnit_ne_escCmd u))).trans hshown, htimer,
      (hframe.rest hstopped).setFld _ _ _⟩
  · exact ⟨hshown, htimer, hframe.rest hstopped⟩

/-- A count of the collector that a unit's end moves. -/
theorem fltCnt_fresh {i : Nat} (hi : i < 32) {u : Nat} (hu : u < 315) :
    Reg.FLT_CNT i ∉ [Reg.FLT_UNIT u, Reg.FLT_ESC_CMD] ∧ Reg.FLT_CNT i ∉ showRegs ∧ Reg.FLT_UNIT u ≠ Reg.FLT_CNT i := by
  have := fltUnit_range hu
  simp only [List.mem_cons, List.not_mem_nil, or_false, showRegs, Set.mem_insert_iff, Set.mem_singleton_iff, Reg.FLT_CNT,
    Reg.FLT_ESC_CMD, Reg.FLT_STATUS, Reg.HIF_CNT, Cnt.HIF_MSIX_SENT]
  omega

/-- A unit kept, with its count. -/
theorem State.keepUnit_counts (s : State) {u i : Nat} (hu : u < 315) (hi : i < 32) :
    ((s.keepUnit u).fltBump i).unitState u = 4 ∧ Tbl.get 0 ((s.keepUnit u).fltBump i).fault.timers u = 0
      ∧ ((s.keepUnit u).fltBump i).reg (Reg.FLT_CNT i) = s.reg (Reg.FLT_CNT i) + 1
      ∧ s.onlyParts ((s.keepUnit u).fltBump i) [.regs, .fault] := by
  obtain ⟨hstate, htimer, hframe⟩ := s.keepUnit_keeps u
  obtain ⟨hfresh, -, hother⟩ := fltCnt_fresh hi hu
  generalize s.keepUnit u = k at *
  exact ⟨(State.unitState_of_reg (State.reg_bump_other _ hother)).trans hstate, htimer,
    (State.reg_bump_self _ _).trans (congrArg (· + 1) (hframe.1 _ hfresh)), hframe.2.bump _⟩

theorem escKeep_keeps {s : State} {u : Nat} (hidle : s.flag Reg.FLT_ESC_CMD Fld.FLT_ESC_CMD_BUSY = false) (hu : u < 315)
    (hstate : s.unitState u ∈ [1, 2, 3]) (hspare : s.essential u = false) :
    escKeep u s = (((s.escAsked u).keepUnit u).fltBump Cnt.FLT_KEEPS).showUnits := by
  unfold escKeep
  rw [State.escCmd_accepts _ hidle hu hstate]
  exact if_neg (by rw [State.escAsked_essential, hspare]; simp)

section
variable (s : State) {u : Nat} (cause : Nat)

/-- A timer that runs out for an essential unit is fatal. -/
theorem State.expire_fatal (hessential : s.essential u = true) :
    (s.expire u cause).fault.fatalLine.isSome = true
      ∧ (s.expire u cause).reg (Reg.FLT_CNT Cnt.FLT_ESCALATED_FATAL) = s.reg (Reg.FLT_CNT Cnt.FLT_ESCALATED_FATAL) + 1
      ∧ s.onlyParts (s.expire u cause) [.regs, .fault, .cast, .free] := by
  obtain ⟨c, hc, hcount, hframe⟩ : ∃ c : State, (s.stopTimer u).fltBump Cnt.FLT_ESCALATED_FATAL = c
      ∧ c.reg (Reg.FLT_CNT Cnt.FLT_ESCALATED_FATAL) = s.reg (Reg.FLT_CNT Cnt.FLT_ESCALATED_FATAL) + 1
      ∧ s.onlyParts c [.regs, .fault, .cast, .free] :=
    ⟨_, rfl, State.reg_bump_self _ _, (State.onlyParts_mono (s.setFault_only _) (by simp)).bump _⟩
  unfold State.expire
  rw [if_pos hessential]
  extract_lets counted _ lined
  have hlined : c.onlyParts lined [.fault] := by
    unfold lined
    rw [show counted = c from hc]
    split
    · exact c.setFault_only _
    · exact c.onlyParts_refl _
  clear_value lined
  obtain ⟨hline, hsent⟩ := lined.sendFault_fatal srcCollector 0x040 u
  exact ⟨hline, (hsent.reg_eq (by decide) _).trans ((hlined.reg_eq (by decide) _).trans hcount), (hframe.step hlined).step hsent⟩

/-- Any other unit is kept, and the device runs degraded. -/
theorem State.expire_degrades (hu : u < 315) (hspare : s.essential u = false) :
    (s.expire u cause).unitState u = 4
      ∧ (s.expire u cause).reg (Reg.FLT_CNT Cnt.FLT_EXPIRED_DEGRADED) = s.reg (Reg.FLT_CNT Cnt.FLT_EXPIRED_DEGRADED) + 1
      ∧ s.onlyParts (s.expire u cause) [.regs, .fault, .cast, .free] := by
  obtain ⟨hstate, -, hcount, hframe⟩ := s.keepUnit_counts (i := Cnt.FLT_EXPIRED_DEGRADED) hu (by decide)
  obtain ⟨-, hcnt, -⟩ := fltCnt_fresh (i := Cnt.FLT_EXPIRED_DEGRADED) (by decide) hu
  have heq : s.expire u cause = ((((s.keepUnit u).fltBump Cnt.FLT_EXPIRED_DEGRADED).fltStatus Fld.FLT_STATUS_DEGRADED).jnlQueue
      (.event (.kept u))).showUnits := if_neg (by simp [hspare])
  rw [heq]
  generalize (s.keepUnit u).fltBump Cnt.FLT_EXPIRED_DEGRADED = k at *
  have hnoted := k.fltStatus_within Fld.FLT_STATUS_DEGRADED
  generalize k.fltStatus Fld.FLT_STATUS_DEGRADED = d at *
  have hqueued := d.jnlQueue_only (.event (.kept u))
  generalize d.jnlQueue (.event (.kept u)) = q at *
  have hshown := q.showUnits_within
  have hreg {a : Nat} (ha : a ∉ showRegs) : q.showUnits.reg a = k.reg a :=
    (hshown.1 a ha).trans ((hqueued.reg_eq (by decide) a).trans (hnoted.1 a ha))
  exact ⟨(State.unitState_of_reg (hreg (fltUnit_not_show hu))).trans hstate, (hreg hcnt).trans hcount,
    (((State.onlyParts_mono hframe (by simp)).step hnoted.2).step hqueued).step hshown.2⟩

/-- Both ends of a timer in one statement. -/
theorem State.expire_ends (hu : u < 315) :
    (s.essential u = true → (s.expire u cause).fault.fatalLine.isSome = true
        ∧ (s.expire u cause).reg (Reg.FLT_CNT Cnt.FLT_ESCALATED_FATAL) = s.reg (Reg.FLT_CNT Cnt.FLT_ESCALATED_FATAL) + 1)
      ∧ (s.essential u = false → (s.expire u cause).unitState u = 4
        ∧ (s.expire u cause).reg (Reg.FLT_CNT Cnt.FLT_EXPIRED_DEGRADED) = s.reg (Reg.FLT_CNT Cnt.FLT_EXPIRED_DEGRADED) + 1)
      ∧ s.onlyParts (s.expire u cause) [.regs, .fault, .cast, .free] := by
  cases hessential : s.essential u with
  | true =>
    obtain ⟨hline, hcount, hframe⟩ := s.expire_fatal cause hessential
    exact ⟨fun _ => ⟨hline, hcount⟩, fun h => absurd h (by decide), hframe⟩
  | false =>
    obtain ⟨hstate, hcount, hframe⟩ := s.expire_degrades cause hu hessential
    exact ⟨fun h => absurd h (by decide), fun _ => ⟨hstate, hcount⟩, hframe⟩

end

theorem timerEnd_expires {s : State} {u : Fin 315} {c : Instr}
    (h : c = .escWindowExpiry u ∧ s.unitState u.val = 1 ∨ c = .repairTimeout u ∧ s.unitState u.val ∈ [2, 3])
    (hdone : s.timerDone u.val = true) : exec c s = done s (s.expire u.val 1) := by
  obtain ⟨rfl, hstate⟩ | ⟨rfl, hstate⟩ := h
  · exact congrArg (done s) (if_pos ⟨hstate, hdone⟩)
  · exact congrArg (done s) (if_pos ⟨by simpa using hstate, hdone⟩)

/-- Settles O45. -/
theorem escalation : Obligations.Escalation := by
  refine ⟨fun s u hidle hu hstate hrepairable => ?_, fun s u hstate => ?_, fun s u hidle hu hstate hready => ?_,
    fun s u hidle hu hstate hspare => ?_, fun s u hidle hu hstate => ?_, fun s u c hc htimer => ?_,
    fun s h hauto hserving hfenced hcause htimer => ?_⟩
  · obtain ⟨b, heq, hasked⟩ := escReset_resets hidle hu hstate hrepairable
    obtain ⟨hreset, hbusy, hdue, hframe⟩ := b.resetting_shows hu
    have hwhole : s.onlyParts (b.resetting u.val) [.regs, .fault, .tmb] := State.onlyParts_trans (State.onlyParts_mono hasked.2 (by simp)) hframe
    refine ⟨_, done_eq_next_of_eq heq hwhole (by decide), hreset, hbusy, ?_, hwhole⟩
    rw [hdue, hasked.2.2 .clk (by decide), hasked.fld_eq (by decide)]
  · obtain ⟨hdone, hframe⟩ := unitResetDone_shows hstate
    exact ⟨_, done_eq_next hframe (by decide), hdone, hframe⟩
  · have hlow : u.val < 315 := by omega
    obtain ⟨hup, hcount⟩ := (s.escAsked u.val).returned_shows hlow
    rw [← escReturn_returns hidle hu hstate hready] at hup hcount
    exact ⟨_, rfl, hup, hcount.trans (congrArg (· + 1) ((s.escAsked_within u.val).1 _ (by decide)))⟩
  · obtain ⟨hkept, htimer, hcount, hframe⟩ := (s.escAsked u.val).keepUnit_counts (i := Cnt.FLT_KEEPS) hu (by decide)
    obtain ⟨-, hcnt, -⟩ := fltCnt_fresh (i := Cnt.FLT_KEEPS) (by decide) hu
    have hasked := s.escAsked_within u.val
    have heq := escKeep_keeps hidle hu hstate hspare
    generalize ((s.escAsked u.val).keepUnit u.val).fltBump Cnt.FLT_KEEPS = k at *
    have hshown := k.showUnits_within
    have hwhole : s.onlyParts k.showUnits [.regs, .fault] :=
      (State.onlyParts_trans (State.onlyParts_mono hasked.2 (by simp)) hframe).step hshown.2
    refine ⟨_, done_eq_next_of_eq heq hwhole (by decide), ?_, ?_, ?_, hwhole⟩
    · exact (State.unitState_of_reg (hshown.1 _ (fltUnit_not_show hu))).trans hkept
    · rw [hshown.2.2 .fault (by decide)]
      exact htimer
    · exact (hshown.1 _ hcnt).trans (hcount.trans (congrArg (· + 1) (hasked.1 _ (by decide))))
  · obtain ⟨hfatal, hdegraded, hframe⟩ := (s.escAsked u.val).expire_ends 2 hu
    have hasked := s.escAsked_within u.val
    rw [State.escAsked_essential] at hfatal hdegraded
    rw [hasked.1 _ (by decide)] at hfatal
    rw [hasked.1 _ (by decide)] at hdegraded
    have hwhole := State.onlyParts_trans (State.onlyParts_mono hasked.2 (by simp)) hframe
    exact ⟨_, done_eq_next_of_eq (State.escCmd_accepts _ hidle hu hstate) hwhole (by decide), hfatal, hdegraded, hwhole⟩
  · have hends := s.expire_ends 1 u.isLt
    exact ⟨_, (timerEnd_expires hc htimer).trans (done_eq_next hends.2.2 (by decide)), hends⟩
  · have hreturned := s.returned_shows (u := unitShard h.val) (by unfold unitShard; omega)
    rw [← autoRepair_returns hauto hserving hfenced hcause htimer] at hreturned
    exact ⟨_, rfl, hreturned⟩

end Sys2Proof.Machine
end

section
/-! PROOF. The fence of any unit (R392, R393): it leaves the STATE of the unit as its open window has set it. -/

namespace Sys2Proof.Machine

set_option Elab.async false

section
variable (s : State)

theorem State.tmbAbandon_keepsUnits (q : Nat) : s.keepsUnits (s.tmbAbandon q) := by
  have hended (t : State) : t.keepsUnits t.moveEnded := by
    unfold State.moveEnded
    split
    · exact .refl t
    · have hwait : t.keepsUnits (t.setCommitWait false) := t.setFld_keepsUnits (by decide) _ _
      split
      · exact hwait
      · generalize t.setCommitWait false = w at *
        exact hwait.trans (State.keepsUnits_of_regs rfl)
      · exact .refl t
  unfold State.tmbAbandon State.tmbErr State.showMove
  split
  · exact .refl s
  · have hcmd : 0x20DD8 ≤ Reg.TMB_ENT_CMD q := by simp only [Reg.TMB_ENT_CMD]; omega
    have hmaint : 0x20DD8 ≤ Reg.TMB_MAINT q := by simp only [Reg.TMB_MAINT]; omega
    have hstatus : 0x20DD8 ≤ Reg.TMB_STATUS q := by simp only [Reg.TMB_STATUS]; omega
    exact ((((((State.keepsUnits_of_regs (s := s) (t := s.setInsert q none) rfl).trans (State.setFld_keepsUnits _ hcmd _ _)).trans
      (State.setFld_keepsUnits _ hcmd _ _)).trans (State.setFld_keepsUnits _ hcmd _ _)).trans
      (State.setFld_keepsUnits _ hmaint _ _)).trans (State.setFld_keepsUnits _ hstatus _ _)).trans (hended _)

theorem State.discardPort_keepsUnits (n : Nat) : s.keepsUnits (s.discardPort n) :=
  forEach_keepsUnits (fun p t => (t.discardIngress_keepsUnits _ p).trans (State.discardEgress_keepsUnits _ _ p)) _ s

theorem lopStatusRegs_keepsUnits {s t : State} {l : List Part} (h : s.within t lopStatusRegs l) : s.keepsUnits t := fun u hu =>
  State.unitState_of_reg (h.1 _ (not_mem_lopStatusRegs (.inl (by have := fltUnit_range hu; omega))))

theorem State.hostLost_keepsUnits : s.keepsUnits s.hostLost := by
  unfold State.hostLost State.hostLostFrom
  extract_lets counted lost _ dropped
  have hcounted : s.keepsUnits counted := by
    unfold counted
    split
    · exact .refl s
    · exact s.bump_keepsUnits (by decide)
  have hlost : s.keepsUnits lost :=
    (hcounted.trans (State.setFld_keepsUnits _ (by decide) _ _)).trans (State.setFld_keepsUnits _ (by decide) _ _)
  have hdropped : s.keepsUnits dropped := hlost.trans (State.keepsUnits_of_regs rfl)
  clear_value dropped
  exact hdropped.trans (lopStatusRegs_keepsUnits (dropped.lopAbortAll_within _ _))

/-- A claim raised for the other complex, whatever comes of it, leaves this one's STATE. -/
theorem State.raiseClaim_keeps {a : Nat} (ha : a < 2) (c : Nat) :
    ((s.raiseClaim (1 - a) c).2).unitState (unitComplex a) = s.unitState (unitComplex a) := by
  have hu : unitComplex a < 315 := by unfold unitComplex; omega
  have hclaim (x : Nat) : 0x20DD8 ≤ claimReg x := by have := claimReg_range x; omega
  have hdraw : s.draw.2.unitState (unitComplex a) = s.unitState (unitComplex a) :=
    State.unitState_of_reg (s.draw_rest.reg_eq (by decide) _)
  have hsend (t : State) (src kind cls addr : Nat) : (t.sendFault src kind cls addr).unitState (unitComplex a)
      = t.unitState (unitComplex a) := t.sendFault_keepsUnits src kind cls addr _ hu
  have hopen (t : State) : (t.openWindow (unitComplex (1 - a))).unitState (unitComplex a) = t.unitState (unitComplex a) := by
    refine State.unitState_of_reg ((t.openWindow_within _).reg_kept _ ?_)
    simp only [List.mem_cons, List.not_mem_nil, or_false, Reg.FLT_UNIT, Reg.FLT_CNT, unitComplex, Cnt.FLT_FENCES]
    omega
  unfold State.raiseClaim
  extract_lets n drawn raised tied
  have hraised : raised.unitState (unitComplex a) = s.unitState (unitComplex a) :=
    ((s.setFld_keepsUnits (hclaim _) _ _).trans (State.setFld_keepsUnits _ (by decide) _ _)) _ hu
  have htied : tied.unitState (unitComplex a) = raised.unitState (unitComplex a) :=
    ((raised.bump_keepsUnits (by decide)).trans (State.setFld_keepsUnits _ (by decide) _ _)) _ hu
  clear_value tied raised
  split
  · exact (hsend _ _ _ _ _).trans hdraw
  · split
    · exact ((hopen _).trans (hsend _ _ _ _ _)).trans (htied.trans hraised)
    · exact hraised

/-- A take-over by the other complex leaves the STATE of the complex already down. -/
theorem State.takeover_keeps (hdown : s.down (unitComplex s.activeCc) = true) (hb : Bool) :
    (s.takeover hb).unitState (unitComplex s.activeCc) = s.unitState (unitComplex s.activeCc) := by
  have ha := s.activeCc_lt
  have hu : unitComplex s.activeCc < 315 := by unfold unitComplex; omega
  have hraise := s.raiseClaim_keeps ha (s.claim s.activeCc + 1)
  unfold State.takeover
  generalize s.activeCc = a at *
  dsimp only
  split
  · rfl
  · generalize s.raiseClaim (1 - a) (s.claim a + 1) = r at *
    split
    · exact hraise
    · have hfenced : r.2.hbLost a = r.2 := if_pos (by simpa [State.down, hraise] using hdown)
      rw [hfenced]
      generalize (if hb = true then Cnt.CCX_TAKEOVERS_HB else Cnt.CCX_TAKEOVERS_FENCE) = k
      have hmoved : r.2.keepsUnits (((r.2.setFld Reg.CCX_STATUS Fld.CCX_STATUS_ACTIVE (1 - a)).setFld Reg.CCX_STATUS
          Fld.CCX_STATUS_TAKEOVER_SEEN 1).ccxBump k).servicesMove :=
        (((State.setFld_keepsUnits _ (by decide) _ _).trans (State.setFld_keepsUnits _ (by decide) _ _)).trans
          (State.bump_keepsUnits _ (by simp only [Reg.CCX_CNT]; omega))).trans (lopStatusRegs_keepsUnits (State.servicesMove_within _))
      have hqueued := State.jnlQueue_only (((r.2.setFld Reg.CCX_STATUS Fld.CCX_STATUS_ACTIVE (1 - a)).setFld Reg.CCX_STATUS
          Fld.CCX_STATUS_TAKEOVER_SEEN 1).ccxBump k).servicesMove (.event .takeover)
      exact ((State.unitState_of_reg (hqueued.reg_eq (by decide) _)).trans (hmoved _ hu)).trans hraise

/-- The fence of a unit whose window is open leaves its STATE. -/
theorem State.isolate_keeps {u : Nat} (hu : u < 315) (hdown : s.unitState u = 1) : (s.isolate u).unitState u = 1 := by
  have hstopped := s.stopLinks_keepsUnits u
  have hstate : (s.stopLinks u).unitState u = 1 := (hstopped u hu).trans hdown
  unfold State.isolate
  dsimp only
  generalize s.stopLinks u = t at *
  split
  · exact (t.discardPort_keepsUnits _ u hu).trans hstate
  · split
    · exact (t.discardSlice_keepsUnits _ u hu).trans hstate
    · split
      · exact (t.discardShard_keepsUnits _ u hu).trans hstate
      · split
        · exact (t.tmbAbandon_keepsUnits _ u hu).trans hstate
        · split
          · exact (t.tmDiscard_keepsUnits _ u hu).trans hstate
          · split
            · exact ((t.setFld_keepsUnits (by simp only [Reg.DMC_STATUS]; omega) _ _) u hu).trans hstate
            · split
              · exact (t.hostLost_keepsUnits u hu).trans hstate
              · split
                · next hcomplex =>
                  split
                  · next hactive =>
                    have hunit : u = unitComplex t.activeCc := by unfold unitComplex; omega
                    rw [hunit] at hstate ⊢
                    exact (t.takeover_keeps (by simp [State.down, hstate]) false).trans hstate
                  · exact hstate
                · exact hstate

/-- A contained fault of a unit in service fences it. -/
theorem State.faultUnit_opens {u : Nat} (hu : u < 315) (hup : s.down u = false) (src kind addr : Nat) :
    (s.faultUnit u src kind addr).unitState u = 1 := by
  rw [State.faultUnit, hup, if_neg Bool.false_ne_true]
  exact State.isolate_keeps _ hu (State.openWindow_unitState _ hu)

end

end Sys2Proof.Machine
end

section
/-! PROOF. The collector's messages (R388 to R391, R403), unit logic faults, the fatal stop and its clearing (R400, R401). -/

namespace Sys2Proof.Machine

set_option Elab.async false

/-! ### What a message notes -/

/-- The registers that the notes of a message move: first faults, a unit's FAULT_SEQ, the counts by class, FLT.STATUS. -/
def noteRegs : Set Nat := {a | 0x20100 ≤ a ∧ a < 0x21018 ∨ a ∈ showRegs}

/-- The notes of a message leave the ring, its tokens and what waits. -/
structure State.notes (s t : State) : Prop where
  fault : ∃ w, t.fault = { s.fault with seqWanted := w }
  rest : s.within t noteRegs [.regs, .fault]

theorem State.notes.refl (s : State) : s.notes s := ⟨⟨_, rfl⟩, .refl s _ _⟩

theorem State.notes.trans {s t u : State} (a : s.notes t) (b : t.notes u) : s.notes u := by
  obtain ⟨w, hw⟩ := b.fault
  obtain ⟨v, hv⟩ := a.fault
  exact ⟨⟨w, by rw [hw, hv]⟩, a.rest.trans b.rest⟩

theorem State.within.notes {s t : State} {R : Set Nat} (a : s.within t R [.regs]) (h : R ⊆ noteRegs) : s.notes t :=
  ⟨⟨s.fault.seqWanted, a.2.2 .fault (by decide)⟩, a.mono h (by simp)⟩

theorem State.fltStatus_notes (s : State) (f : Fld) : s.notes (s.fltStatus f) := (s.fltStatus_within f).notes fun _ ha => .inr ha

/-- A message of a class of R386, from a source of R384. -/
def FaultMsg.known (m : FaultMsg) : Prop := m.cls < 3 ∧ ∀ u, unitOf m.src = some u → u < 315

theorem State.firstFault_notes (s : State) {f : Nat} (hf : f < 4) (e : RingEntry) : s.notes (s.firstFault f e) := by
  have hin (i : Nat) (hi : i < 4) : Reg.FLT_FIRST f i ∈ noteRegs := .inl (by simp only [Reg.FLT_FIRST]; omega)
  unfold State.firstFault
  split
  · exact .refl s
  · exact State.within.notes ((((State.within.refl s noteRegs [.regs]).setReg _ _ (hin 0 (by decide))).setReg _ _ (hin 1 (by decide))).setReg
      _ _ (hin 2 (by decide)) |>.setReg _ _ (hin 3 (by decide))) subset_rfl

theorem State.noteSeq_notes (s : State) {m : FaultMsg} (hm : ∀ u, unitOf m.src = some u → u < 315) (n : Nat) :
    s.notes (s.noteSeq m n) := by
  unfold State.noteSeq
  split
  · exact .refl s
  · next u hu =>
    have hunit := fltUnit_range (hm u hu)
    split
    · obtain ⟨t, ht, hfault, hframe⟩ : ∃ t : State, { s with fault := { s.fault with
          seqWanted := Tbl.set false s.fault.seqWanted u false } } = t
          ∧ (∃ w, t.fault = { s.fault with seqWanted := w }) ∧ s.onlyParts t [.fault] := ⟨_, rfl, ⟨_, rfl⟩, s.setFault_only _⟩
      rw [ht]
      exact ⟨hfault, ((hframe.within (by decide) noteRegs).parts (by simp)).setFld _ _ _ (.inl (by omega))⟩
    · exact .refl s

/-- FLT.STATUS, the first faults and FAULT_SEQ after a message whose entry is `e`. -/
def State.msgNoted (s : State) (m : FaultMsg) (injected : Bool) (n : Nat) (e : RingEntry) : State :=
  if injected then ((s.fltStatus ⟨1 + m.cls, 1⟩).firstFault 0 e).firstFault (1 + m.cls) e
  else (((s.fltStatus ⟨1 + m.cls, 1⟩).firstFault 0 e).firstFault (1 + m.cls) e).noteSeq m n

section
variable (s : State) {m : FaultMsg} (hcls : m.cls < 3)
include hcls

theorem State.msgNoted_notes (injected : Bool) (hsrc : injected = false → ∀ u, unitOf m.src = some u → u < 315) (n : Nat)
    (e : RingEntry) : s.notes (s.msgNoted m injected n e) := by
  have hfirst : s.notes (((s.fltStatus ⟨1 + m.cls, 1⟩).firstFault 0 e).firstFault (1 + m.cls) e) :=
    ((s.fltStatus_notes _).trans (State.firstFault_notes _ (by decide) e)).trans (State.firstFault_notes _ (by omega) e)
  unfold State.msgNoted
  cases injected with
  | true => exact hfirst
  | false => exact hfirst.trans (State.noteSeq_notes _ (hsrc rfl) n)

/-- A message is counted by its class; the ring's pointers and rate are elsewhere. -/
theorem State.ringTakes_counted (c : Nat) : (s.fltBump m.cls).ringTakes c = s.ringTakes c := by
  have hptr (f : Fld) : (s.fltBump m.cls).fld Reg.FLT_RING_PTR f = s.fld Reg.FLT_RING_PTR f :=
    State.fld_bump_other _ _ (by simp only [Reg.FLT_CNT, Reg.FLT_RING_PTR]; omega)
  have hrate (f : Fld) : (s.fltBump m.cls).fld Reg.FLT_CORR_RATE f = s.fld Reg.FLT_CORR_RATE f :=
    State.fld_bump_other _ _ (by simp only [Reg.FLT_CNT, Reg.FLT_CORR_RATE]; omega)
  simp only [State.ringTakes, State.ringHeld, State.corrTokens, hptr, hrate]
  rfl

theorem State.fltBump_notes : s.notes (s.fltBump m.cls) :=
  State.within.notes (R := noteRegs) (s.bump_within (.inl (by simp only [Reg.FLT_CNT]; omega))) subset_rfl

end

/-- The bucket and the sources with lost messages after a message. -/
def State.tokened (s : State) (k : Nat) (l : Tbl Bool) : State := { s with fault := { s.fault with tokens := k, lost := l } }

theorem State.tokened_only (s : State) (k : Nat) (l : Tbl Bool) : s.onlyParts (s.tokened k l) [.fault] := s.setFault_only _

/-- What a recorded message's entry says. -/
def State.entryTaken (s : State) (m : FaultMsg) (injected : Bool) : RingEntry :=
  s.ringEntryOf m s.fault.seq (!injected && Tbl.get false s.fault.lost m.src) injected

theorem State.record_takes {s : State} {m : FaultMsg} (injected : Bool) (hcls : m.cls < 3)
    (htakes : s.ringTakes m.cls = true) : ∃ k l, s.record m injected
      = (((s.fltBump m.cls).msgNoted m injected s.fault.seq (s.entryTaken m injected)).ringPut (s.entryTaken m injected)).tokened k l := by
  have hcounted : (s.fltBump m.cls).ringTakes m.cls = true := (s.ringTakes_counted hcls m.cls).trans htakes
  unfold State.record
  simp only [hcounted, if_true]
  exact ⟨_, _, rfl⟩

/-- A message that the ring does not take is counted as such. -/
theorem State.record_turns {s : State} {m : FaultMsg} (injected : Bool) (hcls : m.cls < 3)
    (hfull : s.ringTakes m.cls = false) : ∃ n e, s.record m injected
      = if m.cls = 0 then ((s.fltBump m.cls).draw.2.msgNoted m injected n e).fltBump Cnt.FLT_CORR_SUPPRESSED
        else (((s.fltBump m.cls).draw.2.msgNoted m injected n e).fltBump Cnt.FLT_RING_LOST).fltStatus Fld.FLT_STATUS_RING_OVF := by
  have hcounted : (s.fltBump m.cls).ringTakes m.cls = false := (s.ringTakes_counted hcls m.cls).trans hfull
  unfold State.record
  simp only [hcounted, Bool.false_eq_true, if_false]
  exact ⟨_, _, rfl⟩

/-! ### A message recorded -/

/-- The registers that a recorded message moves. -/
def takenRegs : Set Nat := {a | a ∈ noteRegs ∨ a = Reg.FLT_RING_PTR ∨ a = Reg.FLT_CNT Cnt.FLT_RECORDED}

theorem State.ringPut_puts (s : State) (e : RingEntry) :
    Tbl.get RingEntry.init (s.ringPut e).fault.ring (s.fld Reg.FLT_RING_PTR Fld.FLT_RING_PTR_HEAD % 4096) = e
      ∧ (s.ringPut e).fault.seq = (s.fault.seq + 1) % 2 ^ 18 ∧ (s.ringPut e).fault.queues = s.fault.queues
      ∧ (s.ringPut e).fault.stopDiscards = s.fault.stopDiscards
      ∧ (s.ringPut e).reg (Reg.FLT_CNT Cnt.FLT_RECORDED) = s.reg (Reg.FLT_CNT Cnt.FLT_RECORDED) + 1
      ∧ s.within (s.ringPut e) takenRegs [.regs, .fault] := by
  obtain ⟨t, heq, hring, hseq, hqueues, hstop, hput⟩ : ∃ t : State, s.ringPut e = (t.setFld Reg.FLT_RING_PTR Fld.FLT_RING_PTR_HEAD
        (s.fld Reg.FLT_RING_PTR Fld.FLT_RING_PTR_HEAD + 1)).fltBump Cnt.FLT_RECORDED
      ∧ Tbl.get RingEntry.init t.fault.ring (s.fld Reg.FLT_RING_PTR Fld.FLT_RING_PTR_HEAD % 4096) = e
      ∧ t.fault.seq = (s.fault.seq + 1) % 2 ^ 18 ∧ t.fault.queues = s.fault.queues ∧ t.fault.stopDiscards = s.fault.stopDiscards
      ∧ s.onlyParts t [.fault] := ⟨_, rfl, by simp, rfl, rfl, rfl, s.setFault_only _⟩
  rw [heq]
  refine ⟨hring, hseq, hqueues, hstop, ?_, ?_⟩
  · refine (State.reg_bump_self _ _).trans (congrArg (· + 1) ?_)
    rw [State.reg_setFld_other _ _ _ (by decide), hput.reg_eq (by decide)]
  · exact (((hput.within (by decide) takenRegs).parts (by simp)).setFld _ _ _ (.inr (.inl rfl))).bump _ (.inr (.inr rfl))

theorem recorded_not_note : Reg.FLT_RING_PTR ∉ noteRegs ∧ Reg.FLT_CNT Cnt.FLT_RECORDED ∉ noteRegs := by
  simp only [noteRegs, showRegs, Set.mem_ofPred_eq, Set.mem_insert_iff, Set.mem_singleton_iff]
  decide

section
variable {s : State} {m : FaultMsg} (injected : Bool) (hcls : m.cls < 3) (hsrc : injected = false → ∀ u, unitOf m.src = some u → u < 315)
include hcls hsrc

theorem State.record_records (htakes : s.ringTakes m.cls = true) :
    Tbl.get RingEntry.init (s.record m injected).fault.ring (s.fld Reg.FLT_RING_PTR Fld.FLT_RING_PTR_HEAD % 4096) = s.entryTaken m injected
      ∧ (s.record m injected).fault.seq = (s.fault.seq + 1) % 2 ^ 18 ∧ (s.record m injected).fault.queues = s.fault.queues
      ∧ (s.record m injected).fault.stopDiscards = s.fault.stopDiscards
      ∧ (s.record m injected).reg (Reg.FLT_CNT Cnt.FLT_RECORDED) = s.reg (Reg.FLT_CNT Cnt.FLT_RECORDED) + 1
      ∧ s.within (s.record m injected) takenRegs [.regs, .fault] := by
  obtain ⟨k, l, heq⟩ := State.record_takes injected hcls htakes
  have hnotes : s.notes ((s.fltBump m.cls).msgNoted m injected s.fault.seq (s.entryTaken m injected)) :=
    (s.fltBump_notes hcls).trans (State.msgNoted_notes _ hcls injected hsrc _ _)
  rw [heq]
  generalize (s.fltBump m.cls).msgNoted m injected s.fault.seq (s.entryTaken m injected) = n at *
  obtain ⟨⟨w, hw⟩, hnoted⟩ := hnotes
  obtain ⟨hring, hseq, hqueues, hstop, hcount, hput⟩ := n.ringPut_puts (s.entryTaken m injected)
  have hhead : n.fld Reg.FLT_RING_PTR Fld.FLT_RING_PTR_HEAD = s.fld Reg.FLT_RING_PTR Fld.FLT_RING_PTR_HEAD :=
    hnoted.fld_eq recorded_not_note.1 _
  rw [hhead] at hring
  rw [hw] at hseq hqueues hstop
  rw [hnoted.1 _ recorded_not_note.2] at hcount
  generalize n.ringPut (s.entryTaken m injected) = p at *
  exact ⟨hring, hseq, hqueues, hstop, hcount, ((hnoted.mono (fun a ha => .inl ha) (by simp)).trans hput).rest (p.tokened_only k l)⟩

/-- The registers of the collector that a message may move. -/
def collectRegs : Set Nat := {a | 0x20030 ≤ a ∧ a < 0x21100 ∨ a ∈ showRegs}

/-- A message recorded or not: where it leaves its marks. -/
theorem State.record_collects : (s.record m injected).fault.stopDiscards = s.fault.stopDiscards
    ∧ s.within (s.record m injected) collectRegs [.regs, .fault, .free] := by
  have hnote : noteRegs ⊆ collectRegs := by
    rintro a (⟨hlo, hhi⟩ | ha)
    · exact .inl ⟨by omega, by omega⟩
    · exact .inr ha
  cases htakes : s.ringTakes m.cls with
  | true =>
    obtain ⟨-, -, -, hstop, -, hframe⟩ := State.record_records injected hcls hsrc htakes
    refine ⟨hstop, hframe.mono ?_ (by simp)⟩
    rintro a (ha | rfl | rfl)
    · exact hnote ha
    · exact .inl (by decide)
    · exact .inl (by decide)
  | false =>
    obtain ⟨n, e, heq⟩ := State.record_turns injected hcls htakes
    have hdraw := (s.fltBump m.cls).draw_rest
    have hcounted := s.fltBump_notes hcls
    generalize s.fltBump m.cls = c at *
    have hnotes := c.draw.2.msgNoted_notes hcls injected hsrc n e
    generalize c.draw.2 = d at *
    have hframe : s.within (d.msgNoted m injected n e) collectRegs [.regs, .fault, .free] :=
      ((hcounted.rest.mono hnote (by simp)).rest hdraw).step hnotes.rest hnote
    have hstop : (d.msgNoted m injected n e).fault.stopDiscards = s.fault.stopDiscards := by
      obtain ⟨w, hw⟩ := hnotes.fault
      obtain ⟨v, hv⟩ := hcounted.fault
      rw [hw, hdraw.2 .fault (by decide), hv]
    rw [heq]
    generalize d.msgNoted m injected n e = t at *
    split
    · exact ⟨hstop, hframe.bump _ (.inl (by decide))⟩
    · have hshown := (t.fltBump Cnt.FLT_RING_LOST).fltStatus_within Fld.FLT_STATUS_RING_OVF
      refine ⟨?_, (hframe.bump _ (.inl (by decide))).step hshown (fun a ha => .inr ha)⟩
      rw [hshown.2.2 .fault (by decide)]
      exact hstop

end

end Sys2Proof.Machine
end

section
/-! PROOF. One collector cycle (R388), INJECT (R403), unit logic faults (R387, R392), the fatal stop and its clearing (R400, R401). -/

namespace Sys2Proof.Machine

set_option Elab.async false

/-! ### A collector cycle -/

/-- A message taken from its source's queue. -/
def State.dequeued (s : State) (m : FaultMsg) : State :=
  { s with fault := { s.fault with queues := Tbl.set [] s.fault.queues m.src ((Tbl.get [] s.fault.queues m.src).erase m) } }

theorem State.dequeued_only (s : State) (m : FaultMsg) : s.onlyParts (s.dequeued m) [.fault] := s.setFault_only _

/-- The messages of one cycle, in their order. -/
def State.cycle (s : State) : List FaultMsg := ((s.fault.queues.flatMap (fun e => e.2)).mergeSort msgBefore).take 8

theorem faultMessageRecord_eq (s : State) :
    faultMessageRecord s = (forEach s.cycle (fun m t => (t.dequeued m).record m false) s).showUnits := rfl

theorem State.cycle_known {s : State} (h : s.msgsOk) {m : FaultMsg} (hm : m ∈ s.cycle) : m.known := by
  have hin := (List.mergeSort_perm (s.fault.queues.flatMap (fun e => e.2)) msgBefore).mem_iff.1 (List.mem_of_mem_take hm)
  obtain ⟨e, he, hme⟩ := List.mem_flatMap.1 hin
  exact h e he m hme

theorem State.cycle_one {s : State} {m : FaultMsg} (h : s.fault.queues.flatMap (fun e => e.2) = [m]) : s.cycle = [m] := by
  rw [State.cycle, h]
  simp

theorem State.dequeued_takes (s : State) (m : FaultMsg) (c : Nat) : (s.dequeued m).ringTakes c = s.ringTakes c := rfl

/-- The only waiting message of the device is recorded. -/
theorem faultMessageRecord_one {s : State} {m : FaultMsg} (hall : s.fault.queues.flatMap (fun e => e.2) = [m])
    (hown : Tbl.get [] s.fault.queues m.src = [m]) (hok : s.msgsOk) (htakes : s.ringTakes m.cls = true) :
    Tbl.get [] (faultMessageRecord s).fault.queues m.src = []
      ∧ Tbl.get RingEntry.init (faultMessageRecord s).fault.ring (s.fld Reg.FLT_RING_PTR Fld.FLT_RING_PTR_HEAD % 4096)
        = s.ringEntryOf m s.fault.seq (Tbl.get false s.fault.lost m.src) false
      ∧ (faultMessageRecord s).fault.seq = (s.fault.seq + 1) % 2 ^ 18
      ∧ (faultMessageRecord s).reg (Reg.FLT_CNT Cnt.FLT_RECORDED) = s.reg (Reg.FLT_CNT Cnt.FLT_RECORDED) + 1
      ∧ s.onlyParts (faultMessageRecord s) [.regs, .fault] := by
  have hcycle := State.cycle_one hall
  obtain ⟨hcls, hsrc⟩ := State.cycle_known hok (m := m) (by rw [hcycle]; exact List.mem_singleton_self m)
  obtain ⟨d, hd, htaken, hseqd, hqueue, hentry, hptr, hcnt, hframe⟩ : ∃ d : State, s.dequeued m = d ∧ d.ringTakes m.cls = true
      ∧ d.fault.seq = s.fault.seq ∧ Tbl.get [] d.fault.queues m.src = []
      ∧ d.entryTaken m false = s.ringEntryOf m s.fault.seq (Tbl.get false s.fault.lost m.src) false
      ∧ (∀ f, d.fld Reg.FLT_RING_PTR f = s.fld Reg.FLT_RING_PTR f) ∧ (∀ a, d.reg a = s.reg a) ∧ s.onlyParts d [.fault] :=
    ⟨_, rfl, (s.dequeued_takes m _).trans htakes, rfl, by simp [State.dequeued, hown], rfl, fun _ => rfl, fun _ => rfl,
      s.dequeued_only m⟩
  obtain ⟨hring, hseq, hqueues, -, hcount, hrec⟩ := State.record_records false hcls (fun _ => hsrc) htaken
  have heq : faultMessageRecord s = (d.record m false).showUnits := by
    rw [faultMessageRecord_eq, hcycle, ← hd]
    rfl
  rw [heq]
  generalize d.record m false = r at *
  have hshown := r.showUnits_within
  rw [hshown.2.2 .fault (by decide), hqueues, hseq, hseqd]
  rw [hptr] at hring
  refine ⟨hqueue, hring.trans hentry, rfl, (hshown.1 _ ?_).trans (hcount.trans (congrArg (· + 1) (hcnt _))), ?_⟩
  · simp only [showRegs, Set.mem_insert_iff, Set.mem_singleton_iff]
    decide
  · exact ((State.onlyParts_mono hframe (by simp)).step hrec.2).step hshown.2

/-- A cycle leaves the frames that the stop has discarded, and writes the collector's registers alone. -/
theorem faultMessageRecord_collects {s : State} (hok : s.msgsOk) :
    (faultMessageRecord s).fault.stopDiscards = s.fault.stopDiscards
      ∧ s.within (faultMessageRecord s) collectRegs [.regs, .fault, .free] := by
  have hcycle : (forEach s.cycle (fun m t => (State.dequeued t m).record m false) s).fault.stopDiscards = s.fault.stopDiscards
      ∧ s.within (forEach s.cycle (fun m t => (State.dequeued t m).record m false) s) collectRegs [.regs, .fault, .free] := by
    refine forEach_induct (fun t : State => t.fault.stopDiscards = s.fault.stopDiscards ∧ s.within t collectRegs [.regs, .fault, .free])
      _ _ s ⟨rfl, .refl s _ _⟩ fun m t hm ht => ?_
    obtain ⟨hcls, hsrc⟩ := State.cycle_known hok hm
    obtain ⟨hstop, hframe⟩ := State.record_collects (s := t.dequeued m) false hcls (fun _ => hsrc)
    have htaken : (t.dequeued m).fault.stopDiscards = t.fault.stopDiscards := rfl
    exact ⟨hstop.trans (htaken.trans ht.1), (ht.2.rest (t.dequeued_only m)).step hframe⟩
  rw [faultMessageRecord_eq]
  generalize forEach s.cycle (fun m t => (State.dequeued t m).record m false) s = r at *
  have hshown := r.showUnits_within
  exact ⟨by rw [hshown.2.2 .fault (by decide), hcycle.1], hcycle.2.step hshown (fun a ha => .inr ha)⟩

/-! ### INJECT and unit logic faults -/

theorem inject_records {s : State} {m : FaultMsg} (hm : m = ⟨s.fld Reg.FLT_INJECT Fld.FLT_INJECT_SOURCE,
      s.fld Reg.FLT_INJECT Fld.FLT_INJECT_KIND, s.fld Reg.FLT_INJECT Fld.FLT_INJECT_CLASS,
      s.fld Reg.FLT_INJECT_ADDR Fld.FLT_INJECT_ADDR_ADDR, s.clk.ns⟩) (hcls : m.cls < 3) :
    inject s = (s.record m true).fltBump Cnt.FLT_INJECTED := by
  subst hm
  exact if_neg (by simp only at hcls ⊢; omega)

theorem unitLogic_faults {u : Nat} (hu : u ≠ 308) (code : Nat) (s : State) :
    ∃ src, unitLogic u code s = (s.faultUnit u src 0x031 code).showUnits := ⟨_, if_neg hu⟩

/-! ### The fatal stop -/

/-- A vector raised for a fault leaves FLT.STATUS. -/
theorem State.faultVector_status (s : State) : s.faultVector.reg Reg.FLT_STATUS = s.reg Reg.FLT_STATUS := by
  unfold State.faultVector State.msix
  split
  · split
    · rfl
    · exact State.reg_bump_other _ (by decide)
  · rfl

/-- A bit of FLT.STATUS that rises. -/
theorem State.fltStatus_sets (s : State) {f : Fld} (h : f.len = 1 ∧ f.lo < 64) : (s.fltStatus f).flag Reg.FLT_STATUS f = true := by
  unfold State.fltStatus
  split
  · assumption
  · have hset : (s.setFld Reg.FLT_STATUS f 1).flag Reg.FLT_STATUS f = true := s.flag_setFld_one Reg.FLT_STATUS h
    dsimp only
    generalize s.setFld Reg.FLT_STATUS f 1 = t at *
    split
    · exact (State.flag_of_reg t.faultVector_status f).trans hset
    · exact hset

/-- Any other bit of FLT.STATUS stands. -/
theorem State.fltStatus_keeps (s : State) {f g : Fld} (h : f.lo + f.len ≤ g.lo ∨ g.lo + g.len ≤ f.lo) :
    (s.fltStatus f).flag Reg.FLT_STATUS g = s.flag Reg.FLT_STATUS g := by
  unfold State.fltStatus
  split
  · rfl
  · have hset : (s.setFld Reg.FLT_STATUS f 1).flag Reg.FLT_STATUS g = s.flag Reg.FLT_STATUS g :=
      s.flag_setFld_disjoint Reg.FLT_STATUS 1 h
    dsimp only
    generalize s.setFld Reg.FLT_STATUS f 1 = t at *
    split
    · exact (State.flag_of_reg t.faultVector_status g).trans hset
    · exact hset

/-- The frames inside are a matter of ports, TMs and shards. -/
theorem State.framesInside_eq {s t : State} {l : List Part} (h : s.onlyParts t l) (hports : Part.ports ∉ l) (htm : Part.tm ∉ l)
    (hshards : Part.shards ∉ l) : t.framesInside = s.framesInside := by
  rw [State.framesInside, State.framesInside, h.2 .ports hports, h.2 .tm htm, h.2 .shards hshards]

/-- The frames inside are discarded and counted; the TMs stand empty. -/
theorem State.discardInside_discards (s : State) :
    s.discardInside.tm.queues = [] ∧ s.discardInside.tm.relIn = []
      ∧ s.discardInside.fault = { s.fault with stopDiscards := s.fault.stopDiscards + s.framesInside }
      ∧ s.onlyParts s.discardInside [.ports, .shards, .tm, .buf, .fault] := by
  obtain ⟨F, hF⟩ : ∃ f, f = @State.framesInside := ⟨_, rfl⟩
  obtain ⟨C, hC⟩ : ∃ f, f = @State.sendingCells := ⟨_, rfl⟩
  unfold State.discardInside
  rw [← hF, ← hC]
  extract_lets n keep emptied cleared fault buf tm
  have hemptied : s.onlyParts emptied [.ports] :=
    forEach_induct (fun t => s.onlyParts t [.ports]) _ _ s (s.onlyParts_refl _) fun p t _ ht => ht.step (t.setPort_rest _ _)
  have hcleared : emptied.onlyParts cleared [.shards] :=
    forEach_induct (fun t => emptied.onlyParts t [.shards]) _ _ emptied (emptied.onlyParts_refl _) fun h t _ ht =>
      ht.step (t.setShard_rest _ _)
  have hfault : cleared.fault = s.fault := (hcleared.2 .fault (by decide)).trans (hemptied.2 .fault (by decide))
  have hframe : s.onlyParts cleared [.ports, .shards, .tm, .buf, .fault] :=
    (State.onlyParts_mono hemptied (by simp)).step hcleared
  have hn : n = F s := rfl
  clear_value cleared emptied n keep
  refine ⟨rfl, rfl, ?_, hframe.step (m := [.tm, .buf, .fault]) ⟨rfl, fun p hp => by
    cases p with
    | tm => exact absurd hp (by simp)
    | buf => exact absurd hp (by simp)
    | fault => exact absurd hp (by simp)
    | _ => rfl⟩⟩
  simp only [fault, hfault, hn]
  rfl

theorem State.writeBox_rest (s : State) (cause : Nat) : s.onlyParts (s.writeBox cause) [.regs, .cast]
    ∧ (∀ a, a ∉ collectRegs → ¬(0x10170 ≤ a ∧ a < 0x10270) → (s.writeBox cause).reg a = s.reg a)
    ∧ (s.writeBox cause).flag Reg.FLT_STATUS Fld.FLT_STATUS_FATAL_SEEN = s.flag Reg.FLT_STATUS Fld.FLT_STATUS_FATAL_SEEN := by
  unfold State.writeBox
  split
  · have hshown := s.fltStatus_within Fld.FLT_STATUS_BB_FAIL
    exact ⟨State.onlyParts_mono hshown.2 (by simp), fun a ha _ => hshown.1 a fun h => ha (.inr h), s.fltStatus_keeps (by decide)⟩
  · obtain ⟨w, hw, hwrites⟩ := s.jnlWrite_writes { what := .blackBox, payloads := s.blackBox cause }
    have hframe : s.within (w.cstBump Cnt.CST_JNL_ENTRIES) {a | 0x10170 ≤ a ∧ a < 0x10270} [.regs, .cast] :=
      (hwrites.rest.mono (fun a ha => by
        simp only [recordRegs, Set.mem_ofPred_eq, List.mem_cons, List.not_mem_nil, or_false] at ha ⊢
        obtain rfl | rfl | rfl | rfl | rfl := ha <;> decide) (by simp)).bump _ (by
        simp only [Set.mem_ofPred_eq]; decide)
    dsimp only
    rw [hw]
    generalize w.cstBump Cnt.CST_JNL_ENTRIES = v at *
    refine ⟨(hframe.2.bump _).setFld _ _ _, fun a ha hjnl => ?_, ?_⟩
    · have hstate : a ≠ Reg.FLT_FATAL_STATE := fun h => ha (.inl (by subst h; decide))
      have hcount : a ≠ Reg.FLT_CNT Cnt.FLT_BB_WRITTEN := fun h => ha (.inl (by subst h; decide))
      exact (State.reg_setFld_other _ _ _ hstate).trans ((State.reg_bump_other _ hcount).trans (hframe.1 a hjnl))
    · exact (State.flag_setFld_other _ _ _ _ (by decide)).trans ((State.flag_bump_other _ _ (by decide)).trans
        (hframe.flag_eq (by simp only [Set.mem_ofPred_eq]; decide) _))

/-- The device stopped, before its frames are discarded: the messages recorded, DEV_READY clear. -/
def State.stopping (s : State) : State :=
  let t := ((faultMessageRecord s).fltStatus Fld.FLT_STATUS_FATAL_SEEN).setFld Reg.GLB_STATUS Fld.GLB_STATUS_DEV_READY 0
  { t with fault := { t.fault with stopped := true } }

theorem State.stopDevice_eq (s : State) (cause : Nat) : s.stopDevice cause = s.stopping.discardInside.writeBox cause := rfl

theorem State.stopping_shows {s : State} (hok : s.msgsOk) :
    s.stopping.flag Reg.FLT_STATUS Fld.FLT_STATUS_FATAL_SEEN = true ∧ s.stopping.flag Reg.GLB_STATUS Fld.GLB_STATUS_DEV_READY = false
      ∧ s.stopping.fld Reg.FLT_CFG = s.fld Reg.FLT_CFG ∧ s.stopping.fault.stopped = true
      ∧ s.stopping.fault.stopDiscards = s.fault.stopDiscards ∧ s.stopping.framesInside = s.framesInside := by
  obtain ⟨hdiscards, hcycle⟩ := faultMessageRecord_collects hok
  have hseen := (faultMessageRecord s).fltStatus_sets (f := Fld.FLT_STATUS_FATAL_SEEN) ⟨rfl, by decide⟩
  have hnoted := (faultMessageRecord s).fltStatus_within Fld.FLT_STATUS_FATAL_SEEN
  obtain ⟨f, hf, hready⟩ : ∃ f : State, f = ((faultMessageRecord s).fltStatus Fld.FLT_STATUS_FATAL_SEEN).setFld Reg.GLB_STATUS
      Fld.GLB_STATUS_DEV_READY 0 ∧ f.flag Reg.GLB_STATUS Fld.GLB_STATUS_DEV_READY = false :=
    ⟨_, rfl, State.flag_setFld_zero _ _ ⟨rfl, by decide⟩⟩
  have hcleared : ((faultMessageRecord s).fltStatus Fld.FLT_STATUS_FATAL_SEEN).within f {Reg.GLB_STATUS} [.regs] :=
    hf ▸ State.setFld_within _ (Set.mem_singleton _) _ _
  have hseen' : f.flag Reg.FLT_STATUS Fld.FLT_STATUS_FATAL_SEEN = true := (hcleared.flag_eq (by decide) _).trans hseen
  have hframe : s.within f {a | a ∈ collectRegs ∨ a = Reg.GLB_STATUS} [.regs, .fault, .free] :=
    ((hcycle.mono (fun a ha => .inl ha) (by simp)).step hnoted (fun a ha => .inl (.inr ha))).step hcleared (fun a ha => .inr ha)
  have hdiscards' : f.fault.stopDiscards = s.fault.stopDiscards := by
    rw [hcleared.2.2 .fault (by decide), hnoted.2.2 .fault (by decide), hdiscards]
  obtain ⟨t, ht, hregs, hstopped, hkept, hfault⟩ : ∃ t : State, s.stopping = t ∧ (∀ a, t.reg a = f.reg a) ∧ t.fault.stopped = true
      ∧ t.fault.stopDiscards = f.fault.stopDiscards ∧ f.onlyParts t [.fault] := by
    refine ⟨{ f with fault := { f.fault with stopped := true } }, ?_, fun _ => rfl, rfl, rfl, f.setFault_only _⟩
    rw [hf]
    rfl
  rw [ht]
  have hcfg : Reg.FLT_CFG ∉ {a | a ∈ collectRegs ∨ a = Reg.GLB_STATUS} := by
    simp only [collectRegs, showRegs, Set.mem_ofPred_eq, Set.mem_insert_iff, Set.mem_singleton_iff]
    decide
  refine ⟨(State.flag_of_reg (hregs _) _).trans hseen', (State.flag_of_reg (hregs _) _).trans hready, funext fun g => ?_, hstopped,
    hkept.trans hdiscards', ?_⟩
  · exact (State.fld_of_reg (hregs _) g).trans (hframe.fld_eq hcfg g)
  · exact State.framesInside_eq (State.onlyParts_trans hframe.2 (State.onlyParts_mono hfault (by simp))) (by decide) (by decide) (by decide)

/-- Under the stop policy the device holds. -/
theorem fatalStop_holds {s : State} {cause : Nat} (hok : s.msgsOk) (hline : s.fault.fatalLine = some cause)
    (hrunning : s.fault.stopped = false) (hpolicy : s.flag Reg.FLT_CFG Fld.FLT_CFG_FATAL_POLICY = true) :
    (fatalStop s).fault.stopped = true ∧ (fatalStop s).flag Reg.FLT_FATAL_STATE Fld.FLT_FATAL_STATE_HOLDING = true
      ∧ (fatalStop s).flag Reg.FLT_STATUS Fld.FLT_STATUS_FATAL_SEEN = true
      ∧ (fatalStop s).flag Reg.GLB_STATUS Fld.GLB_STATUS_DEV_READY = false
      ∧ (fatalStop s).tm.queues = [] ∧ (fatalStop s).tm.relIn = []
      ∧ (fatalStop s).fault.stopDiscards = s.fault.stopDiscards + s.framesInside := by
  obtain ⟨hseen, hready, hcfg, hstopped, hdiscards, hinside⟩ := State.stopping_shows hok
  obtain ⟨hqueues, hrel, hfault, hemptied⟩ := s.stopping.discardInside_discards
  have heq : fatalStop s = (s.stopDevice cause).applyPolicy := by
    unfold fatalStop
    rw [hline]
    exact if_neg (by simp [hrunning])
  rw [heq, s.stopDevice_eq]
  rw [hdiscards, hinside] at hfault
  generalize s.stopping = p at *
  have hregs := hemptied.reg_eq (by decide)
  generalize p.discardInside = d at *
  obtain ⟨hbox, hboxRegs, hboxSeen⟩ := d.writeBox_rest cause
  have houtside {a : Nat} (ha : a ∉ collectRegs) (hjnl : ¬(0x10170 ≤ a ∧ a < 0x10270)) : (d.writeBox cause).reg a = p.reg a :=
    (hboxRegs a ha hjnl).trans (hregs a)
  have hnotCollect {a : Nat} (ha : a = Reg.FLT_CFG ∨ a = Reg.GLB_STATUS) : a ∉ collectRegs ∧ ¬(0x10170 ≤ a ∧ a < 0x10270) := by
    simp only [collectRegs, showRegs, Set.mem_ofPred_eq, Set.mem_insert_iff, Set.mem_singleton_iff]
    obtain rfl | rfl := ha <;> decide
  generalize d.writeBox cause = w at *
  have hhold : w.flag Reg.FLT_CFG Fld.FLT_CFG_FATAL_POLICY = true := by
    rw [← hpolicy, State.flag_of_reg (houtside (hnotCollect (.inl rfl)).1 (hnotCollect (.inl rfl)).2), State.flag, State.flag, hcfg]
  have happly : w.applyPolicy = w.setFld Reg.FLT_FATAL_STATE Fld.FLT_FATAL_STATE_HOLDING 1 :=
    if_neg (by simp [State.fatalPolicy, hhold])
  have hpart : w.onlyParts (w.setFld Reg.FLT_FATAL_STATE Fld.FLT_FATAL_STATE_HOLDING 1) [.regs] := w.setFld_rest _ _ _
  have hflag := w.flag_setFld_one Reg.FLT_FATAL_STATE (f := Fld.FLT_FATAL_STATE_HOLDING) ⟨rfl, by decide⟩
  have hother {a : Nat} (ha : a ≠ Reg.FLT_FATAL_STATE) (f : Fld) : (w.setFld Reg.FLT_FATAL_STATE Fld.FLT_FATAL_STATE_HOLDING 1).flag a f
      = w.flag a f := State.flag_setFld_other _ _ _ _ ha
  rw [happly]
  generalize w.setFld Reg.FLT_FATAL_STATE Fld.FLT_FATAL_STATE_HOLDING 1 = t at *
  have hfaults : t.fault = { p.fault with stopDiscards := s.fault.stopDiscards + s.framesInside } := by
    rw [hpart.2 .fault (by decide), hbox.2 .fault (by decide), hfault]
  have htm : t.tm = d.tm := (hpart.2 .tm (by decide)).trans (hbox.2 .tm (by decide))
  refine ⟨by rw [hfaults]; exact hstopped, hflag, ?_, ?_, by rw [htm]; exact hqueues, by rw [htm]; exact hrel, by rw [hfaults]⟩
  · exact (hother (by decide) _).trans (hboxSeen.trans ((State.flag_of_reg (hregs _) _).trans hseen))
  · exact (hother (by decide) _).trans
      ((State.flag_of_reg (houtside (hnotCollect (.inr rfl)).1 (hnotCollect (.inr rfl)).2) _).trans hready)

theorem fatalClear_clears {s : State} {m : Nat} (hsince : s.fault.runSince = some m)
    (hdue : m + 1000 * msTicks (s.fld Reg.FLT_CFG Fld.FLT_CFG_FATAL_CLEAR_S) ≤ s.clk.mono) :
    fatalClear s = s.setFld Reg.FLT_FATAL_STATE Fld.FLT_FATAL_STATE_RESETS 0 := by
  unfold fatalClear
  rw [hsince]
  exact if_neg (by omega)

/-- Settles O44. -/
theorem faultMessages : Obligations.FaultMessages := by
  refine ⟨fun s m hall hown hok htakes => ?_, fun s hdue => ?_, fun s m hm hcls htakes => ?_, fun s u code hu hup => ?_,
    fun s u code hu => ?_, fun s cause hok hline hrunning hpolicy => ?_, fun s m hsince hdue => ?_⟩
  · obtain ⟨hqueue, hring, hseq, hcount, hframe⟩ := faultMessageRecord_one hall hown hok htakes
    exact ⟨_, done_eq_next hframe (by decide), hqueue, hring, hseq, hcount, hframe⟩
  · have heq : corrTokenRefill s = { s with fault := { s.fault with
        tokens := min (s.fld Reg.FLT_CORR_RATE Fld.FLT_CORR_RATE_BURST) (s.fault.tokens + s.fld Reg.FLT_CORR_RATE Fld.FLT_CORR_RATE_RATE)
        tokensAt := s.fault.tokensAt + msTicks 1 } } := if_neg (by omega)
    exact done_eq_next_of_eq heq (s.setFault_only _) (by decide)
  · obtain ⟨hring, -, -, -, -, hframe⟩ := State.record_records true hcls (fun h => absurd h (by decide)) htakes
    have heq := inject_records hm hcls
    have hentry : s.entryTaken m true = s.ringEntryOf m s.fault.seq false true := rfl
    rw [hentry] at hring
    generalize s.record m true = r at *
    have hcount : r.reg (Reg.FLT_CNT Cnt.FLT_INJECTED) = s.reg (Reg.FLT_CNT Cnt.FLT_INJECTED) := hframe.1 _ (by
      simp only [takenRegs, noteRegs, showRegs, Set.mem_ofPred_eq, Set.mem_insert_iff, Set.mem_singleton_iff]
      decide)
    exact ⟨_, done_eq_next_of_eq heq (hframe.2.bump _) (by decide), hring, (State.reg_bump_self _ _).trans (congrArg (· + 1) hcount),
      hframe.2.bump _⟩
  · obtain ⟨src, heq⟩ := unitLogic_faults hu code.val s
    have hfenced := s.faultUnit_opens u.isLt hup src 0x031 code.val
    have hshown := (s.faultUnit u.val src 0x031 code.val).showUnits_within
    refine ⟨_, rfl, (State.unitState_of_reg ?_).trans hfenced⟩
    rw [← hshown.1 _ (fltUnit_not_show u.isLt), ← heq]
    rfl
  · have heq : unitLogic u.val code.val s = s.sendFault srcBuf 0x041 2 code.val := if_pos hu
    obtain ⟨hline, hframe⟩ := s.sendFault_fatal srcBuf 0x041 code.val
    exact ⟨_, done_eq_next_of_eq heq hframe (by decide), hline, hframe⟩
  · have hholds := fatalStop_holds hok hline hrunning hpolicy
    exact ⟨_, rfl, hholds⟩
  · have hframe : s.within (s.setFld Reg.FLT_FATAL_STATE Fld.FLT_FATAL_STATE_RESETS 0) {a | a ∈ [Reg.FLT_FATAL_STATE]} [.regs] :=
      (State.within.refl s _ _).setFld _ _ _ (by simp)
    exact ⟨_, done_eq_next_of_eq (fatalClear_clears hsince hdue) hframe.2 (by decide), State.fld_setFld_fits _ _ (by decide) (by decide),
      hframe.listed rfl, hframe.2⟩

end Sys2Proof.Machine
end

section
/-! PROOF. Time gates (R321 to R325): the commands of TMG.GCL_CMD, the take-over of a pending list, the entry in force. -/

namespace Sys2Proof.Machine

set_option Elab.async false

/-- The registers of the gates of a port: its GATE_STATUS. -/
def gateStatus (p : Nat) : Nat := Reg.TMG_GATE_STATUS (p / 128) (p % 128)

/-! ### The state's operations -/

theorem State.setGate_only (s : State) (p : Nat) (g : GateSt) :
    s.within (s.setGate p g) {a | a ∈ [gateStatus p]} [.regs, .tm] := by
  obtain ⟨t, ht, hstored⟩ : ∃ t : State, { s with tm := { s.tm with gates := Tbl.set GateSt.init s.tm.gates p g } } = t
      ∧ s.within t {a | a ∈ [gateStatus p]} [.regs, .tm] :=
    ⟨_, rfl, ((s.setTm_only _ [.tm]).within (by decide) _).parts (by simp)⟩
  unfold State.setGate
  dsimp only
  rw [ht]
  exact (((hstored.setFld _ _ _ List.mem_cons_self).setFld _ _ _ List.mem_cons_self).setFld _ _ _ List.mem_cons_self).setFld _ _ _
    List.mem_cons_self

theorem State.setGate_pending (s : State) (p : Nat) (g : GateSt) :
    (s.setGate p g).flag (gateStatus p) Fld.TMG_GATE_STATUS_PENDING = g.pending.isSome := by
  unfold State.setGate
  dsimp only
  generalize { s with tm := { s.tm with gates := Tbl.set GateSt.init s.tm.gates p g } } = t
  generalize (match g.active with | none => 0 | some l => l.len) = n
  exact (State.flag_setFld_disjoint _ _ _ (by decide)).trans ((State.flag_setFld_disjoint _ _ _ (by decide)).trans
    (State.flag_setFld_bit _ _ ⟨rfl, by decide⟩ _))

theorem State.showGate_shows (s : State) (p : Nat) :
    (s.showGate p).fld (gateStatus p) Fld.TMG_GATE_STATUS_OPEN = (s.gateNow p).2 % 256
      ∧ (s.showGate p).fld (gateStatus p) Fld.TMG_GATE_STATUS_CUR_ENTRY = (s.gateNow p).1 % 2 ^ Fld.TMG_GATE_STATUS_CUR_ENTRY.len
      ∧ s.within (s.showGate p) {a | a ∈ [gateStatus p]} [.regs] := by
  unfold State.showGate
  dsimp only
  generalize s.gateNow p = x
  exact ⟨State.fld_setFld_self _ _ _ _ (by decide),
    (State.fld_setFld_disjoint _ _ _ (by decide)).trans (State.fld_setFld_self _ _ _ _ (by decide)),
    ((State.within.refl s _ _).setFld _ _ _ List.mem_cons_self).setFld _ _ _ List.mem_cons_self⟩

/-- The command's fields shown in GCL_CMD. -/
theorem State.gclSelect_within (s : State) (p entry bank : Nat) :
    s.within (s.gclSelect p entry bank) {a | a ∈ [Reg.TMG_GCL_CMD (p / 128)]} [.regs] :=
  (((State.within.refl s _ _).setFld _ _ _ List.mem_cons_self).setFld _ _ _ List.mem_cons_self).setFld _ _ _ List.mem_cons_self

theorem State.gclRefuse_shows (s : State) (q : Nat) {code : Nat} (h : code < 16) :
    (s.gclRefuse q code).fld (Reg.TMG_GCL_CMD q) Fld.TMG_GCL_CMD_ERR_CODE = code
      ∧ s.within (s.gclRefuse q code) {a | a ∈ [Reg.TMG_GCL_CMD q, Reg.TMG_SCH_STATUS q]} [.regs] := by
  refine ⟨(State.fld_setFld_other _ _ _ _ _ _ (by simp only [Reg.TMG_GCL_CMD, Reg.TMG_SCH_STATUS]; omega)).trans
    (State.fld_setFld_fits _ _ (by decide) h), ?_⟩
  exact (((State.within.refl s _ _).setFld _ _ _ (by simp)).setFld _ _ _ (by simp)).setFld _ _ _ (by simp)

/-- What a port's commands select stands elsewhere than their own register. -/
theorem State.gclSelect_rate (s : State) (p entry bank : Nat) : (s.gclSelect p entry bank).rate p = s.rate p := by
  have hreg : (s.gclSelect p entry bank).reg (Reg.PRT_CTL (p / 2)) = s.reg (Reg.PRT_CTL (p / 2)) :=
    (s.gclSelect_within p entry bank).reg_kept _ (by simp only [List.mem_singleton, Reg.TMG_GCL_CMD, Reg.PRT_CTL]; omega)
  rw [State.rate, State.rate, State.mode, State.mode, State.fld_of_reg hreg]

theorem State.gclSelect_gate (s : State) (p q entry bank : Nat) : (s.gclSelect p entry bank).gate q = s.gate q :=
  State.gate_of_tm ((s.gclSelect_within p entry bank).2.2 .tm (by decide)) q

/-! ### READ and WRITE -/

theorem gclRead_shows (p entry bank : Nat) (s : State) :
    (gclRead p entry bank s).fld (Reg.TMG_GCL_DATA (p / 128)) Fld.TMG_GCL_DATA_GATES = Tbl.get 0 s.tm.gcl (gclKey p bank entry) % 256
      ∧ (gclRead p entry bank s).fld (Reg.TMG_GCL_DATA (p / 128)) Fld.TMG_GCL_DATA_INTERVAL_NS
        = (Tbl.get 0 s.tm.gcl (gclKey p bank entry) / 256) % 2 ^ Fld.TMG_GCL_DATA_INTERVAL_NS.len
      ∧ s.within (gclRead p entry bank s) {a | a ∈ [Reg.TMG_GCL_CMD (p / 128), Reg.TMG_GCL_DATA (p / 128)]} [.regs] := by
  have hselect := s.gclSelect_within p entry bank
  have htm : (s.gclSelect p entry bank).tm = s.tm := hselect.2.2 .tm (by decide)
  unfold gclRead
  dsimp only
  rw [htm]
  generalize s.gclSelect p entry bank = t at *
  generalize Tbl.get 0 s.tm.gcl (gclKey p bank entry) = x
  refine ⟨(State.fld_setFld_disjoint _ _ _ (by decide)).trans (State.fld_setFld_fits _ _ (by decide) (Nat.mod_lt _ (by decide))),
    State.fld_setFld_self _ _ _ _ (by decide), ?_⟩
  have hselected : s.within t {a | a ∈ [Reg.TMG_GCL_CMD (p / 128), Reg.TMG_GCL_DATA (p / 128)]} [.regs] :=
    hselect.mono (fun a ha => List.mem_cons.2 (.inl (List.mem_singleton.1 ha))) (by simp)
  exact (hselected.setFld _ _ _ (by simp)).setFld _ _ _ (by simp)

/-- A command's port may have a list armed, and no list waits. -/
structure State.gclFree (s : State) (p : Nat) : Prop where
  port : p < 512
  rate : s.rate p ≠ 0
  pending : (s.gate p).pending = none

theorem gclWrite_stores {s : State} {p bank : Nat} (h : s.gclFree p) (hbank : (s.gate p).active = none ∨ bank ≠ (s.gate p).bank)
    (entry : Nat) :
    Tbl.get 0 (gclWrite p entry bank s).tm.gcl (gclKey p (1 - (s.gate p).bank) entry)
        = s.fld (Reg.TMG_GCL_DATA (p / 128)) Fld.TMG_GCL_DATA_GATES
          + 256 * s.fld (Reg.TMG_GCL_DATA (p / 128)) Fld.TMG_GCL_DATA_INTERVAL_NS
      ∧ s.within (gclWrite p entry bank s) {a | a ∈ [Reg.TMG_GCL_CMD (p / 128)]} [.regs, .tm] := by
  have hselect := s.gclSelect_within p entry bank
  have hrate := s.gclSelect_rate p entry bank
  have hgate := s.gclSelect_gate p p entry bank
  have hdata (f : Fld) : (s.gclSelect p entry bank).fld (Reg.TMG_GCL_DATA (p / 128)) f = s.fld (Reg.TMG_GCL_DATA (p / 128)) f :=
    hselect.fld_kept _ f (by simp only [List.mem_singleton, Reg.TMG_GCL_CMD, Reg.TMG_GCL_DATA]; omega)
  unfold gclWrite
  dsimp only
  rw [hrate, hgate, hdata, hdata, if_neg h.rate, if_neg (by simp [h.pending]),
    if_neg (fun hc => hbank.elim (fun hb => by simp [hb] at hc) fun hb => hb hc.2)]
  generalize s.gclSelect p entry bank = t at *
  exact ⟨by simp, (hselect.parts (by simp)).rest (t.setTm_only _ [.tm]) (by decide)⟩

/-! ### ARM, CANCEL and DISABLE -/

section
variable {s : State} {p : Nat} (h : s.gclFree p) {len start : Nat}
  (hlen : len = s.fld (Reg.TMG_GCL_ARM (p / 128)) Fld.TMG_GCL_ARM_LEN)
  (hstart : start = s.fld (Reg.TMG_GCL_TIME_SEC (p / 128)) Fld.TMG_GCL_TIME_SEC_SEC * 1000000000
    + s.fld (Reg.TMG_GCL_TIME_NS (p / 128)) Fld.TMG_GCL_TIME_NS_NS)
  (hahead : s.clk.fine + 1000 * 4294967296 ≤ start * 4294967296)
  (hlength : listLengthOk (s.gateEntries p (1 - (s.gate p).bank) len) = true)
  (hruns : listRunsOk (s.gateEntries p (1 - (s.gate p).bank) len)
      (s.gateMin p (s.fld (Reg.PRT_MTU (p / 2) (p % 2)) Fld.PRT_MTU_MAX_FRAME)
        (s.fld (Reg.TMG_GATE_CFG (p / 128) (p % 128)) Fld.TMG_GATE_CFG_GUARD_NS)) = true)
include h hlen hstart hahead hlength hruns

theorem gclArm_arms : ∃ t : State, gclArm p s
      = t.setGate p { s.gate p with pending := some { bank := 1 - (s.gate p).bank, len := len, start := start } }
    ∧ s.within t {a | a ∈ [Reg.TMG_GCL_CMD (p / 128)]} [.regs] := by
  obtain ⟨t, ht, hselect, hrate, hgate⟩ : ∃ t : State, s.gclSelect p (s.fld (Reg.TMG_GCL_CMD (p / 128)) Fld.TMG_GCL_CMD_ENTRY)
        (s.fld (Reg.TMG_GCL_CMD (p / 128)) Fld.TMG_GCL_CMD_BANK) = t
      ∧ s.within t {a | a ∈ [Reg.TMG_GCL_CMD (p / 128)]} [.regs] ∧ t.rate p = s.rate p ∧ t.gate p = s.gate p :=
    ⟨_, rfl, s.gclSelect_within _ _ _, s.gclSelect_rate _ _ _, s.gclSelect_gate _ _ _ _⟩
  have htm : t.tm = s.tm := hselect.2.2 .tm (by decide)
  have hclk : t.clk = s.clk := hselect.2.2 .clk (by decide)
  have hentries (b n : Nat) : t.gateEntries p b n = s.gateEntries p b n := by rw [State.gateEntries, State.gateEntries, htm]
  have hmin (m g : Nat) : t.gateMin p m g = s.gateMin p m g := by rw [State.gateMin, State.gateMin, hrate]
  have hkept {a : Nat} (f : Fld) (ha : a ≠ Reg.TMG_GCL_CMD (p / 128)) : t.fld a f = s.fld a f :=
    hselect.fld_kept a f (by simpa using ha)
  have harm := hkept (a := Reg.TMG_GCL_ARM (p / 128)) Fld.TMG_GCL_ARM_LEN (by simp only [Reg.TMG_GCL_ARM, Reg.TMG_GCL_CMD]; omega)
  have hsec := hkept (a := Reg.TMG_GCL_TIME_SEC (p / 128)) Fld.TMG_GCL_TIME_SEC_SEC
    (by simp only [Reg.TMG_GCL_TIME_SEC, Reg.TMG_GCL_CMD]; omega)
  have hns := hkept (a := Reg.TMG_GCL_TIME_NS (p / 128)) Fld.TMG_GCL_TIME_NS_NS
    (by simp only [Reg.TMG_GCL_TIME_NS, Reg.TMG_GCL_CMD]; omega)
  have hport := h.port
  have hmtu := hkept (a := Reg.PRT_MTU (p / 2) (p % 2)) Fld.PRT_MTU_MAX_FRAME (by simp only [Reg.PRT_MTU, Reg.TMG_GCL_CMD]; omega)
  have hguard := hkept (a := Reg.TMG_GATE_CFG (p / 128) (p % 128)) Fld.TMG_GATE_CFG_GUARD_NS
    (by simp only [Reg.TMG_GATE_CFG, Reg.TMG_GCL_CMD]; omega)
  refine ⟨t, ?_, hselect⟩
  unfold gclArm
  dsimp only
  rw [ht, harm, hsec, hns, hmtu, hguard, hgate, hrate, hclk, hmin, hentries, ← hlen, ← hstart, if_neg h.rate, if_neg (by simp [h.pending]),
    if_neg (by omega), if_neg (by simp [hlength]), if_neg (by simp [hruns])]

end

/-- A second ARM is refused. -/
theorem gclArm_refuses {s : State} {p : Nat} (hrate : s.rate p ≠ 0) (hpending : (s.gate p).pending.isSome = true) :
    ∃ t : State, gclArm p s = (t.gclRefuse (p / 128) 3).bump (Reg.TMG_SCH_CNT (p / 128) Cnt.TSCH_GCL_ARM_REJECTS)
      ∧ s.within t {a | a ∈ [Reg.TMG_GCL_CMD (p / 128)]} [.regs] := by
  obtain ⟨t, ht, hselect, hrate', hgate⟩ : ∃ t : State, s.gclSelect p (s.fld (Reg.TMG_GCL_CMD (p / 128)) Fld.TMG_GCL_CMD_ENTRY)
        (s.fld (Reg.TMG_GCL_CMD (p / 128)) Fld.TMG_GCL_CMD_BANK) = t
      ∧ s.within t {a | a ∈ [Reg.TMG_GCL_CMD (p / 128)]} [.regs] ∧ t.rate p = s.rate p ∧ t.gate p = s.gate p :=
    ⟨_, rfl, s.gclSelect_within _ _ _, s.gclSelect_rate _ _ _, s.gclSelect_gate _ _ _ _⟩
  refine ⟨t, ?_, hselect⟩
  unfold gclArm
  dsimp only
  rw [ht, hrate', hgate, if_neg hrate, if_pos hpending]

theorem State.gateDisable_shows (s : State) (p : Nat) :
    (s.gateDisable p).fld (gateStatus p) Fld.TMG_GATE_STATUS_OPEN = 255
      ∧ s.within (s.gateDisable p) {a | a ∈ [gateStatus p]} [.regs, .tm] := by
  obtain ⟨t, ht, hgate, hset⟩ : ∃ t : State, s.setGate p { active := none, pending := none, bank := (s.gate p).bank } = t
      ∧ t.gate p = { active := none, pending := none, bank := (s.gate p).bank }
      ∧ s.within t {a | a ∈ [gateStatus p]} [.regs, .tm] :=
    ⟨_, rfl, by rw [State.gate_setGate, if_pos rfl], s.setGate_only _ _⟩
  obtain ⟨hopen, -, hshown⟩ := t.showGate_shows p
  have hnow : t.gateNow p = (0, 0xFF) := by rw [State.gateNow, hgate]
  unfold State.gateDisable
  dsimp only
  rw [ht]
  exact ⟨hopen.trans (by rw [hnow]; rfl), hset.step hshown⟩

/-! ### The take-over -/

theorem State.gateTakeover_takes {s : State} {p : Nat} {l : GateList} (hpending : (s.gate p).pending = some l)
    (hdue : (l.start : Int) * 4294967296 ≤ s.wireTime p) :
    (s.gateTakeover p).gate p = { active := some l, pending := none, bank := l.bank }
      ∧ (s.gateTakeover p).reg (Reg.TMG_SCH_CNT (p / 128) Cnt.TSCH_GCL_TAKEOVERS)
        = s.reg (Reg.TMG_SCH_CNT (p / 128) Cnt.TSCH_GCL_TAKEOVERS) + 1
      ∧ s.within (s.gateTakeover p) {a | a ∈ [Reg.TMG_SCH_CNT (p / 128) Cnt.TSCH_GCL_TAKEOVERS, gateStatus p]} [.regs, .tm] := by
  obtain ⟨t, ht, hgate, hset⟩ : ∃ t : State, s.setGate p { active := some l, pending := none, bank := l.bank } = t
      ∧ t.gate p = { active := some l, pending := none, bank := l.bank } ∧ s.within t {a | a ∈ [gateStatus p]} [.regs, .tm] :=
    ⟨_, rfl, by rw [State.gate_setGate, if_pos rfl], s.setGate_only _ _⟩
  obtain ⟨-, -, hshown⟩ := t.showGate_shows p
  have hcount : Reg.TMG_SCH_CNT (p / 128) Cnt.TSCH_GCL_TAKEOVERS ∉ [gateStatus p] := by
    simp only [List.mem_singleton, gateStatus, Reg.TMG_SCH_CNT, Reg.TMG_GATE_STATUS, Cnt.TSCH_GCL_TAKEOVERS]
    omega
  have heq : s.gateTakeover p = (t.showGate p).bump (Reg.TMG_SCH_CNT (p / 128) Cnt.TSCH_GCL_TAKEOVERS) := by
    unfold State.gateTakeover
    dsimp only
    rw [hpending]
    dsimp only
    rw [if_pos hdue, ht]
  have hgate' : (t.showGate p).gate p = t.gate p := State.gate_of_tm (t.showGate_tm p) p
  rw [heq]
  generalize t.showGate p = u at *
  refine ⟨hgate'.trans hgate, ?_, ?_⟩
  · exact (State.reg_bump_self _ _).trans (congrArg (· + 1) ((hshown.1 _ hcount).trans (hset.1 _ hcount)))
  · exact ((hset.step hshown).mono (fun a ha => List.mem_cons.2 (.inr ha)) (by simp)).bump _ List.mem_cons_self

/-- Settles O36. -/
theorem timeGates : Obligations.TimeGates := by
  refine ⟨fun s p n b => ?_, fun s p n b hrate hpending hbank => ?_,
    fun s p len start hrate hpending hlen hstart hahead hlength hruns => ?_, fun s p hrate hpending => ?_, fun s p => ?_, fun s p => ?_,
    fun s p l hpending hdue => ?_, fun s p => ?_⟩
  · obtain ⟨hgates, hinterval, hframe⟩ := gclRead_shows p.val n.val b.val s
    exact ⟨_, done_eq_next hframe.2 (by decide), hgates, hinterval, hframe.listed rfl, hframe.2⟩
  · obtain ⟨hstored, hframe⟩ := gclWrite_stores ⟨p.isLt, hrate, hpending⟩ hbank n.val
    exact ⟨_, done_eq_next hframe.2 (by decide), hstored, hframe.listed rfl, hframe.2⟩
  · obtain ⟨t, heq, hselect⟩ := gclArm_arms ⟨p.isLt, hrate, hpending⟩ hlen hstart hahead hlength hruns
    have hset := t.setGate_only p.val { s.gate p.val with pending := some { bank := 1 - (s.gate p.val).bank, len := len, start := start } }
    have hframe : s.within _ {a | a ∈ [Reg.TMG_GCL_CMD (p.val / 128), gateStatus p.val]} [.regs, .tm] :=
      (hselect.mono (fun a ha => List.mem_cons.2 (.inl (List.mem_singleton.1 ha))) (by simp)).step hset
        (fun a ha => List.mem_cons.2 (.inr ha))
    refine ⟨_, done_eq_next_of_eq heq hframe.2 (by decide), ?_, (t.setGate_pending _ _).trans rfl, hframe.listed rfl, hframe.2⟩
    rw [State.gate_setGate, if_pos rfl]
  · obtain ⟨t, heq, hselect⟩ := gclArm_refuses hrate hpending
    obtain ⟨hcode, hrefused⟩ := t.gclRefuse_shows (p.val / 128) (code := 3) (by decide)
    have hcount : Reg.TMG_SCH_CNT (p.val / 128) Cnt.TSCH_GCL_ARM_REJECTS ∉ [Reg.TMG_GCL_CMD (p.val / 128), Reg.TMG_SCH_STATUS (p.val / 128)] := by
      simp only [List.mem_cons, List.not_mem_nil, or_false, Reg.TMG_SCH_CNT, Reg.TMG_GCL_CMD, Reg.TMG_SCH_STATUS, Cnt.TSCH_GCL_ARM_REJECTS]
      omega
    generalize t.gclRefuse (p.val / 128) 3 = r at *
    have hframe := (State.onlyParts_trans hselect.2 hrefused.2).bump (Reg.TMG_SCH_CNT (p.val / 128) Cnt.TSCH_GCL_ARM_REJECTS)
    refine ⟨_, done_eq_next_of_eq heq hframe (by decide), ?_, ?_, hframe⟩
    · exact (State.fld_bump_other _ _ (by simp only [Reg.TMG_SCH_CNT, Reg.TMG_GCL_CMD]; omega)).trans hcode
    · refine (State.reg_bump_self _ _).trans (congrArg (· + 1) ((hrefused.1 _ hcount).trans (hselect.1 _ fun h => hcount ?_)))
      exact List.mem_cons.2 (.inl (List.mem_singleton.1 h))
  · have hframe := s.setGate_only p.val { s.gate p.val with pending := none }
    have hgate := s.gate_setGate p.val p.val { s.gate p.val with pending := none }
    rw [if_pos rfl] at hgate
    exact ⟨_, done_eq_next hframe.2 (by decide), hgate, hframe.listed rfl, hframe.2⟩
  · obtain ⟨hopen, hframe⟩ := s.gateDisable_shows p.val
    have hgate := s.gate_gateDisable p.val p.val
    rw [if_pos rfl] at hgate
    exact ⟨_, done_eq_next hframe.2 (by decide), by rw [hgate], by rw [hgate], hopen, hframe.listed rfl, hframe.2⟩
  · obtain ⟨hgate, hcount, hframe⟩ := State.gateTakeover_takes hpending hdue
    exact ⟨_, done_eq_next hframe.2 (by decide), hgate, hcount, hframe.listed rfl, hframe.2⟩
  · obtain ⟨hopen, hentry, hframe⟩ := s.showGate_shows p.val
    have hports (q : Nat) : (s.showGate p.val).port q = s.port q :=
      congrArg (fun l => Tbl.get PortSt.init l q) (hframe.2.2 .ports (by decide))
    exact ⟨_, done_eq_next hframe.2 (by decide), hopen, hentry, hframe.listed rfl, fun q _ => hports q,
      State.onlyParts_mono hframe.2 (by simp)⟩

end Sys2Proof.Machine
end

section
/-! PROOF. The bytes that a frame sends depend on no port and on no counter (R318, R323, R329): what the gates are asked about a head
frame, and where device memory is read for it. -/

namespace Sys2Proof.Machine

set_option Elab.async false

/-! ### Lines read again -/

/-- Every line of device memory reads in `t` as in `s`. -/
def State.readsAs (s t : State) : Prop := ∀ l, t.lineRead l .ok = s.lineRead l .ok

theorem State.readsAs.trans {s t u : State} (a : s.readsAs t) (b : t.readsAs u) : s.readsAs u := fun l => (b l).trans (a l)

/-- A read without an error answers the line unless its rank or it is lost. -/
theorem State.lineRead_ok (s : State) (l : Nat) : s.lineRead l .ok = match s.locate l with
    | none => none
    | some a => if s.rankDead a || s.poisoned l then none else some (s.lineBytes l) := by
  unfold State.lineRead
  cases s.locate l with
  | none => rfl
  | some a => simp

theorem State.readsAs_of {s t : State} (hat : ∀ l, t.locate l = s.locate l) (hdead : ∀ a : LineAt, a.ch < 12 → t.rankDead a = s.rankDead a)
    (hpoison : ∀ l, t.poisoned l = s.poisoned l) (hbytes : ∀ l, t.lineBytes l = s.lineBytes l) : s.readsAs t := by
  intro l
  rw [State.lineRead_ok, State.lineRead_ok, hat, hpoison, hbytes]
  cases hl : s.locate l with
  | none => rfl
  | some a =>
    dsimp only
    rw [hdead a (State.locate_ch hl)]

theorem State.queueStep.readsAs {s t : State} (h : s.queueStep t) : s.readsAs t :=
  State.readsAs_of h.locate (fun _ ha => h.rankDead ha) h.poisoned h.lineBytes

/-- LOST_SEEN of DMC.STATUS says nothing of where a line lies, nor of what it holds. -/
theorem State.setLostSeen_readsAs (s : State) (c x : Nat) :
    s.readsAs (s.setFld (Reg.DMC_STATUS c) Fld.DMC_STATUS_LOST_SEEN x) := by
  obtain ⟨t, ht⟩ : ∃ t, t = s.setFld (Reg.DMC_STATUS c) Fld.DMC_STATUS_LOST_SEEN x := ⟨_, rfl⟩
  rw [← ht]
  have hreg {a : Nat} (h : a ≠ Reg.DMC_STATUS c) : t.reg a = s.reg a := ht ▸ State.reg_setFld_other _ _ _ h
  have hout (d : Nat) : t.fld (Reg.DMC_STATUS d) Fld.DMC_STATUS_RANK_OUT = s.fld (Reg.DMC_STATUS d) Fld.DMC_STATUS_RANK_OUT := by
    by_cases h : Reg.DMC_STATUS d = Reg.DMC_STATUS c
    · rw [h, ht]
      exact State.fld_setFld_apart _ _ _ _ _ (by unfold Fld.apart; decide)
    · exact State.fld_of_reg (hreg h) _
  have hpop (d : Nat) : t.reg (Reg.DMC_POP d) = s.reg (Reg.DMC_POP d) := hreg (by simp only [Reg.DMC_POP, Reg.DMC_STATUS]; omega)
  have hmig (d : Nat) (f : Fld) : t.fld (Reg.DMC_MIG d) f = s.fld (Reg.DMC_MIG d) f :=
    State.fld_of_reg (hreg (by simp only [Reg.DMC_MIG, Reg.DMC_STATUS]; omega)) f
  have hspace : t.space = s.space := State.fld_of_reg (hreg (by simp only [Reg.DMC_SPACE, Reg.DMC_STATUS]; omega)) _
  have hrl (d : Nat) : t.rlLog d = s.rlLog d := by simp only [State.rlLog, State.fld_of_reg (hpop d)]
  have hdram : t.dram = s.dram := by rw [ht]; rfl
  refine State.readsAs_of (fun l => ?_) (fun a ha => ?_) (fun l => ?_) (fun l => ?_)
  · simp only [State.locate, hspace, State.channels_of_pop hpop, hrl]
  · have hdown : t.down (unitDmc a.ch) = s.down (unitDmc a.ch) := by
      rw [State.down, State.down, State.unitState_of_reg (hreg (by simp only [Reg.FLT_UNIT, unitDmc, Reg.DMC_STATUS]; omega))]
    have hspare : t.bySpare a = s.bySpare a := by
      unfold State.bySpare State.migState State.migSrc State.sub
      rw [hdram, hmig, hmig]
    simp only [State.rankDead, hdown, hspare, State.rankOut, State.migState, State.migSrc, State.migDst, hout, hmig]
  · rw [State.poisoned, State.poisoned, hdram]
  · rw [State.lineBytes, State.lineBytes, hdram]

/-- A read leaves what the next one finds. -/
theorem State.dramRead_readsAs (s : State) (l : Nat) : s.readsAs (s.dramRead l true .ok).2 := by
  unfold State.dramRead
  split
  · exact fun _ => rfl
  · next a hat =>
    have ha := State.locate_ch hat
    simp only [State.bgCount, if_true]
    split
    · exact (s.dmcBump_queueStep ha (by decide)).readsAs.trans (State.setLostSeen_readsAs _ _ _)
    · split
      · exact (s.dmcBump_queueStep ha (by decide)).readsAs
      · exact (((s.finishDrain_queueStep ha a.sub).trans (State.dmcBump_queueStep _ ha (by decide))).trans
          (State.rowTouchIn_queueStep _ ha _)).readsAs

/-- The bytes of device memory that reads of `read` deliver, line by line. -/
def readBytes (read : Nat → Option (List Byte)) (addr : Nat) : Nat → Nat → List Byte
  | 0, _ => []
  | _, 0 => []
  | n + 1, len =>
    let k := min len (64 - addr % 64)
    (match read (addr / 64) with | none => List.replicate k 0#8 | some b => (b.drop (addr % 64)).take k)
      ++ readBytes read (addr + k) n (len - k)

theorem State.dramBytes_reads (s : State) (addr n len : Nat) :
    (s.dramBytes addr true n len).1 = readBytes (fun l => s.lineRead l .ok) addr n len := by
  induction n generalizing s addr len with
  | zero => rfl
  | succ n ih =>
    cases len with
    | zero => rfl
    | succ len =>
      have hkept : (fun l => (s.dramRead (addr / 64) true .ok).2.lineRead l .ok) = fun l => s.lineRead l .ok :=
        funext (s.dramRead_readsAs _)
      simp only [State.dramBytes, readBytes]
      rw [ih, hkept, State.dramRead_answer] <;> rfl

theorem State.dramBytes_empties (s : State) (addr n len : Nat) : s.empties (s.dramBytes addr true n len).2.2 := by
  induction n generalizing s addr len with
  | zero => exact .refl s
  | succ n ih =>
    cases len with
    | zero => exact .refl s
    | succ len => exact (s.dramRead_empties _ _).trans (ih _ _ _)

theorem State.bufRead_empties (s : State) (x len : Nat) : s.empties (s.bufRead x len).2.2 := by
  unfold State.bufRead
  split
  · exact .refl s
  · exact s.dramBytes_empties _ _ _

/-! ### What a frame to send depends on -/

/-- The registers that the start of a frame moves: the capture's, and the TMs'. -/
def sentRegs : Set Nat := {a | 0x5000000 ≤ a ∨ ∃ p < 512, a = cntPort p Cnt.PRT_TXTS_OVERFLOW ∨ a = Reg.PRT_TXTS_CTL (p / 2) (p % 2)}

/-- A step of the scheduler that counts, captures and changes ports alone. -/
def State.outStep (s t : State) : Prop := s.within t sentRegs [.regs, .ports]

theorem State.outStep.refl (s : State) : s.outStep s := State.within.refl s _ _

theorem State.outStep.trans {s t u : State} (a : s.outStep t) (b : t.outStep u) : s.outStep u := State.within.trans a b

theorem prtCtl_not_sent {n : Nat} (hn : n < 256) : Reg.PRT_CTL n ∉ sentRegs := by
  rintro (h | ⟨p, hp, h | h⟩) <;>
    simp only [Reg.PRT_CTL, cntPort, Reg.PRT_CNT, Cnt.PRT_TXTS_OVERFLOW, Reg.PRT_TXTS_CTL] at h <;> omega

theorem prtTsAdj_not_sent {p : Nat} (hp : p < 512) : Reg.PRT_TS_ADJ (p / 2) (p % 2) ∉ sentRegs := by
  rintro (h | ⟨r, hr, h | h⟩) <;>
    simp only [Reg.PRT_TS_ADJ, cntPort, Reg.PRT_CNT, Cnt.PRT_TXTS_OVERFLOW, Reg.PRT_TXTS_CTL] at h <;> omega

theorem prtStatus_not_sent {p : Nat} (hp : p < 512) : Reg.PRT_STATUS (p / 2) ∉ sentRegs := by
  rintro (h | ⟨r, hr, h | h⟩) <;>
    simp only [Reg.PRT_STATUS, cntPort, Reg.PRT_CNT, Cnt.PRT_TXTS_OVERFLOW, Reg.PRT_TXTS_CTL] at h <;> omega

/-- The ingress port of a parse summary is one of the chip's. -/
theorem sumInPort_lt (w : BitVec 128) : sumGet w sumInPort < 512 := Nat.mod_lt _ (by decide)

section
variable {s t : State} (h : s.outStep t)
include h

theorem State.outStep.clk : t.clk = s.clk := h.2.clk_eq (by decide)

theorem State.outStep.tm : t.tm = s.tm := h.2.2 .tm (by decide)

theorem State.outStep.buf : t.buf = s.buf := h.2.2 .buf (by decide)

theorem State.outStep.pools : t.pools = s.pools := h.2.2 .pools (by decide)

theorem State.outStep.rate {p : Nat} (hp : p < 512) : t.rate p = s.rate p := by
  rw [State.rate, State.rate, State.mode, State.mode, h.fld_eq (prtCtl_not_sent (by omega))]

theorem State.outStep.wireTime {p : Nat} (hp : p < 512) : t.wireTime p = s.wireTime p := by
  rw [State.wireTime, State.wireTime, h.clk, h.rate hp, h.fld_eq (prtTsAdj_not_sent hp)]

theorem State.outStep.residence {p : Nat} (hp : p < 512) (d : Desc) : t.residence p d = s.residence p d := by
  unfold State.residence
  dsimp only
  rw [h.clk, h.rate hp, h.rate (sumInPort_lt _), h.fld_eq (prtTsAdj_not_sent hp),
    h.fld_eq (prtTsAdj_not_sent (sumInPort_lt _))]

end

/-- The scheduler's counters of the four TMs. -/
def waitRegs : Set Nat := {a | ∃ q < 4, ∃ i < 32, a = Reg.TMG_SCH_CNT q i}

/-- A step that counts gate waits and changes ports alone. -/
def State.waitStep (s t : State) : Prop := s.within t waitRegs [.regs, .ports]

section
variable {s t : State} (h : s.waitStep t)
include h

theorem State.waitStep.out : s.outStep t := h.mono (by
    rintro _ ⟨q, hq, i, hi, rfl⟩
    exact .inl (by simp only [Reg.TMG_SCH_CNT]; omega)) (by simp)

theorem State.waitStep.reg_low (a : Nat) (ha : a ∈ lowRegs) : t.reg a = s.reg a :=
  h.1 a (by
    rintro ⟨q, hq, i, hi, rfl⟩
    simp only [mem_lowRegs, Reg.TMG_SCH_CNT] at ha
    omega)

/-- A pool buffer reads the same. -/
theorem State.waitStep.bufRead (x len : Nat) : (t.bufRead x len).1 = (s.bufRead x len).1 := by
  have hlines : (fun l => t.lineRead l .ok) = fun l => s.lineRead l .ok := funext fun l => by
    rw [← State.dramRead_answer, ← State.dramRead_answer, State.dramRead_congr h.reg_low (h.2.2 .dram (by decide))]
  have hpool := ptrPool_lt x
  have hbase := h.reg_low (Reg.BPM_BUF_BASE (ptrPool x)) (by simp only [mem_lowRegs, Reg.BPM_BUF_BASE]; omega)
  have hcfg : t.poolSize (ptrPool x) = s.poolSize (ptrPool x) :=
    State.fld_of_reg (h.reg_low _ (by simp only [mem_lowRegs, Reg.BPM_POOL_CFG]; omega)) _
  unfold State.bufRead
  split
  · rw [h.out.pools]
  · rw [State.dramBytes_reads, State.dramBytes_reads, hlines, hbase, hcfg]

end

/-! ### The bytes that a copy sends -/

theorem State.chain_congr {s t : State} (h : t.buf = s.buf) (head n : Nat) : t.chain head n = s.chain head n := by
  induction n using Nat.strongRecOn generalizing head with
  | ind n ih =>
    match n with
    | 0 => rfl
    | 1 => rfl
    | n + 2 => rw [State.chain, State.chain, h, ih (n + 1) (by omega)]

theorem State.frameBytes_congr {s t : State} (h : t.buf = s.buf) (head cnt len : Nat) :
    t.frameBytes head cnt len = s.frameBytes head cnt len := by
  rw [State.frameBytes, State.frameBytes, State.chain_congr h, h]

theorem State.waitStep.bodyBytes {s t : State} (h : s.waitStep t) (c : Copy) : (t.bodyBytes c .ok).1 = (s.bodyBytes c .ok).1 := by
  unfold State.bodyBytes State.readEcc
  split
  · exact (congrArg (fun l : List Nat => t.frameBytes _ _ (min (256 * min _ l.length) _)) (State.chain_congr h.out.buf _ _)).trans
      (State.frameBytes_congr h.out.buf _ _ _)
  · exact State.frameBytes_congr h.out.buf _ _ _
  · exact h.bufRead _ _

/-- The edited frame depends on the next hops alone. -/
theorem State.outStep.editFrame {s t : State} (h : s.outStep t) (q : Nat) (c : Copy) (b : List Byte) :
    (t.editFrame q c b).1 = (s.editFrame q c b).1 := by
  have hentry (i : Nat) : t.nhEntry q i = s.nhEntry q i := by
    unfold State.nhEntry State.nextHop
    rw [h.tm]
  have hedit (r1 r2 : Word64) : t.edit0 q r1 r2 = s.edit0 q r1 r2 := by
    simp only [State.edit0, hentry]
  unfold State.editFrame
  dsimp only
  rw [hentry, hedit]

theorem State.txtsPush_outStep (s : State) {p : Nat} (hp : p < 512) (x : TxTs) : s.outStep (s.txtsPush p x) := by
  unfold State.txtsPush
  dsimp only
  split
  · exact ((s.setPort_rest _ _).within (by decide) _).parts (by simp)
  · exact ((State.outStep.refl s).bump _ (.inr ⟨p, hp, .inl rfl⟩)).setFld _ _ _ (.inr ⟨p, hp, .inr rfl⟩)

/-- A PTP action (R58, R60) turns on the time of departure and the residence time. -/
theorem State.outStep.ptp {s t : State} (h : s.outStep t) {p : Nat} (hp : p < 512) (d : Desc) (b : List Byte) :
    (t.ptp p d b).1 = (s.ptp p d b).1 := by
  have hpush (x : TxTs) (c : Prop) [Decidable c] (u : State) (a : Nat) (o : Nat) (z : Stamp) :
      State.ptpEdit (if c then u.txtsPush p x else u) p a o z d b = u.ptpEdit p a o z d b := by
    split
    · simp only [State.ptpEdit, (u.txtsPush_outStep hp x).residence hp]
    · rfl
  have hedit (a o : Nat) (z : Stamp) : t.ptpEdit p a o z d b = s.ptpEdit p a o z d b := by
    simp only [State.ptpEdit, h.residence hp]
  unfold State.ptp
  dsimp only
  simp only [hpush, hedit, h.wireTime hp, h.clk]
  split
  · rfl
  · split
    · rfl
    · rfl

theorem State.editFrame_outStep (s : State) (q : Nat) (c : Copy) (b : List Byte) : s.outStep (s.editFrame q c b).2 :=
  forEach_induct (fun t => s.outStep t) _ _ s (.refl s) fun i t _ h => h.bump _ (.inl (by simp only [Reg.TMG_SCH_CNT]; omega))

theorem State.waitStep.sentBytes {s t : State} (h : s.waitStep t) {p : Nat} (hp : p < 512) (c : Copy) (b : List Byte) :
    (t.sentBytes p c b).1 = (s.sentBytes p c b).1 := by
  have hedited := h.out.editFrame (quadOf p) c b
  have hstep : s.outStep (t.editFrame (quadOf p) c b).2 := h.out.trans (t.editFrame_outStep _ c b)
  unfold State.sentBytes
  cases hraw : c.raw with
  | false =>
    simp only [Bool.false_eq_true, if_false, false_and, hedited]
    exact (hstep.ptp hp _ _).trans ((s.editFrame_outStep _ c b).ptp hp _ _).symm
  | true =>
    simp only [if_true, true_and]
    split
    · rfl
    · exact h.out.ptp hp _ _

theorem State.waitStep.headLength {s t : State} (h : s.waitStep t) {p : Nat} (hp : p < 512) (c : Copy) :
    t.headLength p c = s.headLength p c := by
  rw [State.headLength, State.headLength, h.bodyBytes, h.sentBytes hp]

/-! ### The class that starts -/

theorem gateCfg_not_waited (p : Nat) : Reg.TMG_GATE_CFG (quadOf p) (p % 128) ∉ waitRegs := by
  rintro ⟨q, hq, i, hi, h⟩
  simp only [Reg.TMG_GATE_CFG, quadOf, Reg.TMG_SCH_CNT] at h
  omega

section
variable {s t : State} (h : s.waitStep t) {p : Nat} (hp : p < 512)
include h hp

theorem State.waitStep.gateLets (cls : Nat) (c : Copy) : t.gateLets p cls c = s.gateLets p cls c := by
  have hopen (o : Int) (w : Nat) : t.gateOpen p cls o w = s.gateOpen p cls o w := by
    unfold State.gateOpen State.gate State.gateEntries
    rw [h.out.tm]
  unfold State.gateLets
  dsimp only
  rw [h.headLength hp, h.out.rate hp, h.out.wireTime hp, hopen, h.fld_eq (gateCfg_not_waited p)]

/-- The class that may start is the same where the port's queues and stops are. -/
theorem State.waitStep.startClass (hegr : (t.port p).egr = (s.port p).egr) (hstops : (t.port p).stops = (s.port p).stops) :
    t.startClass p = s.startClass p := by
  have hhead (cls : Nat) : t.egrHead p cls = s.egrHead p cls := by rw [State.egrHead, State.egrHead, hegr]
  have hstop (cls : Nat) : t.stoppedCls p cls = s.stoppedCls p cls := by rw [State.stoppedCls, State.stoppedCls, hstops]
  unfold State.startClass
  simp only [hhead, hstop, h.gateLets hp]

end

end Sys2Proof.Machine
end

section
/-! PROOF. A port starts a frame and completes it (R293, R317, R318, 12_egress.md). -/

namespace Sys2Proof.Machine

set_option Elab.async false

/-! ### Heads that wait at their gates -/

/-- The port sends the queues and stops that it had, and no other port has moved. -/
structure State.portWaits (s t : State) (p : Nat) : Prop where
  step : s.waitStep t
  egr : (t.port p).egr = (s.port p).egr
  stops : (t.port p).stops = (s.port p).stops
  only : s.onlyPort t p

theorem State.countGateWaits_waits (s : State) {p : Nat} (hp : p < 512) : s.portWaits (s.countGateWaits p) p := by
  refine forUpTo_induct (fun t => s.portWaits t p) 8 _ s ⟨.refl s _ _, rfl, rfl, s.onlyPort_refl p⟩ fun cls t _ ht => ?_
  split
  · exact ht
  · extract_lets x
    split
    · exact ht
    · have hport : t.waitStep (t.setPort p { x with gateWaited := x.gateWaited ||| 2 ^ cls }) :=
        ((t.setPort_rest _ _).within (by decide) _).parts (by simp)
      have hq : quadOf p < 4 := by unfold quadOf; omega
      refine ⟨(ht.step.trans hport).bump _ ⟨_, hq, _, by decide, rfl⟩, ?_, ?_, ?_⟩
      · exact (congrArg PortSt.egr (State.port_setPort_self _ _ _)).trans ht.egr
      · exact (congrArg PortSt.stops (State.port_setPort_self _ _ _)).trans ht.stops
      · exact State.onlyPort_trans ht.only (t.onlyPort_setPort p _)

/-! ### The frame that starts -/

/-- The making of a frame to send leaves the port's queues and link, and every other port. -/
structure State.makes (s t : State) (p : Nat) : Prop where
  link : t.linkUp p = s.linkUp p
  egr : (t.port p).egr = (s.port p).egr
  only : s.onlyPort t p

theorem State.makes.trans {s t u : State} {p : Nat} (a : s.makes t p) (b : t.makes u p) : s.makes u p :=
  ⟨b.link.trans a.link, b.egr.trans a.egr, State.onlyPort_trans a.only b.only⟩

theorem State.makes.refl (s : State) (p : Nat) : s.makes s p := ⟨rfl, rfl, s.onlyPort_refl p⟩

theorem State.linkUp_of_reg {s t : State} {p : Nat} (h : t.reg (Reg.PRT_STATUS (p / 2)) = s.reg (Reg.PRT_STATUS (p / 2))) :
    t.linkUp p = s.linkUp p := State.flag_of_reg h _

/-- A step that changes no port and does not move PRT.STATUS. -/
theorem State.makes_of_ports {s t : State} {p : Nat} (h : t.ports = s.ports)
    (hstatus : t.reg (Reg.PRT_STATUS (p / 2)) = s.reg (Reg.PRT_STATUS (p / 2))) : s.makes t p := by
  have hport (q : Nat) : t.port q = s.port q := by rw [State.port, State.port, h]
  exact ⟨State.linkUp_of_reg hstatus, by rw [hport], fun q _ => hport q⟩

section
variable (s : State) {p : Nat} (hp : p < 512)

theorem State.cntPort_makes {i : Nat} (hi : i < 0x40) : s.makes (s.bump (cntPort p i)) p :=
  State.makes_of_ports rfl (s.reg_bump_other (by simp only [cntPort, Reg.PRT_STATUS, Reg.PRT_CNT]; omega))

theorem State.editFrame_makes (q : Nat) (c : Copy) (b : List Byte) (hp : p < 512) : s.makes (s.editFrame q c b).2 p :=
  State.makes_of_ports (forEach_induct (fun t => t.ports = s.ports) _ (fun i t => t.tschBump q i) s rfl fun _ _ _ h => h) ((s.editFrame_outStep q c b).1 _ (prtStatus_not_sent hp))

include hp

theorem State.txtsPush_makes (x : TxTs) : s.makes (s.txtsPush p x) p := by
  have hlink := State.linkUp_of_reg ((s.txtsPush_outStep hp x).1 _ (prtStatus_not_sent hp))
  refine ⟨hlink, ?_, ?_⟩ <;> unfold State.txtsPush <;> dsimp only <;> split
  · rw [State.port_setPort_self]
  · rfl
  · exact s.onlyPort_setPort p _
  · exact fun _ _ => rfl

theorem State.ptp_makes (d : Desc) (b : List Byte) : s.makes (s.ptp p d b).2 p := by
  unfold State.ptp
  extract_lets act off c t u n m
  have hcaptured : s.makes u p := by
    unfold u
    split
    · exact s.txtsPush_makes hp _
    · exact .refl s p
  clear_value u
  split
  · exact hcaptured
  · split
    · exact hcaptured.trans (u.cntPort_makes (by decide))
    · exact hcaptured.trans (u.cntPort_makes (by decide))

theorem State.sentBytes_makes (c : Copy) (b : List Byte) : s.makes (s.sentBytes p c b).2 p := by
  unfold State.sentBytes
  extract_lets e
  have hedited : s.makes e.2 p := by
    unfold e
    split
    · exact .refl s p
    · exact s.editFrame_makes _ c b hp
  clear_value e
  split
  · exact hedited
  · exact hedited.trans (e.2.ptp_makes hp _ _)

/-- The read of a pool buffer. -/
theorem State.bufRead_makes (x len : Nat) : s.makes (s.bufRead x len).2.2 p :=
  State.makes_of_ports ((s.bufRead_poolStep x len .ok).2.2 .ports (by decide))
    ((s.bufRead_empties x len).regs _ (by simp only [mem_emptyRegs, Reg.PRT_STATUS]; omega))

end

/-- A port's head leaves its queue, and a place becomes free. -/
def State.headTaken (s : State) (p cls : Nat) (r : List Copy) (wait : Nat) : State :=
  (s.setPort p { s.port p with egr := Tbl.set [] (s.port p).egr cls r, gateWaited := wait }).freeEgress p cls 1

theorem State.headTaken_takes (s : State) (p cls : Nat) (r : List Copy) (wait : Nat) :
    (s.headTaken p cls r wait).linkUp p = s.linkUp p ∧ Tbl.get [] ((s.headTaken p cls r wait).port p).egr cls = r
      ∧ s.onlyPort (s.headTaken p cls r wait) p := by
  have hport (q : Nat) : (s.headTaken p cls r wait).port q
      = (s.setPort p { s.port p with egr := Tbl.set [] (s.port p).egr cls r, gateWaited := wait }).port q := rfl
  refine ⟨rfl, ?_, fun q hq => (hport q).trans (s.onlyPort_setPort p _ q hq)⟩
  rw [hport, State.port_setPort_self, Tbl.get_set, if_pos rfl]

/-- A pool buffer is sent as it is read. -/
theorem State.bodyBytes_pool (s : State) {c : Copy} {a i n : Nat} (h : c.body = .pool a i n) (e : CellEcc) :
    s.bodyBytes c e = ((s.bufRead (ptrOf a i) n).1, (s.bufRead (ptrOf a i) n).2.1, false, (s.bufRead (ptrOf a i) n).2.2) := by
  rw [State.bodyBytes, h]

/-- The head taken goes to the transmitter, if its cells can be read. -/
def State.frameStarted (u : State) (p : Nat) (c : Copy) (e : CellEcc) : State :=
  let b := u.bodyBytes c e
  if b.2.2.1 then b.2.2.2.releaseBody (quadOf p) c
  else
    let y := b.2.2.2.sentBytes p c b.1
    let fcs := fcsOf y.1
    y.2.setPort p { y.2.port p with tx := some { copy := c, bytes := y.1 ++ (if b.2.1 then fcs.map (fun v => ~~~v) else fcs)
                                                 linkDown := !y.2.linkUp p } }

theorem State.frameStarted_starts (u : State) {p : Nat} {c : Copy} (hp : p < 512) (hpool : c.body.isPool = true) (e : CellEcc) :
    ∃ x, ((u.frameStarted p c e).port p).tx = some x ∧ x.copy = c ∧ x.linkDown = !u.linkUp p
      ∧ ((u.frameStarted p c e).port p).egr = (u.port p).egr ∧ u.onlyPort (u.frameStarted p c e) p := by
  obtain ⟨a, i, n, hbody⟩ : ∃ a i n, c.body = .pool a i n := by
    cases hb : c.body with
    | pool a i n => exact ⟨a, i, n, rfl⟩
    | _ => rw [hb] at hpool; cases hpool
  unfold State.frameStarted
  dsimp only
  rw [u.bodyBytes_pool hbody]
  dsimp only
  rw [if_neg Bool.false_ne_true]
  have hread := u.bufRead_makes hp (ptrOf a i) n
  have hmade := hread.trans ((u.bufRead (ptrOf a i) n).2.2.sentBytes_makes hp c (u.bufRead (ptrOf a i) n).1)
  generalize (u.bufRead (ptrOf a i) n).2.2.sentBytes p c (u.bufRead (ptrOf a i) n).1 = y at *
  exact ⟨_, congrArg PortSt.tx (State.port_setPort_self _ _ _), rfl, congrArg (! ·) hmade.link,
    (congrArg PortSt.egr (State.port_setPort_self _ _ _)).trans hmade.egr, State.onlyPort_trans hmade.only (y.2.onlyPort_setPort p _)⟩

theorem egressFrameStart_starts {s : State} {p cls : Nat} {c : Copy} {r : List Copy} (hp : p < 512) (e : CellEcc)
    (hon : s.portEnabled p = true) (hslice : s.down (unitSlice (sliceOf p)) = false) (hidle : (s.port p).tx = none)
    (hflow : (s.port p).fcPend = [] ∨ s.linkUp p = false) (hcls : s.startClass p = some cls)
    (hhead : Tbl.get [] (s.port p).egr cls = c :: r) (hpool : c.body.isPool = true) :
    ∃ x, ((egressFrameStart p e s).port p).tx = some x ∧ x.copy = c ∧ x.linkDown = !s.linkUp p
      ∧ Tbl.get [] ((egressFrameStart p e s).port p).egr cls = r ∧ s.onlyPort (egressFrameStart p e s) p := by
  obtain ⟨w, hw⟩ : ∃ w, w = s.countGateWaits p := ⟨_, rfl⟩
  have hwaits : s.portWaits w p := hw ▸ s.countGateWaits_waits hp
  have hup : w.linkUp p = s.linkUp p := State.linkUp_of_reg (hwaits.step.out.1 _ (prtStatus_not_sent hp))
  have hthere : w.startClass p = some cls := (hwaits.step.startClass hp hwaits.egr hwaits.stops).trans hcls
  have hfirst : Tbl.get [] (w.port p).egr cls = c :: r := hwaits.egr ▸ hhead
  have hgo : ¬((!s.portEnabled p) = true ∨ s.down (unitSlice (sliceOf p)) = true ∨ (s.port p).tx.isSome = true
      ∨ ((s.port p).fcPend ≠ [] ∧ s.linkUp p = true)) := by
    simp only [hon, hslice, hidle]
    rcases hflow with h | h <;> simp [h]
  obtain ⟨wait, heq⟩ : ∃ wait, egressFrameStart p e s = (w.headTaken p cls r wait).frameStarted p c e := by
    unfold egressFrameStart
    dsimp only
    rw [if_neg hgo, ← hw, hthere]
    dsimp only
    rw [hfirst]
    exact ⟨_, rfl⟩
  obtain ⟨hlink, hegr, honly⟩ := w.headTaken_takes p cls r wait
  rw [heq]
  generalize w.headTaken p cls r wait = u at *
  obtain ⟨x, htx, hcopy, hdown, hqueue, hstarted⟩ := u.frameStarted_starts hp hpool e
  exact ⟨x, htx, hcopy, hdown.trans (congrArg (! ·) (hlink.trans hup)), by rw [hqueue, hegr],
    State.onlyPort_trans (State.onlyPort_trans hwaits.only honly) hstarted⟩

/-! ### The frame that has left -/

theorem txCopyDone_completes {s : State} {p : Nat} {x : TxNow} (hp : p < 512) (htx : (s.port p).tx = some x) (hloop : s.looped p = false) :
    ((txCopyDone p false s).port p).tx = none ∧ ((txCopyDone p false s).port p).wire = x.bytes
      ∧ (txCopyDone p false s).reg (cntPort p Cnt.PRT_TX_FRAMES) = s.reg (cntPort p Cnt.PRT_TX_FRAMES) + 1
      ∧ (txCopyDone p false s).reg (cntPort p Cnt.PRT_TX_OCTETS) = s.reg (cntPort p Cnt.PRT_TX_OCTETS) + BitVec.ofNat 64 x.bytes.length
      ∧ s.onlyPort (txCopyDone p false s) p := by
  obtain ⟨sent, hsent⟩ : ∃ u, u = s.setPort p { s.port p with tx := none, wire := x.bytes } := ⟨_, rfl⟩
  obtain ⟨counted, hcounted⟩ : ∃ u, u = (sent.bump (cntPort p Cnt.PRT_TX_FRAMES)).bumpBy (cntPort p Cnt.PRT_TX_OCTETS) x.bytes.length := ⟨_, rfl⟩
  obtain ⟨told, htold⟩ : ∃ u, u = if x.linkDown then counted.bump (cntPort p Cnt.PRT_TX_DURING_LINK_DOWN) else counted := ⟨_, rfl⟩
  have heq : txCopyDone p false s = (told.releaseBody (quadOf p) x.copy).loopBack p x.bytes := by
    rw [htold, hcounted, hsent]
    unfold txCopyDone
    rw [htx]
    dsimp only
    cases x.copy.body <;> rfl
  have hsentport : sent.port p = { s.port p with tx := none, wire := x.bytes } := hsent ▸ State.port_setPort_self _ _ _
  have htoldports : told.ports = sent.ports := by
    rw [htold, hcounted]
    split
    · rfl
    · rfl
  have hempties : told.empties (told.releaseBody (quadOf p) x.copy) := told.releaseBody_empties (by unfold quadOf; omega) _
  have hports : (told.releaseBody (quadOf p) x.copy).ports = told.ports := (told.releaseBody_deliverStep _ _).2 .ports (by decide)
  have hprt {a : Nat} (hlo : 0x1000000 ≤ a) (hhi : a < 0x2000000) : (told.releaseBody (quadOf p) x.copy).reg a = told.reg a :=
    hempties.regs a (by rw [mem_emptyRegs]; omega)
  generalize told.releaseBody (quadOf p) x.copy = u at *
  have hcnt {i j : Nat} (h : i ≠ j) : cntPort p i ≠ cntPort p j := by simp only [cntPort, Reg.PRT_CNT]; omega
  have hcountedreg {a : Nat} (h : a ≠ cntPort p Cnt.PRT_TX_DURING_LINK_DOWN) : told.reg a = counted.reg a := by
    rw [htold]
    split
    · exact State.reg_bump_other _ h
    · rfl
  have hsentreg (a : Nat) : sent.reg a = s.reg a := by rw [hsent, State.reg_setPort]
  have hframes : told.reg (cntPort p Cnt.PRT_TX_FRAMES) = s.reg (cntPort p Cnt.PRT_TX_FRAMES) + 1 := by
    rw [hcountedreg (hcnt (by decide)), hcounted, State.reg_bumpBy, if_neg (hcnt (by decide)), State.reg_bump_self, hsentreg]
  have hoctets : told.reg (cntPort p Cnt.PRT_TX_OCTETS) = s.reg (cntPort p Cnt.PRT_TX_OCTETS) + BitVec.ofNat 64 x.bytes.length := by
    rw [hcountedreg (hcnt (by decide)), hcounted, State.reg_bumpBy, if_pos rfl, State.reg_bump_other _ (hcnt (by decide)), hsentreg]
  have hctl : told.reg (Reg.PRT_CTL (p / 2)) = s.reg (Reg.PRT_CTL (p / 2)) := by
    have hne (i : Nat) (hi : i < 0x40) : Reg.PRT_CTL (p / 2) ≠ cntPort p i := by
      simp only [cntPort, Reg.PRT_CNT, Reg.PRT_CTL]
      omega
    rw [hcountedreg (hne _ (by decide)), hcounted, State.reg_bumpBy, if_neg (hne _ (by decide)),
      State.reg_bump_other _ (hne _ (by decide)), hsentreg]
  have hunlooped : u.looped p = false := by
    have hsame : u.reg (Reg.PRT_CTL (p / 2)) = s.reg (Reg.PRT_CTL (p / 2)) :=
      (hprt (by simp only [Reg.PRT_CTL]; omega) (by simp only [Reg.PRT_CTL]; omega)).trans hctl
    rw [← hloop, State.looped, State.looped, State.fld_of_reg hsame]
  have hport (q : Nat) : u.port q = sent.port q := by rw [State.port, State.port, hports, htoldports]
  have hprtcnt {i : Nat} (hi : i < 0x40) : u.reg (cntPort p i) = told.reg (cntPort p i) :=
    hprt (by simp only [cntPort, Reg.PRT_CNT]; omega) (by simp only [cntPort, Reg.PRT_CNT]; omega)
  rw [heq, State.loopBack, if_neg (by rw [hunlooped]; decide), hport, hsentport]
  exact ⟨rfl, rfl, (hprtcnt (by decide)).trans hframes, (hprtcnt (by decide)).trans hoctets,
    fun q hq => (hport q).trans (hsent ▸ s.onlyPort_setPort p _ q hq)⟩

/-- Settles O37: the start and the end of a frame on a port. -/
theorem egressFrames : Obligations.EgressFrames := by
  unfold Obligations.EgressFrames
  refine ⟨fun s p e cls c r hon hslice hidle hflow hcls hhead hpool => ?_, fun s p x htx hloop => ?_⟩
  · obtain ⟨x, hstarts⟩ := egressFrameStart_starts p.isLt e hon hslice hidle hflow hcls hhead hpool
    exact ⟨_, x, rfl, hstarts⟩
  · exact ⟨_, rfl, txCopyDone_completes p.isLt htx hloop⟩

end Sys2Proof.Machine
end

section
/-! PROOF. What fences, returns and the initialisation of a domain leave of the power domains (R431 to R434). -/

namespace Sys2Proof.Machine

set_option Elab.async false

/-! ### What the fences discard -/

section
variable (s : State)

theorem State.stopLinks_empties (u : Nat) : s.empties (s.stopLinks u) :=
  forEach_empties (fun k t => State.empties_of_regs (s := t) (t := t.stopLink k) rfl rfl) _ s

theorem State.discardEgress_empties (u : Nat) {p : Nat} (hp : p < 8192) : s.empties (s.discardEgress u p) := by
  unfold State.discardEgress
  extract_lets t
  have hclasses : s.empties t := forUpTo_empties (fun c t => t.discardClass_empties u c hp) 8 s
  clear_value t
  exact hclasses.trans (State.empties_of_regs rfl rfl)

theorem State.discardOut_empties (p : Nat) : s.empties (s.discardOut p) := by
  unfold State.discardOut
  extract_lets x t k l tmb u
  have hemptied : s.empties u := State.empties_of_regs rfl rfl
  clear_value u
  exact (hemptied.trans (forEach_empties (fun (o : OutFrame) t => (t.release_gaveBack o.cellHead o.cellCnt).empties) x.out u)).trans
    (State.empties_of_regs rfl rfl)

theorem State.discardPort_empties {n : Nat} (hn : n < 4000) : s.empties (s.discardPort n) :=
  forEach_induct (fun t => s.empties t) _ _ s (.refl s) fun p t hp ht => by
    have hport : p < 8192 := by simp only [List.mem_cons, List.not_mem_nil, or_false] at hp; omega
    exact (ht.trans (t.discardIngress_empties _ p)).trans (State.discardEgress_empties _ _ hport)

theorem State.discardSlice_empties {i : Nat} (hi : i < 16) : s.empties (s.discardSlice i) :=
  forEach_induct (fun t => s.empties t) _ _ s (.refl s) fun p t hp ht => by
    have hport : p < 8192 := by
      simp only [List.mem_map, List.mem_range] at hp
      omega
    exact ((ht.trans (t.discardIngress_empties _ p)).trans (State.discardOut_empties _ p)).trans (State.discardEgress_empties _ _ hport)

theorem State.emptyQueue_empties {q : Nat} (hq : q < 84) (u : Nat) {f : State → State} (hf : ∀ t : State, t.empties (f t)) :
    s.empties (s.emptyQueue q u f) :=
  (State.empties_of_regs (s := s) (t := s.setQueue q u []) rfl rfl).trans (forEach_empties (fun c t =>
    ((t.releaseBody_empties hq c).trans (hf _)).trans (State.bump_empties _ (by simp only [mem_emptyRegs, Reg.TMG_QCNT]; omega))) _ _)

theorem State.tmDiscard_empties {q : Nat} (hq : q < 84) : s.empties (s.tmDiscard q) := by
  have hcount (t : State) : t.empties (t.tmgBump q Cnt.TMG_FENCE_DISCARD) :=
    t.bump_empties (by simp only [mem_emptyRegs, Reg.TMG_CNT]; omega)
  unfold State.tmDiscard
  extract_lets t
  have hqueues : s.empties t := forUpTo_empties (fun u t => t.emptyQueue_empties hq u hcount) 656 s
  refine hqueues.trans (forUpTo_empties (fun i t => ?_) 32 t)
  extract_lets l tm u
  have hinput : t.empties u := State.empties_of_regs rfl rfl
  refine hinput.trans (forEach_empties (fun (d : Desc) t => ?_) l u)
  extract_lets v
  have hreleased : t.empties v := (hcount t).trans (State.release_gaveBack _ _ _).empties
  split
  · exact hreleased.trans (v.drainSub_empties _ _)
  · exact hreleased

theorem State.tmbAbandon_empties (q : Nat) : s.empties (s.tmbAbandon q) := by
  have hended (t : State) : t.empties t.moveEnded := by
    unfold State.moveEnded
    split
    · exact .refl t
    · have hwait : t.empties (t.setCommitWait false) := t.setFld_empties (by simp only [mem_emptyRegs, Reg.TMB_GEN_CMD]; omega) _ _
      split
      · exact hwait
      · generalize t.setCommitWait false = w at *
        exact hwait.trans (State.empties_of_regs rfl rfl)
      · exact .refl t
  unfold State.tmbAbandon State.tmbErr State.showMove
  split
  · exact .refl s
  · have hcmd : Reg.TMB_ENT_CMD q ∈ emptyRegs := by simp only [mem_emptyRegs, Reg.TMB_ENT_CMD]; omega
    have hmaint : Reg.TMB_MAINT q ∈ emptyRegs := by simp only [mem_emptyRegs, Reg.TMB_MAINT]; omega
    have hstatus : Reg.TMB_STATUS q ∈ emptyRegs := by simp only [mem_emptyRegs, Reg.TMB_STATUS]; omega
    exact ((((((State.empties_of_regs (s := s) (t := s.setInsert q none) rfl rfl).trans (State.setFld_empties _ hcmd _ _)).trans
      (State.setFld_empties _ hcmd _ _)).trans (State.setFld_empties _ hcmd _ _)).trans
      (State.setFld_empties _ hmaint _ _)).trans (State.setFld_empties _ hstatus _ _)).trans (hended _)

/-- A unit of a domain that PD_CMD quiesces: no memory controller, no HIF, and no active complex. -/
def State.quietUnit (s : State) (u : Nat) : Prop := u < 296 ∨ u = 311 ∨ (u = 312 ∨ u = 313) ∧ s.activeCc ≠ u - 312

/-- The fence of such a unit is a discard that moves no unit's STATE. -/
theorem State.isolate_quiet {u : Nat} (hu : s.quietUnit u) : s.keepsUnits (s.isolate u) ∧ s.empties (s.isolate u) := by
  have hstopped := s.stopLinks_keepsUnits u
  have hempties := s.stopLinks_empties u
  have hactive : (s.stopLinks u).activeCc = s.activeCc :=
    State.activeCc_of_reg (hempties.regs _ (by rw [mem_emptyRegs]; decide))
  unfold State.isolate
  dsimp only
  generalize s.stopLinks u = t at *
  rcases hu with hlow | rfl | ⟨hcomplex, hother⟩
  · split
    · exact ⟨hstopped.trans (t.discardPort_keepsUnits _), hempties.trans (t.discardPort_empties (by omega))⟩
    · split
      · exact ⟨hstopped.trans (t.discardSlice_keepsUnits _), hempties.trans (t.discardSlice_empties (by omega))⟩
      · split
        · exact ⟨hstopped.trans (t.discardShard_keepsUnits _), hempties.trans (t.discardShard_empties (by omega))⟩
        · split
          · exact ⟨hstopped.trans (t.tmbAbandon_keepsUnits _), hempties.trans (t.tmbAbandon_empties _)⟩
          · exact ⟨hstopped.trans (t.tmDiscard_keepsUnits _), hempties.trans (t.tmDiscard_empties (by omega))⟩
  · exact ⟨hstopped, hempties⟩
  · have hrest : t.activeCc ≠ u - 312 := hactive ▸ hother
    simp (disch := omega) only [if_neg, if_pos hcomplex]
    exact ⟨hstopped, hempties⟩

end

/-! ### What leaves the power domains -/

/-- PMU's registers and the power domains stand. -/
structure State.keepsPower (s t : State) : Prop where
  regs : ∀ a, 0x60000 ≤ a → a < 0x61000 → t.reg a = s.reg a
  power : t.power = s.power

theorem State.keepsPower.refl (s : State) : s.keepsPower s := ⟨fun _ _ _ => rfl, rfl⟩

theorem State.keepsPower.trans {s t u : State} (a : s.keepsPower t) (b : t.keepsPower u) : s.keepsPower u :=
  ⟨fun x hlo hhi => (b.regs x hlo hhi).trans (a.regs x hlo hhi), b.power.trans a.power⟩

theorem State.empties.keepsPower {s t : State} (h : s.empties t) : s.keepsPower t :=
  ⟨fun a hlo hhi => h.regs a (by rw [mem_emptyRegs]; omega), h.power⟩

theorem State.within.keepsPower {s t : State} {R : Set Nat} {l : List Part} (h : s.within t R l)
    (hR : ∀ a ∈ R, a < 0x60000 ∨ 0x61000 ≤ a) (hl : Part.power ∉ l := by decide) : s.keepsPower t :=
  ⟨fun a hlo hhi => h.1 a fun hin => by have := hR a hin; omega, h.2.2 .power hl⟩

theorem State.keepsPower_of_rest {s t : State} {l : List Part} (h : s.onlyParts t l) (hregs : Part.regs ∉ l := by decide)
    (hl : Part.power ∉ l := by decide) : s.keepsPower t :=
  ⟨fun a _ _ => h.reg_eq hregs a, h.2 .power hl⟩

theorem State.setReg_keepsPower (s : State) {a : Nat} (h : a < 0x60000 ∨ 0x61000 ≤ a) (v : Word64) : s.keepsPower (s.setReg a v) :=
  ⟨fun _ hlo hhi => s.reg_setReg_other _ (by omega), rfl⟩

theorem State.setFld_keepsPower (s : State) {a : Nat} (h : a < 0x60000 ∨ 0x61000 ≤ a) (f : Fld) (x : Nat) : s.keepsPower (s.setFld a f x) :=
  s.setReg_keepsPower h _

theorem State.bump_keepsPower (s : State) {a : Nat} (h : a < 0x60000 ∨ 0x61000 ≤ a) : s.keepsPower (s.bump a) := s.setReg_keepsPower h _

theorem forEach_keepsPower {α : Type} {f : α → State → State} (h : ∀ (x : α) (t : State), t.keepsPower (f x t)) (xs : List α)
    (s : State) : s.keepsPower (forEach xs f s) :=
  forEach_induct (fun t => s.keepsPower t) xs f s (.refl s) fun x t _ ht => ht.trans (h x t)

theorem forUpTo_keepsPower {f : Nat → State → State} (h : ∀ (i : Nat) (t : State), t.keepsPower (f i t)) (n : Nat)
    (s : State) : s.keepsPower (forUpTo n f s) :=
  forUpTo_induct (fun t => s.keepsPower t) n f s (.refl s) fun i t _ ht => ht.trans (h i t)

/-! ### What is initialised at ON (R434) -/

section
variable (s : State)

/-- Registers outside PMU's, each written with a value of its own. -/
theorem State.setRegs_keepsPower {l : List (Nat × Word64)} (v : Nat × Word64 → Word64) (h : ∀ e ∈ l, e.1 < 0x60000 ∨ 0x61000 ≤ e.1) :
    s.keepsPower (forEach l (fun e t => t.setReg e.1 (v e)) s) :=
  forEach_induct (fun t => s.keepsPower t) _ _ s (.refl s) fun e t he ht => ht.trans (t.setReg_keepsPower (h e he) _)

theorem State.resetRange_keepsPower {lo : Nat} (h : 0x61000 ≤ lo) (hi : Nat) : s.keepsPower (s.resetRange lo hi) :=
  ⟨fun _ _ hhi => State.reg_resetRange_other _ (by omega), (s.resetRange_rest lo hi).2 .power (by decide)⟩

/-- The image's entries for a block above PMU's. -/
theorem imageEntry_above {l : List (Nat × Word64)} {lo hi : Nat} (h : 0x61000 ≤ lo) {e : Nat × Word64}
    (he : e ∈ l.filter (fun e => decide (lo ≤ e.1) && decide (e.1 < hi))) : e.1 < 0x60000 ∨ 0x61000 ≤ e.1 := by
  have haddr := (List.mem_filter.1 he).2
  simp only [Bool.and_eq_true, decide_eq_true_eq] at haddr
  omega

/-- The image's entries for a block. -/
theorem State.imageRegs_keepsPower {lo hi : Nat} (h : 0x61000 ≤ lo) (r : State) :
    r.keepsPower (forEach (s.cast.image.filter (fun e => decide (lo ≤ e.1) && decide (e.1 < hi)))
      (fun e t => t.setReg e.1 (regImageWrite e.1 (regDefault e.1) e.2)) r) :=
  r.setRegs_keepsPower (fun e => regImageWrite e.1 (regDefault e.1) e.2) fun _ he => imageEntry_above h he

/-- A block's registers, above PMU's. -/
theorem State.initRegs_keepsPower {lo hi : Nat} (h : 0x61000 ≤ lo) : s.keepsPower (s.initRegs lo hi) :=
  (s.resetRange_keepsPower h hi).trans (s.imageRegs_keepsPower h _)

theorem State.setPorts_only (x : Tbl PortSt) : s.onlyParts { s with ports := x } [.ports] := State.onlyParts_of_restored rfl

theorem State.initSerdes_keepsPower (k : Nat) : s.keepsPower (s.initSerdes k) := by
  unfold State.initSerdes
  extract_lets r t
  have hregs : s.keepsPower r := s.initRegs_keepsPower (by simp only [Reg.PRT_CTL]; omega)
  clear_value r
  have hoff : r.keepsPower t := forUpTo_keepsPower (fun i u => (u.setFld_keepsPower (by simp only [Reg.PRT_CTL]; omega) _ _).trans
    (State.setFld_keepsPower _ (by simp only [Reg.PRT_CTL]; omega) _ _)) 8 r
  clear_value t
  exact (hregs.trans hoff).trans (State.keepsPower_of_rest (t.setPorts_only _))

theorem State.copyFallback_keepsPower (i : Nat) : s.keepsPower (s.copyFallback i) :=
  forUpTo_keepsPower (fun k t => by
    have hclass : Reg.SLC_FCLASS i k < 0x60000 ∨ 0x61000 ≤ Reg.SLC_FCLASS i k := by simp only [Reg.SLC_FCLASS]; omega
    exact ((t.setFld_keepsPower hclass _ _).trans (State.setFld_keepsPower _ hclass _ _)).trans (State.setFld_keepsPower _ hclass _ _)) 64 s

theorem State.initDrain_keepsPower (i : Nat) : s.keepsPower (s.initDrain i) := by
  unfold State.initDrain
  extract_lets t
  have hcur : s.keepsPower t := s.setFld_keepsPower (by simp only [Reg.SLC_GEN]; omega) _ _
  refine hcur.trans (forUpTo_keepsPower (fun k u => ?_) 4 t)
  have hdrain : Reg.SLC_GEN_DRAIN i k < 0x60000 ∨ 0x61000 ≤ Reg.SLC_GEN_DRAIN i k := by simp only [Reg.SLC_GEN_DRAIN]; omega
  exact ((u.setFld_keepsPower hdrain _ _).trans (State.setFld_keepsPower _ hdrain _ _)).trans (State.setFld_keepsPower _ hdrain _ _)

theorem State.initMacs_keepsPower (q : Nat) : s.keepsPower (s.initMacs q) := by
  unfold State.initMacs
  extract_lets x t
  have hempty : s.keepsPower t := ⟨fun _ _ _ => rfl, rfl⟩
  exact hempty.trans (forEach_keepsPower (fun _ u => State.keepsPower_of_rest (u.setMac_rest _ _ _)) _ t)

theorem State.initSlice_keepsPower (i : Nat) : s.keepsPower (s.initSlice i) := by
  unfold State.initSlice
  extract_lets k0 k1 r keyed drained _ emptied
  have hregs : s.keepsPower r := s.initRegs_keepsPower (by simp only [Reg.SLC_CTL]; omega)
  clear_value r
  have hkeyed : r.keepsPower keyed := (r.setReg_keepsPower (by simp only [Reg.SLC_HASH_KEY0]; omega) _).trans
    (State.setReg_keepsPower _ (by simp only [Reg.SLC_HASH_KEY1]; omega) _)
  have hdrained : keyed.keepsPower drained := (keyed.copyFallback_keepsPower i).trans (State.initDrain_keepsPower _ i)
  clear_value drained
  have hemptied : s.keepsPower emptied :=
    ((hregs.trans hkeyed).trans hdrained).trans (State.keepsPower_of_rest (drained.setSlice_only _))
  clear_value emptied
  split
  · exact hemptied.trans (emptied.initMacs_keepsPower _)
  · exact hemptied

theorem State.loadStore_keepsPower (h : Nat) (store : Tbl Microword) (digest : Word64) (version patch : Nat) :
    s.keepsPower (s.loadStore h store digest version patch) := by
  have hversion : Reg.FAE_MC_VERSION h < 0x60000 ∨ 0x61000 ≤ Reg.FAE_MC_VERSION h := by simp only [Reg.FAE_MC_VERSION]; omega
  have hstored : s.keepsPower (s.setShard h { s.shard h with store := store }) := ⟨fun _ _ _ => rfl, rfl⟩
  exact ((hstored.trans (State.setFld_keepsPower _ hversion _ _)).trans (State.setFld_keepsPower _ hversion _ _)).trans
    (State.setReg_keepsPower _ (by simp only [Reg.FAE_MC_DIGEST]; omega) _)

theorem State.initShard_keepsPower (h : Nat) : s.keepsPower (s.initShard h) := by
  unfold State.initShard
  extract_lets stamp records r kept drained _ emptied b
  have hregs : s.keepsPower r := s.initRegs_keepsPower (by simp only [Reg.HNK_CTL]; omega)
  clear_value r
  have hkept : r.keepsPower kept := (r.setReg_keepsPower (by simp only [Reg.HNK_GEN_STAMP]; omega) _).trans
    (State.setReg_keepsPower _ (by simp only [Reg.HNK_OCC1]; omega) _)
  have hdrained : kept.keepsPower drained := forUpTo_keepsPower (fun k u => by
    have haddr : Reg.SCH_AGE_DRAIN h k < 0x60000 ∨ 0x61000 ≤ Reg.SCH_AGE_DRAIN h k := by simp only [Reg.SCH_AGE_DRAIN]; omega
    exact (u.setFld_keepsPower haddr _ _).trans (State.setFld_keepsPower _ haddr _ _)) 4 kept
  clear_value drained
  have hemptied : drained.keepsPower emptied := State.keepsPower_of_rest (drained.setShard_rest _ _)
  clear_value emptied
  exact (((hregs.trans hkept).trans hdrained).trans hemptied).trans (emptied.loadStore_keepsPower _ _ _ _ _)

theorem State.setEnt_keepsPower (q i : Nat) (e : TmbEntry) : s.keepsPower (s.setEnt q i e) :=
  State.keepsPower_of_rest (s.setTmb_only _)

theorem State.rebuildArray_keepsPower (q src : Nat) : s.keepsPower (s.rebuildArray q src) := by
  unfold State.rebuildArray
  extract_lets cleared copied loaded
  have hcleared : s.keepsPower cleared := State.keepsPower_of_rest (s.setTmb_only _)
  have hcopied : cleared.keepsPower copied :=
    forEach_keepsPower (fun _ u => forEach_keepsPower (fun _ v => v.setEnt_keepsPower _ _ _) _ u) _ cleared
  have hloaded : copied.keepsPower loaded := forEach_keepsPower (fun _ u => u.setEnt_keepsPower _ _ _) _ copied
  clear_value loaded
  exact ((hcleared.trans hcopied).trans hloaded).trans (State.keepsPower_of_rest (loaded.setFault_only _))

theorem State.initArray_keepsPower (q : Nat) : s.keepsPower (s.initArray q) := by
  unfold State.initArray
  extract_lets r slots status src rebuilt
  have hregs : s.keepsPower r := s.initRegs_keepsPower (by simp only [Reg.TMB_CTL]; omega)
  clear_value r
  have hslots : r.keepsPower slots :=
    forUpTo_keepsPower (fun i u => u.setReg_keepsPower (by simp only [Reg.TMB_GEN_SLOT]; omega) _) 4 r
  have hstatus : slots.keepsPower status := slots.setReg_keepsPower (by simp only [Reg.TMB_GEN_STATUS]; omega) _
  have hrebuilt : status.keepsPower rebuilt :=
    (status.rebuildArray_keepsPower q src).trans (State.keepsPower_of_rest (State.setTmb_only _ _))
  clear_value rebuilt
  have hready := ((hregs.trans hslots).trans hstatus).trans hrebuilt
  split
  · exact hready.trans (forEach_keepsPower (fun _ u => u.setEnt_keepsPower _ _ _) _ rebuilt)
  · exact hready

theorem State.initTm_keepsPower (q : Nat) : s.keepsPower (s.initTm q) := by
  have htm (u : State) (x : TmSt) : u.keepsPower { u with tm := x } := State.keepsPower_of_rest (u.setTm_only x [])
  unfold State.initTm
  extract_lets r x part emptied t
  have hregs : s.keepsPower r := s.initRegs_keepsPower (by simp only [Reg.TMG_CTL]; omega)
  clear_value r
  have hemptied : r.keepsPower emptied := htm r _
  clear_value emptied
  exact ((hregs.trans hemptied).trans (forEach_keepsPower (fun _ u => htm u _) _ emptied)).trans (forEach_keepsPower (fun _ u => htm u _) _ _)

theorem State.initDomain_keepsPower (d : Nat) : s.keepsPower (s.initDomain d) := by
  unfold State.initDomain
  split
  · exact s.initSerdes_keepsPower _
  · split
    · exact s.initSlice_keepsPower _
    · split
      · exact s.initShard_keepsPower _
      · split
        · exact (s.initTm_keepsPower _).trans (State.initArray_keepsPower _ _)
        · exact .refl s

end

end Sys2Proof.Machine
end

section
/-! PROOF. PMU.PD_CMD and SHUTDOWN (R431 to R434, R437). -/

namespace Sys2Proof.Machine

set_option Elab.async false

/-! ### Commands that start and end -/

theorem pdState_bound {d : Nat} (hd : d < 80) : 0x60028 ≤ Reg.PMU_PD_STATE (d / 32) ∧ Reg.PMU_PD_STATE (d / 32) ≤ 0x60038 := by
  simp only [Reg.PMU_PD_STATE]
  omega

section
variable (s : State) {d : Nat} (hd : d < 80)

theorem State.dom_setDom (x : Nat) (hx : x < 4) : (s.setDom d x).dom d = x :=
  State.fld_setFld_fits _ _ (by simp only; omega) hx

theorem State.setDom_within (x : Nat) : s.within (s.setDom d x) {a | a ∈ [Reg.PMU_PD_STATE (d / 32)]} [.regs] :=
  (State.within.refl s _ _).setFld _ _ _

/-- A domain that stays as it is where its register does. -/
theorem State.dom_of_reg {s t : State} {d : Nat} (h : t.reg (Reg.PMU_PD_STATE (d / 32)) = s.reg (Reg.PMU_PD_STATE (d / 32))) :
    t.dom d = s.dom d := State.fld_of_reg h _

include hd

/-- A command that runs shows SWITCHING and BUSY. -/
theorem State.pdStart_starts (op : Nat) : (s.pdStart op d).dom d = 3 ∧ (s.pdStart op d).power.pdRun = some (op, d)
    ∧ (s.pdStart op d).flag Reg.PMU_PD_CMD Fld.PMU_PD_CMD_BUSY = true
    ∧ s.within (s.pdStart op d) {a | a ∈ [Reg.PMU_PD_CMD, Reg.PMU_PD_STATE (d / 32)]} [.regs, .power] := by
  have hbound := pdState_bound hd
  have hne : Reg.PMU_PD_CMD ≠ Reg.PMU_PD_STATE (d / 32) := by simp only [Reg.PMU_PD_CMD]; omega
  obtain ⟨t, ht⟩ : ∃ t, t = (s.setFld Reg.PMU_PD_CMD Fld.PMU_PD_CMD_DOMAIN d).setFld Reg.PMU_PD_CMD Fld.PMU_PD_CMD_BUSY 1 := ⟨_, rfl⟩
  have hbusy : t.flag Reg.PMU_PD_CMD Fld.PMU_PD_CMD_BUSY = true := ht ▸ State.flag_setFld_one _ _ ⟨rfl, by decide⟩
  have hframe : s.within t {a | a ∈ [Reg.PMU_PD_CMD, Reg.PMU_PD_STATE (d / 32)]} [.regs, .power] :=
    ht ▸ ((State.within.refl s _ _).setFld _ _ _).setFld _ _ _
  obtain ⟨u, hu, hrun, hregs, hrest⟩ : ∃ u, u = { t with power := { t.power with pdRun := some (op, d), pdSince := t.clk.mono } }
      ∧ u.power.pdRun = some (op, d) ∧ u.regs = t.regs ∧ t.onlyParts u [.power] := ⟨_, rfl, rfl, rfl, t.setPower_only _⟩
  have heq : s.pdStart op d = u.setDom d 3 := by rw [hu, ht]; rfl
  rw [heq]
  refine ⟨u.dom_setDom 3 (by decide), (congrArg PowerSt.pdRun ((u.setDom_within 3).2.2 .power (by decide))).trans hrun, ?_,
    (hframe.rest hrest).step (u.setDom_within 3) (by simp)⟩
  exact (State.flag_setFld_other _ _ _ _ hne).trans ((State.flag_of_reg (State.reg_congr hregs _) _).trans hbusy)

/-- The checks of PD_CMD (R432, R433), met. -/
theorem State.pdCmd_accepts {op : Nat} {from_ : List Nat} (f : State → State)
    (hidle : s.flag Reg.PMU_PD_CMD Fld.PMU_PD_CMD_BUSY = false) (hswitch : domSwitchable d = true) (hphase : s.phase = 11)
    (hfrom : from_.contains (s.dom d) = true) : s.pdCmd op d from_ none f = f s := by
  unfold State.pdCmd
  rw [if_neg (by simp [hidle]), if_neg (by simp [hswitch]; omega), if_neg (by simp [hphase]),
    if_neg (by rw [hfrom]; decide)]

end

/-- A command that finds BUSY is refused with code 1. -/
theorem State.pdCmd_busy {s : State} (hbusy : s.flag Reg.PMU_PD_CMD Fld.PMU_PD_CMD_BUSY = true) (op d : Nat) (from_ : List Nat)
    (bar : Option Nat) (f : State → State) : s.pdCmd op d from_ bar f = s.pdRefuse 1 := if_pos hbusy

theorem State.pdRefuse_shows (s : State) {code : Nat} (hcode : code < 16) :
    (s.pdRefuse code).flag Reg.PMU_PD_CMD Fld.PMU_PD_CMD_ERR = true ∧ (s.pdRefuse code).fld Reg.PMU_PD_CMD Fld.PMU_PD_CMD_ERR_CODE = code
      ∧ (s.pdRefuse code).reg (Reg.PMU_CNT Cnt.PMU_REFUSED) = s.reg (Reg.PMU_CNT Cnt.PMU_REFUSED) + 1
      ∧ s.within (s.pdRefuse code) {a | a ∈ [Reg.PMU_PD_CMD, Reg.PMU_CNT Cnt.PMU_REFUSED]} [.regs] := by
  have hne : Reg.PMU_PD_CMD ≠ Reg.PMU_CNT Cnt.PMU_REFUSED := by decide
  refine ⟨?_, ?_, ?_, (((State.within.refl s _ _).setFld _ _ _).setFld _ _ _).bump _⟩
  · exact (State.flag_bump_other _ _ hne).trans ((State.flag_setFld_disjoint _ _ _ (by decide)).trans (State.flag_setFld_one _ _ ⟨rfl, by decide⟩))
  · exact (State.fld_bump_other _ _ hne).trans (State.fld_setFld_fits _ _ (by decide) hcode)
  · exact (State.reg_bump_self _ _).trans (congrArg (· + 1) ((State.reg_setFld_other _ _ _ hne.symm).trans (State.reg_setFld_other _ _ _ hne.symm)))

/-- A command that runs and is counted. -/
theorem State.pdStart_counted (s : State) {d : Nat} (hd : d < 80) (op : Nat) {k : Nat} (hk : k < 32) :
    ((s.pdStart op d).pmuBump k).dom d = 3 ∧ ((s.pdStart op d).pmuBump k).power.pdRun = some (op, d)
      ∧ ((s.pdStart op d).pmuBump k).flag Reg.PMU_PD_CMD Fld.PMU_PD_CMD_BUSY = true
      ∧ ((s.pdStart op d).pmuBump k).reg (Reg.PMU_CNT k) = s.reg (Reg.PMU_CNT k) + 1
      ∧ s.within ((s.pdStart op d).pmuBump k) {a | a ∈ [Reg.PMU_PD_CMD, Reg.PMU_PD_STATE (d / 32), Reg.PMU_CNT k]} [.regs, .power] := by
  have hbound := pdState_bound hd
  obtain ⟨hdom, hrun, hbusy, hframe⟩ := s.pdStart_starts hd op
  generalize s.pdStart op d = t at *
  have hcnt : t.reg (Reg.PMU_CNT k) = s.reg (Reg.PMU_CNT k) := hframe.reg_kept _ (by
    simp only [List.mem_cons, List.not_mem_nil, or_false, Reg.PMU_CNT, Reg.PMU_PD_CMD]
    omega)
  refine ⟨(State.dom_of_reg (State.reg_bump_other _ ?_)).trans hdom, hrun, (State.flag_bump_other _ _ ?_).trans hbusy,
    (State.reg_bump_self _ _).trans (congrArg (· + 1) hcnt), (hframe.mono (by
      intro a ha
      simp only [Set.mem_ofPred_eq, List.mem_cons, List.not_mem_nil, or_false] at ha ⊢
      tauto) (by simp)).bump _⟩
  · simp only [Reg.PMU_CNT]
    omega
  · simp only [Reg.PMU_CNT, Reg.PMU_PD_CMD]
    omega

/-! ### QUIESCE -/

/-- A unit on its way to STATE 5. -/
structure State.quiets (s t : State) (u : Nat) : Prop where
  state : t.unitState u = 5
  others : ∀ v < 315, v ≠ u → t.unitState v = s.unitState v
  power : s.keepsPower t
  active : t.activeCc = s.activeCc

/-- The unit's STATE and the end of its window or timer. -/
def State.unitOut (s : State) (u : Nat) : State :=
  let st := s.unitState u
  let s := if st = 4 then { s with fault := { s.fault with keptUnder := Tbl.set false s.fault.keptUnder u true } } else s
  let s := (s.setFld (Reg.FLT_UNIT u) Fld.FLT_UNIT_STATE 5).stopTimer u
  if s.fld Reg.FLT_ESC_CMD Fld.FLT_ESC_CMD_UNIT = u then s.setFld Reg.FLT_ESC_CMD Fld.FLT_ESC_CMD_BUSY 0 else s

theorem State.unitOut_goes (s : State) (u : Nat) : (s.unitOut u).unitState u = 5
    ∧ s.within (s.unitOut u) {a | a ∈ [Reg.FLT_UNIT u, Reg.FLT_ESC_CMD]} [.regs, .fault] := by
  unfold State.unitOut
  extract_lets st _ kept out
  have hkept : s.onlyParts kept [.fault] := by
    unfold kept
    split
    · exact s.setFault_only _
    · exact s.onlyParts_refl _
  clear_value kept
  have hout : out.unitState u = 5 := State.fld_setFld_fits kept _ (by decide) (by decide)
  have hframe : s.within out {a | a ∈ [Reg.FLT_UNIT u, Reg.FLT_ESC_CMD]} [.regs, .fault] :=
    (((State.within.refl s _ _).rest hkept).setFld (Reg.FLT_UNIT u) _ _).rest (State.setFault_only _ _)
  clear_value out
  split
  · exact ⟨(State.unitState_of_reg (State.reg_setFld_other _ _ _ (fltUnit_ne_escCmd u))).trans hout, hframe.setFld _ _ _⟩
  · exact ⟨hout, hframe⟩

theorem State.quietUnit.lt {s : State} {u : Nat} (h : s.quietUnit u) : u < 315 := by
  unfold State.quietUnit at h
  omega

theorem State.quiesceUnit_quiets (s : State) {u : Nat} (hquiet : s.quietUnit u) : s.quiets (s.quiesceUnit u) u := by
  have hu := hquiet.lt
  obtain ⟨hstate, hframe⟩ := s.unitOut_goes u
  have heq : s.quiesceUnit u = if s.unitState u = 0 then (s.unitOut u).isolate u else s.unitOut u := rfl
  rw [heq]
  have hrange {v : Nat} (hv : v < 315) (hne : v ≠ u) : Reg.FLT_UNIT v ∉ [Reg.FLT_UNIT u, Reg.FLT_ESC_CMD] := by
    simp only [List.mem_cons, List.not_mem_nil, or_false, Reg.FLT_UNIT, Reg.FLT_ESC_CMD]
    omega
  have hfar {a : Nat} (ha : 0x60000 ≤ a) : a ∉ [Reg.FLT_UNIT u, Reg.FLT_ESC_CMD] := by
    simp only [List.mem_cons, List.not_mem_nil, or_false, Reg.FLT_UNIT, Reg.FLT_ESC_CMD]
    omega
  have hout : s.quiets (s.unitOut u) u :=
    ⟨hstate, fun v hv hne => State.unitState_of_reg (hframe.1 _ (hrange hv hne)),
      ⟨fun a hlo _ => hframe.1 a (hfar hlo), hframe.2.2 .power (by decide)⟩, State.activeCc_of_reg (hframe.1 _ (hfar (by decide)))⟩
  generalize s.unitOut u = t at *
  split
  · have hstill : t.quietUnit u := by rwa [State.quietUnit, hout.active]
    obtain ⟨hkeeps, hempties⟩ := t.isolate_quiet hstill
    exact ⟨(hkeeps u hu).trans hstate, fun v hv hne => (hkeeps v hv).trans (hout.others v hv hne), hout.power.trans hempties.keepsPower,
      (State.activeCc_of_reg (hempties.regs _ (by rw [mem_emptyRegs]; decide))).trans hout.active⟩
  · exact hout

/-- The units listed go to STATE 5 one after the other. -/
theorem State.quiesceUnits_quiet (l : List Nat) (s : State) (h : ∀ u ∈ l, s.quietUnit u) :
    (∀ u ∈ l, (forEach l (fun u t => t.quiesceUnit u) s).unitState u = 5) ∧ s.keepsPower (forEach l (fun u t => t.quiesceUnit u) s)
      ∧ ∀ v < 315, v ∉ l → (forEach l (fun u t => t.quiesceUnit u) s).unitState v = s.unitState v := by
  induction l generalizing s with
  | nil => exact ⟨fun _ hu => absurd hu (by simp), .refl s, fun _ _ _ => rfl⟩
  | cons u l ih =>
    have hfirst := s.quiesceUnit_quiets (h u (by simp))
    have hrest (v : Nat) (hv : v ∈ l) : (s.quiesceUnit u).quietUnit v := by
      rw [State.quietUnit, hfirst.active]
      exact h v (by simp [hv])
    have heq : forEach (u :: l) (fun u t => t.quiesceUnit u) s = forEach l (fun u t => t.quiesceUnit u) (s.quiesceUnit u) := rfl
    rw [heq]
    generalize s.quiesceUnit u = t at *
    obtain ⟨hstates, hpower, hothers⟩ := ih t hrest
    refine ⟨fun v hv => ?_, hfirst.power.trans hpower, fun v hv hnot => ?_⟩
    · by_cases hin : v ∈ l
      · exact hstates v hin
      · obtain rfl : v = u := by simpa [hin] using hv
        exact (hothers v (h v (by simp)).lt hin).trans hfirst.state
    · simp only [List.mem_cons, not_or] at hnot
      exact (hothers v hv hnot.2).trans (hfirst.others v hv hnot.1)

/-- The units of a domain that QUIESCE accepts. -/
theorem domUnits_quiet {s : State} {d : Nat} (hswitch : domSwitchable d = true) (hbar : s.quiesceBar d = none) {u : Nat}
    (hu : u ∈ domUnits d) : s.quietUnit u := by
  have hd : d < 64 ∨ 65 ≤ d ∧ d < 68 ∨ d = 75 ∨ d = 76 ∨ d = 77 := by
    simp only [domSwitchable, Bool.or_eq_true, Bool.and_eq_true, decide_eq_true_eq, beq_iff_eq] at hswitch
    omega
  unfold domUnits at hu
  rcases hd with hlow | ⟨hlo, hhi⟩ | rfl | rfl | rfl
  · left
    split at hu
    · simp only [List.mem_map, List.mem_range, unitPort] at hu
      omega
    · split at hu
      · simp only [List.mem_singleton, unitSlice] at hu
        omega
      · simp only [List.mem_singleton, unitShard] at hu
        omega
  · left
    rw [if_neg (by omega), if_neg (by omega), if_neg (by omega), if_pos hhi] at hu
    simp only [List.mem_cons, List.not_mem_nil, or_false, unitTumbler, unitTm] at hu
    omega
  · obtain rfl : u = 312 := List.mem_singleton.1 hu
    exact .inr (.inr ⟨.inl rfl, fun hactive => by simp [State.quiesceBar, hactive] at hbar⟩)
  · obtain rfl : u = 313 := List.mem_singleton.1 hu
    exact .inr (.inr ⟨.inr rfl, fun hactive => by simp [State.quiesceBar, hactive] at hbar⟩)
  · exact .inr (.inl (List.mem_singleton.1 hu))

theorem quiesce_quiets {s : State} {d : Nat} (hd : d < 80) (hidle : s.flag Reg.PMU_PD_CMD Fld.PMU_PD_CMD_BUSY = false)
    (hswitch : domSwitchable d = true) (hphase : s.phase = 11) (hdom : s.dom d = 1) (hbar : s.quiesceBar d = none) :
    (quiesce d s).dom d = 3 ∧ (quiesce d s).power.pdRun = some (1, d) ∧ (∀ u ∈ domUnits d, (quiesce d s).unitState u = 5)
      ∧ (quiesce d s).flag Reg.PMU_PD_CMD Fld.PMU_PD_CMD_BUSY = true
      ∧ (quiesce d s).reg (Reg.PMU_CNT Cnt.PMU_QUIESCES) = s.reg (Reg.PMU_CNT Cnt.PMU_QUIESCES) + 1 := by
  have hbound := pdState_bound hd
  obtain ⟨hstarted, hrun, hbusy, hframe⟩ := s.pdStart_starts hd 1
  have heq : quiesce d s = let t := forEach (domUnits d) (fun u t => t.quiesceUnit u) (s.pdStart 1 d)
      ((if 64 ≤ d then t.poolNote 1 else t).showUnits).pmuBump Cnt.PMU_QUIESCES := by
    unfold quiesce
    rw [hbar, s.pdCmd_accepts hd _ hidle hswitch hphase (by simp [hdom])]
  have hccx : (s.pdStart 1 d).activeCc = s.activeCc := State.activeCc_of_reg (hframe.reg_kept _ (by
    simp only [List.mem_cons, List.not_mem_nil, or_false, Reg.CCX_STATUS, Reg.PMU_PD_CMD]
    omega))
  have hcnt : (s.pdStart 1 d).reg (Reg.PMU_CNT Cnt.PMU_QUIESCES) = s.reg (Reg.PMU_CNT Cnt.PMU_QUIESCES) := hframe.reg_kept _ (by
    simp only [List.mem_cons, List.not_mem_nil, or_false, Reg.PMU_CNT, Cnt.PMU_QUIESCES, Reg.PMU_PD_CMD]
    omega)
  have hquiet (u : Nat) (hu : u ∈ domUnits d) : (s.pdStart 1 d).quietUnit u := by
    rw [State.quietUnit, hccx]
    exact domUnits_quiet hswitch hbar hu
  rw [heq]
  generalize s.pdStart 1 d = b at *
  obtain ⟨hstates, hpower, -⟩ := b.quiesceUnits_quiet (domUnits d) hquiet
  generalize forEach (domUnits d) (fun u t => t.quiesceUnit u) b = t at *
  dsimp only
  obtain ⟨v, hv, hnote⟩ : ∃ v, v = (if 64 ≤ d then t.poolNote 1 else t) ∧ t.onlyParts v [.pools] :=
    ⟨_, rfl, by
      split
      · exact t.poolNote_only 1
      · exact t.onlyParts_refl _⟩
  rw [← hv]
  have hshown := v.showUnits_within
  have hkeeps : b.keepsPower v.showUnits := (hpower.trans (State.keepsPower_of_rest hnote)).trans
    (hshown.keepsPower (by simp [showRegs, Reg.FLT_STATUS, Reg.HIF_CNT, Cnt.HIF_MSIX_SENT]))
  have hshownstates (u : Nat) (hu : u ∈ domUnits d) : v.showUnits.unitState u = 5 :=
    (State.unitState_of_reg ((hshown.1 _ (fltUnit_not_show (hquiet u hu).lt)).trans (hnote.reg_eq (by decide) _))).trans (hstates u hu)
  generalize v.showUnits = w at *
  have hcount {a : Nat} (ha : a ≠ Reg.PMU_CNT Cnt.PMU_QUIESCES) : (w.pmuBump Cnt.PMU_QUIESCES).reg a = w.reg a := State.reg_bump_other _ ha
  refine ⟨(State.dom_of_reg ((hcount ?_).trans (hkeeps.regs _ (by omega) (by omega)))).trans hstarted,
    (congrArg PowerSt.pdRun hkeeps.power).trans hrun, fun u hu => (State.unitState_of_reg (hcount ?_)).trans (hshownstates u hu),
    (State.flag_of_reg ((hcount (by decide)).trans (hkeeps.regs _ (by decide) (by decide))) _).trans hbusy,
    (State.reg_bump_self _ _).trans (congrArg (· + 1) ((hkeeps.regs _ (by decide) (by decide)).trans hcnt))⟩
  · simp only [Reg.PMU_CNT, Cnt.PMU_QUIESCES]
    omega
  · have := (hquiet u hu).lt
    simp only [Reg.PMU_CNT, Cnt.PMU_QUIESCES, Reg.FLT_UNIT]
    omega

/-! ### ON -/

section
variable (s : State)

theorem State.twinReturn_keepsPower : s.keepsPower s.twinReturn := by
  have hpass (t : State) : t.keepsPower t.startPass := by
    have hshown : t.keepsPower (((t.setSync 1).bump (Reg.TWN_CNT Cnt.TWN_SYNC_PASSES)).setReg Reg.TWN_SYNC 0) :=
      ((t.setFld_keepsPower (by decide) _ _).trans (State.bump_keepsPower _ (by decide))).trans (State.setReg_keepsPower _ (by decide) _)
    unfold State.startPass
    split
    · exact .refl t
    · dsimp only
      generalize ((t.setSync 1).bump (Reg.TWN_CNT Cnt.TWN_SYNC_PASSES)).setReg Reg.TWN_SYNC 0 = u at *
      exact hshown.trans (State.keepsPower_of_rest (u.setTwin_within _ ∅).2)
  unfold State.twinReturn
  extract_lets own raised
  have hraised : s.keepsPower raised := by
    unfold raised
    split
    · exact s.setFld_keepsPower (by decide) _ _
    · exact .refl s
  clear_value raised
  exact hraised.trans (hpass raised)

theorem State.returnUnit_keepsPower {u : Nat} (hu : u < 315) : s.keepsPower (s.returnUnit u) := by
  have hup : s.keepsPower (s.unitUp u) := s.unitUp_shows.2.keepsPower (by
    simp only [Set.mem_ofPred_eq, List.mem_singleton, Reg.FLT_UNIT]
    omega)
  unfold State.returnUnit
  extract_lets up own
  have hown : up.keepsPower own := by
    unfold own
    split
    · exact up.setFld_keepsPower (by decide) _ _
    · split
      · exact up.twinReturn_keepsPower
      · split
        · exact State.keepsPower_of_rest (up.hbStart_only _)
        · exact .refl up
  exact (hup.trans hown).trans (own.resyncUnit_keeps hu).2.keepsPower

theorem State.servicesMove_keepsPower : s.keepsPower s.servicesMove :=
  s.servicesMove_within.keepsPower fun a ha => by
    by_contra hin
    exact not_mem_lopStatusRegs (.inr (by omega)) ha

theorem claimReg_outside (x : Nat) : claimReg x < 0x60000 ∨ 0x61000 ≤ claimReg x := by
  have := claimReg_range x
  omega

theorem State.raiseClaim_keepsPower {x : Nat} (hx : x < 2) (c : Nat) : s.keepsPower (s.raiseClaim x c).2 := by
  have hsend (t : State) (src kind cls addr : Nat) : t.keepsPower (t.sendFault src kind cls addr) :=
    (t.sendFault_within src kind cls addr).keepsPower (by simp [Reg.FLT_CNT, Cnt.FLT_SRC_OVF_LOST])
  have hopen (t : State) : t.keepsPower (t.openWindow (unitComplex x)) := (t.openWindow_within _).keepsPower fun a ha => by
    simp only [Set.mem_ofPred_eq, List.mem_cons, List.not_mem_nil, or_false, Reg.FLT_UNIT, Reg.FLT_CNT, unitComplex, Cnt.FLT_FENCES] at ha
    omega
  unfold State.raiseClaim
  extract_lets n drawn raised tied
  have hraised : s.keepsPower raised := (s.setFld_keepsPower (claimReg_outside x) _ _).trans (State.setFld_keepsPower _ (by decide) _ _)
  have htied : raised.keepsPower tied := (raised.bump_keepsPower (by decide)).trans (State.setFld_keepsPower _ (by decide) _ _)
  clear_value tied raised
  split
  · have hdrawn : s.keepsPower drawn.2 := State.keepsPower_of_rest s.draw_rest
    exact hdrawn.trans (hsend drawn.2 (srcComplex x) 0x084 2 drawn.1.toNat)
  · split
    · exact ((hraised.trans htied).trans (hsend _ _ _ _ _)).trans (hopen _)
    · exact hraised

theorem State.returnCc_keepsPower {x : Nat} (hx : x < 2) : s.keepsPower (s.returnCc x).2 := by
  unfold State.returnCc
  extract_lets y r
  split
  · exact s.setFld_keepsPower (claimReg_outside x) _ _
  · have hraised : s.keepsPower r.2 := s.raiseClaim_keepsPower hx _
    clear_value r
    split
    · exact (hraised.trans (State.setFld_keepsPower _ (by decide) _ _)).trans (State.servicesMove_keepsPower _)
    · exact hraised

theorem fltUnit_outside {u : Nat} (hu : u < 315) : Reg.FLT_UNIT u < 0x60000 ∨ 0x61000 ≤ Reg.FLT_UNIT u := by
  have := fltUnit_range hu
  omega

theorem State.pdReturn_keepsPower {u : Nat} (hu : u < 315) (ok : Bool) : s.keepsPower (s.pdReturn u ok) := by
  unfold State.pdReturn
  split
  · exact (State.keepsPower_of_rest (s.setFault_only _)).trans (State.setFld_keepsPower _ (fltUnit_outside hu) _ _)
  · split
    · split
      · have hcc : s.keepsPower (s.returnCc (u - 312)).2 := s.returnCc_keepsPower (by omega)
        dsimp only
        generalize s.returnCc (u - 312) = r at *
        split
        · exact hcc.trans (r.2.returnUnit_keepsPower hu)
        · exact hcc
      · exact s.returnUnit_keepsPower hu
    · exact s.setFld_keepsPower (fltUnit_outside hu) _ _

end

/-- The units of a domain are among R385's. -/
theorem domUnits_lt {d u : Nat} (hu : u ∈ domUnits d) : u < 315 := by
  unfold domUnits at hu
  repeat' split at hu
  all_goals simp only [List.mem_map, List.mem_range, List.mem_cons, List.not_mem_nil, or_false, unitPort, unitSlice, unitShard, unitTumbler,
    unitTm, unitDmc, unitComplex, unitTwin, unitHif] at hu
  all_goals omega

/-- ON has been carried out: what the domain initialises and its units' return leave its command. -/
theorem State.pdOnDone_shows (s : State) {d : Nat} (hd : d < 80) (fresh ok : Bool) :
    (s.pdOnDone d fresh ok).dom d = 1 ∧ (s.pdOnDone d fresh ok).power = s.power
      ∧ (s.pdOnDone d fresh ok).flag Reg.PMU_PD_CMD Fld.PMU_PD_CMD_BUSY = s.flag Reg.PMU_PD_CMD Fld.PMU_PD_CMD_BUSY := by
  have hbound := pdState_bound hd
  have hne : Reg.PMU_PD_CMD ≠ Reg.PMU_PD_STATE (d / 32) := by simp only [Reg.PMU_PD_CMD]; omega
  unfold State.pdOnDone
  extract_lets on _ rebuilt _ loaded back shown
  have hon : on.dom d = 1 ∧ on.power = s.power
      ∧ on.flag Reg.PMU_PD_CMD Fld.PMU_PD_CMD_BUSY = s.flag Reg.PMU_PD_CMD Fld.PMU_PD_CMD_BUSY := by
    obtain ⟨b, hb, hinit⟩ : ∃ b, b = (if fresh = true then s.initDomain d else s) ∧ s.keepsPower b := ⟨_, rfl, by
      split
      · exact s.initDomain_keepsPower d
      · exact .refl s⟩
    have heq : on = b.setDom d 1 := by rw [hb]
    rw [heq]
    exact ⟨b.dom_setDom 1 (by decide), hinit.power, (State.flag_setFld_other _ _ _ _ hne).trans
      (State.flag_of_reg (hinit.regs _ (by decide) (by decide)) _)⟩
  clear_value on
  have hrebuilt : on.keepsPower rebuilt := by
    unfold rebuilt
    split
    · exact State.keepsPower_of_rest (on.setFault_only _)
    · exact .refl on
  clear_value rebuilt
  have hloaded : rebuilt.keepsPower loaded := by
    unfold loaded
    split
    · split
      · exact State.keepsPower_of_rest (rebuilt.loadFirmware_only _)
      · exact State.keepsPower_of_rest (rebuilt.setCcx_only _)
    · exact .refl rebuilt
  clear_value loaded
  have hback : loaded.keepsPower back :=
    forEach_induct (fun t => loaded.keepsPower t) _ _ loaded (.refl loaded) fun u t hu ht =>
      ht.trans (t.pdReturn_keepsPower (domUnits_lt hu) ok)
  clear_value back
  have hshown : back.keepsPower shown :=
    back.showUnits_within.keepsPower (by simp [showRegs, Reg.FLT_STATUS, Reg.HIF_CNT, Cnt.HIF_MSIX_SENT])
  clear_value shown
  have hkeeps := ((hrebuilt.trans hloaded).trans hback).trans hshown
  have hdom : shown.dom d = 1 := (State.dom_of_reg (hkeeps.regs _ (by omega) (by omega))).trans hon.1
  have hpower : shown.power = s.power := hkeeps.power.trans hon.2.1
  have hbusy : shown.flag Reg.PMU_PD_CMD Fld.PMU_PD_CMD_BUSY = s.flag Reg.PMU_PD_CMD Fld.PMU_PD_CMD_BUSY :=
    (State.flag_of_reg (hkeeps.regs _ (by decide) (by decide)) _).trans hon.2.2
  split
  · refine ⟨(State.dom_of_reg ?_).trans hdom, hpower, ?_⟩
    · exact (State.reg_setFld_other _ _ _ hne.symm).trans (State.reg_setFld_other _ _ _ hne.symm)
    · exact ((State.flag_setFld_disjoint _ _ _ (by decide)).trans (State.flag_setFld_disjoint _ _ _ (by decide))).trans hbusy
  · exact ⟨hdom, hpower, hbusy⟩

/-! ### PD_CMD_COMPLETE -/

/-- The command is no longer carried out. -/
def State.pdEnded (s : State) : State :=
  (State.setFld { s with power := { s.power with pdRun := none } } Reg.PMU_PD_CMD Fld.PMU_PD_CMD_BUSY 0).setFld Reg.PMU_PD_CMD
    Fld.PMU_PD_CMD_OP 0

theorem State.pdEnded_ends (s : State) : s.pdEnded.power.pdRun = none ∧ s.pdEnded.flag Reg.PMU_PD_CMD Fld.PMU_PD_CMD_BUSY = false
    ∧ s.within s.pdEnded {a | a ∈ [Reg.PMU_PD_CMD]} [.regs, .power] := by
  obtain ⟨t, ht, hrun, hrest⟩ : ∃ t : State, t = { s with power := { s.power with pdRun := none } } ∧ t.power.pdRun = none
      ∧ s.onlyParts t [.power] := ⟨_, rfl, rfl, s.setPower_only _⟩
  have heq : s.pdEnded = (t.setFld Reg.PMU_PD_CMD Fld.PMU_PD_CMD_BUSY 0).setFld Reg.PMU_PD_CMD Fld.PMU_PD_CMD_OP 0 := by rw [ht]; rfl
  rw [heq]
  exact ⟨hrun, (State.flag_setFld_disjoint _ _ _ (by decide)).trans (State.flag_setFld_zero _ _ ⟨rfl, by decide⟩),
    (((State.within.refl s _ _).rest hrest).setFld _ _ _).setFld _ _ _⟩

theorem pdCmdComplete_eq {s : State} {op d : Nat} (hrun : s.power.pdRun = some (op, d)) (ok : Bool) :
    pdCmdComplete ok s = if op = 1 then s.pdEnded.setDom d 2 else if op = 2 then s.pdEnded.setDom d 0
      else s.pdEnded.pdOnDone d (op == 3) ok := by
  unfold pdCmdComplete
  rw [hrun]
  rfl

/-- QUIESCE or OFF has been carried out. -/
theorem pdCmdComplete_leaves {s : State} {op d : Nat} (hrun : s.power.pdRun = some (op, d)) (hd : d < 80) (hop : op = 1 ∨ op = 2) :
    (pdCmdComplete true s).dom d = (if op = 1 then 2 else 0) ∧ (pdCmdComplete true s).power.pdRun = none
      ∧ (pdCmdComplete true s).flag Reg.PMU_PD_CMD Fld.PMU_PD_CMD_BUSY = false
      ∧ s.within (pdCmdComplete true s) {a | a ∈ [Reg.PMU_PD_CMD, Reg.PMU_PD_STATE (d / 32)]} [.regs, .power] := by
  have hbound := pdState_bound hd
  have heq : pdCmdComplete true s = s.pdEnded.setDom d (if op = 1 then 2 else 0) := by
    rw [pdCmdComplete_eq hrun]
    obtain rfl | rfl := hop <;> rfl
  obtain ⟨hended, hbusy, hframe⟩ := s.pdEnded_ends
  rw [heq]
  generalize s.pdEnded = t at *
  refine ⟨t.dom_setDom _ (by split <;> decide), hended, (State.flag_setFld_other _ _ _ _ ?_).trans hbusy, ?_⟩
  · simp only [Reg.PMU_PD_CMD]
    omega
  · have hwide : s.within t {a | a ∈ [Reg.PMU_PD_CMD, Reg.PMU_PD_STATE (d / 32)]} [.regs, .power] :=
      hframe.mono (fun a ha => List.mem_cons.2 (.inl (List.mem_singleton.1 ha))) (by simp)
    exact hwide.setFld _ _ _

/-- ON has been carried out. -/
theorem pdCmdComplete_on {s : State} {op d : Nat} (hrun : s.power.pdRun = some (op, d)) (hd : d < 80) (hop : op = 3 ∨ op = 4) (ok : Bool) :
    (pdCmdComplete ok s).dom d = 1 ∧ (pdCmdComplete ok s).power.pdRun = none
      ∧ (pdCmdComplete ok s).flag Reg.PMU_PD_CMD Fld.PMU_PD_CMD_BUSY = false := by
  obtain ⟨hended, hbusy, -⟩ := s.pdEnded_ends
  rw [pdCmdComplete_eq hrun, if_neg (by omega), if_neg (by omega)]
  generalize s.pdEnded = t at *
  obtain ⟨hdom, hpower, hflag⟩ := t.pdOnDone_shows hd (op == 3) ok
  exact ⟨hdom, (congrArg PowerSt.pdRun hpower).trans hended, hflag.trans hbusy⟩

/-! ### SHUTDOWN -/

/-- The registers of PD_AON's journal that the flush moves. -/
def flushRegs : List Nat := Reg.CST_CNT Cnt.CST_JNL_ENTRIES :: recordRegs

theorem State.jnlFlush_flushes (s : State) : s.jnlFlush.cast.jq = [] ∧ s.within s.jnlFlush {a | a ∈ flushRegs} [.regs, .cast] := by
  obtain ⟨t, ht, hempty, hrest⟩ : ∃ t : State, t = { s with cast := { s.cast with jq := [] } } ∧ t.cast.jq = [] ∧ s.onlyParts t [.cast] :=
    ⟨_, rfl, rfl, s.setCast_only _⟩
  have heq : s.jnlFlush = forEach s.cast.jq (fun e t => t.jnlWrite e) t := by rw [ht]; rfl
  rw [heq]
  refine forEach_induct (fun u => u.cast.jq = [] ∧ s.within u {a | a ∈ flushRegs} [.regs, .cast]) _ _ t
    ⟨hempty, (State.within.refl s _ _).rest hrest⟩ fun e u _ hu => ?_
  obtain ⟨w, hw, hwrites⟩ := u.jnlWrite_writes e
  have hwritten : s.within w {a | a ∈ flushRegs} [.regs, .cast] :=
    hu.2.step hwrites.rest (fun a ha => List.mem_cons.2 (.inr ha))
  rw [hw]
  exact ⟨hwrites.jq.trans hu.1, hwritten.bump _ List.mem_cons_self⟩

theorem shutdownCmd_stops {s : State} (hphase : s.phase = 11) (hrun : s.power.shutdown = false) :
    (shutdownCmd s).power = { s.power with shutdown := true } ∧ (shutdownCmd s).dram.freq = .selfRefresh ∧ (shutdownCmd s).cast.jq = []
      ∧ (shutdownCmd s).flag Reg.GLB_STATUS Fld.GLB_STATUS_DEV_READY = false
      ∧ (shutdownCmd s).flag Reg.GLB_STATUS Fld.GLB_STATUS_SAFE_OFF = true ∧ s.onlyParts (shutdownCmd s) [.regs, .power, .dram, .cast] := by
  obtain ⟨down, hdown⟩ : ∃ t, t = s.setFld Reg.GLB_STATUS Fld.GLB_STATUS_DEV_READY 0 := ⟨_, rfl⟩
  have hready : down.flag Reg.GLB_STATUS Fld.GLB_STATUS_DEV_READY = false := hdown ▸ State.flag_setFld_zero _ _ ⟨rfl, by decide⟩
  have hdownrest : s.onlyParts down [.regs] := hdown ▸ s.setFld_rest _ _ _
  obtain ⟨marked, hmarked, hshut, hmarkedrest⟩ : ∃ t : State, t = { down with power := { down.power with shutdown := true } }
      ∧ t.power = { down.power with shutdown := true } ∧ down.onlyParts t [.power] := ⟨_, rfl, rfl, down.setPower_only _⟩
  obtain ⟨hempty, hflushed⟩ := marked.jnlFlush_flushes
  obtain ⟨resting, hresting⟩ : ∃ t, t = forEach marked.jnlFlush.channels (fun c t => t.setFld (Reg.DMC_STATUS c) Fld.DMC_STATUS_IN_SR 1)
      marked.jnlFlush := ⟨_, rfl⟩
  have hrests : marked.jnlFlush.onlyParts resting [.regs] ∧ resting.reg Reg.GLB_STATUS = marked.jnlFlush.reg Reg.GLB_STATUS :=
    hresting ▸ forEach_induct (fun t => marked.jnlFlush.onlyParts t [.regs] ∧ t.reg Reg.GLB_STATUS = marked.jnlFlush.reg Reg.GLB_STATUS) _ _ _
      ⟨State.onlyParts_refl _ _, rfl⟩ fun c t _ ht => ⟨ht.1.setFld _ _ _, (State.reg_setFld_other _ _ _ (by
        simp only [Reg.GLB_STATUS, Reg.DMC_STATUS]
        omega)).trans ht.2⟩
  obtain ⟨slow, hslow, hfreq, hslowrest⟩ : ∃ t : State, t = { resting with dram := { resting.dram with freq := .selfRefresh } }
      ∧ t.dram.freq = .selfRefresh ∧ resting.onlyParts t [.dram] := ⟨_, rfl, rfl, (resting.setDram_within _ ∅).2⟩
  have heq : shutdownCmd s = slow.setFld Reg.GLB_STATUS Fld.GLB_STATUS_SAFE_OFF 1 := by
    rw [hslow, hresting, hmarked, hdown]
    exact if_neg (by simp [hphase, hrun])
  have hkept : slow.flag Reg.GLB_STATUS Fld.GLB_STATUS_DEV_READY = false := by
    have hreg : slow.reg Reg.GLB_STATUS = down.reg Reg.GLB_STATUS := (hslowrest.reg_eq (by decide) _).trans
      (hrests.2.trans ((hflushed.reg_kept _).trans (hmarkedrest.reg_eq (by decide) _)))
    exact (State.flag_of_reg hreg _).trans hready
  have hpower : slow.power = { s.power with shutdown := true } := by
    rw [hslowrest.2 .power (by decide), hrests.1.2 .power (by decide), hflushed.2.2 .power (by decide), hshut,
      hdownrest.2 .power (by decide)]
  have hjq : slow.cast.jq = [] := by
    rw [hslowrest.2 .cast (by decide), hrests.1.2 .cast (by decide), hempty]
  have hframe : s.onlyParts slow [.regs, .power, .dram, .cast] :=
    ((((State.onlyParts_mono hdownrest (by simp)).step hmarkedrest).step hflushed.2).step hrests.1).step hslowrest
  rw [heq]
  exact ⟨hpower, hfreq, hjq, (State.flag_setFld_disjoint _ _ _ (by decide)).trans hkept, State.flag_setFld_one _ _ ⟨rfl, by decide⟩,
    hframe.setFld _ _ _⟩

/-- Settles O59: PD_CMD and SHUTDOWN. -/
theorem powerDomains : Obligations.PowerDomains := by
  unfold Obligations.PowerDomains
  refine ⟨fun s d hidle hd hswitch hphase hdom hbar => ⟨_, rfl, quiesce_quiets hd hidle hswitch hphase hdom hbar⟩,
    fun s d hidle hd hswitch hphase hdom hbar => ?_, fun s d hidle hd hswitch hphase hdom hbar => ?_, fun s d c hc hbusy => ?_,
    fun s d op hrun hd hop => ?_, fun s d op ok hrun hd hop => ⟨_, rfl, pdCmdComplete_on hrun hd hop ok⟩, fun s hphase hrun => ?_⟩
  · have heq : pdOff d.val s = (s.pdStart 2 d.val).pmuBump Cnt.PMU_OFFS := by
      rw [pdOff, hbar, s.pdCmd_accepts hd _ hidle hswitch hphase (by simp [hdom])]
    obtain ⟨hstarted, hrun, hbusy, hcount, hframe⟩ := s.pdStart_counted hd 2 (k := Cnt.PMU_OFFS) (by decide)
    exact ⟨_, done_eq_next_of_eq heq hframe.2 (by decide), hstarted, hrun, hbusy, hcount, hframe.listed rfl, hframe.2⟩
  · have heq : pdOn d.val s = (s.pdStart (if s.dom d.val = 0 then 3 else 4) d.val).pmuBump Cnt.PMU_ONS := by
      rw [pdOn, hbar, s.pdCmd_accepts hd _ hidle hswitch hphase (by simpa using hdom)]
    obtain ⟨hstarted, hrun, hbusy, hcount, hframe⟩ :=
      s.pdStart_counted hd (if s.dom d.val = 0 then 3 else 4) (k := Cnt.PMU_ONS) (by decide)
    exact ⟨_, done_eq_next_of_eq heq hframe.2 (by decide), hstarted, hrun, hbusy, hcount, hframe.listed rfl, hframe.2⟩
  · obtain ⟨herr, hcode, hcount, hframe⟩ := s.pdRefuse_shows (code := 1) (by decide)
    have heq : exec c s = done s (s.pdRefuse 1) := by
      simp only [List.mem_cons, List.not_mem_nil, or_false] at hc
      obtain rfl | rfl | rfl := hc
      · exact congrArg (done s) (State.pdCmd_busy hbusy 1 d.val _ _ _)
      · exact congrArg (done s) (State.pdCmd_busy hbusy 2 d.val _ _ _)
      · exact congrArg (done s) (State.pdCmd_busy hbusy 3 d.val _ _ _)
    exact ⟨_, heq.trans (done_eq_next_of_eq rfl hframe.2 (by decide)), herr, hcode, hcount, hframe.listed rfl, hframe.2⟩
  · obtain ⟨hdom, hended, hbusy, hframe⟩ := pdCmdComplete_leaves hrun hd hop
    exact ⟨_, done_eq_next_of_eq rfl hframe.2 (by decide), hdom, hended, hbusy, hframe.listed rfl, hframe.2⟩
  · have hstops := shutdownCmd_stops hphase hrun
    exact ⟨_, done_eq_next_of_eq rfl hstops.2.2.2.2.2 (by decide), hstops⟩

end Sys2Proof.Machine
end

section
/-! PROOF. Twin heartbeats, silence and the twin link (R415 to R417, R420, R421, R424). -/

namespace Sys2Proof.Machine

set_option Elab.async false

theorem State.setTwin_rest (s : State) (x : TwinSt) : s.onlyParts { s with twin := x } [.twin] := (s.setTwin_within x ∅).2

/-! ### Heartbeats sent -/

theorem twinHeartbeatSend_sends {s : State} {p : Nat} (hbeats : s.beats = true) (hlink : s.twin.linkSent = none)
    (hside : s.twin.sideSent = none) (hup : s.down unitTwin = false) :
    ∃ t, done s (twinHeartbeatSend p s) = .next t
      ∧ t.twin.sent = some ⟨s.ownClaim, s.twinRole, s.twnFld Fld.TWN_STATUS_SYNC, s.fld Reg.TWN_PARTNER Fld.TWN_PARTNER_PROMOTIONS⟩
      ∧ (if p = 0 then t.twin.linkSent else t.twin.sideSent) = some s.clk.mono ∧ s.onlyParts t [.twin] := by
  have hlast : (if p = 0 then s.twin.linkSent else s.twin.sideSent) = none := by split <;> assumption
  have hgo : ¬(s.beats = false ∨ true = false ∨ (p = 0 ∧ s.down unitTwin = true)) := by simp [hbeats, hup]
  unfold twinHeartbeatSend
  dsimp only
  rw [hlast]
  dsimp only
  rw [if_neg hgo]
  split
  · exact ⟨_, done_eq_next_of_eq rfl (s.setTwin_rest _) (by decide), rfl, rfl, s.setTwin_rest _⟩
  · exact ⟨_, done_eq_next_of_eq rfl (s.setTwin_rest _) (by decide), rfl, rfl, s.setTwin_rest _⟩

/-! ### A partner's heartbeat -/

/-- Parts that a partner's heartbeat or its silence may change. -/
def twinParts : List Part := [.regs, .fault, .free, .cast, .twin]

/-- What follows a heartbeat noted: claims, the partner's state, the comparison's outcome and the times of the paths stand. -/
structure State.pairStep (s t : State) : Prop where
  claim : t.reg Reg.TWN_CLAIM = s.reg Reg.TWN_CLAIM
  partner : t.reg Reg.TWN_PARTNER = s.reg Reg.TWN_PARTNER
  lost : t.flag Reg.TWN_STATUS Fld.TWN_STATUS_PARTNER_LOST = s.flag Reg.TWN_STATUS Fld.TWN_STATUS_PARTNER_LOST
  err : t.twnFld Fld.TWN_STATUS_PAIR_ERR = s.twnFld Fld.TWN_STATUS_PAIR_ERR
  linkAt : t.twin.linkAt = s.twin.linkAt
  sideAt : t.twin.sideAt = s.twin.sideAt
  paired : t.twin.paired = s.twin.paired
  rest : s.onlyParts t twinParts

theorem State.pairStep.refl (s : State) : s.pairStep s := ⟨rfl, rfl, rfl, rfl, rfl, rfl, rfl, s.onlyParts_refl _⟩

theorem State.pairStep.trans {s t u : State} (a : s.pairStep t) (b : t.pairStep u) : s.pairStep u :=
  ⟨b.claim.trans a.claim, b.partner.trans a.partner, b.lost.trans a.lost, b.err.trans a.err, b.linkAt.trans a.linkAt,
    b.sideAt.trans a.sideAt, b.paired.trans a.paired, State.onlyParts_trans a.rest b.rest⟩

section
variable (s : State)

/-- A field of TWN.STATUS other than PARTNER_LOST and PAIR_ERR. -/
theorem State.setTwn_pairStep {f : Fld} (x : Nat) (hlost : f.lo + f.len ≤ 6 ∨ 7 ≤ f.lo) (herr : f.lo + f.len ≤ 12 ∨ 16 ≤ f.lo) :
    s.pairStep (s.setTwn f x) :=
  ⟨State.reg_setFld_other _ _ _ (by decide), State.reg_setFld_other _ _ _ (by decide), State.flag_setFld_disjoint _ _ _ hlost,
    State.fld_setFld_disjoint _ _ _ herr, rfl, rfl, rfl, State.onlyParts_mono (s.setFld_rest _ _ _) (by simp [twinParts])⟩

/-- A step that changes no TWN register and no twin state. -/
theorem State.within.pairStep {s t : State} {R : Set Nat} {l : List Part} (h : s.within t R l)
    (hR : ∀ a ∈ R, a < 0x80000 ∨ 0x80028 ≤ a) (hl : ∀ p ∈ l, p ∈ twinParts := by decide) (htwin : Part.twin ∉ l := by decide) :
    s.pairStep t := by
  have hreg (a : Nat) (hlo : 0x80000 ≤ a) (hhi : a < 0x80028) : t.reg a = s.reg a := h.1 a fun hin => by have := hR a hin; omega
  have htw : t.twin = s.twin := h.2.2 .twin htwin
  exact ⟨hreg _ (by decide) (by decide), hreg _ (by decide) (by decide), State.flag_of_reg (hreg _ (by decide) (by decide)) _,
    State.fld_of_reg (hreg _ (by decide) (by decide)) _, by rw [htw], by rw [htw], by rw [htw], State.onlyParts_mono h.2 hl⟩

theorem State.twnBump_pairStep (i : Nat) : s.pairStep (s.twnBump i) :=
  State.within.pairStep (R := {Reg.TWN_CNT i}) (l := [.regs]) ((State.within.refl s _ _).bump _) (by simp [Reg.TWN_CNT]; omega)

theorem State.detect_pairStep (src kind cls addr : Nat) : s.pairStep (s.detect src kind cls addr) :=
  (s.detect_collector src kind cls addr).pairStep fun a ha => by rw [mem_collectorRegs] at ha; omega

theorem State.jnlQueue_pairStep (w : JWhat) : s.pairStep (s.jnlQueue w) :=
  ((s.jnlQueue_only w).within (by decide) ∅).pairStep (by simp)

theorem State.takeRole_pairStep : s.pairStep s.takeRole := by
  unfold State.takeRole
  split
  · exact .refl s
  · split
    · exact s.setTwn_pairStep _ (by decide) (by decide)
    · split
      · exact s.setTwn_pairStep _ (by decide) (by decide)
      · exact .refl s

theorem State.splitSeen_pairStep : s.pairStep s.splitSeen :=
  (((s.setTwn_pairStep _ (by decide) (by decide)).trans (State.twnBump_pairStep _ _)).trans (State.detect_pairStep _ _ _ _ _)).trans
    (State.jnlQueue_pairStep _ _)

theorem State.startPass_pairStep : s.pairStep s.startPass := by
  unfold State.startPass
  split
  · exact .refl s
  · extract_lets t
    have hshown : s.pairStep t := ((s.setTwn_pairStep _ (by decide) (by decide)).trans (State.twnBump_pairStep _ _)).trans
      (State.within.pairStep (R := {Reg.TWN_SYNC}) (l := [.regs]) ((State.within.refl _ _ _).setReg _ _) (by simp [Reg.TWN_SYNC]))
    clear_value t
    exact hshown.trans ⟨rfl, rfl, rfl, rfl, rfl, rfl, rfl, State.onlyParts_mono (t.setTwin_rest _) (by simp [twinParts])⟩

end

/-- The comparison of R416 reads no register that a heartbeat moves. -/
theorem State.pairError_congr {s t : State} (h : ∀ a, a ∉ [Reg.TWN_STATUS, Reg.TWN_CLAIM, Reg.TWN_PARTNER] → t.reg a = s.reg a)
    (p : TwinPair) : t.pairError p = s.pairError p := by
  have hout {a : Nat} (ha : a < 0x80008 ∨ 0x80010 ≤ a ∧ a < 0x80018 ∨ 0x80028 ≤ a) : t.reg a = s.reg a := h a (by
    simp only [List.mem_cons, List.not_mem_nil, or_false, Reg.TWN_STATUS, Reg.TWN_CLAIM, Reg.TWN_PARTNER]
    omega)
  have hcheck : t.keyCheck = s.keyCheck := by
    rw [State.keyCheck, State.keyCheck, hout (by simp only [Reg.SLC_HASH_KEY0]; omega), hout (by simp only [Reg.SLC_HASH_KEY1]; omega)]
  have hbits : t.bucketBits 0 = s.bucketBits 0 := State.fld_of_reg (hout (by simp only [Reg.HNK_CFG]; omega)) _
  have htables : t.twinTables = s.twinTables := by
    refine congrArg crc64 (List.flatMap_congr fun a ha => ?_)
    simp only [List.mem_append, List.mem_cons, List.mem_map, List.mem_range] at ha
    have hlow : 0x80028 ≤ a := by
      obtain (((rfl | ⟨k, -, rfl⟩) | ⟨k, -, rfl⟩) | ⟨k, -, rfl⟩) | ⟨k, -, rfl⟩ := ha <;>
        simp only [Reg.TWN_AUX_MIRROR, Reg.TWN_CFIELD, Reg.TWN_SMASK0, Reg.TWN_SMASK1, Reg.TWN_PTOFF] <;> omega
    rw [hout (by omega)]
  unfold State.pairError
  rw [hcheck, hbits, htables, hout (by simp only [Reg.FAE_MC_DIGEST]; omega),
    State.fld_of_reg (hout (by simp only [Reg.TWN_CFG]; omega))]

theorem State.pairError_lt (s : State) (p : TwinPair) : s.pairError p < 16 := by
  unfold State.pairError
  repeat' split
  all_goals decide

/-- A path on which a heartbeat has been heard. -/
theorem State.heardOn_notes (s : State) (p : Nat) :
    (if p = 0 then (s.heardOn p).twin.linkAt else (s.heardOn p).twin.sideAt) = some s.clk.mono
      ∧ s.within (s.heardOn p) {a | a ∈ [Reg.TWN_STATUS]} [.regs, .twin] := by
  have hframe (x : TwinSt) (f : Fld) : s.within (State.setTwn { s with twin := x } f 1) {a | a ∈ [Reg.TWN_STATUS]} [.regs, .twin] :=
    ((State.within.refl s _ _).rest (s.setTwin_rest x)).setFld _ _ _
  unfold State.heardOn
  by_cases h : p = 0
  · simp only [if_pos h]
    exact ⟨rfl, hframe _ _⟩
  · simp only [if_neg h]
    exact ⟨rfl, hframe _ _⟩

/-- The partner's heartbeat as it is noted. -/
def State.partnerNoted (s : State) (path claim role sync : Nat) : State :=
  (((s.heardOn path).setFld Reg.TWN_CLAIM Fld.TWN_CLAIM_PARTNER claim).setFld Reg.TWN_PARTNER Fld.TWN_PARTNER_P_ROLE role).setFld
    Reg.TWN_PARTNER Fld.TWN_PARTNER_P_SYNC sync

/-- The registers in which a heartbeat is noted. -/
def notedRegs : List Nat := [Reg.TWN_STATUS, Reg.TWN_CLAIM, Reg.TWN_PARTNER]

theorem State.partnerNoted_notes (s : State) (p : Nat) {claim role sync : Nat} (hclaim : claim < 4294967296) (hrole : role < 4)
    (hsync : sync < 4) :
    (s.partnerNoted p claim role sync).partnerClaim = claim
      ∧ (s.partnerNoted p claim role sync).fld Reg.TWN_PARTNER Fld.TWN_PARTNER_P_ROLE = role
      ∧ (s.partnerNoted p claim role sync).fld Reg.TWN_PARTNER Fld.TWN_PARTNER_P_SYNC = sync
      ∧ (if p = 0 then (s.partnerNoted p claim role sync).twin.linkAt else (s.partnerNoted p claim role sync).twin.sideAt) = some s.clk.mono
      ∧ s.within (s.partnerNoted p claim role sync) {a | a ∈ notedRegs} [.regs, .twin] := by
  obtain ⟨hheard, hframe⟩ := s.heardOn_notes p
  have hwide : s.within (s.heardOn p) {a | a ∈ notedRegs} [.regs, .twin] :=
    hframe.mono (fun a ha => List.mem_cons.2 (.inl (List.mem_singleton.1 ha))) (by simp)
  unfold State.partnerNoted
  generalize s.heardOn p = t at *
  refine ⟨?_, ?_, State.fld_setFld_fits _ _ (by decide) hsync, hheard, ?_⟩
  · exact (State.fld_setFld_other _ _ _ _ _ _ (by decide)).trans ((State.fld_setFld_other _ _ _ _ _ _ (by decide)).trans
      (State.fld_setFld_fits _ _ (by decide) hclaim))
  · exact (State.fld_setFld_disjoint _ _ _ (by decide)).trans (State.fld_setFld_fits _ _ (by decide) hrole)
  · exact ((hwide.setFld _ _ _ (by simp [notedRegs])).setFld _ _ _ (by simp [notedRegs])).setFld _ _ _ (by simp [notedRegs])

theorem State.pairWith_pairs (s : State) (x : TwinPair) : (s.pairWith x).twnFld Fld.TWN_STATUS_PAIR_ERR = s.pairError x
    ∧ (s.pairWith x).twin.paired = true ∧ (s.pairWith x).twin.linkAt = s.twin.linkAt ∧ (s.pairWith x).twin.sideAt = s.twin.sideAt
    ∧ s.within (s.pairWith x) {a | a ∈ [Reg.TWN_STATUS]} [.regs, .twin] :=
  ⟨State.fld_setFld_fits _ _ (by decide) (s.pairError_lt x), rfl, rfl, rfl,
    ((State.within.refl s _ _).rest (s.setTwin_rest _)).setFld _ _ _⟩

theorem twinHeartbeatReceive_notes {s : State} {p claim role sync : Nat} (x : TwinPair) (hclaim : claim < 4294967296) (hrole : role < 4)
    (hsync : sync < 4) (hen : s.twinEn = true) (hphase : s.phase = 11) (hup : s.down unitTwin = false) :
    ∃ t, twinHeartbeatReceive p claim role sync x s = t ∧ t.partnerClaim = claim ∧ t.fld Reg.TWN_PARTNER Fld.TWN_PARTNER_P_ROLE = role
      ∧ t.fld Reg.TWN_PARTNER Fld.TWN_PARTNER_P_SYNC = sync ∧ t.flag Reg.TWN_STATUS Fld.TWN_STATUS_PARTNER_LOST = false
      ∧ (if p = 0 then t.twin.linkAt else t.twin.sideAt) = some s.clk.mono
      ∧ (s.pairDue role = true → t.twnFld Fld.TWN_STATUS_PAIR_ERR = s.pairError x ∧ t.twin.paired = true)
      ∧ s.onlyParts t twinParts := by
  obtain ⟨hnclaim, hnrole, hnsync, hnheard, hnframe⟩ := s.partnerNoted_notes p hclaim hrole hsync
  obtain ⟨noted, hnoted⟩ : ∃ t, t = s.partnerNoted p claim role sync := ⟨_, rfl⟩
  rw [← hnoted] at hnclaim hnrole hnsync hnheard hnframe
  obtain ⟨hperr, hpaired, hplink, hpside, hpframe⟩ := noted.pairWith_pairs x
  obtain ⟨met, hmet⟩ : ∃ t, t = if s.pairDue role then noted.pairWith x else noted := ⟨_, rfl⟩
  have hmetframe : noted.within met {a | a ∈ [Reg.TWN_STATUS]} [.regs, .twin] := by
    rw [hmet]
    split
    · exact hpframe
    · exact .refl _ _ _
  have hmetheard : met.twin.linkAt = noted.twin.linkAt ∧ met.twin.sideAt = noted.twin.sideAt := by
    rw [hmet]
    split
    · exact ⟨hplink, hpside⟩
    · exact ⟨rfl, rfl⟩
  have hcompared (hdue : s.pairDue role = true) : met.twnFld Fld.TWN_STATUS_PAIR_ERR = s.pairError x ∧ met.twin.paired = true := by
    rw [hmet, if_pos hdue, ← State.pairError_congr (fun a ha => hnframe.1 a ha) x]
    exact ⟨hperr, hpaired⟩
  obtain ⟨here, hhere⟩ : ∃ t, t = met.setTwn Fld.TWN_STATUS_PARTNER_LOST 0 := ⟨_, rfl⟩
  have hfound : here.flag Reg.TWN_STATUS Fld.TWN_STATUS_PARTNER_LOST = false := hhere ▸ State.flag_setFld_zero _ _ ⟨rfl, by decide⟩
  have hhererest : met.within here {a | a ∈ [Reg.TWN_STATUS]} [.regs] := hhere ▸ (State.within.refl met _ _).setFld _ _ _
  have hheretwin : here.twin = met.twin := hhererest.2.2 .twin (by decide)
  have hhereerr : here.twnFld Fld.TWN_STATUS_PAIR_ERR = met.twnFld Fld.TWN_STATUS_PAIR_ERR :=
    hhere ▸ State.fld_setFld_disjoint _ _ _ (by decide)
  obtain ⟨u, heq, hstep⟩ : ∃ u, twinHeartbeatReceive p claim role sync x s = u ∧ here.pairStep u := by
    refine ⟨_, rfl, ?_⟩
    unfold twinHeartbeatReceive
    rw [if_neg (by simp [hen, hphase, hup])]
    extract_lets lost split due heard claimed partnered compared roles parted synced
    have hcomparison : compared = met := by rw [hmet, hnoted]; rfl
    have hroles : here.pairStep roles := by
      rw [hhere, ← hcomparison]
      exact State.takeRole_pairStep _
    clear_value roles
    have hparted : roles.pairStep parted := by
      unfold parted
      split
      · exact roles.splitSeen_pairStep
      · exact .refl roles
    clear_value parted
    have hsynced : parted.pairStep synced := by
      unfold synced
      split
      · exact parted.setTwn_pairStep _ (by decide) (by decide)
      · exact .refl parted
    clear_value synced
    have hbefore := (hroles.trans hparted).trans hsynced
    split
    · exact hbefore.trans synced.startPass_pairStep
    · exact hbefore
  have hlow (a : Nat) (ha : a ∉ [Reg.TWN_STATUS]) : here.reg a = noted.reg a := (hhererest.reg_kept a ha).trans (hmetframe.reg_kept a ha)
  refine ⟨u, heq, (State.fld_of_reg (hstep.claim.trans (hlow _ (by decide))) _).trans hnclaim,
    (State.fld_of_reg (hstep.partner.trans (hlow _ (by decide))) _).trans hnrole,
    (State.fld_of_reg (hstep.partner.trans (hlow _ (by decide))) _).trans hnsync, hstep.lost.trans hfound, ?_, fun hdue => ?_, ?_⟩
  · rw [hstep.linkAt, hstep.sideAt, hheretwin, hmetheard.1, hmetheard.2]
    exact hnheard
  · rw [hstep.err, hstep.paired, hhereerr, hheretwin]
    exact hcompared hdue
  · exact State.onlyParts_trans (State.onlyParts_mono (((hnframe.2.step hmetframe.2).step hhererest.2)) (by simp [twinParts])) hstep.rest

/-! ### Silence -/

/-- What follows a silent path noted: both paths' bits and the count stand. -/
structure State.silentStep (s t : State) : Prop where
  link : t.twnFld Fld.TWN_STATUS_LINK_HB = s.twnFld Fld.TWN_STATUS_LINK_HB
  side : t.twnFld Fld.TWN_STATUS_SIDEBAND_HB = s.twnFld Fld.TWN_STATUS_SIDEBAND_HB
  count : t.reg (Reg.TWN_CNT Cnt.TWN_PATH_FAULTS) = s.reg (Reg.TWN_CNT Cnt.TWN_PATH_FAULTS)
  rest : s.onlyParts t twinParts

theorem State.silentStep.refl (s : State) : s.silentStep s := ⟨rfl, rfl, rfl, s.onlyParts_refl _⟩

theorem State.silentStep.trans {s t u : State} (a : s.silentStep t) (b : t.silentStep u) : s.silentStep u :=
  ⟨b.link.trans a.link, b.side.trans a.side, b.count.trans a.count, State.onlyParts_trans a.rest b.rest⟩

theorem State.within.silentStep {s t : State} {R : Set Nat} {l : List Part} (h : s.within t R l) (hstatus : Reg.TWN_STATUS ∉ R)
    (hcount : Reg.TWN_CNT Cnt.TWN_PATH_FAULTS ∉ R) (hl : ∀ p ∈ l, p ∈ twinParts := by decide) : s.silentStep t :=
  ⟨h.fld_eq hstatus _, h.fld_eq hstatus _, h.1 _ hcount, State.onlyParts_mono h.2 hl⟩

theorem State.setTwn_silentStep (s : State) {f : Fld} (x : Nat) (hf : f.lo + f.len ≤ 4 ∨ 6 ≤ f.lo) : s.silentStep (s.setTwn f x) :=
  ⟨State.fld_setFld_disjoint _ _ _ (hf.imp id fun h => by simp only [Fld.TWN_STATUS_LINK_HB]; omega),
    State.fld_setFld_disjoint _ _ _ (by simp only [Fld.TWN_STATUS_SIDEBAND_HB]; omega), State.reg_setFld_other _ _ _ (by decide),
    State.onlyParts_mono (s.setFld_rest _ _ _) (by simp [twinParts])⟩

theorem State.promoteAlone_step (s : State) : s.silentStep s.promoteAlone ∧ s.promoteAlone.twin = s.twin
    ∧ s.promoteAlone.flag Reg.TWN_STATUS Fld.TWN_STATUS_PARTNER_LOST = s.flag Reg.TWN_STATUS Fld.TWN_STATUS_PARTNER_LOST := by
  unfold State.promoteAlone
  extract_lets a n claimed partnered
  split
  · exact ⟨.refl s, rfl, rfl⟩
  · split
    · exact ⟨s.setTwn_silentStep _ (by decide), rfl, State.flag_setFld_disjoint _ _ _ (by decide)⟩
    · have hclaimed : s.within claimed {b | b ∈ [Reg.TWN_CLAIM]} [.regs] := (State.within.refl s _ _).setFld _ _ _
      have hrole : claimed.silentStep (claimed.setTwn Fld.TWN_STATUS_ROLE 1) := claimed.setTwn_silentStep _ (by decide)
      have hcount : (claimed.setTwn Fld.TWN_STATUS_ROLE 1).within (partnered.twnBump Cnt.TWN_PROMOTIONS)
          {b | b ∈ [Reg.TWN_PARTNER, Reg.TWN_CNT Cnt.TWN_PROMOTIONS]} [.regs] :=
        ((State.within.refl _ _ _).setFld _ _ _ List.mem_cons_self).bump _
      have hqueue := (partnered.twnBump Cnt.TWN_PROMOTIONS).jnlQueue_only (.event .promotion)
      have hcounted : (claimed.setTwn Fld.TWN_STATUS_ROLE 1).silentStep (partnered.twnBump Cnt.TWN_PROMOTIONS) :=
        ⟨hcount.fld_kept _ _, hcount.fld_kept _ _, hcount.reg_kept _, State.onlyParts_mono hcount.2 (by decide)⟩
      have htwin : ((partnered.twnBump Cnt.TWN_PROMOTIONS).jnlQueue (.event .promotion)).twin = s.twin :=
        (hqueue.2 .twin (by decide)).trans ((hcount.2.2 .twin (by decide)).trans
          (((claimed.setFld_rest _ _ _).2 .twin (by decide)).trans (hclaimed.2.2 .twin (by decide))))
      refine ⟨(((hclaimed.silentStep (by decide) (by decide)).trans hrole).trans hcounted).trans
        ((hqueue.within (by decide) ∅).silentStep (by simp) (by simp)), htwin, ?_⟩
      have hshown : (claimed.setTwn Fld.TWN_STATUS_ROLE 1).flag Reg.TWN_STATUS Fld.TWN_STATUS_PARTNER_LOST
          = s.flag Reg.TWN_STATUS Fld.TWN_STATUS_PARTNER_LOST :=
        (State.flag_setFld_disjoint claimed _ _ (by decide)).trans (hclaimed.flag_kept _ _)
      exact (State.flag_of_reg (hqueue.reg_eq (by decide) _) _).trans ((hcount.flag_kept _ _).trans hshown)

theorem State.partnerLost_loses (s : State) : s.silentStep s.partnerLost ∧ s.partnerLost.flag Reg.TWN_STATUS Fld.TWN_STATUS_PARTNER_LOST = true
    ∧ s.partnerLost.twin.queues = [] ∧ s.partnerLost.twin.unacked = [] := by
  obtain ⟨e, he, hqueues, hunacked, herest⟩ : ∃ e : State, e = { s with twin := { s.twin with queues := [], deltas := [], unacked := [], pass := none } }
      ∧ e.twin.queues = [] ∧ e.twin.unacked = [] ∧ s.onlyParts e [.twin] := ⟨_, rfl, rfl, rfl, s.setTwin_rest _⟩
  obtain ⟨c, hc, hlost, hctwin, hcount⟩ : ∃ c, c = (e.setTwn Fld.TWN_STATUS_PARTNER_LOST 1).twnBump Cnt.TWN_PARTNER_LOSSES
      ∧ c.flag Reg.TWN_STATUS Fld.TWN_STATUS_PARTNER_LOST = true ∧ c.twin = e.twin ∧ e.silentStep c :=
    ⟨_, rfl, (State.flag_bump_other _ _ (by decide)).trans (State.flag_setFld_one _ _ ⟨rfl, by decide⟩), rfl,
      (e.setTwn_silentStep _ (by decide)).trans
        (State.within.silentStep (R := {b | b ∈ [Reg.TWN_CNT Cnt.TWN_PARTNER_LOSSES]}) (l := [.regs]) ((State.within.refl _ _ _).bump _)
          (by decide) (by decide))⟩
  have heq : s.partnerLost = c.promoteAlone := by rw [hc, he]; rfl
  obtain ⟨hstep, htwin, hflag⟩ := c.promoteAlone_step
  rw [heq]
  generalize c.promoteAlone = t at *
  exact ⟨((((herest.within (by decide) ∅).silentStep (by simp) (by simp)).trans hcount)).trans hstep, hflag.trans hlost,
    by rw [htwin, hctwin, hqueues], by rw [htwin, hctwin, hunacked]⟩

/-- A path and its partner path, as TWN.STATUS shows them. -/
def pathBit (p : Nat) : Fld := if p = 0 then Fld.TWN_STATUS_LINK_HB else Fld.TWN_STATUS_SIDEBAND_HB

theorem State.silentStep.path {s t : State} (h : s.silentStep t) (p : Nat) : t.twnFld (pathBit p) = s.twnFld (pathBit p) := by
  unfold pathBit
  split
  · exact h.link
  · exact h.side

theorem twinPathTimeout_tells {s : State} {p m : Nat} (hp : p < 2) (hlast : (if p = 0 then s.twin.linkAt else s.twin.sideAt) = some m)
    (hen : s.twinEn = true) (hup : s.twnFld (pathBit p) = 1)
    (hdue : m + usTicks (s.fld Reg.TWN_CFG Fld.TWN_CFG_HB_TIMEOUT_US) ≤ s.clk.mono) :
    ∃ t, twinPathTimeout p s = t ∧ t.twnFld (pathBit p) = 0
      ∧ t.reg (Reg.TWN_CNT Cnt.TWN_PATH_FAULTS) = s.reg (Reg.TWN_CNT Cnt.TWN_PATH_FAULTS) + 1
      ∧ (s.twnFld (pathBit (1 - p)) = 0 → t.flag Reg.TWN_STATUS Fld.TWN_STATUS_PARTNER_LOST = true ∧ t.twin.queues = []
        ∧ t.twin.unacked = [])
      ∧ s.onlyParts t twinParts := by
  have hdisjoint : (pathBit p).lo + (pathBit p).len ≤ (pathBit (1 - p)).lo ∨ (pathBit (1 - p)).lo + (pathBit (1 - p)).len ≤ (pathBit p).lo := by
    obtain rfl | rfl : p = 0 ∨ p = 1 := by omega
    · decide
    · decide
  have hbit : (pathBit p).lo + (pathBit p).len ≤ 64 := by unfold pathBit; split <;> decide
  have hother : (if p = 0 then Fld.TWN_STATUS_SIDEBAND_HB else Fld.TWN_STATUS_LINK_HB) = pathBit (1 - p) := by
    obtain rfl | rfl : p = 0 ∨ p = 1 := by omega
    · rfl
    · rfl
  obtain ⟨quiet, hquiet⟩ : ∃ t, t = (s.setTwn (pathBit p) 0).twnBump Cnt.TWN_PATH_FAULTS := ⟨_, rfl⟩
  have hstatus : quiet.reg Reg.TWN_STATUS = (s.setTwn (pathBit p) 0).reg Reg.TWN_STATUS := hquiet ▸ State.reg_bump_other _ (by decide)
  have hzero : quiet.twnFld (pathBit p) = 0 := (State.fld_of_reg hstatus _).trans (State.fld_setFld_fits _ _ hbit (by simp))
  have hpartner : quiet.twnFld (pathBit (1 - p)) = s.twnFld (pathBit (1 - p)) :=
    (State.fld_of_reg hstatus _).trans (State.fld_setFld_disjoint _ _ _ hdisjoint)
  have hcount : quiet.reg (Reg.TWN_CNT Cnt.TWN_PATH_FAULTS) = s.reg (Reg.TWN_CNT Cnt.TWN_PATH_FAULTS) + 1 := by
    rw [hquiet]
    exact (State.reg_bump_self _ _).trans (congrArg (· + 1) (State.reg_setFld_other _ _ _ (by decide)))
  have hquietrest : s.onlyParts quiet [.regs] := by
    rw [hquiet]
    exact (s.setFld_rest _ _ _).bump _
  obtain ⟨told, htold⟩ : ∃ t, t = quiet.detect srcTwin 0x090 0 p := ⟨_, rfl⟩
  have htoldstep : quiet.silentStep told := htold ▸ (quiet.detect_collector _ _ _ _).silentStep (by
    rw [mem_collectorRegs]
    decide) (by
    rw [mem_collectorRegs]
    decide)
  obtain ⟨left, hleft⟩ : ∃ t, t = if p = 0 then State.setSync { told with twin := { told.twin with pass := none } } 3 else told := ⟨_, rfl⟩
  have hleftstep : told.silentStep left := by
    rw [hleft]
    split
    · exact (((told.setTwin_rest _).within (by decide) ∅).silentStep (by simp) (by simp)).trans (State.setTwn_silentStep _ _ (by decide))
    · exact .refl told
  have heq : twinPathTimeout p s = if left.twnFld (pathBit (1 - p)) = 0 then left.partnerLost else left := by
    have hgo : ¬(s.twinEn = false ∨ s.twnFld (pathBit p) = 0 ∨ s.clk.mono < m + usTicks (s.fld Reg.TWN_CFG Fld.TWN_CFG_HB_TIMEOUT_US)) := by
      simp [hen, hup]
      omega
    unfold twinPathTimeout
    dsimp only
    rw [hlast, hother]
    exact (if_neg hgo).trans (by rw [hleft, htold, hquiet]; rfl)
  have hsteps := htoldstep.trans hleftstep
  have hleftother : left.twnFld (pathBit (1 - p)) = s.twnFld (pathBit (1 - p)) := (hsteps.path _).trans hpartner
  have hrest : s.onlyParts left twinParts := State.onlyParts_trans (State.onlyParts_mono hquietrest (by simp [twinParts])) hsteps.rest
  rw [hleftother] at heq
  obtain ⟨hlost, hflag, hqueues, hunacked⟩ := left.partnerLost_loses
  by_cases h : s.twnFld (pathBit (1 - p)) = 0
  · rw [if_pos h] at heq
    exact ⟨_, heq, ((hlost.path p).trans (hsteps.path p)).trans hzero, (hlost.count.trans hsteps.count).trans hcount,
      fun _ => ⟨hflag, hqueues, hunacked⟩, State.onlyParts_trans hrest hlost.rest⟩
  · rw [if_neg h] at heq
    exact ⟨_, heq, (hsteps.path p).trans hzero, hsteps.count.trans hcount, fun h0 => absurd h0 h, hrest⟩

end Sys2Proof.Machine
end

section
/-! PROOF. The twin link's frames (R415, R419, R420). -/

namespace Sys2Proof.Machine

set_option Elab.async false

/-! ### Frames sent -/

theorem State.nextQueue_holds {s : State} {h : Nat} (hnext : s.nextQueue = some h) : Tbl.get [] s.twin.queues h ≠ [] := by
  have := List.find?_some hnext
  simpa using this

/-- What taking entries leaves: the window, the numbers, and every part but the twin's. -/
structure State.takes (s t : State) : Prop where
  unacked : t.twin.unacked = s.twin.unacked
  regs : t.regs = s.regs
  rest : s.onlyParts t [.twin]

theorem State.takes.trans {s t u : State} (a : s.takes t) (b : t.takes u) : s.takes u :=
  ⟨b.unacked.trans a.unacked, b.regs.trans a.regs, State.onlyParts_trans a.rest b.rest⟩

theorem State.takeEntries_takes (n : Nat) (s : State) (l : List (Nat × List Byte)) : s.takes (s.takeEntries n l).2
    ∧ l.length ≤ (s.takeEntries n l).1.length ∧ (s.takeEntries n l).1.length ≤ l.length + n := by
  induction n generalizing s l with
  | zero => exact ⟨⟨rfl, rfl, s.onlyParts_refl _⟩, le_refl _, le_refl _⟩
  | succ n ih =>
    unfold State.takeEntries
    split
    · exact ⟨⟨rfl, rfl, s.onlyParts_refl _⟩, le_refl _, by simp⟩
    · next h _ =>
      split
      · exact ⟨⟨rfl, rfl, s.onlyParts_refl _⟩, le_refl _, by simp⟩
      · next e r _ =>
        obtain ⟨t, ht, htakes⟩ : ∃ t : State, t = { s with twin := { s.twin with queues := Tbl.set [] s.twin.queues h r, lastShard := h } }
            ∧ s.takes t := ⟨_, rfl, rfl, rfl, s.setTwin_rest _⟩
        rw [← ht]
        obtain ⟨hrest, hlow, hhigh⟩ := ih t (l ++ [(h, e)])
        simp only [List.length_append, List.length_singleton] at hlow hhigh
        exact ⟨htakes.trans hrest, by omega, by omega⟩

/-- Where a queue holds an entry, one is taken. -/
theorem State.takeEntries_some {s : State} {h : Nat} (hnext : s.nextQueue = some h) (n : Nat) (l : List (Nat × List Byte)) :
    l.length < (s.takeEntries (n + 1) l).1.length := by
  unfold State.takeEntries
  rw [hnext]
  dsimp only
  cases hq : Tbl.get [] s.twin.queues h with
  | nil => exact absurd hq (State.nextQueue_holds hnext)
  | cons e r =>
    have hlow := (State.takeEntries_takes n { s with twin := { s.twin with queues := Tbl.set [] s.twin.queues h r, lastShard := h } }
      (l ++ [(h, e)])).2.1
    simp only [List.length_append, List.length_singleton] at hlow
    exact hlow

theorem twinFrameSend_sends {s : State} {k : Nat} (hmirrors : s.mirrors = true) (hwindow : s.twin.unacked.length < 64)
    (hnext : s.nextQueue = some k) :
    ∃ t f, twinFrameSend s = t ∧ t.twin.unacked = s.twin.unacked ++ [⟨f, s.clk.mono⟩] ∧ f.claim = s.ownClaim
      ∧ f.seq = s.twin.txSeq ∧ f.entries ≠ [] ∧ f.entries.length ≤ 32 ∧ t.twin.txSeq = (s.twin.txSeq + 1) % 4294967296
      ∧ s.within t {a | a ∈ [Reg.TWN_CNT Cnt.TWN_ENTRIES_SENT, Reg.TWN_CNT Cnt.TWN_AUX_LINES_SENT]} [.regs, .twin] := by
  have hgo : ¬(s.mirrors = false ∨ 64 ≤ s.twin.unacked.length ∨ s.nextQueue = none) := by
    simp [hmirrors, hnext]
    omega
  have hsome := State.takeEntries_some hnext 31 []
  obtain ⟨htakes, -, hhigh⟩ := s.takeEntries_takes 32 []
  obtain ⟨r, hr⟩ : ∃ r, r = s.takeEntries 32 [] := ⟨_, rfl⟩
  rw [← hr] at htakes hhigh
  rw [show (31 : Nat) + 1 = 32 from rfl, ← hr] at hsome
  simp only [List.length_nil, Nat.zero_add] at hsome hhigh
  obtain ⟨u, hu, hunacked, hseq, hrest⟩ : ∃ u : State, u = { r.2 with twin := { r.2.twin with
        unacked := r.2.twin.unacked ++ [⟨⟨s.ownClaim, s.twin.txSeq, r.1⟩, s.clk.mono⟩], txSeq := (s.twin.txSeq + 1) % 4294967296 } }
      ∧ u.twin.unacked = r.2.twin.unacked ++ [⟨⟨s.ownClaim, s.twin.txSeq, r.1⟩, s.clk.mono⟩]
      ∧ u.twin.txSeq = (s.twin.txSeq + 1) % 4294967296 ∧ r.2.onlyParts u [.twin] := ⟨_, rfl, rfl, rfl, r.2.setTwin_rest _⟩
  have heq : twinFrameSend s = (u.bumpBy (Reg.TWN_CNT Cnt.TWN_ENTRIES_SENT) r.1.length).bumpBy (Reg.TWN_CNT Cnt.TWN_AUX_LINES_SENT)
      (r.1.filter (fun e => isAux e.2)).length := by
    rw [hu, hr]
    exact if_neg hgo
  refine ⟨_, ⟨s.ownClaim, s.twin.txSeq, r.1⟩, heq, ?_, rfl, rfl, List.length_pos_iff.1 hsome, hhigh, hseq, ?_⟩
  · exact hunacked.trans (by rw [htakes.unacked])
  · have htaken : s.within u {a | a ∈ [Reg.TWN_CNT Cnt.TWN_ENTRIES_SENT, Reg.TWN_CNT Cnt.TWN_AUX_LINES_SENT]} [.regs, .twin] :=
      ((State.within.refl s _ _).rest htakes.rest).rest hrest
    exact (htaken.setReg _ _).setReg _ _

/-! ### Frames sent again and acknowledged -/

theorem twinRetransmit_resends {s : State} {x : TwinSent} {r : List TwinSent} (hwindow : s.twin.unacked = x :: r)
    (hdue : x.at_ + usTicks 10 ≤ s.clk.mono) (hen : s.twinEn = true) (hup : s.down unitTwin = false) :
    twinRetransmit s = State.twnBump { s with twin := { s.twin with unacked := { x with at_ := s.clk.mono } :: r } }
      Cnt.TWN_FRAMES_RETRANSMITTED := by
  have hfirst : s.twin.unacked.findIdx? (fun x => decide (x.at_ + usTicks 10 ≤ s.clk.mono)) = some 0 := by
    rw [hwindow, List.findIdx?_cons, if_pos (by simpa using hdue)]
  have hhead : s.twin.unacked[0]? = some x := by rw [hwindow]; rfl
  have hset : listSet s.twin.unacked 0 { x with at_ := s.clk.mono } = { x with at_ := s.clk.mono } :: r := by rw [hwindow]; rfl
  unfold twinRetransmit
  rw [hfirst]
  dsimp only
  rw [hhead]
  dsimp only
  rw [hset, if_neg (by simp [hen, hup])]

theorem twinAcknowledgement_shortens {s : State} {seq k : Nat} (hfound : s.twin.unacked.findIdx? (fun x => x.frame.seq == seq) = some k)
    (hen : s.twinEn = true) (hup : s.down unitTwin = false) :
    twinAcknowledgement seq s = { s with twin := { s.twin with unacked := s.twin.unacked.drop (k + 1) } } := by
  unfold twinAcknowledgement
  rw [hfound]
  exact if_neg (by simp [hen, hup])

/-! ### Frames received -/

/-- A tie of claims fences the twin unit and shows. -/
theorem State.twinTie_shows {s : State} (hup : s.down unitTwin = false) (addr : Nat) :
    ((s.setTwn Fld.TWN_STATUS_TIE_SEEN 1).faultUnit unitTwin srcTwin 0x092 addr).flag Reg.TWN_STATUS Fld.TWN_STATUS_TIE_SEEN = true
      ∧ ((s.setTwn Fld.TWN_STATUS_TIE_SEEN 1).faultUnit unitTwin srcTwin 0x092 addr).unitState unitTwin = 1 := by
  obtain ⟨t, ht⟩ : ∃ t, t = s.setTwn Fld.TWN_STATUS_TIE_SEEN 1 := ⟨_, rfl⟩
  have hseen : t.flag Reg.TWN_STATUS Fld.TWN_STATUS_TIE_SEEN = true := ht ▸ State.flag_setFld_one _ _ ⟨rfl, by decide⟩
  have hin : t.down unitTwin = false := by
    have hstate : t.unitState unitTwin = s.unitState unitTwin := ht ▸ State.unitState_of_reg (State.reg_setFld_other _ _ _ (by decide))
    rw [← hup, State.down, State.down, hstate]
  rw [← ht]
  refine ⟨?_, t.faultUnit_opens (by decide) hin _ _ _⟩
  have hsent := t.sendFault_within srcTwin 0x092 1 addr
  have hopened := (t.sendFault srcTwin 0x092 1 addr).openWindow_within unitTwin
  have hstopped := ((t.sendFault srcTwin 0x092 1 addr).openWindow unitTwin).stopLinks_empties unitTwin
  have heq : t.faultUnit unitTwin srcTwin 0x092 addr = ((t.sendFault srcTwin 0x092 1 addr).openWindow unitTwin).stopLinks unitTwin := by
    rw [State.faultUnit, hin, if_neg Bool.false_ne_true]
    rfl
  rw [heq]
  have hreg := hstopped.regs Reg.TWN_STATUS (by rw [mem_emptyRegs]; decide)
  exact (State.flag_of_reg hreg _).trans ((hopened.flag_kept _ _).trans ((hsent.flag_kept _ _).trans hseen))

theorem twinFrameReceive_eq {s : State} (hen : s.twinEn = true) (hup : s.down unitTwin = false)
    (hpair : s.twnFld Fld.TWN_STATUS_PAIR_ERR = 0) (hpaired : s.twin.paired = true) (claim seq : Nat) (l : List (Nat × List Byte)) :
    twinFrameReceive claim seq l true s = if claim < s.ownClaim then s.twnBump Cnt.TWN_REJECTED_LOW_CLAIM
      else if claim = s.ownClaim then
        (s.draw.2.setTwn Fld.TWN_STATUS_TIE_SEEN 1).faultUnit unitTwin srcTwin 0x092 s.draw.1.toNat
      else if seq ≠ s.twin.rxSeq then s
      else { s with twin := { s.twin with apply := s.twin.apply ++ l.take 32, rxSeq := (seq + 1) % 4294967296 } } :=
  if_neg (by simp [hen, hup, hpair, hpaired])

/-- Settles O57: the twin link's steps. -/
theorem twinLinkSteps : Obligations.TwinLinkSteps := by
  unfold Obligations.TwinLinkSteps
  refine ⟨fun s p hbeats hlink hside hup => twinHeartbeatSend_sends hbeats hlink hside hup,
    fun s p claim role sync x hen hphase hup => ?_, fun s p m f g hpath hen hbit hdue => ?_, fun s k hmirrors hwindow hnext => ?_,
    fun s x r hwindow hdue hen hup => ?_, fun s claim seq l hen hup hpair hpaired => ?_, fun s seq k hfound hen hup => ?_⟩
  · obtain ⟨t, heq, hclaim, hrole, hsync, hlost, hat, hpair, hrest⟩ :=
      twinHeartbeatReceive_notes (p := p.val) x claim.isLt role.isLt sync.isLt hen hphase hup
    exact ⟨t, done_eq_next_of_eq heq hrest (by decide), hclaim, hrole, hsync, hlost, hat, hpair, hrest⟩
  · have hbits : f = pathBit p.val ∧ g = pathBit (1 - p.val) ∧ (if p.val = 0 then s.twin.linkAt else s.twin.sideAt) = some m := by
      obtain ⟨hp, hlast, rfl, rfl⟩ | ⟨hp, hlast, rfl, rfl⟩ := hpath <;> rw [hp]
      · exact ⟨rfl, rfl, hlast⟩
      · exact ⟨rfl, rfl, hlast⟩
    obtain ⟨rfl, rfl, hlast⟩ := hbits
    obtain ⟨t, heq, hzero, hcount, hboth, hrest⟩ := twinPathTimeout_tells p.isLt hlast hen hbit hdue
    exact ⟨t, done_eq_next_of_eq heq hrest (by decide), hzero, hcount, hboth, hrest⟩
  · obtain ⟨t, f, heq, hunacked, hclaim, hseq, hsome, hmany, hnumber, hframe⟩ := twinFrameSend_sends hmirrors hwindow hnext
    exact ⟨t, f, done_eq_next_of_eq heq hframe.2 (by decide), hunacked, hclaim, hseq, hsome, hmany, hnumber, hframe.listed rfl, hframe.2⟩
  · have heq := twinRetransmit_resends hwindow hdue hen hup
    obtain ⟨u, hu, htwin, hregs, hrest⟩ : ∃ u : State, u = { s with twin := { s.twin with unacked := { x with at_ := s.clk.mono } :: r } }
        ∧ u.twin = { s.twin with unacked := { x with at_ := s.clk.mono } :: r } ∧ u.regs = s.regs ∧ s.onlyParts u [.twin] :=
      ⟨_, rfl, rfl, rfl, s.setTwin_rest _⟩
    rw [← hu] at heq
    have hframe : s.within (u.twnBump Cnt.TWN_FRAMES_RETRANSMITTED) {a | a ∈ [Reg.TWN_CNT Cnt.TWN_FRAMES_RETRANSMITTED]} [.regs, .twin] :=
      ((State.within.refl s _ _).rest hrest).bump _
    exact ⟨_, done_eq_next_of_eq heq hframe.2 (by decide), htwin,
      (State.reg_bump_self _ _).trans (congrArg (· + 1) (State.reg_congr hregs _)), hframe.listed rfl, hframe.2⟩
  · have heq := twinFrameReceive_eq hen hup hpair hpaired claim.toNat seq.toNat (l.map (fun e => (e.1.val, e.2)))
    rcases Nat.lt_trichotomy claim.toNat s.ownClaim with hless | hsame | hmore
    · rw [if_pos hless] at heq
      have hrest := s.bump_rest (Reg.TWN_CNT Cnt.TWN_REJECTED_LOW_CLAIM)
      exact ⟨_, done_eq_next_of_eq heq hrest (by decide), fun _ => ⟨rfl, State.reg_bump_self _ _⟩, fun h => absurd h (by omega),
        fun h => absurd h (by omega), fun h => absurd h (by omega)⟩
    · rw [if_neg (by omega), if_pos hsame] at heq
      have hdraw : s.draw.2.down unitTwin = false := by
        rw [← hup, State.down, State.down, State.unitState_of_reg (s.draw_rest.reg_eq (by decide) _)]
      have hshows := State.twinTie_shows hdraw s.draw.1.toNat
      rw [← heq] at hshows
      exact ⟨_, rfl, fun h => absurd h (by omega), fun _ => hshows, fun h => absurd h (by omega), fun h => absurd h (by omega)⟩
    · rw [if_neg (by omega), if_neg (by omega)] at heq
      by_cases hseq : seq.toNat = s.twin.rxSeq
      · rw [if_neg (by simpa using hseq)] at heq
        exact ⟨_, done_eq_next_of_eq heq (s.setTwin_rest _) (by decide), fun h => absurd h (by omega), fun h => absurd h (by omega),
          fun _ _ => ⟨s.setTwin_rest _, rfl, rfl⟩, fun _ h => absurd hseq h⟩
      · rw [if_pos hseq] at heq
        exact ⟨s, done_eq_next_of_eq heq (s.onlyParts_refl []) (by decide), fun h => absurd h (by omega), fun h => absurd h (by omega),
          fun _ h => absurd h hseq, fun _ _ => rfl⟩
  · exact done_eq_next_of_eq (twinAcknowledgement_shortens hfound hen hup) (s.setTwin_rest _) (by decide)

end Sys2Proof.Machine
end

section
/-! PROOF. The mirror engine, delta batches, PROMOTE, RESYNC and sync passes (R418, R421, R423, R425). -/

namespace Sys2Proof.Machine

set_option Elab.async false

theorem twnCnt_not_empty {i : Nat} (hi : i < 32) : Reg.TWN_CNT i ∉ emptyRegs := by
  simp only [mem_emptyRegs, Reg.TWN_CNT]
  omega

/-! ### The mirror engine -/

/-- A line of an AUX region is written. -/
theorem State.applyAux_writes (s : State) (h : Nat) (b : List Byte) : s.empties (s.applyAux h b) ∧ s.onlyParts (s.applyAux h b) [.regs, .dram] :=
  ⟨s.dramWrite_empties _ _ _, (s.dramWrite_within _ _ _).2⟩

theorem mirrorApply_aux {s : State} {h : Nat} {b : List Byte} {r : List (Nat × List Byte)} (happly : s.twin.apply = (h, b) :: r)
    (hop : vecByte b 0 = 4) (hen : s.twinEn = true) (hup : s.shardUp h = true) (hready : s.dmcReady = true) (es : List Ecc) :
    mirrorApply h es s = State.twnBump { s.applyAux h b with twin := { (s.applyAux h b).twin with apply := (s.applyAux h b).twin.apply.eraseIdx 0 } }
      Cnt.TWN_ENTRIES_APPLIED := by
  have hfirst : s.twin.apply.findIdx? (fun e => e.1 == h) = some 0 := by
    rw [happly, List.findIdx?_cons, if_pos (by simp)]
  have hhead : s.twin.apply[0]? = some (h, b) := by rw [happly]; rfl
  unfold mirrorApply
  rw [hfirst]
  dsimp only
  rw [hhead]
  dsimp only
  rw [if_neg (by simp [hen, hup, hready]), if_pos hop]

theorem mirrorApply_applies {s : State} {h : Nat} {b : List Byte} {r : List (Nat × List Byte)} (happly : s.twin.apply = (h, b) :: r)
    (hop : vecByte b 0 = 4) (hen : s.twinEn = true) (hup : s.shardUp h = true) (hready : s.dmcReady = true) (es : List Ecc) :
    ∃ t, mirrorApply h es s = t ∧ t.twin = { s.twin with apply := r }
      ∧ t.reg (Reg.TWN_CNT Cnt.TWN_ENTRIES_APPLIED) = s.reg (Reg.TWN_CNT Cnt.TWN_ENTRIES_APPLIED) + 1 ∧ s.onlyParts t [.regs, .dram, .twin] := by
  obtain ⟨hempties, hrest⟩ := s.applyAux_writes h b
  have heq := mirrorApply_aux happly hop hen hup hready es
  have htwin : (s.applyAux h b).twin = s.twin := hrest.2 .twin (by decide)
  rw [htwin] at heq
  generalize s.applyAux h b = w at *
  obtain ⟨u, hu, hutwin, huregs, hurest⟩ : ∃ u : State, u = { w with twin := { s.twin with apply := s.twin.apply.eraseIdx 0 } }
      ∧ u.twin = { s.twin with apply := s.twin.apply.eraseIdx 0 } ∧ u.regs = w.regs ∧ w.onlyParts u [.twin] :=
    ⟨_, rfl, rfl, rfl, w.setTwin_rest _⟩
  rw [← hu] at heq
  refine ⟨_, heq, ?_, ?_, ?_⟩
  · exact hutwin.trans (by rw [happly]; rfl)
  · exact (State.reg_bump_self _ _).trans (congrArg (· + 1) ((State.reg_congr huregs _).trans (hempties.regs _ (twnCnt_not_empty (by decide)))))
  · exact ((State.onlyParts_mono hrest (by simp)).step hurest).bump _

/-! ### Delta batches -/

/-- Entries that join the mirror queues leave the delta tables, the batches' times and their count. -/
structure State.joins (s t : State) : Prop where
  deltas : t.twin.deltas = s.twin.deltas
  batchAt : t.twin.batchAt = s.twin.batchAt
  count : t.reg (Reg.TWN_CNT Cnt.TWN_DELTA_BATCHES) = s.reg (Reg.TWN_CNT Cnt.TWN_DELTA_BATCHES)
  rest : s.onlyParts t [.regs, .fault, .twin]

theorem State.joins.refl (s : State) : s.joins s := ⟨rfl, rfl, rfl, s.onlyParts_refl _⟩

theorem State.joins.trans {s t u : State} (a : s.joins t) (b : t.joins u) : s.joins u :=
  ⟨b.deltas.trans a.deltas, b.batchAt.trans a.batchAt, b.count.trans a.count, State.onlyParts_trans a.rest b.rest⟩

theorem State.within.joins {s t : State} {R : Set Nat} {l : List Part} (h : s.within t R l) (hcount : Reg.TWN_CNT Cnt.TWN_DELTA_BATCHES ∉ R)
    (hl : ∀ p ∈ l, p ∈ [Part.regs, .fault] := by decide) : s.joins t := by
  have htwin : t.twin = s.twin := h.2.2 .twin fun hin => absurd (hl _ hin) (by decide)
  exact ⟨by rw [htwin], by rw [htwin], h.1 _ hcount, State.onlyParts_mono h.2 fun p hp => by
    have := hl p hp
    simp only [List.mem_cons, List.not_mem_nil, or_false] at this ⊢
    tauto⟩

theorem State.desync_joins (s : State) : s.joins s.desync := by
  unfold State.desync
  split
  · exact .refl s
  · have hsync : s.joins (s.setSync 3) := State.within.joins (R := {a | a ∈ [Reg.TWN_STATUS]}) (l := [.regs]) ((State.within.refl s _ _).setFld _ _ _)
      (by simp [Reg.TWN_CNT, Reg.TWN_STATUS, Cnt.TWN_DELTA_BATCHES])
    exact hsync.trans ((State.detect_collector _ _ _ _ _).joins (by rw [mem_collectorRegs]; decide))

theorem State.pushEntry_joins (s : State) (h : Nat) (e : List Byte) : s.joins (s.pushEntry h e) := by
  have htwin (x : TwinSt) (hd : x.deltas = s.twin.deltas) (hb : x.batchAt = s.twin.batchAt) : s.joins { s with twin := x } :=
    ⟨hd, hb, rfl, State.onlyParts_mono (s.setTwin_rest x) (by simp)⟩
  unfold State.pushEntry
  extract_lets q _ lost
  split
  · have hlost : s.joins lost := htwin _ rfl rfl
    clear_value lost
    have hcount : lost.joins (lost.bump (Reg.TWN_CNT Cnt.TWN_MIRROR_LOST)) := State.within.joins (R := {a | a ∈ [Reg.TWN_CNT Cnt.TWN_MIRROR_LOST]})
      (l := [.regs]) ((State.within.refl _ _ _).bump _) (by simp [Reg.TWN_CNT, Cnt.TWN_MIRROR_LOST, Cnt.TWN_DELTA_BATCHES])
    exact (hlost.trans hcount).trans (State.desync_joins _)
  · exact htwin _ rfl rfl

theorem deltaBatch_sends {s : State} {h : Nat} (hmirrors : s.mirrors = true)
    (hdue : Tbl.get 0 s.twin.batchAt h + usTicks (s.fld Reg.TWN_CFG Fld.TWN_CFG_BATCH_US) ≤ s.clk.mono) :
    ∃ t, deltaBatch h s = t ∧ Tbl.get 0 t.twin.batchAt h = s.clk.mono ∧ t.deltas h = []
      ∧ (s.deltas h ≠ [] → t.reg (Reg.TWN_CNT Cnt.TWN_DELTA_BATCHES) = s.reg (Reg.TWN_CNT Cnt.TWN_DELTA_BATCHES) + 1)
      ∧ s.onlyParts t [.regs, .fault, .twin] := by
  obtain ⟨u, hu, hat, hdeltas, huregs, hurest⟩ : ∃ u : State, u = { s with twin := { s.twin with batchAt := Tbl.set 0 s.twin.batchAt h s.clk.mono } }
      ∧ Tbl.get 0 u.twin.batchAt h = s.clk.mono ∧ u.deltas h = s.deltas h ∧ u.regs = s.regs ∧ s.onlyParts u [.twin] :=
    ⟨_, rfl, by rw [Tbl.get_set, if_pos rfl], rfl, rfl, s.setTwin_rest _⟩
  have heq : deltaBatch h s = if u.deltas h = [] then u
      else (forEach (u.deltas h) (fun d t => t.pushEntry h d.entry) (u.setDeltas h [])).twnBump Cnt.TWN_DELTA_BATCHES := by
    rw [hu]
    exact if_neg (by simp [hmirrors]; omega)
  have hstored : s.onlyParts u [.regs, .fault, .twin] := State.onlyParts_mono hurest (by simp)
  by_cases hnone : s.deltas h = []
  · rw [if_pos (hdeltas.trans hnone)] at heq
    exact ⟨u, heq, hat, hdeltas.trans hnone, fun h0 => absurd hnone h0, hstored⟩
  · rw [if_neg (by rw [hdeltas]; exact hnone)] at heq
    obtain ⟨e, he, hempty, hsame, heregs, herest⟩ : ∃ e, e = u.setDeltas h [] ∧ e.deltas h = [] ∧ e.twin.batchAt = u.twin.batchAt
        ∧ e.regs = u.regs ∧ u.onlyParts e [.twin] :=
      ⟨_, rfl, by rw [State.deltas, State.setDeltas, Tbl.get_set, if_pos rfl], rfl, rfl, u.setTwin_rest _⟩
    rw [← he] at heq
    have hjoins : e.joins (forEach (u.deltas h) (fun d t => t.pushEntry h d.entry) e) :=
      forEach_induct (fun t => e.joins t) _ _ e (.refl e) fun d t _ ht => ht.trans (t.pushEntry_joins h _)
    generalize forEach (u.deltas h) (fun d t => t.pushEntry h d.entry) e = v at *
    have hcount : v.reg (Reg.TWN_CNT Cnt.TWN_DELTA_BATCHES) = s.reg (Reg.TWN_CNT Cnt.TWN_DELTA_BATCHES) :=
      hjoins.count.trans ((State.reg_congr heregs _).trans (State.reg_congr huregs _))
    refine ⟨_, heq, ?_, ?_, fun _ => (State.reg_bump_self _ _).trans (congrArg (· + 1) hcount), ?_⟩
    · exact (congrArg (fun b => Tbl.get 0 b h) (hjoins.batchAt.trans hsame)).trans hat
    · exact (congrArg (fun d => Tbl.get [] d h) hjoins.deltas).trans hempty
    · exact ((hstored.step herest).step hjoins.rest).bump _

/-! ### Promotion and sync passes -/

theorem promote_raises {s : State} (hen : s.twinEn = true) (hpair : s.twnFld Fld.TWN_STATUS_PAIR_ERR = 0)
    (hthere : s.twnFld Fld.TWN_STATUS_PARTNER_LOST = 0) (hclaim : s.partnerClaim + 1 < 4294967296) :
    ∃ t, promote s = t ∧ t.ownClaim = max s.ownClaim (s.partnerClaim + 1) ∧ (s.twin.paired = true → t.twinRole = 1)
      ∧ s.within t {a | a ∈ [Reg.TWN_CLAIM, Reg.TWN_STATUS]} [.regs] := by
  obtain ⟨c, hc⟩ : ∃ c, c = s.setFld Reg.TWN_CLAIM Fld.TWN_CLAIM_OWN (max s.ownClaim (s.partnerClaim + 1)) := ⟨_, rfl⟩
  have heq : promote s = c.takeRole := by
    unfold promote
    rw [if_neg (by simp [hen]), if_neg (by simp [hpair, hthere]), hc]
  have hlt : s.ownClaim < 4294967296 := Nat.mod_lt _ (by decide)
  have hown : c.ownClaim = max s.ownClaim (s.partnerClaim + 1) := by
    rw [hc]
    exact State.fld_setFld_fits _ _ (by decide) (by simp only [Fld.TWN_CLAIM_OWN]; omega)
  have hpartner : c.partnerClaim = s.partnerClaim := hc ▸ State.fld_setFld_disjoint _ _ _ (by decide)
  have hpairc : c.twnFld Fld.TWN_STATUS_PAIR_ERR = 0 := (hc ▸ State.fld_setFld_other _ _ _ _ _ _ (by decide) : _ = _).trans hpair
  have hpaired : c.twin.paired = s.twin.paired := by rw [hc]; rfl
  have hframe : s.within c {a | a ∈ [Reg.TWN_CLAIM, Reg.TWN_STATUS]} [.regs] := hc ▸ (State.within.refl s _ _).setFld _ _ _
  have hrole : ∃ t, c.takeRole = t ∧ t.ownClaim = c.ownClaim ∧ (s.twin.paired = true → t.twinRole = 1)
      ∧ s.within t {a | a ∈ [Reg.TWN_CLAIM, Reg.TWN_STATUS]} [.regs] := by
    unfold State.takeRole
    cases hp : s.twin.paired with
    | false =>
      rw [if_pos (by simp [hpaired, hp])]
      exact ⟨c, rfl, rfl, fun h => absurd h (by simp), hframe⟩
    | true =>
      rw [if_neg (by simp [hpaired, hp, hpairc]), if_pos (by omega)]
      exact ⟨_, rfl, State.fld_setFld_other _ _ _ _ _ _ (by decide), fun _ => State.fld_setFld_fits _ _ (by decide) (by decide),
        hframe.setFld _ _ _⟩
  obtain ⟨t, ht, hsame, hprimary, hrest⟩ := hrole
  exact ⟨t, heq.trans ht, hsame.trans hown, hprimary, hrest⟩

theorem promote_refuses {s : State} (hen : s.twinEn = true)
    (hbar : s.twnFld Fld.TWN_STATUS_PAIR_ERR ≠ 0 ∨ s.twnFld Fld.TWN_STATUS_PARTNER_LOST = 1) :
    promote s = s.setTwn Fld.TWN_STATUS_PROMOTE_ERR 1 := by
  unfold promote
  rw [if_neg (by simp [hen]), if_pos hbar]

/-- A state whose sync pass is another. -/
theorem State.setPass_sets (s : State) (x : Option SyncPass) : (s.setPass x).twin = { s.twin with pass := x } ∧ (s.setPass x).regs = s.regs
    ∧ s.onlyParts (s.setPass x) [.twin] := ⟨rfl, rfl, s.setTwin_rest _⟩

theorem resync_starts {s : State} (hen : s.twinEn = true) (hrole : s.twinRole = 1) (hpair : s.twnFld Fld.TWN_STATUS_PAIR_ERR = 0)
    (hpaired : s.twin.paired = true) :
    ∃ t, resync s = t ∧ t.twnFld Fld.TWN_STATUS_SYNC = 1 ∧ t.twin = { s.twin with pass := some ⟨0, 0, 0, 0⟩ }
      ∧ t.reg (Reg.TWN_CNT Cnt.TWN_SYNC_PASSES) = s.reg (Reg.TWN_CNT Cnt.TWN_SYNC_PASSES) + 1
      ∧ s.within t {a | a ∈ [Reg.TWN_STATUS, Reg.TWN_SYNC, Reg.TWN_CNT Cnt.TWN_SYNC_PASSES]} [.regs, .twin] := by
  obtain ⟨u, hu⟩ : ∃ u, u = ((s.setSync 1).bump (Reg.TWN_CNT Cnt.TWN_SYNC_PASSES)).setReg Reg.TWN_SYNC 0 := ⟨_, rfl⟩
  have heq : resync s = u.setPass (some ⟨0, 0, 0, 0⟩) := by
    rw [hu]
    unfold resync State.startPass
    rw [if_pos hen]
    exact if_neg (by
      have hrole' : s.fld Reg.TWN_STATUS Fld.TWN_STATUS_ROLE = 1 := hrole
      have hpair' : s.fld Reg.TWN_STATUS Fld.TWN_STATUS_PAIR_ERR = 0 := hpair
      simp [hrole', hpair', hpaired])
  have hsync : u.twnFld Fld.TWN_STATUS_SYNC = 1 := by
    rw [hu]
    exact (State.fld_of_reg ((State.reg_setReg_other _ _ (by decide)).trans (State.reg_bump_other _ (by decide))) _).trans
      (State.fld_setFld_fits _ _ (by decide) (by decide))
  have hcount : u.reg (Reg.TWN_CNT Cnt.TWN_SYNC_PASSES) = s.reg (Reg.TWN_CNT Cnt.TWN_SYNC_PASSES) + 1 := by
    rw [hu]
    exact (State.reg_setReg_other _ _ (by decide)).trans
      ((State.reg_bump_self _ _).trans (congrArg (· + 1) (State.reg_setFld_other _ _ _ (by decide))))
  have htwin : u.twin = s.twin := by rw [hu]; rfl
  have hframe : s.within u {a | a ∈ [Reg.TWN_STATUS, Reg.TWN_SYNC, Reg.TWN_CNT Cnt.TWN_SYNC_PASSES]} [.regs, .twin] := by
    rw [hu]
    exact (((State.within.refl s _ _).setFld _ _ _).bump _).setReg _ _
  obtain ⟨hpass, hregs, hrest⟩ := u.setPass_sets (some ⟨0, 0, 0, 0⟩)
  exact ⟨_, heq, (State.fld_of_reg (State.reg_congr hregs _) _).trans hsync, hpass.trans (by rw [htwin]),
    (State.reg_congr hregs _).trans hcount, hframe.rest hrest⟩

/-- One slot of a shard that is not in service has been walked. -/
theorem syncPassStep_slot {s : State} {x : SyncPass} (hmirrors : s.mirrors = true) (hpass : s.twin.pass = some x) (hready : s.dmcReady = true)
    (hshard : x.shard < 16) (hroom : (Tbl.get [] s.twin.queues x.shard).length ≤ 8190) (hdown : s.shardUp x.shard = false)
    (hmay : s.exportMay x.shard x.slot = true) (e e2 : Ecc) : syncPassStep e e2 s = s.passNext x := by
  unfold syncPassStep
  rw [if_neg (by simp [hmirrors]), hpass]
  dsimp only
  rw [if_pos hshard, if_neg (by simp [hready]; omega), if_pos hshard, if_pos hmay, State.passSlot]
  exact if_pos (by rw [hdown]; rfl)

theorem State.passNext_next (s : State) {x : SyncPass} (hmore : x.slot + 1 < s.shardSlots x.shard) :
    (s.passNext x).twin = { s.twin with pass := some { x with slot := x.slot + 1 } }
      ∧ (s.passNext x).fld Reg.TWN_SYNC Fld.TWN_SYNC_SLOTS_DONE = (s.fld Reg.TWN_SYNC Fld.TWN_SYNC_SLOTS_DONE + 1) % 4294967296
      ∧ s.within (s.passNext x) {a | a ∈ [Reg.TWN_SYNC]} [.regs, .twin] := by
  obtain ⟨u, hu⟩ : ∃ u, u = (s.setFld Reg.TWN_SYNC Fld.TWN_SYNC_SLOTS_DONE (s.fld Reg.TWN_SYNC Fld.TWN_SYNC_SLOTS_DONE + 1)).setFld Reg.TWN_SYNC
      Fld.TWN_SYNC_SHARD (min 15 x.shard) := ⟨_, rfl⟩
  have heq : s.passNext x = u.setPass (some { x with slot := x.slot + 1 }) := by
    have hlast : decide (s.shardSlots x.shard ≤ x.slot + 1) = false := decide_eq_false (by omega)
    simp only [State.passNext, hlast, hu, Bool.false_eq_true, if_false]
  have hdone : u.fld Reg.TWN_SYNC Fld.TWN_SYNC_SLOTS_DONE = (s.fld Reg.TWN_SYNC Fld.TWN_SYNC_SLOTS_DONE + 1) % 4294967296 := by
    rw [hu]
    exact (State.fld_setFld_disjoint _ _ _ (by decide)).trans (State.fld_setFld_self _ _ _ _ (by decide))
  have htwin : u.twin = s.twin := by rw [hu]; rfl
  have hframe : s.within u {a | a ∈ [Reg.TWN_SYNC]} [.regs, .twin] := hu ▸ ((State.within.refl s _ _).setFld _ _ _).setFld _ _ _
  obtain ⟨hpass, hregs, hrest⟩ := u.setPass_sets (some { x with slot := x.slot + 1 })
  rw [heq]
  exact ⟨hpass.trans (by rw [htwin]), (State.fld_of_reg (State.reg_congr hregs _) _).trans hdone, hframe.rest hrest⟩

/-- No mirrored region holds a line to walk. -/
theorem State.passLine_none {s : State} (hnone : ∀ r, r < 16 → s.passLines r = 0) (x : SyncPass) : s.passLine x = none := by
  unfold State.passLine
  rw [Option.map_eq_none_iff, List.find?_eq_none]
  intro r hr
  rw [hnone r (List.mem_range.1 hr)]
  simp

theorem syncPassStep_end {s : State} {x : SyncPass} (hmirrors : s.mirrors = true) (hpass : s.twin.pass = some x) (hready : s.dmcReady = true)
    (hshard : x.shard = 16) (hroom : (Tbl.get [] s.twin.queues 0).length ≤ 8190) (hnone : ∀ r, r < 16 → s.passLines r = 0) (e e2 : Ecc) :
    ∃ t, syncPassStep e e2 s = t ∧ t.twin = { s.twin with pass := none }
      ∧ (s.twnFld Fld.TWN_STATUS_SYNC = 1 → t.twnFld Fld.TWN_STATUS_SYNC = 2) ∧ s.within t {a | a ∈ [Reg.TWN_STATUS]} [.regs, .twin] := by
  have hline := State.passLine_none hnone x
  obtain ⟨u, hu, htwin, hregs, hrest⟩ : ∃ u, u = s.setPass none ∧ u.twin = { s.twin with pass := none } ∧ u.regs = s.regs ∧ s.onlyParts u [.twin] :=
    ⟨_, rfl, s.setPass_sets none⟩
  have heq : syncPassStep e e2 s = if u.twnFld Fld.TWN_STATUS_SYNC = 1 then u.setSync 2 else u := by
    unfold syncPassStep
    rw [if_neg (by simp [hmirrors]), hpass]
    dsimp only
    have houter : ¬ x.shard < 16 := by omega
    have hmay : s.passMay x = true := by
      unfold State.passMay
      rw [hline]
    rw [if_neg houter, if_neg (show ¬ (s.dmcReady = false ∨ 8190 < (Tbl.get [] s.twin.queues 0).length) by rw [hready]; simp; omega),
      if_neg houter, if_pos hmay, State.passAux, hline, hu]
  have hsync : u.twnFld Fld.TWN_STATUS_SYNC = s.twnFld Fld.TWN_STATUS_SYNC := State.fld_of_reg (State.reg_congr hregs _) _
  have hframe : s.within u {a | a ∈ [Reg.TWN_STATUS]} [.regs, .twin] := (State.within.refl s _ _).rest hrest
  rw [hsync] at heq
  by_cases h : s.twnFld Fld.TWN_STATUS_SYNC = 1
  · rw [if_pos h] at heq
    exact ⟨_, heq, htwin, fun _ => State.fld_setFld_fits _ _ (by decide) (by decide), hframe.setFld _ _ _⟩
  · rw [if_neg h] at heq
    exact ⟨_, heq, htwin, fun h1 => absurd h1 h, hframe⟩

/-- Settles O58: mirroring, promotion and sync passes. -/
theorem twinMirroring : Obligations.TwinMirroring := by
  unfold Obligations.TwinMirroring
  refine ⟨fun s h b r es happly hop hen hup hready => ?_, fun s h hmirrors hdue => ?_, fun s hen hpair hthere hclaim => ?_,
    fun s hen hbar => ?_, fun s hen hrole hpair hpaired => ?_, fun s x e e2 hmirrors hpass hready hshard hroom hdown hmay hmore => ?_,
    fun s x e e2 hmirrors hpass hready hshard hroom hnone => ?_⟩
  · obtain ⟨t, heq, htwin, hcount, hrest⟩ := mirrorApply_applies happly hop hen hup hready es
    exact ⟨t, done_eq_next_of_eq heq hrest (by decide), htwin, hcount, hrest⟩
  · obtain ⟨t, heq, hat, hdeltas, hcount, hrest⟩ := deltaBatch_sends hmirrors hdue
    exact ⟨t, done_eq_next_of_eq heq hrest (by decide), hat, hdeltas, hcount, hrest⟩
  · obtain ⟨t, heq, hown, hrole, hframe⟩ := promote_raises hen hpair hthere hclaim
    exact ⟨t, done_eq_next_of_eq heq hframe.2 (by decide), hown, hrole, hframe.listed rfl, hframe.2⟩
  · have hframe : s.within (s.setTwn Fld.TWN_STATUS_PROMOTE_ERR 1) {a | a ∈ [Reg.TWN_STATUS]} [.regs] := (State.within.refl s _ _).setFld _ _ _
    exact ⟨_, done_eq_next_of_eq (promote_refuses hen hbar) hframe.2 (by decide), State.flag_setFld_one _ _ ⟨rfl, by decide⟩,
      State.fld_setFld_other _ _ _ _ _ _ (by decide), hframe.listed rfl, hframe.2⟩
  · obtain ⟨t, heq, hsync, htwin, hcount, hframe⟩ := resync_starts hen hrole hpair hpaired
    exact ⟨t, done_eq_next_of_eq heq hframe.2 (by decide), hsync, htwin, hcount, hframe.listed rfl, hframe.2⟩
  · obtain ⟨htwin, hslots, hframe⟩ := s.passNext_next hmore
    exact ⟨_, done_eq_next_of_eq (syncPassStep_slot hmirrors hpass hready hshard hroom hdown hmay e e2) hframe.2 (by decide), htwin, hslots,
      hframe.listed rfl, hframe.2⟩
  · obtain ⟨t, heq, htwin, hsync, hframe⟩ := syncPassStep_end hmirrors hpass hready hshard hroom hnone e e2
    exact ⟨t, done_eq_next_of_eq heq hframe.2 (by decide), htwin, hsync, hframe.listed rfl, hframe.2⟩

end Sys2Proof.Machine
end

section
/-! PROOF. Cells of arriving frames (R289 to R292): a table's unlisted keys, the cells a frame takes, the cell check, the
refill of a slice's cell cache. -/

namespace Sys2Proof.Machine

set_option Elab.async false

/-! ### Unlisted keys -/

section
variable {α : Type} {d : α}

/-- A key that no entry of the table has. -/
def Tbl.unlisted (t : Tbl α) (a : Nat) : Prop := ∀ e ∈ t, e.1 ≠ a

theorem Tbl.get_of_unlisted {t : Tbl α} {a : Nat} (h : t.unlisted a) : Tbl.get d t a = d := by
  induction t with
  | nil => rfl
  | cons e r ih =>
    exact (if_neg (fun ha => h e List.mem_cons_self ha.symm)).trans (ih fun x hx => h x (List.mem_cons_of_mem _ hx))

/-- A value written at an unlisted key adds one entry to those that satisfy `p`, where it satisfies `p`. -/
theorem Tbl.length_filter_insert {t : Tbl α} {a : Nat} (h : t.unlisted a) (x : α) (p : α → Bool) :
    ((Tbl.insert t a x).filter (fun e => p e.2)).length = (t.filter (fun e => p e.2)).length + if p x then 1 else 0 := by
  have hfront (l : Tbl α) : (((a, x) :: l).filter (fun e => p e.2)).length = (l.filter (fun e => p e.2)).length + if p x then 1 else 0 := by
    by_cases hp : p x = true <;> simp [hp]
  induction t with
  | nil => exact hfront []
  | cons e r ih =>
    have hne : e.1 ≠ a := h e List.mem_cons_self
    have hrest := ih fun y hy => h y (List.mem_cons_of_mem _ hy)
    rw [Tbl.insert]
    split
    · exact hfront _
    · rw [if_neg (Ne.symm hne)]
      by_cases hp : p e.2 = true
      · simp only [List.filter_cons, hp, if_true, List.length_cons, hrest]
        omega
      · simp only [List.filter_cons, hp, Bool.false_eq_true, if_false, hrest]

theorem Tbl.length_filter_set [DecidableEq α] {t : Tbl α} {a : Nat} (h : t.unlisted a) {x : α} (hx : x ≠ d) (p : α → Bool) :
    ((Tbl.set d t a x).filter (fun e => p e.2)).length = (t.filter (fun e => p e.2)).length + if p x then 1 else 0 := by
  rw [Tbl.set, if_neg hx, Tbl.length_filter_insert h]

end

/-- The search from n on finds an unlisted key of a sorted table whose keys lie at n or above. -/
theorem firstUnlisted_from (t : Tbl CellUse) {n : Nat} (hsorted : Tbl.sortedFrom none t = true) (hfrom : ∀ e ∈ t, n ≤ e.1) :
    n ≤ firstUnlisted t n ∧ t.unlisted (firstUnlisted t n) := by
  induction t generalizing n with
  | nil => exact ⟨le_refl n, fun _ he => absurd he List.not_mem_nil⟩
  | cons e r ih =>
    rw [Tbl.sortedFrom] at hsorted
    have hlater : ∀ x ∈ r, e.1 < x.1 := fun x hx => Tbl.lt_of_mem hsorted hx
    have hn := hfrom e List.mem_cons_self
    rw [firstUnlisted]
    split
    · next h =>
      refine ⟨le_refl n, fun x hx => ?_⟩
      obtain rfl | hr := List.mem_cons.1 hx
      · omega
      · have := hlater x hr
        omega
    · next h =>
      obtain ⟨hle, hun⟩ := ih (n := e.1 + 1) (Tbl.sortedFrom_none r _ hsorted) hlater
      refine ⟨by omega, fun x hx => ?_⟩
      obtain rfl | hr := List.mem_cons.1 hx
      · omega
      · exact hun x hr

theorem firstUnlisted_unlisted {t : Tbl CellUse} (hwf : Tbl.wf (fun _ => CellUse.free) t = true) : t.unlisted (firstUnlisted t 0) :=
  (firstUnlisted_from t ((Tbl.wf_iff _ t).1 hwf).1 fun _ _ => Nat.zero_le _).2

/-! ### The refill of a cell cache (R291) -/

/-- `t` is `s` but for n cells of the free list that now stand in the cache of a slice. -/
structure State.cachedMore (s t : State) (slice n : Nat) : Prop where
  wf : Tbl.wf (fun _ => CellUse.free) t.buf.use = true
  count : ∀ p : CellUse → Bool, t.cellCount p = s.cellCount p + if p (.cached slice) then n else 0
  cells : ∀ c : Nat, Tbl.get CellUse.free t.buf.use c = Tbl.get CellUse.free s.buf.use c
    ∨ Tbl.get CellUse.free s.buf.use c = .free ∧ Tbl.get CellUse.free t.buf.use c = .cached slice
  rest : s.onlyParts t [.buf]

theorem State.use_setUse (s : State) (c : Nat) (u : CellUse) : (s.setUse c u).buf.use = Tbl.set CellUse.free s.buf.use c u := rfl

/-- One more cell of the free list moves into the cache. -/
theorem State.cachedMore.next {s t : State} {slice n : Nat} (h : s.cachedMore t slice n) :
    s.cachedMore (t.setUse (firstUnlisted t.buf.use 0) (.cached slice)) slice (n + 1) := by
  have hun := firstUnlisted_unlisted h.wf
  have hx : CellUse.cached slice ≠ CellUse.free := nofun
  refine ⟨(congrArg _ (State.use_setUse _ _ _)).trans (Tbl.wf_set _ _ _ _ _ rfl h.wf), fun p => ?_, fun c => ?_, State.onlyParts_trans h.rest (State.setBuf_only _ _)⟩
  · have hadd : (t.setUse (firstUnlisted t.buf.use 0) (.cached slice)).cellCount p = t.cellCount p + if p (.cached slice) then 1 else 0 :=
      by simpa only [State.cellCount, State.use_setUse] using Tbl.length_filter_set hun hx p
    rw [hadd, h.count p]
    split <;> omega
  · have hget : Tbl.get CellUse.free (t.setUse (firstUnlisted t.buf.use 0) (.cached slice)).buf.use c
        = if c = firstUnlisted t.buf.use 0 then .cached slice else Tbl.get CellUse.free t.buf.use c := by rw [State.use_setUse, Tbl.get_set]
    by_cases hc : c = firstUnlisted t.buf.use 0
    · have hfree : Tbl.get CellUse.free t.buf.use c = .free := Tbl.get_of_unlisted (hc ▸ hun)
      have hwas : Tbl.get CellUse.free s.buf.use c = .free := by
        obtain hsame | ⟨hwas, -⟩ := h.cells c
        · exact hsame.symm.trans hfree
        · exact hwas
      exact .inr ⟨hwas, hget.trans (if_pos hc)⟩
    · rw [hget, if_neg hc]
      exact h.cells c

theorem cachedMore_forUpTo {s : State} (hwf : Tbl.wf (fun _ => CellUse.free) s.buf.use = true) (slice n : Nat) :
    s.cachedMore (forUpTo n (fun _ t => t.setUse (firstUnlisted t.buf.use 0) (.cached slice)) s) slice n := by
  induction n with
  | zero => exact ⟨hwf, fun p => by simp, fun _ => .inl rfl, s.onlyParts_refl _⟩
  | succ n ih => exact ih.next

/-- Cells of the cache are free cells. -/
theorem State.cachedMore.cellFree {s t : State} {slice n : Nat} (h : s.cachedMore t slice n) : t.cellFree = s.cellFree := by
  rw [State.cellFree, State.cellFree, h.count]
  rfl

/-! ### The cells of a frame (R292) -/

/-- The registers that taking a cell moves. -/
def cellRegs : List Nat := [Reg.BUF_CNT Cnt.BUF_CELLS_ALLOCATED]

theorem State.takeCell_takes (s : State) (slice : Nat) :
    (s.takeCell slice).2.reg (Reg.BUF_CNT Cnt.BUF_CELLS_ALLOCATED) = s.reg (Reg.BUF_CNT Cnt.BUF_CELLS_ALLOCATED) + 1
      ∧ s.within (s.takeCell slice).2 {a | a ∈ cellRegs} [.regs, .buf] := by
  have huse : s.onlyParts (s.setUse (s.pickCell slice) .inFlight) [.buf] := State.setBuf_only _ _
  have hbump := ((State.within.refl s {a | a ∈ cellRegs} [.regs, .buf]).rest huse).bump (Reg.BUF_CNT Cnt.BUF_CELLS_ALLOCATED)
    List.mem_cons_self
  exact ⟨State.reg_bump_self _ _, hbump.rest (State.setBuf_only _ _)⟩

theorem State.linkCells_only (s : State) (cells : List Nat) (c : Nat) : s.onlyParts (s.linkCells cells c) [.buf] := by
  unfold State.linkCells
  split
  · exact State.setBuf_only _ _
  · exact State.setBuf_only _ _

/-- Each cell that a frame grows by is counted. -/
theorem State.growCells_takes (s : State) (slice : Nat) (cells : List Nat) (n : Nat) :
    (s.growCells slice cells n).1.length = cells.length + n
      ∧ (s.growCells slice cells n).2.reg (Reg.BUF_CNT Cnt.BUF_CELLS_ALLOCATED)
        = s.reg (Reg.BUF_CNT Cnt.BUF_CELLS_ALLOCATED) + BitVec.ofNat 64 n
      ∧ s.within (s.growCells slice cells n).2 {a | a ∈ cellRegs} [.regs, .buf] := by
  induction n generalizing s cells with
  | zero => exact ⟨rfl, (BitVec.add_zero _).symm, .refl s _ _⟩
  | succ n ih =>
    obtain ⟨hcount, htaken⟩ := s.takeCell_takes slice
    have hlinked := (s.takeCell slice).2.linkCells_only cells (s.takeCell slice).1
    obtain ⟨hlen, hmore, hframe⟩ := ih ((s.takeCell slice).2.linkCells cells (s.takeCell slice).1) (cells ++ [(s.takeCell slice).1])
    have hlinkReg := hlinked.reg_eq (by decide) (Reg.BUF_CNT Cnt.BUF_CELLS_ALLOCATED)
    rw [State.growCells]
    refine ⟨?_, ?_, (htaken.rest hlinked).trans hframe⟩
    · rw [hlen, List.length_append, List.length_singleton]
      omega
    · rw [hmore, hlinkReg, hcount, BitVec.add_assoc, Nat.add_comm n 1, BitVec.ofNat_add]
      rfl

theorem State.writeCells_only (s : State) (cells : List Nat) (off : Nat) (l : List Byte) : s.onlyParts (s.writeCells cells off l) [.buf] := by
  induction l generalizing s off with
  | nil => exact s.onlyParts_refl _
  | cons b r ih =>
    rw [State.writeCells]
    split
    · exact s.onlyParts_refl _
    · exact State.onlyParts_trans (State.setBuf_only _ _) (ih _ _)

/-- A frame takes one cell for 256 bytes, at most 36. -/
theorem State.fillCells_takes (s : State) (p : Nat) (bytes : List Byte) :
    (s.fillCells p [] [] bytes).1.length = min 36 ((bytes.length + 255) / 256)
      ∧ (s.fillCells p [] [] bytes).2.reg (Reg.BUF_CNT Cnt.BUF_CELLS_ALLOCATED)
        = s.reg (Reg.BUF_CNT Cnt.BUF_CELLS_ALLOCATED) + BitVec.ofNat 64 (s.fillCells p [] [] bytes).1.length
      ∧ s.within (s.fillCells p [] [] bytes).2 {a | a ∈ cellRegs} [.regs, .buf] := by
  obtain ⟨hlen, hcount, hframe⟩ := s.growCells_takes (sliceOf p) [] (min 36 ((bytes.length + 255) / 256))
  have hwritten := (s.growCells (sliceOf p) [] (min 36 ((bytes.length + 255) / 256))).2.writeCells_only
    (s.growCells (sliceOf p) [] (min 36 ((bytes.length + 255) / 256))).1 0 (bytes.take 9216)
  have hlen' : (s.fillCells p [] [] bytes).1.length = min 36 ((bytes.length + 255) / 256) := hlen.trans (Nat.zero_add _)
  refine ⟨hlen', ?_, hframe.rest hwritten⟩
  rw [hlen']
  exact (hwritten.reg_eq (by decide) _).trans hcount

/-! ### The cell check (R292) -/

/-- The end of a check: port p holds `x`, but for its flow-control marks, and the entries of the FIFO go back. -/
theorem State.checkEnd (s : State) (p n : Nat) (x : PortSt) :
    ∃ t, ((s.setPort p x).freeEntry (lnkIngress p) n).fcUpdate p = t ∧ (t.port p).fifo = x.fifo
      ∧ (t.link (lnkIngress p)).owed = (s.link (lnkIngress p)).owed + n ∧ s.onlyPort t p ∧ s.onlyParts t [.ports, .links] := by
  have hset : s.PortHolds (s.setPort p x) p [.ports, .links] x.fifo x.rx := (State.PortHolds.refl s p _).setPort x (by decide)
  have hfreed := hset.beside (State.freeEntry_rest _ (lnkIngress p) n) (by decide) (by decide)
  have hend := hfreed.fcUpdate (by decide)
  have howed := State.owed_freeEntry (s.setPort p x) (lnkIngress p) n
  rw [(s.setPort_rest p x).link_eq (by decide)] at howed
  exact ⟨_, rfl, hend.fifo, (congrArg Link.owed ((State.fcUpdate_rest _ p).link_eq (by decide) _)).trans howed, hend.only, hend.rest⟩

section
variable {s : State} {p : Nat} {l r : List IngFrame} {f : IngFrame} (hsplit : splitUnchecked (s.port p).fifo = (l, f :: r))
  (hbytes : f.bytes ≠ []) (hmac : isMacControl f.bytes = false) (hroom : (s.port p).beyond < 6)
include hsplit hbytes hmac hroom

/-- With ING_GUARD cells free the frame starts in cells. -/
theorem cellCheck_starts (hfree : s.fld Reg.BUF_CFG Fld.BUF_CFG_ING_GUARD ≤ s.cellFree) :
    ∃ t cs, cellCheck p s = t ∧ (t.port p).fifo = l ++ { f with cells := some cs, entries := 0 } :: r
      ∧ cs.length = min 36 ((f.bytes.length + 255) / 256)
      ∧ t.reg (Reg.BUF_CNT Cnt.BUF_CELLS_ALLOCATED) = s.reg (Reg.BUF_CNT Cnt.BUF_CELLS_ALLOCATED) + BitVec.ofNat 64 cs.length
      ∧ (t.link (lnkIngress p)).owed = (s.link (lnkIngress p)).owed + f.entries
      ∧ s.onlyRegs t cellRegs ∧ s.onlyPort t p ∧ s.onlyParts t [.regs, .ports, .links, .buf] := by
  obtain ⟨hlen, hcount, hfilled⟩ := s.fillCells_takes p f.bytes
  obtain ⟨y, hy⟩ : ∃ y, y = s.fillCells p [] [] f.bytes := ⟨_, rfl⟩
  rw [← hy] at hlen hcount hfilled
  obtain ⟨t, ht, hfifo, howed, honly, hrest⟩ := y.2.checkEnd p f.entries
    { y.2.port p with fifo := l ++ { f with cells := some y.1, entries := 0 } :: r }
  have heq : cellCheck p s = t := by
    unfold cellCheck
    dsimp only
    rw [hsplit]
    dsimp only
    rw [if_neg (by simp only [hbytes, hmac, Bool.false_eq_true, false_or]; omega), if_pos hfree, ← hy]
    exact ht
  have hport := hfilled.2.onlyPort (by decide) p
  have hframe : s.within t {a | a ∈ cellRegs} [.regs, .ports, .links, .buf] := (hfilled.parts (by decide)).rest hrest
  exact ⟨t, y.1, heq, hfifo, hlen, (hrest.reg_eq (by decide) _).trans hcount,
    howed.trans (by rw [hfilled.2.link_eq (by decide)]), hframe.listed rfl, State.onlyPort_trans hport honly, hframe.2⟩

/-- Below ING_GUARD the frame is refused, and leaves the FIFO where its end has arrived. -/
theorem cellCheck_refuses (hfree : s.cellFree < s.fld Reg.BUF_CFG Fld.BUF_CFG_ING_GUARD) :
    ∃ t, cellCheck p s = t ∧ (t.port p).fifo = l ++ (if f.ended = true then r else { f with refused := true, entries := 0 } :: r)
      ∧ t.reg (Reg.BUF_ING_NO_CELL p) = s.reg (Reg.BUF_ING_NO_CELL p) + 1
      ∧ t.reg (Reg.BUF_CNT Cnt.BUF_ING_NO_CELL) = s.reg (Reg.BUF_CNT Cnt.BUF_ING_NO_CELL) + 1
      ∧ t.flag Reg.BUF_STATUS Fld.BUF_STATUS_ING_NO_CELL_SEEN = true
      ∧ (t.link (lnkIngress p)).owed = (s.link (lnkIngress p)).owed + f.entries
      ∧ s.within t {a | a ∈ [Reg.BUF_ING_NO_CELL p, Reg.BUF_CNT Cnt.BUF_ING_NO_CELL, Reg.BUF_STATUS]} [.regs, .ports, .links]
      ∧ s.onlyPort t p := by
  have hport : Reg.BUF_CNT Cnt.BUF_ING_NO_CELL ≠ Reg.BUF_ING_NO_CELL p := by
    simp only [Reg.BUF_CNT, Reg.BUF_ING_NO_CELL, Cnt.BUF_ING_NO_CELL]
    omega
  have hstatus : Reg.BUF_ING_NO_CELL p ≠ Reg.BUF_STATUS := by
    simp only [Reg.BUF_STATUS, Reg.BUF_ING_NO_CELL]
    omega
  obtain ⟨u, hu⟩ : ∃ u, u = ((s.bump (Reg.BUF_ING_NO_CELL p)).bump (Reg.BUF_CNT Cnt.BUF_ING_NO_CELL)).setFld
    Reg.BUF_STATUS Fld.BUF_STATUS_ING_NO_CELL_SEEN 1 := ⟨_, rfl⟩
  have hcounted : s.within u {a | a ∈ [Reg.BUF_ING_NO_CELL p, Reg.BUF_CNT Cnt.BUF_ING_NO_CELL, Reg.BUF_STATUS]} [.regs] := by
    rw [hu]
    exact (((State.within.refl s _ _).bump _).bump _).setFld _ _ _
  have hone : u.reg (Reg.BUF_ING_NO_CELL p) = s.reg (Reg.BUF_ING_NO_CELL p) + 1 := by
    rw [hu]
    exact (State.reg_setFld_other _ _ _ hstatus).trans ((State.reg_bump_other _ hport.symm).trans (State.reg_bump_self _ _))
  have hall : u.reg (Reg.BUF_CNT Cnt.BUF_ING_NO_CELL) = s.reg (Reg.BUF_CNT Cnt.BUF_ING_NO_CELL) + 1 := by
    rw [hu]
    exact (State.reg_setFld_other _ _ _ (by decide)).trans
      ((State.reg_bump_self _ _).trans (congrArg (· + 1) (State.reg_bump_other _ hport)))
  have hseen : u.flag Reg.BUF_STATUS Fld.BUF_STATUS_ING_NO_CELL_SEEN = true := by
    rw [hu]
    exact State.flag_setFld_one _ _ ⟨rfl, by decide⟩
  obtain ⟨t, ht, hfifo, howed, honly, hrest⟩ := u.checkEnd p f.entries
    { s.port p with fifo := l ++ (if f.ended then r else { f with refused := true, entries := 0 } :: r) }
  have heq : cellCheck p s = t := by
    unfold cellCheck
    dsimp only
    rw [hsplit]
    dsimp only
    rw [if_neg (by simp only [hbytes, hmac, Bool.false_eq_true, false_or]; omega), if_neg (by omega), ← hu]
    exact ht
  have hreg (a : Nat) : t.reg a = u.reg a := hrest.reg_eq (by decide) a
  exact ⟨t, heq, hfifo, (hreg _).trans hone, (hreg _).trans hall, (State.flag_of_reg (hreg _) _).trans hseen,
    howed.trans (by rw [hcounted.2.link_eq (by decide)]), (hcounted.parts (by decide)).rest hrest,
    State.onlyPort_trans (hcounted.2.onlyPort (by decide) p) honly⟩

end

/-- The slice holds six frames beyond the FIFO: none starts. -/
theorem cellCheck_stays {s : State} {p : Nat} (hfull : 6 ≤ (s.port p).beyond) : cellCheck p s = s := by
  unfold cellCheck
  dsimp only
  split
  · rfl
  · exact if_pos (.inr (.inr hfull))

/-- Settles O15: the cell check starts or refuses the head frame, and the cache refill moves cells of the free list. -/
theorem cellsOfArrivingFrames : Obligations.CellsOfArrivingFrames := by
  unfold Obligations.CellsOfArrivingFrames
  refine ⟨fun s p l f r hsplit hbytes hmac hroom hfree => ?_, fun s p l f r hsplit hbytes hmac hroom hfree => ?_, fun s p hfull => ?_,
    fun s i hwf => ?_⟩
  · obtain ⟨t, cs, heq, hfifo, hlen, hcount, howed, hregs, hport, hrest⟩ := cellCheck_starts hsplit hbytes hmac hroom hfree
    exact ⟨t, cs, done_eq_next_of_eq heq hrest (by decide), hfifo, hlen, hcount, howed, hregs, hport, hrest⟩
  · obtain ⟨t, heq, hfifo, hone, hall, hseen, howed, hframe, hport⟩ := cellCheck_refuses hsplit hbytes hmac hroom hfree
    exact ⟨t, done_eq_next_of_eq heq hframe.2 (by decide), hfifo, hone, hall, hseen, howed, hframe.listed rfl, hport, hframe.2⟩
  · exact done_eq_next_of_eq (cellCheck_stays hfull) (s.onlyParts_refl []) (by decide)
  · have hmore := cachedMore_forUpTo hwf i.val (min (64 - s.cellCount (· == .cached i.val))
      (s.cellFree - s.cellCount (fun u => match u with | .cached _ => true | _ => false)))
    have hcount := hmore.count (· == .cached i.val)
    rw [if_pos (by simp)] at hcount
    exact ⟨_, done_eq_next_of_eq rfl hmore.rest (by decide), hcount, hmore.cells, hmore.cellFree, hmore.rest⟩

end Sys2Proof.Machine
end

section
/-! PROOF. The tables and gauges of the TMs (R304, R307, R310, R311, R319, R326, R330): rounds over queues, averages and
snapshots, shaper buckets, samplers, multicast groups, next-hop entries, a queue's flush. -/

namespace Sys2Proof.Machine

set_option Elab.async false

/-! ### Rounds -/

/-- The rounds u = 0, 1, … each write one register of their own: it holds in the end what its round gave it. -/
theorem forUpTo_writes {A : Nat → Nat} (hA : ∀ u v, A u = A v → u = v) {f : Nat → State → State}
    (hf : ∀ (u : Nat) (t : State), t.within (f u t) {A u} [.regs]) (s : State) (n : Nat) :
    s.within (forUpTo n f s) {a | ∃ u < n, a = A u} [.regs]
      ∧ ∀ u < n, ∃ t, (forUpTo n f s).reg (A u) = (f u t).reg (A u) ∧ t.reg (A u) = s.reg (A u) ∧ s.onlyParts t [.regs] := by
  induction n with
  | zero => exact ⟨.refl s _ _, fun u hu => absurd hu (Nat.not_lt_zero u)⟩
  | succ n ih =>
    obtain ⟨hframe, hvalues⟩ := ih
    have hround := hf n (forUpTo n f s)
    refine ⟨(hframe.mono ?_ fun _ h => h).trans (hround.mono ?_ fun _ h => h), fun u hu => ?_⟩
    · rintro a ⟨u, hu, ha⟩
      exact ⟨u, by omega, ha⟩
    · rintro a rfl
      exact ⟨n, by omega, rfl⟩
    · obtain rfl | hlt := Nat.eq_or_lt_of_le (Nat.le_of_lt_succ hu)
      · refine ⟨forUpTo u f s, rfl, hframe.1 _ ?_, hframe.2⟩
        rintro ⟨v, hv, ha⟩
        exact hv.ne' (hA u v ha)
      · obtain ⟨t, hvalue, hbefore, hrest⟩ := hvalues u hlt
        exact ⟨t, (hround.1 _ fun h => hlt.ne (hA u n h)).trans hvalue, hbefore, hrest⟩

/-! ### WRED averages (R304) -/

/-- Every average moves toward its queue's depth. -/
theorem wredAvgUpdate_moves {s : State} {q : Nat} (hup : s.down (unitTm q) = false) :
    ∃ t, wredAvgUpdate q s = t
      ∧ (∀ u, u < 656 → t.fld (Reg.TMG_QAVG q u) Fld.TMG_QAVG_AVG
          = ((s.fld (Reg.TMG_QAVG q u) Fld.TMG_QAVG_AVG * (2 ^ s.fld (Reg.TMG_WRED_CTL q) Fld.TMG_WRED_CTL_WEIGHT - 1)
              + 256 * depthOf (s.queue q u)) / 2 ^ s.fld (Reg.TMG_WRED_CTL q) Fld.TMG_WRED_CTL_WEIGHT)
            % 2 ^ Fld.TMG_QAVG_AVG.len)
      ∧ s.within t {a | a ∈ (List.range 656).map (Reg.TMG_QAVG q)} [.regs] := by
  obtain ⟨w, hw⟩ : ∃ w, w = 2 ^ s.fld (Reg.TMG_WRED_CTL q) Fld.TMG_WRED_CTL_WEIGHT := ⟨_, rfl⟩
  obtain ⟨hframe, hvalues⟩ := forUpTo_writes (A := Reg.TMG_QAVG q) (f := fun u t => t.setFld (Reg.TMG_QAVG q u) Fld.TMG_QAVG_AVG
      ((t.fld (Reg.TMG_QAVG q u) Fld.TMG_QAVG_AVG * (w - 1) + 256 * depthOf (t.queue q u)) / w))
    (fun u v h => by simp only [Reg.TMG_QAVG] at h; omega) (fun u t => t.setFld_within (Set.mem_singleton _) _ _) s 656
  refine ⟨_, rfl, fun u hu => ?_, ?_⟩
  · obtain ⟨t, hvalue, hbefore, hrest⟩ := hvalues u hu
    have hqueue : t.queue q u = s.queue q u := by rw [State.queue, State.queue, show t.tm = s.tm from hrest.2 .tm (by decide)]
    rw [← hw, wredAvgUpdate, if_neg (by rw [hup]; exact Bool.false_ne_true), ← hw, State.fld_of_reg hvalue,
      State.fld_setFld_self _ _ _ _ (by decide), State.fld_of_reg hbefore, hqueue]
  · rw [wredAvgUpdate, if_neg (by rw [hup]; exact Bool.false_ne_true), ← hw]
    refine hframe.mono ?_ fun _ h => h
    rintro a ⟨u, hu, rfl⟩
    exact List.mem_map.2 ⟨u, List.mem_range.2 hu, rfl⟩

/-! ### The Gauge (R326) -/

section
variable (s : State) {q : Nat}

/-- One queue's snapshot in bank b: its depth, and how long its head has waited. -/
def State.snapQueue (q b u : Nat) : State :=
  (s.setFld (Reg.TMG_GAUGE_SNAP q b u) Fld.TMG_GAUGE_SNAP_DEPTH (depthOf (s.queue q u))).setFld (Reg.TMG_GAUGE_SNAP q b u)
    Fld.TMG_GAUGE_SNAP_HEAD_SOJOURN (match s.queue q u with | [] => 0 | c :: _ => min (s.clk.mono - c.mono) 4294967295)

theorem State.snapQueue_depth (b u : Nat) : (s.snapQueue q b u).fld (Reg.TMG_GAUGE_SNAP q b u) Fld.TMG_GAUGE_SNAP_DEPTH
    = depthOf (s.queue q u) % 2 ^ Fld.TMG_GAUGE_SNAP_DEPTH.len :=
  (State.fld_setFld_disjoint _ _ _ (by decide)).trans (State.fld_setFld_self _ _ _ _ (by decide))

theorem State.snapQueue_within (b u : Nat) : s.within (s.snapQueue q b u) {Reg.TMG_GAUGE_SNAP q b u} [.regs] :=
  (s.setFld_within (Set.mem_singleton _) _ _).trans (State.setFld_within _ (Set.mem_singleton _) _ _)

/-- The sweep's end: the bank is the one last completed, and the sweep is counted. -/
def State.sweepEnd (q b : Nat) : State :=
  let a := Reg.TMG_GAUGE_STATUS q
  (((s.setFld a Fld.TMG_GAUGE_STATUS_BANK b).setFld a Fld.TMG_GAUGE_STATUS_SEQ
    (s.fld a Fld.TMG_GAUGE_STATUS_SEQ + 1)).tschBump q Cnt.TSCH_GAUGE_SWEEPS)

theorem State.sweepEnd_shows {b : Nat} (hb : b < 2) :
    (s.sweepEnd q b).fld (Reg.TMG_GAUGE_STATUS q) Fld.TMG_GAUGE_STATUS_BANK = b
      ∧ (s.sweepEnd q b).fld (Reg.TMG_GAUGE_STATUS q) Fld.TMG_GAUGE_STATUS_SEQ
        = (s.fld (Reg.TMG_GAUGE_STATUS q) Fld.TMG_GAUGE_STATUS_SEQ + 1) % 2 ^ Fld.TMG_GAUGE_STATUS_SEQ.len
      ∧ s.within (s.sweepEnd q b) {Reg.TMG_GAUGE_STATUS q, Reg.TMG_SCH_CNT q Cnt.TSCH_GAUGE_SWEEPS} [.regs] := by
  have hcount : Reg.TMG_GAUGE_STATUS q ≠ Reg.TMG_SCH_CNT q Cnt.TSCH_GAUGE_SWEEPS := by
    simp only [Reg.TMG_GAUGE_STATUS, Reg.TMG_SCH_CNT]
    omega
  have hkept (f : Fld) : (s.sweepEnd q b).fld (Reg.TMG_GAUGE_STATUS q) f = _ := State.fld_of_reg (State.reg_bump_other _ hcount) f
  refine ⟨?_, ?_, (((State.within.refl s _ _).setFld _ _ _).setFld _ _ _).bump _⟩
  · exact (hkept _).trans ((State.fld_setFld_disjoint _ _ _ (by decide)).trans (State.fld_setFld_fits _ _ (by decide) hb))
  · exact (hkept _).trans (State.fld_setFld_self _ _ _ _ (by decide))

end

/-- A due sweep shows every queue's depth in the other bank. -/
theorem gaugeSweep_shows {s : State} {q : Nat} (hup : s.down (unitTm q) = false)
    (hper : 0 < s.fld (Reg.TMG_GAUGE_CTL q) Fld.TMG_GAUGE_CTL_PERIOD_US)
    (hdue : Tbl.get 0 s.tm.gaugeAt q + usTicks (s.fld (Reg.TMG_GAUGE_CTL q) Fld.TMG_GAUGE_CTL_PERIOD_US) ≤ s.clk.mono) :
    ∃ t, gaugeSweep q s = t
      ∧ (∀ u, u < 656 → t.fld (Reg.TMG_GAUGE_SNAP q (1 - s.fld (Reg.TMG_GAUGE_STATUS q) Fld.TMG_GAUGE_STATUS_BANK) u)
          Fld.TMG_GAUGE_SNAP_DEPTH = depthOf (s.queue q u) % 2 ^ Fld.TMG_GAUGE_SNAP_DEPTH.len)
      ∧ t.fld (Reg.TMG_GAUGE_STATUS q) Fld.TMG_GAUGE_STATUS_BANK = 1 - s.fld (Reg.TMG_GAUGE_STATUS q) Fld.TMG_GAUGE_STATUS_BANK
      ∧ t.fld (Reg.TMG_GAUGE_STATUS q) Fld.TMG_GAUGE_STATUS_SEQ
        = (s.fld (Reg.TMG_GAUGE_STATUS q) Fld.TMG_GAUGE_STATUS_SEQ + 1) % 2 ^ Fld.TMG_GAUGE_STATUS_SEQ.len
      ∧ s.onlyParts t [.regs, .tm] := by
  obtain ⟨b, hb⟩ : ∃ b, b = 1 - s.fld (Reg.TMG_GAUGE_STATUS q) Fld.TMG_GAUGE_STATUS_BANK := ⟨_, rfl⟩
  obtain ⟨v, hv⟩ : ∃ v : State, v = { s with tm := { s.tm with gaugeAt := Tbl.set 0 s.tm.gaugeAt q s.clk.mono } } := ⟨_, rfl⟩
  obtain ⟨w, hw⟩ : ∃ w, w = v.setReg (Reg.TMG_GAUGE_MONO q b) (BitVec.ofNat 64 s.clk.mono) := ⟨_, rfl⟩
  have hnoted : s.onlyParts v [.tm] := hv ▸ s.setTm_only _ []
  have hqueues (u : Nat) : v.queue q u = s.queue q u := by rw [hv]; rfl
  have hstamped : v.within w {Reg.TMG_GAUGE_MONO q b} [.regs] := hw ▸ v.setReg_within (Set.mem_singleton _) _
  obtain ⟨hframe, hvalues⟩ := forUpTo_writes (A := Reg.TMG_GAUGE_SNAP q b) (f := fun u t => t.snapQueue q b u)
    (fun u v h => by simp only [Reg.TMG_GAUGE_SNAP] at h; omega) (fun u t => t.snapQueue_within b u) w 656
  obtain ⟨x, hx⟩ : ∃ x, x = forUpTo 656 (fun u t => t.snapQueue q b u) w := ⟨_, rfl⟩
  rw [← hx] at hframe hvalues
  obtain ⟨hbank, hseq, hend⟩ := x.sweepEnd_shows (q := q) (b := b) (by omega)
  have hstatus : x.reg (Reg.TMG_GAUGE_STATUS q) = s.reg (Reg.TMG_GAUGE_STATUS q) := by
    refine (hframe.1 _ ?_).trans ((hstamped.1 _ ?_).trans (hnoted.reg_eq (by decide) _))
    · rintro ⟨u, -, h⟩
      simp only [Reg.TMG_GAUGE_STATUS, Reg.TMG_GAUGE_SNAP] at h
      omega
    · simp only [Set.mem_singleton_iff, Reg.TMG_GAUGE_STATUS, Reg.TMG_GAUGE_MONO]
      omega
  have heq : gaugeSweep q s = x.sweepEnd q b := by
    unfold gaugeSweep
    dsimp only
    rw [if_neg (by simp only [hup, Bool.false_eq_true, false_or]; omega), ← hb, ← hv, ← hw]
    generalize hy : forUpTo 656 _ w = y
    have hrounds : y = x := by
      rw [← hy, hx]
      exact congrArg (fun f => forUpTo 656 f w) (funext fun u => funext fun t => rfl)
    rw [hrounds]
    rfl
  refine ⟨_, heq, fun u hu => ?_, hbank.trans hb, hseq.trans (by rw [State.fld_of_reg hstatus]),
    State.onlyParts_trans (State.onlyParts_mono hnoted (by simp)) (State.onlyParts_mono
      (State.onlyParts_trans hstamped.2 (State.onlyParts_trans hframe.2 hend.2)) (by simp))⟩
  obtain ⟨t, hvalue, -, hrest⟩ := hvalues u hu
  have hqueue : t.queue q u = s.queue q u := by
    rw [← hqueues u, State.queue, State.queue, show t.tm = w.tm from hrest.2 .tm (by decide), show w.tm = v.tm from hstamped.2.2 .tm (by decide)]
  have hlast : (x.sweepEnd q b).reg (Reg.TMG_GAUGE_SNAP q b u) = x.reg (Reg.TMG_GAUGE_SNAP q b u) := hend.1 _ (by
    simp only [Set.mem_insert_iff, Set.mem_singleton_iff, Reg.TMG_GAUGE_STATUS, Reg.TMG_GAUGE_SNAP, Reg.TMG_SCH_CNT, Cnt.TSCH_GAUGE_SWEEPS]
    omega)
  rw [← hb, State.fld_of_reg hlast, State.fld_of_reg hvalue, t.snapQueue_depth, hqueue]

/-! ### Shaper buckets (R319) -/

theorem Tbl.nodup_keys {α : Type} {t : Tbl α} (hsorted : Tbl.sortedFrom none t = true) : (t.map (fun e => e.1)).Nodup := by
  induction t with
  | nil => exact List.nodup_nil
  | cons e r ih =>
    rw [Tbl.sortedFrom] at hsorted
    refine List.nodup_cons.2 ⟨fun h => ?_, ih (Tbl.sortedFrom_none r _ hsorted)⟩
    obtain ⟨x, hx, hkey⟩ := List.mem_map.1 h
    exact (Tbl.lt_of_mem hsorted hx).ne' hkey

/-- A round changes at most the bucket of its key. -/
def State.oneBucket (s t : State) (k : Nat) : Prop :=
  s.onlyParts t [.tm] ∧ ∀ j, j ≠ k → Tbl.get none t.tm.buckets j = Tbl.get none s.tm.buckets j

theorem State.oneBucket.refl (s : State) (k : Nat) : s.oneBucket s k := ⟨s.onlyParts_refl _, fun _ _ => rfl⟩

theorem State.setTokens_oneBucket (s : State) (k : Nat) (x : Int) : s.oneBucket (s.setTokens k x) k :=
  ⟨s.setTm_only _ [], fun j hj => (Tbl.get_set none s.tm.buckets k j (some ⟨x⟩)).trans (if_neg hj)⟩

theorem State.bucket_setTokens (s : State) (k : Nat) (x : Int) : Tbl.get none (s.setTokens k x).tm.buckets k = some ⟨x⟩ := by
  rw [State.setTokens, Tbl.get_set, if_pos rfl]

/-- Each bucket's own round gives it its value in the end. -/
theorem forEach_oneBucket {f : Nat → State → State} (hf : ∀ (k : Nat) (t : State), t.oneBucket (f k t) k) {l : List Nat} (hnodup : l.Nodup) (s : State) :
    s.onlyParts (forEach l f s) [.tm]
      ∧ (∀ j ∉ l, Tbl.get none (forEach l f s).tm.buckets j = Tbl.get none s.tm.buckets j)
      ∧ ∀ k ∈ l, ∃ t, Tbl.get none (forEach l f s).tm.buckets k = Tbl.get none (f k t).tm.buckets k
        ∧ Tbl.get none t.tm.buckets k = Tbl.get none s.tm.buckets k ∧ s.onlyParts t [.tm] := by
  induction l generalizing s with
  | nil => exact ⟨s.onlyParts_refl _, fun _ _ => rfl, fun k hk => absurd hk List.not_mem_nil⟩
  | cons x r ih =>
    obtain ⟨hx, hr⟩ := List.nodup_cons.1 hnodup
    obtain ⟨honly, hother⟩ := hf x s
    obtain ⟨hrest, hleft, hdone⟩ := ih hr (f x s)
    refine ⟨State.onlyParts_trans honly hrest, fun j hj => ?_, fun k hk => ?_⟩
    · obtain ⟨hjx, hjr⟩ := not_or.1 (mt List.mem_cons.2 hj)
      exact (hleft j hjr).trans (hother j hjx)
    · obtain rfl | hkr := List.mem_cons.1 hk
      · exact ⟨s, hleft k hx, rfl, s.onlyParts_refl _⟩
      · obtain ⟨t, hend, hbefore, ht⟩ := hdone k hkr
        exact ⟨t, hend, hbefore.trans (hother k fun h => hx (h ▸ hkr)), State.onlyParts_trans honly ht⟩

/-- A queue's bucket gains what 40 ns give, up to BURST. -/
theorem shaperRefill_gains {s : State} {q u : Nat} {x : Int} (hq : q < 4) (hu : u < 656) (hwf : Tbl.wf (fun _ => none) s.tm.buckets = true)
    (hget : Tbl.get none s.tm.buckets (queueBucket q u) = some { tokens := x }) :
    ∃ t, shaperRefill q s = t
      ∧ Tbl.get none t.tm.buckets (queueBucket q u) = some ⟨
          min ((s.fld (Reg.TMG_QSHAPE_BURST q u) Fld.TMG_QSHAPE_BURST_BURST * 65536 : Nat) : Int)
            (x + refillGain (s.fld (Reg.TMG_QSHAPE_RATE q u) Fld.TMG_QSHAPE_RATE_RATE))⟩
      ∧ s.onlyParts t [.tm] := by
  have hkey : queueBucket q u ∈ s.tm.buckets.map (fun e => e.1) := by
    by_contra hnot
    have hun : Tbl.unlisted s.tm.buckets (queueBucket q u) := fun e he h => hnot (List.mem_map.2 ⟨e, he, h⟩)
    rw [Tbl.get_of_unlisted hun] at hget
    exact nomatch hget
  have hlow : ¬ 4096 ≤ queueBucket q u := by
    unfold queueBucket
    omega
  have hquad : ¬ queueBucket q u / 656 ≠ q := by
    unfold queueBucket
    omega
  have hmod : queueBucket q u % 656 = u := by
    unfold queueBucket
    omega
  unfold shaperRefill
  generalize hf : (fun (k : Nat) (t : State) => _) = f
  have hone : ∀ k t, State.oneBucket t (f k t) k := by
    rw [← hf]
    intro k t
    dsimp only
    split
    · split
      · exact .refl t k
      · exact t.setTokens_oneBucket k _
    · split
      · exact .refl t k
      · exact t.setTokens_oneBucket k _
  obtain ⟨hrest, -, hdone⟩ := forEach_oneBucket hone (Tbl.nodup_keys ((Tbl.wf_iff _ _).1 hwf).1) s
  obtain ⟨t, hend, hbefore, ht⟩ := hdone _ hkey
  refine ⟨_, rfl, hend.trans ?_, hrest⟩
  have hreg (a : Nat) : t.reg a = s.reg a := ht.reg_eq (by decide) a
  have htokens : t.queueTokens q u = x := by rw [State.queueTokens, State.tokens, hbefore, hget]
  rw [← hf]
  dsimp only
  rw [if_neg hlow, if_neg hquad, hmod, htokens, State.fld_of_reg (hreg _), State.fld_of_reg (hreg _)]
  exact t.bucket_setTokens _ _

/-! ### Samplers (R310) -/

/-- A sampler enabled without RAND_START counts from 0. -/
theorem samplerEnable_zero {s : State} {k : Nat} (hrand : s.flag (Reg.BUF_SAMP_CFG k) Fld.BUF_SAMP_CFG_RAND_START = false) :
    ∃ t, samplerEnable k s = t ∧ t.flag (Reg.BUF_SAMP_CFG k) Fld.BUF_SAMP_CFG_EN = true ∧ Tbl.get ⟨0⟩ t.tm.samplers k = ⟨0⟩
      ∧ s.within t {a | a ∈ [Reg.BUF_SAMP_CFG k]} [.regs, .tm] := by
  obtain ⟨u, hu⟩ : ∃ u, u = s.setFld (Reg.BUF_SAMP_CFG k) Fld.BUF_SAMP_CFG_EN 1 := ⟨_, rfl⟩
  have hen : u.flag (Reg.BUF_SAMP_CFG k) Fld.BUF_SAMP_CFG_EN = true := hu ▸ State.flag_setFld_one _ _ ⟨rfl, by decide⟩
  have hframe : s.within u {a | a ∈ [Reg.BUF_SAMP_CFG k]} [.regs, .tm] := hu ▸ (State.within.refl s _ _).setFld _ _ _
  have hrand' : u.flag (Reg.BUF_SAMP_CFG k) Fld.BUF_SAMP_CFG_RAND_START = false :=
    hu ▸ (State.flag_setFld_disjoint _ _ _ (by decide)).trans hrand
  have heq : samplerEnable k s = { u with tm := { u.tm with samplers := Tbl.set ⟨0⟩ u.tm.samplers k ⟨0⟩ } } := by
    unfold samplerEnable
    dsimp only
    rw [← hu, if_neg (by rw [hrand']; exact Bool.false_ne_true)]
  exact ⟨_, heq, hen, (Tbl.get_set (⟨0⟩ : Sampler) u.tm.samplers k k ⟨0⟩).trans (if_pos rfl), hframe.rest (u.setTm_only _ [])⟩

/-- With RAND_START the count starts at an open value below N. -/
theorem samplerEnable_draws {s : State} {k : Nat} (hrand : s.flag (Reg.BUF_SAMP_CFG k) Fld.BUF_SAMP_CFG_RAND_START = true) :
    ∃ t, samplerEnable k s = t ∧ t.flag (Reg.BUF_SAMP_CFG k) Fld.BUF_SAMP_CFG_EN = true
      ∧ (Tbl.get ⟨0⟩ t.tm.samplers k).count ≤ s.fld (Reg.BUF_SAMP_CFG k) Fld.BUF_SAMP_CFG_N_MINUS_1
      ∧ s.within t {a | a ∈ [Reg.BUF_SAMP_CFG k]} [.regs, .tm, .free] := by
  obtain ⟨u, hu⟩ : ∃ u, u = s.setFld (Reg.BUF_SAMP_CFG k) Fld.BUF_SAMP_CFG_EN 1 := ⟨_, rfl⟩
  obtain ⟨v, hv⟩ : ∃ v, v = u.draw.2 := ⟨_, rfl⟩
  have hen : u.flag (Reg.BUF_SAMP_CFG k) Fld.BUF_SAMP_CFG_EN = true := hu ▸ State.flag_setFld_one _ _ ⟨rfl, by decide⟩
  have hframe : s.within u {a | a ∈ [Reg.BUF_SAMP_CFG k]} [.regs, .tm, .free] := hu ▸ (State.within.refl s _ _).setFld _ _ _
  have hrand' : u.flag (Reg.BUF_SAMP_CFG k) Fld.BUF_SAMP_CFG_RAND_START = true :=
    hu ▸ (State.flag_setFld_disjoint _ _ _ (by decide)).trans hrand
  have hdrawn : u.onlyParts v [.free] := hv ▸ u.draw_rest
  have hreg : v.reg (Reg.BUF_SAMP_CFG k) = u.reg (Reg.BUF_SAMP_CFG k) := hdrawn.reg_eq (by decide) _
  have hn : u.fld (Reg.BUF_SAMP_CFG k) Fld.BUF_SAMP_CFG_N_MINUS_1 = s.fld (Reg.BUF_SAMP_CFG k) Fld.BUF_SAMP_CFG_N_MINUS_1 :=
    hu ▸ State.fld_setFld_disjoint _ _ _ (by decide)
  obtain ⟨n, hcount⟩ : ∃ n, n = u.draw.1.toNat % (u.fld (Reg.BUF_SAMP_CFG k) Fld.BUF_SAMP_CFG_N_MINUS_1 + 1) := ⟨_, rfl⟩
  have hvfld : v.fld (Reg.BUF_SAMP_CFG k) Fld.BUF_SAMP_CFG_N_MINUS_1 = u.fld (Reg.BUF_SAMP_CFG k) Fld.BUF_SAMP_CFG_N_MINUS_1 :=
    State.fld_of_reg hreg _
  have heq : samplerEnable k s = { v with tm := { v.tm with samplers := Tbl.set ⟨0⟩ v.tm.samplers k ⟨n⟩ } } := by
    unfold samplerEnable
    dsimp only
    rw [← hu, if_pos hrand', ← hv, hcount]
  refine ⟨_, heq, (State.flag_of_reg hreg _).trans hen, ?_, (hframe.rest hdrawn).rest (v.setTm_only _ [])⟩
  have hshows : Tbl.get ⟨0⟩ (Tbl.set ⟨0⟩ v.tm.samplers k ⟨n⟩) k = ⟨n⟩ := by rw [Tbl.get_set, if_pos rfl]
  have hbelow : n < u.fld (Reg.BUF_SAMP_CFG k) Fld.BUF_SAMP_CFG_N_MINUS_1 + 1 := hcount ▸ Nat.mod_lt _ (Nat.succ_pos _)
  exact (congrArg Sampler.count hshows).trans_le (Nat.le_of_lt_succ (hn ▸ hbelow))

/-! ### Multicast groups (R307) -/

/-- MCG_CMD shows a group, a TM and a QMASK. -/
def State.mcgShow (s : State) (g q mask : Nat) : State :=
  ((s.setFld Reg.BUF_MCG_CMD Fld.BUF_MCG_CMD_GROUP g).setFld Reg.BUF_MCG_CMD Fld.BUF_MCG_CMD_QUAD q).setFld
    Reg.BUF_MCG_CMD Fld.BUF_MCG_CMD_QMASK mask

theorem State.mcgShow_within (s : State) (g q mask : Nat) : s.within (s.mcgShow g q mask) {a | a ∈ [Reg.BUF_MCG_CMD]} [.regs] :=
  (((State.within.refl s _ _).setFld _ _ _).setFld _ _ _).setFld _ _ _

theorem mcgRead_reads (s : State) (g q : Nat) : ∃ t, mcgRead g q s = t
    ∧ t.reg Reg.BUF_MCG_DATA0 = (Tbl.get 0#128 s.tm.members (65536 * q + g)).setWidth 64
    ∧ t.reg Reg.BUF_MCG_DATA1 = ((Tbl.get 0#128 s.tm.members (65536 * q + g)) >>> 64).setWidth 64
    ∧ s.within t {a | a ∈ [Reg.BUF_MCG_DATA0, Reg.BUF_MCG_DATA1, Reg.BUF_MCG_CMD]} [.regs] := by
  have hshown : s.within (s.mcgShow g q (s.groupMask g)) {a | a ∈ [Reg.BUF_MCG_DATA0, Reg.BUF_MCG_DATA1, Reg.BUF_MCG_CMD]} [.regs] :=
    (s.mcgShow_within g q _).mono (by simp) (by simp)
  exact ⟨_, rfl, (State.reg_setReg_other _ _ (by decide)).trans (State.reg_setReg_self _ _ _), State.reg_setReg_self _ _ _,
    (hshown.setReg _ _).setReg _ _⟩

/-- The QMASK bit of a TM after a write: set where the bitmap has a member. -/
theorem testBit_qmask (old : Nat) {q : Nat} (hq : q < 4) (none : Prop) [Decidable none] :
    (if none then old &&& (15 - 2 ^ q) else old ||| 2 ^ q).testBit q = false ↔ none := by
  have hclear : (15 - 2 ^ q).testBit q = false := by interval_cases q <;> decide
  by_cases h : none
  · simp [h, hclear]
  · simp [h]

theorem mcgWrite_writes (s : State) {g q : Nat} (hq : q < 4) : ∃ t, mcgWrite g q s = t
    ∧ Tbl.get 0#128 t.tm.members (65536 * q + g) = ((s.reg Reg.BUF_MCG_DATA1).setWidth 128 <<< 64 ||| (s.reg Reg.BUF_MCG_DATA0).setWidth 128)
    ∧ ((t.groupMask g).testBit q = false ↔ Tbl.get 0#128 t.tm.members (65536 * q + g) = 0)
    ∧ s.within t {a | a ∈ [Reg.BUF_MCG_CMD]} [.regs, .tm] := by
  obtain ⟨m, hm⟩ : ∃ m : BitVec 128, m = (s.reg Reg.BUF_MCG_DATA1).setWidth 128 <<< 64 ||| (s.reg Reg.BUF_MCG_DATA0).setWidth 128 := ⟨_, rfl⟩
  obtain ⟨mask, hmask⟩ : ∃ mask, mask = if m = 0 then s.groupMask g &&& (15 - 2 ^ q) else s.groupMask g ||| 2 ^ q := ⟨_, rfl⟩
  obtain ⟨x, hx⟩ : ∃ x : TmSt, x = { s.tm with members := Tbl.set 0#128 s.tm.members (65536 * q + g) m, qmask := Tbl.set 0 s.tm.qmask g mask } :=
    ⟨_, rfl⟩
  obtain ⟨u, hu⟩ : ∃ u : State, u = { s with tm := x } := ⟨_, rfl⟩
  have heq : mcgWrite g q s = u.mcgShow g q mask := by
    rw [hu, hx, hmask, hm]
    rfl
  have hshown := u.mcgShow_within g q mask
  have htm : (u.mcgShow g q mask).tm = u.tm := hshown.2.2 .tm (by decide)
  have hmembers : Tbl.get 0#128 (u.mcgShow g q mask).tm.members (65536 * q + g) = m := by
    rw [htm, hu, hx, Tbl.get_set, if_pos rfl]
  have hgroup : (u.mcgShow g q mask).groupMask g = mask := by
    rw [State.groupMask, htm, hu, hx, Tbl.get_set, if_pos rfl]
  have hstored : s.onlyParts u [.tm] := hu ▸ s.setTm_only _ []
  refine ⟨_, heq, hmembers.trans hm, ?_, ((State.within.refl s _ _).rest hstored).trans (hshown.parts (by decide))⟩
  rw [hmembers, hgroup, hmask]
  exact testBit_qmask _ hq _

/-! ### Next-hop entries (R330) -/

theorem nhRead_reads (s : State) (q i : Nat) : ∃ t, nhRead q i s = t
    ∧ t.reg (Reg.TMG_NH_DATA q 0) = (s.nextHop q i).n0 ∧ t.reg (Reg.TMG_NH_DATA q 1) = (s.nextHop q i).n1
    ∧ t.reg (Reg.TMG_NH_DATA q 2) = (s.nextHop q i).n2 ∧ t.reg (Reg.TMG_NH_DATA q 3) = (s.nextHop q i).n3
    ∧ s.within t {a | a ∈ [Reg.TMG_NH_CMD q, Reg.TMG_NH_DATA q 0, Reg.TMG_NH_DATA q 1, Reg.TMG_NH_DATA q 2, Reg.TMG_NH_DATA q 3]} [.regs] := by
  have hne {i j : Nat} (h : i ≠ j) : Reg.TMG_NH_DATA q i ≠ Reg.TMG_NH_DATA q j := by
    simp only [Reg.TMG_NH_DATA]
    omega
  refine ⟨_, rfl, ?_, ?_, ?_, State.reg_setReg_self _ _ _,
    (((((State.within.refl s _ _).setFld _ _ _).setReg _ _).setReg _ _).setReg _ _).setReg _ _⟩
  · exact (State.reg_setReg_other _ _ (hne (by decide))).trans ((State.reg_setReg_other _ _ (hne (by decide))).trans
      ((State.reg_setReg_other _ _ (hne (by decide))).trans (State.reg_setReg_self _ _ _)))
  · exact (State.reg_setReg_other _ _ (hne (by decide))).trans ((State.reg_setReg_other _ _ (hne (by decide))).trans
      (State.reg_setReg_self _ _ _))
  · exact (State.reg_setReg_other _ _ (hne (by decide))).trans (State.reg_setReg_self _ _ _)

theorem nhWrite_writes (s : State) (q i : Nat) : ∃ t, nhWrite q i s = t
    ∧ t.nextHop q i = { n0 := s.reg (Reg.TMG_NH_DATA q 0), n1 := s.reg (Reg.TMG_NH_DATA q 1)
                        n2 := s.reg (Reg.TMG_NH_DATA q 2), n3 := s.reg (Reg.TMG_NH_DATA q 3) }
    ∧ (∀ j, j ≠ i → t.nextHop q j = s.nextHop q j) ∧ s.within t {a | a ∈ [Reg.TMG_NH_CMD q]} [.regs, .tm] := by
  have hshown : s.within (s.setFld (Reg.TMG_NH_CMD q) Fld.TMG_NH_CMD_INDEX i) {a | a ∈ [Reg.TMG_NH_CMD q]} [.regs, .tm] :=
    (State.within.refl s _ _).setFld _ _ _
  refine ⟨_, rfl, (Tbl.get_set _ _ _ _ _).trans (if_pos rfl), fun j hj => ?_, hshown.rest (State.setTm_only _ _ [])⟩
  exact (Tbl.get_set _ _ _ _ _).trans (if_neg (by omega))

/-! ### A queue's flush (R311) -/

theorem State.queue_setQueue (s : State) (q u v : Nat) (l : List Copy) :
    (s.setQueue q u l).queue q v = if v = u then l else s.queue q v := by
  rw [State.queue, State.setQueue, Tbl.get_set]
  by_cases h : v = u
  · rw [if_pos (by rw [h]), if_pos h]
  · rw [if_neg (by omega), if_neg h]
    rfl

theorem State.queue_of_tm {s t : State} (h : t.tm = s.tm) (q u : Nat) : t.queue q u = s.queue q u := by
  rw [State.queue, State.queue, h]

theorem State.emptyQueue_leaves (s : State) (q u : Nat) :
    (s.emptyQueue q u id).tm = (s.setQueue q u []).tm ∧ s.sendStep (s.emptyQueue q u id) := by
  unfold State.emptyQueue
  have hset := s.setQueue_sendStep q u []
  refine forEach_induct (fun t : State => t.tm = (s.setQueue q u []).tm ∧ s.sendStep t) _ _ _ ⟨rfl, hset⟩ fun c t _ ht => ?_
  obtain ⟨htm, hstep⟩ := ht
  have hbody := t.releaseBody_deliverStep q c
  have hcount : (t.releaseBody q c).sendStep ((t.releaseBody q c).qcnt q u 11) := State.bump_sendStep _ _
  exact ⟨(show (t.releaseBody q c).tm = t.tm from hbody.2 .tm (by decide)).trans htm, (hstep.trans hbody.sends).trans hcount⟩

theorem State.upset_only (s : State) (heads : List Nat) : s.onlyParts (s.upset heads) [.buf] := s.setBuf_only _

/-- Every copy of the queue goes, and no other queue's. -/
theorem queueFlush_flushes (s : State) {q u : Nat} (hu : u ≤ 655) (ue : List Nat) : ∃ t, queueFlush q u ue s = t
    ∧ t.queue q u = [] ∧ (∀ v, v ≠ u → t.queue q v = s.queue q v) ∧ s.onlyParts t (.buf :: sendParts) := by
  obtain ⟨v, hv⟩ : ∃ v, v = (s.upset ue).setFld (Reg.TMG_QCMD q) Fld.TMG_QCMD_QUEUE u := ⟨_, rfl⟩
  have hset : s.onlyParts v [.regs, .buf] := hv ▸ (State.onlyParts_mono (s.upset_only ue) (by simp)).setFld _ _ _
  obtain ⟨htm, hstep⟩ := v.emptyQueue_leaves q u
  have heq : queueFlush q u ue s = v.emptyQueue q u id := by
    unfold queueFlush
    dsimp only
    rw [if_neg (by omega), hv]
  refine ⟨_, heq, ?_, fun w hw => ?_, State.onlyParts_trans (State.onlyParts_mono hset (by decide))
    (State.onlyParts_mono hstep fun _ => List.mem_cons_of_mem _)⟩
  · rw [State.queue_of_tm htm, State.queue_setQueue, if_pos rfl]
  · rw [State.queue_of_tm htm, State.queue_setQueue, if_neg hw]
    exact State.queue_of_tm (hset.2 .tm (by decide)) q w

/-- A queue that does not exist shows ERR. -/
theorem queueFlush_refuses (s : State) {q u : Nat} (hu : 655 < u) (ue : List Nat) : ∃ t, queueFlush q u ue s = t
    ∧ t.flag (Reg.TMG_QCMD q) Fld.TMG_QCMD_ERR = true ∧ s.within t {a | a ∈ [Reg.TMG_QCMD q]} [.regs, .buf] := by
  have hset : s.within ((s.upset ue).setFld (Reg.TMG_QCMD q) Fld.TMG_QCMD_QUEUE u) {a | a ∈ [Reg.TMG_QCMD q]} [.regs, .buf] :=
    ((State.within.refl s _ _).rest (s.upset_only ue)).setFld _ _ _
  exact ⟨_, if_pos hu, State.flag_setFld_one _ _ ⟨rfl, by decide⟩, hset.setFld _ _ _⟩

end Sys2Proof.Machine
end

section
/-! PROOF. The TMs' frames (R296, R297, R301, R302, R308, R316): the pick of a queue's head, the copy of a descriptor that its
queue admits, and O35. -/

namespace Sys2Proof.Machine

set_option Elab.async false

/-! ### Picking (R316 to R318) -/

section
variable (s : State)

/-- The shapers' debit of a picked copy: nothing but buckets moves. -/
theorem State.debit_only (b : Bool) (k : Nat) (x : Int) :
    s.onlyParts (if b then s.setTokens k x else s) [.tm] ∧ (if b then s.setTokens k x else s).tm.queues = s.tm.queues := by
  cases b with
  | true => exact ⟨s.setTm_only _ [], rfl⟩
  | false => exact ⟨s.onlyParts_refl _, rfl⟩

theorem State.gaugePick_within (q u n : Nat) :
    s.within (s.gaugePick q u n) {Reg.TMG_GAUGE_LAST q u, Reg.TMG_GAUGE_MAX q u, Reg.TMG_GAUGE_SUM q u} [.regs] :=
  (((State.within.refl s _ _).setFld _ _ _).setFld _ _ _).setReg _ _

/-- The head of queue u goes to its port's FIFO of its class. -/
theorem State.pickFrom_moves {p u : Nat} {c : Copy} {r : List Copy} (hqueue : s.queue (quadOf p) u = c :: r) :
    ∃ t, s.pickFrom p u = t ∧ t.queue (quadOf p) u = r
      ∧ Tbl.get [] (t.port p).egr c.cls = Tbl.get [] (s.port p).egr c.cls ++ [c]
      ∧ Tbl.get 127 t.tm.lastPort (quadOf p) = p % 128
      ∧ t.reg (Reg.TMG_SCH_CNT (quadOf p) Cnt.TSCH_PICKS) = s.reg (Reg.TMG_SCH_CNT (quadOf p) Cnt.TSCH_PICKS) + 1
      ∧ s.onlyPort t p ∧ s.onlyParts t [.regs, .tm, .ports, .links] := by
  obtain ⟨k, hk⟩ : ∃ k, k = quadOf p := ⟨_, rfl⟩
  unfold State.pickFrom
  rw [← hk] at hqueue ⊢
  extract_lets q lp
  have hq : q = k := rfl
  clear_value q
  subst hq
  rw [hqueue]
  dsimp -zeta only
  extract_lets len counted gauged portDebit queueDebit credited tm rotated x
  obtain ⟨v, hv⟩ : ∃ v, v = s.setQueue q u r := ⟨_, rfl⟩
  obtain ⟨w, hw⟩ : ∃ w, w = (((v.qcnt q u 2).tschBump q Cnt.TSCH_PICKS)).gaugePick q u
    (((v.qcnt q u 2).tschBump q Cnt.TSCH_PICKS).clk.mono - c.mono) := ⟨_, rfl⟩
  have hgauged : gauged = w := by rw [hw, hv]
  have hqueues : s.onlyParts v [.tm] := hv ▸ s.setTm_only _ []
  have hcounts : v.onlyParts w [.regs] := by
    rw [hw]
    exact State.onlyParts_trans (State.onlyParts_trans (State.bump_rest _ _) (State.bump_rest _ _)) (State.gaugePick_within _ _ _ _).2
  have hpicks : w.reg (Reg.TMG_SCH_CNT q Cnt.TSCH_PICKS) = s.reg (Reg.TMG_SCH_CNT q Cnt.TSCH_PICKS) + 1 := by
    have hgauge := (State.gaugePick_within ((v.qcnt q u 2).tschBump q Cnt.TSCH_PICKS) q u
      (((v.qcnt q u 2).tschBump q Cnt.TSCH_PICKS).clk.mono - c.mono)).1 (Reg.TMG_SCH_CNT q Cnt.TSCH_PICKS) (by
        simp only [Set.mem_insert_iff, Set.mem_singleton_iff, Reg.TMG_SCH_CNT, Reg.TMG_GAUGE_LAST, Reg.TMG_GAUGE_MAX, Reg.TMG_GAUGE_SUM,
          Cnt.TSCH_PICKS]
        omega)
    have hqcnt : (v.qcnt q u 2).reg (Reg.TMG_SCH_CNT q Cnt.TSCH_PICKS) = v.reg (Reg.TMG_SCH_CNT q Cnt.TSCH_PICKS) :=
      State.reg_bump_other _ (by
        simp only [Reg.TMG_SCH_CNT, Reg.TMG_QCNT, Cnt.TSCH_PICKS]
        omega)
    rw [hw, hgauge, ← hqueues.reg_eq (by decide), ← hqcnt]
    exact State.reg_bump_self _ _
  obtain ⟨hport, hportQueues⟩ : gauged.onlyParts portDebit [.tm] ∧ portDebit.tm.queues = gauged.tm.queues := gauged.debit_only _ _ _
  obtain ⟨hshape, hshapeQueues⟩ : portDebit.onlyParts queueDebit [.tm] ∧ queueDebit.tm.queues = portDebit.tm.queues := portDebit.debit_only _ _ _
  have hcredit : queueDebit.onlyParts credited [.links] := State.useCredit_rest _ _ _
  have hrotated : credited.onlyParts rotated [.tm] := State.setTm_only _ _ []
  have hturn : Tbl.get 127 rotated.tm.lastPort q = p % 128 := (Tbl.get_set 127 credited.tm.lastPort q q lp).trans (if_pos rfl)
  have hleft : rotated.tm.queues = v.tm.queues := by
    have hcreditTm : credited.tm = queueDebit.tm := hcredit.2 .tm (by decide)
    have hcountTm : w.tm = v.tm := hcounts.2 .tm (by decide)
    calc rotated.tm.queues = credited.tm.queues := rfl
      _ = queueDebit.tm.queues := congrArg TmSt.queues hcreditTm
      _ = gauged.tm.queues := hshapeQueues.trans hportQueues
      _ = v.tm.queues := by rw [hgauged, hcountTm]
  have hdebits : w.onlyParts rotated [.tm, .links] := by
    rw [← hgauged]
    exact State.onlyParts_trans (State.onlyParts_mono (State.onlyParts_trans hport hshape) (by simp))
      (State.onlyParts_trans (State.onlyParts_mono hcredit (by simp)) (State.onlyParts_mono hrotated (by simp)))
  have hall : s.onlyParts rotated [.regs, .tm, .links] := State.onlyParts_trans (State.onlyParts_mono hqueues (by simp))
    (State.onlyParts_trans (State.onlyParts_mono hcounts (by simp)) (State.onlyParts_mono hdebits (by decide)))
  have hsame : x = s.port p := hall.port_eq (by decide) p
  clear_value rotated x
  refine ⟨_, rfl, ?_, ?_, hturn, ?_, ?_, State.onlyParts_trans (State.onlyParts_mono hall (by simp))
    (State.onlyParts_mono (rotated.setPort_rest p _) (by simp))⟩
  · rw [State.queue_of_tm (rotated.setPort_rest p _ |>.2 .tm (by decide)), State.queue, hleft, hv, ← State.queue, State.queue_setQueue, if_pos rfl]
  · rw [State.port_setPort_self, hsame, Tbl.get_set, if_pos rfl]
  · exact ((rotated.setPort_rest p _).reg_eq (by decide) _).trans ((hdebits.reg_eq (by decide) _).trans hpicks)
  · exact State.onlyPort_trans (hall.onlyPort (by decide) p) (rotated.onlyPort_setPort p _)

end

/-- The port that picks next is one of the TM's. -/
theorem quadOf_picked {q l p : Nat} {f : Nat → Bool}
    (h : ((List.range 128).map (fun i => 128 * q + (l + 1 + i) % 128)).find? f = some p) : quadOf p = q := by
  obtain ⟨i, -, hp⟩ := List.mem_map.1 (List.mem_of_find?_eq_some h)
  rw [quadOf, ← hp]
  omega

theorem tmPick_moves {s : State} {q p u : Nat} {c : Copy} {r : List Copy}
    (hport : ((List.range 128).map (fun i => 128 * q + (Tbl.get 127 s.tm.lastPort q + 1 + i) % 128)).find?
      (fun p => (s.pickQueue p).isSome) = some p) (hpick : s.pickQueue p = some u) (hqueue : s.queue q u = c :: r) :
    ∃ t, tmPick q s = t ∧ t.queue q u = r ∧ Tbl.get [] (t.port p).egr c.cls = Tbl.get [] (s.port p).egr c.cls ++ [c]
      ∧ Tbl.get 127 t.tm.lastPort q = p % 128
      ∧ t.reg (Reg.TMG_SCH_CNT q Cnt.TSCH_PICKS) = s.reg (Reg.TMG_SCH_CNT q Cnt.TSCH_PICKS) + 1
      ∧ s.onlyPort t p ∧ s.onlyParts t [.regs, .tm, .ports, .links] := by
  have hquad := quadOf_picked hport
  have hmoves := s.pickFrom_moves (p := p) (u := u) (c := c) (r := r) (by rw [hquad]; exact hqueue)
  rw [hquad] at hmoves
  have heq : tmPick q s = s.pickFrom p u := by
    unfold tmPick
    dsimp only
    rw [hport]
    dsimp only
    rw [hpick]
  rw [heq]
  exact hmoves

/-! ### A copy that its queue admits (R301, R302) -/

/-- A unicast descriptor of TM q without mirror or sample copy there, whose queue has room below Q_MIN. -/
structure State.admits (s : State) (q : Nat) (d : Desc) : Prop where
  own : d.own = true
  disp : d.res0.get r0Disp = 0
  mcast : d.res0.get r0Mcast = 0
  mirror : s.mirrorQuad d ≠ some q
  sample : s.sampleQuad d ≠ some q
  port : d.res0.get r0Egress < 512
  away : d.res0.get r0Egress ≠ sumGet d.summary sumInPort
  rate : s.rate (d.res0.get r0Egress) ≠ 0
  enabled : s.enableBit (d.res0.get r0Egress) = true
  store : s.descInUse q < 1048576
  belowMax : depthOf (s.queue q (s.ucQueue (d.res0.get r0Egress) (d.res0.get r0Qclass))) + d.cellCnt
    ≤ s.fld (Reg.TMG_QCFG0 q (s.ucQueue (d.res0.get r0Egress) (d.res0.get r0Qclass))) Fld.TMG_QCFG0_Q_MAX
  belowMin : depthOf (s.queue q (s.ucQueue (d.res0.get r0Egress) (d.res0.get r0Qclass))) + d.cellCnt
    ≤ s.fld (Reg.TMG_QCFG0 q (s.ucQueue (d.res0.get r0Egress) (d.res0.get r0Qclass))) Fld.TMG_QCFG0_Q_MIN

/-- The unicast queue of a descriptor. -/
def State.descQueue (s : State) (d : Desc) : Nat := s.ucQueue (d.res0.get r0Egress) (d.res0.get r0Qclass)

theorem State.descQueue_lt (s : State) (d : Desc) : s.descQueue d < 512 := by
  have hclass : d.res0.get r0Qclass < 8 := Word64.get_lt _ _
  unfold State.descQueue State.ucQueue
  split <;> omega

section
variable {s t : State} {q : Nat} {d : Desc}

theorem State.mirrorQuad_congr (h : t.reg Reg.BUF_MIRROR = s.reg Reg.BUF_MIRROR) (d : Desc) : t.mirrorQuad d = s.mirrorQuad d := by
  simp only [State.mirrorQuad, State.flag_of_reg h, State.fld_of_reg h]

theorem State.sampleQuad_congr (d : Desc) (h : t.reg (Reg.BUF_SAMP_CFG d.sampler) = s.reg (Reg.BUF_SAMP_CFG d.sampler)) :
    t.sampleQuad d = s.sampleQuad d := by
  simp only [State.sampleQuad, State.fld_of_reg h]

theorem State.mode_congr {n : Nat} (h : t.reg (Reg.PRT_CTL n) = s.reg (Reg.PRT_CTL n)) : t.mode n = s.mode n := State.fld_of_reg h _

theorem State.descQueue_congr (h : t.reg (Reg.PRT_CTL (d.res0.get r0Egress / 2)) = s.reg (Reg.PRT_CTL (d.res0.get r0Egress / 2))) :
    t.descQueue d = s.descQueue d := by
  simp only [State.descQueue, State.ucQueue, State.mode_congr h]

/-- Admission reads queues and configuration: not the counters of descriptors and copies. -/
theorem State.admits.congr (h : s.admits q d) (hq : q < 4)
    (hregs : ∀ a, a ≠ Reg.TMG_CNT q Cnt.TMG_DESC_IN → a ≠ Reg.TMG_CNT q Cnt.TMG_COPIES_DECIDED → t.reg a = s.reg a)
    (hqueues : t.tm.queues = s.tm.queues) : t.admits q d := by
  have hport := h.port
  have hmirror : t.reg Reg.BUF_MIRROR = s.reg Reg.BUF_MIRROR := hregs _
    (by simp only [Reg.BUF_MIRROR, Reg.TMG_CNT, Cnt.TMG_DESC_IN]; omega)
    (by simp only [Reg.BUF_MIRROR, Reg.TMG_CNT, Cnt.TMG_COPIES_DECIDED]; omega)
  have hsample : t.reg (Reg.BUF_SAMP_CFG d.sampler) = s.reg (Reg.BUF_SAMP_CFG d.sampler) := hregs _
    (by simp only [Reg.BUF_SAMP_CFG, Reg.TMG_CNT, Cnt.TMG_DESC_IN]; omega)
    (by simp only [Reg.BUF_SAMP_CFG, Reg.TMG_CNT, Cnt.TMG_COPIES_DECIDED]; omega)
  have hctl : t.reg (Reg.PRT_CTL (d.res0.get r0Egress / 2)) = s.reg (Reg.PRT_CTL (d.res0.get r0Egress / 2)) := hregs _
    (by simp only [Reg.PRT_CTL, Reg.TMG_CNT, Cnt.TMG_DESC_IN]; omega)
    (by simp only [Reg.PRT_CTL, Reg.TMG_CNT, Cnt.TMG_COPIES_DECIDED]; omega)
  have hcfg (u : Nat) : t.reg (Reg.TMG_QCFG0 q u) = s.reg (Reg.TMG_QCFG0 q u) := hregs _
    (by simp only [Reg.TMG_QCFG0, Reg.TMG_CNT, Cnt.TMG_DESC_IN]; omega)
    (by simp only [Reg.TMG_QCFG0, Reg.TMG_CNT, Cnt.TMG_COPIES_DECIDED]; omega)
  have hqueue (u : Nat) : t.queue q u = s.queue q u := by rw [State.queue, State.queue, hqueues]
  have huc : t.ucQueue (d.res0.get r0Egress) (d.res0.get r0Qclass) = s.ucQueue (d.res0.get r0Egress) (d.res0.get r0Qclass) :=
    State.descQueue_congr hctl
  exact {
    own := h.own
    disp := h.disp
    mcast := h.mcast
    mirror := by rw [State.mirrorQuad_congr hmirror]; exact h.mirror
    sample := by rw [State.sampleQuad_congr d hsample]; exact h.sample
    port := hport
    away := h.away
    rate := by rw [State.rate, State.mode_congr hctl]; exact h.rate
    enabled := (State.flag_of_reg hctl _).trans h.enabled
    store := by rw [State.descInUse, hqueues]; exact h.store
    belowMax := by rw [huc, hqueue, State.fld_of_reg (hcfg _)]; exact h.belowMax
    belowMin := by rw [huc, hqueue, State.fld_of_reg (hcfg _)]; exact h.belowMin }

theorem State.admits.tmgBump (h : s.admits q d) (hq : q < 4) {i : Nat} (hi : i = Cnt.TMG_DESC_IN ∨ i = Cnt.TMG_COPIES_DECIDED) :
    (s.tmgBump q i).admits q d :=
  h.congr hq (fun a h0 h1 => State.reg_bump_other _ (by
    obtain rfl | rfl := hi
    · exact h0
    · exact h1)) rfl

/-- The copy of a descriptor that its queue admits. -/
def Desc.copyOf (d : Desc) : Copy := refCopy d (d.res0.get r0Egress) (d.res0.get r0Qclass) false

theorem State.admits.admitCopy (h : s.admits q d) (hq : q < 4) (f : Nat) :
    s.admitCopy q (s.descQueue d) f d.copyOf = (true, (s.tmgBump q Cnt.TMG_COPIES_DECIDED).enqueue q (s.descQueue d) d.copyOf false) := by
  obtain ⟨u, hu⟩ : ∃ u, u = s.descQueue d := ⟨_, rfl⟩
  obtain ⟨t, ht⟩ : ∃ t, t = s.tmgBump q Cnt.TMG_COPIES_DECIDED := ⟨_, rfl⟩
  have hcounted : t.admits q d := ht ▸ h.tmgBump hq (.inr rfl)
  have hport := h.port
  have hctl : t.reg (Reg.PRT_CTL (d.res0.get r0Egress / 2)) = s.reg (Reg.PRT_CTL (d.res0.get r0Egress / 2)) :=
    ht ▸ State.reg_bump_other _ (by simp only [Reg.PRT_CTL, Reg.TMG_CNT, Cnt.TMG_COPIES_DECIDED]; omega)
  have huc : t.ucQueue (d.res0.get r0Egress) (d.res0.get r0Qclass) = u := (State.descQueue_congr hctl).trans hu.symm
  have hmax := hcounted.belowMax
  have hmin := hcounted.belowMin
  rw [huc] at hmax hmin
  unfold State.admitCopy
  dsimp only
  rw [← hu, ← ht, if_neg (fun hback => h.away hback.2.2), if_neg ?_, if_neg (by have := hcounted.store; omega), if_neg ?_, if_pos ?_]
  · exact hmin
  · exact Nat.not_lt.2 hmax
  · rintro ⟨-, hzero | hoff⟩
    · exact hcounted.rate hzero
    · exact absurd hcounted.enabled (by simpa [Desc.copyOf, refCopy] using hoff)

/-- A copy that joins a queue moves its counters, the queue's maximum and the store's. -/
theorem State.enqueue_joins (s : State) (q u : Nat) (c : Copy) :
    (s.enqueue q u c false).tm = (s.setQueue q u (s.queue q u ++ [{ c with ce := false, mono := s.clk.mono }])).tm
      ∧ s.within (s.enqueue q u c false) {Reg.TMG_QCNT q u 0, Reg.TMG_QCNT q u 1, Reg.TMG_GAUGE_MAX q u, Reg.TMG_DESC q} [.regs, .tm] := by
  obtain ⟨v, hv⟩ : ∃ v, v = s.setQueue q u (s.queue q u ++ [{ c with ce := false, mono := s.clk.mono }]) := ⟨_, rfl⟩
  have hset : s.onlyParts v [.tm] := hv ▸ s.setTm_only _ []
  have hcounts : v.within (s.enqueue q u c false)
      {Reg.TMG_QCNT q u 0, Reg.TMG_QCNT q u 1, Reg.TMG_GAUGE_MAX q u, Reg.TMG_DESC q} [.regs] := by
    unfold State.enqueue
    simp only [Bool.false_eq_true, if_false]
    rw [← hv]
    exact ((((State.within.refl v _ _).bump _).setReg _ _).setFld _ _ _).setFld _ _ _
  rw [← hv]
  exact ⟨hcounts.2.2 .tm (by decide), ((State.within.refl s _ _).rest hset).trans (hcounts.parts (by simp))⟩

/-- What the reference of a handled descriptor, and the drain of its slice, leave. -/
theorem State.handled_only (s : State) (d : Desc) (n : Nat) :
    ∃ t, (if 16 ≤ d.src then ((s.addRefs d.cellHead n).markQueued d.cellHead d.cellCnt).drainSub (d.src - 16) d.gen
        else (s.addRefs d.cellHead n).markQueued d.cellHead d.cellCnt) = t ∧ s.onlyParts t [.regs, .fault, .buf] := by
  have hrefs : s.onlyParts (s.addRefs d.cellHead n) [.regs, .fault, .buf] :=
    State.onlyParts_trans (s.readFrameEntry_gaveBack d.cellHead).1 (State.onlyParts_mono (State.setBuf_only _ _) (by simp))
  have hmarked : (s.addRefs d.cellHead n).onlyParts ((s.addRefs d.cellHead n).markQueued d.cellHead d.cellCnt) [.buf] :=
    forEach_onlyParts (fun c t => by
      split
      · exact t.setBuf_only _
      · exact t.onlyParts_refl _) _ _
  have hall := State.onlyParts_trans hrefs (State.onlyParts_mono hmarked (by simp))
  refine ⟨_, rfl, ?_⟩
  split
  · exact State.onlyParts_trans hall (State.onlyParts_mono (State.drainSub_rest _ _ _) (by simp))
  · exact hall

/-- A descriptor that its queue admits joins it, and nothing else of the TMs moves. -/
theorem State.admits.handleDesc (h : s.admits q d) (hq : q < 4) (e : CellEcc) :
    ∃ t, s.handleDesc q d e = t
      ∧ t.tm = (s.setQueue q (s.descQueue d) (s.queue q (s.descQueue d) ++ [{ d.copyOf with mono := s.clk.mono }])).tm
      ∧ s.onlyParts t [.regs, .fault, .buf, .tm] := by
  obtain ⟨v, hv⟩ : ∃ v, v = s.tmgBump q Cnt.TMG_DESC_IN := ⟨_, rfl⟩
  have hport := h.port
  have hadmits : v.admits q d := hv ▸ h.tmgBump hq (.inl rfl)
  have hctl : v.reg (Reg.PRT_CTL (d.res0.get r0Egress / 2)) = s.reg (Reg.PRT_CTL (d.res0.get r0Egress / 2)) :=
    hv ▸ State.reg_bump_other _ (by simp only [Reg.PRT_CTL, Reg.TMG_CNT, Cnt.TMG_DESC_IN]; omega)
  have hqueue : v.descQueue d = s.descQueue d := State.descQueue_congr hctl
  obtain ⟨w, hw⟩ : ∃ w, w = v.tmgBump q Cnt.TMG_COPIES_DECIDED := ⟨_, rfl⟩
  have hdecided : w.admits q d := hw ▸ hadmits.tmgBump hq (.inr rfl)
  obtain ⟨x, hx⟩ : ∃ x, x = w.enqueue q (v.descQueue d) d.copyOf false := ⟨_, rfl⟩
  obtain ⟨hjoined, hframe⟩ := w.enqueue_joins q (v.descQueue d) d.copyOf
  rw [← hx] at hjoined hframe
  have hown (f : Nat) : v.ownCopies q f d = (1, x) := by
    unfold State.ownCopies
    dsimp only
    rw [if_neg (by rw [h.mcast]; simp), if_pos h.disp, if_pos h.disp]
    have hcopy := hadmits.admitCopy hq f
    rw [← hw, ← hx] at hcopy
    rw [show v.admitCopy q (v.ucQueue (d.res0.get r0Egress) (d.res0.get r0Qclass)) f
      (refCopy d (d.res0.get r0Egress) (d.res0.get r0Qclass) false) = (true, x) from hcopy]
    rfl
  have hlt := v.descQueue_lt d
  have hkeeps {a : Nat} (ha : 0x6000000 ≤ a) : x.reg a = w.reg a := hframe.1 a (by
    simp only [Set.mem_insert_iff, Set.mem_singleton_iff, Reg.TMG_QCNT, Reg.TMG_GAUGE_MAX, Reg.TMG_DESC]
    omega)
  have hmirror (f : Nat) : x.mirrorCopy q f d e = (0, x) := by
    unfold State.mirrorCopy
    rw [if_neg (by rw [State.mirrorQuad_congr (hkeeps (by decide))]; exact hdecided.mirror)]
  have hsample (f : Nat) : x.sampleCopy q f d e = (0, x) := by
    unfold State.sampleCopy
    rw [if_neg (by
      rw [State.sampleQuad_congr d (hkeeps (by simp only [Reg.BUF_SAMP_CFG]; omega))]
      exact hdecided.sample)]
  obtain ⟨t, ht, hrest⟩ := x.handled_only d 0
  have heq : s.handleDesc q d e = t := by
    unfold State.handleDesc
    dsimp only
    rw [if_pos (show d.res0.get r0Disp = 0 ∨ d.res0.get r0Disp = 2 ∨ d.res0.get r0Disp = 1 ∧ d.sampled = true from .inl h.disp), ← hv,
      if_pos (show d.own = true ∧ (d.res0.get r0Disp = 0 ∨ d.res0.get r0Disp = 2) from ⟨h.own, .inl h.disp⟩), hown]
    dsimp only
    rw [hmirror]
    dsimp only
    rw [hsample]
    exact ht
  have htm : t.tm = x.tm := hrest.2 .tm (by decide)
  have hbumps : s.onlyParts w [.regs] := by
    rw [hw, hv]
    exact State.onlyParts_trans (State.bump_rest _ _) (State.bump_rest _ _)
  have hwtm : w.tm = s.tm := hbumps.2 .tm (by decide)
  refine ⟨t, heq, ?_, State.onlyParts_trans (State.onlyParts_mono hbumps (by simp)) (State.onlyParts_trans
    (State.onlyParts_mono hframe.2 (by simp)) (State.onlyParts_mono hrest (by simp)))⟩
  rw [htm, hjoined, hqueue, State.setQueue, State.setQueue, State.queue, State.queue, hwtm, hbumps.clk_eq (by decide)]
  rfl

/-- The head descriptor of the input served next leaves it and gives back its entry. -/
theorem tmDescriptorTake_joins {i : Nat} {r : List Desc} (hq : q < 4) (hup : s.down (unitTm q) = false) (hin : s.nextInput q = some i)
    (hget : Tbl.get [] s.tm.relIn (32 * q + i) = d :: r) (h : s.admits q d) (e : CellEcc) (ft : Bool) (ue : List Nat) :
    ∃ t, tmDescriptorTake q e ft ue s = t
      ∧ t.queue q (s.descQueue d) = s.queue q (s.descQueue d) ++ [{ d.copyOf with mono := s.clk.mono }]
      ∧ Tbl.get [] t.tm.relIn (32 * q + i) = r
      ∧ (t.link (lnkRelease i q)).owed = (s.link (lnkRelease i q)).owed + 1
      ∧ (∀ v, v ≠ s.descQueue d → t.queue q v = s.queue q v)
      ∧ s.onlyParts t [.regs, .fault, .links, .buf, .tm] := by
  obtain ⟨y, hy⟩ : ∃ y : TmSt, y = { s.tm with relIn := Tbl.set [] s.tm.relIn (32 * q + i) r, lastIn := Tbl.set 31 s.tm.lastIn q i } :=
    ⟨_, rfl⟩
  obtain ⟨a, ha⟩ : ∃ a : State, a = { s with tm := y } := ⟨_, rfl⟩
  obtain ⟨b, hb⟩ : ∃ b, b = a.freeEntry (lnkRelease i q) 1 := ⟨_, rfl⟩
  obtain ⟨v, hv⟩ : ∃ v, v = (if ft then b.upset [d.cellHead] else b).upset ue := ⟨_, rfl⟩
  have htaken : s.onlyParts a [.tm] := ha ▸ s.setTm_only y []
  have hfreed : a.onlyParts b [.links] := hb ▸ a.freeEntry_rest _ _
  have hupset : b.onlyParts v [.buf] := by
    rw [hv]
    cases ft with
    | true => exact State.onlyParts_trans (b.upset_only _) (State.upset_only _ _)
    | false => exact b.upset_only _
  have hrest : s.onlyParts v [.links, .buf, .tm] := State.onlyParts_trans (State.onlyParts_mono htaken (by simp))
    (State.onlyParts_trans (State.onlyParts_mono hfreed (by simp)) (State.onlyParts_mono hupset (by simp)))
  have htm : v.tm = y := by
    rw [show v.tm = b.tm from hupset.2 .tm (by decide), show b.tm = a.tm from hfreed.2 .tm (by decide), ha]
  have hqueues : v.tm.queues = s.tm.queues := by rw [htm, hy]
  have hqueue (u : Nat) : v.queue q u = s.queue q u := by rw [State.queue, State.queue, hqueues]
  have hadmits : v.admits q d := h.congr hq (fun _ _ _ => hrest.reg_eq (by decide) _) hqueues
  have hdesc : v.descQueue d = s.descQueue d := State.descQueue_congr (hrest.reg_eq (by decide) _)
  obtain ⟨t, ht, hjoined, hhandled⟩ := hadmits.handleDesc hq e
  rw [hdesc, hqueue, hrest.clk_eq (by decide)] at hjoined
  have heq : tmDescriptorTake q e ft ue s = t := by
    unfold tmDescriptorTake
    rw [if_neg (by rw [hup]; exact Bool.false_ne_true), hin]
    dsimp only
    rw [hget]
    dsimp only
    rw [← hy, ← ha, ← hb, ← hv]
    exact ht
  have howed : (v.link (lnkRelease i q)).owed = (s.link (lnkRelease i q)).owed + 1 := by
    rw [hupset.link_eq (by decide), hb, State.owed_freeEntry, htaken.link_eq (by decide)]
  refine ⟨t, heq, ?_, ?_, (congrArg Link.owed (hhandled.link_eq (by decide) _)).trans howed, fun u hu => ?_,
    State.onlyParts_trans (State.onlyParts_mono hrest (by simp)) (State.onlyParts_mono hhandled (by simp))⟩
  · rw [State.queue_of_tm hjoined, State.queue_setQueue, if_pos rfl]
  · rw [hjoined, State.setQueue, htm, hy, Tbl.get_set, if_pos rfl]
  · rw [State.queue_of_tm hjoined, State.queue_setQueue, if_neg hu, hqueue]

end

/-- Settles O35: descriptors, averages, shapers, picks, gauges and tables of the TMs. -/
theorem trafficManagers : Obligations.TrafficManagers := by
  unfold Obligations.TrafficManagers
  refine ⟨fun s q e ft ue i d r hup hin hget hown hdisp hmcast hmirror hsample hport haway hrate hen hstore => ?_, fun s k hrand => ?_,
    fun s k hrand => ?_, fun s q hup => ?_, fun s g q => ?_, fun s g q => ?_, fun s q u ue hu => ?_, fun s q u ue hu => ?_,
    fun s q p u c r hfind hpick hqueue => ?_, fun s q u x hu hwf hget => ?_, fun s q hup hper hdue => ?_, fun s q i => ?_, fun s q i => ?_⟩
  · intro u hmax hmin
    have hadmits : s.admits q.val d := ⟨hown, hdisp, hmcast, hmirror, hsample, hport, haway, hrate, hen, hstore, hmax, hmin⟩
    obtain ⟨t, heq, hjoined, hin', howed, hother, hrest⟩ := tmDescriptorTake_joins q.isLt hup hin hget hadmits e ft ue
    exact ⟨t, done_eq_next_of_eq heq hrest (by decide), hjoined, hin', howed, hother⟩
  · obtain ⟨t, heq, hon, hzero, hframe⟩ := samplerEnable_zero hrand
    exact ⟨t, done_eq_next_of_eq heq hframe.2 (by decide), hon, hzero, hframe.listed rfl, hframe.2⟩
  · obtain ⟨t, heq, hon, hcount, hframe⟩ := samplerEnable_draws hrand
    exact ⟨t, done_eq_next_of_eq heq hframe.2 (by decide), hon, hcount, hframe.listed rfl, hframe.2⟩
  · obtain ⟨t, heq, havg, hframe⟩ := wredAvgUpdate_moves hup
    exact ⟨t, done_eq_next_of_eq heq hframe.2 (by decide), havg, hframe.listed rfl, hframe.2⟩
  · obtain ⟨t, heq, hlow, hhigh, hframe⟩ := mcgRead_reads s g.val q.val
    exact ⟨t, done_eq_next_of_eq heq hframe.2 (by decide), hlow, hhigh, hframe.listed rfl, hframe.2⟩
  · obtain ⟨t, heq, hmembers, hmask, hframe⟩ := mcgWrite_writes s (g := g.val) q.isLt
    exact ⟨t, done_eq_next_of_eq heq hframe.2 (by decide), hmembers, hmask, hframe.listed rfl, hframe.2⟩
  · obtain ⟨t, heq, hempty, hother, hrest⟩ := queueFlush_flushes s hu ue
    exact ⟨t, done_eq_next_of_eq heq hrest (by decide), hempty, hother⟩
  · obtain ⟨t, heq, herr, hframe⟩ := queueFlush_refuses s hu ue
    exact ⟨t, done_eq_next_of_eq heq hframe.2 (by decide), herr, hframe.listed rfl, hframe.2⟩
  · obtain ⟨t, heq, hleft, hfifo, hturn, hcount, hport, hrest⟩ := tmPick_moves hfind hpick hqueue
    exact ⟨t, done_eq_next_of_eq heq hrest (by decide), hleft, hfifo, hturn, hcount, hport, hrest⟩
  · obtain ⟨t, heq, htokens, hrest⟩ := shaperRefill_gains q.isLt hu hwf hget
    exact ⟨t, done_eq_next_of_eq heq hrest (by decide), htokens, hrest⟩
  · obtain ⟨t, heq, hdepth, hbank, hseq, hrest⟩ := gaugeSweep_shows hup hper hdue
    exact ⟨t, done_eq_next_of_eq heq hrest (by decide), hdepth, hbank, hseq, hrest⟩
  · obtain ⟨t, heq, h0, h1, h2, h3, hframe⟩ := nhRead_reads s q.val i.val
    exact ⟨t, done_eq_next_of_eq heq hframe.2 (by decide), h0, h1, h2, h3, hframe.listed rfl, hframe.2⟩
  · obtain ⟨t, heq, hentry, hother, hframe⟩ := nhWrite_writes s q.val i.val
    exact ⟨t, done_eq_next_of_eq heq hframe.2 (by decide), hentry, hother, hframe.listed rfl, hframe.2⟩

end Sys2Proof.Machine
end
